-- ==== Sys2Proof/Word.lean ====
section
/-! DEFINITION. The word types of the model: a byte, a 64-bit register word, a configuration dword. -/

namespace Sys2Proof

/-- One byte. Every structure of the module is little-endian (R38). -/
abbrev Byte := BitVec 8

/-- A register of at most 64 bits. A 32-bit register keeps its upper half 0. -/
abbrev Word := BitVec 64

/-- A dword of configuration space, of an MSI-X table entry or of a Plumb image. -/
abbrev Dword := BitVec 32

end Sys2Proof
end

