-- ==== Sys2Proof/Types.lean ====
section
/-! DEFINITION. The types of the commands' operands (the opcode table gives its rows none: log entry 10). -/

namespace Sys2Proof

/-- Host port and its PF, H0 to H3. -/
abbrev HostId := Fin 4
/-- Joist port, JP0 to JP95. -/
abbrev PortId := Fin 96
/-- Lane `2p + l`: lane `l` of JPp. -/
abbrev LaneId := Fin 192
/-- Virtual channel of a Joist port. -/
abbrev VcId := Fin 8
/-- Bay, B0 to B23. -/
abbrev BayId := Fin 24
/-- Queue pair, QP0 to QP4095. -/
abbrev QId := Fin 4096
/-- Function index of R43. -/
abbrev FnId := Fin 1024
/-- Transfer engine, TE0 to TE47. -/
abbrev EngId := Fin 48
/-- Engine group, EG0 to EG5. -/
abbrev GroupId := Fin 6
/-- Global Peg source index of R376. -/
abbrev PegId := Fin 24576
/-- TXN context: 0 to 3 for PF0 to PF3, 4 for Ridge. -/
abbrev CtxId := Fin 5
/-- Power region: 0 to 38 as Plumb numbers them (R451), then 39 to 42 HMD0 to HMD3, 43 Ridge, 44 Sill. -/
abbrev RegionId := Fin 45

/-- Who makes a register access: a function through its BAR0 (R39), or Ridge on the register ring (R13). -/
inductive Agent where
  | fn (f : FnId)
  | ridge
  deriving DecidableEq, Repr

/-- The window of a register read: BAR0, which Ridge reads as well, or BAR2 with the doorbells and the MSI-X table (R42, R49,
R51, R54). -/
inductive Bar where
  | bar0 | bar2
  deriving DecidableEq, Repr

/-- Where a register read starts: the window and the byte offset in it. -/
structure ReadPlace where
  bar : Bar
  off : Nat
  deriving DecidableEq, Repr

/-- The extent of a register read: dwords, byte enables of the first and the last, and the request's tag (R39, R149). -/
structure ReadExtent where
  dws : Nat
  firstBe : BitVec 4
  lastBe : BitVec 4
  tag : Nat
  deriving DecidableEq, Repr

/-- The bytes of a host write, lowest address first; `none` is a byte whose enable is clear (R39). -/
abbrev WriteBytes := List (Option Byte)

/-- The three reads of one fuse word at mains power-up (R108). -/
structure FuseRead where
  nominal : Word
  tight : Word
  loose : Word
  deriving DecidableEq, Repr

/-- What the link partner and the cable allow when a host port trains (R135, R136). -/
structure LinkOffer where
  maxRate : Nat
  maxWidth : Nat
  workingLanes : Nat
  reversed : Bool
  flit : Bool
  refclkOk : Bool
  /-- The partner advertises equalisation bypass to highest rate (R137). -/
  eqBypass : Bool
  /-- What the partner's data link feature exchange offers, when there is one (R134). -/
  dlFeature : Option (BitVec 23)
  /-- The partner says that it needs no equalisation (R172). -/
  noEq : Bool
  /-- The partner supports L0p (R172). -/
  l0p : Bool
  /-- Rate codes at which the partner asks the port to transmit with precoding (R172). -/
  precode : List (Fin 7)
  /-- Transmitter presets that the partner's training sets give the lanes: rate code, lane and preset (R172). -/
  presets : List (Fin 7 × Fin 16 × BitVec 4)
  deriving DecidableEq, Repr

/-- How a completion from the host ends (R147, R160). -/
inductive CplStatus where
  | ok | unsupported | aborted | poisoned
  deriving DecidableEq, Repr

/-- What one PTM dialog measures, in ns (R154): the master time that the response gives for the arrival of the request, the time
from there to the response at the master, and the time from request to response at the port. -/
structure PtmTimes where
  master : Nat
  turnaround : Nat
  roundTrip : Nat
  deriving DecidableEq, Repr

/-- Failure of an IDE stream (R159). -/
inductive IdeFailure where
  | integrity | misrouted | pcrc
  deriving DecidableEq, Repr

/-- Group fault or corrected error of a transfer engine (R271). -/
inductive EngineFault where
  | holdParity | rdbufUe | rdbufCe
  deriving DecidableEq, Repr

/-- What an ECC check of one table entry finds (R222); `syndrome` is the raw syndrome. -/
inductive EccResult where
  | clean
  | corrected (syndrome : Word)
  | uncorrectable (syndrome : Word)
  deriving DecidableEq, Repr

/-- A lane word as its receiver has it, destuffed and descrambled: data, the BIP-8 that came with it, and whether a stuffing violation
fell in it or its scrambler seed is not known (R297, R301, R304). -/
structure RxUnit where
  data : BitVec 128
  bip : Byte
  violation : Bool
  deriving DecidableEq, Repr

/-- What a lane's line brings to its receiver: line bits in order, stuffed and scrambled as they come; `idle` tells that electrical idle
stood before them (R296, R300). -/
structure LineIn where
  idle : Bool
  bits : List Bool
  deriving DecidableEq, Repr

/-- Conditions reported as CHECKER_LOST (R411). -/
inductive CheckerFault where
  | comparatorA | comparatorB | delayParity | selfTestFailed
  deriving DecidableEq, Repr

/-- The 7-bit target address of an SMBus transfer (R69). -/
abbrev SmbusAddr := BitVec 7

/-- Who sends Ridge a command: PFh's mailbox, whose request is in MB_REQ, or MCTP with the SMBus address that it goes to and its
request bytes (R69, R427, R429). -/
inductive Caller where
  | mailbox (h : HostId)
  | mctp (target : SmbusAddr) (req : List Byte)
  deriving DecidableEq, Repr

/-- Transport of the SPDM responder (R419). -/
inductive Transport where
  | doe (h : HostId)
  | mctp (target : SmbusAddr)
  deriving DecidableEq, Repr

/-- IDE_KM message in a VENDOR_DEFINED_REQUEST (R158, R420). Streams: 0 link, 1 to 8 selective. -/
inductive IdeKm where
  | query
  | keyProg (stream : Fin 9) (keySet : Fin 2) (key : BitVec 256)
  | kSetGo (stream : Fin 9) (keySet : Fin 2)
  | kSetStop (stream : Fin 9) (keySet : Fin 2)
  deriving DecidableEq, Repr

/-- Sensor values that a Plumb pass latches (R439): inputs 0 to 53 in order, then the activity fractions of the engine
groups, of the bays and of the Truss slices. Inputs 62 and 63 come from the module's own state. -/
structure PlumbInputs where
  sensors : List Dword
  groups : List Dword
  bays : List Dword
  slices : List Dword
  deriving DecidableEq, Repr

/-- What the header of a received TLP says: format and type, length in bytes, requester, tag and address (R160; log entry 17). -/
structure TlpInfo where
  fmt : Byte
  len : Nat
  requester : BitVec 16
  tag : Nat
  addr : Nat
  deriving DecidableEq, Repr

/-- Lanes that a receiver error names: those whose receivers see it, and those with a data parity mismatch at the port and at the
first and the second retimer (R172; places of the Base Specification, log entry 17). -/
structure LaneErrors where
  lanes : BitVec 16
  parity : BitVec 16
  retimer1 : BitVec 16
  retimer2 : BitVec 16
  deriving DecidableEq, Repr

/-- A request or TLP that a host port turns away, with its header (R160). -/
inductive BadRequest where
  /-- Malformed TLP. -/
  | malformed (t : TlpInfo)
  /-- ECRC check failed. -/
  | ecrc (t : TlpInfo)
  /-- I/O, AtomicOp, locked, deferrable or PASID-carrying request, or one outside every BAR; `pasid` is the PASID that it
  carries. -/
  | unsupported (nonPosted : Bool) (pasid : Option (BitVec 20)) (t : TlpInfo)
  /-- Poisoned posted write. -/
  | poisonedWrite (t : TlpInfo)
  /-- Link-level errors, uncorrectable. -/
  | dataLinkProtocol | flowControlProtocol | receiverOverflow
  /-- Link-level errors, correctable. -/
  | receiverError (e : LaneErrors)
  | badTlp | badDllp | replayTimeout | replayRollover
  deriving DecidableEq, Repr

end Sys2Proof
end

