-- ==== Sys2Proof/Syntax.lean ====
section
/-! DEFINITION. The commands of the block: one constructor per row of spec/opcode_table.json. -/

namespace Sys2Proof

/-- The commands. Where a row names a register write that software makes, `by_` is who makes it. -/
inductive Instr where
  -- Power and start-up
  | mainsPowerUp (fuses : List FuseRead) (temp : Byte) (slotId : Fin 16)
  | bootScanComplete (factoryReadable : Bool)
  | plumbStartPermit
  | restoreStrobe
  | mainsLoss
  | modResetAsserted (lowNs : Nat) (slotId : Fin 16)
  | modResetReleased
  | standbyRecognised (lowNs : Nat)
  | standbyReleased (highNs : Nat)
  | ppsInEdge (highNs : Nat)
  | hardTrip
  | thermalShutdown
  | shutdownDeferralExpiry
  -- Host links
  | perstAsserted (h : HostId)
  | perstReleased (h : HostId)
  | cprsntChange (h : HostId) (present : Bool)
  | linkTrainingComplete (h : HostId) (offer : LinkOffer)
  | hotReset (h : HostId)
  | linkDown (h : HostId)
  -- Configuration space
  | configRead (h : HostId) (n : Fin 256) (dw : Fin 1024)
  | configWrite (h : HostId) (n : Fin 256) (dw : Fin 1024) (data : Dword) (be : BitVec 4) (busDev : BitVec 13)
  | initiateFlr (f : FnId)
  | flrComplete (f : FnId)
  | flrTagAbandon (h : HostId) (tag : Nat)
  | vfEnableSet (h : HostId)
  | vfEnableClear (h : HostId)
  | busMasterEnableClear (f : FnId)
  | busMasterEnableSet (f : FnId)
  | d3hotEntry (f : FnId)
  | resizableBarWrite (h : HostId) (vf : Bool) (size : BitVec 6)
  | msiMultipleMessageEnableWrite (e : Fin 8)
  | expansionRomRead (off : BitVec 16) (len : Nat)
  -- Host memory requests
  | windowRead (f : FnId) (addr : Nat) (dws : Nat) (firstBe lastBe : BitVec 4) (reqTag : Nat)
  | windowWrite (f : FnId) (addr : Nat) (data : List Byte) (firstBe lastBe : BitVec 4) (poisoned : Bool)
  | doorbell (f : FnId) (off len : Nat) (be : Byte) (value : Word)
  | hostCompletion (h : HostId) (tag : Nat) (status : CplStatus) (data : List Byte)
  | hostCompletionTimeout (h : HostId) (tag : Nat)
  | timedOutTagRelease (h : HostId) (tag : Nat)
  | hostTagGrant (h : HostId)
  -- Link power management, LTR, PTM
  | pmeTurnOff (h : HostId)
  | l1EntryRequest (h : HostId)
  | l1Exit (h : HostId)
  | l0pEvaluation (h : HostId) (use16 use2 : Nat)
  | ltrMessage (h : HostId)
  | hpLtrWrite (by_ : Agent) (h : HostId) (value : Word)
  | ptmDialog (h : HostId) (times : PtmTimes)
  | ptmContextExpiry (h : HostId)
  -- IDE
  | ideIntegrityFailure (h : HostId) (stream : Fin 9) (kind : IdeFailure)
  | query (h : HostId)
  | keyProg (h : HostId) (stream : Fin 9) (keySet : Fin 2) (key : BitVec 256)
  | kSetGo (h : HostId) (stream : Fin 9) (keySet : Fin 2)
  | kSetStop (h : HostId) (stream : Fin 9) (keySet : Fin 2)
  -- Dry-fit transactions and the RSS
  | txnBegin (c : CtxId)
  | commit (c : CtxId) (persist : Bool)
  | rollback (c : CtxId)
  | txnTimeout (c : CtxId)
  | retFieldWrite (by_ : Agent) (off : Nat) (bytes : WriteBytes)
  | commitStrobe (c : CtxId)
  | quiesceTimeout (c : CtxId)
  | persistComplete (c : CtxId)
  | rssWriteComplete
  | rssCompact (by_ : Agent)
  -- Queues
  | enable (by_ : Agent) (q : QId)
  | stop (by_ : Agent) (q : QId)
  | resume (by_ : Agent) (q : QId)
  | restart (by_ : Agent) (q : QId)
  | skip (by_ : Agent) (q : QId)
  | disable (by_ : Agent) (q : QId)
  | descriptorFetch
  | descriptorArrival (q : QId)
  | extensionArrival (q : QId)
  | completionEntryWrite (q : QId)
  | coalesceTimer (q : QId)
  -- Transfer engines
  | engineGrant (g : GroupId)
  | rateLimiterRelease (e : EngId)
  | drainComplete (e : EngId)
  | engineFault (e : EngId) (kind : EngineFault)
  | reserveGrant (p : PortId) (v : VcId)
  | ledgerScrub (found : EccResult)
  -- Power regions
  | regionWakeComplete (r : RegionId)
  | clockGateIdle (r : RegionId)
  | wakeToneDetected (p : PortId)
  -- Joist lanes
  | markerReceived (l : LaneId) (line : LineIn)
  | activePeriodOpen (p : PortId)
  | dozeKeepalive (p : PortId)
  | keepaliveMissing (l : LaneId)
  | jlTestEnable (by_ : Agent) (l : LaneId) (loop : Fin 4) (genEn chkEn : Bool) (pattern : Fin 4) (invert : Bool)
  -- Joist link layer
  | data (p : PortId) (lines : List LineIn)
  | idle (p : PortId) (lines : List LineIn)
  | idleInterval (p : PortId)
  | replayTimeout (p : PortId)
  | laneSet (p : PortId) (lines : List LineIn)
  | txMaskChange (p : PortId)
  | autoLaneDrop (p : PortId) (lane : Fin 2)
  | laneSetComplianceTimeout (p : PortId)
  | laneRelock (p : PortId)
  | lockLossTimeout (p : PortId)
  | wakeFail (p : PortId)
  | trainTimeout (p : PortId)
  | downHoldExpiry (p : PortId)
  | localResetRelease (p : PortId)
  | dozeEntry (p : PortId)
  | sleepIdle (p : PortId)
  | sleepReq (p : PortId)
  | sleepAck (p : PortId)
  | sleepNak (p : PortId)
  | pmReplyTimeout (p : PortId)
  | localPresentChange (p : PortId) (present : Bool)
  | retrain (by_ : Agent) (p : PortId)
  | portReset (by_ : Agent) (p : PortId)
  | bayReset (by_ : Agent) (b : BayId)
  -- Joist transactions
  | rd (p : PortId) (v : VcId)
  | wr (p : PortId) (v : VcId)
  | cpl (p : PortId) (v : VcId)
  | peg (p : PortId) (v : VcId)
  | timeFrame (p : PortId)
  | localResponseTimeout (p : PortId) (tag : Nat)
  | tagHoldExpiry (p : PortId) (tag : Nat)
  | scarfMergerTimeout (p : PortId)
  -- Interrupts
  | raise (by_ : Agent) (i : PegId)
  | eos (by_ : Agent) (i : PegId)
  | pegDelivery
  | heldMessageRelease (f : FnId)
  -- Faults and recovery
  | faultEvent (n : Fin 14) (c : Fin 64) (inst : Nat) (locator check : Word)
  | recoveryStart
  | recoveryEnd (passed : Bool)
  | classifierWindowExpiry (n : Fin 14) (c : Fin 64) (inst : Nat)
  | faultDetailClear (by_ : Agent) (n : Fin 14) (mask : Word)
  | braceRelease (by_ : Agent) (d : Byte)
  -- Ridge and Trestle
  | lockstep
  | checkerLost (cause : CheckerFault)
  | selftest (passed : Bool)
  | selftestTimeout
  | watchdog
  | flashUe (addr : Nat)
  | railFault (rail : Fin 13) (region : RegionId)
  | ridgeFailure (cause : Fin 6)
  | trestleRestartAttempt
  | alive
  | restartFail
  | restartCountReset
  | safeStateEntry (n : Fin 14) (c : Fin 64)
  -- Ridge mailbox and MCTP commands
  | getInfo (c : Caller)
  | getCertChain (c : Caller)
  | getRandom (c : Caller)
  | fwBegin (c : Caller)
  | fwWrite (c : Caller)
  | fwFinish (c : Caller)
  | fwActivate (c : Caller)
  | ridgeRestart (c : Caller)
  | fwCancel (c : Caller)
  | regRead (c : Caller)
  | regWrite (c : Caller)
  | mailboxAbort (by_ : Agent) (h : HostId)
  | mailboxCommandDone (h : HostId)
  -- SPDM
  | getVersion (t : Transport)
  | getCapabilities (t : Transport)
  | negotiateAlgorithms (t : Transport)
  | getDigests (t : Transport)
  | getCertificate (t : Transport) (slot : Fin 8) (off len : Nat)
  | challenge (t : Transport) (slot : Fin 8) (nonce : BitVec 256)
  | getMeasurements (t : Transport) (index : Byte) (signed : Bool) (nonce : BitVec 256)
  | keyExchange (t : Transport) (slot : Fin 8) (exchange : List Byte)
  | finish (t : Transport) (session : Nat)
  | heartbeat (t : Transport) (session : Nat)
  | keyUpdate (t : Transport) (session : Nat)
  | endSession (t : Transport) (session : Nat)
  | chunkSend (t : Transport) (handle : Byte) (seq : Nat) (last : Bool) (part : List Byte)
  | chunkGet (t : Transport) (handle : Byte) (seq : Nat)
  | vendorDefinedRequest (t : Transport) (session : Nat) (km : IdeKm)
  | unsupportedSpdmRequest (t : Transport) (code : Byte)
  | doeAbort (h : HostId)
  -- MCTP control
  | setEndpointId (eid : Byte)
  | getEndpointId
  | getEndpointUuid
  | getMctpVersionSupport
  | getMessageTypeSupport
  -- Random numbers and measurement
  | rngHealthFailure (src : Fin 2) (test : Fin 4)
  | rngStartupTestPass (src : Fin 2)
  | drbgReseed
  | measurementExtend (slot : Fin 16) (digest : BitVec 384)
  | bootMeasurement
  -- Plumb
  | plumbPass (inputs : PlumbInputs)
  | plumbPassEnd
  | halt
  | nop
  | sample (d : Fin 16) (n x : Fin 64)
  | smax (d : Fin 16) (n m1 : Fin 64)
  | ldi (d : Fin 16) (imm : BitVec 22)
  | ldt (d : Fin 16) (k : Fin 32)
  | add (d a b : Fin 16)
  | sub (d a b : Fin 16)
  | mulq (d a b : Fin 16)
  | min (d a b : Fin 16)
  | max (d a b : Fin 16)
  | iir (d a : Fin 16) (c : Fin 64) (k : Fin 16)
  | med3 (d a : Fin 16) (c : Fin 64)
  | cmpge (a b : Fin 16) (c setDwell clearDwell : Fin 64)
  | cmple (a b : Fin 16) (c setDwell clearDwell : Fin 64)
  | store (c : Fin 64) (mode : Fin 4) (k : Fin 512) (a : Fin 16)
  | actThrottle (c : Fin 64) (mode : Fin 4) (step : Fin 8) (causePower causeFlow : Bool)
  | actWake (c : Fin 64) (mode : Fin 4) (region : Fin 256)
  | actSleep (c : Fin 64) (mode : Fin 4) (region : Fin 256)
  | actRaise (c : Fin 64) (mode : Fin 4) (code : Fin 256) (a : Fin 16)
  | actScribe (c : Fin 64) (mode : Fin 4)
  | actShutdown (c : Fin 64) (mode : Fin 4)
  | actSwap (c : Fin 64) (mode : Fin 4)
  -- Scribe
  | trigger (by_ : Agent)
  | triggerHold (by_ : Agent)
  | holdA (by_ : Agent)
  | holdB (by_ : Agent)
  | releaseA (by_ : Agent)
  | releaseB (by_ : Agent)
  | scribePeriodTimer
  | scribeCaptureComplete
  -- Registers and remaining host events
  | registerWrite (by_ : Agent) (off : Nat) (bytes : WriteBytes)
  | registerRead (by_ : Agent) (off : ReadPlace) (len : ReadExtent)
  | unsupportedRequest (f : FnId) (kind : BadRequest)
  | msixTableWrite (f : FnId) (off : Nat) (bytes : WriteBytes)
  | l1SubstateEntry (h : HostId) (l12 : Bool)
  | l0pWidthRequest (h : HostId) (width : Nat)
  | cdrLockLoss (l : LaneId)
  | periodBoundary (l : LaneId) (nulls : List Nat)
  deriving DecidableEq, Repr

end Sys2Proof
end

