-- ==== Sys2Proof/Machine/Bits.lean ====
section
/-! DEFINITION. Bit fields, byte order and small number helpers (R6, R38). -/

namespace Sys2Proof.Machine

/-- Field of `len` bits whose least significant bit is bit `lo`, as a number. -/
def getBits (w : Word) (lo len : Nat) : Nat :=
  (w.extractLsb' lo len).toNat

/-- The word whose bits `lo` to `lo + len - 1` are 1. -/
def maskBits (lo len : Nat) : Word :=
  BitVec.ofNat 64 ((2 ^ len - 1) <<< lo)

/-- `w` with the field of `len` bits at `lo` loaded with `v` modulo `2 ^ len`. -/
def setBits (w : Word) (lo len v : Nat) : Word :=
  (w &&& ~~~ maskBits lo len) ||| BitVec.ofNat 64 ((v % 2 ^ len) <<< lo)

/-- `w` where `m` is 0, `v` where `m` is 1. -/
def mergeBits (w v m : Word) : Word :=
  (w &&& ~~~ m) ||| (v &&& m)

/-- Bit `i` of a word. -/
def bitAt (w : Word) (i : Nat) : Bool := w.getLsbD i

/-- Bit `i` of a number. -/
def natBit (n i : Nat) : Bool := n.testBit i

/-- 1 for true, 0 for false: the value of a one-bit field. -/
def b2n (b : Bool) : Nat := if b then 1 else 0

/-- Little-endian value of a byte string (R38). -/
def leNat : List Byte → Nat
  | [] => 0
  | b :: bs => b.toNat + 256 * leNat bs

/-- The `k` lowest bytes of a number, lowest first (R38). -/
def leBytes : Nat → Nat → List Byte
  | 0, _ => []
  | k + 1, n => BitVec.ofNat 8 n :: leBytes k (n / 256)

/-- Byte `i` of a byte string; 0 beyond its end. -/
def byteAt (bs : List Byte) (i : Nat) : Byte := bs.getD i 0

/-- `n` bytes of a byte string from offset `o`, zeros beyond its end. -/
def sliceBytes (bs : List Byte) (o n : Nat) : List Byte :=
  let part := (bs.drop o).take n
  part ++ List.replicate (n - part.length) 0

/-- Little-endian field of `n` bytes at offset `o`. -/
def leAt (bs : List Byte) (o n : Nat) : Nat := leNat (sliceBytes bs o n)

/-- Two's complement value of the `len` low bits of `n`. -/
def signed (n len : Nat) : Int :=
  let m := n % 2 ^ len
  if m < 2 ^ (len - 1) then (m : Int) else (m : Int) - (2 ^ len : Nat)

/-- The number modulo `2 ^ len` that represents an integer in two's complement. -/
def unsigned (z : Int) (len : Nat) : Nat := (z % ((2 ^ len : Nat) : Int)).toNat

/-- `n` rounded up to a multiple of `k`. -/
def roundUp (n k : Nat) : Nat := (n + k - 1) / k * k

/-- Quotient rounded up. -/
def ceilDiv (n k : Nat) : Nat := (n + k - 1) / k

/-- `n` brought into the range `lo` to `hi`. -/
def clampNat (lo hi n : Nat) : Nat := max lo (min hi n)

/-- Bytes from offset `o` replaced by `new`. -/
def patchBytes (bs : List Byte) (o : Nat) (new : List Byte) : List Byte :=
  bs.take o ++ new ++ bs.drop (o + new.length)

/-- Parity (XOR) of the bits of a byte string, folded byte by byte. -/
def xorBytes (bs : List Byte) : Byte := bs.foldl (· ^^^ ·) 0

/-- The bytes of a 64-bit word, lowest first. -/
def wordBytes (w : Word) : List Byte := leBytes 8 w.toNat

/-- The integers 0 to `n - 1`, each with its truth: the indices for which `p` holds. -/
def indicesWhere (n : Nat) (p : Nat → Bool) : List Nat := (List.range n).filter p

end Sys2Proof.Machine
end

