-- ==== Sys2Proof/Machine/Regs.lean ====
section
/-! DEFINITION. The registers of PF BAR0 (R42) and their fields, with access type (R32), retained mark (R33) and reset
value, block by block as the register tables of the spec give them. -/

namespace Sys2Proof.Machine

/-- Access types of R32. CTR is the type of the live counters, which are kept apart from the registers; no field of
the module has type RC. -/
inductive Acc where
  | rw | ro | w1c | w1s | wo | rws
  deriving DecidableEq, Repr

/-- Blocks of the BAR0 map (R42), as the views of R47 name them. -/
inductive Block where
  | GLOBAL | TXN | PWR | HOSTPORT | FUNC | PORTMAP | LEDGER | QCTX | TE | SCHED | JOIST | BAY | PEG | BRACE | MAILBOX | PLUMB | FUSE | SCRIBE
  deriving DecidableEq, Repr

/-- Registers of the BAR0 map. A register that repeats is one kind with an index. -/
inductive RegKind where
  | GLOBAL_ID | GLOBAL_STATUS | GLOBAL_CTRL | TXN_CTRL | TXN_STATUS | TXN_FAIL_ADDR
  | TXN_FAIL_INFO | TXN_TIMEOUT | TXN_OPEN_TIME | TXN_STAGED | TXN_PERSIST_SEQ | PWR_STATE_MISC
  | PWR_STATE_EG | PWR_STATE_BAY0 | PWR_STATE_BAY1 | PWR_THROTTLE | RSS_BOOT_STATUS | RSS_IMAGE_SEQ
  | RSS_LAST_SEQ | RSS_STATUS | RSS_WEAR | RSS_CTRL | HP_LINK_STATUS | HP_LINK_CTRL
  | HP_PM_CTRL | HP_LTR | HP_TAG | HP_PTM_CTRL | HP_PTM_STATUS | HP_PTM_OFFSET
  | HP_PPS_DEVTIME | HP_PPS_HOST | HP_IDE_STATUS | FUNC_ID | FUNC_STATE | FUNC_APERTURE
  | FUNC_SLACK | FUNC_OWNED | FUNC_OWNED2 | FUNC_FLR | FUNC_FLR_TIME | FUNC_FLR_DONE
  | FUNC_MOVE_LOG | PRT_CTRL | PRT_BASE | PRT_SIZE | LEDGER_GRANT | LEDGER_STATUS
  | LEDGER_ECC | SEG_CTRL | SEG_SRC | SEG_LEN | SEG_DST | Q_CFG
  | Q_STATE | Q_CMD | Q_SQ_BASE | Q_CQ_BASE | Q_RING | Q_SQ_IDX
  | Q_CQ_IDX | Q_COAL | Q_RESUME | Q_RESUME_OFS | Q_RESUME_EXT | Q_ERR_ADDR
  | Q_ERR_INFO | Q_HELD_CMP | TE_STATUS | TE_PROGRESS | TE_RDBUF | TE_PACE
  | TE_FAULT | SCHED_CTRL | SCHED_MISS_LOG0 | SCHED_MISS_LOG1 | SCHED_HOSTCPL | SCHED_PORT_CTRL
  | SCHED_PORT_BUSY | SCHED_RSV_VC | SCHED_FUNC | JP_CTRL | JP_CFG | JP_PART
  | JP_TIMER0 | JP_TIMER1 | JP_STATUS | JP_SEQ | JP_REPLAY | JP_DOWN_LOG
  | JP_DOWN_TIME | JT_TAGS | JT_TIME_CTRL | JT_ERR_LOG | JT_ERR_ADDR | JT_SCARF
  | JL_CTRL | JL_STATUS | JL_SEED | JL_PRBS | BAY_STATUS | BAY_CTRL
  | PEG_SRC_CTRL | PEG_SRC_TGT | PEG_SRC_STATUS | PEG_SRC_CMD | PEG_VMAP | FAULT_TOP
  | BRACE_CTRL | BRACE_HIST_PTR | BRACE_TRESTLE | BRACE_RELEASE | FAULT_DETAIL | FAULT_SEV
  | BRACE_DSTATE | BRACE_CLASS | BRACE_HIST | MB_CTRL | MB_STATUS | MB_CMD
  | MB_REQ | MB_RSP | PLUMB_CTRL | PLUMB_STATUS | PLUMB_SHUT | PLUMB_ACT
  | PLUMB_IN | PLUMB_INX | PLUMB_PROG | PLUMB_THR | PLUMB_W | PLUMB_CELL
  | PLUMB_ACTIVE | PLUMB_SHADOW | FUSE_STATUS | FUSE_SERIAL0 | FUSE_SERIAL1 | FUSE_MARGINAL
  | SEC_STATUS | RIDGE_LS | RNG_STATUS | DEVTIME_NOW | MEAS_SLOT | SAFE_RECORD
  | SCRIBE_CTRL | SCRIBE_CMD | SCRIBE_STATUS | SCRIBE_SEQ | SCRIBE_TIME | SCRIBE_INFO
  deriving DecidableEq, Repr

/-- Number of a kind, its place in the key of the register table. -/
def RegKind.code : RegKind → Nat
  | .GLOBAL_ID => 0
  | .GLOBAL_STATUS => 1
  | .GLOBAL_CTRL => 2
  | .TXN_CTRL => 3
  | .TXN_STATUS => 4
  | .TXN_FAIL_ADDR => 5
  | .TXN_FAIL_INFO => 6
  | .TXN_TIMEOUT => 7
  | .TXN_OPEN_TIME => 8
  | .TXN_STAGED => 9
  | .TXN_PERSIST_SEQ => 10
  | .PWR_STATE_MISC => 11
  | .PWR_STATE_EG => 12
  | .PWR_STATE_BAY0 => 13
  | .PWR_STATE_BAY1 => 14
  | .PWR_THROTTLE => 15
  | .RSS_BOOT_STATUS => 16
  | .RSS_IMAGE_SEQ => 17
  | .RSS_LAST_SEQ => 18
  | .RSS_STATUS => 19
  | .RSS_WEAR => 20
  | .RSS_CTRL => 21
  | .HP_LINK_STATUS => 22
  | .HP_LINK_CTRL => 23
  | .HP_PM_CTRL => 24
  | .HP_LTR => 25
  | .HP_TAG => 26
  | .HP_PTM_CTRL => 27
  | .HP_PTM_STATUS => 28
  | .HP_PTM_OFFSET => 29
  | .HP_PPS_DEVTIME => 30
  | .HP_PPS_HOST => 31
  | .HP_IDE_STATUS => 32
  | .FUNC_ID => 33
  | .FUNC_STATE => 34
  | .FUNC_APERTURE => 35
  | .FUNC_SLACK => 36
  | .FUNC_OWNED => 37
  | .FUNC_OWNED2 => 38
  | .FUNC_FLR => 39
  | .FUNC_FLR_TIME => 40
  | .FUNC_FLR_DONE => 41
  | .FUNC_MOVE_LOG => 42
  | .PRT_CTRL => 43
  | .PRT_BASE => 44
  | .PRT_SIZE => 45
  | .LEDGER_GRANT => 46
  | .LEDGER_STATUS => 47
  | .LEDGER_ECC => 48
  | .SEG_CTRL => 49
  | .SEG_SRC => 50
  | .SEG_LEN => 51
  | .SEG_DST => 52
  | .Q_CFG => 53
  | .Q_STATE => 54
  | .Q_CMD => 55
  | .Q_SQ_BASE => 56
  | .Q_CQ_BASE => 57
  | .Q_RING => 58
  | .Q_SQ_IDX => 59
  | .Q_CQ_IDX => 60
  | .Q_COAL => 61
  | .Q_RESUME => 62
  | .Q_RESUME_OFS => 63
  | .Q_RESUME_EXT => 64
  | .Q_ERR_ADDR => 65
  | .Q_ERR_INFO => 66
  | .Q_HELD_CMP => 67
  | .TE_STATUS => 68
  | .TE_PROGRESS => 69
  | .TE_RDBUF => 70
  | .TE_PACE => 71
  | .TE_FAULT => 72
  | .SCHED_CTRL => 73
  | .SCHED_MISS_LOG0 => 74
  | .SCHED_MISS_LOG1 => 75
  | .SCHED_HOSTCPL => 76
  | .SCHED_PORT_CTRL => 77
  | .SCHED_PORT_BUSY => 78
  | .SCHED_RSV_VC => 79
  | .SCHED_FUNC => 80
  | .JP_CTRL => 81
  | .JP_CFG => 82
  | .JP_PART => 83
  | .JP_TIMER0 => 84
  | .JP_TIMER1 => 85
  | .JP_STATUS => 86
  | .JP_SEQ => 87
  | .JP_REPLAY => 88
  | .JP_DOWN_LOG => 89
  | .JP_DOWN_TIME => 90
  | .JT_TAGS => 91
  | .JT_TIME_CTRL => 92
  | .JT_ERR_LOG => 93
  | .JT_ERR_ADDR => 94
  | .JT_SCARF => 95
  | .JL_CTRL => 96
  | .JL_STATUS => 97
  | .JL_SEED => 98
  | .JL_PRBS => 99
  | .BAY_STATUS => 100
  | .BAY_CTRL => 101
  | .PEG_SRC_CTRL => 102
  | .PEG_SRC_TGT => 103
  | .PEG_SRC_STATUS => 104
  | .PEG_SRC_CMD => 105
  | .PEG_VMAP => 106
  | .FAULT_TOP => 107
  | .BRACE_CTRL => 108
  | .BRACE_HIST_PTR => 109
  | .BRACE_TRESTLE => 110
  | .BRACE_RELEASE => 111
  | .FAULT_DETAIL => 112
  | .FAULT_SEV => 113
  | .BRACE_DSTATE => 114
  | .BRACE_CLASS => 115
  | .BRACE_HIST => 116
  | .MB_CTRL => 117
  | .MB_STATUS => 118
  | .MB_CMD => 119
  | .MB_REQ => 120
  | .MB_RSP => 121
  | .PLUMB_CTRL => 122
  | .PLUMB_STATUS => 123
  | .PLUMB_SHUT => 124
  | .PLUMB_ACT => 125
  | .PLUMB_IN => 126
  | .PLUMB_INX => 127
  | .PLUMB_PROG => 128
  | .PLUMB_THR => 129
  | .PLUMB_W => 130
  | .PLUMB_CELL => 131
  | .PLUMB_ACTIVE => 132
  | .PLUMB_SHADOW => 133
  | .FUSE_STATUS => 134
  | .FUSE_SERIAL0 => 135
  | .FUSE_SERIAL1 => 136
  | .FUSE_MARGINAL => 137
  | .SEC_STATUS => 138
  | .RIDGE_LS => 139
  | .RNG_STATUS => 140
  | .DEVTIME_NOW => 141
  | .MEAS_SLOT => 142
  | .SAFE_RECORD => 143
  | .SCRIBE_CTRL => 144
  | .SCRIBE_CMD => 145
  | .SCRIBE_STATUS => 146
  | .SCRIBE_SEQ => 147
  | .SCRIBE_TIME => 148
  | .SCRIBE_INFO => 149

/-- Where a kind lies: `n1` instances of stride `s1`, each of `n2` items of stride `s2`, of `bytes` bytes. Item `j` of
copy `i` has index `n2 * i + j`. -/
structure Place where
  base : Nat
  n1 : Nat
  s1 : Nat
  n2 : Nat
  s2 : Nat
  bytes : Nat
  block : Block
  deriving DecidableEq, Repr

/-- The BAR0 map (R42) and the offset tables of the chapters. -/
def RegKind.place : RegKind → Place
  | .GLOBAL_ID => ⟨0x0000000, 1, 0x0, 1, 0x0, 4, .GLOBAL⟩
  | .GLOBAL_STATUS => ⟨0x0000008, 1, 0x0, 1, 0x0, 4, .GLOBAL⟩
  | .GLOBAL_CTRL => ⟨0x0000010, 1, 0x0, 1, 0x0, 4, .GLOBAL⟩
  | .TXN_CTRL => ⟨0x0010000, 5, 0x1000, 1, 0x0, 4, .TXN⟩
  | .TXN_STATUS => ⟨0x0010008, 5, 0x1000, 1, 0x0, 4, .TXN⟩
  | .TXN_FAIL_ADDR => ⟨0x0010010, 5, 0x1000, 1, 0x0, 4, .TXN⟩
  | .TXN_FAIL_INFO => ⟨0x0010018, 5, 0x1000, 1, 0x0, 4, .TXN⟩
  | .TXN_TIMEOUT => ⟨0x0010020, 5, 0x1000, 1, 0x0, 4, .TXN⟩
  | .TXN_OPEN_TIME => ⟨0x0010028, 5, 0x1000, 1, 0x0, 8, .TXN⟩
  | .TXN_STAGED => ⟨0x0010030, 5, 0x1000, 1, 0x0, 4, .TXN⟩
  | .TXN_PERSIST_SEQ => ⟨0x0010038, 5, 0x1000, 1, 0x0, 8, .TXN⟩
  | .PWR_STATE_MISC => ⟨0x0020000, 1, 0x0, 1, 0x0, 8, .PWR⟩
  | .PWR_STATE_EG => ⟨0x0020008, 1, 0x0, 1, 0x0, 4, .PWR⟩
  | .PWR_STATE_BAY0 => ⟨0x0020010, 1, 0x0, 1, 0x0, 8, .PWR⟩
  | .PWR_STATE_BAY1 => ⟨0x0020018, 1, 0x0, 1, 0x0, 4, .PWR⟩
  | .PWR_THROTTLE => ⟨0x0020020, 1, 0x0, 1, 0x0, 4, .PWR⟩
  | .RSS_BOOT_STATUS => ⟨0x0020100, 1, 0x0, 1, 0x0, 4, .PWR⟩
  | .RSS_IMAGE_SEQ => ⟨0x0020108, 1, 0x0, 1, 0x0, 8, .PWR⟩
  | .RSS_LAST_SEQ => ⟨0x0020110, 1, 0x0, 1, 0x0, 8, .PWR⟩
  | .RSS_STATUS => ⟨0x0020118, 1, 0x0, 1, 0x0, 4, .PWR⟩
  | .RSS_WEAR => ⟨0x0020120, 1, 0x0, 1, 0x0, 4, .PWR⟩
  | .RSS_CTRL => ⟨0x0020128, 1, 0x0, 1, 0x0, 4, .PWR⟩
  | .HP_LINK_STATUS => ⟨0x0030000, 4, 0x4000, 1, 0x0, 4, .HOSTPORT⟩
  | .HP_LINK_CTRL => ⟨0x0030008, 4, 0x4000, 1, 0x0, 4, .HOSTPORT⟩
  | .HP_PM_CTRL => ⟨0x0030010, 4, 0x4000, 1, 0x0, 4, .HOSTPORT⟩
  | .HP_LTR => ⟨0x0030018, 4, 0x4000, 1, 0x0, 8, .HOSTPORT⟩
  | .HP_TAG => ⟨0x0030020, 4, 0x4000, 1, 0x0, 4, .HOSTPORT⟩
  | .HP_PTM_CTRL => ⟨0x0030028, 4, 0x4000, 1, 0x0, 4, .HOSTPORT⟩
  | .HP_PTM_STATUS => ⟨0x0030030, 4, 0x4000, 1, 0x0, 4, .HOSTPORT⟩
  | .HP_PTM_OFFSET => ⟨0x0030038, 4, 0x4000, 1, 0x0, 8, .HOSTPORT⟩
  | .HP_PPS_DEVTIME => ⟨0x0030040, 4, 0x4000, 1, 0x0, 8, .HOSTPORT⟩
  | .HP_PPS_HOST => ⟨0x0030048, 4, 0x4000, 1, 0x0, 8, .HOSTPORT⟩
  | .HP_IDE_STATUS => ⟨0x0030050, 4, 0x4000, 1, 0x0, 4, .HOSTPORT⟩
  | .FUNC_ID => ⟨0x0040000, 1024, 0x100, 1, 0x0, 4, .FUNC⟩
  | .FUNC_STATE => ⟨0x0040008, 1024, 0x100, 1, 0x0, 4, .FUNC⟩
  | .FUNC_APERTURE => ⟨0x0040010, 1024, 0x100, 1, 0x0, 4, .FUNC⟩
  | .FUNC_SLACK => ⟨0x0040018, 1024, 0x100, 1, 0x0, 4, .FUNC⟩
  | .FUNC_OWNED => ⟨0x0040020, 1024, 0x100, 1, 0x0, 8, .FUNC⟩
  | .FUNC_OWNED2 => ⟨0x0040028, 1024, 0x100, 1, 0x0, 4, .FUNC⟩
  | .FUNC_FLR => ⟨0x0040030, 1024, 0x100, 1, 0x0, 8, .FUNC⟩
  | .FUNC_FLR_TIME => ⟨0x0040038, 1024, 0x100, 1, 0x0, 8, .FUNC⟩
  | .FUNC_FLR_DONE => ⟨0x0040040, 1024, 0x100, 1, 0x0, 8, .FUNC⟩
  | .FUNC_MOVE_LOG => ⟨0x0040048, 1024, 0x100, 1, 0x0, 8, .FUNC⟩
  | .PRT_CTRL => ⟨0x0080000, 96, 0x20, 1, 0x0, 8, .PORTMAP⟩
  | .PRT_BASE => ⟨0x0080008, 96, 0x20, 1, 0x0, 8, .PORTMAP⟩
  | .PRT_SIZE => ⟨0x0080010, 96, 0x20, 1, 0x0, 8, .PORTMAP⟩
  | .LEDGER_GRANT => ⟨0x0081000, 4, 0x8, 1, 0x0, 4, .PORTMAP⟩
  | .LEDGER_STATUS => ⟨0x0081020, 1, 0x0, 1, 0x0, 8, .PORTMAP⟩
  | .LEDGER_ECC => ⟨0x0081028, 1, 0x0, 1, 0x0, 8, .PORTMAP⟩
  | .SEG_CTRL => ⟨0x0100000, 65536, 0x20, 1, 0x0, 8, .LEDGER⟩
  | .SEG_SRC => ⟨0x0100008, 65536, 0x20, 1, 0x0, 8, .LEDGER⟩
  | .SEG_LEN => ⟨0x0100010, 65536, 0x20, 1, 0x0, 8, .LEDGER⟩
  | .SEG_DST => ⟨0x0100018, 65536, 0x20, 1, 0x0, 8, .LEDGER⟩
  | .Q_CFG => ⟨0x0300000, 4096, 0x100, 1, 0x0, 8, .QCTX⟩
  | .Q_STATE => ⟨0x0300008, 4096, 0x100, 1, 0x0, 4, .QCTX⟩
  | .Q_CMD => ⟨0x0300010, 4096, 0x100, 1, 0x0, 4, .QCTX⟩
  | .Q_SQ_BASE => ⟨0x0300018, 4096, 0x100, 1, 0x0, 8, .QCTX⟩
  | .Q_CQ_BASE => ⟨0x0300020, 4096, 0x100, 1, 0x0, 8, .QCTX⟩
  | .Q_RING => ⟨0x0300028, 4096, 0x100, 1, 0x0, 8, .QCTX⟩
  | .Q_SQ_IDX => ⟨0x0300030, 4096, 0x100, 1, 0x0, 4, .QCTX⟩
  | .Q_CQ_IDX => ⟨0x0300038, 4096, 0x100, 1, 0x0, 8, .QCTX⟩
  | .Q_COAL => ⟨0x0300040, 4096, 0x100, 1, 0x0, 4, .QCTX⟩
  | .Q_RESUME => ⟨0x0300048, 4096, 0x100, 1, 0x0, 8, .QCTX⟩
  | .Q_RESUME_OFS => ⟨0x0300050, 4096, 0x100, 1, 0x0, 8, .QCTX⟩
  | .Q_RESUME_EXT => ⟨0x0300058, 4096, 0x100, 1, 0x0, 8, .QCTX⟩
  | .Q_ERR_ADDR => ⟨0x0300060, 4096, 0x100, 1, 0x0, 8, .QCTX⟩
  | .Q_ERR_INFO => ⟨0x0300068, 4096, 0x100, 1, 0x0, 4, .QCTX⟩
  | .Q_HELD_CMP => ⟨0x0300080, 4096, 0x100, 4, 0x8, 8, .QCTX⟩
  | .TE_STATUS => ⟨0x0400000, 48, 0x1000, 1, 0x0, 8, .TE⟩
  | .TE_PROGRESS => ⟨0x0400008, 48, 0x1000, 1, 0x0, 8, .TE⟩
  | .TE_RDBUF => ⟨0x0400010, 48, 0x1000, 1, 0x0, 4, .TE⟩
  | .TE_PACE => ⟨0x0400018, 48, 0x1000, 1, 0x0, 4, .TE⟩
  | .TE_FAULT => ⟨0x0400020, 48, 0x1000, 1, 0x0, 4, .TE⟩
  | .SCHED_CTRL => ⟨0x0440000, 1, 0x0, 1, 0x0, 8, .SCHED⟩
  | .SCHED_MISS_LOG0 => ⟨0x0440010, 1, 0x0, 1, 0x0, 8, .SCHED⟩
  | .SCHED_MISS_LOG1 => ⟨0x0440018, 1, 0x0, 1, 0x0, 8, .SCHED⟩
  | .SCHED_HOSTCPL => ⟨0x0440100, 4, 0x8, 1, 0x0, 8, .SCHED⟩
  | .SCHED_PORT_CTRL => ⟨0x0441000, 96, 0x40, 1, 0x0, 4, .SCHED⟩
  | .SCHED_PORT_BUSY => ⟨0x0441008, 96, 0x40, 1, 0x0, 8, .SCHED⟩
  | .SCHED_RSV_VC => ⟨0x0441010, 96, 0x40, 8, 0x4, 4, .SCHED⟩
  | .SCHED_FUNC => ⟨0x0444000, 1024, 0x8, 1, 0x0, 4, .SCHED⟩
  | .JP_CTRL => ⟨0x0500000, 96, 0x1000, 1, 0x0, 4, .JOIST⟩
  | .JP_CFG => ⟨0x0500008, 96, 0x1000, 1, 0x0, 4, .JOIST⟩
  | .JP_PART => ⟨0x0500010, 96, 0x1000, 1, 0x0, 8, .JOIST⟩
  | .JP_TIMER0 => ⟨0x0500018, 96, 0x1000, 1, 0x0, 8, .JOIST⟩
  | .JP_TIMER1 => ⟨0x0500020, 96, 0x1000, 1, 0x0, 8, .JOIST⟩
  | .JP_STATUS => ⟨0x0500028, 96, 0x1000, 1, 0x0, 8, .JOIST⟩
  | .JP_SEQ => ⟨0x0500030, 96, 0x1000, 1, 0x0, 8, .JOIST⟩
  | .JP_REPLAY => ⟨0x0500038, 96, 0x1000, 1, 0x0, 8, .JOIST⟩
  | .JP_DOWN_LOG => ⟨0x0500040, 96, 0x1000, 1, 0x0, 4, .JOIST⟩
  | .JP_DOWN_TIME => ⟨0x0500048, 96, 0x1000, 1, 0x0, 8, .JOIST⟩
  | .JT_TAGS => ⟨0x0500100, 96, 0x1000, 1, 0x0, 4, .JOIST⟩
  | .JT_TIME_CTRL => ⟨0x0500108, 96, 0x1000, 1, 0x0, 4, .JOIST⟩
  | .JT_ERR_LOG => ⟨0x0500110, 96, 0x1000, 1, 0x0, 8, .JOIST⟩
  | .JT_ERR_ADDR => ⟨0x0500118, 96, 0x1000, 1, 0x0, 8, .JOIST⟩
  | .JT_SCARF => ⟨0x0500120, 96, 0x1000, 1, 0x0, 4, .JOIST⟩
  | .JL_CTRL => ⟨0x0500800, 96, 0x1000, 2, 0x80, 4, .JOIST⟩
  | .JL_STATUS => ⟨0x0500808, 96, 0x1000, 2, 0x80, 4, .JOIST⟩
  | .JL_SEED => ⟨0x0500810, 96, 0x1000, 2, 0x80, 8, .JOIST⟩
  | .JL_PRBS => ⟨0x0500818, 96, 0x1000, 2, 0x80, 4, .JOIST⟩
  | .BAY_STATUS => ⟨0x0560000, 24, 0x400, 1, 0x0, 4, .BAY⟩
  | .BAY_CTRL => ⟨0x0560008, 24, 0x400, 1, 0x0, 4, .BAY⟩
  | .PEG_SRC_CTRL => ⟨0x0600000, 24576, 0x20, 1, 0x0, 8, .PEG⟩
  | .PEG_SRC_TGT => ⟨0x0600008, 24576, 0x20, 1, 0x0, 8, .PEG⟩
  | .PEG_SRC_STATUS => ⟨0x0600010, 24576, 0x20, 1, 0x0, 8, .PEG⟩
  | .PEG_SRC_CMD => ⟨0x0600018, 24576, 0x20, 1, 0x0, 4, .PEG⟩
  | .PEG_VMAP => ⟨0x06C0000, 65536, 0x4, 1, 0x0, 4, .PEG⟩
  | .FAULT_TOP => ⟨0x0700000, 1, 0x0, 1, 0x0, 4, .BRACE⟩
  | .BRACE_CTRL => ⟨0x0700008, 1, 0x0, 1, 0x0, 4, .BRACE⟩
  | .BRACE_HIST_PTR => ⟨0x0700010, 1, 0x0, 1, 0x0, 4, .BRACE⟩
  | .BRACE_TRESTLE => ⟨0x0700018, 1, 0x0, 1, 0x0, 8, .BRACE⟩
  | .BRACE_RELEASE => ⟨0x0700020, 1, 0x0, 1, 0x0, 4, .BRACE⟩
  | .FAULT_DETAIL => ⟨0x0700100, 14, 0x10, 1, 0x0, 8, .BRACE⟩
  | .FAULT_SEV => ⟨0x0700108, 14, 0x10, 1, 0x0, 8, .BRACE⟩
  | .BRACE_DSTATE => ⟨0x0700400, 131, 0x8, 1, 0x0, 8, .BRACE⟩
  | .BRACE_CLASS => ⟨0x0701000, 14, 0x100, 64, 0x4, 4, .BRACE⟩
  | .BRACE_HIST => ⟨0x0702000, 64, 0x20, 4, 0x8, 8, .BRACE⟩
  | .MB_CTRL => ⟨0x0710000, 4, 0x4000, 1, 0x0, 4, .MAILBOX⟩
  | .MB_STATUS => ⟨0x0710008, 4, 0x4000, 1, 0x0, 4, .MAILBOX⟩
  | .MB_CMD => ⟨0x0710010, 4, 0x4000, 1, 0x0, 4, .MAILBOX⟩
  | .MB_REQ => ⟨0x0711000, 4, 0x4000, 512, 0x8, 8, .MAILBOX⟩
  | .MB_RSP => ⟨0x0712000, 4, 0x4000, 512, 0x8, 8, .MAILBOX⟩
  | .PLUMB_CTRL => ⟨0x0720000, 1, 0x0, 1, 0x0, 4, .PLUMB⟩
  | .PLUMB_STATUS => ⟨0x0720008, 1, 0x0, 1, 0x0, 8, .PLUMB⟩
  | .PLUMB_SHUT => ⟨0x0720010, 1, 0x0, 1, 0x0, 4, .PLUMB⟩
  | .PLUMB_ACT => ⟨0x0720018, 1, 0x0, 1, 0x0, 4, .PLUMB⟩
  | .PLUMB_IN => ⟨0x0720100, 64, 0x4, 1, 0x0, 4, .PLUMB⟩
  | .PLUMB_INX => ⟨0x0720300, 3, 0x100, 64, 0x4, 4, .PLUMB⟩
  | .PLUMB_PROG => ⟨0x0720800, 256, 0x4, 1, 0x0, 4, .PLUMB⟩
  | .PLUMB_THR => ⟨0x0720C00, 32, 0x4, 1, 0x0, 4, .PLUMB⟩
  | .PLUMB_W => ⟨0x0720D00, 16, 0x4, 1, 0x0, 4, .PLUMB⟩
  | .PLUMB_CELL => ⟨0x0720E00, 64, 0x4, 1, 0x0, 4, .PLUMB⟩
  | .PLUMB_ACTIVE => ⟨0x0721000, 288, 0x4, 1, 0x0, 4, .PLUMB⟩
  | .PLUMB_SHADOW => ⟨0x0721800, 288, 0x4, 1, 0x0, 4, .PLUMB⟩
  | .FUSE_STATUS => ⟨0x0730000, 1, 0x0, 1, 0x0, 8, .FUSE⟩
  | .FUSE_SERIAL0 => ⟨0x0730008, 1, 0x0, 1, 0x0, 8, .FUSE⟩
  | .FUSE_SERIAL1 => ⟨0x0730010, 1, 0x0, 1, 0x0, 8, .FUSE⟩
  | .FUSE_MARGINAL => ⟨0x0730018, 4, 0x8, 1, 0x0, 8, .FUSE⟩
  | .SEC_STATUS => ⟨0x0730040, 1, 0x0, 1, 0x0, 4, .FUSE⟩
  | .RIDGE_LS => ⟨0x0730048, 1, 0x0, 1, 0x0, 8, .FUSE⟩
  | .RNG_STATUS => ⟨0x0730050, 1, 0x0, 1, 0x0, 4, .FUSE⟩
  | .DEVTIME_NOW => ⟨0x0730060, 1, 0x0, 1, 0x0, 8, .FUSE⟩
  | .MEAS_SLOT => ⟨0x0730100, 16, 0x40, 6, 0x8, 8, .FUSE⟩
  | .SAFE_RECORD => ⟨0x0730F00, 1, 0x0, 1, 0x0, 8, .FUSE⟩
  | .SCRIBE_CTRL => ⟨0x08FF000, 1, 0x0, 1, 0x0, 4, .SCRIBE⟩
  | .SCRIBE_CMD => ⟨0x08FF008, 1, 0x0, 1, 0x0, 4, .SCRIBE⟩
  | .SCRIBE_STATUS => ⟨0x08FF010, 1, 0x0, 1, 0x0, 8, .SCRIBE⟩
  | .SCRIBE_SEQ => ⟨0x09FF000, 2, 0x100000, 1, 0x0, 8, .SCRIBE⟩
  | .SCRIBE_TIME => ⟨0x09FF008, 2, 0x100000, 1, 0x0, 8, .SCRIBE⟩
  | .SCRIBE_INFO => ⟨0x09FF010, 2, 0x100000, 1, 0x0, 8, .SCRIBE⟩

/-- Every kind, in the order of the BAR0 map. -/
def RegKind.all : List RegKind :=
  ([.GLOBAL_ID, .GLOBAL_STATUS, .GLOBAL_CTRL, .TXN_CTRL, .TXN_STATUS, .TXN_FAIL_ADDR, .TXN_FAIL_INFO, .TXN_TIMEOUT] : List RegKind)
  ++ ([.TXN_OPEN_TIME, .TXN_STAGED, .TXN_PERSIST_SEQ, .PWR_STATE_MISC, .PWR_STATE_EG, .PWR_STATE_BAY0, .PWR_STATE_BAY1, .PWR_THROTTLE] : List RegKind)
  ++ ([.RSS_BOOT_STATUS, .RSS_IMAGE_SEQ, .RSS_LAST_SEQ, .RSS_STATUS, .RSS_WEAR, .RSS_CTRL, .HP_LINK_STATUS, .HP_LINK_CTRL] : List RegKind)
  ++ ([.HP_PM_CTRL, .HP_LTR, .HP_TAG, .HP_PTM_CTRL, .HP_PTM_STATUS, .HP_PTM_OFFSET, .HP_PPS_DEVTIME, .HP_PPS_HOST] : List RegKind)
  ++ ([.HP_IDE_STATUS, .FUNC_ID, .FUNC_STATE, .FUNC_APERTURE, .FUNC_SLACK, .FUNC_OWNED, .FUNC_OWNED2, .FUNC_FLR] : List RegKind)
  ++ ([.FUNC_FLR_TIME, .FUNC_FLR_DONE, .FUNC_MOVE_LOG, .PRT_CTRL, .PRT_BASE, .PRT_SIZE, .LEDGER_GRANT, .LEDGER_STATUS] : List RegKind)
  ++ ([.LEDGER_ECC, .SEG_CTRL, .SEG_SRC, .SEG_LEN, .SEG_DST, .Q_CFG, .Q_STATE, .Q_CMD] : List RegKind)
  ++ ([.Q_SQ_BASE, .Q_CQ_BASE, .Q_RING, .Q_SQ_IDX, .Q_CQ_IDX, .Q_COAL, .Q_RESUME, .Q_RESUME_OFS] : List RegKind)
  ++ ([.Q_RESUME_EXT, .Q_ERR_ADDR, .Q_ERR_INFO, .Q_HELD_CMP, .TE_STATUS, .TE_PROGRESS, .TE_RDBUF, .TE_PACE] : List RegKind)
  ++ ([.TE_FAULT, .SCHED_CTRL, .SCHED_MISS_LOG0, .SCHED_MISS_LOG1, .SCHED_HOSTCPL, .SCHED_PORT_CTRL, .SCHED_PORT_BUSY, .SCHED_RSV_VC] : List RegKind)
  ++ ([.SCHED_FUNC, .JP_CTRL, .JP_CFG, .JP_PART, .JP_TIMER0, .JP_TIMER1, .JP_STATUS, .JP_SEQ] : List RegKind)
  ++ ([.JP_REPLAY, .JP_DOWN_LOG, .JP_DOWN_TIME, .JT_TAGS, .JT_TIME_CTRL, .JT_ERR_LOG, .JT_ERR_ADDR, .JT_SCARF] : List RegKind)
  ++ ([.JL_CTRL, .JL_STATUS, .JL_SEED, .JL_PRBS, .BAY_STATUS, .BAY_CTRL, .PEG_SRC_CTRL, .PEG_SRC_TGT] : List RegKind)
  ++ ([.PEG_SRC_STATUS, .PEG_SRC_CMD, .PEG_VMAP, .FAULT_TOP, .BRACE_CTRL, .BRACE_HIST_PTR, .BRACE_TRESTLE, .BRACE_RELEASE] : List RegKind)
  ++ ([.FAULT_DETAIL, .FAULT_SEV, .BRACE_DSTATE, .BRACE_CLASS, .BRACE_HIST, .MB_CTRL, .MB_STATUS, .MB_CMD] : List RegKind)
  ++ ([.MB_REQ, .MB_RSP, .PLUMB_CTRL, .PLUMB_STATUS, .PLUMB_SHUT, .PLUMB_ACT, .PLUMB_IN, .PLUMB_INX] : List RegKind)
  ++ ([.PLUMB_PROG, .PLUMB_THR, .PLUMB_W, .PLUMB_CELL, .PLUMB_ACTIVE, .PLUMB_SHADOW, .FUSE_STATUS, .FUSE_SERIAL0] : List RegKind)
  ++ ([.FUSE_SERIAL1, .FUSE_MARGINAL, .SEC_STATUS, .RIDGE_LS, .RNG_STATUS, .DEVTIME_NOW, .MEAS_SLOT, .SAFE_RECORD] : List RegKind)
  ++ ([.SCRIBE_CTRL, .SCRIBE_CMD, .SCRIBE_STATUS, .SCRIBE_SEQ, .SCRIBE_TIME, .SCRIBE_INFO] : List RegKind)

/-- How many registers of a kind there are. -/
def RegKind.count (k : RegKind) : Nat := k.place.n1 * k.place.n2

/-- BAR0 offset of register `idx` of a kind. -/
def RegKind.addr (k : RegKind) (idx : Nat) : Nat :=
  k.place.base + k.place.s1 * (idx / k.place.n2) + k.place.s2 * (idx % k.place.n2)

/-- Index of the register of kind `k` that begins at offset `a`, if one does. -/
def RegKind.indexAt (k : RegKind) (a : Nat) : Option Nat :=
  let p := k.place
  if a < p.base then none
  else
    let d := a - p.base
    let i := if p.s1 = 0 then 0 else d / p.s1
    let r := d - i * p.s1
    let j := if p.s2 = 0 then 0 else r / p.s2
    if i < p.n1 ∧ j < p.n2 ∧ i * p.s1 + j * p.s2 = d then some (p.n2 * i + j) else none

/-- The register that begins at BAR0 offset `a`. -/
def regAt (a : Nat) : Option (RegKind × Nat) :=
  RegKind.all.findSome? (fun k => (k.indexAt a).map (fun i => (k, i)))

/-- Key of a register in the register table. -/
def RegKind.key (k : RegKind) (idx : Nat) : Nat := idx * 256 + k.code

/-- One field of a register: its place, its access type, whether it is a ret field (R33) and its reset value (for a
ret field the factory default) as a function of the register's index. -/
structure Fld where
  reg : RegKind
  lo : Nat
  len : Nat
  acc : Acc
  ret : Bool
  reset : Nat → Nat

/-! ### Classes of fault codes (R393), which give the reset values of BRACE_CLASS (R409) -/

/-- Event class of a fault code as its table marks it: corrected, fault, severe from the first event, or notice. -/
inductive CodeClass where
  | corrected | fault | severe | notice
  deriving DecidableEq, Repr

/-- Class of code `n.c` (R393); `none` for a reserved code. -/
def codeClass (n c : Nat) : Option CodeClass :=
  match n, c with
  | 0, 0 => some .fault  -- MIRROR_PARITY
  | 0, 1 => some .fault  -- CPL_BUF_UE
  | 0, 2 => some .fault  -- PORT_PLL
  | 0, 3 => some .fault  -- IDE_KEY_UE
  | 0, 4 => some .notice  -- LINK_DEGRADED
  | 0, 5 => some .notice  -- DEVTIME_STEP
  | 1, 0 => some .corrected  -- FUNC_ENTRY_CE
  | 1, 1 => some .fault  -- FUNC_ENTRY_UE
  | 1, 2 => some .notice  -- GEN_WAIT
  | 2, 0 => some .corrected  -- SEG_CE
  | 2, 1 => some .fault  -- SEG_UE
  | 2, 2 => some .fault  -- PRT_UE
  | 3, 0 => some .corrected  -- QCTX_CE
  | 3, 1 => some .fault  -- QCTX_UE
  | 3, 2 => some .fault  -- PREFETCH_UE
  | 4, 0 => some .corrected  -- RDBUF_CE
  | 4, 1 => some .fault  -- HOLD_PARITY
  | 4, 2 => some .fault  -- RDBUF_UE
  | 5, 0 => some .fault  -- SCHED_ENTRY_UE
  | 6, 0 => some .corrected  -- UNIT_CE
  | 6, 1 => some .fault  -- UNIT_UE
  | 6, 2 => some .fault  -- ALLOC_PARITY
  | 7, 0 => some .fault  -- PORT_DOWN
  | 7, 1 => some .notice  -- PORT_DOWN_OTHER
  | 7, 2 => some .notice  -- LANE_DROP
  | 7, 3 => some .notice  -- SCARF_MISMATCH
  | 8, 0 => some .fault  -- BAY_PLL
  | 8, 1 => some .fault  -- ADAPT_FAIL
  | 9, 0 => some .corrected  -- PEG_CE
  | 9, 1 => some .fault  -- PEG_SRC_UE
  | 9, 2 => some .fault  -- VMAP_UE
  | 10, 0 => some .fault  -- BRACE_TABLE
  | 10, 1 => some .notice  -- DOMAIN_RELEASE
  | 11, 0 => some .fault  -- LOCKSTEP
  | 11, 1 => some .fault  -- CHECKER_LOST
  | 11, 2 => some .fault  -- WATCHDOG
  | 11, 3 => some .fault  -- FLASH_UE
  | 11, 4 => some .notice  -- RESTART_FAIL
  | 11, 5 => some .fault  -- DEGRADED
  | 11, 6 => some .severe  -- RNG_FAILED
  | 12, 0 => some .notice  -- THROTTLE
  | 12, 1 => some .fault  -- THERMAL_SHUTDOWN
  | 12, 2 => some .notice  -- SHUTDOWN_DEFERRED
  | 12, 3 => some .fault  -- HARD_TRIP
  | 12, 4 => some .notice  -- LOW_FLOW
  | 12, 5 => some .fault  -- PLUMB_PARITY
  | 12, 6 => some .fault  -- TRESTLE_PARITY
  | 13, 0 => some .fault  -- RAIL_FAULT
  | 13, 1 => some .notice  -- TORN_COMMIT
  | 13, 2 => some .notice  -- RESTORE_FALLBACK
  | 13, 3 => some .fault  -- FUSE_PARITY
  | 13, 4 => some .fault  -- SCLK_FAIL
  | _, _ => none

/-- Reset value of BRACE_CLASS.thresh (R409). -/
def classThresh (n c : Nat) : Nat :=
  match codeClass n c with
  | some .corrected => 32
  | some .fault => 4
  | _ => 0

/-- Reset value of BRACE_CLASS.window_ms (R409). -/
def classWindow (n c : Nat) : Nat :=
  match codeClass n c with
  | some .corrected => 1000
  | some .fault => 60000
  | _ => 0

/-! ### The factory program of Plumb (R452) -/

/-- Factory thresholds PLUMB_THR0 to PLUMB_THR14; the others are 0. -/
def factoryThresholds : List Nat :=
  [1600, 1553, 1664, 1617, 1728, 1681, 1792, 1745, 1840, 1840, 4701, 4601, 1261, 1000, 0]

/-- The 151 slots of the factory program, encoded under R443. DESIGN CHOICE (log entry 13): the working registers that
R452 leaves unnamed in slots 22 to 35. -/
def factoryProgram : List Nat :=
  ([0x0C400017, 0x30440000, 0x14800000, 0x14C00001, 0x34482005, 0x14800002, 0x14C00003, 0x34483005] : List Nat)
  ++ ([0x14800004, 0x14C00005, 0x34484005, 0x14800006, 0x14C00007, 0x34485005, 0x14800008, 0x14C00009] : List Nat)
  ++ ([0x34486005, 0x09033000, 0x2D108003, 0x1480000A, 0x14C0000B, 0x35089C85, 0x09835000, 0x09434000] : List Nat)
  ++ ([0x1D994000, 0x2D98A004, 0x15C0000C, 0x21D1C000, 0x12000008, 0x1E1E0000, 0x1640000D, 0x1E524000] : List Nat)
  ++ ([0x129FFFFF, 0x22668000, 0x259A4000, 0x359CBC85, 0x40244040, 0x40944240, 0x40344080, 0x40B44480] : List Nat)
  ++ ([0x404440C0, 0x40544100, 0x406D8000, 0x406D4000, 0x402D4000, 0x40BD0104, 0x13400000, 0x13800000] : List Nat)
  ++ ([0x0B036000, 0x3B34C140, 0x40C4C600, 0x0B037000, 0x3B34D140, 0x40D4C640, 0x0B038000, 0x3B34E140] : List Nat)
  ++ ([0x40E4C680, 0x0B039000, 0x3B34F140, 0x40F4C6C0, 0x0B03A000, 0x3B350140, 0x4104C700, 0x0B03B000] : List Nat)
  ++ ([0x3B351140, 0x4114C740, 0x0B03C000, 0x3B352000, 0x4124C000, 0x0B03C001, 0x3B353000, 0x4134C040] : List Nat)
  ++ ([0x0B03C002, 0x3B354000, 0x4144C080, 0x0B03C003, 0x3B355000, 0x4154C0C0, 0x0B03C004, 0x3B356000] : List Nat)
  ++ ([0x4164C100, 0x0B03C005, 0x3B357000, 0x4174C140, 0x0B03C006, 0x3B358000, 0x4184C180, 0x0B03C007] : List Nat)
  ++ ([0x3B359000, 0x4194C1C0, 0x0B03C008, 0x3B35A000, 0x41A4C200, 0x0B03C009, 0x3B35B000, 0x41B4C240] : List Nat)
  ++ ([0x0B03C00A, 0x3B35C000, 0x41C4C280, 0x0B03C00B, 0x3B35D000, 0x41D4C2C0, 0x0B03C00C, 0x3B35E000] : List Nat)
  ++ ([0x41E4C300, 0x0B03C00D, 0x3B35F000, 0x41F4C340, 0x0B03C00E, 0x3B360000, 0x4204C380, 0x0B03C00F] : List Nat)
  ++ ([0x3B361000, 0x4214C3C0, 0x0B03C010, 0x3B362000, 0x4224C400, 0x0B03C011, 0x3B363000, 0x4234C440] : List Nat)
  ++ ([0x0B03C012, 0x3B364000, 0x4244C480, 0x0B03C013, 0x3B365000, 0x4254C4C0, 0x0B03C014, 0x3B366000] : List Nat)
  ++ ([0x4264C500, 0x0B03C015, 0x3B367000, 0x4274C540, 0x0B03C016, 0x3B368000, 0x4284C580, 0x0B03C017] : List Nat)
  ++ ([0x3B369000, 0x4294C5C0, 0x0B03D000, 0x3B36A000, 0x42A4C780, 0x0B03D001, 0x3B36B000, 0x42B4C7C0] : List Nat)
  ++ ([0x0B03D002, 0x3B36C000, 0x42C4C800, 0x0B03D003, 0x3B36D000, 0x42D4C840, 0x00000000] : List Nat)

/-! ### Fields -/

def GLOBAL_ID.device_id : Fld := ⟨.GLOBAL_ID, 16, 16, .ro, false, fun _ => 0x9600⟩
def GLOBAL_ID.vendor_id : Fld := ⟨.GLOBAL_ID, 0, 16, .ro, false, fun _ => 0x1F4B⟩
def GLOBAL_STATUS.identity_degraded : Fld := ⟨.GLOBAL_STATUS, 4, 1, .ro, false, fun _ => 0⟩
def GLOBAL_STATUS.compat_view_active : Fld := ⟨.GLOBAL_STATUS, 3, 1, .ro, false, fun _ => 0⟩
def GLOBAL_STATUS.degraded : Fld := ⟨.GLOBAL_STATUS, 2, 1, .ro, false, fun _ => 0⟩
def GLOBAL_STATUS.cfg_frozen : Fld := ⟨.GLOBAL_STATUS, 1, 1, .ro, false, fun _ => 0⟩
def GLOBAL_STATUS.ridge_down : Fld := ⟨.GLOBAL_STATUS, 0, 1, .ro, false, fun _ => 0⟩
def GLOBAL_CTRL.compat_view : Fld := ⟨.GLOBAL_CTRL, 8, 1, .rw, true, fun _ => 0⟩
def GLOBAL_CTRL.devtime_src : Fld := ⟨.GLOBAL_CTRL, 4, 4, .rw, false, fun _ => 0⟩
def GLOBAL_CTRL.cfg_owner : Fld := ⟨.GLOBAL_CTRL, 0, 2, .rw, true, fun _ => 0b00⟩
def TXN_CTRL.persist : Fld := ⟨.TXN_CTRL, 4, 1, .wo, false, fun _ => 0⟩
def TXN_CTRL.op : Fld := ⟨.TXN_CTRL, 0, 2, .wo, false, fun _ => 0⟩
def TXN_STATUS.fail_check : Fld := ⟨.TXN_STATUS, 24, 8, .ro, false, fun _ => 0⟩
def TXN_STATUS.result : Fld := ⟨.TXN_STATUS, 16, 8, .ro, false, fun _ => 0⟩
def TXN_STATUS.overflow : Fld := ⟨.TXN_STATUS, 3, 1, .ro, false, fun _ => 0⟩
def TXN_STATUS.conflict : Fld := ⟨.TXN_STATUS, 2, 1, .ro, false, fun _ => 0⟩
def TXN_STATUS.state : Fld := ⟨.TXN_STATUS, 0, 2, .ro, false, fun _ => 0⟩
def TXN_FAIL_ADDR.offset : Fld := ⟨.TXN_FAIL_ADDR, 0, 24, .ro, false, fun _ => 0⟩
def TXN_FAIL_INFO.function_ : Fld := ⟨.TXN_FAIL_INFO, 0, 10, .ro, false, fun _ => 0⟩
def TXN_FAIL_INFO.no_word : Fld := ⟨.TXN_FAIL_INFO, 10, 1, .ro, false, fun _ => 0⟩
def TXN_FAIL_INFO.no_owner : Fld := ⟨.TXN_FAIL_INFO, 11, 1, .ro, false, fun _ => 0⟩
def TXN_FAIL_INFO.wear_wait_ms : Fld := ⟨.TXN_FAIL_INFO, 16, 16, .ro, false, fun _ => 0⟩
def TXN_TIMEOUT.timeout_ms : Fld := ⟨.TXN_TIMEOUT, 0, 16, .rw, true, fun _ => 100⟩
def TXN_OPEN_TIME.devtime : Fld := ⟨.TXN_OPEN_TIME, 0, 64, .ro, false, fun _ => 0⟩
def TXN_STAGED.words : Fld := ⟨.TXN_STAGED, 0, 16, .ro, false, fun _ => 0⟩
def TXN_PERSIST_SEQ.seq : Fld := ⟨.TXN_PERSIST_SEQ, 0, 64, .ro, false, fun _ => 0⟩
def PWR_STATE_MISC.sill : Fld := ⟨.PWR_STATE_MISC, 0, 4, .ro, false, fun _ => 0⟩
def PWR_STATE_MISC.core : Fld := ⟨.PWR_STATE_MISC, 4, 4, .ro, false, fun _ => 0⟩
def PWR_STATE_MISC.ridge : Fld := ⟨.PWR_STATE_MISC, 8, 4, .ro, false, fun _ => 0⟩
def PWR_STATE_MISC.hmd : Fld := ⟨.PWR_STATE_MISC, 16, 16, .ro, false, fun _ => 0⟩
def PWR_STATE_MISC.hcr : Fld := ⟨.PWR_STATE_MISC, 32, 16, .ro, false, fun _ => 0⟩
def PWR_STATE_MISC.ts : Fld := ⟨.PWR_STATE_MISC, 48, 16, .ro, false, fun _ => 0⟩
def PWR_STATE_EG.eg : Fld := ⟨.PWR_STATE_EG, 0, 24, .ro, false, fun _ => 0⟩
def PWR_STATE_BAY0.bay : Fld := ⟨.PWR_STATE_BAY0, 0, 64, .ro, false, fun _ => 0x3333333333333333⟩
def PWR_STATE_BAY1.bay : Fld := ⟨.PWR_STATE_BAY1, 0, 32, .ro, false, fun _ => 0x33333333⟩
def PWR_THROTTLE.step : Fld := ⟨.PWR_THROTTLE, 0, 3, .ro, false, fun _ => 0⟩
def PWR_THROTTLE.cause_power : Fld := ⟨.PWR_THROTTLE, 3, 1, .ro, false, fun _ => 0⟩
def PWR_THROTTLE.cause_flow : Fld := ⟨.PWR_THROTTLE, 4, 1, .ro, false, fun _ => 0⟩
def RSS_BOOT_STATUS.source : Fld := ⟨.RSS_BOOT_STATUS, 0, 3, .ro, false, fun _ => 0⟩
def RSS_BOOT_STATUS.torn_commit : Fld := ⟨.RSS_BOOT_STATUS, 3, 1, .ro, false, fun _ => 0⟩
def RSS_BOOT_STATUS.torn_compaction : Fld := ⟨.RSS_BOOT_STATUS, 4, 1, .ro, false, fun _ => 0⟩
def RSS_BOOT_STATUS.bank0_invalid : Fld := ⟨.RSS_BOOT_STATUS, 5, 1, .ro, false, fun _ => 0⟩
def RSS_BOOT_STATUS.bank1_invalid : Fld := ⟨.RSS_BOOT_STATUS, 6, 1, .ro, false, fun _ => 0⟩
def RSS_BOOT_STATUS.journal_corrupt : Fld := ⟨.RSS_BOOT_STATUS, 7, 1, .ro, false, fun _ => 0⟩
def RSS_BOOT_STATUS.fallback : Fld := ⟨.RSS_BOOT_STATUS, 8, 1, .ro, false, fun _ => 0⟩
def RSS_BOOT_STATUS.check_failed : Fld := ⟨.RSS_BOOT_STATUS, 9, 1, .ro, false, fun _ => 0⟩
def RSS_BOOT_STATUS.records_applied : Fld := ⟨.RSS_BOOT_STATUS, 16, 16, .ro, false, fun _ => 0⟩
def RSS_IMAGE_SEQ.seq : Fld := ⟨.RSS_IMAGE_SEQ, 0, 64, .ro, false, fun _ => 0⟩
def RSS_LAST_SEQ.seq : Fld := ⟨.RSS_LAST_SEQ, 0, 64, .ro, false, fun _ => 0⟩
def RSS_STATUS.busy : Fld := ⟨.RSS_STATUS, 0, 1, .ro, false, fun _ => 0⟩
def RSS_STATUS.bank : Fld := ⟨.RSS_STATUS, 1, 1, .ro, false, fun _ => 0⟩
def RSS_STATUS.journal : Fld := ⟨.RSS_STATUS, 2, 1, .ro, false, fun _ => 0⟩
def RSS_STATUS.journal_used : Fld := ⟨.RSS_STATUS, 16, 14, .ro, false, fun _ => 0⟩
def RSS_WEAR.tokens : Fld := ⟨.RSS_WEAR, 0, 17, .ro, false, fun _ => 65536⟩
def RSS_CTRL.compact : Fld := ⟨.RSS_CTRL, 0, 1, .w1s, false, fun _ => 0⟩
def HP_LINK_STATUS.link_up : Fld := ⟨.HP_LINK_STATUS, 0, 1, .ro, false, fun _ => 0⟩
def HP_LINK_STATUS.flit_mode : Fld := ⟨.HP_LINK_STATUS, 1, 1, .ro, false, fun _ => 0⟩
def HP_LINK_STATUS.rate : Fld := ⟨.HP_LINK_STATUS, 2, 3, .ro, false, fun _ => 0⟩
def HP_LINK_STATUS.width : Fld := ⟨.HP_LINK_STATUS, 5, 5, .ro, false, fun _ => 0⟩
def HP_LINK_STATUS.l0p_width : Fld := ⟨.HP_LINK_STATUS, 10, 5, .ro, false, fun _ => 0⟩
def HP_LINK_STATUS.reversed : Fld := ⟨.HP_LINK_STATUS, 15, 1, .ro, false, fun _ => 0⟩
def HP_LINK_STATUS.degraded : Fld := ⟨.HP_LINK_STATUS, 16, 1, .ro, false, fun _ => 0⟩
def HP_LINK_STATUS.sris : Fld := ⟨.HP_LINK_STATUS, 17, 1, .ro, false, fun _ => 0⟩
def HP_LINK_STATUS.pm_state : Fld := ⟨.HP_LINK_STATUS, 18, 2, .ro, false, fun _ => 3⟩
def HP_LINK_STATUS.l1_sub : Fld := ⟨.HP_LINK_STATUS, 20, 2, .ro, false, fun _ => 0⟩
def HP_LINK_CTRL.max_rate : Fld := ⟨.HP_LINK_CTRL, 0, 3, .rw, false, fun _ => 6⟩
def HP_LINK_CTRL.max_width : Fld := ⟨.HP_LINK_CTRL, 3, 5, .rw, false, fun _ => 16⟩
def HP_LINK_CTRL.eq_bypass : Fld := ⟨.HP_LINK_CTRL, 8, 1, .rw, false, fun _ => 1⟩
def HP_PM_CTRL.l1_idle_us : Fld := ⟨.HP_PM_CTRL, 0, 8, .rw, false, fun _ => 10⟩
def HP_PM_CTRL.l0p_auto : Fld := ⟨.HP_PM_CTRL, 8, 1, .rw, false, fun _ => 1⟩
def HP_PM_CTRL.l0p_min_width : Fld := ⟨.HP_PM_CTRL, 9, 5, .rw, false, fun _ => 1⟩
def HP_PM_CTRL.l0p_narrow_pct : Fld := ⟨.HP_PM_CTRL, 16, 8, .rw, false, fun _ => 40⟩
def HP_PM_CTRL.l0p_widen_pct : Fld := ⟨.HP_PM_CTRL, 24, 8, .rw, false, fun _ => 80⟩
def HP_LTR.busy_ns : Fld := ⟨.HP_LTR, 0, 32, .rw, false, fun _ => 2000⟩
def HP_LTR.idle_ns : Fld := ⟨.HP_LTR, 32, 32, .rw, false, fun _ => 1000000⟩
def HP_TAG.in_use : Fld := ⟨.HP_TAG, 0, 13, .ro, false, fun _ => 0⟩
def HP_TAG.mode : Fld := ⟨.HP_TAG, 13, 2, .ro, false, fun _ => 0⟩
def HP_TAG.vf_cap : Fld := ⟨.HP_TAG, 16, 13, .rw, false, fun _ => 256⟩
def HP_PTM_CTRL.period_ms : Fld := ⟨.HP_PTM_CTRL, 8, 8, .rw, false, fun _ => 10⟩
def HP_PTM_STATUS.ctx_valid : Fld := ⟨.HP_PTM_STATUS, 0, 1, .ro, false, fun _ => 0⟩
def HP_PTM_STATUS.steering : Fld := ⟨.HP_PTM_STATUS, 1, 1, .ro, false, fun _ => 0⟩
def HP_PTM_STATUS.stepped : Fld := ⟨.HP_PTM_STATUS, 2, 1, .w1c, false, fun _ => 0⟩
def HP_PTM_STATUS.align_fault : Fld := ⟨.HP_PTM_STATUS, 3, 1, .w1c, false, fun _ => 0⟩
def HP_PTM_STATUS.pps_reject : Fld := ⟨.HP_PTM_STATUS, 4, 1, .w1c, false, fun _ => 0⟩
def HP_PTM_OFFSET.offset : Fld := ⟨.HP_PTM_OFFSET, 0, 64, .ro, false, fun _ => 0⟩
def HP_PPS_DEVTIME.stamp : Fld := ⟨.HP_PPS_DEVTIME, 0, 64, .ro, false, fun _ => 0⟩
def HP_PPS_HOST.host_time : Fld := ⟨.HP_PPS_HOST, 0, 64, .ro, false, fun _ => 0⟩
def HP_IDE_STATUS.link_secure : Fld := ⟨.HP_IDE_STATUS, 0, 1, .ro, false, fun _ => 0⟩
def HP_IDE_STATUS.sel_secure : Fld := ⟨.HP_IDE_STATUS, 1, 8, .ro, false, fun _ => 0⟩
def HP_IDE_STATUS.key_change : Fld := ⟨.HP_IDE_STATUS, 9, 1, .ro, false, fun _ => 0⟩
def FUNC_ID.index : Fld := ⟨.FUNC_ID, 0, 10, .ro, false, fun i => i⟩
def FUNC_ID.pf : Fld := ⟨.FUNC_ID, 10, 2, .ro, false, fun i => if i < 4 then i else (i - 4) / 255⟩
def FUNC_ID.vf : Fld := ⟨.FUNC_ID, 12, 8, .ro, false, fun i => if i < 4 then 0 else (i - 4) % 255 + 1⟩
def FUNC_ID.is_vf : Fld := ⟨.FUNC_ID, 20, 1, .ro, false, fun i => b2n (4 ≤ i)⟩
def FUNC_ID.exists : Fld := ⟨.FUNC_ID, 21, 1, .ro, false, fun i => b2n (i < 4)⟩
def FUNC_STATE.gen : Fld := ⟨.FUNC_STATE, 0, 8, .ro, false, fun _ => 0⟩
def FUNC_STATE.bme : Fld := ⟨.FUNC_STATE, 8, 1, .ro, false, fun _ => 0⟩
def FUNC_STATE.mse : Fld := ⟨.FUNC_STATE, 9, 1, .ro, false, fun _ => 0⟩
def FUNC_STATE.flr_active : Fld := ⟨.FUNC_STATE, 10, 1, .ro, false, fun _ => 0⟩
def FUNC_STATE.d3hot : Fld := ⟨.FUNC_STATE, 11, 1, .ro, false, fun _ => 0⟩
def FUNC_STATE.quiescing : Fld := ⟨.FUNC_STATE, 12, 1, .ro, false, fun _ => 0⟩
def FUNC_APERTURE.limit_log2 : Fld := ⟨.FUNC_APERTURE, 0, 6, .rw, true, fun i => if i < 4 then 34 else 28⟩
def FUNC_SLACK.floor : Fld := ⟨.FUNC_SLACK, 0, 15, .rw, true, fun _ => 0⟩
def FUNC_OWNED.queues : Fld := ⟨.FUNC_OWNED, 0, 13, .ro, false, fun _ => 0⟩
def FUNC_OWNED.peg_sources : Fld := ⟨.FUNC_OWNED, 16, 15, .ro, false, fun _ => 0⟩
def FUNC_OWNED.segments : Fld := ⟨.FUNC_OWNED, 32, 17, .ro, false, fun _ => 0⟩
def FUNC_OWNED2.vectors : Fld := ⟨.FUNC_OWNED2, 0, 12, .ro, false, fun _ => 0⟩
def FUNC_OWNED2.ports : Fld := ⟨.FUNC_OWNED2, 16, 7, .ro, false, fun _ => 0⟩
def FUNC_FLR.host_tags : Fld := ⟨.FUNC_FLR, 0, 13, .ro, false, fun _ => 0⟩
def FUNC_FLR.local_tags : Fld := ⟨.FUNC_FLR, 16, 16, .ro, false, fun _ => 0⟩
def FUNC_FLR_TIME.devtime : Fld := ⟨.FUNC_FLR_TIME, 0, 64, .rws, false, fun _ => 0⟩
def FUNC_FLR_DONE.devtime : Fld := ⟨.FUNC_FLR_DONE, 0, 64, .rws, false, fun _ => 0⟩
def FUNC_MOVE_LOG.queue : Fld := ⟨.FUNC_MOVE_LOG, 0, 16, .rws, false, fun _ => 0xFFFF⟩
def FUNC_MOVE_LOG.desc_index : Fld := ⟨.FUNC_MOVE_LOG, 16, 16, .rws, false, fun _ => 0⟩
def FUNC_MOVE_LOG.abandoned : Fld := ⟨.FUNC_MOVE_LOG, 32, 1, .rws, false, fun _ => 0⟩
def FUNC_MOVE_LOG.multiple : Fld := ⟨.FUNC_MOVE_LOG, 33, 1, .rws, false, fun _ => 0⟩
def PRT_CTRL.enable : Fld := ⟨.PRT_CTRL, 0, 1, .rw, true, fun _ => 1⟩
def PRT_CTRL.owner : Fld := ⟨.PRT_CTRL, 1, 2, .rw, true, fun _ => 0b00⟩
def PRT_CTRL.up : Fld := ⟨.PRT_CTRL, 3, 1, .ro, false, fun _ => 0⟩
def PRT_CTRL.scarfed : Fld := ⟨.PRT_CTRL, 4, 1, .ro, false, fun _ => 0⟩
def PRT_BASE.base : Fld := ⟨.PRT_BASE, 12, 36, .rw, true, fun i => i * 2 ^ 28⟩
def PRT_SIZE.pages_m1 : Fld := ⟨.PRT_SIZE, 0, 36, .rw, true, fun _ => 0x0FFFFFFF⟩
def LEDGER_GRANT.first : Fld := ⟨.LEDGER_GRANT, 0, 16, .rw, true, fun i => 0x4000 * i⟩
def LEDGER_GRANT.last : Fld := ⟨.LEDGER_GRANT, 16, 16, .rw, true, fun i => 0x4000 * i + 0x3FFF⟩
def LEDGER_STATUS.valid_segments : Fld := ⟨.LEDGER_STATUS, 0, 17, .ro, false, fun _ => 0⟩
def LEDGER_ECC.ue_seg : Fld := ⟨.LEDGER_ECC, 0, 16, .ro, false, fun _ => 0⟩
def LEDGER_ECC.ue : Fld := ⟨.LEDGER_ECC, 16, 1, .w1c, false, fun _ => 0⟩
def LEDGER_ECC.ce : Fld := ⟨.LEDGER_ECC, 17, 1, .w1c, false, fun _ => 0⟩
def LEDGER_ECC.ce_seg : Fld := ⟨.LEDGER_ECC, 32, 16, .ro, false, fun _ => 0⟩
def SEG_CTRL.valid : Fld := ⟨.SEG_CTRL, 0, 1, .rw, true, fun _ => 0⟩
def SEG_CTRL.kind : Fld := ⟨.SEG_CTRL, 1, 1, .rw, true, fun _ => 0⟩
def SEG_CTRL.rd : Fld := ⟨.SEG_CTRL, 2, 1, .rw, true, fun _ => 0⟩
def SEG_CTRL.wr : Fld := ⟨.SEG_CTRL, 3, 1, .rw, true, fun _ => 0⟩
def SEG_CTRL.down_mode : Fld := ⟨.SEG_CTRL, 4, 1, .rw, true, fun _ => 0⟩
def SEG_CTRL.dl_valid : Fld := ⟨.SEG_CTRL, 5, 1, .rw, true, fun _ => 0⟩
def SEG_CTRL.vc : Fld := ⟨.SEG_CTRL, 6, 3, .rw, true, fun _ => 0⟩
def SEG_CTRL.pasid_en : Fld := ⟨.SEG_CTRL, 9, 1, .rw, true, fun _ => 0⟩
def SEG_CTRL.poisoned : Fld := ⟨.SEG_CTRL, 10, 1, .ro, false, fun _ => 0⟩
def SEG_CTRL.port : Fld := ⟨.SEG_CTRL, 16, 7, .rw, true, fun _ => 0⟩
def SEG_CTRL.gen : Fld := ⟨.SEG_CTRL, 24, 8, .ro, false, fun _ => 0⟩
def SEG_CTRL.owner : Fld := ⟨.SEG_CTRL, 32, 10, .rw, true, fun _ => 0⟩
def SEG_SRC.src_base : Fld := ⟨.SEG_SRC, 12, 36, .rw, true, fun _ => 0⟩
def SEG_SRC.dl_default : Fld := ⟨.SEG_SRC, 48, 15, .rw, true, fun _ => 0⟩
def SEG_LEN.pages_m1 : Fld := ⟨.SEG_LEN, 0, 36, .rw, true, fun _ => 0⟩
def SEG_LEN.pasid : Fld := ⟨.SEG_LEN, 36, 20, .rw, true, fun _ => 0⟩
def SEG_DST.dst_base : Fld := ⟨.SEG_DST, 12, 52, .rw, true, fun _ => 0⟩
def Q_CFG.owner : Fld := ⟨.Q_CFG, 0, 10, .rw, true, fun _ => 0⟩
def Q_CFG.eg : Fld := ⟨.Q_CFG, 16, 3, .rw, true, fun i => i % 6⟩
def Q_CFG.rate_cap : Fld := ⟨.Q_CFG, 24, 9, .rw, true, fun _ => 256⟩
def Q_CFG.cq_vector : Fld := ⟨.Q_CFG, 48, 11, .rw, true, fun _ => 0⟩
def Q_STATE.state : Fld := ⟨.Q_STATE, 0, 4, .ro, false, fun _ => 0⟩
def Q_STATE.gen : Fld := ⟨.Q_STATE, 8, 8, .ro, false, fun _ => 0⟩
def Q_STATE.held_cmp : Fld := ⟨.Q_STATE, 16, 1, .ro, false, fun _ => 0⟩
def Q_STATE.cmd_rejected : Fld := ⟨.Q_STATE, 17, 1, .w1c, false, fun _ => 0⟩
def Q_STATE.cq_wait : Fld := ⟨.Q_STATE, 18, 1, .ro, false, fun _ => 0⟩
def Q_CMD.op : Fld := ⟨.Q_CMD, 0, 3, .wo, false, fun _ => 0⟩
def Q_SQ_BASE.base : Fld := ⟨.Q_SQ_BASE, 12, 52, .rw, false, fun _ => 0⟩
def Q_CQ_BASE.base : Fld := ⟨.Q_CQ_BASE, 12, 52, .rw, false, fun _ => 0⟩
def Q_RING.sq_log2 : Fld := ⟨.Q_RING, 0, 5, .rw, false, fun _ => 0⟩
def Q_RING.cq_log2 : Fld := ⟨.Q_RING, 8, 5, .rw, false, fun _ => 0⟩
def Q_RING.cq_vec_en : Fld := ⟨.Q_RING, 16, 1, .rw, false, fun _ => 0⟩
def Q_RING.pasid : Fld := ⟨.Q_RING, 32, 20, .rw, false, fun _ => 0⟩
def Q_RING.pasid_en : Fld := ⟨.Q_RING, 52, 1, .rw, false, fun _ => 0⟩
def Q_SQ_IDX.sq_tail : Fld := ⟨.Q_SQ_IDX, 0, 16, .ro, false, fun _ => 0⟩
def Q_SQ_IDX.sq_head : Fld := ⟨.Q_SQ_IDX, 16, 16, .ro, false, fun _ => 0⟩
def Q_CQ_IDX.cq_tail : Fld := ⟨.Q_CQ_IDX, 0, 16, .ro, false, fun _ => 0⟩
def Q_CQ_IDX.cq_head : Fld := ⟨.Q_CQ_IDX, 16, 16, .ro, false, fun _ => 0⟩
def Q_CQ_IDX.phase : Fld := ⟨.Q_CQ_IDX, 32, 1, .ro, false, fun _ => 0⟩
def Q_COAL.count : Fld := ⟨.Q_COAL, 0, 8, .rw, false, fun _ => 1⟩
def Q_COAL.time_us : Fld := ⟨.Q_COAL, 8, 16, .rw, false, fun _ => 0⟩
def Q_COAL.pending : Fld := ⟨.Q_COAL, 24, 8, .ro, false, fun _ => 0⟩
def Q_RESUME.index : Fld := ⟨.Q_RESUME, 0, 16, .ro, false, fun _ => 0⟩
def Q_RESUME.piece : Fld := ⟨.Q_RESUME, 16, 13, .ro, false, fun _ => 0⟩
def Q_RESUME.valid : Fld := ⟨.Q_RESUME, 31, 1, .ro, false, fun _ => 0⟩
def Q_RESUME_OFS.offset : Fld := ⟨.Q_RESUME_OFS, 0, 41, .ro, false, fun _ => 0⟩
def Q_RESUME_EXT.ext_addr : Fld := ⟨.Q_RESUME_EXT, 6, 58, .ro, false, fun _ => 0⟩
def Q_ERR_ADDR.addr : Fld := ⟨.Q_ERR_ADDR, 0, 64, .ro, false, fun _ => 0⟩
def Q_ERR_INFO.status : Fld := ⟨.Q_ERR_INFO, 0, 8, .ro, false, fun _ => 0⟩
def Q_ERR_INFO.dir : Fld := ⟨.Q_ERR_INFO, 8, 1, .ro, false, fun _ => 0⟩
def Q_ERR_INFO.space : Fld := ⟨.Q_ERR_INFO, 9, 1, .ro, false, fun _ => 0⟩
def Q_ERR_INFO.source : Fld := ⟨.Q_ERR_INFO, 12, 4, .ro, false, fun _ => 0⟩
def Q_ERR_INFO.index : Fld := ⟨.Q_ERR_INFO, 16, 16, .ro, false, fun _ => 0⟩
def Q_HELD_CMP.entry : Fld := ⟨.Q_HELD_CMP, 0, 64, .ro, false, fun _ => 0⟩
def TE_STATUS.state : Fld := ⟨.TE_STATUS, 0, 3, .ro, false, fun _ => 0⟩
def TE_STATUS.pacing : Fld := ⟨.TE_STATUS, 3, 1, .ro, false, fun _ => 0⟩
def TE_STATUS.group : Fld := ⟨.TE_STATUS, 8, 3, .ro, false, fun i => i / 8⟩
def TE_STATUS.attach : Fld := ⟨.TE_STATUS, 12, 2, .ro, false, fun i => i % 4⟩
def TE_STATUS.channel : Fld := ⟨.TE_STATUS, 16, 12, .ro, false, fun _ => 0⟩
def TE_STATUS.function_ : Fld := ⟨.TE_STATUS, 32, 10, .ro, false, fun _ => 0⟩
def TE_STATUS.desc_index : Fld := ⟨.TE_STATUS, 48, 16, .ro, false, fun _ => 0⟩
def TE_PROGRESS.dst_issued : Fld := ⟨.TE_PROGRESS, 0, 41, .ro, false, fun _ => 0⟩
def TE_PROGRESS.piece : Fld := ⟨.TE_PROGRESS, 44, 13, .ro, false, fun _ => 0⟩
def TE_RDBUF.reserved_bytes : Fld := ⟨.TE_RDBUF, 0, 17, .ro, false, fun _ => 0⟩
def TE_RDBUF.reads : Fld := ⟨.TE_RDBUF, 17, 9, .ro, false, fun _ => 0⟩
def TE_PACE.eff_cap : Fld := ⟨.TE_PACE, 0, 9, .ro, false, fun _ => 256⟩
def TE_PACE.step : Fld := ⟨.TE_PACE, 9, 3, .ro, false, fun _ => 0⟩
def TE_FAULT.hold_parity : Fld := ⟨.TE_FAULT, 0, 1, .w1c, false, fun _ => 0⟩
def TE_FAULT.rdbuf_ue : Fld := ⟨.TE_FAULT, 1, 1, .w1c, false, fun _ => 0⟩
def TE_FAULT.rdbuf_ce : Fld := ⟨.TE_FAULT, 2, 1, .w1c, false, fun _ => 0⟩
def TE_FAULT.bound : Fld := ⟨.TE_FAULT, 3, 1, .ro, false, fun _ => 0⟩
def TE_FAULT.channel : Fld := ⟨.TE_FAULT, 16, 12, .ro, false, fun _ => 0⟩
def SCHED_CTRL.horizon : Fld := ⟨.SCHED_CTRL, 0, 15, .rw, true, fun _ => 256⟩
def SCHED_CTRL.admit_mode : Fld := ⟨.SCHED_CTRL, 16, 2, .rw, true, fun _ => 1⟩
def SCHED_CTRL.fixed_units : Fld := ⟨.SCHED_CTRL, 24, 8, .rw, true, fun _ => 32⟩
def SCHED_MISS_LOG0.devtime : Fld := ⟨.SCHED_MISS_LOG0, 0, 64, .ro, false, fun _ => 0⟩
def SCHED_MISS_LOG1.late_by : Fld := ⟨.SCHED_MISS_LOG1, 0, 16, .ro, false, fun _ => 0⟩
def SCHED_MISS_LOG1.kind : Fld := ⟨.SCHED_MISS_LOG1, 16, 3, .ro, false, fun _ => 0⟩
def SCHED_MISS_LOG1.function_ : Fld := ⟨.SCHED_MISS_LOG1, 20, 10, .ro, false, fun _ => 0⟩
def SCHED_MISS_LOG1.port : Fld := ⟨.SCHED_MISS_LOG1, 32, 7, .ro, false, fun _ => 0x7F⟩
def SCHED_MISS_LOG1.vc : Fld := ⟨.SCHED_MISS_LOG1, 40, 3, .ro, false, fun _ => 0⟩
def SCHED_MISS_LOG1.valid : Fld := ⟨.SCHED_MISS_LOG1, 43, 1, .w1c, false, fun _ => 0⟩
def SCHED_HOSTCPL.reserved_bytes : Fld := ⟨.SCHED_HOSTCPL, 0, 21, .ro, false, fun _ => 0⟩
def SCHED_HOSTCPL.waiting : Fld := ⟨.SCHED_HOSTCPL, 32, 13, .ro, false, fun _ => 0⟩
def SCHED_PORT_CTRL.tagged_share : Fld := ⟨.SCHED_PORT_CTRL, 0, 9, .rw, true, fun _ => 192⟩
def SCHED_PORT_BUSY.busy_until : Fld := ⟨.SCHED_PORT_BUSY, 0, 64, .ro, false, fun _ => 0⟩
def SCHED_RSV_VC.reserved_bytes : Fld := ⟨.SCHED_RSV_VC, 0, 20, .ro, false, fun _ => 0⟩
def SCHED_RSV_VC.waiting : Fld := ⟨.SCHED_RSV_VC, 20, 10, .ro, false, fun _ => 0⟩
def SCHED_RSV_VC.held : Fld := ⟨.SCHED_RSV_VC, 30, 1, .ro, false, fun _ => 0⟩
def SCHED_FUNC.weight : Fld := ⟨.SCHED_FUNC, 0, 4, .rw, true, fun _ => 8⟩
def JP_CTRL.enable : Fld := ⟨.JP_CTRL, 0, 1, .rw, true, fun _ => 1⟩
def JP_CTRL.down_action : Fld := ⟨.JP_CTRL, 1, 2, .rw, true, fun _ => 0⟩
def JP_CTRL.auto_lane_drop : Fld := ⟨.JP_CTRL, 3, 1, .rw, true, fun _ => 1⟩
def JP_CTRL.scarf : Fld := ⟨.JP_CTRL, 4, 1, .rw, true, fun _ => 0⟩
def JP_CTRL.retrain : Fld := ⟨.JP_CTRL, 8, 1, .w1s, false, fun _ => 0⟩
def JP_CTRL.port_reset : Fld := ⟨.JP_CTRL, 9, 1, .w1s, false, fun _ => 0⟩
def JP_CFG.rate : Fld := ⟨.JP_CFG, 0, 2, .rw, true, fun _ => 2⟩
def JP_CFG.cable_class : Fld := ⟨.JP_CFG, 2, 2, .rw, true, fun _ => 1⟩
def JP_CFG.vc_count : Fld := ⟨.JP_CFG, 4, 2, .rw, true, fun _ => 1⟩
def JP_CFG.max_payload : Fld := ⟨.JP_CFG, 8, 3, .rw, true, fun _ => 2⟩
def JP_PART.part0 : Fld := ⟨.JP_PART, 0, 8, .rw, true, fun _ => 16⟩
def JP_PART.part1 : Fld := ⟨.JP_PART, 8, 8, .rw, true, fun _ => 16⟩
def JP_PART.part2 : Fld := ⟨.JP_PART, 16, 8, .rw, true, fun _ => 16⟩
def JP_PART.part3 : Fld := ⟨.JP_PART, 24, 8, .rw, true, fun _ => 16⟩
def JP_PART.part4 : Fld := ⟨.JP_PART, 32, 8, .rw, true, fun _ => 0⟩
def JP_PART.part5 : Fld := ⟨.JP_PART, 40, 8, .rw, true, fun _ => 0⟩
def JP_PART.part6 : Fld := ⟨.JP_PART, 48, 8, .rw, true, fun _ => 0⟩
def JP_PART.part7 : Fld := ⟨.JP_PART, 56, 8, .rw, true, fun _ => 0⟩
def JP_TIMER0.replay_100ns : Fld := ⟨.JP_TIMER0, 0, 10, .rw, true, fun _ => 30⟩
def JP_TIMER0.lock_loss_us : Fld := ⟨.JP_TIMER0, 16, 10, .rw, true, fun _ => 8⟩
def JP_TIMER0.resp_us : Fld := ⟨.JP_TIMER0, 32, 14, .rw, true, fun _ => 20⟩
def JP_TIMER1.replay_limit : Fld := ⟨.JP_TIMER1, 0, 8, .rw, true, fun _ => 8⟩
def JP_TIMER1.train_100us : Fld := ⟨.JP_TIMER1, 8, 10, .rw, true, fun _ => 10⟩
def JP_TIMER1.doze_100ns : Fld := ⟨.JP_TIMER1, 24, 8, .rw, true, fun _ => 20⟩
def JP_TIMER1.sleep_us : Fld := ⟨.JP_TIMER1, 32, 16, .rw, true, fun _ => 100⟩
def JP_STATUS.link_state : Fld := ⟨.JP_STATUS, 0, 3, .ro, false, fun _ => 0⟩
def JP_STATUS.tx_doze : Fld := ⟨.JP_STATUS, 3, 1, .ro, false, fun _ => 0⟩
def JP_STATUS.rx_doze : Fld := ⟨.JP_STATUS, 4, 1, .ro, false, fun _ => 0⟩
def JP_STATUS.tx_mask : Fld := ⟨.JP_STATUS, 5, 2, .ro, false, fun _ => 0b11⟩
def JP_STATUS.rx_mask : Fld := ⟨.JP_STATUS, 7, 2, .ro, false, fun _ => 0b11⟩
def JP_STATUS.req_mask : Fld := ⟨.JP_STATUS, 9, 2, .ro, false, fun _ => 0b11⟩
def JP_STATUS.degraded : Fld := ⟨.JP_STATUS, 11, 1, .ro, false, fun _ => 0⟩
def JP_STATUS.present : Fld := ⟨.JP_STATUS, 12, 1, .ro, false, fun _ => 0⟩
def JP_STATUS.far_hold : Fld := ⟨.JP_STATUS, 16, 8, .ro, false, fun _ => 0⟩
def JP_STATUS.own_hold : Fld := ⟨.JP_STATUS, 24, 8, .ro, false, fun _ => 0⟩
def JP_SEQ.tx_next : Fld := ⟨.JP_SEQ, 0, 12, .ro, false, fun _ => 0⟩
def JP_SEQ.tx_acked : Fld := ⟨.JP_SEQ, 12, 12, .ro, false, fun _ => 0xFFF⟩
def JP_SEQ.rx_expected : Fld := ⟨.JP_SEQ, 24, 12, .ro, false, fun _ => 0⟩
def JP_REPLAY.bytes : Fld := ⟨.JP_REPLAY, 0, 20, .ro, false, fun _ => 0⟩
def JP_REPLAY.frames : Fld := ⟨.JP_REPLAY, 20, 12, .ro, false, fun _ => 0⟩
def JP_REPLAY.replays : Fld := ⟨.JP_REPLAY, 32, 8, .ro, false, fun _ => 0⟩
def JP_REPLAY.stalled : Fld := ⟨.JP_REPLAY, 40, 1, .ro, false, fun _ => 0⟩
def JP_DOWN_LOG.cause : Fld := ⟨.JP_DOWN_LOG, 0, 4, .ro, false, fun _ => 0⟩
def JP_DOWN_TIME.devtime : Fld := ⟨.JP_DOWN_TIME, 0, 64, .ro, false, fun _ => 0⟩
def JT_TAGS.module_tags : Fld := ⟨.JT_TAGS, 0, 12, .ro, false, fun _ => 0⟩
def JT_TAGS.device_tags : Fld := ⟨.JT_TAGS, 16, 12, .ro, false, fun _ => 0⟩
def JT_TIME_CTRL.period_us : Fld := ⟨.JT_TIME_CTRL, 0, 16, .rw, true, fun _ => 1000⟩
def JT_ERR_LOG.status : Fld := ⟨.JT_ERR_LOG, 0, 4, .ro, false, fun _ => 0⟩
def JT_ERR_LOG.kind : Fld := ⟨.JT_ERR_LOG, 4, 4, .ro, false, fun _ => 0⟩
def JT_ERR_LOG.tag : Fld := ⟨.JT_ERR_LOG, 8, 11, .ro, false, fun _ => 0⟩
def JT_ERR_LOG.vc : Fld := ⟨.JT_ERR_LOG, 20, 3, .ro, false, fun _ => 0⟩
def JT_ERR_LOG.valid : Fld := ⟨.JT_ERR_LOG, 23, 1, .w1c, false, fun _ => 0⟩
def JT_ERR_LOG.type : Fld := ⟨.JT_ERR_LOG, 24, 4, .ro, false, fun _ => 0⟩
def JT_ERR_LOG.devtime_lo : Fld := ⟨.JT_ERR_LOG, 32, 32, .ro, false, fun _ => 0⟩
def JT_ERR_ADDR.addr : Fld := ⟨.JT_ERR_ADDR, 0, 48, .ro, false, fun _ => 0⟩
def JT_SCARF.joined : Fld := ⟨.JT_SCARF, 0, 1, .ro, false, fun _ => 0⟩
def JT_SCARF.in_progress : Fld := ⟨.JT_SCARF, 1, 1, .ro, false, fun _ => 0⟩
def JT_SCARF.mismatch : Fld := ⟨.JT_SCARF, 2, 1, .w1c, false, fun _ => 0⟩
def JT_SCARF.max_skew : Fld := ⟨.JT_SCARF, 8, 4, .ro, false, fun _ => 0⟩
def JL_CTRL.loop : Fld := ⟨.JL_CTRL, 0, 2, .rw, false, fun _ => 0⟩
def JL_CTRL.seed_mode : Fld := ⟨.JL_CTRL, 2, 1, .rw, true, fun _ => 1⟩
def JL_CTRL.pre_tap : Fld := ⟨.JL_CTRL, 4, 4, .rw, true, fun _ => 0⟩
def JL_CTRL.post_tap : Fld := ⟨.JL_CTRL, 8, 4, .rw, true, fun _ => 0⟩
def JL_CTRL.swing : Fld := ⟨.JL_CTRL, 12, 2, .rw, true, fun _ => 2⟩
def JL_STATUS.state : Fld := ⟨.JL_STATUS, 0, 3, .ro, false, fun _ => 0⟩
def JL_STATUS.cdr_lock : Fld := ⟨.JL_STATUS, 3, 1, .ro, false, fun _ => 0⟩
def JL_STATUS.word_lock : Fld := ⟨.JL_STATUS, 4, 1, .ro, false, fun _ => 0⟩
def JL_STATUS.inverted : Fld := ⟨.JL_STATUS, 5, 1, .ro, false, fun _ => 0⟩
def JL_STATUS.order_error : Fld := ⟨.JL_STATUS, 6, 1, .ro, false, fun _ => 0⟩
def JL_STATUS.far_ready : Fld := ⟨.JL_STATUS, 7, 1, .ro, false, fun _ => 0⟩
def JL_STATUS.deskew : Fld := ⟨.JL_STATUS, 8, 5, .ro, false, fun _ => 0⟩
def JL_STATUS.rx_fill : Fld := ⟨.JL_STATUS, 16, 2, .ro, false, fun _ => 0⟩
def JL_STATUS.rx_count : Fld := ⟨.JL_STATUS, 24, 8, .ro, false, fun _ => 0⟩
def JL_SEED.tx_seed : Fld := ⟨.JL_SEED, 0, 31, .ro, false, fun _ => 0⟩
def JL_SEED.rx_seed : Fld := ⟨.JL_SEED, 32, 31, .ro, false, fun _ => 0⟩
def JL_PRBS.pattern : Fld := ⟨.JL_PRBS, 0, 2, .rw, false, fun _ => 0⟩
def JL_PRBS.gen_en : Fld := ⟨.JL_PRBS, 2, 1, .rw, false, fun _ => 0⟩
def JL_PRBS.chk_en : Fld := ⟨.JL_PRBS, 3, 1, .rw, false, fun _ => 0⟩
def JL_PRBS.invert : Fld := ⟨.JL_PRBS, 4, 1, .rw, false, fun _ => 0⟩
def JL_PRBS.chk_lock : Fld := ⟨.JL_PRBS, 5, 1, .ro, false, fun _ => 0⟩
def JL_PRBS.err : Fld := ⟨.JL_PRBS, 6, 1, .w1c, false, fun _ => 0⟩
def BAY_STATUS.present : Fld := ⟨.BAY_STATUS, 0, 4, .ro, false, fun _ => 0⟩
def BAY_STATUS.reset_out : Fld := ⟨.BAY_STATUS, 4, 4, .ro, false, fun _ => 0xF⟩
def BAY_STATUS.pll_lock : Fld := ⟨.BAY_STATUS, 8, 1, .ro, false, fun _ => 0⟩
def BAY_STATUS.state : Fld := ⟨.BAY_STATUS, 12, 4, .ro, false, fun _ => 3⟩
def BAY_STATUS.bay_id : Fld := ⟨.BAY_STATUS, 16, 5, .ro, false, fun i => i⟩
def BAY_CTRL.bay_reset : Fld := ⟨.BAY_CTRL, 0, 1, .w1s, false, fun _ => 0⟩
def PEG_SRC_CTRL.owner : Fld := ⟨.PEG_SRC_CTRL, 0, 10, .rw, true, fun _ => 0⟩
def PEG_SRC_CTRL.enable : Fld := ⟨.PEG_SRC_CTRL, 10, 1, .rw, true, fun _ => 0⟩
def PEG_SRC_CTRL.auto_eos : Fld := ⟨.PEG_SRC_CTRL, 11, 1, .rw, true, fun _ => 0⟩
def PEG_SRC_TGT.entry0 : Fld := ⟨.PEG_SRC_TGT, 0, 11, .rw, true, fun _ => 0⟩
def PEG_SRC_TGT.entry1 : Fld := ⟨.PEG_SRC_TGT, 16, 11, .rw, true, fun _ => 0⟩
def PEG_SRC_TGT.entry2 : Fld := ⟨.PEG_SRC_TGT, 32, 11, .rw, true, fun _ => 0⟩
def PEG_SRC_TGT.entry3 : Fld := ⟨.PEG_SRC_TGT, 48, 11, .rw, true, fun _ => 0⟩
def PEG_SRC_TGT.en0 : Fld := ⟨.PEG_SRC_TGT, 15, 1, .rw, true, fun _ => 0⟩
def PEG_SRC_TGT.en1 : Fld := ⟨.PEG_SRC_TGT, 31, 1, .rw, true, fun _ => 0⟩
def PEG_SRC_TGT.en2 : Fld := ⟨.PEG_SRC_TGT, 47, 1, .rw, true, fun _ => 0⟩
def PEG_SRC_TGT.en3 : Fld := ⟨.PEG_SRC_TGT, 63, 1, .rw, true, fun _ => 0⟩
def PEG_SRC_STATUS.state : Fld := ⟨.PEG_SRC_STATUS, 0, 2, .ro, false, fun _ => 0⟩
def PEG_SRC_STATUS.last_target : Fld := ⟨.PEG_SRC_STATUS, 2, 2, .ro, false, fun _ => 3⟩
def PEG_SRC_STATUS.held : Fld := ⟨.PEG_SRC_STATUS, 4, 1, .ro, false, fun _ => 0⟩
def PEG_SRC_STATUS.index : Fld := ⟨.PEG_SRC_STATUS, 8, 15, .ro, false, fun i => i⟩
def PEG_SRC_STATUS.last_devtime : Fld := ⟨.PEG_SRC_STATUS, 32, 32, .ro, false, fun _ => 0⟩
def PEG_SRC_CMD.eos : Fld := ⟨.PEG_SRC_CMD, 0, 1, .wo, false, fun _ => 0⟩
def PEG_SRC_CMD.raise : Fld := ⟨.PEG_SRC_CMD, 1, 1, .wo, false, fun _ => 0⟩
def PEG_VMAP.function_ : Fld := ⟨.PEG_VMAP, 0, 10, .rw, true, fun i => if i < 8192 then i / 2048 else 0⟩
def PEG_VMAP.entry : Fld := ⟨.PEG_VMAP, 10, 11, .rw, true, fun i => if i < 8192 then i % 2048 else 0⟩
def PEG_VMAP.assigned : Fld := ⟨.PEG_VMAP, 21, 1, .rw, true, fun i => b2n (i < 8192)⟩
def FAULT_TOP.subsystem : Fld := ⟨.FAULT_TOP, 0, 14, .ro, false, fun _ => 0⟩
def FAULT_TOP.summary : Fld := ⟨.FAULT_TOP, 15, 1, .ro, false, fun _ => 0⟩
def FAULT_TOP.severe : Fld := ⟨.FAULT_TOP, 16, 14, .ro, false, fun _ => 0⟩
def BRACE_CTRL.hist_notices : Fld := ⟨.BRACE_CTRL, 0, 1, .rw, false, fun _ => 1⟩
def BRACE_HIST_PTR.next : Fld := ⟨.BRACE_HIST_PTR, 0, 6, .ro, false, fun _ => 0⟩
def BRACE_HIST_PTR.next_seq : Fld := ⟨.BRACE_HIST_PTR, 16, 16, .ro, false, fun _ => 0⟩
def BRACE_TRESTLE.restarts : Fld := ⟨.BRACE_TRESTLE, 0, 2, .ro, false, fun _ => 0⟩
def BRACE_TRESTLE.restarting : Fld := ⟨.BRACE_TRESTLE, 2, 1, .ro, false, fun _ => 0⟩
def BRACE_TRESTLE.alive : Fld := ⟨.BRACE_TRESTLE, 3, 1, .w1s, false, fun _ => 0⟩
def BRACE_TRESTLE.cause : Fld := ⟨.BRACE_TRESTLE, 4, 4, .ro, false, fun _ => 0⟩
def BRACE_TRESTLE.wdog_ms : Fld := ⟨.BRACE_TRESTLE, 32, 10, .rw, false, fun _ => 100⟩
def BRACE_RELEASE.domain : Fld := ⟨.BRACE_RELEASE, 0, 8, .wo, false, fun _ => 0⟩
def FAULT_DETAIL.code : Fld := ⟨.FAULT_DETAIL, 0, 64, .w1c, false, fun _ => 0⟩
def FAULT_SEV.severe : Fld := ⟨.FAULT_SEV, 0, 64, .ro, false, fun _ => 0⟩
def BRACE_DSTATE.state : Fld := ⟨.BRACE_DSTATE, 0, 2, .ro, false, fun _ => 0⟩
def BRACE_DSTATE.severe : Fld := ⟨.BRACE_DSTATE, 2, 1, .ro, false, fun _ => 0⟩
def BRACE_DSTATE.first_seq : Fld := ⟨.BRACE_DSTATE, 16, 16, .ro, false, fun _ => 0⟩
def BRACE_DSTATE.merge_count : Fld := ⟨.BRACE_DSTATE, 32, 8, .ro, false, fun _ => 0⟩
def BRACE_DSTATE.arrival : Fld := ⟨.BRACE_DSTATE, 40, 12, .ro, false, fun _ => 0⟩
def BRACE_CLASS.thresh : Fld := ⟨.BRACE_CLASS, 0, 8, .rw, false, fun i => classThresh (i / 64) (i % 64)⟩
def BRACE_CLASS.window_ms : Fld := ⟨.BRACE_CLASS, 8, 16, .rw, false, fun i => classWindow (i / 64) (i % 64)⟩
def BRACE_HIST.word : Fld := ⟨.BRACE_HIST, 0, 64, .ro, false, fun _ => 0⟩
def MB_CTRL.go : Fld := ⟨.MB_CTRL, 0, 1, .w1s, false, fun _ => 0⟩
def MB_CTRL.abort : Fld := ⟨.MB_CTRL, 1, 1, .w1s, false, fun _ => 0⟩
def MB_CTRL.vector : Fld := ⟨.MB_CTRL, 16, 11, .rw, false, fun _ => 0⟩
def MB_CTRL.vec_en : Fld := ⟨.MB_CTRL, 27, 1, .rw, false, fun _ => 0⟩
def MB_STATUS.state : Fld := ⟨.MB_STATUS, 0, 2, .ro, false, fun _ => 0⟩
def MB_STATUS.result : Fld := ⟨.MB_STATUS, 8, 8, .ro, false, fun _ => 0⟩
def MB_STATUS.rsp_len : Fld := ⟨.MB_STATUS, 16, 13, .ro, false, fun _ => 0⟩
def MB_STATUS.rejected : Fld := ⟨.MB_STATUS, 31, 1, .w1c, false, fun _ => 0⟩
def MB_CMD.opcode : Fld := ⟨.MB_CMD, 0, 8, .rw, false, fun _ => 0⟩
def MB_CMD.req_len : Fld := ⟨.MB_CMD, 16, 13, .rw, false, fun _ => 0⟩
def MB_REQ.word : Fld := ⟨.MB_REQ, 0, 64, .rw, false, fun _ => 0⟩
def MB_RSP.word : Fld := ⟨.MB_RSP, 0, 64, .ro, false, fun _ => 0⟩
def PLUMB_CTRL.period_us : Fld := ⟨.PLUMB_CTRL, 0, 17, .rw, true, fun _ => 100⟩
def PLUMB_STATUS.running : Fld := ⟨.PLUMB_STATUS, 0, 1, .ro, false, fun _ => 0⟩
def PLUMB_STATUS.swap_pending : Fld := ⟨.PLUMB_STATUS, 1, 1, .ro, false, fun _ => 0⟩
def PLUMB_STATUS.backstop : Fld := ⟨.PLUMB_STATUS, 2, 1, .ro, false, fun _ => 0⟩
def PLUMB_STATUS.stored : Fld := ⟨.PLUMB_STATUS, 3, 1, .ro, false, fun _ => 0⟩
def PLUMB_STATUS.executed : Fld := ⟨.PLUMB_STATUS, 8, 9, .ro, false, fun _ => 0⟩
def PLUMB_STATUS.passes : Fld := ⟨.PLUMB_STATUS, 32, 32, .ro, false, fun _ => 0⟩
def PLUMB_SHUT.temp : Fld := ⟨.PLUMB_SHUT, 0, 12, .rw, true, fun _ => 1840⟩
def PLUMB_ACT.step_req : Fld := ⟨.PLUMB_ACT, 0, 3, .ro, false, fun _ => 0⟩
def PLUMB_ACT.cause_power : Fld := ⟨.PLUMB_ACT, 3, 1, .ro, false, fun _ => 0⟩
def PLUMB_ACT.cause_flow : Fld := ⟨.PLUMB_ACT, 4, 1, .ro, false, fun _ => 0⟩
def PLUMB_ACT.shutdown : Fld := ⟨.PLUMB_ACT, 5, 1, .ro, false, fun _ => 0⟩
def PLUMB_ACT.scribe : Fld := ⟨.PLUMB_ACT, 6, 1, .ro, false, fun _ => 0⟩
def PLUMB_ACT.swap : Fld := ⟨.PLUMB_ACT, 7, 1, .ro, false, fun _ => 0⟩
def PLUMB_ACT.wake : Fld := ⟨.PLUMB_ACT, 8, 1, .ro, false, fun _ => 0⟩
def PLUMB_ACT.sleep : Fld := ⟨.PLUMB_ACT, 9, 1, .ro, false, fun _ => 0⟩
def PLUMB_IN.value : Fld := ⟨.PLUMB_IN, 0, 32, .ro, false, fun _ => 0⟩
def PLUMB_INX.value : Fld := ⟨.PLUMB_INX, 0, 32, .ro, false, fun _ => 0⟩
def PLUMB_PROG.word : Fld := ⟨.PLUMB_PROG, 0, 32, .rw, true, fun i => factoryProgram.getD i 0⟩
def PLUMB_THR.value : Fld := ⟨.PLUMB_THR, 0, 32, .rw, true, fun i => factoryThresholds.getD i 0⟩
def PLUMB_W.value : Fld := ⟨.PLUMB_W, 0, 32, .ro, false, fun _ => 0⟩
def PLUMB_CELL.value : Fld := ⟨.PLUMB_CELL, 0, 32, .ro, false, fun _ => 0⟩
def PLUMB_ACTIVE.word : Fld := ⟨.PLUMB_ACTIVE, 0, 32, .ro, false, fun _ => 0⟩
def PLUMB_SHADOW.word : Fld := ⟨.PLUMB_SHADOW, 0, 32, .ro, false, fun _ => 0⟩
def FUSE_STATUS.unresolved : Fld := ⟨.FUSE_STATUS, 0, 16, .ro, false, fun _ => 0⟩
def FUSE_STATUS.shadow_parity : Fld := ⟨.FUSE_STATUS, 16, 1, .ro, false, fun _ => 0⟩
def FUSE_STATUS.boot_temp : Fld := ⟨.FUSE_STATUS, 24, 8, .ro, false, fun _ => 0⟩
def FUSE_STATUS.marginal_count : Fld := ⟨.FUSE_STATUS, 32, 9, .ro, false, fun _ => 0⟩
def FUSE_SERIAL0.serial_lo : Fld := ⟨.FUSE_SERIAL0, 0, 64, .ro, false, fun _ => 0⟩
def FUSE_SERIAL1.serial_hi : Fld := ⟨.FUSE_SERIAL1, 0, 64, .ro, false, fun _ => 0⟩
def FUSE_MARGINAL.marginal : Fld := ⟨.FUSE_MARGINAL, 0, 64, .ro, false, fun _ => 0⟩
def SEC_STATUS.test_mode_closed : Fld := ⟨.SEC_STATUS, 0, 1, .ro, false, fun _ => 1⟩
def SEC_STATUS.identity_degraded : Fld := ⟨.SEC_STATUS, 1, 1, .ro, false, fun _ => 0⟩
def SEC_STATUS.rng_failed : Fld := ⟨.SEC_STATUS, 2, 1, .ro, false, fun _ => 0⟩
def SEC_STATUS.rng_blocked : Fld := ⟨.SEC_STATUS, 3, 1, .ro, false, fun _ => 0⟩
def SEC_STATUS.meas_locked : Fld := ⟨.SEC_STATUS, 4, 1, .ro, false, fun _ => 0⟩
def SEC_STATUS.fw_slot : Fld := ⟨.SEC_STATUS, 8, 1, .ro, false, fun _ => 0⟩
def SEC_STATUS.update_open : Fld := ⟨.SEC_STATUS, 9, 1, .ro, false, fun _ => 0⟩
def SEC_STATUS.sessions : Fld := ⟨.SEC_STATUS, 16, 4, .ro, false, fun _ => 0⟩
def RIDGE_LS.selftest_pass : Fld := ⟨.RIDGE_LS, 0, 32, .ro, false, fun _ => 0⟩
def RIDGE_LS.last_bit : Fld := ⟨.RIDGE_LS, 32, 8, .ro, false, fun _ => 0⟩
def RIDGE_LS.comp_a_fault : Fld := ⟨.RIDGE_LS, 40, 1, .ro, false, fun _ => 0⟩
def RIDGE_LS.comp_b_fault : Fld := ⟨.RIDGE_LS, 41, 1, .ro, false, fun _ => 0⟩
def RIDGE_LS.delay_parity : Fld := ⟨.RIDGE_LS, 42, 1, .ro, false, fun _ => 0⟩
def RIDGE_LS.selftest_fail : Fld := ⟨.RIDGE_LS, 43, 1, .ro, false, fun _ => 0⟩
def RIDGE_LS.selftest_timeout : Fld := ⟨.RIDGE_LS, 44, 1, .ro, false, fun _ => 0⟩
def RNG_STATUS.fail_count : Fld := ⟨.RNG_STATUS, 0, 2, .ro, false, fun _ => 0⟩
def RNG_STATUS.ns0_ok : Fld := ⟨.RNG_STATUS, 2, 1, .ro, false, fun _ => 0⟩
def RNG_STATUS.ns1_ok : Fld := ⟨.RNG_STATUS, 3, 1, .ro, false, fun _ => 0⟩
def RNG_STATUS.last_fail_src : Fld := ⟨.RNG_STATUS, 4, 1, .ro, false, fun _ => 0⟩
def RNG_STATUS.last_fail_test : Fld := ⟨.RNG_STATUS, 5, 2, .ro, false, fun _ => 0⟩
def DEVTIME_NOW.devtime : Fld := ⟨.DEVTIME_NOW, 0, 64, .ro, false, fun _ => 0⟩
def MEAS_SLOT.digest : Fld := ⟨.MEAS_SLOT, 0, 64, .ro, false, fun _ => 0⟩
def SAFE_RECORD.subsystem : Fld := ⟨.SAFE_RECORD, 0, 4, .ro, false, fun _ => 0⟩
def SAFE_RECORD.code : Fld := ⟨.SAFE_RECORD, 4, 6, .ro, false, fun _ => 0⟩
def SAFE_RECORD.valid : Fld := ⟨.SAFE_RECORD, 16, 1, .ro, false, fun _ => 0⟩
def SAFE_RECORD.devtime_lo : Fld := ⟨.SAFE_RECORD, 32, 32, .ro, false, fun _ => 0⟩
def SCRIBE_CTRL.period_ms : Fld := ⟨.SCRIBE_CTRL, 0, 16, .rw, false, fun _ => 0⟩
def SCRIBE_CTRL.auto_hold : Fld := ⟨.SCRIBE_CTRL, 16, 1, .rw, false, fun _ => 0⟩
def SCRIBE_CMD.trigger : Fld := ⟨.SCRIBE_CMD, 0, 1, .wo, false, fun _ => 0⟩
def SCRIBE_CMD.trigger_hold : Fld := ⟨.SCRIBE_CMD, 1, 1, .wo, false, fun _ => 0⟩
def SCRIBE_CMD.hold_a : Fld := ⟨.SCRIBE_CMD, 2, 1, .wo, false, fun _ => 0⟩
def SCRIBE_CMD.hold_b : Fld := ⟨.SCRIBE_CMD, 3, 1, .wo, false, fun _ => 0⟩
def SCRIBE_CMD.release_a : Fld := ⟨.SCRIBE_CMD, 4, 1, .wo, false, fun _ => 0⟩
def SCRIBE_CMD.release_b : Fld := ⟨.SCRIBE_CMD, 5, 1, .wo, false, fun _ => 0⟩
def SCRIBE_STATUS.a_state : Fld := ⟨.SCRIBE_STATUS, 0, 2, .ro, false, fun _ => 0⟩
def SCRIBE_STATUS.b_state : Fld := ⟨.SCRIBE_STATUS, 2, 2, .ro, false, fun _ => 0⟩
def SCRIBE_STATUS.a_holder : Fld := ⟨.SCRIBE_STATUS, 4, 3, .ro, false, fun _ => 0⟩
def SCRIBE_STATUS.b_holder : Fld := ⟨.SCRIBE_STATUS, 7, 3, .ro, false, fun _ => 0⟩
def SCRIBE_STATUS.last_bank : Fld := ⟨.SCRIBE_STATUS, 10, 1, .ro, false, fun _ => 0⟩
def SCRIBE_STATUS.missed : Fld := ⟨.SCRIBE_STATUS, 11, 1, .w1c, false, fun _ => 0⟩
def SCRIBE_STATUS.last_seq : Fld := ⟨.SCRIBE_STATUS, 32, 32, .ro, false, fun _ => 0⟩
def SCRIBE_SEQ.seq : Fld := ⟨.SCRIBE_SEQ, 0, 64, .ro, false, fun _ => 0⟩
def SCRIBE_TIME.devtime : Fld := ⟨.SCRIBE_TIME, 0, 64, .ro, false, fun _ => 0⟩
def SCRIBE_INFO.source : Fld := ⟨.SCRIBE_INFO, 0, 3, .ro, false, fun _ => 0⟩
def SCRIBE_INFO.complete : Fld := ⟨.SCRIBE_INFO, 3, 1, .ro, false, fun _ => 0⟩
def SCRIBE_INFO.merged : Fld := ⟨.SCRIBE_INFO, 4, 8, .ro, false, fun _ => 0⟩
def SCRIBE_INFO.host_ns : Fld := ⟨.SCRIBE_INFO, 32, 8, .ro, false, fun _ => 0⟩
def SCRIBE_INFO.lane_ns : Fld := ⟨.SCRIBE_INFO, 40, 8, .ro, false, fun _ => 0⟩
def SCRIBE_INFO.sclk_ns : Fld := ⟨.SCRIBE_INFO, 48, 10, .ro, false, fun _ => 0⟩

/-- The fields of a register; bits outside them are reserved (R41). -/
def RegKind.flds : RegKind → List Fld
  | .GLOBAL_ID => [GLOBAL_ID.device_id, GLOBAL_ID.vendor_id]
  | .GLOBAL_STATUS => [GLOBAL_STATUS.identity_degraded, GLOBAL_STATUS.compat_view_active, GLOBAL_STATUS.degraded, GLOBAL_STATUS.cfg_frozen, GLOBAL_STATUS.ridge_down]
  | .GLOBAL_CTRL => [GLOBAL_CTRL.compat_view, GLOBAL_CTRL.devtime_src, GLOBAL_CTRL.cfg_owner]
  | .TXN_CTRL => [TXN_CTRL.persist, TXN_CTRL.op]
  | .TXN_STATUS => [TXN_STATUS.fail_check, TXN_STATUS.result, TXN_STATUS.overflow, TXN_STATUS.conflict, TXN_STATUS.state]
  | .TXN_FAIL_ADDR => [TXN_FAIL_ADDR.offset]
  | .TXN_FAIL_INFO => [TXN_FAIL_INFO.function_, TXN_FAIL_INFO.no_word, TXN_FAIL_INFO.no_owner, TXN_FAIL_INFO.wear_wait_ms]
  | .TXN_TIMEOUT => [TXN_TIMEOUT.timeout_ms]
  | .TXN_OPEN_TIME => [TXN_OPEN_TIME.devtime]
  | .TXN_STAGED => [TXN_STAGED.words]
  | .TXN_PERSIST_SEQ => [TXN_PERSIST_SEQ.seq]
  | .PWR_STATE_MISC => [PWR_STATE_MISC.sill, PWR_STATE_MISC.core, PWR_STATE_MISC.ridge, PWR_STATE_MISC.hmd, PWR_STATE_MISC.hcr, PWR_STATE_MISC.ts]
  | .PWR_STATE_EG => [PWR_STATE_EG.eg]
  | .PWR_STATE_BAY0 => [PWR_STATE_BAY0.bay]
  | .PWR_STATE_BAY1 => [PWR_STATE_BAY1.bay]
  | .PWR_THROTTLE => [PWR_THROTTLE.step, PWR_THROTTLE.cause_power, PWR_THROTTLE.cause_flow]
  | .RSS_BOOT_STATUS => [RSS_BOOT_STATUS.source, RSS_BOOT_STATUS.torn_commit, RSS_BOOT_STATUS.torn_compaction, RSS_BOOT_STATUS.bank0_invalid, RSS_BOOT_STATUS.bank1_invalid, RSS_BOOT_STATUS.journal_corrupt, RSS_BOOT_STATUS.fallback, RSS_BOOT_STATUS.check_failed, RSS_BOOT_STATUS.records_applied]
  | .RSS_IMAGE_SEQ => [RSS_IMAGE_SEQ.seq]
  | .RSS_LAST_SEQ => [RSS_LAST_SEQ.seq]
  | .RSS_STATUS => [RSS_STATUS.busy, RSS_STATUS.bank, RSS_STATUS.journal, RSS_STATUS.journal_used]
  | .RSS_WEAR => [RSS_WEAR.tokens]
  | .RSS_CTRL => [RSS_CTRL.compact]
  | .HP_LINK_STATUS => [HP_LINK_STATUS.link_up, HP_LINK_STATUS.flit_mode, HP_LINK_STATUS.rate, HP_LINK_STATUS.width, HP_LINK_STATUS.l0p_width, HP_LINK_STATUS.reversed, HP_LINK_STATUS.degraded, HP_LINK_STATUS.sris, HP_LINK_STATUS.pm_state, HP_LINK_STATUS.l1_sub]
  | .HP_LINK_CTRL => [HP_LINK_CTRL.max_rate, HP_LINK_CTRL.max_width, HP_LINK_CTRL.eq_bypass]
  | .HP_PM_CTRL => [HP_PM_CTRL.l1_idle_us, HP_PM_CTRL.l0p_auto, HP_PM_CTRL.l0p_min_width, HP_PM_CTRL.l0p_narrow_pct, HP_PM_CTRL.l0p_widen_pct]
  | .HP_LTR => [HP_LTR.busy_ns, HP_LTR.idle_ns]
  | .HP_TAG => [HP_TAG.in_use, HP_TAG.mode, HP_TAG.vf_cap]
  | .HP_PTM_CTRL => [HP_PTM_CTRL.period_ms]
  | .HP_PTM_STATUS => [HP_PTM_STATUS.ctx_valid, HP_PTM_STATUS.steering, HP_PTM_STATUS.stepped, HP_PTM_STATUS.align_fault, HP_PTM_STATUS.pps_reject]
  | .HP_PTM_OFFSET => [HP_PTM_OFFSET.offset]
  | .HP_PPS_DEVTIME => [HP_PPS_DEVTIME.stamp]
  | .HP_PPS_HOST => [HP_PPS_HOST.host_time]
  | .HP_IDE_STATUS => [HP_IDE_STATUS.link_secure, HP_IDE_STATUS.sel_secure, HP_IDE_STATUS.key_change]
  | .FUNC_ID => [FUNC_ID.index, FUNC_ID.pf, FUNC_ID.vf, FUNC_ID.is_vf, FUNC_ID.exists]
  | .FUNC_STATE => [FUNC_STATE.gen, FUNC_STATE.bme, FUNC_STATE.mse, FUNC_STATE.flr_active, FUNC_STATE.d3hot, FUNC_STATE.quiescing]
  | .FUNC_APERTURE => [FUNC_APERTURE.limit_log2]
  | .FUNC_SLACK => [FUNC_SLACK.floor]
  | .FUNC_OWNED => [FUNC_OWNED.queues, FUNC_OWNED.peg_sources, FUNC_OWNED.segments]
  | .FUNC_OWNED2 => [FUNC_OWNED2.vectors, FUNC_OWNED2.ports]
  | .FUNC_FLR => [FUNC_FLR.host_tags, FUNC_FLR.local_tags]
  | .FUNC_FLR_TIME => [FUNC_FLR_TIME.devtime]
  | .FUNC_FLR_DONE => [FUNC_FLR_DONE.devtime]
  | .FUNC_MOVE_LOG => [FUNC_MOVE_LOG.queue, FUNC_MOVE_LOG.desc_index, FUNC_MOVE_LOG.abandoned, FUNC_MOVE_LOG.multiple]
  | .PRT_CTRL => [PRT_CTRL.enable, PRT_CTRL.owner, PRT_CTRL.up, PRT_CTRL.scarfed]
  | .PRT_BASE => [PRT_BASE.base]
  | .PRT_SIZE => [PRT_SIZE.pages_m1]
  | .LEDGER_GRANT => [LEDGER_GRANT.first, LEDGER_GRANT.last]
  | .LEDGER_STATUS => [LEDGER_STATUS.valid_segments]
  | .LEDGER_ECC => [LEDGER_ECC.ue_seg, LEDGER_ECC.ue, LEDGER_ECC.ce, LEDGER_ECC.ce_seg]
  | .SEG_CTRL => [SEG_CTRL.valid, SEG_CTRL.kind, SEG_CTRL.rd, SEG_CTRL.wr, SEG_CTRL.down_mode, SEG_CTRL.dl_valid, SEG_CTRL.vc, SEG_CTRL.pasid_en, SEG_CTRL.poisoned, SEG_CTRL.port, SEG_CTRL.gen, SEG_CTRL.owner]
  | .SEG_SRC => [SEG_SRC.src_base, SEG_SRC.dl_default]
  | .SEG_LEN => [SEG_LEN.pages_m1, SEG_LEN.pasid]
  | .SEG_DST => [SEG_DST.dst_base]
  | .Q_CFG => [Q_CFG.owner, Q_CFG.eg, Q_CFG.rate_cap, Q_CFG.cq_vector]
  | .Q_STATE => [Q_STATE.state, Q_STATE.gen, Q_STATE.held_cmp, Q_STATE.cmd_rejected, Q_STATE.cq_wait]
  | .Q_CMD => [Q_CMD.op]
  | .Q_SQ_BASE => [Q_SQ_BASE.base]
  | .Q_CQ_BASE => [Q_CQ_BASE.base]
  | .Q_RING => [Q_RING.sq_log2, Q_RING.cq_log2, Q_RING.cq_vec_en, Q_RING.pasid, Q_RING.pasid_en]
  | .Q_SQ_IDX => [Q_SQ_IDX.sq_tail, Q_SQ_IDX.sq_head]
  | .Q_CQ_IDX => [Q_CQ_IDX.cq_tail, Q_CQ_IDX.cq_head, Q_CQ_IDX.phase]
  | .Q_COAL => [Q_COAL.count, Q_COAL.time_us, Q_COAL.pending]
  | .Q_RESUME => [Q_RESUME.index, Q_RESUME.piece, Q_RESUME.valid]
  | .Q_RESUME_OFS => [Q_RESUME_OFS.offset]
  | .Q_RESUME_EXT => [Q_RESUME_EXT.ext_addr]
  | .Q_ERR_ADDR => [Q_ERR_ADDR.addr]
  | .Q_ERR_INFO => [Q_ERR_INFO.status, Q_ERR_INFO.dir, Q_ERR_INFO.space, Q_ERR_INFO.source, Q_ERR_INFO.index]
  | .Q_HELD_CMP => [Q_HELD_CMP.entry]
  | .TE_STATUS => [TE_STATUS.state, TE_STATUS.pacing, TE_STATUS.group, TE_STATUS.attach, TE_STATUS.channel, TE_STATUS.function_, TE_STATUS.desc_index]
  | .TE_PROGRESS => [TE_PROGRESS.dst_issued, TE_PROGRESS.piece]
  | .TE_RDBUF => [TE_RDBUF.reserved_bytes, TE_RDBUF.reads]
  | .TE_PACE => [TE_PACE.eff_cap, TE_PACE.step]
  | .TE_FAULT => [TE_FAULT.hold_parity, TE_FAULT.rdbuf_ue, TE_FAULT.rdbuf_ce, TE_FAULT.bound, TE_FAULT.channel]
  | .SCHED_CTRL => [SCHED_CTRL.horizon, SCHED_CTRL.admit_mode, SCHED_CTRL.fixed_units]
  | .SCHED_MISS_LOG0 => [SCHED_MISS_LOG0.devtime]
  | .SCHED_MISS_LOG1 => [SCHED_MISS_LOG1.late_by, SCHED_MISS_LOG1.kind, SCHED_MISS_LOG1.function_, SCHED_MISS_LOG1.port, SCHED_MISS_LOG1.vc, SCHED_MISS_LOG1.valid]
  | .SCHED_HOSTCPL => [SCHED_HOSTCPL.reserved_bytes, SCHED_HOSTCPL.waiting]
  | .SCHED_PORT_CTRL => [SCHED_PORT_CTRL.tagged_share]
  | .SCHED_PORT_BUSY => [SCHED_PORT_BUSY.busy_until]
  | .SCHED_RSV_VC => [SCHED_RSV_VC.reserved_bytes, SCHED_RSV_VC.waiting, SCHED_RSV_VC.held]
  | .SCHED_FUNC => [SCHED_FUNC.weight]
  | .JP_CTRL => [JP_CTRL.enable, JP_CTRL.down_action, JP_CTRL.auto_lane_drop, JP_CTRL.scarf, JP_CTRL.retrain, JP_CTRL.port_reset]
  | .JP_CFG => [JP_CFG.rate, JP_CFG.cable_class, JP_CFG.vc_count, JP_CFG.max_payload]
  | .JP_PART => [JP_PART.part0, JP_PART.part1, JP_PART.part2, JP_PART.part3, JP_PART.part4, JP_PART.part5, JP_PART.part6, JP_PART.part7]
  | .JP_TIMER0 => [JP_TIMER0.replay_100ns, JP_TIMER0.lock_loss_us, JP_TIMER0.resp_us]
  | .JP_TIMER1 => [JP_TIMER1.replay_limit, JP_TIMER1.train_100us, JP_TIMER1.doze_100ns, JP_TIMER1.sleep_us]
  | .JP_STATUS => [JP_STATUS.link_state, JP_STATUS.tx_doze, JP_STATUS.rx_doze, JP_STATUS.tx_mask, JP_STATUS.rx_mask, JP_STATUS.req_mask, JP_STATUS.degraded, JP_STATUS.present, JP_STATUS.far_hold, JP_STATUS.own_hold]
  | .JP_SEQ => [JP_SEQ.tx_next, JP_SEQ.tx_acked, JP_SEQ.rx_expected]
  | .JP_REPLAY => [JP_REPLAY.bytes, JP_REPLAY.frames, JP_REPLAY.replays, JP_REPLAY.stalled]
  | .JP_DOWN_LOG => [JP_DOWN_LOG.cause]
  | .JP_DOWN_TIME => [JP_DOWN_TIME.devtime]
  | .JT_TAGS => [JT_TAGS.module_tags, JT_TAGS.device_tags]
  | .JT_TIME_CTRL => [JT_TIME_CTRL.period_us]
  | .JT_ERR_LOG => [JT_ERR_LOG.status, JT_ERR_LOG.kind, JT_ERR_LOG.tag, JT_ERR_LOG.vc, JT_ERR_LOG.valid, JT_ERR_LOG.type, JT_ERR_LOG.devtime_lo]
  | .JT_ERR_ADDR => [JT_ERR_ADDR.addr]
  | .JT_SCARF => [JT_SCARF.joined, JT_SCARF.in_progress, JT_SCARF.mismatch, JT_SCARF.max_skew]
  | .JL_CTRL => [JL_CTRL.loop, JL_CTRL.seed_mode, JL_CTRL.pre_tap, JL_CTRL.post_tap, JL_CTRL.swing]
  | .JL_STATUS => [JL_STATUS.state, JL_STATUS.cdr_lock, JL_STATUS.word_lock, JL_STATUS.inverted, JL_STATUS.order_error, JL_STATUS.far_ready, JL_STATUS.deskew, JL_STATUS.rx_fill, JL_STATUS.rx_count]
  | .JL_SEED => [JL_SEED.tx_seed, JL_SEED.rx_seed]
  | .JL_PRBS => [JL_PRBS.pattern, JL_PRBS.gen_en, JL_PRBS.chk_en, JL_PRBS.invert, JL_PRBS.chk_lock, JL_PRBS.err]
  | .BAY_STATUS => [BAY_STATUS.present, BAY_STATUS.reset_out, BAY_STATUS.pll_lock, BAY_STATUS.state, BAY_STATUS.bay_id]
  | .BAY_CTRL => [BAY_CTRL.bay_reset]
  | .PEG_SRC_CTRL => [PEG_SRC_CTRL.owner, PEG_SRC_CTRL.enable, PEG_SRC_CTRL.auto_eos]
  | .PEG_SRC_TGT => [PEG_SRC_TGT.entry0, PEG_SRC_TGT.entry1, PEG_SRC_TGT.entry2, PEG_SRC_TGT.entry3, PEG_SRC_TGT.en0, PEG_SRC_TGT.en1, PEG_SRC_TGT.en2, PEG_SRC_TGT.en3]
  | .PEG_SRC_STATUS => [PEG_SRC_STATUS.state, PEG_SRC_STATUS.last_target, PEG_SRC_STATUS.held, PEG_SRC_STATUS.index, PEG_SRC_STATUS.last_devtime]
  | .PEG_SRC_CMD => [PEG_SRC_CMD.eos, PEG_SRC_CMD.raise]
  | .PEG_VMAP => [PEG_VMAP.function_, PEG_VMAP.entry, PEG_VMAP.assigned]
  | .FAULT_TOP => [FAULT_TOP.subsystem, FAULT_TOP.summary, FAULT_TOP.severe]
  | .BRACE_CTRL => [BRACE_CTRL.hist_notices]
  | .BRACE_HIST_PTR => [BRACE_HIST_PTR.next, BRACE_HIST_PTR.next_seq]
  | .BRACE_TRESTLE => [BRACE_TRESTLE.restarts, BRACE_TRESTLE.restarting, BRACE_TRESTLE.alive, BRACE_TRESTLE.cause, BRACE_TRESTLE.wdog_ms]
  | .BRACE_RELEASE => [BRACE_RELEASE.domain]
  | .FAULT_DETAIL => [FAULT_DETAIL.code]
  | .FAULT_SEV => [FAULT_SEV.severe]
  | .BRACE_DSTATE => [BRACE_DSTATE.state, BRACE_DSTATE.severe, BRACE_DSTATE.first_seq, BRACE_DSTATE.merge_count, BRACE_DSTATE.arrival]
  | .BRACE_CLASS => [BRACE_CLASS.thresh, BRACE_CLASS.window_ms]
  | .BRACE_HIST => [BRACE_HIST.word]
  | .MB_CTRL => [MB_CTRL.go, MB_CTRL.abort, MB_CTRL.vector, MB_CTRL.vec_en]
  | .MB_STATUS => [MB_STATUS.state, MB_STATUS.result, MB_STATUS.rsp_len, MB_STATUS.rejected]
  | .MB_CMD => [MB_CMD.opcode, MB_CMD.req_len]
  | .MB_REQ => [MB_REQ.word]
  | .MB_RSP => [MB_RSP.word]
  | .PLUMB_CTRL => [PLUMB_CTRL.period_us]
  | .PLUMB_STATUS => [PLUMB_STATUS.running, PLUMB_STATUS.swap_pending, PLUMB_STATUS.backstop, PLUMB_STATUS.stored, PLUMB_STATUS.executed, PLUMB_STATUS.passes]
  | .PLUMB_SHUT => [PLUMB_SHUT.temp]
  | .PLUMB_ACT => [PLUMB_ACT.step_req, PLUMB_ACT.cause_power, PLUMB_ACT.cause_flow, PLUMB_ACT.shutdown, PLUMB_ACT.scribe, PLUMB_ACT.swap, PLUMB_ACT.wake, PLUMB_ACT.sleep]
  | .PLUMB_IN => [PLUMB_IN.value]
  | .PLUMB_INX => [PLUMB_INX.value]
  | .PLUMB_PROG => [PLUMB_PROG.word]
  | .PLUMB_THR => [PLUMB_THR.value]
  | .PLUMB_W => [PLUMB_W.value]
  | .PLUMB_CELL => [PLUMB_CELL.value]
  | .PLUMB_ACTIVE => [PLUMB_ACTIVE.word]
  | .PLUMB_SHADOW => [PLUMB_SHADOW.word]
  | .FUSE_STATUS => [FUSE_STATUS.unresolved, FUSE_STATUS.shadow_parity, FUSE_STATUS.boot_temp, FUSE_STATUS.marginal_count]
  | .FUSE_SERIAL0 => [FUSE_SERIAL0.serial_lo]
  | .FUSE_SERIAL1 => [FUSE_SERIAL1.serial_hi]
  | .FUSE_MARGINAL => [FUSE_MARGINAL.marginal]
  | .SEC_STATUS => [SEC_STATUS.test_mode_closed, SEC_STATUS.identity_degraded, SEC_STATUS.rng_failed, SEC_STATUS.rng_blocked, SEC_STATUS.meas_locked, SEC_STATUS.fw_slot, SEC_STATUS.update_open, SEC_STATUS.sessions]
  | .RIDGE_LS => [RIDGE_LS.selftest_pass, RIDGE_LS.last_bit, RIDGE_LS.comp_a_fault, RIDGE_LS.comp_b_fault, RIDGE_LS.delay_parity, RIDGE_LS.selftest_fail, RIDGE_LS.selftest_timeout]
  | .RNG_STATUS => [RNG_STATUS.fail_count, RNG_STATUS.ns0_ok, RNG_STATUS.ns1_ok, RNG_STATUS.last_fail_src, RNG_STATUS.last_fail_test]
  | .DEVTIME_NOW => [DEVTIME_NOW.devtime]
  | .MEAS_SLOT => [MEAS_SLOT.digest]
  | .SAFE_RECORD => [SAFE_RECORD.subsystem, SAFE_RECORD.code, SAFE_RECORD.valid, SAFE_RECORD.devtime_lo]
  | .SCRIBE_CTRL => [SCRIBE_CTRL.period_ms, SCRIBE_CTRL.auto_hold]
  | .SCRIBE_CMD => [SCRIBE_CMD.trigger, SCRIBE_CMD.trigger_hold, SCRIBE_CMD.hold_a, SCRIBE_CMD.hold_b, SCRIBE_CMD.release_a, SCRIBE_CMD.release_b]
  | .SCRIBE_STATUS => [SCRIBE_STATUS.a_state, SCRIBE_STATUS.b_state, SCRIBE_STATUS.a_holder, SCRIBE_STATUS.b_holder, SCRIBE_STATUS.last_bank, SCRIBE_STATUS.missed, SCRIBE_STATUS.last_seq]
  | .SCRIBE_SEQ => [SCRIBE_SEQ.seq]
  | .SCRIBE_TIME => [SCRIBE_TIME.devtime]
  | .SCRIBE_INFO => [SCRIBE_INFO.source, SCRIBE_INFO.complete, SCRIBE_INFO.merged, SCRIBE_INFO.host_ns, SCRIBE_INFO.lane_ns, SCRIBE_INFO.sclk_ns]

/-- Reset value of register `idx` of a kind: every field at its reset value, reserved bits 0. -/
def RegKind.reset (k : RegKind) (idx : Nat) : Word :=
  k.flds.foldl (fun w f => setBits w f.lo f.len (f.reset idx)) 0

/-- The bits of a register whose fields satisfy `p`. -/
def RegKind.maskWhere (k : RegKind) (p : Fld → Bool) : Word :=
  k.flds.foldl (fun w f => if p f then w ||| maskBits f.lo f.len else w) 0

/-- The bits of the ret fields (R33). -/
def RegKind.retMask (k : RegKind) : Word := k.maskWhere (fun f => f.ret)

end Sys2Proof.Machine
end

