-- ==== Sys2Proof/Machine/Operands.lean ====
section
/-! DEFINITION. Operand forms: which operand values a port of the module can present; a TLP that is not so shaped is a Malformed TLP (R160), and
other operands reach the module as nothing (log entry 10), and the operand sets
that the spec lists (rails, safe-state codes). -/

namespace Sys2Proof.Machine

/-- A byte range of a memory request: dwords, at most 4096 bytes, within 4 KiB (Base Specification; log entry 10). -/
def wfSpan (off len : Nat) : Bool :=
  decide (0 < len ∧ len ≤ 4096 ∧ off % 4 = 0 ∧ len % 4 = 0 ∧ off % 4096 + len ≤ 4096)

/-- Byte enables of a request of `dws` dwords: a request of one dword has no last enables, a longer one has both. -/
def wfEnables (dws : Nat) (firstBe lastBe : BitVec 4) : Bool :=
  if dws = 1 then lastBe == 0 else firstBe != 0 && lastBe != 0

/-- A window request (R210, R212). -/
def wfWindow (off dws : Nat) (firstBe lastBe : BitVec 4) : Bool := wfSpan off (4 * dws) && wfEnables dws firstBe lastBe

/-- A window write of `n` bytes (R212). -/
def wfWrite (off n : Nat) (firstBe lastBe : BitVec 4) : Bool :=
  decide (n % 4 = 0) && wfWindow off (n / 4) firstBe lastBe

/-- A write whose bytes are `n` from `off`. -/
def wfBytes (off n : Nat) : Bool := wfSpan off n

/-- A completion from the host carries at most 4096 bytes (R144). -/
def wfCompletion (n : Nat) : Bool := decide (n ≤ 4096)

/-- The fuse array has 256 words (R108). -/
def wfFuses (fs : List FuseRead) : Bool := fs.length == 256

/-- The sensor values of a Plumb pass (R439). -/
def wfInputs (x : PlumbInputs) : Bool :=
  x.sensors.length == 54 && x.groups.length == 6 && x.bays.length == 24 && x.slices.length == 4

/-- A fault code that R393 lists. -/
def wfCode (n : Fin 14) (c : Fin 64) : Bool := (codeClass n.val c.val).isSome

/-- A code that leads to safe state (R399, R400). -/
def safeCode (n c : Nat) : Bool := (n, c) ∈ [(6, 2), (12, 5), (12, 6), (13, 3), (13, 4)]

/-- Rail and region of a rail fault: the region lies on the rail (R87). -/
def railFeeds (rail r : Nat) : Bool :=
  match rail with
  | 4 => decide (24 ≤ r ∧ r < 30)
  | 5 | 6 => decide (35 ≤ r ∧ r < 39)
  | 7 => decide (r < 12)
  | 8 => decide (12 ≤ r ∧ r < 24)
  | 9 => decide (r < 24)
  | 11 => r == 43
  | _ => true

/-- A byte address of Ridge's flash (R413). -/
def wfFlash (addr : Nat) : Bool := decide (addr < 2 ^ 26)

/-- Size of a KEY_EXCHANGE point on secp384r1 (R421). -/
def wfPoint (n : Nat) : Bool := n == 96

/-- A frame comes on one to four lanes of a port, lowest first (R321, R367). -/
def wfLines (n : Nat) : Bool := decide (0 < n ∧ n ≤ 4)

end Sys2Proof.Machine
end

