-- ==== Sys2Proof/Config.lean ====
section
/-! DEFINITION. What the implementation fixes and what the spec leaves open, as constants without a body: nothing in
Lean can evaluate one or prove a value of one. Each is named in the assumption log. -/

namespace Sys2Proof.Config

/-- A fresh value for each use: the argument is the counter `freeCtr` of the state, which the step advances. Random
bytes, key material, signatures and every value the spec leaves open are taken from here (log entry 7). -/
opaque freeByte : Nat → Byte

/-- As `freeByte`, a whole 64-bit word (log entry 7). -/
opaque freeWord : Nat → Word

/-- Byte of Ridge's private flash before anything is written to it: the factory slot and image (log entry 6). -/
opaque factoryFlash : Nat → Byte

/-- SHA-384 of a byte string. The spec names the function and does not define it (log entry 7). -/
opaque sha384 : List Byte → BitVec 384

/-- Certificate chain of the device for the serial number in the fuses, in DER (R422, log entry 7). -/
opaque certChain : Word → List Byte

/-- Byte of Ridge's private flash after an erase, by address: the spec does not say what an erased byte reads as (log entry
7). -/
opaque erasedByte : Nat → Byte

/-- Byte of a firmware slot whose content a Ridge failure has left undefined: by the number of the failure and the address (R436, log
entry 7). -/
opaque spoiledByte : Nat → Nat → Byte

/-- Digest that the boot ROM holds for itself (R417, log entry 7). -/
opaque romDigest : BitVec 384

/-- Ridge's MCTP endpoint UUID, and the MCTP versions it reports: the spec names both and gives no value (R427, log entry 7). -/
opaque endpointUuid : BitVec 128
opaque mctpVersions : List Byte

/-- Applied completion timeout, in ns, for the encodings that R146 does not list (log entry 18). -/
opaque unlistedTimeoutNs : Nat → Nat

/-- Extended capability ID that the Base Specification 7.0 assigns to the 128.0 GT/s capability (R171, log entry 17). -/
opaque phy128Id : BitVec 16

end Sys2Proof.Config
end

