-- ==== Sys2Proof/Machine/Tbl.lean ====
section
/-! DEFINITION. Sparse tables: a list of (key, value) pairs in one canonical form (keys strictly rising, no value
equal to what an unlisted key reads as), so that equal tables are equal data. -/

namespace Sys2Proof.Machine

/-- A sparse table. -/
abbrev Tbl (α : Type) := List (Nat × α)

/-- Value at key `k`, or `d` where the table lists none. -/
def Tbl.get {α : Type} (d : α) : Tbl α → Nat → α
  | [], _ => d
  | (k', v) :: t, k => if k = k' then v else Tbl.get d t k

/-- The table without key `k`. -/
def Tbl.erase {α : Type} : Tbl α → Nat → Tbl α
  | [], _ => []
  | (k', v) :: t, k => if k = k' then Tbl.erase t k else (k', v) :: Tbl.erase t k

/-- The table with `v` at key `k`, at its place in the order. -/
def Tbl.insert {α : Type} : Tbl α → Nat → α → Tbl α
  | [], k, v => [(k, v)]
  | (k', v') :: t, k, v =>
    if k < k' then (k, v) :: (k', v') :: t
    else if k = k' then (k, v) :: t
    else (k', v') :: Tbl.insert t k v

/-- The table with `v` at key `k`; a value equal to the default `d` is not listed. -/
def Tbl.set {α : Type} [DecidableEq α] (d : α) (t : Tbl α) (k : Nat) (v : α) : Tbl α :=
  if v = d then Tbl.erase t k else Tbl.insert t k v

/-- Keys strictly rising, the first above `lo`. -/
def Tbl.risingFrom {α : Type} : Nat → Tbl α → Bool
  | _, [] => true
  | lo, (k, _) :: t => decide (lo ≤ k) && Tbl.risingFrom (k + 1) t

/-- The canonical form: keys strictly rising and no entry equal to the default of its key. -/
def Tbl.wf {α : Type} [DecidableEq α] (d : Nat → α) (t : Tbl α) : Bool :=
  Tbl.risingFrom 0 t && t.all (fun e => decide (e.2 ≠ d e.1))

/-- Byte at an address of a sparse byte store; `none` where nothing has been written. -/
def Tbl.byte? (t : List (Nat × Byte)) (a : Nat) : Option Byte :=
  match t with
  | [] => none
  | (k, v) :: t' => if a = k then some v else Tbl.byte? t' a

/-- A byte string written from address `a` upward. -/
def Tbl.writeBytes (t : Tbl Byte) (a : Nat) : List Byte → Tbl Byte
  | [] => t
  | b :: bs => Tbl.writeBytes (Tbl.insert t a b) (a + 1) bs

/-- `n` bytes from address `a` upward; an unwritten byte reads as `d a`. -/
def Tbl.readBytes (d : Nat → Byte) (t : Tbl Byte) (a : Nat) : Nat → List Byte
  | 0 => []
  | n + 1 => (Tbl.byte? t a).getD (d a) :: Tbl.readBytes d t (a + 1) n

end Sys2Proof.Machine
end

