-- ==== Sys2Proof/Machine/Cfg.lean ====
section
/-! DEFINITION. The configuration space of the functions: reset value and write attributes of every dword (R163 to
R175). What the spec leaves to the PCI Express Base Specification is marked PRESUMED (log entry 17). -/

namespace Sys2Proof.Machine

/-- One dword: reset value, RW bits, RW1C bits, and which of those bits only a mains power-up or module reset clears
(RWS, RW1CS). Bits in no mask are read only. -/
structure CfgDw where
  reset : Nat
  rw : Nat := 0
  w1c : Nat := 0
  sticky : Nat := 0
  deriving DecidableEq, Repr

/-- Header of an extended capability (R171). -/
def extHeader (id ver next : Nat) : CfgDw := ⟨id + ver * 0x10000 + next * 0x100000, 0, 0, 0⟩

/-- Type 0 header of a PF (R165, R167). BAR0, BAR2 and BAR4 hold size bits as writable only from the size upward; the
upper bits that BAR4's size clears are the business of the write. -/
def pfHeader : List (Nat × CfgDw) :=
  [(0x00, ⟨0x96001F4B, 0, 0, 0⟩),
   (0x04, ⟨0x00100000, 0x00000146, 0xF9000000, 0⟩),
   (0x08, ⟨0x06800010, 0, 0, 0⟩),
   (0x0C, ⟨0, 0x000000FF, 0, 0⟩),
   (0x10, ⟨0x00000004, 0xFF000000, 0, 0⟩),
   (0x14, ⟨0, 0xFFFFFFFF, 0, 0⟩),
   (0x18, ⟨0x00000004, 0xFFF00000, 0, 0⟩),
   (0x1C, ⟨0, 0xFFFFFFFF, 0, 0⟩),
   (0x20, ⟨0x0000000C, 0xFFF00000, 0, 0⟩),
   (0x24, ⟨0, 0xFFFFFFFF, 0, 0⟩),
   (0x2C, ⟨0x00011F4B, 0, 0, 0⟩),
   (0x34, ⟨0x00000040, 0, 0, 0⟩),
   (0x3C, ⟨0, 0x000000FF, 0, 0⟩)]

/-- PCI-compatible capabilities of a PF (R169, R170). PMCSR: PowerState RW, PME_En RWS, PME_Status RW1CS. Device
Control 2 and Link Control implement the bits that R134 and R170 name (DEDUCED); Link Control 2 is sticky, Link Status 2 holds the
equalisation status of 8.0 GT/s and Flit Mode Status (PRESUMED). -/
def pfCaps : List (Nat × CfgDw) :=
  [(0x40, ⟨0xC0035001, 0, 0, 0⟩),
   (0x44, ⟨0x00000008, 0x00000103, 0x00008000, 0x00008100⟩),
   (0x50, ⟨0x8002B010, 0, 0, 0⟩),
   (0x54, ⟨0x10008E25, 0, 0, 0⟩),
   (0x58, ⟨0x00002910, 0x000079FF, 0x000F0000, 0⟩),
   (0x5C, ⟨0x0045F907, 0, 0, 0⟩),
   (0x60, ⟨0, 0x000003CB, 0, 0⟩),
   (0x74, ⟨0x0073081F, 0, 0, 0⟩),
   (0x78, ⟨0, 0x0000141F, 0, 0⟩),
   (0x7C, ⟨0x018000FE, 0, 0, 0⟩),
   (0x80, ⟨0x00000007, 0x0000FFBF, 0x00200000, 0x043EFFBF⟩),
   (0xB0, ⟨0x07FF0011, 0xC0000000, 0, 0⟩),
   (0xB4, ⟨0x00080002, 0, 0, 0⟩),
   (0xB8, ⟨0x000C0002, 0, 0, 0⟩)]

/-- AER block (R171, R172): status RW1CS, masks and severities RWS. Reset masks and severities are the Base
Specification's (PRESUMED, log entry 17). In a VF the masks, severities and ECRC controls are RsvdP, since those of its PF apply
(R175). -/
def aerDws (vf : Bool) : List (Nat × CfgDw) :=
  [(0x100, extHeader 0x0001 2 0x148),
   (0x104, ⟨0, 0, 0x707FF010, 0x707FF010⟩),
   (0x108, if vf then ⟨0, 0, 0, 0⟩ else ⟨0x00400000, 0x707FF010, 0, 0x707FF010⟩),
   (0x10C, if vf then ⟨0, 0, 0, 0⟩ else ⟨0x10462010, 0x707FF010, 0, 0x707FF010⟩),
   (0x110, ⟨0, 0, 0x0000F1C1, 0x0000F1C1⟩),
   (0x114, if vf then ⟨0, 0, 0, 0⟩ else ⟨0x0000E000, 0x0000F1C1, 0, 0x0000F1C1⟩),
   (0x118, if vf then ⟨0, 0, 0, 0x0000081F⟩ else ⟨0x000000A0, 0x00000140, 0, 0x0000095F⟩),
   (0x11C, ⟨0, 0, 0, 0xFFFFFFFF⟩),
   (0x120, ⟨0, 0, 0, 0xFFFFFFFF⟩),
   (0x124, ⟨0, 0, 0, 0xFFFFFFFF⟩),
   (0x128, ⟨0, 0, 0, 0xFFFFFFFF⟩),
   (0x138, ⟨0, 0, 0, 0xFFFFFFFF⟩),
   (0x13C, ⟨0, 0, 0, 0xFFFFFFFF⟩),
   (0x140, ⟨0, 0, 0, 0xFFFFFFFF⟩),
   (0x144, ⟨0, 0, 0, 0xFFFFFFFF⟩)]

/-- ARI to SR-IOV of a PF (R168, R171 to R173). The serial number is read from the fuses. -/
def pfExt1 : List (Nat × CfgDw) :=
  [(0x148, extHeader 0x000E 1 0x150),
   (0x150, extHeader 0x000D 1 0x158),
   (0x154, ⟨0x0000004C, 0x004C0000, 0, 0⟩),
   (0x158, extHeader 0x0003 1 0x164),
   (0x164, extHeader 0x0015 1 0x170),
   (0x168, ⟨0x7FFFFFF0, 0, 0, 0⟩),
   (0x16C, ⟨0x00000E24, 0x00003F00, 0, 0⟩),
   (0x170, extHeader 0x0024 1 0x17C),
   (0x174, ⟨0x01FFFFF0, 0, 0, 0⟩),
   (0x178, ⟨0x00000824, 0x00003F00, 0, 0⟩),
   (0x17C, extHeader 0x0010 1 0x1BC),
   (0x180, ⟨0x00000006, 0, 0, 0⟩),
   (0x184, ⟨0, 0x00000039, 0, 0⟩),
   (0x188, ⟨0x00FF00FF, 0, 0, 0⟩),
   (0x18C, ⟨0, 0x0000FFFF, 0, 0⟩),
   (0x190, ⟨0x00010001, 0, 0, 0⟩),
   (0x194, ⟨0x96010000, 0, 0, 0⟩),
   (0x198, ⟨0x00000553, 0, 0, 0⟩),
   (0x19C, ⟨0x00000001, 0xFFFFFFFF, 0, 0⟩),
   (0x1A0, ⟨0x00000004, 0xFFFF0000, 0, 0⟩),
   (0x1A4, ⟨0, 0xFFFFFFFF, 0, 0⟩),
   (0x1A8, ⟨0x00000004, 0xFFFF0000, 0, 0⟩),
   (0x1AC, ⟨0, 0xFFFFFFFF, 0, 0⟩),
   (0x1B0, ⟨0x0000000C, 0xFFF00000, 0, 0⟩),
   (0x1B4, ⟨0, 0xFFFFFFFF, 0, 0⟩)]

/-- `n` dwords from offset `o`, all alike. -/
def repDws (o n : Nat) (d : CfgDw) : List (Nat × CfgDw) := (List.range n).map (fun i => (o + 4 * i, d))

/-- Status register of a physical-layer capability: equalisation complete, phases 1 to 3, and the RW1CS request bit (R137; layout
of the Base Specification, PRESUMED, log entry 17). -/
def eqStatus : CfgDw := ⟨0, 0, 0x00000010, 0x0000001F⟩

/-- Physical-layer capabilities (R171, R172). Lane equalisation reset values PRESUMED. Link Control 3 of an upstream port is RsvdP;
the data link feature status tells what the partner offers; parity mismatch status of the port and of two retimers; the 32.0 GT/s
capability offers equalisation bypass and the PCI Express usage mode, whose modified training sets are never sent or received: its
four registers of their data read 0. A lane's byte of an equalisation control holds the preset captured for the upstream port, all
ones before that, in its high half; the low half is that of a downstream port, RsvdP here. -/
def pfPhy : List (Nat × CfgDw) :=
  [(0x1BC, extHeader 0x0019 1 0x1E8),
   (0x1C0, ⟨0, 0, 0, 0⟩),
   (0x1C4, ⟨0, 0, 0x0000FFFF, 0x0000FFFF⟩)]
  ++ repDws 0x1C8 8 ⟨0x7F7F7F7F, 0x7F7F7F7F, 0, 0⟩
  ++ [(0x1E8, extHeader 0x0025 1 0x1F4),
      (0x1EC, ⟨0x80000001, 0, 0, 0⟩),
      (0x1F0, ⟨0, 0, 0, 0x807FFFFF⟩),
      (0x1F4, extHeader 0x0026 1 0x224),
      (0x200, eqStatus)]
  ++ repDws 0x204 3 ⟨0, 0, 0x0000FFFF, 0x0000FFFF⟩
  ++ repDws 0x214 4 ⟨0xF0F0F0F0, 0, 0, 0⟩
  ++ [(0x224, extHeader 0x002A 1 0x254),
      (0x228, ⟨0x00000101, 0, 0, 0⟩),
      (0x22C, ⟨0, 0x00000701, 0, 0x00000701⟩),
      (0x230, eqStatus)]
  ++ repDws 0x244 4 ⟨0xF0F0F0F0, 0, 0, 0⟩
  ++ [(0x254, extHeader 0x0031 1 0x274), (0x260, eqStatus)]
  ++ repDws 0x264 4 ⟨0xF0F0F0F0, 0, 0, 0⟩
  ++ [(0x274, extHeader Config.phy128Id.toNat 1 0x294), (0x280, eqStatus)]
  ++ repDws 0x284 4 ⟨0xF0F0F0F0, 0, 0, 0⟩
  ++ [(0x294, extHeader 0x0027 1 0x2DC), (0x298, ⟨0, 0, 0, 0⟩)]
  ++ repDws 0x29C 16 ⟨0x00009C38, 0x0000FF7F, 0, 0⟩

/-- Flit Logging (R171, R172): the two error logs, the error counter and its status, the bit error rate measurement with its ten
counters. Control bits are RW, the log's valid bit and the counter's interrupt bit RW1CS, the rest read only (layout of the Base
Specification, PRESUMED, log entry 17). -/
def pfFlitLog : List (Nat × CfgDw) :=
  [(0x2E0, ⟨0, 0, 0x00000001, 0xFFFFFFFF⟩),
   (0x2E4, ⟨0, 0, 0, 0xFFFFFFFF⟩),
   (0x2E8, ⟨0, 0x00000FFF, 0, 0⟩),
   (0x2EC, ⟨0, 0, 0x00000010, 0xFFFFFFFF⟩),
   (0x2F0, ⟨0, 0x0000000D, 0, 0⟩)]
  ++ repDws 0x2F4 10 ⟨0, 0, 0, 0⟩

/-- Flit Logging to DOE of a PF (R171, R172). The DOE registers at 0x350 to 0x35C are read and written as the DOE
mailbox. Device 3: both 14-bit tag bits and L0p; its status holds the initial link width and the partner's L0p support (bit places
PRESUMED). -/
def pfExt2 : List (Nat × CfgDw) :=
  (0x2DC, extHeader 0x0032 1 0x31C) :: pfFlitLog ++
  [(0x31C, extHeader 0x002F 1 0x32C),
   (0x320, ⟨0x0000000E, 0, 0, 0⟩),
   (0x324, ⟨0x00000070, 0x0000007C, 0, 0⟩),
   (0x328, ⟨0, 0, 0, 0⟩),
   (0x32C, extHeader 0x0018 1 0x334),
   (0x330, ⟨0, 0x1FFF1FFF, 0, 0⟩),
   (0x334, extHeader 0x001F 1 0x340),
   (0x338, ⟨0x00000001, 0, 0, 0⟩),
   (0x33C, ⟨0, 0x0000FF01, 0, 0⟩),
   (0x340, extHeader 0x001B 1 0x348),
   (0x344, ⟨0x00001400, 0x00010000, 0, 0⟩),
   (0x348, extHeader 0x002E 1 0x360),
   (0x34C, ⟨0, 0, 0, 0⟩)]

/-- IDE control register bits (PRESUMED): enable, aggregation, PCRC, algorithm, TC, default stream, stream ID. -/
def ideControlMask : Nat := 0xFF7FC1FD

/-- Selective IDE block `i` (R157, R171): capability, control, status, two RID association registers and two address
association blocks. -/
def ideBlock (i : Nat) : List (Nat × CfgDw) :=
  let b := 0x374 + 44 * i
  [(b, ⟨2, 0, 0, 0⟩),
   (b + 4, ⟨0, ideControlMask, 0, 0⟩),
   (b + 8, ⟨0, 0, 0x80000000, 0⟩),
   (b + 12, ⟨0, 0x00FFFF00, 0, 0⟩),
   (b + 16, ⟨0, 0xFFFFFF01, 0, 0⟩),
   (b + 20, ⟨0, 0xFFFFFF01, 0, 0⟩),
   (b + 24, ⟨0, 0xFFFFFFFF, 0, 0⟩),
   (b + 28, ⟨0, 0xFFFFFFFF, 0, 0⟩),
   (b + 32, ⟨0, 0xFFFFFF01, 0, 0⟩),
   (b + 36, ⟨0, 0xFFFFFFFF, 0, 0⟩),
   (b + 40, ⟨0, 0xFFFFFFFF, 0, 0⟩)]

/-- IDE capability (R171, R172). -/
def pfIde : List (Nat × CfgDw) :=
  [(0x360, extHeader 0x0030 1 0x000),
   (0x364, ⟨0x00070073, 0, 0, 0⟩),
   (0x36C, ⟨0, ideControlMask, 0, 0⟩),
   (0x370, ⟨0, 0, 0x80000000, 0⟩)]
  ++ (List.range 8).flatMap ideBlock

/-- Configuration space of a PF, by offset. -/
def pfCfg : List (Nat × CfgDw) := pfHeader ++ pfCaps ++ aerDws false ++ pfExt1 ++ pfPhy ++ pfExt2 ++ pfIde

/-- Configuration space of a VF (R175), by offset. Device Control keeps the error-reporting enables; Initiate FLR acts
and reads 0. -/
def vfCfg : List (Nat × CfgDw) :=
  [(0x00, ⟨0xFFFFFFFF, 0, 0, 0⟩),
   (0x04, ⟨0x00100000, 0x00000004, 0xF9000000, 0⟩),
   (0x08, ⟨0x06800010, 0, 0, 0⟩),
   (0x2C, ⟨0x00011F4B, 0, 0, 0⟩),
   (0x34, ⟨0x00000040, 0, 0, 0⟩),
   (0x40, ⟨0x00035001, 0, 0, 0⟩),
   (0x44, ⟨0x00000008, 0x00000003, 0, 0⟩),
   (0x50, ⟨0x8002B010, 0, 0, 0⟩),
   (0x54, ⟨0x10008E25, 0, 0, 0⟩),
   (0x58, ⟨0, 0x0000000F, 0x000F0000, 0⟩),
   (0x5C, ⟨0x0045F907, 0, 0, 0⟩),
   (0x74, ⟨0x0073081F, 0, 0, 0⟩),
   (0x7C, ⟨0x018000FE, 0, 0, 0⟩),
   (0xB0, ⟨0x00FF0011, 0xC0000000, 0, 0⟩),
   (0xB4, ⟨0x00008002, 0, 0, 0⟩),
   (0xB8, ⟨0x0000C002, 0, 0, 0⟩)]
  ++ aerDws true
  ++ [(0x148, extHeader 0x000E 1 0x150),
      (0x150, extHeader 0x000D 1 0x31C),
      (0x154, ⟨0x0000004C, 0x004C0000, 0, 0⟩),
      (0x31C, extHeader 0x002F 1 0x000),
      (0x320, ⟨0x0000000E, 0, 0, 0⟩),
      (0x324, ⟨0, 0x00000004, 0, 0⟩)]

/-- The dword at configuration dword index `dw` of a PF or a VF; an offset outside every structure is all zeros and
read only (R163). -/
def cfgDw (isVf : Bool) (dw : Nat) : CfgDw :=
  Tbl.get ⟨0, 0, 0, 0⟩ (if isVf then vfCfg else pfCfg) (4 * dw)

/-- Key of dword `dw` of function `f` in the configuration table. -/
def cfgKey (f dw : Nat) : Nat := f * 1024 + dw

/-- Reset value at a key of the configuration table. -/
def cfgReset (key : Nat) : Dword := BitVec.ofNat 32 (cfgDw (decide (4 ≤ key / 1024)) (key % 1024)).reset

end Sys2Proof.Machine
end

