-- ==== Sys2Proof/Machine/Rss.lean ====
section
/-! DEFINITION. Formats of the retained-state store (R111 to R118): run entries, bank headers, journals, CRC-32C. -/

namespace Sys2Proof.Machine

/-- One shift of the CRC-32C register (reflected polynomial 0x82F63B78). -/
def crcShift (c : BitVec 32) : BitVec 32 :=
  if c.getLsbD 0 then (c >>> 1) ^^^ 0x82F63B78 else c >>> 1

/-- The CRC-32C register after one byte. -/
def crcByte (c : BitVec 32) (b : Byte) : BitVec 32 :=
  (List.range 8).foldl (fun x _ => crcShift x) (c ^^^ b.zeroExtend 32)

/-- CRC-32C of a byte string. -/
def crc32c (bs : List Byte) : BitVec 32 :=
  ~~~ (bs.foldl crcByte 0xFFFFFFFF)

/-- CRC-32C as 4 little-endian bytes. -/
def crcBytes (bs : List Byte) : List Byte := leBytes 4 (crc32c bs).toNat

/-- One run entry: BAR0 word index and the 64-bit words from there on (R113). -/
structure Run where
  index : Nat
  words : List Word
  deriving DecidableEq, Repr

/-- Bytes of a run entry (R113). -/
def Run.bytes (r : Run) : List Byte :=
  leBytes 8 (r.index + (r.words.length - 1) * 2 ^ 21) ++ r.words.flatMap wordBytes

/-- Puts word `v` of index `i` in front of runs that begin above `i`; a run holds at most 2048 words (R113). -/
def consRun (i : Nat) (v : Word) : List Run → List Run
  | [] => [⟨i, [v]⟩]
  | r :: rs => if r.index = i + 1 ∧ r.words.length < 2048 then ⟨i, v :: r.words⟩ :: rs else ⟨i, [v]⟩ :: r :: rs

/-- Runs of a table of words in rising order: maximal runs of neighbouring words (log entry 14). -/
def runsOf (t : Tbl Word) : List Run := t.foldr (fun e rs => consRun e.1 e.2 rs) []

/-- Body or payload: the bytes of the runs of a table of words. -/
def runBytes (t : Tbl Word) : List Byte := (runsOf t).flatMap Run.bytes

/-- `n` words from a byte string. -/
def takeWords : Nat → List Byte → List Word
  | 0, _ => []
  | n + 1, bs => BitVec.ofNat 64 (leNat (bs.take 8)) :: takeWords n (bs.drop 8)

/-- Run entries of a body or payload. `none` when one runs past the end, or names an offset outside PF BAR0 (R114). -/
def parseRuns : Nat → List Byte → Option (List Run)
  | 0, _ => some []
  | _ + 1, [] => some []
  | fuel + 1, bs =>
    let h := leNat (bs.take 8)
    let i := h % 2 ^ 21
    let n := h / 2 ^ 21 % 2 ^ 11 + 1
    if bs.length < 8 + 8 * n ∨ 2 ^ 21 < i + n then none
    else (parseRuns fuel (bs.drop (8 + 8 * n))).map (fun rs => ⟨i, takeWords n (bs.drop 8)⟩ :: rs)

/-- Words of a run list laid over a table, later runs last. -/
def overlayRuns (t : Tbl Word) (rs : List Run) : Tbl Word :=
  rs.foldl (fun t r => ((List.range r.words.length).zip r.words).foldl (fun t e => Tbl.insert t (r.index + e.1) e.2) t) t

/-! ### Layout (R111) -/

/-- Offset of image bank `b`. -/
def bankBase (b : Nat) : Nat := b * 0x100000
/-- Offset of journal `j`. -/
def journalBase (j : Nat) : Nat := 0x200000 + j * 0x80000
/-- Words of a journal, its header among them. -/
def journalWords : Nat := 8192
/-- Largest body of a bank (R115). -/
def maxBody : Nat := 1048512
/-- Largest record in words (R117). -/
def maxRecordWords : Nat := 224

/-- Byte of the store at an offset; an unwritten byte is 0 (log entry 5). -/
def rssRead (m : Tbl Byte) (o n : Nat) : List Byte := Tbl.readBytes (fun _ => 0) m o n

/-- Bytes written to the store; the byte 0 is not listed. -/
def rssWrite (m : Tbl Byte) (o : Nat) : List Byte → Tbl Byte
  | [] => m
  | b :: bs => rssWrite (Tbl.set 0 m o b) (o + 1) bs

/-- 64-byte bank header (R115). -/
def bankHeader (seq : Nat) (body : List Byte) : List Byte :=
  let h := leBytes 4 0x4A58494D ++ leBytes 4 1 ++ leBytes 8 seq ++ leBytes 4 body.length ++ crcBytes body ++ leBytes 36 0
  h ++ crcBytes h

/-- A bank as the boot scan reads it: sequence and body runs, when the bank is valid (R115). -/
structure Bank where
  seq : Nat
  runs : List Run
  deriving DecidableEq, Repr

/-- Reads a bank from its bytes `h` (header) and a reader of its body. -/
def readBank (h : List Byte) (bodyOf : Nat → List Byte) : Option Bank :=
  let len := leAt h 16 4
  let body := bodyOf len
  if leAt h 0 4 = 0x4A58494D ∧ leAt h 4 4 = 1 ∧ len % 8 = 0 ∧ len ≤ maxBody ∧ leAt h 60 4 = (crc32c (h.take 60)).toNat
      ∧ leAt h 20 4 = (crc32c body).toNat then
    (parseRuns (len / 8 + 1) body).map (fun rs => ⟨leAt h 8 8, rs⟩)
  else none

/-- Bank `b` of the store, when valid. -/
def rssBank (m : Tbl Byte) (b : Nat) : Option Bank :=
  readBank (rssRead m (bankBase b) 64) (fun n => rssRead m (bankBase b + 64) n)

/-- A bank whose header is not valid (R120). -/
def bankHeaderBad (m : Tbl Byte) (b : Nat) : Bool :=
  let h := rssRead m (bankBase b) 64
  !(decide (leAt h 0 4 = 0x4A58494D ∧ leAt h 4 4 = 1 ∧ leAt h 60 4 = (crc32c (h.take 60)).toNat))

/-- 64-byte journal header (R116). -/
def journalHeader (base : Nat) : List Byte :=
  let h := leBytes 4 0x4A584A48 ++ leBytes 4 0 ++ leBytes 8 base ++ leBytes 44 0
  h ++ crcBytes h

/-- `base_seq` of journal `j`, when its header is valid. -/
def journalSeq (m : Tbl Byte) (j : Nat) : Option Nat :=
  let h := rssRead m (journalBase j) 64
  if leAt h 0 4 = 0x4A584A48 ∧ leAt h 60 4 = (crc32c (h.take 60)).toNat then some (leAt h 8 8) else none

/-- Words of a record of `n` payload bytes: header and padded payload, then the commit word (R116). -/
def recordWords (n : Nat) : Nat := ceilDiv (32 + n) 64 + 1

/-- The record without its commit word, padded to a word boundary (R116). -/
def recordHead (seq ctx : Nat) (payload : List Byte) : List Byte :=
  let h := leBytes 4 0x4A584352 ++ leBytes 4 payload.length ++ leBytes 8 seq ++ leBytes 4 ctx ++ crcBytes payload
    ++ leBytes 8 0
  h ++ payload ++ leBytes (roundUp (32 + payload.length) 64 - (32 + payload.length)) 0

/-- The commit word (R116). -/
def commitWord (seq ctx : Nat) (payload : List Byte) : List Byte :=
  let rec' := (recordHead seq ctx payload).take (32 + payload.length)
  let h := leBytes 4 0x4A58434D ++ leBytes 4 0 ++ leBytes 8 seq ++ crcBytes rec' ++ leBytes 40 0
  h ++ crcBytes h

/-- What the boot scan finds at a word of a journal. -/
inductive RecordAt where
  | none
  | torn (words seq : Nat)
  | committed (words seq : Nat) (runs : List Run)
  deriving DecidableEq, Repr

/-- Reads the record that begins at word `w` of journal `j` (R116). DEDUCED: one whose payload names an offset outside BAR0 is not
committed, like one with a wrong check (R114; log entry 75). -/
def recordAt (m : Tbl Byte) (j w : Nat) : RecordAt :=
  let o := journalBase j + 64 * w
  let h := rssRead m o 32
  let len := leAt h 4 4
  if journalWords ≤ w ∨ leAt h 0 4 ≠ 0x4A584352 ∨ len % 8 ≠ 0 ∨ journalWords < w + recordWords len then .none
  else
    let n := recordWords len
    let payload := rssRead m (o + 32) len
    let cw := rssRead m (o + 64 * (n - 1)) 64
    if leAt cw 0 4 = 0x4A58434D ∧ leAt cw 8 8 = leAt h 8 8 ∧ leAt cw 60 4 = (crc32c (cw.take 60)).toNat
        ∧ leAt cw 16 4 = (crc32c (rssRead m o (32 + len))).toNat ∧ leAt h 20 4 = (crc32c payload).toNat then
      match parseRuns (len / 8 + 1) payload with
      | some rs => .committed n (leAt h 8 8) rs
      | Option.none => .torn n (leAt h 8 8)
    else .torn n (leAt h 8 8)

/-- What a journal holds: the runs of its committed records in order up to the first that is not, how many there are,
the words in use, whether a torn record ended them, and whether a committed record of a later sequence follows the gap
(R119, R120). Records of an earlier fill of the journal carry lower sequences and are neither (log entry 46, DEDUCED). -/
structure JournalScan where
  runs : List Run
  records : Nat
  lastSeq : Nat
  used : Nat
  torn : Bool
  corrupt : Bool
  deriving DecidableEq, Repr

/-- A record with its commit word and a sequence above `seq` begins at word `w` of journal `j` or later. A record's first
byte is never 0, so it is listed. -/
def laterCommit (m : Tbl Byte) (j w seq : Nat) : Bool :=
  m.any (fun e =>
    if journalBase j + 64 * w ≤ e.1 ∧ e.1 < journalBase (j + 1) ∧ e.1 % 64 = 0 then
      match recordAt m j ((e.1 - journalBase j) / 64) with
      | .committed _ t _ => decide (seq < t)
      | _ => false
    else false)

/-- What the scan of a journal finds where its committed records end, at word `w` after sequence `seq`. -/
def endScan (m : Tbl Byte) (j w seq : Nat) (torn : Bool) : JournalScan := ⟨[], 0, seq, w, torn, laterCommit m j w seq⟩

/-- Scans journal `j` from word `w`, expecting sequence `seq + 1` next. -/
def scanJournal (m : Tbl Byte) (j : Nat) : Nat → Nat → Nat → JournalScan
  | 0, w, seq => endScan m j w seq false
  | fuel + 1, w, seq =>
    match recordAt m j w with
    | .none => endScan m j w seq false
    | .torn _ s => endScan m j w seq (decide (seq < s))
    | .committed n s rs =>
      if s = seq + 1 then
        let r := scanJournal m j fuel (w + n) s
        { r with runs := rs ++ r.runs, records := r.records + 1 }
      else endScan m j w seq false

end Sys2Proof.Machine
end

