-- ==== Sys2Proof/Machine/State.lean ====
section
/-! DEFINITION. The state of the module: every register, table and buffer the spec gives it, the queue of waiting
commands, the outcomes of a step and the state after reset. State is plain data. -/

namespace Sys2Proof.Machine

/-- Why a step stops with a fault: no command of this module stops, so there is no reason. -/
inductive Fault where
  deriving DecidableEq, Repr

/-- Why a step has no meaning. -/
inductive Refusal where
  /-- Raised by an arm of exec whose command has no meaning yet; no arm of this model does. Safe. -/
  | notModelled (mnemonic : String)
  deriving DecidableEq, Repr

/-! ### Phases of the module -/

/-- What an ending that waits for the store leads to (R76, R99, R132). -/
inductive Ending where
  | standby | mainsOff
  deriving DecidableEq, Repr

/-- Where the module stands in the power-up sequence of R106 and the endings of R99, R104, R105 and R406. -/
inductive Phase where
  /-- No mains. -/
  | off
  /-- MOD_RESET_N low, or STANDBY_REQ_N released with MOD_RESET_N still low (R71). -/
  | heldReset
  /-- Boot scan in progress. -/
  | scanning
  /-- Scan complete; the Plumb start permit is awaited. -/
  | awaitPermit
  /-- Rails up, host ports powered, restore strobe awaited. -/
  | starting
  /-- The restore strobe has been given. -/
  | up
  /-- Traffic stopped, an RSS write finishes, regions then go off. -/
  | ending (e : Ending)
  /-- Thermal shutdown deferred, clocks stopped (R133). -/
  | deferring
  /-- Sill-only standby. -/
  | standby
  /-- Sill-only state after a thermal shutdown (R104). -/
  | shutdown
  /-- Safe state (R406). -/
  | safe
  /-- Hard trip latched (R105). -/
  | tripped
  deriving DecidableEq, Repr

/-! ### What leaves the module -/

/-- Status of a completion TLP that the module returns. -/
inductive TlpStatus where
  | ok | unsupported | aborted | retry
  deriving DecidableEq, Repr

/-- Messages the module sends on a host link. -/
inductive HostMsg where
  | pmeToAck
  | enterL1
  | ltr (ns : Nat)
  | errCor (rid : Nat)
  | errNonFatal (rid : Nat)
  | errFatal (rid : Nat)
  | ptmRequest
  | l0pWidth (w : Nat)
  /-- Flow-control credits of VC0 that the port advertises; those for completions are infinite (R138). -/
  | credits (postedHeaders postedBytes nonPostedHeaders nonPostedBytes : Nat)
  /-- Whether training advertises equalisation bypass to highest rate (R137). -/
  | eqBypass (b : Bool)
  deriving DecidableEq, Repr

/-- Kinds of frame and their transaction fields (R323, R352). -/
structure Frame where
  vc : Nat
  /-- 1 RD, 2 WR, 3 CPL, 4 PEG, 5 TIME. -/
  type : Nat
  deadline : Option Nat
  sparse : Bool
  be : Nat
  last : Bool
  tag : Nat
  status : Nat
  rdLen : Nat
  addr : Nat
  offset : Nat
  payload : List Byte
  deriving DecidableEq, Repr

/-- Capability flags of the SPDM responder (R421). -/
inductive SpdmCap where
  | cert | chal | measSig | measFresh | encrypt | mac | keyEx | hbeat | keyUpd | chunk
  deriving DecidableEq, Repr

/-- Algorithms that the SPDM responder selects (R421). -/
inductive SpdmAlg where
  | ecdsaP384 | sha384 | measSha384 | secp384r1 | aes256Gcm | spdmKeySchedule | dmtf
  deriving DecidableEq, Repr

/-- SPDM value types of measurement slots (R417, R423). -/
inductive MeasType where
  | immutableRom | mutableFirmware | firmwareConfig | hardwareConfig | raw
  deriving DecidableEq, Repr

/-- Content of an ERROR response (R420, R424, R425). `unexpected`, `invalid` and `large` are the errors of DMTF SPDM 1.3 for
a request out of order, a wrong field and a response to be fetched in chunks (log entry 16). -/
inductive SpdmError where
  | unsupported (code : Nat) | busy | sessionLimit | vendorDefined (reason : Nat) | unexpected | invalid | large (handle : Nat)
  deriving DecidableEq, Repr

/-- Answers to IDE_KM messages (R158): QUERY tells for each stream the key sets programmed and the one in use. -/
inductive KmRsp where
  | queryResp (streams : List (Nat × List Nat × Option Nat))
  | kpAck (stream keySet : Nat)
  | goStopAck (stream keySet : Nat)
  deriving DecidableEq, Repr

/-- Responses of the SPDM responder, by content (R419 to R425; log entry 16). -/
inductive SpdmRsp where
  | version (major minor : Nat)
  | capabilities (caps : List SpdmCap) (dataTransferSize maxMessage heartbeat : Nat)
  | algorithms (algs : List SpdmAlg)
  | digests (slot : Nat) (digest : BitVec 384)
  | certificate (slot : Nat) (part : List Byte) (left : Nat)
  | challengeAuth (slot : Nat) (chain : BitVec 384) (nonce signature : List Byte)
  | measurements (blocks : List (Nat × MeasType × List Byte)) (total : Nat) (nonce signature : List Byte)
  | keyExchange (session : Nat) (exchange signature : List Byte)
  | finished (session : Nat)
  | heartbeatAck (session : Nat)
  | keyUpdateAck (session : Nat)
  | endSessionAck (session : Nat)
  | chunkSendAck (handle seq : Nat)
  | chunkResponse (handle seq : Nat) (last : Bool) (part : List Byte)
  | ideKm (session : Nat) (r : KmRsp)
  | error (e : SpdmError)
  deriving DecidableEq, Repr

/-- Responses of Ridge's MCTP control protocol (R427). -/
inductive MctpRsp where
  | eidSet (accepted : Bool) (eid : Nat)
  | eid (eid : Nat)
  | uuid (u : BitVec 128)
  | versions (v : List Byte)
  | types (t : List Nat)
  deriving DecidableEq, Repr

/-- What leaves the module at its pins or is read from it. -/
inductive Output where
  /-- `be` masks the bytes of a sparse access (R355); 0 stands for every byte. -/
  | memWrite (h : Nat) (rid : Nat) (pasid stream : Option Nat) (addr be : Nat) (data : List Byte)
  | memRead (h : Nat) (rid : Nat) (pasid stream : Option Nat) (tag addr len be : Nat)
  | completion (h : Nat) (f : Nat) (reqTag : Nat) (status : TlpStatus) (data : List Byte)
  /-- A TLP that carries an ECRC (R134). -/
  | ecrc (tlp : Output)
  /-- A TLP sent poisoned (R393, code 6.1). -/
  | poisoned (tlp : Output)
  | cfgCompletion (h n : Nat) (status : TlpStatus) (data : Dword)
  | message (h : Nat) (m : HostMsg)
  | frame (p : Nat) (seq : Nat) (link : Word) (f : Frame)
  | idle (p : Nat) (link : Word)
  | laneSet (p : Nat) (link : Word) (newMask atCount : Nat)
  | pm (p : Nat) (link : Word) (code : Nat)
  /-- A marker: its 16 data bytes and BIP-8, and the line bits of it and of its fill words, stuffed (R300, R303). -/
  | marker (l : Nat) (bytes : List Byte) (line : List Bool)
  /-- Line bits of lane words, stuffed (R296, R300). -/
  | line (l : Nat) (bits : List Bool)
  /-- A lane sends the raw pattern of its PRBS generator from now on (R316). -/
  | prbs (l pattern : Nat)
  | periodUnit (l first mask count : Nat)
  | regData (by_ : Agent) (off : Nat) (data : List Byte)
  | romData (data : List Byte)
  | spdm (t : Transport) (r : SpdmRsp)
  | mctp (r : MctpRsp)
  | mctpResponse (status : Nat) (bytes : List Byte)
  deriving DecidableEq, Repr

/-! ### Timers (log entry 8) -/

/-- A running timer. Lanes, ports, queues and tags are given by number. -/
inductive Timer where
  | txn (c : Nat) | quiesce (c : Nat) | coalesce (q : Nat)
  | deferral | portReset (p : Nat) | downHold (p : Nat) | training (p : Nat) | wake (p : Nat)
  | lockLoss (p : Nat) | replay (p : Nat) | pmReply (p : Nat) | dozeIdle (p : Nat) | sleepIdle (p : Nat)
  | idleInterval (p : Nat) | laneSet (p : Nat) | relock (p : Nat) | timeFrame (p : Nat) | txMask (p : Nat)
  | response (p tag : Nat) | tagHold (p tag : Nat)
  | hostTag (h tag : Nat) | tagRelease (h tag : Nat) | flrTag (h tag : Nat) | ptm (h : Nat) | ptmContext (h : Nat)
  | ltr (h : Nat) | ltrIdle (h : Nat)
  | classifier (n c inst : Nat) | watchdog | restart | restartCount | selftest
  | plumb | scribe
  | doze (p : Nat) | keepalive (l : Nat) | merger (p : Nat)
  deriving DecidableEq, Repr

/-! ### Host side -/

/-- What a non-posted request to a host is for. -/
inductive HPurpose where
  /-- `count` descriptors of queue `q` from SQ index `idx`. -/
  | fetch (q idx count : Nat)
  /-- The extension of queue `q` at the address read. -/
  | ext (q : Nat)
  /-- Source data of engine `e` at stream offset `pos` of its piece. -/
  | engine (e pos : Nat)
  /-- Part at offset `ofs` of the read with device tag `dtag` on JPp. -/
  | loc (p dtag ofs : Nat)
  /-- A write of a local device to local address `laddr` that waits behind earlier reads of its path (R18, R215); `bad` when its
  data has been lost (R393, code 6.1). -/
  | post (data : List Byte) (laddr : Nat) (bad : Bool)
  /-- The data is no longer wanted. -/
  | dropped
  deriving DecidableEq, Repr

/-- A request to a host at the tag arbiter, with the generations recorded at its issue (R191). -/
structure HReq where
  fn : Nat
  fgen : Nat
  q : Option Nat
  qgen : Nat
  /-- Host-view segment of a local request and its generation (R191). -/
  seg : Option (Nat × Nat)
  /-- Its path (R18): Joist port, 0x7F for a fetch, virtual channel, and whether the host side started it. -/
  p : Nat
  v : Nat
  fromHost : Bool
  /-- Order of arrival among BAR4 accesses, device writes and Peg raises. -/
  id : Nat
  pasid : Option Nat
  addr : Nat
  len : Nat
  /-- Byte enables of a sparse access, 0 otherwise. -/
  be : Nat
  key : Nat
  tagged : Bool
  purpose : HPurpose
  deriving DecidableEq, Repr

/-- A host tag in use: its request, the DEVTIME of its issue, and whether it is held out of use after a timeout (R147). -/
structure HTag where
  req : HReq
  issued : Nat
  held : Bool
  got : List Byte
  deriving DecidableEq, Repr

/-- State of one IDE stream beyond its secure bit (R157 to R159). -/
structure IdeStream where
  /-- Keys programmed, by key set. -/
  keys : List (Nat × BitVec 256)
  /-- Key set in use. -/
  active : Option Nat
  /-- Key set of a K_SET_GO that has not taken effect yet (R162). -/
  next : Option Nat
  /-- A failure made the stream insecure until it is programmed again. -/
  failed : Bool
  deriving DecidableEq, Repr

/-- A host port beyond its registers. -/
structure HostDyn where
  /-- PERST_N is low. -/
  perst : Bool
  /-- CPRSNT_N is high: no cable. -/
  absent : Bool
  /-- PME_Turn_Off received: L2 or L3 (R142). -/
  pmOff : Bool
  /-- WAKE_N is driven low (R93). -/
  wake : Bool
  /-- CLKREQ_N is driven low. -/
  clkreq : Bool
  /-- Bus and device number captured from Type 0 Configuration Writes (R173). -/
  busDev : Nat
  /-- Non-posted requests that wait for receive space and a tag, in order of arrival (R286). -/
  waiting : List HReq
  /-- Tags in use, by number. -/
  tags : List (Nat × HTag)
  /-- Busy or idle as last reported by an LTR message (R141). -/
  ltrBusy : Option Bool
  /-- Clock before which no further LTR message is sent. -/
  ltrNext : Nat
  /-- An LTR message is due. -/
  ltrDue : Bool
  /-- IDE streams: 0 link, 1 to 8 selective. -/
  ide : List (Nat × IdeStream)
  /-- A set of VF Enable is held in the mirror (R174). -/
  vfePending : Bool
  /-- A clearing of VF Enable waits for a generation still recorded on an outstanding tag (R193). -/
  vfcHeld : Bool
  /-- Configuration Writes of VF Enable whose completion waits for it to take effect (R164, R174). -/
  vfeOwed : Nat
  /-- The offset of the last PTM dialog has steered DEVTIME (R155). -/
  steered : Bool
  /-- DOE mailbox: dwords written, and the response to be read. -/
  doeIn : List Dword
  /-- Bytes of the BAR0 read in progress that no completion has carried yet (R148). -/
  regGot : List Byte
  doeOut : List Dword
  doeError : Bool
  deriving DecidableEq, Repr

/-- A host port after reset: PERST_N low by its pull-down, CPRSNT_N high by its pull-up (R61). -/
def HostDyn.reset : HostDyn :=
  { perst := true, absent := true, pmOff := false, wake := false, clkreq := false, busDev := 0, waiting := [],
    tags := [], ltrBusy := none, ltrNext := 0, ltrDue := false, ide := [], vfePending := false,
    vfcHeld := false, vfeOwed := 0, steered := false, doeIn := [],
    regGot := [], doeOut := [], doeError := false }

/-- A function beyond its registers: writes that its mirror holds until an FLR ends (R176), and, for a VF, a sequence
of R194 in progress. -/
structure FnDyn where
  heldBme : Bool
  heldMse : Bool
  /-- An FLR waits for a generation still recorded on an outstanding tag (R193). -/
  heldFlr : Bool
  /-- Configuration Writes of an FLR that waits whose completion is still to come (R164, R193). -/
  flrOwed : Nat
  /-- Configuration Writes that set Bus Master Enable or Memory Space Enable during an FLR, whose completion waits for its end (R164, R176). -/
  cmdOwed : Nat
  /-- The sequence of R194 runs for the function. -/
  clearing : Bool
  /-- VF_QMAP slots of a VF: slot number and queue pair (R52). -/
  slots : List (Nat × Nat)
  deriving DecidableEq, Repr

/-- A function after reset. -/
def FnDyn.reset : FnDyn := ⟨false, false, false, 0, 0, false, []⟩

/-! ### Dry-fit transactions and the RSS -/

/-- A TXN context beyond its registers. -/
structure TxnDyn where
  /-- Staged 64-bit words: BAR0 word index, staged value and the bits staged (R124). -/
  staged : List (Nat × (Word × Word))
  /-- Lowest word index whose staged write met a claim (R125). -/
  conflictAt : Option Nat
  persist : Bool
  /-- The checks have passed and resources are being quiesced. -/
  quiescing : Bool
  /-- Queues that the commit moves. -/
  moving : List Nat
  /-- Clock at BEGIN. -/
  opened : Nat
  /-- Sequence of a persisted commit that has passed its strobe. -/
  seq : Nat
  /-- Clock at which the timeout rolled back the last transaction (R126). -/
  timedOut : Option Nat
  deriving DecidableEq, Repr

/-- A TXN context with nothing open. -/
def TxnDyn.reset : TxnDyn := ⟨[], none, false, false, [], 0, 0, none⟩

/-- A write of the retained-state store in progress (R117, R118). -/
inductive RssJob where
  | record (ctx seq : Nat) (words : Tbl Word)
  | compact (ctx : Option Nat) (seq : Nat) (words : Tbl Word) (requested : Bool)
  deriving DecidableEq, Repr

/-- The retained-state store and its controller. -/
structure RssDyn where
  /-- Bytes of the 4 MiB store; an unwritten byte is 0 (log entry 5). -/
  bytes : Tbl Byte
  job : Option RssJob
  /-- Compaction that R118 requires once the current write ends. -/
  compactDue : Bool
  /-- Wear budget in tokens times 10^9 (R129). -/
  wear : Nat
  /-- Next commit is persisted by a direct compaction (R122). -/
  directNext : Bool
  deriving DecidableEq, Repr

/-! ### Windows and local requests -/

/-- A BAR4 read in progress (R212). -/
structure WRead where
  id : Nat
  fn : Nat
  fgen : Nat
  h : Nat
  reqTag : Nat
  p : Nat
  v : Nat
  downOnes : Bool
  /-- Offset in the aperture of the first dword, and dwords requested. -/
  off : Nat
  dws : Nat
  firstBe : Nat
  lastBe : Nat
  /-- Segment of its lookup and the segment's generation (R191). -/
  seg : Nat
  sgen : Nat
  /-- Port address of the first dword, and the region base it was taken from. -/
  paddr : Nat
  base : Nat
  key : Nat
  tagged : Bool
  /-- Reserve granted. -/
  granted : Bool
  /-- Data that has arrived: byte offset from the first dword, bytes. -/
  got : List (Nat × List Byte)
  /-- Bytes already returned to the host. -/
  sent : Nat
  /-- A zero-length read that waits for the writes of its path (R149). -/
  flush : Bool
  /-- Engine writes of its path that were on their way when a zero-length read arrived: queue, piece, first offset and one past
  the last. -/
  behind : List (Nat × Nat × Nat × Nat)
  /-- The read has received its down-port result: missing data will not arrive (R218, R219). -/
  down : Bool
  deriving DecidableEq, Repr

/-- Whose frame this is: what happens when it is acknowledged or dropped. -/
inductive Origin where
  | windowWrite (id fn key : Nat) (tagged last : Bool)
  | windowRead (id : Nat)
  | engineWrite (e q piece ofs len : Nat)
  | engineRead (e : Nat)
  | completion (dtag : Nat)
  | time
  deriving DecidableEq, Repr

/-- A frame that waits at a Joist egress or in its replay buffer, with its path and key (R18, R281). -/
structure EgFrame where
  fn : Nat
  fromHost : Bool
  key : Nat
  frame : Frame
  origin : Origin
  /-- The place of a BAR4 read that waits for its reserve: it holds back what comes after it on its path (R18, R288). -/
  waits : Bool
  deriving DecidableEq, Repr

/-- What an RD of the module is for. -/
inductive LPurpose where
  | window (id ofs : Nat)
  | engine (e pos : Nat)
  /-- The data is no longer wanted (R273). -/
  | dropped
  deriving DecidableEq, Repr

/-- A module tag on a Joist port, with the generations recorded at its issue (R191, R357). -/
structure LTag where
  fn : Nat
  fgen : Nat
  q : Option Nat
  qgen : Nat
  v : Nat
  /-- Window segment of a BAR4 read and its generation (R191). -/
  seg : Option (Nat × Nat)
  /-- Port address, and the region base it was taken from at the lookup (R16). -/
  addr : Nat
  base : Nat
  len : Nat
  purpose : LPurpose
  /-- Held out of use after the local response timeout (R358). -/
  held : Bool
  /-- Its read has received its down-port result or was reset. -/
  dead : Bool
  deriving DecidableEq, Repr

/-- A read of a local device in progress at the module (R360). -/
structure DTag where
  v : Nat
  fn : Nat
  fgen : Nat
  addr : Nat
  len : Nat
  key : Nat
  tagged : Bool
  got : List (Nat × List Byte)
  sent : Nat
  /-- Status with which the read ends where its data fails, at that offset. -/
  failed : Option (Nat × Nat)
  /-- Bus Master Enable was cleared: NOHOST once its host read has ended (R152). -/
  nohost : Bool
  /-- It was refused on its arrival, and counted then (R362). -/
  refused : Bool
  parts : Nat
  /-- Parts that hold receive space at the host port: offset and length (R286). -/
  room : List (Nat × Nat)
  deriving DecidableEq, Repr

/-- A Joist port beyond its registers. -/
structure PortDyn where
  present : Bool
  egress : List EgFrame
  /-- Unacknowledged frames with their sequence numbers, oldest first (R329). -/
  replay : List (Nat × EgFrame)
  /-- Accepted frames that wait for Joist ingress dispatch, oldest first. -/
  ingress : List Frame
  reads : List WRead
  ltags : List (Nat × LTag)
  dtags : List (Nat × DTag)
  /-- IDLE received since training began; the module's and the far end's first active period opened (R342). -/
  idleSeen : Bool
  opened : Bool
  rxOpen : Bool
  /-- SLEEP_REQ sent, SLEEP_ACK sent or received (R344). -/
  sleepReq : Bool
  sleepAck : Bool
  /-- The port was woken from sleep and is not up yet; the module sends the wake tone for it (R313). -/
  waking : Bool
  tone : Bool
  /-- tx_mask asked for by the far end and not yet in force. -/
  wantMask : Option Nat
  /-- LANE_SET has announced this tx_mask: no frame starts before the period boundary at which it takes force (R339). -/
  maskDue : Option Nat
  /-- Receive mask announced by LANE_SET, with the marker count from which it holds (R338). -/
  rxNext : Option (Nat × Nat)
  /-- Lanes that supply units in the period received (R321). -/
  unitMask : Nat
  /-- Lane excluded under R340. -/
  excluded : Option Nat
  /-- Unit stream of the port's pair of lanes: framing lost until the next period unit; units that come and are discarded; units of frames
  still to come whole (R325, R370, R373). -/
  lost : Bool
  skip : Nat
  partial_ : List RxUnit
  /-- The link word of the frame in progress has been used, and its virtual channel and payload bytes are counted (R324, R333, R334). -/
  headUsed : Option (Nat × Nat)
  /-- When the first burst of the frame at the head of the merger was complete (R372). -/
  mergeFrom : Option Nat
  /-- A disagreement of the scarf bits has been counted since training began (R369). -/
  mismatched : Bool
  /-- Units of the frames that wait for their slots in the period being sent; the first of them may be the rest of a frame that a boundary has
  cut, with so many units left (R321, R322). -/
  txq : List (List (BitVec 128))
  txCut : Nat
  /-- LOCAL_RESETj_N is driven low. -/
  resetOut : Bool
  /-- Join or split in progress (R368). -/
  joining : Bool
  /-- TIME frame due while the transmit direction dozes. -/
  timeDue : Bool
  /-- A frame was accepted and no link word with its ack has been sent yet (R343). -/
  ackDue : Bool
  /-- Path, by its place in the rotation, whose head waits for window or replay space: nothing else starts (R329). -/
  stalledOn : Option Nat
  deriving DecidableEq, Repr

/-- A Joist port after reset. -/
def PortDyn.reset : PortDyn :=
  { present := false, egress := [], replay := [], ingress := [], reads := [], ltags := [], dtags := [],
    idleSeen := false, opened := false, rxOpen := false, sleepReq := false, sleepAck := false, waking := false,
    tone := false, wantMask := none, maskDue := none, rxNext := none, unitMask := 3, excluded := none, lost := false, skip := 0, partial_ := [],
    headUsed := none, mergeFrom := none, mismatched := false, txq := [], txCut := 0, resetOut := true, joining := false,
    timeDue := false, ackDue := false, stalledOn := none }

/-- A destuffed bit, with the mark of a violation among the bits deleted before it (R301). -/
structure RxBit where
  bit : Bool
  bad : Bool
  deriving DecidableEq, Repr

/-- Where a receiver with word lock stands in its period (R302, R304): a marker comes next; `n` fill words; `n` slots that may hold
fill words, behind an invalid marker; `n` words of the period's body. -/
inductive RxPos where
  | marker | fills (n : Nat) | perhaps (n : Nat) | body (n : Nat)
  deriving DecidableEq, Repr

/-- A lane beyond its registers (R299 to R314). -/
structure LaneDyn where
  /-- Valid markers in a row while searching, and invalid markers in a row while locked. -/
  good : Nat
  bad : Nat
  /-- The next_seed of the last valid marker. -/
  nextSeed : Option Nat
  /-- No seed is known for the current period: every word of it is errored (R304). -/
  blind : Bool
  /-- The lane has held word lock since its bring-up from reset or sleep (R311). -/
  locked : Bool
  /-- Stuffing backlog of the transmit side in bits. -/
  backlog : Nat
  /-- Run of identical bits that the transmitter has sent last: its length, 0 on leaving electrical idle, and its bits (R300). -/
  txRun : Nat
  txBit : Bool
  /-- A marker has opened a period that the transmitter has not ended, and the period unit of an active one (R302, R322). -/
  txOpen : Bool
  txUnit : BitVec 128
  /-- Line bits that a near-end loop carries back and the receiver has not taken yet (R315). -/
  looped : List Bool
  /-- Run of identical bits received last, 0 after electrical idle, and whether the bit deleted after it was a violation (R300, R301). -/
  rxRun : Nat
  rxBit : Bool
  rxBad : Bool
  /-- Destuffed bits of the word in progress, or that the search still looks at. -/
  window : List RxBit
  /-- While searching: bits from the end of the last valid marker to the first bit of the window (R311). -/
  since : Nat
  /-- Where in its period the receiver stands while it holds word lock (R302, R304). -/
  pos : RxPos
  /-- State of the descrambler (R298), and the count of the period received. -/
  scr : Nat
  period : Nat
  /-- Words of data slots received that no port word has taken yet, each with its slot: 4096 times the period's count, and its place in the
  period, 0 for the period unit (R307, R321). -/
  words : List (Nat × RxUnit)
  /-- Valid markers received lately, newest first: count, with 256 added for training, and when it came (R308). -/
  marks : List (Nat × Nat)
  /-- The lane is aligned with the other lane of its pair (R308). -/
  aligned : Bool
  /-- When the compared bits of a PRBS checker in a near-end loop were counted last, while it is synchronised (R316). -/
  prbsFrom : Option Nat
  /-- Bits that the PRBS checker holds, newest first, and how many in a row before synchronisation agreed with the pattern (R316). -/
  chkBits : List Bool
  chkRun : Nat
  /-- Marker count sent last, and the next_seed sent with it. -/
  txCount : Nat
  txNext : Nat
  /-- A marker with rx_ready = 1 has been sent (R310). -/
  sentReady : Bool
  /-- State code and scarf bit of the last valid marker received. -/
  farState : Nat
  farScarf : Bool
  /-- Training markers in a row that carried rx_ready = 1. -/
  ready : Nat
  deriving DecidableEq, Repr

/-- A lane after reset. -/
def LaneDyn.reset : LaneDyn :=
  { good := 0, bad := 0, nextSeed := none, blind := true, locked := false, backlog := 0, txRun := 0, txBit := false,
    txOpen := false, txUnit := 0, looped := [], rxRun := 0, rxBit := false, rxBad := false, window := [], since := 0, pos := .marker, scr := 0,
    period := 0, words := [], marks := [], aligned := false, prbsFrom := none, chkBits := [], chkRun := 0, txCount := 255,
    txNext := 0, sentReady := false, farState := 3, farScarf := false, ready := 0 }

/-! ### Queues and engines -/

/-- A fetched descriptor. -/
structure Prefetched where
  idx : Nat
  /-- Its eight words; none where its fetch failed. -/
  words : List Word
  /-- Q_STATE.gen when it was fetched. -/
  gen : Nat
  /-- Arbitration key: the deadline, or the implicit key of an untagged or demoted descriptor (R278, R283). -/
  key : Nat
  /-- Effective deadline, expanded (R275), when the descriptor carries one. -/
  deadline : Option Nat
  clamped : Bool
  flagged : Bool
  /-- Runs as untagged (R283). -/
  demoted : Bool
  /-- Status that ends it without moving data (R240), 0 if none. -/
  bad : Nat
  /-- Its fetch failed, at this host address (R267). -/
  fetchErr : Option Nat
  /-- It is to be fetched again before it runs (R247). -/
  gone : Bool
  deriving DecidableEq, Repr

/-- The running or halted descriptor of a queue, at its resume point (R247). -/
structure Current where
  d : Prefetched
  piece : Nat
  /-- Words of the current piece; none while its extension is to be fetched again. -/
  words : List Word
  /-- Address of the piece's extension, 0 for the descriptor itself. -/
  ext : Nat
  /-- Destination bytes of the pieces before. -/
  before : Nat
  /-- Destination bytes of the current piece whose writes were issued. -/
  issued : Nat
  /-- Status with which the descriptor ended, once every request has been issued and every read has returned. -/
  ended : Option Nat
  /-- The next extension, when it has arrived: address, words and the status it fails with (0 if none). -/
  next : Option (Nat × List Word × Nat)
  /-- An extension fetch is waiting or outstanding. -/
  asked : Bool
  /-- Key of the piece's extension fetch (R277). -/
  fetchKey : Nat
  /-- Pieces whose admission has been tested (R247). -/
  tested : Nat
  deriving DecidableEq, Repr

/-- A completion entry (R241) before it is written. -/
structure Entry where
  d : Prefetched
  status : Nat
  bytes : Nat
  halted : Bool
  /-- DEVTIME when the entry was formed. -/
  formed : Nat
  /-- Kept in Q_HELD_CMP. -/
  held : Bool
  /-- A halt entry that met a full ring: it is written when a slot is freed (R243). -/
  slot : Bool
  /-- A slot has been freed for it while Bus Master Enable was 1 (R243). -/
  freed : Bool
  deriving DecidableEq, Repr

/-- A local write that was issued and is not yet acknowledged. -/
structure Unacked where
  piece : Nat
  ofs : Nat
  len : Nat
  ext : Nat
  before : Nat
  /-- Local address of its first byte. -/
  addr : Nat
  deriving DecidableEq, Repr

/-- A queue pair beyond its registers. -/
structure QDyn where
  /-- SQ index of the next descriptor to fetch. -/
  fetchAt : Nat
  /-- A descriptor fetch is waiting or outstanding. -/
  fetching : Bool
  /-- Fetched data that DESCRIPTOR_ARRIVAL reads: first index and bytes. -/
  arrived : Option (Nat × List Byte)
  /-- Fetched data that EXTENSION_ARRIVAL reads. -/
  extArrived : Option (List Byte)
  /-- An extension fetch from before a halt is outstanding: its data will be discarded (R247). -/
  extLost : Bool
  /-- Descriptors fetched ahead of the current one. -/
  pref : List Prefetched
  cur : Option Current
  /-- A halt entry with this status is due (R247). -/
  haltDue : Option Nat
  /-- The entry in Q_HELD_CMP. -/
  held : Option Entry
  /-- Local writes issued and not yet acknowledged. -/
  unacked : List Unacked
  /-- Estimate of the previous descriptor's finish, in DEVTIME ns (R284). -/
  finish : Nat
  /-- Key of the queue's descriptor fetches, set by the accepted doorbell (R277). -/
  rung : Nat
  /-- RESUME, RESTART or SKIP that waits for the drain (R251), 0 if none. -/
  waitCmd : Nat
  /-- Clock of the last STOP or Bus Master Enable halt, against which an error on the same edge is judged (R251). -/
  edgeAt : Option Nat
  /-- Clock at which Q_COAL.pending last left 0: the coalescing timer runs from there (R248). -/
  coalAt : Nat
  /-- A committing transaction moves the queue (R188). -/
  moving : Bool
  /-- State before the queue was held quiescing. -/
  stateBefore : Nat
  /-- Table entry on which a completion message of the queue is held (R188, R382). -/
  vecOn : Option Nat
  /-- Key of the completion vector that the written entries wait for, and whether it is a deadline: the earliest of theirs (R277). -/
  coalKey : Option (Nat × Bool)
  /-- Engine that ran the channel last: errors that come after it has drained are counted there (R267). -/
  lastEng : Option Nat
  deriving DecidableEq, Repr

/-- A queue pair after reset. -/
def QDyn.reset : QDyn :=
  { fetchAt := 0, fetching := false, arrived := none, extArrived := none, extLost := false, pref := [], cur := none, haltDue := none,
    held := none, unacked := [], finish := 0, rung := 0, waitCmd := 0, edgeAt := none, coalAt := 0, moving := false, stateBefore := 0,
    vecOn := none, coalKey := none, lastEng := none }

/-- An engine beyond its registers. -/
structure EngDyn where
  q : Option Nat
  /-- Source stream bytes whose reads were issued, and those consumed by the holding register. -/
  readAt : Nat
  usedAt : Nat
  /-- Outstanding reads: stream offset and length. -/
  reads : List (Nat × Nat)
  /-- Read buffer: stream offset and bytes. -/
  buf : List (Nat × List Byte)
  /-- Rate limiter: earliest time of the next local read and write, in 1/256 CCLK (R262). -/
  allowedSrc : Nat
  allowedDst : Nat
  /-- Clock at the grant, and since when the engine waits on the limiter. -/
  boundAt : Nat
  paceFrom : Option Nat
  /-- The group has faulted and awaits recovery. -/
  offline : Bool
  /-- The channel has halted: the engine drains (R269). -/
  draining : Bool
  deriving DecidableEq, Repr

/-- An engine after reset. -/
def EngDyn.reset : EngDyn := ⟨none, 0, 0, [], [], 0, 0, 0, none, false, false⟩

/-! ### Interrupts -/

/-- Keys of a Peg source (R379): earliest arbitration key, and deadline when a merged raise was tagged. -/
structure PegDyn where
  key : Nat
  deadline : Option Nat
  vc : Nat
  /-- Table entry on which its delivery is held; in the compatibility view, the MSI vector. -/
  heldOn : Option Nat
  /-- Keys of the held delivery, beside those of later raises (R188, R379). -/
  heldKey : Option (Nat × Option Nat)
  /-- Virtual channels of the frames that raised it, each with a number: device writes that arrived on the channel before that number go
  to the host before its message (R383). -/
  behind : List (Nat × Nat)
  /-- ECC error: disabled until a commit rewrites it (R388). -/
  bad : Bool
  deriving DecidableEq, Repr

/-- A Peg source with nothing raised. -/
def PegDyn.reset : PegDyn := ⟨0, none, 0, none, none, [], false⟩

/-- A completion vector that waits at the Peg output: queue, key, and whether the key is a deadline (R277). -/
structure VecReq where
  q : Nat
  key : Nat
  tagged : Bool
  deriving DecidableEq, Repr

/-- A held message whose entry has become able to send, and which waits at the Peg output: function, table entry (in the
compatibility view, MSI vector) and the key of its release (R277, R279, R382). -/
structure FreedMsg where
  f : Nat
  e : Nat
  key : Nat
  deriving DecidableEq, Repr

/-! ### Faults and recovery -/

/-- A classifier source: code, instance, count, promoted (R397). -/
structure Source where
  n : Nat
  c : Nat
  inst : Nat
  count : Nat
  promoted : Bool
  deriving DecidableEq, Repr

/-- Brace beyond its registers. -/
structure BraceDyn where
  sources : List Source
  /-- Domain indices queued for recovery, head first; the flag tells whether its sequence runs (R400). -/
  queue : List (Nat × Bool)
  arrivals : Nat
  /-- History index of a domain's first entry. -/
  first : List (Nat × Nat)
  /-- Level codes whose condition lasts (R393 code marked L). -/
  levels : List (Nat × Nat)
  deriving DecidableEq, Repr

/-- Brace with nothing recorded. -/
def BraceDyn.reset : BraceDyn := ⟨[], [], 0, [], []⟩

/-! ### Ridge -/

/-- An SPDM session (R424). `id` is the model's number for it on its transport (log entry 16). -/
structure Session where
  id : Nat
  overDoe : Option Nat
  confirmed : Bool
  deriving DecidableEq, Repr

/-- SPDM state of one transport: connection stage reached, chunk transfers (R419 to R425). -/
structure SpdmConn where
  doe : Option Nat
  /-- 0 none, 1 version, 2 capabilities, 3 algorithms. -/
  stage : Nat
  /-- A large request that arrives in chunks: handle, number of the next chunk. -/
  chunkIn : Option (Nat × Nat)
  /-- A large response that leaves in chunks: handle, number of the next chunk, bytes still to leave. -/
  chunkOut : Option (Nat × Nat × List Byte)
  deriving DecidableEq, Repr

/-- A firmware update in progress (R434). -/
structure Update where
  /-- Caller: mailbox number, or 4 for MCTP. -/
  caller : Nat
  length : Nat
  written : Nat
  finished : Bool
  /-- Firmware slot that it writes. -/
  slot : Nat
  deriving DecidableEq, Repr

/-- A mailbox command that runs: its result and response when done (R428, R429). -/
structure MbRun where
  h : Nat
  result : Nat
  rsp : List Byte
  opcode : Nat
  deriving DecidableEq, Repr

/-- Ridge beyond its registers. -/
structure RidgeDyn where
  /-- Firmware runs and answers commands. -/
  running : Bool
  /-- Bytes of the private flash that were written; others are as made (log entry 6). -/
  flash : Tbl Byte
  /-- Bank or slot erased, by slot. -/
  erased : List Nat
  /-- Slots whose content is undefined since a Ridge failure (R436), each with the number of its free values. -/
  spoiled : List (Nat × Nat)
  /-- Boot directory copy that FW_ACTIVATE of a mailbox is writing (R436). -/
  activating : Option Nat
  /-- fw_version of the firmware that runs (R415, R430). -/
  version : Nat
  update : Option Update
  sessions : List Session
  conns : List SpdmConn
  mailbox : List MbRun
  eid : Nat
  /-- Generate requests since the DRBG was seeded last (R431). -/
  drbg : Nat
  /-- Noise sources whose startup test has still to pass. -/
  startup : List Nat
  /-- Clock at the last health-test failure (R432). -/
  failedAt : Nat
  /-- Measurement slots that hold a digest (R417, R418); an absent slot holds zeros. -/
  meas : Tbl (BitVec 384)
  /-- The restart in progress was asked for by RIDGE_RESTART (R434). -/
  planned : Bool
  deriving DecidableEq, Repr

/-- Ridge before any start. -/
def RidgeDyn.reset : RidgeDyn :=
  { running := false, flash := [], erased := [], spoiled := [], activating := none, version := 0, update := none, failedAt := 0, sessions := [],
    conns := [], mailbox := [], eid := 0, drbg := 0, startup := [0, 1], meas := [], planned := false }

/-! ### Plumb and scribe -/

/-- Plumb beyond its registers: the pass in progress, its collected actions (R441, R442) and what it latched. -/
structure PlumbDyn where
  inPass : Bool
  /-- A HALT or slot 255 has ended the instructions of the pass. -/
  ended : Bool
  /-- Highest step that a THROTTLE action asked for, with the OR of the causes of the actions that asked for it. -/
  step : Nat
  causePower : Bool
  causeFlow : Bool
  wakes : List Nat
  sleeps : List Nat
  /-- Regions whose collected SLEEP a wake trigger has cancelled (R26). -/
  kept : List Nat
  /-- RAISE events: code and locator. -/
  raises : List (Nat × Word)
  scribe : Bool
  shutdown : Bool
  swap : Bool
  /-- Instructions executed in the pass, and its period in us. -/
  count : Nat
  period : Nat
  /-- Cells whose bit 31 went from 0 to 1 in the pass (R443). -/
  rose : List Nat
  /-- Passes in a row that began with a die at or above the backstop (R449). -/
  hot : Nat
  /-- Regions that a WAKE holds running, with the passes still to end (R451). -/
  held : List (Nat × Nat)
  /-- Shadow words that a commit strobe wrote during this pass (R448). -/
  committed : List Nat
  /-- Inputs latched at the last pass start (R440): inputs 0 to 53, activity of engine groups, bays and slices, state codes
  of regions 0 to 38, and the status word. -/
  sensors : List Dword
  groups : List Dword
  bays : List Dword
  slices : List Dword
  states : List Nat
  status : Dword
  /-- Working registers and cells as the pass in progress has them. -/
  work : Tbl Dword
  cells : Tbl Dword
  /-- Active and shadow image: 256 instruction words, then 32 thresholds (R447). -/
  active : List Dword
  shadow : List Dword
  deriving DecidableEq, Repr

/-- Plumb before its first pass. -/
def PlumbDyn.reset : PlumbDyn :=
  { inPass := false, ended := false, step := 0, causePower := false, causeFlow := false, wakes := [], sleeps := [],
    kept := [], raises := [], scribe := false, shutdown := false, swap := false, count := 0, period := 100, rose := [], hot := 0, held := [], committed := [],
    sensors := [], groups := [], bays := [], slices := [], states := [], status := 0, work := [], cells := [], active := [], shadow := [] }

/-- Scribe beyond its registers: the capture in progress (R459, R460). -/
structure ScribeDyn where
  capturing : Option Nat
  holdAfter : Option Nat
  /-- Regions that did not run at the capture's edge: their counters were taken then (R97). -/
  stopped : List Nat
  deriving DecidableEq, Repr

/-- Pins of the SB connector and the power stage. -/
structure PinDyn where
  modReset : Bool
  standby : Bool
  slotId : Nat
  /-- Clock at the last qualified PPS edge: the filter runs from the reference oscillator (R70). -/
  pps : Option Nat
  /-- Coolant inlet above 45 C, and hottest die below 90 C, as Plumb sampled them last. -/
  inletHot : Bool
  dieHot : Bool
  /-- A thermal shutdown is pending. -/
  shutdownPending : Bool
  /-- Hard trip latch of the Sill, which the next mains power-up finds set (R105, R393). -/
  tripLatch : Bool
  deriving DecidableEq, Repr

/-- Pins at rest. -/
def PinDyn.reset : PinDyn := ⟨false, false, 0, none, false, false, false, false⟩

/-- A register access that waits for its region (R14): a unit of a read, with the mask of its enabled bytes and whether it is
the last of its request, or of a write. -/
inductive RingAccess where
  | read (region : Nat) (by_ : Agent) (off len be reqTag : Nat) (last : Bool)
  | write (region : Nat) (by_ : Agent) (off : Nat) (bytes : WriteBytes)
  /-- REG_READ and REG_WRITE over MCTP, which answer when they have been performed (R430). -/
  | mctpRead (region : Nat) (off : Nat)
  | mctpWrite (region : Nat) (off : Nat) (bytes : WriteBytes)
  /-- A row that names the register it writes, with the bits of it that the write covers. -/
  | named (region : Nat) (by_ : Agent) (k : RegKind) (i : Nat) (v m : Word)
  deriving DecidableEq, Repr

/-- What the boot scan chose (R119): source, sequence of the last commit applied, and the run entries to apply in order. -/
structure Candidate where
  source : Nat
  seq : Nat
  runs : List Run
  deriving DecidableEq, Repr

/-- The module. -/
structure State where
  /-- Commands that wait, first in first out. -/
  pending : List Instr
  phase : Phase
  /-- Time in ns since the model's start, the model's own clock for timers (log entry 8). -/
  clock : Nat
  /-- DEVTIME in ns (R24, R438). -/
  devtime : Nat
  /-- Slew still to run, in ns, and its fraction in 1/10000 ns (R155). -/
  slew : Int
  slewFrac : Nat
  regs : Tbl Word
  ctrs : Tbl Word
  bankA : Tbl Word
  bankB : Tbl Word
  cfg : Tbl Dword
  /-- MSI-X tables, dword j of entry e of function f at (2048 f + e) 4 + j, and pending bits. -/
  msix : Tbl Dword
  pba : List Nat
  /-- Fuse shadows (R108). -/
  fuses : Tbl Word
  timers : List (Timer × Nat)
  rss : RssDyn
  hosts : Tbl HostDyn
  funcs : Tbl FnDyn
  txns : Tbl TxnDyn
  /-- COMMITs in the order in which they reached the TXN block (R125). -/
  commits : List Nat
  ports : Tbl PortDyn
  lanes : Tbl LaneDyn
  queues : Tbl QDyn
  engines : Tbl EngDyn
  pegs : Tbl PegDyn
  vecs : List VecReq
  /-- Held messages that have been released and wait at the Peg output (R382). -/
  freed : List FreedMsg
  brace : BraceDyn
  ridge : RidgeDyn
  plumb : PlumbDyn
  scribe : ScribeDyn
  pins : PinDyn
  /-- Candidate chosen by the boot scan, waiting for the restore strobe. -/
  restore : Option Candidate
  /-- Plank table generation and DEVTIME of its last rebuild (R181). -/
  plankGen : Nat
  plankTime : Nat
  /-- What the plank table reports as it was built last: the vectors granted, as log2, and the 12 planks (R181 to R183). -/
  planks : List Byte
  /-- Last identity served at each arbitration point, by point number (R279). -/
  served : Tbl Nat
  /-- Regions whose wake has been triggered and is not complete, by Plumb's region numbers (R92, R451). -/
  waking : List Nat
  /-- Bays whose PLL has locked since power came (R91). -/
  warm : List Nat
  /-- Table entries with an uncorrectable error, out of use until a commit rewrites them (R222, R388, R393): the kind and
  index of the register that stands for the entry. -/
  damaged : List (RegKind × Nat)
  /-- Entry that the Ledger scrubs next: segments 0 to 65535, then PRT entries (R222). -/
  scrubAt : Nat
  /-- Register accesses that wait on the register ring for a region (R14). -/
  ring : List RingAccess
  /-- Identifier of the next BAR4 access or device write. -/
  nextId : Nat
  /-- Counter of the free values, the model's own (log entry 7). -/
  freeCtr : Nat
  /-- What has left the module, newest first, the model's own record. -/
  sent : List Output
  deriving DecidableEq, Repr

/-- The module without mains, as it stands before power is first applied: every register at its reset value, nothing
stored, nothing waiting. MAINS_POWER_UP starts it (log entry 2). -/
def State.reset : State :=
  { pending := [], phase := .off, clock := 0, devtime := 0, slew := 0, slewFrac := 0, regs := [], ctrs := [],
    bankA := [], bankB := [], cfg := [], msix := [], pba := [], fuses := [], timers := [],
    rss := ⟨[], none, false, 65536000000000, false⟩, hosts := [], funcs := [], txns := [], commits := [], ports := [],
    lanes := [], queues := [], engines := [], pegs := [], vecs := [], freed := [], brace := BraceDyn.reset,
    ridge := RidgeDyn.reset, plumb := PlumbDyn.reset, scribe := ⟨none, none, []⟩, pins := PinDyn.reset, restore := none,
    plankGen := 0, plankTime := 0, planks := [], served := [], waking := [], warm := [], damaged := [], scrubAt := 0, ring := [], nextId := 0, freeCtr := 0, sent := [] }

/-- The outcome of a step. -/
abbrev Outcome := Host.Outcome State Fault Refusal

end Sys2Proof.Machine
end

