-- ==== Sys2Proof/Machine/Ops.lean ====
section
/-! DEFINITION. The named operations over registers, counters, tables, timers and the record of what leaves the
module. Every meaning reaches the state through these. -/

namespace Sys2Proof.Machine

/-! ### Registers -/

/-- Word of register `idx` of a kind. -/
def State.word (s : State) (k : RegKind) (idx : Nat) : Word := Tbl.get (k.reset idx) s.regs (k.key idx)

/-- State with that word; an index beyond the register's count changes nothing. -/
def State.setWord (s : State) (k : RegKind) (idx : Nat) (w : Word) : State :=
  if idx < k.count then { s with regs := Tbl.set (k.reset idx) s.regs (k.key idx) w } else s

/-- Value of a field. -/
def State.get (s : State) (F : Fld) (idx : Nat := 0) : Nat := getBits (s.word F.reg idx) F.lo F.len

/-- State with a field loaded with `v` modulo its width. -/
def State.put (s : State) (F : Fld) (idx v : Nat) : State :=
  s.setWord F.reg idx (setBits (s.word F.reg idx) F.lo F.len v)

/-- A field is not 0. -/
def State.on (s : State) (F : Fld) (idx : Nat := 0) : Bool := s.get F idx != 0

/-- State with a one-bit field set or cleared. -/
def State.flag (s : State) (F : Fld) (idx : Nat) (b : Bool) : State := s.put F idx (b2n b)

/-! ### Configuration space -/

/-- Dword at byte offset `o` of function `f`'s configuration space, as stored. -/
def State.cfgWord (s : State) (f o : Nat) : Dword := Tbl.get (cfgReset (cfgKey f (o / 4))) s.cfg (cfgKey f (o / 4))

/-- State with that dword. -/
def State.setCfg (s : State) (f o : Nat) (w : Dword) : State :=
  { s with cfg := Tbl.set (cfgReset (cfgKey f (o / 4))) s.cfg (cfgKey f (o / 4)) w }

/-- Field of `len` bits at bit `lo` of the dword at offset `o`. -/
def State.cfgGet (s : State) (f o lo len : Nat) : Nat := ((s.cfgWord f o).extractLsb' lo len).toNat

/-- State with that field loaded. -/
def State.cfgPut (s : State) (f o lo len v : Nat) : State :=
  s.setCfg f o ((setBits ((s.cfgWord f o).zeroExtend 64) lo len v).truncate 32)

/-- A bit of configuration space. -/
def State.cfgBit (s : State) (f o i : Nat) : Bool := (s.cfgWord f o).getLsbD i

/-! ### Function indices (R43) -/

/-- Index of VF h.n (R43). -/
def vfIndex (h n : Nat) : Nat := 4 + 255 * h + (n - 1)

/-- Host port of a function. -/
def fnPort (f : Nat) : Nat := if f < 4 then f else (f - 4) / 255

/-- VF number of a function; 0 for a PF. -/
def fnVf (f : Nat) : Nat := if f < 4 then 0 else (f - 4) % 255 + 1

/-- The PF a function belongs to has the same number as its port. -/
def fnPf (f : Nat) : Nat := fnPort f

/-- Function number `n` on host port `h`: the PF for 0, VF h.n otherwise. -/
def fnOf (h n : Nat) : Nat := if n = 0 then h else vfIndex h n

/-- PFh and every VF h.n. -/
def fnsOfPort (h : Nat) : List Nat := h :: (List.range 255).map (fun k => vfIndex h (k + 1))

/-! ### Tables of the parts -/

/-- Host port `h`. -/
def State.host (s : State) (h : Nat) : HostDyn := Tbl.get HostDyn.reset s.hosts h
def State.setHost (s : State) (h : Nat) (d : HostDyn) : State := { s with hosts := Tbl.set HostDyn.reset s.hosts h d }
def State.modHost (s : State) (h : Nat) (g : HostDyn → HostDyn) : State := s.setHost h (g (s.host h))

/-- Function `f`. -/
def State.func (s : State) (f : Nat) : FnDyn := Tbl.get FnDyn.reset s.funcs f
def State.setFunc (s : State) (f : Nat) (d : FnDyn) : State := { s with funcs := Tbl.set FnDyn.reset s.funcs f d }
def State.modFunc (s : State) (f : Nat) (g : FnDyn → FnDyn) : State := s.setFunc f (g (s.func f))

/-- TXN context `c`. -/
def State.txn (s : State) (c : Nat) : TxnDyn := Tbl.get TxnDyn.reset s.txns c
def State.setTxn (s : State) (c : Nat) (d : TxnDyn) : State := { s with txns := Tbl.set TxnDyn.reset s.txns c d }
def State.modTxn (s : State) (c : Nat) (g : TxnDyn → TxnDyn) : State := s.setTxn c (g (s.txn c))

/-- Joist port `p`. -/
def State.port (s : State) (p : Nat) : PortDyn := Tbl.get PortDyn.reset s.ports p
def State.setPort (s : State) (p : Nat) (d : PortDyn) : State := { s with ports := Tbl.set PortDyn.reset s.ports p d }
def State.modPort (s : State) (p : Nat) (g : PortDyn → PortDyn) : State := s.setPort p (g (s.port p))

/-- Lane `l`. -/
def State.lane (s : State) (l : Nat) : LaneDyn := Tbl.get LaneDyn.reset s.lanes l
def State.setLane (s : State) (l : Nat) (d : LaneDyn) : State := { s with lanes := Tbl.set LaneDyn.reset s.lanes l d }
def State.modLane (s : State) (l : Nat) (g : LaneDyn → LaneDyn) : State := s.setLane l (g (s.lane l))

/-- Queue pair `q`. -/
def State.queue (s : State) (q : Nat) : QDyn := Tbl.get QDyn.reset s.queues q
def State.setQueue (s : State) (q : Nat) (d : QDyn) : State := { s with queues := Tbl.set QDyn.reset s.queues q d }
def State.modQueue (s : State) (q : Nat) (g : QDyn → QDyn) : State := s.setQueue q (g (s.queue q))

/-- Engine `e`. -/
def State.eng (s : State) (e : Nat) : EngDyn := Tbl.get EngDyn.reset s.engines e
def State.setEng (s : State) (e : Nat) (d : EngDyn) : State := { s with engines := Tbl.set EngDyn.reset s.engines e d }
def State.modEng (s : State) (e : Nat) (g : EngDyn → EngDyn) : State := s.setEng e (g (s.eng e))

/-- Peg source `i`. -/
def State.peg (s : State) (i : Nat) : PegDyn := Tbl.get PegDyn.reset s.pegs i
def State.setPeg (s : State) (i : Nat) (d : PegDyn) : State := { s with pegs := Tbl.set PegDyn.reset s.pegs i d }
def State.modPeg (s : State) (i : Nat) (g : PegDyn → PegDyn) : State := s.setPeg i (g (s.peg i))

def State.modRss (s : State) (g : RssDyn → RssDyn) : State := { s with rss := g s.rss }
def State.modBrace (s : State) (g : BraceDyn → BraceDyn) : State := { s with brace := g s.brace }
def State.modRidge (s : State) (g : RidgeDyn → RidgeDyn) : State := { s with ridge := g s.ridge }
def State.modPlumb (s : State) (g : PlumbDyn → PlumbDyn) : State := { s with plumb := g s.plumb }
def State.modPins (s : State) (g : PinDyn → PinDyn) : State := { s with pins := g s.pins }

/-- Records something that leaves the module. -/
def State.emit (s : State) (o : Output) : State := { s with sent := o :: s.sent }

/-! ### Counters (R456, R457) -/

/-- Catalogue offset of counter `i` of function `f`. -/
def fnCtr (f i : Nat) : Nat := 0x100 * f + 8 * i
def queueCtr (q i : Nat) : Nat := 0x40000 + 0x40 * q + 8 * i
def portCtr (p i : Nat) : Nat := 0x80000 + 0x100 * p + 8 * i
def laneCtr (l i : Nat) : Nat := 0x88000 + 0x80 * l + 8 * i
def engCtr (e i : Nat) : Nat := 0x90000 + 0x40 * e + 8 * i
def hostCtr (h i : Nat) : Nat := 0x91000 + 0x40 * h + 8 * i
def braceCtr (n c : Nat) : Nat := 0x92000 + 0x200 * n + 8 * c
def modCtr (i : Nat) : Nat := 0x94000 + 8 * i

/-- The catalogue names the offset (R456). -/
def ctrNamed (o : Nat) : Bool :=
  if o % 8 != 0 then false
  else if o < 0x40000 then o % 0x100 / 8 ≤ 16
  else if o < 0x80000 then o % 0x40 / 8 ≤ 5
  else if o < 0x86000 then o % 0x100 / 8 ≤ 27
  else if o < 0x88000 then false
  else if o < 0x8E000 then o % 0x80 / 8 ≤ 8
  else if o < 0x90000 then false
  else if o < 0x90C00 then o % 0x40 / 8 ≤ 6
  else if o < 0x91000 then false
  else if o < 0x91100 then o % 0x40 / 8 ≤ 4
  else if o < 0x92000 then false
  else if o < 0x94000 then (codeClass ((o - 0x92000) / 0x200) (o % 0x200 / 8)).isSome
  else o < 0x94080

/-- Live value of a counter. -/
def State.ctr (s : State) (o : Nat) : Word := Tbl.get 0 s.ctrs o

/-- State with a counter preset (R32, CTR). -/
def State.setCtr (s : State) (o : Nat) (w : Word) : State := { s with ctrs := Tbl.set 0 s.ctrs o w }

/-- A counter raised by `n`; it wraps from 2^64 - 1 to 0 (R32). -/
def State.bumpBy (s : State) (o n : Nat) : State := s.setCtr o (s.ctr o + BitVec.ofNat 64 n)

/-- A counter raised by 1. -/
def State.bump (s : State) (o : Nat) : State := s.bumpBy o 1

/-! ### Time (log entry 8) -/

/-- Nanoseconds that DEVTIME gains or loses by slewing during `dt` (100 ppm, R155). -/
def slewStep (s : State) (dt : Nat) : Int :=
  let room : Int := ((s.slewFrac + dt) / 10000 : Nat)
  if s.slew ≥ 0 then min room s.slew else - min room (- s.slew)

/-- `dt` nanoseconds pass: the clock and DEVTIME run, the slew proceeds, the wear budget refills (R24, R129, R155). -/
def State.advance (s : State) (dt : Nat) : State :=
  let g := slewStep s dt
  { s with
    clock := s.clock + dt
    devtime := ((s.devtime : Int) + dt + g).toNat % 2 ^ 64
    slew := s.slew - g
    slewFrac := if s.slew = 0 then 0 else (s.slewFrac + dt) % 10000
    rss := { s.rss with wear := min 65536000000000 (s.rss.wear + 2048 * dt) } }

/-- Time at which a timer is due, when it runs. -/
def State.due (s : State) (t : Timer) : Option Nat := (s.timers.find? (fun e => e.1 = t)).map (fun e => e.2)

/-- The timer runs. -/
def State.armed (s : State) (t : Timer) : Bool := (s.due t).isSome

/-- Stops a timer. -/
def State.disarm (s : State) (t : Timer) : State := { s with timers := s.timers.filter (fun e => e.1 ≠ t) }

/-- Starts a timer anew, due in `dt` ns. -/
def State.arm (s : State) (t : Timer) (dt : Nat) : State :=
  { s with timers := (t, s.clock + dt) :: s.timers.filter (fun e => e.1 ≠ t) }

/-- Starts a timer unless it runs. -/
def State.armOnce (s : State) (t : Timer) (dt : Nat) : State := if s.armed t then s else s.arm t dt

/-- The expiry of a timer takes place: time passes up to the moment it is due, and it stops (log entry 8). -/
def State.expire (s : State) (t : Timer) : State :=
  match s.due t with
  | some d => (s.disarm t).advance (d - s.clock)
  | none => s

/-- The timer runs in the Sill, whose clocks no deferred shutdown stops (R104, R133). -/
def Timer.inSill : Timer → Bool
  | .deferral | .plumb | .watchdog | .restart | .restartCount | .selftest => true
  | _ => false

/-- What an expiry command does: nothing unless its timer runs. -/
def State.onExpiry (s : State) (t : Timer) (g : State → State) : State :=
  if s.armed t && (decide (s.phase ≠ .deferring) || t.inSill) then g (s.expire t) else s

/-- A DEVTIME in ns on the scale of the keys: keys are counted from 2^16 units before DEVTIME 0, so that one in the past of a young
DEVTIME is a number too (R275). The offset is a whole turn of the 16-bit deadline and shows in no deadline. -/
def keyNs (t : Nat) : Nat := t + 4194304

/-- The N of R275, in units of 64 ns, on the scale of the keys. -/
def State.now64 (s : State) : Nat := keyNs s.devtime / 64

/-- Stops every timer that satisfies `p`. -/
def State.disarmAll (s : State) (p : Timer → Bool) : State := { s with timers := s.timers.filter (fun e => !p e.1) }

/-! ### Free values (log entry 7) -/

/-- A fresh free byte string of `n` bytes. -/
def State.freeBytes (s : State) (n : Nat) : List Byte × State :=
  ((List.range n).map (fun i => Config.freeByte (s.freeCtr + i)), { s with freeCtr := s.freeCtr + n })

/-- A fresh free word. -/
def State.freeWord (s : State) : Word × State := (Config.freeWord s.freeCtr, { s with freeCtr := s.freeCtr + 1 })

/-! ### What the state shows -/

/-- The module accepts traffic: the restore strobe has been given and nothing ends it. -/
def State.isUp (s : State) : Bool := decide (s.phase = .up)

/-- Outcome of a command: its effect when its operands are such as a port of the module can present; else nothing has
reached the module, and nothing happens (log entry 10). -/
def State.accepted (s : State) (ok : Bool) (t : State) : Outcome := .next (if ok then t else s)

/-- The module has mains. -/
def State.powered (s : State) : Bool := decide (s.phase ≠ .off)

/-- The host ports are powered (R106): configuration requests are answered. -/
def State.portsPowered (s : State) : Bool := decide (s.phase = .starting ∨ s.phase = .up)

/-- The link of host port `h` is up, and no deferred shutdown has stopped its clocks (R104, R133). -/
def State.linkUp (s : State) (h : Nat) : Bool := s.on HP_LINK_STATUS.link_up h && decide (s.phase ≠ .deferring)

/-- A table entry is out of use after an uncorrectable error (R393). -/
def State.hurt (s : State) (k : RegKind) (idx : Nat) : Bool := s.damaged.contains (k, idx)

/-- The function is held: by an FLR in progress, or quiescing after an error of its entry (R194, R196, code 1.1). -/
def State.fnHeld (s : State) (f : Nat) : Bool := s.on FUNC_STATE.flr_active f || s.hurt .FUNC_APERTURE f

/-- The compatibility view is in effect (R3). -/
def State.compat (s : State) : Bool := s.on GLOBAL_STATUS.compat_view_active

/-- Function `f` is PF0 while the compatibility view is in effect. -/
def State.compatFn (s : State) (f : Nat) : Bool := s.compat && f == 0

/-- VF Enable and NumVFs of PFh (R173). -/
def State.vfEnable (s : State) (h : Nat) : Bool := s.cfgBit h 0x184 0 && !(s.compat && h == 0)
def State.numVfs (s : State) (h : Nat) : Nat := s.cfgGet h 0x18C 0 16

/-- The function exists for its host (FUNC_ID.exists, R174, R200). -/
def State.existsFn (s : State) (f : Nat) : Bool := f < 4 || (s.vfEnable (fnPort f) && decide (fnVf f ≤ s.numVfs (fnPort f)))

/-- Routing ID of a function (R173). -/
def State.rid (s : State) (f : Nat) : Nat := (s.host (fnPort f)).busDev * 8 + fnVf f

/-- The host port is in L2, L3 or down (R93). -/
def State.hostGone (s : State) (h : Nat) : Bool := s.get HP_LINK_STATUS.pm_state h == 3

/-- Bus Master Enable in effect and the function in D0 (R152, R166). -/
def State.master (s : State) (f : Nat) : Bool := s.on FUNC_STATE.bme f && !s.on FUNC_STATE.d3hot f

/-- Maximum payload and read request size of a function's PF (R144). -/
def sizeCode (c : Nat) : Nat := 128 * 2 ^ min c 5
def State.mps (s : State) (f : Nat) : Nat := sizeCode (s.cfgGet (fnPf f) 0x58 5 3)
def State.mrrs (s : State) (f : Nat) : Nat := sizeCode (s.cfgGet (fnPf f) 0x58 12 3)

/-- The bay of a Joist port. -/
def bayOf (p : Nat) : Nat := p / 4

/-- JP2k of a port's pair. -/
def lowerOf (p : Nat) : Nat := p / 2 * 2

/-- The port is part of a scarfed port in force: JP_CTRL.scarf of JP2k (R367). -/
def State.scarfed (s : State) (p : Nat) : Bool := s.on JP_CTRL.scarf (lowerOf p)

/-- The port whose registers and buffers govern port `p`: JP2k under a scarfed port. -/
def State.lead (s : State) (p : Nat) : Nat := if s.scarfed p then lowerOf p else p

/-- Ports that form the port led by `p`. -/
def State.members (s : State) (p : Nat) : List Nat := if s.scarfed p then [lowerOf p, lowerOf p + 1] else [p]

/-- State code of a bay region (R88, R130). -/
def State.bayState (s : State) (b : Nat) : Nat :=
  if b < 16 then getBits (s.word .PWR_STATE_BAY0 0) (4 * b) 4 else getBits (s.word .PWR_STATE_BAY1 0) (4 * (b - 16)) 4

/-- State with a bay region in a state; BAY_STATUS.state follows (R351). -/
def State.setBayState (s : State) (b v : Nat) : State :=
  let s := if b < 16 then s.setWord .PWR_STATE_BAY0 0 (setBits (s.word .PWR_STATE_BAY0 0) (4 * b) 4 v)
    else s.setWord .PWR_STATE_BAY1 0 (setBits (s.word .PWR_STATE_BAY1 0) (4 * (b - 16)) 4 v)
  let s := s.put BAY_STATUS.state b v
  s.flag BAY_STATUS.pll_lock b (v == 0)

/-- Region state codes by Plumb's region numbers (R451): 0 to 23 bays, then the other regions; see `regionField`. -/
def State.egState (s : State) (g : Nat) : Nat := getBits (s.word .PWR_STATE_EG 0) (4 * g) 4
def State.setEgState (s : State) (g v : Nat) : State :=
  s.setWord .PWR_STATE_EG 0 (setBits (s.word .PWR_STATE_EG 0) (4 * g) 4 v)
def State.tsState (s : State) (t : Nat) : Nat := getBits (s.word .PWR_STATE_MISC 0) (48 + 4 * t) 4
def State.setTsState (s : State) (t v : Nat) : State :=
  s.setWord .PWR_STATE_MISC 0 (setBits (s.word .PWR_STATE_MISC 0) (48 + 4 * t) 4 v)
def State.hcrState (s : State) (h : Nat) : Nat := getBits (s.word .PWR_STATE_MISC 0) (32 + 4 * h) 4
def State.setHcrState (s : State) (h v : Nat) : State :=
  s.setWord .PWR_STATE_MISC 0 (setBits (s.word .PWR_STATE_MISC 0) (32 + 4 * h) 4 v)
def State.setHmdState (s : State) (h v : Nat) : State :=
  s.setWord .PWR_STATE_MISC 0 (setBits (s.word .PWR_STATE_MISC 0) (16 + 4 * h) 4 v)

/-- PRTp maps local addresses for the port led by `p`, the port is present, up, and nothing takes it away (R205); an entry of a
member with an uncorrectable error does (R222). -/
def State.portAvailable (s : State) (p : Nat) : Bool :=
  let l := s.lead p
  s.isUp && (s.members p).all (fun m => (s.port m).present && !s.hurt .PRT_CTRL m) && s.on PRT_CTRL.enable l
    && (s.get JP_STATUS.link_state l == 3 || s.get JP_STATUS.link_state l == 4
      || (s.get JP_STATUS.link_state l == 2 && (s.port l).waking))
    && !(s.port l).joining && !(s.bayState (bayOf p) == 4 || s.bayState (bayOf p) == 5)

/-- Local maximum payload of a port (R350, R356). -/
def State.localMax (s : State) (p : Nat) : Nat := 256 * 2 ^ min (s.get JP_CFG.max_payload (s.lead p)) 4

/-- Virtual channels of a port (R332). -/
def State.vcCount (s : State) (p : Nat) : Nat := 2 * 2 ^ min (s.get JP_CFG.vc_count (s.lead p)) 2

/-- Configuration owner. -/
def State.owner (s : State) : Nat := s.get GLOBAL_CTRL.cfg_owner

/-- Moves between a list of states by a list of steps. -/
def State.each {α : Type} (s : State) (xs : List α) (g : State → α → State) : State := xs.foldl g s

/-- Value at a key of an association list. -/
def find1 {α : Type} (k : Nat) (xs : List (Nat × α)) : Option α := (xs.find? (fun e => e.1 == k)).map (fun e => e.2)

/-- The list without a key. -/
def drop1 {α : Type} (k : Nat) (xs : List (Nat × α)) : List (Nat × α) := xs.filter (fun e => e.1 != k)

/-- The list with a key's value replaced or added at the end. -/
def put1 {α : Type} (k : Nat) (v : α) (xs : List (Nat × α)) : List (Nat × α) :=
  if xs.any (fun e => e.1 == k) then xs.map (fun e => if e.1 == k then (k, v) else e) else xs ++ [(k, v)]

/-- A sorted list of numbers with `n` in it. -/
def insertNat (n : Nat) : List Nat → List Nat
  | [] => [n]
  | m :: ms => if n < m then n :: m :: ms else if n = m then m :: ms else m :: insertNat n ms

/-! ### Regions by Plumb's numbers (R451) -/

/-- State code of region `r`: 0 to 23 bays, 24 to 29 engine groups, 30 to 33 Truss slices, 34 core, 35 to 38 host
controllers, 39 to 42 host minimal domains, 43 Ridge, 44 Sill. -/
def State.region (s : State) (r : Nat) : Nat :=
  if r < 24 then s.bayState r
  else if r < 30 then s.egState (r - 24)
  else if r < 34 then s.tsState (r - 30)
  else if r = 34 then s.get PWR_STATE_MISC.core
  else if r < 39 then s.hcrState (r - 35)
  else if r < 43 then getBits (s.word .PWR_STATE_MISC 0) (16 + 4 * (r - 39)) 4
  else if r = 43 then s.get PWR_STATE_MISC.ridge
  else s.get PWR_STATE_MISC.sill

/-- State with region `r` in state `v`. -/
def State.setRegion (s : State) (r v : Nat) : State :=
  if r < 24 then s.setBayState r v
  else if r < 30 then s.setEgState (r - 24) v
  else if r < 34 then s.setTsState (r - 30) v
  else if r = 34 then s.put PWR_STATE_MISC.core 0 v
  else if r < 39 then s.setHcrState (r - 35) v
  else if r < 43 then s.setHmdState (r - 39) v
  else if r = 43 then s.put PWR_STATE_MISC.ridge 0 v
  else s.put PWR_STATE_MISC.sill 0 v

/-- A SLEEP that Plumb has collected for region `r` in the pass in progress is cancelled (R26). -/
def State.keepAwake (s : State) (r : Nat) : State :=
  if s.plumb.sleeps.contains r then s.modPlumb (fun p => { p with kept := insertNat r p.kept }) else s

/-- A wake trigger reaches region `r` (R92): a clock-gated region runs at once (40 ns, log entry 9), a retention-gated
or sleeping one is woken and runs at REGION_WAKE_COMPLETE; a SLEEP not yet carried out is cancelled (R26). Nothing wakes
while a deferred shutdown has stopped the clocks (R104, R133). -/
def State.wakeRegion (s : State) (r : Nat) : State :=
  if s.phase = .deferring then s
  else match s.region r with
    | 0 => s.keepAwake r
    | 1 => (s.keepAwake r).setRegion r 0
    | 2 | 3 => { s with waking := insertNat r s.waking }
    | _ => s

/-- Region that holds a live counter: that of the subsystem it counts in (R14, R25; log entry 21). -/
def ctrRegion (o : Nat) : Nat :=
  if o < 0x80000 then 34
  else if o < 0x88000 then bayOf ((o - 0x80000) / 0x100)
  else if o < 0x90000 then bayOf ((o - 0x88000) / 0x80 / 2)
  else if o < 0x91000 then 24 + (o - 0x90000) / 0x40 / 8
  else if o < 0x92000 then 39 + (o - 0x91000) / 0x40
  else 34

/-- The counters of a region that is off or in reset are 0 (R90). -/
def State.zeroCtrs (s : State) (r : Nat) : State := { s with ctrs := s.ctrs.filter (fun e => ctrRegion e.1 != r) }

/-! ### Plain fields (R34) -/

/-- Bits of a register that a reset of its scope keeps: ret and RWS fields, and generations. -/
def keptMask (k : RegKind) : Word :=
  k.maskWhere (fun f => f.ret || decide (f.acc = .rws)) ||| (match k with
    | .FUNC_STATE => maskBits 0 8
    | .Q_STATE => maskBits 8 8
    | .SEG_CTRL => maskBits 24 8
    | _ => 0)

/-- The plain fields of a register return to their reset values. -/
def State.resetPlain (s : State) (k : RegKind) (idx : Nat) : State :=
  s.setWord k idx (mergeBits (k.reset idx) (s.word k idx) (keptMask k))

end Sys2Proof.Machine
end

