-- ==== Sys2Proof/Machine/Flags.lean ====
section
/-! DEFINITION. The status flags and level pins that the module computes from its other state: FAULT_TOP, FAULT_N,
TEMP_ALERT_N, PWR_GOOD, LOCAL_RESETj_N and the status fields that summarise tables. -/

namespace Sys2Proof.Machine

/-- FAULT_DETAILn has a bit set (R395). -/
def State.faultBit (s : State) (n : Nat) : Bool := s.on FAULT_DETAIL.code n

/-- FAULT_TOP (R395, R409): subsystem bits 0 to 13, summary bit 15, severe bits 16 to 29. -/
def State.faultTop (s : State) : Word :=
  let low := (List.range 14).foldl (fun w n => setBits w n 1 (b2n (s.faultBit n))) (0 : Word)
  let sev := (List.range 14).foldl (fun w n => setBits w (16 + n) 1 (b2n (s.on FAULT_SEV.severe n))) low
  setBits sev 15 1 (b2n ((List.range 14).any (fun n => s.faultBit n)))

/-- FAULT_TOP.summary. -/
def State.anyFault (s : State) : Bool := (List.range 14).any (fun n => s.faultBit n)

/-- FAULT_N is low (R69, R396). -/
def State.faultN (s : State) : Bool :=
  s.powered && (s.anyFault || decide (s.phase = .safe) || decide (s.phase = .shutdown))

/-- TEMP_ALERT_N is low (R69, R103, R104, R106); in standby it keeps the level it had on entry (R99). -/
def State.tempAlertN (s : State) : Bool :=
  s.powered && (s.get PWR_THROTTLE.step != 0 || s.pins.inletHot || s.pins.shutdownPending || decide (s.phase = .deferring)
    || decide (s.phase = .shutdown) || decide (s.phase = .tripped)
    || (decide (s.phase = .awaitPermit ∨ s.phase = .standby ∨ s.phase = .ending .standby) && s.pins.dieHot))

/-- PWR_GOOD is released (R69, R99, R106). DESIGN CHOICE: it is driven low from the moment MOD_RESET_N is recognised low, though
R69 does not say so of an assertion (log entry 43). -/
def State.pwrGood (s : State) : Bool :=
  decide (s.phase = .starting ∨ s.phase = .up ∨ s.phase = .deferring)

/-- LOCAL_RESETj_N of JPp is low (R66). -/
def State.localResetN (s : State) (p : Nat) : Bool := !s.isUp || (s.port p).resetOut

/-- Valid segments (LEDGER_STATUS, R224). -/
def State.segValid (s : State) (n : Nat) : Bool := s.on SEG_CTRL.valid n

/-- Segments that any table entry lists: an unlisted segment is at its factory value, invalid (R225). -/
def State.segsListed (s : State) : List Nat :=
  s.regs.filterMap (fun e => if e.1 % 256 = RegKind.SEG_CTRL.code ∧ getBits e.2 0 1 = 1 then some (e.1 / 256) else none)

/-- Queue pairs owned by a function (R184). -/
def State.queuesOf (s : State) (f : Nat) : List Nat := indicesWhere 4096 (fun q => s.get Q_CFG.owner q == f)

/-- Peg sources owned by a function. -/
def State.pegsOf (s : State) (f : Nat) : List Nat := indicesWhere 24576 (fun i => s.get PEG_SRC_CTRL.owner i == f)

/-- Pool vectors held by a function. -/
def State.vectorsOf (s : State) (f : Nat) : List Nat :=
  indicesWhere 65536 (fun n => s.on PEG_VMAP.assigned n && s.get PEG_VMAP.function_ n == f)

/-- Valid segments owned by a function (R226). -/
def State.segmentsOf (s : State) (f : Nat) : List Nat := s.segsListed.filter (fun n => s.get SEG_CTRL.owner n == f)

/-- Joist ports owned by PFh. -/
def State.portsOf (s : State) (h : Nat) : List Nat := indicesWhere 96 (fun p => s.get PRT_CTRL.owner p == h)

/-- Host tags outstanding for a function (FUNC_FLR.host_tags): those held after a timeout are not outstanding. -/
def State.hostTagsOf (s : State) (f : Nat) : Nat :=
  ((s.host (fnPort f)).tags.filter (fun t => t.2.req.fn == f && !t.2.held)).length

/-- Local tags outstanding for a function (FUNC_FLR.local_tags). -/
def State.localTagsOf (s : State) (f : Nat) : Nat :=
  (s.ports.map (fun e => (e.2.ltags.filter (fun t => t.2.fn == f && !t.2.held)).length)).foldl (· + ·) 0

/-- Receive space that a request holds; data for an engine or the queue engine frees it granule by granule as it comes. The parts of a
device read are counted with the read (R286). -/
def HTag.space (t : HTag) : Nat :=
  match t.req.purpose with
  | .loc _ _ _ => 0
  | _ => if t.held then 0 else roundUp t.req.len 64 - t.got.length / 64 * 64

/-- Receive space that a device read holds: of each part its granules that have not left for the port (R150, R286). -/
def DTag.space (d : DTag) : Nat :=
  (d.room.map (fun c => if c.1 + c.2 ≤ d.sent then 0 else roundUp c.2 64 - (d.sent - c.1) / 64 * 64)).foldl (· + ·) 0

/-- Completion receive space in use on a host port, in 64-byte granules (R286). -/
def State.cplSpace (s : State) (h : Nat) : Nat :=
  ((s.host h).tags.map (fun t => t.2.space)).foldl (· + ·) 0
    + ((s.ports.flatMap (fun p => (p.2.dtags.filter (fun t => fnPort t.2.fn == h)).map (fun t => t.2.space))).foldl (· + ·) 0)

/-- R_v: reserve held by BAR4 reads on a virtual channel (R287). -/
def State.reserveOf (s : State) (p v : Nat) : Nat :=
  ((s.port p).reads.map (fun r => if r.v = v ∧ r.granted then 4 * r.dws - r.sent else 0)).foldl (· + ·) 0

/-- The frame is a completion of a BAR4 read in progress, whose space the read's reserve holds; a read that has ended has given its
reserve back (R287, R288). -/
def State.answersReserve (s : State) (p : Nat) (f : Frame) : Bool :=
  f.type == 3 && (match find1 f.tag (s.port p).ltags with
    | some t => (match t.purpose with
      | .window id _ => (s.port p).reads.any (fun r => r.id == id && r.granted)
      | .engine _ _ | .dropped => false)
    | none => false)

/-- U_v: bytes of accepted frames that answer no reserve and have not been dispatched, and of a frame whose header has been decoded (R287,
R333). -/
def State.ingressOf (s : State) (p v : Nat) : Nat :=
  ((s.port p).ingress.map (fun f => if f.vc = v ∧ !s.answersReserve p f then f.payload.length else 0)).foldl (· + ·) 0
    + (s.port p).headUsed.elim 0 (fun x => if x.1 = v then x.2 else 0)

/-- Bytes and frames of the replay buffer (R329, R350): 32-byte header and padded payload each. -/
def State.replayBytes (s : State) (p : Nat) : Nat :=
  ((s.port p).replay.map (fun e => 32 + roundUp e.2.frame.payload.length 16)).foldl (· + ·) 0

end Sys2Proof.Machine
end

