-- ==== Sys2Proof/Machine/Faults.lean ====
section
/-! DEFINITION. Fault reporting (R391 to R403): classifier, history queue, detail registers, AER and the recovery
queue. Containment belongs to the parts. -/

namespace Sys2Proof.Machine

/-! ### AER (R160, R392) -/

/-- Sends a message TLP on host port `h`, with an ECRC where the PF's ECRC Generation Enable asks for one (R134, R172). -/
def State.emitMsg (s : State) (h : Nat) (m : HostMsg) : State :=
  s.emit (if s.cfgBit h 0x118 6 then .ecrc (.message h m) else .message h m)

/-- Sends an error message of a function on its host port while the link is up. -/
def State.errMessage (s : State) (f : Nat) (m : HostMsg) : State :=
  if s.linkUp (fnPort f) then s.emitMsg (fnPort f) m else s

/-- Bit of the Status register that the Base Specification has the function set (R165). -/
def State.setStatus (s : State) (f b : Nat) : State := s.cfgPut f 0x04 b 1 1

/-- An error message goes out: Signaled System Error is set where SERR# Enable is (R165). -/
def State.sysError (s : State) (f : Nat) (m : HostMsg) : State :=
  (if s.cfgBit (fnPf f) 0x04 8 then s.setStatus f 30 else s).errMessage f m

/-- An uncorrectable error: status bit `b`, device status, header log, and the message that mask, severity and enables
allow (R160). A VF follows the masks and severities of its PF (R175). `ur` also sets Unsupported Request Detected. Dwords of
the header beyond four are those that stand in front of the header, which bit 11 of the control register marks (R172). -/
def State.aerUnc (s : State) (f b : Nat) (hdr : Option (List Dword)) (ur : Bool := false) : State :=
  let fatal := s.cfgBit (fnPf f) 0x10C b
  let masked := s.cfgBit (fnPf f) 0x108 b
  let first := s.cfgWord f 0x104 == 0
  let s := s.cfgPut f 0x104 b 1 1
  let s := s.cfgPut f 0x58 (if fatal then 18 else 17) 1 1
  let s := if ur then s.cfgPut f 0x58 19 1 1 else s
  if masked then s
  else
    let s := if first then s.cfgPut f 0x118 0 5 b else s
    let s := match hdr with
      | some ws =>
        if first then
          let s := s.each ((List.range 4).zip ws) (fun s e => s.setCfg f (0x11C + 4 * e.1) e.2)
          let s := s.cfgPut f 0x118 11 1 (b2n (!(ws.drop 4).isEmpty))
          s.each ((List.range 4).zip (ws.drop 4)) (fun s e => s.setCfg f (0x138 + 4 * e.1) e.2)
        else s
      | none => s
    let pf := fnPf f
    if fatal then
      if s.cfgBit f 0x58 2 || s.cfgBit pf 0x04 8 then s.sysError f (.errFatal (s.rid f)) else s
    else if s.cfgBit f 0x58 1 || s.cfgBit pf 0x04 8 then s.sysError f (.errNonFatal (s.rid f)) else s

/-- A correctable error. -/
def State.aerCor (s : State) (f b : Nat) : State :=
  let s := s.cfgPut f 0x110 b 1 1
  let s := s.cfgPut f 0x58 16 1 1
  if s.cfgBit (fnPf f) 0x114 b then s
  else if s.cfgBit f 0x58 0 then s.errMessage f (.errCor (s.rid f)) else s

/-- Uncorrectable Internal Error (no header logged, R392). -/
def State.uie (s : State) (f : Nat) : State := s.aerUnc f 22 none

/-- Corrected Internal Error. -/
def State.cie (s : State) (f : Nat) : State := s.aerCor f 14

/-! ### Codes, domains and reports (R393) -/

/-- Domain kind of a history entry (R398): 0 VF, 1 PF, 2 host port, 3 Joist port, 4 bay, 5 engine group, 6 module,
7 none. -/
def domainKind (n c inst : Nat) : Nat :=
  match codeClass n c with
  | some .notice | none => 7
  | _ =>
    match n, c with
    | 0, 1 | 1, _ | 2, 0 | 2, 1 | 3, _ | 5, _ | 6, 1 | 9, _ => if inst < 4 then 1 else 0
    | 0, _ => 2
    | 2, _ | 7, _ => 3
    | 8, 0 => 4
    | 8, _ => 3
    | 4, _ => 5
    | _, _ => 6

/-- Domain index of BRACE_DSTATE for a hardware domain that has a recovery sequence (R399, R409). -/
def domainIndex (kind inst : Nat) : Option Nat :=
  match kind with
  | 2 => some inst
  | 3 => some (4 + inst)
  | 4 => some (100 + inst)
  | 5 => some (124 + inst)
  | _ => none

/-- The domains that enclose domain `d` and can be recovered: the bay of a Joist port (R27). -/
def enclosing (d : Nat) : List Nat := if 4 ≤ d ∧ d < 100 then [100 + (d - 4) / 4] else []

/-- A Ridge failure: its domain is the module, recovered by the Trestle sequence. A RAIL_FAULT of a hardware domain does not
come here (R399, R404). -/
def ridgeCode (n c : Nat) : Bool := (n == 11 && decide (c < 4)) || (n == 13 && c == 0)

/-- Instance by which the classifier tells a source apart: that of the event, or, for a RAIL_FAULT, whose domain may be of
any kind, the domain index (R397). -/
def sourceKey (n c kind inst : Nat) : Nat := if n = 13 ∧ c = 0 then (domainIndex kind inst).getD 130 else inst

/-- Domain index of a source. -/
def Source.domain (x : Source) : Option Nat :=
  if x.n = 13 ∧ x.c = 0 then some x.inst else domainIndex (domainKind x.n x.c x.inst) x.inst


/-- PFs that own a port of a bay. -/
def State.bayOwners (s : State) (b : Nat) : List Nat :=
  (List.range 4).filter (fun h => (List.range 4).any (fun j => s.get PRT_CTRL.owner (4 * b + j) == h))

/-- Functions that the table names for an event, and whether it is UIE (R393). `halted` are the functions whose channel
an engine-group fault halted. -/
def State.aerOf (s : State) (n c kind inst : Nat) (halted : List Nat) : List Nat × Bool :=
  match n, c with
  | 0, 1 | 1, 1 | 2, 1 | 3, 1 | 3, 2 | 5, 0 | 6, 1 | 9, 1 | 9, 2 => ([inst], true)
  | 0, 0 | 0, 2 | 0, 3 => ([inst], true)
  | 2, 2 | 7, 0 | 8, 1 => ([s.get PRT_CTRL.owner inst], false)
  | 8, 0 => (s.bayOwners inst, false)
  | 4, 1 | 4, 2 => (halted, false)
  | 10, 0 => ([s.owner], false)
  | 11, 0 | 11, 1 | 11, 2 | 11, 3 | 11, 5 | 11, 6 => ([0, 1, 2, 3], true)
  | 13, 0 => if kind = 2 then ([inst], true) else if kind = 4 then (s.bayOwners inst, false)
    else if kind = 5 then (halted, false) else ([0, 1, 2, 3], true)
  | _, _ => ([], false)

/-- Report of a class 2 or 3 event (R392). -/
def State.reportAer (s : State) (n c kind inst : Nat) (halted : List Nat) (severe : Bool) : State :=
  let (fs, u) := s.aerOf n c kind inst halted
  if severe then
    if fs.isEmpty then s.uie s.owner else s.each fs State.uie
  else s.each fs (fun s f => if u then s.uie f else s.cie f)

/-! ### Classifier (R397) -/

/-- Effective threshold and window of a code. -/
def State.threshOf (s : State) (n c : Nat) : Nat := max 1 (s.get BRACE_CLASS.thresh (64 * n + c))
def State.windowNs (s : State) (n c : Nat) : Nat :=
  clampNat 1 60000 (s.get BRACE_CLASS.window_ms (64 * n + c)) * 1000000

/-- A source's entry in the classifier. -/
def sameSource (n c inst : Nat) (x : Source) : Bool := x.n == n && x.c == c && x.inst == inst

/-- Counts an event of a source; answers whether the event is promoted to severe (R397). -/
def State.classify (s : State) (n c inst : Nat) : Bool × State :=
  let others := s.brace.sources.filter (fun x => !sameSource n c inst x)
  match s.brace.sources.find? (sameSource n c inst) with
  | some x =>
    let k := x.count + 1
    let p := x.promoted || decide (s.threshOf n c ≤ k)
    (p, s.modBrace (fun b => { b with sources := ⟨n, c, inst, k, p⟩ :: others }))
  | none =>
    let p := decide (s.threshOf n c ≤ 1)
    (p, (s.arm (.classifier n c inst) (s.windowNs n c)).modBrace (fun b => { b with sources := ⟨n, c, inst, 1, p⟩ :: others }))

/-- Sources of a code return to their own class with count 0 (R397, R403). -/
def State.forget (s : State) (p : Source → Bool) : State :=
  let s := s.each (s.brace.sources.filter p) (fun s x => s.disarm (.classifier x.n x.c x.inst))
  s.modBrace (fun b => { b with sources := b.sources.filter (fun x => !p x) })

/-! ### History (R398) -/

/-- Word 1 of a history entry. -/
def histWord1 (n c cls kind inst seq : Nat) (queued : Bool) : Word :=
  let w := setBits (setBits (setBits 0 0 4 n) 4 6 c) 10 2 cls
  let w := setBits (setBits (setBits w 12 3 kind) 15 1 (b2n queued)) 16 10 inst
  setBits w 48 16 seq

/-- Adds 1 to the merge count of history entry `k` (R398). -/
def State.mergeHist (s : State) (k : Nat) : State :=
  let w := s.word .BRACE_HIST (4 * k + 1)
  s.setWord .BRACE_HIST (4 * k + 1) (setBits w 32 8 (min 255 (getBits w 32 8 + 1)))

/-- Makes a history entry; answers its index. -/
def State.addHist (s : State) (n c cls kind inst : Nat) (queued : Bool) (locator check : Word) : Nat × State :=
  let k := s.get BRACE_HIST_PTR.next
  let q := s.get BRACE_HIST_PTR.next_seq
  let s := s.setWord .BRACE_HIST (4 * k) (BitVec.ofNat 64 s.devtime)
  let s := s.setWord .BRACE_HIST (4 * k + 1) (histWord1 n c cls kind inst q queued)
  let s := s.setWord .BRACE_HIST (4 * k + 2) locator
  let s := s.setWord .BRACE_HIST (4 * k + 3) check
  (k, (s.put BRACE_HIST_PTR.next 0 (k + 1)).put BRACE_HIST_PTR.next_seq 0 (q + 1))

/-- The most recent entry, when it has that subsystem, code and instance. -/
def State.lastHist (s : State) (n c inst : Nat) : Option Nat :=
  let k := (s.get BRACE_HIST_PTR.next + 63) % 64
  let w := s.word .BRACE_HIST (4 * k + 1)
  let q := getBits w 48 16
  if (q + 1) % 65536 = s.get BRACE_HIST_PTR.next_seq ∧ getBits w 0 4 = n ∧ getBits w 4 6 = c ∧ getBits w 16 10 = inst then some k
  else none

/-- Records a notice or a corrected event (R391, R398). -/
def State.lightHist (s : State) (n c cls kind inst : Nat) (locator check : Word) : State :=
  match s.lastHist n c inst with
  | some k => s.mergeHist k
  | none => (s.addHist n c cls kind inst false locator check).2

/-! ### Recovery queue (R400, R401) -/

/-- The domain is queued or recovering. -/
def State.inRecovery (s : State) (d : Nat) : Bool := s.get BRACE_DSTATE.state d == 1 || s.get BRACE_DSTATE.state d == 2

/-- The domain may return to service: it is neither held nor on its way to be held (R399). -/
def State.mayServe (s : State) (d : Nat) : Bool := s.get BRACE_DSTATE.state d != 3 && !(s.inRecovery d && s.on BRACE_DSTATE.severe d)

/-- Merges an event into a domain's first entry (R400). -/
def State.mergeDomain (s : State) (d : Nat) (severe : Bool) : State :=
  let s := match find1 d s.brace.first with
    | some k => s.mergeHist k
    | none => s
  let s := s.put BRACE_DSTATE.merge_count d (min 255 (s.get BRACE_DSTATE.merge_count d + 1))
  if severe then s.flag BRACE_DSTATE.severe d true else s

/-- Queues domain `d`, whose first entry is `k`; an enclosed domain that is queued or recovering gives up its place and
is marked absorbed (R401). -/
def State.enqueueDomain (s : State) (d k seq : Nat) (severe : Bool) : State :=
  let inner := s.brace.queue.filter (fun e => d ∈ enclosing e.1)
  let s := s.each inner (fun s e =>
    let s := match find1 e.1 s.brace.first with
      | some j => s.setWord .BRACE_HIST (4 * j + 1) (setBits (s.word .BRACE_HIST (4 * j + 1)) 40 1 1)
      | none => s
    (s.put BRACE_DSTATE.state e.1 0).flag BRACE_DSTATE.severe e.1 false)
  let pos := (s.brace.queue.findIdx? (fun e => d ∈ enclosing e.1)).getD s.brace.queue.length
  let rest := s.brace.queue.filter (fun e => !(d ∈ enclosing e.1))
  let arr := s.brace.arrivals + 1
  let s := s.modBrace (fun b => { b with
    queue := rest.take pos ++ [(d, false)] ++ rest.drop pos
    arrivals := arr
    first := put1 d k b.first })
  let s := (s.put BRACE_DSTATE.state d 1).flag BRACE_DSTATE.severe d severe
  ((s.put BRACE_DSTATE.first_seq d seq).put BRACE_DSTATE.merge_count d 0).put BRACE_DSTATE.arrival d arr

/-- Sets the detail bit, and the severe bit of a class 3 event (R395). -/
def State.setDetail (s : State) (n c : Nat) (severe : Bool) : State :=
  let s := s.put FAULT_DETAIL.code n ((s.word .FAULT_DETAIL n ||| maskBits c 1).toNat)
  if severe then s.put FAULT_SEV.severe n ((s.word .FAULT_SEV n ||| maskBits c 1).toNat) else s

/-- A class 2 or 3 event (R391, R400). -/
def State.heavy (s : State) (n c kind inst : Nat) (halted : List Nat) (locator check : Word) (severe : Bool) : State :=
  let s := s.setDetail n c severe
  let cls := if severe then 3 else 2
  match domainIndex kind inst with
  | some d =>
    match (d :: enclosing d).find? (fun e => s.inRecovery e) with
    | some e => s.mergeDomain e severe
    | none =>
      let seq := s.get BRACE_HIST_PTR.next_seq
      let (k, s) := s.addHist n c cls kind inst (!s.brace.queue.isEmpty) locator check
      let s := s.reportAer n c kind inst halted severe
      if s.get BRACE_DSTATE.state d == 3 then s else s.enqueueDomain d k seq severe
  | none =>
    if ridgeCode n c && s.inRecovery 130 then s.mergeDomain 130 severe
    else
      let seq := s.get BRACE_HIST_PTR.next_seq
      let (k, s) := s.addHist n c cls kind inst false locator check
      let s := s.reportAer n c kind inst halted severe
      if ridgeCode n c then
        let s := s.modBrace (fun b => { b with first := put1 130 k b.first })
        ((s.put BRACE_DSTATE.state 130 2).put BRACE_DSTATE.first_seq 130 seq).put BRACE_DSTATE.merge_count 130 0
      else s

/-- An event in a domain given by kind and number (R391 to R401). The report is a request at Brace, so it wakes a
clock-gated core (R89, R97; log entry 41). DOMAIN_RELEASE is recorded whatever hist_notices holds. -/
def State.reportIn (s : State) (n c kind inst : Nat) (halted : List Nat) (locator check : Word) : State :=
  match codeClass n c with
  | none => s
  | some cls =>
    let s := (s.wakeRegion 34).bump (braceCtr n c)
    match cls with
    | .notice => if s.on BRACE_CTRL.hist_notices || (n == 10 && c == 1) then s.lightHist n c 0 7 0 locator check else s
    | .severe => s.heavy n c kind inst halted locator check true
    | .corrected =>
      let (p, s) := s.classify n c (sourceKey n c kind inst)
      if p then s.heavy n c kind inst halted locator check true else s.lightHist n c 1 kind inst locator check
    | .fault =>
      let (p, s) := s.classify n c (sourceKey n c kind inst)
      s.heavy n c kind inst halted locator check p

/-- An event of a code in the domain its table row names. -/
def State.report (s : State) (n c inst : Nat) (locator : Word) (check : Word := 0) (halted : List Nat := []) : State :=
  s.reportIn n c (domainKind n c inst) inst halted locator check

end Sys2Proof.Machine
end

