-- ==== Sys2Proof/Machine/Lanes.lean ====
section
/-! DEFINITION. Joist lanes: BIP-8, markers and seeds, lane bring-up and word lock (R296 to R317). -/

namespace Sys2Proof.Machine

/-! ### Lane words (R297) -/

/-- BIP-8 of 16 data bytes. -/
def bip8 (bs : List Byte) : Byte := xorBytes bs

end Sys2Proof.Machine

namespace Sys2Proof

/-- The 16 data bytes of a lane word. -/
def RxUnit.bytes (u : RxUnit) : List Byte := Machine.leBytes 16 u.data.toNat

/-- The lane word is errored: BIP-8 mismatch or stuffing violation (R297, R301). -/
def RxUnit.errored (u : RxUnit) : Bool := u.violation || Machine.bip8 u.bytes != u.bip

/-- The lane word as an inverting receiver reads it (R311). -/
def RxUnit.inverted (u : RxUnit) : RxUnit := { u with data := ~~~ u.data, bip := ~~~ u.bip }

/-- Bits `[lo, lo + len)` of a lane word's data. -/
def RxUnit.bits (u : RxUnit) (lo len : Nat) : Nat := (u.data.extractLsb' lo len).toNat

/-- The lane word is a marker whose fields are legal (R304); the lane index is judged apart. -/
def RxUnit.validMarker (u : RxUnit) : Bool :=
  u.bits 0 32 == 0x5C1EA397 && !u.errored && u.bits 64 31 != 0 && u.bits 96 31 != 0 && decide (u.bits 56 8 ≤ 2)

end Sys2Proof

namespace Sys2Proof.Machine

/-! ### Lanes of a port -/

/-- Port of a lane. -/
def lanePort (l : Nat) : Nat := l / 2

/-- Lane index within the port that the lane carries in its markers (R299, R367). -/
def State.laneIndex (s : State) (l : Nat) : Nat :=
  if s.scarfed (lanePort l) then l % 4 else l % 2

/-- Lanes of the port led by `p`. -/
def State.portLanes (s : State) (p : Nat) : List Nat := (s.members p).flatMap (fun m => [2 * m, 2 * m + 1])

/-- Table seed of a lane index (R299). -/
def tableSeed (i : Nat) : Nat := [0x12F46A3B, 0x5B0E91C7, 0x2D79C4E5, 0x6A13B80F].getD i 0x12F46A3B

/-- Next bit of the scrambler's output from a state, and the state after it (R298). -/
def scramblerStep (x : Nat) : Bool × Nat :=
  let out := Bool.xor (natBit x 30) (natBit x 27)
  (out, (2 * x + b2n out) % 2 ^ 31)

/-- The first `n` bits of the scrambler's output from a state. -/
def scramblerBits : Nat → Nat → List Bool
  | 0, _ => []
  | n + 1, x => (scramblerStep x).1 :: scramblerBits n (scramblerStep x).2

/-- State of the scrambler `n` bits later. -/
def scramblerAfter : Nat → Nat → Nat
  | 0, x => x
  | n + 1, x => scramblerAfter n (scramblerStep x).2

/-- A word's 136 bits in line order: data from bit 0, then the BIP-8 (R296). -/
def wordBits (data : BitVec 128) (bip : Byte) : List Bool :=
  (List.range 128).map data.getLsbD ++ (List.range 8).map bip.getLsbD

/-- Bits of a word with its right BIP-8. -/
def soundBits (data : BitVec 128) : List Bool := wordBits data (bip8 (leBytes 16 data.toNat))

/-- The bits of words in sequence, scrambled from a state of the scrambler (R298). -/
def scrambleWords : Nat → List (BitVec 128) → List Bool
  | _, [] => []
  | x, w :: ws => List.zipWith Bool.xor (soundBits w) (scramblerBits 136 x) ++ scrambleWords (scramblerAfter 136 x) ws

/-- The number that bits spell, the first the least significant. -/
def bitsNat (bs : List Bool) : Nat := bs.foldr (fun b n => b2n b + 2 * n) 0

/-- A received word descrambled from a state of the scrambler (R298). -/
def descramble (x : Nat) (u : RxUnit) : RxUnit :=
  let key := scramblerBits 136 x
  { u with data := u.data ^^^ BitVec.ofNat 128 (bitsNat (key.take 128)), bip := u.bip ^^^ BitVec.ofNat 8 (bitsNat (key.drop 128)) }

/-- A fill word: bytes 0xC3 and 0x3C in turn (R305). -/
def fillWord : BitVec 128 := 0x3CC33CC33CC33CC33CC33CC33CC33CC3

/-! ### Run-length stuffing (R300, R301) -/

/-- Line bits that leave the transmitter, and the run that they end with. -/
structure Stuffed where
  line : List Bool
  run : Nat
  bit : Bool
  deriving DecidableEq, Repr

/-- Stuffs bits after a run of `n` bits `b`, behind the line bits `done`, last first: after 24 identical bits one of the opposite value,
the first of a new run. -/
def stuffOnto (done : List Bool) (n : Nat) (b : Bool) : List Bool → Stuffed
  | [] => ⟨done.reverse, n, b⟩
  | x :: xs =>
    let n' := if 0 < n ∧ x = b then n + 1 else 1
    if n' = 24 then stuffOnto ((!x) :: x :: done) 1 (!x) xs else stuffOnto (x :: done) n' x xs

/-- Stuffs bits after a run of `n` bits `b`. -/
def stuff (n : Nat) (b : Bool) (bits : List Bool) : Stuffed := stuffOnto [] n b bits

/-- What a receiver keeps of line bits: the bits, the run that they end with, whether a violation has been deleted behind the last bit
kept, and how many violations fell. -/
structure Destuffed where
  kept : List RxBit
  run : Nat
  bit : Bool
  bad : Bool
  violations : Nat
  deriving DecidableEq, Repr

/-- Destuffs bits after a run of `n` bits `b`, behind the bits `done`, last first, and `v` violations: after 24 identical bits the next
one is deleted; one of the same value is a violation, and is deleted too. The deleted bit starts the new run, and belongs to the word of
the bit kept next (log entry 72). -/
def destuffOnto (done : List RxBit) (v n : Nat) (b bad : Bool) : List Bool → Destuffed
  | [] => ⟨done.reverse, n, b, bad, v⟩
  | x :: xs =>
    if n = 24 then destuffOnto done (v + b2n (x == b)) 1 x (bad || x == b) xs
    else destuffOnto (⟨x, bad⟩ :: done) v (if 0 < n ∧ x = b then n + 1 else 1) x false xs

/-- Destuffs bits after a run of `n` bits `b`; `bad` tells of a violation deleted behind the last bit kept. -/
def destuff (n : Nat) (b bad : Bool) (bits : List Bool) : Destuffed := destuffOnto [] 0 n b bad bits

/-- The lane word that 136 destuffed bits make, of a lane whose polarity is inverted or not (R296, R311). -/
def rxWord (inv : Bool) (bs : List RxBit) : RxUnit :=
  let xs := bs.map (fun b => Bool.xor b.bit inv)
  ⟨BitVec.ofNat 128 (bitsNat (xs.take 128)), BitVec.ofNat 8 (bitsNat (xs.drop 128)), bs.any (·.bad)⟩

/-- Passes bits until a whole word from there begins with the sync field or its complement: how many bits, and the rest (R311). -/
def seek : Nat → List RxBit → Nat × List RxBit
  | n, [] => (n, [])
  | n, b :: bs =>
    let v := bitsNat (((b :: bs).take 32).map (·.bit))
    if (bs.drop 134).isEmpty ∨ v = 0x5C1EA397 ∨ v = 0xFFFFFFFF - 0x5C1EA397 then (n, b :: bs) else seek (n + 1) bs

/-! ### Sending -/

/-- The port has word lock and deskew on every lane that it receives: rx_ready (R303, R310). -/
def State.rxReady (s : State) (p : Nat) : Bool :=
  (s.portLanes (s.lead p)).all (fun l => s.on JL_STATUS.word_lock l && (s.lane l).aligned)

/-- Seed and next seed of the lane's next marker (R299). The draw of random mode is free, never 0 (log entry 7). -/
def State.drawSeeds (s : State) (l : Nat) : (Nat × Nat) × State :=
  if s.on JL_CTRL.seed_mode l then
    let draw (w : Word) : Nat := 1 + w.toNat % (2 ^ 31 - 1)
    let (w, s) := s.freeWord
    let (seed, s) := if (s.lane l).txNext = 0 then (let (v, s) := s.freeWord; (draw v, s)) else ((s.lane l).txNext, s)
    ((seed, draw w), s)
  else
    let t := tableSeed (s.laneIndex l)
    ((t, t), s)

/-- Data of a marker (R303). -/
def markerData (lane scarf ready port rate state count fill seed next : Nat) : BitVec 128 :=
  BitVec.ofNat 128 (0x5C1EA397 + 2 ^ 32 * lane + 2 ^ 34 * scarf + 2 ^ 35 * ready + 2 ^ 36 * port + 2 ^ 43 * rate
    + 2 ^ 45 * state + 2 ^ 48 * count + 2 ^ 56 * fill + 2 ^ 64 * seed + 2 ^ 96 * next)

/-- The lane is in a near-end loop: its pins carry nothing (R315). -/
def State.nearEnd (s : State) (l : Nat) : Bool := s.get JL_CTRL.loop l == 1 || s.get JL_CTRL.loop l == 2

/-- Line bits that bits to be sent become (R300). -/
def State.lineOf (s : State) (l : Nat) (bits : List Bool) : List Bool := (stuff (s.lane l).txRun (s.lane l).txBit bits).line

/-- Sends the bits of words that are not scrambled, or are already: stuffed bits join the backlog; a near-end loop takes the line bits to
the receiver (R300, R305, R315). -/
def State.sendBits (s : State) (l : Nat) (bits : List Bool) : State :=
  let r := stuff (s.lane l).txRun (s.lane l).txBit bits
  s.modLane l (fun x => { x with
    txRun := r.run, txBit := r.bit, backlog := x.backlog + (r.line.length - bits.length)
    looped := if s.nearEnd l then x.looped ++ r.line else [] })

/-- Sends bits, which the pins carry outside a near-end loop. -/
def State.sendLine (s : State) (l : Nat) (bits : List Bool) : State :=
  if s.nearEnd l then s.sendBits l bits else (s.sendBits l bits).emit (.line l (s.lineOf l bits))

/-- Sends the training or data words of a period, scrambled from the seed of its marker (R298). -/
def State.sendWords (s : State) (l : Nat) (ws : List (BitVec 128)) : State :=
  s.sendLine l (scrambleWords (s.get JL_SEED.tx_seed l) ws)

/-- The words of a training period (R302, R311). -/
def trainingWords : List (BitVec 128) := List.replicate 13 0

/-- The transmitter leaves electrical idle: its run count restarts, and no bit of its stream is late (R300; log entry 63). -/
def State.leaveIdle (s : State) (l : Nat) : State := s.modLane l (fun d => { d with txRun := 0, backlog := 0 })

/-- Data of a marker that lane `l` sends now (R303). -/
def State.markerFor (s : State) (l state count fill seed next : Nat) : BitVec 128 :=
  let p := lanePort l
  markerData (s.laneIndex l) (b2n (s.scarfed p)) (b2n (s.rxReady p)) p (min 2 (s.get JP_CFG.rate (s.lead p))) state count fill seed next

/-- Fill words that the stuffing backlog takes from the lane's next marker (R305). -/
def State.omitted (s : State) (l : Nat) : Nat := min 2 ((s.lane l).backlog / 136)

/-- Sends a marker and its fill words, as many as the stuffing backlog leaves (R303, R305); it opens a period. The record holds the 16
data bytes, the BIP-8 and the line bits of all of them. -/
def State.putMarker (s : State) (l state count seed next : Nat) : State :=
  let n := s.omitted l
  let data := s.markerFor l state count (2 - n) seed next
  let bs := leBytes 16 data.toNat
  let bits := soundBits data ++ (List.replicate (2 - n) (soundBits fillWord)).flatten
  let line := s.lineOf l bits
  let s := if n = 0 then s else s.bump (laneCtr l 6)
  let s := (s.modLane l (fun x => { x with backlog := x.backlog - 136 * n, txOpen := true })).sendBits l bits
  let s := s.put JL_SEED.tx_seed l seed
  if s.nearEnd l then s else s.emit (.marker l (bs ++ [bip8 bs]) line)

/-- Sends the lane's next marker with a state code: its count and its seeds (R299, R303). -/
def State.sendMarker (s : State) (l state : Nat) : State :=
  let count := ((s.lane l).txCount + 1) % 256
  let ready := s.rxReady (lanePort l)
  let (sd, s) := s.drawSeeds l
  let s := s.modLane l (fun x => { x with txCount := count, txNext := sd.2, sentReady := x.sentReady || ready })
  s.putMarker l state count sd.1 sd.2

/-- Ends the training period that a marker has opened on a lane: its words go (R302). -/
def State.endTraining (s : State) (l : Nat) : State :=
  if (s.lane l).txOpen then (s.sendWords l trainingWords).modLane l (fun d => { d with txOpen := false }) else s

/-- Data of a period unit (R322). -/
def periodUnit (first mask count : Nat) : BitVec 128 := BitVec.ofNat 128 (first + 2 ^ 16 * mask + 2 ^ 24 * count)

/-- The transmitter of a lane goes to electrical idle behind a doze marker (R309, R312). -/
def State.stopSending (s : State) (l : Nat) : State := (s.put JL_STATUS.state l 6).modLane l (fun d => { d with txOpen := false })

/-- Sends the marker that opens an active period on a lane; the first data slot will carry the period unit (R302, R310, R321, R322). -/
def State.openActive (s : State) (l first mask : Nat) : State :=
  let s := (s.sendMarker l 0).put JL_STATUS.state l 5
  let c := (s.lane l).txCount
  (s.modLane l (fun d => { d with txUnit := periodUnit first mask c })).emit (.periodUnit l first mask c)

/-- A lane starts to train: its receiver searches, polarity and order are judged anew (R310, R311). -/
def State.bringUpLane (s : State) (l : Nat) : State :=
  let s := s.put JL_STATUS.state l 4
  let s := (((s.put JL_STATUS.word_lock l 0).put JL_STATUS.inverted l 0).put JL_STATUS.order_error l 0).put JL_STATUS.far_ready l 0
  let s := s.put JL_STATUS.deskew l 0
  s.modLane l (fun d => { LaneDyn.reset with txCount := d.txCount, txNext := d.txNext })

/-- The bay is in reset or off (R345). -/
def State.bayHeld (s : State) (b : Nat) : Bool := s.bayState b == 4 || s.bayState b == 5

/-- A lane stops: its receiver is off. In a bay that is off or in reset the lane is off (R309). -/
def State.stopLane (s : State) (state l : Nat) : State :=
  let s := (s.put JL_STATUS.state l (if state = 1 ∧ s.bayHeld (bayOf (lanePort l)) then 0 else state)).put JL_STATUS.word_lock l 0
  let s := (((s.put JL_STATUS.cdr_lock l 0).put JL_STATUS.far_ready l 0).put JL_STATUS.deskew l 0).disarm (.keepalive l)
  s.modLane l (fun d => { LaneDyn.reset with txCount := d.txCount, txNext := d.txNext })

/-- The lane is in service for reception: in the receive mask and not excluded (R340). -/
def State.inService (s : State) (l : Nat) : Bool :=
  let p := s.lead (lanePort l)
  (s.scarfed p || natBit (s.get JP_STATUS.rx_mask p) (l % 2)) && (s.port p).excluded != some (l % 2)

/-- Symbol lock of a lane (R314). -/
def State.symbolLock (s : State) (l : Nat) : Bool := s.on JL_STATUS.cdr_lock l && s.on JL_STATUS.word_lock l

/-- After a lane gained or lost symbol lock: LOCK_LOSS_TIME runs while an in-service lane of a port that is up lacks it, and
the 1 ms of R340 while the excluded lane holds word lock. -/
def State.watchLock (s : State) (l : Nat) : State :=
  let p := s.lead (lanePort l)
  if s.get JP_STATUS.link_state p ≠ 3 then s
  else
    let s := if (s.portLanes p).any (fun k => s.inService k && !s.symbolLock k) then
        s.armOnce (.lockLoss p) (s.get JP_TIMER0.lock_loss_us p * 1000)
      else s.disarm (.lockLoss p)
    match (s.port p).excluded with
    | some x => if s.on JL_STATUS.word_lock (2 * p + x) then s.armOnce (.relock p) 1000000 else s.disarm (.relock p)
    | none => s.disarm (.relock p)

/-- A lane loses word lock and searches again (R314). -/
def State.loseLock (s : State) (l : Nat) : State :=
  if s.on JL_STATUS.word_lock l then
    let s := ((s.put JL_STATUS.word_lock l 0).bump (laneCtr l 5)).disarm (.keepalive l)
    (s.modLane l (fun d => { d with good := 0, bad := 0, blind := true, ready := 0, marks := [], aligned := false, window := [], since := 0, pos := .marker })).watchLock l
  else s

/-! ### Alignment (R308) -/

/-- Lane words that pass on a port in some nanoseconds, rounded up (R295). -/
def State.wordsIn (s : State) (p ns : Nat) : Nat := ceilDiv (ns * 225 * 2 ^ min 2 (s.get JP_CFG.rate (s.lead p))) 2176

/-- A receiver gives up its search and its alignment. -/
def State.searchAnew (s : State) (l : Nat) : State :=
  (s.loseLock l).modLane l (fun d => { d with good := 0, marks := [], aligned := false })

/-- A valid marker arrives, `c` its count, 256 more for training: the lane is aligned with the other lane of its pair where that has
received the marker of the same count, the earlier one delayed by the skew between them. Skew beyond 16 lane words is a deskew
overflow, on which every lane of the port searches again. The count tells 128 periods apart (R308, R319, R372; log entry 64). -/
def State.alignLane (s : State) (l c : Nat) : State :=
  let k := 4 * (l / 2) + 1 - l
  let s := s.modLane l (fun d => { d with marks := ((c, s.clock) :: d.marks).take 128 })
  match find1 c (s.lane k).marks with
  | some t =>
    let w := s.wordsIn (lanePort l) (s.clock - t)
    if 16 < w then (s.bump (laneCtr l 4)).each (s.portLanes (s.lead (lanePort l))) State.searchAnew
    else
      let s := (s.put JL_STATUS.deskew l 0).put JL_STATUS.deskew k w
      s.each [l, k] (fun s x => s.modLane x (fun d => { d with aligned := true }))
  | none => s

/-! ### PRBS (R316) -/

/-- Exponents of a pattern's polynomial x^a + x^b + 1. -/
def prbsTaps (pattern : Nat) : Nat × Nat :=
  match pattern with
  | 0 => (7, 6)
  | 1 => (15, 14)
  | 2 => (23, 18)
  | _ => (31, 28)

/-- A checker at work: the bits that it holds, newest first, the bits in a row that agreed with the pattern, and whether it is synchronised;
bits compared, and bits in error. -/
structure PrbsRun where
  held : List Bool
  run : Nat
  lock : Bool
  bits : Nat
  errs : Nat
  deriving DecidableEq, Repr

/-- One bit reaches a checker. Once 64 bits in a row have come that the pattern joins, not all of them 0, it is synchronised, and goes
on by the pattern alone (log entry 72, DESIGN CHOICE). -/
def PrbsRun.step (taps : Nat × Nat) (r : PrbsRun) (x : Bool) : PrbsRun :=
  let next := Bool.xor (r.held.getD (taps.1 - 1) false) (r.held.getD (taps.2 - 1) false)
  if r.lock then { r with held := next :: r.held.take 30, bits := r.bits + 1, errs := r.errs + b2n (x != next) }
  else
    let held := x :: r.held.take 30
    let run := if r.held.length < taps.1 then 0 else if x = next ∧ held.any (fun b => b) then r.run + 1 else 0
    { r with held := held, run := run, lock := decide (64 ≤ run + taps.1) }

/-- Bits come from the pins to a lane's checker; invert checks the inverted pattern. -/
def State.checkBits (s : State) (l : Nat) (bits : List Bool) : State :=
  let d := s.lane l
  let inv := s.on JL_PRBS.invert l
  let r := (bits.map (fun b => Bool.xor b inv)).foldl (PrbsRun.step (prbsTaps (s.get JL_PRBS.pattern l)))
    ⟨d.chkBits, d.chkRun, s.on JL_PRBS.chk_lock l, 0, 0⟩
  let s := (s.bumpBy (laneCtr l 8) r.bits).bumpBy (laneCtr l 7) r.errs
  let s := if 0 < r.errs then s.put JL_PRBS.err l 1 else s
  (s.flag JL_PRBS.chk_lock l r.lock).modLane l (fun d => { d with chkBits := r.held, chkRun := r.run })

/-- A near-end loop brings a lane's own pattern to its checker: clean, unless the checker looks for the inverted one. -/
def State.cleanLoop (s : State) (l : Nat) : Bool :=
  s.nearEnd l && s.on JL_PRBS.gen_en l && s.on JL_PRBS.chk_en l && !s.on JL_PRBS.invert l

/-- Bits that a lane's line has carried at a clock (R295). -/
def State.lineBits (s : State) (l t : Nat) : Nat := t * 225 * 2 ^ min 2 (s.get JP_CFG.rate (s.lead (lanePort l))) / 16

/-- Bits that a synchronised checker in a near-end loop has compared since they were counted last. -/
def State.prbsBits (s : State) (l : Nat) : Nat :=
  match (s.lane l).prbsFrom with
  | some t => s.lineBits l s.clock - s.lineBits l t
  | none => 0

/-- Counts them. -/
def State.countPrbs (s : State) (l : Nat) : State :=
  (s.bumpBy (laneCtr l 8) (s.prbsBits l)).modLane l (fun d => { d with prbsFrom := d.prbsFrom.map (fun _ => s.clock) })

/-- Lanes of a bay. -/
def bayLanes (b : Nat) : List Nat := (List.range 8).map (fun k => 8 * b + k)

/-- A bay goes to sleep: its lanes are off, and their checkers compare nothing (R88, R97). -/
def State.sleepBay (s : State) (b : Nat) : State :=
  (s.each (bayLanes b) (fun s l => (s.countPrbs l).modLane l (fun d => { d with prbsFrom := none }))).setBayState b 3

/-- A bay runs: checkers in a clean near-end loop compare again, lanes that were off stand in reset (R309, R316). -/
def State.lanesRun (s : State) (b : Nat) : State :=
  s.each (bayLanes b) (fun s l =>
    let s := if s.cleanLoop l && (s.lane l).prbsFrom.isNone then s.modLane l (fun d => { d with prbsFrom := some s.clock }) else s
    if s.get JL_STATUS.state l = 0 then s.put JL_STATUS.state l 1 else s)

end Sys2Proof.Machine
end

