-- ==== Sys2Proof/Machine/Sched.lean ====
section
/-! DEFINITION. Deadline keys, clamps, misses and arbitration (R199, R275 to R285). -/

namespace Sys2Proof.Machine

/-- The internal key of a 16-bit deadline (R275). -/
def State.expandKey (s : State) (d : Nat) : Nat :=
  let r := (65536 + d - s.now64 % 65536) % 65536
  if r < 32768 then s.now64 + r else s.now64 + r - 65536

/-- Weight and slack floor in effect; a damaged entry acts as weight 1 and floor 32,767 (code 5.0). -/
def State.weightOf (s : State) (f : Nat) : Nat := if s.hurt .SCHED_FUNC f then 1 else max 1 (s.get SCHED_FUNC.weight f)
def State.floorOf (s : State) (f : Nat) : Nat := if s.hurt .SCHED_FUNC f then 32767 else s.get FUNC_SLACK.floor f

/-- Key of an untagged request attributed to function `f` (R278). -/
def State.implicitKey (s : State) (f : Nat) : Nat :=
  let h := max 1 (s.get SCHED_CTRL.horizon) * 8 / s.weightOf f
  s.now64 + max h (s.floorOf f)

/-- A tagged key after the slack floor of `f`, whether it was clamped, and the count of the clamp (R199). -/
def State.clampKey (s : State) (f k : Nat) : (Nat × Bool) × State :=
  let fl := s.floorOf f
  if fl ≠ 0 ∧ k < s.now64 + fl then ((s.now64 + fl, true), s.bump (fnCtr f 1)) else ((k, false), s)

/-- DEVTIME is later than a key (R275, R285). -/
def State.lateFor (s : State) (k : Nat) : Bool := decide (64 * k < keyNs s.devtime)

/-- Lateness in 64 ns units, saturating (R285). -/
def State.lateBy (s : State) (k : Nat) : Nat := min 0xFFFF (ceilDiv (keyNs s.devtime - 64 * k) 64)

/-- Counts a request that was late on arrival (R285). -/
def State.lateArrival (s : State) (f k : Nat) : State := if s.lateFor k then s.bump (fnCtr f 15) else s

/-- A tagged key set at entry: clamped, and its late arrival counted. -/
def State.tagKey (s : State) (f k : Nat) : (Nat × Bool) × State :=
  let (r, s) := s.clampKey f k
  (r, s.lateArrival f r.1)

/-- Key of a request attributed to `f` that comes with a 16-bit deadline, or with none; its tagged key, and whether that was
clamped (R275, R278). -/
def State.keyFor (s : State) (f : Nat) (dl : Option Nat) : (Nat × Option Nat × Bool) × State :=
  match dl with
  | some d =>
    let (r, s) := s.tagKey f (s.expandKey d)
    ((r.1, some r.1, r.2), s)
  | none => ((s.implicitKey f, none, false), s)

/-- A tagged request of kind `kind` ends: a late one counts a miss of its function, loads the miss log and counts at
`extra`, the counters of its queue or port (R285, R294). -/
def State.missAt (s : State) (k f kind p v : Nat) (extra : List Nat) : State :=
  if s.lateFor k then
    let s := s.each (fnCtr f 14 :: extra) State.bump
    let s := s.setWord .SCHED_MISS_LOG0 0 (BitVec.ofNat 64 s.devtime)
    let s := s.put SCHED_MISS_LOG1.late_by 0 (s.lateBy k)
    let s := ((s.put SCHED_MISS_LOG1.kind 0 kind).put SCHED_MISS_LOG1.function_ 0 f).put SCHED_MISS_LOG1.port 0 p
    (s.put SCHED_MISS_LOG1.vc 0 v).put SCHED_MISS_LOG1.valid 0 1
  else s

/-- A candidate at an arbitration point: its place in the rotation, key, and whether it is tagged. -/
structure Cand where
  id : Nat
  key : Nat
  tagged : Bool
  deriving DecidableEq, Repr

/-- `a` goes before `b` by key; a tagged request goes first where keys are equal (R278). -/
def Cand.before (a b : Cand) : Bool :=
  decide (a.key < b.key) || (decide (a.key = b.key) && a.tagged && !b.tagged)

/-- Candidates that no other goes before. -/
def bestCands (cs : List Cand) : List Cand := cs.filter (fun a => !cs.any (fun b => b.before a))

/-- Number of an arbitration point in the rotation table. -/
def pointFetch : Nat := 1
def pointPeg : Nat := 2
def pointEngine (g : Nat) : Nat := 100 + g
def pointEgress (p : Nat) : Nat := 1000 + p

/-- The winner at a point: earliest key, equal keys in rotation after the one last served (R279). -/
def State.arbitrate (s : State) (point : Nat) (cs : List Cand) : Option Nat :=
  let ids := (bestCands cs).map (fun c => c.id)
  let last := Tbl.get 0 s.served point
  match (ids.filter (fun i => decide (last ≤ i))).min? with
  | some i => some i
  | none => ids.min?

/-- Records the winner of a point. -/
def State.servedAt (s : State) (point id : Nat) : State := { s with served := Tbl.set 0 s.served point (id + 1) }

/-- Place of a path in the rotation of R279: function, Joist port, virtual channel, direction. -/
def pathId (f p v : Nat) (fromLocal : Bool) : Nat := ((f * 128 + p) * 8 + v) * 2 + b2n fromLocal

/-- B of R263 times 128, in bytes per CCLK: rate code, scarf pairing, lanes in service. -/
def State.portRate128 (s : State) (p : Nat) : Nat :=
  let l := s.lead p
  let full := 1016 / 2 ^ (2 - min 2 (s.get JP_CFG.rate l))
  if s.scarfed p then 2 * full
  else if s.get JP_STATUS.tx_mask l = 3 then full else full / 2

/-- One-way cable delay in ns by class (R84, R290). -/
def State.cableDelay (s : State) (p : Nat) : Nat :=
  match s.get JP_CFG.cable_class (s.lead p) with
  | 0 => 25
  | 1 => 100
  | _ => 400

/-- K_v, the hold skid (R287): port rate times (twice the delay plus 250 ns), in 4 KiB steps. A byte per CCLK at rate
B64/64 is B64/40 bytes per ns. -/
def skidBytes (rate64 delay : Nat) : Nat := roundUp (ceilDiv (rate64 * (2 * delay + 250)) 40) 4096

/-- Port rate at full lanes, times 64 (R287 takes all lanes). -/
def State.fullRate64 (s : State) (p : Nat) : Nat :=
  let full := 508 / 2 ^ (2 - min 2 (s.get JP_CFG.rate (s.lead p)))
  if s.scarfed p then 2 * full else full

/-- The skid of a port's virtual channels. -/
def State.skid (s : State) (p : Nat) : Nat := skidBytes (s.fullRate64 p) (s.cableDelay p)

/-- P_v in bytes (R333). -/
def State.partition (s : State) (p v : Nat) : Nat := getBits (s.word .JP_PART (s.lead p)) (8 * v) 8 * 4096

/-- Bytes of the partition that are free: F_v (R287). -/
def State.freeSpace (s : State) (p v : Nat) : Int :=
  (s.partition p v : Int) - s.reserveOf (s.lead p) v - s.ingressOf (s.lead p) v

/-- Judges the hold marks of a port anew (R287); answers the new set. -/
def State.holdMarks (s : State) (p : Nat) : Nat :=
  (List.range (s.vcCount p)).foldl (fun m v =>
    let held := natBit (s.get JP_STATUS.own_hold p) v
    let f := s.freeSpace p v
    let now := decide (f < s.skid p + 4096) || (held && decide (f < s.skid p + 8192))
    m + b2n now * 2 ^ v) 0

/-- Loads the hold marks (R287, R350, R294). -/
def State.judgeHolds (s : State) (p : Nat) : State :=
  let m := s.holdMarks p
  let s := s.put JP_STATUS.own_hold p m
  s.each (List.range 8) (fun s v => s.flag SCHED_RSV_VC.held (8 * p + v) (natBit m v))

end Sys2Proof.Machine
end

