-- ==== Sys2Proof/Machine/Egress.lean ====
section
/-! DEFINITION. Power regions and their wakes (R25, R88 to R95, R451), and requests toward a host: cutting, posted writes, the tag arbiter, completion timeouts (R138 to R147,
R157, R216, R286). -/

namespace Sys2Proof.Machine

/-! ### Truss slices (R10 to R12) -/

/-- Truss slice that serves a Joist port (R10). -/
def sliceOf (p : Nat) : Nat := bayOf p / 6

/-- Truss slice of the attachment that an engine uses (R11). -/
def engSlice (e : Nat) : Nat := e % 4

/-- Region `r` lets its requesters take part in arbitration: it runs, or its clocks come back on demand (R25, R90). -/
def State.open_ (s : State) (r : Nat) : Bool := decide (s.region r ≤ 1)

/-- The Truss slices of a request run. -/
def State.slicesOpen (s : State) (ts : List Nat) : Bool := ts.all (fun t => s.open_ (30 + t))

/-- A request wakes the Truss slices it needs (R92). -/
def State.wakeSlices (s : State) (ts : List Nat) : State := s.each ts (fun s t => s.wakeRegion (30 + t))

/-- Cuts a range into requests that end at multiples of `lim` counted from `base`, at 4 KiB boundaries, and hold at
most `lim` bytes: pairs of offset and length (R144, R216, R256). -/
def cutRange (lim : Nat) : Nat → Nat → Nat → Nat → List (Nat × Nat)
  | 0, _, _, _ => []
  | fuel + 1, addr, ofs, len =>
    if len = 0 then []
    else
      let n := min len (min (max lim 1) (4096 - addr % 4096))
      (ofs, n) :: cutRange lim fuel (addr + n) (ofs + n) (len - n)

/-- The cut of a range of `len` bytes from `addr`. -/
def cuts (lim addr len : Nat) : List (Nat × Nat) := cutRange lim len addr 0 len

/-- PASID that a request of `f` carries when its queue or segment asks for `pasid` (R216, R229). -/
def State.pasidFor (s : State) (f : Nat) (enabled : Bool) (pasid : Nat) : Option Nat :=
  if enabled && s.cfgBit (fnPf f) 0x344 16 && !s.compatFn f then some pasid else none

/-- IDE stream `i` of port `h`. -/
def State.ideStream (s : State) (h i : Nat) : IdeStream := (find1 i (s.host h).ide).getD ⟨[], none, none, false⟩

def State.setIde (s : State) (h i : Nat) (x : IdeStream) : State :=
  s.modHost h (fun d => { d with ide := put1 i x d.ide })

/-- HP_IDE_STATUS.key_change: a K_SET_GO waits for its key set to take effect on some stream (R162). -/
def State.judgeKeys (s : State) (h : Nat) : State :=
  s.flag HP_IDE_STATUS.key_change h ((s.host h).ide.any (fun e => e.2.next.isSome))

/-- A TLP is sent on a stream: a key set that a K_SET_GO asked for takes effect with it (log entry 55, DESIGN CHOICE). -/
def State.onStream (s : State) (h : Nat) (st : Option Nat) : State :=
  match st with
  | some i =>
    let x := s.ideStream h i
    if x.next.isSome then (s.setIde h i { x with active := x.next, next := none }).judgeKeys h else s
  | none => s

/-- IDE stream on which a request of `f` is sent: the selective stream whose RID association covers it, the link stream
when secure, or none (R157). A link stream that has failed still takes its requests, which then fail (R159). -/
def State.streamFor (s : State) (f : Nat) : Option Nat :=
  let h := fnPort f
  let r := s.rid f
  match (List.range 8).find? (fun i =>
    let b := 0x374 + 44 * i
    s.cfgBit h (b + 4) 0 && s.cfgBit h (b + 16) 0 && decide (s.cfgGet h (b + 16) 8 16 ≤ r)
      && decide (r ≤ s.cfgGet h (b + 12) 8 16)) with
  | some i => some (1 + i)
  | none => if s.on HP_IDE_STATUS.link_secure h || (s.ideStream h 0).failed then some 0 else none

/-- The stream has failed and carries nothing (R159). -/
def State.streamFailed (s : State) (h : Nat) : Option Nat → Bool
  | some i => (s.ideStream h i).failed
  | none => false

/-- Nothing is sent on a failed stream (R159): a completion goes on the stream of its function, that of a configuration request, which
the selective streams do not carry (R172), on the link stream. -/
def State.silenced (s : State) (f : Nat) : Output → Bool
  | .cfgCompletion _ _ _ _ => (s.ideStream (fnPort f) 0).failed
  | _ => s.streamFailed (fnPort f) (s.streamFor f)

/-- Sends a TLP of function `f` unless its stream has failed, with an ECRC where the PF's ECRC Generation Enable asks for one (R134,
R159, R172). -/
def State.emitTlp (s : State) (f : Nat) (o : Output) : State :=
  if s.silenced f o then s else s.emit (if s.cfgBit (fnPf f) 0x118 6 then .ecrc o else o)

/-- A TLP that the host sends to function `f` is not received: the link is not there, or its IDE stream, which is taken to
be the one that the function's own requests use (log entry 38), has failed (R159). -/
def State.unheard (s : State) (f : Nat) : Bool :=
  s.hostGone (fnPort f) || decide (s.phase = .deferring) || s.streamFailed (fnPort f) (s.streamFor f)

/-- A PLL that restarts pre-biased may fail to lock within 1 us, which is free (log entry 40); it then starts from cold
(R91). Answers whether it fails. -/
def State.pllFails (s : State) : Bool × State :=
  let (w, s) := s.freeWord
  (bitAt w 0, s)

/-- HCRh runs again after L1 gated it: its PLL restarts pre-biased, and a start that fails is a cold one, which is counted (R91). -/
def State.ungateHcr (s : State) (h : Nat) : State :=
  if s.hcrState h = 1 ∨ s.hcrState h = 2 then
    let (cold, s) := s.pllFails
    (if cold then s.bump (modCtr 5) else s).setHcrState h 0
  else s

/-- A request or message for the host makes the port leave L1 (R92, R140); its latency is not modelled (log entry 9). A link that was
narrowed when it entered L1 is narrowed again (R162). -/
def State.leaveL1 (s : State) (h : Nat) : State :=
  if s.get HP_LINK_STATUS.pm_state h = 2 ∧ s.phase ≠ .deferring then
    let s := s.put HP_LINK_STATUS.pm_state h (b2n (s.get HP_LINK_STATUS.l0p_width h != s.get HP_LINK_STATUS.width h))
    ((s.put HP_LINK_STATUS.l1_sub h 0).ungateHcr h).modHost h (fun d => { d with clkreq := true })
  else s

/-- A TLP, poisoned where its data has been lost (R393, code 6.1). -/
def markBad (bad : Bool) (o : Output) : Output := if bad then .poisoned o else o

/-- A poisoned write that the function sends sets Master Data Parity Error where Parity Error Response asks for it (R165). -/
def State.noteBad (s : State) (f : Nat) (bad : Bool) : State :=
  if bad && s.cfgBit (fnPf f) 0x04 6 then s.setStatus f 24 else s

/-- Posted write TLPs of function `f`, cut at 4 KiB and Max_Payload_Size (R144). On a failed IDE stream nothing is
sent (R159). -/
def State.hostWrite (s : State) (f : Nat) (pasid : Option Nat) (addr : Nat) (data : List Byte) (bad : Bool := false) : State :=
  let st := s.streamFor f
  if s.streamFailed (fnPort f) st then s
  else (((s.noteBad f bad).leaveL1 (fnPort f)).onStream (fnPort f) st).each (cuts (s.mps f) addr data.length) (fun s c =>
    s.emitTlp f (markBad bad (.memWrite (fnPort f) (s.rid f) pasid st (addr + c.1) 0 ((data.drop c.1).take c.2))))

/-- A posted write of 8 bytes of which only those in `be` are written (R355). -/
def State.hostWriteSparse (s : State) (f : Nat) (pasid : Option Nat) (addr be : Nat) (data : List Byte) (bad : Bool := false) :
    State :=
  let st := s.streamFor f
  if s.streamFailed (fnPort f) st then s
  else (((s.noteBad f bad).leaveL1 (fnPort f)).onStream (fnPort f) st).emitTlp f
    (markBad bad (.memWrite (fnPort f) (s.rid f) pasid st addr be data))

/-! ### Tags (R145, R286) -/

/-- Tag width code of a function: 0 5-bit, 1 8-bit, 2 10-bit, 3 14-bit (R145). -/
def State.tagMode (s : State) (f : Nat) : Nat :=
  let h := fnPf f
  if s.on HP_LINK_STATUS.flit_mode h && s.cfgBit f 0x324 2 then 3
  else if (if f < 4 then s.cfgBit h 0x78 12 else s.cfgBit h 0x184 5) then 2
  else if s.cfgBit h 0x58 8 then 1 else 0

/-- Lowest and highest tag a function may use (R145). -/
def tagRange (mode : Nat) : Nat × Nat :=
  match mode with
  | 3 => (0, 4095)
  | 2 => (256, 1023)
  | 1 => (0, 255)
  | _ => (0, 31)

/-- Lowest free tag of a function: none when all are in use, or when a VF has reached its cap. A cap of 0, which its range leaves
out, acts as 1 (R162; log entry 52, DESIGN CHOICE). -/
def State.freeTag (s : State) (f : Nat) : Option Nat :=
  let h := fnPort f
  let (lo, hi) := tagRange (s.tagMode f)
  let tags := (s.host h).tags
  if 4 ≤ f ∧ max 1 (s.get HP_TAG.vf_cap h) ≤ (tags.filter (fun t => t.2.req.fn == f)).length then none
  else (List.range (hi + 1 - lo)).findSome? (fun i => if (find1 (lo + i) tags).isNone then some (lo + i) else none)

/-- Applied completion timeout of a function in ns (R146). Values that the table does not list are free (log entry 18). -/
def State.completionTimeoutNs (s : State) (f : Nat) : Nat :=
  match s.cfgGet (fnPf f) 0x78 0 4 with
  | 0 => 10000000
  | 1 => 75000
  | 2 => 5000000
  | 5 => 30000000
  | 6 => 120000000
  | 9 => 500000000
  | 10 => 2000000000
  | 13 => 8000000000
  | 14 => 32000000000
  | c => Config.unlistedTimeoutNs c

/-- Completion Timeout Disable of the function's PF. -/
def State.timeoutDisabled (s : State) (f : Nat) : Bool := s.cfgBit (fnPf f) 0x78 4

/-! ### Paths at the tag arbiter (R18, R19, R286) -/

/-- The request is a fetch of the queue engine. -/
def HReq.fetches (r : HReq) : Bool :=
  match r.purpose with
  | .fetch _ _ _ | .ext _ => true
  | _ => false

/-- Two requests are of one path: function, Joist port, virtual channel and direction; the fetches of a queue are a path of
their own (log entry 37). -/
def HReq.samePath (a b : HReq) : Bool :=
  a.fn == b.fn && a.p == b.p && a.v == b.v && a.fromHost == b.fromHost && a.fetches == b.fetches && (!a.fetches || a.q == b.q)

/-- Heads of the paths that wait, in order of arrival. -/
def reqHeads (rs : List HReq) : List HReq :=
  rs.foldl (fun hs r => if hs.any (fun x => x.samePath r) then hs else hs ++ [r]) []

/-- Key of a path at the tag arbiter: the earliest of its requests (R281). -/
def reqKey (rs : List HReq) (r : HReq) : Nat := (rs.filter r.samePath).foldl (fun k x => min k x.key) r.key

/-- Head of the tag arbiter: among the path heads the earliest key, a tagged one first among equal keys, then the earliest
arrival (R278, R279). -/
def headReq (rs : List HReq) : Option HReq :=
  (reqHeads rs).foldl (fun b r => match b with
    | some x => if (Cand.mk 0 (reqKey rs r) r.tagged).before (Cand.mk 0 (reqKey rs x) x.tagged) then some r else some x
    | none => some r) none

/-- A request of the path waits at the tag arbiter; the fetches of a queue are a path of their own. -/
def State.pathWaits (s : State) (f p v : Nat) (fromHost : Bool) : Bool :=
  (s.host (fnPort f)).waiting.any (fun r => r.fn == f && r.p == p && r.v == v && r.fromHost == fromHost && !r.fetches)

/-- A posted write of a local device leaves the tag arbiter's queue for the host, and its lateness is judged (R285). -/
def State.sendPost (s : State) (r : HReq) : State :=
  match r.purpose with
  | .post data _ bad =>
    let s := if r.be ≠ 0 then s.hostWriteSparse r.fn r.pasid r.addr r.be data bad else s.hostWrite r.fn r.pasid r.addr data bad
    if r.tagged then s.missAt r.key r.fn 5 r.p r.v [portCtr r.p 24] else s
  | _ => s

/-- The request is a posted write: it needs neither space nor a tag. -/
def HReq.posted (r : HReq) : Bool :=
  match r.purpose with
  | .post _ _ _ => true
  | _ => false

/-- Truss slices that a request for the host passes: that of its source, and that of the host port (R10 to R12). -/
def HReq.slices (r : HReq) : List Nat :=
  match r.purpose with
  | .engine e _ => [engSlice e, fnPort r.fn]
  | .loc p _ _ => [sliceOf p, fnPort r.fn]
  | .post _ _ _ => [sliceOf r.p, fnPort r.fn]
  | _ => [0, fnPort r.fn]

/-- The slices that a unit for the host of function `f` passes run, those of its source in `ts`, and so does the host controller's
region (R25, R95). -/
def State.hostOpen (s : State) (ts : List Nat) (f : Nat) : Bool := s.slicesOpen (fnPort f :: ts) && s.open_ (35 + fnPort f)

/-- A unit for the host of function `f` waits at slices `ts`: it wakes them, the host's slice and the link (R92, R95). -/
def State.callHost (s : State) (ts : List Nat) (f : Nat) : State := (s.wakeSlices (fnPort f :: ts)).leaveL1 (fnPort f)

/-- Posted writes that have become heads of their paths are sent when what they pass runs (R95). The fuel is the number that wait. -/
def State.drainPosts (s : State) (h : Nat) : Nat → State
  | 0 => s
  | fuel + 1 =>
    match (reqHeads (s.host h).waiting).find? (fun r => r.posted && s.hostOpen r.slices r.fn) with
    | none => s
    | some r => ((s.modHost h (fun d => { d with waiting := d.waiting.erase r })).sendPost r).drainPosts h fuel

/-- Posted writes go on as far as they can. -/
def State.drainWrites (s : State) (h : Nat) : State := s.drainPosts h (s.host h).waiting.length

/-- A request joins the tag arbiter of its port and wakes what it passes (R92, R286); a posted write that nothing precedes
on its path goes at once, when what it passes runs. -/
def State.askHost (s : State) (r : HReq) : State :=
  ((s.callHost r.slices r.fn).modHost (fnPort r.fn) (fun d => { d with waiting := d.waiting ++ [r] })).drainWrites (fnPort r.fn)

/-- The head of the tag arbiter may be granted: its link is there, the regions it passes run (R25, R95), and its receive
space fits (R286). -/
def State.mayIssue (s : State) (h : Nat) (r : HReq) : Bool :=
  !s.hostGone h && !(s.host h).pmOff && s.open_ (35 + h) && s.slicesOpen r.slices
    && decide (s.cplSpace h + roundUp r.len 64 ≤ 1048576)

/-- The part of a device read takes its receive space (R286). -/
def State.giveRoom (s : State) (r : HReq) : State :=
  match r.purpose with
  | .loc p t o => s.modPort p (fun d => { d with dtags := d.dtags.map (fun x =>
      if x.1 = t then (t, { x.2 with room := x.2.room ++ [(o, r.len)] }) else x) })
  | _ => s

/-- Grants the head receive space and a tag, when both are free, and sends its request (R138, R286); posted writes behind
it go on. Equal requests stand in arrival order, so the first equal entry is the one removed. -/
def State.grantTag (s : State) (h : Nat) : State :=
  match headReq (s.host h).waiting with
  | none => s
  | some r =>
    if !s.mayIssue h r then s
    else
      match s.freeTag r.fn with
      | none => s
      | some t =>
        let s := s.modHost h (fun d => { d with
          waiting := d.waiting.erase r
          tags := d.tags ++ [(t, ⟨r, s.devtime, false, []⟩)] })
        let s := s.giveRoom r
        let s := if s.timeoutDisabled r.fn then s else s.arm (.hostTag h t) (s.completionTimeoutNs r.fn)
        ((s.onStream h (s.streamFor r.fn)).emitTlp r.fn (.memRead h (s.rid r.fn) r.pasid (s.streamFor r.fn) t r.addr r.len r.be)).drainWrites h

/-- Frees a host tag. -/
def State.freeHostTag (s : State) (h t : Nat) : State :=
  ((s.disarm (.hostTag h t)).disarm (.flrTag h t)).modHost h (fun d => { d with tags := drop1 t d.tags })

/-- A timed-out or abandoned tag stays unused for 1 ms or the applied timeout, whichever is shorter (R147). -/
def State.holdHostTag (s : State) (h t : Nat) : State :=
  match find1 t (s.host h).tags with
  | none => s
  | some x =>
    let s := ((s.disarm (.hostTag h t)).disarm (.flrTag h t)).modHost h (fun d => { d with tags := put1 t { x with held := true } d.tags })
    s.arm (.tagRelease h t) (min 1000000 (s.completionTimeoutNs x.req.fn))

/-- The generations recorded with a tag are the current ones (R192). -/
def State.gensCurrent (s : State) (fn fgen : Nat) (q : Option Nat) (qgen : Nat) : Bool :=
  s.get FUNC_STATE.gen fn == fgen && (match q with
    | some q => s.get Q_STATE.gen q == qgen
    | none => true)

/-- Header of a request or completion that AER logs: length, requester, tag and address (R160). The Base
Specification lays the header out; the model records these fields (log entry 17). -/
def tlpHeader (kind len rid tag addr : Nat) : List Dword :=
  [BitVec.ofNat 32 (kind * 2 ^ 24 + (ceilDiv len 4) % 1024), BitVec.ofNat 32 (rid * 65536 + tag % 256 * 256 + 0xFF),
   BitVec.ofNat 32 (addr / 2 ^ 32), BitVec.ofNat 32 addr]

end Sys2Proof.Machine
end

