-- ==== Sys2Proof/Machine/PegOps.lean ====
section
/-! DEFINITION. The Peg aggregator: raising, delivery, holding and release of interrupts (R376 to R388), and the MSI
form of the compatibility view (R179). -/

namespace Sys2Proof.Machine

/-! ### MSI-X table entries (R384, R385) -/

/-- Key of dword `j` of entry `e` of function `f`. -/
def msixKey (f e j : Nat) : Nat := (f * 2048 + e) * 4 + j

/-- Reset of an entry's dword: address and data 0, masked (R385). -/
def msixReset (key : Nat) : Dword := if key % 4 = 3 then 1 else 0

/-- Dword as stored. -/
def State.msixWord (s : State) (f e j : Nat) : Dword := Tbl.get (msixReset (msixKey f e j)) s.msix (msixKey f e j)

/-- State with that dword. -/
def State.setMsix (s : State) (f e j : Nat) (w : Dword) : State :=
  { s with msix := Tbl.set (msixReset (msixKey f e j)) s.msix (msixKey f e j) w }

/-- A pool vector backs entry `e` of function `f` (R384): vector numbers listed in the register table, or the factory
allocation of a PF. -/
def State.backed (s : State) (f e : Nat) : Bool :=
  let factory := f < 4 && decide (e < 2048) && !s.hurt .PEG_VMAP (2048 * f + e) && s.on PEG_VMAP.assigned (2048 * f + e)
    && s.get PEG_VMAP.function_ (2048 * f + e) == f && s.get PEG_VMAP.entry (2048 * f + e) == e
  factory || s.regs.any (fun x => x.1 % 256 == RegKind.PEG_VMAP.code && getBits x.2 0 10 == f && getBits x.2 10 11 == e
    && getBits x.2 21 1 == 1 && !s.hurt .PEG_VMAP (x.1 / 256))

/-- Pending bit of entry `e` of function `f`. -/
def State.pbaBit (s : State) (f e : Nat) : Bool := s.pba.contains (f * 2048 + e)
def State.setPba (s : State) (f e : Nat) (b : Bool) : State :=
  { s with pba := if b then insertNat (f * 2048 + e) s.pba else s.pba.filter (fun k => k != f * 2048 + e) }

/-- The function and its link let an interrupt out: Bus Master Enable, D0, link neither in L2 or L3 nor down (R381). -/
def State.canMaster (s : State) (f : Nat) : Bool :=
  s.isUp && s.master f && !s.hostGone (fnPort f) && !(s.host (fnPort f)).pmOff && !s.on FUNC_STATE.flr_active f

/-- Entry `e` of function `f` can send (R381). -/
def State.canSend (s : State) (f e : Nat) : Bool :=
  s.canMaster f && s.cfgBit f 0xB0 31 && !s.cfgBit f 0xB0 30 && !(s.msixWord f e 3).getLsbD 0

/-- Sends the message of an entry (R383). A link in L1 is woken (R92, R381). -/
def State.sendMessage (s : State) (f e : Nat) : State :=
  let a := (s.msixWord f e 0).toNat + 2 ^ 32 * (s.msixWord f e 1).toNat
  let s := s.hostWrite f none a (leBytes 4 (s.msixWord f e 2).toNat)
  s.bump (hostCtr (fnPort f) 0)

/-! ### MSI of the compatibility view (R179). Its registers are kept at configuration offsets 0xD0 to 0xE4. -/

/-- Vectors the host has enabled, as a log2 (R179, R181). -/
def State.msiLog2 (s : State) : Nat := min 5 (s.cfgGet 0 0xD0 20 3)

/-- Vector actually sent for vector `v`. -/
def State.msiVector (s : State) (v : Nat) : Nat := v % 2 ^ s.msiLog2

/-- MSI vector `v` can send. -/
def State.msiCanSend (s : State) (v : Nat) : Bool :=
  s.canMaster 0 && s.cfgBit 0 0xD0 16 && !s.cfgBit 0 0xE0 v

/-- Sends MSI vector `v`, already reduced. -/
def State.sendMsi (s : State) (v : Nat) : State :=
  let a := s.cfgGet 0 0xD4 0 32 + 2 ^ 32 * s.cfgGet 0 0xD8 0 32
  let d := s.cfgGet 0 0xDC 0 16
  let m := 2 ^ s.msiLog2
  let s := s.hostWrite 0 none a (leBytes 4 (d / m * m + v))
  s.bump (hostCtr 0 0)

/-- Delivers MSI vector `v`: sent, or its Pending bit is set. Answers whether it was sent. -/
def State.deliverMsi (s : State) (v : Nat) : Bool × State :=
  let w := s.msiVector v
  if s.msiCanSend w then (true, s.sendMsi w)
  else (false, (s.cfgPut 0 0xE4 w 1 1).bump (hostCtr 0 1))

/-- Delivers the message of entry `e` of function `f`: sent, or held in the PBA (R381, R386). Answers whether sent. -/
def State.deliverMsix (s : State) (f e : Nat) : Bool × State :=
  if s.canSend f e && s.backed f e then (true, s.sendMessage f e)
  else (false, (s.setPba f e true).bump (hostCtr (fnPort f) 1))

/-- WAKE_N is asserted for a message held because the host port is in L2, L3 or down, when PME is enabled (R93). -/
def State.wakeFor (s : State) (f : Nat) : State :=
  let h := fnPort f
  if s.hostGone h && s.cfgBit h 0x44 8 then s.modHost h (fun d => { d with wake := true }) else s

/-! ### Sources (R377 to R381) -/

/-- A source that acts on raises: enabled and undamaged (R377, R388). -/
def State.pegEnabled (s : State) (i : Nat) : Bool := s.on PEG_SRC_CTRL.enable i && !(s.peg i).bad

/-- Port counter of a source's port: that of JP2k under a scarfed port (R456). -/
def State.pegPort (s : State) (i : Nat) : Nat := s.lead (i / 256)

/-- The enabled flag of slot `t`, and its entry. -/
def State.slotOn (s : State) (i t : Nat) : Bool := (s.word .PEG_SRC_TGT i).getLsbD (16 * t + 15)
def State.slotEntry (s : State) (i t : Nat) : Nat := getBits (s.word .PEG_SRC_TGT i) (16 * t) 11

/-- A key joins those of a source: the earliest arbitration key, the earliest deadline (R379). -/
def mergeKey (d : PegDyn) (fresh : Bool) (key : Nat) (dl : Option Nat) (v : Option Nat) (after : Nat) : PegDyn :=
  let place := (v.map (fun v => [(v, after)])).getD []
  if fresh then { d with key := key, deadline := dl, vc := v.getD 0, behind := place }
  else { d with
    vc := v.getD d.vc
    behind := place ++ d.behind.filter (fun b => some b.1 != v)
    key := min d.key key
    deadline := match d.deadline, dl with
      | some a, some b => some (min a b)
      | some a, none => some a
      | none, b => b }

/-- A source whose delivery was held returns to pending: it keeps the keys of the held delivery, joined with those of raises that came
later while it was active, in state 3 (R188, R379). -/
def PegDyn.regain (d : PegDyn) (state : Nat) : PegDyn :=
  let d' := { d with heldOn := none, heldKey := none }
  match d.heldKey with
  | none => d'
  | some (k, dl) => if state = 3 then mergeKey d' false k dl none 0 else { d' with key := k, deadline := dl }

/-- The message of a source will pass the slices of the Peg aggregator and of its host port, which it wakes (R92). -/
def State.wakePeg (s : State) (i : Nat) : State := s.wakeSlices [1, fnPort (s.get PEG_SRC_CTRL.owner i)]

/-- Raises source `i`: with the wire deadline and the virtual channel of its frame, or by a register write (R377 to R379). -/
def State.raisePeg (s : State) (i : Nat) (dl v : Option Nat) : State :=
  let p := s.pegPort i
  if !s.pegEnabled i then s.bump (portCtr p 25)
  else
    let s := if (List.range 4).any (fun t => s.slotOn i t) || (s.compatFn (s.get PEG_SRC_CTRL.owner i)) then s else s.bump (portCtr p 26)
    let f := s.get PEG_SRC_CTRL.owner i
    let (k, s) := s.keyFor f dl
    let s := s.wakePeg i
    match s.get PEG_SRC_STATUS.state i with
    | 0 => (s.put PEG_SRC_STATUS.state i 1).modPeg i (fun d => mergeKey d true k.1 k.2.1 v s.nextId)
    | 2 => (s.put PEG_SRC_STATUS.state i 3).modPeg i (fun d => mergeKey d true k.1 k.2.1 v s.nextId)
    | _ => (s.bump (portCtr p 27)).modPeg i (fun d => mergeKey d false k.1 k.2.1 v s.nextId)

/-- auto_eos in effect: set, or a PF0 source in the compatibility view (R380). -/
def State.pegAuto (s : State) (i : Nat) : Bool := s.on PEG_SRC_CTRL.auto_eos i || s.compatFn (s.get PEG_SRC_CTRL.owner i)

/-- End of service of source `i` (R378, R380). -/
def State.eosPeg (s : State) (i : Nat) : State :=
  if s.pegAuto i then s
  else match s.get PEG_SRC_STATUS.state i with
    | 2 => s.put PEG_SRC_STATUS.state i 0
    | 3 => (s.put PEG_SRC_STATUS.state i 1).wakePeg i
    | _ => s

/-- Enabled slots in rotation after `last_target` (R381). -/
def State.slotOrder (s : State) (i : Nat) : List Nat :=
  let l := s.get PEG_SRC_STATUS.last_target i
  ((List.range 4).map (fun k => (l + 1 + k) % 4)).filter (fun t => s.slotOn i t)

/-- A pending source has somewhere to deliver to; a PF0 source of JP12 and beyond has no vector in the compatibility view
(R177, R179). A source that is no longer enabled takes no raise, and delivers what it has (R377, R388). -/
def State.pegDeliverable (s : State) (i : Nat) : Bool :=
  s.get PEG_SRC_STATUS.state i == 1
    && (if s.compatFn (s.get PEG_SRC_CTRL.owner i) then decide (i / 256 < 12) else !(s.slotOrder i).isEmpty)

/-- Delivers pending source `i` (R378, R381): to the first slot that can send, else held on the first enabled slot. -/
def State.deliverPeg (s : State) (i : Nat) : State :=
  let f := s.get PEG_SRC_CTRL.owner i
  let d := s.peg i
  let finishIt (sent : Bool) (entry : Option Nat) (s : State) : State :=
    let s := s.put PEG_SRC_STATUS.state i (if s.pegAuto i then 0 else 2)
    let s := (s.flag PEG_SRC_STATUS.held i (!sent)).put PEG_SRC_STATUS.last_devtime i s.devtime
    let s := match d.deadline with
      | some k => if sent then s.missAt k f 6 (s.pegPort i) d.vc [portCtr (s.pegPort i) 24] else s
      | none => s
    s.setPeg i (if sent then { PegDyn.reset with bad := d.bad }
      else { d with heldOn := entry, heldKey := some (d.key, d.deadline), key := 0, deadline := none })
  if s.compatFn f then
    let w := s.msiVector (12 + i / 256)
    let (sent, s) := s.deliverMsi (12 + i / 256)
    finishIt sent (some w) (if sent then s else s.wakeFor f)
  else
    match s.slotOrder i with
    | [] => s
    | t0 :: _ =>
      let t := ((s.slotOrder i).find? (fun t => s.canSend f (s.slotEntry i t) && s.backed f (s.slotEntry i t))).getD t0
      let e := s.slotEntry i t
      let (sent, s) := s.deliverMsix f e
      let s := if sent then s else s.wakeFor f
      finishIt sent (some e) (s.put PEG_SRC_STATUS.last_target i t)

/-! ### Completion vectors (R250) -/

/-- A completion vector joins the Peg output; it wakes the slices of the Peg aggregator and of its host port (R92). -/
def State.askVector (s : State) (q key : Nat) (tagged : Bool) : State :=
  { s with vecs := s.vecs ++ [VecReq.mk q key tagged] }.wakeSlices [1, fnPort (s.get Q_CFG.owner q)]

/-- Delivers the completion vector of queue `q`: entry cq_vector of its owner, or vector q in the compatibility view, where
only QP0 to QP11 have one (R177, R179). A queue whose cq_vec_en is 0 sends nothing (R250). -/
def State.deliverVector (s : State) (q : Nat) : State :=
  let f := s.get Q_CFG.owner q
  if !s.on Q_RING.cq_vec_en q ∨ (s.compatFn f ∧ 12 ≤ q) then s
  else if s.compatFn f then
    let (sent, s) := s.deliverMsi q
    if sent then s else s.wakeFor f
  else
    let e := s.get Q_CFG.cq_vector q
    let (sent, s) := s.deliverMsix f e
    if sent then s else (s.modQueue q (fun d => { d with vecOn := some e })).wakeFor f

/-- The message of table entry `e` of function `f`, or of an MSI vector of the compatibility view, is held and can be sent now. -/
def State.heldReady (s : State) (f e : Nat) : Bool :=
  if s.compatFn f then s.cfgBit 0 0xE4 e && s.msiCanSend e else s.pbaBit f e && s.canSend f e && s.backed f e

/-- Held messages of function `f` that can be sent now, in ascending entry order (R382). -/
def State.heldEntries (s : State) (f : Nat) : List Nat :=
  if s.compatFn f then (List.range 32).filter (s.heldReady f)
  else ((s.pba.filter (fun k => k / 2048 == f)).map (fun k => k % 2048)).filter (s.heldReady f)

/-- Held messages of function `f` that have become able to send are released to the Peg output, in ascending entry order, each untagged
with its entry time now; one that has become unable again stays held (R277, R279, R382). They wake the slices they pass (R92). -/
def State.freeHeld (s : State) (f : Nat) : State :=
  let keep := s.freed.filter (fun m => m.f != f || s.heldReady m.f m.e)
  let new := (s.heldEntries f).filter (fun e => !keep.any (fun m => m.f == f && m.e == e))
  if new.isEmpty then { s with freed := keep }
  else { s with freed := keep ++ new.map (fun e => FreedMsg.mk f e (s.implicitKey f)) }.wakeSlices [1, fnPort f]

/-- A released message is sent: its pending bit goes, and the sources and queues held there are held no longer (R382). -/
def State.sendFreed (s : State) (f e : Nat) : State :=
  let s := if s.compatFn f then (s.sendMsi e).cfgPut 0 0xE4 e 1 0 else (s.sendMessage f e).setPba f e false
  let mine := s.pegs.filter (fun x => x.2.heldOn == some e && s.get PEG_SRC_CTRL.owner x.1 == f)
  let s := s.each mine (fun s x => (s.flag PEG_SRC_STATUS.held x.1 false).modPeg x.1 (fun d => { d with heldOn := none, heldKey := none }))
  let qs := s.queues.filter (fun x => x.2.vecOn == some e && s.get Q_CFG.owner x.1 == f)
  s.each qs (fun s x => s.modQueue x.1 (fun d => { d with vecOn := none }))

/-- Sources in state pending: an unlisted status register reads idle. -/
def State.pendingPegs (s : State) : List Nat :=
  s.regs.filterMap (fun e => if e.1 % 256 = RegKind.PEG_SRC_STATUS.code ∧ getBits e.2 0 2 = 1 then some (e.1 / 256) else none)

/-- Requests of the device that came before the raises on their channels, for the same function, have gone to the host: its writes (R383),
and its reads (R365). -/
def State.pegClear (s : State) (i : Nat) : Bool :=
  let f := s.get PEG_SRC_CTRL.owner i
  let d := s.peg i
  (s.host (fnPort f)).waiting.all (fun r => !(!r.fromHost && r.fn == f && r.p == s.pegPort i && d.behind.any (fun b => r.v == b.1 && decide (r.id < b.2))))

/-- The slices of the Peg aggregator and of the host port of function `f` run (R25, R95). -/
def State.pegOpen (s : State) (f : Nat) : Bool := s.slicesOpen [1, fnPort f]

/-- Released messages that may go: the first of each function, while it can still be sent and the slices it passes run (R382). -/
def State.freedHeads (s : State) : List FreedMsg :=
  (s.freed.foldl (fun hs m => if hs.any (fun x => x.f == m.f) then hs else hs ++ [m]) ([] : List FreedMsg)).filter
    (fun m => s.heldReady m.f m.e && s.pegOpen m.f)

/-- Place of a released message in the rotation. DESIGN CHOICE: behind the sources, by function and entry (log entry 70). -/
def FreedMsg.id (m : FreedMsg) : Nat := 28672 + 2048 * m.f + m.e

/-- Candidates at the Peg output: completion vectors first by queue, then sources by global index (R279), then released messages. -/
def State.pegCands (s : State) : List Cand :=
  (s.vecs.filter (fun v => s.pegOpen (s.get Q_CFG.owner v.q))).map (fun v => ⟨v.q, v.key, v.tagged⟩)
    ++ (s.pendingPegs.filter (fun i => s.pegDeliverable i && s.pegClear i && s.pegOpen (s.get PEG_SRC_CTRL.owner i))).map
      (fun i => ⟨4096 + i, (s.peg i).key, (s.peg i).deadline.isSome⟩)
    ++ s.freedHeads.map (fun m => ⟨m.id, m.key, false⟩)

/-- One grant of the Peg output (R279, R383). -/
def State.pegGrant (s : State) : State :=
  match s.arbitrate pointPeg s.pegCands with
  | none => s
  | some i =>
    let s := s.servedAt pointPeg i
    if i < 4096 then
      match s.vecs.find? (fun v => v.q == i) with
      | some v => { s with vecs := s.vecs.erase v }.deliverVector i
      | none => s
    else if i < 28672 then s.deliverPeg (i - 4096)
    else
      match s.freedHeads.find? (fun m => m.id == i) with
      | some m => { s with freed := s.freed.erase m }.sendFreed m.f m.e
      | none => s

/-- The released messages of function `f` go, as long as each is the candidate that the Peg output grants next. The fuel is their
number (R279, R382). -/
def State.grantFreed (s : State) (f : Nat) : Nat → State
  | 0 => s
  | fuel + 1 =>
    match s.arbitrate pointPeg s.pegCands with
    | some i => if s.freedHeads.any (fun m => m.f == f && m.id == i) then s.pegGrant.grantFreed f fuel else s
    | none => s

/-- HELD_MESSAGE_RELEASE: what has become able to send is released, and goes in its turn (R382). -/
def State.releaseHeld (s : State) (f : Nat) : State :=
  let s := s.freeHeld f
  s.grantFreed f (s.freed.filter (fun m => m.f == f)).length

/-- Discards the interrupt state of a function: pending bits, held messages, queued vectors, and its sources return to
idle with last_target 3 (R387). The sources' plain fields are reset by the register reset of the same event. -/
def State.clearInterrupts (s : State) (f : Nat) : State :=
  let mine := s.pegs.filter (fun x => s.get PEG_SRC_CTRL.owner x.1 == f)
  let s := s.each mine (fun s x => s.modPeg x.1 (fun d => { PegDyn.reset with bad := d.bad }))
  let s := { s with
    pba := s.pba.filter (fun k => k / 2048 != f)
    vecs := s.vecs.filter (fun v => s.get Q_CFG.owner v.q != f)
    freed := s.freed.filter (fun m => m.f != f) }
  if s.compatFn f then s.cfgPut 0 0xE4 0 32 0 else s

end Sys2Proof.Machine
end

