-- ==== Sys2Proof/Machine/Joist.lean ====
section
/-! DEFINITION. The sending side of a Joist port: link words, the
egress of R279, the window and replay buffer (R324 to R335, R352 to R356). -/

namespace Sys2Proof.Machine

/-! ### Port states that sending needs (R341 to R344) -/

/-- Time a port may train, in ns (R347). -/
def State.trainNs (s : State) (p : Nat) : Nat := s.get JP_TIMER1.train_100us p * 100000

/-- LOCK_LOSS_TIME in ns. -/
def State.lockLossNs (s : State) (p : Nat) : Nat := s.get JP_TIMER0.lock_loss_us p * 1000

/-- Timers of a port's link that stop when it leaves up. -/
def linkTimer (p : Nat) : Timer → Bool
  | .replay q | .pmReply q | .dozeIdle q | .sleepIdle q | .idleInterval q | .laneSet q | .relock q | .timeFrame q
  | .txMask q | .lockLoss q | .doze q | .merger q => p == q
  | _ => false

/-- The port and its bay may return to service (R399). -/
def State.portMayServe (s : State) (p : Nat) : Bool := s.mayServe (4 + p) && s.mayServe (100 + p / 4)

/-- Nothing of a session is left in a port's unit streams (R321, R325, R339, R372). -/
def PortDyn.freshStream (d : PortDyn) : PortDyn :=
  { d with lost := false, skip := 0, partial_ := [], headUsed := none, mergeFrom := none, rxNext := none, unitMask := 3, maskDue := none,
           txq := [], txCut := 0 }

/-- The port enters training (R310, R341, R342): lanes train, nothing of an earlier session is kept. A port that is held, or
on its way to be held, stays as it is (R399). -/
def State.startTraining (s : State) (p : Nat) : State :=
  if !s.portMayServe p then s else
  let s := (((s.put JP_STATUS.link_state p 2).put JP_CTRL.retrain p 0).put JP_STATUS.tx_doze p 0).put JP_STATUS.rx_doze p 0
  let s := s.each (s.members p) (fun s m => s.modPort m (fun d => { d.freshStream with
    idleSeen := false, opened := false, rxOpen := false, sleepReq := false, sleepAck := false, tone := false, excluded := none
    mismatched := false }))
  let s := s.each (s.portLanes p) State.bringUpLane
  s.arm (.training p) (s.trainNs p)

/-- A sleeping port whose bay runs wakes (R94, R313, R344): woken by the far end's tone it trains at once; otherwise its
lanes send the wake tone until training arrives. LOCK_LOSS_TIME begins. -/
def State.trainWoken (s : State) (p : Nat) : State :=
  if (s.port p).waking && s.get JP_STATUS.link_state p == 4 && s.bayState (bayOf p) == 0 then
    let s := if s.armed (.wake p) then s else s.arm (.wake p) (s.lockLossNs p)
    if (s.port p).tone then s.each (s.portLanes p) (fun s l => s.put JL_STATUS.state l 3)
    else s.startTraining p
  else s

/-- A request or a frame wakes a sleeping port, its bay and its slice (R92). -/
def State.wakePort (s : State) (p : Nat) : State :=
  let s := s.wakeRegion (30 + sliceOf p)
  if s.get JP_STATUS.link_state p == 4 && !(s.port p).waking then
    ((s.modPort p (fun d => { d with waking := true, tone := true })).wakeRegion (bayOf p)).trainWoken p
  else s.wakeRegion (bayOf p)

/-! ### Words of a frame (R324, R352) -/

/-- Current link word of a port for a frame of a kind: its ack, hold and req_mask are those of now. -/
def State.linkWord (s : State) (p kind len vc seq : Nat) : Word :=
  let ack := (s.get JP_SEQ.rx_expected p + 4095) % 4096
  let w := setBits (setBits (setBits (setBits 0 0 4 kind) 4 13 len) 17 3 vc) 20 12 seq
  let w := setBits (setBits w 32 12 ack) 44 8 (s.get JP_STATUS.own_hold p)
  setBits w 52 2 (s.get JP_STATUS.req_mask p)

/-- Word A of a frame (R352). -/
def wordA (f : Frame) : Word :=
  let w := setBits (setBits (setBits 0 0 4 f.type) 4 1 (b2n f.deadline.isSome)) 5 1 (b2n f.sparse)
  let w := setBits (setBits (setBits w 6 1 (b2n f.last)) 8 8 f.be) 16 16 (f.deadline.getD 0)
  setBits (setBits (setBits w 32 11 f.tag) 43 4 f.status) 48 13 f.rdLen

/-- Word B of a frame (R352, R364). -/
def wordB (f : Frame) : Word :=
  if f.type = 5 then BitVec.ofNat 64 f.addr
  else if f.type = 3 then setBits 0 48 12 f.offset
  else setBits 0 0 48 f.addr

/-- A frame with every field 0 but its type and virtual channel. -/
def Frame.blank (type vc : Nat) : Frame :=
  { vc := vc, type := type, deadline := none, sparse := false, be := 0, last := false, tag := 0, status := 0, rdLen := 0,
    addr := 0, offset := 0, payload := [] }

/-! ### Units of a frame (R323, R338, R344, R370) -/

/-- A unit of two words. -/
def unit16 (lo hi : Word) : BitVec 128 := hi ++ lo

/-- Units of a payload, padded with zeros. -/
def payloadUnits (bs : List Byte) : List (BitVec 128) :=
  (List.range (ceilDiv bs.length 16)).map (fun i => BitVec.ofNat 128 (leNat ((bs.drop (16 * i)).take 16)))

/-- Units of a DATA frame: the link word with word A, its copy with word B, the payload. -/
def dataUnits (link : Word) (f : Frame) : List (BitVec 128) :=
  unit16 link (wordA f) :: unit16 (setBits link 63 1 1) (wordB f) :: payloadUnits f.payload

/-- Units of an IDLE frame. -/
def idleUnits (link : Word) : List (BitVec 128) := [unit16 link (setBits link 63 1 1)]

/-- A frame of an odd number of units on a scarfed port: a zero unit ends a DATA frame, a frame of one unit is repeated (R370). -/
def evenUnits (us : List (BitVec 128)) : List (BitVec 128) :=
  match us with
  | [u] => [u, u]
  | us => if us.length % 2 = 1 then us ++ [0] else us

/-- A frame's units join the stream that a port sends. -/
def State.queueUnits (s : State) (p : Nat) (us : List (BitVec 128)) : State :=
  s.modPort p (fun d => { d with txq := d.txq ++ [if s.scarfed p then evenUnits us else us] })

/-! ### Egress (R279, R281, R329, R334, R335) -/

/-- Paths are told apart by function, virtual channel and direction. -/
def samePath (a b : EgFrame) : Bool := a.fn == b.fn && a.frame.vc == b.frame.vc && a.fromHost == b.fromHost

/-- Heads of the paths at an egress, each with the earliest key of its path (R281). -/
def egressHeads (es : List EgFrame) : List (EgFrame × Nat) :=
  (es.foldl (fun hs e => if hs.any (fun x => samePath x e) then hs else hs ++ [e]) []).map
    (fun h => (h, (es.filter (samePath h)).foldl (fun k e => min k e.key) h.key))

/-- Hold marks of the far end stop requests and Peg frames, never completions or TIME (R334, R353). -/
def State.egressHeld (s : State) (p : Nat) (f : Frame) : Bool :=
  (f.type == 1 || f.type == 2) && natBit (s.get JP_STATUS.far_hold p) f.vc

/-- While a receive channel is near its hold mark, no frame starts with more than 256 bytes (R335). -/
def State.shortFrames (s : State) (p : Nat) : Bool :=
  (List.range (s.vcCount p)).any (fun v => decide (s.freeSpace p v < s.skid p + 8192))

/-- First part of a frame cut at `n` bytes, and the rest (R335, R346, R356, R360). -/
def cutFrame (n : Nat) (f : Frame) : Frame × Option Frame :=
  if f.payload.length ≤ n ∨ f.sparse then (f, none)
  else
    ({ f with payload := f.payload.take n, last := false },
     some { f with payload := f.payload.drop n, addr := f.addr + n, offset := f.offset + n })

/-- Origin of the first `n` bytes of a frame that is cut, and of the rest: each part of an engine write is a write of its own. -/
def Origin.firstPart (n : Nat) : Origin → Origin
  | .windowWrite id fn key tg _ => .windowWrite id fn key tg false
  | .engineWrite e q piece ofs _ => .engineWrite e q piece ofs n
  | o => o
def Origin.laterPart (n : Nat) : Origin → Origin
  | .engineWrite e q piece ofs len => .engineWrite e q piece (ofs + n) (len - n)
  | o => o

/-- The first `n` bytes of an unacknowledged write, and the rest, when a frame of it is cut (R255, R268). -/
def Unacked.split (n : Nat) (u : Unacked) : List Unacked :=
  [{ u with len := n }, { u with ofs := u.ofs + n, len := u.len - n, addr := u.addr + n }]

/-- An engine write is cut at `n` bytes: its parts are accepted or dropped each by itself. -/
def State.splitWrite (s : State) (n : Nat) (o : Origin) : State :=
  match o with
  | .engineWrite _ q piece ofs _ => s.modQueue q (fun d => { d with
      unacked := d.unacked.flatMap (fun u => if u.piece == piece && u.ofs == ofs then u.split n else [u]) })
  | _ => s

/-- Largest payload of a frame that starts now: the local maximum payload, or 256 bytes near a hold mark (R335, R346). -/
def State.frameLimit (s : State) (p : Nat) : Nat := if s.shortFrames p then 256 else s.localMax p

/-- Lowest module tag of a port that is not in use (R357). -/
def State.freeLTag (s : State) (p : Nat) : Option Nat :=
  (List.range (if s.scarfed p then 2048 else 1024)).find? (fun t => (find1 t (s.port p).ltags).isNone)

/-- The later part of a read that is cut at `n` bytes. -/
def LPurpose.later (n : Nat) : LPurpose → LPurpose
  | .window id ofs => .window id (ofs + n)
  | .engine e pos => .engine e (pos + n)
  | .dropped => .dropped

/-- A waiting RD of more than the local maximum payload, which a commit has lowered, is cut at `n` bytes: its later part is an RD of its
own behind it, with tag `t` (R346, R356, R357). -/
def State.cutRd (s : State) (p n t : Nat) (e : EgFrame) : State :=
  match find1 e.frame.tag (s.port p).ltags with
  | none => s
  | some x =>
    let first : EgFrame := { e with frame := { e.frame with rdLen := n } }
    let later : EgFrame := { e with frame := { e.frame with rdLen := e.frame.rdLen - n, addr := e.frame.addr + n, tag := t } }
    let s := s.modPort p (fun d => { d with
      egress := d.egress.flatMap (fun y => if y = e then [first, later] else [y])
      ltags := put1 e.frame.tag { x with len := n } d.ltags
        ++ [(t, { x with addr := x.addr + n, len := x.len - n, purpose := x.purpose.later n })] })
    match x.purpose with
    | .engine g pos => s.modEng g (fun d => { d with
        reads := d.reads.flatMap (fun r => if r.1 = pos then [(pos, n), (pos + n, r.2 - n)] else [r]) })
    | _ => s

/-- Cuts the RDs at an egress that are longer than the local maximum payload, as far as tags are free. The fuel is the number of cuts. -/
def State.cutRds (s : State) (p : Nat) : Nat → State
  | 0 => s
  | fuel + 1 =>
    match (s.port p).egress.find? (fun e => e.frame.type == 1 && !e.waits && decide (s.localMax p < e.frame.rdLen)), s.freeLTag p with
    | some e, some t => (s.cutRd p (s.localMax p) t e).cutRds p fuel
    | _, _ => s

/-- Size of the replay buffer (R329). -/
def State.replaySize (s : State) (p : Nat) : Nat := if s.scarfed p then 524288 else 262144

/-- The port may start new DATA frames: up, neither committed to sleep nor before a change of its tx_mask (R339), its bay running. -/
def State.mayStart (s : State) (p : Nat) : Bool :=
  s.get JP_STATUS.link_state p == 3 && !(s.port p).sleepAck && (s.port p).maskDue.isNone && s.open_ (bayOf p)

/-- Truss slices that a frame passes on its way to the port: those of its source and of the bay (R10 to R12). -/
def EgFrame.slices (p : Nat) (e : EgFrame) : List Nat :=
  match e.origin with
  | .time => []
  | .engineWrite g _ _ _ _ => [engSlice g, sliceOf p]
  | .engineRead g => [engSlice g, sliceOf p]
  | _ => if e.fn < 1024 then [fnPort e.fn, sliceOf p] else [sliceOf p]

/-- A path head is eligible at the egress: it waits for no reserve, no hold mark stops it, the slices it passes run, and an RD that a
lowered max_payload has made too long has been cut (R25, R95, R279, R346). -/
def State.egressEligible (s : State) (p : Nat) (e : EgFrame) : Bool :=
  !e.waits && (e.frame.type != 1 || decide (e.frame.rdLen ≤ s.localMax p)) && !s.egressHeld p e.frame && s.slicesOpen (e.slices p)

/-- Replay timeout in ns (R347). -/
def State.replayNs (s : State) (p : Nat) : Nat := s.get JP_TIMER0.replay_100ns p * 100

/-- Records the use of the replay buffer (R350). -/
def State.noteReplay (s : State) (p : Nat) : State :=
  (s.put JP_REPLAY.bytes p (s.replayBytes p)).put JP_REPLAY.frames p (s.port p).replay.length

/-- Puts a new DATA frame on the link: the next sequence number, a place in the replay buffer, the replay timer, and for
an RD the local response timer; a TIME frame takes DEVTIME at its start; the first completion of a tagged device read, unless it
ends without its host, is its measure of lateness (R285, R326, R329, R330, R358, R364). -/
def State.sendFrame (s : State) (p : Nat) (e : EgFrame) : State :=
  let f := if e.frame.type = 5 then { e.frame with addr := s.devtime } else e.frame
  let e := { e with frame := f }
  let q := s.get JP_SEQ.tx_next p
  let w := s.linkWord p 1 f.payload.length f.vc q
  let s := (s.emit (.frame p q w f)).queueUnits p (dataUnits w f)
  let s := (s.modPort p (fun d => { d with replay := d.replay ++ [(q, e)], ackDue := false })).put JP_SEQ.tx_next p (q + 1)
  let s := ((s.noteReplay p).bump (portCtr p 0)).armOnce (.replay p) (s.replayNs p)
  let s := ((s.arm (.idleInterval p) 256).disarm (.dozeIdle p)).disarm (.sleepIdle p)
  match f.type with
  | 1 => s.arm (.response p f.tag) (s.get JP_TIMER0.resp_us p * 1000)
  | 3 => if f.offset = 0 ∧ f.status ≠ 3 ∧ f.deadline.isSome ∧ e.fn < 1024 then s.missAt e.key e.fn 4 p f.vc [portCtr p 24] else s
  | 5 => s.bump (portCtr p 15)
  | _ => s

/-- A TIME frame of the module (R364). -/
def timeEg : EgFrame := { fn := 1024, fromHost := true, key := 0, frame := Frame.blank 5 0, origin := .time, waits := false }

/-- Ends transmit doze (R312, R343): a training period and an active period open on every lane, and a TIME frame goes first where one
fell due while dozing, or where TIME is sent on leaving doze alone (R364, R375). -/
def State.endDoze (s : State) (p : Nat) : State :=
  if s.on JP_STATUS.tx_doze p then
    let s := ((s.put JP_STATUS.tx_doze p 0).disarm (.doze p)).disarm (.dozeIdle p)
    let s := s.each (s.portLanes p) (fun s l =>
      (((s.leaveIdle l).sendMarker l 3).endTraining l).openActive l 0 (s.get JP_STATUS.tx_mask p))
    if (s.port p).timeDue || s.get JT_TIME_CTRL.period_us p == 0 then (s.modPort p (fun d => { d with timeDue := false })).sendFrame p timeEg else s
  else s

/-- Starts a new DATA frame, leaving doze first. -/
def State.startFrame (s : State) (p : Nat) (e : EgFrame) : State := (s.endDoze p).sendFrame p e

/-- Place of a frame's path in the rotation at the egress of JPp. -/
def EgFrame.path (p : Nat) (e : EgFrame) : Nat := pathId e.fn p e.frame.vc (!e.fromHost)

/-- The frame to start next at a port's egress: the one that waits for space, while it may go, else the best eligible path head (R279,
R329). -/
def State.egressPick (s : State) (p : Nat) : Option EgFrame :=
  let hs := (egressHeads (s.port p).egress).filter (fun h => s.egressEligible p h.1)
  match (s.port p).stalledOn.bind (fun i => hs.find? (fun h => h.1.path p == i)) with
  | some h => some h.1
  | none =>
    let cs := hs.map (fun h => Cand.mk (h.1.path p) h.2 h.1.frame.deadline.isSome)
    match s.arbitrate (pointEgress p) cs with
    | none => none
    | some i => (hs.find? (fun h => h.1.path p == i)).map (fun h => h.1)

/-- Starts one frame at a port's egress when one is eligible and fits; a frame that does not fit stalls the port until
acknowledgements free the space (R326, R329). Answers whether a frame was started. -/
def State.egressStep (s : State) (p : Nat) : Option State :=
  if !s.mayStart p then none
  else
    match s.egressPick p with
    | none => none
    | some e =>
      let n := s.frameLimit p
      let (f, rest) := cutFrame n e.frame
      let need := 32 + roundUp f.payload.length 16
      if s.replaySize p < s.replayBytes p + need ∨ 2048 ≤ (s.port p).replay.length then none
      else
        let s := s.modPort p (fun d => { d with
          egress := match rest with
            | none => d.egress.erase e
            | some r => d.egress.map (fun x => if x = e then { e with frame := r, origin := e.origin.laterPart n } else x)
          stalledOn := none })
        let s := if rest.isSome then s.splitWrite n e.origin else s
        let origin := if rest.isSome then e.origin.firstPart n else e.origin
        let s := s.servedAt (pointEgress p) (e.path p)
        some (s.startFrame p { e with frame := f, origin := origin })

/-- Starts frames while it can, `fuel` at most. -/
def State.pumpFrames (s : State) (p : Nat) : Nat → State
  | 0 => s
  | fuel + 1 =>
    match s.egressStep p with
    | some t => t.pumpFrames p fuel
    | none => s

/-- A frame waits for window or replay space: JP_REPLAY.stalled (R329). -/
def State.noteStall (s : State) (p : Nat) : State :=
  let on := if s.mayStart p then s.egressPick p else none
  (s.flag JP_REPLAY.stalled p on.isSome).modPort p (fun d => { d with stalledOn := on.map (EgFrame.path p) })

/-- Lets a port's egress run as far as it can. -/
def State.pump (s : State) (p : Nat) : State :=
  let s := s.cutRds p ((s.port p).egress.map (fun e => e.frame.rdLen / 256)).sum
  let n := ((s.port p).egress.map (fun e => 1 + e.frame.payload.length / 256)).foldl (· + ·) 0
  (s.pumpFrames p n).noteStall p

/-- A frame joins a port's egress; the port and the slices it passes are woken when they sleep (R92, R95). -/
def State.enqueue (s : State) (p : Nat) (e : EgFrame) : State :=
  let s := s.modPort p (fun d => { d with egress := d.egress ++ [e] })
  ((s.wakePort p).wakeSlices (e.slices p)).pump p

/-! ### Quiet ports (R343, R344) -/

/-- The transmit direction may doze (R343): nothing to send or to acknowledge. -/
def State.dozeReady (s : State) (p : Nat) : Bool :=
  let d := s.port p
  s.get JP_STATUS.link_state p == 3 && !s.on JP_STATUS.tx_doze p && s.on JP_TIMER1.doze_100ns p && d.egress.isEmpty
    && d.replay.isEmpty && !d.ackDue

/-- The port meets the sleep conditions (R89): nothing is outstanding or waiting. -/
def State.sleepReady (s : State) (p : Nat) : Bool :=
  let d := s.port p
  s.get JP_STATUS.link_state p == 3 && s.on JP_TIMER1.sleep_us p && d.egress.isEmpty && d.replay.isEmpty
    && d.ltags.isEmpty && d.dtags.isEmpty && d.reads.isEmpty && d.ingress.isEmpty && !d.sleepReq && !d.sleepAck

/-- Starts or stops the idle timers as the port is quiet or not. -/
def State.quiet (s : State) (p : Nat) : State :=
  let s := if s.dozeReady p then s.armOnce (.dozeIdle p) (s.get JP_TIMER1.doze_100ns p * 100) else s.disarm (.dozeIdle p)
  if s.sleepReady p then s.armOnce (.sleepIdle p) (s.get JP_TIMER1.sleep_us p * 1000) else s.disarm (.sleepIdle p)

/-- A link word leaves: it carries the current ack. -/
def State.noteAck (s : State) (p : Nat) : State :=
  (s.modPort p (fun d => { d with ackDue := false })).arm (.idleInterval p) 256

/-- Sends an IDLE frame (R328); it ends doze (R343). Before a change of the tx_mask no frame follows LANE_SET (R339). -/
def State.sendIdle (s : State) (p : Nat) : State :=
  let s := s.endDoze p
  let w := s.linkWord p 2 0 0 0
  if (s.port p).maskDue.isSome then s
  else (((s.emit (.idle p w)).queueUnits p (idleUnits w)).noteAck p).quiet p

/-- Judges the holds and sends a change at once (R335). -/
def State.holdsChanged (s : State) (p : Nat) : State :=
  let old := s.get JP_STATUS.own_hold p
  let s := s.judgeHolds p
  if s.get JP_STATUS.own_hold p ≠ old ∧ s.get JP_STATUS.link_state p = 3 then s.sendIdle p else s

/-- Logs a transaction event of a port (R362, R375). -/
def State.jtLog (s : State) (p status kind tag vc type addr : Nat) : State :=
  let s := ((s.put JT_ERR_LOG.status p status).put JT_ERR_LOG.kind p kind).put JT_ERR_LOG.tag p tag
  let s := ((s.put JT_ERR_LOG.vc p vc).put JT_ERR_LOG.type p type).put JT_ERR_LOG.valid p 1
  (s.put JT_ERR_LOG.devtime_lo p s.devtime).put JT_ERR_ADDR.addr p addr

/-- The byte enables of the dwords of a request as a list of one Bool for each byte (R212). -/
def enables (dws firstBe lastBe : Nat) : List Bool :=
  (List.range (4 * dws)).map (fun i =>
    if i < 4 then natBit firstBe i
    else if 4 * (dws - 1) ≤ i then natBit lastBe (i % 4)
    else true)

/-- First enabled byte, and one past the last. -/
def enabledSpan (bs : List Bool) : Option (Nat × Nat) :=
  match bs.findIdx? (fun b => b) with
  | none => none
  | some i => some (i, bs.length - (bs.reverse.findIdx? (fun b => b)).getD 0)

/-- The enabled bytes are contiguous. -/
def contiguous (bs : List Bool) (a b : Nat) : Bool := ((bs.drop a).take (b - a)).all (fun x => x)

/-- Mask of the 8-byte block at offset `o` of the enables. -/
def beMask (bs : List Bool) (o : Nat) : Nat :=
  (List.range 8).foldl (fun m i => m + b2n (bs.getD (o + i) false) * 2 ^ i) 0

end Sys2Proof.Machine
end

