-- ==== Sys2Proof/Machine/WindowOps.lean ====
section
/-! DEFINITION. BAR4 windows: lookup, reads, writes, reserve and down-port results (R149, R210 to R220, R288). -/

namespace Sys2Proof.Machine

/-- Size of a function's BAR4 (R168, R178). -/
def State.bar4Size (s : State) (f : Nat) : Nat :=
  if s.compatFn f then 2 ^ 34
  else if f < 4 then 2 ^ (20 + s.cfgGet f 0x16C 8 6)
  else 2 ^ (20 + s.cfgGet (fnPf f) 0x178 8 6)

/-- Base address of a function's BAR4 (R167, R173, R213): VF h.n follows the VF BAR4 base of its PF by n - 1 sizes. -/
def State.bar4Base (s : State) (f : Nat) : Nat :=
  let wide (o : Nat) : Nat := s.cfgGet (fnPf f) o 4 28 * 16 + 2 ^ 32 * s.cfgGet (fnPf f) (o + 4) 0 32
  if f < 4 then wide 0x20 else wide 0x1B0 + (fnVf f - 1) * s.bar4Size f

/-- Offset in the aperture of a host address, when the BAR4 of `f` holds the request (R160, R213). -/
def State.bar4Off (s : State) (f addr len : Nat) : Option Nat :=
  if s.bar4Base f ≤ addr ∧ addr + len ≤ s.bar4Base f + s.bar4Size f then some (addr - s.bar4Base f) else none

/-- The function answers memory requests (R148, R160, R166, R194). -/
def State.memEnabled (s : State) (f : Nat) : Bool :=
  s.isUp && s.existsFn f && s.on FUNC_STATE.mse f && !s.on FUNC_STATE.flr_active f && !s.on FUNC_STATE.d3hot f
    && !(s.func f).clearing

/-- Function whose AER logs an error of a request for `f`: the PF where the VF does not exist (R160). -/
def State.logFn (s : State) (f : Nat) : Nat := if s.existsFn f then f else fnPf f

/-- Unsupported Request for a non-posted request (R160). -/
def State.answerUr (s : State) (f reqTag off len : Nat) : State :=
  let h := fnPort f
  let s := s.emitTlp f (.completion h f reqTag .unsupported [])
  s.aerUnc (s.logFn f) 20 (some (tlpHeader 0 len 0 reqTag off)) true

/-- Unsupported Request for a posted request: discarded (R160). -/
def State.dropUr (s : State) (f off len : Nat) : State :=
  s.aerUnc (s.logFn f) 20 (some (tlpHeader 0x40 len 0 0 off)) true

/-- First byte and one past the last byte of a segment's source range. -/
def State.segSrc (s : State) (n : Nat) : Nat := s.get SEG_SRC.src_base n * 4096
def State.segLen (s : State) (n : Nat) : Nat := (s.get SEG_LEN.pages_m1 n + 1) * 4096
def State.segDst (s : State) (n : Nat) : Nat := s.get SEG_DST.dst_base n * 4096

/-- A port that function `f` can reach: PF0 reaches JP0 to JP11 alone in the compatibility view (R3, R177). -/
def State.reachesPort (s : State) (f p : Nat) : Bool := !s.compatFn f || decide (p < 12)

/-- The window segment of `f` whose BAR4 range holds `off` (R210). -/
def State.windowSeg (s : State) (f off : Nat) : Option Nat :=
  (s.segmentsOf f).find? (fun n => s.get SEG_CTRL.kind n == 0 && s.reachesPort f (s.get SEG_CTRL.port n)
    && decide (s.segSrc n ≤ off) && decide (off < s.segSrc n + s.segLen n))

/-- Outcome of a lookup (R210, R211). -/
inductive Lookup where
  | miss
  | denied
  | unavailable (seg : Nat)
  | found (seg : Nat)
  deriving DecidableEq, Repr

/-- Looks up an access at offset `off` of `f`'s aperture. -/
def State.lookup (s : State) (f off : Nat) (write : Bool) : Lookup :=
  match s.windowSeg f off with
  | none => .miss
  | some n =>
    if s.on SEG_CTRL.poisoned n then .miss
    else if !(if write then s.on SEG_CTRL.wr n else s.on SEG_CTRL.rd n) then .denied
    else if !s.portAvailable (s.get SEG_CTRL.port n) then .unavailable n
    else .found n

/-- Region base of a port in bytes: that of PRT2k under a scarfed port (R202, R204). -/
def State.regionBase (s : State) (p : Nat) : Nat := s.get PRT_BASE.base (s.lead p) * 4096

/-- Port address of aperture offset `off` through segment `n` (R210). -/
def State.portAddr (s : State) (n off : Nat) : Nat :=
  s.segDst n + (off - s.segSrc n) - s.regionBase (s.get SEG_CTRL.port n)

/-- Key of a BAR4 access through segment `n`: tagged when dl_valid is 1 (R210, R277). -/
def State.accessKey (s : State) (f n : Nat) : (Nat × Bool) × State :=
  if s.on SEG_CTRL.dl_valid n then
    let (r, s) := s.tagKey f (s.now64 + s.get SEG_SRC.dl_default n)
    ((r.1, true), s)
  else ((s.implicitKey f, false), s)

/-- Wire deadline of a key (R276). -/
def wireDeadline (tagged : Bool) (key : Nat) : Option Nat := if tagged then some (key % 65536) else none

/-- Requests on the local side cut from an access: offset from the first dword, length, sparse enables (R212, R355). -/
def localParts (lim paddr : Nat) (bs : List Bool) : List (Nat × Nat × Option Nat) :=
  match enabledSpan bs with
  | none => []
  | some (a, b) =>
    if contiguous bs a b then (cutRange lim (b - a) (paddr + a) a (b - a)).map (fun c => (c.1, c.2, none))
    else
      let o := paddr % 8
      let shifted := List.replicate o false ++ bs
      [(0, 8, some (beMask shifted 0))]

/-! ### Down-port results (R217 to R219) -/

/-- Counts a down-port read result because the port is not available (R217). -/
def State.countDown (s : State) (f p : Nat) (ones : Bool) : State :=
  if ones then (s.bump (fnCtr f 9)).bump (portCtr p 19) else (s.bump (fnCtr f 8)).bump (portCtr p 18)

/-- Completer Abort for a read, logged in AER and Status of its function (R165, R211, R217). -/
def State.answerCa (s : State) (f reqTag off len : Nat) : State :=
  let s := (s.emitTlp f (.completion (fnPort f) f reqTag .aborted [])).setStatus f 27
  s.aerUnc f 15 (some (tlpHeader 0 len 0 reqTag off))

/-- Replaces a read in progress. -/
def State.setRead (s : State) (p : Nat) (r : WRead) : State :=
  s.modPort p (fun d => { d with reads := d.reads.map (fun x => if x.id = r.id then r else x) })

/-- Withdraws the RD frames of a read that have not started, or its place when it waits for reserve, and frees their
tags. -/
def State.withdrawReads (s : State) (p id : Nat) : State :=
  s.modPort p (fun d =>
    let gone := (d.egress.filter (fun e => decide (e.origin = .windowRead id) && !e.waits)).map (fun e => e.frame.tag)
    { d with
      egress := d.egress.filter (fun e => e.origin ≠ .windowRead id)
      ltags := d.ltags.filter (fun t => !gone.contains t.1) })

/-- Removes a read that has ended; tags still outstanding for it stay until they are answered (R221). -/
def State.dropRead (s : State) (p id : Nat) : State :=
  (s.withdrawReads p id).modPort p (fun d => { d with reads := d.reads.filter (fun x => x.id ≠ id) })

/-- Byte at offset `o` of a read, when it has arrived. -/
def WRead.byte? (r : WRead) (o : Nat) : Option Byte :=
  r.got.findSome? (fun c => if c.1 ≤ o ∧ o < c.1 + c.2.length then c.2[o - c.1]? else none)

/-- Every enabled byte of `[a, b)` has arrived. -/
def WRead.complete (r : WRead) (a b : Nat) : Bool :=
  let bs := enables r.dws r.firstBe r.lastBe
  (List.range (b - a)).all (fun i => !(bs.getD (a + i) false) || (r.byte? (a + i)).isSome)

/-- The read has received all of its responses (R218). -/
def WRead.whole (r : WRead) : Bool := !r.flush && r.complete 0 (4 * r.dws)

/-- Bytes `[a, b)` of the answer: data as it arrived, all ones in every other place when the read has its down-port result
(R217, R219); else the value of a byte that was not enabled is free (log entry 7). -/
def State.readBytes (s : State) (r : WRead) (a b : Nat) : List Byte × State :=
  let (fr, s) := s.freeBytes (b - a)
  ((List.range (b - a)).map (fun i =>
    match r.byte? (a + i) with
    | some x => x
    | none => if r.down then 0xFF else fr.getD i 0), s)

/-- Writes of a zero-length read's path that came before it are not all accepted yet (R149). -/
def State.writesBefore (s : State) (p : Nat) (r : WRead) : Bool :=
  let mine (e : EgFrame) : Bool := e.fn == r.fn && e.frame.vc == r.v && (match e.origin with
    | .windowWrite i _ _ _ _ => decide (i < r.id)
    | .engineWrite _ q piece ofs _ => r.behind.any (fun b => b.1 == q && b.2.1 == piece && decide (b.2.2.1 ≤ ofs ∧ ofs < b.2.2.2))
    | _ => false)
  (s.port p).egress.any mine || (s.port p).replay.any (fun e => mine e.2)

/-- Answers a zero-length read when its writes have been accepted: one dword of zeros, or its down-port result (R149,
R217). -/
def State.answerFlush (s : State) (p : Nat) (r : WRead) : Option WRead × State :=
  if r.down then
    (none, if r.downOnes then s.emitTlp r.fn (.completion r.h r.fn r.reqTag .ok [0xFF, 0xFF, 0xFF, 0xFF])
      else s.answerCa r.fn r.reqTag r.off 4)
  else if s.writesBefore p r then (some r, s)
  else
    let s := s.emitTlp r.fn (.completion r.h r.fn r.reqTag .ok [0, 0, 0, 0])
    (none, if r.tagged then s.missAt r.key r.fn 2 p r.v [portCtr p 24] else s)

/-- End of the completion that begins at byte `a` of a read: the next Max_Payload_Size boundary (R148). -/
def completionEnd (mps off total a : Nat) : Nat := min total (a + (mps - (off + a) % mps))

/-- Returns as many completions of the head read `r` as its data allows; answers the read's remainder, or none when it
has ended. -/
def State.answerRead (s : State) (p : Nat) : Nat → WRead → Option WRead × State
  | 0, r => (some r, s)
  | fuel + 1, r =>
    let total := 4 * r.dws
    let b := completionEnd (s.mps r.fn) r.off total r.sent
    if r.flush then s.answerFlush p r
    else if r.complete r.sent b || (r.down && r.downOnes) then
      let (data, s) := s.readBytes r r.sent b
      let s := s.emitTlp r.fn (.completion r.h r.fn r.reqTag .ok data)
      let s := if r.sent = 0 ∧ r.tagged ∧ !r.down then s.missAt r.key r.fn 2 p r.v [portCtr p 24] else s
      if b = total then (none, s) else s.answerRead p fuel { r with sent := b }
    else if r.down then (none, s.answerCa r.fn r.reqTag r.off total)
    else (some r, s)

/-- Answers the reads of a port in path order: a read waits for those before it on its path (R150, R220). -/
def State.answerReads (s : State) (p : Nat) : State :=
  let step (acc : State × List (Nat × Nat)) (r : WRead) : State × List (Nat × Nat) :=
    let (s, blocked) := acc
    if blocked.contains (r.fn, r.v) then (s, blocked)
    else
      match s.answerRead p (4 * r.dws + 1) r with
      | (some r', s) => (s.setRead p r', (r.fn, r.v) :: blocked)
      | (none, s) => (s.dropRead p r.id, blocked)
  ((((s.port p).reads.foldl step (s, [])).1).holdsChanged p).pump p

/-- A read receives its down-port result (R218). -/
def State.failRead (s : State) (p id : Nat) : State :=
  let s := (s.withdrawReads p id).modPort p (fun d => { d with
    reads := d.reads.map (fun r => if r.id = id then { r with down := true } else r)
    ltags := d.ltags.map (fun t => match t.2.purpose with
      | .window i _ => if i = id then (t.1, { t.2 with dead := true }) else t
      | _ => t) })
  s.answerReads p

/-! ### Reads and writes -/

/-- Engine writes of a path that are on their way. -/
def State.engineWrites (s : State) (p f v : Nat) : List (Nat × Nat × Nat × Nat) :=
  ((s.port p).replay.map (fun e => e.2) ++ (s.port p).egress).filterMap (fun e =>
    if e.fn == f && e.frame.vc == v then (match e.origin with
      | .engineWrite _ q piece ofs len => some (q, piece, ofs, ofs + len)
      | _ => none) else none)

/-- A BAR4 read through segment `n`, with its key, as it joins its path. -/
def State.newRead (s : State) (f n off dws firstBe lastBe reqTag key : Nat) (tagged down : Bool) : WRead :=
  let p := s.lead (s.get SEG_CTRL.port n)
  let v := s.get SEG_CTRL.vc n
  { id := s.nextId, fn := f, fgen := s.get FUNC_STATE.gen f, h := fnPort f, reqTag := reqTag, p := p, v := v,
    downOnes := s.on SEG_CTRL.down_mode n, off := off, dws := dws, firstBe := firstBe, lastBe := lastBe, seg := n,
    sgen := s.get SEG_CTRL.gen n, paddr := s.portAddr n off, base := s.regionBase p, key := key, tagged := tagged,
    granted := down, got := [], sent := 0, flush := dws == 1 && firstBe == 0, behind := s.engineWrites p f v, down := down }

/-- Place of a BAR4 read at its egress while it waits for reserve (R18, R281, R288). -/
def WRead.place (r : WRead) : EgFrame :=
  { fn := r.fn, fromHost := true, key := r.key, origin := .windowRead r.id, waits := true,
    frame := { Frame.blank 1 r.v with deadline := wireDeadline r.tagged r.key } }

/-- A read joins its port. -/
def State.addRead (s : State) (r : WRead) : State :=
  { s with nextId := s.nextId + 1 }.modPort r.p (fun d => { d with reads := d.reads ++ [r] })

/-- A BAR4 read that the host port has received, for host address `addr` (R210 to R213); the lookup wakes the core (R92). -/
def State.windowRead (s : State) (f addr dws firstBe lastBe reqTag : Nat) : State :=
  if s.unheard f then s
  else
    let s := (s.leaveL1 (fnPort f)).wakeRegion 34
    match s.bar4Off f addr (4 * dws) with
    | none => s.answerUr f reqTag addr (4 * dws)
    | some off =>
      if !s.memEnabled f || s.fnHeld f then s.answerUr f reqTag addr (4 * dws)
      else
        match s.lookup f off false with
        | .miss => (s.answerCa f reqTag addr (4 * dws)).bump (fnCtr f 5)
        | .denied => (s.answerCa f reqTag addr (4 * dws)).bump (fnCtr f 6)
        | .unavailable n =>
          let r := s.newRead f n off dws firstBe lastBe reqTag 0 false true
          ((s.countDown f r.p r.downOnes).addRead r).answerReads r.p
        | .found n =>
          let (k, s) := s.accessKey f n
          let r := s.newRead f n off dws firstBe lastBe reqTag k.1 k.2 false
          let s := (s.addRead r).wakePort r.p
          if r.flush then s.answerReads r.p else s.enqueue r.p r.place

/-- The WR frames of a window write, in ascending address order (R212, R355). -/
def writeFrames (lim paddr vc : Nat) (dl : Option Nat) (bs : List Bool) (data : List Byte) : List Frame :=
  (localParts lim paddr bs).map (fun c =>
    match c.2.2 with
    | none => { Frame.blank 2 vc with deadline := dl, addr := paddr + c.1, payload := (data.drop c.1).take c.2.1 }
    | some m => { Frame.blank 2 vc with deadline := dl, sparse := true, be := m, addr := paddr / 8 * 8,
                                        payload := sliceBytes (leBytes (paddr % 8) 0 ++ data) 0 8 })

/-- A BAR4 write that the host port has received, for host address `addr` (R210 to R213, R217). -/
def State.windowWrite (s : State) (f addr : Nat) (data : List Byte) (firstBe lastBe : Nat) : State :=
  let dws := data.length / 4
  if s.unheard f then s
  else
    let s := (s.leaveL1 (fnPort f)).wakeRegion 34
    match s.bar4Off f addr data.length with
    | none => s.dropUr f addr data.length
    | some off =>
      if !s.memEnabled f || s.fnHeld f then s.dropUr f addr data.length
      else
        match s.lookup f off true with
        | .miss => s.bump (fnCtr f 5)
        | .denied => s.bump (fnCtr f 6)
        | .unavailable n => (s.bump (fnCtr f 7)).bump (portCtr (s.lead (s.get SEG_CTRL.port n)) 20)
        | .found n =>
          let p := s.lead (s.get SEG_CTRL.port n)
          let (k, s) := s.accessKey f n
          let id := s.nextId
          let s := { s with nextId := id + 1 }
          let frames := writeFrames (s.localMax p) (s.portAddr n off) (s.get SEG_CTRL.vc n) (wireDeadline k.2 k.1)
            (enables dws firstBe lastBe) data
          s.each ((List.range frames.length).zip frames) (fun s e =>
            s.enqueue p { fn := f, fromHost := true, key := k.1, frame := e.2, waits := false,
                          origin := .windowWrite id f k.1 k.2 (e.1 + 1 == frames.length) })

/-! ### Reserve (R288) -/

/-- Reads of a virtual channel that wait for reserve. -/
def waitingReads (rs : List WRead) (v : Nat) : List WRead := rs.filter (fun r => r.v == v && !r.granted && !r.flush && !r.down)

/-- Heads of the paths that wait for reserve: the first read of each function. -/
def reserveHeads (rs : List WRead) : List WRead :=
  rs.foldl (fun hs r => if hs.any (fun x => x.fn == r.fn) then hs else hs ++ [r]) []

/-- Key of a path at the reserve allocator: the earliest of its requests that have not passed it, its waiting reads and whatever stands
behind the read's place at the egress (R281). -/
def readKey (es : List EgFrame) (rs : List WRead) (r : WRead) : Nat :=
  let behind := (es.dropWhile (fun e => e.origin != .windowRead r.id)).filter (fun e => e.fn == r.fn && e.frame.vc == r.v && e.fromHost)
  behind.foldl (fun k e => min k e.key) ((rs.filter (fun x => x.fn == r.fn)).foldl (fun k x => min k x.key) r.key)

/-- Head of the reserve allocator of a virtual channel: among the path heads the earliest key, a tagged one first among
equal keys, then the earliest arrival (R278, R279, R281). -/
def reserveHead (es : List EgFrame) (rs : List WRead) (v : Nat) : Option WRead :=
  let ws := waitingReads rs v
  (reserveHeads ws).foldl (fun b r => match b with
    | some x => if (Cand.mk 0 (readKey es ws r) r.tagged).before (Cand.mk 0 (readKey es ws x) x.tagged) then some r else some x
    | none => some r) none

/-- The first `n` free module tags of a port (R357). -/
def State.freeLTags (s : State) (p n : Nat) : List Nat :=
  ((List.range (if s.scarfed p then 2048 else 1024)).filter (fun t => (find1 t (s.port p).ltags).isNone)).take n

/-- Port address and length of part `c` of a read. -/
def WRead.partAddr (r : WRead) (c : Nat × Nat × Option Nat) : Nat := if c.2.2.isSome then r.paddr / 8 * 8 else r.paddr + c.1

/-- The tag record of a part of a read (R191). -/
def WRead.tagOf (r : WRead) (c : Nat × Nat × Option Nat) : LTag :=
  { fn := r.fn, fgen := r.fgen, q := none, qgen := 0, v := r.v, seg := some (r.seg, r.sgen), addr := r.partAddr c, base := r.base,
    len := c.2.1, purpose := .window r.id c.1, held := false, dead := false }

/-- The RD of a part of a read, with its tag. -/
def WRead.frameOf (r : WRead) (t : Nat) (c : Nat × Nat × Option Nat) : EgFrame :=
  { fn := r.fn, fromHost := true, key := r.key, origin := .windowRead r.id, waits := false,
    frame := { Frame.blank 1 r.v with deadline := wireDeadline r.tagged r.key, sparse := c.2.2.isSome, be := c.2.2.getD 0, tag := t,
                                      rdLen := c.2.1, addr := r.partAddr c } }

/-- Grants the head its whole reserve when it fits, its tags are free and its bay is not masked, and its reads take its
place at the egress (R15, R288). -/
def State.grantReserve (s : State) (p v : Nat) : State :=
  match reserveHead (s.port p).egress (s.port p).reads v with
  | none => s
  | some r =>
    let parts := localParts (s.localMax p) r.paddr (enables r.dws r.firstBe r.lastBe)
    let tags := s.freeLTags p parts.length
    if !s.open_ (bayOf p) ∨ s.freeSpace p v - s.skid p - 4096 < (4 * r.dws : Nat) ∨ tags.length < parts.length then s
    else
      let s := s.setRead p { r with granted := true }
      let s := s.modPort p (fun d => { d with
        ltags := d.ltags ++ (tags.zip parts).map (fun x => (x.1, r.tagOf x.2))
        egress := d.egress.flatMap (fun e => if e.waits && decide (e.origin = .windowRead r.id)
          then (tags.zip parts).map (fun x => r.frameOf x.1 x.2) else [e]) })
      (s.holdsChanged p).pump p

end Sys2Proof.Machine
end

