-- ==== Sys2Proof/Machine/Descriptors.lean ====
section
/-! DEFINITION. Submission and extension descriptors: fields, checks, conversion, admission (R233 to R240, R259, R260,
R283, R284). -/

namespace Sys2Proof.Machine

/-! ### Fields (R233, R237) -/

/-- Field of word `i` of a descriptor. -/
def descBits (ws : List Word) (i lo len : Nat) : Nat := getBits (ws.getD i 0) lo len

/-- One side of a piece: its lines. -/
structure Side where
  isLocal : Bool
  addr : Nat
  len : Nat
  lines : Nat
  stride : Int
  deriving DecidableEq, Repr

/-- Source side of a piece. -/
def srcSide (ws : List Word) : Side :=
  ⟨descBits ws 0 9 1 == 1, descBits ws 1 0 64, descBits ws 3 0 24 + 1, descBits ws 5 0 16 + 1,
   signed (descBits ws 3 24 40) 40⟩

/-- Destination side of a piece. -/
def dstSide (ws : List Word) : Side :=
  ⟨descBits ws 0 10 1 == 1, descBits ws 2 0 64, descBits ws 4 0 24 + 1, descBits ws 5 16 16 + 1,
   signed (descBits ws 4 24 40) 40⟩

/-- Bytes of a side: S or D of R234. -/
def Side.bytes (d : Side) : Nat := d.len * d.lines

/-- Address of stream byte `x` of a side (R233, R256). -/
def Side.at (d : Side) (x : Nat) : Nat := ((d.addr : Int) + (x / d.len : Nat) * d.stride).toNat + x % d.len

/-- Every byte of every line lies in the side's space: below 2^48 for a local side, 2^64 for a host side. Lines start
at equal distances, so the first and the last bound them all. -/
def Side.fits (d : Side) : Bool :=
  let last : Int := (d.addr : Int) + ((d.lines - 1 : Nat) : Int) * d.stride
  let top : Int := if d.isLocal then 2 ^ 48 else 2 ^ 64
  decide (0 ≤ last ∧ (d.addr : Int) + d.len ≤ top ∧ last + d.len ≤ top)

/-- conv, and the element sizes in bytes. -/
def convOf (ws : List Word) : Nat := descBits ws 5 32 2
def srcElem (ws : List Word) : Nat := 2 ^ descBits ws 5 34 2
def dstElem (ws : List Word) : Nat := 2 ^ descBits ws 5 36 2

/-- Opcode, and the flags of word 0. -/
def opcodeOf (ws : List Word) : Nat := descBits ws 0 0 8
def dlValidOf (ws : List Word) : Bool := opcodeOf ws != 0 && descBits ws 0 8 1 == 1
def chainOf (ws : List Word) : Bool := descBits ws 0 11 1 == 1
def lastOf (ws : List Word) : Bool := descBits ws 0 8 1 == 1
def noIrqOf (ws : List Word) : Bool := descBits ws 0 12 1 == 1
def irqNowOf (ws : List Word) : Bool := descBits ws 0 13 1 == 1
def deadlineOf (ws : List Word) : Nat := descBits ws 0 16 16
def cidOf (ws : List Word) : Nat := descBits ws 0 32 16
def pointerOf (ws : List Word) : Nat := descBits ws 6 0 64

/-- The piece is followed by another: `head` tells the descriptor from an extension. -/
def hasNext (head : Bool) (ws : List Word) : Bool := if head then chainOf ws else !lastOf ws

/-! ### Checks (R234, R240) -/

/-- Element sizes, line lengths and address ranges of R234. -/
def shapeOk (ws : List Word) : Bool :=
  let a := srcElem ws
  let b := dstElem ws
  let sizes := match convOf ws with
    | 0 => true
    | 3 => decide (b < a)
    | _ => decide (a < b)
  let lines := convOf ws == 0 || ((srcSide ws).len % a == 0 && (dstSide ws).len % b == 0)
  sizes && lines && (srcSide ws).fits && (dstSide ws).fits

/-- D has the size that R234 requires. -/
def sizeOk (ws : List Word) : Bool :=
  if convOf ws = 0 then (dstSide ws).bytes == (srcSide ws).bytes
  else (dstSide ws).bytes * srcElem ws == (srcSide ws).bytes * dstElem ws

/-- Status of a piece's checks after those of its reserved fields: 0 when it is well formed. -/
def pieceStatus (ws : List Word) : Nat :=
  if !(srcSide ws).isLocal && !(dstSide ws).isLocal then 0x03
  else if !shapeOk ws then 0x02
  else if !sizeOk ws then 0x04
  else 0

/-- Status of a fetched descriptor (R240). -/
def descStatus (ws : List Word) : Nat :=
  let reserved := descBits ws 0 14 2 == 0 && descBits ws 0 48 16 == 0 && descBits ws 5 38 26 == 0 && descBits ws 7 0 64 == 0
  if opcodeOf ws ≠ 0 ∧ opcodeOf ws ≠ 1 then 0x01
  else if !reserved then 0x02
  else if opcodeOf ws = 0 then 0
  else if !chainOf ws && pointerOf ws != 0 then 0x02
  else pieceStatus ws

/-- Status of an extension that has arrived (R240). -/
def extStatus (ws : List Word) : Nat :=
  if opcodeOf ws ≠ 0x81 then 0x05
  else if !(descBits ws 0 11 53 == 0 && descBits ws 5 38 26 == 0 && descBits ws 7 0 64 == 0) then 0x02
  else pieceStatus ws

/-! ### Conversion (R259, R260, R270) -/

/-- Source bytes that destination bytes before `x` need. -/
def srcNeeded (ws : List Word) (x : Nat) : Nat :=
  if convOf ws = 0 then x else ceilDiv x (dstElem ws) * srcElem ws

/-- Source position that feeds destination byte `x`: its element's first byte (R270). -/
def srcStart (ws : List Word) (x : Nat) : Nat :=
  if convOf ws = 0 then x else x / dstElem ws * srcElem ws

/-- Destination byte `x` of a piece, from a reader of its source stream. -/
def convByte (ws : List Word) (src : Nat → Byte) (x : Nat) : Byte :=
  let a := srcElem ws
  let e := x / dstElem ws * a
  let j := x % dstElem ws
  match convOf ws with
  | 0 => src x
  | 1 => if j < a then src (e + j) else 0
  | 2 => if j < a then src (e + j) else if (src (e + a - 1)).getLsbD 7 then 0xFF else 0
  | _ => src (e + j)

/-! ### Rates and admission (R260 to R264, R284) -/

/-- Local-side rate of a piece's conversion in bytes per CCLK, times 128 (R260). Where both sides are local the slower
side is taken (DEDUCED, log entry 20). -/
def convRate128 (ws : List Word) : Nat :=
  let a := srcElem ws
  let b := dstElem ws
  let src := if convOf ws = 1 ∨ convOf ws = 2 then 4096 * a / b else 4096
  let dst := if convOf ws = 3 then 4096 * b / a else 4096
  if (srcSide ws).isLocal && (dstSide ws).isLocal then min src dst
  else if (srcSide ws).isLocal then src else dst

/-- Effective cap c of a channel (R262). -/
def State.effCap (s : State) (q : Nat) : Nat :=
  let cap := s.get Q_CFG.rate_cap q
  match s.get PWR_THROTTLE.step with
  | 0 => cap
  | 1 => max 1 (cap * 192 / 256)
  | 2 => max 1 (cap * 128 / 256)
  | _ => max 1 (cap * 64 / 256)

/-- Bytes of a side that lie in the region of JPp. -/
def State.sideIn (s : State) (d : Side) (p : Nat) : Nat :=
  if !d.isLocal then 0
  else
    let lo := s.get PRT_BASE.base p * 4096
    let hi := lo + (s.get PRT_SIZE.pages_m1 p + 1) * 4096
    (List.range d.lines).foldl (fun n k =>
      let a := d.at (k * d.len)
      n + (min hi (a + d.len) - max lo a)) 0

/-- L_p for each local port that a piece uses (R284). -/
def State.pieceLoads (s : State) (ws : List Word) : List (Nat × Nat) :=
  ((List.range 96).filter (fun p => s.on PRT_CTRL.enable p && s.lead p == p)).filterMap (fun p =>
    let n := s.sideIn (srcSide ws) p + s.sideIn (dstSide ws) p
    if n = 0 then none else some (p, n))

/-- Time in ns that `n` bytes take at `rate128 / 128 * num / 256` bytes per CCLK of 0.625 ns, to the nearest ns (DEDUCED,
log entry 20). -/
def transferNs (n rate128 num : Nat) : Nat :=
  let d := rate128 * num
  (n * 20480 + d / 2) / max 1 d

/-- tagged_share in effect. -/
def State.shareOf (s : State) (p : Nat) : Nat := clampNat 1 256 (s.get SCHED_PORT_CTRL.tagged_share p)

/-- max(now, busy_p) + L_p / (B_p s_p / 256). -/
def State.portFinish (s : State) (p n : Nat) : Nat :=
  max s.devtime (s.get SCHED_PORT_BUSY.busy_until p) + transferNs n (s.portRate128 p) (s.shareOf p)

/-- The estimate of R284 for a piece of queue `q`. -/
def State.estimate (s : State) (q : Nat) (ws : List Word) : Nat :=
  let ls := s.pieceLoads ws
  let start := max s.devtime (s.queue q).finish
  let own := ls.foldl (fun m x => max m (max (transferNs x.2 (convRate128 ws) 256) (transferNs x.2 (s.portRate128 x.1) (s.effCap q)))) 0
  let ports := ls.foldl (fun m x => max m (s.portFinish x.1 x.2)) 0
  max (start + own) ports + s.get SCHED_CTRL.fixed_units * 64

/-- Each busy_p takes the piece. -/
def State.loadPorts (s : State) (ws : List Word) : State :=
  let ls := s.pieceLoads ws
  s.each (ls.map (fun x => (x.1, s.portFinish x.1 x.2))) (fun s x => s.put SCHED_PORT_BUSY.busy_until x.1 x.2)

/-- The admission test of a piece (R283, R284): the descriptor with its flags and key, and the state. -/
def State.tryAdmission (s : State) (q : Nat) (d : Prefetched) (ws : List Word) : Prefetched × State :=
  let f := s.get Q_CFG.owner q
  let est := s.estimate q ws
  let done (d : Prefetched) (s : State) : Prefetched × State :=
    (d, s.modQueue q (fun x => { x with finish := max x.finish est }))
  match d.deadline with
  | none => done d s
  | some k =>
    match s.get SCHED_CTRL.admit_mode with
    | 0 => done d s
    | m =>
      if keyNs est ≤ 64 * k then done { d with key := k, demoted := false } (s.loadPorts ws)
      else
        let t := if d.flagged then s else (s.bump (queueCtr q 5)).bump (fnCtr f 16)
        if m = 1 then done { d with flagged := true, key := k, demoted := false } (t.loadPorts ws)
        else done { d with flagged := true, demoted := true, key := s.implicitKey f } t

/-- A descriptor read for the first time: checked, clamped and admitted (R236, R240, R284). -/
def State.readDescriptor (s : State) (q idx : Nat) (ws : List Word) : Prefetched × State :=
  let (k, s) := s.keyFor (s.get Q_CFG.owner q) (if dlValidOf ws then some (deadlineOf ws) else none)
  let d : Prefetched :=
    { idx := idx, words := ws, gen := s.get Q_STATE.gen q, key := k.1, deadline := k.2.1, clamped := k.2.2,
      flagged := false, demoted := false, bad := descStatus ws, fetchErr := none, gone := false }
  if d.bad = 0 ∧ opcodeOf ws = 1 then s.tryAdmission q d ws else (d, s)

/-- The eight words of a fetched descriptor. -/
def descWords (bs : List Byte) : List Word := (List.range 8).map (fun i => BitVec.ofNat 64 (leAt bs (8 * i) 8))

end Sys2Proof.Machine
end

