-- ==== Sys2Proof/Machine/QueueOps.lean ====
section
/-! DEFINITION. Queue pairs: doorbells, fetching, entries, coalescing, halts and commands (R227 to R251, R265 to R269). -/

namespace Sys2Proof.Machine

/-! ### Rings (R227, R228) -/

def State.qOwner (s : State) (q : Nat) : Nat := s.get Q_CFG.owner q
def State.sqSize (s : State) (q : Nat) : Nat := 2 ^ s.get Q_RING.sq_log2 q
def State.cqSize (s : State) (q : Nat) : Nat := 2 ^ s.get Q_RING.cq_log2 q

/-- The SQ holds a pending descriptor. -/
def State.sqPending (s : State) (q : Nat) : Bool := s.get Q_SQ_IDX.sq_head q != s.get Q_SQ_IDX.sq_tail q

/-- The CQ is full (R228). -/
def State.cqFull (s : State) (q : Nat) : Bool :=
  (s.get Q_CQ_IDX.cq_head q + 1) % s.cqSize q == s.get Q_CQ_IDX.cq_tail q

/-- PASID of a queue's host requests (R229). -/
def State.queuePasid (s : State) (q : Nat) : Option Nat :=
  s.pasidFor (s.qOwner q) (s.on Q_RING.pasid_en q) (s.get Q_RING.pasid q)

/-- The queue is running again or has nothing to do: ready when descriptors are pending, else idle (R245). -/
def State.settleState (s : State) (q : Nat) : State := s.put Q_STATE.state q (if s.sqPending q then 2 else 1)

/-! ### Completion vectors and coalescing (R248 to R250) -/

/-- The earlier of two keys, a tagged one where they are equal (R278). -/
def firstKey (a b : Nat × Bool) : Nat × Bool := if (Cand.mk 0 b.1 b.2).before (Cand.mk 0 a.1 a.2) then b else a

/-- A written entry's key joins those of the completion vector that it will raise: the vector has the earliest of them (R277, log
entry 67). -/
def State.joinVector (s : State) (q key : Nat) (tagged : Bool) : State :=
  s.modQueue q (fun d => { d with coalKey := some (match d.coalKey with
    | some k => firstKey k (key, tagged)
    | none => (key, tagged)) })

/-- The completion vector is sent with the key of the entries that it answers, or only the pending count cleared when the queue sends
none. -/
def State.sendVector (s : State) (q : Nat) : State :=
  let k := ((s.queue q).coalKey).getD (s.implicitKey (s.qOwner q), false)
  let s := ((s.put Q_COAL.pending q 0).disarm (.coalesce q)).modQueue q (fun d => { d with coalKey := none })
  if s.on Q_RING.cq_vec_en q then s.askVector q k.1 k.2 else s

/-- The descriptor runs at its deadline: it has one and was not demoted (R277, R283). -/
def Prefetched.tagged (d : Prefetched) : Bool := d.deadline.isSome && !d.demoted

/-- The entry is late: formed after its effective deadline (R241, R285). -/
def Entry.late (e : Entry) : Bool :=
  match e.d.deadline with
  | some k => decide (64 * k < keyNs e.formed)
  | none => false

/-- The timer runs from the moment when pending left 0, to the time_us of the last entry (R248). -/
def State.timeEntry (s : State) (q n : Nat) : State :=
  let s := if n = 0 then s.modQueue q (fun d => { d with coalAt := s.clock }) else s
  let t := s.get Q_COAL.time_us q
  if t = 0 then s.disarm (.coalesce q) else s.arm (.coalesce q) ((s.queue q).coalAt + t * 1000 - s.clock)

/-- Effect of a written entry on coalescing (R248, R249). -/
def State.signalEntry (s : State) (q : Nat) (e : Entry) : State :=
  if irqNowOf e.d.words || e.status != 0 || e.halted || e.late then (s.joinVector q e.d.key e.d.tagged).sendVector q
  else if noIrqOf e.d.words then s
  else
    let s := s.joinVector q e.d.key e.d.tagged
    let n := s.get Q_COAL.pending q
    let t := s.get Q_COAL.time_us q
    let c := s.get Q_COAL.count q
    let s := s.put Q_COAL.pending q (min 255 (n + 1))
    let lim := if c = 0 ∧ t = 0 then 1 else c
    if lim ≠ 0 ∧ lim ≤ n + 1 then s.sendVector q
    else s.timeEntry q n

/-! ### Entries (R241 to R243) -/

/-- The 32 bytes of an entry with the phase and sq_head of the moment. -/
def State.entryBytes (s : State) (q : Nat) (e : Entry) : List Byte :=
  let head := s.get Q_SQ_IDX.sq_head q
  let after := if e.halted then head else (head + 1) % s.sqSize q
  let (dl, lateBy) := match e.d.deadline with
    | some k => (k % 65536, if e.late then min 0xFFFF (ceilDiv (keyNs e.formed - 64 * k) 64) else 0)
    | none => (0, 0)
  let flags := s.get Q_CQ_IDX.phase q + 2 * b2n e.late + 4 * b2n e.d.flagged + 8 * b2n e.d.clamped + 16 * b2n e.halted
    + 32 * b2n e.held + 64 * b2n e.d.deadline.isSome
  leBytes 8 e.bytes ++ leBytes 8 e.formed ++ leBytes 2 (if e.d.fetchErr.isSome || (e.status == 0x10 && e.d.gone) then 0xFFFF else cidOf e.d.words)
    ++ leBytes 2 e.d.idx ++ leBytes 2 after ++ leBytes 2 dl ++ leBytes 2 lateBy ++ leBytes 1 e.status ++ leBytes 1 e.d.gen
    ++ leBytes 3 0 ++ leBytes 1 flags

/-- The entry that is due: of a halt, or of a descriptor that has ended with every write accepted. -/
def State.dueEntry (s : State) (q : Nat) : Option Entry :=
  let d := s.queue q
  match d.cur with
  | none => none
  | some c =>
    if !d.unacked.isEmpty then none
    else match d.haltDue with
      | some st => some ⟨c.d, st, c.before + c.issued, true, s.devtime, false, false, false⟩
      | none => c.ended.map (fun st => ⟨c.d, st, c.before + c.issued, false, s.devtime, false, false, false⟩)

/-- Joist port and virtual channel that the miss log names for a descriptor (R294): those of its first local side. -/
def State.descPort (s : State) (q : Nat) (ws : List Word) : Nat × Nat :=
  let side := if (dstSide ws).isLocal then dstSide ws else srcSide ws
  if !side.isLocal ∨ opcodeOf ws ≠ 1 then (0x7F, 0)
  else
    match (s.segmentsOf (s.qOwner q)).find? (fun n => s.get SEG_CTRL.kind n == 0 && decide (s.segDst n ≤ side.addr)
        && decide (side.addr < s.segDst n + s.segLen n)) with
    | some n => (s.lead (s.get SEG_CTRL.port n), s.get SEG_CTRL.vc n)
    | none => (0x7F, 0)

/-- An earlier host request of the channel's path waits at the tag arbiter, so a host write waits too (R18, R150). -/
def State.hostPathBusy (s : State) (q : Nat) (ws : List Word) : Bool :=
  let (p, v) := s.descPort q ws
  s.pathWaits (s.qOwner q) p v true

/-- Nothing stops an entry of the queue on its way to the host: its owner may send, no earlier request of its path waits, and the slices of
the queue engine and of the host run (R18, R95). -/
def State.entryGoes (s : State) (q : Nat) (e : Entry) : Bool :=
  s.canMaster (s.qOwner q) && !s.hostPathBusy q e.d.words && s.hostOpen [0] (s.qOwner q)

/-- An entry is presented to the slices on its way, which it wakes (R92). -/
def State.callEntry (s : State) (q : Nat) : State := if s.canMaster (s.qOwner q) then s.callHost [0] (s.qOwner q) else s

/-- Counts the miss of a late final entry (R241, R285). -/
def State.countMiss (s : State) (q : Nat) (e : Entry) : State :=
  if e.halted ∨ e.status = 0x20 then s
  else match e.d.deadline with
    | some k =>
      let (p, v) := s.descPort q e.d.words
      s.missAt k (s.qOwner q) 1 p v [queueCtr q 4]
    | none => s

/-- What ends with a descriptor: its place in the queue; a stopping queue has stopped, and one that a commit moves is
quiesced (R188, R245, R265). -/
def State.endDescriptor (s : State) (q : Nat) : State :=
  let s := s.modQueue q (fun d => { d with cur := none, haltDue := none })
  match s.get Q_STATE.state q with
  | 4 => s.put Q_STATE.state q 5
  | 2 | 3 =>
    if (s.queue q).moving then
      (s.modQueue q (fun d => { d with stateBefore := if s.sqPending q then 2 else 1 })).put Q_STATE.state q 8
    else s.settleState q
  | _ => s

/-- The heads advance past a formed entry (R228, R242). -/
def State.advanceHeads (s : State) (q : Nat) (final : Bool) : State :=
  let h := (s.get Q_CQ_IDX.cq_head q + 1) % s.cqSize q
  let s := s.put Q_CQ_IDX.cq_head q h
  let s := if h = 0 then s.put Q_CQ_IDX.phase q (1 - s.get Q_CQ_IDX.phase q) else s
  let s := s.put Q_STATE.cq_wait q 0
  if final then s.put Q_SQ_IDX.sq_head q ((s.get Q_SQ_IDX.sq_head q + 1) % s.sqSize q) else s

/-- Writes an entry to the CQ, which is not full (R241). -/
def State.writeEntry (s : State) (q : Nat) (e : Entry) : State :=
  let f := s.qOwner q
  let a := s.get Q_CQ_BASE.base q * 4096 + 32 * s.get Q_CQ_IDX.cq_head q
  let s := s.hostWrite f (s.queuePasid q) a (s.entryBytes q e)
  (s.advanceHeads q (!e.halted)).signalEntry q e

/-- Keeps an entry in Q_HELD_CMP (R243, R247). -/
def State.holdEntry (s : State) (q : Nat) (e : Entry) : State :=
  let e := { e with held := true }
  let ws := s.entryBytes q e
  let s := s.each (List.range 4) (fun s k => s.setWord .Q_HELD_CMP (4 * q + k) (BitVec.ofNat 64 (leAt ws (8 * k) 8)))
  let s := (s.put Q_STATE.held_cmp q 1).put Q_STATE.cq_wait q 0
  let s := s.modQueue q (fun d => { d with held := some e, haltDue := none })
  if e.halted then s else (s.countMiss q e).modQueue q (fun d => { d with cur := none })

/-- Empties Q_HELD_CMP. -/
def State.clearHeld (s : State) (q : Nat) : State :=
  let s := s.each (List.range 4) (fun s k => s.setWord .Q_HELD_CMP (4 * q + k) 0)
  (s.put Q_STATE.held_cmp q 0).modQueue q (fun d => { d with held := none })

/-- Writes the held entry when the CQ has room and nothing stops it on its way (R95, R243, R246). -/
def State.writeHeld (s : State) (q : Nat) : State :=
  match (s.queue q).held with
  | some e =>
    if s.cqFull q then s
    else
      let s := s.callEntry q
      if s.entryGoes q e then (s.clearHeld q).writeEntry q e else s
  | none => s

/-- An entry that is held goes out by itself: a halt entry once a slot has been freed while Bus Master Enable was 1, and that of a queue
which runs on (R152, R243). Any other waits for RESUME, RESTART or SKIP. A queue whose last descriptor this ends is idle (R245). -/
def State.tryHeld (s : State) (q : Nat) : State :=
  match (s.queue q).held with
  | none => s
  | some e =>
    if e.freed || decide (1 ≤ s.get Q_STATE.state q ∧ s.get Q_STATE.state q ≤ 3) then
      let s := s.writeHeld q
      if (s.queue q).held.isNone && (s.queue q).cur.isNone && s.get Q_STATE.state q == 2 then s.settleState q else s
    else s

/-! ### Running (R239, R240, R254) -/

/-- Engine to which a queue is bound. -/
def State.engineOf (s : State) (q : Nat) : Option Nat := (s.engines.find? (fun e => e.2.q == some q)).map (fun e => e.1)

/-- A descriptor taken from the queue's prefetched ones. -/
def startCurrent (d : Prefetched) (ended : Option Nat) (key : Nat) : Current :=
  { d := d, piece := 0, words := d.words, ext := 0, before := 0, issued := 0, ended := ended, next := none, asked := false,
    fetchKey := key, tested := 1 }

/-- The queue may go on: ready, its owner may send requests, and no entry is held or due (R152, R243). -/
def State.queueFree (s : State) (q : Nat) : Bool :=
  s.get Q_STATE.state q == 2 && s.master (s.qOwner q) && !s.fnHeld (s.qOwner q)
    && (s.queue q).held.isNone && (s.queue q).haltDue.isNone

/-- Descriptor that the engine arbiter would start for a queue: fetched, checked, with data to move (R254). -/
def State.readyHead (s : State) (q : Nat) : Option Prefetched :=
  if !s.queueFree q then none
  else
    match (s.queue q).cur with
    | some c => if c.ended.isNone && !c.d.gone && !c.words.isEmpty then some c.d else none
    | none =>
      if (s.queue q).moving then none
      else match (s.queue q).pref with
      | d :: _ => if d.bad = 0 ∧ opcodeOf d.words = 1 ∧ d.fetchErr.isNone then some d else none
      | [] => none

/-- Resume point of a halt (R247). -/
def State.recordResume (s : State) (q : Nat) (c : Current) : State :=
  let s := ((s.put Q_RESUME.index q c.d.idx).put Q_RESUME.piece q c.piece).put Q_RESUME.valid q 1
  (s.put Q_RESUME_OFS.offset q c.issued).put Q_RESUME_EXT.ext_addr q (c.ext / 64)

/-- CCLK cycles in a time of the model's clock. -/
def cclkOf (ns : Nat) : Nat := ns * 8 / 5

/-- The engine waits no longer on its limiter. -/
def State.endPace (s : State) (e : Nat) : State :=
  match (s.eng e).paceFrom with
  | none => s
  | some t =>
    ((s.bumpBy (engCtr e 4) (cclkOf (s.clock - t))).put TE_STATUS.pacing e 0).modEng e (fun d => { d with paceFrom := none })

/-- The engine becomes idle (R255, R269). -/
def State.releaseEngine (s : State) (e : Nat) : State :=
  let s := s.endPace e
  let s := s.bumpBy (engCtr e 3) (cclkOf (s.clock - (s.eng e).boundAt))
  let s := (s.put TE_STATUS.state e 0).setWord .TE_RDBUF e 0
  s.modEng e (fun d => { EngDyn.reset with offline := d.offline })

/-- Reads outstanding and read buffer in use (R258, R274). -/
def State.noteEngine (s : State) (e : Nat) : State :=
  let d := s.eng e
  let held := (d.buf.map (fun c => c.1 + c.2.length - max c.1 d.usedAt)).foldl (· + ·) 0
  let out := (d.reads.map (fun r => r.2)).foldl (· + ·) 0
  (s.put TE_RDBUF.reserved_bytes e (held + out)).put TE_RDBUF.reads e d.reads.length

/-- Halted, the engine issues nothing more and drains; reads that still wait for a tag are withdrawn (R269). -/
def State.drainEngine (s : State) (e : Nat) : State :=
  let s := s.endPace e
  let mine : HReq → Bool := fun r => match r.purpose with
    | .engine g _ => g == e
    | _ => false
  let gone := (s.hosts.flatMap (fun h => h.2.waiting.filter mine)).filterMap (fun r => match r.purpose with
    | .engine _ pos => some pos
    | _ => none)
  let s := s.each (s.hosts.map (fun h => h.1)) (fun s h => s.modHost h (fun d => { d with waiting := d.waiting.filter (fun r => !mine r) }))
  let s := s.modEng e (fun d => { d with reads := d.reads.filter (fun r => !gone.contains r.1), buf := [], draining := true })
  if (s.eng e).reads.isEmpty then s.releaseEngine e else (s.put TE_STATUS.state e 2).noteEngine e

/-- Withdraws a queue's fetches that wait or are outstanding: their data will be discarded, and the descriptors are
fetched again (R152, R230). `ext` tells whether fetches of extensions go as well. -/
def State.dropFetches (s : State) (q : Nat) (ext : Bool := true) : State :=
  let h := fnPort (s.qOwner q)
  let mine : HPurpose → Bool := fun p => match p with
    | .fetch k _ _ => k == q
    | .ext k => k == q && ext
    | _ => false
  let all := (s.host h).waiting.map (fun r => r.purpose) ++ (s.host h).tags.map (fun t => t.2.req.purpose)
  let from_ := all.findSome? (fun p => match p with
    | .fetch k i _ => if k = q ∧ ((s.queue q).cur.map (fun c => c.d.idx)) ≠ some i then some i else none
    | _ => none)
  let s := s.modHost h (fun d => { d with
    waiting := d.waiting.filter (fun r => !mine r.purpose)
    tags := d.tags.map (fun t => if mine t.2.req.purpose then (t.1, { t.2 with req := { t.2.req with purpose := .dropped } }) else t) })
  s.modQueue q (fun d => { d with
    fetching := d.fetching && d.arrived.isSome
    fetchAt := from_.getD d.fetchAt
    cur := d.cur.map (fun c => { c with asked := c.asked && d.extArrived.isSome }) })

/-- The channel stops within a descriptor: an extension of it that has arrived is dropped, and one that is on its way will be
(R247, R269). -/
def State.loseExt (s : State) (q : Nat) : State :=
  let h := fnPort (s.qOwner q)
  let mine : HPurpose → Bool := fun p => match p with
    | .ext k => k == q
    | _ => false
  let out := (s.host h).tags.any (fun t => mine t.2.req.purpose && !t.2.held)
  let s := s.modHost h (fun d => { d with waiting := d.waiting.filter (fun r => !mine r.purpose) })
  s.modQueue q (fun d => { d with extLost := out, extArrived := none, cur := d.cur.map (fun c => { c with asked := false }) })

/-- The entry that a halt owes is held, because it cannot be written (R152, R243). -/
def State.settleEntry (s : State) (q : Nat) : State :=
  match s.dueEntry q with
  | none => s
  | some e =>
    if (s.queue q).held.isSome then s
    else if !s.master (s.qOwner q) then s.holdEntry q e
    else if !s.canMaster (s.qOwner q) then s
    else if s.cqFull q then
      if e.halted then s.holdEntry q { e with slot := true }
      else if s.on Q_STATE.cq_wait q then s
      else (s.put Q_STATE.cq_wait q 1).bump (queueCtr q 2)
    else
      let s := s.callEntry q
      if !s.entryGoes q e then s
      else if e.halted then (s.modQueue q (fun d => { d with haltDue := none })).writeEntry q e
      else ((s.countMiss q e).writeEntry q e).endDescriptor q

/-- A STOP or the clearing of Bus Master Enable acted on the queue on this edge (R251). -/
def State.sameEdge (s : State) (q : Nat) : Bool := (s.queue q).edgeAt == some s.clock

/-- Bus Master Enable was cleared on this edge: a halting status detected on it still makes an error halt (R251). -/
def State.haltsBoth (s : State) (q : Nat) : Bool := s.get Q_STATE.state q == 6 && s.sameEdge q

/-- A halting status stops the channel (R247, R266, R267): engine halted, resume point and error latched, entry due. A
second error of the descriptor is only counted. A STOP of the same edge is lost, and rejected (R251). -/
def State.errorHalt (s : State) (q status addr dir space source : Nat) : State :=
  let st := s.get Q_STATE.state q
  if (st = 6 ∨ st = 7 ∨ st = 8 ∨ st = 0) ∧ !s.haltsBoth q then
    match (s.engineOf q).or (s.queue q).lastEng with
    | some e => s.bump (engCtr e 6)
    | none => s
  else
    match (s.queue q).cur with
    | none => s
    | some c =>
      let s := if st = 4 ∧ s.sameEdge q then s.put Q_STATE.cmd_rejected q 1 else s
      let s := (s.recordResume q c).loseExt q
      let s := s.put Q_ERR_ADDR.addr q addr
      let s := (((s.put Q_ERR_INFO.status q status).put Q_ERR_INFO.dir q dir).put Q_ERR_INFO.space q space).put Q_ERR_INFO.source q source
      let s := (s.put Q_ERR_INFO.index q c.d.idx).put Q_STATE.state q 7
      let s := s.modQueue q (fun d => { d with haltDue := some status })
      let s := match s.engineOf q with
        | some e => s.drainEngine e
        | none => s
      s.settleEntry q

/-- What the queue engine does by itself for a ready queue: a NOP or a descriptor that fails its checks ends without an
engine, and a failed fetch is latched when its descriptor would start (R235, R240, R267). -/
def State.kick (s : State) (q : Nat) : State :=
  if !s.queueFree q || (s.queue q).moving then s
  else
    match (s.queue q).cur, (s.queue q).pref with
    | none, d :: ds =>
      match d.fetchErr with
      | some a =>
        (s.modQueue q (fun x => { x with pref := ds, cur := some (startCurrent d none d.key) })).errorHalt q 0x10 a 0 0 5
      | none =>
        if d.bad ≠ 0 ∨ opcodeOf d.words = 0 then
          s.modQueue q (fun x => { x with pref := ds, cur := some (startCurrent d (some d.bad) d.key) })
        else s
    | _, _ => s

/-- An entry that is due is written, and the next fetched descriptor started. -/
def State.finishEntry (s : State) (q : Nat) : State := (s.settleEntry q).kick q

/-- An entry may now be written, or a fetched descriptor started. -/
def State.tryEntry (s : State) (q : Nat) : State := (s.tryHeld q).finishEntry q

/-! ### Doorbells (R231, R232) -/

/-- The first condition of R232 that a doorbell of the owner fails: the counter of its row, or none. -/
def State.doorbellFails (s : State) (q gen st ct : Nat) : Option Nat :=
  let state := s.get Q_STATE.state q
  let flr := state == 8 && s.fnHeld (s.qOwner q)
  let sn := s.sqSize q
  let cn := s.cqSize q
  let so := s.get Q_SQ_IDX.sq_tail q
  let co := s.get Q_CQ_IDX.cq_tail q
  if gen ≠ s.get Q_STATE.gen q then some 0
  else if state = 0 ∨ flr then some 1
  else if !(decide (st < sn ∧ ct < cn)) then some 1
  else if (s.get Q_SQ_IDX.sq_head q + 2 * sn - so - 1) % sn < (st + sn - so) % sn then some 1
  else if (s.get Q_CQ_IDX.cq_head q + cn - co) % cn < (ct + cn - co) % cn then some 1
  else none

/-- A doorbell takes effect whose tails are not the current ones (R232). A slot that it frees while Bus Master Enable is 1 lets a
held halt entry go, a slot freed while it is 0 does not (R243). -/
def State.takeTails (s : State) (f q st ct : Nat) : State :=
  let freed := s.get Q_CQ_IDX.cq_tail q != ct
  let s := (s.put Q_SQ_IDX.sq_tail q st).put Q_CQ_IDX.cq_tail q ct
  let s := s.modQueue q (fun d => { d with
    rung := s.implicitKey f
    held := if freed && s.master f then d.held.map (fun e => { e with freed := e.freed || e.slot }) else d.held })
  let s := if s.get Q_STATE.state q = 1 ∧ s.sqPending q then s.put Q_STATE.state q 2 else s
  s.tryEntry q

/-- A write to the doorbell area of function `f`'s BAR2, 8 bytes at an aligned offset with every byte enabled, or
another (R40, R49, R232). -/
def State.ringDoorbell (s : State) (f off len be : Nat) (value : Word) : State :=
  if off % 8 ≠ 0 ∨ len ≠ 8 ∨ be ≠ 0xFF then s.bump (fnCtr f 4)
  else
    let q := off / 8
    if s.qOwner q ≠ f then s.bump (fnCtr f 3)
    else
      let s := (s.wakeRegion 34).wakeRegion (24 + s.get Q_CFG.eg q)
      let st := getBits value 0 16
      let ct := getBits value 16 16
      match s.doorbellFails q (getBits value 32 8) st ct with
      | some i => s.bump (queueCtr q i)
      | none =>
        if s.get Q_SQ_IDX.sq_tail q = st ∧ s.get Q_CQ_IDX.cq_tail q = ct then s else s.takeTails f q st ct

/-! ### Fetching (R229, R230, R237 to R239) -/

/-- What the queue engine would fetch next for a queue: the purpose, address, length and key of the read. -/
def State.nextFetch (s : State) (q : Nat) : Option (HPurpose × Nat × Nat × Nat) :=
  let d := s.queue q
  let f := s.qOwner q
  let st := s.get Q_STATE.state q
  let base := s.get Q_SQ_BASE.base q * 4096
  if !s.canMaster f || !(st == 2 || st == 3 || st == 4) || d.held.isSome then none
  else
    let desc : Option (HPurpose × Nat × Nat × Nat) :=
      let i := d.fetchAt
      let n := min (min (4 - d.pref.length) (s.mrrs f / 64))
        (min ((s.get Q_SQ_IDX.sq_tail q + s.sqSize q - i) % s.sqSize q)
          (min (s.sqSize q - i) ((4096 - (base + 64 * i) % 4096) / 64)))
      if d.fetching || st == 4 || d.moving || n == 0 then none else some (.fetch q i n, base + 64 * i, 64 * n, d.rung)
    match d.cur with
    | none => desc
    | some c =>
      if c.d.gone then
        if d.fetching then none else some (.fetch q c.d.idx 1, base + 64 * c.d.idx, 64, d.rung)
      else if c.asked || c.ended.isSome then desc
      else if c.words.isEmpty then some (.ext q, c.ext, 64, c.fetchKey)
      else if c.next.isNone && hasNext (c.piece == 0) c.words && pointerOf c.words % 64 == 0 && decide (c.piece < 4096)
          && st != 2 then
        some (.ext q, pointerOf c.words, 64, c.fetchKey)
      else desc

/-- Queues with something to fetch, as candidates of the fetch arbiter: only a queue that has rung is listed. -/
def State.fetchCands (s : State) : List (Nat × HPurpose × Nat × Nat × Nat) :=
  s.queues.filterMap (fun x => (s.nextFetch x.1).map (fun r => (x.1, r)))

/-- One grant of the fetch arbiter (R239, R279). -/
def State.fetchGrant (s : State) : State :=
  let cs := s.fetchCands
  match s.arbitrate pointFetch (cs.map (fun c => ⟨c.1, c.2.2.2.2, false⟩)) with
  | none => s
  | some q =>
    match cs.find? (fun c => c.1 == q) with
    | none => s
    | some (_, purpose, addr, len, key) =>
      let f := s.qOwner q
      let s := s.servedAt pointFetch q
      let s := s.modQueue q (fun d => match purpose with
        | .fetch _ i n =>
          { d with fetching := true
                   fetchAt := if (d.cur.map (fun c => c.d.gone)) = some true then d.fetchAt else (i + n) % s.sqSize q }
        | _ => { d with cur := d.cur.map (fun c => { c with asked := true }) })
      s.askHost { fn := f, fgen := s.get FUNC_STATE.gen f, q := some q, qgen := s.get Q_STATE.gen q,
                  seg := none, p := 0x7F, v := 0, fromHost := true, id := s.nextId, pasid := s.queuePasid q,
                  addr := addr, len := len, be := 0, key := key, tagged := false, purpose := purpose }

/-- The running descriptor, fetched again for RESUME or RESTART, keeps what its first fetch gave it (R247); one whose
first fetch failed is read for the first time. -/
def State.reloadDescriptor (s : State) (q : Nat) (c : Current) (ws : List Word) : State :=
  let (d, s) := if c.d.fetchErr.isSome then s.readDescriptor q c.d.idx ws else ({ c.d with words := ws, gone := false }, s)
  let ended := if c.d.fetchErr.isSome ∧ (d.bad ≠ 0 ∨ opcodeOf ws = 0) then some d.bad else none
  (s.modQueue q (fun x => { x with
    fetching := false, arrived := none
    cur := some { c with d := d, words := if c.piece = 0 then ws else [], ended := ended } })).finishEntry q

/-- Fetched descriptors arrive (R240): each is read and joins the queue's prefetched ones. -/
def State.takeDescriptors (s : State) (q : Nat) : State :=
  match (s.queue q).arrived with
  | none => s
  | some (i, bs) =>
    let fresh (s : State) : State :=
      let s := s.each (List.range (bs.length / 64)) (fun s k =>
        let (d, s) := s.readDescriptor q (i + k) (descWords (bs.drop (64 * k)))
        s.modQueue q (fun x => { x with pref := x.pref ++ [d] }))
      (s.modQueue q (fun x => { x with fetching := false, arrived := none })).kick q
    match (s.queue q).cur with
    | some c => if c.d.gone && c.d.idx == i then s.reloadDescriptor q c (descWords bs) else fresh s
    | none => fresh s

/-! ### Commands (R246, R251) -/

/-- A command that the state does not allow (R246). -/
def State.rejectCmd (s : State) (q : Nat) : State := s.put Q_STATE.cmd_rejected q 1

/-- All four indices 0. -/
def State.zeroIndices (s : State) (q : Nat) : State :=
  (((s.put Q_SQ_IDX.sq_tail q 0).put Q_SQ_IDX.sq_head q 0).put Q_CQ_IDX.cq_tail q 0).put Q_CQ_IDX.cq_head q 0

/-- ENABLE. A queue that a commit moves is quiesced at once (R188). -/
def State.enableQueue (s : State) (q : Nat) : State :=
  let ok (n : Nat) : Bool := decide (6 ≤ n ∧ n ≤ 16)
  if s.get Q_STATE.state q ≠ 0 ∨ !(ok (s.get Q_RING.sq_log2 q) && ok (s.get Q_RING.cq_log2 q)) then s.rejectCmd q
  else
    let d := s.queue q
    (((s.zeroIndices q).put Q_CQ_IDX.phase q 1).put Q_STATE.state q (if d.moving then 8 else 1)).setQueue q
      { QDyn.reset with moving := d.moving, stateBefore := 1 }

/-- STOP (R246, R265). A NOP or failed descriptor whose entry is due ends first. A queue that a commit moves reads quiescing, and
takes no STOP. -/
def State.stopQueue (s : State) (q : Nat) : State :=
  if (s.queue q).moving then s.rejectCmd q
  else
    match s.get Q_STATE.state q with
    | 1 => s.put Q_STATE.state q 5
    | 2 => s.put Q_STATE.state q (if ((s.queue q).cur.bind (fun c => c.ended)).isSome then 4 else 5)
    | 3 => (s.put Q_STATE.state q 4).modQueue q (fun d => { d with edgeAt := some s.clock })
    | _ => s.rejectCmd q

/-- The halted channel goes on under a command whose time has come. Where its ring is still full the held entry stays held, and the
queue is ready and starts nothing until a doorbell frees a slot (log entry 61, DESIGN CHOICE). -/
def State.goOn (s : State) (q op : Nat) : State :=
  let s := (s.writeHeld q).put Q_RESUME.valid q 0
  let s := s.modQueue q (fun d => { d with waitCmd := 0 })
  match (s.queue q).cur with
  | none => (s.settleState q).tryEntry q
  | some c =>
    let c := { c with next := none, asked := false }
    let c := match op with
      | 3 => { c with d := { c.d with gone := true }, words := [], ended := none }
      | 4 => { c with d := { c.d with gone := true }, words := [], ended := none, piece := 0, ext := 0, before := 0, issued := 0 }
      | _ => { c with ended := some 0x20 }
    ((s.modQueue q (fun d => { d with cur := some c })).put Q_STATE.state q 2).tryEntry q

/-- Runs a command that waited, when nothing holds it any more (R251). -/
def State.runWaiting (s : State) (q : Nat) : State :=
  if (s.queue q).waitCmd ≠ 0 ∧ (s.engineOf q).isNone ∧ (s.queue q).haltDue.isNone ∧ !(s.queue q).extLost then s.goOn q (s.queue q).waitCmd else s

/-- RESUME, RESTART and SKIP (ops 3, 4, 5). A halt that had its last write acknowledged and its final entry held has
nothing left to run: the queue goes on with the next descriptor. A command that comes while an earlier one waits replaces it (log
entry 61, DESIGN CHOICE). -/
def State.haltCmd (s : State) (q op : Nat) : State :=
  let st := s.get Q_STATE.state q
  let halted := (st == 6 || st == 7) && s.on FUNC_STATE.bme (s.qOwner q)
  if st = 5 ∧ op = 3 then ((s.writeHeld q).settleState q).kick q
  else if halted then (s.modQueue q (fun d => { d with waitCmd := op })).runWaiting q
  else s.rejectCmd q

/-! ### Fetches that end -/

/-- An extension fetch of before a halt has ended: what waited for it goes on (R247, R251). -/
def State.extEnds (s : State) (q : Nat) : State := (s.modQueue q (fun d => { d with extLost := false })).runWaiting q

/-- The descriptors of a failed fetch join the prefetched ones, marked with the address (R267). -/
def State.failedAhead (s : State) (q i n addr : Nat) : State :=
  s.modQueue q (fun d => { d with pref := d.pref ++ (List.range n).map (fun k =>
    { idx := i + k, words := [], gen := s.get Q_STATE.gen q, key := d.rung, deadline := none, clamped := false, flagged := false,
      demoted := false, bad := 0, fetchErr := some (addr + 64 * k), gone := false }) })

/-- A fetch that failed: each of its descriptors is marked, an extension halts the channel (R267). -/
def State.fetchFailed (s : State) (q : Nat) (purpose : HPurpose) (addr : Nat) : State :=
  match purpose with
  | .ext _ =>
    if (s.queue q).extLost && !s.haltsBoth q then (s.errorHalt q 0x10 addr 0 0 5).extEnds q
    else (s.modQueue q (fun d => { d with extLost := false, cur := d.cur.map (fun c => { c with asked := false }) })).errorHalt q 0x10 addr 0 0 5
  | .fetch _ i n =>
    let s := s.modQueue q (fun d => { d with fetching := false })
    match (s.queue q).cur with
    | some c => if c.d.gone && c.d.idx == i then s.errorHalt q 0x10 addr 0 0 5 else s.failedAhead q i n addr
    | none => (s.failedAhead q i n addr).kick q
  | _ => s

/-- Data of a fetch has come whole: it wakes the core (R90, R92) and waits for DESCRIPTOR_ARRIVAL or EXTENSION_ARRIVAL, or is discarded (R247). -/
def State.fetchDone (s : State) (q : Nat) (purpose : HPurpose) (bs : List Byte) : State :=
  match purpose with
  | .fetch _ i _ => (s.wakeRegion 34).modQueue q (fun d => { d with arrived := some (i, bs) })
  | .ext _ =>
    let s := s.wakeRegion 34
    if (s.queue q).extLost then s.extEnds q else s.modQueue q (fun d => { d with extArrived := some bs })
  | _ => s

/-- DISABLE. -/
def State.disableQueue (s : State) (q : Nat) : State :=
  let st := s.get Q_STATE.state q
  if st = 1 ∨ st = 5 ∨ st = 6 ∨ st = 7 then
    let s := if (s.queue q).held.isSome then s.bump (queueCtr q 3) else s
    let s := ((s.clearHeld q).zeroIndices q).put Q_STATE.state q 0
    ((s.dropFetches q).put Q_STATE.cq_wait q 0).setQueue q { QDyn.reset with moving := (s.queue q).moving }
  else s.rejectCmd q

/-- A write of Q_CMD.op; 0 and 7 have no effect. -/
def State.queueCmd (s : State) (q op : Nat) : State :=
  match op with
  | 1 => s.enableQueue q
  | 2 => s.stopQueue q
  | 3 | 4 | 5 => s.haltCmd q op
  | 6 => s.disableQueue q
  | _ => s

/-! ### Halts at a request boundary (R152, R188) -/

/-- The channel halts at its next request boundary, with no entry (R152). -/
def State.boundaryHalt (s : State) (q : Nat) : State :=
  let s := s.put Q_STATE.state q 6
  let s := match (s.queue q).cur with
    | some c => s.recordResume q c
    | none => s
  let s := match s.engineOf q with
    | some e => s.drainEngine e
    | none => s
  ((s.loseExt q).modQueue q (fun d => { d with edgeAt := some s.clock })).settleEntry q

/-- Bus Master Enable is cleared, or D3hot entered: what happens to one queue of the function (R152, R243, R251). An extension of before
a halt that is still on its way is discarded as it comes, and a command that waits for it then runs (R247). -/
def State.bmeHalt (s : State) (q : Nat) : State :=
  let st := s.get Q_STATE.state q
  if st = 3 ∨ st = 4 ∨ s.on Q_STATE.cq_wait q then (s.dropFetches q false).boundaryHalt q
  else (s.dropFetches q (!(s.queue q).extLost)).finishEntry q

/-- Listed queues of a function: a queue with anything in progress is listed. -/
def State.activeQueues (s : State) (f : Nat) : List Nat :=
  (s.queues.map (fun x => x.1)).filter (fun q => s.qOwner q == f)

/-- Channels of a function under R152. -/
def State.haltChannels (s : State) (f : Nat) : State := s.each (s.activeQueues f) State.bmeHalt

/-- Entries that are due or held are tried again: what stopped them on their way may be gone (R95). -/
def State.retryEntries (s : State) : State :=
  s.each ((s.queues.filter (fun x => x.2.held.isSome || (s.dueEntry x.1).isSome)).map (fun x => x.1)) State.tryEntry

/-- Queues of a function go on by themselves when Bus Master Enable returns (R152). -/
def State.kickQueues (s : State) (f : Nat) : State := s.each (s.activeQueues f) State.tryEntry

end Sys2Proof.Machine
end

