-- ==== Sys2Proof/Machine/EngineOps.lean ====
section
/-! DEFINITION. Transfer engines: grant, requests, rate limiter, data, pieces and faults (R253 to R271), and the Ledger's
check of their local requests (R214). -/

namespace Sys2Proof.Machine

/-! ### The Ledger's check (R214) -/

/-- Answer of the Ledger to an engine's local request. -/
inductive LocalSeg where
  | denied
  | down
  | found (seg : Nat)
  deriving DecidableEq, Repr

/-- A segment permits a local request of `len` bytes at local address `a`; its port is one that its owner reaches (R3, R177). -/
def State.permits (s : State) (n a len : Nat) (write : Bool) : Bool :=
  s.get SEG_CTRL.kind n == 0 && s.reachesPort (s.get SEG_CTRL.owner n) (s.get SEG_CTRL.port n) && !s.on SEG_CTRL.poisoned n && decide (s.segDst n ≤ a)
    && decide (a + len ≤ s.segDst n + s.segLen n) && (if write then s.on SEG_CTRL.wr n else s.on SEG_CTRL.rd n)

/-- Decides on a local request of owner `f`. -/
def State.localSeg (s : State) (f a len : Nat) (write : Bool) : LocalSeg :=
  match (s.segmentsOf f).filter (fun n => s.permits n a len write) with
  | [] => .denied
  | ns =>
    match ns.find? (fun n => s.portAvailable (s.get SEG_CTRL.port n)) with
    | some n => .found n
    | none => .down

/-! ### Requests (R256, R257) -/

/-- Length of the request at stream byte `x` of a side: to the end of the line, a 4 KiB boundary or `lim`. -/
def Side.cut (d : Side) (x lim : Nat) : Nat :=
  let a := d.at x
  min (min (d.len - x % d.len) (4096 - a % 4096)) (max 1 lim)

/-- Largest request of a local side at an address: the local maximum payload of the port that the Ledger names. -/
def State.localLimit (s : State) (f a : Nat) (write : Bool) : Nat :=
  match s.localSeg f a 1 write with
  | .found n => s.localMax (s.get SEG_CTRL.port n)
  | _ => 256

/-- Byte of an engine's read buffer at a stream position, when it has arrived. -/
def EngDyn.byte? (d : EngDyn) (x : Nat) : Option Byte :=
  d.buf.findSome? (fun c => if c.1 ≤ x ∧ x < c.1 + c.2.length then c.2[x - c.1]? else none)

/-- Stream bytes `[a, b)` have all arrived. -/
def EngDyn.has (d : EngDyn) (a b : Nat) : Bool := (List.range (b - a)).all (fun i => (d.byte? (a + i)).isSome)

/-- Read buffer bytes in use or reserved (R258). -/
def EngDyn.space (d : EngDyn) : Nat :=
  ((d.buf.map (fun c => c.1 + c.2.length - max c.1 d.usedAt)).foldl (· + ·) 0) + ((d.reads.map (fun r => r.2)).foldl (· + ·) 0)

/-! ### Rate limiter (R262, R263) -/

/-- The model's clock in 1/256 CCLK. -/
def State.ticks (s : State) : Nat := s.clock * 2048 / 5

/-- First CCLK edge at or after a time in 1/256 CCLK. -/
def edgeFrom (t : Nat) : Nat := roundUp t 256

/-- Spacing of a request of `n` bytes, L × 256 / (c × B), in 1/256 CCLK. DESIGN CHOICE: rounded down at each request (log entry
68). -/
def spacing (n cap rate128 : Nat) : Nat := n * 8388608 / max 1 (cap * rate128)

/-- Allowance after a request at edge `t` (R262). -/
def nextAllowed (allowed t step : Nat) : Nat := (if t - allowed < 256 then allowed else t) + step

/-- Issues a local request under the limiter: it waits for the allowance of its own side, which stands when the cap changes (R264); with
a cap of 256 it sets none. It goes at the edge `at_`, or at the next one. Answers none when the engine must wait. -/
def State.limited (s : State) (e q n p : Nat) (write : Bool) (at_ : Option Nat) : Option State :=
  let c := s.effCap q
  let d := s.eng e
  let allowed := if write then d.allowedDst else d.allowedSrc
  let t := at_.getD (edgeFrom s.ticks)
  if t < allowed then none
  else if 256 ≤ c then some s
  else
      let a := nextAllowed allowed t (spacing n c (s.portRate128 p))
      some (s.modEng e (fun d => if write then { d with allowedDst := a } else { d with allowedSrc := a }))

/-- The engine waits on its limiter. -/
def State.startPace (s : State) (e : Nat) : State :=
  if (s.eng e).paceFrom.isSome then s
  else (s.put TE_STATUS.pacing e 1).modEng e (fun d => { d with paceFrom := some s.clock })

/-! ### One request (R214, R256 to R258) -/

/-- What an engine could do about its next request. -/
inductive EngStep where
  /-- A request was issued. -/
  | went (s : State)
  /-- Nothing can be done now. -/
  | stuck (s : State)
  /-- The limiter holds the request. -/
  | paced (s : State)
  /-- The channel has halted. -/
  | halted (s : State)
  deriving DecidableEq, Repr

/-- Halt on the Ledger's answer (R214, R266). -/
def State.ledgerHalt (s : State) (q a : Nat) (denied write : Bool) : State :=
  s.errorHalt q (if denied then 0x13 else 0x14) a (b2n write) 1 2

/-- Wire deadline of a queue's requests: the effective deadline of its descriptor (R257, R276); a demoted descriptor
runs as untagged. -/
def descWire (d : Prefetched) : Option Nat := if d.demoted then none else d.deadline.map (fun k => k % 65536)

/-- Next source read of the engine's piece. -/
def State.readStep (s : State) (e q : Nat) (c : Current) (at_ : Option Nat) : EngStep :=
  let d := s.eng e
  let side := srcSide c.words
  let f := s.qOwner q
  let x := d.readAt
  if side.bytes ≤ x ∨ 256 ≤ d.reads.length then .stuck s
  else
    let a := side.at x
    if side.isLocal then
      let n := side.cut x (s.localLimit f a false)
      if 65536 < d.space + n then .stuck s
      else
        match s.localSeg f a n false with
        | .denied => .halted (s.ledgerHalt q a true false)
        | .down => .halted (s.ledgerHalt q a false false)
        | .found g =>
          let p := s.lead (s.get SEG_CTRL.port g)
          match s.freeLTag p with
          | none => .stuck s
          | some t =>
            match s.limited e q n p false at_ with
            | none => .paced s
            | some s =>
              let v := s.get SEG_CTRL.vc g
              let pa := a - s.regionBase p
              let tag : LTag := { fn := f, fgen := s.get FUNC_STATE.gen f, q := some q, qgen := s.get Q_STATE.gen q, v := v,
                                  seg := none, addr := pa, base := s.regionBase p, len := n, purpose := .engine e x, held := false, dead := false }
              let s := s.modPort p (fun d => { d with ltags := d.ltags ++ [(t, tag)] })
              let s := s.modEng e (fun d => { d with readAt := x + n, reads := d.reads ++ [(x, n)] })
              .went (s.enqueue p { fn := f, fromHost := true, key := c.d.key, origin := .engineRead e, waits := false,
                                   frame := { Frame.blank 1 v with deadline := descWire c.d, tag := t, rdLen := n, addr := pa } })
    else
      let n := side.cut x (s.mrrs f)
      if 65536 < d.space + n ∨ !s.canMaster f then .stuck s
      else
        let (p, v) := s.descPort q c.d.words
        let s := s.modEng e (fun d => { d with readAt := x + n, reads := d.reads ++ [(x, n)] })
        .went (s.askHost { fn := f, fgen := s.get FUNC_STATE.gen f, q := some q, qgen := s.get Q_STATE.gen q,
                           seg := none, p := p, v := v, fromHost := true, id := s.nextId, pasid := s.queuePasid q,
                           addr := a, len := n, be := 0, key := c.d.key, tagged := (descWire c.d).isSome,
                           purpose := .engine e x })

/-- The destination bytes `[x, x + n)` of a piece, as the holding register produces them. -/
def EngDyn.produce (d : EngDyn) (ws : List Word) (x n : Nat) : List Byte :=
  (List.range n).map (fun i => convByte ws (fun j => (d.byte? j).getD 0) (x + i))

/-- The destination write of `n` bytes at stream byte `x` has been issued: progress, and the source bytes that are no
longer needed leave the read buffer (R258, R274). -/
def State.wrote (s : State) (e q : Nat) (c : Current) (x n : Nat) : State :=
  let u := srcStart c.words (x + n)
  let s := s.modEng e (fun d => { d with usedAt := u, buf := d.buf.filter (fun k => decide (u < k.1 + k.2.length)) })
  let s := s.modQueue q (fun d => { d with cur := some { c with issued := x + n } })
  (s.put TE_PROGRESS.dst_issued e (x + n)).bumpBy (engCtr e 1) n

/-- Next destination write of the engine's piece, once the holding register has every byte of it. A host write waits for the slices it
passes, and wakes them (R11, R95). -/
def State.writeStep (s : State) (e q : Nat) (c : Current) (at_ : Option Nat) : EngStep :=
  let d := s.eng e
  let side := dstSide c.words
  let f := s.qOwner q
  let x := c.issued
  if side.bytes ≤ x then .stuck s
  else
    let a := side.at x
    let n := side.cut x (if side.isLocal then s.localLimit f a true else s.mps f)
    if !d.has (srcStart c.words x) (srcNeeded c.words (x + n)) then .stuck s
    else if side.isLocal then
      match s.localSeg f a n true with
      | .denied => .halted (s.ledgerHalt q a true true)
      | .down => .halted (s.ledgerHalt q a false true)
      | .found g =>
        let p := s.lead (s.get SEG_CTRL.port g)
        match s.limited e q n p true at_ with
        | none => .paced s
        | some s =>
          let v := s.get SEG_CTRL.vc g
          let data := d.produce c.words x n
          let s := s.modQueue q (fun k => { k with unacked := k.unacked ++ [⟨c.piece, x, n, c.ext, c.before, a⟩] })
          let s := s.wrote e q c x n
          .went (s.enqueue p { fn := f, fromHost := true, key := c.d.key, origin := .engineWrite e q c.piece x n, waits := false,
                               frame := { Frame.blank 2 v with deadline := descWire c.d, addr := a - s.regionBase p, payload := data } })
    else if !s.canMaster f ∨ s.hostPathBusy q c.d.words then .stuck s
    else
      let s := s.callHost [engSlice e] f
      if !s.hostOpen [engSlice e] f then .stuck s
      else
      let data := d.produce c.words x n
      .went ((s.hostWrite f (s.queuePasid q) a data).wrote e q c x n)

/-! ### Running a piece (R238, R255, R261) -/

/-- First destination byte that a piece writes from its resume point: in host memory a byte that lies inside an element restarts
with the whole element (R270). -/
def restartAt (ws : List Word) (x : Nat) : Nat :=
  if convOf ws = 0 ∨ (dstSide ws).isLocal then x else x / dstElem ws * dstElem ws

/-- The engine takes a piece of its channel's descriptor: both sides at the resume point, nothing read yet. -/
def State.beginPiece (s : State) (e q : Nat) (c : Current) : State :=
  let c := { c with issued := restartAt c.words c.issued }
  let u := srcStart c.words c.issued
  let s := s.modEng e (fun d => { d with readAt := u, usedAt := u, buf := [] })
  let s := s.modQueue q (fun d => { d with cur := some c })
  (s.put TE_PROGRESS.piece e c.piece).put TE_PROGRESS.dst_issued e c.issued

/-- The descriptor has issued every request: the engine is released, and the entry is due once its writes are accepted
(R255). Q_STATE.state keeps 3 until the entry has been written (log entry 61, DESIGN CHOICE). -/
def State.finishRun (s : State) (e q status : Nat) : State :=
  let s := s.modQueue q (fun d => { d with cur := d.cur.map (fun c => { c with ended := some status }) })
  ((s.releaseEngine e).bump (engCtr e 2)).finishEntry q

/-- What follows a piece whose requests have all been issued and whose reads have all returned: the next piece, the end
of the descriptor, or a wait for the extension (R238). Answers whether the engine can go on. -/
def State.nextPiece (s : State) (e q : Nat) (c : Current) : Bool × State :=
  let b := c.before + (dstSide c.words).bytes
  let quit (st : Nat) : Bool × State := (false, s.finishRun e q st)
  if !hasNext (c.piece == 0) c.words then quit 0
  else if pointerOf c.words % 64 ≠ 0 then quit 0x05
  else if 4096 ≤ c.piece then quit 0x06
  else
    match c.next with
    | none => (false, s)
    | some (a, ws, bad) =>
      if bad ≠ 0 then quit bad
      else
        (true, s.beginPiece e q { c with piece := c.piece + 1, words := ws, ext := a, before := b, issued := 0, next := none,
                                         asked := false, fetchKey := s.implicitKey (s.qOwner q) })

/-- Lets an engine issue what it can, `fuel` requests at most, at the edge `at_` or now. -/
def State.runFor (s : State) (e q : Nat) : Nat → Option Nat → State
  | 0, _ => s
  | fuel + 1, at_ =>
    match (s.queue q).cur with
    | none => s
    | some c =>
      if c.ended.isSome ∨ (s.eng e).draining ∨ (s.eng e).q ≠ some q then s
      else
        match s.writeStep e q c at_ with
        | .went t => (t.endPace e).runFor e q fuel at_
        | .halted t => t
        | .paced t =>
          match t.readStep e q c at_ with
          | .went u => u.runFor e q fuel at_
          | .halted u => u
          | .paced u | .stuck u => u.startPace e
        | .stuck t =>
          match t.readStep e q c at_ with
          | .went u => (u.endPace e).runFor e q fuel at_
          | .halted u => u
          | .paced u => u.startPace e
          | .stuck u =>
            if (dstSide c.words).bytes ≤ c.issued ∧ (u.eng e).reads.isEmpty ∧ (srcSide c.words).bytes ≤ (u.eng e).readAt then
              let (more, v) := u.nextPiece e q c
              if more then v.runFor e q fuel at_ else v
            else u

/-- Lets an engine run. The fuel exceeds the requests that its buffers can hold at once. -/
def State.runEngine (s : State) (e : Nat) (at_ : Option Nat := none) : State :=
  match (s.eng e).q with
  | none => s
  | some q => (s.runFor e q 1048576 at_).noteEngine e

/-- Every engine that runs a channel looks again for what it can issue: a tag or a place on a path has become free. -/
def State.runEngines (s : State) : State :=
  s.each ((s.engines.filter (fun e => e.2.q.isSome && !e.2.draining)).map (fun e => e.1)) (fun s e => s.runEngine e)

/-! ### The engine arbiter (R254, R272, R279) -/

/-- The group is powered up, its clocks at most gated, and awaits no recovery. -/
def State.groupRunning (s : State) (g : Nat) : Bool :=
  s.isUp && decide (s.egState g ≤ 1) && (List.range 8).all (fun i => !(s.eng (8 * g + i)).offline)

/-- Lowest-numbered idle engine of a group. -/
def State.idleEngine (s : State) (g : Nat) : Option Nat :=
  ((List.range 8).map (fun i => 8 * g + i)).find? (fun e => (s.eng e).q.isNone)

/-- Channels of a group that are candidates, with their head descriptors. -/
def State.engineCands (s : State) (g : Nat) : List (Nat × Prefetched) :=
  s.queues.filterMap (fun x =>
    if s.get Q_CFG.eg x.1 = g ∧ (s.engineOf x.1).isNone then (s.readyHead x.1).map (fun d => (x.1, d)) else none)

/-- An engine is bound to a channel and starts its head descriptor. DESIGN CHOICE: a descriptor that RESUME goes on with starts with
allowance 0 as well (log entry 68). -/
def State.bindEngine (s : State) (e q : Nat) : State :=
  let f := s.qOwner q
  let s := match (s.queue q).cur, (s.queue q).pref with
    | none, d :: ds =>
      s.modQueue q (fun x => { x with pref := ds, cur := some (startCurrent d none (s.implicitKey f)) })
    | _, _ => s
  match (s.queue q).cur with
  | none => s
  | some c =>
    let s := s.setEng e { EngDyn.reset with q := some q, boundAt := s.clock }
    let s := (s.put Q_STATE.state q 3).modQueue q (fun d => { d with lastEng := some e })
    let s := ((s.put TE_STATUS.state e 1).put TE_STATUS.channel e q).put TE_STATUS.function_ e f
    let s := s.put TE_STATUS.desc_index e c.d.idx
    (s.beginPiece e q c).runEngine e

/-- One grant of a group's engine arbiter. A channel that waits at a gated group wakes it (R92, R95). -/
def State.engineGrant (s : State) (g : Nat) : State :=
  let s := if s.isUp && !(s.engineCands g).isEmpty then s.wakeRegion (24 + g) else s
  if !s.groupRunning g then s
  else
    match s.idleEngine g with
    | none => s
    | some e =>
      let cs := s.engineCands g
      match s.arbitrate (pointEngine g) (cs.map (fun c => ⟨c.1, c.2.key, c.2.deadline.isSome && !c.2.demoted⟩)) with
      | none => s
      | some q => (s.servedAt (pointEngine g) q).bindEngine e q

/-! ### Data and extensions -/

/-- Data of an engine read arrives: it enters the read buffer, or is discarded while the engine drains (R258, R269).
`done` tells that the read has returned whole. -/
def State.engineData (s : State) (e pos ofs : Nat) (bs : List Byte) (done : Bool) : State :=
  let d := s.eng e
  let s := if d.draining then s else s.bumpBy (engCtr e 0) bs.length
  let s := s.modEng e (fun d => { d with
    buf := if d.draining ∨ bs.isEmpty then d.buf else d.buf ++ [(pos + ofs, bs)]
    reads := if done then d.reads.filter (fun r => r.1 ≠ pos) else d.reads.map (fun r =>
      if r.1 = pos ∧ ¬ d.draining then (r.1, r.2 - min r.2 bs.length) else r) })
  if d.draining then s.noteEngine e else s.runEngine e

/-- A read of an engine ends in an error: latched for its channel, or counted while the engine drains (R267). -/
def State.engineError (s : State) (e pos status addr space source : Nat) : State :=
  let s := s.modEng e (fun d => { d with reads := d.reads.filter (fun r => r.1 ≠ pos) })
  match (s.eng e).q with
  | none => s
  | some q =>
    if (s.eng e).draining && !s.haltsBoth q then (s.bump (engCtr e 6)).noteEngine e else s.errorHalt q status addr 0 space source

/-- Every read of a draining engine has ended: the engine becomes idle, and a command that waited runs (R251, R269). -/
def State.drained (s : State) (e : Nat) : State :=
  let d := s.eng e
  if d.draining && d.reads.isEmpty then
    let s := s.releaseEngine e
    match d.q with
    | some q => s.runWaiting q
    | none => s
  else s

/-- An extension arrives (R238, R240): judged, admitted for its piece, and its piece started if the engine waits. -/
def State.takeExtension (s : State) (q : Nat) : State :=
  match (s.queue q).extArrived, (s.queue q).cur with
  | some bs, some c =>
    let ws := descWords bs
    let bad := extStatus ws
    let again := c.words.isEmpty
    let piece := if again then c.piece else c.piece + 1
    let (d, s) := if bad = 0 ∧ c.tested ≤ piece then s.tryAdmission q c.d ws else (c.d, s)
    let c := { c with d := d, asked := !again, tested := max c.tested (piece + 1) }
    let c := if again then { c with words := if bad = 0 then ws else c.words, ended := if bad = 0 then none else some bad }
      else { c with next := some (pointerOf c.words, ws, bad) }
    let s := s.modQueue q (fun x => { x with extArrived := none, cur := some c })
    match s.engineOf q with
    | some e => s.runEngine e
    | none => s.finishEntry q
  | some _, none => s.modQueue q (fun x => { x with extArrived := none })
  | none, _ => s

/-- Next CCLK edge, in 1/256 CCLK, at which a local side of the piece reaches its allowance (R262). -/
def State.limiterDue (s : State) (e : Nat) (c : Current) : Option Nat :=
  let d := s.eng e
  let sides := (if (srcSide c.words).isLocal then [d.allowedSrc] else []) ++ (if (dstSide c.words).isLocal then [d.allowedDst] else [])
  ((sides.filter (fun a => edgeFrom s.ticks < a)).map edgeFrom).min?

/-- The limiter's time is reached: the local request that waits for it is issued. A request whose time has passed already goes
now; otherwise time passes up to the earliest allowance (R262). -/
def State.limiterRelease (s : State) (e : Nat) : State :=
  if (s.eng e).paceFrom.isNone then s
  else
    let r := s.runEngine e
    let went := (r.eng e).allowedSrc != (s.eng e).allowedSrc || (r.eng e).allowedDst != (s.eng e).allowedDst
    match (r.eng e).paceFrom, (r.eng e).q with
    | some _, some q =>
      if went then r
      else
        (match (r.queue q).cur.bind (r.limiterDue e) with
        | some t => (r.advance (t * 5 / 2048 - r.clock)).runEngine e (some t)
        | none => r)
    | _, _ => r

/-! ### Acceptance of local writes (R255, R268) -/

/-- A local write is acknowledged: accepted. -/
def State.writeAccepted (s : State) (q piece ofs : Nat) : State :=
  let s := s.modQueue q (fun d => { d with unacked := d.unacked.filter (fun u => !(u.piece == piece && u.ofs == ofs)) })
  (s.finishEntry q).runWaiting q

/-- A local write is dropped unacknowledged: it counts as not issued, so the resume point goes back to it, and the
channel halts with PORT_DOWN (R218, R266, R268); one that has halted already counts the error at its engine (R267, R273). -/
def State.writeDropped (s : State) (e q piece ofs : Nat) : State :=
  let d := s.queue q
  match d.unacked.find? (fun u => u.piece == piece && u.ofs == ofs), d.cur with
  | some u, some c =>
    let back := decide (u.piece < c.piece) || (decide (u.piece = c.piece) && decide (u.ofs < c.issued))
    let c := if back then { c with piece := u.piece, words := if u.piece = c.piece then c.words else [], ext := u.ext,
                                   before := u.before, issued := u.ofs, ended := none, next := none }
      else c
    let s := s.modQueue q (fun x => { x with unacked := x.unacked.filter (fun v => v ≠ u), cur := some c })
    let st := s.get Q_STATE.state q
    if (st = 6 ∨ st = 7) ∧ !s.haltsBoth q then ((s.bump (engCtr e 6)).recordResume q c).settleEntry q
    else s.errorHalt q 0x14 u.addr 1 1 3
  | _, _ => s.modQueue q (fun x => { x with unacked := x.unacked.filter (fun u => !(u.piece == piece && u.ofs == ofs)) })

/-! ### Engine faults (R271) -/

/-- A fault of a group: its running channels halt with ENGINE_FAULT and no engine takes a channel until recovery. -/
def State.groupFault (s : State) (e : Nat) (hold : Bool) : State :=
  let g := e / 8
  let d := s.eng e
  let s := s.put (if hold then TE_FAULT.hold_parity else TE_FAULT.rdbuf_ue) e 1
  let s := (s.flag TE_FAULT.bound e d.q.isSome).put TE_FAULT.channel e (d.q.getD 0)
  let qs := (List.range 8).filterMap (fun i => (s.eng (8 * g + i)).q)
  let live := qs.filter (fun q => s.get Q_STATE.state q == 3 || s.get Q_STATE.state q == 4)
  let fns := live.foldl (fun fs q => insertNat (s.qOwner q) fs) []
  let s := s.each live (fun s q => s.errorHalt q 0x17 0 0 0 4)
  let s := s.each (List.range 8) (fun s i => s.modEng (8 * g + i) (fun d => { d with offline := true }))
  s.report 4 (if hold then 1 else 2) g (BitVec.ofNat 64 e) 0 fns

/-- What a parity or ECC check of an engine finds (R271); the fault line is masked while the group is not running (R272). -/
def State.engineFault (s : State) (e : Nat) (k : EngineFault) : State :=
  if s.egState (e / 8) ≠ 0 then s
  else match k with
  | .holdParity => s.groupFault e true
  | .rdbufUe => s.groupFault e false
  | .rdbufCe => ((s.put TE_FAULT.rdbuf_ce e 1).bump (engCtr e 5)).report 4 0 (e / 8) (BitVec.ofNat 64 e)

end Sys2Proof.Machine
end

