-- ==== Sys2Proof/Machine/Ports.lean ====
section
/-! DEFINITION. States of a Joist port: idle timers, doze and sleep, up, down, reset, lane sets and test (R317, R328 to
R330, R338 to R347, R364, R366). -/

namespace Sys2Proof.Machine

/-! ### One-unit frames -/

/-- Sends a PM frame (R344). -/
def State.sendPm (s : State) (p code : Nat) : State :=
  let s := s.endDoze p
  let w := s.linkWord p 4 0 0 0
  ((s.emit (.pm p w code)).queueUnits p [unit16 w (BitVec.ofNat 64 code)]).noteAck p

/-- The idle interval has passed (R328). -/
def State.idleDue (s : State) (p : Nat) : State :=
  if s.get JP_STATUS.link_state p = 3 ∧ !s.on JP_STATUS.tx_doze p then s.sendIdle p else s

/-! ### Plank table (R181 to R183) -/

/-- Window of plank `j`: the lowest-numbered window segment of PF0 that targets JPj below 16 GiB (R182). -/
def State.plankWindow (s : State) (j : Nat) : Option Nat :=
  s.segsListed.find? (fun n => s.get SEG_CTRL.owner n == 0 && s.get SEG_CTRL.kind n == 0 && s.get SEG_CTRL.port n == j
    && decide (s.segSrc n + s.segLen n ≤ 2 ^ 34))

/-- Plank `j` as the state has it (R182). -/
def State.plankBytes (s : State) (j : Nat) : List Byte :=
  let w := s.plankWindow j
  let flags := b2n (s.port j).present + 2 * b2n (s.get JP_STATUS.link_state (s.lead j) == 3) + 4 * b2n (s.scarfed j)
    + 8 * b2n w.isSome
  leBytes 1 j ++ leBytes 1 flags ++ leBytes 1 (min 2 (s.get JP_CFG.rate (s.lead j))) ++ leBytes 1 (s.vcCount j)
    ++ leBytes 2 (if s.get Q_CFG.owner j = 0 then j else 0xFFFF) ++ leBytes 1 (s.msiVector j) ++ leBytes 1 (s.msiVector (12 + j))
    ++ (match w with
      | some n => leBytes 8 (s.segSrc n) ++ leBytes 8 (s.segLen n) ++ leBytes 8 (s.segDst n % 2 ^ 48)
      | none => leBytes 24 0)

/-- What the plank table would report now: the vectors granted, then the planks. -/
def State.planksNow (s : State) : List Byte := leBytes 1 s.msiLog2 ++ (List.range 12).flatMap s.plankBytes

/-- The plank table is rebuilt whole: a new generation, dated now (R183). -/
def State.rebuildPlank (s : State) : State :=
  if s.compat then { s with plankGen := s.plankGen + 1, plankTime := s.devtime, planks := s.planksNow } else s

/-- JPp has come up or gone down: of JP0 to JP11 this rebuilds the plank table (R183). -/
def State.portPlank (s : State) (p : Nat) : State := if p < 12 then s.rebuildPlank else s

/-! ### Reset (R66, R341) -/

/-- The port led by `p` is enabled. -/
def State.portEnabled (s : State) (p : Nat) : Bool := s.on JP_CTRL.enable p

/-- Every member of the port has its local device present (R367). -/
def State.allPresent (s : State) (p : Nat) : Bool := (s.members p).all (fun m => (s.port m).present)

/-- A lane of the port has a loop or a PRBS enable (R317). -/
def State.inTest (s : State) (p : Nat) : Bool :=
  (s.portLanes p).any (fun l => s.on JL_CTRL.loop l || s.on JL_PRBS.gen_en l || s.on JL_PRBS.chk_en l)

/-- A lane of the pair of `p` has a loop or a PRBS enable. -/
def State.pairInTest (s : State) (p : Nat) : Bool :=
  (List.range 4).any (fun j => let l := 4 * (p / 2) + j
    s.on JL_CTRL.loop l || s.on JL_PRBS.gen_en l || s.on JL_PRBS.chk_en l)

/-- Stops every timer of a port's link and of its tags. -/
def State.stopPortTimers (s : State) (p : Nat) : State :=
  s.disarmAll (fun t => linkTimer p t || (match t with
    | .training q | .wake q | .downHold q | .portReset q => p == q
    | .response q _ | .tagHold q _ => p == q
    | _ => false))

/-- The port enters reset: lanes in reset, LOCAL_RESETj_N low for 100 µs (R66, R341). -/
def State.enterReset (s : State) (p : Nat) : State :=
  let s := s.stopPortTimers p
  let s := s.each (s.members p) (fun s m => (s.put JP_STATUS.link_state m 1).modPort m (fun d => { d with resetOut := true, waking := false }))
  let s := s.each (s.portLanes p) (State.stopLane · 1)
  s.arm (.portReset p) 100000

/-- A port whose reset has been released trains once its device is present and its bay runs. -/
def State.tryTrain (s : State) (p : Nat) : State :=
  if s.get JP_STATUS.link_state p == 1 && !(s.port p).resetOut && s.allPresent p && s.portEnabled p && !s.inTest p then
    if s.bayState (bayOf p) = 0 then s.startTraining p else s.wakeRegion (bayOf p)
  else s

/-- Leads of the ports of a bay. -/
def State.bayLeads (s : State) (b : Nat) : List Nat := ((List.range 4).map (fun j => 4 * b + j)).filter (fun p => s.lead p == p)

/-- bay_reset is cleared once LOCAL_RESETj_N of every enabled port of the bay has been released (R351). -/
def State.bayReleased (s : State) (b : Nat) : State :=
  if (s.bayLeads b).all (fun q => !s.portEnabled q || !(s.port q).resetOut) then s.put BAY_CTRL.bay_reset b 0 else s

/-- The port is disabled: LOCAL_RESETj_N asserted (R341). -/
def State.disablePort (s : State) (p : Nat) : State :=
  let s := s.stopPortTimers p
  let s := s.each (s.members p) (fun s m => (s.put JP_STATUS.link_state m 0).modPort m (fun d => { d with resetOut := true, waking := false }))
  (s.each (s.portLanes p) (State.stopLane · (if s.inTest p then 7 else 1))).bayReleased (bayOf p)

/-- LOCAL_RESETj_N is released 100 µs after its assertion (R66, R341, R351); a bay held in reset keeps it low (R399). -/
def State.releaseReset (s : State) (p : Nat) : State :=
  let b := bayOf p
  if !s.mayServe (100 + b) || s.get BRACE_DSTATE.state (100 + b) == 1 then s else
  let s := s.each (s.members p) (fun s m => s.modPort m (fun d => { d with resetOut := false }))
  let s := s.put JP_CTRL.port_reset p 0
  let s := if s.bayState b = 5 then { ((s.setBayState b 0).bump (modCtr 5)) with warm := insertNat b s.warm } else s
  ((s.lanesRun b).bayReleased b).tryTrain p

/-! ### Down (R218, R345) -/

/-- BAR4 writes whose last frame had not been accepted, once each: identifier and function. -/
def lostWrites (fs : List EgFrame) : List (Nat × Nat) :=
  fs.foldl (fun ws e => match e.origin with
    | .windowWrite id f _ _ _ => if ws.any (fun w => w.1 == id) then ws else ws ++ [(id, f)]
    | _ => ws) []

/-- The frame carries a request that the module makes of the local device. -/
def EgFrame.asks (e : EgFrame) : Bool :=
  match e.origin with
  | .windowWrite _ _ _ _ _ | .windowRead _ | .engineWrite _ _ _ _ _ | .engineRead _ => true
  | _ => false

/-- What a port keeps when it becomes not available: nothing where its link is down. Where the link stays up, under an error of
its PRT entry, the traffic of its device and the frames that the link must still acknowledge go on, and the tags of reads that
have left stay in use until they are answered (R221, R357; log entry 59, DESIGN CHOICE). -/
def PortDyn.cut (d : PortDyn) (up : Bool) : PortDyn :=
  let unsent := (d.egress.filter (fun e => e.asks && e.frame.type == 1)).map (fun e => e.frame.tag)
  { d with
    egress := if up then d.egress.filter (fun e => !e.asks) else []
    replay := if up then d.replay.map (fun e => if e.2.asks then (e.1, { e.2 with origin := .time }) else e) else []
    ingress := if up then d.ingress else []
    ltags := if up then (d.ltags.filter (fun t => !unsent.contains t.1)).map (fun t => (t.1, { t.2 with dead := true })) else []
    dtags := if up then d.dtags else []
    reads := d.reads.map (fun r => if r.whole then r else { r with down := true }) }

/-- What an engine's channel loses with its port: a write that had not been accepted, or a read that had not returned, at their places in
the stream. -/
inductive Loss where
  | write (e q piece ofs : Nat)
  | read (e piece pos addr : Nat)
  deriving DecidableEq, Repr

/-- Place of a loss in its stream. -/
def Loss.place : Loss → Nat × Nat
  | .write _ _ piece ofs => (piece, ofs)
  | .read _ piece pos _ => (piece, pos)

/-- A loss takes its place among others, lowest first (R267). -/
def insertLoss (x : Loss) : List Loss → List Loss
  | [] => [x]
  | y :: ys =>
    if decide (x.place.1 < y.place.1) || (decide (x.place.1 = y.place.1) && decide (x.place.2 < y.place.2)) then x :: y :: ys
    else y :: insertLoss x ys

/-- The losses of some frames and tags, lowest stream offset first (R267). -/
def State.losses (s : State) (frames : List EgFrame) (tags : List (Nat × LTag)) : List Loss :=
  let ws := frames.filterMap (fun e => match e.origin with
    | .engineWrite e q piece ofs _ => some (Loss.write e q piece ofs)
    | _ => none)
  let rs := tags.filterMap (fun t => match t.2.purpose with
    | .engine e pos => if t.2.held || t.2.dead then none else
        some (Loss.read e (((s.eng e).q.bind (fun q => (s.queue q).cur.map (fun c => c.piece))).getD 0) pos (t.2.addr + t.2.base))
    | _ => none)
  (ws ++ rs).foldl (fun xs x => insertLoss x xs) []

/-- The channel of a loss halts (R218, R266). -/
def State.loseAt (s : State) : Loss → State
  | .write e q piece ofs => s.writeDropped e q piece ofs
  | .read e _ pos addr => s.engineError e pos 0x14 addr 1 3

/-- Requests of a port are completed under R218 when it becomes not available. -/
def State.endRequests (s : State) (p : Nat) : State :=
  let d := s.port p
  let up := s.get JP_STATUS.link_state p == 3
  let frames := d.replay.map (fun e => e.2) ++ d.egress
  let s := if up then s else s.bumpBy (portCtr p 8) d.replay.length
  let s := s.modPort p (fun x => x.cut up)
  let s := s.each (lostWrites frames) (fun s w => (s.bump (fnCtr w.2 7)).bump (portCtr p 20))
  let s := s.each d.reads (fun s r => if r.down || r.whole then s else s.countDown r.fn p r.downOnes)
  let s := s.each (s.losses frames d.ltags) State.loseAt
  let mine : HPurpose → Bool := fun x => match x with
    | .loc q _ _ => q == p && !up
    | _ => false
  let s := s.each (List.range 4) (fun s h => s.modHost h (fun x => { x with
    waiting := x.waiting.filter (fun r => !mine r.purpose)
    tags := x.tags.map (fun t => if mine t.2.req.purpose then (t.1, { t.2 with req := { t.2.req with purpose := .dropped } }) else t) }))
  ((s.answerReads p).noteReplay p).put JP_REPLAY.stalled p 0

/-- Causes that are Brace faults (R345). -/
def faultCause (c : Nat) : Bool := c ∈ [1, 2, 3, 4, 6, 10]

/-- The port goes down with a cause (R345). Already down, reset or disabled, it keeps its state and first cause. -/
def State.portDown (s : State) (p cause : Nat) : State :=
  let st := s.get JP_STATUS.link_state p
  if st = 0 ∨ st = 1 ∨ st = 5 ∨ st = 6 then s
  else
    let s := s.stopPortTimers p
    let s := s.each (s.members p) (fun s m => s.put JP_STATUS.link_state m 5)
    let s := (s.put JP_DOWN_LOG.cause p cause).put JP_DOWN_TIME.devtime p s.devtime
    let s := s.each (s.portLanes p) (State.stopLane · (if cause = 7 then 7 else 1))
    let s := s.each (s.members p) (fun s m =>
      (s.flag JT_SCARF.in_progress m ((s.port m).joining && cause != 3)).modPort m (fun d => { d.freshStream with
        waking := false, tone := false, sleepReq := false, sleepAck := false, opened := false, rxOpen := false
        idleSeen := false, excluded := none, wantMask := none
        timeDue := false, ackDue := false, joining := d.joining && cause != 3 }))
    let s := ((s.put JP_STATUS.tx_doze p 0).put JP_STATUS.rx_doze p 0).put JP_STATUS.far_hold p 0
    let s := (s.endRequests p).judgeHolds p
    let s := s.report 7 (if faultCause cause then 0 else 1) p (BitVec.ofNat 64 cause)
    let s := s.portPlank p
    if cause = 7 then s.each (s.members p) (fun s m => s.put JP_STATUS.link_state m 6)
    else if cause = 8 ∨ cause = 11 then s
    else s.arm (.downHold p) 100000

/-- What follows a port's time in down (R345). A port without its device waits for presence and then enters reset. -/
def State.afterDown (s : State) (p : Nat) : State :=
  if s.get JP_STATUS.link_state p ≠ 5 ∨ s.get BRACE_DSTATE.state (4 + p) = 1 ∨ !s.portMayServe p ∨ s.bayHeld (bayOf p) then s
  else if !s.portEnabled p then s.disablePort p
  else
    let cause := s.get JP_DOWN_LOG.cause p
    if cause = 11 then s
    else if s.on JP_CTRL.port_reset p then s.enterReset p
    else if !s.allPresent p then s
    else if cause = 5 then s.enterReset p
    else if cause = 8 ∨ s.on JP_CTRL.retrain p then s.startTraining p
    else match s.get JP_CTRL.down_action p with
      | 0 => s.startTraining p
      | 1 => s.enterReset p
      | _ => s

/-! ### Up (R342, R364) -/

/-- Sequences, masks and holds at their values on entry to up. -/
def State.freshLink (s : State) (p : Nat) : State :=
  let s := ((s.put JP_SEQ.tx_next p 0).put JP_SEQ.tx_acked p 0xFFF).put JP_SEQ.rx_expected p 0
  let s := ((s.put JP_STATUS.tx_mask p 3).put JP_STATUS.rx_mask p 3).put JP_STATUS.req_mask p 3
  ((s.put JP_STATUS.far_hold p 0).put JP_STATUS.degraded p 0).setWord .JP_REPLAY p 0

/-- The port becomes up once both directions have opened and the far end's first IDLE has come (R342). TIME is its first
DATA frame (R364). -/
def State.portUp (s : State) (p : Nat) : State :=
  let d := s.port p
  if s.get JP_STATUS.link_state p = 2 ∧ d.opened ∧ d.rxOpen ∧ d.idleSeen ∧ s.portMayServe p then
    let s := s.freshLink p
    let s := s.each (s.members p) (fun s m => ((s.put JP_STATUS.link_state m 3).put JT_SCARF.in_progress m 0).modPort m
      (fun x => { x with waking := false, tone := false, joining := false, ackDue := false }))
    let s := ((s.disarm (.training p)).disarm (.wake p)).judgeHolds p
    let s := (s.portPlank p).sendFrame p timeEg
    let t := s.get JT_TIME_CTRL.period_us p
    let s := if t = 0 then s else s.arm (.timeFrame p) (t * 1000)
    ((s.pump p).each (s.portLanes p) State.watchLock).quiet p
  else s

/-- The module opens its first active period: every lane locked, rx_ready sent, and received in two training periods in
a row (R310); a disagreement of the scarf bits keeps the port in training (R369). Its first unit is an IDLE (R342). -/
def State.openPeriod (s : State) (p : Nat) : State :=
  let ls := s.portLanes p
  let good := ls.all (fun l => let d := s.lane l
    s.on JL_STATUS.word_lock l && d.sentReady && decide (2 ≤ d.ready) && d.farScarf == s.scarfed p)
  if s.get JP_STATUS.link_state p = 2 ∧ !(s.port p).opened ∧ good then
    let s := s.each ls (fun s l => (s.endTraining l).openActive l 0 3)
    let w := (s.freshLink p).linkWord p 2 0 0 0
    let s := (s.emit (.idle p w)).queueUnits p (idleUnits w)
    (s.modPort p (fun d => { d with opened := true })).portUp p
  else s

/-! ### Lane sets (R338 to R340) -/

/-- Length of an active period in ns: 4096 words of 136 bits at the lane rate (R295). -/
def State.periodNs (s : State) (p : Nat) : Nat := 557056 * 16 / 225 / 2 ^ min 2 (s.get JP_CFG.rate (s.lead p))

/-- Both masks of a port are full, or it is degraded (R340). -/
def State.judgeDegraded (s : State) (p : Nat) : State :=
  s.flag JP_STATUS.degraded p (s.get JP_STATUS.tx_mask p != 3 || s.get JP_STATUS.rx_mask p != 3)

/-- A removal of lane `x` from service is recorded and counted (R340). -/
def State.countDrop (s : State) (p x : Nat) : State := (s.bump (portCtr p 9)).report 7 2 p (BitVec.ofNat 64 x)

/-- Units that a period takes on the lanes of a port (R321, R370). -/
def State.periodUnits (s : State) (p : Nat) : Nat :=
  if s.scarfed p then 4 * 4092 else ([0, 1].map (fun x => 4092 * b2n (natBit (s.get JP_STATUS.tx_mask p) x))).sum

/-- The transmit mask is to take a value at the boundary that comes next: LANE_SET announces it as the last frame of the period being sent,
which NULL units then fill. Where the frames started fill that period, the announcement waits for the next one (R338, R339, log entry 73). -/
def State.announceMask (s : State) (p m : Nat) : State :=
  let n := ((s.port p).txq.map (fun us => us.length)).sum
  if s.periodUnits p ≤ n then s
  else
    let s := s.endDoze p
    let w := s.linkWord p 3 0 0 0
    let c := ((s.lane (2 * p)).txCount + 1) % 256
    let s := ((s.emit (.laneSet p w m c)).queueUnits p [unit16 w (BitVec.ofNat 64 (m + 256 * c))]).noteAck p
    s.modPort p (fun d => { d with wantMask := none, maskDue := some m })

/-- The transmit mask takes its value at a period boundary, and frames start again (R339). -/
def State.changeTxMask (s : State) (p m : Nat) : State :=
  let old := s.get JP_STATUS.tx_mask p
  let s := (s.put JP_STATUS.tx_mask p m).modPort p (fun d => { d with maskDue := none })
  let s := s.each [0, 1] (fun s x => if natBit old x ∧ !natBit m x then s.countDrop p x else s)
  s.judgeDegraded p

/-! ### Periods that the port sends (R302, R305, R310, R321, R322) -/

/-- What a period's slots carry: `cap` units at most; before each frame so many NULL units as `nulls` gives it, and none before the rest of
one that is under way. Answers the units, the frames left, and how many units the first of those still owes when it has been cut. -/
def layUnits (cut : Bool) : Nat → List Nat → List (List (BitVec 128)) → List (BitVec 128) × List (List (BitVec 128)) × Nat
  | _, _, [] => ([], [], 0)
  | cap, ns, f :: fs =>
    let n := if cut then 0 else ns.headD 0
    if cap ≤ n then (List.replicate cap 0, f :: fs, 0)
    else if f.length ≤ cap - n then
      let r := layUnits false (cap - n - f.length) (if cut then ns else ns.tail) fs
      (List.replicate n 0 ++ f ++ r.1, r.2)
    else (List.replicate n 0 ++ f.take (cap - n), f.drop (cap - n) :: fs, f.length - (cap - n))

/-- Every `k`-th unit from place `i` on, and NULL units up to 4092. -/
def laneSlots (us : List (BitVec 128)) (k i : Nat) : List (BitVec 128) :=
  let mine := ((List.range us.length).zip us).filterMap (fun e => if e.1 % k = i then some e.2 else none)
  mine ++ List.replicate (4092 - mine.length) 0

/-- Data words of a lane in a period whose unit stream is given; a lane out of service carries zeros (R321, R339, R370). -/
def State.laneWords (s : State) (p : Nat) (us : List (BitVec 128)) (l : Nat) : List (BitVec 128) :=
  let m := s.get JP_STATUS.tx_mask p
  if s.scarfed p then laneSlots us 4 (2 * (l % 2) + l / 2 % 2)
  else if !natBit m (l % 2) then List.replicate 4092 0
  else if m = 3 then laneSlots us 2 (l % 2) else laneSlots us 1 0

/-- The active period of a port ends: every lane sends its period unit and its data words; frames that did not fit go on in the next one. -/
def State.endActive (s : State) (p : Nat) (nulls : List Nat) : State :=
  let d := s.port p
  let k := if s.scarfed p then 2 else 1
  let (us, rest, cut) := layUnits (decide (0 < d.txCut)) (s.periodUnits p) (nulls.map (k * ·)) d.txq
  let ls := (s.portLanes p).filter (fun l => s.get JL_STATUS.state l == 5 && (s.lane l).txOpen)
  let s := s.each ls (fun t l => (t.sendWords l ((t.lane l).txUnit :: s.laneWords p us l)).modLane l (fun d => { d with txOpen := false }))
  s.modPort p (fun d => { d with txq := rest, txCut := cut })

/-- first_unit of the period that opens: where the frame under way ends, when it does (R322). -/
def State.firstUnit (s : State) (p : Nat) : Nat :=
  let n := (s.port p).txCut / (if s.scarfed p then 2 else 1)
  if n < s.periodUnits p / (if s.scarfed p then 2 else 1) then n else 0xFFFF

/-- The far end's transmit mask takes a value. -/
def State.setRxMask (s : State) (p m : Nat) : State :=
  let old := s.get JP_STATUS.rx_mask p
  if m = 0 ∨ s.scarfed p then s
  else
    let s := s.put JP_STATUS.rx_mask p m
    let s := s.each [0, 1] (fun s x => if natBit old x ∧ !natBit m x then s.countDrop p x else s)
    let s := match (s.port p).excluded with
      | some x => if natBit m x then s else s.disarm (.laneSet p)
      | none => s
    (s.judgeDegraded p).watchLock (2 * p)

/-- A lane that lost symbol lock while the other keeps it is excluded (R340). -/
def State.dropLane (s : State) (p x : Nat) : State :=
  let ok := s.get JP_STATUS.link_state p == 3 && !s.scarfed p && s.on JP_CTRL.auto_lane_drop p && (s.port p).excluded.isNone
    && s.inService (2 * p + x) && !s.symbolLock (2 * p + x) && s.inService (2 * p + (1 - x)) && s.symbolLock (2 * p + (1 - x))
  if ok then
    let s := (s.modPort p (fun d => { d with excluded := some x })).put JP_STATUS.req_mask p (2 - x)
    let s := s.arm (.laneSet p) (2 * s.periodNs p + 1000)
    ((s.watchLock (2 * p)).sendIdle p)
  else s

/-- The local device has not taken the excluded lane out of service in time (R340). -/
def State.laneSetFailed (s : State) (p : Nat) : State :=
  match (s.port p).excluded with
  | some x => if natBit (s.get JP_STATUS.rx_mask p) x then s.portDown p 6 else s
  | none => s

/-- The excluded lane has held word lock for 1 ms (R340). -/
def State.relockLane (s : State) (p : Nat) : State :=
  if (s.port p).excluded.isSome then
    let s := (s.modPort p (fun d => { d with excluded := none })).put JP_STATUS.req_mask p 3
    (s.watchLock (2 * p)).sendIdle p
  else s

/-! ### Doze and sleep (R312, R343, R344) -/

/-- The transmit direction enters doze: the period ends, doze markers follow, then electrical idle with keepalives. -/
def State.enterDoze (s : State) (p : Nat) : State :=
  let t := s.endActive p []
  if s.dozeReady p ∧ (t.port p).txq = [] then
    let s := t.each (t.portLanes p) (fun s l => (s.sendMarker l 1).stopSending l)
    ((s.put JP_STATUS.tx_doze p 1).disarm (.idleInterval p)).arm (.doze p) 1000
  else s

/-- A keepalive training period (R312). -/
def State.sendKeepalive (s : State) (p : Nat) : State :=
  if s.on JP_STATUS.tx_doze p then
    (s.each (s.portLanes p) (fun s l => ((s.leaveIdle l).sendMarker l 1).endTraining l)).arm (.doze p) 1000
  else s

/-- The module asks for sleep (R344). -/
def State.askSleep (s : State) (p : Nat) : State :=
  if s.sleepReady p then
    let s := s.sendPm p 1
    (s.modPort p (fun d => { d with sleepReq := true })).arm (.pmReply p) 20000
  else s

/-- The exchange has succeeded: no further DATA frame starts. A direction that dozes leaves doze, since its sleep markers end a period (R309). -/
def State.agreeSleep (s : State) (p : Nat) : State :=
  ((s.endDoze p).modPort p (fun d => { d with sleepReq := false, sleepAck := true })).disarm (.pmReply p)

/-- SLEEP_REQ arrives: crossing requests acknowledge each other (R349). The reply ends doze, and a TIME frame that this sends is a frame
unacknowledged (R344, R364). -/
def State.takeSleepReq (s : State) (p : Nat) : State :=
  if s.get JP_STATUS.link_state p ≠ 3 then s
  else if (s.port p).sleepReq then s.agreeSleep p
  else
    let s := s.endDoze p
    if (s.port p).replay.isEmpty && (s.port p).egress.isEmpty then (s.sendPm p 2).agreeSleep p
    else s.sendPm p 3

/-- SLEEP_ACK arrives. -/
def State.takeSleepAck (s : State) (p : Nat) : State := if (s.port p).sleepReq then s.agreeSleep p else s

/-- The request is refused: the module asks again after a further sleep_us. -/
def State.sleepRefused (s : State) (p : Nat) : State :=
  if (s.port p).sleepReq then
    ((s.modPort p (fun d => { d with sleepReq := false })).disarm (.pmReply p)).quiet p
  else s

/-- Every lane has sent its sleep marker: the port sleeps; a frame that became ready wakes it again (R344, R349). -/
def State.fallAsleep (s : State) (p : Nat) : State :=
  if (s.portLanes p).all (fun l => s.get JL_STATUS.state l == 2) then
    let s := s.disarmAll (linkTimer p)
    let s := ((s.put JP_STATUS.link_state p 4).put JP_STATUS.tx_doze p 0).put JP_STATUS.rx_doze p 0
    let s := s.modPort p (fun d => { d with sleepAck := false, sleepReq := false, waking := false, tone := false })
    if (s.port p).egress.isEmpty then s else s.wakePort p
  else s

/-- The wake tone is detected (R26, R92, R313, R319). -/
def State.toneDetected (s : State) (p : Nat) : State :=
  let st := s.get JP_STATUS.link_state p
  if st = 4 then
    let s := s.modPort p (fun d => { d with waking := true, tone := false })
    ((s.wakeRegion (bayOf p)).wakeRegion (30 + sliceOf p)).trainWoken p
  else if st = 3 ∧ (s.portLanes p).any (fun l => s.get JL_STATUS.state l == 2) then
    ((s.disarmAll (linkTimer p)).modPort p (fun d => { d with waking := true })).startTraining p
  else s

/-! ### Replay (R330) -/

/-- Sends a replayed frame with the current ack, hold and req_mask. -/
def State.resend (s : State) (p : Nat) (e : Nat × EgFrame) : State :=
  let w := s.linkWord p 1 e.2.frame.payload.length e.2.frame.vc e.1
  (s.emit (.frame p e.1 w e.2.frame)).queueUnits p (dataUnits w e.2.frame)

/-- The replay timer reaches its limit. -/
def State.replayAll (s : State) (p : Nat) : State :=
  let rs := (s.port p).replay
  if rs.isEmpty ∨ s.get JP_STATUS.link_state p ≠ 3 then s
  else if max 1 (s.get JP_TIMER1.replay_limit p) ≤ s.get JP_REPLAY.replays p then s.portDown p 2
  else
    let s := (s.endDoze p).put JP_REPLAY.replays p (s.get JP_REPLAY.replays p + 1)
    let s := (s.bump (portCtr p 6)).bumpBy (portCtr p 7) rs.length
    let s := (s.each rs (State.resend · p)).noteAck p
    s.arm (.replay p) (s.replayNs p)

/-! ### Software and presence -/

/-- retrain is written (R345, R350). -/
def State.retrainPort (s : State) (p : Nat) : State :=
  let s := s.put JP_CTRL.retrain p 1
  match s.get JP_STATUS.link_state p with
  | 3 => s.portDown p 9
  | 5 => if s.get JP_DOWN_LOG.cause p = 11 ∨ !s.allPresent p then s else ((s.disarm (.downHold p)).startTraining p)
  | _ => s

/-- port_reset is written (R341, R350); a port in test stays there, with its LOCAL_RESETj_N asserted (R66). -/
def State.resetPort (s : State) (p : Nat) : State :=
  let s := s.put JP_CTRL.port_reset p 1
  match s.get JP_STATUS.link_state p with
  | 0 => s
  | 6 => (s.each (s.members p) (fun s m => s.modPort m (fun d => { d with resetOut := true }))).arm (.portReset p) 100000
  | 3 => s.portDown p 9
  | 5 => if s.get JP_DOWN_LOG.cause p = 11 then s else s.enterReset p
  | 2 | 4 => ((s.endRequests p).enterReset p).portPlank p
  | _ => s.enterReset p

/-- A port in test goes down with its bay (R345). -/
def State.testDown (s : State) (p : Nat) : State :=
  if s.get JP_STATUS.link_state p = 6 then
    let s := s.each (s.members p) (fun s m => s.put JP_STATUS.link_state m 5)
    (s.put JP_DOWN_LOG.cause p 11).put JP_DOWN_TIME.devtime p s.devtime
  else s

/-- A bay's ports go down with cause BAY (R345). -/
def State.bayDown (s : State) (b : Nat) : State := s.each (s.bayLeads b) (fun s p => (s.portDown p 11).testDown p)

/-- Registers of a Joist port, and of a lane, whose plain fields a bay in reset or off holds at their reset values (R88). -/
def bayPortKinds : List RegKind := [.JP_SEQ, .JP_REPLAY, .JT_ERR_LOG, .JT_ERR_ADDR]
def bayLaneKinds : List RegKind := [.JL_CTRL, .JL_SEED, .JL_PRBS]

/-- What a bay that enters reset or goes off leaves of its registers (R88, R90; log entry 42): plain fields at their reset
values and counters at 0, but for what other rules show during the reset: the states of ports, the pins, the
fields that asked for it, and the record of a down with cause BAY. -/
def State.clearBay (s : State) (b : Nat) : State :=
  (s.each (List.range 4) (fun s j =>
    let p := 4 * b + j
    let s := s.put JP_CTRL.retrain p 0
    let st := s.get JP_STATUS.link_state p
    let here := s.get JP_STATUS.present p
    let s := s.each bayPortKinds (fun s k => s.resetPlain k p)
    let s := ((s.resetPlain .JP_STATUS p).put JP_STATUS.link_state p st).put JP_STATUS.present p here
    let s := (s.put JT_SCARF.mismatch p 0).put JT_SCARF.max_skew p 0
    let s := if s.get JP_DOWN_LOG.cause p = 11 then s else (s.resetPlain .JP_DOWN_LOG p).resetPlain .JP_DOWN_TIME p
    s.each [2 * p, 2 * p + 1] (fun s l =>
      let s := s.modLane l (fun d => { d with prbsFrom := none, chkBits := [], chkRun := 0 })
      (s.each bayLaneKinds (fun s k => s.resetPlain k l)).resetPlain .JL_STATUS l))).zeroCtrs b

/-- bay_reset: every enabled port of the bay enters reset (R351). -/
def State.resetBay (s : State) (b : Nat) : State :=
  let ps := (s.bayLeads b).filter s.portEnabled
  if ps.isEmpty then s
  else ((((s.bayDown b).put BAY_CTRL.bay_reset b 1).setBayState b 5).clearBay b).each ps State.enterReset

/-- A bay has come to running: its ports go on (R94, R341). -/
def State.bayRunning (s : State) (b : Nat) : State :=
  (s.lanesRun b).each (s.bayLeads b) (fun s p => ((s.trainWoken p).tryTrain p).pump p)

/-- LOCAL_PRESENTj_N changes (R89, R345, R351). -/
def State.presence (s : State) (p : Nat) (here : Bool) : State :=
  let b := bayOf p
  let s := (s.modPort p (fun d => { d with present := here })).flag JP_STATUS.present p here
  let s := s.put BAY_STATUS.present b ((List.range 4).foldl (fun m j => m + b2n (s.port (4 * b + j)).present * 2 ^ j) 0)
  let l := s.lead p
  if !s.isUp then s
  else if here then
    let s := s.wakeRegion b
    if s.allPresent l && s.portEnabled l && !s.inTest l then
      match s.get JP_STATUS.link_state l with
      | 5 => if s.get JP_DOWN_LOG.cause l = 11 ∨ s.armed (.downHold l) then s else s.enterReset l
      | 1 => if s.armed (.portReset l) then s else s.enterReset l
      | _ => s
    else s
  else
    s.portDown l 5

/-- The port is in test: every lane is (R317, R341). -/
def State.holdInTest (s : State) (p : Nat) : State :=
  let s := s.stopPortTimers p
  let s := s.each (s.members p) (fun s m => s.put JP_STATUS.link_state m 6)
  s.each (s.portLanes p) (State.stopLane · 7)

/-- Loop and PRBS enables of a lane (R315 to R317). A near-end loop with generator and checker on gives a clean pattern, to which the
checker synchronises at once; a generator outside such a loop drives the pins.
Ports joined or split meanwhile leave test together (R374). A disabled port stays
disabled while its lanes are in test (R341). -/
def State.laneTest (s : State) (l loop gen chk pattern inv : Nat) : State :=
  let p := s.lead (lanePort l)
  let s := s.countPrbs l
  let s := ((s.put JL_CTRL.loop l loop).put JL_PRBS.gen_en l gen).put JL_PRBS.chk_en l chk
  let s := (s.put JL_PRBS.pattern l pattern).put JL_PRBS.invert l inv
  let clean := s.cleanLoop l
  let s := s.flag JL_PRBS.chk_lock l clean
  let st := s.get JP_STATUS.link_state p
  let s :=
    if st = 0 then s.each (s.portLanes p) (fun s k =>
      if (s.get JL_STATUS.state k == 7) == s.inTest p then s else s.stopLane (if s.inTest p then 7 else 1) k)
    else if s.inTest p then
      if st = 6 then s else (s.portDown p 7).holdInTest p
    else if st ≠ 6 then s
    else if !(s.port p).joining then s.enterReset p
    else if s.pairInTest p then s
    else s.each [p / 2 * 2, p / 2 * 2 + 1] (fun s q =>
      if s.lead q = q ∧ s.get JP_STATUS.link_state q = 6 then s.enterReset q else s)
  let s := s.modLane l (fun d => { d with prbsFrom := if clean then some s.clock else none, chkBits := [], chkRun := 0 })
  if s.on JL_PRBS.gen_en l && !s.nearEnd l && s.get JL_STATUS.state l == 7 then s.emit (.prbs l (s.get JL_PRBS.pattern l)) else s

end Sys2Proof.Machine
end

