-- ==== Sys2Proof/Machine/Link.lean ====
section
/-! DEFINITION. The receiving side of a Joist port: markers and word lock (R303 to R314), the unit stream, frames, acks,
holds and masks (R321 to R339), and acceptance (R327, R331, R362). -/

namespace Sys2Proof.Machine

/-! ### Markers (R304, R311, R314) -/

/-- The lane's receiver takes bits: it seeks or holds word lock, or a loop brings it words (R309, R315). -/
def State.receives (s : State) (l : Nat) : Bool :=
  let st := s.get JL_STATUS.state l
  s.isUp && (st == 3 || st == 4 || st == 5 || st == 6 || (st == 7 && s.on JL_CTRL.loop l && !s.on JL_PRBS.gen_en l))

/-- Fields that every valid marker loads; the parallel loop passes the clock recovery by (R315). -/
def State.loadMarker (s : State) (l : Nat) (u : RxUnit) : State :=
  let s := ((s.put JL_STATUS.rx_fill l (u.bits 56 8)).put JL_STATUS.rx_count l (u.bits 48 8)).put JL_STATUS.far_ready l (u.bits 35 1)
  let s := (s.put JL_SEED.rx_seed l (u.bits 64 31)).flag JL_STATUS.cdr_lock l (s.get JL_CTRL.loop l != 1)
  s.modLane l (fun d => { d with
    nextSeed := some (u.bits 96 31), blind := false, farState := u.bits 45 2, farScarf := u.bits 34 1 == 1, period := u.bits 48 8
    ready := if u.bits 35 1 = 0 then 0
      else if u.bits 45 2 = 3 ∨ s.get JP_STATUS.link_state (s.lead (lanePort l)) = 3 then d.ready + 1 else d.ready })

/-- The scarf bit of a valid marker disagrees with the configuration: recorded and counted once for each time the port trains (R369). -/
def State.noteMismatch (s : State) (l : Nat) (u : RxUnit) : State :=
  let p := s.lead (lanePort l)
  if s.get JP_STATUS.link_state p = 2 ∧ (u.bits 34 1 == 1) ≠ s.scarfed p ∧ !(s.port p).mismatched then
    (((s.modPort p (fun d => { d with mismatched := true })).put JT_SCARF.mismatch p 1).bump (portCtr p 17)).report 7 3 p 0
  else s

/-- What the state field of a valid marker tells once the lane has word lock (R309, R310, R312, R314); `was` is that of the marker before.
Training out of an active stream is the far end's, whose backlog took it there. -/
def State.farSays (s : State) (l was code : Nat) : State :=
  let p := s.lead (lanePort l)
  let s := if code = 1 ∨ (s.on JP_STATUS.rx_doze p ∧ code = 3) then s.arm (.keepalive l) 4000 else s.disarm (.keepalive l)
  match code with
  | 0 =>
    let s := s.put JP_STATUS.rx_doze p 0
    if (s.portLanes p).all (fun k => s.on JL_STATUS.word_lock k && (s.lane k).farState == 0) then
      (s.modPort p (fun d => { d with rxOpen := true })).portUp p
    else s
  | 1 => if s.get JP_STATUS.link_state p = 3 then s.put JP_STATUS.rx_doze p 1 else s
  | 3 =>
    if s.get JP_STATUS.link_state p = 3 ∧ was = 0 ∧ (s.port p).rxOpen then s.loseLock l else s
  | _ => s

/-- A receiver with word lock expects the rest of a period behind a marker: `fill` fill words, then its body, of 4093 words behind a marker
of the active state and 13 behind any other (R302). Behind an invalid marker the fill words are those that show the pattern (R304). -/
def State.expectBody (s : State) (l : Nat) (fill : Option Nat) : State :=
  s.modLane l (fun d => { d with pos := match fill with
    | none => .perhaps 2
    | some 0 => .body (if d.farState = 0 then 4093 else 13)
    | some n => .fills n })

/-- A valid marker opens a period of a locked lane: its count and seed are compared (R304, R319). -/
def State.lockedMarker (s : State) (l : Nat) (u : RxUnit) : State :=
  let d := s.lane l
  let s := if u.bits 48 8 ≠ (d.period + 1) % 256 then s.bump (laneCtr l 3) else s
  let s := if d.nextSeed ≠ some (u.bits 64 31) then s.bump (laneCtr l 3) else s
  let s := (((s.noteMismatch l u).loadMarker l u).modLane l (fun d => { d with bad := 0 })).expectBody l (some (u.bits 56 8))
  let s := s.alignLane l (u.bits 48 8 + 256 * b2n (u.bits 45 2 == 3))
  if s.on JL_STATUS.word_lock l then s.farSays l d.farState (u.bits 45 2) else s

/-- An invalid marker at its expected position (R304, R314). -/
def State.badMarker (s : State) (l : Nat) : State :=
  let d := s.lane l
  let s := s.bump (laneCtr l 2)
  if 2 ≤ d.bad then s.loseLock l
  else
    let s := match d.nextSeed with
      | some n => if d.bad = 0 then s.put JL_SEED.rx_seed l n else s
      | none => s
    (s.modLane l (fun x => { x with bad := x.bad + 1, blind := decide (d.bad ≠ 0), ready := 0, period := (x.period + 1) % 256 })).expectBody
      l none

/-- A valid marker found while the lane searches: the second in a row gives word lock; a marker of another lane does not
(R311), nor one of another rate code than the port runs (R295). Training that reaches a lane sending the wake tone starts training
(R313). `apart` says that it came one period after the one before it. -/
def State.searchMarker (s : State) (l : Nat) (u : RxUnit) (apart : Bool) : State :=
  let p := s.lead (lanePort l)
  if u.bits 43 2 ≠ min 2 (s.get JP_CFG.rate p) then s.modLane l (fun d => { d with good := 0 }) else
  let s := s.noteMismatch l u
  if u.bits 32 2 ≠ s.laneIndex l then
    ((s.put JL_STATUS.order_error l 1).bump (laneCtr l 2)).modLane l (fun d => { d with good := 0 })
  else
    let s := if s.get JL_STATUS.state l = 3 then s.startTraining p else s
    let s := s.loadMarker l u
    let g := if apart then (s.lane l).good + 1 else 1
    let s := (s.modLane l (fun d => { d with good := g, since := 0 })).alignLane l (u.bits 48 8 + 256 * b2n (u.bits 45 2 == 3))
    if (s.lane l).good < 2 then s
    else
      let s := (s.put JL_STATUS.word_lock l 1).modLane l (fun d => { d with good := 0, bad := 0, locked := true })
      ((s.expectBody l (some (u.bits 56 8))).watchLock l).farSays l 3 (u.bits 45 2)

/-- A marker begins `n` bits behind the end of the one before it, one training period or one active period on (R302, R311). -/
def State.onePeriod (s : State) (l n : Nat) : Bool :=
  let f := s.get JL_STATUS.rx_fill l
  n == 136 * (f + 13) || n == 136 * (f + 4093)

/-- In a far-end loop a received marker goes back, with the received state, count and seeds (R315). -/
def State.loopMarker (s : State) (l : Nat) (u : RxUnit) : State :=
  if s.get JL_STATUS.state l = 7 ∧ s.get JL_CTRL.loop l = 3 ∧ u.validMarker then
    s.putMarker l (u.bits 45 2) (u.bits 48 8) (u.bits 64 31) (u.bits 96 31)
  else s

/-- A word that begins with the sync field or its complement while the lane searches, `n` bits behind the last valid marker: a marker, or
the sign that the lane is inverted, or neither (R311). Answers how many bits of it the search has done with. -/
def State.searchWord (s : State) (l n : Nat) (u : RxUnit) : State × Nat :=
  let past (k : Nat) : State := s.modLane l (fun d => { d with since := n + k })
  if u.bits 0 32 = 0x5C1EA397 then
    if u.validMarker then (((past 136).searchMarker l u (s.onePeriod l n)).loopMarker l u, 136) else (past 1, 1)
  else if (s.lane l).locked ∨ (s.lane l).good ≠ 0 then (past 1, 1)
  else ((past 136).flag JL_STATUS.inverted l (!s.on JL_STATUS.inverted l), 136)

/-- The clock recovery of a lane loses lock (R314). -/
def State.cdrLost (s : State) (l : Nat) : State := ((s.put JL_STATUS.cdr_lock l 0).loseLock l).watchLock l

/-! ### Words of a locked lane (R297 to R305, R315) -/

/-- An errored word is counted (R297). -/
def State.countErrored (s : State) (l : Nat) (u : RxUnit) : State := if u.errored then s.bump (laneCtr l 0) else s

/-- A word of a period's body, `n` of which were to come: descrambled, checked, and in an active period of a link that runs kept for its
port word; a far-end loop sends it back as it came (R298, R307, R315). -/
def State.bodyWord (s : State) (l n : Nat) (raw : RxUnit) : State :=
  let d := s.lane l
  let active := d.farState == 0
  let first := n == (if active then 4093 else 13)
  let x := if first then s.get JL_SEED.rx_seed l else d.scr
  let u := descramble x raw
  let u := { u with violation := u.violation || d.blind }
  let st := s.get JP_STATUS.link_state (s.lead (lanePort l))
  let keep := active && (st == 2 || st == 3)
  let s := (s.countErrored l u).modLane l (fun d => { d with
    scr := scramblerAfter 136 x
    pos := if n ≤ 1 then .marker else .body (n - 1)
    words := if keep then d.words ++ [(4096 * d.period + (4093 - n), u)] else d.words })
  if s.get JL_STATUS.state l = 7 ∧ s.get JL_CTRL.loop l = 3 then s.sendLine l (wordBits raw.data raw.bip) else s

/-- A whole word of a lane with word lock, of the kind that its place gives it (R296, R302, R304, R305). -/
def State.laneWord (s : State) (l : Nat) (u : RxUnit) : State :=
  let len := if (s.lane l).farState = 0 then 4093 else 13
  match (s.lane l).pos with
  | .marker =>
    if u.validMarker && u.bits 32 2 == s.laneIndex l then (s.lockedMarker l u).loopMarker l u else (s.countErrored l u).badMarker l
  | .fills n => (s.countErrored l u).expectBody l (some (n - 1))
  | .perhaps n =>
    if 0 < n ∧ u.data = fillWord ∧ !u.errored then s.modLane l (fun d => { d with pos := .perhaps (n - 1) })
    else s.bodyWord l len u
  | .body n => s.bodyWord l n u

/-- Destuffed bits, behind those that wait: a locked lane takes them word by word, one that searches looks for markers at every bit. Each
turn takes one bit at least. -/
def State.takeBits (s : State) (l : Nat) : Nat → List RxBit → State
  | 0, _ => s
  | fuel + 1, bs =>
    let inv := s.on JL_STATUS.inverted l
    if !s.receives l then s
    else if s.on JL_STATUS.word_lock l then
      if (bs.drop 135).isEmpty then s.modLane l (fun d => { d with window := bs })
      else (s.laneWord l (rxWord inv (bs.take 136))).takeBits l fuel (bs.drop 136)
    else
      let (n, rest) := seek (s.lane l).since bs
      if (rest.drop 135).isEmpty then s.modLane l (fun d => { d with window := rest, since := n })
      else
        let (t, k) := s.searchWord l n (rxWord inv (rest.take 136))
        t.takeBits l fuel (rest.drop k)

/-- Line bits arrive at a lane's receiver: destuffed, violations counted (R300, R301). -/
def State.laneBits (s : State) (l : Nat) (bits : List Bool) : State :=
  let d := s.lane l
  let r := destuff d.rxRun d.rxBit d.rxBad bits
  let bs := d.window ++ r.kept
  ((s.bumpBy (laneCtr l 1) r.violations).modLane l (fun d => { d with rxRun := r.run, rxBit := r.bit, rxBad := r.bad, window := [] })).takeBits
    l (bs.length + 1) bs

/-- A burst after electrical idle begins with a marker, and with no run before it (R300, R309, R312). -/
def LaneDyn.afterIdle (d : LaneDyn) : LaneDyn := { d with rxRun := 0, rxBad := false, window := [], since := 0, good := 0, pos := .marker }

/-- The pins of a lane bring line bits: to the PRBS checker where that is on, otherwise to the receiver; nothing in a near-end loop (R315,
R316). -/
def State.laneIn (s : State) (l : Nat) (x : LineIn) : State :=
  if s.nearEnd l then s
  else if s.on JL_PRBS.chk_en l && s.isUp then s.checkBits l x.bits
  else if !s.receives l then s
  else (if x.idle then s.modLane l LaneDyn.afterIdle else s).laneBits l x.bits

/-- A lane in a near-end loop sends itself a training period, which its receiver takes as line bits (R315). -/
def State.loopPeriod (s : State) (l : Nat) : State :=
  let s := (s.endTraining l).sendMarker l 3
  let bits := (s.lane l).looped
  (s.modLane l (fun d => { d with looped := [] })).laneBits l bits

/-! ### Period boundaries (R302, R305, R310, R339, R344) -/

/-- Every lane of the port may leave training for the active state: word lock and deskew are held, rx_ready has been sent, and received
in two periods in a row (R310). -/
def State.handshake (s : State) (p : Nat) : Bool :=
  (s.portLanes p).all (fun l => s.on JL_STATUS.word_lock l && (s.lane l).sentReady && decide (2 ≤ (s.lane l).ready))

/-- Lanes of the port in a state. -/
def State.lanesIn (s : State) (p st : Nat) : List Nat := (s.portLanes p).filter (fun l => s.get JL_STATUS.state l == st)

/-- A training period of the port's training lanes ends and the next opens; once the handshake is done again on a port that is up, lanes that
all train open an active period (R302, R310). -/
def State.trainPeriod (s : State) (p : Nat) : State :=
  let back := s.get JP_STATUS.link_state p == 3 && s.handshake p && (s.lanesIn p 5).isEmpty
  s.each (s.lanesIn p 4) (fun t l =>
    let t := t.endTraining l
    if back then t.openActive l (s.firstUnit p) (s.get JP_STATUS.tx_mask p) else t.sendMarker l 3)

/-- Opens an active period on a lane; where more than 8 lane words are still late behind a marker without fill words, the lane then goes to
training (R305). -/
def State.nextActive (s : State) (l first mask : Nat) : State :=
  let s := s.openActive l first mask
  if 1088 < (s.lane l).backlog then
    ((s.put JL_STATUS.state l 4).modLane l (fun d => { d with sentReady := false, ready := 0, backlog := 0 })).sendMarker l 3
  else s

/-- An active period of the port ends: its words go; then sleep markers where sleep is agreed and no frame is left, otherwise the next
period, in which a changed tx_mask is in force; lanes that train take part again once the handshake is done (R302, R305, R310, R339,
R344). The markers of all lanes go together. -/
def State.activePeriod (s : State) (p : Nat) (nulls : List Nat) : State :=
  let ls := s.lanesIn p 5
  let s := s.endActive p nulls
  let spent := (s.port p).txq.isEmpty
  if (s.port p).sleepAck ∧ s.get JP_STATUS.link_state p = 3 ∧ spent then
    (s.each ls (fun s l => (s.sendMarker l 2).stopLane 2 l)).fallAsleep p
  else
    let due := if spent then (s.port p).maskDue else none
    let s := match due with
      | some m => s.changeTxMask p m
      | none => s
    let back := if s.get JP_STATUS.link_state p == 3 && s.handshake p then s.lanesIn p 4 else []
    let c := ((ls.head?).map (fun l => (s.lane l).txCount)).getD 0
    let s := s.each back (fun s l => (s.endTraining l).modLane l (fun d => { d with txCount := c }))
    let s := s.each (ls ++ back) (fun t l => t.nextActive l (s.firstUnit p) (s.get JP_STATUS.tx_mask p))
    match (s.port p).wantMask with
    | some m => if s.armed (.txMask p) || (s.port p).maskDue.isSome then s.pump p else s.announceMask p m
    | none => s.pump p

/-- A transmit period boundary of a lane, and of the lanes that send in step with it (R302, R305, R315). -/
def State.periodEnd (s : State) (l : Nat) (nulls : List Nat) : State :=
  let p := s.lead (lanePort l)
  let st := s.get JL_STATUS.state l
  if !s.isUp then s
  else if st = 7 ∧ s.nearEnd l ∧ !s.on JL_PRBS.gen_en l then s.loopPeriod l
  else if st = 4 then s.trainPeriod p
  else if st = 5 then s.activePeriod p nulls
  else s

/-! ### Frames in the unit stream (R323 to R325, R370, R371) -/

/-- Kind, length and copy bit of a link word. -/
def lwKind (w : Word) : Nat := getBits w 0 4
def lwLen (w : Word) : Nat := getBits w 4 13
def lwCopy (w : Word) : Nat := getBits w 63 1

/-- Units of the frame that a link word begins: a DATA frame has its header and payload; under scarf every frame has an
even count. -/
def frameUnits (scarf : Bool) (w : Word) : Nat :=
  let n := if lwKind w = 1 then 2 + ceilDiv (lwLen w) 16 else 1
  if scarf then roundUp n 2 else n

/-- A link word that no frame may have (R325). -/
def badLink (w : Word) : Bool :=
  decide (4 < lwKind w) || decide (4096 < lwLen w) || (lwKind w != 1 && lwLen w != 0)

/-- The low word of a unit, and its second word. -/
def unitWord (u : RxUnit) : Word := BitVec.ofNat 64 (u.bits 0 64)
def unitHigh (u : RxUnit) : Word := BitVec.ofNat 64 (u.bits 64 64)

/-- What stands at the head of the stream. -/
inductive Head where
  /-- More units are needed; the link word, where one is known already. -/
  | wait (w : Option Word)
  /-- Framing is lost. -/
  | lost
  /-- A protocol error. -/
  | wrong
  /-- A frame of `n` units, read with its link word; `good` when every lane word of it is correct. -/
  | frame (n : Nat) (w : Word) (good : Bool)
  /-- A unit whose frame cannot be told. -/
  | junk (n : Nat)
  deriving DecidableEq, Repr

/-- The frame has come whole, or more units are needed. -/
def takeWhole (us : List RxUnit) (w : Word) : Head :=
  let n := frameUnits false w
  if us.length < n then .wait (some w) else .frame n w ((us.take n).all (fun u => !u.errored))

/-- Reads the head of a two-lane port's stream (R325). -/
def headPlain (us : List RxUnit) : Head :=
  match us with
  | [] => .wait none
  | u :: rest =>
    let w := unitWord u
    if !u.errored then
      if badLink w then .wrong
      else if lwKind w = 1 then
        match rest with
        | v :: _ => if !v.errored && unitWord v != setBits w 63 1 1 then .wrong else takeWhole us w
        | [] => .wait (some w)
      else if lwKind w = 2 ∧ unitHigh u ≠ setBits w 63 1 1 then .wrong
      else .frame 1 w true
    else
      match rest with
      | [] => .wait none
      | v :: _ =>
        if v.errored then .lost
        else if lwCopy (unitWord v) = 1 then
          if badLink (unitWord v) || lwKind (unitWord v) != 1 then .wrong else takeWhole us (setBits (unitWord v) 63 1 0)
        else .junk 1

/-- A correct unit of one word that a frame has: an IDLE's own copy agrees (R323, R325). -/
def idleAgrees (u : RxUnit) : Bool := u.errored || lwKind (unitWord u) != 2 || unitHigh u == setBits (unitWord u) 63 1 1

/-- Reads the heads of a scarfed port's two streams, lower and upper, which hold the two bursts of a frame (R370, R371). -/
def headScarf (us vs : List RxUnit) : Head :=
  let known (u : RxUnit) : Option Word := if u.errored then none else some (setBits (unitWord u) 63 1 0)
  let a := us.head?.bind known
  let b := vs.head?.bind known
  match a.or b with
  | none => if us.isEmpty || vs.isEmpty then .wait none else .lost
  | some w =>
    if badLink w || (a.isSome && b.isSome && a != b) || !(us.head?.all idleAgrees) || !(vs.head?.all idleAgrees) then .wrong
    else
      let n := frameUnits true w
      if us.length < n / 2 ∨ vs.length < n / 2 then .wait (some w)
      else .frame n w ((us.take (n / 2) ++ vs.take (n / 2)).all (fun u => !u.errored))

/-- Units of two bursts in stream order (R370). -/
def interleave : List RxUnit → List RxUnit → List RxUnit
  | u :: us, v :: vs => u :: v :: interleave us vs
  | us, vs => us ++ vs

/-! ### Link fields (R324, R328, R334, R339) -/

/-- What a released frame tells its origin (R255, R285, R326). -/
def State.frameAcked (s : State) (p : Nat) (e : EgFrame) : State :=
  match e.origin with
  | .windowWrite _ fn key tagged last => if last && tagged then s.missAt key fn 3 p e.frame.vc [portCtr p 24] else s
  | .engineWrite _ q piece ofs _ => s.writeAccepted q piece ofs
  | _ => s

/-- Uses the ack of a link word; none when it is not valid (R328). -/
def State.takeAck (s : State) (p a : Nat) : Option State :=
  let d := (a + 4096 - s.get JP_SEQ.tx_acked p) % 4096
  let rp := (s.port p).replay
  if rp.length < d then none
  else if d = 0 then some s
  else
    let s := s.modPort p (fun x => { x with replay := rp.drop d })
    let s := ((s.put JP_SEQ.tx_acked p a).put JP_REPLAY.replays p 0).noteReplay p
    let s := if rp.length = d then s.disarm (.replay p) else s.arm (.replay p) (s.replayNs p)
    let s := s.each (rp.take d) (fun s e => s.frameAcked p e.2)
    some (((s.answerReads p).pump p).quiet p)

/-- Uses the req_mask of a link word (R338, R339). -/
def State.takeReq (s : State) (p r : Nat) : State :=
  let m := if r = 0 then 3 else r
  if s.scarfed p then s
  else if m = (s.port p).maskDue.getD (s.get JP_STATUS.tx_mask p) then (s.modPort p (fun d => { d with wantMask := none })).disarm (.txMask p)
  else if (s.port p).wantMask = some m then s
  else (s.modPort p (fun d => { d with wantMask := some m })).arm (.txMask p) 1000

/-- Uses ack, hold and req_mask of a link word of a port that is up; none on a protocol error. -/
def State.takeLink (s : State) (p : Nat) (w : Word) : Option State :=
  if s.get JP_STATUS.link_state p ≠ 3 ∨ lwKind w = 0 then some s
  else
    (s.takeAck p (getBits w 32 12)).map (fun s =>
      let s := s.put JP_STATUS.far_hold p (getBits w 44 8 % 2 ^ s.vcCount p)
      (s.pump p).takeReq p (getBits w 52 2))

/-! ### Acceptance (R327, R331, R332, R362) -/

/-- Decodes the header and payload of a DATA frame (R352). -/
def decodeFrame (w a b : Word) (payload : List Byte) : Frame :=
  let type := getBits a 0 4
  { vc := getBits w 17 3, type := type, deadline := if bitAt a 4 then some (getBits a 16 16) else none, sparse := bitAt a 5
    be := getBits a 8 8, last := bitAt a 6, tag := getBits a 32 11, status := getBits a 43 4, rdLen := getBits a 48 13
    addr := if type = 5 then b.toNat else getBits b 0 48, offset := getBits b 48 12, payload := payload }

/-- A frame type that the module does not take from a local device, or a PEG that breaks R363 (R353, R362). -/
def State.refusedType (s : State) (p : Nat) (f : Frame) : Bool :=
  match f.type with
  | 1 | 2 | 3 => false
  | 4 =>
    let n := if s.scarfed p then 64 else 32
    !(f.payload.length == n || (f.payload.isEmpty && decide (f.addr % 512 < 8 * n)))
  | _ => true

/-- Counts and logs a malformed frame (R362, R375). -/
def State.malformed (s : State) (p : Nat) (f : Frame) (status : Nat) : State :=
  (s.bump (portCtr p 13)).jtLog p status 3 f.tag f.vc f.type (if f.type = 3 then 0 else f.addr)

/-- Accepts a whole and correct DATA frame, or discards it (R327, R331). A completion that is accepted ends the response time of its read
(R358). -/
def State.acceptFrame (s : State) (p : Nat) (w : Word) (f : Frame) : State :=
  if s.vcCount p ≤ f.vc then s.portDown p 4
  else if getBits w 20 12 ≠ s.get JP_SEQ.rx_expected p then s.bump (portCtr p 3)
  else if !s.answersReserve p f && decide (s.freeSpace p f.vc < (f.payload.length : Nat)) then s.bump (portCtr p 4)
  else
    let s := (s.put JP_SEQ.rx_expected p (s.get JP_SEQ.rx_expected p + 1)).bump (portCtr p 1)
    let s := s.modPort p (fun d => { d with ackDue := true })
    let s := if f.type = 3 then s.disarm (.response p f.tag) else s
    let s := if s.refusedType p f then s.malformed p f f.status else s.modPort p (fun d => { d with ingress := d.ingress ++ [f] })
    let s := ((s.disarm (.dozeIdle p)).disarm (.sleepIdle p)).holdsChanged p
    if s.on JP_STATUS.tx_doze p then s.sendIdle p else s

/-- What a frame does, its link fields used already. -/
def State.actFrame (s : State) (p : Nat) (us : List RxUnit) (w : Word) (good : Bool) : State :=
  match lwKind w with
  | 1 =>
    if s.get JP_STATUS.link_state p ≠ 3 then s
    else if s.vcCount p ≤ getBits w 17 3 then s.portDown p 4
    else
      let s := s.sleepRefused p
      if !good then s.bump (portCtr p 2)
      else
      let a := (us.head?.map unitHigh).getD 0
      let b := ((us.drop 1).head?.map unitHigh).getD 0
      s.acceptFrame p w (decodeFrame w a b (((us.drop 2).flatMap (fun u => u.bytes)).take (lwLen w)))
  | 2 => if s.get JP_STATUS.link_state p = 2 then (s.modPort p (fun d => { d with idleSeen := true })).portUp p else s
  | 3 =>
    if good ∧ !s.scarfed p then
      s.modPort p (fun d => { d with rxNext := us.head?.map (fun u => (u.bits 64 2, u.bits 72 8)) })
    else s
  | 4 =>
    if !good then s
    else match us.head?.map (fun u => u.bits 64 8) with
      | some 1 => s.takeSleepReq p
      | some 2 => s.takeSleepAck p
      | some 3 => s.sleepRefused p
      | _ => s
  | _ => s

/-! ### The unit streams (R307, R321, R322, R325, R370 to R373) -/

/-- Slot `a` comes no later than slot `b`, by their numbers. -/
def noLater (a b : Nat) : Bool := decide ((b + 1048576 - a) % 1048576 < 524288)

/-- The earliest slot of some. -/
def earliest : List Nat → Option Nat
  | [] => none
  | t :: ts => some (ts.foldl (fun x y => if noLater x y then x else y) t)

/-- Framing is lost on every pair of the port until its next period unit (R325, R371). -/
def State.loseFraming (s : State) (p : Nat) : State :=
  (s.bump (portCtr p 5)).each (s.members p) (fun s m => s.modPort m (fun d => { d with
    lost := true, skip := 0, partial_ := [], headUsed := none, mergeFrom := none })) |>.disarm (.merger p)

/-- The period unit of an active period of pair `m`: it names the lanes in service, and where it names a first unit the stream is followed
again from there after a loss of framing (R322, R325, R339). -/
def State.takePeriodUnit (s : State) (m : Nat) (u : RxUnit) : State :=
  let p := s.lead m
  let first := u.bits 0 16
  let mask := u.bits 16 2
  let s := if s.get JP_STATUS.link_state p = 3 then s.setRxMask p mask else s
  s.modPort m (fun d => { d with
    unitMask := if mask = 0 then d.unitMask else mask
    lost := d.lost && first == 0xFFFF
    skip := if d.lost ∧ first ≠ 0xFFFF then first else d.skip })

/-- Pair `m` has no correct period unit for a period: a mask that LANE_SET has announced for it holds (R338, log entry 74). -/
def State.missPeriodUnit (s : State) (m count : Nat) : State :=
  match (s.port (s.lead m)).rxNext with
  | some (k, c) => if c = count ∧ k ≠ 0 then s.modPort m (fun d => { d with unitMask := k }) else s
  | none => s

/-- Units join the stream of pair `m`, but for those that are discarded. -/
def State.addUnits (s : State) (m : Nat) (us : List RxUnit) : State :=
  s.modPort m (fun d => if d.lost then d else { d with skip := d.skip - us.length, partial_ := d.partial_ ++ us.drop d.skip })

/-- One slot of pair `m`, once every lane in service that holds word lock has delivered its word: a period unit, from any lane that carries
it correct, or the units of a port word. A slot for which a lane in service delivers none makes no port word, and the stream is broken
there (R307, R321, R322; log entry 74). None where nothing can be taken. -/
def State.takeUnits (s : State) (m : Nat) : Option State :=
  let ins := [2 * m, 2 * m + 1].filter (fun l => s.scarfed m || natBit (s.port m).unitMask (l % 2))
  let heads := ins.filterMap (fun l => (s.lane l).words.head?)
  match earliest (heads.map (fun h => h.1)) with
  | none => none
  | some t =>
    if ins.any (fun l => (s.lane l).words.isEmpty && s.on JL_STATUS.word_lock l) then none
    else
      let at_ (l : Nat) : Option RxUnit := ((s.lane l).words.find? (fun h => h.1 == t)).map (fun h => h.2)
      let found := [2 * m, 2 * m + 1].filterMap at_
      let here := ins.filterMap at_
      let s := s.each [2 * m, 2 * m + 1] (fun s l => s.modLane l (fun d => { d with words := d.words.dropWhile (fun h => noLater h.1 t) }))
      if t % 4096 = 0 then
        let s := match found.find? (fun u => !u.errored) with
          | some u => s.takePeriodUnit m u
          | none => s.missPeriodUnit m (t / 4096)
        some (s.modPort (s.lead m) (fun d => { d with rxNext := d.rxNext.filter (fun x => x.2 != t / 4096) }))
      else if here.length < ins.length then
        some (if (s.port m).lost then s else s.loseFraming (s.lead m))
      else some (s.addUnits m here)

/-- Uses the link word at the head of a stream once: its ack, hold and req_mask; a DATA frame's payload counts from then on (R324, R333,
R334). None on a protocol error. -/
def State.useHead (s : State) (p : Nat) (w : Word) : Option State :=
  if (s.port p).headUsed.isSome then some s
  else
    let a := match (s.port p).partial_.head? with
      | some u => if u.errored then 0 else unitHigh u
      | none => 0
    let n := if lwKind w = 1 ∧ !s.answersReserve p (decodeFrame w a 0 []) then lwLen w else 0
    (s.takeLink p w).map (fun s => (s.modPort p (fun d => { d with headUsed := some (getBits w 17 3, n) })).holdsChanged p)

/-- Drops `n` units at the head of pair `m`'s stream; units that have not come are discarded as they arrive. -/
def State.dropUnits (s : State) (m n : Nat) : State :=
  s.modPort m (fun d => { d with partial_ := d.partial_.drop n, skip := d.skip + (n - d.partial_.length) })

/-- The frame at the head of the merger has lost its partner burst: it is discarded and counted, the late burst is consumed as it arrives, and
the wait was the longest (R372, R373). -/
def State.mergerDrop (s : State) (p : Nat) : State :=
  match headScarf (s.port p).partial_ (s.port (p + 1)).partial_, (s.port p).mergeFrom with
  | .wait (some w), some _ | .frame _ w _, some _ =>
    let n := frameUnits true w / 2
    match s.useHead p w with
    | none => s.portDown p 4
    | some s =>
      let s := (s.bump (portCtr p 16)).put JT_SCARF.max_skew p (max 8 (s.get JT_SCARF.max_skew p))
      let s := ((s.dropUnits p n).dropUnits (p + 1) n).disarm (.merger p)
      (s.modPort p (fun d => { d with headUsed := none, mergeFrom := none })).holdsChanged p
  | _, _ => s

/-- Nanoseconds of eight lane words (R372). -/
def State.mergerNs (s : State) (p : Nat) : Nat := 8 * 136 * 16 / 225 / 2 ^ min 2 (s.get JP_CFG.rate p)

/-- One burst of the frame at the head of the merger is complete: the wait for its partner begins (R372). -/
def State.awaitBurst (s : State) (p : Nat) (w : Word) : State :=
  let n := frameUnits true w / 2
  if (s.port p).mergeFrom.isNone ∧ (n ≤ (s.port p).partial_.length ∨ n ≤ (s.port (p + 1)).partial_.length) then
    (s.modPort p (fun d => { d with mergeFrom := some s.clock })).arm (.merger p) (s.mergerNs p)
  else s

/-- The head of a frame that has not come whole: its link word is used; on a scarfed port the merger waits for a partner burst. None where
nothing more can be read. -/
def State.waitHead (s : State) (p : Nat) (w : Word) : State :=
  match s.useHead p w with
  | none => s.portDown p 4
  | some s => if s.scarfed p then s.awaitBurst p w else s

/-- Takes a whole frame of a two-lane port. -/
def State.takeFrame (s : State) (p n : Nat) (w : Word) (good : Bool) : State :=
  match s.useHead p w with
  | none => s.portDown p 4
  | some s =>
    let us := (s.port p).partial_.take n
    ((s.modPort p (fun d => { d with partial_ := d.partial_.drop n, headUsed := none })).actFrame p us w good).holdsChanged p

/-- Takes a frame of a scarfed port whose bursts have both come: merged within eight lane words, otherwise discarded (R372, R373). -/
def State.mergeFrame (s : State) (p n : Nat) (w : Word) (good : Bool) : State :=
  let gap := (s.port p).mergeFrom.elim 0 (fun t => s.wordsIn p (s.clock - t))
  if 8 < gap then s.mergerDrop p
  else
    match s.useHead p w with
    | none => s.portDown p 4
    | some s =>
      let us := interleave ((s.port p).partial_.take (n / 2)) ((s.port (p + 1)).partial_.take (n / 2))
      let s := (s.put JT_SCARF.max_skew p (max gap (s.get JT_SCARF.max_skew p))).disarm (.merger p)
      let s := ((s.dropUnits p (n / 2)).dropUnits (p + 1) (n / 2)).modPort p (fun d => { d with headUsed := none, mergeFrom := none })
      (s.actFrame p us w good).holdsChanged p

/-- Follows the stream from frame to frame, `fuel` at most (R325, R371). -/
def State.followStream (s : State) (p : Nat) : Nat → State
  | 0 => s
  | fuel + 1 =>
    let st := s.get JP_STATUS.link_state p
    if st ≠ 2 ∧ st ≠ 3 then s
    else
      let us := (s.port p).partial_
      match if s.scarfed p then headScarf us (s.port (p + 1)).partial_ else headPlain us with
      | .wait none => s
      | .wait (some w) => s.waitHead p w
      | .lost => s.loseFraming p
      | .wrong => s.portDown p 4
      | .junk n => (s.modPort p (fun d => { d with partial_ := d.partial_.drop n, headUsed := none })).followStream p fuel
      | .frame n w good =>
        (if s.scarfed p then s.mergeFrame p n w good else s.takeFrame p n w good).followStream p fuel

/-- The wait for a partner burst ends; the frames behind it go on (R373). -/
def State.mergerTimeout (s : State) (p : Nat) : State :=
  let n := (s.port p).partial_.length + (s.port (p + 1)).partial_.length
  (s.mergerDrop p).followStream p (n + 1)

/-- Takes the slots that pair `m` has ready, and the frames that they complete. -/
def State.takeSlots (s : State) (m : Nat) : Nat → State
  | 0 => s
  | fuel + 1 =>
    match s.takeUnits m with
    | none => s
    | some t => (t.followStream (s.lead m) 4).takeSlots m fuel

/-- Words that wait at the lanes of a port become port words, once the port's receive direction is open; none does on a port whose link does
not run (R307, R321). -/
def State.drainLanes (s : State) (p : Nat) : State :=
  if !(s.port p).rxOpen then s
  else
    let s := s.each (s.members p) (fun s m => s.takeSlots m ((s.lane (2 * m)).words.length + (s.lane (2 * m + 1)).words.length))
    s.quiet p

/-- Line bits reach one lane. -/
def State.lineIn (s : State) (l : Nat) (line : LineIn) : State := (s.laneIn l line).drainLanes (s.lead (lanePort l))

/-- Line bits reach the lanes of a port, one entry for each of them in order: words, port words and frames come of them. -/
def State.linesIn (s : State) (p : Nat) (lines : List LineIn) : State :=
  let q := s.lead p
  (s.each ((s.portLanes q).zip lines) (fun s e => s.laneIn e.1 e.2)).drainLanes q

end Sys2Proof.Machine
end

