-- ==== Sys2Proof/Machine/JoistTxn.lean ====
section
/-! DEFINITION. Joist transactions: reads, writes, completions and Peg frames from the local device, and the timers of
local tags (R215, R216, R353 to R365). -/

namespace Sys2Proof.Machine

/-! ### Dispatch of accepted frames -/

/-- Oldest accepted frame on virtual channel `v`, when it has the type asked for. -/
def State.ingressHead (s : State) (p v type : Nat) : Option Frame :=
  ((s.port p).ingress.find? (fun f => f.vc == v)).bind (fun f => if f.type = type then some f else none)

/-- The frame leaves its partition; a hold that this clears is announced (R287, R335). -/
def State.popIngress (s : State) (p : Nat) (f : Frame) : State :=
  ((s.modPort p (fun d => { d with ingress := d.ingress.erase f })).holdsChanged p).quiet p

/-! ### Host-view lookup (R215) -/

/-- Outcome of a host-view lookup: refused with a status and, where an entry was found, its segment, or the segment. -/
inductive HostView where
  | refused (status : Nat) (seg : Option Nat)
  | found (seg : Nat)
  deriving DecidableEq, Repr

/-- Requests of local devices for function `f` find their host (R23, R93, R152, R194). -/
def State.hostThere (s : State) (f : Nat) : Bool :=
  s.isUp && s.existsFn f && s.master f && !s.hostGone (fnPort f) && !(s.host (fnPort f)).pmOff && !s.fnHeld f
    && !(s.func f).clearing

/-- Looks up a host-view access of `len` bytes that arrives on port `p`. An owner under FLR finds no host whatever else is wrong (R194,
R374). -/
def State.hostView (s : State) (p addr len : Nat) (write : Bool) : HostView :=
  let hit (n : Nat) : Bool := s.get SEG_CTRL.kind n == 1 && s.get SEG_CTRL.port n == p && decide (s.segSrc n ≤ addr)
    && decide (addr < s.segSrc n + s.segLen n)
  match s.segsListed.find? hit with
  | none => .refused 1 none
  | some n =>
    let f := s.get SEG_CTRL.owner n
    if s.fnHeld f || (s.func f).clearing then .refused 3 (some n)
    else if s.segSrc n + s.segLen n < addr + len ∨ s.on SEG_CTRL.poisoned n then .refused 1 (some n)
    else if !(if write then s.on SEG_CTRL.wr n else s.on SEG_CTRL.rd n) then .refused 2 (some n)
    else if !s.hostThere f then .refused 3 (some n)
    else .found n

/-- Counts and logs a refused request of a device (R215, R362). -/
def State.countRefused (s : State) (p : Nat) (f : Frame) (status : Nat) (seg : Option Nat) : State :=
  let s := match status, seg.map (fun n => s.get SEG_CTRL.owner n) with
    | 1, some g => (s.bump (portCtr p 21)).bump (fnCtr g 12)
    | 1, none => s.bump (portCtr p 21)
    | 2, some g => (s.bump (portCtr p 22)).bump (fnCtr g 13)
    | 2, none => s.bump (portCtr p 22)
    | _, _ => s.bump (portCtr p 23)
  s.jtLog p status 6 f.tag f.vc f.type f.addr

/-- Key of a device request through segment `n`, tagged or not (R215, R277). -/
def State.deviceKey (s : State) (n : Nat) (dl : Option Nat) : (Nat × Bool) × State :=
  let g := s.get SEG_CTRL.owner n
  match dl with
  | some d =>
    let (r, s) := s.tagKey g (s.expandKey d)
    ((r.1, true), s)
  | none => s.accessKey g n

/-! ### Completions to the device (R360) -/

/-- A CPL of a device read. -/
def cplFrame (v tag status offset : Nat) (dl : Option Nat) (last : Bool) (data : List Byte) : Frame :=
  { Frame.blank 3 v with deadline := dl, last := last, tag := tag, status := status, offset := offset, payload := data }

/-- Queues a CPL. -/
def State.queueCpl (s : State) (p fn key : Nat) (f : Frame) : State :=
  s.enqueue p { fn := fn, fromHost := false, key := key, frame := f, origin := .completion f.tag, waits := false }

/-- Byte at offset `o` of a device read, when it has come. -/
def DTag.byte? (d : DTag) (o : Nat) : Option Byte :=
  d.got.findSome? (fun c => if c.1 ≤ o ∧ o < c.1 + c.2.length then c.2[o - c.1]? else none)

/-- Bytes `[a, b)` of a device read have come. -/
def DTag.has (d : DTag) (a b : Nat) : Bool := (List.range (b - a)).all (fun i => (d.byte? (a + i)).isSome)

/-- Sends the completions that a device read's data allows; answers what is left of it, or none when it has ended. -/
def State.answerDevice (s : State) (p tag : Nat) : Nat → DTag → Option DTag × State
  | 0, d => (some d, s)
  | fuel + 1, d =>
    let dl := wireDeadline d.tagged d.key
    let stop := match d.failed with
      | some (o, _) => min o d.len
      | none => d.len
    let b := min stop (d.sent + s.localMax p)
    if d.sent < stop ∧ d.has d.sent b then
      let data := (List.range (b - d.sent)).map (fun i => (d.byte? (d.sent + i)).getD 0)
      let s := s.queueCpl p d.fn d.key (cplFrame d.v tag 0 d.sent dl (b == d.len) data)
      if b = d.len then (none, s) else s.answerDevice p tag fuel { d with sent := b }
    else
      match d.failed with
      | some (_, st) =>
        if stop ≤ d.sent then
          let s := if st = 3 ∧ d.nohost ∧ !d.refused then (s.bump (portCtr p 23)).jtLog p 3 6 tag d.v 1 d.addr else s
          (none, s.queueCpl p d.fn d.key (cplFrame d.v tag st d.sent dl true []))
        else (some d, s)
      | none => (some d, s)

/-- A read of a local device has ended: the host requests of it that are not answered yet are not wanted any more, so that its tag may be
used again (R357, R360). -/
def State.dropParts (s : State) (h p tag : Nat) : State :=
  let mine : HPurpose → Bool := fun x => match x with
    | .loc q t _ => q == p && t == tag
    | _ => false
  if (s.host h).waiting.any (fun r => mine r.purpose) || (s.host h).tags.any (fun t => mine t.2.req.purpose) then
    (s.modHost h (fun x => { x with
      waiting := x.waiting.filter (fun r => !mine r.purpose)
      tags := x.tags.map (fun t => if mine t.2.req.purpose then (t.1, { t.2 with req := { t.2.req with purpose := .dropped } }) else t) })).drainWrites h
  else s

/-- Answers the device reads of a port, in request order on each path (R150, R365). -/
def State.answerDevices (s : State) (p : Nat) : State :=
  let step (acc : State × List (Nat × Nat)) (t : Nat × DTag) : State × List (Nat × Nat) :=
    let (s, blocked) := acc
    if blocked.contains (t.2.fn, t.2.v) then (s, blocked)
    else
      match s.answerDevice p t.1 (t.2.len + 1) t.2 with
      | (some d, s) => (s.modPort p (fun x => { x with dtags := put1 t.1 d x.dtags }), (t.2.fn, t.2.v) :: blocked)
      | (none, s) => ((s.modPort p (fun x => { x with dtags := drop1 t.1 x.dtags })).dropParts (fnPort t.2.fn) p t.1, blocked)
  (((s.port p).dtags.foldl step (s, [])).1).quiet p

/-! ### RD (R215, R216, R354 to R357, R360) -/

/-- A read or write breaks R354 or R355; `len` is its length. -/
def badAccess (f : Frame) (len : Nat) : Bool :=
  len == 0 || decide (4096 < len) || decide (2 ^ 48 < f.addr + len)
    || (if f.sparse then f.be == 0 || len != 8 || f.addr % 8 != 0 else f.be != 0)

/-- A device read that finds its host: one request for each part, with the segment's PASID. -/
def State.startDeviceRead (s : State) (p n : Nat) (f : Frame) : State :=
  let g := s.get SEG_CTRL.owner n
  let (k, s) := s.deviceKey n f.deadline
  let a := s.segDst n + (f.addr - s.segSrc n)
  let parts := cuts (s.mrrs g) a f.rdLen
  let d : DTag := { v := f.vc, fn := g, fgen := s.get FUNC_STATE.gen g, addr := f.addr, len := f.rdLen, key := k.1,
                    tagged := k.2, got := [], sent := 0, failed := none, nohost := false, refused := false, parts := parts.length, room := [] }
  let s := s.modPort p (fun x => { x with dtags := x.dtags ++ [(f.tag, d)] })
  let pasid := s.pasidFor g (s.on SEG_CTRL.pasid_en n) (s.get SEG_LEN.pasid n)
  s.each parts (fun s c =>
    let i := s.nextId
    let s := { s with nextId := i + 1 }
    s.askHost { fn := g, fgen := s.get FUNC_STATE.gen g, q := none, qgen := 0, seg := some (n, s.get SEG_CTRL.gen n), p := p,
                v := f.vc, fromHost := false, id := i, pasid := pasid, addr := a + c.1,
                len := c.2, be := if f.sparse then f.be else 0, key := k.1, tagged := k.2,
                purpose := .loc p f.tag c.1 })

/-- The function number of a frame that belongs to no function: traffic of a port is never attributed to the port's owner
(R186). Its implicit key is that of the factory weight (log entry 39). -/
def noFn : Nat := 1024

/-- Answers a device read that reaches no host, with a status (R215, R360): at once where no segment is known, else in its place on the
path of the segment's owner (R150, R365). The answer has the key of its request (R277, R282). -/
def State.refuseRead (s : State) (p : Nat) (f : Frame) (st : Nat) : Option Nat → State
  | none => s.queueCpl p noFn ((f.deadline.map s.expandKey).getD (s.implicitKey noFn)) (cplFrame f.vc f.tag st 0 f.deadline true [])
  | some n =>
    let g := s.get SEG_CTRL.owner n
    let (k, s) := s.deviceKey n f.deadline
    let d : DTag := { v := f.vc, fn := g, fgen := s.get FUNC_STATE.gen g, addr := f.addr, len := f.rdLen,
                      key := k.1, tagged := k.2, got := [], sent := 0,
                      failed := some (0, st), nohost := false, refused := true, parts := 0, room := [] }
    (s.modPort p (fun x => { x with dtags := x.dtags ++ [(f.tag, d)] })).answerDevices p

/-- An RD of the local device; its lookup wakes the core (R92). -/
def State.deviceRead (s : State) (p v : Nat) : State :=
  match s.ingressHead p v 1 with
  | none => s
  | some f =>
    let s := (s.popIngress p f).wakeRegion 34
    if (if s.scarfed p then 2048 else 1024) ≤ f.tag ∨ badAccess f f.rdLen then (s.malformed p f 5).refuseRead p f 5 none
    else if (find1 f.tag (s.port p).dtags).isSome then s.malformed p f 5
    else
      match s.hostView p f.addr f.rdLen false with
      | .refused st seg => (s.countRefused p f st seg).refuseRead p f st seg
      | .found n => s.startDeviceRead p n f

/-- A WR of the local device: posted, discarded where it cannot be carried out; it takes its place behind earlier requests of
its path (R215). -/
def State.deviceWrite (s : State) (p v : Nat) : State :=
  match s.ingressHead p v 2 with
  | none => s
  | some f =>
    let s := (s.popIngress p f).wakeRegion 34
    let len := f.payload.length
    if badAccess f len then s.malformed p f 5
    else
      match s.hostView p f.addr len true with
      | .refused st seg => s.countRefused p f st seg
      | .found n =>
        let g := s.get SEG_CTRL.owner n
        let (k, s) := s.deviceKey n f.deadline
        let a := s.segDst n + (f.addr - s.segSrc n)
        let pasid := s.pasidFor g (s.on SEG_CTRL.pasid_en n) (s.get SEG_LEN.pasid n)
        let r : HReq := { fn := g, fgen := s.get FUNC_STATE.gen g, q := none, qgen := 0, seg := some (n, s.get SEG_CTRL.gen n),
                          p := p, v := f.vc, fromHost := false, id := s.nextId, pasid := pasid, addr := a, len := len,
                          be := if f.sparse then f.be else 0, key := k.1, tagged := k.2, purpose := .post f.payload f.addr false }
        { s with nextId := s.nextId + 1 }.askHost r

/-! ### PEG (R363) -/

/-- Sources that a PEG raises, by number within the port. -/
def pegSources (f : Frame) : List Nat :=
  if f.payload.isEmpty then [f.addr % 512]
  else (List.range (8 * f.payload.length)).filter (fun i => (byteAt f.payload (i / 8)).getLsbD (i % 8))

/-- A PEG of the local device. -/
def State.devicePeg (s : State) (p v : Nat) : State :=
  match s.ingressHead p v 4 with
  | none => s
  | some f =>
    let s := s.popIngress p f
    s.each (pegSources f) (fun s i => s.raisePeg (256 * p + i) f.deadline (some f.vc))

/-! ### CPL (R221, R357 to R362) -/

/-- Frees a module tag; engines that waited for one go on. -/
def State.freeTagOf (s : State) (p t : Nat) : State :=
  let s := ((s.disarm (.response p t)).disarm (.tagHold p t)).modPort p (fun d => { d with ltags := drop1 t d.ltags })
  s.runEngines.quiet p

/-- Counts a local timeout or error of a read at its port and its function, unless the read has its result already
(R218). -/
def State.countLocal (s : State) (p fn i : Nat) (done : Bool) : State :=
  if done then s else (s.bump (portCtr p i)).bump (fnCtr fn i)

/-- The BAR4 read of an identifier, while it is in progress. -/
def State.readById (s : State) (p id : Nat) : Option WRead := (s.port p).reads.find? (fun r => r.id == id)

/-- A module read ends without data: a BAR4 read gets its down-port result, an engine's channel halts (R218, R266). `i` is
the counter: 10 timeout, 11 error. -/
def State.endLocal (s : State) (p : Nat) (t : LTag) (i status : Nat) : State :=
  match t.purpose with
  | .window id _ =>
    match s.readById p id with
    | some r => (s.countLocal p t.fn i r.down).failRead p id
    | none => s
  | .engine e pos => (s.countLocal p t.fn i false).engineError e pos status (t.addr + t.base) 1 3
  | .dropped => s

/-- Data of a module read arrives whole; a byte that the access did not enable is ignored (R355). -/
def State.localData (s : State) (p : Nat) (t : LTag) (bs : List Byte) : State :=
  match t.purpose with
  | .window id ofs =>
    match s.readById p id with
    | some r =>
      let en := enables r.dws r.firstBe r.lastBe
      let bs := bs.drop (r.paddr + ofs - t.addr)
      let r := { r with got := r.got ++ ((List.range bs.length).zip bs).filterMap (fun x =>
        if en.getD (ofs + x.1) false then some (ofs + x.1, [x.2]) else none) }
      (s.setRead p r).answerReads p
    | none => s
  | .engine e pos => s.engineData e pos 0 bs true
  | .dropped => s

/-- A CPL breaks R359. -/
def badCpl (t : LTag) (f : Frame) : Bool :=
  f.vc != t.v || f.offset != 0 || !f.last || (f.status == 0 && f.payload.length != t.len)
    || (f.status != 0 && !f.payload.isEmpty)

/-- A CPL of the local device. -/
def State.deviceCpl (s : State) (p v : Nat) : State :=
  match s.ingressHead p v 3 with
  | none => s
  | some f =>
    match find1 f.tag (s.port p).ltags with
    | none => ((s.popIngress p f).bump (portCtr p 14)).jtLog p f.status 4 f.tag f.vc 3 0
    | some t =>
      let s := s.popIngress p f
      if t.held then (s.bump (portCtr p 12)).jtLog p f.status 5 f.tag f.vc 3 t.addr
      else if t.dead then ((s.bump (portCtr p 12)).jtLog p f.status 5 f.tag f.vc 3 t.addr).freeTagOf p f.tag
      else if !s.gensCurrent t.fn t.fgen t.q t.qgen then
        let s := s.bump (fnCtr t.fn 0)
        let s := match t.purpose with
          | .engine e pos => s.engineData e pos 0 [] true
          | .window _ _ | .dropped => s
        s.freeTagOf p f.tag
      else if badCpl t f then
        let s := (s.bump (portCtr p 13)).jtLog p f.status 3 f.tag f.vc 3 t.addr
        ((s.endLocal p t 11 0x15).freeTagOf p f.tag)
      else if f.status ≠ 0 then
        let s := s.jtLog p (if f.status = 6 ∨ f.status = 7 then 8 else f.status) 1 f.tag f.vc 3 t.addr
        ((s.endLocal p t 11 0x15).freeTagOf p f.tag)
      else ((s.localData p t f.payload).freeTagOf p f.tag)

/-- The local response timer of a tag reaches its limit: the read ends and the tag is held (R358). -/
def State.responseTimeout (s : State) (p tag : Nat) : State :=
  match find1 tag (s.port p).ltags with
  | none => s
  | some t =>
    if t.held then s
    else
      let fresh := s.gensCurrent t.fn t.fgen t.q t.qgen
      let s := s.modPort p (fun d => { d with ltags := put1 tag { t with held := true } d.ltags })
      let s := s.arm (.tagHold p tag) (s.get JP_TIMER0.resp_us p * 1000)
      if t.dead then s
      else
        let s := s.jtLog p 0 2 tag t.v 1 t.addr
        if fresh then s.endLocal p t 10 0x16
        else match t.purpose with
          | .engine e pos => (s.countLocal p t.fn 10 false).engineData e pos 0 [] true
          | .window _ _ | .dropped => s

/-! ### Data lost in a unit on its way (R393, code 6.1; log entry 60) -/

/-- The frame waits at the egress of JPp, carries a request of function `f`, and its local addresses hold `a`. -/
def State.unitHit (s : State) (p f a : Nat) (e : EgFrame) : Bool :=
  let b := s.regionBase p + e.frame.addr
  let n := if e.frame.type = 1 then e.frame.rdLen else e.frame.payload.length
  e.fn == f && e.asks && !e.waits && decide (b ≤ a) && decide (a < b + n)

/-- A request that waits at the egress of JPp is lost: a BAR4 write is dropped and counted, an engine write is dropped, posted as it
is, and a read ends as a local error (R361). -/
def State.loseFrame (s : State) (p : Nat) (e : EgFrame) : State :=
  let s := s.modPort p (fun d => { d with egress := d.egress.erase e })
  match e.origin with
  | .windowWrite _ f _ _ _ => ((s.bump (fnCtr f 7)).bump (portCtr p 20)).pump p
  | .engineWrite _ q piece ofs _ => (s.writeAccepted q piece ofs).pump p
  | _ =>
    match find1 e.frame.tag (s.port p).ltags with
    | some t => (s.endLocal p t 11 0x15).freeTagOf p e.frame.tag
    | none => s

/-- Code 6.1: the unit of function `f` at address `a` is lost: a posted write that waits for the host goes poisoned, else the
first request found at a Joist egress is lost. -/
def State.loseUnit (s : State) (f a : Nat) : State :=
  let h := fnPort f
  let hit (r : HReq) : Bool := r.posted && r.fn == f && decide (r.addr ≤ a ∧ a < r.addr + r.len)
  match (s.host h).waiting.find? hit with
  | some r => s.modHost h (fun d => { d with waiting := d.waiting.map (fun x => if x = r then
      { x with purpose := match x.purpose with
        | .post bs la _ => .post bs la true
        | y => y } else x) })
  | none =>
    match s.ports.findSome? (fun x => (x.2.egress.find? (s.unitHit x.1 f a)).map (fun e => (x.1, e))) with
    | some (p, e) => s.loseFrame p e
    | none => s

/-- The TIME period of a port has passed (R364). -/
def State.timeDueNow (s : State) (p : Nat) : State :=
  if s.get JP_STATUS.link_state p ≠ 3 then s
  else
    let t := s.get JT_TIME_CTRL.period_us p
    let s := if t = 0 then s else s.arm (.timeFrame p) (t * 1000)
    if s.on JP_STATUS.tx_doze p then s.modPort p (fun d => { d with timeDue := true })
    else if (s.port p).sleepAck then s
    else s.enqueue p { timeEg with key := s.now64 }

end Sys2Proof.Machine
end

