-- ==== Sys2Proof/Machine/HostOps.lean ====
section
/-! DEFINITION. Host ports: completions and tags (R145 to R147, R192), training, power management, LTR, PTM and IDE
(R135 to R142, R154 to R160). -/

namespace Sys2Proof.Machine

/-! ### Completions to module requests (R147, R160, R191, R192) -/

/-- Part of a device read at offset `ofs` ends. With `nohost` set its data is discarded, and the read ends with NOHOST
once every part has ended (R152). -/
def State.locPart (s : State) (p dtag ofs : Nat) (bs : List Byte) (done : Bool) (err : Bool) : State :=
  match find1 dtag (s.port p).dtags with
  | none => s
  | some d =>
    let d := { d with
      got := if d.nohost ∨ bs.isEmpty then d.got else d.got ++ [(ofs, bs)]
      room := if err ∨ (done ∧ d.nohost) then d.room.filter (fun c => !decide (c.1 ≤ ofs ∧ ofs < c.1 + c.2)) else d.room
      parts := if done then d.parts - 1 else d.parts }
    let d := if err ∧ ¬ d.nohost then
        { d with failed := match d.failed with
          | some (o, st) => if ofs < o then some (ofs, 4) else some (o, st)
          | none => some (ofs, 4) }
      else d
    let d := if d.nohost ∧ d.parts = 0 ∧ d.failed.isNone then { d with failed := some (d.sent, 3) } else d
    (s.modPort p (fun x => { x with dtags := put1 dtag d x.dtags })).answerDevices p

/-- Data for a request whose generations are current. -/
def State.hostData (s : State) (r : HReq) (ofs : Nat) (bs : List Byte) (done : Bool) (whole : List Byte) : State :=
  match r.purpose with
  | .engine e pos => s.engineData e pos ofs bs done
  | .loc p t o => s.locPart p t (o + ofs) bs done false
  | .dropped | .post _ _ _ => s
  | x => if done then match r.q with
    | some q => s.fetchDone q x whole
    | none => s
    else s

/-- A request ends in an error: `status` is the halting status for an engine read (R147, R266). -/
def State.hostError (s : State) (r : HReq) (status : Nat) : State :=
  match r.purpose with
  | .engine e pos => s.engineError e pos status r.addr 0 1
  | .loc p t o => s.locPart p t o [] true true
  | .dropped | .post _ _ _ => s
  | x => match r.q with
    | some q => s.fetchFailed q x r.addr
    | none => s

/-- A request of an old generation ends: its data is discarded (R192). -/
def State.hostStale (s : State) (r : HReq) : State :=
  match r.purpose with
  | .engine e pos => s.engineData e pos 0 [] true
  | _ => s

/-- IDE stream on which the completion of tag `t` comes: that of its request, else the link stream (log entry 38). -/
def State.cplStream (s : State) (h t : Nat) : Option Nat :=
  match find1 t (s.host h).tags with
  | some x => s.streamFor x.req.fn
  | none => some 0

/-- A poisoned completion: Detected Parity Error, and Master Data Parity Error where Parity Error Response asks for it (R165). -/
def State.notePoison (s : State) (f : Nat) : State :=
  let s := s.setStatus f 31
  if s.cfgBit (fnPf f) 0x04 6 then s.setStatus f 24 else s

/-- A completion TLP for tag `t` arrives (R147, R160, R192); on a failed IDE stream it is discarded (R159). -/
def State.hostCompletion (s : State) (h t : Nat) (st : CplStatus) (data : List Byte) : State :=
  if !s.linkUp h || s.streamFailed h (s.cplStream h t) then s
  else
    match find1 t (s.host h).tags with
    | none => s.aerUnc h 16 (some (tlpHeader 0x4A data.length 0 t 0))
    | some x =>
      if x.held then s.aerUnc (s.logFn x.req.fn) 16 (some (tlpHeader 0x4A data.length (s.rid x.req.fn) t 0))
      else if !s.gensCurrent x.req.fn x.req.fgen x.req.q x.req.qgen then
        (((s.wakeRegion 34).bump (fnCtr x.req.fn 0)).hostStale x.req).freeHostTag h t
      else
        match st with
        | .ok =>
          let bs := data.take (x.req.len - x.got.length)
          let all := x.got ++ bs
          if x.req.len ≤ all.length then
            ((s.freeHostTag h t).hostData x.req x.got.length bs true all)
          else
            let s := s.modHost h (fun d => { d with tags := put1 t { x with got := all } d.tags })
            s.hostData x.req x.got.length bs false all
        | .poisoned =>
          let s := (s.notePoison x.req.fn).aerUnc x.req.fn 12 (some (tlpHeader 0x4A data.length (s.rid x.req.fn) t 0))
          (s.freeHostTag h t).hostError x.req 0x11
        | _ =>
          let s := s.setStatus x.req.fn (if st = .aborted then 28 else 29)
          ((s.bump (hostCtr h 3)).freeHostTag h t).hostError x.req 0x11

/-- The dword with its PASID that stands in front of a request's header, outside Flit mode (R172; layout of the Base
Specification, log entry 17). -/
def State.pasidHeader (s : State) (h : Nat) : Option Nat → List Dword
  | some n => if s.on HP_LINK_STATUS.flit_mode h then [] else [BitVec.ofNat 32 (0x91000000 + n % 2 ^ 20)]
  | none => []

/-- The completion timeout of a tag is reached (R146, R147). -/
def State.completionTimeout (s : State) (h t : Nat) : State :=
  match find1 t (s.host h).tags with
  | none => s
  | some x =>
    if x.held then s
    else
      let s := (s.bump (hostCtr h 4)).holdHostTag h t
      let s := s.aerUnc (s.logFn x.req.fn) 14 (some (tlpHeader 0 x.req.len (s.rid x.req.fn) t x.req.addr ++ s.pasidHeader h x.req.pasid))
      if s.gensCurrent x.req.fn x.req.fgen x.req.q x.req.qgen then s.hostError x.req 0x12 else s.hostStale x.req

/-- An abandoned tag of a function under FLR follows R147 (R194). -/
def State.abandonTag (s : State) (h t : Nat) : State :=
  match find1 t (s.host h).tags with
  | none => s
  | some x => if x.held then s else (s.holdHostTag h t).hostStale x.req

/-- A held tag may be used again (R147). -/
def State.releaseHostTag (s : State) (h t : Nat) : State :=
  s.modHost h (fun d => { d with tags := drop1 t d.tags })

/-- A grant of the tag arbiter (R286): a head whose IDE stream has failed ends under R147 instead (R159). -/
def State.hostGrant (s : State) (h : Nat) : State :=
  match headReq (s.host h).waiting with
  | some r =>
    if s.streamFailed h (s.streamFor r.fn) then
      ((s.modHost h (fun d => { d with waiting := d.waiting.erase r })).hostError r 0x11).drainWrites h
    else s.grantTag h
  | none => s

/-! ### Training (R134 to R138) -/

/-- Largest width of the set {16, 8, 4, 2, 1} that does not exceed `n`. A 0 has no lower value in the set and stays 0: max_width 0
keeps the port from training, l0p_min_width 0 acts as 1 (R162; log entry 52, DESIGN CHOICE). -/
def widthBelow (n : Nat) : Nat := (([16, 8, 4, 2, 1] : List Nat).find? (fun w => decide (w ≤ n))).getD 0

/-- The port may train: powered, cable present, PERST_N high (R62, R135), not held out of service and not waiting for its
recovery (R399). -/
def State.mayTrain (s : State) (h : Nat) : Bool :=
  s.mayServe h && s.get BRACE_DSTATE.state h != 1 && s.portsPowered && !(s.host h).absent && !(s.host h).perst && !s.linkUp h

/-- Configuration offset and first bit of the equalisation status of the rate with code `r` (R137, R172; places of the Base
Specification, log entry 17): complete, then phases 1 to 3. -/
def eqPlace (r : Nat) : Nat × Nat :=
  match r with
  | 2 => (0x80, 17)
  | 3 => (0x200, 0)
  | 4 => (0x230, 0)
  | 5 => (0x260, 0)
  | _ => (0x280, 0)

/-- Rates at which a port that trains to `rate` runs phases 0 to 3: from 8.0 GT/s upward; with equalisation bypass at both ends
from 32.0 GT/s (R137, log entry 17). -/
def eqRates (rate : Nat) (bypass : Bool) : List Nat :=
  (List.range 7).filter (fun r => decide (2 ≤ r ∧ r ≤ rate) && !(bypass && decide (4 ≤ rate ∧ r < 4)))

/-- The port advertises equalisation bypass to highest rate: eq_bypass, unless the host disables it (R137, R172). -/
def State.offersBypass (s : State) (h : Nat) : Bool := s.on HP_LINK_CTRL.eq_bypass h && !s.cfgBit h 0x22C 0

/-- Configuration offset of the lane equalisation control of the rate with code `r` (R172). -/
def presetPlace (r : Nat) : Nat :=
  match r with
  | 3 => 0x214
  | 4 => 0x244
  | 5 => 0x264
  | _ => 0x284

/-- Equalisation runs as upstream port at each of some rates, and its four phases succeed (R137). From 16.0 GT/s it captures the
presets that the partner gives the lanes (R172; layout of the Base Specification, log entry 17). -/
def State.equalise (s : State) (h : Nat) (o : LinkOffer) (rs : List Nat) : State :=
  let s := s.each rs (fun s r => s.cfgPut h (eqPlace r).1 (eqPlace r).2 4 15)
  let caught := o.presets.filter (fun e => decide (3 ≤ e.1.val) && rs.contains e.1.val)
  s.each caught (fun s e => s.cfgPut h (presetPlace e.1 + 4 * (e.2.1.val / 4)) (8 * (e.2.1.val % 4) + 4) 4 e.2.2.toNat)

/-- What the partner's training sets ask for from 32.0 GT/s: precoding by the transmitter, and at 32.0 GT/s how the link is to be
equalised (R172; layout of the Base Specification, log entry 17). -/
def State.noteBehaviour (s : State) (h : Nat) (o : LinkOffer) : State :=
  let asked (r : Nat) : Nat := b2n (o.precode.any (fun e => e.val == r))
  let s := ((s.cfgPut h 0x230 6 2 (if o.noEq then 2 else b2n o.eqBypass)).cfgPut h 0x230 8 1 (asked 4)).cfgPut h 0x230 10 1 (b2n o.noEq)
  let s := (s.cfgPut h 0x260 5 1 (asked 5)).cfgPut h 0x260 7 1 (b2n o.noEq)
  (s.cfgPut h 0x280 5 1 (asked 6)).cfgPut h 0x280 7 1 (b2n o.noEq)

/-- Code of a link width in Device Status 3 (R172; log entry 17). -/
def widthCode (w : Nat) : Nat := if w = 1 then 0 else if w = 2 then 1 else if w = 4 then 2 else if w = 8 then 3 else 4

/-- Rate and width that training with an offer gives, and the width limit (R135, R136). -/
def State.trainedWidth (s : State) (h : Nat) (o : LinkOffer) : Nat × Nat :=
  let limit := widthBelow (min (s.get HP_LINK_CTRL.max_width h) o.maxWidth)
  (widthBelow (min limit o.workingLanes), limit)
def State.trainedRate (s : State) (h : Nat) (o : LinkOffer) (flit : Bool) : Nat :=
  min (min 6 (s.get HP_LINK_CTRL.max_rate h)) (if flit then o.maxRate else min 4 o.maxRate)

/-- What every training leaves: rate, width, degraded with its history entry, equalisation (R135, R137). -/
def State.loadLink (s : State) (h rate w limit : Nat) (o : LinkOffer) : State :=
  let s := ((s.put HP_LINK_STATUS.rate h rate).put HP_LINK_STATUS.width h w).put HP_LINK_STATUS.l0p_width h w
  let s := (s.flag HP_LINK_STATUS.degraded h (decide (w < limit))).equalise h o (eqRates rate (s.offersBypass h && o.eqBypass))
  let s := s.noteBehaviour h o
  if w < limit then s.report 0 4 h 0 else s

/-- A link that is up trains again, which only the host directs: rate and width change (R135). -/
def State.linkRetrained (s : State) (h : Nat) (o : LinkOffer) : State :=
  let (w, limit) := s.trainedWidth h o
  let s := s.leaveL1 h
  let s := s.loadLink h (s.trainedRate h o (s.on HP_LINK_STATUS.flit_mode h)) w limit o
  s.put HP_LINK_STATUS.pm_state h 0

/-- Initial training completes with what the partner offers; the port advertises its credits (R135 to R138). -/
def State.linkTrained (s : State) (h : Nat) (o : LinkOffer) : State :=
  let (w, limit) := s.trainedWidth h o
  if w = 0 then s
  else if s.linkUp h && s.get HP_LINK_STATUS.pm_state h != 3 then s.linkRetrained h o
  else if !s.mayTrain h then s
  else
    let s := (s.put HP_LINK_STATUS.link_up h 1).flag HP_LINK_STATUS.flit_mode h o.flit
    let s := (s.flag HP_LINK_STATUS.reversed h o.reversed).flag HP_LINK_STATUS.sris h (!o.refclkOk)
    let s := (s.put HP_LINK_STATUS.pm_state h 0).put HP_LINK_STATUS.l1_sub h 0
    let s := (s.setHcrState h 0).modHost h (fun d => { d with pmOff := false, wake := false, clkreq := true })
    let s := s.each [2, 3, 4, 5, 6] (fun s r => s.cfgPut h (eqPlace r).1 (eqPlace r).2 4 0)
    let s := (s.cfgPut h 0x80 26 1 (b2n o.flit)).setCfg h 0x1F0 (match o.dlFeature with
      | some v => BitVec.ofNat 32 (2 ^ 31 + v.toNat)
      | none => 0)
    let s := s.emit (.message h (.eqBypass (s.offersBypass h)))
    let s := (s.cfgPut h 0x328 0 3 (widthCode w)).cfgPut h 0x328 4 1 (b2n o.l0p)
    let s := (s.loadLink h (s.trainedRate h o o.flit) w limit o).emit
      (.message h (.credits 512 131072 1024 16384))
    if s.cfgBit h 0x33C 0 then s.arm (.ptm h) 0 else s

/-! ### Power management (R139 to R142) -/

/-- A waiting register access that the host of port `h` made. -/
def RingAccess.fromPort (h : Nat) : RingAccess → Bool
  | .read _ (.fn f) _ _ _ _ _ => fnPort f.val == h
  | .write _ (.fn f) _ _ => fnPort f.val == h
  | .named _ (.fn f) _ _ _ _ => fnPort f.val == h
  | _ => false

/-- ASPM L1 conditions that the state shows (R140): no tag, no read or configuration write of the host in progress, no message, and no
request at the tag arbiter, the Peg output, the fetch arbiter or an engine arbiter. -/
def State.l1Idle (s : State) (h : Nat) : Bool :=
  (s.host h).waiting.isEmpty && (s.host h).tags.all (fun t => t.2.held)
    && s.ports.all (fun p => p.2.reads.all (fun r => r.h != h)) && s.vecs.all (fun v => fnPort (s.qOwner v.q) != h)
    && s.ring.all (fun x => !x.fromPort h)
    && s.pendingPegs.all (fun i => fnPort (s.get PEG_SRC_CTRL.owner i) != h) && s.freed.all (fun m => fnPort m.f != h)
    && (s.host h).vfeOwed == 0 && s.funcs.all (fun f => fnPort f.1 != h || (f.2.flrOwed == 0 && f.2.cmdOwed == 0))
    && s.queues.all (fun q => fnPort (s.qOwner q.1) != h || s.on Q_STATE.cq_wait q.1 || (s.dueEntry q.1).isNone)
    && s.fetchCands.all (fun c => fnPort (s.qOwner c.1) != h)
    && (List.range 6).all (fun g => (s.engineCands g).all (fun c => fnPort (s.qOwner c.1) != h))

/-! ### PTM contexts and DEVTIME steering (R154 to R156) -/

/-- The port that steers DEVTIME. -/
def State.steeringPort (s : State) : Option Nat :=
  (List.range 4).find? (fun h => natBit (s.get GLOBAL_CTRL.devtime_src) h && s.on HP_PTM_STATUS.ctx_valid h)

/-- Every port's steering bit follows; a slew under way ends where the port that asked for it steers no more (R155). -/
def State.judgeSteering (s : State) : State :=
  let same := (List.range 4).all (fun h => s.on HP_PTM_STATUS.steering h == (s.steeringPort == some h))
  let s := if same then s else { s with slew := 0, slewFrac := 0 }
  s.each (List.range 4) (fun s h => s.flag HP_PTM_STATUS.steering h (s.steeringPort == some h))

/-- HP_PPS_HOST follows: the stamp of the last PPS edge plus the offset of the port's most recent valid dialog, 0 without a valid context
(R156). A stamp of 0 is no edge. -/
def State.loadPps (s : State) (h : Nat) : State :=
  let d := s.get HP_PPS_DEVTIME.stamp h
  s.put HP_PPS_HOST.host_time h (if s.on HP_PTM_STATUS.ctx_valid h ∧ d ≠ 0 then d + s.get HP_PTM_OFFSET.offset h else 0)

/-- The PTM context of a port is invalid: its host time of the PPS edge reads 0 (R154, R156). -/
def State.ptmLost (s : State) (h : Nat) : State :=
  ((s.put HP_PTM_STATUS.ctx_valid h 0).loadPps h).judgeSteering

/-- The link enters L1; the PTM context is invalid (R140, R154). -/
def State.enterL1 (s : State) (h : Nat) : State :=
  let s := ((s.put HP_LINK_STATUS.pm_state h 2).put HP_LINK_STATUS.l1_sub h 0).setHcrState h 1
  ((s.ptmLost h).disarm (.ptmContext h)).emit (.message h .enterL1)

/-- The port asks for L1: under ASPM, or under PCI-PM while its PF is in D3hot, after l1_idle_us of quiet (R140). -/
def State.askL1 (s : State) (h : Nat) : State :=
  if s.linkUp h && s.get HP_LINK_STATUS.pm_state h ≤ 1 && (s.cfgBit h 0x60 1 || s.on FUNC_STATE.d3hot h) && s.l1Idle h then
    (s.advance (max 1 (s.get HP_PM_CTRL.l1_idle_us h) * 1000)).enterL1 h
  else s

/-- The link leaves L1 to L0; the slice is woken (R92). -/
def State.exitL1 (s : State) (h : Nat) : State :=
  if s.linkUp h && s.get HP_LINK_STATUS.pm_state h == 2 then
    ((s.leaveL1 h).wakeRegion 34).wakeRegion (30 + h)
  else s

/-- The link enters an L1 substate (R89, R140). -/
def State.enterL1Sub (s : State) (h : Nat) (l12 : Bool) : State :=
  if s.linkUp h && s.get HP_LINK_STATUS.pm_state h == 2 then
    let s := (s.put HP_LINK_STATUS.l1_sub h (if l12 then 2 else 1)).setHcrState h (if l12 then 2 else 1)
    s.modHost h (fun d => { d with clkreq := false })
  else s

/-- L0p is enabled by the host on a link in Flit mode (R134, R172). -/
def State.l0pOn (s : State) (h : Nat) : Bool :=
  s.linkUp h && s.on HP_LINK_STATUS.flit_mode h && s.cfgBit h 0x324 3 && s.get HP_LINK_STATUS.pm_state h ≤ 1

/-- The active transmit width takes a value (R139). -/
def State.setL0p (s : State) (h w : Nat) : State :=
  let s := (s.put HP_LINK_STATUS.l0p_width h w).put HP_LINK_STATUS.pm_state h (b2n (w != s.get HP_LINK_STATUS.width h))
  s.emit (.message h (.l0pWidth w))

/-- A deadline-tagged request at the egress has less than 8 us left (R139). -/
def State.urgentEgress (s : State) (h : Nat) : Bool :=
  (s.host h).waiting.any (fun r => r.tagged && decide (64 * r.key < keyNs s.devtime + 8000))

/-- Evaluation of L0p; uses are percentages of the x16 capacity in the busier direction (R139). -/
def State.evalL0p (s : State) (h use16 use2 : Nat) : State :=
  let full := s.get HP_LINK_STATUS.width h
  let cur := s.get HP_LINK_STATUS.l0p_width h
  if !s.l0pOn h || !s.on HP_PM_CTRL.l0p_auto h || full == 0 then s
  else if cur ≠ full ∧ (s.get HP_PM_CTRL.l0p_widen_pct h * cur < use2 * 16 ∨ s.urgentEgress h) then s.setL0p h full
  else
    let low := max 1 (widthBelow (s.get HP_PM_CTRL.l0p_min_width h))
    match ([1, 2, 4, 8, 16] : List Nat).find? (fun w => decide (low ≤ w ∧ w ≤ full ∧ use16 * 16 < s.get HP_PM_CTRL.l0p_narrow_pct h * w)) with
    | some w => if w < cur ∧ !s.urgentEgress h then s.setL0p h w else s
    | none => s

/-- The host asks for an L0p width (R139). -/
def State.hostL0p (s : State) (h w : Nat) : State :=
  let v := widthBelow (min w (s.get HP_LINK_STATUS.width h))
  if s.l0pOn h ∧ v ≠ 0 ∧ v = w then s.setL0p h v else s

/-- A device read that finds no host any more: its parts that have no tag are withdrawn; it ends with NOHOST once the outstanding
ones have ended (R142, R152). -/
def State.cutRead (s : State) (h p t : Nat) : State :=
  let mine : HReq → Bool := fun r => match r.purpose with
    | .loc q u _ => q == p && u == t
    | _ => false
  let n := ((s.host h).waiting.filter mine).length
  let s := s.modHost h (fun d => { d with waiting := d.waiting.filter (fun r => !mine r) })
  s.modPort p (fun d => { d with dtags := d.dtags.map (fun x =>
    if x.1 = t then
      let left := x.2.parts - n
      (t, { x.2 with nohost := true, parts := left
                     failed := if left = 0 ∧ x.2.failed.isNone then some (x.2.sent, 3) else x.2.failed })
    else x) })

/-- Device reads of port `h` that satisfy `which` are cut. -/
def State.cutReads (s : State) (h : Nat) (which : State → Nat → Nat → DTag → Bool) : State :=
  s.each (List.range 96) (fun s p =>
    let ts := ((s.port p).dtags.filter (fun t => fnPort t.2.fn == h && which s p t.1 t.2)).map (fun t => t.1)
    if ts.isEmpty then s else (s.each ts (fun s t => s.cutRead h p t)).answerDevices p)

/-- Writes of local devices that wait for functions of port `h` which satisfy `which` find no host: they are discarded and counted
(R142, R152, R215). -/
def State.refusePosts (s : State) (h : Nat) (which : Nat → Bool) : State :=
  let mine := (s.host h).waiting.filter (fun r => r.posted && which r.fn)
  let s := s.modHost h (fun d => { d with waiting := d.waiting.filter (fun r => !(r.posted && which r.fn)) })
  s.each mine (fun s r => match r.purpose with
    | .post _ a _ => (s.bump (portCtr r.p 23)).jtLog r.p 3 6 0 r.v 2 a
    | _ => s)

/-- A part of device read `t` of JPp still waits at the tag arbiter of port `h`. -/
def State.partWaits (s : State) (h p t : Nat) : Bool :=
  (s.host h).waiting.any (fun r => match r.purpose with
    | .loc q u _ => q == p && u == t
    | _ => false)

/-- PME_Turn_Off arrives: what has not started does not start; local requests that wait find no host (R142). -/
def State.turnOff (s : State) (h : Nat) : State :=
  if s.linkUp h then
    let s := (s.leaveL1 h).modHost h (fun d => { d with pmOff := true })
    let s := (s.refusePosts h (fun _ => true)).cutReads h (fun s p t _ => s.partWaits h p t)
    (s.emitMsg h .pmeToAck).put HP_LINK_STATUS.pm_state h 3
  else s

/-! ### LTR (R141) -/

/-- The port is busy. -/
def State.ltrBusy (s : State) (h : Nat) : Bool :=
  s.queues.any (fun q => fnPort (s.qOwner q.1) == h && (s.get Q_STATE.state q.1 == 2 || s.get Q_STATE.state q.1 == 3))
    || (s.host h).waiting.any (fun r => r.q.isNone)
    || s.pendingPegs.any (fun i => fnPort (s.get PEG_SRC_CTRL.owner i) == h)

/-- The largest value that an LTR message can hold and that does not exceed `n` ns: 10 bits times 32^k. -/
def ltrValue (n : Nat) : Nat :=
  let k := ((List.range 6).find? (fun k => decide (n / 32 ^ k < 1024))).getD 5
  min 1023 (n / 32 ^ k) * 32 ^ k

/-- Sends an LTR message, or leaves it due at the end of the 10 us interval. -/
def State.sendLtr (s : State) (h : Nat) : State :=
  if !(s.cfgBit h 0x78 10 && s.linkUp h && s.get HP_LINK_STATUS.pm_state h != 3) then s
  else if s.clock < (s.host h).ltrNext then s.modHost h (fun d => { d with ltrDue := true })
  else
    let v := if (s.host h).ltrBusy = some true then s.get HP_LTR.busy_ns h else s.get HP_LTR.idle_ns h
    let s := (s.leaveL1 h).emitMsg h (.ltr (ltrValue v))
    s.modHost h (fun d => { d with ltrNext := s.clock + 10000, ltrDue := false })

/-- The port's busy state is judged: a message that was due is sent when its interval ends, a change is reported, and
idle follows 100 us without anything that makes the port busy. -/
def State.judgeLtr (s : State) (h : Nat) : State :=
  let s := if (s.host h).ltrDue then (s.advance ((s.host h).ltrNext - s.clock)).sendLtr h else s
  let was := (s.host h).ltrBusy
  if s.ltrBusy h then
    let s := s.disarm (.ltrIdle h)
    if was = some true then s else (s.modHost h (fun d => { d with ltrBusy := some true })).sendLtr h
  else if was = some false then s
  else if s.armed (.ltrIdle h) then ((s.expire (.ltrIdle h)).modHost h (fun d => { d with ltrBusy := some false })).sendLtr h
  else s.arm (.ltrIdle h) 100000

/-! ### PTM dialogs (R154, R155) -/

/-- The steering port uses an offset, each once (R155). -/
def State.steer (s : State) (h : Nat) (o : Int) : State :=
  let s := s.modHost h (fun d => { d with steered := true })
  if o > 10000 then
    (({ s with devtime := ((s.devtime : Int) + o).toNat % 2 ^ 64, slew := 0, slewFrac := 0 }.put HP_PTM_STATUS.stepped h 1).report 0 5 h 0)
  else if o < -1000000 then { s with slew := 0, slewFrac := 0 }.put HP_PTM_STATUS.align_fault h 1
  else { s with slew := o, slewFrac := 0 }

/-- Offset of the host's time from DEVTIME that a dialog gives, its response arriving now (R154): the master time at the sending
of the request is the master time of its arrival less the link's delay, half of what the round trip takes beyond the turnaround. -/
def State.ptmOffset (s : State) (t : PtmTimes) : Int :=
  (t.master : Int) - ((t.roundTrip : Int) - t.turnaround) / 2 - ((s.devtime : Int) - t.roundTrip)

/-- A dialog runs and completes; on a link in L1 none runs, and the next falls due a period later (R154, log entry 54). -/
def State.ptmDialog (s : State) (h : Nat) (t : PtmTimes) : State :=
  let period := max 1 (s.get HP_PTM_CTRL.period_ms h) * 1000000
  if !(s.cfgBit h 0x33C 0 && s.linkUp h) then s
  else if s.get HP_LINK_STATUS.pm_state h ≤ 1 then
    let o := s.ptmOffset t
    let s := (s.emitMsg h .ptmRequest).modHost h (fun d => { d with steered := false })
    let s := ((s.put HP_PTM_OFFSET.offset h (unsigned o 64)).put HP_PTM_STATUS.ctx_valid h 1).loadPps h
    let s := ((s.arm (.ptm h) period).arm (.ptmContext h) (2 * period)).judgeSteering
    if s.steeringPort = some h then s.steer h o else s
  else s.arm (.ptm h) period

/-- devtime_src has been written: a port that steers from now on uses the offset it holds (R155). -/
def State.takeSteering (s : State) (was : Option Nat) : State :=
  let s := s.judgeSteering
  match s.steeringPort with
  | some h =>
    if was = some h ∨ (s.host h).steered then s else s.steer h (BitVec.ofNat 64 (s.get HP_PTM_OFFSET.offset h)).toInt
  | none => s

/-- A qualified rising edge on PPS_IN is stamped in every port block (R70, R156). -/
def State.stampPps (s : State) : State :=
  let s := s.modPins (fun d => { d with pps := some s.clock })
  s.each (List.range 4) (fun s h =>
    (s.put HP_PPS_DEVTIME.stamp h s.devtime).loadPps h)

/-- A rising edge on PPS_IN whose pulse stays high for `n` ns (R70): rejected below 250 ns and within 50 ms of the last
qualified edge; from 250 to 500 ns the filter's choice is free (log entry 7). -/
def State.ppsEdge (s : State) (n : Nat) : State :=
  let locked := match s.pins.pps with
    | some t => decide (s.clock < t + 50000000)
    | none => false
  let (ok, s) := if n < 250 then (false, s)
    else if 500 ≤ n then (true, s)
    else (let (w, s) := s.freeWord; (bitAt w 0, s))
  if ok && !locked then s.stampPps else s.each (List.range 4) (fun s h => s.put HP_PTM_STATUS.pps_reject h 1)

/-! ### IDE (R157 to R159) -/

/-- Loads the secure bit of a stream. -/
def State.setSecure (s : State) (h i : Nat) (b : Bool) : State :=
  if i = 0 then s.flag HP_IDE_STATUS.link_secure h b
  else s.put HP_IDE_STATUS.sel_secure h ((setBits (BitVec.ofNat 64 (s.get HP_IDE_STATUS.sel_secure h)) (i - 1) 1 (b2n b)).toNat)

/-- Requests outstanding or waiting on a stream that has failed fail under R147 (R159). -/
def State.failStream (s : State) (h i : Nat) : State :=
  let mine := (s.host h).waiting.filter (fun r => s.streamFor r.fn == some i)
  let s := s.modHost h (fun d => { d with waiting := d.waiting.filter (fun r => !mine.contains r) })
  (s.each mine (fun s r => s.hostError r 0x11)).drainWrites h

/-- AER status bit of an IDE failure: IDE Check Failed, Misrouted IDE TLP, PCRC Check Failed. -/
def ideBit : IdeFailure → Nat
  | .integrity => 28
  | .misrouted => 29
  | .pcrc => 30

/-- A stream becomes insecure and stays so until it is programmed again (R159). -/
def State.ideFail (s : State) (h i : Nat) (k : IdeFailure) : State :=
  let x := s.ideStream h i
  if x.active.isNone then s
  else
    let s := ((s.setIde h i { x with active := none, next := none, failed := true }).setSecure h i false).judgeKeys h
    (s.aerUnc h (ideBit k) none).failStream h i

/-- Keys are erased and streams leave the secure state (R158). -/
def State.eraseIde (s : State) (h : Nat) : State :=
  (((s.modHost h (fun d => { d with ide := [] })).put HP_IDE_STATUS.link_secure h 0).put HP_IDE_STATUS.sel_secure h 0).judgeKeys h

/-- KEY_PROG: a key set of a stream takes a key (R158). -/
def State.progKey (s : State) (h i k : Nat) (key : BitVec 256) : State :=
  let x := s.ideStream h i
  s.setIde h i { x with keys := put1 k key x.keys }

/-- K_SET_GO: the stream uses a key set that has been programmed, and is secure. A stream that is secure already goes on with its
key set until it next sends a TLP (R162, log entry 55). -/
def State.setGo (s : State) (h i k : Nat) : State :=
  let x := s.ideStream h i
  if (find1 k x.keys).isNone then s
  else if x.active.isSome ∧ x.active ≠ some k then (s.setIde h i { x with next := some k }).judgeKeys h
  else ((s.setIde h i { x with active := some k, next := none, failed := false }).setSecure h i true).judgeKeys h

/-- K_SET_STOP: the stream leaves a key set. -/
def State.setStop (s : State) (h i k : Nat) : State :=
  let x := s.ideStream h i
  let next := if x.next = some k then none else x.next
  if x.active = some k then
    ((s.setIde h i { x with active := none, next := none, keys := drop1 k x.keys }).setSecure h i false).judgeKeys h
  else (s.setIde h i { x with next := next, keys := drop1 k x.keys }).judgeKeys h

/-! ### Requests that are turned away (R160) -/

/-- AER status of a link-level error, logged in the PF alone: uncorrectable or correctable, and its bit. -/
def linkError : BadRequest → Option (Bool × Nat)
  | .dataLinkProtocol => some (true, 4)
  | .flowControlProtocol => some (true, 13)
  | .receiverOverflow => some (true, 17)
  | .receiverError _ => some (false, 0)
  | .badTlp => some (false, 6)
  | .badDllp => some (false, 7)
  | .replayRollover => some (false, 8)
  | .replayTimeout => some (false, 12)
  | _ => none

/-- The header of a received TLP as AER logs it. -/
def tlpInfo (t : TlpInfo) : List Dword := tlpHeader t.fmt.toNat t.len t.requester.toNat t.tag t.addr

/-- A TLP that function `f` received and turns away, logged in its AER (R160). ECRC is checked while ECRC Check Enable is set (R172). -/
def State.turnAway (s : State) (f : Nat) (k : BadRequest) : State :=
  let g := s.logFn f
  let h := fnPort f
  match k with
  | .ecrc t => if s.cfgBit h 0x118 8 then s.aerUnc g 19 (some (tlpInfo t)) else s
  | .unsupported np pasid t =>
    let s := if np then s.emitTlp f (.completion h f t.tag .unsupported []) else s
    s.aerUnc g 20 (some (tlpInfo t ++ s.pasidHeader h (pasid.map BitVec.toNat))) true
  | .poisonedWrite t => ((s.bump (hostCtr h 2)).setStatus g 31).aerUnc g 12 (some (tlpInfo t))
  | .malformed t => s.aerUnc g 18 (some (tlpInfo t))
  | _ => s

/-- Lanes that a receiver error names are marked in the Secondary PCI Express capability, parity mismatches from 16.0 GT/s in its
own (R172; log entry 17). -/
def State.noteLanes (s : State) (h : Nat) (k : BadRequest) : State :=
  match k with
  | .receiverError e =>
    let mark (s : State) (o : Nat) (m : BitVec 16) : State := s.setCfg h o (s.cfgWord h o ||| m.zeroExtend 32)
    let s := mark s 0x1C4 e.lanes
    if s.get HP_LINK_STATUS.rate h < 3 then s
    else mark (mark (mark s 0x204 e.parity) 0x208 e.retimer1) 0x20C e.retimer2
  | _ => s

/-- An error of the link, or a TLP that a port turns away (R160). A TLP on a failed IDE stream is not received (R159). -/
def State.badRequest (s : State) (f : Nat) (k : BadRequest) : State :=
  if !s.linkUp (fnPort f) then s
  else match linkError k with
  | some (true, b) => s.aerUnc (fnPort f) b none
  | some (false, b) => (s.noteLanes (fnPort f) k).aerCor (fnPort f) b
  | none => if s.unheard f then s else s.turnAway f k

end Sys2Proof.Machine
end

