-- ==== Sys2Proof/Machine/Funcs.lean ====
section
/-! DEFINITION. Functions: Bus Master Enable, D3hot, FLR, VF Enable and the resets of a host port's scopes (R34, R152,
R153, R161, R166, R174, R176, R190 to R195, R387). -/

namespace Sys2Proof.Machine

/-! ### Registers of a scope (R34) -/

/-- Registers of a queue context. -/
def queueKinds : List RegKind :=
  [.Q_CFG, .Q_STATE, .Q_CMD, .Q_SQ_BASE, .Q_CQ_BASE, .Q_RING, .Q_SQ_IDX, .Q_CQ_IDX, .Q_COAL, .Q_RESUME, .Q_RESUME_OFS,
   .Q_RESUME_EXT, .Q_ERR_ADDR, .Q_ERR_INFO]

/-- Registers of a host port. -/
def hostKinds : List RegKind :=
  [.HP_LINK_STATUS, .HP_LINK_CTRL, .HP_PM_CTRL, .HP_LTR, .HP_TAG, .HP_PTM_CTRL, .HP_PTM_STATUS, .HP_PTM_OFFSET,
   .HP_PPS_DEVTIME, .HP_PPS_HOST, .HP_IDE_STATUS]

/-- The plain fields of a queue's context return to their reset values: the queue is disabled (R195). A commit that moves it goes on
(R188). -/
def State.resetQueue (s : State) (q : Nat) : State :=
  let s := s.each queueKinds (fun s k => s.resetPlain k q)
  let s := s.each (List.range 4) (fun s k => s.setWord .Q_HELD_CMP (4 * q + k) 0)
  (s.disarm (.coalesce q)).setQueue q { QDyn.reset with moving := (s.queue q).moving }

/-! ### Generations (R190, R193) -/

/-- A generation raised by 1, modulo 256. -/
def State.raiseFnGen (s : State) (f : Nat) : State := s.put FUNC_STATE.gen f (s.get FUNC_STATE.gen f + 1)
def State.raiseQGen (s : State) (q : Nat) : State := s.put Q_STATE.gen q (s.get Q_STATE.gen q + 1)

/-- An outstanding tag of function `fn` records the generation that a function of `mine` takes next, or a queue that such a function owns
now, whoever owned it at the tag's issue (R193). -/
def State.genNext (s : State) (mine : Nat → Bool) (fn fgen : Nat) (q : Option Nat) (qgen : Nat) : Bool :=
  (mine fn && (s.get FUNC_STATE.gen fn + 1) % 256 == fgen) || (match q with
    | some q => mine (s.qOwner q) && (s.get Q_STATE.gen q + 1) % 256 == qgen
    | none => false)

/-- A tag still records a generation that the functions `mine`, or their queues, would take (R193). -/
def State.genBlocked (s : State) (mine : Nat → Bool) : Bool :=
  s.hosts.any (fun h => h.2.tags.any (fun t => !t.2.held && s.genNext mine t.2.req.fn t.2.req.fgen t.2.req.q t.2.req.qgen))
    || s.ports.any (fun p => p.2.ltags.any (fun t => !t.2.held && s.genNext mine t.2.fn t.2.fgen t.2.q t.2.qgen))

/-! ### Bus Master Enable (R152, R153) -/

/-- Device requests of a function whose Bus Master Enable is cleared: writes that wait are refused, reads end with NOHOST (R152). -/
def State.nohostReads (s : State) (f : Nat) : State :=
  (s.refusePosts (fnPort f) (fun g => g == f)).cutReads (fnPort f) (fun _ _ _ t => t.fn == f)

/-- The function may no longer master (R152). -/
def State.loseMaster (s : State) (f : Nat) : State := (s.haltChannels f).nohostReads f

/-- The function may master again: held messages are released, its queues look for work (R153). -/
def State.gainMaster (s : State) (f : Nat) : State := if s.master f then (s.freeHeld f).kickQueues f else s

/-- Bus Master Enable takes a value; one set during an FLR is held in the mirror (R152, R153, R176). -/
def State.setBme (s : State) (f : Nat) (b : Bool) : State :=
  let s := s.cfgPut f 0x04 2 1 (b2n b)
  if s.on FUNC_STATE.flr_active f then s.modFunc f (fun d => { d with heldBme := b })
  else if s.on FUNC_STATE.bme f = b then s
  else
    let s := s.flag FUNC_STATE.bme f b
    if b then s.gainMaster f else s.loseMaster f

/-- Memory Space Enable of a function takes a value. -/
def State.setMse (s : State) (f : Nat) (b : Bool) : State :=
  if s.on FUNC_STATE.flr_active f then s.modFunc f (fun d => { d with heldMse := b }) else s.flag FUNC_STATE.mse f b

/-- PowerState is written (R166): D0 and D3hot; D1 and D2 leave it. The link of a PF in D3hot enters L1 once nothing is in
flight (R90, R140). -/
def State.setPower (s : State) (f v : Nat) : State :=
  let was := s.on FUNC_STATE.d3hot f
  if v = 3 ∧ !was then
    let s := ((s.cfgPut f 0x44 0 2 3).put FUNC_STATE.d3hot f 1).loseMaster f
    if f < 4 ∧ s.linkUp f ∧ s.get HP_LINK_STATUS.pm_state f ≤ 1 ∧ s.l1Idle f then s.enterL1 f else s
  else if v = 0 ∧ was then ((s.cfgPut f 0x44 0 2 0).put FUNC_STATE.d3hot f 0).gainMaster f
  else s

/-! ### The sequence of R194 -/

/-- Configuration space of a function takes its reset values; RWS and RW1CS fields are kept (R34, R176). -/
def State.resetCfg (s : State) (f : Nat) : State :=
  let mine := (s.cfg.filter (fun e => e.1 / 1024 == f)).map (fun e => e.1 % 1024)
  s.each mine (fun s dw =>
    let c := cfgDw (decide (4 ≤ f)) dw
    let keep := BitVec.ofNat 32 c.sticky
    s.setCfg f (4 * dw) ((BitVec.ofNat 32 c.reset &&& ~~~ keep) ||| (s.cfgWord f (4 * dw) &&& keep)))

/-- Request tag of a BAR0 or BAR2 read of function `f` whose last unit waits on the ring. -/
def RingAccess.lastOf (f : Nat) : RingAccess → Option Nat
  | .read _ (.fn g) _ _ _ t last => if g.val = f ∧ last then some t else none
  | _ => none

/-- A unit of a register read of function `f`. -/
def RingAccess.readOf (f : Nat) : RingAccess → Bool
  | .read _ (.fn g) _ _ _ _ _ => g.val == f
  | _ => false

/-- Register reads of a function that still wait on the ring end with Unsupported Request (R194); what a completion of the read
in progress would still have carried is dropped with it. -/
def State.endRegReads (s : State) (f : Nat) : State :=
  let h := fnPort f
  let mine := match s.ring.find? (fun x => x.fromPort h) with
    | some x => x.readOf f
    | none => false
  let tags := s.ring.filterMap (RingAccess.lastOf f)
  let s := { s with ring := s.ring.filter (fun x => !x.readOf f) }
  let s := if mine then s.modHost h (fun d => { d with regGot := [] }) else s
  s.each tags (fun s t => s.emitTlp f (.completion h f t .unsupported []))

/-- BAR4 and BAR0 reads of a function in progress end with Unsupported Request; their responses are discarded later
(R192, R194). -/
def State.endReads (s : State) (f : Nat) : State :=
  (s.endRegReads f).each (List.range 96) (fun s p =>
    let rs := (s.port p).reads.filter (fun r => r.fn == f)
    s.each rs (fun s r => (s.dropRead p r.id).emitTlp f (.completion r.h f r.reqTag .unsupported [])))

/-- Device reads of a function end with NOHOST at once (R194). -/
def State.endDevices (s : State) (f : Nat) : State :=
  s.each (List.range 96) (fun s p =>
    if (s.port p).dtags.any (fun t => t.2.fn == f) then
      (s.modPort p (fun d => { d with dtags := d.dtags.map (fun x =>
        if x.2.fn = f then (x.1, { x.2 with failed := some (x.2.sent, 3), nohost := true }) else x) })).answerDevices p
    else s)

/-- A queue of a function that is reset: its channel stops, its fetches are withdrawn, its generation is raised and its
plain fields return to reset (R190, R194, R195). -/
def State.clearQueue (s : State) (q : Nat) : State :=
  let s := s.put Q_STATE.state q 8
  let s := match s.engineOf q with
    | some e => s.drainEngine e
    | none => s
  ((s.dropFetches q).raiseQGen q).resetQueue q

/-- The plain fields of a function's Peg and MSI-X state (R195, R387). -/
def State.clearPegs (s : State) (f : Nat) : State :=
  let s := s.clearInterrupts f
  let mine := s.regs.filterMap (fun e => if e.1 % 256 = RegKind.PEG_SRC_STATUS.code then some (e.1 / 256) else none)
  let s := s.each (mine.filter (fun i => s.get PEG_SRC_CTRL.owner i == f)) (fun s i => s.resetPlain .PEG_SRC_STATUS i)
  { s with msix := s.msix.filter (fun e => e.1 / 8192 != f) }

/-- What a reset leaves of function `f`, whether or not a VF of its number exists: its generation is raised, its configuration
space, its queues and its interrupts return to reset (R34, R190, R195). -/
def State.clearState (s : State) (f : Nat) : State :=
  let s := (s.raiseFnGen f).each (s.queuesOf f) State.clearQueue
  let s := (s.clearPegs f).resetCfg f
  let active := s.on FUNC_STATE.flr_active f
  ((s.resetPlain .FUNC_STATE f).flag FUNC_STATE.flr_active f active).modFunc f (fun d => { d with heldBme := false, heldMse := false, cmdOwed := 0 })

/-- What a reset of function `f` does at once: its traffic ends, and its state returns to reset (R194). Writes of local devices that wait
find no host, which is counted (R215), reads of its engines are withdrawn with their channels, and its other requests that wait for a tag
after them. -/
def State.clearFunction (s : State) (f : Nat) : State :=
  let s := ((s.endReads f).refusePosts (fnPort f) (fun g => g == f)).clearState f
  (s.modHost (fnPort f) (fun d => { d with waiting := d.waiting.filter (fun r => r.fn != f) })).drainWrites (fnPort f)

/-- The function's FLR, or its part of the clearing of VF Enable, begins (R194). -/
def State.beginSequence (s : State) (f : Nat) (vanish : Bool) : State :=
  let s := ((s.put FUNC_STATE.flr_active f 1).put FUNC_FLR_TIME.devtime f s.devtime).clearFunction f
  let s := (s.endDevices f).modFunc f (fun d => { d with clearing := vanish })
  let h := fnPort f
  let ts := ((s.host h).tags.filter (fun t => t.2.req.fn == f && !t.2.held)).map (fun t => t.1)
  s.each ts (fun s t => s.arm (.flrTag h t) 50000000)

/-- VFs of port `h` that exist. -/
def State.existingVfs (s : State) (h : Nat) : List Nat := ((List.range 255).map (fun k => vfIndex h (k + 1))).filter s.existsFn

/-- VF numbers of port `h`. -/
def vfNumbers (h : Nat) : List Nat := (List.range 255).map (fun k => vfIndex h (k + 1))

/-- VF Enable clears: every VF ceases to exist for the host and runs its sequence; VF numbers that did not exist have their state
reset (R34, R174, R190). -/
def State.dropVfs (s : State) (h : Nat) : State :=
  let vs := s.existingVfs h
  let others := (vfNumbers h).filter (fun f => !vs.contains f)
  let s := s.cfgPut h 0x184 0 1 0
  let s := s.each vs (fun s f => s.beginSequence f true)
  s.each others State.clearState

/-- Completions of Configuration Writes of VF Enable that waited for it are returned (R164, R174). -/
def State.payVfe (s : State) (h : Nat) : State :=
  (s.each (List.range (s.host h).vfeOwed) (fun s _ => s.emitTlp h (.cfgCompletion h 0 .ok 0))).modHost h (fun d => { d with vfeOwed := 0 })

/-- A set of VF Enable that the mirror holds is withdrawn by a later write of 0 or an FLR; its own write then completes (R174,
R176). -/
def State.withdrawVfe (s : State) (h : Nat) : State :=
  if (s.host h).vfePending then (s.modHost h (fun d => { d with vfePending := false })).payVfe h else s

/-- VF Enable is written to 0; it waits for a generation that an outstanding tag records (R193). -/
def State.clearVfe (s : State) (h : Nat) : State :=
  if s.vfEnable h then
    if s.genBlocked (fun f => fnPort f == h) then s.modHost h (fun d => { d with vfcHeld := true })
    else
      let s := ((s.dropVfs h).raiseFnGen h).each (s.queuesOf h) State.raiseQGen
      (s.modHost h (fun d => { d with vfcHeld := false })).payVfe h
  else s.cfgPut h 0x184 0 1 0

/-- Memory Space Enable of the VFs follows VF MSE. -/
def State.followVfMse (s : State) (h : Nat) : State :=
  s.each (s.existingVfs h) (fun s f => s.setMse f (s.cfgBit h 0x184 3))

/-- A VF of the port still runs its sequence. -/
def State.vfsClearing (s : State) (h : Nat) : Bool := s.funcs.any (fun e => 4 ≤ e.1 && fnPort e.1 == h && e.2.clearing)

/-- The VF_QMAP slots of the VFs that satisfy `p` are filled: their queues in ascending number (R52). -/
def State.fillSlots (s : State) (p : Nat → Bool) : State :=
  let qs := s.regs.filterMap (fun e => if e.1 % 256 = RegKind.Q_CFG.code then some (e.1 / 256) else none)
  let s := s.each (s.funcs.filter (fun e => p e.1)) (fun s e => s.modFunc e.1 (fun d => { d with slots := [] }))
  s.each qs (fun s q =>
    let f := s.get Q_CFG.owner q
    if 4 ≤ f ∧ p f then s.modFunc f (fun d => { d with slots := d.slots ++ [(d.slots.length, q)] }) else s)

/-- VF Enable is written to 1: held in the mirror while sequences run (R174); otherwise the VFs exist, their retained
settings in effect (R35). -/
def State.setVfe (s : State) (h : Nat) : State :=
  if s.compat && h == 0 then s
  else if s.vfsClearing h || (s.host h).vfcHeld then s.modHost h (fun d => { d with vfePending := true })
  else if s.vfEnable h then s
  else
    let s := (s.cfgPut h 0x184 0 1 1).modHost h (fun d => { d with vfePending := false })
    ((s.fillSlots (fun f => fnPort f == h)).followVfMse h).payVfe h

/-- PFh's mailbox registers after a reset of PFh. The command in progress is aborted by the part that runs it. -/
def State.resetMailbox (s : State) (h : Nat) : State :=
  let s := s.each [RegKind.MB_CTRL, .MB_STATUS, .MB_CMD] (fun s k => s.resetPlain k h)
  { s with
    regs := s.regs.filter (fun e => !((e.1 % 256 == RegKind.MB_REQ.code || e.1 % 256 == RegKind.MB_RSP.code) && e.1 / 256 / 512 == h))
    ridge := { s.ridge with mailbox := s.ridge.mailbox.filter (fun m => m.h != h) } }

/-- Initiate FLR reaches the mirror (R176, R194). An open transaction of a PF is rolled back by the caller. -/
def State.startFlr (s : State) (f : Nat) : State :=
  if s.on FUNC_STATE.flr_active f then s
  else if s.genBlocked (fun g => g == f || (decide (f < 4) && fnPort g == f)) then
    (if (s.func f).heldFlr then s else s.report 1 2 f (BitVec.ofNat 64 f)).modFunc f (fun d => { d with heldFlr := true })
  else
    let owed := (s.func f).flrOwed
    let s := s.modFunc f (fun d => { d with heldFlr := false, flrOwed := 0 })
    let s := if f < 4 then (((s.withdrawVfe f).dropVfs f).beginSequence f false).resetMailbox f else s.beginSequence f false
    s.each (List.range owed) (fun s _ => s.emitTlp (fnPort f) (.cfgCompletion (fnPort f) (fnVf f) .ok 0))

/-- No tag of the function is outstanding (R194). -/
def State.noTags (s : State) (f : Nat) : Bool := s.hostTagsOf f == 0 && s.localTagsOf f == 0

/-- An FLR, or a VF's sequence, completes when nothing of the function is outstanding; a PF's waits for its VFs (R174,
R194). Bits held in the mirror take effect (R176); a VF's memory space follows VF MSE of its PF. -/
def State.endSequence (s : State) (f : Nat) : State :=
  if !s.on FUNC_STATE.flr_active f || !s.noTags f || (decide (f < 4) && s.vfsClearing f) then s
  else
    let d := s.func f
    let s := (s.put FUNC_STATE.flr_active f 0).put FUNC_FLR_DONE.devtime f s.devtime
    let s := s.modFunc f (fun d => { d with clearing := false, heldBme := false, heldMse := false, cmdOwed := 0 })
    let s := s.each (s.queuesOf f) (fun s q => if s.get Q_STATE.state q = 8 then s.put Q_STATE.state q 0 else s)
    let mse := if 4 ≤ f then s.existsFn f && s.cfgBit (fnPf f) 0x184 3 else d.heldMse
    let s := if mse then s.flag FUNC_STATE.mse f true else s
    let s := if d.heldBme then s.setBme f true else s
    let h := fnPort f
    let s := s.each (List.range d.cmdOwed) (fun s _ => s.emitTlp h (.cfgCompletion h (fnVf f) .ok 0))
    if 4 ≤ f ∧ (s.host h).vfePending ∧ !s.vfsClearing h then s.setVfe h else s

/-- An FLR that waited for a generation starts once it can (R193). -/
def State.retryFlr (s : State) (f : Nat) : State := if (s.func f).heldFlr then s.startFlr f else s

/-! ### Host port resets (R34, R161) -/

/-- Local tags of the functions of port `h` are of an old generation for good: the reset does not wait for one that records the
generation to be taken (R193, log entry 57). -/
def State.strandTags (s : State) (h : Nat) : State :=
  s.each (s.ports.map (fun e => e.1)) (fun s p => s.modPort p (fun d => { d with
    ltags := d.ltags.map (fun t => if fnPort t.2.fn = h then (t.1, { t.2 with fgen := 256 }) else t) }))

/-- The functions of port `h`: the PF and the VFs that exist with their traffic, every other VF number with its state (R34). -/
def State.resetPortFns (s : State) (h : Nat) : State :=
  let vs := s.existingVfs h
  let s := s.each (h :: vs) State.clearFunction
  let s := s.each (h :: vs) State.endDevices
  let s := (s.each ((vfNumbers h).filter (fun f => !vs.contains f)) State.clearState).strandTags h
  let s := s.each (s.funcs.filter (fun e => fnPort e.1 == h)) (fun s e => s.setFunc e.1 { FnDyn.reset with slots := e.2.slots })
  s.each (h :: vfNumbers h) (fun s f => s.put FUNC_STATE.flr_active f 0)

/-- Outstanding requests of the port never complete: their tags are free; draining engines lose their reads, device reads
end with NOHOST (R161). -/
def State.dropTags (s : State) (h : Nat) : State :=
  let ts := (s.host h).tags
  let s := s.disarmAll (fun t => match t with
    | .hostTag g _ | .tagRelease g _ | .flrTag g _ => g == h
    | _ => false)
  let s := s.modHost h (fun d => { d with tags := [], waiting := [] })
  s.each ts (fun s t => if t.2.held then s else s.hostStale t.2.req)

/-- The registers of host port `h` return to reset; the link is down (R34, R154, R158). -/
def State.resetHostRegs (s : State) (h : Nat) : State :=
  let s := s.each hostKinds (fun s k => s.resetPlain k h)
  let s := (s.eraseIde h).disarmAll (fun t => match t with
    | .ptm g | .ptmContext g | .ltr g | .ltrIdle g => g == h
    | _ => false)
  let s := s.modHost h (fun d => { d with
    ltrBusy := none, ltrDue := false, doeIn := [], doeOut := [], doeError := false,
    vfePending := false, vfcHeld := false, vfeOwed := 0, steered := false, pmOff := false })
  (s.setCfg h 0x1F0 0).judgeSteering

/-- Link down, hot reset or PERST_N of a port: its link, its registers, PFh and its VFs (R34). -/
def State.hostReset (s : State) (h : Nat) : State :=
  (((s.resetHostRegs h).resetPortFns h).dropTags h).resetMailbox h

/-- PERST_N goes low: HCRh is in reset (R34, R89). A host port that was held is released (R399). -/
def State.perstLow (s : State) (h : Nat) : State :=
  let s := s.modHost h (fun d => { d with perst := true })
  let s := if s.get BRACE_DSTATE.state h = 3 then (s.put BRACE_DSTATE.state h 0).put BRACE_DSTATE.severe h 0 else s
  if s.portsPowered then
    let s := s.hostReset h
    if (s.host h).absent then s else s.setHcrState h 5
  else s

/-- HCRh runs from off or reset: its PLL starts from cold (R91). -/
def State.startHcr (s : State) (h : Nat) : State := (s.setHcrState h 0).bump (modCtr 5)

/-- PERST_N goes high: the port may train (R135). -/
def State.perstHigh (s : State) (h : Nat) : State :=
  let was := (s.host h).perst
  let s := s.modHost h (fun d => { d with perst := false })
  if was ∧ s.portsPowered ∧ !(s.host h).absent then s.startHcr h else s

/-- CPRSNT_N changes (R62, R89). -/
def State.cableChange (s : State) (h : Nat) (here : Bool) : State :=
  let s := s.modHost h (fun d => { d with absent := !here })
  if !s.portsPowered then s
  else if here then (if (s.host h).perst then s.setHcrState h 5 else if s.hcrState h = 4 then s.startHcr h else s)
  else (s.hostReset h).setHcrState h 4

/-- The link goes down or receives a hot reset; HCRh, which L1 may have gated, runs to train again (R89). -/
def State.linkLost (s : State) (h : Nat) : State :=
  if s.linkUp h then
    (s.hostReset h).ungateHcr h
  else s

end Sys2Proof.Machine
end

