-- ==== Sys2Proof/Machine/CfgOps.lean ====
section
/-! DEFINITION. Configuration requests: what a read shows, what a write changes, the compatibility view, the expansion
ROM and the plank table, the DOE mailbox (R163 to R183, R420). -/

namespace Sys2Proof.Machine

/-! ### The compatibility view (R177 to R179) -/

/-- Where a dword of PF0 is kept: the MSI capability of the view lies at 0xD0 (R179). -/
def State.cfgAt (s : State) (f o : Nat) : Nat :=
  if s.compatFn f ∧ 0xB0 ≤ o ∧ o ≤ 0xC4 then o + 0x20 else o

/-- Offsets of capabilities that the view leaves out, and of the place that holds its MSI registers (R171, R177). -/
def viewAbsent (o : Nat) : Bool := decide (0x164 ≤ o ∧ o < 0x1BC ∨ 0x340 ≤ o ∧ o < 0x348 ∨ 0xD0 ≤ o ∧ o ≤ 0xE4)

/-- Log2 of the BAR4 size of function `f`, and of the VF BAR4 size of its PF. -/
def State.bar4Log (s : State) (f : Nat) : Nat := 20 + s.cfgGet f 0x16C 8 6
def State.vfBar4Log (s : State) (h : Nat) : Nat := 20 + s.cfgGet h 0x178 8 6

/-- Writable address bits of the low or the high dword of a 64-bit BAR of 2^n bytes. -/
def barMask (n : Nat) (high : Bool) : Nat :=
  let m := 2 ^ 64 - 2 ^ min n 64
  if high then m / 2 ^ 32 else m % 2 ^ 32

/-- Log2 of the page size that System Page Size names; a value that is no supported page size acts as 4 KiB (R173; log entry 56,
PRESUMED). -/
def State.pageLog (s : State) (h : Nat) : Nat :=
  12 + (([0, 1, 4, 6, 8, 10] : List Nat).find? (fun k => s.cfgGet h 0x19C 0 32 == 2 ^ k)).getD 0

/-- Log2 of the alignment of a VF BAR: its size, and no less than the page size (R167, R173). -/
def State.vfBarLog (s : State) (h o : Nat) : Nat := max (s.pageLog h) (if 0x1B0 ≤ o then s.vfBar4Log h else 16)

/-- Bits of a dword that a Configuration Write may load now, of a function outside the view. -/
def State.rwBits (s : State) (f o : Nat) : Nat :=
  let base := (cfgDw (decide (4 ≤ f)) (o / 4)).rw
  if 4 ≤ f then base
  else match o with
    | 0x20 => barMask (s.bar4Log f) false
    | 0x24 => barMask (s.bar4Log f) true
    | 0x16C => if s.cfgBit f 0x04 1 then 0 else base
    | 0x178 => if s.cfgBit f 0x184 0 || s.cfgBit f 0x184 3 then 0 else base
    | 0x18C => if s.cfgBit f 0x184 0 then 0 else base
    | 0x1A0 | 0x1A8 | 0x1B0 => barMask (s.vfBarLog f o) false
    | 0x1A4 | 0x1AC | 0x1B4 => barMask (s.vfBarLog f (o - 4)) true
    | _ => base

/-- The same for PF0 in the view; `o` is the place where the dword is kept. -/
def State.viewRw (s : State) (o : Nat) : Nat :=
  match o with
  | 0x10 | 0x18 => 0xFFFF0000
  | 0x14 | 0x1C | 0x20 => 0
  | 0x24 => barMask 34 true
  | 0x30 => 0xFFFF0001
  | 0xD0 => 0x00710000
  | 0xD4 => 0xFFFFFFFC
  | 0xD8 => 0xFFFFFFFF
  | 0xDC => 0x0000FFFF
  | 0xE0 => 0xFFFFFFFF
  | _ => s.rwBits 0 o

/-- Writable bits of a dword. -/
def State.cfgRw (s : State) (f o : Nat) : Nat := if s.compatFn f then s.viewRw (s.cfgAt f o) else s.rwBits f o

/-! ### Reads (R164, R169 to R177) -/

/-- Link Control and Link Status of a port (R170): speed, width, slot clock. -/
def State.linkStatus (s : State) (h : Nat) : Dword :=
  let up := s.linkUp h
  let st := (if up then s.get HP_LINK_STATUS.rate h + 1 + 16 * s.get HP_LINK_STATUS.width h else 0)
    + 4096 * b2n (!s.on HP_LINK_STATUS.sris h)
  s.cfgWord h 0x60 + BitVec.ofNat 32 (65536 * st)

/-- IDE stream status: state 2 while secure (R157; layout of the Base Specification, log entry 17). -/
def State.ideStatus (s : State) (h i o : Nat) : Dword :=
  s.cfgWord h o ||| (if (s.ideStream h i).active.isSome then 2 else 0)

/-- Selective stream whose status register is at offset `o`. -/
def selStream (o : Nat) : Option Nat :=
  if 0x374 ≤ o ∧ o < 0x374 + 8 * 44 ∧ (o - 0x374) % 44 = 8 then some (1 + (o - 0x374) / 44) else none

/-- DOE status: busy while Ridge restarts, error, data object ready (R172, R426; layout of the Base Specification, log
entry 17). -/
def State.doeStatus (s : State) (h : Nat) : Dword :=
  BitVec.ofNat 32 (b2n (s.on GLOBAL_STATUS.ridge_down && !s.on GLOBAL_STATUS.degraded) + 4 * b2n (s.host h).doeError + 2 ^ 31 * b2n (!(s.host h).doeOut.isEmpty))

/-- Lane margining may run: the link is up at 16.0 GT/s or above (R134, R172; log entry 51). -/
def State.marginReady (s : State) (h : Nat) : Bool := s.linkUp h && decide (3 ≤ s.get HP_LINK_STATUS.rate h)

/-- A dword as the Configuration Read of a function outside the view sees it. A set of VF Enable that the mirror holds reads 1
(R174); a VF's Link Control is RsvdP (R175). -/
def State.cfgView (s : State) (f o : Nat) : Dword :=
  let h := fnPf f
  match o with
  | 0x58 => s.cfgWord f o ||| BitVec.ofNat 32 (2 ^ 21 * b2n (s.hostTagsOf f != 0))
  | 0x60 => if 4 ≤ f then s.linkStatus h &&& 0xFFFF0000 else s.linkStatus h
  | 0x80 => s.cfgWord h o
  | _ =>
    if 4 ≤ f then s.cfgWord f o
    else match o with
      | 0x15C => (Tbl.get 0 s.fuses 1).truncate 32
      | 0x160 => ((Tbl.get 0 s.fuses 1) >>> 32).truncate 32
      | 0x184 => s.cfgWord f o ||| BitVec.ofNat 32 (b2n (s.host h).vfePending)
      | 0x298 => BitVec.ofNat 32 (2 ^ 16 * b2n (s.marginReady h))
      | 0x350 => 0
      | 0x354 => s.doeStatus h
      | 0x358 => 0
      | 0x35C => ((s.host h).doeOut.head?).getD 0
      | 0x370 => s.ideStatus h 0 o
      | _ =>
        match selStream o with
        | some i => s.ideStatus h i o
        | none => s.cfgWord f o

/-- A dword of PF0 in the view (R177 to R179). -/
def State.cfgViewCompat (s : State) (o : Nat) : Dword :=
  if viewAbsent o then 0
  else match o with
    | 0x00 => 0x12001F4B
    | 0x10 | 0x18 => s.cfgWord 0 o &&& 0xFFFF0000
    | 0x14 | 0x1C => 0
    | 0x20 => 0x0000000C
    | 0x24 => s.cfgWord 0 0x24
    | 0x30 => s.cfgWord 0 0x30
    | 0xB0 => 0x018A0005 ||| s.cfgWord 0 0xD0
    | 0xB4 => s.cfgWord 0 0xD4
    | 0xB8 => s.cfgWord 0 0xD8
    | 0xBC => s.cfgWord 0 0xDC
    | 0xC0 => s.cfgWord 0 0xE0
    | 0xC4 => s.cfgWord 0 0xE4
    | 0x158 => BitVec.ofNat 32 (extHeader 0x0003 1 0x1BC).reset
    | 0x334 => BitVec.ofNat 32 (extHeader 0x001F 1 0x348).reset
    | _ => s.cfgView 0 o

/-- What a Configuration Read of function `f` returns for the dword at offset `o`. -/
def State.cfgRead (s : State) (f o : Nat) : Dword := if s.compatFn f then s.cfgViewCompat o else s.cfgView f o

/-- A configuration request of port `h` is not received: no link, or its link IDE stream has failed (R159). -/
def State.cfgUnheard (s : State) (h : Nat) : Bool := !s.linkUp h || s.streamFailed h (some 0)

/-- A Configuration Read on port `h` for function number `n` (R164). A function that does not exist answers Unsupported
Request (R174); R160 logs no status for a configuration request. -/
def State.configRead (s : State) (h n dw : Nat) : State :=
  let f := fnOf h n
  if s.cfgUnheard h then s
  else
    let s := s.leaveL1 h
    if s.phase = .starting then s.emitTlp h (.cfgCompletion h n .retry 0)
    else if !s.existsFn f then s.emitTlp h (.cfgCompletion h n .unsupported 0)
    else s.emitTlp h (.cfgCompletion h n .ok (s.cfgRead f (4 * dw)))

/-! ### The DOE mailbox (R420) -/

/-- DOE Discovery: protocol `i` of the list and the index of the next (R172). -/
def discovery (i : Nat) : Dword :=
  BitVec.ofNat 32 (0x0001 + 65536 * min i 2 + 2 ^ 24 * (if i < 2 then i + 1 else 0))

/-- GO: a discovery object is answered here. An SPDM object is answered when its SPDM command runs (log entry 16). An
object whose length is not its own is an error, and so is any in degraded mode (R426). -/
def State.doeGo (s : State) (h : Nat) : State :=
  let d := s.host h
  if s.on GLOBAL_STATUS.degraded then s.setHost h { d with doeError := true, doeIn := [] } else
  match d.doeIn with
  | a :: b :: rest =>
    if b.toNat % 2 ^ 18 ≠ d.doeIn.length then s.setHost h { d with doeError := true, doeIn := [] }
    else if a = 0x00000001 then
      let i := ((rest.head?).getD 0).toNat % 256
      s.setHost h { d with doeIn := [], doeOut := [0x00000001, 3, discovery i] }
    else if a = 0x00010001 ∨ a = 0x00020001 then s
    else s.setHost h { d with doeIn := [] }
  | _ => s.setHost h { d with doeError := true, doeIn := [] }

/-- DOE Abort: the mailbox is empty and its error cleared, the exchange in progress ends (R419). -/
def State.doeAbort (s : State) (h : Nat) : State :=
  (s.modHost h (fun d => { d with doeIn := [], doeOut := [], doeError := false })).modRidge (fun r => { r with
    conns := r.conns.map (fun c => if c.doe = some h then { c with chunkIn := none, chunkOut := none } else c) })

/-- A write to a DOE register. -/
def State.doeWrite (s : State) (h o : Nat) (data : Dword) : State :=
  match o with
  | 0x350 =>
    let s := if data.getLsbD 0 then s.doeAbort h else s
    if data.getLsbD 31 then s.doeGo h else s
  | 0x358 => s.modHost h (fun d => { d with doeIn := d.doeIn ++ [data] })
  | 0x35C => s.modHost h (fun d => { d with doeOut := d.doeOut.drop 1 })
  | _ => s

/-! ### Writes (R164, R166, R168, R174) -/

/-- Byte mask of four byte enables. -/
def beMask32 (be : Nat) : Nat :=
  (List.range 4).foldl (fun m i => m + b2n (natBit be i) * 255 * 256 ^ i) 0

/-- The dword after a write: RW bits loaded, RW1C bits cleared, in enabled bytes (R163). -/
def mergeCfg (old data : Dword) (rw w1c be : Nat) : Dword :=
  let en := BitVec.ofNat 32 (beMask32 be)
  let m := BitVec.ofNat 32 rw &&& en
  ((old &&& ~~~ m) ||| (data &&& m)) &&& ~~~ (BitVec.ofNat 32 w1c &&& en &&& data)

/-- A size change clears the BAR's address bits below the new size (R168). -/
def State.trimBar (s : State) (f lo n : Nat) : State :=
  let s := s.setCfg f lo ((s.cfgWord f lo &&& BitVec.ofNat 32 (barMask n false)) ||| (s.cfgWord f lo &&& 0xF))
  s.setCfg f (lo + 4) (s.cfgWord f (lo + 4) &&& BitVec.ofNat 32 (barMask n true))

/-- A size is offered by the capability (R168): 2^(20 + v) bytes. -/
def sizeOffered (vf : Bool) (v : Nat) : Bool := decide (v ≤ if vf then 20 else 26)

/-- BAR Size is written (R168): discarded while the BAR is enabled. A size that is not offered leaves it (log entry
17). -/
def State.resizeBar (s : State) (h : Nat) (vf : Bool) (v : Nat) : State :=
  let blocked := if vf then s.cfgBit h 0x184 0 || s.cfgBit h 0x184 3 else s.cfgBit h 0x04 1
  if blocked || !sizeOffered vf v || (s.compat && h == 0) then s
  else if vf then (s.cfgPut h 0x178 8 6 v).trimBar h 0x1B0 (20 + v)
  else (s.cfgPut h 0x16C 8 6 v).trimBar h 0x20 (20 + v)

/-- MSI Multiple Message Enable is written in the view; the plank table is rebuilt (R179, R183). -/
def State.setMme (s : State) (e : Nat) : State :=
  if s.compat then ((s.cfgPut 0 0xD0 20 3 e).rebuildPlank).freeHeld 0 else s

/-- A margin command is written to a lane's control register: its status takes receiver, type and usage of the command and a
payload. Reports, settings and steps are answered with free values, but that a report of the capabilities says that voltage
margining is supported (R134, R172; log entry 51). -/
def State.marginCmd (s : State) (h o : Nat) : State :=
  let c := (s.cfgWord h o).toNat % 2 ^ 16
  let type := c / 8 % 8
  if !s.marginReady h || !(decide (c % 8 = 0 ∨ c % 8 = 6)) then s
  else
    let (bs, s) := s.freeBytes 1
    let b := (bs.headD 0).toNat
    let load := if type = 7 ∨ type = 2 then c / 256
      else if type = 1 ∧ c / 256 = 0x88 then b / 2 * 2 + 1 else b
    s.cfgPut h o 16 16 (c % 128 + 256 * load)

/-- Completion Timeout Disable of PFh changes: requests outstanding wait without limit while it is set, and from its clearing for the
applied timeout (R146, log entry 53). -/
def State.timeoutChange (s : State) (h : Nat) (off : Bool) : State :=
  let ts := ((s.host h).tags.filter (fun t => !t.2.held)).map (fun t => (t.1, t.2.req.fn))
  s.each ts (fun s t => if off then s.disarm (.hostTag h t.1) else s.arm (.hostTag h t.1) (s.completionTimeoutNs t.2))

/-- System Page Size has changed: address bits of the VF BARs below it clear (R173). -/
def State.alignVfBars (s : State) (h : Nat) : State :=
  s.each [0x1A0, 0x1A8, 0x1B0] (fun s o => s.trimBar h o (s.vfBarLog h o))

/-- VF Enable of PFh is written (R174): a set that the mirror holds is withdrawn by a write of 0. -/
def State.writeVfe (s : State) (h : Nat) (old new : Bool) : State :=
  if new ∧ (!old ∨ (s.host h).vfcHeld) then s.setVfe h
  else if !new ∧ (s.host h).vfePending then s.withdrawVfe h
  else if !new ∧ old then s.clearVfe h
  else s

/-- What follows from the loaded value of a dword. `old` is the value before, `data` and `be` what was written. -/
def State.cfgEffect (s : State) (f o : Nat) (old data : Dword) (be : Nat) : State :=
  let new := s.cfgWord f (s.cfgAt f o)
  match o with
  | 0x04 =>
    let s := if f < 4 ∧ natBit be 0 then s.setMse f (new.getLsbD 1) else s
    if natBit be 0 then s.setBme f (new.getLsbD 2) else s
  | 0x44 => if natBit be 0 then (s.cfgPut f 0x44 0 2 (old.toNat % 4)).setPower f (data.toNat % 4) else s
  | 0x58 => if natBit be 1 && data.getLsbD 15 then s.startFlr f else s
  | 0x78 => if f < 4 ∧ new.getLsbD 4 ≠ old.getLsbD 4 then s.timeoutChange f (new.getLsbD 4) else s
  | 0x19C => if f < 4 ∧ new ≠ old then s.alignVfBars f else s
  | 0xB0 =>
    if s.compatFn f then (if natBit be 2 then s.rebuildPlank.freeHeld 0 else s) else s.freeHeld f
  | 0xB4 | 0xB8 | 0xBC | 0xC0 => if s.compatFn f then s.freeHeld 0 else s
  | 0x16C => if f < 4 ∧ natBit be 1 ∧ new ≠ old then (s.cfgPut f 0x16C 8 6 (getBits (old.zeroExtend 64) 8 6)).resizeBar f false (data.toNat / 256 % 64) else s
  | 0x178 => if f < 4 ∧ natBit be 1 ∧ new ≠ old then (s.cfgPut f 0x178 8 6 (getBits (old.zeroExtend 64) 8 6)).resizeBar f true (data.toNat / 256 % 64) else s
  | 0x184 =>
    if 4 ≤ f ∨ !natBit be 0 then s
    else
      ((s.cfgPut f 0x184 0 1 (b2n (old.getLsbD 0))).writeVfe f (old.getLsbD 0) (data.getLsbD 0)).followVfMse f
  | 0x33C =>
    if 4 ≤ f then s
    else if new.getLsbD 0 && !old.getLsbD 0 && s.linkUp f then s.arm (.ptm f) 0
    else if !new.getLsbD 0 then (s.disarm (.ptm f)) else s
  | _ => if f < 4 ∧ 0x29C ≤ o ∧ o < 0x2DC ∧ natBit be 1 then s.marginCmd f o else s

/-- A Configuration Write of a function that exists. -/
def State.cfgWrite (s : State) (f o : Nat) (data : Dword) (be : Nat) : State :=
  if f < 4 ∧ 0x350 ≤ o ∧ o ≤ 0x35C then s.doeWrite f o data
  else if s.compatFn f && viewAbsent o then s
  else
    let a := s.cfgAt f o
    let old := s.cfgWord f a
    let w1c := (cfgDw (decide (4 ≤ f)) (a / 4)).w1c
    let s := s.setCfg f a (mergeCfg old data (s.cfgRw f o) w1c be)
    s.cfgEffect f o old data be

/-- What a Configuration Write changes is held: VF Enable, an FLR, or Bus Master Enable or Memory Space Enable during one (R164, R174,
R176, R193). -/
inductive CfgHold where
  | vfe | flr | command | none
  deriving DecidableEq, Repr

/-- The change that a Configuration Write has made is held. -/
def State.cfgHolds (s : State) (f o : Nat) (data : Dword) (be : Nat) : CfgHold :=
  if f < 4 ∧ o = 0x184 ∧ natBit be 0 ∧ (if data.getLsbD 0 then (s.host f).vfePending else (s.host f).vfcHeld) then .vfe
  else if o = 0x58 ∧ natBit be 1 ∧ data.getLsbD 15 ∧ (s.func f).heldFlr then .flr
  else if o = 0x04 ∧ natBit be 0 ∧ s.on FUNC_STATE.flr_active f ∧ ((s.func f).heldBme ∨ (s.func f).heldMse) then .command
  else .none

/-- Writes of the command register that waited for the end of an FLR and hold nothing any more are completed. -/
def State.payCommand (s : State) (f : Nat) : State :=
  if (s.func f).heldBme || (s.func f).heldMse then s
  else
    let s := s.each (List.range (s.func f).cmdOwed) (fun s _ => s.emitTlp (fnPort f) (.cfgCompletion (fnPort f) (fnVf f) .ok 0))
    s.modFunc f (fun d => { d with cmdOwed := 0 })

/-- A Configuration Write on port `h` for function number `n` (R164, R173); it wakes the core (R92). Its completion is returned
once the change has taken effect. -/
def State.configWrite (s : State) (h n dw : Nat) (data : Dword) (be busDev : Nat) : State :=
  let f := fnOf h n
  if s.cfgUnheard h then s
  else
    let s := s.leaveL1 h
    if s.phase = .starting then s.emitTlp h (.cfgCompletion h n .retry 0)
    else
      let s := (s.modHost h (fun d => { d with busDev := busDev })).wakeRegion 34
      if !s.existsFn f then s.emitTlp h (.cfgCompletion h n .unsupported 0)
      else
        let s := s.cfgWrite f (4 * dw) data be
        match s.cfgHolds f (4 * dw) data be with
        | .vfe => s.modHost h (fun d => { d with vfeOwed := d.vfeOwed + 1 })
        | .flr => s.modFunc f (fun d => { d with flrOwed := d.flrOwed + 1 })
        | .command => s.modFunc f (fun d => { d with cmdOwed := d.cmdOwed + 1 })
        | .none => (s.payCommand f).emitTlp h (.cfgCompletion h n .ok 0)

/-! ### Expansion ROM and plank table (R180 to R183) -/

/-- Plank table as it was built last: header with its CRC-32C, and the planks (R181). -/
def State.plankTable (s : State) : List Byte :=
  let head := leBytes 4 0x4B4E4C50 ++ leBytes 2 1 ++ leBytes 2 32 ++ leBytes 1 12 ++ leBytes 1 32
    ++ leBytes 2 (s.plankGen % 65536) ++ leBytes 1 34 ++ s.planks.take 1 ++ leBytes 2 0 ++ leBytes 8 s.plankTime ++ leBytes 4 0
  let planks := s.planks.drop 1
  head ++ crcBytes (head ++ leBytes 4 0 ++ planks) ++ planks

/-- The first 64 bytes of the ROM (R180). -/
def romHead : List Byte :=
  [0x55, 0xAA] ++ leBytes 22 0 ++ leBytes 2 0x0020 ++ leBytes 2 0x0040 ++ leBytes 4 0
    ++ [0x50, 0x43, 0x49, 0x52] ++ leBytes 2 0x1F4B ++ leBytes 2 0x1200 ++ leBytes 2 0 ++ leBytes 2 0x001C ++ leBytes 1 3
    ++ [0x00, 0x80, 0x06] ++ leBytes 2 0x0080 ++ leBytes 2 0x0001 ++ leBytes 1 0xFF ++ leBytes 1 0x80 ++ leBytes 10 0

/-- A read of the ROM (R178): answered while its enable bit is 1 and PF0 answers memory requests (R166). A table whose fields have
changed since it was built is rebuilt first (R183). -/
def State.romRead (s : State) (o n : Nat) : State :=
  if s.unheard 0 then s
  else
    let s := s.leaveL1 0
    if s.compat && s.cfgBit 0 0x30 0 && s.memEnabled 0 then
      let s := if s.planks = s.planksNow then s else s.rebuildPlank
      s.emitTlp 0 (.romData (sliceBytes (romHead ++ s.plankTable) o n))
    else s.answerUr 0 0 o n

end Sys2Proof.Machine
end

