-- ==== Sys2Proof/Machine/Words.lean ====
section
/-! DEFINITION. PF BAR0 as 64-bit words (R42, R113, R124): which registers a word holds, its value, its ret fields, and
the owner of the resource that holds it (R125, R184). -/

namespace Sys2Proof.Machine

/-- One register inside a 64-bit word: kind, index and the bit at which it begins. -/
structure Part where
  kind : RegKind
  idx : Nat
  sh : Nat
  deriving DecidableEq, Repr

/-- Registers that word `w` holds. -/
def wordParts (w : Nat) : List Part :=
  let low := match regAt (8 * w) with
    | some (k, i) => [Part.mk k i 0]
    | none => []
  let wide := low.any (fun p => p.kind.place.bytes == 8)
  match (if wide then none else regAt (8 * w + 4)) with
  | some (k, i) => low ++ [Part.mk k i 32]
  | none => low

/-- BAR0 word that holds register `idx` of a kind. -/
def RegKind.wordOf (k : RegKind) (idx : Nat) : Nat := k.addr idx / 8

/-- The bits of ret fields in word `w` (R33). -/
def retMaskAt (w : Nat) : Word := (wordParts w).foldl (fun m p => m ||| (p.kind.retMask <<< p.sh)) 0

/-- Committed value of word `w`. -/
def State.bar0Word (s : State) (w : Nat) : Word := (wordParts w).foldl (fun v p => v ||| (s.word p.kind p.idx <<< p.sh)) 0

/-- Low or high half, as a register of a word begins there. -/
def halfAt (v : Word) (p : Part) : Word := if p.kind.place.bytes = 8 then v else (v >>> p.sh) &&& 0xFFFFFFFF

/-- State with the bits `m` of word `w` loaded from `v`; only ret fields are loaded (R114). -/
def State.loadWord (s : State) (w : Nat) (v m : Word) : State :=
  s.each (wordParts w) (fun s p =>
    s.setWord p.kind p.idx (mergeBits (s.word p.kind p.idx) (halfAt v p) (halfAt m p &&& p.kind.retMask)))

/-- Words loaded one after another. -/
def State.loadWords (s : State) (ws : List (Nat × (Word × Word))) : State := s.each ws (fun s e => s.loadWord e.1 e.2.1 e.2.2)

/-- Joist port whose registers a JOIST word belongs to. -/
def joistPort (w : Nat) : Nat := (8 * w - 0x500000) / 0x1000

/-- Owner of the resource that holds word `w`, by function index; `none` where no function owns it (R125). -/
def State.wordOwner (s : State) (w : Nat) : Option Nat :=
  match wordParts w with
  | [] => none
  | p :: _ =>
    match p.kind.place.block with
    | .LEDGER => let n := (8 * w - 0x100000) / 0x20
      if s.segValid n then some (s.get SEG_CTRL.owner n) else none
    | .QCTX => some (s.get Q_CFG.owner ((8 * w - 0x300000) / 0x100))
    | .PEG =>
      if p.kind = .PEG_VMAP then if s.on PEG_VMAP.assigned p.idx then some (s.get PEG_VMAP.function_ p.idx) else none
      else some (s.get PEG_SRC_CTRL.owner p.idx)
    | .FUNC => some p.idx
    | .TXN => if p.idx < 4 then some p.idx else none
    | .JOIST => some (s.get PRT_CTRL.owner (joistPort w))
    | .PORTMAP =>
      if p.kind = .PRT_CTRL ∨ p.kind = .PRT_BASE ∨ p.kind = .PRT_SIZE then some (s.get PRT_CTRL.owner p.idx) else none
    | _ => none

/-- Indices of a kind that the register table lists: the others hold their reset values. -/
def State.listed (s : State) (k : RegKind) : List Nat :=
  s.regs.filterMap (fun e => if e.1 % 256 = k.code then some (e.1 / 256) else none)

end Sys2Proof.Machine
end

