-- ==== Sys2Proof/Machine/PlumbCode.lean ====
section
/-! DEFINITION. Plumb's instruction words: decoding and the undefined encodings (R443, R445, R446). -/

namespace Sys2Proof.Machine

/-- Number of indices of an indexed input (R439). -/
def indexCount (n : Nat) : Nat :=
  match n with
  | 60 => 24
  | 61 => 4
  | 62 => 39
  | _ => 1

/-- The operands are defined (R445, R446). -/
def plumbLegal : Instr → Bool
  | .sample _ n x => decide (x.val < indexCount n.val)
  | .smax _ n m1 => decide (n.val + m1.val < 64) && (decide (n.val + m1.val < 60) || decide (62 < n.val))
  | .med3 _ _ c => decide (c.val ≠ 63)
  | .cmpge _ b _ _ _ | .cmple _ b _ _ _ => decide (b.val ≠ 15)
  | .store _ _ k _ => decide (k.val ≤ 287)
  | .actThrottle _ _ step _ _ => decide (1 ≤ step.val ∧ step.val ≤ 4)
  | .actWake _ _ r => decide (r.val ≤ 38)
  | .actSleep _ _ r => decide (r.val ≤ 33)
  | .actRaise _ _ code _ => decide (code.val = 0 ∨ code.val = 4)
  | _ => true

/-- The ACT with an action number and operand (R445). -/
def plumbAct (c : Fin 64) (mode : Fin 4) (action operand : Nat) (a : Fin 16) : Option Instr :=
  match action with
  | 1 => if operand < 32 then some (.actThrottle c mode (Fin.ofNat 8 operand) (operand.testBit 3) (operand.testBit 4)) else none
  | 2 => some (.actWake c mode (Fin.ofNat 256 operand))
  | 3 => some (.actSleep c mode (Fin.ofNat 256 operand))
  | 4 => some (.actRaise c mode (Fin.ofNat 256 operand) a)
  | 5 => if operand = 0 then some (.actScribe c mode) else none
  | 6 => if operand = 0 then some (.actShutdown c mode) else none
  | 7 => if operand = 0 then some (.actSwap c mode) else none
  | _ => none

/-- The instruction a word spells (R443); none where its opcode is undefined or a reserved bit is 1. -/
def plumbFields (w : Nat) : Option Instr :=
  let fld (lo len : Nat) : Nat := w / 2 ^ lo % 2 ^ len
  let d := Fin.ofNat 16 (fld 22 4)
  let a := Fin.ofNat 16 (fld 18 4)
  let b := Fin.ofNat 16 (fld 14 4)
  let c := Fin.ofNat 64 (fld 12 6)
  let rest (lo len : Nat) (i : Instr) : Option Instr := if fld lo len = 0 then some i else none
  match fld 26 6 with
  | 0x00 => rest 0 26 .halt
  | 0x01 => rest 0 26 .nop
  | 0x02 => if fld 18 4 = 0 ∧ fld 6 6 = 0 then some (.sample d c (Fin.ofNat 64 (fld 0 6))) else none
  | 0x03 => if fld 18 4 = 0 ∧ fld 6 6 = 0 then some (.smax d c (Fin.ofNat 64 (fld 0 6))) else none
  | 0x04 => some (.ldi d (BitVec.ofNat 22 (fld 0 22)))
  | 0x05 => rest 5 17 (.ldt d (Fin.ofNat 32 (fld 0 5)))
  | 0x06 => rest 0 14 (.add d a b)
  | 0x07 => rest 0 14 (.sub d a b)
  | 0x08 => rest 0 14 (.mulq d a b)
  | 0x09 => rest 0 14 (.min d a b)
  | 0x0A => rest 0 14 (.max d a b)
  | 0x0B => rest 4 8 (.iir d a c (Fin.ofNat 16 (fld 0 4)))
  | 0x0C => rest 0 12 (.med3 d a c)
  | 0x0D => some (.cmpge d a c (Fin.ofNat 64 (fld 6 6)) (Fin.ofNat 64 (fld 0 6)))
  | 0x0E => some (.cmple d a c (Fin.ofNat 64 (fld 6 6)) (Fin.ofNat 64 (fld 0 6)))
  | 0x10 => if fld 0 2 = 0 then plumbAct (Fin.ofNat 64 (fld 20 6)) (Fin.ofNat 4 (fld 18 2)) (fld 14 4) (fld 6 8) (Fin.ofNat 16 (fld 2 4))
    else none
  | 0x11 => rest 0 5 (.store (Fin.ofNat 64 (fld 20 6)) (Fin.ofNat 4 (fld 18 2)) (Fin.ofNat 512 (fld 9 9)) (Fin.ofNat 16 (fld 5 4)))
  | _ => none

/-- The instruction a word spells, `none` for an undefined encoding (R446). -/
def plumbDecode (w : Nat) : Option Instr :=
  match plumbFields w with
  | some i => if plumbLegal i then some i else none
  | none => none

/-- First slot with an undefined encoding before the first HALT (check 14). -/
def undefinedSlot (prog : Nat → Nat) : Nat → Nat → Option Nat
  | 0, _ => none
  | fuel + 1, k =>
    match plumbDecode (prog k) with
    | none => some k
    | some .halt => none
    | some _ => undefinedSlot prog fuel (k + 1)

end Sys2Proof.Machine
end

