-- ==== Sys2Proof/Machine/Checks.lean ====
section
/-! DEFINITION. The resulting configuration of a commit and the COMMIT checks (R53, R125, R128, R184 to R187, R203 to R209,
R290, R347, R384). A register that the register table does not list holds its reset value, and the factory values
satisfy every check (R119): a check looks at listed entries wherever an unlisted one cannot break it. -/

namespace Sys2Proof.Machine

/-- Staged words: word index, value and the bits staged. -/
abbrev Staged := List (Nat × (Word × Word))

/-- A word that breaks a check: its BAR0 offset and the owner of the resource that holds it (R125). -/
abbrev Broken := Nat × Option Nat

/-- The word that holds register `idx` of a kind breaks a check. -/
def brokenAt (k : RegKind) (idx : Nat) (owner : Option Nat) : Broken := (8 * k.wordOf idx, owner)

/-- The lowest of some broken words. -/
def lowestBroken : List Broken → Option Broken
  | [] => none
  | b :: bs =>
    match lowestBroken bs with
    | some c => if c.1 < b.1 then some c else some b
    | none => some b

/-! ### The resulting configuration (R128, R185) -/

/-- Joist ports whose owner differs between two configurations. -/
def movedPorts (s0 s : State) : List Nat := indicesWhere 96 (fun p => s0.get PRT_CTRL.owner p != s.get PRT_CTRL.owner p)

/-- The transaction stages the owner of Peg source `i`. -/
def stagesOwner (ws : Staged) (i : Nat) : Bool :=
  ws.any (fun e => e.1 == RegKind.PEG_SRC_CTRL.wordOf i && getBits e.2.2 0 10 != 0)

/-- Peg sources that pass to the new PF with their port, with that PF (R185). -/
def followers (s0 s : State) (ws : Staged) : List (Nat × Nat) :=
  (movedPorts s0 s).flatMap (fun p =>
    ((List.range 256).map (fun k => (256 * p + k, s.get PRT_CTRL.owner p))).filter (fun e => !stagesOwner ws e.1))

/-- The configuration that staged words would give. -/
def State.resulting (s : State) (ws : Staged) : State :=
  let t := s.loadWords ws
  t.each (followers s t ws) (fun t e => t.put PEG_SRC_CTRL.owner e.1 e.2)

/-- Every word that a commit changes: the staged words and the owners that follow a port (R185). -/
def commitWords (s : State) (ws : Staged) : List Nat :=
  let t := s.loadWords ws
  ws.map (fun e => e.1) ++ (followers s t ws).map (fun e => RegKind.PEG_SRC_CTRL.wordOf e.1)

/-! ### Check 3: owner (R47, R186, R187, R199, R200, R207, R368) -/

/-- Part `p` is own to PF `h` before and after the commit. -/
def ownPart (s0 s : State) (h : Nat) (p : Part) : Bool :=
  let mine (f : Nat) : Bool := fnPf f == h
  match p.kind.place.block with
  | .LEDGER =>
    (if s0.segValid p.idx then mine (s0.get SEG_CTRL.owner p.idx)
      else decide (s0.get LEDGER_GRANT.first h ≤ p.idx ∧ p.idx ≤ s0.get LEDGER_GRANT.last h))
      && (!s.segValid p.idx || mine (s.get SEG_CTRL.owner p.idx))
  | .QCTX => mine (s0.get Q_CFG.owner p.idx) && mine (s.get Q_CFG.owner p.idx)
  | .PEG =>
    if p.kind = .PEG_VMAP then
      (!s0.on PEG_VMAP.assigned p.idx || mine (s0.get PEG_VMAP.function_ p.idx))
        && (!s.on PEG_VMAP.assigned p.idx || mine (s.get PEG_VMAP.function_ p.idx))
    else mine (s0.get PEG_SRC_CTRL.owner p.idx) && mine (s.get PEG_SRC_CTRL.owner p.idx)
  | .JOIST =>
    let port := joistPort (p.kind.wordOf p.idx)
    s0.get PRT_CTRL.owner port == h && (p.kind != .JP_CTRL || s0.get JP_CTRL.scarf p.idx == s.get JP_CTRL.scarf p.idx)
  | .FUNC => mine p.idx && p.idx != h
  | .TXN => p.idx == h
  | _ => false

/-- Part `p` is a pool vector of another PF's function that the commit of PF `h` frees: only that PF and Ridge may (R187).
The configuration owner allocates a free vector to any function, as R47 has it (log entry 48, DEDUCED). -/
def freesOther (s0 s : State) (h : Nat) (p : Part) : Bool :=
  p.kind == .PEG_VMAP && s0.on PEG_VMAP.assigned p.idx && !s.on PEG_VMAP.assigned p.idx
    && fnPf (s0.get PEG_VMAP.function_ p.idx) != h

/-- Check 3: Ridge may change anything, the configuration owner all but what it may not free (R187). -/
def check3 (s0 s : State) (ws : Staged) (c : Nat) : List Broken :=
  if c = 4 then []
  else ws.flatMap (fun e => (wordParts e.1).filterMap (fun p =>
    let changed := ((s0.word p.kind p.idx ^^^ s.word p.kind p.idx) &&& p.kind.retMask) != 0
    let ok := if c = s0.owner then !freesOther s0 s c p else ownPart s0 s c p
    if changed && !ok then some (8 * e.1, s.wordOwner e.1) else none))

/-! ### Check 4: configuration owner -/

def check4 (s0 s : State) (c : Nat) : List Broken :=
  if c ≠ 4 ∧ c ≠ s0.owner ∧ s.owner ≠ s0.owner then [brokenAt .GLOBAL_CTRL 0 none] else []

/-! ### Check 5: port regions (R203, R204) -/

/-- JP2k+1 of a scarfed pair. -/
def State.follower (s : State) (p : Nat) : Bool := s.lead p != p

/-- Enabled regions: port, first address, end. -/
def State.regions (s : State) : List (Nat × Nat × Nat) :=
  (List.range 96).filterMap (fun p =>
    if s.on PRT_CTRL.enable p && !s.follower p then
      let b := s.get PRT_BASE.base p * 4096
      some (p, b, b + (s.get PRT_SIZE.pages_m1 p + 1) * 4096)
    else none)

def check5 (s : State) : List Broken :=
  let rs := s.regions
  let bad (r : Nat × Nat × Nat) : Bool :=
    decide (2 ^ 48 < r.2.2) || rs.any (fun q => q.1 != r.1 && decide (q.2.1 < r.2.2 ∧ r.2.1 < q.2.2))
  (rs.filter bad).map (fun r => brokenAt .PRT_CTRL r.1 (some (s.get PRT_CTRL.owner r.1)))

/-! ### Check 6: segments and grants (R185, R207, R209) -/

/-- Limit of a function's aperture as check 6 uses it (R200). -/
def State.apertureLog (s : State) (f : Nat) : Nat := clampNat 20 (if f < 4 then 46 else 40) (s.get FUNC_APERTURE.limit_log2 f)

/-- Segment `n` breaks a condition of R209 by itself. -/
def State.segBad (s : State) (n : Nat) : Bool :=
  let p := s.get SEG_CTRL.port n
  let src := s.segSrc n
  let dst := s.segDst n
  let len := s.segLen n
  let owner := s.get SEG_CTRL.owner n
  decide (96 ≤ p) || s.follower p || fnPf owner != s.get PRT_CTRL.owner p
    || (if s.on SEG_CTRL.kind n then decide (2 ^ 48 < src + len) || decide (2 ^ 64 < dst + len)
        else
          let b := s.get PRT_BASE.base p * 4096
          let e := b + (s.get PRT_SIZE.pages_m1 p + 1) * 4096
          decide (2 ^ s.apertureLog owner < src + len) || decide (2 ^ 48 ≤ dst) || !s.on PRT_CTRL.enable p
            || decide (dst < b) || decide (e < dst + len) || decide (s.vcCount p ≤ s.get SEG_CTRL.vc n))

/-- Two valid segments overlap where R209 forbids it. -/
def State.segsClash (s : State) (n m : Nat) : Bool :=
  n != m && s.get SEG_CTRL.kind n == s.get SEG_CTRL.kind m
    && (if s.on SEG_CTRL.kind n then s.get SEG_CTRL.port n == s.get SEG_CTRL.port m
        else s.get SEG_CTRL.owner n == s.get SEG_CTRL.owner m)
    && decide (s.segSrc n < s.segSrc m + s.segLen m) && decide (s.segSrc m < s.segSrc n + s.segLen n)

/-- Grants of two PFs overlap. -/
def State.grantsClash (s : State) (a b : Nat) : Bool :=
  let f (h : Nat) : Nat := s.get LEDGER_GRANT.first h
  let l (h : Nat) : Nat := s.get LEDGER_GRANT.last h
  a != b && decide (f a ≤ l a) && decide (f b ≤ l b) && decide (f a ≤ l b) && decide (f b ≤ l a)

def check6 (s : State) : List Broken :=
  let segs := s.segsListed
  ((List.range 4).filter (fun a => (List.range 4).any (s.grantsClash a))).map (fun a => brokenAt .LEDGER_GRANT a none)
    ++ (segs.filter (fun n => s.segBad n || segs.any (s.segsClash n))).map
        (fun n => brokenAt .SEG_CTRL n (some (s.get SEG_CTRL.owner n)))

/-! ### Check 7: ownership (R53, R184, R384) -/

/-- Of registers that function `f` owns, in rising order, those beyond a limit: the spec does not say which of too many
breaks it, so those of the highest numbers do (log entry 49, DESIGN CHOICE). -/
def beyond (k : RegKind) (f limit : Nat) (xs : List Nat) : List Broken := (xs.drop limit).map (fun i => brokenAt k i (some f))

/-- Assigned vectors that are listed: number, function and entry. -/
def State.vectorsListed (s : State) : List (Nat × Nat × Nat) :=
  (s.listed .PEG_VMAP).filterMap (fun n =>
    if s.on PEG_VMAP.assigned n then some (n, s.get PEG_VMAP.function_ n, s.get PEG_VMAP.entry n) else none)

/-- The factory vector of entry `e` of PF `f` holds its factory value. -/
def State.factoryVector (s : State) (f e : Nat) : Bool :=
  decide (f < 4 ∧ e < 2048) && !(s.listed .PEG_VMAP).contains (2048 * f + e)

/-- Vectors of a function beyond its limit. A PF holds those of its 2048 factory vectors that are not listed. -/
def State.vectorsBeyond (s : State) (f : Nat) : List Broken :=
  let mine := (s.vectorsListed.filter (fun v => v.2.1 == f)).map (fun v => v.1)
  if 4 ≤ f then beyond .PEG_VMAP f 256 mine
  else
    let gone := ((s.listed .PEG_VMAP).filter (fun n => decide (2048 * f ≤ n ∧ n < 2048 * f + 2048))).length
    if mine.length ≤ gone then []
    else
      let factory := ((List.range 2048).map (fun e => 2048 * f + e)).filter (fun n => !(s.listed .PEG_VMAP).contains n)
      beyond .PEG_VMAP f 2048 (mine.foldl (fun xs n => insertNat n xs) factory)

/-- Vectors whose entry is out of range or backed twice. -/
def State.vectorsBad (s : State) : List Broken :=
  let vs := s.vectorsListed
  vs.flatMap (fun v =>
    let (n, f, e) := v
    let at_ (m : Nat) : Broken := brokenAt .PEG_VMAP m (some f)
    (if 4 ≤ f ∧ 256 ≤ e then [at_ n] else [])
      ++ (if vs.any (fun u => u.1 != n && u.2 == (f, e)) then [at_ n] else [])
      ++ (if s.factoryVector f e then [at_ n, at_ (2048 * f + e)] else []))

/-- Functions that own one of the listed entries. -/
def ownersOf (xs : List Nat) : List Nat := xs.foldl (fun fs f => insertNat f fs) []

def check7 (s : State) : List Broken :=
  let pairs := (List.range 48).filter (fun k => s.scarfed (2 * k) && s.get PRT_CTRL.owner (2 * k) != s.get PRT_CTRL.owner (2 * k + 1))
  let qs := s.listed .Q_CFG
  let ps := s.listed .PEG_SRC_CTRL
  let vfs := (ownersOf (qs.map (s.get Q_CFG.owner ·) ++ ps.map (s.get PEG_SRC_CTRL.owner ·))).filter (fun f => 4 ≤ f)
  let moved := (indicesWhere 96 (fun p => s.get PRT_CTRL.owner p != 0)).flatMap (fun p => (List.range 256).map (fun k => 256 * p + k))
  let strangers := (ps ++ moved.filter (fun i => !ps.contains i)).filter (fun i =>
    fnPf (s.get PEG_SRC_CTRL.owner i) != s.get PRT_CTRL.owner (i / 256))
  pairs.map (fun k => brokenAt .PRT_CTRL (2 * k) (some (s.get PRT_CTRL.owner (2 * k))))
    ++ vfs.flatMap (fun f => beyond .Q_CFG f 128 (qs.filter (fun q => s.get Q_CFG.owner q == f))
      ++ beyond .PEG_SRC_CTRL f 512 (ps.filter (fun i => s.get PEG_SRC_CTRL.owner i == f)))
    ++ strangers.map (fun i => brokenAt .PEG_SRC_CTRL i (some (s.get PEG_SRC_CTRL.owner i)))
    ++ s.vectorsBad ++ (ownersOf (s.vectorsListed.map (fun v => v.2.1))).flatMap s.vectorsBeyond

/-! ### Check 8: vectors (R376, R384) -/

/-- Queues whose completion vector is to be judged: the listed ones and the lowest that is not. -/
def State.judgedQueues (s : State) : List Nat :=
  let qs := s.listed .Q_CFG
  qs ++ ((List.range 4096).find? (fun q => !qs.contains q)).toList

def check8 (s : State) : List Broken :=
  (s.judgedQueues.filter (fun q => !s.backed (s.get Q_CFG.owner q) (s.get Q_CFG.cq_vector q))).map
      (fun q => brokenAt .Q_CFG q (some (s.get Q_CFG.owner q)))
    ++ ((s.listed .PEG_SRC_TGT).filter (fun i => (List.range 4).any (fun t =>
        s.slotOn i t && !s.backed (s.get PEG_SRC_CTRL.owner i) (s.slotEntry i t)))).map
      (fun i => brokenAt .PEG_SRC_TGT i (some (s.get PEG_SRC_CTRL.owner i)))

/-! ### Checks 9 to 14 -/

/-- Check 9: engine groups and rate caps. -/
def check9 (s : State) : List Broken :=
  ((s.listed .Q_CFG).filter (fun q => decide (5 < s.get Q_CFG.eg q) || s.get Q_CFG.rate_cap q == 0
    || decide (256 < s.get Q_CFG.rate_cap q))).map (fun q => brokenAt .Q_CFG q (some (s.get Q_CFG.owner q)))

/-- Check 10: the comparison window. Both fields are 15 bits wide. -/
def check10 (s : State) : List Broken :=
  ((s.listed .FUNC_SLACK).filter (fun f => decide (32767 < s.get FUNC_SLACK.floor f))).map (fun f => brokenAt .FUNC_SLACK f (some f))
    ++ (s.segsListed.filter (fun n => decide (32767 < s.get SEG_SRC.dl_default n))).map
      (fun n => brokenAt .SEG_SRC n (some (s.get SEG_CTRL.owner n)))

/-- Check 11: scarfed pairs (R350, R367); codes compare as they act. -/
def check11 (s : State) : List Broken :=
  (s.listed .JP_CTRL).filterMap (fun p =>
    if !s.on JP_CTRL.scarf p then none
    else if p % 2 = 1 then some (brokenAt .JP_CTRL p (some (s.get PRT_CTRL.owner p)))
    else
      let same (F : Fld) : Bool := min 2 (s.get F p) == min 2 (s.get F (p + 1))
      if same JP_CFG.rate && same JP_CFG.cable_class then none else some (brokenAt .JP_CFG p (some (s.get PRT_CTRL.owner p))))

/-- Ports that have a listed register among some kinds; a pair counts as its lead. -/
def State.portsListed (s : State) (ks : List RegKind) : List Nat :=
  ownersOf ((ks.flatMap s.listed).map s.lead)

/-- Check 12: partitions (R290). -/
def check12 (s : State) : List Broken :=
  (s.portsListed [.JP_CTRL, .JP_CFG, .JP_PART]).filterMap (fun p =>
    let vs := (List.range (s.vcCount p)).map (s.partition p)
    let lim := if s.scarfed p then 524288 else 262144
    if s.on JP_CTRL.enable p && (vs.any (fun n => decide (n < 8192 + s.skid p)) || decide (lim < vs.foldl (· + ·) 0)) then
      some (brokenAt .JP_PART p (some (s.get PRT_CTRL.owner p)))
    else none)

/-- Check 13: Joist timers (R347) and TXN_TIMEOUT. -/
def check13 (s : State) : List Broken :=
  let within (lo hi n : Nat) : Bool := decide (lo ≤ n ∧ n ≤ hi)
  let own (p : Nat) : Option Nat := some (s.get PRT_CTRL.owner p)
  ((List.range 5).filter (fun c => !within 1 60000 (s.get TXN_TIMEOUT.timeout_ms c))).map
      (fun c => brokenAt .TXN_TIMEOUT c (if c < 4 then some c else none))
    ++ (s.portsListed [.JP_CTRL, .JP_CFG, .JP_TIMER0, .JP_TIMER1]).flatMap (fun p =>
      let r := s.get JP_TIMER0.replay_100ns p
      (if within 5 640 r && decide (2 * s.cableDelay p + 400 ≤ 100 * r) && within 1 1000 (s.get JP_TIMER0.lock_loss_us p)
          && within 1 10000 (s.get JP_TIMER0.resp_us p) then [] else [brokenAt .JP_TIMER0 p (own p)])
        ++ (if within 1 255 (s.get JP_TIMER1.replay_limit p) && within 2 1000 (s.get JP_TIMER1.train_100us p) then []
            else [brokenAt .JP_TIMER1 p (own p)]))

/-- Check 14: Plumb (R446, R449). -/
def check14 (s : State) : List Broken :=
  (if 1840 < s.get PLUMB_SHUT.temp then [brokenAt .PLUMB_SHUT 0 none] else [])
    ++ (match undefinedSlot (s.get PLUMB_PROG.word ·) 256 0 with
      | some k => [brokenAt .PLUMB_PROG k none]
      | none => [])

/-- Checks 3 to 14 in the order of their codes, for context `c`; the restore has none (R127). -/
def configChecks (s0 s : State) (ws : Staged) (c : Option Nat) : List (Nat × List Broken) :=
  (match c with
    | some c => [(3, check3 s0 s ws c), (4, check4 s0 s c)]
    | none => [])
  ++ [(5, check5 s), (6, check6 s), (7, check7 s), (8, check8 s), (9, check9 s), (10, check10 s), (11, check11 s),
      (12, check12 s), (13, check13 s), (14, check14 s)]

/-- The entry that a register belongs to, by the register that stands for it. -/
def Part.entry (p : Part) : RegKind × Nat :=
  match p.kind with
  | .PRT_BASE | .PRT_SIZE => (.PRT_CTRL, p.idx)
  | .FUNC_SLACK => (.FUNC_APERTURE, p.idx)
  | k => (k, p.idx)

/-- The configuration as it is once a commit has rewritten the damaged entries among its words (R222, R388). -/
def State.asMended (s : State) (words : List Nat) : State :=
  let es := words.flatMap (fun w => (wordParts w).map Part.entry)
  { s with damaged := s.damaged.filter (fun x => !es.contains x) }

/-- First check of 3 to 14 that fails, with the word it names (R125). -/
def firstFailure (s0 : State) (ws : Staged) (c : Option Nat) : Option (Nat × Broken) :=
  let s := (s0.resulting ws).asMended (ws.map (fun e => e.1))
  (configChecks s0 s ws c).findSome? (fun e => (lowestBroken e.2).map (fun b => (e.1, b)))

end Sys2Proof.Machine
end

