-- ==== Sys2Proof/Machine/Store.lean ====
section
/-! DEFINITION. The RSS controller: images, journal records, compaction and the wear budget (R111 to R118, R122, R129 to
R133). -/

namespace Sys2Proof.Machine

/-- The controller writes. -/
def State.rssBusy (s : State) : Bool := s.rss.job.isSome

/-- Bank and journal in use (RSS_STATUS). -/
def State.rssBankNo (s : State) : Nat := s.get RSS_STATUS.bank
def State.rssJournalNo (s : State) : Nat := s.get RSS_STATUS.journal

/-- Configuration words that the store holds: the current bank and the committed records of the active journal. A
restore that used no journal starts from its bank alone, one from the factory from nothing (R122, log entry 14). -/
def State.storedWords (s : State) : Tbl Word :=
  if s.rss.directNext && decide (2 ≤ s.get RSS_BOOT_STATUS.source) then []
  else match rssBank s.rss.bytes s.rssBankNo with
    | none => []
    | some b =>
      let recs := if s.rss.directNext then [] else (scanJournal s.rss.bytes s.rssJournalNo journalWords 1 b.seq).runs
      overlayRuns [] (b.runs ++ recs)

/-- The words a commit persists: the ret fields of the words it changed, as they stand after its strobe. A field of such a
word that an earlier commit changed without persist becomes persistent with it (R113 to R116 record whole words; log entry
47, DEDUCED). -/
def State.recordTable (s : State) (ws : List Nat) : Tbl Word :=
  ws.foldl (fun t w => Tbl.insert t w (s.bar0Word w &&& retMaskAt w)) []

/-- Bytes of the runs of a table of words. -/
def bodyLen (t : Tbl Word) : Nat := (runsOf t).foldl (fun n r => n + 8 + 8 * r.words.length) 0

/-- Words of one table laid over another. -/
def overlayTable (t u : Tbl Word) : Tbl Word := u.foldl (fun t e => Tbl.insert t e.1 e.2) t

/-- The commit is persisted by a direct compaction (R117, R122). -/
def State.needsCompaction (s : State) (t : Tbl Word) : Bool :=
  s.rss.directNext || decide (maxRecordWords < recordWords (bodyLen t))

/-- Tokens that persisting a commit consumes (R129). -/
def State.tokensFor (s : State) (t : Tbl Word) : Nat := if s.needsCompaction t then 8192 else recordWords (bodyLen t)

/-- Milliseconds until the budget holds `n` tokens (TXN_FAIL_INFO.wear_wait_ms). -/
def State.wearWait (s : State) (n : Nat) : Nat := ceilDiv (n * 1000000000 - s.rss.wear) 2048000000

/-- The controller starts a write, spending tokens. -/
def State.startJob (s : State) (j : RssJob) (tokens : Nat) : State :=
  (s.modRss (fun r => { r with job := some j, wear := r.wear - tokens * 1000000000 })).put RSS_STATUS.busy 0 1

/-- The record of a commit starts on the strobe edge (R132). -/
def State.startPersist (s : State) (c seq : Nat) (t : Tbl Word) : State :=
  if s.needsCompaction t then s.startJob (.compact (some c) seq t false) 8192
  else s.startJob (.record c seq t) (recordWords (bodyLen t))

/-- Sequence of the last durable commit. -/
def State.lastSeq (s : State) : Nat := s.get RSS_LAST_SEQ.seq

/-- What a compaction writes (R118). DESIGN CHOICE: bytes behind the body's end keep what they held (log entry 75). -/
def State.compactBytes (s : State) (seq : Nat) (t : Tbl Word) : Tbl Byte :=
  let b := 1 - s.rssBankNo
  let body := runBytes (overlayTable s.storedWords t)
  let m := rssWrite s.rss.bytes (bankBase b) (leBytes 64 0)
  let m := rssWrite m (bankBase b + 64) body
  let m := rssWrite m (bankBase b) (bankHeader seq body)
  rssWrite m (journalBase (1 - s.rssJournalNo)) (journalHeader seq)

/-- What a journal record writes (R116). -/
def State.recordBytes (s : State) (c seq : Nat) (t : Tbl Word) : Tbl Byte :=
  let payload := runBytes t
  rssWrite s.rss.bytes (journalBase s.rssJournalNo + 64 * s.get RSS_STATUS.journal_used)
    (recordHead seq c payload ++ commitWord seq c payload)

/-- The controller is free. -/
def State.endJob (s : State) (m : Tbl Byte) : State :=
  (s.modRss (fun r => { r with bytes := m, job := none })).put RSS_STATUS.busy 0 0

/-- A compaction that the full journal requires begins, unless the module ends operation (R118, R132). -/
def State.compactFull (s : State) : State :=
  if s.isUp then (s.modRss (fun r => { r with compactDue := false })).startJob (.compact none s.lastSeq [] false) 0
  else s.modRss (fun r => { r with compactDue := true })

/-- A compaction asked for through RSS_CTRL.compact begins, or is refused for want of tokens (R129, R131). Banks that a
factory restore left are not rewritten before the next persisted commit (R122). DESIGN CHOICE: the image takes the sequence of the last
committed record known, also where a restore has dropped records (log entry 75). -/
def State.compactAsked (s : State) : State :=
  if !s.on RSS_CTRL.compact || s.rssBusy || !s.isUp || (s.rss.directNext && decide (2 ≤ s.get RSS_BOOT_STATUS.source)) then s
  else if s.rss.wear < 8192 * 1000000000 then (s.put RSS_CTRL.compact 0 0).bump (modCtr 8)
  else s.startJob (.compact none s.lastSeq [] true) 8192

/-- The write in progress ends (R117, R118, R132). -/
def State.finishWrite (s : State) : State :=
  match s.rss.job with
  | none => s
  | some (.record c seq t) =>
    let n := s.get RSS_STATUS.journal_used + recordWords (bodyLen t)
    let s := (s.endJob (s.recordBytes c seq t)).put RSS_STATUS.journal_used 0 n
    let s := (s.put RSS_LAST_SEQ.seq 0 seq).bump (modCtr 6)
    if journalWords < n + maxRecordWords then s.compactFull else s.compactAsked
  | some (.compact _ seq t asked) =>
    let b := 1 - s.rssBankNo
    let j := 1 - s.rssJournalNo
    let s := s.endJob (s.compactBytes seq t)
    let s := ((s.put RSS_STATUS.bank 0 b).put RSS_STATUS.journal 0 j).put RSS_STATUS.journal_used 0 1
    let s := ((s.put RSS_IMAGE_SEQ.seq 0 seq).put RSS_LAST_SEQ.seq 0 seq).bump (modCtr 7)
    let s := s.modRss (fun r => { r with directNext := false })
    if asked then s.put RSS_CTRL.compact 0 0 else s.compactAsked

/-- The write in progress is torn (R105, R133): a record lacks its commit word, a compaction leaves a zeroed bank header
(log entry 19). -/
def State.tearWrite (s : State) : State :=
  match s.rss.job with
  | none => s
  | some (.record c seq t) =>
    s.endJob (rssWrite s.rss.bytes (journalBase s.rssJournalNo + 64 * s.get RSS_STATUS.journal_used) (recordHead seq c (runBytes t)))
  | some (.compact _ _ _ _) => s.endJob (rssWrite s.rss.bytes (bankBase (1 - s.rssBankNo)) (leBytes 64 0))

end Sys2Proof.Machine
end

