-- ==== Sys2Proof/Machine/Txn.lean ====
section
/-! DEFINITION. Dry-fit transactions: staging, COMMIT, quiescing and moves, the commit strobe, rollback (R44 to R46, R96,
R122 to R128, R184 to R196, R346, R368, R448). -/

namespace Sys2Proof.Machine

/-! ### Results (R123, R125) -/

/-- The result field takes a code. -/
def State.setResult (s : State) (c r : Nat) : State := s.put TXN_STATUS.result c r

/-- Loads what a failing check reports: code, named word and owner, and the wait of a wear failure. -/
def State.loadFailure (s : State) (c code : Nat) (b : Option Broken) (wait : Nat) : State :=
  let s := s.put TXN_STATUS.fail_check c code
  let s := s.put TXN_FAIL_ADDR.offset c (match b with
    | some b => b.1
    | none => 0)
  let owner := b.bind (fun b => b.2)
  let s := (s.put TXN_FAIL_INFO.function_ c (owner.getD 0)).flag TXN_FAIL_INFO.no_word c b.isNone
  (s.flag TXN_FAIL_INFO.no_owner c owner.isNone).put TXN_FAIL_INFO.wear_wait_ms c (min 0xFFFF wait)

/-- Clears what a failing check reported. -/
def State.clearFailure (s : State) (c : Nat) : State :=
  ((s.put TXN_STATUS.fail_check c 0).setWord .TXN_FAIL_ADDR c 0).setWord .TXN_FAIL_INFO c 0

/-- Why a BEGIN, a COMMIT or a ret write is refused: frozen (R46), or the module is ending or not started (R99, R132). -/
def State.refusedBy (s : State) : Option Nat :=
  if s.on GLOBAL_STATUS.cfg_frozen then some 3 else if s.isUp then none else some 8

/-! ### Queue of commits (R125). An implicit transaction of context `c` has a number 5k + c, k ≥ 1. -/

/-- Context of a queued commit. -/
def ctxOf (e : Nat) : Nat := if e < 5 then e else e % 5

/-- A number for a new implicit transaction of context `c`. -/
def State.newImplicit (s : State) (c : Nat) : Nat :=
  5 * ((s.commits.foldl (fun m e => max m (e / 5)) 0) + 1) + c

/-- Contexts and implicit transactions that hold claims. -/
def State.claimants (s : State) : List Nat :=
  (List.range 5).filter (fun c => s.get TXN_STATUS.state c == 1 || s.get TXN_STATUS.state c == 2) ++ s.commits.filter (fun e => 5 ≤ e)

/-- Word `w` is claimed by a transaction other than `c` (R124). -/
def State.claimedByOther (s : State) (c w : Nat) : Bool :=
  s.claimants.any (fun e => e != c && (s.txn e).staged.any (fun x => x.1 == w))

/-- An aperture outside its range is staged as the nearest limit (R200). -/
def stageValue (w : Nat) (v m : Word) : Word :=
  match wordParts w with
  | [p] => if p.kind = .FUNC_APERTURE ∧ getBits m 0 6 ≠ 0 then setBits v 0 6 (clampNat 20 (if p.idx < 4 then 46 else 40) (getBits v 0 6)) else v
  | _ => v

/-- A staged word joins those before; bits staged earlier and not written again stay. -/
def mergeStaged (ws : Staged) (w : Nat) (v m : Word) : Staged :=
  match find1 w ws with
  | some (v', m') => ws.map (fun e => if e.1 = w then (w, (mergeBits v' v m, m' ||| m)) else e)
  | none => ws ++ [(w, (v &&& m, m))]

/-- Stages bits of a word in the open transaction of context `c` (R124). -/
def State.stage (s : State) (c w : Nat) (v m : Word) : State :=
  let d := s.txn c
  if s.claimedByOther c w then
    (s.put TXN_STATUS.conflict c 1).modTxn c (fun d => { d with conflictAt := some (min w (d.conflictAt.getD w)) })
  else if decide (32768 ≤ d.staged.length) && (find1 w d.staged).isNone then s.put TXN_STATUS.overflow c 1
  else
    let ws := mergeStaged d.staged w v m
    (s.modTxn c (fun d => { d with staged := ws })).put TXN_STAGED.words c ws.length

/-! ### Moves (R188, R189) -/

/-- Queues whose owner a commit changes. -/
def movedQueues (s0 s : State) (ws : Staged) : List Nat :=
  ownersOf (ws.filterMap (fun e => match wordParts e.1 with
    | [p] => if p.kind = .Q_CFG ∧ s0.get Q_CFG.owner p.idx ≠ s.get Q_CFG.owner p.idx then some p.idx else none
    | _ => none))

/-- Valid segments that a commit passes to another owner (R188). -/
def movedSegs (s0 s : State) (ws : Staged) : List Nat :=
  (ownersOf (ws.flatMap (fun e => (wordParts e.1).filterMap (fun p =>
    if p.kind.place.block = .LEDGER then some p.idx else none)))).filter (fun n =>
      s0.segValid n && s.segValid n && s0.get SEG_CTRL.owner n != s.get SEG_CTRL.owner n)

/-- The queue's channel stops where it is, its resume point recorded. -/
def State.stopHere (s : State) (q : Nat) : State :=
  let s := match (s.queue q).cur with
    | some c => s.recordResume q c
    | none => s
  let s := (s.put Q_STATE.state q 8).loseExt q
  match s.engineOf q with
  | some e => s.drainEngine e
  | none => s

/-- A moved queue begins to quiesce: nothing new is fetched, and it stops at its next descriptor boundary. A descriptor that
was resumed runs to its end first. -/
def State.quiesceQueue (s : State) (q : Nat) : State :=
  let st := s.get Q_STATE.state q
  let s := s.modQueue q (fun d => { d with moving := true, stateBefore := st })
  if st = 1 ∨ (st = 2 ∧ (s.queue q).cur.isNone) then s.stopHere q else s

/-- A moved queue is quiesced. -/
def State.queueQuiet (s : State) (q : Nat) : Bool :=
  let st := s.get Q_STATE.state q
  !s.on Q_STATE.cq_wait q && (st == 0 || st == 5 || st == 6 || st == 7 || (st == 8 && (s.engineOf q).isNone))

/-- 1 ms has passed: a running descriptor stops at its next request boundary, an entry that waits for room is kept. -/
def State.forceQuiet (s : State) (q : Nat) : State :=
  if s.queueQuiet q then s
  else
    let s := if s.on Q_STATE.cq_wait q then
        (match s.dueEntry q with
          | some e => s.holdEntry q e
          | none => s.put Q_STATE.cq_wait q 0)
      else s
    if s.get Q_STATE.state q = 8 then s else s.stopHere q

/-- A queue whose commit is rolled back returns to service (R126). -/
def State.unquiesce (s : State) (q : Nat) : State :=
  if !(s.queue q).moving then s
  else
    let s := s.modQueue q (fun d => { d with moving := false })
    if s.get Q_STATE.state q ≠ 8 ∨ s.fnHeld (s.qOwner q) then s
    else if (s.queue q).cur.isSome then (s.modQueue q (fun d => { d with waitCmd := 3 })).runWaiting q
    else (s.settleState q).tryEntry q

/-- FUNC_STATE.quiescing of the owners of moved queues. -/
def State.markQuiescing (s : State) (qs : List Nat) (b : Bool) : State :=
  s.each qs (fun s q => s.flag FUNC_STATE.quiescing (s.qOwner q) b)

/-! ### Rollback (R126) -/

/-- Ends transaction `e` without its strobe: claims released, resources returned to service. -/
def State.dropTxn (s : State) (e : Nat) : State :=
  let d := s.txn e
  let s := s.markQuiescing d.moving false
  let s := s.each d.moving State.unquiesce
  let s := (s.disarm (.quiesce e)).setTxn e TxnDyn.reset
  { s with commits := s.commits.filter (fun x => x != e) }

/-- The transaction of context `c` is rolled back with a result. -/
def State.rollBack (s : State) (c r : Nat) : State :=
  let s := (s.dropTxn c).disarm (.txn c)
  let s := (((s.put TXN_STATUS.state c 0).put TXN_STATUS.conflict c 0).put TXN_STATUS.overflow c 0).put TXN_STAGED.words c 0
  s.setResult c r

/-- The transaction of context `c` is rolled back by its timeout (R126). -/
def State.timeOut (s : State) (c : Nat) : State := (s.rollBack c 2).modTxn c (fun d => { d with timedOut := some s.clock })

/-- The context is open or has not reached its strobe. -/
def State.txnLive (s : State) (c : Nat) : Bool := s.get TXN_STATUS.state c == 1 || s.get TXN_STATUS.state c == 2

/-- Milliseconds of TXN_TIMEOUT in ns. -/
def State.txnNs (s : State) (c : Nat) : Nat := s.get TXN_TIMEOUT.timeout_ms c * 1000000

/-! ### COMMIT (R125, R127) -/

/-- Region that holds the registers of a part (R14, R25). DEDUCED (log entry 21): the HOSTPORT block lies in HMDh, and Ridge's mailbox,
security and measurement registers lie in the core. -/
def partRegion (p : Part) : Nat :=
  match p.kind.place.block with
  | .JOIST => bayOf (joistPort (p.kind.wordOf p.idx))
  | .BAY => p.idx
  | .TE => 24 + p.idx / 8
  | .HOSTPORT => 39 + p.idx
  | .PWR | .PLUMB | .FUSE => 44
  | _ => 34

/-- Regions that hold the fields of some words. -/
def wordRegions (ws : List Nat) : List Nat := ownersOf (ws.flatMap (fun w => (wordParts w).map partRegion))

/-- The region does not run, so its registers cannot be reached until it does (R14); a clock-gated one runs at once. -/
def State.asleep (s : State) (r : Nat) : Bool := !s.open_ r

/-- Region of a waiting register access. -/
def RingAccess.region : RingAccess → Nat
  | .read r _ _ _ _ _ _ => r
  | .write r _ _ _ => r
  | .mctpRead r _ => r
  | .mctpWrite r _ _ => r
  | .named r _ _ _ _ _ => r

/-- What the checks find: code, named word, wear wait. -/
def State.judgeTxn (s : State) (e : Nat) : Option (Nat × Option Broken × Nat) :=
  let d := s.txn e
  if e < 5 && s.on TXN_STATUS.overflow e then some (1, none, 0)
  else match d.conflictAt with
    | some w => some (2, some (8 * w, s.wordOwner w), 0)
    | none =>
      match firstFailure s d.staged (some (ctxOf e)) with
      | some (n, b) => some (n, some b, 0)
      | none =>
        if !d.persist then none
        else
          let t := (s.resulting d.staged).recordTable (commitWords s d.staged)
          if maxBody < bodyLen (overlayTable s.storedWords t) then some (15, none, 0)
          else if s.rss.wear < s.tokensFor t * 1000000000 then some (16, none, s.wearWait (s.tokensFor t))
          else none

/-- The checks have passed: moved resources quiesce, regions wake (steps 1 and 2 of R125). -/
def State.beginQuiesce (s : State) (e : Nat) : State :=
  let d := s.txn e
  let qs := movedQueues s (s.resulting d.staged) d.staged
  let s := s.modTxn e (fun d => { d with quiescing := true, moving := qs })
  let s := (s.each qs State.quiesceQueue).markQuiescing qs true
  let s := s.each (wordRegions (commitWords s d.staged)) State.wakeRegion
  if qs.isEmpty then s else s.arm (.quiesce e) 1000000

/-- The strobe may be given (R96, R125, R188). A generation that a tag still records holds it back (R193). -/
def State.strobeReady (s : State) (e : Nat) : Bool :=
  let d := s.txn e
  let tagged (q : Nat) : Bool :=
    let g := (s.get Q_STATE.gen q + 1) % 256
    s.hosts.any (fun h => h.2.tags.any (fun t => t.2.req.q == some q && t.2.req.qgen == g && !t.2.held))
      || s.ports.any (fun p => p.2.ltags.any (fun t => t.2.q == some q && t.2.qgen == g && !t.2.held))
  let segTagged (n : Nat) : Bool :=
    let g := some (n, (s.get SEG_CTRL.gen n + 1) % 256)
    s.hosts.any (fun h => h.2.tags.any (fun t => t.2.req.seg == g && !t.2.held))
      || s.ports.any (fun p => p.2.ltags.any (fun t => t.2.seg == g && !t.2.held))
  d.quiescing && d.moving.all (fun q => s.queueQuiet q && !tagged q) && (movedSegs s (s.resulting d.staged) d.staged).all (fun n => !segTagged n)
    && (wordRegions (commitWords s d.staged)).all (fun r => !s.asleep r)

/-- A register access or a commit waits for region `r` to run: a trigger that no SLEEP beats (R14, R26, R95, R96). -/
def State.wanted (s : State) (r : Nat) : Bool :=
  s.ring.any (fun x => x.region == r)
    || s.commits.any (fun e => (s.txn e).quiescing && (wordRegions (commitWords s (s.txn e).staged)).contains r)

/-- No port of the bay has its local device (R89). -/
def State.deviceless (s : State) (b : Nat) : Bool := (List.range 4).all (fun j => !(s.port (4 * b + j)).present)

/-- A tag of a host, or a request that waits for one, targets the bay: it is a part of a read of one of its devices (R89). -/
def State.bayTagged (s : State) (b : Nat) : Bool :=
  let mine (r : HReq) : Bool := match r.purpose with
    | .loc p _ _ => bayOf p == b
    | _ => false
  s.hosts.any (fun h => h.2.waiting.any mine || h.2.tags.any (fun t => !t.2.held && mine t.2.req))

/-- Bays without a local device go back to sleep once nothing wants them and no host tag targets them (R89, R90). -/
def State.restBays (s : State) : State :=
  s.each (List.range 24) (fun s b =>
    if s.isUp && s.bayState b == 0 && s.deviceless b && !s.wanted b && !s.bayTagged b then s.sleepBay b else s)

/-! ### The strobe: what changes beside the words (R16, R188, R346, R368, R448) -/

/-- FUNC_MOVE_LOG of one old owner, from the queues moved away from it: number, sq_head, abandoned (R189, R200). -/
def State.logMoves (s : State) (f : Nat) (qs : List (Nat × Nat × Bool)) : State :=
  match (qs.find? (fun x => x.2.2)).or qs.head? with
  | none => s
  | some (q, head, ab) =>
    let s := (s.put FUNC_MOVE_LOG.queue f q).put FUNC_MOVE_LOG.desc_index f head
    (s.flag FUNC_MOVE_LOG.abandoned f ab).flag FUNC_MOVE_LOG.multiple f (decide (1 < qs.length))

/-- A queue leaves the VF_QMAP slot of its old owner (R52). -/
def State.leaveSlot (s : State) (q old : Nat) : State :=
  if 4 ≤ old then s.modFunc old (fun d => { d with slots := d.slots.filter (fun x => x.2 != q) }) else s

/-- A queue takes the lowest free VF_QMAP slot of its new owner (R52). -/
def State.takeSlot (s : State) (q new : Nat) : State :=
  if 4 ≤ new then
    s.modFunc new (fun d =>
      match (List.range 128).find? (fun k => (find1 k d.slots).isNone) with
      | some k => { d with slots := d.slots ++ [(k, q)] }
      | none => d)
  else s

/-- The context of a moved queue is cleared and its generation raised (R188 to R190). A completion vector that waits at the
Peg output, held on no entry, goes with it: the spec does not say what becomes of it (log entry 50, DESIGN CHOICE). -/
def State.moveQueue (s : State) (q : Nat) : State :=
  let s := if (s.queue q).held.isSome then s.bump (queueCtr q 3) else s
  let s := match s.engineOf q with
    | some e => if (s.eng e).draining then s else s.drainEngine e
    | none => s
  let s := { s with vecs := s.vecs.filter (fun v => v.q != q) }
  (((s.dropFetches q).raiseQGen q).resetQueue q).modQueue q (fun d => { d with moving := false })

/-- Table entries of functions whose pool vector a commit takes away, though another may back them after it (R188). -/
def lostEntries (s0 s : State) (ws : Staged) : List (Nat × Nat) :=
  ws.flatMap (fun e => (wordParts e.1).filterMap (fun p =>
    if p.kind = .PEG_VMAP ∧ s0.on PEG_VMAP.assigned p.idx then
      let f := s0.get PEG_VMAP.function_ p.idx
      let n := s0.get PEG_VMAP.entry p.idx
      if s.on PEG_VMAP.assigned p.idx ∧ s.get PEG_VMAP.function_ p.idx = f ∧ s.get PEG_VMAP.entry p.idx = n then none else some (f, n)
    else none))

/-- Table entries to which a commit assigns a vector (R385). -/
def wonEntries (s0 s : State) (ws : Staged) : List (Nat × Nat) := lostEntries s s0 ws

/-- An entry loses its vector: its pending bit and held messages go, held sources return to pending with their keys and are delivered
afresh, and held queues raise their vector again (R188). DESIGN CHOICE: such a vector is untagged, with the implicit key of its owner of
now (log entry 69). -/
def State.loseVector (s : State) (f e : Nat) : State :=
  let s := s.setPba f e false
  let mine := s.pegs.filter (fun x => x.2.heldOn == some e && s.get PEG_SRC_CTRL.owner x.1 == f)
  let s := s.each mine (fun s x =>
    (((s.put PEG_SRC_STATUS.state x.1 1).put PEG_SRC_STATUS.held x.1 0).setPeg x.1 (x.2.regain (s.get PEG_SRC_STATUS.state x.1))).wakePeg x.1)
  let qs := s.queues.filter (fun x => x.2.vecOn == some e && s.qOwner x.1 == f)
  s.each qs (fun s x => (s.modQueue x.1 (fun d => { d with vecOn := none })).askVector x.1 (s.implicitKey f) false)

/-- An entry that gains a vector takes its reset values (R385). -/
def State.gainVector (s : State) (f e : Nat) : State :=
  (s.each (List.range 4) (fun s j => s.setMsix f e j (msixReset (msixKey f e j)))).setPba f e false

/-- A Peg source has passed to another owner: unless it is idle it is pending toward the new owner's target, with the keys that it holds
(R188, R379). DESIGN CHOICE: an active source that holds none takes the new owner's implicit key (log entry 69). -/
def State.movePeg (s : State) (i : Nat) : State :=
  let st := s.get PEG_SRC_STATUS.state i
  if st = 0 then s.modPeg i (fun d => { d with heldOn := none, heldKey := none })
  else
    let d := (s.peg i).regain st
    let d := if d.key = 0 then { d with key := s.implicitKey (s.get PEG_SRC_CTRL.owner i) } else d
    (((s.put PEG_SRC_STATUS.state i 1).put PEG_SRC_STATUS.held i 0).setPeg i d).wakePeg i

/-- A commit rewrites damaged entries: they are in use again, and a held function returns to service (R222, R388, R393). -/
def State.mend (s : State) (words : List Nat) : State :=
  let es := words.flatMap (fun w => (wordParts w).map Part.entry)
  let good := s.damaged.filter es.contains
  if good.isEmpty then s
  else
    let s := { s with damaged := s.damaged.filter (fun x => !es.contains x) }
    s.each (good.filter (fun x => x.1 == .FUNC_APERTURE)) (fun s x =>
      (s.put FUNC_STATE.quiescing x.2 0).each (s.queuesOf x.2) State.unquiesce)

/-- Plumb's shadow image takes the committed words that the strobe changed (R448). -/
def State.loadShadow (s0 s : State) (ws : Staged) : State :=
  let ks := ws.flatMap (fun e => (wordParts e.1).filterMap (fun p =>
    if p.kind = .PLUMB_PROG ∨ p.kind = .PLUMB_THR then
      (if s0.word p.kind p.idx = s.word p.kind p.idx then none
        else some ((if p.kind = .PLUMB_PROG then p.idx else 256 + p.idx), (s.word p.kind p.idx).truncate 32))
    else none))
  if ks.isEmpty then s
  else
    (s.modPlumb (fun d => { d with
      shadow := ks.foldl (fun xs k => xs.set k.1 k.2) d.shadow
      committed := if d.inPass then d.committed ++ ks.map (fun k => k.1) else d.committed })).put PLUMB_STATUS.swap_pending 0 1

/-- Joist ports of the words of a commit whose JP_CTRL, JP_CFG or JP_PART it stages. -/
def stagedPorts (ws : Staged) : List Nat :=
  ownersOf (ws.flatMap (fun e => (wordParts e.1).filterMap (fun p =>
    if p.kind = .JP_CTRL ∨ p.kind = .JP_CFG ∨ p.kind = .JP_PART then some p.idx else none)))

/-- The pair of `p` is joined or split. -/
def scarfChanges (s0 s : State) (p : Nat) : Bool := s0.scarfed p != s.scarfed p

/-- The commit changes a field of the port led by `p` that takes it down (R346). -/
def reconfigures (s0 s : State) (p : Nat) : Bool :=
  let differs (F : Fld) : Bool := s0.get F p != s.get F p
  differs JP_CFG.rate || differs JP_CFG.cable_class || differs JP_CFG.vc_count || s0.word .JP_PART p != s.word .JP_PART p

/-- Before the words are applied: ports that the commit joins, splits or reconfigures go down with CONFIG, ports that it
disables go down with SOFTWARE. -/
def State.portsBefore (s0 : State) (after : State) (ps : List Nat) : State :=
  s0.each (ownersOf (ps.map s0.lead ++ (ps.filter (scarfChanges s0 after)).flatMap (fun p => [s0.lead (lowerOf p), s0.lead (lowerOf p + 1)])))
    (fun s p =>
      let st := s.get JP_STATUS.link_state p
      if scarfChanges s0 after p then if st = 3 ∨ st = 2 ∨ st = 4 then s.portDown p 8 else s
      else if s0.on JP_CTRL.enable p && !after.on JP_CTRL.enable p then
        if st = 3 then s.portDown p 9 else if st = 2 ∨ st = 4 then s.endRequests p else s
      else if st = 3 ∧ reconfigures s0 after p then s.portDown p 8
      else s)

/-- After the words are applied: joined and split ports enter reset, reconfigured ones train, also those that
went down on this edge for another cause (R349), enables act. A port with a test of its lanes set enters test (R317, R341). -/
def State.portsAfter (s : State) (s0 : State) (ps : List Nat) : State :=
  s.each (ownersOf (ps.map s.lead ++ (ps.filter (scarfChanges s0 s)).flatMap (fun p => [s.lead (lowerOf p), s.lead (lowerOf p + 1)])))
    (fun s p =>
      let st := s.get JP_STATUS.link_state p
      if scarfChanges s0 s p then
        let s := s.each [lowerOf p, lowerOf p + 1] (fun s m =>
          let s := if s.on JP_CTRL.scarf (lowerOf p) then s.put JT_SCARF.max_skew m 0 else s
          (s.put JT_SCARF.in_progress m 1).modPort m (fun d => { d with joining := true }))
        if !s.portEnabled p then s.disablePort p else if s.pairInTest p then s.holdInTest p else s.enterReset p
      else if !s0.on JP_CTRL.enable p && s.on JP_CTRL.enable p then (if st ≠ 0 then s else if s.inTest p then s.holdInTest p else s.enterReset p)
      else if s0.on JP_CTRL.enable p && !s.on JP_CTRL.enable p then
        (if st = 5 ∧ s.armed (.downHold p) then s else s.disablePort p)
      else if st = 5 ∧ s.get JP_DOWN_LOG.cause p = 8 ∧ !s.armed (.training p) then s.startTraining p
      else if st = 5 ∧ s.armed (.downHold p) ∧ s.get JP_DOWN_TIME.devtime p = s.devtime ∧ s.allPresent p ∧ reconfigures s0 s p then
        (s.disarm (.downHold p)).startTraining p
      else s)

/-- A commit has changed the TIME period of ports that are up: their timers run where the period is not 0 (R364). -/
def State.timePeriods (s : State) (ws : Staged) : State :=
  s.each (ownersOf (ws.flatMap (fun e => (wordParts e.1).filterMap (fun p => if p.kind = .JT_TIME_CTRL then some p.idx else none)))) (fun s p =>
    let t := s.get JT_TIME_CTRL.period_us p
    if s.lead p ≠ p ∨ s.get JP_STATUS.link_state p ≠ 3 then s
    else if t = 0 then s.disarm (.timeFrame p)
    else s.armOnce (.timeFrame p) (t * 1000))

/-- One commit strobe (R125): every staged word is applied, with what follows from it. Answers the state and the words of
its record. DESIGN CHOICE: requests outstanding at a port that the commit disables end as under the old entry (R16, R221; log entry 59). -/
def State.strobeWords (s0 : State) (ws : Staged) (moving : List Nat) : State × List Nat :=
  let after := s0.resulting ws
  let words := commitWords s0 ws
  let ps := stagedPorts ws
  let moved := moving.map (fun q => (q, s0.get Q_CFG.owner q, after.get Q_CFG.owner q))
  let logs := moved.map (fun m => (m.2.1, (m.1, s0.get Q_SQ_IDX.sq_head m.1,
    (s0.queue m.1).cur.isSome || (s0.queue m.1).held.isSome)))
  let lost := lostEntries s0 after ws
  let won := wonEntries s0 after ws
  let s := s0.portsBefore after ps
  let s := s.each moving State.moveQueue
  let segs := ownersOf (ws.flatMap (fun e => (wordParts e.1).filterMap (fun p =>
    if p.kind.place.block = .LEDGER then some p.idx else none)))
  let pegs := ownersOf (ws.filterMap (fun e => match wordParts e.1 with
    | [p] => if p.kind = .PEG_SRC_CTRL ∨ p.kind = .PEG_SRC_TGT then some p.idx else none
    | _ => none) ++ (followers s0 (s0.loadWords ws) ws).map (fun e => e.1))
  let s := s.resulting ws
  let s := s.each (ownersOf (logs.map (fun l => l.1))) (fun s f => s.logMoves f ((logs.filter (fun l => l.1 == f)).map (fun l => l.2)))
  let s := s.each moved (fun s m => s.leaveSlot m.1 m.2.1)
  let s := s.each moved (fun s m => s.takeSlot m.1 m.2.2)
  let s := s.each moved (fun s m => if s.on FUNC_STATE.flr_active m.2.2 then s.put Q_STATE.state m.1 8 else s)
  let s := s.each segs (fun s n =>
    let s := s.put SEG_CTRL.poisoned n 0
    if (movedSegs s0 after ws).contains n then s.put SEG_CTRL.gen n (s0.get SEG_CTRL.gen n + 1) else s)
  let s := s.each pegs (fun s i =>
    let s := s.modPeg i (fun d => { d with bad := false })
    if s0.get PEG_SRC_CTRL.owner i = after.get PEG_SRC_CTRL.owner i then s else s.movePeg i)
  let s := s.each lost (fun s e => s.loseVector e.1 e.2)
  let s := s.each won (fun s e => s.gainVector e.1 e.2)
  let s := (((State.loadShadow s0 s ws).portsAfter s0 ps).timePeriods ws).mend words
  (s.rebuildPlank, words)

/-- The strobe of queued commit `e`, and what its context shows then. -/
def State.strobe (s : State) (e : Nat) : State :=
  let d := s.txn e
  let s := s.markQuiescing d.moving false
  let (s, words) := s.strobeWords d.staged d.moving
  let s := (s.disarm (.quiesce e)).setTxn e TxnDyn.reset
  let s := { s with commits := s.commits.filter (fun x => x != e) }
  if 5 ≤ e then s
  else
    let s := (((s.disarm (.txn e)).put TXN_STAGED.words e 0).put TXN_STATUS.conflict e 0).put TXN_STATUS.overflow e 0
    if d.persist then
      let seq := s.lastSeq + 1
      ((s.put TXN_STATUS.state e 3).modTxn e (fun x => { x with seq := seq })).startPersist e seq (s.recordTable words)
    else (s.put TXN_STATUS.state e 0).setResult e 0

/-- A context persists, or the store is busy: a persisted COMMIT waits (R127). -/
def State.storeTaken (s : State) : Bool := s.rssBusy || (List.range 5).any (fun c => s.get TXN_STATUS.state c == 3)

/-- Judges the commit at the head of the queue, and those behind it as their turn comes (R125). An implicit transaction
with nothing to wait for is applied at once (R44). -/
def State.runCommits (s : State) : Nat → State
  | 0 => s
  | fuel + 1 =>
    match s.commits with
    | [] => s
    | e :: rest =>
      let d := s.txn e
      let c := ctxOf e
      if d.quiescing then
        if 5 ≤ e && s.strobeReady e then (s.strobe e).runCommits fuel else s
      else if d.persist && s.storeTaken then s
      else
        match s.judgeTxn e with
        | some (code, b, wait) =>
          if 5 ≤ e then (((s.dropTxn e).loadFailure c code b wait).setResult c 7).runCommits fuel
          else
            let s := { s with commits := rest }
            let s := ((s.loadFailure c code b wait).put TXN_STATUS.state c 1).setResult c 1
            (if d.opened + s.txnNs c < s.clock then s.timeOut c else s).runCommits fuel
        | none =>
          let s := (if e < 5 then s.clearFailure e else s).beginQuiesce e
          if 5 ≤ e && s.strobeReady e then (s.strobe e).runCommits fuel else s

/-- Runs the queue of commits as far as it goes. -/
def State.nextCommits (s : State) : State := s.runCommits (s.commits.length + 1)

/-! ### The operations -/

/-- BEGIN (R123, R124). -/
def State.txnBegin (s : State) (c : Nat) : State :=
  match s.refusedBy with
  | some r => s.setResult c r
  | none =>
    if s.get TXN_STATUS.state c ≠ 0 then s.setResult c 5
    else
      let s := s.setTxn c { TxnDyn.reset with opened := s.clock }
      let s := ((s.setWord .TXN_STATUS c 0).put TXN_STATUS.state c 1).put TXN_STAGED.words c 0
      (s.put TXN_OPEN_TIME.devtime c s.devtime).arm (.txn c) (s.txnNs c)

/-- COMMIT (R125). One that arrives on the CCLK edge of the timeout is refused with TIMED_OUT (R126). -/
def State.txnCommit (s : State) (c : Nat) (persist : Bool) : State :=
  match s.refusedBy with
  | some r => s.setResult c r
  | none =>
    if s.get TXN_STATUS.state c = 0 ∧ (s.txn c).timedOut = some s.clock then s.setResult c 2
    else if s.get TXN_STATUS.state c ≠ 1 then s.setResult c 4
    else if (s.txn c).opened + s.txnNs c ≤ s.clock then s.timeOut c
    else
      let s := (s.modTxn c (fun d => { d with persist := persist, quiescing := false })).put TXN_STATUS.state c 2
      { s with commits := s.commits ++ [c] }.nextCommits

/-- ROLLBACK (R126). -/
def State.txnRollback (s : State) (c : Nat) : State :=
  if s.get TXN_STATUS.state c = 1 then s.rollBack c 0 else s.setResult c 4

/-- TXN_TIMEOUT is judged while the transaction is open (R126). -/
def State.txnExpired (s : State) (c : Nat) : State :=
  if s.get TXN_STATUS.state c ≠ 1 then s
  else s.onExpiry (.txn c) (fun s =>
    let due := (s.txn c).opened + s.txnNs c
    if s.clock < due then s.arm (.txn c) (due - s.clock) else s.timeOut c)

/-- The strobe of the commit of context `c` at the head of the queue, when it may be given. -/
def State.giveStrobe (s : State) (c : Nat) : State :=
  match s.commits with
  | e :: _ => if ctxOf e = c ∧ s.strobeReady e then (s.strobe e).nextCommits else s
  | [] => s

/-- 1 ms after the checks passed (R188). -/
def State.quiesceExpired (s : State) (c : Nat) : State :=
  match s.commits with
  | e :: _ =>
    if ctxOf e = c then s.onExpiry (.quiesce e) (fun s => s.each (s.txn e).moving State.forceQuiet) else s
  | [] => s

/-- The persisted commit of context `c` is durable (R125): the write in progress is its own, or has ended. -/
def State.persistDone (s : State) (c : Nat) : State :=
  if s.get TXN_STATUS.state c ≠ 3 then s
  else
    let n := (s.txn c).seq
    let s := if s.lastSeq < n then s.finishWrite else s
    if s.lastSeq < n then s
    else
      let s := ((s.put TXN_STATUS.state c 0).setResult c 0).put TXN_PERSIST_SEQ.seq c n
      (s.setTxn c TxnDyn.reset).nextCommits

/-- The write in progress ends, and a commit that waited for the store goes on. -/
def State.writeDone (s : State) : State := if s.rssBusy then s.finishWrite.nextCommits else s

/-- Context of the TXN block in which a writer's ret writes are made (R44): its own, Ridge's, or none for a VF. -/
def writerCtx : Agent → Option Nat
  | .ridge => some 4
  | .fn f => if f.val < 4 then some f.val else none

/-- A write of ret fields of word `w` by the holder of context `c` (R44, R46). -/
def State.retWrite (s : State) (c w : Nat) (v m : Word) : State :=
  match s.refusedBy with
  | some r => s.setResult c r
  | none =>
    let v := stageValue w v m
    match s.get TXN_STATUS.state c with
    | 1 => s.stage c w v m
    | 2 => s
    | _ =>
      if s.claimedByOther 1000 w then (s.loadFailure c 2 (some (8 * w, s.wordOwner w)) 0).setResult c 7
      else
        let e := s.newImplicit c
        let s := s.setTxn e { TxnDyn.reset with staged := [(w, (v &&& m, m))], opened := s.clock }
        { s with commits := s.commits ++ [e] }.nextCommits

/-- Committed value of a word as context `c` reads it: staged values show to the holder of an open transaction (R45). -/
def State.readWord (s : State) (c : Option Nat) (w : Nat) : Word :=
  match c with
  | some c =>
    if s.get TXN_STATUS.state c = 1 then
      match find1 w (s.txn c).staged with
      | some (v, m) => mergeBits (s.bar0Word w) v m
      | none => s.bar0Word w
    else s.bar0Word w
  | none => s.bar0Word w

/-! ### Events that end transactions (R126, R132) -/

/-- Every transaction that has not reached its strobe is rolled back with a result. -/
def State.rollBackAll (s : State) (r : Nat) : State :=
  let s := s.each (s.commits.filter (fun e => 5 ≤ e)) (fun s e => (s.dropTxn e).setResult (ctxOf e) r)
  s.each ((List.range 5).filter s.txnLive) (fun s c => s.rollBack c r)

/-- A reset of PFh's scope (R34, R126): its transaction, and its writes outside one that wait for their strobe, are rolled
back with RESET; its context returns to reset unless a commit persists. -/
def State.resetContext (s : State) (h : Nat) : State :=
  let queued := s.commits.filter (fun e => decide (5 ≤ e) && ctxOf e == h)
  let live := s.txnLive h || !queued.isEmpty
  let s := s.each queued State.dropTxn
  let s := if s.txnLive h then s.rollBack h 6 else s
  if s.get TXN_STATUS.state h = 3 then s
  else
    let s := s.each [RegKind.TXN_STATUS, .TXN_FAIL_ADDR, .TXN_FAIL_INFO, .TXN_OPEN_TIME, .TXN_STAGED, .TXN_PERSIST_SEQ] (fun s k => s.resetPlain k h)
    (if live then s.setResult h 6 else s).nextCommits

end Sys2Proof.Machine
end

