-- ==== Sys2Proof/Machine/Supply.lean ====
section
/-! DEFINITION. Mains, start-up, restore, standby, shutdown and module reset (R34, R70, R71, R76, R99, R104 to R110, R119 to
R122, R127, R131 to R133, R406, R450). -/

namespace Sys2Proof.Machine

/-! ### What a reset leaves (R34) -/

/-- Registers that MOD_RESET_N leaves unchanged (R34). -/
def sillKinds : List RegKind := [.FUSE_STATUS, .FUSE_SERIAL0, .FUSE_SERIAL1, .FUSE_MARGINAL, .SAFE_RECORD]

/-- Registers of the RSS controller, which finishes a write in progress through every reset (R132); what the boot scan
found stands until the next one (R131). -/
def storeKinds : List RegKind := [.RSS_BOOT_STATUS, .RSS_STATUS, .RSS_IMAGE_SEQ, .RSS_LAST_SEQ]

/-- Every register, table and buffer at its reset value, but for the Sill registers, DEVTIME, the fuse shadows, the store
and a write in progress in it, Ridge's flash and what stands at the pins (R34, R132, R465). -/
def State.wiped (s : State) : State :=
  let kept := sillKinds ++ (if s.rssBusy then storeKinds else [])
  let pin (t : Tbl HostDyn) (h : Nat) : Tbl HostDyn :=
    Tbl.set HostDyn.reset t h { HostDyn.reset with perst := (s.host h).perst, absent := (s.host h).absent }
  let port (t : Tbl PortDyn) (e : Nat × PortDyn) : Tbl PortDyn :=
    Tbl.set PortDyn.reset t e.1 { PortDyn.reset with present := e.2.present }
  { State.reset with
    pending := s.pending, phase := s.phase, clock := s.clock, devtime := s.devtime, fuses := s.fuses
    regs := s.regs.filter (fun e => kept.any (fun k => e.1 % 256 == k.code))
    rss := { s.rss with compactDue := false, wear := 65536000000000, directNext := s.rss.directNext && s.rssBusy }
    hosts := (List.range 4).foldl pin [], ports := s.ports.foldl port []
    ridge := { RidgeDyn.reset with flash := s.ridge.flash, erased := s.ridge.erased, spoiled := s.ridge.spoiled }
    pins := { s.pins with inletHot := false, dieHot := false, shutdownPending := false, pps := none }
    nextId := s.nextId, freeCtr := s.freeCtr, sent := s.sent }

/-- Mains are lost while FW_ACTIVATE writes a directory copy: that copy is invalid (R436). -/
def State.tearActivate (s : State) : State :=
  match s.ridge.activating with
  | some c => s.modRidge (fun r => { r with flash := Tbl.writeBytes r.flash (0x1000 * c) (leBytes 4 0), activating := none })
  | none => s

/-- Power is gone: only the store, the flash, the pins and the trip latch are left. -/
def State.dark (s : State) : State :=
  let s := s.wiped
  { s with
    phase := .off, devtime := 0, fuses := [], regs := []
    rss := ⟨s.rss.bytes, none, false, 65536000000000, false⟩ }

/-! ### Ending operation (R99, R132) -/

/-- Regions in the order in which they are turned off (R132). -/
def offOrder : List Nat :=
  List.range 24 ++ (List.range 6).map (· + 24) ++ (List.range 4).map (· + 30) ++ (List.range 4).map (· + 35) ++ [34, 43]
    ++ (List.range 4).map (· + 39)

/-- Traffic stops: transactions are rolled back with a result, host links and Joist lanes are down, LOCAL_RESETj_N is
asserted, what was in flight is abandoned, a capture is lost (R99, R126, R465). Plumb's passes go on. -/
def State.stopTraffic (s : State) (result : Nat) : State :=
  let s := s.rollBackAll result
  let s := s.each (List.range 96) (fun s p => s.put JP_STATUS.link_state p (if s.on JP_CTRL.enable p then 1 else 0))
  let s := s.each (List.range 4) (fun s h => (s.setWord .HP_LINK_STATUS h 0).put HP_LINK_STATUS.pm_state h 3)
  let w := s.wiped
  { s with
    timers := s.timers.filter (fun e => e.1 == .plumb)
    hosts := w.hosts, ports := w.ports, lanes := [], queues := [], engines := [], pegs := [], vecs := [], funcs := []
    commits := [], waking := [], warm := [], ring := [], pba := [], msix := [], bankA := [], bankB := []
    scribe := ⟨none, none, []⟩
    brace := { s.brace with queue := [], sources := [] }
    ridge := w.ridge
    regs := s.regs.filter (fun e => !List.any [RegKind.SCRIBE_STATUS, .SCRIBE_SEQ, .SCRIBE_TIME, .SCRIBE_INFO] (fun k => e.1 % 256 == k.code)) }

/-- Every region but the Sill is off. -/
def State.turnAllOff (s : State) : State := s.each offOrder (fun s r => s.setRegion r 4)

/-- The end that waited for the store is reached. -/
def State.endNow (s : State) : Ending → State
  | .standby => { s.turnAllOff with phase := .standby }
  | .mainsOff => s.dark

/-- MOD_RESET_N, or the end of standby: everything resets, and the sequence of R106 starts at row (M) once neither signal
is asserted; while STANDBY_REQ_N is, power is reduced to standby (R71). -/
def State.restart (s : State) : State :=
  let s := s.wiped
  if s.pins.standby then (if s.rssBusy then { s with phase := .ending .standby } else s.endNow .standby)
  else { s with phase := if s.pins.modReset then .heldReset else .scanning }

/-- An ending begins: at once where the store is free, otherwise when its write ends (R132). -/
def State.beginEnding (s : State) (e : Ending) : State :=
  let s := s.stopTraffic 8
  if s.rssBusy then { s with phase := .ending e } else s.endNow e

/-- Mains loss (R76). -/
def State.loseMains (s : State) : State :=
  let s := s.tearActivate
  match s.phase with
  | .off => s
  | .standby | .shutdown | .safe | .tripped | .heldReset | .scanning => if s.rssBusy then { s with phase := .ending .mainsOff } else s.dark
  | .ending _ => { s with phase := .ending .mainsOff }
  | _ => s.beginEnding .mainsOff

/-- STANDBY_REQ_N is recognised (R71, R99). TEMP_ALERT_N keeps its level: hot dies hold it low only where they did so while
the start permit was withheld. In safe state and after a thermal shutdown nothing changes until MOD_RESET_N (R104, R406). -/
def State.enterStandby (s : State) : State :=
  let s := s.modPins (fun d => { d with standby := true, dieHot := d.dieHot && (s.phase == .awaitPermit || s.phase == .standby) })
  match s.phase with
  | .scanning | .heldReset => if s.rssBusy then { s with phase := .ending .standby } else s.endNow .standby
  | .awaitPermit | .starting | .up => s.beginEnding .standby
  | _ => s

/-- The standby request ends (R71). -/
def State.leaveStandby (s : State) : State :=
  let s := s.modPins (fun d => { d with standby := false })
  match s.phase with
  | .standby | .ending .standby => s.restart
  | _ => s

/-- MOD_RESET_N is recognised low, which has no further effect in standby (R71); it samples the slot identity (R34, R69, R71, R105). -/
def State.holdReset (s : State) (slot : Nat) : State :=
  let s := s.modPins (fun d => { d with modReset := true, slotId := slot })
  match s.phase with
  | .off | .standby | .tripped | .ending _ => s
  | _ => (s.rollBackAll 6).restart

/-- MOD_RESET_N goes high (R71, R106). -/
def State.releaseModReset (s : State) : State :=
  let s := s.modPins (fun d => { d with modReset := false })
  match s.phase with
  | .heldReset => if s.pins.standby then s else { s with phase := .scanning }
  | _ => s

/-- The hard trip (R105): every rail but those of the Sill goes, a write in progress is torn. -/
def State.trip (s : State) : State :=
  if s.powered then
    let s := s.tearWrite
    { s.wiped.turnAllOff with phase := .tripped, pins := { s.wiped.pins with tripLatch := true } }
  else s

/-- A safe-state fault (R406, R407): the latch records it and everything but DEVTIME and the fuse shadows stops. A parity
error in a fuse shadow (13.3) shows in FUSE_STATUS, which outlives the reset (R34, R110, R437). -/
def State.enterSafe (s : State) (n c : Nat) : State :=
  if !s.powered || decide (s.phase = .tripped) then s
  else
    let t := s.tearWrite.wiped.turnAllOff
    let t := if n = 13 ∧ c = 3 then t.put FUSE_STATUS.shadow_parity 0 1 else t
    let t := ((t.put SAFE_RECORD.subsystem 0 n).put SAFE_RECORD.code 0 c).put SAFE_RECORD.valid 0 1
    { t.put SAFE_RECORD.devtime_lo 0 s.devtime with phase := .safe }

/-! ### Thermal shutdown (R104, R133) -/

/-- Hottest die temperature that Plumb latched last, in °C. -/
def State.hottestC (s : State) : Word :=
  let m := (s.plumb.sensors.take 24).foldl (fun m x => if m.toInt < x.toInt then x else m) (s.plumb.sensors.headD 0)
  (m.sshiftRight 4).signExtend 64

/-- The shutdown proceeds to the Sill-only state. -/
def State.shutNow (s : State) : State :=
  { (s.stopTraffic 8).turnAllOff with phase := .shutdown, pins := { s.pins with shutdownPending := false } }

/-- A shutdown request: deferred while the store is busy, with the clocks stopped (R104, R133). -/
def State.askShutdown (s : State) : State :=
  match s.phase with
  | .starting | .up =>
    let s := s.report 12 1 0 s.hottestC
    if s.rssBusy then
      let s := (s.rollBackAll 8).modPins (fun d => { d with shutdownPending := true })
      let s := s.each offOrder (fun s r => if s.region r = 0 then s.setRegion r 1 else s)
      { s.arm .deferral 6000000 with phase := .deferring }
    else s.shutNow
  | .awaitPermit => if s.rssBusy then s else s.shutNow
  | _ => s

/-- The deferral ends; it and its length, in ns, are recorded (R133, log entry 22). -/
def State.endDeferral (s : State) (len : Nat) : State :=
  ((s.disarm .deferral).report 12 2 0 s.hottestC (BitVec.ofNat 64 len)).shutNow

/-- 6 ms of deferral have passed: the write is torn. -/
def State.deferralOver (s : State) : State :=
  if s.phase = .deferring then s.onExpiry .deferral (fun s => (s.endDeferral 6000000).tearWrite) else s

/-- The write of a module that ends its operation is over: a deferred shutdown is taken, the ending that waited for it is
reached (R132, R133). -/
def State.writeOver (s : State) : State :=
  match s.phase with
  | .deferring => s.endDeferral (6000000 - ((s.due .deferral).getD s.clock - s.clock))
  | .ending e => s.endNow e
  | _ => s

/-- The write in progress of the store ends: a commit goes on, or the ending that waited for it (R132, R133). -/
def State.storeDone (s : State) : State :=
  match s.phase with
  | .up => s.writeDone
  | _ => if s.rssBusy then s.finishWrite.writeOver else s

/-- PERSIST_COMPLETE: the persisted commit of context `c` is durable (R125). A write that ends with it was what an ending or
a deferred shutdown waited for (R132, R133). -/
def State.persisted (s : State) (c : Nat) : State :=
  let t := s.persistDone c
  if s.rssBusy && !t.rssBusy then t.writeOver else t

/-! ### Mains power-up and fuses (R106, R108 to R110) -/

/-- The value that two of the three copies of critical word `i` share (R109). -/
def voted (fs : List FuseRead) (i : Nat) : Option Word :=
  match (fs[i]?).map (·.nominal), (fs[16 + i]?).map (·.nominal), (fs[32 + i]?).map (·.nominal) with
  | some a, some b, some c => if a = b ∨ a = c then some a else if b = c then some b else none
  | _, _, _ => none

/-- A word is marginal when its tight and loose reads differ. -/
def FuseRead.marginal (f : FuseRead) : Bool := f.tight != f.loose

/-- The Sill loads the fuse shadows and its registers (R108 to R110). An unresolved seed or trim is a free value (log entry
7); the serial number then reads all ones. -/
def State.readFuses (s : State) (fs : List FuseRead) (temp : Nat) : State :=
  let s := s.each (List.range 16) (fun s i =>
    match voted fs i with
    | some w => { s with fuses := Tbl.insert s.fuses i w }
    | none =>
      let s := s.put FUSE_STATUS.unresolved 0 (s.get FUSE_STATUS.unresolved + 2 ^ i)
      if i = 1 ∨ i = 2 then { s with fuses := Tbl.insert s.fuses i (BitVec.allOnes 64) }
      else
        let (w, s) := s.freeWord
        { s with fuses := Tbl.insert s.fuses i w })
  let s := s.each ((List.range 256).drop 48) (fun s i => { s with fuses := Tbl.insert s.fuses i ((fs[i]?).elim 0 (·.nominal)) })
  let marks := indicesWhere 256 (fun i => (fs[i]?).elim false FuseRead.marginal)
  let s := s.each marks (fun s i => s.setWord .FUSE_MARGINAL (i / 64) (s.word .FUSE_MARGINAL (i / 64) ||| maskBits (i % 64) 1))
  let s := (s.put FUSE_STATUS.boot_temp 0 temp).put FUSE_STATUS.marginal_count 0 marks.length
  (s.setWord .FUSE_SERIAL0 0 (Tbl.get 0 s.fuses 1)).setWord .FUSE_SERIAL1 0 (Tbl.get 0 s.fuses 2)

/-- Words 1 to 8 are resolved (R110). -/
def State.identityGood (s : State) : Bool := getBits (s.word .FUSE_STATUS 0) 1 8 == 0

/-- Mains power-up (R106): DEVTIME starts at 0, the fuses are read, the slot identity is sampled. -/
def State.powerUp (s : State) (fs : List FuseRead) (temp slot : Nat) : State :=
  if s.phase = .off then
    let s := s.dark.modPins (fun d => { d with slotId := slot })
    let s := s.readFuses fs temp
    if s.pins.standby then s.endNow .standby else { s with phase := if s.pins.modReset then .heldReset else .scanning }
  else s

/-! ### Boot scan (R119, R120, R131) -/

/-- Words that a candidate stages: every ret field of each word. -/
def candidateWords (rs : List Run) : Staged := (overlayRuns [] rs).map (fun e => (e.1, (e.2 &&& retMaskAt e.1, retMaskAt e.1)))

/-- A candidate passes the COMMIT checks (R119, R127). -/
def State.passes (s : State) (rs : List Run) : Bool := (firstFailure s (candidateWords rs) none).isNone

/-- What the boot scan finds in the store: the banks by rising preference, the journal of the first. -/
structure Scan where
  first : Option (Nat × Bank)
  other : Option (Nat × Bank)
  journal : Option (Nat × JournalScan)
  deriving DecidableEq, Repr

/-- Reads both banks and the journal of the one with the higher sequence. The spec does not say which of two banks with
equal image_seq comes first, nor which of two journals with the base_seq of the bank (an asked compaction without a new commit
leaves both): the lower-numbered one (log entry 45, DESIGN CHOICE). -/
def scanStore (m : Tbl Byte) : Scan :=
  let a := (rssBank m 0).map (fun b => (0, b))
  let b := (rssBank m 1).map (fun b => (1, b))
  let (x, y) := match a, b with
    | some a, some b => if a.2.seq < b.2.seq then (some b, some a) else (some a, some b)
    | some a, none => (some a, none)
    | none, b => (b, none)
  let j := x.bind (fun x => ((List.range 2).find? (fun j => journalSeq m j == some x.2.seq)).map (fun j =>
    (j, scanJournal m j journalWords 1 x.2.seq)))
  ⟨x, y, j⟩

/-- The factory image of Ridge's flash (R119, R413): a valid bank whose run entries load the factory default of every ret
field, the values that the registers hold before the strobe of a restore, so that its runs leave them all. Nothing writes the
image. Its bytes and its image sequence are those of the flash as made (log entry 71, DEDUCED). -/
def State.factoryBank (s : State) : Bank := ⟨leNat (Tbl.readBytes Config.factoryFlash s.ridge.flash 0x3100008 8), []⟩

/-- The candidates of R119 in order: their number, source, sequence and run entries. -/
def Scan.candidates (c : Scan) (factory : Option Bank) : List (Nat × Candidate) :=
  (match c.first with
    | some (k, b) =>
      (match c.journal with
        | some (_, j) => [(1, ⟨k, j.lastSeq, b.runs ++ j.runs⟩)]
        | none => [(1, ⟨k, b.seq, b.runs⟩)]) ++ [(2, ⟨k, b.seq, b.runs⟩)]
    | none => [])
  ++ (match c.other with
    | some (k, b) => [(3, ⟨k, b.seq, b.runs⟩)]
    | none => [])
  ++ (match factory with
    | some b => [(4, ⟨2, b.seq, b.runs⟩)]
    | none => [])
  ++ [(5, ⟨3, 0, []⟩)]

/-- A bank with an invalid header, while the other bank is valid and newer by image_seq than anything else present: no
journal follows a later image, as one would if a compaction had completed (R120; log entry 46, DEDUCED). -/
def tornCompaction (m : Tbl Byte) : Bool :=
  (List.range 2).any (fun k => bankHeaderBad m k && match rssBank m (1 - k) with
    | some b => (List.range 2).all (fun j => match journalSeq m j with
      | some n => decide (n ≤ b.seq)
      | none => true)
    | none => false)

/-- The boot scan ends: the first candidate that passes is chosen, the last even where it fails; the RSS registers report
it, Plumb loads its image and runs (R106, R119, R120, R131, R450). `factory` tells that the flash can be read (R413). -/
def State.scanDone (s : State) (factory : Bool) : State :=
  if s.phase ≠ .scanning ∨ s.rssBusy then s
  else
    let m := s.rss.bytes
    let c := scanStore m
    let cs := c.candidates (if factory then some s.factoryBank else none)
    let judged := cs.map (fun x => (x, s.passes x.2.runs))
    let (n, chosen) := ((judged.find? (fun x => x.2)).map (fun x => x.1)).getD (5, ⟨3, 0, []⟩)
    let j := c.journal.map (fun x => x.2)
    let invalid (b : Nat) : Bool := (rssBank m b).isNone
    let s := ((s.setWord .RSS_BOOT_STATUS 0 0).put RSS_BOOT_STATUS.source 0 chosen.source).flag RSS_BOOT_STATUS.torn_commit 0 (j.elim false (·.torn))
    let s := ((s.flag RSS_BOOT_STATUS.torn_compaction 0 (tornCompaction m)).flag RSS_BOOT_STATUS.bank0_invalid 0 (invalid 0)).flag RSS_BOOT_STATUS.bank1_invalid 0 (invalid 1)
    let s := (s.flag RSS_BOOT_STATUS.journal_corrupt 0 (j.elim false (·.corrupt))).flag RSS_BOOT_STATUS.fallback 0 (n != 1)
    let s := s.flag RSS_BOOT_STATUS.check_failed 0 ((judged.takeWhile (fun x => !x.2)).length != 0)
    let s := s.put RSS_BOOT_STATUS.records_applied 0 (if n = 1 then j.elim 0 (·.records) else 0)
    let bank := match chosen.source with
      | 0 => 0
      | 1 => 1
      | _ => c.first.elim 0 (·.1)
    let last := j.elim (c.first.elim 0 (·.2.seq)) (·.lastSeq)
    let s := (s.put RSS_IMAGE_SEQ.seq 0 ((rssBank m bank).elim 0 (·.seq))).put RSS_LAST_SEQ.seq 0 last
    let s := (s.put RSS_STATUS.bank 0 bank).put RSS_STATUS.journal 0 (c.journal.elim 0 (·.1))
    let s := s.put RSS_STATUS.journal_used 0 (j.elim 1 (·.used))
    let s := s.modRss (fun r => { r with directNext := n != 1 || c.journal.isNone })
    let t := s.resulting (candidateWords chosen.runs)
    let image := (List.range 256).map (fun k => (t.word .PLUMB_PROG k).truncate 32) ++ (List.range 32).map (fun k => (t.word .PLUMB_THR k).truncate 32)
    let s := s.modPlumb (fun _ => { PlumbDyn.reset with active := image, shadow := image })
    let s := (s.put PLUMB_STATUS.running 0 1).arm .plumb 0
    { s with phase := .awaitPermit, restore := some chosen }

/-! ### Start permit and restore strobe (R106, R119, R122) -/

/-- Plumb, whose first pass has latched the temperatures, gives its start permit: the rails come up, host ports are powered,
Ridge is released (R104, R106). -/
def State.permit (s : State) : State :=
  if s.phase = .awaitPermit ∧ !s.plumb.sensors.isEmpty ∧ !s.pins.dieHot ∧ !s.pins.inletHot then
    let s := { s with phase := .starting }.bump (modCtr 5)
    let s := s.each (List.range 4) (fun s h =>
      if (s.host h).absent then s.setHcrState h 4 else if (s.host h).perst then s.setHcrState h 5 else s.startHcr h)
    let s := (s.flag GLOBAL_STATUS.identity_degraded 0 (!s.identityGood)).flag SEC_STATUS.identity_degraded 0 (!s.identityGood)
    (s.arm .selftest 2000000).arm .watchdog 100000000
  else s

/-- What the module shows of its pins once its registers run. -/
def State.showPins (s : State) : State :=
  s.each (s.ports.filter (fun e => e.2.present)) (fun s e =>
    (s.put JP_STATUS.present e.1 1).put BAY_STATUS.present (bayOf e.1) (s.get BAY_STATUS.present (bayOf e.1) + 2 ^ (e.1 % 4)))

/-- Slots 6 and 7 of the boot measurement (R417). The entries of the factory image are those in Ridge's flash. -/
def State.measureRestore (s : State) (c : Candidate) : State :=
  let flash (o n : Nat) : List Byte := Tbl.readBytes Config.factoryFlash s.ridge.flash (0x3100000 + o) n
  let entries := if c.source = 2 then flash 64 (leNat (flash 16 4)) else c.runs.flatMap Run.bytes
  let fuses := (List.range 9).flatMap (fun i => wordBytes (Tbl.get 0 s.fuses i))
  s.modRidge (fun r => { r with
    meas := Tbl.insert (Tbl.insert r.meas 6 (Config.sha384 (leBytes 1 c.source ++ leBytes 8 c.seq ++ entries)))
      7 (Config.sha384 (fuses ++ leBytes 1 (b2n (!s.identityGood)))) })

/-- Entries that start-up leaves in the fault history: the hard trip that the latch kept, a torn commit, a restore from the
factory values (R120, R122, R393). -/
def State.bootEvents (s : State) : State :=
  let s := if s.pins.tripLatch then (s.report 12 3 0 125).modPins (fun d => { d with tripLatch := false }) else s
  let s := if s.on RSS_BOOT_STATUS.torn_commit then s.report 13 1 0 0 else s
  if 2 ≤ s.get RSS_BOOT_STATUS.source then s.report 13 2 0 (s.word .RSS_BOOT_STATUS 0) else s

/-- The restore strobe (R106, R107, R119, R121, R122). -/
def State.applyRestore (s : State) : State :=
  match s.phase, s.restore with
  | .starting, some c =>
    let s := { s.resulting (candidateWords c.runs) with phase := .up, restore := none }
    let s := s.flag GLOBAL_STATUS.compat_view_active 0 (s.on GLOBAL_CTRL.compat_view)
    let s := (s.showPins.fillSlots (fun _ => true)).measureRestore c
    let s := s.each (indicesWhere 96 (fun p => s.lead p == p && s.portEnabled p)) State.enterReset
    let s := s.rebuildPlank.bootEvents
    if !s.rss.directNext && decide (journalWords < s.get RSS_STATUS.journal_used + maxRecordWords) then s.compactFull else s
  | _, _ => s

end Sys2Proof.Machine
end

