-- ==== Sys2Proof/Machine/Scribe.lean ====
section
/-! DEFINITION. The scribe: triggers, captures, holds and releases (R97, R459 to R461, R465). -/

namespace Sys2Proof.Machine

/-- Counter `o` lies in another clock domain than CCLK (R456, R457): lanes, host ports, and the SCLK counters of the module. -/
def laterDomain (o : Nat) : Bool :=
  decide (0x88000 ≤ o ∧ o < 0x90000) || decide (0x91000 ≤ o ∧ o < 0x92000) || decide (0x94010 ≤ o ∧ o < 0x94048)

/-- Region whose clocks a counter's domain follows: lanes their bay, host ports their controller, SCLK the Sill (R97, R456). -/
def captureRegion (o : Nat) : Nat :=
  if 0x88000 ≤ o ∧ o < 0x90000 then ctrRegion o
  else if 0x91000 ≤ o ∧ o < 0x92000 then 35 + (o - 0x91000) / 0x40
  else 44

/-- A bank in which the counters that satisfy `p` take their live values. -/
def copyCtrs (p : Nat → Bool) (live bank : Tbl Word) : Tbl Word :=
  (live.filter (fun e => p e.1)).foldl (fun t e => Tbl.set 0 t e.1 e.2) (bank.filter (fun e => !p e.1))

/-! ### Counters of time (R457) -/

/-- Cycles for which an engine has been bound, and waited on its limiter, since they were counted last. -/
def State.boundCycles (s : State) (e : Nat) : Nat := if (s.eng e).q.isSome then cclkOf (s.clock - (s.eng e).boundAt) else 0
def State.paceCycles (s : State) (e : Nat) : Nat := ((s.eng e).paceFrom.map (fun t => cclkOf (s.clock - t))).getD 0

/-- What the counters of time have gained since they were brought up to date: JL_PRBS_BITS, TE_BUSY_CYC and TE_PACE_CYC. -/
def State.gained (s : State) : List (Nat × Nat) :=
  (s.lanes.map (fun x => (laneCtr x.1 8, s.prbsBits x.1))) ++ (s.engines.map (fun x => (engCtr x.1 3, s.boundCycles x.1)))
    ++ (s.engines.map (fun x => (engCtr x.1 4, s.paceCycles x.1)))

/-- What counter `o` has gained. -/
def State.gain (s : State) (o : Nat) : Word := BitVec.ofNat 64 (((s.gained.filter (fun x => x.1 == o)).map (fun x => x.2)).foldl (· + ·) 0)

/-- A live counter, brought up to date; and a write of it (R32, R455). -/
def State.liveCtr (s : State) (o : Nat) : Word := s.ctr o + s.gain o
def State.presetCtr (s : State) (o : Nat) (w : Word) : State := s.setCtr o (w - s.gain o)

/-- Every counter, brought up to date. -/
def State.liveCtrs (s : State) : Tbl Word :=
  s.gained.foldl (fun t x => if x.2 = 0 then t else Tbl.set 0 t x.1 (Tbl.get 0 t x.1 + BitVec.ofNat 64 x.2)) s.ctrs

/-- State of bank `b` (0 A, 1 B), and its holder. -/
def State.bankState (s : State) (b : Nat) : Nat := if b = 0 then s.get SCRIBE_STATUS.a_state else s.get SCRIBE_STATUS.b_state
def State.setBank (s : State) (b st holder : Nat) : State :=
  if b = 0 then (s.put SCRIBE_STATUS.a_state 0 st).put SCRIBE_STATUS.a_holder 0 holder
  else (s.put SCRIBE_STATUS.b_state 0 st).put SCRIBE_STATUS.b_holder 0 holder
def State.bankHolder (s : State) (b : Nat) : Nat := if b = 0 then s.get SCRIBE_STATUS.a_holder else s.get SCRIBE_STATUS.b_holder

/-- State in which bank `b` takes counters. -/
def State.copyBank (s : State) (b : Nat) (p : Nat → Bool) : State :=
  if b = 0 then { s with bankA := copyCtrs p s.liveCtrs s.bankA } else { s with bankB := copyCtrs p s.liveCtrs s.bankB }

/-- Skew bound of the slowest lane that receives, in ns (R460). -/
def State.laneSkew (s : State) : Nat :=
  let ls := indicesWhere 192 (fun l => s.on JL_STATUS.cdr_lock l && s.bayState (bayOf (lanePort l)) == 0)
  ls.foldl (fun m l => max m ([30, 15, 8].getD (min 2 (s.get JP_CFG.rate (s.lead (lanePort l)))) 8)) 0

/-- The bank that a capture takes: neither capturing nor held, the older of two, A where they are equal (R459). -/
def State.targetBank (s : State) : Option Nat :=
  let free (b : Nat) : Bool := s.bankState b == 0 || s.bankState b == 2
  match free 0, free 1 with
  | true, true => some (if s.get SCRIBE_SEQ.seq 0 ≤ s.get SCRIBE_SEQ.seq 1 then 0 else 1)
  | true, false => some 0
  | false, true => some 1
  | false, false => none

/-- Who holds after two requests to hold one capture: Ridge when it is among them (R465). -/
def mergeHolder (old new : Option Nat) : Option Nat :=
  match old, new with
  | none, h => h
  | some h, none => some h
  | some h, some g => if g = 5 then some 5 else some h

/-- A trigger from a source (1 PF write, 2 Ridge, 3 timer, 4 Plumb), with the caller that holds the bank (R459, R460). -/
def State.trigger (s : State) (source : Nat) (holder : Option Nat) : State :=
  match s.scribe.capturing with
  | some b =>
    let s := (s.bump (modCtr 15)).put SCRIBE_INFO.merged b (min 255 (s.get SCRIBE_INFO.merged b + 1))
    { s with scribe := { s.scribe with holdAfter := mergeHolder s.scribe.holdAfter (if source ≤ 2 then holder else none) } }
  | none =>
    match s.targetBank with
    | none => (s.bump (modCtr 14)).put SCRIBE_STATUS.missed 0 1
    | some b =>
      let n := max (s.get SCRIBE_SEQ.seq 0) (s.get SCRIBE_SEQ.seq 1) + 1
      let gated := (List.range 44).filter (fun r => s.region r != 0)
      let s := (s.copyBank b (fun o => !laterDomain o || gated.contains (captureRegion o))).bump (modCtr 13)
      let s := ((s.put SCRIBE_SEQ.seq b n).put SCRIBE_TIME.devtime b s.devtime).setBank b 1 0
      let s := (s.put SCRIBE_STATUS.last_bank 0 b).put SCRIBE_STATUS.last_seq 0 n
      let s := (s.setWord .SCRIBE_INFO b 0).put SCRIBE_INFO.source b source
      let s := s.put SCRIBE_INFO.host_ns b (if (List.range 4).any (fun h => s.hcrState h == 0) then 12 else 0)
      let s := (s.put SCRIBE_INFO.lane_ns b s.laneSkew).put SCRIBE_INFO.sclk_ns b 383
      { s with scribe := ⟨some b, holder, gated⟩ }

/-- The last clock domain has captured (R460); a region that did not run at the edge had its values taken then (R97). -/
def State.captured (s : State) : State :=
  match s.scribe.capturing with
  | none => s
  | some b =>
    let s := (s.copyBank b (fun o => laterDomain o && !s.scribe.stopped.contains (captureRegion o))).put SCRIBE_INFO.complete b 1
    let s := match s.scribe.holdAfter with
      | some h => s.setBank b 3 h
      | none => s.setBank b 2 0
    { s with scribe := ⟨none, none, []⟩ }

/-- hold_a and hold_b (R461). -/
def State.holdBank (s : State) (b holder : Nat) : State :=
  if s.bankState b = 2 then s.setBank b 3 holder
  else if s.scribe.capturing = some b then
    { s with scribe := { s.scribe with holdAfter := mergeHolder s.scribe.holdAfter (some holder) } }
  else s

/-- release_a and release_b (R461). -/
def State.releaseBank (s : State) (b : Nat) : State := if s.bankState b = 3 then s.setBank b 2 0 else s

/-- The holds of a holder end (R461). -/
def State.endHolds (s : State) (holder : Nat) : State :=
  let s := s.each [0, 1] (fun s b => if s.bankState b = 3 ∧ s.bankHolder b = holder then s.setBank b 2 0 else s)
  if s.scribe.holdAfter = some holder then { s with scribe := { s.scribe with holdAfter := none } } else s

/-- Holder of a capture that the timer or Plumb starts (R461). -/
def State.autoHolder (s : State) : Option Nat := if s.on SCRIBE_CTRL.auto_hold then some 6 else none

/-- The period timer runs anew from a write of period_ms (R459). -/
def State.startPeriod (s : State) : State :=
  let t := s.get SCRIBE_CTRL.period_ms
  if t = 0 then s.disarm .scribe else s.arm .scribe (t * 1000000)

/-- The period timer triggers a scribe. -/
def State.periodTrigger (s : State) : State := s.onExpiry .scribe (fun s => s.startPeriod.trigger 3 s.autoHolder)

/-- A Plumb SCRIBE action. -/
def State.plumbTrigger (s : State) : State := s.trigger 4 s.autoHolder

end Sys2Proof.Machine
end

