-- ==== Sys2Proof/Machine/PlumbOps.lean ====
section
/-! DEFINITION. Plumb: its inputs, working registers and cells, the effect of each instruction, passes and the actions
that take effect at their end (R102, R103, R439 to R451, R453). -/

namespace Sys2Proof.Machine

/-! ### Working registers, cells and inputs -/

/-- Working register `i` and cell `i`. -/
def PlumbDyn.w (p : PlumbDyn) (i : Nat) : Dword := Tbl.get 0 p.work i
def PlumbDyn.setW (p : PlumbDyn) (i : Nat) (v : Dword) : PlumbDyn := { p with work := Tbl.set 0 p.work i v }
def PlumbDyn.cell (p : PlumbDyn) (i : Nat) : Dword := Tbl.get 0 p.cells i

/-- A cell takes a value; a rise of its bit 31 in the pass is noted (R443). -/
def PlumbDyn.setCell (p : PlumbDyn) (i : Nat) (v : Dword) : PlumbDyn :=
  { p with
    cells := Tbl.set 0 p.cells i v
    rose := if !(p.cell i).getLsbD 31 && v.getLsbD 31 then insertNat i p.rose else p.rose }

/-- Input `n` with index `x` as latched (R439, R440). -/
def PlumbDyn.input (p : PlumbDyn) (n x : Nat) : Dword :=
  if n < 54 then p.sensors.getD n 0
  else if n < 60 then p.groups.getD (n - 54) 0
  else if n = 60 then p.bays.getD x 0
  else if n = 61 then p.slices.getD x 0
  else if n = 62 then BitVec.ofNat 32 (p.states.getD x 0)
  else p.status

/-- The larger, the smaller and the middle of signed values. -/
def maxS (a b : Dword) : Dword := if a.toInt < b.toInt then b else a
def minS (a b : Dword) : Dword := if b.toInt < a.toInt then b else a
def medS (a b c : Dword) : Dword := maxS (minS a b) (minS (maxS a b) c)

/-! ### Arithmetic instructions (R443) -/

def PlumbDyn.sample (p : PlumbDyn) (d n x : Nat) : PlumbDyn := p.setW d (p.input n x)
def PlumbDyn.smax (p : PlumbDyn) (d n m1 : Nat) : PlumbDyn :=
  p.setW d ((List.range m1).foldl (fun m k => maxS m (p.input (n + k + 1) 0)) (p.input n 0))
def PlumbDyn.ldi (p : PlumbDyn) (d : Nat) (imm : BitVec 22) : PlumbDyn := p.setW d (imm.signExtend 32)
def PlumbDyn.ldt (p : PlumbDyn) (d k : Nat) : PlumbDyn := p.setW d (p.active.getD (256 + k) 0)
def PlumbDyn.add (p : PlumbDyn) (d a b : Nat) : PlumbDyn := p.setW d (p.w a + p.w b)
def PlumbDyn.sub (p : PlumbDyn) (d a b : Nat) : PlumbDyn := p.setW d (p.w a - p.w b)
def PlumbDyn.mulq (p : PlumbDyn) (d a b : Nat) : PlumbDyn :=
  p.setW d (((p.w a).signExtend 64 * (p.w b).signExtend 64).extractLsb' 16 32)
def PlumbDyn.min (p : PlumbDyn) (d a b : Nat) : PlumbDyn := p.setW d (minS (p.w a) (p.w b))
def PlumbDyn.max (p : PlumbDyn) (d a b : Nat) : PlumbDyn := p.setW d (maxS (p.w a) (p.w b))

/-- IIR: Fc := Fc + ((Wa - Fc) arithmetic shift right k). -/
def PlumbDyn.iir (p : PlumbDyn) (d a c k : Nat) : PlumbDyn :=
  let v := p.cell c + (p.w a - p.cell c).sshiftRight k
  (p.setCell c v).setW d v

/-- MED3: the median of Wa, Fc and Fc+1, then the cells shift. -/
def PlumbDyn.med3 (p : PlumbDyn) (d a c : Nat) : PlumbDyn :=
  let v := medS (p.w a) (p.cell c) (p.cell (c + 1))
  let x := p.w a
  ((p.setCell (c + 1) (p.cell c)).setCell c x).setW d v

/-- Compare with hysteresis and dwell (R444): flag in bit 31, changed in bit 30, timer in us below, saturating. -/
def PlumbDyn.compare (p : PlumbDyn) (c setDwell clearDwell : Nat) (set clear : Bool) : PlumbDyn :=
  let v := p.cell c
  let flag := v.getLsbD 31
  let timer := v.toNat % 2 ^ 30
  let holds := if flag then clear else set
  let dwell := 200 * (if flag then clearDwell else setDwell)
  let t := Nat.min (2 ^ 30 - 1) (timer + p.period)
  p.setCell c (BitVec.ofNat 32 (
    if !holds then b2n flag * 2 ^ 31
    else if dwell ≤ t then b2n (!flag) * 2 ^ 31 + 2 ^ 30
    else b2n flag * 2 ^ 31 + t))

def PlumbDyn.cmpge (p : PlumbDyn) (a b c sd cd : Nat) : PlumbDyn :=
  p.compare c sd cd (decide ((p.w b).toInt ≤ (p.w a).toInt)) (decide ((p.w a).toInt < (p.w (b + 1)).toInt))
def PlumbDyn.cmple (p : PlumbDyn) (a b c sd cd : Nat) : PlumbDyn :=
  p.compare c sd cd (decide ((p.w a).toInt ≤ (p.w b).toInt)) (decide ((p.w (b + 1)).toInt < (p.w a).toInt))

/-! ### Actions and stores (R443, R445, R448) -/

/-- The condition that mode selects holds. -/
def PlumbDyn.when (p : PlumbDyn) (c mode : Nat) : Bool :=
  match mode with
  | 0 => true
  | 1 => (p.cell c).getLsbD 31
  | 2 => !(p.cell c).getLsbD 31
  | _ => p.rose.contains c

/-- THROTTLE: the highest step wins, with the causes of the actions that asked for it (R442). -/
def PlumbDyn.throttle (p : PlumbDyn) (step : Nat) (power flow : Bool) : PlumbDyn :=
  if p.step < step then { p with step := step, causePower := power, causeFlow := flow }
  else if p.step = step then { p with causePower := p.causePower || power, causeFlow := p.causeFlow || flow }
  else p

/-- Committed image word `k` in STORE's numbering. -/
def State.committedWord (s : State) (k : Nat) : Dword :=
  if k < 256 then (s.word .PLUMB_PROG k).truncate 32 else (s.word .PLUMB_THR (k - 256)).truncate 32

/-- Both images equal the committed words. -/
def State.imagesCommitted (s : State) : Bool :=
  (List.range 288).all (fun k => s.plumb.active.getD k 0 == s.committedWord k && s.plumb.shadow.getD k 0 == s.committedWord k)

/-- PLUMB_STATUS.stored clears once both images equal the committed words again (R454). -/
def State.judgeStored (s : State) : State :=
  if s.on PLUMB_STATUS.stored && s.imagesCommitted then s.put PLUMB_STATUS.stored 0 0 else s

/-- STORE into shadow word `k`; a word that a commit wrote in this pass keeps the committed value (R448). -/
def State.storeWord (s : State) (k : Nat) (v : Dword) : State :=
  if s.plumb.committed.contains k then s
  else
    let s := s.modPlumb (fun p => { p with shadow := p.shadow.set k v })
    if v = s.committedWord k then s.judgeStored else s.put PLUMB_STATUS.stored 0 1

/-! ### One instruction (R441, R446) -/

/-- Plumb runs (R450). -/
def State.plumbRuns (s : State) : Bool := s.on PLUMB_STATUS.running

/-- A pass opens with nothing collected; its period is that of PLUMB_CTRL now (R441, R454). -/
def State.openPass (s : State) : State :=
  s.modPlumb (fun p => { p with
    inPass := true, ended := false, step := 0, causePower := false, causeFlow := false, wakes := [], sleeps := [], kept := []
    raises := [], scribe := false, shutdown := false, swap := false, count := 0, rose := [], committed := []
    period := clampNat 40 100000 (s.get PLUMB_CTRL.period_us) })

/-- Counts an instruction. -/
def State.countInstr (s : State) : State :=
  s.modPlumb (fun p => { p with count := p.count + 1, ended := p.ended || decide (256 ≤ p.count + 1) })

/-- An instruction of Plumb executes: in the pass in progress, or, outside a pass, in one of its own on the inputs latched
last. After the end of the program nothing executes before the next pass (log entry 12). -/
def State.plumbStep (s : State) (g : State → State) : State :=
  if !s.plumbRuns || (s.plumb.inPass && s.plumb.ended) then s
  else g (if s.plumb.inPass then s else s.openPass).countInstr

/-- An instruction that acts on Plumb's own data, when its encoding is defined (R446). -/
def State.plumbExec (s : State) (legal : Bool) (g : PlumbDyn → PlumbDyn) : State :=
  s.plumbStep (fun s => if legal then s.modPlumb g else s.bump (modCtr 4))

/-- HALT ends the pass's instructions. -/
def State.plumbHalt (s : State) : State := s.plumbStep (fun s => s.modPlumb (fun p => { p with ended := true }))

/-- STORE (R448). -/
def State.plumbStore (s : State) (legal : Bool) (c mode k a : Nat) : State :=
  s.plumbStep (fun s =>
    if !legal then s.bump (modCtr 4)
    else if s.plumb.when c mode then s.storeWord k (s.plumb.w a) else s)

/-- The instruction in a slot (R443). Only instructions of Plumb are decoded from an image. -/
def State.plumbInstr (s : State) (i : Instr) : State :=
  match i with
  | .halt => s.plumbHalt
  | .sample d n x => s.plumbExec true (·.sample d n x)
  | .smax d n m => s.plumbExec true (·.smax d n m)
  | .ldi d imm => s.plumbExec true (·.ldi d imm)
  | .ldt d k => s.plumbExec true (·.ldt d k)
  | .add d a b => s.plumbExec true (·.add d a b)
  | .sub d a b => s.plumbExec true (·.sub d a b)
  | .mulq d a b => s.plumbExec true (·.mulq d a b)
  | .min d a b => s.plumbExec true (·.min d a b)
  | .max d a b => s.plumbExec true (·.max d a b)
  | .iir d a c k => s.plumbExec true (·.iir d a c k)
  | .med3 d a c => s.plumbExec true (·.med3 d a c)
  | .cmpge a b c sd cd => s.plumbExec true (·.cmpge a b c sd cd)
  | .cmple a b c sd cd => s.plumbExec true (·.cmple a b c sd cd)
  | .store c m k a => s.plumbStore true c m k a
  | .actThrottle c m n x y => s.plumbExec true (fun p => if p.when c m then p.throttle n x y else p)
  | .actWake c m r => s.plumbExec true (fun p => if p.when c m then { p with wakes := insertNat r p.wakes } else p)
  | .actSleep c m r => s.plumbExec true (fun p => if p.when c m then { p with sleeps := insertNat r p.sleeps } else p)
  | .actRaise c m code a => s.plumbExec true (fun p =>
      if p.when c m then { p with raises := p.raises ++ [(code.val, ((p.w a).sshiftRight 4).signExtend 64)] } else p)
  | .actScribe c m => s.plumbExec true (fun p => if p.when c m then { p with scribe := true } else p)
  | .actShutdown c m => s.plumbExec true (fun p => if p.when c m then { p with shutdown := true } else p)
  | .actSwap c m => s.plumbExec true (fun p => if p.when c m then { p with swap := true } else p)
  | _ => s.plumbExec true id

/-- Slots `k`, `k + 1`, … of the active image up to HALT or slot 255; an undefined word is a NOP and is counted (R441,
R446). -/
def State.runSlots (s : State) : Nat → Nat → State
  | 0, _ => s
  | fuel + 1, k =>
    if s.plumb.ended then s
    else
      let s := match plumbDecode (s.plumb.active.getD k 0).toNat with
        | some i => s.plumbInstr i
        | none => s.plumbExec false id
      s.runSlots fuel (k + 1)

/-! ### The end of a pass (R442) -/

/-- Traffic of Truss slice `t` that waits or is in flight: of its host port, its bays, its engine attachments and its control
port (R10 to R12, R25, R89, R90). -/
def State.sliceTraffic (s : State) (t : Nat) : Bool :=
  s.hosts.any (fun h => h.2.waiting.any (fun r => r.slices.contains t) || h.2.tags.any (fun x => !x.2.held && x.2.req.slices.contains t))
    || s.ports.any (fun p => p.2.egress.any (fun e => (e.slices p.1).contains t) || (sliceOf p.1 == t && !p.2.ingress.isEmpty)
      || p.2.reads.any (fun r => fnPort r.fn == t || sliceOf p.1 == t) || p.2.dtags.any (fun _ => sliceOf p.1 == t))
    || s.engines.any (fun e => engSlice e.1 == t && !(e.2.reads.isEmpty && e.2.buf.isEmpty))
    || s.queues.any (fun q => !s.on Q_STATE.cq_wait q.1 && (s.dueEntry q.1).isSome && (t == 0 || fnPort (s.qOwner q.1) == t))
    || s.freed.any (fun m => t == 1 || fnPort m.f == t)
    || s.vecs.any (fun v => t == 1 || fnPort (s.get Q_CFG.owner v.q) == t)
    || s.pendingPegs.any (fun i => s.pegDeliverable i && (t == 1 || fnPort (s.get PEG_SRC_CTRL.owner i) == t))

/-- The region meets its entry condition for the state that SLEEP brings (R25, R89). -/
def State.maySleep (s : State) (r : Nat) : Bool :=
  if r < 24 then
    let ps := (List.range 4).map (fun j => 4 * r + j)
    s.bayState r == 0 && (s.deviceless r || ps.all (fun p => s.get JP_STATUS.link_state (s.lead p) == 4)) && ps.all (fun p =>
      let d := s.port p
      d.replay.isEmpty && d.ltags.isEmpty && d.dtags.isEmpty && d.egress.isEmpty && !d.waking) && !s.bayTagged r
  else if r < 30 then
    let g := r - 24
    decide (s.region r ≤ 1) && (List.range 8).all (fun k => (s.eng (8 * g + k)).q.isNone && !(s.eng (8 * g + k)).draining)
      && s.queues.all (fun e => s.get Q_CFG.eg e.1 != g || e.2.fetchAt == s.get Q_SQ_IDX.sq_tail e.1)
      && (s.listed .Q_SQ_IDX).all (fun q => s.get Q_CFG.eg q != g || (s.queue q).fetchAt == s.get Q_SQ_IDX.sq_tail q)
  else if r < 34 then
    let t := r - 30
    decide (s.region r ≤ 1) && (s.hostGone t || !s.linkUp t || decide (2 ≤ s.get HP_LINK_STATUS.pm_state t))
      && (List.range 6).all (fun k => s.bayState (6 * t + k) == 3) && !s.sliceTraffic t
  else false

/-- A SLEEP request on the edge that ends the pass; a wake in progress, an access or commit that waits for the region, and a
hold by WAKE beat it (R26, R96, R451). -/
def State.sleepNow (s : State) (r : Nat) : State :=
  if s.isUp && s.maySleep r && !s.wanted r && !s.waking.contains r && (find1 r s.plumb.held).isNone then
    if r < 24 then s.sleepBay r else s.setRegion r 2
  else s

/-- The throttle step takes effect; a rise is a notice with the hottest die as locator (R103, R442, R449). -/
def State.setThrottle (s : State) : State :=
  let p := s.plumb
  let old := s.get PWR_THROTTLE.step
  let s := ((s.put PWR_THROTTLE.step 0 p.step).flag PWR_THROTTLE.cause_power 0 p.causePower).flag PWR_THROTTLE.cause_flow 0 p.causeFlow
  if old < p.step then s.report 12 0 0 s.hottestC else s

/-- WAKE and SLEEP requests of the pass. A WAKE of HCRh starts the L1 exit of its link, whose state the region follows (R89). WAKE wins
over SLEEP of the same region (R451), and so does a wake trigger that came after the SLEEP was asked for (R26). -/
def State.moveRegions (s : State) : State :=
  let p := s.plumb
  let s := s.modPlumb (fun p => { p with held := p.held.filter (fun e => e.2 != 0) })
  let s := s.each p.wakes (fun s r =>
    let s := if !s.isUp then s else if 35 ≤ r ∧ r ≤ 38 then s.leaveL1 (r - 35) else s.wakeRegion r
    s.modPlumb (fun p => { p with held := put1 r 1 p.held }))
  let s := s.each (p.sleeps.filter (fun r => !p.wakes.contains r && !p.kept.contains r)) State.sleepNow
  s.modPlumb (fun d => { d with held := d.held.map (fun e => if p.wakes.contains e.1 then e else (e.1, 0)) })

/-- The images exchange roles, and the new shadow takes the new active image (R447). -/
def State.swapImages (s : State) : State :=
  let s := s.modPlumb (fun p => { p with active := p.shadow })
  ((s.put PLUMB_STATUS.swap_pending 0 0).bump (modCtr 3)).judgeStored

/-- What PLUMB_ACT, PLUMB_W and PLUMB_CELL show after the pass (R454). -/
def State.showPass (s : State) : State :=
  let p := s.plumb
  let s := ((s.put PLUMB_ACT.step_req 0 p.step).flag PLUMB_ACT.cause_power 0 p.causePower).flag PLUMB_ACT.cause_flow 0 p.causeFlow
  let s := ((s.flag PLUMB_ACT.shutdown 0 p.shutdown).flag PLUMB_ACT.scribe 0 p.scribe).flag PLUMB_ACT.swap 0 p.swap
  let s := (s.flag PLUMB_ACT.wake 0 (!p.wakes.isEmpty)).flag PLUMB_ACT.sleep 0 (!p.sleeps.isEmpty)
  let s := s.each (List.range 16) (fun s i => s.setWord .PLUMB_W i ((p.w i).zeroExtend 64))
  let s := s.each (List.range 64) (fun s i => s.setWord .PLUMB_CELL i ((p.cell i).zeroExtend 64))
  (s.put PLUMB_STATUS.executed 0 p.count).put PLUMB_STATUS.passes 0 (s.get PLUMB_STATUS.passes + 1)

/-- The collected actions take effect together, in order (R442). In standby and after a shutdown the pins keep their levels
and the regions stay off (R99, R450). -/
def State.endPass (s : State) : State :=
  if !s.plumb.inPass then s
  else
    let p := s.plumb
    let runs := s.isUp || decide (s.phase = .starting) || decide (s.phase = .deferring)
    let s := s.showPass.bump (modCtr 2)
    let s := if runs then s.setThrottle else s
    let s := if s.isUp then s.moveRegions else s
    let s := if runs then s.each p.raises (fun s r => s.report 12 r.1 0 r.2) else s
    let s := if runs && p.scribe then s.plumbTrigger else s
    let s := s.flag PLUMB_STATUS.swap_pending 0 (s.on PLUMB_STATUS.swap_pending || p.swap)
    let s := if s.on PLUMB_STATUS.swap_pending then s.swapImages else s
    let s := s.modPlumb (fun p => { p with inPass := false, committed := [] })
    let now := clampNat 40 100000 (s.get PLUMB_CTRL.period_us)
    let s := if now = p.period then s else s.arm .plumb (now * 1000)
    let s := if 3 ≤ p.hot then s.put PLUMB_STATUS.backstop 0 1 else s
    if p.shutdown || decide (3 ≤ p.hot) then s.askShutdown else s

/-! ### The start of a pass (R439 to R441, R449) -/

/-- Status input 63. -/
def State.statusInput (s : State) : Dword :=
  BitVec.ofNat 32 (s.get PWR_THROTTLE.step + 8 * b2n s.rssBusy
    + 16 * b2n (s.pins.shutdownPending || decide (s.phase = .deferring)) + 32 * b2n (s.on GLOBAL_STATUS.ridge_down)
    + 64 * b2n (decide (s.phase = .ending .mainsOff)))

/-- Inputs are latched; the backstop counts, and the fixed comparisons of the pins are made (R449). -/
def State.latch (s : State) (x : PlumbInputs) : State :=
  let states := (List.range 39).map s.region
  let status := s.statusInput
  let hot := (x.sensors.take 24).any (fun t => decide ((s.get PLUMB_SHUT.temp : Int) ≤ t.toInt))
  let s := s.modPlumb (fun p => { p with
    sensors := x.sensors, groups := x.groups, bays := x.bays, slices := x.slices, states := states, status := status
    hot := if hot then p.hot + 1 else 0 })
  if s.phase = .standby ∨ s.phase = .ending .standby then s
  else s.modPins (fun d => { d with
    inletHot := decide (720 < (x.sensors.getD 52 0).toInt)
    dieHot := (x.sensors.take 24).any (fun t => decide (1440 ≤ t.toInt)) })

/-- A pass starts when its period is due (R441): a pass that has not ended ends first. -/
def State.startPass (s : State) (x : PlumbInputs) : State :=
  if !s.plumbRuns then s
  else s.onExpiry .plumb (fun s =>
    let s := (s.endPass.latch x).openPass
    (s.arm .plumb (s.plumb.period * 1000)).runSlots 256 0)

end Sys2Proof.Machine
end

