-- ==== Sys2Proof/Machine/Recovery.lean ====
section
/-! DEFINITION. Containment of fault events, the recovery sequences, Trestle and Ridge restarts, the Ledger scrub (R222,
R393 to R405, R411, R412, R426, R429, R432, R434). -/

namespace Sys2Proof.Machine

/-! ### Resets of a host port, with what they end elsewhere -/

/-- SPDM on PFh's DOE ends (R419, R424). -/
def State.endDoe (s : State) (h : Nat) : State :=
  s.modRidge (fun r => { r with
    sessions := r.sessions.filter (fun x => x.overDoe != some h), conns := r.conns.filter (fun x => x.doe != some h) })

/-- What a reset of PFh's scope ends beyond the port: its transaction, its scribe holds, its sessions (R126, R424, R461). -/
def State.endScope (s : State) (h : Nat) : State := ((s.resetContext h).endHolds (h + 1)).endDoe h

/-- The link of port `h` goes down, or receives a hot reset (R34, R161). -/
def State.hostDown (s : State) (h : Nat) : State :=
  if s.linkUp h then (s.linkLost h).endScope h else s

/-! ### Trestle (R404, R405, R411, R434) -/

/-- Flash offset of firmware slot `k`, and the size of a slot. -/
def slotBase (k : Nat) : Nat := if k = 0 then 0x0100000 else 0x1900000
def slotSize : Nat := 24 * 2 ^ 20

/-- Firmware slot that holds a flash offset. -/
def slotOf (a : Nat) : Option Nat := [0, 1].find? (fun k => decide (slotBase k ≤ a ∧ a < slotBase k + slotSize))


/-- A firmware command of an open update is in progress at a mailbox: what it leaves in the inactive slot is undefined (R436). -/
def State.spoilSlot (s : State) : State :=
  match s.ridge.update with
  | some u =>
    if (List.range 4).any (fun h => u.caller == h && s.get MB_STATUS.state h == 1 && [0x10, 0x11, 0x12].contains (s.get MB_CMD.opcode h)) then
      s.freeWord.2.modRidge (fun r => { r with
        spoiled := put1 u.slot s.freeCtr r.spoiled, flash := r.flash.filter (fun e => slotOf e.1 != some u.slot) })
    else s
  | none => s

/-- Ridge goes into reset: every session and command is lost, an open update closes, the endpoint ID is forgotten (R424,
R426, R429, R436). -/
def State.ridgeOff (s : State) : State :=
  let s := ((s.spoilSlot.put PWR_STATE_MISC.ridge 0 5).disarm .watchdog).disarm .selftest
  let s := s.modRidge (fun r => { r with
    running := false, update := none, sessions := [], conns := [], mailbox := [], eid := 0, drbg := 0, activating := none })
  s.each (List.range 4) (fun s h =>
    ((s.setWord .MB_STATUS h (setBits (s.word .MB_STATUS h &&& maskBits 31 1) 0 2 3)).put MB_CTRL.go h 0).put MB_CTRL.abort h 0)

/-- Configuration freezes and open transactions roll back with FROZEN; the sequence that Ridge ran starts again later (R402,
R404). -/
def State.freeze (s : State) : State :=
  let s := ((s.put GLOBAL_STATUS.cfg_frozen 0 1).put GLOBAL_STATUS.ridge_down 0 1).rollBackAll 3
  match s.brace.queue with
  | (d, true) :: rest => (s.put BRACE_DSTATE.state d 1).modBrace (fun b => { b with queue := (d, false) :: rest })
  | _ => s

/-- Ridge is held in reset; its release is due 10 µs later. -/
def State.holdRidge (s : State) : State :=
  ((((s.ridgeOff.freeze).disarm .restartCount).put BRACE_TRESTLE.restarting 0 0).arm .restart 10000)

/-- Degraded mode (R405). -/
def State.degrade (s : State) : State :=
  if s.on GLOBAL_STATUS.degraded then s
  else
    let s := (((s.ridgeOff.freeze).disarm .restartCount).disarm .restart).put BRACE_TRESTLE.restarting 0 0
    let s := s.put GLOBAL_STATUS.degraded 0 1
    let s := s.modBrace (fun b => { b with levels := insertLevel (11, 5) b.levels })
    (s.report 11 5 0 0).put BRACE_DSTATE.state 130 0
where
  /-- A level condition begins. -/
  insertLevel (x : Nat × Nat) (xs : List (Nat × Nat)) : List (Nat × Nat) := if xs.contains x then xs else xs ++ [x]

/-- A restart attempt is running, or one has been made within the last 60 s: the next failure is the next attempt's. -/
def State.attempting (s : State) : Bool := s.on BRACE_TRESTLE.restarting || s.armed .restartCount

/-- A Ridge failure with a code and a cause (R404): 1 lockstep, 2 checker lost, 3 watchdog, 4 flash, 5 rail. -/
def State.ridgeFails (s : State) (n c cause : Nat) (locator : Word) : State :=
  if !s.portsPowered || s.on GLOBAL_STATUS.degraded || (s.get PWR_STATE_MISC.ridge == 5 && s.armed .restart && !s.ridge.planned) then
    (if s.portsPowered then s.reportIn n c 6 0 [] locator 0 else s)
  else
    let running := s.on BRACE_TRESTLE.restarting && !s.ridge.planned
    let again := s.attempting && !s.ridge.planned
    let s := (s.reportIn n c 6 0 [] locator 0).put BRACE_TRESTLE.cause 0 cause
    let s := if running then s.report 11 4 0 (BitVec.ofNat 64 (s.get BRACE_TRESTLE.restarts)) else s
    let s := s.modRidge (fun r => { r with planned := false })
    if again ∧ s.get BRACE_TRESTLE.restarts = 3 then s.degrade
    else (if again then s else s.put BRACE_TRESTLE.restarts 0 0).holdRidge

/-- RIDGE_RESTART: a planned restart, which is no failure (R434). -/
def State.plannedRestart (s : State) : State := (s.modRidge (fun r => { r with planned := true })).holdRidge

/-- Registers and slots that each Ridge reset returns to their reset values (R418, R437); failure latches of RIDGE_LS stay
until firmware confirms the restart. -/
def State.ridgeRegs (s : State) : State :=
  let s := (s.put RIDGE_LS.selftest_pass 0 0).put RIDGE_LS.last_bit 0 0
  let s := s.setWord .RNG_STATUS 0 (s.word .RNG_STATUS 0 &&& maskBits 0 2)
  let s := (s.put SEC_STATUS.meas_locked 0 0).flag SEC_STATUS.rng_blocked 0 (s.on SEC_STATUS.rng_failed)
  s.modRidge (fun r => { r with startup := [0, 1], drbg := 0, meas := r.meas.filter (fun e => e.1 < 8) })

/-- Trestle releases Ridge (R404). -/
def State.releaseRidge (s : State) : State :=
  if s.get PWR_STATE_MISC.ridge ≠ 5 ∨ s.on GLOBAL_STATUS.degraded then s
  else s.onExpiry .restart (fun s =>
    let s := if s.ridge.planned then s
      else (s.put BRACE_TRESTLE.restarts 0 (s.get BRACE_TRESTLE.restarts + 1)).put BRACE_TRESTLE.restarting 0 1
    let s := (s.ridgeRegs).put PWR_STATE_MISC.ridge 0 0
    (s.arm .restart 2000000000).arm .selftest 2000000)

/-- 2 s have passed since a release without alive (R404, R434). -/
def State.restartFailed (s : State) : State :=
  if s.get PWR_STATE_MISC.ridge ≠ 0 then s
  else s.onExpiry .restart (fun s =>
    if s.ridge.planned then s.ridgeFails 11 2 3 0
    else
      let s := s.report 11 4 0 (BitVec.ofNat 64 (s.get BRACE_TRESTLE.restarts))
      if s.get BRACE_TRESTLE.restarts = 3 then s.degrade else s.holdRidge)

/-- Watchdog period in ns (R409). -/
def State.watchdogNs (s : State) : Nat := clampNat 10 1000 (s.get BRACE_TRESTLE.wdog_ms) * 1000000

/-- Ridge writes alive (R404, R409). -/
def State.takeAlive (s : State) : State :=
  if !s.ridge.running || s.get PWR_STATE_MISC.ridge != 0 then s
  else
    let s := s.arm .watchdog s.watchdogNs
    if !s.on GLOBAL_STATUS.ridge_down then s
    else
      let s := ((s.put GLOBAL_STATUS.ridge_down 0 0).put GLOBAL_STATUS.cfg_frozen 0 0).disarm .restart
      let s := s.each (List.range 4) (fun s h => if s.get MB_STATUS.state h = 3 then s.put MB_STATUS.state h 0 else s)
      let s := s.setWord .RIDGE_LS 0 (s.word .RIDGE_LS 0 &&& maskBits 0 40)
      if s.ridge.planned then
        let s := s.modRidge (fun r => { r with planned := false })
        if s.get BRACE_TRESTLE.restarts = 0 then s else s.arm .restartCount 60000000000
      else
        let s := (s.put BRACE_TRESTLE.restarting 0 0).arm .restartCount 60000000000
        ((s.put BRACE_DSTATE.state 130 0).put BRACE_DSTATE.severe 130 0)

/-- Ridge has run for 60 s after an attempt. -/
def State.restartCountOver (s : State) : State := s.onExpiry .restartCount (fun s => s.put BRACE_TRESTLE.restarts 0 0)

/-- Ridge is out of reset and its comparators watch it (R411). -/
def State.ridgeLive (s : State) : Bool := s.portsPowered && s.get PWR_STATE_MISC.ridge == 0

/-- CHECKER_LOST with the condition that RIDGE_LS latches (R411, R437). -/
def State.checkerLost (s : State) (c : CheckerFault) : State :=
  if !s.ridgeLive then s
  else
    let s := match c with
      | .comparatorA => s.put RIDGE_LS.comp_a_fault 0 1
      | .comparatorB => s.put RIDGE_LS.comp_b_fault 0 1
      | .delayParity => s.put RIDGE_LS.delay_parity 0 1
      | .selfTestFailed => s.put RIDGE_LS.selftest_fail 0 1
    s.ridgeFails 11 1 2 0

/-- A self-test slot ends (R412): the bit advances; a pass pulses Trestle. -/
def State.selfTest (s : State) (passed : Bool) : State :=
  if !s.ridgeLive then s
  else
    let s := s.put RIDGE_LS.last_bit 0 (s.get RIDGE_LS.last_bit + 1)
    if passed then (s.put RIDGE_LS.selftest_pass 0 (s.get RIDGE_LS.selftest_pass + 1)).arm .selftest 2000000
    else s.checkerLost .selfTestFailed

/-- No pass within 16,000 SCLK cycles (R411). -/
def State.selfTestLate (s : State) : State :=
  if !s.ridgeLive then s
  else s.onExpiry .selftest (fun s => (s.put RIDGE_LS.selftest_timeout 0 1).ridgeFails 11 1 2 0)

/-- The Ridge watchdog expires (R404). -/
def State.watchdogOver (s : State) : State := s.onExpiry .watchdog (fun s => s.ridgeFails 11 2 3 0)

/-! ### Random numbers: failure (R432, R433) -/

/-- The DRBG gives data. -/
def State.drbgReady (s : State) : Bool :=
  s.ridge.running && !s.on SEC_STATUS.rng_failed && !s.on SEC_STATUS.rng_blocked && decide (s.ridge.startup.length < 2)

/-- RNG_FAILED is latched (R433). -/
def State.latchRngFailed (s : State) : State :=
  if s.on SEC_STATUS.rng_failed then s
  else
    let s := (s.put SEC_STATUS.rng_failed 0 1).put SEC_STATUS.rng_blocked 0 1
    let s := s.modBrace (fun b => { b with levels := State.degrade.insertLevel (11, 6) b.levels })
    s.report 11 6 0 0

/-! ### Rails (R87, R399) -/

/-- Engine group `g` loses its channels: they halt with ENGINE_FAULT, and no engine takes one until recovery (R271, R399).
Answers the functions whose channels halted. -/
def State.stopGroup (s : State) (g : Nat) : List Nat × State :=
  let qs := (List.range 8).filterMap (fun i => (s.eng (8 * g + i)).q)
  let live := qs.filter (fun q => s.get Q_STATE.state q == 3 || s.get Q_STATE.state q == 4)
  let fns := ownersOf (live.map (fun q => s.qOwner q))
  let s := s.each live (fun s q => s.errorHalt q 0x17 0 0 0 4)
  (fns, s.each (List.range 8) (fun s i => s.modEng (8 * g + i) (fun d => { d with offline := true })))

/-- A bay goes down and is held in reset or off: every LOCAL_RESETj_N of it is low (R66, R345, R393). -/
def State.holdBay (s : State) (b st : Nat) : State :=
  let s := (s.bayDown b).setBayState b st
  let s := if st = 4 ∨ st = 5 then s.clearBay b else s
  s.each (List.range 4) (fun s j => s.modPort (4 * b + j) (fun d => { d with resetOut := true }))

/-- An engine group that goes off loses its contents (R88): its engines' registers and counters, its buffers and the reads that
they had outstanding. -/
def State.loseGroup (s : State) (g : Nat) : State :=
  (s.each ((List.range 8).map (fun i => 8 * g + i)) (fun s e =>
    let s := s.each [RegKind.TE_STATUS, .TE_PROGRESS, .TE_PACE, .TE_RDBUF, .TE_FAULT] (fun s k => s.setWord k e (k.reset e))
    s.setEng e { EngDyn.reset with offline := true })).zeroCtrs (24 + g)

/-- A rail is out of regulation in region `r` (R399). -/
def State.railFails (s : State) (rail r : Nat) : State :=
  let loc := BitVec.ofNat 64 rail
  if !s.powered then s
  else if rail = 4 ∧ s.isUp then
    let (fns, s) := s.stopGroup (r - 24)
    (((s.setRegion r 4).loseGroup (r - 24)).reportIn 13 0 5 (r - 24) fns loc 0)
  else if (rail = 5 ∨ rail = 6) ∧ s.portsPowered then
    ((s.hostDown (r - 35)).setRegion r 4).reportIn 13 0 2 (r - 35) [] loc 0
  else if (rail = 7 ∨ rail = 8 ∨ rail = 9) ∧ s.isUp then (s.reportIn 13 0 4 r [] loc 0).holdBay r 4
  else if rail = 11 ∧ s.portsPowered then s.ridgeFails 13 0 5 loc
  else if rail ∈ [0, 1, 2, 3, 10, 12] then s.enterSafe 13 0
  else s

/-! ### Containment of an event of a fault line (R393) -/

/-- Code 0.3: an IDE stream becomes insecure (R159). -/
def State.dropStream (s : State) (h i : Nat) : State :=
  let x := s.ideStream h i
  if x.active.isNone then s
  else ((s.setIde h i { x with active := none, failed := true }).setSecure h i false).failStream h i

/-- Entry with an uncorrectable error goes out of use until a commit rewrites it. -/
def State.damage (s : State) (k : RegKind) (idx : Nat) : State :=
  if s.hurt k idx then s else { s with damaged := (k, idx) :: s.damaged }

/-- Code 1.1: the function is held quiescing. -/
def State.holdFunction (s : State) (f : Nat) : State :=
  ((s.damage .FUNC_APERTURE f).put FUNC_STATE.quiescing f 1).each (s.queuesOf f) State.quiesceQueue

/-- Code 2.1: the segment is poisoned (R222). -/
def State.poison (s : State) (n : Nat) : State :=
  ((s.put SEG_CTRL.poisoned n 1).put LEDGER_ECC.ue 0 1).put LEDGER_ECC.ue_seg 0 n

/-- A corrected error of a Ledger entry (R222). -/
def State.ledgerCe (s : State) (n : Nat) : State :=
  ((s.bump (modCtr 0)).put LEDGER_ECC.ce 0 1).put LEDGER_ECC.ce_seg 0 n

/-- Code 2.2: the port of the entry is not available until that PRT entry is rewritten (R222). -/
def State.losePrt (s : State) (p : Nat) : State :=
  let was := s.portAvailable p
  let s := s.damage .PRT_CTRL p
  if was then s.endRequests (s.lead p) else s

/-- Code 3.1: the queue's context is lost; it stops and is disabled, and no entry is written. -/
def State.loseQueue (s : State) (q : Nat) : State :=
  let s := if (s.queue q).held.isSome then s.bump (queueCtr q 3) else s
  let s := match s.engineOf q with
    | some e => if (s.eng e).draining then s else s.drainEngine e
    | none => s
  let d := s.queue q
  let s := ((s.dropFetches q).resetQueue q).modQueue q (fun x => { x with moving := d.moving, stateBefore := 0 })
  if d.moving then s else if s.fnHeld (s.qOwner q) then s.put Q_STATE.state q 8 else s

/-- Code 3.2: the prefetched descriptor fetched from address `a` ends with FETCH_ERROR (R244). -/
def State.losePrefetch (s : State) (a : Nat) : State :=
  s.each s.queues (fun s x =>
    let q := x.1
    let at_ (d : Prefetched) : Nat := s.get Q_SQ_BASE.base q * 4096 + 64 * d.idx
    if x.2.pref.any (fun d => at_ d == a) then
      (s.modQueue q (fun y => { y with pref := y.pref.map (fun d => if at_ d = a then { d with fetchErr := some a } else d) })).kick q
    else s)

/-- Code 0.1: data of the completion buffer is lost: as a poisoned completion of the request it belongs to (R147). -/
def State.loseCompletion (s : State) (f a : Nat) : State :=
  let h := fnPort f
  match (s.host h).tags.find? (fun t => t.2.req.fn == f && !t.2.held && decide (t.2.req.addr ≤ a ∧ a < t.2.req.addr + t.2.req.len)) with
  | some t => s.hostCompletion h t.1 .poisoned []
  | none => s

/-- Code 10.0: a damaged history entry, by its number, is marked invalid; the damaged classifier count of code n.c and instance i, by
64 + 64 n + c + 1024 i, is 0 (R397). -/
def State.loseTable (s : State) (k : Nat) : State :=
  if k < 64 then s.setWord .BRACE_HIST (4 * k + 1) (setBits (s.word .BRACE_HIST (4 * k + 1)) 41 1 1)
  else s.modBrace (fun b => { b with
    sources := b.sources.map (fun x => if 64 * x.n + x.c + 1024 * x.inst = k - 64 then { x with count := 0 } else x) })

/-- A fault line reports code n.c for an instance: containment on detection, then the report (R393). Codes whose containment
reports them by itself, and those that the module makes, follow their own description. With the clocks stopped by a deferred
shutdown nothing is left to contain, and the event is recorded alone (R133, R394). -/
def State.faultLine (s : State) (n c inst : Nat) (loc chk : Word) : State :=
  let l := loc.toNat
  let rep (s : State) : State := s.report n c inst loc chk
  let p := s.lead inst
  if safeCode n c then s.enterSafe n c
  else if n = 13 ∧ c = 0 then (if railFeeds l inst then s.railFails l inst else s)
  else if n = 11 ∧ s.portsPowered then
    match c with
    | 0 => s.ridgeFails 11 0 1 loc
    | 1 => s.ridgeFails 11 1 2 loc
    | 2 => s.ridgeFails 11 2 3 loc
    | 3 => s.ridgeFails 11 3 4 loc
    | 5 => s.degrade
    | 6 => s.latchRngFailed
    | _ => rep s
  else if decide (s.phase = .deferring) && n != 12 then rep s
  else if !s.portsPowered then s
  else
    match n, c with
    | 0, 0 | 0, 2 => if inst < 4 then rep (s.hostDown inst) else s
    | 0, 1 => rep (s.loseCompletion (inst % 1024) l)
    | 0, 3 => if inst < 4 then rep (s.each (List.range 9) (State.dropStream · inst ·)) else s
    | 1, 1 => if inst < 1024 then rep (s.holdFunction inst) else s
    | 2, 0 => rep (s.ledgerCe (l % 65536))
    | 2, 1 => rep (s.poison (l % 65536))
    | 2, 2 => if inst < 96 then (s.losePrt inst).report 2 2 p loc chk else s
    | 3, 1 => if l < 4096 then rep (s.loseQueue l) else s
    | 3, 2 => rep (s.losePrefetch l)
    | 4, 0 => if inst < 6 then s.engineFault (8 * inst + l % 8) .rdbufCe else s
    | 4, 1 => if inst < 6 then s.engineFault (8 * inst + l % 8) .holdParity else s
    | 4, 2 => if inst < 6 then s.engineFault (8 * inst + l % 8) .rdbufUe else s
    | 5, 0 => if inst < 1024 then rep (s.damage .SCHED_FUNC inst) else s
    | 6, 1 => if inst < 1024 then rep (s.loseUnit inst l) else s
    | 7, 0 => if inst < 96 ∧ faultCause l then s.portDown p l else s
    | 7, 1 => if inst < 96 ∧ (l = 5 ∨ l = 7 ∨ l = 8 ∨ l = 9 ∨ l = 11) then s.portDown p l else s
    | 8, 0 => if inst < 24 then (rep s).holdBay inst 5 else s
    | 8, 1 =>
      if inst < 96 then
        let s := match (s.portLanes p)[l]? with
          | some k => if s.get JP_STATUS.link_state p = 2 then s.bringUpLane k else s
          | none => s
        s.report 8 1 p loc chk
      else s
    | 9, 0 => rep (s.bump (modCtr 1))
    | 9, 1 => if l < 24576 then rep (s.modPeg l (fun d => { d with bad := true })) else s
    | 9, 2 => if l < 65536 then rep (s.damage .PEG_VMAP l) else s
    | 10, 0 => rep (s.loseTable l)
    | 12, 1 => s.askShutdown
    | _, _ => rep s

/-! ### Ledger scrub (R222) -/

/-- The Ledger scrubs one entry: segments 0 to 65535, then PRT entries 0 to 95, and again. Scrubbing never wakes the core. An error
in an INVALID segment is reported to the function that its owner field still names, and a corrected error of a PRT entry counts in
LEDGER_CE and is reported as 2.0 to the PF that owns the port, with LEDGER_ECC.ce left alone (log entry 58, DESIGN CHOICE). -/
def State.scrub (s : State) (r : EccResult) : State :=
  if !s.isUp || s.get PWR_STATE_MISC.core != 0 then s
  else
    let k := s.scrubAt
    let s := { s with scrubAt := if k + 1 < 65632 then k + 1 else 0 }
    match r with
    | .clean => s
    | .corrected y => if k < 65536 then (s.ledgerCe k).report 2 0 (s.get SEG_CTRL.owner k) (BitVec.ofNat 64 k) y
        else (s.bump (modCtr 0)).report 2 0 (s.get PRT_CTRL.owner (k - 65536)) (BitVec.ofNat 64 (k - 65536)) y
    | .uncorrectable y => if k < 65536 then (s.poison k).report 2 1 (s.get SEG_CTRL.owner k) (BitVec.ofNat 64 k) y
        else (s.losePrt (k - 65536)).report 2 2 (s.lead (k - 65536)) (BitVec.ofNat 64 (k - 65536)) y

/-! ### Recovery sequences (R399 to R402) -/

/-- Draining of engine `e` ends at recovery: what its reads still bring is discarded, and a command that waited for the drain runs
(R251, R273). -/
def State.cutDrain (s : State) (e : Nat) : State :=
  match (s.eng e).q with
  | none => s
  | some q =>
    let mine : HPurpose → Bool := fun x => match x with
      | .engine g _ => g == e
      | _ => false
    let ours : LPurpose → Bool := fun x => match x with
      | .engine g _ => g == e
      | _ => false
    let s := s.each (List.range 4) (fun s h => s.modHost h (fun d => { d with
      tags := d.tags.map (fun t => if mine t.2.req.purpose then (t.1, { t.2 with req := { t.2.req with purpose := .dropped } }) else t) }))
    let s := s.each (s.ports.map (fun x => x.1)) (fun s p => s.modPort p (fun d => { d with
      ltags := d.ltags.map (fun t => if ours t.2.purpose then (t.1, { t.2 with purpose := .dropped }) else t) }))
    (s.releaseEngine e).runWaiting q

/-- First steps of the sequence of domain `d`. -/
def State.beginDomain (s : State) (d : Nat) : State :=
  let severe := s.on BRACE_DSTATE.severe d
  if d < 4 then
    let s := (s.hostDown d).setHcrState d 4
    if (s.host d).absent then s else if (s.host d).perst then s.setHcrState d 5 else s.startHcr d
  else if d < 100 then
    let p := d - 4
    if s.armed (.downHold p) then s else s.afterDown p
  else if d < 124 then
    let b := d - 100
    if (s.bayLeads b).any s.portEnabled then s.resetBay b
    else if severe then s.holdBay b 5
    else (s.holdBay b (if (List.range 4).any (fun j => (s.port (4 * b + j)).present) then 0 else 3)).bump (modCtr 5)
  else
    let s := s.each (List.range 8) (fun s i => s.cutDrain (8 * (d - 124) + i))
    s.setEgState (d - 124) 2

/-- The domain at the head of the queue starts its sequence; while Trestle restarts Ridge the queue waits (R402). -/
def State.startRecovery (s : State) : State :=
  match s.brace.queue with
  | (d, false) :: rest =>
    if !s.portsPowered || (s.on GLOBAL_STATUS.ridge_down && !s.on GLOBAL_STATUS.degraded) then s
    else ((s.modBrace (fun b => { b with queue := (d, true) :: rest })).put BRACE_DSTATE.state d 2).beginDomain d
  | _ => s

/-- A Joist port serves, or stays down, in reset, in test or disabled for a reason of its own. -/
def State.portSettled (s : State) (p : Nat) : Bool :=
  match s.get JP_STATUS.link_state p with
  | 1 => !s.allPresent p
  | 2 => false
  | 5 => !s.armed (.downHold p) && (decide (2 ≤ s.get JP_CTRL.down_action p) || !s.allPresent p)
  | _ => true

/-- The step that returns the domain to service has been reached (R399). -/
def State.recovered (s : State) (d : Nat) : Bool :=
  if d < 4 then s.linkUp d || (s.host d).absent
  else if d < 100 then s.portSettled (d - 4)
  else if d < 124 then
    let b := d - 100
    let here := (List.range 4).any (fun j => (s.port (4 * b + j)).present)
    (s.bayState b == 0 || !here) && (s.bayLeads b).all (fun p => match s.get JP_STATUS.link_state p with
      | 1 => !s.allPresent p
      | 2 => false
      | 5 => s.get JP_DOWN_LOG.cause p != 11
      | _ => true)
  else (List.range 8).all (fun i => (s.eng (8 * (d - 124) + i)).q.isNone)

/-- The domain is held out of service (R399). -/
def State.holdDomain (s : State) (d : Nat) : State :=
  if d < 4 then s.hostDown d
  else if d < 100 then
    let p := d - 4
    (s.portDown p 9).disarm (.downHold p)
  else if d < 124 then s.holdBay (d - 100) 5
  else s.setEgState (d - 124) 0

/-- The group's engines are empty and take channels again; the group is clock-gated. -/
def State.restoreGroup (s : State) (g : Nat) : State :=
  (s.each (List.range 8) (fun s i => s.setEng (8 * g + i) EngDyn.reset)).setEgState g 1

/-- The running sequence ends: the domain returns to service, or is held if severe (R399, R400). `passed` is the result of an
engine group's check. -/
def State.endRecovery (s : State) (passed : Bool) : State :=
  match s.brace.queue with
  | (d, true) :: rest =>
    let fails := decide (124 ≤ d) && !passed
    let severe := s.on BRACE_DSTATE.severe d || fails
    if !(if 124 ≤ d then s.recovered d else severe || s.recovered d) then s
    else
      let s := s.modBrace (fun b => { b with queue := rest })
      if severe then ((s.flag BRACE_DSTATE.severe d true).holdDomain d).put BRACE_DSTATE.state d 3
      else
        let s := s.put BRACE_DSTATE.state d 0
        if 124 ≤ d then s.restoreGroup (d - 124) else s
  | _ => s

/-- A write of BRACE_RELEASE (R403). -/
def State.release (s : State) (d : Nat) : State :=
  if d < 130 ∧ s.get BRACE_DSTATE.state d = 3 then
    let (kind, inst) := if d < 4 then (2, d) else if d < 100 then (3, d - 4) else if d < 124 then (4, d - 100) else (5, d - 124)
    let s := s.forget (fun x => x.domain == some d)
    let seq := s.get BRACE_HIST_PTR.next_seq
    let (k, s) := (s.bump (braceCtr 10 1)).addHist 10 1 0 kind inst (!s.brace.queue.isEmpty) (BitVec.ofNat 64 d) 0
    s.enqueueDomain d k seq false
  else s

/-- A classifier window ends without promotion (R397). -/
def State.windowOver (s : State) (n c inst : Nat) : State :=
  s.onExpiry (.classifier n c inst) (fun s => s.forget (fun x => sameSource n c inst x && !x.promoted))

/-- A W1C write to FAULT_DETAILn (R393, R395, R397). -/
def State.clearDetail (s : State) (n : Nat) (mask : Word) : State :=
  let cleared := s.word .FAULT_DETAIL n &&& mask
  let s := s.setWord .FAULT_DETAIL n (s.word .FAULT_DETAIL n &&& ~~~ mask)
  let s := s.setWord .FAULT_SEV n (s.word .FAULT_SEV n &&& ~~~ cleared)
  let s := s.forget (fun x => x.n == n && x.promoted && bitAt cleared x.c
    && (x.domain.elim true (fun d => s.get BRACE_DSTATE.state d != 3)))
  s.each (s.brace.levels.filter (fun x => x.1 == n && bitAt cleared x.2)) (fun s x => s.setDetail n x.2 (x == (11, 6)))

end Sys2Proof.Machine
end

