-- ==== Sys2Proof/Machine/Ridge.lean ====
section
/-! DEFINITION. Ridge: flash, boot measurement, random numbers, firmware update, mailbox and MCTP commands (R413 to R418,
R427 to R437). -/

namespace Sys2Proof.Machine

/-! ### Private flash (R413 to R415) -/

/-- Byte of the flash where nothing has been written since it was made or its slot erased. -/
def State.flashBlank (s : State) (a : Nat) : Byte :=
  match slotOf a with
  | some k =>
    match find1 k s.ridge.spoiled with
    | some n => Config.spoiledByte n a
    | none => if s.ridge.erased.contains k then Config.erasedByte a else Config.factoryFlash a
  | none => Config.factoryFlash a

/-- Bytes of the flash. -/
def State.flash (s : State) (a n : Nat) : List Byte := Tbl.readBytes s.flashBlank s.ridge.flash a n

/-- Boot directory copy `k`, when its magic and CRC are correct: sequence and active slot (R414). -/
def State.dirCopy (s : State) (k : Nat) : Option (Nat × Nat) :=
  let d := s.flash (0x1000 * k) 64
  if leAt d 0 4 = 0x4A584244 ∧ leAt d 60 4 = (crc32c (d.take 60)).toNat then some (leAt d 4 4, leAt d 8 1 % 2) else none

/-- The copy that the boot ROM uses: number, sequence, active slot. -/
def State.directory (s : State) : Option (Nat × Nat × Nat) :=
  match s.dirCopy 0, s.dirCopy 1 with
  | some a, some b => if a.1 < b.1 then some (1, b) else some (0, a)
  | some a, none => some (0, a)
  | none, some b => some (1, b)
  | none, none => none

/-- Slot that the directory names; slot A where no copy is valid. -/
def State.activeSlot (s : State) : Nat := s.directory.elim 0 (fun d => d.2.2)

/-- Image header of slot `k`, when its magic and CRC are correct (R415). -/
def State.imageHeader (s : State) (k : Nat) : Option (List Byte) :=
  let h := s.flash (slotBase k) 256
  if leAt h 0 4 = 0x4A584657 ∧ leAt h 252 4 = (crc32c (h.take 252)).toNat then some h else none

/-- Slot that the boot ROM runs, with its header (R416). -/
def State.runSlot (s : State) : Option (Nat × List Byte) :=
  let a := s.activeSlot
  match s.imageHeader a with
  | some h => some (a, h)
  | none => (s.imageHeader (1 - a)).map (fun h => (1 - a, h))

/-! ### Measurement (R417, R418) -/

/-- Bytes of a digest, byte 0 first. -/
def digestBytes (d : BitVec 384) : List Byte := leBytes 48 d.toNat

/-- A measurement slot; one that holds nothing reads zeros. -/
def State.measSlot (s : State) (k : Nat) : BitVec 384 := Tbl.get 0 s.ridge.meas k

/-- Stage `i` (0 stage 1, 1 stage 2, 2 configuration) of the image in slot `k` with header `h`. -/
def State.imageStage (s : State) (k : Nat) (h : List Byte) (i : Nat) : List Byte :=
  let o := leAt h (20 + 8 * i) 4
  s.flash (slotBase k + o) (min (leAt h (24 + 8 * i) 4) (slotSize - min slotSize o))

/-- The boot ROM measures, locks the slots and runs stage 1 (R416, R417). -/
def State.bootMeasure (s : State) : State :=
  if !s.ridgeLive || s.ridge.running || s.on SEC_STATUS.meas_locked then s
  else
    let run := s.runSlot
    let part (i : Nat) : List Byte := match run with
      | some (k, h) => if i = 0 then h else s.imageStage k h (i - 1)
      | none => []
    let k := run.elim s.activeSlot (fun x => x.1)
    let dir := s.directory.elim [] (fun d => s.flash (0x1000 * d.1) 64)
    let ms := [Config.romDigest] ++ (List.range 4).map (fun i => Config.sha384 (part i)) ++ [Config.sha384 (dir ++ leBytes 1 k)]
    let s := s.each ((List.range 6).zip ms) (fun s m => s.modRidge (fun r => { r with meas := Tbl.set 0 r.meas m.1 m.2 }))
    let s := (s.put SEC_STATUS.meas_locked 0 1).put SEC_STATUS.fw_slot 0 k
    s.modRidge (fun r => { r with running := run.isSome, version := run.elim 0 (fun x => leAt x.2 8 8) })

/-- Firmware extends slot `k` (R418); slots 0 to 7 are locked. -/
def State.extendMeas (s : State) (k : Nat) (x : BitVec 384) : State :=
  if !s.ridge.running || decide (k < 8) then s
  else s.modRidge (fun r => { r with
    meas := Tbl.set 0 r.meas k (Config.sha384 (digestBytes (Tbl.get 0 r.meas k) ++ digestBytes x)) })

/-! ### Random numbers (R431 to R433) -/

/-- RNG_STATUS.fail_count: 0 again once 1,048,576 samples of both sources, at 1 MSa/s, have passed (R432). -/
def State.failCount (s : State) : Nat :=
  if !s.on SEC_STATUS.rng_failed && decide (s.ridge.failedAt + 1048576000 ≤ s.clock) then 0 else s.get RNG_STATUS.fail_count

/-- Ends mailbox `h`'s command with a result and a response, kept until MAILBOX_COMMAND_DONE. -/
def State.mbAnswer (s : State) (h op result : Nat) (rsp : List Byte) : State :=
  s.modRidge (fun r => { r with mailbox := r.mailbox.filter (fun m => m.h != h) ++ [⟨h, result, rsp, op⟩] })

/-- The DRBG is blocked: every pending GET_RANDOM ends without data (R432). -/
def State.endRandom (s : State) : State :=
  s.each ((List.range 4).filter (fun h => s.get MB_STATUS.state h == 1 && s.get MB_CMD.opcode h == 3
      && s.ridge.mailbox.all (fun m => m.h != h || m.result == 0)))
    (fun s h => (s.mbAnswer h 3 5 []).bump (modCtr 12))

/-- A health test of a source fails (R432, R433): 1 repetition count, 2 adaptive proportion, 3 startup. -/
def State.rngFail (s : State) (src test : Nat) : State :=
  if !s.ridgeLive then s
  else
    let n := min 3 (s.failCount + 1)
    let s := (s.put RNG_STATUS.fail_count 0 n).bump (modCtr (10 + src))
    let s := (s.put RNG_STATUS.last_fail_src 0 src).put RNG_STATUS.last_fail_test 0 test
    let s := ((s.put RNG_STATUS.ns0_ok 0 0).put RNG_STATUS.ns1_ok 0 0).put SEC_STATUS.rng_blocked 0 1
    let s := (s.modRidge (fun r => { r with startup := [0, 1], failedAt := s.clock })).endRandom
    if n = 3 then s.latchRngFailed else s

/-- A source passes its startup test; the first to pass instantiates the DRBG afresh (R431, R432). -/
def State.rngPass (s : State) (src : Nat) : State :=
  if !s.ridgeLive || !s.ridge.startup.contains src then s
  else
    let first := s.ridge.startup.length == 2
    let s := if src = 0 then s.put RNG_STATUS.ns0_ok 0 1 else s.put RNG_STATUS.ns1_ok 0 1
    let s := s.modRidge (fun r => { r with startup := r.startup.filter (fun x => x != src), drbg := if first then 0 else r.drbg })
    if s.on SEC_STATUS.rng_failed then s else s.put SEC_STATUS.rng_blocked 0 0

/-- The DRBG reseeds (R431). -/
def State.reseed (s : State) : State :=
  if s.drbgReady then (s.bump (modCtr 9)).modRidge (fun r => { r with drbg := 0 }) else s

/-- `n` bytes of the DRBG, at most 4096 a generate request: fresh free bytes (log entry 7). After 65,536 requests it reseeds first. -/
def State.generate (s : State) (n : Nat) : List Byte × State :=
  let s := if 65536 ≤ s.ridge.drbg then s.reseed else s
  (s.modRidge (fun r => { r with drbg := r.drbg + 1 })).freeBytes n

/-! ### Commands (R428 to R430, R434) -/

/-- Result codes (R430). -/
def mbOk : Nat := 0
def mbBadOpcode : Nat := 1
def mbBadLength : Nat := 2
def mbNotPermitted : Nat := 3
def mbAborted : Nat := 4
def mbNoEntropy : Nat := 5
def mbDigestMismatch : Nat := 7
def mbUpdateBusy : Nat := 8
def mbSequence : Nat := 9

/-- Opcodes of the command table. -/
def mbOpcodes : List Nat := [0x01, 0x02, 0x03, 0x10, 0x11, 0x12, 0x13, 0x14, 0x1F, 0x20, 0x21]

/-- Number of a caller: its mailbox, 4 for MCTP. -/
def callerNo : Caller → Nat
  | .mailbox h => h.val
  | .mctp _ _ => 4

/-- Request bytes of a command. -/
def State.requestOf (s : State) : Caller → List Byte
  | .mailbox h => ((List.range 512).flatMap (fun w => wordBytes (s.word .MB_REQ (512 * h.val + w)))).take (s.get MB_CMD.req_len h.val)
  | .mctp _ req => req

/-- Ridge acknowledges its SMBus address: its firmware runs (R426, R427). -/
def State.acks (s : State) : Bool := s.ridge.running && s.ridgeLive

/-- Ridge takes an SMBus transfer to an address: it acknowledges 0x60 + ID alone, with ID the slot identity that the pins gave when
they were sampled (R69). -/
def State.smbus (s : State) (target : SmbusAddr) : Bool := s.acks && target.toNat == 0x60 + s.pins.slotId % 16

/-- Ridge serves command `op` of a caller now: its firmware runs and, for a mailbox, the command is the one in progress and
has not been served (R427, R429). -/
def State.served? (s : State) (c : Caller) (op : Nat) : Bool :=
  match c with
  | .mailbox h => s.ridge.running && s.ridgeLive && s.get MB_STATUS.state h.val == 1 && s.get MB_CMD.opcode h.val == op
      && s.ridge.mailbox.all (fun m => m.h != h.val)
  | .mctp target _ => s.smbus target

/-- Ends a command with a result and a response. -/
def State.answer (s : State) (c : Caller) (op result : Nat) (rsp : List Byte) : State :=
  match c with
  | .mailbox h => s.mbAnswer h.val op result rsp
  | .mctp _ _ => s.emit (.mctpResponse result rsp)

/-- The caller is the configuration owner's mailbox or MCTP (R430). -/
def State.isOwner (s : State) : Caller → Bool
  | .mailbox h => h.val == s.owner
  | .mctp _ _ => true

/-- Runs a command: rights, request length, then what it does, which answers result and response. -/
def State.command (s : State) (c : Caller) (op : Nat) (allowed : Bool) (fits : Nat → Bool)
    (run : State → List Byte → Nat × List Byte × State) : State :=
  if !s.served? c op then s
  else if !allowed then s.answer c op mbNotPermitted []
  else
    let req := s.requestOf c
    if !fits req.length then s.answer c op mbBadLength []
    else
      let (result, rsp, s) := run s req
      s.answer c op result rsp

/-- SEC_STATUS as it reads: sessions and update_open follow from Ridge's state (R437). -/
def State.secStatus (s : State) : Word :=
  setBits (setBits (s.word .SEC_STATUS 0) 9 1 (b2n s.ridge.update.isSome)) 16 4 s.ridge.sessions.length

/-- RNG_STATUS as it reads. -/
def State.rngStatus (s : State) : Word := setBits (s.word .RNG_STATUS 0) 0 2 s.failCount

/-- GET_INFO: fw_version, slot, directory sequence and SEC_STATUS, packed in that order; the bytes that the spec leaves
unnamed are free (log entry 23). -/
def State.getInfo (s : State) (_ : List Byte) : Nat × List Byte × State :=
  let k := s.get SEC_STATUS.fw_slot
  let (pad, t) := s.freeBytes 15
  (mbOk, leBytes 8 s.ridge.version ++ leBytes 1 k ++ leBytes 4 (s.directory.elim 0 (fun d => d.2.1)) ++ leBytes 4 s.secStatus.toNat ++ pad, t)

/-- The certificate chain of slot 0 (R422). -/
def State.chain (s : State) : List Byte := Config.certChain (Tbl.get 0 s.fuses 1)

/-- GET_CERT_CHAIN. -/
def State.getCertChain (s : State) (req : List Byte) : Nat × List Byte × State :=
  (mbOk, (s.chain.drop (leAt req 0 4)).take 4096, s)

/-- GET_RANDOM. -/
def State.getRandom (s : State) (req : List Byte) : Nat × List Byte × State :=
  let n := leAt req 0 2
  if n = 0 ∨ 4096 < n then (mbBadLength, [], s)
  else if !s.drbgReady then (mbNoEntropy, [], s.bump (modCtr 12))
  else
    let (bs, s) := s.generate n
    (mbOk, bs, s)

/-- FW_BEGIN: opens the update of caller `k` and erases the inactive slot. -/
def State.fwBegin (k : Nat) (s : State) (req : List Byte) : Nat × List Byte × State :=
  if s.ridge.update.elim false (fun u => u.caller != k) then (mbUpdateBusy, [], s)
  else if slotSize < leAt req 0 4 then (mbBadLength, [], s)
  else
    let i := 1 - s.activeSlot
    (mbOk, [], s.modRidge (fun r => { r with
      update := some ⟨k, leAt req 0 4, 0, false, i⟩, erased := insertNat i r.erased, spoiled := drop1 i r.spoiled
      flash := r.flash.filter (fun e => slotOf e.1 != some i) }))

/-- The open update, when it is of caller `k`; otherwise the result that refuses the command. -/
def State.updateOf (s : State) (k : Nat) : Nat ⊕ Update :=
  match s.ridge.update with
  | none => .inl mbSequence
  | some u => if u.caller = k then .inr u else .inl mbUpdateBusy

/-- FW_WRITE. -/
def State.fwWrite (k : Nat) (s : State) (req : List Byte) : Nat × List Byte × State :=
  match s.updateOf k with
  | .inl r => (r, [], s)
  | .inr u =>
    let bs := req.drop 4
    if leAt req 0 4 ≠ u.written then (mbSequence, [], s)
    else if slotSize < u.written + bs.length then (mbBadLength, [], s)
    else
      let a := slotBase (1 - s.activeSlot) + u.written
      (mbOk, [], s.modRidge (fun r => { r with
        flash := Tbl.writeBytes r.flash a bs, update := some { u with written := u.written + bs.length, finished := false } }))

/-- The written image passes: header, length and digest (R434). -/
def State.imageGood (s : State) (u : Update) : Bool :=
  let k := 1 - s.activeSlot
  match s.imageHeader k with
  | none => false
  | some h => leAt h 16 4 == u.written && sliceBytes h 48 48 == digestBytes (Config.sha384 (s.flash (slotBase k + 256) (u.written - 256)))

/-- FW_FINISH. -/
def State.fwFinish (k : Nat) (s : State) (_ : List Byte) : Nat × List Byte × State :=
  match s.updateOf k with
  | .inl r => (r, [], s)
  | .inr u =>
    if s.imageGood u then (mbOk, [], s.modRidge (fun r => { r with update := some { u with finished := true } }))
    else (mbDigestMismatch, [], s)

/-- The directory copy that FW_ACTIVATE writes, and its sequence: the copy with the lower sequence, an invalid one before a
valid one. -/
def State.nextCopy (s : State) : Nat × Nat :=
  match s.directory with
  | some d => (1 - d.1, d.2.1 + 1)
  | none => (0, 1)

/-- FW_ACTIVATE. -/
def State.fwActivate (k : Nat) (s : State) (_ : List Byte) : Nat × List Byte × State :=
  match s.updateOf k with
  | .inl r => (r, [], s)
  | .inr u =>
    if !u.finished then (mbSequence, [], s)
    else
      let (c, q) := s.nextCopy
      let d := leBytes 4 0x4A584244 ++ leBytes 4 q ++ leBytes 1 (1 - s.activeSlot) ++ leBytes 51 0
      (mbOk, [], s.modRidge (fun r => { r with
        flash := Tbl.writeBytes r.flash (0x1000 * c) (d ++ crcBytes d), update := none
        activating := if k < 4 then some c else none }))

/-- FW_CANCEL: with no update open there is nothing to end. -/
def State.fwCancel (k : Nat) (s : State) (_ : List Byte) : Nat × List Byte × State :=
  if s.ridge.update.elim false (fun u => u.caller != k) then (mbUpdateBusy, [], s)
  else (mbOk, [], s.modRidge (fun r => { r with update := none }))

/-- RIDGE_RESTART answers OK first; Trestle then restarts Ridge, after MAILBOX_COMMAND_DONE for a mailbox (R434). -/
def State.askRestart (s : State) (c : Caller) : State :=
  if !s.served? c 0x14 then s
  else
    let t := s.command c 0x14 (s.isOwner c) (fun n => n == 0) (fun s _ => (mbOk, [], s))
    match c with
    | .mctp _ req => if req.isEmpty then t.plannedRestart else t
    | .mailbox _ => t

/-! ### The mailbox (R428, R429) -/

/-- The response enters MB_RSP. -/
def State.loadRsp (s : State) (h : Nat) (bs : List Byte) : State :=
  s.each (List.range ((bs.length + 7) / 8)) (fun s w => s.setWord .MB_RSP (512 * h + w) (BitVec.ofNat 64 (leAt bs (8 * w) 8)))

/-- A mailbox command ends: state done, result, response, and the entry that vec_en signals. -/
def State.mbDone (s : State) (h result : Nat) (rsp : List Byte) : State :=
  let s := s.modRidge (fun r => { r with mailbox := r.mailbox.filter (fun m => m.h != h) })
  let s := (s.loadRsp h rsp).put MB_STATUS.state h 2
  let s := (s.put MB_STATUS.result h result).put MB_STATUS.rsp_len h rsp.length
  let s := (s.put MB_CTRL.go h 0).put MB_CTRL.abort h 0
  if s.on MB_CTRL.vec_en h && !s.compatFn h then
    let (sent, s) := s.deliverMsix h (s.get MB_CTRL.vector h)
    if sent then s else s.wakeFor h
  else s

/-- go is written (R428): rejected while busy or unavailable. -/
def State.mbGo (s : State) (h : Nat) : State :=
  let st := s.get MB_STATUS.state h
  if st = 1 ∨ st = 3 then s.put MB_STATUS.rejected h 1
  else (s.put MB_CTRL.go h 1).put MB_STATUS.state h 1

/-- MAILBOX_COMMAND_DONE: the command that has been served ends; an opcode outside the table ends with BAD_OPCODE. -/
def State.mbFinish (s : State) (h : Nat) : State :=
  if s.get MB_STATUS.state h ≠ 1 ∨ !s.ridge.running then s
  else
    match s.ridge.mailbox.find? (fun m => m.h == h) with
    | some m =>
      let s := s.mbDone h m.result m.rsp
      let s := if m.opcode = 0x13 then s.modRidge (fun r => { r with activating := none }) else s
      if m.opcode = 0x14 ∧ m.result = mbOk then s.plannedRestart else s
    | none => if mbOpcodes.contains (s.get MB_CMD.opcode h) then s else s.mbDone h mbBadOpcode []

/-- abort is written while a command runs; a command that has been served keeps its result (R428, R436). -/
def State.mbAbort (s : State) (h : Nat) : State :=
  if s.get MB_STATUS.state h ≠ 1 then s
  else if s.ridge.mailbox.any (fun m => m.h == h) then s.put MB_CTRL.abort h 1
  else s.mbDone h mbAborted []

/-! ### MCTP control (R427) -/

/-- Set Endpoint ID, sent to Ridge's address: the null and the broadcast ID are refused (DMTF DSP0236, log entry 16). -/
def State.setEid (s : State) (e : Nat) : State :=
  if !s.acks then s
  else if e = 0 ∨ e = 255 then s.emit (.mctp (.eidSet false s.ridge.eid))
  else (s.modRidge (fun r => { r with eid := e })).emit (.mctp (.eidSet true e))

/-- Another control command, sent to Ridge's address, answers. -/
def State.mctpAnswer (s : State) (r : MctpRsp) : State := if s.acks then s.emit (.mctp r) else s

end Sys2Proof.Machine
end

