-- ==== Sys2Proof/Machine/Spdm.lean ====
section
/-! DEFINITION. The SPDM responder on the DOE of every PF and on MCTP, and IDE key management in its sessions (R158, R419 to
R426). Responses are recorded by content; the wire format is that of DMTF SPDM 1.3 (log entry 16). -/

namespace Sys2Proof.Machine

/-- DOE of a transport. -/
def doeOf : Transport → Option Nat
  | .doe h => some h.val
  | .mctp _ => none

/-- The responder takes a request on a transport: Ridge's firmware runs; on a DOE, PFh's link is up; on MCTP, the address is Ridge's (R69, R426, R427). -/
def State.spdmReady (s : State) (t : Transport) : Bool :=
  match t with
  | .doe h => s.ridge.running && s.ridgeLive && s.linkUp h.val && s.isUp
  | .mctp target => s.smbus target

/-- Connection state of a transport. -/
def State.conn (s : State) (t : Transport) : SpdmConn :=
  (s.ridge.conns.find? (fun c => c.doe == doeOf t)).getD ⟨doeOf t, 0, none, none⟩

/-- State with the connection state of a transport. -/
def State.setConn (s : State) (t : Transport) (c : SpdmConn) : State :=
  s.modRidge (fun r => { r with conns := r.conns.filter (fun x => x.doe != doeOf t) ++ [c] })

/-- A response leaves; the DOE's request has been taken. -/
def State.respond (s : State) (t : Transport) (r : SpdmRsp) : State :=
  let s := match t with
    | .doe h => s.modHost h.val (fun d => { d with doeIn := [] })
    | .mctp _ => s
  s.emit (.spdm t r)

/-- Handles a request: `min` is the connection stage that it needs. -/
def State.spdm (s : State) (t : Transport) (min : Nat) (run : State → State) : State :=
  if !s.spdmReady t then s
  else if (s.conn t).stage < min then s.respond t (.error .unexpected)
  else run s

/-- GET_VERSION starts the connection anew: version 1.3 only (R420). -/
def State.spdmVersion (s : State) (t : Transport) : State :=
  s.spdm t 0 (fun s => (s.setConn t ⟨doeOf t, 1, none, none⟩).respond t (.version 1 3))

/-- A request that takes the connection from one stage to the next. -/
def State.spdmStage (s : State) (t : Transport) (stage : Nat) (r : SpdmRsp) : State :=
  s.spdm t (stage - 1) (fun s => (s.setConn t { s.conn t with stage := max stage (s.conn t).stage }).respond t r)

/-- Capabilities and algorithms (R421). -/
def spdmCaps : SpdmRsp :=
  .capabilities [.cert, .chal, .measSig, .measFresh, .encrypt, .mac, .keyEx, .hbeat, .keyUpd, .chunk] 4096 65536 0
def spdmAlgs : SpdmRsp := .algorithms [.ecdsaP384, .sha384, .measSha384, .secp384r1, .aes256Gcm, .spdmKeySchedule, .dmtf]

/-- Digest of the chain of slot 0. -/
def State.chainDigest (s : State) : BitVec 384 := Config.sha384 s.chain

/-- GET_DIGESTS. -/
def State.spdmDigests (s : State) (t : Transport) : State := s.spdm t 3 (fun s => s.respond t (.digests 0 s.chainDigest))

/-- GET_CERTIFICATE: slots 1 to 7 are empty. A part that does not fit in one transfer is fetched in chunks. -/
def State.spdmCertificate (s : State) (t : Transport) (slot off len : Nat) : State :=
  s.spdm t 3 (fun s =>
    if slot ≠ 0 ∨ s.chain.length ≤ off then s.respond t (.error .invalid)
    else
      let part := (s.chain.drop off).take len
      if part.length ≤ 4088 then s.respond t (.certificate slot part (s.chain.length - off - part.length))
      else (s.setConn t { s.conn t with chunkOut := some (0, 0, part) }).respond t (.error (.large 0)))

/-- Why a request that needs the DRBG or the signing key is refused (R425). -/
def State.attestRefused (s : State) : Option SpdmError :=
  if s.on GLOBAL_STATUS.identity_degraded then some (.vendorDefined 1)
  else if s.on SEC_STATUS.rng_failed then some (.vendorDefined 2)
  else if !s.drbgReady then some .busy
  else none

/-- Refuses such a request; one that ends for want of random data is counted (R425, R432). -/
def State.refuse (s : State) (t : Transport) (e : SpdmError) : State :=
  (if e = .busy ∨ e = .vendorDefined 2 then s.bump (modCtr 12) else s).respond t (.error e)

/-- Runs `k` with a nonce of the DRBG and a signature: 32 and 96 free bytes (log entry 7). -/
def State.signed (s : State) (k : List Byte → List Byte → State → State) : State :=
  let (nonce, s) := s.generate 32
  let (sig, s) := s.freeBytes 96
  k nonce sig s

/-- CHALLENGE (R425). -/
def State.spdmChallenge (s : State) (t : Transport) (slot : Nat) : State :=
  s.spdm t 3 (fun s =>
    if slot ≠ 0 then s.respond t (.error .invalid)
    else match s.attestRefused with
      | some e => s.refuse t e
      | none => s.signed (fun nonce sig s => s.respond t (.challengeAuth slot s.chainDigest nonce sig)))

/-- SPDM value type of measurement index `i` (R417, R423). -/
def measType (i : Nat) : MeasType :=
  if i = 1 then .immutableRom
  else if i = 5 ∨ i = 6 then .firmwareConfig
  else if i = 7 ∨ i = 8 then .hardwareConfig
  else if i = 17 then .raw
  else .mutableFirmware

/-- Measurement block of index 1 to 17 (R423). -/
def State.measBlock (s : State) (i : Nat) : Nat × MeasType × List Byte :=
  (i, measType i, if i = 17 then leBytes 4 (getBits s.secStatus 0 4) else digestBytes (s.measSlot (i - 1)))

/-- Blocks that an index asks for; index 0 asks for their number alone. -/
def State.measBlocks (s : State) (i : Nat) : Option (List (Nat × MeasType × List Byte)) :=
  if i = 0 then some []
  else if i = 255 then some ((List.range 17).map (fun k => s.measBlock (k + 1)))
  else if i ≤ 17 then some [s.measBlock i]
  else none

/-- GET_MEASUREMENTS (R423, R425). -/
def State.spdmMeasurements (s : State) (t : Transport) (i : Nat) (sign : Bool) : State :=
  s.spdm t 3 (fun s =>
    match s.measBlocks i with
    | none => s.respond t (.error .invalid)
    | some bs =>
      if !sign then s.respond t (.measurements bs 17 [] [])
      else match s.attestRefused with
        | some e => s.refuse t e
        | none => s.signed (fun nonce sig s => s.respond t (.measurements bs 17 nonce sig)))

/-- Sessions open on a transport. -/
def State.sessionsOn (s : State) (t : Transport) : List Session := s.ridge.sessions.filter (fun x => x.overDoe == doeOf t)

/-- KEY_EXCHANGE (R424, R425): at most two sessions on a transport. -/
def State.spdmKeyExchange (s : State) (t : Transport) (slot : Nat) : State :=
  s.spdm t 3 (fun s =>
    if slot ≠ 0 then s.respond t (.error .invalid)
    else match s.attestRefused with
      | some e => s.refuse t e
      | none =>
        let open_ := s.sessionsOn t
        if 2 ≤ open_.length then s.respond t (.error .sessionLimit)
        else
          let id := if open_.any (fun x => x.id == 0) then 1 else 0
          let (share, s) := s.generate 96
          s.signed (fun _ sig s =>
            (s.modRidge (fun r => { r with sessions := r.sessions ++ [⟨id, doeOf t, false⟩] })).respond t (.keyExchange id share sig)))

/-- The session of a transport with that number. -/
def State.session (s : State) (t : Transport) (id : Nat) : Option Session := (s.sessionsOn t).find? (fun x => x.id == id)

/-- A request inside a session, which is open and, but for FINISH, established. -/
def State.inSession (s : State) (t : Transport) (id : Nat) (established : Bool) (run : State → State) : State :=
  s.spdm t 3 (fun s =>
    match s.session t id with
    | some x => if x.confirmed = established then run s else s.respond t (.error .unexpected)
    | none => s.respond t (.error .unexpected))

/-- FINISH establishes the session. -/
def State.spdmFinish (s : State) (t : Transport) (id : Nat) : State :=
  s.inSession t id false (fun s =>
    (s.modRidge (fun r => { r with
      sessions := r.sessions.map (fun x => if x.overDoe = doeOf t ∧ x.id = id then { x with confirmed := true } else x) })).respond t (.finished id))

/-- HEARTBEAT and KEY_UPDATE answer; session keys are not state that the spec gives (log entry 16). -/
def State.spdmHeartbeat (s : State) (t : Transport) (id : Nat) : State :=
  s.inSession t id true (fun s => s.respond t (.heartbeatAck id))
def State.spdmKeyUpdate (s : State) (t : Transport) (id : Nat) : State :=
  s.inSession t id true (fun s => s.respond t (.keyUpdateAck id))

/-- END_SESSION closes the session. -/
def State.spdmEndSession (s : State) (t : Transport) (id : Nat) : State :=
  s.inSession t id true (fun s =>
    (s.modRidge (fun r => { r with sessions := r.sessions.filter (fun x => !(x.overDoe == doeOf t && x.id == id)) })).respond t (.endSessionAck id))

/-- CHUNK_SEND: chunks arrive in order; the request that they carry follows as its own row (log entry 16). -/
def State.spdmChunkSend (s : State) (t : Transport) (handle seq : Nat) (last : Bool) : State :=
  s.spdm t 3 (fun s =>
    let c := s.conn t
    let ok := match c.chunkIn with
      | none => seq == 0
      | some (h, n) => h == handle && n == seq
    if !ok then (s.setConn t { c with chunkIn := none }).respond t (.error .invalid)
    else (s.setConn t { c with chunkIn := if last then none else some (handle, seq + 1) }).respond t (.chunkSendAck handle seq))

/-- CHUNK_GET: the next part of the large response. -/
def State.spdmChunkGet (s : State) (t : Transport) (handle seq : Nat) : State :=
  s.spdm t 3 (fun s =>
    let c := s.conn t
    match c.chunkOut with
    | none => s.respond t (.error .unexpected)
    | some (h, n, bs) =>
      if h ≠ handle ∨ n ≠ seq then s.respond t (.error .invalid)
      else
        let rest := bs.drop 4084
        (s.setConn t { c with chunkOut := if rest.isEmpty then none else some (h, n + 1, rest) }).respond t
          (.chunkResponse handle seq rest.isEmpty (bs.take 4084)))

/-! ### IDE_KM (R158) -/

/-- Keys of PFh's port can be programmed: Ridge is up and a session over its DOE is established. -/
def State.kmReady (s : State) (h : Nat) : Bool :=
  s.ridge.running && s.ridgeLive && !s.on GLOBAL_STATUS.ridge_down && s.linkUp h
    && s.ridge.sessions.any (fun x => x.overDoe == some h && x.confirmed)

/-- What QUERY reports. -/
def State.kmQuery (s : State) (h : Nat) : KmRsp :=
  .queryResp ((List.range 9).map (fun i => let x := s.ideStream h i; (i, x.keys.map (fun k => k.1), x.active)))

/-- An IDE_KM message takes effect; answers the response. -/
def State.kmEffect (s : State) (h : Nat) : IdeKm → KmRsp × State
  | .query => (s.kmQuery h, s)
  | .keyProg i k key => (.kpAck i.val k.val, s.progKey h i.val k.val key)
  | .kSetGo i k => (.goStopAck i.val k.val, s.setGo h i.val k.val)
  | .kSetStop i k => (.goStopAck i.val k.val, s.setStop h i.val k.val)

/-- The established session of lowest number over PFh's DOE. -/
def State.kmSession (s : State) (h : Nat) : Nat :=
  ((s.ridge.sessions.find? (fun x => x.overDoe == some h && x.confirmed)).map (fun x => x.id)).getD 0

/-- An IDE_KM message of a row of its own, in an established session of PFh's DOE. -/
def State.km (s : State) (h : HostId) (m : IdeKm) : State :=
  if s.kmReady h.val then
    let (r, t) := s.kmEffect h.val m
    t.respond (.doe h) (.ideKm (s.kmSession h.val) r)
  else s

/-- VENDOR_DEFINED_REQUEST: IDE_KM in a session over a DOE; over MCTP it is not supported. While ridge_down is 1 keys cannot be
programmed: the request is answered with an error (R158, R420, log entry 16). -/
def State.spdmVendor (s : State) (t : Transport) (id : Nat) (m : IdeKm) : State :=
  match t with
  | .mctp _ => s.spdm t 3 (fun s => s.respond t (.error (.unsupported 0xFE)))
  | .doe h =>
    s.inSession t id true (fun s =>
      if s.on GLOBAL_STATUS.ridge_down then s.respond t (.error .unexpected)
      else
        let (r, u) := s.kmEffect h.val m
        u.respond t (.ideKm id r))

/-- Any other request (R420). -/
def State.spdmUnsupported (s : State) (t : Transport) (code : Nat) : State :=
  s.spdm t 0 (fun s => s.respond t (.error (.unsupported code)))

/-- DOE Abort ends the exchange in progress (R419). -/
def State.abortDoe (s : State) (h : Nat) : State :=
  if s.linkUp h && s.isUp then s.doeAbort h else s

end Sys2Proof.Machine
end

