-- ==== Sys2Proof/Machine/Views.lean ====
section
/-! DEFINITION. What a register reads as (R32, R45): its stored fields, the fields that report other state, and the values
that an open transaction has staged. -/

namespace Sys2Proof.Machine

/-- Word with a field at a value. -/
def Fld.into (F : Fld) (v : Nat) (w : Word) : Word := setBits w F.lo F.len v

/-- State as the holder of an open transaction sees it: the staged words loaded, with what follows from them (R45). -/
def State.seenBy (s : State) (c : Option Nat) : State :=
  match c with
  | some c => if s.get TXN_STATUS.state c = 1 then s.resulting (s.txn c).staged else s
  | none => s

/-- Ports of a PF as FUNC_OWNED2 counts them; 0 for a VF (R200). -/
def State.portCount (s : State) (f : Nat) : Nat := if f < 4 then (s.portsOf f).length else 0

/-- BAR4 reads on a virtual channel that wait for reserve (R287). -/
def State.rsvWaiting (s : State) (p v : Nat) : Nat :=
  min 1023 ((s.port p).reads.filter (fun r => r.v == v && !r.granted && !r.flush && !r.down)).length

/-- State of an engine as TE_STATUS reports it: 3 while its group does not run or awaits recovery. -/
def State.engState (s : State) (e : Nat) : Nat :=
  if (s.eng e).offline || s.egState (e / 8) != 0 then 3 else s.get TE_STATUS.state e

/-- LOCAL_RESETj_N asserted on the ports of a bay, bit j. -/
def State.resetsOut (s : State) (b : Nat) : Nat :=
  (List.range 4).foldl (fun n j => n + 2 ^ j * b2n (s.localResetN (4 * b + j))) 0

/-- Port whose transaction or scheduling block a register belongs to, where a scarfed pair shows that of JP2k alone (R294, R375). -/
def pairPort (k : RegKind) (i : Nat) : Option Nat :=
  match k with
  | .SCHED_PORT_CTRL | .SCHED_PORT_BUSY | .JT_TAGS | .JT_TIME_CTRL | .JT_ERR_LOG | .JT_ERR_ADDR | .JT_SCARF => some i
  | .SCHED_RSV_VC => some (i / 8)
  | _ => none

/-- The register is one of JP2k+1 that reads 0 under a scarfed port. -/
def State.reads0 (s : State) (k : RegKind) (i : Nat) : Bool :=
  match pairPort k i with
  | some p => s.lead p != p
  | none => false

/-- Word of a register with the fields that report other state (R130, R145, R200, R205, R224, R245, R269, R286, R287, R357, R395,
R438, R439, R447). `t` is the state as the reader's open transaction would make it: only the counts of owned resources
follow it. A queue held for a move reads as quiescing while its channel still runs to its boundary. -/
def State.derived (s t : State) (k : RegKind) (i : Nat) (w : Word) : Word :=
  if s.reads0 k i then 0 else
  match k with
  | .FUNC_ID => FUNC_ID.exists.into (b2n (s.existsFn i || (s.func i).clearing)) w
  | .FUNC_OWNED =>
    FUNC_OWNED.queues.into (t.queuesOf i).length
      (FUNC_OWNED.peg_sources.into (t.pegsOf i).length (FUNC_OWNED.segments.into (t.segmentsOf i).length w))
  | .FUNC_OWNED2 => FUNC_OWNED2.vectors.into (t.vectorsOf i).length (FUNC_OWNED2.ports.into (t.portCount i) w)
  | .FUNC_FLR => FUNC_FLR.host_tags.into (s.hostTagsOf i) (FUNC_FLR.local_tags.into (min 65535 (s.localTagsOf i)) w)
  | .HP_TAG =>
    HP_TAG.in_use.into ((s.host i).tags.filter (fun e => !e.2.held)).length (HP_TAG.mode.into (s.tagMode i) w)
  | .JT_TAGS => JT_TAGS.module_tags.into (s.port i).ltags.length (JT_TAGS.device_tags.into (s.port i).dtags.length w)
  | .JT_SCARF => JT_SCARF.joined.into (b2n (s.scarfed i)) w
  | .SCHED_HOSTCPL => SCHED_HOSTCPL.reserved_bytes.into (s.cplSpace i) (SCHED_HOSTCPL.waiting.into ((s.host i).waiting.filter (fun r => !r.posted)).length w)
  | .SCHED_RSV_VC =>
    SCHED_RSV_VC.reserved_bytes.into (s.reserveOf (i / 8) (i % 8)) (SCHED_RSV_VC.waiting.into (s.rsvWaiting (i / 8) (i % 8)) w)
  | .SCHED_PORT_BUSY => SCHED_PORT_BUSY.busy_until.into (max s.devtime (s.get SCHED_PORT_BUSY.busy_until i)) w
  | .LEDGER_STATUS => LEDGER_STATUS.valid_segments.into s.segsListed.length w
  | .PRT_CTRL => PRT_CTRL.up.into (b2n (s.portAvailable i)) (PRT_CTRL.scarfed.into (b2n (s.scarfed i)) w)
  | .BAY_STATUS => BAY_STATUS.reset_out.into (s.resetsOut i) w
  | .Q_STATE =>
    if (s.queue i).moving && decide (1 ≤ s.get Q_STATE.state i ∧ s.get Q_STATE.state i ≤ 4) then Q_STATE.state.into 8 w else w
  | .TE_STATUS => TE_STATUS.state.into (s.engState i) w
  | .TE_PACE =>
    match (s.eng i).q with
    | some q => TE_PACE.eff_cap.into (s.effCap q) (TE_PACE.step.into (s.get PWR_THROTTLE.step) w)
    | none => w
  | .FAULT_TOP => s.faultTop
  | .RSS_STATUS => RSS_STATUS.busy.into (b2n s.rssBusy) w
  | .RSS_WEAR => RSS_WEAR.tokens.into (s.rss.wear / 1000000000) w
  | .PLUMB_IN => (s.plumb.input i 0).zeroExtend 64
  | .PLUMB_INX => (s.plumb.input (60 + i / 64) (i % 64)).zeroExtend 64
  | .PLUMB_ACTIVE => (s.plumb.active.getD i 0).zeroExtend 64
  | .PLUMB_SHADOW => (s.plumb.shadow.getD i 0).zeroExtend 64
  | .SEC_STATUS => s.secStatus
  | .RNG_STATUS => s.rngStatus
  | .DEVTIME_NOW => BitVec.ofNat 64 s.devtime
  | .MEAS_SLOT => BitVec.ofNat 64 (leAt (digestBytes (s.measSlot (i / 6))) (8 * (i % 6)) 8)
  | _ => w

/-- What register `i` of a kind reads as, for a reader with context `c`: staged bits show while its transaction is open. -/
def State.view (s : State) (c : Option Nat) (k : RegKind) (i : Nat) : Word :=
  let w := (s.readWord c (k.wordOf i))
  let p : Part := ⟨k, i, k.addr i % 8 * 8⟩
  let v := halfAt w p
  match k with
  | .FUNC_OWNED | .FUNC_OWNED2 => s.derived (s.seenBy c) k i v
  | _ => s.derived s k i v

end Sys2Proof.Machine
end

