-- ==== Sys2Proof/Machine/Access.lean ====
section
/-! DEFINITION. Register accesses: what an agent's map shows where, its rights, the effect of a write by access type, and
the register ring (R13, R14, R32, R39 to R54, R438, R458). -/

namespace Sys2Proof.Machine

/-! ### Maps (R42, R51, R52, R178, R458) -/

/-- What an aligned 8-byte word of an agent's map holds: part of a register, a live counter, a counter of a scribe bank,
four VF_QMAP entries, a slot that holds no resource, or a reserved place in the entry of a register or counter. -/
inductive Tgt where
  | reg (p : Part)
  | live (o : Nat)
  | bank (b o : Nat)
  | map (f k : Nat)
  | empty
  | gap (k : RegKind) (i : Nat)
  | ctrGap (o : Nat)
  deriving DecidableEq, Repr

/-- The function's registers are a 64 KiB page: a VF, or PF0 in the compatibility view (R51, R178). -/
def State.paged (s : State) (f : Nat) : Bool := decide (4 ≤ f) || s.compatFn f

/-- Queue pair in slot `k` of a page (R52, R178). -/
def State.slot (s : State) (f k : Nat) : Option Nat :=
  if s.compatFn f then (if k < 12 ∧ s.get Q_CFG.owner k = 0 then some k else none) else find1 k (s.func f).slots

/-- Peg sources that a page shows, in order: those of JP0 to JP11 in the compatibility view (R51, R177). -/
def State.pagePegs (s : State) (f : Nat) : List Nat :=
  ((s.pegsOf f).filter (fun i => !s.compatFn f || decide (i < 256 * 12))).take 512

/-- Parts of the registers at BAR0 offset `a`, as targets. -/
def regTargets (a : Nat) : List Tgt := (wordParts (a / 8)).map Tgt.reg

/-- Entry whose block holds a reserved place at offset `o`: the entries that a view can hide (R47, R48). -/
def gapAt (o : Nat) : List Tgt :=
  if 0x10000 ≤ o ∧ o < 0x15000 then [.gap .TXN_CTRL ((o - 0x10000) / 0x1000)]
  else if 0x40000 ≤ o ∧ o < 0x80000 then [.gap .FUNC_STATE ((o - 0x40000) / 0x100)]
  else if 0x100000 ≤ o ∧ o < 0x300000 then [.gap .SEG_CTRL ((o - 0x100000) / 0x20)]
  else if 0x300000 ≤ o ∧ o < 0x400000 then [.gap .Q_CFG ((o - 0x300000) / 0x100)]
  else if 0x600000 ≤ o ∧ o < 0x6C0000 then [.gap .PEG_SRC_CTRL ((o - 0x600000) / 0x20)]
  else if 0x710000 ≤ o ∧ o < 0x720000 then [.gap .MB_CTRL ((o - 0x710000) / 0x4000)]
  else if 0x800000 ≤ o ∧ o < 0xB00000 ∧ !ctrNamed (o % 0x100000) then [.ctrGap (o % 0x100000)]
  else []

/-- The 8-byte word at offset `o` of the full map. -/
def mapTargets (o : Nat) : List Tgt :=
  match regTargets o with
  | [] =>
    if 0x800000 ≤ o ∧ o < 0x900000 ∧ ctrNamed (o - 0x800000) then [.live (o - 0x800000)]
    else if 0x900000 ≤ o ∧ o < 0xA00000 ∧ ctrNamed (o - 0x900000) then [.bank 0 (o - 0x900000)]
    else if 0xA00000 ≤ o ∧ o < 0xB00000 ∧ ctrNamed (o - 0xA00000) then [.bank 1 (o - 0xA00000)]
    else []
  | ts => ts

/-- The 8-byte word at offset `o` of the page of function `f`. -/
def State.pageTargets (s : State) (f o : Nat) : List Tgt :=
  if o < 0x100 then regTargets (0x40000 + 0x100 * f + o)
  else if o < 0x200 then [.map f ((o - 0x100) / 2)]
  else if o = 0x200 then [.reg ⟨.DEVTIME_NOW, 0, 0⟩]
  else if o < 0x2000 then []
  else if o < 0x2100 then (if o < 0x2088 then [.live (fnCtr f ((o - 0x2000) / 8))] else [])
  else if o < 0x3900 then
    match s.slot f ((o - 0x2100) / 0x30) with
    | some q => [.live (queueCtr q ((o - 0x2100) % 0x30 / 8))]
    | none => [.empty]
  else if o < 0x4000 then []
  else if o < 0x8000 then
    match (s.pagePegs f)[(o - 0x4000) / 0x20]? with
    | some i => regTargets (0x600000 + 0x20 * i + o % 0x20)
    | none => [.empty]
  else if o < 0x10000 then
    match s.slot f ((o - 0x8000) / 0x100) with
    | some q => regTargets (0x300000 + 0x100 * q + o % 0x100)
    | none => [.empty]
  else []

/-- The 8-byte word at offset `o` of an agent's map. -/
def State.targets (s : State) (a : Agent) (o : Nat) : List Tgt :=
  match a with
  | .ridge => mapTargets o
  | .fn f => if s.paged f then s.pageTargets f o else mapTargets o

/-- Size of the map. -/
def State.mapSize (s : State) : Agent → Nat
  | .ridge => 2 ^ 24
  | .fn f => if s.paged f then 2 ^ 16 else 2 ^ 24

/-- Region that holds a target (R14, R25; log entry 21). -/
def Tgt.region : Tgt → Nat
  | .reg p => partRegion p
  | .live o => ctrRegion o
  | _ => 34

/-- Bits of the 8-byte word that a target takes. -/
def Tgt.bits : Tgt → Word
  | .reg p => maskBits p.sh (8 * p.kind.place.bytes)
  | _ => BitVec.allOnes 64

/-! ### Views (R47, R48, R51, R207, R458) -/

/-- What an agent may do. -/
inductive Right where
  | none | read | write
  deriving DecidableEq, Repr

/-- A resource is own to PFh: its own or one of its VFs'. -/
def ownTo (h : Nat) (f : Nat) : Bool := fnPf f == h

/-- Entry `i` of an ownership block is own to PFh (R47, R207). -/
def State.ownEntry (s : State) (h : Nat) (k : RegKind) (i : Nat) : Bool :=
  match k.place.block with
  | .LEDGER =>
    if s.segValid i then ownTo h (s.get SEG_CTRL.owner i)
    else decide (s.get LEDGER_GRANT.first h ≤ i ∧ i ≤ s.get LEDGER_GRANT.last h)
  | .QCTX => ownTo h (s.get Q_CFG.owner (if k = .Q_HELD_CMP then i / 4 else i))
  | .PEG =>
    if k = .PEG_VMAP then !s.on PEG_VMAP.assigned i || ownTo h (s.get PEG_VMAP.function_ i)
    else ownTo h (s.get PEG_SRC_CTRL.owner i)
  | _ => false

/-- Right of the configuration owner, and of another PF with `mine` telling whether the place is its own. -/
def ownerElse (owner : Bool) (mine : Bool) (other : Right) : Right := if owner || mine then .write else other

/-- Mailbox that a mailbox register belongs to. -/
def mailboxOf (k : RegKind) (i : Nat) : Nat := if k = .MB_REQ ∨ k = .MB_RSP then i / 512 else i

/-- Right of PFh to register `i` of a kind (R47). Only Ridge writes BRACE_TRESTLE (R404). -/
def State.pfRight (s : State) (h : Nat) (k : RegKind) (i : Nat) : Right :=
  let owner := s.owner == h
  match k.place.block with
  | .TXN => if i = h then .write else if owner && decide (i < 4) then .read else .none
  | .MAILBOX => if mailboxOf k i = h then .write else .none
  | .FUSE => .read
  | .BRACE => if k = .BRACE_TRESTLE then .read else ownerElse owner false .read
  | .HOSTPORT => ownerElse owner (i == h) .read
  | .FUNC => ownerElse owner (ownTo h i) .none
  | .LEDGER | .QCTX | .PEG => ownerElse owner (s.ownEntry h k i) .none
  | .JOIST => ownerElse owner (s.get PRT_CTRL.owner (joistPort (k.wordOf i)) == h) .read
  | _ => ownerElse owner false .read

/-- Right of Ridge (R47): every block, but the fuse block takes no write and a context belongs to its PF. -/
def ridgeRight (k : RegKind) (i : Nat) : Right :=
  match k.place.block with
  | .FUSE => .read
  | .TXN => if i = 4 then .write else .read
  | _ => .write

/-- A counter is own to PFh; `none` where it is module-wide (R456). DESIGN CHOICE: a reserved offset behind the last port or lane is
judged by the owner of a port that does not exist, which reads 0 (log entry 28). -/
def State.ctrOwn (s : State) (h o : Nat) : Option Bool :=
  if o < 0x40000 then some (ownTo h (o / 0x100))
  else if o < 0x80000 then some (ownTo h (s.get Q_CFG.owner ((o - 0x40000) / 0x40)))
  else if o < 0x88000 then some (s.get PRT_CTRL.owner ((o - 0x80000) / 0x100) == h)
  else if o < 0x90000 then some (s.get PRT_CTRL.owner (lanePort ((o - 0x88000) / 0x80)) == h)
  else none

/-- Right of PFh to a live counter. -/
def State.ctrRight (s : State) (h o : Nat) : Right :=
  if s.owner = h then .write
  else match s.ctrOwn h o with
    | some b => if b then .write else .none
    | none => .read

/-- A bank is read only. -/
def Right.readOnly : Right → Right
  | .none => .none
  | _ => .read

/-- Right of an agent to a target of its map. DEDUCED (log entry 28): a write to the read-only places VF_QMAP and VF_DEVTIME is a write
to what the view shows read only, and counted (R48, R51). -/
def State.right (s : State) (a : Agent) (t : Tgt) : Right :=
  match a with
  | .ridge => match t with
    | .reg p => ridgeRight p.kind p.idx
    | _ => .write
  | .fn f =>
    if s.paged f then match t with
      | .reg p => if p.kind = .DEVTIME_NOW then .read else .write
      | .live _ => .write
      | .map _ _ => .read
      | _ => .none
    else match t with
      | .reg p => s.pfRight f p.kind p.idx
      | .live o => s.ctrRight f o
      | .bank _ o => if s.owner = f then .write else (s.ctrRight f o).readOnly
      | .gap k i => if s.pfRight f k i = .none then .none else .write
      | .ctrGap o => if s.ctrRight f o = .none then .none else .write
      | _ => .none

/-- Counts a view denial of a function (R48). -/
def State.deny (s : State) : Agent → State
  | .fn f => s.bump (fnCtr f 2)
  | .ridge => s

/-- Context whose staged values an agent reads (R45). -/
def State.readCtx (s : State) (a : Agent) : Option Nat :=
  match a with
  | .ridge => some 4
  | .fn f => if s.paged f then none else some f

/-! ### Reading -/

/-- Four VF_QMAP entries from slot `k` (R51). -/
def State.qmap (s : State) (f k : Nat) : Word :=
  (List.range 4).foldl (fun w j => setBits w (16 * j) 16 ((s.slot f (k + j)).getD 0xFFFF)) 0

/-- What a target reads as, in its place in the word. -/
def State.readTgt (s : State) (a : Agent) (t : Tgt) : Word :=
  match t with
  | .reg p => s.view (s.readCtx a) p.kind p.idx <<< p.sh
  | .live o => s.liveCtr o
  | .bank b o => Tbl.get 0 (if b = 0 then s.bankA else s.bankB) o
  | .map f k => s.qmap f k
  | .empty | .gap _ _ | .ctrGap _ => 0

/-- The agent's map is the full one. -/
def State.fullMap (s : State) : Agent → Bool
  | .ridge => true
  | .fn f => !s.paged f

/-- Targets of an 8-byte word that some of its bits `m` reach; where they reach no register, the entry of the place. -/
def State.touched (s : State) (a : Agent) (o : Nat) (m : Word) : List Tgt :=
  match (s.targets a o).filter (fun t => (t.bits &&& m) != 0) with
  | [] => if s.fullMap a && m != 0 then gapAt o else []
  | ts => ts

/-- Reads the bits `m` of the 8-byte word at offset `o`: 0 outside the view, which is counted (R39, R41, R48). -/
def State.readUnit (s : State) (a : Agent) (o : Nat) (m : Word) : Word × State :=
  let ts := s.touched a o m
  let seen := ts.filter (fun t => s.right a t != .none)
  let v := seen.foldl (fun v t => v ||| s.readTgt a t) 0 &&& m
  (v, if seen.length = ts.length then s else s.deny a)

/-! ### Writing (R32, R36, R44) -/

/-- The register after its plain fields have taken a write: RW and RWS bits loaded, W1C bits cleared by ones. -/
def plainWrite (k : RegKind) (old v m : Word) : Word :=
  let rw := k.maskWhere (fun f => !f.ret && (f.acc == .rw || f.acc == .rws)) &&& m
  let clear := k.maskWhere (fun f => f.acc == .w1c) &&& m &&& v
  mergeBits old v rw &&& ~~~ clear

/-- State with a plain write of register `i`. -/
def State.plain (s : State) (k : RegKind) (i : Nat) (v m : Word) : State := s.setWord k i (plainWrite k (s.word k i) v m)

/-- Value that a write gives to a field whose bits it covers, 0 otherwise. -/
def written (F : Fld) (v m : Word) : Nat := getBits (v &&& m) F.lo F.len

/-- The write covers a field. -/
def covers (F : Fld) (m : Word) : Bool := getBits m F.lo F.len != 0

/-- TXN_CTRL (R123). -/
def State.writeTxnCtrl (s : State) (c : Nat) (v m : Word) : State :=
  match written TXN_CTRL.op v m with
  | 1 => s.txnBegin c
  | 2 => s.txnCommit c (written TXN_CTRL.persist v m == 1)
  | 3 => s.txnRollback c
  | _ => s

/-- Ring registers load only while the queue is disabled; a write that would change one sets cmd_rejected (R246).
cq_vec_en always loads. -/
def State.writeRing (s : State) (k : RegKind) (q : Nat) (v m : Word) : State :=
  let old := s.word k q
  let new := plainWrite k old v m
  if s.get Q_STATE.state q = 0 then s.setWord k q new
  else
    let free : Word := if k = .Q_RING then maskBits 16 1 else 0
    let kept := mergeBits old new free
    (if kept = new then s else s.rejectCmd q).setWord k q kept

/-- MB_CTRL (R428). -/
def State.writeMbCtrl (s : State) (h : Nat) (v m : Word) : State :=
  let s := s.plain .MB_CTRL h v m
  let s := if written MB_CTRL.go v m = 1 then s.mbGo h else s
  if written MB_CTRL.abort v m = 1 then s.mbAbort h else s

/-- MB_CMD and MB_REQ keep their values while the mailbox is busy (R429). -/
def State.writeMbData (s : State) (k : RegKind) (i : Nat) (v m : Word) : State :=
  if s.get MB_STATUS.state (mailboxOf k i) = 1 then s else s.plain k i v m

/-- BRACE_CLASS of a code with a threshold; of a severe, notice or unused code a write changes nothing (R409). -/
def State.writeClass (s : State) (i : Nat) (v m : Word) : State :=
  match codeClass (i / 64) (i % 64) with
  | some .corrected | some .fault => s.plain .BRACE_CLASS i v m
  | _ => s

/-- JL_CTRL and JL_PRBS: the test fields act together (R315 to R317). -/
def State.writeTest (s : State) (k : RegKind) (l : Nat) (v m : Word) : State :=
  let t := s.plain k l v m
  let fs := [JL_CTRL.loop, JL_PRBS.gen_en, JL_PRBS.chk_en, JL_PRBS.pattern, JL_PRBS.invert]
  let err := t.get JL_PRBS.err l
  let s := s.put JL_PRBS.err l err
  if fs.all (fun F => s.get F l == t.get F l) then s
  else s.laneTest l (t.get JL_CTRL.loop l) (t.get JL_PRBS.gen_en l) (t.get JL_PRBS.chk_en l) (t.get JL_PRBS.pattern l)
    (t.get JL_PRBS.invert l)

/-- JP_CTRL (R350). A scarfed port is controlled by the registers of JP2k alone (R367). -/
def State.writeJpCtrl (s : State) (p : Nat) (v m : Word) : State :=
  if s.lead p ≠ p then s
  else
    let s := if written JP_CTRL.retrain v m = 1 then s.retrainPort p else s
    if written JP_CTRL.port_reset v m = 1 then s.resetPort p else s

/-- PEG_SRC_CMD (R377, R378). -/
def State.writePegCmd (s : State) (i : Nat) (v m : Word) : State :=
  let s := if written PEG_SRC_CMD.eos v m = 1 then s.eosPeg i else s
  if written PEG_SRC_CMD.raise v m = 1 then s.raisePeg i none none else s

/-- Holder code and trigger source of an agent (R461, R465). -/
def holderOf : Agent → Nat
  | .fn f => f.val + 1
  | .ridge => 5
def sourceOf : Agent → Nat
  | .fn _ => 1
  | .ridge => 2

/-- SCRIBE_CMD (R459, R461). -/
def State.writeScribeCmd (s : State) (a : Agent) (v m : Word) : State :=
  let s := if written SCRIBE_CMD.trigger v m = 1 then s.trigger (sourceOf a) none else s
  let s := if written SCRIBE_CMD.trigger_hold v m = 1 then s.trigger (sourceOf a) (some (holderOf a)) else s
  let s := if written SCRIBE_CMD.hold_a v m = 1 then s.holdBank 0 (holderOf a) else s
  let s := if written SCRIBE_CMD.hold_b v m = 1 then s.holdBank 1 (holderOf a) else s
  let s := if written SCRIBE_CMD.release_a v m = 1 then s.releaseBank 0 else s
  if written SCRIBE_CMD.release_b v m = 1 then s.releaseBank 1 else s

/-- SCRIBE_CTRL: the period runs from the write (R459). -/
def State.writeScribeCtrl (s : State) (v m : Word) : State :=
  let s := s.plain .SCRIBE_CTRL 0 v m
  if covers SCRIBE_CTRL.period_ms m then s.startPeriod else s

/-- A width field takes the next lower width of the set (R162). -/
def State.roundWidth (s : State) (F : Fld) (h : Nat) : State := s.put F h (widthBelow (s.get F h))

/-- Effect of a write on the fields of register `i` that are not ret fields; `v` and `m` are the register's own bits. -/
def State.writeReg (s : State) (a : Agent) (k : RegKind) (i : Nat) (v m : Word) : State :=
  match k with
  | .TXN_CTRL => s.writeTxnCtrl i v m
  | .Q_CMD => s.queueCmd i (written Q_CMD.op v m)
  | .Q_SQ_BASE | .Q_CQ_BASE | .Q_RING => s.writeRing k i v m
  | .MB_CTRL => s.writeMbCtrl i v m
  | .MB_CMD | .MB_REQ => s.writeMbData k i v m
  | .BRACE_CLASS => s.writeClass i v m
  | .FAULT_DETAIL => s.clearDetail i (v &&& m)
  | .BRACE_RELEASE => if covers BRACE_RELEASE.domain m then s.release (written BRACE_RELEASE.domain v m) else s
  | .BRACE_TRESTLE =>
    let s := s.plain k i v m
    if written BRACE_TRESTLE.alive v m = 1 then s.takeAlive else s
  | .JL_CTRL | .JL_PRBS => s.writeTest k i v m
  | .JP_CTRL => s.writeJpCtrl i v m
  | .BAY_CTRL => if written BAY_CTRL.bay_reset v m = 1 then s.resetBay i else s
  | .PEG_SRC_CMD => s.writePegCmd i v m
  | .RSS_CTRL => if written RSS_CTRL.compact v m = 1 then (s.put RSS_CTRL.compact 0 1).compactAsked else s
  | .HP_LTR => (s.plain k i v m).sendLtr i
  | .GLOBAL_CTRL => (s.plain k i v m).takeSteering s.steeringPort
  | .HP_LINK_CTRL => (s.plain k i v m).roundWidth HP_LINK_CTRL.max_width i
  | .HP_PM_CTRL => (s.plain k i v m).roundWidth HP_PM_CTRL.l0p_min_width i
  | .SCRIBE_CTRL => s.writeScribeCtrl v m
  | .SCRIBE_CMD => s.writeScribeCmd a v m
  | _ => s.plain k i v m

/-- Effect of a write on one target; `v` and `m` are bits of the 8-byte word. -/
def State.writeTgt (s : State) (a : Agent) (v m : Word) (t : Tgt) : State :=
  match t with
  | .reg p => s.writeReg a p.kind p.idx (halfAt v p) (halfAt (m &&& t.bits) p)
  | .live o => s.presetCtr o (mergeBits (s.liveCtr o) v m)
  | _ => s

/-- Ret bits of a target, in place. -/
def Tgt.retBits : Tgt → Word
  | .reg p => p.kind.retMask <<< p.sh
  | _ => 0

/-- BAR0 word of a target that is part of a register. -/
def Tgt.word? : Tgt → Option Nat
  | .reg p => some (p.kind.wordOf p.idx)
  | _ => none

/-- Writes the bits `m` of the 8-byte word at offset `o`. What the view refuses is discarded and counted once; ret fields
are staged or applied under R44, in the writer's context. -/
def State.writeUnit (s : State) (a : Agent) (o : Nat) (v m : Word) : State :=
  let ts := s.touched a o m
  let mine := ts.filter (fun t => s.right a t == .write)
  let ret := mine.foldl (fun w t => w ||| (t.retBits &&& m)) 0
  let denied := mine.length ≠ ts.length ∨ (ret ≠ 0 ∧ s.readCtx a = none)
  let s := if denied then s.deny a else s
  let t := mine.foldl (fun t x => t.writeTgt a v m x) s
  match s.readCtx a, mine.findSome? Tgt.word? with
  | some c, some w => if ret = 0 then t else t.retWrite c w v ret
  | _, _ => t

/-! ### The register ring (R13, R14) -/

/-- Master of the ring that an agent uses: its host port, or Ridge. -/
def masterOf : Agent → Nat
  | .fn f => fnPort f.val
  | .ridge => 4

/-- Master of a waiting access. -/
def RingAccess.master : RingAccess → Nat
  | .read _ a _ _ _ _ _ => masterOf a
  | .write _ a _ _ => masterOf a
  | .mctpRead _ _ => 4
  | .mctpWrite _ _ _ => 4
  | .named _ a _ _ _ _ => masterOf a

/-- Value and enable mask of the bytes of a write within the 8-byte word at offset `o`, whose first byte is `off`. -/
def unitBits (o off : Nat) (bs : WriteBytes) : Word × Word :=
  (List.range 8).foldl (fun (acc : Word × Word) j =>
    if o + j < off then acc
    else match bs[o + j - off]? with
      | some (some b) => (setBits acc.1 (8 * j) 8 b.toNat, acc.2 ||| maskBits (8 * j) 8)
      | _ => acc) (0, 0)

/-- Mask of the `n` bytes from `off` within the 8-byte word at offset `o`. -/
def spanBits (o off n : Nat) : Word :=
  (unitBits o off (List.replicate n (some 0))).2

/-- Bytes of a word that a read of `n` bytes from `off` returns. -/
def spanBytes (w : Word) (off n : Nat) : List Byte := sliceBytes (wordBytes w) (off % 8) n

/-- Bytes that a REG command accesses at an offset: the width of the register that begins there (R430). -/
def regWidth (off : Nat) : Nat :=
  match regAt off with
  | some (k, _) => min 8 k.place.bytes
  | none => if off % 8 = 0 then 8 else 4

/-- Bytes `n` from `off` of a word, those that the mask `be` enables; the others are free (log entry 7). A request that enables
none is a zero-length read: zeros (R149). -/
def State.unitBytes (s : State) (v : Word) (off n be : Nat) (zero : Bool) : List Byte × State :=
  if zero then (List.replicate n 0, s)
  else
    let bs := spanBytes v off n
    if be = 2 ^ n - 1 then (bs, s)
    else
      let (fr, s) := s.freeBytes n
      ((List.range n).map (fun j => if natBit be j then bs.getD j 0 else fr.getD j 0), s)

/-- Mask of the enabled bytes of a unit within its 8-byte word (R39). -/
def enabledBits (off n be : Nat) : Word :=
  (unitBits (off / 8 * 8) off ((List.range n).map (fun j => if natBit be j then some 0 else none))).2

/-- Data of a function's BAR0 read arrives in order: completions end at Max_Payload_Size boundaries and with the request (R148). -/
def State.collect (s : State) (f reqTag off : Nat) (bs : List Byte) (last : Bool) : State :=
  let h := fnPort f
  let all := (s.host h).regGot ++ bs
  if last || (off + bs.length) % s.mps f == 0 then
    (s.emitTlp f (.completion h f reqTag .ok all)).modHost h (fun d => { d with regGot := [] })
  else s.modHost h (fun d => { d with regGot := all })

/-- Right of an agent to register `i` of a kind, wherever its map shows it. -/
def State.rightTo (s : State) (a : Agent) (k : RegKind) (i : Nat) : Right :=
  match a with
  | .ridge => ridgeRight k i
  | .fn f =>
    if !s.paged f then s.pfRight f k i
    else match k.place.block with
      | .FUNC => if i = f.val then .write else .none
      | .QCTX => if (List.range 128).any (fun n => s.slot f n == some i) then .write else .none
      | .PEG => if k ≠ .PEG_VMAP ∧ (s.pagePegs f).contains i then .write else .none
      | _ => .none

/-- Performs an access that lies in one 8-byte word. -/
def State.perform (s : State) (x : RingAccess) : State :=
  match x with
  | .read _ a off n be reqTag last =>
    let (v, s) := s.readUnit a (off / 8 * 8) (enabledBits off n be)
    let (bs, s) := s.unitBytes v off n be (be == 0)
    (match a with
    | .ridge => s.emit (.regData a off bs)
    | .fn f => s.collect f reqTag off bs last)
  | .write _ a off bs =>
    let b := unitBits (off / 8 * 8) off bs
    s.writeUnit a (off / 8 * 8) b.1 b.2
  | .mctpRead _ off =>
    let n := regWidth off
    let (v, s) := s.readUnit .ridge (off / 8 * 8) (spanBits (off / 8 * 8) off n)
    s.emit (.mctpResponse mbOk (sliceBytes (spanBytes v off n) 0 8))
  | .mctpWrite _ off bs =>
    let b := unitBits (off / 8 * 8) off bs
    (s.writeUnit .ridge (off / 8 * 8) b.1 b.2).emit (.mctpResponse mbOk [])
  | .named _ a k i v m => if s.rightTo a k i = .write then s.writeReg a k i v m else s.deny a

/-- An access reaches the ring: it waits behind its master's earlier ones and for its region, which it wakes. -/
def State.submit (s : State) (x : RingAccess) : State :=
  let late := s.ring.any (fun y => y.master == x.master) || s.asleep x.region
  let s := s.wakeRegion x.region
  if late then { s with ring := s.ring ++ [x] } else s.perform x

/-- The waiting accesses go on as far as regions run, in each master's order. -/
def State.runRing (s : State) : State := { s with ring := [] }.each s.ring State.submit

/-- Region of the 8-byte word at offset `o` of an agent's map; the core where it holds nothing. -/
def State.regionAt (s : State) (a : Agent) (o : Nat) : Nat := ((s.targets a o).head?.map Tgt.region).getD 34

/-- Naturally aligned units of an access: offset and length (R39). -/
def unitsOf (off n : Nat) : List (Nat × Nat) :=
  if n = 0 then []
  else ((List.range ((off + n - 1) / 8 - off / 8 + 1)).map (fun i =>
    let o := 8 * (off / 8 + i)
    let a := max o off
    (a, min (o + 8) (off + n) - a)))

/-- An access by an agent arrives: 0 nothing arrives, 1 it ends with Unsupported Request, 2 it goes on the ring. A function's
host reaches it while its link is there and the function answers memory requests (R148, R160). -/
def State.reach (s : State) (a : Agent) : Nat :=
  match a with
  | .ridge => if s.ridge.running && s.ridgeLive then 2 else 0
  | .fn f => if s.unheard f then 0 else if s.memEnabled f then 2 else 1

/-- The host of a function leaves L1 for its request; Ridge has no link. -/
def State.arrive (s : State) : Agent → State
  | .fn f => s.leaveL1 (fnPort f)
  | .ridge => s

/-- A read that an agent's map does not hold: Unsupported Request for a function (R160). -/
def State.readUr (s : State) (a : Agent) (reqTag off n : Nat) : State :=
  match a with
  | .fn f => (s.arrive a).answerUr f reqTag off n
  | .ridge => s

/-- Number whose bit `j` is the `j`th of a list. -/
def maskOf (bs : List Bool) : Nat := bs.foldr (fun b m => b2n b + 2 * m) 0

/-- A read of `dws` dwords of BAR0 (REGISTER_READ): naturally aligned units in ascending order (R39). -/
def State.regRead (s : State) (a : Agent) (off dws firstBe lastBe reqTag : Nat) : State :=
  let n := 4 * dws
  let bs := enables dws firstBe lastBe
  match s.reach a with
  | 0 => s
  | 1 => s.readUr a reqTag off n
  | _ =>
    if s.mapSize a < off + n then s.readUr a reqTag off n
    else (s.arrive a).each (unitsOf off n) (fun s u =>
      s.submit (.read (s.regionAt a (u.1 / 8 * 8)) a u.1 u.2 (maskOf ((bs.drop (u.1 - off)).take u.2)) reqTag
        (u.1 + u.2 == off + n)))

/-- A register write (REGISTER_WRITE, RET_FIELD_WRITE). -/
def State.regWrite (s : State) (a : Agent) (off : Nat) (bs : WriteBytes) : State :=
  match s.reach a with
  | 0 => s
  | 1 => (match a with
    | .fn f => (s.arrive a).dropUr f off bs.length
    | .ridge => s)
  | _ =>
    if s.mapSize a < off + bs.length then (match a with
      | .fn f => (s.arrive a).dropUr f off bs.length
      | .ridge => s)
    else (s.arrive a).each (unitsOf off bs.length) (fun s u =>
      s.submit (.write (s.regionAt a (u.1 / 8 * 8)) a u.1 ((bs.drop (u.1 - off)).take u.2)))

/-! ### A write that names its register -/

/-- A write of the bits `m` of register `i` of a kind by an agent: the rows that name the register they write. It goes on
the ring as any other write does, and the right is judged there, in issue order (R13, R48). -/
def State.writeAs (s : State) (a : Agent) (k : RegKind) (i : Nat) (v m : Word) : State :=
  match s.reach a with
  | 0 => s
  | 1 => (match a with
    | .fn f => (s.arrive a).dropUr f (k.addr i) k.place.bytes
    | .ridge => s)
  | _ =>
    (s.arrive a).submit (.named (partRegion ⟨k, i, 0⟩) a k i v m)

/-- Who writes the TXN_CTRL of a context: the PF, or Ridge for context 4 (R123). -/
def ctxAgent (c : CtxId) : Agent := if c.val = 4 then .ridge else .fn (Fin.ofNat 1024 c.val)

/-- A write of one field of register `i`. -/
def State.writeField (s : State) (a : Agent) (F : Fld) (i v : Nat) : State :=
  s.writeAs a F.reg i (setBits 0 F.lo F.len v) (maskBits F.lo F.len)

/-! ### REG_READ and REG_WRITE (R430) -/

/-- A REG command: MCTP only, with a request of `len` bytes and an aligned offset. -/
def State.regCommand (s : State) (c : Caller) (op len : Nat) (act : Nat → List Byte → State → State) : State :=
  if !s.served? c op then s
  else match c with
    | .mailbox _ => s.answer c op mbNotPermitted []
    | .mctp _ req =>
      if req.length ≠ len ∨ leAt req 0 3 % 4 ≠ 0 then s.answer c op mbBadLength []
      else act (leAt req 0 3) req s

/-- REG_READ. -/
def State.mctpRegRead (s : State) (c : Caller) : State :=
  s.regCommand c 0x20 3 (fun off _ s => s.submit (.mctpRead (s.regionAt .ridge (off / 8 * 8)) off))

/-- Bytes of a REG_WRITE: data bytes 3 to 10 of the request, enables in byte 11. -/
def regBytes (off : Nat) (req : List Byte) : WriteBytes :=
  (List.range (regWidth off)).map (fun j => if bitAt ((byteAt req 11).zeroExtend 64) j then some (byteAt req (3 + j)) else none)

/-- REG_WRITE. -/
def State.mctpRegWrite (s : State) (c : Caller) : State :=
  s.regCommand c 0x21 12 (fun off req s => s.submit (.mctpWrite (s.regionAt .ridge (off / 8 * 8)) off (regBytes off req)))

end Sys2Proof.Machine
end

