-- ==== Sys2Proof/Machine/Power.lean ====
section
/-! DEFINITION. Region wakes that complete, hardware clock gating, the MSI-X table, and host events with all they end
(R34, R70, R71, R89 to R92, R194, R384 to R386). -/

namespace Sys2Proof.Machine

/-! ### Regions (R89 to R92) -/

/-- A bay that starts: its PLL starts from cold the first time since power came, which is counted (R91); a pre-biased start
that fails to lock starts again from cold, so that the bay still wakes (log entry 40). -/
def State.startBay (s : State) (b : Nat) : State :=
  let (fails, s) := if s.warm.contains b then s.pllFails else (false, s)
  if fails then { s with warm := s.warm.filter (fun x => x != b), waking := insertNat b s.waking }
  else
    let s := if s.warm.contains b then s else { (s.bump (modCtr 5)) with warm := insertNat b s.warm }
    (s.setBayState b 0).bayRunning b

/-- What waited for a region at the last arbitration point before it goes on: device writes and engine writes for the hosts, completion
entries, and frames at the Joist egress (R95). -/
def State.unmask (s : State) : State :=
  let s := s.each (List.range 4) State.drainWrites
  let s := s.each ((s.ports.filter (fun x => !x.2.egress.isEmpty)).map (fun x => x.1)) State.pump
  s.runEngines.retryEntries

/-- Regions have come to running: accesses and commits that waited for them go on, and a bay without a local device goes back
to sleep (R14, R89, R96). -/
def State.regionsRun (s : State) : State := s.runRing.nextCommits.unmask.restBays

/-- A woken region reaches running: its ports go on, accesses that waited for it complete, commits that waited go on (R14,
R92, R96). -/
def State.wakeComplete (s : State) (r : Nat) : State :=
  if s.waking.contains r && decide (s.phase ≠ .deferring) then
    let s := { s with waking := s.waking.filter (fun x => x != r) }
    let s := if s.region r = 2 ∨ s.region r = 3 then (if r < 24 then s.startBay r else s.setRegion r 0) else s
    s.regionsRun
  else s

/-- Nothing happens in a region that hardware may clock-gate (R89). -/
def State.inactive (s : State) (r : Nat) : Bool :=
  if r = 34 then
    s.ring.isEmpty && s.vecs.isEmpty && s.freed.isEmpty && s.pendingPegs.isEmpty && s.fetchCands.isEmpty && s.commits.isEmpty
      && s.hosts.all (fun h => h.2.waiting.isEmpty && h.2.tags.all (fun t => t.2.held || !t.2.req.fetches))
      && s.queues.all (fun q => q.2.arrived.isNone && q.2.extArrived.isNone && (s.on Q_STATE.cq_wait q.1 || (s.dueEntry q.1).isNone))
  else if 30 ≤ r then !s.sliceTraffic (r - 30)
  else (List.range 8).all (fun k => (s.eng (8 * (r - 24) + k)).q.isNone)

/-- 64 CCLK without activity: the core, a Truss slice or an engine group is clock-gated, unless a Plumb WAKE holds it (R89,
R451). -/
def State.gateIdle (s : State) (r : Nat) : State :=
  if 24 ≤ r ∧ r ≤ 34 ∧ s.isUp ∧ s.region r = 0 ∧ s.inactive r ∧ s.plumb.held.all (fun e => e.1 != r || e.2 == 0) then s.setRegion r 1
  else s

/-! ### Pins with a qualification time (R70, R71) -/

/-- A low on MOD_RESET_N of `n` ns: recognised from 10 us, ignored below 2 us, between them the filter's choice is free (R71,
log entry 7). -/
def State.modResetLow (s : State) (n slot : Nat) : State :=
  if 10000 ≤ n then s.holdReset slot
  else if n < 2000 then s
  else
    let (w, s) := s.freeWord
    if bitAt w 0 then s.holdReset slot else s

/-- A level on STANDBY_REQ_N is recognised once it has lasted 100 us (R71). -/
def State.standbyLow (s : State) (n : Nat) : State := if 100000 ≤ n then s.enterStandby else s
def State.standbyHigh (s : State) (n : Nat) : State := if 100000 ≤ n then s.leaveStandby else s

/-! ### Host events with what they end (R34, R194) -/

/-- PERST_N goes low. -/
def State.perstAssert (s : State) (h : Nat) : State :=
  let t := s.perstLow h
  if s.portsPowered then t.endScope h else t

/-- CPRSNT_N changes. -/
def State.cable (s : State) (h : Nat) (here : Bool) : State :=
  let t := s.cableChange h here
  if s.portsPowered && !here then t.endScope h else t

/-- What the start of an FLR of a PF ends beyond its functions: its transaction, scribe holds, SPDM (R126, R424, R461). -/
def State.flrScope (s0 s : State) (f : Nat) : State :=
  if f < 4 ∧ !s0.on FUNC_STATE.flr_active f ∧ s.on FUNC_STATE.flr_active f then s.endScope f else s

/-- The host's configuration requests reach function `f`: the link is up, the restore strobe has been given, the function
exists (R164). -/
def State.cfgReach (s : State) (f : Nat) : Bool := s.isUp && s.linkUp (fnPort f) && s.existsFn f

/-- A write to configuration space that a row names: the link leaves L1 and the core wakes (R92). -/
def State.byConfig (s : State) (f : Nat) (g : State → State) : State :=
  if s.cfgReach f then g ((s.leaveL1 (fnPort f)).wakeRegion 34) else s

/-- Initiate FLR is written. -/
def State.flr (s : State) (f : Nat) : State := s.flrScope (s.startFlr f) f

/-- A Configuration Write, with all that an FLR in it ends. -/
def State.configWriteAll (s : State) (h n dw : Nat) (data : Dword) (be busDev : Nat) : State :=
  s.flrScope (s.configWrite h n dw data be busDev) (fnOf h n)

/-- FLRs and clearings of VF Enable that waited for a generation start once no tag records it any more (R193). -/
def State.retryHeld (s : State) : State :=
  let s := s.each ((s.funcs.filter (fun e => e.2.heldFlr)).map (fun e => e.1)) (fun s f => s.flrScope (s.retryFlr f) f)
  s.each (List.range 4) (fun s h => if (s.host h).vfcHeld then s.clearVfe h else s)

/-- The blocks that move traffic act only while the module is up: before the restore strobe and after the module's end they
hold nothing (R34, R106). -/
def State.whenUp (s : State) (g : State → State) : State := if s.isUp then g s else s

/-! ### The step without a command (log entry 1) -/

/-- With no command waiting, 1 ns passes where the module has mains; nothing else happens (log entry 1). -/
def State.tick (s : State) : State := if s.powered then s.advance 1 else s

/-! ### MSI-X table (R384 to R386) -/

/-- Entries of a function's MSI-X table; PF0 in the compatibility view has none (R178). -/
def State.tableSize (s : State) (f : Nat) : Nat := if s.compatFn f then 0 else if f < 4 then 2048 else 256

/-- Value and mask of dword `j` of an entry in a write of bytes from offset `off` of the table. -/
def dwordBits (o off : Nat) (bs : WriteBytes) : Dword × Dword :=
  let b := unitBits (o / 8 * 8) off bs
  if o % 8 = 0 then (b.1.truncate 32, b.2.truncate 32) else ((b.1 >>> 32).truncate 32, (b.2 >>> 32).truncate 32)

/-- Bits of dword `j` of an entry that a write may load: address, data, and the Mask bit of Vector Control. -/
def tableBits (j : Nat) : Dword := if j = 0 then 0xFFFFFFFC else if j = 3 then 1 else 0xFFFFFFFF

/-- One dword of an entry is written; an entry that no pool vector backs ignores it (R385). -/
def State.writeEntryDword (s : State) (f e j : Nat) (v m : Dword) : State :=
  if s.backed f e then
    let m := m &&& tableBits j
    s.setMsix f e j ((s.msixWord f e j &&& ~~~ m) ||| (v &&& m))
  else s

/-- A host write of bytes from offset `off` of the table of function `f`; messages that a cleared mask lets go leave (R382). -/
def State.writeTable (s : State) (f off : Nat) (bs : WriteBytes) : State :=
  if s.unheard f then s
  else if !s.memEnabled f then (s.leaveL1 (fnPort f)).dropUr f off bs.length
  else
    let s := (s.leaveL1 (fnPort f)).wakeRegion 34
    let dws := (List.range ((off % 4 + bs.length + 3) / 4)).map (fun i => off / 4 + i)
    let s := s.each (dws.filter (fun d => d / 4 < s.tableSize f)) (fun s d =>
      let b := dwordBits (4 * d) off bs
      s.writeEntryDword f (d / 4) (d % 4) b.1 b.2)
    s.freeHeld f

/-! ### Reads of BAR2 (R40, R49, R54, R149, R385) -/

/-- Dword `j` of entry `e` of a function's MSI-X table as it reads: an entry that no vector backs reads address 0, data 0 and
masked (R385). -/
def State.readEntryDword (s : State) (f e j : Nat) : Dword :=
  if s.backed f e then s.msixWord f e j else if j = 3 then 1 else 0

/-- Pending bit of an entry as it reads (R385). -/
def State.readPba (s : State) (f e : Nat) : Bool := s.backed f e && s.pbaBit f e

/-- Size of a function's BAR2, and the offset of its MSI-X table (R49, R54, R178). -/
def State.bar2Size (s : State) (f : Nat) : Nat := if f < 4 ∧ !s.compatFn f then 2 ^ 20 else 2 ^ 16
def tableBase (f : Nat) : Nat := if f < 4 then 0x80000 else 0x8000
def pbaBase (f : Nat) : Nat := if f < 4 then 0xC0000 else 0xC000

/-- Dword at offset `o` of a function's BAR2: table, pending bit array, or 0 for a doorbell or a reserved place. -/
def State.bar2Dword (s : State) (f o : Nat) : Dword :=
  let n := s.tableSize f
  if tableBase f ≤ o ∧ o < tableBase f + 16 * n then
    s.readEntryDword f ((o - tableBase f) / 16) (o % 16 / 4)
  else if pbaBase f ≤ o ∧ o < pbaBase f + n / 8 then
    (List.range 32).foldl (fun w i => if s.readPba f (8 * (o - pbaBase f) + i) then w ||| BitVec.ofNat 32 (2 ^ i) else w) 0
  else 0

/-- A byte string cut where completions end: at multiples of `mps` counted from `off` (R148). -/
def cutData (mps : Nat) : Nat → Nat → List Byte → List (List Byte)
  | 0, _, _ => []
  | fuel + 1, off, bs =>
    if bs.isEmpty then []
    else
      let n := mps - off % mps
      bs.take n :: cutData mps fuel (off + n) (bs.drop n)

/-- A read of `dws` dwords of BAR2. A zero-length read stays behind the earlier register writes of its master (R149). -/
def State.bar2Read (s : State) (f : FnId) (off dws firstBe lastBe reqTag : Nat) : State :=
  let n := 4 * dws
  if s.unheard f then s
  else if !s.memEnabled f || decide (s.bar2Size f < off + n) then (s.leaveL1 (fnPort f)).answerUr f reqTag off n
  else
    let s := (s.leaveL1 (fnPort f)).wakeRegion 34
    if dws = 1 ∧ firstBe = 0 then s.submit (.read 34 (.fn f) off 4 0 reqTag true)
    else
      let bs := (List.range dws).flatMap (fun i => leBytes 4 (s.bar2Dword f (off + 4 * i)).toNat)
      let (fr, s) := s.freeBytes n
      let data := ((enables dws firstBe lastBe).zip (bs.zip fr)).map (fun x => if x.1 then x.2.1 else x.2.2)
      s.each (cutData (s.mps f) n off data) (fun s d => s.emitTlp f (.completion (fnPort f) f reqTag .ok d))

end Sys2Proof.Machine
end

