-- ==== Sys2Proof/Machine/ExecConfig.lean ====
section
/-! DEFINITION. Configuration space and functions (R152, R153, R164 to R183, R194). -/

namespace Sys2Proof.Machine

/-- CONFIG_READ (R164). -/
def execConfigRead (h : HostId) (n : Fin 256) (dw : Fin 1024) (s : State) : Outcome := .next (s.configRead h n dw)

/-- CONFIG_WRITE (R164). -/
def execConfigWrite (h : HostId) (n : Fin 256) (dw : Fin 1024) (data : Dword) (be : BitVec 4) (busDev : BitVec 13) (s : State) : Outcome :=
  .next (s.configWriteAll h n dw data be.toNat busDev.toNat)

/-- INITIATE_FLR (R194). -/
def execInitiateFlr (f : FnId) (s : State) : Outcome := .next (s.byConfig f (fun s => s.flr f))

/-- FLR_COMPLETE (R194). -/
def execFlrComplete (f : FnId) (s : State) : Outcome := .next (s.endSequence f)

/-- FLR_TAG_ABANDON (R194). -/
def execFlrTagAbandon (h : HostId) (tag : Nat) (s : State) : Outcome :=
  .next ((s.onExpiry (.flrTag h tag) (fun s => s.abandonTag h tag)).retryHeld)

/-- VF_ENABLE_SET (R174). -/
def execVfEnableSet (h : HostId) (s : State) : Outcome := .next (s.byConfig h (fun s => s.setVfe h))

/-- VF_ENABLE_CLEAR (R174): a set that the mirror holds is withdrawn. -/
def execVfEnableClear (h : HostId) (s : State) : Outcome :=
  .next (s.byConfig h (fun s => s.writeVfe h (s.cfgBit h 0x184 0) false))

/-- BUS_MASTER_ENABLE_CLEAR (R152). -/
def execBusMasterEnableClear (f : FnId) (s : State) : Outcome := .next (s.byConfig f (fun s => s.setBme f false))

/-- BUS_MASTER_ENABLE_SET (R153). -/
def execBusMasterEnableSet (f : FnId) (s : State) : Outcome := .next (s.byConfig f (fun s => s.setBme f true))

/-- D3HOT_ENTRY (R166). -/
def execD3hotEntry (f : FnId) (s : State) : Outcome := .next (s.byConfig f (fun s => s.setPower f 3))

/-- RESIZABLE_BAR_WRITE (R168). -/
def execResizableBarWrite (h : HostId) (vf : Bool) (size : BitVec 6) (s : State) : Outcome :=
  .next (s.byConfig h (fun s => s.resizeBar h vf size.toNat))

/-- MSI_MULTIPLE_MESSAGE_ENABLE_WRITE (R183). -/
def execMsiMultipleMessageEnableWrite (e : Fin 8) (s : State) : Outcome := .next (s.byConfig 0 (fun s => s.setMme e))

/-- EXPANSION_ROM_READ (R178). -/
def execExpansionRomRead (off : BitVec 16) (len : Nat) (s : State) : Outcome :=
  .next (if wfSpan off.toNat len then s.romRead off.toNat len else s.badRequest 0 (.malformed ⟨0, len, 0, 0, off.toNat⟩))

end Sys2Proof.Machine
end

