-- ==== Sys2Proof/Machine/ExecEngine.lean ====
section
/-! DEFINITION. Transfer engines, the reassembly reserve, the Ledger scrubber and the power regions (R89 to R92, R222,
R254 to R288, R313). -/

namespace Sys2Proof.Machine

/-- ENGINE_GRANT (R254). -/
def execEngineGrant (g : GroupId) (s : State) : Outcome := .next (s.whenUp (fun s => s.engineGrant g))

/-- RATE_LIMITER_RELEASE (R262). -/
def execRateLimiterRelease (e : EngId) (s : State) : Outcome := .next (s.whenUp (fun s => s.limiterRelease e))

/-- DRAIN_COMPLETE (R269). -/
def execDrainComplete (e : EngId) (s : State) : Outcome := .next (s.whenUp (fun s => s.drained e))

/-- ENGINE_FAULT (R271). -/
def execEngineFault (e : EngId) (kind : EngineFault) (s : State) : Outcome :=
  .next (s.whenUp (fun s => s.engineFault e kind))

/-- RESERVE_GRANT (R288). -/
def execReserveGrant (p : PortId) (v : VcId) (s : State) : Outcome := .next (s.whenUp (fun s => s.grantReserve p v))

/-- LEDGER_SCRUB (R222). -/
def execLedgerScrub (found : EccResult) (s : State) : Outcome := .next (s.scrub found)

/-- REGION_WAKE_COMPLETE (R92). -/
def execRegionWakeComplete (r : RegionId) (s : State) : Outcome := .next (s.wakeComplete r)

/-- CLOCK_GATE_IDLE (R89). -/
def execClockGateIdle (r : RegionId) (s : State) : Outcome := .next (s.gateIdle r)

/-- WAKE_TONE_DETECTED (R313). -/
def execWakeToneDetected (p : PortId) (s : State) : Outcome := .next (s.whenUp (fun s => s.toneDetected p))

end Sys2Proof.Machine
end

