-- ==== Sys2Proof/Machine/ExecFault.lean ====
section
/-! DEFINITION. Faults, recovery, Ridge failures and Trestle (R393 to R413). -/

namespace Sys2Proof.Machine

/-- FAULT_EVENT (R400). -/
def execFaultEvent (n : Fin 14) (c : Fin 64) (inst : Nat) (locator check : Word) (s : State) : Outcome :=
  s.accepted (wfCode n c) (s.faultLine n c inst locator check)

/-- RECOVERY_START (R399). -/
def execRecoveryStart (s : State) : Outcome := .next (s.startRecovery.regionsRun)

/-- RECOVERY_END (R399). -/
def execRecoveryEnd (passed : Bool) (s : State) : Outcome := .next (if s.portsPowered then (s.endRecovery passed).regionsRun else s)

/-- CLASSIFIER_WINDOW_EXPIRY (R397). -/
def execClassifierWindowExpiry (n : Fin 14) (c : Fin 64) (inst : Nat) (s : State) : Outcome :=
  .next (s.windowOver n c inst)

/-- FAULT_DETAIL_CLEAR (R395). -/
def execFaultDetailClear (by_ : Agent) (n : Fin 14) (mask : Word) (s : State) : Outcome :=
  .next (s.writeAs by_ .FAULT_DETAIL n mask (BitVec.allOnes 64))

/-- BRACE_RELEASE (R403). -/
def execBraceRelease (by_ : Agent) (d : Byte) (s : State) : Outcome :=
  .next (s.writeField by_ BRACE_RELEASE.domain 0 d.toNat)

/-- LOCKSTEP (R411). -/
def execLockstep (s : State) : Outcome := .next (if s.ridgeLive then s.ridgeFails 11 0 1 0 else s)

/-- CHECKER_LOST (R411). -/
def execCheckerLost (cause : CheckerFault) (s : State) : Outcome := .next (s.checkerLost cause)

/-- SELFTEST (R412). -/
def execSelftest (passed : Bool) (s : State) : Outcome := .next (s.selfTest passed)

/-- SELFTEST_TIMEOUT (R411). -/
def execSelftestTimeout (s : State) : Outcome := .next (s.selfTestLate)

/-- WATCHDOG (R404). -/
def execWatchdog (s : State) : Outcome := .next (s.watchdogOver)

/-- FLASH_UE (R413). -/
def execFlashUe (addr : Nat) (s : State) : Outcome :=
  s.accepted (wfFlash addr) (if s.ridgeLive then s.ridgeFails 11 3 4 (BitVec.ofNat 64 addr) else s)

/-- RAIL_FAULT (R399). -/
def execRailFault (rail : Fin 13) (region : RegionId) (s : State) : Outcome :=
  s.accepted (railFeeds rail region) (s.railFails rail region)

/-- RIDGE_FAILURE (R404): causes as BRACE_TRESTLE.cause numbers them. -/
def execRidgeFailure (cause : Fin 6) (s : State) : Outcome :=
  s.accepted (cause.val != 0) (
    if cause.val = 5 then s.ridgeFails 13 0 5 11
    else if s.ridgeLive then s.ridgeFails 11 (cause - 1) cause 0
    else s)

/-- TRESTLE_RESTART_ATTEMPT (R404). -/
def execTrestleRestartAttempt (s : State) : Outcome := .next (s.releaseRidge)

/-- ALIVE (R404). -/
def execAlive (s : State) : Outcome := .next (s.writeField .ridge BRACE_TRESTLE.alive 0 1)

/-- RESTART_FAIL (R404). -/
def execRestartFail (s : State) : Outcome := .next (s.restartFailed)

/-- RESTART_COUNT_RESET (R404). -/
def execRestartCountReset (s : State) : Outcome := .next (s.restartCountOver)

/-- SAFE_STATE_ENTRY (R406). -/
def execSafeStateEntry (n : Fin 14) (c : Fin 64) (s : State) : Outcome := s.accepted (safeCode n c) (s.enterSafe n c)

end Sys2Proof.Machine
end

