-- ==== Sys2Proof/Machine/ExecHost.lean ====
section
/-! DEFINITION. Host links: reset, training, link power management, LTR, PTM and IDE (R34, R135 to R142, R155 to
R161). -/

namespace Sys2Proof.Machine

/-- PERST_N_ASSERTED (R34). -/
def execPerstAsserted (h : HostId) (s : State) : Outcome := .next (s.perstAssert h)

/-- PERST_N_RELEASED (R135). -/
def execPerstReleased (h : HostId) (s : State) : Outcome := .next (s.perstHigh h)

/-- CPRSNT_N_CHANGE (R62). -/
def execCprsntChange (h : HostId) (present : Bool) (s : State) : Outcome := .next (s.cable h present)

/-- LINK_TRAINING_COMPLETE (R135). -/
def execLinkTrainingComplete (h : HostId) (offer : LinkOffer) (s : State) : Outcome :=
  .next (s.linkTrained h offer)

/-- HOT_RESET (R161). -/
def execHotReset (h : HostId) (s : State) : Outcome := .next (s.hostDown h)

/-- LINK_DOWN (R161). -/
def execLinkDown (h : HostId) (s : State) : Outcome := .next (s.hostDown h)

/-- PME_TURN_OFF (R142). -/
def execPmeTurnOff (h : HostId) (s : State) : Outcome := .next (s.turnOff h)

/-- L1_ENTRY_REQUEST (R140). -/
def execL1EntryRequest (h : HostId) (s : State) : Outcome := .next (s.askL1 h)

/-- L1_EXIT (R92). -/
def execL1Exit (h : HostId) (s : State) : Outcome := .next (s.exitL1 h)

/-- L1_SUBSTATE_ENTRY (R140). -/
def execL1SubstateEntry (h : HostId) (l12 : Bool) (s : State) : Outcome := .next (s.enterL1Sub h l12)

/-- L0P_EVALUATION (R139). -/
def execL0pEvaluation (h : HostId) (use16 use2 : Nat) (s : State) : Outcome :=
  .next (s.evalL0p h use16 use2)

/-- L0P_WIDTH_REQUEST (R139). -/
def execL0pWidthRequest (h : HostId) (width : Nat) (s : State) : Outcome := .next (s.hostL0p h width)

/-- LTR_MESSAGE (R141). -/
def execLtrMessage (h : HostId) (s : State) : Outcome := .next (s.judgeLtr h)

/-- HP_LTR_WRITE (R162). -/
def execHpLtrWrite (by_ : Agent) (h : HostId) (value : Word) (s : State) : Outcome :=
  .next (s.writeAs by_ .HP_LTR h value (BitVec.allOnes 64))

/-- PTM_DIALOG (R154): the dialog that is due. -/
def execPtmDialog (h : HostId) (times : PtmTimes) (s : State) : Outcome :=
  .next (s.onExpiry (.ptm h) (fun s => s.ptmDialog h times))

/-- PTM_CONTEXT_EXPIRY (R154). -/
def execPtmContextExpiry (h : HostId) (s : State) : Outcome := .next (s.onExpiry (.ptmContext h) (fun s => s.ptmLost h))

/-- IDE_INTEGRITY_FAILURE (R159). -/
def execIdeIntegrityFailure (h : HostId) (stream : Fin 9) (kind : IdeFailure) (s : State) : Outcome :=
  .next (s.ideFail h stream kind)

/-- QUERY (R158). -/
def execQuery (h : HostId) (s : State) : Outcome := .next (s.km h .query)

/-- KEY_PROG (R158). -/
def execKeyProg (h : HostId) (stream : Fin 9) (keySet : Fin 2) (key : BitVec 256) (s : State) : Outcome :=
  .next (s.km h (.keyProg stream keySet key))

/-- K_SET_GO (R158). -/
def execKSetGo (h : HostId) (stream : Fin 9) (keySet : Fin 2) (s : State) : Outcome :=
  .next (s.km h (.kSetGo stream keySet))

/-- K_SET_STOP (R158). -/
def execKSetStop (h : HostId) (stream : Fin 9) (keySet : Fin 2) (s : State) : Outcome :=
  .next (s.km h (.kSetStop stream keySet))

end Sys2Proof.Machine
end

