-- ==== Sys2Proof/Machine/ExecJoist.lean ====
section
/-! DEFINITION. Joist transactions (R215, R352 to R373). -/

namespace Sys2Proof.Machine

/-- RD (R215). -/
def execRd (p : PortId) (v : VcId) (s : State) : Outcome := .next (s.whenUp (fun s => s.deviceRead p v))

/-- WR (R215). -/
def execWr (p : PortId) (v : VcId) (s : State) : Outcome := .next (s.whenUp (fun s => s.deviceWrite p v))

/-- CPL (R359): an FLR that waited for a tag may start (R193). -/
def execCpl (p : PortId) (v : VcId) (s : State) : Outcome := .next (s.whenUp (fun s => (s.deviceCpl p v).retryHeld))

/-- PEG (R363). -/
def execPeg (p : PortId) (v : VcId) (s : State) : Outcome := .next (s.whenUp (fun s => s.devicePeg p v))

/-- TIME_FRAME (R364). -/
def execTimeFrame (p : PortId) (s : State) : Outcome := .next (s.onExpiry (.timeFrame p) (fun s => s.timeDueNow p))

/-- LOCAL_RESPONSE_TIMEOUT (R358). -/
def execLocalResponseTimeout (p : PortId) (tag : Nat) (s : State) : Outcome :=
  .next ((s.onExpiry (.response p tag) (fun s => s.responseTimeout p tag)).retryHeld)

/-- TAG_HOLD_EXPIRY (R358). -/
def execTagHoldExpiry (p : PortId) (tag : Nat) (s : State) : Outcome :=
  .next ((s.onExpiry (.tagHold p tag) (fun s => s.freeTagOf p tag)).retryHeld)

/-- SCARF_MERGER_TIMEOUT (R373). -/
def execScarfMergerTimeout (p : PortId) (s : State) : Outcome := .next (s.onExpiry (.merger p) (fun s => s.mergerTimeout p))

end Sys2Proof.Machine
end

