-- ==== Sys2Proof/Machine/ExecLane.lean ====
section
/-! DEFINITION. Joist lanes (R297 to R317). -/

namespace Sys2Proof.Machine

/-- MARKER_RECEIVED (R304): line bits reach a lane, with the marker among them. -/
def execMarkerReceived (l : LaneId) (line : LineIn) (s : State) : Outcome := .next (s.whenUp (fun s => s.lineIn l line))

/-- ACTIVE_PERIOD_OPEN (R310). -/
def execActivePeriodOpen (p : PortId) (s : State) : Outcome := .next (s.whenUp (fun s => s.openPeriod p))

/-- DOZE_KEEPALIVE (R312). -/
def execDozeKeepalive (p : PortId) (s : State) : Outcome := .next (s.onExpiry (.doze p) (fun s => s.sendKeepalive p))

/-- KEEPALIVE_MISSING (R312). -/
def execKeepaliveMissing (l : LaneId) (s : State) : Outcome := .next (s.onExpiry (.keepalive l) (fun s => s.loseLock l))

/-- JL_TEST_ENABLE (R317). -/
def execJlTestEnable (by_ : Agent) (l : LaneId) (loop : Fin 4) (genEn chkEn : Bool) (pattern : Fin 4) (invert : Bool) (s : State) : Outcome :=
  .next (
    (s.writeField by_ JL_CTRL.loop l loop).writeAs by_ .JL_PRBS l
    (setBits (setBits (setBits (setBits 0 0 2 pattern) 2 1 (b2n genEn)) 3 1 (b2n chkEn)) 4 1 (b2n invert)) (maskBits 0 5))

/-- CDR_LOCK_LOSS (R314). -/
def execCdrLockLoss (l : LaneId) (s : State) : Outcome := .next (s.whenUp (fun s => s.cdrLost l))

/-- PERIOD_BOUNDARY (R305): `nulls` are the NULL units that stand before the frames of the active period that ends. -/
def execPeriodBoundary (l : LaneId) (nulls : List Nat) (s : State) : Outcome :=
  .next (s.whenUp (fun s => s.periodEnd l nulls))

end Sys2Proof.Machine
end

