-- ==== Sys2Proof/Machine/ExecLink.lean ====
section
/-! DEFINITION. Joist links: frames, lane sets, training, power states and resets (R327 to R351). -/

namespace Sys2Proof.Machine

/-- DATA (R327, R372): line bits that carry the frame reach the lanes of its port. -/
def execData (p : PortId) (lines : List LineIn) (s : State) : Outcome := s.accepted (wfLines lines.length) (s.linesIn p lines)

/-- IDLE (R328): line bits that carry the frame reach the lanes of its port. -/
def execIdle (p : PortId) (lines : List LineIn) (s : State) : Outcome := s.accepted (wfLines lines.length) (s.linesIn p lines)

/-- LANE_SET (R338): line bits that carry the frame reach the lanes of its port. -/
def execLaneSet (p : PortId) (lines : List LineIn) (s : State) : Outcome := s.accepted (wfLines lines.length) (s.linesIn p lines)

/-- IDLE_INTERVAL (R328). -/
def execIdleInterval (p : PortId) (s : State) : Outcome := .next (s.onExpiry (.idleInterval p) (fun s => s.idleDue p))

/-- REPLAY_TIMEOUT (R330). -/
def execReplayTimeout (p : PortId) (s : State) : Outcome := .next (s.onExpiry (.replay p) (fun s => s.replayAll p))

/-- TX_MASK_CHANGE (R339). -/
def execTxMaskChange (p : PortId) (s : State) : Outcome :=
  .next (
    s.onExpiry (.txMask p) (fun s =>
    match (s.port p).wantMask with
    | some m => s.announceMask p m
    | none => s))

/-- AUTO_LANE_DROP (R340). -/
def execAutoLaneDrop (p : PortId) (lane : Fin 2) (s : State) : Outcome := .next (s.whenUp (fun s => s.dropLane p lane))

/-- LANE_SET_COMPLIANCE_TIMEOUT (R340). -/
def execLaneSetComplianceTimeout (p : PortId) (s : State) : Outcome :=
  .next (s.onExpiry (.laneSet p) (fun s => s.laneSetFailed p))

/-- LANE_RELOCK (R340). -/
def execLaneRelock (p : PortId) (s : State) : Outcome := .next (s.onExpiry (.relock p) (fun s => s.relockLane p))

/-- LOCK_LOSS_TIMEOUT (R345). -/
def execLockLossTimeout (p : PortId) (s : State) : Outcome := .next (s.onExpiry (.lockLoss p) (fun s => s.portDown p 1))

/-- WAKE_FAIL (R345). -/
def execWakeFail (p : PortId) (s : State) : Outcome := .next (s.onExpiry (.wake p) (fun s => s.portDown p 10))

/-- TRAIN_TIMEOUT (R342). -/
def execTrainTimeout (p : PortId) (s : State) : Outcome := .next (s.onExpiry (.training p) (fun s => s.portDown p 3))

/-- DOWN_HOLD_EXPIRY (R345). -/
def execDownHoldExpiry (p : PortId) (s : State) : Outcome := .next (s.onExpiry (.downHold p) (fun s => s.afterDown p))

/-- LOCAL_RESET_RELEASE (R341). -/
def execLocalResetRelease (p : PortId) (s : State) : Outcome :=
  .next (s.onExpiry (.portReset p) (fun s => (s.releaseReset p).regionsRun))

/-- DOZE_ENTRY (R343). -/
def execDozeEntry (p : PortId) (s : State) : Outcome := .next (s.onExpiry (.dozeIdle p) (fun s => s.enterDoze p))

/-- SLEEP_IDLE (R344). -/
def execSleepIdle (p : PortId) (s : State) : Outcome := .next (s.onExpiry (.sleepIdle p) (fun s => s.askSleep p))

/-- SLEEP_REQ (R344). -/
def execSleepReq (p : PortId) (s : State) : Outcome := .next (s.whenUp (fun s => s.takeSleepReq p))

/-- SLEEP_ACK (R344). -/
def execSleepAck (p : PortId) (s : State) : Outcome := .next (s.whenUp (fun s => s.takeSleepAck p))

/-- SLEEP_NAK (R344). -/
def execSleepNak (p : PortId) (s : State) : Outcome := .next (s.whenUp (fun s => s.sleepRefused p))

/-- PM_REPLY_TIMEOUT (R344). -/
def execPmReplyTimeout (p : PortId) (s : State) : Outcome := .next (s.onExpiry (.pmReply p) (fun s => s.sleepRefused p))

/-- LOCAL_PRESENT_CHANGE (R345). -/
def execLocalPresentChange (p : PortId) (present : Bool) (s : State) : Outcome := .next ((s.presence p present).restBays)

/-- RETRAIN (R350). -/
def execRetrain (by_ : Agent) (p : PortId) (s : State) : Outcome := .next (s.writeField by_ JP_CTRL.retrain p 1)

/-- PORT_RESET (R350). -/
def execPortReset (by_ : Agent) (p : PortId) (s : State) : Outcome := .next (s.writeField by_ JP_CTRL.port_reset p 1)

/-- BAY_RESET (R351). -/
def execBayReset (by_ : Agent) (b : BayId) (s : State) : Outcome := .next (s.writeField by_ BAY_CTRL.bay_reset b 1)

end Sys2Proof.Machine
end

