-- ==== Sys2Proof/Machine/ExecMem.lean ====
section
/-! DEFINITION. Memory requests of the hosts and completions from them (R147, R160, R192 to R194, R210 to R212, R232,
R286, R386). -/

namespace Sys2Proof.Machine

/-- WINDOW_READ (R210). -/
def execWindowRead (f : FnId) (addr : Nat) (dws : Nat) (firstBe lastBe : BitVec 4) (reqTag : Nat) (s : State) : Outcome :=
  .next (if wfWindow addr dws firstBe lastBe then s.windowRead f addr dws firstBe.toNat lastBe.toNat reqTag
    else s.badRequest f (.malformed ⟨0, 4 * dws, 0, reqTag, addr⟩))

/-- WINDOW_WRITE (R212): a poisoned write is turned away (R160). -/
def execWindowWrite (f : FnId) (addr : Nat) (data : List Byte) (firstBe lastBe : BitVec 4) (poisoned : Bool) (s : State) : Outcome :=
  .next (if !wfWrite addr data.length firstBe lastBe then s.badRequest f (.malformed ⟨0x40, data.length, 0, 0, addr⟩)
    else if poisoned then s.badRequest f (.poisonedWrite ⟨0x40, data.length, 0, 0, addr⟩)
    else s.windowWrite f addr data firstBe.toNat lastBe.toNat)

/-- DOORBELL (R232): a write beyond the doorbells reaches a reserved place and changes nothing (R41); in the
compatibility view BAR2 holds the doorbells of QP0 to QP11 alone (R178). -/
def execDoorbell (f : FnId) (off len : Nat) (be : Byte) (value : Word) (s : State) : Outcome :=
  .next (
    if s.unheard f then s
    else if !s.memEnabled f then (s.leaveL1 (fnPort f)).dropUr f off len
    else if (if s.compatFn f then 96 else 0x8000) ≤ off then (s.leaveL1 (fnPort f)).wakeRegion 34
    else ((s.leaveL1 (fnPort f)).wakeRegion 34).ringDoorbell f off len be.toNat value)

/-- HOST_COMPLETION (R192): an FLR that waited for a tag may start (R193). -/
def execHostCompletion (h : HostId) (tag : Nat) (status : CplStatus) (data : List Byte) (s : State) : Outcome :=
  .next (if wfCompletion data.length then (s.hostCompletion h tag status data).retryHeld.restBays
    else s.badRequest h (.malformed ⟨0x4A, data.length, 0, tag, 0⟩))

/-- HOST_COMPLETION_TIMEOUT (R147). -/
def execHostCompletionTimeout (h : HostId) (tag : Nat) (s : State) : Outcome :=
  .next (((s.onExpiry (.hostTag h tag) (fun s => s.completionTimeout h tag)).retryHeld).restBays)

/-- TIMED_OUT_TAG_RELEASE (R147). -/
def execTimedOutTagRelease (h : HostId) (tag : Nat) (s : State) : Outcome :=
  .next ((s.onExpiry (.tagRelease h tag) (fun s => s.releaseHostTag h tag)).retryHeld)

/-- HOST_TAG_GRANT (R286). -/
def execHostTagGrant (h : HostId) (s : State) : Outcome := .next (s.whenUp (fun s => ((s.hostGrant h).runEngines).retryEntries))

/-- UNSUPPORTED_REQUEST (R160). -/
def execUnsupportedRequest (f : FnId) (kind : BadRequest) (s : State) : Outcome := .next (s.badRequest f kind)

/-- MSIX_TABLE_WRITE (R386). -/
def execMsixTableWrite (f : FnId) (off : Nat) (bytes : WriteBytes) (s : State) : Outcome :=
  .next (if wfBytes off bytes.length then s.writeTable f off bytes
    else s.badRequest f (.malformed ⟨0x40, bytes.length, 0, 0, off⟩))

end Sys2Proof.Machine
end

