-- ==== Sys2Proof/Machine/ExecPeg.lean ====
section
/-! DEFINITION. Interrupts (R376 to R388). -/

namespace Sys2Proof.Machine

/-- RAISE (R377). -/
def execRaise (by_ : Agent) (i : PegId) (s : State) : Outcome := .next (s.writeField by_ PEG_SRC_CMD.raise i 1)

/-- EOS (R378). -/
def execEos (by_ : Agent) (i : PegId) (s : State) : Outcome := .next (s.writeField by_ PEG_SRC_CMD.eos i 1)

/-- PEG_DELIVERY (R381). -/
def execPegDelivery (s : State) : Outcome := .next (s.whenUp (fun s => s.pegGrant))

/-- HELD_MESSAGE_RELEASE (R382). -/
def execHeldMessageRelease (f : FnId) (s : State) : Outcome := .next (s.whenUp (fun s => s.releaseHeld f))

end Sys2Proof.Machine
end

