-- ==== Sys2Proof/Machine/ExecPlumb.lean ====
section
/-! DEFINITION. Plumb passes and instructions (R439 to R451). An instruction whose operands R446 leaves undefined is a
NOP and counts. -/

namespace Sys2Proof.Machine

/-- PLUMB_PASS (R441). -/
def execPlumbPass (inputs : PlumbInputs) (s : State) : Outcome := s.accepted (wfInputs inputs) (s.startPass inputs)

/-- PLUMB_PASS_END (R442). -/
def execPlumbPassEnd (s : State) : Outcome := .next (s.endPass)

/-- HALT (R443). -/
def execHalt (s : State) : Outcome := .next (s.plumbHalt)

/-- NOP (R443). -/
def execNop (s : State) : Outcome := .next (s.plumbExec true id)

/-- SAMPLE (R443). -/
def execSample (d : Fin 16) (n x : Fin 64) (s : State) : Outcome :=
  .next (s.plumbExec (plumbLegal (.sample d n x)) (fun p => p.sample d n x))

/-- SMAX (R443). -/
def execSmax (d : Fin 16) (n m1 : Fin 64) (s : State) : Outcome :=
  .next (s.plumbExec (plumbLegal (.smax d n m1)) (fun p => p.smax d n m1))

/-- LDI (R443). -/
def execLdi (d : Fin 16) (imm : BitVec 22) (s : State) : Outcome :=
  .next (s.plumbExec (plumbLegal (.ldi d imm)) (fun p => p.ldi d imm))

/-- LDT (R443). -/
def execLdt (d : Fin 16) (k : Fin 32) (s : State) : Outcome :=
  .next (s.plumbExec (plumbLegal (.ldt d k)) (fun p => p.ldt d k))

/-- ADD (R443). -/
def execAdd (d a b : Fin 16) (s : State) : Outcome :=
  .next (s.plumbExec (plumbLegal (.add d a b)) (fun p => p.add d a b))

/-- SUB (R443). -/
def execSub (d a b : Fin 16) (s : State) : Outcome :=
  .next (s.plumbExec (plumbLegal (.sub d a b)) (fun p => p.sub d a b))

/-- MULQ (R443). -/
def execMulq (d a b : Fin 16) (s : State) : Outcome :=
  .next (s.plumbExec (plumbLegal (.mulq d a b)) (fun p => p.mulq d a b))

/-- MIN (R443). -/
def execMin (d a b : Fin 16) (s : State) : Outcome :=
  .next (s.plumbExec (plumbLegal (.min d a b)) (fun p => p.min d a b))

/-- MAX (R443). -/
def execMax (d a b : Fin 16) (s : State) : Outcome :=
  .next (s.plumbExec (plumbLegal (.max d a b)) (fun p => p.max d a b))

/-- IIR (R443). -/
def execIir (d a : Fin 16) (c : Fin 64) (k : Fin 16) (s : State) : Outcome :=
  .next (s.plumbExec (plumbLegal (.iir d a c k)) (fun p => p.iir d a c k))

/-- MED3 (R443). -/
def execMed3 (d a : Fin 16) (c : Fin 64) (s : State) : Outcome :=
  .next (s.plumbExec (plumbLegal (.med3 d a c)) (fun p => p.med3 d a c))

/-- CMPGE (R444). -/
def execCmpge (a b : Fin 16) (c setDwell clearDwell : Fin 64) (s : State) : Outcome :=
  .next (s.plumbExec (plumbLegal (.cmpge a b c setDwell clearDwell)) (fun p => p.cmpge a b c setDwell clearDwell))

/-- CMPLE (R444). -/
def execCmple (a b : Fin 16) (c setDwell clearDwell : Fin 64) (s : State) : Outcome :=
  .next (s.plumbExec (plumbLegal (.cmple a b c setDwell clearDwell)) (fun p => p.cmple a b c setDwell clearDwell))

/-- STORE (R448). -/
def execStore (c : Fin 64) (mode : Fin 4) (k : Fin 512) (a : Fin 16) (s : State) : Outcome :=
  .next (s.plumbStore (plumbLegal (.store c mode k a)) c mode k a)

/-- ACT_THROTTLE (R445). -/
def execActThrottle (c : Fin 64) (mode : Fin 4) (step : Fin 8) (causePower causeFlow : Bool) (s : State) : Outcome :=
  .next (s.plumbExec (plumbLegal (.actThrottle c mode step causePower causeFlow)) (fun p => if p.when c mode then p.throttle step causePower causeFlow else p))

/-- ACT_WAKE (R451). -/
def execActWake (c : Fin 64) (mode : Fin 4) (region : Fin 256) (s : State) : Outcome :=
  .next (s.plumbExec (plumbLegal (.actWake c mode region)) (fun p => if p.when c mode then { p with wakes := insertNat region p.wakes } else p))

/-- ACT_SLEEP (R451). -/
def execActSleep (c : Fin 64) (mode : Fin 4) (region : Fin 256) (s : State) : Outcome :=
  .next (s.plumbExec (plumbLegal (.actSleep c mode region)) (fun p => if p.when c mode then { p with sleeps := insertNat region p.sleeps } else p))

/-- ACT_RAISE (R445). -/
def execActRaise (c : Fin 64) (mode : Fin 4) (code : Fin 256) (a : Fin 16) (s : State) : Outcome :=
  .next (
    s.plumbExec (plumbLegal (.actRaise c mode code a)) (fun p =>
    if p.when c mode then { p with raises := p.raises ++ [(code.val, ((p.w a).sshiftRight 4).signExtend 64)] } else p))

/-- ACT_SCRIBE (R445). -/
def execActScribe (c : Fin 64) (mode : Fin 4) (s : State) : Outcome :=
  .next (s.plumbExec (plumbLegal (.actScribe c mode)) (fun p => if p.when c mode then { p with scribe := true } else p))

/-- ACT_SHUTDOWN (R445). -/
def execActShutdown (c : Fin 64) (mode : Fin 4) (s : State) : Outcome :=
  .next (s.plumbExec (plumbLegal (.actShutdown c mode)) (fun p => if p.when c mode then { p with shutdown := true } else p))

/-- ACT_SWAP (R447). -/
def execActSwap (c : Fin 64) (mode : Fin 4) (s : State) : Outcome :=
  .next (s.plumbExec (plumbLegal (.actSwap c mode)) (fun p => if p.when c mode then { p with swap := true } else p))

end Sys2Proof.Machine
end

