-- ==== Sys2Proof/Machine/ExecPower.lean ====
section
/-! DEFINITION. Power, start-up and the pins of the SB connector (R34, R70, R71, R99 to R106, R119, R133). -/

namespace Sys2Proof.Machine

/-- MAINS_POWER_UP (R106). -/
def execMainsPowerUp (fuses : List FuseRead) (temp : Byte) (slotId : Fin 16) (s : State) : Outcome :=
  s.accepted (wfFuses fuses) (s.powerUp fuses temp.toNat slotId)

/-- BOOT_SCAN_COMPLETE (R119). -/
def execBootScanComplete (factoryReadable : Bool) (s : State) : Outcome := .next (s.scanDone factoryReadable)

/-- PLUMB_START_PERMIT (R106). -/
def execPlumbStartPermit (s : State) : Outcome := .next (s.permit)

/-- RESTORE_STROBE (R106). -/
def execRestoreStrobe (s : State) : Outcome := .next (s.applyRestore)

/-- MAINS_LOSS (R76). -/
def execMainsLoss (s : State) : Outcome := .next (s.loseMains)

/-- MOD_RESET_N_ASSERTED (R34). -/
def execModResetAsserted (lowNs : Nat) (slotId : Fin 16) (s : State) : Outcome := .next (s.modResetLow lowNs slotId)

/-- MOD_RESET_N_RELEASED (R106). -/
def execModResetReleased (s : State) : Outcome := .next (s.releaseModReset)

/-- STANDBY_REQ_N_RECOGNISED (R99). -/
def execStandbyRecognised (lowNs : Nat) (s : State) : Outcome := .next (s.standbyLow lowNs)

/-- STANDBY_REQ_N_RELEASED (R71). -/
def execStandbyReleased (highNs : Nat) (s : State) : Outcome := .next (s.standbyHigh highNs)

/-- PPS_IN_EDGE (R70). -/
def execPpsInEdge (highNs : Nat) (s : State) : Outcome := .next (s.ppsEdge highNs)

/-- HARD_TRIP (R105). -/
def execHardTrip (s : State) : Outcome := .next (s.trip)

/-- THERMAL_SHUTDOWN (R104). -/
def execThermalShutdown (s : State) : Outcome := .next (s.askShutdown)

/-- SHUTDOWN_DEFERRAL_EXPIRY (R133). -/
def execShutdownDeferralExpiry (s : State) : Outcome := .next (s.deferralOver)

end Sys2Proof.Machine
end

