-- ==== Sys2Proof/Machine/ExecQueue.lean ====
section
/-! DEFINITION. Queues and their commands (R229 to R248). -/

namespace Sys2Proof.Machine

/-- ENABLE (R246). -/
def execEnable (by_ : Agent) (q : QId) (s : State) : Outcome := .next (s.writeField by_ Q_CMD.op q 1)

/-- STOP (R246). -/
def execStop (by_ : Agent) (q : QId) (s : State) : Outcome := .next (s.writeField by_ Q_CMD.op q 2)

/-- RESUME (R246). -/
def execResume (by_ : Agent) (q : QId) (s : State) : Outcome := .next (s.writeField by_ Q_CMD.op q 3)

/-- RESTART (R246). -/
def execRestart (by_ : Agent) (q : QId) (s : State) : Outcome := .next (s.writeField by_ Q_CMD.op q 4)

/-- SKIP (R246). -/
def execSkip (by_ : Agent) (q : QId) (s : State) : Outcome := .next (s.writeField by_ Q_CMD.op q 5)

/-- DISABLE (R246). -/
def execDisable (by_ : Agent) (q : QId) (s : State) : Outcome := .next (s.writeField by_ Q_CMD.op q 6)

/-- DESCRIPTOR_FETCH (R239). -/
def execDescriptorFetch (s : State) : Outcome := .next (s.whenUp (fun s => s.fetchGrant))

/-- DESCRIPTOR_ARRIVAL (R240). -/
def execDescriptorArrival (q : QId) (s : State) : Outcome := .next (s.whenUp (fun s => s.takeDescriptors q))

/-- EXTENSION_ARRIVAL (R238). -/
def execExtensionArrival (q : QId) (s : State) : Outcome := .next (s.whenUp (fun s => s.takeExtension q))

/-- COMPLETION_ENTRY_WRITE (R241). -/
def execCompletionEntryWrite (q : QId) (s : State) : Outcome := .next (s.whenUp (fun s => s.tryEntry q))

/-- COALESCE_TIMER (R248). -/
def execCoalesceTimer (q : QId) (s : State) : Outcome :=
  .next (s.onExpiry (.coalesce q) (fun s => s.sendVector q))

end Sys2Proof.Machine
end

