-- ==== Sys2Proof/Machine/ExecReg.lean ====
section
/-! DEFINITION. Register accesses that have no row of their own (R32, R39, R48). -/

namespace Sys2Proof.Machine

/-- REGISTER_WRITE (R32). -/
def execRegisterWrite (by_ : Agent) (off : Nat) (bytes : WriteBytes) (s : State) : Outcome :=
  match by_ with
  | .fn f => .next (if wfBytes off bytes.length then s.regWrite by_ off bytes
    else s.badRequest f (.malformed ⟨0x40, bytes.length, 0, 0, off⟩))
  | .ridge => s.accepted (wfBytes off bytes.length) (s.regWrite by_ off bytes)

/-- REGISTER_READ (R48): of BAR0, or of BAR2 by a function (R40, R49, R54). -/
def execRegisterRead (by_ : Agent) (off : ReadPlace) (len : ReadExtent) (s : State) : Outcome :=
  let ok := wfWindow off.off len.dws len.firstBe len.lastBe
  match by_, off.bar with
  | .fn f, .bar0 => .next (if ok then s.regRead by_ off.off len.dws len.firstBe.toNat len.lastBe.toNat len.tag
    else s.badRequest f (.malformed ⟨0, 4 * len.dws, 0, len.tag, off.off⟩))
  | .fn f, .bar2 => .next (if ok then s.bar2Read f off.off len.dws len.firstBe.toNat len.lastBe.toNat len.tag
    else s.badRequest f (.malformed ⟨0, 4 * len.dws, 0, len.tag, off.off⟩))
  | .ridge, .bar0 => s.accepted ok (s.regRead by_ off.off len.dws len.firstBe.toNat len.lastBe.toNat len.tag)
  | .ridge, .bar2 => .next s

end Sys2Proof.Machine
end

