-- ==== Sys2Proof/Machine/ExecRidge.lean ====
section
/-! DEFINITION. Ridge's commands, random numbers and measurement (R417, R418, R427 to R434). -/

namespace Sys2Proof.Machine

/-- GET_INFO (R430). -/
def execGetInfo (c : Caller) (s : State) : Outcome := .next (s.command c 0x01 true (fun n => n == 0) State.getInfo)

/-- GET_CERT_CHAIN (R430). -/
def execGetCertChain (c : Caller) (s : State) : Outcome :=
  .next (s.command c 0x02 true (fun n => n == 4) State.getCertChain)

/-- GET_RANDOM (R430). -/
def execGetRandom (c : Caller) (s : State) : Outcome := .next (s.command c 0x03 true (fun n => n == 2) State.getRandom)

/-- FW_BEGIN (R434). -/
def execFwBegin (c : Caller) (s : State) : Outcome :=
  .next (s.command c 0x10 (s.isOwner c) (fun n => n == 4) (State.fwBegin (callerNo c)))

/-- FW_WRITE (R434). -/
def execFwWrite (c : Caller) (s : State) : Outcome :=
  .next (s.command c 0x11 (s.isOwner c) (fun n => decide (4 ≤ n ∧ n ≤ 4096)) (State.fwWrite (callerNo c)))

/-- FW_FINISH (R434). -/
def execFwFinish (c : Caller) (s : State) : Outcome :=
  .next (s.command c 0x12 (s.isOwner c) (fun n => n == 0) (State.fwFinish (callerNo c)))

/-- FW_ACTIVATE (R434). -/
def execFwActivate (c : Caller) (s : State) : Outcome :=
  .next (s.command c 0x13 (s.isOwner c) (fun n => n == 0) (State.fwActivate (callerNo c)))

/-- RIDGE_RESTART (R434). -/
def execRidgeRestart (c : Caller) (s : State) : Outcome := .next (s.askRestart c)

/-- FW_CANCEL (R430). -/
def execFwCancel (c : Caller) (s : State) : Outcome :=
  .next (s.command c 0x1F (s.isOwner c) (fun n => n == 0) (State.fwCancel (callerNo c)))

/-- REG_READ (R430). -/
def execRegRead (c : Caller) (s : State) : Outcome := .next (s.mctpRegRead c)

/-- REG_WRITE (R430). -/
def execRegWrite (c : Caller) (s : State) : Outcome := .next (s.mctpRegWrite c)

/-- MAILBOX_ABORT (R428). -/
def execMailboxAbort (by_ : Agent) (h : HostId) (s : State) : Outcome := .next (s.writeField by_ MB_CTRL.abort h 1)

/-- MAILBOX_COMMAND_DONE (R429). -/
def execMailboxCommandDone (h : HostId) (s : State) : Outcome := .next (s.mbFinish h)

/-- SET_ENDPOINT_ID (R427). -/
def execSetEndpointId (eid : Byte) (s : State) : Outcome := .next (s.setEid eid.toNat)

/-- GET_ENDPOINT_ID (R427). -/
def execGetEndpointId (s : State) : Outcome := .next (s.mctpAnswer (.eid s.ridge.eid))

/-- GET_ENDPOINT_UUID (R427). -/
def execGetEndpointUuid (s : State) : Outcome := .next (s.mctpAnswer (.uuid Config.endpointUuid))

/-- GET_MCTP_VERSION_SUPPORT (R427). -/
def execGetMctpVersionSupport (s : State) : Outcome := .next (s.mctpAnswer (.versions Config.mctpVersions))

/-- GET_MESSAGE_TYPE_SUPPORT (R427). -/
def execGetMessageTypeSupport (s : State) : Outcome := .next (s.mctpAnswer (.types [0x00, 0x05, 0x06, 0x7E]))

/-- RNG_HEALTH_FAILURE (R432). -/
def execRngHealthFailure (src : Fin 2) (test : Fin 4) (s : State) : Outcome :=
  s.accepted (test.val != 0) (s.rngFail src test)

/-- RNG_STARTUP_TEST_PASS (R432). -/
def execRngStartupTestPass (src : Fin 2) (s : State) : Outcome := .next (s.rngPass src)

/-- DRBG_RESEED (R431). -/
def execDrbgReseed (s : State) : Outcome := .next (s.reseed)

/-- MEASUREMENT_EXTEND (R418). -/
def execMeasurementExtend (slot : Fin 16) (digest : BitVec 384) (s : State) : Outcome :=
  .next (s.extendMeas slot digest)

/-- BOOT_MEASUREMENT (R417). -/
def execBootMeasurement (s : State) : Outcome := .next (s.bootMeasure)

end Sys2Proof.Machine
end

