-- ==== Sys2Proof/Machine/ExecScribe.lean ====
section
/-! DEFINITION. Scribes (R459 to R461). -/

namespace Sys2Proof.Machine

/-- TRIGGER (R459). -/
def execTrigger (by_ : Agent) (s : State) : Outcome := .next (s.writeField by_ SCRIBE_CMD.trigger 0 1)

/-- TRIGGER_HOLD (R461). -/
def execTriggerHold (by_ : Agent) (s : State) : Outcome := .next (s.writeField by_ SCRIBE_CMD.trigger_hold 0 1)

/-- HOLD_A (R461). -/
def execHoldA (by_ : Agent) (s : State) : Outcome := .next (s.writeField by_ SCRIBE_CMD.hold_a 0 1)

/-- HOLD_B (R461). -/
def execHoldB (by_ : Agent) (s : State) : Outcome := .next (s.writeField by_ SCRIBE_CMD.hold_b 0 1)

/-- RELEASE_A (R461). -/
def execReleaseA (by_ : Agent) (s : State) : Outcome := .next (s.writeField by_ SCRIBE_CMD.release_a 0 1)

/-- RELEASE_B (R461). -/
def execReleaseB (by_ : Agent) (s : State) : Outcome := .next (s.writeField by_ SCRIBE_CMD.release_b 0 1)

/-- SCRIBE_PERIOD_TIMER (R459). -/
def execScribePeriodTimer (s : State) : Outcome := .next (s.periodTrigger)

/-- SCRIBE_CAPTURE_COMPLETE (R460). -/
def execScribeCaptureComplete (s : State) : Outcome := .next (s.captured)

end Sys2Proof.Machine
end

