-- ==== Sys2Proof/Machine/ExecSpdm.lean ====
section
/-! DEFINITION. The SPDM responder (R419 to R425). -/

namespace Sys2Proof.Machine

/-- GET_VERSION (R420). -/
def execGetVersion (t : Transport) (s : State) : Outcome := .next (s.spdmVersion t)

/-- GET_CAPABILITIES (R421). -/
def execGetCapabilities (t : Transport) (s : State) : Outcome := .next (s.spdmStage t 2 spdmCaps)

/-- NEGOTIATE_ALGORITHMS (R421). -/
def execNegotiateAlgorithms (t : Transport) (s : State) : Outcome := .next (s.spdmStage t 3 spdmAlgs)

/-- GET_DIGESTS (R422). -/
def execGetDigests (t : Transport) (s : State) : Outcome := .next (s.spdmDigests t)

/-- GET_CERTIFICATE (R422). -/
def execGetCertificate (t : Transport) (slot : Fin 8) (off len : Nat) (s : State) : Outcome :=
  .next (s.spdmCertificate t slot off len)

/-- CHALLENGE (R425). -/
def execChallenge (t : Transport) (slot : Fin 8) (_nonce : BitVec 256) (s : State) : Outcome :=
  .next (s.spdmChallenge t slot)

/-- GET_MEASUREMENTS (R423). -/
def execGetMeasurements (t : Transport) (index : Byte) (signed : Bool) (_nonce : BitVec 256) (s : State) : Outcome :=
  .next (s.spdmMeasurements t index.toNat signed)

/-- KEY_EXCHANGE (R424). -/
def execKeyExchange (t : Transport) (slot : Fin 8) (exchange : List Byte) (s : State) : Outcome :=
  s.accepted (wfPoint exchange.length) (s.spdmKeyExchange t slot)

/-- FINISH (R420). -/
def execFinish (t : Transport) (session : Nat) (s : State) : Outcome := .next (s.spdmFinish t session)

/-- HEARTBEAT (R420). -/
def execHeartbeat (t : Transport) (session : Nat) (s : State) : Outcome := .next (s.spdmHeartbeat t session)

/-- KEY_UPDATE (R420). -/
def execKeyUpdate (t : Transport) (session : Nat) (s : State) : Outcome := .next (s.spdmKeyUpdate t session)

/-- END_SESSION (R420). -/
def execEndSession (t : Transport) (session : Nat) (s : State) : Outcome := .next (s.spdmEndSession t session)

/-- CHUNK_SEND (R419). -/
def execChunkSend (t : Transport) (handle : Byte) (seq : Nat) (last : Bool) (_part : List Byte) (s : State) : Outcome :=
  .next (s.spdmChunkSend t handle.toNat seq last)

/-- CHUNK_GET (R419). -/
def execChunkGet (t : Transport) (handle : Byte) (seq : Nat) (s : State) : Outcome :=
  .next (s.spdmChunkGet t handle.toNat seq)

/-- VENDOR_DEFINED_REQUEST (R420). -/
def execVendorDefinedRequest (t : Transport) (session : Nat) (km : IdeKm) (s : State) : Outcome :=
  .next (s.spdmVendor t session km)

/-- UNSUPPORTED_SPDM_REQUEST (R420). -/
def execUnsupportedSpdmRequest (t : Transport) (code : Byte) (s : State) : Outcome :=
  .next (s.spdmUnsupported t code.toNat)

/-- DOE_ABORT (R419). -/
def execDoeAbort (h : HostId) (s : State) : Outcome := .next (s.abortDoe h)

end Sys2Proof.Machine
end

