-- ==== Sys2Proof/Machine/ExecTxn.lean ====
section
/-! DEFINITION. Dry-fit transactions and the retained-state store (R118, R123 to R133). -/

namespace Sys2Proof.Machine

/-- BEGIN (R124). -/
def execTxnBegin (c : CtxId) (s : State) : Outcome := .next (s.writeField (ctxAgent c) TXN_CTRL.op c 1)

/-- COMMIT (R125). -/
def execCommit (c : CtxId) (persist : Bool) (s : State) : Outcome :=
  .next (s.writeAs (ctxAgent c) .TXN_CTRL c (setBits 2 4 1 (b2n persist)) (maskBits 0 8))

/-- ROLLBACK (R126). -/
def execRollback (c : CtxId) (s : State) : Outcome := .next (s.writeField (ctxAgent c) TXN_CTRL.op c 3)

/-- TXN_TIMEOUT (R126). -/
def execTxnTimeout (c : CtxId) (s : State) : Outcome := .next (s.txnExpired c)

/-- RET_FIELD_WRITE (R44). -/
def execRetFieldWrite (by_ : Agent) (off : Nat) (bytes : WriteBytes) (s : State) : Outcome :=
  match by_ with
  | .fn f => .next (if wfBytes off bytes.length then s.regWrite by_ off bytes else s.badRequest f (.malformed ⟨0x40, bytes.length, 0, 0, off⟩))
  | .ridge => s.accepted (wfBytes off bytes.length) (s.regWrite by_ off bytes)

/-- COMMIT_STROBE (R125). -/
def execCommitStrobe (c : CtxId) (s : State) : Outcome := .next (s.giveStrobe c).restBays

/-- QUIESCE_TIMEOUT (R188). -/
def execQuiesceTimeout (c : CtxId) (s : State) : Outcome := .next (s.quiesceExpired c)

/-- PERSIST_COMPLETE (R125). -/
def execPersistComplete (c : CtxId) (s : State) : Outcome := .next (s.persisted c)

/-- RSS_WRITE_COMPLETE (R132). -/
def execRssWriteComplete (s : State) : Outcome := .next (s.storeDone)

/-- RSS_COMPACT (R118). -/
def execRssCompact (by_ : Agent) (s : State) : Outcome := .next (s.writeField by_ RSS_CTRL.compact 0 1)

end Sys2Proof.Machine
end

