-- ==== Sys2Proof/Machine/Dispatch.lean ====
section
/-! DEFINITION. Which meaning each command has. -/

namespace Sys2Proof.Machine

def exec (i : Instr) (s : State) : Host.Outcome State Fault Refusal :=
  match i with
  | .mainsPowerUp fuses temp slotId => Sys2Proof.Machine.execMainsPowerUp fuses temp slotId s
  | .bootScanComplete factoryReadable => Sys2Proof.Machine.execBootScanComplete factoryReadable s
  | .plumbStartPermit => Sys2Proof.Machine.execPlumbStartPermit s
  | .restoreStrobe => Sys2Proof.Machine.execRestoreStrobe s
  | .mainsLoss => Sys2Proof.Machine.execMainsLoss s
  | .modResetAsserted lowNs slotId => Sys2Proof.Machine.execModResetAsserted lowNs slotId s
  | .modResetReleased => Sys2Proof.Machine.execModResetReleased s
  | .standbyRecognised lowNs => Sys2Proof.Machine.execStandbyRecognised lowNs s
  | .standbyReleased highNs => Sys2Proof.Machine.execStandbyReleased highNs s
  | .ppsInEdge highNs => Sys2Proof.Machine.execPpsInEdge highNs s
  | .hardTrip => Sys2Proof.Machine.execHardTrip s
  | .thermalShutdown => Sys2Proof.Machine.execThermalShutdown s
  | .shutdownDeferralExpiry => Sys2Proof.Machine.execShutdownDeferralExpiry s
  | .perstAsserted h => Sys2Proof.Machine.execPerstAsserted h s
  | .perstReleased h => Sys2Proof.Machine.execPerstReleased h s
  | .cprsntChange h present => Sys2Proof.Machine.execCprsntChange h present s
  | .linkTrainingComplete h offer => Sys2Proof.Machine.execLinkTrainingComplete h offer s
  | .hotReset h => Sys2Proof.Machine.execHotReset h s
  | .linkDown h => Sys2Proof.Machine.execLinkDown h s
  | .configRead h n dw => Sys2Proof.Machine.execConfigRead h n dw s
  | .configWrite h n dw data be busDev => Sys2Proof.Machine.execConfigWrite h n dw data be busDev s
  | .initiateFlr f => Sys2Proof.Machine.execInitiateFlr f s
  | .flrComplete f => Sys2Proof.Machine.execFlrComplete f s
  | .flrTagAbandon h tag => Sys2Proof.Machine.execFlrTagAbandon h tag s
  | .vfEnableSet h => Sys2Proof.Machine.execVfEnableSet h s
  | .vfEnableClear h => Sys2Proof.Machine.execVfEnableClear h s
  | .busMasterEnableClear f => Sys2Proof.Machine.execBusMasterEnableClear f s
  | .busMasterEnableSet f => Sys2Proof.Machine.execBusMasterEnableSet f s
  | .d3hotEntry f => Sys2Proof.Machine.execD3hotEntry f s
  | .resizableBarWrite h vf size => Sys2Proof.Machine.execResizableBarWrite h vf size s
  | .msiMultipleMessageEnableWrite e => Sys2Proof.Machine.execMsiMultipleMessageEnableWrite e s
  | .expansionRomRead off len => Sys2Proof.Machine.execExpansionRomRead off len s
  | .windowRead f off dws firstBe lastBe reqTag => Sys2Proof.Machine.execWindowRead f off dws firstBe lastBe reqTag s
  | .windowWrite f off data firstBe lastBe poisoned => Sys2Proof.Machine.execWindowWrite f off data firstBe lastBe poisoned s
  | .doorbell f off len be value => Sys2Proof.Machine.execDoorbell f off len be value s
  | .hostCompletion h tag status data => Sys2Proof.Machine.execHostCompletion h tag status data s
  | .hostCompletionTimeout h tag => Sys2Proof.Machine.execHostCompletionTimeout h tag s
  | .timedOutTagRelease h tag => Sys2Proof.Machine.execTimedOutTagRelease h tag s
  | .hostTagGrant h => Sys2Proof.Machine.execHostTagGrant h s
  | .pmeTurnOff h => Sys2Proof.Machine.execPmeTurnOff h s
  | .l1EntryRequest h => Sys2Proof.Machine.execL1EntryRequest h s
  | .l1Exit h => Sys2Proof.Machine.execL1Exit h s
  | .l0pEvaluation h use16 use2 => Sys2Proof.Machine.execL0pEvaluation h use16 use2 s
  | .ltrMessage h => Sys2Proof.Machine.execLtrMessage h s
  | .hpLtrWrite by_ h value => Sys2Proof.Machine.execHpLtrWrite by_ h value s
  | .ptmDialog h times => Sys2Proof.Machine.execPtmDialog h times s
  | .ptmContextExpiry h => Sys2Proof.Machine.execPtmContextExpiry h s
  | .ideIntegrityFailure h stream kind => Sys2Proof.Machine.execIdeIntegrityFailure h stream kind s
  | .query h => Sys2Proof.Machine.execQuery h s
  | .keyProg h stream keySet key => Sys2Proof.Machine.execKeyProg h stream keySet key s
  | .kSetGo h stream keySet => Sys2Proof.Machine.execKSetGo h stream keySet s
  | .kSetStop h stream keySet => Sys2Proof.Machine.execKSetStop h stream keySet s
  | .txnBegin c => Sys2Proof.Machine.execTxnBegin c s
  | .commit c persist => Sys2Proof.Machine.execCommit c persist s
  | .rollback c => Sys2Proof.Machine.execRollback c s
  | .txnTimeout c => Sys2Proof.Machine.execTxnTimeout c s
  | .retFieldWrite by_ off bytes => Sys2Proof.Machine.execRetFieldWrite by_ off bytes s
  | .commitStrobe c => Sys2Proof.Machine.execCommitStrobe c s
  | .quiesceTimeout c => Sys2Proof.Machine.execQuiesceTimeout c s
  | .persistComplete c => Sys2Proof.Machine.execPersistComplete c s
  | .rssWriteComplete => Sys2Proof.Machine.execRssWriteComplete s
  | .rssCompact by_ => Sys2Proof.Machine.execRssCompact by_ s
  | .enable by_ q => Sys2Proof.Machine.execEnable by_ q s
  | .stop by_ q => Sys2Proof.Machine.execStop by_ q s
  | .resume by_ q => Sys2Proof.Machine.execResume by_ q s
  | .restart by_ q => Sys2Proof.Machine.execRestart by_ q s
  | .skip by_ q => Sys2Proof.Machine.execSkip by_ q s
  | .disable by_ q => Sys2Proof.Machine.execDisable by_ q s
  | .descriptorFetch => Sys2Proof.Machine.execDescriptorFetch s
  | .descriptorArrival q => Sys2Proof.Machine.execDescriptorArrival q s
  | .extensionArrival q => Sys2Proof.Machine.execExtensionArrival q s
  | .completionEntryWrite q => Sys2Proof.Machine.execCompletionEntryWrite q s
  | .coalesceTimer q => Sys2Proof.Machine.execCoalesceTimer q s
  | .engineGrant g => Sys2Proof.Machine.execEngineGrant g s
  | .rateLimiterRelease e => Sys2Proof.Machine.execRateLimiterRelease e s
  | .drainComplete e => Sys2Proof.Machine.execDrainComplete e s
  | .engineFault e kind => Sys2Proof.Machine.execEngineFault e kind s
  | .reserveGrant p v => Sys2Proof.Machine.execReserveGrant p v s
  | .ledgerScrub found => Sys2Proof.Machine.execLedgerScrub found s
  | .regionWakeComplete r => Sys2Proof.Machine.execRegionWakeComplete r s
  | .clockGateIdle r => Sys2Proof.Machine.execClockGateIdle r s
  | .wakeToneDetected p => Sys2Proof.Machine.execWakeToneDetected p s
  | .markerReceived l word => Sys2Proof.Machine.execMarkerReceived l word s
  | .activePeriodOpen p => Sys2Proof.Machine.execActivePeriodOpen p s
  | .dozeKeepalive p => Sys2Proof.Machine.execDozeKeepalive p s
  | .keepaliveMissing l => Sys2Proof.Machine.execKeepaliveMissing l s
  | .jlTestEnable by_ l loop genEn chkEn pattern invert => Sys2Proof.Machine.execJlTestEnable by_ l loop genEn chkEn pattern invert s
  | .data p units => Sys2Proof.Machine.execData p units s
  | .idle p unit => Sys2Proof.Machine.execIdle p unit s
  | .idleInterval p => Sys2Proof.Machine.execIdleInterval p s
  | .replayTimeout p => Sys2Proof.Machine.execReplayTimeout p s
  | .laneSet p unit => Sys2Proof.Machine.execLaneSet p unit s
  | .txMaskChange p => Sys2Proof.Machine.execTxMaskChange p s
  | .autoLaneDrop p lane => Sys2Proof.Machine.execAutoLaneDrop p lane s
  | .laneSetComplianceTimeout p => Sys2Proof.Machine.execLaneSetComplianceTimeout p s
  | .laneRelock p => Sys2Proof.Machine.execLaneRelock p s
  | .lockLossTimeout p => Sys2Proof.Machine.execLockLossTimeout p s
  | .wakeFail p => Sys2Proof.Machine.execWakeFail p s
  | .trainTimeout p => Sys2Proof.Machine.execTrainTimeout p s
  | .downHoldExpiry p => Sys2Proof.Machine.execDownHoldExpiry p s
  | .localResetRelease p => Sys2Proof.Machine.execLocalResetRelease p s
  | .dozeEntry p => Sys2Proof.Machine.execDozeEntry p s
  | .sleepIdle p => Sys2Proof.Machine.execSleepIdle p s
  | .sleepReq p => Sys2Proof.Machine.execSleepReq p s
  | .sleepAck p => Sys2Proof.Machine.execSleepAck p s
  | .sleepNak p => Sys2Proof.Machine.execSleepNak p s
  | .pmReplyTimeout p => Sys2Proof.Machine.execPmReplyTimeout p s
  | .localPresentChange p present => Sys2Proof.Machine.execLocalPresentChange p present s
  | .retrain by_ p => Sys2Proof.Machine.execRetrain by_ p s
  | .portReset by_ p => Sys2Proof.Machine.execPortReset by_ p s
  | .bayReset by_ b => Sys2Proof.Machine.execBayReset by_ b s
  | .rd p v => Sys2Proof.Machine.execRd p v s
  | .wr p v => Sys2Proof.Machine.execWr p v s
  | .cpl p v => Sys2Proof.Machine.execCpl p v s
  | .peg p v => Sys2Proof.Machine.execPeg p v s
  | .timeFrame p => Sys2Proof.Machine.execTimeFrame p s
  | .localResponseTimeout p tag => Sys2Proof.Machine.execLocalResponseTimeout p tag s
  | .tagHoldExpiry p tag => Sys2Proof.Machine.execTagHoldExpiry p tag s
  | .scarfMergerTimeout p => Sys2Proof.Machine.execScarfMergerTimeout p s
  | .raise by_ src => Sys2Proof.Machine.execRaise by_ src s
  | .eos by_ src => Sys2Proof.Machine.execEos by_ src s
  | .pegDelivery => Sys2Proof.Machine.execPegDelivery s
  | .heldMessageRelease f => Sys2Proof.Machine.execHeldMessageRelease f s
  | .faultEvent n c inst locator check => Sys2Proof.Machine.execFaultEvent n c inst locator check s
  | .recoveryStart => Sys2Proof.Machine.execRecoveryStart s
  | .recoveryEnd passed => Sys2Proof.Machine.execRecoveryEnd passed s
  | .classifierWindowExpiry n c inst => Sys2Proof.Machine.execClassifierWindowExpiry n c inst s
  | .faultDetailClear by_ n mask => Sys2Proof.Machine.execFaultDetailClear by_ n mask s
  | .braceRelease by_ d => Sys2Proof.Machine.execBraceRelease by_ d s
  | .lockstep => Sys2Proof.Machine.execLockstep s
  | .checkerLost cause => Sys2Proof.Machine.execCheckerLost cause s
  | .selftest passed => Sys2Proof.Machine.execSelftest passed s
  | .selftestTimeout => Sys2Proof.Machine.execSelftestTimeout s
  | .watchdog => Sys2Proof.Machine.execWatchdog s
  | .flashUe addr => Sys2Proof.Machine.execFlashUe addr s
  | .railFault rail region => Sys2Proof.Machine.execRailFault rail region s
  | .ridgeFailure cause => Sys2Proof.Machine.execRidgeFailure cause s
  | .trestleRestartAttempt => Sys2Proof.Machine.execTrestleRestartAttempt s
  | .alive => Sys2Proof.Machine.execAlive s
  | .restartFail => Sys2Proof.Machine.execRestartFail s
  | .restartCountReset => Sys2Proof.Machine.execRestartCountReset s
  | .safeStateEntry n c => Sys2Proof.Machine.execSafeStateEntry n c s
  | .getInfo c => Sys2Proof.Machine.execGetInfo c s
  | .getCertChain c => Sys2Proof.Machine.execGetCertChain c s
  | .getRandom c => Sys2Proof.Machine.execGetRandom c s
  | .fwBegin c => Sys2Proof.Machine.execFwBegin c s
  | .fwWrite c => Sys2Proof.Machine.execFwWrite c s
  | .fwFinish c => Sys2Proof.Machine.execFwFinish c s
  | .fwActivate c => Sys2Proof.Machine.execFwActivate c s
  | .ridgeRestart c => Sys2Proof.Machine.execRidgeRestart c s
  | .fwCancel c => Sys2Proof.Machine.execFwCancel c s
  | .regRead c => Sys2Proof.Machine.execRegRead c s
  | .regWrite c => Sys2Proof.Machine.execRegWrite c s
  | .mailboxAbort by_ h => Sys2Proof.Machine.execMailboxAbort by_ h s
  | .mailboxCommandDone h => Sys2Proof.Machine.execMailboxCommandDone h s
  | .getVersion t => Sys2Proof.Machine.execGetVersion t s
  | .getCapabilities t => Sys2Proof.Machine.execGetCapabilities t s
  | .negotiateAlgorithms t => Sys2Proof.Machine.execNegotiateAlgorithms t s
  | .getDigests t => Sys2Proof.Machine.execGetDigests t s
  | .getCertificate t slot off len => Sys2Proof.Machine.execGetCertificate t slot off len s
  | .challenge t slot nonce => Sys2Proof.Machine.execChallenge t slot nonce s
  | .getMeasurements t index signed nonce => Sys2Proof.Machine.execGetMeasurements t index signed nonce s
  | .keyExchange t slot exchange => Sys2Proof.Machine.execKeyExchange t slot exchange s
  | .finish t session => Sys2Proof.Machine.execFinish t session s
  | .heartbeat t session => Sys2Proof.Machine.execHeartbeat t session s
  | .keyUpdate t session => Sys2Proof.Machine.execKeyUpdate t session s
  | .endSession t session => Sys2Proof.Machine.execEndSession t session s
  | .chunkSend t handle seq last part => Sys2Proof.Machine.execChunkSend t handle seq last part s
  | .chunkGet t handle seq => Sys2Proof.Machine.execChunkGet t handle seq s
  | .vendorDefinedRequest t session km => Sys2Proof.Machine.execVendorDefinedRequest t session km s
  | .unsupportedSpdmRequest t code => Sys2Proof.Machine.execUnsupportedSpdmRequest t code s
  | .doeAbort h => Sys2Proof.Machine.execDoeAbort h s
  | .setEndpointId eid => Sys2Proof.Machine.execSetEndpointId eid s
  | .getEndpointId => Sys2Proof.Machine.execGetEndpointId s
  | .getEndpointUuid => Sys2Proof.Machine.execGetEndpointUuid s
  | .getMctpVersionSupport => Sys2Proof.Machine.execGetMctpVersionSupport s
  | .getMessageTypeSupport => Sys2Proof.Machine.execGetMessageTypeSupport s
  | .rngHealthFailure src test => Sys2Proof.Machine.execRngHealthFailure src test s
  | .rngStartupTestPass src => Sys2Proof.Machine.execRngStartupTestPass src s
  | .drbgReseed => Sys2Proof.Machine.execDrbgReseed s
  | .measurementExtend slot digest => Sys2Proof.Machine.execMeasurementExtend slot digest s
  | .bootMeasurement => Sys2Proof.Machine.execBootMeasurement s
  | .plumbPass inputs => Sys2Proof.Machine.execPlumbPass inputs s
  | .plumbPassEnd => Sys2Proof.Machine.execPlumbPassEnd s
  | .halt => Sys2Proof.Machine.execHalt s
  | .nop => Sys2Proof.Machine.execNop s
  | .sample d n x => Sys2Proof.Machine.execSample d n x s
  | .smax d n m1 => Sys2Proof.Machine.execSmax d n m1 s
  | .ldi d imm => Sys2Proof.Machine.execLdi d imm s
  | .ldt d k => Sys2Proof.Machine.execLdt d k s
  | .add d a b => Sys2Proof.Machine.execAdd d a b s
  | .sub d a b => Sys2Proof.Machine.execSub d a b s
  | .mulq d a b => Sys2Proof.Machine.execMulq d a b s
  | .min d a b => Sys2Proof.Machine.execMin d a b s
  | .max d a b => Sys2Proof.Machine.execMax d a b s
  | .iir d a c k => Sys2Proof.Machine.execIir d a c k s
  | .med3 d a c => Sys2Proof.Machine.execMed3 d a c s
  | .cmpge a b c setDwell clearDwell => Sys2Proof.Machine.execCmpge a b c setDwell clearDwell s
  | .cmple a b c setDwell clearDwell => Sys2Proof.Machine.execCmple a b c setDwell clearDwell s
  | .store c mode k a => Sys2Proof.Machine.execStore c mode k a s
  | .actThrottle c mode step causePower causeFlow => Sys2Proof.Machine.execActThrottle c mode step causePower causeFlow s
  | .actWake c mode region => Sys2Proof.Machine.execActWake c mode region s
  | .actSleep c mode region => Sys2Proof.Machine.execActSleep c mode region s
  | .actRaise c mode code a => Sys2Proof.Machine.execActRaise c mode code a s
  | .actScribe c mode => Sys2Proof.Machine.execActScribe c mode s
  | .actShutdown c mode => Sys2Proof.Machine.execActShutdown c mode s
  | .actSwap c mode => Sys2Proof.Machine.execActSwap c mode s
  | .trigger by_ => Sys2Proof.Machine.execTrigger by_ s
  | .triggerHold by_ => Sys2Proof.Machine.execTriggerHold by_ s
  | .holdA by_ => Sys2Proof.Machine.execHoldA by_ s
  | .holdB by_ => Sys2Proof.Machine.execHoldB by_ s
  | .releaseA by_ => Sys2Proof.Machine.execReleaseA by_ s
  | .releaseB by_ => Sys2Proof.Machine.execReleaseB by_ s
  | .scribePeriodTimer => Sys2Proof.Machine.execScribePeriodTimer s
  | .scribeCaptureComplete => Sys2Proof.Machine.execScribeCaptureComplete s
  | .registerWrite by_ off bytes => Sys2Proof.Machine.execRegisterWrite by_ off bytes s
  | .registerRead by_ off len => Sys2Proof.Machine.execRegisterRead by_ off len s
  | .unsupportedRequest f kind => Sys2Proof.Machine.execUnsupportedRequest f kind s
  | .msixTableWrite f off bytes => Sys2Proof.Machine.execMsixTableWrite f off bytes s
  | .l1SubstateEntry h l12 => Sys2Proof.Machine.execL1SubstateEntry h l12 s
  | .l0pWidthRequest h width => Sys2Proof.Machine.execL0pWidthRequest h width s
  | .cdrLockLoss l => Sys2Proof.Machine.execCdrLockLoss l s
  | .periodBoundary l words => Sys2Proof.Machine.execPeriodBoundary l words s

end Sys2Proof.Machine
end

