-- ==== Sys2Proof/Safety.lean ====
section
/-! DEFINITION. What a sound state of the module is, and what every command keeps, in the terms of the statements. -/

namespace Sys2Proof.Machine

/-- Register kind of a code: the catalogue lists the kinds in the order of their codes. -/
def kindOfCode (c : Nat) : Option RegKind := RegKind.all[c]?

/-- Reset value at a key of the register table. -/
def regDefault (key : Nat) : Word :=
  match kindOfCode (key % 256) with
  | some k => k.reset (key / 256)
  | none => 0

/-- A key of the register table names a register that the catalogue has. -/
def regNamed (key : Nat) : Bool :=
  match kindOfCode (key % 256) with
  | some k => decide (key / 256 < k.count)
  | none => false

/-- A sound state: every table is in its canonical form (keys strictly rising, nothing listed that an unlisted key
reads as), every stored register is one of the catalogue, each timer runs at most once, DEVTIME fits its 64 bits, and
the wear budget of the store is at most 32,000 tokens (R24, R129). -/
structure State.Inv (s : State) : Prop where
  regs : Tbl.wf regDefault s.regs = true
  named : s.regs.all (fun e => regNamed e.1) = true
  ctrs : Tbl.wf (fun _ => (0 : Word)) s.ctrs = true
  bankA : Tbl.wf (fun _ => (0 : Word)) s.bankA = true
  bankB : Tbl.wf (fun _ => (0 : Word)) s.bankB = true
  cfg : Tbl.wf cfgReset s.cfg = true
  msix : Tbl.wf msixReset s.msix = true
  fuses : Tbl.risingFrom 0 s.fuses = true
  store : Tbl.wf (fun _ => (0 : Byte)) s.rss.bytes = true
  flash : Tbl.risingFrom 0 s.ridge.flash = true
  hosts : Tbl.wf (fun _ => HostDyn.reset) s.hosts = true
  funcs : Tbl.wf (fun _ => FnDyn.reset) s.funcs = true
  txns : Tbl.wf (fun _ => TxnDyn.reset) s.txns = true
  ports : Tbl.wf (fun _ => PortDyn.reset) s.ports = true
  lanes : Tbl.wf (fun _ => LaneDyn.reset) s.lanes = true
  queues : Tbl.wf (fun _ => QDyn.reset) s.queues = true
  engines : Tbl.wf (fun _ => EngDyn.reset) s.engines = true
  pegs : Tbl.wf (fun _ => PegDyn.reset) s.pegs = true
  served : Tbl.wf (fun _ => 0) s.served = true
  timers : (s.timers.map (fun e => e.1)).Nodup
  devtime : s.devtime < 2 ^ 64
  wear : s.rss.wear ≤ 65536000000000

/-- State `t` may come after `s` by the effect of commands: the queue is as it was, the model's clock and its counter
of free values have not gone back, what had left the module has left it, and soundness is kept. -/
structure State.Follows (s t : State) : Prop where
  pending : t.pending = s.pending
  clock : s.clock ≤ t.clock
  free : s.freeCtr ≤ t.freeCtr
  sent : s.sent <:+ t.sent
  inv : s.Inv → t.Inv

/-! ### What a command leaves alone -/

/-- The areas of the state beside the register table. -/
inductive Area where
  | pending | phase | clock | devtime | ctrs | bankA | bankB | cfg | msix | pba | fuses | timers | store | wear | hosts
  | funcs | txns | commits | ports | lanes | queues | engines | pegs | vecs | brace | ridge | plumb | scribe | pins
  | restore | plank | served | waking | warm | damaged | scrubAt | ring | nextId | freeCtr | sent | freed
  deriving DecidableEq, Repr

/-- An area has the same value in two states: the table, list or value itself, so every entry of it. `devtime` is DEVTIME
with its slew, `store` the retained-state store with its controller, `wear` the store's wear budget, `plank` the
generation, time and bytes of the last Plank rebuild. -/
def Area.same (s t : State) : Area → Prop
  | .pending => t.pending = s.pending
  | .phase => t.phase = s.phase
  | .clock => t.clock = s.clock
  | .devtime => t.devtime = s.devtime ∧ t.slew = s.slew ∧ t.slewFrac = s.slewFrac
  | .ctrs => t.ctrs = s.ctrs
  | .bankA => t.bankA = s.bankA
  | .bankB => t.bankB = s.bankB
  | .cfg => t.cfg = s.cfg
  | .msix => t.msix = s.msix
  | .pba => t.pba = s.pba
  | .fuses => t.fuses = s.fuses
  | .timers => t.timers = s.timers
  | .store => t.rss.bytes = s.rss.bytes ∧ t.rss.job = s.rss.job ∧ t.rss.compactDue = s.rss.compactDue ∧
      t.rss.directNext = s.rss.directNext
  | .wear => t.rss.wear = s.rss.wear
  | .hosts => t.hosts = s.hosts
  | .funcs => t.funcs = s.funcs
  | .txns => t.txns = s.txns
  | .commits => t.commits = s.commits
  | .ports => t.ports = s.ports
  | .lanes => t.lanes = s.lanes
  | .queues => t.queues = s.queues
  | .engines => t.engines = s.engines
  | .pegs => t.pegs = s.pegs
  | .vecs => t.vecs = s.vecs
  | .freed => t.freed = s.freed
  | .brace => t.brace = s.brace
  | .ridge => t.ridge = s.ridge
  | .plumb => t.plumb = s.plumb
  | .scribe => t.scribe = s.scribe
  | .pins => t.pins = s.pins
  | .restore => t.restore = s.restore
  | .plank => t.plankGen = s.plankGen ∧ t.plankTime = s.plankTime ∧ t.planks = s.planks
  | .served => t.served = s.served
  | .waking => t.waking = s.waking
  | .warm => t.warm = s.warm
  | .damaged => t.damaged = s.damaged
  | .scrubAt => t.scrubAt = s.scrubAt
  | .ring => t.ring = s.ring
  | .nextId => t.nextId = s.nextId
  | .freeCtr => t.freeCtr = s.freeCtr
  | .sent => t.sent = s.sent

/-- From `s` to `t` nothing changes but registers of the kinds listed and the areas listed. -/
structure State.Only (ks : List RegKind) (ps : List Area) (s t : State) : Prop where
  words : ∀ k, k ∉ ks → ∀ i, t.word k i = s.word k i
  areas : ∀ p, p ∉ ps → Area.same s t p

/-- Whenever the command runs, nothing changes but registers of the kinds listed and the areas listed. -/
def Leaves (ks : List RegKind) (ps : List Area) (c : Instr) : Prop := ∀ s t : State, exec c s = .next t → State.Only ks ps s t

/-- States of a region that wakes or is gated. -/
def wakeKinds : List RegKind := [.PWR_STATE_MISC, .PWR_STATE_EG, .PWR_STATE_BAY0, .PWR_STATE_BAY1, .BAY_STATUS]

/-- What a host link that leaves L1 changes. -/
def linkKinds : List RegKind := [.PWR_STATE_MISC, .HP_LINK_STATUS]

/-- What a reported fault changes (R393 to R399). -/
def reportKinds : List RegKind := [.BRACE_HIST_PTR, .FAULT_DETAIL, .FAULT_SEV, .BRACE_DSTATE, .BRACE_HIST]

/-- What a channel's entry, halt or end changes. -/
def channelKinds : List RegKind := [.PWR_STATE_MISC, .PWR_STATE_EG, .PWR_STATE_BAY0, .PWR_STATE_BAY1, .HP_LINK_STATUS, .HP_IDE_STATUS, .Q_STATE,
    .Q_SQ_IDX, .Q_CQ_IDX, .Q_COAL, .Q_RESUME, .Q_RESUME_OFS, .Q_RESUME_EXT, .Q_ERR_ADDR, .Q_ERR_INFO, .Q_HELD_CMP, .TE_STATUS, .TE_RDBUF,
    .SCHED_MISS_LOG0, .SCHED_MISS_LOG1, .BAY_STATUS]
def channelAreas : List Area := [.ctrs, .timers, .hosts, .queues, .engines, .vecs, .plumb, .waking, .freeCtr, .sent]

/-- What sending on a Joist port changes. -/
def frameKinds : List RegKind := [.SCHED_MISS_LOG0, .SCHED_MISS_LOG1, .JP_STATUS, .JP_SEQ, .JP_REPLAY, .JL_STATUS, .JL_SEED]
def joistAreas : List Area := [.ctrs, .timers, .ports, .lanes, .freeCtr, .sent]

/-- What a Joist port that goes down changes of itself and of Brace. -/
def fallKinds : List RegKind := [.SCHED_RSV_VC, .JP_STATUS, .JP_SEQ, .JP_REPLAY, .JP_DOWN_LOG, .JP_DOWN_TIME, .JT_SCARF, .JL_STATUS, .JL_SEED]

/-- What a reset of Ridge changes beyond the channels that its frozen transactions release. -/
def ridgeResetKinds : List RegKind := [.GLOBAL_STATUS, .TXN_STATUS, .TXN_STAGED, .FUNC_STATE, .BRACE_TRESTLE, .MB_CTRL, .MB_STATUS]

/-- Time that passes until a timer is due. -/
def passing : List Area := [.clock, .devtime, .wear, .timers]

/-- The command runs to a next state in which `P` holds. -/
def Completes (c : Instr) (s : State) (P : State → Prop) : Prop := ∃ t, exec c s = .next t ∧ P t

/-- The expiry of timer `t` takes place: the timer runs, and no deferred shutdown has stopped its clock (R104, R133; log entry 8). -/
def State.fires (s : State) (t : Timer) : Bool := s.armed t && (decide (s.phase ≠ .deferring) || t.inSill)

/-- Region `r` runs, and the pass in progress has collected no SLEEP of it, which an access would cancel (R14, R26). -/
def State.steady (s : State) (r : Nat) : Bool := decide (s.region r = 0) && !s.plumb.sleeps.contains r

/-- TLP `o` of function `f` as it leaves: with an ECRC where the function's PF generates it (R134, R172). -/
def State.asSent (s : State) (f : Nat) (o : Output) : Output := if s.cfgBit (fnPf f) 0x118 6 then .ecrc o else o

/-- A write of register `i` of kind `k` by agent `a` takes effect at once: the agent reaches the register ring, its host link
is not in L1, its view lets it write the register, no earlier access of its ring master waits, and the region that holds the
register runs, with no SLEEP of it collected in the pass, which the access would cancel (R13, R14, R26, R32, R47). -/
structure State.Writable (s : State) (a : Agent) (k : RegKind) (i : Nat) : Prop where
  reaches : s.reach a = 2
  awake : ∀ f, a = .fn f → s.get HP_LINK_STATUS.pm_state (fnPort f) ≠ 2
  granted : s.rightTo a k i = .write
  first : ∀ x ∈ s.ring, x.master ≠ masterOf a
  running : s.steady (partRegion ⟨k, i, 0⟩) = true

/-- Outputs `o`, oldest first, have left the module, and nothing else. -/
def State.Sends (s t : State) (o : List Output) : Prop := t.sent = o.reverse ++ s.sent

/-! ### Ridge's answers -/

/-- Ridge has answered an SPDM request on transport `t` with `r`: a DOE's request has been taken, and nothing outside Ridge,
the DOE and the counter of free values has changed (R419). -/
structure SpdmAnswers (s : State) (t : Transport) (r : SpdmRsp) (u : State) : Prop where
  sent : u.sent = .spdm t r :: s.sent
  taken : ∀ h : HostId, t = .doe h → (u.host h).doeIn = []
  only : State.Only [] [.ridge, .hosts, .freeCtr, .sent] s u

/-- Ridge has answered an IDE_KM message of PFh's DOE, with stream `i` now as `x`, and left every other stream of the port
(R158). -/
structure KmAnswers (s : State) (h : HostId) (r : KmRsp) (i : Fin 9) (x : IdeStream) (u : State) : Prop where
  sent : ∃ id, u.sent = .spdm (.doe h) (.ideKm id r) :: s.sent
  stream : u.ideStream h i = x
  others : ∀ j, j ≠ i.val → u.ideStream h j = s.ideStream h j
  only : State.Only [.HP_IDE_STATUS] [.hosts, .sent] s u

/-- Secure bit of IDE stream `i` of host port `h`: 0 the link stream, 1 to 8 the selective streams (R157). -/
def State.secureBit (s : State) (h i : Nat) : Bool :=
  if i = 0 then s.on HP_IDE_STATUS.link_secure h else (s.get HP_IDE_STATUS.sel_secure h).testBit (i - 1)

/-- Command `op` of a caller has ended with a result and a response: sent over MCTP, or kept until the mailbox command ends
(R428, R430). -/
def Answered (s : State) (c : Caller) (op result : Nat) (rsp : List Byte) (u : State) : Prop :=
  match c with
  | .mailbox h => ∃ m ∈ u.ridge.mailbox, m.h = h.val ∧ m.opcode = op ∧ m.result = result ∧ m.rsp = rsp
  | .mctp _ _ => .mctpResponse result rsp ∈ u.sent ∧ s.sent <:+ u.sent

/-- Ridge has gone into reset: its region is held, its release is due 10 us later, configuration is frozen, every session,
update and pending answer is lost, and every mailbox is unavailable (R402, R404, R424, R429). -/
structure RidgeHeld (t : State) : Prop where
  held : t.get PWR_STATE_MISC.ridge = 5
  due : t.due .restart = some (t.clock + 10000)
  frozen : t.get GLOBAL_STATUS.cfg_frozen = 1
  down : t.get GLOBAL_STATUS.ridge_down = 1
  stopped : t.ridge.running = false
  sessions : t.ridge.sessions = []
  update : t.ridge.update = none
  mailboxes : ∀ h : HostId, t.get MB_STATUS.state h = 3

/-- No transaction is open, committing or persisting in any context (R123). -/
def State.NoTxn (s : State) : Prop := s.commits = [] ∧ ∀ c : CtxId, s.get TXN_STATUS.state c = 0

/-- Ridge runs or is out of reset with no restart pending, attempted within the last 60 s or planned (R404, R434). -/
structure State.RidgeSteady (s : State) : Prop where
  live : s.ridgeLive = true
  whole : s.get GLOBAL_STATUS.degraded = 0
  calm : s.get BRACE_TRESTLE.restarting = 0
  rested : s.armed .restartCount = false
  unplanned : s.ridge.planned = false
  noTxn : s.NoTxn

/-- A Ridge failure with a cause has held Ridge in reset, with the count of restarts at 0 (R404). -/
structure RidgeFailed (cause : Nat) (t : State) : Prop where
  held : RidgeHeld t
  cause : t.get BRACE_TRESTLE.cause = cause
  first : t.get BRACE_TRESTLE.restarts = 0

/-- A reset of host port `h` has returned the port's registers to their reset values, emptied PFh's mailbox, ended the SPDM
sessions of its DOE, and left the settings, the IDE streams and the mailboxes of the other ports (R34, R161, R424, R429). -/
structure PortReset (s : State) (h : HostId) (t : State) : Prop where
  regs : ∀ k ∈ [RegKind.HP_LINK_CTRL, .HP_PM_CTRL, .HP_LTR, .HP_TAG, .HP_PTM_CTRL, .HP_PTM_OFFSET, .HP_PPS_DEVTIME, .HP_PPS_HOST,
    .HP_IDE_STATUS, .MB_CTRL, .MB_STATUS, .MB_CMD], t.word k h = k.reset h
  sessions : ∀ x ∈ t.ridge.sessions, x.overDoe ≠ some h.val
  others : ∀ g : HostId, g ≠ h → ∀ k ∈ [RegKind.HP_LINK_CTRL, .HP_PM_CTRL, .HP_LTR, .HP_TAG, .HP_PTM_CTRL,
    .HP_PTM_OFFSET, .MB_CTRL, .MB_STATUS, .MB_CMD], t.word k g = s.word k g
  streams : ∀ g : HostId, g ≠ h → (∀ j, (s.ideStream g j).next = none) → t.word .HP_IDE_STATUS g = s.word .HP_IDE_STATUS g

/-- Everything but the Sill has been returned to its reset value, with DEVTIME, the fuse shadows and the retained-state store as
they were (R34, R108, R132). -/
structure ModuleReset (s t : State) : Prop where
  devtime : t.devtime = s.devtime
  fuses : t.fuses = s.fuses
  store : t.rss.bytes = s.rss.bytes
  counters : t.ctrs = []
  config : t.cfg = []
  words : ∀ k, k ∉ [RegKind.FUSE_STATUS, .FUSE_SERIAL0, .FUSE_SERIAL1, .FUSE_MARGINAL, .SAFE_RECORD, .RSS_STATUS, .RSS_IMAGE_SEQ,
    .RSS_LAST_SEQ, .RSS_BOOT_STATUS] → ∀ i, t.word k i = k.reset i

/-- Every region but the Sill is off (R88). -/
def State.AllOff (t : State) : Prop := ∀ r, r < 44 → t.region r = 4

/-! ### Queues, ports and requests -/

/-- The way of queue `q`'s entries to the host is free: no earlier request of its channel's path waits, and the slices of the queue
engine and of the host run (R18, R95). -/
structure State.EntryWay (s : State) (q : Nat) : Prop where
  alone : ∀ ws, s.hostPathBusy q ws = false
  opens : s.hostOpen [0] (s.qOwner q) = true

/-- Queue `q` may write a final entry now: its owner may send requests, the CQ has room, nothing is held, moved, fetched ahead or
unacknowledged, and its rings have legal sizes (R227, R228, R241). -/
structure State.EntryRoom (s : State) (q : Nat) : Prop where
  up : s.isUp = true
  may : s.canMaster (s.qOwner q) = true
  room : s.cqFull q = false
  sq : s.get Q_RING.sq_log2 q ≤ 16
  cq : s.get Q_RING.cq_log2 q ≤ 16
  held : (s.queue q).held = none
  halt : (s.queue q).haltDue = none
  alone : (s.queue q).pref = []
  acked : (s.queue q).unacked = []
  still : (s.queue q).moving = false
  way : s.EntryWay q

/-- The final entry of the running descriptor of queue `q` has been written: both heads have advanced, the phase has turned with
the ring, and the queue waits for no room and runs no descriptor (R228, R241, R242). -/
structure EntryPosted (s : State) (q : Nat) (t : State) : Prop where
  head : t.get Q_CQ_IDX.cq_head q = (s.get Q_CQ_IDX.cq_head q + 1) % s.cqSize q
  phase : t.get Q_CQ_IDX.phase q =
    if (s.get Q_CQ_IDX.cq_head q + 1) % s.cqSize q = 0 then 1 - s.get Q_CQ_IDX.phase q else s.get Q_CQ_IDX.phase q
  sqHead : t.get Q_SQ_IDX.sq_head q = (s.get Q_SQ_IDX.sq_head q + 1) % s.sqSize q
  waits : t.get Q_STATE.cq_wait q = 0
  ended : (t.queue q).cur = none

/-- A request of a host for function `f` reaches the module: its link is there and not in L1, its IDE stream has not failed, and the
function answers memory requests (R148, R159, R160). -/
structure State.Hears (s : State) (f : Nat) : Prop where
  heard : s.unheard f = false
  awake : s.get HP_LINK_STATUS.pm_state (fnPort f) ≠ 2
  mem : s.memEnabled f = true

/-- No FLR and no clearing of VF Enable waits for a tag to come free (R193). -/
def State.NoFlrWaits (s : State) : Prop := (∀ e ∈ s.funcs, e.2.heldFlr = false) ∧ ∀ e ∈ s.hosts, e.2.vfcHeld = false

/-- No engine has anything to issue: none is bound to a channel that runs (R254). -/
def State.NoEngineRuns (s : State) : Prop := ∀ e ∈ s.engines, e.2.q = none ∨ e.2.draining = true

/-- Joist port `p` is up, not scarfed and quiet, and follows the far end's unit stream on its lanes: what comes next begins a frame
(R325, R342). -/
structure State.InFrame (s : State) (p : Nat) : Prop where
  up : s.isUp = true
  linked : s.get JP_STATUS.link_state p = 3
  single : s.scarfed p = false
  rxOpen : (s.port p).rxOpen = true
  framed : (s.port p).lost = false
  skips : (s.port p).skip = 0
  fresh : (s.port p).partial_ = []
  head : (s.port p).headUsed = none
  egress : (s.port p).egress = []
  replay : (s.port p).replay = []
  asks : (s.port p).sleepReq = false

/-- Joist port `p` has gone down with a cause and stays down for 100 us (R345). -/
structure PortFell (p cause : Nat) (t : State) : Prop where
  down : t.get JP_STATUS.link_state p = 5
  cause : t.get JP_DOWN_LOG.cause p = cause
  holds : t.due (.downHold p) = some (t.clock + 100000)

/-- Joist port `p` is in reset, with LOCAL_RESET low for 100 us (R66, R341). -/
structure PortHeld (p : Nat) (t : State) : Prop where
  reset : t.get JP_STATUS.link_state p = 1
  low : (t.port p).resetOut = true
  due : t.due (.portReset p) = some (t.clock + 100000)

/-- Joist port `p` trains (R310, R342). -/
structure PortTrains (p : Nat) (t : State) : Prop where
  training : t.get JP_STATUS.link_state p = 2
  limit : t.armed (.training p) = true

/-- A capture into bank `b` has begun; the regions that do not run at its edge are noted (R97, R459, R460). -/
structure CaptureBegun (s : State) (b source : Nat) (holder : Option Nat) (t : State) : Prop where
  capturing : t.scribe = ⟨some b, holder, (List.range 44).filter (fun r => s.region r != 0)⟩
  state : t.bankState b = 1
  seq : t.get SCRIBE_SEQ.seq b = (max (s.get SCRIBE_SEQ.seq 0) (s.get SCRIBE_SEQ.seq 1) + 1) % 2 ^ 64
  time : t.get SCRIBE_TIME.devtime b = t.devtime % 2 ^ 64
  source : t.get SCRIBE_INFO.source b = source
  counted : t.ctr (modCtr 13) = s.ctr (modCtr 13) + 1

/-! ### Plumb -/

/-- A pass of Plumb is in progress and its instructions execute (R441). -/
def State.passRuns (s : State) : Prop := s.plumbRuns = true ∧ s.plumb.inPass = true ∧ s.plumb.ended = false

/-- An instruction of a pass has loaded working register `d` with `v` and left the others, the cells, and everything
outside Plumb (R443). -/
structure Computes (s : State) (d : Nat) (v : Dword) (t : State) : Prop where
  value : t.plumb.w d = v
  others : ∀ i, i ≠ d → t.plumb.w i = s.plumb.w i
  cells : ∀ c, t.plumb.cell c = s.plumb.cell c
  only : State.Only [] [.plumb] s t

/-- An instruction of a pass has collected an action, as `P` says, and left the working registers, the cells, and
everything outside Plumb (R442). -/
structure Collects (s : State) (P : PlumbDyn → Prop) (t : State) : Prop where
  action : P t.plumb
  works : ∀ i, t.plumb.w i = s.plumb.w i
  cells : ∀ c, t.plumb.cell c = s.plumb.cell c
  only : State.Only [] [.plumb] s t

/-- The timer of a comparison cell after one more pass in which its condition holds, saturating (R444). -/
def State.nextDwell (s : State) (c : Nat) : Nat := min (2 ^ 30 - 1) ((s.plumb.cell c).toNat % 2 ^ 30 + s.plumb.period)

/-- A comparison has moved cell `c`: flag in bit 31, changed bit in bit 30, timer in us below. `holds` tells whether the
condition of the flag's present value holds, and `dwell` for how long it must, in us (R444). -/
structure Compares (s : State) (c : Nat) (holds : Bool) (dwell : Nat) (t : State) : Prop where
  lapses : holds = false → (t.plumb.cell c).toNat = 2 ^ 31 * b2n ((s.plumb.cell c).getLsbD 31)
  waits : holds = true → s.nextDwell c < dwell →
    (t.plumb.cell c).toNat = 2 ^ 31 * b2n ((s.plumb.cell c).getLsbD 31) + s.nextDwell c
  flips : holds = true → dwell ≤ s.nextDwell c →
    (t.plumb.cell c).toNat = 2 ^ 31 * b2n (!(s.plumb.cell c).getLsbD 31) + 2 ^ 30
  others : ∀ e, e ≠ c → t.plumb.cell e = s.plumb.cell e
  works : ∀ i, t.plumb.w i = s.plumb.w i
  only : State.Only [] [.plumb] s t

end Sys2Proof.Machine
end

