-- ==== Sys2Proof/WellFormed.lean ====
section
/-! DEFINITION. Which commands a port of the module can present. The operands of the other commands need no check: their
types hold exactly the values that the spec gives them. -/

namespace Sys2Proof

open Sys2Proof.Machine

/-- Which commands are well formed. -/
def Instr.wf : Instr → Bool
  | .mainsPowerUp fs _ _ => wfFuses fs
  | .hostCompletion _ _ _ d => wfCompletion d.length
  | .expansionRomRead o n => wfSpan o.toNat n
  | .windowRead _ o n a b _ => wfWindow o n a b
  | .windowWrite _ o d a b _ => wfWrite o d.length a b
  | .retFieldWrite _ o bs | .registerWrite _ o bs | .msixTableWrite _ o bs => wfBytes o bs.length
  | .registerRead _ p x => wfWindow p.off x.dws x.firstBe x.lastBe
  | .data _ ls | .idle _ ls | .laneSet _ ls => wfLines ls.length
  | .faultEvent n c _ _ _ => wfCode n c
  | .safeStateEntry n c => safeCode n.val c.val
  | .flashUe a => wfFlash a
  | .railFault rail r => railFeeds rail.val r.val
  | .ridgeFailure c => c.val != 0
  | .keyExchange _ _ x => wfPoint x.length
  | .rngHealthFailure _ t => t.val != 0
  | .plumbPass x => wfInputs x
  | .linkTrainingComplete _ _ | .flrTagAbandon _ _ | .hostCompletionTimeout _ _ | .timedOutTagRelease _ _
  | .doorbell _ _ _ _ _ | .l0pEvaluation _ _ _ | .l0pWidthRequest _ _ | .localResponseTimeout _ _ | .tagHoldExpiry _ _
  | .bootScanComplete _ | .plumbStartPermit | .restoreStrobe | .mainsLoss | .modResetAsserted _ _
  | .modResetReleased | .standbyRecognised _ | .standbyReleased _ | .ppsInEdge _ | .hardTrip | .thermalShutdown
  | .shutdownDeferralExpiry | .perstAsserted _ | .perstReleased _ | .cprsntChange _ _ | .hotReset _ | .linkDown _
  | .configRead _ _ _ | .configWrite _ _ _ _ _ _ | .initiateFlr _ | .flrComplete _ | .vfEnableSet _
  | .vfEnableClear _ | .busMasterEnableClear _ | .busMasterEnableSet _ | .d3hotEntry _ | .resizableBarWrite _ _ _
  | .msiMultipleMessageEnableWrite _ | .hostTagGrant _ | .pmeTurnOff _ | .l1EntryRequest _ | .l1Exit _
  | .ltrMessage _ | .hpLtrWrite _ _ _ | .ptmDialog _ _ | .ptmContextExpiry _ | .ideIntegrityFailure _ _ _
  | .query _ | .keyProg _ _ _ _ | .kSetGo _ _ _ | .kSetStop _ _ _ | .txnBegin _ | .commit _ _ | .rollback _
  | .txnTimeout _ | .commitStrobe _ | .quiesceTimeout _ | .persistComplete _ | .rssWriteComplete | .rssCompact _
  | .enable _ _ | .stop _ _ | .resume _ _ | .restart _ _ | .skip _ _ | .disable _ _ | .descriptorFetch
  | .descriptorArrival _ | .extensionArrival _ | .completionEntryWrite _ | .coalesceTimer _ | .engineGrant _
  | .rateLimiterRelease _ | .drainComplete _ | .engineFault _ _ | .reserveGrant _ _ | .ledgerScrub _
  | .regionWakeComplete _ | .clockGateIdle _ | .wakeToneDetected _ | .markerReceived _ _ | .activePeriodOpen _
  | .dozeKeepalive _ | .keepaliveMissing _ | .jlTestEnable _ _ _ _ _ _ _ | .idleInterval _
  | .replayTimeout _ | .txMaskChange _ | .autoLaneDrop _ _ | .laneSetComplianceTimeout _
  | .laneRelock _ | .lockLossTimeout _ | .wakeFail _ | .trainTimeout _ | .downHoldExpiry _ | .localResetRelease _
  | .dozeEntry _ | .sleepIdle _ | .sleepReq _ | .sleepAck _ | .sleepNak _ | .pmReplyTimeout _
  | .localPresentChange _ _ | .retrain _ _ | .portReset _ _ | .bayReset _ _ | .rd _ _ | .wr _ _ | .cpl _ _
  | .peg _ _ | .timeFrame _ | .scarfMergerTimeout _ | .raise _ _ | .eos _ _ | .pegDelivery | .heldMessageRelease _
  | .recoveryStart | .recoveryEnd _ | .classifierWindowExpiry _ _ _ | .faultDetailClear _ _ _ | .braceRelease _ _
  | .lockstep | .checkerLost _ | .selftest _ | .selftestTimeout | .watchdog | .trestleRestartAttempt | .alive
  | .restartFail | .restartCountReset | .getInfo _ | .getCertChain _ | .getRandom _ | .fwBegin _ | .fwWrite _
  | .fwFinish _ | .fwActivate _ | .ridgeRestart _ | .fwCancel _ | .regRead _ | .regWrite _ | .mailboxAbort _ _
  | .mailboxCommandDone _ | .getVersion _ | .getCapabilities _ | .negotiateAlgorithms _ | .getDigests _
  | .getCertificate _ _ _ _ | .challenge _ _ _ | .getMeasurements _ _ _ _ | .finish _ _ | .heartbeat _ _
  | .keyUpdate _ _ | .endSession _ _ | .chunkSend _ _ _ _ _ | .chunkGet _ _ _ | .vendorDefinedRequest _ _ _
  | .unsupportedSpdmRequest _ _ | .doeAbort _ | .setEndpointId _ | .getEndpointId | .getEndpointUuid
  | .getMctpVersionSupport | .getMessageTypeSupport | .rngStartupTestPass _ | .drbgReseed | .measurementExtend _ _
  | .bootMeasurement | .plumbPassEnd | .halt | .nop | .sample _ _ _ | .smax _ _ _ | .ldi _ _ | .ldt _ _
  | .add _ _ _ | .sub _ _ _ | .mulq _ _ _ | .min _ _ _ | .max _ _ _ | .iir _ _ _ _ | .med3 _ _ _ | .cmpge _ _ _ _ _
  | .cmple _ _ _ _ _ | .store _ _ _ _ | .actThrottle _ _ _ _ _ | .actWake _ _ _ | .actSleep _ _ _
  | .actRaise _ _ _ _ | .actScribe _ _ | .actShutdown _ _ | .actSwap _ _ | .trigger _ | .triggerHold _ | .holdA _
  | .holdB _ | .releaseA _ | .releaseB _ | .scribePeriodTimer | .scribeCaptureComplete | .unsupportedRequest _ _
  | .l1SubstateEntry _ _ | .cdrLockLoss _ | .periodBoundary _ _ => true

end Sys2Proof
end

