-- ==== Sys2Proof/Certificates/Slice0/Obligations.lean ====
section
/-! DEFINITION. The statements for the provers. -/

open Sys2Proof Sys2Proof.Machine

/-! ### The machine -/

/-- A step takes the command at the front of the queue and is that command's effect with the queue's rest. -/
def Obligations.StepTakesFront : Prop :=
  ∀ (c : Instr) (q : List Instr) (s : State), step { s with pending := c :: q } = exec c { s with pending := q }

/-- With no command waiting, 1 ns passes where the module has mains, and nothing but the clock, DEVTIME and the wear budget
changes. The model's choice (log entry 1). -/
def Obligations.IdleStepPassesTime : Prop :=
  ∀ s : State, s.pending = [] → ∃ t, step s = .next t ∧ State.Only [] [.clock, .devtime, .wear] s t ∧
    t.clock = s.clock + (if s.phase = .off then 0 else 1) ∧
    (s.phase ≠ .off → s.slew = 0 → t.devtime = (s.devtime + 1) % 2 ^ 64)

/-- Every command has a next state, in every state of the module and with every operand: none faults, none is refused. With operands
that no port can present a command is a Malformed TLP of some function where it is a TLP of a host, and leaves the state as it is
otherwise, the model's own reading (log entry 10). -/
def Obligations.CommandsComplete : Prop :=
  ∀ (c : Instr) (s : State), (∃ t, exec c s = .next t)
    ∧ (c.wf = false → exec c s = .next s ∨ ∃ (f : FnId) (x : TlpInfo), exec c s = exec (.unsupportedRequest f (.malformed x)) s)

/-- Every step keeps the state sound: every table in its canonical form, every stored register one of the catalogue, each
timer at most once, DEVTIME within 64 bits and the wear budget within 32,000 tokens. -/
def Obligations.StepKeepsSound : Prop := ∀ s t : State, s.Inv → step s = .next t → t.Inv

/-- The state after reset is sound. -/
def Obligations.ResetSound : Prop := State.reset.Inv

/-- A command leaves the waiting commands as they are, never turns the clock or the counter of free values back, and takes
back nothing that has left the module. -/
def Obligations.CommandsGoForward : Prop :=
  ∀ (c : Instr) (s t : State), exec c s = .next t →
    t.pending = s.pending ∧ s.clock ≤ t.clock ∧ s.freeCtr ≤ t.freeCtr ∧ s.sent <:+ t.sent

/-! ### Plumb -/

/-- In a pass, LDI, LDT, ADD, SUB, MULQ, MIN and MAX load Wd and nothing else (R443). -/
def Obligations.PlumbArithmeticComputes : Prop :=
  ∀ (s : State) (d a b : Fin 16), s.passRuns →
    (∀ imm : BitVec 22, Completes (.ldi d imm) s (Computes s d (imm.signExtend 32)))
    ∧ (∀ k : Fin 32, Completes (.ldt d k) s (Computes s d (s.plumb.active.getD (256 + k) 0)))
    ∧ Completes (.add d a b) s (Computes s d (s.plumb.w a + s.plumb.w b))
    ∧ Completes (.sub d a b) s (Computes s d (s.plumb.w a - s.plumb.w b))
    ∧ Completes (.mulq d a b) s
        (Computes s d (((s.plumb.w a).signExtend 64 * (s.plumb.w b).signExtend 64).extractLsb' 16 32))
    ∧ Completes (.min d a b) s
        (Computes s d (if (s.plumb.w b).toInt < (s.plumb.w a).toInt then s.plumb.w b else s.plumb.w a))
    ∧ Completes (.max d a b) s
        (Computes s d (if (s.plumb.w a).toInt < (s.plumb.w b).toInt then s.plumb.w b else s.plumb.w a))

/-- In a pass, SAMPLE loads the latched input, SMAX the largest of m1 + 1 inputs in a row, IIR filters into cell c and Wd,
and MED3 loads the median of Wa, Fc and Fc+1 and shifts the two cells (R440, R443). -/
def Obligations.PlumbInputsCompute : Prop :=
  ∀ (s : State) (d a : Fin 16) (n : Fin 64), s.passRuns →
    (∀ x : Fin 64, x.val < indexCount n.val → Completes (.sample d n x) s (Computes s d (s.plumb.input n x)))
    ∧ (∀ m1 : Fin 64, (n.val + m1.val < 60 ∨ n.val = 63 ∧ m1.val = 0) → ∃ v : Dword,
        (∃ k, k ≤ m1.val ∧ v = s.plumb.input (n + k) 0) ∧ (∀ k, k ≤ m1.val → (s.plumb.input (n + k) 0).toInt ≤ v.toInt)
        ∧ Completes (.smax d n m1) s (Computes s d v))
    ∧ (∀ (c : Fin 64) (k : Fin 16), Completes (.iir d a c k) s (fun t =>
        t.plumb.cell c = s.plumb.cell c + (s.plumb.w a - s.plumb.cell c).sshiftRight k ∧ t.plumb.w d = t.plumb.cell c
        ∧ (∀ i, i ≠ d.val → t.plumb.w i = s.plumb.w i) ∧ (∀ e, e ≠ c.val → t.plumb.cell e = s.plumb.cell e)
        ∧ State.Only [] [.plumb] s t))
    ∧ (∀ c : Fin 64, c.val ≠ 63 → Completes (.med3 d a c) s (fun t =>
        let xs := [s.plumb.w a, s.plumb.cell c, s.plumb.cell (c + 1)]
        t.plumb.w d ∈ xs ∧ 2 ≤ (xs.filter (fun x => decide (x.toInt ≤ (t.plumb.w d).toInt))).length
        ∧ 2 ≤ (xs.filter (fun x => decide ((t.plumb.w d).toInt ≤ x.toInt))).length
        ∧ t.plumb.cell c = s.plumb.w a ∧ t.plumb.cell (c + 1) = s.plumb.cell c
        ∧ (∀ i, i ≠ d.val → t.plumb.w i = s.plumb.w i)
        ∧ (∀ e, e ≠ c.val → e ≠ c.val + 1 → t.plumb.cell e = s.plumb.cell e) ∧ State.Only [] [.plumb] s t))

/-- In a pass, CMPGE and CMPLE move cell c by hysteresis and dwell (R444). -/
def Obligations.PlumbComparisons : Prop :=
  ∀ (s : State) (a b : Fin 16) (c sd cd : Fin 64), s.passRuns → b.val ≠ 15 →
    Completes (.cmpge a b c sd cd) s
      (Compares s c (if (s.plumb.cell c).getLsbD 31 then decide ((s.plumb.w a).toInt < (s.plumb.w (b + 1)).toInt)
          else decide ((s.plumb.w b).toInt ≤ (s.plumb.w a).toInt))
        (200 * (if (s.plumb.cell c).getLsbD 31 then cd.val else sd.val)))
    ∧ Completes (.cmple a b c sd cd) s
      (Compares s c (if (s.plumb.cell c).getLsbD 31 then decide ((s.plumb.w (b + 1)).toInt < (s.plumb.w a).toInt)
          else decide ((s.plumb.w a).toInt ≤ (s.plumb.w b).toInt))
        (200 * (if (s.plumb.cell c).getLsbD 31 then cd.val else sd.val)))

/-- In a pass, an action whose condition does not hold collects nothing, and one whose condition holds is collected:
THROTTLE keeps the highest step with the causes that asked for it, WAKE and SLEEP note the region, RAISE the code with Wa as a
locator in whole units, and SCRIBE, SHUTDOWN and SWAP are noted (R442, R443, R445). -/
def Obligations.PlumbActionsCollect : Prop :=
  ∀ (s : State) (c : Fin 64) (mode : Fin 4), s.passRuns →
    let p := s.plumb
    let idle (t : State) : Prop := Collects s (fun q => q.step = p.step ∧ q.causePower = p.causePower ∧
      q.causeFlow = p.causeFlow ∧ q.wakes = p.wakes ∧ q.sleeps = p.sleeps ∧ q.raises = p.raises ∧ q.scribe = p.scribe
      ∧ q.shutdown = p.shutdown ∧ q.swap = p.swap) t
    let taken (P : PlumbDyn → Prop) (t : State) : Prop := if p.when c mode then Collects s P t else idle t
    (∀ (step : Fin 8) (power flow : Bool), 1 ≤ step.val → step.val ≤ 4 →
      Completes (.actThrottle c mode step power flow) s (taken (fun q =>
        if p.step < step then q.step = step ∧ q.causePower = power ∧ q.causeFlow = flow
        else if p.step = step then q.step = p.step ∧ q.causePower = (p.causePower || power) ∧ q.causeFlow = (p.causeFlow || flow)
        else q.step = p.step ∧ q.causePower = p.causePower ∧ q.causeFlow = p.causeFlow)))
    ∧ (∀ r : Fin 256, r.val ≤ 38 → Completes (.actWake c mode r) s (taken (fun q => ∀ x, x ∈ q.wakes ↔ x = r.val ∨ x ∈ p.wakes)))
    ∧ (∀ r : Fin 256, r.val ≤ 33 → Completes (.actSleep c mode r) s (taken (fun q => ∀ x, x ∈ q.sleeps ↔ x = r.val ∨ x ∈ p.sleeps)))
    ∧ (∀ (n : Fin 256) (a : Fin 16), (n.val = 0 ∨ n.val = 4) → Completes (.actRaise c mode n a) s (taken (fun q =>
        q.raises = p.raises ++ [(n.val, BitVec.ofInt 64 ((p.w a).toInt / 16))])))
    ∧ Completes (.actScribe c mode) s (taken (fun q => q.scribe = true))
    ∧ Completes (.actShutdown c mode) s (taken (fun q => q.shutdown = true))
    ∧ Completes (.actSwap c mode) s (taken (fun q => q.swap = true))

/-- In a pass, HALT ends the pass's instructions, NOP changes no result, and a STORE whose condition holds puts Wa into the
shadow word k unless a commit wrote that word in this pass; PLUMB_STATUS.stored then tells of a difference from the committed
word. Operands that R446 leaves undefined make an instruction a NOP that is counted (R443, R446, R448). -/
def Obligations.PlumbProgramRuns : Prop :=
  ∀ s : State, s.passRuns → s.plumb.shadow.length = 288 →
    Completes .halt s (Collects s (fun q => q.ended = true ∧ q.active = s.plumb.active ∧ q.shadow = s.plumb.shadow))
    ∧ Completes .nop s (Collects s (fun q => q.count = s.plumb.count + 1 ∧ q.active = s.plumb.active ∧ q.shadow = s.plumb.shadow))
    ∧ (∀ (c : Fin 64) (mode : Fin 4) (k : Fin 512) (a : Fin 16), k.val ≤ 287 → Completes (.store c mode k a) s (fun t =>
        t.plumb.active = s.plumb.active ∧ State.Only [.PLUMB_STATUS] [.plumb] s t ∧
        if s.plumb.when c mode ∧ k.val ∉ s.plumb.committed then
          t.plumb.shadow = s.plumb.shadow.set k (s.plumb.w a) ∧ (s.plumb.w a ≠ s.committedWord k → t.get PLUMB_STATUS.stored = 1)
        else t.plumb.shadow = s.plumb.shadow ∧ t.get PLUMB_STATUS.stored = s.get PLUMB_STATUS.stored))
    ∧ (∀ c : Instr, plumbLegal c = false → Completes c s (fun t =>
        t.ctr (modCtr 4) = s.ctr (modCtr 4) + 1 ∧ t.plumb.work = s.plumb.work ∧ t.plumb.cells = s.plumb.cells
        ∧ t.plumb.shadow = s.plumb.shadow ∧ State.Only [] [.plumb, .ctrs] s t))

/-- A pass that is due opens with the inputs latched, nothing collected and the period of PLUMB_CTRL, runs the active image,
and sets the next pass; the end of a pass counts it and shows the step and the instructions executed, and collected actions
no longer wait (R440 to R442, R454). -/
def Obligations.PlumbPassesRun : Prop :=
  (∀ (s : State) (x : PlumbInputs), wfInputs x = true → s.plumbRuns = true → s.fires .plumb = true → s.plumb.inPass = false →
    Completes (.plumbPass x) s (fun t => t.plumb.inPass = true ∧ t.plumb.sensors = x.sensors ∧ t.plumb.groups = x.groups
      ∧ t.plumb.bays = x.bays ∧ t.plumb.slices = x.slices ∧ t.plumb.status = s.statusInput
      ∧ t.plumb.period = min 100000 (max 40 (s.get PLUMB_CTRL.period_us))
      ∧ t.due .plumb = some (t.clock + 1000 * t.plumb.period) ∧ t.plumb.active = s.plumb.active))
  ∧ (∀ s : State, s.isUp = true → s.plumb.inPass = true → s.plumb.shutdown = false → s.plumb.hot < 3 →
    Completes .plumbPassEnd s (fun t => t.plumb.inPass = false ∧ t.get PWR_THROTTLE.step = s.plumb.step % 8
      ∧ t.get PLUMB_STATUS.passes = (s.get PLUMB_STATUS.passes + 1) % 2 ^ 32
      ∧ t.get PLUMB_STATUS.executed = s.plumb.count % 512 ∧ t.get PLUMB_ACT.step_req = s.plumb.step % 8
      ∧ (s.plumb.swap = true → t.plumb.active = s.plumb.shadow ∧ t.get PLUMB_STATUS.swap_pending = 0)))

/-! ### SPDM, IDE keys and MCTP -/

/-- GET_VERSION, GET_CAPABILITIES and NEGOTIATE_ALGORITHMS answer version 1.3, the capabilities and the algorithms of R421
and take the connection to its next stage; a negotiated connection answers GET_DIGESTS and GET_CERTIFICATE of slot 0 from the
certificate chain, and any other request is answered UnsupportedRequest (R420 to R422). That an order of requests is needed, and
that an offset beyond the chain is an invalid request, is presumed from SPDM 1.3 (log entry 16). -/
def Obligations.SpdmNegotiates : Prop :=
  ∀ (s : State) (t : Transport), s.spdmReady t = true →
    Completes (.getVersion t) s (fun u => SpdmAnswers s t (.version 1 3) u ∧ (u.conn t).stage = 1)
    ∧ (1 ≤ (s.conn t).stage → Completes (.getCapabilities t) s (fun u =>
        SpdmAnswers s t (.capabilities [.cert, .chal, .measSig, .measFresh, .encrypt, .mac, .keyEx, .hbeat, .keyUpd, .chunk] 4096 65536 0) u
        ∧ 2 ≤ (u.conn t).stage))
    ∧ (2 ≤ (s.conn t).stage → Completes (.negotiateAlgorithms t) s (fun u =>
        SpdmAnswers s t (.algorithms [.ecdsaP384, .sha384, .measSha384, .secp384r1, .aes256Gcm, .spdmKeySchedule, .dmtf]) u
        ∧ 3 ≤ (u.conn t).stage))
    ∧ (3 ≤ (s.conn t).stage → Completes (.getDigests t) s (SpdmAnswers s t (.digests 0 (Config.sha384 s.chain))))
    ∧ (∀ off len : Nat, 3 ≤ (s.conn t).stage → len ≤ 4088 → Completes (.getCertificate t 0 off len) s (SpdmAnswers s t
        (if s.chain.length ≤ off then .error .invalid
          else .certificate 0 ((s.chain.drop off).take len) (s.chain.length - (off + len)))))
    ∧ (∀ code : Byte, Completes (.unsupportedSpdmRequest t code) s (SpdmAnswers s t (.error (.unsupported code.toNat))))

/-- CHALLENGE, GET_MEASUREMENTS and KEY_EXCHANGE answer with the DRBG's nonce and a signature; unsigned measurements need
neither; the refusals of R425 come first, those for want of random data counted, and a third session on a transport is refused
(R423 to R425, R432). The nonce and the
signature are free values (log entry 7). -/
def Obligations.SpdmAttests : Prop :=
  ∀ (s : State) (t : Transport) (nonce : BitVec 256) (x : List Byte), s.spdmReady t = true → 3 ≤ (s.conn t).stage → x.length = 96 →
    (s.attestRefused = none →
      Completes (.challenge t 0 nonce) s (fun u => ∃ n g, n.length = 32 ∧ g.length = 96 ∧
        SpdmAnswers s t (.challengeAuth 0 (Config.sha384 s.chain) n g) u)
      ∧ (∀ i : Byte, 1 ≤ i.toNat → i.toNat ≤ 17 → Completes (.getMeasurements t i true nonce) s (fun u =>
          ∃ n g, n.length = 32 ∧ g.length = 96 ∧ SpdmAnswers s t (.measurements [s.measBlock i.toNat] 17 n g) u))
      ∧ ((s.sessionsOn t).length < 2 → Completes (.keyExchange t 0 x) s (fun u =>
          ∃ id share g, share.length = 96 ∧ g.length = 96 ∧ SpdmAnswers s t (.keyExchange id share g) u
            ∧ u.ridge.sessions = s.ridge.sessions ++ [⟨id, doeOf t, false⟩]))
      ∧ (2 ≤ (s.sessionsOn t).length → Completes (.keyExchange t 0 x) s (SpdmAnswers s t (.error .sessionLimit))))
    ∧ (∀ i : Byte, 1 ≤ i.toNat → i.toNat ≤ 17 → Completes (.getMeasurements t i false nonce) s
        (SpdmAnswers s t (.measurements [s.measBlock i.toNat] 17 [] [])))
    ∧ (s.on GLOBAL_STATUS.identity_degraded = true →
        Completes (.challenge t 0 nonce) s (SpdmAnswers s t (.error (.vendorDefined 1)))
        ∧ Completes (.keyExchange t 0 x) s (SpdmAnswers s t (.error (.vendorDefined 1))))
    ∧ (let refused (e : SpdmError) (u : State) : Prop := u.sent = .spdm t (.error e) :: s.sent
          ∧ u.ctr (modCtr 12) = s.ctr (modCtr 12) + 1 ∧ State.Only [] [.ctrs, .hosts, .sent] s u
      s.on GLOBAL_STATUS.identity_degraded = false →
        (s.on SEC_STATUS.rng_failed = true → Completes (.challenge t 0 nonce) s (refused (.vendorDefined 2))
          ∧ Completes (.keyExchange t 0 x) s (refused (.vendorDefined 2)))
        ∧ (s.on SEC_STATUS.rng_failed = false → s.drbgReady = false → Completes (.challenge t 0 nonce) s (refused .busy)
          ∧ Completes (.keyExchange t 0 x) s (refused .busy)))

/-- FINISH establishes an open session; an established one answers HEARTBEAT and KEY_UPDATE and is closed by END_SESSION; a
large request arrives in chunks in order and a large response leaves in chunks; DOE Abort empties a DOE (R419, R420). -/
def Obligations.SpdmSessions : Prop :=
  ∀ (s : State) (t : Transport) (id : Nat) (x : Session), s.spdmReady t = true → 3 ≤ (s.conn t).stage →
    (s.session t id = some x → x.confirmed = false → Completes (.finish t id) s (fun u => SpdmAnswers s t (.finished id) u
        ∧ ∃ y, u.session t id = some y ∧ y.confirmed = true))
    ∧ (s.session t id = some x → x.confirmed = true →
        Completes (.heartbeat t id) s (SpdmAnswers s t (.heartbeatAck id))
        ∧ Completes (.keyUpdate t id) s (SpdmAnswers s t (.keyUpdateAck id))
        ∧ Completes (.endSession t id) s (fun u => SpdmAnswers s t (.endSessionAck id) u ∧ u.session t id = none))
    ∧ (∀ (handle : Byte) (part : List Byte), (s.conn t).chunkIn = none → Completes (.chunkSend t handle 0 false part) s
        (fun u => SpdmAnswers s t (.chunkSendAck handle.toNat 0) u ∧ (u.conn t).chunkIn = some (handle.toNat, 1)))
    ∧ (∀ (handle : Byte) (seq : Nat) (last : Bool) (part : List Byte), (s.conn t).chunkIn = some (handle.toNat, seq) →
        Completes (.chunkSend t handle seq last part) s (fun u => SpdmAnswers s t (.chunkSendAck handle.toNat seq) u
          ∧ (u.conn t).chunkIn = if last then none else some (handle.toNat, seq + 1)))
    ∧ (∀ (handle : Byte) (seq : Nat) (bs : List Byte), (s.conn t).chunkOut = some (handle.toNat, seq, bs) →
        Completes (.chunkGet t handle seq) s (fun u =>
          SpdmAnswers s t (.chunkResponse handle.toNat seq (decide (bs.length ≤ 4084)) (bs.take 4084)) u
          ∧ (u.conn t).chunkOut = if bs.length ≤ 4084 then none else some (handle.toNat, seq + 1, bs.drop 4084)))
    ∧ (∀ h : HostId, t = .doe h → Completes (.doeAbort h) s (fun u => (u.host h).doeIn = [] ∧ (u.host h).doeOut = []
        ∧ (u.host h).doeError = false ∧ (u.conn t).chunkIn = none ∧ (u.conn t).chunkOut = none
        ∧ State.Only [] [.hosts, .ridge] s u))

/-- IDE keys are programmed through the port's own DOE in an established session: QUERY changes no key, KEY_PROG loads a key
set, K_SET_GO of a programmed key set makes a stream secure that was not, of another one than is in use shows key_change until it
takes effect, and K_SET_STOP of the key set in use ends that; the vendor request in a session does the same (R157, R158, R162).
That a key change takes effect with the stream's next TLP is the model's choice (log entry 55). -/
def Obligations.IdeKeysProgram : Prop :=
  ∀ (s : State) (h : HostId) (i : Fin 9) (k : Fin 2) (key : BitVec 256), s.kmReady h = true →
    let x := s.ideStream h i
    Completes (.query h) s (fun u => (∃ id, u.sent = .spdm (.doe h) (.ideKm id (s.kmQuery h)) :: s.sent)
      ∧ State.Only [] [.hosts, .sent] s u ∧ ∀ j, u.ideStream h j = s.ideStream h j)
    ∧ Completes (.keyProg h i k key) s (fun u => KmAnswers s h (.kpAck i k) i (u.ideStream h i) u
        ∧ find1 k.val (u.ideStream h i).keys = some key ∧ (u.ideStream h i).active = x.active ∧ u.secureBit h i = s.secureBit h i)
    ∧ (find1 k.val x.keys ≠ none →
        (x.active = none ∨ x.active = some k.val → Completes (.kSetGo h i k) s (fun u =>
          KmAnswers s h (.goStopAck i k) i { x with active := some k.val, next := none, failed := false } u ∧ u.secureBit h i = true))
        ∧ (∀ j, x.active = some j → j ≠ k.val → Completes (.kSetGo h i k) s (fun u =>
          KmAnswers s h (.goStopAck i k) i { x with next := some k.val } u ∧ u.secureBit h i = s.secureBit h i
          ∧ u.get HP_IDE_STATUS.key_change h = 1)))
    ∧ (x.active = some k.val → Completes (.kSetStop h i k) s (fun u =>
        KmAnswers s h (.goStopAck i k) i { x with active := none, next := none, keys := drop1 k.val x.keys } u ∧ u.secureBit h i = false))
    ∧ (∀ (id : Nat) (y : Session), s.spdmReady (.doe h) = true → 3 ≤ (s.conn (.doe h)).stage →
        s.session (.doe h) id = some y → y.confirmed = true →
        Completes (.vendorDefinedRequest (.doe h) id (.keyProg i k key)) s (fun u =>
          u.sent = .spdm (.doe h) (.ideKm id (.kpAck i k)) :: s.sent ∧ find1 k.val (u.ideStream h i).keys = some key))

/-- A stream in use that fails becomes insecure, and stays so until it is programmed again; the other streams keep their keys, and
those with no key change under way keep all they have (R159, R162). -/
def Obligations.IdeFailureEndsStream : Prop :=
  ∀ (s : State) (h : HostId) (i : Fin 9) (kind : IdeFailure), (s.ideStream h i).active ≠ none →
    Completes (.ideIntegrityFailure h i kind) s (fun t => (t.ideStream h i).active = none ∧ (t.ideStream h i).failed = true
      ∧ t.streamFailed h (some i) = true ∧ t.secureBit h i = false
      ∧ ∀ j, j ≠ i.val → (t.ideStream h j).keys = (s.ideStream h j).keys ∧ (t.ideStream h j).failed = (s.ideStream h j).failed
        ∧ ((s.ideStream h j).next = none → t.ideStream h j = s.ideStream h j))

/-- While its firmware runs, Ridge answers the MCTP control commands: it takes the endpoint ID of Set Endpoint ID, answers with it, and
names its message types; a request to another SMBus address than 0x60 + slot ID it does not take (R69, R427). That IDs 0 and 255 are
refused is presumed (log entry 16); the UUID and the versions are free values (log entry 7). -/
def Obligations.MctpControlAnswers : Prop :=
  ∀ (s : State) (a : SmbusAddr),
    (s.ridge.running = true → s.ridgeLive = true →
      (∀ e : Byte, e.toNat ≠ 0 → e.toNat ≠ 255 → Completes (.setEndpointId e) s (fun t =>
        t.ridge.eid = e.toNat ∧ t.sent = .mctp (.eidSet true e.toNat) :: s.sent ∧ State.Only [] [.ridge, .sent] s t))
      ∧ Completes .getEndpointId s (fun t => t.sent = .mctp (.eid s.ridge.eid) :: s.sent ∧ State.Only [] [.sent] s t)
      ∧ Completes .getEndpointUuid s (fun t => t.sent = .mctp (.uuid Config.endpointUuid) :: s.sent ∧ State.Only [] [.sent] s t)
      ∧ Completes .getMctpVersionSupport s (fun t => t.sent = .mctp (.versions Config.mctpVersions) :: s.sent ∧ State.Only [] [.sent] s t)
      ∧ Completes .getMessageTypeSupport s (fun t => t.sent = .mctp (.types [0x00, 0x05, 0x06, 0x7E]) :: s.sent ∧ State.Only [] [.sent] s t))
    ∧ (a.toNat ≠ 0x60 + s.pins.slotId % 16 →
        Completes (.getInfo (.mctp a [])) s (fun t => t = s) ∧ Completes (.getVersion (.mctp a)) s (fun t => t = s))

/-! ### Commands of the mailboxes and MCTP -/

/-- GET_INFO, GET_CERT_CHAIN and GET_RANDOM answer any caller: the firmware version and slot run, the chain from an offset, and
bytes of the DRBG, which are free values (log entry 7); a blocked DRBG answers ENTROPY_UNAVAILABLE (R430, R432). The packing of
GET_INFO is the model's choice (log entry 23). -/
def Obligations.InformationCommands : Prop :=
  ∀ (s : State) (c : Caller),
    (s.served? c 0x01 = true → s.requestOf c = [] → Completes (.getInfo c) s (fun u => ∃ rsp, Answered s c 0x01 0 rsp u ∧
      rsp.length = 32 ∧ rsp.take 8 = leBytes 8 s.ridge.version
      ∧ rsp[8]? = some (BitVec.ofNat 8 (s.get SEC_STATUS.fw_slot)) ∧ State.Only [] [.ridge, .freeCtr, .sent] s u))
    ∧ (s.served? c 0x02 = true → (s.requestOf c).length = 4 → Completes (.getCertChain c) s (fun u =>
        Answered s c 0x02 0 ((s.chain.drop (leAt (s.requestOf c) 0 4)).take 4096) u ∧ State.Only [] [.ridge, .sent] s u))
    ∧ (s.served? c 0x03 = true → (s.requestOf c).length = 2 → 1 ≤ leAt (s.requestOf c) 0 2 → leAt (s.requestOf c) 0 2 ≤ 4096 →
        (s.drbgReady = true → Completes (.getRandom c) s (fun u => ∃ rsp, Answered s c 0x03 0 rsp u ∧
          rsp.length = leAt (s.requestOf c) 0 2 ∧ u.ridge.drbg = s.ridge.drbg + 1 ∧ State.Only [] [.ridge, .freeCtr, .sent] s u))
        ∧ (s.drbgReady = false → Completes (.getRandom c) s (fun u => Answered s c 0x03 5 [] u
          ∧ u.ctr (modCtr 12) = s.ctr (modCtr 12) + 1 ∧ State.Only [] [.ctrs, .ridge, .sent] s u)))

/-- A firmware update runs in its order: FW_BEGIN opens it for its caller and erases the inactive slot, FW_WRITE writes at the
next offset, FW_FINISH checks the image, FW_ACTIVATE makes the directory name the new slot and closes the update, FW_CANCEL
closes it; a caller that is neither the configuration owner's mailbox nor MCTP receives NOT_PERMITTED (R430, R434). -/
def Obligations.FirmwareUpdates : Prop :=
  ∀ (s : State) (c : Caller) (u : Update), s.isOwner c = true →
    (s.served? c 0x10 = true → (s.requestOf c).length = 4 → leAt (s.requestOf c) 0 4 ≤ slotSize →
      (∀ v, s.ridge.update = some v → v.caller = callerNo c) → Completes (.fwBegin c) s (fun t => Answered s c 0x10 0 [] t ∧
        t.ridge.update = some ⟨callerNo c, leAt (s.requestOf c) 0 4, 0, false, 1 - s.activeSlot⟩
        ∧ (∀ a, slotOf a = some (1 - s.activeSlot) → t.flash a 1 = [Config.erasedByte a])
        ∧ (∀ a, slotOf a ≠ some (1 - s.activeSlot) → t.flash a 1 = s.flash a 1)))
    ∧ (s.served? c 0x11 = true → s.ridge.update = some u → u.caller = callerNo c → 4 ≤ (s.requestOf c).length →
        (s.requestOf c).length ≤ 4096 → leAt (s.requestOf c) 0 4 = u.written → u.written + (s.requestOf c).length - 4 ≤ slotSize →
        Completes (.fwWrite c) s (fun t => Answered s c 0x11 0 [] t ∧
          t.flash (slotBase (1 - s.activeSlot) + u.written) ((s.requestOf c).length - 4) = (s.requestOf c).drop 4
          ∧ t.ridge.update = some { u with written := u.written + (s.requestOf c).length - 4, finished := false }))
    ∧ (s.served? c 0x12 = true → s.ridge.update = some u → u.caller = callerNo c → s.requestOf c = [] →
        Completes (.fwFinish c) s (fun t => if s.imageGood u then Answered s c 0x12 0 [] t ∧ t.ridge.update = some { u with finished := true }
          else Answered s c 0x12 7 [] t ∧ t.ridge.update = some u))
    ∧ (s.served? c 0x13 = true → s.ridge.update = some u → u.caller = callerNo c → s.requestOf c = [] → u.finished = true →
        (∀ d, s.directory = some d → d.2.1 + 1 < 2 ^ 32) → Completes (.fwActivate c) s (fun t => Answered s c 0x13 0 [] t ∧
          t.ridge.update = none ∧ t.activeSlot = 1 - s.activeSlot))
    ∧ (s.served? c 0x1F = true → (∀ v, s.ridge.update = some v → v.caller = callerNo c) → s.requestOf c = [] →
        Completes (.fwCancel c) s (fun t => Answered s c 0x1F 0 [] t ∧ t.ridge.update = none ∧ t.ridge.flash = s.ridge.flash))

/-- RIDGE_RESTART over MCTP answers OK and holds Ridge in reset with no failure counted, and from the owner's mailbox answers
OK first; REG_READ and REG_WRITE are for MCTP alone, answer 8 bytes and OK, and are refused to a mailbox; a caller without the
right is refused (R430, R434). -/
def Obligations.RidgeCommands : Prop :=
  ∀ (s : State) (c : Caller) (a : SmbusAddr) (req : List Byte),
    (s.served? (.mctp a []) 0x14 = true → s.NoTxn → Completes (.ridgeRestart (.mctp a [])) s (fun t => .mctpResponse 0 [] ∈ t.sent ∧ RidgeHeld t
      ∧ t.get BRACE_TRESTLE.restarts = s.get BRACE_TRESTLE.restarts ∧ t.get BRACE_TRESTLE.cause = s.get BRACE_TRESTLE.cause))
    ∧ (∀ h : HostId, s.served? (.mailbox h) 0x14 = true → h.val = s.owner → s.requestOf (.mailbox h) = [] →
        Completes (.ridgeRestart (.mailbox h)) s (Answered s (.mailbox h) 0x14 0 []))
    ∧ (s.served? c 0x10 = true → s.isOwner c = false → Completes (.fwBegin c) s (fun t => Answered s c 0x10 3 [] t ∧ t.ridge.update = s.ridge.update))
    ∧ (∀ h : HostId, (s.served? (.mailbox h) 0x20 = true → Completes (.regRead (.mailbox h)) s (Answered s (.mailbox h) 0x20 3 []))
        ∧ (s.served? (.mailbox h) 0x21 = true → Completes (.regWrite (.mailbox h)) s (Answered s (.mailbox h) 0x21 3 [])))
    ∧ (s.served? (.mctp a req) 0x20 = true → req.length = 3 → leAt req 0 3 % 4 = 0 → (∀ x ∈ s.ring, x.master ≠ 4) →
        s.steady (s.regionAt .ridge (leAt req 0 3 / 8 * 8)) = true → Completes (.regRead (.mctp a req)) s (fun t =>
          ∃ bs, bs.length = 8 ∧ t.sent = .mctpResponse 0 bs :: s.sent ∧ State.Only [] [.sent] s t))
    ∧ (s.served? (.mctp a req) 0x21 = true → req.length = 12 → leAt req 0 3 % 4 = 0 → (∀ x ∈ s.ring, x.master ≠ 4) →
        s.steady (s.regionAt .ridge (leAt req 0 3 / 8 * 8)) = true → Completes (.regWrite (.mctp a req)) s (fun t =>
          t.sent.head? = some (.mctpResponse 0 []) ∧ t.ring = s.ring))

/-- The end of a mailbox command shows state done, the result, the length and the response, and clears go; abort of a running
command ends it with ABORTED (R428, R429). -/
def Obligations.MailboxCommandsEnd : Prop :=
  ∀ (s : State) (h : HostId) (a : Agent) (m : MbRun),
    (s.get MB_STATUS.state h = 1 → s.ridge.running = true → s.ridge.mailbox.find? (fun x => x.h == h.val) = some m →
      m.result < 256 → m.rsp.length ≤ 4096 → (m.opcode = 0x14 → m.result ≠ 0) → Completes (.mailboxCommandDone h) s (fun t =>
        t.get MB_STATUS.state h = 2 ∧ t.get MB_STATUS.result h = m.result ∧ t.get MB_STATUS.rsp_len h = m.rsp.length
        ∧ t.get MB_CTRL.go h = 0
        ∧ (∀ w, 8 * w < m.rsp.length → t.word .MB_RSP (512 * h + w) = BitVec.ofNat 64 (leAt m.rsp (8 * w) 8))))
    ∧ (s.get MB_STATUS.state h = 1 → s.ridge.running = true → s.ridge.mailbox.find? (fun x => x.h == h.val) = none →
        s.get MB_CMD.opcode h ∉ [0x01, 0x02, 0x03, 0x10, 0x11, 0x12, 0x13, 0x14, 0x1F, 0x20, 0x21] →
        Completes (.mailboxCommandDone h) s (fun t => t.get MB_STATUS.state h = 2 ∧ t.get MB_STATUS.result h = 1
          ∧ t.get MB_STATUS.rsp_len h = 0))
    ∧ (s.Writable a .MB_CTRL h → s.get MB_STATUS.state h = 1 → s.ridge.mailbox.find? (fun x => x.h == h.val) = none →
        Completes (.mailboxAbort a h) s (fun t => t.get MB_STATUS.state h = 2 ∧ t.get MB_STATUS.result h = 4
          ∧ t.get MB_STATUS.rsp_len h = 0 ∧ t.get MB_CTRL.go h = 0 ∧ t.get MB_CTRL.abort h = 0))

/-- A health failure blocks the DRBG, sends both sources to their startup tests and counts, and the third latches RNG_FAILED;
a passed startup test unblocks it unless RNG_FAILED is latched; a reseed is counted; an extension of slots 8 to 15 hashes slot
and digest, and the boot measurement fills and locks slots 0 to 5 (R417, R418, R431 to R433). -/
def Obligations.RandomNumbersAndMeasurements : Prop :=
  ∀ (s : State) (src : Fin 2) (test : Fin 4) (slot : Fin 16) (x : BitVec 384),
    (s.ridgeLive = true → test.val ≠ 0 → Completes (.rngHealthFailure src test) s (fun t =>
      t.get SEC_STATUS.rng_blocked = 1 ∧ t.get RNG_STATUS.ns0_ok = 0 ∧ t.get RNG_STATUS.ns1_ok = 0 ∧ t.ridge.startup = [0, 1]
      ∧ t.get RNG_STATUS.fail_count = min 3 (s.failCount + 1) ∧ t.get RNG_STATUS.last_fail_src = src.val
      ∧ t.get RNG_STATUS.last_fail_test = test.val ∧ (2 ≤ s.failCount → t.get SEC_STATUS.rng_failed = 1)))
    ∧ (s.ridgeLive = true → src.val ∈ s.ridge.startup → Completes (.rngStartupTestPass src) s (fun t =>
        t.get (if src.val = 0 then RNG_STATUS.ns0_ok else RNG_STATUS.ns1_ok) = 1
        ∧ t.get SEC_STATUS.rng_blocked = (if s.on SEC_STATUS.rng_failed then s.get SEC_STATUS.rng_blocked else 0)
        ∧ (∀ y, y ∈ t.ridge.startup ↔ y ∈ s.ridge.startup ∧ y ≠ src.val) ∧ State.Only [.RNG_STATUS, .SEC_STATUS] [.ridge] s t))
    ∧ (s.drbgReady = true → Completes .drbgReseed s (fun t => t.ridge.drbg = 0 ∧ t.ctr (modCtr 9) = s.ctr (modCtr 9) + 1
        ∧ State.Only [] [.ctrs, .ridge] s t))
    ∧ (s.ridge.running = true → 8 ≤ slot.val → Completes (.measurementExtend slot x) s (fun t =>
        t.measSlot slot = Config.sha384 (digestBytes (s.measSlot slot) ++ digestBytes x)
        ∧ (∀ k, k ≠ slot.val → t.measSlot k = s.measSlot k) ∧ State.Only [] [.ridge] s t))
    ∧ (∀ (k : Nat) (hd : List Byte), s.ridgeLive = true → s.ridge.running = false → s.on SEC_STATUS.meas_locked = false →
        s.runSlot = some (k, hd) → k < 2 → Completes .bootMeasurement s (fun t =>
          t.measSlot 0 = Config.romDigest ∧ t.measSlot 1 = Config.sha384 hd ∧ t.measSlot 2 = Config.sha384 (s.imageStage k hd 0)
          ∧ t.measSlot 3 = Config.sha384 (s.imageStage k hd 1) ∧ t.measSlot 4 = Config.sha384 (s.imageStage k hd 2)
          ∧ (∀ j, 6 ≤ j → t.measSlot j = s.measSlot j) ∧ t.get SEC_STATUS.meas_locked = 1 ∧ t.get SEC_STATUS.fw_slot = k
          ∧ t.ridge.running = true ∧ t.ridge.version = leAt hd 8 8 ∧ State.Only [.SEC_STATUS] [.ridge] s t))

/-! ### Faults and recovery -/

/-- A failure of Ridge is recorded with its cause and holds Ridge in reset: lockstep mismatch 1, checker lost 2 with the latch
of its comparator, watchdog 3, flash 4, and any cause given; a passed self-test counts and starts the next one's time (R404,
R411 to R413, R437). -/
def Obligations.RidgeFailuresHoldRidge : Prop :=
  ∀ s : State, s.RidgeSteady →
    Completes .lockstep s (RidgeFailed 1)
    ∧ (∀ x : CheckerFault, Completes (.checkerLost x) s (fun t => RidgeFailed 2 t ∧
        t.get (match x with
          | .comparatorA => RIDGE_LS.comp_a_fault
          | .comparatorB => RIDGE_LS.comp_b_fault
          | .delayParity => RIDGE_LS.delay_parity
          | .selfTestFailed => RIDGE_LS.selftest_fail) = 1))
    ∧ Completes (.selftest false) s (fun t => RidgeFailed 2 t ∧ t.get RIDGE_LS.selftest_fail = 1)
    ∧ Completes (.selftest true) s (fun t => t.get RIDGE_LS.selftest_pass = (s.get RIDGE_LS.selftest_pass + 1) % 2 ^ 32
        ∧ t.get RIDGE_LS.last_bit = (s.get RIDGE_LS.last_bit + 1) % 256 ∧ t.due .selftest = some (s.clock + 2000000)
        ∧ State.Only [.RIDGE_LS] [.timers] s t)
    ∧ (s.fires .selftest = true → Completes .selftestTimeout s (fun t => RidgeFailed 2 t ∧ t.get RIDGE_LS.selftest_timeout = 1))
    ∧ (s.fires .watchdog = true → Completes .watchdog s (RidgeFailed 3))
    ∧ (∀ a : Nat, wfFlash a = true → Completes (.flashUe a) s (RidgeFailed 4))
    ∧ (∀ cause : Fin 6, cause.val ≠ 0 → Completes (.ridgeFailure cause) s (RidgeFailed cause))
    ∧ Completes (.railFault 11 43) s (RidgeFailed 5)

/-- A due release takes Ridge out of reset, counts the attempt and gives it 2 s; alive starts the watchdog and, after a restart,
ends the freeze and the mailboxes' absence; a third failed attempt is degraded mode, an earlier one holds Ridge again; after 60 s
the count is 0 (R404, R405, R409, R418). -/
def Obligations.TrestleRestarts : Prop :=
  ∀ s : State,
    (s.get PWR_STATE_MISC.ridge = 5 → s.get GLOBAL_STATUS.degraded = 0 → s.ridge.planned = false → s.fires .restart = true →
      Completes .trestleRestartAttempt s (fun t => t.get PWR_STATE_MISC.ridge = 0
        ∧ t.get BRACE_TRESTLE.restarts = (s.get BRACE_TRESTLE.restarts + 1) % 4 ∧ t.get BRACE_TRESTLE.restarting = 1
        ∧ t.due .restart = some (t.clock + 2000000000) ∧ t.ridge.startup = [0, 1] ∧ t.get SEC_STATUS.meas_locked = 0
        ∧ (∀ k, 8 ≤ k → t.measSlot k = 0) ∧ (∀ k, k < 8 → t.measSlot k = s.measSlot k)))
    ∧ (s.Writable .ridge .BRACE_TRESTLE 0 → Completes .alive s (fun t =>
        t.due .watchdog = some (s.clock + 1000000 * min 1000 (max 10 (s.get BRACE_TRESTLE.wdog_ms)))
        ∧ (s.get GLOBAL_STATUS.ridge_down = 1 → t.get GLOBAL_STATUS.ridge_down = 0 ∧ t.get GLOBAL_STATUS.cfg_frozen = 0
            ∧ (∀ h : HostId, s.get MB_STATUS.state h = 3 → t.get MB_STATUS.state h = 0)
            ∧ (s.ridge.planned = false → t.get BRACE_TRESTLE.restarting = 0 ∧ t.due .restartCount = some (s.clock + 60000000000)))))
    ∧ (s.get PWR_STATE_MISC.ridge = 0 → s.ridge.planned = false → s.fires .restart = true → s.NoTxn →
        (s.get BRACE_TRESTLE.restarts = 3 → s.get GLOBAL_STATUS.degraded = 0 →
          Completes .restartFail s (fun t => t.get GLOBAL_STATUS.degraded = 1 ∧ t.get GLOBAL_STATUS.cfg_frozen = 1
            ∧ t.get GLOBAL_STATUS.ridge_down = 1 ∧ t.get PWR_STATE_MISC.ridge = 5 ∧ t.armed .restart = false))
        ∧ (s.get BRACE_TRESTLE.restarts ≠ 3 → Completes .restartFail s RidgeHeld))
    ∧ (s.fires .restartCount = true → Completes .restartCountReset s (fun t => t.get BRACE_TRESTLE.restarts = 0
        ∧ t.armed .restartCount = false ∧ State.Only [.BRACE_TRESTLE] [.clock, .devtime, .wear, .timers] s t))

/-- FAULT_EVENT and SAFE_STATE_ENTRY run to a next state, with any operands: while the module is up, an event of a code that Brace
reports by itself, or after taking the entry it names out of use, is counted, whatever its instance, locator and check word; an event of
a code of the safe state, and SAFE_STATE_ENTRY of it, end operation with a record of the code in every powered state but after the hard
trip. An event sets its detail bit and makes a history entry with the time, the locator and the check word; a notice with hist_notices
clear is counted alone; a rail of the Sill or of the whole module leads to safe state too, and another rail fault takes its region off
(R391 to R395, R398, R399, R406). -/
def Obligations.FaultsReported : Prop :=
  (∀ (s : State) (n : Fin 14) (c : Fin 64) (inst : Nat) (loc chk : Word), s.isUp = true →
    (n.val, c.val) ∈ [(0, 4), (0, 5), (1, 0), (1, 2), (3, 0), (5, 0), (6, 0), (7, 2), (7, 3), (9, 0), (9, 1), (9, 2), (10, 1), (11, 4), (12, 0),
      (12, 2), (12, 3), (12, 4), (13, 1), (13, 2)] →
    (n.val = 5 → inst < 1024) → (n.val = 9 ∧ c.val = 1 → loc.toNat < 24576) → (n.val = 9 ∧ c.val = 2 → loc.toNat < 65536) →
    Completes (.faultEvent n c inst loc chk) s (fun t => t.ctr (braceCtr n c) = s.ctr (braceCtr n c) + 1 ∧ t.phase = .up))
  ∧ (∀ (s : State) (n : Fin 14) (c : Fin 64) (inst : Nat) (loc chk : Word), s.powered = true → s.phase ≠ .tripped →
    (n.val, c.val) ∈ [(6, 2), (12, 5), (12, 6), (13, 3), (13, 4)] →
    ∀ i ∈ [Instr.safeStateEntry n c, .faultEvent n c inst loc chk], Completes i s (fun t => t.phase = .safe ∧ t.get SAFE_RECORD.valid = 1
      ∧ t.get SAFE_RECORD.subsystem = n.val ∧ t.get SAFE_RECORD.code = c.val ∧ t.AllOff ∧ t.devtime = s.devtime ∧ t.fuses = s.fuses))
  ∧ ∀ (s : State) (inst : Nat) (loc chk : Word), s.isUp = true →
    (inst < 1024 → Completes (.faultEvent 5 0 inst loc chk) s (fun t =>
      let k := s.get BRACE_HIST_PTR.next
      t.hurt .SCHED_FUNC inst = true ∧ (t.word .FAULT_DETAIL 5).getLsbD 0 = true
      ∧ t.ctr (braceCtr 5 0) = s.ctr (braceCtr 5 0) + 1
      ∧ t.word .BRACE_HIST (4 * k) = BitVec.ofNat 64 s.devtime ∧ t.word .BRACE_HIST (4 * k + 2) = loc
      ∧ t.word .BRACE_HIST (4 * k + 3) = chk ∧ getBits (t.word .BRACE_HIST (4 * k + 1)) 0 10 = 5
      ∧ getBits (t.word .BRACE_HIST (4 * k + 1)) 16 10 = inst ∧ t.get BRACE_HIST_PTR.next = (k + 1) % 64
      ∧ t.get BRACE_HIST_PTR.next_seq = (s.get BRACE_HIST_PTR.next_seq + 1) % 65536))
    ∧ (∀ (n : Fin 14) (c : Fin 64), (n.val, c.val) ∈ [(1, 1), (2, 1), (3, 2), (9, 1), (9, 2)] → inst < 1024 → loc.toNat < 4096 →
        Completes (.faultEvent n c inst loc chk) s (fun t => (t.word .FAULT_DETAIL n).getLsbD c = true))
    ∧ (∀ (n : Fin 14) (c : Fin 64), (n.val, c.val) ∈ [(0, 4), (0, 5), (1, 2), (7, 2), (7, 3), (13, 1), (13, 2)] →
        s.get BRACE_CTRL.hist_notices = 0 → s.steady 34 = true → Completes (.faultEvent n c inst loc chk) s (fun t =>
          t.ctr (braceCtr n c) = s.ctr (braceCtr n c) + 1 ∧ State.Only [] [.ctrs] s t))
    ∧ (∀ (rail : Fin 13) (r : RegionId), railFeeds rail r = true →
        (rail.val ∈ [0, 1, 2, 3, 10, 12] → Completes (.railFault rail r) s (fun t => t.phase = .safe ∧ t.get SAFE_RECORD.valid = 1
          ∧ t.get SAFE_RECORD.subsystem = 13 ∧ t.get SAFE_RECORD.code = 0))
        ∧ (rail.val ∈ [4, 5, 6, 7, 8, 9] → Completes (.railFault rail r) s (fun t => t.region r = 4)))

/-- An engine group's recovery starts from the head of the queue by emptying its buffers, and ends with the group clock-gated,
or offline as severe when its check fails; a classifier window that ends forgets a source that was not promoted; writing ones
clears detail bits with their severe bits; a held domain released is queued again with its severe mark clear (R395, R397, R399,
R400, R403). -/
def Obligations.FaultRecovery : Prop :=
  ∀ (s : State) (a : Agent) (g : Fin 6) (rest : List (Nat × Bool)), s.isUp = true →
    (s.brace.queue = (124 + g.val, false) :: rest → s.get GLOBAL_STATUS.ridge_down = 0 → Completes .recoveryStart s (fun t =>
      t.brace.queue = (124 + g.val, true) :: rest ∧ t.get BRACE_DSTATE.state (124 + g) = 2
      ∧ (∀ i : Fin 8, (t.eng (8 * g + i)).buf = [])
      ∧ ((∀ i : Fin 8, (s.eng (8 * g + i)).q = none) → t.egState g = 2)))
    ∧ (s.brace.queue = (124 + g.val, true) :: rest → (∀ i : Fin 8, (s.eng (8 * g + i)).q = none) →
        (s.get BRACE_DSTATE.severe (124 + g) = 0 → Completes (.recoveryEnd true) s (fun t => t.brace.queue = rest
          ∧ t.get BRACE_DSTATE.state (124 + g) = 0 ∧ t.egState g = 1 ∧ ∀ i : Fin 8, t.eng (8 * g + i) = EngDyn.reset))
        ∧ Completes (.recoveryEnd false) s (fun t => t.brace.queue = rest ∧ t.get BRACE_DSTATE.state (124 + g) = 3
          ∧ t.get BRACE_DSTATE.severe (124 + g) = 1))
    ∧ (∀ (n : Fin 14) (c : Fin 64) (inst : Nat), s.fires (.classifier n c inst) = true →
        Completes (.classifierWindowExpiry n c inst) s (fun t => t.armed (.classifier n c inst) = false
          ∧ ∀ x, x ∈ t.brace.sources ↔ x ∈ s.brace.sources ∧ (¬(x.n = n.val ∧ x.c = c.val ∧ x.inst = inst) ∨ x.promoted = true)))
    ∧ (∀ (n : Fin 14) (mask : Word), s.Writable a .FAULT_DETAIL n → s.brace.levels = [] →
        Completes (.faultDetailClear a n mask) s (fun t => t.word .FAULT_DETAIL n = s.word .FAULT_DETAIL n &&& ~~~ mask
          ∧ t.word .FAULT_SEV n = s.word .FAULT_SEV n &&& ~~~ (s.word .FAULT_DETAIL n &&& mask)))
    ∧ (∀ d : Byte, s.Writable a .BRACE_RELEASE 0 → d.toNat < 130 → s.get BRACE_DSTATE.state d.toNat = 3 →
        Completes (.braceRelease a d) s (fun t => t.get BRACE_DSTATE.state d.toNat = 1 ∧ t.get BRACE_DSTATE.severe d.toNat = 0
          ∧ t.get BRACE_DSTATE.first_seq d.toNat = s.get BRACE_HIST_PTR.next_seq ∧ (d.toNat, false) ∈ t.brace.queue
          ∧ ∀ n, t.word .FAULT_DETAIL n = s.word .FAULT_DETAIL n))

/-! ### Power -/

/-- Mains power-up reads the fuses and starts the boot scan, unless STANDBY_REQ_N or MOD_RESET_N is low; the scan's end loads Plumb and,
from an empty store, chooses the factory image or the built-in defaults; the start permit starts the host ports, Ridge's watchdog and
reports a degraded identity; the restore strobe brings the module up (R106, R108 to R110, R119). -/
def Obligations.PowerUpSequence : Prop :=
  ∀ (s : State) (fuses : List FuseRead) (temp : Byte) (slotId : Fin 16),
    (s.phase = .off → wfFuses fuses = true → s.pins.standby = false → s.pins.modReset = false →
      Completes (.mainsPowerUp fuses temp slotId) s (fun t => t.phase = .scanning ∧ t.devtime = 0 ∧ t.pins.slotId = slotId
        ∧ t.get FUSE_STATUS.boot_temp = temp.toNat ∧ t.rss.bytes = s.rss.bytes
        ∧ (∀ i w, i < 16 → voted fuses i = some w → Tbl.get 0 t.fuses i = w)
        ∧ (∀ w, voted fuses 1 = some w → t.word .FUSE_SERIAL0 0 = w)))
    ∧ (s.phase = .off → wfFuses fuses = true →
        (s.pins.standby = true → Completes (.mainsPowerUp fuses temp slotId) s (fun t => t.phase = .standby ∧ t.AllOff))
        ∧ (s.pins.standby = false → s.pins.modReset = true →
          Completes (.mainsPowerUp fuses temp slotId) s (fun t => t.phase = .heldReset)))
    ∧ (∀ readable : Bool, s.phase = .scanning → s.rssBusy = false → Completes (.bootScanComplete readable) s (fun t =>
        t.phase = .awaitPermit ∧ t.get PLUMB_STATUS.running = 1 ∧ t.due .plumb = some s.clock ∧ t.restore.isSome = true
        ∧ (s.rss.bytes = [] → t.get RSS_BOOT_STATUS.source =
          if readable = true ∧ s.passes s.factoryBank.runs = true then 2 else 3)))
    ∧ (s.phase = .awaitPermit → s.plumb.sensors ≠ [] → s.pins.dieHot = false → s.pins.inletHot = false → Completes .plumbStartPermit s (fun t =>
        t.phase = .starting ∧ t.due .watchdog = some (s.clock + 100000000) ∧ t.due .selftest = some (s.clock + 2000000)
        ∧ t.get GLOBAL_STATUS.identity_degraded = b2n (!s.identityGood)
        ∧ ∀ h : HostId, t.hcrState h = if (s.host h).absent then 4 else if (s.host h).perst then 5 else 0))
    ∧ (∀ c : Candidate, s.phase = .starting → s.restore = some c → Completes .restoreStrobe s (fun t =>
        t.phase = .up ∧ t.restore = none))

/-- Operation ends: mains loss leaves only the store; MOD_RESET_N low for 10 us resets all but the Sill, for less than 2 us does nothing
and between them either, and its release starts the boot scan; a standby request of 100 us turns every region but the Sill off and its
end starts again; the hard trip latches; a thermal shutdown is reported and turns the regions off, or is deferred for at most 6 ms while
the store is written (R34, R70, R71, R76, R99, R104, R105, R132, R133). -/
def Obligations.PowerEnds : Prop :=
  ∀ (s : State) (lowNs : Nat) (slotId : Fin 16),
    (s.isUp = true → s.rssBusy = false → Completes .mainsLoss s (fun t => t.phase = .off ∧ t.devtime = 0 ∧ t.regs = [] ∧ t.ctrs = []
      ∧ t.rss.bytes = s.rss.bytes))
    ∧ (s.isUp = true → s.rssBusy = true → Completes .mainsLoss s (fun t => t.phase = .ending .mainsOff ∧ t.rss.job = s.rss.job))
    ∧ (s.isUp = true → s.pins.standby = false →
        (10000 ≤ lowNs → Completes (.modResetAsserted lowNs slotId) s (fun t => t.phase = .heldReset
          ∧ t.pins.slotId = slotId ∧ ModuleReset s t))
        ∧ (2000 ≤ lowNs → lowNs < 10000 → Completes (.modResetAsserted lowNs slotId) s (fun t => t.phase = .heldReset ∨ t.phase = .up)))
    ∧ (lowNs < 2000 → Completes (.modResetAsserted lowNs slotId) s (fun t => t = s))
    ∧ (s.phase = .heldReset → s.pins.standby = false → Completes .modResetReleased s (fun t => t.phase = .scanning
        ∧ t.pins.modReset = false ∧ State.Only [] [.phase, .pins] s t))
    ∧ (s.isUp = true → s.rssBusy = false → 100000 ≤ lowNs → Completes (.standbyRecognised lowNs) s (fun t => t.phase = .standby ∧ t.AllOff))
    ∧ (s.phase = .standby → 100000 ≤ lowNs → Completes (.standbyReleased lowNs) s (fun t =>
        t.phase = (if s.pins.modReset then .heldReset else .scanning) ∧ ModuleReset s t))
    ∧ (s.powered = true → Completes .hardTrip s (fun t => t.phase = .tripped ∧ t.pins.tripLatch = true ∧ t.AllOff ∧ t.devtime = s.devtime
        ∧ t.fuses = s.fuses ∧ t.rss.job = none))
    ∧ (s.isUp = true → s.rssBusy = false → Completes .thermalShutdown s (fun t => t.phase = .shutdown ∧ t.AllOff
        ∧ (t.word .FAULT_DETAIL 12).getLsbD 1 = true))
    ∧ (s.isUp = true → s.rssBusy = true → Completes .thermalShutdown s (fun t => t.phase = .deferring ∧ t.pins.shutdownPending = true
        ∧ t.due .deferral = some (s.clock + 6000000)))
    ∧ (s.phase = .deferring → s.fires .deferral = true → Completes .shutdownDeferralExpiry s (fun t => t.phase = .shutdown ∧ t.AllOff
        ∧ t.rss.job = none))

/-! ### Host ports -/

/-- PERST_N going high powers the controller of a port whose cable is there; the cable's presence powers it, or holds it in reset while
PERST_N is low, and its absence turns it off; a port that may train takes the widest common width and the highest common rate, without
Flit mode to at most 32 GT/s, is degraded below the width limit, runs equalisation at the rates from 8 GT/s (at equalisation bypass, which
both ends must offer, from 32 GT/s: places and bypass as in log entry 17), and a link that is up takes a rate and width that the host
directs; a pulse on PPS_IN of 500 ns outside the lock-out of 50 ms stamps every port, one below 250 ns or within the lock-out is
rejected, and between the widths it is one of the two (R62, R70, R91, R135 to R138, R156). -/
def Obligations.HostPortsStart : Prop :=
  ∀ (s : State) (h : HostId) (o : LinkOffer) (ns : Nat),
    Completes (.perstReleased h) s (fun t => (t.host h).perst = false ∧ State.Only [.PWR_STATE_MISC] [.hosts, .ctrs] s t
      ∧ if s.portsPowered = true ∧ (s.host h).perst = true ∧ (s.host h).absent = false then
          t.hcrState h = 0 ∧ t.ctr (modCtr 5) = s.ctr (modCtr 5) + 1
        else t.hcrState h = s.hcrState h ∧ t.ctrs = s.ctrs)
    ∧ Completes (.cprsntChange h true) s (fun t => (t.host h).absent = false ∧ State.Only [.PWR_STATE_MISC] [.hosts, .ctrs] s t
      ∧ t.hcrState h = (if s.portsPowered = true then (if (s.host h).perst = true then 5 else if s.hcrState h = 4 then 0 else s.hcrState h)
        else s.hcrState h))
    ∧ (s.portsPowered = true → s.NoTxn → Completes (.cprsntChange h false) s (fun t => t.hcrState h = 4 ∧ (t.host h).absent = true))
    ∧ (let limit := widthBelow (min (s.get HP_LINK_CTRL.max_width h) o.maxWidth)
      let w := widthBelow (min limit o.workingLanes)
      let rate (flit : Bool) : Nat := min (min 6 (s.get HP_LINK_CTRL.max_rate h)) (if flit then o.maxRate else min 4 o.maxRate)
      let equal (t : State) (flit : Bool) : Prop := ∀ r ∈ eqRates (rate flit) (s.get HP_LINK_CTRL.eq_bypass h = 1 ∧ s.cfgBit h 0x22C 0 = false
        ∧ o.eqBypass = true),
        t.cfgGet h (eqPlace r).1 (eqPlace r).2 4 = 15
      let trains (t : State) (flit : Bool) : Prop := t.get HP_LINK_STATUS.link_up h = 1 ∧ t.get HP_LINK_STATUS.width h = w
        ∧ t.get HP_LINK_STATUS.rate h = rate flit ∧ t.get HP_LINK_STATUS.flit_mode h = b2n flit ∧ t.get HP_LINK_STATUS.pm_state h = 0
        ∧ t.get HP_LINK_STATUS.degraded h = b2n (decide (w < limit)) ∧ equal t flit
      (s.mayTrain h = true → s.get HP_LINK_STATUS.link_up h = 0 → 1 ≤ w → Completes (.linkTrainingComplete h o) s (fun t => trains t o.flit
          ∧ t.get HP_LINK_STATUS.reversed h = b2n o.reversed ∧ .message h (.credits 512 131072 1024 16384) ∈ t.sent))
      ∧ (s.linkUp h = true → s.get HP_LINK_STATUS.link_up h = 1 → s.get HP_LINK_STATUS.pm_state h ≠ 3 → 1 ≤ w →
          Completes (.linkTrainingComplete h o) s (fun t => trains t (s.on HP_LINK_STATUS.flit_mode h)))
      ∧ (w = 0 ∨ s.mayTrain h = false ∧ s.linkUp h = false → Completes (.linkTrainingComplete h o) s (fun t => t = s)))
    ∧ (let taken (t : State) : Prop := t.pins.pps = some s.clock ∧ (∀ g : HostId, t.get HP_PPS_DEVTIME.stamp g = s.devtime % 2 ^ 64
          ∧ t.get HP_PPS_HOST.host_time g =
            (if s.on HP_PTM_STATUS.ctx_valid g then (s.devtime + s.get HP_PTM_OFFSET.offset g) % 2 ^ 64 else 0))
        ∧ State.Only [.HP_PPS_DEVTIME, .HP_PPS_HOST] [.pins, .freeCtr] s t
      let rejected (t : State) : Prop := (∀ g : HostId, t.get HP_PTM_STATUS.pps_reject g = 1) ∧ State.Only [.HP_PTM_STATUS] [.freeCtr] s t
      let open_ : Prop := ∀ u, s.pins.pps = some u → u + 50000000 ≤ s.clock
      (500 ≤ ns → open_ → Completes (.ppsInEdge ns) s taken) ∧ (ns < 250 ∨ ¬ open_ → Completes (.ppsInEdge ns) s rejected)
      ∧ (250 ≤ ns → ns < 500 → open_ → Completes (.ppsInEdge ns) s (fun t => taken t ∨ rejected t)))

/-- PERST_N, a hot reset and a link down each reset the scope of the port and leave the settings of the others (R34, R161, R424). -/
def Obligations.HostPortsReset : Prop :=
  ∀ (s : State) (h : HostId), s.portsPowered = true → s.NoTxn →
    Completes (.perstAsserted h) s (PortReset s h)
    ∧ (s.linkUp h = true → Completes (.hotReset h) s (PortReset s h) ∧ Completes (.linkDown h) s (PortReset s h))

/-- Link power management: PME_Turn_Off is acknowledged into L2 or L3, an idle link with ASPM L1 enabled enters L1 and takes a
substate, an exit brings it back to L0 at the width that it had, L0p takes the width that the use or the host asks for (R92, R139, R140, R142, R154). -/
def Obligations.HostLinkPower : Prop :=
  ∀ (s : State) (h : HostId) (l12 : Bool) (w : Nat),
    (s.linkUp h = true → Completes (.pmeTurnOff h) s (fun t => t.get HP_LINK_STATUS.pm_state h = 3
      ∧ (t.host h).pmOff = true ∧ t.sent.head? = some (s.asSent h (.message h .pmeToAck)) ∧ ∀ r ∈ (t.host h).waiting, r.posted = false))
    ∧ (s.linkUp h = true → s.get HP_LINK_STATUS.pm_state h ≤ 1 → s.cfgBit h 0x60 1 = true → s.l1Idle h = true →
        Completes (.l1EntryRequest h) s (fun t => t.get HP_LINK_STATUS.pm_state h = 2 ∧ t.hcrState h = 1
          ∧ t.get HP_PTM_STATUS.ctx_valid h = 0 ∧ t.sent = .message h .enterL1 :: s.sent))
    ∧ (s.linkUp h = true → s.get HP_LINK_STATUS.pm_state h = 2 → Completes (.l1SubstateEntry h l12) s (fun t =>
        t.get HP_LINK_STATUS.l1_sub h = (if l12 then 2 else 1) ∧ t.hcrState h = (if l12 then 2 else 1) ∧ (t.host h).clkreq = false
        ∧ State.Only [.HP_LINK_STATUS, .PWR_STATE_MISC] [.hosts] s t))
    ∧ (s.linkUp h = true → s.get HP_LINK_STATUS.pm_state h = 2 → Completes (.l1Exit h) s (fun t =>
        t.get HP_LINK_STATUS.pm_state h = b2n (s.get HP_LINK_STATUS.l0p_width h != s.get HP_LINK_STATUS.width h)
        ∧ t.get HP_LINK_STATUS.l1_sub h = 0 ∧ (t.host h).clkreq = true))
    ∧ (s.l0pOn h = true → w ∈ [1, 2, 4, 8, 16] → w ≤ s.get HP_LINK_STATUS.width h → Completes (.l0pWidthRequest h w) s (fun t =>
        t.get HP_LINK_STATUS.l0p_width h = w ∧ t.get HP_LINK_STATUS.pm_state h = b2n (w != s.get HP_LINK_STATUS.width h)
        ∧ t.sent = .message h (.l0pWidth w) :: s.sent ∧ State.Only [.HP_LINK_STATUS] [.sent] s t))
    ∧ (∀ use16 use2 : Nat, s.l0pOn h = true → s.get HP_PM_CTRL.l0p_auto h = 1 →
        0 < s.get HP_LINK_STATUS.width h → s.get HP_LINK_STATUS.l0p_width h ≠ s.get HP_LINK_STATUS.width h →
        s.get HP_PM_CTRL.l0p_widen_pct h * s.get HP_LINK_STATUS.l0p_width h < use2 * 16 →
        Completes (.l0pEvaluation h use16 use2) s (fun t => t.get HP_LINK_STATUS.l0p_width h = s.get HP_LINK_STATUS.width h
          ∧ t.get HP_LINK_STATUS.pm_state h = 0 ∧ State.Only [.HP_LINK_STATUS] [.sent] s t))

/-- LTR messages report a change of the busy state, and a write of HP_LTR loads it and is reported; a PTM dialog that is due
loads the offset, makes the context valid and sets its period, and two periods without one make it invalid; a request that the
port turns away is logged in AER (R141, R154, R155, R160, R162). -/
def Obligations.HostMessages : Prop :=
  ∀ (s : State) (h : HostId) (a : Agent) (v : Word) (x : PtmTimes) (f : FnId),
    ((s.host h).ltrDue = false → s.ltrBusy h = true → (s.host h).ltrBusy ≠ some true → s.cfgBit h 0x78 10 = true →
      s.linkUp h = true → s.get HP_LINK_STATUS.pm_state h ≠ 3 → (s.host h).ltrNext ≤ s.clock →
      Completes (.ltrMessage h) s (fun t => (t.host h).ltrBusy = some true ∧ (t.host h).ltrNext = s.clock + 10000
        ∧ t.sent = s.asSent h (.message h (.ltr (ltrValue (s.get HP_LTR.busy_ns h)))) :: s.sent))
    ∧ (s.Writable a .HP_LTR h → Completes (.hpLtrWrite a h v) s (fun t =>
        t.get HP_LTR.busy_ns h = getBits v HP_LTR.busy_ns.lo HP_LTR.busy_ns.len
        ∧ t.get HP_LTR.idle_ns h = getBits v HP_LTR.idle_ns.lo HP_LTR.idle_ns.len))
    ∧ (s.fires (.ptm h) = true → s.cfgBit h 0x33C 0 = true → s.linkUp h = true → s.get HP_LINK_STATUS.pm_state h ≤ 1 →
        let o : Int := x.master - ((x.roundTrip : Int) - x.turnaround) / 2 - ((s.expire (.ptm h)).devtime - x.roundTrip)
        Completes (.ptmDialog h x) s (fun t =>
          s.asSent h (.message h .ptmRequest) ∈ t.sent ∧ t.get HP_PTM_OFFSET.offset h = (o % 2 ^ 64).toNat ∧ t.get HP_PTM_STATUS.ctx_valid h = 1
          ∧ (t.get HP_PTM_STATUS.steering h = 1 → (10000 < o → t.get HP_PTM_STATUS.stepped h = 1)
            ∧ (o < -1000000 → t.get HP_PTM_STATUS.align_fault h = 1) ∧ (-1000000 ≤ o → o ≤ 10000 → t.slew = o))
          ∧ t.due (.ptm h) = some (t.clock + 1000000 * max 1 (s.get HP_PTM_CTRL.period_ms h))
          ∧ t.due (.ptmContext h) = some (t.clock + 2 * (1000000 * max 1 (s.get HP_PTM_CTRL.period_ms h)))))
    ∧ (s.fires (.ptmContext h) = true → Completes (.ptmContextExpiry h) s (fun t => t.get HP_PTM_STATUS.ctx_valid h = 0
        ∧ t.get HP_PTM_STATUS.steering h = 0))
    ∧ (s.linkUp (fnPort f) = true → s.unheard f = false → s.existsFn f = true →
        let logs (y : TlpInfo) (b : Nat) (t : State) : Prop := t.cfgBit f 0x104 b = true
          ∧ (s.cfgWord f 0x104 = 0 → s.cfgBit (fnPf f) 0x108 b = false → ∀ i : Nat, i < 4 → t.cfgWord f (0x11C + 4 * i) = (tlpInfo y).getD i 0)
        (∀ p y, Completes (.unsupportedRequest f (.unsupported false p y)) s (fun t => logs y 20 t ∧ t.cfgBit f 0x58 19 = true)
          ∧ Completes (.unsupportedRequest f (.unsupported true p y)) s (fun t => logs y 20 t
            ∧ s.asSent f (.completion (fnPort f) f y.tag .unsupported []) ∈ t.sent))
        ∧ (∀ y, Completes (.unsupportedRequest f (.malformed y)) s (logs y 18))
        ∧ ∀ y, Completes (.unsupportedRequest f (.poisonedWrite y)) s (fun t => logs y 12 t
          ∧ t.ctr (hostCtr (fnPort f) 2) = s.ctr (hostCtr (fnPort f) 2) + 1))
    ∧ (s.linkUp (fnPort f) = true →
        (∀ e ∈ [(BadRequest.dataLinkProtocol, 4), (.flowControlProtocol, 13), (.receiverOverflow, 17)],
          Completes (.unsupportedRequest f e.1) s (fun t => t.cfgBit (fnPort f) 0x104 e.2 = true))
        ∧ (∀ (x : LaneErrors), ∀ e ∈ [(BadRequest.receiverError x, 0), (.badTlp, 6), (.badDllp, 7), (.replayRollover, 8), (.replayTimeout, 12)],
          Completes (.unsupportedRequest f e.1) s (fun t => t.cfgBit (fnPort f) 0x110 e.2 = true)))

/-! ### Configuration space -/

/-- Configuration requests are answered from the mirror, with RRS until the restore strobe and Unsupported Request for a function
that does not exist; a write captures the bus and device number and loads the bits of BAR0 above 16 MiB (R107, R163, R164, R173). -/
def Obligations.ConfigurationRequests : Prop :=
  ∀ (s : State) (h : HostId) (n : Fin 256) (dw : Fin 1024) (data : Dword) (be : BitVec 4) (busDev : BitVec 13),
    s.cfgUnheard h = false → s.get HP_LINK_STATUS.pm_state h ≠ 2 →
    let answers (st : TlpStatus) (d : Dword) (t : State) : Prop := t.sent = s.asSent h (.cfgCompletion h n st d) :: s.sent ∧ State.Only [] [.sent] s t
    (s.phase = .starting → Completes (.configRead h n dw) s (answers .retry 0)
      ∧ Completes (.configWrite h n dw data be busDev) s (answers .retry 0))
    ∧ (s.isUp = true → s.existsFn (fnOf h n) = true → Completes (.configRead h n dw) s (answers .ok (s.cfgRead (fnOf h n) (4 * dw))))
    ∧ (s.isUp = true → s.existsFn (fnOf h n) = false → Completes (.configRead h n dw) s (answers .unsupported 0))
    ∧ (s.isUp = true → s.compat = false → s.steady 34 = true → Completes (.configWrite h 0 4 data 15 busDev) s (fun t =>
        t.sent = s.asSent h (.cfgCompletion h 0 .ok 0) :: s.sent ∧ (t.host h).busDev = busDev.toNat
        ∧ t.cfgWord h 0x10 = (data &&& 0xFF000000) ||| (s.cfgWord h 0x10 &&& 0x00FFFFFF)
        ∧ State.Only [] [.cfg, .hosts, .sent] s t))

/-- Where nothing records a generation to be taken, an FLR raises the function's generation, clears its enables and marks it active
with its time, and it ends when no tag is left; a host tag still in use is then held out of use for its release; setting VF Enable
makes NumVFs functions exist, or waits for the sequences that run, and clearing it ends them (R147, R174, R190, R193, R194). -/
def Obligations.FunctionResets : Prop :=
  ∀ (s : State) (f : FnId) (h : HostId),
    (s.cfgReach f = true → s.get FUNC_STATE.flr_active f = 0 → s.genBlocked (fun g => g == f.val || (decide (f.val < 4) && fnPort g == f.val)) = false →
      s.NoTxn → Completes (.initiateFlr f) s (fun t =>
      t.get FUNC_STATE.flr_active f = 1 ∧ t.get FUNC_STATE.gen f = (s.get FUNC_STATE.gen f + 1) % 256
      ∧ t.get FUNC_STATE.bme f = 0 ∧ t.get FUNC_STATE.mse f = 0 ∧ t.get FUNC_FLR_TIME.devtime f = s.devtime % 2 ^ 64))
    ∧ (s.get FUNC_STATE.flr_active f = 1 → s.noTags f = true → s.vfsClearing (fnPort f) = false → (s.func f).heldBme = false →
        (s.host (fnPort f)).vfePending = false → Completes (.flrComplete f) s (fun t =>
          t.get FUNC_STATE.flr_active f = 0 ∧ t.get FUNC_FLR_DONE.devtime f = s.devtime % 2 ^ 64))
    ∧ (∀ (tag : Nat) (x : HTag), s.fires (.flrTag h tag) = true → find1 tag (s.host h).tags = some x →
        x.held = false → (∀ e pos, x.req.purpose ≠ .engine e pos) → s.NoFlrWaits →
        Completes (.flrTagAbandon h tag) s (fun t => (∃ y, find1 tag (t.host h).tags = some y ∧ y.held = true)
          ∧ t.armed (.tagRelease h tag) = true))
    ∧ (s.cfgReach h = true → s.compat = false → s.vfEnable h = false → s.vfsClearing h = false → (s.host h).vfcHeld = false →
      Completes (.vfEnableSet h) s (fun t =>
        ∀ n, 1 ≤ n → n ≤ s.numVfs h → n ≤ 255 → t.existsFn (vfIndex h n) = true))
    ∧ (s.cfgReach h = true → s.compat = false → (s.vfsClearing h = true ∨ (s.host h).vfcHeld = true) →
      Completes (.vfEnableSet h) s (fun t => (t.host h).vfePending = true))
    ∧ (s.cfgReach h = true → s.vfEnable h = true → (s.host h).vfePending = false → s.genBlocked (fun f => fnPort f == h.val) = false →
      Completes (.vfEnableClear h) s (fun t =>
        ∀ n, 1 ≤ n → n ≤ 255 → t.existsFn (vfIndex h n) = false))

/-- Writes of the enables, the power state and the BAR sizes act on the function: Bus Master Enable and D3hot show in FUNC_STATE,
a BAR size is taken while the BAR is disabled and discarded while it is enabled; in the compatibility view Multiple Message
Enable rebuilds the plank table and the expansion ROM is read (R152, R153, R166, R168, R178 to R183). -/
def Obligations.ConfigurationEffects : Prop :=
  ∀ (s : State) (f : FnId) (h : HostId) (size : BitVec 6) (e : Fin 8) (off : BitVec 16) (len : Nat),
    (s.cfgReach f = true → s.get FUNC_STATE.flr_active f = 0 →
      Completes (.busMasterEnableSet f) s (fun t => t.get FUNC_STATE.bme f = 1)
      ∧ Completes (.busMasterEnableClear f) s (fun t => t.get FUNC_STATE.bme f = 0)
      ∧ Completes (.d3hotEntry f) s (fun t => t.get FUNC_STATE.d3hot f = 1))
    ∧ (s.cfgReach h = true → s.compat = false → size.toNat ≤ 26 →
        (s.cfgBit h 0x04 1 = false → Completes (.resizableBarWrite h false size) s (fun t => t.cfgGet h 0x16C 8 6 = size.toNat))
        ∧ (s.cfgBit h 0x04 1 = true → Completes (.resizableBarWrite h false size) s (fun t => t.cfg = s.cfg)))
    ∧ (s.cfgReach 0 = true → s.compat = true → Completes (.msiMultipleMessageEnableWrite e) s (fun t =>
        t.cfgGet 0 0xD0 20 3 = e.val ∧ t.plankGen = s.plankGen + 1))
    ∧ (wfSpan off.toNat len = true → s.compat = true → s.isUp = true → s.cfgBit 0 0x30 0 = true → s.memEnabled 0 = true →
        s.unheard 0 = false → s.get HP_LINK_STATUS.pm_state 0 ≠ 2 → Completes (.expansionRomRead off len) s (fun t => ∃ bs,
          t.sent = s.asSent 0 (.romData bs) :: s.sent ∧ bs.length = len ∧ (off.toNat = 0 → 2 ≤ len → bs.take 2 = [0x55, 0xAA])
          ∧ State.Only [] [.plank, .sent] s t))

/-! ### Dry-fit transactions and the retained-state store -/

/-- BEGIN opens an idle context; COMMIT that passes the checks waits for its strobe, one that fails them leaves the transaction open with
the failing check, and one whose time is out ends it as TIMED_OUT; ROLLBACK and the timeout discard what was staged, and a timeout made
longer meanwhile goes on (R123 to R126). -/
def Obligations.TransactionsRun : Prop :=
  ∀ (s : State) (c : CtxId) (persist : Bool),
    (s.Writable (ctxAgent c) .TXN_CTRL c → s.refusedBy = none → s.get TXN_STATUS.state c = 0 → Completes (.txnBegin c) s (fun t =>
      t.get TXN_STATUS.state c = 1 ∧ t.get TXN_STATUS.result c = 0 ∧ t.get TXN_STAGED.words c = 0 ∧ (t.txn c).staged = []
      ∧ t.get TXN_OPEN_TIME.devtime c = s.devtime % 2 ^ 64 ∧ t.due (.txn c) = some (s.clock + 1000000 * s.get TXN_TIMEOUT.timeout_ms c)
      ∧ State.Only [.TXN_STATUS, .TXN_STAGED, .TXN_OPEN_TIME] [.txns, .timers] s t))
    ∧ (s.Writable (ctxAgent c) .TXN_CTRL c → s.refusedBy = none → s.get TXN_STATUS.state c = 1 → s.commits = [] →
        (persist = true → s.storeTaken = false) → s.clock < (s.txn c).opened + s.txnNs c →
        let u : State := { (s.modTxn c (fun d => { d with persist := persist, quiescing := false })).put TXN_STATUS.state c 2 with commits := [c.val] }
        (u.judgeTxn c = none → Completes (.commit c persist) s (fun t => t.get TXN_STATUS.state c = 2 ∧ t.commits = [c.val]
          ∧ (t.txn c).quiescing = true ∧ (t.txn c).staged = (s.txn c).staged))
        ∧ (∀ (code wait : Nat) (b : Option Broken), u.judgeTxn c = some (code, b, wait) →
          Completes (.commit c persist) s (fun t => t.get TXN_STATUS.state c = 1 ∧ t.get TXN_STATUS.result c = 1
            ∧ t.get TXN_STATUS.fail_check c = code % 256 ∧ t.commits = [] ∧ (t.txn c).staged = (s.txn c).staged
            ∧ State.Only [.TXN_STATUS, .TXN_FAIL_ADDR, .TXN_FAIL_INFO] [.txns, .commits] s t)))
    ∧ (s.Writable (ctxAgent c) .TXN_CTRL c → s.refusedBy = none → s.get TXN_STATUS.state c = 1 → (s.txn c).moving = [] →
        (s.txn c).opened + s.txnNs c ≤ s.clock → Completes (.commit c persist) s (fun t => t.get TXN_STATUS.state c = 0
          ∧ t.get TXN_STATUS.result c = 2 ∧ t.txn c = { TxnDyn.reset with timedOut := some s.clock }))
    ∧ (s.Writable (ctxAgent c) .TXN_CTRL c → s.get TXN_STATUS.state c = 1 → (s.txn c).moving = [] → Completes (.rollback c) s (fun t =>
        t.get TXN_STATUS.state c = 0 ∧ t.get TXN_STATUS.result c = 0 ∧ t.get TXN_STAGED.words c = 0 ∧ t.txn c = TxnDyn.reset
        ∧ State.Only [.TXN_STATUS, .TXN_STAGED] [.txns, .commits, .timers] s t))
    ∧ (∀ due : Nat, s.fires (.txn c) = true → s.due (.txn c) = some due → s.get TXN_STATUS.state c = 1 → (s.txn c).moving = [] →
        ((s.txn c).opened + s.txnNs c ≤ max s.clock due → Completes (.txnTimeout c) s (fun t =>
          t.get TXN_STATUS.state c = 0 ∧ t.get TXN_STATUS.result c = 2 ∧ t.txn c = { TxnDyn.reset with timedOut := some t.clock }))
        ∧ (max s.clock due < (s.txn c).opened + s.txnNs c → Completes (.txnTimeout c) s (fun t =>
          t.get TXN_STATUS.state c = 1 ∧ t.txn c = s.txn c ∧ t.due (.txn c) = some ((s.txn c).opened + s.txnNs c))))

/-- The strobe ends a commit, or starts its record when it persists; a staged aperture then is the committed one; 1 ms of quiescing
stops a moved channel where it is; a durable commit shows its sequence; a record written ends the store's work; a compaction is
asked for or refused by the wear budget. A write of a register of ret fields by a PF or by Ridge is staged in the writer's open
transaction and changes no committed value; it is refused while configuration is frozen or the module is not up, conflicts with
another claim of its word, and is discarded while the transaction commits (R44, R46, R118, R124, R125, R129, R132, R188, R200). -/
def Obligations.CommitsTakeEffect : Prop :=
  ∀ (s : State) (c : CtxId) (a : Agent),
    (s.commits = [c.val] → s.strobeReady c = true → (s.txn c).persist = false → Completes (.commitStrobe c) s (fun t =>
      t.get TXN_STATUS.state c = 0 ∧ t.get TXN_STATUS.result c = 0 ∧ t.get TXN_STAGED.words c = 0 ∧ t.commits = [] ∧ t.txn c = TxnDyn.reset))
    ∧ (s.commits = [c.val] → s.strobeReady c = true → (s.txn c).persist = true → Completes (.commitStrobe c) s (fun t =>
        t.get TXN_STATUS.state c = 3 ∧ t.commits = [] ∧ t.get RSS_STATUS.busy = 1 ∧ t.rss.job.isSome = true))
    ∧ (∀ (f : FnId) (v : Word), s.commits = [c.val] → s.strobeReady c = true → (s.txn c).persist = false → (s.txn c).moving = [] →
        (s.txn c).staged = [(RegKind.FUNC_APERTURE.wordOf f, (v, maskBits 0 6))] → Completes (.commitStrobe c) s (fun t =>
          t.get FUNC_APERTURE.limit_log2 f = getBits v 0 6))
    ∧ (∀ q : QId, s.commits = [c.val] → s.fires (.quiesce c) = true → (s.txn c).moving = [q.val] → s.get Q_STATE.state q = 2 →
        s.get Q_STATE.cq_wait q = 0 → (s.queue q).cur = none → s.engineOf q = none → Completes (.quiesceTimeout c) s (fun t =>
          t.get Q_STATE.state q = 8 ∧ t.commits = [c.val]))
    ∧ (s.get TXN_STATUS.state c = 3 → (s.txn c).seq ≤ s.lastSeq → s.commits = [] → Completes (.persistComplete c) s (fun t =>
        t.get TXN_STATUS.state c = 0 ∧ t.get TXN_STATUS.result c = 0 ∧ t.get TXN_PERSIST_SEQ.seq c = (s.txn c).seq % 2 ^ 64
        ∧ State.Only [.TXN_STATUS, .TXN_PERSIST_SEQ] [.txns] s t))
    ∧ (∀ (ctx seq : Nat) (tab : Tbl Word), s.isUp = true → s.rss.job = some (.record ctx seq tab) → s.commits = [] →
        s.get RSS_CTRL.compact = 0 → s.get RSS_STATUS.journal_used + recordWords (bodyLen tab) + maxRecordWords ≤ journalWords →
        Completes .rssWriteComplete s (fun t => t.rss.job = none ∧ t.get RSS_STATUS.busy = 0 ∧ t.get RSS_LAST_SEQ.seq = seq % 2 ^ 64
          ∧ t.ctr (modCtr 6) = s.ctr (modCtr 6) + 1
          ∧ t.get RSS_STATUS.journal_used = s.get RSS_STATUS.journal_used + recordWords (bodyLen tab)
          ∧ t.rss.bytes = s.recordBytes ctx seq tab))
    ∧ (s.Writable a .RSS_CTRL 0 → s.isUp = true → s.rss.job = none → (s.rss.directNext = false ∨ s.get RSS_BOOT_STATUS.source < 2) →
        (8192 * 1000000000 ≤ s.rss.wear → Completes (.rssCompact a) s (fun t => t.rss.job.isSome = true ∧ t.get RSS_STATUS.busy = 1
          ∧ t.get RSS_CTRL.compact = 1 ∧ t.rss.wear = s.rss.wear - 8192 * 1000000000))
        ∧ (s.rss.wear < 8192 * 1000000000 → Completes (.rssCompact a) s (fun t => t.rss.job = none ∧ t.get RSS_CTRL.compact = 0
          ∧ t.ctr (modCtr 8) = s.ctr (modCtr 8) + 1)))
    ∧ (∀ (k : RegKind) (i x : Nat) (v : Word), k.flds.any (fun F => F.ret) = true → k.flds.all (fun F => F.ret || F.acc == .ro) = true →
        i < k.count → s.Writable a k i → s.readCtx a = some x →
        let w := k.wordOf i
        let sh := k.addr i % 8 * 8
        let write := Instr.retFieldWrite a (k.addr i) ((List.range k.place.bytes).map (fun j => some (v.extractLsb' (8 * j) 8)))
        (∀ r, s.refusedBy = some r → Completes write s (fun t => t.get TXN_STATUS.result x = r ∧ State.Only [.TXN_STATUS] [] s t))
        ∧ (s.refusedBy = none → s.get TXN_STATUS.state x = 2 → Completes write s (State.Only [] [] s))
        ∧ (s.refusedBy = none → s.get TXN_STATUS.state x = 1 → s.claimedByOther x w = true → Completes write s (fun t =>
            t.get TXN_STATUS.conflict x = 1 ∧ (t.txn x).staged = (s.txn x).staged ∧ State.Only [.TXN_STATUS] [.txns] s t))
        ∧ (s.refusedBy = none → s.get TXN_STATUS.state x = 1 → s.claimedByOther x w = false → (s.txn x).staged.length < 32768 →
            Completes write s (fun t => State.Only [.TXN_STAGED] [.txns] s t ∧ t.get TXN_STAGED.words x = (t.txn x).staged.length
              ∧ (∀ y, y ≠ w → find1 y (t.txn x).staged = find1 y (s.txn x).staged)
              ∧ ∃ y m, find1 w (t.txn x).staged = some (y, m) ∧ ∀ F ∈ k.flds, F.ret = true → (m >>> sh) &&& maskBits F.lo F.len = maskBits F.lo F.len
                ∧ getBits (y >>> sh) F.lo F.len = (if k = .FUNC_APERTURE then clampNat 20 (if i < 4 then 46 else 40) (getBits v F.lo F.len)
                    else getBits v F.lo F.len)))
        ∧ (s.refusedBy = none → s.get TXN_STATUS.state x ≠ 1 → s.get TXN_STATUS.state x ≠ 2 → s.claimedByOther 1000 w = true →
            Completes write s (fun t => t.get TXN_STATUS.result x = 7 ∧ t.get TXN_STATUS.fail_check x = 2
              ∧ State.Only [.TXN_STATUS, .TXN_FAIL_ADDR, .TXN_FAIL_INFO] [] s t)))

/-! ### Queues -/

/-- ENABLE starts an idle queue with its indices at 0; STOP stops a queue that runs no descriptor and drains one that does; RESUME of
a stopped queue goes on; RESUME, RESTART and SKIP of a halted queue wait for its drain and then act on the current descriptor;
DISABLE ends a queue; a command that the state does not allow only sets cmd_rejected (R246, R247, R251). -/
def Obligations.QueueCommandsAct : Prop :=
  ∀ (s : State) (a : Agent) (q : QId), s.Writable a .Q_CMD q →
    (s.get Q_STATE.state q = 0 → 6 ≤ s.get Q_RING.sq_log2 q → s.get Q_RING.sq_log2 q ≤ 16 → 6 ≤ s.get Q_RING.cq_log2 q →
      s.get Q_RING.cq_log2 q ≤ 16 → Completes (.enable a q) s (fun t => t.get Q_STATE.state q = 1 ∧ t.get Q_SQ_IDX.sq_tail q = 0
        ∧ t.get Q_SQ_IDX.sq_head q = 0 ∧ t.get Q_CQ_IDX.cq_tail q = 0 ∧ t.get Q_CQ_IDX.cq_head q = 0 ∧ t.get Q_CQ_IDX.phase q = 1
        ∧ State.Only [.Q_STATE, .Q_SQ_IDX, .Q_CQ_IDX] [.queues] s t))
    ∧ (s.get Q_STATE.state q ∈ [1, 2, 3] → (s.queue q).moving = false → (s.queue q).cur.all (fun c => c.ended.isNone) →
      Completes (.stop a q) s (fun t => t.get Q_STATE.state q = (if s.get Q_STATE.state q = 3 then 4 else 5)
        ∧ State.Only [.Q_STATE] (if s.get Q_STATE.state q = 3 then [Area.queues] else []) s t))
    ∧ (s.get Q_STATE.state q = 5 → (s.queue q).held = none → (s.queue q).pref = [] → Completes (.resume a q) s (fun t =>
        t.get Q_STATE.state q = (if s.sqPending q then 2 else 1) ∧ State.Only [.Q_STATE] [] s t))
    ∧ (s.get Q_STATE.state q ∈ [6, 7] → s.get FUNC_STATE.bme (s.qOwner q) = 1 →
        ((s.engineOf q).isSome = true ∨ (s.queue q).haltDue ≠ none ∨ (s.queue q).extLost = true) →
        Completes (.resume a q) s (fun t => (t.queue q).waitCmd = 3 ∧ State.Only [] [.queues] s t)
        ∧ Completes (.restart a q) s (fun t => (t.queue q).waitCmd = 4 ∧ State.Only [] [.queues] s t)
        ∧ Completes (.skip a q) s (fun t => (t.queue q).waitCmd = 5 ∧ State.Only [] [.queues] s t))
    ∧ (∀ x : Current, s.get Q_STATE.state q ∈ [6, 7] → s.get FUNC_STATE.bme (s.qOwner q) = 1 → s.engineOf q = none →
        (s.queue q).haltDue = none → (s.queue q).extLost = false → (s.queue q).held = none → (s.queue q).cur = some x →
        Completes (.resume a q) s (fun t => t.get Q_STATE.state q = 2 ∧ t.get Q_RESUME.valid q = 0 ∧ ∃ y, (t.queue q).cur = some y
          ∧ y.d = { x.d with gone := true } ∧ y.words = [] ∧ y.next = none ∧ y.piece = x.piece ∧ y.issued = x.issued
          ∧ y.before = x.before ∧ y.ended = none)
        ∧ Completes (.restart a q) s (fun t => t.get Q_STATE.state q = 2 ∧ t.get Q_RESUME.valid q = 0 ∧ ∃ y, (t.queue q).cur = some y
          ∧ y.d = { x.d with gone := true } ∧ y.words = [] ∧ y.next = none ∧ y.piece = 0 ∧ y.issued = 0 ∧ y.before = 0 ∧ y.ended = none)
        ∧ (s.EntryRoom q → Completes (.skip a q) s (fun t => EntryPosted s q t ∧ t.get Q_RESUME.valid q = 0
          ∧ t.get Q_STATE.state q = (if t.sqPending q then 2 else 1))))
    ∧ (s.get Q_STATE.state q ∈ [1, 5, 6, 7] → Completes (.disable a q) s (fun t => t.get Q_STATE.state q = 0
        ∧ t.get Q_SQ_IDX.sq_tail q = 0 ∧ t.get Q_SQ_IDX.sq_head q = 0 ∧ t.get Q_CQ_IDX.cq_tail q = 0 ∧ t.get Q_CQ_IDX.cq_head q = 0
        ∧ t.get Q_STATE.held_cmp q = 0 ∧ t.queue q = QDyn.reset))
    ∧ (let refused (c : Instr) : Prop := Completes c s (fun t => t.get Q_STATE.cmd_rejected q = 1
          ∧ t.get Q_STATE.state q = s.get Q_STATE.state q ∧ State.Only [.Q_STATE] [] s t)
      (s.get Q_STATE.state q ≠ 0 → refused (.enable a q)) ∧ (s.get Q_STATE.state q ∉ [1, 2, 3] ∨ (s.queue q).moving = true → refused (.stop a q))
      ∧ (s.get Q_STATE.state q ∉ [5, 6, 7] → refused (.resume a q)) ∧ (s.get Q_STATE.state q ∉ [6, 7] → refused (.restart a q))
      ∧ (s.get Q_STATE.state q ∉ [6, 7] → refused (.skip a q)) ∧ (s.get Q_STATE.state q ∉ [1, 5, 6, 7] → refused (.disable a q)))

/-- A doorbell of the owner with the queue's generation moves both tails and makes an idle queue with descriptors ready; one that
repeats the tails, or lies beyond the doorbells, changes nothing; one that is malformed, of another function, or of another generation
only counts; the fetch arbiter asks the host for a queue's descriptors; fetched descriptors join the queue's, an extension waits for its
piece; a final entry that is due is written or waits for room; the coalescing timer sends the vector (R229 to R232, R238 to R241, R248).
-/
def Obligations.QueuesWork : Prop :=
  ∀ (s : State) (f : FnId) (q : QId) (v : Word),
    let runs : Prop := s.steady (24 + s.get Q_CFG.eg q) = true
    (s.Hears f → s.steady 34 = true → (s.compatFn f = true → q.val < 12) →
      (∀ (off len : Nat) (be : Byte), off < (if s.compatFn f then 96 else 0x8000) → (off % 8 ≠ 0 ∨ len ≠ 8 ∨ be ≠ 0xFF) →
        Completes (.doorbell f off len be v) s (fun t => t.ctr (fnCtr f 4) = s.ctr (fnCtr f 4) + 1 ∧ State.Only [] [.ctrs] s t))
      ∧ (∀ (off len : Nat) (be : Byte), (if s.compatFn f then 96 else 0x8000) ≤ off → Completes (.doorbell f off len be v) s (State.Only [] [] s))
      ∧ (s.qOwner q ≠ f → Completes (.doorbell f (8 * q) 8 0xFF v) s (fun t => t.ctr (fnCtr f 3) = s.ctr (fnCtr f 3) + 1
        ∧ State.Only [] [.ctrs] s t))
      ∧ (s.qOwner q = f → getBits v 32 8 ≠ s.get Q_STATE.gen q → Completes (.doorbell f (8 * q) 8 0xFF v) s (fun t =>
        t.ctr (queueCtr q 0) = s.ctr (queueCtr q 0) + 1 ∧ State.Only wakeKinds [.ctrs, .plumb, .waking] s t ∧ (runs → State.Only [] [.ctrs] s t)))
      ∧ (s.qOwner q = f → s.doorbellFails q (getBits v 32 8) (getBits v 0 16) (getBits v 16 16) = none →
        s.get Q_SQ_IDX.sq_tail q = getBits v 0 16 → s.get Q_CQ_IDX.cq_tail q = getBits v 16 16 →
        Completes (.doorbell f (8 * q) 8 0xFF v) s (fun t => State.Only wakeKinds [.plumb, .waking] s t ∧ (runs → State.Only [] [] s t)))
      ∧ (s.qOwner q = f → s.doorbellFails q (getBits v 32 8) (getBits v 0 16) (getBits v 16 16) = none → (s.queue q).held = none →
        (s.queue q).cur = none → (s.queue q).pref = [] → (s.get Q_SQ_IDX.sq_tail q ≠ getBits v 0 16 ∨ s.get Q_CQ_IDX.cq_tail q ≠ getBits v 16 16) →
        Completes (.doorbell f (8 * q) 8 0xFF v) s (fun t =>
          t.get Q_SQ_IDX.sq_tail q = getBits v 0 16 ∧ t.get Q_CQ_IDX.cq_tail q = getBits v 16 16
          ∧ t.get Q_STATE.state q = (if s.get Q_STATE.state q = 1 ∧ s.get Q_SQ_IDX.sq_head q ≠ getBits v 0 16 then 2 else s.get Q_STATE.state q))))
    ∧ (s.isUp = true → s.fetchCands ≠ [] → Completes .descriptorFetch s (fun t => ∃ k : Nat, ∃ y, s.nextFetch k = some y
        ∧ (∃ r ∈ (t.host (fnPort (s.qOwner k))).waiting, r.q = some k ∧ (r.purpose, r.addr, r.len, r.key) = y)
        ∧ ∀ x ∈ (s.host (fnPort (s.qOwner k))).waiting, x.posted = false → x ∈ (t.host (fnPort (s.qOwner k))).waiting))
    ∧ (∀ (i : Nat) (bs : List Byte), s.isUp = true → (s.queue q).arrived = some (i, bs) → s.get Q_STATE.state q ≠ 2 →
        (∀ c, (s.queue q).cur = some c → c.d.words ≠ []) → Completes (.descriptorArrival q) s (fun t =>
          (t.queue q).arrived = none ∧ (t.queue q).fetching = false
          ∧ (t.queue q).pref.map (fun d => d.idx) = (s.queue q).pref.map (fun d => d.idx) ++ (List.range (bs.length / 64)).map (fun k => i + k)
          ∧ (t.queue q).pref.map (fun d => d.words) =
            (s.queue q).pref.map (fun d => d.words) ++ (List.range (bs.length / 64)).map (fun k => descWords (bs.drop (64 * k)))))
    ∧ (∀ (bs : List Byte) (c : Current), s.isUp = true → (s.queue q).extArrived = some bs → (s.queue q).cur = some c → s.engineOf q = none →
        (s.queue q).haltDue = none → c.ended = none → c.words ≠ [] → c.piece + 1 < c.tested → (s.queue q).held = none →
        Completes (.extensionArrival q) s (fun t => (t.queue q).extArrived = none ∧ ∃ y, (t.queue q).cur = some y
          ∧ y.next = some (pointerOf c.words, descWords bs, extStatus (descWords bs)) ∧ y.words = c.words ∧ y.piece = c.piece))
    ∧ (∀ (c : Current) (st : Nat), s.isUp = true → (s.queue q).cur = some c → c.ended = some st → s.EntryRoom q →
        Completes (.completionEntryWrite q) s (EntryPosted s q))
    ∧ (∀ (c : Current) (st : Nat), s.isUp = true → (s.queue q).cur = some c → c.ended = some st → (s.queue q).held = none →
        (s.queue q).haltDue = none → (s.queue q).unacked = [] → s.canMaster (s.qOwner q) = true → s.cqFull q = true →
        s.get Q_STATE.cq_wait q = 0 → Completes (.completionEntryWrite q) s (fun t => t.get Q_STATE.cq_wait q = 1
          ∧ t.ctr (queueCtr q 2) = s.ctr (queueCtr q 2) + 1 ∧ State.Only [.Q_STATE] [.ctrs] s t))
    ∧ (s.fires (.coalesce q) = true → Completes (.coalesceTimer q) s (fun t => t.get Q_COAL.pending q = 0 ∧ t.armed (.coalesce q) = false
        ∧ t.vecs.map (fun x => x.q) = s.vecs.map (fun x => x.q) ++ (if s.on Q_RING.cq_vec_en q then [q.val] else [])))

/-! ### Transfer engines and power regions -/

/-- A grant binds an idle engine to the channel whose head descriptor is ready and starts it; a limiter's release comes when its time
does, in whole ns, and never later; a drained engine becomes idle; a fault of an engine whose group runs is recorded, and a parity or
uncorrectable one takes its group out of use, and while the group does not run the fault line is masked; the reserve allocator grants
the head read; the scrubber goes from entry to entry and poisons a segment that it cannot correct (R222, R254 to R258, R262, R269, R271,
R272, R288). -/
def Obligations.EnginesWork : Prop :=
  ∀ (s : State) (g : GroupId) (e : EngId) (p : PortId) (v : VcId), s.isUp = true →
    (∀ (q : Nat) (d : Prefetched) (ds : List Prefetched), s.groupRunning g = true → s.idleEngine g = some e.val → s.engineCands g = [(q, d)] →
      (s.queue q).cur = none → (s.queue q).pref = d :: ds → q < 4096 → (srcSide d.words).isLocal = false → convOf d.words = 0 →
      (srcSide d.words).lines = 1 → (srcSide d.words).len ≤ s.mrrs (s.qOwner q) →
      (srcSide d.words).at 0 % 4096 + (srcSide d.words).len ≤ 4096 → s.canMaster (s.qOwner q) = true →
      Completes (.engineGrant g) s (fun t => (t.eng e).q = some q ∧ t.get Q_STATE.state q = 3 ∧ t.get TE_STATUS.state e = 1
        ∧ t.get TE_STATUS.channel e = q ∧ t.get TE_STATUS.function_ e = s.qOwner q ∧ (t.eng e).reads = [(0, (srcSide d.words).len)]
        ∧ ∃ r ∈ (t.host (fnPort (s.qOwner q))).waiting, r.q = some q ∧ r.purpose = .engine e 0 ∧ r.addr = (srcSide d.words).at 0
          ∧ r.len = (srcSide d.words).len))
    ∧ (∀ (q at_ : Nat) (c : Current), (s.eng e).paceFrom = some at_ → (s.eng e).q = some q → (s.queue q).cur = some c →
        s.writeStep e q c none = .stuck s → s.readStep e q c none = .paced s → c.ended = none → (s.eng e).draining = false →
        (dstSide c.words).isLocal = false →
        Completes (.rateLimiterRelease e) s (fun t => t.clock = max s.clock (edgeFrom (s.eng e).allowedSrc * 5 / 2048)))
    ∧ Completes (.rateLimiterRelease e) s (fun t => s.clock ≤ t.clock
        ∧ t.clock ≤ max s.clock (max (edgeFrom (s.eng e).allowedSrc) (edgeFrom (s.eng e).allowedDst) * 5 / 2048)
        ∧ ((s.eng e).paceFrom = none → t = s))
    ∧ (∀ q : Nat, (s.eng e).draining = true → (s.eng e).reads = [] → (s.eng e).q = some q → (s.queue q).waitCmd = 0 →
        Completes (.drainComplete e) s (fun t => (t.eng e).q = none ∧ (t.eng e).draining = false ∧ (t.eng e).buf = []
          ∧ t.get TE_STATUS.state e = 0 ∧ t.get TE_RDBUF.reads e = 0))
    ∧ (s.egState (e / 8) = 0 → Completes (.engineFault e .rdbufCe) s (fun t => t.get TE_FAULT.rdbuf_ce e = 1)
      ∧ Completes (.engineFault e .rdbufUe) s (fun t => t.get TE_FAULT.rdbuf_ue e = 1 ∧ ∀ i, i < 8 → (t.eng (8 * (e.val / 8) + i)).offline = true)
      ∧ Completes (.engineFault e .holdParity) s (fun t => t.get TE_FAULT.hold_parity e = 1 ∧ ∀ i, i < 8 → (t.eng (8 * (e.val / 8) + i)).offline = true))
    ∧ (∀ k : EngineFault, s.egState (e / 8) ≠ 0 → Completes (.engineFault e k) s (fun t => t = s))
    ∧ (∀ r : WRead, (s.port p).reads = [r] → reserveHead (s.port p).egress (s.port p).reads v = some r → s.open_ (bayOf p) = true →
        (4 * r.dws : Nat) ≤ s.freeSpace p v - s.skid p - 4096 →
        (localParts (s.localMax p) r.paddr (enables r.dws r.firstBe r.lastBe)).length + (s.port p).ltags.length ≤ 1024 →
        Completes (.reserveGrant p v) s (fun t => ∃ x ∈ (t.port p).reads, x.id = r.id ∧ x.granted = true))
    ∧ (s.get PWR_STATE_MISC.core = 0 →
        Completes (.ledgerScrub .clean) s (fun t => t.scrubAt = (if s.scrubAt + 1 < 65632 then s.scrubAt + 1 else 0) ∧ State.Only [] [.scrubAt] s t)
        ∧ (∀ y, s.scrubAt < 65536 → Completes (.ledgerScrub (.uncorrectable y)) s (fun t => t.get SEG_CTRL.poisoned s.scrubAt = 1)))

/-- A region that was being woken runs; 64 CCLK without activity gate the clocks of the core, a Truss slice or an engine group; a wake
tone wakes a sleeping port: its bay is woken, or it trains at once where the bay runs (R89, R92, R313). -/
def Obligations.RegionsWake : Prop :=
  ∀ (s : State) (r : RegionId) (p : PortId),
    (24 ≤ r.val → r.val < 44 → s.phase ≠ .deferring → s.waking.contains r.val = true → (s.region r = 2 ∨ s.region r = 3) → s.ring = [] → s.commits = [] →
      Completes (.regionWakeComplete r) s (fun t => t.region r = 0 ∧ r.val ∉ t.waking))
    ∧ (24 ≤ r.val → r.val ≤ 34 → s.isUp = true → s.region r = 0 → s.inactive r = true → s.plumb.held = [] →
        Completes (.clockGateIdle r) s (fun t => t.region r = 1 ∧ State.Only [.PWR_STATE_EG, .PWR_STATE_MISC] [] s t))
    ∧ (s.isUp = true → s.get JP_STATUS.link_state p = 4 → (s.bayState (bayOf p) = 2 ∨ s.bayState (bayOf p) = 3) →
        Completes (.wakeToneDetected p) s (fun t => (t.port p).waking = true ∧ bayOf p ∈ t.waking))
    ∧ (s.isUp = true → s.lead p = p → s.get JP_STATUS.link_state p = 4 → s.bayState (bayOf p) = 0 → s.portMayServe p = true →
        Completes (.wakeToneDetected p) s (PortTrains p))

/-! ### Host memory requests and completions -/

/-- A completion of a fetch brings its data to the queue and frees the tag, one of an old generation is counted and discarded, one of an
unknown tag is logged, one with Unsupported Request or Completer Abort is counted and frees the tag, a poisoned one is logged; a
completion timeout holds the tag and is logged, and the tag is used again after its hold; the tag arbiter sends the head request on a
free tag, its IDE stream as log entry 38 says (R138, R146, R147, R160, R192, R286). -/
def Obligations.HostCompletionsEnd : Prop :=
  ∀ (s : State) (h : HostId) (tag : Nat) (data : List Byte), s.NoFlrWaits → wfCompletion data.length = true →
    s.linkUp h = true → s.streamFailed h (s.cplStream h tag) = false →
    let inUse : Prop := ∀ b : BayId, s.bayState b = 0 → s.deviceless b = false
    (∀ (x : HTag) (q : QId) (i n : Nat), find1 tag (s.host h).tags = some x → x.held = false → x.req.q = some q.val → x.req.purpose = .fetch q i n →
      s.gensCurrent x.req.fn x.req.fgen x.req.q x.req.qgen = true → x.req.len ≤ x.got.length + data.length → x.got.length ≤ x.req.len →
      Completes (.hostCompletion h tag .ok data) s (fun t => find1 tag (t.host h).tags = none
        ∧ (t.queue q).arrived = some (i, x.got ++ data.take (x.req.len - x.got.length))))
    ∧ (∀ (x : HTag) (st : CplStatus), find1 tag (s.host h).tags = some x → x.held = false → (∀ e pos, x.req.purpose ≠ .engine e pos) →
        s.gensCurrent x.req.fn x.req.fgen x.req.q x.req.qgen = false → Completes (.hostCompletion h tag st data) s (fun t =>
          find1 tag (t.host h).tags = none ∧ t.ctr (fnCtr x.req.fn 0) = s.ctr (fnCtr x.req.fn 0) + 1
          ∧ (inUse → s.steady 34 = true → State.Only [] [.ctrs, .timers, .hosts] s t)))
    ∧ (∀ st : CplStatus, find1 tag (s.host h).tags = none → Completes (.hostCompletion h tag st data) s (fun t => t.cfgBit h 0x104 16 = true
        ∧ (inUse → State.Only [] [.cfg, .sent] s t)))
    ∧ (∀ (x : HTag) (st : CplStatus), find1 tag (s.host h).tags = some x → x.held = false → (∀ e pos, x.req.purpose ≠ .engine e pos) →
        s.gensCurrent x.req.fn x.req.fgen x.req.q x.req.qgen = true →
        (st = .unsupported ∨ st = .aborted → Completes (.hostCompletion h tag st data) s (fun t => find1 tag (t.host h).tags = none
          ∧ t.ctr (hostCtr h 3) = s.ctr (hostCtr h 3) + 1))
        ∧ (st = .poisoned → Completes (.hostCompletion h tag st data) s (fun t => find1 tag (t.host h).tags = none
          ∧ t.cfgBit x.req.fn 0x104 12 = true)))
    ∧ (∀ x : HTag, s.fires (.hostTag h tag) = true → find1 tag (s.host h).tags = some x → x.held = false → (∀ e pos, x.req.purpose ≠ .engine e pos) →
        Completes (.hostCompletionTimeout h tag) s (fun t => (∃ y, find1 tag (t.host h).tags = some y ∧ y.held = true)
          ∧ t.armed (.tagRelease h tag) = true ∧ t.ctr (hostCtr h 4) = s.ctr (hostCtr h 4) + 1 ∧ t.cfgBit (s.logFn x.req.fn) 0x104 14 = true))
    ∧ (s.fires (.tagRelease h tag) = true → Completes (.timedOutTagRelease h tag) s (fun t => find1 tag (t.host h).tags = none
        ∧ t.armed (.tagRelease h tag) = false))
    ∧ (∀ (r : HReq) (n : Nat), s.isUp = true → headReq (s.host h).waiting = some r → (∀ x ∈ (s.host h).waiting, x.posted = false) → fnPort r.fn = h →
        s.mayIssue h r = true → s.streamFailed h (s.streamFor r.fn) = false → s.freeTag r.fn = some n → s.NoEngineRuns →
        Completes (.hostTagGrant h) s (fun t => (t.host h).waiting = (s.host h).waiting.erase r
          ∧ (∃ x, find1 n (t.host h).tags = some x ∧ x.req = r ∧ x.held = false)
          ∧ t.sent = s.asSent r.fn (.memRead h (s.rid r.fn) r.pasid (s.streamFor r.fn) n r.addr r.len r.be) :: s.sent))

/-- A window access is looked up by its offset from its function's BAR4. One that no segment covers, or that its segment does not
permit, is counted, and a read of it ends with Completer Abort; a read of a port that is not available gets its down-port result and a
write to one is counted and discarded; a read and the frames of a write join the port of their segment; a poisoned write is turned away;
a write of an MSI-X table entry that a vector backs loads it (R160, R210 to R212, R217, R220, R385, R386). -/
def Obligations.WindowsAnswer : Prop :=
  ∀ (s : State) (f : FnId) (addr off dws tag : Nat) (b1 b2 : BitVec 4) (data : List Byte), s.Hears f → s.fnHeld f = false → s.steady 34 = true →
    (wfWindow addr dws b1 b2 = true → s.bar4Off f addr (4 * dws) = some off →
      (s.lookup f off false = .miss → Completes (.windowRead f addr dws b1 b2 tag) s (fun t =>
        s.asSent f (.completion (fnPort f) f tag .aborted []) ∈ t.sent ∧ t.ctr (fnCtr f 5) = s.ctr (fnCtr f 5) + 1))
      ∧ (s.lookup f off false = .denied → Completes (.windowRead f addr dws b1 b2 tag) s (fun t =>
        s.asSent f (.completion (fnPort f) f tag .aborted []) ∈ t.sent ∧ t.ctr (fnCtr f 6) = s.ctr (fnCtr f 6) + 1))
      ∧ (∀ n : Nat, s.lookup f off false = .unavailable n → Completes (.windowRead f addr dws b1 b2 tag) s (fun t =>
        if s.on SEG_CTRL.down_mode n then t.ctr (fnCtr f 9) = s.ctr (fnCtr f 9) + 1 else t.ctr (fnCtr f 8) = s.ctr (fnCtr f 8) + 1))
      ∧ (∀ n : Nat, s.lookup f off false = .found n → (s.port (s.lead (s.get SEG_CTRL.port n))).reads = [] → (dws = 1 → b1 ≠ 0) →
        Completes (.windowRead f addr dws b1 b2 tag) s (fun t => ∃ r, (t.port (s.lead (s.get SEG_CTRL.port n))).reads = [r] ∧ r.fn = f.val
          ∧ r.reqTag = tag ∧ r.off = off ∧ r.dws = dws ∧ r.v = s.get SEG_CTRL.vc n ∧ r.paddr = s.portAddr n off ∧ r.granted = false)))
    ∧ (wfWrite addr data.length b1 b2 = true → s.bar4Off f addr data.length = some off →
      (s.lookup f off true = .miss → Completes (.windowWrite f addr data b1 b2 false) s (fun t => t.ctr (fnCtr f 5) = s.ctr (fnCtr f 5) + 1
        ∧ State.Only [] [.ctrs] s t))
      ∧ (s.lookup f off true = .denied → Completes (.windowWrite f addr data b1 b2 false) s (fun t => t.ctr (fnCtr f 6) = s.ctr (fnCtr f 6) + 1
        ∧ State.Only [] [.ctrs] s t))
      ∧ (∀ n : Nat, s.lookup f off true = .unavailable n → Completes (.windowWrite f addr data b1 b2 false) s (fun t =>
        t.ctr (fnCtr f 7) = s.ctr (fnCtr f 7) + 1 ∧ State.Only [] [.ctrs] s t))
      ∧ (∀ n : Nat, s.lookup f off true = .found n → s.get JP_STATUS.link_state (s.lead (s.get SEG_CTRL.port n)) = 4 →
        (s.port (s.lead (s.get SEG_CTRL.port n))).waking = true → Completes (.windowWrite f addr data b1 b2 false) s (fun t => ∃ dl : Option Nat,
          (t.port (s.lead (s.get SEG_CTRL.port n))).egress.map (fun x => x.frame) =
            (s.port (s.lead (s.get SEG_CTRL.port n))).egress.map (fun x => x.frame)
              ++ writeFrames (s.localMax (s.lead (s.get SEG_CTRL.port n))) (s.portAddr n off) (s.get SEG_CTRL.vc n) dl
                (enables (data.length / 4) b1.toNat b2.toNat) data))
      ∧ (s.linkUp (fnPort f) = true → Completes (.windowWrite f addr data b1 b2 true) s (fun t => t.cfgBit f 0x104 12 = true
        ∧ State.Only [] [.ctrs, .cfg, .hosts, .sent] s t)))
    ∧ (∀ (e j : Nat) (x : BitVec 32), e < s.tableSize f → j < 4 → s.pba = [] → s.freed = [] →
        let m : BitVec 32 := if j = 0 then 0xFFFFFFFC else if j = 3 then 1 else 0xFFFFFFFF
        let write := Instr.msixTableWrite f (16 * e + 4 * j) ((List.range 4).map (fun i => some (x.extractLsb' (8 * i) 8)))
        (s.backed f e = true → Completes write s (fun t => t.msixWord f e j = (s.msixWord f e j &&& ~~~ m) ||| (x &&& m)
          ∧ (∀ e' j', e' ≠ e ∨ (j' < 4 ∧ j' ≠ j) → t.msixWord f e' j' = s.msixWord f e' j') ∧ State.Only [] [.msix] s t))
        ∧ (s.backed f e = false → Completes write s (State.Only [] [] s)))

/-! ### Joist lanes and links -/

/-- A lane's receiver deletes the stuffed bits of what it receives and counts stuffing violations. A lane that searches takes what a
valid marker carries and locks on the second in a row, one period behind the first; a locked lane counts an invalid marker at its
expected place and loses lock on the third; a word of an active period is descrambled, checked and kept for its slot; a keepalive that is
missing and a loss of clock recovery cost the lane its lock; a port whose lanes are ready opens its active period; a period boundary sends
the markers of the lanes that train or are active, training markers where too many bits are late, and brings in a transmit mask that has
been announced; doze sends keepalives; a test enable loads the lane's test fields and takes a disabled port's lanes into test (R295, R298,
R300 to R307, R310 to R314, R317, R339). -/
def Obligations.LanesWork : Prop :=
  ∀ (s : State) (l : LaneId) (p : PortId) (x : LineIn) (nulls : List Nat),
    let port := s.lead (lanePort l)
    let d := if x.idle then (s.lane l).afterIdle else s.lane l
    let r := destuff d.rxRun d.rxBit d.rxBad x.bits
    let w := rxWord (s.on JL_STATUS.inverted l) r.kept
    (s.receives l = true → s.nearEnd l = false → s.get JL_PRBS.chk_en l = 0 → d.window = [] → r.kept.length = 136 →
      (∀ k ∈ s.portLanes port, (s.lane k).words = []) →
      (s.get JL_STATUS.word_lock l = 0 → s.get JL_STATUS.state l = 4 → s.get JP_STATUS.link_state port = 2 → w.validMarker = true →
        w.bits 43 2 = min 2 (s.get JP_CFG.rate port) → w.bits 32 2 = s.laneIndex l → w.bits 45 2 = 3 →
        find1 (w.bits 48 8 + 256) (s.lane (4 * (l / 2) + 1 - l)).marks = none →
        Completes (.markerReceived l x) s (fun t => t.get JL_STATUS.rx_count l = w.bits 48 8 ∧ t.get JL_SEED.rx_seed l = w.bits 64 31
          ∧ t.get JL_STATUS.far_ready l = w.bits 35 1 ∧ t.get JL_STATUS.cdr_lock l = b2n (decide (s.get JL_CTRL.loop l ≠ 1))
          ∧ find1 (w.bits 48 8 + 256) (t.lane l).marks = some s.clock
          ∧ t.ctr (laneCtr l 1) = s.ctr (laneCtr l 1) + BitVec.ofNat 64 r.violations
          ∧ t.get JL_STATUS.word_lock l = (if d.good = 0 ∨ s.onePeriod l d.since = false then 0 else 1)))
      ∧ (s.get JL_STATUS.word_lock l = 1 → d.pos = .marker → (w.validMarker && w.bits 32 2 == s.laneIndex l) = false →
        Completes (.markerReceived l x) s (fun t => t.ctr (laneCtr l 2) = s.ctr (laneCtr l 2) + 1
          ∧ (d.bad < 2 → t.get JL_STATUS.word_lock l = 1 ∧ (t.lane l).bad = d.bad + 1)
          ∧ (2 ≤ d.bad → t.get JL_STATUS.word_lock l = 0)))
      ∧ (∀ n : Nat, s.get JL_STATUS.word_lock l = 1 → d.pos = .body n → 1 ≤ n → d.farState = 0 → s.get JP_STATUS.link_state port = 3 →
        (s.port port).rxOpen = false →
        let u := descramble (if n = 4093 then s.get JL_SEED.rx_seed l else d.scr) w
        let v : RxUnit := { u with violation := u.violation || d.blind }
        Completes (.markerReceived l x) s (fun t => (t.lane l).words = [(4096 * d.period + (4093 - n), v)]
          ∧ (t.lane l).pos = (if n ≤ 1 then .marker else .body (n - 1))
          ∧ t.ctr (laneCtr l 0) = s.ctr (laneCtr l 0) + (if v.errored then 1 else 0))))
    ∧ (s.fires (.keepalive l) = true → s.get JL_STATUS.word_lock l = 1 → Completes (.keepaliveMissing l) s (fun t =>
        t.get JL_STATUS.word_lock l = 0 ∧ t.ctr (laneCtr l 5) = s.ctr (laneCtr l 5) + 1))
    ∧ (s.isUp = true → Completes (.cdrLockLoss l) s (fun t => t.get JL_STATUS.cdr_lock l = 0 ∧ t.get JL_STATUS.word_lock l = 0))
    ∧ (s.isUp = true → s.nearEnd l = false → s.get JP_STATUS.tx_doze port = 0 →
        let marked (t : State) (k n : Nat) : Prop := ∃ bs line, bs.length = 17 ∧ bs[6]? = some (BitVec.ofNat 8 ((s.lane k).txCount + n))
          ∧ 136 ≤ line.length ∧ .marker k bs line ∈ t.sent
        (s.get JL_STATUS.state l = 4 → s.get JP_STATUS.link_state port ≠ 3 → Completes (.periodBoundary l nulls) s (fun t =>
          ∀ k ∈ s.portLanes port, s.get JL_STATUS.state k = 4 → s.nearEnd k = false → t.get JL_STATUS.state k = 4 ∧ marked t k 1))
        ∧ (s.get JL_STATUS.state l = 5 → (s.port port).sleepAck = false → Completes (.periodBoundary l nulls) s (fun t =>
          (∀ k ∈ s.portLanes port, s.get JL_STATUS.state k = 5 → s.nearEnd k = false → marked t k 1
            ∧ (t.get JL_STATUS.state k = 5 ∧ (t.lane k).backlog ≤ 1088 ∧ (∃ first mask, .periodUnit k first mask (((s.lane k).txCount + 1) % 256) ∈ t.sent)
              ∨ t.get JL_STATUS.state k = 4 ∧ marked t k 2))
          ∧ ∀ m, (s.port port).maskDue = some m → ((s.endActive port nulls).port port).txq = [] → t.get JP_STATUS.tx_mask port = m % 4)))
    ∧ (s.isUp = true → s.get JP_STATUS.link_state p = 2 → (s.port p).opened = false → (s.port p).rxOpen = false →
        (∀ k ∈ s.portLanes p, s.get JL_STATUS.word_lock k = 1 ∧ (s.lane k).sentReady = true ∧ 2 ≤ (s.lane k).ready
          ∧ (s.lane k).farScarf = s.scarfed p) →
        Completes (.activePeriodOpen p) s (fun t => (t.port p).opened = true ∧ (∀ k ∈ s.portLanes p, t.get JL_STATUS.state k = 5)
          ∧ ∃ lw, .idle p lw ∈ t.sent))
    ∧ (s.fires (.doze p) = true → s.get JP_STATUS.tx_doze p = 1 → (∀ k ∈ s.portLanes p, s.nearEnd k = false) → Completes (.dozeKeepalive p) s (fun t =>
        t.due (.doze p) = some (t.clock + 1000) ∧ ∀ k ∈ s.portLanes p, ∃ bs line, .marker k bs line ∈ t.sent))
    ∧ (∀ (a : Agent) (loop : Fin 4) (gen chk inv : Bool) (pat : Fin 4), s.Writable a .JL_CTRL l → s.Writable a .JL_PRBS l →
        s.get JP_STATUS.link_state (s.lead (lanePort l)) = 0 → Completes (.jlTestEnable a l loop gen chk pat inv) s (fun t =>
          t.get JL_CTRL.loop l = loop ∧ t.get JL_PRBS.gen_en l = b2n gen ∧ t.get JL_PRBS.chk_en l = b2n chk
          ∧ t.get JL_PRBS.pattern l = pat ∧ t.get JL_PRBS.invert l = b2n inv ∧ ((loop ≠ 0 ∨ gen = true ∨ chk = true) → t.get JL_STATUS.state l = 7)
          ∧ (∀ k, k ∉ s.portLanes port → t.lane k = s.lane k) ∧ (∀ c, (∀ i, i < 16 → c ≠ laneCtr l i) → t.ctr c = s.ctr c)
          ∧ State.Only [.JL_CTRL, .JL_STATUS, .JL_PRBS] [.ctrs, .timers, .lanes, .sent] s t))

/-- On a port whose stream is in frame, a correct DATA frame in sequence is accepted and one out of sequence is counted and discarded;
LANE_SET announces the far end's mask; the first IDLE of training is noted; an IDLE frame leaves when its interval ends; the replay
timer sends every unacknowledged frame again, or takes the port down at its limit; LANE_SET announces a transmit mask that was asked for.
`r` is the state in which the lanes have taken their line bits as LanesWork says, with one port word ready (R307, R323 to R331, R338, R339,
R342). -/
def Obligations.LinksCarryFrames : Prop :=
  ∀ (s : State) (p : PortId) (lines : List LineIn) (slot : Nat) (u v : RxUnit),
    let r := s.each ((s.portLanes p).zip lines) (fun s e => s.laneIn e.1 e.2)
    (wfLines lines.length = true → s.scarfed p = false → r.scarfed p = false → (r.lane (2 * p)).words = [(slot, u)] →
      (r.lane (2 * p + 1)).words = [(slot, v)] → slot % 4096 ≠ 0 → (r.port p).unitMask = 3 → u.errored = false → v.errored = false →
      badLink (unitWord u) = false →
      (r.InFrame p → getBits (unitWord u) 32 12 = r.get JP_SEQ.tx_acked p →
        (lwKind (unitWord u) = 1 → lwLen (unitWord u) = 0 → unitWord v = setBits (unitWord u) 63 1 1 → getBits (unitWord u) 17 3 < r.vcCount p →
          (getBits (unitWord u) 20 12 = r.get JP_SEQ.rx_expected p → 0 ≤ r.freeSpace p (getBits (unitWord u) 17 3) →
            Completes (.data p lines) s (fun t => t.get JP_SEQ.rx_expected p = (r.get JP_SEQ.rx_expected p + 1) % 4096
              ∧ t.ctr (portCtr p 1) = r.ctr (portCtr p 1) + 1 ∧ t.get JP_STATUS.link_state p = 3))
          ∧ (getBits (unitWord u) 20 12 ≠ r.get JP_SEQ.rx_expected p → Completes (.data p lines) s (fun t =>
            t.get JP_SEQ.rx_expected p = r.get JP_SEQ.rx_expected p ∧ (t.port p).ingress = (r.port p).ingress
            ∧ t.ctr (portCtr p 3) = r.ctr (portCtr p 3) + 1)))
        ∧ (lwKind (unitWord u) = 3 → v.data = 0 → Completes (.laneSet p lines) s (fun t =>
          (t.port p).rxNext = some (u.bits 64 2, u.bits 72 8))))
      ∧ (r.get JP_STATUS.link_state p = 2 → (r.port p).rxOpen = true → (r.port p).opened = false → (r.port p).lost = false → (r.port p).skip = 0 →
          (r.port p).partial_ = [] → (r.port p).headUsed = none → lwKind (unitWord u) = 2 → unitHigh u = setBits (unitWord u) 63 1 1 → v.data = 0 →
          Completes (.idle p lines) s (fun t => (t.port p).idleSeen = true ∧ t.get JP_STATUS.link_state p = 2)))
    ∧ (s.fires (.idleInterval p) = true → s.get JP_STATUS.link_state p = 3 → s.get JP_STATUS.tx_doze p = 0 → (s.port p).maskDue = none →
        Completes (.idleInterval p) s (fun t => t.sent = .idle p (s.linkWord p 2 0 0 0) :: s.sent ∧ (t.port p).ackDue = false
          ∧ t.due (.idleInterval p) = some (t.clock + 256)))
    ∧ (s.fires (.replay p) = true → s.get JP_STATUS.link_state p = 3 → (s.port p).replay ≠ [] →
        (s.get JP_REPLAY.replays p < max 1 (s.get JP_TIMER1.replay_limit p) → s.get JP_STATUS.tx_doze p = 0 →
          Completes (.replayTimeout p) s (fun t => t.get JP_REPLAY.replays p = s.get JP_REPLAY.replays p + 1
            ∧ t.ctr (portCtr p 6) = s.ctr (portCtr p 6) + 1
            ∧ t.sent = ((s.port p).replay.map (fun e =>
                Output.frame p e.1 (s.linkWord p 1 e.2.frame.payload.length e.2.frame.vc e.1) e.2.frame)).reverse ++ s.sent))
        ∧ (max 1 (s.get JP_TIMER1.replay_limit p) ≤ s.get JP_REPLAY.replays p → Completes (.replayTimeout p) s (PortFell p 2)))
    ∧ (∀ m : Nat, s.fires (.txMask p) = true → (s.port p).wantMask = some m → ((s.port p).txq.map (fun us => us.length)).sum < s.periodUnits p →
        Completes (.txMaskChange p) s (fun t => t.get JP_STATUS.tx_mask p = s.get JP_STATUS.tx_mask p ∧ (t.port p).wantMask = none
          ∧ (t.port p).maskDue = some m ∧ ∃ w n, .laneSet p w m n ∈ t.sent))

/-- A lane that lost symbol lock is excluded and asked out of service; if the far end does not comply the port goes down, and a lane
that holds word lock for 1 ms is asked back (R340, R345). -/
def Obligations.LanesDrop : Prop :=
  ∀ (s : State) (p : PortId) (x : Fin 2),
    (s.isUp = true → s.get JP_STATUS.link_state p = 3 → s.scarfed p = false → s.get JP_CTRL.auto_lane_drop p = 1 → (s.port p).excluded = none →
      (s.port p).maskDue = none → s.inService (2 * p + x) = true → s.symbolLock (2 * p + x) = false → s.inService (2 * p + (1 - x.val)) = true →
      s.symbolLock (2 * p + (1 - x.val)) = true → Completes (.autoLaneDrop p x) s (fun t => (t.port p).excluded = some x.val
        ∧ t.get JP_STATUS.req_mask p = 2 - x ∧ t.due (.laneSet p) = some (t.clock + (2 * s.periodNs p + 1000)) ∧ ∃ w, .idle p w ∈ t.sent))
    ∧ (s.fires (.laneSet p) = true → s.get JP_STATUS.link_state p = 3 → (s.port p).excluded = some x.val →
        natBit (s.get JP_STATUS.rx_mask p) x = true → Completes (.laneSetComplianceTimeout p) s (PortFell p 6))
    ∧ (s.fires (.relock p) = true → (s.port p).excluded = some x.val → (s.port p).maskDue = none → Completes (.laneRelock p) s (fun t => (t.port p).excluded = none
        ∧ t.get JP_STATUS.req_mask p = 3 ∧ ∃ w, .idle p w ∈ t.sent))

/-- Lost lock, a failed wake and a training that takes too long take a port down; after its hold a port acts as down_action says; a
port's reset is released after 100 us; presence follows its pin, and a device that leaves takes its port down; retrain, port_reset
and bay_reset act on ports in service (R66, R341 to R345, R350, R351). -/
def Obligations.PortsChangeState : Prop :=
  ∀ (s : State) (p : PortId) (a : Agent) (b : BayId) (here : Bool),
    (s.get JP_STATUS.link_state p ∈ [2, 3, 4] →
      (s.fires (.lockLoss p) = true → Completes (.lockLossTimeout p) s (PortFell p 1))
      ∧ (s.fires (.wake p) = true → Completes (.wakeFail p) s (PortFell p 10))
      ∧ (s.fires (.training p) = true → Completes (.trainTimeout p) s (PortFell p 3)))
    ∧ (s.fires (.downHold p) = true → s.get JP_STATUS.link_state p = 5 → s.get BRACE_DSTATE.state (4 + p) ≠ 1 → s.portMayServe p = true →
        s.bayHeld (bayOf p) = false → s.portEnabled p = true → s.allPresent p = true → s.get JP_CTRL.port_reset p = 0 →
        s.get JP_CTRL.retrain p = 0 → s.get JP_DOWN_LOG.cause p ∉ [5, 8, 11] →
        (s.get JP_CTRL.down_action p = 0 → Completes (.downHoldExpiry p) s (PortTrains p))
        ∧ (s.get JP_CTRL.down_action p = 1 → Completes (.downHoldExpiry p) s (PortHeld p))
        ∧ (2 ≤ s.get JP_CTRL.down_action p → Completes (.downHoldExpiry p) s (fun t => t.get JP_STATUS.link_state p = 5)))
    ∧ (s.fires (.portReset p) = true → s.mayServe (100 + bayOf p) = true → s.get BRACE_DSTATE.state (100 + bayOf p) ≠ 1 →
        Completes (.localResetRelease p) s (fun t => (t.port p).resetOut = false ∧ t.get JP_CTRL.port_reset p = 0))
    ∧ (Completes (.localPresentChange p here) s (fun t => (t.port p).present = here ∧ t.get JP_STATUS.present p = b2n here)
      ∧ (s.isUp = true → s.lead p = p → s.get JP_STATUS.link_state p ∈ [2, 3, 4] → Completes (.localPresentChange p false) s (PortFell p 5)))
    ∧ (s.Writable a .JP_CTRL p → s.lead p = p →
        (s.get JP_STATUS.link_state p = 3 → Completes (.retrain a p) s (fun t => PortFell p 9 t ∧ t.get JP_CTRL.retrain p = 1)
          ∧ Completes (.portReset a p) s (fun t => PortFell p 9 t ∧ t.get JP_CTRL.port_reset p = 1))
        ∧ (s.get JP_STATUS.link_state p = 5 → s.get JP_DOWN_LOG.cause p ≠ 11 → Completes (.portReset a p) s (PortHeld p)
          ∧ (s.portMayServe p = true → s.allPresent p = true → Completes (.retrain a p) s (PortTrains p))))
    ∧ (s.Writable a .BAY_CTRL b → (s.bayLeads b).any s.portEnabled = true → Completes (.bayReset a b) s (fun t => t.bayState b = 5
        ∧ t.get BAY_CTRL.bay_reset b = 1 ∧ ∀ q ∈ s.bayLeads b, s.portEnabled q = true → PortHeld q t))

/-- A quiet port dozes after its doze time and asks for sleep after its sleep time; a request is acknowledged by a port that has
nothing to send and refused by another; an acknowledged request commits the port to sleep, and a refused or unanswered one is given
up (R312, R343, R344, R349). -/
def Obligations.PortsDozeAndSleep : Prop :=
  ∀ (s : State) (p : PortId),
    (s.fires (.dozeIdle p) = true → s.dozeReady p = true → ((s.endActive p []).port p).txq = [] → Completes (.dozeEntry p) s (fun t => t.get JP_STATUS.tx_doze p = 1
      ∧ (∀ l ∈ s.portLanes p, t.get JL_STATUS.state l = 6) ∧ t.due (.doze p) = some (t.clock + 1000)))
    ∧ (s.fires (.sleepIdle p) = true → s.sleepReady p = true → Completes (.sleepIdle p) s (fun t => (t.port p).sleepReq = true
        ∧ t.due (.pmReply p) = some (t.clock + 20000) ∧ ∃ w, .pm p w 1 ∈ t.sent))
    ∧ (s.isUp = true → s.get JP_STATUS.link_state p = 3 →
        ((s.port p).sleepReq = true → Completes (.sleepReq p) s (fun t => (t.port p).sleepAck = true ∧ (t.port p).sleepReq = false
          ∧ t.armed (.pmReply p) = false))
        ∧ ((s.port p).sleepReq = false → s.get JP_STATUS.tx_doze p = 0 → (s.port p).replay = [] → (s.port p).egress = [] → Completes (.sleepReq p) s (fun t =>
          (t.port p).sleepAck = true ∧ ∃ w, .pm p w 2 ∈ t.sent))
        ∧ ((s.port p).sleepReq = false → (s.port p).egress ≠ [] → Completes (.sleepReq p) s (fun t =>
          (t.port p).sleepAck = (s.port p).sleepAck ∧ ∃ w, .pm p w 3 ∈ t.sent)))
    ∧ (s.isUp = true → (s.port p).sleepReq = true →
        Completes (.sleepAck p) s (fun t => (t.port p).sleepAck = true ∧ (t.port p).sleepReq = false ∧ t.armed (.pmReply p) = false)
        ∧ Completes (.sleepNak p) s (fun t => (t.port p).sleepReq = false ∧ t.armed (.pmReply p) = false))
    ∧ (s.fires (.pmReply p) = true → (s.port p).sleepReq = true → Completes (.pmReplyTimeout p) s (fun t => (t.port p).sleepReq = false
        ∧ t.armed (.pmReply p) = false))

/-! ### Joist transactions and interrupts -/

/-- A device's read that finds its host is recorded and asked of it, and its write is sent to the host, behind an earlier read of its path
once that has gone; a completion of an unknown or
held tag is counted, and one that answers a window read frees its tag; a PEG raises its source; TIME is sent when due, after doze if
the port dozes; a tag without an answer is held and then free; a frame that a scarfed port cannot merge is dropped (R215, R216, R356 to
R364, R373). -/
def Obligations.JoistTransactionsRun : Prop :=
  ∀ (s : State) (p : PortId) (v : VcId) (f : Frame) (tag : Nat), s.isUp = true →
    (∀ n : Nat, s.ingressHead p v 1 = some f → f.tag < 1024 → badAccess f f.rdLen = false → find1 f.tag (s.port p).dtags = none →
      s.hostView p f.addr f.rdLen false = .found n → Completes (.rd p v) s (fun t =>
        (∃ d, find1 f.tag (t.port p).dtags = some d ∧ d.len = f.rdLen ∧ d.addr = f.addr ∧ d.fn = s.get SEG_CTRL.owner n ∧ d.got = [])
        ∧ ∃ r ∈ (t.host (fnPort (s.get SEG_CTRL.owner n))).waiting, r.purpose = .loc p f.tag 0 ∧ r.fn = s.get SEG_CTRL.owner n
          ∧ r.addr = s.segDst n + (f.addr - s.segSrc n)))
    ∧ (∀ n : Nat, s.ingressHead p v 2 = some f → badAccess f f.payload.length = false → f.sparse = false →
        s.hostView p f.addr f.payload.length true = .found n →
        let g := s.get SEG_CTRL.owner n
        let addr := s.segDst n + (f.addr - s.segSrc n)
        s.streamFailed (fnPort g) (s.streamFor g) = false → f.payload.length ≤ s.mps g → addr % 4096 + f.payload.length ≤ 4096 →
        (s.pathWaits g p v false = false → s.hostOpen [sliceOf p] g = true → Completes (.wr p v) s (fun t => s.asSent g (.memWrite (fnPort g) (s.rid g)
          (s.pasidFor g (s.on SEG_CTRL.pasid_en n) (s.get SEG_LEN.pasid n)) (s.streamFor g) addr 0 f.payload) ∈ t.sent))
        ∧ ((∃ r ∈ (s.host (fnPort g)).waiting, r.posted = false ∧ r.fn = g ∧ r.p = p ∧ r.v = v ∧ r.fromHost = false) → Completes (.wr p v) s (fun t =>
          ((∀ r ∈ (s.host (fnPort g)).waiting, r.posted = false) → t.sent = s.sent)
          ∧ ∃ r ∈ (t.host (fnPort g)).waiting, r.purpose = .post f.payload f.addr false ∧ r.addr = addr)))
    ∧ (s.NoFlrWaits → s.ingressHead p v 3 = some f →
        (find1 f.tag (s.port p).ltags = none → Completes (.cpl p v) s (fun t => t.ctr (portCtr p 14) = s.ctr (portCtr p 14) + 1))
        ∧ (∀ x : LTag, find1 f.tag (s.port p).ltags = some x → x.held = true → Completes (.cpl p v) s (fun t =>
          t.ctr (portCtr p 12) = s.ctr (portCtr p 12) + 1 ∧ find1 f.tag (t.port p).ltags = some x))
        ∧ (∀ (x : LTag) (id ofs : Nat), find1 f.tag (s.port p).ltags = some x → x.held = false → x.dead = false → x.purpose = .window id ofs →
          s.gensCurrent x.fn x.fgen x.q x.qgen = true → badCpl x f = false → f.status = 0 → s.NoEngineRuns →
          Completes (.cpl p v) s (fun t => find1 f.tag (t.port p).ltags = none)))
    ∧ (s.ingressHead p v 4 = some f → f.payload = [] → s.pegEnabled (256 * p + f.addr % 512) = true →
        256 * p.val + f.addr % 512 < 24576 → s.get PEG_SRC_STATUS.state (256 * p + f.addr % 512) = 0 →
        Completes (.peg p v) s (fun t => t.get PEG_SRC_STATUS.state (256 * p + f.addr % 512) = 1))
    ∧ (s.fires (.timeFrame p) = true → s.get JP_STATUS.link_state p = 3 →
        (s.get JP_STATUS.tx_doze p = 1 → Completes (.timeFrame p) s (fun t => (t.port p).timeDue = true ∧ t.sent = s.sent))
        ∧ (s.get JP_STATUS.tx_doze p = 0 → (s.port p).sleepAck = false → (s.port p).maskDue = none → (s.port p).egress = [] → (s.port p).replay = [] →
          s.bayState (bayOf p) = 0 → s.tsState (sliceOf p) = 0 → Completes (.timeFrame p) s (fun t =>
            ∃ w g, .frame p (s.get JP_SEQ.tx_next p) w g ∈ t.sent ∧ g.type = 5 ∧ g.addr = t.devtime)))
    ∧ (∀ (x : LTag) (id ofs : Nat), s.NoFlrWaits → s.fires (.response p tag) = true →
        find1 tag (s.port p).ltags = some x → x.held = false → x.dead = false → x.purpose = .window id ofs → (s.port p).reads = [] →
        Completes (.localResponseTimeout p tag) s (fun t => (∃ y, find1 tag (t.port p).ltags = some y ∧ y.held = true)
          ∧ t.due (.tagHold p tag) = some (t.clock + 1000 * s.get JP_TIMER0.resp_us p) ∧ t.get JT_ERR_LOG.kind p = 2))
    ∧ (s.NoFlrWaits → s.fires (.tagHold p tag) = true → s.NoEngineRuns → Completes (.tagHoldExpiry p tag) s (fun t =>
        find1 tag (t.port p).ltags = none ∧ t.armed (.tagHold p tag) = false))
    ∧ (∀ w : Word, s.fires (.merger p) = true → s.scarfed p = true → s.lead p = p → (s.port p).mergeFrom ≠ none → (s.port p).headUsed ≠ none →
        headScarf (s.port p).partial_ (s.port (p + 1)).partial_ = .wait (some w) →
        (∀ k ∈ [p.val, p.val + 1], (s.port k).partial_.length ≤ frameUnits true w / 2) →
        Completes (.scarfMergerTimeout p) s (fun t => t.ctr (portCtr p 16) = s.ctr (portCtr p 16) + 1 ∧ 8 ≤ t.get JT_SCARF.max_skew p
          ∧ ∀ k ∈ [p.val, p.val + 1], (t.port k).partial_ = []
            ∧ (t.port k).skip = (s.port k).skip + (frameUnits true w / 2 - (s.port k).partial_.length)))

/-- A raise takes an enabled source from idle to pending and from in service to pending in service, and merges otherwise; end of
service takes it back, and a raise wakes the slices that it passes; a pending source that waits for no write of its device is delivered
through an enabled slot, or held when its function cannot send; a held message that can be sent leaves (R92, R377 to R383). -/
def Obligations.InterruptsFlow : Prop :=
  ∀ (s : State) (a : Agent) (i : PegId) (f : FnId) (t0 : Nat) (ts : List Nat),
    (s.Writable a .PEG_SRC_CMD i →
      let runs : Prop := s.steady 31 = true ∧ s.steady (30 + fnPort (s.get PEG_SRC_CTRL.owner i)) = true
      let frame (ks : List RegKind) (ps : List Area) (t : State) : Prop :=
        State.Only (ks ++ wakeKinds) (ps ++ [Area.ctrs, .plumb, .waking]) s t ∧ (runs → State.Only ks (ps ++ [Area.ctrs]) s t)
      (s.pegEnabled i = true →
        (s.get PEG_SRC_STATUS.state i = 0 → Completes (.raise a i) s (fun t => t.get PEG_SRC_STATUS.state i = 1
          ∧ frame [RegKind.PEG_SRC_STATUS] [Area.pegs] t))
        ∧ (s.get PEG_SRC_STATUS.state i = 2 → Completes (.raise a i) s (fun t => t.get PEG_SRC_STATUS.state i = 3
          ∧ frame [RegKind.PEG_SRC_STATUS] [Area.pegs] t))
        ∧ (s.get PEG_SRC_STATUS.state i = 1 ∨ s.get PEG_SRC_STATUS.state i = 3 → Completes (.raise a i) s (fun t =>
          t.ctr (portCtr (s.pegPort i) 27) = s.ctr (portCtr (s.pegPort i) 27) + 1 ∧ frame [] [Area.pegs] t)))
      ∧ (s.pegEnabled i = false → Completes (.raise a i) s (fun t => t.ctr (portCtr (s.pegPort i) 25) = s.ctr (portCtr (s.pegPort i) 25) + 1
        ∧ State.Only [] [.ctrs] s t))
      ∧ (s.pegAuto i = false →
        (s.get PEG_SRC_STATUS.state i = 2 → Completes (.eos a i) s (fun t => t.get PEG_SRC_STATUS.state i = 0 ∧ State.Only [.PEG_SRC_STATUS] [] s t))
        ∧ (s.get PEG_SRC_STATUS.state i = 3 → Completes (.eos a i) s (fun t => t.get PEG_SRC_STATUS.state i = 1
          ∧ frame [RegKind.PEG_SRC_STATUS] [] t))
        ∧ (s.get PEG_SRC_STATUS.state i ≤ 1 → Completes (.eos a i) s (State.Only [] [] s))))
    ∧ (s.isUp = true → s.vecs = [] → s.freed = [] → s.pendingPegs = [i.val] → s.pegDeliverable i = true → s.pegClear i = true →
        s.pegOpen (s.get PEG_SRC_CTRL.owner i) = true → s.compatFn (s.get PEG_SRC_CTRL.owner i) = false →
        s.slotOrder i = t0 :: ts →
        (s.canSend (s.get PEG_SRC_CTRL.owner i) (s.slotEntry i t0) = true → s.backed (s.get PEG_SRC_CTRL.owner i) (s.slotEntry i t0) = true →
          Completes .pegDelivery s (fun t => t.get PEG_SRC_STATUS.state i = (if s.pegAuto i then 0 else 2) ∧ t.get PEG_SRC_STATUS.held i = 0
            ∧ t.get PEG_SRC_STATUS.last_target i = t0 ∧ t.get PEG_SRC_STATUS.last_devtime i = s.devtime % 2 ^ 32
            ∧ t.ctr (hostCtr (fnPort (s.get PEG_SRC_CTRL.owner i)) 0) = s.ctr (hostCtr (fnPort (s.get PEG_SRC_CTRL.owner i)) 0) + 1))
        ∧ (s.canMaster (s.get PEG_SRC_CTRL.owner i) = false → Completes .pegDelivery s (fun t =>
            t.get PEG_SRC_STATUS.state i = (if s.pegAuto i then 0 else 2) ∧ t.get PEG_SRC_STATUS.held i = 1
            ∧ t.get PEG_SRC_STATUS.last_target i = t0 ∧ t.pbaBit (s.get PEG_SRC_CTRL.owner i) (s.slotEntry i t0) = true ∧ t.sent = s.sent)))
    ∧ (∀ e : Nat, e < 2048 → s.isUp = true → s.vecs = [] → s.freed = [] → s.pendingPegs = [] → s.pegOpen f = true → s.compatFn f = false →
        s.pba = [f.val * 2048 + e] → s.canSend f e = true → s.backed f e = true →
        Completes (.heldMessageRelease f) s (fun t => t.pba = [] ∧ t.ctr (hostCtr (fnPort f) 0) = s.ctr (hostCtr (fnPort f) 0) + 1))

/-! ### Scribe and registers -/

/-- A trigger starts a capture into the bank that is free, or merges into the capture in progress, or is missed; a hold request holds
the bank when its capture ends; hold and release act on complete banks; the period timer triggers; a capture ends when the last domain
has captured (R459 to R461). -/
def Obligations.ScribeCaptures : Prop :=
  ∀ (s : State) (a : Agent) (b : Nat), b < 2 →
    (s.Writable a .SCRIBE_CMD 0 →
      (s.scribe.capturing = none → s.targetBank = some b →
        Completes (.trigger a) s (CaptureBegun s b (sourceOf a) none) ∧ Completes (.triggerHold a) s (CaptureBegun s b (sourceOf a) (some (holderOf a))))
      ∧ (s.scribe.capturing = some b → Completes (.trigger a) s (fun t => t.ctr (modCtr 15) = s.ctr (modCtr 15) + 1
        ∧ t.get SCRIBE_INFO.merged b = min 255 (s.get SCRIBE_INFO.merged b + 1) ∧ State.Only [.SCRIBE_INFO] [.ctrs, .scribe] s t))
      ∧ (s.scribe.capturing = none → s.targetBank = none → Completes (.trigger a) s (fun t => t.get SCRIBE_STATUS.missed = 1
        ∧ t.ctr (modCtr 14) = s.ctr (modCtr 14) + 1 ∧ State.Only [.SCRIBE_STATUS] [.ctrs] s t))
      ∧ (s.get SCRIBE_STATUS.a_state = 2 → Completes (.holdA a) s (fun t => t.get SCRIBE_STATUS.a_state = 3
        ∧ t.get SCRIBE_STATUS.a_holder = holderOf a % 8 ∧ State.Only [.SCRIBE_STATUS] [] s t))
      ∧ (s.get SCRIBE_STATUS.b_state = 2 → Completes (.holdB a) s (fun t => t.get SCRIBE_STATUS.b_state = 3
        ∧ t.get SCRIBE_STATUS.b_holder = holderOf a % 8 ∧ State.Only [.SCRIBE_STATUS] [] s t))
      ∧ (s.get SCRIBE_STATUS.a_state = 3 → Completes (.releaseA a) s (fun t => t.get SCRIBE_STATUS.a_state = 2
        ∧ t.get SCRIBE_STATUS.a_holder = 0 ∧ State.Only [.SCRIBE_STATUS] [] s t))
      ∧ (s.get SCRIBE_STATUS.b_state = 3 → Completes (.releaseB a) s (fun t => t.get SCRIBE_STATUS.b_state = 2
        ∧ t.get SCRIBE_STATUS.b_holder = 0 ∧ State.Only [.SCRIBE_STATUS] [] s t)))
    ∧ (s.fires .scribe = true → 0 < s.get SCRIBE_CTRL.period_ms → s.scribe.capturing = none → s.targetBank = some b →
        Completes .scribePeriodTimer s (fun t => CaptureBegun s b 3 (if s.on SCRIBE_CTRL.auto_hold then some 6 else none) t
          ∧ t.due .scribe = some (t.clock + 1000000 * s.get SCRIBE_CTRL.period_ms)))
    ∧ (s.scribe.capturing = some b → Completes .scribeCaptureComplete s (fun t => t.scribe = ⟨none, none, []⟩
        ∧ t.get SCRIBE_INFO.complete b = 1 ∧ t.bankState b = (if s.scribe.holdAfter.isSome then 3 else 2)))

/-- An aligned access of an agent whose way is clear, in BAR0: what 8 bytes read as is answered, Ridge by its data and a function by a
completion; a counter is read and preset whole; a register without ret fields takes a write by its fields' access types, a width field the
next lower width of the set; a read of a place outside the view gives 0 and is counted, and a write of it is discarded and counted. In
BAR2 the doorbells read 0, and a dword of the MSI-X table or of the pending bit array reads as its entries, an entry that no vector backs as
0 and masked (R13, R32, R36, R39, R40, R48, R49, R54, R148, R162, R385). -/
def Obligations.RegistersReadAndWrite : Prop :=
  ∀ (s : State) (a : Agent) (o tag : Nat) (v : Word), s.reach a = 2 →
    (∀ f, a = .fn f → s.get HP_LINK_STATUS.pm_state (fnPort f) ≠ 2 ∧ (s.host (fnPort f)).regGot = []) → (∀ x ∈ s.ring, x.master ≠ masterOf a) →
    let all := BitVec.allOnes 64
    let bytes := (List.range 8).map (fun i => v.extractLsb' (8 * i) 8)
    let answer (f : FnId) (bs : List Byte) : Output := s.asSent f (.completion (fnPort f) f tag .ok bs)
    let reply (bs : List Byte) : Output :=
      match a with
      | .ridge => .regData a o bs
      | .fn f => answer f bs
    (o % 8 = 0 → o + 8 ≤ s.mapSize a → s.steady (s.regionAt a o) = true →
      Completes (.registerRead a ⟨.bar0, o⟩ ⟨2, 15, 15, tag⟩) s (fun t => t.sent = reply (wordBytes (s.readUnit a o all).1) :: s.sent
        ∧ State.Only [] [.ctrs, .hosts, .sent] s t)
      ∧ (∀ c : Nat, s.touched a o all = [.live c] → s.right a (.live c) = .write →
          Completes (.registerRead a ⟨.bar0, o⟩ ⟨2, 15, 15, tag⟩) s (fun t => t.sent = reply (wordBytes (s.liveCtr c)) :: s.sent
            ∧ State.Only [] [.hosts, .sent] s t)
          ∧ Completes (.registerWrite a o (bytes.map some)) s (fun t => t.liveCtr c = v ∧ (∀ d, d ≠ c → t.liveCtr d = s.liveCtr d)
            ∧ State.Only [] [.ctrs] s t))
      ∧ (∀ k ∈ [RegKind.HP_LINK_CTRL, .HP_PM_CTRL, .HP_TAG, .HP_PTM_CTRL, .Q_COAL, .BRACE_CTRL], ∀ i : Nat, i < k.count →
          s.touched a o 0xFFFFFFFF = [.reg ⟨k, i, 0⟩] → s.right a (.reg ⟨k, i, 0⟩) = .write →
          Completes (.registerWrite a o ((bytes.take 4).map some)) s (fun t => State.Only [k] [] s t ∧ (∀ j, j ≠ i → t.word k j = s.word k j)
            ∧ (∀ F ∈ k.flds, F.acc = .rw → t.get F i =
                if (k = .HP_LINK_CTRL ∧ F.lo = HP_LINK_CTRL.max_width.lo) ∨ (k = .HP_PM_CTRL ∧ F.lo = HP_PM_CTRL.l0p_min_width.lo) then
                  widthBelow (getBits v F.lo F.len)
                else getBits v F.lo F.len)
            ∧ (∀ F ∈ k.flds, F.acc = .ro → t.get F i = s.get F i)))
      ∧ (∀ (f : FnId) (g : Tgt), a = .fn f → s.touched a o all = [g] → s.right a g = .none →
          Completes (.registerRead a ⟨.bar0, o⟩ ⟨2, 15, 15, tag⟩) s (fun t => t.sent = answer f (List.replicate 8 0) :: s.sent
            ∧ t.ctr (fnCtr f 2) = s.ctr (fnCtr f 2) + 1)
          ∧ Completes (.registerWrite a o (bytes.map some)) s (fun t => t.ctr (fnCtr f 2) = s.ctr (fnCtr f 2) + 1 ∧ State.Only [] [.ctrs] s t)))
    ∧ (∀ f : FnId, a = .fn f → s.steady 34 = true →
        let reads (off dws : Nat) (last : BitVec 4) (bs : List Byte) : Prop := Completes (.registerRead a ⟨.bar2, off⟩ ⟨dws, 15, last, tag⟩) s (fun t =>
          t.sent = answer f bs :: s.sent ∧ State.Only [] [.freeCtr, .sent] s t)
        (o % 8 = 0 → o + 8 ≤ s.bar2Size f → o < tableBase f → reads o 2 15 (List.replicate 8 0))
        ∧ (∀ e j : Nat, e < s.tableSize f → j < 4 →
            reads (tableBase f + 16 * e + 4 * j) 1 0 (leBytes 4 (if s.backed f e then s.msixWord f e j else if j = 3 then 1 else 0).toNat))
        ∧ (∀ n : Nat, 32 * n < s.tableSize f → ∃ w : Dword, reads (pbaBase f + 4 * n) 1 0 (leBytes 4 w.toNat)
            ∧ ∀ i, i < 32 → w.getLsbD i = (s.backed f (32 * n + i) && s.pbaBit f (32 * n + i))))

/-! ### What commands leave alone -/

/-- Plumb's instructions change Plumb alone; SPDM, IDE key and MCTP requests and Ridge's information and update commands change Ridge,
the DOE, the answer sent, a counter and the counter of free values; the commands of random numbers and of measurement, and the failures
and restarts of Ridge, change what Ridge's own state, its reports and its transactions hold. The commands of one host link, and the
requests that it carries, change that link, the time, what is sent, the regions that they wake and what their request does; a change of
an enable changes the function's requests and channels. -/
def Obligations.FramesOfRidgeAndHostCommands : Prop :=
  (∀ (d a b k : Fin 16) (imm : BitVec 22) (c n x sd cd : Fin 64) (k5 : Fin 32) (k9 : Fin 512) (mode : Fin 4) (step : Fin 8) (power flow : Bool)
      (r : Fin 256),
    (∀ y ∈ [Instr.nop, .sample d n x, .smax d n x, .ldi d imm, .ldt d k5, .add d a b, .sub d a b, .mulq d a b, .min d a b, .max d a b, .iir d a c k,
        .med3 d a c, .cmpge a b c sd cd, .cmple a b c sd cd, .actThrottle c mode step power flow, .actWake c mode r, .actSleep c mode r,
        .actRaise c mode r a, .actScribe c mode, .actShutdown c mode, .actSwap c mode], Leaves [] [.ctrs, .plumb] y)
    ∧ Leaves [] [.plumb] .halt
    ∧ Leaves [.PLUMB_STATUS] [.ctrs, .plumb] (.store c mode k9 a))
  ∧ (∀ (t : Transport) (slot : Fin 8) (off len id seq : Nat) (i handle code : Byte) (sign last : Bool) (nonce : BitVec 256)
      (xs part : List Byte) (km : IdeKm),
    (∀ y ∈ [Instr.getVersion t, .getCapabilities t, .negotiateAlgorithms t, .getCertificate t slot off len, .finish t id, .endSession t id,
        .chunkSend t handle seq last part, .chunkGet t handle seq], Leaves [] [.hosts, .ridge, .sent] y)
    ∧ (∀ y ∈ [Instr.getDigests t, .heartbeat t id, .keyUpdate t id, .unsupportedSpdmRequest t code], Leaves [] [.hosts, .sent] y)
    ∧ (∀ y ∈ [Instr.challenge t slot nonce, .getMeasurements t i sign nonce, .keyExchange t slot xs], Leaves [] [.ctrs, .hosts, .ridge, .freeCtr,
        .sent] y)
    ∧ Leaves [.HP_IDE_STATUS] [.hosts, .sent] (.vendorDefinedRequest t id km))
  ∧ (∀ (h : HostId) (i : Fin 9) (k : Fin 2) (key : BitVec 256) (c : Caller) (e : Byte),
    (∀ y ∈ [Instr.query h, .keyProg h i k key, .kSetGo h i k, .kSetStop h i k], Leaves [.HP_IDE_STATUS] [.hosts, .sent] y)
    ∧ Leaves [] [.hosts, .ridge] (.doeAbort h)
    ∧ Leaves [] [.ridge, .freeCtr, .sent] (.getInfo c)
    ∧ (∀ y ∈ [Instr.getCertChain c, .fwBegin c, .fwWrite c, .fwFinish c, .fwActivate c, .fwCancel c, .setEndpointId e], Leaves [] [.ridge, .sent] y)
    ∧ Leaves [] [.ctrs, .ridge, .freeCtr, .sent] (.getRandom c)
    ∧ Leaves (channelKinds ++ [RegKind.GLOBAL_STATUS, .TXN_STATUS, .TXN_STAGED, .FUNC_STATE, .BRACE_TRESTLE, .BRACE_DSTATE, .MB_CTRL,
        .MB_STATUS]) (channelAreas ++ [Area.cfg, .txns, .commits, .brace, .ridge]) (.ridgeRestart c)
    ∧ Leaves (channelKinds ++ [RegKind.GLOBAL_STATUS, .TXN_STATUS, .TXN_STAGED, .FUNC_STATE, .BRACE_TRESTLE, .BRACE_DSTATE, .MB_CTRL, .MB_STATUS,
        .MB_RSP]) (channelAreas ++ [Area.cfg, .pba, .txns, .commits, .brace, .ridge]) (.mailboxCommandDone h)
    ∧ (∀ y ∈ [Instr.getEndpointId, .getEndpointUuid, .getMctpVersionSupport, .getMessageTypeSupport], Leaves [] [.sent] y))
  ∧ (∀ (src : Fin 2) (test : Fin 4) (slot : Fin 16) (x : BitVec 384) (f : CheckerFault) (ok : Bool) (addr : Nat) (cause : Fin 6),
    Leaves (wakeKinds ++ reportKinds ++ [RegKind.SEC_STATUS, .RNG_STATUS]) [.ctrs, .cfg, .timers, .brace, .ridge, .plumb, .waking,
        .sent] (.rngHealthFailure src test)
    ∧ Leaves [.SEC_STATUS, .RNG_STATUS] [.ridge] (.rngStartupTestPass src)
    ∧ Leaves [] [.ctrs, .ridge] .drbgReseed
    ∧ Leaves [] [.ridge] (.measurementExtend slot x)
    ∧ Leaves [.SEC_STATUS] [.ridge] .bootMeasurement
    ∧ (∀ y ∈ [Instr.lockstep, .flashUe addr, .ridgeFailure cause], Leaves (channelKinds ++ reportKinds ++ [RegKind.GLOBAL_STATUS, .TXN_STATUS,
        .TXN_STAGED,
        .FUNC_STATE, .BRACE_TRESTLE, .MB_CTRL, .MB_STATUS]) (channelAreas ++ [Area.cfg, .txns, .commits, .brace, .ridge]) y)
    ∧ (∀ y ∈ [Instr.checkerLost f, .selftest ok], Leaves (channelKinds ++ reportKinds ++ [RegKind.GLOBAL_STATUS, .TXN_STATUS, .TXN_STAGED,
        .FUNC_STATE,
        .BRACE_TRESTLE, .MB_CTRL, .MB_STATUS, .RIDGE_LS]) (channelAreas ++ [Area.cfg, .txns, .commits, .brace, .ridge]) y)
    ∧ Leaves (channelKinds ++ reportKinds ++ [RegKind.GLOBAL_STATUS, .TXN_STATUS, .TXN_STAGED, .FUNC_STATE, .BRACE_TRESTLE, .MB_CTRL, .MB_STATUS,
        .RIDGE_LS]) (channelAreas ++ passing ++ [Area.cfg, .txns, .commits, .brace, .ridge]) .selftestTimeout
    ∧ (∀ y ∈ [Instr.watchdog, .restartFail], Leaves (channelKinds ++ reportKinds ++ [RegKind.GLOBAL_STATUS, .TXN_STATUS, .TXN_STAGED, .FUNC_STATE,
        .BRACE_TRESTLE, .MB_CTRL, .MB_STATUS]) (channelAreas ++ passing ++ [Area.cfg, .txns, .commits, .brace, .ridge]) y)
    ∧ Leaves [.PWR_STATE_MISC, .BRACE_TRESTLE, .SEC_STATUS, .RIDGE_LS, .RNG_STATUS] (passing ++ [Area.ridge]) .trestleRestartAttempt
    ∧ Leaves [.BRACE_TRESTLE] passing .restartCountReset)
  ∧ (∀ (h : HostId) (n : Fin 256) (dw : Fin 1024) (o : LinkOffer) (f : FnId) (bad : BadRequest) (use16 use2 w ns len : Nat) (off : BitVec 16)
      (l12 : Bool) (x : PtmTimes),
    Leaves [.PWR_STATE_MISC] [.ctrs, .hosts] (.perstReleased h)
    ∧ Leaves (wakeKinds ++ reportKinds ++ [RegKind.HP_LINK_STATUS]) [.ctrs, .cfg, .timers, .hosts, .brace, .plumb, .waking, .freeCtr,
        .sent] (.linkTrainingComplete h o)
    ∧ Leaves [.PWR_STATE_MISC, .HP_LINK_STATUS] [.ctrs, .hosts, .freeCtr, .sent] (.configRead h n dw)
    ∧ Leaves (frameKinds ++ wakeKinds ++ [RegKind.HP_LINK_STATUS, .HP_IDE_STATUS, .JP_CTRL, .JT_ERR_LOG, .JT_ERR_ADDR]) (joistAreas ++ [Area.cfg,
        .hosts, .queues, .engines, .plumb, .served, .waking]) (.pmeTurnOff h)
    ∧ Leaves [.PWR_STATE_MISC, .HP_LINK_STATUS, .HP_PTM_STATUS, .HP_PPS_HOST] (passing ++ [Area.sent]) (.l1EntryRequest h)
    ∧ Leaves [.PWR_STATE_MISC, .HP_LINK_STATUS] [.hosts] (.l1SubstateEntry h l12)
    ∧ Leaves (wakeKinds ++ [RegKind.HP_LINK_STATUS]) [.ctrs, .hosts, .plumb, .waking, .freeCtr] (.l1Exit h)
    ∧ Leaves [.PWR_STATE_MISC, .HP_LINK_STATUS] (passing ++ [Area.ctrs, .hosts, .freeCtr, .sent]) (.ltrMessage h)
    ∧ (∀ y ∈ [Instr.l0pEvaluation h use16 use2, .l0pWidthRequest h w], Leaves [.HP_LINK_STATUS] [.sent] y)
    ∧ Leaves (wakeKinds ++ reportKinds ++ [RegKind.HP_PTM_STATUS, .HP_PTM_OFFSET, .HP_PPS_HOST]) (passing ++ [Area.ctrs, .cfg, .hosts, .brace,
        .plumb, .waking, .sent]) (.ptmDialog h x)
    ∧ Leaves [.HP_PTM_STATUS, .HP_PPS_HOST] passing (.ptmContextExpiry h)
    ∧ Leaves (channelKinds ++ frameKinds ++ [RegKind.TE_PROGRESS, .JP_CTRL, .JT_ERR_LOG, .JT_ERR_ADDR]) (channelAreas ++ [Area.cfg, .ports, .lanes,
        .served]) (.hostTagGrant h)
    ∧ Leaves [.PWR_STATE_MISC, .HP_LINK_STATUS] [.ctrs, .cfg, .hosts, .plank, .freeCtr, .sent] (.expansionRomRead off len)
    ∧ Leaves [] [.ctrs, .cfg, .sent] (.unsupportedRequest f bad)
    ∧ Leaves [.HP_PTM_STATUS, .HP_PPS_DEVTIME, .HP_PPS_HOST] [.pins, .freeCtr] (.ppsInEdge ns))
  ∧ (∀ (f : FnId) (h : HostId) (i : Fin 9) (kind : IdeFailure) (vf : Bool) (size : BitVec 6) (e : Fin 8) (addr dws tag off len : Nat) (b1 b2 : BitVec 4)
      (be : Byte) (v : Word) (data : List Byte) (bad : Bool) (bs : WriteBytes),
    (∀ y ∈ [Instr.busMasterEnableSet f, .busMasterEnableClear f], Leaves (channelKinds ++ frameKinds ++ [RegKind.FUNC_STATE, .JP_CTRL, .JT_ERR_LOG,
        .JT_ERR_ADDR]) (channelAreas ++ [Area.cfg, .funcs, .ports, .lanes, .served, .freed]) y)
    ∧ Leaves (channelKinds ++ frameKinds ++ [RegKind.HP_PTM_STATUS, .HP_PPS_HOST, .FUNC_STATE, .JP_CTRL, .JT_ERR_LOG,
        .JT_ERR_ADDR]) (channelAreas ++ [Area.devtime, .cfg, .ports, .lanes, .served, .freed]) (.d3hotEntry f)
    ∧ Leaves (wakeKinds ++ [RegKind.HP_LINK_STATUS]) [.ctrs, .cfg, .hosts, .plumb, .waking, .freeCtr] (.resizableBarWrite h vf size)
    ∧ Leaves (wakeKinds ++ [RegKind.HP_LINK_STATUS]) [.ctrs, .cfg, .hosts, .plumb, .plank, .waking, .freeCtr, .freed]
        (.msiMultipleMessageEnableWrite e)
    ∧ Leaves (wakeKinds ++ [RegKind.HP_LINK_STATUS, .FUNC_STATE]) [.ctrs, .cfg, .hosts, .funcs, .plumb, .waking, .freeCtr, .sent] (.vfEnableSet h)
    ∧ Leaves (channelKinds ++ frameKinds ++ [RegKind.FUNC_STATE, .FUNC_FLR_TIME, .Q_CFG, .Q_CMD, .Q_SQ_BASE, .Q_CQ_BASE, .Q_RING, .JP_CTRL,
        .JT_ERR_LOG, .JT_ERR_ADDR, .PEG_SRC_STATUS]) (channelAreas ++ [Area.cfg, .msix, .pba, .funcs, .ports, .lanes, .pegs, .served, .ring,
        .freed]) (.vfEnableClear h)
    ∧ Leaves (channelKinds ++ frameKinds ++ [RegKind.FUNC_STATE, .FUNC_FLR_DONE, .JP_CTRL, .JT_ERR_LOG, .JT_ERR_ADDR]) (channelAreas ++ [Area.cfg,
        .funcs, .ports, .lanes, .served, .freed]) (.flrComplete f)
    ∧ Leaves (frameKinds ++ wakeKinds ++ [RegKind.HP_LINK_STATUS, .SCHED_RSV_VC, .JP_CTRL]) (joistAreas ++ [Area.cfg, .hosts, .queues, .engines,
        .plumb, .served, .waking, .nextId]) (.windowRead f addr dws b1 b2 tag)
    ∧ Leaves (frameKinds ++ wakeKinds ++ [RegKind.HP_LINK_STATUS, .JP_CTRL]) (joistAreas ++ [Area.cfg, .hosts, .queues, .engines, .plumb, .served,
        .waking, .nextId]) (.windowWrite f addr data b1 b2 bad)
    ∧ Leaves channelKinds (channelAreas ++ [Area.cfg]) (.doorbell f off len be v)
    ∧ Leaves (wakeKinds ++ [RegKind.HP_LINK_STATUS]) [.ctrs, .cfg, .msix, .hosts, .plumb, .waking, .freeCtr, .sent, .freed] (.msixTableWrite f off bs)
    ∧ Leaves (channelKinds ++ frameKinds ++ [RegKind.JP_CTRL, .JT_ERR_LOG, .JT_ERR_ADDR]) (channelAreas ++ [Area.cfg, .ports, .lanes,
        .served]) (.ideIntegrityFailure h i kind))

/-- Fetching, entries, coalescing, engine and interrupt commands change the channel, the engine, the vectors and the link that carry
them; a command about one queue leaves every other queue as it was, and one about a Peg source every other source. -/
def Obligations.FramesOfQueuesAndInterrupts : Prop :=
  (∀ (q : QId) (e : EngId) (k : EngineFault) (g : GroupId) (c : CtxId) (r : RegionId) (n : Fin 14) (code : Fin 64) (inst : Nat) (x : EccResult),
    Leaves (wakeKinds ++ [RegKind.HP_LINK_STATUS, .HP_IDE_STATUS, .SCHED_MISS_LOG0, .SCHED_MISS_LOG1]) [.ctrs, .cfg, .hosts, .queues, .plumb,
        .served, .waking, .freeCtr, .sent] .descriptorFetch
    ∧ Leaves (channelKinds ++ [RegKind.SCHED_PORT_BUSY]) (channelAreas ++ [Area.cfg]) (.descriptorArrival q)
    ∧ (∀ y ∈ [Instr.completionEntryWrite q, .drainComplete e], Leaves channelKinds (channelAreas ++ [Area.cfg]) y)
    ∧ Leaves (channelKinds ++ frameKinds ++ [RegKind.TE_PROGRESS, .SCHED_PORT_BUSY, .JP_CTRL]) (channelAreas ++ [Area.cfg, .ports, .lanes,
        .served]) (.extensionArrival q)
    ∧ Leaves (channelKinds ++ frameKinds ++ [RegKind.TE_PROGRESS, .JP_CTRL]) (channelAreas ++ [Area.cfg, .ports, .lanes, .served]) (.engineGrant g)
    ∧ Leaves (channelKinds ++ frameKinds ++ [RegKind.TE_PROGRESS, .JP_CTRL]) (channelAreas ++ passing ++ [Area.cfg, .ports, .lanes,
        .served]) (.rateLimiterRelease e)
    ∧ Leaves (channelKinds ++ reportKinds ++ [RegKind.TE_FAULT]) (channelAreas ++ [Area.cfg, .brace]) (.engineFault e k)
    ∧ Leaves [.Q_STATE, .Q_RESUME, .Q_RESUME_OFS, .Q_RESUME_EXT, .Q_HELD_CMP, .TE_STATUS, .TE_RDBUF, .SCHED_MISS_LOG0,
        .SCHED_MISS_LOG1] (passing ++ [Area.ctrs, .hosts, .queues, .engines]) (.quiesceTimeout c)
    ∧ Leaves (channelKinds ++ [RegKind.TXN_STATUS, .TXN_STAGED, .FUNC_STATE]) (channelAreas ++ passing ++ [Area.cfg, .txns, .commits]) (.txnTimeout c)
    ∧ Leaves (wakeKinds ++ [RegKind.Q_COAL]) (passing ++ [Area.queues, .vecs, .plumb, .waking]) (.coalesceTimer q)
    ∧ Leaves wakeKinds [] (.clockGateIdle r)
    ∧ Leaves (channelKinds ++ frameKinds ++ reportKinds ++ [RegKind.LEDGER_ECC, .SEG_CTRL, .SCHED_RSV_VC]) (channelAreas ++ [Area.cfg, .ports,
        .lanes, .brace, .served, .damaged, .scrubAt]) (.ledgerScrub x)
    ∧ Leaves [] (passing ++ [Area.brace]) (.classifierWindowExpiry n code inst))
  ∧ (∀ f : FnId,
    Leaves [.PWR_STATE_MISC, .HP_LINK_STATUS, .HP_IDE_STATUS, .SCHED_MISS_LOG0, .SCHED_MISS_LOG1, .PEG_SRC_STATUS] [.ctrs, .cfg, .pba, .hosts,
        .queues, .pegs, .vecs, .served, .freeCtr, .sent, .freed] .pegDelivery
    ∧ Leaves (wakeKinds ++ [RegKind.HP_LINK_STATUS, .HP_IDE_STATUS, .SCHED_MISS_LOG0, .SCHED_MISS_LOG1, .PEG_SRC_STATUS]) [.ctrs, .cfg, .pba,
        .hosts, .queues, .pegs, .vecs, .plumb, .served, .waking, .freeCtr, .sent, .freed] (.heldMessageRelease f)
    ∧ Leaves [.SCRIBE_STATUS, .SCRIBE_SEQ, .SCRIBE_TIME, .SCRIBE_INFO] (passing ++ [Area.ctrs, .bankA, .bankB, .scribe]) .scribePeriodTimer
    ∧ Leaves [.SCRIBE_STATUS, .SCRIBE_INFO] [.bankA, .bankB, .scribe] .scribeCaptureComplete)
  ∧ (∀ (s t : State) (q : QId) (a : Agent),
    let rest : Prop := ∀ r, r ≠ q.val → t.queue r = s.queue r
      ∧ ∀ k ∈ [RegKind.Q_CFG, .Q_STATE, .Q_SQ_BASE, .Q_CQ_BASE, .Q_RING, .Q_SQ_IDX, .Q_CQ_IDX, .Q_COAL, .Q_RESUME, .Q_RESUME_OFS, .Q_RESUME_EXT,
        .Q_ERR_ADDR, .Q_ERR_INFO], t.word k r = s.word k r
    (∀ c ∈ [Instr.descriptorArrival q, .completionEntryWrite q, .coalesceTimer q], exec c s = .next t → rest)
    ∧ (s.Writable a .Q_CMD q → ∀ c ∈ [Instr.enable a q, .stop a q, .resume a q, .restart a q, .skip a q, .disable a q], exec c s = .next t → rest))
  ∧ (∀ (s t : State) (i : PegId) (a : Agent), s.Writable a .PEG_SRC_CMD i → ∀ c ∈ [Instr.raise a i, .eos a i], exec c s = .next t →
    ∀ j, j ≠ i.val → t.word .PEG_SRC_STATUS j = s.word .PEG_SRC_STATUS j ∧ t.peg j = s.peg j)
  ∧ (∀ (s t : State) (c : CtxId), s.Writable (ctxAgent c) .TXN_CTRL c → ∀ i ∈ [Instr.txnBegin c, .rollback c], exec i s = .next t →
    ∀ d, d ≠ c.val → t.txn d = s.txn d ∧ ∀ k ∈ [RegKind.TXN_STATUS, .TXN_STAGED, .TXN_FAIL_ADDR, .TXN_FAIL_INFO, .TXN_OPEN_TIME],
        t.word k d = s.word k d)

/-- Commands of lanes, links and Joist transactions change the ports and lanes, what they count and send, and what the loss of a port
ends; a lane's loss of lock leaves every other lane, and a sleep exchange every other port. -/
def Obligations.FramesOfJoistCommands : Prop :=
  (∀ (p : PortId) (l : LaneId) (v : VcId) (x : Fin 2) (here : Bool) (line : LineIn) (lines : List LineIn) (nulls : List Nat),
    Leaves [] [.timers, .ports] (.sleepNak p)
    ∧ Leaves [] (passing ++ [Area.ports]) (.pmReplyTimeout p)
    ∧ (∀ y ∈ [Instr.idleInterval p, .laneRelock p, .sleepIdle p], Leaves frameKinds (joistAreas ++ passing) y)
    ∧ (∀ y ∈ [Instr.autoLaneDrop p x, .sleepReq p, .sleepAck p], Leaves frameKinds joistAreas y)
    ∧ Leaves [.JP_STATUS, .JL_STATUS, .JL_SEED] (joistAreas ++ passing) (.dozeEntry p)
    ∧ Leaves [.JL_SEED] (passing ++ [Area.ctrs, .lanes, .freeCtr, .sent]) (.dozeKeepalive p)
    ∧ Leaves [.JL_STATUS] (passing ++ [Area.ctrs, .lanes]) (.keepaliveMissing l)
    ∧ Leaves [.JL_STATUS] [.ctrs, .timers, .lanes] (.cdrLockLoss l)
    ∧ Leaves frameKinds (joistAreas ++ passing) (.txMaskChange p)
    ∧ Leaves [.JP_CTRL, .JP_STATUS, .JL_STATUS, .BAY_CTRL] (passing ++ [Area.ports, .lanes]) (.downHoldExpiry p)
    ∧ Leaves (channelKinds ++ fallKinds ++ reportKinds ++ [RegKind.JT_ERR_LOG, .JT_ERR_ADDR]) (channelAreas ++ passing ++ [Area.cfg, .ports,
        .lanes, .brace, .plank, .served]) (.scarfMergerTimeout p)
    ∧ Leaves (wakeKinds ++ [RegKind.JP_CTRL, .JP_STATUS, .JL_STATUS]) [.timers, .ports, .lanes, .plumb, .waking] (.wakeToneDetected p)
    ∧ Leaves (frameKinds ++ wakeKinds ++ reportKinds ++ [RegKind.SCHED_RSV_VC, .JP_CTRL, .JT_SCARF]) (joistAreas ++ [Area.cfg, .queues, .engines,
        .brace, .plumb, .plank, .served, .waking]) (.periodBoundary l nulls)
    ∧ Leaves (frameKinds ++ [RegKind.SCHED_RSV_VC, .JT_SCARF]) (joistAreas ++ [Area.queues, .engines, .plank, .served]) (.activePeriodOpen p)
    ∧ Leaves (frameKinds ++ [RegKind.SCHED_RSV_VC]) (joistAreas ++ [Area.queues, .engines, .served]) (.reserveGrant p v)
    ∧ Leaves (frameKinds ++ wakeKinds ++ [RegKind.JP_CTRL]) (joistAreas ++ passing ++ [Area.queues, .engines, .plumb, .served,
        .waking]) (.timeFrame p)
    ∧ (∀ y ∈ [Instr.markerReceived l line, .data p lines, .idle p lines, .laneSet p lines], Leaves (channelKinds ++ fallKinds ++ reportKinds ++
        [RegKind.JP_CTRL, .JT_ERR_LOG, .JT_ERR_ADDR, .JL_PRBS]) (channelAreas ++ [Area.cfg, .ports, .lanes, .brace, .plank, .served]) y)
    ∧ (∀ y ∈ [Instr.laneSetComplianceTimeout p, .lockLossTimeout p, .wakeFail p, .trainTimeout p, .replayTimeout p], Leaves (channelKinds
        ++ fallKinds ++ reportKinds) (channelAreas ++ passing ++ [Area.cfg, .ports, .lanes, .brace, .plank, .served]) y)
    ∧ Leaves (channelKinds ++ fallKinds ++ reportKinds) (channelAreas ++ [Area.cfg, .ports, .lanes, .brace, .plank,
        .served]) (.localPresentChange p here)
    ∧ Leaves (frameKinds ++ wakeKinds ++ [RegKind.HP_LINK_STATUS, .HP_IDE_STATUS, .SCHED_RSV_VC, .JP_CTRL, .JT_ERR_LOG,
        .JT_ERR_ADDR]) (joistAreas ++ [Area.cfg, .hosts, .queues, .engines, .plumb, .served, .waking, .nextId]) (.rd p v)
    ∧ Leaves (frameKinds ++ wakeKinds ++ [RegKind.HP_LINK_STATUS, .HP_IDE_STATUS, .SCHED_RSV_VC, .JT_ERR_LOG, .JT_ERR_ADDR]) (joistAreas ++
        [Area.cfg, .hosts, .plumb, .waking, .nextId]) (.wr p v)
    ∧ Leaves (frameKinds ++ wakeKinds ++ [RegKind.SCHED_RSV_VC, .PEG_SRC_STATUS]) (joistAreas ++ [Area.pegs, .plumb, .waking]) (.peg p v))
  ∧ (∀ (s t : State) (l : LaneId), (exec (.keepaliveMissing l) s = .next t ∨ exec (.cdrLockLoss l) s = .next t) →
      ∀ m, m ≠ l.val → t.lane m = s.lane m ∧ t.word .JL_STATUS m = s.word .JL_STATUS m)
  ∧ (∀ (s t : State) (p : PortId), ∀ c ∈ [Instr.sleepAck p, .sleepNak p, .pmReplyTimeout p, .sleepReq p], exec c s = .next t →
      ∀ r, r ≠ p.val → t.port r = s.port r ∧ t.word .JP_STATUS r = s.word .JP_STATUS r)

/-! ### Rules of the whole module -/

/-- Whatever command comes: the hard trip is left only by a loss of mains; safe state and the state after a thermal shutdown only by
MOD_RESET_N, a loss of mains, the hard trip or a fault of the safe state; fuse shadows change only at mains power-up and where power
ends; entries leave and join the module's power-up sequence only by its own rows, its ends and its faults (R104, R105, R108, R406). -/
def Obligations.LatchesHold : Prop :=
  ∀ (c : Instr) (s t : State), exec c s = .next t →
    (s.phase = .tripped → c ≠ .mainsLoss → t.phase = .tripped)
    ∧ (s.phase = .safe → c ≠ .mainsLoss → (∀ n k, c ≠ .modResetAsserted n k) → t.phase = .safe ∨ t.phase = .tripped)
    ∧ (s.phase = .shutdown → c ≠ .mainsLoss → (∀ n k, c ≠ .modResetAsserted n k) → t.phase = .shutdown ∨ t.phase = .tripped ∨ t.phase = .safe)
    ∧ (s.phase = .off → (∀ f x k, c ≠ .mainsPowerUp f x k) → t.phase = .off)
    ∧ ((∀ f x k, c ≠ .mainsPowerUp f x k) → c ≠ .mainsLoss → (∀ n, c ≠ .standbyRecognised n) → c ≠ .rssWriteComplete → t.fuses = s.fuses)
    ∧ (s.isUp = true → t.isUp = true ∨ t.phase ∈ [.off, .heldReset, .scanning, .standby, .shutdown, .deferring, .safe, .tripped,
        .ending .standby, .ending .mainsOff])

/-- Before power and after mains power-up every register but those the fuses fill holds the reset value of the catalogue, every counter
is 0, and no queue, port or engine has anything in progress. Named here: values that the spec gives (R122, R131, R162, R200, R223, R252,
R294, R350, R351, R375, R390, R409, R454). -/
def Obligations.ResetValues : Prop :=
  let fresh (t : State) : Prop :=
    (∀ k, k ∉ [RegKind.FUSE_STATUS, .FUSE_SERIAL0, .FUSE_SERIAL1, .FUSE_MARGINAL] → ∀ i, t.word k i = k.reset i)
    ∧ (∀ o, t.ctr o = 0) ∧ t.devtime = 0 ∧ t.queues = [] ∧ t.ports = [] ∧ t.lanes = [] ∧ t.engines = [] ∧ t.txns = [] ∧ t.commits = []
    ∧ t.get GLOBAL_ID.vendor_id = 0x1F4B ∧ t.get GLOBAL_ID.device_id = 0x9600 ∧ t.get GLOBAL_CTRL.cfg_owner = 0
    ∧ t.get BRACE_CTRL.hist_notices = 1 ∧ t.get BRACE_TRESTLE.wdog_ms = 100 ∧ t.get SEC_STATUS.test_mode_closed = 1
    ∧ t.get SCHED_CTRL.horizon = 256 ∧ t.get SCHED_CTRL.admit_mode = 1 ∧ t.get PLUMB_CTRL.period_us = 100 ∧ t.get PLUMB_SHUT.temp = 1840
    ∧ (∀ c : CtxId, t.get TXN_TIMEOUT.timeout_ms c = 100 ∧ t.get TXN_STATUS.state c = 0)
    ∧ (∀ h : HostId, t.get HP_LINK_CTRL.max_rate h = 6 ∧ t.get HP_LINK_CTRL.max_width h = 16 ∧ t.get HP_PM_CTRL.l1_idle_us h = 10
        ∧ t.get HP_LTR.busy_ns h = 2000 ∧ t.get HP_LTR.idle_ns h = 1000000 ∧ t.get HP_TAG.vf_cap h = 256 ∧ t.get HP_PTM_CTRL.period_ms h = 10
        ∧ t.get HP_LINK_STATUS.pm_state h = 3)
    ∧ (∀ f : FnId, t.get FUNC_APERTURE.limit_log2 f = (if f.val < 4 then 34 else 28) ∧ t.get FUNC_STATE.gen f = 0)
    ∧ (∀ q : QId, t.get Q_CFG.eg q = q.val % 6 ∧ t.get Q_CFG.rate_cap q = 256 ∧ t.get Q_COAL.count q = 1 ∧ t.get Q_STATE.state q = 0
        ∧ t.get Q_STATE.gen q = 0)
    ∧ (∀ p : PortId, t.get PRT_BASE.base p = p.val * 2 ^ 28 ∧ t.get PRT_SIZE.pages_m1 p = 0x0FFFFFFF ∧ t.get JP_CTRL.enable p = 1
        ∧ t.get JP_CTRL.auto_lane_drop p = 1 ∧ t.get JP_CFG.rate p = 2 ∧ t.get JP_TIMER0.replay_100ns p = 30 ∧ t.get JP_TIMER0.resp_us p = 20
        ∧ t.get JP_TIMER1.replay_limit p = 8 ∧ t.get JP_SEQ.tx_acked p = 0xFFF ∧ t.get JP_STATUS.tx_mask p = 3 ∧ t.get JT_TIME_CTRL.period_us p = 1000)
    ∧ (∀ b : BayId, t.get BAY_STATUS.reset_out b = 15 ∧ t.get BAY_STATUS.state b = 3)
    ∧ (∀ i : PegId, t.get PEG_SRC_STATUS.last_target i = 3 ∧ t.get PEG_SRC_STATUS.state i = 0 ∧ t.get PEG_SRC_CTRL.enable i = 0)
  fresh State.reset ∧ State.reset.pending = [] ∧ State.reset.phase = .off
    ∧ ∀ (s : State) (fuses : List FuseRead) (temp : Byte) (slot : Fin 16), s.phase = .off → wfFuses fuses = true → s.ports = [] →
      s.pins.standby = false → Completes (.mainsPowerUp fuses temp slot) s fresh

/-- While auto_eos is 1, and for every source of PF0 reached through the compatibility view, delivery returns the source directly to
idle, and an end-of-service write is ignored (R380). -/
def Obligations.AutomaticEndOfService : Prop :=
  ∀ (s : State) (a : Agent) (i : PegId),
    (s.get PEG_SRC_CTRL.auto_eos i = 1 ∨ s.compatFn (s.get PEG_SRC_CTRL.owner i) = true) →
    (s.Writable a .PEG_SRC_CMD i → Completes (.eos a i) s (State.Only [] [] s))
    ∧ (∀ t, exec .pegDelivery s = .next t → s.get PEG_SRC_STATUS.state i = 1 →
        t.get PEG_SRC_STATUS.state i = 0 ∨ t.get PEG_SRC_STATUS.state i = 1)
    ∧ (s.isUp = true → s.vecs = [] → s.freed = [] → s.pendingPegs = [i.val] → s.pegDeliverable i = true → s.pegClear i = true →
        s.pegOpen (s.get PEG_SRC_CTRL.owner i) = true → Completes .pegDelivery s (fun t => t.get PEG_SRC_STATUS.state i = 0))

/-- An entry signals at once, whatever Q_COAL holds, when irq_now is set, its status is not SUCCESS, its halted flag is set, or it is
late: nothing then waits to be covered, no coalescing time runs, and a queue with cq_vec_en asks for its vector. The entry is that of
a descriptor that has ended, of a halt, or one that was held and may go by itself (R243, R249). -/
def Obligations.EntriesSignalAtOnce : Prop :=
  ∀ (s : State) (q : QId), s.isUp = true → s.canMaster (s.qOwner q) = true → s.cqFull q = false → s.EntryWay q →
    let d := s.queue q
    let late (x : Prefetched) (formed : Nat) : Prop := ∃ k, x.deadline = some k ∧ 64 * k < keyNs formed
    let signalled (t : State) : Prop := t.get Q_COAL.pending q = 0 ∧ t.armed (.coalesce q) = false
      ∧ (s.get Q_RING.cq_vec_en q = 1 → ∃ v ∈ t.vecs, v.q = q.val)
    (∀ (c : Current) (st : Nat), d.held = none → d.unacked = [] → d.cur = some c → d.haltDue = none → c.ended = some st →
      (irqNowOf c.d.words = true ∨ st ≠ 0 ∨ late c.d s.devtime) → Completes (.completionEntryWrite q) s signalled)
    ∧ (∀ (c : Current) (st : Nat), d.held = none → d.unacked = [] → d.cur = some c → d.haltDue = some st →
      Completes (.completionEntryWrite q) s signalled)
    ∧ (∀ e : Entry, d.held = some e → (e.slot = true ∨ s.get Q_STATE.state q ∈ [1, 2, 3]) → d.haltDue = none → (∀ c, d.cur = some c → c.ended = none) →
      (irqNowOf e.d.words = true ∨ e.status ≠ 0 ∨ e.halted = true ∨ late e.d e.formed) → Completes (.completionEntryWrite q) s signalled)
end

