-- ==== Sys2Proof/Laws/Bits.lean ====
section
/-! SUPPORT. Laws of bit fields: a field reads as it was loaded, and loading one leaves the others alone. -/

namespace Sys2Proof.Machine

theorem b2n_lt (b : Bool) : b2n b < 2 := by cases b <;> decide

theorem getLsbD_maskBits (lo len i : Nat) : (maskBits lo len).getLsbD i = (decide (i < 64) && (decide (lo ≤ i) && decide (i < lo + len))) := by
  unfold maskBits
  rw [BitVec.getLsbD_ofNat, Nat.testBit_shiftLeft, Nat.testBit_two_pow_sub_one]
  by_cases h : lo ≤ i
  · have : (i - lo < len) ↔ i < lo + len := by omega
    simp [h, this]
  · simp [h]

theorem getLsbD_setBits (w : Word) (lo len v i : Nat) :
    (setBits w lo len v).getLsbD i
      = if lo ≤ i ∧ i < lo + len then (decide (i < 64) && v.testBit (i - lo)) else w.getLsbD i := by
  unfold setBits
  rw [BitVec.getLsbD_or, BitVec.getLsbD_and, BitVec.getLsbD_not, getLsbD_maskBits, BitVec.getLsbD_ofNat, Nat.testBit_shiftLeft,
    Nat.testBit_mod_two_pow]
  by_cases h64 : i < 64
  · by_cases h1 : lo ≤ i
    · by_cases h2 : i < lo + len
      · have : i - lo < len := by omega
        simp [h1, h2, h64, this]
      · have : ¬ i - lo < len := by omega
        simp [h1, h2, h64, this]
    · simp [h1, h64]
  · simp [h64]
    intro _
    exact BitVec.getLsbD_of_ge _ _ (by omega)

/-- A field reads as it was loaded. -/
theorem getBits_setBits_self {w : Word} {lo len v : Nat} (h : lo + len ≤ 64) :
    getBits (setBits w lo len v) lo len = v % 2 ^ len := by
  apply Nat.eq_of_testBit_eq
  intro i
  unfold getBits
  rw [BitVec.testBit_toNat, BitVec.getLsbD_extractLsb', getLsbD_setBits, Nat.testBit_mod_two_pow]
  by_cases hi : i < len
  · have h1 : lo ≤ lo + i ∧ lo + i < lo + len := by omega
    have h2 : lo + i < 64 := by omega
    simp [hi, h1, h2]
  · simp [hi]

/-- Loading a field leaves a field beside it alone. -/
theorem getBits_setBits_other {w : Word} {lo len v lo' len' : Nat} (h : lo' + len' ≤ lo ∨ lo + len ≤ lo') :
    getBits (setBits w lo len v) lo' len' = getBits w lo' len' := by
  unfold getBits
  congr 1
  apply BitVec.eq_of_getLsbD_eq
  intro i hi
  rw [BitVec.getLsbD_extractLsb', BitVec.getLsbD_extractLsb', getLsbD_setBits]
  have : ¬ (lo ≤ lo' + i ∧ lo' + i < lo + len) := by omega
  rw [if_neg this]

theorem getBits_lt (w : Word) (lo len : Nat) : getBits w lo len < 2 ^ len := BitVec.isLt _

end Sys2Proof.Machine
end

