-- ==== Sys2Proof/Laws/Tables.lean ====
section
/-! SUPPORT. Laws of sparse tables: what a read gives after a write, and that every operation keeps the canonical
form. -/

namespace Sys2Proof.Machine

variable {α : Type}

/-! ### Reading after writing -/

theorem Tbl.get_erase_self (d : α) (t : Tbl α) (k : Nat) : Tbl.get d (Tbl.erase t k) k = d := by
  induction t with
  | nil => rfl
  | cons e t ih =>
    obtain ⟨k', v⟩ := e
    by_cases h : k = k' <;> simp [Tbl.erase, Tbl.get, h]
    · subst h; exact ih
    · exact ih

theorem Tbl.get_erase_ne (d : α) (t : Tbl α) {k j : Nat} (hj : j ≠ k) :
    Tbl.get d (Tbl.erase t k) j = Tbl.get d t j := by
  induction t with
  | nil => rfl
  | cons e t ih =>
    obtain ⟨k', v⟩ := e
    by_cases h : k = k'
    · subst h; simp [Tbl.erase, Tbl.get, hj, ih]
    · simp [Tbl.erase, Tbl.get, h, ih]

theorem Tbl.get_insert_self (d : α) (t : Tbl α) (k : Nat) (v : α) : Tbl.get d (Tbl.insert t k v) k = v := by
  induction t with
  | nil => simp [Tbl.insert, Tbl.get]
  | cons e t ih =>
    obtain ⟨k', v'⟩ := e
    unfold Tbl.insert
    split
    · simp [Tbl.get]
    · split
      · simp [Tbl.get]
      · rename_i h1 h2; simp [Tbl.get, h2, ih]

theorem Tbl.get_insert_ne (d : α) (t : Tbl α) {k j : Nat} (v : α) (hj : j ≠ k) :
    Tbl.get d (Tbl.insert t k v) j = Tbl.get d t j := by
  induction t with
  | nil => simp [Tbl.insert, Tbl.get, hj]
  | cons e t ih =>
    obtain ⟨k', v'⟩ := e
    unfold Tbl.insert
    split
    · simp [Tbl.get, hj]
    · split
      · rename_i h1 h2; subst h2; simp [Tbl.get, hj]
      · simp [Tbl.get, ih]

theorem Tbl.get_set_self [DecidableEq α] (d : α) (t : Tbl α) (k : Nat) (v : α) :
    Tbl.get d (Tbl.set d t k v) k = v := by
  unfold Tbl.set
  split
  · rename_i h; rw [Tbl.get_erase_self, h]
  · exact Tbl.get_insert_self d t k v

/-- A write to one key leaves the reads of the others alone, whatever the default they are read with. -/
theorem Tbl.get_set_ne [DecidableEq α] (d d' : α) (t : Tbl α) {k j : Nat} (v : α) (hj : j ≠ k) :
    Tbl.get d' (Tbl.set d t k v) j = Tbl.get d' t j := by
  unfold Tbl.set
  split
  · exact Tbl.get_erase_ne d' t hj
  · exact Tbl.get_insert_ne d' t v hj

/-- Dropping entries of other keys leaves the read of a key alone. -/
theorem Tbl.get_filter (d : α) (t : Tbl α) {p : Nat × α → Bool} {k : Nat} (hp : ∀ v, p (k, v) = true) :
    Tbl.get d (t.filter p) k = Tbl.get d t k := by
  induction t with
  | nil => rfl
  | cons e t ih =>
    obtain ⟨k', v⟩ := e
    by_cases h : k = k'
    · subst h; rw [List.filter_cons, if_pos (hp v)]; simp [Tbl.get]
    · rw [List.filter_cons]
      split <;> simp [Tbl.get, h, ih]

/-! ### The canonical form -/

theorem Tbl.risingFrom_mono {lo lo' : Nat} (h : lo' ≤ lo) {t : Tbl α} (ht : Tbl.risingFrom lo t = true) :
    Tbl.risingFrom lo' t = true := by
  cases t with
  | nil => rfl
  | cons e t =>
    simp only [Tbl.risingFrom, Bool.and_eq_true, decide_eq_true_eq] at ht ⊢
    exact ⟨by omega, ht.2⟩

theorem Tbl.risingFrom_filter (p : Nat × α → Bool) {lo : Nat} {t : Tbl α} (ht : Tbl.risingFrom lo t = true) :
    Tbl.risingFrom lo (t.filter p) = true := by
  induction t generalizing lo with
  | nil => rfl
  | cons e t ih =>
    simp only [Tbl.risingFrom, Bool.and_eq_true, decide_eq_true_eq] at ht
    rw [List.filter_cons]
    split
    · simp only [Tbl.risingFrom, Bool.and_eq_true, decide_eq_true_eq]; exact ⟨ht.1, ih ht.2⟩
    · exact Tbl.risingFrom_mono (by omega) (ih ht.2)

theorem Tbl.risingFrom_insert {lo k : Nat} (v : α) {t : Tbl α} (hk : lo ≤ k) (ht : Tbl.risingFrom lo t = true) :
    Tbl.risingFrom lo (Tbl.insert t k v) = true := by
  induction t generalizing lo with
  | nil => simp [Tbl.insert, Tbl.risingFrom, hk]
  | cons e t ih =>
    obtain ⟨k', v'⟩ := e
    simp only [Tbl.risingFrom, Bool.and_eq_true, decide_eq_true_eq] at ht
    unfold Tbl.insert
    split
    · simp only [Tbl.risingFrom, Bool.and_eq_true, decide_eq_true_eq]
      exact ⟨hk, by omega, ht.2⟩
    · split
      · rename_i h1 h2; subst h2
        simp only [Tbl.risingFrom, Bool.and_eq_true, decide_eq_true_eq]; exact ht
      · simp only [Tbl.risingFrom, Bool.and_eq_true, decide_eq_true_eq]
        exact ⟨ht.1, ih (by omega) ht.2⟩

theorem Tbl.risingFrom_erase {lo : Nat} (k : Nat) {t : Tbl α} (ht : Tbl.risingFrom lo t = true) :
    Tbl.risingFrom lo (Tbl.erase t k) = true := by
  induction t generalizing lo with
  | nil => rfl
  | cons e t ih =>
    obtain ⟨k', v'⟩ := e
    simp only [Tbl.risingFrom, Bool.and_eq_true, decide_eq_true_eq] at ht
    unfold Tbl.erase
    split
    · exact Tbl.risingFrom_mono (by omega) (ih ht.2)
    · simp only [Tbl.risingFrom, Bool.and_eq_true, decide_eq_true_eq]; exact ⟨ht.1, ih ht.2⟩

theorem Tbl.all_insert (p : Nat × α → Bool) {k : Nat} {v : α} {t : Tbl α} (hv : p (k, v) = true) (ht : t.all p = true) :
    (Tbl.insert t k v).all p = true := by
  induction t with
  | nil => simp [Tbl.insert, hv]
  | cons e t ih =>
    obtain ⟨k', v'⟩ := e
    simp only [List.all_cons, Bool.and_eq_true] at ht
    unfold Tbl.insert
    split
    · simp only [List.all_cons, Bool.and_eq_true]; exact ⟨hv, ht⟩
    · split
      · simp only [List.all_cons, Bool.and_eq_true]; exact ⟨hv, ht.2⟩
      · simp only [List.all_cons, Bool.and_eq_true]; exact ⟨ht.1, ih ht.2⟩

theorem Tbl.all_erase (p : Nat × α → Bool) {k : Nat} {t : Tbl α} (ht : t.all p = true) : (Tbl.erase t k).all p = true := by
  induction t with
  | nil => rfl
  | cons e t ih =>
    obtain ⟨k', v'⟩ := e
    simp only [List.all_cons, Bool.and_eq_true] at ht
    unfold Tbl.erase
    split
    · exact ih ht.2
    · simp only [List.all_cons, Bool.and_eq_true]; exact ⟨ht.1, ih ht.2⟩

theorem Tbl.all_set [DecidableEq α] (p : Nat × α → Bool) {d : α} {k : Nat} {v : α} {t : Tbl α}
    (hv : v ≠ d → p (k, v) = true) (ht : t.all p = true) : (Tbl.set d t k v).all p = true := by
  unfold Tbl.set
  split
  · exact Tbl.all_erase p ht
  · exact Tbl.all_insert p (hv ‹_›) ht

theorem List.all_filter_of {p q : α → Bool} {t : List α} (ht : t.all p = true) : (t.filter q).all p = true := by
  simp only [List.all_eq_true, List.mem_filter] at ht ⊢
  exact fun x hx => ht x hx.1

theorem Tbl.wf_set [DecidableEq α] {d : Nat → α} {t : Tbl α} (k : Nat) (v : α) (ht : Tbl.wf d t = true) :
    Tbl.wf d (Tbl.set (d k) t k v) = true := by
  simp only [Tbl.wf, Bool.and_eq_true] at ht ⊢
  refine ⟨?_, Tbl.all_set _ (fun h => by simpa using h) ht.2⟩
  unfold Tbl.set
  split
  · exact Tbl.risingFrom_erase k ht.1
  · exact Tbl.risingFrom_insert v (Nat.zero_le k) ht.1

theorem Tbl.wf_filter [DecidableEq α] {d : Nat → α} {t : Tbl α} (p : Nat × α → Bool) (ht : Tbl.wf d t = true) :
    Tbl.wf d (t.filter p) = true := by
  simp only [Tbl.wf, Bool.and_eq_true] at ht ⊢
  exact ⟨Tbl.risingFrom_filter p ht.1, List.all_filter_of ht.2⟩

theorem Tbl.wf_nil [DecidableEq α] (d : Nat → α) : Tbl.wf d [] = true := rfl

theorem Tbl.risingFrom_writeBytes {t : Tbl Byte} (a : Nat) (bs : List Byte) (ht : Tbl.risingFrom 0 t = true) :
    Tbl.risingFrom 0 (Tbl.writeBytes t a bs) = true := by
  induction bs generalizing t a with
  | nil => exact ht
  | cons b bs ih => exact ih _ (Tbl.risingFrom_insert b (Nat.zero_le a) ht)

/-! ### The retained-state store -/

/-- A write to the store keeps its canonical form. -/
theorem rssWrite_wf (m : Tbl Byte) (o : Nat) (bs : List Byte) (hm : Tbl.wf (fun _ => (0 : Byte)) m = true) :
    Tbl.wf (fun _ => (0 : Byte)) (rssWrite m o bs) = true := by
  induction bs generalizing m o with
  | nil => exact hm
  | cons b bs ih => exact ih _ _ (Tbl.wf_set (d := fun _ => (0 : Byte)) o b hm)

/-- A write to the store leaves every byte outside it as it was. -/
theorem rssWrite_frame (m : Tbl Byte) (o : Nat) (bs : List Byte) {a : Nat} (ha : a < o ∨ o + bs.length ≤ a) :
    Tbl.get 0 (rssWrite m o bs) a = Tbl.get 0 m a := by
  induction bs generalizing m o with
  | nil => rfl
  | cons b bs ih =>
    simp only [List.length_cons] at ha
    rw [rssWrite, ih _ _ (by omega), Tbl.get_set_ne _ _ _ _ (by omega)]

/-- A write to the store puts its bytes there. -/
theorem rssWrite_reads (m : Tbl Byte) (o : Nat) (bs : List Byte) {i : Nat} (hi : i < bs.length) :
    Tbl.get 0 (rssWrite m o bs) (o + i) = bs[i] := by
  induction bs generalizing m o i with
  | nil => simp at hi
  | cons b bs ih =>
    cases i with
    | zero => rw [rssWrite, rssWrite_frame _ _ _ (by omega)]; exact Tbl.get_set_self 0 m o b
    | succ i =>
      rw [rssWrite, show o + (i + 1) = (o + 1) + i by omega, ih]
      · simp
      · simpa using hi

end Sys2Proof.Machine
end

