-- ==== Sys2Proof/Laws/Follows.lean ====
section
/-! SUPPORT. The named operations keep soundness, the queue, the clock and the record of what left the module
(State.Follows). One lemma per operation, in the form that chains: what follows the start before the operation follows
it after. -/

namespace Sys2Proof.Machine

set_option linter.all false
set_option Elab.async false

/-! ### The relation -/

theorem State.Follows.refl (s : State) : s.Follows s :=
  ⟨Eq.refl _, Nat.le_refl _, Nat.le_refl _, List.suffix_refl _, id⟩

theorem State.Follows.trans {a b c : State} (h : a.Follows b) (k : b.Follows c) : a.Follows c :=
  ⟨k.pending.trans h.pending, Nat.le_trans h.clock k.clock, Nat.le_trans h.free k.free, h.sent.trans k.sent,
    fun i => k.inv (h.inv i)⟩

/-- An update that touches nothing the relation speaks of except by keeping soundness. -/
theorem State.Follows.same {s₀ s t : State} (h : s₀.Follows s) (hp : t.pending = s.pending) (hc : t.clock = s.clock)
    (hf : t.freeCtr = s.freeCtr) (hs : t.sent = s.sent) (hi : s.Inv → t.Inv) : s₀.Follows t :=
  ⟨hp.trans h.pending, hc ▸ h.clock, hf ▸ h.free, hs ▸ h.sent, fun i => hi (h.inv i)⟩

/-- An update of fields of which the relation says nothing. -/
theorem State.Follows.other {s₀ s : State} (h : s₀.Follows s) (phase : Phase) (slew : Int) (slewFrac : Nat) (pba commits : List Nat)
    (vecs : List VecReq) (freed : List FreedMsg) (brace : BraceDyn) (plumb : PlumbDyn) (scribe : ScribeDyn) (pins : PinDyn)
    (restore : Option Candidate) (plankGen plankTime : Nat) (planks : List Byte) (waking warm : List Nat) (damaged : List (RegKind × Nat))
    (scrubAt : Nat) (ring : List RingAccess) (nextId : Nat) :
    s₀.Follows { s with
      phase := phase, slew := slew, slewFrac := slewFrac, pba := pba, commits := commits, vecs := vecs, freed := freed, brace := brace
      plumb := plumb, scribe := scribe, pins := pins, restore := restore, plankGen := plankGen, plankTime := plankTime, planks := planks
      waking := waking, warm := warm, damaged := damaged, scrubAt := scrubAt, ring := ring, nextId := nextId } :=
  h.same rfl rfl rfl rfl (fun v => { v with })

/-! ### Chaining -/

theorem State.Follows.ite {s₀ a b : State} {c : Prop} [Decidable c] (ha : s₀.Follows a) (hb : s₀.Follows b) :
    s₀.Follows (if c then a else b) := by
  split <;> assumption

theorem State.Follows.each {α : Type} {s₀ s : State} (h : s₀.Follows s) (xs : List α) {g : State → α → State}
    (hg : ∀ t x, s₀.Follows t → s₀.Follows (g t x)) : s₀.Follows (s.each xs g) := by
  induction xs generalizing s with
  | nil => exact h
  | cons x xs ih => exact ih (hg s x h)

theorem optIte {s₀ : State} {a b : Option State} {c : Prop} [Decidable c] (ha : ∀ t, a = some t → s₀.Follows t)
    (hb : ∀ t, b = some t → s₀.Follows t) : ∀ t, (if c then a else b) = some t → s₀.Follows t := by
  split <;> assumption

theorem optSome {s₀ u : State} (h : s₀.Follows u) : ∀ t, some u = some t → s₀.Follows t :=
  fun _ e => Option.some.inj e ▸ h

theorem optMap {s₀ : State} {a : Option State} {g : State → State} (ha : ∀ u, a = some u → s₀.Follows u)
    (hg : ∀ u, s₀.Follows u → s₀.Follows (g u)) : ∀ t, a.map g = some t → s₀.Follows t := by
  intro t h
  obtain ⟨u, hu, rfl⟩ := Option.map_eq_some_iff.mp h
  exact hg u (ha u hu)

theorem optNone {s₀ : State} : ∀ t, none = some t → s₀.Follows t :=
  fun _ e => nomatch e

theorem State.Follows.foldl {α : Type} {s₀ s : State} {g : State → α → State}
    (hg : ∀ t x, s₀.Follows t → s₀.Follows (g t x)) (xs : List α) (h : s₀.Follows s) : s₀.Follows (xs.foldl g s) :=
  State.Follows.each h xs hg

theorem State.Follows.foldlPair {α β : Type} {s₀ : State} {g : State × β → α → State × β} {a : State × β}
    (hg : ∀ b x, s₀.Follows b.1 → s₀.Follows (g b x).1) (h : s₀.Follows a.1) (xs : List α) :
    s₀.Follows (xs.foldl g a).1 := by
  induction xs generalizing a with
  | nil => exact h
  | cons x xs ih => exact ih (hg a x h)

theorem foldl_keeps {α β : Type} (P : β → Prop) (g : β → α → β) (b : β) (xs : List α) (hb : P b)
    (hg : ∀ b x, P b → P (g b x)) : P (xs.foldl g b) := by
  induction xs generalizing b with
  | nil => exact hb
  | cons x xs ih => exact ih _ (hg b x hb)

theorem State.Follows.pair {α : Type} {s₀ s : State} {e : α × State} {a : α} (he : e = (a, s)) (h : s₀.Follows e.2) :
    s₀.Follows s := by
  subst he; exact h

theorem State.Follows.triple {α β : Type} {s₀ s : State} {e : α × β × State} {a : α} {b : β} (he : e = (a, b, s))
    (h : s₀.Follows e.2.2) : s₀.Follows s := by
  subst he; exact h

theorem State.Follows.left {α : Type} {s₀ s : State} {e : State × α} {a : α} (he : e = (s, a)) (h : s₀.Follows e.1) :
    s₀.Follows s := by
  subst he; exact h

/-! ### Registers -/

theorem kindOfCode_code (k : RegKind) : kindOfCode k.code = some k := by
  cases k <;> rfl

theorem RegKind.code_lt (k : RegKind) : k.code < 256 := by
  cases k <;> decide

theorem RegKind.key_code (k : RegKind) (i : Nat) : k.key i % 256 = k.code := by
  have := k.code_lt; unfold RegKind.key; omega

theorem RegKind.key_index (k : RegKind) (i : Nat) : k.key i / 256 = i := by
  have := k.code_lt; unfold RegKind.key; omega

theorem regDefault_key (k : RegKind) (i : Nat) : regDefault (k.key i) = k.reset i := by
  simp only [regDefault, RegKind.key_code, kindOfCode_code, RegKind.key_index]

theorem regNamed_key {k : RegKind} {i : Nat} (h : i < k.count) : regNamed (k.key i) = true := by
  simp only [regNamed, RegKind.key_code, kindOfCode_code, RegKind.key_index, decide_eq_true_eq]; exact h

theorem State.setWord_follows {s₀ s : State} (h : s₀.Follows s) (k : RegKind) (i : Nat) (w : Word) :
    s₀.Follows (s.setWord k i w) := by
  unfold State.setWord
  split
  · rename_i hi
    refine h.same rfl rfl rfl rfl (fun v => { v with regs := ?_, named := ?_ })
    · rw [← regDefault_key]; exact Tbl.wf_set _ w v.regs
    · exact Tbl.all_set _ (fun _ => regNamed_key hi) v.named
  · exact h

theorem State.put_follows {s₀ s : State} (h : s₀.Follows s) (F : Fld) (i v : Nat) : s₀.Follows (s.put F i v) :=
  State.setWord_follows h _ _ _

theorem State.flag_follows {s₀ s : State} (h : s₀.Follows s) (F : Fld) (i : Nat) (b : Bool) : s₀.Follows (s.flag F i b) :=
  State.setWord_follows h _ _ _

theorem State.setCfg_follows {s₀ s : State} (h : s₀.Follows s) (f o : Nat) (w : Dword) : s₀.Follows (s.setCfg f o w) :=
  h.same rfl rfl rfl rfl (fun v => { v with cfg := Tbl.wf_set _ w v.cfg })

theorem State.cfgPut_follows {s₀ s : State} (h : s₀.Follows s) (f o lo len v : Nat) : s₀.Follows (s.cfgPut f o lo len v) :=
  State.setCfg_follows h _ _ _

theorem State.setMsix_follows {s₀ s : State} (h : s₀.Follows s) (f e j : Nat) (w : Dword) :
    s₀.Follows (s.setMsix f e j w) :=
  h.same rfl rfl rfl rfl (fun v => { v with msix := Tbl.wf_set _ w v.msix })

theorem State.setCtr_follows {s₀ s : State} (h : s₀.Follows s) (o : Nat) (w : Word) : s₀.Follows (s.setCtr o w) :=
  h.same rfl rfl rfl rfl (fun v => { v with ctrs := Tbl.wf_set (d := fun _ => (0 : Word)) _ w v.ctrs })

theorem State.bumpBy_follows {s₀ s : State} (h : s₀.Follows s) (o n : Nat) : s₀.Follows (s.bumpBy o n) :=
  State.setCtr_follows h _ _

theorem State.bump_follows {s₀ s : State} (h : s₀.Follows s) (o : Nat) : s₀.Follows (s.bump o) :=
  State.bumpBy_follows h _ _

/-! ### Parts -/

theorem State.setHost_follows {s₀ s : State} (h : s₀.Follows s) (k : Nat) (d : HostDyn) : s₀.Follows (s.setHost k d) :=
  h.same rfl rfl rfl rfl (fun v => { v with hosts := Tbl.wf_set (d := fun _ => HostDyn.reset) _ d v.hosts })

theorem State.modHost_follows {s₀ s : State} (h : s₀.Follows s) (k : Nat) (g : HostDyn → HostDyn) : s₀.Follows (s.modHost k g) :=
  State.setHost_follows h _ _

theorem State.setFunc_follows {s₀ s : State} (h : s₀.Follows s) (k : Nat) (d : FnDyn) : s₀.Follows (s.setFunc k d) :=
  h.same rfl rfl rfl rfl (fun v => { v with funcs := Tbl.wf_set (d := fun _ => FnDyn.reset) _ d v.funcs })

theorem State.modFunc_follows {s₀ s : State} (h : s₀.Follows s) (k : Nat) (g : FnDyn → FnDyn) : s₀.Follows (s.modFunc k g) :=
  State.setFunc_follows h _ _

theorem State.setTxn_follows {s₀ s : State} (h : s₀.Follows s) (k : Nat) (d : TxnDyn) : s₀.Follows (s.setTxn k d) :=
  h.same rfl rfl rfl rfl (fun v => { v with txns := Tbl.wf_set (d := fun _ => TxnDyn.reset) _ d v.txns })

theorem State.modTxn_follows {s₀ s : State} (h : s₀.Follows s) (k : Nat) (g : TxnDyn → TxnDyn) : s₀.Follows (s.modTxn k g) :=
  State.setTxn_follows h _ _

theorem State.setPort_follows {s₀ s : State} (h : s₀.Follows s) (k : Nat) (d : PortDyn) : s₀.Follows (s.setPort k d) :=
  h.same rfl rfl rfl rfl (fun v => { v with ports := Tbl.wf_set (d := fun _ => PortDyn.reset) _ d v.ports })

theorem State.modPort_follows {s₀ s : State} (h : s₀.Follows s) (k : Nat) (g : PortDyn → PortDyn) : s₀.Follows (s.modPort k g) :=
  State.setPort_follows h _ _

theorem State.setLane_follows {s₀ s : State} (h : s₀.Follows s) (k : Nat) (d : LaneDyn) : s₀.Follows (s.setLane k d) :=
  h.same rfl rfl rfl rfl (fun v => { v with lanes := Tbl.wf_set (d := fun _ => LaneDyn.reset) _ d v.lanes })

theorem State.modLane_follows {s₀ s : State} (h : s₀.Follows s) (k : Nat) (g : LaneDyn → LaneDyn) : s₀.Follows (s.modLane k g) :=
  State.setLane_follows h _ _

theorem State.setQueue_follows {s₀ s : State} (h : s₀.Follows s) (k : Nat) (d : QDyn) : s₀.Follows (s.setQueue k d) :=
  h.same rfl rfl rfl rfl (fun v => { v with queues := Tbl.wf_set (d := fun _ => QDyn.reset) _ d v.queues })

theorem State.modQueue_follows {s₀ s : State} (h : s₀.Follows s) (k : Nat) (g : QDyn → QDyn) : s₀.Follows (s.modQueue k g) :=
  State.setQueue_follows h _ _

theorem State.setEng_follows {s₀ s : State} (h : s₀.Follows s) (k : Nat) (d : EngDyn) : s₀.Follows (s.setEng k d) :=
  h.same rfl rfl rfl rfl (fun v => { v with engines := Tbl.wf_set (d := fun _ => EngDyn.reset) _ d v.engines })

theorem State.modEng_follows {s₀ s : State} (h : s₀.Follows s) (k : Nat) (g : EngDyn → EngDyn) : s₀.Follows (s.modEng k g) :=
  State.setEng_follows h _ _

theorem State.setPeg_follows {s₀ s : State} (h : s₀.Follows s) (k : Nat) (d : PegDyn) : s₀.Follows (s.setPeg k d) :=
  h.same rfl rfl rfl rfl (fun v => { v with pegs := Tbl.wf_set (d := fun _ => PegDyn.reset) _ d v.pegs })

theorem State.modPeg_follows {s₀ s : State} (h : s₀.Follows s) (k : Nat) (g : PegDyn → PegDyn) : s₀.Follows (s.modPeg k g) :=
  State.setPeg_follows h _ _

theorem State.modBrace_follows {s₀ s : State} (h : s₀.Follows s) (g : BraceDyn → BraceDyn) : s₀.Follows (s.modBrace g) :=
  h.same rfl rfl rfl rfl (fun v => { v with })

theorem State.modPlumb_follows {s₀ s : State} (h : s₀.Follows s) (g : PlumbDyn → PlumbDyn) : s₀.Follows (s.modPlumb g) :=
  h.same rfl rfl rfl rfl (fun v => { v with })

theorem State.modPins_follows {s₀ s : State} (h : s₀.Follows s) (g : PinDyn → PinDyn) : s₀.Follows (s.modPins g) :=
  h.same rfl rfl rfl rfl (fun v => { v with })

theorem State.modRidge_follows {s₀ s : State} (h : s₀.Follows s) {g : RidgeDyn → RidgeDyn}
    (hg : ∀ r, Tbl.risingFrom 0 r.flash = true → Tbl.risingFrom 0 (g r).flash = true) : s₀.Follows (s.modRidge g) :=
  h.same rfl rfl rfl rfl (fun v => { v with flash := hg _ v.flash })

theorem State.modRss_follows {s₀ s : State} (h : s₀.Follows s) {g : RssDyn → RssDyn}
    (hb : ∀ r, Tbl.wf (fun _ => (0 : Byte)) r.bytes = true → Tbl.wf (fun _ => (0 : Byte)) (g r).bytes = true)
    (hw : ∀ r, r.wear ≤ 65536000000000 → (g r).wear ≤ 65536000000000) : s₀.Follows (s.modRss g) :=
  h.same rfl rfl rfl rfl (fun v => { v with store := hb _ v.store, wear := hw _ v.wear })

/-- A snapshot keeps the canonical form of its bank. -/
theorem copyCtrs_wf (p : Nat → Bool) (live : Tbl Word) {bank : Tbl Word} (h : Tbl.wf (fun _ => (0 : Word)) bank = true) :
    Tbl.wf (fun _ => (0 : Word)) (copyCtrs p live bank) = true :=
  foldl_keeps (fun t => Tbl.wf (fun _ => (0 : Word)) t = true) _ _ _ (Tbl.wf_filter _ h)
    (fun _ e k => Tbl.wf_set (d := fun _ => (0 : Word)) e.1 e.2 k)

/-! ### Outputs, free values, time -/

theorem State.emit_follows {s₀ s : State} (h : s₀.Follows s) (o : Output) : s₀.Follows (s.emit o) :=
  ⟨h.pending, h.clock, h.free, h.sent.trans (List.suffix_cons _ _), fun i => { h.inv i with }⟩

theorem State.freeBytes_follows {s₀ s : State} (h : s₀.Follows s) (n : Nat) : s₀.Follows (s.freeBytes n).2 :=
  ⟨h.pending, h.clock, Nat.le_trans h.free (Nat.le_add_right _ _), h.sent, fun i => { h.inv i with }⟩

theorem State.freeWord_follows {s₀ s : State} (h : s₀.Follows s) : s₀.Follows s.freeWord.2 :=
  ⟨h.pending, h.clock, Nat.le_trans h.free (Nat.le_add_right _ _), h.sent, fun i => { h.inv i with }⟩

theorem State.advance_follows {s₀ s : State} (h : s₀.Follows s) (dt : Nat) : s₀.Follows (s.advance dt) :=
  ⟨h.pending, Nat.le_trans h.clock (Nat.le_add_right _ _), h.free, h.sent, fun i =>
    { h.inv i with devtime := Nat.mod_lt _ (by decide), wear := Nat.min_le_left _ _ }⟩

theorem nodup_keys_filter {l : List (Timer × Nat)} (p : Timer × Nat → Bool) (h : (l.map (fun e => e.1)).Nodup) :
    ((l.filter p).map (fun e => e.1)).Nodup :=
  List.Sublist.nodup (List.Sublist.map _ List.filter_sublist) h

theorem State.disarm_follows {s₀ s : State} (h : s₀.Follows s) (t : Timer) : s₀.Follows (s.disarm t) :=
  h.same rfl rfl rfl rfl (fun v => { v with timers := nodup_keys_filter _ v.timers })

theorem State.disarmAll_follows {s₀ s : State} (h : s₀.Follows s) (p : Timer → Bool) : s₀.Follows (s.disarmAll p) :=
  h.same rfl rfl rfl rfl (fun v => { v with timers := nodup_keys_filter _ v.timers })

theorem State.arm_follows {s₀ s : State} (h : s₀.Follows s) (t : Timer) (dt : Nat) : s₀.Follows (s.arm t dt) :=
  h.same rfl rfl rfl rfl (fun v => { v with
    timers := by
      refine List.nodup_cons.mpr ⟨?_, nodup_keys_filter _ v.timers⟩
      simp [List.mem_filter] })

theorem State.armOnce_follows {s₀ s : State} (h : s₀.Follows s) (t : Timer) (dt : Nat) : s₀.Follows (s.armOnce t dt) :=
  State.Follows.ite h (State.arm_follows h t dt)

theorem State.expire_follows {s₀ s : State} (h : s₀.Follows s) (t : Timer) : s₀.Follows (s.expire t) := by
  unfold State.expire
  split
  · exact State.advance_follows (State.disarm_follows h t) _
  · exact h

theorem State.onExpiry_follows {s₀ s : State} (h : s₀.Follows s) (t : Timer) {g : State → State}
    (hg : ∀ u, s₀.Follows u → s₀.Follows (g u)) : s₀.Follows (s.onExpiry t g) :=
  State.Follows.ite (hg _ (State.expire_follows h t)) h

theorem State.setBayState_follows {s₀ s : State} (h : s₀.Follows s) (b v : Nat) : s₀.Follows (s.setBayState b v) :=
  State.flag_follows (State.put_follows (State.Follows.ite (State.setWord_follows h _ _ _) (State.setWord_follows h _ _ _)) _ _ _) _ _ _

theorem State.setEgState_follows {s₀ s : State} (h : s₀.Follows s) (g v : Nat) : s₀.Follows (s.setEgState g v) :=
  State.setWord_follows h _ _ _

theorem State.setTsState_follows {s₀ s : State} (h : s₀.Follows s) (t v : Nat) : s₀.Follows (s.setTsState t v) :=
  State.setWord_follows h _ _ _

theorem State.setHcrState_follows {s₀ s : State} (h : s₀.Follows s) (k v : Nat) : s₀.Follows (s.setHcrState k v) :=
  State.setWord_follows h _ _ _

theorem State.setHmdState_follows {s₀ s : State} (h : s₀.Follows s) (k v : Nat) : s₀.Follows (s.setHmdState k v) :=
  State.setWord_follows h _ _ _

theorem State.servedAt_follows {s₀ s : State} (h : s₀.Follows s) (point id : Nat) : s₀.Follows (s.servedAt point id) :=
  h.same rfl rfl rfl rfl (fun v => { v with served := Tbl.wf_set (d := fun _ => (0 : Nat)) point (id + 1) v.served })

end Sys2Proof.Machine
end

