-- ==== Sys2Proof/Laws/Within.lean ====
section
/-! SUPPORT. What the named operations leave alone (State.Within): the register kinds and areas an operation may touch
are the bits of a mask, kind k at bit k.code and area a at bit 160 + a.code; what the mask does not hold is as it was. -/

namespace Sys2Proof.Machine

set_option linter.all false
set_option Elab.async false

/-- Number of an area, in the order of the declaration. -/
def Area.code : Area → Nat
  | .pending => 0
  | .phase => 1
  | .clock => 2
  | .devtime => 3
  | .ctrs => 4
  | .bankA => 5
  | .bankB => 6
  | .cfg => 7
  | .msix => 8
  | .pba => 9
  | .fuses => 10
  | .timers => 11
  | .store => 12
  | .wear => 13
  | .hosts => 14
  | .funcs => 15
  | .txns => 16
  | .commits => 17
  | .ports => 18
  | .lanes => 19
  | .queues => 20
  | .engines => 21
  | .pegs => 22
  | .vecs => 23
  | .brace => 24
  | .ridge => 25
  | .plumb => 26
  | .scribe => 27
  | .pins => 28
  | .restore => 29
  | .plank => 30
  | .served => 31
  | .waking => 32
  | .warm => 33
  | .damaged => 34
  | .scrubAt => 35
  | .ring => 36
  | .nextId => 37
  | .freeCtr => 38
  | .sent => 39
  | .freed => 40

/-- Bit of a register kind in a mask. -/
def RegKind.bit (k : RegKind) : Nat := 2 ^ k.code

/-- Bit of an area in a mask. -/
def Area.bit (a : Area) : Nat := 2 ^ (160 + a.code)

/-- From `s` to `t` nothing changes but what the mask holds. -/
structure State.Within (m : Nat) (s t : State) : Prop where
  words : ∀ k : RegKind, m.testBit k.code = false → ∀ i, t.word k i = s.word k i
  areas : ∀ a : Area, m.testBit (160 + a.code) = false → Area.same s t a

/-! ### Masks -/

theorem maskSub {a b m : Nat} (h : a ||| b = b) (hm : b ||| m = m) : a ||| m = m := by
  rw [← hm, ← Nat.or_assoc, h]

theorem testBit_of_mask {i m : Nat} (hm : 2 ^ i ||| m = m) : m.testBit i = true := by
  rw [← hm, Nat.testBit_or, Nat.testBit_two_pow_self, Bool.true_or]

theorem mask_kind {k : RegKind} {m : Nat} (hm : k.bit ||| m = m) : m.testBit k.code = true := testBit_of_mask hm

theorem mask_area {a : Area} {m : Nat} (hm : a.bit ||| m = m) : m.testBit (160 + a.code) = true := testBit_of_mask hm

theorem RegKind.code_inj {k k' : RegKind} (h : k.code = k'.code) : k = k' := by
  have := kindOfCode_code k
  rw [h, kindOfCode_code] at this
  exact (Option.some.inj this).symm

theorem RegKind.key_ne {k k' : RegKind} {i j : Nat} (h : k ≠ k') : k.key i ≠ k'.key j := by
  intro e
  have := congrArg (· % 256) e
  simp only [RegKind.key_code] at this
  exact h (RegKind.code_inj this)

/-- Every register kind is in the mask of all of them. -/
theorem RegKind.bit_all (k : RegKind) : k.bit ||| 0x3fffffffffffffffffffffffffffffffffffff = 0x3fffffffffffffffffffffffffffffffffffff := by
  cases k <;> rfl

/-! ### Chaining -/

theorem State.Within.refl (m : Nat) (s : State) : State.Within m s s :=
  ⟨fun _ _ _ => rfl, fun a _ => by cases a <;> simp [Area.same]⟩

theorem Area.same_trans {a b c : State} (x : Area) (h : Area.same a b x) (k : Area.same b c x) : Area.same a c x := by
  cases x <;> simp_all [Area.same]

theorem State.Within.trans {m : Nat} {a b c : State} (h : State.Within m a b) (k : State.Within m b c) :
    State.Within m a c :=
  ⟨fun x hx i => (k.words x hx i).trans (h.words x hx i), fun x hx => Area.same_trans x (h.areas x hx) (k.areas x hx)⟩

theorem State.Within.ite {m : Nat} {s₀ a b : State} {c : Prop} [Decidable c] (ha : State.Within m s₀ a)
    (hb : State.Within m s₀ b) : State.Within m s₀ (if c then a else b) := by
  split <;> assumption

theorem State.Within.each {α : Type} {m : Nat} {s₀ s : State} (h : State.Within m s₀ s) (xs : List α)
    {g : State → α → State} (hg : ∀ t x, State.Within m s₀ t → State.Within m s₀ (g t x)) :
    State.Within m s₀ (s.each xs g) := by
  induction xs generalizing s with
  | nil => exact h
  | cons x xs ih => exact ih (hg s x h)

theorem State.Within.eachMem {α : Type} {m : Nat} {s₀ s : State} (h : State.Within m s₀ s) (xs : List α)
    {g : State → α → State} (hg : ∀ t x, x ∈ xs → State.Within m s₀ t → State.Within m s₀ (g t x)) :
    State.Within m s₀ (s.each xs g) := by
  induction xs generalizing s with
  | nil => exact h
  | cons x xs ih =>
    exact ih (hg s x (List.mem_cons_self ..) h) (fun t y hy => hg t y (List.mem_cons_of_mem _ hy))

theorem State.Within.foldl {α : Type} {m : Nat} {s₀ s : State} {g : State → α → State}
    (hg : ∀ t x, State.Within m s₀ t → State.Within m s₀ (g t x)) (xs : List α) (h : State.Within m s₀ s) :
    State.Within m s₀ (xs.foldl g s) :=
  State.Within.each h xs hg

theorem State.Within.foldlPair {α β : Type} {m : Nat} {s₀ : State} {g : State × β → α → State × β} {a : State × β}
    (hg : ∀ b x, State.Within m s₀ b.1 → State.Within m s₀ (g b x).1) (h : State.Within m s₀ a.1) (xs : List α) :
    State.Within m s₀ (xs.foldl g a).1 := by
  induction xs generalizing a with
  | nil => exact h
  | cons x xs ih => exact ih (hg a x h)

theorem State.Within.pair {α : Type} {m : Nat} {s₀ s : State} {e : α × State} {a : α} (he : e = (a, s))
    (h : State.Within m s₀ e.2) : State.Within m s₀ s := by
  subst he; exact h

theorem State.Within.triple {α β : Type} {m : Nat} {s₀ s : State} {e : α × β × State} {a : α} {b : β}
    (he : e = (a, b, s)) (h : State.Within m s₀ e.2.2) : State.Within m s₀ s := by
  subst he; exact h

theorem State.Within.left {α : Type} {m : Nat} {s₀ s : State} {e : State × α} {a : α} (he : e = (s, a))
    (h : State.Within m s₀ e.1) : State.Within m s₀ s := by
  subst he; exact h

theorem withinIte {m : Nat} {s₀ : State} {a b : Option State} {c : Prop} [Decidable c]
    (ha : ∀ t, a = some t → State.Within m s₀ t) (hb : ∀ t, b = some t → State.Within m s₀ t) :
    ∀ t, (if c then a else b) = some t → State.Within m s₀ t := by
  split <;> assumption

theorem withinSome {m : Nat} {s₀ u : State} (h : State.Within m s₀ u) : ∀ t, some u = some t → State.Within m s₀ t :=
  fun _ e => Option.some.inj e ▸ h

theorem withinMap {m : Nat} {s₀ : State} {a : Option State} {g : State → State} (ha : ∀ u, a = some u → State.Within m s₀ u)
    (hg : ∀ u, State.Within m s₀ u → State.Within m s₀ (g u)) : ∀ t, a.map g = some t → State.Within m s₀ t := by
  intro t h
  obtain ⟨u, hu, rfl⟩ := Option.map_eq_some_iff.mp h
  exact hg u (ha u hu)

theorem withinNone {m : Nat} {s₀ : State} : ∀ t, none = some t → State.Within m s₀ t :=
  fun _ e => nomatch e

/-! ### Registers -/

theorem State.setWord_word_self {s : State} {k : RegKind} {i : Nat} (h : i < k.count) (w : Word) :
    (s.setWord k i w).word k i = w := by
  unfold State.setWord State.word
  rw [if_pos h]
  exact Tbl.get_set_self _ _ _ _

theorem State.setWord_word_kind {s : State} {k k' : RegKind} (h : k' ≠ k) (i j : Nat) (w : Word) :
    (s.setWord k i w).word k' j = s.word k' j := by
  unfold State.setWord State.word
  split
  · exact Tbl.get_set_ne _ _ _ _ (RegKind.key_ne h)
  · rfl

theorem State.setWord_word_index {s : State} {k : RegKind} {i j : Nat} (h : j ≠ i) (w : Word) :
    (s.setWord k i w).word k j = s.word k j := by
  unfold State.setWord State.word
  split
  · refine Tbl.get_set_ne _ _ _ _ (fun e => h ?_)
    have := congrArg (· / 256) e
    simpa only [RegKind.key_index] using this
  · rfl

theorem State.setWord_areas {s : State} (k : RegKind) (i : Nat) (w : Word) (a : Area) :
    Area.same s (s.setWord k i w) a := by
  unfold State.setWord
  split <;> cases a <;> simp [Area.same]

theorem State.setWord_within {m : Nat} {s₀ s : State} (h : State.Within m s₀ s) (k : RegKind) (i : Nat) (w : Word)
    (hk : k.bit ||| m = m) : State.Within m s₀ (s.setWord k i w) :=
  h.trans ⟨fun x hx j => State.setWord_word_kind (fun e => by subst e; rw [mask_kind hk] at hx; cases hx) i j w,
    fun a _ => State.setWord_areas k i w a⟩

theorem State.put_within {m : Nat} {s₀ s : State} (h : State.Within m s₀ s) (F : Fld) (i v : Nat)
    (hk : F.reg.bit ||| m = m) : State.Within m s₀ (s.put F i v) :=
  State.setWord_within h _ _ _ hk

theorem State.flag_within {m : Nat} {s₀ s : State} (h : State.Within m s₀ s) (F : Fld) (i : Nat) (b : Bool)
    (hk : F.reg.bit ||| m = m) : State.Within m s₀ (s.flag F i b) :=
  State.setWord_within h _ _ _ hk

/-! ### Areas -/

theorem State.setCfg_within {m : Nat} {s₀ s : State} (h : State.Within m s₀ s) (f o : Nat) (w : Dword)
    (hcfg : Area.bit .cfg ||| m = m) : State.Within m s₀ (s.setCfg f o w) :=
  h.trans ⟨fun _ _ _ => rfl, fun a ha => by
    cases a <;> first | rfl | (simp [Area.same, State.setCfg]; done) | (rw [mask_area ‹_›] at ha; cases ha)⟩

theorem State.setMsix_within {m : Nat} {s₀ s : State} (h : State.Within m s₀ s) (f e j : Nat) (w : Dword)
    (hmsix : Area.bit .msix ||| m = m) : State.Within m s₀ (s.setMsix f e j w) :=
  h.trans ⟨fun _ _ _ => rfl, fun a ha => by
    cases a <;> first | rfl | (simp [Area.same, State.setMsix]; done) | (rw [mask_area ‹_›] at ha; cases ha)⟩

theorem State.setCtr_within {m : Nat} {s₀ s : State} (h : State.Within m s₀ s) (o : Nat) (w : Word)
    (hctrs : Area.bit .ctrs ||| m = m) : State.Within m s₀ (s.setCtr o w) :=
  h.trans ⟨fun _ _ _ => rfl, fun a ha => by
    cases a <;> first | rfl | (simp [Area.same, State.setCtr]; done) | (rw [mask_area ‹_›] at ha; cases ha)⟩

theorem State.setHost_within {m : Nat} {s₀ s : State} (h : State.Within m s₀ s) (k : Nat) (d : HostDyn)
    (hhosts : Area.bit .hosts ||| m = m) : State.Within m s₀ (s.setHost k d) :=
  h.trans ⟨fun _ _ _ => rfl, fun a ha => by
    cases a <;> first | rfl | (simp [Area.same, State.setHost]; done) | (rw [mask_area ‹_›] at ha; cases ha)⟩

theorem State.setFunc_within {m : Nat} {s₀ s : State} (h : State.Within m s₀ s) (k : Nat) (d : FnDyn)
    (hfuncs : Area.bit .funcs ||| m = m) : State.Within m s₀ (s.setFunc k d) :=
  h.trans ⟨fun _ _ _ => rfl, fun a ha => by
    cases a <;> first | rfl | (simp [Area.same, State.setFunc]; done) | (rw [mask_area ‹_›] at ha; cases ha)⟩

theorem State.setTxn_within {m : Nat} {s₀ s : State} (h : State.Within m s₀ s) (k : Nat) (d : TxnDyn)
    (htxns : Area.bit .txns ||| m = m) : State.Within m s₀ (s.setTxn k d) :=
  h.trans ⟨fun _ _ _ => rfl, fun a ha => by
    cases a <;> first | rfl | (simp [Area.same, State.setTxn]; done) | (rw [mask_area ‹_›] at ha; cases ha)⟩

theorem State.setPort_within {m : Nat} {s₀ s : State} (h : State.Within m s₀ s) (k : Nat) (d : PortDyn)
    (hports : Area.bit .ports ||| m = m) : State.Within m s₀ (s.setPort k d) :=
  h.trans ⟨fun _ _ _ => rfl, fun a ha => by
    cases a <;> first | rfl | (simp [Area.same, State.setPort]; done) | (rw [mask_area ‹_›] at ha; cases ha)⟩

theorem State.setLane_within {m : Nat} {s₀ s : State} (h : State.Within m s₀ s) (k : Nat) (d : LaneDyn)
    (hlanes : Area.bit .lanes ||| m = m) : State.Within m s₀ (s.setLane k d) :=
  h.trans ⟨fun _ _ _ => rfl, fun a ha => by
    cases a <;> first | rfl | (simp [Area.same, State.setLane]; done) | (rw [mask_area ‹_›] at ha; cases ha)⟩

theorem State.setQueue_within {m : Nat} {s₀ s : State} (h : State.Within m s₀ s) (k : Nat) (d : QDyn)
    (hqueues : Area.bit .queues ||| m = m) : State.Within m s₀ (s.setQueue k d) :=
  h.trans ⟨fun _ _ _ => rfl, fun a ha => by
    cases a <;> first | rfl | (simp [Area.same, State.setQueue]; done) | (rw [mask_area ‹_›] at ha; cases ha)⟩

theorem State.setEng_within {m : Nat} {s₀ s : State} (h : State.Within m s₀ s) (k : Nat) (d : EngDyn)
    (hengines : Area.bit .engines ||| m = m) : State.Within m s₀ (s.setEng k d) :=
  h.trans ⟨fun _ _ _ => rfl, fun a ha => by
    cases a <;> first | rfl | (simp [Area.same, State.setEng]; done) | (rw [mask_area ‹_›] at ha; cases ha)⟩

theorem State.setPeg_within {m : Nat} {s₀ s : State} (h : State.Within m s₀ s) (k : Nat) (d : PegDyn)
    (hpegs : Area.bit .pegs ||| m = m) : State.Within m s₀ (s.setPeg k d) :=
  h.trans ⟨fun _ _ _ => rfl, fun a ha => by
    cases a <;> first | rfl | (simp [Area.same, State.setPeg]; done) | (rw [mask_area ‹_›] at ha; cases ha)⟩

theorem State.modBrace_within {m : Nat} {s₀ s : State} (h : State.Within m s₀ s) (g : BraceDyn → BraceDyn)
    (hbrace : Area.bit .brace ||| m = m) : State.Within m s₀ (s.modBrace g) :=
  h.trans ⟨fun _ _ _ => rfl, fun a ha => by
    cases a <;> first | rfl | (simp [Area.same, State.modBrace]; done) | (rw [mask_area ‹_›] at ha; cases ha)⟩

theorem State.modPlumb_within {m : Nat} {s₀ s : State} (h : State.Within m s₀ s) (g : PlumbDyn → PlumbDyn)
    (hplumb : Area.bit .plumb ||| m = m) : State.Within m s₀ (s.modPlumb g) :=
  h.trans ⟨fun _ _ _ => rfl, fun a ha => by
    cases a <;> first | rfl | (simp [Area.same, State.modPlumb]; done) | (rw [mask_area ‹_›] at ha; cases ha)⟩

theorem State.modPins_within {m : Nat} {s₀ s : State} (h : State.Within m s₀ s) (g : PinDyn → PinDyn)
    (hpins : Area.bit .pins ||| m = m) : State.Within m s₀ (s.modPins g) :=
  h.trans ⟨fun _ _ _ => rfl, fun a ha => by
    cases a <;> first | rfl | (simp [Area.same, State.modPins]; done) | (rw [mask_area ‹_›] at ha; cases ha)⟩

theorem State.modRidge_within {m : Nat} {s₀ s : State} (h : State.Within m s₀ s) (g : RidgeDyn → RidgeDyn)
    (hridge : Area.bit .ridge ||| m = m) : State.Within m s₀ (s.modRidge g) :=
  h.trans ⟨fun _ _ _ => rfl, fun a ha => by
    cases a <;> first | rfl | (simp [Area.same, State.modRidge]; done) | (rw [mask_area ‹_›] at ha; cases ha)⟩

theorem State.modRss_within {m : Nat} {s₀ s : State} (h : State.Within m s₀ s) (g : RssDyn → RssDyn)
    (hstore : Area.bit .store ||| m = m) (hwear : Area.bit .wear ||| m = m) : State.Within m s₀ (s.modRss g) :=
  h.trans ⟨fun _ _ _ => rfl, fun a ha => by
    cases a <;> first | rfl | (simp [Area.same, State.modRss]; done) | (rw [mask_area ‹_›] at ha; cases ha)⟩

theorem State.emit_within {m : Nat} {s₀ s : State} (h : State.Within m s₀ s) (o : Output)
    (hsent : Area.bit .sent ||| m = m) : State.Within m s₀ (s.emit o) :=
  h.trans ⟨fun _ _ _ => rfl, fun a ha => by
    cases a <;> first | rfl | (simp [Area.same, State.emit]; done) | (rw [mask_area ‹_›] at ha; cases ha)⟩

theorem State.disarm_within {m : Nat} {s₀ s : State} (h : State.Within m s₀ s) (t : Timer)
    (htimers : Area.bit .timers ||| m = m) : State.Within m s₀ (s.disarm t) :=
  h.trans ⟨fun _ _ _ => rfl, fun a ha => by
    cases a <;> first | rfl | (simp [Area.same, State.disarm]; done) | (rw [mask_area ‹_›] at ha; cases ha)⟩

theorem State.disarmAll_within {m : Nat} {s₀ s : State} (h : State.Within m s₀ s) (p : Timer → Bool)
    (htimers : Area.bit .timers ||| m = m) : State.Within m s₀ (s.disarmAll p) :=
  h.trans ⟨fun _ _ _ => rfl, fun a ha => by
    cases a <;> first | rfl | (simp [Area.same, State.disarmAll]; done) | (rw [mask_area ‹_›] at ha; cases ha)⟩

theorem State.arm_within {m : Nat} {s₀ s : State} (h : State.Within m s₀ s) (t : Timer) (dt : Nat)
    (htimers : Area.bit .timers ||| m = m) : State.Within m s₀ (s.arm t dt) :=
  h.trans ⟨fun _ _ _ => rfl, fun a ha => by
    cases a <;> first | rfl | (simp [Area.same, State.arm]; done) | (rw [mask_area ‹_›] at ha; cases ha)⟩

theorem State.advance_within {m : Nat} {s₀ s : State} (h : State.Within m s₀ s) (dt : Nat)
    (hclock : Area.bit .clock ||| m = m) (hdevtime : Area.bit .devtime ||| m = m) (hwear : Area.bit .wear ||| m = m) : State.Within m s₀ (s.advance dt) :=
  h.trans ⟨fun _ _ _ => rfl, fun a ha => by
    cases a <;> first | rfl | (simp [Area.same, State.advance]; done) | (rw [mask_area ‹_›] at ha; cases ha)⟩

theorem State.servedAt_within {m : Nat} {s₀ s : State} (h : State.Within m s₀ s) (point id : Nat)
    (hserved : Area.bit .served ||| m = m) : State.Within m s₀ (s.servedAt point id) :=
  h.trans ⟨fun _ _ _ => rfl, fun a ha => by
    cases a <;> first | rfl | (simp [Area.same, State.servedAt]; done) | (rw [mask_area ‹_›] at ha; cases ha)⟩

/-- An update of areas that are single fields: each is as it was, or in the mask. -/
theorem State.Within.other {m : Nat} {s₀ s : State} (h : State.Within m s₀ s) (phase : Phase) (slew : Int) (slewFrac : Nat) (pba : List Nat) (commits : List Nat) (vecs : List VecReq) (freed : List FreedMsg) (scribe : ScribeDyn) (pins : PinDyn) (restore : Option Candidate) (waking : List Nat) (warm : List Nat) (damaged : List (RegKind × Nat)) (scrubAt : Nat) (ring : List RingAccess) (nextId : Nat) (fuses : Tbl Word) (msix : Tbl Dword) (bankA : Tbl Word) (bankB : Tbl Word) (brace : BraceDyn) (plumb : PlumbDyn) (plankGen plankTime : Nat) (planks : List Byte)
    (hphase : phase = s.phase ∨ Area.bit .phase ||| m = m)
    (hslew : (slew = s.slew ∧ slewFrac = s.slewFrac) ∨ Area.bit .devtime ||| m = m)
    (hpba : pba = s.pba ∨ Area.bit .pba ||| m = m)
    (hcommits : commits = s.commits ∨ Area.bit .commits ||| m = m)
    (hvecs : vecs = s.vecs ∨ Area.bit .vecs ||| m = m)
    (hfreed : freed = s.freed ∨ Area.bit .freed ||| m = m)
    (hscribe : scribe = s.scribe ∨ Area.bit .scribe ||| m = m)
    (hpins : pins = s.pins ∨ Area.bit .pins ||| m = m)
    (hrestore : restore = s.restore ∨ Area.bit .restore ||| m = m)
    (hwaking : waking = s.waking ∨ Area.bit .waking ||| m = m)
    (hwarm : warm = s.warm ∨ Area.bit .warm ||| m = m)
    (hdamaged : damaged = s.damaged ∨ Area.bit .damaged ||| m = m)
    (hscrubAt : scrubAt = s.scrubAt ∨ Area.bit .scrubAt ||| m = m)
    (hring : ring = s.ring ∨ Area.bit .ring ||| m = m)
    (hnextId : nextId = s.nextId ∨ Area.bit .nextId ||| m = m)
    (hfuses : fuses = s.fuses ∨ Area.bit .fuses ||| m = m)
    (hmsix : msix = s.msix ∨ Area.bit .msix ||| m = m)
    (hbankA : bankA = s.bankA ∨ Area.bit .bankA ||| m = m)
    (hbankB : bankB = s.bankB ∨ Area.bit .bankB ||| m = m)
    (hbrace : brace = s.brace ∨ Area.bit .brace ||| m = m)
    (hplumb : plumb = s.plumb ∨ Area.bit .plumb ||| m = m)
    (hplank : (plankGen = s.plankGen ∧ plankTime = s.plankTime ∧ planks = s.planks) ∨ Area.bit .plank ||| m = m) :
    State.Within m s₀ { s with
      phase := phase, slew := slew, slewFrac := slewFrac, pba := pba, commits := commits, vecs := vecs, freed := freed, scribe := scribe, pins := pins, restore := restore, waking := waking, warm := warm
      damaged := damaged, scrubAt := scrubAt, ring := ring, nextId := nextId, fuses := fuses, msix := msix, bankA := bankA, bankB := bankB, brace := brace, plumb := plumb
      plankGen := plankGen, plankTime := plankTime, planks := planks } :=
  h.trans ⟨fun _ _ _ => rfl, fun a ha => by
    cases a <;> first
      | rfl | exact ⟨rfl, rfl, rfl⟩ | exact ⟨rfl, rfl, rfl, rfl⟩
      | exact ⟨rfl, hslew.resolve_right (fun e => by rw [mask_area e] at ha; cases ha)⟩
      | exact hphase.resolve_right (fun e => by rw [mask_area e] at ha; cases ha)
      | exact hpba.resolve_right (fun e => by rw [mask_area e] at ha; cases ha)
      | exact hcommits.resolve_right (fun e => by rw [mask_area e] at ha; cases ha)
      | exact hvecs.resolve_right (fun e => by rw [mask_area e] at ha; cases ha)
      | exact hfreed.resolve_right (fun e => by rw [mask_area e] at ha; cases ha)
      | exact hscribe.resolve_right (fun e => by rw [mask_area e] at ha; cases ha)
      | exact hpins.resolve_right (fun e => by rw [mask_area e] at ha; cases ha)
      | exact hrestore.resolve_right (fun e => by rw [mask_area e] at ha; cases ha)
      | exact hwaking.resolve_right (fun e => by rw [mask_area e] at ha; cases ha)
      | exact hwarm.resolve_right (fun e => by rw [mask_area e] at ha; cases ha)
      | exact hdamaged.resolve_right (fun e => by rw [mask_area e] at ha; cases ha)
      | exact hscrubAt.resolve_right (fun e => by rw [mask_area e] at ha; cases ha)
      | exact hring.resolve_right (fun e => by rw [mask_area e] at ha; cases ha)
      | exact hnextId.resolve_right (fun e => by rw [mask_area e] at ha; cases ha)
      | exact hfuses.resolve_right (fun e => by rw [mask_area e] at ha; cases ha)
      | exact hmsix.resolve_right (fun e => by rw [mask_area e] at ha; cases ha)
      | exact hbankA.resolve_right (fun e => by rw [mask_area e] at ha; cases ha)
      | exact hbankB.resolve_right (fun e => by rw [mask_area e] at ha; cases ha)
      | exact hbrace.resolve_right (fun e => by rw [mask_area e] at ha; cases ha)
      | exact hplumb.resolve_right (fun e => by rw [mask_area e] at ha; cases ha)
      | exact hplank.resolve_right (fun e => by rw [mask_area e] at ha; cases ha)⟩

theorem State.freeBytes_within {m : Nat} {s₀ s : State} (h : State.Within m s₀ s) (n : Nat)
    (hfree : Area.bit .freeCtr ||| m = m) : State.Within m s₀ (s.freeBytes n).2 :=
  h.trans ⟨fun _ _ _ => rfl, fun a ha => by
    cases a <;> first | rfl | (simp [Area.same, State.freeBytes]; done) | (rw [mask_area ‹_›] at ha; cases ha)⟩

theorem State.freeWord_within {m : Nat} {s₀ s : State} (h : State.Within m s₀ s) (hfree : Area.bit .freeCtr ||| m = m) :
    State.Within m s₀ s.freeWord.2 :=
  h.trans ⟨fun _ _ _ => rfl, fun a ha => by
    cases a <;> first | rfl | (simp [Area.same, State.freeWord]; done) | (rw [mask_area ‹_›] at ha; cases ha)⟩

end Sys2Proof.Machine
end

