-- ==== Sys2Proof/Laws/State.lean ====
section
/-! SUPPORT. What each elementary update of the state leaves as it was, field by field and reading by reading, and what
each reading gives after the update of what it reads. -/

namespace Sys2Proof.Machine

/-! ### What an update changes -/

/-- A field of a register reads as it was loaded. -/
theorem State.get_put_self {s : State} {F : Fld} {i v : Nat} (hi : i < F.reg.count) (hb : F.lo + F.len ≤ 64) :
    (s.put F i v).get F i = v % 2 ^ F.len := by
  unfold State.get State.put
  rw [State.setWord_word_self hi]
  exact getBits_setBits_self hb

/-- A field beside the loaded one reads as before. -/
theorem State.get_put_beside {s : State} {F G : Fld} {i v : Nat} (hr : G.reg = F.reg)
    (hb : G.lo + G.len ≤ F.lo ∨ F.lo + F.len ≤ G.lo) : (s.put F i v).get G i = s.get G i := by
  unfold State.get State.put
  rw [hr]
  by_cases hi : i < F.reg.count
  · rw [State.setWord_word_self hi]; exact getBits_setBits_other hb
  · unfold State.setWord; rw [if_neg hi]

/-- The same register kind at another index reads as before. -/
theorem State.get_put_index {s : State} {F G : Fld} {i j v : Nat} (hr : G.reg = F.reg) (hj : j ≠ i) :
    (s.put F i v).get G j = s.get G j := by
  unfold State.get State.put
  rw [hr, State.setWord_word_index hj]

/-- A register of another kind reads as before. -/
theorem State.get_put_kind {s : State} {F G : Fld} {i j v : Nat} (hr : G.reg ≠ F.reg) :
    (s.put F i v).get G j = s.get G j := by
  unfold State.get State.put
  rw [State.setWord_word_kind hr]

theorem State.get_flag_self {s : State} {F : Fld} {i : Nat} {b : Bool} (hi : i < F.reg.count) (hb : F.lo + F.len ≤ 64) :
    (s.flag F i b).get F i = b2n b % 2 ^ F.len := State.get_put_self hi hb

theorem State.get_flag_beside {s : State} {F G : Fld} {i : Nat} {b : Bool} (hr : G.reg = F.reg)
    (hb : G.lo + G.len ≤ F.lo ∨ F.lo + F.len ≤ G.lo) : (s.flag F i b).get G i = s.get G i := State.get_put_beside hr hb

theorem State.get_flag_index {s : State} {F G : Fld} {i j : Nat} {b : Bool} (hr : G.reg = F.reg) (hj : j ≠ i) :
    (s.flag F i b).get G j = s.get G j := State.get_put_index hr hj

theorem State.get_flag_kind {s : State} {F G : Fld} {i j : Nat} {b : Bool} (hr : G.reg ≠ F.reg) :
    (s.flag F i b).get G j = s.get G j := State.get_put_kind hr

/-- A register of a kind outside the mask reads as before, whatever the fields. -/
theorem State.Within.get {m : Nat} {s t : State} (h : State.Within m s t) (F : Fld) (i : Nat)
    (hk : m.testBit F.reg.code = false) : t.get F i = s.get F i := by
  unfold State.get; rw [h.words _ hk]

theorem State.Within.on {m : Nat} {s t : State} (h : State.Within m s t) (F : Fld) (i : Nat)
    (hk : m.testBit F.reg.code = false) : t.on F i = s.on F i := by
  unfold State.on; rw [h.get F i hk]

theorem State.setCfg_cfgWord_self (s : State) (f o : Nat) (w : Dword) : (s.setCfg f o w).cfgWord f o = w :=
  Tbl.get_set_self _ _ _ _

theorem State.setCfg_cfgWord_other (s : State) {f o f' o' : Nat} (w : Dword) (h : cfgKey f' (o' / 4) ≠ cfgKey f (o / 4)) :
    (s.setCfg f o w).cfgWord f' o' = s.cfgWord f' o' :=
  Tbl.get_set_ne _ _ _ _ h

@[simp] theorem State.setCtr_ctr_self (s : State) (o : Nat) (w : Word) : (s.setCtr o w).ctr o = w :=
  Tbl.get_set_self _ _ _ _

theorem State.setCtr_ctr_other (s : State) {o o' : Nat} (w : Word) (h : o' ≠ o) : (s.setCtr o w).ctr o' = s.ctr o' :=
  Tbl.get_set_ne _ _ _ _ h

@[simp] theorem State.bump_ctr_self (s : State) (o : Nat) : (s.bump o).ctr o = s.ctr o + 1 :=
  Tbl.get_set_self _ _ _ _

theorem State.bump_ctr_other (s : State) {o o' : Nat} (h : o' ≠ o) : (s.bump o).ctr o' = s.ctr o' :=
  Tbl.get_set_ne _ _ _ _ h

@[simp] theorem State.arm_due_self (s : State) (t : Timer) (dt : Nat) : (s.arm t dt).due t = some (s.clock + dt) := by
  simp [State.due, State.arm]

theorem State.find_filter_timer {l : List (Timer × Nat)} {p : Timer × Nat → Bool} {t : Timer}
    (hp : ∀ e : Timer × Nat, e.1 = t → p e = true) :
    (l.filter p).find? (fun e => e.1 = t) = l.find? (fun e => e.1 = t) := by
  induction l with
  | nil => rfl
  | cons e l ih =>
    by_cases h : e.1 = t
    · rw [List.filter_cons, if_pos (hp e h), List.find?_cons_of_pos (by simpa using h), List.find?_cons_of_pos (by simpa using h)]
    · rw [List.filter_cons, List.find?_cons_of_neg (by simpa using h)]
      split
      · rw [List.find?_cons_of_neg (by simpa using h), ih]
      · exact ih

theorem State.arm_due_other (s : State) {t u : Timer} (dt : Nat) (h : u ≠ t) : (s.arm t dt).due u = s.due u := by
  unfold State.due State.arm
  dsimp only
  rw [List.find?_cons_of_neg (by simpa using fun e => h e.symm), State.find_filter_timer]
  rintro e rfl; simpa using h

@[simp] theorem State.disarm_due_self (s : State) (t : Timer) : (s.disarm t).due t = none := by
  simp [State.due, State.disarm]

theorem State.disarm_due_other (s : State) {t u : Timer} (h : u ≠ t) : (s.disarm t).due u = s.due u := by
  unfold State.due State.disarm
  dsimp only
  rw [State.find_filter_timer]
  rintro e rfl; simpa using h

@[simp] theorem State.emit_sent (s : State) (o : Output) : (s.emit o).sent = o :: s.sent := rfl

@[simp] theorem State.setHost_host_self (s : State) (k : Nat) (d) : (s.setHost k d).host k = d :=
  Tbl.get_set_self _ _ _ _

theorem State.setHost_host_other (s : State) {k j : Nat} (d) (h : j ≠ k) : (s.setHost k d).host j = s.host j :=
  Tbl.get_set_ne _ _ _ _ h

@[simp] theorem State.modHost_host_self (s : State) (k : Nat) (g) : (s.modHost k g).host k = g (s.host k) :=
  Tbl.get_set_self _ _ _ _

theorem State.modHost_host_other (s : State) {k j : Nat} (g) (h : j ≠ k) : (s.modHost k g).host j = s.host j :=
  Tbl.get_set_ne _ _ _ _ h

@[simp] theorem State.setFunc_func_self (s : State) (k : Nat) (d) : (s.setFunc k d).func k = d :=
  Tbl.get_set_self _ _ _ _

theorem State.setFunc_func_other (s : State) {k j : Nat} (d) (h : j ≠ k) : (s.setFunc k d).func j = s.func j :=
  Tbl.get_set_ne _ _ _ _ h

@[simp] theorem State.modFunc_func_self (s : State) (k : Nat) (g) : (s.modFunc k g).func k = g (s.func k) :=
  Tbl.get_set_self _ _ _ _

theorem State.modFunc_func_other (s : State) {k j : Nat} (g) (h : j ≠ k) : (s.modFunc k g).func j = s.func j :=
  Tbl.get_set_ne _ _ _ _ h

@[simp] theorem State.setTxn_txn_self (s : State) (k : Nat) (d) : (s.setTxn k d).txn k = d :=
  Tbl.get_set_self _ _ _ _

theorem State.setTxn_txn_other (s : State) {k j : Nat} (d) (h : j ≠ k) : (s.setTxn k d).txn j = s.txn j :=
  Tbl.get_set_ne _ _ _ _ h

@[simp] theorem State.modTxn_txn_self (s : State) (k : Nat) (g) : (s.modTxn k g).txn k = g (s.txn k) :=
  Tbl.get_set_self _ _ _ _

theorem State.modTxn_txn_other (s : State) {k j : Nat} (g) (h : j ≠ k) : (s.modTxn k g).txn j = s.txn j :=
  Tbl.get_set_ne _ _ _ _ h

@[simp] theorem State.setPort_port_self (s : State) (k : Nat) (d) : (s.setPort k d).port k = d :=
  Tbl.get_set_self _ _ _ _

theorem State.setPort_port_other (s : State) {k j : Nat} (d) (h : j ≠ k) : (s.setPort k d).port j = s.port j :=
  Tbl.get_set_ne _ _ _ _ h

@[simp] theorem State.modPort_port_self (s : State) (k : Nat) (g) : (s.modPort k g).port k = g (s.port k) :=
  Tbl.get_set_self _ _ _ _

theorem State.modPort_port_other (s : State) {k j : Nat} (g) (h : j ≠ k) : (s.modPort k g).port j = s.port j :=
  Tbl.get_set_ne _ _ _ _ h

@[simp] theorem State.setLane_lane_self (s : State) (k : Nat) (d) : (s.setLane k d).lane k = d :=
  Tbl.get_set_self _ _ _ _

theorem State.setLane_lane_other (s : State) {k j : Nat} (d) (h : j ≠ k) : (s.setLane k d).lane j = s.lane j :=
  Tbl.get_set_ne _ _ _ _ h

@[simp] theorem State.modLane_lane_self (s : State) (k : Nat) (g) : (s.modLane k g).lane k = g (s.lane k) :=
  Tbl.get_set_self _ _ _ _

theorem State.modLane_lane_other (s : State) {k j : Nat} (g) (h : j ≠ k) : (s.modLane k g).lane j = s.lane j :=
  Tbl.get_set_ne _ _ _ _ h

@[simp] theorem State.setQueue_queue_self (s : State) (k : Nat) (d) : (s.setQueue k d).queue k = d :=
  Tbl.get_set_self _ _ _ _

theorem State.setQueue_queue_other (s : State) {k j : Nat} (d) (h : j ≠ k) : (s.setQueue k d).queue j = s.queue j :=
  Tbl.get_set_ne _ _ _ _ h

@[simp] theorem State.modQueue_queue_self (s : State) (k : Nat) (g) : (s.modQueue k g).queue k = g (s.queue k) :=
  Tbl.get_set_self _ _ _ _

theorem State.modQueue_queue_other (s : State) {k j : Nat} (g) (h : j ≠ k) : (s.modQueue k g).queue j = s.queue j :=
  Tbl.get_set_ne _ _ _ _ h

@[simp] theorem State.setEng_eng_self (s : State) (k : Nat) (d) : (s.setEng k d).eng k = d :=
  Tbl.get_set_self _ _ _ _

theorem State.setEng_eng_other (s : State) {k j : Nat} (d) (h : j ≠ k) : (s.setEng k d).eng j = s.eng j :=
  Tbl.get_set_ne _ _ _ _ h

@[simp] theorem State.modEng_eng_self (s : State) (k : Nat) (g) : (s.modEng k g).eng k = g (s.eng k) :=
  Tbl.get_set_self _ _ _ _

theorem State.modEng_eng_other (s : State) {k j : Nat} (g) (h : j ≠ k) : (s.modEng k g).eng j = s.eng j :=
  Tbl.get_set_ne _ _ _ _ h

@[simp] theorem State.setPeg_peg_self (s : State) (k : Nat) (d) : (s.setPeg k d).peg k = d :=
  Tbl.get_set_self _ _ _ _

theorem State.setPeg_peg_other (s : State) {k j : Nat} (d) (h : j ≠ k) : (s.setPeg k d).peg j = s.peg j :=
  Tbl.get_set_ne _ _ _ _ h

@[simp] theorem State.modPeg_peg_self (s : State) (k : Nat) (g) : (s.modPeg k g).peg k = g (s.peg k) :=
  Tbl.get_set_self _ _ _ _

theorem State.modPeg_peg_other (s : State) {k j : Nat} (g) (h : j ≠ k) : (s.modPeg k g).peg j = s.peg j :=
  Tbl.get_set_ne _ _ _ _ h

@[simp] theorem State.modRss_rss (s : State) (g) : (s.modRss g).rss = g s.rss := rfl

@[simp] theorem State.modBrace_brace (s : State) (g) : (s.modBrace g).brace = g s.brace := rfl

@[simp] theorem State.modRidge_ridge (s : State) (g) : (s.modRidge g).ridge = g s.ridge := rfl

@[simp] theorem State.modPlumb_plumb (s : State) (g) : (s.modPlumb g).plumb = g s.plumb := rfl

@[simp] theorem State.modPins_pins (s : State) (g) : (s.modPins g).pins = g s.pins := rfl

/-! ### What an update leaves as it was -/

@[simp] theorem State.setWord_pending (s : State) (k₀ : RegKind) (i₀ : Nat) (w₀ : Word) : (s.setWord k₀ i₀ w₀).pending = s.pending := by
  unfold State.setWord; split <;> rfl
@[simp] theorem State.setWord_phase (s : State) (k₀ : RegKind) (i₀ : Nat) (w₀ : Word) : (s.setWord k₀ i₀ w₀).phase = s.phase := by
  unfold State.setWord; split <;> rfl
@[simp] theorem State.setWord_clock (s : State) (k₀ : RegKind) (i₀ : Nat) (w₀ : Word) : (s.setWord k₀ i₀ w₀).clock = s.clock := by
  unfold State.setWord; split <;> rfl
@[simp] theorem State.setWord_devtime (s : State) (k₀ : RegKind) (i₀ : Nat) (w₀ : Word) : (s.setWord k₀ i₀ w₀).devtime = s.devtime := by
  unfold State.setWord; split <;> rfl
@[simp] theorem State.setWord_slew (s : State) (k₀ : RegKind) (i₀ : Nat) (w₀ : Word) : (s.setWord k₀ i₀ w₀).slew = s.slew := by
  unfold State.setWord; split <;> rfl
@[simp] theorem State.setWord_slewFrac (s : State) (k₀ : RegKind) (i₀ : Nat) (w₀ : Word) : (s.setWord k₀ i₀ w₀).slewFrac = s.slewFrac := by
  unfold State.setWord; split <;> rfl
@[simp] theorem State.setWord_ctrs (s : State) (k₀ : RegKind) (i₀ : Nat) (w₀ : Word) : (s.setWord k₀ i₀ w₀).ctrs = s.ctrs := by
  unfold State.setWord; split <;> rfl
@[simp] theorem State.setWord_bankA (s : State) (k₀ : RegKind) (i₀ : Nat) (w₀ : Word) : (s.setWord k₀ i₀ w₀).bankA = s.bankA := by
  unfold State.setWord; split <;> rfl
@[simp] theorem State.setWord_bankB (s : State) (k₀ : RegKind) (i₀ : Nat) (w₀ : Word) : (s.setWord k₀ i₀ w₀).bankB = s.bankB := by
  unfold State.setWord; split <;> rfl
@[simp] theorem State.setWord_cfg (s : State) (k₀ : RegKind) (i₀ : Nat) (w₀ : Word) : (s.setWord k₀ i₀ w₀).cfg = s.cfg := by
  unfold State.setWord; split <;> rfl
@[simp] theorem State.setWord_msix (s : State) (k₀ : RegKind) (i₀ : Nat) (w₀ : Word) : (s.setWord k₀ i₀ w₀).msix = s.msix := by
  unfold State.setWord; split <;> rfl
@[simp] theorem State.setWord_pba (s : State) (k₀ : RegKind) (i₀ : Nat) (w₀ : Word) : (s.setWord k₀ i₀ w₀).pba = s.pba := by
  unfold State.setWord; split <;> rfl
@[simp] theorem State.setWord_fuses (s : State) (k₀ : RegKind) (i₀ : Nat) (w₀ : Word) : (s.setWord k₀ i₀ w₀).fuses = s.fuses := by
  unfold State.setWord; split <;> rfl
@[simp] theorem State.setWord_timers (s : State) (k₀ : RegKind) (i₀ : Nat) (w₀ : Word) : (s.setWord k₀ i₀ w₀).timers = s.timers := by
  unfold State.setWord; split <;> rfl
@[simp] theorem State.setWord_rss (s : State) (k₀ : RegKind) (i₀ : Nat) (w₀ : Word) : (s.setWord k₀ i₀ w₀).rss = s.rss := by
  unfold State.setWord; split <;> rfl
@[simp] theorem State.setWord_hosts (s : State) (k₀ : RegKind) (i₀ : Nat) (w₀ : Word) : (s.setWord k₀ i₀ w₀).hosts = s.hosts := by
  unfold State.setWord; split <;> rfl
@[simp] theorem State.setWord_funcs (s : State) (k₀ : RegKind) (i₀ : Nat) (w₀ : Word) : (s.setWord k₀ i₀ w₀).funcs = s.funcs := by
  unfold State.setWord; split <;> rfl
@[simp] theorem State.setWord_txns (s : State) (k₀ : RegKind) (i₀ : Nat) (w₀ : Word) : (s.setWord k₀ i₀ w₀).txns = s.txns := by
  unfold State.setWord; split <;> rfl
@[simp] theorem State.setWord_commits (s : State) (k₀ : RegKind) (i₀ : Nat) (w₀ : Word) : (s.setWord k₀ i₀ w₀).commits = s.commits := by
  unfold State.setWord; split <;> rfl
@[simp] theorem State.setWord_ports (s : State) (k₀ : RegKind) (i₀ : Nat) (w₀ : Word) : (s.setWord k₀ i₀ w₀).ports = s.ports := by
  unfold State.setWord; split <;> rfl
@[simp] theorem State.setWord_lanes (s : State) (k₀ : RegKind) (i₀ : Nat) (w₀ : Word) : (s.setWord k₀ i₀ w₀).lanes = s.lanes := by
  unfold State.setWord; split <;> rfl
@[simp] theorem State.setWord_queues (s : State) (k₀ : RegKind) (i₀ : Nat) (w₀ : Word) : (s.setWord k₀ i₀ w₀).queues = s.queues := by
  unfold State.setWord; split <;> rfl
@[simp] theorem State.setWord_engines (s : State) (k₀ : RegKind) (i₀ : Nat) (w₀ : Word) : (s.setWord k₀ i₀ w₀).engines = s.engines := by
  unfold State.setWord; split <;> rfl
@[simp] theorem State.setWord_pegs (s : State) (k₀ : RegKind) (i₀ : Nat) (w₀ : Word) : (s.setWord k₀ i₀ w₀).pegs = s.pegs := by
  unfold State.setWord; split <;> rfl
@[simp] theorem State.setWord_vecs (s : State) (k₀ : RegKind) (i₀ : Nat) (w₀ : Word) : (s.setWord k₀ i₀ w₀).vecs = s.vecs := by
  unfold State.setWord; split <;> rfl
@[simp] theorem State.setWord_freed (s : State) (k₀ : RegKind) (i₀ : Nat) (w₀ : Word) : (s.setWord k₀ i₀ w₀).freed = s.freed := by
  unfold State.setWord; split <;> rfl
@[simp] theorem State.setWord_brace (s : State) (k₀ : RegKind) (i₀ : Nat) (w₀ : Word) : (s.setWord k₀ i₀ w₀).brace = s.brace := by
  unfold State.setWord; split <;> rfl
@[simp] theorem State.setWord_ridge (s : State) (k₀ : RegKind) (i₀ : Nat) (w₀ : Word) : (s.setWord k₀ i₀ w₀).ridge = s.ridge := by
  unfold State.setWord; split <;> rfl
@[simp] theorem State.setWord_plumb (s : State) (k₀ : RegKind) (i₀ : Nat) (w₀ : Word) : (s.setWord k₀ i₀ w₀).plumb = s.plumb := by
  unfold State.setWord; split <;> rfl
@[simp] theorem State.setWord_scribe (s : State) (k₀ : RegKind) (i₀ : Nat) (w₀ : Word) : (s.setWord k₀ i₀ w₀).scribe = s.scribe := by
  unfold State.setWord; split <;> rfl
@[simp] theorem State.setWord_pins (s : State) (k₀ : RegKind) (i₀ : Nat) (w₀ : Word) : (s.setWord k₀ i₀ w₀).pins = s.pins := by
  unfold State.setWord; split <;> rfl
@[simp] theorem State.setWord_restore (s : State) (k₀ : RegKind) (i₀ : Nat) (w₀ : Word) : (s.setWord k₀ i₀ w₀).restore = s.restore := by
  unfold State.setWord; split <;> rfl
@[simp] theorem State.setWord_plankGen (s : State) (k₀ : RegKind) (i₀ : Nat) (w₀ : Word) : (s.setWord k₀ i₀ w₀).plankGen = s.plankGen := by
  unfold State.setWord; split <;> rfl
@[simp] theorem State.setWord_plankTime (s : State) (k₀ : RegKind) (i₀ : Nat) (w₀ : Word) : (s.setWord k₀ i₀ w₀).plankTime = s.plankTime := by
  unfold State.setWord; split <;> rfl
@[simp] theorem State.setWord_planks (s : State) (k₀ : RegKind) (i₀ : Nat) (w₀ : Word) : (s.setWord k₀ i₀ w₀).planks = s.planks := by
  unfold State.setWord; split <;> rfl
@[simp] theorem State.setWord_served (s : State) (k₀ : RegKind) (i₀ : Nat) (w₀ : Word) : (s.setWord k₀ i₀ w₀).served = s.served := by
  unfold State.setWord; split <;> rfl
@[simp] theorem State.setWord_waking (s : State) (k₀ : RegKind) (i₀ : Nat) (w₀ : Word) : (s.setWord k₀ i₀ w₀).waking = s.waking := by
  unfold State.setWord; split <;> rfl
@[simp] theorem State.setWord_warm (s : State) (k₀ : RegKind) (i₀ : Nat) (w₀ : Word) : (s.setWord k₀ i₀ w₀).warm = s.warm := by
  unfold State.setWord; split <;> rfl
@[simp] theorem State.setWord_damaged (s : State) (k₀ : RegKind) (i₀ : Nat) (w₀ : Word) : (s.setWord k₀ i₀ w₀).damaged = s.damaged := by
  unfold State.setWord; split <;> rfl
@[simp] theorem State.setWord_scrubAt (s : State) (k₀ : RegKind) (i₀ : Nat) (w₀ : Word) : (s.setWord k₀ i₀ w₀).scrubAt = s.scrubAt := by
  unfold State.setWord; split <;> rfl
@[simp] theorem State.setWord_ring (s : State) (k₀ : RegKind) (i₀ : Nat) (w₀ : Word) : (s.setWord k₀ i₀ w₀).ring = s.ring := by
  unfold State.setWord; split <;> rfl
@[simp] theorem State.setWord_nextId (s : State) (k₀ : RegKind) (i₀ : Nat) (w₀ : Word) : (s.setWord k₀ i₀ w₀).nextId = s.nextId := by
  unfold State.setWord; split <;> rfl
@[simp] theorem State.setWord_freeCtr (s : State) (k₀ : RegKind) (i₀ : Nat) (w₀ : Word) : (s.setWord k₀ i₀ w₀).freeCtr = s.freeCtr := by
  unfold State.setWord; split <;> rfl
@[simp] theorem State.setWord_sent (s : State) (k₀ : RegKind) (i₀ : Nat) (w₀ : Word) : (s.setWord k₀ i₀ w₀).sent = s.sent := by
  unfold State.setWord; split <;> rfl
@[simp] theorem State.setWord_cfgWord (s : State) (k₀ : RegKind) (i₀ : Nat) (w₀ : Word) (f o : Nat) : (s.setWord k₀ i₀ w₀).cfgWord f o = s.cfgWord f o := by
  unfold State.setWord; split <;> rfl
@[simp] theorem State.setWord_cfgGet (s : State) (k₀ : RegKind) (i₀ : Nat) (w₀ : Word) (f o lo len : Nat) : (s.setWord k₀ i₀ w₀).cfgGet f o lo len = s.cfgGet f o lo len := by
  unfold State.setWord; split <;> rfl
@[simp] theorem State.setWord_cfgBit (s : State) (k₀ : RegKind) (i₀ : Nat) (w₀ : Word) (f o i : Nat) : (s.setWord k₀ i₀ w₀).cfgBit f o i = s.cfgBit f o i := by
  unfold State.setWord; split <;> rfl
@[simp] theorem State.setWord_msixWord (s : State) (k₀ : RegKind) (i₀ : Nat) (w₀ : Word) (f e j : Nat) : (s.setWord k₀ i₀ w₀).msixWord f e j = s.msixWord f e j := by
  unfold State.setWord; split <;> rfl
@[simp] theorem State.setWord_host (s : State) (k₀ : RegKind) (i₀ : Nat) (w₀ : Word) (h : Nat) : (s.setWord k₀ i₀ w₀).host h = s.host h := by
  unfold State.setWord; split <;> rfl
@[simp] theorem State.setWord_func (s : State) (k₀ : RegKind) (i₀ : Nat) (w₀ : Word) (f : Nat) : (s.setWord k₀ i₀ w₀).func f = s.func f := by
  unfold State.setWord; split <;> rfl
@[simp] theorem State.setWord_txn (s : State) (k₀ : RegKind) (i₀ : Nat) (w₀ : Word) (c : Nat) : (s.setWord k₀ i₀ w₀).txn c = s.txn c := by
  unfold State.setWord; split <;> rfl
@[simp] theorem State.setWord_port (s : State) (k₀ : RegKind) (i₀ : Nat) (w₀ : Word) (p : Nat) : (s.setWord k₀ i₀ w₀).port p = s.port p := by
  unfold State.setWord; split <;> rfl
@[simp] theorem State.setWord_lane (s : State) (k₀ : RegKind) (i₀ : Nat) (w₀ : Word) (l : Nat) : (s.setWord k₀ i₀ w₀).lane l = s.lane l := by
  unfold State.setWord; split <;> rfl
@[simp] theorem State.setWord_queue (s : State) (k₀ : RegKind) (i₀ : Nat) (w₀ : Word) (q : Nat) : (s.setWord k₀ i₀ w₀).queue q = s.queue q := by
  unfold State.setWord; split <;> rfl
@[simp] theorem State.setWord_eng (s : State) (k₀ : RegKind) (i₀ : Nat) (w₀ : Word) (e : Nat) : (s.setWord k₀ i₀ w₀).eng e = s.eng e := by
  unfold State.setWord; split <;> rfl
@[simp] theorem State.setWord_peg (s : State) (k₀ : RegKind) (i₀ : Nat) (w₀ : Word) (i : Nat) : (s.setWord k₀ i₀ w₀).peg i = s.peg i := by
  unfold State.setWord; split <;> rfl
@[simp] theorem State.setWord_ctr (s : State) (k₀ : RegKind) (i₀ : Nat) (w₀ : Word) (o : Nat) : (s.setWord k₀ i₀ w₀).ctr o = s.ctr o := by
  unfold State.setWord; split <;> rfl
@[simp] theorem State.setWord_due (s : State) (k₀ : RegKind) (i₀ : Nat) (w₀ : Word) (t : Timer) : (s.setWord k₀ i₀ w₀).due t = s.due t := by
  unfold State.setWord; split <;> rfl
@[simp] theorem State.setWord_armed (s : State) (k₀ : RegKind) (i₀ : Nat) (w₀ : Word) (t : Timer) : (s.setWord k₀ i₀ w₀).armed t = s.armed t := by
  unfold State.setWord; split <;> rfl
@[simp] theorem State.setWord_isUp (s : State) (k₀ : RegKind) (i₀ : Nat) (w₀ : Word) : (s.setWord k₀ i₀ w₀).isUp = s.isUp := by
  unfold State.setWord; split <;> rfl
@[simp] theorem State.setWord_powered (s : State) (k₀ : RegKind) (i₀ : Nat) (w₀ : Word) : (s.setWord k₀ i₀ w₀).powered = s.powered := by
  unfold State.setWord; split <;> rfl

@[simp] theorem State.put_pending (s : State) (F₀ : Fld) (i₀ v₀ : Nat) : (s.put F₀ i₀ v₀).pending = s.pending := by
  unfold State.put State.setWord; split <;> rfl
@[simp] theorem State.put_phase (s : State) (F₀ : Fld) (i₀ v₀ : Nat) : (s.put F₀ i₀ v₀).phase = s.phase := by
  unfold State.put State.setWord; split <;> rfl
@[simp] theorem State.put_clock (s : State) (F₀ : Fld) (i₀ v₀ : Nat) : (s.put F₀ i₀ v₀).clock = s.clock := by
  unfold State.put State.setWord; split <;> rfl
@[simp] theorem State.put_devtime (s : State) (F₀ : Fld) (i₀ v₀ : Nat) : (s.put F₀ i₀ v₀).devtime = s.devtime := by
  unfold State.put State.setWord; split <;> rfl
@[simp] theorem State.put_slew (s : State) (F₀ : Fld) (i₀ v₀ : Nat) : (s.put F₀ i₀ v₀).slew = s.slew := by
  unfold State.put State.setWord; split <;> rfl
@[simp] theorem State.put_slewFrac (s : State) (F₀ : Fld) (i₀ v₀ : Nat) : (s.put F₀ i₀ v₀).slewFrac = s.slewFrac := by
  unfold State.put State.setWord; split <;> rfl
@[simp] theorem State.put_ctrs (s : State) (F₀ : Fld) (i₀ v₀ : Nat) : (s.put F₀ i₀ v₀).ctrs = s.ctrs := by
  unfold State.put State.setWord; split <;> rfl
@[simp] theorem State.put_bankA (s : State) (F₀ : Fld) (i₀ v₀ : Nat) : (s.put F₀ i₀ v₀).bankA = s.bankA := by
  unfold State.put State.setWord; split <;> rfl
@[simp] theorem State.put_bankB (s : State) (F₀ : Fld) (i₀ v₀ : Nat) : (s.put F₀ i₀ v₀).bankB = s.bankB := by
  unfold State.put State.setWord; split <;> rfl
@[simp] theorem State.put_cfg (s : State) (F₀ : Fld) (i₀ v₀ : Nat) : (s.put F₀ i₀ v₀).cfg = s.cfg := by
  unfold State.put State.setWord; split <;> rfl
@[simp] theorem State.put_msix (s : State) (F₀ : Fld) (i₀ v₀ : Nat) : (s.put F₀ i₀ v₀).msix = s.msix := by
  unfold State.put State.setWord; split <;> rfl
@[simp] theorem State.put_pba (s : State) (F₀ : Fld) (i₀ v₀ : Nat) : (s.put F₀ i₀ v₀).pba = s.pba := by
  unfold State.put State.setWord; split <;> rfl
@[simp] theorem State.put_fuses (s : State) (F₀ : Fld) (i₀ v₀ : Nat) : (s.put F₀ i₀ v₀).fuses = s.fuses := by
  unfold State.put State.setWord; split <;> rfl
@[simp] theorem State.put_timers (s : State) (F₀ : Fld) (i₀ v₀ : Nat) : (s.put F₀ i₀ v₀).timers = s.timers := by
  unfold State.put State.setWord; split <;> rfl
@[simp] theorem State.put_rss (s : State) (F₀ : Fld) (i₀ v₀ : Nat) : (s.put F₀ i₀ v₀).rss = s.rss := by
  unfold State.put State.setWord; split <;> rfl
@[simp] theorem State.put_hosts (s : State) (F₀ : Fld) (i₀ v₀ : Nat) : (s.put F₀ i₀ v₀).hosts = s.hosts := by
  unfold State.put State.setWord; split <;> rfl
@[simp] theorem State.put_funcs (s : State) (F₀ : Fld) (i₀ v₀ : Nat) : (s.put F₀ i₀ v₀).funcs = s.funcs := by
  unfold State.put State.setWord; split <;> rfl
@[simp] theorem State.put_txns (s : State) (F₀ : Fld) (i₀ v₀ : Nat) : (s.put F₀ i₀ v₀).txns = s.txns := by
  unfold State.put State.setWord; split <;> rfl
@[simp] theorem State.put_commits (s : State) (F₀ : Fld) (i₀ v₀ : Nat) : (s.put F₀ i₀ v₀).commits = s.commits := by
  unfold State.put State.setWord; split <;> rfl
@[simp] theorem State.put_ports (s : State) (F₀ : Fld) (i₀ v₀ : Nat) : (s.put F₀ i₀ v₀).ports = s.ports := by
  unfold State.put State.setWord; split <;> rfl
@[simp] theorem State.put_lanes (s : State) (F₀ : Fld) (i₀ v₀ : Nat) : (s.put F₀ i₀ v₀).lanes = s.lanes := by
  unfold State.put State.setWord; split <;> rfl
@[simp] theorem State.put_queues (s : State) (F₀ : Fld) (i₀ v₀ : Nat) : (s.put F₀ i₀ v₀).queues = s.queues := by
  unfold State.put State.setWord; split <;> rfl
@[simp] theorem State.put_engines (s : State) (F₀ : Fld) (i₀ v₀ : Nat) : (s.put F₀ i₀ v₀).engines = s.engines := by
  unfold State.put State.setWord; split <;> rfl
@[simp] theorem State.put_pegs (s : State) (F₀ : Fld) (i₀ v₀ : Nat) : (s.put F₀ i₀ v₀).pegs = s.pegs := by
  unfold State.put State.setWord; split <;> rfl
@[simp] theorem State.put_vecs (s : State) (F₀ : Fld) (i₀ v₀ : Nat) : (s.put F₀ i₀ v₀).vecs = s.vecs := by
  unfold State.put State.setWord; split <;> rfl
@[simp] theorem State.put_freed (s : State) (F₀ : Fld) (i₀ v₀ : Nat) : (s.put F₀ i₀ v₀).freed = s.freed := by
  unfold State.put State.setWord; split <;> rfl
@[simp] theorem State.put_brace (s : State) (F₀ : Fld) (i₀ v₀ : Nat) : (s.put F₀ i₀ v₀).brace = s.brace := by
  unfold State.put State.setWord; split <;> rfl
@[simp] theorem State.put_ridge (s : State) (F₀ : Fld) (i₀ v₀ : Nat) : (s.put F₀ i₀ v₀).ridge = s.ridge := by
  unfold State.put State.setWord; split <;> rfl
@[simp] theorem State.put_plumb (s : State) (F₀ : Fld) (i₀ v₀ : Nat) : (s.put F₀ i₀ v₀).plumb = s.plumb := by
  unfold State.put State.setWord; split <;> rfl
@[simp] theorem State.put_scribe (s : State) (F₀ : Fld) (i₀ v₀ : Nat) : (s.put F₀ i₀ v₀).scribe = s.scribe := by
  unfold State.put State.setWord; split <;> rfl
@[simp] theorem State.put_pins (s : State) (F₀ : Fld) (i₀ v₀ : Nat) : (s.put F₀ i₀ v₀).pins = s.pins := by
  unfold State.put State.setWord; split <;> rfl
@[simp] theorem State.put_restore (s : State) (F₀ : Fld) (i₀ v₀ : Nat) : (s.put F₀ i₀ v₀).restore = s.restore := by
  unfold State.put State.setWord; split <;> rfl
@[simp] theorem State.put_plankGen (s : State) (F₀ : Fld) (i₀ v₀ : Nat) : (s.put F₀ i₀ v₀).plankGen = s.plankGen := by
  unfold State.put State.setWord; split <;> rfl
@[simp] theorem State.put_plankTime (s : State) (F₀ : Fld) (i₀ v₀ : Nat) : (s.put F₀ i₀ v₀).plankTime = s.plankTime := by
  unfold State.put State.setWord; split <;> rfl
@[simp] theorem State.put_planks (s : State) (F₀ : Fld) (i₀ v₀ : Nat) : (s.put F₀ i₀ v₀).planks = s.planks := by
  unfold State.put State.setWord; split <;> rfl
@[simp] theorem State.put_served (s : State) (F₀ : Fld) (i₀ v₀ : Nat) : (s.put F₀ i₀ v₀).served = s.served := by
  unfold State.put State.setWord; split <;> rfl
@[simp] theorem State.put_waking (s : State) (F₀ : Fld) (i₀ v₀ : Nat) : (s.put F₀ i₀ v₀).waking = s.waking := by
  unfold State.put State.setWord; split <;> rfl
@[simp] theorem State.put_warm (s : State) (F₀ : Fld) (i₀ v₀ : Nat) : (s.put F₀ i₀ v₀).warm = s.warm := by
  unfold State.put State.setWord; split <;> rfl
@[simp] theorem State.put_damaged (s : State) (F₀ : Fld) (i₀ v₀ : Nat) : (s.put F₀ i₀ v₀).damaged = s.damaged := by
  unfold State.put State.setWord; split <;> rfl
@[simp] theorem State.put_scrubAt (s : State) (F₀ : Fld) (i₀ v₀ : Nat) : (s.put F₀ i₀ v₀).scrubAt = s.scrubAt := by
  unfold State.put State.setWord; split <;> rfl
@[simp] theorem State.put_ring (s : State) (F₀ : Fld) (i₀ v₀ : Nat) : (s.put F₀ i₀ v₀).ring = s.ring := by
  unfold State.put State.setWord; split <;> rfl
@[simp] theorem State.put_nextId (s : State) (F₀ : Fld) (i₀ v₀ : Nat) : (s.put F₀ i₀ v₀).nextId = s.nextId := by
  unfold State.put State.setWord; split <;> rfl
@[simp] theorem State.put_freeCtr (s : State) (F₀ : Fld) (i₀ v₀ : Nat) : (s.put F₀ i₀ v₀).freeCtr = s.freeCtr := by
  unfold State.put State.setWord; split <;> rfl
@[simp] theorem State.put_sent (s : State) (F₀ : Fld) (i₀ v₀ : Nat) : (s.put F₀ i₀ v₀).sent = s.sent := by
  unfold State.put State.setWord; split <;> rfl
@[simp] theorem State.put_cfgWord (s : State) (F₀ : Fld) (i₀ v₀ : Nat) (f o : Nat) : (s.put F₀ i₀ v₀).cfgWord f o = s.cfgWord f o := by
  unfold State.put State.setWord; split <;> rfl
@[simp] theorem State.put_cfgGet (s : State) (F₀ : Fld) (i₀ v₀ : Nat) (f o lo len : Nat) : (s.put F₀ i₀ v₀).cfgGet f o lo len = s.cfgGet f o lo len := by
  unfold State.put State.setWord; split <;> rfl
@[simp] theorem State.put_cfgBit (s : State) (F₀ : Fld) (i₀ v₀ : Nat) (f o i : Nat) : (s.put F₀ i₀ v₀).cfgBit f o i = s.cfgBit f o i := by
  unfold State.put State.setWord; split <;> rfl
@[simp] theorem State.put_msixWord (s : State) (F₀ : Fld) (i₀ v₀ : Nat) (f e j : Nat) : (s.put F₀ i₀ v₀).msixWord f e j = s.msixWord f e j := by
  unfold State.put State.setWord; split <;> rfl
@[simp] theorem State.put_host (s : State) (F₀ : Fld) (i₀ v₀ : Nat) (h : Nat) : (s.put F₀ i₀ v₀).host h = s.host h := by
  unfold State.put State.setWord; split <;> rfl
@[simp] theorem State.put_func (s : State) (F₀ : Fld) (i₀ v₀ : Nat) (f : Nat) : (s.put F₀ i₀ v₀).func f = s.func f := by
  unfold State.put State.setWord; split <;> rfl
@[simp] theorem State.put_txn (s : State) (F₀ : Fld) (i₀ v₀ : Nat) (c : Nat) : (s.put F₀ i₀ v₀).txn c = s.txn c := by
  unfold State.put State.setWord; split <;> rfl
@[simp] theorem State.put_port (s : State) (F₀ : Fld) (i₀ v₀ : Nat) (p : Nat) : (s.put F₀ i₀ v₀).port p = s.port p := by
  unfold State.put State.setWord; split <;> rfl
@[simp] theorem State.put_lane (s : State) (F₀ : Fld) (i₀ v₀ : Nat) (l : Nat) : (s.put F₀ i₀ v₀).lane l = s.lane l := by
  unfold State.put State.setWord; split <;> rfl
@[simp] theorem State.put_queue (s : State) (F₀ : Fld) (i₀ v₀ : Nat) (q : Nat) : (s.put F₀ i₀ v₀).queue q = s.queue q := by
  unfold State.put State.setWord; split <;> rfl
@[simp] theorem State.put_eng (s : State) (F₀ : Fld) (i₀ v₀ : Nat) (e : Nat) : (s.put F₀ i₀ v₀).eng e = s.eng e := by
  unfold State.put State.setWord; split <;> rfl
@[simp] theorem State.put_peg (s : State) (F₀ : Fld) (i₀ v₀ : Nat) (i : Nat) : (s.put F₀ i₀ v₀).peg i = s.peg i := by
  unfold State.put State.setWord; split <;> rfl
@[simp] theorem State.put_ctr (s : State) (F₀ : Fld) (i₀ v₀ : Nat) (o : Nat) : (s.put F₀ i₀ v₀).ctr o = s.ctr o := by
  unfold State.put State.setWord; split <;> rfl
@[simp] theorem State.put_due (s : State) (F₀ : Fld) (i₀ v₀ : Nat) (t : Timer) : (s.put F₀ i₀ v₀).due t = s.due t := by
  unfold State.put State.setWord; split <;> rfl
@[simp] theorem State.put_armed (s : State) (F₀ : Fld) (i₀ v₀ : Nat) (t : Timer) : (s.put F₀ i₀ v₀).armed t = s.armed t := by
  unfold State.put State.setWord; split <;> rfl
@[simp] theorem State.put_isUp (s : State) (F₀ : Fld) (i₀ v₀ : Nat) : (s.put F₀ i₀ v₀).isUp = s.isUp := by
  unfold State.put State.setWord; split <;> rfl
@[simp] theorem State.put_powered (s : State) (F₀ : Fld) (i₀ v₀ : Nat) : (s.put F₀ i₀ v₀).powered = s.powered := by
  unfold State.put State.setWord; split <;> rfl

@[simp] theorem State.flag_pending (s : State) (F₀ : Fld) (i₀ : Nat) (b₀ : Bool) : (s.flag F₀ i₀ b₀).pending = s.pending := by
  unfold State.flag State.put State.setWord; split <;> rfl
@[simp] theorem State.flag_phase (s : State) (F₀ : Fld) (i₀ : Nat) (b₀ : Bool) : (s.flag F₀ i₀ b₀).phase = s.phase := by
  unfold State.flag State.put State.setWord; split <;> rfl
@[simp] theorem State.flag_clock (s : State) (F₀ : Fld) (i₀ : Nat) (b₀ : Bool) : (s.flag F₀ i₀ b₀).clock = s.clock := by
  unfold State.flag State.put State.setWord; split <;> rfl
@[simp] theorem State.flag_devtime (s : State) (F₀ : Fld) (i₀ : Nat) (b₀ : Bool) : (s.flag F₀ i₀ b₀).devtime = s.devtime := by
  unfold State.flag State.put State.setWord; split <;> rfl
@[simp] theorem State.flag_slew (s : State) (F₀ : Fld) (i₀ : Nat) (b₀ : Bool) : (s.flag F₀ i₀ b₀).slew = s.slew := by
  unfold State.flag State.put State.setWord; split <;> rfl
@[simp] theorem State.flag_slewFrac (s : State) (F₀ : Fld) (i₀ : Nat) (b₀ : Bool) : (s.flag F₀ i₀ b₀).slewFrac = s.slewFrac := by
  unfold State.flag State.put State.setWord; split <;> rfl
@[simp] theorem State.flag_ctrs (s : State) (F₀ : Fld) (i₀ : Nat) (b₀ : Bool) : (s.flag F₀ i₀ b₀).ctrs = s.ctrs := by
  unfold State.flag State.put State.setWord; split <;> rfl
@[simp] theorem State.flag_bankA (s : State) (F₀ : Fld) (i₀ : Nat) (b₀ : Bool) : (s.flag F₀ i₀ b₀).bankA = s.bankA := by
  unfold State.flag State.put State.setWord; split <;> rfl
@[simp] theorem State.flag_bankB (s : State) (F₀ : Fld) (i₀ : Nat) (b₀ : Bool) : (s.flag F₀ i₀ b₀).bankB = s.bankB := by
  unfold State.flag State.put State.setWord; split <;> rfl
@[simp] theorem State.flag_cfg (s : State) (F₀ : Fld) (i₀ : Nat) (b₀ : Bool) : (s.flag F₀ i₀ b₀).cfg = s.cfg := by
  unfold State.flag State.put State.setWord; split <;> rfl
@[simp] theorem State.flag_msix (s : State) (F₀ : Fld) (i₀ : Nat) (b₀ : Bool) : (s.flag F₀ i₀ b₀).msix = s.msix := by
  unfold State.flag State.put State.setWord; split <;> rfl
@[simp] theorem State.flag_pba (s : State) (F₀ : Fld) (i₀ : Nat) (b₀ : Bool) : (s.flag F₀ i₀ b₀).pba = s.pba := by
  unfold State.flag State.put State.setWord; split <;> rfl
@[simp] theorem State.flag_fuses (s : State) (F₀ : Fld) (i₀ : Nat) (b₀ : Bool) : (s.flag F₀ i₀ b₀).fuses = s.fuses := by
  unfold State.flag State.put State.setWord; split <;> rfl
@[simp] theorem State.flag_timers (s : State) (F₀ : Fld) (i₀ : Nat) (b₀ : Bool) : (s.flag F₀ i₀ b₀).timers = s.timers := by
  unfold State.flag State.put State.setWord; split <;> rfl
@[simp] theorem State.flag_rss (s : State) (F₀ : Fld) (i₀ : Nat) (b₀ : Bool) : (s.flag F₀ i₀ b₀).rss = s.rss := by
  unfold State.flag State.put State.setWord; split <;> rfl
@[simp] theorem State.flag_hosts (s : State) (F₀ : Fld) (i₀ : Nat) (b₀ : Bool) : (s.flag F₀ i₀ b₀).hosts = s.hosts := by
  unfold State.flag State.put State.setWord; split <;> rfl
@[simp] theorem State.flag_funcs (s : State) (F₀ : Fld) (i₀ : Nat) (b₀ : Bool) : (s.flag F₀ i₀ b₀).funcs = s.funcs := by
  unfold State.flag State.put State.setWord; split <;> rfl
@[simp] theorem State.flag_txns (s : State) (F₀ : Fld) (i₀ : Nat) (b₀ : Bool) : (s.flag F₀ i₀ b₀).txns = s.txns := by
  unfold State.flag State.put State.setWord; split <;> rfl
@[simp] theorem State.flag_commits (s : State) (F₀ : Fld) (i₀ : Nat) (b₀ : Bool) : (s.flag F₀ i₀ b₀).commits = s.commits := by
  unfold State.flag State.put State.setWord; split <;> rfl
@[simp] theorem State.flag_ports (s : State) (F₀ : Fld) (i₀ : Nat) (b₀ : Bool) : (s.flag F₀ i₀ b₀).ports = s.ports := by
  unfold State.flag State.put State.setWord; split <;> rfl
@[simp] theorem State.flag_lanes (s : State) (F₀ : Fld) (i₀ : Nat) (b₀ : Bool) : (s.flag F₀ i₀ b₀).lanes = s.lanes := by
  unfold State.flag State.put State.setWord; split <;> rfl
@[simp] theorem State.flag_queues (s : State) (F₀ : Fld) (i₀ : Nat) (b₀ : Bool) : (s.flag F₀ i₀ b₀).queues = s.queues := by
  unfold State.flag State.put State.setWord; split <;> rfl
@[simp] theorem State.flag_engines (s : State) (F₀ : Fld) (i₀ : Nat) (b₀ : Bool) : (s.flag F₀ i₀ b₀).engines = s.engines := by
  unfold State.flag State.put State.setWord; split <;> rfl
@[simp] theorem State.flag_pegs (s : State) (F₀ : Fld) (i₀ : Nat) (b₀ : Bool) : (s.flag F₀ i₀ b₀).pegs = s.pegs := by
  unfold State.flag State.put State.setWord; split <;> rfl
@[simp] theorem State.flag_vecs (s : State) (F₀ : Fld) (i₀ : Nat) (b₀ : Bool) : (s.flag F₀ i₀ b₀).vecs = s.vecs := by
  unfold State.flag State.put State.setWord; split <;> rfl
@[simp] theorem State.flag_freed (s : State) (F₀ : Fld) (i₀ : Nat) (b₀ : Bool) : (s.flag F₀ i₀ b₀).freed = s.freed := by
  unfold State.flag State.put State.setWord; split <;> rfl
@[simp] theorem State.flag_brace (s : State) (F₀ : Fld) (i₀ : Nat) (b₀ : Bool) : (s.flag F₀ i₀ b₀).brace = s.brace := by
  unfold State.flag State.put State.setWord; split <;> rfl
@[simp] theorem State.flag_ridge (s : State) (F₀ : Fld) (i₀ : Nat) (b₀ : Bool) : (s.flag F₀ i₀ b₀).ridge = s.ridge := by
  unfold State.flag State.put State.setWord; split <;> rfl
@[simp] theorem State.flag_plumb (s : State) (F₀ : Fld) (i₀ : Nat) (b₀ : Bool) : (s.flag F₀ i₀ b₀).plumb = s.plumb := by
  unfold State.flag State.put State.setWord; split <;> rfl
@[simp] theorem State.flag_scribe (s : State) (F₀ : Fld) (i₀ : Nat) (b₀ : Bool) : (s.flag F₀ i₀ b₀).scribe = s.scribe := by
  unfold State.flag State.put State.setWord; split <;> rfl
@[simp] theorem State.flag_pins (s : State) (F₀ : Fld) (i₀ : Nat) (b₀ : Bool) : (s.flag F₀ i₀ b₀).pins = s.pins := by
  unfold State.flag State.put State.setWord; split <;> rfl
@[simp] theorem State.flag_restore (s : State) (F₀ : Fld) (i₀ : Nat) (b₀ : Bool) : (s.flag F₀ i₀ b₀).restore = s.restore := by
  unfold State.flag State.put State.setWord; split <;> rfl
@[simp] theorem State.flag_plankGen (s : State) (F₀ : Fld) (i₀ : Nat) (b₀ : Bool) : (s.flag F₀ i₀ b₀).plankGen = s.plankGen := by
  unfold State.flag State.put State.setWord; split <;> rfl
@[simp] theorem State.flag_plankTime (s : State) (F₀ : Fld) (i₀ : Nat) (b₀ : Bool) : (s.flag F₀ i₀ b₀).plankTime = s.plankTime := by
  unfold State.flag State.put State.setWord; split <;> rfl
@[simp] theorem State.flag_planks (s : State) (F₀ : Fld) (i₀ : Nat) (b₀ : Bool) : (s.flag F₀ i₀ b₀).planks = s.planks := by
  unfold State.flag State.put State.setWord; split <;> rfl
@[simp] theorem State.flag_served (s : State) (F₀ : Fld) (i₀ : Nat) (b₀ : Bool) : (s.flag F₀ i₀ b₀).served = s.served := by
  unfold State.flag State.put State.setWord; split <;> rfl
@[simp] theorem State.flag_waking (s : State) (F₀ : Fld) (i₀ : Nat) (b₀ : Bool) : (s.flag F₀ i₀ b₀).waking = s.waking := by
  unfold State.flag State.put State.setWord; split <;> rfl
@[simp] theorem State.flag_warm (s : State) (F₀ : Fld) (i₀ : Nat) (b₀ : Bool) : (s.flag F₀ i₀ b₀).warm = s.warm := by
  unfold State.flag State.put State.setWord; split <;> rfl
@[simp] theorem State.flag_damaged (s : State) (F₀ : Fld) (i₀ : Nat) (b₀ : Bool) : (s.flag F₀ i₀ b₀).damaged = s.damaged := by
  unfold State.flag State.put State.setWord; split <;> rfl
@[simp] theorem State.flag_scrubAt (s : State) (F₀ : Fld) (i₀ : Nat) (b₀ : Bool) : (s.flag F₀ i₀ b₀).scrubAt = s.scrubAt := by
  unfold State.flag State.put State.setWord; split <;> rfl
@[simp] theorem State.flag_ring (s : State) (F₀ : Fld) (i₀ : Nat) (b₀ : Bool) : (s.flag F₀ i₀ b₀).ring = s.ring := by
  unfold State.flag State.put State.setWord; split <;> rfl
@[simp] theorem State.flag_nextId (s : State) (F₀ : Fld) (i₀ : Nat) (b₀ : Bool) : (s.flag F₀ i₀ b₀).nextId = s.nextId := by
  unfold State.flag State.put State.setWord; split <;> rfl
@[simp] theorem State.flag_freeCtr (s : State) (F₀ : Fld) (i₀ : Nat) (b₀ : Bool) : (s.flag F₀ i₀ b₀).freeCtr = s.freeCtr := by
  unfold State.flag State.put State.setWord; split <;> rfl
@[simp] theorem State.flag_sent (s : State) (F₀ : Fld) (i₀ : Nat) (b₀ : Bool) : (s.flag F₀ i₀ b₀).sent = s.sent := by
  unfold State.flag State.put State.setWord; split <;> rfl
@[simp] theorem State.flag_cfgWord (s : State) (F₀ : Fld) (i₀ : Nat) (b₀ : Bool) (f o : Nat) : (s.flag F₀ i₀ b₀).cfgWord f o = s.cfgWord f o := by
  unfold State.flag State.put State.setWord; split <;> rfl
@[simp] theorem State.flag_cfgGet (s : State) (F₀ : Fld) (i₀ : Nat) (b₀ : Bool) (f o lo len : Nat) : (s.flag F₀ i₀ b₀).cfgGet f o lo len = s.cfgGet f o lo len := by
  unfold State.flag State.put State.setWord; split <;> rfl
@[simp] theorem State.flag_cfgBit (s : State) (F₀ : Fld) (i₀ : Nat) (b₀ : Bool) (f o i : Nat) : (s.flag F₀ i₀ b₀).cfgBit f o i = s.cfgBit f o i := by
  unfold State.flag State.put State.setWord; split <;> rfl
@[simp] theorem State.flag_msixWord (s : State) (F₀ : Fld) (i₀ : Nat) (b₀ : Bool) (f e j : Nat) : (s.flag F₀ i₀ b₀).msixWord f e j = s.msixWord f e j := by
  unfold State.flag State.put State.setWord; split <;> rfl
@[simp] theorem State.flag_host (s : State) (F₀ : Fld) (i₀ : Nat) (b₀ : Bool) (h : Nat) : (s.flag F₀ i₀ b₀).host h = s.host h := by
  unfold State.flag State.put State.setWord; split <;> rfl
@[simp] theorem State.flag_func (s : State) (F₀ : Fld) (i₀ : Nat) (b₀ : Bool) (f : Nat) : (s.flag F₀ i₀ b₀).func f = s.func f := by
  unfold State.flag State.put State.setWord; split <;> rfl
@[simp] theorem State.flag_txn (s : State) (F₀ : Fld) (i₀ : Nat) (b₀ : Bool) (c : Nat) : (s.flag F₀ i₀ b₀).txn c = s.txn c := by
  unfold State.flag State.put State.setWord; split <;> rfl
@[simp] theorem State.flag_port (s : State) (F₀ : Fld) (i₀ : Nat) (b₀ : Bool) (p : Nat) : (s.flag F₀ i₀ b₀).port p = s.port p := by
  unfold State.flag State.put State.setWord; split <;> rfl
@[simp] theorem State.flag_lane (s : State) (F₀ : Fld) (i₀ : Nat) (b₀ : Bool) (l : Nat) : (s.flag F₀ i₀ b₀).lane l = s.lane l := by
  unfold State.flag State.put State.setWord; split <;> rfl
@[simp] theorem State.flag_queue (s : State) (F₀ : Fld) (i₀ : Nat) (b₀ : Bool) (q : Nat) : (s.flag F₀ i₀ b₀).queue q = s.queue q := by
  unfold State.flag State.put State.setWord; split <;> rfl
@[simp] theorem State.flag_eng (s : State) (F₀ : Fld) (i₀ : Nat) (b₀ : Bool) (e : Nat) : (s.flag F₀ i₀ b₀).eng e = s.eng e := by
  unfold State.flag State.put State.setWord; split <;> rfl
@[simp] theorem State.flag_peg (s : State) (F₀ : Fld) (i₀ : Nat) (b₀ : Bool) (i : Nat) : (s.flag F₀ i₀ b₀).peg i = s.peg i := by
  unfold State.flag State.put State.setWord; split <;> rfl
@[simp] theorem State.flag_ctr (s : State) (F₀ : Fld) (i₀ : Nat) (b₀ : Bool) (o : Nat) : (s.flag F₀ i₀ b₀).ctr o = s.ctr o := by
  unfold State.flag State.put State.setWord; split <;> rfl
@[simp] theorem State.flag_due (s : State) (F₀ : Fld) (i₀ : Nat) (b₀ : Bool) (t : Timer) : (s.flag F₀ i₀ b₀).due t = s.due t := by
  unfold State.flag State.put State.setWord; split <;> rfl
@[simp] theorem State.flag_armed (s : State) (F₀ : Fld) (i₀ : Nat) (b₀ : Bool) (t : Timer) : (s.flag F₀ i₀ b₀).armed t = s.armed t := by
  unfold State.flag State.put State.setWord; split <;> rfl
@[simp] theorem State.flag_isUp (s : State) (F₀ : Fld) (i₀ : Nat) (b₀ : Bool) : (s.flag F₀ i₀ b₀).isUp = s.isUp := by
  unfold State.flag State.put State.setWord; split <;> rfl
@[simp] theorem State.flag_powered (s : State) (F₀ : Fld) (i₀ : Nat) (b₀ : Bool) : (s.flag F₀ i₀ b₀).powered = s.powered := by
  unfold State.flag State.put State.setWord; split <;> rfl

@[simp] theorem State.setCfg_pending (s : State) (f₀ o₀ : Nat) (w₀ : Dword) : (s.setCfg f₀ o₀ w₀).pending = s.pending := rfl
@[simp] theorem State.setCfg_phase (s : State) (f₀ o₀ : Nat) (w₀ : Dword) : (s.setCfg f₀ o₀ w₀).phase = s.phase := rfl
@[simp] theorem State.setCfg_clock (s : State) (f₀ o₀ : Nat) (w₀ : Dword) : (s.setCfg f₀ o₀ w₀).clock = s.clock := rfl
@[simp] theorem State.setCfg_devtime (s : State) (f₀ o₀ : Nat) (w₀ : Dword) : (s.setCfg f₀ o₀ w₀).devtime = s.devtime := rfl
@[simp] theorem State.setCfg_slew (s : State) (f₀ o₀ : Nat) (w₀ : Dword) : (s.setCfg f₀ o₀ w₀).slew = s.slew := rfl
@[simp] theorem State.setCfg_slewFrac (s : State) (f₀ o₀ : Nat) (w₀ : Dword) : (s.setCfg f₀ o₀ w₀).slewFrac = s.slewFrac := rfl
@[simp] theorem State.setCfg_regs (s : State) (f₀ o₀ : Nat) (w₀ : Dword) : (s.setCfg f₀ o₀ w₀).regs = s.regs := rfl
@[simp] theorem State.setCfg_ctrs (s : State) (f₀ o₀ : Nat) (w₀ : Dword) : (s.setCfg f₀ o₀ w₀).ctrs = s.ctrs := rfl
@[simp] theorem State.setCfg_bankA (s : State) (f₀ o₀ : Nat) (w₀ : Dword) : (s.setCfg f₀ o₀ w₀).bankA = s.bankA := rfl
@[simp] theorem State.setCfg_bankB (s : State) (f₀ o₀ : Nat) (w₀ : Dword) : (s.setCfg f₀ o₀ w₀).bankB = s.bankB := rfl
@[simp] theorem State.setCfg_msix (s : State) (f₀ o₀ : Nat) (w₀ : Dword) : (s.setCfg f₀ o₀ w₀).msix = s.msix := rfl
@[simp] theorem State.setCfg_pba (s : State) (f₀ o₀ : Nat) (w₀ : Dword) : (s.setCfg f₀ o₀ w₀).pba = s.pba := rfl
@[simp] theorem State.setCfg_fuses (s : State) (f₀ o₀ : Nat) (w₀ : Dword) : (s.setCfg f₀ o₀ w₀).fuses = s.fuses := rfl
@[simp] theorem State.setCfg_timers (s : State) (f₀ o₀ : Nat) (w₀ : Dword) : (s.setCfg f₀ o₀ w₀).timers = s.timers := rfl
@[simp] theorem State.setCfg_rss (s : State) (f₀ o₀ : Nat) (w₀ : Dword) : (s.setCfg f₀ o₀ w₀).rss = s.rss := rfl
@[simp] theorem State.setCfg_hosts (s : State) (f₀ o₀ : Nat) (w₀ : Dword) : (s.setCfg f₀ o₀ w₀).hosts = s.hosts := rfl
@[simp] theorem State.setCfg_funcs (s : State) (f₀ o₀ : Nat) (w₀ : Dword) : (s.setCfg f₀ o₀ w₀).funcs = s.funcs := rfl
@[simp] theorem State.setCfg_txns (s : State) (f₀ o₀ : Nat) (w₀ : Dword) : (s.setCfg f₀ o₀ w₀).txns = s.txns := rfl
@[simp] theorem State.setCfg_commits (s : State) (f₀ o₀ : Nat) (w₀ : Dword) : (s.setCfg f₀ o₀ w₀).commits = s.commits := rfl
@[simp] theorem State.setCfg_ports (s : State) (f₀ o₀ : Nat) (w₀ : Dword) : (s.setCfg f₀ o₀ w₀).ports = s.ports := rfl
@[simp] theorem State.setCfg_lanes (s : State) (f₀ o₀ : Nat) (w₀ : Dword) : (s.setCfg f₀ o₀ w₀).lanes = s.lanes := rfl
@[simp] theorem State.setCfg_queues (s : State) (f₀ o₀ : Nat) (w₀ : Dword) : (s.setCfg f₀ o₀ w₀).queues = s.queues := rfl
@[simp] theorem State.setCfg_engines (s : State) (f₀ o₀ : Nat) (w₀ : Dword) : (s.setCfg f₀ o₀ w₀).engines = s.engines := rfl
@[simp] theorem State.setCfg_pegs (s : State) (f₀ o₀ : Nat) (w₀ : Dword) : (s.setCfg f₀ o₀ w₀).pegs = s.pegs := rfl
@[simp] theorem State.setCfg_vecs (s : State) (f₀ o₀ : Nat) (w₀ : Dword) : (s.setCfg f₀ o₀ w₀).vecs = s.vecs := rfl
@[simp] theorem State.setCfg_freed (s : State) (f₀ o₀ : Nat) (w₀ : Dword) : (s.setCfg f₀ o₀ w₀).freed = s.freed := rfl
@[simp] theorem State.setCfg_brace (s : State) (f₀ o₀ : Nat) (w₀ : Dword) : (s.setCfg f₀ o₀ w₀).brace = s.brace := rfl
@[simp] theorem State.setCfg_ridge (s : State) (f₀ o₀ : Nat) (w₀ : Dword) : (s.setCfg f₀ o₀ w₀).ridge = s.ridge := rfl
@[simp] theorem State.setCfg_plumb (s : State) (f₀ o₀ : Nat) (w₀ : Dword) : (s.setCfg f₀ o₀ w₀).plumb = s.plumb := rfl
@[simp] theorem State.setCfg_scribe (s : State) (f₀ o₀ : Nat) (w₀ : Dword) : (s.setCfg f₀ o₀ w₀).scribe = s.scribe := rfl
@[simp] theorem State.setCfg_pins (s : State) (f₀ o₀ : Nat) (w₀ : Dword) : (s.setCfg f₀ o₀ w₀).pins = s.pins := rfl
@[simp] theorem State.setCfg_restore (s : State) (f₀ o₀ : Nat) (w₀ : Dword) : (s.setCfg f₀ o₀ w₀).restore = s.restore := rfl
@[simp] theorem State.setCfg_plankGen (s : State) (f₀ o₀ : Nat) (w₀ : Dword) : (s.setCfg f₀ o₀ w₀).plankGen = s.plankGen := rfl
@[simp] theorem State.setCfg_plankTime (s : State) (f₀ o₀ : Nat) (w₀ : Dword) : (s.setCfg f₀ o₀ w₀).plankTime = s.plankTime := rfl
@[simp] theorem State.setCfg_planks (s : State) (f₀ o₀ : Nat) (w₀ : Dword) : (s.setCfg f₀ o₀ w₀).planks = s.planks := rfl
@[simp] theorem State.setCfg_served (s : State) (f₀ o₀ : Nat) (w₀ : Dword) : (s.setCfg f₀ o₀ w₀).served = s.served := rfl
@[simp] theorem State.setCfg_waking (s : State) (f₀ o₀ : Nat) (w₀ : Dword) : (s.setCfg f₀ o₀ w₀).waking = s.waking := rfl
@[simp] theorem State.setCfg_warm (s : State) (f₀ o₀ : Nat) (w₀ : Dword) : (s.setCfg f₀ o₀ w₀).warm = s.warm := rfl
@[simp] theorem State.setCfg_damaged (s : State) (f₀ o₀ : Nat) (w₀ : Dword) : (s.setCfg f₀ o₀ w₀).damaged = s.damaged := rfl
@[simp] theorem State.setCfg_scrubAt (s : State) (f₀ o₀ : Nat) (w₀ : Dword) : (s.setCfg f₀ o₀ w₀).scrubAt = s.scrubAt := rfl
@[simp] theorem State.setCfg_ring (s : State) (f₀ o₀ : Nat) (w₀ : Dword) : (s.setCfg f₀ o₀ w₀).ring = s.ring := rfl
@[simp] theorem State.setCfg_nextId (s : State) (f₀ o₀ : Nat) (w₀ : Dword) : (s.setCfg f₀ o₀ w₀).nextId = s.nextId := rfl
@[simp] theorem State.setCfg_freeCtr (s : State) (f₀ o₀ : Nat) (w₀ : Dword) : (s.setCfg f₀ o₀ w₀).freeCtr = s.freeCtr := rfl
@[simp] theorem State.setCfg_sent (s : State) (f₀ o₀ : Nat) (w₀ : Dword) : (s.setCfg f₀ o₀ w₀).sent = s.sent := rfl
@[simp] theorem State.setCfg_word (s : State) (f₀ o₀ : Nat) (w₀ : Dword) (k : RegKind) (i : Nat) : (s.setCfg f₀ o₀ w₀).word k i = s.word k i := rfl
@[simp] theorem State.setCfg_get (s : State) (f₀ o₀ : Nat) (w₀ : Dword) (F : Fld) (i : Nat) : (s.setCfg f₀ o₀ w₀).get F i = s.get F i := rfl
@[simp] theorem State.setCfg_on (s : State) (f₀ o₀ : Nat) (w₀ : Dword) (F : Fld) (i : Nat) : (s.setCfg f₀ o₀ w₀).on F i = s.on F i := rfl
@[simp] theorem State.setCfg_region (s : State) (f₀ o₀ : Nat) (w₀ : Dword) (r : Nat) : (s.setCfg f₀ o₀ w₀).region r = s.region r := rfl
@[simp] theorem State.setCfg_msixWord (s : State) (f₀ o₀ : Nat) (w₀ : Dword) (f e j : Nat) : (s.setCfg f₀ o₀ w₀).msixWord f e j = s.msixWord f e j := rfl
@[simp] theorem State.setCfg_host (s : State) (f₀ o₀ : Nat) (w₀ : Dword) (h : Nat) : (s.setCfg f₀ o₀ w₀).host h = s.host h := rfl
@[simp] theorem State.setCfg_func (s : State) (f₀ o₀ : Nat) (w₀ : Dword) (f : Nat) : (s.setCfg f₀ o₀ w₀).func f = s.func f := rfl
@[simp] theorem State.setCfg_txn (s : State) (f₀ o₀ : Nat) (w₀ : Dword) (c : Nat) : (s.setCfg f₀ o₀ w₀).txn c = s.txn c := rfl
@[simp] theorem State.setCfg_port (s : State) (f₀ o₀ : Nat) (w₀ : Dword) (p : Nat) : (s.setCfg f₀ o₀ w₀).port p = s.port p := rfl
@[simp] theorem State.setCfg_lane (s : State) (f₀ o₀ : Nat) (w₀ : Dword) (l : Nat) : (s.setCfg f₀ o₀ w₀).lane l = s.lane l := rfl
@[simp] theorem State.setCfg_queue (s : State) (f₀ o₀ : Nat) (w₀ : Dword) (q : Nat) : (s.setCfg f₀ o₀ w₀).queue q = s.queue q := rfl
@[simp] theorem State.setCfg_eng (s : State) (f₀ o₀ : Nat) (w₀ : Dword) (e : Nat) : (s.setCfg f₀ o₀ w₀).eng e = s.eng e := rfl
@[simp] theorem State.setCfg_peg (s : State) (f₀ o₀ : Nat) (w₀ : Dword) (i : Nat) : (s.setCfg f₀ o₀ w₀).peg i = s.peg i := rfl
@[simp] theorem State.setCfg_ctr (s : State) (f₀ o₀ : Nat) (w₀ : Dword) (o : Nat) : (s.setCfg f₀ o₀ w₀).ctr o = s.ctr o := rfl
@[simp] theorem State.setCfg_due (s : State) (f₀ o₀ : Nat) (w₀ : Dword) (t : Timer) : (s.setCfg f₀ o₀ w₀).due t = s.due t := rfl
@[simp] theorem State.setCfg_armed (s : State) (f₀ o₀ : Nat) (w₀ : Dword) (t : Timer) : (s.setCfg f₀ o₀ w₀).armed t = s.armed t := rfl
@[simp] theorem State.setCfg_isUp (s : State) (f₀ o₀ : Nat) (w₀ : Dword) : (s.setCfg f₀ o₀ w₀).isUp = s.isUp := rfl
@[simp] theorem State.setCfg_powered (s : State) (f₀ o₀ : Nat) (w₀ : Dword) : (s.setCfg f₀ o₀ w₀).powered = s.powered := rfl

@[simp] theorem State.setCtr_pending (s : State) (o₀ : Nat) (w₀ : Word) : (s.setCtr o₀ w₀).pending = s.pending := rfl
@[simp] theorem State.setCtr_phase (s : State) (o₀ : Nat) (w₀ : Word) : (s.setCtr o₀ w₀).phase = s.phase := rfl
@[simp] theorem State.setCtr_clock (s : State) (o₀ : Nat) (w₀ : Word) : (s.setCtr o₀ w₀).clock = s.clock := rfl
@[simp] theorem State.setCtr_devtime (s : State) (o₀ : Nat) (w₀ : Word) : (s.setCtr o₀ w₀).devtime = s.devtime := rfl
@[simp] theorem State.setCtr_slew (s : State) (o₀ : Nat) (w₀ : Word) : (s.setCtr o₀ w₀).slew = s.slew := rfl
@[simp] theorem State.setCtr_slewFrac (s : State) (o₀ : Nat) (w₀ : Word) : (s.setCtr o₀ w₀).slewFrac = s.slewFrac := rfl
@[simp] theorem State.setCtr_regs (s : State) (o₀ : Nat) (w₀ : Word) : (s.setCtr o₀ w₀).regs = s.regs := rfl
@[simp] theorem State.setCtr_bankA (s : State) (o₀ : Nat) (w₀ : Word) : (s.setCtr o₀ w₀).bankA = s.bankA := rfl
@[simp] theorem State.setCtr_bankB (s : State) (o₀ : Nat) (w₀ : Word) : (s.setCtr o₀ w₀).bankB = s.bankB := rfl
@[simp] theorem State.setCtr_cfg (s : State) (o₀ : Nat) (w₀ : Word) : (s.setCtr o₀ w₀).cfg = s.cfg := rfl
@[simp] theorem State.setCtr_msix (s : State) (o₀ : Nat) (w₀ : Word) : (s.setCtr o₀ w₀).msix = s.msix := rfl
@[simp] theorem State.setCtr_pba (s : State) (o₀ : Nat) (w₀ : Word) : (s.setCtr o₀ w₀).pba = s.pba := rfl
@[simp] theorem State.setCtr_fuses (s : State) (o₀ : Nat) (w₀ : Word) : (s.setCtr o₀ w₀).fuses = s.fuses := rfl
@[simp] theorem State.setCtr_timers (s : State) (o₀ : Nat) (w₀ : Word) : (s.setCtr o₀ w₀).timers = s.timers := rfl
@[simp] theorem State.setCtr_rss (s : State) (o₀ : Nat) (w₀ : Word) : (s.setCtr o₀ w₀).rss = s.rss := rfl
@[simp] theorem State.setCtr_hosts (s : State) (o₀ : Nat) (w₀ : Word) : (s.setCtr o₀ w₀).hosts = s.hosts := rfl
@[simp] theorem State.setCtr_funcs (s : State) (o₀ : Nat) (w₀ : Word) : (s.setCtr o₀ w₀).funcs = s.funcs := rfl
@[simp] theorem State.setCtr_txns (s : State) (o₀ : Nat) (w₀ : Word) : (s.setCtr o₀ w₀).txns = s.txns := rfl
@[simp] theorem State.setCtr_commits (s : State) (o₀ : Nat) (w₀ : Word) : (s.setCtr o₀ w₀).commits = s.commits := rfl
@[simp] theorem State.setCtr_ports (s : State) (o₀ : Nat) (w₀ : Word) : (s.setCtr o₀ w₀).ports = s.ports := rfl
@[simp] theorem State.setCtr_lanes (s : State) (o₀ : Nat) (w₀ : Word) : (s.setCtr o₀ w₀).lanes = s.lanes := rfl
@[simp] theorem State.setCtr_queues (s : State) (o₀ : Nat) (w₀ : Word) : (s.setCtr o₀ w₀).queues = s.queues := rfl
@[simp] theorem State.setCtr_engines (s : State) (o₀ : Nat) (w₀ : Word) : (s.setCtr o₀ w₀).engines = s.engines := rfl
@[simp] theorem State.setCtr_pegs (s : State) (o₀ : Nat) (w₀ : Word) : (s.setCtr o₀ w₀).pegs = s.pegs := rfl
@[simp] theorem State.setCtr_vecs (s : State) (o₀ : Nat) (w₀ : Word) : (s.setCtr o₀ w₀).vecs = s.vecs := rfl
@[simp] theorem State.setCtr_freed (s : State) (o₀ : Nat) (w₀ : Word) : (s.setCtr o₀ w₀).freed = s.freed := rfl
@[simp] theorem State.setCtr_brace (s : State) (o₀ : Nat) (w₀ : Word) : (s.setCtr o₀ w₀).brace = s.brace := rfl
@[simp] theorem State.setCtr_ridge (s : State) (o₀ : Nat) (w₀ : Word) : (s.setCtr o₀ w₀).ridge = s.ridge := rfl
@[simp] theorem State.setCtr_plumb (s : State) (o₀ : Nat) (w₀ : Word) : (s.setCtr o₀ w₀).plumb = s.plumb := rfl
@[simp] theorem State.setCtr_scribe (s : State) (o₀ : Nat) (w₀ : Word) : (s.setCtr o₀ w₀).scribe = s.scribe := rfl
@[simp] theorem State.setCtr_pins (s : State) (o₀ : Nat) (w₀ : Word) : (s.setCtr o₀ w₀).pins = s.pins := rfl
@[simp] theorem State.setCtr_restore (s : State) (o₀ : Nat) (w₀ : Word) : (s.setCtr o₀ w₀).restore = s.restore := rfl
@[simp] theorem State.setCtr_plankGen (s : State) (o₀ : Nat) (w₀ : Word) : (s.setCtr o₀ w₀).plankGen = s.plankGen := rfl
@[simp] theorem State.setCtr_plankTime (s : State) (o₀ : Nat) (w₀ : Word) : (s.setCtr o₀ w₀).plankTime = s.plankTime := rfl
@[simp] theorem State.setCtr_planks (s : State) (o₀ : Nat) (w₀ : Word) : (s.setCtr o₀ w₀).planks = s.planks := rfl
@[simp] theorem State.setCtr_served (s : State) (o₀ : Nat) (w₀ : Word) : (s.setCtr o₀ w₀).served = s.served := rfl
@[simp] theorem State.setCtr_waking (s : State) (o₀ : Nat) (w₀ : Word) : (s.setCtr o₀ w₀).waking = s.waking := rfl
@[simp] theorem State.setCtr_warm (s : State) (o₀ : Nat) (w₀ : Word) : (s.setCtr o₀ w₀).warm = s.warm := rfl
@[simp] theorem State.setCtr_damaged (s : State) (o₀ : Nat) (w₀ : Word) : (s.setCtr o₀ w₀).damaged = s.damaged := rfl
@[simp] theorem State.setCtr_scrubAt (s : State) (o₀ : Nat) (w₀ : Word) : (s.setCtr o₀ w₀).scrubAt = s.scrubAt := rfl
@[simp] theorem State.setCtr_ring (s : State) (o₀ : Nat) (w₀ : Word) : (s.setCtr o₀ w₀).ring = s.ring := rfl
@[simp] theorem State.setCtr_nextId (s : State) (o₀ : Nat) (w₀ : Word) : (s.setCtr o₀ w₀).nextId = s.nextId := rfl
@[simp] theorem State.setCtr_freeCtr (s : State) (o₀ : Nat) (w₀ : Word) : (s.setCtr o₀ w₀).freeCtr = s.freeCtr := rfl
@[simp] theorem State.setCtr_sent (s : State) (o₀ : Nat) (w₀ : Word) : (s.setCtr o₀ w₀).sent = s.sent := rfl
@[simp] theorem State.setCtr_word (s : State) (o₀ : Nat) (w₀ : Word) (k : RegKind) (i : Nat) : (s.setCtr o₀ w₀).word k i = s.word k i := rfl
@[simp] theorem State.setCtr_get (s : State) (o₀ : Nat) (w₀ : Word) (F : Fld) (i : Nat) : (s.setCtr o₀ w₀).get F i = s.get F i := rfl
@[simp] theorem State.setCtr_on (s : State) (o₀ : Nat) (w₀ : Word) (F : Fld) (i : Nat) : (s.setCtr o₀ w₀).on F i = s.on F i := rfl
@[simp] theorem State.setCtr_region (s : State) (o₀ : Nat) (w₀ : Word) (r : Nat) : (s.setCtr o₀ w₀).region r = s.region r := rfl
@[simp] theorem State.setCtr_cfgWord (s : State) (o₀ : Nat) (w₀ : Word) (f o : Nat) : (s.setCtr o₀ w₀).cfgWord f o = s.cfgWord f o := rfl
@[simp] theorem State.setCtr_cfgGet (s : State) (o₀ : Nat) (w₀ : Word) (f o lo len : Nat) : (s.setCtr o₀ w₀).cfgGet f o lo len = s.cfgGet f o lo len := rfl
@[simp] theorem State.setCtr_cfgBit (s : State) (o₀ : Nat) (w₀ : Word) (f o i : Nat) : (s.setCtr o₀ w₀).cfgBit f o i = s.cfgBit f o i := rfl
@[simp] theorem State.setCtr_msixWord (s : State) (o₀ : Nat) (w₀ : Word) (f e j : Nat) : (s.setCtr o₀ w₀).msixWord f e j = s.msixWord f e j := rfl
@[simp] theorem State.setCtr_host (s : State) (o₀ : Nat) (w₀ : Word) (h : Nat) : (s.setCtr o₀ w₀).host h = s.host h := rfl
@[simp] theorem State.setCtr_func (s : State) (o₀ : Nat) (w₀ : Word) (f : Nat) : (s.setCtr o₀ w₀).func f = s.func f := rfl
@[simp] theorem State.setCtr_txn (s : State) (o₀ : Nat) (w₀ : Word) (c : Nat) : (s.setCtr o₀ w₀).txn c = s.txn c := rfl
@[simp] theorem State.setCtr_port (s : State) (o₀ : Nat) (w₀ : Word) (p : Nat) : (s.setCtr o₀ w₀).port p = s.port p := rfl
@[simp] theorem State.setCtr_lane (s : State) (o₀ : Nat) (w₀ : Word) (l : Nat) : (s.setCtr o₀ w₀).lane l = s.lane l := rfl
@[simp] theorem State.setCtr_queue (s : State) (o₀ : Nat) (w₀ : Word) (q : Nat) : (s.setCtr o₀ w₀).queue q = s.queue q := rfl
@[simp] theorem State.setCtr_eng (s : State) (o₀ : Nat) (w₀ : Word) (e : Nat) : (s.setCtr o₀ w₀).eng e = s.eng e := rfl
@[simp] theorem State.setCtr_peg (s : State) (o₀ : Nat) (w₀ : Word) (i : Nat) : (s.setCtr o₀ w₀).peg i = s.peg i := rfl
@[simp] theorem State.setCtr_due (s : State) (o₀ : Nat) (w₀ : Word) (t : Timer) : (s.setCtr o₀ w₀).due t = s.due t := rfl
@[simp] theorem State.setCtr_armed (s : State) (o₀ : Nat) (w₀ : Word) (t : Timer) : (s.setCtr o₀ w₀).armed t = s.armed t := rfl
@[simp] theorem State.setCtr_isUp (s : State) (o₀ : Nat) (w₀ : Word) : (s.setCtr o₀ w₀).isUp = s.isUp := rfl
@[simp] theorem State.setCtr_powered (s : State) (o₀ : Nat) (w₀ : Word) : (s.setCtr o₀ w₀).powered = s.powered := rfl

@[simp] theorem State.bumpBy_pending (s : State) (o₀ n₀ : Nat) : (s.bumpBy o₀ n₀).pending = s.pending := rfl
@[simp] theorem State.bumpBy_phase (s : State) (o₀ n₀ : Nat) : (s.bumpBy o₀ n₀).phase = s.phase := rfl
@[simp] theorem State.bumpBy_clock (s : State) (o₀ n₀ : Nat) : (s.bumpBy o₀ n₀).clock = s.clock := rfl
@[simp] theorem State.bumpBy_devtime (s : State) (o₀ n₀ : Nat) : (s.bumpBy o₀ n₀).devtime = s.devtime := rfl
@[simp] theorem State.bumpBy_slew (s : State) (o₀ n₀ : Nat) : (s.bumpBy o₀ n₀).slew = s.slew := rfl
@[simp] theorem State.bumpBy_slewFrac (s : State) (o₀ n₀ : Nat) : (s.bumpBy o₀ n₀).slewFrac = s.slewFrac := rfl
@[simp] theorem State.bumpBy_regs (s : State) (o₀ n₀ : Nat) : (s.bumpBy o₀ n₀).regs = s.regs := rfl
@[simp] theorem State.bumpBy_bankA (s : State) (o₀ n₀ : Nat) : (s.bumpBy o₀ n₀).bankA = s.bankA := rfl
@[simp] theorem State.bumpBy_bankB (s : State) (o₀ n₀ : Nat) : (s.bumpBy o₀ n₀).bankB = s.bankB := rfl
@[simp] theorem State.bumpBy_cfg (s : State) (o₀ n₀ : Nat) : (s.bumpBy o₀ n₀).cfg = s.cfg := rfl
@[simp] theorem State.bumpBy_msix (s : State) (o₀ n₀ : Nat) : (s.bumpBy o₀ n₀).msix = s.msix := rfl
@[simp] theorem State.bumpBy_pba (s : State) (o₀ n₀ : Nat) : (s.bumpBy o₀ n₀).pba = s.pba := rfl
@[simp] theorem State.bumpBy_fuses (s : State) (o₀ n₀ : Nat) : (s.bumpBy o₀ n₀).fuses = s.fuses := rfl
@[simp] theorem State.bumpBy_timers (s : State) (o₀ n₀ : Nat) : (s.bumpBy o₀ n₀).timers = s.timers := rfl
@[simp] theorem State.bumpBy_rss (s : State) (o₀ n₀ : Nat) : (s.bumpBy o₀ n₀).rss = s.rss := rfl
@[simp] theorem State.bumpBy_hosts (s : State) (o₀ n₀ : Nat) : (s.bumpBy o₀ n₀).hosts = s.hosts := rfl
@[simp] theorem State.bumpBy_funcs (s : State) (o₀ n₀ : Nat) : (s.bumpBy o₀ n₀).funcs = s.funcs := rfl
@[simp] theorem State.bumpBy_txns (s : State) (o₀ n₀ : Nat) : (s.bumpBy o₀ n₀).txns = s.txns := rfl
@[simp] theorem State.bumpBy_commits (s : State) (o₀ n₀ : Nat) : (s.bumpBy o₀ n₀).commits = s.commits := rfl
@[simp] theorem State.bumpBy_ports (s : State) (o₀ n₀ : Nat) : (s.bumpBy o₀ n₀).ports = s.ports := rfl
@[simp] theorem State.bumpBy_lanes (s : State) (o₀ n₀ : Nat) : (s.bumpBy o₀ n₀).lanes = s.lanes := rfl
@[simp] theorem State.bumpBy_queues (s : State) (o₀ n₀ : Nat) : (s.bumpBy o₀ n₀).queues = s.queues := rfl
@[simp] theorem State.bumpBy_engines (s : State) (o₀ n₀ : Nat) : (s.bumpBy o₀ n₀).engines = s.engines := rfl
@[simp] theorem State.bumpBy_pegs (s : State) (o₀ n₀ : Nat) : (s.bumpBy o₀ n₀).pegs = s.pegs := rfl
@[simp] theorem State.bumpBy_vecs (s : State) (o₀ n₀ : Nat) : (s.bumpBy o₀ n₀).vecs = s.vecs := rfl
@[simp] theorem State.bumpBy_freed (s : State) (o₀ n₀ : Nat) : (s.bumpBy o₀ n₀).freed = s.freed := rfl
@[simp] theorem State.bumpBy_brace (s : State) (o₀ n₀ : Nat) : (s.bumpBy o₀ n₀).brace = s.brace := rfl
@[simp] theorem State.bumpBy_ridge (s : State) (o₀ n₀ : Nat) : (s.bumpBy o₀ n₀).ridge = s.ridge := rfl
@[simp] theorem State.bumpBy_plumb (s : State) (o₀ n₀ : Nat) : (s.bumpBy o₀ n₀).plumb = s.plumb := rfl
@[simp] theorem State.bumpBy_scribe (s : State) (o₀ n₀ : Nat) : (s.bumpBy o₀ n₀).scribe = s.scribe := rfl
@[simp] theorem State.bumpBy_pins (s : State) (o₀ n₀ : Nat) : (s.bumpBy o₀ n₀).pins = s.pins := rfl
@[simp] theorem State.bumpBy_restore (s : State) (o₀ n₀ : Nat) : (s.bumpBy o₀ n₀).restore = s.restore := rfl
@[simp] theorem State.bumpBy_plankGen (s : State) (o₀ n₀ : Nat) : (s.bumpBy o₀ n₀).plankGen = s.plankGen := rfl
@[simp] theorem State.bumpBy_plankTime (s : State) (o₀ n₀ : Nat) : (s.bumpBy o₀ n₀).plankTime = s.plankTime := rfl
@[simp] theorem State.bumpBy_planks (s : State) (o₀ n₀ : Nat) : (s.bumpBy o₀ n₀).planks = s.planks := rfl
@[simp] theorem State.bumpBy_served (s : State) (o₀ n₀ : Nat) : (s.bumpBy o₀ n₀).served = s.served := rfl
@[simp] theorem State.bumpBy_waking (s : State) (o₀ n₀ : Nat) : (s.bumpBy o₀ n₀).waking = s.waking := rfl
@[simp] theorem State.bumpBy_warm (s : State) (o₀ n₀ : Nat) : (s.bumpBy o₀ n₀).warm = s.warm := rfl
@[simp] theorem State.bumpBy_damaged (s : State) (o₀ n₀ : Nat) : (s.bumpBy o₀ n₀).damaged = s.damaged := rfl
@[simp] theorem State.bumpBy_scrubAt (s : State) (o₀ n₀ : Nat) : (s.bumpBy o₀ n₀).scrubAt = s.scrubAt := rfl
@[simp] theorem State.bumpBy_ring (s : State) (o₀ n₀ : Nat) : (s.bumpBy o₀ n₀).ring = s.ring := rfl
@[simp] theorem State.bumpBy_nextId (s : State) (o₀ n₀ : Nat) : (s.bumpBy o₀ n₀).nextId = s.nextId := rfl
@[simp] theorem State.bumpBy_freeCtr (s : State) (o₀ n₀ : Nat) : (s.bumpBy o₀ n₀).freeCtr = s.freeCtr := rfl
@[simp] theorem State.bumpBy_sent (s : State) (o₀ n₀ : Nat) : (s.bumpBy o₀ n₀).sent = s.sent := rfl
@[simp] theorem State.bumpBy_word (s : State) (o₀ n₀ : Nat) (k : RegKind) (i : Nat) : (s.bumpBy o₀ n₀).word k i = s.word k i := rfl
@[simp] theorem State.bumpBy_get (s : State) (o₀ n₀ : Nat) (F : Fld) (i : Nat) : (s.bumpBy o₀ n₀).get F i = s.get F i := rfl
@[simp] theorem State.bumpBy_on (s : State) (o₀ n₀ : Nat) (F : Fld) (i : Nat) : (s.bumpBy o₀ n₀).on F i = s.on F i := rfl
@[simp] theorem State.bumpBy_region (s : State) (o₀ n₀ : Nat) (r : Nat) : (s.bumpBy o₀ n₀).region r = s.region r := rfl
@[simp] theorem State.bumpBy_cfgWord (s : State) (o₀ n₀ : Nat) (f o : Nat) : (s.bumpBy o₀ n₀).cfgWord f o = s.cfgWord f o := rfl
@[simp] theorem State.bumpBy_cfgGet (s : State) (o₀ n₀ : Nat) (f o lo len : Nat) : (s.bumpBy o₀ n₀).cfgGet f o lo len = s.cfgGet f o lo len := rfl
@[simp] theorem State.bumpBy_cfgBit (s : State) (o₀ n₀ : Nat) (f o i : Nat) : (s.bumpBy o₀ n₀).cfgBit f o i = s.cfgBit f o i := rfl
@[simp] theorem State.bumpBy_msixWord (s : State) (o₀ n₀ : Nat) (f e j : Nat) : (s.bumpBy o₀ n₀).msixWord f e j = s.msixWord f e j := rfl
@[simp] theorem State.bumpBy_host (s : State) (o₀ n₀ : Nat) (h : Nat) : (s.bumpBy o₀ n₀).host h = s.host h := rfl
@[simp] theorem State.bumpBy_func (s : State) (o₀ n₀ : Nat) (f : Nat) : (s.bumpBy o₀ n₀).func f = s.func f := rfl
@[simp] theorem State.bumpBy_txn (s : State) (o₀ n₀ : Nat) (c : Nat) : (s.bumpBy o₀ n₀).txn c = s.txn c := rfl
@[simp] theorem State.bumpBy_port (s : State) (o₀ n₀ : Nat) (p : Nat) : (s.bumpBy o₀ n₀).port p = s.port p := rfl
@[simp] theorem State.bumpBy_lane (s : State) (o₀ n₀ : Nat) (l : Nat) : (s.bumpBy o₀ n₀).lane l = s.lane l := rfl
@[simp] theorem State.bumpBy_queue (s : State) (o₀ n₀ : Nat) (q : Nat) : (s.bumpBy o₀ n₀).queue q = s.queue q := rfl
@[simp] theorem State.bumpBy_eng (s : State) (o₀ n₀ : Nat) (e : Nat) : (s.bumpBy o₀ n₀).eng e = s.eng e := rfl
@[simp] theorem State.bumpBy_peg (s : State) (o₀ n₀ : Nat) (i : Nat) : (s.bumpBy o₀ n₀).peg i = s.peg i := rfl
@[simp] theorem State.bumpBy_due (s : State) (o₀ n₀ : Nat) (t : Timer) : (s.bumpBy o₀ n₀).due t = s.due t := rfl
@[simp] theorem State.bumpBy_armed (s : State) (o₀ n₀ : Nat) (t : Timer) : (s.bumpBy o₀ n₀).armed t = s.armed t := rfl
@[simp] theorem State.bumpBy_isUp (s : State) (o₀ n₀ : Nat) : (s.bumpBy o₀ n₀).isUp = s.isUp := rfl
@[simp] theorem State.bumpBy_powered (s : State) (o₀ n₀ : Nat) : (s.bumpBy o₀ n₀).powered = s.powered := rfl

@[simp] theorem State.bump_pending (s : State) (o₀ : Nat) : (s.bump o₀).pending = s.pending := rfl
@[simp] theorem State.bump_phase (s : State) (o₀ : Nat) : (s.bump o₀).phase = s.phase := rfl
@[simp] theorem State.bump_clock (s : State) (o₀ : Nat) : (s.bump o₀).clock = s.clock := rfl
@[simp] theorem State.bump_devtime (s : State) (o₀ : Nat) : (s.bump o₀).devtime = s.devtime := rfl
@[simp] theorem State.bump_slew (s : State) (o₀ : Nat) : (s.bump o₀).slew = s.slew := rfl
@[simp] theorem State.bump_slewFrac (s : State) (o₀ : Nat) : (s.bump o₀).slewFrac = s.slewFrac := rfl
@[simp] theorem State.bump_regs (s : State) (o₀ : Nat) : (s.bump o₀).regs = s.regs := rfl
@[simp] theorem State.bump_bankA (s : State) (o₀ : Nat) : (s.bump o₀).bankA = s.bankA := rfl
@[simp] theorem State.bump_bankB (s : State) (o₀ : Nat) : (s.bump o₀).bankB = s.bankB := rfl
@[simp] theorem State.bump_cfg (s : State) (o₀ : Nat) : (s.bump o₀).cfg = s.cfg := rfl
@[simp] theorem State.bump_msix (s : State) (o₀ : Nat) : (s.bump o₀).msix = s.msix := rfl
@[simp] theorem State.bump_pba (s : State) (o₀ : Nat) : (s.bump o₀).pba = s.pba := rfl
@[simp] theorem State.bump_fuses (s : State) (o₀ : Nat) : (s.bump o₀).fuses = s.fuses := rfl
@[simp] theorem State.bump_timers (s : State) (o₀ : Nat) : (s.bump o₀).timers = s.timers := rfl
@[simp] theorem State.bump_rss (s : State) (o₀ : Nat) : (s.bump o₀).rss = s.rss := rfl
@[simp] theorem State.bump_hosts (s : State) (o₀ : Nat) : (s.bump o₀).hosts = s.hosts := rfl
@[simp] theorem State.bump_funcs (s : State) (o₀ : Nat) : (s.bump o₀).funcs = s.funcs := rfl
@[simp] theorem State.bump_txns (s : State) (o₀ : Nat) : (s.bump o₀).txns = s.txns := rfl
@[simp] theorem State.bump_commits (s : State) (o₀ : Nat) : (s.bump o₀).commits = s.commits := rfl
@[simp] theorem State.bump_ports (s : State) (o₀ : Nat) : (s.bump o₀).ports = s.ports := rfl
@[simp] theorem State.bump_lanes (s : State) (o₀ : Nat) : (s.bump o₀).lanes = s.lanes := rfl
@[simp] theorem State.bump_queues (s : State) (o₀ : Nat) : (s.bump o₀).queues = s.queues := rfl
@[simp] theorem State.bump_engines (s : State) (o₀ : Nat) : (s.bump o₀).engines = s.engines := rfl
@[simp] theorem State.bump_pegs (s : State) (o₀ : Nat) : (s.bump o₀).pegs = s.pegs := rfl
@[simp] theorem State.bump_vecs (s : State) (o₀ : Nat) : (s.bump o₀).vecs = s.vecs := rfl
@[simp] theorem State.bump_freed (s : State) (o₀ : Nat) : (s.bump o₀).freed = s.freed := rfl
@[simp] theorem State.bump_brace (s : State) (o₀ : Nat) : (s.bump o₀).brace = s.brace := rfl
@[simp] theorem State.bump_ridge (s : State) (o₀ : Nat) : (s.bump o₀).ridge = s.ridge := rfl
@[simp] theorem State.bump_plumb (s : State) (o₀ : Nat) : (s.bump o₀).plumb = s.plumb := rfl
@[simp] theorem State.bump_scribe (s : State) (o₀ : Nat) : (s.bump o₀).scribe = s.scribe := rfl
@[simp] theorem State.bump_pins (s : State) (o₀ : Nat) : (s.bump o₀).pins = s.pins := rfl
@[simp] theorem State.bump_restore (s : State) (o₀ : Nat) : (s.bump o₀).restore = s.restore := rfl
@[simp] theorem State.bump_plankGen (s : State) (o₀ : Nat) : (s.bump o₀).plankGen = s.plankGen := rfl
@[simp] theorem State.bump_plankTime (s : State) (o₀ : Nat) : (s.bump o₀).plankTime = s.plankTime := rfl
@[simp] theorem State.bump_planks (s : State) (o₀ : Nat) : (s.bump o₀).planks = s.planks := rfl
@[simp] theorem State.bump_served (s : State) (o₀ : Nat) : (s.bump o₀).served = s.served := rfl
@[simp] theorem State.bump_waking (s : State) (o₀ : Nat) : (s.bump o₀).waking = s.waking := rfl
@[simp] theorem State.bump_warm (s : State) (o₀ : Nat) : (s.bump o₀).warm = s.warm := rfl
@[simp] theorem State.bump_damaged (s : State) (o₀ : Nat) : (s.bump o₀).damaged = s.damaged := rfl
@[simp] theorem State.bump_scrubAt (s : State) (o₀ : Nat) : (s.bump o₀).scrubAt = s.scrubAt := rfl
@[simp] theorem State.bump_ring (s : State) (o₀ : Nat) : (s.bump o₀).ring = s.ring := rfl
@[simp] theorem State.bump_nextId (s : State) (o₀ : Nat) : (s.bump o₀).nextId = s.nextId := rfl
@[simp] theorem State.bump_freeCtr (s : State) (o₀ : Nat) : (s.bump o₀).freeCtr = s.freeCtr := rfl
@[simp] theorem State.bump_sent (s : State) (o₀ : Nat) : (s.bump o₀).sent = s.sent := rfl
@[simp] theorem State.bump_word (s : State) (o₀ : Nat) (k : RegKind) (i : Nat) : (s.bump o₀).word k i = s.word k i := rfl
@[simp] theorem State.bump_get (s : State) (o₀ : Nat) (F : Fld) (i : Nat) : (s.bump o₀).get F i = s.get F i := rfl
@[simp] theorem State.bump_on (s : State) (o₀ : Nat) (F : Fld) (i : Nat) : (s.bump o₀).on F i = s.on F i := rfl
@[simp] theorem State.bump_region (s : State) (o₀ : Nat) (r : Nat) : (s.bump o₀).region r = s.region r := rfl
@[simp] theorem State.bump_cfgWord (s : State) (o₀ : Nat) (f o : Nat) : (s.bump o₀).cfgWord f o = s.cfgWord f o := rfl
@[simp] theorem State.bump_cfgGet (s : State) (o₀ : Nat) (f o lo len : Nat) : (s.bump o₀).cfgGet f o lo len = s.cfgGet f o lo len := rfl
@[simp] theorem State.bump_cfgBit (s : State) (o₀ : Nat) (f o i : Nat) : (s.bump o₀).cfgBit f o i = s.cfgBit f o i := rfl
@[simp] theorem State.bump_msixWord (s : State) (o₀ : Nat) (f e j : Nat) : (s.bump o₀).msixWord f e j = s.msixWord f e j := rfl
@[simp] theorem State.bump_host (s : State) (o₀ : Nat) (h : Nat) : (s.bump o₀).host h = s.host h := rfl
@[simp] theorem State.bump_func (s : State) (o₀ : Nat) (f : Nat) : (s.bump o₀).func f = s.func f := rfl
@[simp] theorem State.bump_txn (s : State) (o₀ : Nat) (c : Nat) : (s.bump o₀).txn c = s.txn c := rfl
@[simp] theorem State.bump_port (s : State) (o₀ : Nat) (p : Nat) : (s.bump o₀).port p = s.port p := rfl
@[simp] theorem State.bump_lane (s : State) (o₀ : Nat) (l : Nat) : (s.bump o₀).lane l = s.lane l := rfl
@[simp] theorem State.bump_queue (s : State) (o₀ : Nat) (q : Nat) : (s.bump o₀).queue q = s.queue q := rfl
@[simp] theorem State.bump_eng (s : State) (o₀ : Nat) (e : Nat) : (s.bump o₀).eng e = s.eng e := rfl
@[simp] theorem State.bump_peg (s : State) (o₀ : Nat) (i : Nat) : (s.bump o₀).peg i = s.peg i := rfl
@[simp] theorem State.bump_due (s : State) (o₀ : Nat) (t : Timer) : (s.bump o₀).due t = s.due t := rfl
@[simp] theorem State.bump_armed (s : State) (o₀ : Nat) (t : Timer) : (s.bump o₀).armed t = s.armed t := rfl
@[simp] theorem State.bump_isUp (s : State) (o₀ : Nat) : (s.bump o₀).isUp = s.isUp := rfl
@[simp] theorem State.bump_powered (s : State) (o₀ : Nat) : (s.bump o₀).powered = s.powered := rfl

@[simp] theorem State.setHost_pending (s : State) (k₀ : Nat) (d₀ : HostDyn) : (s.setHost k₀ d₀).pending = s.pending := rfl
@[simp] theorem State.setHost_phase (s : State) (k₀ : Nat) (d₀ : HostDyn) : (s.setHost k₀ d₀).phase = s.phase := rfl
@[simp] theorem State.setHost_clock (s : State) (k₀ : Nat) (d₀ : HostDyn) : (s.setHost k₀ d₀).clock = s.clock := rfl
@[simp] theorem State.setHost_devtime (s : State) (k₀ : Nat) (d₀ : HostDyn) : (s.setHost k₀ d₀).devtime = s.devtime := rfl
@[simp] theorem State.setHost_slew (s : State) (k₀ : Nat) (d₀ : HostDyn) : (s.setHost k₀ d₀).slew = s.slew := rfl
@[simp] theorem State.setHost_slewFrac (s : State) (k₀ : Nat) (d₀ : HostDyn) : (s.setHost k₀ d₀).slewFrac = s.slewFrac := rfl
@[simp] theorem State.setHost_regs (s : State) (k₀ : Nat) (d₀ : HostDyn) : (s.setHost k₀ d₀).regs = s.regs := rfl
@[simp] theorem State.setHost_ctrs (s : State) (k₀ : Nat) (d₀ : HostDyn) : (s.setHost k₀ d₀).ctrs = s.ctrs := rfl
@[simp] theorem State.setHost_bankA (s : State) (k₀ : Nat) (d₀ : HostDyn) : (s.setHost k₀ d₀).bankA = s.bankA := rfl
@[simp] theorem State.setHost_bankB (s : State) (k₀ : Nat) (d₀ : HostDyn) : (s.setHost k₀ d₀).bankB = s.bankB := rfl
@[simp] theorem State.setHost_cfg (s : State) (k₀ : Nat) (d₀ : HostDyn) : (s.setHost k₀ d₀).cfg = s.cfg := rfl
@[simp] theorem State.setHost_msix (s : State) (k₀ : Nat) (d₀ : HostDyn) : (s.setHost k₀ d₀).msix = s.msix := rfl
@[simp] theorem State.setHost_pba (s : State) (k₀ : Nat) (d₀ : HostDyn) : (s.setHost k₀ d₀).pba = s.pba := rfl
@[simp] theorem State.setHost_fuses (s : State) (k₀ : Nat) (d₀ : HostDyn) : (s.setHost k₀ d₀).fuses = s.fuses := rfl
@[simp] theorem State.setHost_timers (s : State) (k₀ : Nat) (d₀ : HostDyn) : (s.setHost k₀ d₀).timers = s.timers := rfl
@[simp] theorem State.setHost_rss (s : State) (k₀ : Nat) (d₀ : HostDyn) : (s.setHost k₀ d₀).rss = s.rss := rfl
@[simp] theorem State.setHost_funcs (s : State) (k₀ : Nat) (d₀ : HostDyn) : (s.setHost k₀ d₀).funcs = s.funcs := rfl
@[simp] theorem State.setHost_txns (s : State) (k₀ : Nat) (d₀ : HostDyn) : (s.setHost k₀ d₀).txns = s.txns := rfl
@[simp] theorem State.setHost_commits (s : State) (k₀ : Nat) (d₀ : HostDyn) : (s.setHost k₀ d₀).commits = s.commits := rfl
@[simp] theorem State.setHost_ports (s : State) (k₀ : Nat) (d₀ : HostDyn) : (s.setHost k₀ d₀).ports = s.ports := rfl
@[simp] theorem State.setHost_lanes (s : State) (k₀ : Nat) (d₀ : HostDyn) : (s.setHost k₀ d₀).lanes = s.lanes := rfl
@[simp] theorem State.setHost_queues (s : State) (k₀ : Nat) (d₀ : HostDyn) : (s.setHost k₀ d₀).queues = s.queues := rfl
@[simp] theorem State.setHost_engines (s : State) (k₀ : Nat) (d₀ : HostDyn) : (s.setHost k₀ d₀).engines = s.engines := rfl
@[simp] theorem State.setHost_pegs (s : State) (k₀ : Nat) (d₀ : HostDyn) : (s.setHost k₀ d₀).pegs = s.pegs := rfl
@[simp] theorem State.setHost_vecs (s : State) (k₀ : Nat) (d₀ : HostDyn) : (s.setHost k₀ d₀).vecs = s.vecs := rfl
@[simp] theorem State.setHost_freed (s : State) (k₀ : Nat) (d₀ : HostDyn) : (s.setHost k₀ d₀).freed = s.freed := rfl
@[simp] theorem State.setHost_brace (s : State) (k₀ : Nat) (d₀ : HostDyn) : (s.setHost k₀ d₀).brace = s.brace := rfl
@[simp] theorem State.setHost_ridge (s : State) (k₀ : Nat) (d₀ : HostDyn) : (s.setHost k₀ d₀).ridge = s.ridge := rfl
@[simp] theorem State.setHost_plumb (s : State) (k₀ : Nat) (d₀ : HostDyn) : (s.setHost k₀ d₀).plumb = s.plumb := rfl
@[simp] theorem State.setHost_scribe (s : State) (k₀ : Nat) (d₀ : HostDyn) : (s.setHost k₀ d₀).scribe = s.scribe := rfl
@[simp] theorem State.setHost_pins (s : State) (k₀ : Nat) (d₀ : HostDyn) : (s.setHost k₀ d₀).pins = s.pins := rfl
@[simp] theorem State.setHost_restore (s : State) (k₀ : Nat) (d₀ : HostDyn) : (s.setHost k₀ d₀).restore = s.restore := rfl
@[simp] theorem State.setHost_plankGen (s : State) (k₀ : Nat) (d₀ : HostDyn) : (s.setHost k₀ d₀).plankGen = s.plankGen := rfl
@[simp] theorem State.setHost_plankTime (s : State) (k₀ : Nat) (d₀ : HostDyn) : (s.setHost k₀ d₀).plankTime = s.plankTime := rfl
@[simp] theorem State.setHost_planks (s : State) (k₀ : Nat) (d₀ : HostDyn) : (s.setHost k₀ d₀).planks = s.planks := rfl
@[simp] theorem State.setHost_served (s : State) (k₀ : Nat) (d₀ : HostDyn) : (s.setHost k₀ d₀).served = s.served := rfl
@[simp] theorem State.setHost_waking (s : State) (k₀ : Nat) (d₀ : HostDyn) : (s.setHost k₀ d₀).waking = s.waking := rfl
@[simp] theorem State.setHost_warm (s : State) (k₀ : Nat) (d₀ : HostDyn) : (s.setHost k₀ d₀).warm = s.warm := rfl
@[simp] theorem State.setHost_damaged (s : State) (k₀ : Nat) (d₀ : HostDyn) : (s.setHost k₀ d₀).damaged = s.damaged := rfl
@[simp] theorem State.setHost_scrubAt (s : State) (k₀ : Nat) (d₀ : HostDyn) : (s.setHost k₀ d₀).scrubAt = s.scrubAt := rfl
@[simp] theorem State.setHost_ring (s : State) (k₀ : Nat) (d₀ : HostDyn) : (s.setHost k₀ d₀).ring = s.ring := rfl
@[simp] theorem State.setHost_nextId (s : State) (k₀ : Nat) (d₀ : HostDyn) : (s.setHost k₀ d₀).nextId = s.nextId := rfl
@[simp] theorem State.setHost_freeCtr (s : State) (k₀ : Nat) (d₀ : HostDyn) : (s.setHost k₀ d₀).freeCtr = s.freeCtr := rfl
@[simp] theorem State.setHost_sent (s : State) (k₀ : Nat) (d₀ : HostDyn) : (s.setHost k₀ d₀).sent = s.sent := rfl
@[simp] theorem State.setHost_word (s : State) (k₀ : Nat) (d₀ : HostDyn) (k : RegKind) (i : Nat) : (s.setHost k₀ d₀).word k i = s.word k i := rfl
@[simp] theorem State.setHost_get (s : State) (k₀ : Nat) (d₀ : HostDyn) (F : Fld) (i : Nat) : (s.setHost k₀ d₀).get F i = s.get F i := rfl
@[simp] theorem State.setHost_on (s : State) (k₀ : Nat) (d₀ : HostDyn) (F : Fld) (i : Nat) : (s.setHost k₀ d₀).on F i = s.on F i := rfl
@[simp] theorem State.setHost_region (s : State) (k₀ : Nat) (d₀ : HostDyn) (r : Nat) : (s.setHost k₀ d₀).region r = s.region r := rfl
@[simp] theorem State.setHost_cfgWord (s : State) (k₀ : Nat) (d₀ : HostDyn) (f o : Nat) : (s.setHost k₀ d₀).cfgWord f o = s.cfgWord f o := rfl
@[simp] theorem State.setHost_cfgGet (s : State) (k₀ : Nat) (d₀ : HostDyn) (f o lo len : Nat) : (s.setHost k₀ d₀).cfgGet f o lo len = s.cfgGet f o lo len := rfl
@[simp] theorem State.setHost_cfgBit (s : State) (k₀ : Nat) (d₀ : HostDyn) (f o i : Nat) : (s.setHost k₀ d₀).cfgBit f o i = s.cfgBit f o i := rfl
@[simp] theorem State.setHost_msixWord (s : State) (k₀ : Nat) (d₀ : HostDyn) (f e j : Nat) : (s.setHost k₀ d₀).msixWord f e j = s.msixWord f e j := rfl
@[simp] theorem State.setHost_func (s : State) (k₀ : Nat) (d₀ : HostDyn) (f : Nat) : (s.setHost k₀ d₀).func f = s.func f := rfl
@[simp] theorem State.setHost_txn (s : State) (k₀ : Nat) (d₀ : HostDyn) (c : Nat) : (s.setHost k₀ d₀).txn c = s.txn c := rfl
@[simp] theorem State.setHost_port (s : State) (k₀ : Nat) (d₀ : HostDyn) (p : Nat) : (s.setHost k₀ d₀).port p = s.port p := rfl
@[simp] theorem State.setHost_lane (s : State) (k₀ : Nat) (d₀ : HostDyn) (l : Nat) : (s.setHost k₀ d₀).lane l = s.lane l := rfl
@[simp] theorem State.setHost_queue (s : State) (k₀ : Nat) (d₀ : HostDyn) (q : Nat) : (s.setHost k₀ d₀).queue q = s.queue q := rfl
@[simp] theorem State.setHost_eng (s : State) (k₀ : Nat) (d₀ : HostDyn) (e : Nat) : (s.setHost k₀ d₀).eng e = s.eng e := rfl
@[simp] theorem State.setHost_peg (s : State) (k₀ : Nat) (d₀ : HostDyn) (i : Nat) : (s.setHost k₀ d₀).peg i = s.peg i := rfl
@[simp] theorem State.setHost_ctr (s : State) (k₀ : Nat) (d₀ : HostDyn) (o : Nat) : (s.setHost k₀ d₀).ctr o = s.ctr o := rfl
@[simp] theorem State.setHost_due (s : State) (k₀ : Nat) (d₀ : HostDyn) (t : Timer) : (s.setHost k₀ d₀).due t = s.due t := rfl
@[simp] theorem State.setHost_armed (s : State) (k₀ : Nat) (d₀ : HostDyn) (t : Timer) : (s.setHost k₀ d₀).armed t = s.armed t := rfl
@[simp] theorem State.setHost_isUp (s : State) (k₀ : Nat) (d₀ : HostDyn) : (s.setHost k₀ d₀).isUp = s.isUp := rfl
@[simp] theorem State.setHost_powered (s : State) (k₀ : Nat) (d₀ : HostDyn) : (s.setHost k₀ d₀).powered = s.powered := rfl

@[simp] theorem State.modHost_pending (s : State) (k₀ : Nat) (g₀ : HostDyn → HostDyn) : (s.modHost k₀ g₀).pending = s.pending := rfl
@[simp] theorem State.modHost_phase (s : State) (k₀ : Nat) (g₀ : HostDyn → HostDyn) : (s.modHost k₀ g₀).phase = s.phase := rfl
@[simp] theorem State.modHost_clock (s : State) (k₀ : Nat) (g₀ : HostDyn → HostDyn) : (s.modHost k₀ g₀).clock = s.clock := rfl
@[simp] theorem State.modHost_devtime (s : State) (k₀ : Nat) (g₀ : HostDyn → HostDyn) : (s.modHost k₀ g₀).devtime = s.devtime := rfl
@[simp] theorem State.modHost_slew (s : State) (k₀ : Nat) (g₀ : HostDyn → HostDyn) : (s.modHost k₀ g₀).slew = s.slew := rfl
@[simp] theorem State.modHost_slewFrac (s : State) (k₀ : Nat) (g₀ : HostDyn → HostDyn) : (s.modHost k₀ g₀).slewFrac = s.slewFrac := rfl
@[simp] theorem State.modHost_regs (s : State) (k₀ : Nat) (g₀ : HostDyn → HostDyn) : (s.modHost k₀ g₀).regs = s.regs := rfl
@[simp] theorem State.modHost_ctrs (s : State) (k₀ : Nat) (g₀ : HostDyn → HostDyn) : (s.modHost k₀ g₀).ctrs = s.ctrs := rfl
@[simp] theorem State.modHost_bankA (s : State) (k₀ : Nat) (g₀ : HostDyn → HostDyn) : (s.modHost k₀ g₀).bankA = s.bankA := rfl
@[simp] theorem State.modHost_bankB (s : State) (k₀ : Nat) (g₀ : HostDyn → HostDyn) : (s.modHost k₀ g₀).bankB = s.bankB := rfl
@[simp] theorem State.modHost_cfg (s : State) (k₀ : Nat) (g₀ : HostDyn → HostDyn) : (s.modHost k₀ g₀).cfg = s.cfg := rfl
@[simp] theorem State.modHost_msix (s : State) (k₀ : Nat) (g₀ : HostDyn → HostDyn) : (s.modHost k₀ g₀).msix = s.msix := rfl
@[simp] theorem State.modHost_pba (s : State) (k₀ : Nat) (g₀ : HostDyn → HostDyn) : (s.modHost k₀ g₀).pba = s.pba := rfl
@[simp] theorem State.modHost_fuses (s : State) (k₀ : Nat) (g₀ : HostDyn → HostDyn) : (s.modHost k₀ g₀).fuses = s.fuses := rfl
@[simp] theorem State.modHost_timers (s : State) (k₀ : Nat) (g₀ : HostDyn → HostDyn) : (s.modHost k₀ g₀).timers = s.timers := rfl
@[simp] theorem State.modHost_rss (s : State) (k₀ : Nat) (g₀ : HostDyn → HostDyn) : (s.modHost k₀ g₀).rss = s.rss := rfl
@[simp] theorem State.modHost_funcs (s : State) (k₀ : Nat) (g₀ : HostDyn → HostDyn) : (s.modHost k₀ g₀).funcs = s.funcs := rfl
@[simp] theorem State.modHost_txns (s : State) (k₀ : Nat) (g₀ : HostDyn → HostDyn) : (s.modHost k₀ g₀).txns = s.txns := rfl
@[simp] theorem State.modHost_commits (s : State) (k₀ : Nat) (g₀ : HostDyn → HostDyn) : (s.modHost k₀ g₀).commits = s.commits := rfl
@[simp] theorem State.modHost_ports (s : State) (k₀ : Nat) (g₀ : HostDyn → HostDyn) : (s.modHost k₀ g₀).ports = s.ports := rfl
@[simp] theorem State.modHost_lanes (s : State) (k₀ : Nat) (g₀ : HostDyn → HostDyn) : (s.modHost k₀ g₀).lanes = s.lanes := rfl
@[simp] theorem State.modHost_queues (s : State) (k₀ : Nat) (g₀ : HostDyn → HostDyn) : (s.modHost k₀ g₀).queues = s.queues := rfl
@[simp] theorem State.modHost_engines (s : State) (k₀ : Nat) (g₀ : HostDyn → HostDyn) : (s.modHost k₀ g₀).engines = s.engines := rfl
@[simp] theorem State.modHost_pegs (s : State) (k₀ : Nat) (g₀ : HostDyn → HostDyn) : (s.modHost k₀ g₀).pegs = s.pegs := rfl
@[simp] theorem State.modHost_vecs (s : State) (k₀ : Nat) (g₀ : HostDyn → HostDyn) : (s.modHost k₀ g₀).vecs = s.vecs := rfl
@[simp] theorem State.modHost_freed (s : State) (k₀ : Nat) (g₀ : HostDyn → HostDyn) : (s.modHost k₀ g₀).freed = s.freed := rfl
@[simp] theorem State.modHost_brace (s : State) (k₀ : Nat) (g₀ : HostDyn → HostDyn) : (s.modHost k₀ g₀).brace = s.brace := rfl
@[simp] theorem State.modHost_ridge (s : State) (k₀ : Nat) (g₀ : HostDyn → HostDyn) : (s.modHost k₀ g₀).ridge = s.ridge := rfl
@[simp] theorem State.modHost_plumb (s : State) (k₀ : Nat) (g₀ : HostDyn → HostDyn) : (s.modHost k₀ g₀).plumb = s.plumb := rfl
@[simp] theorem State.modHost_scribe (s : State) (k₀ : Nat) (g₀ : HostDyn → HostDyn) : (s.modHost k₀ g₀).scribe = s.scribe := rfl
@[simp] theorem State.modHost_pins (s : State) (k₀ : Nat) (g₀ : HostDyn → HostDyn) : (s.modHost k₀ g₀).pins = s.pins := rfl
@[simp] theorem State.modHost_restore (s : State) (k₀ : Nat) (g₀ : HostDyn → HostDyn) : (s.modHost k₀ g₀).restore = s.restore := rfl
@[simp] theorem State.modHost_plankGen (s : State) (k₀ : Nat) (g₀ : HostDyn → HostDyn) : (s.modHost k₀ g₀).plankGen = s.plankGen := rfl
@[simp] theorem State.modHost_plankTime (s : State) (k₀ : Nat) (g₀ : HostDyn → HostDyn) : (s.modHost k₀ g₀).plankTime = s.plankTime := rfl
@[simp] theorem State.modHost_planks (s : State) (k₀ : Nat) (g₀ : HostDyn → HostDyn) : (s.modHost k₀ g₀).planks = s.planks := rfl
@[simp] theorem State.modHost_served (s : State) (k₀ : Nat) (g₀ : HostDyn → HostDyn) : (s.modHost k₀ g₀).served = s.served := rfl
@[simp] theorem State.modHost_waking (s : State) (k₀ : Nat) (g₀ : HostDyn → HostDyn) : (s.modHost k₀ g₀).waking = s.waking := rfl
@[simp] theorem State.modHost_warm (s : State) (k₀ : Nat) (g₀ : HostDyn → HostDyn) : (s.modHost k₀ g₀).warm = s.warm := rfl
@[simp] theorem State.modHost_damaged (s : State) (k₀ : Nat) (g₀ : HostDyn → HostDyn) : (s.modHost k₀ g₀).damaged = s.damaged := rfl
@[simp] theorem State.modHost_scrubAt (s : State) (k₀ : Nat) (g₀ : HostDyn → HostDyn) : (s.modHost k₀ g₀).scrubAt = s.scrubAt := rfl
@[simp] theorem State.modHost_ring (s : State) (k₀ : Nat) (g₀ : HostDyn → HostDyn) : (s.modHost k₀ g₀).ring = s.ring := rfl
@[simp] theorem State.modHost_nextId (s : State) (k₀ : Nat) (g₀ : HostDyn → HostDyn) : (s.modHost k₀ g₀).nextId = s.nextId := rfl
@[simp] theorem State.modHost_freeCtr (s : State) (k₀ : Nat) (g₀ : HostDyn → HostDyn) : (s.modHost k₀ g₀).freeCtr = s.freeCtr := rfl
@[simp] theorem State.modHost_sent (s : State) (k₀ : Nat) (g₀ : HostDyn → HostDyn) : (s.modHost k₀ g₀).sent = s.sent := rfl
@[simp] theorem State.modHost_word (s : State) (k₀ : Nat) (g₀ : HostDyn → HostDyn) (k : RegKind) (i : Nat) : (s.modHost k₀ g₀).word k i = s.word k i := rfl
@[simp] theorem State.modHost_get (s : State) (k₀ : Nat) (g₀ : HostDyn → HostDyn) (F : Fld) (i : Nat) : (s.modHost k₀ g₀).get F i = s.get F i := rfl
@[simp] theorem State.modHost_on (s : State) (k₀ : Nat) (g₀ : HostDyn → HostDyn) (F : Fld) (i : Nat) : (s.modHost k₀ g₀).on F i = s.on F i := rfl
@[simp] theorem State.modHost_region (s : State) (k₀ : Nat) (g₀ : HostDyn → HostDyn) (r : Nat) : (s.modHost k₀ g₀).region r = s.region r := rfl
@[simp] theorem State.modHost_cfgWord (s : State) (k₀ : Nat) (g₀ : HostDyn → HostDyn) (f o : Nat) : (s.modHost k₀ g₀).cfgWord f o = s.cfgWord f o := rfl
@[simp] theorem State.modHost_cfgGet (s : State) (k₀ : Nat) (g₀ : HostDyn → HostDyn) (f o lo len : Nat) : (s.modHost k₀ g₀).cfgGet f o lo len = s.cfgGet f o lo len := rfl
@[simp] theorem State.modHost_cfgBit (s : State) (k₀ : Nat) (g₀ : HostDyn → HostDyn) (f o i : Nat) : (s.modHost k₀ g₀).cfgBit f o i = s.cfgBit f o i := rfl
@[simp] theorem State.modHost_msixWord (s : State) (k₀ : Nat) (g₀ : HostDyn → HostDyn) (f e j : Nat) : (s.modHost k₀ g₀).msixWord f e j = s.msixWord f e j := rfl
@[simp] theorem State.modHost_func (s : State) (k₀ : Nat) (g₀ : HostDyn → HostDyn) (f : Nat) : (s.modHost k₀ g₀).func f = s.func f := rfl
@[simp] theorem State.modHost_txn (s : State) (k₀ : Nat) (g₀ : HostDyn → HostDyn) (c : Nat) : (s.modHost k₀ g₀).txn c = s.txn c := rfl
@[simp] theorem State.modHost_port (s : State) (k₀ : Nat) (g₀ : HostDyn → HostDyn) (p : Nat) : (s.modHost k₀ g₀).port p = s.port p := rfl
@[simp] theorem State.modHost_lane (s : State) (k₀ : Nat) (g₀ : HostDyn → HostDyn) (l : Nat) : (s.modHost k₀ g₀).lane l = s.lane l := rfl
@[simp] theorem State.modHost_queue (s : State) (k₀ : Nat) (g₀ : HostDyn → HostDyn) (q : Nat) : (s.modHost k₀ g₀).queue q = s.queue q := rfl
@[simp] theorem State.modHost_eng (s : State) (k₀ : Nat) (g₀ : HostDyn → HostDyn) (e : Nat) : (s.modHost k₀ g₀).eng e = s.eng e := rfl
@[simp] theorem State.modHost_peg (s : State) (k₀ : Nat) (g₀ : HostDyn → HostDyn) (i : Nat) : (s.modHost k₀ g₀).peg i = s.peg i := rfl
@[simp] theorem State.modHost_ctr (s : State) (k₀ : Nat) (g₀ : HostDyn → HostDyn) (o : Nat) : (s.modHost k₀ g₀).ctr o = s.ctr o := rfl
@[simp] theorem State.modHost_due (s : State) (k₀ : Nat) (g₀ : HostDyn → HostDyn) (t : Timer) : (s.modHost k₀ g₀).due t = s.due t := rfl
@[simp] theorem State.modHost_armed (s : State) (k₀ : Nat) (g₀ : HostDyn → HostDyn) (t : Timer) : (s.modHost k₀ g₀).armed t = s.armed t := rfl
@[simp] theorem State.modHost_isUp (s : State) (k₀ : Nat) (g₀ : HostDyn → HostDyn) : (s.modHost k₀ g₀).isUp = s.isUp := rfl
@[simp] theorem State.modHost_powered (s : State) (k₀ : Nat) (g₀ : HostDyn → HostDyn) : (s.modHost k₀ g₀).powered = s.powered := rfl

@[simp] theorem State.setFunc_pending (s : State) (k₀ : Nat) (d₀ : FnDyn) : (s.setFunc k₀ d₀).pending = s.pending := rfl
@[simp] theorem State.setFunc_phase (s : State) (k₀ : Nat) (d₀ : FnDyn) : (s.setFunc k₀ d₀).phase = s.phase := rfl
@[simp] theorem State.setFunc_clock (s : State) (k₀ : Nat) (d₀ : FnDyn) : (s.setFunc k₀ d₀).clock = s.clock := rfl
@[simp] theorem State.setFunc_devtime (s : State) (k₀ : Nat) (d₀ : FnDyn) : (s.setFunc k₀ d₀).devtime = s.devtime := rfl
@[simp] theorem State.setFunc_slew (s : State) (k₀ : Nat) (d₀ : FnDyn) : (s.setFunc k₀ d₀).slew = s.slew := rfl
@[simp] theorem State.setFunc_slewFrac (s : State) (k₀ : Nat) (d₀ : FnDyn) : (s.setFunc k₀ d₀).slewFrac = s.slewFrac := rfl
@[simp] theorem State.setFunc_regs (s : State) (k₀ : Nat) (d₀ : FnDyn) : (s.setFunc k₀ d₀).regs = s.regs := rfl
@[simp] theorem State.setFunc_ctrs (s : State) (k₀ : Nat) (d₀ : FnDyn) : (s.setFunc k₀ d₀).ctrs = s.ctrs := rfl
@[simp] theorem State.setFunc_bankA (s : State) (k₀ : Nat) (d₀ : FnDyn) : (s.setFunc k₀ d₀).bankA = s.bankA := rfl
@[simp] theorem State.setFunc_bankB (s : State) (k₀ : Nat) (d₀ : FnDyn) : (s.setFunc k₀ d₀).bankB = s.bankB := rfl
@[simp] theorem State.setFunc_cfg (s : State) (k₀ : Nat) (d₀ : FnDyn) : (s.setFunc k₀ d₀).cfg = s.cfg := rfl
@[simp] theorem State.setFunc_msix (s : State) (k₀ : Nat) (d₀ : FnDyn) : (s.setFunc k₀ d₀).msix = s.msix := rfl
@[simp] theorem State.setFunc_pba (s : State) (k₀ : Nat) (d₀ : FnDyn) : (s.setFunc k₀ d₀).pba = s.pba := rfl
@[simp] theorem State.setFunc_fuses (s : State) (k₀ : Nat) (d₀ : FnDyn) : (s.setFunc k₀ d₀).fuses = s.fuses := rfl
@[simp] theorem State.setFunc_timers (s : State) (k₀ : Nat) (d₀ : FnDyn) : (s.setFunc k₀ d₀).timers = s.timers := rfl
@[simp] theorem State.setFunc_rss (s : State) (k₀ : Nat) (d₀ : FnDyn) : (s.setFunc k₀ d₀).rss = s.rss := rfl
@[simp] theorem State.setFunc_hosts (s : State) (k₀ : Nat) (d₀ : FnDyn) : (s.setFunc k₀ d₀).hosts = s.hosts := rfl
@[simp] theorem State.setFunc_txns (s : State) (k₀ : Nat) (d₀ : FnDyn) : (s.setFunc k₀ d₀).txns = s.txns := rfl
@[simp] theorem State.setFunc_commits (s : State) (k₀ : Nat) (d₀ : FnDyn) : (s.setFunc k₀ d₀).commits = s.commits := rfl
@[simp] theorem State.setFunc_ports (s : State) (k₀ : Nat) (d₀ : FnDyn) : (s.setFunc k₀ d₀).ports = s.ports := rfl
@[simp] theorem State.setFunc_lanes (s : State) (k₀ : Nat) (d₀ : FnDyn) : (s.setFunc k₀ d₀).lanes = s.lanes := rfl
@[simp] theorem State.setFunc_queues (s : State) (k₀ : Nat) (d₀ : FnDyn) : (s.setFunc k₀ d₀).queues = s.queues := rfl
@[simp] theorem State.setFunc_engines (s : State) (k₀ : Nat) (d₀ : FnDyn) : (s.setFunc k₀ d₀).engines = s.engines := rfl
@[simp] theorem State.setFunc_pegs (s : State) (k₀ : Nat) (d₀ : FnDyn) : (s.setFunc k₀ d₀).pegs = s.pegs := rfl
@[simp] theorem State.setFunc_vecs (s : State) (k₀ : Nat) (d₀ : FnDyn) : (s.setFunc k₀ d₀).vecs = s.vecs := rfl
@[simp] theorem State.setFunc_freed (s : State) (k₀ : Nat) (d₀ : FnDyn) : (s.setFunc k₀ d₀).freed = s.freed := rfl
@[simp] theorem State.setFunc_brace (s : State) (k₀ : Nat) (d₀ : FnDyn) : (s.setFunc k₀ d₀).brace = s.brace := rfl
@[simp] theorem State.setFunc_ridge (s : State) (k₀ : Nat) (d₀ : FnDyn) : (s.setFunc k₀ d₀).ridge = s.ridge := rfl
@[simp] theorem State.setFunc_plumb (s : State) (k₀ : Nat) (d₀ : FnDyn) : (s.setFunc k₀ d₀).plumb = s.plumb := rfl
@[simp] theorem State.setFunc_scribe (s : State) (k₀ : Nat) (d₀ : FnDyn) : (s.setFunc k₀ d₀).scribe = s.scribe := rfl
@[simp] theorem State.setFunc_pins (s : State) (k₀ : Nat) (d₀ : FnDyn) : (s.setFunc k₀ d₀).pins = s.pins := rfl
@[simp] theorem State.setFunc_restore (s : State) (k₀ : Nat) (d₀ : FnDyn) : (s.setFunc k₀ d₀).restore = s.restore := rfl
@[simp] theorem State.setFunc_plankGen (s : State) (k₀ : Nat) (d₀ : FnDyn) : (s.setFunc k₀ d₀).plankGen = s.plankGen := rfl
@[simp] theorem State.setFunc_plankTime (s : State) (k₀ : Nat) (d₀ : FnDyn) : (s.setFunc k₀ d₀).plankTime = s.plankTime := rfl
@[simp] theorem State.setFunc_planks (s : State) (k₀ : Nat) (d₀ : FnDyn) : (s.setFunc k₀ d₀).planks = s.planks := rfl
@[simp] theorem State.setFunc_served (s : State) (k₀ : Nat) (d₀ : FnDyn) : (s.setFunc k₀ d₀).served = s.served := rfl
@[simp] theorem State.setFunc_waking (s : State) (k₀ : Nat) (d₀ : FnDyn) : (s.setFunc k₀ d₀).waking = s.waking := rfl
@[simp] theorem State.setFunc_warm (s : State) (k₀ : Nat) (d₀ : FnDyn) : (s.setFunc k₀ d₀).warm = s.warm := rfl
@[simp] theorem State.setFunc_damaged (s : State) (k₀ : Nat) (d₀ : FnDyn) : (s.setFunc k₀ d₀).damaged = s.damaged := rfl
@[simp] theorem State.setFunc_scrubAt (s : State) (k₀ : Nat) (d₀ : FnDyn) : (s.setFunc k₀ d₀).scrubAt = s.scrubAt := rfl
@[simp] theorem State.setFunc_ring (s : State) (k₀ : Nat) (d₀ : FnDyn) : (s.setFunc k₀ d₀).ring = s.ring := rfl
@[simp] theorem State.setFunc_nextId (s : State) (k₀ : Nat) (d₀ : FnDyn) : (s.setFunc k₀ d₀).nextId = s.nextId := rfl
@[simp] theorem State.setFunc_freeCtr (s : State) (k₀ : Nat) (d₀ : FnDyn) : (s.setFunc k₀ d₀).freeCtr = s.freeCtr := rfl
@[simp] theorem State.setFunc_sent (s : State) (k₀ : Nat) (d₀ : FnDyn) : (s.setFunc k₀ d₀).sent = s.sent := rfl
@[simp] theorem State.setFunc_word (s : State) (k₀ : Nat) (d₀ : FnDyn) (k : RegKind) (i : Nat) : (s.setFunc k₀ d₀).word k i = s.word k i := rfl
@[simp] theorem State.setFunc_get (s : State) (k₀ : Nat) (d₀ : FnDyn) (F : Fld) (i : Nat) : (s.setFunc k₀ d₀).get F i = s.get F i := rfl
@[simp] theorem State.setFunc_on (s : State) (k₀ : Nat) (d₀ : FnDyn) (F : Fld) (i : Nat) : (s.setFunc k₀ d₀).on F i = s.on F i := rfl
@[simp] theorem State.setFunc_region (s : State) (k₀ : Nat) (d₀ : FnDyn) (r : Nat) : (s.setFunc k₀ d₀).region r = s.region r := rfl
@[simp] theorem State.setFunc_cfgWord (s : State) (k₀ : Nat) (d₀ : FnDyn) (f o : Nat) : (s.setFunc k₀ d₀).cfgWord f o = s.cfgWord f o := rfl
@[simp] theorem State.setFunc_cfgGet (s : State) (k₀ : Nat) (d₀ : FnDyn) (f o lo len : Nat) : (s.setFunc k₀ d₀).cfgGet f o lo len = s.cfgGet f o lo len := rfl
@[simp] theorem State.setFunc_cfgBit (s : State) (k₀ : Nat) (d₀ : FnDyn) (f o i : Nat) : (s.setFunc k₀ d₀).cfgBit f o i = s.cfgBit f o i := rfl
@[simp] theorem State.setFunc_msixWord (s : State) (k₀ : Nat) (d₀ : FnDyn) (f e j : Nat) : (s.setFunc k₀ d₀).msixWord f e j = s.msixWord f e j := rfl
@[simp] theorem State.setFunc_host (s : State) (k₀ : Nat) (d₀ : FnDyn) (h : Nat) : (s.setFunc k₀ d₀).host h = s.host h := rfl
@[simp] theorem State.setFunc_txn (s : State) (k₀ : Nat) (d₀ : FnDyn) (c : Nat) : (s.setFunc k₀ d₀).txn c = s.txn c := rfl
@[simp] theorem State.setFunc_port (s : State) (k₀ : Nat) (d₀ : FnDyn) (p : Nat) : (s.setFunc k₀ d₀).port p = s.port p := rfl
@[simp] theorem State.setFunc_lane (s : State) (k₀ : Nat) (d₀ : FnDyn) (l : Nat) : (s.setFunc k₀ d₀).lane l = s.lane l := rfl
@[simp] theorem State.setFunc_queue (s : State) (k₀ : Nat) (d₀ : FnDyn) (q : Nat) : (s.setFunc k₀ d₀).queue q = s.queue q := rfl
@[simp] theorem State.setFunc_eng (s : State) (k₀ : Nat) (d₀ : FnDyn) (e : Nat) : (s.setFunc k₀ d₀).eng e = s.eng e := rfl
@[simp] theorem State.setFunc_peg (s : State) (k₀ : Nat) (d₀ : FnDyn) (i : Nat) : (s.setFunc k₀ d₀).peg i = s.peg i := rfl
@[simp] theorem State.setFunc_ctr (s : State) (k₀ : Nat) (d₀ : FnDyn) (o : Nat) : (s.setFunc k₀ d₀).ctr o = s.ctr o := rfl
@[simp] theorem State.setFunc_due (s : State) (k₀ : Nat) (d₀ : FnDyn) (t : Timer) : (s.setFunc k₀ d₀).due t = s.due t := rfl
@[simp] theorem State.setFunc_armed (s : State) (k₀ : Nat) (d₀ : FnDyn) (t : Timer) : (s.setFunc k₀ d₀).armed t = s.armed t := rfl
@[simp] theorem State.setFunc_isUp (s : State) (k₀ : Nat) (d₀ : FnDyn) : (s.setFunc k₀ d₀).isUp = s.isUp := rfl
@[simp] theorem State.setFunc_powered (s : State) (k₀ : Nat) (d₀ : FnDyn) : (s.setFunc k₀ d₀).powered = s.powered := rfl

@[simp] theorem State.modFunc_pending (s : State) (k₀ : Nat) (g₀ : FnDyn → FnDyn) : (s.modFunc k₀ g₀).pending = s.pending := rfl
@[simp] theorem State.modFunc_phase (s : State) (k₀ : Nat) (g₀ : FnDyn → FnDyn) : (s.modFunc k₀ g₀).phase = s.phase := rfl
@[simp] theorem State.modFunc_clock (s : State) (k₀ : Nat) (g₀ : FnDyn → FnDyn) : (s.modFunc k₀ g₀).clock = s.clock := rfl
@[simp] theorem State.modFunc_devtime (s : State) (k₀ : Nat) (g₀ : FnDyn → FnDyn) : (s.modFunc k₀ g₀).devtime = s.devtime := rfl
@[simp] theorem State.modFunc_slew (s : State) (k₀ : Nat) (g₀ : FnDyn → FnDyn) : (s.modFunc k₀ g₀).slew = s.slew := rfl
@[simp] theorem State.modFunc_slewFrac (s : State) (k₀ : Nat) (g₀ : FnDyn → FnDyn) : (s.modFunc k₀ g₀).slewFrac = s.slewFrac := rfl
@[simp] theorem State.modFunc_regs (s : State) (k₀ : Nat) (g₀ : FnDyn → FnDyn) : (s.modFunc k₀ g₀).regs = s.regs := rfl
@[simp] theorem State.modFunc_ctrs (s : State) (k₀ : Nat) (g₀ : FnDyn → FnDyn) : (s.modFunc k₀ g₀).ctrs = s.ctrs := rfl
@[simp] theorem State.modFunc_bankA (s : State) (k₀ : Nat) (g₀ : FnDyn → FnDyn) : (s.modFunc k₀ g₀).bankA = s.bankA := rfl
@[simp] theorem State.modFunc_bankB (s : State) (k₀ : Nat) (g₀ : FnDyn → FnDyn) : (s.modFunc k₀ g₀).bankB = s.bankB := rfl
@[simp] theorem State.modFunc_cfg (s : State) (k₀ : Nat) (g₀ : FnDyn → FnDyn) : (s.modFunc k₀ g₀).cfg = s.cfg := rfl
@[simp] theorem State.modFunc_msix (s : State) (k₀ : Nat) (g₀ : FnDyn → FnDyn) : (s.modFunc k₀ g₀).msix = s.msix := rfl
@[simp] theorem State.modFunc_pba (s : State) (k₀ : Nat) (g₀ : FnDyn → FnDyn) : (s.modFunc k₀ g₀).pba = s.pba := rfl
@[simp] theorem State.modFunc_fuses (s : State) (k₀ : Nat) (g₀ : FnDyn → FnDyn) : (s.modFunc k₀ g₀).fuses = s.fuses := rfl
@[simp] theorem State.modFunc_timers (s : State) (k₀ : Nat) (g₀ : FnDyn → FnDyn) : (s.modFunc k₀ g₀).timers = s.timers := rfl
@[simp] theorem State.modFunc_rss (s : State) (k₀ : Nat) (g₀ : FnDyn → FnDyn) : (s.modFunc k₀ g₀).rss = s.rss := rfl
@[simp] theorem State.modFunc_hosts (s : State) (k₀ : Nat) (g₀ : FnDyn → FnDyn) : (s.modFunc k₀ g₀).hosts = s.hosts := rfl
@[simp] theorem State.modFunc_txns (s : State) (k₀ : Nat) (g₀ : FnDyn → FnDyn) : (s.modFunc k₀ g₀).txns = s.txns := rfl
@[simp] theorem State.modFunc_commits (s : State) (k₀ : Nat) (g₀ : FnDyn → FnDyn) : (s.modFunc k₀ g₀).commits = s.commits := rfl
@[simp] theorem State.modFunc_ports (s : State) (k₀ : Nat) (g₀ : FnDyn → FnDyn) : (s.modFunc k₀ g₀).ports = s.ports := rfl
@[simp] theorem State.modFunc_lanes (s : State) (k₀ : Nat) (g₀ : FnDyn → FnDyn) : (s.modFunc k₀ g₀).lanes = s.lanes := rfl
@[simp] theorem State.modFunc_queues (s : State) (k₀ : Nat) (g₀ : FnDyn → FnDyn) : (s.modFunc k₀ g₀).queues = s.queues := rfl
@[simp] theorem State.modFunc_engines (s : State) (k₀ : Nat) (g₀ : FnDyn → FnDyn) : (s.modFunc k₀ g₀).engines = s.engines := rfl
@[simp] theorem State.modFunc_pegs (s : State) (k₀ : Nat) (g₀ : FnDyn → FnDyn) : (s.modFunc k₀ g₀).pegs = s.pegs := rfl
@[simp] theorem State.modFunc_vecs (s : State) (k₀ : Nat) (g₀ : FnDyn → FnDyn) : (s.modFunc k₀ g₀).vecs = s.vecs := rfl
@[simp] theorem State.modFunc_freed (s : State) (k₀ : Nat) (g₀ : FnDyn → FnDyn) : (s.modFunc k₀ g₀).freed = s.freed := rfl
@[simp] theorem State.modFunc_brace (s : State) (k₀ : Nat) (g₀ : FnDyn → FnDyn) : (s.modFunc k₀ g₀).brace = s.brace := rfl
@[simp] theorem State.modFunc_ridge (s : State) (k₀ : Nat) (g₀ : FnDyn → FnDyn) : (s.modFunc k₀ g₀).ridge = s.ridge := rfl
@[simp] theorem State.modFunc_plumb (s : State) (k₀ : Nat) (g₀ : FnDyn → FnDyn) : (s.modFunc k₀ g₀).plumb = s.plumb := rfl
@[simp] theorem State.modFunc_scribe (s : State) (k₀ : Nat) (g₀ : FnDyn → FnDyn) : (s.modFunc k₀ g₀).scribe = s.scribe := rfl
@[simp] theorem State.modFunc_pins (s : State) (k₀ : Nat) (g₀ : FnDyn → FnDyn) : (s.modFunc k₀ g₀).pins = s.pins := rfl
@[simp] theorem State.modFunc_restore (s : State) (k₀ : Nat) (g₀ : FnDyn → FnDyn) : (s.modFunc k₀ g₀).restore = s.restore := rfl
@[simp] theorem State.modFunc_plankGen (s : State) (k₀ : Nat) (g₀ : FnDyn → FnDyn) : (s.modFunc k₀ g₀).plankGen = s.plankGen := rfl
@[simp] theorem State.modFunc_plankTime (s : State) (k₀ : Nat) (g₀ : FnDyn → FnDyn) : (s.modFunc k₀ g₀).plankTime = s.plankTime := rfl
@[simp] theorem State.modFunc_planks (s : State) (k₀ : Nat) (g₀ : FnDyn → FnDyn) : (s.modFunc k₀ g₀).planks = s.planks := rfl
@[simp] theorem State.modFunc_served (s : State) (k₀ : Nat) (g₀ : FnDyn → FnDyn) : (s.modFunc k₀ g₀).served = s.served := rfl
@[simp] theorem State.modFunc_waking (s : State) (k₀ : Nat) (g₀ : FnDyn → FnDyn) : (s.modFunc k₀ g₀).waking = s.waking := rfl
@[simp] theorem State.modFunc_warm (s : State) (k₀ : Nat) (g₀ : FnDyn → FnDyn) : (s.modFunc k₀ g₀).warm = s.warm := rfl
@[simp] theorem State.modFunc_damaged (s : State) (k₀ : Nat) (g₀ : FnDyn → FnDyn) : (s.modFunc k₀ g₀).damaged = s.damaged := rfl
@[simp] theorem State.modFunc_scrubAt (s : State) (k₀ : Nat) (g₀ : FnDyn → FnDyn) : (s.modFunc k₀ g₀).scrubAt = s.scrubAt := rfl
@[simp] theorem State.modFunc_ring (s : State) (k₀ : Nat) (g₀ : FnDyn → FnDyn) : (s.modFunc k₀ g₀).ring = s.ring := rfl
@[simp] theorem State.modFunc_nextId (s : State) (k₀ : Nat) (g₀ : FnDyn → FnDyn) : (s.modFunc k₀ g₀).nextId = s.nextId := rfl
@[simp] theorem State.modFunc_freeCtr (s : State) (k₀ : Nat) (g₀ : FnDyn → FnDyn) : (s.modFunc k₀ g₀).freeCtr = s.freeCtr := rfl
@[simp] theorem State.modFunc_sent (s : State) (k₀ : Nat) (g₀ : FnDyn → FnDyn) : (s.modFunc k₀ g₀).sent = s.sent := rfl
@[simp] theorem State.modFunc_word (s : State) (k₀ : Nat) (g₀ : FnDyn → FnDyn) (k : RegKind) (i : Nat) : (s.modFunc k₀ g₀).word k i = s.word k i := rfl
@[simp] theorem State.modFunc_get (s : State) (k₀ : Nat) (g₀ : FnDyn → FnDyn) (F : Fld) (i : Nat) : (s.modFunc k₀ g₀).get F i = s.get F i := rfl
@[simp] theorem State.modFunc_on (s : State) (k₀ : Nat) (g₀ : FnDyn → FnDyn) (F : Fld) (i : Nat) : (s.modFunc k₀ g₀).on F i = s.on F i := rfl
@[simp] theorem State.modFunc_region (s : State) (k₀ : Nat) (g₀ : FnDyn → FnDyn) (r : Nat) : (s.modFunc k₀ g₀).region r = s.region r := rfl
@[simp] theorem State.modFunc_cfgWord (s : State) (k₀ : Nat) (g₀ : FnDyn → FnDyn) (f o : Nat) : (s.modFunc k₀ g₀).cfgWord f o = s.cfgWord f o := rfl
@[simp] theorem State.modFunc_cfgGet (s : State) (k₀ : Nat) (g₀ : FnDyn → FnDyn) (f o lo len : Nat) : (s.modFunc k₀ g₀).cfgGet f o lo len = s.cfgGet f o lo len := rfl
@[simp] theorem State.modFunc_cfgBit (s : State) (k₀ : Nat) (g₀ : FnDyn → FnDyn) (f o i : Nat) : (s.modFunc k₀ g₀).cfgBit f o i = s.cfgBit f o i := rfl
@[simp] theorem State.modFunc_msixWord (s : State) (k₀ : Nat) (g₀ : FnDyn → FnDyn) (f e j : Nat) : (s.modFunc k₀ g₀).msixWord f e j = s.msixWord f e j := rfl
@[simp] theorem State.modFunc_host (s : State) (k₀ : Nat) (g₀ : FnDyn → FnDyn) (h : Nat) : (s.modFunc k₀ g₀).host h = s.host h := rfl
@[simp] theorem State.modFunc_txn (s : State) (k₀ : Nat) (g₀ : FnDyn → FnDyn) (c : Nat) : (s.modFunc k₀ g₀).txn c = s.txn c := rfl
@[simp] theorem State.modFunc_port (s : State) (k₀ : Nat) (g₀ : FnDyn → FnDyn) (p : Nat) : (s.modFunc k₀ g₀).port p = s.port p := rfl
@[simp] theorem State.modFunc_lane (s : State) (k₀ : Nat) (g₀ : FnDyn → FnDyn) (l : Nat) : (s.modFunc k₀ g₀).lane l = s.lane l := rfl
@[simp] theorem State.modFunc_queue (s : State) (k₀ : Nat) (g₀ : FnDyn → FnDyn) (q : Nat) : (s.modFunc k₀ g₀).queue q = s.queue q := rfl
@[simp] theorem State.modFunc_eng (s : State) (k₀ : Nat) (g₀ : FnDyn → FnDyn) (e : Nat) : (s.modFunc k₀ g₀).eng e = s.eng e := rfl
@[simp] theorem State.modFunc_peg (s : State) (k₀ : Nat) (g₀ : FnDyn → FnDyn) (i : Nat) : (s.modFunc k₀ g₀).peg i = s.peg i := rfl
@[simp] theorem State.modFunc_ctr (s : State) (k₀ : Nat) (g₀ : FnDyn → FnDyn) (o : Nat) : (s.modFunc k₀ g₀).ctr o = s.ctr o := rfl
@[simp] theorem State.modFunc_due (s : State) (k₀ : Nat) (g₀ : FnDyn → FnDyn) (t : Timer) : (s.modFunc k₀ g₀).due t = s.due t := rfl
@[simp] theorem State.modFunc_armed (s : State) (k₀ : Nat) (g₀ : FnDyn → FnDyn) (t : Timer) : (s.modFunc k₀ g₀).armed t = s.armed t := rfl
@[simp] theorem State.modFunc_isUp (s : State) (k₀ : Nat) (g₀ : FnDyn → FnDyn) : (s.modFunc k₀ g₀).isUp = s.isUp := rfl
@[simp] theorem State.modFunc_powered (s : State) (k₀ : Nat) (g₀ : FnDyn → FnDyn) : (s.modFunc k₀ g₀).powered = s.powered := rfl

@[simp] theorem State.setTxn_pending (s : State) (k₀ : Nat) (d₀ : TxnDyn) : (s.setTxn k₀ d₀).pending = s.pending := rfl
@[simp] theorem State.setTxn_phase (s : State) (k₀ : Nat) (d₀ : TxnDyn) : (s.setTxn k₀ d₀).phase = s.phase := rfl
@[simp] theorem State.setTxn_clock (s : State) (k₀ : Nat) (d₀ : TxnDyn) : (s.setTxn k₀ d₀).clock = s.clock := rfl
@[simp] theorem State.setTxn_devtime (s : State) (k₀ : Nat) (d₀ : TxnDyn) : (s.setTxn k₀ d₀).devtime = s.devtime := rfl
@[simp] theorem State.setTxn_slew (s : State) (k₀ : Nat) (d₀ : TxnDyn) : (s.setTxn k₀ d₀).slew = s.slew := rfl
@[simp] theorem State.setTxn_slewFrac (s : State) (k₀ : Nat) (d₀ : TxnDyn) : (s.setTxn k₀ d₀).slewFrac = s.slewFrac := rfl
@[simp] theorem State.setTxn_regs (s : State) (k₀ : Nat) (d₀ : TxnDyn) : (s.setTxn k₀ d₀).regs = s.regs := rfl
@[simp] theorem State.setTxn_ctrs (s : State) (k₀ : Nat) (d₀ : TxnDyn) : (s.setTxn k₀ d₀).ctrs = s.ctrs := rfl
@[simp] theorem State.setTxn_bankA (s : State) (k₀ : Nat) (d₀ : TxnDyn) : (s.setTxn k₀ d₀).bankA = s.bankA := rfl
@[simp] theorem State.setTxn_bankB (s : State) (k₀ : Nat) (d₀ : TxnDyn) : (s.setTxn k₀ d₀).bankB = s.bankB := rfl
@[simp] theorem State.setTxn_cfg (s : State) (k₀ : Nat) (d₀ : TxnDyn) : (s.setTxn k₀ d₀).cfg = s.cfg := rfl
@[simp] theorem State.setTxn_msix (s : State) (k₀ : Nat) (d₀ : TxnDyn) : (s.setTxn k₀ d₀).msix = s.msix := rfl
@[simp] theorem State.setTxn_pba (s : State) (k₀ : Nat) (d₀ : TxnDyn) : (s.setTxn k₀ d₀).pba = s.pba := rfl
@[simp] theorem State.setTxn_fuses (s : State) (k₀ : Nat) (d₀ : TxnDyn) : (s.setTxn k₀ d₀).fuses = s.fuses := rfl
@[simp] theorem State.setTxn_timers (s : State) (k₀ : Nat) (d₀ : TxnDyn) : (s.setTxn k₀ d₀).timers = s.timers := rfl
@[simp] theorem State.setTxn_rss (s : State) (k₀ : Nat) (d₀ : TxnDyn) : (s.setTxn k₀ d₀).rss = s.rss := rfl
@[simp] theorem State.setTxn_hosts (s : State) (k₀ : Nat) (d₀ : TxnDyn) : (s.setTxn k₀ d₀).hosts = s.hosts := rfl
@[simp] theorem State.setTxn_funcs (s : State) (k₀ : Nat) (d₀ : TxnDyn) : (s.setTxn k₀ d₀).funcs = s.funcs := rfl
@[simp] theorem State.setTxn_commits (s : State) (k₀ : Nat) (d₀ : TxnDyn) : (s.setTxn k₀ d₀).commits = s.commits := rfl
@[simp] theorem State.setTxn_ports (s : State) (k₀ : Nat) (d₀ : TxnDyn) : (s.setTxn k₀ d₀).ports = s.ports := rfl
@[simp] theorem State.setTxn_lanes (s : State) (k₀ : Nat) (d₀ : TxnDyn) : (s.setTxn k₀ d₀).lanes = s.lanes := rfl
@[simp] theorem State.setTxn_queues (s : State) (k₀ : Nat) (d₀ : TxnDyn) : (s.setTxn k₀ d₀).queues = s.queues := rfl
@[simp] theorem State.setTxn_engines (s : State) (k₀ : Nat) (d₀ : TxnDyn) : (s.setTxn k₀ d₀).engines = s.engines := rfl
@[simp] theorem State.setTxn_pegs (s : State) (k₀ : Nat) (d₀ : TxnDyn) : (s.setTxn k₀ d₀).pegs = s.pegs := rfl
@[simp] theorem State.setTxn_vecs (s : State) (k₀ : Nat) (d₀ : TxnDyn) : (s.setTxn k₀ d₀).vecs = s.vecs := rfl
@[simp] theorem State.setTxn_freed (s : State) (k₀ : Nat) (d₀ : TxnDyn) : (s.setTxn k₀ d₀).freed = s.freed := rfl
@[simp] theorem State.setTxn_brace (s : State) (k₀ : Nat) (d₀ : TxnDyn) : (s.setTxn k₀ d₀).brace = s.brace := rfl
@[simp] theorem State.setTxn_ridge (s : State) (k₀ : Nat) (d₀ : TxnDyn) : (s.setTxn k₀ d₀).ridge = s.ridge := rfl
@[simp] theorem State.setTxn_plumb (s : State) (k₀ : Nat) (d₀ : TxnDyn) : (s.setTxn k₀ d₀).plumb = s.plumb := rfl
@[simp] theorem State.setTxn_scribe (s : State) (k₀ : Nat) (d₀ : TxnDyn) : (s.setTxn k₀ d₀).scribe = s.scribe := rfl
@[simp] theorem State.setTxn_pins (s : State) (k₀ : Nat) (d₀ : TxnDyn) : (s.setTxn k₀ d₀).pins = s.pins := rfl
@[simp] theorem State.setTxn_restore (s : State) (k₀ : Nat) (d₀ : TxnDyn) : (s.setTxn k₀ d₀).restore = s.restore := rfl
@[simp] theorem State.setTxn_plankGen (s : State) (k₀ : Nat) (d₀ : TxnDyn) : (s.setTxn k₀ d₀).plankGen = s.plankGen := rfl
@[simp] theorem State.setTxn_plankTime (s : State) (k₀ : Nat) (d₀ : TxnDyn) : (s.setTxn k₀ d₀).plankTime = s.plankTime := rfl
@[simp] theorem State.setTxn_planks (s : State) (k₀ : Nat) (d₀ : TxnDyn) : (s.setTxn k₀ d₀).planks = s.planks := rfl
@[simp] theorem State.setTxn_served (s : State) (k₀ : Nat) (d₀ : TxnDyn) : (s.setTxn k₀ d₀).served = s.served := rfl
@[simp] theorem State.setTxn_waking (s : State) (k₀ : Nat) (d₀ : TxnDyn) : (s.setTxn k₀ d₀).waking = s.waking := rfl
@[simp] theorem State.setTxn_warm (s : State) (k₀ : Nat) (d₀ : TxnDyn) : (s.setTxn k₀ d₀).warm = s.warm := rfl
@[simp] theorem State.setTxn_damaged (s : State) (k₀ : Nat) (d₀ : TxnDyn) : (s.setTxn k₀ d₀).damaged = s.damaged := rfl
@[simp] theorem State.setTxn_scrubAt (s : State) (k₀ : Nat) (d₀ : TxnDyn) : (s.setTxn k₀ d₀).scrubAt = s.scrubAt := rfl
@[simp] theorem State.setTxn_ring (s : State) (k₀ : Nat) (d₀ : TxnDyn) : (s.setTxn k₀ d₀).ring = s.ring := rfl
@[simp] theorem State.setTxn_nextId (s : State) (k₀ : Nat) (d₀ : TxnDyn) : (s.setTxn k₀ d₀).nextId = s.nextId := rfl
@[simp] theorem State.setTxn_freeCtr (s : State) (k₀ : Nat) (d₀ : TxnDyn) : (s.setTxn k₀ d₀).freeCtr = s.freeCtr := rfl
@[simp] theorem State.setTxn_sent (s : State) (k₀ : Nat) (d₀ : TxnDyn) : (s.setTxn k₀ d₀).sent = s.sent := rfl
@[simp] theorem State.setTxn_word (s : State) (k₀ : Nat) (d₀ : TxnDyn) (k : RegKind) (i : Nat) : (s.setTxn k₀ d₀).word k i = s.word k i := rfl
@[simp] theorem State.setTxn_get (s : State) (k₀ : Nat) (d₀ : TxnDyn) (F : Fld) (i : Nat) : (s.setTxn k₀ d₀).get F i = s.get F i := rfl
@[simp] theorem State.setTxn_on (s : State) (k₀ : Nat) (d₀ : TxnDyn) (F : Fld) (i : Nat) : (s.setTxn k₀ d₀).on F i = s.on F i := rfl
@[simp] theorem State.setTxn_region (s : State) (k₀ : Nat) (d₀ : TxnDyn) (r : Nat) : (s.setTxn k₀ d₀).region r = s.region r := rfl
@[simp] theorem State.setTxn_cfgWord (s : State) (k₀ : Nat) (d₀ : TxnDyn) (f o : Nat) : (s.setTxn k₀ d₀).cfgWord f o = s.cfgWord f o := rfl
@[simp] theorem State.setTxn_cfgGet (s : State) (k₀ : Nat) (d₀ : TxnDyn) (f o lo len : Nat) : (s.setTxn k₀ d₀).cfgGet f o lo len = s.cfgGet f o lo len := rfl
@[simp] theorem State.setTxn_cfgBit (s : State) (k₀ : Nat) (d₀ : TxnDyn) (f o i : Nat) : (s.setTxn k₀ d₀).cfgBit f o i = s.cfgBit f o i := rfl
@[simp] theorem State.setTxn_msixWord (s : State) (k₀ : Nat) (d₀ : TxnDyn) (f e j : Nat) : (s.setTxn k₀ d₀).msixWord f e j = s.msixWord f e j := rfl
@[simp] theorem State.setTxn_host (s : State) (k₀ : Nat) (d₀ : TxnDyn) (h : Nat) : (s.setTxn k₀ d₀).host h = s.host h := rfl
@[simp] theorem State.setTxn_func (s : State) (k₀ : Nat) (d₀ : TxnDyn) (f : Nat) : (s.setTxn k₀ d₀).func f = s.func f := rfl
@[simp] theorem State.setTxn_port (s : State) (k₀ : Nat) (d₀ : TxnDyn) (p : Nat) : (s.setTxn k₀ d₀).port p = s.port p := rfl
@[simp] theorem State.setTxn_lane (s : State) (k₀ : Nat) (d₀ : TxnDyn) (l : Nat) : (s.setTxn k₀ d₀).lane l = s.lane l := rfl
@[simp] theorem State.setTxn_queue (s : State) (k₀ : Nat) (d₀ : TxnDyn) (q : Nat) : (s.setTxn k₀ d₀).queue q = s.queue q := rfl
@[simp] theorem State.setTxn_eng (s : State) (k₀ : Nat) (d₀ : TxnDyn) (e : Nat) : (s.setTxn k₀ d₀).eng e = s.eng e := rfl
@[simp] theorem State.setTxn_peg (s : State) (k₀ : Nat) (d₀ : TxnDyn) (i : Nat) : (s.setTxn k₀ d₀).peg i = s.peg i := rfl
@[simp] theorem State.setTxn_ctr (s : State) (k₀ : Nat) (d₀ : TxnDyn) (o : Nat) : (s.setTxn k₀ d₀).ctr o = s.ctr o := rfl
@[simp] theorem State.setTxn_due (s : State) (k₀ : Nat) (d₀ : TxnDyn) (t : Timer) : (s.setTxn k₀ d₀).due t = s.due t := rfl
@[simp] theorem State.setTxn_armed (s : State) (k₀ : Nat) (d₀ : TxnDyn) (t : Timer) : (s.setTxn k₀ d₀).armed t = s.armed t := rfl
@[simp] theorem State.setTxn_isUp (s : State) (k₀ : Nat) (d₀ : TxnDyn) : (s.setTxn k₀ d₀).isUp = s.isUp := rfl
@[simp] theorem State.setTxn_powered (s : State) (k₀ : Nat) (d₀ : TxnDyn) : (s.setTxn k₀ d₀).powered = s.powered := rfl

@[simp] theorem State.modTxn_pending (s : State) (k₀ : Nat) (g₀ : TxnDyn → TxnDyn) : (s.modTxn k₀ g₀).pending = s.pending := rfl
@[simp] theorem State.modTxn_phase (s : State) (k₀ : Nat) (g₀ : TxnDyn → TxnDyn) : (s.modTxn k₀ g₀).phase = s.phase := rfl
@[simp] theorem State.modTxn_clock (s : State) (k₀ : Nat) (g₀ : TxnDyn → TxnDyn) : (s.modTxn k₀ g₀).clock = s.clock := rfl
@[simp] theorem State.modTxn_devtime (s : State) (k₀ : Nat) (g₀ : TxnDyn → TxnDyn) : (s.modTxn k₀ g₀).devtime = s.devtime := rfl
@[simp] theorem State.modTxn_slew (s : State) (k₀ : Nat) (g₀ : TxnDyn → TxnDyn) : (s.modTxn k₀ g₀).slew = s.slew := rfl
@[simp] theorem State.modTxn_slewFrac (s : State) (k₀ : Nat) (g₀ : TxnDyn → TxnDyn) : (s.modTxn k₀ g₀).slewFrac = s.slewFrac := rfl
@[simp] theorem State.modTxn_regs (s : State) (k₀ : Nat) (g₀ : TxnDyn → TxnDyn) : (s.modTxn k₀ g₀).regs = s.regs := rfl
@[simp] theorem State.modTxn_ctrs (s : State) (k₀ : Nat) (g₀ : TxnDyn → TxnDyn) : (s.modTxn k₀ g₀).ctrs = s.ctrs := rfl
@[simp] theorem State.modTxn_bankA (s : State) (k₀ : Nat) (g₀ : TxnDyn → TxnDyn) : (s.modTxn k₀ g₀).bankA = s.bankA := rfl
@[simp] theorem State.modTxn_bankB (s : State) (k₀ : Nat) (g₀ : TxnDyn → TxnDyn) : (s.modTxn k₀ g₀).bankB = s.bankB := rfl
@[simp] theorem State.modTxn_cfg (s : State) (k₀ : Nat) (g₀ : TxnDyn → TxnDyn) : (s.modTxn k₀ g₀).cfg = s.cfg := rfl
@[simp] theorem State.modTxn_msix (s : State) (k₀ : Nat) (g₀ : TxnDyn → TxnDyn) : (s.modTxn k₀ g₀).msix = s.msix := rfl
@[simp] theorem State.modTxn_pba (s : State) (k₀ : Nat) (g₀ : TxnDyn → TxnDyn) : (s.modTxn k₀ g₀).pba = s.pba := rfl
@[simp] theorem State.modTxn_fuses (s : State) (k₀ : Nat) (g₀ : TxnDyn → TxnDyn) : (s.modTxn k₀ g₀).fuses = s.fuses := rfl
@[simp] theorem State.modTxn_timers (s : State) (k₀ : Nat) (g₀ : TxnDyn → TxnDyn) : (s.modTxn k₀ g₀).timers = s.timers := rfl
@[simp] theorem State.modTxn_rss (s : State) (k₀ : Nat) (g₀ : TxnDyn → TxnDyn) : (s.modTxn k₀ g₀).rss = s.rss := rfl
@[simp] theorem State.modTxn_hosts (s : State) (k₀ : Nat) (g₀ : TxnDyn → TxnDyn) : (s.modTxn k₀ g₀).hosts = s.hosts := rfl
@[simp] theorem State.modTxn_funcs (s : State) (k₀ : Nat) (g₀ : TxnDyn → TxnDyn) : (s.modTxn k₀ g₀).funcs = s.funcs := rfl
@[simp] theorem State.modTxn_commits (s : State) (k₀ : Nat) (g₀ : TxnDyn → TxnDyn) : (s.modTxn k₀ g₀).commits = s.commits := rfl
@[simp] theorem State.modTxn_ports (s : State) (k₀ : Nat) (g₀ : TxnDyn → TxnDyn) : (s.modTxn k₀ g₀).ports = s.ports := rfl
@[simp] theorem State.modTxn_lanes (s : State) (k₀ : Nat) (g₀ : TxnDyn → TxnDyn) : (s.modTxn k₀ g₀).lanes = s.lanes := rfl
@[simp] theorem State.modTxn_queues (s : State) (k₀ : Nat) (g₀ : TxnDyn → TxnDyn) : (s.modTxn k₀ g₀).queues = s.queues := rfl
@[simp] theorem State.modTxn_engines (s : State) (k₀ : Nat) (g₀ : TxnDyn → TxnDyn) : (s.modTxn k₀ g₀).engines = s.engines := rfl
@[simp] theorem State.modTxn_pegs (s : State) (k₀ : Nat) (g₀ : TxnDyn → TxnDyn) : (s.modTxn k₀ g₀).pegs = s.pegs := rfl
@[simp] theorem State.modTxn_vecs (s : State) (k₀ : Nat) (g₀ : TxnDyn → TxnDyn) : (s.modTxn k₀ g₀).vecs = s.vecs := rfl
@[simp] theorem State.modTxn_freed (s : State) (k₀ : Nat) (g₀ : TxnDyn → TxnDyn) : (s.modTxn k₀ g₀).freed = s.freed := rfl
@[simp] theorem State.modTxn_brace (s : State) (k₀ : Nat) (g₀ : TxnDyn → TxnDyn) : (s.modTxn k₀ g₀).brace = s.brace := rfl
@[simp] theorem State.modTxn_ridge (s : State) (k₀ : Nat) (g₀ : TxnDyn → TxnDyn) : (s.modTxn k₀ g₀).ridge = s.ridge := rfl
@[simp] theorem State.modTxn_plumb (s : State) (k₀ : Nat) (g₀ : TxnDyn → TxnDyn) : (s.modTxn k₀ g₀).plumb = s.plumb := rfl
@[simp] theorem State.modTxn_scribe (s : State) (k₀ : Nat) (g₀ : TxnDyn → TxnDyn) : (s.modTxn k₀ g₀).scribe = s.scribe := rfl
@[simp] theorem State.modTxn_pins (s : State) (k₀ : Nat) (g₀ : TxnDyn → TxnDyn) : (s.modTxn k₀ g₀).pins = s.pins := rfl
@[simp] theorem State.modTxn_restore (s : State) (k₀ : Nat) (g₀ : TxnDyn → TxnDyn) : (s.modTxn k₀ g₀).restore = s.restore := rfl
@[simp] theorem State.modTxn_plankGen (s : State) (k₀ : Nat) (g₀ : TxnDyn → TxnDyn) : (s.modTxn k₀ g₀).plankGen = s.plankGen := rfl
@[simp] theorem State.modTxn_plankTime (s : State) (k₀ : Nat) (g₀ : TxnDyn → TxnDyn) : (s.modTxn k₀ g₀).plankTime = s.plankTime := rfl
@[simp] theorem State.modTxn_planks (s : State) (k₀ : Nat) (g₀ : TxnDyn → TxnDyn) : (s.modTxn k₀ g₀).planks = s.planks := rfl
@[simp] theorem State.modTxn_served (s : State) (k₀ : Nat) (g₀ : TxnDyn → TxnDyn) : (s.modTxn k₀ g₀).served = s.served := rfl
@[simp] theorem State.modTxn_waking (s : State) (k₀ : Nat) (g₀ : TxnDyn → TxnDyn) : (s.modTxn k₀ g₀).waking = s.waking := rfl
@[simp] theorem State.modTxn_warm (s : State) (k₀ : Nat) (g₀ : TxnDyn → TxnDyn) : (s.modTxn k₀ g₀).warm = s.warm := rfl
@[simp] theorem State.modTxn_damaged (s : State) (k₀ : Nat) (g₀ : TxnDyn → TxnDyn) : (s.modTxn k₀ g₀).damaged = s.damaged := rfl
@[simp] theorem State.modTxn_scrubAt (s : State) (k₀ : Nat) (g₀ : TxnDyn → TxnDyn) : (s.modTxn k₀ g₀).scrubAt = s.scrubAt := rfl
@[simp] theorem State.modTxn_ring (s : State) (k₀ : Nat) (g₀ : TxnDyn → TxnDyn) : (s.modTxn k₀ g₀).ring = s.ring := rfl
@[simp] theorem State.modTxn_nextId (s : State) (k₀ : Nat) (g₀ : TxnDyn → TxnDyn) : (s.modTxn k₀ g₀).nextId = s.nextId := rfl
@[simp] theorem State.modTxn_freeCtr (s : State) (k₀ : Nat) (g₀ : TxnDyn → TxnDyn) : (s.modTxn k₀ g₀).freeCtr = s.freeCtr := rfl
@[simp] theorem State.modTxn_sent (s : State) (k₀ : Nat) (g₀ : TxnDyn → TxnDyn) : (s.modTxn k₀ g₀).sent = s.sent := rfl
@[simp] theorem State.modTxn_word (s : State) (k₀ : Nat) (g₀ : TxnDyn → TxnDyn) (k : RegKind) (i : Nat) : (s.modTxn k₀ g₀).word k i = s.word k i := rfl
@[simp] theorem State.modTxn_get (s : State) (k₀ : Nat) (g₀ : TxnDyn → TxnDyn) (F : Fld) (i : Nat) : (s.modTxn k₀ g₀).get F i = s.get F i := rfl
@[simp] theorem State.modTxn_on (s : State) (k₀ : Nat) (g₀ : TxnDyn → TxnDyn) (F : Fld) (i : Nat) : (s.modTxn k₀ g₀).on F i = s.on F i := rfl
@[simp] theorem State.modTxn_region (s : State) (k₀ : Nat) (g₀ : TxnDyn → TxnDyn) (r : Nat) : (s.modTxn k₀ g₀).region r = s.region r := rfl
@[simp] theorem State.modTxn_cfgWord (s : State) (k₀ : Nat) (g₀ : TxnDyn → TxnDyn) (f o : Nat) : (s.modTxn k₀ g₀).cfgWord f o = s.cfgWord f o := rfl
@[simp] theorem State.modTxn_cfgGet (s : State) (k₀ : Nat) (g₀ : TxnDyn → TxnDyn) (f o lo len : Nat) : (s.modTxn k₀ g₀).cfgGet f o lo len = s.cfgGet f o lo len := rfl
@[simp] theorem State.modTxn_cfgBit (s : State) (k₀ : Nat) (g₀ : TxnDyn → TxnDyn) (f o i : Nat) : (s.modTxn k₀ g₀).cfgBit f o i = s.cfgBit f o i := rfl
@[simp] theorem State.modTxn_msixWord (s : State) (k₀ : Nat) (g₀ : TxnDyn → TxnDyn) (f e j : Nat) : (s.modTxn k₀ g₀).msixWord f e j = s.msixWord f e j := rfl
@[simp] theorem State.modTxn_host (s : State) (k₀ : Nat) (g₀ : TxnDyn → TxnDyn) (h : Nat) : (s.modTxn k₀ g₀).host h = s.host h := rfl
@[simp] theorem State.modTxn_func (s : State) (k₀ : Nat) (g₀ : TxnDyn → TxnDyn) (f : Nat) : (s.modTxn k₀ g₀).func f = s.func f := rfl
@[simp] theorem State.modTxn_port (s : State) (k₀ : Nat) (g₀ : TxnDyn → TxnDyn) (p : Nat) : (s.modTxn k₀ g₀).port p = s.port p := rfl
@[simp] theorem State.modTxn_lane (s : State) (k₀ : Nat) (g₀ : TxnDyn → TxnDyn) (l : Nat) : (s.modTxn k₀ g₀).lane l = s.lane l := rfl
@[simp] theorem State.modTxn_queue (s : State) (k₀ : Nat) (g₀ : TxnDyn → TxnDyn) (q : Nat) : (s.modTxn k₀ g₀).queue q = s.queue q := rfl
@[simp] theorem State.modTxn_eng (s : State) (k₀ : Nat) (g₀ : TxnDyn → TxnDyn) (e : Nat) : (s.modTxn k₀ g₀).eng e = s.eng e := rfl
@[simp] theorem State.modTxn_peg (s : State) (k₀ : Nat) (g₀ : TxnDyn → TxnDyn) (i : Nat) : (s.modTxn k₀ g₀).peg i = s.peg i := rfl
@[simp] theorem State.modTxn_ctr (s : State) (k₀ : Nat) (g₀ : TxnDyn → TxnDyn) (o : Nat) : (s.modTxn k₀ g₀).ctr o = s.ctr o := rfl
@[simp] theorem State.modTxn_due (s : State) (k₀ : Nat) (g₀ : TxnDyn → TxnDyn) (t : Timer) : (s.modTxn k₀ g₀).due t = s.due t := rfl
@[simp] theorem State.modTxn_armed (s : State) (k₀ : Nat) (g₀ : TxnDyn → TxnDyn) (t : Timer) : (s.modTxn k₀ g₀).armed t = s.armed t := rfl
@[simp] theorem State.modTxn_isUp (s : State) (k₀ : Nat) (g₀ : TxnDyn → TxnDyn) : (s.modTxn k₀ g₀).isUp = s.isUp := rfl
@[simp] theorem State.modTxn_powered (s : State) (k₀ : Nat) (g₀ : TxnDyn → TxnDyn) : (s.modTxn k₀ g₀).powered = s.powered := rfl

@[simp] theorem State.setPort_pending (s : State) (k₀ : Nat) (d₀ : PortDyn) : (s.setPort k₀ d₀).pending = s.pending := rfl
@[simp] theorem State.setPort_phase (s : State) (k₀ : Nat) (d₀ : PortDyn) : (s.setPort k₀ d₀).phase = s.phase := rfl
@[simp] theorem State.setPort_clock (s : State) (k₀ : Nat) (d₀ : PortDyn) : (s.setPort k₀ d₀).clock = s.clock := rfl
@[simp] theorem State.setPort_devtime (s : State) (k₀ : Nat) (d₀ : PortDyn) : (s.setPort k₀ d₀).devtime = s.devtime := rfl
@[simp] theorem State.setPort_slew (s : State) (k₀ : Nat) (d₀ : PortDyn) : (s.setPort k₀ d₀).slew = s.slew := rfl
@[simp] theorem State.setPort_slewFrac (s : State) (k₀ : Nat) (d₀ : PortDyn) : (s.setPort k₀ d₀).slewFrac = s.slewFrac := rfl
@[simp] theorem State.setPort_regs (s : State) (k₀ : Nat) (d₀ : PortDyn) : (s.setPort k₀ d₀).regs = s.regs := rfl
@[simp] theorem State.setPort_ctrs (s : State) (k₀ : Nat) (d₀ : PortDyn) : (s.setPort k₀ d₀).ctrs = s.ctrs := rfl
@[simp] theorem State.setPort_bankA (s : State) (k₀ : Nat) (d₀ : PortDyn) : (s.setPort k₀ d₀).bankA = s.bankA := rfl
@[simp] theorem State.setPort_bankB (s : State) (k₀ : Nat) (d₀ : PortDyn) : (s.setPort k₀ d₀).bankB = s.bankB := rfl
@[simp] theorem State.setPort_cfg (s : State) (k₀ : Nat) (d₀ : PortDyn) : (s.setPort k₀ d₀).cfg = s.cfg := rfl
@[simp] theorem State.setPort_msix (s : State) (k₀ : Nat) (d₀ : PortDyn) : (s.setPort k₀ d₀).msix = s.msix := rfl
@[simp] theorem State.setPort_pba (s : State) (k₀ : Nat) (d₀ : PortDyn) : (s.setPort k₀ d₀).pba = s.pba := rfl
@[simp] theorem State.setPort_fuses (s : State) (k₀ : Nat) (d₀ : PortDyn) : (s.setPort k₀ d₀).fuses = s.fuses := rfl
@[simp] theorem State.setPort_timers (s : State) (k₀ : Nat) (d₀ : PortDyn) : (s.setPort k₀ d₀).timers = s.timers := rfl
@[simp] theorem State.setPort_rss (s : State) (k₀ : Nat) (d₀ : PortDyn) : (s.setPort k₀ d₀).rss = s.rss := rfl
@[simp] theorem State.setPort_hosts (s : State) (k₀ : Nat) (d₀ : PortDyn) : (s.setPort k₀ d₀).hosts = s.hosts := rfl
@[simp] theorem State.setPort_funcs (s : State) (k₀ : Nat) (d₀ : PortDyn) : (s.setPort k₀ d₀).funcs = s.funcs := rfl
@[simp] theorem State.setPort_txns (s : State) (k₀ : Nat) (d₀ : PortDyn) : (s.setPort k₀ d₀).txns = s.txns := rfl
@[simp] theorem State.setPort_commits (s : State) (k₀ : Nat) (d₀ : PortDyn) : (s.setPort k₀ d₀).commits = s.commits := rfl
@[simp] theorem State.setPort_lanes (s : State) (k₀ : Nat) (d₀ : PortDyn) : (s.setPort k₀ d₀).lanes = s.lanes := rfl
@[simp] theorem State.setPort_queues (s : State) (k₀ : Nat) (d₀ : PortDyn) : (s.setPort k₀ d₀).queues = s.queues := rfl
@[simp] theorem State.setPort_engines (s : State) (k₀ : Nat) (d₀ : PortDyn) : (s.setPort k₀ d₀).engines = s.engines := rfl
@[simp] theorem State.setPort_pegs (s : State) (k₀ : Nat) (d₀ : PortDyn) : (s.setPort k₀ d₀).pegs = s.pegs := rfl
@[simp] theorem State.setPort_vecs (s : State) (k₀ : Nat) (d₀ : PortDyn) : (s.setPort k₀ d₀).vecs = s.vecs := rfl
@[simp] theorem State.setPort_freed (s : State) (k₀ : Nat) (d₀ : PortDyn) : (s.setPort k₀ d₀).freed = s.freed := rfl
@[simp] theorem State.setPort_brace (s : State) (k₀ : Nat) (d₀ : PortDyn) : (s.setPort k₀ d₀).brace = s.brace := rfl
@[simp] theorem State.setPort_ridge (s : State) (k₀ : Nat) (d₀ : PortDyn) : (s.setPort k₀ d₀).ridge = s.ridge := rfl
@[simp] theorem State.setPort_plumb (s : State) (k₀ : Nat) (d₀ : PortDyn) : (s.setPort k₀ d₀).plumb = s.plumb := rfl
@[simp] theorem State.setPort_scribe (s : State) (k₀ : Nat) (d₀ : PortDyn) : (s.setPort k₀ d₀).scribe = s.scribe := rfl
@[simp] theorem State.setPort_pins (s : State) (k₀ : Nat) (d₀ : PortDyn) : (s.setPort k₀ d₀).pins = s.pins := rfl
@[simp] theorem State.setPort_restore (s : State) (k₀ : Nat) (d₀ : PortDyn) : (s.setPort k₀ d₀).restore = s.restore := rfl
@[simp] theorem State.setPort_plankGen (s : State) (k₀ : Nat) (d₀ : PortDyn) : (s.setPort k₀ d₀).plankGen = s.plankGen := rfl
@[simp] theorem State.setPort_plankTime (s : State) (k₀ : Nat) (d₀ : PortDyn) : (s.setPort k₀ d₀).plankTime = s.plankTime := rfl
@[simp] theorem State.setPort_planks (s : State) (k₀ : Nat) (d₀ : PortDyn) : (s.setPort k₀ d₀).planks = s.planks := rfl
@[simp] theorem State.setPort_served (s : State) (k₀ : Nat) (d₀ : PortDyn) : (s.setPort k₀ d₀).served = s.served := rfl
@[simp] theorem State.setPort_waking (s : State) (k₀ : Nat) (d₀ : PortDyn) : (s.setPort k₀ d₀).waking = s.waking := rfl
@[simp] theorem State.setPort_warm (s : State) (k₀ : Nat) (d₀ : PortDyn) : (s.setPort k₀ d₀).warm = s.warm := rfl
@[simp] theorem State.setPort_damaged (s : State) (k₀ : Nat) (d₀ : PortDyn) : (s.setPort k₀ d₀).damaged = s.damaged := rfl
@[simp] theorem State.setPort_scrubAt (s : State) (k₀ : Nat) (d₀ : PortDyn) : (s.setPort k₀ d₀).scrubAt = s.scrubAt := rfl
@[simp] theorem State.setPort_ring (s : State) (k₀ : Nat) (d₀ : PortDyn) : (s.setPort k₀ d₀).ring = s.ring := rfl
@[simp] theorem State.setPort_nextId (s : State) (k₀ : Nat) (d₀ : PortDyn) : (s.setPort k₀ d₀).nextId = s.nextId := rfl
@[simp] theorem State.setPort_freeCtr (s : State) (k₀ : Nat) (d₀ : PortDyn) : (s.setPort k₀ d₀).freeCtr = s.freeCtr := rfl
@[simp] theorem State.setPort_sent (s : State) (k₀ : Nat) (d₀ : PortDyn) : (s.setPort k₀ d₀).sent = s.sent := rfl
@[simp] theorem State.setPort_word (s : State) (k₀ : Nat) (d₀ : PortDyn) (k : RegKind) (i : Nat) : (s.setPort k₀ d₀).word k i = s.word k i := rfl
@[simp] theorem State.setPort_get (s : State) (k₀ : Nat) (d₀ : PortDyn) (F : Fld) (i : Nat) : (s.setPort k₀ d₀).get F i = s.get F i := rfl
@[simp] theorem State.setPort_on (s : State) (k₀ : Nat) (d₀ : PortDyn) (F : Fld) (i : Nat) : (s.setPort k₀ d₀).on F i = s.on F i := rfl
@[simp] theorem State.setPort_region (s : State) (k₀ : Nat) (d₀ : PortDyn) (r : Nat) : (s.setPort k₀ d₀).region r = s.region r := rfl
@[simp] theorem State.setPort_cfgWord (s : State) (k₀ : Nat) (d₀ : PortDyn) (f o : Nat) : (s.setPort k₀ d₀).cfgWord f o = s.cfgWord f o := rfl
@[simp] theorem State.setPort_cfgGet (s : State) (k₀ : Nat) (d₀ : PortDyn) (f o lo len : Nat) : (s.setPort k₀ d₀).cfgGet f o lo len = s.cfgGet f o lo len := rfl
@[simp] theorem State.setPort_cfgBit (s : State) (k₀ : Nat) (d₀ : PortDyn) (f o i : Nat) : (s.setPort k₀ d₀).cfgBit f o i = s.cfgBit f o i := rfl
@[simp] theorem State.setPort_msixWord (s : State) (k₀ : Nat) (d₀ : PortDyn) (f e j : Nat) : (s.setPort k₀ d₀).msixWord f e j = s.msixWord f e j := rfl
@[simp] theorem State.setPort_host (s : State) (k₀ : Nat) (d₀ : PortDyn) (h : Nat) : (s.setPort k₀ d₀).host h = s.host h := rfl
@[simp] theorem State.setPort_func (s : State) (k₀ : Nat) (d₀ : PortDyn) (f : Nat) : (s.setPort k₀ d₀).func f = s.func f := rfl
@[simp] theorem State.setPort_txn (s : State) (k₀ : Nat) (d₀ : PortDyn) (c : Nat) : (s.setPort k₀ d₀).txn c = s.txn c := rfl
@[simp] theorem State.setPort_lane (s : State) (k₀ : Nat) (d₀ : PortDyn) (l : Nat) : (s.setPort k₀ d₀).lane l = s.lane l := rfl
@[simp] theorem State.setPort_queue (s : State) (k₀ : Nat) (d₀ : PortDyn) (q : Nat) : (s.setPort k₀ d₀).queue q = s.queue q := rfl
@[simp] theorem State.setPort_eng (s : State) (k₀ : Nat) (d₀ : PortDyn) (e : Nat) : (s.setPort k₀ d₀).eng e = s.eng e := rfl
@[simp] theorem State.setPort_peg (s : State) (k₀ : Nat) (d₀ : PortDyn) (i : Nat) : (s.setPort k₀ d₀).peg i = s.peg i := rfl
@[simp] theorem State.setPort_ctr (s : State) (k₀ : Nat) (d₀ : PortDyn) (o : Nat) : (s.setPort k₀ d₀).ctr o = s.ctr o := rfl
@[simp] theorem State.setPort_due (s : State) (k₀ : Nat) (d₀ : PortDyn) (t : Timer) : (s.setPort k₀ d₀).due t = s.due t := rfl
@[simp] theorem State.setPort_armed (s : State) (k₀ : Nat) (d₀ : PortDyn) (t : Timer) : (s.setPort k₀ d₀).armed t = s.armed t := rfl
@[simp] theorem State.setPort_isUp (s : State) (k₀ : Nat) (d₀ : PortDyn) : (s.setPort k₀ d₀).isUp = s.isUp := rfl
@[simp] theorem State.setPort_powered (s : State) (k₀ : Nat) (d₀ : PortDyn) : (s.setPort k₀ d₀).powered = s.powered := rfl

@[simp] theorem State.modPort_pending (s : State) (k₀ : Nat) (g₀ : PortDyn → PortDyn) : (s.modPort k₀ g₀).pending = s.pending := rfl
@[simp] theorem State.modPort_phase (s : State) (k₀ : Nat) (g₀ : PortDyn → PortDyn) : (s.modPort k₀ g₀).phase = s.phase := rfl
@[simp] theorem State.modPort_clock (s : State) (k₀ : Nat) (g₀ : PortDyn → PortDyn) : (s.modPort k₀ g₀).clock = s.clock := rfl
@[simp] theorem State.modPort_devtime (s : State) (k₀ : Nat) (g₀ : PortDyn → PortDyn) : (s.modPort k₀ g₀).devtime = s.devtime := rfl
@[simp] theorem State.modPort_slew (s : State) (k₀ : Nat) (g₀ : PortDyn → PortDyn) : (s.modPort k₀ g₀).slew = s.slew := rfl
@[simp] theorem State.modPort_slewFrac (s : State) (k₀ : Nat) (g₀ : PortDyn → PortDyn) : (s.modPort k₀ g₀).slewFrac = s.slewFrac := rfl
@[simp] theorem State.modPort_regs (s : State) (k₀ : Nat) (g₀ : PortDyn → PortDyn) : (s.modPort k₀ g₀).regs = s.regs := rfl
@[simp] theorem State.modPort_ctrs (s : State) (k₀ : Nat) (g₀ : PortDyn → PortDyn) : (s.modPort k₀ g₀).ctrs = s.ctrs := rfl
@[simp] theorem State.modPort_bankA (s : State) (k₀ : Nat) (g₀ : PortDyn → PortDyn) : (s.modPort k₀ g₀).bankA = s.bankA := rfl
@[simp] theorem State.modPort_bankB (s : State) (k₀ : Nat) (g₀ : PortDyn → PortDyn) : (s.modPort k₀ g₀).bankB = s.bankB := rfl
@[simp] theorem State.modPort_cfg (s : State) (k₀ : Nat) (g₀ : PortDyn → PortDyn) : (s.modPort k₀ g₀).cfg = s.cfg := rfl
@[simp] theorem State.modPort_msix (s : State) (k₀ : Nat) (g₀ : PortDyn → PortDyn) : (s.modPort k₀ g₀).msix = s.msix := rfl
@[simp] theorem State.modPort_pba (s : State) (k₀ : Nat) (g₀ : PortDyn → PortDyn) : (s.modPort k₀ g₀).pba = s.pba := rfl
@[simp] theorem State.modPort_fuses (s : State) (k₀ : Nat) (g₀ : PortDyn → PortDyn) : (s.modPort k₀ g₀).fuses = s.fuses := rfl
@[simp] theorem State.modPort_timers (s : State) (k₀ : Nat) (g₀ : PortDyn → PortDyn) : (s.modPort k₀ g₀).timers = s.timers := rfl
@[simp] theorem State.modPort_rss (s : State) (k₀ : Nat) (g₀ : PortDyn → PortDyn) : (s.modPort k₀ g₀).rss = s.rss := rfl
@[simp] theorem State.modPort_hosts (s : State) (k₀ : Nat) (g₀ : PortDyn → PortDyn) : (s.modPort k₀ g₀).hosts = s.hosts := rfl
@[simp] theorem State.modPort_funcs (s : State) (k₀ : Nat) (g₀ : PortDyn → PortDyn) : (s.modPort k₀ g₀).funcs = s.funcs := rfl
@[simp] theorem State.modPort_txns (s : State) (k₀ : Nat) (g₀ : PortDyn → PortDyn) : (s.modPort k₀ g₀).txns = s.txns := rfl
@[simp] theorem State.modPort_commits (s : State) (k₀ : Nat) (g₀ : PortDyn → PortDyn) : (s.modPort k₀ g₀).commits = s.commits := rfl
@[simp] theorem State.modPort_lanes (s : State) (k₀ : Nat) (g₀ : PortDyn → PortDyn) : (s.modPort k₀ g₀).lanes = s.lanes := rfl
@[simp] theorem State.modPort_queues (s : State) (k₀ : Nat) (g₀ : PortDyn → PortDyn) : (s.modPort k₀ g₀).queues = s.queues := rfl
@[simp] theorem State.modPort_engines (s : State) (k₀ : Nat) (g₀ : PortDyn → PortDyn) : (s.modPort k₀ g₀).engines = s.engines := rfl
@[simp] theorem State.modPort_pegs (s : State) (k₀ : Nat) (g₀ : PortDyn → PortDyn) : (s.modPort k₀ g₀).pegs = s.pegs := rfl
@[simp] theorem State.modPort_vecs (s : State) (k₀ : Nat) (g₀ : PortDyn → PortDyn) : (s.modPort k₀ g₀).vecs = s.vecs := rfl
@[simp] theorem State.modPort_freed (s : State) (k₀ : Nat) (g₀ : PortDyn → PortDyn) : (s.modPort k₀ g₀).freed = s.freed := rfl
@[simp] theorem State.modPort_brace (s : State) (k₀ : Nat) (g₀ : PortDyn → PortDyn) : (s.modPort k₀ g₀).brace = s.brace := rfl
@[simp] theorem State.modPort_ridge (s : State) (k₀ : Nat) (g₀ : PortDyn → PortDyn) : (s.modPort k₀ g₀).ridge = s.ridge := rfl
@[simp] theorem State.modPort_plumb (s : State) (k₀ : Nat) (g₀ : PortDyn → PortDyn) : (s.modPort k₀ g₀).plumb = s.plumb := rfl
@[simp] theorem State.modPort_scribe (s : State) (k₀ : Nat) (g₀ : PortDyn → PortDyn) : (s.modPort k₀ g₀).scribe = s.scribe := rfl
@[simp] theorem State.modPort_pins (s : State) (k₀ : Nat) (g₀ : PortDyn → PortDyn) : (s.modPort k₀ g₀).pins = s.pins := rfl
@[simp] theorem State.modPort_restore (s : State) (k₀ : Nat) (g₀ : PortDyn → PortDyn) : (s.modPort k₀ g₀).restore = s.restore := rfl
@[simp] theorem State.modPort_plankGen (s : State) (k₀ : Nat) (g₀ : PortDyn → PortDyn) : (s.modPort k₀ g₀).plankGen = s.plankGen := rfl
@[simp] theorem State.modPort_plankTime (s : State) (k₀ : Nat) (g₀ : PortDyn → PortDyn) : (s.modPort k₀ g₀).plankTime = s.plankTime := rfl
@[simp] theorem State.modPort_planks (s : State) (k₀ : Nat) (g₀ : PortDyn → PortDyn) : (s.modPort k₀ g₀).planks = s.planks := rfl
@[simp] theorem State.modPort_served (s : State) (k₀ : Nat) (g₀ : PortDyn → PortDyn) : (s.modPort k₀ g₀).served = s.served := rfl
@[simp] theorem State.modPort_waking (s : State) (k₀ : Nat) (g₀ : PortDyn → PortDyn) : (s.modPort k₀ g₀).waking = s.waking := rfl
@[simp] theorem State.modPort_warm (s : State) (k₀ : Nat) (g₀ : PortDyn → PortDyn) : (s.modPort k₀ g₀).warm = s.warm := rfl
@[simp] theorem State.modPort_damaged (s : State) (k₀ : Nat) (g₀ : PortDyn → PortDyn) : (s.modPort k₀ g₀).damaged = s.damaged := rfl
@[simp] theorem State.modPort_scrubAt (s : State) (k₀ : Nat) (g₀ : PortDyn → PortDyn) : (s.modPort k₀ g₀).scrubAt = s.scrubAt := rfl
@[simp] theorem State.modPort_ring (s : State) (k₀ : Nat) (g₀ : PortDyn → PortDyn) : (s.modPort k₀ g₀).ring = s.ring := rfl
@[simp] theorem State.modPort_nextId (s : State) (k₀ : Nat) (g₀ : PortDyn → PortDyn) : (s.modPort k₀ g₀).nextId = s.nextId := rfl
@[simp] theorem State.modPort_freeCtr (s : State) (k₀ : Nat) (g₀ : PortDyn → PortDyn) : (s.modPort k₀ g₀).freeCtr = s.freeCtr := rfl
@[simp] theorem State.modPort_sent (s : State) (k₀ : Nat) (g₀ : PortDyn → PortDyn) : (s.modPort k₀ g₀).sent = s.sent := rfl
@[simp] theorem State.modPort_word (s : State) (k₀ : Nat) (g₀ : PortDyn → PortDyn) (k : RegKind) (i : Nat) : (s.modPort k₀ g₀).word k i = s.word k i := rfl
@[simp] theorem State.modPort_get (s : State) (k₀ : Nat) (g₀ : PortDyn → PortDyn) (F : Fld) (i : Nat) : (s.modPort k₀ g₀).get F i = s.get F i := rfl
@[simp] theorem State.modPort_on (s : State) (k₀ : Nat) (g₀ : PortDyn → PortDyn) (F : Fld) (i : Nat) : (s.modPort k₀ g₀).on F i = s.on F i := rfl
@[simp] theorem State.modPort_region (s : State) (k₀ : Nat) (g₀ : PortDyn → PortDyn) (r : Nat) : (s.modPort k₀ g₀).region r = s.region r := rfl
@[simp] theorem State.modPort_cfgWord (s : State) (k₀ : Nat) (g₀ : PortDyn → PortDyn) (f o : Nat) : (s.modPort k₀ g₀).cfgWord f o = s.cfgWord f o := rfl
@[simp] theorem State.modPort_cfgGet (s : State) (k₀ : Nat) (g₀ : PortDyn → PortDyn) (f o lo len : Nat) : (s.modPort k₀ g₀).cfgGet f o lo len = s.cfgGet f o lo len := rfl
@[simp] theorem State.modPort_cfgBit (s : State) (k₀ : Nat) (g₀ : PortDyn → PortDyn) (f o i : Nat) : (s.modPort k₀ g₀).cfgBit f o i = s.cfgBit f o i := rfl
@[simp] theorem State.modPort_msixWord (s : State) (k₀ : Nat) (g₀ : PortDyn → PortDyn) (f e j : Nat) : (s.modPort k₀ g₀).msixWord f e j = s.msixWord f e j := rfl
@[simp] theorem State.modPort_host (s : State) (k₀ : Nat) (g₀ : PortDyn → PortDyn) (h : Nat) : (s.modPort k₀ g₀).host h = s.host h := rfl
@[simp] theorem State.modPort_func (s : State) (k₀ : Nat) (g₀ : PortDyn → PortDyn) (f : Nat) : (s.modPort k₀ g₀).func f = s.func f := rfl
@[simp] theorem State.modPort_txn (s : State) (k₀ : Nat) (g₀ : PortDyn → PortDyn) (c : Nat) : (s.modPort k₀ g₀).txn c = s.txn c := rfl
@[simp] theorem State.modPort_lane (s : State) (k₀ : Nat) (g₀ : PortDyn → PortDyn) (l : Nat) : (s.modPort k₀ g₀).lane l = s.lane l := rfl
@[simp] theorem State.modPort_queue (s : State) (k₀ : Nat) (g₀ : PortDyn → PortDyn) (q : Nat) : (s.modPort k₀ g₀).queue q = s.queue q := rfl
@[simp] theorem State.modPort_eng (s : State) (k₀ : Nat) (g₀ : PortDyn → PortDyn) (e : Nat) : (s.modPort k₀ g₀).eng e = s.eng e := rfl
@[simp] theorem State.modPort_peg (s : State) (k₀ : Nat) (g₀ : PortDyn → PortDyn) (i : Nat) : (s.modPort k₀ g₀).peg i = s.peg i := rfl
@[simp] theorem State.modPort_ctr (s : State) (k₀ : Nat) (g₀ : PortDyn → PortDyn) (o : Nat) : (s.modPort k₀ g₀).ctr o = s.ctr o := rfl
@[simp] theorem State.modPort_due (s : State) (k₀ : Nat) (g₀ : PortDyn → PortDyn) (t : Timer) : (s.modPort k₀ g₀).due t = s.due t := rfl
@[simp] theorem State.modPort_armed (s : State) (k₀ : Nat) (g₀ : PortDyn → PortDyn) (t : Timer) : (s.modPort k₀ g₀).armed t = s.armed t := rfl
@[simp] theorem State.modPort_isUp (s : State) (k₀ : Nat) (g₀ : PortDyn → PortDyn) : (s.modPort k₀ g₀).isUp = s.isUp := rfl
@[simp] theorem State.modPort_powered (s : State) (k₀ : Nat) (g₀ : PortDyn → PortDyn) : (s.modPort k₀ g₀).powered = s.powered := rfl

@[simp] theorem State.setLane_pending (s : State) (k₀ : Nat) (d₀ : LaneDyn) : (s.setLane k₀ d₀).pending = s.pending := rfl
@[simp] theorem State.setLane_phase (s : State) (k₀ : Nat) (d₀ : LaneDyn) : (s.setLane k₀ d₀).phase = s.phase := rfl
@[simp] theorem State.setLane_clock (s : State) (k₀ : Nat) (d₀ : LaneDyn) : (s.setLane k₀ d₀).clock = s.clock := rfl
@[simp] theorem State.setLane_devtime (s : State) (k₀ : Nat) (d₀ : LaneDyn) : (s.setLane k₀ d₀).devtime = s.devtime := rfl
@[simp] theorem State.setLane_slew (s : State) (k₀ : Nat) (d₀ : LaneDyn) : (s.setLane k₀ d₀).slew = s.slew := rfl
@[simp] theorem State.setLane_slewFrac (s : State) (k₀ : Nat) (d₀ : LaneDyn) : (s.setLane k₀ d₀).slewFrac = s.slewFrac := rfl
@[simp] theorem State.setLane_regs (s : State) (k₀ : Nat) (d₀ : LaneDyn) : (s.setLane k₀ d₀).regs = s.regs := rfl
@[simp] theorem State.setLane_ctrs (s : State) (k₀ : Nat) (d₀ : LaneDyn) : (s.setLane k₀ d₀).ctrs = s.ctrs := rfl
@[simp] theorem State.setLane_bankA (s : State) (k₀ : Nat) (d₀ : LaneDyn) : (s.setLane k₀ d₀).bankA = s.bankA := rfl
@[simp] theorem State.setLane_bankB (s : State) (k₀ : Nat) (d₀ : LaneDyn) : (s.setLane k₀ d₀).bankB = s.bankB := rfl
@[simp] theorem State.setLane_cfg (s : State) (k₀ : Nat) (d₀ : LaneDyn) : (s.setLane k₀ d₀).cfg = s.cfg := rfl
@[simp] theorem State.setLane_msix (s : State) (k₀ : Nat) (d₀ : LaneDyn) : (s.setLane k₀ d₀).msix = s.msix := rfl
@[simp] theorem State.setLane_pba (s : State) (k₀ : Nat) (d₀ : LaneDyn) : (s.setLane k₀ d₀).pba = s.pba := rfl
@[simp] theorem State.setLane_fuses (s : State) (k₀ : Nat) (d₀ : LaneDyn) : (s.setLane k₀ d₀).fuses = s.fuses := rfl
@[simp] theorem State.setLane_timers (s : State) (k₀ : Nat) (d₀ : LaneDyn) : (s.setLane k₀ d₀).timers = s.timers := rfl
@[simp] theorem State.setLane_rss (s : State) (k₀ : Nat) (d₀ : LaneDyn) : (s.setLane k₀ d₀).rss = s.rss := rfl
@[simp] theorem State.setLane_hosts (s : State) (k₀ : Nat) (d₀ : LaneDyn) : (s.setLane k₀ d₀).hosts = s.hosts := rfl
@[simp] theorem State.setLane_funcs (s : State) (k₀ : Nat) (d₀ : LaneDyn) : (s.setLane k₀ d₀).funcs = s.funcs := rfl
@[simp] theorem State.setLane_txns (s : State) (k₀ : Nat) (d₀ : LaneDyn) : (s.setLane k₀ d₀).txns = s.txns := rfl
@[simp] theorem State.setLane_commits (s : State) (k₀ : Nat) (d₀ : LaneDyn) : (s.setLane k₀ d₀).commits = s.commits := rfl
@[simp] theorem State.setLane_ports (s : State) (k₀ : Nat) (d₀ : LaneDyn) : (s.setLane k₀ d₀).ports = s.ports := rfl
@[simp] theorem State.setLane_queues (s : State) (k₀ : Nat) (d₀ : LaneDyn) : (s.setLane k₀ d₀).queues = s.queues := rfl
@[simp] theorem State.setLane_engines (s : State) (k₀ : Nat) (d₀ : LaneDyn) : (s.setLane k₀ d₀).engines = s.engines := rfl
@[simp] theorem State.setLane_pegs (s : State) (k₀ : Nat) (d₀ : LaneDyn) : (s.setLane k₀ d₀).pegs = s.pegs := rfl
@[simp] theorem State.setLane_vecs (s : State) (k₀ : Nat) (d₀ : LaneDyn) : (s.setLane k₀ d₀).vecs = s.vecs := rfl
@[simp] theorem State.setLane_freed (s : State) (k₀ : Nat) (d₀ : LaneDyn) : (s.setLane k₀ d₀).freed = s.freed := rfl
@[simp] theorem State.setLane_brace (s : State) (k₀ : Nat) (d₀ : LaneDyn) : (s.setLane k₀ d₀).brace = s.brace := rfl
@[simp] theorem State.setLane_ridge (s : State) (k₀ : Nat) (d₀ : LaneDyn) : (s.setLane k₀ d₀).ridge = s.ridge := rfl
@[simp] theorem State.setLane_plumb (s : State) (k₀ : Nat) (d₀ : LaneDyn) : (s.setLane k₀ d₀).plumb = s.plumb := rfl
@[simp] theorem State.setLane_scribe (s : State) (k₀ : Nat) (d₀ : LaneDyn) : (s.setLane k₀ d₀).scribe = s.scribe := rfl
@[simp] theorem State.setLane_pins (s : State) (k₀ : Nat) (d₀ : LaneDyn) : (s.setLane k₀ d₀).pins = s.pins := rfl
@[simp] theorem State.setLane_restore (s : State) (k₀ : Nat) (d₀ : LaneDyn) : (s.setLane k₀ d₀).restore = s.restore := rfl
@[simp] theorem State.setLane_plankGen (s : State) (k₀ : Nat) (d₀ : LaneDyn) : (s.setLane k₀ d₀).plankGen = s.plankGen := rfl
@[simp] theorem State.setLane_plankTime (s : State) (k₀ : Nat) (d₀ : LaneDyn) : (s.setLane k₀ d₀).plankTime = s.plankTime := rfl
@[simp] theorem State.setLane_planks (s : State) (k₀ : Nat) (d₀ : LaneDyn) : (s.setLane k₀ d₀).planks = s.planks := rfl
@[simp] theorem State.setLane_served (s : State) (k₀ : Nat) (d₀ : LaneDyn) : (s.setLane k₀ d₀).served = s.served := rfl
@[simp] theorem State.setLane_waking (s : State) (k₀ : Nat) (d₀ : LaneDyn) : (s.setLane k₀ d₀).waking = s.waking := rfl
@[simp] theorem State.setLane_warm (s : State) (k₀ : Nat) (d₀ : LaneDyn) : (s.setLane k₀ d₀).warm = s.warm := rfl
@[simp] theorem State.setLane_damaged (s : State) (k₀ : Nat) (d₀ : LaneDyn) : (s.setLane k₀ d₀).damaged = s.damaged := rfl
@[simp] theorem State.setLane_scrubAt (s : State) (k₀ : Nat) (d₀ : LaneDyn) : (s.setLane k₀ d₀).scrubAt = s.scrubAt := rfl
@[simp] theorem State.setLane_ring (s : State) (k₀ : Nat) (d₀ : LaneDyn) : (s.setLane k₀ d₀).ring = s.ring := rfl
@[simp] theorem State.setLane_nextId (s : State) (k₀ : Nat) (d₀ : LaneDyn) : (s.setLane k₀ d₀).nextId = s.nextId := rfl
@[simp] theorem State.setLane_freeCtr (s : State) (k₀ : Nat) (d₀ : LaneDyn) : (s.setLane k₀ d₀).freeCtr = s.freeCtr := rfl
@[simp] theorem State.setLane_sent (s : State) (k₀ : Nat) (d₀ : LaneDyn) : (s.setLane k₀ d₀).sent = s.sent := rfl
@[simp] theorem State.setLane_word (s : State) (k₀ : Nat) (d₀ : LaneDyn) (k : RegKind) (i : Nat) : (s.setLane k₀ d₀).word k i = s.word k i := rfl
@[simp] theorem State.setLane_get (s : State) (k₀ : Nat) (d₀ : LaneDyn) (F : Fld) (i : Nat) : (s.setLane k₀ d₀).get F i = s.get F i := rfl
@[simp] theorem State.setLane_on (s : State) (k₀ : Nat) (d₀ : LaneDyn) (F : Fld) (i : Nat) : (s.setLane k₀ d₀).on F i = s.on F i := rfl
@[simp] theorem State.setLane_region (s : State) (k₀ : Nat) (d₀ : LaneDyn) (r : Nat) : (s.setLane k₀ d₀).region r = s.region r := rfl
@[simp] theorem State.setLane_cfgWord (s : State) (k₀ : Nat) (d₀ : LaneDyn) (f o : Nat) : (s.setLane k₀ d₀).cfgWord f o = s.cfgWord f o := rfl
@[simp] theorem State.setLane_cfgGet (s : State) (k₀ : Nat) (d₀ : LaneDyn) (f o lo len : Nat) : (s.setLane k₀ d₀).cfgGet f o lo len = s.cfgGet f o lo len := rfl
@[simp] theorem State.setLane_cfgBit (s : State) (k₀ : Nat) (d₀ : LaneDyn) (f o i : Nat) : (s.setLane k₀ d₀).cfgBit f o i = s.cfgBit f o i := rfl
@[simp] theorem State.setLane_msixWord (s : State) (k₀ : Nat) (d₀ : LaneDyn) (f e j : Nat) : (s.setLane k₀ d₀).msixWord f e j = s.msixWord f e j := rfl
@[simp] theorem State.setLane_host (s : State) (k₀ : Nat) (d₀ : LaneDyn) (h : Nat) : (s.setLane k₀ d₀).host h = s.host h := rfl
@[simp] theorem State.setLane_func (s : State) (k₀ : Nat) (d₀ : LaneDyn) (f : Nat) : (s.setLane k₀ d₀).func f = s.func f := rfl
@[simp] theorem State.setLane_txn (s : State) (k₀ : Nat) (d₀ : LaneDyn) (c : Nat) : (s.setLane k₀ d₀).txn c = s.txn c := rfl
@[simp] theorem State.setLane_port (s : State) (k₀ : Nat) (d₀ : LaneDyn) (p : Nat) : (s.setLane k₀ d₀).port p = s.port p := rfl
@[simp] theorem State.setLane_queue (s : State) (k₀ : Nat) (d₀ : LaneDyn) (q : Nat) : (s.setLane k₀ d₀).queue q = s.queue q := rfl
@[simp] theorem State.setLane_eng (s : State) (k₀ : Nat) (d₀ : LaneDyn) (e : Nat) : (s.setLane k₀ d₀).eng e = s.eng e := rfl
@[simp] theorem State.setLane_peg (s : State) (k₀ : Nat) (d₀ : LaneDyn) (i : Nat) : (s.setLane k₀ d₀).peg i = s.peg i := rfl
@[simp] theorem State.setLane_ctr (s : State) (k₀ : Nat) (d₀ : LaneDyn) (o : Nat) : (s.setLane k₀ d₀).ctr o = s.ctr o := rfl
@[simp] theorem State.setLane_due (s : State) (k₀ : Nat) (d₀ : LaneDyn) (t : Timer) : (s.setLane k₀ d₀).due t = s.due t := rfl
@[simp] theorem State.setLane_armed (s : State) (k₀ : Nat) (d₀ : LaneDyn) (t : Timer) : (s.setLane k₀ d₀).armed t = s.armed t := rfl
@[simp] theorem State.setLane_isUp (s : State) (k₀ : Nat) (d₀ : LaneDyn) : (s.setLane k₀ d₀).isUp = s.isUp := rfl
@[simp] theorem State.setLane_powered (s : State) (k₀ : Nat) (d₀ : LaneDyn) : (s.setLane k₀ d₀).powered = s.powered := rfl

@[simp] theorem State.modLane_pending (s : State) (k₀ : Nat) (g₀ : LaneDyn → LaneDyn) : (s.modLane k₀ g₀).pending = s.pending := rfl
@[simp] theorem State.modLane_phase (s : State) (k₀ : Nat) (g₀ : LaneDyn → LaneDyn) : (s.modLane k₀ g₀).phase = s.phase := rfl
@[simp] theorem State.modLane_clock (s : State) (k₀ : Nat) (g₀ : LaneDyn → LaneDyn) : (s.modLane k₀ g₀).clock = s.clock := rfl
@[simp] theorem State.modLane_devtime (s : State) (k₀ : Nat) (g₀ : LaneDyn → LaneDyn) : (s.modLane k₀ g₀).devtime = s.devtime := rfl
@[simp] theorem State.modLane_slew (s : State) (k₀ : Nat) (g₀ : LaneDyn → LaneDyn) : (s.modLane k₀ g₀).slew = s.slew := rfl
@[simp] theorem State.modLane_slewFrac (s : State) (k₀ : Nat) (g₀ : LaneDyn → LaneDyn) : (s.modLane k₀ g₀).slewFrac = s.slewFrac := rfl
@[simp] theorem State.modLane_regs (s : State) (k₀ : Nat) (g₀ : LaneDyn → LaneDyn) : (s.modLane k₀ g₀).regs = s.regs := rfl
@[simp] theorem State.modLane_ctrs (s : State) (k₀ : Nat) (g₀ : LaneDyn → LaneDyn) : (s.modLane k₀ g₀).ctrs = s.ctrs := rfl
@[simp] theorem State.modLane_bankA (s : State) (k₀ : Nat) (g₀ : LaneDyn → LaneDyn) : (s.modLane k₀ g₀).bankA = s.bankA := rfl
@[simp] theorem State.modLane_bankB (s : State) (k₀ : Nat) (g₀ : LaneDyn → LaneDyn) : (s.modLane k₀ g₀).bankB = s.bankB := rfl
@[simp] theorem State.modLane_cfg (s : State) (k₀ : Nat) (g₀ : LaneDyn → LaneDyn) : (s.modLane k₀ g₀).cfg = s.cfg := rfl
@[simp] theorem State.modLane_msix (s : State) (k₀ : Nat) (g₀ : LaneDyn → LaneDyn) : (s.modLane k₀ g₀).msix = s.msix := rfl
@[simp] theorem State.modLane_pba (s : State) (k₀ : Nat) (g₀ : LaneDyn → LaneDyn) : (s.modLane k₀ g₀).pba = s.pba := rfl
@[simp] theorem State.modLane_fuses (s : State) (k₀ : Nat) (g₀ : LaneDyn → LaneDyn) : (s.modLane k₀ g₀).fuses = s.fuses := rfl
@[simp] theorem State.modLane_timers (s : State) (k₀ : Nat) (g₀ : LaneDyn → LaneDyn) : (s.modLane k₀ g₀).timers = s.timers := rfl
@[simp] theorem State.modLane_rss (s : State) (k₀ : Nat) (g₀ : LaneDyn → LaneDyn) : (s.modLane k₀ g₀).rss = s.rss := rfl
@[simp] theorem State.modLane_hosts (s : State) (k₀ : Nat) (g₀ : LaneDyn → LaneDyn) : (s.modLane k₀ g₀).hosts = s.hosts := rfl
@[simp] theorem State.modLane_funcs (s : State) (k₀ : Nat) (g₀ : LaneDyn → LaneDyn) : (s.modLane k₀ g₀).funcs = s.funcs := rfl
@[simp] theorem State.modLane_txns (s : State) (k₀ : Nat) (g₀ : LaneDyn → LaneDyn) : (s.modLane k₀ g₀).txns = s.txns := rfl
@[simp] theorem State.modLane_commits (s : State) (k₀ : Nat) (g₀ : LaneDyn → LaneDyn) : (s.modLane k₀ g₀).commits = s.commits := rfl
@[simp] theorem State.modLane_ports (s : State) (k₀ : Nat) (g₀ : LaneDyn → LaneDyn) : (s.modLane k₀ g₀).ports = s.ports := rfl
@[simp] theorem State.modLane_queues (s : State) (k₀ : Nat) (g₀ : LaneDyn → LaneDyn) : (s.modLane k₀ g₀).queues = s.queues := rfl
@[simp] theorem State.modLane_engines (s : State) (k₀ : Nat) (g₀ : LaneDyn → LaneDyn) : (s.modLane k₀ g₀).engines = s.engines := rfl
@[simp] theorem State.modLane_pegs (s : State) (k₀ : Nat) (g₀ : LaneDyn → LaneDyn) : (s.modLane k₀ g₀).pegs = s.pegs := rfl
@[simp] theorem State.modLane_vecs (s : State) (k₀ : Nat) (g₀ : LaneDyn → LaneDyn) : (s.modLane k₀ g₀).vecs = s.vecs := rfl
@[simp] theorem State.modLane_freed (s : State) (k₀ : Nat) (g₀ : LaneDyn → LaneDyn) : (s.modLane k₀ g₀).freed = s.freed := rfl
@[simp] theorem State.modLane_brace (s : State) (k₀ : Nat) (g₀ : LaneDyn → LaneDyn) : (s.modLane k₀ g₀).brace = s.brace := rfl
@[simp] theorem State.modLane_ridge (s : State) (k₀ : Nat) (g₀ : LaneDyn → LaneDyn) : (s.modLane k₀ g₀).ridge = s.ridge := rfl
@[simp] theorem State.modLane_plumb (s : State) (k₀ : Nat) (g₀ : LaneDyn → LaneDyn) : (s.modLane k₀ g₀).plumb = s.plumb := rfl
@[simp] theorem State.modLane_scribe (s : State) (k₀ : Nat) (g₀ : LaneDyn → LaneDyn) : (s.modLane k₀ g₀).scribe = s.scribe := rfl
@[simp] theorem State.modLane_pins (s : State) (k₀ : Nat) (g₀ : LaneDyn → LaneDyn) : (s.modLane k₀ g₀).pins = s.pins := rfl
@[simp] theorem State.modLane_restore (s : State) (k₀ : Nat) (g₀ : LaneDyn → LaneDyn) : (s.modLane k₀ g₀).restore = s.restore := rfl
@[simp] theorem State.modLane_plankGen (s : State) (k₀ : Nat) (g₀ : LaneDyn → LaneDyn) : (s.modLane k₀ g₀).plankGen = s.plankGen := rfl
@[simp] theorem State.modLane_plankTime (s : State) (k₀ : Nat) (g₀ : LaneDyn → LaneDyn) : (s.modLane k₀ g₀).plankTime = s.plankTime := rfl
@[simp] theorem State.modLane_planks (s : State) (k₀ : Nat) (g₀ : LaneDyn → LaneDyn) : (s.modLane k₀ g₀).planks = s.planks := rfl
@[simp] theorem State.modLane_served (s : State) (k₀ : Nat) (g₀ : LaneDyn → LaneDyn) : (s.modLane k₀ g₀).served = s.served := rfl
@[simp] theorem State.modLane_waking (s : State) (k₀ : Nat) (g₀ : LaneDyn → LaneDyn) : (s.modLane k₀ g₀).waking = s.waking := rfl
@[simp] theorem State.modLane_warm (s : State) (k₀ : Nat) (g₀ : LaneDyn → LaneDyn) : (s.modLane k₀ g₀).warm = s.warm := rfl
@[simp] theorem State.modLane_damaged (s : State) (k₀ : Nat) (g₀ : LaneDyn → LaneDyn) : (s.modLane k₀ g₀).damaged = s.damaged := rfl
@[simp] theorem State.modLane_scrubAt (s : State) (k₀ : Nat) (g₀ : LaneDyn → LaneDyn) : (s.modLane k₀ g₀).scrubAt = s.scrubAt := rfl
@[simp] theorem State.modLane_ring (s : State) (k₀ : Nat) (g₀ : LaneDyn → LaneDyn) : (s.modLane k₀ g₀).ring = s.ring := rfl
@[simp] theorem State.modLane_nextId (s : State) (k₀ : Nat) (g₀ : LaneDyn → LaneDyn) : (s.modLane k₀ g₀).nextId = s.nextId := rfl
@[simp] theorem State.modLane_freeCtr (s : State) (k₀ : Nat) (g₀ : LaneDyn → LaneDyn) : (s.modLane k₀ g₀).freeCtr = s.freeCtr := rfl
@[simp] theorem State.modLane_sent (s : State) (k₀ : Nat) (g₀ : LaneDyn → LaneDyn) : (s.modLane k₀ g₀).sent = s.sent := rfl
@[simp] theorem State.modLane_word (s : State) (k₀ : Nat) (g₀ : LaneDyn → LaneDyn) (k : RegKind) (i : Nat) : (s.modLane k₀ g₀).word k i = s.word k i := rfl
@[simp] theorem State.modLane_get (s : State) (k₀ : Nat) (g₀ : LaneDyn → LaneDyn) (F : Fld) (i : Nat) : (s.modLane k₀ g₀).get F i = s.get F i := rfl
@[simp] theorem State.modLane_on (s : State) (k₀ : Nat) (g₀ : LaneDyn → LaneDyn) (F : Fld) (i : Nat) : (s.modLane k₀ g₀).on F i = s.on F i := rfl
@[simp] theorem State.modLane_region (s : State) (k₀ : Nat) (g₀ : LaneDyn → LaneDyn) (r : Nat) : (s.modLane k₀ g₀).region r = s.region r := rfl
@[simp] theorem State.modLane_cfgWord (s : State) (k₀ : Nat) (g₀ : LaneDyn → LaneDyn) (f o : Nat) : (s.modLane k₀ g₀).cfgWord f o = s.cfgWord f o := rfl
@[simp] theorem State.modLane_cfgGet (s : State) (k₀ : Nat) (g₀ : LaneDyn → LaneDyn) (f o lo len : Nat) : (s.modLane k₀ g₀).cfgGet f o lo len = s.cfgGet f o lo len := rfl
@[simp] theorem State.modLane_cfgBit (s : State) (k₀ : Nat) (g₀ : LaneDyn → LaneDyn) (f o i : Nat) : (s.modLane k₀ g₀).cfgBit f o i = s.cfgBit f o i := rfl
@[simp] theorem State.modLane_msixWord (s : State) (k₀ : Nat) (g₀ : LaneDyn → LaneDyn) (f e j : Nat) : (s.modLane k₀ g₀).msixWord f e j = s.msixWord f e j := rfl
@[simp] theorem State.modLane_host (s : State) (k₀ : Nat) (g₀ : LaneDyn → LaneDyn) (h : Nat) : (s.modLane k₀ g₀).host h = s.host h := rfl
@[simp] theorem State.modLane_func (s : State) (k₀ : Nat) (g₀ : LaneDyn → LaneDyn) (f : Nat) : (s.modLane k₀ g₀).func f = s.func f := rfl
@[simp] theorem State.modLane_txn (s : State) (k₀ : Nat) (g₀ : LaneDyn → LaneDyn) (c : Nat) : (s.modLane k₀ g₀).txn c = s.txn c := rfl
@[simp] theorem State.modLane_port (s : State) (k₀ : Nat) (g₀ : LaneDyn → LaneDyn) (p : Nat) : (s.modLane k₀ g₀).port p = s.port p := rfl
@[simp] theorem State.modLane_queue (s : State) (k₀ : Nat) (g₀ : LaneDyn → LaneDyn) (q : Nat) : (s.modLane k₀ g₀).queue q = s.queue q := rfl
@[simp] theorem State.modLane_eng (s : State) (k₀ : Nat) (g₀ : LaneDyn → LaneDyn) (e : Nat) : (s.modLane k₀ g₀).eng e = s.eng e := rfl
@[simp] theorem State.modLane_peg (s : State) (k₀ : Nat) (g₀ : LaneDyn → LaneDyn) (i : Nat) : (s.modLane k₀ g₀).peg i = s.peg i := rfl
@[simp] theorem State.modLane_ctr (s : State) (k₀ : Nat) (g₀ : LaneDyn → LaneDyn) (o : Nat) : (s.modLane k₀ g₀).ctr o = s.ctr o := rfl
@[simp] theorem State.modLane_due (s : State) (k₀ : Nat) (g₀ : LaneDyn → LaneDyn) (t : Timer) : (s.modLane k₀ g₀).due t = s.due t := rfl
@[simp] theorem State.modLane_armed (s : State) (k₀ : Nat) (g₀ : LaneDyn → LaneDyn) (t : Timer) : (s.modLane k₀ g₀).armed t = s.armed t := rfl
@[simp] theorem State.modLane_isUp (s : State) (k₀ : Nat) (g₀ : LaneDyn → LaneDyn) : (s.modLane k₀ g₀).isUp = s.isUp := rfl
@[simp] theorem State.modLane_powered (s : State) (k₀ : Nat) (g₀ : LaneDyn → LaneDyn) : (s.modLane k₀ g₀).powered = s.powered := rfl

@[simp] theorem State.setQueue_pending (s : State) (k₀ : Nat) (d₀ : QDyn) : (s.setQueue k₀ d₀).pending = s.pending := rfl
@[simp] theorem State.setQueue_phase (s : State) (k₀ : Nat) (d₀ : QDyn) : (s.setQueue k₀ d₀).phase = s.phase := rfl
@[simp] theorem State.setQueue_clock (s : State) (k₀ : Nat) (d₀ : QDyn) : (s.setQueue k₀ d₀).clock = s.clock := rfl
@[simp] theorem State.setQueue_devtime (s : State) (k₀ : Nat) (d₀ : QDyn) : (s.setQueue k₀ d₀).devtime = s.devtime := rfl
@[simp] theorem State.setQueue_slew (s : State) (k₀ : Nat) (d₀ : QDyn) : (s.setQueue k₀ d₀).slew = s.slew := rfl
@[simp] theorem State.setQueue_slewFrac (s : State) (k₀ : Nat) (d₀ : QDyn) : (s.setQueue k₀ d₀).slewFrac = s.slewFrac := rfl
@[simp] theorem State.setQueue_regs (s : State) (k₀ : Nat) (d₀ : QDyn) : (s.setQueue k₀ d₀).regs = s.regs := rfl
@[simp] theorem State.setQueue_ctrs (s : State) (k₀ : Nat) (d₀ : QDyn) : (s.setQueue k₀ d₀).ctrs = s.ctrs := rfl
@[simp] theorem State.setQueue_bankA (s : State) (k₀ : Nat) (d₀ : QDyn) : (s.setQueue k₀ d₀).bankA = s.bankA := rfl
@[simp] theorem State.setQueue_bankB (s : State) (k₀ : Nat) (d₀ : QDyn) : (s.setQueue k₀ d₀).bankB = s.bankB := rfl
@[simp] theorem State.setQueue_cfg (s : State) (k₀ : Nat) (d₀ : QDyn) : (s.setQueue k₀ d₀).cfg = s.cfg := rfl
@[simp] theorem State.setQueue_msix (s : State) (k₀ : Nat) (d₀ : QDyn) : (s.setQueue k₀ d₀).msix = s.msix := rfl
@[simp] theorem State.setQueue_pba (s : State) (k₀ : Nat) (d₀ : QDyn) : (s.setQueue k₀ d₀).pba = s.pba := rfl
@[simp] theorem State.setQueue_fuses (s : State) (k₀ : Nat) (d₀ : QDyn) : (s.setQueue k₀ d₀).fuses = s.fuses := rfl
@[simp] theorem State.setQueue_timers (s : State) (k₀ : Nat) (d₀ : QDyn) : (s.setQueue k₀ d₀).timers = s.timers := rfl
@[simp] theorem State.setQueue_rss (s : State) (k₀ : Nat) (d₀ : QDyn) : (s.setQueue k₀ d₀).rss = s.rss := rfl
@[simp] theorem State.setQueue_hosts (s : State) (k₀ : Nat) (d₀ : QDyn) : (s.setQueue k₀ d₀).hosts = s.hosts := rfl
@[simp] theorem State.setQueue_funcs (s : State) (k₀ : Nat) (d₀ : QDyn) : (s.setQueue k₀ d₀).funcs = s.funcs := rfl
@[simp] theorem State.setQueue_txns (s : State) (k₀ : Nat) (d₀ : QDyn) : (s.setQueue k₀ d₀).txns = s.txns := rfl
@[simp] theorem State.setQueue_commits (s : State) (k₀ : Nat) (d₀ : QDyn) : (s.setQueue k₀ d₀).commits = s.commits := rfl
@[simp] theorem State.setQueue_ports (s : State) (k₀ : Nat) (d₀ : QDyn) : (s.setQueue k₀ d₀).ports = s.ports := rfl
@[simp] theorem State.setQueue_lanes (s : State) (k₀ : Nat) (d₀ : QDyn) : (s.setQueue k₀ d₀).lanes = s.lanes := rfl
@[simp] theorem State.setQueue_engines (s : State) (k₀ : Nat) (d₀ : QDyn) : (s.setQueue k₀ d₀).engines = s.engines := rfl
@[simp] theorem State.setQueue_pegs (s : State) (k₀ : Nat) (d₀ : QDyn) : (s.setQueue k₀ d₀).pegs = s.pegs := rfl
@[simp] theorem State.setQueue_vecs (s : State) (k₀ : Nat) (d₀ : QDyn) : (s.setQueue k₀ d₀).vecs = s.vecs := rfl
@[simp] theorem State.setQueue_freed (s : State) (k₀ : Nat) (d₀ : QDyn) : (s.setQueue k₀ d₀).freed = s.freed := rfl
@[simp] theorem State.setQueue_brace (s : State) (k₀ : Nat) (d₀ : QDyn) : (s.setQueue k₀ d₀).brace = s.brace := rfl
@[simp] theorem State.setQueue_ridge (s : State) (k₀ : Nat) (d₀ : QDyn) : (s.setQueue k₀ d₀).ridge = s.ridge := rfl
@[simp] theorem State.setQueue_plumb (s : State) (k₀ : Nat) (d₀ : QDyn) : (s.setQueue k₀ d₀).plumb = s.plumb := rfl
@[simp] theorem State.setQueue_scribe (s : State) (k₀ : Nat) (d₀ : QDyn) : (s.setQueue k₀ d₀).scribe = s.scribe := rfl
@[simp] theorem State.setQueue_pins (s : State) (k₀ : Nat) (d₀ : QDyn) : (s.setQueue k₀ d₀).pins = s.pins := rfl
@[simp] theorem State.setQueue_restore (s : State) (k₀ : Nat) (d₀ : QDyn) : (s.setQueue k₀ d₀).restore = s.restore := rfl
@[simp] theorem State.setQueue_plankGen (s : State) (k₀ : Nat) (d₀ : QDyn) : (s.setQueue k₀ d₀).plankGen = s.plankGen := rfl
@[simp] theorem State.setQueue_plankTime (s : State) (k₀ : Nat) (d₀ : QDyn) : (s.setQueue k₀ d₀).plankTime = s.plankTime := rfl
@[simp] theorem State.setQueue_planks (s : State) (k₀ : Nat) (d₀ : QDyn) : (s.setQueue k₀ d₀).planks = s.planks := rfl
@[simp] theorem State.setQueue_served (s : State) (k₀ : Nat) (d₀ : QDyn) : (s.setQueue k₀ d₀).served = s.served := rfl
@[simp] theorem State.setQueue_waking (s : State) (k₀ : Nat) (d₀ : QDyn) : (s.setQueue k₀ d₀).waking = s.waking := rfl
@[simp] theorem State.setQueue_warm (s : State) (k₀ : Nat) (d₀ : QDyn) : (s.setQueue k₀ d₀).warm = s.warm := rfl
@[simp] theorem State.setQueue_damaged (s : State) (k₀ : Nat) (d₀ : QDyn) : (s.setQueue k₀ d₀).damaged = s.damaged := rfl
@[simp] theorem State.setQueue_scrubAt (s : State) (k₀ : Nat) (d₀ : QDyn) : (s.setQueue k₀ d₀).scrubAt = s.scrubAt := rfl
@[simp] theorem State.setQueue_ring (s : State) (k₀ : Nat) (d₀ : QDyn) : (s.setQueue k₀ d₀).ring = s.ring := rfl
@[simp] theorem State.setQueue_nextId (s : State) (k₀ : Nat) (d₀ : QDyn) : (s.setQueue k₀ d₀).nextId = s.nextId := rfl
@[simp] theorem State.setQueue_freeCtr (s : State) (k₀ : Nat) (d₀ : QDyn) : (s.setQueue k₀ d₀).freeCtr = s.freeCtr := rfl
@[simp] theorem State.setQueue_sent (s : State) (k₀ : Nat) (d₀ : QDyn) : (s.setQueue k₀ d₀).sent = s.sent := rfl
@[simp] theorem State.setQueue_word (s : State) (k₀ : Nat) (d₀ : QDyn) (k : RegKind) (i : Nat) : (s.setQueue k₀ d₀).word k i = s.word k i := rfl
@[simp] theorem State.setQueue_get (s : State) (k₀ : Nat) (d₀ : QDyn) (F : Fld) (i : Nat) : (s.setQueue k₀ d₀).get F i = s.get F i := rfl
@[simp] theorem State.setQueue_on (s : State) (k₀ : Nat) (d₀ : QDyn) (F : Fld) (i : Nat) : (s.setQueue k₀ d₀).on F i = s.on F i := rfl
@[simp] theorem State.setQueue_region (s : State) (k₀ : Nat) (d₀ : QDyn) (r : Nat) : (s.setQueue k₀ d₀).region r = s.region r := rfl
@[simp] theorem State.setQueue_cfgWord (s : State) (k₀ : Nat) (d₀ : QDyn) (f o : Nat) : (s.setQueue k₀ d₀).cfgWord f o = s.cfgWord f o := rfl
@[simp] theorem State.setQueue_cfgGet (s : State) (k₀ : Nat) (d₀ : QDyn) (f o lo len : Nat) : (s.setQueue k₀ d₀).cfgGet f o lo len = s.cfgGet f o lo len := rfl
@[simp] theorem State.setQueue_cfgBit (s : State) (k₀ : Nat) (d₀ : QDyn) (f o i : Nat) : (s.setQueue k₀ d₀).cfgBit f o i = s.cfgBit f o i := rfl
@[simp] theorem State.setQueue_msixWord (s : State) (k₀ : Nat) (d₀ : QDyn) (f e j : Nat) : (s.setQueue k₀ d₀).msixWord f e j = s.msixWord f e j := rfl
@[simp] theorem State.setQueue_host (s : State) (k₀ : Nat) (d₀ : QDyn) (h : Nat) : (s.setQueue k₀ d₀).host h = s.host h := rfl
@[simp] theorem State.setQueue_func (s : State) (k₀ : Nat) (d₀ : QDyn) (f : Nat) : (s.setQueue k₀ d₀).func f = s.func f := rfl
@[simp] theorem State.setQueue_txn (s : State) (k₀ : Nat) (d₀ : QDyn) (c : Nat) : (s.setQueue k₀ d₀).txn c = s.txn c := rfl
@[simp] theorem State.setQueue_port (s : State) (k₀ : Nat) (d₀ : QDyn) (p : Nat) : (s.setQueue k₀ d₀).port p = s.port p := rfl
@[simp] theorem State.setQueue_lane (s : State) (k₀ : Nat) (d₀ : QDyn) (l : Nat) : (s.setQueue k₀ d₀).lane l = s.lane l := rfl
@[simp] theorem State.setQueue_eng (s : State) (k₀ : Nat) (d₀ : QDyn) (e : Nat) : (s.setQueue k₀ d₀).eng e = s.eng e := rfl
@[simp] theorem State.setQueue_peg (s : State) (k₀ : Nat) (d₀ : QDyn) (i : Nat) : (s.setQueue k₀ d₀).peg i = s.peg i := rfl
@[simp] theorem State.setQueue_ctr (s : State) (k₀ : Nat) (d₀ : QDyn) (o : Nat) : (s.setQueue k₀ d₀).ctr o = s.ctr o := rfl
@[simp] theorem State.setQueue_due (s : State) (k₀ : Nat) (d₀ : QDyn) (t : Timer) : (s.setQueue k₀ d₀).due t = s.due t := rfl
@[simp] theorem State.setQueue_armed (s : State) (k₀ : Nat) (d₀ : QDyn) (t : Timer) : (s.setQueue k₀ d₀).armed t = s.armed t := rfl
@[simp] theorem State.setQueue_isUp (s : State) (k₀ : Nat) (d₀ : QDyn) : (s.setQueue k₀ d₀).isUp = s.isUp := rfl
@[simp] theorem State.setQueue_powered (s : State) (k₀ : Nat) (d₀ : QDyn) : (s.setQueue k₀ d₀).powered = s.powered := rfl

@[simp] theorem State.modQueue_pending (s : State) (k₀ : Nat) (g₀ : QDyn → QDyn) : (s.modQueue k₀ g₀).pending = s.pending := rfl
@[simp] theorem State.modQueue_phase (s : State) (k₀ : Nat) (g₀ : QDyn → QDyn) : (s.modQueue k₀ g₀).phase = s.phase := rfl
@[simp] theorem State.modQueue_clock (s : State) (k₀ : Nat) (g₀ : QDyn → QDyn) : (s.modQueue k₀ g₀).clock = s.clock := rfl
@[simp] theorem State.modQueue_devtime (s : State) (k₀ : Nat) (g₀ : QDyn → QDyn) : (s.modQueue k₀ g₀).devtime = s.devtime := rfl
@[simp] theorem State.modQueue_slew (s : State) (k₀ : Nat) (g₀ : QDyn → QDyn) : (s.modQueue k₀ g₀).slew = s.slew := rfl
@[simp] theorem State.modQueue_slewFrac (s : State) (k₀ : Nat) (g₀ : QDyn → QDyn) : (s.modQueue k₀ g₀).slewFrac = s.slewFrac := rfl
@[simp] theorem State.modQueue_regs (s : State) (k₀ : Nat) (g₀ : QDyn → QDyn) : (s.modQueue k₀ g₀).regs = s.regs := rfl
@[simp] theorem State.modQueue_ctrs (s : State) (k₀ : Nat) (g₀ : QDyn → QDyn) : (s.modQueue k₀ g₀).ctrs = s.ctrs := rfl
@[simp] theorem State.modQueue_bankA (s : State) (k₀ : Nat) (g₀ : QDyn → QDyn) : (s.modQueue k₀ g₀).bankA = s.bankA := rfl
@[simp] theorem State.modQueue_bankB (s : State) (k₀ : Nat) (g₀ : QDyn → QDyn) : (s.modQueue k₀ g₀).bankB = s.bankB := rfl
@[simp] theorem State.modQueue_cfg (s : State) (k₀ : Nat) (g₀ : QDyn → QDyn) : (s.modQueue k₀ g₀).cfg = s.cfg := rfl
@[simp] theorem State.modQueue_msix (s : State) (k₀ : Nat) (g₀ : QDyn → QDyn) : (s.modQueue k₀ g₀).msix = s.msix := rfl
@[simp] theorem State.modQueue_pba (s : State) (k₀ : Nat) (g₀ : QDyn → QDyn) : (s.modQueue k₀ g₀).pba = s.pba := rfl
@[simp] theorem State.modQueue_fuses (s : State) (k₀ : Nat) (g₀ : QDyn → QDyn) : (s.modQueue k₀ g₀).fuses = s.fuses := rfl
@[simp] theorem State.modQueue_timers (s : State) (k₀ : Nat) (g₀ : QDyn → QDyn) : (s.modQueue k₀ g₀).timers = s.timers := rfl
@[simp] theorem State.modQueue_rss (s : State) (k₀ : Nat) (g₀ : QDyn → QDyn) : (s.modQueue k₀ g₀).rss = s.rss := rfl
@[simp] theorem State.modQueue_hosts (s : State) (k₀ : Nat) (g₀ : QDyn → QDyn) : (s.modQueue k₀ g₀).hosts = s.hosts := rfl
@[simp] theorem State.modQueue_funcs (s : State) (k₀ : Nat) (g₀ : QDyn → QDyn) : (s.modQueue k₀ g₀).funcs = s.funcs := rfl
@[simp] theorem State.modQueue_txns (s : State) (k₀ : Nat) (g₀ : QDyn → QDyn) : (s.modQueue k₀ g₀).txns = s.txns := rfl
@[simp] theorem State.modQueue_commits (s : State) (k₀ : Nat) (g₀ : QDyn → QDyn) : (s.modQueue k₀ g₀).commits = s.commits := rfl
@[simp] theorem State.modQueue_ports (s : State) (k₀ : Nat) (g₀ : QDyn → QDyn) : (s.modQueue k₀ g₀).ports = s.ports := rfl
@[simp] theorem State.modQueue_lanes (s : State) (k₀ : Nat) (g₀ : QDyn → QDyn) : (s.modQueue k₀ g₀).lanes = s.lanes := rfl
@[simp] theorem State.modQueue_engines (s : State) (k₀ : Nat) (g₀ : QDyn → QDyn) : (s.modQueue k₀ g₀).engines = s.engines := rfl
@[simp] theorem State.modQueue_pegs (s : State) (k₀ : Nat) (g₀ : QDyn → QDyn) : (s.modQueue k₀ g₀).pegs = s.pegs := rfl
@[simp] theorem State.modQueue_vecs (s : State) (k₀ : Nat) (g₀ : QDyn → QDyn) : (s.modQueue k₀ g₀).vecs = s.vecs := rfl
@[simp] theorem State.modQueue_freed (s : State) (k₀ : Nat) (g₀ : QDyn → QDyn) : (s.modQueue k₀ g₀).freed = s.freed := rfl
@[simp] theorem State.modQueue_brace (s : State) (k₀ : Nat) (g₀ : QDyn → QDyn) : (s.modQueue k₀ g₀).brace = s.brace := rfl
@[simp] theorem State.modQueue_ridge (s : State) (k₀ : Nat) (g₀ : QDyn → QDyn) : (s.modQueue k₀ g₀).ridge = s.ridge := rfl
@[simp] theorem State.modQueue_plumb (s : State) (k₀ : Nat) (g₀ : QDyn → QDyn) : (s.modQueue k₀ g₀).plumb = s.plumb := rfl
@[simp] theorem State.modQueue_scribe (s : State) (k₀ : Nat) (g₀ : QDyn → QDyn) : (s.modQueue k₀ g₀).scribe = s.scribe := rfl
@[simp] theorem State.modQueue_pins (s : State) (k₀ : Nat) (g₀ : QDyn → QDyn) : (s.modQueue k₀ g₀).pins = s.pins := rfl
@[simp] theorem State.modQueue_restore (s : State) (k₀ : Nat) (g₀ : QDyn → QDyn) : (s.modQueue k₀ g₀).restore = s.restore := rfl
@[simp] theorem State.modQueue_plankGen (s : State) (k₀ : Nat) (g₀ : QDyn → QDyn) : (s.modQueue k₀ g₀).plankGen = s.plankGen := rfl
@[simp] theorem State.modQueue_plankTime (s : State) (k₀ : Nat) (g₀ : QDyn → QDyn) : (s.modQueue k₀ g₀).plankTime = s.plankTime := rfl
@[simp] theorem State.modQueue_planks (s : State) (k₀ : Nat) (g₀ : QDyn → QDyn) : (s.modQueue k₀ g₀).planks = s.planks := rfl
@[simp] theorem State.modQueue_served (s : State) (k₀ : Nat) (g₀ : QDyn → QDyn) : (s.modQueue k₀ g₀).served = s.served := rfl
@[simp] theorem State.modQueue_waking (s : State) (k₀ : Nat) (g₀ : QDyn → QDyn) : (s.modQueue k₀ g₀).waking = s.waking := rfl
@[simp] theorem State.modQueue_warm (s : State) (k₀ : Nat) (g₀ : QDyn → QDyn) : (s.modQueue k₀ g₀).warm = s.warm := rfl
@[simp] theorem State.modQueue_damaged (s : State) (k₀ : Nat) (g₀ : QDyn → QDyn) : (s.modQueue k₀ g₀).damaged = s.damaged := rfl
@[simp] theorem State.modQueue_scrubAt (s : State) (k₀ : Nat) (g₀ : QDyn → QDyn) : (s.modQueue k₀ g₀).scrubAt = s.scrubAt := rfl
@[simp] theorem State.modQueue_ring (s : State) (k₀ : Nat) (g₀ : QDyn → QDyn) : (s.modQueue k₀ g₀).ring = s.ring := rfl
@[simp] theorem State.modQueue_nextId (s : State) (k₀ : Nat) (g₀ : QDyn → QDyn) : (s.modQueue k₀ g₀).nextId = s.nextId := rfl
@[simp] theorem State.modQueue_freeCtr (s : State) (k₀ : Nat) (g₀ : QDyn → QDyn) : (s.modQueue k₀ g₀).freeCtr = s.freeCtr := rfl
@[simp] theorem State.modQueue_sent (s : State) (k₀ : Nat) (g₀ : QDyn → QDyn) : (s.modQueue k₀ g₀).sent = s.sent := rfl
@[simp] theorem State.modQueue_word (s : State) (k₀ : Nat) (g₀ : QDyn → QDyn) (k : RegKind) (i : Nat) : (s.modQueue k₀ g₀).word k i = s.word k i := rfl
@[simp] theorem State.modQueue_get (s : State) (k₀ : Nat) (g₀ : QDyn → QDyn) (F : Fld) (i : Nat) : (s.modQueue k₀ g₀).get F i = s.get F i := rfl
@[simp] theorem State.modQueue_on (s : State) (k₀ : Nat) (g₀ : QDyn → QDyn) (F : Fld) (i : Nat) : (s.modQueue k₀ g₀).on F i = s.on F i := rfl
@[simp] theorem State.modQueue_region (s : State) (k₀ : Nat) (g₀ : QDyn → QDyn) (r : Nat) : (s.modQueue k₀ g₀).region r = s.region r := rfl
@[simp] theorem State.modQueue_cfgWord (s : State) (k₀ : Nat) (g₀ : QDyn → QDyn) (f o : Nat) : (s.modQueue k₀ g₀).cfgWord f o = s.cfgWord f o := rfl
@[simp] theorem State.modQueue_cfgGet (s : State) (k₀ : Nat) (g₀ : QDyn → QDyn) (f o lo len : Nat) : (s.modQueue k₀ g₀).cfgGet f o lo len = s.cfgGet f o lo len := rfl
@[simp] theorem State.modQueue_cfgBit (s : State) (k₀ : Nat) (g₀ : QDyn → QDyn) (f o i : Nat) : (s.modQueue k₀ g₀).cfgBit f o i = s.cfgBit f o i := rfl
@[simp] theorem State.modQueue_msixWord (s : State) (k₀ : Nat) (g₀ : QDyn → QDyn) (f e j : Nat) : (s.modQueue k₀ g₀).msixWord f e j = s.msixWord f e j := rfl
@[simp] theorem State.modQueue_host (s : State) (k₀ : Nat) (g₀ : QDyn → QDyn) (h : Nat) : (s.modQueue k₀ g₀).host h = s.host h := rfl
@[simp] theorem State.modQueue_func (s : State) (k₀ : Nat) (g₀ : QDyn → QDyn) (f : Nat) : (s.modQueue k₀ g₀).func f = s.func f := rfl
@[simp] theorem State.modQueue_txn (s : State) (k₀ : Nat) (g₀ : QDyn → QDyn) (c : Nat) : (s.modQueue k₀ g₀).txn c = s.txn c := rfl
@[simp] theorem State.modQueue_port (s : State) (k₀ : Nat) (g₀ : QDyn → QDyn) (p : Nat) : (s.modQueue k₀ g₀).port p = s.port p := rfl
@[simp] theorem State.modQueue_lane (s : State) (k₀ : Nat) (g₀ : QDyn → QDyn) (l : Nat) : (s.modQueue k₀ g₀).lane l = s.lane l := rfl
@[simp] theorem State.modQueue_eng (s : State) (k₀ : Nat) (g₀ : QDyn → QDyn) (e : Nat) : (s.modQueue k₀ g₀).eng e = s.eng e := rfl
@[simp] theorem State.modQueue_peg (s : State) (k₀ : Nat) (g₀ : QDyn → QDyn) (i : Nat) : (s.modQueue k₀ g₀).peg i = s.peg i := rfl
@[simp] theorem State.modQueue_ctr (s : State) (k₀ : Nat) (g₀ : QDyn → QDyn) (o : Nat) : (s.modQueue k₀ g₀).ctr o = s.ctr o := rfl
@[simp] theorem State.modQueue_due (s : State) (k₀ : Nat) (g₀ : QDyn → QDyn) (t : Timer) : (s.modQueue k₀ g₀).due t = s.due t := rfl
@[simp] theorem State.modQueue_armed (s : State) (k₀ : Nat) (g₀ : QDyn → QDyn) (t : Timer) : (s.modQueue k₀ g₀).armed t = s.armed t := rfl
@[simp] theorem State.modQueue_isUp (s : State) (k₀ : Nat) (g₀ : QDyn → QDyn) : (s.modQueue k₀ g₀).isUp = s.isUp := rfl
@[simp] theorem State.modQueue_powered (s : State) (k₀ : Nat) (g₀ : QDyn → QDyn) : (s.modQueue k₀ g₀).powered = s.powered := rfl

@[simp] theorem State.setEng_pending (s : State) (k₀ : Nat) (d₀ : EngDyn) : (s.setEng k₀ d₀).pending = s.pending := rfl
@[simp] theorem State.setEng_phase (s : State) (k₀ : Nat) (d₀ : EngDyn) : (s.setEng k₀ d₀).phase = s.phase := rfl
@[simp] theorem State.setEng_clock (s : State) (k₀ : Nat) (d₀ : EngDyn) : (s.setEng k₀ d₀).clock = s.clock := rfl
@[simp] theorem State.setEng_devtime (s : State) (k₀ : Nat) (d₀ : EngDyn) : (s.setEng k₀ d₀).devtime = s.devtime := rfl
@[simp] theorem State.setEng_slew (s : State) (k₀ : Nat) (d₀ : EngDyn) : (s.setEng k₀ d₀).slew = s.slew := rfl
@[simp] theorem State.setEng_slewFrac (s : State) (k₀ : Nat) (d₀ : EngDyn) : (s.setEng k₀ d₀).slewFrac = s.slewFrac := rfl
@[simp] theorem State.setEng_regs (s : State) (k₀ : Nat) (d₀ : EngDyn) : (s.setEng k₀ d₀).regs = s.regs := rfl
@[simp] theorem State.setEng_ctrs (s : State) (k₀ : Nat) (d₀ : EngDyn) : (s.setEng k₀ d₀).ctrs = s.ctrs := rfl
@[simp] theorem State.setEng_bankA (s : State) (k₀ : Nat) (d₀ : EngDyn) : (s.setEng k₀ d₀).bankA = s.bankA := rfl
@[simp] theorem State.setEng_bankB (s : State) (k₀ : Nat) (d₀ : EngDyn) : (s.setEng k₀ d₀).bankB = s.bankB := rfl
@[simp] theorem State.setEng_cfg (s : State) (k₀ : Nat) (d₀ : EngDyn) : (s.setEng k₀ d₀).cfg = s.cfg := rfl
@[simp] theorem State.setEng_msix (s : State) (k₀ : Nat) (d₀ : EngDyn) : (s.setEng k₀ d₀).msix = s.msix := rfl
@[simp] theorem State.setEng_pba (s : State) (k₀ : Nat) (d₀ : EngDyn) : (s.setEng k₀ d₀).pba = s.pba := rfl
@[simp] theorem State.setEng_fuses (s : State) (k₀ : Nat) (d₀ : EngDyn) : (s.setEng k₀ d₀).fuses = s.fuses := rfl
@[simp] theorem State.setEng_timers (s : State) (k₀ : Nat) (d₀ : EngDyn) : (s.setEng k₀ d₀).timers = s.timers := rfl
@[simp] theorem State.setEng_rss (s : State) (k₀ : Nat) (d₀ : EngDyn) : (s.setEng k₀ d₀).rss = s.rss := rfl
@[simp] theorem State.setEng_hosts (s : State) (k₀ : Nat) (d₀ : EngDyn) : (s.setEng k₀ d₀).hosts = s.hosts := rfl
@[simp] theorem State.setEng_funcs (s : State) (k₀ : Nat) (d₀ : EngDyn) : (s.setEng k₀ d₀).funcs = s.funcs := rfl
@[simp] theorem State.setEng_txns (s : State) (k₀ : Nat) (d₀ : EngDyn) : (s.setEng k₀ d₀).txns = s.txns := rfl
@[simp] theorem State.setEng_commits (s : State) (k₀ : Nat) (d₀ : EngDyn) : (s.setEng k₀ d₀).commits = s.commits := rfl
@[simp] theorem State.setEng_ports (s : State) (k₀ : Nat) (d₀ : EngDyn) : (s.setEng k₀ d₀).ports = s.ports := rfl
@[simp] theorem State.setEng_lanes (s : State) (k₀ : Nat) (d₀ : EngDyn) : (s.setEng k₀ d₀).lanes = s.lanes := rfl
@[simp] theorem State.setEng_queues (s : State) (k₀ : Nat) (d₀ : EngDyn) : (s.setEng k₀ d₀).queues = s.queues := rfl
@[simp] theorem State.setEng_pegs (s : State) (k₀ : Nat) (d₀ : EngDyn) : (s.setEng k₀ d₀).pegs = s.pegs := rfl
@[simp] theorem State.setEng_vecs (s : State) (k₀ : Nat) (d₀ : EngDyn) : (s.setEng k₀ d₀).vecs = s.vecs := rfl
@[simp] theorem State.setEng_freed (s : State) (k₀ : Nat) (d₀ : EngDyn) : (s.setEng k₀ d₀).freed = s.freed := rfl
@[simp] theorem State.setEng_brace (s : State) (k₀ : Nat) (d₀ : EngDyn) : (s.setEng k₀ d₀).brace = s.brace := rfl
@[simp] theorem State.setEng_ridge (s : State) (k₀ : Nat) (d₀ : EngDyn) : (s.setEng k₀ d₀).ridge = s.ridge := rfl
@[simp] theorem State.setEng_plumb (s : State) (k₀ : Nat) (d₀ : EngDyn) : (s.setEng k₀ d₀).plumb = s.plumb := rfl
@[simp] theorem State.setEng_scribe (s : State) (k₀ : Nat) (d₀ : EngDyn) : (s.setEng k₀ d₀).scribe = s.scribe := rfl
@[simp] theorem State.setEng_pins (s : State) (k₀ : Nat) (d₀ : EngDyn) : (s.setEng k₀ d₀).pins = s.pins := rfl
@[simp] theorem State.setEng_restore (s : State) (k₀ : Nat) (d₀ : EngDyn) : (s.setEng k₀ d₀).restore = s.restore := rfl
@[simp] theorem State.setEng_plankGen (s : State) (k₀ : Nat) (d₀ : EngDyn) : (s.setEng k₀ d₀).plankGen = s.plankGen := rfl
@[simp] theorem State.setEng_plankTime (s : State) (k₀ : Nat) (d₀ : EngDyn) : (s.setEng k₀ d₀).plankTime = s.plankTime := rfl
@[simp] theorem State.setEng_planks (s : State) (k₀ : Nat) (d₀ : EngDyn) : (s.setEng k₀ d₀).planks = s.planks := rfl
@[simp] theorem State.setEng_served (s : State) (k₀ : Nat) (d₀ : EngDyn) : (s.setEng k₀ d₀).served = s.served := rfl
@[simp] theorem State.setEng_waking (s : State) (k₀ : Nat) (d₀ : EngDyn) : (s.setEng k₀ d₀).waking = s.waking := rfl
@[simp] theorem State.setEng_warm (s : State) (k₀ : Nat) (d₀ : EngDyn) : (s.setEng k₀ d₀).warm = s.warm := rfl
@[simp] theorem State.setEng_damaged (s : State) (k₀ : Nat) (d₀ : EngDyn) : (s.setEng k₀ d₀).damaged = s.damaged := rfl
@[simp] theorem State.setEng_scrubAt (s : State) (k₀ : Nat) (d₀ : EngDyn) : (s.setEng k₀ d₀).scrubAt = s.scrubAt := rfl
@[simp] theorem State.setEng_ring (s : State) (k₀ : Nat) (d₀ : EngDyn) : (s.setEng k₀ d₀).ring = s.ring := rfl
@[simp] theorem State.setEng_nextId (s : State) (k₀ : Nat) (d₀ : EngDyn) : (s.setEng k₀ d₀).nextId = s.nextId := rfl
@[simp] theorem State.setEng_freeCtr (s : State) (k₀ : Nat) (d₀ : EngDyn) : (s.setEng k₀ d₀).freeCtr = s.freeCtr := rfl
@[simp] theorem State.setEng_sent (s : State) (k₀ : Nat) (d₀ : EngDyn) : (s.setEng k₀ d₀).sent = s.sent := rfl
@[simp] theorem State.setEng_word (s : State) (k₀ : Nat) (d₀ : EngDyn) (k : RegKind) (i : Nat) : (s.setEng k₀ d₀).word k i = s.word k i := rfl
@[simp] theorem State.setEng_get (s : State) (k₀ : Nat) (d₀ : EngDyn) (F : Fld) (i : Nat) : (s.setEng k₀ d₀).get F i = s.get F i := rfl
@[simp] theorem State.setEng_on (s : State) (k₀ : Nat) (d₀ : EngDyn) (F : Fld) (i : Nat) : (s.setEng k₀ d₀).on F i = s.on F i := rfl
@[simp] theorem State.setEng_region (s : State) (k₀ : Nat) (d₀ : EngDyn) (r : Nat) : (s.setEng k₀ d₀).region r = s.region r := rfl
@[simp] theorem State.setEng_cfgWord (s : State) (k₀ : Nat) (d₀ : EngDyn) (f o : Nat) : (s.setEng k₀ d₀).cfgWord f o = s.cfgWord f o := rfl
@[simp] theorem State.setEng_cfgGet (s : State) (k₀ : Nat) (d₀ : EngDyn) (f o lo len : Nat) : (s.setEng k₀ d₀).cfgGet f o lo len = s.cfgGet f o lo len := rfl
@[simp] theorem State.setEng_cfgBit (s : State) (k₀ : Nat) (d₀ : EngDyn) (f o i : Nat) : (s.setEng k₀ d₀).cfgBit f o i = s.cfgBit f o i := rfl
@[simp] theorem State.setEng_msixWord (s : State) (k₀ : Nat) (d₀ : EngDyn) (f e j : Nat) : (s.setEng k₀ d₀).msixWord f e j = s.msixWord f e j := rfl
@[simp] theorem State.setEng_host (s : State) (k₀ : Nat) (d₀ : EngDyn) (h : Nat) : (s.setEng k₀ d₀).host h = s.host h := rfl
@[simp] theorem State.setEng_func (s : State) (k₀ : Nat) (d₀ : EngDyn) (f : Nat) : (s.setEng k₀ d₀).func f = s.func f := rfl
@[simp] theorem State.setEng_txn (s : State) (k₀ : Nat) (d₀ : EngDyn) (c : Nat) : (s.setEng k₀ d₀).txn c = s.txn c := rfl
@[simp] theorem State.setEng_port (s : State) (k₀ : Nat) (d₀ : EngDyn) (p : Nat) : (s.setEng k₀ d₀).port p = s.port p := rfl
@[simp] theorem State.setEng_lane (s : State) (k₀ : Nat) (d₀ : EngDyn) (l : Nat) : (s.setEng k₀ d₀).lane l = s.lane l := rfl
@[simp] theorem State.setEng_queue (s : State) (k₀ : Nat) (d₀ : EngDyn) (q : Nat) : (s.setEng k₀ d₀).queue q = s.queue q := rfl
@[simp] theorem State.setEng_peg (s : State) (k₀ : Nat) (d₀ : EngDyn) (i : Nat) : (s.setEng k₀ d₀).peg i = s.peg i := rfl
@[simp] theorem State.setEng_ctr (s : State) (k₀ : Nat) (d₀ : EngDyn) (o : Nat) : (s.setEng k₀ d₀).ctr o = s.ctr o := rfl
@[simp] theorem State.setEng_due (s : State) (k₀ : Nat) (d₀ : EngDyn) (t : Timer) : (s.setEng k₀ d₀).due t = s.due t := rfl
@[simp] theorem State.setEng_armed (s : State) (k₀ : Nat) (d₀ : EngDyn) (t : Timer) : (s.setEng k₀ d₀).armed t = s.armed t := rfl
@[simp] theorem State.setEng_isUp (s : State) (k₀ : Nat) (d₀ : EngDyn) : (s.setEng k₀ d₀).isUp = s.isUp := rfl
@[simp] theorem State.setEng_powered (s : State) (k₀ : Nat) (d₀ : EngDyn) : (s.setEng k₀ d₀).powered = s.powered := rfl

@[simp] theorem State.modEng_pending (s : State) (k₀ : Nat) (g₀ : EngDyn → EngDyn) : (s.modEng k₀ g₀).pending = s.pending := rfl
@[simp] theorem State.modEng_phase (s : State) (k₀ : Nat) (g₀ : EngDyn → EngDyn) : (s.modEng k₀ g₀).phase = s.phase := rfl
@[simp] theorem State.modEng_clock (s : State) (k₀ : Nat) (g₀ : EngDyn → EngDyn) : (s.modEng k₀ g₀).clock = s.clock := rfl
@[simp] theorem State.modEng_devtime (s : State) (k₀ : Nat) (g₀ : EngDyn → EngDyn) : (s.modEng k₀ g₀).devtime = s.devtime := rfl
@[simp] theorem State.modEng_slew (s : State) (k₀ : Nat) (g₀ : EngDyn → EngDyn) : (s.modEng k₀ g₀).slew = s.slew := rfl
@[simp] theorem State.modEng_slewFrac (s : State) (k₀ : Nat) (g₀ : EngDyn → EngDyn) : (s.modEng k₀ g₀).slewFrac = s.slewFrac := rfl
@[simp] theorem State.modEng_regs (s : State) (k₀ : Nat) (g₀ : EngDyn → EngDyn) : (s.modEng k₀ g₀).regs = s.regs := rfl
@[simp] theorem State.modEng_ctrs (s : State) (k₀ : Nat) (g₀ : EngDyn → EngDyn) : (s.modEng k₀ g₀).ctrs = s.ctrs := rfl
@[simp] theorem State.modEng_bankA (s : State) (k₀ : Nat) (g₀ : EngDyn → EngDyn) : (s.modEng k₀ g₀).bankA = s.bankA := rfl
@[simp] theorem State.modEng_bankB (s : State) (k₀ : Nat) (g₀ : EngDyn → EngDyn) : (s.modEng k₀ g₀).bankB = s.bankB := rfl
@[simp] theorem State.modEng_cfg (s : State) (k₀ : Nat) (g₀ : EngDyn → EngDyn) : (s.modEng k₀ g₀).cfg = s.cfg := rfl
@[simp] theorem State.modEng_msix (s : State) (k₀ : Nat) (g₀ : EngDyn → EngDyn) : (s.modEng k₀ g₀).msix = s.msix := rfl
@[simp] theorem State.modEng_pba (s : State) (k₀ : Nat) (g₀ : EngDyn → EngDyn) : (s.modEng k₀ g₀).pba = s.pba := rfl
@[simp] theorem State.modEng_fuses (s : State) (k₀ : Nat) (g₀ : EngDyn → EngDyn) : (s.modEng k₀ g₀).fuses = s.fuses := rfl
@[simp] theorem State.modEng_timers (s : State) (k₀ : Nat) (g₀ : EngDyn → EngDyn) : (s.modEng k₀ g₀).timers = s.timers := rfl
@[simp] theorem State.modEng_rss (s : State) (k₀ : Nat) (g₀ : EngDyn → EngDyn) : (s.modEng k₀ g₀).rss = s.rss := rfl
@[simp] theorem State.modEng_hosts (s : State) (k₀ : Nat) (g₀ : EngDyn → EngDyn) : (s.modEng k₀ g₀).hosts = s.hosts := rfl
@[simp] theorem State.modEng_funcs (s : State) (k₀ : Nat) (g₀ : EngDyn → EngDyn) : (s.modEng k₀ g₀).funcs = s.funcs := rfl
@[simp] theorem State.modEng_txns (s : State) (k₀ : Nat) (g₀ : EngDyn → EngDyn) : (s.modEng k₀ g₀).txns = s.txns := rfl
@[simp] theorem State.modEng_commits (s : State) (k₀ : Nat) (g₀ : EngDyn → EngDyn) : (s.modEng k₀ g₀).commits = s.commits := rfl
@[simp] theorem State.modEng_ports (s : State) (k₀ : Nat) (g₀ : EngDyn → EngDyn) : (s.modEng k₀ g₀).ports = s.ports := rfl
@[simp] theorem State.modEng_lanes (s : State) (k₀ : Nat) (g₀ : EngDyn → EngDyn) : (s.modEng k₀ g₀).lanes = s.lanes := rfl
@[simp] theorem State.modEng_queues (s : State) (k₀ : Nat) (g₀ : EngDyn → EngDyn) : (s.modEng k₀ g₀).queues = s.queues := rfl
@[simp] theorem State.modEng_pegs (s : State) (k₀ : Nat) (g₀ : EngDyn → EngDyn) : (s.modEng k₀ g₀).pegs = s.pegs := rfl
@[simp] theorem State.modEng_vecs (s : State) (k₀ : Nat) (g₀ : EngDyn → EngDyn) : (s.modEng k₀ g₀).vecs = s.vecs := rfl
@[simp] theorem State.modEng_freed (s : State) (k₀ : Nat) (g₀ : EngDyn → EngDyn) : (s.modEng k₀ g₀).freed = s.freed := rfl
@[simp] theorem State.modEng_brace (s : State) (k₀ : Nat) (g₀ : EngDyn → EngDyn) : (s.modEng k₀ g₀).brace = s.brace := rfl
@[simp] theorem State.modEng_ridge (s : State) (k₀ : Nat) (g₀ : EngDyn → EngDyn) : (s.modEng k₀ g₀).ridge = s.ridge := rfl
@[simp] theorem State.modEng_plumb (s : State) (k₀ : Nat) (g₀ : EngDyn → EngDyn) : (s.modEng k₀ g₀).plumb = s.plumb := rfl
@[simp] theorem State.modEng_scribe (s : State) (k₀ : Nat) (g₀ : EngDyn → EngDyn) : (s.modEng k₀ g₀).scribe = s.scribe := rfl
@[simp] theorem State.modEng_pins (s : State) (k₀ : Nat) (g₀ : EngDyn → EngDyn) : (s.modEng k₀ g₀).pins = s.pins := rfl
@[simp] theorem State.modEng_restore (s : State) (k₀ : Nat) (g₀ : EngDyn → EngDyn) : (s.modEng k₀ g₀).restore = s.restore := rfl
@[simp] theorem State.modEng_plankGen (s : State) (k₀ : Nat) (g₀ : EngDyn → EngDyn) : (s.modEng k₀ g₀).plankGen = s.plankGen := rfl
@[simp] theorem State.modEng_plankTime (s : State) (k₀ : Nat) (g₀ : EngDyn → EngDyn) : (s.modEng k₀ g₀).plankTime = s.plankTime := rfl
@[simp] theorem State.modEng_planks (s : State) (k₀ : Nat) (g₀ : EngDyn → EngDyn) : (s.modEng k₀ g₀).planks = s.planks := rfl
@[simp] theorem State.modEng_served (s : State) (k₀ : Nat) (g₀ : EngDyn → EngDyn) : (s.modEng k₀ g₀).served = s.served := rfl
@[simp] theorem State.modEng_waking (s : State) (k₀ : Nat) (g₀ : EngDyn → EngDyn) : (s.modEng k₀ g₀).waking = s.waking := rfl
@[simp] theorem State.modEng_warm (s : State) (k₀ : Nat) (g₀ : EngDyn → EngDyn) : (s.modEng k₀ g₀).warm = s.warm := rfl
@[simp] theorem State.modEng_damaged (s : State) (k₀ : Nat) (g₀ : EngDyn → EngDyn) : (s.modEng k₀ g₀).damaged = s.damaged := rfl
@[simp] theorem State.modEng_scrubAt (s : State) (k₀ : Nat) (g₀ : EngDyn → EngDyn) : (s.modEng k₀ g₀).scrubAt = s.scrubAt := rfl
@[simp] theorem State.modEng_ring (s : State) (k₀ : Nat) (g₀ : EngDyn → EngDyn) : (s.modEng k₀ g₀).ring = s.ring := rfl
@[simp] theorem State.modEng_nextId (s : State) (k₀ : Nat) (g₀ : EngDyn → EngDyn) : (s.modEng k₀ g₀).nextId = s.nextId := rfl
@[simp] theorem State.modEng_freeCtr (s : State) (k₀ : Nat) (g₀ : EngDyn → EngDyn) : (s.modEng k₀ g₀).freeCtr = s.freeCtr := rfl
@[simp] theorem State.modEng_sent (s : State) (k₀ : Nat) (g₀ : EngDyn → EngDyn) : (s.modEng k₀ g₀).sent = s.sent := rfl
@[simp] theorem State.modEng_word (s : State) (k₀ : Nat) (g₀ : EngDyn → EngDyn) (k : RegKind) (i : Nat) : (s.modEng k₀ g₀).word k i = s.word k i := rfl
@[simp] theorem State.modEng_get (s : State) (k₀ : Nat) (g₀ : EngDyn → EngDyn) (F : Fld) (i : Nat) : (s.modEng k₀ g₀).get F i = s.get F i := rfl
@[simp] theorem State.modEng_on (s : State) (k₀ : Nat) (g₀ : EngDyn → EngDyn) (F : Fld) (i : Nat) : (s.modEng k₀ g₀).on F i = s.on F i := rfl
@[simp] theorem State.modEng_region (s : State) (k₀ : Nat) (g₀ : EngDyn → EngDyn) (r : Nat) : (s.modEng k₀ g₀).region r = s.region r := rfl
@[simp] theorem State.modEng_cfgWord (s : State) (k₀ : Nat) (g₀ : EngDyn → EngDyn) (f o : Nat) : (s.modEng k₀ g₀).cfgWord f o = s.cfgWord f o := rfl
@[simp] theorem State.modEng_cfgGet (s : State) (k₀ : Nat) (g₀ : EngDyn → EngDyn) (f o lo len : Nat) : (s.modEng k₀ g₀).cfgGet f o lo len = s.cfgGet f o lo len := rfl
@[simp] theorem State.modEng_cfgBit (s : State) (k₀ : Nat) (g₀ : EngDyn → EngDyn) (f o i : Nat) : (s.modEng k₀ g₀).cfgBit f o i = s.cfgBit f o i := rfl
@[simp] theorem State.modEng_msixWord (s : State) (k₀ : Nat) (g₀ : EngDyn → EngDyn) (f e j : Nat) : (s.modEng k₀ g₀).msixWord f e j = s.msixWord f e j := rfl
@[simp] theorem State.modEng_host (s : State) (k₀ : Nat) (g₀ : EngDyn → EngDyn) (h : Nat) : (s.modEng k₀ g₀).host h = s.host h := rfl
@[simp] theorem State.modEng_func (s : State) (k₀ : Nat) (g₀ : EngDyn → EngDyn) (f : Nat) : (s.modEng k₀ g₀).func f = s.func f := rfl
@[simp] theorem State.modEng_txn (s : State) (k₀ : Nat) (g₀ : EngDyn → EngDyn) (c : Nat) : (s.modEng k₀ g₀).txn c = s.txn c := rfl
@[simp] theorem State.modEng_port (s : State) (k₀ : Nat) (g₀ : EngDyn → EngDyn) (p : Nat) : (s.modEng k₀ g₀).port p = s.port p := rfl
@[simp] theorem State.modEng_lane (s : State) (k₀ : Nat) (g₀ : EngDyn → EngDyn) (l : Nat) : (s.modEng k₀ g₀).lane l = s.lane l := rfl
@[simp] theorem State.modEng_queue (s : State) (k₀ : Nat) (g₀ : EngDyn → EngDyn) (q : Nat) : (s.modEng k₀ g₀).queue q = s.queue q := rfl
@[simp] theorem State.modEng_peg (s : State) (k₀ : Nat) (g₀ : EngDyn → EngDyn) (i : Nat) : (s.modEng k₀ g₀).peg i = s.peg i := rfl
@[simp] theorem State.modEng_ctr (s : State) (k₀ : Nat) (g₀ : EngDyn → EngDyn) (o : Nat) : (s.modEng k₀ g₀).ctr o = s.ctr o := rfl
@[simp] theorem State.modEng_due (s : State) (k₀ : Nat) (g₀ : EngDyn → EngDyn) (t : Timer) : (s.modEng k₀ g₀).due t = s.due t := rfl
@[simp] theorem State.modEng_armed (s : State) (k₀ : Nat) (g₀ : EngDyn → EngDyn) (t : Timer) : (s.modEng k₀ g₀).armed t = s.armed t := rfl
@[simp] theorem State.modEng_isUp (s : State) (k₀ : Nat) (g₀ : EngDyn → EngDyn) : (s.modEng k₀ g₀).isUp = s.isUp := rfl
@[simp] theorem State.modEng_powered (s : State) (k₀ : Nat) (g₀ : EngDyn → EngDyn) : (s.modEng k₀ g₀).powered = s.powered := rfl

@[simp] theorem State.setPeg_pending (s : State) (k₀ : Nat) (d₀ : PegDyn) : (s.setPeg k₀ d₀).pending = s.pending := rfl
@[simp] theorem State.setPeg_phase (s : State) (k₀ : Nat) (d₀ : PegDyn) : (s.setPeg k₀ d₀).phase = s.phase := rfl
@[simp] theorem State.setPeg_clock (s : State) (k₀ : Nat) (d₀ : PegDyn) : (s.setPeg k₀ d₀).clock = s.clock := rfl
@[simp] theorem State.setPeg_devtime (s : State) (k₀ : Nat) (d₀ : PegDyn) : (s.setPeg k₀ d₀).devtime = s.devtime := rfl
@[simp] theorem State.setPeg_slew (s : State) (k₀ : Nat) (d₀ : PegDyn) : (s.setPeg k₀ d₀).slew = s.slew := rfl
@[simp] theorem State.setPeg_slewFrac (s : State) (k₀ : Nat) (d₀ : PegDyn) : (s.setPeg k₀ d₀).slewFrac = s.slewFrac := rfl
@[simp] theorem State.setPeg_regs (s : State) (k₀ : Nat) (d₀ : PegDyn) : (s.setPeg k₀ d₀).regs = s.regs := rfl
@[simp] theorem State.setPeg_ctrs (s : State) (k₀ : Nat) (d₀ : PegDyn) : (s.setPeg k₀ d₀).ctrs = s.ctrs := rfl
@[simp] theorem State.setPeg_bankA (s : State) (k₀ : Nat) (d₀ : PegDyn) : (s.setPeg k₀ d₀).bankA = s.bankA := rfl
@[simp] theorem State.setPeg_bankB (s : State) (k₀ : Nat) (d₀ : PegDyn) : (s.setPeg k₀ d₀).bankB = s.bankB := rfl
@[simp] theorem State.setPeg_cfg (s : State) (k₀ : Nat) (d₀ : PegDyn) : (s.setPeg k₀ d₀).cfg = s.cfg := rfl
@[simp] theorem State.setPeg_msix (s : State) (k₀ : Nat) (d₀ : PegDyn) : (s.setPeg k₀ d₀).msix = s.msix := rfl
@[simp] theorem State.setPeg_pba (s : State) (k₀ : Nat) (d₀ : PegDyn) : (s.setPeg k₀ d₀).pba = s.pba := rfl
@[simp] theorem State.setPeg_fuses (s : State) (k₀ : Nat) (d₀ : PegDyn) : (s.setPeg k₀ d₀).fuses = s.fuses := rfl
@[simp] theorem State.setPeg_timers (s : State) (k₀ : Nat) (d₀ : PegDyn) : (s.setPeg k₀ d₀).timers = s.timers := rfl
@[simp] theorem State.setPeg_rss (s : State) (k₀ : Nat) (d₀ : PegDyn) : (s.setPeg k₀ d₀).rss = s.rss := rfl
@[simp] theorem State.setPeg_hosts (s : State) (k₀ : Nat) (d₀ : PegDyn) : (s.setPeg k₀ d₀).hosts = s.hosts := rfl
@[simp] theorem State.setPeg_funcs (s : State) (k₀ : Nat) (d₀ : PegDyn) : (s.setPeg k₀ d₀).funcs = s.funcs := rfl
@[simp] theorem State.setPeg_txns (s : State) (k₀ : Nat) (d₀ : PegDyn) : (s.setPeg k₀ d₀).txns = s.txns := rfl
@[simp] theorem State.setPeg_commits (s : State) (k₀ : Nat) (d₀ : PegDyn) : (s.setPeg k₀ d₀).commits = s.commits := rfl
@[simp] theorem State.setPeg_ports (s : State) (k₀ : Nat) (d₀ : PegDyn) : (s.setPeg k₀ d₀).ports = s.ports := rfl
@[simp] theorem State.setPeg_lanes (s : State) (k₀ : Nat) (d₀ : PegDyn) : (s.setPeg k₀ d₀).lanes = s.lanes := rfl
@[simp] theorem State.setPeg_queues (s : State) (k₀ : Nat) (d₀ : PegDyn) : (s.setPeg k₀ d₀).queues = s.queues := rfl
@[simp] theorem State.setPeg_engines (s : State) (k₀ : Nat) (d₀ : PegDyn) : (s.setPeg k₀ d₀).engines = s.engines := rfl
@[simp] theorem State.setPeg_vecs (s : State) (k₀ : Nat) (d₀ : PegDyn) : (s.setPeg k₀ d₀).vecs = s.vecs := rfl
@[simp] theorem State.setPeg_freed (s : State) (k₀ : Nat) (d₀ : PegDyn) : (s.setPeg k₀ d₀).freed = s.freed := rfl
@[simp] theorem State.setPeg_brace (s : State) (k₀ : Nat) (d₀ : PegDyn) : (s.setPeg k₀ d₀).brace = s.brace := rfl
@[simp] theorem State.setPeg_ridge (s : State) (k₀ : Nat) (d₀ : PegDyn) : (s.setPeg k₀ d₀).ridge = s.ridge := rfl
@[simp] theorem State.setPeg_plumb (s : State) (k₀ : Nat) (d₀ : PegDyn) : (s.setPeg k₀ d₀).plumb = s.plumb := rfl
@[simp] theorem State.setPeg_scribe (s : State) (k₀ : Nat) (d₀ : PegDyn) : (s.setPeg k₀ d₀).scribe = s.scribe := rfl
@[simp] theorem State.setPeg_pins (s : State) (k₀ : Nat) (d₀ : PegDyn) : (s.setPeg k₀ d₀).pins = s.pins := rfl
@[simp] theorem State.setPeg_restore (s : State) (k₀ : Nat) (d₀ : PegDyn) : (s.setPeg k₀ d₀).restore = s.restore := rfl
@[simp] theorem State.setPeg_plankGen (s : State) (k₀ : Nat) (d₀ : PegDyn) : (s.setPeg k₀ d₀).plankGen = s.plankGen := rfl
@[simp] theorem State.setPeg_plankTime (s : State) (k₀ : Nat) (d₀ : PegDyn) : (s.setPeg k₀ d₀).plankTime = s.plankTime := rfl
@[simp] theorem State.setPeg_planks (s : State) (k₀ : Nat) (d₀ : PegDyn) : (s.setPeg k₀ d₀).planks = s.planks := rfl
@[simp] theorem State.setPeg_served (s : State) (k₀ : Nat) (d₀ : PegDyn) : (s.setPeg k₀ d₀).served = s.served := rfl
@[simp] theorem State.setPeg_waking (s : State) (k₀ : Nat) (d₀ : PegDyn) : (s.setPeg k₀ d₀).waking = s.waking := rfl
@[simp] theorem State.setPeg_warm (s : State) (k₀ : Nat) (d₀ : PegDyn) : (s.setPeg k₀ d₀).warm = s.warm := rfl
@[simp] theorem State.setPeg_damaged (s : State) (k₀ : Nat) (d₀ : PegDyn) : (s.setPeg k₀ d₀).damaged = s.damaged := rfl
@[simp] theorem State.setPeg_scrubAt (s : State) (k₀ : Nat) (d₀ : PegDyn) : (s.setPeg k₀ d₀).scrubAt = s.scrubAt := rfl
@[simp] theorem State.setPeg_ring (s : State) (k₀ : Nat) (d₀ : PegDyn) : (s.setPeg k₀ d₀).ring = s.ring := rfl
@[simp] theorem State.setPeg_nextId (s : State) (k₀ : Nat) (d₀ : PegDyn) : (s.setPeg k₀ d₀).nextId = s.nextId := rfl
@[simp] theorem State.setPeg_freeCtr (s : State) (k₀ : Nat) (d₀ : PegDyn) : (s.setPeg k₀ d₀).freeCtr = s.freeCtr := rfl
@[simp] theorem State.setPeg_sent (s : State) (k₀ : Nat) (d₀ : PegDyn) : (s.setPeg k₀ d₀).sent = s.sent := rfl
@[simp] theorem State.setPeg_word (s : State) (k₀ : Nat) (d₀ : PegDyn) (k : RegKind) (i : Nat) : (s.setPeg k₀ d₀).word k i = s.word k i := rfl
@[simp] theorem State.setPeg_get (s : State) (k₀ : Nat) (d₀ : PegDyn) (F : Fld) (i : Nat) : (s.setPeg k₀ d₀).get F i = s.get F i := rfl
@[simp] theorem State.setPeg_on (s : State) (k₀ : Nat) (d₀ : PegDyn) (F : Fld) (i : Nat) : (s.setPeg k₀ d₀).on F i = s.on F i := rfl
@[simp] theorem State.setPeg_region (s : State) (k₀ : Nat) (d₀ : PegDyn) (r : Nat) : (s.setPeg k₀ d₀).region r = s.region r := rfl
@[simp] theorem State.setPeg_cfgWord (s : State) (k₀ : Nat) (d₀ : PegDyn) (f o : Nat) : (s.setPeg k₀ d₀).cfgWord f o = s.cfgWord f o := rfl
@[simp] theorem State.setPeg_cfgGet (s : State) (k₀ : Nat) (d₀ : PegDyn) (f o lo len : Nat) : (s.setPeg k₀ d₀).cfgGet f o lo len = s.cfgGet f o lo len := rfl
@[simp] theorem State.setPeg_cfgBit (s : State) (k₀ : Nat) (d₀ : PegDyn) (f o i : Nat) : (s.setPeg k₀ d₀).cfgBit f o i = s.cfgBit f o i := rfl
@[simp] theorem State.setPeg_msixWord (s : State) (k₀ : Nat) (d₀ : PegDyn) (f e j : Nat) : (s.setPeg k₀ d₀).msixWord f e j = s.msixWord f e j := rfl
@[simp] theorem State.setPeg_host (s : State) (k₀ : Nat) (d₀ : PegDyn) (h : Nat) : (s.setPeg k₀ d₀).host h = s.host h := rfl
@[simp] theorem State.setPeg_func (s : State) (k₀ : Nat) (d₀ : PegDyn) (f : Nat) : (s.setPeg k₀ d₀).func f = s.func f := rfl
@[simp] theorem State.setPeg_txn (s : State) (k₀ : Nat) (d₀ : PegDyn) (c : Nat) : (s.setPeg k₀ d₀).txn c = s.txn c := rfl
@[simp] theorem State.setPeg_port (s : State) (k₀ : Nat) (d₀ : PegDyn) (p : Nat) : (s.setPeg k₀ d₀).port p = s.port p := rfl
@[simp] theorem State.setPeg_lane (s : State) (k₀ : Nat) (d₀ : PegDyn) (l : Nat) : (s.setPeg k₀ d₀).lane l = s.lane l := rfl
@[simp] theorem State.setPeg_queue (s : State) (k₀ : Nat) (d₀ : PegDyn) (q : Nat) : (s.setPeg k₀ d₀).queue q = s.queue q := rfl
@[simp] theorem State.setPeg_eng (s : State) (k₀ : Nat) (d₀ : PegDyn) (e : Nat) : (s.setPeg k₀ d₀).eng e = s.eng e := rfl
@[simp] theorem State.setPeg_ctr (s : State) (k₀ : Nat) (d₀ : PegDyn) (o : Nat) : (s.setPeg k₀ d₀).ctr o = s.ctr o := rfl
@[simp] theorem State.setPeg_due (s : State) (k₀ : Nat) (d₀ : PegDyn) (t : Timer) : (s.setPeg k₀ d₀).due t = s.due t := rfl
@[simp] theorem State.setPeg_armed (s : State) (k₀ : Nat) (d₀ : PegDyn) (t : Timer) : (s.setPeg k₀ d₀).armed t = s.armed t := rfl
@[simp] theorem State.setPeg_isUp (s : State) (k₀ : Nat) (d₀ : PegDyn) : (s.setPeg k₀ d₀).isUp = s.isUp := rfl
@[simp] theorem State.setPeg_powered (s : State) (k₀ : Nat) (d₀ : PegDyn) : (s.setPeg k₀ d₀).powered = s.powered := rfl

@[simp] theorem State.modPeg_pending (s : State) (k₀ : Nat) (g₀ : PegDyn → PegDyn) : (s.modPeg k₀ g₀).pending = s.pending := rfl
@[simp] theorem State.modPeg_phase (s : State) (k₀ : Nat) (g₀ : PegDyn → PegDyn) : (s.modPeg k₀ g₀).phase = s.phase := rfl
@[simp] theorem State.modPeg_clock (s : State) (k₀ : Nat) (g₀ : PegDyn → PegDyn) : (s.modPeg k₀ g₀).clock = s.clock := rfl
@[simp] theorem State.modPeg_devtime (s : State) (k₀ : Nat) (g₀ : PegDyn → PegDyn) : (s.modPeg k₀ g₀).devtime = s.devtime := rfl
@[simp] theorem State.modPeg_slew (s : State) (k₀ : Nat) (g₀ : PegDyn → PegDyn) : (s.modPeg k₀ g₀).slew = s.slew := rfl
@[simp] theorem State.modPeg_slewFrac (s : State) (k₀ : Nat) (g₀ : PegDyn → PegDyn) : (s.modPeg k₀ g₀).slewFrac = s.slewFrac := rfl
@[simp] theorem State.modPeg_regs (s : State) (k₀ : Nat) (g₀ : PegDyn → PegDyn) : (s.modPeg k₀ g₀).regs = s.regs := rfl
@[simp] theorem State.modPeg_ctrs (s : State) (k₀ : Nat) (g₀ : PegDyn → PegDyn) : (s.modPeg k₀ g₀).ctrs = s.ctrs := rfl
@[simp] theorem State.modPeg_bankA (s : State) (k₀ : Nat) (g₀ : PegDyn → PegDyn) : (s.modPeg k₀ g₀).bankA = s.bankA := rfl
@[simp] theorem State.modPeg_bankB (s : State) (k₀ : Nat) (g₀ : PegDyn → PegDyn) : (s.modPeg k₀ g₀).bankB = s.bankB := rfl
@[simp] theorem State.modPeg_cfg (s : State) (k₀ : Nat) (g₀ : PegDyn → PegDyn) : (s.modPeg k₀ g₀).cfg = s.cfg := rfl
@[simp] theorem State.modPeg_msix (s : State) (k₀ : Nat) (g₀ : PegDyn → PegDyn) : (s.modPeg k₀ g₀).msix = s.msix := rfl
@[simp] theorem State.modPeg_pba (s : State) (k₀ : Nat) (g₀ : PegDyn → PegDyn) : (s.modPeg k₀ g₀).pba = s.pba := rfl
@[simp] theorem State.modPeg_fuses (s : State) (k₀ : Nat) (g₀ : PegDyn → PegDyn) : (s.modPeg k₀ g₀).fuses = s.fuses := rfl
@[simp] theorem State.modPeg_timers (s : State) (k₀ : Nat) (g₀ : PegDyn → PegDyn) : (s.modPeg k₀ g₀).timers = s.timers := rfl
@[simp] theorem State.modPeg_rss (s : State) (k₀ : Nat) (g₀ : PegDyn → PegDyn) : (s.modPeg k₀ g₀).rss = s.rss := rfl
@[simp] theorem State.modPeg_hosts (s : State) (k₀ : Nat) (g₀ : PegDyn → PegDyn) : (s.modPeg k₀ g₀).hosts = s.hosts := rfl
@[simp] theorem State.modPeg_funcs (s : State) (k₀ : Nat) (g₀ : PegDyn → PegDyn) : (s.modPeg k₀ g₀).funcs = s.funcs := rfl
@[simp] theorem State.modPeg_txns (s : State) (k₀ : Nat) (g₀ : PegDyn → PegDyn) : (s.modPeg k₀ g₀).txns = s.txns := rfl
@[simp] theorem State.modPeg_commits (s : State) (k₀ : Nat) (g₀ : PegDyn → PegDyn) : (s.modPeg k₀ g₀).commits = s.commits := rfl
@[simp] theorem State.modPeg_ports (s : State) (k₀ : Nat) (g₀ : PegDyn → PegDyn) : (s.modPeg k₀ g₀).ports = s.ports := rfl
@[simp] theorem State.modPeg_lanes (s : State) (k₀ : Nat) (g₀ : PegDyn → PegDyn) : (s.modPeg k₀ g₀).lanes = s.lanes := rfl
@[simp] theorem State.modPeg_queues (s : State) (k₀ : Nat) (g₀ : PegDyn → PegDyn) : (s.modPeg k₀ g₀).queues = s.queues := rfl
@[simp] theorem State.modPeg_engines (s : State) (k₀ : Nat) (g₀ : PegDyn → PegDyn) : (s.modPeg k₀ g₀).engines = s.engines := rfl
@[simp] theorem State.modPeg_vecs (s : State) (k₀ : Nat) (g₀ : PegDyn → PegDyn) : (s.modPeg k₀ g₀).vecs = s.vecs := rfl
@[simp] theorem State.modPeg_freed (s : State) (k₀ : Nat) (g₀ : PegDyn → PegDyn) : (s.modPeg k₀ g₀).freed = s.freed := rfl
@[simp] theorem State.modPeg_brace (s : State) (k₀ : Nat) (g₀ : PegDyn → PegDyn) : (s.modPeg k₀ g₀).brace = s.brace := rfl
@[simp] theorem State.modPeg_ridge (s : State) (k₀ : Nat) (g₀ : PegDyn → PegDyn) : (s.modPeg k₀ g₀).ridge = s.ridge := rfl
@[simp] theorem State.modPeg_plumb (s : State) (k₀ : Nat) (g₀ : PegDyn → PegDyn) : (s.modPeg k₀ g₀).plumb = s.plumb := rfl
@[simp] theorem State.modPeg_scribe (s : State) (k₀ : Nat) (g₀ : PegDyn → PegDyn) : (s.modPeg k₀ g₀).scribe = s.scribe := rfl
@[simp] theorem State.modPeg_pins (s : State) (k₀ : Nat) (g₀ : PegDyn → PegDyn) : (s.modPeg k₀ g₀).pins = s.pins := rfl
@[simp] theorem State.modPeg_restore (s : State) (k₀ : Nat) (g₀ : PegDyn → PegDyn) : (s.modPeg k₀ g₀).restore = s.restore := rfl
@[simp] theorem State.modPeg_plankGen (s : State) (k₀ : Nat) (g₀ : PegDyn → PegDyn) : (s.modPeg k₀ g₀).plankGen = s.plankGen := rfl
@[simp] theorem State.modPeg_plankTime (s : State) (k₀ : Nat) (g₀ : PegDyn → PegDyn) : (s.modPeg k₀ g₀).plankTime = s.plankTime := rfl
@[simp] theorem State.modPeg_planks (s : State) (k₀ : Nat) (g₀ : PegDyn → PegDyn) : (s.modPeg k₀ g₀).planks = s.planks := rfl
@[simp] theorem State.modPeg_served (s : State) (k₀ : Nat) (g₀ : PegDyn → PegDyn) : (s.modPeg k₀ g₀).served = s.served := rfl
@[simp] theorem State.modPeg_waking (s : State) (k₀ : Nat) (g₀ : PegDyn → PegDyn) : (s.modPeg k₀ g₀).waking = s.waking := rfl
@[simp] theorem State.modPeg_warm (s : State) (k₀ : Nat) (g₀ : PegDyn → PegDyn) : (s.modPeg k₀ g₀).warm = s.warm := rfl
@[simp] theorem State.modPeg_damaged (s : State) (k₀ : Nat) (g₀ : PegDyn → PegDyn) : (s.modPeg k₀ g₀).damaged = s.damaged := rfl
@[simp] theorem State.modPeg_scrubAt (s : State) (k₀ : Nat) (g₀ : PegDyn → PegDyn) : (s.modPeg k₀ g₀).scrubAt = s.scrubAt := rfl
@[simp] theorem State.modPeg_ring (s : State) (k₀ : Nat) (g₀ : PegDyn → PegDyn) : (s.modPeg k₀ g₀).ring = s.ring := rfl
@[simp] theorem State.modPeg_nextId (s : State) (k₀ : Nat) (g₀ : PegDyn → PegDyn) : (s.modPeg k₀ g₀).nextId = s.nextId := rfl
@[simp] theorem State.modPeg_freeCtr (s : State) (k₀ : Nat) (g₀ : PegDyn → PegDyn) : (s.modPeg k₀ g₀).freeCtr = s.freeCtr := rfl
@[simp] theorem State.modPeg_sent (s : State) (k₀ : Nat) (g₀ : PegDyn → PegDyn) : (s.modPeg k₀ g₀).sent = s.sent := rfl
@[simp] theorem State.modPeg_word (s : State) (k₀ : Nat) (g₀ : PegDyn → PegDyn) (k : RegKind) (i : Nat) : (s.modPeg k₀ g₀).word k i = s.word k i := rfl
@[simp] theorem State.modPeg_get (s : State) (k₀ : Nat) (g₀ : PegDyn → PegDyn) (F : Fld) (i : Nat) : (s.modPeg k₀ g₀).get F i = s.get F i := rfl
@[simp] theorem State.modPeg_on (s : State) (k₀ : Nat) (g₀ : PegDyn → PegDyn) (F : Fld) (i : Nat) : (s.modPeg k₀ g₀).on F i = s.on F i := rfl
@[simp] theorem State.modPeg_region (s : State) (k₀ : Nat) (g₀ : PegDyn → PegDyn) (r : Nat) : (s.modPeg k₀ g₀).region r = s.region r := rfl
@[simp] theorem State.modPeg_cfgWord (s : State) (k₀ : Nat) (g₀ : PegDyn → PegDyn) (f o : Nat) : (s.modPeg k₀ g₀).cfgWord f o = s.cfgWord f o := rfl
@[simp] theorem State.modPeg_cfgGet (s : State) (k₀ : Nat) (g₀ : PegDyn → PegDyn) (f o lo len : Nat) : (s.modPeg k₀ g₀).cfgGet f o lo len = s.cfgGet f o lo len := rfl
@[simp] theorem State.modPeg_cfgBit (s : State) (k₀ : Nat) (g₀ : PegDyn → PegDyn) (f o i : Nat) : (s.modPeg k₀ g₀).cfgBit f o i = s.cfgBit f o i := rfl
@[simp] theorem State.modPeg_msixWord (s : State) (k₀ : Nat) (g₀ : PegDyn → PegDyn) (f e j : Nat) : (s.modPeg k₀ g₀).msixWord f e j = s.msixWord f e j := rfl
@[simp] theorem State.modPeg_host (s : State) (k₀ : Nat) (g₀ : PegDyn → PegDyn) (h : Nat) : (s.modPeg k₀ g₀).host h = s.host h := rfl
@[simp] theorem State.modPeg_func (s : State) (k₀ : Nat) (g₀ : PegDyn → PegDyn) (f : Nat) : (s.modPeg k₀ g₀).func f = s.func f := rfl
@[simp] theorem State.modPeg_txn (s : State) (k₀ : Nat) (g₀ : PegDyn → PegDyn) (c : Nat) : (s.modPeg k₀ g₀).txn c = s.txn c := rfl
@[simp] theorem State.modPeg_port (s : State) (k₀ : Nat) (g₀ : PegDyn → PegDyn) (p : Nat) : (s.modPeg k₀ g₀).port p = s.port p := rfl
@[simp] theorem State.modPeg_lane (s : State) (k₀ : Nat) (g₀ : PegDyn → PegDyn) (l : Nat) : (s.modPeg k₀ g₀).lane l = s.lane l := rfl
@[simp] theorem State.modPeg_queue (s : State) (k₀ : Nat) (g₀ : PegDyn → PegDyn) (q : Nat) : (s.modPeg k₀ g₀).queue q = s.queue q := rfl
@[simp] theorem State.modPeg_eng (s : State) (k₀ : Nat) (g₀ : PegDyn → PegDyn) (e : Nat) : (s.modPeg k₀ g₀).eng e = s.eng e := rfl
@[simp] theorem State.modPeg_ctr (s : State) (k₀ : Nat) (g₀ : PegDyn → PegDyn) (o : Nat) : (s.modPeg k₀ g₀).ctr o = s.ctr o := rfl
@[simp] theorem State.modPeg_due (s : State) (k₀ : Nat) (g₀ : PegDyn → PegDyn) (t : Timer) : (s.modPeg k₀ g₀).due t = s.due t := rfl
@[simp] theorem State.modPeg_armed (s : State) (k₀ : Nat) (g₀ : PegDyn → PegDyn) (t : Timer) : (s.modPeg k₀ g₀).armed t = s.armed t := rfl
@[simp] theorem State.modPeg_isUp (s : State) (k₀ : Nat) (g₀ : PegDyn → PegDyn) : (s.modPeg k₀ g₀).isUp = s.isUp := rfl
@[simp] theorem State.modPeg_powered (s : State) (k₀ : Nat) (g₀ : PegDyn → PegDyn) : (s.modPeg k₀ g₀).powered = s.powered := rfl

@[simp] theorem State.modRss_pending (s : State) (g₀ : RssDyn → RssDyn) : (s.modRss g₀).pending = s.pending := rfl
@[simp] theorem State.modRss_phase (s : State) (g₀ : RssDyn → RssDyn) : (s.modRss g₀).phase = s.phase := rfl
@[simp] theorem State.modRss_clock (s : State) (g₀ : RssDyn → RssDyn) : (s.modRss g₀).clock = s.clock := rfl
@[simp] theorem State.modRss_devtime (s : State) (g₀ : RssDyn → RssDyn) : (s.modRss g₀).devtime = s.devtime := rfl
@[simp] theorem State.modRss_slew (s : State) (g₀ : RssDyn → RssDyn) : (s.modRss g₀).slew = s.slew := rfl
@[simp] theorem State.modRss_slewFrac (s : State) (g₀ : RssDyn → RssDyn) : (s.modRss g₀).slewFrac = s.slewFrac := rfl
@[simp] theorem State.modRss_regs (s : State) (g₀ : RssDyn → RssDyn) : (s.modRss g₀).regs = s.regs := rfl
@[simp] theorem State.modRss_ctrs (s : State) (g₀ : RssDyn → RssDyn) : (s.modRss g₀).ctrs = s.ctrs := rfl
@[simp] theorem State.modRss_bankA (s : State) (g₀ : RssDyn → RssDyn) : (s.modRss g₀).bankA = s.bankA := rfl
@[simp] theorem State.modRss_bankB (s : State) (g₀ : RssDyn → RssDyn) : (s.modRss g₀).bankB = s.bankB := rfl
@[simp] theorem State.modRss_cfg (s : State) (g₀ : RssDyn → RssDyn) : (s.modRss g₀).cfg = s.cfg := rfl
@[simp] theorem State.modRss_msix (s : State) (g₀ : RssDyn → RssDyn) : (s.modRss g₀).msix = s.msix := rfl
@[simp] theorem State.modRss_pba (s : State) (g₀ : RssDyn → RssDyn) : (s.modRss g₀).pba = s.pba := rfl
@[simp] theorem State.modRss_fuses (s : State) (g₀ : RssDyn → RssDyn) : (s.modRss g₀).fuses = s.fuses := rfl
@[simp] theorem State.modRss_timers (s : State) (g₀ : RssDyn → RssDyn) : (s.modRss g₀).timers = s.timers := rfl
@[simp] theorem State.modRss_hosts (s : State) (g₀ : RssDyn → RssDyn) : (s.modRss g₀).hosts = s.hosts := rfl
@[simp] theorem State.modRss_funcs (s : State) (g₀ : RssDyn → RssDyn) : (s.modRss g₀).funcs = s.funcs := rfl
@[simp] theorem State.modRss_txns (s : State) (g₀ : RssDyn → RssDyn) : (s.modRss g₀).txns = s.txns := rfl
@[simp] theorem State.modRss_commits (s : State) (g₀ : RssDyn → RssDyn) : (s.modRss g₀).commits = s.commits := rfl
@[simp] theorem State.modRss_ports (s : State) (g₀ : RssDyn → RssDyn) : (s.modRss g₀).ports = s.ports := rfl
@[simp] theorem State.modRss_lanes (s : State) (g₀ : RssDyn → RssDyn) : (s.modRss g₀).lanes = s.lanes := rfl
@[simp] theorem State.modRss_queues (s : State) (g₀ : RssDyn → RssDyn) : (s.modRss g₀).queues = s.queues := rfl
@[simp] theorem State.modRss_engines (s : State) (g₀ : RssDyn → RssDyn) : (s.modRss g₀).engines = s.engines := rfl
@[simp] theorem State.modRss_pegs (s : State) (g₀ : RssDyn → RssDyn) : (s.modRss g₀).pegs = s.pegs := rfl
@[simp] theorem State.modRss_vecs (s : State) (g₀ : RssDyn → RssDyn) : (s.modRss g₀).vecs = s.vecs := rfl
@[simp] theorem State.modRss_freed (s : State) (g₀ : RssDyn → RssDyn) : (s.modRss g₀).freed = s.freed := rfl
@[simp] theorem State.modRss_brace (s : State) (g₀ : RssDyn → RssDyn) : (s.modRss g₀).brace = s.brace := rfl
@[simp] theorem State.modRss_ridge (s : State) (g₀ : RssDyn → RssDyn) : (s.modRss g₀).ridge = s.ridge := rfl
@[simp] theorem State.modRss_plumb (s : State) (g₀ : RssDyn → RssDyn) : (s.modRss g₀).plumb = s.plumb := rfl
@[simp] theorem State.modRss_scribe (s : State) (g₀ : RssDyn → RssDyn) : (s.modRss g₀).scribe = s.scribe := rfl
@[simp] theorem State.modRss_pins (s : State) (g₀ : RssDyn → RssDyn) : (s.modRss g₀).pins = s.pins := rfl
@[simp] theorem State.modRss_restore (s : State) (g₀ : RssDyn → RssDyn) : (s.modRss g₀).restore = s.restore := rfl
@[simp] theorem State.modRss_plankGen (s : State) (g₀ : RssDyn → RssDyn) : (s.modRss g₀).plankGen = s.plankGen := rfl
@[simp] theorem State.modRss_plankTime (s : State) (g₀ : RssDyn → RssDyn) : (s.modRss g₀).plankTime = s.plankTime := rfl
@[simp] theorem State.modRss_planks (s : State) (g₀ : RssDyn → RssDyn) : (s.modRss g₀).planks = s.planks := rfl
@[simp] theorem State.modRss_served (s : State) (g₀ : RssDyn → RssDyn) : (s.modRss g₀).served = s.served := rfl
@[simp] theorem State.modRss_waking (s : State) (g₀ : RssDyn → RssDyn) : (s.modRss g₀).waking = s.waking := rfl
@[simp] theorem State.modRss_warm (s : State) (g₀ : RssDyn → RssDyn) : (s.modRss g₀).warm = s.warm := rfl
@[simp] theorem State.modRss_damaged (s : State) (g₀ : RssDyn → RssDyn) : (s.modRss g₀).damaged = s.damaged := rfl
@[simp] theorem State.modRss_scrubAt (s : State) (g₀ : RssDyn → RssDyn) : (s.modRss g₀).scrubAt = s.scrubAt := rfl
@[simp] theorem State.modRss_ring (s : State) (g₀ : RssDyn → RssDyn) : (s.modRss g₀).ring = s.ring := rfl
@[simp] theorem State.modRss_nextId (s : State) (g₀ : RssDyn → RssDyn) : (s.modRss g₀).nextId = s.nextId := rfl
@[simp] theorem State.modRss_freeCtr (s : State) (g₀ : RssDyn → RssDyn) : (s.modRss g₀).freeCtr = s.freeCtr := rfl
@[simp] theorem State.modRss_sent (s : State) (g₀ : RssDyn → RssDyn) : (s.modRss g₀).sent = s.sent := rfl
@[simp] theorem State.modRss_word (s : State) (g₀ : RssDyn → RssDyn) (k : RegKind) (i : Nat) : (s.modRss g₀).word k i = s.word k i := rfl
@[simp] theorem State.modRss_get (s : State) (g₀ : RssDyn → RssDyn) (F : Fld) (i : Nat) : (s.modRss g₀).get F i = s.get F i := rfl
@[simp] theorem State.modRss_on (s : State) (g₀ : RssDyn → RssDyn) (F : Fld) (i : Nat) : (s.modRss g₀).on F i = s.on F i := rfl
@[simp] theorem State.modRss_region (s : State) (g₀ : RssDyn → RssDyn) (r : Nat) : (s.modRss g₀).region r = s.region r := rfl
@[simp] theorem State.modRss_cfgWord (s : State) (g₀ : RssDyn → RssDyn) (f o : Nat) : (s.modRss g₀).cfgWord f o = s.cfgWord f o := rfl
@[simp] theorem State.modRss_cfgGet (s : State) (g₀ : RssDyn → RssDyn) (f o lo len : Nat) : (s.modRss g₀).cfgGet f o lo len = s.cfgGet f o lo len := rfl
@[simp] theorem State.modRss_cfgBit (s : State) (g₀ : RssDyn → RssDyn) (f o i : Nat) : (s.modRss g₀).cfgBit f o i = s.cfgBit f o i := rfl
@[simp] theorem State.modRss_msixWord (s : State) (g₀ : RssDyn → RssDyn) (f e j : Nat) : (s.modRss g₀).msixWord f e j = s.msixWord f e j := rfl
@[simp] theorem State.modRss_host (s : State) (g₀ : RssDyn → RssDyn) (h : Nat) : (s.modRss g₀).host h = s.host h := rfl
@[simp] theorem State.modRss_func (s : State) (g₀ : RssDyn → RssDyn) (f : Nat) : (s.modRss g₀).func f = s.func f := rfl
@[simp] theorem State.modRss_txn (s : State) (g₀ : RssDyn → RssDyn) (c : Nat) : (s.modRss g₀).txn c = s.txn c := rfl
@[simp] theorem State.modRss_port (s : State) (g₀ : RssDyn → RssDyn) (p : Nat) : (s.modRss g₀).port p = s.port p := rfl
@[simp] theorem State.modRss_lane (s : State) (g₀ : RssDyn → RssDyn) (l : Nat) : (s.modRss g₀).lane l = s.lane l := rfl
@[simp] theorem State.modRss_queue (s : State) (g₀ : RssDyn → RssDyn) (q : Nat) : (s.modRss g₀).queue q = s.queue q := rfl
@[simp] theorem State.modRss_eng (s : State) (g₀ : RssDyn → RssDyn) (e : Nat) : (s.modRss g₀).eng e = s.eng e := rfl
@[simp] theorem State.modRss_peg (s : State) (g₀ : RssDyn → RssDyn) (i : Nat) : (s.modRss g₀).peg i = s.peg i := rfl
@[simp] theorem State.modRss_ctr (s : State) (g₀ : RssDyn → RssDyn) (o : Nat) : (s.modRss g₀).ctr o = s.ctr o := rfl
@[simp] theorem State.modRss_due (s : State) (g₀ : RssDyn → RssDyn) (t : Timer) : (s.modRss g₀).due t = s.due t := rfl
@[simp] theorem State.modRss_armed (s : State) (g₀ : RssDyn → RssDyn) (t : Timer) : (s.modRss g₀).armed t = s.armed t := rfl
@[simp] theorem State.modRss_isUp (s : State) (g₀ : RssDyn → RssDyn) : (s.modRss g₀).isUp = s.isUp := rfl
@[simp] theorem State.modRss_powered (s : State) (g₀ : RssDyn → RssDyn) : (s.modRss g₀).powered = s.powered := rfl

@[simp] theorem State.modBrace_pending (s : State) (g₀ : BraceDyn → BraceDyn) : (s.modBrace g₀).pending = s.pending := rfl
@[simp] theorem State.modBrace_phase (s : State) (g₀ : BraceDyn → BraceDyn) : (s.modBrace g₀).phase = s.phase := rfl
@[simp] theorem State.modBrace_clock (s : State) (g₀ : BraceDyn → BraceDyn) : (s.modBrace g₀).clock = s.clock := rfl
@[simp] theorem State.modBrace_devtime (s : State) (g₀ : BraceDyn → BraceDyn) : (s.modBrace g₀).devtime = s.devtime := rfl
@[simp] theorem State.modBrace_slew (s : State) (g₀ : BraceDyn → BraceDyn) : (s.modBrace g₀).slew = s.slew := rfl
@[simp] theorem State.modBrace_slewFrac (s : State) (g₀ : BraceDyn → BraceDyn) : (s.modBrace g₀).slewFrac = s.slewFrac := rfl
@[simp] theorem State.modBrace_regs (s : State) (g₀ : BraceDyn → BraceDyn) : (s.modBrace g₀).regs = s.regs := rfl
@[simp] theorem State.modBrace_ctrs (s : State) (g₀ : BraceDyn → BraceDyn) : (s.modBrace g₀).ctrs = s.ctrs := rfl
@[simp] theorem State.modBrace_bankA (s : State) (g₀ : BraceDyn → BraceDyn) : (s.modBrace g₀).bankA = s.bankA := rfl
@[simp] theorem State.modBrace_bankB (s : State) (g₀ : BraceDyn → BraceDyn) : (s.modBrace g₀).bankB = s.bankB := rfl
@[simp] theorem State.modBrace_cfg (s : State) (g₀ : BraceDyn → BraceDyn) : (s.modBrace g₀).cfg = s.cfg := rfl
@[simp] theorem State.modBrace_msix (s : State) (g₀ : BraceDyn → BraceDyn) : (s.modBrace g₀).msix = s.msix := rfl
@[simp] theorem State.modBrace_pba (s : State) (g₀ : BraceDyn → BraceDyn) : (s.modBrace g₀).pba = s.pba := rfl
@[simp] theorem State.modBrace_fuses (s : State) (g₀ : BraceDyn → BraceDyn) : (s.modBrace g₀).fuses = s.fuses := rfl
@[simp] theorem State.modBrace_timers (s : State) (g₀ : BraceDyn → BraceDyn) : (s.modBrace g₀).timers = s.timers := rfl
@[simp] theorem State.modBrace_rss (s : State) (g₀ : BraceDyn → BraceDyn) : (s.modBrace g₀).rss = s.rss := rfl
@[simp] theorem State.modBrace_hosts (s : State) (g₀ : BraceDyn → BraceDyn) : (s.modBrace g₀).hosts = s.hosts := rfl
@[simp] theorem State.modBrace_funcs (s : State) (g₀ : BraceDyn → BraceDyn) : (s.modBrace g₀).funcs = s.funcs := rfl
@[simp] theorem State.modBrace_txns (s : State) (g₀ : BraceDyn → BraceDyn) : (s.modBrace g₀).txns = s.txns := rfl
@[simp] theorem State.modBrace_commits (s : State) (g₀ : BraceDyn → BraceDyn) : (s.modBrace g₀).commits = s.commits := rfl
@[simp] theorem State.modBrace_ports (s : State) (g₀ : BraceDyn → BraceDyn) : (s.modBrace g₀).ports = s.ports := rfl
@[simp] theorem State.modBrace_lanes (s : State) (g₀ : BraceDyn → BraceDyn) : (s.modBrace g₀).lanes = s.lanes := rfl
@[simp] theorem State.modBrace_queues (s : State) (g₀ : BraceDyn → BraceDyn) : (s.modBrace g₀).queues = s.queues := rfl
@[simp] theorem State.modBrace_engines (s : State) (g₀ : BraceDyn → BraceDyn) : (s.modBrace g₀).engines = s.engines := rfl
@[simp] theorem State.modBrace_pegs (s : State) (g₀ : BraceDyn → BraceDyn) : (s.modBrace g₀).pegs = s.pegs := rfl
@[simp] theorem State.modBrace_vecs (s : State) (g₀ : BraceDyn → BraceDyn) : (s.modBrace g₀).vecs = s.vecs := rfl
@[simp] theorem State.modBrace_freed (s : State) (g₀ : BraceDyn → BraceDyn) : (s.modBrace g₀).freed = s.freed := rfl
@[simp] theorem State.modBrace_ridge (s : State) (g₀ : BraceDyn → BraceDyn) : (s.modBrace g₀).ridge = s.ridge := rfl
@[simp] theorem State.modBrace_plumb (s : State) (g₀ : BraceDyn → BraceDyn) : (s.modBrace g₀).plumb = s.plumb := rfl
@[simp] theorem State.modBrace_scribe (s : State) (g₀ : BraceDyn → BraceDyn) : (s.modBrace g₀).scribe = s.scribe := rfl
@[simp] theorem State.modBrace_pins (s : State) (g₀ : BraceDyn → BraceDyn) : (s.modBrace g₀).pins = s.pins := rfl
@[simp] theorem State.modBrace_restore (s : State) (g₀ : BraceDyn → BraceDyn) : (s.modBrace g₀).restore = s.restore := rfl
@[simp] theorem State.modBrace_plankGen (s : State) (g₀ : BraceDyn → BraceDyn) : (s.modBrace g₀).plankGen = s.plankGen := rfl
@[simp] theorem State.modBrace_plankTime (s : State) (g₀ : BraceDyn → BraceDyn) : (s.modBrace g₀).plankTime = s.plankTime := rfl
@[simp] theorem State.modBrace_planks (s : State) (g₀ : BraceDyn → BraceDyn) : (s.modBrace g₀).planks = s.planks := rfl
@[simp] theorem State.modBrace_served (s : State) (g₀ : BraceDyn → BraceDyn) : (s.modBrace g₀).served = s.served := rfl
@[simp] theorem State.modBrace_waking (s : State) (g₀ : BraceDyn → BraceDyn) : (s.modBrace g₀).waking = s.waking := rfl
@[simp] theorem State.modBrace_warm (s : State) (g₀ : BraceDyn → BraceDyn) : (s.modBrace g₀).warm = s.warm := rfl
@[simp] theorem State.modBrace_damaged (s : State) (g₀ : BraceDyn → BraceDyn) : (s.modBrace g₀).damaged = s.damaged := rfl
@[simp] theorem State.modBrace_scrubAt (s : State) (g₀ : BraceDyn → BraceDyn) : (s.modBrace g₀).scrubAt = s.scrubAt := rfl
@[simp] theorem State.modBrace_ring (s : State) (g₀ : BraceDyn → BraceDyn) : (s.modBrace g₀).ring = s.ring := rfl
@[simp] theorem State.modBrace_nextId (s : State) (g₀ : BraceDyn → BraceDyn) : (s.modBrace g₀).nextId = s.nextId := rfl
@[simp] theorem State.modBrace_freeCtr (s : State) (g₀ : BraceDyn → BraceDyn) : (s.modBrace g₀).freeCtr = s.freeCtr := rfl
@[simp] theorem State.modBrace_sent (s : State) (g₀ : BraceDyn → BraceDyn) : (s.modBrace g₀).sent = s.sent := rfl
@[simp] theorem State.modBrace_word (s : State) (g₀ : BraceDyn → BraceDyn) (k : RegKind) (i : Nat) : (s.modBrace g₀).word k i = s.word k i := rfl
@[simp] theorem State.modBrace_get (s : State) (g₀ : BraceDyn → BraceDyn) (F : Fld) (i : Nat) : (s.modBrace g₀).get F i = s.get F i := rfl
@[simp] theorem State.modBrace_on (s : State) (g₀ : BraceDyn → BraceDyn) (F : Fld) (i : Nat) : (s.modBrace g₀).on F i = s.on F i := rfl
@[simp] theorem State.modBrace_region (s : State) (g₀ : BraceDyn → BraceDyn) (r : Nat) : (s.modBrace g₀).region r = s.region r := rfl
@[simp] theorem State.modBrace_cfgWord (s : State) (g₀ : BraceDyn → BraceDyn) (f o : Nat) : (s.modBrace g₀).cfgWord f o = s.cfgWord f o := rfl
@[simp] theorem State.modBrace_cfgGet (s : State) (g₀ : BraceDyn → BraceDyn) (f o lo len : Nat) : (s.modBrace g₀).cfgGet f o lo len = s.cfgGet f o lo len := rfl
@[simp] theorem State.modBrace_cfgBit (s : State) (g₀ : BraceDyn → BraceDyn) (f o i : Nat) : (s.modBrace g₀).cfgBit f o i = s.cfgBit f o i := rfl
@[simp] theorem State.modBrace_msixWord (s : State) (g₀ : BraceDyn → BraceDyn) (f e j : Nat) : (s.modBrace g₀).msixWord f e j = s.msixWord f e j := rfl
@[simp] theorem State.modBrace_host (s : State) (g₀ : BraceDyn → BraceDyn) (h : Nat) : (s.modBrace g₀).host h = s.host h := rfl
@[simp] theorem State.modBrace_func (s : State) (g₀ : BraceDyn → BraceDyn) (f : Nat) : (s.modBrace g₀).func f = s.func f := rfl
@[simp] theorem State.modBrace_txn (s : State) (g₀ : BraceDyn → BraceDyn) (c : Nat) : (s.modBrace g₀).txn c = s.txn c := rfl
@[simp] theorem State.modBrace_port (s : State) (g₀ : BraceDyn → BraceDyn) (p : Nat) : (s.modBrace g₀).port p = s.port p := rfl
@[simp] theorem State.modBrace_lane (s : State) (g₀ : BraceDyn → BraceDyn) (l : Nat) : (s.modBrace g₀).lane l = s.lane l := rfl
@[simp] theorem State.modBrace_queue (s : State) (g₀ : BraceDyn → BraceDyn) (q : Nat) : (s.modBrace g₀).queue q = s.queue q := rfl
@[simp] theorem State.modBrace_eng (s : State) (g₀ : BraceDyn → BraceDyn) (e : Nat) : (s.modBrace g₀).eng e = s.eng e := rfl
@[simp] theorem State.modBrace_peg (s : State) (g₀ : BraceDyn → BraceDyn) (i : Nat) : (s.modBrace g₀).peg i = s.peg i := rfl
@[simp] theorem State.modBrace_ctr (s : State) (g₀ : BraceDyn → BraceDyn) (o : Nat) : (s.modBrace g₀).ctr o = s.ctr o := rfl
@[simp] theorem State.modBrace_due (s : State) (g₀ : BraceDyn → BraceDyn) (t : Timer) : (s.modBrace g₀).due t = s.due t := rfl
@[simp] theorem State.modBrace_armed (s : State) (g₀ : BraceDyn → BraceDyn) (t : Timer) : (s.modBrace g₀).armed t = s.armed t := rfl
@[simp] theorem State.modBrace_isUp (s : State) (g₀ : BraceDyn → BraceDyn) : (s.modBrace g₀).isUp = s.isUp := rfl
@[simp] theorem State.modBrace_powered (s : State) (g₀ : BraceDyn → BraceDyn) : (s.modBrace g₀).powered = s.powered := rfl

@[simp] theorem State.modRidge_pending (s : State) (g₀ : RidgeDyn → RidgeDyn) : (s.modRidge g₀).pending = s.pending := rfl
@[simp] theorem State.modRidge_phase (s : State) (g₀ : RidgeDyn → RidgeDyn) : (s.modRidge g₀).phase = s.phase := rfl
@[simp] theorem State.modRidge_clock (s : State) (g₀ : RidgeDyn → RidgeDyn) : (s.modRidge g₀).clock = s.clock := rfl
@[simp] theorem State.modRidge_devtime (s : State) (g₀ : RidgeDyn → RidgeDyn) : (s.modRidge g₀).devtime = s.devtime := rfl
@[simp] theorem State.modRidge_slew (s : State) (g₀ : RidgeDyn → RidgeDyn) : (s.modRidge g₀).slew = s.slew := rfl
@[simp] theorem State.modRidge_slewFrac (s : State) (g₀ : RidgeDyn → RidgeDyn) : (s.modRidge g₀).slewFrac = s.slewFrac := rfl
@[simp] theorem State.modRidge_regs (s : State) (g₀ : RidgeDyn → RidgeDyn) : (s.modRidge g₀).regs = s.regs := rfl
@[simp] theorem State.modRidge_ctrs (s : State) (g₀ : RidgeDyn → RidgeDyn) : (s.modRidge g₀).ctrs = s.ctrs := rfl
@[simp] theorem State.modRidge_bankA (s : State) (g₀ : RidgeDyn → RidgeDyn) : (s.modRidge g₀).bankA = s.bankA := rfl
@[simp] theorem State.modRidge_bankB (s : State) (g₀ : RidgeDyn → RidgeDyn) : (s.modRidge g₀).bankB = s.bankB := rfl
@[simp] theorem State.modRidge_cfg (s : State) (g₀ : RidgeDyn → RidgeDyn) : (s.modRidge g₀).cfg = s.cfg := rfl
@[simp] theorem State.modRidge_msix (s : State) (g₀ : RidgeDyn → RidgeDyn) : (s.modRidge g₀).msix = s.msix := rfl
@[simp] theorem State.modRidge_pba (s : State) (g₀ : RidgeDyn → RidgeDyn) : (s.modRidge g₀).pba = s.pba := rfl
@[simp] theorem State.modRidge_fuses (s : State) (g₀ : RidgeDyn → RidgeDyn) : (s.modRidge g₀).fuses = s.fuses := rfl
@[simp] theorem State.modRidge_timers (s : State) (g₀ : RidgeDyn → RidgeDyn) : (s.modRidge g₀).timers = s.timers := rfl
@[simp] theorem State.modRidge_rss (s : State) (g₀ : RidgeDyn → RidgeDyn) : (s.modRidge g₀).rss = s.rss := rfl
@[simp] theorem State.modRidge_hosts (s : State) (g₀ : RidgeDyn → RidgeDyn) : (s.modRidge g₀).hosts = s.hosts := rfl
@[simp] theorem State.modRidge_funcs (s : State) (g₀ : RidgeDyn → RidgeDyn) : (s.modRidge g₀).funcs = s.funcs := rfl
@[simp] theorem State.modRidge_txns (s : State) (g₀ : RidgeDyn → RidgeDyn) : (s.modRidge g₀).txns = s.txns := rfl
@[simp] theorem State.modRidge_commits (s : State) (g₀ : RidgeDyn → RidgeDyn) : (s.modRidge g₀).commits = s.commits := rfl
@[simp] theorem State.modRidge_ports (s : State) (g₀ : RidgeDyn → RidgeDyn) : (s.modRidge g₀).ports = s.ports := rfl
@[simp] theorem State.modRidge_lanes (s : State) (g₀ : RidgeDyn → RidgeDyn) : (s.modRidge g₀).lanes = s.lanes := rfl
@[simp] theorem State.modRidge_queues (s : State) (g₀ : RidgeDyn → RidgeDyn) : (s.modRidge g₀).queues = s.queues := rfl
@[simp] theorem State.modRidge_engines (s : State) (g₀ : RidgeDyn → RidgeDyn) : (s.modRidge g₀).engines = s.engines := rfl
@[simp] theorem State.modRidge_pegs (s : State) (g₀ : RidgeDyn → RidgeDyn) : (s.modRidge g₀).pegs = s.pegs := rfl
@[simp] theorem State.modRidge_vecs (s : State) (g₀ : RidgeDyn → RidgeDyn) : (s.modRidge g₀).vecs = s.vecs := rfl
@[simp] theorem State.modRidge_freed (s : State) (g₀ : RidgeDyn → RidgeDyn) : (s.modRidge g₀).freed = s.freed := rfl
@[simp] theorem State.modRidge_brace (s : State) (g₀ : RidgeDyn → RidgeDyn) : (s.modRidge g₀).brace = s.brace := rfl
@[simp] theorem State.modRidge_plumb (s : State) (g₀ : RidgeDyn → RidgeDyn) : (s.modRidge g₀).plumb = s.plumb := rfl
@[simp] theorem State.modRidge_scribe (s : State) (g₀ : RidgeDyn → RidgeDyn) : (s.modRidge g₀).scribe = s.scribe := rfl
@[simp] theorem State.modRidge_pins (s : State) (g₀ : RidgeDyn → RidgeDyn) : (s.modRidge g₀).pins = s.pins := rfl
@[simp] theorem State.modRidge_restore (s : State) (g₀ : RidgeDyn → RidgeDyn) : (s.modRidge g₀).restore = s.restore := rfl
@[simp] theorem State.modRidge_plankGen (s : State) (g₀ : RidgeDyn → RidgeDyn) : (s.modRidge g₀).plankGen = s.plankGen := rfl
@[simp] theorem State.modRidge_plankTime (s : State) (g₀ : RidgeDyn → RidgeDyn) : (s.modRidge g₀).plankTime = s.plankTime := rfl
@[simp] theorem State.modRidge_planks (s : State) (g₀ : RidgeDyn → RidgeDyn) : (s.modRidge g₀).planks = s.planks := rfl
@[simp] theorem State.modRidge_served (s : State) (g₀ : RidgeDyn → RidgeDyn) : (s.modRidge g₀).served = s.served := rfl
@[simp] theorem State.modRidge_waking (s : State) (g₀ : RidgeDyn → RidgeDyn) : (s.modRidge g₀).waking = s.waking := rfl
@[simp] theorem State.modRidge_warm (s : State) (g₀ : RidgeDyn → RidgeDyn) : (s.modRidge g₀).warm = s.warm := rfl
@[simp] theorem State.modRidge_damaged (s : State) (g₀ : RidgeDyn → RidgeDyn) : (s.modRidge g₀).damaged = s.damaged := rfl
@[simp] theorem State.modRidge_scrubAt (s : State) (g₀ : RidgeDyn → RidgeDyn) : (s.modRidge g₀).scrubAt = s.scrubAt := rfl
@[simp] theorem State.modRidge_ring (s : State) (g₀ : RidgeDyn → RidgeDyn) : (s.modRidge g₀).ring = s.ring := rfl
@[simp] theorem State.modRidge_nextId (s : State) (g₀ : RidgeDyn → RidgeDyn) : (s.modRidge g₀).nextId = s.nextId := rfl
@[simp] theorem State.modRidge_freeCtr (s : State) (g₀ : RidgeDyn → RidgeDyn) : (s.modRidge g₀).freeCtr = s.freeCtr := rfl
@[simp] theorem State.modRidge_sent (s : State) (g₀ : RidgeDyn → RidgeDyn) : (s.modRidge g₀).sent = s.sent := rfl
@[simp] theorem State.modRidge_word (s : State) (g₀ : RidgeDyn → RidgeDyn) (k : RegKind) (i : Nat) : (s.modRidge g₀).word k i = s.word k i := rfl
@[simp] theorem State.modRidge_get (s : State) (g₀ : RidgeDyn → RidgeDyn) (F : Fld) (i : Nat) : (s.modRidge g₀).get F i = s.get F i := rfl
@[simp] theorem State.modRidge_on (s : State) (g₀ : RidgeDyn → RidgeDyn) (F : Fld) (i : Nat) : (s.modRidge g₀).on F i = s.on F i := rfl
@[simp] theorem State.modRidge_region (s : State) (g₀ : RidgeDyn → RidgeDyn) (r : Nat) : (s.modRidge g₀).region r = s.region r := rfl
@[simp] theorem State.modRidge_cfgWord (s : State) (g₀ : RidgeDyn → RidgeDyn) (f o : Nat) : (s.modRidge g₀).cfgWord f o = s.cfgWord f o := rfl
@[simp] theorem State.modRidge_cfgGet (s : State) (g₀ : RidgeDyn → RidgeDyn) (f o lo len : Nat) : (s.modRidge g₀).cfgGet f o lo len = s.cfgGet f o lo len := rfl
@[simp] theorem State.modRidge_cfgBit (s : State) (g₀ : RidgeDyn → RidgeDyn) (f o i : Nat) : (s.modRidge g₀).cfgBit f o i = s.cfgBit f o i := rfl
@[simp] theorem State.modRidge_msixWord (s : State) (g₀ : RidgeDyn → RidgeDyn) (f e j : Nat) : (s.modRidge g₀).msixWord f e j = s.msixWord f e j := rfl
@[simp] theorem State.modRidge_host (s : State) (g₀ : RidgeDyn → RidgeDyn) (h : Nat) : (s.modRidge g₀).host h = s.host h := rfl
@[simp] theorem State.modRidge_func (s : State) (g₀ : RidgeDyn → RidgeDyn) (f : Nat) : (s.modRidge g₀).func f = s.func f := rfl
@[simp] theorem State.modRidge_txn (s : State) (g₀ : RidgeDyn → RidgeDyn) (c : Nat) : (s.modRidge g₀).txn c = s.txn c := rfl
@[simp] theorem State.modRidge_port (s : State) (g₀ : RidgeDyn → RidgeDyn) (p : Nat) : (s.modRidge g₀).port p = s.port p := rfl
@[simp] theorem State.modRidge_lane (s : State) (g₀ : RidgeDyn → RidgeDyn) (l : Nat) : (s.modRidge g₀).lane l = s.lane l := rfl
@[simp] theorem State.modRidge_queue (s : State) (g₀ : RidgeDyn → RidgeDyn) (q : Nat) : (s.modRidge g₀).queue q = s.queue q := rfl
@[simp] theorem State.modRidge_eng (s : State) (g₀ : RidgeDyn → RidgeDyn) (e : Nat) : (s.modRidge g₀).eng e = s.eng e := rfl
@[simp] theorem State.modRidge_peg (s : State) (g₀ : RidgeDyn → RidgeDyn) (i : Nat) : (s.modRidge g₀).peg i = s.peg i := rfl
@[simp] theorem State.modRidge_ctr (s : State) (g₀ : RidgeDyn → RidgeDyn) (o : Nat) : (s.modRidge g₀).ctr o = s.ctr o := rfl
@[simp] theorem State.modRidge_due (s : State) (g₀ : RidgeDyn → RidgeDyn) (t : Timer) : (s.modRidge g₀).due t = s.due t := rfl
@[simp] theorem State.modRidge_armed (s : State) (g₀ : RidgeDyn → RidgeDyn) (t : Timer) : (s.modRidge g₀).armed t = s.armed t := rfl
@[simp] theorem State.modRidge_isUp (s : State) (g₀ : RidgeDyn → RidgeDyn) : (s.modRidge g₀).isUp = s.isUp := rfl
@[simp] theorem State.modRidge_powered (s : State) (g₀ : RidgeDyn → RidgeDyn) : (s.modRidge g₀).powered = s.powered := rfl

@[simp] theorem State.modPlumb_pending (s : State) (g₀ : PlumbDyn → PlumbDyn) : (s.modPlumb g₀).pending = s.pending := rfl
@[simp] theorem State.modPlumb_phase (s : State) (g₀ : PlumbDyn → PlumbDyn) : (s.modPlumb g₀).phase = s.phase := rfl
@[simp] theorem State.modPlumb_clock (s : State) (g₀ : PlumbDyn → PlumbDyn) : (s.modPlumb g₀).clock = s.clock := rfl
@[simp] theorem State.modPlumb_devtime (s : State) (g₀ : PlumbDyn → PlumbDyn) : (s.modPlumb g₀).devtime = s.devtime := rfl
@[simp] theorem State.modPlumb_slew (s : State) (g₀ : PlumbDyn → PlumbDyn) : (s.modPlumb g₀).slew = s.slew := rfl
@[simp] theorem State.modPlumb_slewFrac (s : State) (g₀ : PlumbDyn → PlumbDyn) : (s.modPlumb g₀).slewFrac = s.slewFrac := rfl
@[simp] theorem State.modPlumb_regs (s : State) (g₀ : PlumbDyn → PlumbDyn) : (s.modPlumb g₀).regs = s.regs := rfl
@[simp] theorem State.modPlumb_ctrs (s : State) (g₀ : PlumbDyn → PlumbDyn) : (s.modPlumb g₀).ctrs = s.ctrs := rfl
@[simp] theorem State.modPlumb_bankA (s : State) (g₀ : PlumbDyn → PlumbDyn) : (s.modPlumb g₀).bankA = s.bankA := rfl
@[simp] theorem State.modPlumb_bankB (s : State) (g₀ : PlumbDyn → PlumbDyn) : (s.modPlumb g₀).bankB = s.bankB := rfl
@[simp] theorem State.modPlumb_cfg (s : State) (g₀ : PlumbDyn → PlumbDyn) : (s.modPlumb g₀).cfg = s.cfg := rfl
@[simp] theorem State.modPlumb_msix (s : State) (g₀ : PlumbDyn → PlumbDyn) : (s.modPlumb g₀).msix = s.msix := rfl
@[simp] theorem State.modPlumb_pba (s : State) (g₀ : PlumbDyn → PlumbDyn) : (s.modPlumb g₀).pba = s.pba := rfl
@[simp] theorem State.modPlumb_fuses (s : State) (g₀ : PlumbDyn → PlumbDyn) : (s.modPlumb g₀).fuses = s.fuses := rfl
@[simp] theorem State.modPlumb_timers (s : State) (g₀ : PlumbDyn → PlumbDyn) : (s.modPlumb g₀).timers = s.timers := rfl
@[simp] theorem State.modPlumb_rss (s : State) (g₀ : PlumbDyn → PlumbDyn) : (s.modPlumb g₀).rss = s.rss := rfl
@[simp] theorem State.modPlumb_hosts (s : State) (g₀ : PlumbDyn → PlumbDyn) : (s.modPlumb g₀).hosts = s.hosts := rfl
@[simp] theorem State.modPlumb_funcs (s : State) (g₀ : PlumbDyn → PlumbDyn) : (s.modPlumb g₀).funcs = s.funcs := rfl
@[simp] theorem State.modPlumb_txns (s : State) (g₀ : PlumbDyn → PlumbDyn) : (s.modPlumb g₀).txns = s.txns := rfl
@[simp] theorem State.modPlumb_commits (s : State) (g₀ : PlumbDyn → PlumbDyn) : (s.modPlumb g₀).commits = s.commits := rfl
@[simp] theorem State.modPlumb_ports (s : State) (g₀ : PlumbDyn → PlumbDyn) : (s.modPlumb g₀).ports = s.ports := rfl
@[simp] theorem State.modPlumb_lanes (s : State) (g₀ : PlumbDyn → PlumbDyn) : (s.modPlumb g₀).lanes = s.lanes := rfl
@[simp] theorem State.modPlumb_queues (s : State) (g₀ : PlumbDyn → PlumbDyn) : (s.modPlumb g₀).queues = s.queues := rfl
@[simp] theorem State.modPlumb_engines (s : State) (g₀ : PlumbDyn → PlumbDyn) : (s.modPlumb g₀).engines = s.engines := rfl
@[simp] theorem State.modPlumb_pegs (s : State) (g₀ : PlumbDyn → PlumbDyn) : (s.modPlumb g₀).pegs = s.pegs := rfl
@[simp] theorem State.modPlumb_vecs (s : State) (g₀ : PlumbDyn → PlumbDyn) : (s.modPlumb g₀).vecs = s.vecs := rfl
@[simp] theorem State.modPlumb_freed (s : State) (g₀ : PlumbDyn → PlumbDyn) : (s.modPlumb g₀).freed = s.freed := rfl
@[simp] theorem State.modPlumb_brace (s : State) (g₀ : PlumbDyn → PlumbDyn) : (s.modPlumb g₀).brace = s.brace := rfl
@[simp] theorem State.modPlumb_ridge (s : State) (g₀ : PlumbDyn → PlumbDyn) : (s.modPlumb g₀).ridge = s.ridge := rfl
@[simp] theorem State.modPlumb_scribe (s : State) (g₀ : PlumbDyn → PlumbDyn) : (s.modPlumb g₀).scribe = s.scribe := rfl
@[simp] theorem State.modPlumb_pins (s : State) (g₀ : PlumbDyn → PlumbDyn) : (s.modPlumb g₀).pins = s.pins := rfl
@[simp] theorem State.modPlumb_restore (s : State) (g₀ : PlumbDyn → PlumbDyn) : (s.modPlumb g₀).restore = s.restore := rfl
@[simp] theorem State.modPlumb_plankGen (s : State) (g₀ : PlumbDyn → PlumbDyn) : (s.modPlumb g₀).plankGen = s.plankGen := rfl
@[simp] theorem State.modPlumb_plankTime (s : State) (g₀ : PlumbDyn → PlumbDyn) : (s.modPlumb g₀).plankTime = s.plankTime := rfl
@[simp] theorem State.modPlumb_planks (s : State) (g₀ : PlumbDyn → PlumbDyn) : (s.modPlumb g₀).planks = s.planks := rfl
@[simp] theorem State.modPlumb_served (s : State) (g₀ : PlumbDyn → PlumbDyn) : (s.modPlumb g₀).served = s.served := rfl
@[simp] theorem State.modPlumb_waking (s : State) (g₀ : PlumbDyn → PlumbDyn) : (s.modPlumb g₀).waking = s.waking := rfl
@[simp] theorem State.modPlumb_warm (s : State) (g₀ : PlumbDyn → PlumbDyn) : (s.modPlumb g₀).warm = s.warm := rfl
@[simp] theorem State.modPlumb_damaged (s : State) (g₀ : PlumbDyn → PlumbDyn) : (s.modPlumb g₀).damaged = s.damaged := rfl
@[simp] theorem State.modPlumb_scrubAt (s : State) (g₀ : PlumbDyn → PlumbDyn) : (s.modPlumb g₀).scrubAt = s.scrubAt := rfl
@[simp] theorem State.modPlumb_ring (s : State) (g₀ : PlumbDyn → PlumbDyn) : (s.modPlumb g₀).ring = s.ring := rfl
@[simp] theorem State.modPlumb_nextId (s : State) (g₀ : PlumbDyn → PlumbDyn) : (s.modPlumb g₀).nextId = s.nextId := rfl
@[simp] theorem State.modPlumb_freeCtr (s : State) (g₀ : PlumbDyn → PlumbDyn) : (s.modPlumb g₀).freeCtr = s.freeCtr := rfl
@[simp] theorem State.modPlumb_sent (s : State) (g₀ : PlumbDyn → PlumbDyn) : (s.modPlumb g₀).sent = s.sent := rfl
@[simp] theorem State.modPlumb_word (s : State) (g₀ : PlumbDyn → PlumbDyn) (k : RegKind) (i : Nat) : (s.modPlumb g₀).word k i = s.word k i := rfl
@[simp] theorem State.modPlumb_get (s : State) (g₀ : PlumbDyn → PlumbDyn) (F : Fld) (i : Nat) : (s.modPlumb g₀).get F i = s.get F i := rfl
@[simp] theorem State.modPlumb_on (s : State) (g₀ : PlumbDyn → PlumbDyn) (F : Fld) (i : Nat) : (s.modPlumb g₀).on F i = s.on F i := rfl
@[simp] theorem State.modPlumb_region (s : State) (g₀ : PlumbDyn → PlumbDyn) (r : Nat) : (s.modPlumb g₀).region r = s.region r := rfl
@[simp] theorem State.modPlumb_cfgWord (s : State) (g₀ : PlumbDyn → PlumbDyn) (f o : Nat) : (s.modPlumb g₀).cfgWord f o = s.cfgWord f o := rfl
@[simp] theorem State.modPlumb_cfgGet (s : State) (g₀ : PlumbDyn → PlumbDyn) (f o lo len : Nat) : (s.modPlumb g₀).cfgGet f o lo len = s.cfgGet f o lo len := rfl
@[simp] theorem State.modPlumb_cfgBit (s : State) (g₀ : PlumbDyn → PlumbDyn) (f o i : Nat) : (s.modPlumb g₀).cfgBit f o i = s.cfgBit f o i := rfl
@[simp] theorem State.modPlumb_msixWord (s : State) (g₀ : PlumbDyn → PlumbDyn) (f e j : Nat) : (s.modPlumb g₀).msixWord f e j = s.msixWord f e j := rfl
@[simp] theorem State.modPlumb_host (s : State) (g₀ : PlumbDyn → PlumbDyn) (h : Nat) : (s.modPlumb g₀).host h = s.host h := rfl
@[simp] theorem State.modPlumb_func (s : State) (g₀ : PlumbDyn → PlumbDyn) (f : Nat) : (s.modPlumb g₀).func f = s.func f := rfl
@[simp] theorem State.modPlumb_txn (s : State) (g₀ : PlumbDyn → PlumbDyn) (c : Nat) : (s.modPlumb g₀).txn c = s.txn c := rfl
@[simp] theorem State.modPlumb_port (s : State) (g₀ : PlumbDyn → PlumbDyn) (p : Nat) : (s.modPlumb g₀).port p = s.port p := rfl
@[simp] theorem State.modPlumb_lane (s : State) (g₀ : PlumbDyn → PlumbDyn) (l : Nat) : (s.modPlumb g₀).lane l = s.lane l := rfl
@[simp] theorem State.modPlumb_queue (s : State) (g₀ : PlumbDyn → PlumbDyn) (q : Nat) : (s.modPlumb g₀).queue q = s.queue q := rfl
@[simp] theorem State.modPlumb_eng (s : State) (g₀ : PlumbDyn → PlumbDyn) (e : Nat) : (s.modPlumb g₀).eng e = s.eng e := rfl
@[simp] theorem State.modPlumb_peg (s : State) (g₀ : PlumbDyn → PlumbDyn) (i : Nat) : (s.modPlumb g₀).peg i = s.peg i := rfl
@[simp] theorem State.modPlumb_ctr (s : State) (g₀ : PlumbDyn → PlumbDyn) (o : Nat) : (s.modPlumb g₀).ctr o = s.ctr o := rfl
@[simp] theorem State.modPlumb_due (s : State) (g₀ : PlumbDyn → PlumbDyn) (t : Timer) : (s.modPlumb g₀).due t = s.due t := rfl
@[simp] theorem State.modPlumb_armed (s : State) (g₀ : PlumbDyn → PlumbDyn) (t : Timer) : (s.modPlumb g₀).armed t = s.armed t := rfl
@[simp] theorem State.modPlumb_isUp (s : State) (g₀ : PlumbDyn → PlumbDyn) : (s.modPlumb g₀).isUp = s.isUp := rfl
@[simp] theorem State.modPlumb_powered (s : State) (g₀ : PlumbDyn → PlumbDyn) : (s.modPlumb g₀).powered = s.powered := rfl

@[simp] theorem State.modPins_pending (s : State) (g₀ : PinDyn → PinDyn) : (s.modPins g₀).pending = s.pending := rfl
@[simp] theorem State.modPins_phase (s : State) (g₀ : PinDyn → PinDyn) : (s.modPins g₀).phase = s.phase := rfl
@[simp] theorem State.modPins_clock (s : State) (g₀ : PinDyn → PinDyn) : (s.modPins g₀).clock = s.clock := rfl
@[simp] theorem State.modPins_devtime (s : State) (g₀ : PinDyn → PinDyn) : (s.modPins g₀).devtime = s.devtime := rfl
@[simp] theorem State.modPins_slew (s : State) (g₀ : PinDyn → PinDyn) : (s.modPins g₀).slew = s.slew := rfl
@[simp] theorem State.modPins_slewFrac (s : State) (g₀ : PinDyn → PinDyn) : (s.modPins g₀).slewFrac = s.slewFrac := rfl
@[simp] theorem State.modPins_regs (s : State) (g₀ : PinDyn → PinDyn) : (s.modPins g₀).regs = s.regs := rfl
@[simp] theorem State.modPins_ctrs (s : State) (g₀ : PinDyn → PinDyn) : (s.modPins g₀).ctrs = s.ctrs := rfl
@[simp] theorem State.modPins_bankA (s : State) (g₀ : PinDyn → PinDyn) : (s.modPins g₀).bankA = s.bankA := rfl
@[simp] theorem State.modPins_bankB (s : State) (g₀ : PinDyn → PinDyn) : (s.modPins g₀).bankB = s.bankB := rfl
@[simp] theorem State.modPins_cfg (s : State) (g₀ : PinDyn → PinDyn) : (s.modPins g₀).cfg = s.cfg := rfl
@[simp] theorem State.modPins_msix (s : State) (g₀ : PinDyn → PinDyn) : (s.modPins g₀).msix = s.msix := rfl
@[simp] theorem State.modPins_pba (s : State) (g₀ : PinDyn → PinDyn) : (s.modPins g₀).pba = s.pba := rfl
@[simp] theorem State.modPins_fuses (s : State) (g₀ : PinDyn → PinDyn) : (s.modPins g₀).fuses = s.fuses := rfl
@[simp] theorem State.modPins_timers (s : State) (g₀ : PinDyn → PinDyn) : (s.modPins g₀).timers = s.timers := rfl
@[simp] theorem State.modPins_rss (s : State) (g₀ : PinDyn → PinDyn) : (s.modPins g₀).rss = s.rss := rfl
@[simp] theorem State.modPins_hosts (s : State) (g₀ : PinDyn → PinDyn) : (s.modPins g₀).hosts = s.hosts := rfl
@[simp] theorem State.modPins_funcs (s : State) (g₀ : PinDyn → PinDyn) : (s.modPins g₀).funcs = s.funcs := rfl
@[simp] theorem State.modPins_txns (s : State) (g₀ : PinDyn → PinDyn) : (s.modPins g₀).txns = s.txns := rfl
@[simp] theorem State.modPins_commits (s : State) (g₀ : PinDyn → PinDyn) : (s.modPins g₀).commits = s.commits := rfl
@[simp] theorem State.modPins_ports (s : State) (g₀ : PinDyn → PinDyn) : (s.modPins g₀).ports = s.ports := rfl
@[simp] theorem State.modPins_lanes (s : State) (g₀ : PinDyn → PinDyn) : (s.modPins g₀).lanes = s.lanes := rfl
@[simp] theorem State.modPins_queues (s : State) (g₀ : PinDyn → PinDyn) : (s.modPins g₀).queues = s.queues := rfl
@[simp] theorem State.modPins_engines (s : State) (g₀ : PinDyn → PinDyn) : (s.modPins g₀).engines = s.engines := rfl
@[simp] theorem State.modPins_pegs (s : State) (g₀ : PinDyn → PinDyn) : (s.modPins g₀).pegs = s.pegs := rfl
@[simp] theorem State.modPins_vecs (s : State) (g₀ : PinDyn → PinDyn) : (s.modPins g₀).vecs = s.vecs := rfl
@[simp] theorem State.modPins_freed (s : State) (g₀ : PinDyn → PinDyn) : (s.modPins g₀).freed = s.freed := rfl
@[simp] theorem State.modPins_brace (s : State) (g₀ : PinDyn → PinDyn) : (s.modPins g₀).brace = s.brace := rfl
@[simp] theorem State.modPins_ridge (s : State) (g₀ : PinDyn → PinDyn) : (s.modPins g₀).ridge = s.ridge := rfl
@[simp] theorem State.modPins_plumb (s : State) (g₀ : PinDyn → PinDyn) : (s.modPins g₀).plumb = s.plumb := rfl
@[simp] theorem State.modPins_scribe (s : State) (g₀ : PinDyn → PinDyn) : (s.modPins g₀).scribe = s.scribe := rfl
@[simp] theorem State.modPins_restore (s : State) (g₀ : PinDyn → PinDyn) : (s.modPins g₀).restore = s.restore := rfl
@[simp] theorem State.modPins_plankGen (s : State) (g₀ : PinDyn → PinDyn) : (s.modPins g₀).plankGen = s.plankGen := rfl
@[simp] theorem State.modPins_plankTime (s : State) (g₀ : PinDyn → PinDyn) : (s.modPins g₀).plankTime = s.plankTime := rfl
@[simp] theorem State.modPins_planks (s : State) (g₀ : PinDyn → PinDyn) : (s.modPins g₀).planks = s.planks := rfl
@[simp] theorem State.modPins_served (s : State) (g₀ : PinDyn → PinDyn) : (s.modPins g₀).served = s.served := rfl
@[simp] theorem State.modPins_waking (s : State) (g₀ : PinDyn → PinDyn) : (s.modPins g₀).waking = s.waking := rfl
@[simp] theorem State.modPins_warm (s : State) (g₀ : PinDyn → PinDyn) : (s.modPins g₀).warm = s.warm := rfl
@[simp] theorem State.modPins_damaged (s : State) (g₀ : PinDyn → PinDyn) : (s.modPins g₀).damaged = s.damaged := rfl
@[simp] theorem State.modPins_scrubAt (s : State) (g₀ : PinDyn → PinDyn) : (s.modPins g₀).scrubAt = s.scrubAt := rfl
@[simp] theorem State.modPins_ring (s : State) (g₀ : PinDyn → PinDyn) : (s.modPins g₀).ring = s.ring := rfl
@[simp] theorem State.modPins_nextId (s : State) (g₀ : PinDyn → PinDyn) : (s.modPins g₀).nextId = s.nextId := rfl
@[simp] theorem State.modPins_freeCtr (s : State) (g₀ : PinDyn → PinDyn) : (s.modPins g₀).freeCtr = s.freeCtr := rfl
@[simp] theorem State.modPins_sent (s : State) (g₀ : PinDyn → PinDyn) : (s.modPins g₀).sent = s.sent := rfl
@[simp] theorem State.modPins_word (s : State) (g₀ : PinDyn → PinDyn) (k : RegKind) (i : Nat) : (s.modPins g₀).word k i = s.word k i := rfl
@[simp] theorem State.modPins_get (s : State) (g₀ : PinDyn → PinDyn) (F : Fld) (i : Nat) : (s.modPins g₀).get F i = s.get F i := rfl
@[simp] theorem State.modPins_on (s : State) (g₀ : PinDyn → PinDyn) (F : Fld) (i : Nat) : (s.modPins g₀).on F i = s.on F i := rfl
@[simp] theorem State.modPins_region (s : State) (g₀ : PinDyn → PinDyn) (r : Nat) : (s.modPins g₀).region r = s.region r := rfl
@[simp] theorem State.modPins_cfgWord (s : State) (g₀ : PinDyn → PinDyn) (f o : Nat) : (s.modPins g₀).cfgWord f o = s.cfgWord f o := rfl
@[simp] theorem State.modPins_cfgGet (s : State) (g₀ : PinDyn → PinDyn) (f o lo len : Nat) : (s.modPins g₀).cfgGet f o lo len = s.cfgGet f o lo len := rfl
@[simp] theorem State.modPins_cfgBit (s : State) (g₀ : PinDyn → PinDyn) (f o i : Nat) : (s.modPins g₀).cfgBit f o i = s.cfgBit f o i := rfl
@[simp] theorem State.modPins_msixWord (s : State) (g₀ : PinDyn → PinDyn) (f e j : Nat) : (s.modPins g₀).msixWord f e j = s.msixWord f e j := rfl
@[simp] theorem State.modPins_host (s : State) (g₀ : PinDyn → PinDyn) (h : Nat) : (s.modPins g₀).host h = s.host h := rfl
@[simp] theorem State.modPins_func (s : State) (g₀ : PinDyn → PinDyn) (f : Nat) : (s.modPins g₀).func f = s.func f := rfl
@[simp] theorem State.modPins_txn (s : State) (g₀ : PinDyn → PinDyn) (c : Nat) : (s.modPins g₀).txn c = s.txn c := rfl
@[simp] theorem State.modPins_port (s : State) (g₀ : PinDyn → PinDyn) (p : Nat) : (s.modPins g₀).port p = s.port p := rfl
@[simp] theorem State.modPins_lane (s : State) (g₀ : PinDyn → PinDyn) (l : Nat) : (s.modPins g₀).lane l = s.lane l := rfl
@[simp] theorem State.modPins_queue (s : State) (g₀ : PinDyn → PinDyn) (q : Nat) : (s.modPins g₀).queue q = s.queue q := rfl
@[simp] theorem State.modPins_eng (s : State) (g₀ : PinDyn → PinDyn) (e : Nat) : (s.modPins g₀).eng e = s.eng e := rfl
@[simp] theorem State.modPins_peg (s : State) (g₀ : PinDyn → PinDyn) (i : Nat) : (s.modPins g₀).peg i = s.peg i := rfl
@[simp] theorem State.modPins_ctr (s : State) (g₀ : PinDyn → PinDyn) (o : Nat) : (s.modPins g₀).ctr o = s.ctr o := rfl
@[simp] theorem State.modPins_due (s : State) (g₀ : PinDyn → PinDyn) (t : Timer) : (s.modPins g₀).due t = s.due t := rfl
@[simp] theorem State.modPins_armed (s : State) (g₀ : PinDyn → PinDyn) (t : Timer) : (s.modPins g₀).armed t = s.armed t := rfl
@[simp] theorem State.modPins_isUp (s : State) (g₀ : PinDyn → PinDyn) : (s.modPins g₀).isUp = s.isUp := rfl
@[simp] theorem State.modPins_powered (s : State) (g₀ : PinDyn → PinDyn) : (s.modPins g₀).powered = s.powered := rfl

@[simp] theorem State.emit_pending (s : State) (o₀ : Output) : (s.emit o₀).pending = s.pending := rfl
@[simp] theorem State.emit_phase (s : State) (o₀ : Output) : (s.emit o₀).phase = s.phase := rfl
@[simp] theorem State.emit_clock (s : State) (o₀ : Output) : (s.emit o₀).clock = s.clock := rfl
@[simp] theorem State.emit_devtime (s : State) (o₀ : Output) : (s.emit o₀).devtime = s.devtime := rfl
@[simp] theorem State.emit_slew (s : State) (o₀ : Output) : (s.emit o₀).slew = s.slew := rfl
@[simp] theorem State.emit_slewFrac (s : State) (o₀ : Output) : (s.emit o₀).slewFrac = s.slewFrac := rfl
@[simp] theorem State.emit_regs (s : State) (o₀ : Output) : (s.emit o₀).regs = s.regs := rfl
@[simp] theorem State.emit_ctrs (s : State) (o₀ : Output) : (s.emit o₀).ctrs = s.ctrs := rfl
@[simp] theorem State.emit_bankA (s : State) (o₀ : Output) : (s.emit o₀).bankA = s.bankA := rfl
@[simp] theorem State.emit_bankB (s : State) (o₀ : Output) : (s.emit o₀).bankB = s.bankB := rfl
@[simp] theorem State.emit_cfg (s : State) (o₀ : Output) : (s.emit o₀).cfg = s.cfg := rfl
@[simp] theorem State.emit_msix (s : State) (o₀ : Output) : (s.emit o₀).msix = s.msix := rfl
@[simp] theorem State.emit_pba (s : State) (o₀ : Output) : (s.emit o₀).pba = s.pba := rfl
@[simp] theorem State.emit_fuses (s : State) (o₀ : Output) : (s.emit o₀).fuses = s.fuses := rfl
@[simp] theorem State.emit_timers (s : State) (o₀ : Output) : (s.emit o₀).timers = s.timers := rfl
@[simp] theorem State.emit_rss (s : State) (o₀ : Output) : (s.emit o₀).rss = s.rss := rfl
@[simp] theorem State.emit_hosts (s : State) (o₀ : Output) : (s.emit o₀).hosts = s.hosts := rfl
@[simp] theorem State.emit_funcs (s : State) (o₀ : Output) : (s.emit o₀).funcs = s.funcs := rfl
@[simp] theorem State.emit_txns (s : State) (o₀ : Output) : (s.emit o₀).txns = s.txns := rfl
@[simp] theorem State.emit_commits (s : State) (o₀ : Output) : (s.emit o₀).commits = s.commits := rfl
@[simp] theorem State.emit_ports (s : State) (o₀ : Output) : (s.emit o₀).ports = s.ports := rfl
@[simp] theorem State.emit_lanes (s : State) (o₀ : Output) : (s.emit o₀).lanes = s.lanes := rfl
@[simp] theorem State.emit_queues (s : State) (o₀ : Output) : (s.emit o₀).queues = s.queues := rfl
@[simp] theorem State.emit_engines (s : State) (o₀ : Output) : (s.emit o₀).engines = s.engines := rfl
@[simp] theorem State.emit_pegs (s : State) (o₀ : Output) : (s.emit o₀).pegs = s.pegs := rfl
@[simp] theorem State.emit_vecs (s : State) (o₀ : Output) : (s.emit o₀).vecs = s.vecs := rfl
@[simp] theorem State.emit_freed (s : State) (o₀ : Output) : (s.emit o₀).freed = s.freed := rfl
@[simp] theorem State.emit_brace (s : State) (o₀ : Output) : (s.emit o₀).brace = s.brace := rfl
@[simp] theorem State.emit_ridge (s : State) (o₀ : Output) : (s.emit o₀).ridge = s.ridge := rfl
@[simp] theorem State.emit_plumb (s : State) (o₀ : Output) : (s.emit o₀).plumb = s.plumb := rfl
@[simp] theorem State.emit_scribe (s : State) (o₀ : Output) : (s.emit o₀).scribe = s.scribe := rfl
@[simp] theorem State.emit_pins (s : State) (o₀ : Output) : (s.emit o₀).pins = s.pins := rfl
@[simp] theorem State.emit_restore (s : State) (o₀ : Output) : (s.emit o₀).restore = s.restore := rfl
@[simp] theorem State.emit_plankGen (s : State) (o₀ : Output) : (s.emit o₀).plankGen = s.plankGen := rfl
@[simp] theorem State.emit_plankTime (s : State) (o₀ : Output) : (s.emit o₀).plankTime = s.plankTime := rfl
@[simp] theorem State.emit_planks (s : State) (o₀ : Output) : (s.emit o₀).planks = s.planks := rfl
@[simp] theorem State.emit_served (s : State) (o₀ : Output) : (s.emit o₀).served = s.served := rfl
@[simp] theorem State.emit_waking (s : State) (o₀ : Output) : (s.emit o₀).waking = s.waking := rfl
@[simp] theorem State.emit_warm (s : State) (o₀ : Output) : (s.emit o₀).warm = s.warm := rfl
@[simp] theorem State.emit_damaged (s : State) (o₀ : Output) : (s.emit o₀).damaged = s.damaged := rfl
@[simp] theorem State.emit_scrubAt (s : State) (o₀ : Output) : (s.emit o₀).scrubAt = s.scrubAt := rfl
@[simp] theorem State.emit_ring (s : State) (o₀ : Output) : (s.emit o₀).ring = s.ring := rfl
@[simp] theorem State.emit_nextId (s : State) (o₀ : Output) : (s.emit o₀).nextId = s.nextId := rfl
@[simp] theorem State.emit_freeCtr (s : State) (o₀ : Output) : (s.emit o₀).freeCtr = s.freeCtr := rfl
@[simp] theorem State.emit_word (s : State) (o₀ : Output) (k : RegKind) (i : Nat) : (s.emit o₀).word k i = s.word k i := rfl
@[simp] theorem State.emit_get (s : State) (o₀ : Output) (F : Fld) (i : Nat) : (s.emit o₀).get F i = s.get F i := rfl
@[simp] theorem State.emit_on (s : State) (o₀ : Output) (F : Fld) (i : Nat) : (s.emit o₀).on F i = s.on F i := rfl
@[simp] theorem State.emit_region (s : State) (o₀ : Output) (r : Nat) : (s.emit o₀).region r = s.region r := rfl
@[simp] theorem State.emit_cfgWord (s : State) (o₀ : Output) (f o : Nat) : (s.emit o₀).cfgWord f o = s.cfgWord f o := rfl
@[simp] theorem State.emit_cfgGet (s : State) (o₀ : Output) (f o lo len : Nat) : (s.emit o₀).cfgGet f o lo len = s.cfgGet f o lo len := rfl
@[simp] theorem State.emit_cfgBit (s : State) (o₀ : Output) (f o i : Nat) : (s.emit o₀).cfgBit f o i = s.cfgBit f o i := rfl
@[simp] theorem State.emit_msixWord (s : State) (o₀ : Output) (f e j : Nat) : (s.emit o₀).msixWord f e j = s.msixWord f e j := rfl
@[simp] theorem State.emit_host (s : State) (o₀ : Output) (h : Nat) : (s.emit o₀).host h = s.host h := rfl
@[simp] theorem State.emit_func (s : State) (o₀ : Output) (f : Nat) : (s.emit o₀).func f = s.func f := rfl
@[simp] theorem State.emit_txn (s : State) (o₀ : Output) (c : Nat) : (s.emit o₀).txn c = s.txn c := rfl
@[simp] theorem State.emit_port (s : State) (o₀ : Output) (p : Nat) : (s.emit o₀).port p = s.port p := rfl
@[simp] theorem State.emit_lane (s : State) (o₀ : Output) (l : Nat) : (s.emit o₀).lane l = s.lane l := rfl
@[simp] theorem State.emit_queue (s : State) (o₀ : Output) (q : Nat) : (s.emit o₀).queue q = s.queue q := rfl
@[simp] theorem State.emit_eng (s : State) (o₀ : Output) (e : Nat) : (s.emit o₀).eng e = s.eng e := rfl
@[simp] theorem State.emit_peg (s : State) (o₀ : Output) (i : Nat) : (s.emit o₀).peg i = s.peg i := rfl
@[simp] theorem State.emit_ctr (s : State) (o₀ : Output) (o : Nat) : (s.emit o₀).ctr o = s.ctr o := rfl
@[simp] theorem State.emit_due (s : State) (o₀ : Output) (t : Timer) : (s.emit o₀).due t = s.due t := rfl
@[simp] theorem State.emit_armed (s : State) (o₀ : Output) (t : Timer) : (s.emit o₀).armed t = s.armed t := rfl
@[simp] theorem State.emit_isUp (s : State) (o₀ : Output) : (s.emit o₀).isUp = s.isUp := rfl
@[simp] theorem State.emit_powered (s : State) (o₀ : Output) : (s.emit o₀).powered = s.powered := rfl

@[simp] theorem State.disarm_pending (s : State) (t₀ : Timer) : (s.disarm t₀).pending = s.pending := rfl
@[simp] theorem State.disarm_phase (s : State) (t₀ : Timer) : (s.disarm t₀).phase = s.phase := rfl
@[simp] theorem State.disarm_clock (s : State) (t₀ : Timer) : (s.disarm t₀).clock = s.clock := rfl
@[simp] theorem State.disarm_devtime (s : State) (t₀ : Timer) : (s.disarm t₀).devtime = s.devtime := rfl
@[simp] theorem State.disarm_slew (s : State) (t₀ : Timer) : (s.disarm t₀).slew = s.slew := rfl
@[simp] theorem State.disarm_slewFrac (s : State) (t₀ : Timer) : (s.disarm t₀).slewFrac = s.slewFrac := rfl
@[simp] theorem State.disarm_regs (s : State) (t₀ : Timer) : (s.disarm t₀).regs = s.regs := rfl
@[simp] theorem State.disarm_ctrs (s : State) (t₀ : Timer) : (s.disarm t₀).ctrs = s.ctrs := rfl
@[simp] theorem State.disarm_bankA (s : State) (t₀ : Timer) : (s.disarm t₀).bankA = s.bankA := rfl
@[simp] theorem State.disarm_bankB (s : State) (t₀ : Timer) : (s.disarm t₀).bankB = s.bankB := rfl
@[simp] theorem State.disarm_cfg (s : State) (t₀ : Timer) : (s.disarm t₀).cfg = s.cfg := rfl
@[simp] theorem State.disarm_msix (s : State) (t₀ : Timer) : (s.disarm t₀).msix = s.msix := rfl
@[simp] theorem State.disarm_pba (s : State) (t₀ : Timer) : (s.disarm t₀).pba = s.pba := rfl
@[simp] theorem State.disarm_fuses (s : State) (t₀ : Timer) : (s.disarm t₀).fuses = s.fuses := rfl
@[simp] theorem State.disarm_rss (s : State) (t₀ : Timer) : (s.disarm t₀).rss = s.rss := rfl
@[simp] theorem State.disarm_hosts (s : State) (t₀ : Timer) : (s.disarm t₀).hosts = s.hosts := rfl
@[simp] theorem State.disarm_funcs (s : State) (t₀ : Timer) : (s.disarm t₀).funcs = s.funcs := rfl
@[simp] theorem State.disarm_txns (s : State) (t₀ : Timer) : (s.disarm t₀).txns = s.txns := rfl
@[simp] theorem State.disarm_commits (s : State) (t₀ : Timer) : (s.disarm t₀).commits = s.commits := rfl
@[simp] theorem State.disarm_ports (s : State) (t₀ : Timer) : (s.disarm t₀).ports = s.ports := rfl
@[simp] theorem State.disarm_lanes (s : State) (t₀ : Timer) : (s.disarm t₀).lanes = s.lanes := rfl
@[simp] theorem State.disarm_queues (s : State) (t₀ : Timer) : (s.disarm t₀).queues = s.queues := rfl
@[simp] theorem State.disarm_engines (s : State) (t₀ : Timer) : (s.disarm t₀).engines = s.engines := rfl
@[simp] theorem State.disarm_pegs (s : State) (t₀ : Timer) : (s.disarm t₀).pegs = s.pegs := rfl
@[simp] theorem State.disarm_vecs (s : State) (t₀ : Timer) : (s.disarm t₀).vecs = s.vecs := rfl
@[simp] theorem State.disarm_freed (s : State) (t₀ : Timer) : (s.disarm t₀).freed = s.freed := rfl
@[simp] theorem State.disarm_brace (s : State) (t₀ : Timer) : (s.disarm t₀).brace = s.brace := rfl
@[simp] theorem State.disarm_ridge (s : State) (t₀ : Timer) : (s.disarm t₀).ridge = s.ridge := rfl
@[simp] theorem State.disarm_plumb (s : State) (t₀ : Timer) : (s.disarm t₀).plumb = s.plumb := rfl
@[simp] theorem State.disarm_scribe (s : State) (t₀ : Timer) : (s.disarm t₀).scribe = s.scribe := rfl
@[simp] theorem State.disarm_pins (s : State) (t₀ : Timer) : (s.disarm t₀).pins = s.pins := rfl
@[simp] theorem State.disarm_restore (s : State) (t₀ : Timer) : (s.disarm t₀).restore = s.restore := rfl
@[simp] theorem State.disarm_plankGen (s : State) (t₀ : Timer) : (s.disarm t₀).plankGen = s.plankGen := rfl
@[simp] theorem State.disarm_plankTime (s : State) (t₀ : Timer) : (s.disarm t₀).plankTime = s.plankTime := rfl
@[simp] theorem State.disarm_planks (s : State) (t₀ : Timer) : (s.disarm t₀).planks = s.planks := rfl
@[simp] theorem State.disarm_served (s : State) (t₀ : Timer) : (s.disarm t₀).served = s.served := rfl
@[simp] theorem State.disarm_waking (s : State) (t₀ : Timer) : (s.disarm t₀).waking = s.waking := rfl
@[simp] theorem State.disarm_warm (s : State) (t₀ : Timer) : (s.disarm t₀).warm = s.warm := rfl
@[simp] theorem State.disarm_damaged (s : State) (t₀ : Timer) : (s.disarm t₀).damaged = s.damaged := rfl
@[simp] theorem State.disarm_scrubAt (s : State) (t₀ : Timer) : (s.disarm t₀).scrubAt = s.scrubAt := rfl
@[simp] theorem State.disarm_ring (s : State) (t₀ : Timer) : (s.disarm t₀).ring = s.ring := rfl
@[simp] theorem State.disarm_nextId (s : State) (t₀ : Timer) : (s.disarm t₀).nextId = s.nextId := rfl
@[simp] theorem State.disarm_freeCtr (s : State) (t₀ : Timer) : (s.disarm t₀).freeCtr = s.freeCtr := rfl
@[simp] theorem State.disarm_sent (s : State) (t₀ : Timer) : (s.disarm t₀).sent = s.sent := rfl
@[simp] theorem State.disarm_word (s : State) (t₀ : Timer) (k : RegKind) (i : Nat) : (s.disarm t₀).word k i = s.word k i := rfl
@[simp] theorem State.disarm_get (s : State) (t₀ : Timer) (F : Fld) (i : Nat) : (s.disarm t₀).get F i = s.get F i := rfl
@[simp] theorem State.disarm_on (s : State) (t₀ : Timer) (F : Fld) (i : Nat) : (s.disarm t₀).on F i = s.on F i := rfl
@[simp] theorem State.disarm_region (s : State) (t₀ : Timer) (r : Nat) : (s.disarm t₀).region r = s.region r := rfl
@[simp] theorem State.disarm_cfgWord (s : State) (t₀ : Timer) (f o : Nat) : (s.disarm t₀).cfgWord f o = s.cfgWord f o := rfl
@[simp] theorem State.disarm_cfgGet (s : State) (t₀ : Timer) (f o lo len : Nat) : (s.disarm t₀).cfgGet f o lo len = s.cfgGet f o lo len := rfl
@[simp] theorem State.disarm_cfgBit (s : State) (t₀ : Timer) (f o i : Nat) : (s.disarm t₀).cfgBit f o i = s.cfgBit f o i := rfl
@[simp] theorem State.disarm_msixWord (s : State) (t₀ : Timer) (f e j : Nat) : (s.disarm t₀).msixWord f e j = s.msixWord f e j := rfl
@[simp] theorem State.disarm_host (s : State) (t₀ : Timer) (h : Nat) : (s.disarm t₀).host h = s.host h := rfl
@[simp] theorem State.disarm_func (s : State) (t₀ : Timer) (f : Nat) : (s.disarm t₀).func f = s.func f := rfl
@[simp] theorem State.disarm_txn (s : State) (t₀ : Timer) (c : Nat) : (s.disarm t₀).txn c = s.txn c := rfl
@[simp] theorem State.disarm_port (s : State) (t₀ : Timer) (p : Nat) : (s.disarm t₀).port p = s.port p := rfl
@[simp] theorem State.disarm_lane (s : State) (t₀ : Timer) (l : Nat) : (s.disarm t₀).lane l = s.lane l := rfl
@[simp] theorem State.disarm_queue (s : State) (t₀ : Timer) (q : Nat) : (s.disarm t₀).queue q = s.queue q := rfl
@[simp] theorem State.disarm_eng (s : State) (t₀ : Timer) (e : Nat) : (s.disarm t₀).eng e = s.eng e := rfl
@[simp] theorem State.disarm_peg (s : State) (t₀ : Timer) (i : Nat) : (s.disarm t₀).peg i = s.peg i := rfl
@[simp] theorem State.disarm_ctr (s : State) (t₀ : Timer) (o : Nat) : (s.disarm t₀).ctr o = s.ctr o := rfl
@[simp] theorem State.disarm_isUp (s : State) (t₀ : Timer) : (s.disarm t₀).isUp = s.isUp := rfl
@[simp] theorem State.disarm_powered (s : State) (t₀ : Timer) : (s.disarm t₀).powered = s.powered := rfl

@[simp] theorem State.disarmAll_pending (s : State) (p₀ : Timer → Bool) : (s.disarmAll p₀).pending = s.pending := rfl
@[simp] theorem State.disarmAll_phase (s : State) (p₀ : Timer → Bool) : (s.disarmAll p₀).phase = s.phase := rfl
@[simp] theorem State.disarmAll_clock (s : State) (p₀ : Timer → Bool) : (s.disarmAll p₀).clock = s.clock := rfl
@[simp] theorem State.disarmAll_devtime (s : State) (p₀ : Timer → Bool) : (s.disarmAll p₀).devtime = s.devtime := rfl
@[simp] theorem State.disarmAll_slew (s : State) (p₀ : Timer → Bool) : (s.disarmAll p₀).slew = s.slew := rfl
@[simp] theorem State.disarmAll_slewFrac (s : State) (p₀ : Timer → Bool) : (s.disarmAll p₀).slewFrac = s.slewFrac := rfl
@[simp] theorem State.disarmAll_regs (s : State) (p₀ : Timer → Bool) : (s.disarmAll p₀).regs = s.regs := rfl
@[simp] theorem State.disarmAll_ctrs (s : State) (p₀ : Timer → Bool) : (s.disarmAll p₀).ctrs = s.ctrs := rfl
@[simp] theorem State.disarmAll_bankA (s : State) (p₀ : Timer → Bool) : (s.disarmAll p₀).bankA = s.bankA := rfl
@[simp] theorem State.disarmAll_bankB (s : State) (p₀ : Timer → Bool) : (s.disarmAll p₀).bankB = s.bankB := rfl
@[simp] theorem State.disarmAll_cfg (s : State) (p₀ : Timer → Bool) : (s.disarmAll p₀).cfg = s.cfg := rfl
@[simp] theorem State.disarmAll_msix (s : State) (p₀ : Timer → Bool) : (s.disarmAll p₀).msix = s.msix := rfl
@[simp] theorem State.disarmAll_pba (s : State) (p₀ : Timer → Bool) : (s.disarmAll p₀).pba = s.pba := rfl
@[simp] theorem State.disarmAll_fuses (s : State) (p₀ : Timer → Bool) : (s.disarmAll p₀).fuses = s.fuses := rfl
@[simp] theorem State.disarmAll_rss (s : State) (p₀ : Timer → Bool) : (s.disarmAll p₀).rss = s.rss := rfl
@[simp] theorem State.disarmAll_hosts (s : State) (p₀ : Timer → Bool) : (s.disarmAll p₀).hosts = s.hosts := rfl
@[simp] theorem State.disarmAll_funcs (s : State) (p₀ : Timer → Bool) : (s.disarmAll p₀).funcs = s.funcs := rfl
@[simp] theorem State.disarmAll_txns (s : State) (p₀ : Timer → Bool) : (s.disarmAll p₀).txns = s.txns := rfl
@[simp] theorem State.disarmAll_commits (s : State) (p₀ : Timer → Bool) : (s.disarmAll p₀).commits = s.commits := rfl
@[simp] theorem State.disarmAll_ports (s : State) (p₀ : Timer → Bool) : (s.disarmAll p₀).ports = s.ports := rfl
@[simp] theorem State.disarmAll_lanes (s : State) (p₀ : Timer → Bool) : (s.disarmAll p₀).lanes = s.lanes := rfl
@[simp] theorem State.disarmAll_queues (s : State) (p₀ : Timer → Bool) : (s.disarmAll p₀).queues = s.queues := rfl
@[simp] theorem State.disarmAll_engines (s : State) (p₀ : Timer → Bool) : (s.disarmAll p₀).engines = s.engines := rfl
@[simp] theorem State.disarmAll_pegs (s : State) (p₀ : Timer → Bool) : (s.disarmAll p₀).pegs = s.pegs := rfl
@[simp] theorem State.disarmAll_vecs (s : State) (p₀ : Timer → Bool) : (s.disarmAll p₀).vecs = s.vecs := rfl
@[simp] theorem State.disarmAll_freed (s : State) (p₀ : Timer → Bool) : (s.disarmAll p₀).freed = s.freed := rfl
@[simp] theorem State.disarmAll_brace (s : State) (p₀ : Timer → Bool) : (s.disarmAll p₀).brace = s.brace := rfl
@[simp] theorem State.disarmAll_ridge (s : State) (p₀ : Timer → Bool) : (s.disarmAll p₀).ridge = s.ridge := rfl
@[simp] theorem State.disarmAll_plumb (s : State) (p₀ : Timer → Bool) : (s.disarmAll p₀).plumb = s.plumb := rfl
@[simp] theorem State.disarmAll_scribe (s : State) (p₀ : Timer → Bool) : (s.disarmAll p₀).scribe = s.scribe := rfl
@[simp] theorem State.disarmAll_pins (s : State) (p₀ : Timer → Bool) : (s.disarmAll p₀).pins = s.pins := rfl
@[simp] theorem State.disarmAll_restore (s : State) (p₀ : Timer → Bool) : (s.disarmAll p₀).restore = s.restore := rfl
@[simp] theorem State.disarmAll_plankGen (s : State) (p₀ : Timer → Bool) : (s.disarmAll p₀).plankGen = s.plankGen := rfl
@[simp] theorem State.disarmAll_plankTime (s : State) (p₀ : Timer → Bool) : (s.disarmAll p₀).plankTime = s.plankTime := rfl
@[simp] theorem State.disarmAll_planks (s : State) (p₀ : Timer → Bool) : (s.disarmAll p₀).planks = s.planks := rfl
@[simp] theorem State.disarmAll_served (s : State) (p₀ : Timer → Bool) : (s.disarmAll p₀).served = s.served := rfl
@[simp] theorem State.disarmAll_waking (s : State) (p₀ : Timer → Bool) : (s.disarmAll p₀).waking = s.waking := rfl
@[simp] theorem State.disarmAll_warm (s : State) (p₀ : Timer → Bool) : (s.disarmAll p₀).warm = s.warm := rfl
@[simp] theorem State.disarmAll_damaged (s : State) (p₀ : Timer → Bool) : (s.disarmAll p₀).damaged = s.damaged := rfl
@[simp] theorem State.disarmAll_scrubAt (s : State) (p₀ : Timer → Bool) : (s.disarmAll p₀).scrubAt = s.scrubAt := rfl
@[simp] theorem State.disarmAll_ring (s : State) (p₀ : Timer → Bool) : (s.disarmAll p₀).ring = s.ring := rfl
@[simp] theorem State.disarmAll_nextId (s : State) (p₀ : Timer → Bool) : (s.disarmAll p₀).nextId = s.nextId := rfl
@[simp] theorem State.disarmAll_freeCtr (s : State) (p₀ : Timer → Bool) : (s.disarmAll p₀).freeCtr = s.freeCtr := rfl
@[simp] theorem State.disarmAll_sent (s : State) (p₀ : Timer → Bool) : (s.disarmAll p₀).sent = s.sent := rfl
@[simp] theorem State.disarmAll_word (s : State) (p₀ : Timer → Bool) (k : RegKind) (i : Nat) : (s.disarmAll p₀).word k i = s.word k i := rfl
@[simp] theorem State.disarmAll_get (s : State) (p₀ : Timer → Bool) (F : Fld) (i : Nat) : (s.disarmAll p₀).get F i = s.get F i := rfl
@[simp] theorem State.disarmAll_on (s : State) (p₀ : Timer → Bool) (F : Fld) (i : Nat) : (s.disarmAll p₀).on F i = s.on F i := rfl
@[simp] theorem State.disarmAll_region (s : State) (p₀ : Timer → Bool) (r : Nat) : (s.disarmAll p₀).region r = s.region r := rfl
@[simp] theorem State.disarmAll_cfgWord (s : State) (p₀ : Timer → Bool) (f o : Nat) : (s.disarmAll p₀).cfgWord f o = s.cfgWord f o := rfl
@[simp] theorem State.disarmAll_cfgGet (s : State) (p₀ : Timer → Bool) (f o lo len : Nat) : (s.disarmAll p₀).cfgGet f o lo len = s.cfgGet f o lo len := rfl
@[simp] theorem State.disarmAll_cfgBit (s : State) (p₀ : Timer → Bool) (f o i : Nat) : (s.disarmAll p₀).cfgBit f o i = s.cfgBit f o i := rfl
@[simp] theorem State.disarmAll_msixWord (s : State) (p₀ : Timer → Bool) (f e j : Nat) : (s.disarmAll p₀).msixWord f e j = s.msixWord f e j := rfl
@[simp] theorem State.disarmAll_host (s : State) (p₀ : Timer → Bool) (h : Nat) : (s.disarmAll p₀).host h = s.host h := rfl
@[simp] theorem State.disarmAll_func (s : State) (p₀ : Timer → Bool) (f : Nat) : (s.disarmAll p₀).func f = s.func f := rfl
@[simp] theorem State.disarmAll_txn (s : State) (p₀ : Timer → Bool) (c : Nat) : (s.disarmAll p₀).txn c = s.txn c := rfl
@[simp] theorem State.disarmAll_port (s : State) (p₀ : Timer → Bool) (p : Nat) : (s.disarmAll p₀).port p = s.port p := rfl
@[simp] theorem State.disarmAll_lane (s : State) (p₀ : Timer → Bool) (l : Nat) : (s.disarmAll p₀).lane l = s.lane l := rfl
@[simp] theorem State.disarmAll_queue (s : State) (p₀ : Timer → Bool) (q : Nat) : (s.disarmAll p₀).queue q = s.queue q := rfl
@[simp] theorem State.disarmAll_eng (s : State) (p₀ : Timer → Bool) (e : Nat) : (s.disarmAll p₀).eng e = s.eng e := rfl
@[simp] theorem State.disarmAll_peg (s : State) (p₀ : Timer → Bool) (i : Nat) : (s.disarmAll p₀).peg i = s.peg i := rfl
@[simp] theorem State.disarmAll_ctr (s : State) (p₀ : Timer → Bool) (o : Nat) : (s.disarmAll p₀).ctr o = s.ctr o := rfl
@[simp] theorem State.disarmAll_isUp (s : State) (p₀ : Timer → Bool) : (s.disarmAll p₀).isUp = s.isUp := rfl
@[simp] theorem State.disarmAll_powered (s : State) (p₀ : Timer → Bool) : (s.disarmAll p₀).powered = s.powered := rfl

@[simp] theorem State.arm_pending (s : State) (t₀ : Timer) (dt₀ : Nat) : (s.arm t₀ dt₀).pending = s.pending := rfl
@[simp] theorem State.arm_phase (s : State) (t₀ : Timer) (dt₀ : Nat) : (s.arm t₀ dt₀).phase = s.phase := rfl
@[simp] theorem State.arm_clock (s : State) (t₀ : Timer) (dt₀ : Nat) : (s.arm t₀ dt₀).clock = s.clock := rfl
@[simp] theorem State.arm_devtime (s : State) (t₀ : Timer) (dt₀ : Nat) : (s.arm t₀ dt₀).devtime = s.devtime := rfl
@[simp] theorem State.arm_slew (s : State) (t₀ : Timer) (dt₀ : Nat) : (s.arm t₀ dt₀).slew = s.slew := rfl
@[simp] theorem State.arm_slewFrac (s : State) (t₀ : Timer) (dt₀ : Nat) : (s.arm t₀ dt₀).slewFrac = s.slewFrac := rfl
@[simp] theorem State.arm_regs (s : State) (t₀ : Timer) (dt₀ : Nat) : (s.arm t₀ dt₀).regs = s.regs := rfl
@[simp] theorem State.arm_ctrs (s : State) (t₀ : Timer) (dt₀ : Nat) : (s.arm t₀ dt₀).ctrs = s.ctrs := rfl
@[simp] theorem State.arm_bankA (s : State) (t₀ : Timer) (dt₀ : Nat) : (s.arm t₀ dt₀).bankA = s.bankA := rfl
@[simp] theorem State.arm_bankB (s : State) (t₀ : Timer) (dt₀ : Nat) : (s.arm t₀ dt₀).bankB = s.bankB := rfl
@[simp] theorem State.arm_cfg (s : State) (t₀ : Timer) (dt₀ : Nat) : (s.arm t₀ dt₀).cfg = s.cfg := rfl
@[simp] theorem State.arm_msix (s : State) (t₀ : Timer) (dt₀ : Nat) : (s.arm t₀ dt₀).msix = s.msix := rfl
@[simp] theorem State.arm_pba (s : State) (t₀ : Timer) (dt₀ : Nat) : (s.arm t₀ dt₀).pba = s.pba := rfl
@[simp] theorem State.arm_fuses (s : State) (t₀ : Timer) (dt₀ : Nat) : (s.arm t₀ dt₀).fuses = s.fuses := rfl
@[simp] theorem State.arm_rss (s : State) (t₀ : Timer) (dt₀ : Nat) : (s.arm t₀ dt₀).rss = s.rss := rfl
@[simp] theorem State.arm_hosts (s : State) (t₀ : Timer) (dt₀ : Nat) : (s.arm t₀ dt₀).hosts = s.hosts := rfl
@[simp] theorem State.arm_funcs (s : State) (t₀ : Timer) (dt₀ : Nat) : (s.arm t₀ dt₀).funcs = s.funcs := rfl
@[simp] theorem State.arm_txns (s : State) (t₀ : Timer) (dt₀ : Nat) : (s.arm t₀ dt₀).txns = s.txns := rfl
@[simp] theorem State.arm_commits (s : State) (t₀ : Timer) (dt₀ : Nat) : (s.arm t₀ dt₀).commits = s.commits := rfl
@[simp] theorem State.arm_ports (s : State) (t₀ : Timer) (dt₀ : Nat) : (s.arm t₀ dt₀).ports = s.ports := rfl
@[simp] theorem State.arm_lanes (s : State) (t₀ : Timer) (dt₀ : Nat) : (s.arm t₀ dt₀).lanes = s.lanes := rfl
@[simp] theorem State.arm_queues (s : State) (t₀ : Timer) (dt₀ : Nat) : (s.arm t₀ dt₀).queues = s.queues := rfl
@[simp] theorem State.arm_engines (s : State) (t₀ : Timer) (dt₀ : Nat) : (s.arm t₀ dt₀).engines = s.engines := rfl
@[simp] theorem State.arm_pegs (s : State) (t₀ : Timer) (dt₀ : Nat) : (s.arm t₀ dt₀).pegs = s.pegs := rfl
@[simp] theorem State.arm_vecs (s : State) (t₀ : Timer) (dt₀ : Nat) : (s.arm t₀ dt₀).vecs = s.vecs := rfl
@[simp] theorem State.arm_freed (s : State) (t₀ : Timer) (dt₀ : Nat) : (s.arm t₀ dt₀).freed = s.freed := rfl
@[simp] theorem State.arm_brace (s : State) (t₀ : Timer) (dt₀ : Nat) : (s.arm t₀ dt₀).brace = s.brace := rfl
@[simp] theorem State.arm_ridge (s : State) (t₀ : Timer) (dt₀ : Nat) : (s.arm t₀ dt₀).ridge = s.ridge := rfl
@[simp] theorem State.arm_plumb (s : State) (t₀ : Timer) (dt₀ : Nat) : (s.arm t₀ dt₀).plumb = s.plumb := rfl
@[simp] theorem State.arm_scribe (s : State) (t₀ : Timer) (dt₀ : Nat) : (s.arm t₀ dt₀).scribe = s.scribe := rfl
@[simp] theorem State.arm_pins (s : State) (t₀ : Timer) (dt₀ : Nat) : (s.arm t₀ dt₀).pins = s.pins := rfl
@[simp] theorem State.arm_restore (s : State) (t₀ : Timer) (dt₀ : Nat) : (s.arm t₀ dt₀).restore = s.restore := rfl
@[simp] theorem State.arm_plankGen (s : State) (t₀ : Timer) (dt₀ : Nat) : (s.arm t₀ dt₀).plankGen = s.plankGen := rfl
@[simp] theorem State.arm_plankTime (s : State) (t₀ : Timer) (dt₀ : Nat) : (s.arm t₀ dt₀).plankTime = s.plankTime := rfl
@[simp] theorem State.arm_planks (s : State) (t₀ : Timer) (dt₀ : Nat) : (s.arm t₀ dt₀).planks = s.planks := rfl
@[simp] theorem State.arm_served (s : State) (t₀ : Timer) (dt₀ : Nat) : (s.arm t₀ dt₀).served = s.served := rfl
@[simp] theorem State.arm_waking (s : State) (t₀ : Timer) (dt₀ : Nat) : (s.arm t₀ dt₀).waking = s.waking := rfl
@[simp] theorem State.arm_warm (s : State) (t₀ : Timer) (dt₀ : Nat) : (s.arm t₀ dt₀).warm = s.warm := rfl
@[simp] theorem State.arm_damaged (s : State) (t₀ : Timer) (dt₀ : Nat) : (s.arm t₀ dt₀).damaged = s.damaged := rfl
@[simp] theorem State.arm_scrubAt (s : State) (t₀ : Timer) (dt₀ : Nat) : (s.arm t₀ dt₀).scrubAt = s.scrubAt := rfl
@[simp] theorem State.arm_ring (s : State) (t₀ : Timer) (dt₀ : Nat) : (s.arm t₀ dt₀).ring = s.ring := rfl
@[simp] theorem State.arm_nextId (s : State) (t₀ : Timer) (dt₀ : Nat) : (s.arm t₀ dt₀).nextId = s.nextId := rfl
@[simp] theorem State.arm_freeCtr (s : State) (t₀ : Timer) (dt₀ : Nat) : (s.arm t₀ dt₀).freeCtr = s.freeCtr := rfl
@[simp] theorem State.arm_sent (s : State) (t₀ : Timer) (dt₀ : Nat) : (s.arm t₀ dt₀).sent = s.sent := rfl
@[simp] theorem State.arm_word (s : State) (t₀ : Timer) (dt₀ : Nat) (k : RegKind) (i : Nat) : (s.arm t₀ dt₀).word k i = s.word k i := rfl
@[simp] theorem State.arm_get (s : State) (t₀ : Timer) (dt₀ : Nat) (F : Fld) (i : Nat) : (s.arm t₀ dt₀).get F i = s.get F i := rfl
@[simp] theorem State.arm_on (s : State) (t₀ : Timer) (dt₀ : Nat) (F : Fld) (i : Nat) : (s.arm t₀ dt₀).on F i = s.on F i := rfl
@[simp] theorem State.arm_region (s : State) (t₀ : Timer) (dt₀ : Nat) (r : Nat) : (s.arm t₀ dt₀).region r = s.region r := rfl
@[simp] theorem State.arm_cfgWord (s : State) (t₀ : Timer) (dt₀ : Nat) (f o : Nat) : (s.arm t₀ dt₀).cfgWord f o = s.cfgWord f o := rfl
@[simp] theorem State.arm_cfgGet (s : State) (t₀ : Timer) (dt₀ : Nat) (f o lo len : Nat) : (s.arm t₀ dt₀).cfgGet f o lo len = s.cfgGet f o lo len := rfl
@[simp] theorem State.arm_cfgBit (s : State) (t₀ : Timer) (dt₀ : Nat) (f o i : Nat) : (s.arm t₀ dt₀).cfgBit f o i = s.cfgBit f o i := rfl
@[simp] theorem State.arm_msixWord (s : State) (t₀ : Timer) (dt₀ : Nat) (f e j : Nat) : (s.arm t₀ dt₀).msixWord f e j = s.msixWord f e j := rfl
@[simp] theorem State.arm_host (s : State) (t₀ : Timer) (dt₀ : Nat) (h : Nat) : (s.arm t₀ dt₀).host h = s.host h := rfl
@[simp] theorem State.arm_func (s : State) (t₀ : Timer) (dt₀ : Nat) (f : Nat) : (s.arm t₀ dt₀).func f = s.func f := rfl
@[simp] theorem State.arm_txn (s : State) (t₀ : Timer) (dt₀ : Nat) (c : Nat) : (s.arm t₀ dt₀).txn c = s.txn c := rfl
@[simp] theorem State.arm_port (s : State) (t₀ : Timer) (dt₀ : Nat) (p : Nat) : (s.arm t₀ dt₀).port p = s.port p := rfl
@[simp] theorem State.arm_lane (s : State) (t₀ : Timer) (dt₀ : Nat) (l : Nat) : (s.arm t₀ dt₀).lane l = s.lane l := rfl
@[simp] theorem State.arm_queue (s : State) (t₀ : Timer) (dt₀ : Nat) (q : Nat) : (s.arm t₀ dt₀).queue q = s.queue q := rfl
@[simp] theorem State.arm_eng (s : State) (t₀ : Timer) (dt₀ : Nat) (e : Nat) : (s.arm t₀ dt₀).eng e = s.eng e := rfl
@[simp] theorem State.arm_peg (s : State) (t₀ : Timer) (dt₀ : Nat) (i : Nat) : (s.arm t₀ dt₀).peg i = s.peg i := rfl
@[simp] theorem State.arm_ctr (s : State) (t₀ : Timer) (dt₀ : Nat) (o : Nat) : (s.arm t₀ dt₀).ctr o = s.ctr o := rfl
@[simp] theorem State.arm_isUp (s : State) (t₀ : Timer) (dt₀ : Nat) : (s.arm t₀ dt₀).isUp = s.isUp := rfl
@[simp] theorem State.arm_powered (s : State) (t₀ : Timer) (dt₀ : Nat) : (s.arm t₀ dt₀).powered = s.powered := rfl

@[simp] theorem State.advance_pending (s : State) (dt₀ : Nat) : (s.advance dt₀).pending = s.pending := rfl
@[simp] theorem State.advance_phase (s : State) (dt₀ : Nat) : (s.advance dt₀).phase = s.phase := rfl
@[simp] theorem State.advance_regs (s : State) (dt₀ : Nat) : (s.advance dt₀).regs = s.regs := rfl
@[simp] theorem State.advance_ctrs (s : State) (dt₀ : Nat) : (s.advance dt₀).ctrs = s.ctrs := rfl
@[simp] theorem State.advance_bankA (s : State) (dt₀ : Nat) : (s.advance dt₀).bankA = s.bankA := rfl
@[simp] theorem State.advance_bankB (s : State) (dt₀ : Nat) : (s.advance dt₀).bankB = s.bankB := rfl
@[simp] theorem State.advance_cfg (s : State) (dt₀ : Nat) : (s.advance dt₀).cfg = s.cfg := rfl
@[simp] theorem State.advance_msix (s : State) (dt₀ : Nat) : (s.advance dt₀).msix = s.msix := rfl
@[simp] theorem State.advance_pba (s : State) (dt₀ : Nat) : (s.advance dt₀).pba = s.pba := rfl
@[simp] theorem State.advance_fuses (s : State) (dt₀ : Nat) : (s.advance dt₀).fuses = s.fuses := rfl
@[simp] theorem State.advance_timers (s : State) (dt₀ : Nat) : (s.advance dt₀).timers = s.timers := rfl
@[simp] theorem State.advance_hosts (s : State) (dt₀ : Nat) : (s.advance dt₀).hosts = s.hosts := rfl
@[simp] theorem State.advance_funcs (s : State) (dt₀ : Nat) : (s.advance dt₀).funcs = s.funcs := rfl
@[simp] theorem State.advance_txns (s : State) (dt₀ : Nat) : (s.advance dt₀).txns = s.txns := rfl
@[simp] theorem State.advance_commits (s : State) (dt₀ : Nat) : (s.advance dt₀).commits = s.commits := rfl
@[simp] theorem State.advance_ports (s : State) (dt₀ : Nat) : (s.advance dt₀).ports = s.ports := rfl
@[simp] theorem State.advance_lanes (s : State) (dt₀ : Nat) : (s.advance dt₀).lanes = s.lanes := rfl
@[simp] theorem State.advance_queues (s : State) (dt₀ : Nat) : (s.advance dt₀).queues = s.queues := rfl
@[simp] theorem State.advance_engines (s : State) (dt₀ : Nat) : (s.advance dt₀).engines = s.engines := rfl
@[simp] theorem State.advance_pegs (s : State) (dt₀ : Nat) : (s.advance dt₀).pegs = s.pegs := rfl
@[simp] theorem State.advance_vecs (s : State) (dt₀ : Nat) : (s.advance dt₀).vecs = s.vecs := rfl
@[simp] theorem State.advance_freed (s : State) (dt₀ : Nat) : (s.advance dt₀).freed = s.freed := rfl
@[simp] theorem State.advance_brace (s : State) (dt₀ : Nat) : (s.advance dt₀).brace = s.brace := rfl
@[simp] theorem State.advance_ridge (s : State) (dt₀ : Nat) : (s.advance dt₀).ridge = s.ridge := rfl
@[simp] theorem State.advance_plumb (s : State) (dt₀ : Nat) : (s.advance dt₀).plumb = s.plumb := rfl
@[simp] theorem State.advance_scribe (s : State) (dt₀ : Nat) : (s.advance dt₀).scribe = s.scribe := rfl
@[simp] theorem State.advance_pins (s : State) (dt₀ : Nat) : (s.advance dt₀).pins = s.pins := rfl
@[simp] theorem State.advance_restore (s : State) (dt₀ : Nat) : (s.advance dt₀).restore = s.restore := rfl
@[simp] theorem State.advance_plankGen (s : State) (dt₀ : Nat) : (s.advance dt₀).plankGen = s.plankGen := rfl
@[simp] theorem State.advance_plankTime (s : State) (dt₀ : Nat) : (s.advance dt₀).plankTime = s.plankTime := rfl
@[simp] theorem State.advance_planks (s : State) (dt₀ : Nat) : (s.advance dt₀).planks = s.planks := rfl
@[simp] theorem State.advance_served (s : State) (dt₀ : Nat) : (s.advance dt₀).served = s.served := rfl
@[simp] theorem State.advance_waking (s : State) (dt₀ : Nat) : (s.advance dt₀).waking = s.waking := rfl
@[simp] theorem State.advance_warm (s : State) (dt₀ : Nat) : (s.advance dt₀).warm = s.warm := rfl
@[simp] theorem State.advance_damaged (s : State) (dt₀ : Nat) : (s.advance dt₀).damaged = s.damaged := rfl
@[simp] theorem State.advance_scrubAt (s : State) (dt₀ : Nat) : (s.advance dt₀).scrubAt = s.scrubAt := rfl
@[simp] theorem State.advance_ring (s : State) (dt₀ : Nat) : (s.advance dt₀).ring = s.ring := rfl
@[simp] theorem State.advance_nextId (s : State) (dt₀ : Nat) : (s.advance dt₀).nextId = s.nextId := rfl
@[simp] theorem State.advance_freeCtr (s : State) (dt₀ : Nat) : (s.advance dt₀).freeCtr = s.freeCtr := rfl
@[simp] theorem State.advance_sent (s : State) (dt₀ : Nat) : (s.advance dt₀).sent = s.sent := rfl
@[simp] theorem State.advance_word (s : State) (dt₀ : Nat) (k : RegKind) (i : Nat) : (s.advance dt₀).word k i = s.word k i := rfl
@[simp] theorem State.advance_get (s : State) (dt₀ : Nat) (F : Fld) (i : Nat) : (s.advance dt₀).get F i = s.get F i := rfl
@[simp] theorem State.advance_on (s : State) (dt₀ : Nat) (F : Fld) (i : Nat) : (s.advance dt₀).on F i = s.on F i := rfl
@[simp] theorem State.advance_region (s : State) (dt₀ : Nat) (r : Nat) : (s.advance dt₀).region r = s.region r := rfl
@[simp] theorem State.advance_cfgWord (s : State) (dt₀ : Nat) (f o : Nat) : (s.advance dt₀).cfgWord f o = s.cfgWord f o := rfl
@[simp] theorem State.advance_cfgGet (s : State) (dt₀ : Nat) (f o lo len : Nat) : (s.advance dt₀).cfgGet f o lo len = s.cfgGet f o lo len := rfl
@[simp] theorem State.advance_cfgBit (s : State) (dt₀ : Nat) (f o i : Nat) : (s.advance dt₀).cfgBit f o i = s.cfgBit f o i := rfl
@[simp] theorem State.advance_msixWord (s : State) (dt₀ : Nat) (f e j : Nat) : (s.advance dt₀).msixWord f e j = s.msixWord f e j := rfl
@[simp] theorem State.advance_host (s : State) (dt₀ : Nat) (h : Nat) : (s.advance dt₀).host h = s.host h := rfl
@[simp] theorem State.advance_func (s : State) (dt₀ : Nat) (f : Nat) : (s.advance dt₀).func f = s.func f := rfl
@[simp] theorem State.advance_txn (s : State) (dt₀ : Nat) (c : Nat) : (s.advance dt₀).txn c = s.txn c := rfl
@[simp] theorem State.advance_port (s : State) (dt₀ : Nat) (p : Nat) : (s.advance dt₀).port p = s.port p := rfl
@[simp] theorem State.advance_lane (s : State) (dt₀ : Nat) (l : Nat) : (s.advance dt₀).lane l = s.lane l := rfl
@[simp] theorem State.advance_queue (s : State) (dt₀ : Nat) (q : Nat) : (s.advance dt₀).queue q = s.queue q := rfl
@[simp] theorem State.advance_eng (s : State) (dt₀ : Nat) (e : Nat) : (s.advance dt₀).eng e = s.eng e := rfl
@[simp] theorem State.advance_peg (s : State) (dt₀ : Nat) (i : Nat) : (s.advance dt₀).peg i = s.peg i := rfl
@[simp] theorem State.advance_ctr (s : State) (dt₀ : Nat) (o : Nat) : (s.advance dt₀).ctr o = s.ctr o := rfl
@[simp] theorem State.advance_due (s : State) (dt₀ : Nat) (t : Timer) : (s.advance dt₀).due t = s.due t := rfl
@[simp] theorem State.advance_armed (s : State) (dt₀ : Nat) (t : Timer) : (s.advance dt₀).armed t = s.armed t := rfl
@[simp] theorem State.advance_isUp (s : State) (dt₀ : Nat) : (s.advance dt₀).isUp = s.isUp := rfl
@[simp] theorem State.advance_powered (s : State) (dt₀ : Nat) : (s.advance dt₀).powered = s.powered := rfl

end Sys2Proof.Machine
end

