-- ==== Sys2Proof/Laws/Complete.lean ====
section
/-! SUPPORT. Lemmas for statements of what a command completes with: from a mask to lists of kinds and areas, a register
write that takes effect at once, and Plumb instructions within a pass. -/

namespace Sys2Proof.Machine

/-! ### From a mask to lists -/

/-- Mask of some kinds and areas. -/
def listMask (ks : List RegKind) (ps : List Area) : Nat :=
  ps.foldl (fun m a => m ||| a.bit) (ks.foldl (fun m k => m ||| k.bit) 0)

theorem foldl_or_testBit {α : Type} (g : α → Nat) (i : Nat) (xs : List α) (m : Nat) :
    (xs.foldl (fun m a => m ||| g a) m).testBit i = (m.testBit i || xs.any (fun a => (g a).testBit i)) := by
  induction xs generalizing m with
  | nil => simp
  | cons x xs ih => simp [ih, Nat.testBit_or, Bool.or_assoc]

theorem RegKind.code_area (k : RegKind) : k.code < 160 := by cases k <;> decide

theorem Area.code_inj {a b : Area} (h : a.code = b.code) : a = b := by
  cases a <;> cases b <;> first | rfl | (exact absurd h (by decide))

theorem listMask_kind {ks : List RegKind} {ps : List Area} {k : RegKind} (h : k ∉ ks) :
    (listMask ks ps).testBit k.code = false := by
  have hp : ∀ a ∈ ps, a.bit.testBit k.code = false := fun a _ => by
    have := RegKind.code_area k
    exact Nat.testBit_two_pow_of_ne (by omega)
  have hk : ∀ x ∈ ks, x.bit.testBit k.code = false := fun x hx => by
    refine Nat.testBit_two_pow_of_ne (fun e => ?_)
    exact h (by rw [← RegKind.code_inj e]; exact hx)
  simp only [listMask, foldl_or_testBit, Nat.zero_testBit, Bool.false_or, Bool.or_eq_false_iff, List.any_eq_false]
  exact ⟨fun x hx => by simp [hk x hx], fun a ha => by simp [hp a ha]⟩

theorem listMask_area {ks : List RegKind} {ps : List Area} {a : Area} (h : a ∉ ps) :
    (listMask ks ps).testBit (160 + a.code) = false := by
  have hk : ∀ x ∈ ks, x.bit.testBit (160 + a.code) = false := fun x _ => by
    have := RegKind.code_area x
    exact Nat.testBit_two_pow_of_ne (by omega)
  have hp : ∀ x ∈ ps, x.bit.testBit (160 + a.code) = false := fun x hx => by
    refine Nat.testBit_two_pow_of_ne (fun e => ?_)
    have : x = a := Area.code_inj (by omega)
    exact h (by rw [← this]; exact hx)
  simp only [listMask, foldl_or_testBit, Nat.zero_testBit, Bool.false_or, Bool.or_eq_false_iff, List.any_eq_false]
  exact ⟨fun x hx => by simp [hk x hx], fun x hx => by simp [hp x hx]⟩

/-- What stays within a mask of the lists changes only what the lists name. -/
theorem State.Within.only {ks : List RegKind} {ps : List Area} {s t : State} (h : State.Within (listMask ks ps) s t) :
    State.Only ks ps s t :=
  ⟨fun k hk => h.words k (listMask_kind hk), fun a ha => h.areas a (listMask_area ha)⟩

/-! ### A register write that takes effect at once -/

theorem State.leaveL1_awake {s : State} {h : Nat} (hp : s.get HP_LINK_STATUS.pm_state h ≠ 2) : s.leaveL1 h = s := by
  simp [State.leaveL1, hp]

theorem State.arrive_awake {s : State} {a : Agent} (h : ∀ f, a = .fn f → s.get HP_LINK_STATUS.pm_state (fnPort f) ≠ 2) :
    s.arrive a = s := by
  cases a with
  | fn f => exact State.leaveL1_awake (h f rfl)
  | ridge => rfl

theorem State.steady_run {s : State} {r : Nat} (h : s.steady r = true) : s.region r = 0 := by
  simp only [State.steady, Bool.and_eq_true, decide_eq_true_eq] at h
  exact h.1

/-- An access to a steady region wakes nothing. -/
theorem State.steady_wake {s : State} {r : Nat} (h : s.steady r = true) : s.wakeRegion r = s := by
  have hr := State.steady_run h
  simp only [State.steady, Bool.and_eq_true, Bool.not_eq_true'] at h
  simp only [State.wakeRegion, State.keepAwake, hr, h.2, Bool.false_eq_true, if_false, ite_self]

/-- A named write whose way is clear is the write itself. -/
theorem State.Writable.writeAs {s : State} {a : Agent} {k : RegKind} {i : Nat} (h : s.Writable a k i) (v m : Word) :
    s.writeAs a k i v m = s.writeReg a k i v m := by
  have hr : s.ring.any (fun y => y.master == (RingAccess.named (partRegion ⟨k, i, 0⟩) a k i v m).master) = false := by
    simp only [List.any_eq_false, beq_iff_eq]
    exact fun x hx => h.first x hx
  unfold State.writeAs
  simp only [h.reaches, State.arrive_awake h.awake, State.submit, RingAccess.region, hr, State.steady_wake h.running, State.asleep,
    State.open_, State.steady_run h.running, State.perform, h.granted]
  rfl

theorem State.Writable.writeField {s : State} {a : Agent} {F : Fld} {i : Nat} (h : s.Writable a F.reg i) (v : Nat) :
    s.writeField a F i v = s.writeReg a F.reg i (setBits 0 F.lo F.len v) (maskBits F.lo F.len) :=
  h.writeAs _ _

/-! ### Plumb -/

/-- What Plumb does to its own data touches nothing else. -/
theorem State.modPlumb_only (s : State) (g : PlumbDyn → PlumbDyn) : State.Only [] [.plumb] s (s.modPlumb g) :=
  ⟨fun _ _ _ => rfl, fun a ha => by
    cases a <;> first | rfl | exact ⟨rfl, rfl⟩ | exact ⟨rfl, rfl, rfl⟩ | exact ⟨rfl, rfl, rfl, rfl⟩ |
      (exfalso; exact ha (by decide))⟩

/-- An instruction in a pass runs and is counted. -/
theorem State.passRuns.step {s : State} (h : s.passRuns) (g : State → State) :
    s.plumbStep g = g (s.modPlumb (fun p => { p with count := p.count + 1, ended := p.ended || decide (256 ≤ p.count + 1) })) := by
  obtain ⟨h1, h2, h3⟩ := h
  unfold State.plumbStep
  simp [h1, h2, h3, State.countInstr]

/-- A defined instruction in a pass acts on Plumb's data. -/
theorem State.passRuns.exec {s : State} (h : s.passRuns) (g : PlumbDyn → PlumbDyn) :
    s.plumbExec true g =
      s.modPlumb (fun p => g { p with count := p.count + 1, ended := p.ended || decide (256 ≤ p.count + 1) }) := by
  unfold State.plumbExec
  rw [h.step]
  simp [State.modPlumb]

@[simp] theorem PlumbDyn.setCell_cell_self (p : PlumbDyn) (c : Nat) (v : Dword) : (p.setCell c v).cell c = v :=
  Tbl.get_set_self _ _ _ _

theorem PlumbDyn.setCell_cell_ne (p : PlumbDyn) {c e : Nat} {v : Dword} (h : e ≠ c) : (p.setCell c v).cell e = p.cell e :=
  Tbl.get_set_ne _ _ _ _ h

@[simp] theorem PlumbDyn.setW_w_self (p : PlumbDyn) (i : Nat) (v : Dword) : (p.setW i v).w i = v := Tbl.get_set_self _ _ _ _

theorem PlumbDyn.setW_w_ne (p : PlumbDyn) {i j : Nat} {v : Dword} (h : j ≠ i) : (p.setW i v).w j = p.w j :=
  Tbl.get_set_ne _ _ _ _ h

end Sys2Proof.Machine
end

