-- ==== Sys2Proof/Laws/FollowsFaults.lean ====
section
/-! SUPPORT. What the operations of counters of faults, the history, lanes, arbitration, host egress and interrupts keep (State.Follows): one lemma
per operation. -/

namespace Sys2Proof.Machine

set_option linter.all false
set_option Elab.async false

theorem State.setRegion_follows {s₀ s : State} (hf : s₀.Follows s) (r : Nat) (v : Nat) : s₀.Follows (State.setRegion s
    r v) := by
  unfold State.setRegion
  repeat' first
    | with_reducible assumption | (intro _) | with_reducible apply State.setBayState_follows
    | with_reducible apply State.setEgState_follows | with_reducible apply State.setTsState_follows
    | with_reducible apply State.put_follows | with_reducible apply State.setHcrState_follows
    | with_reducible apply State.setHmdState_follows | with_reducible apply State.Follows.ite | split | dsimp only

theorem State.keepAwake_follows {s₀ s : State} (hf : s₀.Follows s) (r : Nat) : s₀.Follows (State.keepAwake s r) := by
  unfold State.keepAwake
  repeat' first
    | with_reducible assumption | (intro _) | with_reducible apply State.modPlumb_follows
    | with_reducible apply State.Follows.ite | split | dsimp only

theorem State.wakeRegion_follows {s₀ s : State} (hf : s₀.Follows s) (r : Nat) : s₀.Follows (State.wakeRegion s r) :=
    by
  unfold State.wakeRegion
  repeat' first
    | with_reducible assumption | (intro _) | with_reducible apply State.keepAwake_follows
    | with_reducible apply State.setRegion_follows | with_reducible apply State.Follows.ite | split | dsimp only
  all_goals with_reducible apply State.Follows.other
  repeat' first
    | with_reducible assumption | (intro _) | with_reducible apply State.keepAwake_follows
    | with_reducible apply State.setRegion_follows | with_reducible apply State.Follows.ite | split | dsimp only

theorem State.zeroCtrs_follows {s₀ s : State} (hf : s₀.Follows s) (r : Nat) :
    s₀.Follows (State.zeroCtrs s r) := by
  unfold State.zeroCtrs
  exact hf.same rfl rfl rfl rfl (fun v => { v with ctrs := Tbl.wf_filter _ v.ctrs })

theorem State.resetPlain_follows {s₀ s : State} (hf : s₀.Follows s) (k : RegKind) (idx : Nat) : s₀.Follows
    (State.resetPlain s k idx) := by
  unfold State.resetPlain
  repeat' first
    | with_reducible assumption | (intro _) | with_reducible apply State.setWord_follows
    | with_reducible apply State.Follows.ite | split | dsimp only

theorem State.emitMsg_follows {s₀ s : State} (hf : s₀.Follows s) (h : Nat) (m : HostMsg) : s₀.Follows (State.emitMsg s
    h m) := by
  unfold State.emitMsg
  repeat' first
    | with_reducible assumption | (intro _) | with_reducible apply State.emit_follows
    | with_reducible apply State.Follows.ite | split | dsimp only

theorem State.errMessage_follows {s₀ s : State} (hf : s₀.Follows s) (f : Nat) (m : HostMsg) : s₀.Follows
    (State.errMessage s f m) := by
  unfold State.errMessage
  repeat' first
    | with_reducible assumption | (intro _) | with_reducible apply State.emitMsg_follows
    | with_reducible apply State.Follows.ite | split | dsimp only

theorem State.setStatus_follows {s₀ s : State} (hf : s₀.Follows s) (f : Nat) (b : Nat) : s₀.Follows (State.setStatus s
    f b) := by
  unfold State.setStatus
  repeat' first
    | with_reducible assumption | (intro _) | with_reducible apply State.cfgPut_follows
    | with_reducible apply State.Follows.ite | split | dsimp only

theorem State.sysError_follows {s₀ s : State} (hf : s₀.Follows s) (f : Nat) (m : HostMsg) : s₀.Follows (State.sysError
    s f m) := by
  unfold State.sysError
  repeat' first
    | with_reducible assumption | (intro _) | with_reducible apply State.setStatus_follows
    | with_reducible apply State.errMessage_follows | with_reducible apply State.Follows.ite | split | dsimp only

theorem State.aerUnc_follows {s₀ s : State} (hf : s₀.Follows s) (f : Nat) (b : Nat) (hdr : Option (List Dword)) (ur :
    Bool) : s₀.Follows (State.aerUnc s f b hdr ur) := by
  unfold State.aerUnc
  repeat' first
    | with_reducible assumption | (intro _) | with_reducible apply State.cfgPut_follows
    | with_reducible apply State.Follows.each | with_reducible apply State.setCfg_follows
    | with_reducible apply State.sysError_follows | with_reducible apply State.Follows.ite | split | dsimp only

theorem State.aerCor_follows {s₀ s : State} (hf : s₀.Follows s) (f : Nat) (b : Nat) : s₀.Follows (State.aerCor s f b)
    := by
  unfold State.aerCor
  repeat' first
    | with_reducible assumption | (intro _) | with_reducible apply State.cfgPut_follows
    | with_reducible apply State.errMessage_follows | with_reducible apply State.Follows.ite | split | dsimp only

theorem State.uie_follows {s₀ s : State} (hf : s₀.Follows s) (f : Nat) : s₀.Follows (State.uie s f) := by
  unfold State.uie
  repeat' first
    | with_reducible assumption | (intro _) | with_reducible apply State.aerUnc_follows
    | with_reducible apply State.Follows.ite | split | dsimp only

theorem State.cie_follows {s₀ s : State} (hf : s₀.Follows s) (f : Nat) : s₀.Follows (State.cie s f) := by
  unfold State.cie
  repeat' first
    | with_reducible assumption | (intro _) | with_reducible apply State.aerCor_follows
    | with_reducible apply State.Follows.ite | split | dsimp only

theorem State.reportAer_follows {s₀ s : State} (hf : s₀.Follows s) (n : Nat) (c : Nat) (kind : Nat) (inst : Nat)
    (halted : List Nat) (severe : Bool) : s₀.Follows (State.reportAer s n c kind inst halted severe) := by
  unfold State.reportAer
  repeat' first
    | with_reducible assumption | (intro _) | with_reducible apply State.uie_follows
    | with_reducible apply State.Follows.each | with_reducible apply State.cie_follows
    | with_reducible apply State.Follows.ite | split | dsimp only

theorem State.classify_follows {s₀ s : State} (hf : s₀.Follows s) (n : Nat) (c : Nat) (inst : Nat) : s₀.Follows
    (State.classify s n c inst).2 := by
  unfold State.classify
  repeat' first
    | with_reducible assumption | (intro _) | with_reducible apply State.modBrace_follows
    | with_reducible apply State.arm_follows | with_reducible apply State.Follows.ite | split | dsimp only

theorem State.forget_follows {s₀ s : State} (hf : s₀.Follows s) (p : Source → Bool) : s₀.Follows (State.forget s p) :=
    by
  unfold State.forget
  repeat' first
    | with_reducible assumption | (intro _) | with_reducible apply State.Follows.each
    | with_reducible apply State.disarm_follows | with_reducible apply State.modBrace_follows
    | with_reducible apply State.Follows.ite | split | dsimp only

theorem State.mergeHist_follows {s₀ s : State} (hf : s₀.Follows s) (k : Nat) : s₀.Follows (State.mergeHist s k) := by
  unfold State.mergeHist
  repeat' first
    | with_reducible assumption | (intro _) | with_reducible apply State.setWord_follows
    | with_reducible apply State.Follows.ite | split | dsimp only

theorem State.addHist_follows {s₀ s : State} (hf : s₀.Follows s) (n : Nat) (c : Nat) (cls : Nat) (kind : Nat) (inst :
    Nat) (queued : Bool) (locator : Word) (check : Word) : s₀.Follows (State.addHist s n c cls kind inst queued
    locator check).2 := by
  unfold State.addHist
  repeat' first
    | with_reducible assumption | (intro _) | with_reducible apply State.setWord_follows
    | with_reducible apply State.put_follows | with_reducible apply State.Follows.ite | split | dsimp only

theorem State.lightHist_follows {s₀ s : State} (hf : s₀.Follows s) (n : Nat) (c : Nat) (cls : Nat) (kind : Nat) (inst
    : Nat) (locator : Word) (check : Word) : s₀.Follows (State.lightHist s n c cls kind inst locator check) := by
  unfold State.lightHist
  repeat' first
    | with_reducible assumption | (intro _) | with_reducible apply State.mergeHist_follows
    | with_reducible apply State.addHist_follows | with_reducible refine State.Follows.pair (by assumption) ?_
    | with_reducible apply State.Follows.ite | split | dsimp only

theorem State.mergeDomain_follows {s₀ s : State} (hf : s₀.Follows s) (d : Nat) (severe : Bool) : s₀.Follows
    (State.mergeDomain s d severe) := by
  unfold State.mergeDomain
  repeat' first
    | with_reducible assumption | (intro _) | with_reducible apply State.mergeHist_follows
    | with_reducible apply State.put_follows | with_reducible apply State.flag_follows
    | with_reducible apply State.Follows.ite | split | dsimp only

theorem State.enqueueDomain_follows {s₀ s : State} (hf : s₀.Follows s) (d : Nat) (k : Nat) (seq : Nat) (severe : Bool)
    : s₀.Follows (State.enqueueDomain s d k seq severe) := by
  unfold State.enqueueDomain
  repeat' first
    | with_reducible assumption | (intro _) | with_reducible apply State.Follows.each
    | with_reducible apply State.setWord_follows | with_reducible apply State.put_follows
    | with_reducible apply State.flag_follows | with_reducible apply State.modBrace_follows
    | with_reducible apply State.Follows.ite | split | dsimp only

theorem State.setDetail_follows {s₀ s : State} (hf : s₀.Follows s) (n : Nat) (c : Nat) (severe : Bool) : s₀.Follows
    (State.setDetail s n c severe) := by
  unfold State.setDetail
  repeat' first
    | with_reducible assumption | (intro _) | with_reducible apply State.put_follows
    | with_reducible apply State.Follows.ite | split | dsimp only

theorem State.heavy_follows {s₀ s : State} (hf : s₀.Follows s) (n : Nat) (c : Nat) (kind : Nat) (inst : Nat) (halted :
    List Nat) (locator : Word) (check : Word) (severe : Bool) : s₀.Follows (State.heavy s n c kind inst halted locator
    check severe) := by
  unfold State.heavy
  repeat' first
    | with_reducible assumption | (intro _) | with_reducible apply State.setDetail_follows
    | with_reducible apply State.mergeDomain_follows | with_reducible apply State.addHist_follows
    | with_reducible apply State.reportAer_follows | with_reducible apply State.enqueueDomain_follows
    | with_reducible apply State.modBrace_follows | with_reducible apply State.put_follows
    | with_reducible refine State.Follows.pair (by assumption) ?_ | with_reducible apply State.Follows.ite | split
    | dsimp only

theorem State.reportIn_follows {s₀ s : State} (hf : s₀.Follows s) (n : Nat) (c : Nat) (kind : Nat) (inst : Nat)
    (halted : List Nat) (locator : Word) (check : Word) : s₀.Follows (State.reportIn s n c kind inst halted locator
    check) := by
  unfold State.reportIn
  repeat' first
    | with_reducible assumption | (intro _) | with_reducible apply State.wakeRegion_follows
    | with_reducible apply State.bump_follows | with_reducible apply State.lightHist_follows
    | with_reducible apply State.heavy_follows | with_reducible apply State.classify_follows
    | with_reducible refine State.Follows.pair (by assumption) ?_ | with_reducible apply State.Follows.ite | split
    | dsimp only

theorem State.report_follows {s₀ s : State} (hf : s₀.Follows s) (n : Nat) (c : Nat) (inst : Nat) (locator : Word)
    (check : Word) (halted : List Nat) : s₀.Follows (State.report s n c inst locator check halted) := by
  unfold State.report
  repeat' first
    | with_reducible assumption | (intro _) | with_reducible apply State.reportIn_follows
    | with_reducible apply State.Follows.ite | split | dsimp only

theorem State.drawSeeds_follows {s₀ s : State} (hf : s₀.Follows s) (l : Nat) : s₀.Follows (State.drawSeeds s l).2 :=
    by
  unfold State.drawSeeds
  repeat' first
    | with_reducible assumption | (intro _) | with_reducible apply State.freeWord_follows
    | with_reducible refine State.Follows.pair (by assumption) ?_ | with_reducible apply State.Follows.ite | split
    | dsimp only

theorem State.sendBits_follows {s₀ s : State} (hf : s₀.Follows s) (l : Nat) (bits : List Bool) : s₀.Follows
    (State.sendBits s l bits) := by
  unfold State.sendBits
  repeat' first
    | with_reducible assumption | (intro _) | with_reducible apply State.modLane_follows
    | with_reducible apply State.Follows.ite | split | dsimp only

theorem State.sendLine_follows {s₀ s : State} (hf : s₀.Follows s) (l : Nat) (bits : List Bool) : s₀.Follows
    (State.sendLine s l bits) := by
  unfold State.sendLine
  repeat' first
    | with_reducible assumption | (intro _) | with_reducible apply State.sendBits_follows
    | with_reducible apply State.emit_follows | with_reducible apply State.Follows.ite | split | dsimp only

theorem State.sendWords_follows {s₀ s : State} (hf : s₀.Follows s) (l : Nat) (ws : List (BitVec 128)) : s₀.Follows
    (State.sendWords s l ws) := by
  unfold State.sendWords
  repeat' first
    | with_reducible assumption | (intro _) | with_reducible apply State.sendLine_follows
    | with_reducible apply State.Follows.ite | split | dsimp only

theorem State.leaveIdle_follows {s₀ s : State} (hf : s₀.Follows s) (l : Nat) : s₀.Follows (State.leaveIdle s l) := by
  unfold State.leaveIdle
  repeat' first
    | with_reducible assumption | (intro _) | with_reducible apply State.modLane_follows
    | with_reducible apply State.Follows.ite | split | dsimp only

theorem State.putMarker_follows {s₀ s : State} (hf : s₀.Follows s) (l : Nat) (state : Nat) (count : Nat) (seed : Nat)
    (next : Nat) : s₀.Follows (State.putMarker s l state count seed next) := by
  unfold State.putMarker
  repeat' first
    | with_reducible assumption | (intro _) | with_reducible apply State.bump_follows
    | with_reducible apply State.modLane_follows | with_reducible apply State.sendBits_follows
    | with_reducible apply State.put_follows | with_reducible apply State.emit_follows
    | with_reducible apply State.Follows.ite | split | dsimp only

theorem State.sendMarker_follows {s₀ s : State} (hf : s₀.Follows s) (l : Nat) (state : Nat) : s₀.Follows
    (State.sendMarker s l state) := by
  unfold State.sendMarker
  repeat' first
    | with_reducible assumption | (intro _) | with_reducible apply State.drawSeeds_follows
    | with_reducible apply State.modLane_follows | with_reducible apply State.putMarker_follows
    | with_reducible refine State.Follows.pair (by assumption) ?_ | with_reducible apply State.Follows.ite | split
    | dsimp only

theorem State.endTraining_follows {s₀ s : State} (hf : s₀.Follows s) (l : Nat) : s₀.Follows (State.endTraining s l) :=
    by
  unfold State.endTraining
  repeat' first
    | with_reducible assumption | (intro _) | with_reducible apply State.sendWords_follows
    | with_reducible apply State.modLane_follows | with_reducible apply State.Follows.ite | split | dsimp only

theorem State.stopSending_follows {s₀ s : State} (hf : s₀.Follows s) (l : Nat) : s₀.Follows (State.stopSending s l) :=
    by
  unfold State.stopSending
  repeat' first
    | with_reducible assumption | (intro _) | with_reducible apply State.put_follows
    | with_reducible apply State.modLane_follows | with_reducible apply State.Follows.ite | split | dsimp only

theorem State.openActive_follows {s₀ s : State} (hf : s₀.Follows s) (l : Nat) (first : Nat) (mask : Nat) : s₀.Follows
    (State.openActive s l first mask) := by
  unfold State.openActive
  repeat' first
    | with_reducible assumption | (intro _) | with_reducible apply State.sendMarker_follows
    | with_reducible apply State.put_follows | with_reducible apply State.modLane_follows
    | with_reducible apply State.emit_follows | with_reducible apply State.Follows.ite | split | dsimp only

theorem State.bringUpLane_follows {s₀ s : State} (hf : s₀.Follows s) (l : Nat) : s₀.Follows (State.bringUpLane s l) :=
    by
  unfold State.bringUpLane
  repeat' first
    | with_reducible assumption | (intro _) | with_reducible apply State.put_follows
    | with_reducible apply State.modLane_follows | with_reducible apply State.Follows.ite | split | dsimp only

theorem State.stopLane_follows {s₀ s : State} (hf : s₀.Follows s) (state : Nat) (l : Nat) : s₀.Follows (State.stopLane
    s state l) := by
  unfold State.stopLane
  repeat' first
    | with_reducible assumption | (intro _) | with_reducible apply State.put_follows
    | with_reducible apply State.disarm_follows | with_reducible apply State.modLane_follows
    | with_reducible apply State.Follows.ite | split | dsimp only

theorem State.watchLock_follows {s₀ s : State} (hf : s₀.Follows s) (l : Nat) : s₀.Follows (State.watchLock s l) := by
  unfold State.watchLock
  repeat' first
    | with_reducible assumption | (intro _) | with_reducible apply State.armOnce_follows
    | with_reducible apply State.disarm_follows | with_reducible apply State.Follows.ite | split | dsimp only

theorem State.loseLock_follows {s₀ s : State} (hf : s₀.Follows s) (l : Nat) : s₀.Follows (State.loseLock s l) := by
  unfold State.loseLock
  repeat' first
    | with_reducible assumption | (intro _) | with_reducible apply State.put_follows
    | with_reducible apply State.bump_follows | with_reducible apply State.disarm_follows
    | with_reducible apply State.modLane_follows | with_reducible apply State.watchLock_follows
    | with_reducible apply State.Follows.ite | split | dsimp only

theorem State.searchAnew_follows {s₀ s : State} (hf : s₀.Follows s) (l : Nat) : s₀.Follows (State.searchAnew s l) :=
    by
  unfold State.searchAnew
  repeat' first
    | with_reducible assumption | (intro _) | with_reducible apply State.loseLock_follows
    | with_reducible apply State.modLane_follows | with_reducible apply State.Follows.ite | split | dsimp only

theorem State.alignLane_follows {s₀ s : State} (hf : s₀.Follows s) (l : Nat) (c : Nat) : s₀.Follows (State.alignLane s
    l c) := by
  unfold State.alignLane
  repeat' first
    | with_reducible assumption | (intro _) | with_reducible apply State.modLane_follows
    | with_reducible apply State.bump_follows | with_reducible apply State.Follows.each
    | with_reducible apply State.searchAnew_follows | with_reducible apply State.put_follows
    | with_reducible apply State.Follows.ite | split | dsimp only

theorem State.checkBits_follows {s₀ s : State} (hf : s₀.Follows s) (l : Nat) (bits : List Bool) : s₀.Follows
    (State.checkBits s l bits) := by
  unfold State.checkBits
  repeat' first
    | with_reducible assumption | (intro _) | with_reducible apply State.Follows.foldl
    | with_reducible apply State.bumpBy_follows | with_reducible apply State.put_follows
    | with_reducible apply State.flag_follows | with_reducible apply State.modLane_follows
    | with_reducible apply State.Follows.ite | split | dsimp only

theorem State.countPrbs_follows {s₀ s : State} (hf : s₀.Follows s) (l : Nat) : s₀.Follows (State.countPrbs s l) := by
  unfold State.countPrbs
  repeat' first
    | with_reducible assumption | (intro _) | with_reducible apply State.bumpBy_follows
    | with_reducible apply State.modLane_follows | with_reducible apply State.Follows.ite | split | dsimp only

theorem State.sleepBay_follows {s₀ s : State} (hf : s₀.Follows s) (b : Nat) : s₀.Follows (State.sleepBay s b) := by
  unfold State.sleepBay
  repeat' first
    | with_reducible assumption | (intro _) | with_reducible apply State.Follows.each
    | with_reducible apply State.countPrbs_follows | with_reducible apply State.modLane_follows
    | with_reducible apply State.setBayState_follows | with_reducible apply State.Follows.ite | split | dsimp only

theorem State.lanesRun_follows {s₀ s : State} (hf : s₀.Follows s) (b : Nat) : s₀.Follows (State.lanesRun s b) := by
  unfold State.lanesRun
  repeat' first
    | with_reducible assumption | (intro _) | with_reducible apply State.Follows.each
    | with_reducible apply State.modLane_follows | with_reducible apply State.put_follows
    | with_reducible apply State.Follows.ite | split | dsimp only

theorem State.clampKey_follows {s₀ s : State} (hf : s₀.Follows s) (f : Nat) (k : Nat) : s₀.Follows (State.clampKey s f
    k).2 := by
  unfold State.clampKey
  repeat' first
    | with_reducible assumption | (intro _) | with_reducible apply State.bump_follows
    | with_reducible apply State.Follows.ite | split | dsimp only

theorem State.lateArrival_follows {s₀ s : State} (hf : s₀.Follows s) (f : Nat) (k : Nat) : s₀.Follows
    (State.lateArrival s f k) := by
  unfold State.lateArrival
  repeat' first
    | with_reducible assumption | (intro _) | with_reducible apply State.bump_follows
    | with_reducible apply State.Follows.ite | split | dsimp only

theorem State.tagKey_follows {s₀ s : State} (hf : s₀.Follows s) (f : Nat) (k : Nat) : s₀.Follows (State.tagKey s f
    k).2 := by
  unfold State.tagKey
  repeat' first
    | with_reducible assumption | (intro _) | with_reducible apply State.clampKey_follows
    | with_reducible apply State.lateArrival_follows | with_reducible refine State.Follows.pair (by assumption) ?_
    | with_reducible apply State.Follows.ite | split | dsimp only

theorem State.keyFor_follows {s₀ s : State} (hf : s₀.Follows s) (f : Nat) (dl : Option Nat) : s₀.Follows (State.keyFor
    s f dl).2 := by
  unfold State.keyFor
  repeat' first
    | with_reducible assumption | (intro _) | with_reducible apply State.tagKey_follows
    | with_reducible refine State.Follows.pair (by assumption) ?_ | with_reducible apply State.Follows.ite | split
    | dsimp only

theorem State.missAt_follows {s₀ s : State} (hf : s₀.Follows s) (k : Nat) (f : Nat) (kind : Nat) (p : Nat) (v : Nat)
    (extra : List Nat) : s₀.Follows (State.missAt s k f kind p v extra) := by
  unfold State.missAt
  repeat' first
    | with_reducible assumption | (intro _) | with_reducible apply State.Follows.each
    | with_reducible apply State.bump_follows | with_reducible apply State.setWord_follows
    | with_reducible apply State.put_follows | with_reducible apply State.Follows.ite | split | dsimp only

theorem State.judgeHolds_follows {s₀ s : State} (hf : s₀.Follows s) (p : Nat) : s₀.Follows (State.judgeHolds s p) :=
    by
  unfold State.judgeHolds
  repeat' first
    | with_reducible assumption | (intro _) | with_reducible apply State.put_follows
    | with_reducible apply State.Follows.each | with_reducible apply State.flag_follows
    | with_reducible apply State.Follows.ite | split | dsimp only

theorem State.wakeSlices_follows {s₀ s : State} (hf : s₀.Follows s) (ts : List Nat) : s₀.Follows (State.wakeSlices s
    ts) := by
  unfold State.wakeSlices
  repeat' first
    | with_reducible assumption | (intro _) | with_reducible apply State.Follows.each
    | with_reducible apply State.wakeRegion_follows | with_reducible apply State.Follows.ite | split | dsimp only

theorem State.setIde_follows {s₀ s : State} (hf : s₀.Follows s) (h : Nat) (i : Nat) (x : IdeStream) : s₀.Follows
    (State.setIde s h i x) := by
  unfold State.setIde
  repeat' first
    | with_reducible assumption | (intro _) | with_reducible apply State.modHost_follows
    | with_reducible apply State.Follows.ite | split | dsimp only

theorem State.judgeKeys_follows {s₀ s : State} (hf : s₀.Follows s) (h : Nat) : s₀.Follows (State.judgeKeys s h) := by
  unfold State.judgeKeys
  repeat' first
    | with_reducible assumption | (intro _) | with_reducible apply State.flag_follows
    | with_reducible apply State.Follows.ite | split | dsimp only

theorem State.onStream_follows {s₀ s : State} (hf : s₀.Follows s) (h : Nat) (st : Option Nat) : s₀.Follows
    (State.onStream s h st) := by
  unfold State.onStream
  repeat' first
    | with_reducible assumption | (intro _) | with_reducible apply State.setIde_follows
    | with_reducible apply State.judgeKeys_follows | with_reducible apply State.Follows.ite | split | dsimp only

theorem State.emitTlp_follows {s₀ s : State} (hf : s₀.Follows s) (f : Nat) (o : Output) : s₀.Follows (State.emitTlp s
    f o) := by
  unfold State.emitTlp
  repeat' first
    | with_reducible assumption | (intro _) | with_reducible apply State.emit_follows
    | with_reducible apply State.Follows.ite | split | dsimp only

theorem State.pllFails_follows {s₀ s : State} (hf : s₀.Follows s) : s₀.Follows (State.pllFails s).2 := by
  unfold State.pllFails
  repeat' first
    | with_reducible assumption | (intro _) | with_reducible apply State.freeWord_follows
    | with_reducible refine State.Follows.pair (by assumption) ?_ | with_reducible apply State.Follows.ite | split
    | dsimp only

theorem State.ungateHcr_follows {s₀ s : State} (hf : s₀.Follows s) (h : Nat) : s₀.Follows (State.ungateHcr s h) := by
  unfold State.ungateHcr
  repeat' first
    | with_reducible assumption | (intro _) | with_reducible apply State.pllFails_follows
    | with_reducible apply State.bump_follows | with_reducible apply State.setHcrState_follows
    | with_reducible refine State.Follows.pair (by assumption) ?_ | with_reducible apply State.Follows.ite | split
    | dsimp only

theorem State.leaveL1_follows {s₀ s : State} (hf : s₀.Follows s) (h : Nat) : s₀.Follows (State.leaveL1 s h) := by
  unfold State.leaveL1
  repeat' first
    | with_reducible assumption | (intro _) | with_reducible apply State.put_follows
    | with_reducible apply State.ungateHcr_follows | with_reducible apply State.modHost_follows
    | with_reducible apply State.Follows.ite | split | dsimp only

theorem State.noteBad_follows {s₀ s : State} (hf : s₀.Follows s) (f : Nat) (bad : Bool) : s₀.Follows (State.noteBad s
    f bad) := by
  unfold State.noteBad
  repeat' first
    | with_reducible assumption | (intro _) | with_reducible apply State.setStatus_follows
    | with_reducible apply State.Follows.ite | split | dsimp only

theorem State.hostWrite_follows {s₀ s : State} (hf : s₀.Follows s) (f : Nat) (pasid : Option Nat) (addr : Nat) (data :
    List Byte) (bad : Bool) : s₀.Follows (State.hostWrite s f pasid addr data bad) := by
  unfold State.hostWrite
  repeat' first
    | with_reducible assumption | (intro _) | with_reducible apply State.noteBad_follows
    | with_reducible apply State.leaveL1_follows | with_reducible apply State.onStream_follows
    | with_reducible apply State.Follows.each | with_reducible apply State.emitTlp_follows
    | with_reducible apply State.Follows.ite | split | dsimp only

theorem State.hostWriteSparse_follows {s₀ s : State} (hf : s₀.Follows s) (f : Nat) (pasid : Option Nat) (addr : Nat)
    (be : Nat) (data : List Byte) (bad : Bool) : s₀.Follows (State.hostWriteSparse s f pasid addr be data bad) := by
  unfold State.hostWriteSparse
  repeat' first
    | with_reducible assumption | (intro _) | with_reducible apply State.noteBad_follows
    | with_reducible apply State.leaveL1_follows | with_reducible apply State.onStream_follows
    | with_reducible apply State.emitTlp_follows | with_reducible apply State.Follows.ite | split | dsimp only

theorem State.sendPost_follows {s₀ s : State} (hf : s₀.Follows s) (r : HReq) : s₀.Follows (State.sendPost s r) := by
  unfold State.sendPost
  repeat' first
    | with_reducible assumption | (intro _) | with_reducible apply State.hostWriteSparse_follows
    | with_reducible apply State.hostWrite_follows | with_reducible apply State.missAt_follows
    | with_reducible apply State.Follows.ite | split | dsimp only

theorem State.callHost_follows {s₀ s : State} (hf : s₀.Follows s) (ts : List Nat) (f : Nat) : s₀.Follows
    (State.callHost s ts f) := by
  unfold State.callHost
  repeat' first
    | with_reducible assumption | (intro _) | with_reducible apply State.wakeSlices_follows
    | with_reducible apply State.leaveL1_follows | with_reducible apply State.Follows.ite | split | dsimp only

theorem State.drainPosts_follows {s₀ s : State} (hf : s₀.Follows s) (h : Nat) (x2 : Nat) : s₀.Follows
    (State.drainPosts s h x2) := by
  induction x2 generalizing s with
  | zero =>
    unfold State.drainPosts
    repeat' first
      | with_reducible assumption | (intro _) | with_reducible apply State.modHost_follows
      | with_reducible apply State.sendPost_follows | with_reducible apply State.Follows.ite | split | dsimp only
  | succ n ih =>
    unfold State.drainPosts
    repeat' first
      | with_reducible assumption | (intro _) | with_reducible apply ih | with_reducible apply State.modHost_follows
      | with_reducible apply State.sendPost_follows | with_reducible apply State.Follows.ite | split | dsimp only

theorem State.drainWrites_follows {s₀ s : State} (hf : s₀.Follows s) (h : Nat) : s₀.Follows (State.drainWrites s h) :=
    by
  unfold State.drainWrites
  repeat' first
    | with_reducible assumption | (intro _) | with_reducible apply State.drainPosts_follows
    | with_reducible apply State.Follows.ite | split | dsimp only

theorem State.askHost_follows {s₀ s : State} (hf : s₀.Follows s) (r : HReq) : s₀.Follows (State.askHost s r) := by
  unfold State.askHost
  repeat' first
    | with_reducible assumption | (intro _) | with_reducible apply State.callHost_follows
    | with_reducible apply State.modHost_follows | with_reducible apply State.drainWrites_follows
    | with_reducible apply State.Follows.ite | split | dsimp only

theorem State.giveRoom_follows {s₀ s : State} (hf : s₀.Follows s) (r : HReq) : s₀.Follows (State.giveRoom s r) := by
  unfold State.giveRoom
  repeat' first
    | with_reducible assumption | (intro _) | with_reducible apply State.modPort_follows
    | with_reducible apply State.Follows.ite | split | dsimp only

theorem State.grantTag_follows {s₀ s : State} (hf : s₀.Follows s) (h : Nat) : s₀.Follows (State.grantTag s h) := by
  unfold State.grantTag
  repeat' first
    | with_reducible assumption | (intro _) | with_reducible apply State.modHost_follows
    | with_reducible apply State.giveRoom_follows | with_reducible apply State.arm_follows
    | with_reducible apply State.onStream_follows | with_reducible apply State.emitTlp_follows
    | with_reducible apply State.drainWrites_follows | with_reducible apply State.Follows.ite | split | dsimp only

theorem State.freeHostTag_follows {s₀ s : State} (hf : s₀.Follows s) (h : Nat) (t : Nat) : s₀.Follows
    (State.freeHostTag s h t) := by
  unfold State.freeHostTag
  repeat' first
    | with_reducible assumption | (intro _) | with_reducible apply State.disarm_follows
    | with_reducible apply State.modHost_follows | with_reducible apply State.Follows.ite | split | dsimp only

theorem State.holdHostTag_follows {s₀ s : State} (hf : s₀.Follows s) (h : Nat) (t : Nat) : s₀.Follows
    (State.holdHostTag s h t) := by
  unfold State.holdHostTag
  repeat' first
    | with_reducible assumption | (intro _) | with_reducible apply State.disarm_follows
    | with_reducible apply State.modHost_follows | with_reducible apply State.arm_follows
    | with_reducible apply State.Follows.ite | split | dsimp only

theorem State.setPba_follows {s₀ s : State} (hf : s₀.Follows s) (f : Nat) (e : Nat) (b : Bool) : s₀.Follows
    (State.setPba s f e b) := by
  unfold State.setPba
  repeat' first
    | with_reducible assumption | (intro _) | with_reducible apply State.Follows.ite | split | dsimp only
  all_goals with_reducible apply State.Follows.other
  repeat' first
    | with_reducible assumption | (intro _) | with_reducible apply State.Follows.ite | split | dsimp only

theorem State.sendMessage_follows {s₀ s : State} (hf : s₀.Follows s) (f : Nat) (e : Nat) : s₀.Follows
    (State.sendMessage s f e) := by
  unfold State.sendMessage
  repeat' first
    | with_reducible assumption | (intro _) | with_reducible apply State.hostWrite_follows
    | with_reducible apply State.bump_follows | with_reducible apply State.Follows.ite | split | dsimp only

theorem State.sendMsi_follows {s₀ s : State} (hf : s₀.Follows s) (v : Nat) : s₀.Follows (State.sendMsi s v) := by
  unfold State.sendMsi
  repeat' first
    | with_reducible assumption | (intro _) | with_reducible apply State.hostWrite_follows
    | with_reducible apply State.bump_follows | with_reducible apply State.Follows.ite | split | dsimp only

theorem State.deliverMsi_follows {s₀ s : State} (hf : s₀.Follows s) (v : Nat) : s₀.Follows (State.deliverMsi s v).2 :=
    by
  unfold State.deliverMsi
  repeat' first
    | with_reducible assumption | (intro _) | with_reducible apply State.sendMsi_follows
    | with_reducible apply State.cfgPut_follows | with_reducible apply State.bump_follows
    | with_reducible apply State.Follows.ite | split | dsimp only

theorem State.deliverMsix_follows {s₀ s : State} (hf : s₀.Follows s) (f : Nat) (e : Nat) : s₀.Follows
    (State.deliverMsix s f e).2 := by
  unfold State.deliverMsix
  repeat' first
    | with_reducible assumption | (intro _) | with_reducible apply State.sendMessage_follows
    | with_reducible apply State.setPba_follows | with_reducible apply State.bump_follows
    | with_reducible apply State.Follows.ite | split | dsimp only

theorem State.wakeFor_follows {s₀ s : State} (hf : s₀.Follows s) (f : Nat) : s₀.Follows (State.wakeFor s f) := by
  unfold State.wakeFor
  repeat' first
    | with_reducible assumption | (intro _) | with_reducible apply State.modHost_follows
    | with_reducible apply State.Follows.ite | split | dsimp only

theorem State.wakePeg_follows {s₀ s : State} (hf : s₀.Follows s) (i : Nat) : s₀.Follows (State.wakePeg s i) := by
  unfold State.wakePeg
  repeat' first
    | with_reducible assumption | (intro _) | with_reducible apply State.wakeSlices_follows
    | with_reducible apply State.Follows.ite | split | dsimp only

theorem State.raisePeg_follows {s₀ s : State} (hf : s₀.Follows s) (i : Nat) (dl : Option Nat) (v : Option Nat) :
    s₀.Follows (State.raisePeg s i dl v) := by
  unfold State.raisePeg
  repeat' first
    | with_reducible assumption | (intro _) | with_reducible apply State.bump_follows
    | with_reducible apply State.keyFor_follows | with_reducible apply State.wakePeg_follows
    | with_reducible apply State.put_follows | with_reducible apply State.modPeg_follows
    | with_reducible refine State.Follows.pair (by assumption) ?_ | with_reducible apply State.Follows.ite | split
    | dsimp only

theorem State.eosPeg_follows {s₀ s : State} (hf : s₀.Follows s) (i : Nat) : s₀.Follows (State.eosPeg s i) := by
  unfold State.eosPeg
  repeat' first
    | with_reducible assumption | (intro _) | with_reducible apply State.put_follows
    | with_reducible apply State.wakePeg_follows | with_reducible apply State.Follows.ite | split | dsimp only

theorem State.deliverPeg_follows {s₀ s : State} (hf : s₀.Follows s) (i : Nat) : s₀.Follows (State.deliverPeg s i) :=
    by
  unfold State.deliverPeg
  repeat' first
    | with_reducible assumption | (intro _) | with_reducible apply State.put_follows
    | with_reducible apply State.flag_follows | with_reducible apply State.missAt_follows
    | with_reducible apply State.setPeg_follows | with_reducible apply State.deliverMsi_follows
    | with_reducible apply State.wakeFor_follows | with_reducible apply State.deliverMsix_follows
    | with_reducible refine State.Follows.pair (by assumption) ?_ | with_reducible apply State.Follows.ite | split
    | dsimp only

theorem State.askVector_follows {s₀ s : State} (hf : s₀.Follows s) (q : Nat) (key : Nat) (tagged : Bool) : s₀.Follows
    (State.askVector s q key tagged) := by
  unfold State.askVector
  repeat' first
    | with_reducible assumption | (intro _) | with_reducible apply State.wakeSlices_follows
    | with_reducible apply State.Follows.ite | split | dsimp only
  all_goals with_reducible apply State.Follows.other
  repeat' first
    | with_reducible assumption | (intro _) | with_reducible apply State.wakeSlices_follows
    | with_reducible apply State.Follows.ite | split | dsimp only

theorem State.deliverVector_follows {s₀ s : State} (hf : s₀.Follows s) (q : Nat) : s₀.Follows (State.deliverVector s
    q) := by
  unfold State.deliverVector
  repeat' first
    | with_reducible assumption | (intro _) | with_reducible apply State.deliverMsi_follows
    | with_reducible apply State.wakeFor_follows | with_reducible apply State.deliverMsix_follows
    | with_reducible apply State.modQueue_follows | with_reducible refine State.Follows.pair (by assumption) ?_
    | with_reducible apply State.Follows.ite | split | dsimp only

theorem State.freeHeld_follows {s₀ s : State} (hf : s₀.Follows s) (f : Nat) : s₀.Follows (State.freeHeld s f) := by
  unfold State.freeHeld
  repeat' first
    | with_reducible assumption | (intro _) | with_reducible apply State.wakeSlices_follows
    | with_reducible apply State.Follows.ite | split | dsimp only
  all_goals with_reducible apply State.Follows.other
  repeat' first
    | with_reducible assumption | (intro _) | with_reducible apply State.wakeSlices_follows
    | with_reducible apply State.Follows.ite | split | dsimp only

theorem State.sendFreed_follows {s₀ s : State} (hf : s₀.Follows s) (f : Nat) (e : Nat) : s₀.Follows (State.sendFreed s
    f e) := by
  unfold State.sendFreed
  repeat' first
    | with_reducible assumption | (intro _) | with_reducible apply State.sendMsi_follows
    | with_reducible apply State.cfgPut_follows | with_reducible apply State.sendMessage_follows
    | with_reducible apply State.setPba_follows | with_reducible apply State.Follows.each
    | with_reducible apply State.flag_follows | with_reducible apply State.modPeg_follows
    | with_reducible apply State.modQueue_follows | with_reducible apply State.Follows.ite | split | dsimp only

theorem State.pegGrant_follows {s₀ s : State} (hf : s₀.Follows s) : s₀.Follows (State.pegGrant s) := by
  unfold State.pegGrant
  repeat' first
    | with_reducible assumption | (intro _) | with_reducible apply State.servedAt_follows
    | with_reducible apply State.deliverVector_follows | with_reducible apply State.deliverPeg_follows
    | with_reducible apply State.sendFreed_follows | with_reducible apply State.Follows.ite | split | dsimp only
  all_goals with_reducible apply State.Follows.other
  repeat' first
    | with_reducible assumption | (intro _) | with_reducible apply State.servedAt_follows
    | with_reducible apply State.deliverVector_follows | with_reducible apply State.deliverPeg_follows
    | with_reducible apply State.sendFreed_follows | with_reducible apply State.Follows.ite | split | dsimp only

theorem State.grantFreed_follows {s₀ s : State} (hf : s₀.Follows s) (f : Nat) (x2 : Nat) : s₀.Follows
    (State.grantFreed s f x2) := by
  induction x2 generalizing s with
  | zero =>
    unfold State.grantFreed
    repeat' first
      | with_reducible assumption | (intro _) | with_reducible apply State.pegGrant_follows
      | with_reducible apply State.Follows.ite | split | dsimp only
  | succ n ih =>
    unfold State.grantFreed
    repeat' first
      | with_reducible assumption | (intro _) | with_reducible apply ih | with_reducible apply State.pegGrant_follows
      | with_reducible apply State.Follows.ite | split | dsimp only

theorem State.releaseHeld_follows {s₀ s : State} (hf : s₀.Follows s) (f : Nat) : s₀.Follows (State.releaseHeld s f) :=
    by
  unfold State.releaseHeld
  repeat' first
    | with_reducible assumption | (intro _) | with_reducible apply State.freeHeld_follows
    | with_reducible apply State.grantFreed_follows | with_reducible apply State.Follows.ite | split | dsimp only

theorem State.clearInterrupts_follows {s₀ s : State} (hf : s₀.Follows s) (f : Nat) : s₀.Follows (State.clearInterrupts
    s f) := by
  unfold State.clearInterrupts
  repeat' first
    | with_reducible assumption | (intro _) | with_reducible apply State.Follows.each
    | with_reducible apply State.modPeg_follows | with_reducible apply State.cfgPut_follows
    | with_reducible apply State.Follows.ite | split | dsimp only
  all_goals with_reducible apply State.Follows.other
  repeat' first
    | with_reducible assumption | (intro _) | with_reducible apply State.Follows.each
    | with_reducible apply State.modPeg_follows | with_reducible apply State.cfgPut_follows
    | with_reducible apply State.Follows.ite | split | dsimp only

end Sys2Proof.Machine
end

