-- ==== Sys2Proof/Laws/FollowsJoist.lean ====
section
/-! SUPPORT. What the operations of Joist egress and ingress and the window operations keep (State.Follows): one lemma
per operation. -/

namespace Sys2Proof.Machine

set_option linter.all false
set_option Elab.async false

theorem State.startTraining_follows {s₀ s : State} (hf : s₀.Follows s) (p : Nat) : s₀.Follows (State.startTraining s
    p) := by
  unfold State.startTraining
  repeat' first
    | with_reducible assumption | (intro _) | with_reducible apply State.put_follows
    | with_reducible apply State.Follows.each | with_reducible apply State.modPort_follows
    | with_reducible apply State.bringUpLane_follows | with_reducible apply State.arm_follows
    | with_reducible apply State.Follows.ite | split | dsimp only

theorem State.trainWoken_follows {s₀ s : State} (hf : s₀.Follows s) (p : Nat) : s₀.Follows (State.trainWoken s p) :=
    by
  unfold State.trainWoken
  repeat' first
    | with_reducible assumption | (intro _) | with_reducible apply State.arm_follows
    | with_reducible apply State.Follows.each | with_reducible apply State.put_follows
    | with_reducible apply State.startTraining_follows | with_reducible apply State.Follows.ite | split | dsimp only

theorem State.wakePort_follows {s₀ s : State} (hf : s₀.Follows s) (p : Nat) : s₀.Follows (State.wakePort s p) := by
  unfold State.wakePort
  repeat' first
    | with_reducible assumption | (intro _) | with_reducible apply State.wakeRegion_follows
    | with_reducible apply State.modPort_follows | with_reducible apply State.trainWoken_follows
    | with_reducible apply State.Follows.ite | split | dsimp only

theorem State.queueUnits_follows {s₀ s : State} (hf : s₀.Follows s) (p : Nat) (us : List (BitVec 128)) : s₀.Follows
    (State.queueUnits s p us) := by
  unfold State.queueUnits
  repeat' first
    | with_reducible assumption | (intro _) | with_reducible apply State.modPort_follows
    | with_reducible apply State.Follows.ite | split | dsimp only

theorem State.splitWrite_follows {s₀ s : State} (hf : s₀.Follows s) (n : Nat) (o : Origin) : s₀.Follows
    (State.splitWrite s n o) := by
  unfold State.splitWrite
  repeat' first
    | with_reducible assumption | (intro _) | with_reducible apply State.modQueue_follows
    | with_reducible apply State.Follows.ite | split | dsimp only

theorem State.cutRd_follows {s₀ s : State} (hf : s₀.Follows s) (p : Nat) (n : Nat) (t : Nat) (e : EgFrame) :
    s₀.Follows (State.cutRd s p n t e) := by
  unfold State.cutRd
  repeat' first
    | with_reducible assumption | (intro _) | with_reducible apply State.modPort_follows
    | with_reducible apply State.modEng_follows | with_reducible apply State.Follows.ite | split | dsimp only

theorem State.cutRds_follows {s₀ s : State} (hf : s₀.Follows s) (p : Nat) (x2 : Nat) : s₀.Follows (State.cutRds s p
    x2) := by
  induction x2 generalizing s with
  | zero =>
    unfold State.cutRds
    repeat' first
      | with_reducible assumption | (intro _) | with_reducible apply State.cutRd_follows
      | with_reducible apply State.Follows.ite | split | dsimp only
  | succ n ih =>
    unfold State.cutRds
    repeat' first
      | with_reducible assumption | (intro _) | with_reducible apply ih | with_reducible apply State.cutRd_follows
      | with_reducible apply State.Follows.ite | split | dsimp only

theorem State.noteReplay_follows {s₀ s : State} (hf : s₀.Follows s) (p : Nat) : s₀.Follows (State.noteReplay s p) :=
    by
  unfold State.noteReplay
  repeat' first
    | with_reducible assumption | (intro _) | with_reducible apply State.put_follows
    | with_reducible apply State.Follows.ite | split | dsimp only

theorem State.sendFrame_follows {s₀ s : State} (hf : s₀.Follows s) (p : Nat) (e : EgFrame) : s₀.Follows
    (State.sendFrame s p e) := by
  unfold State.sendFrame
  repeat' first
    | with_reducible assumption | (intro _) | with_reducible apply State.emit_follows
    | with_reducible apply State.queueUnits_follows | with_reducible apply State.modPort_follows
    | with_reducible apply State.put_follows | with_reducible apply State.noteReplay_follows
    | with_reducible apply State.bump_follows | with_reducible apply State.armOnce_follows
    | with_reducible apply State.arm_follows | with_reducible apply State.disarm_follows
    | with_reducible apply State.missAt_follows | with_reducible apply State.Follows.ite | split | dsimp only

theorem State.endDoze_follows {s₀ s : State} (hf : s₀.Follows s) (p : Nat) : s₀.Follows (State.endDoze s p) := by
  unfold State.endDoze
  repeat' first
    | with_reducible assumption | (intro _) | with_reducible apply State.put_follows
    | with_reducible apply State.disarm_follows | with_reducible apply State.Follows.each
    | with_reducible apply State.leaveIdle_follows | with_reducible apply State.sendMarker_follows
    | with_reducible apply State.endTraining_follows | with_reducible apply State.openActive_follows
    | with_reducible apply State.modPort_follows | with_reducible apply State.sendFrame_follows
    | with_reducible apply State.Follows.ite | split | dsimp only

theorem State.startFrame_follows {s₀ s : State} (hf : s₀.Follows s) (p : Nat) (e : EgFrame) : s₀.Follows
    (State.startFrame s p e) := by
  unfold State.startFrame
  repeat' first
    | with_reducible assumption | (intro _) | with_reducible apply State.endDoze_follows
    | with_reducible apply State.sendFrame_follows | with_reducible apply State.Follows.ite | split | dsimp only

theorem State.egressStep_follows {s₀ s : State} (hf : s₀.Follows s) (p : Nat) : ∀ t, State.egressStep s p = some t →
    s₀.Follows t := by
  unfold State.egressStep
  repeat' first
    | with_reducible assumption | exact optNone | with_reducible refine optSome ?_
    | with_reducible refine optIte ?_ ?_ | with_reducible refine optMap ?_ ?_ | split
    | with_reducible apply State.modPort_follows | with_reducible apply State.splitWrite_follows
    | with_reducible apply State.servedAt_follows | with_reducible apply State.startFrame_follows
    | with_reducible apply State.Follows.ite | dsimp only | (intro _)

theorem State.pumpFrames_follows {s₀ s : State} (hf : s₀.Follows s) (p : Nat) (x2 : Nat) : s₀.Follows
    (State.pumpFrames s p x2) := by
  induction x2 generalizing s with
  | zero =>
    unfold State.pumpFrames
    repeat' first
      | with_reducible assumption | (intro _) | with_reducible refine State.egressStep_follows ?_ _ _ (by assumption)
      | with_reducible apply State.Follows.ite | split | dsimp only
  | succ n ih =>
    unfold State.pumpFrames
    repeat' first
      | with_reducible assumption | (intro _) | with_reducible apply ih
      | with_reducible refine State.egressStep_follows ?_ _ _ (by assumption) | with_reducible apply State.Follows.ite
      | split | dsimp only

theorem State.noteStall_follows {s₀ s : State} (hf : s₀.Follows s) (p : Nat) : s₀.Follows (State.noteStall s p) := by
  unfold State.noteStall
  repeat' first
    | with_reducible assumption | (intro _) | with_reducible apply State.flag_follows
    | with_reducible apply State.modPort_follows | with_reducible apply State.Follows.ite | split | dsimp only

theorem State.pump_follows {s₀ s : State} (hf : s₀.Follows s) (p : Nat) : s₀.Follows (State.pump s p) := by
  unfold State.pump
  repeat' first
    | with_reducible assumption | (intro _) | with_reducible apply State.cutRds_follows
    | with_reducible apply State.Follows.foldl | with_reducible apply State.pumpFrames_follows
    | with_reducible apply State.noteStall_follows | with_reducible apply State.Follows.ite | split | dsimp only

theorem State.enqueue_follows {s₀ s : State} (hf : s₀.Follows s) (p : Nat) (e : EgFrame) : s₀.Follows (State.enqueue s
    p e) := by
  unfold State.enqueue
  repeat' first
    | with_reducible assumption | (intro _) | with_reducible apply State.modPort_follows
    | with_reducible apply State.wakePort_follows | with_reducible apply State.wakeSlices_follows
    | with_reducible apply State.pump_follows | with_reducible apply State.Follows.ite | split | dsimp only

theorem State.quiet_follows {s₀ s : State} (hf : s₀.Follows s) (p : Nat) : s₀.Follows (State.quiet s p) := by
  unfold State.quiet
  repeat' first
    | with_reducible assumption | (intro _) | with_reducible apply State.armOnce_follows
    | with_reducible apply State.disarm_follows | with_reducible apply State.Follows.ite | split | dsimp only

theorem State.noteAck_follows {s₀ s : State} (hf : s₀.Follows s) (p : Nat) : s₀.Follows (State.noteAck s p) := by
  unfold State.noteAck
  repeat' first
    | with_reducible assumption | (intro _) | with_reducible apply State.modPort_follows
    | with_reducible apply State.arm_follows | with_reducible apply State.Follows.ite | split | dsimp only

theorem State.sendIdle_follows {s₀ s : State} (hf : s₀.Follows s) (p : Nat) : s₀.Follows (State.sendIdle s p) := by
  unfold State.sendIdle
  repeat' first
    | with_reducible assumption | (intro _) | with_reducible apply State.endDoze_follows
    | with_reducible apply State.emit_follows | with_reducible apply State.queueUnits_follows
    | with_reducible apply State.noteAck_follows | with_reducible apply State.quiet_follows
    | with_reducible apply State.Follows.ite | split | dsimp only

theorem State.holdsChanged_follows {s₀ s : State} (hf : s₀.Follows s) (p : Nat) : s₀.Follows (State.holdsChanged s p)
    := by
  unfold State.holdsChanged
  repeat' first
    | with_reducible assumption | (intro _) | with_reducible apply State.judgeHolds_follows
    | with_reducible apply State.sendIdle_follows | with_reducible apply State.Follows.ite | split | dsimp only

theorem State.jtLog_follows {s₀ s : State} (hf : s₀.Follows s) (p : Nat) (status : Nat) (kind : Nat) (tag : Nat) (vc :
    Nat) (type : Nat) (addr : Nat) : s₀.Follows (State.jtLog s p status kind tag vc type addr) := by
  unfold State.jtLog
  repeat' first
    | with_reducible assumption | (intro _) | with_reducible apply State.put_follows
    | with_reducible apply State.Follows.ite | split | dsimp only

theorem State.answerUr_follows {s₀ s : State} (hf : s₀.Follows s) (f : Nat) (reqTag : Nat) (off : Nat) (len : Nat) :
    s₀.Follows (State.answerUr s f reqTag off len) := by
  unfold State.answerUr
  repeat' first
    | with_reducible assumption | (intro _) | with_reducible apply State.emitTlp_follows
    | with_reducible apply State.aerUnc_follows | with_reducible apply State.Follows.ite | split | dsimp only

theorem State.dropUr_follows {s₀ s : State} (hf : s₀.Follows s) (f : Nat) (off : Nat) (len : Nat) : s₀.Follows
    (State.dropUr s f off len) := by
  unfold State.dropUr
  repeat' first
    | with_reducible assumption | (intro _) | with_reducible apply State.aerUnc_follows
    | with_reducible apply State.Follows.ite | split | dsimp only

theorem State.accessKey_follows {s₀ s : State} (hf : s₀.Follows s) (f : Nat) (n : Nat) : s₀.Follows (State.accessKey s
    f n).2 := by
  unfold State.accessKey
  repeat' first
    | with_reducible assumption | (intro _) | with_reducible apply State.tagKey_follows
    | with_reducible refine State.Follows.pair (by assumption) ?_ | with_reducible apply State.Follows.ite | split
    | dsimp only

theorem State.countDown_follows {s₀ s : State} (hf : s₀.Follows s) (f : Nat) (p : Nat) (ones : Bool) : s₀.Follows
    (State.countDown s f p ones) := by
  unfold State.countDown
  repeat' first
    | with_reducible assumption | (intro _) | with_reducible apply State.bump_follows
    | with_reducible apply State.Follows.ite | split | dsimp only

theorem State.answerCa_follows {s₀ s : State} (hf : s₀.Follows s) (f : Nat) (reqTag : Nat) (off : Nat) (len : Nat) :
    s₀.Follows (State.answerCa s f reqTag off len) := by
  unfold State.answerCa
  repeat' first
    | with_reducible assumption | (intro _) | with_reducible apply State.emitTlp_follows
    | with_reducible apply State.setStatus_follows | with_reducible apply State.aerUnc_follows
    | with_reducible apply State.Follows.ite | split | dsimp only

theorem State.setRead_follows {s₀ s : State} (hf : s₀.Follows s) (p : Nat) (r : WRead) : s₀.Follows (State.setRead s p
    r) := by
  unfold State.setRead
  repeat' first
    | with_reducible assumption | (intro _) | with_reducible apply State.modPort_follows
    | with_reducible apply State.Follows.ite | split | dsimp only

theorem State.withdrawReads_follows {s₀ s : State} (hf : s₀.Follows s) (p : Nat) (id : Nat) : s₀.Follows
    (State.withdrawReads s p id) := by
  unfold State.withdrawReads
  repeat' first
    | with_reducible assumption | (intro _) | with_reducible apply State.modPort_follows
    | with_reducible apply State.Follows.ite | split | dsimp only

theorem State.dropRead_follows {s₀ s : State} (hf : s₀.Follows s) (p : Nat) (id : Nat) : s₀.Follows (State.dropRead s
    p id) := by
  unfold State.dropRead
  repeat' first
    | with_reducible assumption | (intro _) | with_reducible apply State.withdrawReads_follows
    | with_reducible apply State.modPort_follows | with_reducible apply State.Follows.ite | split | dsimp only

theorem State.readBytes_follows {s₀ s : State} (hf : s₀.Follows s) (r : WRead) (a : Nat) (b : Nat) : s₀.Follows
    (State.readBytes s r a b).2 := by
  unfold State.readBytes
  repeat' first
    | with_reducible assumption | (intro _) | with_reducible apply State.freeBytes_follows
    | with_reducible refine State.Follows.pair (by assumption) ?_ | with_reducible apply State.Follows.ite | split
    | dsimp only

theorem State.answerFlush_follows {s₀ s : State} (hf : s₀.Follows s) (p : Nat) (r : WRead) : s₀.Follows
    (State.answerFlush s p r).2 := by
  unfold State.answerFlush
  repeat' first
    | with_reducible assumption | (intro _) | with_reducible apply State.emitTlp_follows
    | with_reducible apply State.answerCa_follows | with_reducible apply State.missAt_follows
    | with_reducible apply State.Follows.ite | split | dsimp only

theorem State.answerRead_follows {s₀ s : State} (hf : s₀.Follows s) (p : Nat) (x2 : Nat) (x3 : WRead) : s₀.Follows
    (State.answerRead s p x2 x3).2 := by
  induction x2 generalizing s x3 with
  | zero =>
    unfold State.answerRead
    repeat' first
      | with_reducible assumption | (intro _) | with_reducible apply State.answerFlush_follows
      | with_reducible apply State.readBytes_follows | with_reducible apply State.emitTlp_follows
      | with_reducible apply State.missAt_follows | with_reducible apply State.answerCa_follows
      | with_reducible refine State.Follows.pair (by assumption) ?_ | with_reducible apply State.Follows.ite | split
      | dsimp only
  | succ n ih =>
    unfold State.answerRead
    repeat' first
      | with_reducible assumption | (intro _) | with_reducible apply ih
      | with_reducible apply State.answerFlush_follows | with_reducible apply State.readBytes_follows
      | with_reducible apply State.emitTlp_follows | with_reducible apply State.missAt_follows
      | with_reducible apply State.answerCa_follows | with_reducible refine State.Follows.pair (by assumption) ?_
      | with_reducible apply State.Follows.ite | split | dsimp only

theorem State.answerReads_follows {s₀ s : State} (hf : s₀.Follows s) (p : Nat) : s₀.Follows (State.answerReads s p) :=
    by
  unfold State.answerReads
  repeat' first
    | with_reducible assumption | (intro _) | with_reducible apply State.Follows.foldlPair
    | with_reducible apply State.answerRead_follows | with_reducible apply State.setRead_follows
    | with_reducible apply State.dropRead_follows | with_reducible apply State.Follows.foldl
    | with_reducible apply State.holdsChanged_follows | with_reducible apply State.pump_follows
    | with_reducible refine State.Follows.pair (by assumption) ?_ | with_reducible apply State.Follows.ite | split
    | dsimp only

theorem State.failRead_follows {s₀ s : State} (hf : s₀.Follows s) (p : Nat) (id : Nat) : s₀.Follows (State.failRead s
    p id) := by
  unfold State.failRead
  repeat' first
    | with_reducible assumption | (intro _) | with_reducible apply State.withdrawReads_follows
    | with_reducible apply State.modPort_follows | with_reducible apply State.answerReads_follows
    | with_reducible apply State.Follows.ite | split | dsimp only

theorem State.addRead_follows {s₀ s : State} (hf : s₀.Follows s) (r : WRead) : s₀.Follows (State.addRead s r) := by
  unfold State.addRead
  repeat' first
    | with_reducible assumption | (intro _) | with_reducible apply State.modPort_follows
    | with_reducible apply State.Follows.ite | split | dsimp only
  all_goals with_reducible apply State.Follows.other
  repeat' first
    | with_reducible assumption | (intro _) | with_reducible apply State.modPort_follows
    | with_reducible apply State.Follows.ite | split | dsimp only

theorem State.windowRead_follows {s₀ s : State} (hf : s₀.Follows s) (f : Nat) (addr : Nat) (dws : Nat) (firstBe : Nat)
    (lastBe : Nat) (reqTag : Nat) : s₀.Follows (State.windowRead s f addr dws firstBe lastBe reqTag) := by
  unfold State.windowRead
  repeat' first
    | with_reducible assumption | (intro _) | with_reducible apply State.leaveL1_follows
    | with_reducible apply State.wakeRegion_follows | with_reducible apply State.answerUr_follows
    | with_reducible apply State.answerCa_follows | with_reducible apply State.bump_follows
    | with_reducible apply State.countDown_follows | with_reducible apply State.addRead_follows
    | with_reducible apply State.answerReads_follows | with_reducible apply State.accessKey_follows
    | with_reducible apply State.wakePort_follows | with_reducible apply State.enqueue_follows
    | with_reducible refine State.Follows.pair (by assumption) ?_ | with_reducible apply State.Follows.ite | split
    | dsimp only

theorem State.windowWrite_follows {s₀ s : State} (hf : s₀.Follows s) (f : Nat) (addr : Nat) (data : List Byte)
    (firstBe : Nat) (lastBe : Nat) : s₀.Follows (State.windowWrite s f addr data firstBe lastBe) := by
  unfold State.windowWrite
  repeat' first
    | with_reducible assumption | (intro _) | with_reducible apply State.leaveL1_follows
    | with_reducible apply State.wakeRegion_follows | with_reducible apply State.dropUr_follows
    | with_reducible apply State.bump_follows | with_reducible apply State.accessKey_follows
    | with_reducible apply State.Follows.each | with_reducible apply State.enqueue_follows
    | with_reducible refine State.Follows.pair (by assumption) ?_ | with_reducible apply State.Follows.ite | split
    | dsimp only
  all_goals with_reducible apply State.Follows.other
  repeat' first
    | with_reducible assumption | (intro _) | with_reducible apply State.leaveL1_follows
    | with_reducible apply State.wakeRegion_follows | with_reducible apply State.dropUr_follows
    | with_reducible apply State.bump_follows | with_reducible apply State.accessKey_follows
    | with_reducible apply State.Follows.each | with_reducible apply State.enqueue_follows
    | with_reducible refine State.Follows.pair (by assumption) ?_ | with_reducible apply State.Follows.ite | split
    | dsimp only

theorem State.grantReserve_follows {s₀ s : State} (hf : s₀.Follows s) (p : Nat) (v : Nat) : s₀.Follows
    (State.grantReserve s p v) := by
  unfold State.grantReserve
  repeat' first
    | with_reducible assumption | (intro _) | with_reducible apply State.setRead_follows
    | with_reducible apply State.modPort_follows | with_reducible apply State.holdsChanged_follows
    | with_reducible apply State.pump_follows | with_reducible apply State.Follows.ite | split | dsimp only

end Sys2Proof.Machine
end

