-- ==== Sys2Proof/Laws/FollowsQueues.lean ====
section
/-! SUPPORT. What the operations of descriptors, queues and engines keep (State.Follows): one lemma
per operation. -/

namespace Sys2Proof.Machine

set_option linter.all false
set_option Elab.async false

theorem State.loadPorts_follows {s₀ s : State} (hf : s₀.Follows s) (ws : List Word) : s₀.Follows (State.loadPorts s
    ws) := by
  unfold State.loadPorts
  repeat' first
    | with_reducible assumption | (intro _) | with_reducible apply State.Follows.each
    | with_reducible apply State.put_follows | with_reducible apply State.Follows.ite | split | dsimp only

theorem State.tryAdmission_follows {s₀ s : State} (hf : s₀.Follows s) (q : Nat) (d : Prefetched) (ws : List Word) :
    s₀.Follows (State.tryAdmission s q d ws).2 := by
  unfold State.tryAdmission
  dsimp only
  generalize s.estimate q ws = est
  repeat' first
    | with_reducible assumption | (intro _) | with_reducible apply State.modQueue_follows
    | with_reducible apply State.loadPorts_follows | with_reducible apply State.bump_follows
    | with_reducible apply State.Follows.ite | split | dsimp only

theorem State.readDescriptor_follows {s₀ s : State} (hf : s₀.Follows s) (q : Nat) (idx : Nat) (ws : List Word) :
    s₀.Follows (State.readDescriptor s q idx ws).2 := by
  unfold State.readDescriptor
  repeat' first
    | with_reducible assumption | (intro _) | with_reducible apply State.keyFor_follows
    | with_reducible apply State.tryAdmission_follows | with_reducible refine State.Follows.pair (by assumption) ?_
    | with_reducible apply State.Follows.ite | split | dsimp only

theorem State.settleState_follows {s₀ s : State} (hf : s₀.Follows s) (q : Nat) : s₀.Follows (State.settleState s q) :=
    by
  unfold State.settleState
  repeat' first
    | with_reducible assumption | (intro _) | with_reducible apply State.put_follows
    | with_reducible apply State.Follows.ite | split | dsimp only

theorem State.joinVector_follows {s₀ s : State} (hf : s₀.Follows s) (q : Nat) (key : Nat) (tagged : Bool) : s₀.Follows
    (State.joinVector s q key tagged) := by
  unfold State.joinVector
  repeat' first
    | with_reducible assumption | (intro _) | with_reducible apply State.modQueue_follows
    | with_reducible apply State.Follows.ite | split | dsimp only

theorem State.sendVector_follows {s₀ s : State} (hf : s₀.Follows s) (q : Nat) : s₀.Follows (State.sendVector s q) :=
    by
  unfold State.sendVector
  repeat' first
    | with_reducible assumption | (intro _) | with_reducible apply State.put_follows
    | with_reducible apply State.disarm_follows | with_reducible apply State.modQueue_follows
    | with_reducible apply State.askVector_follows | with_reducible apply State.Follows.ite | split | dsimp only

theorem State.timeEntry_follows {s₀ s : State} (hf : s₀.Follows s) (q : Nat) (n : Nat) : s₀.Follows (State.timeEntry s
    q n) := by
  unfold State.timeEntry
  repeat' first
    | with_reducible assumption | (intro _) | with_reducible apply State.modQueue_follows
    | with_reducible apply State.disarm_follows | with_reducible apply State.arm_follows
    | with_reducible apply State.Follows.ite | split | dsimp only

theorem State.signalEntry_follows {s₀ s : State} (hf : s₀.Follows s) (q : Nat) (e : Entry) : s₀.Follows
    (State.signalEntry s q e) := by
  unfold State.signalEntry
  repeat' first
    | with_reducible assumption | (intro _) | with_reducible apply State.joinVector_follows
    | with_reducible apply State.sendVector_follows | with_reducible apply State.put_follows
    | with_reducible apply State.timeEntry_follows | with_reducible apply State.Follows.ite | split | dsimp only

theorem State.callEntry_follows {s₀ s : State} (hf : s₀.Follows s) (q : Nat) : s₀.Follows (State.callEntry s q) := by
  unfold State.callEntry
  repeat' first
    | with_reducible assumption | (intro _) | with_reducible apply State.callHost_follows
    | with_reducible apply State.Follows.ite | split | dsimp only

theorem State.countMiss_follows {s₀ s : State} (hf : s₀.Follows s) (q : Nat) (e : Entry) : s₀.Follows (State.countMiss
    s q e) := by
  unfold State.countMiss
  repeat' first
    | with_reducible assumption | (intro _) | with_reducible apply State.missAt_follows
    | with_reducible apply State.Follows.ite | split | dsimp only

theorem State.endDescriptor_follows {s₀ s : State} (hf : s₀.Follows s) (q : Nat) : s₀.Follows (State.endDescriptor s
    q) := by
  unfold State.endDescriptor
  repeat' first
    | with_reducible assumption | (intro _) | with_reducible apply State.modQueue_follows
    | with_reducible apply State.put_follows | with_reducible apply State.settleState_follows
    | with_reducible apply State.Follows.ite | split | dsimp only

theorem State.advanceHeads_follows {s₀ s : State} (hf : s₀.Follows s) (q : Nat) (final : Bool) : s₀.Follows
    (State.advanceHeads s q final) := by
  unfold State.advanceHeads
  repeat' first
    | with_reducible assumption | (intro _) | with_reducible apply State.put_follows
    | with_reducible apply State.Follows.ite | split | dsimp only

theorem State.writeEntry_follows {s₀ s : State} (hf : s₀.Follows s) (q : Nat) (e : Entry) : s₀.Follows
    (State.writeEntry s q e) := by
  unfold State.writeEntry
  repeat' first
    | with_reducible assumption | (intro _) | with_reducible apply State.hostWrite_follows
    | with_reducible apply State.advanceHeads_follows | with_reducible apply State.signalEntry_follows
    | with_reducible apply State.Follows.ite | split | dsimp only

theorem State.holdEntry_follows {s₀ s : State} (hf : s₀.Follows s) (q : Nat) (e : Entry) : s₀.Follows (State.holdEntry
    s q e) := by
  unfold State.holdEntry
  repeat' first
    | with_reducible assumption | (intro _) | with_reducible apply State.Follows.each
    | with_reducible apply State.setWord_follows | with_reducible apply State.put_follows
    | with_reducible apply State.modQueue_follows | with_reducible apply State.countMiss_follows
    | with_reducible apply State.Follows.ite | split | dsimp only

theorem State.clearHeld_follows {s₀ s : State} (hf : s₀.Follows s) (q : Nat) : s₀.Follows (State.clearHeld s q) := by
  unfold State.clearHeld
  repeat' first
    | with_reducible assumption | (intro _) | with_reducible apply State.Follows.each
    | with_reducible apply State.setWord_follows | with_reducible apply State.put_follows
    | with_reducible apply State.modQueue_follows | with_reducible apply State.Follows.ite | split | dsimp only

theorem State.writeHeld_follows {s₀ s : State} (hf : s₀.Follows s) (q : Nat) : s₀.Follows (State.writeHeld s q) := by
  unfold State.writeHeld
  repeat' first
    | with_reducible assumption | (intro _) | with_reducible apply State.callEntry_follows
    | with_reducible apply State.clearHeld_follows | with_reducible apply State.writeEntry_follows
    | with_reducible apply State.Follows.ite | split | dsimp only

theorem State.tryHeld_follows {s₀ s : State} (hf : s₀.Follows s) (q : Nat) : s₀.Follows (State.tryHeld s q) := by
  unfold State.tryHeld
  repeat' first
    | with_reducible assumption | (intro _) | with_reducible apply State.writeHeld_follows
    | with_reducible apply State.settleState_follows | with_reducible apply State.Follows.ite | split | dsimp only

theorem State.recordResume_follows {s₀ s : State} (hf : s₀.Follows s) (q : Nat) (c : Current) : s₀.Follows
    (State.recordResume s q c) := by
  unfold State.recordResume
  repeat' first
    | with_reducible assumption | (intro _) | with_reducible apply State.put_follows
    | with_reducible apply State.Follows.ite | split | dsimp only

theorem State.endPace_follows {s₀ s : State} (hf : s₀.Follows s) (e : Nat) : s₀.Follows (State.endPace s e) := by
  unfold State.endPace
  repeat' first
    | with_reducible assumption | (intro _) | with_reducible apply State.bumpBy_follows
    | with_reducible apply State.put_follows | with_reducible apply State.modEng_follows
    | with_reducible apply State.Follows.ite | split | dsimp only

theorem State.releaseEngine_follows {s₀ s : State} (hf : s₀.Follows s) (e : Nat) : s₀.Follows (State.releaseEngine s
    e) := by
  unfold State.releaseEngine
  repeat' first
    | with_reducible assumption | (intro _) | with_reducible apply State.endPace_follows
    | with_reducible apply State.bumpBy_follows | with_reducible apply State.put_follows
    | with_reducible apply State.setWord_follows | with_reducible apply State.modEng_follows
    | with_reducible apply State.Follows.ite | split | dsimp only

theorem State.noteEngine_follows {s₀ s : State} (hf : s₀.Follows s) (e : Nat) : s₀.Follows (State.noteEngine s e) :=
    by
  unfold State.noteEngine
  repeat' first
    | with_reducible assumption | (intro _) | with_reducible apply State.Follows.foldl
    | with_reducible apply State.put_follows | with_reducible apply State.Follows.ite | split | dsimp only

theorem State.drainEngine_follows {s₀ s : State} (hf : s₀.Follows s) (e : Nat) : s₀.Follows (State.drainEngine s e) :=
    by
  unfold State.drainEngine
  repeat' first
    | with_reducible assumption | (intro _) | with_reducible apply State.endPace_follows
    | with_reducible apply State.Follows.each | with_reducible apply State.modHost_follows
    | with_reducible apply State.modEng_follows | with_reducible apply State.releaseEngine_follows
    | with_reducible apply State.put_follows | with_reducible apply State.noteEngine_follows
    | with_reducible apply State.Follows.ite | split | dsimp only

theorem State.dropFetches_follows {s₀ s : State} (hf : s₀.Follows s) (q : Nat) (ext : Bool) : s₀.Follows
    (State.dropFetches s q ext) := by
  unfold State.dropFetches
  repeat' first
    | with_reducible assumption | (intro _) | with_reducible apply State.modHost_follows
    | with_reducible apply State.modQueue_follows | with_reducible apply State.Follows.ite | split | dsimp only

theorem State.loseExt_follows {s₀ s : State} (hf : s₀.Follows s) (q : Nat) : s₀.Follows (State.loseExt s q) := by
  unfold State.loseExt
  repeat' first
    | with_reducible assumption | (intro _) | with_reducible apply State.modHost_follows
    | with_reducible apply State.modQueue_follows | with_reducible apply State.Follows.ite | split | dsimp only

theorem State.settleEntry_follows {s₀ s : State} (hf : s₀.Follows s) (q : Nat) : s₀.Follows (State.settleEntry s q) :=
    by
  unfold State.settleEntry
  repeat' first
    | with_reducible assumption | (intro _) | with_reducible apply State.holdEntry_follows
    | with_reducible apply State.put_follows | with_reducible apply State.bump_follows
    | with_reducible apply State.callEntry_follows | with_reducible apply State.modQueue_follows
    | with_reducible apply State.writeEntry_follows | with_reducible apply State.countMiss_follows
    | with_reducible apply State.endDescriptor_follows | with_reducible apply State.Follows.ite | split | dsimp only

theorem State.errorHalt_follows {s₀ s : State} (hf : s₀.Follows s) (q : Nat) (status : Nat) (addr : Nat) (dir : Nat)
    (space : Nat) (source : Nat) : s₀.Follows (State.errorHalt s q status addr dir space source) := by
  unfold State.errorHalt
  repeat' first
    | with_reducible assumption | (intro _) | with_reducible apply State.bump_follows
    | with_reducible apply State.put_follows | with_reducible apply State.recordResume_follows
    | with_reducible apply State.loseExt_follows | with_reducible apply State.modQueue_follows
    | with_reducible apply State.drainEngine_follows | with_reducible apply State.settleEntry_follows
    | with_reducible apply State.Follows.ite | split | dsimp only

theorem State.kick_follows {s₀ s : State} (hf : s₀.Follows s) (q : Nat) : s₀.Follows (State.kick s q) := by
  unfold State.kick
  repeat' first
    | with_reducible assumption | (intro _) | with_reducible apply State.modQueue_follows
    | with_reducible apply State.errorHalt_follows | with_reducible apply State.Follows.ite | split | dsimp only

theorem State.finishEntry_follows {s₀ s : State} (hf : s₀.Follows s) (q : Nat) : s₀.Follows (State.finishEntry s q) :=
    by
  unfold State.finishEntry
  repeat' first
    | with_reducible assumption | (intro _) | with_reducible apply State.settleEntry_follows
    | with_reducible apply State.kick_follows | with_reducible apply State.Follows.ite | split | dsimp only

theorem State.tryEntry_follows {s₀ s : State} (hf : s₀.Follows s) (q : Nat) : s₀.Follows (State.tryEntry s q) := by
  unfold State.tryEntry
  repeat' first
    | with_reducible assumption | (intro _) | with_reducible apply State.tryHeld_follows
    | with_reducible apply State.finishEntry_follows | with_reducible apply State.Follows.ite | split | dsimp only

theorem State.takeTails_follows {s₀ s : State} (hf : s₀.Follows s) (f : Nat) (q : Nat) (st : Nat) (ct : Nat) :
    s₀.Follows (State.takeTails s f q st ct) := by
  unfold State.takeTails
  repeat' first
    | with_reducible assumption | (intro _) | with_reducible apply State.put_follows
    | with_reducible apply State.modQueue_follows | with_reducible apply State.tryEntry_follows
    | with_reducible apply State.Follows.ite | split | dsimp only

theorem State.ringDoorbell_follows {s₀ s : State} (hf : s₀.Follows s) (f : Nat) (off : Nat) (len : Nat) (be : Nat)
    (value : Word) : s₀.Follows (State.ringDoorbell s f off len be value) := by
  unfold State.ringDoorbell
  repeat' first
    | with_reducible assumption | (intro _) | with_reducible apply State.bump_follows
    | with_reducible apply State.wakeRegion_follows | with_reducible apply State.takeTails_follows
    | with_reducible apply State.Follows.ite | split | dsimp only

theorem State.fetchGrant_follows {s₀ s : State} (hf : s₀.Follows s) : s₀.Follows (State.fetchGrant s) := by
  unfold State.fetchGrant
  repeat' first
    | with_reducible assumption | (intro _) | with_reducible apply State.servedAt_follows
    | with_reducible apply State.modQueue_follows | with_reducible apply State.askHost_follows
    | with_reducible apply State.Follows.ite | split | dsimp only

theorem State.reloadDescriptor_follows {s₀ s : State} (hf : s₀.Follows s) (q : Nat) (c : Current) (ws : List Word) :
    s₀.Follows (State.reloadDescriptor s q c ws) := by
  unfold State.reloadDescriptor
  repeat' first
    | with_reducible assumption | (intro _) | with_reducible apply State.readDescriptor_follows
    | with_reducible apply State.modQueue_follows | with_reducible apply State.finishEntry_follows
    | with_reducible refine State.Follows.pair (by assumption) ?_ | with_reducible apply State.Follows.ite | split
    | dsimp only

theorem State.takeDescriptors_follows {s₀ s : State} (hf : s₀.Follows s) (q : Nat) : s₀.Follows (State.takeDescriptors
    s q) := by
  unfold State.takeDescriptors
  repeat' first
    | with_reducible assumption | (intro _) | with_reducible apply State.Follows.each
    | with_reducible apply State.readDescriptor_follows | with_reducible apply State.modQueue_follows
    | with_reducible apply State.kick_follows | with_reducible apply State.reloadDescriptor_follows
    | with_reducible refine State.Follows.pair (by assumption) ?_ | with_reducible apply State.Follows.ite | split
    | dsimp only

theorem State.rejectCmd_follows {s₀ s : State} (hf : s₀.Follows s) (q : Nat) : s₀.Follows (State.rejectCmd s q) := by
  unfold State.rejectCmd
  repeat' first
    | with_reducible assumption | (intro _) | with_reducible apply State.put_follows
    | with_reducible apply State.Follows.ite | split | dsimp only

theorem State.zeroIndices_follows {s₀ s : State} (hf : s₀.Follows s) (q : Nat) : s₀.Follows (State.zeroIndices s q) :=
    by
  unfold State.zeroIndices
  repeat' first
    | with_reducible assumption | (intro _) | with_reducible apply State.put_follows
    | with_reducible apply State.Follows.ite | split | dsimp only

theorem State.enableQueue_follows {s₀ s : State} (hf : s₀.Follows s) (q : Nat) : s₀.Follows (State.enableQueue s q) :=
    by
  unfold State.enableQueue
  repeat' first
    | with_reducible assumption | (intro _) | with_reducible apply State.rejectCmd_follows
    | with_reducible apply State.zeroIndices_follows | with_reducible apply State.put_follows
    | with_reducible apply State.setQueue_follows | with_reducible apply State.Follows.ite | split | dsimp only

theorem State.stopQueue_follows {s₀ s : State} (hf : s₀.Follows s) (q : Nat) : s₀.Follows (State.stopQueue s q) := by
  unfold State.stopQueue
  repeat' first
    | with_reducible assumption | (intro _) | with_reducible apply State.rejectCmd_follows
    | with_reducible apply State.put_follows | with_reducible apply State.modQueue_follows
    | with_reducible apply State.Follows.ite | split | dsimp only

theorem State.goOn_follows {s₀ s : State} (hf : s₀.Follows s) (q : Nat) (op : Nat) : s₀.Follows (State.goOn s q op) :=
    by
  unfold State.goOn
  repeat' first
    | with_reducible assumption | (intro _) | with_reducible apply State.writeHeld_follows
    | with_reducible apply State.put_follows | with_reducible apply State.modQueue_follows
    | with_reducible apply State.settleState_follows | with_reducible apply State.tryEntry_follows
    | with_reducible apply State.Follows.ite | split | dsimp only

theorem State.runWaiting_follows {s₀ s : State} (hf : s₀.Follows s) (q : Nat) : s₀.Follows (State.runWaiting s q) :=
    by
  unfold State.runWaiting
  repeat' first
    | with_reducible assumption | (intro _) | with_reducible apply State.goOn_follows
    | with_reducible apply State.Follows.ite | split | dsimp only

theorem State.haltCmd_follows {s₀ s : State} (hf : s₀.Follows s) (q : Nat) (op : Nat) : s₀.Follows (State.haltCmd s q
    op) := by
  unfold State.haltCmd
  repeat' first
    | with_reducible assumption | (intro _) | with_reducible apply State.writeHeld_follows
    | with_reducible apply State.settleState_follows | with_reducible apply State.kick_follows
    | with_reducible apply State.modQueue_follows | with_reducible apply State.runWaiting_follows
    | with_reducible apply State.rejectCmd_follows | with_reducible apply State.Follows.ite | split | dsimp only

theorem State.extEnds_follows {s₀ s : State} (hf : s₀.Follows s) (q : Nat) : s₀.Follows (State.extEnds s q) := by
  unfold State.extEnds
  repeat' first
    | with_reducible assumption | (intro _) | with_reducible apply State.modQueue_follows
    | with_reducible apply State.runWaiting_follows | with_reducible apply State.Follows.ite | split | dsimp only

theorem State.failedAhead_follows {s₀ s : State} (hf : s₀.Follows s) (q : Nat) (i : Nat) (n : Nat) (addr : Nat) :
    s₀.Follows (State.failedAhead s q i n addr) := by
  unfold State.failedAhead
  repeat' first
    | with_reducible assumption | (intro _) | with_reducible apply State.modQueue_follows
    | with_reducible apply State.Follows.ite | split | dsimp only

theorem State.fetchFailed_follows {s₀ s : State} (hf : s₀.Follows s) (q : Nat) (purpose : HPurpose) (addr : Nat) :
    s₀.Follows (State.fetchFailed s q purpose addr) := by
  unfold State.fetchFailed
  repeat' first
    | with_reducible assumption | (intro _) | with_reducible apply State.errorHalt_follows
    | with_reducible apply State.extEnds_follows | with_reducible apply State.modQueue_follows
    | with_reducible apply State.failedAhead_follows | with_reducible apply State.kick_follows
    | with_reducible apply State.Follows.ite | split | dsimp only

theorem State.fetchDone_follows {s₀ s : State} (hf : s₀.Follows s) (q : Nat) (purpose : HPurpose) (bs : List Byte) :
    s₀.Follows (State.fetchDone s q purpose bs) := by
  unfold State.fetchDone
  repeat' first
    | with_reducible assumption | (intro _) | with_reducible apply State.wakeRegion_follows
    | with_reducible apply State.modQueue_follows | with_reducible apply State.extEnds_follows
    | with_reducible apply State.Follows.ite | split | dsimp only

theorem State.disableQueue_follows {s₀ s : State} (hf : s₀.Follows s) (q : Nat) : s₀.Follows (State.disableQueue s q)
    := by
  unfold State.disableQueue
  repeat' first
    | with_reducible assumption | (intro _) | with_reducible apply State.bump_follows
    | with_reducible apply State.clearHeld_follows | with_reducible apply State.zeroIndices_follows
    | with_reducible apply State.put_follows | with_reducible apply State.dropFetches_follows
    | with_reducible apply State.setQueue_follows | with_reducible apply State.rejectCmd_follows
    | with_reducible apply State.Follows.ite | split | dsimp only

theorem State.queueCmd_follows {s₀ s : State} (hf : s₀.Follows s) (q : Nat) (op : Nat) : s₀.Follows (State.queueCmd s
    q op) := by
  unfold State.queueCmd
  repeat' first
    | with_reducible assumption | (intro _) | with_reducible apply State.enableQueue_follows
    | with_reducible apply State.stopQueue_follows | with_reducible apply State.haltCmd_follows
    | with_reducible apply State.disableQueue_follows | with_reducible apply State.Follows.ite | split | dsimp only

theorem State.boundaryHalt_follows {s₀ s : State} (hf : s₀.Follows s) (q : Nat) : s₀.Follows (State.boundaryHalt s q)
    := by
  unfold State.boundaryHalt
  repeat' first
    | with_reducible assumption | (intro _) | with_reducible apply State.put_follows
    | with_reducible apply State.recordResume_follows | with_reducible apply State.drainEngine_follows
    | with_reducible apply State.loseExt_follows | with_reducible apply State.modQueue_follows
    | with_reducible apply State.settleEntry_follows | with_reducible apply State.Follows.ite | split | dsimp only

theorem State.bmeHalt_follows {s₀ s : State} (hf : s₀.Follows s) (q : Nat) : s₀.Follows (State.bmeHalt s q) := by
  unfold State.bmeHalt
  repeat' first
    | with_reducible assumption | (intro _) | with_reducible apply State.dropFetches_follows
    | with_reducible apply State.boundaryHalt_follows | with_reducible apply State.finishEntry_follows
    | with_reducible apply State.Follows.ite | split | dsimp only

theorem State.haltChannels_follows {s₀ s : State} (hf : s₀.Follows s) (f : Nat) : s₀.Follows (State.haltChannels s f)
    := by
  unfold State.haltChannels
  repeat' first
    | with_reducible assumption | (intro _) | with_reducible apply State.Follows.each
    | with_reducible apply State.bmeHalt_follows | with_reducible apply State.Follows.ite | split | dsimp only

theorem State.retryEntries_follows {s₀ s : State} (hf : s₀.Follows s) : s₀.Follows (State.retryEntries s) := by
  unfold State.retryEntries
  repeat' first
    | with_reducible assumption | (intro _) | with_reducible apply State.Follows.each
    | with_reducible apply State.tryEntry_follows | with_reducible apply State.Follows.ite | split | dsimp only

theorem State.kickQueues_follows {s₀ s : State} (hf : s₀.Follows s) (f : Nat) : s₀.Follows (State.kickQueues s f) :=
    by
  unfold State.kickQueues
  repeat' first
    | with_reducible assumption | (intro _) | with_reducible apply State.Follows.each
    | with_reducible apply State.tryEntry_follows | with_reducible apply State.Follows.ite | split | dsimp only

theorem State.limited_follows {s₀ s : State} (hf : s₀.Follows s) (e : Nat) (q : Nat) (n : Nat) (p : Nat) (write :
    Bool) (at_ : Option Nat) : ∀ t, State.limited s e q n p write at_ = some t → s₀.Follows t := by
  unfold State.limited
  repeat' first
    | with_reducible assumption | exact optNone | with_reducible refine optSome ?_
    | with_reducible refine optIte ?_ ?_ | split | with_reducible apply State.modEng_follows
    | with_reducible apply State.Follows.ite | dsimp only | (intro _)

theorem State.startPace_follows {s₀ s : State} (hf : s₀.Follows s) (e : Nat) : s₀.Follows (State.startPace s e) := by
  unfold State.startPace
  repeat' first
    | with_reducible assumption | (intro _) | with_reducible apply State.put_follows
    | with_reducible apply State.modEng_follows | with_reducible apply State.Follows.ite | split | dsimp only

theorem State.ledgerHalt_follows {s₀ s : State} (hf : s₀.Follows s) (q : Nat) (a : Nat) (denied : Bool) (write : Bool)
    : s₀.Follows (State.ledgerHalt s q a denied write) := by
  unfold State.ledgerHalt
  repeat' first
    | with_reducible assumption | (intro _) | with_reducible apply State.errorHalt_follows
    | with_reducible apply State.Follows.ite | split | dsimp only

/-- The state after an attempt of an engine. -/
def EngStep.after : EngStep → State
  | .went s | .stuck s | .paced s | .halted s => s

theorem State.Follows.afterWent {s₀ s : State} (h : s₀.Follows s) : s₀.Follows (EngStep.went s).after := h

theorem State.Follows.afterStuck {s₀ s : State} (h : s₀.Follows s) : s₀.Follows (EngStep.stuck s).after := h

theorem State.Follows.afterPaced {s₀ s : State} (h : s₀.Follows s) : s₀.Follows (EngStep.paced s).after := h

theorem State.Follows.afterHalted {s₀ s : State} (h : s₀.Follows s) : s₀.Follows (EngStep.halted s).after := h

theorem State.Follows.afterIte {s₀ : State} {c : Prop} [Decidable c] {a b : EngStep} (ha : s₀.Follows a.after)
    (hb : s₀.Follows b.after) : s₀.Follows (if c then a else b).after := by
  split <;> assumption

theorem State.Follows.step {s₀ s : State} {r : EngStep} (h : s₀.Follows r.after)
    (k : r = .went s ∨ r = .stuck s ∨ r = .paced s ∨ r = .halted s) : s₀.Follows s := by
  rcases k with rfl | rfl | rfl | rfl <;> exact h

theorem State.readStep_follows {s₀ s : State} (hf : s₀.Follows s) (e : Nat) (q : Nat) (c : Current) (at_ : Option Nat)
    : s₀.Follows (State.readStep s e q c at_).after := by
  unfold State.readStep
  repeat' first
    | with_reducible assumption | with_reducible apply State.ledgerHalt_follows
    | with_reducible apply State.modPort_follows | with_reducible apply State.modEng_follows
    | with_reducible apply State.enqueue_follows | with_reducible apply State.askHost_follows
    | with_reducible refine State.limited_follows ?_ _ _ _ _ _ _ _ (by assumption)
    | with_reducible apply State.Follows.afterIte | with_reducible apply State.Follows.afterWent
    | with_reducible apply State.Follows.afterStuck | with_reducible apply State.Follows.afterPaced
    | with_reducible apply State.Follows.afterHalted | split | dsimp only

theorem State.wrote_follows {s₀ s : State} (hf : s₀.Follows s) (e : Nat) (q : Nat) (c : Current) (x : Nat) (n : Nat) :
    s₀.Follows (State.wrote s e q c x n) := by
  unfold State.wrote
  repeat' first
    | with_reducible assumption | (intro _) | with_reducible apply State.modEng_follows
    | with_reducible apply State.modQueue_follows | with_reducible apply State.put_follows
    | with_reducible apply State.bumpBy_follows | with_reducible apply State.Follows.ite | split | dsimp only

theorem State.writeStep_follows {s₀ s : State} (hf : s₀.Follows s) (e : Nat) (q : Nat) (c : Current) (at_ : Option
    Nat) : s₀.Follows (State.writeStep s e q c at_).after := by
  unfold State.writeStep
  repeat' first
    | with_reducible assumption | with_reducible apply State.ledgerHalt_follows
    | with_reducible apply State.modQueue_follows | with_reducible apply State.wrote_follows
    | with_reducible apply State.enqueue_follows | with_reducible apply State.callHost_follows
    | with_reducible apply State.hostWrite_follows
    | with_reducible refine State.limited_follows ?_ _ _ _ _ _ _ _ (by assumption)
    | with_reducible apply State.Follows.afterIte | with_reducible apply State.Follows.afterWent
    | with_reducible apply State.Follows.afterStuck | with_reducible apply State.Follows.afterPaced
    | with_reducible apply State.Follows.afterHalted | split | dsimp only

theorem State.beginPiece_follows {s₀ s : State} (hf : s₀.Follows s) (e : Nat) (q : Nat) (c : Current) : s₀.Follows
    (State.beginPiece s e q c) := by
  unfold State.beginPiece
  repeat' first
    | with_reducible assumption | (intro _) | with_reducible apply State.modEng_follows
    | with_reducible apply State.modQueue_follows | with_reducible apply State.put_follows
    | with_reducible apply State.Follows.ite | split | dsimp only

theorem State.finishRun_follows {s₀ s : State} (hf : s₀.Follows s) (e : Nat) (q : Nat) (status : Nat) : s₀.Follows
    (State.finishRun s e q status) := by
  unfold State.finishRun
  repeat' first
    | with_reducible assumption | (intro _) | with_reducible apply State.modQueue_follows
    | with_reducible apply State.releaseEngine_follows | with_reducible apply State.bump_follows
    | with_reducible apply State.finishEntry_follows | with_reducible apply State.Follows.ite | split | dsimp only

theorem State.nextPiece_follows {s₀ s : State} (hf : s₀.Follows s) (e : Nat) (q : Nat) (c : Current) : s₀.Follows
    (State.nextPiece s e q c).2 := by
  unfold State.nextPiece
  repeat' first
    | with_reducible assumption | (intro _) | with_reducible apply State.finishRun_follows
    | with_reducible apply State.beginPiece_follows | with_reducible apply State.Follows.ite | split | dsimp only

theorem State.runFor_follows {s₀ s : State} (hf : s₀.Follows s) (e : Nat) (q : Nat) (x3 : Nat) (x4 : Option Nat) :
    s₀.Follows (State.runFor s e q x3 x4) := by
  induction x3 generalizing s x4 with
  | zero =>
    unfold State.runFor
    repeat' first
      | with_reducible assumption | (intro _) | with_reducible apply State.writeStep_follows
      | with_reducible apply State.endPace_follows | with_reducible apply State.readStep_follows
      | with_reducible apply State.startPace_follows | with_reducible apply State.nextPiece_follows
      | with_reducible refine State.Follows.pair (by assumption) ?_
      | with_reducible refine State.Follows.step ?_ (Or.inl (by assumption))
      | with_reducible refine State.Follows.step ?_ (Or.inr (Or.inl (by assumption)))
      | with_reducible refine State.Follows.step ?_ (Or.inr (Or.inr (Or.inl (by assumption))))
      | with_reducible refine State.Follows.step ?_ (Or.inr (Or.inr (Or.inr (by assumption))))
      | with_reducible apply State.Follows.ite | split | dsimp only
  | succ n ih =>
    unfold State.runFor
    repeat' first
      | with_reducible assumption | (intro _) | with_reducible apply ih | with_reducible apply State.writeStep_follows
      | with_reducible apply State.endPace_follows | with_reducible apply State.readStep_follows
      | with_reducible apply State.startPace_follows | with_reducible apply State.nextPiece_follows
      | with_reducible refine State.Follows.pair (by assumption) ?_
      | with_reducible refine State.Follows.step ?_ (Or.inl (by assumption))
      | with_reducible refine State.Follows.step ?_ (Or.inr (Or.inl (by assumption)))
      | with_reducible refine State.Follows.step ?_ (Or.inr (Or.inr (Or.inl (by assumption))))
      | with_reducible refine State.Follows.step ?_ (Or.inr (Or.inr (Or.inr (by assumption))))
      | with_reducible apply State.Follows.ite | split | dsimp only

theorem State.runEngine_follows {s₀ s : State} (hf : s₀.Follows s) (e : Nat) (at_ : Option Nat) : s₀.Follows
    (State.runEngine s e at_) := by
  unfold State.runEngine
  repeat' first
    | with_reducible assumption | (intro _) | with_reducible apply State.runFor_follows
    | with_reducible apply State.noteEngine_follows | with_reducible apply State.Follows.ite | split | dsimp only

theorem State.runEngines_follows {s₀ s : State} (hf : s₀.Follows s) : s₀.Follows (State.runEngines s) := by
  unfold State.runEngines
  repeat' first
    | with_reducible assumption | (intro _) | with_reducible apply State.Follows.each
    | with_reducible apply State.runEngine_follows | with_reducible apply State.Follows.ite | split | dsimp only

theorem State.bindEngine_follows {s₀ s : State} (hf : s₀.Follows s) (e : Nat) (q : Nat) : s₀.Follows (State.bindEngine
    s e q) := by
  unfold State.bindEngine
  repeat' first
    | with_reducible assumption | (intro _) | with_reducible apply State.modQueue_follows
    | with_reducible apply State.setEng_follows | with_reducible apply State.put_follows
    | with_reducible apply State.beginPiece_follows | with_reducible apply State.runEngine_follows
    | with_reducible apply State.Follows.ite | split | dsimp only

theorem State.engineGrant_follows {s₀ s : State} (hf : s₀.Follows s) (g : Nat) : s₀.Follows (State.engineGrant s g) :=
    by
  unfold State.engineGrant
  repeat' first
    | with_reducible assumption | (intro _) | with_reducible apply State.wakeRegion_follows
    | with_reducible apply State.servedAt_follows | with_reducible apply State.bindEngine_follows
    | with_reducible apply State.Follows.ite | split | dsimp only

theorem State.engineData_follows {s₀ s : State} (hf : s₀.Follows s) (e : Nat) (pos : Nat) (ofs : Nat) (bs : List Byte)
    (done : Bool) : s₀.Follows (State.engineData s e pos ofs bs done) := by
  unfold State.engineData
  repeat' first
    | with_reducible assumption | (intro _) | with_reducible apply State.bumpBy_follows
    | with_reducible apply State.modEng_follows | with_reducible apply State.noteEngine_follows
    | with_reducible apply State.runEngine_follows | with_reducible apply State.Follows.ite | split | dsimp only

theorem State.engineError_follows {s₀ s : State} (hf : s₀.Follows s) (e : Nat) (pos : Nat) (status : Nat) (addr : Nat)
    (space : Nat) (source : Nat) : s₀.Follows (State.engineError s e pos status addr space source) := by
  unfold State.engineError
  repeat' first
    | with_reducible assumption | (intro _) | with_reducible apply State.modEng_follows
    | with_reducible apply State.bump_follows | with_reducible apply State.noteEngine_follows
    | with_reducible apply State.errorHalt_follows | with_reducible apply State.Follows.ite | split | dsimp only

theorem State.drained_follows {s₀ s : State} (hf : s₀.Follows s) (e : Nat) : s₀.Follows (State.drained s e) := by
  unfold State.drained
  repeat' first
    | with_reducible assumption | (intro _) | with_reducible apply State.releaseEngine_follows
    | with_reducible apply State.runWaiting_follows | with_reducible apply State.Follows.ite | split | dsimp only

theorem State.takeExtension_follows {s₀ s : State} (hf : s₀.Follows s) (q : Nat) : s₀.Follows (State.takeExtension s
    q) := by
  unfold State.takeExtension
  repeat' first
    | with_reducible assumption | (intro _) | with_reducible apply State.tryAdmission_follows
    | with_reducible apply State.modQueue_follows | with_reducible apply State.runEngine_follows
    | with_reducible apply State.finishEntry_follows | with_reducible refine State.Follows.pair (by assumption) ?_
    | with_reducible apply State.Follows.ite | split | dsimp only

theorem State.limiterRelease_follows {s₀ s : State} (hf : s₀.Follows s) (e : Nat) : s₀.Follows (State.limiterRelease s
    e) := by
  unfold State.limiterRelease
  repeat' first
    | with_reducible assumption | (intro _) | with_reducible apply State.runEngine_follows
    | with_reducible apply State.advance_follows | with_reducible apply State.Follows.ite | split | dsimp only

theorem State.writeAccepted_follows {s₀ s : State} (hf : s₀.Follows s) (q : Nat) (piece : Nat) (ofs : Nat) :
    s₀.Follows (State.writeAccepted s q piece ofs) := by
  unfold State.writeAccepted
  repeat' first
    | with_reducible assumption | (intro _) | with_reducible apply State.modQueue_follows
    | with_reducible apply State.finishEntry_follows | with_reducible apply State.runWaiting_follows
    | with_reducible apply State.Follows.ite | split | dsimp only

theorem State.writeDropped_follows {s₀ s : State} (hf : s₀.Follows s) (e : Nat) (q : Nat) (piece : Nat) (ofs : Nat) :
    s₀.Follows (State.writeDropped s e q piece ofs) := by
  unfold State.writeDropped
  repeat' first
    | with_reducible assumption | (intro _) | with_reducible apply State.modQueue_follows
    | with_reducible apply State.bump_follows | with_reducible apply State.recordResume_follows
    | with_reducible apply State.settleEntry_follows | with_reducible apply State.errorHalt_follows
    | with_reducible apply State.Follows.ite | split | dsimp only

theorem State.groupFault_follows {s₀ s : State} (hf : s₀.Follows s) (e : Nat) (hold : Bool) : s₀.Follows
    (State.groupFault s e hold) := by
  unfold State.groupFault
  repeat' first
    | with_reducible assumption | (intro _) | with_reducible apply State.put_follows
    | with_reducible apply State.flag_follows | with_reducible apply State.Follows.foldl
    | with_reducible apply State.Follows.each | with_reducible apply State.errorHalt_follows
    | with_reducible apply State.modEng_follows | with_reducible apply State.report_follows
    | with_reducible apply State.Follows.ite | split | dsimp only

theorem State.engineFault_follows {s₀ s : State} (hf : s₀.Follows s) (e : Nat) (k : EngineFault) : s₀.Follows
    (State.engineFault s e k) := by
  unfold State.engineFault
  repeat' first
    | with_reducible assumption | (intro _) | with_reducible apply State.groupFault_follows
    | with_reducible apply State.put_follows | with_reducible apply State.bump_follows
    | with_reducible apply State.report_follows | with_reducible apply State.Follows.ite | split | dsimp only

end Sys2Proof.Machine
end

