-- ==== Sys2Proof/Laws/FollowsPorts.lean ====
section
/-! SUPPORT. What the operations of Joist ports, links and the reads of local devices keep (State.Follows): one lemma
per operation. -/

namespace Sys2Proof.Machine

set_option linter.all false
set_option Elab.async false

theorem State.sendPm_follows {s₀ s : State} (hf : s₀.Follows s) (p : Nat) (code : Nat) : s₀.Follows (State.sendPm s p
    code) := by
  unfold State.sendPm
  repeat' first
    | with_reducible assumption | (intro _) | with_reducible apply State.endDoze_follows
    | with_reducible apply State.emit_follows | with_reducible apply State.queueUnits_follows
    | with_reducible apply State.noteAck_follows | with_reducible apply State.Follows.ite | split | dsimp only

theorem State.idleDue_follows {s₀ s : State} (hf : s₀.Follows s) (p : Nat) : s₀.Follows (State.idleDue s p) := by
  unfold State.idleDue
  repeat' first
    | with_reducible assumption | (intro _) | with_reducible apply State.sendIdle_follows
    | with_reducible apply State.Follows.ite | split | dsimp only

theorem State.rebuildPlank_follows {s₀ s : State} (hf : s₀.Follows s) : s₀.Follows (State.rebuildPlank s) := by
  unfold State.rebuildPlank
  repeat' first
    | with_reducible assumption | (intro _) | with_reducible apply State.Follows.ite | split | dsimp only
  all_goals with_reducible apply State.Follows.other
  repeat' first
    | with_reducible assumption | (intro _) | with_reducible apply State.Follows.ite | split | dsimp only

theorem State.portPlank_follows {s₀ s : State} (hf : s₀.Follows s) (p : Nat) : s₀.Follows (State.portPlank s p) := by
  unfold State.portPlank
  repeat' first
    | with_reducible assumption | (intro _) | with_reducible apply State.rebuildPlank_follows
    | with_reducible apply State.Follows.ite | split | dsimp only

theorem State.stopPortTimers_follows {s₀ s : State} (hf : s₀.Follows s) (p : Nat) : s₀.Follows (State.stopPortTimers s
    p) := by
  unfold State.stopPortTimers
  repeat' first
    | with_reducible assumption | (intro _) | with_reducible apply State.disarmAll_follows
    | with_reducible apply State.Follows.ite | split | dsimp only

theorem State.enterReset_follows {s₀ s : State} (hf : s₀.Follows s) (p : Nat) : s₀.Follows (State.enterReset s p) :=
    by
  unfold State.enterReset
  repeat' first
    | with_reducible assumption | (intro _) | with_reducible apply State.stopPortTimers_follows
    | with_reducible apply State.Follows.each | with_reducible apply State.put_follows
    | with_reducible apply State.modPort_follows | with_reducible apply State.stopLane_follows
    | with_reducible apply State.arm_follows | with_reducible apply State.Follows.ite | split | dsimp only

theorem State.tryTrain_follows {s₀ s : State} (hf : s₀.Follows s) (p : Nat) : s₀.Follows (State.tryTrain s p) := by
  unfold State.tryTrain
  repeat' first
    | with_reducible assumption | (intro _) | with_reducible apply State.startTraining_follows
    | with_reducible apply State.wakeRegion_follows | with_reducible apply State.Follows.ite | split | dsimp only

theorem State.bayReleased_follows {s₀ s : State} (hf : s₀.Follows s) (b : Nat) : s₀.Follows (State.bayReleased s b) :=
    by
  unfold State.bayReleased
  repeat' first
    | with_reducible assumption | (intro _) | with_reducible apply State.put_follows
    | with_reducible apply State.Follows.ite | split | dsimp only

theorem State.disablePort_follows {s₀ s : State} (hf : s₀.Follows s) (p : Nat) : s₀.Follows (State.disablePort s p) :=
    by
  unfold State.disablePort
  repeat' first
    | with_reducible assumption | (intro _) | with_reducible apply State.stopPortTimers_follows
    | with_reducible apply State.Follows.each | with_reducible apply State.put_follows
    | with_reducible apply State.modPort_follows | with_reducible apply State.stopLane_follows
    | with_reducible apply State.bayReleased_follows | with_reducible apply State.Follows.ite | split | dsimp only

theorem State.releaseReset_follows {s₀ s : State} (hf : s₀.Follows s) (p : Nat) : s₀.Follows (State.releaseReset s p)
    := by
  unfold State.releaseReset
  repeat' first
    | with_reducible assumption | (intro _) | with_reducible apply State.Follows.each
    | with_reducible apply State.modPort_follows | with_reducible apply State.put_follows
    | with_reducible apply State.setBayState_follows | with_reducible apply State.bump_follows
    | with_reducible apply State.lanesRun_follows | with_reducible apply State.bayReleased_follows
    | with_reducible apply State.tryTrain_follows | with_reducible apply State.Follows.ite | split | dsimp only
  all_goals with_reducible apply State.Follows.other
  repeat' first
    | with_reducible assumption | (intro _) | with_reducible apply State.Follows.each
    | with_reducible apply State.modPort_follows | with_reducible apply State.put_follows
    | with_reducible apply State.setBayState_follows | with_reducible apply State.bump_follows
    | with_reducible apply State.lanesRun_follows | with_reducible apply State.bayReleased_follows
    | with_reducible apply State.tryTrain_follows | with_reducible apply State.Follows.ite | split | dsimp only

theorem State.loseAt_follows {s₀ s : State} (hf : s₀.Follows s) (x1 : Loss) : s₀.Follows (State.loseAt s x1) := by
  unfold State.loseAt
  repeat' first
    | with_reducible assumption | (intro _) | with_reducible apply State.writeDropped_follows
    | with_reducible apply State.engineError_follows | with_reducible apply State.Follows.ite | split | dsimp only

theorem State.endRequests_follows {s₀ s : State} (hf : s₀.Follows s) (p : Nat) : s₀.Follows (State.endRequests s p) :=
    by
  unfold State.endRequests
  repeat' first
    | with_reducible assumption | (intro _) | with_reducible apply State.bumpBy_follows
    | with_reducible apply State.modPort_follows | with_reducible apply State.Follows.each
    | with_reducible apply State.bump_follows | with_reducible apply State.countDown_follows
    | with_reducible apply State.loseAt_follows | with_reducible apply State.modHost_follows
    | with_reducible apply State.answerReads_follows | with_reducible apply State.noteReplay_follows
    | with_reducible apply State.put_follows | with_reducible apply State.Follows.ite | split | dsimp only

theorem State.portDown_follows {s₀ s : State} (hf : s₀.Follows s) (p : Nat) (cause : Nat) : s₀.Follows (State.portDown
    s p cause) := by
  unfold State.portDown
  repeat' first
    | with_reducible assumption | (intro _) | with_reducible apply State.stopPortTimers_follows
    | with_reducible apply State.Follows.each | with_reducible apply State.put_follows
    | with_reducible apply State.stopLane_follows | with_reducible apply State.flag_follows
    | with_reducible apply State.modPort_follows | with_reducible apply State.endRequests_follows
    | with_reducible apply State.judgeHolds_follows | with_reducible apply State.report_follows
    | with_reducible apply State.portPlank_follows | with_reducible apply State.arm_follows
    | with_reducible apply State.Follows.ite | split | dsimp only

theorem State.afterDown_follows {s₀ s : State} (hf : s₀.Follows s) (p : Nat) : s₀.Follows (State.afterDown s p) := by
  unfold State.afterDown
  repeat' first
    | with_reducible assumption | (intro _) | with_reducible apply State.disablePort_follows
    | with_reducible apply State.enterReset_follows | with_reducible apply State.startTraining_follows
    | with_reducible apply State.Follows.ite | split | dsimp only

theorem State.freshLink_follows {s₀ s : State} (hf : s₀.Follows s) (p : Nat) : s₀.Follows (State.freshLink s p) := by
  unfold State.freshLink
  repeat' first
    | with_reducible assumption | (intro _) | with_reducible apply State.put_follows
    | with_reducible apply State.setWord_follows | with_reducible apply State.Follows.ite | split | dsimp only

theorem State.portUp_follows {s₀ s : State} (hf : s₀.Follows s) (p : Nat) : s₀.Follows (State.portUp s p) := by
  unfold State.portUp
  repeat' first
    | with_reducible assumption | (intro _) | with_reducible apply State.freshLink_follows
    | with_reducible apply State.Follows.each | with_reducible apply State.put_follows
    | with_reducible apply State.modPort_follows | with_reducible apply State.disarm_follows
    | with_reducible apply State.judgeHolds_follows | with_reducible apply State.portPlank_follows
    | with_reducible apply State.sendFrame_follows | with_reducible apply State.arm_follows
    | with_reducible apply State.pump_follows | with_reducible apply State.watchLock_follows
    | with_reducible apply State.quiet_follows | with_reducible apply State.Follows.ite | split | dsimp only

theorem State.openPeriod_follows {s₀ s : State} (hf : s₀.Follows s) (p : Nat) : s₀.Follows (State.openPeriod s p) :=
    by
  unfold State.openPeriod
  repeat' first
    | with_reducible assumption | (intro _) | with_reducible apply State.Follows.each
    | with_reducible apply State.endTraining_follows | with_reducible apply State.openActive_follows
    | with_reducible apply State.freshLink_follows | with_reducible apply State.emit_follows
    | with_reducible apply State.queueUnits_follows | with_reducible apply State.modPort_follows
    | with_reducible apply State.portUp_follows | with_reducible apply State.Follows.ite | split | dsimp only

theorem State.judgeDegraded_follows {s₀ s : State} (hf : s₀.Follows s) (p : Nat) : s₀.Follows (State.judgeDegraded s
    p) := by
  unfold State.judgeDegraded
  repeat' first
    | with_reducible assumption | (intro _) | with_reducible apply State.flag_follows
    | with_reducible apply State.Follows.ite | split | dsimp only

theorem State.countDrop_follows {s₀ s : State} (hf : s₀.Follows s) (p : Nat) (x : Nat) : s₀.Follows (State.countDrop s
    p x) := by
  unfold State.countDrop
  repeat' first
    | with_reducible assumption | (intro _) | with_reducible apply State.bump_follows
    | with_reducible apply State.report_follows | with_reducible apply State.Follows.ite | split | dsimp only

theorem State.announceMask_follows {s₀ s : State} (hf : s₀.Follows s) (p : Nat) (m : Nat) : s₀.Follows
    (State.announceMask s p m) := by
  unfold State.announceMask
  repeat' first
    | with_reducible assumption | (intro _) | with_reducible apply State.endDoze_follows
    | with_reducible apply State.emit_follows | with_reducible apply State.queueUnits_follows
    | with_reducible apply State.noteAck_follows | with_reducible apply State.modPort_follows
    | with_reducible apply State.Follows.ite | split | dsimp only

theorem State.changeTxMask_follows {s₀ s : State} (hf : s₀.Follows s) (p : Nat) (m : Nat) : s₀.Follows
    (State.changeTxMask s p m) := by
  unfold State.changeTxMask
  repeat' first
    | with_reducible assumption | (intro _) | with_reducible apply State.put_follows
    | with_reducible apply State.modPort_follows | with_reducible apply State.Follows.each
    | with_reducible apply State.countDrop_follows | with_reducible apply State.judgeDegraded_follows
    | with_reducible apply State.Follows.ite | split | dsimp only

theorem State.endActive_follows {s₀ s : State} (hf : s₀.Follows s) (p : Nat) (nulls : List Nat) : s₀.Follows
    (State.endActive s p nulls) := by
  unfold State.endActive
  repeat' first
    | with_reducible assumption | (intro _) | with_reducible apply State.Follows.each
    | with_reducible apply State.sendWords_follows | with_reducible apply State.modLane_follows
    | with_reducible apply State.modPort_follows | with_reducible apply State.Follows.ite | split | dsimp only

theorem State.setRxMask_follows {s₀ s : State} (hf : s₀.Follows s) (p : Nat) (m : Nat) : s₀.Follows (State.setRxMask s
    p m) := by
  unfold State.setRxMask
  repeat' first
    | with_reducible assumption | (intro _) | with_reducible apply State.put_follows
    | with_reducible apply State.Follows.each | with_reducible apply State.countDrop_follows
    | with_reducible apply State.disarm_follows | with_reducible apply State.judgeDegraded_follows
    | with_reducible apply State.watchLock_follows | with_reducible apply State.Follows.ite | split | dsimp only

theorem State.dropLane_follows {s₀ s : State} (hf : s₀.Follows s) (p : Nat) (x : Nat) : s₀.Follows (State.dropLane s p
    x) := by
  unfold State.dropLane
  repeat' first
    | with_reducible assumption | (intro _) | with_reducible apply State.modPort_follows
    | with_reducible apply State.put_follows | with_reducible apply State.arm_follows
    | with_reducible apply State.watchLock_follows | with_reducible apply State.sendIdle_follows
    | with_reducible apply State.Follows.ite | split | dsimp only

theorem State.laneSetFailed_follows {s₀ s : State} (hf : s₀.Follows s) (p : Nat) : s₀.Follows (State.laneSetFailed s
    p) := by
  unfold State.laneSetFailed
  repeat' first
    | with_reducible assumption | (intro _) | with_reducible apply State.portDown_follows
    | with_reducible apply State.Follows.ite | split | dsimp only

theorem State.relockLane_follows {s₀ s : State} (hf : s₀.Follows s) (p : Nat) : s₀.Follows (State.relockLane s p) :=
    by
  unfold State.relockLane
  repeat' first
    | with_reducible assumption | (intro _) | with_reducible apply State.modPort_follows
    | with_reducible apply State.put_follows | with_reducible apply State.watchLock_follows
    | with_reducible apply State.sendIdle_follows | with_reducible apply State.Follows.ite | split | dsimp only

theorem State.enterDoze_follows {s₀ s : State} (hf : s₀.Follows s) (p : Nat) : s₀.Follows (State.enterDoze s p) := by
  unfold State.enterDoze
  repeat' first
    | with_reducible assumption | (intro _) | with_reducible apply State.endActive_follows
    | with_reducible apply State.Follows.each | with_reducible apply State.sendMarker_follows
    | with_reducible apply State.stopSending_follows | with_reducible apply State.put_follows
    | with_reducible apply State.disarm_follows | with_reducible apply State.arm_follows
    | with_reducible apply State.Follows.ite | split | dsimp only

theorem State.sendKeepalive_follows {s₀ s : State} (hf : s₀.Follows s) (p : Nat) : s₀.Follows (State.sendKeepalive s
    p) := by
  unfold State.sendKeepalive
  repeat' first
    | with_reducible assumption | (intro _) | with_reducible apply State.Follows.each
    | with_reducible apply State.leaveIdle_follows | with_reducible apply State.sendMarker_follows
    | with_reducible apply State.endTraining_follows | with_reducible apply State.arm_follows
    | with_reducible apply State.Follows.ite | split | dsimp only

theorem State.askSleep_follows {s₀ s : State} (hf : s₀.Follows s) (p : Nat) : s₀.Follows (State.askSleep s p) := by
  unfold State.askSleep
  repeat' first
    | with_reducible assumption | (intro _) | with_reducible apply State.sendPm_follows
    | with_reducible apply State.modPort_follows | with_reducible apply State.arm_follows
    | with_reducible apply State.Follows.ite | split | dsimp only

theorem State.agreeSleep_follows {s₀ s : State} (hf : s₀.Follows s) (p : Nat) : s₀.Follows (State.agreeSleep s p) :=
    by
  unfold State.agreeSleep
  repeat' first
    | with_reducible assumption | (intro _) | with_reducible apply State.endDoze_follows
    | with_reducible apply State.modPort_follows | with_reducible apply State.disarm_follows
    | with_reducible apply State.Follows.ite | split | dsimp only

theorem State.takeSleepReq_follows {s₀ s : State} (hf : s₀.Follows s) (p : Nat) : s₀.Follows (State.takeSleepReq s p)
    := by
  unfold State.takeSleepReq
  repeat' first
    | with_reducible assumption | (intro _) | with_reducible apply State.agreeSleep_follows
    | with_reducible apply State.endDoze_follows | with_reducible apply State.sendPm_follows
    | with_reducible apply State.Follows.ite | split | dsimp only

theorem State.takeSleepAck_follows {s₀ s : State} (hf : s₀.Follows s) (p : Nat) : s₀.Follows (State.takeSleepAck s p)
    := by
  unfold State.takeSleepAck
  repeat' first
    | with_reducible assumption | (intro _) | with_reducible apply State.agreeSleep_follows
    | with_reducible apply State.Follows.ite | split | dsimp only

theorem State.sleepRefused_follows {s₀ s : State} (hf : s₀.Follows s) (p : Nat) : s₀.Follows (State.sleepRefused s p)
    := by
  unfold State.sleepRefused
  repeat' first
    | with_reducible assumption | (intro _) | with_reducible apply State.modPort_follows
    | with_reducible apply State.disarm_follows | with_reducible apply State.quiet_follows
    | with_reducible apply State.Follows.ite | split | dsimp only

theorem State.fallAsleep_follows {s₀ s : State} (hf : s₀.Follows s) (p : Nat) : s₀.Follows (State.fallAsleep s p) :=
    by
  unfold State.fallAsleep
  repeat' first
    | with_reducible assumption | (intro _) | with_reducible apply State.disarmAll_follows
    | with_reducible apply State.put_follows | with_reducible apply State.modPort_follows
    | with_reducible apply State.wakePort_follows | with_reducible apply State.Follows.ite | split | dsimp only

theorem State.toneDetected_follows {s₀ s : State} (hf : s₀.Follows s) (p : Nat) : s₀.Follows (State.toneDetected s p)
    := by
  unfold State.toneDetected
  repeat' first
    | with_reducible assumption | (intro _) | with_reducible apply State.modPort_follows
    | with_reducible apply State.wakeRegion_follows | with_reducible apply State.trainWoken_follows
    | with_reducible apply State.disarmAll_follows | with_reducible apply State.startTraining_follows
    | with_reducible apply State.Follows.ite | split | dsimp only

theorem State.resend_follows {s₀ s : State} (hf : s₀.Follows s) (p : Nat) (e : Nat × EgFrame) : s₀.Follows
    (State.resend s p e) := by
  unfold State.resend
  repeat' first
    | with_reducible assumption | (intro _) | with_reducible apply State.emit_follows
    | with_reducible apply State.queueUnits_follows | with_reducible apply State.Follows.ite | split | dsimp only

theorem State.replayAll_follows {s₀ s : State} (hf : s₀.Follows s) (p : Nat) : s₀.Follows (State.replayAll s p) := by
  unfold State.replayAll
  repeat' first
    | with_reducible assumption | (intro _) | with_reducible apply State.portDown_follows
    | with_reducible apply State.endDoze_follows | with_reducible apply State.put_follows
    | with_reducible apply State.bump_follows | with_reducible apply State.bumpBy_follows
    | with_reducible apply State.Follows.each | with_reducible apply State.resend_follows
    | with_reducible apply State.noteAck_follows | with_reducible apply State.arm_follows
    | with_reducible apply State.Follows.ite | split | dsimp only

theorem State.retrainPort_follows {s₀ s : State} (hf : s₀.Follows s) (p : Nat) : s₀.Follows (State.retrainPort s p) :=
    by
  unfold State.retrainPort
  repeat' first
    | with_reducible assumption | (intro _) | with_reducible apply State.put_follows
    | with_reducible apply State.portDown_follows | with_reducible apply State.disarm_follows
    | with_reducible apply State.startTraining_follows | with_reducible apply State.Follows.ite | split | dsimp only

theorem State.resetPort_follows {s₀ s : State} (hf : s₀.Follows s) (p : Nat) : s₀.Follows (State.resetPort s p) := by
  unfold State.resetPort
  repeat' first
    | with_reducible assumption | (intro _) | with_reducible apply State.put_follows
    | with_reducible apply State.Follows.each | with_reducible apply State.modPort_follows
    | with_reducible apply State.arm_follows | with_reducible apply State.portDown_follows
    | with_reducible apply State.enterReset_follows | with_reducible apply State.endRequests_follows
    | with_reducible apply State.portPlank_follows | with_reducible apply State.Follows.ite | split | dsimp only

theorem State.testDown_follows {s₀ s : State} (hf : s₀.Follows s) (p : Nat) : s₀.Follows (State.testDown s p) := by
  unfold State.testDown
  repeat' first
    | with_reducible assumption | (intro _) | with_reducible apply State.Follows.each
    | with_reducible apply State.put_follows | with_reducible apply State.Follows.ite | split | dsimp only

theorem State.bayDown_follows {s₀ s : State} (hf : s₀.Follows s) (b : Nat) : s₀.Follows (State.bayDown s b) := by
  unfold State.bayDown
  repeat' first
    | with_reducible assumption | (intro _) | with_reducible apply State.Follows.each
    | with_reducible apply State.portDown_follows | with_reducible apply State.testDown_follows
    | with_reducible apply State.Follows.ite | split | dsimp only

theorem State.clearBay_follows {s₀ s : State} (hf : s₀.Follows s) (b : Nat) : s₀.Follows (State.clearBay s b) := by
  unfold State.clearBay
  repeat' first
    | with_reducible assumption | (intro _) | with_reducible apply State.Follows.each
    | with_reducible apply State.put_follows | with_reducible apply State.resetPlain_follows
    | with_reducible apply State.modLane_follows | with_reducible apply State.zeroCtrs_follows
    | with_reducible apply State.Follows.ite | split | dsimp only

theorem State.resetBay_follows {s₀ s : State} (hf : s₀.Follows s) (b : Nat) : s₀.Follows (State.resetBay s b) := by
  unfold State.resetBay
  repeat' first
    | with_reducible assumption | (intro _) | with_reducible apply State.bayDown_follows
    | with_reducible apply State.put_follows | with_reducible apply State.setBayState_follows
    | with_reducible apply State.clearBay_follows | with_reducible apply State.Follows.each
    | with_reducible apply State.enterReset_follows | with_reducible apply State.Follows.ite | split | dsimp only

theorem State.bayRunning_follows {s₀ s : State} (hf : s₀.Follows s) (b : Nat) : s₀.Follows (State.bayRunning s b) :=
    by
  unfold State.bayRunning
  repeat' first
    | with_reducible assumption | (intro _) | with_reducible apply State.lanesRun_follows
    | with_reducible apply State.Follows.each | with_reducible apply State.trainWoken_follows
    | with_reducible apply State.tryTrain_follows | with_reducible apply State.pump_follows
    | with_reducible apply State.Follows.ite | split | dsimp only

theorem State.presence_follows {s₀ s : State} (hf : s₀.Follows s) (p : Nat) (here : Bool) : s₀.Follows (State.presence
    s p here) := by
  unfold State.presence
  repeat' first
    | with_reducible assumption | (intro _) | with_reducible apply State.modPort_follows
    | with_reducible apply State.flag_follows | with_reducible apply State.put_follows
    | with_reducible apply State.Follows.foldl | with_reducible apply State.wakeRegion_follows
    | with_reducible apply State.enterReset_follows | with_reducible apply State.portDown_follows
    | with_reducible apply State.Follows.ite | split | dsimp only

theorem State.holdInTest_follows {s₀ s : State} (hf : s₀.Follows s) (p : Nat) : s₀.Follows (State.holdInTest s p) :=
    by
  unfold State.holdInTest
  repeat' first
    | with_reducible assumption | (intro _) | with_reducible apply State.stopPortTimers_follows
    | with_reducible apply State.Follows.each | with_reducible apply State.put_follows
    | with_reducible apply State.stopLane_follows | with_reducible apply State.Follows.ite | split | dsimp only

theorem State.laneTest_follows {s₀ s : State} (hf : s₀.Follows s) (l : Nat) (loop : Nat) (gen : Nat) (chk : Nat)
    (pattern : Nat) (inv : Nat) : s₀.Follows (State.laneTest s l loop gen chk pattern inv) := by
  unfold State.laneTest
  repeat' first
    | with_reducible assumption | (intro _) | with_reducible apply State.countPrbs_follows
    | with_reducible apply State.put_follows | with_reducible apply State.flag_follows
    | with_reducible apply State.Follows.each | with_reducible apply State.stopLane_follows
    | with_reducible apply State.portDown_follows | with_reducible apply State.holdInTest_follows
    | with_reducible apply State.enterReset_follows | with_reducible apply State.modLane_follows
    | with_reducible apply State.emit_follows | with_reducible apply State.Follows.ite | split | dsimp only

theorem State.loadMarker_follows {s₀ s : State} (hf : s₀.Follows s) (l : Nat) (u : RxUnit) : s₀.Follows
    (State.loadMarker s l u) := by
  unfold State.loadMarker
  repeat' first
    | with_reducible assumption | (intro _) | with_reducible apply State.put_follows
    | with_reducible apply State.flag_follows | with_reducible apply State.modLane_follows
    | with_reducible apply State.Follows.ite | split | dsimp only

theorem State.noteMismatch_follows {s₀ s : State} (hf : s₀.Follows s) (l : Nat) (u : RxUnit) : s₀.Follows
    (State.noteMismatch s l u) := by
  unfold State.noteMismatch
  repeat' first
    | with_reducible assumption | (intro _) | with_reducible apply State.modPort_follows
    | with_reducible apply State.put_follows | with_reducible apply State.bump_follows
    | with_reducible apply State.report_follows | with_reducible apply State.Follows.ite | split | dsimp only

theorem State.farSays_follows {s₀ s : State} (hf : s₀.Follows s) (l : Nat) (was : Nat) (code : Nat) : s₀.Follows
    (State.farSays s l was code) := by
  unfold State.farSays
  repeat' first
    | with_reducible assumption | (intro _) | with_reducible apply State.arm_follows
    | with_reducible apply State.disarm_follows | with_reducible apply State.put_follows
    | with_reducible apply State.modPort_follows | with_reducible apply State.portUp_follows
    | with_reducible apply State.loseLock_follows | with_reducible apply State.Follows.ite | split | dsimp only

theorem State.expectBody_follows {s₀ s : State} (hf : s₀.Follows s) (l : Nat) (fill : Option Nat) : s₀.Follows
    (State.expectBody s l fill) := by
  unfold State.expectBody
  repeat' first
    | with_reducible assumption | (intro _) | with_reducible apply State.modLane_follows
    | with_reducible apply State.Follows.ite | split | dsimp only

theorem State.lockedMarker_follows {s₀ s : State} (hf : s₀.Follows s) (l : Nat) (u : RxUnit) : s₀.Follows
    (State.lockedMarker s l u) := by
  unfold State.lockedMarker
  repeat' first
    | with_reducible assumption | (intro _) | with_reducible apply State.bump_follows
    | with_reducible apply State.noteMismatch_follows | with_reducible apply State.loadMarker_follows
    | with_reducible apply State.modLane_follows | with_reducible apply State.expectBody_follows
    | with_reducible apply State.alignLane_follows | with_reducible apply State.farSays_follows
    | with_reducible apply State.Follows.ite | split | dsimp only

theorem State.badMarker_follows {s₀ s : State} (hf : s₀.Follows s) (l : Nat) : s₀.Follows (State.badMarker s l) := by
  unfold State.badMarker
  repeat' first
    | with_reducible assumption | (intro _) | with_reducible apply State.bump_follows
    | with_reducible apply State.loseLock_follows | with_reducible apply State.put_follows
    | with_reducible apply State.modLane_follows | with_reducible apply State.expectBody_follows
    | with_reducible apply State.Follows.ite | split | dsimp only

theorem State.searchMarker_follows {s₀ s : State} (hf : s₀.Follows s) (l : Nat) (u : RxUnit) (apart : Bool) :
    s₀.Follows (State.searchMarker s l u apart) := by
  unfold State.searchMarker
  repeat' first
    | with_reducible assumption | (intro _) | with_reducible apply State.modLane_follows
    | with_reducible apply State.noteMismatch_follows | with_reducible apply State.put_follows
    | with_reducible apply State.bump_follows | with_reducible apply State.startTraining_follows
    | with_reducible apply State.loadMarker_follows | with_reducible apply State.alignLane_follows
    | with_reducible apply State.expectBody_follows | with_reducible apply State.watchLock_follows
    | with_reducible apply State.farSays_follows | with_reducible apply State.Follows.ite | split | dsimp only

theorem State.loopMarker_follows {s₀ s : State} (hf : s₀.Follows s) (l : Nat) (u : RxUnit) : s₀.Follows
    (State.loopMarker s l u) := by
  unfold State.loopMarker
  repeat' first
    | with_reducible assumption | (intro _) | with_reducible apply State.putMarker_follows
    | with_reducible apply State.Follows.ite | split | dsimp only

theorem State.searchWord_follows {s₀ s : State} (hf : s₀.Follows s) (l : Nat) (n : Nat) (u : RxUnit) : s₀.Follows
    (State.searchWord s l n u).1 := by
  unfold State.searchWord
  repeat' first
    | with_reducible assumption | (intro _) | with_reducible apply State.modLane_follows
    | with_reducible apply State.searchMarker_follows | with_reducible apply State.loopMarker_follows
    | with_reducible apply State.flag_follows | with_reducible apply State.Follows.ite | split | dsimp only

theorem State.cdrLost_follows {s₀ s : State} (hf : s₀.Follows s) (l : Nat) : s₀.Follows (State.cdrLost s l) := by
  unfold State.cdrLost
  repeat' first
    | with_reducible assumption | (intro _) | with_reducible apply State.put_follows
    | with_reducible apply State.loseLock_follows | with_reducible apply State.watchLock_follows
    | with_reducible apply State.Follows.ite | split | dsimp only

theorem State.countErrored_follows {s₀ s : State} (hf : s₀.Follows s) (l : Nat) (u : RxUnit) : s₀.Follows
    (State.countErrored s l u) := by
  unfold State.countErrored
  repeat' first
    | with_reducible assumption | (intro _) | with_reducible apply State.bump_follows
    | with_reducible apply State.Follows.ite | split | dsimp only

theorem State.bodyWord_follows {s₀ s : State} (hf : s₀.Follows s) (l : Nat) (n : Nat) (raw : RxUnit) : s₀.Follows
    (State.bodyWord s l n raw) := by
  unfold State.bodyWord
  repeat' first
    | with_reducible assumption | (intro _) | with_reducible apply State.countErrored_follows
    | with_reducible apply State.modLane_follows | with_reducible apply State.sendLine_follows
    | with_reducible apply State.Follows.ite | split | dsimp only

theorem State.laneWord_follows {s₀ s : State} (hf : s₀.Follows s) (l : Nat) (u : RxUnit) : s₀.Follows (State.laneWord
    s l u) := by
  unfold State.laneWord
  repeat' first
    | with_reducible assumption | (intro _) | with_reducible apply State.lockedMarker_follows
    | with_reducible apply State.loopMarker_follows | with_reducible apply State.countErrored_follows
    | with_reducible apply State.badMarker_follows | with_reducible apply State.expectBody_follows
    | with_reducible apply State.modLane_follows | with_reducible apply State.bodyWord_follows
    | with_reducible apply State.Follows.ite | split | dsimp only

theorem State.takeBits_follows {s₀ s : State} (hf : s₀.Follows s) (l : Nat) (x2 : Nat) (x3 : List RxBit) : s₀.Follows
    (State.takeBits s l x2 x3) := by
  induction x2 generalizing s x3 with
  | zero =>
    unfold State.takeBits
    repeat' first
      | with_reducible assumption | (intro _) | with_reducible apply State.modLane_follows
      | with_reducible apply State.laneWord_follows | with_reducible apply State.searchWord_follows
      | with_reducible refine State.Follows.left (by assumption) ?_ | with_reducible apply State.Follows.ite | split
      | dsimp only
  | succ n ih =>
    unfold State.takeBits
    repeat' first
      | with_reducible assumption | (intro _) | with_reducible apply ih | with_reducible apply State.modLane_follows
      | with_reducible apply State.laneWord_follows | with_reducible apply State.searchWord_follows
      | with_reducible refine State.Follows.left (by assumption) ?_ | with_reducible apply State.Follows.ite | split
      | dsimp only

theorem State.laneBits_follows {s₀ s : State} (hf : s₀.Follows s) (l : Nat) (bits : List Bool) : s₀.Follows
    (State.laneBits s l bits) := by
  unfold State.laneBits
  repeat' first
    | with_reducible assumption | (intro _) | with_reducible apply State.bumpBy_follows
    | with_reducible apply State.modLane_follows | with_reducible apply State.takeBits_follows
    | with_reducible apply State.Follows.ite | split | dsimp only

theorem State.laneIn_follows {s₀ s : State} (hf : s₀.Follows s) (l : Nat) (x : LineIn) : s₀.Follows (State.laneIn s l
    x) := by
  unfold State.laneIn
  repeat' first
    | with_reducible assumption | (intro _) | with_reducible apply State.checkBits_follows
    | with_reducible apply State.modLane_follows | with_reducible apply State.laneBits_follows
    | with_reducible apply State.Follows.ite | split | dsimp only

theorem State.loopPeriod_follows {s₀ s : State} (hf : s₀.Follows s) (l : Nat) : s₀.Follows (State.loopPeriod s l) :=
    by
  unfold State.loopPeriod
  repeat' first
    | with_reducible assumption | (intro _) | with_reducible apply State.endTraining_follows
    | with_reducible apply State.sendMarker_follows | with_reducible apply State.modLane_follows
    | with_reducible apply State.laneBits_follows | with_reducible apply State.Follows.ite | split | dsimp only

theorem State.trainPeriod_follows {s₀ s : State} (hf : s₀.Follows s) (p : Nat) : s₀.Follows (State.trainPeriod s p) :=
    by
  unfold State.trainPeriod
  repeat' first
    | with_reducible assumption | (intro _) | with_reducible apply State.Follows.each
    | with_reducible apply State.endTraining_follows | with_reducible apply State.openActive_follows
    | with_reducible apply State.sendMarker_follows | with_reducible apply State.Follows.ite | split | dsimp only

theorem State.nextActive_follows {s₀ s : State} (hf : s₀.Follows s) (l : Nat) (first : Nat) (mask : Nat) : s₀.Follows
    (State.nextActive s l first mask) := by
  unfold State.nextActive
  repeat' first
    | with_reducible assumption | (intro _) | with_reducible apply State.openActive_follows
    | with_reducible apply State.put_follows | with_reducible apply State.modLane_follows
    | with_reducible apply State.sendMarker_follows | with_reducible apply State.Follows.ite | split | dsimp only

theorem State.activePeriod_follows {s₀ s : State} (hf : s₀.Follows s) (p : Nat) (nulls : List Nat) : s₀.Follows
    (State.activePeriod s p nulls) := by
  unfold State.activePeriod
  repeat' first
    | with_reducible assumption | (intro _) | with_reducible apply State.endActive_follows
    | with_reducible apply State.Follows.each | with_reducible apply State.sendMarker_follows
    | with_reducible apply State.stopLane_follows | with_reducible apply State.fallAsleep_follows
    | with_reducible apply State.changeTxMask_follows | with_reducible apply State.endTraining_follows
    | with_reducible apply State.modLane_follows | with_reducible apply State.nextActive_follows
    | with_reducible apply State.pump_follows | with_reducible apply State.announceMask_follows
    | with_reducible apply State.Follows.ite | split | dsimp only

theorem State.periodEnd_follows {s₀ s : State} (hf : s₀.Follows s) (l : Nat) (nulls : List Nat) : s₀.Follows
    (State.periodEnd s l nulls) := by
  unfold State.periodEnd
  repeat' first
    | with_reducible assumption | (intro _) | with_reducible apply State.loopPeriod_follows
    | with_reducible apply State.trainPeriod_follows | with_reducible apply State.activePeriod_follows
    | with_reducible apply State.Follows.ite | split | dsimp only

theorem State.frameAcked_follows {s₀ s : State} (hf : s₀.Follows s) (p : Nat) (e : EgFrame) : s₀.Follows
    (State.frameAcked s p e) := by
  unfold State.frameAcked
  repeat' first
    | with_reducible assumption | (intro _) | with_reducible apply State.missAt_follows
    | with_reducible apply State.writeAccepted_follows | with_reducible apply State.Follows.ite | split | dsimp only

theorem State.takeAck_follows {s₀ s : State} (hf : s₀.Follows s) (p : Nat) (a : Nat) : ∀ t, State.takeAck s p a = some
    t → s₀.Follows t := by
  unfold State.takeAck
  repeat' first
    | with_reducible assumption | exact optNone | with_reducible refine optSome ?_
    | with_reducible refine optIte ?_ ?_ | split | with_reducible apply State.modPort_follows
    | with_reducible apply State.put_follows | with_reducible apply State.noteReplay_follows
    | with_reducible apply State.disarm_follows | with_reducible apply State.arm_follows
    | with_reducible apply State.Follows.each | with_reducible apply State.frameAcked_follows
    | with_reducible apply State.answerReads_follows | with_reducible apply State.pump_follows
    | with_reducible apply State.quiet_follows | with_reducible apply State.Follows.ite | dsimp only | (intro _)

theorem State.takeReq_follows {s₀ s : State} (hf : s₀.Follows s) (p : Nat) (r : Nat) : s₀.Follows (State.takeReq s p
    r) := by
  unfold State.takeReq
  repeat' first
    | with_reducible assumption | (intro _) | with_reducible apply State.modPort_follows
    | with_reducible apply State.disarm_follows | with_reducible apply State.arm_follows
    | with_reducible apply State.Follows.ite | split | dsimp only

theorem State.takeLink_follows {s₀ s : State} (hf : s₀.Follows s) (p : Nat) (w : Word) : ∀ t, State.takeLink s p w =
    some t → s₀.Follows t := by
  unfold State.takeLink
  repeat' first
    | with_reducible assumption | exact optNone | with_reducible refine optSome ?_
    | with_reducible refine optIte ?_ ?_ | with_reducible refine optMap ?_ ?_
    | with_reducible refine State.takeAck_follows ?_ _ _ | split | with_reducible apply State.put_follows
    | with_reducible apply State.pump_follows | with_reducible apply State.takeReq_follows
    | with_reducible apply State.Follows.ite | dsimp only | (intro _)

theorem State.malformed_follows {s₀ s : State} (hf : s₀.Follows s) (p : Nat) (f : Frame) (status : Nat) : s₀.Follows
    (State.malformed s p f status) := by
  unfold State.malformed
  repeat' first
    | with_reducible assumption | (intro _) | with_reducible apply State.bump_follows
    | with_reducible apply State.jtLog_follows | with_reducible apply State.Follows.ite | split | dsimp only

theorem State.acceptFrame_follows {s₀ s : State} (hf : s₀.Follows s) (p : Nat) (w : Word) (f : Frame) : s₀.Follows
    (State.acceptFrame s p w f) := by
  unfold State.acceptFrame
  repeat' first
    | with_reducible assumption | (intro _) | with_reducible apply State.portDown_follows
    | with_reducible apply State.bump_follows | with_reducible apply State.put_follows
    | with_reducible apply State.modPort_follows | with_reducible apply State.disarm_follows
    | with_reducible apply State.malformed_follows | with_reducible apply State.holdsChanged_follows
    | with_reducible apply State.sendIdle_follows | with_reducible apply State.Follows.ite | split | dsimp only

theorem State.actFrame_follows {s₀ s : State} (hf : s₀.Follows s) (p : Nat) (us : List RxUnit) (w : Word) (good :
    Bool) : s₀.Follows (State.actFrame s p us w good) := by
  unfold State.actFrame
  repeat' first
    | with_reducible assumption | (intro _) | with_reducible apply State.portDown_follows
    | with_reducible apply State.sleepRefused_follows | with_reducible apply State.bump_follows
    | with_reducible apply State.acceptFrame_follows | with_reducible apply State.modPort_follows
    | with_reducible apply State.portUp_follows | with_reducible apply State.takeSleepReq_follows
    | with_reducible apply State.takeSleepAck_follows | with_reducible apply State.Follows.ite | split | dsimp only

theorem State.loseFraming_follows {s₀ s : State} (hf : s₀.Follows s) (p : Nat) : s₀.Follows (State.loseFraming s p) :=
    by
  unfold State.loseFraming
  repeat' first
    | with_reducible assumption | (intro _) | with_reducible apply State.bump_follows
    | with_reducible apply State.Follows.each | with_reducible apply State.modPort_follows
    | with_reducible apply State.disarm_follows | with_reducible apply State.Follows.ite | split | dsimp only

theorem State.takePeriodUnit_follows {s₀ s : State} (hf : s₀.Follows s) (m : Nat) (u : RxUnit) : s₀.Follows
    (State.takePeriodUnit s m u) := by
  unfold State.takePeriodUnit
  repeat' first
    | with_reducible assumption | (intro _) | with_reducible apply State.setRxMask_follows
    | with_reducible apply State.modPort_follows | with_reducible apply State.Follows.ite | split | dsimp only

theorem State.missPeriodUnit_follows {s₀ s : State} (hf : s₀.Follows s) (m : Nat) (count : Nat) : s₀.Follows
    (State.missPeriodUnit s m count) := by
  unfold State.missPeriodUnit
  repeat' first
    | with_reducible assumption | (intro _) | with_reducible apply State.modPort_follows
    | with_reducible apply State.Follows.ite | split | dsimp only

theorem State.addUnits_follows {s₀ s : State} (hf : s₀.Follows s) (m : Nat) (us : List RxUnit) : s₀.Follows
    (State.addUnits s m us) := by
  unfold State.addUnits
  repeat' first
    | with_reducible assumption | (intro _) | with_reducible apply State.modPort_follows
    | with_reducible apply State.Follows.ite | split | dsimp only

theorem State.takeUnits_follows {s₀ s : State} (hf : s₀.Follows s) (m : Nat) : ∀ t, State.takeUnits s m = some t →
    s₀.Follows t := by
  unfold State.takeUnits
  repeat' first
    | with_reducible assumption | exact optNone | with_reducible refine optSome ?_
    | with_reducible refine optIte ?_ ?_ | with_reducible refine optMap ?_ ?_ | split
    | with_reducible apply State.Follows.each | with_reducible apply State.modLane_follows
    | with_reducible apply State.takePeriodUnit_follows | with_reducible apply State.missPeriodUnit_follows
    | with_reducible apply State.modPort_follows | with_reducible apply State.loseFraming_follows
    | with_reducible apply State.addUnits_follows | with_reducible apply State.Follows.ite | dsimp only | (intro _)

theorem State.useHead_follows {s₀ s : State} (hf : s₀.Follows s) (p : Nat) (w : Word) : ∀ t, State.useHead s p w =
    some t → s₀.Follows t := by
  unfold State.useHead
  repeat' first
    | with_reducible assumption | exact optNone | with_reducible refine optSome ?_
    | with_reducible refine optIte ?_ ?_ | with_reducible refine optMap ?_ ?_
    | with_reducible refine State.takeLink_follows ?_ _ _ | split | with_reducible apply State.modPort_follows
    | with_reducible apply State.holdsChanged_follows | with_reducible apply State.Follows.ite | dsimp only
    | (intro _)

theorem State.dropUnits_follows {s₀ s : State} (hf : s₀.Follows s) (m : Nat) (n : Nat) : s₀.Follows (State.dropUnits s
    m n) := by
  unfold State.dropUnits
  repeat' first
    | with_reducible assumption | (intro _) | with_reducible apply State.modPort_follows
    | with_reducible apply State.Follows.ite | split | dsimp only

theorem State.mergerDrop_follows {s₀ s : State} (hf : s₀.Follows s) (p : Nat) : s₀.Follows (State.mergerDrop s p) :=
    by
  unfold State.mergerDrop
  repeat' first
    | with_reducible assumption | (intro _) | with_reducible apply State.portDown_follows
    | with_reducible apply State.bump_follows | with_reducible apply State.put_follows
    | with_reducible apply State.dropUnits_follows | with_reducible apply State.disarm_follows
    | with_reducible apply State.modPort_follows | with_reducible apply State.holdsChanged_follows
    | with_reducible refine State.useHead_follows ?_ _ _ _ (by assumption) | with_reducible apply State.Follows.ite
    | split | dsimp only

theorem State.awaitBurst_follows {s₀ s : State} (hf : s₀.Follows s) (p : Nat) (w : Word) : s₀.Follows
    (State.awaitBurst s p w) := by
  unfold State.awaitBurst
  repeat' first
    | with_reducible assumption | (intro _) | with_reducible apply State.modPort_follows
    | with_reducible apply State.arm_follows | with_reducible apply State.Follows.ite | split | dsimp only

theorem State.waitHead_follows {s₀ s : State} (hf : s₀.Follows s) (p : Nat) (w : Word) : s₀.Follows (State.waitHead s
    p w) := by
  unfold State.waitHead
  repeat' first
    | with_reducible assumption | (intro _) | with_reducible apply State.portDown_follows
    | with_reducible apply State.awaitBurst_follows
    | with_reducible refine State.useHead_follows ?_ _ _ _ (by assumption) | with_reducible apply State.Follows.ite
    | split | dsimp only

theorem State.takeFrame_follows {s₀ s : State} (hf : s₀.Follows s) (p : Nat) (n : Nat) (w : Word) (good : Bool) :
    s₀.Follows (State.takeFrame s p n w good) := by
  unfold State.takeFrame
  repeat' first
    | with_reducible assumption | (intro _) | with_reducible apply State.portDown_follows
    | with_reducible apply State.modPort_follows | with_reducible apply State.actFrame_follows
    | with_reducible apply State.holdsChanged_follows
    | with_reducible refine State.useHead_follows ?_ _ _ _ (by assumption) | with_reducible apply State.Follows.ite
    | split | dsimp only

theorem State.mergeFrame_follows {s₀ s : State} (hf : s₀.Follows s) (p : Nat) (n : Nat) (w : Word) (good : Bool) :
    s₀.Follows (State.mergeFrame s p n w good) := by
  unfold State.mergeFrame
  repeat' first
    | with_reducible assumption | (intro _) | with_reducible apply State.mergerDrop_follows
    | with_reducible apply State.portDown_follows | with_reducible apply State.put_follows
    | with_reducible apply State.disarm_follows | with_reducible apply State.dropUnits_follows
    | with_reducible apply State.modPort_follows | with_reducible apply State.actFrame_follows
    | with_reducible apply State.holdsChanged_follows
    | with_reducible refine State.useHead_follows ?_ _ _ _ (by assumption) | with_reducible apply State.Follows.ite
    | split | dsimp only

theorem State.followStream_follows {s₀ s : State} (hf : s₀.Follows s) (p : Nat) (x2 : Nat) : s₀.Follows
    (State.followStream s p x2) := by
  induction x2 generalizing s with
  | zero =>
    unfold State.followStream
    repeat' first
      | with_reducible assumption | (intro _) | with_reducible apply State.waitHead_follows
      | with_reducible apply State.loseFraming_follows | with_reducible apply State.portDown_follows
      | with_reducible apply State.modPort_follows | with_reducible apply State.mergeFrame_follows
      | with_reducible apply State.takeFrame_follows | with_reducible apply State.Follows.ite | split | dsimp only
  | succ n ih =>
    unfold State.followStream
    repeat' first
      | with_reducible assumption | (intro _) | with_reducible apply ih | with_reducible apply State.waitHead_follows
      | with_reducible apply State.loseFraming_follows | with_reducible apply State.portDown_follows
      | with_reducible apply State.modPort_follows | with_reducible apply State.mergeFrame_follows
      | with_reducible apply State.takeFrame_follows | with_reducible apply State.Follows.ite | split | dsimp only

theorem State.mergerTimeout_follows {s₀ s : State} (hf : s₀.Follows s) (p : Nat) : s₀.Follows (State.mergerTimeout s
    p) := by
  unfold State.mergerTimeout
  repeat' first
    | with_reducible assumption | (intro _) | with_reducible apply State.mergerDrop_follows
    | with_reducible apply State.followStream_follows | with_reducible apply State.Follows.ite | split | dsimp only

theorem State.takeSlots_follows {s₀ s : State} (hf : s₀.Follows s) (m : Nat) (x2 : Nat) : s₀.Follows (State.takeSlots
    s m x2) := by
  induction x2 generalizing s with
  | zero =>
    unfold State.takeSlots
    repeat' first
      | with_reducible assumption | (intro _) | with_reducible apply State.followStream_follows
      | with_reducible refine State.takeUnits_follows ?_ _ _ (by assumption) | with_reducible apply State.Follows.ite
      | split | dsimp only
  | succ n ih =>
    unfold State.takeSlots
    repeat' first
      | with_reducible assumption | (intro _) | with_reducible apply ih
      | with_reducible apply State.followStream_follows
      | with_reducible refine State.takeUnits_follows ?_ _ _ (by assumption) | with_reducible apply State.Follows.ite
      | split | dsimp only

theorem State.drainLanes_follows {s₀ s : State} (hf : s₀.Follows s) (p : Nat) : s₀.Follows (State.drainLanes s p) :=
    by
  unfold State.drainLanes
  repeat' first
    | with_reducible assumption | (intro _) | with_reducible apply State.Follows.each
    | with_reducible apply State.takeSlots_follows | with_reducible apply State.quiet_follows
    | with_reducible apply State.Follows.ite | split | dsimp only

theorem State.lineIn_follows {s₀ s : State} (hf : s₀.Follows s) (l : Nat) (line : LineIn) : s₀.Follows (State.lineIn s
    l line) := by
  unfold State.lineIn
  repeat' first
    | with_reducible assumption | (intro _) | with_reducible apply State.laneIn_follows
    | with_reducible apply State.drainLanes_follows | with_reducible apply State.Follows.ite | split | dsimp only

theorem State.linesIn_follows {s₀ s : State} (hf : s₀.Follows s) (p : Nat) (lines : List LineIn) : s₀.Follows
    (State.linesIn s p lines) := by
  unfold State.linesIn
  repeat' first
    | with_reducible assumption | (intro _) | with_reducible apply State.Follows.each
    | with_reducible apply State.laneIn_follows | with_reducible apply State.drainLanes_follows
    | with_reducible apply State.Follows.ite | split | dsimp only

theorem State.popIngress_follows {s₀ s : State} (hf : s₀.Follows s) (p : Nat) (f : Frame) : s₀.Follows
    (State.popIngress s p f) := by
  unfold State.popIngress
  repeat' first
    | with_reducible assumption | (intro _) | with_reducible apply State.modPort_follows
    | with_reducible apply State.holdsChanged_follows | with_reducible apply State.quiet_follows
    | with_reducible apply State.Follows.ite | split | dsimp only

theorem State.countRefused_follows {s₀ s : State} (hf : s₀.Follows s) (p : Nat) (f : Frame) (status : Nat) (seg :
    Option Nat) : s₀.Follows (State.countRefused s p f status seg) := by
  unfold State.countRefused
  repeat' first
    | with_reducible assumption | (intro _) | with_reducible apply State.bump_follows
    | with_reducible apply State.jtLog_follows | with_reducible apply State.Follows.ite | split | dsimp only

theorem State.deviceKey_follows {s₀ s : State} (hf : s₀.Follows s) (n : Nat) (dl : Option Nat) : s₀.Follows
    (State.deviceKey s n dl).2 := by
  unfold State.deviceKey
  repeat' first
    | with_reducible assumption | (intro _) | with_reducible apply State.tagKey_follows
    | with_reducible apply State.accessKey_follows | with_reducible refine State.Follows.pair (by assumption) ?_
    | with_reducible apply State.Follows.ite | split | dsimp only

theorem State.queueCpl_follows {s₀ s : State} (hf : s₀.Follows s) (p : Nat) (fn : Nat) (key : Nat) (f : Frame) :
    s₀.Follows (State.queueCpl s p fn key f) := by
  unfold State.queueCpl
  repeat' first
    | with_reducible assumption | (intro _) | with_reducible apply State.enqueue_follows
    | with_reducible apply State.Follows.ite | split | dsimp only

theorem State.answerDevice_follows {s₀ s : State} (hf : s₀.Follows s) (p : Nat) (tag : Nat) (x3 : Nat) (x4 : DTag) :
    s₀.Follows (State.answerDevice s p tag x3 x4).2 := by
  induction x3 generalizing s x4 with
  | zero =>
    unfold State.answerDevice
    repeat' first
      | with_reducible assumption | (intro _) | with_reducible apply State.queueCpl_follows
      | with_reducible apply State.bump_follows | with_reducible apply State.jtLog_follows
      | with_reducible apply State.Follows.ite | split | dsimp only
  | succ n ih =>
    unfold State.answerDevice
    repeat' first
      | with_reducible assumption | (intro _) | with_reducible apply ih | with_reducible apply State.queueCpl_follows
      | with_reducible apply State.bump_follows | with_reducible apply State.jtLog_follows
      | with_reducible apply State.Follows.ite | split | dsimp only

theorem State.dropParts_follows {s₀ s : State} (hf : s₀.Follows s) (h : Nat) (p : Nat) (tag : Nat) : s₀.Follows
    (State.dropParts s h p tag) := by
  unfold State.dropParts
  repeat' first
    | with_reducible assumption | (intro _) | with_reducible apply State.modHost_follows
    | with_reducible apply State.drainWrites_follows | with_reducible apply State.Follows.ite | split | dsimp only

theorem State.answerDevices_follows {s₀ s : State} (hf : s₀.Follows s) (p : Nat) : s₀.Follows (State.answerDevices s
    p) := by
  unfold State.answerDevices
  repeat' first
    | with_reducible assumption | (intro _) | with_reducible apply State.Follows.foldlPair
    | with_reducible apply State.answerDevice_follows | with_reducible apply State.modPort_follows
    | with_reducible apply State.dropParts_follows | with_reducible apply State.Follows.foldl
    | with_reducible apply State.quiet_follows | with_reducible refine State.Follows.pair (by assumption) ?_
    | with_reducible apply State.Follows.ite | split | dsimp only

theorem State.startDeviceRead_follows {s₀ s : State} (hf : s₀.Follows s) (p : Nat) (n : Nat) (f : Frame) : s₀.Follows
    (State.startDeviceRead s p n f) := by
  unfold State.startDeviceRead
  repeat' first
    | with_reducible assumption | (intro _) | with_reducible apply State.deviceKey_follows
    | with_reducible apply State.modPort_follows | with_reducible apply State.Follows.each
    | with_reducible apply State.askHost_follows | with_reducible refine State.Follows.pair (by assumption) ?_
    | with_reducible apply State.Follows.ite | split | dsimp only
  all_goals with_reducible apply State.Follows.other
  repeat' first
    | with_reducible assumption | (intro _) | with_reducible apply State.deviceKey_follows
    | with_reducible apply State.modPort_follows | with_reducible apply State.Follows.each
    | with_reducible apply State.askHost_follows | with_reducible refine State.Follows.pair (by assumption) ?_
    | with_reducible apply State.Follows.ite | split | dsimp only

theorem State.refuseRead_follows {s₀ s : State} (hf : s₀.Follows s) (p : Nat) (f : Frame) (st : Nat) (x4 : Option Nat)
    : s₀.Follows (State.refuseRead s p f st x4) := by
  unfold State.refuseRead
  repeat' first
    | with_reducible assumption | (intro _) | with_reducible apply State.queueCpl_follows
    | with_reducible apply State.deviceKey_follows | with_reducible apply State.modPort_follows
    | with_reducible apply State.answerDevices_follows | with_reducible refine State.Follows.pair (by assumption) ?_
    | with_reducible apply State.Follows.ite | split | dsimp only

theorem State.deviceRead_follows {s₀ s : State} (hf : s₀.Follows s) (p : Nat) (v : Nat) : s₀.Follows (State.deviceRead
    s p v) := by
  unfold State.deviceRead
  repeat' first
    | with_reducible assumption | (intro _) | with_reducible apply State.popIngress_follows
    | with_reducible apply State.wakeRegion_follows | with_reducible apply State.malformed_follows
    | with_reducible apply State.refuseRead_follows | with_reducible apply State.countRefused_follows
    | with_reducible apply State.startDeviceRead_follows | with_reducible apply State.Follows.ite | split | dsimp only

theorem State.deviceWrite_follows {s₀ s : State} (hf : s₀.Follows s) (p : Nat) (v : Nat) : s₀.Follows
    (State.deviceWrite s p v) := by
  unfold State.deviceWrite
  repeat' first
    | with_reducible assumption | (intro _) | with_reducible apply State.popIngress_follows
    | with_reducible apply State.wakeRegion_follows | with_reducible apply State.malformed_follows
    | with_reducible apply State.countRefused_follows | with_reducible apply State.deviceKey_follows
    | with_reducible apply State.askHost_follows | with_reducible refine State.Follows.pair (by assumption) ?_
    | with_reducible apply State.Follows.ite | split | dsimp only
  all_goals with_reducible apply State.Follows.other
  repeat' first
    | with_reducible assumption | (intro _) | with_reducible apply State.popIngress_follows
    | with_reducible apply State.wakeRegion_follows | with_reducible apply State.malformed_follows
    | with_reducible apply State.countRefused_follows | with_reducible apply State.deviceKey_follows
    | with_reducible apply State.askHost_follows | with_reducible refine State.Follows.pair (by assumption) ?_
    | with_reducible apply State.Follows.ite | split | dsimp only

theorem State.devicePeg_follows {s₀ s : State} (hf : s₀.Follows s) (p : Nat) (v : Nat) : s₀.Follows (State.devicePeg s
    p v) := by
  unfold State.devicePeg
  repeat' first
    | with_reducible assumption | (intro _) | with_reducible apply State.popIngress_follows
    | with_reducible apply State.Follows.each | with_reducible apply State.raisePeg_follows
    | with_reducible apply State.Follows.ite | split | dsimp only

theorem State.freeTagOf_follows {s₀ s : State} (hf : s₀.Follows s) (p : Nat) (t : Nat) : s₀.Follows (State.freeTagOf s
    p t) := by
  unfold State.freeTagOf
  repeat' first
    | with_reducible assumption | (intro _) | with_reducible apply State.disarm_follows
    | with_reducible apply State.modPort_follows | with_reducible apply State.runEngines_follows
    | with_reducible apply State.quiet_follows | with_reducible apply State.Follows.ite | split | dsimp only

theorem State.countLocal_follows {s₀ s : State} (hf : s₀.Follows s) (p : Nat) (fn : Nat) (i : Nat) (done : Bool) :
    s₀.Follows (State.countLocal s p fn i done) := by
  unfold State.countLocal
  repeat' first
    | with_reducible assumption | (intro _) | with_reducible apply State.bump_follows
    | with_reducible apply State.Follows.ite | split | dsimp only

theorem State.endLocal_follows {s₀ s : State} (hf : s₀.Follows s) (p : Nat) (t : LTag) (i : Nat) (status : Nat) :
    s₀.Follows (State.endLocal s p t i status) := by
  unfold State.endLocal
  repeat' first
    | with_reducible assumption | (intro _) | with_reducible apply State.countLocal_follows
    | with_reducible apply State.failRead_follows | with_reducible apply State.engineError_follows
    | with_reducible apply State.Follows.ite | split | dsimp only

theorem State.localData_follows {s₀ s : State} (hf : s₀.Follows s) (p : Nat) (t : LTag) (bs : List Byte) : s₀.Follows
    (State.localData s p t bs) := by
  unfold State.localData
  repeat' first
    | with_reducible assumption | (intro _) | with_reducible apply State.setRead_follows
    | with_reducible apply State.answerReads_follows | with_reducible apply State.engineData_follows
    | with_reducible apply State.Follows.ite | split | dsimp only

theorem State.deviceCpl_follows {s₀ s : State} (hf : s₀.Follows s) (p : Nat) (v : Nat) : s₀.Follows (State.deviceCpl s
    p v) := by
  unfold State.deviceCpl
  repeat' first
    | with_reducible assumption | (intro _) | with_reducible apply State.popIngress_follows
    | with_reducible apply State.bump_follows | with_reducible apply State.jtLog_follows
    | with_reducible apply State.freeTagOf_follows | with_reducible apply State.engineData_follows
    | with_reducible apply State.endLocal_follows | with_reducible apply State.localData_follows
    | with_reducible apply State.Follows.ite | split | dsimp only

theorem State.responseTimeout_follows {s₀ s : State} (hf : s₀.Follows s) (p : Nat) (tag : Nat) : s₀.Follows
    (State.responseTimeout s p tag) := by
  unfold State.responseTimeout
  repeat' first
    | with_reducible assumption | (intro _) | with_reducible apply State.modPort_follows
    | with_reducible apply State.arm_follows | with_reducible apply State.jtLog_follows
    | with_reducible apply State.endLocal_follows | with_reducible apply State.countLocal_follows
    | with_reducible apply State.engineData_follows | with_reducible apply State.Follows.ite | split | dsimp only

theorem State.loseFrame_follows {s₀ s : State} (hf : s₀.Follows s) (p : Nat) (e : EgFrame) : s₀.Follows
    (State.loseFrame s p e) := by
  unfold State.loseFrame
  repeat' first
    | with_reducible assumption | (intro _) | with_reducible apply State.modPort_follows
    | with_reducible apply State.bump_follows | with_reducible apply State.pump_follows
    | with_reducible apply State.writeAccepted_follows | with_reducible apply State.endLocal_follows
    | with_reducible apply State.freeTagOf_follows | with_reducible apply State.Follows.ite | split | dsimp only

theorem State.loseUnit_follows {s₀ s : State} (hf : s₀.Follows s) (f : Nat) (a : Nat) : s₀.Follows (State.loseUnit s f
    a) := by
  unfold State.loseUnit
  repeat' first
    | with_reducible assumption | (intro _) | with_reducible apply State.modHost_follows
    | with_reducible apply State.loseFrame_follows | with_reducible apply State.Follows.ite | split | dsimp only

theorem State.timeDueNow_follows {s₀ s : State} (hf : s₀.Follows s) (p : Nat) : s₀.Follows (State.timeDueNow s p) :=
    by
  unfold State.timeDueNow
  repeat' first
    | with_reducible assumption | (intro _) | with_reducible apply State.arm_follows
    | with_reducible apply State.modPort_follows | with_reducible apply State.enqueue_follows
    | with_reducible apply State.Follows.ite | split | dsimp only

end Sys2Proof.Machine
end

