-- ==== Sys2Proof/Laws/FollowsHost.lean ====
section
/-! SUPPORT. What the operations of host ports, functions and configuration space keep (State.Follows): one lemma
per operation. -/

namespace Sys2Proof.Machine

set_option linter.all false
set_option Elab.async false

theorem State.locPart_follows {s₀ s : State} (hf : s₀.Follows s) (p : Nat) (dtag : Nat) (ofs : Nat) (bs : List Byte)
    (done : Bool) (err : Bool) : s₀.Follows (State.locPart s p dtag ofs bs done err) := by
  unfold State.locPart
  repeat' first
    | with_reducible assumption | (intro _) | with_reducible apply State.modPort_follows
    | with_reducible apply State.answerDevices_follows | with_reducible apply State.Follows.ite | split | dsimp only

theorem State.hostData_follows {s₀ s : State} (hf : s₀.Follows s) (r : HReq) (ofs : Nat) (bs : List Byte) (done :
    Bool) (whole : List Byte) : s₀.Follows (State.hostData s r ofs bs done whole) := by
  unfold State.hostData
  repeat' first
    | with_reducible assumption | (intro _) | with_reducible apply State.engineData_follows
    | with_reducible apply State.locPart_follows | with_reducible apply State.fetchDone_follows
    | with_reducible apply State.Follows.ite | split | dsimp only

theorem State.hostError_follows {s₀ s : State} (hf : s₀.Follows s) (r : HReq) (status : Nat) : s₀.Follows
    (State.hostError s r status) := by
  unfold State.hostError
  repeat' first
    | with_reducible assumption | (intro _) | with_reducible apply State.engineError_follows
    | with_reducible apply State.locPart_follows | with_reducible apply State.fetchFailed_follows
    | with_reducible apply State.Follows.ite | split | dsimp only

theorem State.hostStale_follows {s₀ s : State} (hf : s₀.Follows s) (r : HReq) : s₀.Follows (State.hostStale s r) := by
  unfold State.hostStale
  repeat' first
    | with_reducible assumption | (intro _) | with_reducible apply State.engineData_follows
    | with_reducible apply State.Follows.ite | split | dsimp only

theorem State.notePoison_follows {s₀ s : State} (hf : s₀.Follows s) (f : Nat) : s₀.Follows (State.notePoison s f) :=
    by
  unfold State.notePoison
  repeat' first
    | with_reducible assumption | (intro _) | with_reducible apply State.setStatus_follows
    | with_reducible apply State.Follows.ite | split | dsimp only

theorem State.hostCompletion_follows {s₀ s : State} (hf : s₀.Follows s) (h : Nat) (t : Nat) (st : CplStatus) (data :
    List Byte) : s₀.Follows (State.hostCompletion s h t st data) := by
  unfold State.hostCompletion
  repeat' first
    | with_reducible assumption | (intro _) | with_reducible apply State.aerUnc_follows
    | with_reducible apply State.wakeRegion_follows | with_reducible apply State.bump_follows
    | with_reducible apply State.hostStale_follows | with_reducible apply State.freeHostTag_follows
    | with_reducible apply State.hostData_follows | with_reducible apply State.modHost_follows
    | with_reducible apply State.notePoison_follows | with_reducible apply State.hostError_follows
    | with_reducible apply State.setStatus_follows | with_reducible apply State.Follows.ite | split | dsimp only

theorem State.completionTimeout_follows {s₀ s : State} (hf : s₀.Follows s) (h : Nat) (t : Nat) : s₀.Follows
    (State.completionTimeout s h t) := by
  unfold State.completionTimeout
  repeat' first
    | with_reducible assumption | (intro _) | with_reducible apply State.bump_follows
    | with_reducible apply State.holdHostTag_follows | with_reducible apply State.aerUnc_follows
    | with_reducible apply State.hostError_follows | with_reducible apply State.hostStale_follows
    | with_reducible apply State.Follows.ite | split | dsimp only

theorem State.abandonTag_follows {s₀ s : State} (hf : s₀.Follows s) (h : Nat) (t : Nat) : s₀.Follows (State.abandonTag
    s h t) := by
  unfold State.abandonTag
  repeat' first
    | with_reducible assumption | (intro _) | with_reducible apply State.holdHostTag_follows
    | with_reducible apply State.hostStale_follows | with_reducible apply State.Follows.ite | split | dsimp only

theorem State.releaseHostTag_follows {s₀ s : State} (hf : s₀.Follows s) (h : Nat) (t : Nat) : s₀.Follows
    (State.releaseHostTag s h t) := by
  unfold State.releaseHostTag
  repeat' first
    | with_reducible assumption | (intro _) | with_reducible apply State.modHost_follows
    | with_reducible apply State.Follows.ite | split | dsimp only

theorem State.hostGrant_follows {s₀ s : State} (hf : s₀.Follows s) (h : Nat) : s₀.Follows (State.hostGrant s h) := by
  unfold State.hostGrant
  repeat' first
    | with_reducible assumption | (intro _) | with_reducible apply State.modHost_follows
    | with_reducible apply State.hostError_follows | with_reducible apply State.drainWrites_follows
    | with_reducible apply State.grantTag_follows | with_reducible apply State.Follows.ite | split | dsimp only

theorem State.equalise_follows {s₀ s : State} (hf : s₀.Follows s) (h : Nat) (o : LinkOffer) (rs : List Nat) :
    s₀.Follows (State.equalise s h o rs) := by
  unfold State.equalise
  repeat' first
    | with_reducible assumption | (intro _) | with_reducible apply State.Follows.each
    | with_reducible apply State.cfgPut_follows | with_reducible apply State.Follows.ite | split | dsimp only

theorem State.noteBehaviour_follows {s₀ s : State} (hf : s₀.Follows s) (h : Nat) (o : LinkOffer) : s₀.Follows
    (State.noteBehaviour s h o) := by
  unfold State.noteBehaviour
  repeat' first
    | with_reducible assumption | (intro _) | with_reducible apply State.cfgPut_follows
    | with_reducible apply State.Follows.ite | split | dsimp only

theorem State.loadLink_follows {s₀ s : State} (hf : s₀.Follows s) (h : Nat) (rate : Nat) (w : Nat) (limit : Nat) (o :
    LinkOffer) : s₀.Follows (State.loadLink s h rate w limit o) := by
  unfold State.loadLink
  repeat' first
    | with_reducible assumption | (intro _) | with_reducible apply State.put_follows
    | with_reducible apply State.flag_follows | with_reducible apply State.equalise_follows
    | with_reducible apply State.noteBehaviour_follows | with_reducible apply State.report_follows
    | with_reducible apply State.Follows.ite | split | dsimp only

theorem State.linkRetrained_follows {s₀ s : State} (hf : s₀.Follows s) (h : Nat) (o : LinkOffer) : s₀.Follows
    (State.linkRetrained s h o) := by
  unfold State.linkRetrained
  repeat' first
    | with_reducible assumption | (intro _) | with_reducible apply State.leaveL1_follows
    | with_reducible apply State.loadLink_follows | with_reducible apply State.put_follows
    | with_reducible apply State.Follows.ite | split | dsimp only

theorem State.linkTrained_follows {s₀ s : State} (hf : s₀.Follows s) (h : Nat) (o : LinkOffer) : s₀.Follows
    (State.linkTrained s h o) := by
  unfold State.linkTrained
  repeat' first
    | with_reducible assumption | (intro _) | with_reducible apply State.linkRetrained_follows
    | with_reducible apply State.put_follows | with_reducible apply State.flag_follows
    | with_reducible apply State.setHcrState_follows | with_reducible apply State.modHost_follows
    | with_reducible apply State.Follows.each | with_reducible apply State.cfgPut_follows
    | with_reducible apply State.setCfg_follows | with_reducible apply State.emit_follows
    | with_reducible apply State.loadLink_follows | with_reducible apply State.arm_follows
    | with_reducible apply State.Follows.ite | split | dsimp only

theorem State.judgeSteering_follows {s₀ s : State} (hf : s₀.Follows s) : s₀.Follows (State.judgeSteering s) := by
  unfold State.judgeSteering
  repeat' first
    | with_reducible assumption | (intro _) | with_reducible apply State.Follows.each
    | with_reducible apply State.flag_follows | with_reducible apply State.Follows.ite | split | dsimp only
  all_goals with_reducible apply State.Follows.other
  repeat' first
    | with_reducible assumption | (intro _) | with_reducible apply State.Follows.each
    | with_reducible apply State.flag_follows | with_reducible apply State.Follows.ite | split | dsimp only

theorem State.loadPps_follows {s₀ s : State} (hf : s₀.Follows s) (h : Nat) : s₀.Follows (State.loadPps s h) := by
  unfold State.loadPps
  repeat' first
    | with_reducible assumption | (intro _) | with_reducible apply State.put_follows
    | with_reducible apply State.Follows.ite | split | dsimp only

theorem State.ptmLost_follows {s₀ s : State} (hf : s₀.Follows s) (h : Nat) : s₀.Follows (State.ptmLost s h) := by
  unfold State.ptmLost
  repeat' first
    | with_reducible assumption | (intro _) | with_reducible apply State.put_follows
    | with_reducible apply State.loadPps_follows | with_reducible apply State.judgeSteering_follows
    | with_reducible apply State.Follows.ite | split | dsimp only

theorem State.enterL1_follows {s₀ s : State} (hf : s₀.Follows s) (h : Nat) : s₀.Follows (State.enterL1 s h) := by
  unfold State.enterL1
  repeat' first
    | with_reducible assumption | (intro _) | with_reducible apply State.put_follows
    | with_reducible apply State.setHcrState_follows | with_reducible apply State.ptmLost_follows
    | with_reducible apply State.disarm_follows | with_reducible apply State.emit_follows
    | with_reducible apply State.Follows.ite | split | dsimp only

theorem State.askL1_follows {s₀ s : State} (hf : s₀.Follows s) (h : Nat) : s₀.Follows (State.askL1 s h) := by
  unfold State.askL1
  repeat' first
    | with_reducible assumption | (intro _) | with_reducible apply State.advance_follows
    | with_reducible apply State.enterL1_follows | with_reducible apply State.Follows.ite | split | dsimp only

theorem State.exitL1_follows {s₀ s : State} (hf : s₀.Follows s) (h : Nat) : s₀.Follows (State.exitL1 s h) := by
  unfold State.exitL1
  repeat' first
    | with_reducible assumption | (intro _) | with_reducible apply State.leaveL1_follows
    | with_reducible apply State.wakeRegion_follows | with_reducible apply State.Follows.ite | split | dsimp only

theorem State.enterL1Sub_follows {s₀ s : State} (hf : s₀.Follows s) (h : Nat) (l12 : Bool) : s₀.Follows
    (State.enterL1Sub s h l12) := by
  unfold State.enterL1Sub
  repeat' first
    | with_reducible assumption | (intro _) | with_reducible apply State.put_follows
    | with_reducible apply State.setHcrState_follows | with_reducible apply State.modHost_follows
    | with_reducible apply State.Follows.ite | split | dsimp only

theorem State.setL0p_follows {s₀ s : State} (hf : s₀.Follows s) (h : Nat) (w : Nat) : s₀.Follows (State.setL0p s h w)
    := by
  unfold State.setL0p
  repeat' first
    | with_reducible assumption | (intro _) | with_reducible apply State.put_follows
    | with_reducible apply State.emit_follows | with_reducible apply State.Follows.ite | split | dsimp only

theorem State.evalL0p_follows {s₀ s : State} (hf : s₀.Follows s) (h : Nat) (use16 : Nat) (use2 : Nat) : s₀.Follows
    (State.evalL0p s h use16 use2) := by
  unfold State.evalL0p
  repeat' first
    | with_reducible assumption | (intro _) | with_reducible apply State.setL0p_follows
    | with_reducible apply State.Follows.ite | split | dsimp only

theorem State.hostL0p_follows {s₀ s : State} (hf : s₀.Follows s) (h : Nat) (w : Nat) : s₀.Follows (State.hostL0p s h
    w) := by
  unfold State.hostL0p
  repeat' first
    | with_reducible assumption | (intro _) | with_reducible apply State.setL0p_follows
    | with_reducible apply State.Follows.ite | split | dsimp only

theorem State.cutRead_follows {s₀ s : State} (hf : s₀.Follows s) (h : Nat) (p : Nat) (t : Nat) : s₀.Follows
    (State.cutRead s h p t) := by
  unfold State.cutRead
  repeat' first
    | with_reducible assumption | (intro _) | with_reducible apply State.modHost_follows
    | with_reducible apply State.modPort_follows | with_reducible apply State.Follows.ite | split | dsimp only

theorem State.cutReads_follows {s₀ s : State} (hf : s₀.Follows s) (h : Nat) (which : State → Nat → Nat → DTag → Bool)
    : s₀.Follows (State.cutReads s h which) := by
  unfold State.cutReads
  repeat' first
    | with_reducible assumption | (intro _) | with_reducible apply State.Follows.each
    | with_reducible apply State.cutRead_follows | with_reducible apply State.answerDevices_follows
    | with_reducible apply State.Follows.ite | split | dsimp only

theorem State.refusePosts_follows {s₀ s : State} (hf : s₀.Follows s) (h : Nat) (which : Nat → Bool) : s₀.Follows
    (State.refusePosts s h which) := by
  unfold State.refusePosts
  repeat' first
    | with_reducible assumption | (intro _) | with_reducible apply State.modHost_follows
    | with_reducible apply State.Follows.each | with_reducible apply State.bump_follows
    | with_reducible apply State.jtLog_follows | with_reducible apply State.Follows.ite | split | dsimp only

theorem State.turnOff_follows {s₀ s : State} (hf : s₀.Follows s) (h : Nat) : s₀.Follows (State.turnOff s h) := by
  unfold State.turnOff
  repeat' first
    | with_reducible assumption | (intro _) | with_reducible apply State.leaveL1_follows
    | with_reducible apply State.modHost_follows | with_reducible apply State.refusePosts_follows
    | with_reducible apply State.cutReads_follows | with_reducible apply State.emitMsg_follows
    | with_reducible apply State.put_follows | with_reducible apply State.Follows.ite | split | dsimp only

theorem State.sendLtr_follows {s₀ s : State} (hf : s₀.Follows s) (h : Nat) : s₀.Follows (State.sendLtr s h) := by
  unfold State.sendLtr
  repeat' first
    | with_reducible assumption | (intro _) | with_reducible apply State.modHost_follows
    | with_reducible apply State.leaveL1_follows | with_reducible apply State.emitMsg_follows
    | with_reducible apply State.Follows.ite | split | dsimp only

theorem State.judgeLtr_follows {s₀ s : State} (hf : s₀.Follows s) (h : Nat) : s₀.Follows (State.judgeLtr s h) := by
  unfold State.judgeLtr
  repeat' first
    | with_reducible assumption | (intro _) | with_reducible apply State.advance_follows
    | with_reducible apply State.sendLtr_follows | with_reducible apply State.disarm_follows
    | with_reducible apply State.modHost_follows | with_reducible apply State.expire_follows
    | with_reducible apply State.arm_follows | with_reducible apply State.Follows.ite | split | dsimp only

theorem State.steer_follows {s₀ s : State} (hf : s₀.Follows s) (h : Nat) (o : Int) :
    s₀.Follows (State.steer s h o) := by
  have hm := State.modHost_follows hf h (fun d => { d with steered := true })
  unfold State.steer
  dsimp only
  generalize s.modHost h (fun d => { d with steered := true }) = m at hm ⊢
  have hd : ∀ d : Nat, s₀.Follows { m with devtime := d % 2 ^ 64, slew := 0, slewFrac := 0 } :=
    fun d => hm.same rfl rfl rfl rfl (fun v => { v with devtime := Nat.mod_lt _ (Nat.two_pow_pos 64) })
  have ho : ∀ x : Int, s₀.Follows { m with slew := x, slewFrac := 0 } := fun x => hm.same rfl rfl rfl rfl (fun v => { v with })
  exact State.Follows.ite (State.report_follows (State.put_follows (hd _) _ _ _) _ _ _ _ _ _)
    (State.Follows.ite (State.put_follows (ho _) _ _ _) (ho _))

theorem State.ptmDialog_follows {s₀ s : State} (hf : s₀.Follows s) (h : Nat) (t : PtmTimes) : s₀.Follows
    (State.ptmDialog s h t) := by
  unfold State.ptmDialog
  repeat' first
    | with_reducible assumption | (intro _) | with_reducible apply State.emitMsg_follows
    | with_reducible apply State.modHost_follows | with_reducible apply State.put_follows
    | with_reducible apply State.loadPps_follows | with_reducible apply State.arm_follows
    | with_reducible apply State.judgeSteering_follows | with_reducible apply State.steer_follows
    | with_reducible apply State.Follows.ite | split | dsimp only

theorem State.takeSteering_follows {s₀ s : State} (hf : s₀.Follows s) (was : Option Nat) : s₀.Follows
    (State.takeSteering s was) := by
  unfold State.takeSteering
  repeat' first
    | with_reducible assumption | (intro _) | with_reducible apply State.judgeSteering_follows
    | with_reducible apply State.steer_follows | with_reducible apply State.Follows.ite | split | dsimp only

theorem State.stampPps_follows {s₀ s : State} (hf : s₀.Follows s) : s₀.Follows (State.stampPps s) := by
  unfold State.stampPps
  repeat' first
    | with_reducible assumption | (intro _) | with_reducible apply State.modPins_follows
    | with_reducible apply State.Follows.each | with_reducible apply State.put_follows
    | with_reducible apply State.loadPps_follows | with_reducible apply State.Follows.ite | split | dsimp only

theorem State.ppsEdge_follows {s₀ s : State} (hf : s₀.Follows s) (n : Nat) : s₀.Follows (State.ppsEdge s n) := by
  unfold State.ppsEdge
  repeat' first
    | with_reducible assumption | (intro _) | with_reducible apply State.freeWord_follows
    | with_reducible apply State.stampPps_follows | with_reducible apply State.Follows.each
    | with_reducible apply State.put_follows | with_reducible refine State.Follows.pair (by assumption) ?_
    | with_reducible apply State.Follows.ite | split | dsimp only

theorem State.setSecure_follows {s₀ s : State} (hf : s₀.Follows s) (h : Nat) (i : Nat) (b : Bool) : s₀.Follows
    (State.setSecure s h i b) := by
  unfold State.setSecure
  repeat' first
    | with_reducible assumption | (intro _) | with_reducible apply State.flag_follows
    | with_reducible apply State.put_follows | with_reducible apply State.Follows.ite | split | dsimp only

theorem State.failStream_follows {s₀ s : State} (hf : s₀.Follows s) (h : Nat) (i : Nat) : s₀.Follows (State.failStream
    s h i) := by
  unfold State.failStream
  repeat' first
    | with_reducible assumption | (intro _) | with_reducible apply State.modHost_follows
    | with_reducible apply State.Follows.each | with_reducible apply State.hostError_follows
    | with_reducible apply State.drainWrites_follows | with_reducible apply State.Follows.ite | split | dsimp only

theorem State.ideFail_follows {s₀ s : State} (hf : s₀.Follows s) (h : Nat) (i : Nat) (k : IdeFailure) : s₀.Follows
    (State.ideFail s h i k) := by
  unfold State.ideFail
  repeat' first
    | with_reducible assumption | (intro _) | with_reducible apply State.setIde_follows
    | with_reducible apply State.setSecure_follows | with_reducible apply State.judgeKeys_follows
    | with_reducible apply State.aerUnc_follows | with_reducible apply State.failStream_follows
    | with_reducible apply State.Follows.ite | split | dsimp only

theorem State.eraseIde_follows {s₀ s : State} (hf : s₀.Follows s) (h : Nat) : s₀.Follows (State.eraseIde s h) := by
  unfold State.eraseIde
  repeat' first
    | with_reducible assumption | (intro _) | with_reducible apply State.modHost_follows
    | with_reducible apply State.put_follows | with_reducible apply State.judgeKeys_follows
    | with_reducible apply State.Follows.ite | split | dsimp only

theorem State.progKey_follows {s₀ s : State} (hf : s₀.Follows s) (h : Nat) (i : Nat) (k : Nat) (key : BitVec 256) :
    s₀.Follows (State.progKey s h i k key) := by
  unfold State.progKey
  repeat' first
    | with_reducible assumption | (intro _) | with_reducible apply State.setIde_follows
    | with_reducible apply State.Follows.ite | split | dsimp only

theorem State.setGo_follows {s₀ s : State} (hf : s₀.Follows s) (h : Nat) (i : Nat) (k : Nat) : s₀.Follows (State.setGo
    s h i k) := by
  unfold State.setGo
  repeat' first
    | with_reducible assumption | (intro _) | with_reducible apply State.setIde_follows
    | with_reducible apply State.judgeKeys_follows | with_reducible apply State.setSecure_follows
    | with_reducible apply State.Follows.ite | split | dsimp only

theorem State.setStop_follows {s₀ s : State} (hf : s₀.Follows s) (h : Nat) (i : Nat) (k : Nat) : s₀.Follows
    (State.setStop s h i k) := by
  unfold State.setStop
  repeat' first
    | with_reducible assumption | (intro _) | with_reducible apply State.setIde_follows
    | with_reducible apply State.setSecure_follows | with_reducible apply State.judgeKeys_follows
    | with_reducible apply State.Follows.ite | split | dsimp only

theorem State.turnAway_follows {s₀ s : State} (hf : s₀.Follows s) (f : Nat) (k : BadRequest) :
    s₀.Follows (State.turnAway s f k) := by
  unfold State.turnAway
  cases k <;> dsimp only
  all_goals repeat' first
    | with_reducible assumption | with_reducible apply State.aerUnc_follows
    | with_reducible apply State.emitTlp_follows
    | with_reducible apply State.setStatus_follows | with_reducible apply State.bump_follows
    | with_reducible apply State.Follows.ite

theorem State.noteLanes_follows {s₀ s : State} (hf : s₀.Follows s) (h : Nat) (k : BadRequest) : s₀.Follows
    (State.noteLanes s h k) := by
  unfold State.noteLanes
  repeat' first
    | with_reducible assumption | (intro _) | with_reducible apply State.setCfg_follows
    | with_reducible apply State.Follows.ite | split | dsimp only

theorem State.badRequest_follows {s₀ s : State} (hf : s₀.Follows s) (f : Nat) (k : BadRequest) : s₀.Follows
    (State.badRequest s f k) := by
  unfold State.badRequest
  repeat' first
    | with_reducible assumption | (intro _) | with_reducible apply State.aerUnc_follows
    | with_reducible apply State.noteLanes_follows | with_reducible apply State.aerCor_follows
    | with_reducible apply State.turnAway_follows | with_reducible apply State.Follows.ite | split | dsimp only

theorem State.resetQueue_follows {s₀ s : State} (hf : s₀.Follows s) (q : Nat) : s₀.Follows (State.resetQueue s q) :=
    by
  unfold State.resetQueue
  repeat' first
    | with_reducible assumption | (intro _) | with_reducible apply State.Follows.each
    | with_reducible apply State.resetPlain_follows | with_reducible apply State.setWord_follows
    | with_reducible apply State.disarm_follows | with_reducible apply State.setQueue_follows
    | with_reducible apply State.Follows.ite | split | dsimp only

theorem State.raiseFnGen_follows {s₀ s : State} (hf : s₀.Follows s) (f : Nat) : s₀.Follows (State.raiseFnGen s f) :=
    by
  unfold State.raiseFnGen
  repeat' first
    | with_reducible assumption | (intro _) | with_reducible apply State.put_follows
    | with_reducible apply State.Follows.ite | split | dsimp only

theorem State.raiseQGen_follows {s₀ s : State} (hf : s₀.Follows s) (q : Nat) : s₀.Follows (State.raiseQGen s q) := by
  unfold State.raiseQGen
  repeat' first
    | with_reducible assumption | (intro _) | with_reducible apply State.put_follows
    | with_reducible apply State.Follows.ite | split | dsimp only

theorem State.nohostReads_follows {s₀ s : State} (hf : s₀.Follows s) (f : Nat) : s₀.Follows (State.nohostReads s f) :=
    by
  unfold State.nohostReads
  repeat' first
    | with_reducible assumption | (intro _) | with_reducible apply State.refusePosts_follows
    | with_reducible apply State.cutReads_follows | with_reducible apply State.Follows.ite | split | dsimp only

theorem State.loseMaster_follows {s₀ s : State} (hf : s₀.Follows s) (f : Nat) : s₀.Follows (State.loseMaster s f) :=
    by
  unfold State.loseMaster
  repeat' first
    | with_reducible assumption | (intro _) | with_reducible apply State.haltChannels_follows
    | with_reducible apply State.nohostReads_follows | with_reducible apply State.Follows.ite | split | dsimp only

theorem State.gainMaster_follows {s₀ s : State} (hf : s₀.Follows s) (f : Nat) : s₀.Follows (State.gainMaster s f) :=
    by
  unfold State.gainMaster
  repeat' first
    | with_reducible assumption | (intro _) | with_reducible apply State.freeHeld_follows
    | with_reducible apply State.kickQueues_follows | with_reducible apply State.Follows.ite | split | dsimp only

theorem State.setBme_follows {s₀ s : State} (hf : s₀.Follows s) (f : Nat) (b : Bool) : s₀.Follows (State.setBme s f b)
    := by
  unfold State.setBme
  repeat' first
    | with_reducible assumption | (intro _) | with_reducible apply State.cfgPut_follows
    | with_reducible apply State.modFunc_follows | with_reducible apply State.flag_follows
    | with_reducible apply State.gainMaster_follows | with_reducible apply State.loseMaster_follows
    | with_reducible apply State.Follows.ite | split | dsimp only

theorem State.setMse_follows {s₀ s : State} (hf : s₀.Follows s) (f : Nat) (b : Bool) : s₀.Follows (State.setMse s f b)
    := by
  unfold State.setMse
  repeat' first
    | with_reducible assumption | (intro _) | with_reducible apply State.modFunc_follows
    | with_reducible apply State.flag_follows | with_reducible apply State.Follows.ite | split | dsimp only

theorem State.setPower_follows {s₀ s : State} (hf : s₀.Follows s) (f : Nat) (v : Nat) : s₀.Follows (State.setPower s f
    v) := by
  unfold State.setPower
  repeat' first
    | with_reducible assumption | (intro _) | with_reducible apply State.cfgPut_follows
    | with_reducible apply State.put_follows | with_reducible apply State.loseMaster_follows
    | with_reducible apply State.enterL1_follows | with_reducible apply State.gainMaster_follows
    | with_reducible apply State.Follows.ite | split | dsimp only

theorem State.resetCfg_follows {s₀ s : State} (hf : s₀.Follows s) (f : Nat) : s₀.Follows (State.resetCfg s f) := by
  unfold State.resetCfg
  repeat' first
    | with_reducible assumption | (intro _) | with_reducible apply State.Follows.each
    | with_reducible apply State.setCfg_follows | with_reducible apply State.Follows.ite | split | dsimp only

theorem State.endRegReads_follows {s₀ s : State} (hf : s₀.Follows s) (f : Nat) : s₀.Follows (State.endRegReads s f) :=
    by
  unfold State.endRegReads
  repeat' first
    | with_reducible assumption | (intro _) | with_reducible apply State.modHost_follows
    | with_reducible apply State.Follows.each | with_reducible apply State.emitTlp_follows
    | with_reducible apply State.Follows.ite | split | dsimp only
  all_goals with_reducible apply State.Follows.other
  repeat' first
    | with_reducible assumption | (intro _) | with_reducible apply State.modHost_follows
    | with_reducible apply State.Follows.each | with_reducible apply State.emitTlp_follows
    | with_reducible apply State.Follows.ite | split | dsimp only

theorem State.endReads_follows {s₀ s : State} (hf : s₀.Follows s) (f : Nat) : s₀.Follows (State.endReads s f) := by
  unfold State.endReads
  repeat' first
    | with_reducible assumption | (intro _) | with_reducible apply State.endRegReads_follows
    | with_reducible apply State.Follows.each | with_reducible apply State.dropRead_follows
    | with_reducible apply State.emitTlp_follows | with_reducible apply State.Follows.ite | split | dsimp only

theorem State.endDevices_follows {s₀ s : State} (hf : s₀.Follows s) (f : Nat) : s₀.Follows (State.endDevices s f) :=
    by
  unfold State.endDevices
  repeat' first
    | with_reducible assumption | (intro _) | with_reducible apply State.Follows.each
    | with_reducible apply State.modPort_follows | with_reducible apply State.answerDevices_follows
    | with_reducible apply State.Follows.ite | split | dsimp only

theorem State.clearQueue_follows {s₀ s : State} (hf : s₀.Follows s) (q : Nat) : s₀.Follows (State.clearQueue s q) :=
    by
  unfold State.clearQueue
  repeat' first
    | with_reducible assumption | (intro _) | with_reducible apply State.put_follows
    | with_reducible apply State.drainEngine_follows | with_reducible apply State.dropFetches_follows
    | with_reducible apply State.raiseQGen_follows | with_reducible apply State.resetQueue_follows
    | with_reducible apply State.Follows.ite | split | dsimp only

theorem State.clearPegs_follows {s₀ s : State} (hf : s₀.Follows s) (f : Nat) :
    s₀.Follows (State.clearPegs s f) := by
  have hm : ∀ t : State, s₀.Follows t → s₀.Follows { t with msix := t.msix.filter (fun e => e.1 / 8192 != f) } :=
    fun t k => k.same rfl rfl rfl rfl (fun v => { v with msix := Tbl.wf_filter _ v.msix })
  exact hm _ (State.Follows.each (State.clearInterrupts_follows hf f) _ (fun _ _ k => State.resetPlain_follows k _ _))

theorem State.clearState_follows {s₀ s : State} (hf : s₀.Follows s) (f : Nat) : s₀.Follows (State.clearState s f) :=
    by
  unfold State.clearState
  repeat' first
    | with_reducible assumption | (intro _) | with_reducible apply State.raiseFnGen_follows
    | with_reducible apply State.Follows.each | with_reducible apply State.clearQueue_follows
    | with_reducible apply State.clearPegs_follows | with_reducible apply State.resetCfg_follows
    | with_reducible apply State.resetPlain_follows | with_reducible apply State.flag_follows
    | with_reducible apply State.modFunc_follows | with_reducible apply State.Follows.ite | split | dsimp only

theorem State.clearFunction_follows {s₀ s : State} (hf : s₀.Follows s) (f : Nat) : s₀.Follows (State.clearFunction s
    f) := by
  unfold State.clearFunction
  repeat' first
    | with_reducible assumption | (intro _) | with_reducible apply State.endReads_follows
    | with_reducible apply State.refusePosts_follows | with_reducible apply State.clearState_follows
    | with_reducible apply State.modHost_follows | with_reducible apply State.drainWrites_follows
    | with_reducible apply State.Follows.ite | split | dsimp only

theorem State.beginSequence_follows {s₀ s : State} (hf : s₀.Follows s) (f : Nat) (vanish : Bool) : s₀.Follows
    (State.beginSequence s f vanish) := by
  unfold State.beginSequence
  repeat' first
    | with_reducible assumption | (intro _) | with_reducible apply State.put_follows
    | with_reducible apply State.clearFunction_follows | with_reducible apply State.endDevices_follows
    | with_reducible apply State.modFunc_follows | with_reducible apply State.Follows.each
    | with_reducible apply State.arm_follows | with_reducible apply State.Follows.ite | split | dsimp only

theorem State.dropVfs_follows {s₀ s : State} (hf : s₀.Follows s) (h : Nat) : s₀.Follows (State.dropVfs s h) := by
  unfold State.dropVfs
  repeat' first
    | with_reducible assumption | (intro _) | with_reducible apply State.cfgPut_follows
    | with_reducible apply State.Follows.each | with_reducible apply State.beginSequence_follows
    | with_reducible apply State.clearState_follows | with_reducible apply State.Follows.ite | split | dsimp only

theorem State.payVfe_follows {s₀ s : State} (hf : s₀.Follows s) (h : Nat) : s₀.Follows (State.payVfe s h) := by
  unfold State.payVfe
  repeat' first
    | with_reducible assumption | (intro _) | with_reducible apply State.Follows.each
    | with_reducible apply State.emitTlp_follows | with_reducible apply State.modHost_follows
    | with_reducible apply State.Follows.ite | split | dsimp only

theorem State.withdrawVfe_follows {s₀ s : State} (hf : s₀.Follows s) (h : Nat) : s₀.Follows (State.withdrawVfe s h) :=
    by
  unfold State.withdrawVfe
  repeat' first
    | with_reducible assumption | (intro _) | with_reducible apply State.modHost_follows
    | with_reducible apply State.payVfe_follows | with_reducible apply State.Follows.ite | split | dsimp only

theorem State.clearVfe_follows {s₀ s : State} (hf : s₀.Follows s) (h : Nat) : s₀.Follows (State.clearVfe s h) := by
  unfold State.clearVfe
  repeat' first
    | with_reducible assumption | (intro _) | with_reducible apply State.modHost_follows
    | with_reducible apply State.dropVfs_follows | with_reducible apply State.raiseFnGen_follows
    | with_reducible apply State.Follows.each | with_reducible apply State.raiseQGen_follows
    | with_reducible apply State.payVfe_follows | with_reducible apply State.cfgPut_follows
    | with_reducible apply State.Follows.ite | split | dsimp only

theorem State.followVfMse_follows {s₀ s : State} (hf : s₀.Follows s) (h : Nat) : s₀.Follows (State.followVfMse s h) :=
    by
  unfold State.followVfMse
  repeat' first
    | with_reducible assumption | (intro _) | with_reducible apply State.Follows.each
    | with_reducible apply State.setMse_follows | with_reducible apply State.Follows.ite | split | dsimp only

theorem State.fillSlots_follows {s₀ s : State} (hf : s₀.Follows s) (p : Nat → Bool) : s₀.Follows (State.fillSlots s p)
    := by
  unfold State.fillSlots
  repeat' first
    | with_reducible assumption | (intro _) | with_reducible apply State.Follows.each
    | with_reducible apply State.modFunc_follows | with_reducible apply State.Follows.ite | split | dsimp only

theorem State.setVfe_follows {s₀ s : State} (hf : s₀.Follows s) (h : Nat) : s₀.Follows (State.setVfe s h) := by
  unfold State.setVfe
  repeat' first
    | with_reducible assumption | (intro _) | with_reducible apply State.modHost_follows
    | with_reducible apply State.cfgPut_follows | with_reducible apply State.fillSlots_follows
    | with_reducible apply State.followVfMse_follows | with_reducible apply State.payVfe_follows
    | with_reducible apply State.Follows.ite | split | dsimp only

theorem State.resetMailbox_follows {s₀ s : State} (hf : s₀.Follows s) (h : Nat) :
    s₀.Follows (State.resetMailbox s h) := by
  have hm : ∀ t : State, s₀.Follows t → s₀.Follows { t with
      regs := t.regs.filter (fun e => !((e.1 % 256 == RegKind.MB_REQ.code || e.1 % 256 == RegKind.MB_RSP.code) && e.1 / 256 / 512 == h))
      ridge := { t.ridge with mailbox := t.ridge.mailbox.filter (fun m => m.h != h) } } :=
    fun t k => k.same rfl rfl rfl rfl
      (fun v => { v with regs := Tbl.wf_filter _ v.regs, named := List.all_filter_of v.named, flash := v.flash })
  exact hm _ (State.Follows.each hf _ (fun _ _ k => State.resetPlain_follows k _ _))

theorem State.startFlr_follows {s₀ s : State} (hf : s₀.Follows s) (f : Nat) : s₀.Follows (State.startFlr s f) := by
  unfold State.startFlr
  repeat' first
    | with_reducible assumption | (intro _) | with_reducible apply State.report_follows
    | with_reducible apply State.modFunc_follows | with_reducible apply State.withdrawVfe_follows
    | with_reducible apply State.dropVfs_follows | with_reducible apply State.beginSequence_follows
    | with_reducible apply State.resetMailbox_follows | with_reducible apply State.Follows.each
    | with_reducible apply State.emitTlp_follows | with_reducible apply State.Follows.ite | split | dsimp only

theorem State.endSequence_follows {s₀ s : State} (hf : s₀.Follows s) (f : Nat) : s₀.Follows (State.endSequence s f) :=
    by
  unfold State.endSequence
  repeat' first
    | with_reducible assumption | (intro _) | with_reducible apply State.put_follows
    | with_reducible apply State.modFunc_follows | with_reducible apply State.Follows.each
    | with_reducible apply State.flag_follows | with_reducible apply State.setBme_follows
    | with_reducible apply State.emitTlp_follows | with_reducible apply State.setVfe_follows
    | with_reducible apply State.Follows.ite | split | dsimp only

theorem State.retryFlr_follows {s₀ s : State} (hf : s₀.Follows s) (f : Nat) : s₀.Follows (State.retryFlr s f) := by
  unfold State.retryFlr
  repeat' first
    | with_reducible assumption | (intro _) | with_reducible apply State.startFlr_follows
    | with_reducible apply State.Follows.ite | split | dsimp only

theorem State.strandTags_follows {s₀ s : State} (hf : s₀.Follows s) (h : Nat) : s₀.Follows (State.strandTags s h) :=
    by
  unfold State.strandTags
  repeat' first
    | with_reducible assumption | (intro _) | with_reducible apply State.Follows.each
    | with_reducible apply State.modPort_follows | with_reducible apply State.Follows.ite | split | dsimp only

theorem State.resetPortFns_follows {s₀ s : State} (hf : s₀.Follows s) (h : Nat) : s₀.Follows (State.resetPortFns s h)
    := by
  unfold State.resetPortFns
  repeat' first
    | with_reducible assumption | (intro _) | with_reducible apply State.Follows.each
    | with_reducible apply State.clearFunction_follows | with_reducible apply State.endDevices_follows
    | with_reducible apply State.clearState_follows | with_reducible apply State.strandTags_follows
    | with_reducible apply State.setFunc_follows | with_reducible apply State.put_follows
    | with_reducible apply State.Follows.ite | split | dsimp only

theorem State.dropTags_follows {s₀ s : State} (hf : s₀.Follows s) (h : Nat) : s₀.Follows (State.dropTags s h) := by
  unfold State.dropTags
  repeat' first
    | with_reducible assumption | (intro _) | with_reducible apply State.disarmAll_follows
    | with_reducible apply State.modHost_follows | with_reducible apply State.Follows.each
    | with_reducible apply State.hostStale_follows | with_reducible apply State.Follows.ite | split | dsimp only

theorem State.resetHostRegs_follows {s₀ s : State} (hf : s₀.Follows s) (h : Nat) : s₀.Follows (State.resetHostRegs s
    h) := by
  unfold State.resetHostRegs
  repeat' first
    | with_reducible assumption | (intro _) | with_reducible apply State.Follows.each
    | with_reducible apply State.resetPlain_follows | with_reducible apply State.eraseIde_follows
    | with_reducible apply State.disarmAll_follows | with_reducible apply State.modHost_follows
    | with_reducible apply State.setCfg_follows | with_reducible apply State.judgeSteering_follows
    | with_reducible apply State.Follows.ite | split | dsimp only

theorem State.hostReset_follows {s₀ s : State} (hf : s₀.Follows s) (h : Nat) : s₀.Follows (State.hostReset s h) := by
  unfold State.hostReset
  repeat' first
    | with_reducible assumption | (intro _) | with_reducible apply State.resetHostRegs_follows
    | with_reducible apply State.resetPortFns_follows | with_reducible apply State.dropTags_follows
    | with_reducible apply State.resetMailbox_follows | with_reducible apply State.Follows.ite | split | dsimp only

theorem State.perstLow_follows {s₀ s : State} (hf : s₀.Follows s) (h : Nat) : s₀.Follows (State.perstLow s h) := by
  unfold State.perstLow
  repeat' first
    | with_reducible assumption | (intro _) | with_reducible apply State.modHost_follows
    | with_reducible apply State.put_follows | with_reducible apply State.hostReset_follows
    | with_reducible apply State.setHcrState_follows | with_reducible apply State.Follows.ite | split | dsimp only

theorem State.startHcr_follows {s₀ s : State} (hf : s₀.Follows s) (h : Nat) : s₀.Follows (State.startHcr s h) := by
  unfold State.startHcr
  repeat' first
    | with_reducible assumption | (intro _) | with_reducible apply State.setHcrState_follows
    | with_reducible apply State.bump_follows | with_reducible apply State.Follows.ite | split | dsimp only

theorem State.perstHigh_follows {s₀ s : State} (hf : s₀.Follows s) (h : Nat) : s₀.Follows (State.perstHigh s h) := by
  unfold State.perstHigh
  repeat' first
    | with_reducible assumption | (intro _) | with_reducible apply State.modHost_follows
    | with_reducible apply State.startHcr_follows | with_reducible apply State.Follows.ite | split | dsimp only

theorem State.cableChange_follows {s₀ s : State} (hf : s₀.Follows s) (h : Nat) (here : Bool) : s₀.Follows
    (State.cableChange s h here) := by
  unfold State.cableChange
  repeat' first
    | with_reducible assumption | (intro _) | with_reducible apply State.modHost_follows
    | with_reducible apply State.setHcrState_follows | with_reducible apply State.startHcr_follows
    | with_reducible apply State.hostReset_follows | with_reducible apply State.Follows.ite | split | dsimp only

theorem State.linkLost_follows {s₀ s : State} (hf : s₀.Follows s) (h : Nat) : s₀.Follows (State.linkLost s h) := by
  unfold State.linkLost
  repeat' first
    | with_reducible assumption | (intro _) | with_reducible apply State.hostReset_follows
    | with_reducible apply State.ungateHcr_follows | with_reducible apply State.Follows.ite | split | dsimp only

theorem State.configRead_follows {s₀ s : State} (hf : s₀.Follows s) (h : Nat) (n : Nat) (dw : Nat) : s₀.Follows
    (State.configRead s h n dw) := by
  unfold State.configRead
  repeat' first
    | with_reducible assumption | (intro _) | with_reducible apply State.leaveL1_follows
    | with_reducible apply State.emitTlp_follows | with_reducible apply State.Follows.ite | split | dsimp only

theorem State.doeGo_follows {s₀ s : State} (hf : s₀.Follows s) (h : Nat) : s₀.Follows (State.doeGo s h) := by
  unfold State.doeGo
  repeat' first
    | with_reducible assumption | (intro _) | with_reducible apply State.setHost_follows
    | with_reducible apply State.Follows.ite | split | dsimp only

theorem State.doeAbort_follows {s₀ s : State} (hf : s₀.Follows s) (h : Nat) : s₀.Follows (State.doeAbort s h) := by
  unfold State.doeAbort
  repeat' first
    | with_reducible assumption | (intro _) | with_reducible apply State.modHost_follows
    | with_reducible apply State.modRidge_follows | with_reducible apply State.Follows.ite | split | dsimp only

theorem State.doeWrite_follows {s₀ s : State} (hf : s₀.Follows s) (h : Nat) (o : Nat) (data : Dword) : s₀.Follows
    (State.doeWrite s h o data) := by
  unfold State.doeWrite
  repeat' first
    | with_reducible assumption | (intro _) | with_reducible apply State.doeAbort_follows
    | with_reducible apply State.doeGo_follows | with_reducible apply State.modHost_follows
    | with_reducible apply State.Follows.ite | split | dsimp only

theorem State.trimBar_follows {s₀ s : State} (hf : s₀.Follows s) (f : Nat) (lo : Nat) (n : Nat) : s₀.Follows
    (State.trimBar s f lo n) := by
  unfold State.trimBar
  repeat' first
    | with_reducible assumption | (intro _) | with_reducible apply State.setCfg_follows
    | with_reducible apply State.Follows.ite | split | dsimp only

theorem State.resizeBar_follows {s₀ s : State} (hf : s₀.Follows s) (h : Nat) (vf : Bool) (v : Nat) : s₀.Follows
    (State.resizeBar s h vf v) := by
  unfold State.resizeBar
  repeat' first
    | with_reducible assumption | (intro _) | with_reducible apply State.cfgPut_follows
    | with_reducible apply State.trimBar_follows | with_reducible apply State.Follows.ite | split | dsimp only

theorem State.setMme_follows {s₀ s : State} (hf : s₀.Follows s) (e : Nat) : s₀.Follows (State.setMme s e) := by
  unfold State.setMme
  repeat' first
    | with_reducible assumption | (intro _) | with_reducible apply State.cfgPut_follows
    | with_reducible apply State.rebuildPlank_follows | with_reducible apply State.freeHeld_follows
    | with_reducible apply State.Follows.ite | split | dsimp only

theorem State.marginCmd_follows {s₀ s : State} (hf : s₀.Follows s) (h : Nat) (o : Nat) : s₀.Follows (State.marginCmd s
    h o) := by
  unfold State.marginCmd
  repeat' first
    | with_reducible assumption | (intro _) | with_reducible apply State.freeBytes_follows
    | with_reducible apply State.cfgPut_follows | with_reducible refine State.Follows.pair (by assumption) ?_
    | with_reducible apply State.Follows.ite | split | dsimp only

theorem State.timeoutChange_follows {s₀ s : State} (hf : s₀.Follows s) (h : Nat) (off : Bool) : s₀.Follows
    (State.timeoutChange s h off) := by
  unfold State.timeoutChange
  repeat' first
    | with_reducible assumption | (intro _) | with_reducible apply State.Follows.each
    | with_reducible apply State.disarm_follows | with_reducible apply State.arm_follows
    | with_reducible apply State.Follows.ite | split | dsimp only

theorem State.alignVfBars_follows {s₀ s : State} (hf : s₀.Follows s) (h : Nat) : s₀.Follows (State.alignVfBars s h) :=
    by
  unfold State.alignVfBars
  repeat' first
    | with_reducible assumption | (intro _) | with_reducible apply State.Follows.each
    | with_reducible apply State.trimBar_follows | with_reducible apply State.Follows.ite | split | dsimp only

theorem State.writeVfe_follows {s₀ s : State} (hf : s₀.Follows s) (h : Nat) (old : Bool) (new : Bool) : s₀.Follows
    (State.writeVfe s h old new) := by
  unfold State.writeVfe
  repeat' first
    | with_reducible assumption | (intro _) | with_reducible apply State.setVfe_follows
    | with_reducible apply State.withdrawVfe_follows | with_reducible apply State.clearVfe_follows
    | with_reducible apply State.Follows.ite | split | dsimp only

theorem State.cfgEffect_follows {s₀ s : State} (hf : s₀.Follows s) (f : Nat) (o : Nat) (old : Dword) (data : Dword)
    (be : Nat) : s₀.Follows (State.cfgEffect s f o old data be) := by
  unfold State.cfgEffect
  repeat' first
    | with_reducible assumption | (intro _) | with_reducible apply State.setMse_follows
    | with_reducible apply State.setBme_follows | with_reducible apply State.cfgPut_follows
    | with_reducible apply State.setPower_follows | with_reducible apply State.startFlr_follows
    | with_reducible apply State.timeoutChange_follows | with_reducible apply State.alignVfBars_follows
    | with_reducible apply State.rebuildPlank_follows | with_reducible apply State.freeHeld_follows
    | with_reducible apply State.resizeBar_follows | with_reducible apply State.writeVfe_follows
    | with_reducible apply State.followVfMse_follows | with_reducible apply State.arm_follows
    | with_reducible apply State.disarm_follows | with_reducible apply State.marginCmd_follows
    | with_reducible apply State.Follows.ite | split | dsimp only

theorem State.cfgWrite_follows {s₀ s : State} (hf : s₀.Follows s) (f : Nat) (o : Nat) (data : Dword) (be : Nat) :
    s₀.Follows (State.cfgWrite s f o data be) := by
  unfold State.cfgWrite
  repeat' first
    | with_reducible assumption | (intro _) | with_reducible apply State.doeWrite_follows
    | with_reducible apply State.setCfg_follows | with_reducible apply State.cfgEffect_follows
    | with_reducible apply State.Follows.ite | split | dsimp only

theorem State.payCommand_follows {s₀ s : State} (hf : s₀.Follows s) (f : Nat) : s₀.Follows (State.payCommand s f) :=
    by
  unfold State.payCommand
  repeat' first
    | with_reducible assumption | (intro _) | with_reducible apply State.Follows.each
    | with_reducible apply State.emitTlp_follows | with_reducible apply State.modFunc_follows
    | with_reducible apply State.Follows.ite | split | dsimp only

theorem State.configWrite_follows {s₀ s : State} (hf : s₀.Follows s) (h : Nat) (n : Nat) (dw : Nat) (data : Dword) (be
    : Nat) (busDev : Nat) : s₀.Follows (State.configWrite s h n dw data be busDev) := by
  unfold State.configWrite
  repeat' first
    | with_reducible assumption | (intro _) | with_reducible apply State.leaveL1_follows
    | with_reducible apply State.emitTlp_follows | with_reducible apply State.modHost_follows
    | with_reducible apply State.wakeRegion_follows | with_reducible apply State.cfgWrite_follows
    | with_reducible apply State.modFunc_follows | with_reducible apply State.payCommand_follows
    | with_reducible apply State.Follows.ite | split | dsimp only

theorem State.romRead_follows {s₀ s : State} (hf : s₀.Follows s) (o : Nat) (n : Nat) : s₀.Follows (State.romRead s o
    n) := by
  unfold State.romRead
  repeat' first
    | with_reducible assumption | (intro _) | with_reducible apply State.leaveL1_follows
    | with_reducible apply State.rebuildPlank_follows | with_reducible apply State.emitTlp_follows
    | with_reducible apply State.answerUr_follows | with_reducible apply State.Follows.ite | split | dsimp only

theorem State.loadWord_follows {s₀ s : State} (hf : s₀.Follows s) (w : Nat) (v : Word) (m : Word) : s₀.Follows
    (State.loadWord s w v m) := by
  unfold State.loadWord
  repeat' first
    | with_reducible assumption | (intro _) | with_reducible apply State.Follows.each
    | with_reducible apply State.setWord_follows | with_reducible apply State.Follows.ite | split | dsimp only

theorem State.loadWords_follows {s₀ s : State} (hf : s₀.Follows s) (ws : List (Nat × (Word × Word))) : s₀.Follows
    (State.loadWords s ws) := by
  unfold State.loadWords
  repeat' first
    | with_reducible assumption | (intro _) | with_reducible apply State.Follows.each
    | with_reducible apply State.loadWord_follows | with_reducible apply State.Follows.ite | split | dsimp only

end Sys2Proof.Machine
end

