-- ==== Sys2Proof/Laws/FollowsTxn.lean ====
section
/-! SUPPORT. What the operations of dry-fit transactions and the retained-state store keep (State.Follows): one lemma
per operation. -/

namespace Sys2Proof.Machine

set_option linter.all false
set_option Elab.async false

theorem State.resulting_follows {s₀ s : State} (hf : s₀.Follows s) (ws : Staged) : s₀.Follows (State.resulting s ws)
    := by
  unfold State.resulting
  repeat' first
    | with_reducible assumption | (intro _) | with_reducible apply State.loadWords_follows
    | with_reducible apply State.Follows.each | with_reducible apply State.put_follows
    | with_reducible apply State.Follows.ite | split | dsimp only

theorem State.asMended_follows {s₀ s : State} (hf : s₀.Follows s) (words : List Nat) : s₀.Follows (State.asMended s
    words) := by
  unfold State.asMended
  repeat' first
    | with_reducible assumption | (intro _) | with_reducible apply State.Follows.ite | split | dsimp only
  all_goals with_reducible apply State.Follows.other
  repeat' first
    | with_reducible assumption | (intro _) | with_reducible apply State.Follows.ite | split | dsimp only

theorem State.startJob_follows {s₀ s : State} (hf : s₀.Follows s) (j : RssJob) (tokens : Nat) :
    s₀.Follows (State.startJob s j tokens) := by
  unfold State.startJob
  repeat' first
    | with_reducible assumption | (intro _) | omega | with_reducible apply State.put_follows
    | with_reducible apply State.modRss_follows | with_reducible apply State.Follows.ite | split | dsimp only

theorem State.startPersist_follows {s₀ s : State} (hf : s₀.Follows s) (c : Nat) (seq : Nat) (t : Tbl Word) :
    s₀.Follows (State.startPersist s c seq t) := by
  unfold State.startPersist
  repeat' first
    | with_reducible assumption | (intro _) | with_reducible apply State.startJob_follows
    | with_reducible apply State.Follows.ite | split | dsimp only

theorem State.endJob_follows {s₀ s : State} (hf : s₀.Follows s) (m : Tbl Byte) (hm : s.Inv → Tbl.wf (fun _ => (0
    : Byte)) m = true) :
    s₀.Follows (State.endJob s m) := by
  have hj : s₀.Follows { s with rss := { s.rss with bytes := m, job := none } } :=
    hf.same rfl rfl rfl rfl (fun v => { v with store := hm v, wear := v.wear })
  exact State.put_follows hj _ _ _

theorem State.compactFull_follows {s₀ s : State} (hf : s₀.Follows s) : s₀.Follows (State.compactFull s) := by
  unfold State.compactFull
  repeat' first
    | with_reducible assumption | (intro _) | with_reducible apply State.modRss_follows
    | with_reducible apply State.startJob_follows | with_reducible apply State.Follows.ite | split | dsimp only

theorem State.compactAsked_follows {s₀ s : State} (hf : s₀.Follows s) : s₀.Follows (State.compactAsked s) := by
  unfold State.compactAsked
  repeat' first
    | with_reducible assumption | (intro _) | with_reducible apply State.put_follows
    | with_reducible apply State.bump_follows | with_reducible apply State.startJob_follows
    | with_reducible apply State.Follows.ite | split | dsimp only

theorem recordBytes_wf {s : State} (v : s.Inv) (c seq : Nat) (t : Tbl Word) :
    Tbl.wf (fun _ => (0 : Byte)) (s.recordBytes c seq t) = true :=
  rssWrite_wf _ _ _ v.store

theorem compactBytes_wf {s : State} (v : s.Inv) (seq : Nat) (t : Tbl Word) :
    Tbl.wf (fun _ => (0 : Byte)) (s.compactBytes seq t) = true :=
  rssWrite_wf _ _ _ (rssWrite_wf _ _ _ (rssWrite_wf _ _ _ (rssWrite_wf _ _ _ v.store)))

theorem State.finishWrite_follows {s₀ s : State} (hf : s₀.Follows s) :
    s₀.Follows (State.finishWrite s) := by
  unfold State.finishWrite
  repeat' first
    | with_reducible assumption | (intro _) | with_reducible exact recordBytes_wf (by assumption) _ _ _
    | with_reducible exact compactBytes_wf (by assumption) _ _ | with_reducible apply State.put_follows
    | with_reducible apply State.endJob_follows | with_reducible apply State.bump_follows
    | with_reducible apply State.compactFull_follows | with_reducible apply State.compactAsked_follows
    | with_reducible apply State.modRss_follows | with_reducible apply State.Follows.ite | split | dsimp only

theorem State.tearWrite_follows {s₀ s : State} (hf : s₀.Follows s) :
    s₀.Follows (State.tearWrite s) := by
  unfold State.tearWrite
  repeat' first
    | with_reducible assumption | (intro _) | (rename_i v; exact rssWrite_wf _ _ _ (State.Inv.store v))
    | with_reducible apply State.endJob_follows | with_reducible apply State.Follows.ite | split | dsimp only

theorem State.setResult_follows {s₀ s : State} (hf : s₀.Follows s) (c : Nat) (r : Nat) : s₀.Follows (State.setResult s
    c r) := by
  unfold State.setResult
  repeat' first
    | with_reducible assumption | (intro _) | with_reducible apply State.put_follows
    | with_reducible apply State.Follows.ite | split | dsimp only

theorem State.loadFailure_follows {s₀ s : State} (hf : s₀.Follows s) (c : Nat) (code : Nat) (b : Option Broken) (wait
    : Nat) : s₀.Follows (State.loadFailure s c code b wait) := by
  unfold State.loadFailure
  repeat' first
    | with_reducible assumption | (intro _) | with_reducible apply State.put_follows
    | with_reducible apply State.flag_follows | with_reducible apply State.Follows.ite | split | dsimp only

theorem State.clearFailure_follows {s₀ s : State} (hf : s₀.Follows s) (c : Nat) : s₀.Follows (State.clearFailure s c)
    := by
  unfold State.clearFailure
  repeat' first
    | with_reducible assumption | (intro _) | with_reducible apply State.put_follows
    | with_reducible apply State.setWord_follows | with_reducible apply State.Follows.ite | split | dsimp only

theorem State.stage_follows {s₀ s : State} (hf : s₀.Follows s) (c : Nat) (w : Nat) (v : Word) (m : Word) : s₀.Follows
    (State.stage s c w v m) := by
  unfold State.stage
  repeat' first
    | with_reducible assumption | (intro _) | with_reducible apply State.put_follows
    | with_reducible apply State.modTxn_follows | with_reducible apply State.Follows.ite | split | dsimp only

theorem State.stopHere_follows {s₀ s : State} (hf : s₀.Follows s) (q : Nat) : s₀.Follows (State.stopHere s q) := by
  unfold State.stopHere
  repeat' first
    | with_reducible assumption | (intro _) | with_reducible apply State.recordResume_follows
    | with_reducible apply State.put_follows | with_reducible apply State.loseExt_follows
    | with_reducible apply State.drainEngine_follows | with_reducible apply State.Follows.ite | split | dsimp only

theorem State.quiesceQueue_follows {s₀ s : State} (hf : s₀.Follows s) (q : Nat) : s₀.Follows (State.quiesceQueue s q)
    := by
  unfold State.quiesceQueue
  repeat' first
    | with_reducible assumption | (intro _) | with_reducible apply State.modQueue_follows
    | with_reducible apply State.stopHere_follows | with_reducible apply State.Follows.ite | split | dsimp only

theorem State.forceQuiet_follows {s₀ s : State} (hf : s₀.Follows s) (q : Nat) : s₀.Follows (State.forceQuiet s q) :=
    by
  unfold State.forceQuiet
  repeat' first
    | with_reducible assumption | (intro _) | with_reducible apply State.holdEntry_follows
    | with_reducible apply State.put_follows | with_reducible apply State.stopHere_follows
    | with_reducible apply State.Follows.ite | split | dsimp only

theorem State.unquiesce_follows {s₀ s : State} (hf : s₀.Follows s) (q : Nat) : s₀.Follows (State.unquiesce s q) := by
  unfold State.unquiesce
  repeat' first
    | with_reducible assumption | (intro _) | with_reducible apply State.modQueue_follows
    | with_reducible apply State.runWaiting_follows | with_reducible apply State.settleState_follows
    | with_reducible apply State.tryEntry_follows | with_reducible apply State.Follows.ite | split | dsimp only

theorem State.markQuiescing_follows {s₀ s : State} (hf : s₀.Follows s) (qs : List Nat) (b : Bool) : s₀.Follows
    (State.markQuiescing s qs b) := by
  unfold State.markQuiescing
  repeat' first
    | with_reducible assumption | (intro _) | with_reducible apply State.Follows.each
    | with_reducible apply State.flag_follows | with_reducible apply State.Follows.ite | split | dsimp only

theorem State.dropTxn_follows {s₀ s : State} (hf : s₀.Follows s) (e : Nat) : s₀.Follows (State.dropTxn s e) := by
  unfold State.dropTxn
  repeat' first
    | with_reducible assumption | (intro _) | with_reducible apply State.markQuiescing_follows
    | with_reducible apply State.Follows.each | with_reducible apply State.unquiesce_follows
    | with_reducible apply State.disarm_follows | with_reducible apply State.setTxn_follows
    | with_reducible apply State.Follows.ite | split | dsimp only
  all_goals with_reducible apply State.Follows.other
  repeat' first
    | with_reducible assumption | (intro _) | with_reducible apply State.markQuiescing_follows
    | with_reducible apply State.Follows.each | with_reducible apply State.unquiesce_follows
    | with_reducible apply State.disarm_follows | with_reducible apply State.setTxn_follows
    | with_reducible apply State.Follows.ite | split | dsimp only

theorem State.rollBack_follows {s₀ s : State} (hf : s₀.Follows s) (c : Nat) (r : Nat) : s₀.Follows (State.rollBack s c
    r) := by
  unfold State.rollBack
  repeat' first
    | with_reducible assumption | (intro _) | with_reducible apply State.dropTxn_follows
    | with_reducible apply State.disarm_follows | with_reducible apply State.put_follows
    | with_reducible apply State.setResult_follows | with_reducible apply State.Follows.ite | split | dsimp only

theorem State.timeOut_follows {s₀ s : State} (hf : s₀.Follows s) (c : Nat) : s₀.Follows (State.timeOut s c) := by
  unfold State.timeOut
  repeat' first
    | with_reducible assumption | (intro _) | with_reducible apply State.rollBack_follows
    | with_reducible apply State.modTxn_follows | with_reducible apply State.Follows.ite | split | dsimp only

theorem State.beginQuiesce_follows {s₀ s : State} (hf : s₀.Follows s) (e : Nat) : s₀.Follows (State.beginQuiesce s e)
    := by
  unfold State.beginQuiesce
  repeat' first
    | with_reducible assumption | (intro _) | with_reducible apply State.resulting_follows
    | with_reducible apply State.modTxn_follows | with_reducible apply State.Follows.each
    | with_reducible apply State.quiesceQueue_follows | with_reducible apply State.markQuiescing_follows
    | with_reducible apply State.wakeRegion_follows | with_reducible apply State.arm_follows
    | with_reducible apply State.Follows.ite | split | dsimp only

theorem State.restBays_follows {s₀ s : State} (hf : s₀.Follows s) : s₀.Follows (State.restBays s) := by
  unfold State.restBays
  repeat' first
    | with_reducible assumption | (intro _) | with_reducible apply State.Follows.each
    | with_reducible apply State.sleepBay_follows | with_reducible apply State.Follows.ite | split | dsimp only

theorem State.logMoves_follows {s₀ s : State} (hf : s₀.Follows s) (f : Nat) (qs : List (Nat × Nat × Bool)) :
    s₀.Follows (State.logMoves s f qs) := by
  unfold State.logMoves
  repeat' first
    | with_reducible assumption | (intro _) | with_reducible apply State.put_follows
    | with_reducible apply State.flag_follows | with_reducible apply State.Follows.ite | split | dsimp only

theorem State.leaveSlot_follows {s₀ s : State} (hf : s₀.Follows s) (q : Nat) (old : Nat) : s₀.Follows (State.leaveSlot
    s q old) := by
  unfold State.leaveSlot
  repeat' first
    | with_reducible assumption | (intro _) | with_reducible apply State.modFunc_follows
    | with_reducible apply State.Follows.ite | split | dsimp only

theorem State.takeSlot_follows {s₀ s : State} (hf : s₀.Follows s) (q : Nat) (new : Nat) : s₀.Follows (State.takeSlot s
    q new) := by
  unfold State.takeSlot
  repeat' first
    | with_reducible assumption | (intro _) | with_reducible apply State.modFunc_follows
    | with_reducible apply State.Follows.ite | split | dsimp only

theorem State.moveQueue_follows {s₀ s : State} (hf : s₀.Follows s) (q : Nat) : s₀.Follows (State.moveQueue s q) := by
  unfold State.moveQueue
  repeat' first
    | with_reducible assumption | (intro _) | with_reducible apply State.bump_follows
    | with_reducible apply State.drainEngine_follows | with_reducible apply State.dropFetches_follows
    | with_reducible apply State.raiseQGen_follows | with_reducible apply State.resetQueue_follows
    | with_reducible apply State.modQueue_follows | with_reducible apply State.Follows.ite | split | dsimp only
  all_goals with_reducible apply State.Follows.other
  repeat' first
    | with_reducible assumption | (intro _) | with_reducible apply State.bump_follows
    | with_reducible apply State.drainEngine_follows | with_reducible apply State.dropFetches_follows
    | with_reducible apply State.raiseQGen_follows | with_reducible apply State.resetQueue_follows
    | with_reducible apply State.modQueue_follows | with_reducible apply State.Follows.ite | split | dsimp only

theorem State.loseVector_follows {s₀ s : State} (hf : s₀.Follows s) (f : Nat) (e : Nat) : s₀.Follows (State.loseVector
    s f e) := by
  unfold State.loseVector
  repeat' first
    | with_reducible assumption | (intro _) | with_reducible apply State.setPba_follows
    | with_reducible apply State.Follows.each | with_reducible apply State.put_follows
    | with_reducible apply State.setPeg_follows | with_reducible apply State.wakePeg_follows
    | with_reducible apply State.modQueue_follows | with_reducible apply State.askVector_follows
    | with_reducible apply State.Follows.ite | split | dsimp only

theorem State.gainVector_follows {s₀ s : State} (hf : s₀.Follows s) (f : Nat) (e : Nat) : s₀.Follows (State.gainVector
    s f e) := by
  unfold State.gainVector
  repeat' first
    | with_reducible assumption | (intro _) | with_reducible apply State.Follows.each
    | with_reducible apply State.setMsix_follows | with_reducible apply State.setPba_follows
    | with_reducible apply State.Follows.ite | split | dsimp only

theorem State.movePeg_follows {s₀ s : State} (hf : s₀.Follows s) (i : Nat) : s₀.Follows (State.movePeg s i) := by
  unfold State.movePeg
  repeat' first
    | with_reducible assumption | (intro _) | with_reducible apply State.modPeg_follows
    | with_reducible apply State.put_follows | with_reducible apply State.setPeg_follows
    | with_reducible apply State.wakePeg_follows | with_reducible apply State.Follows.ite | split | dsimp only

theorem State.mend_follows {s₀ s : State} (hf : s₀.Follows s) (words : List Nat) : s₀.Follows (State.mend s words) :=
    by
  unfold State.mend
  repeat' first
    | with_reducible assumption | (intro _) | with_reducible apply State.Follows.each
    | with_reducible apply State.put_follows | with_reducible apply State.unquiesce_follows
    | with_reducible apply State.Follows.ite | split | dsimp only
  all_goals with_reducible apply State.Follows.other
  repeat' first
    | with_reducible assumption | (intro _) | with_reducible apply State.Follows.each
    | with_reducible apply State.put_follows | with_reducible apply State.unquiesce_follows
    | with_reducible apply State.Follows.ite | split | dsimp only

theorem State.loadShadow_follows {s₀ s : State} (hf : s₀.Follows s) (s0 : State) (ws : Staged) : s₀.Follows
    (State.loadShadow s0 s ws) := by
  unfold State.loadShadow
  repeat' first
    | with_reducible assumption | (intro _) | with_reducible apply State.modPlumb_follows
    | with_reducible apply State.Follows.foldl | with_reducible apply State.put_follows
    | with_reducible apply State.Follows.ite | split | dsimp only

theorem State.portsBefore_follows {s₀ s0 : State} (hf : s₀.Follows s0) (after : State) (ps : List Nat) : s₀.Follows
    (State.portsBefore s0 after ps) := by
  unfold State.portsBefore
  repeat' first
    | with_reducible assumption | (intro _) | with_reducible apply State.Follows.each
    | with_reducible apply State.portDown_follows | with_reducible apply State.endRequests_follows
    | with_reducible apply State.Follows.ite | split | dsimp only

theorem State.portsAfter_follows {s₀ s : State} (hf : s₀.Follows s) (s0 : State) (ps : List Nat) : s₀.Follows
    (State.portsAfter s s0 ps) := by
  unfold State.portsAfter
  repeat' first
    | with_reducible assumption | (intro _) | with_reducible apply State.Follows.each
    | with_reducible apply State.put_follows | with_reducible apply State.modPort_follows
    | with_reducible apply State.disablePort_follows | with_reducible apply State.holdInTest_follows
    | with_reducible apply State.enterReset_follows | with_reducible apply State.startTraining_follows
    | with_reducible apply State.disarm_follows | with_reducible apply State.Follows.ite | split | dsimp only

theorem State.timePeriods_follows {s₀ s : State} (hf : s₀.Follows s) (ws : Staged) : s₀.Follows (State.timePeriods s
    ws) := by
  unfold State.timePeriods
  repeat' first
    | with_reducible assumption | (intro _) | with_reducible apply State.Follows.each
    | with_reducible apply State.disarm_follows | with_reducible apply State.armOnce_follows
    | with_reducible apply State.Follows.ite | split | dsimp only

theorem State.strobeWords_follows {s₀ s0 : State} (hf : s₀.Follows s0) (ws : Staged) (moving : List Nat) : s₀.Follows
    (State.strobeWords s0 ws moving).1 := by
  unfold State.strobeWords
  repeat' first
    | with_reducible assumption | (intro _) | with_reducible apply State.resulting_follows
    | with_reducible apply State.portsBefore_follows | with_reducible apply State.Follows.each
    | with_reducible apply State.moveQueue_follows | with_reducible apply State.loadWords_follows
    | with_reducible apply State.logMoves_follows | with_reducible apply State.leaveSlot_follows
    | with_reducible apply State.takeSlot_follows | with_reducible apply State.put_follows
    | with_reducible apply State.modPeg_follows | with_reducible apply State.movePeg_follows
    | with_reducible apply State.loseVector_follows | with_reducible apply State.gainVector_follows
    | with_reducible apply State.loadShadow_follows | with_reducible apply State.portsAfter_follows
    | with_reducible apply State.timePeriods_follows | with_reducible apply State.mend_follows
    | with_reducible apply State.rebuildPlank_follows | with_reducible apply State.Follows.ite | split | dsimp only

theorem State.strobe_follows {s₀ s : State} (hf : s₀.Follows s) (e : Nat) : s₀.Follows (State.strobe s e) := by
  unfold State.strobe
  repeat' first
    | with_reducible assumption | (intro _) | with_reducible apply State.markQuiescing_follows
    | with_reducible apply State.strobeWords_follows | with_reducible apply State.disarm_follows
    | with_reducible apply State.setTxn_follows | with_reducible apply State.put_follows
    | with_reducible apply State.modTxn_follows | with_reducible apply State.startPersist_follows
    | with_reducible apply State.setResult_follows | with_reducible refine State.Follows.left (by assumption) ?_
    | with_reducible apply State.Follows.ite | split | dsimp only
  all_goals with_reducible apply State.Follows.other
  repeat' first
    | with_reducible assumption | (intro _) | with_reducible apply State.markQuiescing_follows
    | with_reducible apply State.strobeWords_follows | with_reducible apply State.disarm_follows
    | with_reducible apply State.setTxn_follows | with_reducible apply State.put_follows
    | with_reducible apply State.modTxn_follows | with_reducible apply State.startPersist_follows
    | with_reducible apply State.setResult_follows | with_reducible refine State.Follows.left (by assumption) ?_
    | with_reducible apply State.Follows.ite | split | dsimp only

theorem State.runCommits_follows {s₀ s : State} (hf : s₀.Follows s) (x1 : Nat) : s₀.Follows (State.runCommits s x1) :=
    by
  induction x1 generalizing s with
  | zero =>
    unfold State.runCommits
    repeat' first
      | with_reducible assumption | (intro _) | with_reducible apply State.strobe_follows
      | with_reducible apply State.dropTxn_follows | with_reducible apply State.loadFailure_follows
      | with_reducible apply State.setResult_follows | with_reducible apply State.put_follows
      | with_reducible apply State.timeOut_follows | with_reducible apply State.clearFailure_follows
      | with_reducible apply State.beginQuiesce_follows | with_reducible apply State.Follows.ite | split | dsimp only
  | succ n ih =>
    unfold State.runCommits
    repeat' first
      | with_reducible assumption | (intro _) | with_reducible apply ih | with_reducible apply State.strobe_follows
      | with_reducible apply State.dropTxn_follows | with_reducible apply State.loadFailure_follows
      | with_reducible apply State.setResult_follows | with_reducible apply State.put_follows
      | with_reducible apply State.timeOut_follows | with_reducible apply State.clearFailure_follows
      | with_reducible apply State.beginQuiesce_follows | with_reducible apply State.Follows.ite | split | dsimp only
    all_goals with_reducible apply State.Follows.other
    repeat' first
      | with_reducible assumption | (intro _) | with_reducible apply ih | with_reducible apply State.strobe_follows
      | with_reducible apply State.dropTxn_follows | with_reducible apply State.loadFailure_follows
      | with_reducible apply State.setResult_follows | with_reducible apply State.put_follows
      | with_reducible apply State.timeOut_follows | with_reducible apply State.clearFailure_follows
      | with_reducible apply State.beginQuiesce_follows | with_reducible apply State.Follows.ite | split | dsimp only

theorem State.nextCommits_follows {s₀ s : State} (hf : s₀.Follows s) : s₀.Follows (State.nextCommits s) := by
  unfold State.nextCommits
  repeat' first
    | with_reducible assumption | (intro _) | with_reducible apply State.runCommits_follows
    | with_reducible apply State.Follows.ite | split | dsimp only

theorem State.txnBegin_follows {s₀ s : State} (hf : s₀.Follows s) (c : Nat) : s₀.Follows (State.txnBegin s c) := by
  unfold State.txnBegin
  repeat' first
    | with_reducible assumption | (intro _) | with_reducible apply State.setResult_follows
    | with_reducible apply State.setTxn_follows | with_reducible apply State.setWord_follows
    | with_reducible apply State.put_follows | with_reducible apply State.arm_follows
    | with_reducible apply State.Follows.ite | split | dsimp only

theorem State.txnCommit_follows {s₀ s : State} (hf : s₀.Follows s) (c : Nat) (persist : Bool) : s₀.Follows
    (State.txnCommit s c persist) := by
  unfold State.txnCommit
  repeat' first
    | with_reducible assumption | (intro _) | with_reducible apply State.setResult_follows
    | with_reducible apply State.timeOut_follows | with_reducible apply State.modTxn_follows
    | with_reducible apply State.put_follows | with_reducible apply State.nextCommits_follows
    | with_reducible apply State.Follows.ite | split | dsimp only
  all_goals with_reducible apply State.Follows.other
  repeat' first
    | with_reducible assumption | (intro _) | with_reducible apply State.setResult_follows
    | with_reducible apply State.timeOut_follows | with_reducible apply State.modTxn_follows
    | with_reducible apply State.put_follows | with_reducible apply State.nextCommits_follows
    | with_reducible apply State.Follows.ite | split | dsimp only

theorem State.txnRollback_follows {s₀ s : State} (hf : s₀.Follows s) (c : Nat) : s₀.Follows (State.txnRollback s c) :=
    by
  unfold State.txnRollback
  repeat' first
    | with_reducible assumption | (intro _) | with_reducible apply State.rollBack_follows
    | with_reducible apply State.setResult_follows | with_reducible apply State.Follows.ite | split | dsimp only

theorem State.txnExpired_follows {s₀ s : State} (hf : s₀.Follows s) (c : Nat) : s₀.Follows (State.txnExpired s c) :=
    by
  unfold State.txnExpired
  repeat' first
    | with_reducible assumption | (intro _) | with_reducible apply State.onExpiry_follows
    | with_reducible apply State.arm_follows | with_reducible apply State.timeOut_follows
    | with_reducible apply State.Follows.ite | split | dsimp only

theorem State.giveStrobe_follows {s₀ s : State} (hf : s₀.Follows s) (c : Nat) : s₀.Follows (State.giveStrobe s c) :=
    by
  unfold State.giveStrobe
  repeat' first
    | with_reducible assumption | (intro _) | with_reducible apply State.strobe_follows
    | with_reducible apply State.nextCommits_follows | with_reducible apply State.Follows.ite | split | dsimp only

theorem State.quiesceExpired_follows {s₀ s : State} (hf : s₀.Follows s) (c : Nat) : s₀.Follows (State.quiesceExpired s
    c) := by
  unfold State.quiesceExpired
  repeat' first
    | with_reducible assumption | (intro _) | with_reducible apply State.onExpiry_follows
    | with_reducible apply State.Follows.each | with_reducible apply State.forceQuiet_follows
    | with_reducible apply State.Follows.ite | split | dsimp only

theorem State.persistDone_follows {s₀ s : State} (hf : s₀.Follows s) (c : Nat) : s₀.Follows (State.persistDone s c) :=
    by
  unfold State.persistDone
  repeat' first
    | with_reducible assumption | (intro _) | with_reducible apply State.finishWrite_follows
    | with_reducible apply State.put_follows | with_reducible apply State.setResult_follows
    | with_reducible apply State.setTxn_follows | with_reducible apply State.nextCommits_follows
    | with_reducible apply State.Follows.ite | split | dsimp only

theorem State.writeDone_follows {s₀ s : State} (hf : s₀.Follows s) : s₀.Follows (State.writeDone s) := by
  unfold State.writeDone
  repeat' first
    | with_reducible assumption | (intro _) | with_reducible apply State.finishWrite_follows
    | with_reducible apply State.nextCommits_follows | with_reducible apply State.Follows.ite | split | dsimp only

theorem State.retWrite_follows {s₀ s : State} (hf : s₀.Follows s) (c : Nat) (w : Nat) (v : Word) (m : Word) :
    s₀.Follows (State.retWrite s c w v m) := by
  unfold State.retWrite
  repeat' first
    | with_reducible assumption | (intro _) | with_reducible apply State.setResult_follows
    | with_reducible apply State.stage_follows | with_reducible apply State.loadFailure_follows
    | with_reducible apply State.setTxn_follows | with_reducible apply State.nextCommits_follows
    | with_reducible apply State.Follows.ite | split | dsimp only
  all_goals with_reducible apply State.Follows.other
  repeat' first
    | with_reducible assumption | (intro _) | with_reducible apply State.setResult_follows
    | with_reducible apply State.stage_follows | with_reducible apply State.loadFailure_follows
    | with_reducible apply State.setTxn_follows | with_reducible apply State.nextCommits_follows
    | with_reducible apply State.Follows.ite | split | dsimp only

theorem State.rollBackAll_follows {s₀ s : State} (hf : s₀.Follows s) (r : Nat) : s₀.Follows (State.rollBackAll s r) :=
    by
  unfold State.rollBackAll
  repeat' first
    | with_reducible assumption | (intro _) | with_reducible apply State.Follows.each
    | with_reducible apply State.dropTxn_follows | with_reducible apply State.setResult_follows
    | with_reducible apply State.rollBack_follows | with_reducible apply State.Follows.ite | split | dsimp only

theorem State.resetContext_follows {s₀ s : State} (hf : s₀.Follows s) (h : Nat) : s₀.Follows (State.resetContext s h)
    := by
  unfold State.resetContext
  repeat' first
    | with_reducible assumption | (intro _) | with_reducible apply State.Follows.each
    | with_reducible apply State.dropTxn_follows | with_reducible apply State.rollBack_follows
    | with_reducible apply State.resetPlain_follows | with_reducible apply State.setResult_follows
    | with_reducible apply State.nextCommits_follows | with_reducible apply State.Follows.ite | split | dsimp only

end Sys2Proof.Machine
end

