-- ==== Sys2Proof/Laws/FollowsPower.lean ====
section
/-! SUPPORT. What the operations of supply, scribe and Plumb keep (State.Follows): one lemma
per operation. -/

namespace Sys2Proof.Machine

set_option linter.all false
set_option Elab.async false

theorem State.wiped_follows {s₀ s : State} (hf : s₀.Follows s) :
    s₀.Follows (State.wiped s) := by
  unfold State.wiped
  refine hf.same rfl rfl rfl rfl (fun v => ?_)
  refine
    { regs := Tbl.wf_filter _ v.regs, named := List.all_filter_of v.named, ctrs := rfl, bankA := rfl, bankB := rfl, cfg := rfl
      msix := rfl, fuses := v.fuses, store := v.store, flash := v.flash, hosts := ?_, funcs := rfl, txns := rfl, ports := ?_
      lanes := rfl, queues := rfl, engines := rfl, pegs := rfl, served := rfl, timers := List.nodup_nil, devtime := v.devtime
      wear := Nat.le_refl _ }
  · exact foldl_keeps (fun t => Tbl.wf (fun _ => HostDyn.reset) t = true) _ _ _ (Eq.refl _)
      (fun t h k => Tbl.wf_set (d := fun _ => HostDyn.reset) h _ k)
  · exact foldl_keeps (fun t => Tbl.wf (fun _ => PortDyn.reset) t = true) _ _ _ (Eq.refl _)
      (fun t e k => Tbl.wf_set (d := fun _ => PortDyn.reset) e.1 _ k)

theorem State.tearActivate_follows {s₀ s : State} (hf : s₀.Follows s) :
    s₀.Follows (State.tearActivate s) := by
  unfold State.tearActivate
  repeat' first
    | with_reducible assumption | (intro _) | with_reducible apply Tbl.risingFrom_writeBytes
    | with_reducible apply State.modRidge_follows | with_reducible apply State.Follows.ite | split | dsimp only

theorem State.dark_follows {s₀ s : State} (hf : s₀.Follows s) :
    s₀.Follows (State.dark s) := by
  unfold State.dark
  refine (State.wiped_follows hf).same rfl rfl rfl rfl (fun v => ?_)
  exact { v with devtime := Nat.two_pow_pos 64, fuses := rfl, regs := rfl, named := rfl, store := v.store, wear := Nat.le_refl _ }

theorem State.stopTraffic_follows {s₀ s : State} (hf : s₀.Follows s) (result : Nat) :
    s₀.Follows (State.stopTraffic s result) := by
  have hw : ∀ t : State, s₀.Follows t → s₀.Follows { t with
      timers := t.timers.filter (fun e => e.1 == .plumb)
      hosts := t.wiped.hosts, ports := t.wiped.ports, lanes := [], queues := [], engines := [], pegs := [], vecs := [], funcs := []
      commits := [], waking := [], warm := [], ring := [], pba := [], msix := [], bankA := [], bankB := []
      scribe := ⟨none, none, []⟩
      brace := { t.brace with queue := [], sources := [] }
      ridge := t.wiped.ridge
      regs := t.regs.filter (fun e => !List.any [RegKind.SCRIBE_STATUS, .SCRIBE_SEQ, .SCRIBE_TIME, .SCRIBE_INFO] (fun k => e.1 % 256 == k.code)) } := by
    intro t k
    refine k.same rfl rfl rfl rfl (fun v => ?_)
    have w := (State.wiped_follows (State.Follows.refl t)).inv v
    exact
      { v with
        timers := nodup_keys_filter _ v.timers, hosts := w.hosts, ports := w.ports, lanes := rfl, queues := rfl
        engines := rfl, pegs := rfl, funcs := rfl, msix := rfl, bankA := rfl, bankB := rfl, flash := w.flash
        regs := Tbl.wf_filter _ v.regs, named := List.all_filter_of v.named }
  exact hw _ (State.Follows.each (State.Follows.each (State.rollBackAll_follows hf result) _ (fun _ _ k => State.put_follows k _ _ _)) _
    (fun _ _ k => State.put_follows (State.setWord_follows k _ _ _) _ _ _))

theorem State.turnAllOff_follows {s₀ s : State} (hf : s₀.Follows s) : s₀.Follows (State.turnAllOff s) := by
  unfold State.turnAllOff
  repeat' first
    | with_reducible assumption | (intro _) | with_reducible apply State.Follows.each
    | with_reducible apply State.setRegion_follows | with_reducible apply State.Follows.ite | split | dsimp only

theorem State.endNow_follows {s₀ s : State} (hf : s₀.Follows s) (x1 : Ending) : s₀.Follows (State.endNow s x1) := by
  unfold State.endNow
  repeat' first
    | with_reducible assumption | (intro _) | with_reducible apply State.turnAllOff_follows
    | with_reducible apply State.dark_follows | with_reducible apply State.Follows.ite | split | dsimp only
  all_goals with_reducible apply State.Follows.other
  repeat' first
    | with_reducible assumption | (intro _) | with_reducible apply State.turnAllOff_follows
    | with_reducible apply State.dark_follows | with_reducible apply State.Follows.ite | split | dsimp only

theorem State.restart_follows {s₀ s : State} (hf : s₀.Follows s) :
    s₀.Follows (State.restart s) := by
  have hw := State.wiped_follows hf
  unfold State.restart
  dsimp only
  generalize s.wiped = w at hw ⊢
  have hp : ∀ x : Phase, s₀.Follows { w with phase := x } := fun x => hw.same rfl rfl rfl rfl (fun v => { v with })
  exact State.Follows.ite (State.Follows.ite (hp _) (State.endNow_follows hw _)) (hp _)

theorem State.beginEnding_follows {s₀ s : State} (hf : s₀.Follows s) (e : Ending) : s₀.Follows (State.beginEnding s e)
    := by
  unfold State.beginEnding
  repeat' first
    | with_reducible assumption | (intro _) | with_reducible apply State.stopTraffic_follows
    | with_reducible apply State.endNow_follows | with_reducible apply State.Follows.ite | split | dsimp only
  all_goals with_reducible apply State.Follows.other
  repeat' first
    | with_reducible assumption | (intro _) | with_reducible apply State.stopTraffic_follows
    | with_reducible apply State.endNow_follows | with_reducible apply State.Follows.ite | split | dsimp only

theorem State.loseMains_follows {s₀ s : State} (hf : s₀.Follows s) : s₀.Follows (State.loseMains s) := by
  unfold State.loseMains
  repeat' first
    | with_reducible assumption | (intro _) | with_reducible apply State.tearActivate_follows
    | with_reducible apply State.dark_follows | with_reducible apply State.beginEnding_follows
    | with_reducible apply State.Follows.ite | split | dsimp only
  all_goals with_reducible apply State.Follows.other
  repeat' first
    | with_reducible assumption | (intro _) | with_reducible apply State.tearActivate_follows
    | with_reducible apply State.dark_follows | with_reducible apply State.beginEnding_follows
    | with_reducible apply State.Follows.ite | split | dsimp only

theorem State.enterStandby_follows {s₀ s : State} (hf : s₀.Follows s) : s₀.Follows (State.enterStandby s) := by
  unfold State.enterStandby
  repeat' first
    | with_reducible assumption | (intro _) | with_reducible apply State.modPins_follows
    | with_reducible apply State.endNow_follows | with_reducible apply State.beginEnding_follows
    | with_reducible apply State.Follows.ite | split | dsimp only
  all_goals with_reducible apply State.Follows.other
  repeat' first
    | with_reducible assumption | (intro _) | with_reducible apply State.modPins_follows
    | with_reducible apply State.endNow_follows | with_reducible apply State.beginEnding_follows
    | with_reducible apply State.Follows.ite | split | dsimp only

theorem State.leaveStandby_follows {s₀ s : State} (hf : s₀.Follows s) : s₀.Follows (State.leaveStandby s) := by
  unfold State.leaveStandby
  repeat' first
    | with_reducible assumption | (intro _) | with_reducible apply State.modPins_follows
    | with_reducible apply State.restart_follows | with_reducible apply State.Follows.ite | split | dsimp only

theorem State.holdReset_follows {s₀ s : State} (hf : s₀.Follows s) (slot : Nat) : s₀.Follows (State.holdReset s slot)
    := by
  unfold State.holdReset
  repeat' first
    | with_reducible assumption | (intro _) | with_reducible apply State.modPins_follows
    | with_reducible apply State.rollBackAll_follows | with_reducible apply State.restart_follows
    | with_reducible apply State.Follows.ite | split | dsimp only

theorem State.releaseModReset_follows {s₀ s : State} (hf : s₀.Follows s) : s₀.Follows (State.releaseModReset s) := by
  unfold State.releaseModReset
  repeat' first
    | with_reducible assumption | (intro _) | with_reducible apply State.modPins_follows
    | with_reducible apply State.Follows.ite | split | dsimp only
  all_goals with_reducible apply State.Follows.other
  repeat' first
    | with_reducible assumption | (intro _) | with_reducible apply State.modPins_follows
    | with_reducible apply State.Follows.ite | split | dsimp only

theorem State.trip_follows {s₀ s : State} (hf : s₀.Follows s) : s₀.Follows (State.trip s) := by
  unfold State.trip
  repeat' first
    | with_reducible assumption | (intro _) | with_reducible apply State.tearWrite_follows
    | with_reducible apply State.wiped_follows | with_reducible apply State.turnAllOff_follows
    | with_reducible apply State.Follows.ite | split | dsimp only
  all_goals with_reducible apply State.Follows.other
  repeat' first
    | with_reducible assumption | (intro _) | with_reducible apply State.tearWrite_follows
    | with_reducible apply State.wiped_follows | with_reducible apply State.turnAllOff_follows
    | with_reducible apply State.Follows.ite | split | dsimp only

theorem State.enterSafe_follows {s₀ s : State} (hf : s₀.Follows s) (n : Nat) (c : Nat) : s₀.Follows (State.enterSafe s
    n c) := by
  unfold State.enterSafe
  repeat' first
    | with_reducible assumption | (intro _) | with_reducible apply State.tearWrite_follows
    | with_reducible apply State.wiped_follows | with_reducible apply State.turnAllOff_follows
    | with_reducible apply State.put_follows | with_reducible apply State.Follows.ite | split | dsimp only
  all_goals with_reducible apply State.Follows.other
  repeat' first
    | with_reducible assumption | (intro _) | with_reducible apply State.tearWrite_follows
    | with_reducible apply State.wiped_follows | with_reducible apply State.turnAllOff_follows
    | with_reducible apply State.put_follows | with_reducible apply State.Follows.ite | split | dsimp only

theorem State.shutNow_follows {s₀ s : State} (hf : s₀.Follows s) : s₀.Follows (State.shutNow s) := by
  unfold State.shutNow
  repeat' first
    | with_reducible assumption | (intro _) | with_reducible apply State.stopTraffic_follows
    | with_reducible apply State.turnAllOff_follows | with_reducible apply State.Follows.ite | split | dsimp only
  all_goals with_reducible apply State.Follows.other
  repeat' first
    | with_reducible assumption | (intro _) | with_reducible apply State.stopTraffic_follows
    | with_reducible apply State.turnAllOff_follows | with_reducible apply State.Follows.ite | split | dsimp only

theorem State.askShutdown_follows {s₀ s : State} (hf : s₀.Follows s) : s₀.Follows (State.askShutdown s) := by
  unfold State.askShutdown
  repeat' first
    | with_reducible assumption | (intro _) | with_reducible apply State.report_follows
    | with_reducible apply State.rollBackAll_follows | with_reducible apply State.modPins_follows
    | with_reducible apply State.Follows.each | with_reducible apply State.setRegion_follows
    | with_reducible apply State.arm_follows | with_reducible apply State.shutNow_follows
    | with_reducible apply State.Follows.ite | split | dsimp only
  all_goals with_reducible apply State.Follows.other
  repeat' first
    | with_reducible assumption | (intro _) | with_reducible apply State.report_follows
    | with_reducible apply State.rollBackAll_follows | with_reducible apply State.modPins_follows
    | with_reducible apply State.Follows.each | with_reducible apply State.setRegion_follows
    | with_reducible apply State.arm_follows | with_reducible apply State.shutNow_follows
    | with_reducible apply State.Follows.ite | split | dsimp only

theorem State.endDeferral_follows {s₀ s : State} (hf : s₀.Follows s) (len : Nat) : s₀.Follows (State.endDeferral s
    len) := by
  unfold State.endDeferral
  repeat' first
    | with_reducible assumption | (intro _) | with_reducible apply State.disarm_follows
    | with_reducible apply State.report_follows | with_reducible apply State.shutNow_follows
    | with_reducible apply State.Follows.ite | split | dsimp only

theorem State.deferralOver_follows {s₀ s : State} (hf : s₀.Follows s) : s₀.Follows (State.deferralOver s) := by
  unfold State.deferralOver
  repeat' first
    | with_reducible assumption | (intro _) | with_reducible apply State.onExpiry_follows
    | with_reducible apply State.endDeferral_follows | with_reducible apply State.tearWrite_follows
    | with_reducible apply State.Follows.ite | split | dsimp only

theorem State.writeOver_follows {s₀ s : State} (hf : s₀.Follows s) : s₀.Follows (State.writeOver s) := by
  unfold State.writeOver
  repeat' first
    | with_reducible assumption | (intro _) | with_reducible apply State.endDeferral_follows
    | with_reducible apply State.endNow_follows | with_reducible apply State.Follows.ite | split | dsimp only

theorem State.storeDone_follows {s₀ s : State} (hf : s₀.Follows s) : s₀.Follows (State.storeDone s) := by
  unfold State.storeDone
  repeat' first
    | with_reducible assumption | (intro _) | with_reducible apply State.writeDone_follows
    | with_reducible apply State.finishWrite_follows | with_reducible apply State.writeOver_follows
    | with_reducible apply State.Follows.ite | split | dsimp only

theorem State.persisted_follows {s₀ s : State} (hf : s₀.Follows s) (c : Nat) : s₀.Follows (State.persisted s c) := by
  unfold State.persisted
  repeat' first
    | with_reducible assumption | (intro _) | with_reducible apply State.persistDone_follows
    | with_reducible apply State.writeOver_follows | with_reducible apply State.Follows.ite | split | dsimp only

theorem State.readFuses_follows {s₀ s : State} (hf : s₀.Follows s) (fs : List FuseRead) (temp : Nat) :
    s₀.Follows (State.readFuses s fs temp) := by
  have hi : ∀ t : State, s₀.Follows t → ∀ (i : Nat) (w : Word), s₀.Follows { t with fuses := Tbl.insert t.fuses i w } :=
    fun t h i w => h.same rfl rfl rfl rfl (fun v => { v with fuses := Tbl.risingFrom_insert w (Nat.zero_le i) v.fuses })
  unfold State.readFuses
  repeat' first
    | with_reducible assumption | (intro _) | with_reducible apply State.setWord_follows
    | with_reducible apply State.put_follows | with_reducible apply State.Follows.each | with_reducible apply hi
    | with_reducible refine State.Follows.pair (by assumption) ?_ | with_reducible apply State.freeWord_follows
    | with_reducible apply State.Follows.ite | split | dsimp only

theorem State.powerUp_follows {s₀ s : State} (hf : s₀.Follows s) (fs : List FuseRead) (temp : Nat) (slot : Nat) :
    s₀.Follows (State.powerUp s fs temp slot) := by
  unfold State.powerUp
  repeat' first
    | with_reducible assumption | (intro _) | with_reducible apply State.dark_follows
    | with_reducible apply State.modPins_follows | with_reducible apply State.readFuses_follows
    | with_reducible apply State.endNow_follows | with_reducible apply State.Follows.ite | split | dsimp only
  all_goals with_reducible apply State.Follows.other
  repeat' first
    | with_reducible assumption | (intro _) | with_reducible apply State.dark_follows
    | with_reducible apply State.modPins_follows | with_reducible apply State.readFuses_follows
    | with_reducible apply State.endNow_follows | with_reducible apply State.Follows.ite | split | dsimp only

theorem State.scanDone_follows {s₀ s : State} (hf : s₀.Follows s) (factory : Bool) : s₀.Follows (State.scanDone s
    factory) := by
  unfold State.scanDone
  repeat' first
    | with_reducible assumption | (intro _) | with_reducible apply State.setWord_follows
    | with_reducible apply State.put_follows | with_reducible apply State.flag_follows
    | with_reducible apply State.modRss_follows | with_reducible apply State.resulting_follows
    | with_reducible apply State.modPlumb_follows | with_reducible apply State.arm_follows
    | with_reducible apply State.Follows.ite | split | dsimp only
  all_goals with_reducible apply State.Follows.other
  repeat' first
    | with_reducible assumption | (intro _) | with_reducible apply State.setWord_follows
    | with_reducible apply State.put_follows | with_reducible apply State.flag_follows
    | with_reducible apply State.modRss_follows | with_reducible apply State.resulting_follows
    | with_reducible apply State.modPlumb_follows | with_reducible apply State.arm_follows
    | with_reducible apply State.Follows.ite | split | dsimp only

theorem State.permit_follows {s₀ s : State} (hf : s₀.Follows s) : s₀.Follows (State.permit s) := by
  unfold State.permit
  repeat' first
    | with_reducible assumption | (intro _) | with_reducible apply State.bump_follows
    | with_reducible apply State.Follows.each | with_reducible apply State.setHcrState_follows
    | with_reducible apply State.startHcr_follows | with_reducible apply State.flag_follows
    | with_reducible apply State.arm_follows | with_reducible apply State.Follows.ite | split | dsimp only
  all_goals with_reducible apply State.Follows.other
  repeat' first
    | with_reducible assumption | (intro _) | with_reducible apply State.bump_follows
    | with_reducible apply State.Follows.each | with_reducible apply State.setHcrState_follows
    | with_reducible apply State.startHcr_follows | with_reducible apply State.flag_follows
    | with_reducible apply State.arm_follows | with_reducible apply State.Follows.ite | split | dsimp only

theorem State.showPins_follows {s₀ s : State} (hf : s₀.Follows s) : s₀.Follows (State.showPins s) := by
  unfold State.showPins
  repeat' first
    | with_reducible assumption | (intro _) | with_reducible apply State.Follows.each
    | with_reducible apply State.put_follows | with_reducible apply State.Follows.ite | split | dsimp only

theorem State.measureRestore_follows {s₀ s : State} (hf : s₀.Follows s) (c : Candidate) : s₀.Follows
    (State.measureRestore s c) := by
  unfold State.measureRestore
  repeat' first
    | with_reducible assumption | (intro _) | with_reducible apply State.readBytes_follows
    | with_reducible apply State.modRidge_follows | with_reducible refine State.Follows.pair (by assumption) ?_
    | with_reducible apply State.Follows.ite | split | dsimp only

theorem State.bootEvents_follows {s₀ s : State} (hf : s₀.Follows s) : s₀.Follows (State.bootEvents s) := by
  unfold State.bootEvents
  repeat' first
    | with_reducible assumption | (intro _) | with_reducible apply State.report_follows
    | with_reducible apply State.modPins_follows | with_reducible apply State.Follows.ite | split | dsimp only

theorem State.applyRestore_follows {s₀ s : State} (hf : s₀.Follows s) : s₀.Follows (State.applyRestore s) := by
  unfold State.applyRestore
  repeat' first
    | with_reducible assumption | (intro _) | with_reducible apply State.resulting_follows
    | with_reducible apply State.flag_follows | with_reducible apply State.showPins_follows
    | with_reducible apply State.fillSlots_follows | with_reducible apply State.measureRestore_follows
    | with_reducible apply State.Follows.each | with_reducible apply State.enterReset_follows
    | with_reducible apply State.rebuildPlank_follows | with_reducible apply State.bootEvents_follows
    | with_reducible apply State.compactFull_follows | with_reducible apply State.Follows.ite | split | dsimp only
  all_goals with_reducible apply State.Follows.other
  repeat' first
    | with_reducible assumption | (intro _) | with_reducible apply State.resulting_follows
    | with_reducible apply State.flag_follows | with_reducible apply State.showPins_follows
    | with_reducible apply State.fillSlots_follows | with_reducible apply State.measureRestore_follows
    | with_reducible apply State.Follows.each | with_reducible apply State.enterReset_follows
    | with_reducible apply State.rebuildPlank_follows | with_reducible apply State.bootEvents_follows
    | with_reducible apply State.compactFull_follows | with_reducible apply State.Follows.ite | split | dsimp only

theorem State.presetCtr_follows {s₀ s : State} (hf : s₀.Follows s) (o : Nat) (w : Word) : s₀.Follows (State.presetCtr
    s o w) := by
  unfold State.presetCtr
  repeat' first
    | with_reducible assumption | (intro _) | with_reducible apply State.setCtr_follows
    | with_reducible apply State.Follows.ite | split | dsimp only

theorem State.setBank_follows {s₀ s : State} (hf : s₀.Follows s) (b : Nat) (st : Nat) (holder : Nat) : s₀.Follows
    (State.setBank s b st holder) := by
  unfold State.setBank
  repeat' first
    | with_reducible assumption | (intro _) | with_reducible apply State.put_follows
    | with_reducible apply State.Follows.ite | split | dsimp only

theorem State.copyBank_follows {s₀ s : State} (hf : s₀.Follows s) (b : Nat) (p : Nat → Bool) :
    s₀.Follows (State.copyBank s b p) := by
  unfold State.copyBank
  apply State.Follows.ite
  · exact hf.same rfl rfl rfl rfl (fun v => { v with bankA := copyCtrs_wf p s.liveCtrs v.bankA })
  · exact hf.same rfl rfl rfl rfl (fun v => { v with bankB := copyCtrs_wf p s.liveCtrs v.bankB })

theorem State.trigger_follows {s₀ s : State} (hf : s₀.Follows s) (source : Nat) (holder : Option Nat) : s₀.Follows
    (State.trigger s source holder) := by
  unfold State.trigger
  repeat' first
    | with_reducible assumption | (intro _) | with_reducible apply State.bump_follows
    | with_reducible apply State.put_follows | with_reducible apply State.copyBank_follows
    | with_reducible apply State.setBank_follows | with_reducible apply State.setWord_follows
    | with_reducible apply State.Follows.ite | split | dsimp only
  all_goals with_reducible apply State.Follows.other
  repeat' first
    | with_reducible assumption | (intro _) | with_reducible apply State.bump_follows
    | with_reducible apply State.put_follows | with_reducible apply State.copyBank_follows
    | with_reducible apply State.setBank_follows | with_reducible apply State.setWord_follows
    | with_reducible apply State.Follows.ite | split | dsimp only

theorem State.captured_follows {s₀ s : State} (hf : s₀.Follows s) : s₀.Follows (State.captured s) := by
  unfold State.captured
  repeat' first
    | with_reducible assumption | (intro _) | with_reducible apply State.copyBank_follows
    | with_reducible apply State.put_follows | with_reducible apply State.setBank_follows
    | with_reducible apply State.Follows.ite | split | dsimp only
  all_goals with_reducible apply State.Follows.other
  repeat' first
    | with_reducible assumption | (intro _) | with_reducible apply State.copyBank_follows
    | with_reducible apply State.put_follows | with_reducible apply State.setBank_follows
    | with_reducible apply State.Follows.ite | split | dsimp only

theorem State.holdBank_follows {s₀ s : State} (hf : s₀.Follows s) (b : Nat) (holder : Nat) : s₀.Follows
    (State.holdBank s b holder) := by
  unfold State.holdBank
  repeat' first
    | with_reducible assumption | (intro _) | with_reducible apply State.setBank_follows
    | with_reducible apply State.Follows.ite | split | dsimp only
  all_goals with_reducible apply State.Follows.other
  repeat' first
    | with_reducible assumption | (intro _) | with_reducible apply State.setBank_follows
    | with_reducible apply State.Follows.ite | split | dsimp only

theorem State.releaseBank_follows {s₀ s : State} (hf : s₀.Follows s) (b : Nat) : s₀.Follows (State.releaseBank s b) :=
    by
  unfold State.releaseBank
  repeat' first
    | with_reducible assumption | (intro _) | with_reducible apply State.setBank_follows
    | with_reducible apply State.Follows.ite | split | dsimp only

theorem State.endHolds_follows {s₀ s : State} (hf : s₀.Follows s) (holder : Nat) : s₀.Follows (State.endHolds s
    holder) := by
  unfold State.endHolds
  repeat' first
    | with_reducible assumption | (intro _) | with_reducible apply State.Follows.each
    | with_reducible apply State.setBank_follows | with_reducible apply State.Follows.ite | split | dsimp only
  all_goals with_reducible apply State.Follows.other
  repeat' first
    | with_reducible assumption | (intro _) | with_reducible apply State.Follows.each
    | with_reducible apply State.setBank_follows | with_reducible apply State.Follows.ite | split | dsimp only

theorem State.startPeriod_follows {s₀ s : State} (hf : s₀.Follows s) : s₀.Follows (State.startPeriod s) := by
  unfold State.startPeriod
  repeat' first
    | with_reducible assumption | (intro _) | with_reducible apply State.disarm_follows
    | with_reducible apply State.arm_follows | with_reducible apply State.Follows.ite | split | dsimp only

theorem State.periodTrigger_follows {s₀ s : State} (hf : s₀.Follows s) : s₀.Follows (State.periodTrigger s) := by
  unfold State.periodTrigger
  repeat' first
    | with_reducible assumption | (intro _) | with_reducible apply State.onExpiry_follows
    | with_reducible apply State.startPeriod_follows | with_reducible apply State.trigger_follows
    | with_reducible apply State.Follows.ite | split | dsimp only

theorem State.plumbTrigger_follows {s₀ s : State} (hf : s₀.Follows s) : s₀.Follows (State.plumbTrigger s) := by
  unfold State.plumbTrigger
  repeat' first
    | with_reducible assumption | (intro _) | with_reducible apply State.trigger_follows
    | with_reducible apply State.Follows.ite | split | dsimp only

theorem State.judgeStored_follows {s₀ s : State} (hf : s₀.Follows s) : s₀.Follows (State.judgeStored s) := by
  unfold State.judgeStored
  repeat' first
    | with_reducible assumption | (intro _) | with_reducible apply State.put_follows
    | with_reducible apply State.Follows.ite | split | dsimp only

theorem State.storeWord_follows {s₀ s : State} (hf : s₀.Follows s) (k : Nat) (v : Dword) : s₀.Follows (State.storeWord
    s k v) := by
  unfold State.storeWord
  repeat' first
    | with_reducible assumption | (intro _) | with_reducible apply State.modPlumb_follows
    | with_reducible apply State.judgeStored_follows | with_reducible apply State.put_follows
    | with_reducible apply State.Follows.ite | split | dsimp only

theorem State.openPass_follows {s₀ s : State} (hf : s₀.Follows s) : s₀.Follows (State.openPass s) := by
  unfold State.openPass
  repeat' first
    | with_reducible assumption | (intro _) | with_reducible apply State.modPlumb_follows
    | with_reducible apply State.Follows.ite | split | dsimp only

theorem State.countInstr_follows {s₀ s : State} (hf : s₀.Follows s) : s₀.Follows (State.countInstr s) := by
  unfold State.countInstr
  repeat' first
    | with_reducible assumption | (intro _) | with_reducible apply State.modPlumb_follows
    | with_reducible apply State.Follows.ite | split | dsimp only

theorem State.plumbStep_follows {s₀ s : State} {g : State → State} (hf : s₀.Follows s) (hg : ∀ t, s₀.Follows t →
    s₀.Follows (g t)) : s₀.Follows (State.plumbStep s g) := by
  unfold State.plumbStep
  repeat' first
    | with_reducible assumption | (intro _) | with_reducible apply State.openPass_follows
    | with_reducible apply State.countInstr_follows | with_reducible apply State.Follows.ite | with_reducible apply hg
    | split | dsimp only

theorem State.plumbExec_follows {s₀ s : State} (hf : s₀.Follows s) (legal : Bool) (g : PlumbDyn → PlumbDyn) :
    s₀.Follows (State.plumbExec s legal g) := by
  unfold State.plumbExec
  repeat' first
    | with_reducible assumption | (intro _) | with_reducible apply State.plumbStep_follows
    | with_reducible apply State.modPlumb_follows | with_reducible apply State.bump_follows
    | with_reducible apply State.Follows.ite | split | dsimp only

theorem State.plumbHalt_follows {s₀ s : State} (hf : s₀.Follows s) : s₀.Follows (State.plumbHalt s) := by
  unfold State.plumbHalt
  repeat' first
    | with_reducible assumption | (intro _) | with_reducible apply State.plumbStep_follows
    | with_reducible apply State.modPlumb_follows | with_reducible apply State.Follows.ite | split | dsimp only

theorem State.plumbStore_follows {s₀ s : State} (hf : s₀.Follows s) (legal : Bool) (c : Nat) (mode : Nat) (k : Nat) (a
    : Nat) : s₀.Follows (State.plumbStore s legal c mode k a) := by
  unfold State.plumbStore
  repeat' first
    | with_reducible assumption | (intro _) | with_reducible apply State.plumbStep_follows
    | with_reducible apply State.bump_follows | with_reducible apply State.storeWord_follows
    | with_reducible apply State.Follows.ite | split | dsimp only

theorem State.plumbInstr_follows {s₀ s : State} (hf : s₀.Follows s) (i : Instr) : s₀.Follows (State.plumbInstr s i) :=
    by
  unfold State.plumbInstr
  repeat' first
    | with_reducible assumption | (intro _) | with_reducible apply State.plumbHalt_follows
    | with_reducible apply State.plumbExec_follows | with_reducible apply State.plumbStore_follows
    | with_reducible apply State.Follows.ite | split | dsimp only

theorem State.runSlots_follows {s₀ s : State} (hf : s₀.Follows s) (x1 : Nat) (x2 : Nat) : s₀.Follows (State.runSlots s
    x1 x2) := by
  induction x1 generalizing s x2 with
  | zero =>
    unfold State.runSlots
    repeat' first
      | with_reducible assumption | (intro _) | with_reducible apply State.plumbInstr_follows
      | with_reducible apply State.plumbExec_follows | with_reducible apply State.Follows.ite | split | dsimp only
  | succ n ih =>
    unfold State.runSlots
    repeat' first
      | with_reducible assumption | (intro _) | with_reducible apply ih
      | with_reducible apply State.plumbInstr_follows | with_reducible apply State.plumbExec_follows
      | with_reducible apply State.Follows.ite | split | dsimp only

theorem State.sleepNow_follows {s₀ s : State} (hf : s₀.Follows s) (r : Nat) : s₀.Follows (State.sleepNow s r) := by
  unfold State.sleepNow
  repeat' first
    | with_reducible assumption | (intro _) | with_reducible apply State.sleepBay_follows
    | with_reducible apply State.setRegion_follows | with_reducible apply State.Follows.ite | split | dsimp only

theorem State.setThrottle_follows {s₀ s : State} (hf : s₀.Follows s) : s₀.Follows (State.setThrottle s) := by
  unfold State.setThrottle
  repeat' first
    | with_reducible assumption | (intro _) | with_reducible apply State.put_follows
    | with_reducible apply State.flag_follows | with_reducible apply State.report_follows
    | with_reducible apply State.Follows.ite | split | dsimp only

theorem State.moveRegions_follows {s₀ s : State} (hf : s₀.Follows s) : s₀.Follows (State.moveRegions s) := by
  unfold State.moveRegions
  repeat' first
    | with_reducible assumption | (intro _) | with_reducible apply State.modPlumb_follows
    | with_reducible apply State.Follows.each | with_reducible apply State.leaveL1_follows
    | with_reducible apply State.wakeRegion_follows | with_reducible apply State.sleepNow_follows
    | with_reducible apply State.Follows.ite | split | dsimp only

theorem State.swapImages_follows {s₀ s : State} (hf : s₀.Follows s) : s₀.Follows (State.swapImages s) := by
  unfold State.swapImages
  repeat' first
    | with_reducible assumption | (intro _) | with_reducible apply State.modPlumb_follows
    | with_reducible apply State.put_follows | with_reducible apply State.bump_follows
    | with_reducible apply State.judgeStored_follows | with_reducible apply State.Follows.ite | split | dsimp only

theorem State.showPass_follows {s₀ s : State} (hf : s₀.Follows s) : s₀.Follows (State.showPass s) := by
  unfold State.showPass
  repeat' first
    | with_reducible assumption | (intro _) | with_reducible apply State.put_follows
    | with_reducible apply State.flag_follows | with_reducible apply State.Follows.each
    | with_reducible apply State.setWord_follows | with_reducible apply State.Follows.ite | split | dsimp only

theorem State.endPass_follows {s₀ s : State} (hf : s₀.Follows s) : s₀.Follows (State.endPass s) := by
  unfold State.endPass
  repeat' first
    | with_reducible assumption | (intro _) | with_reducible apply State.showPass_follows
    | with_reducible apply State.bump_follows | with_reducible apply State.setThrottle_follows
    | with_reducible apply State.moveRegions_follows | with_reducible apply State.Follows.each
    | with_reducible apply State.report_follows | with_reducible apply State.plumbTrigger_follows
    | with_reducible apply State.flag_follows | with_reducible apply State.swapImages_follows
    | with_reducible apply State.modPlumb_follows | with_reducible apply State.arm_follows
    | with_reducible apply State.put_follows | with_reducible apply State.askShutdown_follows
    | with_reducible apply State.Follows.ite | split | dsimp only

theorem State.latch_follows {s₀ s : State} (hf : s₀.Follows s) (x : PlumbInputs) : s₀.Follows (State.latch s x) := by
  unfold State.latch
  repeat' first
    | with_reducible assumption | (intro _) | with_reducible apply State.modPlumb_follows
    | with_reducible apply State.modPins_follows | with_reducible apply State.Follows.ite | split | dsimp only

theorem State.startPass_follows {s₀ s : State} (hf : s₀.Follows s) (x : PlumbInputs) : s₀.Follows (State.startPass s
    x) := by
  unfold State.startPass
  repeat' first
    | with_reducible assumption | (intro _) | with_reducible apply State.onExpiry_follows
    | with_reducible apply State.endPass_follows | with_reducible apply State.latch_follows
    | with_reducible apply State.openPass_follows | with_reducible apply State.arm_follows
    | with_reducible apply State.runSlots_follows | with_reducible apply State.Follows.ite | split | dsimp only

end Sys2Proof.Machine
end

