-- ==== Sys2Proof/Laws/FollowsRidge.lean ====
section
/-! SUPPORT. What the operations of recovery, Ridge and its SPDM responder keep (State.Follows): one lemma
per operation. -/

namespace Sys2Proof.Machine

set_option linter.all false
set_option Elab.async false

theorem State.endDoe_follows {s₀ s : State} (hf : s₀.Follows s) (h : Nat) : s₀.Follows (State.endDoe s h) := by
  unfold State.endDoe
  repeat' first
    | with_reducible assumption | (intro _) | with_reducible apply State.modRidge_follows
    | with_reducible apply State.Follows.ite | split | dsimp only

theorem State.endScope_follows {s₀ s : State} (hf : s₀.Follows s) (h : Nat) : s₀.Follows (State.endScope s h) := by
  unfold State.endScope
  repeat' first
    | with_reducible assumption | (intro _) | with_reducible apply State.resetContext_follows
    | with_reducible apply State.endHolds_follows | with_reducible apply State.endDoe_follows
    | with_reducible apply State.Follows.ite | split | dsimp only

theorem State.hostDown_follows {s₀ s : State} (hf : s₀.Follows s) (h : Nat) : s₀.Follows (State.hostDown s h) := by
  unfold State.hostDown
  repeat' first
    | with_reducible assumption | (intro _) | with_reducible apply State.linkLost_follows
    | with_reducible apply State.endScope_follows | with_reducible apply State.Follows.ite | split | dsimp only

theorem State.spoilSlot_follows {s₀ s : State} (hf : s₀.Follows s) :
    s₀.Follows (State.spoilSlot s) := by
  unfold State.spoilSlot
  repeat' first
    | with_reducible assumption | (intro _) | with_reducible apply Tbl.risingFrom_filter
    | with_reducible apply State.modRidge_follows | with_reducible apply State.freeWord_follows
    | with_reducible refine State.Follows.pair (by assumption) ?_ | with_reducible apply State.Follows.ite | split
    | dsimp only

theorem State.ridgeOff_follows {s₀ s : State} (hf : s₀.Follows s) : s₀.Follows (State.ridgeOff s) := by
  unfold State.ridgeOff
  repeat' first
    | with_reducible assumption | (intro _) | with_reducible apply State.spoilSlot_follows
    | with_reducible apply State.put_follows | with_reducible apply State.disarm_follows
    | with_reducible apply State.modRidge_follows | with_reducible apply State.Follows.each
    | with_reducible apply State.setWord_follows | with_reducible apply State.Follows.ite | split | dsimp only

theorem State.freeze_follows {s₀ s : State} (hf : s₀.Follows s) : s₀.Follows (State.freeze s) := by
  unfold State.freeze
  repeat' first
    | with_reducible assumption | (intro _) | with_reducible apply State.put_follows
    | with_reducible apply State.rollBackAll_follows | with_reducible apply State.modBrace_follows
    | with_reducible apply State.Follows.ite | split | dsimp only

theorem State.holdRidge_follows {s₀ s : State} (hf : s₀.Follows s) : s₀.Follows (State.holdRidge s) := by
  unfold State.holdRidge
  repeat' first
    | with_reducible assumption | (intro _) | with_reducible apply State.ridgeOff_follows
    | with_reducible apply State.freeze_follows | with_reducible apply State.disarm_follows
    | with_reducible apply State.put_follows | with_reducible apply State.arm_follows
    | with_reducible apply State.Follows.ite | split | dsimp only

theorem State.degrade_follows {s₀ s : State} (hf : s₀.Follows s) : s₀.Follows (State.degrade s) := by
  unfold State.degrade
  repeat' first
    | with_reducible assumption | (intro _) | with_reducible apply State.ridgeOff_follows
    | with_reducible apply State.freeze_follows | with_reducible apply State.disarm_follows
    | with_reducible apply State.put_follows | with_reducible apply State.modBrace_follows
    | with_reducible apply State.report_follows | with_reducible apply State.Follows.ite | split | dsimp only

theorem State.ridgeFails_follows {s₀ s : State} (hf : s₀.Follows s) (n : Nat) (c : Nat) (cause : Nat) (locator : Word)
    : s₀.Follows (State.ridgeFails s n c cause locator) := by
  unfold State.ridgeFails
  repeat' first
    | with_reducible assumption | (intro _) | with_reducible apply State.reportIn_follows
    | with_reducible apply State.put_follows | with_reducible apply State.report_follows
    | with_reducible apply State.modRidge_follows | with_reducible apply State.degrade_follows
    | with_reducible apply State.holdRidge_follows | with_reducible apply State.Follows.ite | split | dsimp only

theorem State.plannedRestart_follows {s₀ s : State} (hf : s₀.Follows s) : s₀.Follows (State.plannedRestart s) := by
  unfold State.plannedRestart
  repeat' first
    | with_reducible assumption | (intro _) | with_reducible apply State.modRidge_follows
    | with_reducible apply State.holdRidge_follows | with_reducible apply State.Follows.ite | split | dsimp only

theorem State.ridgeRegs_follows {s₀ s : State} (hf : s₀.Follows s) : s₀.Follows (State.ridgeRegs s) := by
  unfold State.ridgeRegs
  repeat' first
    | with_reducible assumption | (intro _) | with_reducible apply State.put_follows
    | with_reducible apply State.setWord_follows | with_reducible apply State.flag_follows
    | with_reducible apply State.modRidge_follows | with_reducible apply State.Follows.ite | split | dsimp only

theorem State.releaseRidge_follows {s₀ s : State} (hf : s₀.Follows s) : s₀.Follows (State.releaseRidge s) := by
  unfold State.releaseRidge
  repeat' first
    | with_reducible assumption | (intro _) | with_reducible apply State.onExpiry_follows
    | with_reducible apply State.put_follows | with_reducible apply State.ridgeRegs_follows
    | with_reducible apply State.arm_follows | with_reducible apply State.Follows.ite | split | dsimp only

theorem State.restartFailed_follows {s₀ s : State} (hf : s₀.Follows s) : s₀.Follows (State.restartFailed s) := by
  unfold State.restartFailed
  repeat' first
    | with_reducible assumption | (intro _) | with_reducible apply State.onExpiry_follows
    | with_reducible apply State.ridgeFails_follows | with_reducible apply State.report_follows
    | with_reducible apply State.degrade_follows | with_reducible apply State.holdRidge_follows
    | with_reducible apply State.Follows.ite | split | dsimp only

theorem State.takeAlive_follows {s₀ s : State} (hf : s₀.Follows s) : s₀.Follows (State.takeAlive s) := by
  unfold State.takeAlive
  repeat' first
    | with_reducible assumption | (intro _) | with_reducible apply State.arm_follows
    | with_reducible apply State.put_follows | with_reducible apply State.disarm_follows
    | with_reducible apply State.Follows.each | with_reducible apply State.setWord_follows
    | with_reducible apply State.modRidge_follows | with_reducible apply State.Follows.ite | split | dsimp only

theorem State.restartCountOver_follows {s₀ s : State} (hf : s₀.Follows s) : s₀.Follows (State.restartCountOver s) :=
    by
  unfold State.restartCountOver
  repeat' first
    | with_reducible assumption | (intro _) | with_reducible apply State.onExpiry_follows
    | with_reducible apply State.put_follows | with_reducible apply State.Follows.ite | split | dsimp only

theorem State.checkerLost_follows {s₀ s : State} (hf : s₀.Follows s) (c : CheckerFault) : s₀.Follows
    (State.checkerLost s c) := by
  unfold State.checkerLost
  repeat' first
    | with_reducible assumption | (intro _) | with_reducible apply State.put_follows
    | with_reducible apply State.ridgeFails_follows | with_reducible apply State.Follows.ite | split | dsimp only

theorem State.selfTest_follows {s₀ s : State} (hf : s₀.Follows s) (passed : Bool) : s₀.Follows (State.selfTest s
    passed) := by
  unfold State.selfTest
  repeat' first
    | with_reducible assumption | (intro _) | with_reducible apply State.put_follows
    | with_reducible apply State.arm_follows | with_reducible apply State.checkerLost_follows
    | with_reducible apply State.Follows.ite | split | dsimp only

theorem State.selfTestLate_follows {s₀ s : State} (hf : s₀.Follows s) : s₀.Follows (State.selfTestLate s) := by
  unfold State.selfTestLate
  repeat' first
    | with_reducible assumption | (intro _) | with_reducible apply State.onExpiry_follows
    | with_reducible apply State.put_follows | with_reducible apply State.ridgeFails_follows
    | with_reducible apply State.Follows.ite | split | dsimp only

theorem State.watchdogOver_follows {s₀ s : State} (hf : s₀.Follows s) : s₀.Follows (State.watchdogOver s) := by
  unfold State.watchdogOver
  repeat' first
    | with_reducible assumption | (intro _) | with_reducible apply State.onExpiry_follows
    | with_reducible apply State.ridgeFails_follows | with_reducible apply State.Follows.ite | split | dsimp only

theorem State.latchRngFailed_follows {s₀ s : State} (hf : s₀.Follows s) : s₀.Follows (State.latchRngFailed s) := by
  unfold State.latchRngFailed
  repeat' first
    | with_reducible assumption | (intro _) | with_reducible apply State.put_follows
    | with_reducible apply State.modBrace_follows | with_reducible apply State.report_follows
    | with_reducible apply State.Follows.ite | split | dsimp only

theorem State.stopGroup_follows {s₀ s : State} (hf : s₀.Follows s) (g : Nat) : s₀.Follows (State.stopGroup s g).2 :=
    by
  unfold State.stopGroup
  repeat' first
    | with_reducible assumption | (intro _) | with_reducible apply State.Follows.each
    | with_reducible apply State.errorHalt_follows | with_reducible apply State.modEng_follows
    | with_reducible apply State.Follows.ite | split | dsimp only

theorem State.holdBay_follows {s₀ s : State} (hf : s₀.Follows s) (b : Nat) (st : Nat) : s₀.Follows (State.holdBay s b
    st) := by
  unfold State.holdBay
  repeat' first
    | with_reducible assumption | (intro _) | with_reducible apply State.bayDown_follows
    | with_reducible apply State.setBayState_follows | with_reducible apply State.clearBay_follows
    | with_reducible apply State.Follows.each | with_reducible apply State.modPort_follows
    | with_reducible apply State.Follows.ite | split | dsimp only

theorem State.loseGroup_follows {s₀ s : State} (hf : s₀.Follows s) (g : Nat) : s₀.Follows (State.loseGroup s g) := by
  unfold State.loseGroup
  repeat' first
    | with_reducible assumption | (intro _) | with_reducible apply State.Follows.each
    | with_reducible apply State.setWord_follows | with_reducible apply State.setEng_follows
    | with_reducible apply State.zeroCtrs_follows | with_reducible apply State.Follows.ite | split | dsimp only

theorem State.railFails_follows {s₀ s : State} (hf : s₀.Follows s) (rail : Nat) (r : Nat) : s₀.Follows
    (State.railFails s rail r) := by
  unfold State.railFails
  repeat' first
    | with_reducible assumption | (intro _) | with_reducible apply State.stopGroup_follows
    | with_reducible apply State.setRegion_follows | with_reducible apply State.loseGroup_follows
    | with_reducible apply State.reportIn_follows | with_reducible apply State.hostDown_follows
    | with_reducible apply State.holdBay_follows | with_reducible apply State.ridgeFails_follows
    | with_reducible apply State.enterSafe_follows | with_reducible refine State.Follows.pair (by assumption) ?_
    | with_reducible apply State.Follows.ite | split | dsimp only

theorem State.dropStream_follows {s₀ s : State} (hf : s₀.Follows s) (h : Nat) (i : Nat) : s₀.Follows (State.dropStream
    s h i) := by
  unfold State.dropStream
  repeat' first
    | with_reducible assumption | (intro _) | with_reducible apply State.setIde_follows
    | with_reducible apply State.setSecure_follows | with_reducible apply State.failStream_follows
    | with_reducible apply State.Follows.ite | split | dsimp only

theorem State.damage_follows {s₀ s : State} (hf : s₀.Follows s) (k : RegKind) (idx : Nat) : s₀.Follows (State.damage s
    k idx) := by
  unfold State.damage
  repeat' first
    | with_reducible assumption | (intro _) | with_reducible apply State.Follows.ite | split | dsimp only
  all_goals with_reducible apply State.Follows.other
  repeat' first
    | with_reducible assumption | (intro _) | with_reducible apply State.Follows.ite | split | dsimp only

theorem State.holdFunction_follows {s₀ s : State} (hf : s₀.Follows s) (f : Nat) : s₀.Follows (State.holdFunction s f)
    := by
  unfold State.holdFunction
  repeat' first
    | with_reducible assumption | (intro _) | with_reducible apply State.damage_follows
    | with_reducible apply State.put_follows | with_reducible apply State.Follows.each
    | with_reducible apply State.quiesceQueue_follows | with_reducible apply State.Follows.ite | split | dsimp only

theorem State.poison_follows {s₀ s : State} (hf : s₀.Follows s) (n : Nat) : s₀.Follows (State.poison s n) := by
  unfold State.poison
  repeat' first
    | with_reducible assumption | (intro _) | with_reducible apply State.put_follows
    | with_reducible apply State.Follows.ite | split | dsimp only

theorem State.ledgerCe_follows {s₀ s : State} (hf : s₀.Follows s) (n : Nat) : s₀.Follows (State.ledgerCe s n) := by
  unfold State.ledgerCe
  repeat' first
    | with_reducible assumption | (intro _) | with_reducible apply State.bump_follows
    | with_reducible apply State.put_follows | with_reducible apply State.Follows.ite | split | dsimp only

theorem State.losePrt_follows {s₀ s : State} (hf : s₀.Follows s) (p : Nat) : s₀.Follows (State.losePrt s p) := by
  unfold State.losePrt
  repeat' first
    | with_reducible assumption | (intro _) | with_reducible apply State.damage_follows
    | with_reducible apply State.endRequests_follows | with_reducible apply State.Follows.ite | split | dsimp only

theorem State.loseQueue_follows {s₀ s : State} (hf : s₀.Follows s) (q : Nat) : s₀.Follows (State.loseQueue s q) := by
  unfold State.loseQueue
  repeat' first
    | with_reducible assumption | (intro _) | with_reducible apply State.bump_follows
    | with_reducible apply State.drainEngine_follows | with_reducible apply State.dropFetches_follows
    | with_reducible apply State.resetQueue_follows | with_reducible apply State.modQueue_follows
    | with_reducible apply State.put_follows | with_reducible apply State.Follows.ite | split | dsimp only

theorem State.losePrefetch_follows {s₀ s : State} (hf : s₀.Follows s) (a : Nat) : s₀.Follows (State.losePrefetch s a)
    := by
  unfold State.losePrefetch
  repeat' first
    | with_reducible assumption | (intro _) | with_reducible apply State.Follows.each
    | with_reducible apply State.modQueue_follows | with_reducible apply State.kick_follows
    | with_reducible apply State.Follows.ite | split | dsimp only

theorem State.loseCompletion_follows {s₀ s : State} (hf : s₀.Follows s) (f : Nat) (a : Nat) : s₀.Follows
    (State.loseCompletion s f a) := by
  unfold State.loseCompletion
  repeat' first
    | with_reducible assumption | (intro _) | with_reducible apply State.hostCompletion_follows
    | with_reducible apply State.Follows.ite | split | dsimp only

theorem State.loseTable_follows {s₀ s : State} (hf : s₀.Follows s) (k : Nat) : s₀.Follows (State.loseTable s k) := by
  unfold State.loseTable
  repeat' first
    | with_reducible assumption | (intro _) | with_reducible apply State.setWord_follows
    | with_reducible apply State.modBrace_follows | with_reducible apply State.Follows.ite | split | dsimp only

theorem State.faultLine_follows {s₀ s : State} (hf : s₀.Follows s) (n : Nat) (c : Nat) (inst : Nat) (loc : Word) (chk
    : Word) : s₀.Follows (State.faultLine s n c inst loc chk) := by
  unfold State.faultLine
  repeat' first
    | with_reducible assumption | (intro _) | with_reducible apply State.report_follows
    | with_reducible apply State.enterSafe_follows | with_reducible apply State.railFails_follows
    | with_reducible apply State.ridgeFails_follows | with_reducible apply State.degrade_follows
    | with_reducible apply State.latchRngFailed_follows | with_reducible apply State.hostDown_follows
    | with_reducible apply State.loseCompletion_follows | with_reducible apply State.Follows.each
    | with_reducible apply State.dropStream_follows | with_reducible apply State.holdFunction_follows
    | with_reducible apply State.ledgerCe_follows | with_reducible apply State.poison_follows
    | with_reducible apply State.losePrt_follows | with_reducible apply State.loseQueue_follows
    | with_reducible apply State.losePrefetch_follows | with_reducible apply State.engineFault_follows
    | with_reducible apply State.damage_follows | with_reducible apply State.loseUnit_follows
    | with_reducible apply State.portDown_follows | with_reducible apply State.holdBay_follows
    | with_reducible apply State.bringUpLane_follows | with_reducible apply State.bump_follows
    | with_reducible apply State.modPeg_follows | with_reducible apply State.loseTable_follows
    | with_reducible apply State.askShutdown_follows | with_reducible apply State.Follows.ite | split | dsimp only

theorem State.scrub_follows {s₀ s : State} (hf : s₀.Follows s) (r : EccResult) : s₀.Follows (State.scrub s r) := by
  unfold State.scrub
  repeat' first
    | with_reducible assumption | (intro _) | with_reducible apply State.ledgerCe_follows
    | with_reducible apply State.report_follows | with_reducible apply State.bump_follows
    | with_reducible apply State.poison_follows | with_reducible apply State.losePrt_follows
    | with_reducible apply State.Follows.ite | split | dsimp only
  all_goals with_reducible apply State.Follows.other
  repeat' first
    | with_reducible assumption | (intro _) | with_reducible apply State.ledgerCe_follows
    | with_reducible apply State.report_follows | with_reducible apply State.bump_follows
    | with_reducible apply State.poison_follows | with_reducible apply State.losePrt_follows
    | with_reducible apply State.Follows.ite | split | dsimp only

theorem State.cutDrain_follows {s₀ s : State} (hf : s₀.Follows s) (e : Nat) : s₀.Follows (State.cutDrain s e) := by
  unfold State.cutDrain
  repeat' first
    | with_reducible assumption | (intro _) | with_reducible apply State.Follows.each
    | with_reducible apply State.modHost_follows | with_reducible apply State.modPort_follows
    | with_reducible apply State.releaseEngine_follows | with_reducible apply State.runWaiting_follows
    | with_reducible apply State.Follows.ite | split | dsimp only

theorem State.beginDomain_follows {s₀ s : State} (hf : s₀.Follows s) (d : Nat) : s₀.Follows (State.beginDomain s d) :=
    by
  unfold State.beginDomain
  repeat' first
    | with_reducible assumption | (intro _) | with_reducible apply State.hostDown_follows
    | with_reducible apply State.setHcrState_follows | with_reducible apply State.startHcr_follows
    | with_reducible apply State.afterDown_follows | with_reducible apply State.resetBay_follows
    | with_reducible apply State.holdBay_follows | with_reducible apply State.bump_follows
    | with_reducible apply State.Follows.each | with_reducible apply State.cutDrain_follows
    | with_reducible apply State.setEgState_follows | with_reducible apply State.Follows.ite | split | dsimp only

theorem State.startRecovery_follows {s₀ s : State} (hf : s₀.Follows s) : s₀.Follows (State.startRecovery s) := by
  unfold State.startRecovery
  repeat' first
    | with_reducible assumption | (intro _) | with_reducible apply State.modBrace_follows
    | with_reducible apply State.put_follows | with_reducible apply State.beginDomain_follows
    | with_reducible apply State.Follows.ite | split | dsimp only

theorem State.holdDomain_follows {s₀ s : State} (hf : s₀.Follows s) (d : Nat) : s₀.Follows (State.holdDomain s d) :=
    by
  unfold State.holdDomain
  repeat' first
    | with_reducible assumption | (intro _) | with_reducible apply State.hostDown_follows
    | with_reducible apply State.portDown_follows | with_reducible apply State.disarm_follows
    | with_reducible apply State.holdBay_follows | with_reducible apply State.setEgState_follows
    | with_reducible apply State.Follows.ite | split | dsimp only

theorem State.restoreGroup_follows {s₀ s : State} (hf : s₀.Follows s) (g : Nat) : s₀.Follows (State.restoreGroup s g)
    := by
  unfold State.restoreGroup
  repeat' first
    | with_reducible assumption | (intro _) | with_reducible apply State.Follows.each
    | with_reducible apply State.setEng_follows | with_reducible apply State.setEgState_follows
    | with_reducible apply State.Follows.ite | split | dsimp only

theorem State.endRecovery_follows {s₀ s : State} (hf : s₀.Follows s) (passed : Bool) : s₀.Follows (State.endRecovery s
    passed) := by
  unfold State.endRecovery
  repeat' first
    | with_reducible assumption | (intro _) | with_reducible apply State.modBrace_follows
    | with_reducible apply State.flag_follows | with_reducible apply State.holdDomain_follows
    | with_reducible apply State.put_follows | with_reducible apply State.restoreGroup_follows
    | with_reducible apply State.Follows.ite | split | dsimp only

theorem State.release_follows {s₀ s : State} (hf : s₀.Follows s) (d : Nat) : s₀.Follows (State.release s d) := by
  unfold State.release
  repeat' first
    | with_reducible assumption | (intro _) | with_reducible apply State.forget_follows
    | with_reducible apply State.bump_follows | with_reducible apply State.addHist_follows
    | with_reducible apply State.enqueueDomain_follows | with_reducible refine State.Follows.pair (by assumption) ?_
    | with_reducible apply State.Follows.ite | split | dsimp only

theorem State.windowOver_follows {s₀ s : State} (hf : s₀.Follows s) (n : Nat) (c : Nat) (inst : Nat) : s₀.Follows
    (State.windowOver s n c inst) := by
  unfold State.windowOver
  repeat' first
    | with_reducible assumption | (intro _) | with_reducible apply State.onExpiry_follows
    | with_reducible apply State.forget_follows | with_reducible apply State.Follows.ite | split | dsimp only

theorem State.clearDetail_follows {s₀ s : State} (hf : s₀.Follows s) (n : Nat) (mask : Word) : s₀.Follows
    (State.clearDetail s n mask) := by
  unfold State.clearDetail
  repeat' first
    | with_reducible assumption | (intro _) | with_reducible apply State.setWord_follows
    | with_reducible apply State.forget_follows | with_reducible apply State.Follows.each
    | with_reducible apply State.setDetail_follows | with_reducible apply State.Follows.ite | split | dsimp only

theorem State.bootMeasure_follows {s₀ s : State} (hf : s₀.Follows s) : s₀.Follows (State.bootMeasure s) := by
  unfold State.bootMeasure
  repeat' first
    | with_reducible assumption | (intro _) | with_reducible apply State.Follows.each
    | with_reducible apply State.modRidge_follows | with_reducible apply State.put_follows
    | with_reducible apply State.Follows.ite | split | dsimp only

theorem State.extendMeas_follows {s₀ s : State} (hf : s₀.Follows s) (k : Nat) (x : BitVec 384) : s₀.Follows
    (State.extendMeas s k x) := by
  unfold State.extendMeas
  repeat' first
    | with_reducible assumption | (intro _) | with_reducible apply State.modRidge_follows
    | with_reducible apply State.Follows.ite | split | dsimp only

theorem State.mbAnswer_follows {s₀ s : State} (hf : s₀.Follows s) (h : Nat) (op : Nat) (result : Nat) (rsp : List
    Byte) : s₀.Follows (State.mbAnswer s h op result rsp) := by
  unfold State.mbAnswer
  repeat' first
    | with_reducible assumption | (intro _) | with_reducible apply State.modRidge_follows
    | with_reducible apply State.Follows.ite | split | dsimp only

theorem State.endRandom_follows {s₀ s : State} (hf : s₀.Follows s) : s₀.Follows (State.endRandom s) := by
  unfold State.endRandom
  repeat' first
    | with_reducible assumption | (intro _) | with_reducible apply State.Follows.each
    | with_reducible apply State.mbAnswer_follows | with_reducible apply State.bump_follows
    | with_reducible apply State.Follows.ite | split | dsimp only

theorem State.rngFail_follows {s₀ s : State} (hf : s₀.Follows s) (src : Nat) (test : Nat) : s₀.Follows (State.rngFail
    s src test) := by
  unfold State.rngFail
  repeat' first
    | with_reducible assumption | (intro _) | with_reducible apply State.put_follows
    | with_reducible apply State.bump_follows | with_reducible apply State.modRidge_follows
    | with_reducible apply State.endRandom_follows | with_reducible apply State.latchRngFailed_follows
    | with_reducible apply State.Follows.ite | split | dsimp only

theorem State.rngPass_follows {s₀ s : State} (hf : s₀.Follows s) (src : Nat) : s₀.Follows (State.rngPass s src) := by
  unfold State.rngPass
  repeat' first
    | with_reducible assumption | (intro _) | with_reducible apply State.put_follows
    | with_reducible apply State.modRidge_follows | with_reducible apply State.Follows.ite | split | dsimp only

theorem State.reseed_follows {s₀ s : State} (hf : s₀.Follows s) : s₀.Follows (State.reseed s) := by
  unfold State.reseed
  repeat' first
    | with_reducible assumption | (intro _) | with_reducible apply State.bump_follows
    | with_reducible apply State.modRidge_follows | with_reducible apply State.Follows.ite | split | dsimp only

theorem State.generate_follows {s₀ s : State} (hf : s₀.Follows s) (n : Nat) : s₀.Follows (State.generate s n).2 := by
  unfold State.generate
  repeat' first
    | with_reducible assumption | (intro _) | with_reducible apply State.reseed_follows
    | with_reducible apply State.modRidge_follows | with_reducible apply State.freeBytes_follows
    | with_reducible refine State.Follows.pair (by assumption) ?_ | with_reducible apply State.Follows.ite | split
    | dsimp only

theorem State.answer_follows {s₀ s : State} (hf : s₀.Follows s) (c : Caller) (op : Nat) (result : Nat) (rsp : List
    Byte) : s₀.Follows (State.answer s c op result rsp) := by
  unfold State.answer
  repeat' first
    | with_reducible assumption | (intro _) | with_reducible apply State.mbAnswer_follows
    | with_reducible apply State.emit_follows | with_reducible apply State.Follows.ite | split | dsimp only

theorem State.command_follows {s₀ s : State} {run : State → List Byte → Nat × List Byte × State} (hf : s₀.Follows s)
    (hrun : ∀ t b, s₀.Follows t → s₀.Follows (run t b).2.2) (c : Caller) (op : Nat) (allowed : Bool) (fits : Nat →
    Bool) : s₀.Follows (State.command s c op allowed fits run) := by
  unfold State.command
  repeat' first
    | with_reducible assumption | (intro _) | with_reducible apply State.answer_follows
    | with_reducible apply State.Follows.ite | with_reducible apply hrun | split | dsimp only

theorem State.getInfo_follows {s₀ s : State} (hf : s₀.Follows s) (y1 : List Byte) : s₀.Follows (State.getInfo s
    y1).2.2 := by
  unfold State.getInfo
  repeat' first
    | with_reducible assumption | (intro _) | with_reducible apply State.freeBytes_follows
    | with_reducible refine State.Follows.pair (by assumption) ?_ | with_reducible apply State.Follows.ite | split
    | dsimp only

theorem State.getCertChain_follows {s₀ s : State} (hf : s₀.Follows s) (req : List Byte) : s₀.Follows
    (State.getCertChain s req).2.2 := by
  unfold State.getCertChain
  repeat' first
    | with_reducible assumption | (intro _) | with_reducible apply State.Follows.ite | split | dsimp only

theorem State.getRandom_follows {s₀ s : State} (hf : s₀.Follows s) (req : List Byte) : s₀.Follows (State.getRandom s
    req).2.2 := by
  unfold State.getRandom
  repeat' first
    | with_reducible assumption | (intro _) | with_reducible apply State.bump_follows
    | with_reducible apply State.generate_follows | with_reducible refine State.Follows.pair (by assumption) ?_
    | with_reducible apply State.Follows.ite | split | dsimp only

theorem State.fwBegin_follows {s₀ s : State} (hf : s₀.Follows s) (k : Nat) (req : List Byte) :
    s₀.Follows (State.fwBegin k s req).2.2 := by
  unfold State.fwBegin
  repeat' first
    | with_reducible assumption | (intro _) | with_reducible apply Tbl.risingFrom_filter
    | with_reducible apply State.modRidge_follows | with_reducible apply State.Follows.ite | split | dsimp only

theorem State.fwWrite_follows {s₀ s : State} (hf : s₀.Follows s) (k : Nat) (req : List Byte) :
    s₀.Follows (State.fwWrite k s req).2.2 := by
  unfold State.fwWrite
  repeat' first
    | with_reducible assumption | (intro _) | with_reducible apply Tbl.risingFrom_writeBytes
    | with_reducible apply State.modRidge_follows | with_reducible apply State.Follows.ite | split | dsimp only

theorem State.fwFinish_follows {s₀ s : State} (hf : s₀.Follows s) (k : Nat) (y2 : List Byte) : s₀.Follows
    (State.fwFinish k s y2).2.2 := by
  unfold State.fwFinish
  repeat' first
    | with_reducible assumption | (intro _) | with_reducible apply State.modRidge_follows
    | with_reducible apply State.Follows.ite | split | dsimp only

theorem State.fwActivate_follows {s₀ s : State} (hf : s₀.Follows s) (k : Nat) (x2 : List Byte) :
    s₀.Follows (State.fwActivate k s x2).2.2 := by
  unfold State.fwActivate
  repeat' first
    | with_reducible assumption | (intro _) | with_reducible apply Tbl.risingFrom_writeBytes
    | with_reducible apply State.modRidge_follows | with_reducible refine State.Follows.pair (by assumption) ?_
    | with_reducible apply State.Follows.ite | split | dsimp only

theorem State.fwCancel_follows {s₀ s : State} (hf : s₀.Follows s) (k : Nat) (y2 : List Byte) : s₀.Follows
    (State.fwCancel k s y2).2.2 := by
  unfold State.fwCancel
  repeat' first
    | with_reducible assumption | (intro _) | with_reducible apply State.modRidge_follows
    | with_reducible apply State.Follows.ite | split | dsimp only

theorem State.askRestart_follows {s₀ s : State} (hf : s₀.Follows s) (c : Caller) : s₀.Follows (State.askRestart s c)
    := by
  unfold State.askRestart
  repeat' first
    | with_reducible assumption | (intro _) | with_reducible apply State.command_follows
    | with_reducible apply State.plannedRestart_follows | with_reducible apply State.Follows.ite | split | dsimp only

theorem State.loadRsp_follows {s₀ s : State} (hf : s₀.Follows s) (h : Nat) (bs : List Byte) : s₀.Follows
    (State.loadRsp s h bs) := by
  unfold State.loadRsp
  repeat' first
    | with_reducible assumption | (intro _) | with_reducible apply State.Follows.each
    | with_reducible apply State.setWord_follows | with_reducible apply State.Follows.ite | split | dsimp only

theorem State.mbDone_follows {s₀ s : State} (hf : s₀.Follows s) (h : Nat) (result : Nat) (rsp : List Byte) :
    s₀.Follows (State.mbDone s h result rsp) := by
  unfold State.mbDone
  repeat' first
    | with_reducible assumption | (intro _) | with_reducible apply State.modRidge_follows
    | with_reducible apply State.loadRsp_follows | with_reducible apply State.put_follows
    | with_reducible apply State.deliverMsix_follows | with_reducible apply State.wakeFor_follows
    | with_reducible refine State.Follows.pair (by assumption) ?_ | with_reducible apply State.Follows.ite | split
    | dsimp only

theorem State.mbGo_follows {s₀ s : State} (hf : s₀.Follows s) (h : Nat) : s₀.Follows (State.mbGo s h) := by
  unfold State.mbGo
  repeat' first
    | with_reducible assumption | (intro _) | with_reducible apply State.put_follows
    | with_reducible apply State.Follows.ite | split | dsimp only

theorem State.mbFinish_follows {s₀ s : State} (hf : s₀.Follows s) (h : Nat) : s₀.Follows (State.mbFinish s h) := by
  unfold State.mbFinish
  repeat' first
    | with_reducible assumption | (intro _) | with_reducible apply State.mbDone_follows
    | with_reducible apply State.modRidge_follows | with_reducible apply State.plannedRestart_follows
    | with_reducible apply State.Follows.ite | split | dsimp only

theorem State.mbAbort_follows {s₀ s : State} (hf : s₀.Follows s) (h : Nat) : s₀.Follows (State.mbAbort s h) := by
  unfold State.mbAbort
  repeat' first
    | with_reducible assumption | (intro _) | with_reducible apply State.put_follows
    | with_reducible apply State.mbDone_follows | with_reducible apply State.Follows.ite | split | dsimp only

theorem State.setEid_follows {s₀ s : State} (hf : s₀.Follows s) (e : Nat) : s₀.Follows (State.setEid s e) := by
  unfold State.setEid
  repeat' first
    | with_reducible assumption | (intro _) | with_reducible apply State.emit_follows
    | with_reducible apply State.modRidge_follows | with_reducible apply State.Follows.ite | split | dsimp only

theorem State.mctpAnswer_follows {s₀ s : State} (hf : s₀.Follows s) (r : MctpRsp) : s₀.Follows (State.mctpAnswer s r)
    := by
  unfold State.mctpAnswer
  repeat' first
    | with_reducible assumption | (intro _) | with_reducible apply State.emit_follows
    | with_reducible apply State.Follows.ite | split | dsimp only

theorem State.setConn_follows {s₀ s : State} (hf : s₀.Follows s) (t : Transport) (c : SpdmConn) : s₀.Follows
    (State.setConn s t c) := by
  unfold State.setConn
  repeat' first
    | with_reducible assumption | (intro _) | with_reducible apply State.modRidge_follows
    | with_reducible apply State.Follows.ite | split | dsimp only

theorem State.respond_follows {s₀ s : State} (hf : s₀.Follows s) (t : Transport) (r : SpdmRsp) : s₀.Follows
    (State.respond s t r) := by
  unfold State.respond
  repeat' first
    | with_reducible assumption | (intro _) | with_reducible apply State.modHost_follows
    | with_reducible apply State.emit_follows | with_reducible apply State.Follows.ite | split | dsimp only

theorem State.spdm_follows {s₀ s : State} {run : State → State} (hf : s₀.Follows s) (hrun : ∀ t, s₀.Follows t →
    s₀.Follows (run t)) (t : Transport) (min : Nat) : s₀.Follows (State.spdm s t min run) := by
  unfold State.spdm
  repeat' first
    | with_reducible assumption | (intro _) | with_reducible apply State.respond_follows
    | with_reducible apply State.Follows.ite | with_reducible apply hrun | split | dsimp only

theorem State.spdmVersion_follows {s₀ s : State} (hf : s₀.Follows s) (t : Transport) : s₀.Follows (State.spdmVersion s
    t) := by
  unfold State.spdmVersion
  repeat' first
    | with_reducible assumption | (intro _) | with_reducible apply State.spdm_follows
    | with_reducible apply State.setConn_follows | with_reducible apply State.respond_follows
    | with_reducible apply State.Follows.ite | split | dsimp only

theorem State.spdmStage_follows {s₀ s : State} (hf : s₀.Follows s) (t : Transport) (stage : Nat) (r : SpdmRsp) :
    s₀.Follows (State.spdmStage s t stage r) := by
  unfold State.spdmStage
  repeat' first
    | with_reducible assumption | (intro _) | with_reducible apply State.spdm_follows
    | with_reducible apply State.setConn_follows | with_reducible apply State.respond_follows
    | with_reducible apply State.Follows.ite | split | dsimp only

theorem State.spdmDigests_follows {s₀ s : State} (hf : s₀.Follows s) (t : Transport) : s₀.Follows (State.spdmDigests s
    t) := by
  unfold State.spdmDigests
  repeat' first
    | with_reducible assumption | (intro _) | with_reducible apply State.spdm_follows
    | with_reducible apply State.respond_follows | with_reducible apply State.Follows.ite | split | dsimp only

theorem State.spdmCertificate_follows {s₀ s : State} (hf : s₀.Follows s) (t : Transport) (slot : Nat) (off : Nat) (len
    : Nat) : s₀.Follows (State.spdmCertificate s t slot off len) := by
  unfold State.spdmCertificate
  repeat' first
    | with_reducible assumption | (intro _) | with_reducible apply State.spdm_follows
    | with_reducible apply State.respond_follows | with_reducible apply State.setConn_follows
    | with_reducible apply State.Follows.ite | split | dsimp only

theorem State.refuse_follows {s₀ s : State} (hf : s₀.Follows s) (t : Transport) (e : SpdmError) : s₀.Follows
    (State.refuse s t e) := by
  unfold State.refuse
  repeat' first
    | with_reducible assumption | (intro _) | with_reducible apply State.bump_follows
    | with_reducible apply State.respond_follows | with_reducible apply State.Follows.ite | split | dsimp only

theorem State.signed_follows {s₀ s : State} {k : List Byte → List Byte → State → State} (hf : s₀.Follows s) (hk : ∀ a
    b t, s₀.Follows t → s₀.Follows (k a b t)) : s₀.Follows (State.signed s k) := by
  unfold State.signed
  repeat' first
    | with_reducible assumption | (intro _) | with_reducible apply State.generate_follows
    | with_reducible apply State.freeBytes_follows | with_reducible refine State.Follows.pair (by assumption) ?_
    | with_reducible apply State.Follows.ite | with_reducible apply hk | split | dsimp only

theorem State.spdmChallenge_follows {s₀ s : State} (hf : s₀.Follows s) (t : Transport) (slot : Nat) : s₀.Follows
    (State.spdmChallenge s t slot) := by
  unfold State.spdmChallenge
  repeat' first
    | with_reducible assumption | (intro _) | with_reducible apply State.spdm_follows
    | with_reducible apply State.respond_follows | with_reducible apply State.refuse_follows
    | with_reducible apply State.signed_follows | with_reducible apply State.Follows.ite | split | dsimp only

theorem State.spdmMeasurements_follows {s₀ s : State} (hf : s₀.Follows s) (t : Transport) (i : Nat) (sign : Bool) :
    s₀.Follows (State.spdmMeasurements s t i sign) := by
  unfold State.spdmMeasurements
  repeat' first
    | with_reducible assumption | (intro _) | with_reducible apply State.spdm_follows
    | with_reducible apply State.respond_follows | with_reducible apply State.refuse_follows
    | with_reducible apply State.signed_follows | with_reducible apply State.Follows.ite | split | dsimp only

theorem State.spdmKeyExchange_follows {s₀ s : State} (hf : s₀.Follows s) (t : Transport) (slot : Nat) : s₀.Follows
    (State.spdmKeyExchange s t slot) := by
  unfold State.spdmKeyExchange
  repeat' first
    | with_reducible assumption | (intro _) | with_reducible apply State.spdm_follows
    | with_reducible apply State.respond_follows | with_reducible apply State.refuse_follows
    | with_reducible apply State.generate_follows | with_reducible apply State.signed_follows
    | with_reducible apply State.modRidge_follows | with_reducible refine State.Follows.pair (by assumption) ?_
    | with_reducible apply State.Follows.ite | split | dsimp only

theorem State.inSession_follows {s₀ s : State} {run : State → State} (hf : s₀.Follows s) (hrun : ∀ t, s₀.Follows t →
    s₀.Follows (run t)) (t : Transport) (id : Nat) (established : Bool) : s₀.Follows (State.inSession s t id
    established run) := by
  unfold State.inSession
  repeat' first
    | with_reducible assumption | (intro _) | with_reducible apply State.spdm_follows
    | with_reducible apply State.respond_follows | with_reducible apply State.Follows.ite | with_reducible apply hrun
    | split | dsimp only

theorem State.spdmFinish_follows {s₀ s : State} (hf : s₀.Follows s) (t : Transport) (id : Nat) : s₀.Follows
    (State.spdmFinish s t id) := by
  unfold State.spdmFinish
  repeat' first
    | with_reducible assumption | (intro _) | with_reducible apply State.inSession_follows
    | with_reducible apply State.modRidge_follows | with_reducible apply State.respond_follows
    | with_reducible apply State.Follows.ite | split | dsimp only

theorem State.spdmHeartbeat_follows {s₀ s : State} (hf : s₀.Follows s) (t : Transport) (id : Nat) : s₀.Follows
    (State.spdmHeartbeat s t id) := by
  unfold State.spdmHeartbeat
  repeat' first
    | with_reducible assumption | (intro _) | with_reducible apply State.inSession_follows
    | with_reducible apply State.respond_follows | with_reducible apply State.Follows.ite | split | dsimp only

theorem State.spdmKeyUpdate_follows {s₀ s : State} (hf : s₀.Follows s) (t : Transport) (id : Nat) : s₀.Follows
    (State.spdmKeyUpdate s t id) := by
  unfold State.spdmKeyUpdate
  repeat' first
    | with_reducible assumption | (intro _) | with_reducible apply State.inSession_follows
    | with_reducible apply State.respond_follows | with_reducible apply State.Follows.ite | split | dsimp only

theorem State.spdmEndSession_follows {s₀ s : State} (hf : s₀.Follows s) (t : Transport) (id : Nat) : s₀.Follows
    (State.spdmEndSession s t id) := by
  unfold State.spdmEndSession
  repeat' first
    | with_reducible assumption | (intro _) | with_reducible apply State.inSession_follows
    | with_reducible apply State.modRidge_follows | with_reducible apply State.respond_follows
    | with_reducible apply State.Follows.ite | split | dsimp only

theorem State.spdmChunkSend_follows {s₀ s : State} (hf : s₀.Follows s) (t : Transport) (handle : Nat) (seq : Nat)
    (last : Bool) : s₀.Follows (State.spdmChunkSend s t handle seq last) := by
  unfold State.spdmChunkSend
  repeat' first
    | with_reducible assumption | (intro _) | with_reducible apply State.spdm_follows
    | with_reducible apply State.setConn_follows | with_reducible apply State.respond_follows
    | with_reducible apply State.Follows.ite | split | dsimp only

theorem State.spdmChunkGet_follows {s₀ s : State} (hf : s₀.Follows s) (t : Transport) (handle : Nat) (seq : Nat) :
    s₀.Follows (State.spdmChunkGet s t handle seq) := by
  unfold State.spdmChunkGet
  repeat' first
    | with_reducible assumption | (intro _) | with_reducible apply State.spdm_follows
    | with_reducible apply State.respond_follows | with_reducible apply State.setConn_follows
    | with_reducible apply State.Follows.ite | split | dsimp only

theorem State.kmEffect_follows {s₀ s : State} (hf : s₀.Follows s) (h : Nat) (x2 : IdeKm) : s₀.Follows (State.kmEffect
    s h x2).2 := by
  unfold State.kmEffect
  repeat' first
    | with_reducible assumption | (intro _) | with_reducible apply State.progKey_follows
    | with_reducible apply State.setGo_follows | with_reducible apply State.setStop_follows
    | with_reducible apply State.Follows.ite | split | dsimp only

theorem State.km_follows {s₀ s : State} (hf : s₀.Follows s) (h : HostId) (m : IdeKm) : s₀.Follows (State.km s h m) :=
    by
  unfold State.km
  repeat' first
    | with_reducible assumption | (intro _) | with_reducible apply State.kmEffect_follows
    | with_reducible apply State.respond_follows | with_reducible refine State.Follows.pair (by assumption) ?_
    | with_reducible apply State.Follows.ite | split | dsimp only

theorem State.spdmVendor_follows {s₀ s : State} (hf : s₀.Follows s) (t : Transport) (id : Nat) (m : IdeKm) :
    s₀.Follows (State.spdmVendor s t id m) := by
  unfold State.spdmVendor
  repeat' first
    | with_reducible assumption | (intro _) | with_reducible apply State.spdm_follows
    | with_reducible apply State.respond_follows | with_reducible apply State.inSession_follows
    | with_reducible apply State.kmEffect_follows | with_reducible refine State.Follows.pair (by assumption) ?_
    | with_reducible apply State.Follows.ite | split | dsimp only

theorem State.spdmUnsupported_follows {s₀ s : State} (hf : s₀.Follows s) (t : Transport) (code : Nat) : s₀.Follows
    (State.spdmUnsupported s t code) := by
  unfold State.spdmUnsupported
  repeat' first
    | with_reducible assumption | (intro _) | with_reducible apply State.spdm_follows
    | with_reducible apply State.respond_follows | with_reducible apply State.Follows.ite | split | dsimp only

theorem State.abortDoe_follows {s₀ s : State} (hf : s₀.Follows s) (h : Nat) : s₀.Follows (State.abortDoe s h) := by
  unfold State.abortDoe
  repeat' first
    | with_reducible assumption | (intro _) | with_reducible apply State.doeAbort_follows
    | with_reducible apply State.Follows.ite | split | dsimp only

end Sys2Proof.Machine
end

