-- ==== Sys2Proof/Laws/FollowsAccess.lean ====
section
/-! SUPPORT. What the operations of register access and regions keep (State.Follows): one lemma
per operation. -/

namespace Sys2Proof.Machine

set_option linter.all false
set_option Elab.async false

theorem State.seenBy_follows {s₀ s : State} (hf : s₀.Follows s) (c : Option Nat) : s₀.Follows (State.seenBy s c) := by
  unfold State.seenBy
  repeat' first
    | with_reducible assumption | (intro _) | with_reducible apply State.resulting_follows
    | with_reducible apply State.Follows.ite | split | dsimp only

theorem State.deny_follows {s₀ s : State} (hf : s₀.Follows s) (x1 : Agent) : s₀.Follows (State.deny s x1) := by
  unfold State.deny
  repeat' first
    | with_reducible assumption | (intro _) | with_reducible apply State.bump_follows
    | with_reducible apply State.Follows.ite | split | dsimp only

theorem State.readUnit_follows {s₀ s : State} (hf : s₀.Follows s) (a : Agent) (o : Nat) (m : Word) : s₀.Follows
    (State.readUnit s a o m).2 := by
  unfold State.readUnit
  repeat' first
    | with_reducible assumption | (intro _) | with_reducible apply State.Follows.foldl
    | with_reducible apply State.deny_follows | with_reducible apply State.Follows.ite | split | dsimp only

theorem State.plain_follows {s₀ s : State} (hf : s₀.Follows s) (k : RegKind) (i : Nat) (v : Word) (m : Word) :
    s₀.Follows (State.plain s k i v m) := by
  unfold State.plain
  repeat' first
    | with_reducible assumption | (intro _) | with_reducible apply State.setWord_follows
    | with_reducible apply State.Follows.ite | split | dsimp only

theorem State.writeTxnCtrl_follows {s₀ s : State} (hf : s₀.Follows s) (c : Nat) (v : Word) (m : Word) : s₀.Follows
    (State.writeTxnCtrl s c v m) := by
  unfold State.writeTxnCtrl
  repeat' first
    | with_reducible assumption | (intro _) | with_reducible apply State.txnBegin_follows
    | with_reducible apply State.txnCommit_follows | with_reducible apply State.txnRollback_follows
    | with_reducible apply State.Follows.ite | split | dsimp only

theorem State.writeRing_follows {s₀ s : State} (hf : s₀.Follows s) (k : RegKind) (q : Nat) (v : Word) (m : Word) :
    s₀.Follows (State.writeRing s k q v m) := by
  unfold State.writeRing
  repeat' first
    | with_reducible assumption | (intro _) | with_reducible apply State.setWord_follows
    | with_reducible apply State.rejectCmd_follows | with_reducible apply State.Follows.ite | split | dsimp only

theorem State.writeMbCtrl_follows {s₀ s : State} (hf : s₀.Follows s) (h : Nat) (v : Word) (m : Word) : s₀.Follows
    (State.writeMbCtrl s h v m) := by
  unfold State.writeMbCtrl
  repeat' first
    | with_reducible assumption | (intro _) | with_reducible apply State.plain_follows
    | with_reducible apply State.mbGo_follows | with_reducible apply State.mbAbort_follows
    | with_reducible apply State.Follows.ite | split | dsimp only

theorem State.writeMbData_follows {s₀ s : State} (hf : s₀.Follows s) (k : RegKind) (i : Nat) (v : Word) (m : Word) :
    s₀.Follows (State.writeMbData s k i v m) := by
  unfold State.writeMbData
  repeat' first
    | with_reducible assumption | (intro _) | with_reducible apply State.plain_follows
    | with_reducible apply State.Follows.ite | split | dsimp only

theorem State.writeClass_follows {s₀ s : State} (hf : s₀.Follows s) (i : Nat) (v : Word) (m : Word) : s₀.Follows
    (State.writeClass s i v m) := by
  unfold State.writeClass
  repeat' first
    | with_reducible assumption | (intro _) | with_reducible apply State.plain_follows
    | with_reducible apply State.Follows.ite | split | dsimp only

theorem State.writeTest_follows {s₀ s : State} (hf : s₀.Follows s) (k : RegKind) (l : Nat) (v : Word) (m : Word) :
    s₀.Follows (State.writeTest s k l v m) := by
  unfold State.writeTest
  repeat' first
    | with_reducible assumption | (intro _) | with_reducible apply State.plain_follows
    | with_reducible apply State.put_follows | with_reducible apply State.laneTest_follows
    | with_reducible apply State.Follows.ite | split | dsimp only

theorem State.writeJpCtrl_follows {s₀ s : State} (hf : s₀.Follows s) (p : Nat) (v : Word) (m : Word) : s₀.Follows
    (State.writeJpCtrl s p v m) := by
  unfold State.writeJpCtrl
  repeat' first
    | with_reducible assumption | (intro _) | with_reducible apply State.retrainPort_follows
    | with_reducible apply State.resetPort_follows | with_reducible apply State.Follows.ite | split | dsimp only

theorem State.writePegCmd_follows {s₀ s : State} (hf : s₀.Follows s) (i : Nat) (v : Word) (m : Word) : s₀.Follows
    (State.writePegCmd s i v m) := by
  unfold State.writePegCmd
  repeat' first
    | with_reducible assumption | (intro _) | with_reducible apply State.eosPeg_follows
    | with_reducible apply State.raisePeg_follows | with_reducible apply State.Follows.ite | split | dsimp only

theorem State.writeScribeCmd_follows {s₀ s : State} (hf : s₀.Follows s) (a : Agent) (v : Word) (m : Word) : s₀.Follows
    (State.writeScribeCmd s a v m) := by
  unfold State.writeScribeCmd
  repeat' first
    | with_reducible assumption | (intro _) | with_reducible apply State.trigger_follows
    | with_reducible apply State.holdBank_follows | with_reducible apply State.releaseBank_follows
    | with_reducible apply State.Follows.ite | split | dsimp only

theorem State.writeScribeCtrl_follows {s₀ s : State} (hf : s₀.Follows s) (v : Word) (m : Word) : s₀.Follows
    (State.writeScribeCtrl s v m) := by
  unfold State.writeScribeCtrl
  repeat' first
    | with_reducible assumption | (intro _) | with_reducible apply State.plain_follows
    | with_reducible apply State.startPeriod_follows | with_reducible apply State.Follows.ite | split | dsimp only

theorem State.roundWidth_follows {s₀ s : State} (hf : s₀.Follows s) (F : Fld) (h : Nat) : s₀.Follows (State.roundWidth
    s F h) := by
  unfold State.roundWidth
  repeat' first
    | with_reducible assumption | (intro _) | with_reducible apply State.put_follows
    | with_reducible apply State.Follows.ite | split | dsimp only

theorem State.writeReg_follows {s₀ s : State} (hf : s₀.Follows s) (a : Agent) (k : RegKind) (i : Nat) (v : Word) (m :
    Word) : s₀.Follows (State.writeReg s a k i v m) := by
  unfold State.writeReg
  repeat' first
    | with_reducible assumption | (intro _) | with_reducible apply State.writeTxnCtrl_follows
    | with_reducible apply State.queueCmd_follows | with_reducible apply State.writeRing_follows
    | with_reducible apply State.writeMbCtrl_follows | with_reducible apply State.writeMbData_follows
    | with_reducible apply State.writeClass_follows | with_reducible apply State.clearDetail_follows
    | with_reducible apply State.release_follows | with_reducible apply State.plain_follows
    | with_reducible apply State.takeAlive_follows | with_reducible apply State.writeTest_follows
    | with_reducible apply State.writeJpCtrl_follows | with_reducible apply State.resetBay_follows
    | with_reducible apply State.writePegCmd_follows | with_reducible apply State.put_follows
    | with_reducible apply State.compactAsked_follows | with_reducible apply State.sendLtr_follows
    | with_reducible apply State.takeSteering_follows | with_reducible apply State.roundWidth_follows
    | with_reducible apply State.writeScribeCtrl_follows | with_reducible apply State.writeScribeCmd_follows
    | with_reducible apply State.Follows.ite | split | dsimp only

theorem State.writeTgt_follows {s₀ s : State} (hf : s₀.Follows s) (a : Agent) (v : Word) (m : Word) (t : Tgt) :
    s₀.Follows (State.writeTgt s a v m t) := by
  unfold State.writeTgt
  repeat' first
    | with_reducible assumption | (intro _) | with_reducible apply State.writeReg_follows
    | with_reducible apply State.presetCtr_follows | with_reducible apply State.Follows.ite | split | dsimp only

theorem State.writeUnit_follows {s₀ s : State} (hf : s₀.Follows s) (a : Agent) (o : Nat) (v : Word) (m : Word) :
    s₀.Follows (State.writeUnit s a o v m) := by
  unfold State.writeUnit
  repeat' first
    | with_reducible assumption | (intro _) | with_reducible apply State.Follows.foldl
    | with_reducible apply State.deny_follows | with_reducible apply State.writeTgt_follows
    | with_reducible apply State.retWrite_follows | with_reducible apply State.Follows.ite | split | dsimp only

theorem State.unitBytes_follows {s₀ s : State} (hf : s₀.Follows s) (v : Word) (off : Nat) (n : Nat) (be : Nat) (zero :
    Bool) : s₀.Follows (State.unitBytes s v off n be zero).2 := by
  unfold State.unitBytes
  repeat' first
    | with_reducible assumption | (intro _) | with_reducible apply State.freeBytes_follows
    | with_reducible refine State.Follows.pair (by assumption) ?_ | with_reducible apply State.Follows.ite | split
    | dsimp only

theorem State.collect_follows {s₀ s : State} (hf : s₀.Follows s) (f : Nat) (reqTag : Nat) (off : Nat) (bs : List Byte)
    (last : Bool) : s₀.Follows (State.collect s f reqTag off bs last) := by
  unfold State.collect
  repeat' first
    | with_reducible assumption | (intro _) | with_reducible apply State.emitTlp_follows
    | with_reducible apply State.modHost_follows | with_reducible apply State.Follows.ite | split | dsimp only

theorem State.perform_follows {s₀ s : State} (hf : s₀.Follows s) (x : RingAccess) : s₀.Follows (State.perform s x) :=
    by
  unfold State.perform
  repeat' first
    | with_reducible assumption | (intro _) | with_reducible apply State.readUnit_follows
    | with_reducible apply State.unitBytes_follows | with_reducible apply State.emit_follows
    | with_reducible apply State.collect_follows | with_reducible apply State.writeUnit_follows
    | with_reducible apply State.writeReg_follows | with_reducible apply State.deny_follows
    | with_reducible refine State.Follows.pair (by assumption) ?_ | with_reducible apply State.Follows.ite | split
    | dsimp only

theorem State.submit_follows {s₀ s : State} (hf : s₀.Follows s) (x : RingAccess) : s₀.Follows (State.submit s x) := by
  unfold State.submit
  repeat' first
    | with_reducible assumption | (intro _) | with_reducible apply State.wakeRegion_follows
    | with_reducible apply State.perform_follows | with_reducible apply State.Follows.ite | split | dsimp only
  all_goals with_reducible apply State.Follows.other
  repeat' first
    | with_reducible assumption | (intro _) | with_reducible apply State.wakeRegion_follows
    | with_reducible apply State.perform_follows | with_reducible apply State.Follows.ite | split | dsimp only

theorem State.runRing_follows {s₀ s : State} (hf : s₀.Follows s) : s₀.Follows (State.runRing s) := by
  unfold State.runRing
  repeat' first
    | with_reducible assumption | (intro _) | with_reducible apply State.Follows.each
    | with_reducible apply State.submit_follows | with_reducible apply State.Follows.ite | split | dsimp only
  all_goals with_reducible apply State.Follows.other
  repeat' first
    | with_reducible assumption | (intro _) | with_reducible apply State.Follows.each
    | with_reducible apply State.submit_follows | with_reducible apply State.Follows.ite | split | dsimp only

theorem State.arrive_follows {s₀ s : State} (hf : s₀.Follows s) (x1 : Agent) : s₀.Follows (State.arrive s x1) := by
  unfold State.arrive
  repeat' first
    | with_reducible assumption | (intro _) | with_reducible apply State.leaveL1_follows
    | with_reducible apply State.Follows.ite | split | dsimp only

theorem State.readUr_follows {s₀ s : State} (hf : s₀.Follows s) (a : Agent) (reqTag : Nat) (off : Nat) (n : Nat) :
    s₀.Follows (State.readUr s a reqTag off n) := by
  unfold State.readUr
  repeat' first
    | with_reducible assumption | (intro _) | with_reducible apply State.arrive_follows
    | with_reducible apply State.answerUr_follows | with_reducible apply State.Follows.ite | split | dsimp only

theorem State.regRead_follows {s₀ s : State} (hf : s₀.Follows s) (a : Agent) (off : Nat) (dws : Nat) (firstBe : Nat)
    (lastBe : Nat) (reqTag : Nat) : s₀.Follows (State.regRead s a off dws firstBe lastBe reqTag) := by
  unfold State.regRead
  repeat' first
    | with_reducible assumption | (intro _) | with_reducible apply State.readUr_follows
    | with_reducible apply State.arrive_follows | with_reducible apply State.Follows.each
    | with_reducible apply State.submit_follows | with_reducible apply State.Follows.ite | split | dsimp only

theorem State.regWrite_follows {s₀ s : State} (hf : s₀.Follows s) (a : Agent) (off : Nat) (bs : WriteBytes) :
    s₀.Follows (State.regWrite s a off bs) := by
  unfold State.regWrite
  repeat' first
    | with_reducible assumption | (intro _) | with_reducible apply State.arrive_follows
    | with_reducible apply State.dropUr_follows | with_reducible apply State.Follows.each
    | with_reducible apply State.submit_follows | with_reducible apply State.Follows.ite | split | dsimp only

theorem State.writeAs_follows {s₀ s : State} (hf : s₀.Follows s) (a : Agent) (k : RegKind) (i : Nat) (v : Word) (m :
    Word) : s₀.Follows (State.writeAs s a k i v m) := by
  unfold State.writeAs
  repeat' first
    | with_reducible assumption | (intro _) | with_reducible apply State.arrive_follows
    | with_reducible apply State.dropUr_follows | with_reducible apply State.submit_follows
    | with_reducible apply State.Follows.ite | split | dsimp only

theorem State.writeField_follows {s₀ s : State} (hf : s₀.Follows s) (a : Agent) (F : Fld) (i : Nat) (v : Nat) :
    s₀.Follows (State.writeField s a F i v) := by
  unfold State.writeField
  repeat' first
    | with_reducible assumption | (intro _) | with_reducible apply State.writeAs_follows
    | with_reducible apply State.Follows.ite | split | dsimp only

theorem State.regCommand_follows {s₀ s : State} {act : Nat → List Byte → State → State} (hf : s₀.Follows s) (hact : ∀
    a b t, s₀.Follows t → s₀.Follows (act a b t)) (c : Caller) (op : Nat) (len : Nat) : s₀.Follows (State.regCommand s
    c op len act) := by
  unfold State.regCommand
  repeat' first
    | with_reducible assumption | (intro _) | with_reducible apply State.answer_follows
    | with_reducible apply State.Follows.ite | with_reducible apply hact | split | dsimp only

theorem State.mctpRegRead_follows {s₀ s : State} (hf : s₀.Follows s) (c : Caller) : s₀.Follows (State.mctpRegRead s c)
    := by
  unfold State.mctpRegRead
  repeat' first
    | with_reducible assumption | (intro _) | with_reducible apply State.regCommand_follows
    | with_reducible apply State.submit_follows | with_reducible apply State.Follows.ite | split | dsimp only

theorem State.mctpRegWrite_follows {s₀ s : State} (hf : s₀.Follows s) (c : Caller) : s₀.Follows (State.mctpRegWrite s
    c) := by
  unfold State.mctpRegWrite
  repeat' first
    | with_reducible assumption | (intro _) | with_reducible apply State.regCommand_follows
    | with_reducible apply State.submit_follows | with_reducible apply State.Follows.ite | split | dsimp only

theorem State.startBay_follows {s₀ s : State} (hf : s₀.Follows s) (b : Nat) : s₀.Follows (State.startBay s b) := by
  unfold State.startBay
  repeat' first
    | with_reducible assumption | (intro _) | with_reducible apply State.pllFails_follows
    | with_reducible apply State.bump_follows | with_reducible apply State.setBayState_follows
    | with_reducible apply State.bayRunning_follows | with_reducible refine State.Follows.pair (by assumption) ?_
    | with_reducible apply State.Follows.ite | split | dsimp only
  all_goals with_reducible apply State.Follows.other
  repeat' first
    | with_reducible assumption | (intro _) | with_reducible apply State.pllFails_follows
    | with_reducible apply State.bump_follows | with_reducible apply State.setBayState_follows
    | with_reducible apply State.bayRunning_follows | with_reducible refine State.Follows.pair (by assumption) ?_
    | with_reducible apply State.Follows.ite | split | dsimp only

theorem State.unmask_follows {s₀ s : State} (hf : s₀.Follows s) : s₀.Follows (State.unmask s) := by
  unfold State.unmask
  repeat' first
    | with_reducible assumption | (intro _) | with_reducible apply State.Follows.each
    | with_reducible apply State.drainWrites_follows | with_reducible apply State.pump_follows
    | with_reducible apply State.runEngines_follows | with_reducible apply State.retryEntries_follows
    | with_reducible apply State.Follows.ite | split | dsimp only

theorem State.regionsRun_follows {s₀ s : State} (hf : s₀.Follows s) : s₀.Follows (State.regionsRun s) := by
  unfold State.regionsRun
  repeat' first
    | with_reducible assumption | (intro _) | with_reducible apply State.runRing_follows
    | with_reducible apply State.nextCommits_follows | with_reducible apply State.unmask_follows
    | with_reducible apply State.restBays_follows | with_reducible apply State.Follows.ite | split | dsimp only

theorem State.wakeComplete_follows {s₀ s : State} (hf : s₀.Follows s) (r : Nat) : s₀.Follows (State.wakeComplete s r)
    := by
  unfold State.wakeComplete
  repeat' first
    | with_reducible assumption | (intro _) | with_reducible apply State.startBay_follows
    | with_reducible apply State.setRegion_follows | with_reducible apply State.regionsRun_follows
    | with_reducible apply State.Follows.ite | split | dsimp only
  all_goals with_reducible apply State.Follows.other
  repeat' first
    | with_reducible assumption | (intro _) | with_reducible apply State.startBay_follows
    | with_reducible apply State.setRegion_follows | with_reducible apply State.regionsRun_follows
    | with_reducible apply State.Follows.ite | split | dsimp only

theorem State.gateIdle_follows {s₀ s : State} (hf : s₀.Follows s) (r : Nat) : s₀.Follows (State.gateIdle s r) := by
  unfold State.gateIdle
  repeat' first
    | with_reducible assumption | (intro _) | with_reducible apply State.setRegion_follows
    | with_reducible apply State.Follows.ite | split | dsimp only

theorem State.modResetLow_follows {s₀ s : State} (hf : s₀.Follows s) (n : Nat) (slot : Nat) : s₀.Follows
    (State.modResetLow s n slot) := by
  unfold State.modResetLow
  repeat' first
    | with_reducible assumption | (intro _) | with_reducible apply State.holdReset_follows
    | with_reducible apply State.freeWord_follows | with_reducible refine State.Follows.pair (by assumption) ?_
    | with_reducible apply State.Follows.ite | split | dsimp only

theorem State.standbyLow_follows {s₀ s : State} (hf : s₀.Follows s) (n : Nat) : s₀.Follows (State.standbyLow s n) :=
    by
  unfold State.standbyLow
  repeat' first
    | with_reducible assumption | (intro _) | with_reducible apply State.enterStandby_follows
    | with_reducible apply State.Follows.ite | split | dsimp only

theorem State.standbyHigh_follows {s₀ s : State} (hf : s₀.Follows s) (n : Nat) : s₀.Follows (State.standbyHigh s n) :=
    by
  unfold State.standbyHigh
  repeat' first
    | with_reducible assumption | (intro _) | with_reducible apply State.leaveStandby_follows
    | with_reducible apply State.Follows.ite | split | dsimp only

theorem State.perstAssert_follows {s₀ s : State} (hf : s₀.Follows s) (h : Nat) : s₀.Follows (State.perstAssert s h) :=
    by
  unfold State.perstAssert
  repeat' first
    | with_reducible assumption | (intro _) | with_reducible apply State.perstLow_follows
    | with_reducible apply State.endScope_follows | with_reducible apply State.Follows.ite | split | dsimp only

theorem State.cable_follows {s₀ s : State} (hf : s₀.Follows s) (h : Nat) (here : Bool) : s₀.Follows (State.cable s h
    here) := by
  unfold State.cable
  repeat' first
    | with_reducible assumption | (intro _) | with_reducible apply State.cableChange_follows
    | with_reducible apply State.endScope_follows | with_reducible apply State.Follows.ite | split | dsimp only

theorem State.flrScope_follows {s₀ s : State} (hf : s₀.Follows s) (s0 : State) (f : Nat) : s₀.Follows (State.flrScope
    s0 s f) := by
  unfold State.flrScope
  repeat' first
    | with_reducible assumption | (intro _) | with_reducible apply State.endScope_follows
    | with_reducible apply State.Follows.ite | split | dsimp only

theorem State.byConfig_follows {s₀ s : State} {g : State → State} (hf : s₀.Follows s) (hg : ∀ t, s₀.Follows t →
    s₀.Follows (g t)) (f : Nat) : s₀.Follows (State.byConfig s f g) := by
  unfold State.byConfig
  repeat' first
    | with_reducible assumption | (intro _) | with_reducible apply State.leaveL1_follows
    | with_reducible apply State.wakeRegion_follows | with_reducible apply State.Follows.ite | with_reducible apply hg
    | split | dsimp only

theorem State.flr_follows {s₀ s : State} (hf : s₀.Follows s) (f : Nat) : s₀.Follows (State.flr s f) := by
  unfold State.flr
  repeat' first
    | with_reducible assumption | (intro _) | with_reducible apply State.flrScope_follows
    | with_reducible apply State.startFlr_follows | with_reducible apply State.Follows.ite | split | dsimp only

theorem State.configWriteAll_follows {s₀ s : State} (hf : s₀.Follows s) (h : Nat) (n : Nat) (dw : Nat) (data : Dword)
    (be : Nat) (busDev : Nat) : s₀.Follows (State.configWriteAll s h n dw data be busDev) := by
  unfold State.configWriteAll
  repeat' first
    | with_reducible assumption | (intro _) | with_reducible apply State.flrScope_follows
    | with_reducible apply State.configWrite_follows | with_reducible apply State.Follows.ite | split | dsimp only

theorem State.retryHeld_follows {s₀ s : State} (hf : s₀.Follows s) : s₀.Follows (State.retryHeld s) := by
  unfold State.retryHeld
  repeat' first
    | with_reducible assumption | (intro _) | with_reducible apply State.Follows.each
    | with_reducible apply State.flrScope_follows | with_reducible apply State.retryFlr_follows
    | with_reducible apply State.clearVfe_follows | with_reducible apply State.Follows.ite | split | dsimp only

theorem State.whenUp_follows {s₀ s : State} {g : State → State} (hf : s₀.Follows s) (hg : ∀ t, s₀.Follows t →
    s₀.Follows (g t)) : s₀.Follows (State.whenUp s g) := by
  unfold State.whenUp
  repeat' first
    | with_reducible assumption | (intro _) | with_reducible apply State.Follows.ite | with_reducible apply hg | split
    | dsimp only

theorem State.tick_follows {s₀ s : State} (hf : s₀.Follows s) : s₀.Follows (State.tick s) := by
  unfold State.tick
  repeat' first
    | with_reducible assumption | (intro _) | with_reducible apply State.advance_follows
    | with_reducible apply State.Follows.ite | split | dsimp only

theorem State.writeEntryDword_follows {s₀ s : State} (hf : s₀.Follows s) (f : Nat) (e : Nat) (j : Nat) (v : Dword) (m
    : Dword) : s₀.Follows (State.writeEntryDword s f e j v m) := by
  unfold State.writeEntryDword
  repeat' first
    | with_reducible assumption | (intro _) | with_reducible apply State.setMsix_follows
    | with_reducible apply State.Follows.ite | split | dsimp only

theorem State.writeTable_follows {s₀ s : State} (hf : s₀.Follows s) (f : Nat) (off : Nat) (bs : WriteBytes) :
    s₀.Follows (State.writeTable s f off bs) := by
  unfold State.writeTable
  repeat' first
    | with_reducible assumption | (intro _) | with_reducible apply State.leaveL1_follows
    | with_reducible apply State.dropUr_follows | with_reducible apply State.wakeRegion_follows
    | with_reducible apply State.Follows.each | with_reducible apply State.writeEntryDword_follows
    | with_reducible apply State.freeHeld_follows | with_reducible apply State.Follows.ite | split | dsimp only

theorem State.bar2Read_follows {s₀ s : State} (hf : s₀.Follows s) (f : FnId) (off : Nat) (dws : Nat) (firstBe : Nat)
    (lastBe : Nat) (reqTag : Nat) : s₀.Follows (State.bar2Read s f off dws firstBe lastBe reqTag) := by
  unfold State.bar2Read
  repeat' first
    | with_reducible assumption | (intro _) | with_reducible apply State.leaveL1_follows
    | with_reducible apply State.answerUr_follows | with_reducible apply State.wakeRegion_follows
    | with_reducible apply State.submit_follows | with_reducible apply State.freeBytes_follows
    | with_reducible apply State.Follows.each | with_reducible apply State.emitTlp_follows
    | with_reducible refine State.Follows.pair (by assumption) ?_ | with_reducible apply State.Follows.ite | split
    | dsimp only

end Sys2Proof.Machine
end

