-- ==== Sys2Proof/Laws/WithinFaults.lean ====
section
/-! SUPPORT. What the operations of counters of faults, the history, lanes, arbitration, host egress and interrupts leave alone
(State.Within): one lemma per operation. -/

namespace Sys2Proof.Machine

set_option linter.all false
set_option Elab.async false

theorem State.cfgPut_within {μ : Nat} {s₀ s : State} (hf : State.Within μ s₀ s) (f : Nat) (o : Nat) (lo : Nat) (len :
    Nat) (v : Nat) (hm : 0x800000000000000000000000000000000000000000 ||| μ = μ) : State.Within μ s₀ (State.cfgPut s f
    o lo len v) := by
  unfold State.cfgPut
  repeat' first
    | with_reducible assumption | (intro _) | with_reducible apply State.setCfg_within
    | with_reducible apply State.Within.ite | exact maskSub rfl hm | split | dsimp only

theorem State.modHost_within {μ : Nat} {s₀ s : State} (hf : State.Within μ s₀ s) (h : Nat) (g : HostDyn → HostDyn) (hm
    : 0x40000000000000000000000000000000000000000000 ||| μ = μ) : State.Within μ s₀ (State.modHost s h g) := by
  unfold State.modHost
  repeat' first
    | with_reducible assumption | (intro _) | with_reducible apply State.setHost_within
    | with_reducible apply State.Within.ite | exact maskSub rfl hm | split | dsimp only

theorem State.modFunc_within {μ : Nat} {s₀ s : State} (hf : State.Within μ s₀ s) (f : Nat) (g : FnDyn → FnDyn) (hm :
    0x80000000000000000000000000000000000000000000 ||| μ = μ) : State.Within μ s₀ (State.modFunc s f g) := by
  unfold State.modFunc
  repeat' first
    | with_reducible assumption | (intro _) | with_reducible apply State.setFunc_within
    | with_reducible apply State.Within.ite | exact maskSub rfl hm | split | dsimp only

theorem State.modTxn_within {μ : Nat} {s₀ s : State} (hf : State.Within μ s₀ s) (c : Nat) (g : TxnDyn → TxnDyn) (hm :
    0x100000000000000000000000000000000000000000000 ||| μ = μ) : State.Within μ s₀ (State.modTxn s c g) := by
  unfold State.modTxn
  repeat' first
    | with_reducible assumption | (intro _) | with_reducible apply State.setTxn_within
    | with_reducible apply State.Within.ite | exact maskSub rfl hm | split | dsimp only

theorem State.modPort_within {μ : Nat} {s₀ s : State} (hf : State.Within μ s₀ s) (p : Nat) (g : PortDyn → PortDyn) (hm
    : 0x400000000000000000000000000000000000000000000 ||| μ = μ) : State.Within μ s₀ (State.modPort s p g) := by
  unfold State.modPort
  repeat' first
    | with_reducible assumption | (intro _) | with_reducible apply State.setPort_within
    | with_reducible apply State.Within.ite | exact maskSub rfl hm | split | dsimp only

theorem State.modLane_within {μ : Nat} {s₀ s : State} (hf : State.Within μ s₀ s) (l : Nat) (g : LaneDyn → LaneDyn) (hm
    : 0x800000000000000000000000000000000000000000000 ||| μ = μ) : State.Within μ s₀ (State.modLane s l g) := by
  unfold State.modLane
  repeat' first
    | with_reducible assumption | (intro _) | with_reducible apply State.setLane_within
    | with_reducible apply State.Within.ite | exact maskSub rfl hm | split | dsimp only

theorem State.modQueue_within {μ : Nat} {s₀ s : State} (hf : State.Within μ s₀ s) (q : Nat) (g : QDyn → QDyn) (hm :
    0x1000000000000000000000000000000000000000000000 ||| μ = μ) : State.Within μ s₀ (State.modQueue s q g) := by
  unfold State.modQueue
  repeat' first
    | with_reducible assumption | (intro _) | with_reducible apply State.setQueue_within
    | with_reducible apply State.Within.ite | exact maskSub rfl hm | split | dsimp only

theorem State.modEng_within {μ : Nat} {s₀ s : State} (hf : State.Within μ s₀ s) (e : Nat) (g : EngDyn → EngDyn) (hm :
    0x2000000000000000000000000000000000000000000000 ||| μ = μ) : State.Within μ s₀ (State.modEng s e g) := by
  unfold State.modEng
  repeat' first
    | with_reducible assumption | (intro _) | with_reducible apply State.setEng_within
    | with_reducible apply State.Within.ite | exact maskSub rfl hm | split | dsimp only

theorem State.modPeg_within {μ : Nat} {s₀ s : State} (hf : State.Within μ s₀ s) (i : Nat) (g : PegDyn → PegDyn) (hm :
    0x4000000000000000000000000000000000000000000000 ||| μ = μ) : State.Within μ s₀ (State.modPeg s i g) := by
  unfold State.modPeg
  repeat' first
    | with_reducible assumption | (intro _) | with_reducible apply State.setPeg_within
    | with_reducible apply State.Within.ite | exact maskSub rfl hm | split | dsimp only

theorem State.bumpBy_within {μ : Nat} {s₀ s : State} (hf : State.Within μ s₀ s) (o : Nat) (n : Nat) (hm :
    0x100000000000000000000000000000000000000000 ||| μ = μ) : State.Within μ s₀ (State.bumpBy s o n) := by
  unfold State.bumpBy
  repeat' first
    | with_reducible assumption | (intro _) | with_reducible apply State.setCtr_within
    | with_reducible apply State.Within.ite | exact maskSub rfl hm | split | dsimp only

theorem State.bump_within {μ : Nat} {s₀ s : State} (hf : State.Within μ s₀ s) (o : Nat) (hm :
    0x100000000000000000000000000000000000000000 ||| μ = μ) : State.Within μ s₀ (State.bump s o) := by
  unfold State.bump
  repeat' first
    | with_reducible assumption | (intro _) | with_reducible apply State.bumpBy_within
    | with_reducible apply State.Within.ite | exact maskSub rfl hm | split | dsimp only

theorem State.armOnce_within {μ : Nat} {s₀ s : State} (hf : State.Within μ s₀ s) (t : Timer) (dt : Nat) (hm :
    0x8000000000000000000000000000000000000000000 ||| μ = μ) : State.Within μ s₀ (State.armOnce s t dt) := by
  unfold State.armOnce
  repeat' first
    | with_reducible assumption | (intro _) | with_reducible apply State.arm_within
    | with_reducible apply State.Within.ite | exact maskSub rfl hm | split | dsimp only

theorem State.expire_within {μ : Nat} {s₀ s : State} (hf : State.Within μ s₀ s) (t : Timer) (hm :
    0x280c0000000000000000000000000000000000000000 ||| μ = μ) : State.Within μ s₀ (State.expire s t) := by
  unfold State.expire
  repeat' first
    | with_reducible assumption | (intro _) | with_reducible apply State.disarm_within
    | with_reducible apply State.advance_within | with_reducible apply State.Within.ite | exact maskSub rfl hm | split
    | dsimp only

theorem State.onExpiry_within {μ : Nat} {s₀ s : State} {g : State → State} (hf : State.Within μ s₀ s) (hg : ∀ t,
    State.Within μ s₀ t → State.Within μ s₀ (g t)) (t : Timer) (hm : 0x280c0000000000000000000000000000000000000000
    ||| μ = μ) : State.Within μ s₀ (State.onExpiry s t g) := by
  unfold State.onExpiry
  repeat' first
    | with_reducible assumption | (intro _) | with_reducible apply State.expire_within
    | with_reducible apply State.Within.ite | with_reducible apply hg | exact maskSub rfl hm | split | dsimp only

theorem State.setBayState_within {μ : Nat} {s₀ s : State} (hf : State.Within μ s₀ s) (b : Nat) (v : Nat) (hm :
    0x10000000000000000000006000 ||| μ = μ) : State.Within μ s₀ (State.setBayState s b v) := by
  unfold State.setBayState
  repeat' first
    | with_reducible assumption | (intro _) | with_reducible apply State.setWord_within
    | with_reducible apply State.put_within | with_reducible apply State.flag_within
    | with_reducible apply State.Within.ite | exact maskSub rfl hm | split | dsimp only

theorem State.setEgState_within {μ : Nat} {s₀ s : State} (hf : State.Within μ s₀ s) (g : Nat) (v : Nat) (hm : 0x1000
    ||| μ = μ) : State.Within μ s₀ (State.setEgState s g v) := by
  unfold State.setEgState
  repeat' first
    | with_reducible assumption | (intro _) | with_reducible apply State.setWord_within
    | with_reducible apply State.Within.ite | exact maskSub rfl hm | split | dsimp only

theorem State.setTsState_within {μ : Nat} {s₀ s : State} (hf : State.Within μ s₀ s) (t : Nat) (v : Nat) (hm : 0x800
    ||| μ = μ) : State.Within μ s₀ (State.setTsState s t v) := by
  unfold State.setTsState
  repeat' first
    | with_reducible assumption | (intro _) | with_reducible apply State.setWord_within
    | with_reducible apply State.Within.ite | exact maskSub rfl hm | split | dsimp only

theorem State.setHcrState_within {μ : Nat} {s₀ s : State} (hf : State.Within μ s₀ s) (h : Nat) (v : Nat) (hm : 0x800
    ||| μ = μ) : State.Within μ s₀ (State.setHcrState s h v) := by
  unfold State.setHcrState
  repeat' first
    | with_reducible assumption | (intro _) | with_reducible apply State.setWord_within
    | with_reducible apply State.Within.ite | exact maskSub rfl hm | split | dsimp only

theorem State.setHmdState_within {μ : Nat} {s₀ s : State} (hf : State.Within μ s₀ s) (h : Nat) (v : Nat) (hm : 0x800
    ||| μ = μ) : State.Within μ s₀ (State.setHmdState s h v) := by
  unfold State.setHmdState
  repeat' first
    | with_reducible assumption | (intro _) | with_reducible apply State.setWord_within
    | with_reducible apply State.Within.ite | exact maskSub rfl hm | split | dsimp only

theorem State.setRegion_within {μ : Nat} {s₀ s : State} (hf : State.Within μ s₀ s) (r : Nat) (v : Nat) (hm :
    0x10000000000000000000007800 ||| μ = μ) : State.Within μ s₀ (State.setRegion s r v) := by
  unfold State.setRegion
  repeat' first
    | with_reducible assumption | (intro _) | with_reducible apply State.setBayState_within
    | with_reducible apply State.setEgState_within | with_reducible apply State.setTsState_within
    | with_reducible apply State.put_within | with_reducible apply State.setHcrState_within
    | with_reducible apply State.setHmdState_within | with_reducible apply State.Within.ite | exact maskSub rfl hm
    | split | dsimp only

theorem State.keepAwake_within {μ : Nat} {s₀ s : State} (hf : State.Within μ s₀ s) (r : Nat) (hm :
    0x40000000000000000000000000000000000000000000000 ||| μ = μ) : State.Within μ s₀ (State.keepAwake s r) := by
  unfold State.keepAwake
  repeat' first
    | with_reducible assumption | (intro _) | with_reducible apply State.modPlumb_within
    | with_reducible apply State.Within.ite | exact maskSub rfl hm | split | dsimp only

theorem State.wakeRegion_within {μ : Nat} {s₀ s : State} (hf : State.Within μ s₀ s) (r : Nat) (hm :
    0x1040000000000000000000010000000000000000000007800 ||| μ = μ) : State.Within μ s₀ (State.wakeRegion s r) := by
  unfold State.wakeRegion
  repeat' first
    | with_reducible assumption | (intro _) | with_reducible apply State.keepAwake_within
    | with_reducible apply State.setRegion_within | with_reducible apply State.Within.ite | exact maskSub rfl hm
    | split | dsimp only
  all_goals with_reducible apply State.Within.other
  all_goals first | exact Or.inl rfl | exact Or.inl ⟨rfl, rfl⟩ | exact Or.inl ⟨rfl, rfl, rfl⟩ | exact Or.inr (maskSub rfl hm) | skip
  repeat' first
    | with_reducible assumption | (intro _) | with_reducible apply State.keepAwake_within
    | with_reducible apply State.setRegion_within | with_reducible apply State.Within.ite | exact maskSub rfl hm
    | split | dsimp only

theorem State.zeroCtrs_within {μ : Nat} {s₀ s : State} (hf : State.Within μ s₀ s) (r : Nat) (hm
    : 0x100000000000000000000000000000000000000000 ||| μ = μ) :
    State.Within μ s₀ (State.zeroCtrs s r) := by
  unfold State.zeroCtrs
  exact hf.trans ⟨fun _ _ _ => rfl, fun a ha => by
    cases a <;> first
      | rfl | exact ⟨rfl, rfl⟩ | exact ⟨rfl, rfl, rfl, rfl⟩ | exact ⟨rfl, rfl, rfl⟩
      | (rw [testBit_of_mask (maskSub rfl hm)] at ha; cases ha)⟩

theorem State.resetPlain_within {μ : Nat} {s₀ s : State} (hf : State.Within μ s₀ s) (k : RegKind) (idx : Nat) (hk
    : k.bit ||| μ = μ) :
    State.Within μ s₀ (State.resetPlain s k idx) := by
  unfold State.resetPlain
  repeat' first
    | with_reducible assumption | (intro _) | with_reducible apply State.setWord_within
    | with_reducible apply State.Within.ite | exact maskSub rfl hm | split | dsimp only

theorem State.emitMsg_within {μ : Nat} {s₀ s : State} (hf : State.Within μ s₀ s) (h : Nat) (m : HostMsg) (hm :
    0x80000000000000000000000000000000000000000000000000 ||| μ = μ) : State.Within μ s₀ (State.emitMsg s h m) := by
  unfold State.emitMsg
  repeat' first
    | with_reducible assumption | (intro _) | with_reducible apply State.emit_within
    | with_reducible apply State.Within.ite | exact maskSub rfl hm | split | dsimp only

theorem State.errMessage_within {μ : Nat} {s₀ s : State} (hf : State.Within μ s₀ s) (f : Nat) (m : HostMsg) (hm :
    0x80000000000000000000000000000000000000000000000000 ||| μ = μ) : State.Within μ s₀ (State.errMessage s f m) := by
  unfold State.errMessage
  repeat' first
    | with_reducible assumption | (intro _) | with_reducible apply State.emitMsg_within
    | with_reducible apply State.Within.ite | exact maskSub rfl hm | split | dsimp only

theorem State.setStatus_within {μ : Nat} {s₀ s : State} (hf : State.Within μ s₀ s) (f : Nat) (b : Nat) (hm :
    0x800000000000000000000000000000000000000000 ||| μ = μ) : State.Within μ s₀ (State.setStatus s f b) := by
  unfold State.setStatus
  repeat' first
    | with_reducible assumption | (intro _) | with_reducible apply State.cfgPut_within
    | with_reducible apply State.Within.ite | exact maskSub rfl hm | split | dsimp only

theorem State.sysError_within {μ : Nat} {s₀ s : State} (hf : State.Within μ s₀ s) (f : Nat) (m : HostMsg) (hm :
    0x80000000800000000000000000000000000000000000000000 ||| μ = μ) : State.Within μ s₀ (State.sysError s f m) := by
  unfold State.sysError
  repeat' first
    | with_reducible assumption | (intro _) | with_reducible apply State.setStatus_within
    | with_reducible apply State.errMessage_within | with_reducible apply State.Within.ite | exact maskSub rfl hm
    | split | dsimp only

theorem State.aerUnc_within {μ : Nat} {s₀ s : State} (hf : State.Within μ s₀ s) (f : Nat) (b : Nat) (hdr : Option
    (List Dword)) (ur : Bool) (hm : 0x80000000800000000000000000000000000000000000000000 ||| μ = μ) : State.Within μ
    s₀ (State.aerUnc s f b hdr ur) := by
  unfold State.aerUnc
  repeat' first
    | with_reducible assumption | (intro _) | with_reducible apply State.cfgPut_within
    | with_reducible apply State.Within.each | with_reducible apply State.setCfg_within
    | with_reducible apply State.sysError_within | with_reducible apply State.Within.ite | exact maskSub rfl hm
    | split | dsimp only

theorem State.aerCor_within {μ : Nat} {s₀ s : State} (hf : State.Within μ s₀ s) (f : Nat) (b : Nat) (hm :
    0x80000000800000000000000000000000000000000000000000 ||| μ = μ) : State.Within μ s₀ (State.aerCor s f b) := by
  unfold State.aerCor
  repeat' first
    | with_reducible assumption | (intro _) | with_reducible apply State.cfgPut_within
    | with_reducible apply State.errMessage_within | with_reducible apply State.Within.ite | exact maskSub rfl hm
    | split | dsimp only

theorem State.uie_within {μ : Nat} {s₀ s : State} (hf : State.Within μ s₀ s) (f : Nat) (hm :
    0x80000000800000000000000000000000000000000000000000 ||| μ = μ) : State.Within μ s₀ (State.uie s f) := by
  unfold State.uie
  repeat' first
    | with_reducible assumption | (intro _) | with_reducible apply State.aerUnc_within
    | with_reducible apply State.Within.ite | exact maskSub rfl hm | split | dsimp only

theorem State.cie_within {μ : Nat} {s₀ s : State} (hf : State.Within μ s₀ s) (f : Nat) (hm :
    0x80000000800000000000000000000000000000000000000000 ||| μ = μ) : State.Within μ s₀ (State.cie s f) := by
  unfold State.cie
  repeat' first
    | with_reducible assumption | (intro _) | with_reducible apply State.aerCor_within
    | with_reducible apply State.Within.ite | exact maskSub rfl hm | split | dsimp only

theorem State.reportAer_within {μ : Nat} {s₀ s : State} (hf : State.Within μ s₀ s) (n : Nat) (c : Nat) (kind : Nat)
    (inst : Nat) (halted : List Nat) (severe : Bool) (hm : 0x80000000800000000000000000000000000000000000000000 ||| μ
    = μ) : State.Within μ s₀ (State.reportAer s n c kind inst halted severe) := by
  unfold State.reportAer
  repeat' first
    | with_reducible assumption | (intro _) | with_reducible apply State.uie_within
    | with_reducible apply State.Within.each | with_reducible apply State.cie_within
    | with_reducible apply State.Within.ite | exact maskSub rfl hm | split | dsimp only

theorem State.classify_within {μ : Nat} {s₀ s : State} (hf : State.Within μ s₀ s) (n : Nat) (c : Nat) (inst : Nat) (hm
    : 0x10008000000000000000000000000000000000000000000 ||| μ = μ) : State.Within μ s₀ (State.classify s n c inst).2
    := by
  unfold State.classify
  repeat' first
    | with_reducible assumption | (intro _) | with_reducible apply State.modBrace_within
    | with_reducible apply State.arm_within | with_reducible apply State.Within.ite | exact maskSub rfl hm | split
    | dsimp only

theorem State.forget_within {μ : Nat} {s₀ s : State} (hf : State.Within μ s₀ s) (p : Source → Bool) (hm :
    0x10008000000000000000000000000000000000000000000 ||| μ = μ) : State.Within μ s₀ (State.forget s p) := by
  unfold State.forget
  repeat' first
    | with_reducible assumption | (intro _) | with_reducible apply State.Within.each
    | with_reducible apply State.disarm_within | with_reducible apply State.modBrace_within
    | with_reducible apply State.Within.ite | exact maskSub rfl hm | split | dsimp only

theorem State.mergeHist_within {μ : Nat} {s₀ s : State} (hf : State.Within μ s₀ s) (k : Nat) (hm :
    0x100000000000000000000000000000 ||| μ = μ) : State.Within μ s₀ (State.mergeHist s k) := by
  unfold State.mergeHist
  repeat' first
    | with_reducible assumption | (intro _) | with_reducible apply State.setWord_within
    | with_reducible apply State.Within.ite | exact maskSub rfl hm | split | dsimp only

theorem State.addHist_within {μ : Nat} {s₀ s : State} (hf : State.Within μ s₀ s) (n : Nat) (c : Nat) (cls : Nat) (kind
    : Nat) (inst : Nat) (queued : Bool) (locator : Word) (check : Word) (hm : 0x102000000000000000000000000000 ||| μ =
    μ) : State.Within μ s₀ (State.addHist s n c cls kind inst queued locator check).2 := by
  unfold State.addHist
  repeat' first
    | with_reducible assumption | (intro _) | with_reducible apply State.setWord_within
    | with_reducible apply State.put_within | with_reducible apply State.Within.ite | exact maskSub rfl hm | split
    | dsimp only

theorem State.lightHist_within {μ : Nat} {s₀ s : State} (hf : State.Within μ s₀ s) (n : Nat) (c : Nat) (cls : Nat)
    (kind : Nat) (inst : Nat) (locator : Word) (check : Word) (hm : 0x102000000000000000000000000000 ||| μ = μ) :
    State.Within μ s₀ (State.lightHist s n c cls kind inst locator check) := by
  unfold State.lightHist
  repeat' first
    | with_reducible assumption | (intro _) | with_reducible apply State.mergeHist_within
    | with_reducible apply State.addHist_within | with_reducible refine State.Within.pair (by assumption) ?_
    | with_reducible apply State.Within.ite | exact maskSub rfl hm | split | dsimp only

theorem State.mergeDomain_within {μ : Nat} {s₀ s : State} (hf : State.Within μ s₀ s) (d : Nat) (severe : Bool) (hm :
    0x140000000000000000000000000000 ||| μ = μ) : State.Within μ s₀ (State.mergeDomain s d severe) := by
  unfold State.mergeDomain
  repeat' first
    | with_reducible assumption | (intro _) | with_reducible apply State.mergeHist_within
    | with_reducible apply State.put_within | with_reducible apply State.flag_within
    | with_reducible apply State.Within.ite | exact maskSub rfl hm | split | dsimp only

theorem State.enqueueDomain_within {μ : Nat} {s₀ s : State} (hf : State.Within μ s₀ s) (d : Nat) (k : Nat) (seq : Nat)
    (severe : Bool) (hm : 0x10000000000000000140000000000000000000000000000 ||| μ = μ) : State.Within μ s₀
    (State.enqueueDomain s d k seq severe) := by
  unfold State.enqueueDomain
  repeat' first
    | with_reducible assumption | (intro _) | with_reducible apply State.Within.each
    | with_reducible apply State.setWord_within | with_reducible apply State.put_within
    | with_reducible apply State.flag_within | with_reducible apply State.modBrace_within
    | with_reducible apply State.Within.ite | exact maskSub rfl hm | split | dsimp only

theorem State.setDetail_within {μ : Nat} {s₀ s : State} (hf : State.Within μ s₀ s) (n : Nat) (c : Nat) (severe : Bool)
    (hm : 0x30000000000000000000000000000 ||| μ = μ) : State.Within μ s₀ (State.setDetail s n c severe) := by
  unfold State.setDetail
  repeat' first
    | with_reducible assumption | (intro _) | with_reducible apply State.put_within
    | with_reducible apply State.Within.ite | exact maskSub rfl hm | split | dsimp only

theorem State.heavy_within {μ : Nat} {s₀ s : State} (hf : State.Within μ s₀ s) (n : Nat) (c : Nat) (kind : Nat) (inst
    : Nat) (halted : List Nat) (locator : Word) (check : Word) (severe : Bool) (hm :
    0x80010000800000000000172000000000000000000000000000 ||| μ = μ) : State.Within μ s₀ (State.heavy s n c kind inst
    halted locator check severe) := by
  unfold State.heavy
  repeat' first
    | with_reducible assumption | (intro _) | with_reducible apply State.setDetail_within
    | with_reducible apply State.mergeDomain_within | with_reducible apply State.addHist_within
    | with_reducible apply State.reportAer_within | with_reducible apply State.enqueueDomain_within
    | with_reducible apply State.modBrace_within | with_reducible apply State.put_within
    | with_reducible refine State.Within.pair (by assumption) ?_ | with_reducible apply State.Within.ite
    | exact maskSub rfl hm | split | dsimp only

theorem State.reportIn_within {μ : Nat} {s₀ s : State} (hf : State.Within μ s₀ s) (n : Nat) (c : Nat) (kind : Nat)
    (inst : Nat) (halted : List Nat) (locator : Word) (check : Word) (hm :
    0x81050008900000000000172010000000000000000000007800 ||| μ = μ) : State.Within μ s₀ (State.reportIn s n c kind
    inst halted locator check) := by
  unfold State.reportIn
  repeat' first
    | with_reducible assumption | (intro _) | with_reducible apply State.wakeRegion_within
    | with_reducible apply State.bump_within | with_reducible apply State.lightHist_within
    | with_reducible apply State.heavy_within | with_reducible apply State.classify_within
    | with_reducible refine State.Within.pair (by assumption) ?_ | with_reducible apply State.Within.ite
    | exact maskSub rfl hm | split | dsimp only

theorem State.report_within {μ : Nat} {s₀ s : State} (hf : State.Within μ s₀ s) (n : Nat) (c : Nat) (inst : Nat)
    (locator : Word) (check : Word) (halted : List Nat) (hm : 0x81050008900000000000172010000000000000000000007800 |||
    μ = μ) : State.Within μ s₀ (State.report s n c inst locator check halted) := by
  unfold State.report
  repeat' first
    | with_reducible assumption | (intro _) | with_reducible apply State.reportIn_within
    | with_reducible apply State.Within.ite | exact maskSub rfl hm | split | dsimp only

theorem State.drawSeeds_within {μ : Nat} {s₀ s : State} (hf : State.Within μ s₀ s) (l : Nat) (hm :
    0x40000000000000000000000000000000000000000000000000 ||| μ = μ) : State.Within μ s₀ (State.drawSeeds s l).2 := by
  unfold State.drawSeeds
  repeat' first
    | with_reducible assumption | (intro _) | with_reducible apply State.freeWord_within
    | with_reducible refine State.Within.pair (by assumption) ?_ | with_reducible apply State.Within.ite
    | exact maskSub rfl hm | split | dsimp only

theorem State.sendBits_within {μ : Nat} {s₀ s : State} (hf : State.Within μ s₀ s) (l : Nat) (bits : List Bool) (hm :
    0x800000000000000000000000000000000000000000000 ||| μ = μ) : State.Within μ s₀ (State.sendBits s l bits) := by
  unfold State.sendBits
  repeat' first
    | with_reducible assumption | (intro _) | with_reducible apply State.modLane_within
    | with_reducible apply State.Within.ite | exact maskSub rfl hm | split | dsimp only

theorem State.sendLine_within {μ : Nat} {s₀ s : State} (hf : State.Within μ s₀ s) (l : Nat) (bits : List Bool) (hm :
    0x80000800000000000000000000000000000000000000000000 ||| μ = μ) : State.Within μ s₀ (State.sendLine s l bits) :=
    by
  unfold State.sendLine
  repeat' first
    | with_reducible assumption | (intro _) | with_reducible apply State.sendBits_within
    | with_reducible apply State.emit_within | with_reducible apply State.Within.ite | exact maskSub rfl hm | split
    | dsimp only

theorem State.sendWords_within {μ : Nat} {s₀ s : State} (hf : State.Within μ s₀ s) (l : Nat) (ws : List (BitVec 128))
    (hm : 0x80000800000000000000000000000000000000000000000000 ||| μ = μ) : State.Within μ s₀ (State.sendWords s l ws)
    := by
  unfold State.sendWords
  repeat' first
    | with_reducible assumption | (intro _) | with_reducible apply State.sendLine_within
    | with_reducible apply State.Within.ite | exact maskSub rfl hm | split | dsimp only

theorem State.leaveIdle_within {μ : Nat} {s₀ s : State} (hf : State.Within μ s₀ s) (l : Nat) (hm :
    0x800000000000000000000000000000000000000000000 ||| μ = μ) : State.Within μ s₀ (State.leaveIdle s l) := by
  unfold State.leaveIdle
  repeat' first
    | with_reducible assumption | (intro _) | with_reducible apply State.modLane_within
    | with_reducible apply State.Within.ite | exact maskSub rfl hm | split | dsimp only

theorem State.putMarker_within {μ : Nat} {s₀ s : State} (hf : State.Within μ s₀ s) (l : Nat) (state : Nat) (count :
    Nat) (seed : Nat) (next : Nat) (hm : 0x80000800100000000000000004000000000000000000000000 ||| μ = μ) :
    State.Within μ s₀ (State.putMarker s l state count seed next) := by
  unfold State.putMarker
  repeat' first
    | with_reducible assumption | (intro _) | with_reducible apply State.bump_within
    | with_reducible apply State.modLane_within | with_reducible apply State.sendBits_within
    | with_reducible apply State.put_within | with_reducible apply State.emit_within
    | with_reducible apply State.Within.ite | exact maskSub rfl hm | split | dsimp only

theorem State.sendMarker_within {μ : Nat} {s₀ s : State} (hf : State.Within μ s₀ s) (l : Nat) (state : Nat) (hm :
    0xc0000800100000000000000004000000000000000000000000 ||| μ = μ) : State.Within μ s₀ (State.sendMarker s l state)
    := by
  unfold State.sendMarker
  repeat' first
    | with_reducible assumption | (intro _) | with_reducible apply State.drawSeeds_within
    | with_reducible apply State.modLane_within | with_reducible apply State.putMarker_within
    | with_reducible refine State.Within.pair (by assumption) ?_ | with_reducible apply State.Within.ite
    | exact maskSub rfl hm | split | dsimp only

theorem State.endTraining_within {μ : Nat} {s₀ s : State} (hf : State.Within μ s₀ s) (l : Nat) (hm :
    0x80000800000000000000000000000000000000000000000000 ||| μ = μ) : State.Within μ s₀ (State.endTraining s l) := by
  unfold State.endTraining
  repeat' first
    | with_reducible assumption | (intro _) | with_reducible apply State.sendWords_within
    | with_reducible apply State.modLane_within | with_reducible apply State.Within.ite | exact maskSub rfl hm | split
    | dsimp only

theorem State.stopSending_within {μ : Nat} {s₀ s : State} (hf : State.Within μ s₀ s) (l : Nat) (hm :
    0x800000000000000000002000000000000000000000000 ||| μ = μ) : State.Within μ s₀ (State.stopSending s l) := by
  unfold State.stopSending
  repeat' first
    | with_reducible assumption | (intro _) | with_reducible apply State.put_within
    | with_reducible apply State.modLane_within | with_reducible apply State.Within.ite | exact maskSub rfl hm | split
    | dsimp only

theorem State.openActive_within {μ : Nat} {s₀ s : State} (hf : State.Within μ s₀ s) (l : Nat) (first : Nat) (mask :
    Nat) (hm : 0xc0000800100000000000000006000000000000000000000000 ||| μ = μ) : State.Within μ s₀ (State.openActive s
    l first mask) := by
  unfold State.openActive
  repeat' first
    | with_reducible assumption | (intro _) | with_reducible apply State.sendMarker_within
    | with_reducible apply State.put_within | with_reducible apply State.modLane_within
    | with_reducible apply State.emit_within | with_reducible apply State.Within.ite | exact maskSub rfl hm | split
    | dsimp only

theorem State.bringUpLane_within {μ : Nat} {s₀ s : State} (hf : State.Within μ s₀ s) (l : Nat) (hm :
    0x800000000000000000002000000000000000000000000 ||| μ = μ) : State.Within μ s₀ (State.bringUpLane s l) := by
  unfold State.bringUpLane
  repeat' first
    | with_reducible assumption | (intro _) | with_reducible apply State.put_within
    | with_reducible apply State.modLane_within | with_reducible apply State.Within.ite | exact maskSub rfl hm | split
    | dsimp only

theorem State.stopLane_within {μ : Nat} {s₀ s : State} (hf : State.Within μ s₀ s) (state : Nat) (l : Nat) (hm :
    0x808000000000000000002000000000000000000000000 ||| μ = μ) : State.Within μ s₀ (State.stopLane s state l) := by
  unfold State.stopLane
  repeat' first
    | with_reducible assumption | (intro _) | with_reducible apply State.put_within
    | with_reducible apply State.disarm_within | with_reducible apply State.modLane_within
    | with_reducible apply State.Within.ite | exact maskSub rfl hm | split | dsimp only

theorem State.watchLock_within {μ : Nat} {s₀ s : State} (hf : State.Within μ s₀ s) (l : Nat) (hm :
    0x8000000000000000000000000000000000000000000 ||| μ = μ) : State.Within μ s₀ (State.watchLock s l) := by
  unfold State.watchLock
  repeat' first
    | with_reducible assumption | (intro _) | with_reducible apply State.armOnce_within
    | with_reducible apply State.disarm_within | with_reducible apply State.Within.ite | exact maskSub rfl hm | split
    | dsimp only

theorem State.loseLock_within {μ : Nat} {s₀ s : State} (hf : State.Within μ s₀ s) (l : Nat) (hm :
    0x808100000000000000002000000000000000000000000 ||| μ = μ) : State.Within μ s₀ (State.loseLock s l) := by
  unfold State.loseLock
  repeat' first
    | with_reducible assumption | (intro _) | with_reducible apply State.put_within
    | with_reducible apply State.bump_within | with_reducible apply State.disarm_within
    | with_reducible apply State.modLane_within | with_reducible apply State.watchLock_within
    | with_reducible apply State.Within.ite | exact maskSub rfl hm | split | dsimp only

theorem State.searchAnew_within {μ : Nat} {s₀ s : State} (hf : State.Within μ s₀ s) (l : Nat) (hm :
    0x808100000000000000002000000000000000000000000 ||| μ = μ) : State.Within μ s₀ (State.searchAnew s l) := by
  unfold State.searchAnew
  repeat' first
    | with_reducible assumption | (intro _) | with_reducible apply State.loseLock_within
    | with_reducible apply State.modLane_within | with_reducible apply State.Within.ite | exact maskSub rfl hm | split
    | dsimp only

theorem State.alignLane_within {μ : Nat} {s₀ s : State} (hf : State.Within μ s₀ s) (l : Nat) (c : Nat) (hm :
    0x808100000000000000002000000000000000000000000 ||| μ = μ) : State.Within μ s₀ (State.alignLane s l c) := by
  unfold State.alignLane
  repeat' first
    | with_reducible assumption | (intro _) | with_reducible apply State.modLane_within
    | with_reducible apply State.bump_within | with_reducible apply State.Within.each
    | with_reducible apply State.searchAnew_within | with_reducible apply State.put_within
    | with_reducible apply State.Within.ite | exact maskSub rfl hm | split | dsimp only

theorem State.checkBits_within {μ : Nat} {s₀ s : State} (hf : State.Within μ s₀ s) (l : Nat) (bits : List Bool) (hm :
    0x800100000000000000008000000000000000000000000 ||| μ = μ) : State.Within μ s₀ (State.checkBits s l bits) := by
  unfold State.checkBits
  repeat' first
    | with_reducible assumption | (intro _) | with_reducible apply State.Within.foldl
    | with_reducible apply State.bumpBy_within | with_reducible apply State.put_within
    | with_reducible apply State.flag_within | with_reducible apply State.modLane_within
    | with_reducible apply State.Within.ite | exact maskSub rfl hm | split | dsimp only

theorem State.countPrbs_within {μ : Nat} {s₀ s : State} (hf : State.Within μ s₀ s) (l : Nat) (hm :
    0x800100000000000000000000000000000000000000000 ||| μ = μ) : State.Within μ s₀ (State.countPrbs s l) := by
  unfold State.countPrbs
  repeat' first
    | with_reducible assumption | (intro _) | with_reducible apply State.bumpBy_within
    | with_reducible apply State.modLane_within | with_reducible apply State.Within.ite | exact maskSub rfl hm | split
    | dsimp only

theorem State.sleepBay_within {μ : Nat} {s₀ s : State} (hf : State.Within μ s₀ s) (b : Nat) (hm :
    0x800100000000000000010000000000000000000006000 ||| μ = μ) : State.Within μ s₀ (State.sleepBay s b) := by
  unfold State.sleepBay
  repeat' first
    | with_reducible assumption | (intro _) | with_reducible apply State.Within.each
    | with_reducible apply State.countPrbs_within | with_reducible apply State.modLane_within
    | with_reducible apply State.setBayState_within | with_reducible apply State.Within.ite | exact maskSub rfl hm
    | split | dsimp only

theorem State.lanesRun_within {μ : Nat} {s₀ s : State} (hf : State.Within μ s₀ s) (b : Nat) (hm :
    0x800000000000000000002000000000000000000000000 ||| μ = μ) : State.Within μ s₀ (State.lanesRun s b) := by
  unfold State.lanesRun
  repeat' first
    | with_reducible assumption | (intro _) | with_reducible apply State.Within.each
    | with_reducible apply State.modLane_within | with_reducible apply State.put_within
    | with_reducible apply State.Within.ite | exact maskSub rfl hm | split | dsimp only

theorem State.clampKey_within {μ : Nat} {s₀ s : State} (hf : State.Within μ s₀ s) (f : Nat) (k : Nat) (hm :
    0x100000000000000000000000000000000000000000 ||| μ = μ) : State.Within μ s₀ (State.clampKey s f k).2 := by
  unfold State.clampKey
  repeat' first
    | with_reducible assumption | (intro _) | with_reducible apply State.bump_within
    | with_reducible apply State.Within.ite | exact maskSub rfl hm | split | dsimp only

theorem State.lateArrival_within {μ : Nat} {s₀ s : State} (hf : State.Within μ s₀ s) (f : Nat) (k : Nat) (hm :
    0x100000000000000000000000000000000000000000 ||| μ = μ) : State.Within μ s₀ (State.lateArrival s f k) := by
  unfold State.lateArrival
  repeat' first
    | with_reducible assumption | (intro _) | with_reducible apply State.bump_within
    | with_reducible apply State.Within.ite | exact maskSub rfl hm | split | dsimp only

theorem State.tagKey_within {μ : Nat} {s₀ s : State} (hf : State.Within μ s₀ s) (f : Nat) (k : Nat) (hm :
    0x100000000000000000000000000000000000000000 ||| μ = μ) : State.Within μ s₀ (State.tagKey s f k).2 := by
  unfold State.tagKey
  repeat' first
    | with_reducible assumption | (intro _) | with_reducible apply State.clampKey_within
    | with_reducible apply State.lateArrival_within | with_reducible refine State.Within.pair (by assumption) ?_
    | with_reducible apply State.Within.ite | exact maskSub rfl hm | split | dsimp only

theorem State.keyFor_within {μ : Nat} {s₀ s : State} (hf : State.Within μ s₀ s) (f : Nat) (dl : Option Nat) (hm :
    0x100000000000000000000000000000000000000000 ||| μ = μ) : State.Within μ s₀ (State.keyFor s f dl).2 := by
  unfold State.keyFor
  repeat' first
    | with_reducible assumption | (intro _) | with_reducible apply State.tagKey_within
    | with_reducible refine State.Within.pair (by assumption) ?_ | with_reducible apply State.Within.ite
    | exact maskSub rfl hm | split | dsimp only

theorem State.missAt_within {μ : Nat} {s₀ s : State} (hf : State.Within μ s₀ s) (k : Nat) (f : Nat) (kind : Nat) (p :
    Nat) (v : Nat) (extra : List Nat) (hm : 0x10000000000000000000000c000000000000000000 ||| μ = μ) : State.Within μ
    s₀ (State.missAt s k f kind p v extra) := by
  unfold State.missAt
  repeat' first
    | with_reducible assumption | (intro _) | with_reducible apply State.Within.each
    | with_reducible apply State.bump_within | with_reducible apply State.setWord_within
    | with_reducible apply State.put_within | with_reducible apply State.Within.ite | exact maskSub rfl hm | split
    | dsimp only

theorem State.judgeHolds_within {μ : Nat} {s₀ s : State} (hf : State.Within μ s₀ s) (p : Nat) (hm :
    0x4080000000000000000000 ||| μ = μ) : State.Within μ s₀ (State.judgeHolds s p) := by
  unfold State.judgeHolds
  repeat' first
    | with_reducible assumption | (intro _) | with_reducible apply State.put_within
    | with_reducible apply State.Within.each | with_reducible apply State.flag_within
    | with_reducible apply State.Within.ite | exact maskSub rfl hm | split | dsimp only

theorem State.wakeSlices_within {μ : Nat} {s₀ s : State} (hf : State.Within μ s₀ s) (ts : List Nat) (hm :
    0x1040000000000000000000010000000000000000000007800 ||| μ = μ) : State.Within μ s₀ (State.wakeSlices s ts) := by
  unfold State.wakeSlices
  repeat' first
    | with_reducible assumption | (intro _) | with_reducible apply State.Within.each
    | with_reducible apply State.wakeRegion_within | with_reducible apply State.Within.ite | exact maskSub rfl hm
    | split | dsimp only

theorem State.setIde_within {μ : Nat} {s₀ s : State} (hf : State.Within μ s₀ s) (h : Nat) (i : Nat) (x : IdeStream)
    (hm : 0x40000000000000000000000000000000000000000000 ||| μ = μ) : State.Within μ s₀ (State.setIde s h i x) := by
  unfold State.setIde
  repeat' first
    | with_reducible assumption | (intro _) | with_reducible apply State.modHost_within
    | with_reducible apply State.Within.ite | exact maskSub rfl hm | split | dsimp only

theorem State.judgeKeys_within {μ : Nat} {s₀ s : State} (hf : State.Within μ s₀ s) (h : Nat) (hm : 0x100000000 ||| μ =
    μ) : State.Within μ s₀ (State.judgeKeys s h) := by
  unfold State.judgeKeys
  repeat' first
    | with_reducible assumption | (intro _) | with_reducible apply State.flag_within
    | with_reducible apply State.Within.ite | exact maskSub rfl hm | split | dsimp only

theorem State.onStream_within {μ : Nat} {s₀ s : State} (hf : State.Within μ s₀ s) (h : Nat) (st : Option Nat) (hm :
    0x40000000000000000000000000000000000100000000 ||| μ = μ) : State.Within μ s₀ (State.onStream s h st) := by
  unfold State.onStream
  repeat' first
    | with_reducible assumption | (intro _) | with_reducible apply State.setIde_within
    | with_reducible apply State.judgeKeys_within | with_reducible apply State.Within.ite | exact maskSub rfl hm
    | split | dsimp only

theorem State.emitTlp_within {μ : Nat} {s₀ s : State} (hf : State.Within μ s₀ s) (f : Nat) (o : Output) (hm :
    0x80000000000000000000000000000000000000000000000000 ||| μ = μ) : State.Within μ s₀ (State.emitTlp s f o) := by
  unfold State.emitTlp
  repeat' first
    | with_reducible assumption | (intro _) | with_reducible apply State.emit_within
    | with_reducible apply State.Within.ite | exact maskSub rfl hm | split | dsimp only

theorem State.pllFails_within {μ : Nat} {s₀ s : State} (hf : State.Within μ s₀ s) (hm :
    0x40000000000000000000000000000000000000000000000000 ||| μ = μ) : State.Within μ s₀ (State.pllFails s).2 := by
  unfold State.pllFails
  repeat' first
    | with_reducible assumption | (intro _) | with_reducible apply State.freeWord_within
    | with_reducible refine State.Within.pair (by assumption) ?_ | with_reducible apply State.Within.ite
    | exact maskSub rfl hm | split | dsimp only

theorem State.ungateHcr_within {μ : Nat} {s₀ s : State} (hf : State.Within μ s₀ s) (h : Nat) (hm :
    0x40000000100000000000000000000000000000000000000800 ||| μ = μ) : State.Within μ s₀ (State.ungateHcr s h) := by
  unfold State.ungateHcr
  repeat' first
    | with_reducible assumption | (intro _) | with_reducible apply State.pllFails_within
    | with_reducible apply State.bump_within | with_reducible apply State.setHcrState_within
    | with_reducible refine State.Within.pair (by assumption) ?_ | with_reducible apply State.Within.ite
    | exact maskSub rfl hm | split | dsimp only

theorem State.leaveL1_within {μ : Nat} {s₀ s : State} (hf : State.Within μ s₀ s) (h : Nat) (hm :
    0x40000040100000000000000000000000000000000000400800 ||| μ = μ) : State.Within μ s₀ (State.leaveL1 s h) := by
  unfold State.leaveL1
  repeat' first
    | with_reducible assumption | (intro _) | with_reducible apply State.put_within
    | with_reducible apply State.ungateHcr_within | with_reducible apply State.modHost_within
    | with_reducible apply State.Within.ite | exact maskSub rfl hm | split | dsimp only

theorem State.noteBad_within {μ : Nat} {s₀ s : State} (hf : State.Within μ s₀ s) (f : Nat) (bad : Bool) (hm :
    0x800000000000000000000000000000000000000000 ||| μ = μ) : State.Within μ s₀ (State.noteBad s f bad) := by
  unfold State.noteBad
  repeat' first
    | with_reducible assumption | (intro _) | with_reducible apply State.setStatus_within
    | with_reducible apply State.Within.ite | exact maskSub rfl hm | split | dsimp only

theorem State.hostWrite_within {μ : Nat} {s₀ s : State} (hf : State.Within μ s₀ s) (f : Nat) (pasid : Option Nat)
    (addr : Nat) (data : List Byte) (bad : Bool) (hm : 0xc0000040900000000000000000000000000000000100400800 ||| μ = μ)
    : State.Within μ s₀ (State.hostWrite s f pasid addr data bad) := by
  unfold State.hostWrite
  repeat' first
    | with_reducible assumption | (intro _) | with_reducible apply State.noteBad_within
    | with_reducible apply State.leaveL1_within | with_reducible apply State.onStream_within
    | with_reducible apply State.Within.each | with_reducible apply State.emitTlp_within
    | with_reducible apply State.Within.ite | exact maskSub rfl hm | split | dsimp only

theorem State.hostWriteSparse_within {μ : Nat} {s₀ s : State} (hf : State.Within μ s₀ s) (f : Nat) (pasid : Option
    Nat) (addr : Nat) (be : Nat) (data : List Byte) (bad : Bool) (hm :
    0xc0000040900000000000000000000000000000000100400800 ||| μ = μ) : State.Within μ s₀ (State.hostWriteSparse s f
    pasid addr be data bad) := by
  unfold State.hostWriteSparse
  repeat' first
    | with_reducible assumption | (intro _) | with_reducible apply State.noteBad_within
    | with_reducible apply State.leaveL1_within | with_reducible apply State.onStream_within
    | with_reducible apply State.emitTlp_within | with_reducible apply State.Within.ite | exact maskSub rfl hm | split
    | dsimp only

theorem State.sendPost_within {μ : Nat} {s₀ s : State} (hf : State.Within μ s₀ s) (r : HReq) (hm :
    0xc000004090000000000000000000000c000000000100400800 ||| μ = μ) : State.Within μ s₀ (State.sendPost s r) := by
  unfold State.sendPost
  repeat' first
    | with_reducible assumption | (intro _) | with_reducible apply State.hostWriteSparse_within
    | with_reducible apply State.hostWrite_within | with_reducible apply State.missAt_within
    | with_reducible apply State.Within.ite | exact maskSub rfl hm | split | dsimp only

theorem State.callHost_within {μ : Nat} {s₀ s : State} (hf : State.Within μ s₀ s) (ts : List Nat) (f : Nat) (hm :
    0x41040040100000000000000010000000000000000000407800 ||| μ = μ) : State.Within μ s₀ (State.callHost s ts f) := by
  unfold State.callHost
  repeat' first
    | with_reducible assumption | (intro _) | with_reducible apply State.wakeSlices_within
    | with_reducible apply State.leaveL1_within | with_reducible apply State.Within.ite | exact maskSub rfl hm | split
    | dsimp only

theorem State.drainPosts_within {μ : Nat} {s₀ s : State} (hf : State.Within μ s₀ s) (h : Nat) (x2 : Nat) (hm :
    0xc000004090000000000000000000000c000000000100400800 ||| μ = μ) : State.Within μ s₀ (State.drainPosts s h x2) :=
    by
  induction x2 generalizing s with
  | zero =>
    unfold State.drainPosts
    repeat' first
      | with_reducible assumption | (intro _) | with_reducible apply State.modHost_within
      | with_reducible apply State.sendPost_within | with_reducible apply State.Within.ite | exact maskSub rfl hm
      | split | dsimp only
  | succ n ih =>
    unfold State.drainPosts
    repeat' first
      | with_reducible assumption | (intro _) | with_reducible apply ih | with_reducible apply State.modHost_within
      | with_reducible apply State.sendPost_within | with_reducible apply State.Within.ite | exact maskSub rfl hm
      | split | dsimp only

theorem State.drainWrites_within {μ : Nat} {s₀ s : State} (hf : State.Within μ s₀ s) (h : Nat) (hm :
    0xc000004090000000000000000000000c000000000100400800 ||| μ = μ) : State.Within μ s₀ (State.drainWrites s h) := by
  unfold State.drainWrites
  repeat' first
    | with_reducible assumption | (intro _) | with_reducible apply State.drainPosts_within
    | with_reducible apply State.Within.ite | exact maskSub rfl hm | split | dsimp only

theorem State.askHost_within {μ : Nat} {s₀ s : State} (hf : State.Within μ s₀ s) (r : HReq) (hm :
    0xc104004090000000000000001000000c000000000100407800 ||| μ = μ) : State.Within μ s₀ (State.askHost s r) := by
  unfold State.askHost
  repeat' first
    | with_reducible assumption | (intro _) | with_reducible apply State.callHost_within
    | with_reducible apply State.modHost_within | with_reducible apply State.drainWrites_within
    | with_reducible apply State.Within.ite | exact maskSub rfl hm | split | dsimp only

theorem State.giveRoom_within {μ : Nat} {s₀ s : State} (hf : State.Within μ s₀ s) (r : HReq) (hm :
    0x400000000000000000000000000000000000000000000 ||| μ = μ) : State.Within μ s₀ (State.giveRoom s r) := by
  unfold State.giveRoom
  repeat' first
    | with_reducible assumption | (intro _) | with_reducible apply State.modPort_within
    | with_reducible apply State.Within.ite | exact maskSub rfl hm | split | dsimp only

theorem State.grantTag_within {μ : Nat} {s₀ s : State} (hf : State.Within μ s₀ s) (h : Nat) (hm :
    0xc000044890000000000000000000000c000000000100400800 ||| μ = μ) : State.Within μ s₀ (State.grantTag s h) := by
  unfold State.grantTag
  repeat' first
    | with_reducible assumption | (intro _) | with_reducible apply State.modHost_within
    | with_reducible apply State.giveRoom_within | with_reducible apply State.arm_within
    | with_reducible apply State.onStream_within | with_reducible apply State.emitTlp_within
    | with_reducible apply State.drainWrites_within | with_reducible apply State.Within.ite | exact maskSub rfl hm
    | split | dsimp only

theorem State.freeHostTag_within {μ : Nat} {s₀ s : State} (hf : State.Within μ s₀ s) (h : Nat) (t : Nat) (hm :
    0x48000000000000000000000000000000000000000000 ||| μ = μ) : State.Within μ s₀ (State.freeHostTag s h t) := by
  unfold State.freeHostTag
  repeat' first
    | with_reducible assumption | (intro _) | with_reducible apply State.disarm_within
    | with_reducible apply State.modHost_within | with_reducible apply State.Within.ite | exact maskSub rfl hm | split
    | dsimp only

theorem State.holdHostTag_within {μ : Nat} {s₀ s : State} (hf : State.Within μ s₀ s) (h : Nat) (t : Nat) (hm :
    0x48000000000000000000000000000000000000000000 ||| μ = μ) : State.Within μ s₀ (State.holdHostTag s h t) := by
  unfold State.holdHostTag
  repeat' first
    | with_reducible assumption | (intro _) | with_reducible apply State.disarm_within
    | with_reducible apply State.modHost_within | with_reducible apply State.arm_within
    | with_reducible apply State.Within.ite | exact maskSub rfl hm | split | dsimp only

theorem State.setPba_within {μ : Nat} {s₀ s : State} (hf : State.Within μ s₀ s) (f : Nat) (e : Nat) (b : Bool) (hm :
    0x2000000000000000000000000000000000000000000 ||| μ = μ) : State.Within μ s₀ (State.setPba s f e b) := by
  unfold State.setPba
  repeat' first
    | with_reducible assumption | (intro _) | with_reducible apply State.Within.ite | exact maskSub rfl hm | split
    | dsimp only
  all_goals with_reducible apply State.Within.other
  all_goals first | exact Or.inl rfl | exact Or.inl ⟨rfl, rfl⟩ | exact Or.inl ⟨rfl, rfl, rfl⟩ | exact Or.inr (maskSub rfl hm) | skip
  repeat' first
    | with_reducible assumption | (intro _) | with_reducible apply State.Within.ite | exact maskSub rfl hm | split
    | dsimp only

theorem State.sendMessage_within {μ : Nat} {s₀ s : State} (hf : State.Within μ s₀ s) (f : Nat) (e : Nat) (hm :
    0xc0000040900000000000000000000000000000000100400800 ||| μ = μ) : State.Within μ s₀ (State.sendMessage s f e) :=
    by
  unfold State.sendMessage
  repeat' first
    | with_reducible assumption | (intro _) | with_reducible apply State.hostWrite_within
    | with_reducible apply State.bump_within | with_reducible apply State.Within.ite | exact maskSub rfl hm | split
    | dsimp only

theorem State.sendMsi_within {μ : Nat} {s₀ s : State} (hf : State.Within μ s₀ s) (v : Nat) (hm :
    0xc0000040900000000000000000000000000000000100400800 ||| μ = μ) : State.Within μ s₀ (State.sendMsi s v) := by
  unfold State.sendMsi
  repeat' first
    | with_reducible assumption | (intro _) | with_reducible apply State.hostWrite_within
    | with_reducible apply State.bump_within | with_reducible apply State.Within.ite | exact maskSub rfl hm | split
    | dsimp only

theorem State.deliverMsi_within {μ : Nat} {s₀ s : State} (hf : State.Within μ s₀ s) (v : Nat) (hm :
    0xc0000040900000000000000000000000000000000100400800 ||| μ = μ) : State.Within μ s₀ (State.deliverMsi s v).2 := by
  unfold State.deliverMsi
  repeat' first
    | with_reducible assumption | (intro _) | with_reducible apply State.sendMsi_within
    | with_reducible apply State.cfgPut_within | with_reducible apply State.bump_within
    | with_reducible apply State.Within.ite | exact maskSub rfl hm | split | dsimp only

theorem State.deliverMsix_within {μ : Nat} {s₀ s : State} (hf : State.Within μ s₀ s) (f : Nat) (e : Nat) (hm :
    0xc0000042900000000000000000000000000000000100400800 ||| μ = μ) : State.Within μ s₀ (State.deliverMsix s f e).2 :=
    by
  unfold State.deliverMsix
  repeat' first
    | with_reducible assumption | (intro _) | with_reducible apply State.sendMessage_within
    | with_reducible apply State.setPba_within | with_reducible apply State.bump_within
    | with_reducible apply State.Within.ite | exact maskSub rfl hm | split | dsimp only

theorem State.wakeFor_within {μ : Nat} {s₀ s : State} (hf : State.Within μ s₀ s) (f : Nat) (hm :
    0x40000000000000000000000000000000000000000000 ||| μ = μ) : State.Within μ s₀ (State.wakeFor s f) := by
  unfold State.wakeFor
  repeat' first
    | with_reducible assumption | (intro _) | with_reducible apply State.modHost_within
    | with_reducible apply State.Within.ite | exact maskSub rfl hm | split | dsimp only

theorem State.wakePeg_within {μ : Nat} {s₀ s : State} (hf : State.Within μ s₀ s) (i : Nat) (hm :
    0x1040000000000000000000010000000000000000000007800 ||| μ = μ) : State.Within μ s₀ (State.wakePeg s i) := by
  unfold State.wakePeg
  repeat' first
    | with_reducible assumption | (intro _) | with_reducible apply State.wakeSlices_within
    | with_reducible apply State.Within.ite | exact maskSub rfl hm | split | dsimp only

theorem State.raisePeg_within {μ : Nat} {s₀ s : State} (hf : State.Within μ s₀ s) (i : Nat) (dl : Option Nat) (v :
    Option Nat) (hm : 0x1044000100000000000000110000000000000000000007800 ||| μ = μ) : State.Within μ s₀
    (State.raisePeg s i dl v) := by
  unfold State.raisePeg
  repeat' first
    | with_reducible assumption | (intro _) | with_reducible apply State.bump_within
    | with_reducible apply State.keyFor_within | with_reducible apply State.wakePeg_within
    | with_reducible apply State.put_within | with_reducible apply State.modPeg_within
    | with_reducible refine State.Within.pair (by assumption) ?_ | with_reducible apply State.Within.ite
    | exact maskSub rfl hm | split | dsimp only

theorem State.eosPeg_within {μ : Nat} {s₀ s : State} (hf : State.Within μ s₀ s) (i : Nat) (hm :
    0x1040000000000000000000110000000000000000000007800 ||| μ = μ) : State.Within μ s₀ (State.eosPeg s i) := by
  unfold State.eosPeg
  repeat' first
    | with_reducible assumption | (intro _) | with_reducible apply State.put_within
    | with_reducible apply State.wakePeg_within | with_reducible apply State.Within.ite | exact maskSub rfl hm | split
    | dsimp only

theorem State.deliverPeg_within {μ : Nat} {s₀ s : State} (hf : State.Within μ s₀ s) (i : Nat) (hm :
    0xc000404290000000000000010000000c000000000100400800 ||| μ = μ) : State.Within μ s₀ (State.deliverPeg s i) := by
  unfold State.deliverPeg
  repeat' first
    | with_reducible assumption | (intro _) | with_reducible apply State.put_within
    | with_reducible apply State.flag_within | with_reducible apply State.missAt_within
    | with_reducible apply State.setPeg_within | with_reducible apply State.deliverMsi_within
    | with_reducible apply State.wakeFor_within | with_reducible apply State.deliverMsix_within
    | with_reducible refine State.Within.pair (by assumption) ?_ | with_reducible apply State.Within.ite
    | exact maskSub rfl hm | split | dsimp only

theorem State.askVector_within {μ : Nat} {s₀ s : State} (hf : State.Within μ s₀ s) (q : Nat) (key : Nat) (tagged :
    Bool) (hm : 0x1048000000000000000000010000000000000000000007800 ||| μ = μ) : State.Within μ s₀ (State.askVector s
    q key tagged) := by
  unfold State.askVector
  repeat' first
    | with_reducible assumption | (intro _) | with_reducible apply State.wakeSlices_within
    | with_reducible apply State.Within.ite | exact maskSub rfl hm | split | dsimp only
  all_goals with_reducible apply State.Within.other
  all_goals first | exact Or.inl rfl | exact Or.inl ⟨rfl, rfl⟩ | exact Or.inl ⟨rfl, rfl, rfl⟩ | exact Or.inr (maskSub rfl hm) | skip
  repeat' first
    | with_reducible assumption | (intro _) | with_reducible apply State.wakeSlices_within
    | with_reducible apply State.Within.ite | exact maskSub rfl hm | split | dsimp only

theorem State.deliverVector_within {μ : Nat} {s₀ s : State} (hf : State.Within μ s₀ s) (q : Nat) (hm :
    0xc0001042900000000000000000000000000000000100400800 ||| μ = μ) : State.Within μ s₀ (State.deliverVector s q) :=
    by
  unfold State.deliverVector
  repeat' first
    | with_reducible assumption | (intro _) | with_reducible apply State.deliverMsi_within
    | with_reducible apply State.wakeFor_within | with_reducible apply State.deliverMsix_within
    | with_reducible apply State.modQueue_within | with_reducible refine State.Within.pair (by assumption) ?_
    | with_reducible apply State.Within.ite | exact maskSub rfl hm | split | dsimp only

theorem State.freeHeld_within {μ : Nat} {s₀ s : State} (hf : State.Within μ s₀ s) (f : Nat) (hm :
    0x101040000000000000000000010000000000000000000007800 ||| μ = μ) : State.Within μ s₀ (State.freeHeld s f) := by
  unfold State.freeHeld
  repeat' first
    | with_reducible assumption | (intro _) | with_reducible apply State.wakeSlices_within
    | with_reducible apply State.Within.ite | exact maskSub rfl hm | split | dsimp only
  all_goals with_reducible apply State.Within.other
  all_goals first | exact Or.inl rfl | exact Or.inl ⟨rfl, rfl⟩ | exact Or.inl ⟨rfl, rfl, rfl⟩ | exact Or.inr (maskSub rfl hm) | skip
  repeat' first
    | with_reducible assumption | (intro _) | with_reducible apply State.wakeSlices_within
    | with_reducible apply State.Within.ite | exact maskSub rfl hm | split | dsimp only

theorem State.sendFreed_within {μ : Nat} {s₀ s : State} (hf : State.Within μ s₀ s) (f : Nat) (e : Nat) (hm :
    0xc0005042900000000000000100000000000000000100400800 ||| μ = μ) : State.Within μ s₀ (State.sendFreed s f e) := by
  unfold State.sendFreed
  repeat' first
    | with_reducible assumption | (intro _) | with_reducible apply State.sendMsi_within
    | with_reducible apply State.cfgPut_within | with_reducible apply State.sendMessage_within
    | with_reducible apply State.setPba_within | with_reducible apply State.Within.each
    | with_reducible apply State.flag_within | with_reducible apply State.modPeg_within
    | with_reducible apply State.modQueue_within | with_reducible apply State.Within.ite | exact maskSub rfl hm
    | split | dsimp only

theorem State.pegGrant_within {μ : Nat} {s₀ s : State} (hf : State.Within μ s₀ s) (hm :
    0x1c080d04290000000000000010000000c000000000100400800 ||| μ = μ) : State.Within μ s₀ (State.pegGrant s) := by
  unfold State.pegGrant
  repeat' first
    | with_reducible assumption | (intro _) | with_reducible apply State.servedAt_within
    | with_reducible apply State.deliverVector_within | with_reducible apply State.deliverPeg_within
    | with_reducible apply State.sendFreed_within | with_reducible apply State.Within.ite | exact maskSub rfl hm
    | split | dsimp only
  all_goals with_reducible apply State.Within.other
  all_goals first | exact Or.inl rfl | exact Or.inl ⟨rfl, rfl⟩ | exact Or.inl ⟨rfl, rfl, rfl⟩ | exact Or.inr (maskSub rfl hm) | skip
  repeat' first
    | with_reducible assumption | (intro _) | with_reducible apply State.servedAt_within
    | with_reducible apply State.deliverVector_within | with_reducible apply State.deliverPeg_within
    | with_reducible apply State.sendFreed_within | with_reducible apply State.Within.ite | exact maskSub rfl hm
    | split | dsimp only

theorem State.grantFreed_within {μ : Nat} {s₀ s : State} (hf : State.Within μ s₀ s) (f : Nat) (x2 : Nat) (hm :
    0x1c080d04290000000000000010000000c000000000100400800 ||| μ = μ) : State.Within μ s₀ (State.grantFreed s f x2) :=
    by
  induction x2 generalizing s with
  | zero =>
    unfold State.grantFreed
    repeat' first
      | with_reducible assumption | (intro _) | with_reducible apply State.pegGrant_within
      | with_reducible apply State.Within.ite | exact maskSub rfl hm | split | dsimp only
  | succ n ih =>
    unfold State.grantFreed
    repeat' first
      | with_reducible assumption | (intro _) | with_reducible apply ih | with_reducible apply State.pegGrant_within
      | with_reducible apply State.Within.ite | exact maskSub rfl hm | split | dsimp only

theorem State.releaseHeld_within {μ : Nat} {s₀ s : State} (hf : State.Within μ s₀ s) (f : Nat) (hm :
    0x1c184d04290000000000000011000000c000000000100407800 ||| μ = μ) : State.Within μ s₀ (State.releaseHeld s f) := by
  unfold State.releaseHeld
  repeat' first
    | with_reducible assumption | (intro _) | with_reducible apply State.freeHeld_within
    | with_reducible apply State.grantFreed_within | with_reducible apply State.Within.ite | exact maskSub rfl hm
    | split | dsimp only

theorem State.clearInterrupts_within {μ : Nat} {s₀ s : State} (hf : State.Within μ s₀ s) (f : Nat) (hm :
    0x10000c002800000000000000000000000000000000000000000 ||| μ = μ) : State.Within μ s₀ (State.clearInterrupts s f)
    := by
  unfold State.clearInterrupts
  repeat' first
    | with_reducible assumption | (intro _) | with_reducible apply State.Within.each
    | with_reducible apply State.modPeg_within | with_reducible apply State.cfgPut_within
    | with_reducible apply State.Within.ite | exact maskSub rfl hm | split | dsimp only
  all_goals with_reducible apply State.Within.other
  all_goals first | exact Or.inl rfl | exact Or.inl ⟨rfl, rfl⟩ | exact Or.inl ⟨rfl, rfl, rfl⟩ | exact Or.inr (maskSub rfl hm) | skip
  repeat' first
    | with_reducible assumption | (intro _) | with_reducible apply State.Within.each
    | with_reducible apply State.modPeg_within | with_reducible apply State.cfgPut_within
    | with_reducible apply State.Within.ite | exact maskSub rfl hm | split | dsimp only

end Sys2Proof.Machine
end

