-- ==== Sys2Proof/Laws/WithinJoist.lean ====
section
/-! SUPPORT. What the operations of Joist egress and ingress and the window operations leave alone
(State.Within): one lemma per operation. -/

namespace Sys2Proof.Machine

set_option linter.all false
set_option Elab.async false

theorem State.startTraining_within {μ : Nat} {s₀ s : State} (hf : State.Within μ s₀ s) (p : Nat) (hm :
    0xc08000000000000000002004200000000000000000000 ||| μ = μ) : State.Within μ s₀ (State.startTraining s p) := by
  unfold State.startTraining
  repeat' first
    | with_reducible assumption | (intro _) | with_reducible apply State.put_within
    | with_reducible apply State.Within.each | with_reducible apply State.modPort_within
    | with_reducible apply State.bringUpLane_within | with_reducible apply State.arm_within
    | with_reducible apply State.Within.ite | exact maskSub rfl hm | split | dsimp only

theorem State.trainWoken_within {μ : Nat} {s₀ s : State} (hf : State.Within μ s₀ s) (p : Nat) (hm :
    0xc08000000000000000002004200000000000000000000 ||| μ = μ) : State.Within μ s₀ (State.trainWoken s p) := by
  unfold State.trainWoken
  repeat' first
    | with_reducible assumption | (intro _) | with_reducible apply State.arm_within
    | with_reducible apply State.Within.each | with_reducible apply State.put_within
    | with_reducible apply State.startTraining_within | with_reducible apply State.Within.ite | exact maskSub rfl hm
    | split | dsimp only

theorem State.wakePort_within {μ : Nat} {s₀ s : State} (hf : State.Within μ s₀ s) (p : Nat) (hm :
    0x1040c08000000000000000012004200000000000000007800 ||| μ = μ) : State.Within μ s₀ (State.wakePort s p) := by
  unfold State.wakePort
  repeat' first
    | with_reducible assumption | (intro _) | with_reducible apply State.wakeRegion_within
    | with_reducible apply State.modPort_within | with_reducible apply State.trainWoken_within
    | with_reducible apply State.Within.ite | exact maskSub rfl hm | split | dsimp only

theorem State.queueUnits_within {μ : Nat} {s₀ s : State} (hf : State.Within μ s₀ s) (p : Nat) (us : List (BitVec 128))
    (hm : 0x400000000000000000000000000000000000000000000 ||| μ = μ) : State.Within μ s₀ (State.queueUnits s p us) :=
    by
  unfold State.queueUnits
  repeat' first
    | with_reducible assumption | (intro _) | with_reducible apply State.modPort_within
    | with_reducible apply State.Within.ite | exact maskSub rfl hm | split | dsimp only

theorem State.splitWrite_within {μ : Nat} {s₀ s : State} (hf : State.Within μ s₀ s) (n : Nat) (o : Origin) (hm :
    0x1000000000000000000000000000000000000000000000 ||| μ = μ) : State.Within μ s₀ (State.splitWrite s n o) := by
  unfold State.splitWrite
  repeat' first
    | with_reducible assumption | (intro _) | with_reducible apply State.modQueue_within
    | with_reducible apply State.Within.ite | exact maskSub rfl hm | split | dsimp only

theorem State.cutRd_within {μ : Nat} {s₀ s : State} (hf : State.Within μ s₀ s) (p : Nat) (n : Nat) (t : Nat) (e :
    EgFrame) (hm : 0x2400000000000000000000000000000000000000000000 ||| μ = μ) : State.Within μ s₀ (State.cutRd s p n
    t e) := by
  unfold State.cutRd
  repeat' first
    | with_reducible assumption | (intro _) | with_reducible apply State.modPort_within
    | with_reducible apply State.modEng_within | with_reducible apply State.Within.ite | exact maskSub rfl hm | split
    | dsimp only

theorem State.cutRds_within {μ : Nat} {s₀ s : State} (hf : State.Within μ s₀ s) (p : Nat) (x2 : Nat) (hm :
    0x2400000000000000000000000000000000000000000000 ||| μ = μ) : State.Within μ s₀ (State.cutRds s p x2) := by
  induction x2 generalizing s with
  | zero =>
    unfold State.cutRds
    repeat' first
      | with_reducible assumption | (intro _) | with_reducible apply State.cutRd_within
      | with_reducible apply State.Within.ite | exact maskSub rfl hm | split | dsimp only
  | succ n ih =>
    unfold State.cutRds
    repeat' first
      | with_reducible assumption | (intro _) | with_reducible apply ih | with_reducible apply State.cutRd_within
      | with_reducible apply State.Within.ite | exact maskSub rfl hm | split | dsimp only

theorem State.noteReplay_within {μ : Nat} {s₀ s : State} (hf : State.Within μ s₀ s) (p : Nat) (hm :
    0x10000000000000000000000 ||| μ = μ) : State.Within μ s₀ (State.noteReplay s p) := by
  unfold State.noteReplay
  repeat' first
    | with_reducible assumption | (intro _) | with_reducible apply State.put_within
    | with_reducible apply State.Within.ite | exact maskSub rfl hm | split | dsimp only

theorem State.sendFrame_within {μ : Nat} {s₀ s : State} (hf : State.Within μ s₀ s) (p : Nat) (e : EgFrame) (hm :
    0x8000040810000000000000000001800c000000000000000000 ||| μ = μ) : State.Within μ s₀ (State.sendFrame s p e) := by
  unfold State.sendFrame
  repeat' first
    | with_reducible assumption | (intro _) | with_reducible apply State.emit_within
    | with_reducible apply State.queueUnits_within | with_reducible apply State.modPort_within
    | with_reducible apply State.put_within | with_reducible apply State.noteReplay_within
    | with_reducible apply State.bump_within | with_reducible apply State.armOnce_within
    | with_reducible apply State.arm_within | with_reducible apply State.disarm_within
    | with_reducible apply State.missAt_within | with_reducible apply State.Within.ite | exact maskSub rfl hm | split
    | dsimp only

theorem State.endDoze_within {μ : Nat} {s₀ s : State} (hf : State.Within μ s₀ s) (p : Nat) (hm :
    0xc0000c0810000000000000000601c00c000000000000000000 ||| μ = μ) : State.Within μ s₀ (State.endDoze s p) := by
  unfold State.endDoze
  repeat' first
    | with_reducible assumption | (intro _) | with_reducible apply State.put_within
    | with_reducible apply State.disarm_within | with_reducible apply State.Within.each
    | with_reducible apply State.leaveIdle_within | with_reducible apply State.sendMarker_within
    | with_reducible apply State.endTraining_within | with_reducible apply State.openActive_within
    | with_reducible apply State.modPort_within | with_reducible apply State.sendFrame_within
    | with_reducible apply State.Within.ite | exact maskSub rfl hm | split | dsimp only

theorem State.startFrame_within {μ : Nat} {s₀ s : State} (hf : State.Within μ s₀ s) (p : Nat) (e : EgFrame) (hm :
    0xc0000c0810000000000000000601c00c000000000000000000 ||| μ = μ) : State.Within μ s₀ (State.startFrame s p e) := by
  unfold State.startFrame
  repeat' first
    | with_reducible assumption | (intro _) | with_reducible apply State.endDoze_within
    | with_reducible apply State.sendFrame_within | with_reducible apply State.Within.ite | exact maskSub rfl hm
    | split | dsimp only

theorem State.egressStep_within {μ : Nat} {s₀ s : State} (hf : State.Within μ s₀ s) (p : Nat) (hm :
    0xc0801c0810000000000000000601c00c000000000000000000 ||| μ = μ) : ∀ t, State.egressStep s p = some t →
    State.Within μ s₀ t := by
  unfold State.egressStep
  repeat' first
    | with_reducible assumption | exact withinNone | with_reducible refine withinSome ?_
    | with_reducible refine withinIte ?_ ?_ | with_reducible refine withinMap ?_ ?_ | split
    | with_reducible apply State.modPort_within | with_reducible apply State.splitWrite_within
    | with_reducible apply State.servedAt_within | with_reducible apply State.startFrame_within
    | with_reducible apply State.Within.ite | exact maskSub rfl hm | dsimp only | (intro _)

theorem State.pumpFrames_within {μ : Nat} {s₀ s : State} (hf : State.Within μ s₀ s) (p : Nat) (x2 : Nat) (hm :
    0xc0801c0810000000000000000601c00c000000000000000000 ||| μ = μ) : State.Within μ s₀ (State.pumpFrames s p x2) :=
    by
  induction x2 generalizing s with
  | zero =>
    unfold State.pumpFrames
    repeat' first
      | with_reducible assumption | (intro _)
      | with_reducible refine State.egressStep_within ?_ _ ?_ _ (by assumption)
      | with_reducible apply State.Within.ite | exact maskSub rfl hm | split | dsimp only
  | succ n ih =>
    unfold State.pumpFrames
    repeat' first
      | with_reducible assumption | (intro _) | with_reducible apply ih
      | with_reducible refine State.egressStep_within ?_ _ ?_ _ (by assumption)
      | with_reducible apply State.Within.ite | exact maskSub rfl hm | split | dsimp only

theorem State.noteStall_within {μ : Nat} {s₀ s : State} (hf : State.Within μ s₀ s) (p : Nat) (hm :
    0x400000000000000000000010000000000000000000000 ||| μ = μ) : State.Within μ s₀ (State.noteStall s p) := by
  unfold State.noteStall
  repeat' first
    | with_reducible assumption | (intro _) | with_reducible apply State.flag_within
    | with_reducible apply State.modPort_within | with_reducible apply State.Within.ite | exact maskSub rfl hm | split
    | dsimp only

theorem State.pump_within {μ : Nat} {s₀ s : State} (hf : State.Within μ s₀ s) (p : Nat) (hm :
    0xc0803c0810000000000000000601c00c000000000000000000 ||| μ = μ) : State.Within μ s₀ (State.pump s p) := by
  unfold State.pump
  repeat' first
    | with_reducible assumption | (intro _) | with_reducible apply State.cutRds_within
    | with_reducible apply State.Within.foldl | with_reducible apply State.pumpFrames_within
    | with_reducible apply State.noteStall_within | with_reducible apply State.Within.ite | exact maskSub rfl hm
    | split | dsimp only

theorem State.enqueue_within {μ : Nat} {s₀ s : State} (hf : State.Within μ s₀ s) (p : Nat) (e : EgFrame) (hm :
    0xc1843c0810000000000000001601c20c000000000000007800 ||| μ = μ) : State.Within μ s₀ (State.enqueue s p e) := by
  unfold State.enqueue
  repeat' first
    | with_reducible assumption | (intro _) | with_reducible apply State.modPort_within
    | with_reducible apply State.wakePort_within | with_reducible apply State.wakeSlices_within
    | with_reducible apply State.pump_within | with_reducible apply State.Within.ite | exact maskSub rfl hm | split
    | dsimp only

theorem State.quiet_within {μ : Nat} {s₀ s : State} (hf : State.Within μ s₀ s) (p : Nat) (hm :
    0x8000000000000000000000000000000000000000000 ||| μ = μ) : State.Within μ s₀ (State.quiet s p) := by
  unfold State.quiet
  repeat' first
    | with_reducible assumption | (intro _) | with_reducible apply State.armOnce_within
    | with_reducible apply State.disarm_within | with_reducible apply State.Within.ite | exact maskSub rfl hm | split
    | dsimp only

theorem State.noteAck_within {μ : Nat} {s₀ s : State} (hf : State.Within μ s₀ s) (p : Nat) (hm :
    0x408000000000000000000000000000000000000000000 ||| μ = μ) : State.Within μ s₀ (State.noteAck s p) := by
  unfold State.noteAck
  repeat' first
    | with_reducible assumption | (intro _) | with_reducible apply State.modPort_within
    | with_reducible apply State.arm_within | with_reducible apply State.Within.ite | exact maskSub rfl hm | split
    | dsimp only

theorem State.sendIdle_within {μ : Nat} {s₀ s : State} (hf : State.Within μ s₀ s) (p : Nat) (hm :
    0xc0000c0810000000000000000601c00c000000000000000000 ||| μ = μ) : State.Within μ s₀ (State.sendIdle s p) := by
  unfold State.sendIdle
  repeat' first
    | with_reducible assumption | (intro _) | with_reducible apply State.endDoze_within
    | with_reducible apply State.emit_within | with_reducible apply State.queueUnits_within
    | with_reducible apply State.noteAck_within | with_reducible apply State.quiet_within
    | with_reducible apply State.Within.ite | exact maskSub rfl hm | split | dsimp only

theorem State.holdsChanged_within {μ : Nat} {s₀ s : State} (hf : State.Within μ s₀ s) (p : Nat) (hm :
    0xc0000c0810000000000000000601c08c000000000000000000 ||| μ = μ) : State.Within μ s₀ (State.holdsChanged s p) := by
  unfold State.holdsChanged
  repeat' first
    | with_reducible assumption | (intro _) | with_reducible apply State.judgeHolds_within
    | with_reducible apply State.sendIdle_within | with_reducible apply State.Within.ite | exact maskSub rfl hm
    | split | dsimp only

theorem State.jtLog_within {μ : Nat} {s₀ s : State} (hf : State.Within μ s₀ s) (p : Nat) (status : Nat) (kind : Nat)
    (tag : Nat) (vc : Nat) (type : Nat) (addr : Nat) (hm : 0x600000000000000000000000 ||| μ = μ) : State.Within μ s₀
    (State.jtLog s p status kind tag vc type addr) := by
  unfold State.jtLog
  repeat' first
    | with_reducible assumption | (intro _) | with_reducible apply State.put_within
    | with_reducible apply State.Within.ite | exact maskSub rfl hm | split | dsimp only

theorem State.answerUr_within {μ : Nat} {s₀ s : State} (hf : State.Within μ s₀ s) (f : Nat) (reqTag : Nat) (off : Nat)
    (len : Nat) (hm : 0x80000000800000000000000000000000000000000000000000 ||| μ = μ) : State.Within μ s₀
    (State.answerUr s f reqTag off len) := by
  unfold State.answerUr
  repeat' first
    | with_reducible assumption | (intro _) | with_reducible apply State.emitTlp_within
    | with_reducible apply State.aerUnc_within | with_reducible apply State.Within.ite | exact maskSub rfl hm | split
    | dsimp only

theorem State.dropUr_within {μ : Nat} {s₀ s : State} (hf : State.Within μ s₀ s) (f : Nat) (off : Nat) (len : Nat) (hm
    : 0x80000000800000000000000000000000000000000000000000 ||| μ = μ) : State.Within μ s₀ (State.dropUr s f off len)
    := by
  unfold State.dropUr
  repeat' first
    | with_reducible assumption | (intro _) | with_reducible apply State.aerUnc_within
    | with_reducible apply State.Within.ite | exact maskSub rfl hm | split | dsimp only

theorem State.accessKey_within {μ : Nat} {s₀ s : State} (hf : State.Within μ s₀ s) (f : Nat) (n : Nat) (hm :
    0x100000000000000000000000000000000000000000 ||| μ = μ) : State.Within μ s₀ (State.accessKey s f n).2 := by
  unfold State.accessKey
  repeat' first
    | with_reducible assumption | (intro _) | with_reducible apply State.tagKey_within
    | with_reducible refine State.Within.pair (by assumption) ?_ | with_reducible apply State.Within.ite
    | exact maskSub rfl hm | split | dsimp only

theorem State.countDown_within {μ : Nat} {s₀ s : State} (hf : State.Within μ s₀ s) (f : Nat) (p : Nat) (ones : Bool)
    (hm : 0x100000000000000000000000000000000000000000 ||| μ = μ) : State.Within μ s₀ (State.countDown s f p ones) :=
    by
  unfold State.countDown
  repeat' first
    | with_reducible assumption | (intro _) | with_reducible apply State.bump_within
    | with_reducible apply State.Within.ite | exact maskSub rfl hm | split | dsimp only

theorem State.answerCa_within {μ : Nat} {s₀ s : State} (hf : State.Within μ s₀ s) (f : Nat) (reqTag : Nat) (off : Nat)
    (len : Nat) (hm : 0x80000000800000000000000000000000000000000000000000 ||| μ = μ) : State.Within μ s₀
    (State.answerCa s f reqTag off len) := by
  unfold State.answerCa
  repeat' first
    | with_reducible assumption | (intro _) | with_reducible apply State.emitTlp_within
    | with_reducible apply State.setStatus_within | with_reducible apply State.aerUnc_within
    | with_reducible apply State.Within.ite | exact maskSub rfl hm | split | dsimp only

theorem State.setRead_within {μ : Nat} {s₀ s : State} (hf : State.Within μ s₀ s) (p : Nat) (r : WRead) (hm :
    0x400000000000000000000000000000000000000000000 ||| μ = μ) : State.Within μ s₀ (State.setRead s p r) := by
  unfold State.setRead
  repeat' first
    | with_reducible assumption | (intro _) | with_reducible apply State.modPort_within
    | with_reducible apply State.Within.ite | exact maskSub rfl hm | split | dsimp only

theorem State.withdrawReads_within {μ : Nat} {s₀ s : State} (hf : State.Within μ s₀ s) (p : Nat) (id : Nat) (hm :
    0x400000000000000000000000000000000000000000000 ||| μ = μ) : State.Within μ s₀ (State.withdrawReads s p id) := by
  unfold State.withdrawReads
  repeat' first
    | with_reducible assumption | (intro _) | with_reducible apply State.modPort_within
    | with_reducible apply State.Within.ite | exact maskSub rfl hm | split | dsimp only

theorem State.dropRead_within {μ : Nat} {s₀ s : State} (hf : State.Within μ s₀ s) (p : Nat) (id : Nat) (hm :
    0x400000000000000000000000000000000000000000000 ||| μ = μ) : State.Within μ s₀ (State.dropRead s p id) := by
  unfold State.dropRead
  repeat' first
    | with_reducible assumption | (intro _) | with_reducible apply State.withdrawReads_within
    | with_reducible apply State.modPort_within | with_reducible apply State.Within.ite | exact maskSub rfl hm | split
    | dsimp only

theorem State.readBytes_within {μ : Nat} {s₀ s : State} (hf : State.Within μ s₀ s) (r : WRead) (a : Nat) (b : Nat) (hm
    : 0x40000000000000000000000000000000000000000000000000 ||| μ = μ) : State.Within μ s₀ (State.readBytes s r a b).2
    := by
  unfold State.readBytes
  repeat' first
    | with_reducible assumption | (intro _) | with_reducible apply State.freeBytes_within
    | with_reducible refine State.Within.pair (by assumption) ?_ | with_reducible apply State.Within.ite
    | exact maskSub rfl hm | split | dsimp only

theorem State.answerFlush_within {μ : Nat} {s₀ s : State} (hf : State.Within μ s₀ s) (p : Nat) (r : WRead) (hm :
    0x8000000090000000000000000000000c000000000000000000 ||| μ = μ) : State.Within μ s₀ (State.answerFlush s p r).2 :=
    by
  unfold State.answerFlush
  repeat' first
    | with_reducible assumption | (intro _) | with_reducible apply State.emitTlp_within
    | with_reducible apply State.answerCa_within | with_reducible apply State.missAt_within
    | with_reducible apply State.Within.ite | exact maskSub rfl hm | split | dsimp only

theorem State.answerRead_within {μ : Nat} {s₀ s : State} (hf : State.Within μ s₀ s) (p : Nat) (x2 : Nat) (x3 : WRead)
    (hm : 0xc000000090000000000000000000000c000000000000000000 ||| μ = μ) : State.Within μ s₀ (State.answerRead s p x2
    x3).2 := by
  induction x2 generalizing s x3 with
  | zero =>
    unfold State.answerRead
    repeat' first
      | with_reducible assumption | (intro _) | with_reducible apply State.answerFlush_within
      | with_reducible apply State.readBytes_within | with_reducible apply State.emitTlp_within
      | with_reducible apply State.missAt_within | with_reducible apply State.answerCa_within
      | with_reducible refine State.Within.pair (by assumption) ?_ | with_reducible apply State.Within.ite
      | exact maskSub rfl hm | split | dsimp only
  | succ n ih =>
    unfold State.answerRead
    repeat' first
      | with_reducible assumption | (intro _) | with_reducible apply ih
      | with_reducible apply State.answerFlush_within | with_reducible apply State.readBytes_within
      | with_reducible apply State.emitTlp_within | with_reducible apply State.missAt_within
      | with_reducible apply State.answerCa_within | with_reducible refine State.Within.pair (by assumption) ?_
      | with_reducible apply State.Within.ite | exact maskSub rfl hm | split | dsimp only

theorem State.answerReads_within {μ : Nat} {s₀ s : State} (hf : State.Within μ s₀ s) (p : Nat) (hm :
    0xc0803c0890000000000000000601c08c000000000000000000 ||| μ = μ) : State.Within μ s₀ (State.answerReads s p) := by
  unfold State.answerReads
  repeat' first
    | with_reducible assumption | (intro _) | with_reducible apply State.Within.foldlPair
    | with_reducible apply State.answerRead_within | with_reducible apply State.setRead_within
    | with_reducible apply State.dropRead_within | with_reducible apply State.Within.foldl
    | with_reducible apply State.holdsChanged_within | with_reducible apply State.pump_within
    | with_reducible refine State.Within.pair (by assumption) ?_ | with_reducible apply State.Within.ite
    | exact maskSub rfl hm | split | dsimp only

theorem State.failRead_within {μ : Nat} {s₀ s : State} (hf : State.Within μ s₀ s) (p : Nat) (id : Nat) (hm :
    0xc0803c0890000000000000000601c08c000000000000000000 ||| μ = μ) : State.Within μ s₀ (State.failRead s p id) := by
  unfold State.failRead
  repeat' first
    | with_reducible assumption | (intro _) | with_reducible apply State.withdrawReads_within
    | with_reducible apply State.modPort_within | with_reducible apply State.answerReads_within
    | with_reducible apply State.Within.ite | exact maskSub rfl hm | split | dsimp only

theorem State.addRead_within {μ : Nat} {s₀ s : State} (hf : State.Within μ s₀ s) (r : WRead) (hm :
    0x20000400000000000000000000000000000000000000000000 ||| μ = μ) : State.Within μ s₀ (State.addRead s r) := by
  unfold State.addRead
  repeat' first
    | with_reducible assumption | (intro _) | with_reducible apply State.modPort_within
    | with_reducible apply State.Within.ite | exact maskSub rfl hm | split | dsimp only
  all_goals with_reducible apply State.Within.other
  all_goals first | exact Or.inl rfl | exact Or.inl ⟨rfl, rfl⟩ | exact Or.inl ⟨rfl, rfl, rfl⟩ | exact Or.inr (maskSub rfl hm) | skip
  repeat' first
    | with_reducible assumption | (intro _) | with_reducible apply State.modPort_within
    | with_reducible apply State.Within.ite | exact maskSub rfl hm | split | dsimp only

theorem State.windowRead_within {μ : Nat} {s₀ s : State} (hf : State.Within μ s₀ s) (f : Nat) (addr : Nat) (dws : Nat)
    (firstBe : Nat) (lastBe : Nat) (reqTag : Nat) (hm : 0xe1843c4890000000000000001601c28c000000000000407800 ||| μ =
    μ) : State.Within μ s₀ (State.windowRead s f addr dws firstBe lastBe reqTag) := by
  unfold State.windowRead
  repeat' first
    | with_reducible assumption | (intro _) | with_reducible apply State.leaveL1_within
    | with_reducible apply State.wakeRegion_within | with_reducible apply State.answerUr_within
    | with_reducible apply State.answerCa_within | with_reducible apply State.bump_within
    | with_reducible apply State.countDown_within | with_reducible apply State.addRead_within
    | with_reducible apply State.answerReads_within | with_reducible apply State.accessKey_within
    | with_reducible apply State.wakePort_within | with_reducible apply State.enqueue_within
    | with_reducible refine State.Within.pair (by assumption) ?_ | with_reducible apply State.Within.ite
    | exact maskSub rfl hm | split | dsimp only

theorem State.windowWrite_within {μ : Nat} {s₀ s : State} (hf : State.Within μ s₀ s) (f : Nat) (addr : Nat) (data :
    List Byte) (firstBe : Nat) (lastBe : Nat) (hm : 0xe1843c4890000000000000001601c20c000000000000407800 ||| μ = μ) :
    State.Within μ s₀ (State.windowWrite s f addr data firstBe lastBe) := by
  unfold State.windowWrite
  repeat' first
    | with_reducible assumption | (intro _) | with_reducible apply State.leaveL1_within
    | with_reducible apply State.wakeRegion_within | with_reducible apply State.dropUr_within
    | with_reducible apply State.bump_within | with_reducible apply State.accessKey_within
    | with_reducible apply State.Within.each | with_reducible apply State.enqueue_within
    | with_reducible refine State.Within.pair (by assumption) ?_ | with_reducible apply State.Within.ite
    | exact maskSub rfl hm | split | dsimp only
  all_goals with_reducible apply State.Within.other
  all_goals first | exact Or.inl rfl | exact Or.inl ⟨rfl, rfl⟩ | exact Or.inl ⟨rfl, rfl, rfl⟩ | exact Or.inr (maskSub rfl hm) | skip
  repeat' first
    | with_reducible assumption | (intro _) | with_reducible apply State.leaveL1_within
    | with_reducible apply State.wakeRegion_within | with_reducible apply State.dropUr_within
    | with_reducible apply State.bump_within | with_reducible apply State.accessKey_within
    | with_reducible apply State.Within.each | with_reducible apply State.enqueue_within
    | with_reducible refine State.Within.pair (by assumption) ?_ | with_reducible apply State.Within.ite
    | exact maskSub rfl hm | split | dsimp only

theorem State.grantReserve_within {μ : Nat} {s₀ s : State} (hf : State.Within μ s₀ s) (p : Nat) (v : Nat) (hm :
    0xc0803c0810000000000000000601c08c000000000000000000 ||| μ = μ) : State.Within μ s₀ (State.grantReserve s p v) :=
    by
  unfold State.grantReserve
  repeat' first
    | with_reducible assumption | (intro _) | with_reducible apply State.setRead_within
    | with_reducible apply State.modPort_within | with_reducible apply State.holdsChanged_within
    | with_reducible apply State.pump_within | with_reducible apply State.Within.ite | exact maskSub rfl hm | split
    | dsimp only

end Sys2Proof.Machine
end

