-- ==== Sys2Proof/Laws/WithinQueues.lean ====
section
/-! SUPPORT. What the operations of descriptors, queues and engines leave alone
(State.Within): one lemma per operation. -/

namespace Sys2Proof.Machine

set_option linter.all false
set_option Elab.async false

theorem State.loadPorts_within {μ : Nat} {s₀ s : State} (hf : State.Within μ s₀ s) (ws : List Word) (hm :
    0x40000000000000000000 ||| μ = μ) : State.Within μ s₀ (State.loadPorts s ws) := by
  unfold State.loadPorts
  repeat' first
    | with_reducible assumption | (intro _) | with_reducible apply State.Within.each
    | with_reducible apply State.put_within | with_reducible apply State.Within.ite | exact maskSub rfl hm | split
    | dsimp only

theorem State.tryAdmission_within {μ : Nat} {s₀ s : State} (hf : State.Within μ s₀ s) (q : Nat) (d : Prefetched) (ws
    : List Word) (hm : 0x1000100000000000000000000040000000000000000000 ||| μ = μ) :
    State.Within μ s₀ (State.tryAdmission s q d ws).2 := by
  unfold State.tryAdmission
  dsimp only
  generalize s.estimate q ws = est
  repeat' first
    | with_reducible assumption | (intro _) | with_reducible apply State.modQueue_within
    | with_reducible apply State.loadPorts_within | with_reducible apply State.bump_within
    | with_reducible apply State.Within.ite | exact maskSub rfl hm | split | dsimp only

theorem State.readDescriptor_within {μ : Nat} {s₀ s : State} (hf : State.Within μ s₀ s) (q : Nat) (idx : Nat) (ws :
    List Word) (hm : 0x1000100000000000000000000040000000000000000000 ||| μ = μ) : State.Within μ s₀
    (State.readDescriptor s q idx ws).2 := by
  unfold State.readDescriptor
  repeat' first
    | with_reducible assumption | (intro _) | with_reducible apply State.keyFor_within
    | with_reducible apply State.tryAdmission_within | with_reducible refine State.Within.pair (by assumption) ?_
    | with_reducible apply State.Within.ite | exact maskSub rfl hm | split | dsimp only

theorem State.settleState_within {μ : Nat} {s₀ s : State} (hf : State.Within μ s₀ s) (q : Nat) (hm : 0x40000000000000
    ||| μ = μ) : State.Within μ s₀ (State.settleState s q) := by
  unfold State.settleState
  repeat' first
    | with_reducible assumption | (intro _) | with_reducible apply State.put_within
    | with_reducible apply State.Within.ite | exact maskSub rfl hm | split | dsimp only

theorem State.joinVector_within {μ : Nat} {s₀ s : State} (hf : State.Within μ s₀ s) (q : Nat) (key : Nat) (tagged :
    Bool) (hm : 0x1000000000000000000000000000000000000000000000 ||| μ = μ) : State.Within μ s₀ (State.joinVector s q
    key tagged) := by
  unfold State.joinVector
  repeat' first
    | with_reducible assumption | (intro _) | with_reducible apply State.modQueue_within
    | with_reducible apply State.Within.ite | exact maskSub rfl hm | split | dsimp only

theorem State.sendVector_within {μ : Nat} {s₀ s : State} (hf : State.Within μ s₀ s) (q : Nat) (hm :
    0x1049008000000000000000010000000002000000000007800 ||| μ = μ) : State.Within μ s₀ (State.sendVector s q) := by
  unfold State.sendVector
  repeat' first
    | with_reducible assumption | (intro _) | with_reducible apply State.put_within
    | with_reducible apply State.disarm_within | with_reducible apply State.modQueue_within
    | with_reducible apply State.askVector_within | with_reducible apply State.Within.ite | exact maskSub rfl hm
    | split | dsimp only

theorem State.timeEntry_within {μ : Nat} {s₀ s : State} (hf : State.Within μ s₀ s) (q : Nat) (n : Nat) (hm :
    0x1008000000000000000000000000000000000000000000 ||| μ = μ) : State.Within μ s₀ (State.timeEntry s q n) := by
  unfold State.timeEntry
  repeat' first
    | with_reducible assumption | (intro _) | with_reducible apply State.modQueue_within
    | with_reducible apply State.disarm_within | with_reducible apply State.arm_within
    | with_reducible apply State.Within.ite | exact maskSub rfl hm | split | dsimp only

theorem State.signalEntry_within {μ : Nat} {s₀ s : State} (hf : State.Within μ s₀ s) (q : Nat) (e : Entry) (hm :
    0x1049008000000000000000010000000002000000000007800 ||| μ = μ) : State.Within μ s₀ (State.signalEntry s q e) := by
  unfold State.signalEntry
  repeat' first
    | with_reducible assumption | (intro _) | with_reducible apply State.joinVector_within
    | with_reducible apply State.sendVector_within | with_reducible apply State.put_within
    | with_reducible apply State.timeEntry_within | with_reducible apply State.Within.ite | exact maskSub rfl hm
    | split | dsimp only

theorem State.callEntry_within {μ : Nat} {s₀ s : State} (hf : State.Within μ s₀ s) (q : Nat) (hm :
    0x41040040100000000000000010000000000000000000407800 ||| μ = μ) : State.Within μ s₀ (State.callEntry s q) := by
  unfold State.callEntry
  repeat' first
    | with_reducible assumption | (intro _) | with_reducible apply State.callHost_within
    | with_reducible apply State.Within.ite | exact maskSub rfl hm | split | dsimp only

theorem State.countMiss_within {μ : Nat} {s₀ s : State} (hf : State.Within μ s₀ s) (q : Nat) (e : Entry) (hm :
    0x10000000000000000000000c000000000000000000 ||| μ = μ) : State.Within μ s₀ (State.countMiss s q e) := by
  unfold State.countMiss
  repeat' first
    | with_reducible assumption | (intro _) | with_reducible apply State.missAt_within
    | with_reducible apply State.Within.ite | exact maskSub rfl hm | split | dsimp only

theorem State.endDescriptor_within {μ : Nat} {s₀ s : State} (hf : State.Within μ s₀ s) (q : Nat) (hm :
    0x1000000000000000000000000000000040000000000000 ||| μ = μ) : State.Within μ s₀ (State.endDescriptor s q) := by
  unfold State.endDescriptor
  repeat' first
    | with_reducible assumption | (intro _) | with_reducible apply State.modQueue_within
    | with_reducible apply State.put_within | with_reducible apply State.settleState_within
    | with_reducible apply State.Within.ite | exact maskSub rfl hm | split | dsimp only

theorem State.advanceHeads_within {μ : Nat} {s₀ s : State} (hf : State.Within μ s₀ s) (q : Nat) (final : Bool) (hm :
    0x1840000000000000 ||| μ = μ) : State.Within μ s₀ (State.advanceHeads s q final) := by
  unfold State.advanceHeads
  repeat' first
    | with_reducible assumption | (intro _) | with_reducible apply State.put_within
    | with_reducible apply State.Within.ite | exact maskSub rfl hm | split | dsimp only

theorem State.writeEntry_within {μ : Nat} {s₀ s : State} (hf : State.Within μ s₀ s) (q : Nat) (e : Entry) (hm :
    0xc1049048900000000000000010000000003840000100407800 ||| μ = μ) : State.Within μ s₀ (State.writeEntry s q e) := by
  unfold State.writeEntry
  repeat' first
    | with_reducible assumption | (intro _) | with_reducible apply State.hostWrite_within
    | with_reducible apply State.advanceHeads_within | with_reducible apply State.signalEntry_within
    | with_reducible apply State.Within.ite | exact maskSub rfl hm | split | dsimp only

theorem State.holdEntry_within {μ : Nat} {s₀ s : State} (hf : State.Within μ s₀ s) (q : Nat) (e : Entry) (hm :
    0x100010000000000000000000000c080040000000000000 ||| μ = μ) : State.Within μ s₀ (State.holdEntry s q e) := by
  unfold State.holdEntry
  repeat' first
    | with_reducible assumption | (intro _) | with_reducible apply State.Within.each
    | with_reducible apply State.setWord_within | with_reducible apply State.put_within
    | with_reducible apply State.modQueue_within | with_reducible apply State.countMiss_within
    | with_reducible apply State.Within.ite | exact maskSub rfl hm | split | dsimp only

theorem State.clearHeld_within {μ : Nat} {s₀ s : State} (hf : State.Within μ s₀ s) (q : Nat) (hm :
    0x1000000000000000000000000000080040000000000000 ||| μ = μ) : State.Within μ s₀ (State.clearHeld s q) := by
  unfold State.clearHeld
  repeat' first
    | with_reducible assumption | (intro _) | with_reducible apply State.Within.each
    | with_reducible apply State.setWord_within | with_reducible apply State.put_within
    | with_reducible apply State.modQueue_within | with_reducible apply State.Within.ite | exact maskSub rfl hm
    | split | dsimp only

theorem State.writeHeld_within {μ : Nat} {s₀ s : State} (hf : State.Within μ s₀ s) (q : Nat) (hm :
    0xc1049048900000000000000010000000083840000100407800 ||| μ = μ) : State.Within μ s₀ (State.writeHeld s q) := by
  unfold State.writeHeld
  repeat' first
    | with_reducible assumption | (intro _) | with_reducible apply State.callEntry_within
    | with_reducible apply State.clearHeld_within | with_reducible apply State.writeEntry_within
    | with_reducible apply State.Within.ite | exact maskSub rfl hm | split | dsimp only

theorem State.tryHeld_within {μ : Nat} {s₀ s : State} (hf : State.Within μ s₀ s) (q : Nat) (hm :
    0xc1049048900000000000000010000000083840000100407800 ||| μ = μ) : State.Within μ s₀ (State.tryHeld s q) := by
  unfold State.tryHeld
  repeat' first
    | with_reducible assumption | (intro _) | with_reducible apply State.writeHeld_within
    | with_reducible apply State.settleState_within | with_reducible apply State.Within.ite | exact maskSub rfl hm
    | split | dsimp only

theorem State.recordResume_within {μ : Nat} {s₀ s : State} (hf : State.Within μ s₀ s) (q : Nat) (c : Current) (hm :
    0x1c000000000000000 ||| μ = μ) : State.Within μ s₀ (State.recordResume s q c) := by
  unfold State.recordResume
  repeat' first
    | with_reducible assumption | (intro _) | with_reducible apply State.put_within
    | with_reducible apply State.Within.ite | exact maskSub rfl hm | split | dsimp only

theorem State.endPace_within {μ : Nat} {s₀ s : State} (hf : State.Within μ s₀ s) (e : Nat) (hm :
    0x2000100000000000000000000000100000000000000000 ||| μ = μ) : State.Within μ s₀ (State.endPace s e) := by
  unfold State.endPace
  repeat' first
    | with_reducible assumption | (intro _) | with_reducible apply State.bumpBy_within
    | with_reducible apply State.put_within | with_reducible apply State.modEng_within
    | with_reducible apply State.Within.ite | exact maskSub rfl hm | split | dsimp only

theorem State.releaseEngine_within {μ : Nat} {s₀ s : State} (hf : State.Within μ s₀ s) (e : Nat) (hm :
    0x2000100000000000000000000000500000000000000000 ||| μ = μ) : State.Within μ s₀ (State.releaseEngine s e) := by
  unfold State.releaseEngine
  repeat' first
    | with_reducible assumption | (intro _) | with_reducible apply State.endPace_within
    | with_reducible apply State.bumpBy_within | with_reducible apply State.put_within
    | with_reducible apply State.setWord_within | with_reducible apply State.modEng_within
    | with_reducible apply State.Within.ite | exact maskSub rfl hm | split | dsimp only

theorem State.noteEngine_within {μ : Nat} {s₀ s : State} (hf : State.Within μ s₀ s) (e : Nat) (hm :
    0x400000000000000000 ||| μ = μ) : State.Within μ s₀ (State.noteEngine s e) := by
  unfold State.noteEngine
  repeat' first
    | with_reducible assumption | (intro _) | with_reducible apply State.Within.foldl
    | with_reducible apply State.put_within | with_reducible apply State.Within.ite | exact maskSub rfl hm | split
    | dsimp only

theorem State.drainEngine_within {μ : Nat} {s₀ s : State} (hf : State.Within μ s₀ s) (e : Nat) (hm :
    0x2040100000000000000000000000500000000000000000 ||| μ = μ) : State.Within μ s₀ (State.drainEngine s e) := by
  unfold State.drainEngine
  repeat' first
    | with_reducible assumption | (intro _) | with_reducible apply State.endPace_within
    | with_reducible apply State.Within.each | with_reducible apply State.modHost_within
    | with_reducible apply State.modEng_within | with_reducible apply State.releaseEngine_within
    | with_reducible apply State.put_within | with_reducible apply State.noteEngine_within
    | with_reducible apply State.Within.ite | exact maskSub rfl hm | split | dsimp only

theorem State.dropFetches_within {μ : Nat} {s₀ s : State} (hf : State.Within μ s₀ s) (q : Nat) (ext : Bool) (hm :
    0x1040000000000000000000000000000000000000000000 ||| μ = μ) : State.Within μ s₀ (State.dropFetches s q ext) := by
  unfold State.dropFetches
  repeat' first
    | with_reducible assumption | (intro _) | with_reducible apply State.modHost_within
    | with_reducible apply State.modQueue_within | with_reducible apply State.Within.ite | exact maskSub rfl hm
    | split | dsimp only

theorem State.loseExt_within {μ : Nat} {s₀ s : State} (hf : State.Within μ s₀ s) (q : Nat) (hm :
    0x1040000000000000000000000000000000000000000000 ||| μ = μ) : State.Within μ s₀ (State.loseExt s q) := by
  unfold State.loseExt
  repeat' first
    | with_reducible assumption | (intro _) | with_reducible apply State.modHost_within
    | with_reducible apply State.modQueue_within | with_reducible apply State.Within.ite | exact maskSub rfl hm
    | split | dsimp only

theorem State.settleEntry_within {μ : Nat} {s₀ s : State} (hf : State.Within μ s₀ s) (q : Nat) (hm :
    0xc104904890000000000000001000000c083840000100407800 ||| μ = μ) : State.Within μ s₀ (State.settleEntry s q) := by
  unfold State.settleEntry
  repeat' first
    | with_reducible assumption | (intro _) | with_reducible apply State.holdEntry_within
    | with_reducible apply State.put_within | with_reducible apply State.bump_within
    | with_reducible apply State.callEntry_within | with_reducible apply State.modQueue_within
    | with_reducible apply State.writeEntry_within | with_reducible apply State.countMiss_within
    | with_reducible apply State.endDescriptor_within | with_reducible apply State.Within.ite | exact maskSub rfl hm
    | split | dsimp only

theorem State.errorHalt_within {μ : Nat} {s₀ s : State} (hf : State.Within μ s₀ s) (q : Nat) (status : Nat) (addr :
    Nat) (dir : Nat) (space : Nat) (source : Nat) (hm : 0xc104b04890000000000000001000000c5ff840000100407800 ||| μ =
    μ) : State.Within μ s₀ (State.errorHalt s q status addr dir space source) := by
  unfold State.errorHalt
  repeat' first
    | with_reducible assumption | (intro _) | with_reducible apply State.bump_within
    | with_reducible apply State.put_within | with_reducible apply State.recordResume_within
    | with_reducible apply State.loseExt_within | with_reducible apply State.modQueue_within
    | with_reducible apply State.drainEngine_within | with_reducible apply State.settleEntry_within
    | with_reducible apply State.Within.ite | exact maskSub rfl hm | split | dsimp only

theorem State.kick_within {μ : Nat} {s₀ s : State} (hf : State.Within μ s₀ s) (q : Nat) (hm :
    0xc104b04890000000000000001000000c5ff840000100407800 ||| μ = μ) : State.Within μ s₀ (State.kick s q) := by
  unfold State.kick
  repeat' first
    | with_reducible assumption | (intro _) | with_reducible apply State.modQueue_within
    | with_reducible apply State.errorHalt_within | with_reducible apply State.Within.ite | exact maskSub rfl hm
    | split | dsimp only

theorem State.finishEntry_within {μ : Nat} {s₀ s : State} (hf : State.Within μ s₀ s) (q : Nat) (hm :
    0xc104b04890000000000000001000000c5ff840000100407800 ||| μ = μ) : State.Within μ s₀ (State.finishEntry s q) := by
  unfold State.finishEntry
  repeat' first
    | with_reducible assumption | (intro _) | with_reducible apply State.settleEntry_within
    | with_reducible apply State.kick_within | with_reducible apply State.Within.ite | exact maskSub rfl hm | split
    | dsimp only

theorem State.tryEntry_within {μ : Nat} {s₀ s : State} (hf : State.Within μ s₀ s) (q : Nat) (hm :
    0xc104b04890000000000000001000000c5ff840000100407800 ||| μ = μ) : State.Within μ s₀ (State.tryEntry s q) := by
  unfold State.tryEntry
  repeat' first
    | with_reducible assumption | (intro _) | with_reducible apply State.tryHeld_within
    | with_reducible apply State.finishEntry_within | with_reducible apply State.Within.ite | exact maskSub rfl hm
    | split | dsimp only

theorem State.takeTails_within {μ : Nat} {s₀ s : State} (hf : State.Within μ s₀ s) (f : Nat) (q : Nat) (st : Nat) (ct
    : Nat) (hm : 0xc104b04890000000000000001000000c5ff840000100407800 ||| μ = μ) : State.Within μ s₀ (State.takeTails
    s f q st ct) := by
  unfold State.takeTails
  repeat' first
    | with_reducible assumption | (intro _) | with_reducible apply State.put_within
    | with_reducible apply State.modQueue_within | with_reducible apply State.tryEntry_within
    | with_reducible apply State.Within.ite | exact maskSub rfl hm | split | dsimp only

theorem State.ringDoorbell_within {μ : Nat} {s₀ s : State} (hf : State.Within μ s₀ s) (f : Nat) (off : Nat) (len :
    Nat) (be : Nat) (value : Word) (hm : 0xc104b04890000000000000001000000c5ff840000100407800 ||| μ = μ) :
    State.Within μ s₀ (State.ringDoorbell s f off len be value) := by
  unfold State.ringDoorbell
  repeat' first
    | with_reducible assumption | (intro _) | with_reducible apply State.bump_within
    | with_reducible apply State.wakeRegion_within | with_reducible apply State.takeTails_within
    | with_reducible apply State.Within.ite | exact maskSub rfl hm | split | dsimp only

theorem State.fetchGrant_within {μ : Nat} {s₀ s : State} (hf : State.Within μ s₀ s) (hm :
    0xc184104090000000000000001000000c000000000100407800 ||| μ = μ) : State.Within μ s₀ (State.fetchGrant s) := by
  unfold State.fetchGrant
  repeat' first
    | with_reducible assumption | (intro _) | with_reducible apply State.servedAt_within
    | with_reducible apply State.modQueue_within | with_reducible apply State.askHost_within
    | with_reducible apply State.Within.ite | exact maskSub rfl hm | split | dsimp only

theorem State.reloadDescriptor_within {μ : Nat} {s₀ s : State} (hf : State.Within μ s₀ s) (q : Nat) (c : Current) (ws
    : List Word) (hm : 0xc104b04890000000000000001000004c5ff840000100407800 ||| μ = μ) : State.Within μ s₀
    (State.reloadDescriptor s q c ws) := by
  unfold State.reloadDescriptor
  repeat' first
    | with_reducible assumption | (intro _) | with_reducible apply State.readDescriptor_within
    | with_reducible apply State.modQueue_within | with_reducible apply State.finishEntry_within
    | with_reducible refine State.Within.pair (by assumption) ?_ | with_reducible apply State.Within.ite
    | exact maskSub rfl hm | split | dsimp only

theorem State.takeDescriptors_within {μ : Nat} {s₀ s : State} (hf : State.Within μ s₀ s) (q : Nat) (hm :
    0xc104b04890000000000000001000004c5ff840000100407800 ||| μ = μ) : State.Within μ s₀ (State.takeDescriptors s q) :=
    by
  unfold State.takeDescriptors
  repeat' first
    | with_reducible assumption | (intro _) | with_reducible apply State.Within.each
    | with_reducible apply State.readDescriptor_within | with_reducible apply State.modQueue_within
    | with_reducible apply State.kick_within | with_reducible apply State.reloadDescriptor_within
    | with_reducible refine State.Within.pair (by assumption) ?_ | with_reducible apply State.Within.ite
    | exact maskSub rfl hm | split | dsimp only

theorem State.rejectCmd_within {μ : Nat} {s₀ s : State} (hf : State.Within μ s₀ s) (q : Nat) (hm : 0x40000000000000
    ||| μ = μ) : State.Within μ s₀ (State.rejectCmd s q) := by
  unfold State.rejectCmd
  repeat' first
    | with_reducible assumption | (intro _) | with_reducible apply State.put_within
    | with_reducible apply State.Within.ite | exact maskSub rfl hm | split | dsimp only

theorem State.zeroIndices_within {μ : Nat} {s₀ s : State} (hf : State.Within μ s₀ s) (q : Nat) (hm :
    0x1800000000000000 ||| μ = μ) : State.Within μ s₀ (State.zeroIndices s q) := by
  unfold State.zeroIndices
  repeat' first
    | with_reducible assumption | (intro _) | with_reducible apply State.put_within
    | with_reducible apply State.Within.ite | exact maskSub rfl hm | split | dsimp only

theorem State.enableQueue_within {μ : Nat} {s₀ s : State} (hf : State.Within μ s₀ s) (q : Nat) (hm :
    0x1000000000000000000000000000001840000000000000 ||| μ = μ) : State.Within μ s₀ (State.enableQueue s q) := by
  unfold State.enableQueue
  repeat' first
    | with_reducible assumption | (intro _) | with_reducible apply State.rejectCmd_within
    | with_reducible apply State.zeroIndices_within | with_reducible apply State.put_within
    | with_reducible apply State.setQueue_within | with_reducible apply State.Within.ite | exact maskSub rfl hm
    | split | dsimp only

theorem State.stopQueue_within {μ : Nat} {s₀ s : State} (hf : State.Within μ s₀ s) (q : Nat) (hm :
    0x1000000000000000000000000000000040000000000000 ||| μ = μ) : State.Within μ s₀ (State.stopQueue s q) := by
  unfold State.stopQueue
  repeat' first
    | with_reducible assumption | (intro _) | with_reducible apply State.rejectCmd_within
    | with_reducible apply State.put_within | with_reducible apply State.modQueue_within
    | with_reducible apply State.Within.ite | exact maskSub rfl hm | split | dsimp only

theorem State.goOn_within {μ : Nat} {s₀ s : State} (hf : State.Within μ s₀ s) (q : Nat) (op : Nat) (hm :
    0xc104b04890000000000000001000000c5ff840000100407800 ||| μ = μ) : State.Within μ s₀ (State.goOn s q op) := by
  unfold State.goOn
  repeat' first
    | with_reducible assumption | (intro _) | with_reducible apply State.writeHeld_within
    | with_reducible apply State.put_within | with_reducible apply State.modQueue_within
    | with_reducible apply State.settleState_within | with_reducible apply State.tryEntry_within
    | with_reducible apply State.Within.ite | exact maskSub rfl hm | split | dsimp only

theorem State.runWaiting_within {μ : Nat} {s₀ s : State} (hf : State.Within μ s₀ s) (q : Nat) (hm :
    0xc104b04890000000000000001000000c5ff840000100407800 ||| μ = μ) : State.Within μ s₀ (State.runWaiting s q) := by
  unfold State.runWaiting
  repeat' first
    | with_reducible assumption | (intro _) | with_reducible apply State.goOn_within
    | with_reducible apply State.Within.ite | exact maskSub rfl hm | split | dsimp only

theorem State.haltCmd_within {μ : Nat} {s₀ s : State} (hf : State.Within μ s₀ s) (q : Nat) (op : Nat) (hm :
    0xc104b04890000000000000001000000c5ff840000100407800 ||| μ = μ) : State.Within μ s₀ (State.haltCmd s q op) := by
  unfold State.haltCmd
  repeat' first
    | with_reducible assumption | (intro _) | with_reducible apply State.writeHeld_within
    | with_reducible apply State.settleState_within | with_reducible apply State.kick_within
    | with_reducible apply State.modQueue_within | with_reducible apply State.runWaiting_within
    | with_reducible apply State.rejectCmd_within | with_reducible apply State.Within.ite | exact maskSub rfl hm
    | split | dsimp only

theorem State.extEnds_within {μ : Nat} {s₀ s : State} (hf : State.Within μ s₀ s) (q : Nat) (hm :
    0xc104b04890000000000000001000000c5ff840000100407800 ||| μ = μ) : State.Within μ s₀ (State.extEnds s q) := by
  unfold State.extEnds
  repeat' first
    | with_reducible assumption | (intro _) | with_reducible apply State.modQueue_within
    | with_reducible apply State.runWaiting_within | with_reducible apply State.Within.ite | exact maskSub rfl hm
    | split | dsimp only

theorem State.failedAhead_within {μ : Nat} {s₀ s : State} (hf : State.Within μ s₀ s) (q : Nat) (i : Nat) (n : Nat)
    (addr : Nat) (hm : 0x1000000000000000000000000000000000000000000000 ||| μ = μ) : State.Within μ s₀
    (State.failedAhead s q i n addr) := by
  unfold State.failedAhead
  repeat' first
    | with_reducible assumption | (intro _) | with_reducible apply State.modQueue_within
    | with_reducible apply State.Within.ite | exact maskSub rfl hm | split | dsimp only

theorem State.fetchFailed_within {μ : Nat} {s₀ s : State} (hf : State.Within μ s₀ s) (q : Nat) (purpose : HPurpose)
    (addr : Nat) (hm : 0xc104b04890000000000000001000000c5ff840000100407800 ||| μ = μ) : State.Within μ s₀
    (State.fetchFailed s q purpose addr) := by
  unfold State.fetchFailed
  repeat' first
    | with_reducible assumption | (intro _) | with_reducible apply State.errorHalt_within
    | with_reducible apply State.extEnds_within | with_reducible apply State.modQueue_within
    | with_reducible apply State.failedAhead_within | with_reducible apply State.kick_within
    | with_reducible apply State.Within.ite | exact maskSub rfl hm | split | dsimp only

theorem State.fetchDone_within {μ : Nat} {s₀ s : State} (hf : State.Within μ s₀ s) (q : Nat) (purpose : HPurpose) (bs
    : List Byte) (hm : 0xc104b04890000000000000001000000c5ff840000100407800 ||| μ = μ) : State.Within μ s₀
    (State.fetchDone s q purpose bs) := by
  unfold State.fetchDone
  repeat' first
    | with_reducible assumption | (intro _) | with_reducible apply State.wakeRegion_within
    | with_reducible apply State.modQueue_within | with_reducible apply State.extEnds_within
    | with_reducible apply State.Within.ite | exact maskSub rfl hm | split | dsimp only

theorem State.disableQueue_within {μ : Nat} {s₀ s : State} (hf : State.Within μ s₀ s) (q : Nat) (hm :
    0x1040100000000000000000000000081840000000000000 ||| μ = μ) : State.Within μ s₀ (State.disableQueue s q) := by
  unfold State.disableQueue
  repeat' first
    | with_reducible assumption | (intro _) | with_reducible apply State.bump_within
    | with_reducible apply State.clearHeld_within | with_reducible apply State.zeroIndices_within
    | with_reducible apply State.put_within | with_reducible apply State.dropFetches_within
    | with_reducible apply State.setQueue_within | with_reducible apply State.rejectCmd_within
    | with_reducible apply State.Within.ite | exact maskSub rfl hm | split | dsimp only

theorem State.queueCmd_within {μ : Nat} {s₀ s : State} (hf : State.Within μ s₀ s) (q : Nat) (op : Nat) (hm :
    0xc104b04890000000000000001000000c5ff840000100407800 ||| μ = μ) : State.Within μ s₀ (State.queueCmd s q op) := by
  unfold State.queueCmd
  repeat' first
    | with_reducible assumption | (intro _) | with_reducible apply State.enableQueue_within
    | with_reducible apply State.stopQueue_within | with_reducible apply State.haltCmd_within
    | with_reducible apply State.disableQueue_within | with_reducible apply State.Within.ite | exact maskSub rfl hm
    | split | dsimp only

theorem State.boundaryHalt_within {μ : Nat} {s₀ s : State} (hf : State.Within μ s₀ s) (q : Nat) (hm :
    0xc104b04890000000000000001000000c59f840000100407800 ||| μ = μ) : State.Within μ s₀ (State.boundaryHalt s q) := by
  unfold State.boundaryHalt
  repeat' first
    | with_reducible assumption | (intro _) | with_reducible apply State.put_within
    | with_reducible apply State.recordResume_within | with_reducible apply State.drainEngine_within
    | with_reducible apply State.loseExt_within | with_reducible apply State.modQueue_within
    | with_reducible apply State.settleEntry_within | with_reducible apply State.Within.ite | exact maskSub rfl hm
    | split | dsimp only

theorem State.bmeHalt_within {μ : Nat} {s₀ s : State} (hf : State.Within μ s₀ s) (q : Nat) (hm :
    0xc104b04890000000000000001000000c5ff840000100407800 ||| μ = μ) : State.Within μ s₀ (State.bmeHalt s q) := by
  unfold State.bmeHalt
  repeat' first
    | with_reducible assumption | (intro _) | with_reducible apply State.dropFetches_within
    | with_reducible apply State.boundaryHalt_within | with_reducible apply State.finishEntry_within
    | with_reducible apply State.Within.ite | exact maskSub rfl hm | split | dsimp only

theorem State.haltChannels_within {μ : Nat} {s₀ s : State} (hf : State.Within μ s₀ s) (f : Nat) (hm :
    0xc104b04890000000000000001000000c5ff840000100407800 ||| μ = μ) : State.Within μ s₀ (State.haltChannels s f) := by
  unfold State.haltChannels
  repeat' first
    | with_reducible assumption | (intro _) | with_reducible apply State.Within.each
    | with_reducible apply State.bmeHalt_within | with_reducible apply State.Within.ite | exact maskSub rfl hm | split
    | dsimp only

theorem State.retryEntries_within {μ : Nat} {s₀ s : State} (hf : State.Within μ s₀ s) (hm :
    0xc104b04890000000000000001000000c5ff840000100407800 ||| μ = μ) : State.Within μ s₀ (State.retryEntries s) := by
  unfold State.retryEntries
  repeat' first
    | with_reducible assumption | (intro _) | with_reducible apply State.Within.each
    | with_reducible apply State.tryEntry_within | with_reducible apply State.Within.ite | exact maskSub rfl hm
    | split | dsimp only

theorem State.kickQueues_within {μ : Nat} {s₀ s : State} (hf : State.Within μ s₀ s) (f : Nat) (hm :
    0xc104b04890000000000000001000000c5ff840000100407800 ||| μ = μ) : State.Within μ s₀ (State.kickQueues s f) := by
  unfold State.kickQueues
  repeat' first
    | with_reducible assumption | (intro _) | with_reducible apply State.Within.each
    | with_reducible apply State.tryEntry_within | with_reducible apply State.Within.ite | exact maskSub rfl hm
    | split | dsimp only

theorem State.limited_within {μ : Nat} {s₀ s : State} (hf : State.Within μ s₀ s) (e : Nat) (q : Nat) (n : Nat) (p :
    Nat) (write : Bool) (at_ : Option Nat) (hm : 0x2000000000000000000000000000000000000000000000 ||| μ = μ) : ∀ t,
    State.limited s e q n p write at_ = some t → State.Within μ s₀ t := by
  unfold State.limited
  repeat' first
    | with_reducible assumption | exact withinNone | with_reducible refine withinSome ?_
    | with_reducible refine withinIte ?_ ?_ | split | with_reducible apply State.modEng_within
    | with_reducible apply State.Within.ite | exact maskSub rfl hm | dsimp only | (intro _)

theorem State.startPace_within {μ : Nat} {s₀ s : State} (hf : State.Within μ s₀ s) (e : Nat) (hm :
    0x2000000000000000000000000000100000000000000000 ||| μ = μ) : State.Within μ s₀ (State.startPace s e) := by
  unfold State.startPace
  repeat' first
    | with_reducible assumption | (intro _) | with_reducible apply State.put_within
    | with_reducible apply State.modEng_within | with_reducible apply State.Within.ite | exact maskSub rfl hm | split
    | dsimp only

theorem State.ledgerHalt_within {μ : Nat} {s₀ s : State} (hf : State.Within μ s₀ s) (q : Nat) (a : Nat) (denied :
    Bool) (write : Bool) (hm : 0xc104b04890000000000000001000000c5ff840000100407800 ||| μ = μ) : State.Within μ s₀
    (State.ledgerHalt s q a denied write) := by
  unfold State.ledgerHalt
  repeat' first
    | with_reducible assumption | (intro _) | with_reducible apply State.errorHalt_within
    | with_reducible apply State.Within.ite | exact maskSub rfl hm | split | dsimp only

theorem State.Within.afterWent {μ : Nat} {s₀ s : State} (h : State.Within μ s₀ s) :
    State.Within μ s₀ (EngStep.went s).after := h

theorem State.Within.afterStuck {μ : Nat} {s₀ s : State} (h : State.Within μ s₀ s) :
    State.Within μ s₀ (EngStep.stuck s).after := h

theorem State.Within.afterPaced {μ : Nat} {s₀ s : State} (h : State.Within μ s₀ s) :
    State.Within μ s₀ (EngStep.paced s).after := h

theorem State.Within.afterHalted {μ : Nat} {s₀ s : State} (h : State.Within μ s₀ s) :
    State.Within μ s₀ (EngStep.halted s).after := h

theorem State.Within.afterIte {μ : Nat} {s₀ : State} {c : Prop} [Decidable c] {a b : EngStep}
    (ha : State.Within μ s₀ a.after) (hb : State.Within μ s₀ b.after) :
    State.Within μ s₀ (if c then a else b).after := by
  split <;> assumption

theorem State.Within.step {μ : Nat} {s₀ s : State} {r : EngStep} (h : State.Within μ s₀ r.after)
    (k : r = .went s ∨ r = .stuck s ∨ r = .paced s ∨ r = .halted s) : State.Within μ s₀ s := by
  rcases k with rfl | rfl | rfl | rfl <;> exact h

theorem State.readStep_within {μ : Nat} {s₀ s : State} (hf : State.Within μ s₀ s) (e : Nat) (q : Nat) (c : Current)
    (at_ : Option Nat) (hm : 0xc184bc4890000000000000001601c20c5ff840000100407800 ||| μ = μ) : State.Within μ s₀
    (State.readStep s e q c at_).after := by
  unfold State.readStep
  repeat' first
    | with_reducible assumption | with_reducible apply State.ledgerHalt_within
    | with_reducible apply State.modPort_within | with_reducible apply State.modEng_within
    | with_reducible apply State.enqueue_within | with_reducible apply State.askHost_within
    | with_reducible refine State.limited_within ?_ _ _ _ _ _ _ ?_ _ (by assumption)
    | with_reducible apply State.Within.afterIte | with_reducible apply State.Within.afterWent
    | with_reducible apply State.Within.afterStuck | with_reducible apply State.Within.afterPaced
    | with_reducible apply State.Within.afterHalted | exact maskSub rfl hm | split | dsimp only

theorem State.wrote_within {μ : Nat} {s₀ s : State} (hf : State.Within μ s₀ s) (e : Nat) (q : Nat) (c : Current) (x :
    Nat) (n : Nat) (hm : 0x3000100000000000000000000000200000000000000000 ||| μ = μ) : State.Within μ s₀ (State.wrote
    s e q c x n) := by
  unfold State.wrote
  repeat' first
    | with_reducible assumption | (intro _) | with_reducible apply State.modEng_within
    | with_reducible apply State.modQueue_within | with_reducible apply State.put_within
    | with_reducible apply State.bumpBy_within | with_reducible apply State.Within.ite | exact maskSub rfl hm | split
    | dsimp only

theorem State.writeStep_within {μ : Nat} {s₀ s : State} (hf : State.Within μ s₀ s) (e : Nat) (q : Nat) (c : Current)
    (at_ : Option Nat) (hm : 0xc184bc4890000000000000001601c20c7ff840000100407800 ||| μ = μ) : State.Within μ s₀
    (State.writeStep s e q c at_).after := by
  unfold State.writeStep
  repeat' first
    | with_reducible assumption | with_reducible apply State.ledgerHalt_within
    | with_reducible apply State.modQueue_within | with_reducible apply State.wrote_within
    | with_reducible apply State.enqueue_within | with_reducible apply State.callHost_within
    | with_reducible apply State.hostWrite_within
    | with_reducible refine State.limited_within ?_ _ _ _ _ _ _ ?_ _ (by assumption)
    | with_reducible apply State.Within.afterIte | with_reducible apply State.Within.afterWent
    | with_reducible apply State.Within.afterStuck | with_reducible apply State.Within.afterPaced
    | with_reducible apply State.Within.afterHalted | exact maskSub rfl hm | split | dsimp only

theorem State.beginPiece_within {μ : Nat} {s₀ s : State} (hf : State.Within μ s₀ s) (e : Nat) (q : Nat) (c : Current)
    (hm : 0x3000000000000000000000000000200000000000000000 ||| μ = μ) : State.Within μ s₀ (State.beginPiece s e q c)
    := by
  unfold State.beginPiece
  repeat' first
    | with_reducible assumption | (intro _) | with_reducible apply State.modEng_within
    | with_reducible apply State.modQueue_within | with_reducible apply State.put_within
    | with_reducible apply State.Within.ite | exact maskSub rfl hm | split | dsimp only

theorem State.finishRun_within {μ : Nat} {s₀ s : State} (hf : State.Within μ s₀ s) (e : Nat) (q : Nat) (status : Nat)
    (hm : 0xc104b04890000000000000001000000c5ff840000100407800 ||| μ = μ) : State.Within μ s₀ (State.finishRun s e q
    status) := by
  unfold State.finishRun
  repeat' first
    | with_reducible assumption | (intro _) | with_reducible apply State.modQueue_within
    | with_reducible apply State.releaseEngine_within | with_reducible apply State.bump_within
    | with_reducible apply State.finishEntry_within | with_reducible apply State.Within.ite | exact maskSub rfl hm
    | split | dsimp only

theorem State.nextPiece_within {μ : Nat} {s₀ s : State} (hf : State.Within μ s₀ s) (e : Nat) (q : Nat) (c : Current)
    (hm : 0xc104b04890000000000000001000000c7ff840000100407800 ||| μ = μ) : State.Within μ s₀ (State.nextPiece s e q
    c).2 := by
  unfold State.nextPiece
  repeat' first
    | with_reducible assumption | (intro _) | with_reducible apply State.finishRun_within
    | with_reducible apply State.beginPiece_within | with_reducible apply State.Within.ite | exact maskSub rfl hm
    | split | dsimp only

theorem State.runFor_within {μ : Nat} {s₀ s : State} (hf : State.Within μ s₀ s) (e : Nat) (q : Nat) (x3 : Nat) (x4 :
    Option Nat) (hm : 0xc184bc4890000000000000001601c20c7ff840000100407800 ||| μ = μ) : State.Within μ s₀
    (State.runFor s e q x3 x4) := by
  induction x3 generalizing s x4 with
  | zero =>
    unfold State.runFor
    repeat' first
      | with_reducible assumption | (intro _) | with_reducible apply State.writeStep_within
      | with_reducible apply State.endPace_within | with_reducible apply State.readStep_within
      | with_reducible apply State.startPace_within | with_reducible apply State.nextPiece_within
      | with_reducible refine State.Within.pair (by assumption) ?_
      | with_reducible refine State.Within.step ?_ (Or.inl (by assumption))
      | with_reducible refine State.Within.step ?_ (Or.inr (Or.inl (by assumption)))
      | with_reducible refine State.Within.step ?_ (Or.inr (Or.inr (Or.inl (by assumption))))
      | with_reducible refine State.Within.step ?_ (Or.inr (Or.inr (Or.inr (by assumption))))
      | with_reducible apply State.Within.ite | exact maskSub rfl hm | split | dsimp only
  | succ n ih =>
    unfold State.runFor
    repeat' first
      | with_reducible assumption | (intro _) | with_reducible apply ih | with_reducible apply State.writeStep_within
      | with_reducible apply State.endPace_within | with_reducible apply State.readStep_within
      | with_reducible apply State.startPace_within | with_reducible apply State.nextPiece_within
      | with_reducible refine State.Within.pair (by assumption) ?_
      | with_reducible refine State.Within.step ?_ (Or.inl (by assumption))
      | with_reducible refine State.Within.step ?_ (Or.inr (Or.inl (by assumption)))
      | with_reducible refine State.Within.step ?_ (Or.inr (Or.inr (Or.inl (by assumption))))
      | with_reducible refine State.Within.step ?_ (Or.inr (Or.inr (Or.inr (by assumption))))
      | with_reducible apply State.Within.ite | exact maskSub rfl hm | split | dsimp only

theorem State.runEngine_within {μ : Nat} {s₀ s : State} (hf : State.Within μ s₀ s) (e : Nat) (at_ : Option Nat) (hm :
    0xc184bc4890000000000000001601c20c7ff840000100407800 ||| μ = μ) : State.Within μ s₀ (State.runEngine s e at_) :=
    by
  unfold State.runEngine
  repeat' first
    | with_reducible assumption | (intro _) | with_reducible apply State.runFor_within
    | with_reducible apply State.noteEngine_within | with_reducible apply State.Within.ite | exact maskSub rfl hm
    | split | dsimp only

theorem State.runEngines_within {μ : Nat} {s₀ s : State} (hf : State.Within μ s₀ s) (hm :
    0xc184bc4890000000000000001601c20c7ff840000100407800 ||| μ = μ) : State.Within μ s₀ (State.runEngines s) := by
  unfold State.runEngines
  repeat' first
    | with_reducible assumption | (intro _) | with_reducible apply State.Within.each
    | with_reducible apply State.runEngine_within | with_reducible apply State.Within.ite | exact maskSub rfl hm
    | split | dsimp only

theorem State.bindEngine_within {μ : Nat} {s₀ s : State} (hf : State.Within μ s₀ s) (e : Nat) (q : Nat) (hm :
    0xc184bc4890000000000000001601c20c7ff840000100407800 ||| μ = μ) : State.Within μ s₀ (State.bindEngine s e q) := by
  unfold State.bindEngine
  repeat' first
    | with_reducible assumption | (intro _) | with_reducible apply State.modQueue_within
    | with_reducible apply State.setEng_within | with_reducible apply State.put_within
    | with_reducible apply State.beginPiece_within | with_reducible apply State.runEngine_within
    | with_reducible apply State.Within.ite | exact maskSub rfl hm | split | dsimp only

theorem State.engineGrant_within {μ : Nat} {s₀ s : State} (hf : State.Within μ s₀ s) (g : Nat) (hm :
    0xc184bc4890000000000000001601c20c7ff840000100407800 ||| μ = μ) : State.Within μ s₀ (State.engineGrant s g) := by
  unfold State.engineGrant
  repeat' first
    | with_reducible assumption | (intro _) | with_reducible apply State.wakeRegion_within
    | with_reducible apply State.servedAt_within | with_reducible apply State.bindEngine_within
    | with_reducible apply State.Within.ite | exact maskSub rfl hm | split | dsimp only

theorem State.engineData_within {μ : Nat} {s₀ s : State} (hf : State.Within μ s₀ s) (e : Nat) (pos : Nat) (ofs : Nat)
    (bs : List Byte) (done : Bool) (hm : 0xc184bc4890000000000000001601c20c7ff840000100407800 ||| μ = μ) :
    State.Within μ s₀ (State.engineData s e pos ofs bs done) := by
  unfold State.engineData
  repeat' first
    | with_reducible assumption | (intro _) | with_reducible apply State.bumpBy_within
    | with_reducible apply State.modEng_within | with_reducible apply State.noteEngine_within
    | with_reducible apply State.runEngine_within | with_reducible apply State.Within.ite | exact maskSub rfl hm
    | split | dsimp only

theorem State.engineError_within {μ : Nat} {s₀ s : State} (hf : State.Within μ s₀ s) (e : Nat) (pos : Nat) (status :
    Nat) (addr : Nat) (space : Nat) (source : Nat) (hm : 0xc104b04890000000000000001000000c5ff840000100407800 ||| μ =
    μ) : State.Within μ s₀ (State.engineError s e pos status addr space source) := by
  unfold State.engineError
  repeat' first
    | with_reducible assumption | (intro _) | with_reducible apply State.modEng_within
    | with_reducible apply State.bump_within | with_reducible apply State.noteEngine_within
    | with_reducible apply State.errorHalt_within | with_reducible apply State.Within.ite | exact maskSub rfl hm
    | split | dsimp only

theorem State.drained_within {μ : Nat} {s₀ s : State} (hf : State.Within μ s₀ s) (e : Nat) (hm :
    0xc104b04890000000000000001000000c5ff840000100407800 ||| μ = μ) : State.Within μ s₀ (State.drained s e) := by
  unfold State.drained
  repeat' first
    | with_reducible assumption | (intro _) | with_reducible apply State.releaseEngine_within
    | with_reducible apply State.runWaiting_within | with_reducible apply State.Within.ite | exact maskSub rfl hm
    | split | dsimp only

theorem State.takeExtension_within {μ : Nat} {s₀ s : State} (hf : State.Within μ s₀ s) (q : Nat) (hm :
    0xc184bc4890000000000000001601c24c7ff840000100407800 ||| μ = μ) : State.Within μ s₀ (State.takeExtension s q) :=
    by
  unfold State.takeExtension
  repeat' first
    | with_reducible assumption | (intro _) | with_reducible apply State.tryAdmission_within
    | with_reducible apply State.modQueue_within | with_reducible apply State.runEngine_within
    | with_reducible apply State.finishEntry_within | with_reducible refine State.Within.pair (by assumption) ?_
    | with_reducible apply State.Within.ite | exact maskSub rfl hm | split | dsimp only

theorem State.limiterRelease_within {μ : Nat} {s₀ s : State} (hf : State.Within μ s₀ s) (e : Nat) (hm :
    0xc184bc689c000000000000001601c20c7ff840000100407800 ||| μ = μ) : State.Within μ s₀ (State.limiterRelease s e) :=
    by
  unfold State.limiterRelease
  repeat' first
    | with_reducible assumption | (intro _) | with_reducible apply State.runEngine_within
    | with_reducible apply State.advance_within | with_reducible apply State.Within.ite | exact maskSub rfl hm | split
    | dsimp only

theorem State.writeAccepted_within {μ : Nat} {s₀ s : State} (hf : State.Within μ s₀ s) (q : Nat) (piece : Nat) (ofs :
    Nat) (hm : 0xc104b04890000000000000001000000c5ff840000100407800 ||| μ = μ) : State.Within μ s₀
    (State.writeAccepted s q piece ofs) := by
  unfold State.writeAccepted
  repeat' first
    | with_reducible assumption | (intro _) | with_reducible apply State.modQueue_within
    | with_reducible apply State.finishEntry_within | with_reducible apply State.runWaiting_within
    | with_reducible apply State.Within.ite | exact maskSub rfl hm | split | dsimp only

theorem State.writeDropped_within {μ : Nat} {s₀ s : State} (hf : State.Within μ s₀ s) (e : Nat) (q : Nat) (piece :
    Nat) (ofs : Nat) (hm : 0xc104b04890000000000000001000000c5ff840000100407800 ||| μ = μ) : State.Within μ s₀
    (State.writeDropped s e q piece ofs) := by
  unfold State.writeDropped
  repeat' first
    | with_reducible assumption | (intro _) | with_reducible apply State.modQueue_within
    | with_reducible apply State.bump_within | with_reducible apply State.recordResume_within
    | with_reducible apply State.settleEntry_within | with_reducible apply State.errorHalt_within
    | with_reducible apply State.Within.ite | exact maskSub rfl hm | split | dsimp only

theorem State.groupFault_within {μ : Nat} {s₀ s : State} (hf : State.Within μ s₀ s) (e : Nat) (hold : Bool) (hm :
    0xc105b04890000000000017201000000d5ff840000100407800 ||| μ = μ) : State.Within μ s₀ (State.groupFault s e hold) :=
    by
  unfold State.groupFault
  repeat' first
    | with_reducible assumption | (intro _) | with_reducible apply State.put_within
    | with_reducible apply State.flag_within | with_reducible apply State.Within.foldl
    | with_reducible apply State.Within.each | with_reducible apply State.errorHalt_within
    | with_reducible apply State.modEng_within | with_reducible apply State.report_within
    | with_reducible apply State.Within.ite | exact maskSub rfl hm | split | dsimp only

theorem State.engineFault_within {μ : Nat} {s₀ s : State} (hf : State.Within μ s₀ s) (e : Nat) (k : EngineFault) (hm :
    0xc105b04890000000000017201000000d5ff840000100407800 ||| μ = μ) : State.Within μ s₀ (State.engineFault s e k) :=
    by
  unfold State.engineFault
  repeat' first
    | with_reducible assumption | (intro _) | with_reducible apply State.groupFault_within
    | with_reducible apply State.put_within | with_reducible apply State.bump_within
    | with_reducible apply State.report_within | with_reducible apply State.Within.ite | exact maskSub rfl hm | split
    | dsimp only

end Sys2Proof.Machine
end

