-- ==== Sys2Proof/Laws/WithinPorts.lean ====
section
/-! SUPPORT. What the operations of Joist ports, links and the reads of local devices leave alone
(State.Within): one lemma per operation. -/

namespace Sys2Proof.Machine

set_option linter.all false
set_option Elab.async false

theorem State.sendPm_within {μ : Nat} {s₀ s : State} (hf : State.Within μ s₀ s) (p : Nat) (code : Nat) (hm :
    0xc0000c0810000000000000000601c00c000000000000000000 ||| μ = μ) : State.Within μ s₀ (State.sendPm s p code) := by
  unfold State.sendPm
  repeat' first
    | with_reducible assumption | (intro _) | with_reducible apply State.endDoze_within
    | with_reducible apply State.emit_within | with_reducible apply State.queueUnits_within
    | with_reducible apply State.noteAck_within | with_reducible apply State.Within.ite | exact maskSub rfl hm | split
    | dsimp only

theorem State.idleDue_within {μ : Nat} {s₀ s : State} (hf : State.Within μ s₀ s) (p : Nat) (hm :
    0xc0000c0810000000000000000601c00c000000000000000000 ||| μ = μ) : State.Within μ s₀ (State.idleDue s p) := by
  unfold State.idleDue
  repeat' first
    | with_reducible assumption | (intro _) | with_reducible apply State.sendIdle_within
    | with_reducible apply State.Within.ite | exact maskSub rfl hm | split | dsimp only

theorem State.rebuildPlank_within {μ : Nat} {s₀ s : State} (hf : State.Within μ s₀ s) (hm :
    0x400000000000000000000000000000000000000000000000 ||| μ = μ) : State.Within μ s₀ (State.rebuildPlank s) := by
  unfold State.rebuildPlank
  repeat' first
    | with_reducible assumption | (intro _) | with_reducible apply State.Within.ite | exact maskSub rfl hm | split
    | dsimp only
  all_goals with_reducible apply State.Within.other
  all_goals first | exact Or.inl rfl | exact Or.inl ⟨rfl, rfl⟩ | exact Or.inl ⟨rfl, rfl, rfl⟩ | exact Or.inr (maskSub rfl hm) | skip
  repeat' first
    | with_reducible assumption | (intro _) | with_reducible apply State.Within.ite | exact maskSub rfl hm | split
    | dsimp only

theorem State.portPlank_within {μ : Nat} {s₀ s : State} (hf : State.Within μ s₀ s) (p : Nat) (hm :
    0x400000000000000000000000000000000000000000000000 ||| μ = μ) : State.Within μ s₀ (State.portPlank s p) := by
  unfold State.portPlank
  repeat' first
    | with_reducible assumption | (intro _) | with_reducible apply State.rebuildPlank_within
    | with_reducible apply State.Within.ite | exact maskSub rfl hm | split | dsimp only

theorem State.stopPortTimers_within {μ : Nat} {s₀ s : State} (hf : State.Within μ s₀ s) (p : Nat) (hm :
    0x8000000000000000000000000000000000000000000 ||| μ = μ) : State.Within μ s₀ (State.stopPortTimers s p) := by
  unfold State.stopPortTimers
  repeat' first
    | with_reducible assumption | (intro _) | with_reducible apply State.disarmAll_within
    | with_reducible apply State.Within.ite | exact maskSub rfl hm | split | dsimp only

theorem State.enterReset_within {μ : Nat} {s₀ s : State} (hf : State.Within μ s₀ s) (p : Nat) (hm :
    0xc08000000000000000002004000000000000000000000 ||| μ = μ) : State.Within μ s₀ (State.enterReset s p) := by
  unfold State.enterReset
  repeat' first
    | with_reducible assumption | (intro _) | with_reducible apply State.stopPortTimers_within
    | with_reducible apply State.Within.each | with_reducible apply State.put_within
    | with_reducible apply State.modPort_within | with_reducible apply State.stopLane_within
    | with_reducible apply State.arm_within | with_reducible apply State.Within.ite | exact maskSub rfl hm | split
    | dsimp only

theorem State.tryTrain_within {μ : Nat} {s₀ s : State} (hf : State.Within μ s₀ s) (p : Nat) (hm :
    0x1040c08000000000000000012004200000000000000007800 ||| μ = μ) : State.Within μ s₀ (State.tryTrain s p) := by
  unfold State.tryTrain
  repeat' first
    | with_reducible assumption | (intro _) | with_reducible apply State.startTraining_within
    | with_reducible apply State.wakeRegion_within | with_reducible apply State.Within.ite | exact maskSub rfl hm
    | split | dsimp only

theorem State.bayReleased_within {μ : Nat} {s₀ s : State} (hf : State.Within μ s₀ s) (b : Nat) (hm :
    0x20000000000000000000000000 ||| μ = μ) : State.Within μ s₀ (State.bayReleased s b) := by
  unfold State.bayReleased
  repeat' first
    | with_reducible assumption | (intro _) | with_reducible apply State.put_within
    | with_reducible apply State.Within.ite | exact maskSub rfl hm | split | dsimp only

theorem State.disablePort_within {μ : Nat} {s₀ s : State} (hf : State.Within μ s₀ s) (p : Nat) (hm :
    0xc08000000000000000022004000000000000000000000 ||| μ = μ) : State.Within μ s₀ (State.disablePort s p) := by
  unfold State.disablePort
  repeat' first
    | with_reducible assumption | (intro _) | with_reducible apply State.stopPortTimers_within
    | with_reducible apply State.Within.each | with_reducible apply State.put_within
    | with_reducible apply State.modPort_within | with_reducible apply State.stopLane_within
    | with_reducible apply State.bayReleased_within | with_reducible apply State.Within.ite | exact maskSub rfl hm
    | split | dsimp only

theorem State.releaseReset_within {μ : Nat} {s₀ s : State} (hf : State.Within μ s₀ s) (p : Nat) (hm :
    0x3040c08100000000000000032004200000000000000007800 ||| μ = μ) : State.Within μ s₀ (State.releaseReset s p) := by
  unfold State.releaseReset
  repeat' first
    | with_reducible assumption | (intro _) | with_reducible apply State.Within.each
    | with_reducible apply State.modPort_within | with_reducible apply State.put_within
    | with_reducible apply State.setBayState_within | with_reducible apply State.bump_within
    | with_reducible apply State.lanesRun_within | with_reducible apply State.bayReleased_within
    | with_reducible apply State.tryTrain_within | with_reducible apply State.Within.ite | exact maskSub rfl hm
    | split | dsimp only
  all_goals with_reducible apply State.Within.other
  all_goals first | exact Or.inl rfl | exact Or.inl ⟨rfl, rfl⟩ | exact Or.inl ⟨rfl, rfl, rfl⟩ | exact Or.inr (maskSub rfl hm) | skip
  repeat' first
    | with_reducible assumption | (intro _) | with_reducible apply State.Within.each
    | with_reducible apply State.modPort_within | with_reducible apply State.put_within
    | with_reducible apply State.setBayState_within | with_reducible apply State.bump_within
    | with_reducible apply State.lanesRun_within | with_reducible apply State.bayReleased_within
    | with_reducible apply State.tryTrain_within | with_reducible apply State.Within.ite | exact maskSub rfl hm
    | split | dsimp only

theorem State.loseAt_within {μ : Nat} {s₀ s : State} (hf : State.Within μ s₀ s) (x1 : Loss) (hm :
    0xc104b04890000000000000001000000c5ff840000100407800 ||| μ = μ) : State.Within μ s₀ (State.loseAt s x1) := by
  unfold State.loseAt
  repeat' first
    | with_reducible assumption | (intro _) | with_reducible apply State.writeDropped_within
    | with_reducible apply State.engineError_within | with_reducible apply State.Within.ite | exact maskSub rfl hm
    | split | dsimp only

theorem State.endRequests_within {μ : Nat} {s₀ s : State} (hf : State.Within μ s₀ s) (p : Nat) (hm :
    0xc184bc4890000000000000001601c08c5ff840000100407800 ||| μ = μ) : State.Within μ s₀ (State.endRequests s p) := by
  unfold State.endRequests
  repeat' first
    | with_reducible assumption | (intro _) | with_reducible apply State.bumpBy_within
    | with_reducible apply State.modPort_within | with_reducible apply State.Within.each
    | with_reducible apply State.bump_within | with_reducible apply State.countDown_within
    | with_reducible apply State.loseAt_within | with_reducible apply State.modHost_within
    | with_reducible apply State.answerReads_within | with_reducible apply State.noteReplay_within
    | with_reducible apply State.put_within | with_reducible apply State.Within.ite | exact maskSub rfl hm | split
    | dsimp only

theorem State.portDown_within {μ : Nat} {s₀ s : State} (hf : State.Within μ s₀ s) (p : Nat) (cause : Nat) (hm :
    0xc1c5bc4890000000000017201687c08c5ff840000100407800 ||| μ = μ) : State.Within μ s₀ (State.portDown s p cause) :=
    by
  unfold State.portDown
  repeat' first
    | with_reducible assumption | (intro _) | with_reducible apply State.stopPortTimers_within
    | with_reducible apply State.Within.each | with_reducible apply State.put_within
    | with_reducible apply State.stopLane_within | with_reducible apply State.flag_within
    | with_reducible apply State.modPort_within | with_reducible apply State.endRequests_within
    | with_reducible apply State.judgeHolds_within | with_reducible apply State.report_within
    | with_reducible apply State.portPlank_within | with_reducible apply State.arm_within
    | with_reducible apply State.Within.ite | exact maskSub rfl hm | split | dsimp only

theorem State.afterDown_within {μ : Nat} {s₀ s : State} (hf : State.Within μ s₀ s) (p : Nat) (hm :
    0xc08000000000000000022004200000000000000000000 ||| μ = μ) : State.Within μ s₀ (State.afterDown s p) := by
  unfold State.afterDown
  repeat' first
    | with_reducible assumption | (intro _) | with_reducible apply State.disablePort_within
    | with_reducible apply State.enterReset_within | with_reducible apply State.startTraining_within
    | with_reducible apply State.Within.ite | exact maskSub rfl hm | split | dsimp only

theorem State.freshLink_within {μ : Nat} {s₀ s : State} (hf : State.Within μ s₀ s) (p : Nat) (hm :
    0x1c000000000000000000000 ||| μ = μ) : State.Within μ s₀ (State.freshLink s p) := by
  unfold State.freshLink
  repeat' first
    | with_reducible assumption | (intro _) | with_reducible apply State.put_within
    | with_reducible apply State.setWord_within | with_reducible apply State.Within.ite | exact maskSub rfl hm | split
    | dsimp only

theorem State.portUp_within {μ : Nat} {s₀ s : State} (hf : State.Within μ s₀ s) (p : Nat) (hm :
    0xc0c03c0810000000000000000681c08c000000000000000000 ||| μ = μ) : State.Within μ s₀ (State.portUp s p) := by
  unfold State.portUp
  repeat' first
    | with_reducible assumption | (intro _) | with_reducible apply State.freshLink_within
    | with_reducible apply State.Within.each | with_reducible apply State.put_within
    | with_reducible apply State.modPort_within | with_reducible apply State.disarm_within
    | with_reducible apply State.judgeHolds_within | with_reducible apply State.portPlank_within
    | with_reducible apply State.sendFrame_within | with_reducible apply State.arm_within
    | with_reducible apply State.pump_within | with_reducible apply State.watchLock_within
    | with_reducible apply State.quiet_within | with_reducible apply State.Within.ite | exact maskSub rfl hm | split
    | dsimp only

theorem State.openPeriod_within {μ : Nat} {s₀ s : State} (hf : State.Within μ s₀ s) (p : Nat) (hm :
    0xc0c03c0810000000000000000681c08c000000000000000000 ||| μ = μ) : State.Within μ s₀ (State.openPeriod s p) := by
  unfold State.openPeriod
  repeat' first
    | with_reducible assumption | (intro _) | with_reducible apply State.Within.each
    | with_reducible apply State.endTraining_within | with_reducible apply State.openActive_within
    | with_reducible apply State.freshLink_within | with_reducible apply State.emit_within
    | with_reducible apply State.queueUnits_within | with_reducible apply State.modPort_within
    | with_reducible apply State.portUp_within | with_reducible apply State.Within.ite | exact maskSub rfl hm | split
    | dsimp only

theorem State.judgeDegraded_within {μ : Nat} {s₀ s : State} (hf : State.Within μ s₀ s) (p : Nat) (hm :
    0x4000000000000000000000 ||| μ = μ) : State.Within μ s₀ (State.judgeDegraded s p) := by
  unfold State.judgeDegraded
  repeat' first
    | with_reducible assumption | (intro _) | with_reducible apply State.flag_within
    | with_reducible apply State.Within.ite | exact maskSub rfl hm | split | dsimp only

theorem State.countDrop_within {μ : Nat} {s₀ s : State} (hf : State.Within μ s₀ s) (p : Nat) (x : Nat) (hm :
    0x81050008900000000000172010000000000000000000007800 ||| μ = μ) : State.Within μ s₀ (State.countDrop s p x) := by
  unfold State.countDrop
  repeat' first
    | with_reducible assumption | (intro _) | with_reducible apply State.bump_within
    | with_reducible apply State.report_within | with_reducible apply State.Within.ite | exact maskSub rfl hm | split
    | dsimp only

theorem State.announceMask_within {μ : Nat} {s₀ s : State} (hf : State.Within μ s₀ s) (p : Nat) (m : Nat) (hm :
    0xc0000c0810000000000000000601c00c000000000000000000 ||| μ = μ) : State.Within μ s₀ (State.announceMask s p m) :=
    by
  unfold State.announceMask
  repeat' first
    | with_reducible assumption | (intro _) | with_reducible apply State.endDoze_within
    | with_reducible apply State.emit_within | with_reducible apply State.queueUnits_within
    | with_reducible apply State.noteAck_within | with_reducible apply State.modPort_within
    | with_reducible apply State.Within.ite | exact maskSub rfl hm | split | dsimp only

theorem State.changeTxMask_within {μ : Nat} {s₀ s : State} (hf : State.Within μ s₀ s) (p : Nat) (m : Nat) (hm :
    0x81050408900000000000172010004000000000000000007800 ||| μ = μ) : State.Within μ s₀ (State.changeTxMask s p m) :=
    by
  unfold State.changeTxMask
  repeat' first
    | with_reducible assumption | (intro _) | with_reducible apply State.put_within
    | with_reducible apply State.modPort_within | with_reducible apply State.Within.each
    | with_reducible apply State.countDrop_within | with_reducible apply State.judgeDegraded_within
    | with_reducible apply State.Within.ite | exact maskSub rfl hm | split | dsimp only

theorem State.endActive_within {μ : Nat} {s₀ s : State} (hf : State.Within μ s₀ s) (p : Nat) (nulls : List Nat) (hm :
    0x80000c00000000000000000000000000000000000000000000 ||| μ = μ) : State.Within μ s₀ (State.endActive s p nulls) :=
    by
  unfold State.endActive
  repeat' first
    | with_reducible assumption | (intro _) | with_reducible apply State.Within.each
    | with_reducible apply State.sendWords_within | with_reducible apply State.modLane_within
    | with_reducible apply State.modPort_within | with_reducible apply State.Within.ite | exact maskSub rfl hm | split
    | dsimp only

theorem State.setRxMask_within {μ : Nat} {s₀ s : State} (hf : State.Within μ s₀ s) (p : Nat) (m : Nat) (hm :
    0x81050008900000000000172010004000000000000000007800 ||| μ = μ) : State.Within μ s₀ (State.setRxMask s p m) := by
  unfold State.setRxMask
  repeat' first
    | with_reducible assumption | (intro _) | with_reducible apply State.put_within
    | with_reducible apply State.Within.each | with_reducible apply State.countDrop_within
    | with_reducible apply State.disarm_within | with_reducible apply State.judgeDegraded_within
    | with_reducible apply State.watchLock_within | with_reducible apply State.Within.ite | exact maskSub rfl hm
    | split | dsimp only

theorem State.dropLane_within {μ : Nat} {s₀ s : State} (hf : State.Within μ s₀ s) (p : Nat) (x : Nat) (hm :
    0xc0000c0810000000000000000601c00c000000000000000000 ||| μ = μ) : State.Within μ s₀ (State.dropLane s p x) := by
  unfold State.dropLane
  repeat' first
    | with_reducible assumption | (intro _) | with_reducible apply State.modPort_within
    | with_reducible apply State.put_within | with_reducible apply State.arm_within
    | with_reducible apply State.watchLock_within | with_reducible apply State.sendIdle_within
    | with_reducible apply State.Within.ite | exact maskSub rfl hm | split | dsimp only

theorem State.laneSetFailed_within {μ : Nat} {s₀ s : State} (hf : State.Within μ s₀ s) (p : Nat) (hm :
    0xc1c5bc4890000000000017201687c08c5ff840000100407800 ||| μ = μ) : State.Within μ s₀ (State.laneSetFailed s p) :=
    by
  unfold State.laneSetFailed
  repeat' first
    | with_reducible assumption | (intro _) | with_reducible apply State.portDown_within
    | with_reducible apply State.Within.ite | exact maskSub rfl hm | split | dsimp only

theorem State.relockLane_within {μ : Nat} {s₀ s : State} (hf : State.Within μ s₀ s) (p : Nat) (hm :
    0xc0000c0810000000000000000601c00c000000000000000000 ||| μ = μ) : State.Within μ s₀ (State.relockLane s p) := by
  unfold State.relockLane
  repeat' first
    | with_reducible assumption | (intro _) | with_reducible apply State.modPort_within
    | with_reducible apply State.put_within | with_reducible apply State.watchLock_within
    | with_reducible apply State.sendIdle_within | with_reducible apply State.Within.ite | exact maskSub rfl hm
    | split | dsimp only

theorem State.enterDoze_within {μ : Nat} {s₀ s : State} (hf : State.Within μ s₀ s) (p : Nat) (hm :
    0xc0000c08100000000000000006004000000000000000000000 ||| μ = μ) : State.Within μ s₀ (State.enterDoze s p) := by
  unfold State.enterDoze
  repeat' first
    | with_reducible assumption | (intro _) | with_reducible apply State.endActive_within
    | with_reducible apply State.Within.each | with_reducible apply State.sendMarker_within
    | with_reducible apply State.stopSending_within | with_reducible apply State.put_within
    | with_reducible apply State.disarm_within | with_reducible apply State.arm_within
    | with_reducible apply State.Within.ite | exact maskSub rfl hm | split | dsimp only

theorem State.sendKeepalive_within {μ : Nat} {s₀ s : State} (hf : State.Within μ s₀ s) (p : Nat) (hm :
    0xc0000808100000000000000004000000000000000000000000 ||| μ = μ) : State.Within μ s₀ (State.sendKeepalive s p) :=
    by
  unfold State.sendKeepalive
  repeat' first
    | with_reducible assumption | (intro _) | with_reducible apply State.Within.each
    | with_reducible apply State.leaveIdle_within | with_reducible apply State.sendMarker_within
    | with_reducible apply State.endTraining_within | with_reducible apply State.arm_within
    | with_reducible apply State.Within.ite | exact maskSub rfl hm | split | dsimp only

theorem State.askSleep_within {μ : Nat} {s₀ s : State} (hf : State.Within μ s₀ s) (p : Nat) (hm :
    0xc0000c0810000000000000000601c00c000000000000000000 ||| μ = μ) : State.Within μ s₀ (State.askSleep s p) := by
  unfold State.askSleep
  repeat' first
    | with_reducible assumption | (intro _) | with_reducible apply State.sendPm_within
    | with_reducible apply State.modPort_within | with_reducible apply State.arm_within
    | with_reducible apply State.Within.ite | exact maskSub rfl hm | split | dsimp only

theorem State.agreeSleep_within {μ : Nat} {s₀ s : State} (hf : State.Within μ s₀ s) (p : Nat) (hm :
    0xc0000c0810000000000000000601c00c000000000000000000 ||| μ = μ) : State.Within μ s₀ (State.agreeSleep s p) := by
  unfold State.agreeSleep
  repeat' first
    | with_reducible assumption | (intro _) | with_reducible apply State.endDoze_within
    | with_reducible apply State.modPort_within | with_reducible apply State.disarm_within
    | with_reducible apply State.Within.ite | exact maskSub rfl hm | split | dsimp only

theorem State.takeSleepReq_within {μ : Nat} {s₀ s : State} (hf : State.Within μ s₀ s) (p : Nat) (hm :
    0xc0000c0810000000000000000601c00c000000000000000000 ||| μ = μ) : State.Within μ s₀ (State.takeSleepReq s p) := by
  unfold State.takeSleepReq
  repeat' first
    | with_reducible assumption | (intro _) | with_reducible apply State.agreeSleep_within
    | with_reducible apply State.endDoze_within | with_reducible apply State.sendPm_within
    | with_reducible apply State.Within.ite | exact maskSub rfl hm | split | dsimp only

theorem State.takeSleepAck_within {μ : Nat} {s₀ s : State} (hf : State.Within μ s₀ s) (p : Nat) (hm :
    0xc0000c0810000000000000000601c00c000000000000000000 ||| μ = μ) : State.Within μ s₀ (State.takeSleepAck s p) := by
  unfold State.takeSleepAck
  repeat' first
    | with_reducible assumption | (intro _) | with_reducible apply State.agreeSleep_within
    | with_reducible apply State.Within.ite | exact maskSub rfl hm | split | dsimp only

theorem State.sleepRefused_within {μ : Nat} {s₀ s : State} (hf : State.Within μ s₀ s) (p : Nat) (hm :
    0x408000000000000000000000000000000000000000000 ||| μ = μ) : State.Within μ s₀ (State.sleepRefused s p) := by
  unfold State.sleepRefused
  repeat' first
    | with_reducible assumption | (intro _) | with_reducible apply State.modPort_within
    | with_reducible apply State.disarm_within | with_reducible apply State.quiet_within
    | with_reducible apply State.Within.ite | exact maskSub rfl hm | split | dsimp only

theorem State.fallAsleep_within {μ : Nat} {s₀ s : State} (hf : State.Within μ s₀ s) (p : Nat) (hm :
    0x1040c08000000000000000012004200000000000000007800 ||| μ = μ) : State.Within μ s₀ (State.fallAsleep s p) := by
  unfold State.fallAsleep
  repeat' first
    | with_reducible assumption | (intro _) | with_reducible apply State.disarmAll_within
    | with_reducible apply State.put_within | with_reducible apply State.modPort_within
    | with_reducible apply State.wakePort_within | with_reducible apply State.Within.ite | exact maskSub rfl hm
    | split | dsimp only

theorem State.toneDetected_within {μ : Nat} {s₀ s : State} (hf : State.Within μ s₀ s) (p : Nat) (hm :
    0x1040c08000000000000000012004200000000000000007800 ||| μ = μ) : State.Within μ s₀ (State.toneDetected s p) := by
  unfold State.toneDetected
  repeat' first
    | with_reducible assumption | (intro _) | with_reducible apply State.modPort_within
    | with_reducible apply State.wakeRegion_within | with_reducible apply State.trainWoken_within
    | with_reducible apply State.disarmAll_within | with_reducible apply State.startTraining_within
    | with_reducible apply State.Within.ite | exact maskSub rfl hm | split | dsimp only

theorem State.resend_within {μ : Nat} {s₀ s : State} (hf : State.Within μ s₀ s) (p : Nat) (e : Nat × EgFrame) (hm :
    0x80000400000000000000000000000000000000000000000000 ||| μ = μ) : State.Within μ s₀ (State.resend s p e) := by
  unfold State.resend
  repeat' first
    | with_reducible assumption | (intro _) | with_reducible apply State.emit_within
    | with_reducible apply State.queueUnits_within | with_reducible apply State.Within.ite | exact maskSub rfl hm
    | split | dsimp only

theorem State.replayAll_within {μ : Nat} {s₀ s : State} (hf : State.Within μ s₀ s) (p : Nat) (hm :
    0xc1c5bc4890000000000017201687c08c5ff840000100407800 ||| μ = μ) : State.Within μ s₀ (State.replayAll s p) := by
  unfold State.replayAll
  repeat' first
    | with_reducible assumption | (intro _) | with_reducible apply State.portDown_within
    | with_reducible apply State.endDoze_within | with_reducible apply State.put_within
    | with_reducible apply State.bump_within | with_reducible apply State.bumpBy_within
    | with_reducible apply State.Within.each | with_reducible apply State.resend_within
    | with_reducible apply State.noteAck_within | with_reducible apply State.arm_within
    | with_reducible apply State.Within.ite | exact maskSub rfl hm | split | dsimp only

theorem State.retrainPort_within {μ : Nat} {s₀ s : State} (hf : State.Within μ s₀ s) (p : Nat) (hm :
    0xc1c5bc4890000000000017201687c28c5ff840000100407800 ||| μ = μ) : State.Within μ s₀ (State.retrainPort s p) := by
  unfold State.retrainPort
  repeat' first
    | with_reducible assumption | (intro _) | with_reducible apply State.put_within
    | with_reducible apply State.portDown_within | with_reducible apply State.disarm_within
    | with_reducible apply State.startTraining_within | with_reducible apply State.Within.ite | exact maskSub rfl hm
    | split | dsimp only

theorem State.resetPort_within {μ : Nat} {s₀ s : State} (hf : State.Within μ s₀ s) (p : Nat) (hm :
    0xc1c5bc4890000000000017201687c28c5ff840000100407800 ||| μ = μ) : State.Within μ s₀ (State.resetPort s p) := by
  unfold State.resetPort
  repeat' first
    | with_reducible assumption | (intro _) | with_reducible apply State.put_within
    | with_reducible apply State.Within.each | with_reducible apply State.modPort_within
    | with_reducible apply State.arm_within | with_reducible apply State.portDown_within
    | with_reducible apply State.enterReset_within | with_reducible apply State.endRequests_within
    | with_reducible apply State.portPlank_within | with_reducible apply State.Within.ite | exact maskSub rfl hm
    | split | dsimp only

theorem State.testDown_within {μ : Nat} {s₀ s : State} (hf : State.Within μ s₀ s) (p : Nat) (hm :
    0x64000000000000000000000 ||| μ = μ) : State.Within μ s₀ (State.testDown s p) := by
  unfold State.testDown
  repeat' first
    | with_reducible assumption | (intro _) | with_reducible apply State.Within.each
    | with_reducible apply State.put_within | with_reducible apply State.Within.ite | exact maskSub rfl hm | split
    | dsimp only

theorem State.bayDown_within {μ : Nat} {s₀ s : State} (hf : State.Within μ s₀ s) (b : Nat) (hm :
    0xc1c5bc4890000000000017201687c08c5ff840000100407800 ||| μ = μ) : State.Within μ s₀ (State.bayDown s b) := by
  unfold State.bayDown
  repeat' first
    | with_reducible assumption | (intro _) | with_reducible apply State.Within.each
    | with_reducible apply State.portDown_within | with_reducible apply State.testDown_within
    | with_reducible apply State.Within.ite | exact maskSub rfl hm | split | dsimp only

theorem State.clearBay_within {μ : Nat} {s₀ s : State} (hf : State.Within μ s₀ s) (b : Nat) (hm
    : 0x80010000000000000000fe7c200000000000000000000 ||| μ = μ) :
    State.Within μ s₀ (State.clearBay s b) := by
  have hl : ∀ k ∈ bayPortKinds ++ bayLaneKinds, k.bit ||| 0x80010000000000000000fe7c200000000000000000000 = 0x80010000000000000000fe7c200000000000000000000 := by decide
  unfold State.clearBay
  repeat' first
    | with_reducible assumption | (intro _) | with_reducible apply State.Within.eachMem
    | exact maskSub (hl _ (List.mem_append_left _ (by assumption))) hm
    | exact maskSub (hl _ (List.mem_append_right _ (by assumption))) hm | with_reducible apply State.zeroCtrs_within
    | with_reducible apply State.Within.each | with_reducible apply State.resetPlain_within
    | with_reducible apply State.modLane_within
    | with_reducible apply State.put_within | with_reducible apply State.Within.ite | exact maskSub rfl hm | split
    | dsimp only

theorem State.resetBay_within {μ : Nat} {s₀ s : State} (hf : State.Within μ s₀ s) (b : Nat) (hm :
    0xc1c5bc4890000000000017203fe7c28c5ff840000100407800 ||| μ = μ) : State.Within μ s₀ (State.resetBay s b) := by
  unfold State.resetBay
  repeat' first
    | with_reducible assumption | (intro _) | with_reducible apply State.bayDown_within
    | with_reducible apply State.put_within | with_reducible apply State.setBayState_within
    | with_reducible apply State.clearBay_within | with_reducible apply State.Within.each
    | with_reducible apply State.enterReset_within | with_reducible apply State.Within.ite | exact maskSub rfl hm
    | split | dsimp only

theorem State.bayRunning_within {μ : Nat} {s₀ s : State} (hf : State.Within μ s₀ s) (b : Nat) (hm :
    0xc1843c0810000000000000001601c20c000000000000007800 ||| μ = μ) : State.Within μ s₀ (State.bayRunning s b) := by
  unfold State.bayRunning
  repeat' first
    | with_reducible assumption | (intro _) | with_reducible apply State.lanesRun_within
    | with_reducible apply State.Within.each | with_reducible apply State.trainWoken_within
    | with_reducible apply State.tryTrain_within | with_reducible apply State.pump_within
    | with_reducible apply State.Within.ite | exact maskSub rfl hm | split | dsimp only

theorem State.presence_within {μ : Nat} {s₀ s : State} (hf : State.Within μ s₀ s) (p : Nat) (here : Bool) (hm :
    0xc1c5bc4890000000000017201687c08c5ff840000100407800 ||| μ = μ) : State.Within μ s₀ (State.presence s p here) :=
    by
  unfold State.presence
  repeat' first
    | with_reducible assumption | (intro _) | with_reducible apply State.modPort_within
    | with_reducible apply State.flag_within | with_reducible apply State.put_within
    | with_reducible apply State.Within.foldl | with_reducible apply State.wakeRegion_within
    | with_reducible apply State.enterReset_within | with_reducible apply State.portDown_within
    | with_reducible apply State.Within.ite | exact maskSub rfl hm | split | dsimp only

theorem State.holdInTest_within {μ : Nat} {s₀ s : State} (hf : State.Within μ s₀ s) (p : Nat) (hm :
    0x808000000000000000002004000000000000000000000 ||| μ = μ) : State.Within μ s₀ (State.holdInTest s p) := by
  unfold State.holdInTest
  repeat' first
    | with_reducible assumption | (intro _) | with_reducible apply State.stopPortTimers_within
    | with_reducible apply State.Within.each | with_reducible apply State.put_within
    | with_reducible apply State.stopLane_within | with_reducible apply State.Within.ite | exact maskSub rfl hm
    | split | dsimp only

theorem State.laneTest_within {μ : Nat} {s₀ s : State} (hf : State.Within μ s₀ s) (l : Nat) (loop : Nat) (gen : Nat)
    (chk : Nat) (pattern : Nat) (inv : Nat) (hm : 0xc1c5bc4890000000000017201f87c08c5ff840000100407800 ||| μ = μ) :
    State.Within μ s₀ (State.laneTest s l loop gen chk pattern inv) := by
  unfold State.laneTest
  repeat' first
    | with_reducible assumption | (intro _) | with_reducible apply State.countPrbs_within
    | with_reducible apply State.put_within | with_reducible apply State.flag_within
    | with_reducible apply State.Within.each | with_reducible apply State.stopLane_within
    | with_reducible apply State.portDown_within | with_reducible apply State.holdInTest_within
    | with_reducible apply State.enterReset_within | with_reducible apply State.modLane_within
    | with_reducible apply State.emit_within | with_reducible apply State.Within.ite | exact maskSub rfl hm | split
    | dsimp only

theorem State.loadMarker_within {μ : Nat} {s₀ s : State} (hf : State.Within μ s₀ s) (l : Nat) (u : RxUnit) (hm :
    0x800000000000000000006000000000000000000000000 ||| μ = μ) : State.Within μ s₀ (State.loadMarker s l u) := by
  unfold State.loadMarker
  repeat' first
    | with_reducible assumption | (intro _) | with_reducible apply State.put_within
    | with_reducible apply State.flag_within | with_reducible apply State.modLane_within
    | with_reducible apply State.Within.ite | exact maskSub rfl hm | split | dsimp only

theorem State.noteMismatch_within {μ : Nat} {s₀ s : State} (hf : State.Within μ s₀ s) (l : Nat) (u : RxUnit) (hm :
    0x81050408900000000000172010800000000000000000007800 ||| μ = μ) : State.Within μ s₀ (State.noteMismatch s l u) :=
    by
  unfold State.noteMismatch
  repeat' first
    | with_reducible assumption | (intro _) | with_reducible apply State.modPort_within
    | with_reducible apply State.put_within | with_reducible apply State.bump_within
    | with_reducible apply State.report_within | with_reducible apply State.Within.ite | exact maskSub rfl hm | split
    | dsimp only

theorem State.farSays_within {μ : Nat} {s₀ s : State} (hf : State.Within μ s₀ s) (l : Nat) (was : Nat) (code : Nat)
    (hm : 0xc0c03c0810000000000000000681c08c000000000000000000 ||| μ = μ) : State.Within μ s₀ (State.farSays s l was
    code) := by
  unfold State.farSays
  repeat' first
    | with_reducible assumption | (intro _) | with_reducible apply State.arm_within
    | with_reducible apply State.disarm_within | with_reducible apply State.put_within
    | with_reducible apply State.modPort_within | with_reducible apply State.portUp_within
    | with_reducible apply State.loseLock_within | with_reducible apply State.Within.ite | exact maskSub rfl hm
    | split | dsimp only

theorem State.expectBody_within {μ : Nat} {s₀ s : State} (hf : State.Within μ s₀ s) (l : Nat) (fill : Option Nat) (hm
    : 0x800000000000000000000000000000000000000000000 ||| μ = μ) : State.Within μ s₀ (State.expectBody s l fill) := by
  unfold State.expectBody
  repeat' first
    | with_reducible assumption | (intro _) | with_reducible apply State.modLane_within
    | with_reducible apply State.Within.ite | exact maskSub rfl hm | split | dsimp only

theorem State.lockedMarker_within {μ : Nat} {s₀ s : State} (hf : State.Within μ s₀ s) (l : Nat) (u : RxUnit) (hm :
    0xc1c53c0890000000000017201681c08c000000000000007800 ||| μ = μ) : State.Within μ s₀ (State.lockedMarker s l u) :=
    by
  unfold State.lockedMarker
  repeat' first
    | with_reducible assumption | (intro _) | with_reducible apply State.bump_within
    | with_reducible apply State.noteMismatch_within | with_reducible apply State.loadMarker_within
    | with_reducible apply State.modLane_within | with_reducible apply State.expectBody_within
    | with_reducible apply State.alignLane_within | with_reducible apply State.farSays_within
    | with_reducible apply State.Within.ite | exact maskSub rfl hm | split | dsimp only

theorem State.badMarker_within {μ : Nat} {s₀ s : State} (hf : State.Within μ s₀ s) (l : Nat) (hm :
    0x808100000000000000006000000000000000000000000 ||| μ = μ) : State.Within μ s₀ (State.badMarker s l) := by
  unfold State.badMarker
  repeat' first
    | with_reducible assumption | (intro _) | with_reducible apply State.bump_within
    | with_reducible apply State.loseLock_within | with_reducible apply State.put_within
    | with_reducible apply State.modLane_within | with_reducible apply State.expectBody_within
    | with_reducible apply State.Within.ite | exact maskSub rfl hm | split | dsimp only

theorem State.searchMarker_within {μ : Nat} {s₀ s : State} (hf : State.Within μ s₀ s) (l : Nat) (u : RxUnit) (apart :
    Bool) (hm : 0xc1c53c0890000000000017201681c28c000000000000007800 ||| μ = μ) : State.Within μ s₀
    (State.searchMarker s l u apart) := by
  unfold State.searchMarker
  repeat' first
    | with_reducible assumption | (intro _) | with_reducible apply State.modLane_within
    | with_reducible apply State.noteMismatch_within | with_reducible apply State.put_within
    | with_reducible apply State.bump_within | with_reducible apply State.startTraining_within
    | with_reducible apply State.loadMarker_within | with_reducible apply State.alignLane_within
    | with_reducible apply State.expectBody_within | with_reducible apply State.watchLock_within
    | with_reducible apply State.farSays_within | with_reducible apply State.Within.ite | exact maskSub rfl hm | split
    | dsimp only

theorem State.loopMarker_within {μ : Nat} {s₀ s : State} (hf : State.Within μ s₀ s) (l : Nat) (u : RxUnit) (hm :
    0x80000800100000000000000004000000000000000000000000 ||| μ = μ) : State.Within μ s₀ (State.loopMarker s l u) := by
  unfold State.loopMarker
  repeat' first
    | with_reducible assumption | (intro _) | with_reducible apply State.putMarker_within
    | with_reducible apply State.Within.ite | exact maskSub rfl hm | split | dsimp only

theorem State.searchWord_within {μ : Nat} {s₀ s : State} (hf : State.Within μ s₀ s) (l : Nat) (n : Nat) (u : RxUnit)
    (hm : 0xc1c53c0890000000000017201681c28c000000000000007800 ||| μ = μ) : State.Within μ s₀ (State.searchWord s l n
    u).1 := by
  unfold State.searchWord
  repeat' first
    | with_reducible assumption | (intro _) | with_reducible apply State.modLane_within
    | with_reducible apply State.searchMarker_within | with_reducible apply State.loopMarker_within
    | with_reducible apply State.flag_within | with_reducible apply State.Within.ite | exact maskSub rfl hm | split
    | dsimp only

theorem State.cdrLost_within {μ : Nat} {s₀ s : State} (hf : State.Within μ s₀ s) (l : Nat) (hm :
    0x808100000000000000002000000000000000000000000 ||| μ = μ) : State.Within μ s₀ (State.cdrLost s l) := by
  unfold State.cdrLost
  repeat' first
    | with_reducible assumption | (intro _) | with_reducible apply State.put_within
    | with_reducible apply State.loseLock_within | with_reducible apply State.watchLock_within
    | with_reducible apply State.Within.ite | exact maskSub rfl hm | split | dsimp only

theorem State.countErrored_within {μ : Nat} {s₀ s : State} (hf : State.Within μ s₀ s) (l : Nat) (u : RxUnit) (hm :
    0x100000000000000000000000000000000000000000 ||| μ = μ) : State.Within μ s₀ (State.countErrored s l u) := by
  unfold State.countErrored
  repeat' first
    | with_reducible assumption | (intro _) | with_reducible apply State.bump_within
    | with_reducible apply State.Within.ite | exact maskSub rfl hm | split | dsimp only

theorem State.bodyWord_within {μ : Nat} {s₀ s : State} (hf : State.Within μ s₀ s) (l : Nat) (n : Nat) (raw : RxUnit)
    (hm : 0x80000800100000000000000000000000000000000000000000 ||| μ = μ) : State.Within μ s₀ (State.bodyWord s l n
    raw) := by
  unfold State.bodyWord
  repeat' first
    | with_reducible assumption | (intro _) | with_reducible apply State.countErrored_within
    | with_reducible apply State.modLane_within | with_reducible apply State.sendLine_within
    | with_reducible apply State.Within.ite | exact maskSub rfl hm | split | dsimp only

theorem State.laneWord_within {μ : Nat} {s₀ s : State} (hf : State.Within μ s₀ s) (l : Nat) (u : RxUnit) (hm :
    0xc1c53c0890000000000017201681c08c000000000000007800 ||| μ = μ) : State.Within μ s₀ (State.laneWord s l u) := by
  unfold State.laneWord
  repeat' first
    | with_reducible assumption | (intro _) | with_reducible apply State.lockedMarker_within
    | with_reducible apply State.loopMarker_within | with_reducible apply State.countErrored_within
    | with_reducible apply State.badMarker_within | with_reducible apply State.expectBody_within
    | with_reducible apply State.modLane_within | with_reducible apply State.bodyWord_within
    | with_reducible apply State.Within.ite | exact maskSub rfl hm | split | dsimp only

theorem State.takeBits_within {μ : Nat} {s₀ s : State} (hf : State.Within μ s₀ s) (l : Nat) (x2 : Nat) (x3 : List
    RxBit) (hm : 0xc1c53c0890000000000017201681c28c000000000000007800 ||| μ = μ) : State.Within μ s₀ (State.takeBits s
    l x2 x3) := by
  induction x2 generalizing s x3 with
  | zero =>
    unfold State.takeBits
    repeat' first
      | with_reducible assumption | (intro _) | with_reducible apply State.modLane_within
      | with_reducible apply State.laneWord_within | with_reducible apply State.searchWord_within
      | with_reducible refine State.Within.left (by assumption) ?_ | with_reducible apply State.Within.ite
      | exact maskSub rfl hm | split | dsimp only
  | succ n ih =>
    unfold State.takeBits
    repeat' first
      | with_reducible assumption | (intro _) | with_reducible apply ih | with_reducible apply State.modLane_within
      | with_reducible apply State.laneWord_within | with_reducible apply State.searchWord_within
      | with_reducible refine State.Within.left (by assumption) ?_ | with_reducible apply State.Within.ite
      | exact maskSub rfl hm | split | dsimp only

theorem State.laneBits_within {μ : Nat} {s₀ s : State} (hf : State.Within μ s₀ s) (l : Nat) (bits : List Bool) (hm :
    0xc1c53c0890000000000017201681c28c000000000000007800 ||| μ = μ) : State.Within μ s₀ (State.laneBits s l bits) :=
    by
  unfold State.laneBits
  repeat' first
    | with_reducible assumption | (intro _) | with_reducible apply State.bumpBy_within
    | with_reducible apply State.modLane_within | with_reducible apply State.takeBits_within
    | with_reducible apply State.Within.ite | exact maskSub rfl hm | split | dsimp only

theorem State.laneIn_within {μ : Nat} {s₀ s : State} (hf : State.Within μ s₀ s) (l : Nat) (x : LineIn) (hm :
    0xc1c53c0890000000000017201e81c28c000000000000007800 ||| μ = μ) : State.Within μ s₀ (State.laneIn s l x) := by
  unfold State.laneIn
  repeat' first
    | with_reducible assumption | (intro _) | with_reducible apply State.checkBits_within
    | with_reducible apply State.modLane_within | with_reducible apply State.laneBits_within
    | with_reducible apply State.Within.ite | exact maskSub rfl hm | split | dsimp only

theorem State.loopPeriod_within {μ : Nat} {s₀ s : State} (hf : State.Within μ s₀ s) (l : Nat) (hm :
    0xc1c53c0890000000000017201681c28c000000000000007800 ||| μ = μ) : State.Within μ s₀ (State.loopPeriod s l) := by
  unfold State.loopPeriod
  repeat' first
    | with_reducible assumption | (intro _) | with_reducible apply State.endTraining_within
    | with_reducible apply State.sendMarker_within | with_reducible apply State.modLane_within
    | with_reducible apply State.laneBits_within | with_reducible apply State.Within.ite | exact maskSub rfl hm
    | split | dsimp only

theorem State.trainPeriod_within {μ : Nat} {s₀ s : State} (hf : State.Within μ s₀ s) (p : Nat) (hm :
    0xc0000800100000000000000006000000000000000000000000 ||| μ = μ) : State.Within μ s₀ (State.trainPeriod s p) := by
  unfold State.trainPeriod
  repeat' first
    | with_reducible assumption | (intro _) | with_reducible apply State.Within.each
    | with_reducible apply State.endTraining_within | with_reducible apply State.openActive_within
    | with_reducible apply State.sendMarker_within | with_reducible apply State.Within.ite | exact maskSub rfl hm
    | split | dsimp only

theorem State.nextActive_within {μ : Nat} {s₀ s : State} (hf : State.Within μ s₀ s) (l : Nat) (first : Nat) (mask :
    Nat) (hm : 0xc0000800100000000000000006000000000000000000000000 ||| μ = μ) : State.Within μ s₀ (State.nextActive s
    l first mask) := by
  unfold State.nextActive
  repeat' first
    | with_reducible assumption | (intro _) | with_reducible apply State.openActive_within
    | with_reducible apply State.put_within | with_reducible apply State.modLane_within
    | with_reducible apply State.sendMarker_within | with_reducible apply State.Within.ite | exact maskSub rfl hm
    | split | dsimp only

theorem State.activePeriod_within {μ : Nat} {s₀ s : State} (hf : State.Within μ s₀ s) (p : Nat) (nulls : List Nat) (hm
    : 0xc1853c0890000000000017201601c20c000000000000007800 ||| μ = μ) : State.Within μ s₀ (State.activePeriod s p
    nulls) := by
  unfold State.activePeriod
  repeat' first
    | with_reducible assumption | (intro _) | with_reducible apply State.endActive_within
    | with_reducible apply State.Within.each | with_reducible apply State.sendMarker_within
    | with_reducible apply State.stopLane_within | with_reducible apply State.fallAsleep_within
    | with_reducible apply State.changeTxMask_within | with_reducible apply State.endTraining_within
    | with_reducible apply State.modLane_within | with_reducible apply State.nextActive_within
    | with_reducible apply State.pump_within | with_reducible apply State.announceMask_within
    | with_reducible apply State.Within.ite | exact maskSub rfl hm | split | dsimp only

theorem State.periodEnd_within {μ : Nat} {s₀ s : State} (hf : State.Within μ s₀ s) (l : Nat) (nulls : List Nat) (hm :
    0xc1c53c0890000000000017201681c28c000000000000007800 ||| μ = μ) : State.Within μ s₀ (State.periodEnd s l nulls) :=
    by
  unfold State.periodEnd
  repeat' first
    | with_reducible assumption | (intro _) | with_reducible apply State.loopPeriod_within
    | with_reducible apply State.trainPeriod_within | with_reducible apply State.activePeriod_within
    | with_reducible apply State.Within.ite | exact maskSub rfl hm | split | dsimp only

theorem State.frameAcked_within {μ : Nat} {s₀ s : State} (hf : State.Within μ s₀ s) (p : Nat) (e : EgFrame) (hm :
    0xc104b04890000000000000001000000c5ff840000100407800 ||| μ = μ) : State.Within μ s₀ (State.frameAcked s p e) := by
  unfold State.frameAcked
  repeat' first
    | with_reducible assumption | (intro _) | with_reducible apply State.missAt_within
    | with_reducible apply State.writeAccepted_within | with_reducible apply State.Within.ite | exact maskSub rfl hm
    | split | dsimp only

theorem State.takeAck_within {μ : Nat} {s₀ s : State} (hf : State.Within μ s₀ s) (p : Nat) (a : Nat) (hm :
    0xc184bc4890000000000000001601c08c5ff840000100407800 ||| μ = μ) : ∀ t, State.takeAck s p a = some t → State.Within
    μ s₀ t := by
  unfold State.takeAck
  repeat' first
    | with_reducible assumption | exact withinNone | with_reducible refine withinSome ?_
    | with_reducible refine withinIte ?_ ?_ | split | with_reducible apply State.modPort_within
    | with_reducible apply State.put_within | with_reducible apply State.noteReplay_within
    | with_reducible apply State.disarm_within | with_reducible apply State.arm_within
    | with_reducible apply State.Within.each | with_reducible apply State.frameAcked_within
    | with_reducible apply State.answerReads_within | with_reducible apply State.pump_within
    | with_reducible apply State.quiet_within | with_reducible apply State.Within.ite | exact maskSub rfl hm
    | dsimp only | (intro _)

theorem State.takeReq_within {μ : Nat} {s₀ s : State} (hf : State.Within μ s₀ s) (p : Nat) (r : Nat) (hm :
    0x408000000000000000000000000000000000000000000 ||| μ = μ) : State.Within μ s₀ (State.takeReq s p r) := by
  unfold State.takeReq
  repeat' first
    | with_reducible assumption | (intro _) | with_reducible apply State.modPort_within
    | with_reducible apply State.disarm_within | with_reducible apply State.arm_within
    | with_reducible apply State.Within.ite | exact maskSub rfl hm | split | dsimp only

theorem State.takeLink_within {μ : Nat} {s₀ s : State} (hf : State.Within μ s₀ s) (p : Nat) (w : Word) (hm :
    0xc184bc4890000000000000001601c08c5ff840000100407800 ||| μ = μ) : ∀ t, State.takeLink s p w = some t →
    State.Within μ s₀ t := by
  unfold State.takeLink
  repeat' first
    | with_reducible assumption | exact withinNone | with_reducible refine withinSome ?_
    | with_reducible refine withinIte ?_ ?_ | with_reducible refine withinMap ?_ ?_
    | with_reducible refine State.takeAck_within ?_ _ _ ?_ | split | with_reducible apply State.put_within
    | with_reducible apply State.pump_within | with_reducible apply State.takeReq_within
    | with_reducible apply State.Within.ite | exact maskSub rfl hm | dsimp only | (intro _)

theorem State.malformed_within {μ : Nat} {s₀ s : State} (hf : State.Within μ s₀ s) (p : Nat) (f : Frame) (status :
    Nat) (hm : 0x100000000000000000600000000000000000000000 ||| μ = μ) : State.Within μ s₀ (State.malformed s p f
    status) := by
  unfold State.malformed
  repeat' first
    | with_reducible assumption | (intro _) | with_reducible apply State.bump_within
    | with_reducible apply State.jtLog_within | with_reducible apply State.Within.ite | exact maskSub rfl hm | split
    | dsimp only

theorem State.acceptFrame_within {μ : Nat} {s₀ s : State} (hf : State.Within μ s₀ s) (p : Nat) (w : Word) (f : Frame)
    (hm : 0xc1c5bc48900000000000172016e7c08c5ff840000100407800 ||| μ = μ) : State.Within μ s₀ (State.acceptFrame s p w
    f) := by
  unfold State.acceptFrame
  repeat' first
    | with_reducible assumption | (intro _) | with_reducible apply State.portDown_within
    | with_reducible apply State.bump_within | with_reducible apply State.put_within
    | with_reducible apply State.modPort_within | with_reducible apply State.disarm_within
    | with_reducible apply State.malformed_within | with_reducible apply State.holdsChanged_within
    | with_reducible apply State.sendIdle_within | with_reducible apply State.Within.ite | exact maskSub rfl hm
    | split | dsimp only

theorem State.actFrame_within {μ : Nat} {s₀ s : State} (hf : State.Within μ s₀ s) (p : Nat) (us : List RxUnit) (w :
    Word) (good : Bool) (hm : 0xc1c5bc48900000000000172016e7c08c5ff840000100407800 ||| μ = μ) : State.Within μ s₀
    (State.actFrame s p us w good) := by
  unfold State.actFrame
  repeat' first
    | with_reducible assumption | (intro _) | with_reducible apply State.portDown_within
    | with_reducible apply State.sleepRefused_within | with_reducible apply State.bump_within
    | with_reducible apply State.acceptFrame_within | with_reducible apply State.modPort_within
    | with_reducible apply State.portUp_within | with_reducible apply State.takeSleepReq_within
    | with_reducible apply State.takeSleepAck_within | with_reducible apply State.Within.ite | exact maskSub rfl hm
    | split | dsimp only

theorem State.loseFraming_within {μ : Nat} {s₀ s : State} (hf : State.Within μ s₀ s) (p : Nat) (hm :
    0x408100000000000000000000000000000000000000000 ||| μ = μ) : State.Within μ s₀ (State.loseFraming s p) := by
  unfold State.loseFraming
  repeat' first
    | with_reducible assumption | (intro _) | with_reducible apply State.bump_within
    | with_reducible apply State.Within.each | with_reducible apply State.modPort_within
    | with_reducible apply State.disarm_within | with_reducible apply State.Within.ite | exact maskSub rfl hm | split
    | dsimp only

theorem State.takePeriodUnit_within {μ : Nat} {s₀ s : State} (hf : State.Within μ s₀ s) (m : Nat) (u : RxUnit) (hm :
    0x81050408900000000000172010004000000000000000007800 ||| μ = μ) : State.Within μ s₀ (State.takePeriodUnit s m u)
    := by
  unfold State.takePeriodUnit
  repeat' first
    | with_reducible assumption | (intro _) | with_reducible apply State.setRxMask_within
    | with_reducible apply State.modPort_within | with_reducible apply State.Within.ite | exact maskSub rfl hm | split
    | dsimp only

theorem State.missPeriodUnit_within {μ : Nat} {s₀ s : State} (hf : State.Within μ s₀ s) (m : Nat) (count : Nat) (hm :
    0x400000000000000000000000000000000000000000000 ||| μ = μ) : State.Within μ s₀ (State.missPeriodUnit s m count) :=
    by
  unfold State.missPeriodUnit
  repeat' first
    | with_reducible assumption | (intro _) | with_reducible apply State.modPort_within
    | with_reducible apply State.Within.ite | exact maskSub rfl hm | split | dsimp only

theorem State.addUnits_within {μ : Nat} {s₀ s : State} (hf : State.Within μ s₀ s) (m : Nat) (us : List RxUnit) (hm :
    0x400000000000000000000000000000000000000000000 ||| μ = μ) : State.Within μ s₀ (State.addUnits s m us) := by
  unfold State.addUnits
  repeat' first
    | with_reducible assumption | (intro _) | with_reducible apply State.modPort_within
    | with_reducible apply State.Within.ite | exact maskSub rfl hm | split | dsimp only

theorem State.takeUnits_within {μ : Nat} {s₀ s : State} (hf : State.Within μ s₀ s) (m : Nat) (hm :
    0x81050c08900000000000172010004000000000000000007800 ||| μ = μ) : ∀ t, State.takeUnits s m = some t → State.Within
    μ s₀ t := by
  unfold State.takeUnits
  repeat' first
    | with_reducible assumption | exact withinNone | with_reducible refine withinSome ?_
    | with_reducible refine withinIte ?_ ?_ | with_reducible refine withinMap ?_ ?_ | split
    | with_reducible apply State.Within.each | with_reducible apply State.modLane_within
    | with_reducible apply State.takePeriodUnit_within | with_reducible apply State.missPeriodUnit_within
    | with_reducible apply State.modPort_within | with_reducible apply State.loseFraming_within
    | with_reducible apply State.addUnits_within | with_reducible apply State.Within.ite | exact maskSub rfl hm
    | dsimp only | (intro _)

theorem State.useHead_within {μ : Nat} {s₀ s : State} (hf : State.Within μ s₀ s) (p : Nat) (w : Word) (hm :
    0xc184bc4890000000000000001601c08c5ff840000100407800 ||| μ = μ) : ∀ t, State.useHead s p w = some t → State.Within
    μ s₀ t := by
  unfold State.useHead
  repeat' first
    | with_reducible assumption | exact withinNone | with_reducible refine withinSome ?_
    | with_reducible refine withinIte ?_ ?_ | with_reducible refine withinMap ?_ ?_
    | with_reducible refine State.takeLink_within ?_ _ _ ?_ | split | with_reducible apply State.modPort_within
    | with_reducible apply State.holdsChanged_within | with_reducible apply State.Within.ite | exact maskSub rfl hm
    | dsimp only | (intro _)

theorem State.dropUnits_within {μ : Nat} {s₀ s : State} (hf : State.Within μ s₀ s) (m : Nat) (n : Nat) (hm :
    0x400000000000000000000000000000000000000000000 ||| μ = μ) : State.Within μ s₀ (State.dropUnits s m n) := by
  unfold State.dropUnits
  repeat' first
    | with_reducible assumption | (intro _) | with_reducible apply State.modPort_within
    | with_reducible apply State.Within.ite | exact maskSub rfl hm | split | dsimp only

theorem State.mergerDrop_within {μ : Nat} {s₀ s : State} (hf : State.Within μ s₀ s) (p : Nat) (hm :
    0xc1c5bc4890000000000017201687c08c5ff840000100407800 ||| μ = μ) : State.Within μ s₀ (State.mergerDrop s p) := by
  unfold State.mergerDrop
  repeat' first
    | with_reducible assumption | (intro _) | with_reducible apply State.portDown_within
    | with_reducible apply State.bump_within | with_reducible apply State.put_within
    | with_reducible apply State.dropUnits_within | with_reducible apply State.disarm_within
    | with_reducible apply State.modPort_within | with_reducible apply State.holdsChanged_within
    | with_reducible refine State.useHead_within ?_ _ _ ?_ _ (by assumption) | with_reducible apply State.Within.ite
    | exact maskSub rfl hm | split | dsimp only

theorem State.awaitBurst_within {μ : Nat} {s₀ s : State} (hf : State.Within μ s₀ s) (p : Nat) (w : Word) (hm :
    0x408000000000000000000000000000000000000000000 ||| μ = μ) : State.Within μ s₀ (State.awaitBurst s p w) := by
  unfold State.awaitBurst
  repeat' first
    | with_reducible assumption | (intro _) | with_reducible apply State.modPort_within
    | with_reducible apply State.arm_within | with_reducible apply State.Within.ite | exact maskSub rfl hm | split
    | dsimp only

theorem State.waitHead_within {μ : Nat} {s₀ s : State} (hf : State.Within μ s₀ s) (p : Nat) (w : Word) (hm :
    0xc1c5bc4890000000000017201687c08c5ff840000100407800 ||| μ = μ) : State.Within μ s₀ (State.waitHead s p w) := by
  unfold State.waitHead
  repeat' first
    | with_reducible assumption | (intro _) | with_reducible apply State.portDown_within
    | with_reducible apply State.awaitBurst_within
    | with_reducible refine State.useHead_within ?_ _ _ ?_ _ (by assumption) | with_reducible apply State.Within.ite
    | exact maskSub rfl hm | split | dsimp only

theorem State.takeFrame_within {μ : Nat} {s₀ s : State} (hf : State.Within μ s₀ s) (p : Nat) (n : Nat) (w : Word)
    (good : Bool) (hm : 0xc1c5bc48900000000000172016e7c08c5ff840000100407800 ||| μ = μ) : State.Within μ s₀
    (State.takeFrame s p n w good) := by
  unfold State.takeFrame
  repeat' first
    | with_reducible assumption | (intro _) | with_reducible apply State.portDown_within
    | with_reducible apply State.modPort_within | with_reducible apply State.actFrame_within
    | with_reducible apply State.holdsChanged_within
    | with_reducible refine State.useHead_within ?_ _ _ ?_ _ (by assumption) | with_reducible apply State.Within.ite
    | exact maskSub rfl hm | split | dsimp only

theorem State.mergeFrame_within {μ : Nat} {s₀ s : State} (hf : State.Within μ s₀ s) (p : Nat) (n : Nat) (w : Word)
    (good : Bool) (hm : 0xc1c5bc48900000000000172016e7c08c5ff840000100407800 ||| μ = μ) : State.Within μ s₀
    (State.mergeFrame s p n w good) := by
  unfold State.mergeFrame
  repeat' first
    | with_reducible assumption | (intro _) | with_reducible apply State.mergerDrop_within
    | with_reducible apply State.portDown_within | with_reducible apply State.put_within
    | with_reducible apply State.disarm_within | with_reducible apply State.dropUnits_within
    | with_reducible apply State.modPort_within | with_reducible apply State.actFrame_within
    | with_reducible apply State.holdsChanged_within
    | with_reducible refine State.useHead_within ?_ _ _ ?_ _ (by assumption) | with_reducible apply State.Within.ite
    | exact maskSub rfl hm | split | dsimp only

theorem State.followStream_within {μ : Nat} {s₀ s : State} (hf : State.Within μ s₀ s) (p : Nat) (x2 : Nat) (hm :
    0xc1c5bc48900000000000172016e7c08c5ff840000100407800 ||| μ = μ) : State.Within μ s₀ (State.followStream s p x2) :=
    by
  induction x2 generalizing s with
  | zero =>
    unfold State.followStream
    repeat' first
      | with_reducible assumption | (intro _) | with_reducible apply State.waitHead_within
      | with_reducible apply State.loseFraming_within | with_reducible apply State.portDown_within
      | with_reducible apply State.modPort_within | with_reducible apply State.mergeFrame_within
      | with_reducible apply State.takeFrame_within | with_reducible apply State.Within.ite | exact maskSub rfl hm
      | split | dsimp only
  | succ n ih =>
    unfold State.followStream
    repeat' first
      | with_reducible assumption | (intro _) | with_reducible apply ih | with_reducible apply State.waitHead_within
      | with_reducible apply State.loseFraming_within | with_reducible apply State.portDown_within
      | with_reducible apply State.modPort_within | with_reducible apply State.mergeFrame_within
      | with_reducible apply State.takeFrame_within | with_reducible apply State.Within.ite | exact maskSub rfl hm
      | split | dsimp only

theorem State.mergerTimeout_within {μ : Nat} {s₀ s : State} (hf : State.Within μ s₀ s) (p : Nat) (hm :
    0xc1c5bc48900000000000172016e7c08c5ff840000100407800 ||| μ = μ) : State.Within μ s₀ (State.mergerTimeout s p) :=
    by
  unfold State.mergerTimeout
  repeat' first
    | with_reducible assumption | (intro _) | with_reducible apply State.mergerDrop_within
    | with_reducible apply State.followStream_within | with_reducible apply State.Within.ite | exact maskSub rfl hm
    | split | dsimp only

theorem State.takeSlots_within {μ : Nat} {s₀ s : State} (hf : State.Within μ s₀ s) (m : Nat) (x2 : Nat) (hm :
    0xc1c5bc48900000000000172016e7c08c5ff840000100407800 ||| μ = μ) : State.Within μ s₀ (State.takeSlots s m x2) := by
  induction x2 generalizing s with
  | zero =>
    unfold State.takeSlots
    repeat' first
      | with_reducible assumption | (intro _) | with_reducible apply State.followStream_within
      | with_reducible refine State.takeUnits_within ?_ _ ?_ _ (by assumption) | with_reducible apply State.Within.ite
      | exact maskSub rfl hm | split | dsimp only
  | succ n ih =>
    unfold State.takeSlots
    repeat' first
      | with_reducible assumption | (intro _) | with_reducible apply ih
      | with_reducible apply State.followStream_within
      | with_reducible refine State.takeUnits_within ?_ _ ?_ _ (by assumption) | with_reducible apply State.Within.ite
      | exact maskSub rfl hm | split | dsimp only

theorem State.drainLanes_within {μ : Nat} {s₀ s : State} (hf : State.Within μ s₀ s) (p : Nat) (hm :
    0xc1c5bc48900000000000172016e7c08c5ff840000100407800 ||| μ = μ) : State.Within μ s₀ (State.drainLanes s p) := by
  unfold State.drainLanes
  repeat' first
    | with_reducible assumption | (intro _) | with_reducible apply State.Within.each
    | with_reducible apply State.takeSlots_within | with_reducible apply State.quiet_within
    | with_reducible apply State.Within.ite | exact maskSub rfl hm | split | dsimp only

theorem State.lineIn_within {μ : Nat} {s₀ s : State} (hf : State.Within μ s₀ s) (l : Nat) (line : LineIn) (hm :
    0xc1c5bc4890000000000017201ee7c28c5ff840000100407800 ||| μ = μ) : State.Within μ s₀ (State.lineIn s l line) := by
  unfold State.lineIn
  repeat' first
    | with_reducible assumption | (intro _) | with_reducible apply State.laneIn_within
    | with_reducible apply State.drainLanes_within | with_reducible apply State.Within.ite | exact maskSub rfl hm
    | split | dsimp only

theorem State.linesIn_within {μ : Nat} {s₀ s : State} (hf : State.Within μ s₀ s) (p : Nat) (lines : List LineIn) (hm :
    0xc1c5bc4890000000000017201ee7c28c5ff840000100407800 ||| μ = μ) : State.Within μ s₀ (State.linesIn s p lines) :=
    by
  unfold State.linesIn
  repeat' first
    | with_reducible assumption | (intro _) | with_reducible apply State.Within.each
    | with_reducible apply State.laneIn_within | with_reducible apply State.drainLanes_within
    | with_reducible apply State.Within.ite | exact maskSub rfl hm | split | dsimp only

theorem State.popIngress_within {μ : Nat} {s₀ s : State} (hf : State.Within μ s₀ s) (p : Nat) (f : Frame) (hm :
    0xc0000c0810000000000000000601c08c000000000000000000 ||| μ = μ) : State.Within μ s₀ (State.popIngress s p f) := by
  unfold State.popIngress
  repeat' first
    | with_reducible assumption | (intro _) | with_reducible apply State.modPort_within
    | with_reducible apply State.holdsChanged_within | with_reducible apply State.quiet_within
    | with_reducible apply State.Within.ite | exact maskSub rfl hm | split | dsimp only

theorem State.countRefused_within {μ : Nat} {s₀ s : State} (hf : State.Within μ s₀ s) (p : Nat) (f : Frame) (status :
    Nat) (seg : Option Nat) (hm : 0x100000000000000000600000000000000000000000 ||| μ = μ) : State.Within μ s₀
    (State.countRefused s p f status seg) := by
  unfold State.countRefused
  repeat' first
    | with_reducible assumption | (intro _) | with_reducible apply State.bump_within
    | with_reducible apply State.jtLog_within | with_reducible apply State.Within.ite | exact maskSub rfl hm | split
    | dsimp only

theorem State.deviceKey_within {μ : Nat} {s₀ s : State} (hf : State.Within μ s₀ s) (n : Nat) (dl : Option Nat) (hm :
    0x100000000000000000000000000000000000000000 ||| μ = μ) : State.Within μ s₀ (State.deviceKey s n dl).2 := by
  unfold State.deviceKey
  repeat' first
    | with_reducible assumption | (intro _) | with_reducible apply State.tagKey_within
    | with_reducible apply State.accessKey_within | with_reducible refine State.Within.pair (by assumption) ?_
    | with_reducible apply State.Within.ite | exact maskSub rfl hm | split | dsimp only

theorem State.queueCpl_within {μ : Nat} {s₀ s : State} (hf : State.Within μ s₀ s) (p : Nat) (fn : Nat) (key : Nat) (f
    : Frame) (hm : 0xc1843c0810000000000000001601c20c000000000000007800 ||| μ = μ) : State.Within μ s₀ (State.queueCpl
    s p fn key f) := by
  unfold State.queueCpl
  repeat' first
    | with_reducible assumption | (intro _) | with_reducible apply State.enqueue_within
    | with_reducible apply State.Within.ite | exact maskSub rfl hm | split | dsimp only

theorem State.answerDevice_within {μ : Nat} {s₀ s : State} (hf : State.Within μ s₀ s) (p : Nat) (tag : Nat) (x3 : Nat)
    (x4 : DTag) (hm : 0xc1843c0810000000000000001661c20c000000000000007800 ||| μ = μ) : State.Within μ s₀
    (State.answerDevice s p tag x3 x4).2 := by
  induction x3 generalizing s x4 with
  | zero =>
    unfold State.answerDevice
    repeat' first
      | with_reducible assumption | (intro _) | with_reducible apply State.queueCpl_within
      | with_reducible apply State.bump_within | with_reducible apply State.jtLog_within
      | with_reducible apply State.Within.ite | exact maskSub rfl hm | split | dsimp only
  | succ n ih =>
    unfold State.answerDevice
    repeat' first
      | with_reducible assumption | (intro _) | with_reducible apply ih | with_reducible apply State.queueCpl_within
      | with_reducible apply State.bump_within | with_reducible apply State.jtLog_within
      | with_reducible apply State.Within.ite | exact maskSub rfl hm | split | dsimp only

theorem State.dropParts_within {μ : Nat} {s₀ s : State} (hf : State.Within μ s₀ s) (h : Nat) (p : Nat) (tag : Nat) (hm
    : 0xc000004090000000000000000000000c000000000100400800 ||| μ = μ) : State.Within μ s₀ (State.dropParts s h p tag)
    := by
  unfold State.dropParts
  repeat' first
    | with_reducible assumption | (intro _) | with_reducible apply State.modHost_within
    | with_reducible apply State.drainWrites_within | with_reducible apply State.Within.ite | exact maskSub rfl hm
    | split | dsimp only

theorem State.answerDevices_within {μ : Nat} {s₀ s : State} (hf : State.Within μ s₀ s) (p : Nat) (hm :
    0xc1843c4890000000000000001661c20c000000000100407800 ||| μ = μ) : State.Within μ s₀ (State.answerDevices s p) :=
    by
  unfold State.answerDevices
  repeat' first
    | with_reducible assumption | (intro _) | with_reducible apply State.Within.foldlPair
    | with_reducible apply State.answerDevice_within | with_reducible apply State.modPort_within
    | with_reducible apply State.dropParts_within | with_reducible apply State.Within.foldl
    | with_reducible apply State.quiet_within | with_reducible refine State.Within.pair (by assumption) ?_
    | with_reducible apply State.Within.ite | exact maskSub rfl hm | split | dsimp only

theorem State.startDeviceRead_within {μ : Nat} {s₀ s : State} (hf : State.Within μ s₀ s) (p : Nat) (n : Nat) (f :
    Frame) (hm : 0xe104044090000000000000001000000c000000000100407800 ||| μ = μ) : State.Within μ s₀
    (State.startDeviceRead s p n f) := by
  unfold State.startDeviceRead
  repeat' first
    | with_reducible assumption | (intro _) | with_reducible apply State.deviceKey_within
    | with_reducible apply State.modPort_within | with_reducible apply State.Within.each
    | with_reducible apply State.askHost_within | with_reducible refine State.Within.pair (by assumption) ?_
    | with_reducible apply State.Within.ite | exact maskSub rfl hm | split | dsimp only
  all_goals with_reducible apply State.Within.other
  all_goals first | exact Or.inl rfl | exact Or.inl ⟨rfl, rfl⟩ | exact Or.inl ⟨rfl, rfl, rfl⟩ | exact Or.inr (maskSub rfl hm) | skip
  repeat' first
    | with_reducible assumption | (intro _) | with_reducible apply State.deviceKey_within
    | with_reducible apply State.modPort_within | with_reducible apply State.Within.each
    | with_reducible apply State.askHost_within | with_reducible refine State.Within.pair (by assumption) ?_
    | with_reducible apply State.Within.ite | exact maskSub rfl hm | split | dsimp only

theorem State.refuseRead_within {μ : Nat} {s₀ s : State} (hf : State.Within μ s₀ s) (p : Nat) (f : Frame) (st : Nat)
    (x4 : Option Nat) (hm : 0xc1843c4890000000000000001661c20c000000000100407800 ||| μ = μ) : State.Within μ s₀
    (State.refuseRead s p f st x4) := by
  unfold State.refuseRead
  repeat' first
    | with_reducible assumption | (intro _) | with_reducible apply State.queueCpl_within
    | with_reducible apply State.deviceKey_within | with_reducible apply State.modPort_within
    | with_reducible apply State.answerDevices_within | with_reducible refine State.Within.pair (by assumption) ?_
    | with_reducible apply State.Within.ite | exact maskSub rfl hm | split | dsimp only

theorem State.deviceRead_within {μ : Nat} {s₀ s : State} (hf : State.Within μ s₀ s) (p : Nat) (v : Nat) (hm :
    0xe1843c4890000000000000001661c28c000000000100407800 ||| μ = μ) : State.Within μ s₀ (State.deviceRead s p v) := by
  unfold State.deviceRead
  repeat' first
    | with_reducible assumption | (intro _) | with_reducible apply State.popIngress_within
    | with_reducible apply State.wakeRegion_within | with_reducible apply State.malformed_within
    | with_reducible apply State.refuseRead_within | with_reducible apply State.countRefused_within
    | with_reducible apply State.startDeviceRead_within | with_reducible apply State.Within.ite | exact maskSub rfl hm
    | split | dsimp only

theorem State.deviceWrite_within {μ : Nat} {s₀ s : State} (hf : State.Within μ s₀ s) (p : Nat) (v : Nat) (hm :
    0xe1040c4890000000000000001661c08c000000000100407800 ||| μ = μ) : State.Within μ s₀ (State.deviceWrite s p v) :=
    by
  unfold State.deviceWrite
  repeat' first
    | with_reducible assumption | (intro _) | with_reducible apply State.popIngress_within
    | with_reducible apply State.wakeRegion_within | with_reducible apply State.malformed_within
    | with_reducible apply State.countRefused_within | with_reducible apply State.deviceKey_within
    | with_reducible apply State.askHost_within | with_reducible refine State.Within.pair (by assumption) ?_
    | with_reducible apply State.Within.ite | exact maskSub rfl hm | split | dsimp only
  all_goals with_reducible apply State.Within.other
  all_goals first | exact Or.inl rfl | exact Or.inl ⟨rfl, rfl⟩ | exact Or.inl ⟨rfl, rfl, rfl⟩ | exact Or.inr (maskSub rfl hm) | skip
  repeat' first
    | with_reducible assumption | (intro _) | with_reducible apply State.popIngress_within
    | with_reducible apply State.wakeRegion_within | with_reducible apply State.malformed_within
    | with_reducible apply State.countRefused_within | with_reducible apply State.deviceKey_within
    | with_reducible apply State.askHost_within | with_reducible refine State.Within.pair (by assumption) ?_
    | with_reducible apply State.Within.ite | exact maskSub rfl hm | split | dsimp only

theorem State.devicePeg_within {μ : Nat} {s₀ s : State} (hf : State.Within μ s₀ s) (p : Nat) (v : Nat) (hm :
    0xc1044c0810000000000000011601c08c000000000000007800 ||| μ = μ) : State.Within μ s₀ (State.devicePeg s p v) := by
  unfold State.devicePeg
  repeat' first
    | with_reducible assumption | (intro _) | with_reducible apply State.popIngress_within
    | with_reducible apply State.Within.each | with_reducible apply State.raisePeg_within
    | with_reducible apply State.Within.ite | exact maskSub rfl hm | split | dsimp only

theorem State.freeTagOf_within {μ : Nat} {s₀ s : State} (hf : State.Within μ s₀ s) (p : Nat) (t : Nat) (hm :
    0xc184bc4890000000000000001601c20c7ff840000100407800 ||| μ = μ) : State.Within μ s₀ (State.freeTagOf s p t) := by
  unfold State.freeTagOf
  repeat' first
    | with_reducible assumption | (intro _) | with_reducible apply State.disarm_within
    | with_reducible apply State.modPort_within | with_reducible apply State.runEngines_within
    | with_reducible apply State.quiet_within | with_reducible apply State.Within.ite | exact maskSub rfl hm | split
    | dsimp only

theorem State.countLocal_within {μ : Nat} {s₀ s : State} (hf : State.Within μ s₀ s) (p : Nat) (fn : Nat) (i : Nat)
    (done : Bool) (hm : 0x100000000000000000000000000000000000000000 ||| μ = μ) : State.Within μ s₀ (State.countLocal
    s p fn i done) := by
  unfold State.countLocal
  repeat' first
    | with_reducible assumption | (intro _) | with_reducible apply State.bump_within
    | with_reducible apply State.Within.ite | exact maskSub rfl hm | split | dsimp only

theorem State.endLocal_within {μ : Nat} {s₀ s : State} (hf : State.Within μ s₀ s) (p : Nat) (t : LTag) (i : Nat)
    (status : Nat) (hm : 0xc184bc4890000000000000001601c08c5ff840000100407800 ||| μ = μ) : State.Within μ s₀
    (State.endLocal s p t i status) := by
  unfold State.endLocal
  repeat' first
    | with_reducible assumption | (intro _) | with_reducible apply State.countLocal_within
    | with_reducible apply State.failRead_within | with_reducible apply State.engineError_within
    | with_reducible apply State.Within.ite | exact maskSub rfl hm | split | dsimp only

theorem State.localData_within {μ : Nat} {s₀ s : State} (hf : State.Within μ s₀ s) (p : Nat) (t : LTag) (bs : List
    Byte) (hm : 0xc184bc4890000000000000001601c28c7ff840000100407800 ||| μ = μ) : State.Within μ s₀ (State.localData s
    p t bs) := by
  unfold State.localData
  repeat' first
    | with_reducible assumption | (intro _) | with_reducible apply State.setRead_within
    | with_reducible apply State.answerReads_within | with_reducible apply State.engineData_within
    | with_reducible apply State.Within.ite | exact maskSub rfl hm | split | dsimp only

theorem State.deviceCpl_within {μ : Nat} {s₀ s : State} (hf : State.Within μ s₀ s) (p : Nat) (v : Nat) (hm :
    0xc184bc4890000000000000001661c28c7ff840000100407800 ||| μ = μ) : State.Within μ s₀ (State.deviceCpl s p v) := by
  unfold State.deviceCpl
  repeat' first
    | with_reducible assumption | (intro _) | with_reducible apply State.popIngress_within
    | with_reducible apply State.bump_within | with_reducible apply State.jtLog_within
    | with_reducible apply State.freeTagOf_within | with_reducible apply State.engineData_within
    | with_reducible apply State.endLocal_within | with_reducible apply State.localData_within
    | with_reducible apply State.Within.ite | exact maskSub rfl hm | split | dsimp only

theorem State.responseTimeout_within {μ : Nat} {s₀ s : State} (hf : State.Within μ s₀ s) (p : Nat) (tag : Nat) (hm :
    0xc184bc4890000000000000001661c28c7ff840000100407800 ||| μ = μ) : State.Within μ s₀ (State.responseTimeout s p
    tag) := by
  unfold State.responseTimeout
  repeat' first
    | with_reducible assumption | (intro _) | with_reducible apply State.modPort_within
    | with_reducible apply State.arm_within | with_reducible apply State.jtLog_within
    | with_reducible apply State.endLocal_within | with_reducible apply State.countLocal_within
    | with_reducible apply State.engineData_within | with_reducible apply State.Within.ite | exact maskSub rfl hm
    | split | dsimp only

theorem State.loseFrame_within {μ : Nat} {s₀ s : State} (hf : State.Within μ s₀ s) (p : Nat) (e : EgFrame) (hm :
    0xc184bc4890000000000000001601c28c7ff840000100407800 ||| μ = μ) : State.Within μ s₀ (State.loseFrame s p e) := by
  unfold State.loseFrame
  repeat' first
    | with_reducible assumption | (intro _) | with_reducible apply State.modPort_within
    | with_reducible apply State.bump_within | with_reducible apply State.pump_within
    | with_reducible apply State.writeAccepted_within | with_reducible apply State.endLocal_within
    | with_reducible apply State.freeTagOf_within | with_reducible apply State.Within.ite | exact maskSub rfl hm
    | split | dsimp only

theorem State.loseUnit_within {μ : Nat} {s₀ s : State} (hf : State.Within μ s₀ s) (f : Nat) (a : Nat) (hm :
    0xc184bc4890000000000000001601c28c7ff840000100407800 ||| μ = μ) : State.Within μ s₀ (State.loseUnit s f a) := by
  unfold State.loseUnit
  repeat' first
    | with_reducible assumption | (intro _) | with_reducible apply State.modHost_within
    | with_reducible apply State.loseFrame_within | with_reducible apply State.Within.ite | exact maskSub rfl hm
    | split | dsimp only

theorem State.timeDueNow_within {μ : Nat} {s₀ s : State} (hf : State.Within μ s₀ s) (p : Nat) (hm :
    0xc1843c0810000000000000001601c20c000000000000007800 ||| μ = μ) : State.Within μ s₀ (State.timeDueNow s p) := by
  unfold State.timeDueNow
  repeat' first
    | with_reducible assumption | (intro _) | with_reducible apply State.arm_within
    | with_reducible apply State.modPort_within | with_reducible apply State.enqueue_within
    | with_reducible apply State.Within.ite | exact maskSub rfl hm | split | dsimp only

end Sys2Proof.Machine
end

