-- ==== Sys2Proof/Laws/WithinHost.lean ====
section
/-! SUPPORT. What the operations of host ports, functions and configuration space leave alone
(State.Within): one lemma per operation. -/

namespace Sys2Proof.Machine

set_option linter.all false
set_option Elab.async false

theorem State.locPart_within {μ : Nat} {s₀ s : State} (hf : State.Within μ s₀ s) (p : Nat) (dtag : Nat) (ofs : Nat)
    (bs : List Byte) (done : Bool) (err : Bool) (hm : 0xc1843c4890000000000000001661c20c000000000100407800 ||| μ = μ)
    : State.Within μ s₀ (State.locPart s p dtag ofs bs done err) := by
  unfold State.locPart
  repeat' first
    | with_reducible assumption | (intro _) | with_reducible apply State.modPort_within
    | with_reducible apply State.answerDevices_within | with_reducible apply State.Within.ite | exact maskSub rfl hm
    | split | dsimp only

theorem State.hostData_within {μ : Nat} {s₀ s : State} (hf : State.Within μ s₀ s) (r : HReq) (ofs : Nat) (bs : List
    Byte) (done : Bool) (whole : List Byte) (hm : 0xc184bc4890000000000000001661c20c7ff840000100407800 ||| μ = μ) :
    State.Within μ s₀ (State.hostData s r ofs bs done whole) := by
  unfold State.hostData
  repeat' first
    | with_reducible assumption | (intro _) | with_reducible apply State.engineData_within
    | with_reducible apply State.locPart_within | with_reducible apply State.fetchDone_within
    | with_reducible apply State.Within.ite | exact maskSub rfl hm | split | dsimp only

theorem State.hostError_within {μ : Nat} {s₀ s : State} (hf : State.Within μ s₀ s) (r : HReq) (status : Nat) (hm :
    0xc184bc4890000000000000001661c20c5ff840000100407800 ||| μ = μ) : State.Within μ s₀ (State.hostError s r status)
    := by
  unfold State.hostError
  repeat' first
    | with_reducible assumption | (intro _) | with_reducible apply State.engineError_within
    | with_reducible apply State.locPart_within | with_reducible apply State.fetchFailed_within
    | with_reducible apply State.Within.ite | exact maskSub rfl hm | split | dsimp only

theorem State.hostStale_within {μ : Nat} {s₀ s : State} (hf : State.Within μ s₀ s) (r : HReq) (hm :
    0xc184bc4890000000000000001601c20c7ff840000100407800 ||| μ = μ) : State.Within μ s₀ (State.hostStale s r) := by
  unfold State.hostStale
  repeat' first
    | with_reducible assumption | (intro _) | with_reducible apply State.engineData_within
    | with_reducible apply State.Within.ite | exact maskSub rfl hm | split | dsimp only

theorem State.notePoison_within {μ : Nat} {s₀ s : State} (hf : State.Within μ s₀ s) (f : Nat) (hm :
    0x800000000000000000000000000000000000000000 ||| μ = μ) : State.Within μ s₀ (State.notePoison s f) := by
  unfold State.notePoison
  repeat' first
    | with_reducible assumption | (intro _) | with_reducible apply State.setStatus_within
    | with_reducible apply State.Within.ite | exact maskSub rfl hm | split | dsimp only

theorem State.hostCompletion_within {μ : Nat} {s₀ s : State} (hf : State.Within μ s₀ s) (h : Nat) (t : Nat) (st :
    CplStatus) (data : List Byte) (hm : 0xc184bc4890000000000000001661c20c7ff840000100407800 ||| μ = μ) : State.Within
    μ s₀ (State.hostCompletion s h t st data) := by
  unfold State.hostCompletion
  repeat' first
    | with_reducible assumption | (intro _) | with_reducible apply State.aerUnc_within
    | with_reducible apply State.wakeRegion_within | with_reducible apply State.bump_within
    | with_reducible apply State.hostStale_within | with_reducible apply State.freeHostTag_within
    | with_reducible apply State.hostData_within | with_reducible apply State.modHost_within
    | with_reducible apply State.notePoison_within | with_reducible apply State.hostError_within
    | with_reducible apply State.setStatus_within | with_reducible apply State.Within.ite | exact maskSub rfl hm
    | split | dsimp only

theorem State.completionTimeout_within {μ : Nat} {s₀ s : State} (hf : State.Within μ s₀ s) (h : Nat) (t : Nat) (hm :
    0xc184bc4890000000000000001661c20c7ff840000100407800 ||| μ = μ) : State.Within μ s₀ (State.completionTimeout s h
    t) := by
  unfold State.completionTimeout
  repeat' first
    | with_reducible assumption | (intro _) | with_reducible apply State.bump_within
    | with_reducible apply State.holdHostTag_within | with_reducible apply State.aerUnc_within
    | with_reducible apply State.hostError_within | with_reducible apply State.hostStale_within
    | with_reducible apply State.Within.ite | exact maskSub rfl hm | split | dsimp only

theorem State.abandonTag_within {μ : Nat} {s₀ s : State} (hf : State.Within μ s₀ s) (h : Nat) (t : Nat) (hm :
    0xc184bc4890000000000000001601c20c7ff840000100407800 ||| μ = μ) : State.Within μ s₀ (State.abandonTag s h t) := by
  unfold State.abandonTag
  repeat' first
    | with_reducible assumption | (intro _) | with_reducible apply State.holdHostTag_within
    | with_reducible apply State.hostStale_within | with_reducible apply State.Within.ite | exact maskSub rfl hm
    | split | dsimp only

theorem State.releaseHostTag_within {μ : Nat} {s₀ s : State} (hf : State.Within μ s₀ s) (h : Nat) (t : Nat) (hm :
    0x40000000000000000000000000000000000000000000 ||| μ = μ) : State.Within μ s₀ (State.releaseHostTag s h t) := by
  unfold State.releaseHostTag
  repeat' first
    | with_reducible assumption | (intro _) | with_reducible apply State.modHost_within
    | with_reducible apply State.Within.ite | exact maskSub rfl hm | split | dsimp only

theorem State.hostGrant_within {μ : Nat} {s₀ s : State} (hf : State.Within μ s₀ s) (h : Nat) (hm :
    0xc184bc4890000000000000001661c20c5ff840000100407800 ||| μ = μ) : State.Within μ s₀ (State.hostGrant s h) := by
  unfold State.hostGrant
  repeat' first
    | with_reducible assumption | (intro _) | with_reducible apply State.modHost_within
    | with_reducible apply State.hostError_within | with_reducible apply State.drainWrites_within
    | with_reducible apply State.grantTag_within | with_reducible apply State.Within.ite | exact maskSub rfl hm
    | split | dsimp only

theorem State.equalise_within {μ : Nat} {s₀ s : State} (hf : State.Within μ s₀ s) (h : Nat) (o : LinkOffer) (rs : List
    Nat) (hm : 0x800000000000000000000000000000000000000000 ||| μ = μ) : State.Within μ s₀ (State.equalise s h o rs)
    := by
  unfold State.equalise
  repeat' first
    | with_reducible assumption | (intro _) | with_reducible apply State.Within.each
    | with_reducible apply State.cfgPut_within | with_reducible apply State.Within.ite | exact maskSub rfl hm | split
    | dsimp only

theorem State.noteBehaviour_within {μ : Nat} {s₀ s : State} (hf : State.Within μ s₀ s) (h : Nat) (o : LinkOffer) (hm :
    0x800000000000000000000000000000000000000000 ||| μ = μ) : State.Within μ s₀ (State.noteBehaviour s h o) := by
  unfold State.noteBehaviour
  repeat' first
    | with_reducible assumption | (intro _) | with_reducible apply State.cfgPut_within
    | with_reducible apply State.Within.ite | exact maskSub rfl hm | split | dsimp only

theorem State.loadLink_within {μ : Nat} {s₀ s : State} (hf : State.Within μ s₀ s) (h : Nat) (rate : Nat) (w : Nat)
    (limit : Nat) (o : LinkOffer) (hm : 0x81050008900000000000172010000000000000000000407800 ||| μ = μ) : State.Within
    μ s₀ (State.loadLink s h rate w limit o) := by
  unfold State.loadLink
  repeat' first
    | with_reducible assumption | (intro _) | with_reducible apply State.put_within
    | with_reducible apply State.flag_within | with_reducible apply State.equalise_within
    | with_reducible apply State.noteBehaviour_within | with_reducible apply State.report_within
    | with_reducible apply State.Within.ite | exact maskSub rfl hm | split | dsimp only

theorem State.linkRetrained_within {μ : Nat} {s₀ s : State} (hf : State.Within μ s₀ s) (h : Nat) (o : LinkOffer) (hm :
    0xc1050048900000000000172010000000000000000000407800 ||| μ = μ) : State.Within μ s₀ (State.linkRetrained s h o) :=
    by
  unfold State.linkRetrained
  repeat' first
    | with_reducible assumption | (intro _) | with_reducible apply State.leaveL1_within
    | with_reducible apply State.loadLink_within | with_reducible apply State.put_within
    | with_reducible apply State.Within.ite | exact maskSub rfl hm | split | dsimp only

theorem State.linkTrained_within {μ : Nat} {s₀ s : State} (hf : State.Within μ s₀ s) (h : Nat) (o : LinkOffer) (hm :
    0xc1050048900000000000172010000000000000000000407800 ||| μ = μ) : State.Within μ s₀ (State.linkTrained s h o) :=
    by
  unfold State.linkTrained
  repeat' first
    | with_reducible assumption | (intro _) | with_reducible apply State.linkRetrained_within
    | with_reducible apply State.put_within | with_reducible apply State.flag_within
    | with_reducible apply State.setHcrState_within | with_reducible apply State.modHost_within
    | with_reducible apply State.Within.each | with_reducible apply State.cfgPut_within
    | with_reducible apply State.setCfg_within | with_reducible apply State.emit_within
    | with_reducible apply State.loadLink_within | with_reducible apply State.arm_within
    | with_reducible apply State.Within.ite | exact maskSub rfl hm | split | dsimp only

theorem State.judgeSteering_within {μ : Nat} {s₀ s : State} (hf : State.Within μ s₀ s) (hm :
    0x80000000000000000000000000000000010000000 ||| μ = μ) : State.Within μ s₀ (State.judgeSteering s) := by
  unfold State.judgeSteering
  repeat' first
    | with_reducible assumption | (intro _) | with_reducible apply State.Within.each
    | with_reducible apply State.flag_within | with_reducible apply State.Within.ite | exact maskSub rfl hm | split
    | dsimp only
  all_goals with_reducible apply State.Within.other
  all_goals first | exact Or.inl rfl | exact Or.inl ⟨rfl, rfl⟩ | exact Or.inl ⟨rfl, rfl, rfl⟩ | exact Or.inr (maskSub rfl hm) | skip
  repeat' first
    | with_reducible assumption | (intro _) | with_reducible apply State.Within.each
    | with_reducible apply State.flag_within | with_reducible apply State.Within.ite | exact maskSub rfl hm | split
    | dsimp only

theorem State.loadPps_within {μ : Nat} {s₀ s : State} (hf : State.Within μ s₀ s) (h : Nat) (hm : 0x80000000 ||| μ = μ)
    : State.Within μ s₀ (State.loadPps s h) := by
  unfold State.loadPps
  repeat' first
    | with_reducible assumption | (intro _) | with_reducible apply State.put_within
    | with_reducible apply State.Within.ite | exact maskSub rfl hm | split | dsimp only

theorem State.ptmLost_within {μ : Nat} {s₀ s : State} (hf : State.Within μ s₀ s) (h : Nat) (hm :
    0x80000000000000000000000000000000090000000 ||| μ = μ) : State.Within μ s₀ (State.ptmLost s h) := by
  unfold State.ptmLost
  repeat' first
    | with_reducible assumption | (intro _) | with_reducible apply State.put_within
    | with_reducible apply State.loadPps_within | with_reducible apply State.judgeSteering_within
    | with_reducible apply State.Within.ite | exact maskSub rfl hm | split | dsimp only

theorem State.enterL1_within {μ : Nat} {s₀ s : State} (hf : State.Within μ s₀ s) (h : Nat) (hm :
    0x80000008080000000000000000000000000000000090400800 ||| μ = μ) : State.Within μ s₀ (State.enterL1 s h) := by
  unfold State.enterL1
  repeat' first
    | with_reducible assumption | (intro _) | with_reducible apply State.put_within
    | with_reducible apply State.setHcrState_within | with_reducible apply State.ptmLost_within
    | with_reducible apply State.disarm_within | with_reducible apply State.emit_within
    | with_reducible apply State.Within.ite | exact maskSub rfl hm | split | dsimp only

theorem State.askL1_within {μ : Nat} {s₀ s : State} (hf : State.Within μ s₀ s) (h : Nat) (hm :
    0x800000280c0000000000000000000000000000000090400800 ||| μ = μ) : State.Within μ s₀ (State.askL1 s h) := by
  unfold State.askL1
  repeat' first
    | with_reducible assumption | (intro _) | with_reducible apply State.advance_within
    | with_reducible apply State.enterL1_within | with_reducible apply State.Within.ite | exact maskSub rfl hm | split
    | dsimp only

theorem State.exitL1_within {μ : Nat} {s₀ s : State} (hf : State.Within μ s₀ s) (h : Nat) (hm :
    0x41040040100000000000000010000000000000000000407800 ||| μ = μ) : State.Within μ s₀ (State.exitL1 s h) := by
  unfold State.exitL1
  repeat' first
    | with_reducible assumption | (intro _) | with_reducible apply State.leaveL1_within
    | with_reducible apply State.wakeRegion_within | with_reducible apply State.Within.ite | exact maskSub rfl hm
    | split | dsimp only

theorem State.enterL1Sub_within {μ : Nat} {s₀ s : State} (hf : State.Within μ s₀ s) (h : Nat) (l12 : Bool) (hm :
    0x40000000000000000000000000000000000000400800 ||| μ = μ) : State.Within μ s₀ (State.enterL1Sub s h l12) := by
  unfold State.enterL1Sub
  repeat' first
    | with_reducible assumption | (intro _) | with_reducible apply State.put_within
    | with_reducible apply State.setHcrState_within | with_reducible apply State.modHost_within
    | with_reducible apply State.Within.ite | exact maskSub rfl hm | split | dsimp only

theorem State.setL0p_within {μ : Nat} {s₀ s : State} (hf : State.Within μ s₀ s) (h : Nat) (w : Nat) (hm :
    0x80000000000000000000000000000000000000000000400000 ||| μ = μ) : State.Within μ s₀ (State.setL0p s h w) := by
  unfold State.setL0p
  repeat' first
    | with_reducible assumption | (intro _) | with_reducible apply State.put_within
    | with_reducible apply State.emit_within | with_reducible apply State.Within.ite | exact maskSub rfl hm | split
    | dsimp only

theorem State.evalL0p_within {μ : Nat} {s₀ s : State} (hf : State.Within μ s₀ s) (h : Nat) (use16 : Nat) (use2 : Nat)
    (hm : 0x80000000000000000000000000000000000000000000400000 ||| μ = μ) : State.Within μ s₀ (State.evalL0p s h use16
    use2) := by
  unfold State.evalL0p
  repeat' first
    | with_reducible assumption | (intro _) | with_reducible apply State.setL0p_within
    | with_reducible apply State.Within.ite | exact maskSub rfl hm | split | dsimp only

theorem State.hostL0p_within {μ : Nat} {s₀ s : State} (hf : State.Within μ s₀ s) (h : Nat) (w : Nat) (hm :
    0x80000000000000000000000000000000000000000000400000 ||| μ = μ) : State.Within μ s₀ (State.hostL0p s h w) := by
  unfold State.hostL0p
  repeat' first
    | with_reducible assumption | (intro _) | with_reducible apply State.setL0p_within
    | with_reducible apply State.Within.ite | exact maskSub rfl hm | split | dsimp only

theorem State.cutRead_within {μ : Nat} {s₀ s : State} (hf : State.Within μ s₀ s) (h : Nat) (p : Nat) (t : Nat) (hm :
    0x440000000000000000000000000000000000000000000 ||| μ = μ) : State.Within μ s₀ (State.cutRead s h p t) := by
  unfold State.cutRead
  repeat' first
    | with_reducible assumption | (intro _) | with_reducible apply State.modHost_within
    | with_reducible apply State.modPort_within | with_reducible apply State.Within.ite | exact maskSub rfl hm | split
    | dsimp only

theorem State.cutReads_within {μ : Nat} {s₀ s : State} (hf : State.Within μ s₀ s) (h : Nat) (which : State → Nat → Nat
    → DTag → Bool) (hm : 0xc1843c4890000000000000001661c20c000000000100407800 ||| μ = μ) : State.Within μ s₀
    (State.cutReads s h which) := by
  unfold State.cutReads
  repeat' first
    | with_reducible assumption | (intro _) | with_reducible apply State.Within.each
    | with_reducible apply State.cutRead_within | with_reducible apply State.answerDevices_within
    | with_reducible apply State.Within.ite | exact maskSub rfl hm | split | dsimp only

theorem State.refusePosts_within {μ : Nat} {s₀ s : State} (hf : State.Within μ s₀ s) (h : Nat) (which : Nat → Bool)
    (hm : 0x40100000000000000000600000000000000000000000 ||| μ = μ) : State.Within μ s₀ (State.refusePosts s h which)
    := by
  unfold State.refusePosts
  repeat' first
    | with_reducible assumption | (intro _) | with_reducible apply State.modHost_within
    | with_reducible apply State.Within.each | with_reducible apply State.bump_within
    | with_reducible apply State.jtLog_within | with_reducible apply State.Within.ite | exact maskSub rfl hm | split
    | dsimp only

theorem State.turnOff_within {μ : Nat} {s₀ s : State} (hf : State.Within μ s₀ s) (h : Nat) (hm :
    0xc1843c4890000000000000001661c20c000000000100407800 ||| μ = μ) : State.Within μ s₀ (State.turnOff s h) := by
  unfold State.turnOff
  repeat' first
    | with_reducible assumption | (intro _) | with_reducible apply State.leaveL1_within
    | with_reducible apply State.modHost_within | with_reducible apply State.refusePosts_within
    | with_reducible apply State.cutReads_within | with_reducible apply State.emitMsg_within
    | with_reducible apply State.put_within | with_reducible apply State.Within.ite | exact maskSub rfl hm | split
    | dsimp only

theorem State.sendLtr_within {μ : Nat} {s₀ s : State} (hf : State.Within μ s₀ s) (h : Nat) (hm :
    0xc0000040100000000000000000000000000000000000400800 ||| μ = μ) : State.Within μ s₀ (State.sendLtr s h) := by
  unfold State.sendLtr
  repeat' first
    | with_reducible assumption | (intro _) | with_reducible apply State.modHost_within
    | with_reducible apply State.leaveL1_within | with_reducible apply State.emitMsg_within
    | with_reducible apply State.Within.ite | exact maskSub rfl hm | split | dsimp only

theorem State.judgeLtr_within {μ : Nat} {s₀ s : State} (hf : State.Within μ s₀ s) (h : Nat) (hm :
    0xc00000681c0000000000000000000000000000000000400800 ||| μ = μ) : State.Within μ s₀ (State.judgeLtr s h) := by
  unfold State.judgeLtr
  repeat' first
    | with_reducible assumption | (intro _) | with_reducible apply State.advance_within
    | with_reducible apply State.sendLtr_within | with_reducible apply State.disarm_within
    | with_reducible apply State.modHost_within | with_reducible apply State.expire_within
    | with_reducible apply State.arm_within | with_reducible apply State.Within.ite | exact maskSub rfl hm | split
    | dsimp only

theorem State.steer_within {μ : Nat} {s₀ s : State} (hf : State.Within μ s₀ s) (h : Nat) (o : Int) (hm
    : 0x81050048980000000000172010000000000000000010007800 ||| μ = μ) :
    State.Within μ s₀ (State.steer s h o) := by
  have hs := State.modHost_within hf h (fun d => { d with steered := true }) (maskSub rfl hm)
  unfold State.steer
  dsimp only
  generalize s.modHost h (fun d => { d with steered := true }) = m at hs ⊢
  have hd : ∀ d : Nat, State.Within μ s₀ { m with devtime := d % 2 ^ 64, slew := 0, slewFrac := 0 } :=
    fun d => hs.trans ⟨fun _ _ _ => rfl, fun a ha => by
    cases a <;> first
      | rfl | exact ⟨rfl, rfl⟩ | exact ⟨rfl, rfl, rfl, rfl⟩ | exact ⟨rfl, rfl, rfl⟩
      | (rw [testBit_of_mask (maskSub rfl hm)] at ha; cases ha)⟩
  have ho : ∀ x : Int, State.Within μ s₀ { m with slew := x, slewFrac := 0 } := fun x => hs.trans ⟨fun _ _ _ => rfl, fun a ha => by
    cases a <;> first
      | rfl | exact ⟨rfl, rfl⟩ | exact ⟨rfl, rfl, rfl, rfl⟩ | exact ⟨rfl, rfl, rfl⟩
      | (rw [testBit_of_mask (maskSub rfl hm)] at ha; cases ha)⟩
  exact State.Within.ite (State.report_within (State.put_within (hd _) _ _ _ (maskSub rfl hm)) _ _ _ _ _ _ (maskSub rfl hm))
    (State.Within.ite (State.put_within (ho _) _ _ _ (maskSub rfl hm)) (ho _))

theorem State.ptmDialog_within {μ : Nat} {s₀ s : State} (hf : State.Within μ s₀ s) (h : Nat) (t : PtmTimes) (hm :
    0x810500489800000000001720100000000000000000b0007800 ||| μ = μ) : State.Within μ s₀ (State.ptmDialog s h t) := by
  unfold State.ptmDialog
  repeat' first
    | with_reducible assumption | (intro _) | with_reducible apply State.emitMsg_within
    | with_reducible apply State.modHost_within | with_reducible apply State.put_within
    | with_reducible apply State.loadPps_within | with_reducible apply State.arm_within
    | with_reducible apply State.judgeSteering_within | with_reducible apply State.steer_within
    | with_reducible apply State.Within.ite | exact maskSub rfl hm | split | dsimp only

theorem State.takeSteering_within {μ : Nat} {s₀ s : State} (hf : State.Within μ s₀ s) (was : Option Nat) (hm :
    0x81050048980000000000172010000000000000000010007800 ||| μ = μ) : State.Within μ s₀ (State.takeSteering s was) :=
    by
  unfold State.takeSteering
  repeat' first
    | with_reducible assumption | (intro _) | with_reducible apply State.judgeSteering_within
    | with_reducible apply State.steer_within | with_reducible apply State.Within.ite | exact maskSub rfl hm | split
    | dsimp only

theorem State.stampPps_within {μ : Nat} {s₀ s : State} (hf : State.Within μ s₀ s) (hm :
    0x1000000000000000000000000000000000000000c0000000 ||| μ = μ) : State.Within μ s₀ (State.stampPps s) := by
  unfold State.stampPps
  repeat' first
    | with_reducible assumption | (intro _) | with_reducible apply State.modPins_within
    | with_reducible apply State.Within.each | with_reducible apply State.put_within
    | with_reducible apply State.loadPps_within | with_reducible apply State.Within.ite | exact maskSub rfl hm | split
    | dsimp only

theorem State.ppsEdge_within {μ : Nat} {s₀ s : State} (hf : State.Within μ s₀ s) (n : Nat) (hm :
    0x401000000000000000000000000000000000000000d0000000 ||| μ = μ) : State.Within μ s₀ (State.ppsEdge s n) := by
  unfold State.ppsEdge
  repeat' first
    | with_reducible assumption | (intro _) | with_reducible apply State.freeWord_within
    | with_reducible apply State.stampPps_within | with_reducible apply State.Within.each
    | with_reducible apply State.put_within | with_reducible refine State.Within.pair (by assumption) ?_
    | with_reducible apply State.Within.ite | exact maskSub rfl hm | split | dsimp only

theorem State.setSecure_within {μ : Nat} {s₀ s : State} (hf : State.Within μ s₀ s) (h : Nat) (i : Nat) (b : Bool) (hm
    : 0x100000000 ||| μ = μ) : State.Within μ s₀ (State.setSecure s h i b) := by
  unfold State.setSecure
  repeat' first
    | with_reducible assumption | (intro _) | with_reducible apply State.flag_within
    | with_reducible apply State.put_within | with_reducible apply State.Within.ite | exact maskSub rfl hm | split
    | dsimp only

theorem State.failStream_within {μ : Nat} {s₀ s : State} (hf : State.Within μ s₀ s) (h : Nat) (i : Nat) (hm :
    0xc184bc4890000000000000001661c20c5ff840000100407800 ||| μ = μ) : State.Within μ s₀ (State.failStream s h i) := by
  unfold State.failStream
  repeat' first
    | with_reducible assumption | (intro _) | with_reducible apply State.modHost_within
    | with_reducible apply State.Within.each | with_reducible apply State.hostError_within
    | with_reducible apply State.drainWrites_within | with_reducible apply State.Within.ite | exact maskSub rfl hm
    | split | dsimp only

theorem State.ideFail_within {μ : Nat} {s₀ s : State} (hf : State.Within μ s₀ s) (h : Nat) (i : Nat) (k : IdeFailure)
    (hm : 0xc184bc4890000000000000001661c20c5ff840000100407800 ||| μ = μ) : State.Within μ s₀ (State.ideFail s h i k)
    := by
  unfold State.ideFail
  repeat' first
    | with_reducible assumption | (intro _) | with_reducible apply State.setIde_within
    | with_reducible apply State.setSecure_within | with_reducible apply State.judgeKeys_within
    | with_reducible apply State.aerUnc_within | with_reducible apply State.failStream_within
    | with_reducible apply State.Within.ite | exact maskSub rfl hm | split | dsimp only

theorem State.eraseIde_within {μ : Nat} {s₀ s : State} (hf : State.Within μ s₀ s) (h : Nat) (hm :
    0x40000000000000000000000000000000000100000000 ||| μ = μ) : State.Within μ s₀ (State.eraseIde s h) := by
  unfold State.eraseIde
  repeat' first
    | with_reducible assumption | (intro _) | with_reducible apply State.modHost_within
    | with_reducible apply State.put_within | with_reducible apply State.judgeKeys_within
    | with_reducible apply State.Within.ite | exact maskSub rfl hm | split | dsimp only

theorem State.progKey_within {μ : Nat} {s₀ s : State} (hf : State.Within μ s₀ s) (h : Nat) (i : Nat) (k : Nat) (key :
    BitVec 256) (hm : 0x40000000000000000000000000000000000000000000 ||| μ = μ) : State.Within μ s₀ (State.progKey s h
    i k key) := by
  unfold State.progKey
  repeat' first
    | with_reducible assumption | (intro _) | with_reducible apply State.setIde_within
    | with_reducible apply State.Within.ite | exact maskSub rfl hm | split | dsimp only

theorem State.setGo_within {μ : Nat} {s₀ s : State} (hf : State.Within μ s₀ s) (h : Nat) (i : Nat) (k : Nat) (hm :
    0x40000000000000000000000000000000000100000000 ||| μ = μ) : State.Within μ s₀ (State.setGo s h i k) := by
  unfold State.setGo
  repeat' first
    | with_reducible assumption | (intro _) | with_reducible apply State.setIde_within
    | with_reducible apply State.judgeKeys_within | with_reducible apply State.setSecure_within
    | with_reducible apply State.Within.ite | exact maskSub rfl hm | split | dsimp only

theorem State.setStop_within {μ : Nat} {s₀ s : State} (hf : State.Within μ s₀ s) (h : Nat) (i : Nat) (k : Nat) (hm :
    0x40000000000000000000000000000000000100000000 ||| μ = μ) : State.Within μ s₀ (State.setStop s h i k) := by
  unfold State.setStop
  repeat' first
    | with_reducible assumption | (intro _) | with_reducible apply State.setIde_within
    | with_reducible apply State.setSecure_within | with_reducible apply State.judgeKeys_within
    | with_reducible apply State.Within.ite | exact maskSub rfl hm | split | dsimp only

theorem State.turnAway_within {μ : Nat} {s₀ s : State} (hf : State.Within μ s₀ s) (f : Nat) (k : BadRequest) (hm
    : 0x80000000900000000000000000000000000000000000000000 ||| μ = μ) :
    State.Within μ s₀ (State.turnAway s f k) := by
  unfold State.turnAway
  cases k <;> dsimp only
  all_goals repeat' first
    | with_reducible assumption | with_reducible apply State.aerUnc_within
    | with_reducible apply State.emitTlp_within
    | with_reducible apply State.setStatus_within | with_reducible apply State.bump_within
    | with_reducible apply State.Within.ite | exact maskSub rfl hm

theorem State.noteLanes_within {μ : Nat} {s₀ s : State} (hf : State.Within μ s₀ s) (h : Nat) (k : BadRequest) (hm :
    0x800000000000000000000000000000000000000000 ||| μ = μ) : State.Within μ s₀ (State.noteLanes s h k) := by
  unfold State.noteLanes
  repeat' first
    | with_reducible assumption | (intro _) | with_reducible apply State.setCfg_within
    | with_reducible apply State.Within.ite | exact maskSub rfl hm | split | dsimp only

theorem State.badRequest_within {μ : Nat} {s₀ s : State} (hf : State.Within μ s₀ s) (f : Nat) (k : BadRequest) (hm :
    0x80000000900000000000000000000000000000000000000000 ||| μ = μ) : State.Within μ s₀ (State.badRequest s f k) := by
  unfold State.badRequest
  repeat' first
    | with_reducible assumption | (intro _) | with_reducible apply State.aerUnc_within
    | with_reducible apply State.noteLanes_within | with_reducible apply State.aerCor_within
    | with_reducible apply State.turnAway_within | with_reducible apply State.Within.ite | exact maskSub rfl hm
    | split | dsimp only

theorem State.resetQueue_within {μ : Nat} {s₀ s : State} (hf : State.Within μ s₀ s) (q : Nat) (hm
    : 0x10080000000000000000000000000fffe0000000000000 ||| μ = μ) :
    State.Within μ s₀ (State.resetQueue s q) := by
  have hl : ∀ k ∈ queueKinds, k.bit ||| 0x10080000000000000000000000000fffe0000000000000 = 0x10080000000000000000000000000fffe0000000000000 := by decide
  unfold State.resetQueue
  repeat' first
    | with_reducible assumption | (intro _) | with_reducible apply State.Within.eachMem
    | exact maskSub (hl _ (by assumption)) hm | with_reducible apply State.Within.each
    | with_reducible apply State.resetPlain_within | with_reducible apply State.setWord_within
    | with_reducible apply State.setQueue_within | with_reducible apply State.disarm_within
    | with_reducible apply State.Within.ite | exact maskSub rfl hm | split | dsimp only

theorem State.raiseFnGen_within {μ : Nat} {s₀ s : State} (hf : State.Within μ s₀ s) (f : Nat) (hm : 0x400000000 ||| μ
    = μ) : State.Within μ s₀ (State.raiseFnGen s f) := by
  unfold State.raiseFnGen
  repeat' first
    | with_reducible assumption | (intro _) | with_reducible apply State.put_within
    | with_reducible apply State.Within.ite | exact maskSub rfl hm | split | dsimp only

theorem State.raiseQGen_within {μ : Nat} {s₀ s : State} (hf : State.Within μ s₀ s) (q : Nat) (hm : 0x40000000000000
    ||| μ = μ) : State.Within μ s₀ (State.raiseQGen s q) := by
  unfold State.raiseQGen
  repeat' first
    | with_reducible assumption | (intro _) | with_reducible apply State.put_within
    | with_reducible apply State.Within.ite | exact maskSub rfl hm | split | dsimp only

theorem State.nohostReads_within {μ : Nat} {s₀ s : State} (hf : State.Within μ s₀ s) (f : Nat) (hm :
    0xc1843c4890000000000000001661c20c000000000100407800 ||| μ = μ) : State.Within μ s₀ (State.nohostReads s f) := by
  unfold State.nohostReads
  repeat' first
    | with_reducible assumption | (intro _) | with_reducible apply State.refusePosts_within
    | with_reducible apply State.cutReads_within | with_reducible apply State.Within.ite | exact maskSub rfl hm
    | split | dsimp only

theorem State.loseMaster_within {μ : Nat} {s₀ s : State} (hf : State.Within μ s₀ s) (f : Nat) (hm :
    0xc184bc4890000000000000001661c20c5ff840000100407800 ||| μ = μ) : State.Within μ s₀ (State.loseMaster s f) := by
  unfold State.loseMaster
  repeat' first
    | with_reducible assumption | (intro _) | with_reducible apply State.haltChannels_within
    | with_reducible apply State.nohostReads_within | with_reducible apply State.Within.ite | exact maskSub rfl hm
    | split | dsimp only

theorem State.gainMaster_within {μ : Nat} {s₀ s : State} (hf : State.Within μ s₀ s) (f : Nat) (hm :
    0x1c104b04890000000000000001000000c5ff840000100407800 ||| μ = μ) : State.Within μ s₀ (State.gainMaster s f) := by
  unfold State.gainMaster
  repeat' first
    | with_reducible assumption | (intro _) | with_reducible apply State.freeHeld_within
    | with_reducible apply State.kickQueues_within | with_reducible apply State.Within.ite | exact maskSub rfl hm
    | split | dsimp only

theorem State.setBme_within {μ : Nat} {s₀ s : State} (hf : State.Within μ s₀ s) (f : Nat) (b : Bool) (hm :
    0x1c184bcc890000000000000001661c20c5ff840000500407800 ||| μ = μ) : State.Within μ s₀ (State.setBme s f b) := by
  unfold State.setBme
  repeat' first
    | with_reducible assumption | (intro _) | with_reducible apply State.cfgPut_within
    | with_reducible apply State.modFunc_within | with_reducible apply State.flag_within
    | with_reducible apply State.gainMaster_within | with_reducible apply State.loseMaster_within
    | with_reducible apply State.Within.ite | exact maskSub rfl hm | split | dsimp only

theorem State.setMse_within {μ : Nat} {s₀ s : State} (hf : State.Within μ s₀ s) (f : Nat) (b : Bool) (hm :
    0x80000000000000000000000000000000000400000000 ||| μ = μ) : State.Within μ s₀ (State.setMse s f b) := by
  unfold State.setMse
  repeat' first
    | with_reducible assumption | (intro _) | with_reducible apply State.modFunc_within
    | with_reducible apply State.flag_within | with_reducible apply State.Within.ite | exact maskSub rfl hm | split
    | dsimp only

theorem State.setPower_within {μ : Nat} {s₀ s : State} (hf : State.Within μ s₀ s) (f : Nat) (v : Nat) (hm :
    0x1c184bc4898000000000000001661c20c5ff840000590407800 ||| μ = μ) : State.Within μ s₀ (State.setPower s f v) := by
  unfold State.setPower
  repeat' first
    | with_reducible assumption | (intro _) | with_reducible apply State.cfgPut_within
    | with_reducible apply State.put_within | with_reducible apply State.loseMaster_within
    | with_reducible apply State.enterL1_within | with_reducible apply State.gainMaster_within
    | with_reducible apply State.Within.ite | exact maskSub rfl hm | split | dsimp only

theorem State.resetCfg_within {μ : Nat} {s₀ s : State} (hf : State.Within μ s₀ s) (f : Nat) (hm :
    0x800000000000000000000000000000000000000000 ||| μ = μ) : State.Within μ s₀ (State.resetCfg s f) := by
  unfold State.resetCfg
  repeat' first
    | with_reducible assumption | (intro _) | with_reducible apply State.Within.each
    | with_reducible apply State.setCfg_within | with_reducible apply State.Within.ite | exact maskSub rfl hm | split
    | dsimp only

theorem State.endRegReads_within {μ : Nat} {s₀ s : State} (hf : State.Within μ s₀ s) (f : Nat) (hm :
    0x90000040000000000000000000000000000000000000000000 ||| μ = μ) : State.Within μ s₀ (State.endRegReads s f) := by
  unfold State.endRegReads
  repeat' first
    | with_reducible assumption | (intro _) | with_reducible apply State.modHost_within
    | with_reducible apply State.Within.each | with_reducible apply State.emitTlp_within
    | with_reducible apply State.Within.ite | exact maskSub rfl hm | split | dsimp only
  all_goals with_reducible apply State.Within.other
  all_goals first | exact Or.inl rfl | exact Or.inl ⟨rfl, rfl⟩ | exact Or.inl ⟨rfl, rfl, rfl⟩ | exact Or.inr (maskSub rfl hm) | skip
  repeat' first
    | with_reducible assumption | (intro _) | with_reducible apply State.modHost_within
    | with_reducible apply State.Within.each | with_reducible apply State.emitTlp_within
    | with_reducible apply State.Within.ite | exact maskSub rfl hm | split | dsimp only

theorem State.endReads_within {μ : Nat} {s₀ s : State} (hf : State.Within μ s₀ s) (f : Nat) (hm :
    0x90000440000000000000000000000000000000000000000000 ||| μ = μ) : State.Within μ s₀ (State.endReads s f) := by
  unfold State.endReads
  repeat' first
    | with_reducible assumption | (intro _) | with_reducible apply State.endRegReads_within
    | with_reducible apply State.Within.each | with_reducible apply State.dropRead_within
    | with_reducible apply State.emitTlp_within | with_reducible apply State.Within.ite | exact maskSub rfl hm | split
    | dsimp only

theorem State.endDevices_within {μ : Nat} {s₀ s : State} (hf : State.Within μ s₀ s) (f : Nat) (hm :
    0xc1843c4890000000000000001661c20c000000000100407800 ||| μ = μ) : State.Within μ s₀ (State.endDevices s f) := by
  unfold State.endDevices
  repeat' first
    | with_reducible assumption | (intro _) | with_reducible apply State.Within.each
    | with_reducible apply State.modPort_within | with_reducible apply State.answerDevices_within
    | with_reducible apply State.Within.ite | exact maskSub rfl hm | split | dsimp only

theorem State.clearQueue_within {μ : Nat} {s₀ s : State} (hf : State.Within μ s₀ s) (q : Nat) (hm :
    0x30481000000000000000000000005fffe0000000000000 ||| μ = μ) : State.Within μ s₀ (State.clearQueue s q) := by
  unfold State.clearQueue
  repeat' first
    | with_reducible assumption | (intro _) | with_reducible apply State.put_within
    | with_reducible apply State.drainEngine_within | with_reducible apply State.dropFetches_within
    | with_reducible apply State.raiseQGen_within | with_reducible apply State.resetQueue_within
    | with_reducible apply State.Within.ite | exact maskSub rfl hm | split | dsimp only

theorem State.clearPegs_within {μ : Nat} {s₀ s : State} (hf : State.Within μ s₀ s) (f : Nat) (hm
    : 0x10000c003800000000000000100000000000000000000000000 ||| μ = μ) :
    State.Within μ s₀ (State.clearPegs s f) := by
  unfold State.clearPegs
  repeat' first
    | with_reducible assumption | (intro _) | with_reducible apply State.clearInterrupts_within
    | with_reducible apply State.Within.each | with_reducible apply State.resetPlain_within
    | with_reducible apply State.Within.ite | exact maskSub rfl hm | split | dsimp only
  all_goals with_reducible apply State.Within.other
  all_goals first | exact Or.inl rfl | exact Or.inl ⟨rfl, rfl⟩ | exact Or.inl ⟨rfl, rfl, rfl⟩ | exact Or.inr (maskSub rfl hm) | skip
  repeat' first
    | with_reducible assumption | (intro _) | with_reducible apply State.clearInterrupts_within
    | with_reducible apply State.Within.each | with_reducible apply State.resetPlain_within
    | with_reducible apply State.Within.ite | exact maskSub rfl hm | split | dsimp only

theorem State.clearState_within {μ : Nat} {s₀ s : State} (hf : State.Within μ s₀ s) (f : Nat) (hm :
    0x10000f0cb9000000000000001000000005fffe0000400000000 ||| μ = μ) : State.Within μ s₀ (State.clearState s f) := by
  unfold State.clearState
  repeat' first
    | with_reducible assumption | (intro _) | with_reducible apply State.raiseFnGen_within
    | with_reducible apply State.Within.each | with_reducible apply State.clearQueue_within
    | with_reducible apply State.clearPegs_within | with_reducible apply State.resetCfg_within
    | with_reducible apply State.resetPlain_within | with_reducible apply State.flag_within
    | with_reducible apply State.modFunc_within | with_reducible apply State.Within.ite | exact maskSub rfl hm | split
    | dsimp only

theorem State.clearFunction_within {μ : Nat} {s₀ s : State} (hf : State.Within μ s₀ s) (f : Nat) (hm :
    0x1d000f4cb90000000000000010060000c5fffe0000500400800 ||| μ = μ) : State.Within μ s₀ (State.clearFunction s f) :=
    by
  unfold State.clearFunction
  repeat' first
    | with_reducible assumption | (intro _) | with_reducible apply State.endReads_within
    | with_reducible apply State.refusePosts_within | with_reducible apply State.clearState_within
    | with_reducible apply State.modHost_within | with_reducible apply State.drainWrites_within
    | with_reducible apply State.Within.ite | exact maskSub rfl hm | split | dsimp only

theorem State.beginSequence_within {μ : Nat} {s₀ s : State} (hf : State.Within μ s₀ s) (f : Nat) (vanish : Bool) (hm :
    0x1d184fccb90000000000000011661c20c5fffe0010500407800 ||| μ = μ) : State.Within μ s₀ (State.beginSequence s f
    vanish) := by
  unfold State.beginSequence
  repeat' first
    | with_reducible assumption | (intro _) | with_reducible apply State.put_within
    | with_reducible apply State.clearFunction_within | with_reducible apply State.endDevices_within
    | with_reducible apply State.modFunc_within | with_reducible apply State.Within.each
    | with_reducible apply State.arm_within | with_reducible apply State.Within.ite | exact maskSub rfl hm | split
    | dsimp only

theorem State.dropVfs_within {μ : Nat} {s₀ s : State} (hf : State.Within μ s₀ s) (h : Nat) (hm :
    0x1d184fccb90000000000000011661c20c5fffe0010500407800 ||| μ = μ) : State.Within μ s₀ (State.dropVfs s h) := by
  unfold State.dropVfs
  repeat' first
    | with_reducible assumption | (intro _) | with_reducible apply State.cfgPut_within
    | with_reducible apply State.Within.each | with_reducible apply State.beginSequence_within
    | with_reducible apply State.clearState_within | with_reducible apply State.Within.ite | exact maskSub rfl hm
    | split | dsimp only

theorem State.payVfe_within {μ : Nat} {s₀ s : State} (hf : State.Within μ s₀ s) (h : Nat) (hm :
    0x80000040000000000000000000000000000000000000000000 ||| μ = μ) : State.Within μ s₀ (State.payVfe s h) := by
  unfold State.payVfe
  repeat' first
    | with_reducible assumption | (intro _) | with_reducible apply State.Within.each
    | with_reducible apply State.emitTlp_within | with_reducible apply State.modHost_within
    | with_reducible apply State.Within.ite | exact maskSub rfl hm | split | dsimp only

theorem State.withdrawVfe_within {μ : Nat} {s₀ s : State} (hf : State.Within μ s₀ s) (h : Nat) (hm :
    0x80000040000000000000000000000000000000000000000000 ||| μ = μ) : State.Within μ s₀ (State.withdrawVfe s h) := by
  unfold State.withdrawVfe
  repeat' first
    | with_reducible assumption | (intro _) | with_reducible apply State.modHost_within
    | with_reducible apply State.payVfe_within | with_reducible apply State.Within.ite | exact maskSub rfl hm | split
    | dsimp only

theorem State.clearVfe_within {μ : Nat} {s₀ s : State} (hf : State.Within μ s₀ s) (h : Nat) (hm :
    0x1d184fccb90000000000000011661c20c5fffe0010500407800 ||| μ = μ) : State.Within μ s₀ (State.clearVfe s h) := by
  unfold State.clearVfe
  repeat' first
    | with_reducible assumption | (intro _) | with_reducible apply State.modHost_within
    | with_reducible apply State.dropVfs_within | with_reducible apply State.raiseFnGen_within
    | with_reducible apply State.Within.each | with_reducible apply State.raiseQGen_within
    | with_reducible apply State.payVfe_within | with_reducible apply State.cfgPut_within
    | with_reducible apply State.Within.ite | exact maskSub rfl hm | split | dsimp only

theorem State.followVfMse_within {μ : Nat} {s₀ s : State} (hf : State.Within μ s₀ s) (h : Nat) (hm :
    0x80000000000000000000000000000000000400000000 ||| μ = μ) : State.Within μ s₀ (State.followVfMse s h) := by
  unfold State.followVfMse
  repeat' first
    | with_reducible assumption | (intro _) | with_reducible apply State.Within.each
    | with_reducible apply State.setMse_within | with_reducible apply State.Within.ite | exact maskSub rfl hm | split
    | dsimp only

theorem State.fillSlots_within {μ : Nat} {s₀ s : State} (hf : State.Within μ s₀ s) (p : Nat → Bool) (hm :
    0x80000000000000000000000000000000000000000000 ||| μ = μ) : State.Within μ s₀ (State.fillSlots s p) := by
  unfold State.fillSlots
  repeat' first
    | with_reducible assumption | (intro _) | with_reducible apply State.Within.each
    | with_reducible apply State.modFunc_within | with_reducible apply State.Within.ite | exact maskSub rfl hm | split
    | dsimp only

theorem State.setVfe_within {μ : Nat} {s₀ s : State} (hf : State.Within μ s₀ s) (h : Nat) (hm :
    0x800000c0800000000000000000000000000000000400000000 ||| μ = μ) : State.Within μ s₀ (State.setVfe s h) := by
  unfold State.setVfe
  repeat' first
    | with_reducible assumption | (intro _) | with_reducible apply State.modHost_within
    | with_reducible apply State.cfgPut_within | with_reducible apply State.fillSlots_within
    | with_reducible apply State.followVfMse_within | with_reducible apply State.payVfe_within
    | with_reducible apply State.Within.ite | exact maskSub rfl hm | split | dsimp only

theorem State.resetMailbox_within {μ : Nat} {s₀ s : State} (hf : State.Within μ s₀ s) (h : Nat) (hm
    : 0x20000000000000003e00000000000000000000000000000 ||| μ = μ) :
    State.Within μ s₀ (State.resetMailbox s h) := by
  have hl : ∀ k ∈ [RegKind.MB_CTRL, .MB_STATUS, .MB_CMD], k.bit ||| 0x20000000000000003e00000000000000000000000000000 = 0x20000000000000003e00000000000000000000000000000 := by decide
  have hw : ∀ t : State, State.Within μ s₀ t → State.Within μ s₀ { t with
      regs := t.regs.filter (fun e => !((e.1 % 256 == RegKind.MB_REQ.code || e.1 % 256 == RegKind.MB_RSP.code) && e.1 / 256 / 512 == h))
      ridge := { t.ridge with mailbox := t.ridge.mailbox.filter (fun m => m.h != h) } } := by
    refine fun t h1 => h1.trans ⟨fun k hk i => Tbl.get_filter _ _ (fun v => ?_), fun a ha => by
    cases a <;> first
      | rfl | exact ⟨rfl, rfl⟩ | exact ⟨rfl, rfl, rfl, rfl⟩ | exact ⟨rfl, rfl, rfl⟩
      | (rw [testBit_of_mask (maskSub rfl hm)] at ha; cases ha)⟩
    have n1 : k.code ≠ RegKind.MB_REQ.code := fun e => by rw [e, testBit_of_mask (maskSub rfl hm)] at hk; cases hk
    have n2 : k.code ≠ RegKind.MB_RSP.code := fun e => by rw [e, testBit_of_mask (maskSub rfl hm)] at hk; cases hk
    simp [RegKind.key_code, n1, n2]
  exact hw _ (State.Within.eachMem hf _ (fun _ _ hx k => State.resetPlain_within k _ _ (maskSub (hl _ hx) hm)))

theorem State.startFlr_within {μ : Nat} {s₀ s : State} (hf : State.Within μ s₀ s) (f : Nat) (hm :
    0x1d187fccb900000000003f7211661c20c5fffe0010500407800 ||| μ = μ) : State.Within μ s₀ (State.startFlr s f) := by
  unfold State.startFlr
  repeat' first
    | with_reducible assumption | (intro _) | with_reducible apply State.report_within
    | with_reducible apply State.modFunc_within | with_reducible apply State.withdrawVfe_within
    | with_reducible apply State.dropVfs_within | with_reducible apply State.beginSequence_within
    | with_reducible apply State.resetMailbox_within | with_reducible apply State.Within.each
    | with_reducible apply State.emitTlp_within | with_reducible apply State.Within.ite | exact maskSub rfl hm | split
    | dsimp only

theorem State.endSequence_within {μ : Nat} {s₀ s : State} (hf : State.Within μ s₀ s) (f : Nat) (hm :
    0x1c184bcc890000000000000001661c20c5ff840020500407800 ||| μ = μ) : State.Within μ s₀ (State.endSequence s f) := by
  unfold State.endSequence
  repeat' first
    | with_reducible assumption | (intro _) | with_reducible apply State.put_within
    | with_reducible apply State.modFunc_within | with_reducible apply State.Within.each
    | with_reducible apply State.flag_within | with_reducible apply State.setBme_within
    | with_reducible apply State.emitTlp_within | with_reducible apply State.setVfe_within
    | with_reducible apply State.Within.ite | exact maskSub rfl hm | split | dsimp only

theorem State.retryFlr_within {μ : Nat} {s₀ s : State} (hf : State.Within μ s₀ s) (f : Nat) (hm :
    0x1d187fccb900000000003f7211661c20c5fffe0010500407800 ||| μ = μ) : State.Within μ s₀ (State.retryFlr s f) := by
  unfold State.retryFlr
  repeat' first
    | with_reducible assumption | (intro _) | with_reducible apply State.startFlr_within
    | with_reducible apply State.Within.ite | exact maskSub rfl hm | split | dsimp only

theorem State.strandTags_within {μ : Nat} {s₀ s : State} (hf : State.Within μ s₀ s) (h : Nat) (hm :
    0x400000000000000000000000000000000000000000000 ||| μ = μ) : State.Within μ s₀ (State.strandTags s h) := by
  unfold State.strandTags
  repeat' first
    | with_reducible assumption | (intro _) | with_reducible apply State.Within.each
    | with_reducible apply State.modPort_within | with_reducible apply State.Within.ite | exact maskSub rfl hm | split
    | dsimp only

theorem State.resetPortFns_within {μ : Nat} {s₀ s : State} (hf : State.Within μ s₀ s) (h : Nat) (hm :
    0x1d184fccb90000000000000011661c20c5fffe0000500407800 ||| μ = μ) : State.Within μ s₀ (State.resetPortFns s h) :=
    by
  unfold State.resetPortFns
  repeat' first
    | with_reducible assumption | (intro _) | with_reducible apply State.Within.each
    | with_reducible apply State.clearFunction_within | with_reducible apply State.endDevices_within
    | with_reducible apply State.clearState_within | with_reducible apply State.strandTags_within
    | with_reducible apply State.setFunc_within | with_reducible apply State.put_within
    | with_reducible apply State.Within.ite | exact maskSub rfl hm | split | dsimp only

theorem State.dropTags_within {μ : Nat} {s₀ s : State} (hf : State.Within μ s₀ s) (h : Nat) (hm :
    0xc184bc4890000000000000001601c20c7ff840000100407800 ||| μ = μ) : State.Within μ s₀ (State.dropTags s h) := by
  unfold State.dropTags
  repeat' first
    | with_reducible assumption | (intro _) | with_reducible apply State.disarmAll_within
    | with_reducible apply State.modHost_within | with_reducible apply State.Within.each
    | with_reducible apply State.hostStale_within | with_reducible apply State.Within.ite | exact maskSub rfl hm
    | split | dsimp only

theorem State.resetHostRegs_within {μ : Nat} {s₀ s : State} (hf : State.Within μ s₀ s) (h : Nat) (hm
    : 0x488800000000000000000000000000000001ffc00000 ||| μ = μ) :
    State.Within μ s₀ (State.resetHostRegs s h) := by
  have hl : ∀ k ∈ hostKinds, k.bit ||| 0x488800000000000000000000000000000001ffc00000 = 0x488800000000000000000000000000000001ffc00000 := by decide
  unfold State.resetHostRegs
  repeat' first
    | with_reducible assumption | (intro _) | with_reducible apply State.Within.eachMem
    | exact maskSub (hl _ (by assumption)) hm | with_reducible apply State.Within.each
    | with_reducible apply State.resetPlain_within | with_reducible apply State.disarmAll_within
    | with_reducible apply State.eraseIde_within | with_reducible apply State.modHost_within
    | with_reducible apply State.judgeSteering_within | with_reducible apply State.setCfg_within
    | with_reducible apply State.Within.ite | exact maskSub rfl hm | split | dsimp only

theorem State.hostReset_within {μ : Nat} {s₀ s : State} (hf : State.Within μ s₀ s) (h : Nat) (hm :
    0x1d186fccb980000000003e0011661c20c7fffe00005ffc07800 ||| μ = μ) : State.Within μ s₀ (State.hostReset s h) := by
  unfold State.hostReset
  repeat' first
    | with_reducible assumption | (intro _) | with_reducible apply State.resetHostRegs_within
    | with_reducible apply State.resetPortFns_within | with_reducible apply State.dropTags_within
    | with_reducible apply State.resetMailbox_within | with_reducible apply State.Within.ite | exact maskSub rfl hm
    | split | dsimp only

theorem State.perstLow_within {μ : Nat} {s₀ s : State} (hf : State.Within μ s₀ s) (h : Nat) (hm :
    0x1d186fccb980000000003e4011661c20c7fffe00005ffc07800 ||| μ = μ) : State.Within μ s₀ (State.perstLow s h) := by
  unfold State.perstLow
  repeat' first
    | with_reducible assumption | (intro _) | with_reducible apply State.modHost_within
    | with_reducible apply State.put_within | with_reducible apply State.hostReset_within
    | with_reducible apply State.setHcrState_within | with_reducible apply State.Within.ite | exact maskSub rfl hm
    | split | dsimp only

theorem State.startHcr_within {μ : Nat} {s₀ s : State} (hf : State.Within μ s₀ s) (h : Nat) (hm :
    0x100000000000000000000000000000000000000800 ||| μ = μ) : State.Within μ s₀ (State.startHcr s h) := by
  unfold State.startHcr
  repeat' first
    | with_reducible assumption | (intro _) | with_reducible apply State.setHcrState_within
    | with_reducible apply State.bump_within | with_reducible apply State.Within.ite | exact maskSub rfl hm | split
    | dsimp only

theorem State.perstHigh_within {μ : Nat} {s₀ s : State} (hf : State.Within μ s₀ s) (h : Nat) (hm :
    0x40100000000000000000000000000000000000000800 ||| μ = μ) : State.Within μ s₀ (State.perstHigh s h) := by
  unfold State.perstHigh
  repeat' first
    | with_reducible assumption | (intro _) | with_reducible apply State.modHost_within
    | with_reducible apply State.startHcr_within | with_reducible apply State.Within.ite | exact maskSub rfl hm
    | split | dsimp only

theorem State.cableChange_within {μ : Nat} {s₀ s : State} (hf : State.Within μ s₀ s) (h : Nat) (here : Bool) (hm :
    0x1d186fccb980000000003e0011661c20c7fffe00005ffc07800 ||| μ = μ) : State.Within μ s₀ (State.cableChange s h here)
    := by
  unfold State.cableChange
  repeat' first
    | with_reducible assumption | (intro _) | with_reducible apply State.modHost_within
    | with_reducible apply State.setHcrState_within | with_reducible apply State.startHcr_within
    | with_reducible apply State.hostReset_within | with_reducible apply State.Within.ite | exact maskSub rfl hm
    | split | dsimp only

theorem State.linkLost_within {μ : Nat} {s₀ s : State} (hf : State.Within μ s₀ s) (h : Nat) (hm :
    0x1d186fccb980000000003e0011661c20c7fffe00005ffc07800 ||| μ = μ) : State.Within μ s₀ (State.linkLost s h) := by
  unfold State.linkLost
  repeat' first
    | with_reducible assumption | (intro _) | with_reducible apply State.hostReset_within
    | with_reducible apply State.ungateHcr_within | with_reducible apply State.Within.ite | exact maskSub rfl hm
    | split | dsimp only

theorem State.configRead_within {μ : Nat} {s₀ s : State} (hf : State.Within μ s₀ s) (h : Nat) (n : Nat) (dw : Nat) (hm
    : 0xc0000040100000000000000000000000000000000000400800 ||| μ = μ) : State.Within μ s₀ (State.configRead s h n dw)
    := by
  unfold State.configRead
  repeat' first
    | with_reducible assumption | (intro _) | with_reducible apply State.leaveL1_within
    | with_reducible apply State.emitTlp_within | with_reducible apply State.Within.ite | exact maskSub rfl hm | split
    | dsimp only

theorem State.doeGo_within {μ : Nat} {s₀ s : State} (hf : State.Within μ s₀ s) (h : Nat) (hm :
    0x40000000000000000000000000000000000000000000 ||| μ = μ) : State.Within μ s₀ (State.doeGo s h) := by
  unfold State.doeGo
  repeat' first
    | with_reducible assumption | (intro _) | with_reducible apply State.setHost_within
    | with_reducible apply State.Within.ite | exact maskSub rfl hm | split | dsimp only

theorem State.doeAbort_within {μ : Nat} {s₀ s : State} (hf : State.Within μ s₀ s) (h : Nat) (hm :
    0x20040000000000000000000000000000000000000000000 ||| μ = μ) : State.Within μ s₀ (State.doeAbort s h) := by
  unfold State.doeAbort
  repeat' first
    | with_reducible assumption | (intro _) | with_reducible apply State.modHost_within
    | with_reducible apply State.modRidge_within | with_reducible apply State.Within.ite | exact maskSub rfl hm
    | split | dsimp only

theorem State.doeWrite_within {μ : Nat} {s₀ s : State} (hf : State.Within μ s₀ s) (h : Nat) (o : Nat) (data : Dword)
    (hm : 0x20040000000000000000000000000000000000000000000 ||| μ = μ) : State.Within μ s₀ (State.doeWrite s h o data)
    := by
  unfold State.doeWrite
  repeat' first
    | with_reducible assumption | (intro _) | with_reducible apply State.doeAbort_within
    | with_reducible apply State.doeGo_within | with_reducible apply State.modHost_within
    | with_reducible apply State.Within.ite | exact maskSub rfl hm | split | dsimp only

theorem State.trimBar_within {μ : Nat} {s₀ s : State} (hf : State.Within μ s₀ s) (f : Nat) (lo : Nat) (n : Nat) (hm :
    0x800000000000000000000000000000000000000000 ||| μ = μ) : State.Within μ s₀ (State.trimBar s f lo n) := by
  unfold State.trimBar
  repeat' first
    | with_reducible assumption | (intro _) | with_reducible apply State.setCfg_within
    | with_reducible apply State.Within.ite | exact maskSub rfl hm | split | dsimp only

theorem State.resizeBar_within {μ : Nat} {s₀ s : State} (hf : State.Within μ s₀ s) (h : Nat) (vf : Bool) (v : Nat) (hm
    : 0x800000000000000000000000000000000000000000 ||| μ = μ) : State.Within μ s₀ (State.resizeBar s h vf v) := by
  unfold State.resizeBar
  repeat' first
    | with_reducible assumption | (intro _) | with_reducible apply State.cfgPut_within
    | with_reducible apply State.trimBar_within | with_reducible apply State.Within.ite | exact maskSub rfl hm | split
    | dsimp only

theorem State.setMme_within {μ : Nat} {s₀ s : State} (hf : State.Within μ s₀ s) (e : Nat) (hm :
    0x101440000800000000000000010000000000000000000007800 ||| μ = μ) : State.Within μ s₀ (State.setMme s e) := by
  unfold State.setMme
  repeat' first
    | with_reducible assumption | (intro _) | with_reducible apply State.cfgPut_within
    | with_reducible apply State.rebuildPlank_within | with_reducible apply State.freeHeld_within
    | with_reducible apply State.Within.ite | exact maskSub rfl hm | split | dsimp only

theorem State.marginCmd_within {μ : Nat} {s₀ s : State} (hf : State.Within μ s₀ s) (h : Nat) (o : Nat) (hm :
    0x40000000800000000000000000000000000000000000000000 ||| μ = μ) : State.Within μ s₀ (State.marginCmd s h o) := by
  unfold State.marginCmd
  repeat' first
    | with_reducible assumption | (intro _) | with_reducible apply State.freeBytes_within
    | with_reducible apply State.cfgPut_within | with_reducible refine State.Within.pair (by assumption) ?_
    | with_reducible apply State.Within.ite | exact maskSub rfl hm | split | dsimp only

theorem State.timeoutChange_within {μ : Nat} {s₀ s : State} (hf : State.Within μ s₀ s) (h : Nat) (off : Bool) (hm :
    0x8000000000000000000000000000000000000000000 ||| μ = μ) : State.Within μ s₀ (State.timeoutChange s h off) := by
  unfold State.timeoutChange
  repeat' first
    | with_reducible assumption | (intro _) | with_reducible apply State.Within.each
    | with_reducible apply State.disarm_within | with_reducible apply State.arm_within
    | with_reducible apply State.Within.ite | exact maskSub rfl hm | split | dsimp only

theorem State.alignVfBars_within {μ : Nat} {s₀ s : State} (hf : State.Within μ s₀ s) (h : Nat) (hm :
    0x800000000000000000000000000000000000000000 ||| μ = μ) : State.Within μ s₀ (State.alignVfBars s h) := by
  unfold State.alignVfBars
  repeat' first
    | with_reducible assumption | (intro _) | with_reducible apply State.Within.each
    | with_reducible apply State.trimBar_within | with_reducible apply State.Within.ite | exact maskSub rfl hm | split
    | dsimp only

theorem State.writeVfe_within {μ : Nat} {s₀ s : State} (hf : State.Within μ s₀ s) (h : Nat) (old : Bool) (new : Bool)
    (hm : 0x1d184fccb90000000000000011661c20c5fffe0010500407800 ||| μ = μ) : State.Within μ s₀ (State.writeVfe s h old
    new) := by
  unfold State.writeVfe
  repeat' first
    | with_reducible assumption | (intro _) | with_reducible apply State.setVfe_within
    | with_reducible apply State.withdrawVfe_within | with_reducible apply State.clearVfe_within
    | with_reducible apply State.Within.ite | exact maskSub rfl hm | split | dsimp only

theorem State.cfgEffect_within {μ : Nat} {s₀ s : State} (hf : State.Within μ s₀ s) (f : Nat) (o : Nat) (old : Dword)
    (data : Dword) (be : Nat) (hm : 0x1d1c7fccb980000000003f7211661c20c5fffe0010590407800 ||| μ = μ) : State.Within μ
    s₀ (State.cfgEffect s f o old data be) := by
  unfold State.cfgEffect
  repeat' first
    | with_reducible assumption | (intro _) | with_reducible apply State.setMse_within
    | with_reducible apply State.setBme_within | with_reducible apply State.cfgPut_within
    | with_reducible apply State.setPower_within | with_reducible apply State.startFlr_within
    | with_reducible apply State.timeoutChange_within | with_reducible apply State.alignVfBars_within
    | with_reducible apply State.rebuildPlank_within | with_reducible apply State.freeHeld_within
    | with_reducible apply State.resizeBar_within | with_reducible apply State.writeVfe_within
    | with_reducible apply State.followVfMse_within | with_reducible apply State.arm_within
    | with_reducible apply State.disarm_within | with_reducible apply State.marginCmd_within
    | with_reducible apply State.Within.ite | exact maskSub rfl hm | split | dsimp only

theorem State.cfgWrite_within {μ : Nat} {s₀ s : State} (hf : State.Within μ s₀ s) (f : Nat) (o : Nat) (data : Dword)
    (be : Nat) (hm : 0x1d1c7fccb980000000003f7211661c20c5fffe0010590407800 ||| μ = μ) : State.Within μ s₀
    (State.cfgWrite s f o data be) := by
  unfold State.cfgWrite
  repeat' first
    | with_reducible assumption | (intro _) | with_reducible apply State.doeWrite_within
    | with_reducible apply State.setCfg_within | with_reducible apply State.cfgEffect_within
    | with_reducible apply State.Within.ite | exact maskSub rfl hm | split | dsimp only

theorem State.payCommand_within {μ : Nat} {s₀ s : State} (hf : State.Within μ s₀ s) (f : Nat) (hm :
    0x80000080000000000000000000000000000000000000000000 ||| μ = μ) : State.Within μ s₀ (State.payCommand s f) := by
  unfold State.payCommand
  repeat' first
    | with_reducible assumption | (intro _) | with_reducible apply State.Within.each
    | with_reducible apply State.emitTlp_within | with_reducible apply State.modFunc_within
    | with_reducible apply State.Within.ite | exact maskSub rfl hm | split | dsimp only

theorem State.configWrite_within {μ : Nat} {s₀ s : State} (hf : State.Within μ s₀ s) (h : Nat) (n : Nat) (dw : Nat)
    (data : Dword) (be : Nat) (busDev : Nat) (hm : 0x1d1c7fccb980000000003f7211661c20c5fffe0010590407800 ||| μ = μ) :
    State.Within μ s₀ (State.configWrite s h n dw data be busDev) := by
  unfold State.configWrite
  repeat' first
    | with_reducible assumption | (intro _) | with_reducible apply State.leaveL1_within
    | with_reducible apply State.emitTlp_within | with_reducible apply State.modHost_within
    | with_reducible apply State.wakeRegion_within | with_reducible apply State.cfgWrite_within
    | with_reducible apply State.modFunc_within | with_reducible apply State.payCommand_within
    | with_reducible apply State.Within.ite | exact maskSub rfl hm | split | dsimp only

theorem State.romRead_within {μ : Nat} {s₀ s : State} (hf : State.Within μ s₀ s) (o : Nat) (n : Nat) (hm :
    0xc0400040900000000000000000000000000000000000400800 ||| μ = μ) : State.Within μ s₀ (State.romRead s o n) := by
  unfold State.romRead
  repeat' first
    | with_reducible assumption | (intro _) | with_reducible apply State.leaveL1_within
    | with_reducible apply State.rebuildPlank_within | with_reducible apply State.emitTlp_within
    | with_reducible apply State.answerUr_within | with_reducible apply State.Within.ite | exact maskSub rfl hm
    | split | dsimp only

theorem State.loadWord_within {μ : Nat} {s₀ s : State} (hf : State.Within μ s₀ s) (w : Nat) (v : Word) (m : Word) (hm
    : 0x3fffffffffffffffffffffffffffffffffffff ||| μ = μ) :
    State.Within μ s₀ (State.loadWord s w v m) := by
  unfold State.loadWord
  repeat' first
    | with_reducible assumption | (intro _) | exact maskSub (RegKind.bit_all _) (maskSub rfl hm)
    | with_reducible apply State.Within.each | with_reducible apply State.setWord_within
    | with_reducible apply State.Within.ite | exact maskSub rfl hm | split | dsimp only

theorem State.loadWords_within {μ : Nat} {s₀ s : State} (hf : State.Within μ s₀ s) (ws : List (Nat × (Word × Word)))
    (hm : 0x3fffffffffffffffffffffffffffffffffffff ||| μ = μ) : State.Within μ s₀ (State.loadWords s ws) := by
  unfold State.loadWords
  repeat' first
    | with_reducible assumption | (intro _) | with_reducible apply State.Within.each
    | with_reducible apply State.loadWord_within | with_reducible apply State.Within.ite | exact maskSub rfl hm
    | split | dsimp only

end Sys2Proof.Machine
end

