-- ==== Sys2Proof/Laws/WithinTxn.lean ====
section
/-! SUPPORT. What the operations of dry-fit transactions and the retained-state store leave alone
(State.Within): one lemma per operation. -/

namespace Sys2Proof.Machine

set_option linter.all false
set_option Elab.async false

theorem State.resulting_within {μ : Nat} {s₀ s : State} (hf : State.Within μ s₀ s) (ws : Staged) (hm :
    0x3fffffffffffffffffffffffffffffffffffff ||| μ = μ) : State.Within μ s₀ (State.resulting s ws) := by
  unfold State.resulting
  repeat' first
    | with_reducible assumption | (intro _) | with_reducible apply State.loadWords_within
    | with_reducible apply State.Within.each | with_reducible apply State.put_within
    | with_reducible apply State.Within.ite | exact maskSub rfl hm | split | dsimp only

theorem State.asMended_within {μ : Nat} {s₀ s : State} (hf : State.Within μ s₀ s) (words : List Nat) (hm :
    0x4000000000000000000000000000000000000000000000000 ||| μ = μ) : State.Within μ s₀ (State.asMended s words) := by
  unfold State.asMended
  repeat' first
    | with_reducible assumption | (intro _) | with_reducible apply State.Within.ite | exact maskSub rfl hm | split
    | dsimp only
  all_goals with_reducible apply State.Within.other
  all_goals first | exact Or.inl rfl | exact Or.inl ⟨rfl, rfl⟩ | exact Or.inl ⟨rfl, rfl, rfl⟩ | exact Or.inr (maskSub rfl hm) | skip
  repeat' first
    | with_reducible assumption | (intro _) | with_reducible apply State.Within.ite | exact maskSub rfl hm | split
    | dsimp only

theorem State.startJob_within {μ : Nat} {s₀ s : State} (hf : State.Within μ s₀ s) (j : RssJob) (tokens : Nat) (hm :
    0x30000000000000000000000000000000000000080000 ||| μ = μ) : State.Within μ s₀ (State.startJob s j tokens) := by
  unfold State.startJob
  repeat' first
    | with_reducible assumption | (intro _) | with_reducible apply State.modRss_within
    | with_reducible apply State.put_within | with_reducible apply State.Within.ite | exact maskSub rfl hm | split
    | dsimp only

theorem State.startPersist_within {μ : Nat} {s₀ s : State} (hf : State.Within μ s₀ s) (c : Nat) (seq : Nat) (t : Tbl
    Word) (hm : 0x30000000000000000000000000000000000000080000 ||| μ = μ) : State.Within μ s₀ (State.startPersist s c
    seq t) := by
  unfold State.startPersist
  repeat' first
    | with_reducible assumption | (intro _) | with_reducible apply State.startJob_within
    | with_reducible apply State.Within.ite | exact maskSub rfl hm | split | dsimp only

theorem State.endJob_within {μ : Nat} {s₀ s : State} (hf : State.Within μ s₀ s) (m : Tbl Byte) (hm
    : 0x30000000000000000000000000000000000000080000 ||| μ = μ) :
    State.Within μ s₀ (State.endJob s m) := by
  unfold State.endJob
  repeat' first
    | with_reducible assumption | (intro _) | with_reducible apply State.put_within
    | with_reducible apply State.modRss_within | with_reducible apply State.Within.ite | exact maskSub rfl hm | split
    | dsimp only

theorem State.compactFull_within {μ : Nat} {s₀ s : State} (hf : State.Within μ s₀ s) (hm :
    0x30000000000000000000000000000000000000080000 ||| μ = μ) : State.Within μ s₀ (State.compactFull s) := by
  unfold State.compactFull
  repeat' first
    | with_reducible assumption | (intro _) | with_reducible apply State.modRss_within
    | with_reducible apply State.startJob_within | with_reducible apply State.Within.ite | exact maskSub rfl hm
    | split | dsimp only

theorem State.compactAsked_within {μ : Nat} {s₀ s : State} (hf : State.Within μ s₀ s) (hm :
    0x30100000000000000000000000000000000000280000 ||| μ = μ) : State.Within μ s₀ (State.compactAsked s) := by
  unfold State.compactAsked
  repeat' first
    | with_reducible assumption | (intro _) | with_reducible apply State.put_within
    | with_reducible apply State.bump_within | with_reducible apply State.startJob_within
    | with_reducible apply State.Within.ite | exact maskSub rfl hm | split | dsimp only

theorem State.finishWrite_within {μ : Nat} {s₀ s : State} (hf : State.Within μ s₀ s) (hm :
    0x301000000000000000000000000000000000002e0000 ||| μ = μ) : State.Within μ s₀ (State.finishWrite s) := by
  unfold State.finishWrite
  repeat' first
    | with_reducible assumption | (intro _) | with_reducible apply State.endJob_within
    | with_reducible apply State.put_within | with_reducible apply State.bump_within
    | with_reducible apply State.compactFull_within | with_reducible apply State.compactAsked_within
    | with_reducible apply State.modRss_within | with_reducible apply State.Within.ite | exact maskSub rfl hm | split
    | dsimp only

theorem State.tearWrite_within {μ : Nat} {s₀ s : State} (hf : State.Within μ s₀ s) (hm :
    0x30000000000000000000000000000000000000080000 ||| μ = μ) : State.Within μ s₀ (State.tearWrite s) := by
  unfold State.tearWrite
  repeat' first
    | with_reducible assumption | (intro _) | with_reducible apply State.endJob_within
    | with_reducible apply State.Within.ite | exact maskSub rfl hm | split | dsimp only

theorem State.setResult_within {μ : Nat} {s₀ s : State} (hf : State.Within μ s₀ s) (c : Nat) (r : Nat) (hm : 0x10 |||
    μ = μ) : State.Within μ s₀ (State.setResult s c r) := by
  unfold State.setResult
  repeat' first
    | with_reducible assumption | (intro _) | with_reducible apply State.put_within
    | with_reducible apply State.Within.ite | exact maskSub rfl hm | split | dsimp only

theorem State.loadFailure_within {μ : Nat} {s₀ s : State} (hf : State.Within μ s₀ s) (c : Nat) (code : Nat) (b :
    Option Broken) (wait : Nat) (hm : 0x70 ||| μ = μ) : State.Within μ s₀ (State.loadFailure s c code b wait) := by
  unfold State.loadFailure
  repeat' first
    | with_reducible assumption | (intro _) | with_reducible apply State.put_within
    | with_reducible apply State.flag_within | with_reducible apply State.Within.ite | exact maskSub rfl hm | split
    | dsimp only

theorem State.clearFailure_within {μ : Nat} {s₀ s : State} (hf : State.Within μ s₀ s) (c : Nat) (hm : 0x70 ||| μ = μ)
    : State.Within μ s₀ (State.clearFailure s c) := by
  unfold State.clearFailure
  repeat' first
    | with_reducible assumption | (intro _) | with_reducible apply State.put_within
    | with_reducible apply State.setWord_within | with_reducible apply State.Within.ite | exact maskSub rfl hm | split
    | dsimp only

theorem State.stage_within {μ : Nat} {s₀ s : State} (hf : State.Within μ s₀ s) (c : Nat) (w : Nat) (v : Word) (m :
    Word) (hm : 0x100000000000000000000000000000000000000000210 ||| μ = μ) : State.Within μ s₀ (State.stage s c w v m)
    := by
  unfold State.stage
  repeat' first
    | with_reducible assumption | (intro _) | with_reducible apply State.put_within
    | with_reducible apply State.modTxn_within | with_reducible apply State.Within.ite | exact maskSub rfl hm | split
    | dsimp only

theorem State.stopHere_within {μ : Nat} {s₀ s : State} (hf : State.Within μ s₀ s) (q : Nat) (hm :
    0x304010000000000000000000000051c040000000000000 ||| μ = μ) : State.Within μ s₀ (State.stopHere s q) := by
  unfold State.stopHere
  repeat' first
    | with_reducible assumption | (intro _) | with_reducible apply State.recordResume_within
    | with_reducible apply State.put_within | with_reducible apply State.loseExt_within
    | with_reducible apply State.drainEngine_within | with_reducible apply State.Within.ite | exact maskSub rfl hm
    | split | dsimp only

theorem State.quiesceQueue_within {μ : Nat} {s₀ s : State} (hf : State.Within μ s₀ s) (q : Nat) (hm :
    0x304010000000000000000000000051c040000000000000 ||| μ = μ) : State.Within μ s₀ (State.quiesceQueue s q) := by
  unfold State.quiesceQueue
  repeat' first
    | with_reducible assumption | (intro _) | with_reducible apply State.modQueue_within
    | with_reducible apply State.stopHere_within | with_reducible apply State.Within.ite | exact maskSub rfl hm
    | split | dsimp only

theorem State.forceQuiet_within {μ : Nat} {s₀ s : State} (hf : State.Within μ s₀ s) (q : Nat) (hm :
    0x304010000000000000000000000c59c040000000000000 ||| μ = μ) : State.Within μ s₀ (State.forceQuiet s q) := by
  unfold State.forceQuiet
  repeat' first
    | with_reducible assumption | (intro _) | with_reducible apply State.holdEntry_within
    | with_reducible apply State.put_within | with_reducible apply State.stopHere_within
    | with_reducible apply State.Within.ite | exact maskSub rfl hm | split | dsimp only

theorem State.unquiesce_within {μ : Nat} {s₀ s : State} (hf : State.Within μ s₀ s) (q : Nat) (hm :
    0xc104b04890000000000000001000000c5ff840000100407800 ||| μ = μ) : State.Within μ s₀ (State.unquiesce s q) := by
  unfold State.unquiesce
  repeat' first
    | with_reducible assumption | (intro _) | with_reducible apply State.modQueue_within
    | with_reducible apply State.runWaiting_within | with_reducible apply State.settleState_within
    | with_reducible apply State.tryEntry_within | with_reducible apply State.Within.ite | exact maskSub rfl hm
    | split | dsimp only

theorem State.markQuiescing_within {μ : Nat} {s₀ s : State} (hf : State.Within μ s₀ s) (qs : List Nat) (b : Bool) (hm
    : 0x400000000 ||| μ = μ) : State.Within μ s₀ (State.markQuiescing s qs b) := by
  unfold State.markQuiescing
  repeat' first
    | with_reducible assumption | (intro _) | with_reducible apply State.Within.each
    | with_reducible apply State.flag_within | with_reducible apply State.Within.ite | exact maskSub rfl hm | split
    | dsimp only

theorem State.dropTxn_within {μ : Nat} {s₀ s : State} (hf : State.Within μ s₀ s) (e : Nat) (hm :
    0xc104b34890000000000000001000000c5ff840000500407800 ||| μ = μ) : State.Within μ s₀ (State.dropTxn s e) := by
  unfold State.dropTxn
  repeat' first
    | with_reducible assumption | (intro _) | with_reducible apply State.markQuiescing_within
    | with_reducible apply State.Within.each | with_reducible apply State.unquiesce_within
    | with_reducible apply State.disarm_within | with_reducible apply State.setTxn_within
    | with_reducible apply State.Within.ite | exact maskSub rfl hm | split | dsimp only
  all_goals with_reducible apply State.Within.other
  all_goals first | exact Or.inl rfl | exact Or.inl ⟨rfl, rfl⟩ | exact Or.inl ⟨rfl, rfl, rfl⟩ | exact Or.inr (maskSub rfl hm) | skip
  repeat' first
    | with_reducible assumption | (intro _) | with_reducible apply State.markQuiescing_within
    | with_reducible apply State.Within.each | with_reducible apply State.unquiesce_within
    | with_reducible apply State.disarm_within | with_reducible apply State.setTxn_within
    | with_reducible apply State.Within.ite | exact maskSub rfl hm | split | dsimp only

theorem State.rollBack_within {μ : Nat} {s₀ s : State} (hf : State.Within μ s₀ s) (c : Nat) (r : Nat) (hm :
    0xc104b34890000000000000001000000c5ff840000500407a10 ||| μ = μ) : State.Within μ s₀ (State.rollBack s c r) := by
  unfold State.rollBack
  repeat' first
    | with_reducible assumption | (intro _) | with_reducible apply State.dropTxn_within
    | with_reducible apply State.disarm_within | with_reducible apply State.put_within
    | with_reducible apply State.setResult_within | with_reducible apply State.Within.ite | exact maskSub rfl hm
    | split | dsimp only

theorem State.timeOut_within {μ : Nat} {s₀ s : State} (hf : State.Within μ s₀ s) (c : Nat) (hm :
    0xc104b34890000000000000001000000c5ff840000500407a10 ||| μ = μ) : State.Within μ s₀ (State.timeOut s c) := by
  unfold State.timeOut
  repeat' first
    | with_reducible assumption | (intro _) | with_reducible apply State.rollBack_within
    | with_reducible apply State.modTxn_within | with_reducible apply State.Within.ite | exact maskSub rfl hm | split
    | dsimp only

theorem State.beginQuiesce_within {μ : Nat} {s₀ s : State} (hf : State.Within μ s₀ s) (e : Nat) (hm :
    0x104314810003fffffffffffffffffffffffffffffffffffff ||| μ = μ) : State.Within μ s₀ (State.beginQuiesce s e) := by
  unfold State.beginQuiesce
  repeat' first
    | with_reducible assumption | (intro _) | with_reducible apply State.resulting_within
    | with_reducible apply State.modTxn_within | with_reducible apply State.Within.each
    | with_reducible apply State.quiesceQueue_within | with_reducible apply State.markQuiescing_within
    | with_reducible apply State.wakeRegion_within | with_reducible apply State.arm_within
    | with_reducible apply State.Within.ite | exact maskSub rfl hm | split | dsimp only

theorem State.restBays_within {μ : Nat} {s₀ s : State} (hf : State.Within μ s₀ s) (hm :
    0x800100000000000000010000000000000000000006000 ||| μ = μ) : State.Within μ s₀ (State.restBays s) := by
  unfold State.restBays
  repeat' first
    | with_reducible assumption | (intro _) | with_reducible apply State.Within.each
    | with_reducible apply State.sleepBay_within | with_reducible apply State.Within.ite | exact maskSub rfl hm
    | split | dsimp only

theorem State.logMoves_within {μ : Nat} {s₀ s : State} (hf : State.Within μ s₀ s) (f : Nat) (qs : List (Nat × Nat ×
    Bool)) (hm : 0x40000000000 ||| μ = μ) : State.Within μ s₀ (State.logMoves s f qs) := by
  unfold State.logMoves
  repeat' first
    | with_reducible assumption | (intro _) | with_reducible apply State.put_within
    | with_reducible apply State.flag_within | with_reducible apply State.Within.ite | exact maskSub rfl hm | split
    | dsimp only

theorem State.leaveSlot_within {μ : Nat} {s₀ s : State} (hf : State.Within μ s₀ s) (q : Nat) (old : Nat) (hm :
    0x80000000000000000000000000000000000000000000 ||| μ = μ) : State.Within μ s₀ (State.leaveSlot s q old) := by
  unfold State.leaveSlot
  repeat' first
    | with_reducible assumption | (intro _) | with_reducible apply State.modFunc_within
    | with_reducible apply State.Within.ite | exact maskSub rfl hm | split | dsimp only

theorem State.takeSlot_within {μ : Nat} {s₀ s : State} (hf : State.Within μ s₀ s) (q : Nat) (new : Nat) (hm :
    0x80000000000000000000000000000000000000000000 ||| μ = μ) : State.Within μ s₀ (State.takeSlot s q new) := by
  unfold State.takeSlot
  repeat' first
    | with_reducible assumption | (intro _) | with_reducible apply State.modFunc_within
    | with_reducible apply State.Within.ite | exact maskSub rfl hm | split | dsimp only

theorem State.moveQueue_within {μ : Nat} {s₀ s : State} (hf : State.Within μ s₀ s) (q : Nat) (hm :
    0xb0481000000000000000000000005fffe0000000000000 ||| μ = μ) : State.Within μ s₀ (State.moveQueue s q) := by
  unfold State.moveQueue
  repeat' first
    | with_reducible assumption | (intro _) | with_reducible apply State.bump_within
    | with_reducible apply State.drainEngine_within | with_reducible apply State.dropFetches_within
    | with_reducible apply State.raiseQGen_within | with_reducible apply State.resetQueue_within
    | with_reducible apply State.modQueue_within | with_reducible apply State.Within.ite | exact maskSub rfl hm
    | split | dsimp only
  all_goals with_reducible apply State.Within.other
  all_goals first | exact Or.inl rfl | exact Or.inl ⟨rfl, rfl⟩ | exact Or.inl ⟨rfl, rfl, rfl⟩ | exact Or.inr (maskSub rfl hm) | skip
  repeat' first
    | with_reducible assumption | (intro _) | with_reducible apply State.bump_within
    | with_reducible apply State.drainEngine_within | with_reducible apply State.dropFetches_within
    | with_reducible apply State.raiseQGen_within | with_reducible apply State.resetQueue_within
    | with_reducible apply State.modQueue_within | with_reducible apply State.Within.ite | exact maskSub rfl hm
    | split | dsimp only

theorem State.loseVector_within {μ : Nat} {s₀ s : State} (hf : State.Within μ s₀ s) (f : Nat) (e : Nat) (hm :
    0x104d002000000000000000110000000000000000000007800 ||| μ = μ) : State.Within μ s₀ (State.loseVector s f e) := by
  unfold State.loseVector
  repeat' first
    | with_reducible assumption | (intro _) | with_reducible apply State.setPba_within
    | with_reducible apply State.Within.each | with_reducible apply State.put_within
    | with_reducible apply State.setPeg_within | with_reducible apply State.wakePeg_within
    | with_reducible apply State.modQueue_within | with_reducible apply State.askVector_within
    | with_reducible apply State.Within.ite | exact maskSub rfl hm | split | dsimp only

theorem State.gainVector_within {μ : Nat} {s₀ s : State} (hf : State.Within μ s₀ s) (f : Nat) (e : Nat) (hm :
    0x3000000000000000000000000000000000000000000 ||| μ = μ) : State.Within μ s₀ (State.gainVector s f e) := by
  unfold State.gainVector
  repeat' first
    | with_reducible assumption | (intro _) | with_reducible apply State.Within.each
    | with_reducible apply State.setMsix_within | with_reducible apply State.setPba_within
    | with_reducible apply State.Within.ite | exact maskSub rfl hm | split | dsimp only

theorem State.movePeg_within {μ : Nat} {s₀ s : State} (hf : State.Within μ s₀ s) (i : Nat) (hm :
    0x1044000000000000000000110000000000000000000007800 ||| μ = μ) : State.Within μ s₀ (State.movePeg s i) := by
  unfold State.movePeg
  repeat' first
    | with_reducible assumption | (intro _) | with_reducible apply State.modPeg_within
    | with_reducible apply State.put_within | with_reducible apply State.setPeg_within
    | with_reducible apply State.wakePeg_within | with_reducible apply State.Within.ite | exact maskSub rfl hm | split
    | dsimp only

theorem State.mend_within {μ : Nat} {s₀ s : State} (hf : State.Within μ s₀ s) (words : List Nat) (hm :
    0xc504b04890000000000000001000000c5ff840000500407800 ||| μ = μ) : State.Within μ s₀ (State.mend s words) := by
  unfold State.mend
  repeat' first
    | with_reducible assumption | (intro _) | with_reducible apply State.Within.each
    | with_reducible apply State.put_within | with_reducible apply State.unquiesce_within
    | with_reducible apply State.Within.ite | exact maskSub rfl hm | split | dsimp only
  all_goals with_reducible apply State.Within.other
  all_goals first | exact Or.inl rfl | exact Or.inl ⟨rfl, rfl⟩ | exact Or.inl ⟨rfl, rfl, rfl⟩ | exact Or.inr (maskSub rfl hm) | skip
  repeat' first
    | with_reducible assumption | (intro _) | with_reducible apply State.Within.each
    | with_reducible apply State.put_within | with_reducible apply State.unquiesce_within
    | with_reducible apply State.Within.ite | exact maskSub rfl hm | split | dsimp only

theorem State.loadShadow_within {μ : Nat} {s₀ s : State} (hf : State.Within μ s₀ s) (s0 : State) (ws : Staged) (hm :
    0x40000000000000008000000000000000000000000000000 ||| μ = μ) : State.Within μ s₀ (State.loadShadow s0 s ws) := by
  unfold State.loadShadow
  repeat' first
    | with_reducible assumption | (intro _) | with_reducible apply State.modPlumb_within
    | with_reducible apply State.Within.foldl | with_reducible apply State.put_within
    | with_reducible apply State.Within.ite | exact maskSub rfl hm | split | dsimp only

theorem State.portsBefore_within {μ : Nat} {s₀ s0 : State} (hf : State.Within μ s₀ s0) (after : State) (ps : List Nat)
    (hm : 0xc1c5bc4890000000000017201687c08c5ff840000100407800 ||| μ = μ) : State.Within μ s₀ (State.portsBefore s0
    after ps) := by
  unfold State.portsBefore
  repeat' first
    | with_reducible assumption | (intro _) | with_reducible apply State.Within.each
    | with_reducible apply State.portDown_within | with_reducible apply State.endRequests_within
    | with_reducible apply State.Within.ite | exact maskSub rfl hm | split | dsimp only

theorem State.portsAfter_within {μ : Nat} {s₀ s : State} (hf : State.Within μ s₀ s) (s0 : State) (ps : List Nat) (hm :
    0xc08000000000000000022804200000000000000000000 ||| μ = μ) : State.Within μ s₀ (State.portsAfter s s0 ps) := by
  unfold State.portsAfter
  repeat' first
    | with_reducible assumption | (intro _) | with_reducible apply State.Within.each
    | with_reducible apply State.put_within | with_reducible apply State.modPort_within
    | with_reducible apply State.disablePort_within | with_reducible apply State.holdInTest_within
    | with_reducible apply State.enterReset_within | with_reducible apply State.startTraining_within
    | with_reducible apply State.disarm_within | with_reducible apply State.Within.ite | exact maskSub rfl hm | split
    | dsimp only

theorem State.timePeriods_within {μ : Nat} {s₀ s : State} (hf : State.Within μ s₀ s) (ws : Staged) (hm :
    0x8000000000000000000000000000000000000000000 ||| μ = μ) : State.Within μ s₀ (State.timePeriods s ws) := by
  unfold State.timePeriods
  repeat' first
    | with_reducible assumption | (intro _) | with_reducible apply State.Within.each
    | with_reducible apply State.disarm_within | with_reducible apply State.armOnce_within
    | with_reducible apply State.Within.ite | exact maskSub rfl hm | split | dsimp only

theorem State.strobeWords_within {μ : Nat} {s₀ s0 : State} (hf : State.Within μ s₀ s0) (ws : Staged) (moving : List
    Nat) (hm : 0xc5c5fccb90003fffffffffffffffffffffffffffffffffffff ||| μ = μ) : State.Within μ s₀ (State.strobeWords
    s0 ws moving).1 := by
  unfold State.strobeWords
  repeat' first
    | with_reducible assumption | (intro _) | with_reducible apply State.resulting_within
    | with_reducible apply State.portsBefore_within | with_reducible apply State.Within.each
    | with_reducible apply State.moveQueue_within | with_reducible apply State.loadWords_within
    | with_reducible apply State.logMoves_within | with_reducible apply State.leaveSlot_within
    | with_reducible apply State.takeSlot_within | with_reducible apply State.put_within
    | with_reducible apply State.modPeg_within | with_reducible apply State.movePeg_within
    | with_reducible apply State.loseVector_within | with_reducible apply State.gainVector_within
    | with_reducible apply State.loadShadow_within | with_reducible apply State.portsAfter_within
    | with_reducible apply State.timePeriods_within | with_reducible apply State.mend_within
    | with_reducible apply State.rebuildPlank_within | with_reducible apply State.Within.ite | exact maskSub rfl hm
    | split | dsimp only

theorem State.strobe_within {μ : Nat} {s₀ s : State} (hf : State.Within μ s₀ s) (e : Nat) (hm :
    0xc5c5fffb90003fffffffffffffffffffffffffffffffffffff ||| μ = μ) : State.Within μ s₀ (State.strobe s e) := by
  unfold State.strobe
  repeat' first
    | with_reducible assumption | (intro _) | with_reducible apply State.markQuiescing_within
    | with_reducible apply State.strobeWords_within | with_reducible apply State.disarm_within
    | with_reducible apply State.setTxn_within | with_reducible apply State.put_within
    | with_reducible apply State.modTxn_within | with_reducible apply State.startPersist_within
    | with_reducible apply State.setResult_within | with_reducible refine State.Within.left (by assumption) ?_
    | with_reducible apply State.Within.ite | exact maskSub rfl hm | split | dsimp only
  all_goals with_reducible apply State.Within.other
  all_goals first | exact Or.inl rfl | exact Or.inl ⟨rfl, rfl⟩ | exact Or.inl ⟨rfl, rfl, rfl⟩ | exact Or.inr (maskSub rfl hm) | skip
  repeat' first
    | with_reducible assumption | (intro _) | with_reducible apply State.markQuiescing_within
    | with_reducible apply State.strobeWords_within | with_reducible apply State.disarm_within
    | with_reducible apply State.setTxn_within | with_reducible apply State.put_within
    | with_reducible apply State.modTxn_within | with_reducible apply State.startPersist_within
    | with_reducible apply State.setResult_within | with_reducible refine State.Within.left (by assumption) ?_
    | with_reducible apply State.Within.ite | exact maskSub rfl hm | split | dsimp only

theorem State.runCommits_within {μ : Nat} {s₀ s : State} (hf : State.Within μ s₀ s) (x1 : Nat) (hm :
    0xc5c5fffb90003fffffffffffffffffffffffffffffffffffff ||| μ = μ) : State.Within μ s₀ (State.runCommits s x1) := by
  induction x1 generalizing s with
  | zero =>
    unfold State.runCommits
    repeat' first
      | with_reducible assumption | (intro _) | with_reducible apply State.strobe_within
      | with_reducible apply State.dropTxn_within | with_reducible apply State.loadFailure_within
      | with_reducible apply State.setResult_within | with_reducible apply State.put_within
      | with_reducible apply State.timeOut_within | with_reducible apply State.clearFailure_within
      | with_reducible apply State.beginQuiesce_within | with_reducible apply State.Within.ite | exact maskSub rfl hm
      | split | dsimp only
  | succ n ih =>
    unfold State.runCommits
    repeat' first
      | with_reducible assumption | (intro _) | with_reducible apply ih | with_reducible apply State.strobe_within
      | with_reducible apply State.dropTxn_within | with_reducible apply State.loadFailure_within
      | with_reducible apply State.setResult_within | with_reducible apply State.put_within
      | with_reducible apply State.timeOut_within | with_reducible apply State.clearFailure_within
      | with_reducible apply State.beginQuiesce_within | with_reducible apply State.Within.ite | exact maskSub rfl hm
      | split | dsimp only
    all_goals with_reducible apply State.Within.other
    all_goals first | exact Or.inl rfl | exact Or.inl ⟨rfl, rfl⟩ | exact Or.inl ⟨rfl, rfl, rfl⟩ | exact Or.inr (maskSub rfl hm) | skip
    repeat' first
      | with_reducible assumption | (intro _) | with_reducible apply ih | with_reducible apply State.strobe_within
      | with_reducible apply State.dropTxn_within | with_reducible apply State.loadFailure_within
      | with_reducible apply State.setResult_within | with_reducible apply State.put_within
      | with_reducible apply State.timeOut_within | with_reducible apply State.clearFailure_within
      | with_reducible apply State.beginQuiesce_within | with_reducible apply State.Within.ite | exact maskSub rfl hm
      | split | dsimp only

theorem State.nextCommits_within {μ : Nat} {s₀ s : State} (hf : State.Within μ s₀ s) (hm :
    0xc5c5fffb90003fffffffffffffffffffffffffffffffffffff ||| μ = μ) : State.Within μ s₀ (State.nextCommits s) := by
  unfold State.nextCommits
  repeat' first
    | with_reducible assumption | (intro _) | with_reducible apply State.runCommits_within
    | with_reducible apply State.Within.ite | exact maskSub rfl hm | split | dsimp only

theorem State.txnBegin_within {μ : Nat} {s₀ s : State} (hf : State.Within μ s₀ s) (c : Nat) (hm :
    0x108000000000000000000000000000000000000000310 ||| μ = μ) : State.Within μ s₀ (State.txnBegin s c) := by
  unfold State.txnBegin
  repeat' first
    | with_reducible assumption | (intro _) | with_reducible apply State.setResult_within
    | with_reducible apply State.setTxn_within | with_reducible apply State.setWord_within
    | with_reducible apply State.put_within | with_reducible apply State.arm_within
    | with_reducible apply State.Within.ite | exact maskSub rfl hm | split | dsimp only

theorem State.txnCommit_within {μ : Nat} {s₀ s : State} (hf : State.Within μ s₀ s) (c : Nat) (persist : Bool) (hm :
    0xc5c5fffb90003fffffffffffffffffffffffffffffffffffff ||| μ = μ) : State.Within μ s₀ (State.txnCommit s c persist)
    := by
  unfold State.txnCommit
  repeat' first
    | with_reducible assumption | (intro _) | with_reducible apply State.setResult_within
    | with_reducible apply State.timeOut_within | with_reducible apply State.modTxn_within
    | with_reducible apply State.put_within | with_reducible apply State.nextCommits_within
    | with_reducible apply State.Within.ite | exact maskSub rfl hm | split | dsimp only
  all_goals with_reducible apply State.Within.other
  all_goals first | exact Or.inl rfl | exact Or.inl ⟨rfl, rfl⟩ | exact Or.inl ⟨rfl, rfl, rfl⟩ | exact Or.inr (maskSub rfl hm) | skip
  repeat' first
    | with_reducible assumption | (intro _) | with_reducible apply State.setResult_within
    | with_reducible apply State.timeOut_within | with_reducible apply State.modTxn_within
    | with_reducible apply State.put_within | with_reducible apply State.nextCommits_within
    | with_reducible apply State.Within.ite | exact maskSub rfl hm | split | dsimp only

theorem State.txnRollback_within {μ : Nat} {s₀ s : State} (hf : State.Within μ s₀ s) (c : Nat) (hm :
    0xc104b34890000000000000001000000c5ff840000500407a10 ||| μ = μ) : State.Within μ s₀ (State.txnRollback s c) := by
  unfold State.txnRollback
  repeat' first
    | with_reducible assumption | (intro _) | with_reducible apply State.rollBack_within
    | with_reducible apply State.setResult_within | with_reducible apply State.Within.ite | exact maskSub rfl hm
    | split | dsimp only

theorem State.txnExpired_within {μ : Nat} {s₀ s : State} (hf : State.Within μ s₀ s) (c : Nat) (hm :
    0xc104b3689c000000000000001000000c5ff840000500407a10 ||| μ = μ) : State.Within μ s₀ (State.txnExpired s c) := by
  unfold State.txnExpired
  repeat' first
    | with_reducible assumption | (intro _) | with_reducible apply State.onExpiry_within
    | with_reducible apply State.arm_within | with_reducible apply State.timeOut_within
    | with_reducible apply State.Within.ite | exact maskSub rfl hm | split | dsimp only

theorem State.giveStrobe_within {μ : Nat} {s₀ s : State} (hf : State.Within μ s₀ s) (c : Nat) (hm :
    0xc5c5fffb90003fffffffffffffffffffffffffffffffffffff ||| μ = μ) : State.Within μ s₀ (State.giveStrobe s c) := by
  unfold State.giveStrobe
  repeat' first
    | with_reducible assumption | (intro _) | with_reducible apply State.strobe_within
    | with_reducible apply State.nextCommits_within | with_reducible apply State.Within.ite | exact maskSub rfl hm
    | split | dsimp only

theorem State.quiesceExpired_within {μ : Nat} {s₀ s : State} (hf : State.Within μ s₀ s) (c : Nat) (hm :
    0x30681c000000000000000000000c59c040000000000000 ||| μ = μ) : State.Within μ s₀ (State.quiesceExpired s c) := by
  unfold State.quiesceExpired
  repeat' first
    | with_reducible assumption | (intro _) | with_reducible apply State.onExpiry_within
    | with_reducible apply State.Within.each | with_reducible apply State.forceQuiet_within
    | with_reducible apply State.Within.ite | exact maskSub rfl hm | split | dsimp only

theorem State.persistDone_within {μ : Nat} {s₀ s : State} (hf : State.Within μ s₀ s) (c : Nat) (hm :
    0xc5c5fffb90003fffffffffffffffffffffffffffffffffffff ||| μ = μ) : State.Within μ s₀ (State.persistDone s c) := by
  unfold State.persistDone
  repeat' first
    | with_reducible assumption | (intro _) | with_reducible apply State.finishWrite_within
    | with_reducible apply State.put_within | with_reducible apply State.setResult_within
    | with_reducible apply State.setTxn_within | with_reducible apply State.nextCommits_within
    | with_reducible apply State.Within.ite | exact maskSub rfl hm | split | dsimp only

theorem State.writeDone_within {μ : Nat} {s₀ s : State} (hf : State.Within μ s₀ s) (hm :
    0xc5c5fffb90003fffffffffffffffffffffffffffffffffffff ||| μ = μ) : State.Within μ s₀ (State.writeDone s) := by
  unfold State.writeDone
  repeat' first
    | with_reducible assumption | (intro _) | with_reducible apply State.finishWrite_within
    | with_reducible apply State.nextCommits_within | with_reducible apply State.Within.ite | exact maskSub rfl hm
    | split | dsimp only

theorem State.retWrite_within {μ : Nat} {s₀ s : State} (hf : State.Within μ s₀ s) (c : Nat) (w : Nat) (v : Word) (m :
    Word) (hm : 0xc5c5fffb90003fffffffffffffffffffffffffffffffffffff ||| μ = μ) : State.Within μ s₀ (State.retWrite s
    c w v m) := by
  unfold State.retWrite
  repeat' first
    | with_reducible assumption | (intro _) | with_reducible apply State.setResult_within
    | with_reducible apply State.stage_within | with_reducible apply State.loadFailure_within
    | with_reducible apply State.setTxn_within | with_reducible apply State.nextCommits_within
    | with_reducible apply State.Within.ite | exact maskSub rfl hm | split | dsimp only
  all_goals with_reducible apply State.Within.other
  all_goals first | exact Or.inl rfl | exact Or.inl ⟨rfl, rfl⟩ | exact Or.inl ⟨rfl, rfl, rfl⟩ | exact Or.inr (maskSub rfl hm) | skip
  repeat' first
    | with_reducible assumption | (intro _) | with_reducible apply State.setResult_within
    | with_reducible apply State.stage_within | with_reducible apply State.loadFailure_within
    | with_reducible apply State.setTxn_within | with_reducible apply State.nextCommits_within
    | with_reducible apply State.Within.ite | exact maskSub rfl hm | split | dsimp only

theorem State.rollBackAll_within {μ : Nat} {s₀ s : State} (hf : State.Within μ s₀ s) (r : Nat) (hm :
    0xc104b34890000000000000001000000c5ff840000500407a10 ||| μ = μ) : State.Within μ s₀ (State.rollBackAll s r) := by
  unfold State.rollBackAll
  repeat' first
    | with_reducible assumption | (intro _) | with_reducible apply State.Within.each
    | with_reducible apply State.dropTxn_within | with_reducible apply State.setResult_within
    | with_reducible apply State.rollBack_within | with_reducible apply State.Within.ite | exact maskSub rfl hm
    | split | dsimp only

theorem State.resetContext_within {μ : Nat} {s₀ s : State} (hf : State.Within μ s₀ s) (h : Nat) (hm
    : 0xc5c5fffb90003fffffffffffffffffffffffffffffffffffff ||| μ = μ) :
    State.Within μ s₀ (State.resetContext s h) := by
  have hl : ∀ k ∈ [RegKind.TXN_STATUS, .TXN_FAIL_ADDR, .TXN_FAIL_INFO, .TXN_OPEN_TIME, .TXN_STAGED, .TXN_PERSIST_SEQ], k.bit ||| 0xc5c5fffb90003fffffffffffffffffffffffffffffffffffff = 0xc5c5fffb90003fffffffffffffffffffffffffffffffffffff := by decide
  unfold State.resetContext
  repeat' first
    | with_reducible assumption | (intro _) | with_reducible apply State.Within.eachMem
    | exact maskSub (hl _ (by assumption)) hm | with_reducible apply State.Within.each
    | with_reducible apply State.dropTxn_within | with_reducible apply State.rollBack_within
    | with_reducible apply State.resetPlain_within | with_reducible apply State.nextCommits_within
    | with_reducible apply State.setResult_within | with_reducible apply State.Within.ite | exact maskSub rfl hm
    | split | dsimp only

end Sys2Proof.Machine
end

