-- ==== Sys2Proof/Laws/WithinPower.lean ====
section
/-! SUPPORT. What the operations of supply, scribe and Plumb leave alone
(State.Within): one lemma per operation. -/

namespace Sys2Proof.Machine

set_option linter.all false
set_option Elab.async false

theorem State.wiped_within {μ : Nat} {s₀ s : State} (hf : State.Within μ s₀ s) (hm
    : 0x11ffffffbf8003fffffffffffffffffffffffffffffffffffff ||| μ = μ) :
    State.Within μ s₀ (State.wiped s) := by
  exact hf.trans ⟨fun k hk i => by (exfalso; rw [mask_kind (maskSub (RegKind.bit_all k) (maskSub rfl hm))] at hk; cases hk), fun a ha => by
    cases a <;> first
      | rfl | exact ⟨rfl, rfl⟩ | exact ⟨rfl, rfl, rfl, rfl⟩ | exact ⟨rfl, rfl, rfl⟩
      | (rw [testBit_of_mask (maskSub rfl hm)] at ha; cases ha)⟩

theorem State.tearActivate_within {μ : Nat} {s₀ s : State} (hf : State.Within μ s₀ s) (hm :
    0x20000000000000000000000000000000000000000000000 ||| μ = μ) : State.Within μ s₀ (State.tearActivate s) := by
  unfold State.tearActivate
  repeat' first
    | with_reducible assumption | (intro _) | with_reducible apply State.modRidge_within
    | with_reducible apply State.Within.ite | exact maskSub rfl hm | split | dsimp only

theorem State.dark_within {μ : Nat} {s₀ s : State} (hf : State.Within μ s₀ s) (hm
    : 0x11ffffffffa003fffffffffffffffffffffffffffffffffffff ||| μ = μ) :
    State.Within μ s₀ (State.dark s) := by
  unfold State.dark
  exact (State.wiped_within hf (maskSub rfl hm)).trans ⟨fun k hk i => by (exfalso; rw [mask_kind (maskSub (RegKind.bit_all k) (maskSub rfl hm))] at hk; cases hk), fun a ha => by
    cases a <;> first
      | rfl | exact ⟨rfl, rfl⟩ | exact ⟨rfl, rfl, rfl, rfl⟩ | exact ⟨rfl, rfl, rfl⟩
      | (rw [testBit_of_mask (maskSub rfl hm)] at ha; cases ha)⟩

theorem State.stopTraffic_within {μ : Nat} {s₀ s : State} (hf : State.Within μ s₀ s) (result : Nat) (hm
    : 0x1dffffffbf8003fffffffffffffffffffffffffffffffffffff ||| μ = μ) :
    State.Within μ s₀ (State.stopTraffic s result) := by
  have hw : ∀ t : State, State.Within μ s₀ t → State.Within μ s₀ { t with
      timers := t.timers.filter (fun e => e.1 == .plumb)
      hosts := t.wiped.hosts, ports := t.wiped.ports, lanes := [], queues := [], engines := [], pegs := [], vecs := [], funcs := []
      commits := [], waking := [], warm := [], ring := [], pba := [], msix := [], bankA := [], bankB := []
      scribe := ⟨none, none, []⟩
      brace := { t.brace with queue := [], sources := [] }
      ridge := t.wiped.ridge
      regs := t.regs.filter (fun e => !List.any [RegKind.SCRIBE_STATUS, .SCRIBE_SEQ, .SCRIBE_TIME, .SCRIBE_INFO] (fun k => e.1 % 256 == k.code)) } :=
    fun t h => h.trans ⟨fun k hk i => by (exfalso; rw [mask_kind (maskSub (RegKind.bit_all k) (maskSub rfl hm))] at hk; cases hk), fun a ha => by
    cases a <;> first
      | rfl | exact ⟨rfl, rfl⟩ | exact ⟨rfl, rfl, rfl, rfl⟩ | exact ⟨rfl, rfl, rfl⟩
      | (rw [testBit_of_mask (maskSub rfl hm)] at ha; cases ha)⟩
  exact hw _ (State.Within.each (State.Within.each (State.rollBackAll_within hf result (maskSub rfl hm)) _
    (fun _ _ k => State.put_within k _ _ _ (maskSub rfl hm))) _
    (fun _ _ k => State.put_within (State.setWord_within k _ _ _ (maskSub rfl hm)) _ _ _ (maskSub rfl hm)))

theorem State.turnAllOff_within {μ : Nat} {s₀ s : State} (hf : State.Within μ s₀ s) (hm : 0x10000000000000000000007800
    ||| μ = μ) : State.Within μ s₀ (State.turnAllOff s) := by
  unfold State.turnAllOff
  repeat' first
    | with_reducible assumption | (intro _) | with_reducible apply State.Within.each
    | with_reducible apply State.setRegion_within | with_reducible apply State.Within.ite | exact maskSub rfl hm
    | split | dsimp only

theorem State.endNow_within {μ : Nat} {s₀ s : State} (hf : State.Within μ s₀ s) (x1 : Ending) (hm :
    0x11ffffffffa003fffffffffffffffffffffffffffffffffffff ||| μ = μ) : State.Within μ s₀ (State.endNow s x1) := by
  unfold State.endNow
  repeat' first
    | with_reducible assumption | (intro _) | with_reducible apply State.turnAllOff_within
    | with_reducible apply State.dark_within | with_reducible apply State.Within.ite | exact maskSub rfl hm | split
    | dsimp only
  all_goals with_reducible apply State.Within.other
  all_goals first | exact Or.inl rfl | exact Or.inl ⟨rfl, rfl⟩ | exact Or.inl ⟨rfl, rfl, rfl⟩ | exact Or.inr (maskSub rfl hm) | skip
  repeat' first
    | with_reducible assumption | (intro _) | with_reducible apply State.turnAllOff_within
    | with_reducible apply State.dark_within | with_reducible apply State.Within.ite | exact maskSub rfl hm | split
    | dsimp only

theorem State.restart_within {μ : Nat} {s₀ s : State} (hf : State.Within μ s₀ s) (hm
    : 0x11ffffffffa003fffffffffffffffffffffffffffffffffffff ||| μ = μ) :
    State.Within μ s₀ (State.restart s) := by
  have hw := State.wiped_within hf (maskSub rfl hm)
  unfold State.restart
  dsimp only
  generalize s.wiped = w at hw ⊢
  have hp : ∀ x : Phase, State.Within μ s₀ { w with phase := x } := fun x => hw.trans ⟨fun _ _ _ => rfl, fun a ha => by
    cases a <;> first
      | rfl | exact ⟨rfl, rfl⟩ | exact ⟨rfl, rfl, rfl, rfl⟩ | exact ⟨rfl, rfl, rfl⟩
      | (rw [testBit_of_mask (maskSub rfl hm)] at ha; cases ha)⟩
  exact State.Within.ite (State.Within.ite (hp _) (State.endNow_within hw _ (maskSub rfl hm))) (hp _)

theorem State.beginEnding_within {μ : Nat} {s₀ s : State} (hf : State.Within μ s₀ s) (e : Ending) (hm :
    0x1dffffffffa003fffffffffffffffffffffffffffffffffffff ||| μ = μ) : State.Within μ s₀ (State.beginEnding s e) := by
  unfold State.beginEnding
  repeat' first
    | with_reducible assumption | (intro _) | with_reducible apply State.stopTraffic_within
    | with_reducible apply State.endNow_within | with_reducible apply State.Within.ite | exact maskSub rfl hm | split
    | dsimp only
  all_goals with_reducible apply State.Within.other
  all_goals first | exact Or.inl rfl | exact Or.inl ⟨rfl, rfl⟩ | exact Or.inl ⟨rfl, rfl, rfl⟩ | exact Or.inr (maskSub rfl hm) | skip
  repeat' first
    | with_reducible assumption | (intro _) | with_reducible apply State.stopTraffic_within
    | with_reducible apply State.endNow_within | with_reducible apply State.Within.ite | exact maskSub rfl hm | split
    | dsimp only

theorem State.loseMains_within {μ : Nat} {s₀ s : State} (hf : State.Within μ s₀ s) (hm :
    0x1dffffffffa003fffffffffffffffffffffffffffffffffffff ||| μ = μ) : State.Within μ s₀ (State.loseMains s) := by
  unfold State.loseMains
  repeat' first
    | with_reducible assumption | (intro _) | with_reducible apply State.tearActivate_within
    | with_reducible apply State.dark_within | with_reducible apply State.beginEnding_within
    | with_reducible apply State.Within.ite | exact maskSub rfl hm | split | dsimp only
  all_goals with_reducible apply State.Within.other
  all_goals first | exact Or.inl rfl | exact Or.inl ⟨rfl, rfl⟩ | exact Or.inl ⟨rfl, rfl, rfl⟩ | exact Or.inr (maskSub rfl hm) | skip
  repeat' first
    | with_reducible assumption | (intro _) | with_reducible apply State.tearActivate_within
    | with_reducible apply State.dark_within | with_reducible apply State.beginEnding_within
    | with_reducible apply State.Within.ite | exact maskSub rfl hm | split | dsimp only

theorem State.enterStandby_within {μ : Nat} {s₀ s : State} (hf : State.Within μ s₀ s) (hm :
    0x1dffffffffa003fffffffffffffffffffffffffffffffffffff ||| μ = μ) : State.Within μ s₀ (State.enterStandby s) := by
  unfold State.enterStandby
  repeat' first
    | with_reducible assumption | (intro _) | with_reducible apply State.modPins_within
    | with_reducible apply State.endNow_within | with_reducible apply State.beginEnding_within
    | with_reducible apply State.Within.ite | exact maskSub rfl hm | split | dsimp only
  all_goals with_reducible apply State.Within.other
  all_goals first | exact Or.inl rfl | exact Or.inl ⟨rfl, rfl⟩ | exact Or.inl ⟨rfl, rfl, rfl⟩ | exact Or.inr (maskSub rfl hm) | skip
  repeat' first
    | with_reducible assumption | (intro _) | with_reducible apply State.modPins_within
    | with_reducible apply State.endNow_within | with_reducible apply State.beginEnding_within
    | with_reducible apply State.Within.ite | exact maskSub rfl hm | split | dsimp only

theorem State.leaveStandby_within {μ : Nat} {s₀ s : State} (hf : State.Within μ s₀ s) (hm :
    0x11ffffffffa003fffffffffffffffffffffffffffffffffffff ||| μ = μ) : State.Within μ s₀ (State.leaveStandby s) := by
  unfold State.leaveStandby
  repeat' first
    | with_reducible assumption | (intro _) | with_reducible apply State.modPins_within
    | with_reducible apply State.restart_within | with_reducible apply State.Within.ite | exact maskSub rfl hm | split
    | dsimp only

theorem State.holdReset_within {μ : Nat} {s₀ s : State} (hf : State.Within μ s₀ s) (slot : Nat) (hm :
    0x1dffffffffa003fffffffffffffffffffffffffffffffffffff ||| μ = μ) : State.Within μ s₀ (State.holdReset s slot) :=
    by
  unfold State.holdReset
  repeat' first
    | with_reducible assumption | (intro _) | with_reducible apply State.modPins_within
    | with_reducible apply State.rollBackAll_within | with_reducible apply State.restart_within
    | with_reducible apply State.Within.ite | exact maskSub rfl hm | split | dsimp only

theorem State.releaseModReset_within {μ : Nat} {s₀ s : State} (hf : State.Within μ s₀ s) (hm :
    0x100000020000000000000000000000000000000000000000 ||| μ = μ) : State.Within μ s₀ (State.releaseModReset s) := by
  unfold State.releaseModReset
  repeat' first
    | with_reducible assumption | (intro _) | with_reducible apply State.modPins_within
    | with_reducible apply State.Within.ite | exact maskSub rfl hm | split | dsimp only
  all_goals with_reducible apply State.Within.other
  all_goals first | exact Or.inl rfl | exact Or.inl ⟨rfl, rfl⟩ | exact Or.inl ⟨rfl, rfl, rfl⟩ | exact Or.inr (maskSub rfl hm) | skip
  repeat' first
    | with_reducible assumption | (intro _) | with_reducible apply State.modPins_within
    | with_reducible apply State.Within.ite | exact maskSub rfl hm | split | dsimp only

theorem State.trip_within {μ : Nat} {s₀ s : State} (hf : State.Within μ s₀ s) (hm :
    0x11ffffffbfa003fffffffffffffffffffffffffffffffffffff ||| μ = μ) : State.Within μ s₀ (State.trip s) := by
  unfold State.trip
  repeat' first
    | with_reducible assumption | (intro _) | with_reducible apply State.tearWrite_within
    | with_reducible apply State.wiped_within | with_reducible apply State.turnAllOff_within
    | with_reducible apply State.Within.ite | exact maskSub rfl hm | split | dsimp only
  all_goals with_reducible apply State.Within.other
  all_goals first | exact Or.inl rfl | exact Or.inl ⟨rfl, rfl⟩ | exact Or.inl ⟨rfl, rfl, rfl⟩ | exact Or.inr (maskSub rfl hm) | skip
  repeat' first
    | with_reducible assumption | (intro _) | with_reducible apply State.tearWrite_within
    | with_reducible apply State.wiped_within | with_reducible apply State.turnAllOff_within
    | with_reducible apply State.Within.ite | exact maskSub rfl hm | split | dsimp only

theorem State.enterSafe_within {μ : Nat} {s₀ s : State} (hf : State.Within μ s₀ s) (n : Nat) (c : Nat) (hm :
    0x11ffffffbfa003fffffffffffffffffffffffffffffffffffff ||| μ = μ) : State.Within μ s₀ (State.enterSafe s n c) := by
  unfold State.enterSafe
  repeat' first
    | with_reducible assumption | (intro _) | with_reducible apply State.tearWrite_within
    | with_reducible apply State.wiped_within | with_reducible apply State.turnAllOff_within
    | with_reducible apply State.put_within | with_reducible apply State.Within.ite | exact maskSub rfl hm | split
    | dsimp only
  all_goals with_reducible apply State.Within.other
  all_goals first | exact Or.inl rfl | exact Or.inl ⟨rfl, rfl⟩ | exact Or.inl ⟨rfl, rfl, rfl⟩ | exact Or.inr (maskSub rfl hm) | skip
  repeat' first
    | with_reducible assumption | (intro _) | with_reducible apply State.tearWrite_within
    | with_reducible apply State.wiped_within | with_reducible apply State.turnAllOff_within
    | with_reducible apply State.put_within | with_reducible apply State.Within.ite | exact maskSub rfl hm | split
    | dsimp only

theorem State.shutNow_within {μ : Nat} {s₀ s : State} (hf : State.Within μ s₀ s) (hm :
    0x1dffffffbfa003fffffffffffffffffffffffffffffffffffff ||| μ = μ) : State.Within μ s₀ (State.shutNow s) := by
  unfold State.shutNow
  repeat' first
    | with_reducible assumption | (intro _) | with_reducible apply State.stopTraffic_within
    | with_reducible apply State.turnAllOff_within | with_reducible apply State.Within.ite | exact maskSub rfl hm
    | split | dsimp only
  all_goals with_reducible apply State.Within.other
  all_goals first | exact Or.inl rfl | exact Or.inl ⟨rfl, rfl⟩ | exact Or.inl ⟨rfl, rfl, rfl⟩ | exact Or.inr (maskSub rfl hm) | skip
  repeat' first
    | with_reducible assumption | (intro _) | with_reducible apply State.stopTraffic_within
    | with_reducible apply State.turnAllOff_within | with_reducible apply State.Within.ite | exact maskSub rfl hm
    | split | dsimp only

theorem State.askShutdown_within {μ : Nat} {s₀ s : State} (hf : State.Within μ s₀ s) (hm :
    0x1dffffffbfa003fffffffffffffffffffffffffffffffffffff ||| μ = μ) : State.Within μ s₀ (State.askShutdown s) := by
  unfold State.askShutdown
  repeat' first
    | with_reducible assumption | (intro _) | with_reducible apply State.report_within
    | with_reducible apply State.rollBackAll_within | with_reducible apply State.modPins_within
    | with_reducible apply State.Within.each | with_reducible apply State.setRegion_within
    | with_reducible apply State.arm_within | with_reducible apply State.shutNow_within
    | with_reducible apply State.Within.ite | exact maskSub rfl hm | split | dsimp only
  all_goals with_reducible apply State.Within.other
  all_goals first | exact Or.inl rfl | exact Or.inl ⟨rfl, rfl⟩ | exact Or.inl ⟨rfl, rfl, rfl⟩ | exact Or.inr (maskSub rfl hm) | skip
  repeat' first
    | with_reducible assumption | (intro _) | with_reducible apply State.report_within
    | with_reducible apply State.rollBackAll_within | with_reducible apply State.modPins_within
    | with_reducible apply State.Within.each | with_reducible apply State.setRegion_within
    | with_reducible apply State.arm_within | with_reducible apply State.shutNow_within
    | with_reducible apply State.Within.ite | exact maskSub rfl hm | split | dsimp only

theorem State.endDeferral_within {μ : Nat} {s₀ s : State} (hf : State.Within μ s₀ s) (len : Nat) (hm :
    0x1dffffffbfa003fffffffffffffffffffffffffffffffffffff ||| μ = μ) : State.Within μ s₀ (State.endDeferral s len) :=
    by
  unfold State.endDeferral
  repeat' first
    | with_reducible assumption | (intro _) | with_reducible apply State.disarm_within
    | with_reducible apply State.report_within | with_reducible apply State.shutNow_within
    | with_reducible apply State.Within.ite | exact maskSub rfl hm | split | dsimp only

theorem State.deferralOver_within {μ : Nat} {s₀ s : State} (hf : State.Within μ s₀ s) (hm :
    0x1dffffffbfe003fffffffffffffffffffffffffffffffffffff ||| μ = μ) : State.Within μ s₀ (State.deferralOver s) := by
  unfold State.deferralOver
  repeat' first
    | with_reducible assumption | (intro _) | with_reducible apply State.onExpiry_within
    | with_reducible apply State.endDeferral_within | with_reducible apply State.tearWrite_within
    | with_reducible apply State.Within.ite | exact maskSub rfl hm | split | dsimp only

theorem State.writeOver_within {μ : Nat} {s₀ s : State} (hf : State.Within μ s₀ s) (hm :
    0x1dffffffffa003fffffffffffffffffffffffffffffffffffff ||| μ = μ) : State.Within μ s₀ (State.writeOver s) := by
  unfold State.writeOver
  repeat' first
    | with_reducible assumption | (intro _) | with_reducible apply State.endDeferral_within
    | with_reducible apply State.endNow_within | with_reducible apply State.Within.ite | exact maskSub rfl hm | split
    | dsimp only

theorem State.storeDone_within {μ : Nat} {s₀ s : State} (hf : State.Within μ s₀ s) (hm :
    0x1dffffffffa003fffffffffffffffffffffffffffffffffffff ||| μ = μ) : State.Within μ s₀ (State.storeDone s) := by
  unfold State.storeDone
  repeat' first
    | with_reducible assumption | (intro _) | with_reducible apply State.writeDone_within
    | with_reducible apply State.finishWrite_within | with_reducible apply State.writeOver_within
    | with_reducible apply State.Within.ite | exact maskSub rfl hm | split | dsimp only

theorem State.persisted_within {μ : Nat} {s₀ s : State} (hf : State.Within μ s₀ s) (c : Nat) (hm :
    0x1dffffffffa003fffffffffffffffffffffffffffffffffffff ||| μ = μ) : State.Within μ s₀ (State.persisted s c) := by
  unfold State.persisted
  repeat' first
    | with_reducible assumption | (intro _) | with_reducible apply State.persistDone_within
    | with_reducible apply State.writeOver_within | with_reducible apply State.Within.ite | exact maskSub rfl hm
    | split | dsimp only

theorem State.readFuses_within {μ : Nat} {s₀ s : State} (hf : State.Within μ s₀ s) (fs : List FuseRead) (temp : Nat) (hm
    : 0x4000000400000003c000000000000000000000000000000000 ||| μ = μ) :
    State.Within μ s₀ (State.readFuses s fs temp) := by
  unfold State.readFuses
  repeat' first
    | with_reducible assumption | (intro _) | with_reducible apply State.Within.each
    | with_reducible apply State.put_within | with_reducible apply State.freeWord_within
    | with_reducible apply State.setWord_within | with_reducible refine State.Within.pair (by assumption) ?_
    | with_reducible apply State.Within.ite | exact maskSub rfl hm | split | dsimp only
  all_goals with_reducible apply State.Within.other
  all_goals first | exact Or.inl rfl | exact Or.inl ⟨rfl, rfl⟩ | exact Or.inl ⟨rfl, rfl, rfl⟩ | exact Or.inr (maskSub rfl hm) | skip
  repeat' first
    | with_reducible assumption | (intro _) | with_reducible apply State.Within.each
    | with_reducible apply State.put_within | with_reducible apply State.freeWord_within
    | with_reducible apply State.setWord_within | with_reducible refine State.Within.pair (by assumption) ?_
    | with_reducible apply State.Within.ite | exact maskSub rfl hm | split | dsimp only

theorem State.powerUp_within {μ : Nat} {s₀ s : State} (hf : State.Within μ s₀ s) (fs : List FuseRead) (temp : Nat)
    (slot : Nat) (hm : 0x15ffffffffa003fffffffffffffffffffffffffffffffffffff ||| μ = μ) : State.Within μ s₀
    (State.powerUp s fs temp slot) := by
  unfold State.powerUp
  repeat' first
    | with_reducible assumption | (intro _) | with_reducible apply State.dark_within
    | with_reducible apply State.modPins_within | with_reducible apply State.readFuses_within
    | with_reducible apply State.endNow_within | with_reducible apply State.Within.ite | exact maskSub rfl hm | split
    | dsimp only
  all_goals with_reducible apply State.Within.other
  all_goals first | exact Or.inl rfl | exact Or.inl ⟨rfl, rfl⟩ | exact Or.inl ⟨rfl, rfl, rfl⟩ | exact Or.inr (maskSub rfl hm) | skip
  repeat' first
    | with_reducible assumption | (intro _) | with_reducible apply State.dark_within
    | with_reducible apply State.modPins_within | with_reducible apply State.readFuses_within
    | with_reducible apply State.endNow_within | with_reducible apply State.Within.ite | exact maskSub rfl hm | split
    | dsimp only

theorem State.scanDone_within {μ : Nat} {s₀ s : State} (hf : State.Within μ s₀ s) (factory : Bool) (hm :
    0x24003802003fffffffffffffffffffffffffffffffffffff ||| μ = μ) : State.Within μ s₀ (State.scanDone s factory) := by
  unfold State.scanDone
  repeat' first
    | with_reducible assumption | (intro _) | with_reducible apply State.setWord_within
    | with_reducible apply State.put_within | with_reducible apply State.flag_within
    | with_reducible apply State.modRss_within | with_reducible apply State.resulting_within
    | with_reducible apply State.modPlumb_within | with_reducible apply State.arm_within
    | with_reducible apply State.Within.ite | exact maskSub rfl hm | split | dsimp only
  all_goals with_reducible apply State.Within.other
  all_goals first | exact Or.inl rfl | exact Or.inl ⟨rfl, rfl⟩ | exact Or.inl ⟨rfl, rfl, rfl⟩ | exact Or.inr (maskSub rfl hm) | skip
  repeat' first
    | with_reducible assumption | (intro _) | with_reducible apply State.setWord_within
    | with_reducible apply State.put_within | with_reducible apply State.flag_within
    | with_reducible apply State.modRss_within | with_reducible apply State.resulting_within
    | with_reducible apply State.modPlumb_within | with_reducible apply State.arm_within
    | with_reducible apply State.Within.ite | exact maskSub rfl hm | split | dsimp only

theorem State.permit_within {μ : Nat} {s₀ s : State} (hf : State.Within μ s₀ s) (hm :
    0x8120000040000000000000000000000000000000802 ||| μ = μ) : State.Within μ s₀ (State.permit s) := by
  unfold State.permit
  repeat' first
    | with_reducible assumption | (intro _) | with_reducible apply State.bump_within
    | with_reducible apply State.Within.each | with_reducible apply State.setHcrState_within
    | with_reducible apply State.startHcr_within | with_reducible apply State.flag_within
    | with_reducible apply State.arm_within | with_reducible apply State.Within.ite | exact maskSub rfl hm | split
    | dsimp only
  all_goals with_reducible apply State.Within.other
  all_goals first | exact Or.inl rfl | exact Or.inl ⟨rfl, rfl⟩ | exact Or.inl ⟨rfl, rfl, rfl⟩ | exact Or.inr (maskSub rfl hm) | skip
  repeat' first
    | with_reducible assumption | (intro _) | with_reducible apply State.bump_within
    | with_reducible apply State.Within.each | with_reducible apply State.setHcrState_within
    | with_reducible apply State.startHcr_within | with_reducible apply State.flag_within
    | with_reducible apply State.arm_within | with_reducible apply State.Within.ite | exact maskSub rfl hm | split
    | dsimp only

theorem State.showPins_within {μ : Nat} {s₀ s : State} (hf : State.Within μ s₀ s) (hm : 0x10004000000000000000000000
    ||| μ = μ) : State.Within μ s₀ (State.showPins s) := by
  unfold State.showPins
  repeat' first
    | with_reducible assumption | (intro _) | with_reducible apply State.Within.each
    | with_reducible apply State.put_within | with_reducible apply State.Within.ite | exact maskSub rfl hm | split
    | dsimp only

theorem State.measureRestore_within {μ : Nat} {s₀ s : State} (hf : State.Within μ s₀ s) (c : Candidate) (hm :
    0x40020000000000000000000000000000000000000000000000 ||| μ = μ) : State.Within μ s₀ (State.measureRestore s c) :=
    by
  unfold State.measureRestore
  repeat' first
    | with_reducible assumption | (intro _) | with_reducible apply State.readBytes_within
    | with_reducible apply State.modRidge_within | with_reducible refine State.Within.pair (by assumption) ?_
    | with_reducible apply State.Within.ite | exact maskSub rfl hm | split | dsimp only

theorem State.bootEvents_within {μ : Nat} {s₀ s : State} (hf : State.Within μ s₀ s) (hm :
    0x81150008900000000000172010000000000000000000007800 ||| μ = μ) : State.Within μ s₀ (State.bootEvents s) := by
  unfold State.bootEvents
  repeat' first
    | with_reducible assumption | (intro _) | with_reducible apply State.report_within
    | with_reducible apply State.modPins_within | with_reducible apply State.Within.ite | exact maskSub rfl hm | split
    | dsimp only

theorem State.applyRestore_within {μ : Nat} {s₀ s : State} (hf : State.Within μ s₀ s) (hm :
    0xc1770cb892003fffffffffffffffffffffffffffffffffffff ||| μ = μ) : State.Within μ s₀ (State.applyRestore s) := by
  unfold State.applyRestore
  repeat' first
    | with_reducible assumption | (intro _) | with_reducible apply State.resulting_within
    | with_reducible apply State.flag_within | with_reducible apply State.showPins_within
    | with_reducible apply State.fillSlots_within | with_reducible apply State.measureRestore_within
    | with_reducible apply State.Within.each | with_reducible apply State.enterReset_within
    | with_reducible apply State.rebuildPlank_within | with_reducible apply State.bootEvents_within
    | with_reducible apply State.compactFull_within | with_reducible apply State.Within.ite | exact maskSub rfl hm
    | split | dsimp only
  all_goals with_reducible apply State.Within.other
  all_goals first | exact Or.inl rfl | exact Or.inl ⟨rfl, rfl⟩ | exact Or.inl ⟨rfl, rfl, rfl⟩ | exact Or.inr (maskSub rfl hm) | skip
  repeat' first
    | with_reducible assumption | (intro _) | with_reducible apply State.resulting_within
    | with_reducible apply State.flag_within | with_reducible apply State.showPins_within
    | with_reducible apply State.fillSlots_within | with_reducible apply State.measureRestore_within
    | with_reducible apply State.Within.each | with_reducible apply State.enterReset_within
    | with_reducible apply State.rebuildPlank_within | with_reducible apply State.bootEvents_within
    | with_reducible apply State.compactFull_within | with_reducible apply State.Within.ite | exact maskSub rfl hm
    | split | dsimp only

theorem State.presetCtr_within {μ : Nat} {s₀ s : State} (hf : State.Within μ s₀ s) (o : Nat) (w : Word) (hm :
    0x100000000000000000000000000000000000000000 ||| μ = μ) : State.Within μ s₀ (State.presetCtr s o w) := by
  unfold State.presetCtr
  repeat' first
    | with_reducible assumption | (intro _) | with_reducible apply State.setCtr_within
    | with_reducible apply State.Within.ite | exact maskSub rfl hm | split | dsimp only

theorem State.setBank_within {μ : Nat} {s₀ s : State} (hf : State.Within μ s₀ s) (b : Nat) (st : Nat) (holder : Nat)
    (hm : 0x4000000000000000000000000000000000000 ||| μ = μ) : State.Within μ s₀ (State.setBank s b st holder) := by
  unfold State.setBank
  repeat' first
    | with_reducible assumption | (intro _) | with_reducible apply State.put_within
    | with_reducible apply State.Within.ite | exact maskSub rfl hm | split | dsimp only

theorem State.copyBank_within {μ : Nat} {s₀ s : State} (hf : State.Within μ s₀ s) (b : Nat) (p : Nat → Bool) (hm
    : 0x600000000000000000000000000000000000000000 ||| μ = μ) :
    State.Within μ s₀ (State.copyBank s b p) := by
  unfold State.copyBank
  repeat' first
    | with_reducible assumption | (intro _) | with_reducible apply State.Within.ite | exact maskSub rfl hm | split
    | dsimp only
  all_goals with_reducible apply State.Within.other
  all_goals first | exact Or.inl rfl | exact Or.inl ⟨rfl, rfl⟩ | exact Or.inl ⟨rfl, rfl, rfl⟩ | exact Or.inr (maskSub rfl hm) | skip
  repeat' first
    | with_reducible assumption | (intro _) | with_reducible apply State.Within.ite | exact maskSub rfl hm | split
    | dsimp only

theorem State.trigger_within {μ : Nat} {s₀ s : State} (hf : State.Within μ s₀ s) (source : Nat) (holder : Option Nat)
    (hm : 0x8000070003c000000000000000000000000000000000000 ||| μ = μ) : State.Within μ s₀ (State.trigger s source
    holder) := by
  unfold State.trigger
  repeat' first
    | with_reducible assumption | (intro _) | with_reducible apply State.bump_within
    | with_reducible apply State.put_within | with_reducible apply State.copyBank_within
    | with_reducible apply State.setBank_within | with_reducible apply State.setWord_within
    | with_reducible apply State.Within.ite | exact maskSub rfl hm | split | dsimp only
  all_goals with_reducible apply State.Within.other
  all_goals first | exact Or.inl rfl | exact Or.inl ⟨rfl, rfl⟩ | exact Or.inl ⟨rfl, rfl, rfl⟩ | exact Or.inr (maskSub rfl hm) | skip
  repeat' first
    | with_reducible assumption | (intro _) | with_reducible apply State.bump_within
    | with_reducible apply State.put_within | with_reducible apply State.copyBank_within
    | with_reducible apply State.setBank_within | with_reducible apply State.setWord_within
    | with_reducible apply State.Within.ite | exact maskSub rfl hm | split | dsimp only

theorem State.captured_within {μ : Nat} {s₀ s : State} (hf : State.Within μ s₀ s) (hm :
    0x80000600024000000000000000000000000000000000000 ||| μ = μ) : State.Within μ s₀ (State.captured s) := by
  unfold State.captured
  repeat' first
    | with_reducible assumption | (intro _) | with_reducible apply State.copyBank_within
    | with_reducible apply State.put_within | with_reducible apply State.setBank_within
    | with_reducible apply State.Within.ite | exact maskSub rfl hm | split | dsimp only
  all_goals with_reducible apply State.Within.other
  all_goals first | exact Or.inl rfl | exact Or.inl ⟨rfl, rfl⟩ | exact Or.inl ⟨rfl, rfl, rfl⟩ | exact Or.inr (maskSub rfl hm) | skip
  repeat' first
    | with_reducible assumption | (intro _) | with_reducible apply State.copyBank_within
    | with_reducible apply State.put_within | with_reducible apply State.setBank_within
    | with_reducible apply State.Within.ite | exact maskSub rfl hm | split | dsimp only

theorem State.holdBank_within {μ : Nat} {s₀ s : State} (hf : State.Within μ s₀ s) (b : Nat) (holder : Nat) (hm :
    0x80000000004000000000000000000000000000000000000 ||| μ = μ) : State.Within μ s₀ (State.holdBank s b holder) := by
  unfold State.holdBank
  repeat' first
    | with_reducible assumption | (intro _) | with_reducible apply State.setBank_within
    | with_reducible apply State.Within.ite | exact maskSub rfl hm | split | dsimp only
  all_goals with_reducible apply State.Within.other
  all_goals first | exact Or.inl rfl | exact Or.inl ⟨rfl, rfl⟩ | exact Or.inl ⟨rfl, rfl, rfl⟩ | exact Or.inr (maskSub rfl hm) | skip
  repeat' first
    | with_reducible assumption | (intro _) | with_reducible apply State.setBank_within
    | with_reducible apply State.Within.ite | exact maskSub rfl hm | split | dsimp only

theorem State.releaseBank_within {μ : Nat} {s₀ s : State} (hf : State.Within μ s₀ s) (b : Nat) (hm :
    0x4000000000000000000000000000000000000 ||| μ = μ) : State.Within μ s₀ (State.releaseBank s b) := by
  unfold State.releaseBank
  repeat' first
    | with_reducible assumption | (intro _) | with_reducible apply State.setBank_within
    | with_reducible apply State.Within.ite | exact maskSub rfl hm | split | dsimp only

theorem State.endHolds_within {μ : Nat} {s₀ s : State} (hf : State.Within μ s₀ s) (holder : Nat) (hm :
    0x80000000004000000000000000000000000000000000000 ||| μ = μ) : State.Within μ s₀ (State.endHolds s holder) := by
  unfold State.endHolds
  repeat' first
    | with_reducible assumption | (intro _) | with_reducible apply State.Within.each
    | with_reducible apply State.setBank_within | with_reducible apply State.Within.ite | exact maskSub rfl hm | split
    | dsimp only
  all_goals with_reducible apply State.Within.other
  all_goals first | exact Or.inl rfl | exact Or.inl ⟨rfl, rfl⟩ | exact Or.inl ⟨rfl, rfl, rfl⟩ | exact Or.inr (maskSub rfl hm) | skip
  repeat' first
    | with_reducible assumption | (intro _) | with_reducible apply State.Within.each
    | with_reducible apply State.setBank_within | with_reducible apply State.Within.ite | exact maskSub rfl hm | split
    | dsimp only

theorem State.startPeriod_within {μ : Nat} {s₀ s : State} (hf : State.Within μ s₀ s) (hm :
    0x8000000000000000000000000000000000000000000 ||| μ = μ) : State.Within μ s₀ (State.startPeriod s) := by
  unfold State.startPeriod
  repeat' first
    | with_reducible assumption | (intro _) | with_reducible apply State.disarm_within
    | with_reducible apply State.arm_within | with_reducible apply State.Within.ite | exact maskSub rfl hm | split
    | dsimp only

theorem State.periodTrigger_within {μ : Nat} {s₀ s : State} (hf : State.Within μ s₀ s) (hm :
    0x800287c003c000000000000000000000000000000000000 ||| μ = μ) : State.Within μ s₀ (State.periodTrigger s) := by
  unfold State.periodTrigger
  repeat' first
    | with_reducible assumption | (intro _) | with_reducible apply State.onExpiry_within
    | with_reducible apply State.startPeriod_within | with_reducible apply State.trigger_within
    | with_reducible apply State.Within.ite | exact maskSub rfl hm | split | dsimp only

theorem State.plumbTrigger_within {μ : Nat} {s₀ s : State} (hf : State.Within μ s₀ s) (hm :
    0x8000070003c000000000000000000000000000000000000 ||| μ = μ) : State.Within μ s₀ (State.plumbTrigger s) := by
  unfold State.plumbTrigger
  repeat' first
    | with_reducible assumption | (intro _) | with_reducible apply State.trigger_within
    | with_reducible apply State.Within.ite | exact maskSub rfl hm | split | dsimp only

theorem State.judgeStored_within {μ : Nat} {s₀ s : State} (hf : State.Within μ s₀ s) (hm :
    0x8000000000000000000000000000000 ||| μ = μ) : State.Within μ s₀ (State.judgeStored s) := by
  unfold State.judgeStored
  repeat' first
    | with_reducible assumption | (intro _) | with_reducible apply State.put_within
    | with_reducible apply State.Within.ite | exact maskSub rfl hm | split | dsimp only

theorem State.storeWord_within {μ : Nat} {s₀ s : State} (hf : State.Within μ s₀ s) (k : Nat) (v : Dword) (hm :
    0x40000000000000008000000000000000000000000000000 ||| μ = μ) : State.Within μ s₀ (State.storeWord s k v) := by
  unfold State.storeWord
  repeat' first
    | with_reducible assumption | (intro _) | with_reducible apply State.modPlumb_within
    | with_reducible apply State.judgeStored_within | with_reducible apply State.put_within
    | with_reducible apply State.Within.ite | exact maskSub rfl hm | split | dsimp only

theorem State.openPass_within {μ : Nat} {s₀ s : State} (hf : State.Within μ s₀ s) (hm :
    0x40000000000000000000000000000000000000000000000 ||| μ = μ) : State.Within μ s₀ (State.openPass s) := by
  unfold State.openPass
  repeat' first
    | with_reducible assumption | (intro _) | with_reducible apply State.modPlumb_within
    | with_reducible apply State.Within.ite | exact maskSub rfl hm | split | dsimp only

theorem State.countInstr_within {μ : Nat} {s₀ s : State} (hf : State.Within μ s₀ s) (hm :
    0x40000000000000000000000000000000000000000000000 ||| μ = μ) : State.Within μ s₀ (State.countInstr s) := by
  unfold State.countInstr
  repeat' first
    | with_reducible assumption | (intro _) | with_reducible apply State.modPlumb_within
    | with_reducible apply State.Within.ite | exact maskSub rfl hm | split | dsimp only

theorem State.plumbStep_within {μ : Nat} {s₀ s : State} {g : State → State} (hf : State.Within μ s₀ s) (hg : ∀ t,
    State.Within μ s₀ t → State.Within μ s₀ (g t)) (hm : 0x40000000000000000000000000000000000000000000000 ||| μ = μ)
    : State.Within μ s₀ (State.plumbStep s g) := by
  unfold State.plumbStep
  repeat' first
    | with_reducible assumption | (intro _) | with_reducible apply State.openPass_within
    | with_reducible apply State.countInstr_within | with_reducible apply State.Within.ite | with_reducible apply hg
    | exact maskSub rfl hm | split | dsimp only

theorem State.plumbExec_within {μ : Nat} {s₀ s : State} (hf : State.Within μ s₀ s) (legal : Bool) (g : PlumbDyn →
    PlumbDyn) (hm : 0x40000100000000000000000000000000000000000000000 ||| μ = μ) : State.Within μ s₀ (State.plumbExec
    s legal g) := by
  unfold State.plumbExec
  repeat' first
    | with_reducible assumption | (intro _) | with_reducible apply State.plumbStep_within
    | with_reducible apply State.modPlumb_within | with_reducible apply State.bump_within
    | with_reducible apply State.Within.ite | exact maskSub rfl hm | split | dsimp only

theorem State.plumbHalt_within {μ : Nat} {s₀ s : State} (hf : State.Within μ s₀ s) (hm :
    0x40000000000000000000000000000000000000000000000 ||| μ = μ) : State.Within μ s₀ (State.plumbHalt s) := by
  unfold State.plumbHalt
  repeat' first
    | with_reducible assumption | (intro _) | with_reducible apply State.plumbStep_within
    | with_reducible apply State.modPlumb_within | with_reducible apply State.Within.ite | exact maskSub rfl hm
    | split | dsimp only

theorem State.plumbStore_within {μ : Nat} {s₀ s : State} (hf : State.Within μ s₀ s) (legal : Bool) (c : Nat) (mode :
    Nat) (k : Nat) (a : Nat) (hm : 0x40000100000000008000000000000000000000000000000 ||| μ = μ) : State.Within μ s₀
    (State.plumbStore s legal c mode k a) := by
  unfold State.plumbStore
  repeat' first
    | with_reducible assumption | (intro _) | with_reducible apply State.plumbStep_within
    | with_reducible apply State.bump_within | with_reducible apply State.storeWord_within
    | with_reducible apply State.Within.ite | exact maskSub rfl hm | split | dsimp only

theorem State.plumbInstr_within {μ : Nat} {s₀ s : State} (hf : State.Within μ s₀ s) (i : Instr) (hm :
    0x40000100000000008000000000000000000000000000000 ||| μ = μ) : State.Within μ s₀ (State.plumbInstr s i) := by
  unfold State.plumbInstr
  repeat' first
    | with_reducible assumption | (intro _) | with_reducible apply State.plumbHalt_within
    | with_reducible apply State.plumbExec_within | with_reducible apply State.plumbStore_within
    | with_reducible apply State.Within.ite | exact maskSub rfl hm | split | dsimp only

theorem State.runSlots_within {μ : Nat} {s₀ s : State} (hf : State.Within μ s₀ s) (x1 : Nat) (x2 : Nat) (hm :
    0x40000100000000008000000000000000000000000000000 ||| μ = μ) : State.Within μ s₀ (State.runSlots s x1 x2) := by
  induction x1 generalizing s x2 with
  | zero =>
    unfold State.runSlots
    repeat' first
      | with_reducible assumption | (intro _) | with_reducible apply State.plumbInstr_within
      | with_reducible apply State.plumbExec_within | with_reducible apply State.Within.ite | exact maskSub rfl hm
      | split | dsimp only
  | succ n ih =>
    unfold State.runSlots
    repeat' first
      | with_reducible assumption | (intro _) | with_reducible apply ih | with_reducible apply State.plumbInstr_within
      | with_reducible apply State.plumbExec_within | with_reducible apply State.Within.ite | exact maskSub rfl hm
      | split | dsimp only

theorem State.sleepNow_within {μ : Nat} {s₀ s : State} (hf : State.Within μ s₀ s) (r : Nat) (hm :
    0x800100000000000000010000000000000000000007800 ||| μ = μ) : State.Within μ s₀ (State.sleepNow s r) := by
  unfold State.sleepNow
  repeat' first
    | with_reducible assumption | (intro _) | with_reducible apply State.sleepBay_within
    | with_reducible apply State.setRegion_within | with_reducible apply State.Within.ite | exact maskSub rfl hm
    | split | dsimp only

theorem State.setThrottle_within {μ : Nat} {s₀ s : State} (hf : State.Within μ s₀ s) (hm :
    0x8105000890000000000017201000000000000000000000f800 ||| μ = μ) : State.Within μ s₀ (State.setThrottle s) := by
  unfold State.setThrottle
  repeat' first
    | with_reducible assumption | (intro _) | with_reducible apply State.put_within
    | with_reducible apply State.flag_within | with_reducible apply State.report_within
    | with_reducible apply State.Within.ite | exact maskSub rfl hm | split | dsimp only

theorem State.moveRegions_within {μ : Nat} {s₀ s : State} (hf : State.Within μ s₀ s) (hm :
    0x41040840100000000000000010000000000000000000407800 ||| μ = μ) : State.Within μ s₀ (State.moveRegions s) := by
  unfold State.moveRegions
  repeat' first
    | with_reducible assumption | (intro _) | with_reducible apply State.modPlumb_within
    | with_reducible apply State.Within.each | with_reducible apply State.leaveL1_within
    | with_reducible apply State.wakeRegion_within | with_reducible apply State.sleepNow_within
    | with_reducible apply State.Within.ite | exact maskSub rfl hm | split | dsimp only

theorem State.swapImages_within {μ : Nat} {s₀ s : State} (hf : State.Within μ s₀ s) (hm :
    0x40000100000000008000000000000000000000000000000 ||| μ = μ) : State.Within μ s₀ (State.swapImages s) := by
  unfold State.swapImages
  repeat' first
    | with_reducible assumption | (intro _) | with_reducible apply State.modPlumb_within
    | with_reducible apply State.put_within | with_reducible apply State.bump_within
    | with_reducible apply State.judgeStored_within | with_reducible apply State.Within.ite | exact maskSub rfl hm
    | split | dsimp only

theorem State.showPass_within {μ : Nat} {s₀ s : State} (hf : State.Within μ s₀ s) (hm :
    0xc28000000000000000000000000000000 ||| μ = μ) : State.Within μ s₀ (State.showPass s) := by
  unfold State.showPass
  repeat' first
    | with_reducible assumption | (intro _) | with_reducible apply State.put_within
    | with_reducible apply State.flag_within | with_reducible apply State.Within.each
    | with_reducible apply State.setWord_within | with_reducible apply State.Within.ite | exact maskSub rfl hm | split
    | dsimp only

theorem State.endPass_within {μ : Nat} {s₀ s : State} (hf : State.Within μ s₀ s) (hm :
    0x1dffffffbfa003fffffffffffffffffffffffffffffffffffff ||| μ = μ) : State.Within μ s₀ (State.endPass s) := by
  unfold State.endPass
  repeat' first
    | with_reducible assumption | (intro _) | with_reducible apply State.showPass_within
    | with_reducible apply State.bump_within | with_reducible apply State.setThrottle_within
    | with_reducible apply State.moveRegions_within | with_reducible apply State.Within.each
    | with_reducible apply State.report_within | with_reducible apply State.plumbTrigger_within
    | with_reducible apply State.flag_within | with_reducible apply State.swapImages_within
    | with_reducible apply State.modPlumb_within | with_reducible apply State.arm_within
    | with_reducible apply State.put_within | with_reducible apply State.askShutdown_within
    | with_reducible apply State.Within.ite | exact maskSub rfl hm | split | dsimp only

theorem State.latch_within {μ : Nat} {s₀ s : State} (hf : State.Within μ s₀ s) (x : PlumbInputs) (hm :
    0x140000000000000000000000000000000000000000000000 ||| μ = μ) : State.Within μ s₀ (State.latch s x) := by
  unfold State.latch
  repeat' first
    | with_reducible assumption | (intro _) | with_reducible apply State.modPlumb_within
    | with_reducible apply State.modPins_within | with_reducible apply State.Within.ite | exact maskSub rfl hm | split
    | dsimp only

theorem State.startPass_within {μ : Nat} {s₀ s : State} (hf : State.Within μ s₀ s) (x : PlumbInputs) (hm :
    0x1dffffffbfe003fffffffffffffffffffffffffffffffffffff ||| μ = μ) : State.Within μ s₀ (State.startPass s x) := by
  unfold State.startPass
  repeat' first
    | with_reducible assumption | (intro _) | with_reducible apply State.onExpiry_within
    | with_reducible apply State.endPass_within | with_reducible apply State.latch_within
    | with_reducible apply State.openPass_within | with_reducible apply State.arm_within
    | with_reducible apply State.runSlots_within | with_reducible apply State.Within.ite | exact maskSub rfl hm
    | split | dsimp only

end Sys2Proof.Machine
end

