-- ==== Sys2Proof/Laws/WithinRidge.lean ====
section
/-! SUPPORT. What the operations of recovery, Ridge and its SPDM responder leave alone
(State.Within): one lemma per operation. -/

namespace Sys2Proof.Machine

set_option linter.all false
set_option Elab.async false

theorem State.endDoe_within {μ : Nat} {s₀ s : State} (hf : State.Within μ s₀ s) (h : Nat) (hm :
    0x20000000000000000000000000000000000000000000000 ||| μ = μ) : State.Within μ s₀ (State.endDoe s h) := by
  unfold State.endDoe
  repeat' first
    | with_reducible assumption | (intro _) | with_reducible apply State.modRidge_within
    | with_reducible apply State.Within.ite | exact maskSub rfl hm | split | dsimp only

theorem State.endScope_within {μ : Nat} {s₀ s : State} (hf : State.Within μ s₀ s) (h : Nat) (hm :
    0xc5cffffb90003fffffffffffffffffffffffffffffffffffff ||| μ = μ) : State.Within μ s₀ (State.endScope s h) := by
  unfold State.endScope
  repeat' first
    | with_reducible assumption | (intro _) | with_reducible apply State.resetContext_within
    | with_reducible apply State.endHolds_within | with_reducible apply State.endDoe_within
    | with_reducible apply State.Within.ite | exact maskSub rfl hm | split | dsimp only

theorem State.hostDown_within {μ : Nat} {s₀ s : State} (hf : State.Within μ s₀ s) (h : Nat) (hm :
    0x1d5cffffb98003fffffffffffffffffffffffffffffffffffff ||| μ = μ) : State.Within μ s₀ (State.hostDown s h) := by
  unfold State.hostDown
  repeat' first
    | with_reducible assumption | (intro _) | with_reducible apply State.linkLost_within
    | with_reducible apply State.endScope_within | with_reducible apply State.Within.ite | exact maskSub rfl hm
    | split | dsimp only

theorem State.spoilSlot_within {μ : Nat} {s₀ s : State} (hf : State.Within μ s₀ s) (hm :
    0x40020000000000000000000000000000000000000000000000 ||| μ = μ) : State.Within μ s₀ (State.spoilSlot s) := by
  unfold State.spoilSlot
  repeat' first
    | with_reducible assumption | (intro _) | with_reducible apply State.freeWord_within
    | with_reducible apply State.modRidge_within | with_reducible refine State.Within.pair (by assumption) ?_
    | with_reducible apply State.Within.ite | exact maskSub rfl hm | split | dsimp only

theorem State.ridgeOff_within {μ : Nat} {s₀ s : State} (hf : State.Within μ s₀ s) (hm :
    0x40020008000000000000600000000000000000000000000800 ||| μ = μ) : State.Within μ s₀ (State.ridgeOff s) := by
  unfold State.ridgeOff
  repeat' first
    | with_reducible assumption | (intro _) | with_reducible apply State.spoilSlot_within
    | with_reducible apply State.put_within | with_reducible apply State.disarm_within
    | with_reducible apply State.modRidge_within | with_reducible apply State.Within.each
    | with_reducible apply State.setWord_within | with_reducible apply State.Within.ite | exact maskSub rfl hm | split
    | dsimp only

theorem State.freeze_within {μ : Nat} {s₀ s : State} (hf : State.Within μ s₀ s) (hm :
    0xc105b34890000000000004001000000c5ff840000500407a12 ||| μ = μ) : State.Within μ s₀ (State.freeze s) := by
  unfold State.freeze
  repeat' first
    | with_reducible assumption | (intro _) | with_reducible apply State.put_within
    | with_reducible apply State.rollBackAll_within | with_reducible apply State.modBrace_within
    | with_reducible apply State.Within.ite | exact maskSub rfl hm | split | dsimp only

theorem State.holdRidge_within {μ : Nat} {s₀ s : State} (hf : State.Within μ s₀ s) (hm :
    0xc107b34890000000000064401000000c5ff840000500407a12 ||| μ = μ) : State.Within μ s₀ (State.holdRidge s) := by
  unfold State.holdRidge
  repeat' first
    | with_reducible assumption | (intro _) | with_reducible apply State.ridgeOff_within
    | with_reducible apply State.freeze_within | with_reducible apply State.disarm_within
    | with_reducible apply State.put_within | with_reducible apply State.arm_within
    | with_reducible apply State.Within.ite | exact maskSub rfl hm | split | dsimp only

theorem State.degrade_within {μ : Nat} {s₀ s : State} (hf : State.Within μ s₀ s) (hm :
    0xc107b34890000000000077601000000c5ff840000500407a12 ||| μ = μ) : State.Within μ s₀ (State.degrade s) := by
  unfold State.degrade
  repeat' first
    | with_reducible assumption | (intro _) | with_reducible apply State.ridgeOff_within
    | with_reducible apply State.freeze_within | with_reducible apply State.disarm_within
    | with_reducible apply State.put_within | with_reducible apply State.modBrace_within
    | with_reducible apply State.report_within | with_reducible apply State.Within.ite | exact maskSub rfl hm | split
    | dsimp only

theorem State.ridgeFails_within {μ : Nat} {s₀ s : State} (hf : State.Within μ s₀ s) (n : Nat) (c : Nat) (cause : Nat)
    (locator : Word) (hm : 0xc107b34890000000000077601000000c5ff840000500407a12 ||| μ = μ) : State.Within μ s₀
    (State.ridgeFails s n c cause locator) := by
  unfold State.ridgeFails
  repeat' first
    | with_reducible assumption | (intro _) | with_reducible apply State.reportIn_within
    | with_reducible apply State.put_within | with_reducible apply State.report_within
    | with_reducible apply State.modRidge_within | with_reducible apply State.degrade_within
    | with_reducible apply State.holdRidge_within | with_reducible apply State.Within.ite | exact maskSub rfl hm
    | split | dsimp only

theorem State.plannedRestart_within {μ : Nat} {s₀ s : State} (hf : State.Within μ s₀ s) (hm :
    0xc107b34890000000000064401000000c5ff840000500407a12 ||| μ = μ) : State.Within μ s₀ (State.plannedRestart s) := by
  unfold State.plannedRestart
  repeat' first
    | with_reducible assumption | (intro _) | with_reducible apply State.modRidge_within
    | with_reducible apply State.holdRidge_within | with_reducible apply State.Within.ite | exact maskSub rfl hm
    | split | dsimp only

theorem State.ridgeRegs_within {μ : Nat} {s₀ s : State} (hf : State.Within μ s₀ s) (hm :
    0x200000000001c0000000000000000000000000000000000 ||| μ = μ) : State.Within μ s₀ (State.ridgeRegs s) := by
  unfold State.ridgeRegs
  repeat' first
    | with_reducible assumption | (intro _) | with_reducible apply State.put_within
    | with_reducible apply State.setWord_within | with_reducible apply State.flag_within
    | with_reducible apply State.modRidge_within | with_reducible apply State.Within.ite | exact maskSub rfl hm
    | split | dsimp only

theorem State.releaseRidge_within {μ : Nat} {s₀ s : State} (hf : State.Within μ s₀ s) (hm :
    0x200280c00001c0000004000000000000000000000000800 ||| μ = μ) : State.Within μ s₀ (State.releaseRidge s) := by
  unfold State.releaseRidge
  repeat' first
    | with_reducible assumption | (intro _) | with_reducible apply State.onExpiry_within
    | with_reducible apply State.put_within | with_reducible apply State.ridgeRegs_within
    | with_reducible apply State.arm_within | with_reducible apply State.Within.ite | exact maskSub rfl hm | split
    | dsimp only

theorem State.restartFailed_within {μ : Nat} {s₀ s : State} (hf : State.Within μ s₀ s) (hm :
    0xc107b3689c000000000077601000000c5ff840000500407a12 ||| μ = μ) : State.Within μ s₀ (State.restartFailed s) := by
  unfold State.restartFailed
  repeat' first
    | with_reducible assumption | (intro _) | with_reducible apply State.onExpiry_within
    | with_reducible apply State.ridgeFails_within | with_reducible apply State.report_within
    | with_reducible apply State.degrade_within | with_reducible apply State.holdRidge_within
    | with_reducible apply State.Within.ite | exact maskSub rfl hm | split | dsimp only

theorem State.takeAlive_within {μ : Nat} {s₀ s : State} (hf : State.Within μ s₀ s) (hm :
    0x20008000000080000444000000000000000000000000002 ||| μ = μ) : State.Within μ s₀ (State.takeAlive s) := by
  unfold State.takeAlive
  repeat' first
    | with_reducible assumption | (intro _) | with_reducible apply State.arm_within
    | with_reducible apply State.put_within | with_reducible apply State.disarm_within
    | with_reducible apply State.Within.each | with_reducible apply State.setWord_within
    | with_reducible apply State.modRidge_within | with_reducible apply State.Within.ite | exact maskSub rfl hm
    | split | dsimp only

theorem State.restartCountOver_within {μ : Nat} {s₀ s : State} (hf : State.Within μ s₀ s) (hm :
    0x280c0000000000004000000000000000000000000000 ||| μ = μ) : State.Within μ s₀ (State.restartCountOver s) := by
  unfold State.restartCountOver
  repeat' first
    | with_reducible assumption | (intro _) | with_reducible apply State.onExpiry_within
    | with_reducible apply State.put_within | with_reducible apply State.Within.ite | exact maskSub rfl hm | split
    | dsimp only

theorem State.checkerLost_within {μ : Nat} {s₀ s : State} (hf : State.Within μ s₀ s) (c : CheckerFault) (hm :
    0xc107b34890000008000077601000000c5ff840000500407a12 ||| μ = μ) : State.Within μ s₀ (State.checkerLost s c) := by
  unfold State.checkerLost
  repeat' first
    | with_reducible assumption | (intro _) | with_reducible apply State.put_within
    | with_reducible apply State.ridgeFails_within | with_reducible apply State.Within.ite | exact maskSub rfl hm
    | split | dsimp only

theorem State.selfTest_within {μ : Nat} {s₀ s : State} (hf : State.Within μ s₀ s) (passed : Bool) (hm :
    0xc107b34890000008000077601000000c5ff840000500407a12 ||| μ = μ) : State.Within μ s₀ (State.selfTest s passed) :=
    by
  unfold State.selfTest
  repeat' first
    | with_reducible assumption | (intro _) | with_reducible apply State.put_within
    | with_reducible apply State.arm_within | with_reducible apply State.checkerLost_within
    | with_reducible apply State.Within.ite | exact maskSub rfl hm | split | dsimp only

theorem State.selfTestLate_within {μ : Nat} {s₀ s : State} (hf : State.Within μ s₀ s) (hm :
    0xc107b3689c000008000077601000000c5ff840000500407a12 ||| μ = μ) : State.Within μ s₀ (State.selfTestLate s) := by
  unfold State.selfTestLate
  repeat' first
    | with_reducible assumption | (intro _) | with_reducible apply State.onExpiry_within
    | with_reducible apply State.put_within | with_reducible apply State.ridgeFails_within
    | with_reducible apply State.Within.ite | exact maskSub rfl hm | split | dsimp only

theorem State.watchdogOver_within {μ : Nat} {s₀ s : State} (hf : State.Within μ s₀ s) (hm :
    0xc107b3689c000000000077601000000c5ff840000500407a12 ||| μ = μ) : State.Within μ s₀ (State.watchdogOver s) := by
  unfold State.watchdogOver
  repeat' first
    | with_reducible assumption | (intro _) | with_reducible apply State.onExpiry_within
    | with_reducible apply State.ridgeFails_within | with_reducible apply State.Within.ite | exact maskSub rfl hm
    | split | dsimp only

theorem State.latchRngFailed_within {μ : Nat} {s₀ s : State} (hf : State.Within μ s₀ s) (hm :
    0x81050008900000040000172010000000000000000000007800 ||| μ = μ) : State.Within μ s₀ (State.latchRngFailed s) := by
  unfold State.latchRngFailed
  repeat' first
    | with_reducible assumption | (intro _) | with_reducible apply State.put_within
    | with_reducible apply State.modBrace_within | with_reducible apply State.report_within
    | with_reducible apply State.Within.ite | exact maskSub rfl hm | split | dsimp only

theorem State.stopGroup_within {μ : Nat} {s₀ s : State} (hf : State.Within μ s₀ s) (g : Nat) (hm :
    0xc104b04890000000000000001000000c5ff840000100407800 ||| μ = μ) : State.Within μ s₀ (State.stopGroup s g).2 := by
  unfold State.stopGroup
  repeat' first
    | with_reducible assumption | (intro _) | with_reducible apply State.Within.each
    | with_reducible apply State.errorHalt_within | with_reducible apply State.modEng_within
    | with_reducible apply State.Within.ite | exact maskSub rfl hm | split | dsimp only

theorem State.holdBay_within {μ : Nat} {s₀ s : State} (hf : State.Within μ s₀ s) (b : Nat) (st : Nat) (hm :
    0xc1c5bc4890000000000017201fe7c28c5ff840000100407800 ||| μ = μ) : State.Within μ s₀ (State.holdBay s b st) := by
  unfold State.holdBay
  repeat' first
    | with_reducible assumption | (intro _) | with_reducible apply State.bayDown_within
    | with_reducible apply State.setBayState_within | with_reducible apply State.clearBay_within
    | with_reducible apply State.Within.each | with_reducible apply State.modPort_within
    | with_reducible apply State.Within.ite | exact maskSub rfl hm | split | dsimp only

theorem State.loseGroup_within {μ : Nat} {s₀ s : State} (hf : State.Within μ s₀ s) (g : Nat) (hm
    : 0x2000100000000000000000000001f00000000000000000 ||| μ = μ) :
    State.Within μ s₀ (State.loseGroup s g) := by
  have hl : ∀ k ∈ [RegKind.TE_STATUS, .TE_PROGRESS, .TE_PACE, .TE_RDBUF, .TE_FAULT], k.bit ||| 0x2000100000000000000000000001f00000000000000000 = 0x2000100000000000000000000001f00000000000000000 := by decide
  unfold State.loseGroup
  repeat' first
    | with_reducible assumption | (intro _) | with_reducible apply State.Within.eachMem
    | exact maskSub (hl _ (by assumption)) hm | with_reducible apply State.zeroCtrs_within
    | with_reducible apply State.Within.each | with_reducible apply State.setWord_within
    | with_reducible apply State.setEng_within | with_reducible apply State.Within.ite | exact maskSub rfl hm | split
    | dsimp only

theorem State.railFails_within {μ : Nat} {s₀ s : State} (hf : State.Within μ s₀ s) (rail : Nat) (r : Nat) (hm :
    0x1dffffffbfa003fffffffffffffffffffffffffffffffffffff ||| μ = μ) : State.Within μ s₀ (State.railFails s rail r) :=
    by
  unfold State.railFails
  repeat' first
    | with_reducible assumption | (intro _) | with_reducible apply State.stopGroup_within
    | with_reducible apply State.setRegion_within | with_reducible apply State.loseGroup_within
    | with_reducible apply State.reportIn_within | with_reducible apply State.hostDown_within
    | with_reducible apply State.holdBay_within | with_reducible apply State.ridgeFails_within
    | with_reducible apply State.enterSafe_within | with_reducible refine State.Within.pair (by assumption) ?_
    | with_reducible apply State.Within.ite | exact maskSub rfl hm | split | dsimp only

theorem State.dropStream_within {μ : Nat} {s₀ s : State} (hf : State.Within μ s₀ s) (h : Nat) (i : Nat) (hm :
    0xc184bc4890000000000000001661c20c5ff840000100407800 ||| μ = μ) : State.Within μ s₀ (State.dropStream s h i) := by
  unfold State.dropStream
  repeat' first
    | with_reducible assumption | (intro _) | with_reducible apply State.setIde_within
    | with_reducible apply State.setSecure_within | with_reducible apply State.failStream_within
    | with_reducible apply State.Within.ite | exact maskSub rfl hm | split | dsimp only

theorem State.damage_within {μ : Nat} {s₀ s : State} (hf : State.Within μ s₀ s) (k : RegKind) (idx : Nat) (hm :
    0x4000000000000000000000000000000000000000000000000 ||| μ = μ) : State.Within μ s₀ (State.damage s k idx) := by
  unfold State.damage
  repeat' first
    | with_reducible assumption | (intro _) | with_reducible apply State.Within.ite | exact maskSub rfl hm | split
    | dsimp only
  all_goals with_reducible apply State.Within.other
  all_goals first | exact Or.inl rfl | exact Or.inl ⟨rfl, rfl⟩ | exact Or.inl ⟨rfl, rfl, rfl⟩ | exact Or.inr (maskSub rfl hm) | skip
  repeat' first
    | with_reducible assumption | (intro _) | with_reducible apply State.Within.ite | exact maskSub rfl hm | split
    | dsimp only

theorem State.holdFunction_within {μ : Nat} {s₀ s : State} (hf : State.Within μ s₀ s) (f : Nat) (hm :
    0x400304010000000000000000000000051c040000400000000 ||| μ = μ) : State.Within μ s₀ (State.holdFunction s f) := by
  unfold State.holdFunction
  repeat' first
    | with_reducible assumption | (intro _) | with_reducible apply State.damage_within
    | with_reducible apply State.put_within | with_reducible apply State.Within.each
    | with_reducible apply State.quiesceQueue_within | with_reducible apply State.Within.ite | exact maskSub rfl hm
    | split | dsimp only

theorem State.poison_within {μ : Nat} {s₀ s : State} (hf : State.Within μ s₀ s) (n : Nat) (hm : 0x3000000000000 ||| μ
    = μ) : State.Within μ s₀ (State.poison s n) := by
  unfold State.poison
  repeat' first
    | with_reducible assumption | (intro _) | with_reducible apply State.put_within
    | with_reducible apply State.Within.ite | exact maskSub rfl hm | split | dsimp only

theorem State.ledgerCe_within {μ : Nat} {s₀ s : State} (hf : State.Within μ s₀ s) (n : Nat) (hm :
    0x100000000000000000000000000001000000000000 ||| μ = μ) : State.Within μ s₀ (State.ledgerCe s n) := by
  unfold State.ledgerCe
  repeat' first
    | with_reducible assumption | (intro _) | with_reducible apply State.bump_within
    | with_reducible apply State.put_within | with_reducible apply State.Within.ite | exact maskSub rfl hm | split
    | dsimp only

theorem State.losePrt_within {μ : Nat} {s₀ s : State} (hf : State.Within μ s₀ s) (p : Nat) (hm :
    0xc584bc4890000000000000001601c08c5ff840000100407800 ||| μ = μ) : State.Within μ s₀ (State.losePrt s p) := by
  unfold State.losePrt
  repeat' first
    | with_reducible assumption | (intro _) | with_reducible apply State.damage_within
    | with_reducible apply State.endRequests_within | with_reducible apply State.Within.ite | exact maskSub rfl hm
    | split | dsimp only

theorem State.loseQueue_within {μ : Nat} {s₀ s : State} (hf : State.Within μ s₀ s) (q : Nat) (hm :
    0x30481000000000000000000000005fffe0000000000000 ||| μ = μ) : State.Within μ s₀ (State.loseQueue s q) := by
  unfold State.loseQueue
  repeat' first
    | with_reducible assumption | (intro _) | with_reducible apply State.bump_within
    | with_reducible apply State.drainEngine_within | with_reducible apply State.dropFetches_within
    | with_reducible apply State.resetQueue_within | with_reducible apply State.modQueue_within
    | with_reducible apply State.put_within | with_reducible apply State.Within.ite | exact maskSub rfl hm | split
    | dsimp only

theorem State.losePrefetch_within {μ : Nat} {s₀ s : State} (hf : State.Within μ s₀ s) (a : Nat) (hm :
    0xc104b04890000000000000001000000c5ff840000100407800 ||| μ = μ) : State.Within μ s₀ (State.losePrefetch s a) := by
  unfold State.losePrefetch
  repeat' first
    | with_reducible assumption | (intro _) | with_reducible apply State.Within.each
    | with_reducible apply State.modQueue_within | with_reducible apply State.kick_within
    | with_reducible apply State.Within.ite | exact maskSub rfl hm | split | dsimp only

theorem State.loseCompletion_within {μ : Nat} {s₀ s : State} (hf : State.Within μ s₀ s) (f : Nat) (a : Nat) (hm :
    0xc184bc4890000000000000001661c20c7ff840000100407800 ||| μ = μ) : State.Within μ s₀ (State.loseCompletion s f a)
    := by
  unfold State.loseCompletion
  repeat' first
    | with_reducible assumption | (intro _) | with_reducible apply State.hostCompletion_within
    | with_reducible apply State.Within.ite | exact maskSub rfl hm | split | dsimp only

theorem State.loseTable_within {μ : Nat} {s₀ s : State} (hf : State.Within μ s₀ s) (k : Nat) (hm :
    0x10000000000000000100000000000000000000000000000 ||| μ = μ) : State.Within μ s₀ (State.loseTable s k) := by
  unfold State.loseTable
  repeat' first
    | with_reducible assumption | (intro _) | with_reducible apply State.setWord_within
    | with_reducible apply State.modBrace_within | with_reducible apply State.Within.ite | exact maskSub rfl hm
    | split | dsimp only

theorem State.faultLine_within {μ : Nat} {s₀ s : State} (hf : State.Within μ s₀ s) (n : Nat) (c : Nat) (inst : Nat)
    (loc : Word) (chk : Word) (hm : 0x1dffffffbfa003fffffffffffffffffffffffffffffffffffff ||| μ = μ) : State.Within μ
    s₀ (State.faultLine s n c inst loc chk) := by
  unfold State.faultLine
  repeat' first
    | with_reducible assumption | (intro _) | with_reducible apply State.report_within
    | with_reducible apply State.enterSafe_within | with_reducible apply State.railFails_within
    | with_reducible apply State.ridgeFails_within | with_reducible apply State.degrade_within
    | with_reducible apply State.latchRngFailed_within | with_reducible apply State.hostDown_within
    | with_reducible apply State.loseCompletion_within | with_reducible apply State.Within.each
    | with_reducible apply State.dropStream_within | with_reducible apply State.holdFunction_within
    | with_reducible apply State.ledgerCe_within | with_reducible apply State.poison_within
    | with_reducible apply State.losePrt_within | with_reducible apply State.loseQueue_within
    | with_reducible apply State.losePrefetch_within | with_reducible apply State.engineFault_within
    | with_reducible apply State.damage_within | with_reducible apply State.loseUnit_within
    | with_reducible apply State.portDown_within | with_reducible apply State.holdBay_within
    | with_reducible apply State.bringUpLane_within | with_reducible apply State.bump_within
    | with_reducible apply State.modPeg_within | with_reducible apply State.loseTable_within
    | with_reducible apply State.askShutdown_within | with_reducible apply State.Within.ite | exact maskSub rfl hm
    | split | dsimp only

theorem State.scrub_within {μ : Nat} {s₀ s : State} (hf : State.Within μ s₀ s) (r : EccResult) (hm :
    0xcd85bc4890000000000017201601c08c5ff843000100407800 ||| μ = μ) : State.Within μ s₀ (State.scrub s r) := by
  unfold State.scrub
  repeat' first
    | with_reducible assumption | (intro _) | with_reducible apply State.ledgerCe_within
    | with_reducible apply State.report_within | with_reducible apply State.bump_within
    | with_reducible apply State.poison_within | with_reducible apply State.losePrt_within
    | with_reducible apply State.Within.ite | exact maskSub rfl hm | split | dsimp only
  all_goals with_reducible apply State.Within.other
  all_goals first | exact Or.inl rfl | exact Or.inl ⟨rfl, rfl⟩ | exact Or.inl ⟨rfl, rfl, rfl⟩ | exact Or.inr (maskSub rfl hm) | skip
  repeat' first
    | with_reducible assumption | (intro _) | with_reducible apply State.ledgerCe_within
    | with_reducible apply State.report_within | with_reducible apply State.bump_within
    | with_reducible apply State.poison_within | with_reducible apply State.losePrt_within
    | with_reducible apply State.Within.ite | exact maskSub rfl hm | split | dsimp only

theorem State.cutDrain_within {μ : Nat} {s₀ s : State} (hf : State.Within μ s₀ s) (e : Nat) (hm :
    0xc104b44890000000000000001000000c5ff840000100407800 ||| μ = μ) : State.Within μ s₀ (State.cutDrain s e) := by
  unfold State.cutDrain
  repeat' first
    | with_reducible assumption | (intro _) | with_reducible apply State.Within.each
    | with_reducible apply State.modHost_within | with_reducible apply State.modPort_within
    | with_reducible apply State.releaseEngine_within | with_reducible apply State.runWaiting_within
    | with_reducible apply State.Within.ite | exact maskSub rfl hm | split | dsimp only

theorem State.beginDomain_within {μ : Nat} {s₀ s : State} (hf : State.Within μ s₀ s) (d : Nat) (hm :
    0x1d5cffffb98003fffffffffffffffffffffffffffffffffffff ||| μ = μ) : State.Within μ s₀ (State.beginDomain s d) := by
  unfold State.beginDomain
  repeat' first
    | with_reducible assumption | (intro _) | with_reducible apply State.hostDown_within
    | with_reducible apply State.setHcrState_within | with_reducible apply State.startHcr_within
    | with_reducible apply State.afterDown_within | with_reducible apply State.resetBay_within
    | with_reducible apply State.holdBay_within | with_reducible apply State.bump_within
    | with_reducible apply State.Within.each | with_reducible apply State.cutDrain_within
    | with_reducible apply State.setEgState_within | with_reducible apply State.Within.ite | exact maskSub rfl hm
    | split | dsimp only

theorem State.startRecovery_within {μ : Nat} {s₀ s : State} (hf : State.Within μ s₀ s) (hm :
    0x1d5cffffb98003fffffffffffffffffffffffffffffffffffff ||| μ = μ) : State.Within μ s₀ (State.startRecovery s) := by
  unfold State.startRecovery
  repeat' first
    | with_reducible assumption | (intro _) | with_reducible apply State.modBrace_within
    | with_reducible apply State.put_within | with_reducible apply State.beginDomain_within
    | with_reducible apply State.Within.ite | exact maskSub rfl hm | split | dsimp only

theorem State.holdDomain_within {μ : Nat} {s₀ s : State} (hf : State.Within μ s₀ s) (d : Nat) (hm :
    0x1d5cffffb98003fffffffffffffffffffffffffffffffffffff ||| μ = μ) : State.Within μ s₀ (State.holdDomain s d) := by
  unfold State.holdDomain
  repeat' first
    | with_reducible assumption | (intro _) | with_reducible apply State.hostDown_within
    | with_reducible apply State.portDown_within | with_reducible apply State.disarm_within
    | with_reducible apply State.holdBay_within | with_reducible apply State.setEgState_within
    | with_reducible apply State.Within.ite | exact maskSub rfl hm | split | dsimp only

theorem State.restoreGroup_within {μ : Nat} {s₀ s : State} (hf : State.Within μ s₀ s) (g : Nat) (hm :
    0x2000000000000000000000000000000000000000001000 ||| μ = μ) : State.Within μ s₀ (State.restoreGroup s g) := by
  unfold State.restoreGroup
  repeat' first
    | with_reducible assumption | (intro _) | with_reducible apply State.Within.each
    | with_reducible apply State.setEng_within | with_reducible apply State.setEgState_within
    | with_reducible apply State.Within.ite | exact maskSub rfl hm | split | dsimp only

theorem State.endRecovery_within {μ : Nat} {s₀ s : State} (hf : State.Within μ s₀ s) (passed : Bool) (hm :
    0x1d5cffffb98003fffffffffffffffffffffffffffffffffffff ||| μ = μ) : State.Within μ s₀ (State.endRecovery s passed)
    := by
  unfold State.endRecovery
  repeat' first
    | with_reducible assumption | (intro _) | with_reducible apply State.modBrace_within
    | with_reducible apply State.flag_within | with_reducible apply State.holdDomain_within
    | with_reducible apply State.put_within | with_reducible apply State.restoreGroup_within
    | with_reducible apply State.Within.ite | exact maskSub rfl hm | split | dsimp only

theorem State.release_within {μ : Nat} {s₀ s : State} (hf : State.Within μ s₀ s) (d : Nat) (hm :
    0x10008100000000000142000000000000000000000000000 ||| μ = μ) : State.Within μ s₀ (State.release s d) := by
  unfold State.release
  repeat' first
    | with_reducible assumption | (intro _) | with_reducible apply State.forget_within
    | with_reducible apply State.bump_within | with_reducible apply State.addHist_within
    | with_reducible apply State.enqueueDomain_within | with_reducible refine State.Within.pair (by assumption) ?_
    | with_reducible apply State.Within.ite | exact maskSub rfl hm | split | dsimp only

theorem State.windowOver_within {μ : Nat} {s₀ s : State} (hf : State.Within μ s₀ s) (n : Nat) (c : Nat) (inst : Nat)
    (hm : 0x100280c0000000000000000000000000000000000000000 ||| μ = μ) : State.Within μ s₀ (State.windowOver s n c
    inst) := by
  unfold State.windowOver
  repeat' first
    | with_reducible assumption | (intro _) | with_reducible apply State.onExpiry_within
    | with_reducible apply State.forget_within | with_reducible apply State.Within.ite | exact maskSub rfl hm | split
    | dsimp only

theorem State.clearDetail_within {μ : Nat} {s₀ s : State} (hf : State.Within μ s₀ s) (n : Nat) (mask : Word) (hm :
    0x10008000000000000030000000000000000000000000000 ||| μ = μ) : State.Within μ s₀ (State.clearDetail s n mask) :=
    by
  unfold State.clearDetail
  repeat' first
    | with_reducible assumption | (intro _) | with_reducible apply State.setWord_within
    | with_reducible apply State.forget_within | with_reducible apply State.Within.each
    | with_reducible apply State.setDetail_within | with_reducible apply State.Within.ite | exact maskSub rfl hm
    | split | dsimp only

theorem State.bootMeasure_within {μ : Nat} {s₀ s : State} (hf : State.Within μ s₀ s) (hm :
    0x20000000000040000000000000000000000000000000000 ||| μ = μ) : State.Within μ s₀ (State.bootMeasure s) := by
  unfold State.bootMeasure
  repeat' first
    | with_reducible assumption | (intro _) | with_reducible apply State.Within.each
    | with_reducible apply State.modRidge_within | with_reducible apply State.put_within
    | with_reducible apply State.Within.ite | exact maskSub rfl hm | split | dsimp only

theorem State.extendMeas_within {μ : Nat} {s₀ s : State} (hf : State.Within μ s₀ s) (k : Nat) (x : BitVec 384) (hm :
    0x20000000000000000000000000000000000000000000000 ||| μ = μ) : State.Within μ s₀ (State.extendMeas s k x) := by
  unfold State.extendMeas
  repeat' first
    | with_reducible assumption | (intro _) | with_reducible apply State.modRidge_within
    | with_reducible apply State.Within.ite | exact maskSub rfl hm | split | dsimp only

theorem State.mbAnswer_within {μ : Nat} {s₀ s : State} (hf : State.Within μ s₀ s) (h : Nat) (op : Nat) (result : Nat)
    (rsp : List Byte) (hm : 0x20000000000000000000000000000000000000000000000 ||| μ = μ) : State.Within μ s₀
    (State.mbAnswer s h op result rsp) := by
  unfold State.mbAnswer
  repeat' first
    | with_reducible assumption | (intro _) | with_reducible apply State.modRidge_within
    | with_reducible apply State.Within.ite | exact maskSub rfl hm | split | dsimp only

theorem State.endRandom_within {μ : Nat} {s₀ s : State} (hf : State.Within μ s₀ s) (hm :
    0x20000100000000000000000000000000000000000000000 ||| μ = μ) : State.Within μ s₀ (State.endRandom s) := by
  unfold State.endRandom
  repeat' first
    | with_reducible assumption | (intro _) | with_reducible apply State.Within.each
    | with_reducible apply State.mbAnswer_within | with_reducible apply State.bump_within
    | with_reducible apply State.Within.ite | exact maskSub rfl hm | split | dsimp only

theorem State.rngFail_within {μ : Nat} {s₀ s : State} (hf : State.Within μ s₀ s) (src : Nat) (test : Nat) (hm :
    0x81070008900000140000172010000000000000000000007800 ||| μ = μ) : State.Within μ s₀ (State.rngFail s src test) :=
    by
  unfold State.rngFail
  repeat' first
    | with_reducible assumption | (intro _) | with_reducible apply State.put_within
    | with_reducible apply State.bump_within | with_reducible apply State.modRidge_within
    | with_reducible apply State.endRandom_within | with_reducible apply State.latchRngFailed_within
    | with_reducible apply State.Within.ite | exact maskSub rfl hm | split | dsimp only

theorem State.rngPass_within {μ : Nat} {s₀ s : State} (hf : State.Within μ s₀ s) (src : Nat) (hm :
    0x20000000000140000000000000000000000000000000000 ||| μ = μ) : State.Within μ s₀ (State.rngPass s src) := by
  unfold State.rngPass
  repeat' first
    | with_reducible assumption | (intro _) | with_reducible apply State.put_within
    | with_reducible apply State.modRidge_within | with_reducible apply State.Within.ite | exact maskSub rfl hm
    | split | dsimp only

theorem State.reseed_within {μ : Nat} {s₀ s : State} (hf : State.Within μ s₀ s) (hm :
    0x20000100000000000000000000000000000000000000000 ||| μ = μ) : State.Within μ s₀ (State.reseed s) := by
  unfold State.reseed
  repeat' first
    | with_reducible assumption | (intro _) | with_reducible apply State.bump_within
    | with_reducible apply State.modRidge_within | with_reducible apply State.Within.ite | exact maskSub rfl hm
    | split | dsimp only

theorem State.generate_within {μ : Nat} {s₀ s : State} (hf : State.Within μ s₀ s) (n : Nat) (hm :
    0x40020000100000000000000000000000000000000000000000 ||| μ = μ) : State.Within μ s₀ (State.generate s n).2 := by
  unfold State.generate
  repeat' first
    | with_reducible assumption | (intro _) | with_reducible apply State.reseed_within
    | with_reducible apply State.modRidge_within | with_reducible apply State.freeBytes_within
    | with_reducible refine State.Within.pair (by assumption) ?_ | with_reducible apply State.Within.ite
    | exact maskSub rfl hm | split | dsimp only

theorem State.answer_within {μ : Nat} {s₀ s : State} (hf : State.Within μ s₀ s) (c : Caller) (op : Nat) (result : Nat)
    (rsp : List Byte) (hm : 0x80020000000000000000000000000000000000000000000000 ||| μ = μ) : State.Within μ s₀
    (State.answer s c op result rsp) := by
  unfold State.answer
  repeat' first
    | with_reducible assumption | (intro _) | with_reducible apply State.mbAnswer_within
    | with_reducible apply State.emit_within | with_reducible apply State.Within.ite | exact maskSub rfl hm | split
    | dsimp only

theorem State.command_within {μ : Nat} {s₀ s : State} {run : State → List Byte → Nat × List Byte × State} (hf :
    State.Within μ s₀ s) (hrun : ∀ t b, State.Within μ s₀ t → State.Within μ s₀ (run t b).2.2) (c : Caller) (op : Nat)
    (allowed : Bool) (fits : Nat → Bool) (hm : 0x80020000000000000000000000000000000000000000000000 ||| μ = μ) :
    State.Within μ s₀ (State.command s c op allowed fits run) := by
  unfold State.command
  repeat' first
    | with_reducible assumption | (intro _) | with_reducible apply State.answer_within
    | with_reducible apply State.Within.ite | with_reducible apply hrun | exact maskSub rfl hm | split | dsimp only

theorem State.getInfo_within {μ : Nat} {s₀ s : State} (hf : State.Within μ s₀ s) (y1 : List Byte) (hm :
    0x40000000000000000000000000000000000000000000000000 ||| μ = μ) : State.Within μ s₀ (State.getInfo s y1).2.2 := by
  unfold State.getInfo
  repeat' first
    | with_reducible assumption | (intro _) | with_reducible apply State.freeBytes_within
    | with_reducible refine State.Within.pair (by assumption) ?_ | with_reducible apply State.Within.ite
    | exact maskSub rfl hm | split | dsimp only

theorem State.getCertChain_within {μ : Nat} {s₀ s : State} (hf : State.Within μ s₀ s) (req : List Byte) : State.Within
    μ s₀ (State.getCertChain s req).2.2 := by
  unfold State.getCertChain
  repeat' first
    | with_reducible assumption | (intro _) | with_reducible apply State.Within.ite | exact maskSub rfl hm | split
    | dsimp only

theorem State.getRandom_within {μ : Nat} {s₀ s : State} (hf : State.Within μ s₀ s) (req : List Byte) (hm :
    0x40020000100000000000000000000000000000000000000000 ||| μ = μ) : State.Within μ s₀ (State.getRandom s req).2.2 :=
    by
  unfold State.getRandom
  repeat' first
    | with_reducible assumption | (intro _) | with_reducible apply State.bump_within
    | with_reducible apply State.generate_within | with_reducible refine State.Within.pair (by assumption) ?_
    | with_reducible apply State.Within.ite | exact maskSub rfl hm | split | dsimp only

theorem State.fwBegin_within {μ : Nat} {s₀ s : State} (hf : State.Within μ s₀ s) (k : Nat) (req : List Byte) (hm :
    0x20000000000000000000000000000000000000000000000 ||| μ = μ) : State.Within μ s₀ (State.fwBegin k s req).2.2 := by
  unfold State.fwBegin
  repeat' first
    | with_reducible assumption | (intro _) | with_reducible apply State.modRidge_within
    | with_reducible apply State.Within.ite | exact maskSub rfl hm | split | dsimp only

theorem State.fwWrite_within {μ : Nat} {s₀ s : State} (hf : State.Within μ s₀ s) (k : Nat) (req : List Byte) (hm :
    0x20000000000000000000000000000000000000000000000 ||| μ = μ) : State.Within μ s₀ (State.fwWrite k s req).2.2 := by
  unfold State.fwWrite
  repeat' first
    | with_reducible assumption | (intro _) | with_reducible apply State.modRidge_within
    | with_reducible apply State.Within.ite | exact maskSub rfl hm | split | dsimp only

theorem State.fwFinish_within {μ : Nat} {s₀ s : State} (hf : State.Within μ s₀ s) (k : Nat) (y2 : List Byte) (hm :
    0x20000000000000000000000000000000000000000000000 ||| μ = μ) : State.Within μ s₀ (State.fwFinish k s y2).2.2 := by
  unfold State.fwFinish
  repeat' first
    | with_reducible assumption | (intro _) | with_reducible apply State.modRidge_within
    | with_reducible apply State.Within.ite | exact maskSub rfl hm | split | dsimp only

theorem State.fwActivate_within {μ : Nat} {s₀ s : State} (hf : State.Within μ s₀ s) (k : Nat) (y2 : List Byte) (hm :
    0x20000000000000000000000000000000000000000000000 ||| μ = μ) : State.Within μ s₀ (State.fwActivate k s y2).2.2 :=
    by
  unfold State.fwActivate
  repeat' first
    | with_reducible assumption | (intro _) | with_reducible apply State.modRidge_within
    | with_reducible apply State.Within.ite | exact maskSub rfl hm | split | dsimp only

theorem State.fwCancel_within {μ : Nat} {s₀ s : State} (hf : State.Within μ s₀ s) (k : Nat) (y2 : List Byte) (hm :
    0x20000000000000000000000000000000000000000000000 ||| μ = μ) : State.Within μ s₀ (State.fwCancel k s y2).2.2 := by
  unfold State.fwCancel
  repeat' first
    | with_reducible assumption | (intro _) | with_reducible apply State.modRidge_within
    | with_reducible apply State.Within.ite | exact maskSub rfl hm | split | dsimp only

theorem State.askRestart_within {μ : Nat} {s₀ s : State} (hf : State.Within μ s₀ s) (c : Caller) (hm :
    0xc107b34890000000000064401000000c5ff840000500407a12 ||| μ = μ) : State.Within μ s₀ (State.askRestart s c) := by
  unfold State.askRestart
  repeat' first
    | with_reducible assumption | (intro _) | with_reducible apply State.command_within
    | with_reducible apply State.plannedRestart_within | with_reducible apply State.Within.ite | exact maskSub rfl hm
    | split | dsimp only

theorem State.loadRsp_within {μ : Nat} {s₀ s : State} (hf : State.Within μ s₀ s) (h : Nat) (bs : List Byte) (hm :
    0x2000000000000000000000000000000 ||| μ = μ) : State.Within μ s₀ (State.loadRsp s h bs) := by
  unfold State.loadRsp
  repeat' first
    | with_reducible assumption | (intro _) | with_reducible apply State.Within.each
    | with_reducible apply State.setWord_within | with_reducible apply State.Within.ite | exact maskSub rfl hm | split
    | dsimp only

theorem State.mbDone_within {μ : Nat} {s₀ s : State} (hf : State.Within μ s₀ s) (h : Nat) (result : Nat) (rsp : List
    Byte) (hm : 0xc0020042900000000002600000000000000000000100400800 ||| μ = μ) : State.Within μ s₀ (State.mbDone s h
    result rsp) := by
  unfold State.mbDone
  repeat' first
    | with_reducible assumption | (intro _) | with_reducible apply State.modRidge_within
    | with_reducible apply State.loadRsp_within | with_reducible apply State.put_within
    | with_reducible apply State.deliverMsix_within | with_reducible apply State.wakeFor_within
    | with_reducible refine State.Within.pair (by assumption) ?_ | with_reducible apply State.Within.ite
    | exact maskSub rfl hm | split | dsimp only

theorem State.mbGo_within {μ : Nat} {s₀ s : State} (hf : State.Within μ s₀ s) (h : Nat) (hm :
    0x600000000000000000000000000000 ||| μ = μ) : State.Within μ s₀ (State.mbGo s h) := by
  unfold State.mbGo
  repeat' first
    | with_reducible assumption | (intro _) | with_reducible apply State.put_within
    | with_reducible apply State.Within.ite | exact maskSub rfl hm | split | dsimp only

theorem State.mbFinish_within {μ : Nat} {s₀ s : State} (hf : State.Within μ s₀ s) (h : Nat) (hm :
    0xc107b34a90000000000264401000000c5ff840000500407a12 ||| μ = μ) : State.Within μ s₀ (State.mbFinish s h) := by
  unfold State.mbFinish
  repeat' first
    | with_reducible assumption | (intro _) | with_reducible apply State.mbDone_within
    | with_reducible apply State.modRidge_within | with_reducible apply State.plannedRestart_within
    | with_reducible apply State.Within.ite | exact maskSub rfl hm | split | dsimp only

theorem State.mbAbort_within {μ : Nat} {s₀ s : State} (hf : State.Within μ s₀ s) (h : Nat) (hm :
    0xc0020042900000000002600000000000000000000100400800 ||| μ = μ) : State.Within μ s₀ (State.mbAbort s h) := by
  unfold State.mbAbort
  repeat' first
    | with_reducible assumption | (intro _) | with_reducible apply State.put_within
    | with_reducible apply State.mbDone_within | with_reducible apply State.Within.ite | exact maskSub rfl hm | split
    | dsimp only

theorem State.setEid_within {μ : Nat} {s₀ s : State} (hf : State.Within μ s₀ s) (e : Nat) (hm :
    0x80020000000000000000000000000000000000000000000000 ||| μ = μ) : State.Within μ s₀ (State.setEid s e) := by
  unfold State.setEid
  repeat' first
    | with_reducible assumption | (intro _) | with_reducible apply State.emit_within
    | with_reducible apply State.modRidge_within | with_reducible apply State.Within.ite | exact maskSub rfl hm
    | split | dsimp only

theorem State.mctpAnswer_within {μ : Nat} {s₀ s : State} (hf : State.Within μ s₀ s) (r : MctpRsp) (hm :
    0x80000000000000000000000000000000000000000000000000 ||| μ = μ) : State.Within μ s₀ (State.mctpAnswer s r) := by
  unfold State.mctpAnswer
  repeat' first
    | with_reducible assumption | (intro _) | with_reducible apply State.emit_within
    | with_reducible apply State.Within.ite | exact maskSub rfl hm | split | dsimp only

theorem State.setConn_within {μ : Nat} {s₀ s : State} (hf : State.Within μ s₀ s) (t : Transport) (c : SpdmConn) (hm :
    0x20000000000000000000000000000000000000000000000 ||| μ = μ) : State.Within μ s₀ (State.setConn s t c) := by
  unfold State.setConn
  repeat' first
    | with_reducible assumption | (intro _) | with_reducible apply State.modRidge_within
    | with_reducible apply State.Within.ite | exact maskSub rfl hm | split | dsimp only

theorem State.respond_within {μ : Nat} {s₀ s : State} (hf : State.Within μ s₀ s) (t : Transport) (r : SpdmRsp) (hm :
    0x80000040000000000000000000000000000000000000000000 ||| μ = μ) : State.Within μ s₀ (State.respond s t r) := by
  unfold State.respond
  repeat' first
    | with_reducible assumption | (intro _) | with_reducible apply State.modHost_within
    | with_reducible apply State.emit_within | with_reducible apply State.Within.ite | exact maskSub rfl hm | split
    | dsimp only

theorem State.spdm_within {μ : Nat} {s₀ s : State} {run : State → State} (hf : State.Within μ s₀ s) (hrun : ∀ t,
    State.Within μ s₀ t → State.Within μ s₀ (run t)) (t : Transport) (min : Nat) (hm :
    0x80000040000000000000000000000000000000000000000000 ||| μ = μ) : State.Within μ s₀ (State.spdm s t min run) := by
  unfold State.spdm
  repeat' first
    | with_reducible assumption | (intro _) | with_reducible apply State.respond_within
    | with_reducible apply State.Within.ite | with_reducible apply hrun | exact maskSub rfl hm | split | dsimp only

theorem State.spdmVersion_within {μ : Nat} {s₀ s : State} (hf : State.Within μ s₀ s) (t : Transport) (hm :
    0x80020040000000000000000000000000000000000000000000 ||| μ = μ) : State.Within μ s₀ (State.spdmVersion s t) := by
  unfold State.spdmVersion
  repeat' first
    | with_reducible assumption | (intro _) | with_reducible apply State.spdm_within
    | with_reducible apply State.setConn_within | with_reducible apply State.respond_within
    | with_reducible apply State.Within.ite | exact maskSub rfl hm | split | dsimp only

theorem State.spdmStage_within {μ : Nat} {s₀ s : State} (hf : State.Within μ s₀ s) (t : Transport) (stage : Nat) (r :
    SpdmRsp) (hm : 0x80020040000000000000000000000000000000000000000000 ||| μ = μ) : State.Within μ s₀
    (State.spdmStage s t stage r) := by
  unfold State.spdmStage
  repeat' first
    | with_reducible assumption | (intro _) | with_reducible apply State.spdm_within
    | with_reducible apply State.setConn_within | with_reducible apply State.respond_within
    | with_reducible apply State.Within.ite | exact maskSub rfl hm | split | dsimp only

theorem State.spdmDigests_within {μ : Nat} {s₀ s : State} (hf : State.Within μ s₀ s) (t : Transport) (hm :
    0x80000040000000000000000000000000000000000000000000 ||| μ = μ) : State.Within μ s₀ (State.spdmDigests s t) := by
  unfold State.spdmDigests
  repeat' first
    | with_reducible assumption | (intro _) | with_reducible apply State.spdm_within
    | with_reducible apply State.respond_within | with_reducible apply State.Within.ite | exact maskSub rfl hm | split
    | dsimp only

theorem State.spdmCertificate_within {μ : Nat} {s₀ s : State} (hf : State.Within μ s₀ s) (t : Transport) (slot : Nat)
    (off : Nat) (len : Nat) (hm : 0x80020040000000000000000000000000000000000000000000 ||| μ = μ) : State.Within μ s₀
    (State.spdmCertificate s t slot off len) := by
  unfold State.spdmCertificate
  repeat' first
    | with_reducible assumption | (intro _) | with_reducible apply State.spdm_within
    | with_reducible apply State.respond_within | with_reducible apply State.setConn_within
    | with_reducible apply State.Within.ite | exact maskSub rfl hm | split | dsimp only

theorem State.refuse_within {μ : Nat} {s₀ s : State} (hf : State.Within μ s₀ s) (t : Transport) (e : SpdmError) (hm :
    0x80000040100000000000000000000000000000000000000000 ||| μ = μ) : State.Within μ s₀ (State.refuse s t e) := by
  unfold State.refuse
  repeat' first
    | with_reducible assumption | (intro _) | with_reducible apply State.bump_within
    | with_reducible apply State.respond_within | with_reducible apply State.Within.ite | exact maskSub rfl hm | split
    | dsimp only

theorem State.signed_within {μ : Nat} {s₀ s : State} {k : List Byte → List Byte → State → State} (hf : State.Within μ
    s₀ s) (hk : ∀ a b t, State.Within μ s₀ t → State.Within μ s₀ (k a b t)) (hm :
    0x40020000100000000000000000000000000000000000000000 ||| μ = μ) : State.Within μ s₀ (State.signed s k) := by
  unfold State.signed
  repeat' first
    | with_reducible assumption | (intro _) | with_reducible apply State.generate_within
    | with_reducible apply State.freeBytes_within | with_reducible refine State.Within.pair (by assumption) ?_
    | with_reducible apply State.Within.ite | with_reducible apply hk | exact maskSub rfl hm | split | dsimp only

theorem State.spdmChallenge_within {μ : Nat} {s₀ s : State} (hf : State.Within μ s₀ s) (t : Transport) (slot : Nat)
    (hm : 0xc0020040100000000000000000000000000000000000000000 ||| μ = μ) : State.Within μ s₀ (State.spdmChallenge s t
    slot) := by
  unfold State.spdmChallenge
  repeat' first
    | with_reducible assumption | (intro _) | with_reducible apply State.spdm_within
    | with_reducible apply State.respond_within | with_reducible apply State.refuse_within
    | with_reducible apply State.signed_within | with_reducible apply State.Within.ite | exact maskSub rfl hm | split
    | dsimp only

theorem State.spdmMeasurements_within {μ : Nat} {s₀ s : State} (hf : State.Within μ s₀ s) (t : Transport) (i : Nat)
    (sign : Bool) (hm : 0xc0020040100000000000000000000000000000000000000000 ||| μ = μ) : State.Within μ s₀
    (State.spdmMeasurements s t i sign) := by
  unfold State.spdmMeasurements
  repeat' first
    | with_reducible assumption | (intro _) | with_reducible apply State.spdm_within
    | with_reducible apply State.respond_within | with_reducible apply State.refuse_within
    | with_reducible apply State.signed_within | with_reducible apply State.Within.ite | exact maskSub rfl hm | split
    | dsimp only

theorem State.spdmKeyExchange_within {μ : Nat} {s₀ s : State} (hf : State.Within μ s₀ s) (t : Transport) (slot : Nat)
    (hm : 0xc0020040100000000000000000000000000000000000000000 ||| μ = μ) : State.Within μ s₀ (State.spdmKeyExchange s
    t slot) := by
  unfold State.spdmKeyExchange
  repeat' first
    | with_reducible assumption | (intro _) | with_reducible apply State.spdm_within
    | with_reducible apply State.respond_within | with_reducible apply State.refuse_within
    | with_reducible apply State.generate_within | with_reducible apply State.signed_within
    | with_reducible apply State.modRidge_within | with_reducible refine State.Within.pair (by assumption) ?_
    | with_reducible apply State.Within.ite | exact maskSub rfl hm | split | dsimp only

theorem State.inSession_within {μ : Nat} {s₀ s : State} {run : State → State} (hf : State.Within μ s₀ s) (hrun : ∀ t,
    State.Within μ s₀ t → State.Within μ s₀ (run t)) (t : Transport) (id : Nat) (established : Bool) (hm :
    0x80000040000000000000000000000000000000000000000000 ||| μ = μ) : State.Within μ s₀ (State.inSession s t id
    established run) := by
  unfold State.inSession
  repeat' first
    | with_reducible assumption | (intro _) | with_reducible apply State.spdm_within
    | with_reducible apply State.respond_within | with_reducible apply State.Within.ite | with_reducible apply hrun
    | exact maskSub rfl hm | split | dsimp only

theorem State.spdmFinish_within {μ : Nat} {s₀ s : State} (hf : State.Within μ s₀ s) (t : Transport) (id : Nat) (hm :
    0x80020040000000000000000000000000000000000000000000 ||| μ = μ) : State.Within μ s₀ (State.spdmFinish s t id) :=
    by
  unfold State.spdmFinish
  repeat' first
    | with_reducible assumption | (intro _) | with_reducible apply State.inSession_within
    | with_reducible apply State.modRidge_within | with_reducible apply State.respond_within
    | with_reducible apply State.Within.ite | exact maskSub rfl hm | split | dsimp only

theorem State.spdmHeartbeat_within {μ : Nat} {s₀ s : State} (hf : State.Within μ s₀ s) (t : Transport) (id : Nat) (hm
    : 0x80000040000000000000000000000000000000000000000000 ||| μ = μ) : State.Within μ s₀ (State.spdmHeartbeat s t id)
    := by
  unfold State.spdmHeartbeat
  repeat' first
    | with_reducible assumption | (intro _) | with_reducible apply State.inSession_within
    | with_reducible apply State.respond_within | with_reducible apply State.Within.ite | exact maskSub rfl hm | split
    | dsimp only

theorem State.spdmKeyUpdate_within {μ : Nat} {s₀ s : State} (hf : State.Within μ s₀ s) (t : Transport) (id : Nat) (hm
    : 0x80000040000000000000000000000000000000000000000000 ||| μ = μ) : State.Within μ s₀ (State.spdmKeyUpdate s t id)
    := by
  unfold State.spdmKeyUpdate
  repeat' first
    | with_reducible assumption | (intro _) | with_reducible apply State.inSession_within
    | with_reducible apply State.respond_within | with_reducible apply State.Within.ite | exact maskSub rfl hm | split
    | dsimp only

theorem State.spdmEndSession_within {μ : Nat} {s₀ s : State} (hf : State.Within μ s₀ s) (t : Transport) (id : Nat) (hm
    : 0x80020040000000000000000000000000000000000000000000 ||| μ = μ) : State.Within μ s₀ (State.spdmEndSession s t
    id) := by
  unfold State.spdmEndSession
  repeat' first
    | with_reducible assumption | (intro _) | with_reducible apply State.inSession_within
    | with_reducible apply State.modRidge_within | with_reducible apply State.respond_within
    | with_reducible apply State.Within.ite | exact maskSub rfl hm | split | dsimp only

theorem State.spdmChunkSend_within {μ : Nat} {s₀ s : State} (hf : State.Within μ s₀ s) (t : Transport) (handle : Nat)
    (seq : Nat) (last : Bool) (hm : 0x80020040000000000000000000000000000000000000000000 ||| μ = μ) : State.Within μ
    s₀ (State.spdmChunkSend s t handle seq last) := by
  unfold State.spdmChunkSend
  repeat' first
    | with_reducible assumption | (intro _) | with_reducible apply State.spdm_within
    | with_reducible apply State.setConn_within | with_reducible apply State.respond_within
    | with_reducible apply State.Within.ite | exact maskSub rfl hm | split | dsimp only

theorem State.spdmChunkGet_within {μ : Nat} {s₀ s : State} (hf : State.Within μ s₀ s) (t : Transport) (handle : Nat)
    (seq : Nat) (hm : 0x80020040000000000000000000000000000000000000000000 ||| μ = μ) : State.Within μ s₀
    (State.spdmChunkGet s t handle seq) := by
  unfold State.spdmChunkGet
  repeat' first
    | with_reducible assumption | (intro _) | with_reducible apply State.spdm_within
    | with_reducible apply State.respond_within | with_reducible apply State.setConn_within
    | with_reducible apply State.Within.ite | exact maskSub rfl hm | split | dsimp only

theorem State.kmEffect_within {μ : Nat} {s₀ s : State} (hf : State.Within μ s₀ s) (h : Nat) (x2 : IdeKm) (hm :
    0x40000000000000000000000000000000000100000000 ||| μ = μ) : State.Within μ s₀ (State.kmEffect s h x2).2 := by
  unfold State.kmEffect
  repeat' first
    | with_reducible assumption | (intro _) | with_reducible apply State.progKey_within
    | with_reducible apply State.setGo_within | with_reducible apply State.setStop_within
    | with_reducible apply State.Within.ite | exact maskSub rfl hm | split | dsimp only

theorem State.km_within {μ : Nat} {s₀ s : State} (hf : State.Within μ s₀ s) (h : HostId) (m : IdeKm) (hm :
    0x80000040000000000000000000000000000000000100000000 ||| μ = μ) : State.Within μ s₀ (State.km s h m) := by
  unfold State.km
  repeat' first
    | with_reducible assumption | (intro _) | with_reducible apply State.kmEffect_within
    | with_reducible apply State.respond_within | with_reducible refine State.Within.pair (by assumption) ?_
    | with_reducible apply State.Within.ite | exact maskSub rfl hm | split | dsimp only

theorem State.spdmVendor_within {μ : Nat} {s₀ s : State} (hf : State.Within μ s₀ s) (t : Transport) (id : Nat) (m :
    IdeKm) (hm : 0x80000040000000000000000000000000000000000100000000 ||| μ = μ) : State.Within μ s₀ (State.spdmVendor
    s t id m) := by
  unfold State.spdmVendor
  repeat' first
    | with_reducible assumption | (intro _) | with_reducible apply State.spdm_within
    | with_reducible apply State.respond_within | with_reducible apply State.inSession_within
    | with_reducible apply State.kmEffect_within | with_reducible refine State.Within.pair (by assumption) ?_
    | with_reducible apply State.Within.ite | exact maskSub rfl hm | split | dsimp only

theorem State.spdmUnsupported_within {μ : Nat} {s₀ s : State} (hf : State.Within μ s₀ s) (t : Transport) (code : Nat)
    (hm : 0x80000040000000000000000000000000000000000000000000 ||| μ = μ) : State.Within μ s₀ (State.spdmUnsupported s
    t code) := by
  unfold State.spdmUnsupported
  repeat' first
    | with_reducible assumption | (intro _) | with_reducible apply State.spdm_within
    | with_reducible apply State.respond_within | with_reducible apply State.Within.ite | exact maskSub rfl hm | split
    | dsimp only

theorem State.abortDoe_within {μ : Nat} {s₀ s : State} (hf : State.Within μ s₀ s) (h : Nat) (hm :
    0x20040000000000000000000000000000000000000000000 ||| μ = μ) : State.Within μ s₀ (State.abortDoe s h) := by
  unfold State.abortDoe
  repeat' first
    | with_reducible assumption | (intro _) | with_reducible apply State.doeAbort_within
    | with_reducible apply State.Within.ite | exact maskSub rfl hm | split | dsimp only

end Sys2Proof.Machine
end

