-- ==== Sys2Proof/Laws/WithinAccess.lean ====
section
/-! SUPPORT. What the operations of register access and regions leave alone
(State.Within): one lemma per operation. -/

namespace Sys2Proof.Machine

set_option linter.all false
set_option Elab.async false

theorem State.seenBy_within {μ : Nat} {s₀ s : State} (hf : State.Within μ s₀ s) (c : Option Nat) (hm :
    0x3fffffffffffffffffffffffffffffffffffff ||| μ = μ) : State.Within μ s₀ (State.seenBy s c) := by
  unfold State.seenBy
  repeat' first
    | with_reducible assumption | (intro _) | with_reducible apply State.resulting_within
    | with_reducible apply State.Within.ite | exact maskSub rfl hm | split | dsimp only

theorem State.deny_within {μ : Nat} {s₀ s : State} (hf : State.Within μ s₀ s) (x1 : Agent) (hm :
    0x100000000000000000000000000000000000000000 ||| μ = μ) : State.Within μ s₀ (State.deny s x1) := by
  unfold State.deny
  repeat' first
    | with_reducible assumption | (intro _) | with_reducible apply State.bump_within
    | with_reducible apply State.Within.ite | exact maskSub rfl hm | split | dsimp only

theorem State.readUnit_within {μ : Nat} {s₀ s : State} (hf : State.Within μ s₀ s) (a : Agent) (o : Nat) (m : Word) (hm
    : 0x100000000000000000000000000000000000000000 ||| μ = μ) : State.Within μ s₀ (State.readUnit s a o m).2 := by
  unfold State.readUnit
  repeat' first
    | with_reducible assumption | (intro _) | with_reducible apply State.Within.foldl
    | with_reducible apply State.deny_within | with_reducible apply State.Within.ite | exact maskSub rfl hm | split
    | dsimp only

theorem State.plain_within {μ : Nat} {s₀ s : State} (hf : State.Within μ s₀ s) (k : RegKind) (i : Nat) (v : Word) (m
    : Word) (hm : 0x3fffffffffffffffffffffffffffffffffffff ||| μ = μ) :
    State.Within μ s₀ (State.plain s k i v m) := by
  unfold State.plain
  repeat' first
    | with_reducible assumption | (intro _) | exact maskSub (RegKind.bit_all _) (maskSub rfl hm)
    | with_reducible apply State.setWord_within | with_reducible apply State.Within.ite | exact maskSub rfl hm | split
    | dsimp only

theorem State.writeTxnCtrl_within {μ : Nat} {s₀ s : State} (hf : State.Within μ s₀ s) (c : Nat) (v : Word) (m : Word)
    (hm : 0xc5c5fffb90003fffffffffffffffffffffffffffffffffffff ||| μ = μ) : State.Within μ s₀ (State.writeTxnCtrl s c
    v m) := by
  unfold State.writeTxnCtrl
  repeat' first
    | with_reducible assumption | (intro _) | with_reducible apply State.txnBegin_within
    | with_reducible apply State.txnCommit_within | with_reducible apply State.txnRollback_within
    | with_reducible apply State.Within.ite | exact maskSub rfl hm | split | dsimp only

theorem State.writeRing_within {μ : Nat} {s₀ s : State} (hf : State.Within μ s₀ s) (k : RegKind) (q : Nat) (v : Word) (m
    : Word) (hk : k.bit ||| μ = μ) (hm : 0x40000000000000 ||| μ = μ) :
    State.Within μ s₀ (State.writeRing s k q v m) := by
  unfold State.writeRing
  repeat' first
    | with_reducible assumption | (intro _) | with_reducible apply State.setWord_within
    | with_reducible apply State.rejectCmd_within | with_reducible apply State.Within.ite | exact maskSub rfl hm
    | split | dsimp only

theorem State.writeMbCtrl_within {μ : Nat} {s₀ s : State} (hf : State.Within μ s₀ s) (h : Nat) (v : Word) (m : Word)
    (hm : 0xc002004290003fffffffffffffffffffffffffffffffffffff ||| μ = μ) : State.Within μ s₀ (State.writeMbCtrl s h v
    m) := by
  unfold State.writeMbCtrl
  repeat' first
    | with_reducible assumption | (intro _) | with_reducible apply State.plain_within
    | with_reducible apply State.mbGo_within | with_reducible apply State.mbAbort_within
    | with_reducible apply State.Within.ite | exact maskSub rfl hm | split | dsimp only

theorem State.writeMbData_within {μ : Nat} {s₀ s : State} (hf : State.Within μ s₀ s) (k : RegKind) (i : Nat) (v :
    Word) (m : Word) (hm : 0x3fffffffffffffffffffffffffffffffffffff ||| μ = μ) : State.Within μ s₀ (State.writeMbData
    s k i v m) := by
  unfold State.writeMbData
  repeat' first
    | with_reducible assumption | (intro _) | with_reducible apply State.plain_within
    | with_reducible apply State.Within.ite | exact maskSub rfl hm | split | dsimp only

theorem State.writeClass_within {μ : Nat} {s₀ s : State} (hf : State.Within μ s₀ s) (i : Nat) (v : Word) (m : Word)
    (hm : 0x3fffffffffffffffffffffffffffffffffffff ||| μ = μ) : State.Within μ s₀ (State.writeClass s i v m) := by
  unfold State.writeClass
  repeat' first
    | with_reducible assumption | (intro _) | with_reducible apply State.plain_within
    | with_reducible apply State.Within.ite | exact maskSub rfl hm | split | dsimp only

theorem State.writeTest_within {μ : Nat} {s₀ s : State} (hf : State.Within μ s₀ s) (k : RegKind) (l : Nat) (v : Word)
    (m : Word) (hm : 0xc1c5bc4890003fffffffffffffffffffffffffffffffffffff ||| μ = μ) : State.Within μ s₀
    (State.writeTest s k l v m) := by
  unfold State.writeTest
  repeat' first
    | with_reducible assumption | (intro _) | with_reducible apply State.plain_within
    | with_reducible apply State.put_within | with_reducible apply State.laneTest_within
    | with_reducible apply State.Within.ite | exact maskSub rfl hm | split | dsimp only

theorem State.writeJpCtrl_within {μ : Nat} {s₀ s : State} (hf : State.Within μ s₀ s) (p : Nat) (v : Word) (m : Word)
    (hm : 0xc1c5bc4890000000000017201687c28c5ff840000100407800 ||| μ = μ) : State.Within μ s₀ (State.writeJpCtrl s p v
    m) := by
  unfold State.writeJpCtrl
  repeat' first
    | with_reducible assumption | (intro _) | with_reducible apply State.retrainPort_within
    | with_reducible apply State.resetPort_within | with_reducible apply State.Within.ite | exact maskSub rfl hm
    | split | dsimp only

theorem State.writePegCmd_within {μ : Nat} {s₀ s : State} (hf : State.Within μ s₀ s) (i : Nat) (v : Word) (m : Word)
    (hm : 0x1044000100000000000000110000000000000000000007800 ||| μ = μ) : State.Within μ s₀ (State.writePegCmd s i v
    m) := by
  unfold State.writePegCmd
  repeat' first
    | with_reducible assumption | (intro _) | with_reducible apply State.eosPeg_within
    | with_reducible apply State.raisePeg_within | with_reducible apply State.Within.ite | exact maskSub rfl hm
    | split | dsimp only

theorem State.writeScribeCmd_within {μ : Nat} {s₀ s : State} (hf : State.Within μ s₀ s) (a : Agent) (v : Word) (m :
    Word) (hm : 0x8000070003c000000000000000000000000000000000000 ||| μ = μ) : State.Within μ s₀ (State.writeScribeCmd
    s a v m) := by
  unfold State.writeScribeCmd
  repeat' first
    | with_reducible assumption | (intro _) | with_reducible apply State.trigger_within
    | with_reducible apply State.holdBank_within | with_reducible apply State.releaseBank_within
    | with_reducible apply State.Within.ite | exact maskSub rfl hm | split | dsimp only

theorem State.writeScribeCtrl_within {μ : Nat} {s₀ s : State} (hf : State.Within μ s₀ s) (v : Word) (m : Word) (hm :
    0x800003fffffffffffffffffffffffffffffffffffff ||| μ = μ) : State.Within μ s₀ (State.writeScribeCtrl s v m) := by
  unfold State.writeScribeCtrl
  repeat' first
    | with_reducible assumption | (intro _) | with_reducible apply State.plain_within
    | with_reducible apply State.startPeriod_within | with_reducible apply State.Within.ite | exact maskSub rfl hm
    | split | dsimp only

theorem State.roundWidth_within {μ : Nat} {s₀ s : State} (hf : State.Within μ s₀ s) (F : Fld) (h : Nat) (hk
    : F.reg.bit ||| μ = μ) :
    State.Within μ s₀ (State.roundWidth s F h) := by
  unfold State.roundWidth
  repeat' first
    | with_reducible assumption | (intro _) | with_reducible apply State.put_within
    | with_reducible apply State.Within.ite | exact maskSub rfl hm | split | dsimp only

theorem State.writeReg_within {μ : Nat} {s₀ s : State} (hf : State.Within μ s₀ s) (a : Agent) (k : RegKind) (i : Nat)
    (v : Word) (m : Word) (hm : 0xc5cffffbf8003fffffffffffffffffffffffffffffffffffff ||| μ = μ) : State.Within μ s₀
    (State.writeReg s a k i v m) := by
  unfold State.writeReg
  repeat' first
    | with_reducible assumption | (intro _) | with_reducible apply State.writeTxnCtrl_within
    | with_reducible apply State.queueCmd_within | with_reducible apply State.writeRing_within
    | with_reducible apply State.writeMbCtrl_within | with_reducible apply State.writeMbData_within
    | with_reducible apply State.writeClass_within | with_reducible apply State.clearDetail_within
    | with_reducible apply State.release_within | with_reducible apply State.plain_within
    | with_reducible apply State.takeAlive_within | with_reducible apply State.writeTest_within
    | with_reducible apply State.writeJpCtrl_within | with_reducible apply State.resetBay_within
    | with_reducible apply State.writePegCmd_within | with_reducible apply State.put_within
    | with_reducible apply State.compactAsked_within | with_reducible apply State.sendLtr_within
    | with_reducible apply State.takeSteering_within | with_reducible apply State.roundWidth_within
    | with_reducible apply State.writeScribeCtrl_within | with_reducible apply State.writeScribeCmd_within
    | with_reducible apply State.Within.ite | exact maskSub rfl hm | split | dsimp only

theorem State.writeTgt_within {μ : Nat} {s₀ s : State} (hf : State.Within μ s₀ s) (a : Agent) (v : Word) (m : Word) (t
    : Tgt) (hm : 0xc5cffffbf8003fffffffffffffffffffffffffffffffffffff ||| μ = μ) : State.Within μ s₀ (State.writeTgt s
    a v m t) := by
  unfold State.writeTgt
  repeat' first
    | with_reducible assumption | (intro _) | with_reducible apply State.writeReg_within
    | with_reducible apply State.presetCtr_within | with_reducible apply State.Within.ite | exact maskSub rfl hm
    | split | dsimp only

theorem State.writeUnit_within {μ : Nat} {s₀ s : State} (hf : State.Within μ s₀ s) (a : Agent) (o : Nat) (v : Word) (m
    : Word) (hm : 0xc5cffffbf8003fffffffffffffffffffffffffffffffffffff ||| μ = μ) : State.Within μ s₀ (State.writeUnit
    s a o v m) := by
  unfold State.writeUnit
  repeat' first
    | with_reducible assumption | (intro _) | with_reducible apply State.Within.foldl
    | with_reducible apply State.deny_within | with_reducible apply State.writeTgt_within
    | with_reducible apply State.retWrite_within | with_reducible apply State.Within.ite | exact maskSub rfl hm
    | split | dsimp only

theorem State.unitBytes_within {μ : Nat} {s₀ s : State} (hf : State.Within μ s₀ s) (v : Word) (off : Nat) (n : Nat)
    (be : Nat) (zero : Bool) (hm : 0x40000000000000000000000000000000000000000000000000 ||| μ = μ) : State.Within μ s₀
    (State.unitBytes s v off n be zero).2 := by
  unfold State.unitBytes
  repeat' first
    | with_reducible assumption | (intro _) | with_reducible apply State.freeBytes_within
    | with_reducible refine State.Within.pair (by assumption) ?_ | with_reducible apply State.Within.ite
    | exact maskSub rfl hm | split | dsimp only

theorem State.collect_within {μ : Nat} {s₀ s : State} (hf : State.Within μ s₀ s) (f : Nat) (reqTag : Nat) (off : Nat)
    (bs : List Byte) (last : Bool) (hm : 0x80000040000000000000000000000000000000000000000000 ||| μ = μ) :
    State.Within μ s₀ (State.collect s f reqTag off bs last) := by
  unfold State.collect
  repeat' first
    | with_reducible assumption | (intro _) | with_reducible apply State.emitTlp_within
    | with_reducible apply State.modHost_within | with_reducible apply State.Within.ite | exact maskSub rfl hm | split
    | dsimp only

theorem State.perform_within {μ : Nat} {s₀ s : State} (hf : State.Within μ s₀ s) (x : RingAccess) (hm :
    0xc5cffffbf8003fffffffffffffffffffffffffffffffffffff ||| μ = μ) : State.Within μ s₀ (State.perform s x) := by
  unfold State.perform
  repeat' first
    | with_reducible assumption | (intro _) | with_reducible apply State.readUnit_within
    | with_reducible apply State.unitBytes_within | with_reducible apply State.emit_within
    | with_reducible apply State.collect_within | with_reducible apply State.writeUnit_within
    | with_reducible apply State.writeReg_within | with_reducible apply State.deny_within
    | with_reducible refine State.Within.pair (by assumption) ?_ | with_reducible apply State.Within.ite
    | exact maskSub rfl hm | split | dsimp only

theorem State.submit_within {μ : Nat} {s₀ s : State} (hf : State.Within μ s₀ s) (x : RingAccess) (hm :
    0xd5cffffbf8003fffffffffffffffffffffffffffffffffffff ||| μ = μ) : State.Within μ s₀ (State.submit s x) := by
  unfold State.submit
  repeat' first
    | with_reducible assumption | (intro _) | with_reducible apply State.wakeRegion_within
    | with_reducible apply State.perform_within | with_reducible apply State.Within.ite | exact maskSub rfl hm | split
    | dsimp only
  all_goals with_reducible apply State.Within.other
  all_goals first | exact Or.inl rfl | exact Or.inl ⟨rfl, rfl⟩ | exact Or.inl ⟨rfl, rfl, rfl⟩ | exact Or.inr (maskSub rfl hm) | skip
  repeat' first
    | with_reducible assumption | (intro _) | with_reducible apply State.wakeRegion_within
    | with_reducible apply State.perform_within | with_reducible apply State.Within.ite | exact maskSub rfl hm | split
    | dsimp only

theorem State.runRing_within {μ : Nat} {s₀ s : State} (hf : State.Within μ s₀ s) (hm :
    0xd5cffffbf8003fffffffffffffffffffffffffffffffffffff ||| μ = μ) : State.Within μ s₀ (State.runRing s) := by
  unfold State.runRing
  repeat' first
    | with_reducible assumption | (intro _) | with_reducible apply State.Within.each
    | with_reducible apply State.submit_within | with_reducible apply State.Within.ite | exact maskSub rfl hm | split
    | dsimp only
  all_goals with_reducible apply State.Within.other
  all_goals first | exact Or.inl rfl | exact Or.inl ⟨rfl, rfl⟩ | exact Or.inl ⟨rfl, rfl, rfl⟩ | exact Or.inr (maskSub rfl hm) | skip
  repeat' first
    | with_reducible assumption | (intro _) | with_reducible apply State.Within.each
    | with_reducible apply State.submit_within | with_reducible apply State.Within.ite | exact maskSub rfl hm | split
    | dsimp only

theorem State.arrive_within {μ : Nat} {s₀ s : State} (hf : State.Within μ s₀ s) (x1 : Agent) (hm :
    0x40000040100000000000000000000000000000000000400800 ||| μ = μ) : State.Within μ s₀ (State.arrive s x1) := by
  unfold State.arrive
  repeat' first
    | with_reducible assumption | (intro _) | with_reducible apply State.leaveL1_within
    | with_reducible apply State.Within.ite | exact maskSub rfl hm | split | dsimp only

theorem State.readUr_within {μ : Nat} {s₀ s : State} (hf : State.Within μ s₀ s) (a : Agent) (reqTag : Nat) (off : Nat)
    (n : Nat) (hm : 0xc0000040900000000000000000000000000000000000400800 ||| μ = μ) : State.Within μ s₀ (State.readUr
    s a reqTag off n) := by
  unfold State.readUr
  repeat' first
    | with_reducible assumption | (intro _) | with_reducible apply State.arrive_within
    | with_reducible apply State.answerUr_within | with_reducible apply State.Within.ite | exact maskSub rfl hm
    | split | dsimp only

theorem State.regRead_within {μ : Nat} {s₀ s : State} (hf : State.Within μ s₀ s) (a : Agent) (off : Nat) (dws : Nat)
    (firstBe : Nat) (lastBe : Nat) (reqTag : Nat) (hm : 0xd5cffffbf8003fffffffffffffffffffffffffffffffffffff ||| μ =
    μ) : State.Within μ s₀ (State.regRead s a off dws firstBe lastBe reqTag) := by
  unfold State.regRead
  repeat' first
    | with_reducible assumption | (intro _) | with_reducible apply State.readUr_within
    | with_reducible apply State.arrive_within | with_reducible apply State.Within.each
    | with_reducible apply State.submit_within | with_reducible apply State.Within.ite | exact maskSub rfl hm | split
    | dsimp only

theorem State.regWrite_within {μ : Nat} {s₀ s : State} (hf : State.Within μ s₀ s) (a : Agent) (off : Nat) (bs :
    WriteBytes) (hm : 0xd5cffffbf8003fffffffffffffffffffffffffffffffffffff ||| μ = μ) : State.Within μ s₀
    (State.regWrite s a off bs) := by
  unfold State.regWrite
  repeat' first
    | with_reducible assumption | (intro _) | with_reducible apply State.arrive_within
    | with_reducible apply State.dropUr_within | with_reducible apply State.Within.each
    | with_reducible apply State.submit_within | with_reducible apply State.Within.ite | exact maskSub rfl hm | split
    | dsimp only

theorem State.writeAs_within {μ : Nat} {s₀ s : State} (hf : State.Within μ s₀ s) (a : Agent) (k : RegKind) (i : Nat)
    (v : Word) (m : Word) (hm : 0xd5cffffbf8003fffffffffffffffffffffffffffffffffffff ||| μ = μ) : State.Within μ s₀
    (State.writeAs s a k i v m) := by
  unfold State.writeAs
  repeat' first
    | with_reducible assumption | (intro _) | with_reducible apply State.arrive_within
    | with_reducible apply State.dropUr_within | with_reducible apply State.submit_within
    | with_reducible apply State.Within.ite | exact maskSub rfl hm | split | dsimp only

theorem State.writeField_within {μ : Nat} {s₀ s : State} (hf : State.Within μ s₀ s) (a : Agent) (F : Fld) (i : Nat) (v
    : Nat) (hm : 0xd5cffffbf8003fffffffffffffffffffffffffffffffffffff ||| μ = μ) : State.Within μ s₀ (State.writeField
    s a F i v) := by
  unfold State.writeField
  repeat' first
    | with_reducible assumption | (intro _) | with_reducible apply State.writeAs_within
    | with_reducible apply State.Within.ite | exact maskSub rfl hm | split | dsimp only

theorem State.regCommand_within {μ : Nat} {s₀ s : State} {act : Nat → List Byte → State → State} (hf : State.Within μ
    s₀ s) (hact : ∀ a b t, State.Within μ s₀ t → State.Within μ s₀ (act a b t)) (c : Caller) (op : Nat) (len : Nat)
    (hm : 0x80020000000000000000000000000000000000000000000000 ||| μ = μ) : State.Within μ s₀ (State.regCommand s c op
    len act) := by
  unfold State.regCommand
  repeat' first
    | with_reducible assumption | (intro _) | with_reducible apply State.answer_within
    | with_reducible apply State.Within.ite | with_reducible apply hact | exact maskSub rfl hm | split | dsimp only

theorem State.mctpRegRead_within {μ : Nat} {s₀ s : State} (hf : State.Within μ s₀ s) (c : Caller) (hm :
    0xd5cffffbf8003fffffffffffffffffffffffffffffffffffff ||| μ = μ) : State.Within μ s₀ (State.mctpRegRead s c) := by
  unfold State.mctpRegRead
  repeat' first
    | with_reducible assumption | (intro _) | with_reducible apply State.regCommand_within
    | with_reducible apply State.submit_within | with_reducible apply State.Within.ite | exact maskSub rfl hm | split
    | dsimp only

theorem State.mctpRegWrite_within {μ : Nat} {s₀ s : State} (hf : State.Within μ s₀ s) (c : Caller) (hm :
    0xd5cffffbf8003fffffffffffffffffffffffffffffffffffff ||| μ = μ) : State.Within μ s₀ (State.mctpRegWrite s c) := by
  unfold State.mctpRegWrite
  repeat' first
    | with_reducible assumption | (intro _) | with_reducible apply State.regCommand_within
    | with_reducible apply State.submit_within | with_reducible apply State.Within.ite | exact maskSub rfl hm | split
    | dsimp only

theorem State.startBay_within {μ : Nat} {s₀ s : State} (hf : State.Within μ s₀ s) (b : Nat) (hm :
    0xc3843c0810000000000000001601c20c000000000000007800 ||| μ = μ) : State.Within μ s₀ (State.startBay s b) := by
  unfold State.startBay
  repeat' first
    | with_reducible assumption | (intro _) | with_reducible apply State.pllFails_within
    | with_reducible apply State.bump_within | with_reducible apply State.setBayState_within
    | with_reducible apply State.bayRunning_within | with_reducible refine State.Within.pair (by assumption) ?_
    | with_reducible apply State.Within.ite | exact maskSub rfl hm | split | dsimp only
  all_goals with_reducible apply State.Within.other
  all_goals first | exact Or.inl rfl | exact Or.inl ⟨rfl, rfl⟩ | exact Or.inl ⟨rfl, rfl, rfl⟩ | exact Or.inr (maskSub rfl hm) | skip
  repeat' first
    | with_reducible assumption | (intro _) | with_reducible apply State.pllFails_within
    | with_reducible apply State.bump_within | with_reducible apply State.setBayState_within
    | with_reducible apply State.bayRunning_within | with_reducible refine State.Within.pair (by assumption) ?_
    | with_reducible apply State.Within.ite | exact maskSub rfl hm | split | dsimp only

theorem State.unmask_within {μ : Nat} {s₀ s : State} (hf : State.Within μ s₀ s) (hm :
    0xc184bc4890000000000000001601c20c7ff840000100407800 ||| μ = μ) : State.Within μ s₀ (State.unmask s) := by
  unfold State.unmask
  repeat' first
    | with_reducible assumption | (intro _) | with_reducible apply State.Within.each
    | with_reducible apply State.drainWrites_within | with_reducible apply State.pump_within
    | with_reducible apply State.runEngines_within | with_reducible apply State.retryEntries_within
    | with_reducible apply State.Within.ite | exact maskSub rfl hm | split | dsimp only

theorem State.regionsRun_within {μ : Nat} {s₀ s : State} (hf : State.Within μ s₀ s) (hm :
    0xd5cffffbf8003fffffffffffffffffffffffffffffffffffff ||| μ = μ) : State.Within μ s₀ (State.regionsRun s) := by
  unfold State.regionsRun
  repeat' first
    | with_reducible assumption | (intro _) | with_reducible apply State.runRing_within
    | with_reducible apply State.nextCommits_within | with_reducible apply State.unmask_within
    | with_reducible apply State.restBays_within | with_reducible apply State.Within.ite | exact maskSub rfl hm
    | split | dsimp only

theorem State.wakeComplete_within {μ : Nat} {s₀ s : State} (hf : State.Within μ s₀ s) (r : Nat) (hm :
    0xd7cffffbf8003fffffffffffffffffffffffffffffffffffff ||| μ = μ) : State.Within μ s₀ (State.wakeComplete s r) := by
  unfold State.wakeComplete
  repeat' first
    | with_reducible assumption | (intro _) | with_reducible apply State.startBay_within
    | with_reducible apply State.setRegion_within | with_reducible apply State.regionsRun_within
    | with_reducible apply State.Within.ite | exact maskSub rfl hm | split | dsimp only
  all_goals with_reducible apply State.Within.other
  all_goals first | exact Or.inl rfl | exact Or.inl ⟨rfl, rfl⟩ | exact Or.inl ⟨rfl, rfl, rfl⟩ | exact Or.inr (maskSub rfl hm) | skip
  repeat' first
    | with_reducible assumption | (intro _) | with_reducible apply State.startBay_within
    | with_reducible apply State.setRegion_within | with_reducible apply State.regionsRun_within
    | with_reducible apply State.Within.ite | exact maskSub rfl hm | split | dsimp only

theorem State.gateIdle_within {μ : Nat} {s₀ s : State} (hf : State.Within μ s₀ s) (r : Nat) (hm :
    0x10000000000000000000007800 ||| μ = μ) : State.Within μ s₀ (State.gateIdle s r) := by
  unfold State.gateIdle
  repeat' first
    | with_reducible assumption | (intro _) | with_reducible apply State.setRegion_within
    | with_reducible apply State.Within.ite | exact maskSub rfl hm | split | dsimp only

theorem State.modResetLow_within {μ : Nat} {s₀ s : State} (hf : State.Within μ s₀ s) (n : Nat) (slot : Nat) (hm :
    0x1dffffffffa003fffffffffffffffffffffffffffffffffffff ||| μ = μ) : State.Within μ s₀ (State.modResetLow s n slot)
    := by
  unfold State.modResetLow
  repeat' first
    | with_reducible assumption | (intro _) | with_reducible apply State.holdReset_within
    | with_reducible apply State.freeWord_within | with_reducible refine State.Within.pair (by assumption) ?_
    | with_reducible apply State.Within.ite | exact maskSub rfl hm | split | dsimp only

theorem State.standbyLow_within {μ : Nat} {s₀ s : State} (hf : State.Within μ s₀ s) (n : Nat) (hm :
    0x1dffffffffa003fffffffffffffffffffffffffffffffffffff ||| μ = μ) : State.Within μ s₀ (State.standbyLow s n) := by
  unfold State.standbyLow
  repeat' first
    | with_reducible assumption | (intro _) | with_reducible apply State.enterStandby_within
    | with_reducible apply State.Within.ite | exact maskSub rfl hm | split | dsimp only

theorem State.standbyHigh_within {μ : Nat} {s₀ s : State} (hf : State.Within μ s₀ s) (n : Nat) (hm :
    0x11ffffffffa003fffffffffffffffffffffffffffffffffffff ||| μ = μ) : State.Within μ s₀ (State.standbyHigh s n) := by
  unfold State.standbyHigh
  repeat' first
    | with_reducible assumption | (intro _) | with_reducible apply State.leaveStandby_within
    | with_reducible apply State.Within.ite | exact maskSub rfl hm | split | dsimp only

theorem State.perstAssert_within {μ : Nat} {s₀ s : State} (hf : State.Within μ s₀ s) (h : Nat) (hm :
    0x1d5cffffb98003fffffffffffffffffffffffffffffffffffff ||| μ = μ) : State.Within μ s₀ (State.perstAssert s h) := by
  unfold State.perstAssert
  repeat' first
    | with_reducible assumption | (intro _) | with_reducible apply State.perstLow_within
    | with_reducible apply State.endScope_within | with_reducible apply State.Within.ite | exact maskSub rfl hm
    | split | dsimp only

theorem State.cable_within {μ : Nat} {s₀ s : State} (hf : State.Within μ s₀ s) (h : Nat) (here : Bool) (hm :
    0x1d5cffffb98003fffffffffffffffffffffffffffffffffffff ||| μ = μ) : State.Within μ s₀ (State.cable s h here) := by
  unfold State.cable
  repeat' first
    | with_reducible assumption | (intro _) | with_reducible apply State.cableChange_within
    | with_reducible apply State.endScope_within | with_reducible apply State.Within.ite | exact maskSub rfl hm
    | split | dsimp only

theorem State.flrScope_within {μ : Nat} {s₀ s : State} (hf : State.Within μ s₀ s) (s0 : State) (f : Nat) (hm :
    0xc5cffffb90003fffffffffffffffffffffffffffffffffffff ||| μ = μ) : State.Within μ s₀ (State.flrScope s0 s f) := by
  unfold State.flrScope
  repeat' first
    | with_reducible assumption | (intro _) | with_reducible apply State.endScope_within
    | with_reducible apply State.Within.ite | exact maskSub rfl hm | split | dsimp only

theorem State.byConfig_within {μ : Nat} {s₀ s : State} {g : State → State} (hf : State.Within μ s₀ s) (hg : ∀ t,
    State.Within μ s₀ t → State.Within μ s₀ (g t)) (f : Nat) (hm :
    0x41040040100000000000000010000000000000000000407800 ||| μ = μ) : State.Within μ s₀ (State.byConfig s f g) := by
  unfold State.byConfig
  repeat' first
    | with_reducible assumption | (intro _) | with_reducible apply State.leaveL1_within
    | with_reducible apply State.wakeRegion_within | with_reducible apply State.Within.ite | with_reducible apply hg
    | exact maskSub rfl hm | split | dsimp only

theorem State.flr_within {μ : Nat} {s₀ s : State} (hf : State.Within μ s₀ s) (f : Nat) (hm :
    0x1d5cffffb90003fffffffffffffffffffffffffffffffffffff ||| μ = μ) : State.Within μ s₀ (State.flr s f) := by
  unfold State.flr
  repeat' first
    | with_reducible assumption | (intro _) | with_reducible apply State.flrScope_within
    | with_reducible apply State.startFlr_within | with_reducible apply State.Within.ite | exact maskSub rfl hm
    | split | dsimp only

theorem State.configWriteAll_within {μ : Nat} {s₀ s : State} (hf : State.Within μ s₀ s) (h : Nat) (n : Nat) (dw : Nat)
    (data : Dword) (be : Nat) (busDev : Nat) (hm : 0x1d5cffffb98003fffffffffffffffffffffffffffffffffffff ||| μ = μ) :
    State.Within μ s₀ (State.configWriteAll s h n dw data be busDev) := by
  unfold State.configWriteAll
  repeat' first
    | with_reducible assumption | (intro _) | with_reducible apply State.flrScope_within
    | with_reducible apply State.configWrite_within | with_reducible apply State.Within.ite | exact maskSub rfl hm
    | split | dsimp only

theorem State.retryHeld_within {μ : Nat} {s₀ s : State} (hf : State.Within μ s₀ s) (hm :
    0x1d5cffffb90003fffffffffffffffffffffffffffffffffffff ||| μ = μ) : State.Within μ s₀ (State.retryHeld s) := by
  unfold State.retryHeld
  repeat' first
    | with_reducible assumption | (intro _) | with_reducible apply State.Within.each
    | with_reducible apply State.flrScope_within | with_reducible apply State.retryFlr_within
    | with_reducible apply State.clearVfe_within | with_reducible apply State.Within.ite | exact maskSub rfl hm
    | split | dsimp only

theorem State.whenUp_within {μ : Nat} {s₀ s : State} {g : State → State} (hf : State.Within μ s₀ s) (hg : ∀ t,
    State.Within μ s₀ t → State.Within μ s₀ (g t)) : State.Within μ s₀ (State.whenUp s g) := by
  unfold State.whenUp
  repeat' first
    | with_reducible assumption | (intro _) | with_reducible apply State.Within.ite | with_reducible apply hg
    | exact maskSub rfl hm | split | dsimp only

theorem State.tick_within {μ : Nat} {s₀ s : State} (hf : State.Within μ s₀ s) (hm :
    0x200c0000000000000000000000000000000000000000 ||| μ = μ) : State.Within μ s₀ (State.tick s) := by
  unfold State.tick
  repeat' first
    | with_reducible assumption | (intro _) | with_reducible apply State.advance_within
    | with_reducible apply State.Within.ite | exact maskSub rfl hm | split | dsimp only

theorem State.writeEntryDword_within {μ : Nat} {s₀ s : State} (hf : State.Within μ s₀ s) (f : Nat) (e : Nat) (j : Nat)
    (v : Dword) (m : Dword) (hm : 0x1000000000000000000000000000000000000000000 ||| μ = μ) : State.Within μ s₀
    (State.writeEntryDword s f e j v m) := by
  unfold State.writeEntryDword
  repeat' first
    | with_reducible assumption | (intro _) | with_reducible apply State.setMsix_within
    | with_reducible apply State.Within.ite | exact maskSub rfl hm | split | dsimp only

theorem State.writeTable_within {μ : Nat} {s₀ s : State} (hf : State.Within μ s₀ s) (f : Nat) (off : Nat) (bs :
    WriteBytes) (hm : 0x1c1040041900000000000000010000000000000000000407800 ||| μ = μ) : State.Within μ s₀
    (State.writeTable s f off bs) := by
  unfold State.writeTable
  repeat' first
    | with_reducible assumption | (intro _) | with_reducible apply State.leaveL1_within
    | with_reducible apply State.dropUr_within | with_reducible apply State.wakeRegion_within
    | with_reducible apply State.Within.each | with_reducible apply State.writeEntryDword_within
    | with_reducible apply State.freeHeld_within | with_reducible apply State.Within.ite | exact maskSub rfl hm
    | split | dsimp only

theorem State.bar2Read_within {μ : Nat} {s₀ s : State} (hf : State.Within μ s₀ s) (f : FnId) (off : Nat) (dws : Nat)
    (firstBe : Nat) (lastBe : Nat) (reqTag : Nat) (hm : 0xd5cffffbf8003fffffffffffffffffffffffffffffffffffff ||| μ =
    μ) : State.Within μ s₀ (State.bar2Read s f off dws firstBe lastBe reqTag) := by
  unfold State.bar2Read
  repeat' first
    | with_reducible assumption | (intro _) | with_reducible apply State.leaveL1_within
    | with_reducible apply State.answerUr_within | with_reducible apply State.wakeRegion_within
    | with_reducible apply State.submit_within | with_reducible apply State.freeBytes_within
    | with_reducible apply State.Within.each | with_reducible apply State.emitTlp_within
    | with_reducible refine State.Within.pair (by assumption) ?_ | with_reducible apply State.Within.ite
    | exact maskSub rfl hm | split | dsimp only

end Sys2Proof.Machine
end

