-- ==== Sys2Proof/Tests/Slice0.lean ====
section
/-! SUPPORT. Tests of the model: ill-formed commands are refused, single steps give what the spec says, and each statement that
has hypotheses has states and operands that meet them. -/

namespace Sys2Proof.Tests

open Sys2Proof Sys2Proof.Machine

set_option Elab.async false

/-! ### States for the tests -/

/-- Host port whose cable is there and whose PERST_N is high. -/
def host0 : HostDyn := { HostDyn.reset with perst := false, absent := false, clkreq := true, busDev := 8 }

/-- The link of H1 as that of H0. -/
def both (s : State) : State := s.setWord .HP_LINK_STATUS 1 (s.word .HP_LINK_STATUS 0)

/-- A module that is up: links of H0 and H1 at x16, Flit mode; PF0 enabled; Ridge's firmware runs. -/
def up : State :=
  ((((((((({ State.reset with
    phase := .up, clock := 1000000, devtime := 5000000, hosts := [(0, host0), (1, host0)]
    ridge := { RidgeDyn.reset with running := true, startup := [], meas := [(0, 5)] } } : State).put HP_LINK_STATUS.link_up 0 1).put
    HP_LINK_STATUS.pm_state 0 0).put HP_LINK_STATUS.width 0 16).put HP_LINK_STATUS.rate 0 5).put HP_LINK_STATUS.l0p_width 0 16).put
    HP_LINK_STATUS.flit_mode 0 1).put FUNC_STATE.bme 0 1).put FUNC_STATE.mse 0 1).put SEC_STATUS.meas_locked 0 1 |> both

/-- `up` with a timer that is due. -/
def timed (t : Timer) (s : State) : State := { s with timers := [(t, 1000500)] }
/-- A request of PF0 that is outstanding with tag 3. -/
def req0 : HReq := { fn := 0, fgen := 0, q := none, qgen := 0, seg := none, p := 0x7F, v := 0, fromHost := true, id := 0, pasid := none, addr := 0x1000, len := 64, be := 0, key := 0, tagged := false, purpose := .dropped }
/-- Plumb in a pass. -/
def pass1 : State := (up.put PLUMB_STATUS.running 0 1).modPlumb (fun p => { p with inPass := true, shadow := List.replicate 288 0 })
/-- A pass is due. -/
def passDue : State := timed .plumb (up.put PLUMB_STATUS.running 0 1)
def sensed : PlumbInputs := ⟨List.replicate 54 16, List.replicate 6 0, List.replicate 24 0, List.replicate 4 0⟩
/-- Connections of both transports at a stage. -/
def conns (st : Nat) (ci : Option (Nat × Nat)) (co : Option (Nat × Nat × List Byte)) : State :=
  up.modRidge (fun r => { r with conns := [⟨none, st, ci, co⟩, ⟨some 0, st, ci, co⟩] })
def sessions0 (xs : List Session) : State := (conns 3 none none).modRidge (fun r => { r with sessions := xs })
def streams0 (d : IdeStream) : State := (sessions0 [⟨1, some 0, true⟩]).modHost 0 (fun g => { g with ide := [(0, d)] })
/-- A mailbox command of PF0 runs, with a request. -/
def asked (op : Nat) (req : List Byte) : State :=
  (((up.put MB_STATUS.state 0 1).put MB_CMD.opcode 0 op).put MB_CMD.req_len 0 req.length).setWord .MB_REQ 0 (BitVec.ofNat 64 (leAt req 0 8))
def updating (w : Nat) (fin : Bool) : State := up.modRidge (fun r => { r with update := some ⟨4, 600, w, fin, 1⟩ })
def answered0 : State := (asked 1 []).modRidge (fun r => { r with mailbox := [⟨0, 0, [1, 2, 3, 4, 5, 6, 7, 8, 9], 1⟩] })
/-- Boot directory copy that names slot `a`, and an image header (R414, R415). -/
def dirBytes (a : Nat) : List Byte :=
  let b := leBytes 4 0x4A584244 ++ leBytes 4 5 ++ [BitVec.ofNat 8 a] ++ List.replicate 51 0
  b ++ leBytes 4 (crc32c b).toNat
def headStart : List Byte := leBytes 4 0x4A584657 ++ List.replicate 12 1 ++ leBytes 4 600
def headBytes : List Byte := headStart ++ List.replicate 232 0 ++ leBytes 4 0x2B66DA25
def flashed (s : State) (a : Nat) (bs : List Byte) : State := s.modRidge (fun r => { r with flash := Tbl.writeBytes r.flash a bs })

/-- Ridge out of reset with its firmware not yet started and slot B in the directory. -/
def booting : State :=
  let at_ (a : Nat) (bs : List Byte) : Tbl Byte := bs.zipIdx.map (fun e => (a + e.2, e.1))
  (up.modRidge (fun r => { r with running := false, flash := at_ 0 (dirBytes 1) ++ at_ 0x1000 (dirBytes 1) ++ at_ 0x1900000 headBytes })).put
    SEC_STATUS.meas_locked 0 0
def blocked : State := ((up.modRidge (fun r => { r with startup := [0, 1] })).put SEC_STATUS.rng_blocked 0 1).put RNG_STATUS.fail_count 0 2
/-- Ridge held in reset by a failure, with the first restart due. -/
def ridgeDown : State := timed .restart (((((up.modRidge (fun r => { r with running := false })).put PWR_STATE_MISC.ridge 0 5).put
  GLOBAL_STATUS.cfg_frozen 0 1).put GLOBAL_STATUS.ridge_down 0 1).put MB_STATUS.state 0 3)
/-- Ridge out of reset after a failure, with 2 s for its firmware to start. -/
def restarting (n : Nat) : State := ((ridgeDown.put PWR_STATE_MISC.ridge 0 0).put BRACE_TRESTLE.restarts 0 n).put BRACE_TRESTLE.restarting 0 1
/-- An engine group that waits for recovery, and one whose recovery runs. -/
def group3 (runs : Bool) : State := ((up.modBrace (fun b => { b with queue := [(127, runs), (5, false)] })).put BRACE_DSTATE.state 127 (if runs then 2 else 1)).modEng 25 (fun e => { e with buf := [(0, [1])] })
def classified : State := timed (.classifier 4 3 7) (up.modBrace (fun b => { b with sources := [⟨4, 3, 7, 5, false⟩, ⟨4, 3, 7, 5, true⟩, ⟨4, 3, 8, 5, false⟩] }))
def detailed : State := (up.setWord .FAULT_DETAIL 7 0x16).setWord .FAULT_SEV 7 0x12
def heldDomain : State := ((up.put BRACE_DSTATE.state 129 3).put BRACE_DSTATE.severe 129 1).put BRACE_HIST_PTR.next_seq 0 9
def fuseReads : List FuseRead := (List.range 256).map (fun i => ⟨BitVec.ofNat 64 (i % 16 + 1), 7, 7⟩)
/-- The module before its restore strobe, at a stage of the power-up sequence. -/
def stage (p : Phase) : State := { up with phase := p, regs := [], restore := some ⟨3, 0, []⟩, ridge := RidgeDyn.reset }
def saving (s : State) : State := s.modRss (fun r => { r with job := some (.record 0 1 []) })
/-- `up` with H0 in the state given. -/
def withHost (g : HostDyn → HostDyn) (s : State) : State := s.modHost 0 g
def unplugged : State := (withHost (fun d => { d with perst := true, absent := true }) up).put HP_LINK_STATUS.link_up 0 0
def inPerst : State := (withHost (fun d => { d with perst := true }) up).put HP_LINK_STATUS.link_up 0 0
def untrained : State := up.put HP_LINK_STATUS.link_up 0 0
def gone : State := (up.setHcrState 0 4).put HP_LINK_STATUS.link_up 0 0
def offer : LinkOffer := ⟨6, 16, 8, false, false, true, true, none, false, true, [], [(4, 3, 7)]⟩
def aspm : State := up.cfgPut 0 0x60 1 1 1
def inL1 : State := (up.put HP_LINK_STATUS.pm_state 0 2).setHcrState 0 1
def narrow : State := ((up.cfgPut 0 0x324 3 1 1).put HP_LINK_STATUS.l0p_width 0 4).put HP_PM_CTRL.l0p_auto 0 1
def busyHost : State := ((up.cfgPut 0 0x78 10 1 1).put Q_STATE.state 5 2).setQueue 5 { QDyn.reset with rung := 1 }
def ptmOn : State := timed (.ptm 0) (up.cfgPut 0 0x33C 0 1 1)
def resetting : State := up.put FUNC_STATE.flr_active 0 1
def outstanding (t : Timer) (r : HReq) : State := timed t (withHost (fun d => { d with tags := [(3, ⟨r, 0, false, []⟩)] }) up)
def vfs (s : State) : State := (s.cfgPut 0 0x184 0 1 1).cfgPut 0 0x18C 0 16 3
def clearing (s : State) : State := s.setFunc 4 { FnDyn.reset with clearing := true }
def compatible : State := ((up.put GLOBAL_STATUS.compat_view_active 0 1).cfgPut 0 0x30 0 1 1)
def cable (s : State) (h : Nat) (perst absent : Bool) : State :=
  (s.modHost h (fun d => { d with perst := perst, absent := absent })).put HP_LINK_STATUS.link_up h 0
def tagged1 : State := timed (.flrTag 1 3) (up.modHost 1 (fun d => { d with tags := [(3, ⟨{ req0 with fn := 1 }, 0, false, []⟩)] }))
def vfs1 (s : State) : State := (s.cfgPut 1 0x184 0 1 1).cfgPut 1 0x18C 0 16 255
/-- Context 0 of `s` with a transaction in state `st`. -/
def inTxn (c st : Nat) (d : TxnDyn) (s : State) : State := (s.put TXN_STATUS.state c st).setTxn c d
def open0 : State := inTxn 0 1 { TxnDyn.reset with opened := 500 } up
/-- Staged words that fail check 3 or another: VF 0.1 staged by PF1. -/
def badTxn : State := inTxn 1 1 { TxnDyn.reset with opened := 1000000, staged := [(RegKind.FUNC_APERTURE.wordOf 0, (30, maskBits 0 6))] } up
def committing (d : TxnDyn) : State := { inTxn 0 2 { d with quiescing := true } up with commits := [0] }
def staged1 : TxnDyn := { TxnDyn.reset with staged := [(RegKind.FUNC_APERTURE.wordOf 0, (30, maskBits 0 6))] }
def quiescing5 : State := timed (.quiesce 0) (((committing { TxnDyn.reset with moving := [5] }).put Q_STATE.state 5 2).modQueue 5 (fun d => { d with moving := true }))
def persisting : State := (inTxn 0 3 { TxnDyn.reset with seq := 7 } up).put RSS_LAST_SEQ.seq 0 7
def recording : State := up.modRss (fun r => { r with job := some (.record 0 8 []) })
def poor : State := up.modRss (fun r => { r with wear := 8191999999999 })
def plumbOpen : State := inTxn 4 1 TxnDyn.reset up

/-- Descriptor that moves 64 bytes from host address 0x1000 to local address 0x2000. -/
def words1 : List Word := [0x401, 0x1000, 0x2000, 63, 63, 0, 0, 0]
def fetched1 : Prefetched := ⟨0, words1, 0, 9, none, false, false, false, 0, none, false⟩
def running1 : Current := ⟨fetched1, 0, words1, 0, 0, 0, none, none, false, 9, 1⟩
/-- Queue 5 of PF0 with rings of 64 entries, in state `st`. -/
def queue5 (st : Nat) (d : QDyn) : State := (((up.put Q_RING.sq_log2 5 6).put Q_RING.cq_log2 5 6).put Q_STATE.state 5 st).setQueue 5 d
def withCur (c : Current) : QDyn := { QDyn.reset with cur := some c }
/-- Engine 24 bound to queue 5. -/
def bound (s : State) : State := s.setEng 24 { EngDyn.reset with q := some 5 }
def ended1 (st : Nat) : State := queue5 3 (withCur { running1 with ended := some st })
def full5 (s : State) : State := s.put Q_CQ_IDX.cq_tail 5 1
/-- The chained descriptor of 64 bytes whose extension is to come. -/
def chained1 : Current := { running1 with words := [0xC01, 0x1000, 0x2000, 63, 63, 0, 0x3000, 0], piece := 0, tested := 2, asked := true }
def ready5 : State := ((queue5 2 { QDyn.reset with pref := [fetched1] }).put Q_CFG.eg 5 3).put Q_SQ_IDX.sq_tail 5 1
def paced : State := (bound (queue5 3 (withCur running1))).modEng 24 (fun e => { e with paceFrom := some 5 })
def draining : State := (queue5 6 (withCur running1)).setEng 24 { EngDyn.reset with q := some 5, draining := true }
def read1 : WRead := { id := 7, fn := 0, fgen := 0, h := 0, reqTag := 1, p := 0, v := 0, downOnes := false, off := 0, dws := 2, firstBe := 15, lastBe := 15, seg := 9, sgen := 0, paddr := 0x100, base := 0, key := 3, tagged := false, granted := false, got := [], sent := 0, flush := false, behind := [], down := false }
def reading : State := (up.modPort 0 (fun d => { d with reads := [read1] })).setWord .JP_PART 0 0x20
def wakingEg : State := { up.setWord .PWR_STATE_EG 0 2 with waking := [24] }
def asleep0 (b : Nat) : State := (up.put JP_STATUS.link_state 0 4).setBayState 0 b
def fetchReq : HReq := { req0 with q := some 5, addr := 0x4000, key := 9, purpose := .fetch 5 0 1 }
def tag3 (r : HReq) (h : Bool) : State := withHost (fun d => { d with tags := [(3, ⟨r, 0, h, []⟩)] }) up
def waiting1 : State := up.modHost 0 (fun d => { d with waiting := [fetchReq] })

/-- PF0's segment 9 at offset 0 of its aperture, through JP0. -/
def window (s : State) : State := ((((s.put SEG_CTRL.valid 9 1).put SEG_CTRL.rd 9 1).put SEG_CTRL.wr 9 1).put SEG_LEN.pages_m1 9 15)
def opened (st : Nat) (s : State) : State := ((s.modPort 0 (fun d => { d with present := true })).put JP_STATUS.link_state 0 st).put PRT_CTRL.enable 0 1
def seen : State := window (opened 3 up)
def wakes0 : State := (window (opened 4 up)).modPort 0 (fun d => { d with waking := true })
/-- Entry 2 of PF0's table is backed. -/
def vector2 (s : State) : State := ((s.put PEG_VMAP.assigned 2 1).put PEG_VMAP.function_ 2 0).put PEG_VMAP.entry 2 2
def overflowed : State := open0.put TXN_STATUS.overflow 0 1
def expired : State := timed (.txn 0) (open0.put TXN_TIMEOUT.timeout_ms 0 1)
/-- An engine that waits on its limiter for its next local read. -/
def localWords : List Word := [0x201, 0, 0x2000, 63, 63, 0, 0, 0]
def pacedLocal : State := (((window (opened 3 (bound (queue5 3 (withCur { running1 with words := localWords, d := { fetched1 with words := localWords } }))))).put SEG_CTRL.kind 9 0).put Q_CFG.rate_cap 5 100).modEng 24 (fun e => { e with paceFrom := some 5, allowedSrc := 10 ^ 12 })
/-- A lane word with a correct BIP-8. -/
def laneUnit (d : BitVec 128) : RxUnit := ⟨d, bip8 (leBytes 16 d.toNat), false⟩
/-- A marker of lane 0 at rate code 2: state in bits 45, 46, count 17, seeds 1 and 2. -/
def marker0 (farState : Nat) : BitVec 128 :=
  BitVec.ofNat 128 (0x5C1EA397 + 2 * 2 ^ 43 + farState * 2 ^ 45 + 17 * 2 ^ 48 + 1 * 2 ^ 64 + 2 * 2 ^ 96)
/-- The line bits of a word sent as it is, and of one scrambled from a seed. -/
def lineOf (d : BitVec 128) : LineIn := ⟨false, (stuff 0 false (soundBits d)).line⟩
def scrambled (x : Nat) (d : BitVec 128) : LineIn := ⟨false, (stuff 0 false ((soundBits d).zipWith Bool.xor (scramblerBits 136 x))).line⟩
def lane0 (st lock : Nat) (s : State) : State := ((s.put JL_STATUS.state 0 st).put JL_STATUS.word_lock 0 lock).put JL_STATUS.cdr_lock 0 lock
/-- JP0 in link state `st`. -/
def joist (st : Nat) (d : PortDyn) : State := (up.put JP_STATUS.link_state 0 st).setPort 0 d
def there : PortDyn := { PortDyn.reset with present := true, resetOut := false }
/-- Lanes 0 and 1 in an active period, before its word of slot 3993. -/
def inBody (s : State) : State :=
  s.each [0, 1] (fun s l => (((s.put JL_STATUS.state l 5).put JL_STATUS.word_lock l 1).put JL_STATUS.cdr_lock l 1).modLane l
    (fun d => { d with blind := false, farState := 0, pos := .body 100, scr := 77, period := 0 }))
/-- JP0 up and in frame. -/
def linked (d : PortDyn) : State :=
  inBody (joist 3 { d with present := true, resetOut := false, rxOpen := true, opened := true, unitMask := 3 })
/-- The unit of a link word and, for DATA, of its header. -/
def unit (w hi : Word) : RxUnit := laneUnit (hi ++ w)
/-- Lines that bring one unit on each lane. -/
def two (u v : RxUnit) : List LineIn := [scrambled 77 u.data, scrambled 77 v.data]
def link (kind seq : Nat) : Word := setBits (setBits (setBits 0 0 4 kind) 20 12 seq) 32 12 0xFFF
def frame1 (type : Nat) : Frame := ⟨0, type, none, false, 0, true, 5, 0, 64, 0x8000, 0, []⟩
def egress1 : EgFrame := ⟨0, true, 3, { frame1 2 with payload := List.replicate 64 1 }, .time, false⟩
def searching : State := (lane0 4 0 (joist 2 there)).modLane 0 (fun d => { d with good := 1, since := 1768 })
def trained : State :=
  (((joist 2 there).put JL_STATUS.word_lock 0 1).put JL_STATUS.word_lock 1 1).each [0, 1] (fun s l => s.modLane l (fun d => { d with sentReady := true, ready := 2 }))
def bad2 : State := (lane0 5 1 (joist 3 there)).modLane 0 (fun d => { d with bad := 2 })
def down0 (action cause : Nat) : State := timed (.downHold 0) ((((joist 5 there).put JP_CTRL.down_action 0 action).put JP_DOWN_LOG.cause 0 cause).setBayState 0 0)
/-- A host-view segment of PF0 for JP0 from local address 0x8000. -/
def hostSeg (s : State) : State := ((((((s.put SEG_CTRL.valid 9 1).put SEG_CTRL.kind 9 1).put SEG_CTRL.rd 9 1).put SEG_CTRL.wr 9 1).put SEG_SRC.src_base 9 8).put SEG_DST.dst_base 9 5).put SEG_LEN.pages_m1 9 15
def local1 (held : Bool) : LTag := ⟨0, 0, none, 0, 0, none, 0x8000, 0, 64, .window 7 0, held, false⟩
def came (f : Frame) (tags : List (Nat × LTag)) : State := hostSeg (linked { PortDyn.reset with ingress := [f], ltags := tags })
/-- The merger of JP0, scarfed, waits for the upper burst of a frame without payload. -/
def merging : State := timed (.merger 0) ((linked { PortDyn.reset with mergeFrom := some 999000, headUsed := some (0, 0), partial_ := [unit (link 1 0) 0] }).put JP_CTRL.scarf 0 1)
/-- Source 0 of PF0 enabled, in state `st`, with slot 0 at entry 0. -/
def peg0 (st : Nat) : State := ((up.put PEG_SRC_CTRL.enable 0 1).put PEG_SRC_STATUS.state 0 st).setWord .PEG_SRC_TGT 0 0x8000
/-- Entry 0 of PF0's table enabled and unmasked. -/
def msix0 (s : State) : State := (s.cfgPut 0 0xB0 31 1 1).setMsix 0 0 3 0
def held0 : State := { msix0 up with pba := [0] }
def masked0 : State := (peg0 1).put FUNC_STATE.bme 0 0
def auto0 (st : Nat) : State := (peg0 st).put PEG_SRC_CTRL.auto_eos 0 1
/-- Scribe capturing into bank `b`, with bank states `x` and `y`. -/
def banks (x y : Nat) : State := (up.put SCRIBE_STATUS.a_state 0 x).put SCRIBE_STATUS.b_state 0 y
def capt (b : Nat) : State := { banks 1 1 with scribe := ⟨some b, none, []⟩ }
def periodic : State := timed .scribe (banks 2 0 |>.put SCRIBE_CTRL.period_ms 0 1)
def periodic0 : State := timed .scribe (banks 0 2 |>.put SCRIBE_CTRL.period_ms 0 1 |>.put SCRIBE_SEQ.seq 0 0)
def entry5 : Entry := ⟨fetched1, 1, 0, false, 0, false, false, false⟩
def entry0 : Entry := ⟨{ fetched1 with words := [0x401 ||| 0x40, 0x1000, 0x2000, 63, 63, 0, 0, 0] }, 0, 64, false, 700, false, false, false⟩
def room5 (d : QDyn) : State := (queue5 3 d).put Q_RING.cq_vec_en 5 1
/-- The state in which the lanes of a port have taken line bits; what a lane's receiver begins with, keeps of them, and reads as a word. -/
def received (s : State) (p : PortId) (lines : List LineIn) : State := s.each ((s.portLanes p).zip lines) (fun s e => s.laneIn e.1 e.2)
def heard (s : State) (l : LaneId) (x : LineIn) : LaneDyn := if x.idle then (s.lane l).afterIdle else s.lane l
def keptOf (s : State) (l : LaneId) (x : LineIn) : Destuffed := destuff (heard s l x).rxRun (heard s l x).rxBit (heard s l x).rxBad x.bits
def wordOf (s : State) (l : LaneId) (x : LineIn) : RxUnit := rxWord (s.on JL_STATUS.inverted l) (keptOf s l x).kept


/-! ### How a hypothesis is checked -/

/-- `State.Writable` as a check. -/
def mayWrite (s : State) (a : Agent) (k : RegKind) (i : Nat) : Bool :=
  decide (s.reach a = 2) && (match a with | .fn f => decide (s.get HP_LINK_STATUS.pm_state (fnPort f) ≠ 2) | .ridge => true)
    && decide (s.rightTo a k i = .write) && s.ring.all (fun x => decide (x.master ≠ masterOf a))
    && s.steady (partRegion ⟨k, i, 0⟩)

theorem writable_of {s : State} {a : Agent} {k : RegKind} {i : Nat} (h : mayWrite s a k i = true) : s.Writable a k i := by
  simp only [mayWrite, Bool.and_eq_true, decide_eq_true_eq, List.all_eq_true] at h
  obtain ⟨⟨⟨⟨h1, h2⟩, h3⟩, h4⟩, h5⟩ := h
  refine ⟨h1, ?_, h3, h4, h5⟩
  rintro f rfl
  simpa using h2

theorem noFlr_of {s : State} (h : (s.funcs.all (fun e => !e.2.heldFlr) && s.hosts.all (fun e => !e.2.vfcHeld)) = true) :
    s.NoFlrWaits := by
  simpa [State.NoFlrWaits, List.all_eq_true] using h

theorem noEngine_of {s : State} (h : s.engines.all (fun e => e.2.q.isNone || e.2.draining) = true) : s.NoEngineRuns := by
  simpa [State.NoEngineRuns, List.all_eq_true] using h

theorem noTxn_of {s : State} (h : s.commits = [] ∧ ∀ c : CtxId, s.get TXN_STATUS.state c = 0) : s.NoTxn := h

theorem pass1_runs : pass1.passRuns := by and_intros <;> decide +kernel

theorem way_of {s : State} {q : Nat} (h : (s.host (fnPort (s.qOwner q))).waiting = [] ∧ s.hostOpen [0] (s.qOwner q) = true) : s.EntryWay q :=
  ⟨fun _ => by simp [State.hostPathBusy, State.pathWaits, h.1], h.2⟩

theorem some_of {α : Type} {o : Option α} {P : α → Prop} [DecidablePred P] (h : o.all (fun v => decide (P v)) = true) :
    ∀ v, o = some v → P v := by
  rintro v rfl
  simpa using h

theorem pair_of {o : Option (Nat × Nat)} {P : Nat → Nat → Prop} [∀ c t, Decidable (P c t)]
    (h : o.all (fun v => decide (P v.1 v.2)) = true) : ∀ c t, o = some (c, t) → P c t := by
  rintro c t rfl
  simpa using h

/-- The CRC-32C of a byte string from that of its parts. -/
theorem crc_append {xs ys : List Byte} {a b c : BitVec 32} (h : xs.foldl crcByte a = b) (k : ys.foldl crcByte b = c) :
    (xs ++ ys).foldl crcByte a = c := by
  rw [List.foldl_append, h, k]

theorem headBytes_crc : crc32c (headBytes.take 252) = 0x2B66DA25 := by
  have z : ∀ n, List.replicate (n + 58) (0 : Byte) = List.replicate 58 0 ++ List.replicate n 0 :=
    fun n => by rw [List.replicate_append_replicate, Nat.add_comm]
  have e : headBytes.take 252 = headStart ++ List.replicate 232 0 := List.take_left' (by decide +kernel)
  have f : (headBytes.take 252).foldl crcByte 0xFFFFFFFF = 0xD49925DA := by
    rw [e, z 174, z 116, z 58, z 0]
    exact crc_append (b := 0xC1E719F0) (by decide +kernel) (crc_append (b := 0xC5E0D0D7) (by decide +kernel)
      (crc_append (b := 0x4B531EE8) (by decide +kernel) (crc_append (b := 0xD455FAE8) (by decide +kernel)
        (crc_append (b := 0xD49925DA) (by decide +kernel) rfl))))
  rw [crc32c, f]
  decide

theorem readBytes_append (d : Nat → Byte) (t : Tbl Byte) (m n a : Nat) :
    Tbl.readBytes d t a (m + n) = Tbl.readBytes d t a m ++ Tbl.readBytes d t (a + m) n := by
  induction m generalizing a with
  | zero => simp [Tbl.readBytes]
  | succ m ih => rw [Nat.add_right_comm, Tbl.readBytes, Tbl.readBytes, ih]; simp [Nat.add_comm, Nat.add_left_comm]

theorem booting_flash : booting.flash 0x1900000 256 = headBytes := by
  have z : ∀ n, List.replicate (n + 58) (0 : Byte) = List.replicate 58 0 ++ List.replicate n 0 :=
    fun n => by rw [List.replicate_append_replicate, Nat.add_comm]
  rw [headBytes, z 174, z 116, z 58, State.flash]
  have p {d : Nat → Byte} {t : Tbl Byte} {m n a : Nat} {us vs : List Byte} (h : Tbl.readBytes d t a m = us)
      (k : Tbl.readBytes d t (a + m) n = vs) : Tbl.readBytes d t a (m + n) = us ++ vs := by rw [readBytes_append, h, k]
  simp only [List.append_assoc]
  refine p (m := 20) (n := 236) ?_ (p (m := 58) (n := 178) ?_ (p (m := 58) (n := 120) ?_ (p (m := 58) (n := 62) ?_ (p (m := 58) (n := 4) ?_ ?_))))
  all_goals decide +kernel

theorem booting_header : booting.imageHeader 1 = some headBytes := by
  rw [State.imageHeader, (by decide : slotBase 1 = 0x1900000), booting_flash]
  exact if_pos ⟨by decide +kernel, by rw [headBytes_crc]; decide +kernel⟩

theorem booting_slot : booting.runSlot = some (1, headBytes) := by
  have a : booting.activeSlot = 1 := by decide +kernel
  rw [State.runSlot, a, booting_header]

/-! ### Hypotheses of the statements are met -/

theorem witness_IdleStepPassesTime :
    (∃ (s : State), s.pending = []) :=
  ⟨up, by decide +kernel⟩

theorem witness_PlumbArithmeticComputes :
    (∃ (s : State), s.passRuns) :=
  ⟨pass1, pass1_runs⟩

theorem witness_PlumbInputsCompute :
    (∃ (s : State) (n x : Fin 64), s.passRuns ∧ ↑x < indexCount ↑n)
    ∧ (∃ (s : State) (n m1 : Fin 64), s.passRuns ∧ (↑n + ↑m1 < 60 ∨ ↑n = 63 ∧ ↑m1 = 0))
    ∧ (∃ (s : State), s.passRuns)
    ∧ (∃ (s : State) (c : Fin 64), s.passRuns ∧ ↑c ≠ 63) :=
  ⟨⟨pass1, 0, 0, pass1_runs, by decide +kernel⟩,
    ⟨pass1, 0, 0, pass1_runs, by decide +kernel⟩,
    ⟨pass1, pass1_runs⟩,
    ⟨pass1, 0, pass1_runs, by decide +kernel⟩⟩

theorem witness_PlumbComparisons :
    (∃ (s : State) (b : Fin 16), s.passRuns ∧ ↑b ≠ 15) :=
  ⟨pass1, 1, pass1_runs, by decide +kernel⟩

theorem witness_PlumbActionsCollect :
    (∃ (s : State) (step : Fin 8), s.passRuns ∧ 1 ≤ ↑step ∧ ↑step ≤ 4)
    ∧ (∃ (s : State) (r : Fin 256), s.passRuns ∧ ↑r ≤ 38)
    ∧ (∃ (s : State) (r : Fin 256), s.passRuns ∧ ↑r ≤ 33)
    ∧ (∃ (s : State) (n : Fin 256), s.passRuns ∧ (↑n = 0 ∨ ↑n = 4))
    ∧ (∃ (s : State), s.passRuns) :=
  ⟨⟨pass1, 4, pass1_runs, by decide +kernel⟩,
    ⟨pass1, 38, pass1_runs, le_of_eq rfl⟩,
    ⟨pass1, 33, pass1_runs, le_of_eq rfl⟩,
    ⟨pass1, 4, pass1_runs, Or.inr rfl⟩,
    ⟨pass1, pass1_runs⟩⟩

theorem witness_PlumbProgramRuns :
    (∃ (s : State), s.passRuns ∧ s.plumb.shadow.length = 288)
    ∧ (∃ (s : State) (k : Fin 512), s.passRuns ∧ s.plumb.shadow.length = 288 ∧ ↑k ≤ 287)
    ∧ (∃ (s : State) (c : Instr), s.passRuns ∧ s.plumb.shadow.length = 288 ∧ plumbLegal c = false) :=
  ⟨⟨pass1, pass1_runs, by decide +kernel⟩,
    ⟨pass1, 287, pass1_runs, by decide +kernel⟩,
    ⟨pass1, .smax 0 63 5, pass1_runs, by decide +kernel⟩⟩

theorem witness_PlumbPassesRun :
    (∃ (s : State) (x : PlumbInputs), wfInputs x = true ∧ s.plumbRuns = true ∧ s.fires Timer.plumb = true ∧ s.plumb.inPass = false)
    ∧ (∃ (s : State), s.isUp = true ∧ s.plumb.inPass = true ∧ s.plumb.shutdown = false ∧ s.plumb.hot < 3) :=
  ⟨⟨passDue, sensed, by decide +kernel⟩,
    ⟨pass1, by decide +kernel⟩⟩

theorem witness_SpdmNegotiates :
    (∃ (s : State) (t : Transport), s.spdmReady t = true)
    ∧ (∃ (s : State) (t : Transport), s.spdmReady t = true ∧ 1 ≤ (s.conn t).stage)
    ∧ (∃ (s : State) (t : Transport), s.spdmReady t = true ∧ 2 ≤ (s.conn t).stage)
    ∧ (∃ (s : State) (t : Transport), s.spdmReady t = true ∧ 3 ≤ (s.conn t).stage)
    ∧ (∃ (s : State) (t : Transport) (len : Nat), s.spdmReady t = true ∧ 3 ≤ (s.conn t).stage ∧ len ≤ 4088) :=
  ⟨⟨up, .mctp 0x60, by decide +kernel⟩,
    ⟨(conns 3 none none).modRidge (fun r => { r with startup := [0, 1] }), .mctp 0x60, by decide +kernel⟩,
    ⟨(conns 3 none none).modRidge (fun r => { r with startup := [0, 1] }), .mctp 0x60, by decide +kernel⟩,
    ⟨(conns 3 none none).modRidge (fun r => { r with startup := [0, 1] }), .mctp 0x60, by decide +kernel⟩,
    ⟨(conns 3 none none).modRidge (fun r => { r with startup := [0, 1] }), .mctp 0x60, 1, by decide +kernel⟩⟩

theorem witness_SpdmAttests :
    (∃ (s : State) (t : Transport) (x : List Byte), s.spdmReady t = true ∧ 3 ≤ (s.conn t).stage ∧ x.length = 96 ∧ s.attestRefused = none)
    ∧ (∃ (s : State) (t : Transport) (x : List Byte) (i : Byte), s.spdmReady t = true ∧ 3 ≤ (s.conn t).stage ∧ x.length = 96 ∧ s.attestRefused = none ∧ 1 ≤ BitVec.toNat i ∧ BitVec.toNat i ≤ 17)
    ∧ (∃ (s : State) (t : Transport) (x : List Byte), s.spdmReady t = true ∧ 3 ≤ (s.conn t).stage ∧ x.length = 96 ∧ s.attestRefused = none ∧ (s.sessionsOn t).length < 2)
    ∧ (∃ (s : State) (t : Transport) (x : List Byte), s.spdmReady t = true ∧ 3 ≤ (s.conn t).stage ∧ x.length = 96 ∧ s.attestRefused = none ∧ 2 ≤ (s.sessionsOn t).length)
    ∧ (∃ (s : State) (t : Transport) (x : List Byte) (i : Byte), s.spdmReady t = true ∧ 3 ≤ (s.conn t).stage ∧ x.length = 96 ∧ 1 ≤ BitVec.toNat i ∧ BitVec.toNat i ≤ 17)
    ∧ (∃ (s : State) (t : Transport) (x : List Byte), s.spdmReady t = true ∧ 3 ≤ (s.conn t).stage ∧ x.length = 96 ∧ s.on GLOBAL_STATUS.identity_degraded = true)
    ∧ (∃ (s : State) (t : Transport) (x : List Byte), s.spdmReady t = true ∧ 3 ≤ (s.conn t).stage ∧ x.length = 96 ∧ s.on GLOBAL_STATUS.identity_degraded = false ∧ s.on SEC_STATUS.rng_failed = true)
    ∧ (∃ (s : State) (t : Transport) (x : List Byte), s.spdmReady t = true ∧ 3 ≤ (s.conn t).stage ∧ x.length = 96 ∧ s.on GLOBAL_STATUS.identity_degraded = false ∧ s.on SEC_STATUS.rng_failed = false ∧ s.drbgReady = false) :=
  ⟨⟨(sessions0 [⟨1, some 0, true⟩]).modHost 0 (fun g => { g with ide := [(0, ⟨[(0, 5), (1, 6)], some 0, none, false⟩)] }), .mctp 0x60, List.replicate 96 0, by decide +kernel⟩,
    ⟨(sessions0 [⟨1, some 0, true⟩]).modHost 0 (fun g => { g with ide := [(0, ⟨[(0, 5), (1, 6)], some 0, none, false⟩)] }), .mctp 0x60, List.replicate 96 0, 1, by decide +kernel⟩,
    ⟨(sessions0 [⟨1, some 0, true⟩]).modHost 0 (fun g => { g with ide := [(0, ⟨[(0, 5), (1, 6)], some 0, none, false⟩)] }), .mctp 0x60, List.replicate 96 0, by decide +kernel⟩,
    ⟨sessions0 [⟨1, none, true⟩, ⟨2, none, true⟩], .mctp 0x60, List.replicate 96 0, by decide +kernel⟩,
    ⟨(conns 3 none none).modRidge (fun r => { r with startup := [0, 1] }), .mctp 0x60, List.replicate 96 0, 1, by decide +kernel⟩,
    ⟨(conns 3 none none).put GLOBAL_STATUS.identity_degraded 0 1, .mctp 0x60, List.replicate 96 0, by decide +kernel⟩,
    ⟨(conns 3 none none).put SEC_STATUS.rng_failed 0 1, .mctp 0x60, List.replicate 96 0, by decide +kernel⟩,
    ⟨(conns 3 none none).modRidge (fun r => { r with startup := [0, 1] }), .mctp 0x60, List.replicate 96 0, by decide +kernel⟩⟩

theorem witness_SpdmSessions :
    (∃ (s : State) (t : Transport) (id : Nat) (x : Session), s.spdmReady t = true ∧ 3 ≤ (s.conn t).stage ∧ s.session t id = some x ∧ x.confirmed = false)
    ∧ (∃ (s : State) (t : Transport) (id : Nat) (x : Session), s.spdmReady t = true ∧ 3 ≤ (s.conn t).stage ∧ s.session t id = some x ∧ x.confirmed = true)
    ∧ (∃ (s : State) (t : Transport), s.spdmReady t = true ∧ 3 ≤ (s.conn t).stage ∧ (s.conn t).chunkIn = none)
    ∧ (∃ (s : State) (t : Transport) (handle : Byte) (seq : Nat), s.spdmReady t = true ∧ 3 ≤ (s.conn t).stage ∧ (s.conn t).chunkIn = some (BitVec.toNat handle, seq))
    ∧ (∃ (s : State) (t : Transport) (handle : Byte) (seq : Nat) (bs : List Byte), s.spdmReady t = true ∧ 3 ≤ (s.conn t).stage ∧ (s.conn t).chunkOut = some (BitVec.toNat handle, seq, bs))
    ∧ (∃ (s : State) (t : Transport) (h : HostId), s.spdmReady t = true ∧ 3 ≤ (s.conn t).stage ∧ t = Transport.doe h) :=
  ⟨⟨sessions0 [⟨1, none, false⟩], .mctp 0x60, 1, ⟨1, none, false⟩, by decide +kernel⟩,
    ⟨(sessions0 [⟨1, some 0, true⟩]).modHost 0 (fun g => { g with ide := [(0, ⟨[(0, 5), (1, 6)], some 0, none, false⟩)] }), .doe 0, 1, ⟨1, some 0, true⟩, by decide +kernel⟩,
    ⟨(conns 3 none none).modRidge (fun r => { r with startup := [0, 1] }), .mctp 0x60, by decide +kernel⟩,
    ⟨conns 3 (some (1, 2)) (some (1, 3, [7])), .mctp 0x60, 1, 2, by decide +kernel⟩,
    ⟨conns 3 (some (1, 2)) (some (1, 3, [7])), .mctp 0x60, 1, 3, [7], by decide +kernel⟩,
    ⟨(conns 3 none none).modRidge (fun r => { r with startup := [0, 1] }), .doe 0, 0, by decide +kernel⟩⟩

theorem witness_IdeKeysProgram :
    (∃ (s : State) (h : HostId), s.kmReady ↑h = true)
    ∧ (∃ (s : State) (h : HostId) (i : Fin 9) (k : Fin 2), s.kmReady ↑h = true ∧ find1 (↑k) (s.ideStream ↑h ↑i).keys ≠ none ∧ ((s.ideStream ↑h ↑i).active = none ∨ (s.ideStream ↑h ↑i).active = some ↑k))
    ∧ (∃ (s : State) (h : HostId) (i : Fin 9) (k : Fin 2) (j : Nat), s.kmReady ↑h = true ∧ find1 (↑k) (s.ideStream ↑h ↑i).keys ≠ none ∧ (s.ideStream ↑h ↑i).active = some j ∧ j ≠ ↑k)
    ∧ (∃ (s : State) (h : HostId) (i : Fin 9) (k : Fin 2), s.kmReady ↑h = true ∧ (s.ideStream ↑h ↑i).active = some ↑k)
    ∧ (∃ (s : State) (h : HostId) (id : Nat) (y : Session), s.kmReady ↑h = true ∧ s.spdmReady (Transport.doe h) = true ∧ 3 ≤ (s.conn (Transport.doe h)).stage ∧ s.session (Transport.doe h) id = some y ∧ y.confirmed = true) :=
  ⟨⟨(sessions0 [⟨1, some 0, true⟩]).modHost 0 (fun g => { g with ide := [(0, ⟨[(0, 5), (1, 6)], some 0, none, false⟩)] }), 0, by decide +kernel⟩,
    ⟨(sessions0 [⟨1, some 0, true⟩]).modHost 0 (fun g => { g with ide := [(0, ⟨[(0, 5), (1, 6)], some 0, none, false⟩)] }), 0, 0, 0, by decide +kernel⟩,
    ⟨(sessions0 [⟨1, some 0, true⟩]).modHost 0 (fun g => { g with ide := [(0, ⟨[(0, 5), (1, 6)], some 0, none, false⟩)] }), 0, 0, 1, 0, by decide +kernel⟩,
    ⟨(sessions0 [⟨1, some 0, true⟩]).modHost 0 (fun g => { g with ide := [(0, ⟨[(0, 5), (1, 6)], some 0, none, false⟩)] }), 0, 0, 0, by decide +kernel⟩,
    ⟨(sessions0 [⟨1, some 0, true⟩]).modHost 0 (fun g => { g with ide := [(0, ⟨[(0, 5), (1, 6)], some 0, none, false⟩)] }), 0, 1, ⟨1, some 0, true⟩, by decide +kernel⟩⟩

theorem witness_IdeFailureEndsStream :
    (∃ (s : State) (h : HostId) (i : Fin 9), (s.ideStream ↑h ↑i).active ≠ none) :=
  ⟨(sessions0 [⟨1, some 0, true⟩]).modHost 0 (fun g => { g with ide := [(0, ⟨[(0, 5), (1, 6)], some 0, none, false⟩)] }), 0, 0, by decide +kernel⟩

theorem witness_MctpControlAnswers :
    (∃ (s : State) (e : Byte), s.ridge.running = true ∧ s.ridgeLive = true ∧ BitVec.toNat e ≠ 0 ∧ BitVec.toNat e ≠ 255)
    ∧ (∃ (s : State), s.ridge.running = true ∧ s.ridgeLive = true)
    ∧ (∃ (s : State) (a : SmbusAddr), BitVec.toNat a ≠ 96 + s.pins.slotId % 16) :=
  ⟨⟨up, 1, by decide +kernel⟩,
    ⟨up, by decide +kernel⟩,
    ⟨up, 0x61, by decide +kernel⟩⟩

theorem witness_InformationCommands :
    (∃ (s : State) (c : Caller), s.served? c 1 = true ∧ s.requestOf c = [])
    ∧ (∃ (s : State) (c : Caller), s.served? c 2 = true ∧ (s.requestOf c).length = 4)
    ∧ (∃ (s : State) (c : Caller), s.served? c 3 = true ∧ (s.requestOf c).length = 2 ∧ 1 ≤ leAt (s.requestOf c) 0 2 ∧ leAt (s.requestOf c) 0 2 ≤ 4096 ∧ s.drbgReady = true)
    ∧ (∃ (s : State) (c : Caller), s.served? c 3 = true ∧ (s.requestOf c).length = 2 ∧ 1 ≤ leAt (s.requestOf c) 0 2 ∧ leAt (s.requestOf c) 0 2 ≤ 4096 ∧ s.drbgReady = false) :=
  ⟨⟨up, .mctp 0x60 [], by decide +kernel⟩,
    ⟨up, .mctp 0x60 [0, 0, 0, 0], by decide +kernel⟩,
    ⟨up, .mctp 0x60 [32, 0], by decide +kernel⟩,
    ⟨up.put SEC_STATUS.rng_blocked 0 1, .mctp 0x60 [32, 0], by decide +kernel⟩⟩

theorem witness_FirmwareUpdates :
    (∃ (s : State) (c : Caller), (∀ (v : Update), s.ridge.update = some v → v.caller = callerNo c) ∧ s.isOwner c = true ∧ s.served? c 16 = true ∧ (s.requestOf c).length = 4 ∧ leAt (s.requestOf c) 0 4 ≤ slotSize)
    ∧ (∃ (s : State) (c : Caller) (u : Update), s.isOwner c = true ∧ s.served? c 17 = true ∧ s.ridge.update = some u ∧ u.caller = callerNo c ∧ 4 ≤ (s.requestOf c).length ∧ (s.requestOf c).length ≤ 4096 ∧ leAt (s.requestOf c) 0 4 = u.written ∧ u.written + (s.requestOf c).length - 4 ≤ slotSize)
    ∧ (∃ (s : State) (c : Caller) (u : Update), s.isOwner c = true ∧ s.served? c 18 = true ∧ s.ridge.update = some u ∧ u.caller = callerNo c ∧ s.requestOf c = [])
    ∧ (∃ (s : State) (c : Caller) (u : Update), (∀ (d : Nat × Nat × Nat), s.directory = some d → d.snd.fst + 1 < 2 ^ 32) ∧ s.isOwner c = true ∧ s.served? c 19 = true ∧ s.ridge.update = some u ∧ u.caller = callerNo c ∧ s.requestOf c = [] ∧ u.finished = true)
    ∧ (∃ (s : State) (c : Caller), (∀ (v : Update), s.ridge.update = some v → v.caller = callerNo c) ∧ s.isOwner c = true ∧ s.served? c 31 = true ∧ s.requestOf c = []) :=
  ⟨⟨up, .mctp 0x60 [0, 0, 0, 0], some_of (by decide +kernel), by decide +kernel⟩,
    ⟨updating 0 false, .mctp 0x60 [0, 0, 0, 0], ⟨4, 600, 0, false, 1⟩, by decide +kernel⟩,
    ⟨updating 0 false, .mctp 0x60 [], ⟨4, 600, 0, false, 1⟩, by decide +kernel⟩,
    ⟨flashed (flashed (updating 600 true) 0 (dirBytes 1)) 0x1000 (dirBytes 1), .mctp 0x60 [], ⟨4, 600, 600, true, 1⟩, some_of (by decide +kernel), by decide +kernel⟩,
    ⟨up, .mctp 0x60 [], some_of (by decide +kernel), by decide +kernel⟩⟩

theorem witness_RidgeCommands :
    (∃ (s : State) (a : SmbusAddr), s.NoTxn ∧ s.served? (Caller.mctp a []) 20 = true)
    ∧ (∃ (s : State) (h : HostId), s.served? (Caller.mailbox h) 20 = true ∧ ↑h = s.owner ∧ s.requestOf (Caller.mailbox h) = [])
    ∧ (∃ (s : State) (c : Caller), s.served? c 16 = true ∧ s.isOwner c = false)
    ∧ (∃ (s : State) (h : HostId), s.served? (Caller.mailbox h) 32 = true)
    ∧ (∃ (s : State) (h : HostId), s.served? (Caller.mailbox h) 33 = true)
    ∧ (∃ (s : State) (a : SmbusAddr) (req : List Byte), s.served? (Caller.mctp a req) 32 = true ∧ req.length = 3 ∧ leAt req 0 3 % 4 = 0 ∧ (∀ (x : RingAccess), x ∈ s.ring → x.master ≠ 4) ∧ s.steady (s.regionAt Agent.ridge (leAt req 0 3 / 8 * 8)) = true)
    ∧ (∃ (s : State) (a : SmbusAddr) (req : List Byte), s.served? (Caller.mctp a req) 33 = true ∧ req.length = 12 ∧ leAt req 0 3 % 4 = 0 ∧ (∀ (x : RingAccess), x ∈ s.ring → x.master ≠ 4) ∧ s.steady (s.regionAt Agent.ridge (leAt req 0 3 / 8 * 8)) = true) :=
  ⟨⟨up, 0x60, noTxn_of (by decide +kernel), by decide +kernel⟩,
    ⟨asked 0x14 [], 0, by decide +kernel⟩,
    ⟨(asked 0x10 [0, 1, 0, 0]).put GLOBAL_CTRL.cfg_owner 0 2, .mailbox 0, by decide +kernel⟩,
    ⟨asked 0x20 [], 0, by decide +kernel⟩,
    ⟨asked 0x21 [], 0, by decide +kernel⟩,
    ⟨up, 0x60, [0, 0x10, 0], by decide +kernel⟩,
    ⟨up, 0x60, [0, 0x10, 0, 8, 0, 0, 0, 0, 0, 0, 0, 77], by decide +kernel⟩⟩

theorem witness_MailboxCommandsEnd :
    (∃ (s : State) (h : HostId) (m : MbRun), s.get MB_STATUS.state ↑h = 1 ∧ s.ridge.running = true ∧ List.find? (fun x => x.h == ↑h) s.ridge.mailbox = some m ∧ m.result < 256 ∧ m.rsp.length ≤ 4096 ∧ (m.opcode = 20 → m.result ≠ 0))
    ∧ (∃ (s : State) (h : HostId), s.get MB_STATUS.state ↑h = 1 ∧ s.ridge.running = true ∧ List.find? (fun x => x.h == ↑h) s.ridge.mailbox = none ∧ ¬s.get MB_CMD.opcode ↑h ∈ [1, 2, 3, 16, 17, 18, 19, 20, 31, 32, 33])
    ∧ (∃ (s : State) (h : HostId) (a : Agent), s.Writable a RegKind.MB_CTRL ↑h ∧ s.get MB_STATUS.state ↑h = 1 ∧ List.find? (fun x => x.h == ↑h) s.ridge.mailbox = none) :=
  ⟨⟨answered0, 0, ⟨0, 0, [1, 2, 3, 4, 5, 6, 7, 8, 9], 1⟩, by decide +kernel⟩,
    ⟨asked 0x77 [], 0, by decide +kernel⟩,
    ⟨asked 1 [], 0, .ridge, writable_of (by decide +kernel), by decide +kernel⟩⟩

theorem witness_RandomNumbersAndMeasurements :
    (∃ (s : State) (test : Fin 4), s.ridgeLive = true ∧ ↑test ≠ 0)
    ∧ (∃ (s : State) (src : Fin 2), s.ridgeLive = true ∧ ↑src ∈ s.ridge.startup)
    ∧ (∃ (s : State), s.drbgReady = true)
    ∧ (∃ (s : State) (slot : Fin 16), s.ridge.running = true ∧ 8 ≤ ↑slot)
    ∧ (∃ (s : State) (k : Nat) (hd : List Byte), s.runSlot = some (k, hd) ∧ s.ridgeLive = true ∧ s.ridge.running = false ∧ s.on SEC_STATUS.meas_locked = false ∧ k < 2) :=
  ⟨⟨up, 1, by decide +kernel⟩,
    ⟨blocked, 1, by decide +kernel⟩,
    ⟨up, by decide +kernel⟩,
    ⟨up, 8, by decide +kernel⟩,
    ⟨booting, 1, headBytes, booting_slot, by decide +kernel⟩⟩

theorem witness_RidgeFailuresHoldRidge :
    (∃ (s : State), s.RidgeSteady)
    ∧ (∃ (s : State), s.RidgeSteady ∧ s.fires Timer.selftest = true)
    ∧ (∃ (s : State), s.RidgeSteady ∧ s.fires Timer.watchdog = true)
    ∧ (∃ (s : State) (a : Nat), s.RidgeSteady ∧ wfFlash a = true)
    ∧ (∃ (s : State) (cause : Fin 6), s.RidgeSteady ∧ ↑cause ≠ 0) :=
  ⟨⟨up, by constructor <;> first | decide +kernel | exact ⟨by decide +kernel, by decide +kernel⟩⟩,
    ⟨timed .selftest up, by constructor <;> first | decide +kernel | exact ⟨by decide +kernel, by decide +kernel⟩, by decide +kernel⟩,
    ⟨timed .watchdog up, by constructor <;> first | decide +kernel | exact ⟨by decide +kernel, by decide +kernel⟩, by decide +kernel⟩,
    ⟨up, 0, by constructor <;> first | decide +kernel | exact ⟨by decide +kernel, by decide +kernel⟩, by decide +kernel⟩,
    ⟨up, 3, by constructor <;> first | decide +kernel | exact ⟨by decide +kernel, by decide +kernel⟩, by decide +kernel⟩⟩

theorem witness_TrestleRestarts :
    (∃ (s : State), s.get PWR_STATE_MISC.ridge = 5 ∧ s.get GLOBAL_STATUS.degraded = 0 ∧ s.ridge.planned = false ∧ s.fires Timer.restart = true)
    ∧ (∃ (s : State), s.Writable Agent.ridge RegKind.BRACE_TRESTLE 0)
    ∧ (∃ (s : State), s.NoTxn ∧ s.get PWR_STATE_MISC.ridge = 0 ∧ s.ridge.planned = false ∧ s.fires Timer.restart = true ∧ s.get BRACE_TRESTLE.restarts = 3 ∧ s.get GLOBAL_STATUS.degraded = 0)
    ∧ (∃ (s : State), s.NoTxn ∧ s.get PWR_STATE_MISC.ridge = 0 ∧ s.ridge.planned = false ∧ s.fires Timer.restart = true ∧ s.get BRACE_TRESTLE.restarts ≠ 3)
    ∧ (∃ (s : State), s.fires Timer.restartCount = true) :=
  ⟨⟨ridgeDown, by decide +kernel⟩,
    ⟨up, writable_of (by decide +kernel)⟩,
    ⟨restarting 3, noTxn_of (by decide +kernel), by decide +kernel⟩,
    ⟨restarting 0, noTxn_of (by decide +kernel), by decide +kernel⟩,
    ⟨timed .restartCount up, by decide +kernel⟩⟩

theorem witness_FaultsReported :
    (∃ (s : State) (n : Fin 14) (c : Fin 64) (inst : Nat) (loc : Word), s.isUp = true ∧ (↑n, ↑c) ∈ [(0, 4), (0, 5), (1, 0), (1, 2), (3, 0), (5, 0), (6, 0), (7, 2), (7, 3), (9, 0), (9, 1), (9, 2), (10, 1), (11, 4), (12, 0), (12, 2), (12, 3), (12, 4), (13, 1), (13, 2)] ∧ (↑n = 5 → inst < 1024) ∧ (↑n = 9 ∧ ↑c = 1 → BitVec.toNat loc < 24576) ∧ (↑n = 9 ∧ ↑c = 2 → BitVec.toNat loc < 65536))
    ∧ (∃ (s : State) (n : Fin 14) (c : Fin 64) (inst : Nat) (loc chk : Word) (i : Instr), s.powered = true ∧ s.phase ≠ Phase.tripped ∧ (↑n, ↑c) ∈ [(6, 2), (12, 5), (12, 6), (13, 3), (13, 4)] ∧ i ∈ [Instr.safeStateEntry n c, Instr.faultEvent n c inst loc chk])
    ∧ (∃ (s : State) (inst : Nat), s.isUp = true ∧ inst < 1024)
    ∧ (∃ (s : State) (inst : Nat) (loc : Word) (n : Fin 14) (c : Fin 64), s.isUp = true ∧ (↑n, ↑c) ∈ [(1, 1), (2, 1), (3, 2), (9, 1), (9, 2)] ∧ inst < 1024 ∧ BitVec.toNat loc < 4096)
    ∧ (∃ (s : State) (n : Fin 14) (c : Fin 64), s.isUp = true ∧ (↑n, ↑c) ∈ [(0, 4), (0, 5), (1, 2), (7, 2), (7, 3), (13, 1), (13, 2)] ∧ s.get BRACE_CTRL.hist_notices = 0 ∧ s.steady 34 = true)
    ∧ (∃ (s : State) (rail : Fin 13) (r : RegionId), s.isUp = true ∧ railFeeds ↑rail ↑r = true ∧ ↑rail ∈ [0, 1, 2, 3, 10, 12])
    ∧ (∃ (s : State) (rail : Fin 13) (r : RegionId), s.isUp = true ∧ railFeeds ↑rail ↑r = true ∧ ↑rail ∈ [4, 5, 6, 7, 8, 9]) :=
  ⟨⟨up, 0, 4, 1023, 0, by decide +kernel⟩,
    ⟨up, 6, 2, 1023, 0, 0, .safeStateEntry 6 2, by decide +kernel⟩,
    ⟨up, 1023, by decide +kernel⟩,
    ⟨up, 1023, 0, 1, 1, by decide +kernel⟩,
    ⟨up.put BRACE_CTRL.hist_notices 0 0, 0, 4, by decide +kernel⟩,
    ⟨up, 1, 0, by decide +kernel⟩,
    ⟨up, 4, 24, by decide +kernel⟩⟩

theorem witness_FaultRecovery :
    (∃ (s : State) (g : Fin 6) (rest : List (Nat × Bool)), s.isUp = true ∧ s.brace.queue = (124 + g.val, false) :: rest ∧ s.get GLOBAL_STATUS.ridge_down = 0)
    ∧ (∃ (s : State) (g : Fin 6) (rest : List (Nat × Bool)), s.isUp = true ∧ s.brace.queue = (124 + g.val, true) :: rest ∧ (∀ (i : Fin 8), (s.eng (8 * ↑g + ↑i)).q = none) ∧ s.get BRACE_DSTATE.severe (124 + g.val) = 0)
    ∧ (∃ (s : State) (g : Fin 6) (rest : List (Nat × Bool)), s.isUp = true ∧ s.brace.queue = (124 + g.val, true) :: rest ∧ (∀ (i : Fin 8), (s.eng (8 * ↑g + ↑i)).q = none))
    ∧ (∃ (s : State) (n : Fin 14) (c : Fin 64) (inst : Nat), s.isUp = true ∧ s.fires (Timer.classifier (↑n) (↑c) inst) = true)
    ∧ (∃ (s : State) (a : Agent) (n : Fin 14), s.Writable a RegKind.FAULT_DETAIL ↑n ∧ s.isUp = true ∧ s.brace.levels = [])
    ∧ (∃ (s : State) (a : Agent) (d : Byte), s.Writable a RegKind.BRACE_RELEASE 0 ∧ s.isUp = true ∧ BitVec.toNat d < 130 ∧ s.get BRACE_DSTATE.state (BitVec.toNat d) = 3) :=
  ⟨⟨group3 false, 3, [(5, false)], by decide +kernel⟩,
    ⟨group3 true, 3, [(5, false)], by decide +kernel⟩,
    ⟨group3 true, 3, [(5, false)], by decide +kernel⟩,
    ⟨classified, 4, 3, 7, by decide +kernel⟩,
    ⟨up, .ridge, 4, writable_of (by decide +kernel), by decide +kernel⟩,
    ⟨heldDomain, .ridge, 129, writable_of (by decide +kernel), by decide +kernel⟩⟩

theorem witness_PowerUpSequence :
    (∃ (s : State) (fuses : List FuseRead), s.phase = Phase.off ∧ wfFuses fuses = true ∧ s.pins.standby = false ∧ s.pins.modReset = false)
    ∧ (∃ (s : State) (fuses : List FuseRead), s.phase = Phase.off ∧ wfFuses fuses = true ∧ s.pins.standby = true)
    ∧ (∃ (s : State) (fuses : List FuseRead), s.phase = Phase.off ∧ wfFuses fuses = true ∧ s.pins.standby = false ∧ s.pins.modReset = true)
    ∧ (∃ (s : State), s.phase = Phase.scanning ∧ s.rssBusy = false)
    ∧ (∃ (s : State), s.phase = Phase.awaitPermit ∧ s.plumb.sensors ≠ [] ∧ s.pins.dieHot = false ∧ s.pins.inletHot = false)
    ∧ (∃ (s : State) (c : Candidate), s.phase = Phase.starting ∧ s.restore = some c) :=
  ⟨⟨State.reset, fuseReads, by decide +kernel⟩,
    ⟨{ State.reset with pins := { PinDyn.reset with standby := true } }, fuseReads, by decide +kernel⟩,
    ⟨{ State.reset with pins := { PinDyn.reset with modReset := true } }, fuseReads, by decide +kernel⟩,
    ⟨stage .scanning, by decide +kernel⟩,
    ⟨(stage .awaitPermit).modPlumb (fun p => { p with sensors := sensed.sensors }), by decide +kernel⟩,
    ⟨stage .starting, ⟨3, 0, []⟩, by decide +kernel⟩⟩

theorem witness_PowerEnds :
    (∃ (s : State), s.isUp = true ∧ s.rssBusy = false)
    ∧ (∃ (s : State), s.isUp = true ∧ s.rssBusy = true)
    ∧ (∃ (s : State) (lowNs : Nat), s.isUp = true ∧ s.pins.standby = false ∧ 10000 ≤ lowNs)
    ∧ (∃ (s : State) (lowNs : Nat), s.isUp = true ∧ s.pins.standby = false ∧ 2000 ≤ lowNs ∧ lowNs < 10000)
    ∧ (∃ (lowNs : Nat), lowNs < 2000)
    ∧ (∃ (s : State), s.phase = Phase.heldReset ∧ s.pins.standby = false)
    ∧ (∃ (s : State) (lowNs : Nat), s.isUp = true ∧ s.rssBusy = false ∧ 100000 ≤ lowNs)
    ∧ (∃ (s : State) (lowNs : Nat), s.phase = Phase.standby ∧ 100000 ≤ lowNs)
    ∧ (∃ (s : State), s.powered = true)
    ∧ (∃ (s : State), s.phase = Phase.deferring ∧ s.fires Timer.deferral = true) :=
  ⟨⟨up, by decide +kernel⟩,
    ⟨saving up, by decide +kernel⟩,
    ⟨up, 10000, by decide +kernel⟩,
    ⟨up, 5000, by decide +kernel⟩,
    ⟨1999, by decide +kernel⟩,
    ⟨stage .heldReset, by decide +kernel⟩,
    ⟨up, 100000, by decide +kernel⟩,
    ⟨stage .standby, 100000, by decide +kernel⟩,
    ⟨up, by decide +kernel⟩,
    ⟨timed .deferral (saving (stage .deferring)), by decide +kernel⟩⟩

theorem witness_HostPortsStart :
    (∃ (s : State), s.NoTxn ∧ s.portsPowered = true)
    ∧ (∃ (s : State) (h : HostId) (o : LinkOffer), s.mayTrain ↑h = true ∧ s.get HP_LINK_STATUS.link_up ↑h = 0 ∧ 1 ≤ widthBelow (min (widthBelow (min (s.get HP_LINK_CTRL.max_width ↑h) o.maxWidth)) o.workingLanes))
    ∧ (∃ (s : State) (h : HostId) (o : LinkOffer), s.linkUp ↑h = true ∧ s.get HP_LINK_STATUS.link_up ↑h = 1 ∧ s.get HP_LINK_STATUS.pm_state ↑h ≠ 3 ∧ 1 ≤ widthBelow (min (widthBelow (min (s.get HP_LINK_CTRL.max_width ↑h) o.maxWidth)) o.workingLanes))
    ∧ (∃ (s : State) (h : HostId) (o : LinkOffer), (widthBelow (min (widthBelow (min (s.get HP_LINK_CTRL.max_width ↑h) o.maxWidth)) o.workingLanes) = 0 ∨ s.mayTrain ↑h = false ∧ s.linkUp ↑h = false))
    ∧ (∃ (s : State) (ns : Nat), (∀ (u : Nat), s.pins.pps = some u → u + 50000000 ≤ s.clock) ∧ 500 ≤ ns)
    ∧ (∃ (s : State) (ns : Nat), (ns < 250 ∨ ¬∀ (u : Nat), s.pins.pps = some u → u + 50000000 ≤ s.clock))
    ∧ (∃ (s : State) (ns : Nat), (∀ (u : Nat), s.pins.pps = some u → u + 50000000 ≤ s.clock) ∧ 250 ≤ ns ∧ ns < 500) :=
  ⟨⟨cable up 1 true false, noTxn_of (by decide +kernel), by decide +kernel⟩,
    ⟨cable up 1 false false, 1, offer, by decide +kernel⟩,
    ⟨up, 1, offer, by decide +kernel⟩,
    ⟨cable up 1 true false, 1, offer, by decide +kernel⟩,
    ⟨cable up 1 true false, 500, some_of (by decide +kernel), by decide +kernel⟩,
    ⟨cable up 1 true false, 8, by decide +kernel⟩,
    ⟨cable up 1 true false, 300, some_of (by decide +kernel), by decide +kernel⟩⟩

theorem witness_HostPortsReset :
    (∃ (s : State), s.NoTxn ∧ s.portsPowered = true)
    ∧ (∃ (s : State) (h : HostId), s.NoTxn ∧ s.portsPowered = true ∧ s.linkUp ↑h = true) :=
  ⟨⟨up, noTxn_of (by decide +kernel), by decide +kernel⟩,
    ⟨up, 1, noTxn_of (by decide +kernel), by decide +kernel⟩⟩

theorem witness_HostLinkPower :
    (∃ (s : State) (h : HostId), s.linkUp ↑h = true)
    ∧ (∃ (s : State) (h : HostId), s.linkUp ↑h = true ∧ s.get HP_LINK_STATUS.pm_state ↑h ≤ 1 ∧ s.cfgBit (↑h) 96 1 = true ∧ s.l1Idle ↑h = true)
    ∧ (∃ (s : State) (h : HostId), s.linkUp ↑h = true ∧ s.get HP_LINK_STATUS.pm_state ↑h = 2)
    ∧ (∃ (s : State) (h : HostId) (w : Nat), s.l0pOn ↑h = true ∧ w ∈ [1, 2, 4, 8, 16] ∧ w ≤ s.get HP_LINK_STATUS.width ↑h)
    ∧ (∃ (s : State) (h : HostId) (use2 : Nat), s.l0pOn ↑h = true ∧ s.get HP_PM_CTRL.l0p_auto ↑h = 1 ∧ 0 < s.get HP_LINK_STATUS.width ↑h ∧ s.get HP_LINK_STATUS.l0p_width ↑h ≠ s.get HP_LINK_STATUS.width ↑h ∧ s.get HP_PM_CTRL.l0p_widen_pct ↑h * s.get HP_LINK_STATUS.l0p_width ↑h < use2 * 16) :=
  ⟨⟨up, 0, by decide +kernel⟩,
    ⟨aspm, 0, by decide +kernel⟩,
    ⟨inL1, 0, by decide +kernel⟩,
    ⟨narrow, 0, 16, by decide +kernel⟩,
    ⟨narrow, 0, 60, by decide +kernel⟩⟩

theorem witness_HostMessages :
    (∃ (s : State) (h : HostId), (s.host ↑h).ltrDue = false ∧ s.ltrBusy ↑h = true ∧ (s.host ↑h).ltrBusy ≠ some true ∧ s.cfgBit (↑h) 120 10 = true ∧ s.linkUp ↑h = true ∧ s.get HP_LINK_STATUS.pm_state ↑h ≠ 3 ∧ (s.host ↑h).ltrNext ≤ s.clock)
    ∧ (∃ (s : State) (h : HostId) (a : Agent), s.Writable a RegKind.HP_LTR ↑h)
    ∧ (∃ (s : State) (h : HostId), s.fires (Timer.ptm ↑h) = true ∧ s.cfgBit (↑h) 828 0 = true ∧ s.linkUp ↑h = true ∧ s.get HP_LINK_STATUS.pm_state ↑h ≤ 1)
    ∧ (∃ (s : State) (h : HostId), s.fires (Timer.ptmContext ↑h) = true)
    ∧ (∃ (s : State) (f : FnId), s.linkUp (fnPort ↑f) = true ∧ s.unheard ↑f = false ∧ s.existsFn ↑f = true)
    ∧ (∃ (s : State) (f : FnId) (e : BadRequest × Nat), s.linkUp (fnPort ↑f) = true ∧ e ∈ [(BadRequest.dataLinkProtocol, 4), (BadRequest.flowControlProtocol, 13), (BadRequest.receiverOverflow, 17)])
    ∧ (∃ (s : State) (f : FnId) (x : LaneErrors) (e : BadRequest × Nat), s.linkUp (fnPort ↑f) = true ∧ e ∈ [(BadRequest.receiverError x, 0), (BadRequest.badTlp, 6), (BadRequest.badDllp, 7), (BadRequest.replayRollover, 8), (BadRequest.replayTimeout, 12)]) :=
  ⟨⟨busyHost, 0, by decide +kernel⟩,
    ⟨up, 0, .ridge, writable_of (by decide +kernel)⟩,
    ⟨ptmOn, 0, by decide +kernel⟩,
    ⟨timed (.ptmContext 0) up, 0, by decide +kernel⟩,
    ⟨up, 0, by decide +kernel⟩,
    ⟨up, 0, (.dataLinkProtocol, 4), by decide +kernel⟩,
    ⟨up, 0, ⟨1, 0, 0, 0⟩, (.receiverError ⟨1, 0, 0, 0⟩, 0), by decide +kernel⟩⟩

theorem witness_ConfigurationRequests :
    (∃ (s : State) (h : HostId), s.cfgUnheard ↑h = false ∧ s.get HP_LINK_STATUS.pm_state ↑h ≠ 2 ∧ s.phase = Phase.starting)
    ∧ (∃ (s : State) (h : HostId) (n : Fin 256), s.cfgUnheard ↑h = false ∧ s.get HP_LINK_STATUS.pm_state ↑h ≠ 2 ∧ s.isUp = true ∧ s.existsFn (fnOf ↑h ↑n) = true)
    ∧ (∃ (s : State) (h : HostId) (n : Fin 256), s.cfgUnheard ↑h = false ∧ s.get HP_LINK_STATUS.pm_state ↑h ≠ 2 ∧ s.isUp = true ∧ s.existsFn (fnOf ↑h ↑n) = false)
    ∧ (∃ (s : State) (h : HostId), s.cfgUnheard ↑h = false ∧ s.get HP_LINK_STATUS.pm_state ↑h ≠ 2 ∧ s.isUp = true ∧ s.compat = false ∧ s.steady 34 = true) :=
  ⟨⟨(stage .starting).put HP_LINK_STATUS.link_up 0 1, 0, by decide +kernel⟩,
    ⟨up, 0, 0, by decide +kernel⟩,
    ⟨up, 0, 1, by decide +kernel⟩,
    ⟨up, 0, by decide +kernel⟩⟩

theorem witness_FunctionResets :
    (∃ (s : State) (f : FnId), s.NoTxn ∧ s.cfgReach ↑f = true ∧ s.get FUNC_STATE.flr_active ↑f = 0 ∧ (s.genBlocked fun g => g == ↑f || decide (↑f < 4) && fnPort g == ↑f) = false)
    ∧ (∃ (s : State) (f : FnId), s.get FUNC_STATE.flr_active ↑f = 1 ∧ s.noTags ↑f = true ∧ s.vfsClearing (fnPort ↑f) = false ∧ (s.func ↑f).heldBme = false ∧ (s.host (fnPort ↑f)).vfePending = false)
    ∧ (∃ (s : State) (h : HostId) (tag : Nat) (x : HTag), (∀ (e pos : Nat), x.req.purpose ≠ HPurpose.engine e pos) ∧ s.NoFlrWaits ∧ s.fires (Timer.flrTag (↑h) tag) = true ∧ find1 tag (s.host ↑h).tags = some x ∧ x.held = false)
    ∧ (∃ (s : State) (h : HostId), s.cfgReach ↑h = true ∧ s.compat = false ∧ s.vfEnable ↑h = false ∧ s.vfsClearing ↑h = false ∧ (s.host ↑h).vfcHeld = false)
    ∧ (∃ (s : State) (h : HostId), s.cfgReach ↑h = true ∧ s.compat = false ∧ (s.vfsClearing ↑h = true ∨ (s.host ↑h).vfcHeld = true))
    ∧ (∃ (s : State) (h : HostId), s.cfgReach ↑h = true ∧ s.vfEnable ↑h = true ∧ (s.host ↑h).vfePending = false ∧ (s.genBlocked fun f => fnPort f == ↑h) = false) :=
  ⟨⟨up, 1, noTxn_of (by decide +kernel), by decide +kernel⟩,
    ⟨up.put FUNC_STATE.flr_active 1 1, 1, by decide +kernel⟩,
    ⟨tagged1, 1, 3, ⟨{ req0 with fn := 1 }, 0, false, []⟩, by rintro _ _ ⟨⟩, noFlr_of (by decide +kernel), by decide +kernel⟩,
    ⟨up, 1, by decide +kernel⟩,
    ⟨clearing (up.cfgPut 0 0x18C 0 16 3), 0, by decide +kernel⟩,
    ⟨vfs1 up, 1, by decide +kernel⟩⟩

theorem witness_ConfigurationEffects :
    (∃ (s : State) (f : FnId), s.cfgReach ↑f = true ∧ s.get FUNC_STATE.flr_active ↑f = 0)
    ∧ (∃ (s : State) (h : HostId) (size : BitVec 6), s.cfgReach ↑h = true ∧ s.compat = false ∧ size.toNat ≤ 26 ∧ s.cfgBit (↑h) 4 1 = false)
    ∧ (∃ (s : State) (h : HostId) (size : BitVec 6), s.cfgReach ↑h = true ∧ s.compat = false ∧ size.toNat ≤ 26 ∧ s.cfgBit (↑h) 4 1 = true)
    ∧ (∃ (s : State), s.cfgReach 0 = true ∧ s.compat = true)
    ∧ (∃ (s : State) (off : BitVec 16) (len : Nat), wfSpan off.toNat len = true ∧ s.compat = true ∧ s.isUp = true ∧ s.cfgBit 0 48 0 = true ∧ s.memEnabled 0 = true ∧ s.unheard 0 = false ∧ s.get HP_LINK_STATUS.pm_state ≠ 2) :=
  ⟨⟨up, 0, by decide +kernel⟩,
    ⟨up, 0, 0, by decide +kernel⟩,
    ⟨up.cfgPut 0 0x04 1 1 1, 0, 0, by decide +kernel⟩,
    ⟨compatible, by decide +kernel⟩,
    ⟨compatible, 0, 64, by decide +kernel⟩⟩

theorem witness_TransactionsRun :
    (∃ (s : State) (c : CtxId), s.Writable (ctxAgent c) RegKind.TXN_CTRL ↑c ∧ s.refusedBy = none ∧ s.get TXN_STATUS.state ↑c = 0)
    ∧ (∃ (s : State) (c : CtxId) (persist : Bool), s.Writable (ctxAgent c) RegKind.TXN_CTRL ↑c ∧ s.refusedBy = none ∧ s.get TXN_STATUS.state ↑c = 1 ∧ s.commits = [] ∧ (persist = true → s.storeTaken = false) ∧ s.clock < (s.txn ↑c).opened + s.txnNs ↑c ∧ (State.judgeTxn { (s.modTxn c (fun d => { d with persist := persist, quiescing := false })).put TXN_STATUS.state c 2 with commits := [c.val] } c = none))
    ∧ (∃ (s : State) (c : CtxId) (persist : Bool) (code wait : Nat) (b : Option Broken), s.Writable (ctxAgent c) RegKind.TXN_CTRL ↑c ∧ s.refusedBy = none ∧ s.get TXN_STATUS.state ↑c = 1 ∧ s.commits = [] ∧ (persist = true → s.storeTaken = false) ∧ s.clock < (s.txn ↑c).opened + s.txnNs ↑c ∧ (State.judgeTxn { (s.modTxn c (fun d => { d with persist := persist, quiescing := false })).put TXN_STATUS.state c 2 with commits := [c.val] } c = some (code, b, wait)))
    ∧ (∃ (s : State) (c : CtxId), s.Writable (ctxAgent c) RegKind.TXN_CTRL ↑c ∧ s.refusedBy = none ∧ s.get TXN_STATUS.state ↑c = 1 ∧ (s.txn ↑c).moving = [] ∧ (s.txn ↑c).opened + s.txnNs ↑c ≤ s.clock)
    ∧ (∃ (s : State) (c : CtxId), s.Writable (ctxAgent c) RegKind.TXN_CTRL ↑c ∧ s.get TXN_STATUS.state ↑c = 1 ∧ (s.txn ↑c).moving = [])
    ∧ (∃ (s : State) (c : CtxId) (due : Nat), s.fires (Timer.txn ↑c) = true ∧ s.due (Timer.txn ↑c) = some due ∧ s.get TXN_STATUS.state ↑c = 1 ∧ (s.txn ↑c).moving = [] ∧ (s.txn ↑c).opened + s.txnNs ↑c ≤ max s.clock due)
    ∧ (∃ (s : State) (c : CtxId) (due : Nat), s.fires (Timer.txn ↑c) = true ∧ s.due (Timer.txn ↑c) = some due ∧ s.get TXN_STATUS.state ↑c = 1 ∧ (s.txn ↑c).moving = [] ∧ max s.clock due < (s.txn ↑c).opened + s.txnNs ↑c) :=
  ⟨⟨up, 0, writable_of (by decide +kernel), by decide +kernel⟩,
    ⟨open0, 0, true, writable_of (by decide +kernel), by decide +kernel⟩,
    ⟨overflowed, 0, true, 1, 0, none, writable_of (by decide +kernel), by decide +kernel⟩,
    ⟨{ open0 with clock := 10^15 }, 0, writable_of (by decide +kernel), by decide +kernel⟩,
    ⟨open0, 0, writable_of (by decide +kernel), by decide +kernel⟩,
    ⟨expired, 0, 1000500, by decide +kernel⟩,
    ⟨timed (.txn 0) open0, 0, 1000500, by decide +kernel⟩⟩

theorem witness_CommitsTakeEffect :
    (∃ (s : State) (c : CtxId), s.commits = [↑c] ∧ s.strobeReady ↑c = true ∧ (s.txn ↑c).persist = false)
    ∧ (∃ (s : State) (c : CtxId), s.commits = [↑c] ∧ s.strobeReady ↑c = true ∧ (s.txn ↑c).persist = true)
    ∧ (∃ (s : State) (c : CtxId) (f : FnId) (v : Word), s.commits = [↑c] ∧ s.strobeReady ↑c = true ∧ (s.txn ↑c).persist = false ∧ (s.txn ↑c).moving = [] ∧ (s.txn ↑c).staged = [(RegKind.FUNC_APERTURE.wordOf ↑f, v, maskBits 0 6)])
    ∧ (∃ (s : State) (c : CtxId) (q : QId), s.commits = [↑c] ∧ s.fires (Timer.quiesce ↑c) = true ∧ (s.txn ↑c).moving = [↑q] ∧ s.get Q_STATE.state ↑q = 2 ∧ s.get Q_STATE.cq_wait ↑q = 0 ∧ (s.queue ↑q).cur = none ∧ s.engineOf ↑q = none)
    ∧ (∃ (s : State) (c : CtxId), s.get TXN_STATUS.state ↑c = 3 ∧ (s.txn ↑c).seq ≤ s.lastSeq ∧ s.commits = [])
    ∧ (∃ (s : State) (ctx seq : Nat) (tab : Tbl Word), s.isUp = true ∧ s.rss.job = some (RssJob.record ctx seq tab) ∧ s.commits = [] ∧ s.get RSS_CTRL.compact = 0 ∧ s.get RSS_STATUS.journal_used + recordWords (bodyLen tab) + maxRecordWords ≤ journalWords)
    ∧ (∃ (s : State) (a : Agent), s.Writable a RegKind.RSS_CTRL 0 ∧ s.isUp = true ∧ s.rss.job = none ∧ (s.rss.directNext = false ∨ s.get RSS_BOOT_STATUS.source < 2) ∧ 8192 * 1000000000 ≤ s.rss.wear)
    ∧ (∃ (s : State) (a : Agent), s.Writable a RegKind.RSS_CTRL 0 ∧ s.isUp = true ∧ s.rss.job = none ∧ (s.rss.directNext = false ∨ s.get RSS_BOOT_STATUS.source < 2) ∧ s.rss.wear < 8192 * 1000000000)
    ∧ (∃ (s : State) (a : Agent) (k : RegKind) (i x r : Nat), s.Writable a k i ∧ (k.flds.any fun F => F.ret) = true ∧ (k.flds.all fun F => F.ret || F.acc == Acc.ro) = true ∧ i < k.count ∧ s.readCtx a = some x ∧ s.refusedBy = some r)
    ∧ (∃ (s : State) (a : Agent) (k : RegKind) (i x : Nat), s.Writable a k i ∧ (k.flds.any fun F => F.ret) = true ∧ (k.flds.all fun F => F.ret || F.acc == Acc.ro) = true ∧ i < k.count ∧ s.readCtx a = some x ∧ s.refusedBy = none ∧ s.get TXN_STATUS.state x = 2)
    ∧ (∃ (s : State) (a : Agent) (k : RegKind) (i x : Nat), s.Writable a k i ∧ (k.flds.any fun F => F.ret) = true ∧ (k.flds.all fun F => F.ret || F.acc == Acc.ro) = true ∧ i < k.count ∧ s.readCtx a = some x ∧ s.refusedBy = none ∧ s.get TXN_STATUS.state x = 1 ∧ s.claimedByOther x (k.wordOf i) = true)
    ∧ (∃ (s : State) (a : Agent) (k : RegKind) (i x : Nat), s.Writable a k i ∧ (k.flds.any fun F => F.ret) = true ∧ (k.flds.all fun F => F.ret || F.acc == Acc.ro) = true ∧ i < k.count ∧ s.readCtx a = some x ∧ s.refusedBy = none ∧ s.get TXN_STATUS.state x = 1 ∧ s.claimedByOther x (k.wordOf i) = false ∧ (s.txn x).staged.length < 32768)
    ∧ (∃ (s : State) (a : Agent) (k : RegKind) (i x : Nat), s.Writable a k i ∧ (k.flds.any fun F => F.ret) = true ∧ (k.flds.all fun F => F.ret || F.acc == Acc.ro) = true ∧ i < k.count ∧ s.readCtx a = some x ∧ s.refusedBy = none ∧ s.get TXN_STATUS.state x ≠ 1 ∧ s.get TXN_STATUS.state x ≠ 2 ∧ s.claimedByOther 1000 (k.wordOf i) = true) :=
  ⟨⟨committing TxnDyn.reset, 0, by decide +kernel⟩,
    ⟨committing { TxnDyn.reset with persist := true }, 0, by decide +kernel⟩,
    ⟨committing staged1, 0, 0, 30, by decide +kernel⟩,
    ⟨quiescing5, 0, 5, by decide +kernel⟩,
    ⟨persisting, 0, by decide +kernel⟩,
    ⟨recording, 0, 8, [], by decide +kernel⟩,
    ⟨up.put GLOBAL_STATUS.cfg_frozen 0 1, .ridge, writable_of (by decide +kernel), by decide +kernel⟩,
    ⟨poor, .ridge, writable_of (by decide +kernel), by decide +kernel⟩,
    ⟨up.put GLOBAL_STATUS.cfg_frozen 0 1, .ridge, .FUNC_APERTURE, 0, 4, 3, writable_of (by decide +kernel), by decide +kernel⟩,
    ⟨committing TxnDyn.reset, .fn 0, .FUNC_APERTURE, 0, 0, writable_of (by decide +kernel), by decide +kernel⟩,
    ⟨inTxn 1 1 staged1 open0, .fn 0, .FUNC_APERTURE, 0, 0, writable_of (by decide +kernel), by decide +kernel⟩,
    ⟨open0, .fn 0, .FUNC_APERTURE, 0, 0, writable_of (by decide +kernel), by decide +kernel⟩,
    ⟨inTxn 1 1 staged1 open0, .ridge, .FUNC_APERTURE, 0, 4, writable_of (by decide +kernel), by decide +kernel⟩⟩

theorem witness_QueueCommandsAct :
    (∃ (s : State) (a : Agent) (q : QId), s.Writable a RegKind.Q_CMD ↑q ∧ s.get Q_STATE.state ↑q = 0 ∧ 6 ≤ s.get Q_RING.sq_log2 ↑q ∧ s.get Q_RING.sq_log2 ↑q ≤ 16 ∧ 6 ≤ s.get Q_RING.cq_log2 ↑q ∧ s.get Q_RING.cq_log2 ↑q ≤ 16)
    ∧ (∃ (s : State) (a : Agent) (q : QId), s.Writable a RegKind.Q_CMD ↑q ∧ s.get Q_STATE.state ↑q ∈ [1, 2, 3] ∧ (s.queue ↑q).moving = false ∧ Option.all (fun c => c.ended.isNone) (s.queue ↑q).cur = true)
    ∧ (∃ (s : State) (a : Agent) (q : QId), s.Writable a RegKind.Q_CMD ↑q ∧ s.get Q_STATE.state ↑q = 5 ∧ (s.queue ↑q).held = none ∧ (s.queue ↑q).pref = [])
    ∧ (∃ (s : State) (a : Agent) (q : QId), s.Writable a RegKind.Q_CMD ↑q ∧ s.get Q_STATE.state ↑q ∈ [6, 7] ∧ s.get FUNC_STATE.bme (s.qOwner ↑q) = 1 ∧ ((s.engineOf ↑q).isSome = true ∨ (s.queue ↑q).haltDue ≠ none ∨ (s.queue ↑q).extLost = true))
    ∧ (∃ (s : State) (a : Agent) (q : QId) (x : Current), s.Writable a RegKind.Q_CMD ↑q ∧ s.get Q_STATE.state ↑q ∈ [6, 7] ∧ s.get FUNC_STATE.bme (s.qOwner ↑q) = 1 ∧ s.engineOf ↑q = none ∧ (s.queue ↑q).haltDue = none ∧ (s.queue ↑q).extLost = false ∧ (s.queue ↑q).held = none ∧ (s.queue ↑q).cur = some x)
    ∧ (∃ (s : State) (a : Agent) (q : QId) (x : Current), s.Writable a RegKind.Q_CMD ↑q ∧ s.EntryRoom ↑q ∧ s.get Q_STATE.state ↑q ∈ [6, 7] ∧ s.get FUNC_STATE.bme (s.qOwner ↑q) = 1 ∧ s.engineOf ↑q = none ∧ (s.queue ↑q).haltDue = none ∧ (s.queue ↑q).extLost = false ∧ (s.queue ↑q).held = none ∧ (s.queue ↑q).cur = some x)
    ∧ (∃ (s : State) (a : Agent) (q : QId), s.Writable a RegKind.Q_CMD ↑q ∧ s.get Q_STATE.state ↑q ∈ [1, 5, 6, 7])
    ∧ (∃ (s : State) (a : Agent) (q : QId), s.Writable a RegKind.Q_CMD ↑q ∧ s.get Q_STATE.state ↑q ≠ 0)
    ∧ (∃ (s : State) (a : Agent) (q : QId), s.Writable a RegKind.Q_CMD ↑q ∧ (¬s.get Q_STATE.state ↑q ∈ [1, 2, 3] ∨ (s.queue ↑q).moving = true))
    ∧ (∃ (s : State) (a : Agent) (q : QId), s.Writable a RegKind.Q_CMD ↑q ∧ ¬s.get Q_STATE.state ↑q ∈ [5, 6, 7])
    ∧ (∃ (s : State) (a : Agent) (q : QId), s.Writable a RegKind.Q_CMD ↑q ∧ ¬s.get Q_STATE.state ↑q ∈ [6, 7])
    ∧ (∃ (s : State) (a : Agent) (q : QId), s.Writable a RegKind.Q_CMD ↑q ∧ ¬s.get Q_STATE.state ↑q ∈ [1, 5, 6, 7]) :=
  ⟨⟨queue5 0 QDyn.reset, .ridge, 5, writable_of (by decide +kernel), by decide +kernel⟩,
    ⟨queue5 1 QDyn.reset, .ridge, 5, writable_of (by decide +kernel), by decide +kernel⟩,
    ⟨queue5 5 QDyn.reset, .ridge, 5, writable_of (by decide +kernel), by decide +kernel⟩,
    ⟨bound (queue5 6 (withCur running1)), .ridge, 5, writable_of (by decide +kernel), by decide +kernel⟩,
    ⟨queue5 7 (withCur running1), .ridge, 5, running1, writable_of (by decide +kernel), by decide +kernel⟩,
    ⟨queue5 7 (withCur running1), .ridge, 5, running1, writable_of (by decide +kernel), by constructor <;> first | decide +kernel | exact way_of (by decide +kernel), by decide +kernel⟩,
    ⟨queue5 1 QDyn.reset, .ridge, 5, writable_of (by decide +kernel), by decide +kernel⟩,
    ⟨queue5 1 QDyn.reset, .ridge, 5, writable_of (by decide +kernel), by decide +kernel⟩,
    ⟨queue5 0 QDyn.reset, .ridge, 5, writable_of (by decide +kernel), by decide +kernel⟩,
    ⟨queue5 0 QDyn.reset, .ridge, 5, writable_of (by decide +kernel), by decide +kernel⟩,
    ⟨queue5 0 QDyn.reset, .ridge, 5, writable_of (by decide +kernel), by decide +kernel⟩,
    ⟨queue5 0 QDyn.reset, .ridge, 5, writable_of (by decide +kernel), by decide +kernel⟩⟩

theorem witness_QueuesWork :
    (∃ (s : State) (f : FnId) (q : QId) (off len : Nat) (be : Byte), s.Hears ↑f ∧ s.steady 34 = true ∧ (s.compatFn ↑f = true → ↑q < 12) ∧ off < (if s.compatFn ↑f = true then 96 else 32768) ∧ (off % 8 ≠ 0 ∨ len ≠ 8 ∨ be ≠ 255))
    ∧ (∃ (s : State) (f : FnId) (q : QId) (off : Nat), s.Hears ↑f ∧ s.steady 34 = true ∧ (s.compatFn ↑f = true → ↑q < 12) ∧ (if s.compatFn ↑f = true then 96 else 32768) ≤ off)
    ∧ (∃ (s : State) (f : FnId) (q : QId), s.Hears ↑f ∧ s.steady 34 = true ∧ (s.compatFn ↑f = true → ↑q < 12) ∧ s.qOwner ↑q ≠ ↑f)
    ∧ (∃ (s : State) (f : FnId) (q : QId) (v : Word), s.Hears ↑f ∧ s.steady 34 = true ∧ (s.compatFn ↑f = true → ↑q < 12) ∧ s.qOwner ↑q = ↑f ∧ getBits v 32 8 ≠ s.get Q_STATE.gen ↑q)
    ∧ (∃ (s : State) (f : FnId) (q : QId) (v : Word), s.Hears ↑f ∧ s.steady 34 = true ∧ (s.compatFn ↑f = true → ↑q < 12) ∧ s.qOwner ↑q = ↑f ∧ s.doorbellFails (↑q) (getBits v 32 8) (getBits v 0 16) (getBits v 16 16) = none ∧ s.get Q_SQ_IDX.sq_tail ↑q = getBits v 0 16 ∧ s.get Q_CQ_IDX.cq_tail ↑q = getBits v 16 16)
    ∧ (∃ (s : State) (f : FnId) (q : QId) (v : Word), s.Hears ↑f ∧ s.steady 34 = true ∧ (s.compatFn ↑f = true → ↑q < 12) ∧ s.qOwner ↑q = ↑f ∧ s.doorbellFails (↑q) (getBits v 32 8) (getBits v 0 16) (getBits v 16 16) = none ∧ (s.queue ↑q).held = none ∧ (s.queue ↑q).cur = none ∧ (s.queue ↑q).pref = [] ∧ (s.get Q_SQ_IDX.sq_tail ↑q ≠ getBits v 0 16 ∨ s.get Q_CQ_IDX.cq_tail ↑q ≠ getBits v 16 16))
    ∧ (∃ (s : State), s.isUp = true ∧ s.fetchCands ≠ [])
    ∧ (∃ (s : State) (q : QId) (i : Nat) (bs : List Byte), (∀ (c : Current), (s.queue ↑q).cur = some c → c.d.words ≠ []) ∧ s.isUp = true ∧ (s.queue ↑q).arrived = some (i, bs) ∧ s.get Q_STATE.state ↑q ≠ 2)
    ∧ (∃ (s : State) (q : QId) (bs : List Byte) (c : Current), s.isUp = true ∧ (s.queue ↑q).extArrived = some bs ∧ (s.queue ↑q).cur = some c ∧ s.engineOf ↑q = none ∧ (s.queue ↑q).haltDue = none ∧ c.ended = none ∧ c.words ≠ [] ∧ c.piece + 1 < c.tested ∧ (s.queue ↑q).held = none)
    ∧ (∃ (s : State) (q : QId) (c : Current) (st : Nat), s.EntryRoom ↑q ∧ s.isUp = true ∧ (s.queue ↑q).cur = some c ∧ c.ended = some st)
    ∧ (∃ (s : State) (q : QId) (c : Current) (st : Nat), s.isUp = true ∧ (s.queue ↑q).cur = some c ∧ c.ended = some st ∧ (s.queue ↑q).held = none ∧ (s.queue ↑q).haltDue = none ∧ (s.queue ↑q).unacked = [] ∧ s.canMaster (s.qOwner ↑q) = true ∧ s.cqFull ↑q = true ∧ s.get Q_STATE.cq_wait ↑q = 0)
    ∧ (∃ (s : State) (q : QId), s.fires (Timer.coalesce ↑q) = true) :=
  ⟨⟨(queue5 1 QDyn.reset).put Q_SQ_IDX.sq_tail 5 63, 0, 5, 0, 0, 0xFF, by constructor <;> decide +kernel, by decide +kernel⟩,
    ⟨(queue5 1 QDyn.reset).put Q_SQ_IDX.sq_tail 5 63, 0, 5, 0x8000, by constructor <;> decide +kernel, by decide +kernel⟩,
    ⟨(queue5 1 QDyn.reset).put Q_CFG.owner 5 1, 0, 5, by constructor <;> decide +kernel, by decide +kernel⟩,
    ⟨(queue5 1 QDyn.reset).put Q_SQ_IDX.sq_tail 5 63, 0, 5, 0x100000000, by constructor <;> decide +kernel, by decide +kernel⟩,
    ⟨(queue5 1 QDyn.reset).put Q_SQ_IDX.sq_tail 5 63, 0, 5, 0x3F, by constructor <;> decide +kernel, by decide +kernel⟩,
    ⟨queue5 1 QDyn.reset, 0, 5, 0x3F, by constructor <;> decide +kernel, by decide +kernel⟩,
    ⟨(queue5 2 { QDyn.reset with rung := 1 }).put Q_SQ_IDX.sq_tail 5 1, by decide +kernel⟩,
    ⟨queue5 1 { QDyn.reset with arrived := some (0, List.replicate 64 0) }, 5, 0, List.replicate 64 0, some_of (by decide +kernel), by decide +kernel⟩,
    ⟨queue5 3 { withCur chained1 with extArrived := some (List.replicate 64 0) }, 5, List.replicate 64 0, chained1, by decide +kernel⟩,
    ⟨ended1 0, 5, { running1 with ended := some 0 }, 0, by constructor <;> first | decide +kernel | exact way_of (by decide +kernel), by decide +kernel⟩,
    ⟨full5 (ended1 0), 5, { running1 with ended := some 0 }, 0, by decide +kernel⟩,
    ⟨timed (.coalesce 5) ((queue5 1 QDyn.reset).put Q_RING.cq_vec_en 5 1), 5, by decide +kernel⟩⟩

theorem witness_EnginesWork :
    (∃ (s : State) (g : GroupId) (e : EngId) (q : Nat) (d : Prefetched) (ds : List Prefetched), s.isUp = true ∧ s.groupRunning ↑g = true ∧ s.idleEngine ↑g = some ↑e ∧ s.engineCands ↑g = [(q, d)] ∧ (s.queue q).cur = none ∧ (s.queue q).pref = d :: ds ∧ q < 4096 ∧ (srcSide d.words).isLocal = false ∧ convOf d.words = 0 ∧ (srcSide d.words).lines = 1 ∧ (srcSide d.words).len ≤ s.mrrs (s.qOwner q) ∧ (srcSide d.words).at 0 % 4096 + (srcSide d.words).len ≤ 4096 ∧ s.canMaster (s.qOwner q) = true)
    ∧ (∃ (s : State) (e : EngId) (q at_ : Nat) (c : Current), s.isUp = true ∧ (s.eng ↑e).paceFrom = some at_ ∧ (s.eng ↑e).q = some q ∧ (s.queue q).cur = some c ∧ s.writeStep (↑e) q c none = EngStep.stuck s ∧ s.readStep (↑e) q c none = EngStep.paced s ∧ c.ended = none ∧ (s.eng ↑e).draining = false ∧ (dstSide c.words).isLocal = false)
    ∧ (∃ (s : State), s.isUp = true)
    ∧ (∃ (s : State) (e : EngId) (q : Nat), s.isUp = true ∧ (s.eng ↑e).draining = true ∧ (s.eng ↑e).reads = [] ∧ (s.eng ↑e).q = some q ∧ (s.queue q).waitCmd = 0)
    ∧ (∃ (s : State) (e : EngId), s.isUp = true ∧ s.egState (↑e / 8) = 0)
    ∧ (∃ (s : State) (e : EngId), s.isUp = true ∧ s.egState (↑e / 8) ≠ 0)
    ∧ (∃ (s : State) (p : PortId) (v : VcId) (r : WRead), s.isUp = true ∧ (s.port ↑p).reads = [r] ∧ reserveHead (s.port ↑p).egress (s.port ↑p).reads ↑v = some r ∧ s.open_ (bayOf ↑p) = true ∧ ↑(4 * r.dws) ≤ s.freeSpace ↑p ↑v - ↑(s.skid ↑p) - 4096 ∧ (localParts (s.localMax ↑p) r.paddr (enables r.dws r.firstBe r.lastBe)).length + (s.port ↑p).ltags.length ≤ 1024)
    ∧ (∃ (s : State), s.isUp = true ∧ s.get PWR_STATE_MISC.core = 0)
    ∧ (∃ (s : State), s.isUp = true ∧ s.get PWR_STATE_MISC.core = 0 ∧ s.scrubAt < 65536) :=
  ⟨⟨ready5, 3, 24, 5, fetched1, [], by decide +kernel⟩,
    ⟨pacedLocal, 24, 5, 5, { running1 with words := [0x201, 0, 0x2000, 63, 63, 0, 0, 0], d := { fetched1 with words := [0x201, 0, 0x2000, 63, 63, 0, 0, 0] } }, by decide +kernel⟩,
    ⟨up, by decide +kernel⟩,
    ⟨draining, 24, 5, by decide +kernel⟩,
    ⟨up, 24, by decide +kernel⟩,
    ⟨up.setEgState 3 2, 24, by decide +kernel⟩,
    ⟨(reading.setBayState 0 0).setWord .JP_PART 0 0xFFF, 0, 0, read1, by decide +kernel⟩,
    ⟨up, by decide +kernel⟩,
    ⟨up, by decide +kernel⟩⟩

theorem witness_RegionsWake :
    (∃ (s : State) (r : RegionId), 24 ≤ ↑r ∧ ↑r < 44 ∧ s.phase ≠ Phase.deferring ∧ s.waking.contains ↑r = true ∧ (s.region ↑r = 2 ∨ s.region ↑r = 3) ∧ s.ring = [] ∧ s.commits = [])
    ∧ (∃ (s : State) (r : RegionId), 24 ≤ ↑r ∧ ↑r ≤ 34 ∧ s.isUp = true ∧ s.region ↑r = 0 ∧ s.inactive ↑r = true ∧ s.plumb.held = [])
    ∧ (∃ (s : State) (p : PortId), s.isUp = true ∧ s.get JP_STATUS.link_state ↑p = 4 ∧ (s.bayState (bayOf ↑p) = 2 ∨ s.bayState (bayOf ↑p) = 3))
    ∧ (∃ (s : State) (p : PortId), s.isUp = true ∧ s.lead ↑p = ↑p ∧ s.get JP_STATUS.link_state ↑p = 4 ∧ s.bayState (bayOf ↑p) = 0 ∧ s.portMayServe ↑p = true) :=
  ⟨⟨wakingEg, 24, by decide +kernel⟩,
    ⟨up, 24, by decide +kernel⟩,
    ⟨asleep0 2, 0, by decide +kernel⟩,
    ⟨asleep0 0, 0, by decide +kernel⟩⟩

theorem witness_HostCompletionsEnd :
    (∃ (s : State) (h : HostId) (tag : Nat) (data : List Byte) (x : HTag) (q : QId) (i n : Nat), s.NoFlrWaits ∧ wfCompletion data.length = true ∧ s.linkUp ↑h = true ∧ s.streamFailed (↑h) (s.cplStream (↑h) tag) = false ∧ find1 tag (s.host ↑h).tags = some x ∧ x.held = false ∧ x.req.q = some ↑q ∧ x.req.purpose = HPurpose.fetch (↑q) i n ∧ s.gensCurrent x.req.fn x.req.fgen x.req.q x.req.qgen = true ∧ x.req.len ≤ x.got.length + data.length ∧ x.got.length ≤ x.req.len)
    ∧ (∃ (s : State) (h : HostId) (tag : Nat) (data : List Byte) (x : HTag), s.NoFlrWaits ∧ (∀ (e pos : Nat), x.req.purpose ≠ HPurpose.engine e pos) ∧ wfCompletion data.length = true ∧ s.linkUp ↑h = true ∧ s.streamFailed (↑h) (s.cplStream (↑h) tag) = false ∧ find1 tag (s.host ↑h).tags = some x ∧ x.held = false ∧ s.gensCurrent x.req.fn x.req.fgen x.req.q x.req.qgen = false)
    ∧ (∃ (s : State) (h : HostId) (tag : Nat) (data : List Byte), s.NoFlrWaits ∧ wfCompletion data.length = true ∧ s.linkUp ↑h = true ∧ s.streamFailed (↑h) (s.cplStream (↑h) tag) = false ∧ find1 tag (s.host ↑h).tags = none)
    ∧ (∃ (s : State) (h : HostId) (tag : Nat) (data : List Byte) (x : HTag) (st : CplStatus), s.NoFlrWaits ∧ (∀ (e pos : Nat), x.req.purpose ≠ HPurpose.engine e pos) ∧ wfCompletion data.length = true ∧ s.linkUp ↑h = true ∧ s.streamFailed (↑h) (s.cplStream (↑h) tag) = false ∧ find1 tag (s.host ↑h).tags = some x ∧ x.held = false ∧ s.gensCurrent x.req.fn x.req.fgen x.req.q x.req.qgen = true ∧ (st = CplStatus.unsupported ∨ st = CplStatus.aborted))
    ∧ (∃ (s : State) (h : HostId) (tag : Nat) (data : List Byte) (x : HTag) (st : CplStatus), s.NoFlrWaits ∧ (∀ (e pos : Nat), x.req.purpose ≠ HPurpose.engine e pos) ∧ wfCompletion data.length = true ∧ s.linkUp ↑h = true ∧ s.streamFailed (↑h) (s.cplStream (↑h) tag) = false ∧ find1 tag (s.host ↑h).tags = some x ∧ x.held = false ∧ s.gensCurrent x.req.fn x.req.fgen x.req.q x.req.qgen = true ∧ st = CplStatus.poisoned)
    ∧ (∃ (s : State) (h : HostId) (tag : Nat) (data : List Byte) (x : HTag), s.NoFlrWaits ∧ (∀ (e pos : Nat), x.req.purpose ≠ HPurpose.engine e pos) ∧ wfCompletion data.length = true ∧ s.linkUp ↑h = true ∧ s.streamFailed (↑h) (s.cplStream (↑h) tag) = false ∧ s.fires (Timer.hostTag (↑h) tag) = true ∧ find1 tag (s.host ↑h).tags = some x ∧ x.held = false)
    ∧ (∃ (s : State) (h : HostId) (tag : Nat) (data : List Byte), s.NoFlrWaits ∧ wfCompletion data.length = true ∧ s.linkUp ↑h = true ∧ s.streamFailed (↑h) (s.cplStream (↑h) tag) = false ∧ s.fires (Timer.tagRelease (↑h) tag) = true)
    ∧ (∃ (s : State) (h : HostId) (tag : Nat) (data : List Byte) (r : HReq) (n : Nat), s.NoFlrWaits ∧ s.NoEngineRuns ∧ wfCompletion data.length = true ∧ s.linkUp ↑h = true ∧ s.streamFailed (↑h) (s.cplStream (↑h) tag) = false ∧ s.isUp = true ∧ headReq (s.host ↑h).waiting = some r ∧ (∀ (x : HReq), x ∈ (s.host ↑h).waiting → x.posted = false) ∧ fnPort r.fn = ↑h ∧ s.mayIssue (↑h) r = true ∧ s.streamFailed (↑h) (s.streamFor r.fn) = false ∧ s.freeTag r.fn = some n) :=
  ⟨⟨tag3 fetchReq false, 0, 3, List.replicate 64 0, ⟨fetchReq, 0, false, []⟩, 5, 0, 1, noFlr_of (by decide +kernel), by decide +kernel⟩,
    ⟨tag3 { fetchReq with fgen := 1 } false, 0, 3, List.replicate 64 0, ⟨{ fetchReq with fgen := 1 }, 0, false, []⟩, noFlr_of (by decide +kernel), by rintro _ _ ⟨⟩, by decide +kernel⟩,
    ⟨up, 0, 3, List.replicate 64 0, noFlr_of (by decide +kernel), by decide +kernel⟩,
    ⟨tag3 fetchReq false, 0, 3, List.replicate 64 0, ⟨fetchReq, 0, false, []⟩, .unsupported, noFlr_of (by decide +kernel), by rintro _ _ ⟨⟩, by decide +kernel⟩,
    ⟨tag3 fetchReq false, 0, 3, List.replicate 64 0, ⟨fetchReq, 0, false, []⟩, .poisoned, noFlr_of (by decide +kernel), by rintro _ _ ⟨⟩, by decide +kernel⟩,
    ⟨timed (.hostTag 0 3) (tag3 { fetchReq with purpose := .dropped } false), 0, 3, List.replicate 64 0, ⟨{ fetchReq with purpose := .dropped }, 0, false, []⟩, noFlr_of (by decide +kernel), by rintro _ _ ⟨⟩, by decide +kernel⟩,
    ⟨timed (.tagRelease 0 3) (tag3 fetchReq true), 0, 3, List.replicate 64 0, noFlr_of (by decide +kernel), by decide +kernel⟩,
    ⟨waiting1, 0, 3, List.replicate 64 0, fetchReq, 0, noFlr_of (by decide +kernel), noEngine_of (by decide +kernel), by decide +kernel⟩⟩

theorem witness_WindowsAnswer :
    (∃ (s : State) (f : FnId) (addr off dws : Nat) (b1 b2 : BitVec 4), s.Hears ↑f ∧ s.fnHeld ↑f = false ∧ s.steady 34 = true ∧ wfWindow addr dws b1 b2 = true ∧ s.bar4Off (↑f) addr (4 * dws) = some off ∧ s.lookup (↑f) off false = Lookup.miss)
    ∧ (∃ (s : State) (f : FnId) (addr off dws : Nat) (b1 b2 : BitVec 4), s.Hears ↑f ∧ s.fnHeld ↑f = false ∧ s.steady 34 = true ∧ wfWindow addr dws b1 b2 = true ∧ s.bar4Off (↑f) addr (4 * dws) = some off ∧ s.lookup (↑f) off false = Lookup.denied)
    ∧ (∃ (s : State) (f : FnId) (addr off dws : Nat) (b1 b2 : BitVec 4) (n : Nat), s.Hears ↑f ∧ s.fnHeld ↑f = false ∧ s.steady 34 = true ∧ wfWindow addr dws b1 b2 = true ∧ s.bar4Off (↑f) addr (4 * dws) = some off ∧ s.lookup (↑f) off false = Lookup.unavailable n)
    ∧ (∃ (s : State) (f : FnId) (addr off dws : Nat) (b1 b2 : BitVec 4) (n : Nat), s.Hears ↑f ∧ s.fnHeld ↑f = false ∧ s.steady 34 = true ∧ wfWindow addr dws b1 b2 = true ∧ s.bar4Off (↑f) addr (4 * dws) = some off ∧ s.lookup (↑f) off false = Lookup.found n ∧ (s.port (s.lead (s.get SEG_CTRL.port n))).reads = [] ∧ (dws = 1 → b1 ≠ 0))
    ∧ (∃ (s : State) (f : FnId) (addr off : Nat) (b1 b2 : BitVec 4) (data : List Byte), s.Hears ↑f ∧ s.fnHeld ↑f = false ∧ s.steady 34 = true ∧ wfWrite addr data.length b1 b2 = true ∧ s.bar4Off (↑f) addr data.length = some off ∧ s.lookup (↑f) off true = Lookup.miss)
    ∧ (∃ (s : State) (f : FnId) (addr off : Nat) (b1 b2 : BitVec 4) (data : List Byte), s.Hears ↑f ∧ s.fnHeld ↑f = false ∧ s.steady 34 = true ∧ wfWrite addr data.length b1 b2 = true ∧ s.bar4Off (↑f) addr data.length = some off ∧ s.lookup (↑f) off true = Lookup.denied)
    ∧ (∃ (s : State) (f : FnId) (addr off : Nat) (b1 b2 : BitVec 4) (data : List Byte) (n : Nat), s.Hears ↑f ∧ s.fnHeld ↑f = false ∧ s.steady 34 = true ∧ wfWrite addr data.length b1 b2 = true ∧ s.bar4Off (↑f) addr data.length = some off ∧ s.lookup (↑f) off true = Lookup.unavailable n)
    ∧ (∃ (s : State) (f : FnId) (addr off : Nat) (b1 b2 : BitVec 4) (data : List Byte) (n : Nat), s.Hears ↑f ∧ s.fnHeld ↑f = false ∧ s.steady 34 = true ∧ wfWrite addr data.length b1 b2 = true ∧ s.bar4Off (↑f) addr data.length = some off ∧ s.lookup (↑f) off true = Lookup.found n ∧ s.get JP_STATUS.link_state (s.lead (s.get SEG_CTRL.port n)) = 4 ∧ (s.port (s.lead (s.get SEG_CTRL.port n))).waking = true)
    ∧ (∃ (s : State) (f : FnId) (addr off : Nat) (b1 b2 : BitVec 4) (data : List Byte), s.Hears ↑f ∧ s.fnHeld ↑f = false ∧ s.steady 34 = true ∧ wfWrite addr data.length b1 b2 = true ∧ s.bar4Off (↑f) addr data.length = some off ∧ s.linkUp (fnPort ↑f) = true)
    ∧ (∃ (s : State) (f : FnId) (e j : Nat), s.Hears ↑f ∧ s.fnHeld ↑f = false ∧ s.steady 34 = true ∧ e < s.tableSize ↑f ∧ j < 4 ∧ s.pba = [] ∧ s.freed = [] ∧ s.backed (↑f) e = true)
    ∧ (∃ (s : State) (f : FnId) (e j : Nat), s.Hears ↑f ∧ s.fnHeld ↑f = false ∧ s.steady 34 = true ∧ e < s.tableSize ↑f ∧ j < 4 ∧ s.pba = [] ∧ s.freed = [] ∧ s.backed (↑f) e = false) :=
  ⟨⟨window up, 0, 65536, 65536, 9, 15, 15, by constructor <;> decide +kernel, by decide +kernel⟩,
    ⟨(window up).put SEG_CTRL.rd 9 0, 0, 0, 0, 9, 15, 15, by constructor <;> decide +kernel, by decide +kernel⟩,
    ⟨window up, 0, 0, 0, 9, 15, 15, 9, by constructor <;> decide +kernel, by decide +kernel⟩,
    ⟨seen, 0, 0, 0, 9, 15, 15, 9, by constructor <;> decide +kernel, by decide +kernel⟩,
    ⟨window up, 0, 65536, 65536, 15, 15, List.replicate 64 0, by constructor <;> decide +kernel, by decide +kernel⟩,
    ⟨(window up).put SEG_CTRL.wr 9 0, 0, 0, 0, 15, 15, List.replicate 64 0, by constructor <;> decide +kernel, by decide +kernel⟩,
    ⟨window up, 0, 0, 0, 15, 15, List.replicate 64 0, 9, by constructor <;> decide +kernel, by decide +kernel⟩,
    ⟨wakes0, 0, 0, 0, 15, 15, List.replicate 64 0, 9, by constructor <;> decide +kernel, by decide +kernel⟩,
    ⟨window up, 0, 0, 0, 15, 15, List.replicate 64 0, by constructor <;> decide +kernel, by decide +kernel⟩,
    ⟨window up, 0, 0, 0, by constructor <;> decide +kernel, by decide +kernel⟩,
    ⟨(window up).put PEG_VMAP.assigned 9 0, 0, 9, 0, by constructor <;> decide +kernel, by decide +kernel⟩⟩

theorem witness_LanesWork :
    (∃ (s : State) (l : LaneId) (x : LineIn), s.receives ↑l = true ∧ s.nearEnd ↑l = false ∧ s.get JL_PRBS.chk_en ↑l = 0 ∧ (heard s l x).window = [] ∧ (keptOf s l x).kept.length = 136 ∧ (∀ (k : Nat), k ∈ s.portLanes (s.lead (lanePort ↑l)) → (s.lane k).words = []) ∧ s.get JL_STATUS.word_lock ↑l = 0 ∧ s.get JL_STATUS.state ↑l = 4 ∧ s.get JP_STATUS.link_state (s.lead (lanePort ↑l)) = 2 ∧ (wordOf s l x).validMarker = true ∧ (wordOf s l x).bits 43 2 = min 2 (s.get JP_CFG.rate (s.lead (lanePort ↑l))) ∧ (wordOf s l x).bits 32 2 = s.laneIndex ↑l ∧ (wordOf s l x).bits 45 2 = 3 ∧ find1 ((wordOf s l x).bits 48 8 + 256) (s.lane (4 * (↑l / 2) + 1 - ↑l)).marks = none)
    ∧ (∃ (s : State) (l : LaneId) (x : LineIn), s.receives ↑l = true ∧ s.nearEnd ↑l = false ∧ s.get JL_PRBS.chk_en ↑l = 0 ∧ (heard s l x).window = [] ∧ (keptOf s l x).kept.length = 136 ∧ (∀ (k : Nat), k ∈ s.portLanes (s.lead (lanePort ↑l)) → (s.lane k).words = []) ∧ s.get JL_STATUS.word_lock ↑l = 1 ∧ (heard s l x).pos = RxPos.marker ∧ ((wordOf s l x).validMarker && (wordOf s l x).bits 32 2 == s.laneIndex ↑l) = false)
    ∧ (∃ (s : State) (l : LaneId) (x : LineIn) (n : Nat), s.receives ↑l = true ∧ s.nearEnd ↑l = false ∧ s.get JL_PRBS.chk_en ↑l = 0 ∧ (heard s l x).window = [] ∧ (keptOf s l x).kept.length = 136 ∧ (∀ (k : Nat), k ∈ s.portLanes (s.lead (lanePort ↑l)) → (s.lane k).words = []) ∧ s.get JL_STATUS.word_lock ↑l = 1 ∧ (heard s l x).pos = RxPos.body n ∧ 1 ≤ n ∧ (heard s l x).farState = 0 ∧ s.get JP_STATUS.link_state (s.lead (lanePort ↑l)) = 3 ∧ (s.port (s.lead (lanePort ↑l))).rxOpen = false)
    ∧ (∃ (s : State) (l : LaneId), s.fires (Timer.keepalive ↑l) = true ∧ s.get JL_STATUS.word_lock ↑l = 1)
    ∧ (∃ (s : State), s.isUp = true) :=
  ⟨⟨searching, 0, lineOf (marker0 3), by decide +kernel⟩,
    ⟨bad2, 0, lineOf 7, by decide +kernel⟩,
    ⟨inBody (joist 3 there), 0, lineOf (marker0 3), 100, by decide +kernel⟩,
    ⟨timed (.keepalive 0) (lane0 5 1 (joist 3 there)), 0, by decide +kernel⟩,
    ⟨up, by decide +kernel⟩⟩

theorem witness_LanesWork_ports :
    (∃ (s : State) (l : LaneId), s.isUp = true ∧ s.nearEnd ↑l = false ∧ s.get JP_STATUS.tx_doze (s.lead (lanePort ↑l)) = 0 ∧ s.get JL_STATUS.state ↑l = 4 ∧ s.get JP_STATUS.link_state (s.lead (lanePort ↑l)) ≠ 3)
    ∧ (∃ (s : State) (l : LaneId), s.isUp = true ∧ s.nearEnd ↑l = false ∧ s.get JP_STATUS.tx_doze (s.lead (lanePort ↑l)) = 0 ∧ s.get JL_STATUS.state ↑l = 5 ∧ (s.port (s.lead (lanePort ↑l))).sleepAck = false)
    ∧ (∃ (s : State) (p : PortId), s.isUp = true ∧ s.get JP_STATUS.link_state ↑p = 2 ∧ (s.port ↑p).opened = false ∧ (s.port ↑p).rxOpen = false ∧ (∀ (k : Nat), k ∈ s.portLanes ↑p → s.get JL_STATUS.word_lock k = 1 ∧ (s.lane k).sentReady = true ∧ 2 ≤ (s.lane k).ready ∧ (s.lane k).farScarf = s.scarfed ↑p))
    ∧ (∃ (s : State) (p : PortId), s.fires (Timer.doze ↑p) = true ∧ s.get JP_STATUS.tx_doze ↑p = 1 ∧ (∀ (k : Nat), k ∈ s.portLanes ↑p → s.nearEnd k = false))
    ∧ (∃ (s : State) (l : LaneId) (a : Agent), s.Writable a RegKind.JL_CTRL ↑l ∧ s.Writable a RegKind.JL_PRBS ↑l ∧ s.get JP_STATUS.link_state (s.lead (lanePort ↑l)) = 0) :=
  ⟨⟨searching, 0, by decide +kernel⟩,
    ⟨bad2, 0, by decide +kernel⟩,
    ⟨trained, 0, by decide +kernel⟩,
    ⟨timed (.doze 0) ((joist 3 there).put JP_STATUS.tx_doze 0 1), 0, by decide +kernel⟩,
    ⟨(up.put JP_STATUS.link_state 0 0).setBayState 0 0, 0, .ridge, writable_of (by decide +kernel), writable_of (by decide +kernel), by decide +kernel⟩⟩

theorem witness_LinksCarryFrames :
    (∃ (s : State) (p : PortId) (lines : List LineIn) (slot : Nat) (u v : RxUnit), (received s p lines).InFrame ↑p ∧ wfLines lines.length = true ∧ s.scarfed ↑p = false ∧ (received s p lines).scarfed ↑p = false ∧ ((received s p lines).lane (2 * ↑p)).words = [(slot, u)] ∧ ((received s p lines).lane (2 * ↑p + 1)).words = [(slot, v)] ∧ slot % 4096 ≠ 0 ∧ ((received s p lines).port ↑p).unitMask = 3 ∧ u.errored = false ∧ v.errored = false ∧ badLink (unitWord u) = false ∧ getBits (unitWord u) 32 12 = (received s p lines).get JP_SEQ.tx_acked ↑p ∧ lwKind (unitWord u) = 1 ∧ lwLen (unitWord u) = 0 ∧ unitWord v = setBits (unitWord u) 63 1 1 ∧ getBits (unitWord u) 17 3 < (received s p lines).vcCount ↑p ∧ getBits (unitWord u) 20 12 = (received s p lines).get JP_SEQ.rx_expected ↑p ∧ 0 ≤ (received s p lines).freeSpace (↑p) (getBits (unitWord u) 17 3))
    ∧ (∃ (s : State) (p : PortId) (lines : List LineIn) (slot : Nat) (u v : RxUnit), (received s p lines).InFrame ↑p ∧ wfLines lines.length = true ∧ s.scarfed ↑p = false ∧ (received s p lines).scarfed ↑p = false ∧ ((received s p lines).lane (2 * ↑p)).words = [(slot, u)] ∧ ((received s p lines).lane (2 * ↑p + 1)).words = [(slot, v)] ∧ slot % 4096 ≠ 0 ∧ ((received s p lines).port ↑p).unitMask = 3 ∧ u.errored = false ∧ v.errored = false ∧ badLink (unitWord u) = false ∧ getBits (unitWord u) 32 12 = (received s p lines).get JP_SEQ.tx_acked ↑p ∧ lwKind (unitWord u) = 1 ∧ lwLen (unitWord u) = 0 ∧ unitWord v = setBits (unitWord u) 63 1 1 ∧ getBits (unitWord u) 17 3 < (received s p lines).vcCount ↑p ∧ getBits (unitWord u) 20 12 ≠ (received s p lines).get JP_SEQ.rx_expected ↑p)
    ∧ (∃ (s : State) (p : PortId) (lines : List LineIn) (slot : Nat) (u v : RxUnit), (received s p lines).InFrame ↑p ∧ wfLines lines.length = true ∧ s.scarfed ↑p = false ∧ (received s p lines).scarfed ↑p = false ∧ ((received s p lines).lane (2 * ↑p)).words = [(slot, u)] ∧ ((received s p lines).lane (2 * ↑p + 1)).words = [(slot, v)] ∧ slot % 4096 ≠ 0 ∧ ((received s p lines).port ↑p).unitMask = 3 ∧ u.errored = false ∧ v.errored = false ∧ badLink (unitWord u) = false ∧ getBits (unitWord u) 32 12 = (received s p lines).get JP_SEQ.tx_acked ↑p ∧ lwKind (unitWord u) = 3 ∧ v.data = 0)
    ∧ (∃ (s : State) (p : PortId) (lines : List LineIn) (slot : Nat) (u v : RxUnit), wfLines lines.length = true ∧ s.scarfed ↑p = false ∧ (received s p lines).scarfed ↑p = false ∧ ((received s p lines).lane (2 * ↑p)).words = [(slot, u)] ∧ ((received s p lines).lane (2 * ↑p + 1)).words = [(slot, v)] ∧ slot % 4096 ≠ 0 ∧ ((received s p lines).port ↑p).unitMask = 3 ∧ u.errored = false ∧ v.errored = false ∧ badLink (unitWord u) = false ∧ (received s p lines).get JP_STATUS.link_state ↑p = 2 ∧ ((received s p lines).port ↑p).rxOpen = true ∧ ((received s p lines).port ↑p).opened = false ∧ ((received s p lines).port ↑p).lost = false ∧ ((received s p lines).port ↑p).skip = 0 ∧ ((received s p lines).port ↑p).partial_ = [] ∧ ((received s p lines).port ↑p).headUsed = none ∧ lwKind (unitWord u) = 2 ∧ unitHigh u = setBits (unitWord u) 63 1 1 ∧ v.data = 0)
    ∧ (∃ (s : State) (p : PortId), s.fires (Timer.idleInterval ↑p) = true ∧ s.get JP_STATUS.link_state ↑p = 3 ∧ s.get JP_STATUS.tx_doze ↑p = 0 ∧ (s.port ↑p).maskDue = none)
    ∧ (∃ (s : State) (p : PortId), s.fires (Timer.replay ↑p) = true ∧ s.get JP_STATUS.link_state ↑p = 3 ∧ (s.port ↑p).replay ≠ [] ∧ s.get JP_REPLAY.replays ↑p < max 1 (s.get JP_TIMER1.replay_limit ↑p) ∧ s.get JP_STATUS.tx_doze ↑p = 0)
    ∧ (∃ (s : State) (p : PortId), s.fires (Timer.replay ↑p) = true ∧ s.get JP_STATUS.link_state ↑p = 3 ∧ (s.port ↑p).replay ≠ [] ∧ max 1 (s.get JP_TIMER1.replay_limit ↑p) ≤ s.get JP_REPLAY.replays ↑p)
    ∧ (∃ (s : State) (p : PortId) (m : Nat), s.fires (Timer.txMask ↑p) = true ∧ (s.port ↑p).wantMask = some m ∧ (List.map (fun us => us.length) (s.port ↑p).txq).sum < s.periodUnits ↑p) :=
  ⟨⟨linked PortDyn.reset, 0, two (unit (link 1 0) 0) (unit (setBits (link 1 0) 63 1 1) 0), 3993, unit (link 1 0) 0, unit (setBits (link 1 0) 63 1 1) 0, by constructor <;> decide +kernel, by decide +kernel⟩,
    ⟨(linked PortDyn.reset).put JP_SEQ.rx_expected 0 5, 0, two (unit (link 1 0) 0) (unit (setBits (link 1 0) 63 1 1) 0), 3993, unit (link 1 0) 0, unit (setBits (link 1 0) 63 1 1) 0, by constructor <;> decide +kernel, by decide +kernel⟩,
    ⟨linked PortDyn.reset, 0, two (unit (link 3 0) 0) (laneUnit 0), 3993, unit (link 3 0) 0, laneUnit 0, by constructor <;> decide +kernel, by decide +kernel⟩,
    ⟨inBody (joist 2 { there with rxOpen := true, unitMask := 3 }), 0, two (unit (link 2 0) (setBits (link 2 0) 63 1 1)) (laneUnit 0), 3993, unit (link 2 0) (setBits (link 2 0) 63 1 1), laneUnit 0, by decide +kernel⟩,
    ⟨timed (.idleInterval 0) (linked PortDyn.reset), 0, by decide +kernel⟩,
    ⟨timed (.replay 0) (linked { PortDyn.reset with replay := [(5, egress1)] }), 0, by decide +kernel⟩,
    ⟨timed (.replay 0) ((linked { PortDyn.reset with replay := [(5, egress1)] }).put JP_REPLAY.replays 0 8), 0, by decide +kernel⟩,
    ⟨timed (.txMask 0) (linked { PortDyn.reset with wantMask := some 1 }), 0, 1, by decide +kernel⟩⟩

theorem witness_LanesDrop :
    (∃ (s : State) (p : PortId) (x : Fin 2), s.isUp = true ∧ s.get JP_STATUS.link_state ↑p = 3 ∧ s.scarfed ↑p = false ∧ s.get JP_CTRL.auto_lane_drop ↑p = 1 ∧ (s.port ↑p).excluded = none ∧ (s.port ↑p).maskDue = none ∧ s.inService (2 * ↑p + ↑x) = true ∧ s.symbolLock (2 * ↑p + ↑x) = false ∧ s.inService (2 * ↑p + (1 - ↑x)) = true ∧ s.symbolLock (2 * ↑p + (1 - ↑x)) = true)
    ∧ (∃ (s : State) (p : PortId) (x : Fin 2), s.fires (Timer.laneSet ↑p) = true ∧ s.get JP_STATUS.link_state ↑p = 3 ∧ (s.port ↑p).excluded = some ↑x ∧ natBit (s.get JP_STATUS.rx_mask ↑p) ↑x = true)
    ∧ (∃ (s : State) (p : PortId) (x : Fin 2), s.fires (Timer.relock ↑p) = true ∧ (s.port ↑p).excluded = some ↑x ∧ (s.port ↑p).maskDue = none) :=
  ⟨⟨(linked PortDyn.reset).put JL_STATUS.word_lock 0 0, 0, 0, by decide +kernel⟩,
    ⟨timed (.laneSet 0) (linked { PortDyn.reset with excluded := some 0 }), 0, 0, by decide +kernel⟩,
    ⟨timed (.relock 0) (linked { PortDyn.reset with excluded := some 0 }), 0, 0, by decide +kernel⟩⟩

theorem witness_PortsChangeState :
    (∃ (s : State) (p : PortId), s.get JP_STATUS.link_state ↑p ∈ [2, 3, 4] ∧ s.fires (Timer.lockLoss ↑p) = true)
    ∧ (∃ (s : State) (p : PortId), s.get JP_STATUS.link_state ↑p ∈ [2, 3, 4] ∧ s.fires (Timer.wake ↑p) = true)
    ∧ (∃ (s : State) (p : PortId), s.get JP_STATUS.link_state ↑p ∈ [2, 3, 4] ∧ s.fires (Timer.training ↑p) = true)
    ∧ (∃ (s : State) (p : PortId), s.fires (Timer.downHold ↑p) = true ∧ s.get JP_STATUS.link_state ↑p = 5 ∧ s.get BRACE_DSTATE.state (4 + ↑p) ≠ 1 ∧ s.portMayServe ↑p = true ∧ s.bayHeld (bayOf ↑p) = false ∧ s.portEnabled ↑p = true ∧ s.allPresent ↑p = true ∧ s.get JP_CTRL.port_reset ↑p = 0 ∧ s.get JP_CTRL.retrain ↑p = 0 ∧ ¬s.get JP_DOWN_LOG.cause ↑p ∈ [5, 8, 11] ∧ s.get JP_CTRL.down_action ↑p = 0)
    ∧ (∃ (s : State) (p : PortId), s.fires (Timer.downHold ↑p) = true ∧ s.get JP_STATUS.link_state ↑p = 5 ∧ s.get BRACE_DSTATE.state (4 + ↑p) ≠ 1 ∧ s.portMayServe ↑p = true ∧ s.bayHeld (bayOf ↑p) = false ∧ s.portEnabled ↑p = true ∧ s.allPresent ↑p = true ∧ s.get JP_CTRL.port_reset ↑p = 0 ∧ s.get JP_CTRL.retrain ↑p = 0 ∧ ¬s.get JP_DOWN_LOG.cause ↑p ∈ [5, 8, 11] ∧ s.get JP_CTRL.down_action ↑p = 1)
    ∧ (∃ (s : State) (p : PortId), s.fires (Timer.downHold ↑p) = true ∧ s.get JP_STATUS.link_state ↑p = 5 ∧ s.get BRACE_DSTATE.state (4 + ↑p) ≠ 1 ∧ s.portMayServe ↑p = true ∧ s.bayHeld (bayOf ↑p) = false ∧ s.portEnabled ↑p = true ∧ s.allPresent ↑p = true ∧ s.get JP_CTRL.port_reset ↑p = 0 ∧ s.get JP_CTRL.retrain ↑p = 0 ∧ ¬s.get JP_DOWN_LOG.cause ↑p ∈ [5, 8, 11] ∧ 2 ≤ s.get JP_CTRL.down_action ↑p)
    ∧ (∃ (s : State) (p : PortId), s.fires (Timer.portReset ↑p) = true ∧ s.mayServe (100 + bayOf ↑p) = true ∧ s.get BRACE_DSTATE.state (100 + bayOf ↑p) ≠ 1)
    ∧ (∃ (s : State) (p : PortId), s.isUp = true ∧ s.lead ↑p = ↑p ∧ s.get JP_STATUS.link_state ↑p ∈ [2, 3, 4])
    ∧ (∃ (s : State) (p : PortId) (a : Agent), s.Writable a RegKind.JP_CTRL ↑p ∧ s.lead ↑p = ↑p ∧ s.get JP_STATUS.link_state ↑p = 3)
    ∧ (∃ (s : State) (p : PortId) (a : Agent), s.Writable a RegKind.JP_CTRL ↑p ∧ s.lead ↑p = ↑p ∧ s.get JP_STATUS.link_state ↑p = 5 ∧ s.get JP_DOWN_LOG.cause ↑p ≠ 11)
    ∧ (∃ (s : State) (p : PortId) (a : Agent), s.Writable a RegKind.JP_CTRL ↑p ∧ s.lead ↑p = ↑p ∧ s.get JP_STATUS.link_state ↑p = 5 ∧ s.get JP_DOWN_LOG.cause ↑p ≠ 11 ∧ s.portMayServe ↑p = true ∧ s.allPresent ↑p = true)
    ∧ (∃ (s : State) (a : Agent) (b : BayId), s.Writable a RegKind.BAY_CTRL ↑b ∧ (s.bayLeads ↑b).any s.portEnabled = true) :=
  ⟨⟨timed (.lockLoss 0) (joist 3 there), 0, by decide +kernel⟩,
    ⟨timed (.wake 0) (joist 4 there), 0, by decide +kernel⟩,
    ⟨timed (.training 0) (joist 2 there), 0, by decide +kernel⟩,
    ⟨down0 0 1, 0, by decide +kernel⟩,
    ⟨down0 1 1, 0, by decide +kernel⟩,
    ⟨down0 2 1, 0, by decide +kernel⟩,
    ⟨timed (.portReset 0) (joist 1 { there with resetOut := true }), 0, by decide +kernel⟩,
    ⟨timed (.lockLoss 0) (joist 3 there), 0, by decide +kernel⟩,
    ⟨(joist 3 there).setBayState 0 0, 0, .ridge, writable_of (by decide +kernel), by decide +kernel⟩,
    ⟨down0 0 1, 0, .ridge, writable_of (by decide +kernel), by decide +kernel⟩,
    ⟨down0 0 1, 0, .ridge, writable_of (by decide +kernel), by decide +kernel⟩,
    ⟨(joist 3 there).setBayState 0 0, .ridge, 0, writable_of (by decide +kernel), by decide +kernel⟩⟩

theorem witness_PortsDozeAndSleep :
    (∃ (s : State) (p : PortId), s.fires (Timer.dozeIdle ↑p) = true ∧ s.dozeReady ↑p = true ∧ ((s.endActive ↑p []).port ↑p).txq = [])
    ∧ (∃ (s : State) (p : PortId), s.fires (Timer.sleepIdle ↑p) = true ∧ s.sleepReady ↑p = true)
    ∧ (∃ (s : State) (p : PortId), s.isUp = true ∧ s.get JP_STATUS.link_state ↑p = 3 ∧ (s.port ↑p).sleepReq = true)
    ∧ (∃ (s : State) (p : PortId), s.isUp = true ∧ s.get JP_STATUS.link_state ↑p = 3 ∧ (s.port ↑p).sleepReq = false ∧ s.get JP_STATUS.tx_doze ↑p = 0 ∧ (s.port ↑p).replay = [] ∧ (s.port ↑p).egress = [])
    ∧ (∃ (s : State) (p : PortId), s.isUp = true ∧ s.get JP_STATUS.link_state ↑p = 3 ∧ (s.port ↑p).sleepReq = false ∧ (s.port ↑p).egress ≠ [])
    ∧ (∃ (s : State) (p : PortId), s.isUp = true ∧ (s.port ↑p).sleepReq = true)
    ∧ (∃ (s : State) (p : PortId), s.fires (Timer.pmReply ↑p) = true ∧ (s.port ↑p).sleepReq = true) :=
  ⟨⟨timed (.dozeIdle 0) (joist 3 there), 0, by decide +kernel⟩,
    ⟨timed (.sleepIdle 0) (joist 3 there), 0, by decide +kernel⟩,
    ⟨joist 3 { there with sleepReq := true }, 0, by decide +kernel⟩,
    ⟨timed (.dozeIdle 0) (joist 3 there), 0, by decide +kernel⟩,
    ⟨joist 3 { there with egress := [egress1] }, 0, by decide +kernel⟩,
    ⟨joist 3 { there with sleepReq := true }, 0, by decide +kernel⟩,
    ⟨timed (.pmReply 0) (joist 3 { there with sleepReq := true }), 0, by decide +kernel⟩⟩

theorem witness_JoistTransactionsRun :
    (∃ (s : State) (p : PortId) (v : VcId) (f : Frame) (n : Nat), s.isUp = true ∧ s.ingressHead (↑p) (↑v) 1 = some f ∧ f.tag < 1024 ∧ badAccess f f.rdLen = false ∧ find1 f.tag (s.port ↑p).dtags = none ∧ s.hostView (↑p) f.addr f.rdLen false = HostView.found n)
    ∧ (∃ (s : State) (p : PortId) (v : VcId) (f : Frame) (n : Nat), s.isUp = true ∧ s.ingressHead (↑p) (↑v) 2 = some f ∧ badAccess f f.payload.length = false ∧ f.sparse = false ∧ s.hostView (↑p) f.addr f.payload.length true = HostView.found n ∧ s.streamFailed (fnPort (s.get SEG_CTRL.owner n)) (s.streamFor (s.get SEG_CTRL.owner n)) = false ∧ f.payload.length ≤ s.mps (s.get SEG_CTRL.owner n) ∧ (s.segDst n + (f.addr - s.segSrc n)) % 4096 + f.payload.length ≤ 4096 ∧ s.pathWaits (s.get SEG_CTRL.owner n) (↑p) (↑v) false = false ∧ s.hostOpen [sliceOf ↑p] (s.get SEG_CTRL.owner n) = true)
    ∧ (∃ (s : State) (p : PortId) (v : VcId) (f : Frame) (n : Nat), s.isUp = true ∧ s.ingressHead (↑p) (↑v) 2 = some f ∧ badAccess f f.payload.length = false ∧ f.sparse = false ∧ s.hostView (↑p) f.addr f.payload.length true = HostView.found n ∧ s.streamFailed (fnPort (s.get SEG_CTRL.owner n)) (s.streamFor (s.get SEG_CTRL.owner n)) = false ∧ f.payload.length ≤ s.mps (s.get SEG_CTRL.owner n) ∧ (s.segDst n + (f.addr - s.segSrc n)) % 4096 + f.payload.length ≤ 4096 ∧ (∃ r, r ∈ (s.host (fnPort (s.get SEG_CTRL.owner n))).waiting ∧ r.posted = false ∧ r.fn = s.get SEG_CTRL.owner n ∧ r.p = ↑p ∧ r.v = ↑v ∧ r.fromHost = false))
    ∧ (∃ (s : State) (p : PortId) (v : VcId) (f : Frame), s.NoFlrWaits ∧ s.isUp = true ∧ s.ingressHead (↑p) (↑v) 3 = some f ∧ find1 f.tag (s.port ↑p).ltags = none)
    ∧ (∃ (s : State) (p : PortId) (v : VcId) (f : Frame) (x : LTag), s.NoFlrWaits ∧ s.isUp = true ∧ s.ingressHead (↑p) (↑v) 3 = some f ∧ find1 f.tag (s.port ↑p).ltags = some x ∧ x.held = true)
    ∧ (∃ (s : State) (p : PortId) (v : VcId) (f : Frame) (x : LTag) (id ofs : Nat), s.NoFlrWaits ∧ s.NoEngineRuns ∧ s.isUp = true ∧ s.ingressHead (↑p) (↑v) 3 = some f ∧ find1 f.tag (s.port ↑p).ltags = some x ∧ x.held = false ∧ x.dead = false ∧ x.purpose = LPurpose.window id ofs ∧ s.gensCurrent x.fn x.fgen x.q x.qgen = true ∧ badCpl x f = false ∧ f.status = 0)
    ∧ (∃ (s : State) (p : PortId) (v : VcId) (f : Frame), s.isUp = true ∧ s.ingressHead (↑p) (↑v) 4 = some f ∧ f.payload = [] ∧ s.pegEnabled (256 * ↑p + f.addr % 512) = true ∧ 256 * ↑p + f.addr % 512 < 24576 ∧ s.get PEG_SRC_STATUS.state (256 * ↑p + f.addr % 512) = 0)
    ∧ (∃ (s : State) (p : PortId), s.isUp = true ∧ s.fires (Timer.timeFrame ↑p) = true ∧ s.get JP_STATUS.link_state ↑p = 3 ∧ s.get JP_STATUS.tx_doze ↑p = 1)
    ∧ (∃ (s : State) (p : PortId), s.isUp = true ∧ s.fires (Timer.timeFrame ↑p) = true ∧ s.get JP_STATUS.link_state ↑p = 3 ∧ s.get JP_STATUS.tx_doze ↑p = 0 ∧ (s.port ↑p).sleepAck = false ∧ (s.port ↑p).maskDue = none ∧ (s.port ↑p).egress = [] ∧ (s.port ↑p).replay = [] ∧ s.bayState (bayOf ↑p) = 0 ∧ s.tsState (sliceOf ↑p) = 0)
    ∧ (∃ (s : State) (p : PortId) (tag : Nat) (x : LTag) (id ofs : Nat), s.NoFlrWaits ∧ s.isUp = true ∧ s.fires (Timer.response (↑p) tag) = true ∧ find1 tag (s.port ↑p).ltags = some x ∧ x.held = false ∧ x.dead = false ∧ x.purpose = LPurpose.window id ofs ∧ (s.port ↑p).reads = [])
    ∧ (∃ (s : State) (p : PortId) (tag : Nat), s.NoFlrWaits ∧ s.NoEngineRuns ∧ s.isUp = true ∧ s.fires (Timer.tagHold (↑p) tag) = true)
    ∧ (∃ (s : State) (p : PortId) (w : Word), s.isUp = true ∧ s.fires (Timer.merger ↑p) = true ∧ s.scarfed ↑p = true ∧ s.lead ↑p = ↑p ∧ (s.port ↑p).mergeFrom ≠ none ∧ (s.port ↑p).headUsed ≠ none ∧ headScarf (s.port ↑p).partial_ (s.port (↑p + 1)).partial_ = Head.wait (some w) ∧ (∀ (k : Nat), k ∈ [p.val, p.val + 1] → (s.port k).partial_.length ≤ frameUnits true w / 2)) :=
  ⟨⟨came (frame1 1) [], 0, 0, frame1 1, 9, by decide +kernel⟩,
    ⟨came { frame1 2 with payload := List.replicate 64 1 } [], 0, 0, { frame1 2 with payload := List.replicate 64 1 }, 9, by decide +kernel⟩,
    ⟨(came { frame1 2 with payload := List.replicate 64 1 } []).modHost 0 (fun h => { h with waiting := [{ req0 with p := 0, v := 0, fromHost := false, purpose := .loc 0 9 0 }] }), 0, 0, { frame1 2 with payload := List.replicate 64 1 }, 9, by decide +kernel⟩,
    ⟨came (frame1 3) [], 0, 0, frame1 3, noFlr_of (by decide +kernel), by decide +kernel⟩,
    ⟨came (frame1 3) [(5, local1 true)], 0, 0, frame1 3, local1 true, noFlr_of (by decide +kernel), by decide +kernel⟩,
    ⟨came { frame1 3 with payload := List.replicate 64 1 } [(5, local1 false)], 0, 0, { frame1 3 with payload := List.replicate 64 1 }, local1 false, 7, 0, noFlr_of (by decide +kernel), noEngine_of (by decide +kernel), by decide +kernel⟩,
    ⟨(came { frame1 4 with addr := 7 } []).put PEG_SRC_CTRL.enable 7 1, 0, 0, { frame1 4 with addr := 7 }, by decide +kernel⟩,
    ⟨timed (.timeFrame 0) (((linked PortDyn.reset).put JP_STATUS.tx_doze 0 1).setBayState 0 0), 0, by decide +kernel⟩,
    ⟨timed (.timeFrame 0) ((linked PortDyn.reset).setBayState 0 0), 0, by decide +kernel⟩,
    ⟨timed (.response 0 5) (came (frame1 1) [(5, local1 false)]), 0, 5, local1 false, 7, 0, noFlr_of (by decide +kernel), by decide +kernel⟩,
    ⟨timed (.tagHold 0 5) (came (frame1 1) [(5, local1 true)]), 0, 5, noFlr_of (by decide +kernel), noEngine_of (by decide +kernel), by decide +kernel⟩,
    ⟨merging, 0, link 1 0, by decide +kernel⟩⟩

theorem witness_InterruptsFlow :
    (∃ (s : State) (a : Agent) (i : PegId), s.Writable a RegKind.PEG_SRC_CMD ↑i ∧ s.pegEnabled ↑i = true ∧ s.get PEG_SRC_STATUS.state ↑i = 0)
    ∧ (∃ (s : State) (a : Agent) (i : PegId), s.Writable a RegKind.PEG_SRC_CMD ↑i ∧ s.pegEnabled ↑i = true ∧ s.get PEG_SRC_STATUS.state ↑i = 2)
    ∧ (∃ (s : State) (a : Agent) (i : PegId), s.Writable a RegKind.PEG_SRC_CMD ↑i ∧ s.pegEnabled ↑i = true ∧ (s.get PEG_SRC_STATUS.state ↑i = 1 ∨ s.get PEG_SRC_STATUS.state ↑i = 3))
    ∧ (∃ (s : State) (a : Agent) (i : PegId), s.Writable a RegKind.PEG_SRC_CMD ↑i ∧ s.pegEnabled ↑i = false)
    ∧ (∃ (s : State) (a : Agent) (i : PegId), s.Writable a RegKind.PEG_SRC_CMD ↑i ∧ s.pegAuto ↑i = false ∧ s.get PEG_SRC_STATUS.state ↑i = 2)
    ∧ (∃ (s : State) (a : Agent) (i : PegId), s.Writable a RegKind.PEG_SRC_CMD ↑i ∧ s.pegAuto ↑i = false ∧ s.get PEG_SRC_STATUS.state ↑i = 3)
    ∧ (∃ (s : State) (a : Agent) (i : PegId), s.Writable a RegKind.PEG_SRC_CMD ↑i ∧ s.pegAuto ↑i = false ∧ s.get PEG_SRC_STATUS.state ↑i ≤ 1)
    ∧ (∃ (s : State) (i : PegId) (t0 : Nat) (ts : List Nat), s.isUp = true ∧ s.vecs = [] ∧ s.freed = [] ∧ s.pendingPegs = [↑i] ∧ s.pegDeliverable ↑i = true ∧ s.pegClear ↑i = true ∧ s.pegOpen (s.get PEG_SRC_CTRL.owner ↑i) = true ∧ s.compatFn (s.get PEG_SRC_CTRL.owner ↑i) = false ∧ s.slotOrder ↑i = t0 :: ts ∧ s.canSend (s.get PEG_SRC_CTRL.owner ↑i) (s.slotEntry (↑i) t0) = true ∧ s.backed (s.get PEG_SRC_CTRL.owner ↑i) (s.slotEntry (↑i) t0) = true)
    ∧ (∃ (s : State) (i : PegId) (t0 : Nat) (ts : List Nat), s.isUp = true ∧ s.vecs = [] ∧ s.freed = [] ∧ s.pendingPegs = [↑i] ∧ s.pegDeliverable ↑i = true ∧ s.pegClear ↑i = true ∧ s.pegOpen (s.get PEG_SRC_CTRL.owner ↑i) = true ∧ s.compatFn (s.get PEG_SRC_CTRL.owner ↑i) = false ∧ s.slotOrder ↑i = t0 :: ts ∧ s.canMaster (s.get PEG_SRC_CTRL.owner ↑i) = false)
    ∧ (∃ (s : State) (f : FnId) (e : Nat), e < 2048 ∧ s.isUp = true ∧ s.vecs = [] ∧ s.freed = [] ∧ s.pendingPegs = [] ∧ s.pegOpen ↑f = true ∧ s.compatFn ↑f = false ∧ s.pba = [↑f * 2048 + e] ∧ s.canSend (↑f) e = true ∧ s.backed (↑f) e = true) :=
  ⟨⟨peg0 0, .ridge, 0, writable_of (by decide +kernel), by decide +kernel⟩,
    ⟨peg0 2, .ridge, 0, writable_of (by decide +kernel), by decide +kernel⟩,
    ⟨peg0 1, .ridge, 0, writable_of (by decide +kernel), by decide +kernel⟩,
    ⟨up, .ridge, 0, writable_of (by decide +kernel), by decide +kernel⟩,
    ⟨peg0 2, .ridge, 0, writable_of (by decide +kernel), by decide +kernel⟩,
    ⟨peg0 3, .ridge, 0, writable_of (by decide +kernel), by decide +kernel⟩,
    ⟨peg0 0, .ridge, 0, writable_of (by decide +kernel), by decide +kernel⟩,
    ⟨msix0 (vector2 (peg0 1)), 0, 0, [], by decide +kernel⟩,
    ⟨masked0, 0, 0, [], by decide +kernel⟩,
    ⟨held0, 0, 0, by decide +kernel⟩⟩

theorem witness_ScribeCaptures :
    (∃ (s : State) (a : Agent) (b : Nat), s.Writable a RegKind.SCRIBE_CMD 0 ∧ b < 2 ∧ s.scribe.capturing = none ∧ s.targetBank = some b)
    ∧ (∃ (s : State) (a : Agent) (b : Nat), s.Writable a RegKind.SCRIBE_CMD 0 ∧ b < 2 ∧ s.scribe.capturing = some b)
    ∧ (∃ (s : State) (a : Agent) (b : Nat), s.Writable a RegKind.SCRIBE_CMD 0 ∧ b < 2 ∧ s.scribe.capturing = none ∧ s.targetBank = none)
    ∧ (∃ (s : State) (a : Agent) (b : Nat), s.Writable a RegKind.SCRIBE_CMD 0 ∧ b < 2 ∧ s.get SCRIBE_STATUS.a_state = 2)
    ∧ (∃ (s : State) (a : Agent) (b : Nat), s.Writable a RegKind.SCRIBE_CMD 0 ∧ b < 2 ∧ s.get SCRIBE_STATUS.b_state = 2)
    ∧ (∃ (s : State) (a : Agent) (b : Nat), s.Writable a RegKind.SCRIBE_CMD 0 ∧ b < 2 ∧ s.get SCRIBE_STATUS.a_state = 3)
    ∧ (∃ (s : State) (a : Agent) (b : Nat), s.Writable a RegKind.SCRIBE_CMD 0 ∧ b < 2 ∧ s.get SCRIBE_STATUS.b_state = 3)
    ∧ (∃ (s : State) (b : Nat), b < 2 ∧ s.fires Timer.scribe = true ∧ 0 < s.get SCRIBE_CTRL.period_ms ∧ s.scribe.capturing = none ∧ s.targetBank = some b)
    ∧ (∃ (s : State) (b : Nat), b < 2 ∧ s.scribe.capturing = some b) :=
  ⟨⟨banks 0 0, .ridge, 0, writable_of (by decide +kernel), by decide +kernel⟩,
    ⟨capt 0, .ridge, 0, writable_of (by decide +kernel), by decide +kernel⟩,
    ⟨banks 3 3, .ridge, 0, writable_of (by decide +kernel), by decide +kernel⟩,
    ⟨banks 2 2, .ridge, 0, writable_of (by decide +kernel), by decide +kernel⟩,
    ⟨banks 2 2, .ridge, 0, writable_of (by decide +kernel), by decide +kernel⟩,
    ⟨banks 3 3, .ridge, 0, writable_of (by decide +kernel), by decide +kernel⟩,
    ⟨banks 3 3, .ridge, 0, writable_of (by decide +kernel), by decide +kernel⟩,
    ⟨periodic, 0, by decide +kernel⟩,
    ⟨capt 0, 0, by decide +kernel⟩⟩

theorem witness_RegistersReadAndWrite :
    (∃ (s : State) (a : Agent) (o : Nat), (∀ (f : FnId), a = Agent.fn f → s.get HP_LINK_STATUS.pm_state (fnPort ↑f) ≠ 2 ∧ (s.host (fnPort ↑f)).regGot = []) ∧ s.reach a = 2 ∧ (∀ (x : RingAccess), x ∈ s.ring → x.master ≠ masterOf a) ∧ o % 8 = 0 ∧ o + 8 ≤ s.mapSize a ∧ s.steady (s.regionAt a o) = true)
    ∧ (∃ (s : State) (a : Agent) (o c : Nat), (∀ (f : FnId), a = Agent.fn f → s.get HP_LINK_STATUS.pm_state (fnPort ↑f) ≠ 2 ∧ (s.host (fnPort ↑f)).regGot = []) ∧ s.reach a = 2 ∧ (∀ (x : RingAccess), x ∈ s.ring → x.master ≠ masterOf a) ∧ o % 8 = 0 ∧ o + 8 ≤ s.mapSize a ∧ s.steady (s.regionAt a o) = true ∧ s.touched a o (BitVec.allOnes 64) = [Tgt.live c] ∧ s.right a (Tgt.live c) = Right.write)
    ∧ (∃ (s : State) (a : Agent) (o : Nat) (k : RegKind) (i : Nat), (∀ (f : FnId), a = Agent.fn f → s.get HP_LINK_STATUS.pm_state (fnPort ↑f) ≠ 2 ∧ (s.host (fnPort ↑f)).regGot = []) ∧ s.reach a = 2 ∧ (∀ (x : RingAccess), x ∈ s.ring → x.master ≠ masterOf a) ∧ o % 8 = 0 ∧ o + 8 ≤ s.mapSize a ∧ s.steady (s.regionAt a o) = true ∧ k ∈ [RegKind.HP_LINK_CTRL, RegKind.HP_PM_CTRL, RegKind.HP_TAG, RegKind.HP_PTM_CTRL, RegKind.Q_COAL, RegKind.BRACE_CTRL] ∧ i < k.count ∧ s.touched a o 4294967295 = [Tgt.reg { kind := k, idx := i, sh := 0 }] ∧ s.right a (Tgt.reg { kind := k, idx := i, sh := 0 }) = Right.write)
    ∧ (∃ (s : State) (a : Agent) (o : Nat) (f : FnId) (g : Tgt), (∀ (f : FnId), a = Agent.fn f → s.get HP_LINK_STATUS.pm_state (fnPort ↑f) ≠ 2 ∧ (s.host (fnPort ↑f)).regGot = []) ∧ s.reach a = 2 ∧ (∀ (x : RingAccess), x ∈ s.ring → x.master ≠ masterOf a) ∧ o % 8 = 0 ∧ o + 8 ≤ s.mapSize a ∧ s.steady (s.regionAt a o) = true ∧ a = Agent.fn f ∧ s.touched a o (BitVec.allOnes 64) = [g] ∧ s.right a g = Right.none)
    ∧ (∃ (s : State) (a : Agent) (o : Nat) (f : FnId), (∀ (f : FnId), a = Agent.fn f → s.get HP_LINK_STATUS.pm_state (fnPort ↑f) ≠ 2 ∧ (s.host (fnPort ↑f)).regGot = []) ∧ s.reach a = 2 ∧ (∀ (x : RingAccess), x ∈ s.ring → x.master ≠ masterOf a) ∧ a = Agent.fn f ∧ s.steady 34 = true ∧ o % 8 = 0 ∧ o + 8 ≤ s.bar2Size ↑f ∧ o < tableBase ↑f)
    ∧ (∃ (s : State) (a : Agent) (f : FnId) (e j : Nat), (∀ (f : FnId), a = Agent.fn f → s.get HP_LINK_STATUS.pm_state (fnPort ↑f) ≠ 2 ∧ (s.host (fnPort ↑f)).regGot = []) ∧ s.reach a = 2 ∧ (∀ (x : RingAccess), x ∈ s.ring → x.master ≠ masterOf a) ∧ a = Agent.fn f ∧ s.steady 34 = true ∧ e < s.tableSize ↑f ∧ j < 4)
    ∧ (∃ (s : State) (a : Agent) (f : FnId) (n : Nat), (∀ (f : FnId), a = Agent.fn f → s.get HP_LINK_STATUS.pm_state (fnPort ↑f) ≠ 2 ∧ (s.host (fnPort ↑f)).regGot = []) ∧ s.reach a = 2 ∧ (∀ (x : RingAccess), x ∈ s.ring → x.master ≠ masterOf a) ∧ a = Agent.fn f ∧ s.steady 34 = true ∧ 32 * n < s.tableSize ↑f) :=
  ⟨⟨up, .ridge, 0x800000, by intro f h; cases h <;> decide +kernel, by decide +kernel⟩,
    ⟨up, .ridge, 0x800000, 0, by intro f h; cases h <;> decide +kernel, by decide +kernel⟩,
    ⟨up, .ridge, 0x30008, .HP_LINK_CTRL, 0, by intro f h; cases h <;> decide +kernel, by decide +kernel⟩,
    ⟨up.put FUNC_STATE.mse 1 1, .fn 1, 0x300040, 1, .reg ⟨.Q_COAL,0,0⟩, by intro f h; cases h <;> decide +kernel, by decide +kernel⟩,
    ⟨up, .fn 0, 0, 0, by intro f h; cases h <;> decide +kernel, by decide +kernel⟩,
    ⟨up, .fn 0, 0, 0, 0, by intro f h; cases h <;> decide +kernel, by decide +kernel⟩,
    ⟨up, .fn 0, 0, 0, by intro f h; cases h <;> decide +kernel, by decide +kernel⟩⟩

theorem witness_ResetValues :
    (∃ (k : RegKind), ¬k ∈ [RegKind.FUSE_STATUS, RegKind.FUSE_SERIAL0, RegKind.FUSE_SERIAL1, RegKind.FUSE_MARGINAL])
    ∧ (∃ (s : State) (fuses : List FuseRead), s.phase = Phase.off ∧ wfFuses fuses = true ∧ s.ports = [] ∧ s.pins.standby = false) :=
  ⟨⟨.Q_COAL, by decide +kernel⟩,
    ⟨State.reset, fuseReads, by decide +kernel⟩⟩

theorem witness_AutomaticEndOfService :
    (∃ (s : State) (a : Agent) (i : PegId), s.Writable a RegKind.PEG_SRC_CMD ↑i ∧ (s.get PEG_SRC_CTRL.auto_eos ↑i = 1 ∨ s.compatFn (s.get PEG_SRC_CTRL.owner ↑i) = true))
    ∧ (∃ (s : State) (i : PegId), (s.get PEG_SRC_CTRL.auto_eos ↑i = 1 ∨ s.compatFn (s.get PEG_SRC_CTRL.owner ↑i) = true) ∧ s.isUp = true ∧ s.vecs = [] ∧ s.freed = [] ∧ s.pendingPegs = [↑i] ∧ s.pegDeliverable ↑i = true ∧ s.pegClear ↑i = true ∧ s.pegOpen (s.get PEG_SRC_CTRL.owner ↑i) = true) :=
  ⟨⟨auto0 1, .ridge, 0, writable_of (by decide +kernel), by decide +kernel⟩,
    ⟨auto0 1, 0, by decide +kernel⟩⟩

theorem witness_EntriesSignalAtOnce :
    (∃ (s : State) (q : QId) (c : Current) (st : Nat), s.EntryWay ↑q ∧ (irqNowOf c.d.words = true ∨ st ≠ 0 ∨ (fun x formed => ∃ k, x.deadline = some k ∧ 64 * k < keyNs formed) c.d s.devtime) ∧ s.isUp = true ∧ s.canMaster (s.qOwner ↑q) = true ∧ s.cqFull ↑q = false ∧ (s.queue ↑q).held = none ∧ (s.queue ↑q).unacked = [] ∧ (s.queue ↑q).cur = some c ∧ (s.queue ↑q).haltDue = none ∧ c.ended = some st)
    ∧ (∃ (s : State) (q : QId) (c : Current) (st : Nat), s.EntryWay ↑q ∧ s.isUp = true ∧ s.canMaster (s.qOwner ↑q) = true ∧ s.cqFull ↑q = false ∧ (s.queue ↑q).held = none ∧ (s.queue ↑q).unacked = [] ∧ (s.queue ↑q).cur = some c ∧ (s.queue ↑q).haltDue = some st)
    ∧ (∃ (s : State) (q : QId) (e : Entry), s.EntryWay ↑q ∧ (∀ (c : Current), (s.queue ↑q).cur = some c → c.ended = none) ∧ (irqNowOf e.d.words = true ∨ e.status ≠ 0 ∨ e.halted = true ∨ (fun x formed => ∃ k, x.deadline = some k ∧ 64 * k < keyNs formed) e.d e.formed) ∧ s.isUp = true ∧ s.canMaster (s.qOwner ↑q) = true ∧ s.cqFull ↑q = false ∧ (s.queue ↑q).held = some e ∧ (e.slot = true ∨ s.get Q_STATE.state ↑q ∈ [1, 2, 3]) ∧ (s.queue ↑q).haltDue = none) :=
  ⟨⟨room5 (withCur { running1 with ended := some 1 }), 5, { running1 with ended := some 1 }, 1, way_of (by decide +kernel), .inr (.inl (by decide +kernel)), by decide +kernel⟩,
    ⟨room5 { withCur running1 with haltDue := some 1 }, 5, running1, 1, way_of (by decide +kernel), by decide +kernel⟩,
    ⟨room5 { QDyn.reset with held := some entry5 }, 5, entry5, way_of (by decide +kernel), some_of (by decide +kernel), .inr (.inl (by decide +kernel)), by decide +kernel⟩⟩

/-! ### Statements about every command or every step -/

/-- The state after a command. -/
def after (c : Instr) (s : State) : State :=
  match exec c s with
  | .next t => t
  | _ => s

theorem witness_IdleStepPassesTime_off : State.reset.pending = [] ∧ State.reset.phase = .off := by decide +kernel

theorem witness_CommandsComplete : Instr.halt.wf = true ∧ (Instr.flashUe 0x4000000).wf = false := by decide

theorem witness_StepKeepsSound : up.Inv ∧ ∃ t, step up = .next t :=
  ⟨by constructor <;> decide +kernel, _, rfl⟩

theorem witness_CommandsGoForward : ∃ t, exec .getEndpointId up = .next t := ⟨_, rfl⟩

theorem witness_FramesOfRidgeAndHostCommands :
    (∃ t, exec .halt pass1 = .next t) ∧ (∃ t, exec (.query 0) (streams0 ⟨[(0, 5)], some 0, none, false⟩) = .next t)
    ∧ ∃ t, exec (.perstReleased 3) up = .next t := ⟨⟨_, rfl⟩, ⟨_, rfl⟩, _, rfl⟩

theorem witness_FramesOfQueuesAndInterrupts :
    (∃ t, exec .pegDelivery (msix0 (vector2 (peg0 1))) = .next t)
    ∧ ((queue5 1 QDyn.reset).Writable .ridge .Q_CMD 5 ∧ ∃ t, exec (.stop .ridge 5) (queue5 1 QDyn.reset) = .next t)
    ∧ ((peg0 0).Writable .ridge .PEG_SRC_CMD 0 ∧ ∃ t, exec (.raise .ridge 0) (peg0 0) = .next t)
    ∧ (up.Writable (ctxAgent 4) .TXN_CTRL 4 ∧ ∃ t, exec (.txnBegin 4) up = .next t) :=
  ⟨⟨_, rfl⟩, ⟨writable_of (by decide +kernel), _, rfl⟩, ⟨writable_of (by decide +kernel), _, rfl⟩,
    writable_of (by decide +kernel), _, rfl⟩

theorem witness_FramesOfJoistCommands :
    (∃ t, exec (.sleepReq 95) up = .next t) ∧ ∃ t, exec (.cdrLockLoss 191) up = .next t := ⟨⟨_, rfl⟩, _, rfl⟩

theorem witness_LatchesHold :
    (up.isUp = true ∧ ∃ t, exec .hardTrip up = .next t)
    ∧ (∀ p ∈ [Phase.tripped, .safe, .shutdown, .off], (stage p).phase = p ∧ ∃ t, exec .hardTrip (stage p) = .next t) := by
  refine ⟨⟨by decide +kernel, _, rfl⟩, ?_⟩
  intro p hp
  exact ⟨rfl, _, rfl⟩

theorem witness_AutomaticEndOfService_delivery :
    (auto0 1).get PEG_SRC_CTRL.auto_eos 0 = 1 ∧ (auto0 1).get PEG_SRC_STATUS.state 0 = 1 ∧ ∃ t, exec .pegDelivery (auto0 1) = .next t :=
  ⟨by decide +kernel, by decide +kernel, _, rfl⟩

theorem witness_LanesWork_mask : (linked { PortDyn.reset with maskDue := some 1 }).get JL_STATUS.state 0 = 5
    ∧ ((linked { PortDyn.reset with maskDue := some 1 }).port 0).sleepAck = false
    ∧ (((linked { PortDyn.reset with maskDue := some 1 }).endActive 0 []).port 0).txq = [] := by decide +kernel

theorem witness_HostCompletionsEnd_quiet : up.steady 34 = true ∧ (∀ b : BayId, up.bayState b = 0 → up.deviceless b = false)
    ∧ (tag3 { fetchReq with fgen := 1 } false).steady 34 = true := by decide +kernel

theorem witness_QueuesWork_quiet : (queue5 1 QDyn.reset).steady (24 + (queue5 1 QDyn.reset).get Q_CFG.eg 5) = true := by decide +kernel

/-! ### Commands that no port can present -/

theorem test_wf_fuses : (Instr.mainsPowerUp (fuseReads.take 255) 0 0).wf = false := by decide +kernel
theorem test_wf_completion : (Instr.hostCompletion 0 0 .ok (List.replicate 4097 0)).wf = false := by decide +kernel
theorem test_wf_rom : (Instr.expansionRomRead 2 4).wf = false := by decide
theorem test_wf_window : (Instr.windowRead 0 4092 2 15 15 0).wf = false ∧ (Instr.windowRead 0 0 2 15 0 0).wf = false
    ∧ (Instr.windowWrite 0 0 [1, 2, 3] 7 0 false).wf = false := by decide
theorem test_wf_access : (Instr.registerRead .ridge ⟨.bar0, 2⟩ ⟨1, 15, 0, 0⟩).wf = false ∧ (Instr.registerWrite .ridge 0 []).wf = false
    ∧ (Instr.retFieldWrite .ridge 1 [some 0]).wf = false ∧ (Instr.msixTableWrite 0 0 []).wf = false := by decide
theorem test_wf_units : (Instr.data 0 []).wf = false ∧ (Instr.idle 0 (List.replicate 5 ⟨false, []⟩)).wf = false := by decide
theorem test_wf_codes : (Instr.faultEvent 0 63 0 0 0).wf = false ∧ (Instr.safeStateEntry 0 0).wf = false := by decide
theorem test_wf_flash : (Instr.flashUe 0x4000000).wf = false := by decide
theorem test_wf_rail : (Instr.railFault 7 12).wf = false := by decide
theorem test_wf_ridge : (Instr.ridgeFailure 0).wf = false ∧ (Instr.rngHealthFailure 0 0).wf = false
    ∧ (Instr.keyExchange (.mctp 0x60) 0 [0]).wf = false := by decide
theorem test_wf_inputs : (Instr.plumbPass ⟨[], [], [], []⟩).wf = false := by decide

/-- An operand that no port can present does nothing; a TLP of a host so shaped is a Malformed TLP (R160). -/
theorem test_illFormed : exec (.flashUe 0x4000000) up = .next up
    ∧ (after (.windowRead 0 4092 2 15 15 0) up).cfgBit 0 0x104 18 = true := ⟨rfl, by decide +kernel⟩

/-! ### Single steps; the expected values are worked from the rules named -/

/-- The CRC-32C of the digits 1 to 9, the check value that the CRC is published with. -/
theorem test_crc32c : crc32c [0x31, 0x32, 0x33, 0x34, 0x35, 0x36, 0x37, 0x38, 0x39] = 0xE3069283 := by decide +kernel

/-- R163: configuration dword 0 is Device ID 9600H and Vendor ID 1F4BH. -/
theorem test_configRead : (after (.configRead 0 0 0) up).sent.head? = some (.cfgCompletion 0 0 .ok 0x96001F4B) := by decide +kernel

/-- R443: in Q16.16, 3.0 times -0.5 is -1.5. -/
theorem test_mulq : (after (.mulq 3 1 2) (pass1.modPlumb (fun p => (p.setW 1 0x30000).setW 2 0xFFFF8000))).plumb.w 3 = 0xFFFE8000 := by
  decide +kernel

/-- R443: SUB takes Wb from Wa, and a result may take the place of an operand. -/
theorem test_sub : (after (.sub 2 1 2) (pass1.modPlumb (fun p => (p.setW 1 5).setW 2 7))).plumb.w 2 = 0xFFFFFFFE := by decide +kernel

/-- R443: MIN compares signed values. -/
theorem test_min : (after (.min 3 1 2) (pass1.modPlumb (fun p => (p.setW 1 1).setW 2 0x80000000))).plumb.w 3 = 0x80000000 := by
  decide +kernel

/-- R378: a raise of an idle source makes it pending, and one in service pending in service. -/
theorem test_raise : (after (.raise .ridge 0) (peg0 0)).get PEG_SRC_STATUS.state 0 = 1
    ∧ (after (.raise .ridge 0) (peg0 2)).get PEG_SRC_STATUS.state 0 = 3 := by decide +kernel

/-- R378: end of service of a source that is pending in service leaves it pending. -/
theorem test_eos : (after (.eos .ridge 0) (peg0 3)).get PEG_SRC_STATUS.state 0 = 1 := by decide +kernel

/-- R124: begin opens the transaction of the context and of no other. -/
theorem test_txnBegin : (after (.txnBegin 4) up).get TXN_STATUS.state 4 = 1 ∧ (after (.txnBegin 4) up).get TXN_STATUS.state 3 = 0 := by
  decide +kernel

/-- R105: the hard trip takes every region but the Sill to off. -/
theorem test_hardTrip : (after .hardTrip up).phase = .tripped ∧ (after .hardTrip up).region 43 = 4 := by decide +kernel

/-- R69, R427: an endpoint takes the ID given, and 0 is no endpoint's. -/
theorem test_setEndpointId : (after (.setEndpointId 0x1D) up).ridge.eid = 0x1D
    ∧ (after (.setEndpointId 0) up).ridge.eid = up.ridge.eid := by decide +kernel

/-- R69: in slot 0 Ridge takes commands at SMBus address 60H alone. -/
theorem test_smbusAddress : (after (.getInfo (.mctp 0x60 [])) up).sent.length = 1 ∧ (after (.getInfo (.mctp 0x61 [])) up).sent = [] := by
  decide +kernel

/-- R459: a trigger begins a capture, into bank A where both are empty. -/
theorem test_trigger : (after (.trigger .ridge) (banks 0 0)).scribe.capturing = some 0 ∧ (after (.trigger .ridge) (banks 0 0)).bankState 0 = 1 := by
  decide +kernel

/-- R398: a fault is counted, and word 2 of its history entry is its locator. -/
theorem test_faultEvent : (after (.faultEvent 5 0 7 0xAB 0xCD) up).ctr (braceCtr 5 0) = 1
    ∧ (after (.faultEvent 5 0 7 0xAB 0xCD) up).word .BRACE_HIST 2 = 0xAB := by decide +kernel

/-- R300: after 24 identical bits a bit of the opposite value is inserted, the first of the next run, and the receiver deletes it; a 25th
identical bit is a violation. -/
theorem test_stuffing : (stuff 0 false (List.replicate 25 false)).line = List.replicate 24 false ++ [true, false]
    ∧ ((destuff 0 false false (List.replicate 24 false ++ [true, false])).kept.map (·.bit)) = List.replicate 25 false
    ∧ (destuff 0 false false (List.replicate 26 false)).violations = 1 := by decide +kernel

/-- R48: a read of BAR2's doorbells answers 0 by a completion, with the tag of the request. -/
theorem test_doorbellRead : (after (.registerRead (.fn 0) ⟨.bar2, 8⟩ ⟨2, 15, 15, 7⟩) up).sent.head? =
    some (.completion 0 0 7 .ok (List.replicate 8 0)) := by decide +kernel

/-- R137: a link that trains to 16.0 GT/s without bypass runs equalisation at 8.0 and 16.0 GT/s. -/
theorem test_equalisation : eqRates 3 false = [2, 3] := by decide +kernel

/-- The command at the front of the queue is taken and the rest keeps its order. -/
theorem test_step : (match step { up with pending := [.rollback 0, .halt, .nop] } with
    | .next t => t.pending
    | _ => []) = [.halt, .nop] := by decide +kernel


end Sys2Proof.Tests
end

/-! The machine's own statements: time that passes on an empty queue, what every command follows (State.Follows), and the
soundness of the state that the two together give. -/

section
namespace Sys2Proof.Machine

/-! ### Time without a command -/

/-- A tick of 1 ns changes the clock, DEVTIME with its slew and the wear budget, and nothing else. -/
theorem State.tick_only (s : State) : State.Only [] [.clock, .devtime, .wear] s s.tick :=
  State.Within.only (State.tick_within (State.Within.refl _ s) (by decide +kernel))

theorem State.tick_off {s : State} (h : s.phase = .off) : s.tick = s := by simp [State.tick, State.powered, h]

theorem State.tick_on {s : State} (h : s.phase ≠ .off) : s.tick = s.advance 1 := by simp [State.tick, State.powered, h]

/-- With no slew to take up, DEVTIME advances as the clock does. -/
theorem State.advance_devtime {s : State} (h : s.slew = 0) (dt : Nat) : (s.advance dt).devtime = (s.devtime + dt) % 2 ^ 64 := by
  have hg : slewStep s dt = 0 := by
    rw [slewStep, h]
    simp only [ge_iff_le, le_refl, if_true]
    omega
  simp only [State.advance, hg]
  omega

/-- Settles O2: a tick is nothing without mains, and an advance of 1 ns with it. -/
theorem idleStepPassesTime : Obligations.IdleStepPassesTime := by
  intro s hq
  refine ⟨s.tick, by rw [step, hq], s.tick_only, ?_⟩
  by_cases h : s.phase = .off
  · simp [State.tick_off h, h]
  · rw [State.tick_on h, if_neg h]
    exact ⟨rfl, fun _ h0 => State.advance_devtime h0 1⟩

/-! ### What every command follows -/

/-- Every next state that an outcome answers follows `s`. -/
def LeadsOn (s : State) (o : Outcome) : Prop := ∀ t, o = .next t → s.Follows t

theorem LeadsOn.next {s t : State} (h : s.Follows t) : LeadsOn s (.next t) := by
  rintro _ ⟨⟩
  exact h

/-- A command that the module does not take leaves the state as it is. -/
theorem LeadsOn.accepted {s t : State} (ok : Bool) (h : s.Follows t) : LeadsOn s (s.accepted ok t) :=
  .next (.ite h (.refl s))

theorem LeadsOn.whenUp {s : State} {g : State → State} (h : ∀ t, s.Follows t → s.Follows (g t)) : LeadsOn s (.next (s.whenUp g)) :=
  .next (State.whenUp_follows (.refl s) h)

theorem LeadsOn.onExpiry {s : State} {t : Timer} {g : State → State} (h : ∀ u, s.Follows u → s.Follows (g u)) :
    LeadsOn s (.next (s.onExpiry t g)) :=
  .next (State.onExpiry_follows (.refl s) t h)

theorem LeadsOn.byConfig {s : State} {f : Nat} {g : State → State} (h : ∀ t, s.Follows t → s.Follows (g t)) :
    LeadsOn s (.next (s.byConfig f g)) :=
  .next (State.byConfig_follows (.refl s) h f)

theorem LeadsOn.writeField {s : State} {a : Agent} {F : Fld} {i v : Nat} : LeadsOn s (.next (s.writeField a F i v)) :=
  .next (State.writeField_follows (.refl s) ..)

theorem LeadsOn.plumbExec {s : State} {legal : Bool} {g : PlumbDyn → PlumbDyn} : LeadsOn s (.next (s.plumbExec legal g)) :=
  .next (State.plumbExec_follows (.refl s) ..)

/-- A command of a caller to Ridge follows when what runs it does. -/
theorem LeadsOn.command {s : State} {c : Caller} {op : Nat} {allowed : Bool} {fits : Nat → Bool}
    {run : State → List Byte → Nat × List Byte × State} (h : ∀ t req, s.Follows t → s.Follows (run t req).2.2) :
    LeadsOn s (.next (s.command c op allowed fits run)) :=
  .next (State.command_follows (.refl s) h ..)

/-- Every command follows the state it is given: it keeps the queue, the clock, the counter of free values, the record of what left
the module, and soundness. -/
theorem exec_leadsOn (c : Instr) (s : State) : LeadsOn s (exec c s) := by
  have hs := State.Follows.refl s
  cases c with
  -- power, start-up and pins
  | mainsPowerUp => exact .accepted _ (State.powerUp_follows hs ..)
  | bootScanComplete => exact .next (State.scanDone_follows hs ..)
  | plumbStartPermit => exact .next (State.permit_follows hs)
  | restoreStrobe => exact .next (State.applyRestore_follows hs)
  | mainsLoss => exact .next (State.loseMains_follows hs)
  | modResetAsserted => exact .next (State.modResetLow_follows hs ..)
  | modResetReleased => exact .next (State.releaseModReset_follows hs)
  | standbyRecognised => exact .next (State.standbyLow_follows hs ..)
  | standbyReleased => exact .next (State.standbyHigh_follows hs ..)
  | ppsInEdge => exact .next (State.ppsEdge_follows hs ..)
  | hardTrip => exact .next (State.trip_follows hs)
  | thermalShutdown => exact .next (State.askShutdown_follows hs)
  | shutdownDeferralExpiry => exact .next (State.deferralOver_follows hs)
  -- host links
  | perstAsserted => exact .next (State.perstAssert_follows hs ..)
  | perstReleased => exact .next (State.perstHigh_follows hs ..)
  | cprsntChange => exact .next (State.cable_follows hs ..)
  | linkTrainingComplete => exact .next (State.linkTrained_follows hs ..)
  | hotReset | linkDown => exact .next (State.hostDown_follows hs ..)
  | pmeTurnOff => exact .next (State.turnOff_follows hs ..)
  | l1EntryRequest => exact .next (State.askL1_follows hs ..)
  | l1Exit => exact .next (State.exitL1_follows hs ..)
  | l1SubstateEntry => exact .next (State.enterL1Sub_follows hs ..)
  | l0pEvaluation => exact .next (State.evalL0p_follows hs ..)
  | l0pWidthRequest => exact .next (State.hostL0p_follows hs ..)
  | ltrMessage => exact .next (State.judgeLtr_follows hs ..)
  | hpLtrWrite | faultDetailClear | commit => exact .next (State.writeAs_follows hs ..)
  | ptmDialog => exact .onExpiry fun _ h => State.ptmDialog_follows h ..
  | ptmContextExpiry => exact .onExpiry fun _ h => State.ptmLost_follows h ..
  | ideIntegrityFailure => exact .next (State.ideFail_follows hs ..)
  | query | keyProg | kSetGo | kSetStop => exact .next (State.km_follows hs ..)
  -- configuration space and functions
  | configRead => exact .next (State.configRead_follows hs ..)
  | configWrite => exact .next (State.configWriteAll_follows hs ..)
  | initiateFlr => exact .byConfig fun _ h => State.flr_follows h ..
  | flrComplete => exact .next (State.endSequence_follows hs ..)
  | flrTagAbandon =>
    exact .next (State.retryHeld_follows (State.onExpiry_follows hs _ fun _ h => State.abandonTag_follows h ..))
  | vfEnableSet => exact .byConfig fun _ h => State.setVfe_follows h ..
  | vfEnableClear => exact .byConfig fun _ h => State.writeVfe_follows h ..
  | busMasterEnableClear | busMasterEnableSet => exact .byConfig fun _ h => State.setBme_follows h ..
  | d3hotEntry => exact .byConfig fun _ h => State.setPower_follows h ..
  | resizableBarWrite => exact .byConfig fun _ h => State.resizeBar_follows h ..
  | msiMultipleMessageEnableWrite => exact .byConfig fun _ h => State.setMme_follows h ..
  | expansionRomRead => exact .next (.ite (State.romRead_follows hs ..) (State.badRequest_follows hs ..))
  -- requests of the hosts and completions from them
  | windowRead => exact .next (.ite (State.windowRead_follows hs ..) (State.badRequest_follows hs ..))
  | windowWrite =>
    exact .next (.ite (State.badRequest_follows hs ..) (.ite (State.badRequest_follows hs ..) (State.windowWrite_follows hs ..)))
  | doorbell =>
    have hl := State.leaveL1_follows hs
    have hw := fun h => State.wakeRegion_follows (hl h)
    exact .next (.ite hs (.ite (State.dropUr_follows (hl _) ..) (.ite (hw _ _) (State.ringDoorbell_follows (hw _ _) ..))))
  | hostCompletion =>
    exact .next (.ite (State.restBays_follows (State.retryHeld_follows (State.hostCompletion_follows hs ..)))
      (State.badRequest_follows hs ..))
  | hostCompletionTimeout =>
    exact .next (State.restBays_follows (State.retryHeld_follows
      (State.onExpiry_follows hs _ fun _ h => State.completionTimeout_follows h ..)))
  | timedOutTagRelease =>
    exact .next (State.retryHeld_follows (State.onExpiry_follows hs _ fun _ h => State.releaseHostTag_follows h ..))
  | hostTagGrant =>
    exact .whenUp fun _ h => State.retryEntries_follows (State.runEngines_follows (State.hostGrant_follows h ..))
  | unsupportedRequest => exact .next (State.badRequest_follows hs ..)
  | msixTableWrite => exact .next (.ite (State.writeTable_follows hs ..) (State.badRequest_follows hs ..))
  -- register accesses
  | registerWrite a | retFieldWrite a =>
    cases a with
    | fn => exact .next (.ite (State.regWrite_follows hs ..) (State.badRequest_follows hs ..))
    | ridge => exact .accepted _ (State.regWrite_follows hs ..)
  | registerRead a p =>
    obtain ⟨bar, off⟩ := p
    cases a with
    | fn =>
      cases bar with
      | bar0 => exact .next (.ite (State.regRead_follows hs ..) (State.badRequest_follows hs ..))
      | bar2 => exact .next (.ite (State.bar2Read_follows hs ..) (State.badRequest_follows hs ..))
    | ridge =>
      cases bar with
      | bar0 => exact .accepted _ (State.regRead_follows hs ..)
      | bar2 => exact .next hs
  -- commands that write one field of a register
  | txnBegin | rollback | rssCompact | enable | stop | resume | restart | skip | disable | raise | eos | retrain | portReset
  | bayReset | braceRelease | alive | mailboxAbort | trigger | triggerHold | holdA | holdB | releaseA | releaseB =>
    exact .writeField
  | jlTestEnable => exact .next (State.writeAs_follows (State.writeField_follows hs ..) ..)
  -- transactions and the retained-state store
  | txnTimeout => exact .next (State.txnExpired_follows hs ..)
  | commitStrobe => exact .next (State.restBays_follows (State.giveStrobe_follows hs ..))
  | quiesceTimeout => exact .next (State.quiesceExpired_follows hs ..)
  | persistComplete => exact .next (State.persisted_follows hs ..)
  | rssWriteComplete => exact .next (State.storeDone_follows hs)
  -- queues
  | descriptorFetch => exact .whenUp fun _ h => State.fetchGrant_follows h
  | descriptorArrival => exact .whenUp fun _ h => State.takeDescriptors_follows h ..
  | extensionArrival => exact .whenUp fun _ h => State.takeExtension_follows h ..
  | completionEntryWrite => exact .whenUp fun _ h => State.tryEntry_follows h ..
  | coalesceTimer => exact .onExpiry fun _ h => State.sendVector_follows h ..
  -- engines, the reserve, the scrubber and the regions
  | engineGrant => exact .whenUp fun _ h => State.engineGrant_follows h ..
  | rateLimiterRelease => exact .whenUp fun _ h => State.limiterRelease_follows h ..
  | drainComplete => exact .whenUp fun _ h => State.drained_follows h ..
  | engineFault => exact .whenUp fun _ h => State.engineFault_follows h ..
  | reserveGrant => exact .whenUp fun _ h => State.grantReserve_follows h ..
  | ledgerScrub => exact .next (State.scrub_follows hs ..)
  | regionWakeComplete => exact .next (State.wakeComplete_follows hs ..)
  | clockGateIdle => exact .next (State.gateIdle_follows hs ..)
  | wakeToneDetected => exact .whenUp fun _ h => State.toneDetected_follows h ..
  -- lanes
  | markerReceived => exact .whenUp fun _ h => State.lineIn_follows h ..
  | activePeriodOpen => exact .whenUp fun _ h => State.openPeriod_follows h ..
  | dozeKeepalive => exact .onExpiry fun _ h => State.sendKeepalive_follows h ..
  | keepaliveMissing => exact .onExpiry fun _ h => State.loseLock_follows h ..
  | cdrLockLoss => exact .whenUp fun _ h => State.cdrLost_follows h ..
  | periodBoundary => exact .whenUp fun _ h => State.periodEnd_follows h ..
  -- links
  | data | idle | laneSet => exact .accepted _ (State.linesIn_follows hs ..)
  | idleInterval => exact .onExpiry fun _ h => State.idleDue_follows h ..
  | replayTimeout => exact .onExpiry fun _ h => State.replayAll_follows h ..
  | txMaskChange p =>
    refine .onExpiry fun u h => ?_
    cases (u.port p).wantMask with
    | some m => exact State.announceMask_follows h ..
    | none => exact h
  | autoLaneDrop => exact .whenUp fun _ h => State.dropLane_follows h ..
  | laneSetComplianceTimeout => exact .onExpiry fun _ h => State.laneSetFailed_follows h ..
  | laneRelock => exact .onExpiry fun _ h => State.relockLane_follows h ..
  | lockLossTimeout | wakeFail | trainTimeout => exact .onExpiry fun _ h => State.portDown_follows h ..
  | downHoldExpiry => exact .onExpiry fun _ h => State.afterDown_follows h ..
  | localResetRelease => exact .onExpiry fun _ h => State.regionsRun_follows (State.releaseReset_follows h ..)
  | dozeEntry => exact .onExpiry fun _ h => State.enterDoze_follows h ..
  | sleepIdle => exact .onExpiry fun _ h => State.askSleep_follows h ..
  | sleepReq => exact .whenUp fun _ h => State.takeSleepReq_follows h ..
  | sleepAck => exact .whenUp fun _ h => State.takeSleepAck_follows h ..
  | sleepNak => exact .whenUp fun _ h => State.sleepRefused_follows h ..
  | pmReplyTimeout => exact .onExpiry fun _ h => State.sleepRefused_follows h ..
  | localPresentChange => exact .next (State.restBays_follows (State.presence_follows hs ..))
  -- Joist transactions
  | rd => exact .whenUp fun _ h => State.deviceRead_follows h ..
  | wr => exact .whenUp fun _ h => State.deviceWrite_follows h ..
  | cpl => exact .whenUp fun _ h => State.retryHeld_follows (State.deviceCpl_follows h ..)
  | peg => exact .whenUp fun _ h => State.devicePeg_follows h ..
  | timeFrame => exact .onExpiry fun _ h => State.timeDueNow_follows h ..
  | localResponseTimeout =>
    exact .next (State.retryHeld_follows (State.onExpiry_follows hs _ fun _ h => State.responseTimeout_follows h ..))
  | tagHoldExpiry =>
    exact .next (State.retryHeld_follows (State.onExpiry_follows hs _ fun _ h => State.freeTagOf_follows h ..))
  | scarfMergerTimeout => exact .onExpiry fun _ h => State.mergerTimeout_follows h ..
  -- interrupts
  | pegDelivery => exact .whenUp fun _ h => State.pegGrant_follows h
  | heldMessageRelease => exact .whenUp fun _ h => State.releaseHeld_follows h ..
  -- faults, recovery and Ridge's failures
  | faultEvent => exact .accepted _ (State.faultLine_follows hs ..)
  | recoveryStart => exact .next (State.regionsRun_follows (State.startRecovery_follows hs))
  | recoveryEnd => exact .next (.ite (State.regionsRun_follows (State.endRecovery_follows hs ..)) hs)
  | classifierWindowExpiry => exact .next (State.windowOver_follows hs ..)
  | lockstep => exact .next (.ite (State.ridgeFails_follows hs ..) hs)
  | checkerLost => exact .next (State.checkerLost_follows hs ..)
  | selftest => exact .next (State.selfTest_follows hs ..)
  | selftestTimeout => exact .next (State.selfTestLate_follows hs)
  | watchdog => exact .next (State.watchdogOver_follows hs)
  | flashUe => exact .accepted _ (.ite (State.ridgeFails_follows hs ..) hs)
  | railFault => exact .accepted _ (State.railFails_follows hs ..)
  | ridgeFailure =>
    exact .accepted _ (.ite (State.ridgeFails_follows hs ..) (.ite (State.ridgeFails_follows hs ..) hs))
  | trestleRestartAttempt => exact .next (State.releaseRidge_follows hs)
  | restartFail => exact .next (State.restartFailed_follows hs)
  | restartCountReset => exact .next (State.restartCountOver_follows hs)
  | safeStateEntry => exact .accepted _ (State.enterSafe_follows hs ..)
  -- Ridge's commands, random numbers and measurement
  | getInfo => exact .command fun _ req h => State.getInfo_follows h req
  | getCertChain => exact .command fun _ req h => State.getCertChain_follows h req
  | getRandom => exact .command fun _ req h => State.getRandom_follows h req
  | fwBegin => exact .command fun _ req h => State.fwBegin_follows h _ req
  | fwWrite => exact .command fun _ req h => State.fwWrite_follows h _ req
  | fwFinish => exact .command fun _ req h => State.fwFinish_follows h _ req
  | fwActivate => exact .command fun _ req h => State.fwActivate_follows h _ req
  | fwCancel => exact .command fun _ req h => State.fwCancel_follows h _ req
  | ridgeRestart => exact .next (State.askRestart_follows hs ..)
  | regRead => exact .next (State.mctpRegRead_follows hs ..)
  | regWrite => exact .next (State.mctpRegWrite_follows hs ..)
  | mailboxCommandDone => exact .next (State.mbFinish_follows hs ..)
  | setEndpointId => exact .next (State.setEid_follows hs ..)
  | getEndpointId | getEndpointUuid | getMctpVersionSupport | getMessageTypeSupport => exact .next (State.mctpAnswer_follows hs ..)
  | rngHealthFailure => exact .accepted _ (State.rngFail_follows hs ..)
  | rngStartupTestPass => exact .next (State.rngPass_follows hs ..)
  | drbgReseed => exact .next (State.reseed_follows hs)
  | measurementExtend => exact .next (State.extendMeas_follows hs ..)
  | bootMeasurement => exact .next (State.bootMeasure_follows hs)
  -- the SPDM responder
  | getVersion => exact .next (State.spdmVersion_follows hs ..)
  | getCapabilities | negotiateAlgorithms => exact .next (State.spdmStage_follows hs ..)
  | getDigests => exact .next (State.spdmDigests_follows hs ..)
  | getCertificate => exact .next (State.spdmCertificate_follows hs ..)
  | challenge => exact .next (State.spdmChallenge_follows hs ..)
  | getMeasurements => exact .next (State.spdmMeasurements_follows hs ..)
  | keyExchange => exact .accepted _ (State.spdmKeyExchange_follows hs ..)
  | finish => exact .next (State.spdmFinish_follows hs ..)
  | heartbeat => exact .next (State.spdmHeartbeat_follows hs ..)
  | keyUpdate => exact .next (State.spdmKeyUpdate_follows hs ..)
  | endSession => exact .next (State.spdmEndSession_follows hs ..)
  | chunkSend => exact .next (State.spdmChunkSend_follows hs ..)
  | chunkGet => exact .next (State.spdmChunkGet_follows hs ..)
  | vendorDefinedRequest => exact .next (State.spdmVendor_follows hs ..)
  | unsupportedSpdmRequest => exact .next (State.spdmUnsupported_follows hs ..)
  | doeAbort => exact .next (State.abortDoe_follows hs ..)
  -- Plumb
  | plumbPass => exact .accepted _ (State.startPass_follows hs ..)
  | plumbPassEnd => exact .next (State.endPass_follows hs)
  | halt => exact .next (State.plumbHalt_follows hs)
  | store => exact .next (State.plumbStore_follows hs ..)
  | nop | sample | smax | ldi | ldt | add | sub | mulq | min | max | iir | med3 | cmpge | cmple | actThrottle | actWake | actSleep
  | actRaise | actScribe | actShutdown | actSwap => exact .plumbExec
  -- scribes
  | scribePeriodTimer => exact .next (State.periodTrigger_follows hs)
  | scribeCaptureComplete => exact .next (State.captured_follows hs)

/-- Whatever next state a command answers follows the state it ran on. -/
theorem exec_follows {c : Instr} {s t : State} (h : exec c s = .next t) : s.Follows t := exec_leadsOn c s t h

/-- Settles O6: the four parts of what a command follows. -/
theorem commandsGoForward : Obligations.CommandsGoForward := by
  intro c s t h
  have k := exec_follows h
  exact ⟨k.pending, k.clock, k.free, k.sent⟩

/-! ### Soundness -/

/-- The queue is no part of what soundness speaks of. -/
theorem State.Inv.withPending {s : State} (h : s.Inv) (q : List Instr) : State.Inv { s with pending := q } := { h with }

/-- Settles O4: a tick and every command keep the state sound. -/
theorem stepKeepsSound : Obligations.StepKeepsSound := by
  intro s t hs h
  unfold step at h
  split at h
  · cases h
    exact (State.tick_follows (.refl s)).inv hs
  · exact (exec_follows h).inv (hs.withPending _)

/-- Settles O5: after reset every table is empty and no timer runs. -/
theorem resetSound : Obligations.ResetSound := by
  constructor <;> decide +kernel

end Sys2Proof.Machine
end

/-! What the commands of Joist lanes, links and transactions leave alone. A frame follows from the mask of the operation that a command runs
(State.Within); that other lanes and other ports keep their state follows from relations of their own, one lemma per operation. -/

section
namespace Sys2Proof.Machine

/-! ### From the mask of an operation to the frame of a command -/

variable {ks : List RegKind} {ps : List Area} {c : Instr} {g : State → State}

/-- A command that runs an operation leaves what the operation's mask leaves. -/
theorem Leaves.next (hc : ∀ s, exec c s = .next (g s)) (h : ∀ s, State.Within (listMask ks ps) s (g s)) : Leaves ks ps c := by
  intro s t e
  rw [hc] at e
  cases e
  exact (h s).only

theorem Leaves.accepted {ok : State → Bool} (hc : ∀ s, exec c s = s.accepted (ok s) (g s))
    (h : ∀ s, State.Within (listMask ks ps) s (g s)) : Leaves ks ps c :=
  .next (g := fun s => if ok s then g s else s) hc fun s => .ite (h s) (.refl _ s)

theorem Leaves.whenUp (hc : ∀ s, exec c s = .next (s.whenUp g))
    (h : ∀ s t, State.Within (listMask ks ps) s t → State.Within (listMask ks ps) s (g t)) : Leaves ks ps c :=
  .next hc fun s => State.whenUp_within (.refl _ s) (h s)

/-- An expiry lets time pass until its timer is due, and then runs the operation. -/
theorem Leaves.onExpiry {tm : Timer} (hc : ∀ s, exec c s = .next (s.onExpiry tm g))
    (hm : listMask [] passing ||| listMask ks ps = listMask ks ps)
    (h : ∀ s t, State.Within (listMask ks ps) s t → State.Within (listMask ks ps) s (g t)) : Leaves ks ps c :=
  .next hc fun s => State.onExpiry_within (.refl _ s) (h s) tm (maskSub (by decide +kernel) hm)

/-! ### Other lanes -/

/-- Every lane but `l` has the state and the status that it had. -/
structure State.OtherLanes (l : Nat) (s t : State) : Prop where
  lane : ∀ m, m ≠ l → t.lane m = s.lane m
  status : ∀ m, m ≠ l → t.word .JL_STATUS m = s.word .JL_STATUS m

section
variable {l : Nat} {s₀ s t : State}

theorem State.OtherLanes.refl (l : Nat) (s : State) : State.OtherLanes l s s := ⟨fun _ _ => rfl, fun _ _ => rfl⟩

theorem State.OtherLanes.trans {u : State} (h : State.OtherLanes l s t) (k : State.OtherLanes l t u) : State.OtherLanes l s u :=
  ⟨fun m hm => (k.lane m hm).trans (h.lane m hm), fun m hm => (k.status m hm).trans (h.status m hm)⟩

/-- What changes no lane and no lane status leaves those of other lanes. -/
theorem State.OtherLanes.only (h : State.OtherLanes l s₀ s) (k : State.Only ks ps s t) (hk : .JL_STATUS ∉ ks) (ha : .lanes ∉ ps) :
    State.OtherLanes l s₀ t :=
  h.trans ⟨fun m _ => congrArg (fun x => Tbl.get LaneDyn.reset x m) (k.areas _ ha), fun m _ => k.words _ hk m⟩

theorem State.OtherLanes.ite {a b : State} {c : Prop} [Decidable c] (ha : State.OtherLanes l s a) (hb : State.OtherLanes l s b) :
    State.OtherLanes l s (if c then a else b) := by
  split <;> assumption

theorem State.OtherLanes.whenUp (h : State.OtherLanes l s₀ s) (hg : ∀ t, State.OtherLanes l s₀ t → State.OtherLanes l s₀ (g t)) :
    State.OtherLanes l s₀ (s.whenUp g) :=
  .ite (hg s h) h

theorem State.OtherLanes.onExpiry (h : State.OtherLanes l s₀ s) (tm : Timer)
    (hg : ∀ t, State.OtherLanes l s₀ t → State.OtherLanes l s₀ (g t)) : State.OtherLanes l s₀ (s.onExpiry tm g) :=
  .ite (hg _ (h.only (ks := []) (ps := passing) (State.expire_within (.refl _ s) tm (by decide +kernel)).only (by decide) (by decide))) h

theorem State.OtherLanes.put (h : State.OtherLanes l s₀ s) (F : Fld) (v : Nat) : State.OtherLanes l s₀ (s.put F l v) :=
  h.trans ⟨fun m _ => s.put_lane F l v m, fun m hm => by
    by_cases hF : F.reg = .JL_STATUS
    · rw [State.put, hF]; exact State.setWord_word_index hm _
    · exact State.setWord_word_kind (Ne.symm hF) ..⟩

theorem State.OtherLanes.modLane (h : State.OtherLanes l s₀ s) (g : LaneDyn → LaneDyn) : State.OtherLanes l s₀ (s.modLane l g) :=
  h.trans ⟨fun _ hm => State.modLane_lane_other s g hm, fun _ _ => s.modLane_word l g ..⟩

theorem State.OtherLanes.bump (h : State.OtherLanes l s₀ s) (o : Nat) : State.OtherLanes l s₀ (s.bump o) :=
  h.trans ⟨by simp, by simp⟩

theorem State.OtherLanes.disarm (h : State.OtherLanes l s₀ s) (t : Timer) : State.OtherLanes l s₀ (s.disarm t) :=
  h.trans ⟨by simp, by simp⟩

theorem State.OtherLanes.watchLock (h : State.OtherLanes l s₀ s) (k : Nat) : State.OtherLanes l s₀ (s.watchLock k) :=
  h.only (ks := []) (ps := [.timers]) (State.watchLock_within (.refl _ s) k (by decide +kernel)).only (by decide) (by decide)

theorem State.OtherLanes.loseLock (h : State.OtherLanes l s₀ s) : State.OtherLanes l s₀ (s.loseLock l) := by
  unfold State.loseLock
  split
  · exact ((((h.put _ _).bump _).disarm _).modLane _).watchLock _
  · exact h

theorem State.OtherLanes.cdrLost (h : State.OtherLanes l s₀ s) : State.OtherLanes l s₀ (s.cdrLost l) :=
  ((h.put _ _).loseLock).watchLock _

end

/-! ### Other ports -/

/-- Every port but `p` has the state and the status that it had. -/
structure State.OtherPorts (p : Nat) (s t : State) : Prop where
  port : ∀ r, r ≠ p → t.port r = s.port r
  status : ∀ r, r ≠ p → t.word .JP_STATUS r = s.word .JP_STATUS r

section
variable {p : Nat} {s₀ s t : State}

theorem State.OtherPorts.refl (p : Nat) (s : State) : State.OtherPorts p s s := ⟨fun _ _ => rfl, fun _ _ => rfl⟩

theorem State.OtherPorts.trans {u : State} (h : State.OtherPorts p s t) (k : State.OtherPorts p t u) : State.OtherPorts p s u :=
  ⟨fun r hr => (k.port r hr).trans (h.port r hr), fun r hr => (k.status r hr).trans (h.status r hr)⟩

/-- What changes no port and no port status leaves those of other ports. -/
theorem State.OtherPorts.only (h : State.OtherPorts p s₀ s) (k : State.Only ks ps s t) (hk : .JP_STATUS ∉ ks) (ha : .ports ∉ ps) :
    State.OtherPorts p s₀ t :=
  h.trans ⟨fun r _ => congrArg (fun x => Tbl.get PortDyn.reset x r) (k.areas _ ha), fun r _ => k.words _ hk r⟩

theorem State.OtherPorts.ite {a b : State} {c : Prop} [Decidable c] (ha : State.OtherPorts p s a) (hb : State.OtherPorts p s b) :
    State.OtherPorts p s (if c then a else b) := by
  split <;> assumption

theorem State.OtherPorts.whenUp (h : State.OtherPorts p s₀ s) (hg : ∀ t, State.OtherPorts p s₀ t → State.OtherPorts p s₀ (g t)) :
    State.OtherPorts p s₀ (s.whenUp g) :=
  .ite (hg s h) h

theorem State.OtherPorts.onExpiry (h : State.OtherPorts p s₀ s) (tm : Timer)
    (hg : ∀ t, State.OtherPorts p s₀ t → State.OtherPorts p s₀ (g t)) : State.OtherPorts p s₀ (s.onExpiry tm g) :=
  .ite (hg _ (h.only (ks := []) (ps := passing) (State.expire_within (.refl _ s) tm (by decide +kernel)).only (by decide) (by decide))) h

theorem State.OtherPorts.put (h : State.OtherPorts p s₀ s) (F : Fld) (v : Nat) : State.OtherPorts p s₀ (s.put F p v) :=
  h.trans ⟨fun r _ => s.put_port F p v r, fun r hr => by
    by_cases hF : F.reg = .JP_STATUS
    · rw [State.put, hF]; exact State.setWord_word_index hr _
    · exact State.setWord_word_kind (Ne.symm hF) ..⟩

theorem State.OtherPorts.modPort (h : State.OtherPorts p s₀ s) (g : PortDyn → PortDyn) : State.OtherPorts p s₀ (s.modPort p g) :=
  h.trans ⟨fun _ hr => State.modPort_port_other s g hr, fun _ _ => s.modPort_word p g ..⟩

theorem State.OtherPorts.emit (h : State.OtherPorts p s₀ s) (o : Output) : State.OtherPorts p s₀ (s.emit o) :=
  h.trans ⟨by simp, by simp⟩

theorem State.OtherPorts.bump (h : State.OtherPorts p s₀ s) (o : Nat) : State.OtherPorts p s₀ (s.bump o) :=
  h.trans ⟨by simp, by simp⟩

theorem State.OtherPorts.arm (h : State.OtherPorts p s₀ s) (t : Timer) (dt : Nat) : State.OtherPorts p s₀ (s.arm t dt) :=
  h.trans ⟨by simp, by simp⟩

theorem State.OtherPorts.disarm (h : State.OtherPorts p s₀ s) (t : Timer) : State.OtherPorts p s₀ (s.disarm t) :=
  h.trans ⟨by simp, by simp⟩

theorem State.OtherPorts.armOnce (h : State.OtherPorts p s₀ s) (t : Timer) (dt : Nat) : State.OtherPorts p s₀ (s.armOnce t dt) :=
  .ite h (h.arm t dt)

theorem State.OtherPorts.missAt (h : State.OtherPorts p s₀ s) (k f kind q v : Nat) (extra : List Nat) :
    State.OtherPorts p s₀ (s.missAt k f kind q v extra) :=
  h.only (ks := [.SCHED_MISS_LOG0, .SCHED_MISS_LOG1]) (ps := [.ctrs])
    (State.missAt_within (.refl _ s) k f kind q v extra (by decide +kernel)).only (by decide) (by decide)

theorem State.OtherPorts.queueUnits (h : State.OtherPorts p s₀ s) (us : List (BitVec 128)) : State.OtherPorts p s₀ (s.queueUnits p us) :=
  h.modPort _

theorem State.OtherPorts.noteReplay (h : State.OtherPorts p s₀ s) : State.OtherPorts p s₀ (s.noteReplay p) :=
  (h.put _ _).put _ _

theorem State.OtherPorts.noteAck (h : State.OtherPorts p s₀ s) : State.OtherPorts p s₀ (s.noteAck p) :=
  (h.modPort _).arm _ _

theorem State.OtherPorts.quiet (h : State.OtherPorts p s₀ s) : State.OtherPorts p s₀ (s.quiet p) :=
  h.only (ks := []) (ps := [.timers]) (State.quiet_within (.refl _ s) p (by decide +kernel)).only (by decide) (by decide)

theorem State.OtherPorts.sendFrame (h : State.OtherPorts p s₀ s) (e : EgFrame) : State.OtherPorts p s₀ (s.sendFrame p e) := by
  unfold State.sendFrame
  extract_lets frame f e q w queued numbered counted sent
  have hq : State.OtherPorts p s₀ queued := (h.emit _).queueUnits _
  have hn : State.OtherPorts p s₀ numbered := (hq.modPort _).put _ _
  have hc : State.OtherPorts p s₀ counted := (hn.noteReplay.bump _).armOnce _ _
  have hs : State.OtherPorts p s₀ sent := ((hc.arm _ _).disarm _).disarm _
  split
  · exact hs.arm _ _
  · exact .ite (hs.missAt ..) hs
  · exact hs.bump _
  · exact hs

/-- The lanes that leave doze are no ports. -/
theorem State.OtherPorts.openLanes (h : State.OtherPorts p s₀ s) (ls : List Nat) :
    State.OtherPorts p s₀ (s.each ls (fun s l =>
      (((s.leaveIdle l).sendMarker l 3).endTraining l).openActive l 0 (s.get JP_STATUS.tx_mask p))) :=
  h.only (ks := [.JL_STATUS, .JL_SEED]) (ps := [.ctrs, .lanes, .freeCtr, .sent])
    (State.Within.each (.refl _ s) ls fun _ _ k =>
      State.openActive_within (State.endTraining_within (State.sendMarker_within (State.leaveIdle_within k _ (by decide +kernel)) _ _
        (by decide +kernel)) _ (by decide +kernel)) _ _ _ (by decide +kernel)).only (by decide) (by decide)

theorem State.OtherPorts.endDoze (h : State.OtherPorts p s₀ s) : State.OtherPorts p s₀ (s.endDoze p) := by
  unfold State.endDoze
  split
  · extract_lets awake opened
    have ha : State.OtherPorts p s₀ awake := ((h.put _ _).disarm _).disarm _
    have ho : State.OtherPorts p s₀ opened := ha.openLanes _
    exact .ite ((ho.modPort _).sendFrame _) ho
  · exact h

theorem State.OtherPorts.sendPm (h : State.OtherPorts p s₀ s) (code : Nat) : State.OtherPorts p s₀ (s.sendPm p code) :=
  ((h.endDoze.emit _).queueUnits _).noteAck

theorem State.OtherPorts.agreeSleep (h : State.OtherPorts p s₀ s) : State.OtherPorts p s₀ (s.agreeSleep p) :=
  (h.endDoze.modPort _).disarm _

theorem State.OtherPorts.takeSleepReq (h : State.OtherPorts p s₀ s) : State.OtherPorts p s₀ (s.takeSleepReq p) :=
  .ite h (.ite h.agreeSleep (.ite (h.endDoze.sendPm 2).agreeSleep (h.endDoze.sendPm 3)))

theorem State.OtherPorts.takeSleepAck (h : State.OtherPorts p s₀ s) : State.OtherPorts p s₀ (s.takeSleepAck p) :=
  .ite h.agreeSleep h

theorem State.OtherPorts.sleepRefused (h : State.OtherPorts p s₀ s) : State.OtherPorts p s₀ (s.sleepRefused p) :=
  .ite ((h.modPort _).disarm _).quiet h

end

/-- The commands of the first clause, in its order. -/
theorem framesOfJoistCommands : Obligations.FramesOfJoistCommands := by
  refine ⟨fun p l v x here line lines nulls => ?frames, ?lanes, ?ports⟩
  case frames =>
    simp only [List.forall_mem_cons, List.not_mem_nil, false_implies, implies_true, and_true]
    exact ⟨
      .whenUp (fun _ => rfl) fun _ _ h => State.sleepRefused_within h _ (by decide +kernel),
      .onExpiry (fun _ => rfl) (by decide +kernel) fun _ _ h => State.sleepRefused_within h _ (by decide +kernel),
      ⟨.onExpiry (fun _ => rfl) (by decide +kernel) fun _ _ h => State.idleDue_within h _ (by decide +kernel),
        .onExpiry (fun _ => rfl) (by decide +kernel) fun _ _ h => State.relockLane_within h _ (by decide +kernel),
        .onExpiry (fun _ => rfl) (by decide +kernel) fun _ _ h => State.askSleep_within h _ (by decide +kernel)⟩,
      ⟨.whenUp (fun _ => rfl) fun _ _ h => State.dropLane_within h _ _ (by decide +kernel),
        .whenUp (fun _ => rfl) fun _ _ h => State.takeSleepReq_within h _ (by decide +kernel),
        .whenUp (fun _ => rfl) fun _ _ h => State.takeSleepAck_within h _ (by decide +kernel)⟩,
      .onExpiry (fun _ => rfl) (by decide +kernel) fun _ _ h => State.enterDoze_within h _ (by decide +kernel),
      .onExpiry (fun _ => rfl) (by decide +kernel) fun _ _ h => State.sendKeepalive_within h _ (by decide +kernel),
      .onExpiry (fun _ => rfl) (by decide +kernel) fun _ _ h => State.loseLock_within h _ (by decide +kernel),
      .whenUp (fun _ => rfl) fun _ _ h => State.cdrLost_within h _ (by decide +kernel),
      .onExpiry (fun _ => rfl) (by decide +kernel) fun _ _ h => by
        split
        · exact State.announceMask_within h _ _ (by decide +kernel)
        · exact h,
      .onExpiry (fun _ => rfl) (by decide +kernel) fun _ _ h => State.afterDown_within h _ (by decide +kernel),
      .onExpiry (fun _ => rfl) (by decide +kernel) fun _ _ h => State.mergerTimeout_within h _ (by decide +kernel),
      .whenUp (fun _ => rfl) fun _ _ h => State.toneDetected_within h _ (by decide +kernel),
      .whenUp (fun _ => rfl) fun _ _ h => State.periodEnd_within h _ _ (by decide +kernel),
      .whenUp (fun _ => rfl) fun _ _ h => State.openPeriod_within h _ (by decide +kernel),
      .whenUp (fun _ => rfl) fun _ _ h => State.grantReserve_within h _ _ (by decide +kernel),
      .onExpiry (fun _ => rfl) (by decide +kernel) fun _ _ h => State.timeDueNow_within h _ (by decide +kernel),
      ⟨.whenUp (fun _ => rfl) fun _ _ h => State.lineIn_within h _ _ (by decide +kernel),
        .accepted (fun _ => rfl) fun _ => State.linesIn_within (.refl _ _) _ _ (by decide +kernel),
        .accepted (fun _ => rfl) fun _ => State.linesIn_within (.refl _ _) _ _ (by decide +kernel),
        .accepted (fun _ => rfl) fun _ => State.linesIn_within (.refl _ _) _ _ (by decide +kernel)⟩,
      ⟨.onExpiry (fun _ => rfl) (by decide +kernel) fun _ _ h => State.laneSetFailed_within h _ (by decide +kernel),
        .onExpiry (fun _ => rfl) (by decide +kernel) fun _ _ h => State.portDown_within h _ _ (by decide +kernel),
        .onExpiry (fun _ => rfl) (by decide +kernel) fun _ _ h => State.portDown_within h _ _ (by decide +kernel),
        .onExpiry (fun _ => rfl) (by decide +kernel) fun _ _ h => State.portDown_within h _ _ (by decide +kernel),
        .onExpiry (fun _ => rfl) (by decide +kernel) fun _ _ h => State.replayAll_within h _ (by decide +kernel)⟩,
      .next (fun _ => rfl) fun _ =>
        State.restBays_within (State.presence_within (.refl _ _) _ _ (by decide +kernel)) (by decide +kernel),
      .whenUp (fun _ => rfl) fun _ _ h => State.deviceRead_within h _ _ (by decide +kernel),
      .whenUp (fun _ => rfl) fun _ _ h => State.deviceWrite_within h _ _ (by decide +kernel),
      .whenUp (fun _ => rfl) fun _ _ h => State.devicePeg_within h _ _ (by decide +kernel)⟩
  case lanes =>
    intro s t l h m hm
    have others : State.OtherLanes l s t := by
      rcases h with h | h <;> cases h
      · exact (State.OtherLanes.refl _ s).onExpiry _ fun _ k => k.loseLock
      · exact (State.OtherLanes.refl _ s).whenUp fun _ k => k.cdrLost
    exact ⟨others.lane m hm, others.status m hm⟩
  case ports =>
    intro s t p
    have others (h : State.OtherPorts p s t) : ∀ r, r ≠ p.val → t.port r = s.port r ∧ t.word .JP_STATUS r = s.word .JP_STATUS r :=
      fun r hr => ⟨h.port r hr, h.status r hr⟩
    have hs := State.OtherPorts.refl p s
    simp only [List.forall_mem_cons, List.not_mem_nil, false_implies, implies_true, and_true]
    refine ⟨fun h => others ?_, fun h => others ?_, fun h => others ?_, fun h => others ?_⟩ <;> cases h
    · exact hs.whenUp fun _ k => k.takeSleepAck
    · exact hs.whenUp fun _ k => k.sleepRefused
    · exact hs.onExpiry _ fun _ k => k.sleepRefused
    · exact hs.whenUp fun _ k => k.takeSleepReq

end Sys2Proof.Machine
end

/-! Register accesses: the bytes of a unit of an access, what an access whose way is clear performs, and what its reads answer and its
writes load. -/

section
namespace Sys2Proof.Machine

/-! ### Bytes of a unit -/

theorem leBytes_length (k n : Nat) : (leBytes k n).length = k := by
  induction k generalizing n with
  | zero => rfl
  | succ k ih => simp [leBytes, ih]

theorem leBytes_zero (k : Nat) : leBytes k 0 = List.replicate k 0 := by
  induction k with
  | zero => rfl
  | succ k ih => simp [leBytes, ih, List.replicate_succ]

/-- The bits below `n`. -/
theorem getLsbD_maskBits_low (n i : Nat) : (maskBits 0 n).getLsbD i = (decide (i < 64) && decide (i < n)) := by
  simp [getLsbD_maskBits]

/-- The lowest `n` bytes of a word, as the bytes of a write. -/
def headBytes (v : Word) (n : Nat) : WriteBytes := (List.range n).map (fun i => some (v.extractLsb' (8 * i) 8))

/-- One byte of a write joins the value and the mask of its unit. -/
def addByte (o off : Nat) (bs : WriteBytes) (acc : Word × Word) (j : Nat) : Word × Word :=
  if o + j < off then acc
  else match bs[o + j - off]? with
    | some (some b) => (setBits acc.1 (8 * j) 8 b.toNat, acc.2 ||| maskBits (8 * j) 8)
    | _ => acc

theorem unitBits_eq (o off : Nat) (bs : WriteBytes) : unitBits o off bs = (List.range 8).foldl (addByte o off bs) (0, 0) := rfl

theorem addByte_base (o : Nat) (bs : WriteBytes) : addByte o o bs = addByte 0 0 bs := by
  funext acc j
  simp [addByte]

/-- A unit that begins with its 8-byte word is the same at every offset. -/
theorem unitBits_base (o : Nat) (bs : WriteBytes) : unitBits o o bs = unitBits 0 0 bs := by
  rw [unitBits_eq, unitBits_eq, addByte_base]

/-- The next byte of a word joins the bytes below it. -/
theorem addByte_head (v : Word) {n j : Nat} (hj : j < n) :
    addByte 0 0 (headBytes v n) (v &&& maskBits 0 (8 * j), maskBits 0 (8 * j)) j
      = (v &&& maskBits 0 (8 * (j + 1)), maskBits 0 (8 * (j + 1))) := by
  simp only [addByte, headBytes, Nat.not_lt_zero, if_false, Nat.zero_add, Nat.sub_zero, List.getElem?_map, List.getElem?_range hj,
    Option.map_some, Prod.mk.injEq]
  constructor
  · apply BitVec.eq_of_getLsbD_eq
    intro i hi
    rw [getLsbD_setBits, BitVec.getLsbD_and, BitVec.getLsbD_and, getLsbD_maskBits_low, getLsbD_maskBits_low, BitVec.testBit_toNat,
      BitVec.getLsbD_extractLsb']
    split
    · rename_i h
      simp [hi, show i - 8 * j < 8 by omega, show 8 * j + (i - 8 * j) = i by omega, show i < 8 * (j + 1) by omega]
    · have : (i < 8 * j) ↔ i < 8 * (j + 1) := by omega
      simp [this]
  · apply BitVec.eq_of_getLsbD_eq
    intro i hi
    rw [BitVec.getLsbD_or, getLsbD_maskBits_low, getLsbD_maskBits, getLsbD_maskBits_low, Bool.eq_iff_iff]
    simp only [Bool.or_eq_true, Bool.and_eq_true, decide_eq_true_eq]
    omega

/-- A byte place beyond the bytes of a write loads nothing. -/
theorem addByte_beyond (v : Word) {n j : Nat} (hj : n ≤ j) (acc : Word × Word) : addByte 0 0 (headBytes v n) acc j = acc := by
  simp [addByte, headBytes, hj]

/-- The first `m` places of a unit hold the bytes of the word that the write has there. -/
theorem foldl_addByte_head (v : Word) (n m : Nat) :
    (List.range m).foldl (addByte 0 0 (headBytes v n)) (0, 0) = (v &&& maskBits 0 (8 * min m n), maskBits 0 (8 * min m n)) := by
  induction m with
  | zero => simp [maskBits]
  | succ m ih =>
    rw [List.range_succ, List.foldl_append, ih, List.foldl_cons, List.foldl_nil]
    rcases Nat.lt_or_ge m n with h | h
    · rw [Nat.min_eq_left h.le, Nat.min_eq_left h, addByte_head v h]
    · rw [Nat.min_eq_right h, Nat.min_eq_right (by omega), addByte_beyond v h]

/-- A write of the lowest `n` bytes of a word, from the start of its unit. -/
theorem unitBits_head (o : Nat) (v : Word) {n : Nat} (hn : n ≤ 8) :
    unitBits o o (headBytes v n) = (v &&& maskBits 0 (8 * n), maskBits 0 (8 * n)) := by
  rw [unitBits_base, unitBits_eq, foldl_addByte_head, Nat.min_eq_right hn]

theorem enabledBits_whole {o : Nat} (ho : o % 8 = 0) : enabledBits o 8 255 = BitVec.allOnes 64 := by
  rw [enabledBits, show o / 8 * 8 = o by omega, unitBits_base]
  decide +kernel

/-- An access within one 8-byte word has one unit. -/
theorem unitsOf_one {o n : Nat} (ho : o % 8 = 0) (h0 : 0 < n) (h8 : n ≤ 8) : unitsOf o n = [(o, n)] := by
  have hlen : (o + n - 1) / 8 - o / 8 + 1 = 1 := by omega
  have hat : 8 * (o / 8) = o := by omega
  simp [unitsOf, h0.ne', hlen, hat, h8]

theorem spanBytes_whole (v : Word) {o : Nat} (ho : o % 8 = 0) : spanBytes v o 8 = wordBytes v := by
  have hl : (wordBytes v).length = 8 := leBytes_length 8 _
  rw [spanBytes, ho, sliceBytes, List.drop_zero, List.take_of_length_le hl.le]
  simp [hl]

/-! ### Frames -/

theorem State.Only.refl (ks : List RegKind) (ps : List Area) (s : State) : State.Only ks ps s s :=
  (State.Within.refl _ s).only

theorem State.Only.trans {ks : List RegKind} {ps : List Area} {s t u : State} (h : State.Only ks ps s t) (k : State.Only ks ps t u) :
    State.Only ks ps s u :=
  ⟨fun x hx i => (k.words x hx i).trans (h.words x hx i), fun x hx => Area.same_trans x (h.areas x hx) (k.areas x hx)⟩

/-- What changes less leaves what may change more. -/
theorem State.Only.mono {ks ks' : List RegKind} {ps ps' : List Area} {s t : State} (h : State.Only ks ps s t) (hk : ks ⊆ ks') (hp : ps ⊆ ps') :
    State.Only ks' ps' s t :=
  ⟨fun x hx => h.words x (fun e => hx (hk e)), fun x hx => h.areas x (fun e => hx (hp e))⟩

/-! ### What an access whose way is clear performs -/

/-- Nothing is in the way of an access of an agent: it reaches the register ring, its host link is not in L1, no earlier access of its
ring master waits, and no data of an earlier read of its host port is held (R13, R32, R148). -/
structure State.WayClear (s : State) (a : Agent) : Prop where
  reaches : s.reach a = 2
  awake : ∀ f, a = .fn f → s.get HP_LINK_STATUS.pm_state (fnPort f) ≠ 2
  empty : ∀ f, a = .fn f → (s.host (fnPort f)).regGot = []
  first : ∀ x ∈ s.ring, x.master ≠ masterOf a

section
variable {s : State} {a : Agent} {o : Nat}

/-- On a free way to a region that runs, an access is performed at once. -/
theorem State.WayClear.submit (h : s.WayClear a) {x : RingAccess} (hm : x.master = masterOf a) (hr : s.steady x.region = true) :
    s.submit x = s.perform x := by
  have hfirst : s.ring.any (fun y => y.master == x.master) = false := by
    simp only [List.any_eq_false, beq_iff_eq, hm]
    exact h.first
  simp [State.submit, hfirst, State.asleep, State.open_, State.steady_run hr, State.steady_wake hr]

theorem State.WayClear.arrive (h : s.WayClear a) : s.arrive a = s := State.arrive_awake h.awake

/-- A read of a whole 8-byte word of BAR0 is performed in one unit. -/
theorem State.WayClear.regRead (h : s.WayClear a) (ho : o % 8 = 0) (hs : o + 8 ≤ s.mapSize a) (hr : s.steady (s.regionAt a o) = true) (tag : Nat) :
    s.regRead a o 2 15 15 tag = s.perform (.read (s.regionAt a o) a o 8 255 tag true) := by
  have henab : maskOf (((enables 2 15 15).drop 0).take 8) = 255 := by decide
  unfold State.regRead
  rw [h.reaches]
  simp only [if_neg (Nat.not_lt.mpr hs), h.arrive, unitsOf_one ho (by decide : 0 < 4 * 2) (by decide), State.each, List.foldl_cons, List.foldl_nil,
    show o / 8 * 8 = o by omega, Nat.sub_self, henab, beq_self_eq_true]
  exact h.submit rfl hr

/-- A write of at most 8 bytes from the start of an 8-byte word of BAR0 is performed in one unit. -/
theorem State.WayClear.regWrite (h : s.WayClear a) (ho : o % 8 = 0) (hs : o + 8 ≤ s.mapSize a) (hr : s.steady (s.regionAt a o) = true)
    (v : Word) {n : Nat} (h0 : 0 < n) (hn : n ≤ 8) :
    s.regWrite a o (headBytes v n) = s.writeUnit a o (v &&& maskBits 0 (8 * n)) (maskBits 0 (8 * n)) := by
  have hl : (headBytes v n).length = n := by simp [headBytes]
  have hat : o / 8 * 8 = o := by omega
  unfold State.regWrite
  rw [h.reaches]
  simp only [hl, if_neg (show ¬ s.mapSize a < o + n by omega), h.arrive, unitsOf_one ho h0 hn, State.each, List.foldl_cons, List.foldl_nil, hat,
    Nat.sub_self, List.drop_zero, List.take_of_length_le hl.le]
  rw [h.submit (x := .write (s.regionAt a o) a o (headBytes v n)) rfl hr]
  simp only [State.perform, hat, unitBits_head o v hn]

/-- A read of an aligned 8-byte word is well formed. -/
theorem wfWindow_word (ho : o % 8 = 0) : wfWindow o 2 15 15 = true := by
  simp only [wfWindow, wfSpan, wfEnables, Bool.and_eq_true, decide_eq_true_eq]
  exact ⟨⟨by decide, by decide, by omega, by decide, by omega⟩, by decide⟩

theorem wfBytes_head (ho : o % 8 = 0) {n : Nat} (hn : n = 4 ∨ n = 8) : wfBytes o n = true := by
  simp only [wfBytes, wfSpan, decide_eq_true_eq]
  omega

/-- The command of that read is the read. -/
theorem exec_registerRead_word (ho : o % 8 = 0) (tag : Nat) :
    exec (.registerRead a ⟨.bar0, o⟩ ⟨2, 15, 15, tag⟩) s = .next (s.regRead a o 2 15 15 tag) := by
  cases a <;> simp only [exec, execRegisterRead, State.accepted, wfWindow_word ho, if_true] <;> rfl

/-- The command of a write of a half or a whole word is the write. -/
theorem exec_registerWrite_head (ho : o % 8 = 0) (v : Word) {n : Nat} (hn : n = 4 ∨ n = 8) :
    exec (.registerWrite a o (headBytes v n)) s = .next (s.regWrite a o (headBytes v n)) := by
  have hl : (headBytes v n).length = n := by simp [headBytes]
  cases a <;> simp only [exec, execRegisterWrite, State.accepted, hl, wfBytes_head ho hn, if_true]

/-! ### What a read answers -/

/-- What a read of BAR0 or BAR2 answers: Ridge takes its data, a function a completion (R148). -/
def State.readAnswer (s : State) (o tag : Nat) (bs : List Byte) : Agent → Output
  | .ridge => .regData .ridge o bs
  | .fn f => s.asSent f (.completion (fnPort f) f tag .ok bs)

/-- A function that is heard is not silenced. -/
theorem State.reach_heard {f : FnId} (h : s.reach (.fn f) = 2) : s.unheard f = false ∧ s.memEnabled f = true := by
  unfold State.reach at h
  cases hu : s.unheard f <;> cases hm : s.memEnabled f <;> simp_all

/-- A completion of a function that is heard leaves. -/
theorem State.emitTlp_heard {f : FnId} (h : s.reach (.fn f) = 2) (tag : Nat) (bs : List Byte) :
    s.emitTlp f (.completion (fnPort f) f tag .ok bs) = s.emit (s.readAnswer o tag bs (.fn f)) := by
  have hs := (State.reach_heard h).1
  simp only [State.unheard, Bool.or_eq_false_iff] at hs
  simp only [State.emitTlp, State.silenced, hs.2, State.readAnswer, State.asSent, Bool.false_eq_true, if_false]

/-- The state in which a read of a whole word has answered its bytes. -/
def State.regAnswered (s : State) (o tag : Nat) (bs : List Byte) : Agent → State
  | .ridge => s.emit (.regData .ridge o bs)
  | .fn f => s.collect f tag o bs true

/-- A read of a whole word answers what the word reads as. -/
theorem State.perform_read_word (s : State) (a : Agent) (r tag : Nat) (ho : o % 8 = 0) :
    s.perform (.read r a o 8 255 tag true)
      = (s.readUnit a o (BitVec.allOnes 64)).2.regAnswered o tag (wordBytes (s.readUnit a o (BitVec.allOnes 64)).1) a := by
  have hu (t : State) (v : Word) : t.unitBytes v o 8 255 false = (wordBytes v, t) := by
    simp [State.unitBytes, spanBytes_whole v ho]
  simp only [State.perform, show o / 8 * 8 = o by omega, enabledBits_whole ho, show ((255 : Nat) == 0) = false from rfl, hu]
  cases a <;> rfl

theorem State.WayClear.regAnswered_sent (h : s.WayClear a) (o tag : Nat) (bs : List Byte) :
    (s.regAnswered o tag bs a).sent = s.readAnswer o tag bs a :: s.sent := by
  cases a with
  | ridge => rfl
  | fn f =>
    simp only [State.regAnswered, State.collect, Bool.true_or, if_true, h.empty f rfl, List.nil_append, State.modHost_sent,
      State.emitTlp_heard (o := o) h.reaches, State.emit_sent]

theorem State.regAnswered_only (s : State) (a : Agent) (o tag : Nat) (bs : List Byte) :
    State.Only [] [.hosts, .sent] s (s.regAnswered o tag bs a) := by
  cases a with
  | ridge =>
    show State.Only [] [.hosts, .sent] s (s.emit (.regData .ridge o bs))
    exact State.Within.only (State.emit_within (.refl _ s) _ (by decide +kernel))
  | fn f =>
    show State.Only [] [.hosts, .sent] s (s.collect f tag o bs true)
    exact State.Within.only (State.collect_within (.refl _ s) _ _ _ _ _ (by decide +kernel))

theorem State.deny_only (s : State) (a : Agent) : State.Only [] [.ctrs] s (s.deny a) :=
  (State.deny_within (.refl _ s) a (by decide +kernel)).only

/-- A read changes at most the count of denials. -/
theorem State.readUnit_only (s : State) (a : Agent) (o : Nat) (m : Word) : State.Only [] [.ctrs] s (s.readUnit a o m).2 :=
  (State.readUnit_within (.refl _ s) a o m (by decide +kernel)).only

/-- The way stays clear, and answers leave as they did, when only counters change. -/
theorem State.readUnit_cases (s : State) (a : Agent) (o : Nat) (m : Word) : (s.readUnit a o m).2 = s ∨ (s.readUnit a o m).2 = s.deny a := by
  simp only [State.readUnit]
  split
  · exact .inl rfl
  · exact .inr rfl

theorem State.WayClear.deny (h : s.WayClear a) : (s.deny a).WayClear a := by
  cases a with
  | ridge => exact h
  | fn f => exact ⟨h.reaches, h.awake, h.empty, h.first⟩

theorem State.deny_readAnswer (s : State) (a : Agent) (o tag : Nat) (bs : List Byte) : (s.deny a).readAnswer o tag bs a = s.readAnswer o tag bs a := by
  cases a <;> rfl

theorem State.deny_sent (s : State) (a : Agent) : (s.deny a).sent = s.sent := by
  cases a <;> rfl

/-- The command of a read of a whole word answers what the word reads as. -/
theorem State.WayClear.exec_registerRead (h : s.WayClear a) (ho : o % 8 = 0) (hs : o + 8 ≤ s.mapSize a) (hr : s.steady (s.regionAt a o) = true)
    (tag : Nat) : exec (.registerRead a ⟨.bar0, o⟩ ⟨2, 15, 15, tag⟩) s =
      .next ((s.readUnit a o (BitVec.allOnes 64)).2.regAnswered o tag (wordBytes (s.readUnit a o (BitVec.allOnes 64)).1) a) := by
  rw [exec_registerRead_word ho, h.regRead ho hs hr, State.perform_read_word s a _ tag ho]

/-- The answer leaves as the state before the read gives it, whether the read has been counted as a denial or not. -/
theorem State.WayClear.readUnit_answered_sent (h : s.WayClear a) (o tag : Nat) (m : Word) (bs : List Byte) :
    ((s.readUnit a o m).2.regAnswered o tag bs a).sent = s.readAnswer o tag bs a :: s.sent := by
  rcases State.readUnit_cases s a o m with e | e <;> rw [e]
  · exact h.regAnswered_sent o tag bs
  · rw [h.deny.regAnswered_sent, State.deny_readAnswer, State.deny_sent]

/-- A word whose one target the view shows reads as that target. -/
theorem State.readUnit_seen {m : Word} {g : Tgt} (ht : s.touched a o m = [g]) (hg : s.right a g ≠ .none) :
    s.readUnit a o m = (s.readTgt a g &&& m, s) := by
  simp [State.readUnit, ht, hg]

/-- A word whose one target lies outside the view reads 0, and is counted (R48). -/
theorem State.readUnit_denied {m : Word} {g : Tgt} (ht : s.touched a o m = [g]) (hg : s.right a g = .none) :
    s.readUnit a o m = (0, s.deny a) := by
  simp [State.readUnit, ht, hg]

/-! ### What a write loads -/

/-- The command of a write of a half or a whole word writes it. -/
theorem State.WayClear.exec_registerWrite (h : s.WayClear a) (ho : o % 8 = 0) (hs : o + 8 ≤ s.mapSize a)
    (hr : s.steady (s.regionAt a o) = true) (v : Word) {n : Nat} (hn : n = 4 ∨ n = 8) :
    exec (.registerWrite a o (headBytes v n)) s = .next (s.writeUnit a o (v &&& maskBits 0 (8 * n)) (maskBits 0 (8 * n))) := by
  rw [exec_registerWrite_head ho v hn, h.regWrite ho hs hr v (by omega) (by omega)]

theorem State.WayClear.exec_registerWrite_word (h : s.WayClear a) (ho : o % 8 = 0) (hs : o + 8 ≤ s.mapSize a)
    (hr : s.steady (s.regionAt a o) = true) (v : Word) :
    exec (.registerWrite a o (headBytes v 8)) s = .next (s.writeUnit a o v (BitVec.allOnes 64)) := by
  rw [h.exec_registerWrite ho hs hr v (.inr rfl), show maskBits 0 (8 * 8) = BitVec.allOnes 64 by decide, BitVec.and_allOnes]

/-- A write of a place outside the view is discarded, and counted (R48). -/
theorem State.writeUnit_denied {v m : Word} {g : Tgt} (ht : s.touched a o m = [g]) (hg : s.right a g = .none) :
    s.writeUnit a o v m = s.deny a := by
  simp [State.writeUnit, ht, hg]

/-- A write of a counter presets it. -/
theorem State.writeUnit_live {v m : Word} {c : Nat} (ht : s.touched a o m = [.live c]) (hg : s.right a (.live c) = .write) :
    s.writeUnit a o v m = s.presetCtr c (mergeBits (s.liveCtr c) v m) := by
  simp [State.writeUnit, ht, hg, Tgt.retBits, Tgt.word?, State.writeTgt]

/-- A write of a register without ret fields is a write of its fields. -/
theorem State.writeUnit_reg {v m : Word} {p : Part} (ht : s.touched a o m = [.reg p]) (hg : s.right a (.reg p) = .write)
    (hp : p.kind.retMask = 0) :
    s.writeUnit a o v m = s.writeReg a p.kind p.idx (halfAt v p) (halfAt (m &&& (Tgt.reg p).bits) p) := by
  simp [State.writeUnit, ht, hg, Tgt.retBits, Tgt.word?, State.writeTgt, hp]
  cases s.readCtx a <;> rfl

/-- A counter preset whole reads as it was preset, and the others as they did. -/
theorem State.presetCtr_liveCtr_self (s : State) (c : Nat) (v : Word) : (s.presetCtr c v).liveCtr c = v := by
  have hg : (s.presetCtr c v).gain c = s.gain c := rfl
  rw [State.liveCtr, hg, State.presetCtr, State.setCtr_ctr_self, BitVec.sub_add_cancel]

theorem State.presetCtr_liveCtr_other (s : State) {c d : Nat} (v : Word) (hd : d ≠ c) : (s.presetCtr c v).liveCtr d = s.liveCtr d := by
  have hg : (s.presetCtr c v).gain d = s.gain d := rfl
  rw [State.liveCtr, hg, State.presetCtr, State.setCtr_ctr_other _ _ hd, State.liveCtr]

theorem mergeBits_whole (w v : Word) : mergeBits w v (BitVec.allOnes 64) = v := by
  rw [mergeBits, BitVec.not_allOnes, BitVec.and_zero, BitVec.zero_or, BitVec.and_allOnes]

/-- Bits of a register that a plain write loads, and those that it clears where it writes ones. -/
def RegKind.loadMask (k : RegKind) : Word := k.maskWhere (fun f => !f.ret && (f.acc == .rw || f.acc == .rws))
def RegKind.clearMask (k : RegKind) : Word := k.maskWhere (fun f => f.acc == .w1c)

theorem plainWrite_eq (k : RegKind) (old v m : Word) :
    plainWrite k old v m = mergeBits old v (k.loadMask &&& m) &&& ~~~ (k.clearMask &&& m &&& v) := rfl

/-- Where no bit is cleared by ones, each bit is the value's or the old one. -/
theorem getLsbD_plainWrite {k : RegKind} (hc : k.clearMask = 0) (old v m : Word) {i : Nat} (hi : i < 64) :
    (plainWrite k old v m).getLsbD i = if (k.loadMask &&& m).getLsbD i then v.getLsbD i else old.getLsbD i := by
  have hkeep : ~~~(k.clearMask &&& m &&& v) = BitVec.allOnes 64 := by simp [hc]
  rw [plainWrite_eq, hkeep, BitVec.and_allOnes, mergeBits, BitVec.getLsbD_or, BitVec.getLsbD_and, BitVec.getLsbD_and, BitVec.getLsbD_not]
  generalize (k.loadMask &&& m).getLsbD i = b
  cases b <;> simp [hi]

/-- Two words that agree on the bits of a field hold the same value there. -/
theorem getBits_congr {w x : Word} {lo len : Nat} (h : ∀ i, lo ≤ i → i < lo + len → w.getLsbD i = x.getLsbD i) :
    getBits w lo len = getBits x lo len := by
  unfold getBits
  congr 1
  apply BitVec.eq_of_getLsbD_eq
  intro i hi
  rw [BitVec.getLsbD_extractLsb', BitVec.getLsbD_extractLsb', h (lo + i) (by omega) (by omega)]

/-- A mask on the bits of a field. -/
theorem getLsbD_of_field {lo len i : Nat} {x y : Word} (h : maskBits lo len &&& x = y) (h64 : lo + len ≤ 64) (hl : lo ≤ i) (hi : i < lo + len) :
    x.getLsbD i = y.getLsbD i := by
  rw [← h, BitVec.getLsbD_and, getLsbD_maskBits]
  simp [hl, hi, show i < 64 by omega]

/-- A plain write loads a field whose bits it covers. -/
theorem plainWrite_loaded {k : RegKind} {lo len : Nat} {old v m : Word} (hc : k.clearMask = 0) (h64 : lo + len ≤ 64)
    (hf : maskBits lo len &&& (k.loadMask &&& m) = maskBits lo len) : getBits (plainWrite k old v m) lo len = getBits v lo len :=
  getBits_congr fun i hl hi => by
    rw [getLsbD_plainWrite hc _ _ _ (by omega), getLsbD_of_field hf h64 hl hi, getLsbD_maskBits]
    simp [hl, hi, show i < 64 by omega]

/-- A plain write leaves a field outside its mask. -/
theorem plainWrite_kept {k : RegKind} {lo len : Nat} {old v m : Word} (hc : k.clearMask = 0) (h64 : lo + len ≤ 64)
    (hf : maskBits lo len &&& (k.loadMask &&& m) = 0) : getBits (plainWrite k old v m) lo len = getBits old lo len :=
  getBits_congr fun i hl hi => by
    rw [getLsbD_plainWrite hc _ _ _ (by omega), getLsbD_of_field hf h64 hl hi]
    simp

/-- The registers without ret fields that take a plain write of their low half, some with a width that is rounded. -/
def plainKinds : List RegKind := [.HP_LINK_CTRL, .HP_PM_CTRL, .HP_TAG, .HP_PTM_CTRL, .Q_COAL, .BRACE_CTRL]

/-- Their catalogue: 4 bytes, no ret fields, none that ones clear; every field is their own, RW fields are loaded by a write of the low half,
and RO fields are not. -/
theorem plainKinds_catalogue : ∀ k ∈ plainKinds, k.place.bytes = 4 ∧ k.retMask = 0 ∧ k.clearMask = 0 ∧ ∀ F ∈ k.flds, F.reg = k ∧ F.lo + F.len ≤ 32 ∧
    (F.acc = .rw → maskBits F.lo F.len &&& (k.loadMask &&& 0xFFFFFFFF) = maskBits F.lo F.len) ∧
    (F.acc = .ro → maskBits F.lo F.len &&& (k.loadMask &&& 0xFFFFFFFF) = 0) := by decide +kernel

/-- A field of the low half of a word. -/
theorem getBits_low (v : Word) {lo len : Nat} (h : lo + len ≤ 32) : getBits (v &&& 0xFFFFFFFF) lo len = getBits v lo len :=
  getBits_congr fun i _ hi => by
    rw [show (0xFFFFFFFF : Word) = maskBits 0 32 by decide, BitVec.getLsbD_and, getLsbD_maskBits_low]
    simp [show i < 64 by omega, show i < 32 by omega]

/-- A write has left `value` in the RW fields of register `i` of a kind, the RO fields as they were, and every other register too. -/
structure State.Loads (s : State) (k : RegKind) (i : Nat) (value : Fld → Nat) (t : State) : Prop where
  only : State.Only [k] [] s t
  others : ∀ j, j ≠ i → t.word k j = s.word k j
  loaded : ∀ F ∈ k.flds, F.acc = .rw → t.get F i = value F
  kept : ∀ F ∈ k.flds, F.acc = .ro → t.get F i = s.get F i

theorem State.Loads.congr {k : RegKind} {i : Nat} {value value' : Fld → Nat} {t : State} (h : s.Loads k i value t)
    (hv : ∀ F ∈ k.flds, value F = value' F) : s.Loads k i value' t :=
  { h with loaded := fun F hF hrw => (h.loaded F hF hrw).trans (hv F hF) }

theorem State.setWord_only (s : State) (k : RegKind) (i : Nat) (w : Word) : State.Only [k] [] s (s.setWord k i w) :=
  (State.setWord_within (.refl _ s) k i w (by simp [listMask])).only

/-- A plain write of the low half loads the RW fields from the value. -/
theorem State.plain_loads {k : RegKind} (hk : k ∈ plainKinds) {i : Nat} (hi : i < k.count) (v : Word) :
    s.Loads k i (fun F => getBits v F.lo F.len) (s.plain k i (v &&& 0xFFFFFFFF) 0xFFFFFFFF) := by
  obtain ⟨-, -, hc, hF⟩ := plainKinds_catalogue k hk
  refine ⟨s.setWord_only .., fun j hj => State.setWord_word_index hj _, fun F hm hrw => ?_, fun F hm hro => ?_⟩ <;>
    obtain ⟨hreg, h32, hload, hkeep⟩ := hF F hm <;>
    rw [State.get, hreg, State.plain, State.setWord_word_self hi]
  · rw [plainWrite_loaded hc (by omega) (hload hrw), getBits_low v h32]
  · rw [plainWrite_kept hc (by omega) (hkeep hro), State.get, hreg]

theorem widthBelow_le (n : Nat) : widthBelow n ≤ n := by
  unfold widthBelow
  cases h : ([16, 8, 4, 2, 1] : List Nat).find? (fun w => decide (w ≤ n)) with
  | none => exact Nat.zero_le n
  | some w => simpa using List.find?_some h

/-- Rounding a width field after a plain write leaves the fields beside it. -/
theorem State.plain_roundWidth_loads {k : RegKind} (hk : k ∈ plainKinds) {i : Nat} (hi : i < k.count) (v : Word) {G : Fld} (hG : G ∈ k.flds)
    (hrw : G.acc = .rw) (hone : ∀ F ∈ k.flds, F = G ∨ F.lo ≠ G.lo ∧ (F.lo + F.len ≤ G.lo ∨ G.lo + G.len ≤ F.lo)) :
    s.Loads k i (fun F => if F.lo = G.lo then widthBelow (getBits v F.lo F.len) else getBits v F.lo F.len)
      ((s.plain k i (v &&& 0xFFFFFFFF) 0xFFFFFFFF).roundWidth G i) := by
  have hp := State.plain_loads (s := s) hk hi v
  obtain ⟨-, -, -, hF⟩ := plainKinds_catalogue k hk
  obtain ⟨hGk, hG32, -⟩ := hF G hG
  have hfit : widthBelow (getBits v G.lo G.len) < 2 ^ G.len := (widthBelow_le _).trans_lt (getBits_lt ..)
  have hother {F : Fld} (hm : F ∈ k.flds) (hb : F.lo + F.len ≤ G.lo ∨ G.lo + G.len ≤ F.lo) :=
    State.get_put_beside (s := s.plain k i (v &&& 0xFFFFFFFF) 0xFFFFFFFF) (i := i)
      (v := widthBelow ((s.plain k i (v &&& 0xFFFFFFFF) 0xFFFFFFFF).get G i)) ((hF F hm).1.trans hGk.symm) hb
  refine ⟨hp.only.trans (hGk ▸ State.setWord_only ..), fun j hj => ?_, fun F hm hFrw => ?_, fun F hm hFro => ?_⟩
  · rw [State.roundWidth, State.put, hGk, State.setWord_word_index hj, hp.others j hj]
  · rcases hone F hm with rfl | ⟨hne, hb⟩
    · rw [if_pos rfl, State.roundWidth, State.get_put_self (hGk ▸ hi) (by omega), hp.loaded F hm hFrw, Nat.mod_eq_of_lt hfit]
    · rw [if_neg hne, State.roundWidth, hother hm hb, hp.loaded F hm hFrw]
  · rcases hone F hm with rfl | ⟨-, hb⟩
    · rw [hFro] at hrw
      cases hrw
    · rw [State.roundWidth, hother hm hb, hp.kept F hm hFro]

/-- Width fields, which take the next lower width of the set (R162). -/
abbrev WidthField (k : RegKind) (F : Fld) : Prop :=
  (k = .HP_LINK_CTRL ∧ F.lo = HP_LINK_CTRL.max_width.lo) ∨ (k = .HP_PM_CTRL ∧ F.lo = HP_PM_CTRL.l0p_min_width.lo)

/-- A write of the low half of one of these registers. -/
theorem State.writeReg_loads (a : Agent) {k : RegKind} (hk : k ∈ plainKinds) {i : Nat} (hi : i < k.count) (v : Word) :
    s.Loads k i (fun F => if WidthField k F then widthBelow (getBits v F.lo F.len) else getBits v F.lo F.len)
      (s.writeReg a k i (v &&& 0xFFFFFFFF) 0xFFFFFFFF) := by
  have hp := State.plain_loads (s := s) hk hi v
  simp only [plainKinds, List.mem_cons, List.not_mem_nil, or_false] at hk
  rcases hk with rfl | rfl | rfl | rfl | rfl | rfl
  case inl =>
    refine (State.plain_roundWidth_loads (by decide) hi v (G := HP_LINK_CTRL.max_width) (by simp [RegKind.flds]) rfl ?_).congr ?_
    · simp only [RegKind.flds, List.forall_mem_cons]
      exact ⟨.inr (by decide), .inl trivial, .inr (by decide), nofun⟩
    · intro F _
      simp [WidthField]
  case inr.inl =>
    refine (State.plain_roundWidth_loads (by decide) hi v (G := HP_PM_CTRL.l0p_min_width) (by simp [RegKind.flds]) rfl ?_).congr ?_
    · simp only [RegKind.flds, List.forall_mem_cons]
      exact ⟨.inr (by decide), .inr (by decide), .inl trivial, .inr (by decide), .inr (by decide), nofun⟩
    · intro F _
      simp [WidthField]
  all_goals exact hp.congr (by simp)

/-- In its own place, a 4-byte register takes the low half of a word. -/
theorem halfAt_low {k : RegKind} (hb : k.place.bytes = 4) (i : Nat) (v : Word) : halfAt (v &&& maskBits 0 (8 * 4)) ⟨k, i, 0⟩ = v &&& 0xFFFFFFFF := by
  rw [halfAt, if_neg (by simp [hb]), BitVec.ushiftRight_zero, show maskBits 0 (8 * 4) = (0xFFFFFFFF : Word) by decide, BitVec.and_assoc,
    BitVec.and_self]

/-- A write of the low half covers all of it. -/
theorem halfAt_low_mask {k : RegKind} (hb : k.place.bytes = 4) (i : Nat) :
    halfAt (maskBits 0 (8 * 4) &&& (Tgt.reg ⟨k, i, 0⟩).bits) ⟨k, i, 0⟩ = 0xFFFFFFFF := by
  rw [Tgt.bits, hb, BitVec.and_comm, halfAt_low hb]
  exact (by decide : maskBits 0 (8 * 4) &&& (0xFFFFFFFF : Word) = 0xFFFFFFFF)

/-- The command of a write of the low half of one of the plain registers. -/
theorem State.WayClear.exec_registerWrite_plain (h : s.WayClear a) (ho : o % 8 = 0) (hs : o + 8 ≤ s.mapSize a)
    (hr : s.steady (s.regionAt a o) = true) (v : Word) {k : RegKind} (hk : k ∈ plainKinds) {i : Nat}
    (ht : s.touched a o 0xFFFFFFFF = [.reg ⟨k, i, 0⟩]) (hw : s.right a (.reg ⟨k, i, 0⟩) = .write) :
    exec (.registerWrite a o (headBytes v 4)) s = .next (s.writeReg a k i (v &&& 0xFFFFFFFF) 0xFFFFFFFF) := by
  obtain ⟨hb, hret, -⟩ := plainKinds_catalogue k hk
  rw [show (0xFFFFFFFF : Word) = maskBits 0 (8 * 4) by decide] at ht
  rw [h.exec_registerWrite ho hs hr v (.inl rfl), State.writeUnit_reg (p := ⟨k, i, 0⟩) ht hw hret, halfAt_low hb, halfAt_low_mask hb]

/-! ### Reads of BAR2 -/

section
variable {f : FnId} {off dws : Nat}

/-- What lies within a short block is one completion. -/
theorem cutData_one {mps fuel : Nat} {bs : List Byte} (hbs : bs ≠ []) (hfuel : 0 < fuel) (hfit : off % mps + bs.length ≤ mps) :
    cutData mps fuel off bs = [bs] := by
  obtain ⟨fuel, rfl⟩ := Nat.exists_eq_succ_of_ne_zero hfuel.ne'
  have hlen : bs.length ≤ mps - off % mps := by omega
  simp only [cutData, if_neg (show ¬ bs.isEmpty = true by simpa using hbs), List.take_of_length_le hlen, List.drop_eq_nil_of_le hlen]
  cases fuel <;> rfl

/-- What lies within an 8-byte word lies within a completion. -/
theorem State.mps_fits (s : State) (f : FnId) {n : Nat} (h : off % 8 + n ≤ 8) : off % s.mps f + n ≤ s.mps f := by
  have hm : s.mps f = 8 * (16 * 2 ^ min (s.cfgGet (fnPf f) 0x58 5 3) 5) := by rw [State.mps, sizeCode]; omega
  have hpos : 0 < 16 * 2 ^ min (s.cfgGet (fnPf f) 0x58 5 3) 5 := by positivity
  rw [hm, Nat.mod_mul]
  have := Nat.mod_lt (off / 8) hpos
  omega

/-- Where every byte is enabled, no byte is free. -/
theorem zip_enabled (bs fr : List Byte) (h : fr.length = bs.length) :
    ((List.replicate bs.length true).zip (bs.zip fr)).map (fun x => if x.1 then x.2.1 else x.2.2) = bs := by
  induction bs generalizing fr with
  | nil => simp
  | cons b bs ih =>
    obtain ⟨r, fr, rfl⟩ := List.exists_cons_of_length_eq_add_one h
    simp [List.replicate_succ, ih fr (by simpa using h)]

/-- The bytes of a number of dwords of BAR2. -/
def State.bar2Bytes (s : State) (f : FnId) (off dws : Nat) : List Byte :=
  (List.range dws).flatMap (fun i => leBytes 4 (s.bar2Dword f (off + 4 * i)).toNat)

theorem State.bar2Bytes_length (s : State) (f : FnId) (off dws : Nat) : (s.bar2Bytes f off dws).length = 4 * dws := by
  simp [State.bar2Bytes, List.length_flatMap, leBytes_length, Nat.mul_comm]

/-- A read of BAR2 within an 8-byte word, with every byte enabled, is answered by one completion; the bytes that it leaves out, none, are
drawn. -/
theorem State.WayClear.bar2Read (h : s.WayClear (.fn f)) (hr : s.steady 34 = true) (hd : 0 < dws) {last : Nat}
    (henab : enables dws 15 last = List.replicate (4 * dws) true) (hsize : off + 4 * dws ≤ s.bar2Size f) (hfit : off % 8 + 4 * dws ≤ 8) (tag : Nat) :
    s.bar2Read f off dws 15 last tag
      = (s.freeBytes (4 * dws)).2.emitTlp f (.completion (fnPort f) f tag .ok (s.bar2Bytes f off dws)) := by
  have hlen := s.bar2Bytes_length f off dws
  have hone : cutData (s.mps f) (4 * dws) off (s.bar2Bytes f off dws) = [s.bar2Bytes f off dws] :=
    cutData_one (List.ne_nil_of_length_pos (by omega)) (by omega) (hlen ▸ s.mps_fits f hfit)
  have hdata := zip_enabled (s.bar2Bytes f off dws) (s.freeBytes (4 * dws)).1 (by simp [State.freeBytes, hlen])
  rw [hlen, ← henab] at hdata
  obtain ⟨hheard, hmem⟩ := State.reach_heard h.reaches
  unfold State.bar2Read
  simp only [hheard, hmem, State.leaveL1_awake (h.awake f rfl), State.steady_wake hr, Bool.not_true, Bool.false_or, decide_eq_true_eq, Bool.false_eq_true,
    if_false, if_neg (Nat.not_lt.mpr hsize), show ¬ (dws = 1 ∧ (15 : Nat) = 0) by simp]
  change State.each _ (cutData (s.mps f) (4 * dws) off (List.map _ (List.zip _ ((s.bar2Bytes f off dws).zip _)))) _ = _
  rw [hdata, hone]
  rfl

/-- The command of such a read of BAR2. -/
theorem exec_registerRead_bar2 {last : BitVec 4} (hwf : wfWindow off dws 15 last = true) (tag : Nat) :
    exec (.registerRead (.fn f) ⟨.bar2, off⟩ ⟨dws, 15, last, tag⟩) s = .next (s.bar2Read f off dws 15 last.toNat tag) := by
  simp only [exec, execRegisterRead, hwf, if_true]
  rfl

/-- A read of BAR2 answers the bytes of its dwords, and changes nothing beside but the counter of free values. -/
theorem State.WayClear.bar2_completes (h : s.WayClear (.fn f)) (hr : s.steady 34 = true) {last : BitVec 4} (hd : 0 < dws)
    (hwf : wfWindow off dws 15 last = true) (henab : enables dws 15 last.toNat = List.replicate (4 * dws) true)
    (hsize : off + 4 * dws ≤ s.bar2Size f) (hfit : off % 8 + 4 * dws ≤ 8) (tag : Nat) :
    Completes (.registerRead (.fn f) ⟨.bar2, off⟩ ⟨dws, 15, last, tag⟩) s (fun t =>
      t.sent = s.asSent f (.completion (fnPort f) f tag .ok (s.bar2Bytes f off dws)) :: s.sent ∧ State.Only [] [.freeCtr, .sent] s t) := by
  refine ⟨_, exec_registerRead_bar2 hwf tag, ?_⟩
  rw [h.bar2Read hr hd henab hsize hfit]
  constructor
  · rw [State.emitTlp_heard (s := (s.freeBytes (4 * dws)).2) (o := off) h.reaches]
    rfl
  · exact (State.emitTlp_within (State.freeBytes_within (.refl _ s) _ (by decide +kernel)) _ _ (by decide +kernel)).only

/-- A read of one dword. -/
theorem State.WayClear.bar2_dword (h : s.WayClear (.fn f)) (hr : s.steady 34 = true) (hal : off % 4 = 0) (hsize : off + 4 * 1 ≤ s.bar2Size f)
    (tag : Nat) {w : Dword} (hw : s.bar2Dword f off = w) :
    Completes (.registerRead (.fn f) ⟨.bar2, off⟩ ⟨1, 15, 0, tag⟩) s (fun t =>
      t.sent = s.asSent f (.completion (fnPort f) f tag .ok (leBytes 4 w.toNat)) :: s.sent ∧ State.Only [] [.freeCtr, .sent] s t) := by
  have hbytes : s.bar2Bytes f off 1 = leBytes 4 w.toNat := by simp [State.bar2Bytes, hw]
  have hwf : wfWindow off 1 15 0 = true := by
    simp only [wfWindow, wfSpan, wfEnables, Bool.and_eq_true, decide_eq_true_eq]
    exact ⟨⟨by decide, by decide, hal, by decide, by omega⟩, by decide⟩
  exact hbytes ▸ h.bar2_completes hr Nat.one_pos hwf (by decide) hsize (by omega) tag

/-- Where the parts of BAR2 lie, for a function with a table (R49, R54). -/
theorem State.bar2_layout (s : State) (f : FnId) (h : 0 < s.tableSize f) :
    tableBase f % 16 = 0 ∧ tableBase f + 16 * s.tableSize f ≤ pbaBase f ∧ pbaBase f % 16 = 0 ∧ pbaBase f + s.tableSize f / 8 ≤ s.bar2Size f
      ∧ s.tableSize f % 32 = 0 := by
  revert h
  cases hc : s.compatFn f with
  | true => simp [State.tableSize, hc]
  | false =>
    simp only [State.tableSize, State.bar2Size, tableBase, pbaBase, hc, Bool.false_eq_true, if_false, Bool.not_false, and_true]
    split <;> decide

/-- The doorbells read 0 (R40). -/
theorem State.bar2Dword_doorbell (s : State) (f : FnId) (h : off < tableBase f) : s.bar2Dword f off = 0 := by
  have hle : tableBase f ≤ pbaBase f := by unfold tableBase pbaBase; split <;> decide
  simp only [State.bar2Dword, if_neg (show ¬ (tableBase f ≤ off ∧ off < tableBase f + 16 * s.tableSize f) by omega),
    if_neg (show ¬ (pbaBase f ≤ off ∧ off < pbaBase f + s.tableSize f / 8) by omega)]

/-- A dword of the table reads as its entry. -/
theorem State.bar2Dword_table (s : State) (f : FnId) {e j : Nat} (he : e < s.tableSize f) (hj : j < 4) :
    s.bar2Dword f (tableBase f + 16 * e + 4 * j) = s.readEntryDword f e j := by
  obtain ⟨hbase, -⟩ := s.bar2_layout f (by omega)
  simp only [State.bar2Dword, if_pos (show tableBase f ≤ tableBase f + 16 * e + 4 * j ∧
    tableBase f + 16 * e + 4 * j < tableBase f + 16 * s.tableSize f by omega), show (tableBase f + 16 * e + 4 * j - tableBase f) / 16 = e by omega,
    show (tableBase f + 16 * e + 4 * j) % 16 / 4 = j by omega]

/-- A dword gathered bit by bit. -/
theorem getLsbD_gather (p : Nat → Bool) (m i : Nat) :
    ((List.range m).foldl (fun w n => if p n then w ||| BitVec.ofNat 32 (2 ^ n) else w) (0 : Dword)).getLsbD i
      = (decide (i < 32) && decide (i < m) && p i) := by
  induction m with
  | zero => simp
  | succ m ih =>
    have hpow : (BitVec.ofNat 32 (2 ^ m)).getLsbD i = (decide (i < 32) && decide (m = i)) := by
      rw [BitVec.getLsbD_ofNat, Nat.testBit_two_pow]
    rw [List.range_succ, List.foldl_append, List.foldl_cons, List.foldl_nil]
    have hlast : decide (i < m + 1) = (decide (i < m) || decide (m = i)) := by grind
    split
    · rw [BitVec.getLsbD_or, ih, hpow, hlast]
      grind
    · rw [ih, hlast]
      grind

/-- A dword of the pending bit array reads as the pending bits of its entries. -/
theorem State.bar2Dword_pba (s : State) (f : FnId) {n i : Nat} (hn : 32 * n < s.tableSize f) (hi : i < 32) :
    (s.bar2Dword f (pbaBase f + 4 * n)).getLsbD i = s.readPba f (32 * n + i) := by
  obtain ⟨-, hbefore, -, -, hwhole⟩ := s.bar2_layout f (by omega)
  simp only [State.bar2Dword, if_neg (show ¬ (tableBase f ≤ pbaBase f + 4 * n ∧ pbaBase f + 4 * n < tableBase f + 16 * s.tableSize f) by omega),
    if_pos (show pbaBase f ≤ pbaBase f + 4 * n ∧ pbaBase f + 4 * n < pbaBase f + s.tableSize f / 8 by omega),
    show 8 * (pbaBase f + 4 * n - pbaBase f) = 32 * n by omega]
  exact (getLsbD_gather (fun i => s.readPba f (32 * n + i)) 32 i).trans (by simp [hi])

/-- The doorbells read 0, by a read of two dwords. -/
theorem State.WayClear.bar2_doorbells (h : s.WayClear (.fn f)) (hr : s.steady 34 = true) (hal : off % 8 = 0) (hsize : off + 8 ≤ s.bar2Size f)
    (hdoor : off < tableBase f) (tag : Nat) :
    Completes (.registerRead (.fn f) ⟨.bar2, off⟩ ⟨2, 15, 15, tag⟩) s (fun t =>
      t.sent = s.asSent f (.completion (fnPort f) f tag .ok (List.replicate 8 0)) :: s.sent ∧ State.Only [] [.freeCtr, .sent] s t) := by
  have hbase : tableBase f % 8 = 0 := by unfold tableBase; split <;> rfl
  have hbytes : s.bar2Bytes f off 2 = List.replicate 8 0 := by
    simp only [State.bar2Bytes, List.range_succ, List.range_zero, List.nil_append, List.flatMap_append, List.flatMap_singleton,
      s.bar2Dword_doorbell f (show off + 4 * 0 < tableBase f by omega), s.bar2Dword_doorbell f (show off + 4 * 1 < tableBase f by omega)]
    rfl
  exact hbytes ▸ h.bar2_completes hr Nat.two_pos (wfWindow_word hal) (by decide) hsize (by omega) tag

end

/-! ### The statement -/

/-- Reads and writes of a whole counter (R13, R36). -/
theorem State.WayClear.counter_access (h : s.WayClear a) (ho : o % 8 = 0) (hs : o + 8 ≤ s.mapSize a) (hr : s.steady (s.regionAt a o) = true)
    (tag : Nat) (v : Word) {c : Nat} (ht : s.touched a o (BitVec.allOnes 64) = [.live c]) (hw : s.right a (.live c) = .write) :
    Completes (.registerRead a ⟨.bar0, o⟩ ⟨2, 15, 15, tag⟩) s (fun t =>
      t.sent = s.readAnswer o tag (wordBytes (s.liveCtr c)) a :: s.sent ∧ State.Only [] [.hosts, .sent] s t)
    ∧ Completes (.registerWrite a o (headBytes v 8)) s (fun t =>
      t.liveCtr c = v ∧ (∀ d, d ≠ c → t.liveCtr d = s.liveCtr d) ∧ State.Only [] [.ctrs] s t) := by
  have hread : s.readUnit a o (BitVec.allOnes 64) = (s.liveCtr c, s) := by
    rw [State.readUnit_seen ht (by simp [hw]), BitVec.and_allOnes]
    rfl
  constructor
  · refine ⟨_, h.exec_registerRead ho hs hr tag, ?_⟩
    rw [hread]
    exact ⟨h.regAnswered_sent o tag _, s.regAnswered_only a o tag _⟩
  · refine ⟨_, h.exec_registerWrite_word ho hs hr v, ?_⟩
    rw [State.writeUnit_live ht hw, mergeBits_whole]
    exact ⟨s.presetCtr_liveCtr_self c v, fun d hd => s.presetCtr_liveCtr_other v hd,
      (State.setCtr_within (.refl _ s) _ _ (by decide +kernel)).only⟩

/-- A function's accesses to a place outside its view (R48). -/
theorem State.WayClear.denied_access {f : FnId} (h : s.WayClear (.fn f)) (ho : o % 8 = 0) (hs : o + 8 ≤ s.mapSize (.fn f))
    (hr : s.steady (s.regionAt (.fn f) o) = true) (tag : Nat) (v : Word) {g : Tgt} (ht : s.touched (.fn f) o (BitVec.allOnes 64) = [g])
    (hg : s.right (.fn f) g = .none) :
    Completes (.registerRead (.fn f) ⟨.bar0, o⟩ ⟨2, 15, 15, tag⟩) s (fun t =>
      t.sent = s.asSent f (.completion (fnPort f) f tag .ok (List.replicate 8 0)) :: s.sent ∧ t.ctr (fnCtr f 2) = s.ctr (fnCtr f 2) + 1)
    ∧ Completes (.registerWrite (.fn f) o (headBytes v 8)) s (fun t =>
      t.ctr (fnCtr f 2) = s.ctr (fnCtr f 2) + 1 ∧ State.Only [] [.ctrs] s t) := by
  have hzero : wordBytes 0 = List.replicate 8 0 := leBytes_zero 8
  have hcount : (s.deny (.fn f)).ctr (fnCtr f 2) = s.ctr (fnCtr f 2) + 1 := State.bump_ctr_self ..
  constructor
  · refine ⟨_, h.exec_registerRead ho hs hr tag, ?_, ?_⟩
    · rw [h.readUnit_answered_sent, State.readUnit_denied ht hg, hzero]
      rfl
    · rw [State.readUnit_denied ht hg, ← hcount]
      have hctrs : Area.same _ _ .ctrs := (State.regAnswered_only (s.deny (.fn f)) (.fn f) o tag (wordBytes 0)).areas .ctrs (by decide)
      exact congrArg (fun cs => Tbl.get 0 cs (fnCtr f 2)) hctrs
  · refine ⟨_, h.exec_registerWrite_word ho hs hr v, ?_⟩
    rw [State.writeUnit_denied ht hg]
    exact ⟨hcount, s.deny_only _⟩

end

/-- Settles O53: on a clear way an access within a word is performed at once, in one unit; a read answers what the word reads as, and a write
loads its target. -/
theorem registersReadAndWrite : Obligations.RegistersReadAndWrite := by
  unfold Obligations.RegistersReadAndWrite
  intro s a o tag v hreach hway hring all bytes answer reply
  have h : s.WayClear a := ⟨hreach, fun f hf => (hway f hf).1, fun f hf => (hway f hf).2, hring⟩
  have hreply (bs : List Byte) : reply bs = s.readAnswer o tag bs a := by cases a <;> rfl
  have hwhole : bytes.map some = headBytes v 8 := rfl
  have hhalf : (bytes.take 4).map some = headBytes v 4 := rfl
  rw [hwhole, hhalf]
  simp only [hreply]
  refine ⟨fun ho hs hr => ⟨?_, ?_, ?_, ?_⟩, ?_⟩
  · exact ⟨_, h.exec_registerRead ho hs hr tag, h.readUnit_answered_sent o tag all _,
      ((s.readUnit_only a o all).mono (by simp) (by simp)).trans ((State.regAnswered_only ..).mono (by simp) (by simp))⟩
  · exact fun c ht hw => h.counter_access ho hs hr tag v ht hw
  · intro k hk i hi ht hw
    obtain ⟨only, others, loaded, kept⟩ := State.writeReg_loads (s := s) a hk hi v
    exact ⟨_, h.exec_registerWrite_plain ho hs hr v hk ht hw, only, others, loaded, kept⟩
  · rintro f g rfl ht hg
    exact h.denied_access ho hs hr tag v ht hg
  · rintro f rfl hr
    refine ⟨fun hal hsize hdoor => h.bar2_doorbells hr hal hsize hdoor tag, fun e j he hj => ?_, fun n hn => ?_⟩
    · obtain ⟨htab, hbefore, hpba, hend, hwhole⟩ := s.bar2_layout f (by omega)
      exact h.bar2_dword hr (by omega) (by omega) tag (s.bar2Dword_table f he hj)
    · obtain ⟨htab, hbefore, hpba, hend, hwhole⟩ := s.bar2_layout f (by omega)
      exact ⟨_, h.bar2_dword hr (by omega) (by omega) tag rfl, fun i hi => s.bar2Dword_pba f hn hi⟩

end Sys2Proof.Machine
end

/-! How operation ends: regions that are turned off, what a reset of the module leaves, the report of a thermal shutdown, and the two ways in
which an end begins, with the store free and with the store writing. -/

section
namespace Sys2Proof.Machine

/-! ### Regions that are turned off -/

/-- Register that holds the state code of region `r`, and the lowest bit of the code there (R451). -/
def regionPlace (r : Nat) : RegKind × Nat :=
  if r < 16 then (.PWR_STATE_BAY0, 4 * r)
  else if r < 24 then (.PWR_STATE_BAY1, 4 * (r - 16))
  else if r < 30 then (.PWR_STATE_EG, 4 * (r - 24))
  else if r < 34 then (.PWR_STATE_MISC, 48 + 4 * (r - 30))
  else if r = 34 then (.PWR_STATE_MISC, 4)
  else if r < 39 then (.PWR_STATE_MISC, 32 + 4 * (r - 35))
  else if r < 43 then (.PWR_STATE_MISC, 16 + 4 * (r - 39))
  else if r = 43 then (.PWR_STATE_MISC, 8)
  else (.PWR_STATE_MISC, 0)

/-- A code lies within its word, and two codes in one register share no bit. -/
theorem regionPlace_apart : ∀ r < 44, (regionPlace r).2 + 4 ≤ 64 ∧ ∀ j < 44, j ≠ r → (regionPlace j).1 = (regionPlace r).1 →
    (regionPlace j).2 + 4 ≤ (regionPlace r).2 ∨ (regionPlace r).2 + 4 ≤ (regionPlace j).2 := by
  decide

/-- The registers of the codes are among those that a region's state changes, none is a bay's status, and there is one of each. -/
theorem regionPlace_register (r : Nat) :
    (regionPlace r).1 ∈ wakeKinds ∧ (regionPlace r).1 ≠ .BAY_STATUS ∧ 0 < (regionPlace r).1.count := by
  unfold regionPlace
  split_ifs <;> dsimp only <;> decide

section
variable {s t : State} {r j v : Nat}

theorem State.region_eq_place (s : State) (r : Nat) : s.region r = getBits (s.word (regionPlace r).1 0) (regionPlace r).2 4 := by
  by_cases hr : r < 24
  · simp only [State.region, State.bayState, regionPlace, hr, if_true]
    split_ifs <;> rfl
  · have hr' : ¬ r < 16 := by omega
    simp only [State.region, regionPlace, hr, hr', if_false]
    split_ifs <;> rfl

/-- Beside BAY_STATUS, a region that takes a state changes its code alone. -/
theorem State.setRegion_word (s : State) (r v : Nat) {k : RegKind} (hk : k ≠ .BAY_STATUS) (i : Nat) :
    (s.setRegion r v).word k i =
      (s.setWord (regionPlace r).1 0 (setBits (s.word (regionPlace r).1 0) (regionPlace r).2 4 v)).word k i := by
  by_cases hr : r < 24
  · simp only [State.setRegion, hr, if_true, State.setBayState]
    refine (State.setWord_word_kind hk ..).trans ((State.setWord_word_kind hk ..).trans ?_)
    simp only [regionPlace, hr, if_true]
    split_ifs <;> rfl
  · have hr' : ¬ r < 16 := by omega
    simp only [State.setRegion, regionPlace, hr, hr', if_false]
    split_ifs <;> rfl

theorem State.setRegion_region_self (s : State) (hr : r < 44) (hv : v < 16) : (s.setRegion r v).region r = v := by
  obtain ⟨_, hk, hcount⟩ := regionPlace_register r
  rw [State.region_eq_place, State.setRegion_word s r v hk, State.setWord_word_self hcount, getBits_setBits_self (regionPlace_apart r hr).1]
  exact Nat.mod_eq_of_lt hv

theorem State.setRegion_region_other (s : State) (hr : r < 44) (hj : j < 44) (h : j ≠ r) : (s.setRegion r v).region j = s.region j := by
  rw [State.region_eq_place, State.region_eq_place, State.setRegion_word s r v (regionPlace_register j).2.1]
  by_cases hk : (regionPlace j).1 = (regionPlace r).1
  · rw [hk, State.setWord_word_self (regionPlace_register r).2.2]
    exact getBits_setBits_other ((regionPlace_apart r hr).2 j hj h hk)
  · rw [State.setWord_word_kind hk]

/-- Regions that take one state in turn all have it then. -/
theorem State.each_setRegion_region {rs : List Nat} (hrs : ∀ x ∈ rs, x < 44) (hv : v < 16) (hr : r < 44) (s : State)
    (h : r ∈ rs ∨ s.region r = v) : (s.each rs (fun s x => s.setRegion x v)).region r = v := by
  induction rs generalizing s with
  | nil => exact h.resolve_left (by simp)
  | cons x rs ih =>
    refine ih (fun y hy => hrs y (List.mem_cons_of_mem _ hy)) _ ?_
    by_cases hx : r = x
    · subst hx
      exact .inr (s.setRegion_region_self hr hv)
    · rw [s.setRegion_region_other (hrs x List.mem_cons_self) hr hx]
      exact h.imp_left fun h => (List.mem_cons.mp h).resolve_left hx

theorem offOrder_regions : (∀ r ∈ offOrder, r < 44) ∧ ∀ r < 44, r ∈ offOrder := by decide

/-- With every region but the Sill turned off, all are off. -/
theorem State.turnAllOff_allOff (s : State) : s.turnAllOff.AllOff := fun r hr =>
  State.each_setRegion_region offOrder_regions.1 (by decide) hr s (.inl (offOrder_regions.2 r hr))

theorem State.turnAllOff_only (s : State) : State.Only wakeKinds [] s s.turnAllOff :=
  (State.turnAllOff_within (.refl _ s) (by decide +kernel)).only

/-- The phase and the pins are no part of the registers. -/
theorem State.word_ended (s : State) (p : Phase) (d : PinDyn) (k : RegKind) (i : Nat) :
    State.word { s with phase := p, pins := d } k i = s.word k i := rfl

theorem State.AllOff.ended (h : s.AllOff) (p : Phase) (d : PinDyn) : State.AllOff { s with phase := p, pins := d } := fun r hr => by
  rw [State.region_eq_place, State.word_ended, ← State.region_eq_place]
  exact h r hr

/-- The regions are as they were where the power registers are. -/
theorem State.Only.allOff {ks : List RegKind} {ps : List Area} (h : State.Only ks ps s t) (hk : ∀ k ∈ wakeKinds, k ∉ ks) (hs : s.AllOff) :
    t.AllOff := fun r hr => by
  rw [State.region_eq_place, h.words _ (hk _ (regionPlace_register r).1), ← State.region_eq_place]
  exact hs r hr

end

/-! ### What a reset of the module leaves -/

section
variable {s t u : State} {ks : List RegKind} {ps : List Area}

/-- A register whose entries are dropped reads its default. -/
theorem Tbl.get_filter_dropped {α : Type} (d : α) (t : Tbl α) {p : Nat × α → Bool} {k : Nat} (hp : ∀ v, p (k, v) = false) :
    Tbl.get d (t.filter p) k = d := by
  induction t with
  | nil => rfl
  | cons e t ih =>
    obtain ⟨k', v⟩ := e
    rw [List.filter_cons]
    split
    next hkeep =>
      have hk : k ≠ k' := fun h => by rw [← h, hp v] at hkeep; cases hkeep
      simpa [Tbl.get, hk] using ih
    next => exact ih

/-- Of the registers, those of the Sill alone are kept, and those of the store while it writes (R34, R132). -/
theorem State.wiped_word (s : State) {k : RegKind} (hk : k ∉ sillKinds ++ storeKinds) (i : Nat) : s.wiped.word k i = k.reset i := by
  refine Tbl.get_filter_dropped _ s.regs fun v => ?_
  rw [List.any_eq_false]
  intro x hx
  have hmem : x ∈ sillKinds ++ storeKinds := by
    rcases List.mem_append.mp hx with h | h
    · exact List.mem_append_left _ h
    · split at h
      · exact List.mem_append_right _ h
      · cases h
  simp only [RegKind.key_code, beq_iff_eq]
  exact fun e => hk (RegKind.code_inj e ▸ hmem)

/-- The reset leaves DEVTIME, the fuse shadows and the store. -/
theorem State.wiped_moduleReset (s : State) : ModuleReset s s.wiped where
  devtime := rfl
  fuses := rfl
  store := rfl
  counters := rfl
  config := rfl
  words _ hk := s.wiped_word fun h => hk ((by decide : sillKinds ++ storeKinds ⊆ _) h)

/-- A write in progress in the store goes on through a reset (R132). -/
theorem State.wiped_job (s : State) : s.wiped.rss.job = s.rss.job := rfl

/-- What changes neither DEVTIME nor the fuse shadows nor the store may come before a reset of the module. -/
theorem ModuleReset.after (hr : ModuleReset t u) (h : State.Only ks ps s t) (hdev : .devtime ∉ ps) (hfuse : .fuses ∉ ps)
    (hstore : .store ∉ ps) : ModuleReset s u :=
  { hr with
    devtime := hr.devtime.trans (h.areas _ hdev).1
    fuses := hr.fuses.trans (h.areas _ hfuse)
    store := hr.store.trans (h.areas _ hstore).1 }

theorem ModuleReset.withPhase (h : ModuleReset s t) (p : Phase) : ModuleReset s { t with phase := p } := { h with }

/-- Without a standby request a reset leads to the boot scan, or waits for MOD_RESET_N (R106). -/
theorem State.restart_eq (h : s.pins.standby = false) :
    s.restart = { s.wiped with phase := if s.pins.modReset then .heldReset else .scanning } := by
  have hw : s.wiped.pins.standby = false := h
  simp only [State.restart, hw]
  rfl

theorem State.restart_moduleReset (h : s.pins.standby = false) : ModuleReset s s.restart := by
  rw [State.restart_eq h]
  exact s.wiped_moduleReset.withPhase _

/-! ### MOD_RESET_N and the standby request (R34, R71) -/

theorem State.modPins_only (s : State) (g : PinDyn → PinDyn) : State.Only [] [.pins] s (s.modPins g) :=
  (State.modPins_within (.refl _ s) g (by decide +kernel)).only

/-- Registers and areas that the rollback of the open transactions changes. -/
def rollBackKinds : List RegKind := [.TXN_STATUS, .TXN_STAGED, .FUNC_STATE] ++ channelKinds
def rollBackAreas : List Area := [.cfg, .txns, .commits] ++ channelAreas

theorem State.rollBackAll_only (s : State) (result : Nat) : State.Only rollBackKinds rollBackAreas s (s.rollBackAll result) :=
  (State.rollBackAll_within (.refl _ s) result (by decide +kernel)).only

/-- While the module is up, MOD_RESET_N that is recognised low samples the slot identity, rolls the open transactions back and resets the
module. -/
theorem State.holdReset_up (h : s.isUp = true) (slot : Nat) :
    s.holdReset slot = ((s.modPins (fun d => { d with modReset := true, slotId := slot })).rollBackAll 6).restart := by
  have hp : s.phase = .up := of_decide_eq_true h
  simp only [State.holdReset, State.modPins, hp]

/-- The module is held in reset, with its slot identity sampled (R34, R69). -/
structure ResetHeld (s : State) (slot : Nat) (t : State) : Prop where
  phase : t.phase = .heldReset
  slot : t.pins.slotId = slot
  reset : ModuleReset s t

theorem State.holdReset_held (hup : s.isUp = true) (hs : s.pins.standby = false) (slot : Nat) : ResetHeld s slot (s.holdReset slot) := by
  rw [State.holdReset_up hup]
  generalize hu : s.modPins (fun d => { d with modReset := true, slotId := slot }) = u
  have honly : State.Only [] [.pins] s u := hu ▸ s.modPins_only _
  have hpins : (u.rollBackAll 6).pins = { s.pins with modReset := true, slotId := slot } :=
    ((u.rollBackAll_only 6).areas .pins (by decide)).trans (hu ▸ rfl)
  have hfree : (u.rollBackAll 6).pins.standby = false := by rw [hpins]; exact hs
  have hreset := (State.restart_moduleReset hfree).after (u.rollBackAll_only 6) (by decide) (by decide) (by decide)
  refine ⟨?_, ?_, hreset.after honly (by decide) (by decide) (by decide)⟩
  · rw [State.restart_eq hfree, hpins]
    rfl
  · rw [State.restart_eq hfree]
    show (u.rollBackAll 6).pins.slotId = slot
    rw [hpins]

/-- Between 2 us and 10 us the filter's choice is free: the module is held in reset, or stays up. -/
theorem State.modResetLow_between (hup : s.isUp = true) (hs : s.pins.standby = false) {n : Nat} (h2 : 2000 ≤ n) (h10 : n < 10000) (slot : Nat) :
    (s.modResetLow n slot).phase = .heldReset ∨ (s.modResetLow n slot).phase = .up := by
  unfold State.modResetLow
  rw [if_neg (by omega), if_neg (by omega)]
  dsimp only
  split
  · exact .inl (State.holdReset_held (s := s.freeWord.2) hup hs slot).phase
  · exact .inr (of_decide_eq_true hup)

/-- MOD_RESET_N that goes high starts the boot scan. -/
theorem State.releaseModReset_held (h : s.phase = .heldReset) (hs : s.pins.standby = false) :
    s.releaseModReset = { s.modPins (fun d => { d with modReset := false }) with phase := .scanning } := by
  simp [State.releaseModReset, State.modPins, h, hs]

theorem State.releaseModReset_only (s : State) : State.Only [] [.phase, .pins] s s.releaseModReset :=
  (State.releaseModReset_within (.refl _ s) (by decide +kernel)).only

theorem State.leaveStandby_standby (h : s.phase = .standby) : s.leaveStandby = (s.modPins (fun d => { d with standby := false })).restart := by
  simp only [State.leaveStandby, State.modPins, h]

/-! ### An end of operation (R99, R132) -/

/-- The parts of the store and the wear budget are all that the RSS controller holds. -/
theorem State.Only.rss (h : State.Only ks ps s t) (hstore : .store ∉ ps) (hwear : .wear ∉ ps) : t.rss = s.rss := by
  obtain ⟨hbytes, hjob, hdue, hnext⟩ := h.areas _ hstore
  have hw : t.rss.wear = s.rss.wear := h.areas _ hwear
  calc t.rss = ⟨t.rss.bytes, t.rss.job, t.rss.compactDue, t.rss.wear, t.rss.directNext⟩ := rfl
    _ = ⟨s.rss.bytes, s.rss.job, s.rss.compactDue, s.rss.wear, s.rss.directNext⟩ := by rw [hbytes, hjob, hdue, hw, hnext]

/-- Traffic as it stops: transactions are rolled back, Joist lanes and host links are down (R99, R126). -/
def State.linksStopped (s : State) (result : Nat) : State :=
  ((s.rollBackAll result).each (List.range 96) (fun s p => s.put JP_STATUS.link_state p (if s.on JP_CTRL.enable p then 1 else 0))).each
    (List.range 4) (fun s h => (s.setWord .HP_LINK_STATUS h 0).put HP_LINK_STATUS.pm_state h 3)

theorem State.linksStopped_only (s : State) (result : Nat) :
    State.Only (.JP_STATUS :: rollBackKinds) rollBackAreas s (s.linksStopped result) := by
  have hroll := State.rollBackAll_within (.refl (listMask (.JP_STATUS :: rollBackKinds) rollBackAreas) s) result (by decide +kernel)
  have hlanes := hroll.each (List.range 96) (g := fun s p => s.put JP_STATUS.link_state p (if s.on JP_CTRL.enable p then 1 else 0))
    fun _ _ k => State.put_within k _ _ _ (by decide +kernel)
  exact (hlanes.each (List.range 4) fun _ _ k =>
    State.put_within (State.setWord_within k _ _ _ (by decide +kernel)) _ _ _ (by decide +kernel)).only

/-- Stopping traffic leaves the store and a write in progress in it. -/
theorem State.stopTraffic_rss (s : State) (result : Nat) : (s.stopTraffic result).rss = s.rss := by
  have h : (s.stopTraffic result).rss = (s.linksStopped result).rss := by
    rw [State.stopTraffic, State.linksStopped]
  exact h.trans ((s.linksStopped_only result).rss (by decide) (by decide))

/-- Registers of a capture, which is lost as traffic stops (R465). -/
def captureKinds : List RegKind := [.SCRIBE_STATUS, .SCRIBE_SEQ, .SCRIBE_TIME, .SCRIBE_INFO]

/-- Stopping traffic leaves the registers of other subsystems. -/
theorem State.stopTraffic_word (s : State) (result : Nat) {k : RegKind} (hk : k ∉ captureKinds ++ .JP_STATUS :: rollBackKinds) (i : Nat) :
    (s.stopTraffic result).word k i = s.word k i := by
  have h : (s.stopTraffic result).word k i = (s.linksStopped result).word k i := by
    simp only [State.word, State.stopTraffic, State.linksStopped]
    refine Tbl.get_filter _ _ fun v => ?_
    rw [Bool.not_eq_true', List.any_eq_false]
    intro x hx
    simp only [RegKind.key_code, beq_iff_eq]
    exact fun e => hk (List.mem_append_left _ (RegKind.code_inj e ▸ hx))
  refine Eq.trans h ((s.linksStopped_only result).words k (fun h => hk (List.mem_append_right _ h)) i)

theorem State.rssBusy_eq (h : t.rss = s.rss) : t.rssBusy = s.rssBusy := by
  rw [State.rssBusy, State.rssBusy, h]

/-- With the store free, an end is reached at once. -/
theorem State.beginEnding_free (h : s.rssBusy = false) (e : Ending) : s.beginEnding e = (s.stopTraffic 8).endNow e := by
  simp only [State.beginEnding, State.rssBusy_eq (s.stopTraffic_rss 8), h, Bool.false_eq_true, if_false]

/-- While the store writes, an end waits for it (R132). -/
theorem State.beginEnding_busy (h : s.rssBusy = true) (e : Ending) : s.beginEnding e = { s.stopTraffic 8 with phase := .ending e } := by
  simp only [State.beginEnding, State.rssBusy_eq (s.stopTraffic_rss 8), h, if_true]

theorem State.tearActivate_only (s : State) : State.Only [] [.ridge] s s.tearActivate :=
  (State.tearActivate_within (.refl _ s) (by decide +kernel)).only

theorem State.tearActivate_rss (s : State) : s.tearActivate.rss = s.rss := s.tearActivate_only.rss (by decide) (by decide)

theorem State.loseMains_up (h : s.isUp = true) : s.loseMains = s.tearActivate.beginEnding .mainsOff := by
  have hp : s.tearActivate.phase = .up := (s.tearActivate_only.areas .phase (by decide)).trans (of_decide_eq_true h)
  simp only [State.loseMains, hp]

theorem State.enterStandby_up (h : s.isUp = true) :
    s.enterStandby = (s.modPins (fun d =>
      { d with standby := true, dieHot := d.dieHot && (s.phase == .awaitPermit || s.phase == .standby) })).beginEnding .standby := by
  have hp : s.phase = .up := of_decide_eq_true h
  simp only [State.enterStandby, State.modPins, hp]

/-- In standby every region but the Sill is off. -/
theorem State.endNow_standby (s : State) : (s.endNow .standby).phase = .standby ∧ (s.endNow .standby).AllOff :=
  ⟨rfl, s.turnAllOff_allOff.ended .standby s.turnAllOff.pins⟩

theorem State.enterStandby_off (hup : s.isUp = true) (h : s.rssBusy = false) : s.enterStandby.phase = .standby ∧ s.enterStandby.AllOff := by
  rw [State.enterStandby_up hup]
  generalize hu : s.modPins _ = u
  have hb : u.rssBusy = false := hu ▸ h
  rw [State.beginEnding_free hb]
  exact (u.stopTraffic 8).endNow_standby

/-! ### The report of a thermal shutdown (R104, R393, R395) -/

/-- A reported code has its detail bit set. -/
theorem State.setDetail_bit (s : State) {n c : Nat} (hn : n < 14) (hc : c < 64) (severe : Bool) :
    ((s.setDetail n c severe).word .FAULT_DETAIL n).getLsbD c = true := by
  have hset : ((s.put FAULT_DETAIL.code n ((s.word .FAULT_DETAIL n ||| maskBits c 1).toNat)).word .FAULT_DETAIL n).getLsbD c = true := by
    refine (congrArg (·.getLsbD c) (State.setWord_word_self (k := .FAULT_DETAIL) hn _)).trans ?_
    rw [getLsbD_setBits, if_pos ⟨Nat.zero_le _, hc⟩]
    simp [FAULT_DETAIL.code, BitVec.testBit_toNat, getLsbD_maskBits, hc]
  unfold State.setDetail
  split
  · exact (congrArg (·.getLsbD c) (State.setWord_word_kind (k := .FAULT_SEV) (k' := .FAULT_DETAIL) (by decide) ..)).trans hset
  · exact hset

/-- An event whose domain has no recovery sequence, and which is no failure of Ridge, is recorded and reported once its detail bit is set. -/
theorem State.heavy_plain {n c kind inst : Nat} (hd : domainIndex kind inst = none) (hr : ridgeCode n c = false) (s : State) (halted : List Nat)
    (locator check : Word) (severe : Bool) :
    s.heavy n c kind inst halted locator check severe =
      ((s.setDetail n c severe).addHist n c (if severe then 3 else 2) kind inst false locator check).2.reportAer n c kind inst halted severe := by
  simp only [State.heavy, hd, hr, Bool.false_and, Bool.false_eq_true, if_false]

/-- The detail bit of such an event stays set. -/
theorem State.heavy_bit {n c kind inst : Nat} (hn : n < 14) (hc : c < 64) (hd : domainIndex kind inst = none) (hr : ridgeCode n c = false)
    (s : State) (halted : List Nat) (locator check : Word) (severe : Bool) :
    ((s.heavy n c kind inst halted locator check severe).word .FAULT_DETAIL n).getLsbD c = true := by
  have hkeep : State.Only [.BRACE_HIST, .BRACE_HIST_PTR] [.cfg, .sent] (s.setDetail n c severe)
      (s.heavy n c kind inst halted locator check severe) := by
    rw [State.heavy_plain hd hr]
    exact (State.reportAer_within (State.addHist_within (.refl _ _) _ _ _ _ _ _ _ _ (by decide +kernel)) _ _ _ _ _ _ (by decide +kernel)).only
  rw [hkeep.words _ (by decide)]
  exact s.setDetail_bit hn hc severe

/-- A fault of the whole module sets its detail bit. -/
theorem State.report_fault_bit {n c inst : Nat} (hn : n < 14) (hc : c < 64) (hcls : codeClass n c = some .fault)
    (hd : domainIndex (domainKind n c inst) inst = none) (hr : ridgeCode n c = false) (s : State) (locator check : Word) (halted : List Nat) :
    ((s.report n c inst locator check halted).word .FAULT_DETAIL n).getLsbD c = true := by
  simp only [State.report, State.reportIn, hcls]
  exact State.heavy_bit hn hc hd hr ..

/-- What a reported fault changes beside what it wakes. -/
theorem State.report_only (s : State) (n c inst : Nat) (locator check : Word) (halted : List Nat) :
    State.Only (reportKinds ++ wakeKinds) [.ctrs, .cfg, .timers, .brace, .plumb, .waking, .sent] s (s.report n c inst locator check halted) :=
  (State.report_within (.refl _ s) n c inst locator check halted (by decide +kernel)).only

/-! ### Thermal shutdown and hard trip (R104, R105, R133) -/

/-- The Sill-only state after a thermal shutdown. -/
theorem State.shutNow_off (s : State) : s.shutNow.phase = .shutdown ∧ s.shutNow.AllOff :=
  ⟨rfl, (s.stopTraffic 8).turnAllOff_allOff.ended .shutdown { s.pins with shutdownPending := false }⟩

theorem State.shutNow_word (s : State) {k : RegKind} (hk : k ∉ wakeKinds ++ captureKinds ++ .JP_STATUS :: rollBackKinds) (i : Nat) :
    s.shutNow.word k i = s.word k i := by
  rw [State.shutNow, State.word_ended]
  exact ((s.stopTraffic 8).turnAllOff_only.words k (fun h => hk (by simp [h])) i).trans
      (s.stopTraffic_word 8 (fun h => hk (by rw [List.append_assoc]; exact List.mem_append_right _ h)) i)

/-- With the store free, a shutdown is reported and proceeds at once. -/
theorem State.askShutdown_free (hup : s.isUp = true) (h : s.rssBusy = false) :
    s.askShutdown = (s.report 12 1 0 s.hottestC).shutNow := by
  have hp : s.phase = .up := of_decide_eq_true hup
  have hb : (s.report 12 1 0 s.hottestC).rssBusy = false :=
    (State.rssBusy_eq ((s.report_only 12 1 0 s.hottestC 0 []).rss (by decide) (by decide))).trans h
  simp only [State.askShutdown, hp, hb, Bool.false_eq_true, if_false]

/-- The module as a shutdown that waits for the store leaves it: transactions are rolled back, and the clocks stop (R133). -/
def State.clocksStopped (s : State) : State :=
  ((s.rollBackAll 8).modPins (fun d => { d with shutdownPending := true })).each offOrder
    (fun s r => if s.region r = 0 then s.setRegion r 1 else s)

/-- While the store writes, a shutdown is deferred. -/
theorem State.askShutdown_busy (hup : s.isUp = true) (h : s.rssBusy = true) :
    s.askShutdown = { (s.report 12 1 0 s.hottestC).clocksStopped.arm .deferral 6000000 with phase := .deferring } := by
  have hp : s.phase = .up := of_decide_eq_true hup
  have hb : (s.report 12 1 0 s.hottestC).rssBusy = true :=
    (State.rssBusy_eq ((s.report_only 12 1 0 s.hottestC 0 []).rss (by decide) (by decide))).trans h
  simp only [State.askShutdown, hp, hb, if_true, State.clocksStopped]

/-- Clocks stop at once, with the request pending. -/
theorem State.clocksStopped_pending (s : State) : s.clocksStopped.clock = s.clock ∧ s.clocksStopped.pins.shutdownPending = true := by
  generalize hu : (s.rollBackAll 8).modPins (fun d => { d with shutdownPending := true }) = u
  have hstop : State.Only wakeKinds [] u s.clocksStopped := by
    rw [State.clocksStopped, hu]
    exact (State.Within.each (.refl _ u) offOrder fun _ r k => .ite (State.setRegion_within k r 1 (by decide +kernel)) k).only
  have hclock : s.clocksStopped.clock = u.clock := hstop.areas .clock (by decide)
  have hpins : s.clocksStopped.pins = u.pins := hstop.areas .pins (by decide)
  subst hu
  exact ⟨hclock.trans ((s.rollBackAll_only 8).areas .clock (by decide)), by rw [hpins]; rfl⟩

/-- A write that is torn is over. -/
theorem State.tearWrite_job (s : State) : s.tearWrite.rss.job = none := by
  unfold State.tearWrite
  split
  next h => exact h
  next => simp [State.endJob]
  next => simp [State.endJob]

theorem State.tearWrite_only (s : State) : State.Only [.RSS_STATUS] [.store, .wear] s s.tearWrite :=
  (State.tearWrite_within (.refl _ s) (by decide +kernel)).only

/-- The module after the hard trip: latched, all off, with DEVTIME and the fuse shadows as they were and no write in progress. -/
structure Tripped (s t : State) : Prop where
  phase : t.phase = .tripped
  latch : t.pins.tripLatch = true
  off : t.AllOff
  devtime : t.devtime = s.devtime
  fuses : t.fuses = s.fuses
  job : t.rss.job = none

theorem State.trip_powered (h : s.powered = true) : s.trip =
    { s.tearWrite.wiped.turnAllOff with phase := .tripped, pins := { s.tearWrite.wiped.pins with tripLatch := true } } :=
  if_pos h

theorem State.trip_tripped (h : s.powered = true) : Tripped s s.trip := by
  rw [State.trip_powered h]
  have htear := s.tearWrite_only
  have hreset := s.tearWrite.wiped_moduleReset
  have hkeep := s.tearWrite.wiped.turnAllOff_only
  have hoff := s.tearWrite.wiped.turnAllOff_allOff
  have hdev : s.tearWrite.wiped.turnAllOff.devtime = s.devtime := by
    rw [(hkeep.areas .devtime (by decide)).1, hreset.devtime, (htear.areas .devtime (by decide)).1]
  have hfuses : s.tearWrite.wiped.turnAllOff.fuses = s.fuses := by
    rw [hkeep.areas .fuses (by decide), hreset.fuses, htear.areas .fuses (by decide)]
  have hjob : s.tearWrite.wiped.turnAllOff.rss.job = none := by
    rw [(hkeep.areas .store (by decide)).2.1, State.wiped_job, State.tearWrite_job]
  generalize s.tearWrite.wiped.turnAllOff = w at hoff hdev hfuses hjob ⊢
  exact ⟨rfl, rfl, hoff.ended _ _, hdev, hfuses, hjob⟩

/-- An expiry that takes place lets time pass until its timer is due, and then runs the operation. -/
theorem State.onExpiry_fires {tm : Timer} (h : s.fires tm = true) (g : State → State) : s.onExpiry tm g = g (s.expire tm) :=
  if_pos h

/-- After 6 ms the write is torn and the shutdown proceeds. -/
theorem State.deferralOver_off (hp : s.phase = .deferring) (h : s.fires .deferral = true) :
    s.deferralOver.phase = .shutdown ∧ s.deferralOver.AllOff ∧ s.deferralOver.rss.job = none := by
  rw [State.deferralOver, if_pos hp, State.onExpiry_fires h]
  generalize s.expire .deferral = u
  obtain ⟨hphase, hoff⟩ := State.shutNow_off ((u.disarm .deferral).report 12 2 0 u.hottestC (BitVec.ofNat 64 6000000))
  have htear := (u.endDeferral 6000000).tearWrite_only
  exact ⟨(htear.areas .phase (by decide)).trans hphase, htear.allOff (by decide) hoff, State.tearWrite_job _⟩

end

/-- Settles O29: one lemma on each end, for the store free and the store writing. -/
theorem powerEnds : Obligations.PowerEnds := by
  unfold Obligations.PowerEnds
  intro s lowNs slotId
  have hreset (h : 10000 ≤ lowNs) : s.modResetLow lowNs slotId = s.holdReset slotId := if_pos h
  have hlow (h : 100000 ≤ lowNs) : s.standbyLow lowNs = s.enterStandby := if_pos h
  have hhigh (h : 100000 ≤ lowNs) : s.standbyHigh lowNs = s.leaveStandby := if_pos h
  refine ⟨fun hup hfree => ⟨_, rfl, ?mainsFree⟩, fun hup hbusy => ⟨_, rfl, ?mainsBusy⟩,
    fun hup hs => ⟨fun hlong => ⟨_, rfl, ?reset⟩, fun h2 h10 => ⟨_, rfl, State.modResetLow_between hup hs h2 h10 slotId⟩⟩,
    fun hshort => ⟨_, rfl, ?short⟩, fun hp hs => ⟨_, rfl, ?release⟩, fun hup hfree hlong => ⟨_, rfl, ?standby⟩,
    fun hp hlong => ⟨_, rfl, ?leave⟩, fun hp => ⟨_, rfl, ?trip⟩, fun hup hfree => ⟨_, rfl, ?shutFree⟩,
    fun hup hbusy => ⟨_, rfl, ?shutBusy⟩,
    fun hp hf => ⟨_, rfl, State.deferralOver_off hp hf⟩⟩
  case mainsFree =>
    rw [State.loseMains_up hup, State.beginEnding_free ((State.rssBusy_eq s.tearActivate_rss).trans hfree)]
    refine ⟨rfl, rfl, rfl, rfl, ?_⟩
    show (s.tearActivate.stopTraffic 8).rss.bytes = _
    rw [State.stopTraffic_rss, State.tearActivate_rss]
  case mainsBusy =>
    rw [State.loseMains_up hup, State.beginEnding_busy ((State.rssBusy_eq s.tearActivate_rss).trans hbusy)]
    refine ⟨rfl, ?_⟩
    show (s.tearActivate.stopTraffic 8).rss.job = _
    rw [State.stopTraffic_rss, State.tearActivate_rss]
  case reset =>
    rw [hreset hlong]
    obtain ⟨phase, slot, reset⟩ := State.holdReset_held hup hs slotId
    exact ⟨phase, slot, reset⟩
  case short =>
    rw [State.modResetLow, if_neg (by omega), if_pos hshort]
  case release =>
    have heq := State.releaseModReset_held hp hs
    exact ⟨by rw [heq], by rw [heq]; rfl, s.releaseModReset_only⟩
  case standby =>
    rw [hlow hlong]
    exact State.enterStandby_off hup hfree
  case leave =>
    rw [hhigh hlong, State.leaveStandby_standby hp]
    exact ⟨by rw [State.restart_eq rfl]; rfl,
      (State.restart_moduleReset rfl).after (s.modPins_only _) (by decide) (by decide) (by decide)⟩
  case trip =>
    obtain ⟨phase, latch, off, devtime, fuses, job⟩ := State.trip_tripped hp
    exact ⟨phase, latch, off, devtime, fuses, job⟩
  case shutFree =>
    rw [State.askShutdown_free hup hfree]
    obtain ⟨hphase, hoff⟩ := State.shutNow_off (s.report 12 1 0 s.hottestC)
    refine ⟨hphase, hoff, ?_⟩
    rw [State.shutNow_word _ (by decide)]
    exact State.report_fault_bit (by decide) (by decide) rfl rfl rfl ..
  case shutBusy =>
    rw [State.askShutdown_busy hup hbusy]
    obtain ⟨hclock, hpending⟩ := State.clocksStopped_pending (s.report 12 1 0 s.hottestC)
    refine ⟨rfl, hpending, (State.arm_due_self ..).trans ?_⟩
    rw [hclock, (s.report_only 12 1 0 s.hottestC 0 []).areas .clock (by decide)]

end Sys2Proof.Machine
end

/-! Reset values: what a register at its reset word reads field by field, and the state that mains power-up starts from. -/

section
namespace Sys2Proof.Machine

/-! ### Fields of a register at its reset value -/

/-- Two fields share no bit. -/
def Fld.apart (F G : Fld) : Prop := F.lo + F.len ≤ G.lo ∨ G.lo + G.len ≤ F.lo

/-- Loading fields apart from the bits of a field leaves them. -/
theorem getBits_foldl_setBits_apart {F : Fld} {fs : List Fld} (h : ∀ G ∈ fs, F.apart G) (i : Nat) (w : Word) :
    getBits (fs.foldl (fun w f => setBits w f.lo f.len (f.reset i)) w) F.lo F.len = getBits w F.lo F.len := by
  induction fs generalizing w with
  | nil => rfl
  | cons G fs ih =>
    rw [List.foldl_cons, ih (fun x hx => h x (List.mem_cons_of_mem _ hx))]
    exact getBits_setBits_other (h G List.mem_cons_self)

/-- Where fields that share no bit are loaded in turn, each holds its own value. -/
theorem getBits_foldl_setBits {F : Fld} {fs : List Fld} (hF : F ∈ fs) (h : fs.Pairwise Fld.apart) (h64 : F.lo + F.len ≤ 64) (i : Nat)
    (w : Word) : getBits (fs.foldl (fun w f => setBits w f.lo f.len (f.reset i)) w) F.lo F.len = F.reset i % 2 ^ F.len := by
  induction fs generalizing w with
  | nil => cases hF
  | cons G fs ih =>
    obtain ⟨hG, hfs⟩ := List.pairwise_cons.mp h
    rw [List.foldl_cons]
    rcases List.mem_cons.mp hF with rfl | hF
    · rw [getBits_foldl_setBits_apart hG, getBits_setBits_self h64]
    · exact ih hF hfs _

/-- The catalogue: the fields of a register lie within its word and share no bit. -/
theorem RegKind.flds_apart (k : RegKind) : k.flds.Pairwise Fld.apart ∧ ∀ F ∈ k.flds, F.lo + F.len ≤ 64 := by
  unfold Fld.apart
  cases k <;> decide

/-- A register at its reset value holds the reset value of each of its fields. -/
theorem Fld.getBits_reset {F : Fld} (hF : F ∈ F.reg.flds) (i : Nat) : getBits (F.reg.reset i) F.lo F.len = F.reset i % 2 ^ F.len :=
  getBits_foldl_setBits hF F.reg.flds_apart.1 (F.reg.flds_apart.2 F hF) i 0

/-! ### The module at reset -/

/-- Registers that the fuses fill at mains power-up (R108 to R110). -/
def fuseKinds : List RegKind := [.FUSE_STATUS, .FUSE_SERIAL0, .FUSE_SERIAL1, .FUSE_MARGINAL]

/-- Every register but those that the fuses fill is at its reset value, every counter is 0, and no queue, port or engine has anything in
progress. -/
structure State.AtReset (t : State) : Prop where
  words : ∀ k, k ∉ fuseKinds → ∀ i, t.word k i = k.reset i
  ctrs : t.ctrs = []
  devtime : t.devtime = 0
  queues : t.queues = []
  ports : t.ports = []
  lanes : t.lanes = []
  engines : t.engines = []
  txns : t.txns = []
  commits : t.commits = []

section
variable {s t : State}

/-- With no register listed, each is at its reset value. -/
theorem State.word_of_no_regs (h : s.regs = []) (k : RegKind) (i : Nat) : s.word k i = k.reset i := by
  rw [State.word, h]
  rfl

theorem State.AtReset.get (h : t.AtReset) {F : Fld} (hF : F ∈ F.reg.flds) (hk : F.reg ∉ fuseKinds) (i : Nat) :
    t.get F i = F.reset i % 2 ^ F.len := by
  rw [State.get, h.words _ hk, F.getBits_reset hF]

/-- A field of the catalogue holds its reset value. -/
theorem State.AtReset.reads (h : t.AtReset) {F : Fld} {i n : Nat} (hn : F.reset i % 2 ^ F.len = n)
    (hF : F ∈ F.reg.flds := by repeat constructor) (hk : F.reg ∉ fuseKinds := by decide) : t.get F i = n :=
  (h.get hF hk i).trans hn

theorem State.AtReset.ctr (h : t.AtReset) (o : Nat) : t.ctr o = 0 := by
  rw [State.ctr, h.ctrs]
  rfl

/-- Before power the module is at reset. -/
theorem State.reset_atReset : State.reset.AtReset :=
  ⟨fun k _ => State.word_of_no_regs rfl k, rfl, rfl, rfl, rfl, rfl, rfl, rfl, rfl⟩

/-- What is left without power, and with nothing at the Joist pins, is at reset. -/
theorem State.dark_atReset (h : s.ports = []) : s.dark.AtReset where
  words k _ := State.word_of_no_regs rfl k
  ctrs := rfl
  devtime := rfl
  queues := rfl
  ports := by
    show s.ports.foldl _ [] = []
    rw [h]
    rfl
  lanes := rfl
  engines := rfl
  txns := rfl
  commits := rfl

theorem State.readFuses_only (s : State) (fs : List FuseRead) (temp : Nat) :
    State.Only fuseKinds [.fuses, .freeCtr] s (s.readFuses fs temp) :=
  (State.readFuses_within (.refl _ s) fs temp (by decide +kernel)).only

/-- The Sill loads the fuses, and nothing else of the module changes. -/
theorem State.AtReset.readFuses (h : s.AtReset) (fs : List FuseRead) (temp : Nat) : (s.readFuses fs temp).AtReset := by
  obtain ⟨words, areas⟩ := s.readFuses_only fs temp
  have hdev : (s.readFuses fs temp).devtime = s.devtime := (areas .devtime (by decide)).1
  exact ⟨fun k hk i => (words k hk i).trans (h.words k hk i), (areas .ctrs (by decide)).trans h.ctrs, hdev.trans h.devtime,
    (areas .queues (by decide)).trans h.queues, (areas .ports (by decide)).trans h.ports, (areas .lanes (by decide)).trans h.lanes,
    (areas .engines (by decide)).trans h.engines, (areas .txns (by decide)).trans h.txns,
    (areas .commits (by decide)).trans h.commits⟩

theorem State.AtReset.withPhase (h : s.AtReset) (p : Phase) : State.AtReset { s with phase := p } := { h with }

theorem State.AtReset.modPins (h : s.AtReset) (g : PinDyn → PinDyn) : (s.modPins g).AtReset := { h with }

/-- Mains power-up without a standby request leads to the module at reset, whose boot scan or MOD_RESET_N comes next (R106). -/
theorem State.powerUp_atReset (hoff : s.phase = .off) (hports : s.ports = []) (hstandby : s.pins.standby = false) (fs : List FuseRead)
    (temp slot : Nat) : (s.powerUp fs temp slot).AtReset := by
  unfold State.powerUp
  rw [if_pos hoff]
  extract_lets dark fused
  have hpins : fused.pins = dark.pins := (dark.readFuses_only fs temp).areas .pins (by decide)
  have hreq : fused.pins.standby = false := hpins ▸ hstandby
  rw [hreq]
  exact (((State.dark_atReset hports).modPins _).readFuses fs temp).withPhase _

end

/-- Settles O58: before power and after mains power-up the module is at reset, where each field named holds its reset value. -/
theorem resetValues : Obligations.ResetValues := by
  unfold Obligations.ResetValues
  intro fresh
  have hfresh (t : State) (h : t.AtReset) : fresh t := by
    refine ⟨h.words, h.ctr, h.devtime, h.queues, h.ports, h.lanes, h.engines, h.txns, h.commits, ?_⟩
    have hlimit (f : FnId) : (if f.val < 4 then 34 else 28) % 2 ^ 6 = if f.val < 4 then 34 else 28 := by split <;> rfl
    have hgroup (q : QId) : q.val % 6 % 2 ^ 3 = q.val % 6 := by omega
    have hbase (p : PortId) : p.val * 2 ^ 28 % 2 ^ 36 = p.val * 2 ^ 28 := by omega
    refine ⟨h.reads rfl, h.reads rfl, h.reads rfl, h.reads rfl, h.reads rfl, h.reads rfl, h.reads rfl, h.reads rfl, h.reads rfl,
      h.reads rfl, fun _ => ?txn, fun _ => ?host, fun f => ?func, fun q => ?queue, fun p => ?port, fun _ => ?bay, fun _ => ?peg⟩
    case func => exact ⟨h.reads (hlimit f), h.reads rfl⟩
    case queue => exact ⟨h.reads (hgroup q), h.reads rfl, h.reads rfl, h.reads rfl, h.reads rfl⟩
    case port =>
      exact ⟨h.reads (hbase p), h.reads rfl, h.reads rfl, h.reads rfl, h.reads rfl, h.reads rfl, h.reads rfl, h.reads rfl, h.reads rfl,
        h.reads rfl, h.reads rfl⟩
    case txn | bay => exact ⟨h.reads rfl, h.reads rfl⟩
    case peg => exact ⟨h.reads rfl, h.reads rfl, h.reads rfl⟩
    case host =>
      exact ⟨h.reads rfl, h.reads rfl, h.reads rfl, h.reads rfl, h.reads rfl, h.reads rfl, h.reads rfl, h.reads rfl⟩
  refine ⟨hfresh _ State.reset_atReset, rfl, rfl, fun s fuses temp slot hoff hwf hports hstandby => ⟨_, rfl, ?_⟩⟩
  rw [hwf]
  exact hfresh _ (State.powerUp_atReset hoff hports hstandby fuses temp.toNat slot)

end Sys2Proof.Machine
end

/-! The MCTP control protocol: what Ridge answers while it acknowledges, and that a request to another SMBus address than its own is not
taken. -/

section
namespace Sys2Proof.Machine

section
variable {s : State}

/-- Ridge acknowledges on SMBus while it is out of reset and its firmware runs (R427). -/
theorem State.acks_of_running (hrun : s.ridge.running = true) (hlive : s.ridgeLive = true) : s.acks = true := by
  rw [State.acks, hrun, hlive]
  rfl

/-- While Ridge acknowledges, a control command is answered, and nothing else happens. -/
theorem State.mctpAnswer_acks (h : s.acks = true) (r : MctpRsp) :
    (s.mctpAnswer r).sent = .mctp r :: s.sent ∧ State.Only [] [.sent] s (s.mctpAnswer r) := by
  rw [State.mctpAnswer, if_pos h]
  exact ⟨rfl, (State.emit_within (.refl _ s) _ (by decide +kernel)).only⟩

/-- While Ridge acknowledges, it takes an endpoint ID that is neither the null nor the broadcast ID. -/
theorem State.setEid_acks (h : s.acks = true) {e : Nat} (hnull : e ≠ 0) (hbroadcast : e ≠ 255) :
    s.setEid e = (s.modRidge (fun r => { r with eid := e })).emit (.mctp (.eidSet true e)) := by
  simp [State.setEid, h, hnull, hbroadcast]

/-- Ridge takes no transfer to another address than 0x60 + slot ID (R69). -/
theorem State.smbus_other {a : SmbusAddr} (h : a.toNat ≠ 0x60 + s.pins.slotId % 16) : s.smbus a = false := by
  simp [State.smbus, h]

/-- A command of a caller whom Ridge does not serve changes nothing. -/
theorem State.command_unserved {c : Caller} {op : Nat} (h : s.served? c op = false) (allowed : Bool) (fits : Nat → Bool)
    (run : State → List Byte → Nat × List Byte × State) : s.command c op allowed fits run = s := by
  simp [State.command, h]

/-- An SPDM request on a transport on which the responder takes none changes nothing. -/
theorem State.spdm_unready {x : Transport} (h : s.spdmReady x = false) (least : Nat) (run : State → State) : s.spdm x least run = s := by
  simp [State.spdm, h]

end

/-- Settles O18: each control command by its answer, and the two requests to another address by the address that Ridge acknowledges. -/
theorem mctpControlAnswers : Obligations.MctpControlAnswers := by
  unfold Obligations.MctpControlAnswers
  intro s a
  refine ⟨fun hrun hlive => ?answers, fun hother => ?otherAddress⟩
  case answers =>
    have hacks := State.acks_of_running hrun hlive
    refine ⟨fun e hnull hbroadcast => ⟨_, rfl, ?_⟩, ⟨_, rfl, State.mctpAnswer_acks hacks _⟩, ⟨_, rfl, State.mctpAnswer_acks hacks _⟩,
      ⟨_, rfl, State.mctpAnswer_acks hacks _⟩, ⟨_, rfl, State.mctpAnswer_acks hacks _⟩⟩
    rw [State.setEid_acks hacks hnull hbroadcast]
    exact ⟨rfl, rfl, (State.emit_within (State.modRidge_within (.refl _ s) _ (by decide +kernel)) _ (by decide +kernel)).only⟩
  case otherAddress =>
    have haddr : s.smbus a = false := State.smbus_other hother
    exact ⟨⟨_, rfl, State.command_unserved (c := .mctp a []) haddr _ _ _⟩, ⟨_, rfl, State.spdm_unready (x := .mctp a) haddr _ _⟩⟩

end Sys2Proof.Machine
end

/-! The statement on the start of host ports fails at DEVTIME 0: a stamp of 0 stands for no edge (R156), so that an edge on PPS_IN at that
DEVTIME loads no host time, where the statement asks for the offset of the port's PTM context. -/

section
namespace Sys2Proof.Machine

/-- A module that is up at DEVTIME 0, before any edge on PPS_IN, with a valid PTM context of H0 whose time is 5 ns ahead. -/
def contextAtZero : State :=
  ({ State.reset with phase := .up }.put HP_PTM_STATUS.ctx_valid 0 1).put HP_PTM_OFFSET.offset 0 5

/-- A training offer; a pulse on PPS_IN has none. -/
def plainOffer : LinkOffer :=
  { maxRate := 6, maxWidth := 16, workingLanes := 16, reversed := false, flit := true, refclkOk := true, eqBypass := true, dlFeature := none
    noEq := false, l0p := false, precode := [], presets := [] }

/-- A full pulse stamps H0 with 0, and its host time stays 0. -/
theorem contextAtZero_hostTime : (contextAtZero.ppsEdge 500).get HP_PPS_HOST.host_time 0 = 0 := by decide +kernel

/-- The host time that the statement asks for there is the offset. -/
theorem contextAtZero_asked :
    (if contextAtZero.on HP_PTM_STATUS.ctx_valid 0 then (contextAtZero.devtime + contextAtZero.get HP_PTM_OFFSET.offset 0) % 2 ^ 64 else 0) = 5 := by
  decide +kernel

/-- Refutes O30: a pulse of 500 ns on PPS_IN at DEVTIME 0 leaves the host time of a port with a valid PTM context at 0. -/
theorem not_hostPortsStart : ¬ Obligations.HostPortsStart := by
  unfold Obligations.HostPortsStart
  intro h
  obtain ⟨-, -, -, -, hpulse, -⟩ := h contextAtZero 0 plainOffer 500
  obtain ⟨t, ht, -, hstamps, -⟩ := hpulse (Nat.le_refl 500) nofun
  cases ht
  have hload : (contextAtZero.ppsEdge 500).get HP_PPS_HOST.host_time 0 = 5 := (hstamps 0).2.trans contextAtZero_asked
  rw [contextAtZero_hostTime] at hload
  cases hload

end Sys2Proof.Machine
end

/-! The statement on the states of Joist ports fails where a register access waits for the bay: a PORT_RESET that is written while the bay is
in reset waits on the register ring (R14), goes on as LOCAL_RESET is released and the bay runs, and resets the port anew (R350). -/

section
namespace Sys2Proof.Machine

/-- A module that is up, with bay 0 running, the local device of JP0 present, and Ridge's firmware running. -/
def bayZeroRuns : State :=
  ({ State.reset with phase := .up, ridge := { RidgeDyn.reset with running := true } }.setBayState 0 0).modPort 0 (fun d => { d with present := true })

/-- Ridge has written BAY_RESET, which puts bay 0 and its ports in reset for 100 us, and then PORT_RESET of JP0, which waits for the bay. -/
def resetWaits : State :=
  (bayZeroRuns.writeField .ridge BAY_CTRL.bay_reset 0 1).writeField .ridge JP_CTRL.port_reset 0 1

/-- The release of LOCAL_RESET of JP0 is due, and Brace holds neither the bay nor its recovery. -/
theorem resetWaits_due : resetWaits.fires (.portReset 0) = true ∧ resetWaits.mayServe 100 = true ∧ resetWaits.get BRACE_DSTATE.state 100 ≠ 1 := by
  decide +kernel

/-- As the release takes place the waiting write goes on, and LOCAL_RESET of JP0 is low again. -/
theorem resetWaits_low :
    ((resetWaits.onExpiry (.portReset 0) (fun s => (s.releaseReset 0).regionsRun)).port 0).resetOut = true := by
  decide +kernel

/-- Refutes O48: a PORT_RESET that waited for the bay takes effect as LOCAL_RESET is released, which leaves it low. -/
theorem not_portsChangeState : ¬ Obligations.PortsChangeState := by
  unfold Obligations.PortsChangeState
  intro h
  obtain ⟨-, -, hrelease, -⟩ := h resetWaits 0 .ridge 0 true
  obtain ⟨hfires, hserve, hcalm⟩ := resetWaits_due
  obtain ⟨t, ht, hhigh, -⟩ := hrelease hfires hserve hcalm
  have hlow : (t.port 0).resetOut = true := Host.Outcome.next.inj ht ▸ resetWaits_low
  exact Bool.noConfusion (hlow.symm.trans hhigh)

end Sys2Proof.Machine
end

/-! The statement on latched states fails where a persisted commit is the write that a loss of mains waits for: PERSIST_COMPLETE then ends
the power (R132), and with it the fuse shadows, and the statement lets no command but MAINS_POWER_UP, MAINS_LOSS, STANDBY_RECOGNISED and
RSS_WRITE_COMPLETE change them. -/

section
namespace Sys2Proof.Machine

/-- A module that is up with fuse word 1 loaded, and persists the first commit of context 0: its record is being written. -/
def commitPersists : State :=
  ({ State.reset with phase := .up, fuses := [(1, 5)] }.modRss (fun r => { r with job := some (.record 0 1 []) })).put TXN_STATUS.state 0 3
    |>.modTxn 0 (fun d => { d with seq := 1 })

/-- Mains are lost meanwhile. -/
def mainsLostMeanwhile : State := commitPersists.loseMains

/-- The end of power waits for the write (R76, R132). -/
theorem mainsLostMeanwhile_waits : exec .mainsLoss commitPersists = .next mainsLostMeanwhile ∧ mainsLostMeanwhile.phase = .ending .mainsOff :=
  ⟨rfl, by decide +kernel⟩

theorem mainsLostMeanwhile_loaded : mainsLostMeanwhile.fuses = [(1, 5)] := by decide +kernel

/-- The commit is durable, and power ends: the fuse shadows are gone. -/
theorem mainsLostMeanwhile_persisted : (mainsLostMeanwhile.persisted 0).fuses = [] := by decide +kernel

/-- Refutes O57: after a loss of mains PERSIST_COMPLETE is where power ends, and it clears the fuse shadows. -/
theorem not_latchesHold : ¬ Obligations.LatchesHold := by
  unfold Obligations.LatchesHold
  intro h
  obtain ⟨-, -, -, -, hfuses, -⟩ := h (.persistComplete 0) mainsLostMeanwhile _ rfl
  have hkept : (mainsLostMeanwhile.persisted 0).fuses = mainsLostMeanwhile.fuses := hfuses nofun nofun nofun nofun
  rw [mainsLostMeanwhile_persisted, mainsLostMeanwhile_loaded] at hkept
  cases hkept

end Sys2Proof.Machine
end

/-! What a condition keeps that speaks of little of the state: an operation keeps it whose mask lies beside what the condition reads. -/

section
namespace Sys2Proof.Machine

/-- Mask of every register kind and area but those listed. -/
def besideMask (ks : List RegKind) (ps : List Area) : Nat := (2 ^ 201 - 1) ^^^ listMask ks ps

/-- Steps that each keep a condition keep it together. -/
theorem State.each_keeps {α : Type} (P : State → Prop) {s : State} (h : P s) (xs : List α) {g : State → α → State}
    (hg : ∀ t x, P t → P (g t x)) : P (s.each xs g) :=
  foldl_keeps P g s xs h hg

section
variable {ks : List RegKind} {ps : List Area} {s t : State}

/-- A field of a register of another kind reads as before. -/
theorem State.Only.get (h : State.Only ks ps s t) {F : Fld} (hF : F.reg ∉ ks) (i : Nat) : t.get F i = s.get F i := by
  rw [State.get, h.words _ hF, ← State.get]

/-- The ports of the hosts are as they were where their table is. -/
theorem State.Only.host (h : State.Only ks ps s t) (hh : .hosts ∉ ps) (k : Nat) : t.host k = s.host k :=
  congrArg (Tbl.get HostDyn.reset · k) (h.areas _ hh)

theorem State.put_only (s : State) (F : Fld) (i v : Nat) : State.Only [F.reg] [] s (s.put F i v) := s.setWord_only ..

theorem State.wakeRegion_only (s : State) (r : Nat) : State.Only wakeKinds [.plumb, .waking] s (s.wakeRegion r) :=
  (State.wakeRegion_within (.refl _ s) r (by decide)).only

end

end Sys2Proof.Machine
end

/-! Host link power management: what PME_Turn_Off ends, and how a link enters and leaves L1, its substates and L0p. -/

section
namespace Sys2Proof.Machine

/-! ### A link that is turned off (R142) -/

/-- Host port `h` has taken PME_Turn_Off, no posted write waits there, and its PF's ECRC generation is `e`. -/
structure State.TurnedOff (s : State) (h : Nat) (e : Bool) : Prop where
  off : (s.host h).pmOff = true
  posts : ∀ r ∈ (s.host h).waiting, r.posted = false
  ecrc : s.cfgBit h 0x118 6 = e

section
variable {s t : State} {h : Nat} {e : Bool}

theorem State.TurnedOff.beside (k : s.TurnedOff h e) (w : State.Within (besideMask [] [.hosts, .cfg]) s t) : t.TurnedOff h e := by
  have hhost : t.host h = s.host h := congrArg (Tbl.get HostDyn.reset · h) (w.areas .hosts (by decide))
  have hcfg : t.cfg = s.cfg := w.areas .cfg (by decide)
  exact ⟨hhost ▸ k.off, hhost ▸ k.posts, by rw [State.cfgBit, State.cfgWord, hcfg]; exact k.ecrc⟩

/-- An update of a host port that leaves its PME_Turn_Off and adds no request. -/
theorem State.TurnedOff.modHost (k : s.TurnedOff h e) (j : Nat) {g : HostDyn → HostDyn} (hoff : ∀ d, (g d).pmOff = d.pmOff)
    (hw : ∀ d, ∀ r ∈ (g d).waiting, r ∈ d.waiting) : (s.modHost j g).TurnedOff h e := by
  by_cases hj : h = j
  · subst hj
    exact ⟨by rw [State.modHost_host_self, hoff]; exact k.off,
      fun r hr => k.posts r (hw _ r (by rwa [State.modHost_host_self] at hr)), k.ecrc⟩
  · exact ⟨by rw [State.modHost_host_other _ _ hj]; exact k.off, by rw [State.modHost_host_other _ _ hj]; exact k.posts, k.ecrc⟩

theorem State.TurnedOff.setIde (k : s.TurnedOff h e) (j i : Nat) (x : IdeStream) : (s.setIde j i x).TurnedOff h e :=
  k.modHost j (fun _ => rfl) fun _ _ hr => hr

theorem State.TurnedOff.onStream (k : s.TurnedOff h e) (j : Nat) (st : Option Nat) : (s.onStream j st).TurnedOff h e := by
  unfold State.onStream
  split
  · dsimp only
    split
    · exact (k.setIde j _ _).beside (State.judgeKeys_within (.refl _ _) j (by decide))
    · exact k
  · exact k

/-- Bit 24 of the Status register is none of AER's. -/
theorem State.TurnedOff.noteBad (k : s.TurnedOff h e) (f : Nat) (bad : Bool) : (s.noteBad f bad).TurnedOff h e := by
  unfold State.noteBad
  split
  · have hother (w : Dword) : (s.setCfg f 0x04 w).cfgWord h 0x118 = s.cfgWord h 0x118 :=
      State.setCfg_cfgWord_other s w (by simp only [cfgKey]; omega)
    exact ⟨k.off, k.posts, (congrArg (·.getLsbD 6) (hother _)).trans k.ecrc⟩
  · exact k

theorem State.TurnedOff.leaveL1 (k : s.TurnedOff h e) (j : Nat) : (s.leaveL1 j).TurnedOff h e := by
  unfold State.leaveL1
  split
  · refine State.TurnedOff.modHost (State.TurnedOff.beside k ?_) j (fun _ => rfl) fun _ _ hr => hr
    exact State.ungateHcr_within (State.put_within (State.put_within (.refl _ _) _ _ _ (by decide)) _ _ _ (by decide)) j
      (by decide)
  · exact k

theorem State.TurnedOff.emitTlp (k : s.TurnedOff h e) (f : Nat) (o : Output) : (s.emitTlp f o).TurnedOff h e :=
  k.beside (State.emitTlp_within (.refl _ s) f o (by decide))

theorem State.TurnedOff.hostWrite (k : s.TurnedOff h e) (f : Nat) (pasid : Option Nat) (addr : Nat) (data : List Byte) (bad : Bool) :
    (s.hostWrite f pasid addr data bad).TurnedOff h e := by
  unfold State.hostWrite
  dsimp only
  split
  · exact k
  · exact State.each_keeps (State.TurnedOff · h e) (((k.noteBad f bad).leaveL1 _).onStream _ _) _ fun _ _ k => k.emitTlp _ _

theorem State.TurnedOff.hostWriteSparse (k : s.TurnedOff h e) (f : Nat) (pasid : Option Nat) (addr be : Nat) (data : List Byte) (bad : Bool) :
    (s.hostWriteSparse f pasid addr be data bad).TurnedOff h e := by
  unfold State.hostWriteSparse
  dsimp only
  split
  · exact k
  · exact (((k.noteBad f bad).leaveL1 _).onStream _ _).emitTlp _ _

theorem State.TurnedOff.sendPost (k : s.TurnedOff h e) (r : HReq) : (s.sendPost r).TurnedOff h e := by
  have miss {t : State} (k : t.TurnedOff h e) : (t.missAt r.key r.fn 5 r.p r.v [portCtr r.p 24]).TurnedOff h e :=
    k.beside (State.missAt_within (.refl _ t) _ _ _ _ _ _ (by decide))
  unfold State.sendPost
  split
  · dsimp only
    split <;> split
    · exact miss (k.hostWriteSparse ..)
    · exact miss (k.hostWrite ..)
    · exact k.hostWriteSparse ..
    · exact k.hostWrite ..
  · exact k

theorem State.TurnedOff.drainPosts (j n : Nat) (k : s.TurnedOff h e) : (s.drainPosts j n).TurnedOff h e := by
  induction n generalizing s with
  | zero => exact k
  | succ n ih =>
    unfold State.drainPosts
    split
    · exact k
    · refine ih (State.TurnedOff.sendPost (k.modHost j ?_ ?_) _)
      · exact fun _ => rfl
      · exact fun _ _ => List.mem_of_mem_erase

theorem State.TurnedOff.dropParts (k : s.TurnedOff h e) (j p tag : Nat) : (s.dropParts j p tag).TurnedOff h e := by
  unfold State.dropParts
  dsimp only
  split
  · refine State.TurnedOff.drainPosts _ _ (k.modHost j ?_ ?_)
    · exact fun _ => rfl
    · exact fun _ _ hr => (List.mem_filter.mp hr).1
  · exact k

theorem State.TurnedOff.answerDevices (k : s.TurnedOff h e) (p : Nat) : (s.answerDevices p).TurnedOff h e := by
  have port {t : State} (k : t.TurnedOff h e) (g : PortDyn → PortDyn) : (t.modPort p g).TurnedOff h e :=
    k.beside (State.modPort_within (.refl _ t) p g (by decide))
  unfold State.answerDevices
  refine State.TurnedOff.beside (foldl_keeps (fun a : State × List (Nat × Nat) => a.1.TurnedOff h e) _ _ _ k ?_)
    (State.quiet_within (.refl _ _) p (by decide))
  rintro ⟨t, blocked⟩ x k
  have answered := k.beside (State.answerDevice_within (.refl _ t) p x.1 (x.2.len + 1) x.2 (by decide))
  dsimp only
  split
  · exact k
  · split
    next hd =>
      rw [hd] at answered
      dsimp only at answered ⊢
      exact port answered _
    next hd =>
      rw [hd] at answered
      dsimp only at answered ⊢
      exact State.TurnedOff.dropParts (port answered _) _ _ _

theorem State.TurnedOff.cutRead (k : s.TurnedOff h e) (j p u : Nat) : (s.cutRead j p u).TurnedOff h e := by
  unfold State.cutRead
  refine State.TurnedOff.beside (k.modHost j ?_ ?_) (State.modPort_within (.refl _ _) p _ ?_)
  · exact fun _ => rfl
  · exact fun _ _ hr => (List.mem_filter.mp hr).1
  · decide +kernel

theorem State.TurnedOff.cutReads (k : s.TurnedOff h e) (j : Nat) (which : State → Nat → Nat → DTag → Bool) :
    (s.cutReads j which).TurnedOff h e := by
  refine State.each_keeps (State.TurnedOff · h e) k _ fun t p k => ?_
  dsimp only
  split
  · exact k
  · exact (State.each_keeps (State.TurnedOff · h e) k _ fun _ _ k => k.cutRead ..).answerDevices p

/-- The posted writes that wait are refused as the link is turned off, all of them. -/
theorem State.refusePosts_turnedOff (hoff : (s.host h).pmOff = true) (hcfg : s.cfgBit h 0x118 6 = e) :
    (s.refusePosts h (fun _ => true)).TurnedOff h e := by
  unfold State.refusePosts
  dsimp only
  refine State.each_keeps (State.TurnedOff · h e) ⟨?off, ?posts, ?ecrc⟩ _ fun t r k => ?logged
  case off => simpa using hoff
  case posts => simp
  case ecrc => exact hcfg
  case logged =>
    split
    · exact k.beside (State.jtLog_within (State.bump_within (.refl _ t) _ (by decide)) _ _ _ _ _ _ _ (by decide))
    · exact k

end

/-! ### L1 and its substates (R92, R140) -/

section
variable {s : State} {h : Nat}

/-- A host link that is up has its clocks. -/
theorem State.linkUp_clocked (hup : s.linkUp h = true) : s.phase ≠ .deferring := by
  simp only [State.linkUp, Bool.and_eq_true, decide_eq_true_eq] at hup
  exact hup.2

theorem State.setHcrState_only (s : State) (h v : Nat) : State.Only [.PWR_STATE_MISC] [] s (s.setHcrState h v) := s.setWord_only ..

/-- The controller of a host port takes a state. -/
theorem State.setHcrState_self (hh : h < 4) {v : Nat} (hv : v < 16) (s : State) : (s.setHcrState h v).hcrState h = v := by
  rw [State.hcrState, State.setHcrState, State.setWord_word_self (by decide), getBits_setBits_self (by omega)]
  exact Nat.mod_eq_of_lt hv

theorem State.Only.hcrState {ks : List RegKind} {ps : List Area} {t : State} (k : State.Only ks ps s t) (hk : .PWR_STATE_MISC ∉ ks) (h : Nat) :
    t.hcrState h = s.hcrState h := by
  rw [State.hcrState, k.words _ hk, ← State.hcrState]

theorem State.ptmLost_only (s : State) (h : Nat) : State.Only [.HP_PTM_STATUS, .HP_PPS_HOST] [.devtime] s (s.ptmLost h) :=
  (State.ptmLost_within (.refl _ s) h (by decide)).only

/-- Judging which port steers DEVTIME leaves every context as valid as it was. -/
theorem State.judgeSteering_ctx (s : State) (h : Nat) : s.judgeSteering.get HP_PTM_STATUS.ctx_valid h = s.get HP_PTM_STATUS.ctx_valid h := by
  unfold State.judgeSteering
  refine State.each_keeps (fun t => t.get HP_PTM_STATUS.ctx_valid h = s.get HP_PTM_STATUS.ctx_valid h) ?_ _ fun t j k => ?_
  · split <;> rfl
  · refine Eq.trans ?_ k
    by_cases hj : h = j
    · subst hj
      exact State.get_flag_beside rfl (by decide)
    · exact State.get_flag_index rfl hj

/-- A context that is lost is invalid (R154). -/
theorem State.ptmLost_ctx (s : State) (hh : h < 4) : (s.ptmLost h).get HP_PTM_STATUS.ctx_valid h = 0 := by
  rw [State.ptmLost, State.judgeSteering_ctx, State.loadPps, State.get_put_kind (by decide)]
  exact State.get_put_self hh (by decide)

/-- A link that has entered L1: in L1.0, with its controller clock-gated and without a PTM context. -/
theorem State.enterL1_entered (s : State) (hh : h < 4) :
    (s.enterL1 h).get HP_LINK_STATUS.pm_state h = 2 ∧ (s.enterL1 h).hcrState h = 1 ∧ (s.enterL1 h).get HP_PTM_STATUS.ctx_valid h = 0
      ∧ (s.enterL1 h).sent = .message h .enterL1 :: s.sent := by
  generalize hu : ((s.put HP_LINK_STATUS.pm_state h 2).put HP_LINK_STATUS.l1_sub h 0).setHcrState h 1 = u
  have heq : s.enterL1 h = ((u.ptmLost h).disarm (.ptmContext h)).emit (.message h .enterL1) := by rw [State.enterL1, hu]
  have hlost := u.ptmLost_only h
  have hpm : u.get HP_LINK_STATUS.pm_state h = 2 := by
    rw [← hu, (State.setHcrState_only _ h 1).get (F := HP_LINK_STATUS.pm_state) (by decide),
      State.get_put_beside (F := HP_LINK_STATUS.l1_sub) (G := HP_LINK_STATUS.pm_state) rfl (by decide)]
    exact State.get_put_self hh (by decide)
  have hhcr : u.hcrState h = 1 := hu ▸ State.setHcrState_self hh (by decide) _
  have hsent : u.sent = s.sent := by
    rw [← hu, (State.setHcrState_only _ h 1).areas .sent (by decide)]
    simp
  rw [heq]
  refine ⟨?_, ?_, ?_, ?_⟩
  · rw [State.emit_get, State.disarm_get, hlost.get (F := HP_LINK_STATUS.pm_state) (by decide), hpm]
  · rw [State.hcrState, State.emit_word, State.disarm_word, ← State.hcrState, hlost.hcrState (by decide), hhcr]
  · rw [State.emit_get, State.disarm_get, u.ptmLost_ctx hh]
  · rw [State.emit_sent, State.disarm_sent]
    rw [hlost.areas .sent (by decide), hsent]

/-- A link that has left L1 is in L0, or in L0p where it was narrowed (R140, R162), with its clock requested. -/
theorem State.leaveL1_left (hh : h < 4) (hpm : s.get HP_LINK_STATUS.pm_state h = 2) (hclk : s.phase ≠ .deferring) :
    (s.leaveL1 h).get HP_LINK_STATUS.pm_state h = b2n (s.get HP_LINK_STATUS.l0p_width h != s.get HP_LINK_STATUS.width h)
      ∧ (s.leaveL1 h).get HP_LINK_STATUS.l1_sub h = 0 ∧ ((s.leaveL1 h).host h).clkreq = true := by
  have hb (b : Bool) : b2n b % 2 ^ 2 = b2n b := Nat.mod_eq_of_lt ((b2n_lt b).trans (by decide))
  generalize hu : (s.put HP_LINK_STATUS.pm_state h (b2n (s.get HP_LINK_STATUS.l0p_width h != s.get HP_LINK_STATUS.width h))).put
    HP_LINK_STATUS.l1_sub h 0 = u
  have heq : s.leaveL1 h = (u.ungateHcr h).modHost h (fun d => { d with clkreq := true }) := by
    rw [← hu]
    exact if_pos ⟨hpm, hclk⟩
  have hungate : State.Only [.PWR_STATE_MISC] [.ctrs, .freeCtr] u (u.ungateHcr h) :=
    (State.ungateHcr_within (.refl _ u) h (by decide)).only
  rw [heq]
  refine ⟨?_, ?_, ?_⟩
  · rw [State.modHost_get, hungate.get (F := HP_LINK_STATUS.pm_state) (by decide), ← hu,
      State.get_put_beside (F := HP_LINK_STATUS.l1_sub) (G := HP_LINK_STATUS.pm_state) rfl (by decide)]
    exact (State.get_put_self hh (by decide)).trans (hb _)
  · rw [State.modHost_get, hungate.get (F := HP_LINK_STATUS.l1_sub) (by decide), ← hu]
    exact State.get_put_self hh (by decide)
  · rw [State.modHost_host_self]

/-! ### L0p (R139) -/

/-- A width of the set is rounded to itself. -/
theorem widthBelow_member {w : Nat} (h : w ∈ [1, 2, 4, 8, 16]) : widthBelow w = w := by
  simp only [List.mem_cons, List.not_mem_nil, or_false] at h
  rcases h with rfl | rfl | rfl | rfl | rfl <;> decide

/-- The active width that the link has taken shows, with the power state that goes with it. -/
theorem State.setL0p_taken (s : State) (hh : h < 4) {w : Nat} (hw : w < 32) :
    (s.setL0p h w).get HP_LINK_STATUS.l0p_width h = w
      ∧ (s.setL0p h w).get HP_LINK_STATUS.pm_state h = b2n (w != s.get HP_LINK_STATUS.width h)
      ∧ (s.setL0p h w).sent = .message h (.l0pWidth w) :: s.sent ∧ State.Only [.HP_LINK_STATUS] [.sent] s (s.setL0p h w) := by
  have hb (b : Bool) : b2n b % 2 ^ 2 = b2n b := Nat.mod_eq_of_lt ((b2n_lt b).trans (by decide))
  refine ⟨?_, ?_, by simp [State.setL0p], (State.setL0p_within (.refl _ s) h w (by decide)).only⟩
  · rw [State.setL0p, State.emit_get, State.get_put_beside (F := HP_LINK_STATUS.pm_state) (G := HP_LINK_STATUS.l0p_width) rfl (by decide),
      State.get_put_self hh (by decide)]
    exact Nat.mod_eq_of_lt hw
  · rw [State.setL0p, State.emit_get, State.get_put_self hh (by decide)]
    exact hb _

end

/-- Settles O32: one lemma on each state of the link that a command brings about. -/
theorem hostLinkPower : Obligations.HostLinkPower := by
  unfold Obligations.HostLinkPower
  intro s h l12 w
  have hh := h.isLt
  refine ⟨fun hup => ⟨_, rfl, ?off⟩, fun hup hpm haspm hidle => ⟨_, rfl, ?enter⟩, fun hup hpm => ⟨_, rfl, ?substate⟩,
    fun hup hpm => ⟨_, rfl, ?exit⟩, fun hon hw hle => ⟨_, rfl, ?asked⟩, fun use16 use2 hon hauto hfull hnarrow huse => ⟨_, rfl, ?widened⟩⟩
  case off =>
    rw [State.turnOff, if_pos hup]
    generalize hu : (s.leaveL1 h).modHost h _ = u
    have hoff : (u.host h).pmOff = true := by rw [← hu, State.modHost_host_self]
    have hcfg : u.cfgBit h 0x118 6 = s.cfgBit h 0x118 6 := by
      have hleave : (s.leaveL1 h).cfg = s.cfg := (State.leaveL1_within (.refl (besideMask [] [.cfg]) s) h (by decide)).areas .cfg
        (by decide)
      rw [← hu, State.modHost_cfgBit, State.cfgBit, State.cfgWord, hleave]
      rfl
    obtain ⟨off, posts, ecrc⟩ := (State.refusePosts_turnedOff hoff hcfg).cutReads h (fun s p t _ => s.partWaits h p t)
    dsimp only
    generalize (u.refusePosts h (fun _ => true)).cutReads h (fun s p t _ => s.partWaits h p t) = v at off posts ecrc ⊢
    refine ⟨State.get_put_self hh (by decide), by simpa [State.emitMsg] using off, ?_, by simpa [State.emitMsg] using posts⟩
    have hpf : fnPf h = h := if_pos hh
    simp [State.emitMsg, ecrc, State.asSent, hpf]
  case enter =>
    have hask : s.askL1 h = (s.advance (max 1 (s.get HP_PM_CTRL.l1_idle_us h) * 1000)).enterL1 h := by
      simp [State.askL1, hup, hpm, haspm, hidle]
    rw [hask]
    exact State.enterL1_entered _ hh
  case substate =>
    have henter : s.enterL1Sub h l12 = ((s.put HP_LINK_STATUS.l1_sub h (if l12 then 2 else 1)).setHcrState h (if l12 then 2 else 1)).modHost h
        (fun d => { d with clkreq := false }) := by
      simp [State.enterL1Sub, hup, hpm]
    have hlt : (if l12 then 2 else 1) < 2 ^ 2 := by cases l12 <;> decide
    rw [henter]
    refine ⟨?_, ?_, by rw [State.modHost_host_self], ?_⟩
    · rw [State.modHost_get, (State.setHcrState_only _ _ _).get (by decide)]
      exact (State.get_put_self hh (by decide)).trans (Nat.mod_eq_of_lt hlt)
    · rw [State.hcrState, State.modHost_word, ← State.hcrState]
      exact State.setHcrState_self hh (by omega) _
    · exact (State.modHost_within (State.setHcrState_within (State.put_within (.refl _ s) _ _ _ (by decide)) _ _ (by decide)) _ _
        (by decide)).only
  case exit =>
    have hexit : s.exitL1 h = ((s.leaveL1 h).wakeRegion 34).wakeRegion (30 + h) := by simp [State.exitL1, hup, hpm]
    have hwake := ((s.leaveL1 h).wakeRegion_only 34).trans (State.wakeRegion_only _ (30 + h))
    obtain ⟨pm, sub, clkreq⟩ := State.leaveL1_left hh hpm (State.linkUp_clocked hup)
    rw [hexit]
    exact ⟨(hwake.get (by decide) h).trans pm, (hwake.get (by decide) h).trans sub, by rw [hwake.host (by decide)]; exact clkreq⟩
  case asked =>
    have hset : s.hostL0p h w = s.setL0p h w := by
      have hv : widthBelow (min w (s.get HP_LINK_STATUS.width h)) = w := by rw [Nat.min_eq_left hle, widthBelow_member hw]
      have h0 : w ≠ 0 := by rintro rfl; simp at hw
      simp [State.hostL0p, hv, hon, h0]
    rw [hset]
    exact s.setL0p_taken hh (lt_of_le_of_lt hle (getBits_lt ..))
  case widened =>
    have hset : s.evalL0p h use16 use2 = s.setL0p h (s.get HP_LINK_STATUS.width h) := by
      have hauto' : s.on HP_PM_CTRL.l0p_auto h = true := by simp [State.on, hauto]
      simp only [State.evalL0p, hon, hauto', beq_iff_eq, Bool.not_true, Bool.false_or, hfull.ne', if_false,
        if_pos (⟨hnarrow, .inl huse⟩ : _ ∧ (_ ∨ _))]
    have hw : s.get HP_LINK_STATUS.width h < 32 := getBits_lt ..
    obtain ⟨width, pm, -, only⟩ := s.setL0p_taken hh hw
    rw [hset]
    exact ⟨width, by rw [pm]; simp [b2n], only⟩

end Sys2Proof.Machine
end

/-! Peg sources: a raise and the end of service, delivery through a slot, and the messages that a function has held. -/

section
namespace Sys2Proof.Machine

section
variable {s t u : State} {ks ks' : List RegKind} {ps ps' : List Area}

/-- The counters are as they were where they are no part of the change. -/
theorem State.Only.ctr (h : State.Only ks ps s t) (hc : .ctrs ∉ ps) (o : Nat) : t.ctr o = s.ctr o :=
  congrArg (Tbl.get 0 · o) (h.areas _ hc)

theorem State.Only.region (h : State.Only ks ps s t) (hk : ∀ k ∈ wakeKinds, k ∉ ks) (r : Nat) : t.region r = s.region r := by
  rw [State.region_eq_place, h.words _ (hk _ (regionPlace_register r).1), ← State.region_eq_place]

/-- A region is as steady as it was. -/
theorem State.Only.steady (h : State.Only ks ps s t) (hk : ∀ k ∈ wakeKinds, k ∉ ks) (hp : .plumb ∉ ps) (r : Nat) : t.steady r = s.steady r := by
  have hplumb : t.plumb = s.plumb := h.areas .plumb hp
  rw [State.steady, h.region hk, hplumb, ← State.steady]

theorem State.bump_only (s : State) (o : Nat) : State.Only [] [.ctrs] s (s.bump o) := (State.bump_within (.refl _ s) o (by decide)).only

theorem State.modPeg_only (s : State) (i : Nat) (g : PegDyn → PegDyn) : State.Only [] [.pegs] s (s.modPeg i g) :=
  (State.modPeg_within (.refl _ s) i g (by decide)).only

theorem State.wakeSlices_only (s : State) (ts : List Nat) : State.Only wakeKinds [.plumb, .waking] s (s.wakeSlices ts) :=
  (State.wakeSlices_within (.refl _ s) ts (by decide)).only

/-- Slices that are steady are not woken. -/
theorem State.steady_wakeSlices {ts : List Nat} (h : ∀ x ∈ ts, s.steady (30 + x) = true) : s.wakeSlices ts = s := by
  induction ts with
  | nil => rfl
  | cons x xs ih =>
    have hx : s.wakeRegion (30 + x) = s := State.steady_wake (h x List.mem_cons_self)
    rw [State.wakeSlices, State.each, List.foldl_cons, hx]
    exact ih fun y hy => h y (List.mem_cons_of_mem _ hy)

end

/-! ### Raise and end of service (R377 to R380) -/

section
variable {s t u : State} {i : Nat} {ks ks' : List RegKind} {ps ps' : List Area}

/-- The slices of a source run: the core's own and the one of its function's host port. -/
def State.pegRuns (s : State) (i : Nat) : Prop := s.steady 31 = true ∧ s.steady (30 + fnPort (s.get PEG_SRC_CTRL.owner i)) = true

/-- A command on a source has changed what the lists name, the counters, and the regions that it woke, none where its slices run. -/
structure State.PegFrame (i : Nat) (ks : List RegKind) (ps : List Area) (s t : State) : Prop where
  woken : State.Only (ks ++ wakeKinds) (ps ++ [.ctrs, .plumb, .waking]) s t
  steady : s.pegRuns i → State.Only ks (ps ++ [.ctrs]) s t

/-- A source that wakes its slices. -/
theorem State.wakePeg_frame (h : State.Only ks (ps ++ [.ctrs]) s u) (hk : ∀ k ∈ wakeKinds, k ∉ ks) (hc : .PEG_SRC_CTRL ∉ ks) (hp : .plumb ∉ ps) :
    State.PegFrame i ks ps s (u.wakePeg i) where
  woken := (h.mono (by simp) (by simp)).trans ((u.wakeSlices_only _).mono (by simp) (by simp))
  steady := fun ⟨hcore, howner⟩ => by
    have hplumb : Area.plumb ∉ ps ++ [.ctrs] := by simp [hp]
    have hruns : ∀ x ∈ [1, fnPort (u.get PEG_SRC_CTRL.owner i)], u.steady (30 + x) = true := by
      simp only [h.steady hk hplumb, h.get (F := PEG_SRC_CTRL.owner) hc, List.forall_mem_cons]
      exact ⟨hcore, howner, by simp⟩
    rw [State.wakePeg, State.steady_wakeSlices hruns]
    exact h

/-- What happens next to the source stays within the frame. -/
theorem State.PegFrame.after (h : State.PegFrame i ks ps s t) (hu : State.Only ks (ps ++ [.ctrs]) t u) : State.PegFrame i ks ps s u where
  woken := h.woken.trans (hu.mono (by simp) (by simp))
  steady := fun hr => (h.steady hr).trans hu

theorem State.wakePeg_get (s : State) (i : Nat) {F : Fld} (hF : F.reg ∉ wakeKinds) (j : Nat) : (s.wakePeg i).get F j = s.get F j :=
  (s.wakeSlices_only _).get hF j

/-- A raise of a source without a slot that is on is counted. -/
def State.slotsCounted (s : State) (i : Nat) : State :=
  if (List.range 4).any (fun t => s.slotOn i t) || s.compatFn (s.get PEG_SRC_CTRL.owner i) then s else s.bump (portCtr (s.pegPort i) 26)

theorem State.slotsCounted_only (s : State) (i : Nat) : State.Only [] [.ctrs] s (s.slotsCounted i) := by
  unfold State.slotsCounted
  split
  · exact .refl _ _ s
  · exact s.bump_only _

theorem State.slotsCounted_merges (s : State) (i : Nat) : (s.slotsCounted i).ctr (portCtr (s.pegPort i) 27) = s.ctr (portCtr (s.pegPort i) 27) := by
  unfold State.slotsCounted
  split
  · rfl
  · exact State.bump_ctr_other s (by simp [portCtr])

/-- Where the raise judges the source: its slices have been woken. -/
def State.pegRaised (s : State) (i : Nat) : State := (s.slotsCounted i).wakePeg i

theorem State.pegRaised_state (s : State) (i : Nat) : (s.pegRaised i).get PEG_SRC_STATUS.state i = s.get PEG_SRC_STATUS.state i :=
  ((s.slotsCounted i).wakePeg_get i (by decide) i).trans ((s.slotsCounted_only i).get (by decide) i)

theorem State.pegRaised_merges (s : State) (i : Nat) : (s.pegRaised i).ctr (portCtr (s.pegPort i) 27) = s.ctr (portCtr (s.pegPort i) 27) :=
  (((s.slotsCounted i).wakeSlices_only _).ctr (by decide) _).trans (s.slotsCounted_merges i)

theorem State.pegRaised_frame (s : State) (i : Nat) : State.PegFrame i ks ps s (s.pegRaised i) where
  woken := (((s.slotsCounted_only i).mono (by simp) (by simp)).trans (((s.slotsCounted i).wakeSlices_only _).mono (by simp) (by simp)))
  steady := fun hr =>
    ((State.wakePeg_frame (ks := []) (ps := []) (s.slotsCounted_only i) (by simp) (by simp) (by simp)).steady hr).mono (by simp) (by simp)

/-- What a raise does by the source's state: it takes it from idle to pending and from in service to pending in service, and merges else. -/
theorem State.raisePeg_enabled (he : s.pegEnabled i = true) :
    (s.get PEG_SRC_STATUS.state i = 0 → ∃ g, s.raisePeg i none none = ((s.pegRaised i).put PEG_SRC_STATUS.state i 1).modPeg i g)
    ∧ (s.get PEG_SRC_STATUS.state i = 2 → ∃ g, s.raisePeg i none none = ((s.pegRaised i).put PEG_SRC_STATUS.state i 3).modPeg i g)
    ∧ (s.get PEG_SRC_STATUS.state i = 1 ∨ s.get PEG_SRC_STATUS.state i = 3 →
        ∃ g, s.raisePeg i none none = ((s.pegRaised i).bump (portCtr (s.pegPort i) 27)).modPeg i g) := by
  have hstate := s.pegRaised_state i
  unfold State.pegRaised State.slotsCounted at hstate ⊢
  unfold State.raisePeg
  simp only [he, Bool.not_true, Bool.false_eq_true, if_false, State.keyFor, hstate]
  refine ⟨fun h => ?_, fun h => ?_, fun h => ?_⟩
  · simp only [h]
    exact ⟨_, rfl⟩
  · simp only [h]
    exact ⟨_, rfl⟩
  · rcases h with h | h <;> simp only [h] <;> exact ⟨_, rfl⟩

/-- A source whose state has been loaded, and whose request has been noted. -/
theorem State.PegFrame.pegTaken (k : State.PegFrame i [.PEG_SRC_STATUS] [.pegs] s t) (hi : i < 24576) {v : Nat} (hv : v < 4) (g : PegDyn → PegDyn) :
    ((t.put PEG_SRC_STATUS.state i v).modPeg i g).get PEG_SRC_STATUS.state i = v
      ∧ State.PegFrame i [.PEG_SRC_STATUS] [.pegs] s ((t.put PEG_SRC_STATUS.state i v).modPeg i g) := by
  refine ⟨?_, k.after (((t.put_only _ i v).mono ?_ ?_).trans (((t.put PEG_SRC_STATUS.state i v).modPeg_only i g).mono ?_ ?_))⟩
  · rw [State.modPeg_get, State.get_put_self hi (by decide)]
    exact Nat.mod_eq_of_lt hv
  all_goals simp [PEG_SRC_STATUS.state]

/-- A write of PEG_SRC_CMD performs what its bits ask for. -/
theorem State.writeReg_raises (a : Agent) {v m : Word} (heos : written PEG_SRC_CMD.eos v m = 0) (hraise : written PEG_SRC_CMD.raise v m = 1) :
    s.writeReg a .PEG_SRC_CMD i v m = s.raisePeg i none none := by
  simp [State.writeReg, State.writePegCmd, heos, hraise]

theorem State.writeReg_ends (a : Agent) {v m : Word} (heos : written PEG_SRC_CMD.eos v m = 1) (hraise : written PEG_SRC_CMD.raise v m = 0) :
    s.writeReg a .PEG_SRC_CMD i v m = s.eosPeg i := by
  simp [State.writeReg, State.writePegCmd, heos, hraise]

theorem State.Writable.raise {a : Agent} (h : s.Writable a .PEG_SRC_CMD i) : s.writeField a PEG_SRC_CMD.raise i 1 = s.raisePeg i none none :=
  (State.Writable.writeField (F := PEG_SRC_CMD.raise) h 1).trans (State.writeReg_raises a (by decide) (by decide))

theorem State.Writable.eos {a : Agent} (h : s.Writable a .PEG_SRC_CMD i) : s.writeField a PEG_SRC_CMD.eos i 1 = s.eosPeg i :=
  (State.Writable.writeField (F := PEG_SRC_CMD.eos) h 1).trans (State.writeReg_ends a (by decide) (by decide))

/-- A raise by a command, in each state of the source. -/
theorem State.raisePeg_effects (s : State) (hi : i < 24576) (he : s.pegEnabled i = true) :
    (s.get PEG_SRC_STATUS.state i = 0 → (s.raisePeg i none none).get PEG_SRC_STATUS.state i = 1
        ∧ State.PegFrame i [.PEG_SRC_STATUS] [.pegs] s (s.raisePeg i none none))
    ∧ (s.get PEG_SRC_STATUS.state i = 2 → (s.raisePeg i none none).get PEG_SRC_STATUS.state i = 3
        ∧ State.PegFrame i [.PEG_SRC_STATUS] [.pegs] s (s.raisePeg i none none))
    ∧ (s.get PEG_SRC_STATUS.state i = 1 ∨ s.get PEG_SRC_STATUS.state i = 3 →
        (s.raisePeg i none none).ctr (portCtr (s.pegPort i) 27) = s.ctr (portCtr (s.pegPort i) 27) + 1
        ∧ State.PegFrame i [] [.pegs] s (s.raisePeg i none none)) := by
  obtain ⟨fresh, service, merged⟩ := State.raisePeg_enabled he
  refine ⟨fun h => ?_, fun h => ?_, fun h => ?_⟩
  · obtain ⟨g, hg⟩ := fresh h
    rw [hg]
    exact (s.pegRaised_frame i).pegTaken hi (by decide) g
  · obtain ⟨g, hg⟩ := service h
    rw [hg]
    exact (s.pegRaised_frame i).pegTaken hi (by decide) g
  · obtain ⟨g, hg⟩ := merged h
    rw [hg]
    refine ⟨?_, (s.pegRaised_frame i).after ((State.bump_only _ _).mono ?_ ?_ |>.trans ((State.modPeg_only _ i g).mono ?_ ?_))⟩
    · rw [State.modPeg_ctr, State.bump_ctr_self, s.pegRaised_merges i]
    all_goals simp

/-- The end of service by a command, in each state of the source. -/
theorem State.eosPeg_effects (s : State) (hi : i < 24576) (ha : s.pegAuto i = false) :
    (s.get PEG_SRC_STATUS.state i = 2 → (s.eosPeg i).get PEG_SRC_STATUS.state i = 0 ∧ State.Only [.PEG_SRC_STATUS] [] s (s.eosPeg i))
    ∧ (s.get PEG_SRC_STATUS.state i = 3 → (s.eosPeg i).get PEG_SRC_STATUS.state i = 1 ∧ State.PegFrame i [.PEG_SRC_STATUS] [] s (s.eosPeg i))
    ∧ (s.get PEG_SRC_STATUS.state i ≤ 1 → s.eosPeg i = s) := by
  simp only [State.eosPeg, ha, Bool.false_eq_true, if_false]
  refine ⟨fun h => ?_, fun h => ?_, fun h => ?_⟩
  · simp only [h]
    exact ⟨State.get_put_self hi (by decide), s.put_only PEG_SRC_STATUS.state i 0⟩
  · simp only [h]
    refine ⟨?_, State.wakePeg_frame ((s.put_only _ i 1).mono ?_ ?_) ?_ ?_ ?_⟩
    · rw [State.wakePeg_get _ i (by decide)]
      exact State.get_put_self hi (by decide)
    all_goals simp [PEG_SRC_STATUS.state, wakeKinds]
  · interval_cases hs : s.get PEG_SRC_STATUS.state i <;> rfl

end

/-! ### Messages (R381) -/

section
variable {s t u : State} {ks : List RegKind} {ps : List Area}

/-- A sole candidate wins. -/
theorem State.arbitrate_single (s : State) (point : Nat) (c : Cand) : s.arbitrate point [c] = some c.id := by
  have hbest : bestCands [c] = [c] := by
    have hself : c.before c = false := by simp [Cand.before]
    simp [bestCands, hself]
  unfold State.arbitrate
  rw [hbest]
  by_cases hlast : Tbl.get 0 s.served point ≤ c.id <;> simp [hlast]

/-- Only the failures of a PLL are counted where the controller of a host port runs again. -/
theorem State.ungateHcr_ctr (s : State) (h : Nat) {o : Nat} (ho : o ≠ modCtr 5) : (s.ungateHcr h).ctr o = s.ctr o := by
  unfold State.ungateHcr State.pllFails
  split
  · dsimp only
    rw [State.setHcrState, State.setWord_ctr]
    split
    · exact State.bump_ctr_other _ ho
    · rfl
  · rfl

theorem State.leaveL1_ctr (s : State) (h : Nat) {o : Nat} (ho : o ≠ modCtr 5) : (s.leaveL1 h).ctr o = s.ctr o := by
  unfold State.leaveL1
  split
  · dsimp only
    rw [State.modHost_ctr, State.ungateHcr_ctr _ _ ho, State.put_ctr, State.put_ctr]
  · rfl

/-- A write to host memory counts no message. -/
theorem State.hostWrite_ctr (s : State) (f : Nat) (pasid : Option Nat) (addr : Nat) (data : List Byte) (bad : Bool) {o : Nat} (ho : o ≠ modCtr 5) :
    (s.hostWrite f pasid addr data bad).ctr o = s.ctr o := by
  have hbad : ((s.noteBad f bad).leaveL1 (fnPort f)).ctr o = s.ctr o :=
    (State.leaveL1_ctr _ _ ho).trans (((State.noteBad_within (.refl _ s) f bad (by decide)).only (ks := []) (ps := [.cfg])).ctr (by decide) o)
  unfold State.hostWrite
  dsimp only
  split
  · rfl
  · refine State.each_keeps (fun t => t.ctr o = s.ctr o) ?_ _ fun t c k => ?_
    · exact ((State.onStream_within (.refl _ _) _ _ (by decide)).only (ks := [.HP_IDE_STATUS]) (ps := [.hosts])).ctr (by decide) o |>.trans hbad
    · exact ((State.emitTlp_within (.refl _ _) _ _ (by decide)).only (ks := []) (ps := [.sent])).ctr (by decide) o |>.trans k

theorem fnPort_lt {f : Nat} (hf : f < 1024) : fnPort f < 4 := by
  unfold fnPort
  split <;> omega

/-- A message that is sent is counted. -/
theorem State.sendMessage_counted (s : State) {f : Nat} (hf : f < 1024) (e : Nat) :
    (s.sendMessage f e).ctr (hostCtr (fnPort f) 0) = s.ctr (hostCtr (fnPort f) 0) + 1 := by
  have hport : fnPort f < 4 := fnPort_lt hf
  rw [State.sendMessage, State.bump_ctr_self, State.hostWrite_ctr]
  simp only [hostCtr, modCtr]
  omega

theorem State.bumps_ctr (s : State) {xs : List Nat} {o : Nat} (ho : o ∉ xs) : (s.each xs State.bump).ctr o = s.ctr o := by
  induction xs generalizing s with
  | nil => rfl
  | cons x xs ih =>
    obtain ⟨hx, hxs⟩ := not_or.mp (mt List.mem_cons.mpr ho)
    exact (ih (s.bump x) hxs).trans (State.bump_ctr_other s hx)

/-- A missed deadline is counted at the function and where the list says, and nowhere else. -/
theorem State.missAt_ctr (s : State) (k f kind p v : Nat) {extra : List Nat} {o : Nat} (ho : o ∉ fnCtr f 14 :: extra) :
    (s.missAt k f kind p v extra).ctr o = s.ctr o := by
  unfold State.missAt
  split
  · simp only [State.put_ctr, State.setWord_ctr]
    exact s.bumps_ctr ho
  · rfl

theorem State.pegPort_lt (s : State) {i : Nat} (hi : i < 24576) : s.pegPort i < 96 := by
  simp only [State.pegPort, State.lead, lowerOf]
  split <;> omega

end

/-! ### Delivery through a slot (R381, R382) -/

section
variable {s t u : State} {ks : List RegKind} {ps : List Area} {i : Nat}

theorem State.Only.compatFn (h : State.Only ks ps s t) (hk : .GLOBAL_STATUS ∉ ks) (f : Nat) : t.compatFn f = s.compatFn f := by
  rw [State.compatFn, State.compat, State.on, h.get (F := GLOBAL_STATUS.compat_view_active) hk]
  rfl

theorem State.Only.pegAuto (h : State.Only ks ps s t) (hk : .GLOBAL_STATUS ∉ ks) (hc : .PEG_SRC_CTRL ∉ ks) (i : Nat) : t.pegAuto i = s.pegAuto i := by
  rw [State.pegAuto, State.on, h.get (F := PEG_SRC_CTRL.auto_eos) hc, h.get (F := PEG_SRC_CTRL.owner) hc, h.compatFn hk]
  rfl

/-- The end of a delivery, whose message was sent or is held on `entry`; `d` is what the source asked for. -/
def State.pegFinished (s : State) (i f : Nat) (d : PegDyn) (sent : Bool) (entry : Option Nat) : State :=
  let s := s.put PEG_SRC_STATUS.state i (if s.pegAuto i then 0 else 2)
  let s := (s.flag PEG_SRC_STATUS.held i (!sent)).put PEG_SRC_STATUS.last_devtime i s.devtime
  let s := match d.deadline with
    | some k => if sent then s.missAt k f 6 (s.pegPort i) d.vc [portCtr (s.pegPort i) 24] else s
    | none => s
  s.setPeg i (if sent then { PegDyn.reset with bad := d.bad }
    else { d with heldOn := entry, heldKey := some (d.key, d.deadline), key := 0, deadline := none })

/-- Where the source's status shows the delivery. -/
def State.pegShown (s : State) (i : Nat) (sent : Bool) : State :=
  ((s.put PEG_SRC_STATUS.state i (if s.pegAuto i then 0 else 2)).flag PEG_SRC_STATUS.held i (!sent)).put PEG_SRC_STATUS.last_devtime i s.devtime

theorem State.pegShown_only (s : State) (i : Nat) (sent : Bool) : State.Only [.PEG_SRC_STATUS] [] s (s.pegShown i sent) :=
  (State.put_within (State.flag_within (State.put_within (.refl _ s) PEG_SRC_STATUS.state i _ (by decide)) _ i _ (by decide)) _ i _
    (by decide)).only

theorem State.pegShown_status (s : State) (hi : i < 24576) (sent : Bool) :
    (s.pegShown i sent).get PEG_SRC_STATUS.state i = (if s.pegAuto i then 0 else 2) ∧ (s.pegShown i sent).get PEG_SRC_STATUS.held i = b2n (!sent)
      ∧ (s.pegShown i sent).get PEG_SRC_STATUS.last_target i = s.get PEG_SRC_STATUS.last_target i
      ∧ (s.pegShown i sent).get PEG_SRC_STATUS.last_devtime i = s.devtime % 2 ^ 32 := by
  unfold State.pegShown
  refine ⟨?_, ?_, ?_, State.get_put_self hi (by decide)⟩
  · rw [State.get_put_beside (F := PEG_SRC_STATUS.last_devtime) (G := PEG_SRC_STATUS.state) rfl (by decide),
      State.get_flag_beside (F := PEG_SRC_STATUS.held) (G := PEG_SRC_STATUS.state) rfl (by decide), State.get_put_self hi (by decide)]
    split <;> rfl
  · rw [State.get_put_beside (F := PEG_SRC_STATUS.last_devtime) (G := PEG_SRC_STATUS.held) rfl (by decide), State.get_flag_self hi (by decide)]
    exact Nat.mod_eq_of_lt (b2n_lt _)
  · rw [State.get_put_beside (F := PEG_SRC_STATUS.last_devtime) (G := PEG_SRC_STATUS.last_target) rfl (by decide),
      State.get_flag_beside (F := PEG_SRC_STATUS.held) (G := PEG_SRC_STATUS.last_target) rfl (by decide),
      State.get_put_beside (F := PEG_SRC_STATUS.state) (G := PEG_SRC_STATUS.last_target) rfl (by decide)]

/-- Beside the status, the end of a delivery notes what the source asks for next and a deadline that was missed. -/
theorem State.pegFinished_shown (s : State) (i f : Nat) (d : PegDyn) (sent : Bool) (entry : Option Nat) :
    State.Only [.SCHED_MISS_LOG0, .SCHED_MISS_LOG1] [.ctrs, .pegs] (s.pegShown i sent) (s.pegFinished i f d sent entry) := by
  have heq : (s.put PEG_SRC_STATUS.state i (if s.pegAuto i then 0 else 2)).devtime = s.devtime := by simp
  unfold State.pegFinished
  dsimp only
  rw [heq, ← State.pegShown]
  split
  · split
    · exact (State.setPeg_within (State.missAt_within (.refl _ _) _ _ _ _ _ _ (by decide)) _ _ (by decide)).only
    · exact (State.setPeg_within (.refl _ _) _ _ (by decide)).only
  · exact (State.setPeg_within (.refl _ _) _ _ (by decide)).only

theorem State.pegFinished_only (s : State) (i f : Nat) (d : PegDyn) (sent : Bool) (entry : Option Nat) :
    State.Only [.PEG_SRC_STATUS, .SCHED_MISS_LOG0, .SCHED_MISS_LOG1] [.ctrs, .pegs] s (s.pegFinished i f d sent entry) :=
  ((s.pegShown_only i sent).mono (by simp) (by simp)).trans ((s.pegFinished_shown i f d sent entry).mono (by simp) (by simp))

/-- What the status shows of a delivery on slot `t0`, where what came before it left the source and the time alone. -/
theorem State.pegFinished_status (k : State.Only ks ps s u) (hi : i < 24576) (hview : .GLOBAL_STATUS ∉ ks) (hctrl : .PEG_SRC_CTRL ∉ ks)
    (htime : .devtime ∉ ps) (f : Nat) (d : PegDyn) (sent : Bool) (entry : Option Nat) {t0 : Nat} (ht0 : t0 < 4) :
    let v := (u.put PEG_SRC_STATUS.last_target i t0).pegFinished i f d sent entry
    v.get PEG_SRC_STATUS.state i = (if s.pegAuto i then 0 else 2) ∧ v.get PEG_SRC_STATUS.held i = b2n (!sent)
      ∧ v.get PEG_SRC_STATUS.last_target i = t0 ∧ v.get PEG_SRC_STATUS.last_devtime i = s.devtime % 2 ^ 32 := by
  have hput := u.put_only PEG_SRC_STATUS.last_target i t0
  have htarget : (u.put PEG_SRC_STATUS.last_target i t0).get PEG_SRC_STATUS.last_target i = t0 :=
    (State.get_put_self hi (by decide)).trans (Nat.mod_eq_of_lt ht0)
  have hnow : u.devtime = s.devtime := (k.areas .devtime htime).1
  have hfin := (u.put PEG_SRC_STATUS.last_target i t0).pegFinished_shown i f d sent entry
  obtain ⟨state, held, target, devtime⟩ := (u.put PEG_SRC_STATUS.last_target i t0).pegShown_status hi sent
  rw [hput.pegAuto (by decide) (by decide), k.pegAuto hview hctrl] at state
  rw [State.put_devtime, hnow] at devtime
  exact ⟨(hfin.get (by decide) i).trans state, (hfin.get (by decide) i).trans held,
    (hfin.get (by decide) i).trans (target.trans htarget), (hfin.get (by decide) i).trans devtime⟩

/-- The counters of the host ports count no delivery's end. -/
theorem State.pegFinished_ctr (s : State) (hi : i < 24576) (f : Nat) (d : PegDyn) (sent : Bool) (entry : Option Nat) {h : Nat} (hh : h < 4) :
    (s.pegFinished i f d sent entry).ctr (hostCtr h 0) = s.ctr (hostCtr h 0) := by
  have hother (t : State) : hostCtr h 0 ∉ fnCtr f 14 :: [portCtr (t.pegPort i) 24] := by
    have := t.pegPort_lt hi
    simp only [hostCtr, fnCtr, portCtr, List.mem_cons, List.not_mem_nil, or_false]
    omega
  unfold State.pegFinished
  dsimp only
  rw [State.setPeg_ctr]
  split
  · split
    · rw [State.missAt_ctr _ _ _ _ _ _ (hother _)]
      simp [State.flag]
    · simp [State.flag]
  · simp [State.flag]

/-- Slot that a delivery takes: the first in turn whose message can be sent, else the first of all, `t0`. -/
def State.pegSlot (s : State) (i t0 : Nat) : Nat :=
  ((s.slotOrder i).find? (fun t => s.canSend (s.get PEG_SRC_CTRL.owner i) (s.slotEntry i t)
    && s.backed (s.get PEG_SRC_CTRL.owner i) (s.slotEntry i t))).getD t0

/-- Delivery through the slot taken. -/
theorem State.deliverPeg_slot {t0 : Nat} {ts : List Nat} (hcompat : s.compatFn (s.get PEG_SRC_CTRL.owner i) = false) (hslots : s.slotOrder i = t0 :: ts) :
    s.deliverPeg i =
      let f := s.get PEG_SRC_CTRL.owner i
      let e := s.slotEntry i (s.pegSlot i t0)
      let r := s.deliverMsix f e
      ((if r.1 then r.2 else r.2.wakeFor f).put PEG_SRC_STATUS.last_target i (s.pegSlot i t0)).pegFinished i f (s.peg i) r.1 (some e) := by
  unfold State.pegSlot State.deliverPeg
  simp only [hcompat, hslots, Bool.false_eq_true, if_false]
  rfl

/-- Delivery through the first slot in turn, where the message can be sent. -/
theorem State.deliverPeg_sent {t0 : Nat} {ts : List Nat} (hcompat : s.compatFn (s.get PEG_SRC_CTRL.owner i) = false) (hslots : s.slotOrder i = t0 :: ts)
    (hsend : s.canSend (s.get PEG_SRC_CTRL.owner i) (s.slotEntry i t0) = true) (hback : s.backed (s.get PEG_SRC_CTRL.owner i) (s.slotEntry i t0) = true) :
    s.deliverPeg i = ((s.sendMessage (s.get PEG_SRC_CTRL.owner i) (s.slotEntry i t0)).put PEG_SRC_STATUS.last_target i t0).pegFinished i
      (s.get PEG_SRC_CTRL.owner i) (s.peg i) true (some (s.slotEntry i t0)) := by
  have hslot : s.pegSlot i t0 = t0 := by simp [State.pegSlot, hslots, hsend, hback]
  simp [State.deliverPeg_slot hcompat hslots, hslot, State.deliverMsix, hsend, hback]

/-- A delivery of a function that cannot send is held on the first slot's entry. -/
theorem State.deliverPeg_held {t0 : Nat} {ts : List Nat} (hcompat : s.compatFn (s.get PEG_SRC_CTRL.owner i) = false) (hslots : s.slotOrder i = t0 :: ts)
    (hmaster : s.canMaster (s.get PEG_SRC_CTRL.owner i) = false) :
    s.deliverPeg i = ((((s.setPba (s.get PEG_SRC_CTRL.owner i) (s.slotEntry i t0) true).bump (hostCtr (fnPort (s.get PEG_SRC_CTRL.owner i)) 1)).wakeFor
      (s.get PEG_SRC_CTRL.owner i)).put PEG_SRC_STATUS.last_target i t0).pegFinished i
      (s.get PEG_SRC_CTRL.owner i) (s.peg i) false (some (s.slotEntry i t0)) := by
  have hsend (e : Nat) : s.canSend (s.get PEG_SRC_CTRL.owner i) e = false := by simp [State.canSend, hmaster]
  have hnone : (s.slotOrder i).find? (fun t => s.canSend (s.get PEG_SRC_CTRL.owner i) (s.slotEntry i t)
      && s.backed (s.get PEG_SRC_CTRL.owner i) (s.slotEntry i t)) = none := List.find?_eq_none.mpr fun t _ => by simp [hsend]
  have hslot : s.pegSlot i t0 = t0 := by rw [State.pegSlot, hnone, Option.getD_none]
  simp [State.deliverPeg_slot hcompat hslots, hslot, State.deliverMsix, hsend]

theorem State.slotOrder_lt {t0 : Nat} {ts : List Nat} (hslots : s.slotOrder i = t0 :: ts) : t0 < 4 := by
  have hmem : t0 ∈ s.slotOrder i := hslots ▸ List.mem_cons_self
  obtain ⟨k, -, rfl⟩ := List.mem_map.mp (List.mem_of_mem_filter hmem)
  exact Nat.mod_lt _ (by decide)

/-- The owner of a source is a function. -/
theorem State.pegOwner_lt (s : State) (i : Nat) : s.get PEG_SRC_CTRL.owner i < 1024 := getBits_lt ..

/-- What a delivery that was sent shows. -/
theorem State.deliverPeg_sent_shows (hi : i < 24576) {t0 : Nat} {ts : List Nat} (hcompat : s.compatFn (s.get PEG_SRC_CTRL.owner i) = false)
    (hslots : s.slotOrder i = t0 :: ts) (hsend : s.canSend (s.get PEG_SRC_CTRL.owner i) (s.slotEntry i t0) = true)
    (hback : s.backed (s.get PEG_SRC_CTRL.owner i) (s.slotEntry i t0) = true) :
    (s.deliverPeg i).get PEG_SRC_STATUS.state i = (if s.pegAuto i then 0 else 2) ∧ (s.deliverPeg i).get PEG_SRC_STATUS.held i = 0
      ∧ (s.deliverPeg i).get PEG_SRC_STATUS.last_target i = t0 ∧ (s.deliverPeg i).get PEG_SRC_STATUS.last_devtime i = s.devtime % 2 ^ 32
      ∧ (s.deliverPeg i).ctr (hostCtr (fnPort (s.get PEG_SRC_CTRL.owner i)) 0) = s.ctr (hostCtr (fnPort (s.get PEG_SRC_CTRL.owner i)) 0) + 1 := by
  have hsent : State.Only [.PWR_STATE_MISC, .HP_LINK_STATUS, .HP_IDE_STATUS] [.ctrs, .cfg, .hosts, .freeCtr, .sent] s
      (s.sendMessage (s.get PEG_SRC_CTRL.owner i) (s.slotEntry i t0)) := (State.sendMessage_within (.refl _ s) _ _ (by decide)).only
  rw [State.deliverPeg_sent hcompat hslots hsend hback]
  obtain ⟨state, held, target, devtime⟩ := State.pegFinished_status hsent hi (by decide) (by decide) (by decide) (s.get PEG_SRC_CTRL.owner i) (s.peg i)
    true (some (s.slotEntry i t0)) (State.slotOrder_lt hslots)
  refine ⟨state, held, target, devtime, ?_⟩
  rw [State.pegFinished_ctr _ hi _ _ _ _ (fnPort_lt (s.pegOwner_lt i)), State.put_ctr, State.sendMessage_counted _ (s.pegOwner_lt i)]

theorem mem_insertNat {n x : Nat} {xs : List Nat} : x ∈ insertNat n xs ↔ x = n ∨ x ∈ xs := by
  induction xs with
  | nil => exact List.mem_cons
  | cons m ms ih =>
    unfold insertNat
    split_ifs with hlt heq
    · exact List.mem_cons
    · simp [heq]
    · simp [ih, or_left_comm]

/-- What a delivery that is held shows: the pending bit of its entry, and no message. -/
theorem State.deliverPeg_held_shows (hi : i < 24576) {t0 : Nat} {ts : List Nat} (hcompat : s.compatFn (s.get PEG_SRC_CTRL.owner i) = false)
    (hslots : s.slotOrder i = t0 :: ts) (hmaster : s.canMaster (s.get PEG_SRC_CTRL.owner i) = false) :
    (s.deliverPeg i).get PEG_SRC_STATUS.state i = (if s.pegAuto i then 0 else 2) ∧ (s.deliverPeg i).get PEG_SRC_STATUS.held i = 1
      ∧ (s.deliverPeg i).get PEG_SRC_STATUS.last_target i = t0
      ∧ (s.deliverPeg i).pbaBit (s.get PEG_SRC_CTRL.owner i) (s.slotEntry i t0) = true ∧ (s.deliverPeg i).sent = s.sent := by
  rw [State.deliverPeg_held hcompat hslots hmaster]
  generalize hu : (((s.setPba (s.get PEG_SRC_CTRL.owner i) (s.slotEntry i t0) true).bump
    (hostCtr (fnPort (s.get PEG_SRC_CTRL.owner i)) 1)).wakeFor (s.get PEG_SRC_CTRL.owner i)) = u
  have hset : State.Only [] [.ctrs, .hosts] (s.setPba (s.get PEG_SRC_CTRL.owner i) (s.slotEntry i t0) true) u :=
    hu ▸ (State.wakeFor_within (State.bump_within (.refl _ _) _ (by decide)) _ (by decide)).only
  have hheld : State.Only [] [.ctrs, .pba, .hosts] s u :=
    (State.Within.only (ks := []) (ps := [.ctrs, .pba, .hosts]) (State.setPba_within (.refl _ s) _ _ _ (by decide))).trans (hset.mono (by simp) (by simp))
  have hfin : State.Only [.PEG_SRC_STATUS, .SCHED_MISS_LOG0, .SCHED_MISS_LOG1] [.ctrs, .pegs] u
      ((u.put PEG_SRC_STATUS.last_target i t0).pegFinished i (s.get PEG_SRC_CTRL.owner i) (s.peg i) false (some (s.slotEntry i t0))) :=
    ((u.put_only PEG_SRC_STATUS.last_target i t0).mono (by simp [PEG_SRC_STATUS.last_target]) (by simp)).trans (State.pegFinished_only ..)
  obtain ⟨state, held, target, -⟩ := State.pegFinished_status hheld hi (by decide) (by decide) (by decide) (s.get PEG_SRC_CTRL.owner i) (s.peg i)
    false (some (s.slotEntry i t0)) (State.slotOrder_lt hslots)
  refine ⟨state, held, target, ?_, (hfin.areas .sent (by decide)).trans (hheld.areas .sent (by decide))⟩
  have hpba : u.pba = (s.setPba (s.get PEG_SRC_CTRL.owner i) (s.slotEntry i t0) true).pba := hset.areas .pba (by decide)
  rw [State.pbaBit, hfin.areas .pba (by decide), hpba]
  exact List.contains_iff_mem.mpr (mem_insertNat.mpr (.inl rfl))

/-- PEG_DELIVERY serves the source that is the sole candidate. -/
theorem State.pegGrant_single (hi : i < 24576) (hvecs : s.vecs = []) (hfreed : s.freed = []) (hpending : s.pendingPegs = [i])
    (hdeliver : s.pegDeliverable i = true) (hclear : s.pegClear i = true) (hopen : s.pegOpen (s.get PEG_SRC_CTRL.owner i) = true) :
    s.pegGrant = (s.servedAt pointPeg (4096 + i)).deliverPeg i := by
  have hcands : s.pegCands = [⟨4096 + i, (s.peg i).key, (s.peg i).deadline.isSome⟩] := by
    simp [State.pegCands, State.freedHeads, hvecs, hfreed, hpending, hdeliver, hclear, hopen]
  rw [State.pegGrant, hcands, State.arbitrate_single]
  dsimp only
  rw [if_neg (by omega), if_pos (by omega), Nat.add_sub_cancel_left]

end

/-! ### Regions that are woken -/

/-- A field that is cleared leaves no other field of its word with more bits set. -/
theorem getBits_setBits_zero_le (w : Word) (lo len lo' len' : Nat) : getBits (setBits w lo len 0) lo' len' ≤ getBits w lo' len' := by
  have hset : setBits w lo len 0 = w &&& ~~~ maskBits lo len := by simp [setBits]
  rw [getBits, getBits, hset, BitVec.extractLsb'_and, BitVec.toNat_and]
  exact Nat.and_le_left

section
variable {s t u : State} {ks : List RegKind} {ps : List Area}

/-- Clearing bits of a power register takes no region further from running. -/
theorem State.clearBits_region_le (s : State) {k : RegKind} (hk : 0 < k.count) (lo len j : Nat) :
    (s.setWord k 0 (setBits (s.word k 0) lo len 0)).region j ≤ s.region j := by
  rw [State.region_eq_place, State.region_eq_place]
  by_cases hj : (regionPlace j).1 = k
  · rw [hj, State.setWord_word_self hk]
    exact getBits_setBits_zero_le ..
  · rw [State.setWord_word_kind hj]

theorem State.setRegion_zero_le (s : State) (r j : Nat) : (s.setRegion r 0).region j ≤ s.region j := by
  rw [State.region_eq_place, State.setRegion_word s r 0 (regionPlace_register j).2.1, ← State.region_eq_place]
  exact s.clearBits_region_le (regionPlace_register r).2.2 ..

theorem State.keepAwake_region (s : State) (r j : Nat) : (s.keepAwake r).region j = s.region j := by
  unfold State.keepAwake
  split <;> rfl

theorem State.wakeRegion_region_le (s : State) (r j : Nat) : (s.wakeRegion r).region j ≤ s.region j := by
  unfold State.wakeRegion
  split
  · exact le_rfl
  · split
    · exact (s.keepAwake_region r j).le
    · exact ((s.keepAwake r).setRegion_zero_le r j).trans (s.keepAwake_region r j).le
    · exact le_rfl
    · exact le_rfl
    · exact le_rfl

theorem State.wakeSlices_region_le (s : State) (ts : List Nat) (j : Nat) : (s.wakeSlices ts).region j ≤ s.region j :=
  State.each_keeps (fun t => t.region j ≤ s.region j) le_rfl ts fun t x k => (t.wakeRegion_region_le (30 + x) j).trans k

/-- Slices that are open stay open as slices are woken. -/
theorem State.wakeSlices_open (h : s.slicesOpen ts = true) (ts' : List Nat) : (s.wakeSlices ts').slicesOpen ts = true := by
  simp only [State.slicesOpen, List.all_eq_true, State.open_, decide_eq_true_eq] at h ⊢
  exact fun x hx => (s.wakeSlices_region_le ts' (30 + x)).trans (h x hx)

end

/-! ### Registers of one kind -/

section
variable {α : Type} {p : Nat × α → Bool} {k : Nat}

theorem Tbl.filter_insert (hp : ∀ v, p (k, v) = false) (t : Tbl α) (v : α) : (Tbl.insert t k v).filter p = t.filter p := by
  induction t with
  | nil => simp [Tbl.insert, hp]
  | cons e t ih =>
    obtain ⟨k', v'⟩ := e
    unfold Tbl.insert
    split
    · simp [hp]
    · split
      next h => subst h; simp [hp]
      · simp [List.filter_cons, ih]

theorem Tbl.filter_erase (hp : ∀ v, p (k, v) = false) (t : Tbl α) : (Tbl.erase t k).filter p = t.filter p := by
  induction t with
  | nil => rfl
  | cons e t ih =>
    obtain ⟨k', v'⟩ := e
    unfold Tbl.erase
    split
    next h => subst h; simp [hp, ih]
    · simp [List.filter_cons, ih]

/-- A write to a key leaves the entries of the others in their order. -/
theorem Tbl.filter_set [DecidableEq α] (hp : ∀ v, p (k, v) = false) (d : α) (t : Tbl α) (v : α) : (Tbl.set d t k v).filter p = t.filter p := by
  unfold Tbl.set
  split
  · exact Tbl.filter_erase hp t
  · exact Tbl.filter_insert hp t v

end

section
variable {s t u : State} {k k' : RegKind}

/-- Registers of a kind that hold another value than their reset value. -/
def State.regsOf (s : State) (k : RegKind) : List (Nat × Word) := s.regs.filter (fun e => e.1 % 256 == k.code)

theorem State.setWord_regsOf (h : k' ≠ k) (s : State) (i : Nat) (w : Word) : (s.setWord k' i w).regsOf k = s.regsOf k := by
  have hcode (v : Word) : ((k'.key i, v).1 % 256 == k.code) = false := by
    simpa [RegKind.key_code] using fun e => h (RegKind.code_inj e)
  unfold State.regsOf State.setWord
  split
  · exact Tbl.filter_set hcode ..
  · rfl

theorem State.setRegion_regsOf (h : k ∉ wakeKinds) (s : State) (r v : Nat) : (s.setRegion r v).regsOf k = s.regsOf k := by
  have hk {k' : RegKind} (hk' : k' ∈ wakeKinds) : k' ≠ k := fun e => h (e ▸ hk')
  have hmisc := State.setWord_regsOf (hk (k' := .PWR_STATE_MISC) (by decide))
  unfold State.setRegion
  split_ifs
  · unfold State.setBayState
    refine (State.setWord_regsOf (hk (k' := .BAY_STATUS) (by decide)) ..).trans ((State.setWord_regsOf (hk (k' := .BAY_STATUS) (by decide)) ..).trans ?_)
    split
    · exact State.setWord_regsOf (hk (by decide)) ..
    · exact State.setWord_regsOf (hk (by decide)) ..
  · exact State.setWord_regsOf (hk (by decide)) ..
  all_goals exact hmisc ..

theorem State.wakeSlices_regsOf (h : k ∉ wakeKinds) (s : State) (ts : List Nat) : (s.wakeSlices ts).regsOf k = s.regsOf k := by
  refine State.each_keeps (fun t => t.regsOf k = s.regsOf k) rfl ts fun t x hx => ?_
  have hawake : (t.keepAwake (30 + x)).regsOf k = t.regsOf k := by
    unfold State.keepAwake
    split <;> rfl
  unfold State.wakeRegion
  split
  · exact hx
  · split
    · exact hawake.trans hx
    · exact (State.setRegion_regsOf h ..).trans (hawake.trans hx)
    all_goals exact hx

theorem State.pendingPegs_eq (s : State) :
    s.pendingPegs = (s.regsOf .PEG_SRC_STATUS).filterMap (fun e => if getBits e.2 0 2 = 1 then some (e.1 / 256) else none) := by
  rw [State.pendingPegs, State.regsOf, List.filterMap_filter]
  refine List.filterMap_congr fun e _ => ?_
  by_cases hc : e.1 % 256 = RegKind.PEG_SRC_STATUS.code <;> simp [hc]

theorem State.backed_eq (s : State) (f e : Nat) :
    s.backed f e = ((f < 4 && decide (e < 2048) && !s.hurt .PEG_VMAP (2048 * f + e) && s.on PEG_VMAP.assigned (2048 * f + e)
      && s.get PEG_VMAP.function_ (2048 * f + e) == f && s.get PEG_VMAP.entry (2048 * f + e) == e)
      || (s.regsOf .PEG_VMAP).any (fun x => getBits x.2 0 10 == f && getBits x.2 10 11 == e && getBits x.2 21 1 == 1
        && !s.hurt .PEG_VMAP (x.1 / 256))) := by
  simp [State.backed, State.regsOf, List.any_filter, Bool.and_assoc]

end

/-! ### Release of held messages (R382) -/

section
variable {s u : State} {f e : Nat}

/-- Waking slices leaves what a message needs to be sent. -/
theorem State.wakeSlices_canSend (s : State) (ts : List Nat) (f e : Nat) : (s.wakeSlices ts).canSend f e = s.canSend f e := by
  have k := s.wakeSlices_only ts
  have hphase : (s.wakeSlices ts).phase = s.phase := k.areas .phase (by decide)
  have hcfg : (s.wakeSlices ts).cfg = s.cfg := k.areas .cfg (by decide)
  have hmsix : (s.wakeSlices ts).msix = s.msix := k.areas .msix (by decide)
  simp only [State.canSend, State.canMaster, State.isUp, State.master, State.hostGone, State.on, State.cfgBit, State.cfgWord, State.msixWord, hphase,
    hcfg, hmsix, k.host (by decide), k.get (F := FUNC_STATE.bme) (by decide), k.get (F := FUNC_STATE.d3hot) (by decide),
    k.get (F := HP_LINK_STATUS.pm_state) (by decide), k.get (F := FUNC_STATE.flr_active) (by decide)]

theorem State.wakeSlices_backed (s : State) (ts : List Nat) (f e : Nat) : (s.wakeSlices ts).backed f e = s.backed f e := by
  have k := s.wakeSlices_only ts
  have hdamaged : (s.wakeSlices ts).damaged = s.damaged := k.areas .damaged (by decide)
  simp only [State.backed_eq, State.wakeSlices_regsOf (k := .PEG_VMAP) (by decide), State.hurt, State.on, hdamaged, k.get (F := PEG_VMAP.assigned) (by decide),
    k.get (F := PEG_VMAP.function_) (by decide), k.get (F := PEG_VMAP.entry) (by decide)]

/-- Message `e` of function `f` is all that is held, it can be sent, and nothing else asks for delivery. -/
structure State.HeldAlone (s : State) (f e : Nat) : Prop where
  entry : e < 2048
  vecs : s.vecs = []
  pending : s.pendingPegs = []
  open_ : s.pegOpen f = true
  plain : s.compatFn f = false
  pba : s.pba = [f * 2048 + e]
  send : s.canSend f e = true
  back : s.backed f e = true

theorem State.HeldAlone.ready (h : s.HeldAlone f e) : s.heldReady f e = true := by
  simp [State.heldReady, h.plain, State.pbaBit, h.pba, h.send, h.back]

/-- The message that is freed asks for delivery, and the slices that it passes are woken. -/
theorem State.HeldAlone.freeHeld (h : s.HeldAlone f e) (hfreed : s.freed = []) :
    s.freeHeld f = State.wakeSlices { s with freed := [⟨f, e, s.implicitKey f⟩] } [1, fnPort f] := by
  have hfn : (f * 2048 + e) / 2048 = f := by have := h.entry; omega
  have hentry : (f * 2048 + e) % 2048 = e := by have := h.entry; omega
  have hheld : s.heldEntries f = [e] := by simp [State.heldEntries, h.plain, h.pba, hfn, hentry, h.ready]
  simp [State.freeHeld, hfreed, hheld]

/-- The message freed is the sole candidate. -/
theorem State.HeldAlone.candidate (h : s.HeldAlone f e) {m : FreedMsg} (hm : m.f = f ∧ m.e = e) (hfreed : s.freed = [m]) :
    s.freedHeads = [m] ∧ s.pegCands = [⟨m.id, m.key, false⟩] := by
  have hheads : s.freedHeads = [m] := by simp [State.freedHeads, hfreed, hm, h.ready, h.open_]
  exact ⟨hheads, by simp [State.pegCands, h.vecs, h.pending, hheads]⟩

theorem State.HeldAlone.wakeSlices (h : s.HeldAlone f e) (ts : List Nat) : (s.wakeSlices ts).HeldAlone f e := by
  have k := s.wakeSlices_only ts
  exact ⟨h.entry, (k.areas .vecs (by decide)).trans h.vecs,
    by rw [State.pendingPegs_eq, State.wakeSlices_regsOf (by decide), ← State.pendingPegs_eq, h.pending],
    State.wakeSlices_open h.open_ ts, (k.compatFn (by decide) f).trans h.plain, (k.areas .pba (by decide)).trans h.pba,
    (s.wakeSlices_canSend ts f e).trans h.send, (s.wakeSlices_backed ts f e).trans h.back⟩

/-- The grant sends the message that was freed. -/
theorem State.HeldAlone.grantFreed (h : s.HeldAlone f e) {m : FreedMsg} (hm : m.f = f ∧ m.e = e) (hfreed : s.freed = [m]) :
    s.grantFreed f 1 = State.sendFreed { s.servedAt pointPeg m.id with freed := [] } f e := by
  obtain ⟨hheads, hcands⟩ := h.candidate hm hfreed
  have hqueue : ¬ m.id < 4096 := by simp only [FreedMsg.id]; omega
  have hsource : ¬ m.id < 28672 := by simp only [FreedMsg.id]; omega
  have hgrant : s.pegGrant = State.sendFreed { s.servedAt pointPeg m.id with freed := [] } f e := by
    have hserved : (s.servedAt pointPeg m.id).freedHeads = [m] := hheads
    have hlist : (s.servedAt pointPeg m.id).freed = [m] := hfreed
    rw [State.pegGrant, hcands, State.arbitrate_single]
    simp [hqueue, hsource, hserved, hlist, hm]
  rw [State.grantFreed, hcands, State.arbitrate_single]
  simp [hheads, hm, State.grantFreed, hgrant]

/-- A message that was held and is sent is counted, and its pending bit is cleared. -/
theorem State.sendFreed_sent (hf : f < 1024) (hcompat : s.compatFn f = false) :
    (s.sendFreed f e).pba = s.pba.filter (fun k => k != f * 2048 + e)
      ∧ (s.sendFreed f e).ctr (hostCtr (fnPort f) 0) = s.ctr (hostCtr (fnPort f) 0) + 1 := by
  generalize hu : (s.sendMessage f e).setPba f e false = u
  have hsent : State.Only [.PWR_STATE_MISC, .HP_LINK_STATUS, .HP_IDE_STATUS] [.ctrs, .cfg, .hosts, .freeCtr, .sent] s (s.sendMessage f e) :=
    (State.sendMessage_within (.refl _ s) _ _ (by decide)).only
  have hkept : State.Only [.PEG_SRC_STATUS] [.pegs, .queues] u (s.sendFreed f e) := by
    unfold State.sendFreed
    simp only [hcompat, Bool.false_eq_true, if_false, hu]
    refine State.Within.only ?_
    refine State.each_keeps (State.Within _ u) (State.each_keeps (State.Within _ u) (.refl _ u) _ fun t x k => ?_) _ fun t x k => ?_
    · exact State.modPeg_within (State.flag_within k _ _ _ (by decide)) _ _ (by decide)
    · exact State.modQueue_within k _ _ (by decide)
  have hpba : (s.sendMessage f e).pba = s.pba := hsent.areas .pba (by decide)
  refine ⟨?_, ?_⟩
  · rw [hkept.areas .pba (by decide), ← hu, State.setPba, hpba]
    rfl
  · rw [hkept.ctr (by decide), ← hu]
    exact s.sendMessage_counted hf e

/-- HELD_MESSAGE_RELEASE sends the message. -/
theorem State.HeldAlone.released (h : s.HeldAlone f e) (hfreed : s.freed = []) (hf : f < 1024) :
    (s.releaseHeld f).pba = [] ∧ (s.releaseHeld f).ctr (hostCtr (fnPort f) 0) = s.ctr (hostCtr (fnPort f) 0) + 1 := by
  generalize hu : State.wakeSlices { s with freed := [⟨f, e, s.implicitKey f⟩] } [1, fnPort f] = u
  have hnoted : State.HeldAlone { s with freed := [⟨f, e, s.implicitKey f⟩] } f e :=
    ⟨h.entry, h.vecs, h.pending, h.open_, h.plain, h.pba, h.send, h.back⟩
  have hheld : u.HeldAlone f e := hu ▸ hnoted.wakeSlices _
  have hwoken : State.Only wakeKinds [.plumb, .waking] { s with freed := [⟨f, e, s.implicitKey f⟩] } u := hu ▸ State.wakeSlices_only _ _
  have hlist : u.freed = [⟨f, e, s.implicitKey f⟩] := hwoken.areas .freed (by decide)
  have heq : s.releaseHeld f = State.sendFreed { u.servedAt pointPeg (FreedMsg.mk f e (s.implicitKey f)).id with freed := [] } f e := by
    rw [State.releaseHeld, h.freeHeld hfreed, hu, hlist]
    simpa using hheld.grantFreed ⟨rfl, rfl⟩ hlist
  obtain ⟨pba, ctr⟩ := State.sendFreed_sent (s := { u.servedAt pointPeg (FreedMsg.mk f e (s.implicitKey f)).id with freed := [] }) (e := e) hf hheld.plain
  rw [heq]
  refine ⟨pba.trans ?_, ctr.trans ?_⟩
  · show u.pba.filter _ = []
    simp [hheld.pba]
  · exact congrArg (· + 1) (hwoken.ctr (by decide) _)

end

/-- Settles O51: the effects of a raise and of an end of service, delivery through the first slot in turn, and the message released. -/
theorem interruptsFlow : Obligations.InterruptsFlow := by
  unfold Obligations.InterruptsFlow
  intro s a i f t0 ts
  refine ⟨fun hw => ?commands, fun hup hvecs hfreed hpending hdeliver hclear hopen hcompat hslots => ?delivery,
    fun e he hup hvecs hfreed hpending hopen hcompat hpba hsend hback => ?release⟩
  case commands =>
    have hraise : exec (.raise a i) s = .next (s.raisePeg i none none) := congrArg Host.Outcome.next hw.raise
    have heos : exec (.eos a i) s = .next (s.eosPeg i) := congrArg Host.Outcome.next hw.eos
    refine ⟨fun hon => ?raised, fun hoff => ⟨_, hraise, ?disabled⟩, fun hauto => ?ended⟩
    case raised =>
      obtain ⟨fresh, service, merged⟩ := s.raisePeg_effects i.isLt hon
      exact ⟨fun h => ⟨_, hraise, (fresh h).1, (fresh h).2.woken, (fresh h).2.steady⟩,
        fun h => ⟨_, hraise, (service h).1, (service h).2.woken, (service h).2.steady⟩,
        fun h => ⟨_, hraise, (merged h).1, (merged h).2.woken, (merged h).2.steady⟩⟩
    case disabled =>
      have hbump : s.raisePeg i none none = s.bump (portCtr (s.pegPort i) 25) := by simp [State.raisePeg, hoff]
      rw [hbump]
      exact ⟨State.bump_ctr_self .., s.bump_only _⟩
    case ended =>
      obtain ⟨service, both, idle⟩ := s.eosPeg_effects i.isLt hauto
      exact ⟨fun h => ⟨_, heos, service h⟩, fun h => ⟨_, heos, (both h).1, (both h).2.woken, (both h).2.steady⟩,
        fun h => ⟨_, heos, (idle h).symm ▸ .refl _ _ s⟩⟩
  case delivery =>
    have hexec : exec .pegDelivery s = .next ((s.servedAt pointPeg (4096 + i)).deliverPeg i) := by
      rw [← State.pegGrant_single i.isLt hvecs hfreed hpending hdeliver hclear hopen]
      exact congrArg Host.Outcome.next (if_pos hup)
    exact ⟨fun hsend hback => ⟨_, hexec, State.deliverPeg_sent_shows (s := s.servedAt pointPeg (4096 + i)) i.isLt hcompat hslots hsend hback⟩,
      fun hmaster => ⟨_, hexec, State.deliverPeg_held_shows (s := s.servedAt pointPeg (4096 + i)) i.isLt hcompat hslots hmaster⟩⟩
  case release =>
    have hexec : exec (.heldMessageRelease f) s = .next (s.releaseHeld f) := congrArg Host.Outcome.next (if_pos hup)
    exact ⟨_, hexec, State.HeldAlone.released ⟨he, hvecs, hpending, hopen, hcompat, hpba, hsend, hback⟩ hfreed f.isLt⟩

end Sys2Proof.Machine
end

/-! Regions: a region that runs is kept running by everything that can go on once it has been woken, idle clocks are gated, and a port whose
wake tone is detected wakes. -/

section
namespace Sys2Proof.Machine

/-! ### What keeps a region running (R89, R92) -/

/-- Region `r`, whose code no bay's register holds, runs and is not being woken. -/
structure State.Runs (r : Nat) (s : State) : Prop where
  place : (regionPlace r).1 = .PWR_STATE_EG ∨ (regionPlace r).1 = .PWR_STATE_MISC
  code : s.region r = 0
  calm : r ∉ s.waking

section
variable {r : Nat} {s t : State}

/-- Operations that leave the state codes of the core, the slices and the controllers, and what is being woken. -/
theorem State.Runs.beside (k : s.Runs r) (w : State.Within (besideMask [.PWR_STATE_EG, .PWR_STATE_MISC] [.waking]) s t) : t.Runs r := by
  have hword : t.word (regionPlace r).1 0 = s.word (regionPlace r).1 0 := by
    rcases k.place with h | h <;> rw [h]
    · exact w.words _ (by decide) 0
    · exact w.words _ (by decide) 0
  have hwaking : t.waking = s.waking := w.areas .waking (by decide)
  exact ⟨k.place, by rw [State.region_eq_place, hword, ← State.region_eq_place]; exact k.code, hwaking ▸ k.calm⟩

theorem State.setRegion_only (s : State) (r v : Nat) : State.Only wakeKinds [] s (s.setRegion r v) :=
  (State.setRegion_within (.refl _ s) r v (by decide)).only

theorem State.setRegion_waking (s : State) (r v : Nat) : (s.setRegion r v).waking = s.waking := (s.setRegion_only r v).areas .waking (by decide)

theorem State.keepAwake_waking (s : State) (r : Nat) : (s.keepAwake r).waking = s.waking := by
  unfold State.keepAwake
  split <;> rfl

/-- A region that is being woken was so, or has begun to be because it did not run. -/
theorem State.wakeRegion_waking {j : Nat} (h : r ∈ (s.wakeRegion j).waking) : r ∈ s.waking ∨ (r = j ∧ s.region j ≠ 0) := by
  unfold State.wakeRegion at h
  split at h
  · exact .inl h
  · split at h
    · exact .inl (s.keepAwake_waking j ▸ h)
    · rw [State.setRegion_waking, State.keepAwake_waking] at h
      exact .inl h
    · exact (mem_insertNat.mp h).symm.imp_right fun e => ⟨e, by omega⟩
    · exact (mem_insertNat.mp h).symm.imp_right fun e => ⟨e, by omega⟩
    · exact .inl h

/-- Waking a region leaves another one that runs, and one that runs already is not woken. -/
theorem State.Runs.wakeRegion (k : s.Runs r) (j : Nat) : (s.wakeRegion j).Runs r where
  place := k.place
  code := Nat.le_zero.mp ((s.wakeRegion_region_le j r).trans k.code.le)
  calm := fun h => (State.wakeRegion_waking h).elim k.calm fun ⟨e, hj⟩ => hj (e ▸ k.code)

theorem State.Runs.wakeSlices (k : s.Runs r) (ts : List Nat) : (s.wakeSlices ts).Runs r :=
  State.each_keeps (State.Runs r) k ts fun _ _ k => k.wakeRegion _

/-! ### Writes to host memory -/

theorem State.Runs.ungateHcr (k : s.Runs r) (h : Nat) : (s.ungateHcr h).Runs r := by
  have hrun {t : State} (k : t.Runs r) : (t.setHcrState h 0).Runs r :=
    ⟨k.place, Nat.le_zero.mp ((t.clearBits_region_le (k := .PWR_STATE_MISC) (by decide) _ _ r).trans k.code.le), by
      rw [State.setHcrState, State.setWord_waking]
      exact k.calm⟩
  have hfree : s.freeWord.2.Runs r := ⟨k.place, k.code, k.calm⟩
  unfold State.ungateHcr State.pllFails
  split
  · dsimp only
    split
    · exact hrun (hfree.beside (State.bump_within (.refl _ _) _ (by decide)))
    · exact hrun hfree
  · exact k

theorem State.Runs.leaveL1 (k : s.Runs r) (h : Nat) : (s.leaveL1 h).Runs r := by
  unfold State.leaveL1
  split
  · refine State.Runs.beside (State.Runs.ungateHcr (k.beside ?_) h) (State.modHost_within (.refl _ _) h _ (by decide))
    exact State.put_within (State.put_within (.refl _ s) _ _ _ (by decide)) _ _ _ (by decide)
  · exact k

theorem State.Runs.onStreamOfBad (k : s.Runs r) (f : Nat) (bad : Bool) (st : Option Nat) :
    (((s.noteBad f bad).leaveL1 (fnPort f)).onStream (fnPort f) st).Runs r :=
  ((k.beside (State.noteBad_within (.refl _ s) f bad (by decide))).leaveL1 _).beside
    (State.onStream_within (.refl _ _) _ st (by decide))

theorem State.Runs.emitTlp (k : s.Runs r) (f : Nat) (o : Output) : (s.emitTlp f o).Runs r :=
  k.beside (State.emitTlp_within (.refl _ s) f o (by decide))

theorem State.Runs.hostWrite (k : s.Runs r) (f : Nat) (pasid : Option Nat) (addr : Nat) (data : List Byte) (bad : Bool) :
    (s.hostWrite f pasid addr data bad).Runs r := by
  unfold State.hostWrite
  dsimp only
  split
  · exact k
  · exact State.each_keeps (State.Runs r) (k.onStreamOfBad f bad _) _ fun _ _ k => k.emitTlp _ _

theorem State.Runs.hostWriteSparse (k : s.Runs r) (f : Nat) (pasid : Option Nat) (addr be : Nat) (data : List Byte) (bad : Bool) :
    (s.hostWriteSparse f pasid addr be data bad).Runs r := by
  unfold State.hostWriteSparse
  dsimp only
  split
  · exact k
  · exact (k.onStreamOfBad f bad _).emitTlp _ _

theorem State.Runs.missAt (k : s.Runs r) (key f kind p v : Nat) (extra : List Nat) : (s.missAt key f kind p v extra).Runs r :=
  k.beside (State.missAt_within (.refl _ s) key f kind p v extra (by decide))

theorem State.Runs.sendPost (k : s.Runs r) (q : HReq) : (s.sendPost q).Runs r := by
  unfold State.sendPost
  split
  · dsimp only
    split <;> split
    · exact (k.hostWriteSparse ..).missAt ..
    · exact (k.hostWrite ..).missAt ..
    · exact k.hostWriteSparse ..
    · exact k.hostWrite ..
  · exact k

theorem State.Runs.drainPosts (h n : Nat) (k : s.Runs r) : (s.drainPosts h n).Runs r := by
  induction n generalizing s with
  | zero => exact k
  | succ n ih =>
    unfold State.drainPosts
    split
    · exact k
    · exact ih ((k.beside (State.modHost_within (.refl _ s) h _ (by decide))).sendPost _)

theorem State.Runs.drainWrites (k : s.Runs r) (h : Nat) : (s.drainWrites h).Runs r := k.drainPosts h _

theorem State.Runs.callHost (k : s.Runs r) (ts : List Nat) (f : Nat) : (s.callHost ts f).Runs r := (k.wakeSlices _).leaveL1 _

theorem State.Runs.askHost (k : s.Runs r) (q : HReq) : (s.askHost q).Runs r :=
  ((k.callHost _ _).beside (State.modHost_within (.refl _ _) _ _ (by decide))).drainWrites _

/-! ### Frames that are queued -/

theorem State.Runs.modPort (k : s.Runs r) (p : Nat) (g : PortDyn → PortDyn) : (s.modPort p g).Runs r :=
  k.beside (State.modPort_within (.refl _ s) p g (by decide))

theorem State.Runs.wakePort (k : s.Runs r) (p : Nat) : (s.wakePort p).Runs r := by
  unfold State.wakePort
  dsimp only
  split
  · exact (((k.wakeRegion _).modPort p _).wakeRegion _).beside (State.trainWoken_within (.refl _ _) p (by decide))
  · exact (k.wakeRegion _).wakeRegion _

theorem State.Runs.pump (k : s.Runs r) (p : Nat) : (s.pump p).Runs r := k.beside (State.pump_within (.refl _ s) p (by decide))

theorem State.Runs.enqueue (k : s.Runs r) (p : Nat) (e : EgFrame) : (s.enqueue p e).Runs r :=
  (((k.modPort p _).wakePort p).wakeSlices _).pump p

end

section
variable {r : Nat} {s t : State}

/-! ### Entries and channels -/

theorem State.Runs.put (k : s.Runs r) (F : Fld) (i v : Nat) (hF : F.reg ∉ wakeKinds) : (s.put F i v).Runs r where
  place := k.place
  code := by
    rw [(s.put_only F i v).region fun x hx e => hF (List.mem_singleton.mp e ▸ hx)]
    exact k.code
  calm := by
    rw [State.put_waking]
    exact k.calm

theorem State.Runs.modQueue (k : s.Runs r) (q : Nat) (g : QDyn → QDyn) : (s.modQueue q g).Runs r :=
  k.beside (State.modQueue_within (.refl _ s) q g (by decide))

theorem State.Runs.modEng (k : s.Runs r) (e : Nat) (g : EngDyn → EngDyn) : (s.modEng e g).Runs r :=
  k.beside (State.modEng_within (.refl _ s) e g (by decide))

theorem State.Runs.bump (k : s.Runs r) (o : Nat) : (s.bump o).Runs r := k.beside (State.bump_within (.refl _ s) o (by decide))

theorem State.Runs.joinVector (k : s.Runs r) (q key : Nat) (tagged : Bool) : (s.joinVector q key tagged).Runs r := k.modQueue ..

theorem State.Runs.askVector (k : s.Runs r) (q key : Nat) (tagged : Bool) : (s.askVector q key tagged).Runs r :=
  State.Runs.wakeSlices (s := { s with vecs := s.vecs ++ [VecReq.mk q key tagged] }) ⟨k.place, k.code, k.calm⟩ _

theorem State.Runs.sendVector (k : s.Runs r) (q : Nat) : (s.sendVector q).Runs r := by
  unfold State.sendVector
  extract_lets due counted
  have hcounted : counted.Runs r :=
    State.Runs.modQueue (State.Runs.beside (k.put Q_COAL.pending q 0 (by decide)) (State.disarm_within (.refl _ _) (.coalesce q) (by decide))) q _
  split
  · exact hcounted.askVector ..
  · exact hcounted

theorem State.Runs.signalEntry (k : s.Runs r) (q : Nat) (e : Entry) : (s.signalEntry q e).Runs r := by
  unfold State.signalEntry
  extract_lets joined n time count pending limit
  have hpending : pending.Runs r := (k.joinVector ..).put Q_COAL.pending q _ (by decide)
  split
  · exact (k.joinVector ..).sendVector q
  · split
    · exact k
    · split
      · exact hpending.sendVector q
      · exact hpending.beside (State.timeEntry_within (.refl _ _) q n (by decide))

theorem State.Runs.writeEntry (k : s.Runs r) (q : Nat) (e : Entry) : (s.writeEntry q e).Runs r :=
  State.Runs.signalEntry (State.Runs.beside (k.hostWrite ..) (State.advanceHeads_within (.refl _ _) q _ (by decide))) q e

theorem State.Runs.callEntry (k : s.Runs r) (q : Nat) : (s.callEntry q).Runs r := by
  unfold State.callEntry
  split
  · exact k.callHost ..
  · exact k

theorem State.Runs.writeHeld (k : s.Runs r) (q : Nat) : (s.writeHeld q).Runs r := by
  unfold State.writeHeld
  split
  · dsimp only
    split
    · exact k
    · split
      · exact ((k.callEntry q).beside (State.clearHeld_within (.refl _ _) q (by decide))).writeEntry q _
      · exact k.callEntry q
  · exact k

theorem State.Runs.tryHeld (k : s.Runs r) (q : Nat) : (s.tryHeld q).Runs r := by
  unfold State.tryHeld
  split
  · exact k
  · dsimp only
    split
    · split
      · exact (k.writeHeld q).beside (State.settleState_within (.refl _ _) q (by decide))
      · exact k.writeHeld q
    · exact k

theorem State.Runs.holdEntry (k : s.Runs r) (q : Nat) (e : Entry) : (s.holdEntry q e).Runs r :=
  k.beside (State.holdEntry_within (.refl _ s) q e (by decide))

theorem State.Runs.settleEntry (k : s.Runs r) (q : Nat) : (s.settleEntry q).Runs r := by
  unfold State.settleEntry
  split
  · exact k
  next e _ =>
    extract_lets called
    have hcalled : called.Runs r := k.callEntry q
    split_ifs
    · exact k
    · exact k.holdEntry ..
    · exact k
    · exact k.holdEntry ..
    · exact k
    · exact (k.put Q_STATE.cq_wait q 1 (by decide)).bump _
    · exact hcalled
    · exact (hcalled.modQueue q _).writeEntry q e
    · refine State.Runs.beside (State.Runs.writeEntry ?_ q e) (State.endDescriptor_within (.refl _ _) q (by decide))
      exact hcalled.beside (State.countMiss_within (.refl _ _) q e (by decide))

theorem State.Runs.errorHalt (k : s.Runs r) (q status addr dir space source : Nat) : (s.errorHalt q status addr dir space source).Runs r := by
  unfold State.errorHalt
  extract_lets st rejected
  split
  · split
    · exact k.bump _
    · exact k
  · split
    · exact k
    next c _ =>
      extract_lets recorded addressed informed indexed due drained
      have hrejected : rejected.Runs r := by
        unfold rejected
        split
        · exact k.put Q_STATE.cmd_rejected q 1 (by decide)
        · exact k
      have hrecorded : recorded.Runs r :=
        (hrejected.beside (State.recordResume_within (.refl _ _) q c (by decide))).beside (State.loseExt_within (.refl _ _) q (by decide))
      have hinformed : informed.Runs r :=
        ((((hrecorded.put Q_ERR_ADDR.addr q addr (by decide)).put Q_ERR_INFO.status q status (by decide)).put Q_ERR_INFO.dir q dir (by decide)).put
          Q_ERR_INFO.space q space (by decide)).put Q_ERR_INFO.source q source (by decide)
      have hindexed : indexed.Runs r := (hinformed.put Q_ERR_INFO.index q c.d.idx (by decide)).put Q_STATE.state q 7 (by decide)
      have hdue : due.Runs r := hindexed.modQueue q _
      have hdrained : drained.Runs r := by
        unfold drained
        split
        · exact hdue.beside (State.drainEngine_within (.refl _ _) _ (by decide))
        · exact hdue
      exact hdrained.settleEntry q

theorem State.Runs.kick (k : s.Runs r) (q : Nat) : (s.kick q).Runs r := by
  unfold State.kick
  split
  · exact k
  · split
    · split
      · exact (k.modQueue q _).errorHalt ..
      · split
        · exact k.modQueue q _
        · exact k
    · exact k

theorem State.Runs.finishEntry (k : s.Runs r) (q : Nat) : (s.finishEntry q).Runs r := (k.settleEntry q).kick q

theorem State.Runs.tryEntry (k : s.Runs r) (q : Nat) : (s.tryEntry q).Runs r := (k.tryHeld q).finishEntry q

theorem State.Runs.retryEntries (k : s.Runs r) : s.retryEntries.Runs r := State.each_keeps (State.Runs r) k _ fun _ q k => k.tryEntry q

/-! ### Engines -/

theorem State.Runs.ledgerHalt (k : s.Runs r) (q a : Nat) (denied write : Bool) : (s.ledgerHalt q a denied write).Runs r := k.errorHalt ..

theorem State.Runs.limited (k : s.Runs r) {e q n p : Nat} {write : Bool} {at_ : Option Nat} (h : s.limited e q n p write at_ = some t) : t.Runs r :=
  k.beside (State.limited_within (.refl _ s) e q n p write at_ (by decide) t h)

theorem State.Runs.readStep (k : s.Runs r) (e q : Nat) (c : Current) (at_ : Option Nat) : (s.readStep e q c at_).after.Runs r := by
  unfold State.readStep
  extract_lets d side f x a n n'
  split_ifs
  · exact k
  · exact k
  · split
    · exact k.ledgerHalt ..
    · exact k.ledgerHalt ..
    · dsimp only
      split
      · exact k
      · split
        · exact k
        next h => exact (((k.limited h).modPort _ _).modEng e _).enqueue _ _
  · exact k
  · exact (k.modEng e _).askHost _

theorem State.Runs.wrote (k : s.Runs r) (e q : Nat) (c : Current) (x n : Nat) : (s.wrote e q c x n).Runs r :=
  k.beside (State.wrote_within (.refl _ s) e q c x n (by decide))

theorem State.Runs.writeStep (k : s.Runs r) (e q : Nat) (c : Current) (at_ : Option Nat) : (s.writeStep e q c at_).after.Runs r := by
  unfold State.writeStep
  extract_lets d side f x a n data called
  have hcalled : called.Runs r := k.callHost ..
  split_ifs
  · exact k
  · exact k
  · split
    · exact k.ledgerHalt ..
    · exact k.ledgerHalt ..
    · dsimp only
      split
      · exact k
      next h => exact (((k.limited h).modQueue q _).wrote e q c _ _).enqueue _ _
  · exact k
  · exact hcalled
  · exact (hcalled.hostWrite ..).wrote e q c _ _

theorem State.Runs.nextPiece (k : s.Runs r) (e q : Nat) (c : Current) : (s.nextPiece e q c).2.Runs r := by
  have finish (status : Nat) : (s.finishRun e q status).Runs r :=
    (((k.modQueue q _).beside (State.releaseEngine_within (.refl _ _) e (by decide))).bump _).finishEntry q
  unfold State.nextPiece
  extract_lets b quit
  split_ifs
  · exact finish _
  · exact finish _
  · exact finish _
  · split
    · exact k
    · split_ifs
      · exact finish _
      · exact k.beside (State.beginPiece_within (.refl _ s) e q _ (by decide))

theorem State.Runs.startPace (k : s.Runs r) (e : Nat) : (s.startPace e).Runs r := k.beside (State.startPace_within (.refl _ s) e (by decide))

theorem State.Runs.endPace (k : s.Runs r) (e : Nat) : (s.endPace e).Runs r := k.beside (State.endPace_within (.refl _ s) e (by decide))

theorem State.Runs.stepped {x y : EngStep} (h : x.after.Runs r) (e : x = y) : y.after.Runs r := e ▸ h

theorem State.Runs.runFor (e q fuel : Nat) (at_ : Option Nat) (k : s.Runs r) : (s.runFor e q fuel at_).Runs r := by
  induction fuel generalizing s with
  | zero => exact k
  | succ fuel ih =>
    unfold State.runFor
    split
    · exact k
    next c _ =>
      have hwrite := k.writeStep e q c at_
      have hread {t : State} (ht : t.Runs r) := ht.readStep e q c at_
      split
      · exact k
      · split
        next t hstep => exact ih (State.Runs.endPace (hwrite.stepped hstep) e)
        next t hstep => exact hwrite.stepped hstep
        next t hstep =>
          have ht : t.Runs r := hwrite.stepped hstep
          split
          next u hu => exact ih ((hread ht).stepped hu)
          next u hu => exact (hread ht).stepped hu
          next u hu => exact State.Runs.startPace ((hread ht).stepped hu) e
          next u hu => exact State.Runs.startPace ((hread ht).stepped hu) e
        next t hstep =>
          have ht : t.Runs r := hwrite.stepped hstep
          split
          next u hu => exact ih (State.Runs.endPace ((hread ht).stepped hu) e)
          next u hu => exact (hread ht).stepped hu
          next u hu => exact State.Runs.startPace ((hread ht).stepped hu) e
          next u hu =>
            have hlast : u.Runs r := (hread ht).stepped hu
            have hnext := hlast.nextPiece e q c
            split
            · dsimp only
              split
              · exact ih hnext
              · exact hnext
            · exact hlast

theorem State.Runs.runEngine (k : s.Runs r) (e : Nat) (at_ : Option Nat) : (s.runEngine e at_).Runs r := by
  unfold State.runEngine
  split
  · exact k
  · exact (k.runFor ..).beside (State.noteEngine_within (.refl _ _) e (by decide))

theorem State.Runs.runEngines (k : s.Runs r) : s.runEngines.Runs r := State.each_keeps (State.Runs r) k _ fun _ e k => k.runEngine e none

/-! ### Once a region has been woken (R89) -/

theorem State.Runs.unmask (k : s.Runs r) : s.unmask.Runs r := by
  unfold State.unmask
  dsimp only
  refine (State.Runs.runEngines (State.each_keeps (State.Runs r) (State.each_keeps (State.Runs r) k _ fun t h k => ?_) _ fun t p k => ?_)).retryEntries
  · exact k.drainWrites h
  · exact k.pump p

theorem State.Runs.restBays (k : s.Runs r) : s.restBays.Runs r := k.beside (State.restBays_within (.refl _ s) (by decide))

/-- What a region that runs again lets go on leaves it running, where no register access and no commit waits. -/
theorem State.Runs.regionsRun (k : s.Runs r) (hring : s.ring = []) (hcommits : s.commits = []) : s.regionsRun.Runs r := by
  have hrun : s.runRing = s := by
    simp only [State.runRing, hring]
    cases s
    cases hring
    rfl
  have hnext : s.nextCommits = s := by simp [State.nextCommits, hcommits, State.runCommits]
  rw [State.regionsRun, hrun, hnext]
  exact k.unmask.restBays

end

/-! ### Clocks that are gated (R89) -/

section
variable {s t u : State} {r p : Nat}

/-- The code of an engine group, a slice or the core is all that its state changes. -/
theorem State.setRegion_coded (s : State) (hlo : 24 ≤ r) (hhi : r ≤ 34) (v : Nat) :
    State.Only [.PWR_STATE_EG, .PWR_STATE_MISC] [] s (s.setRegion r v) := by
  unfold State.setRegion
  rw [if_neg (by omega)]
  split_ifs
  · exact (s.setWord_only ..).mono (by simp) (by simp)
  · exact (s.setWord_only ..).mono (by simp) (by simp)
  · exact (s.put_only PWR_STATE_MISC.core 0 v).mono (by simp [PWR_STATE_MISC.core]) (by simp)
  all_goals omega

/-- A region without activity is gated. -/
theorem State.gateIdle_gated (hlo : 24 ≤ r) (hhi : r ≤ 34) (hup : s.isUp = true) (hrun : s.region r = 0) (hidle : s.inactive r = true)
    (hheld : s.plumb.held = []) : s.gateIdle r = s.setRegion r 1 :=
  if_pos ⟨hlo, hhi, hup, hrun, hidle, by rw [hheld]; rfl⟩

/-! ### Regions that begin to be woken -/

/-- Waking a region leaves the state of every other one. -/
theorem State.wakeRegion_region_other {j : Nat} (hr : r < 44) (hj : j < 44) (h : j ≠ r) (s : State) : (s.wakeRegion r).region j = s.region j := by
  unfold State.wakeRegion
  split
  · rfl
  · split
    · exact s.keepAwake_region r j
    · exact (State.setRegion_region_other _ hr hj h).trans (s.keepAwake_region r j)
    all_goals rfl

/-- A region that is being woken is so still as another is woken. -/
theorem State.wakeRegion_waking_mono {j : Nat} (h : j ∈ s.waking) (r : Nat) : j ∈ (s.wakeRegion r).waking := by
  unfold State.wakeRegion
  split
  · exact h
  · split
    · exact (s.keepAwake_waking r).symm ▸ h
    · rw [State.setRegion_waking, State.keepAwake_waking]
      exact h
    · exact mem_insertNat.mpr (.inr h)
    · exact mem_insertNat.mpr (.inr h)
    · exact h

/-- A region whose clocks are not gated has the state that it had, until its waking is complete. -/
theorem State.wakeRegion_region_self (h : s.region r ≠ 1) : (s.wakeRegion r).region r = s.region r := by
  unfold State.wakeRegion
  split
  · rfl
  · split
    · exact s.keepAwake_region r r
    · exact absurd ‹_› h
    all_goals rfl

/-- A region that is being put to sleep or sleeps is woken. -/
theorem State.wakeRegion_begins (hclk : s.phase ≠ .deferring) (h : s.region r = 2 ∨ s.region r = 3) : r ∈ (s.wakeRegion r).waking := by
  rcases h with h | h <;> simp only [State.wakeRegion, hclk, h, if_false] <;> exact mem_insertNat.mpr (.inl rfl)

/-! ### A port that wakes (R313) -/

theorem State.Only.portMayServe {ks : List RegKind} {ps : List Area} (h : State.Only ks ps s t) (hk : .BRACE_DSTATE ∉ ks) (p : Nat) :
    t.portMayServe p = s.portMayServe p := by
  simp only [State.portMayServe, State.mayServe, State.inRecovery, State.on, h.get (F := BRACE_DSTATE.state) hk, h.get (F := BRACE_DSTATE.severe) hk]

/-- A port that may return to service trains. -/
theorem State.startTraining_trains (hp : p < 96) (h : s.portMayServe p = true) : PortTrains p (s.startTraining p) := by
  unfold State.startTraining
  rw [if_neg (by simp [h])]
  extract_lets entered fresh lanes
  have hentered : entered.get JP_STATUS.link_state p = 2 := by
    unfold entered
    rw [State.get_put_beside (F := JP_STATUS.rx_doze) (G := JP_STATUS.link_state) rfl (by decide),
      State.get_put_beside (F := JP_STATUS.tx_doze) (G := JP_STATUS.link_state) rfl (by decide),
      State.get_put_kind (F := JP_CTRL.retrain) (G := JP_STATUS.link_state) (by decide)]
    exact State.get_put_self hp (by decide)
  have hfresh : State.Within (listMask [.JL_STATUS] [.ports, .lanes]) entered fresh :=
    .each (.refl _ _) _ fun _ _ k => State.modPort_within k _ _ (by decide)
  have hlanes : State.Within (listMask [.JL_STATUS] [.ports, .lanes]) entered lanes :=
    .each hfresh _ fun _ _ k => State.bringUpLane_within k _ (by decide)
  refine ⟨?_, by rw [State.armed, State.arm_due_self]; rfl⟩
  rw [State.arm_get, hlanes.only.get (F := JP_STATUS.link_state) (by decide), hentered]

/-- The state in which a sleeping port judges whether it can train at once: its bay and its slice have been called. -/
def State.toneHeard (s : State) (p : Nat) : State :=
  ((s.modPort p (fun d => { d with waking := true, tone := false })).wakeRegion (bayOf p)).wakeRegion (30 + sliceOf p)

theorem State.toneDetected_sleeping (h : s.get JP_STATUS.link_state p = 4) : s.toneDetected p = (s.toneHeard p).trainWoken p := by
  simp [State.toneDetected, State.toneHeard, h]

theorem State.toneHeard_only (s : State) (p : Nat) : State.Only wakeKinds [.plumb, .waking]
    (s.modPort p (fun d => { d with waking := true, tone := false })) (s.toneHeard p) :=
  (State.wakeRegion_only _ _).trans (State.wakeRegion_only _ _)

theorem State.toneHeard_port (s : State) (p : Nat) : ((s.toneHeard p).port p).waking = true ∧ ((s.toneHeard p).port p).tone = false := by
  have hport : (s.toneHeard p).port p = (s.modPort p (fun d => { d with waking := true, tone := false })).port p :=
    congrArg (Tbl.get PortDyn.reset · p) ((s.toneHeard_only p).areas .ports (by decide))
  rw [hport, State.modPort_port_self]
  exact ⟨rfl, rfl⟩

/-- Registers beside the power states are as they were. -/
theorem State.toneHeard_get (s : State) (p : Nat) {F : Fld} (hF : F.reg ∉ wakeKinds) (i : Nat) : (s.toneHeard p).get F i = s.get F i :=
  ((s.toneHeard_only p).get hF i).trans (State.modPort_get ..)

theorem State.region_bay (s : State) (hp : p < 96) : s.region (bayOf p) = s.bayState (bayOf p) := by
  have : bayOf p < 24 := by simp only [bayOf]; omega
  simp [State.region, this]

theorem bayOf_slice (hp : p < 96) : bayOf p < 24 ∧ 30 + sliceOf p < 34 := by
  simp only [bayOf, sliceOf]
  omega

/-- A sleeping bay is woken. -/
theorem State.toneHeard_bay (hp : p < 96) (hclk : s.phase ≠ .deferring) (h : s.bayState (bayOf p) = 2 ∨ s.bayState (bayOf p) = 3) :
    bayOf p ∈ (s.toneHeard p).waking := by
  refine State.wakeRegion_waking_mono (State.wakeRegion_begins ?_ ?_) _
  · exact hclk
  · rw [State.region_bay _ hp]
    exact h

/-- The bay, where its clocks are not gated, has the state that it had. -/
theorem State.toneHeard_bayState (hp : p < 96) (h : s.bayState (bayOf p) ≠ 1) : (s.toneHeard p).bayState (bayOf p) = s.bayState (bayOf p) := by
  obtain ⟨hbay, hslice⟩ := bayOf_slice hp
  rw [← State.region_bay _ hp, ← State.region_bay _ hp, State.toneHeard, State.wakeRegion_region_other (by omega) (by omega) (by omega)]
  exact State.wakeRegion_region_self (by rwa [State.modPort_region, State.region_bay _ hp])

theorem State.trainWoken_asleep (h : s.bayState (bayOf p) ≠ 0) : s.trainWoken p = s := by simp [State.trainWoken, h]

/-- A port whose bay runs trains once the far end's tone has woken it. -/
theorem State.trainWoken_trains (hp : p < 96) (hwaking : (s.port p).waking = true) (htone : (s.port p).tone = false)
    (hlink : s.get JP_STATUS.link_state p = 4) (hbay : s.bayState (bayOf p) = 0) (hserve : s.portMayServe p = true) :
    PortTrains p (s.trainWoken p) := by
  have hcond : ((s.port p).waking && s.get JP_STATUS.link_state p == 4 && s.bayState (bayOf p) == 0) = true := by simp [hwaking, hlink, hbay]
  unfold State.trainWoken
  rw [if_pos hcond]
  dsimp only
  split
  · rw [if_neg (by simp [htone])]
    exact State.startTraining_trains hp hserve
  · rw [if_neg (by simp [htone])]
    exact State.startTraining_trains hp hserve

/-- The registers of the regions above the bays are none of the bays'. -/
theorem regionPlace_coded (hlo : 24 ≤ r) : (regionPlace r).1 = .PWR_STATE_EG ∨ (regionPlace r).1 = .PWR_STATE_MISC := by
  unfold regionPlace
  rw [if_neg (by omega), if_neg (by omega)]
  split_ifs <;> simp

end

/-! ### A region that has been woken -/

section
variable {s : State} {r : Nat}

/-- A region that was being woken runs, whatever goes on then. -/
theorem State.wakeComplete_runs (hlo : 24 ≤ r) (hhi : r < 44) (hclk : s.phase ≠ .deferring) (hwaking : s.waking.contains r = true)
    (hregion : s.region r = 2 ∨ s.region r = 3) (hring : s.ring = []) (hcommits : s.commits = []) : (s.wakeComplete r).Runs r := by
  generalize hv : { s with waking := s.waking.filter (fun x => x != r) } = v
  have hcalm : r ∉ v.waking := by rw [← hv]; simp
  have hsame : v.region r = 2 ∨ v.region r = 3 := hv ▸ hregion
  have heq : s.wakeComplete r = (v.setRegion r 0).regionsRun := by
    have hstarts : (s.waking.contains r && decide (s.phase ≠ .deferring)) = true := by rw [hwaking, decide_eq_true hclk]; rfl
    rw [State.wakeComplete, if_pos hstarts, hv]
    dsimp only
    rw [if_pos hsame, if_neg (by omega)]
  have hkept := v.setRegion_only r 0
  rw [heq]
  refine State.Runs.regionsRun ⟨regionPlace_coded hlo, v.setRegion_region_self hhi (by decide), ?_⟩ ?_ ?_
  · rw [State.setRegion_waking]
    exact hcalm
  · exact (hkept.areas .ring (by decide)).trans (hv ▸ hring)
  · exact (hkept.areas .commits (by decide)).trans (hv ▸ hcommits)

end

/-- Settles O42: what goes on once a region has been woken keeps it running; idle clocks are gated; a wake tone calls the bay, and the port
trains where the bay runs. -/
theorem regionsWake : Obligations.RegionsWake := by
  unfold Obligations.RegionsWake
  intro s r p
  have hheard (hup : s.isUp = true) (hlink : s.get JP_STATUS.link_state p = 4) :
      exec (.wakeToneDetected p) s = .next ((s.toneHeard p).trainWoken p) :=
    congrArg Host.Outcome.next ((if_pos hup).trans (State.toneDetected_sleeping hlink))
  obtain ⟨hwaking, htone⟩ := s.toneHeard_port p
  refine ⟨fun hlo hhi hclk hwaking hregion hring hcommits => ⟨_, rfl, ?woken⟩, fun hlo hhi hup hrun hidle hheld => ⟨_, rfl, ?gated⟩,
    fun hup hlink hsleep => ⟨_, hheard hup hlink, ?called⟩, fun hup _ hlink hruns hserve => ⟨_, hheard hup hlink, ?trains⟩⟩
  case woken =>
    have hruns := State.wakeComplete_runs hlo hhi hclk hwaking hregion hring hcommits
    exact ⟨hruns.code, hruns.calm⟩
  case gated =>
    rw [State.gateIdle_gated hlo hhi hup hrun hidle hheld]
    exact ⟨s.setRegion_region_self (by omega) (by decide), s.setRegion_coded hlo hhi 1⟩
  case called =>
    have hclk : s.phase ≠ .deferring := fun e => by simp [State.isUp, e] at hup
    have hasleep : (s.toneHeard p).bayState (bayOf p) ≠ 0 := by
      rw [State.toneHeard_bayState p.isLt (by omega)]
      omega
    rw [State.trainWoken_asleep hasleep]
    exact ⟨hwaking, State.toneHeard_bay p.isLt hclk hsleep⟩
  case trains =>
    refine State.trainWoken_trains p.isLt hwaking htone ?_ ?_ ?_
    · exact (s.toneHeard_get p (by decide) p).trans hlink
    · rw [State.toneHeard_bayState p.isLt (by omega), hruns]
    · rw [(s.toneHeard_only p).portMayServe (by decide)]
      exact hserve

end Sys2Proof.Machine
end

/-! The statement on configuration requests fails where the completion of an earlier Configuration Write is still owed: BUS_MASTER_ENABLE_CLEAR
withdraws a set of Bus Master Enable that an FLR holds (R176), and the completion of the write that made it is returned with the next
Configuration Write (R164), beside that write's own. -/

section
namespace Sys2Proof.Machine

/-- A module that is up with the core running, the link of port 0 in L0, and an FLR of PF0 in progress. -/
def flrRuns : State :=
  ((({ State.reset with phase := .up }.setRegion 34 0).put HP_LINK_STATUS.link_up 0 1).put HP_LINK_STATUS.pm_state 0 0).put FUNC_STATE.flr_active 0 1

/-- The host has set Bus Master Enable by a Configuration Write, which waits for the end of the FLR, and has cleared it again. -/
def writeOwed : State := (flrRuns.configWriteAll 0 0 1 4 1 0).byConfig 0 (fun s => s.setBme 0 false)

theorem writeOwed_follows :
    exec (.configWrite 0 0 1 4 1 0) flrRuns = .next (flrRuns.configWriteAll 0 0 1 4 1 0)
      ∧ exec (.busMasterEnableClear 0) (flrRuns.configWriteAll 0 0 1 4 1 0) = .next writeOwed := ⟨rfl, rfl⟩

theorem writeOwed_heard : writeOwed.cfgUnheard 0 = false ∧ writeOwed.get HP_LINK_STATUS.pm_state 0 ≠ 2 ∧ writeOwed.isUp = true
    ∧ writeOwed.compat = false ∧ writeOwed.steady 34 = true := by decide +kernel

/-- No completion has been returned so far, and a write of BAR0 returns two. -/
theorem writeOwed_sent : writeOwed.sent = [] ∧ (writeOwed.configWriteAll 0 0 4 0 15 0).sent.length = 2 := by decide +kernel

/-- Refutes O34: a write of BAR0 also returns the completion of an earlier write whose effect was held and then withdrawn. -/
theorem not_configurationRequests : ¬ Obligations.ConfigurationRequests := by
  unfold Obligations.ConfigurationRequests
  intro h
  obtain ⟨hheard, hawake, hup, hview, hcore⟩ := writeOwed_heard
  obtain ⟨hnone, htwo⟩ := writeOwed_sent
  obtain ⟨-, -, -, hwrite⟩ := h writeOwed 0 0 0 0 0 0 hheard hawake
  obtain ⟨t, ht, hone, -⟩ := hwrite hup hview hcore
  have hsent : t.sent = (writeOwed.configWriteAll 0 0 4 0 15 0).sent := congrArg State.sent (Host.Outcome.next.inj ht).symm
  rw [← hsent, hone, hnone] at htwo
  cases htwo

end Sys2Proof.Machine
end

/-! Dry-fit transactions: what BEGIN opens, what COMMIT finds, and how a transaction of which nothing moves is rolled back. -/

section
namespace Sys2Proof.Machine

variable {s t u : State} {c : Nat}

/-! ### Writes of TXN_CTRL (R123) -/

theorem State.Writable.txnBegin {c : CtxId} (h : s.Writable (ctxAgent c) .TXN_CTRL c) : exec (.txnBegin c) s = .next (s.txnBegin c) :=
  congrArg Host.Outcome.next (State.Writable.writeField (F := TXN_CTRL.op) h 1)

theorem State.Writable.txnRollback {c : CtxId} (h : s.Writable (ctxAgent c) .TXN_CTRL c) : exec (.rollback c) s = .next (s.txnRollback c) :=
  congrArg Host.Outcome.next (State.Writable.writeField (F := TXN_CTRL.op) h 3)

theorem State.Writable.txnCommit {c : CtxId} (h : s.Writable (ctxAgent c) .TXN_CTRL c) (persist : Bool) :
    exec (.commit c persist) s = .next (s.txnCommit c persist) :=
  congrArg Host.Outcome.next ((h.writeAs _ _).trans (by cases persist <;> rfl))

/-! ### BEGIN (R124) -/

/-- A field of a register that has been loaded whole. -/
theorem State.get_setWord_self {F : Fld} {i : Nat} (hi : i < F.reg.count) (w : Word) : (s.setWord F.reg i w).get F i = getBits w F.lo F.len := by
  rw [State.get, State.setWord_word_self hi]

/-- The transaction that BEGIN opens. -/
structure State.Opened (s : State) (c : Nat) (t : State) : Prop where
  state : t.get TXN_STATUS.state c = 1
  result : t.get TXN_STATUS.result c = 0
  words : t.get TXN_STAGED.words c = 0
  staged : (t.txn c).staged = []
  time : t.get TXN_OPEN_TIME.devtime c = s.devtime % 2 ^ 64
  due : t.due (.txn c) = some (s.clock + 1000000 * s.get TXN_TIMEOUT.timeout_ms c)
  only : State.Only [.TXN_STATUS, .TXN_STAGED, .TXN_OPEN_TIME] [.txns, .timers] s t

/-- The registers of a transaction that has been opened, before its timer runs. -/
def State.begun (s : State) (c : Nat) : State :=
  ((((s.setTxn c { TxnDyn.reset with opened := s.clock }).setWord .TXN_STATUS c 0).put TXN_STATUS.state c 1).put TXN_STAGED.words c 0).put
    TXN_OPEN_TIME.devtime c s.devtime

theorem State.txnBegin_idle (h : s.refusedBy = none) (h0 : s.get TXN_STATUS.state c = 0) :
    s.txnBegin c = (s.begun c).arm (.txn c) (1000000 * s.get TXN_TIMEOUT.timeout_ms c) := by
  have hns : ((((s.setTxn c { TxnDyn.reset with opened := s.clock }).setWord .TXN_STATUS c 0).put TXN_STATUS.state c 1).put TXN_STAGED.words c
      0).txnNs c = 1000000 * s.get TXN_TIMEOUT.timeout_ms c := by
    rw [State.txnNs, State.get_put_kind (by decide), State.get_put_kind (by decide), State.get, State.setWord_word_kind (by decide), Nat.mul_comm]
    rfl
  simp only [State.txnBegin, h, h0, ne_eq, not_true_eq_false, if_false, hns, State.begun, State.put_devtime, State.setWord_devtime,
    State.setTxn_devtime]

theorem State.txnBegin_opens (hc : c < 5) (h : s.refusedBy = none) (h0 : s.get TXN_STATUS.state c = 0) : s.Opened c (s.txnBegin c) := by
  have hbegun : (s.begun c).clock = s.clock := by simp [State.begun]
  have only := (State.txnBegin_within (.refl _ s) c (by decide)).only (ks := [.TXN_STATUS, .TXN_STAGED, .TXN_OPEN_TIME]) (ps := [.txns, .timers])
  rw [State.txnBegin_idle h h0] at only ⊢
  refine ⟨?_, ?_, ?_, ?_, ?_, ?_, only⟩
  · rw [State.arm_get, State.begun, State.get_put_kind (by decide), State.get_put_kind (by decide), State.get_put_self hc (by decide)]
    rfl
  · rw [State.arm_get, State.begun, State.get_put_kind (by decide), State.get_put_kind (by decide), State.get_put_beside (by rfl) (by decide)]
    exact State.get_setWord_self (F := TXN_STATUS.result) hc 0
  · rw [State.arm_get, State.begun, State.get_put_kind (by decide), State.get_put_self hc (by decide)]
    rfl
  · simp [State.begun, TxnDyn.reset]
  · rw [State.arm_get, State.begun, State.get_put_self hc (by decide)]
    rfl
  · rw [State.arm_due_self, hbegun]

/-! ### Roll-back of a transaction of which nothing moves (R126) -/

/-- The transaction of context `c` has been rolled back with result `r`, its context as `d`. -/
structure State.RolledBack (s : State) (c r : Nat) (d : TxnDyn) (t : State) : Prop where
  state : t.get TXN_STATUS.state c = 0
  result : t.get TXN_STATUS.result c = r
  words : t.get TXN_STAGED.words c = 0
  txn : t.txn c = d
  only : State.Only [.TXN_STATUS, .TXN_STAGED] [.txns, .commits, .timers] s t

theorem State.withCommits_only (s : State) (cs : List Nat) : State.Only [] [.commits] s { s with commits := cs } :=
  ⟨fun _ _ _ => rfl, fun a ha => by cases a <;> simp_all [Area.same]⟩

/-- Nothing that does not move is returned to service. -/
theorem State.dropTxn_still (h : (s.txn c).moving = []) : s.dropTxn c =
    { (s.disarm (.quiesce c)).setTxn c TxnDyn.reset with commits := s.commits.filter (fun x => x != c) } := by
  simp [State.dropTxn, h, State.markQuiescing, State.each]

theorem State.dropTxn_txn (s : State) (c : Nat) : (s.dropTxn c).txn c = TxnDyn.reset :=
  Tbl.get_set_self TxnDyn.reset _ c TxnDyn.reset

/-- The registers of a context whose transaction is rolled back with a result. -/
def State.closed (s : State) (c r : Nat) : State :=
  ((((s.put TXN_STATUS.state c 0).put TXN_STATUS.conflict c 0).put TXN_STATUS.overflow c 0).put TXN_STAGED.words c 0).put TXN_STATUS.result c r

theorem State.closed_only (s : State) (c r : Nat) : State.Only [.TXN_STATUS, .TXN_STAGED] [] s (s.closed c r) := by
  refine State.Within.only (State.put_within (State.put_within (State.put_within (State.put_within (State.put_within (.refl _ s) _ _ _ ?_) _ _ _ ?_)
    _ _ _ ?_) _ _ _ ?_) _ _ _ ?_) <;> decide

theorem State.closed_shows (s : State) (hc : c < 5) {r : Nat} (hr : r < 256) : (s.closed c r).get TXN_STATUS.state c = 0
    ∧ (s.closed c r).get TXN_STATUS.result c = r ∧ (s.closed c r).get TXN_STAGED.words c = 0 := by
  refine ⟨?_, ?_, ?_⟩
  · rw [State.closed, State.get_put_beside (by rfl) (by decide), State.get_put_kind (by decide), State.get_put_beside (by rfl) (by decide),
      State.get_put_beside (by rfl) (by decide), State.get_put_self hc (by decide)]
    rfl
  · rw [State.closed, State.get_put_self hc (by decide)]
    exact Nat.mod_eq_of_lt hr
  · rw [State.closed, State.get_put_kind (by decide), State.get_put_self hc (by decide)]
    rfl

theorem State.closed_txn (s : State) (c r d : Nat) : (s.closed c r).txn d = s.txn d := by simp [State.closed]

theorem State.rollBack_still (hc : c < 5) (h : (s.txn c).moving = []) {r : Nat} (hr : r < 256) :
    s.RolledBack c r TxnDyn.reset (s.rollBack c r) := by
  have hdrop : State.Only [] [.txns, .commits, .timers] s ((s.dropTxn c).disarm (.txn c)) := by
    rw [State.dropTxn_still h]
    exact ((State.Within.only (ks := []) (ps := [.txns, .timers]) (State.setTxn_within (State.disarm_within (.refl _ s) _ (by decide)) _ _ (by decide))).mono
      (by simp) (by simp)).trans ((State.withCommits_only _ _).mono (by simp) (by simp)) |>.trans
      (State.Within.only (State.disarm_within (.refl _ _) _ (by decide)))
  obtain ⟨hstate, hresult, hwords⟩ := ((s.dropTxn c).disarm (.txn c)).closed_shows hc hr
  have htxn : (s.rollBack c r).txn c = TxnDyn.reset := (State.closed_txn _ c r c).trans (s.dropTxn_txn c)
  exact ⟨hstate, hresult, hwords, htxn, (hdrop.mono (by simp) (by simp)).trans ((State.closed_only _ c r).mono (by simp) (by simp))⟩

theorem State.timeOut_still (hc : c < 5) (h : (s.txn c).moving = []) :
    s.RolledBack c 2 { TxnDyn.reset with timedOut := some s.clock } (s.timeOut c) := by
  have hback := State.rollBack_still hc h (r := 2) (by decide)
  exact ⟨hback.state, hback.result, hback.words, by rw [State.timeOut, State.modTxn_txn_self, hback.txn], hback.only.trans
    (State.Within.only (State.modTxn_within (.refl _ _) _ _ (by decide)))⟩

/-! ### COMMIT (R125) -/

/-- The state in which a COMMIT of an open transaction is judged, where no other waits. -/
def State.committing (s : State) (c : Nat) (persist : Bool) : State :=
  { (s.modTxn c (fun d => { d with persist := persist, quiescing := false })).put TXN_STATUS.state c 2 with commits := [c] }

theorem State.committing_txn (s : State) (c : Nat) (persist : Bool) :
    (s.committing c persist).txn c = { s.txn c with persist := persist, quiescing := false } :=
  (State.put_txn ..).trans (State.modTxn_txn_self ..)

theorem State.committing_only (s : State) (c : Nat) (persist : Bool) :
    State.Only [.TXN_STATUS] [.txns, .commits] s (s.committing c persist) :=
  ((State.Within.only (ks := [.TXN_STATUS]) (ps := [.txns]) (State.put_within (State.modTxn_within (.refl _ s) _ _ (by decide)) _ _ _
    (by decide))).mono (by simp) (by simp)).trans ((State.withCommits_only _ _).mono (by simp) (by simp))

theorem State.committing_state (s : State) (hc : c < 5) (persist : Bool) : (s.committing c persist).get TXN_STATUS.state c = 2 :=
  State.get_put_self (s := s.modTxn c _) (F := TXN_STATUS.state) hc (by decide)

/-- A context that commits does not persist, so the store is as free as it was. -/
theorem State.committing_storeTaken (hc : c < 5) (persist : Bool) (h : s.storeTaken = false) : (s.committing c persist).storeTaken = false := by
  have hrss : (s.committing c persist).rss = s.rss := (s.committing_only c persist).rss (by decide) (by decide)
  simp only [State.storeTaken, Bool.or_eq_false_iff, List.any_eq_false, beq_iff_eq] at h ⊢
  obtain ⟨hbusy, hidle⟩ := h
  refine ⟨(State.rssBusy_eq hrss).trans hbusy, fun d hd => ?_⟩
  by_cases e : d = c
  · rw [e, s.committing_state hc]
    decide
  · have hother : (s.committing c persist).get TXN_STATUS.state d = s.get TXN_STATUS.state d := State.get_put_index (by rfl) e
    rw [hother]
    exact hidle d hd

/-- A COMMIT of an open transaction that comes in time and behind no other is judged. -/
theorem State.txnCommit_open (hby : s.refusedBy = none) (h1 : s.get TXN_STATUS.state c = 1) (hnone : s.commits = [])
    (htime : s.clock < (s.txn c).opened + s.txnNs c) (persist : Bool) : s.txnCommit c persist = (s.committing c persist).runCommits 2 := by
  have hcommits : s.commits ++ [c] = [c] := by rw [hnone]; rfl
  simp only [State.txnCommit, hby, h1, show ¬(1 = 0) from by decide, false_and, if_false, ne_eq, not_true_eq_false, Nat.not_le.mpr htime,
    State.put_commits, State.modTxn_commits, hcommits]
  rfl

/-! ### Quiescing (R125) -/

/-- Context `e` quiesces from `s` on, with what it has staged there. -/
structure State.Quiesces (s : State) (e : Nat) (t : State) : Prop where
  state : t.get TXN_STATUS.state e = s.get TXN_STATUS.state e
  commits : t.commits = s.commits
  quiescing : (t.txn e).quiescing = true
  staged : (t.txn e).staged = (s.txn e).staged

/-- Quiescing a context changes the queues that move and the regions that wake, and of the contexts that one only. -/
theorem State.beginQuiesce_quiesces (s : State) (e : Nat) : s.Quiesces e (s.beginQuiesce e) := by
  let b := s.modTxn e (fun d => { d with quiescing := true, moving := movedQueues s (s.resulting (s.txn e).staged) (s.txn e).staged })
  have hb : b.txn e = { s.txn e with quiescing := true, moving := movedQueues s (s.resulting (s.txn e).staged) (s.txn e).staged } :=
    State.modTxn_txn_self ..
  have hbeside : State.Within (besideMask [.TXN_STATUS] [.txns, .commits]) b (s.beginQuiesce e) := by
    unfold State.beginQuiesce
    refine State.Within.ite ?_ (State.arm_within ?_ _ _ (by decide)) <;>
      exact State.Within.each (State.markQuiescing_within (State.Within.each (.refl _ b) _ (fun _ q h => State.quiesceQueue_within h q (by decide)))
        _ _ (by decide)) _ (fun _ r h => State.wakeRegion_within h r (by decide))
  have htxn : (s.beginQuiesce e).txn e = b.txn e := congrArg (Tbl.get TxnDyn.reset · e) (hbeside.areas .txns (by decide))
  exact ⟨congrArg (getBits · _ _) (hbeside.words .TXN_STATUS (by decide) e), hbeside.areas .commits (by decide), by rw [htxn, hb], by rw [htxn, hb]⟩

/-! ### What the checks find (R125) -/

/-- The registers of a transaction that a COMMIT leaves open with the check that failed. -/
def State.failed (s : State) (c code : Nat) (b : Option Broken) (wait : Nat) : State :=
  (((({ s with commits := [] } : State).loadFailure c code b wait).put TXN_STATUS.state c 1).setResult c 1)

theorem State.failed_only (s : State) (c code : Nat) (b : Option Broken) (wait : Nat) :
    State.Only [.TXN_STATUS, .TXN_FAIL_ADDR, .TXN_FAIL_INFO] [.commits] s (s.failed c code b wait) :=
  ((State.withCommits_only s []).mono (by simp) (by simp)).trans ((State.Within.only (ks := [.TXN_STATUS, .TXN_FAIL_ADDR, .TXN_FAIL_INFO]) (ps := [])
    (State.put_within (State.put_within (State.loadFailure_within (.refl _ _) c code b wait (by decide)) _ _ _ (by decide)) _ _ _ (by decide))).mono (by simp) (by simp))

theorem State.failed_commits (s : State) (c code : Nat) (b : Option Broken) (wait : Nat) : (s.failed c code b wait).commits = [] := by
  simp [State.failed, State.setResult, State.loadFailure]

/-- What the commit at the head of the queue does is what its checks find. -/
theorem State.runCommits_judges (hc : c < 5) (hcommits : u.commits = [c]) (hquiet : (u.txn c).quiescing = false)
    (hstore : (u.txn c).persist = true → u.storeTaken = false) : u.runCommits 2 = match u.judgeTxn c with
      | some (code, b, wait) => (if (u.txn c).opened + (u.failed c code b wait).txnNs c < (u.failed c code b wait).clock
          then (u.failed c code b wait).timeOut c else u.failed c code b wait).runCommits 1
      | none => (u.clearFailure c).beginQuiesce c := by
  have hwait : ((u.txn c).persist && u.storeTaken) = false := by simpa using hstore
  have hctx : ctxOf c = c := if_pos hc
  rw [State.runCommits, hcommits]
  simp only [hquiet, hwait, hctx, hc, Bool.false_eq_true, if_false, if_true, Nat.not_le.mpr hc]
  rfl

/-- A COMMIT that fails its checks in time leaves the transaction open. -/
theorem State.runCommits_fails (hc : c < 5) (hcommits : u.commits = [c]) (hquiet : (u.txn c).quiescing = false)
    (hstore : (u.txn c).persist = true → u.storeTaken = false) (htime : u.clock < (u.txn c).opened + u.txnNs c) {code wait : Nat}
    {b : Option Broken} (hjudge : u.judgeTxn c = some (code, b, wait)) : u.runCommits 2 = u.failed c code b wait := by
  have honly := u.failed_only c code b wait
  have hns : (u.failed c code b wait).txnNs c = u.txnNs c := congrArg (· * 1000000) (honly.get (by decide) c)
  have hclock : (u.failed c code b wait).clock = u.clock := honly.areas .clock (by decide)
  have hin : ¬(u.txn c).opened + (u.failed c code b wait).txnNs c < (u.failed c code b wait).clock := by omega
  rw [State.runCommits_judges hc hcommits hquiet hstore, hjudge]
  simp only [hin, if_false]
  rw [State.runCommits, u.failed_commits]

theorem State.failed_shows (s : State) (hc : c < 5) (code : Nat) (b : Option Broken) (wait : Nat) :
    (s.failed c code b wait).get TXN_STATUS.state c = 1 ∧ (s.failed c code b wait).get TXN_STATUS.result c = 1
    ∧ (s.failed c code b wait).get TXN_STATUS.fail_check c = code % 256 := by
  refine ⟨?_, ?_, ?_⟩
  · rw [State.failed, State.setResult, State.get_put_beside (by rfl) (by decide), State.get_put_self hc (by decide)]
    rfl
  · rw [State.failed, State.setResult, State.get_put_self hc (by decide)]
    rfl
  · simp only [State.failed, State.setResult, State.loadFailure, State.flag]
    rw [State.get_put_beside (by rfl) (by decide), State.get_put_beside (by rfl) (by decide), State.get_put_kind (by decide),
      State.get_put_kind (by decide), State.get_put_kind (by decide), State.get_put_kind (by decide), State.get_put_kind (by decide),
      State.get_put_self hc (by decide)]
    rfl

/-- The state in which a COMMIT is judged meets what the checks ask of it. -/
theorem State.committing_ready {c : CtxId} {persist : Bool} (hstore : persist = true → s.storeTaken = false)
    (htime : s.clock < (s.txn c).opened + s.txnNs c) : ((s.committing c persist).txn c).quiescing = false
      ∧ (((s.committing c persist).txn c).persist = true → (s.committing c persist).storeTaken = false)
      ∧ (s.committing c persist).clock < ((s.committing c persist).txn c).opened + (s.committing c persist).txnNs c := by
  have honly := s.committing_only c persist
  have hns : (s.committing c persist).txnNs c = s.txnNs c := congrArg (· * 1000000) (honly.get (by decide) c)
  have hclock : (s.committing c persist).clock = s.clock := honly.areas .clock (by decide)
  rw [s.committing_txn c persist, hns, hclock]
  exact ⟨rfl, fun h => State.committing_storeTaken c.isLt persist (hstore h), htime⟩

section
variable {c : CtxId} {persist : Bool}

theorem State.Writable.commit_passes (hw : s.Writable (ctxAgent c) .TXN_CTRL c) (hby : s.refusedBy = none)
    (h1 : s.get TXN_STATUS.state c = 1) (hnone : s.commits = []) (hstore : persist = true → s.storeTaken = false)
    (htime : s.clock < (s.txn c).opened + s.txnNs c) (hjudge : (s.committing c persist).judgeTxn c = none) :
    Completes (.commit c persist) s (fun t => t.get TXN_STATUS.state c = 2 ∧ t.commits = [c.val] ∧ (t.txn c).quiescing = true
      ∧ (t.txn c).staged = (s.txn c).staged) := by
  generalize hu : s.committing c persist = u at hjudge
  obtain ⟨hquiet, hfree, -⟩ := hu ▸ State.committing_ready hstore htime
  obtain ⟨state, commits, quiescing, staged⟩ := (u.clearFailure c).beginQuiesce_quiesces c
  have hclear : State.Within (besideMask [] [.txns, .commits]) u (u.clearFailure c) := State.clearFailure_within (.refl _ u) c (by decide)
  have hsame : (u.clearFailure c).txn c = u.txn c := congrArg (Tbl.get TxnDyn.reset · c) (hclear.areas .txns (by decide))
  have hstate : ((u.clearFailure c).beginQuiesce c).get TXN_STATUS.state c = 2 := by
    rw [state, State.clearFailure, State.get, State.setWord_word_kind (by decide), State.setWord_word_kind (by decide),
      ← State.get, State.get_put_beside (by rfl) (by decide), ← hu]
    exact s.committing_state c.isLt persist
  refine ⟨_, (hw.txnCommit persist).trans (congrArg _ (State.txnCommit_open hby h1 hnone htime persist)), ?_⟩
  rw [hu, State.runCommits_judges c.isLt (by rw [← hu]; rfl) hquiet hfree, hjudge]
  exact ⟨hstate, commits.trans ((hclear.areas .commits (by decide)).trans (by rw [← hu]; rfl)), quiescing,
    staged.trans (by rw [hsame, ← hu, s.committing_txn c persist])⟩

theorem State.Writable.commit_fails (hw : s.Writable (ctxAgent c) .TXN_CTRL c) (hby : s.refusedBy = none)
    (h1 : s.get TXN_STATUS.state c = 1) (hnone : s.commits = []) (hstore : persist = true → s.storeTaken = false)
    (htime : s.clock < (s.txn c).opened + s.txnNs c) {code wait : Nat} {b : Option Broken}
    (hjudge : (s.committing c persist).judgeTxn c = some (code, b, wait)) :
    Completes (.commit c persist) s (fun t => t.get TXN_STATUS.state c = 1 ∧ t.get TXN_STATUS.result c = 1
      ∧ t.get TXN_STATUS.fail_check c = code % 256 ∧ t.commits = [] ∧ (t.txn c).staged = (s.txn c).staged
      ∧ State.Only [.TXN_STATUS, .TXN_FAIL_ADDR, .TXN_FAIL_INFO] [.txns, .commits] s t) := by
  have honly := s.committing_only c persist
  have htxn := s.committing_txn c persist
  generalize hu : s.committing c persist = u at hjudge honly htxn
  obtain ⟨hquiet, hfree, hin⟩ := hu ▸ State.committing_ready hstore htime
  have hfailed := u.failed_only c code b wait
  obtain ⟨hstate, hresult, hcheck⟩ := u.failed_shows c.isLt code b wait
  have hsame : (u.failed c code b wait).txn c = u.txn c := congrArg (Tbl.get TxnDyn.reset · c) (hfailed.areas .txns (by decide))
  refine ⟨_, (hw.txnCommit persist).trans (congrArg _ (State.txnCommit_open hby h1 hnone htime persist)), ?_⟩
  rw [hu, State.runCommits_fails c.isLt (by rw [← hu]; rfl) hquiet hfree hin hjudge]
  exact ⟨hstate, hresult, hcheck, u.failed_commits .., by rw [hsame, htxn],
    (honly.mono (by simp) (by simp)).trans (hfailed.mono (by simp) (by simp))⟩

end

/-! ### The timeout (R126) -/

/-- An expiry takes place at its due time, or at once where that has passed. -/
theorem State.expire_clock {tm : Timer} {due : Nat} (h : s.due tm = some due) : (s.expire tm).clock = max s.clock due := by
  rw [State.expire, h]
  show s.clock + (due - s.clock) = _
  omega

theorem State.txnExpired_open {due : Nat} (hfires : s.fires (.txn c) = true) (hdue : s.due (.txn c) = some due)
    (h1 : s.get TXN_STATUS.state c = 1) : s.txnExpired c = if max s.clock due < (s.txn c).opened + s.txnNs c then
      (s.expire (.txn c)).arm (.txn c) ((s.txn c).opened + s.txnNs c - max s.clock due) else (s.expire (.txn c)).timeOut c := by
  have honly : State.Only [] passing s (s.expire (.txn c)) := (State.expire_within (.refl _ s) _ (by decide)).only
  have htxn : (s.expire (.txn c)).txn c = s.txn c := congrArg (Tbl.get TxnDyn.reset · c) (honly.areas .txns (by decide))
  have hns : (s.expire (.txn c)).txnNs c = s.txnNs c := congrArg (· * 1000000) (honly.get (by decide) c)
  rw [State.txnExpired, if_neg (not_not.mpr h1), State.onExpiry_fires hfires, htxn, hns, State.expire_clock hdue]

/-! ### The settled obligation -/

/-- Settles O37: each write of TXN_CTRL and each expiry is the operation of its context; the checks are judged in the state in
which the commit stands alone at the head of the queue. -/
theorem transactionsRun : Obligations.TransactionsRun := by
  unfold Obligations.TransactionsRun
  intro s c persist
  refine ⟨fun hw hby h0 => ?begins, fun hw hby h1 hnone hstore htime => ?commits, fun hw hby h1 hstill hlate => ?late,
    fun hw h1 hstill => ?rolls, fun due hfires hdue h1 hstill => ?expires⟩
  case begins =>
    have hopened := State.txnBegin_opens c.isLt hby h0
    exact ⟨_, hw.txnBegin, hopened.state, hopened.result, hopened.words, hopened.staged, hopened.time, hopened.due, hopened.only⟩
  case commits => exact ⟨hw.commit_passes hby h1 hnone hstore htime, fun _ _ _ => hw.commit_fails hby h1 hnone hstore htime⟩
  case late =>
    have htime : s.txnCommit c persist = s.timeOut c := by
      simp [State.txnCommit, hby, h1, hlate]
    have hback := State.timeOut_still c.isLt hstill
    exact ⟨_, (hw.txnCommit persist).trans (congrArg _ htime), hback.state, hback.result, hback.txn⟩
  case rolls =>
    have hroll : s.txnRollback c = s.rollBack c 0 := by
      simp [State.txnRollback, h1]
    have hback := State.rollBack_still c.isLt hstill (r := 0) (by decide)
    exact ⟨_, hw.txnRollback.trans (congrArg _ hroll), hback.state, hback.result, hback.words, hback.txn, hback.only⟩
  case expires =>
    have honly : State.Only [] passing s (s.expire (.txn c)) := (State.expire_within (.refl _ s) _ (by decide)).only
    have htxn : (s.expire (.txn c)).txn c = s.txn c := congrArg (Tbl.get TxnDyn.reset · c) (honly.areas .txns (by decide))
    have hexpired := State.txnExpired_open hfires hdue h1
    refine ⟨fun hlate => ⟨_, rfl, ?ends⟩, fun hlonger => ⟨_, rfl, ?goesOn⟩⟩
    case ends =>
      have hback := State.timeOut_still c.isLt (s := s.expire (.txn c)) (htxn ▸ hstill)
      rw [hexpired, if_neg (by omega)]
      have hclock : ((s.expire (.txn c)).timeOut c).clock = (s.expire (.txn c)).clock := hback.only.areas .clock (by decide)
      exact ⟨hback.state, hback.result, hback.txn.trans (by rw [hclock])⟩
    case goesOn =>
      rw [hexpired, if_pos hlonger]
      refine ⟨(State.arm_get ..).trans ((honly.get (by decide) c).trans h1), htxn, ?_⟩
      rw [State.arm_due_self, State.expire_clock hdue]
      congr 1
      omega

end Sys2Proof.Machine
end

/-! The power-up sequence: what the fuses load, what the boot scan chooses, what the start permit starts, and the restore strobe. -/

section
namespace Sys2Proof.Machine

variable {s : State}

/-- What the step of one element brings about is so at the end, where the steps of the others leave it. -/
theorem State.each_reaches {α : Type} {P Q : State → Prop} {g : State → α → State} {x : α} (hQ : ∀ t y, Q t → Q (g t y))
    (hset : ∀ t, Q t → P (g t x)) (hkeep : ∀ t y, y ≠ x → P t → P (g t y)) {xs : List α} (hx : x ∈ xs) (h : Q s) : P (s.each xs g) := by
  have keeps (ys : List α) (t : State) (hq : Q t) (hp : P t ∨ x ∈ ys) : P (t.each ys g) := by
    induction ys generalizing t with
    | nil => simpa [State.each] using hp
    | cons y ys ih =>
      refine ih (g t y) (hQ t y hq) ?_
      by_cases e : y = x
      · exact .inl (e ▸ hset t hq)
      · exact hp.imp (hkeep t y e) (fun hmem => (List.mem_cons.mp hmem).resolve_left (Ne.symm e))
  exact keeps xs s h (.inr hx)

/-- What every step of an element of the list keeps is kept. -/
theorem State.each_keepsMem {α : Type} {P : State → Prop} {g : State → α → State} {xs : List α} (h : P s)
    (hg : ∀ t, P t → ∀ x ∈ xs, P (g t x)) : P (s.each xs g) :=
  List.foldlRecOn xs g h hg

/-! ### Mains power-up (R106, R108) -/

/-- One of the sixteen voted words loaded. -/
def State.loadVoted (fs : List FuseRead) (s : State) (i : Nat) : State :=
  match voted fs i with
  | some w => { s with fuses := Tbl.insert s.fuses i w }
  | none =>
    let s := s.put FUSE_STATUS.unresolved 0 (s.get FUSE_STATUS.unresolved + 2 ^ i)
    if i = 1 ∨ i = 2 then { s with fuses := Tbl.insert s.fuses i (BitVec.allOnes 64) }
    else
      let (w, s) := s.freeWord
      { s with fuses := Tbl.insert s.fuses i w }

/-- One of the words of the fuses that are not voted loaded. -/
def State.loadSingle (fs : List FuseRead) (s : State) (i : Nat) : State :=
  { s with fuses := Tbl.insert s.fuses i ((fs[i]?).elim 0 (·.nominal)) }

theorem State.loadVoted_self {fs : List FuseRead} {i : Nat} {w : Word} (h : voted fs i = some w) (t : State) :
    Tbl.get 0 (t.loadVoted fs i).fuses i = w := by
  rw [State.loadVoted, h]
  exact Tbl.get_insert_self ..

theorem State.loadVoted_other (fs : List FuseRead) {i j : Nat} (h : j ≠ i) (t : State) :
    Tbl.get 0 (t.loadVoted fs j).fuses i = Tbl.get 0 t.fuses i := by
  have hput : (t.put FUSE_STATUS.unresolved 0 (t.get FUSE_STATUS.unresolved + 2 ^ j)).fuses = t.fuses := State.put_fuses ..
  rw [State.loadVoted]
  split
  · exact Tbl.get_insert_ne 0 _ _ (Ne.symm h)
  · split
    · exact (Tbl.get_insert_ne 0 _ _ (Ne.symm h)).trans (by rw [hput])
    · exact (Tbl.get_insert_ne 0 _ _ (Ne.symm h)).trans (by rw [State.freeWord, hput])

/-- The fuses read and their marginal words marked, before they are shown. -/
def State.loadFuses (s : State) (fs : List FuseRead) : State :=
  ((s.each (List.range 16) (State.loadVoted fs)).each ((List.range 256).drop 48) (State.loadSingle fs)).each
    (indicesWhere 256 (fun i => (fs[i]?).elim false FuseRead.marginal))
    (fun s i => s.setWord .FUSE_MARGINAL (i / 64) (s.word .FUSE_MARGINAL (i / 64) ||| maskBits (i % 64) 1))

theorem State.readFuses_eq (s : State) (fs : List FuseRead) (temp : Nat) : ∃ n, s.readFuses fs temp =
    ((((s.loadFuses fs).put FUSE_STATUS.boot_temp 0 temp).put FUSE_STATUS.marginal_count 0 n).setWord .FUSE_SERIAL0 0
      (Tbl.get 0 (s.loadFuses fs).fuses 1)).setWord .FUSE_SERIAL1 0 (Tbl.get 0 (s.loadFuses fs).fuses 2) :=
  ⟨_, by simp only [State.readFuses, State.put_fuses]; rfl⟩

/-- The voted words are those of the majority. -/
theorem State.loadFuses_voted {fs : List FuseRead} {i : Nat} {w : Word} (hi : i < 16) (h : voted fs i = some w) :
    Tbl.get 0 (s.loadFuses fs).fuses i = w := by
  refine State.each_keeps (fun t => Tbl.get 0 t.fuses i = w) (State.each_keepsMem (P := fun t => Tbl.get 0 t.fuses i = w) ?_ ?_) _
    (fun t j ht => by rw [State.setWord_fuses]; exact ht)
  · exact State.each_reaches (P := fun t => Tbl.get 0 t.fuses i = w) (Q := fun _ => True) (fun _ _ _ => trivial)
      (fun t _ => State.loadVoted_self h t) (fun t j hj ht => (State.loadVoted_other fs hj t).trans ht) (List.mem_range.mpr hi) trivial
  · intro t ht j hj
    have hsingle : ∀ j ∈ (List.range 256).drop 48, i ≠ j := by
      intro j hj e
      obtain ⟨k, hk, hget⟩ := List.mem_drop_iff_getElem.mp hj
      rw [List.getElem_range] at hget
      omega
    exact (Tbl.get_insert_ne 0 _ _ (hsingle j hj)).trans ht

/-- What the Sill has loaded and shows of the fuses. -/
structure State.Fused (fs : List FuseRead) (temp : Nat) (t : State) : Prop where
  temp : t.get FUSE_STATUS.boot_temp = temp % 256
  voted : ∀ i w, i < 16 → voted fs i = some w → Tbl.get 0 t.fuses i = w
  serial : ∀ w, Machine.voted fs 1 = some w → t.word .FUSE_SERIAL0 0 = w

theorem State.readFuses_fused (s : State) (fs : List FuseRead) (temp : Nat) : State.Fused fs temp (s.readFuses fs temp) := by
  obtain ⟨n, heq⟩ := s.readFuses_eq fs temp
  rw [heq]
  refine ⟨?_, fun i w hi h => ?_, fun w h => ?_⟩
  · rw [State.get, State.setWord_word_kind (by decide), State.setWord_word_kind (by decide), ← State.get,
      State.get_put_beside (by rfl) (by decide), State.get_put_self (by decide) (by decide)]
    rfl
  · rw [State.setWord_fuses, State.setWord_fuses, State.put_fuses, State.put_fuses]
    exact State.loadFuses_voted hi h
  · rw [State.setWord_word_kind (by decide), State.setWord_word_self (by decide)]
    exact State.loadFuses_voted (by decide) h

/-- The module that has just got mains, with its fuses read. -/
def State.fused (s : State) (fs : List FuseRead) (temp slot : Nat) : State := (s.dark.modPins (fun d => { d with slotId := slot })).readFuses fs temp

theorem State.fused_only (s : State) (fs : List FuseRead) (temp slot : Nat) :
    State.Only fuseKinds [.fuses, .freeCtr] (s.dark.modPins (fun d => { d with slotId := slot })) (s.fused fs temp slot) :=
  State.readFuses_only _ fs temp

/-- A standby request ends the power-up; without one the boot scan or MOD_RESET_N comes next. -/
theorem State.powerUp_off (hoff : s.phase = .off) (fs : List FuseRead) (temp slot : Nat) : s.powerUp fs temp slot =
    if s.pins.standby then (s.fused fs temp slot).endNow .standby
    else { s.fused fs temp slot with phase := if s.pins.modReset then .heldReset else .scanning } := by
  have hpins := (s.fused_only fs temp slot).areas .pins (by decide)
  have hstandby : (s.fused fs temp slot).pins.standby = s.pins.standby := (congrArg PinDyn.standby hpins).trans rfl
  have hreset : (s.fused fs temp slot).pins.modReset = s.pins.modReset := (congrArg PinDyn.modReset hpins).trans rfl
  rw [State.powerUp, if_pos hoff, ← hstandby, ← hreset]
  rfl

/-! ### The boot scan (R108, R109) -/

/-- The candidate that the boot scan chooses, with its place among them. -/
def State.scanChoice (s : State) (readable : Bool) : Nat × Candidate :=
  ((((scanStore s.rss.bytes).candidates (if readable then some s.factoryBank else none)).map (fun x => (x, s.passes x.2.runs))).find?
    (fun x => x.2)).map (fun x => x.1) |>.getD (5, ⟨3, 0, []⟩)

theorem State.scanChoice_empty (h : s.rss.bytes = []) (readable : Bool) :
    (s.scanChoice readable).2.source = if readable = true ∧ s.passes s.factoryBank.runs = true then 2 else 3 := by
  have hnone : scanStore [] = ⟨none, none, none⟩ := by decide +kernel
  rw [State.scanChoice, h, hnone]
  cases readable
  · cases he : s.passes [] <;> simp [Scan.candidates, he]
  · cases hp : s.passes s.factoryBank.runs <;> cases he : s.passes [] <;> simp [Scan.candidates, hp, he]

/-- RSS_BOOT_STATUS as the boot scan shows the store `m` that it read as `c`, its choice and a candidate that failed its checks. -/
def State.showBoot (s : State) (m : Tbl Byte) (c : Scan) (n : Nat) (chosen : Candidate) (failed : Bool) : State :=
  ((((((((((s.setWord .RSS_BOOT_STATUS 0 0).put RSS_BOOT_STATUS.source 0 chosen.source).flag RSS_BOOT_STATUS.torn_commit 0
    ((c.journal.map (fun x => x.2)).elim false (·.torn))).flag RSS_BOOT_STATUS.torn_compaction 0 (tornCompaction m)).flag
    RSS_BOOT_STATUS.bank0_invalid 0 (rssBank m 0).isNone).flag RSS_BOOT_STATUS.bank1_invalid 0 (rssBank m 1).isNone).flag
    RSS_BOOT_STATUS.journal_corrupt 0 ((c.journal.map (fun x => x.2)).elim false (·.corrupt))).flag RSS_BOOT_STATUS.fallback 0 (n != 1)).flag
    RSS_BOOT_STATUS.check_failed 0 failed).put RSS_BOOT_STATUS.records_applied 0
    (if n = 1 then (c.journal.map (fun x => x.2)).elim 0 (·.records) else 0))

/-- The place of the store's next record as the boot scan shows it. -/
def State.showStore (s : State) (m : Tbl Byte) (c : Scan) (n : Nat) (chosen : Candidate) : State :=
  let j := c.journal.map (fun x => x.2)
  let bank := match chosen.source with
    | 0 => 0
    | 1 => 1
    | _ => c.first.elim 0 (·.1)
  let last := j.elim (c.first.elim 0 (·.2.seq)) (·.lastSeq)
  let s := (s.put RSS_IMAGE_SEQ.seq 0 ((rssBank m bank).elim 0 (·.seq))).put RSS_LAST_SEQ.seq 0 last
  let s := (s.put RSS_STATUS.bank 0 bank).put RSS_STATUS.journal 0 (c.journal.elim 0 (·.1))
  let s := s.put RSS_STATUS.journal_used 0 (j.elim 1 (·.used))
  s.modRss (fun r => { r with directNext := n != 1 || c.journal.isNone })

/-- Plumb with its program and its thresholds as the chosen candidate sets them. -/
def State.loadPlumb (s : State) (chosen : Candidate) : State :=
  let t := s.resulting (candidateWords chosen.runs)
  let image := (List.range 256).map (fun k => (t.word .PLUMB_PROG k).truncate 32) ++ (List.range 32).map (fun k => (t.word .PLUMB_THR k).truncate 32)
  s.modPlumb (fun _ => { PlumbDyn.reset with active := image, shadow := image })

/-- The state in which the start permit is awaited once Plumb runs. -/
def State.awaiting (s : State) (chosen : Candidate) : State :=
  { (s.put PLUMB_STATUS.running 0 1).arm .plumb 0 with phase := .awaitPermit, restore := some chosen }

theorem State.awaiting_get (s : State) (chosen : Candidate) (F : Fld) (i : Nat) :
    (s.awaiting chosen).get F i = (s.put PLUMB_STATUS.running 0 1).get F i := rfl

theorem State.awaiting_due (s : State) (chosen : Candidate) : (s.awaiting chosen).due .plumb = some s.clock :=
  (State.arm_due_self (s.put PLUMB_STATUS.running 0 1) .plumb 0).trans (by rw [State.put_clock, Nat.add_zero])

theorem State.scanDone_shows (hp : s.phase = .scanning) (hfree : s.rssBusy = false) (readable : Bool) :
    ∃ failed, s.scanDone readable =
      (((s.showBoot s.rss.bytes (scanStore s.rss.bytes) (s.scanChoice readable).1 (s.scanChoice readable).2 failed).showStore
        s.rss.bytes (scanStore s.rss.bytes) (s.scanChoice readable).1 (s.scanChoice readable).2).loadPlumb
        (s.scanChoice readable).2).awaiting (s.scanChoice readable).2 := by
  generalize hc : s.scanChoice readable = c
  obtain ⟨n, chosen⟩ := c
  rw [State.scanDone, if_neg (by simp [hp, hfree])]
  extract_lets m c cs judged
  have hX : ((judged.find? (fun x => x.2)).map (fun x => x.1)).getD (5, ⟨3, 0, []⟩) = (n, chosen) := hc
  rw [hX]
  exact ⟨(judged.takeWhile (fun x => !x.2)).length != 0, rfl⟩

theorem State.loadPlumb_only (s : State) (chosen : Candidate) : State.Only [] [.plumb] s (s.loadPlumb chosen) := by
  unfold State.loadPlumb
  exact State.Within.only (State.modPlumb_within (.refl _ s) _ (by decide))

theorem State.showBoot_source (s : State) (m : Tbl Byte) (c : Scan) (n : Nat) (chosen : Candidate) (failed : Bool) :
    (s.showBoot m c n chosen failed).get RSS_BOOT_STATUS.source = chosen.source % 8 := by
  rw [State.showBoot, State.get_put_beside (by rfl) (by decide)]
  iterate 7 rw [State.flag, State.get_put_beside (by rfl) (by decide)]
  exact State.get_put_self (by decide) (by decide)

theorem State.showStore_only (s : State) (m : Tbl Byte) (c : Scan) (n : Nat) (chosen : Candidate) :
    State.Only [.RSS_IMAGE_SEQ, .RSS_LAST_SEQ, .RSS_STATUS] [.store, .wear] s (s.showStore m c n chosen) := by
  unfold State.showStore
  refine State.Within.only (State.modRss_within (State.put_within (State.put_within (State.put_within (State.put_within (State.put_within
    (.refl _ s) _ _ _ ?_) _ _ _ ?_) _ _ _ ?_) _ _ _ ?_) _ _ _ ?_) _ ?_ ?_) <;> decide

/-- The boot scan ends with its choice shown, and with Plumb's image loaded and its first pass due. -/
theorem State.scanDone_scanned (hp : s.phase = .scanning) (hfree : s.rssBusy = false) (readable : Bool) :
    ∃ u : State, s.scanDone readable = u.awaiting (s.scanChoice readable).2 ∧ u.clock = s.clock
      ∧ u.get RSS_BOOT_STATUS.source = (s.scanChoice readable).2.source % 8 := by
  obtain ⟨failed, hscan⟩ := State.scanDone_shows hp hfree readable
  have hload := ((s.showBoot s.rss.bytes (scanStore s.rss.bytes) (s.scanChoice readable).1 (s.scanChoice readable).2 failed).showStore
    s.rss.bytes (scanStore s.rss.bytes) (s.scanChoice readable).1 (s.scanChoice readable).2).loadPlumb_only (s.scanChoice readable).2
  refine ⟨_, hscan, (hload.areas .clock (by decide)).trans ?_, (hload.get (by decide) 0).trans ?_⟩
  · exact ((State.showStore_only ..).areas .clock (by decide)).trans (by simp [State.showBoot])
  · exact ((State.showStore_only ..).get (by decide) 0).trans (State.showBoot_source ..)

/-! ### The start permit (R109, R110, R119) -/

/-- State of the controller of a host port that the start permit finds with `d`. -/
def HostDyn.startCode (d : HostDyn) : Nat := if d.absent then 4 else if d.perst then 5 else 0

/-- The start permit's step for host port `h`. -/
def State.permitHost (s : State) (h : Nat) : State :=
  if (s.host h).absent then s.setHcrState h 4 else if (s.host h).perst then s.setHcrState h 5 else s.startHcr h

theorem State.permitHost_within {m : Nat} {s₀ : State} (hs : State.Within m s₀ s) (h : Nat) (hm : listMask [.PWR_STATE_MISC] [.ctrs] ||| m = m) :
    State.Within m s₀ (s.permitHost h) := by
  unfold State.permitHost State.startHcr
  exact .ite (State.setHcrState_within hs _ _ (maskSub (by decide) hm)) (.ite (State.setHcrState_within hs _ _ (maskSub (by decide) hm))
    (State.bump_within (State.setHcrState_within hs _ _ (maskSub (by decide) hm)) _ (maskSub (by decide) hm)))

theorem State.permitHost_self (s : State) {h : Nat} (hh : h < 4) : (s.permitHost h).hcrState h = (s.host h).startCode := by
  unfold State.permitHost HostDyn.startCode State.startHcr
  split
  · exact State.setHcrState_self hh (by decide) s
  · split
    · exact State.setHcrState_self hh (by decide) s
    · exact (State.Only.hcrState (State.bump_only _ _) (by simp) h).trans (State.setHcrState_self hh (by decide) s)

theorem State.setHcrState_other (s : State) {h k : Nat} (hne : k ≠ h) (v : Nat) : (s.setHcrState k v).hcrState h = s.hcrState h := by
  rw [State.hcrState, State.setHcrState, State.setWord_word_self (by decide), getBits_setBits_other (by omega), State.hcrState]

theorem State.permitHost_other (s : State) {h k : Nat} (hne : k ≠ h) : (s.permitHost k).hcrState h = s.hcrState h := by
  unfold State.permitHost State.startHcr
  split
  · exact s.setHcrState_other hne 4
  · split
    · exact s.setHcrState_other hne 5
    · exact (State.Only.hcrState (State.bump_only _ _) (by simp) h).trans (s.setHcrState_other hne 0)

/-- Every host port has been started, is without a clock or held in reset. -/
theorem State.permitHosts_each (s : State) {h : Nat} (hh : h < 4) :
    (s.each (List.range 4) State.permitHost).hcrState h = (s.host h).startCode := by
  refine State.each_reaches (P := fun t => t.hcrState h = (s.host h).startCode) (Q := fun t => t.host h = s.host h) ?_ ?_ ?_
    (List.mem_range.mpr hh) rfl
  · exact fun t y ht => ((State.permitHost_within (.refl (listMask [.PWR_STATE_MISC] [.ctrs]) t) y (by decide)).only.host (by decide) h).trans ht
  · exact fun t ht => (t.permitHost_self hh).trans (by rw [ht])
  · exact fun t y hne ht => (t.permitHost_other hne).trans ht

/-- What the start permit has started, from `s` on. -/
structure State.Permitted (s t : State) : Prop where
  phase : t.phase = .starting
  watchdog : t.due .watchdog = some (s.clock + 100000000)
  selftest : t.due .selftest = some (s.clock + 2000000)
  degraded : t.get GLOBAL_STATUS.identity_degraded = b2n (!s.identityGood)
  hosts : ∀ h : HostId, t.hcrState h = (s.host h).startCode

/-- The host ports started in the phase that the start permit begins. -/
def State.startHosts (s : State) : State := (({ s with phase := .starting } : State).bump (modCtr 5)).each (List.range 4) State.permitHost

theorem State.startHosts_within (s : State) : State.Within (listMask [.PWR_STATE_MISC] [.ctrs]) { s with phase := .starting } s.startHosts :=
  State.Within.each (State.bump_within (.refl _ _) _ (by decide)) _ fun _ h k => State.permitHost_within k h (by decide)

theorem State.permit_awaited (hp : s.phase = .awaitPermit) (hsensors : s.plumb.sensors ≠ []) (hdie : s.pins.dieHot = false)
    (hinlet : s.pins.inletHot = false) : s.permit = (((s.startHosts.flag GLOBAL_STATUS.identity_degraded 0 (!s.startHosts.identityGood)).flag
      SEC_STATUS.identity_degraded 0 (!s.startHosts.identityGood)).arm .selftest 2000000).arm .watchdog 100000000 := by
  rw [State.permit, if_pos (by simp [hp, hsensors, hdie, hinlet])]
  rfl

theorem State.permit_permitted (hp : s.phase = .awaitPermit) (hsensors : s.plumb.sensors ≠ []) (hdie : s.pins.dieHot = false)
    (hinlet : s.pins.inletHot = false) : s.Permitted s.permit := by
  have hw := s.startHosts_within
  have hgood : s.startHosts.identityGood = s.identityGood := by
    rw [State.identityGood, hw.words .FUSE_STATUS (by decide) 0]
    rfl
  have hclock : s.startHosts.clock = s.clock := hw.areas .clock (by decide)
  rw [State.permit_awaited hp hsensors hdie hinlet]
  refine ⟨?_, ?_, ?_, ?_, fun h => ?_⟩
  · rw [State.arm_phase, State.arm_phase, State.flag_phase, State.flag_phase]
    exact hw.areas .phase (by decide)
  · rw [State.arm_due_self, State.arm_clock, State.flag_clock, State.flag_clock, hclock]
  · rw [State.arm_due_other _ _ (by decide), State.arm_due_self, State.flag_clock, State.flag_clock, hclock]
  · rw [State.arm_get, State.arm_get, State.get_flag_kind (by decide), State.get_flag_self (by decide) (by decide), hgood]
    cases s.identityGood <;> rfl
  · have hflags : State.Only [.GLOBAL_STATUS, .SEC_STATUS] [.timers] s.startHosts
        ((((s.startHosts.flag GLOBAL_STATUS.identity_degraded 0 (!s.startHosts.identityGood)).flag SEC_STATUS.identity_degraded 0
          (!s.startHosts.identityGood)).arm .selftest 2000000).arm .watchdog 100000000) :=
      State.Within.only (State.arm_within (State.arm_within (State.flag_within (State.flag_within (.refl _ _) _ _ _ (by decide)) _ _ _ (by decide))
        _ _ (by decide)) _ _ (by decide))
    rw [hflags.hcrState (by decide)]
    exact State.permitHosts_each _ h.isLt

/-! ### The restore strobe (R110) -/

/-- The restore strobe ends the power-up: what follows it leaves the phase and the chosen image. -/
theorem State.applyRestore_up {c : Candidate} (hp : s.phase = .starting) (hc : s.restore = some c) :
    s.applyRestore.phase = .up ∧ s.applyRestore.restore = none := by
  let v : State := { s.resulting (candidateWords c.runs) with phase := .up, restore := none }
  have hw : State.Within (besideMask [] [.phase, .restore]) v s.applyRestore := by
    unfold State.applyRestore
    rw [hp, hc]
    have hflag := State.flag_within (.refl (besideMask [] [.phase, .restore]) v) GLOBAL_STATUS.compat_view_active 0 (v.on GLOBAL_CTRL.compat_view)
      (by decide)
    have hmeasured := State.measureRestore_within (State.fillSlots_within (State.showPins_within hflag (by decide)) (fun _ => true) (by decide)) c
      (by decide)
    refine State.Within.ite (State.compactFull_within ?_ (by decide)) ?_ <;>
      exact State.bootEvents_within (State.rebuildPlank_within (State.Within.each hmeasured _ (fun _ p k => State.enterReset_within k p (by decide)))
        (by decide)) (by decide)
  exact ⟨hw.areas .phase (by decide), hw.areas .restore (by decide)⟩

/-! ### The settled obligation -/

/-- Settles O28: each phase of the power-up sequence ends in one step, which is stated on its own. -/
theorem powerUpSequence : Obligations.PowerUpSequence := by
  unfold Obligations.PowerUpSequence
  intro s fuses temp slotId
  have hpower (hwf : wfFuses fuses = true) : exec (.mainsPowerUp fuses temp slotId) s = .next (s.powerUp fuses temp.toNat slotId) :=
    congrArg Host.Outcome.next (if_pos hwf)
  refine ⟨fun hoff hwf hstandby hreset => ⟨_, hpower hwf, ?powered⟩, fun hoff hwf => ⟨fun hstandby => ⟨_, hpower hwf, ?standby⟩,
    fun hstandby hreset => ⟨_, hpower hwf, ?held⟩⟩, fun readable hp hfree => ⟨_, rfl, ?scanned⟩,
    fun hp hsensors hdie hinlet => ⟨_, rfl, ?permitted⟩, fun c hp hc => ⟨_, rfl, State.applyRestore_up hp hc⟩⟩
  case permitted =>
    obtain ⟨phase, watchdog, selftest, degraded, hosts⟩ := State.permit_permitted hp hsensors hdie hinlet
    exact ⟨phase, watchdog, selftest, degraded, hosts⟩
  case powered =>
    have hfused := State.readFuses_fused (s.dark.modPins (fun d => { d with slotId := slotId })) fuses temp.toNat
    have honly := s.fused_only fuses temp.toNat slotId
    rw [State.powerUp_off hoff, hstandby, hreset]
    refine ⟨rfl, ?_, ?_, ?_, ?_, ?_, ?_⟩
    · exact (honly.areas .devtime (by decide)).1
    · exact congrArg PinDyn.slotId (honly.areas .pins (by decide))
    · exact hfused.temp.trans (Nat.mod_eq_of_lt temp.isLt)
    · exact (honly.areas .store (by decide)).1
    · exact hfused.voted
    · exact hfused.serial
  case standby =>
    rw [State.powerUp_off hoff, if_pos hstandby]
    exact State.endNow_standby _
  case held =>
    rw [State.powerUp_off hoff, hstandby, hreset]
    rfl
  case scanned =>
    obtain ⟨u, hscan, hclock, hsource⟩ := State.scanDone_scanned hp hfree readable
    rw [hscan]
    refine ⟨rfl, (u.awaiting_get ..).trans (State.get_put_self (by decide) (by decide)), hclock ▸ u.awaiting_due _, rfl, fun hempty => ?_⟩
    rw [State.awaiting_get, State.get_put_kind (by decide), hsource, State.scanChoice_empty hempty]
    split <;> rfl

end Sys2Proof.Machine
end

/-! What queue, engine, transaction, Peg and Scribe commands leave alone: other queues, other sources and other contexts. -/

section
namespace Sys2Proof.Machine

/-! ### What is beside one of several (R246, R378, R124) -/

/-- All but the `i`th of what `read` reads, and of the registers of the kinds listed, are as they were. -/
structure State.Others {α : Type} (ks : List RegKind) (read : State → Nat → α) (i : Nat) (s t : State) : Prop where
  item : ∀ r, r ≠ i → read t r = read s r
  words : ∀ r, r ≠ i → ∀ k ∈ ks, t.word k r = s.word k r

/-- The registers of a context that only its own transaction changes. -/
def contextKinds : List RegKind := [.TXN_STATUS, .TXN_STAGED, .TXN_FAIL_ADDR, .TXN_FAIL_INFO, .TXN_OPEN_TIME]

section
variable {α : Type} {ks : List RegKind} {read : State → Nat → α} {i : Nat} {s₀ s t u : State}

theorem State.Others.refl (ks : List RegKind) (read : State → Nat → α) (i : Nat) (s : State) : State.Others ks read i s s :=
  ⟨fun _ _ => rfl, fun _ _ _ _ => rfl⟩

theorem State.Others.trans (h : State.Others ks read i s t) (k : State.Others ks read i t u) : State.Others ks read i s u :=
  ⟨fun r hr => (k.item r hr).trans (h.item r hr), fun r hr x hx => (k.words r hr x hx).trans (h.words r hr x hx)⟩

theorem State.Others.ite {c : Prop} [Decidable c] (ht : State.Others ks read i s t) (hu : State.Others ks read i s u) :
    State.Others ks read i s (if c then t else u) := by
  split <;> assumption

/-- Loading the `i`th register of a kind leaves the others. -/
theorem State.Others.put (h : State.Others ks read i s₀ s) (F : Fld) (v : Nat) (hread : ∀ r, read (s.put F i v) r = read s r) :
    State.Others ks read i s₀ (s.put F i v) :=
  h.trans ⟨fun r _ => hread r, fun r hr k _ => by
    by_cases hF : k = F.reg
    · rw [hF]; exact State.setWord_word_index hr _
    · exact State.setWord_word_kind hF ..⟩

end

/-! ### Other queues (R246) -/

abbrev State.OtherQueues (q : Nat) : State → State → Prop := State.Others queueKinds State.queue q

section
variable {q : Nat} {s₀ s t : State}

/-- Operations that leave the registers and the state of every queue. -/
theorem State.OtherQueues.beside (h : State.OtherQueues q s₀ s) (w : State.Within (besideMask queueKinds [.queues]) s t) :
    State.OtherQueues q s₀ t :=
  h.trans ⟨fun r _ => congrArg (Tbl.get QDyn.reset · r) (w.areas .queues (by decide)), fun r _ k hk => w.words k (by revert k; decide) r⟩

theorem State.OtherQueues.load (h : State.OtherQueues q s₀ s) (F : Fld) (v : Nat) : State.OtherQueues q s₀ (s.put F q v) :=
  h.put F v (s.put_queue F q v)

theorem State.OtherQueues.setQueue (h : State.OtherQueues q s₀ s) (d : QDyn) : State.OtherQueues q s₀ (s.setQueue q d) :=
  h.trans ⟨fun _ hr => s.setQueue_queue_other d hr, fun _ _ _ _ => rfl⟩

theorem State.OtherQueues.modQueue (h : State.OtherQueues q s₀ s) (g : QDyn → QDyn) : State.OtherQueues q s₀ (s.modQueue q g) := h.setQueue _

theorem State.OtherQueues.bump (h : State.OtherQueues q s₀ s) (o : Nat) : State.OtherQueues q s₀ (s.bump o) :=
  h.beside (State.bump_within (.refl _ s) o (by decide))

theorem State.OtherQueues.callEntry (h : State.OtherQueues q s₀ s) : State.OtherQueues q s₀ (s.callEntry q) :=
  h.beside (State.callEntry_within (.refl _ s) q (by decide))

theorem State.OtherQueues.countMiss (h : State.OtherQueues q s₀ s) (e : Entry) : State.OtherQueues q s₀ (s.countMiss q e) :=
  h.beside (State.countMiss_within (.refl _ s) q e (by decide))

/-! Vectors and entries -/

theorem State.OtherQueues.joinVector (h : State.OtherQueues q s₀ s) (key : Nat) (tagged : Bool) :
    State.OtherQueues q s₀ (s.joinVector q key tagged) := h.modQueue _

theorem State.OtherQueues.sendVector (h : State.OtherQueues q s₀ s) : State.OtherQueues q s₀ (s.sendVector q) := by
  unfold State.sendVector
  extract_lets due counted
  have hcounted : State.OtherQueues q s₀ counted :=
    State.OtherQueues.modQueue (State.OtherQueues.beside (h.load Q_COAL.pending 0) (State.disarm_within (.refl _ _) (.coalesce q) (by decide))) _
  exact .ite (hcounted.beside (State.askVector_within (.refl _ _) q _ _ (by decide))) hcounted

theorem State.OtherQueues.timeEntry (h : State.OtherQueues q s₀ s) (n : Nat) : State.OtherQueues q s₀ (s.timeEntry q n) := by
  unfold State.timeEntry
  extract_lets begun time
  have hbegun : State.OtherQueues q s₀ begun := .ite (h.modQueue _) h
  exact .ite (hbegun.beside (State.disarm_within (.refl _ _) _ (by decide))) (hbegun.beside (State.arm_within (.refl _ _) _ _ (by decide)))

theorem State.OtherQueues.signalEntry (h : State.OtherQueues q s₀ s) (e : Entry) : State.OtherQueues q s₀ (s.signalEntry q e) := by
  unfold State.signalEntry
  extract_lets joined n time count pending limit
  have hpending : State.OtherQueues q s₀ pending := (h.joinVector _ _).load Q_COAL.pending _
  exact .ite (h.joinVector _ _).sendVector (.ite h (.ite hpending.sendVector (hpending.timeEntry n)))

theorem State.OtherQueues.advanceHeads (h : State.OtherQueues q s₀ s) (final : Bool) : State.OtherQueues q s₀ (s.advanceHeads q final) := by
  unfold State.advanceHeads
  extract_lets head moved turned ready
  have hmoved : State.OtherQueues q s₀ moved := h.load _ _
  have hready : State.OtherQueues q s₀ ready := State.OtherQueues.load (.ite (hmoved.load _ _) hmoved) _ _
  exact .ite (hready.load _ _) hready

theorem State.OtherQueues.writeEntry (h : State.OtherQueues q s₀ s) (e : Entry) : State.OtherQueues q s₀ (s.writeEntry q e) :=
  ((h.beside (State.hostWrite_within (.refl _ s) _ _ _ _ _ (by decide))).advanceHeads _).signalEntry e

theorem State.OtherQueues.clearHeld (h : State.OtherQueues q s₀ s) : State.OtherQueues q s₀ (s.clearHeld q) := by
  unfold State.clearHeld
  exact ((h.beside (State.Within.each (.refl _ s) _ fun _ _ k => State.setWord_within k _ _ _ (by decide))).load _ _).modQueue _

theorem State.OtherQueues.writeHeld (h : State.OtherQueues q s₀ s) : State.OtherQueues q s₀ (s.writeHeld q) := by
  unfold State.writeHeld
  split
  · exact .ite h (.ite (h.callEntry.clearHeld.writeEntry _) h.callEntry)
  · exact h

theorem State.OtherQueues.settleState (h : State.OtherQueues q s₀ s) : State.OtherQueues q s₀ (s.settleState q) := h.load _ _

theorem State.OtherQueues.tryHeld (h : State.OtherQueues q s₀ s) : State.OtherQueues q s₀ (s.tryHeld q) := by
  unfold State.tryHeld
  split
  · exact h
  · exact .ite (.ite h.writeHeld.settleState h.writeHeld) h

theorem State.OtherQueues.holdEntry (h : State.OtherQueues q s₀ s) (e : Entry) : State.OtherQueues q s₀ (s.holdEntry q e) := by
  unfold State.holdEntry
  extract_lets held bytes loaded waits kept
  have hloaded : State.OtherQueues q s₀ loaded :=
    h.beside (State.Within.each (.refl _ s) _ fun _ _ k => State.setWord_within k _ _ _ (by decide))
  have hkept : State.OtherQueues q s₀ kept := ((hloaded.load _ _).load _ _).modQueue _
  exact .ite hkept ((hkept.countMiss _).modQueue _)

theorem State.OtherQueues.endDescriptor (h : State.OtherQueues q s₀ s) : State.OtherQueues q s₀ (s.endDescriptor q) := by
  unfold State.endDescriptor
  extract_lets ended
  have hended : State.OtherQueues q s₀ ended := h.modQueue _
  split
  · exact hended.load _ _
  · exact .ite ((hended.modQueue _).load _ _) hended.settleState
  · exact .ite ((hended.modQueue _).load _ _) hended.settleState
  · exact hended

theorem State.OtherQueues.settleEntry (h : State.OtherQueues q s₀ s) : State.OtherQueues q s₀ (s.settleEntry q) := by
  unfold State.settleEntry
  split
  · exact h
  · exact .ite h (.ite (h.holdEntry _) (.ite h (.ite (.ite (h.holdEntry _) (.ite h ((h.load _ _).bump _)))
      (.ite h.callEntry (.ite ((h.callEntry.modQueue _).writeEntry _) ((h.callEntry.countMiss _).writeEntry _).endDescriptor)))))

/-! Halts -/

theorem State.OtherQueues.recordResume (h : State.OtherQueues q s₀ s) (c : Current) : State.OtherQueues q s₀ (s.recordResume q c) :=
  ((((h.load _ _).load _ _).load _ _).load _ _).load _ _

theorem State.OtherQueues.loseExt (h : State.OtherQueues q s₀ s) : State.OtherQueues q s₀ (s.loseExt q) := by
  unfold State.loseExt
  exact (h.beside (State.modHost_within (.refl _ s) _ _ (by decide))).modQueue _

theorem State.OtherQueues.errorHalt (h : State.OtherQueues q s₀ s) (status addr dir space source : Nat) :
    State.OtherQueues q s₀ (s.errorHalt q status addr dir space source) := by
  unfold State.errorHalt
  extract_lets st rejected
  split
  · split
    · exact h.bump _
    · exact h
  · split
    · exact h
    next c _ =>
      extract_lets recorded addressed informed indexed due drained
      have hrecorded : State.OtherQueues q s₀ recorded := (State.OtherQueues.recordResume (.ite (h.load _ _) h) c).loseExt
      have hindexed : State.OtherQueues q s₀ indexed := ((((((hrecorded.load _ _).load _ _).load _ _).load _ _).load _ _).load _ _).load _ _
      have hdue : State.OtherQueues q s₀ due := hindexed.modQueue _
      have hdrained : State.OtherQueues q s₀ drained := by
        unfold drained
        split
        · exact hdue.beside (State.drainEngine_within (.refl _ _) _ (by decide))
        · exact hdue
      exact hdrained.settleEntry

theorem State.OtherQueues.kick (h : State.OtherQueues q s₀ s) : State.OtherQueues q s₀ (s.kick q) := by
  unfold State.kick
  split
  · exact h
  · split
    · split
      · exact (h.modQueue _).errorHalt ..
      · exact .ite (h.modQueue _) h
    · exact h

theorem State.OtherQueues.finishEntry (h : State.OtherQueues q s₀ s) : State.OtherQueues q s₀ (s.finishEntry q) := h.settleEntry.kick

theorem State.OtherQueues.tryEntry (h : State.OtherQueues q s₀ s) : State.OtherQueues q s₀ (s.tryEntry q) := h.tryHeld.finishEntry

/-! Descriptors that arrive -/

theorem State.OtherQueues.tryAdmission (h : State.OtherQueues q s₀ s) (d : Prefetched) (ws : List Word) :
    State.OtherQueues q s₀ (s.tryAdmission q d ws).2 := by
  have hports {t : State} (ht : State.OtherQueues q s₀ t) : State.OtherQueues q s₀ (t.loadPorts ws) :=
    ht.beside (State.loadPorts_within (.refl _ t) ws (by decide))
  have hlate : State.OtherQueues q s₀ (if d.flagged then s else (s.bump (queueCtr q 5)).bump (fnCtr (s.get Q_CFG.owner q) 16)) :=
    .ite h ((h.bump _).bump _)
  have done {t : State} (ht : State.OtherQueues q s₀ t) (d : Prefetched) :
      State.OtherQueues q s₀ (d, t.modQueue q (fun x => { x with finish := max x.finish (s.estimate q ws) })).2 := by
    dsimp only
    exact ht.modQueue _
  unfold State.tryAdmission
  dsimp only
  split
  · exact done h _
  · split
    · exact done h _
    · split
      · exact done (hports h) _
      · split
        · exact done (hports hlate) _
        · exact done hlate _

theorem State.OtherQueues.readDescriptor (h : State.OtherQueues q s₀ s) (idx : Nat) (ws : List Word) :
    State.OtherQueues q s₀ (s.readDescriptor q idx ws).2 := by
  have hkey (dl : Option Nat) : State.OtherQueues q s₀ (s.keyFor (s.get Q_CFG.owner q) dl).2 :=
    h.beside (State.keyFor_within (.refl _ s) _ dl (by decide))
  unfold State.readDescriptor
  dsimp only
  split
  · exact (hkey _).tryAdmission _ _
  · exact hkey _

theorem State.OtherQueues.reloadDescriptor (h : State.OtherQueues q s₀ s) (c : Current) (ws : List Word) :
    State.OtherQueues q s₀ (s.reloadDescriptor q c ws) := by
  unfold State.reloadDescriptor
  split
  next d t hread =>
    have ht : State.OtherQueues q s₀ t := by
      split at hread
      · have hnew := h.readDescriptor c.d.idx ws
        rwa [hread] at hnew
      · cases hread
        exact h
    exact (ht.modQueue _).finishEntry

theorem State.OtherQueues.takeDescriptors (h : State.OtherQueues q s₀ s) : State.OtherQueues q s₀ (s.takeDescriptors q) := by
  unfold State.takeDescriptors
  split
  · exact h
  next i bs _ =>
    have hread : State.OtherQueues q s₀ (s.each (List.range (bs.length / 64)) (fun s k =>
        let (d, s) := s.readDescriptor q (i + k) (descWords (bs.drop (64 * k)))
        s.modQueue q (fun x => { x with pref := x.pref ++ [d] }))) :=
      State.each_keeps (State.OtherQueues q s₀) h _ fun _ _ k => (k.readDescriptor _ _).modQueue _
    dsimp only
    split
    · split
      · exact h.reloadDescriptor _ _
      · exact (hread.modQueue _).kick
    · exact (hread.modQueue _).kick

/-! Commands -/

theorem State.OtherQueues.goOn (h : State.OtherQueues q s₀ s) (op : Nat) : State.OtherQueues q s₀ (s.goOn q op) := by
  unfold State.goOn
  extract_lets written cleared
  have hcleared : State.OtherQueues q s₀ cleared := (h.writeHeld.load _ _).modQueue _
  split
  · exact hcleared.settleState.tryEntry
  · exact ((hcleared.modQueue _).load _ _).tryEntry

theorem State.OtherQueues.runWaiting (h : State.OtherQueues q s₀ s) : State.OtherQueues q s₀ (s.runWaiting q) := .ite (h.goOn _) h

theorem State.OtherQueues.zeroIndices (h : State.OtherQueues q s₀ s) : State.OtherQueues q s₀ (s.zeroIndices q) :=
  (((h.load _ _).load _ _).load _ _).load _ _

theorem State.OtherQueues.rejectCmd (h : State.OtherQueues q s₀ s) : State.OtherQueues q s₀ (s.rejectCmd q) := h.load _ _

theorem State.OtherQueues.enableQueue (h : State.OtherQueues q s₀ s) : State.OtherQueues q s₀ (s.enableQueue q) := by
  unfold State.enableQueue
  exact .ite h.rejectCmd (((h.zeroIndices.load _ _).load _ _).setQueue _)

theorem State.OtherQueues.stopQueue (h : State.OtherQueues q s₀ s) : State.OtherQueues q s₀ (s.stopQueue q) := by
  unfold State.stopQueue
  split
  · exact h.rejectCmd
  · split
    · exact h.load _ _
    · exact h.load _ _
    · exact (h.load _ _).modQueue _
    · exact h.rejectCmd

theorem State.OtherQueues.haltCmd (h : State.OtherQueues q s₀ s) (op : Nat) : State.OtherQueues q s₀ (s.haltCmd q op) := by
  unfold State.haltCmd
  exact .ite h.writeHeld.settleState.kick (.ite (h.modQueue _).runWaiting h.rejectCmd)

theorem State.OtherQueues.dropFetches (h : State.OtherQueues q s₀ s) : State.OtherQueues q s₀ (s.dropFetches q) := by
  unfold State.dropFetches
  exact (h.beside (State.modHost_within (.refl _ s) _ _ (by decide))).modQueue _

theorem State.OtherQueues.disableQueue (h : State.OtherQueues q s₀ s) : State.OtherQueues q s₀ (s.disableQueue q) := by
  unfold State.disableQueue
  extract_lets st counted disabled
  have hcounted : State.OtherQueues q s₀ counted := .ite (h.bump _) h
  have hdisabled : State.OtherQueues q s₀ disabled := hcounted.clearHeld.zeroIndices.load _ _
  exact .ite ((hdisabled.dropFetches.load _ _).setQueue _) h.rejectCmd

theorem State.OtherQueues.queueCmd (h : State.OtherQueues q s₀ s) (op : Nat) : State.OtherQueues q s₀ (s.queueCmd q op) := by
  unfold State.queueCmd
  split
  · exact h.enableQueue
  · exact h.stopQueue
  · exact h.haltCmd _
  · exact h.haltCmd _
  · exact h.haltCmd _
  · exact h.disableQueue
  · exact h

end

/-! ### Other sources (R378) -/

abbrev State.OtherPegs (i : Nat) : State → State → Prop := State.Others [.PEG_SRC_STATUS] State.peg i

section
variable {i : Nat} {s₀ s t : State}

theorem State.OtherPegs.beside (h : State.OtherPegs i s₀ s) (w : State.Within (besideMask [.PEG_SRC_STATUS] [.pegs]) s t) :
    State.OtherPegs i s₀ t :=
  h.trans ⟨fun r _ => congrArg (Tbl.get PegDyn.reset · r) (w.areas .pegs (by decide)), fun r _ k hk => w.words k (by revert k; decide) r⟩

theorem State.OtherPegs.load (h : State.OtherPegs i s₀ s) (F : Fld) (v : Nat) : State.OtherPegs i s₀ (s.put F i v) :=
  h.put F v (s.put_peg F i v)

theorem State.OtherPegs.modPeg (h : State.OtherPegs i s₀ s) (g : PegDyn → PegDyn) : State.OtherPegs i s₀ (s.modPeg i g) :=
  h.trans ⟨fun _ hr => s.modPeg_peg_other g hr, fun _ _ _ _ => rfl⟩

theorem State.OtherPegs.bump (h : State.OtherPegs i s₀ s) (o : Nat) : State.OtherPegs i s₀ (s.bump o) :=
  h.beside (State.bump_within (.refl _ s) o (by decide))

theorem State.OtherPegs.wakePeg (h : State.OtherPegs i s₀ s) : State.OtherPegs i s₀ (s.wakePeg i) :=
  h.beside (State.wakePeg_within (.refl _ s) i (by decide))

theorem State.OtherPegs.raisePeg (h : State.OtherPegs i s₀ s) (v : Option Nat) : State.OtherPegs i s₀ (s.raisePeg i none v) := by
  unfold State.raisePeg
  extract_lets p counted f
  have hwoken : State.OtherPegs i s₀ (counted.wakePeg i) := State.OtherPegs.wakePeg (.ite h (h.bump _))
  split
  · exact h.bump _
  · dsimp only [State.keyFor]
    split
    · exact (hwoken.load _ _).modPeg _
    · exact (hwoken.load _ _).modPeg _
    · exact (hwoken.bump _).modPeg _

theorem State.OtherPegs.eosPeg (h : State.OtherPegs i s₀ s) : State.OtherPegs i s₀ (s.eosPeg i) := by
  unfold State.eosPeg
  split
  · exact h
  · split
    · exact h.load _ _
    · exact (h.load _ _).wakePeg
    · exact h

end

/-! ### Other contexts (R124, R126) -/

abbrev State.OtherTxns (c : Nat) : State → State → Prop := State.Others contextKinds State.txn c

section
variable {c : Nat} {s₀ s t : State}

theorem State.OtherTxns.beside (h : State.OtherTxns c s₀ s) (w : State.Within (besideMask contextKinds [.txns]) s t) : State.OtherTxns c s₀ t :=
  h.trans ⟨fun r _ => congrArg (Tbl.get TxnDyn.reset · r) (w.areas .txns (by decide)), fun r _ k hk => w.words k (by revert k; decide) r⟩

theorem State.OtherTxns.load (h : State.OtherTxns c s₀ s) (F : Fld) (v : Nat) : State.OtherTxns c s₀ (s.put F c v) :=
  h.put F v (s.put_txn F c v)

theorem State.OtherTxns.clear (h : State.OtherTxns c s₀ s) : State.OtherTxns c s₀ (s.setWord .TXN_STATUS c 0) :=
  h.trans ⟨fun r _ => s.setWord_txn .TXN_STATUS c 0 r, fun r hr k _ => by
    by_cases hk : k = .TXN_STATUS
    · rw [hk]; exact State.setWord_word_index hr _
    · exact State.setWord_word_kind hk ..⟩

theorem State.OtherTxns.setTxn (h : State.OtherTxns c s₀ s) (d : TxnDyn) : State.OtherTxns c s₀ (s.setTxn c d) :=
  h.trans ⟨fun _ hr => s.setTxn_txn_other d hr, fun _ _ _ _ => rfl⟩

theorem State.OtherTxns.txnBegin (h : State.OtherTxns c s₀ s) : State.OtherTxns c s₀ (s.txnBegin c) := by
  unfold State.txnBegin
  split
  · exact h.load _ _
  · split
    · exact h.load _ _
    · exact State.OtherTxns.beside ((((h.setTxn _).clear.load _ _).load _ _).load _ _) (State.arm_within (.refl _ _) _ _ (by decide))

theorem State.OtherTxns.dropTxn (h : State.OtherTxns c s₀ s) : State.OtherTxns c s₀ (s.dropTxn c) := by
  unfold State.dropTxn
  extract_lets d marked returned dropped
  have hreturned : State.OtherTxns c s₀ returned :=
    h.beside (State.Within.each (State.markQuiescing_within (.refl _ s) _ _ (by decide)) _ fun _ _ k => State.unquiesce_within k _ (by decide))
  have hdropped : State.OtherTxns c s₀ dropped :=
    State.OtherTxns.setTxn (hreturned.beside (State.disarm_within (.refl _ _) _ (by decide))) _
  exact hdropped.trans ⟨fun _ _ => rfl, fun _ _ _ _ => rfl⟩

theorem State.OtherTxns.txnRollback (h : State.OtherTxns c s₀ s) : State.OtherTxns c s₀ (s.txnRollback c) := by
  have hended : State.OtherTxns c s₀ ((s.dropTxn c).disarm (.txn c)) := h.dropTxn.beside (State.disarm_within (.refl _ _) _ (by decide))
  exact .ite (((((hended.load _ _).load _ _).load _ _).load _ _).load _ _) (h.load _ _)

end

/-! ### The settled obligation -/

/-- A write of Q_CMD performs the command that it names. -/
theorem State.Writable.queueCmd {s : State} {a : Agent} {q : QId} (h : s.Writable a .Q_CMD q) (op : Nat) :
    s.writeField a Q_CMD.op q op = s.queueCmd q (written Q_CMD.op (setBits 0 Q_CMD.op.lo Q_CMD.op.len op) (maskBits Q_CMD.op.lo Q_CMD.op.len)) :=
  State.Writable.writeField (F := Q_CMD.op) h op

/-- Settles O55: each command of the first two clauses is an operation that stays within what the clause lists; a queue's commands keep
to its own index, as do those of a source and of a context. -/
theorem framesOfQueuesAndInterrupts : Obligations.FramesOfQueuesAndInterrupts := by
  refine ⟨fun q e k g c r n code inst x => ?channels, fun f => ?interrupts, fun s t q a => ?queues, fun s t i a hw => ?sources,
    fun s t c hw => ?contexts⟩
  case channels =>
    simp only [List.forall_mem_cons, List.not_mem_nil, false_implies, implies_true, and_true]
    exact ⟨
      .whenUp (fun _ => rfl) fun _ _ h => State.fetchGrant_within h (by decide +kernel),
      .whenUp (fun _ => rfl) fun _ _ h => State.takeDescriptors_within h _ (by decide +kernel),
      ⟨.whenUp (fun _ => rfl) fun _ _ h => State.tryEntry_within h _ (by decide +kernel),
        .whenUp (fun _ => rfl) fun _ _ h => State.drained_within h _ (by decide +kernel)⟩,
      .whenUp (fun _ => rfl) fun _ _ h => State.takeExtension_within h _ (by decide +kernel),
      .whenUp (fun _ => rfl) fun _ _ h => State.engineGrant_within h _ (by decide +kernel),
      .whenUp (fun _ => rfl) fun _ _ h => State.limiterRelease_within h _ (by decide +kernel),
      .whenUp (fun _ => rfl) fun _ _ h => State.engineFault_within h _ _ (by decide +kernel),
      .next (fun _ => rfl) fun _ => State.quiesceExpired_within (.refl _ _) _ (by decide +kernel),
      .next (fun _ => rfl) fun _ => State.txnExpired_within (.refl _ _) _ (by decide +kernel),
      .onExpiry (fun _ => rfl) (by decide +kernel) fun _ _ h => State.sendVector_within h _ (by decide +kernel),
      .next (fun _ => rfl) fun _ => State.gateIdle_within (.refl _ _) _ (by decide +kernel),
      .next (fun _ => rfl) fun _ => State.scrub_within (.refl _ _) _ (by decide +kernel),
      .next (fun _ => rfl) fun _ => State.windowOver_within (.refl _ _) _ _ _ (by decide +kernel)⟩
  case interrupts =>
    exact ⟨
      .whenUp (fun _ => rfl) fun _ _ h => State.pegGrant_within h (by decide +kernel),
      .whenUp (fun _ => rfl) fun _ _ h => State.releaseHeld_within h _ (by decide +kernel),
      .next (fun _ => rfl) fun _ => State.periodTrigger_within (.refl _ _) (by decide +kernel),
      .next (fun _ => rfl) fun _ => State.captured_within (.refl _ _) (by decide +kernel)⟩
  case queues =>
    have others (h : State.OtherQueues q s t) : ∀ r, r ≠ q.val → t.queue r = s.queue r
        ∧ ∀ k ∈ [RegKind.Q_CFG, .Q_STATE, .Q_SQ_BASE, .Q_CQ_BASE, .Q_RING, .Q_SQ_IDX, .Q_CQ_IDX, .Q_COAL, .Q_RESUME, .Q_RESUME_OFS,
          .Q_RESUME_EXT, .Q_ERR_ADDR, .Q_ERR_INFO], t.word k r = s.word k r :=
      fun r hr => ⟨h.item r hr, fun k hk => h.words r hr k (by revert k; decide)⟩
    have hs : State.OtherQueues q s s := .refl ..
    refine ⟨?events, fun hw => ?commands⟩
    case events =>
      suffices hq : ∀ c ∈ [Instr.descriptorArrival q, .completionEntryWrite q, .coalesceTimer q], exec c s = .next t → State.OtherQueues q s t from
        fun c hc h => others (hq c hc h)
      simp only [List.forall_mem_cons, List.not_mem_nil, false_implies, implies_true, and_true]
      refine ⟨fun h => ?_, fun h => ?_, fun h => ?_⟩ <;> cases h
      · exact .ite hs.takeDescriptors hs
      · exact .ite hs.tryEntry hs
      · exact .ite (hs.beside (State.expire_within (.refl _ s) (.coalesce q) (by decide))).sendVector hs
    case commands =>
      have hcmd (op : Nat) (h : (.next (s.writeField a Q_CMD.op q op) : Outcome) = .next t) : State.OtherQueues q s t := by
        rw [hw.queueCmd] at h
        cases h
        exact hs.queueCmd _
      suffices hq : ∀ c ∈ [Instr.enable a q, .stop a q, .resume a q, .restart a q, .skip a q, .disable a q], exec c s = .next t →
        State.OtherQueues q s t from fun c hc h => others (hq c hc h)
      simp only [List.forall_mem_cons, List.not_mem_nil, false_implies, implies_true, and_true]
      exact ⟨hcmd 1, hcmd 2, hcmd 3, hcmd 4, hcmd 5, hcmd 6⟩
  case sources =>
    have others (h : State.OtherPegs i s t) : ∀ j, j ≠ i.val → t.word .PEG_SRC_STATUS j = s.word .PEG_SRC_STATUS j ∧ t.peg j = s.peg j :=
      fun j hj => ⟨h.words j hj _ (List.mem_singleton.mpr rfl), h.item j hj⟩
    have hs : State.OtherPegs i s s := .refl ..
    have hraise : exec (.raise a i) s = .next (s.raisePeg i none none) := congrArg Host.Outcome.next hw.raise
    have heos : exec (.eos a i) s = .next (s.eosPeg i) := congrArg Host.Outcome.next hw.eos
    simp only [List.forall_mem_cons, List.not_mem_nil, false_implies, implies_true, and_true, hraise, heos]
    refine ⟨fun h => others ?_, fun h => others ?_⟩ <;> cases h
    · exact hs.raisePeg _
    · exact hs.eosPeg
  case contexts =>
    have others (h : State.OtherTxns c s t) : ∀ d, d ≠ c.val → t.txn d = s.txn d
        ∧ ∀ k ∈ [RegKind.TXN_STATUS, .TXN_STAGED, .TXN_FAIL_ADDR, .TXN_FAIL_INFO, .TXN_OPEN_TIME], t.word k d = s.word k d :=
      fun d hd => ⟨h.item d hd, h.words d hd⟩
    have hs : State.OtherTxns c s s := .refl ..
    suffices hc : ∀ i ∈ [Instr.txnBegin c, .rollback c], exec i s = .next t → State.OtherTxns c s t from fun i hi h => others (hc i hi h)
    simp only [List.forall_mem_cons, List.not_mem_nil, false_implies, implies_true, and_true, hw.txnBegin, hw.txnRollback]
    refine ⟨fun h => ?_, fun h => ?_⟩ <;> cases h
    · exact hs.txnBegin
    · exact hs.txnRollback

end Sys2Proof.Machine
end


/-! What the commands of Plumb, Ridge and the host links leave alone: each frame is the mask of the operation that the command runs
(State.Within). -/

section
namespace Sys2Proof.Machine

section
variable {ks : List RegKind} {ps : List Area} {c : Instr}

/-- An instruction of Plumb changes Plumb and counts what it refuses. -/
theorem Leaves.plumbExec {legal : State → Bool} {g : PlumbDyn → PlumbDyn} (hc : ∀ s, exec c s = .next (s.plumbExec (legal s) g)) :
    Leaves [] [.ctrs, .plumb] c :=
  .next hc fun _ => State.plumbExec_within (.refl _ _) _ _ (by decide +kernel)

/-- A command of a caller to Ridge changes what it runs changes, Ridge's mailboxes and what is sent. -/
theorem Leaves.command {l : Caller} {op : Nat} {allowed : State → Bool} {fits : Nat → Bool} {run : State → List Byte → Nat × List Byte × State}
    (hc : ∀ s, exec c s = .next (s.command l op (allowed s) fits run))
    (hm : listMask [] [.ridge, .sent] ||| listMask ks ps = listMask ks ps)
    (h : ∀ s t b, State.Within (listMask ks ps) s t → State.Within (listMask ks ps) s (run t b).2.2) : Leaves ks ps c :=
  .next hc fun s => State.command_within (.refl _ s) (h s) _ _ _ _ (maskSub (by decide +kernel) hm)

/-- A configuration write wakes the core and the link before it takes effect. -/
theorem Leaves.byConfig {f : Nat} {g : State → State} (hc : ∀ s, exec c s = .next (s.byConfig f g))
    (hm : listMask (wakeKinds ++ [.HP_LINK_STATUS]) [.ctrs, .hosts, .plumb, .waking, .freeCtr] ||| listMask ks ps = listMask ks ps)
    (h : ∀ s t, State.Within (listMask ks ps) s t → State.Within (listMask ks ps) s (g t)) : Leaves ks ps c :=
  .next hc fun s => State.byConfig_within (.refl _ s) (h s) f (maskSub (by decide +kernel) hm)

end

/-- Settles O54: each command runs an operation whose mask the clause lists. -/
theorem framesOfRidgeAndHostCommands : Obligations.FramesOfRidgeAndHostCommands := by
  refine ⟨fun d a b k imm c n x sd cd k5 k9 mode step power flow r => ⟨?instructions, ?halt, ?store⟩,
    fun t slot off len id seq i handle code sign last nonce xs part km => ⟨?stages, ?answers, ?signed, ?vendor⟩,
    fun h i k key c e => ⟨?keys, ?abort, ?info, ?updates, ?random, ?restart, ?mailbox, ?endpoint⟩,
    fun src test slot x f ok addr cause => ⟨?rngFailure, ?rngPass, ?reseed, ?extend, ?boot, ?failures, ?checkers, ?selfTest, ?watchdog, ?attempt,
      ?countOver⟩,
    fun h n dw o f bad use16 use2 w ns len off l12 x => ⟨?perst, ?trained, ?cfgRead, ?turnOff, ?askL1, ?substate, ?exitL1, ?ltr, ?l0p, ?ptm,
      ?ptmLost, ?grant, ?rom, ?turnedAway, ?pps⟩,
    fun f h i kind vf size e addr dws tag off len b1 b2 be v data bad bs => ⟨?masters, ?d3hot, ?resize, ?mme, ?vfeSet, ?vfeClear, ?flrEnd,
      ?windowRead, ?windowWrite, ?doorbell, ?msix, ?ide⟩⟩
  case instructions =>
    simp only [List.forall_mem_cons, List.not_mem_nil, false_implies, implies_true, and_true]
    refine ⟨?_, ?_, ?_, ?_, ?_, ?_, ?_, ?_, ?_, ?_, ?_, ?_, ?_, ?_, ?_, ?_, ?_, ?_, ?_, ?_, ?_⟩ <;> exact .plumbExec fun _ => rfl
  case halt => exact .next (fun _ => rfl) fun _ => State.plumbHalt_within (.refl _ _) (by decide +kernel)
  case store => exact .next (fun _ => rfl) fun _ => State.plumbStore_within (.refl _ _) _ _ _ _ _ (by decide +kernel)
  case stages =>
    simp only [List.forall_mem_cons, List.not_mem_nil, false_implies, implies_true, and_true]
    exact ⟨
      .next (fun _ => rfl) fun _ => State.spdmVersion_within (.refl _ _) _ (by decide +kernel),
      .next (fun _ => rfl) fun _ => State.spdmStage_within (.refl _ _) _ _ _ (by decide +kernel),
      .next (fun _ => rfl) fun _ => State.spdmStage_within (.refl _ _) _ _ _ (by decide +kernel),
      .next (fun _ => rfl) fun _ => State.spdmCertificate_within (.refl _ _) _ _ _ _ (by decide +kernel),
      .next (fun _ => rfl) fun _ => State.spdmFinish_within (.refl _ _) _ _ (by decide +kernel),
      .next (fun _ => rfl) fun _ => State.spdmEndSession_within (.refl _ _) _ _ (by decide +kernel),
      .next (fun _ => rfl) fun _ => State.spdmChunkSend_within (.refl _ _) _ _ _ _ (by decide +kernel),
      .next (fun _ => rfl) fun _ => State.spdmChunkGet_within (.refl _ _) _ _ _ (by decide +kernel)⟩
  case answers =>
    simp only [List.forall_mem_cons, List.not_mem_nil, false_implies, implies_true, and_true]
    exact ⟨
      .next (fun _ => rfl) fun _ => State.spdmDigests_within (.refl _ _) _ (by decide +kernel),
      .next (fun _ => rfl) fun _ => State.spdmHeartbeat_within (.refl _ _) _ _ (by decide +kernel),
      .next (fun _ => rfl) fun _ => State.spdmKeyUpdate_within (.refl _ _) _ _ (by decide +kernel),
      .next (fun _ => rfl) fun _ => State.spdmUnsupported_within (.refl _ _) _ _ (by decide +kernel)⟩
  case signed =>
    simp only [List.forall_mem_cons, List.not_mem_nil, false_implies, implies_true, and_true]
    exact ⟨
      .next (fun _ => rfl) fun _ => State.spdmChallenge_within (.refl _ _) _ _ (by decide +kernel),
      .next (fun _ => rfl) fun _ => State.spdmMeasurements_within (.refl _ _) _ _ _ (by decide +kernel),
      .accepted (fun _ => rfl) fun _ => State.spdmKeyExchange_within (.refl _ _) _ _ (by decide +kernel)⟩
  case vendor => exact .next (fun _ => rfl) fun _ => State.spdmVendor_within (.refl _ _) _ _ _ (by decide +kernel)
  case keys =>
    simp only [List.forall_mem_cons, List.not_mem_nil, false_implies, implies_true, and_true]
    refine ⟨?_, ?_, ?_, ?_⟩ <;> exact .next (fun _ => rfl) fun _ => State.km_within (.refl _ _) _ _ (by decide +kernel)
  case abort => exact .next (fun _ => rfl) fun _ => State.abortDoe_within (.refl _ _) _ (by decide +kernel)
  case info => exact .command (fun _ => rfl) (by decide +kernel) fun _ _ _ h => State.getInfo_within h _ (by decide +kernel)
  case updates =>
    simp only [List.forall_mem_cons, List.not_mem_nil, false_implies, implies_true, and_true]
    exact ⟨
      .command (fun _ => rfl) (by decide +kernel) fun _ _ _ h => State.getCertChain_within h _,
      .command (fun _ => rfl) (by decide +kernel) fun _ _ _ h => State.fwBegin_within h _ _ (by decide +kernel),
      .command (fun _ => rfl) (by decide +kernel) fun _ _ _ h => State.fwWrite_within h _ _ (by decide +kernel),
      .command (fun _ => rfl) (by decide +kernel) fun _ _ _ h => State.fwFinish_within h _ _ (by decide +kernel),
      .command (fun _ => rfl) (by decide +kernel) fun _ _ _ h => State.fwActivate_within h _ _ (by decide +kernel),
      .command (fun _ => rfl) (by decide +kernel) fun _ _ _ h => State.fwCancel_within h _ _ (by decide +kernel),
      .next (fun _ => rfl) fun _ => State.setEid_within (.refl _ _) _ (by decide +kernel)⟩
  case random => exact .command (fun _ => rfl) (by decide +kernel) fun _ _ _ h => State.getRandom_within h _ (by decide +kernel)
  case restart => exact .next (fun _ => rfl) fun _ => State.askRestart_within (.refl _ _) _ (by decide +kernel)
  case mailbox => exact .next (fun _ => rfl) fun _ => State.mbFinish_within (.refl _ _) _ (by decide +kernel)
  case endpoint =>
    simp only [List.forall_mem_cons, List.not_mem_nil, false_implies, implies_true, and_true]
    refine ⟨?_, ?_, ?_, ?_⟩ <;> exact .next (fun _ => rfl) fun _ => State.mctpAnswer_within (.refl _ _) _ (by decide +kernel)
  case rngFailure => exact .accepted (fun _ => rfl) fun _ => State.rngFail_within (.refl _ _) _ _ (by decide +kernel)
  case rngPass => exact .next (fun _ => rfl) fun _ => State.rngPass_within (.refl _ _) _ (by decide +kernel)
  case reseed => exact .next (fun _ => rfl) fun _ => State.reseed_within (.refl _ _) (by decide +kernel)
  case extend => exact .next (fun _ => rfl) fun _ => State.extendMeas_within (.refl _ _) _ _ (by decide +kernel)
  case boot => exact .next (fun _ => rfl) fun _ => State.bootMeasure_within (.refl _ _) (by decide +kernel)
  case failures =>
    simp only [List.forall_mem_cons, List.not_mem_nil, false_implies, implies_true, and_true]
    exact ⟨
      .next (fun _ => rfl) fun _ => .ite (State.ridgeFails_within (.refl _ _) _ _ _ _ (by decide +kernel)) (.refl _ _),
      .accepted (fun _ => rfl) fun _ => .ite (State.ridgeFails_within (.refl _ _) _ _ _ _ (by decide +kernel)) (.refl _ _),
      .accepted (fun _ => rfl) fun _ => .ite (State.ridgeFails_within (.refl _ _) _ _ _ _ (by decide +kernel))
        (.ite (State.ridgeFails_within (.refl _ _) _ _ _ _ (by decide +kernel)) (.refl _ _))⟩
  case checkers =>
    simp only [List.forall_mem_cons, List.not_mem_nil, false_implies, implies_true, and_true]
    exact ⟨
      .next (fun _ => rfl) fun _ => State.checkerLost_within (.refl _ _) _ (by decide +kernel),
      .next (fun _ => rfl) fun _ => State.selfTest_within (.refl _ _) _ (by decide +kernel)⟩
  case selfTest => exact .next (fun _ => rfl) fun _ => State.selfTestLate_within (.refl _ _) (by decide +kernel)
  case watchdog =>
    simp only [List.forall_mem_cons, List.not_mem_nil, false_implies, implies_true, and_true]
    exact ⟨
      .next (fun _ => rfl) fun _ => State.watchdogOver_within (.refl _ _) (by decide +kernel),
      .next (fun _ => rfl) fun _ => State.restartFailed_within (.refl _ _) (by decide +kernel)⟩
  case attempt => exact .next (fun _ => rfl) fun _ => State.releaseRidge_within (.refl _ _) (by decide +kernel)
  case countOver => exact .next (fun _ => rfl) fun _ => State.restartCountOver_within (.refl _ _) (by decide +kernel)
  case perst => exact .next (fun _ => rfl) fun _ => State.perstHigh_within (.refl _ _) _ (by decide +kernel)
  case trained => exact .next (fun _ => rfl) fun _ => State.linkTrained_within (.refl _ _) _ _ (by decide +kernel)
  case cfgRead => exact .next (fun _ => rfl) fun _ => State.configRead_within (.refl _ _) _ _ _ (by decide +kernel)
  case turnOff => exact .next (fun _ => rfl) fun _ => State.turnOff_within (.refl _ _) _ (by decide +kernel)
  case askL1 => exact .next (fun _ => rfl) fun _ => State.askL1_within (.refl _ _) _ (by decide +kernel)
  case substate => exact .next (fun _ => rfl) fun _ => State.enterL1Sub_within (.refl _ _) _ _ (by decide +kernel)
  case exitL1 => exact .next (fun _ => rfl) fun _ => State.exitL1_within (.refl _ _) _ (by decide +kernel)
  case ltr => exact .next (fun _ => rfl) fun _ => State.judgeLtr_within (.refl _ _) _ (by decide +kernel)
  case l0p =>
    simp only [List.forall_mem_cons, List.not_mem_nil, false_implies, implies_true, and_true]
    exact ⟨
      .next (fun _ => rfl) fun _ => State.evalL0p_within (.refl _ _) _ _ _ (by decide +kernel),
      .next (fun _ => rfl) fun _ => State.hostL0p_within (.refl _ _) _ _ (by decide +kernel)⟩
  case ptm => exact .onExpiry (fun _ => rfl) (by decide +kernel) fun _ _ h => State.ptmDialog_within h _ _ (by decide +kernel)
  case ptmLost => exact .onExpiry (fun _ => rfl) (by decide +kernel) fun _ _ h => State.ptmLost_within h _ (by decide +kernel)
  case grant =>
    exact .whenUp (fun _ => rfl) fun _ _ h => State.retryEntries_within (State.runEngines_within (State.hostGrant_within h _ (by decide +kernel))
      (by decide +kernel)) (by decide +kernel)
  case rom =>
    exact .next (fun _ => rfl) fun _ => .ite (State.romRead_within (.refl _ _) _ _ (by decide +kernel))
      (State.badRequest_within (.refl _ _) _ _ (by decide +kernel))
  case turnedAway => exact .next (fun _ => rfl) fun _ => State.badRequest_within (.refl _ _) _ _ (by decide +kernel)
  case pps => exact .next (fun _ => rfl) fun _ => State.ppsEdge_within (.refl _ _) _ (by decide +kernel)
  case masters =>
    simp only [List.forall_mem_cons, List.not_mem_nil, false_implies, implies_true, and_true]
    constructor <;> exact .byConfig (fun _ => rfl) (by decide +kernel) fun _ _ h => State.setBme_within h _ _ (by decide +kernel)
  case d3hot => exact .byConfig (fun _ => rfl) (by decide +kernel) fun _ _ h => State.setPower_within h _ _ (by decide +kernel)
  case resize => exact .byConfig (fun _ => rfl) (by decide +kernel) fun _ _ h => State.resizeBar_within h _ _ _ (by decide +kernel)
  case mme => exact .byConfig (fun _ => rfl) (by decide +kernel) fun _ _ h => State.setMme_within h _ (by decide +kernel)
  case vfeSet => exact .byConfig (fun _ => rfl) (by decide +kernel) fun _ _ h => State.setVfe_within h _ (by decide +kernel)
  case vfeClear => exact .byConfig (fun _ => rfl) (by decide +kernel) fun _ _ h => State.writeVfe_within h _ _ _ (by decide +kernel)
  case flrEnd => exact .next (fun _ => rfl) fun _ => State.endSequence_within (.refl _ _) _ (by decide +kernel)
  case windowRead =>
    exact .next (fun _ => rfl) fun _ => .ite (State.windowRead_within (.refl _ _) _ _ _ _ _ _ (by decide +kernel))
      (State.badRequest_within (.refl _ _) _ _ (by decide +kernel))
  case windowWrite =>
    exact .next (fun _ => rfl) fun _ => .ite (State.badRequest_within (.refl _ _) _ _ (by decide +kernel))
      (.ite (State.badRequest_within (.refl _ _) _ _ (by decide +kernel)) (State.windowWrite_within (.refl _ _) _ _ _ _ _ (by decide +kernel)))
  case doorbell =>
    have awake (s : State) : State.Within (listMask channelKinds (channelAreas ++ [.cfg])) s (s.leaveL1 (fnPort f)) :=
      State.leaveL1_within (.refl _ s) _ (by decide +kernel)
    have woken (s : State) := State.wakeRegion_within (awake s) 34 (by decide +kernel)
    exact .next (fun _ => rfl) fun s => .ite (.refl _ _) (.ite (State.dropUr_within (awake s) _ _ _ (by decide +kernel))
      (.ite (woken s) (State.ringDoorbell_within (woken s) _ _ _ _ _ (by decide +kernel))))
  case msix =>
    exact .next (fun _ => rfl) fun _ => .ite (State.writeTable_within (.refl _ _) _ _ _ (by decide +kernel))
      (State.badRequest_within (.refl _ _) _ _ (by decide +kernel))
  case ide => exact .next (fun _ => rfl) fun _ => State.ideFail_within (.refl _ _) _ _ _ (by decide +kernel)

end Sys2Proof.Machine
end


/-! The statement on host completions fails where a queue's entry waits behind the request that the tag arbiter grants (R18): with the request
gone the entry is written in the same step (R95), beside the one TLP that the statement lets the grant send. -/

section
namespace Sys2Proof.Machine

/-- A module that is up, with the link of port 0 in L0, Bus Master Enable and Memory Space Enable of PF0 set, and every region of the host's
way running. -/
def linkZeroRuns : State :=
  (((({ State.reset with phase := .up } : State).put HP_LINK_STATUS.link_up 0 1).put HP_LINK_STATUS.pm_state 0 0).put FUNC_STATE.bme 0 1).put
    FUNC_STATE.mse 0 1

/-- A NOP that has ended without error: its entry is due. -/
def endedNop : Current := startCurrent ⟨0, [0x401, 0, 0, 0, 0, 0, 0, 0], 0, 9, none, false, false, false, 0, none, false⟩ (some 0) 9

/-- A read that engine 0 asked for PF0's queue 6. -/
def engineRead : HReq :=
  { fn := 0, fgen := 0, q := some 6, qgen := 0, seg := none, p := 0x7F, v := 0, fromHost := true, id := 0, pasid := none, addr := 0x1000, len := 64
    be := 0, key := 0, tagged := false, purpose := .engine 0 0 }

/-- The entry of queue 5 of PF0 is due behind the read, which waits at the tag arbiter while its engine drains. -/
def entryWaits : State :=
  ((((linkZeroRuns.put Q_RING.sq_log2 5 6).put Q_RING.cq_log2 5 6).put Q_STATE.state 5 3).setQueue 5 { QDyn.reset with cur := some endedNop }).setEng 0
    { EngDyn.reset with q := some 6, draining := true } |>.modHost 0 (fun d => { d with waiting := [engineRead] })

/-- The read is the head, and may be granted tag 0. -/
theorem entryWaits_grants : entryWaits.isUp = true ∧ headReq (entryWaits.host 0).waiting = some engineRead ∧ entryWaits.mayIssue 0 engineRead = true
    ∧ entryWaits.streamFailed 0 (entryWaits.streamFor 0) = false ∧ entryWaits.freeTag 0 = some 0 := by decide +kernel

theorem entryWaits_noEngineRuns : entryWaits.NoEngineRuns := by
  have hengines : entryWaits.engines = [(0, { EngDyn.reset with q := some 6, draining := true })] := by decide +kernel
  intro e he
  rw [hengines, List.mem_singleton] at he
  exact .inr (he ▸ rfl)

theorem entryWaits_noPosts : ∀ x ∈ (entryWaits.host 0).waiting, x.posted = false := by
  have hwaiting : (entryWaits.host 0).waiting = [engineRead] := by decide +kernel
  intro x hx
  rw [hwaiting, List.mem_singleton] at hx
  exact hx ▸ rfl

/-- Nothing can be sent of the entry before the grant, which lets the read and the entry go. -/
theorem entryWaits_sent : entryWaits.retryEntries.sent = [] ∧ entryWaits.sent = []
    ∧ (entryWaits.whenUp (fun s => ((s.hostGrant 0).runEngines).retryEntries)).sent.length = 2 := by decide +kernel

/-- Refutes O43: the grant of a read also sends the entry of a queue that waited behind it. -/
theorem not_hostCompletionsEnd : ¬ Obligations.HostCompletionsEnd := by
  unfold Obligations.HostCompletionsEnd
  intro h
  obtain ⟨hup, hhead, hmay, hstream, htag⟩ := entryWaits_grants
  obtain ⟨-, hnone, htwo⟩ := entryWaits_sent
  obtain ⟨-, -, -, -, -, -, hgrant⟩ := h entryWaits 0 0 (List.replicate 4 0) ⟨by decide +kernel, by decide +kernel⟩ (by decide) (by decide +kernel)
    (by decide +kernel)
  obtain ⟨t, ht, -, -, hone⟩ := hgrant engineRead 0 hup hhead entryWaits_noPosts rfl hmay hstream htag entryWaits_noEngineRuns
  have hsent : t.sent = (entryWaits.whenUp (fun s => ((s.hostGrant 0).runEngines).retryEntries)).sent :=
    congrArg State.sent (Host.Outcome.next.inj ht).symm
  rw [← hsent, hone, hnone] at htwo
  cases htwo

end Sys2Proof.Machine
end

/-! The statement on windows fails at the end of a table entry: it bounds no dword number of the entries that a write leaves as they were, and
dword 4 of entry 0 is dword 0 of entry 1 (R384, R386). -/

section
namespace Sys2Proof.Machine

/-- Dword 4 beyond the start of an entry is dword 0 of the next. -/
theorem State.msixWord_next (s : State) (f e : Nat) : s.msixWord f e 4 = s.msixWord f (e + 1) 0 := by
  have hkey : msixKey f e 4 = msixKey f (e + 1) 0 := by simp only [msixKey]; omega
  rw [State.msixWord, hkey, State.msixWord]

/-- A host request reaches PF0 of `linkZeroRuns`, whose table no message waits at. -/
theorem linkZeroRuns_hears : linkZeroRuns.Hears 0 ∧ linkZeroRuns.fnHeld 0 = false ∧ linkZeroRuns.steady 34 = true :=
  ⟨⟨by decide +kernel, by decide +kernel, by decide +kernel⟩, by decide +kernel, by decide +kernel⟩

theorem linkZeroRuns_table : 1 < linkZeroRuns.tableSize 0 ∧ linkZeroRuns.backed 0 1 = true ∧ linkZeroRuns.msixWord 0 0 4 = 0
    ∧ linkZeroRuns.msixWord 0 1 0 = 0 := by decide +kernel

/-- Refutes O44: a write of 8 to the address of entry 1 also changes what the statement calls dword 4 of entry 0. -/
theorem not_windowsAnswer : ¬ Obligations.WindowsAnswer := by
  unfold Obligations.WindowsAnswer
  intro h
  obtain ⟨hhears, hfree, hcore⟩ := linkZeroRuns_hears
  obtain ⟨hsize, hbacked, hbefore, haddr⟩ := linkZeroRuns_table
  obtain ⟨-, -, htable⟩ := h linkZeroRuns 0 0 0 0 0 0 0 [] hhears hfree hcore
  obtain ⟨hwrite, -⟩ := htable 1 0 8 hsize (by decide) (by decide +kernel) (by decide +kernel)
  obtain ⟨t, -, hload, hothers, -⟩ := hwrite hbacked
  have hkept : t.msixWord 0 0 4 = linkZeroRuns.msixWord 0 0 4 := hothers 0 4 (.inl (by decide))
  have hloaded : t.msixWord 0 1 0 = (linkZeroRuns.msixWord 0 1 0 &&& ~~~ 0xFFFFFFFC) ||| (8 &&& 0xFFFFFFFC) := hload
  rw [← State.msixWord_next, hkept, hbefore, haddr] at hloaded
  exact absurd hloaded (by decide)

end Sys2Proof.Machine
end


/-! What lasts while a fetch, an engine read or a device read ends and writes go on to the hosts: a condition that no operation changes which
leaves the hosts, the status of IDE and configuration space alone, and that sending on an IDE stream keeps. -/

section
namespace Sys2Proof.Machine

/-- The condition lasts through what leaves the hosts, HP_IDE_STATUS and configuration space alone, through what changes a host port but not
its IDE streams, through sending on a stream, and through the parity error that a poisoned write sets. -/
structure Lasting (P : State → Prop) : Prop where
  beside : ∀ {s t}, P s → State.Within (besideMask [.HP_IDE_STATUS] [.hosts, .cfg]) s t → P t
  modHost : ∀ {s} (h : Nat) {g : HostDyn → HostDyn}, P s → (∀ d, (g d).ide = d.ide) → P (s.modHost h g)
  onStream : ∀ {s} (h : Nat) (st : Option Nat), P s → P (s.onStream h st)
  parityError : ∀ {s} (f : Nat), P s → P (s.setStatus f 24)

section
variable {P : State → Prop} {s : State}

/-! ### Writes to host memory -/

theorem Lasting.noteBad (k : Lasting P) (h : P s) (f : Nat) (bad : Bool) : P (s.noteBad f bad) := by
  unfold State.noteBad
  split
  · exact k.parityError f h
  · exact h

theorem Lasting.leaveL1 (k : Lasting P) (h : P s) (j : Nat) : P (s.leaveL1 j) := by
  unfold State.leaveL1
  split
  · refine k.modHost j (k.beside h ?_) fun _ => rfl
    exact State.ungateHcr_within (State.put_within (State.put_within (.refl _ _) _ _ _ (by decide)) _ _ _ (by decide)) j (by decide)
  · exact h

theorem Lasting.emitTlp (k : Lasting P) (h : P s) (f : Nat) (o : Output) : P (s.emitTlp f o) :=
  k.beside h (State.emitTlp_within (.refl _ s) f o (by decide))

/-- What precedes every write to a host. -/
theorem Lasting.presented (k : Lasting P) (h : P s) (f : Nat) (bad : Bool) (st : Option Nat) :
    P (((s.noteBad f bad).leaveL1 (fnPort f)).onStream (fnPort f) st) :=
  k.onStream _ _ (k.leaveL1 (k.noteBad h f bad) _)

theorem Lasting.hostWrite (k : Lasting P) (h : P s) (f : Nat) (pasid : Option Nat) (addr : Nat) (data : List Byte) (bad : Bool) :
    P (s.hostWrite f pasid addr data bad) := by
  unfold State.hostWrite
  dsimp only
  split
  · exact h
  · exact State.each_keeps P (k.presented h f bad _) _ fun _ _ h => k.emitTlp h _ _

theorem Lasting.hostWriteSparse (k : Lasting P) (h : P s) (f : Nat) (pasid : Option Nat) (addr be : Nat) (data : List Byte) (bad : Bool) :
    P (s.hostWriteSparse f pasid addr be data bad) := by
  unfold State.hostWriteSparse
  dsimp only
  split
  · exact h
  · exact k.emitTlp (k.presented h f bad _) _ _

theorem Lasting.sendPost (k : Lasting P) (h : P s) (r : HReq) : P (s.sendPost r) := by
  have judged {t : State} (h : P t) : P (t.missAt r.key r.fn 5 r.p r.v [portCtr r.p 24]) :=
    k.beside h (State.missAt_within (.refl _ t) _ _ _ _ _ _ (by decide))
  unfold State.sendPost
  split
  next data _ bad _ =>
    extract_lets sent
    have hsent : P sent := by
      unfold sent
      split
      · exact k.hostWriteSparse h ..
      · exact k.hostWrite h ..
    split
    · exact judged hsent
    · exact hsent
  · exact h

theorem Lasting.drainPosts (k : Lasting P) (j n : Nat) (h : P s) : P (s.drainPosts j n) := by
  induction n generalizing s with
  | zero => exact h
  | succ n ih =>
    unfold State.drainPosts
    split
    · exact h
    · refine ih (k.sendPost (k.modHost j h ?_) _)
      exact fun _ => rfl

theorem Lasting.drainWrites (k : Lasting P) (h : P s) (j : Nat) : P (s.drainWrites j) := k.drainPosts j _ h

theorem Lasting.callHost (k : Lasting P) (h : P s) (ts : List Nat) (f : Nat) : P (s.callHost ts f) :=
  k.leaveL1 (k.beside h (State.wakeSlices_within (.refl _ s) _ (by decide))) _

/-! ### Entries and halts -/

theorem Lasting.writeEntry (k : Lasting P) (h : P s) (q : Nat) (e : Entry) : P (s.writeEntry q e) :=
  k.beside (k.hostWrite h ..) (State.signalEntry_within (State.advanceHeads_within (.refl _ _) q _ (by decide)) q e (by decide))

theorem Lasting.callEntry (k : Lasting P) (h : P s) (q : Nat) : P (s.callEntry q) := by
  unfold State.callEntry
  split
  · exact k.callHost h ..
  · exact h

theorem Lasting.writeHeld (k : Lasting P) (h : P s) (q : Nat) : P (s.writeHeld q) := by
  unfold State.writeHeld
  split
  · dsimp only
    split
    · exact h
    · split
      · exact k.writeEntry (k.beside (k.callEntry h q) (State.clearHeld_within (.refl _ _) q (by decide))) q _
      · exact k.callEntry h q
  · exact h

theorem Lasting.settleState (k : Lasting P) (h : P s) (q : Nat) : P (s.settleState q) :=
  k.beside h (State.settleState_within (.refl _ s) q (by decide))

theorem Lasting.tryHeld (k : Lasting P) (h : P s) (q : Nat) : P (s.tryHeld q) := by
  unfold State.tryHeld
  split
  · exact h
  · dsimp only
    split
    · split
      · exact k.settleState (k.writeHeld h q) q
      · exact k.writeHeld h q
    · exact h

theorem Lasting.modQueue (k : Lasting P) (h : P s) (q : Nat) (g : QDyn → QDyn) : P (s.modQueue q g) :=
  k.beside h (State.modQueue_within (.refl _ s) q g (by decide))

theorem Lasting.put (k : Lasting P) (h : P s) (F : Fld) (i v : Nat) (hF : F.reg.bit ||| besideMask [.HP_IDE_STATUS] [.hosts, .cfg] =
    besideMask [.HP_IDE_STATUS] [.hosts, .cfg]) : P (s.put F i v) :=
  k.beside h (State.put_within (.refl _ s) F i v hF)

theorem Lasting.settleEntry (k : Lasting P) (h : P s) (q : Nat) : P (s.settleEntry q) := by
  have held {t : State} (h : P t) (e : Entry) : P (t.holdEntry q e) := k.beside h (State.holdEntry_within (.refl _ t) q e (by decide))
  unfold State.settleEntry
  split
  · exact h
  next e _ =>
    extract_lets called
    have hcalled : P called := k.callEntry h q
    split_ifs
    · exact h
    · exact held h e
    · exact h
    · exact held h _
    · exact h
    · exact k.beside h (State.bump_within (State.put_within (.refl _ s) _ _ _ (by decide)) _ (by decide))
    · exact hcalled
    · exact k.writeEntry (k.modQueue hcalled q _) q e
    · refine k.beside (k.writeEntry (k.beside hcalled ?_) q e) (State.endDescriptor_within (.refl _ _) q (by decide))
      exact State.countMiss_within (.refl _ _) q e (by decide)

theorem Lasting.loseExt (k : Lasting P) (h : P s) (q : Nat) : P (s.loseExt q) := by
  unfold State.loseExt
  refine k.modQueue (k.modHost _ h ?_) q _
  exact fun _ => rfl

/-- An engine that drains gives up the reads of it that wait. -/
theorem Lasting.drainEngine (k : Lasting P) (h : P s) (e : Nat) : P (s.drainEngine e) := by
  unfold State.drainEngine
  extract_lets paced mine gone withdrawn emptied
  have hwithdrawn : P withdrawn := by
    refine State.each_keeps P (k.beside h (State.endPace_within (.refl _ s) e (by decide))) _ fun t j h => k.modHost j h ?_
    exact fun _ => rfl
  have hemptied : P emptied := k.beside hwithdrawn (State.modEng_within (.refl _ _) e _ (by decide))
  split
  · exact k.beside hemptied (State.releaseEngine_within (.refl _ _) e (by decide))
  · exact k.beside hemptied (State.noteEngine_within (State.put_within (.refl _ _) _ _ _ (by decide)) e (by decide))

theorem Lasting.errorHalt (k : Lasting P) (h : P s) (q status addr dir space source : Nat) : P (s.errorHalt q status addr dir space source) := by
  unfold State.errorHalt
  extract_lets st rejected
  split
  · split
    · exact k.beside h (State.bump_within (.refl _ s) _ (by decide))
    · exact h
  · split
    · exact h
    next c _ =>
      extract_lets recorded addressed informed indexed due drained
      have hrejected : P rejected := by
        unfold rejected
        split
        · exact k.put h _ _ _ (by decide)
        · exact h
      have hrecorded : P recorded := k.loseExt (k.beside hrejected (State.recordResume_within (.refl _ _) q c (by decide))) q
      have hinformed : P informed :=
        k.put (k.put (k.put (k.put (k.put hrecorded _ _ _ (by decide)) _ _ _ (by decide)) _ _ _ (by decide)) _ _ _ (by decide)) _ _ _ (by decide)
      have hdue : P due := k.modQueue (k.put (k.put hinformed _ _ _ (by decide)) _ _ _ (by decide)) q _
      have hdrained : P drained := by
        unfold drained
        split
        · exact k.drainEngine hdue _
        · exact hdue
      exact k.settleEntry hdrained q

theorem Lasting.kick (k : Lasting P) (h : P s) (q : Nat) : P (s.kick q) := by
  unfold State.kick
  split
  · exact h
  · split
    · split
      · exact k.errorHalt (k.modQueue h q _) ..
      · split
        · exact k.modQueue h q _
        · exact h
    · exact h

theorem Lasting.tryEntry (k : Lasting P) (h : P s) (q : Nat) : P (s.tryEntry q) := k.kick (k.settleEntry (k.tryHeld h q) q) q

theorem Lasting.goOn (k : Lasting P) (h : P s) (q op : Nat) : P (s.goOn q op) := by
  unfold State.goOn
  extract_lets written resumed
  have hresumed : P resumed := k.modQueue (k.put (k.writeHeld h q) _ _ _ (by decide)) q _
  split
  · exact k.tryEntry (k.settleState hresumed q) q
  · exact k.tryEntry (k.put (k.modQueue hresumed q _) _ _ _ (by decide)) q

theorem Lasting.runWaiting (k : Lasting P) (h : P s) (q : Nat) : P (s.runWaiting q) := by
  unfold State.runWaiting
  split
  · exact k.goOn h q _
  · exact h

/-! ### Requests that end in an error -/

theorem Lasting.fetchFailed (k : Lasting P) (h : P s) (q : Nat) (purpose : HPurpose) (addr : Nat) : P (s.fetchFailed q purpose addr) := by
  unfold State.fetchFailed
  split
  · split
    · exact k.runWaiting (k.modQueue (k.errorHalt h ..) q _) q
    · exact k.errorHalt (k.modQueue h q _) ..
  · extract_lets ended
    have hended : P ended := k.modQueue h q _
    split
    · split
      · exact k.errorHalt hended ..
      · exact k.modQueue hended q _
    · exact k.kick (k.modQueue hended q _) q
  · exact h

theorem Lasting.engineError (k : Lasting P) (h : P s) (e pos status addr space source : Nat) :
    P (s.engineError e pos status addr space source) := by
  unfold State.engineError
  extract_lets ended
  have hended : P ended := k.beside h (State.modEng_within (.refl _ s) e _ (by decide))
  split
  · exact hended
  · split
    · exact k.beside hended (State.noteEngine_within (State.bump_within (.refl _ _) _ (by decide)) e (by decide))
    · exact k.errorHalt hended ..

theorem Lasting.dropParts (k : Lasting P) (h : P s) (j p tag : Nat) : P (s.dropParts j p tag) := by
  unfold State.dropParts
  dsimp only
  split
  · refine k.drainWrites (k.modHost j h ?_) j
    exact fun _ => rfl
  · exact h

theorem Lasting.modPort (k : Lasting P) (h : P s) (p : Nat) (g : PortDyn → PortDyn) : P (s.modPort p g) :=
  k.beside h (State.modPort_within (.refl _ s) p g (by decide))

theorem Lasting.answerDevices (k : Lasting P) (h : P s) (p : Nat) : P (s.answerDevices p) := by
  unfold State.answerDevices
  refine k.beside (foldl_keeps (fun a : State × List (Nat × Nat) => P a.1) _ _ _ h ?_) (State.quiet_within (.refl _ _) p (by decide))
  rintro ⟨t, blocked⟩ x h
  have answered : P (t.answerDevice p x.1 (x.2.len + 1) x.2).2 := k.beside h (State.answerDevice_within (.refl _ t) p x.1 _ x.2 (by decide))
  dsimp only
  split
  · exact h
  · split
    next hd =>
      rw [hd] at answered
      dsimp only at answered ⊢
      exact k.modPort answered p _
    next hd =>
      rw [hd] at answered
      dsimp only at answered ⊢
      exact k.dropParts (k.modPort answered p _) ..

theorem Lasting.locPart (k : Lasting P) (h : P s) (p dtag ofs : Nat) (bs : List Byte) (done err : Bool) : P (s.locPart p dtag ofs bs done err) := by
  unfold State.locPart
  split
  · exact h
  · exact k.answerDevices (k.modPort h p _) p

theorem Lasting.hostError (k : Lasting P) (h : P s) (r : HReq) (status : Nat) : P (s.hostError r status) := by
  unfold State.hostError
  split
  · exact k.engineError h ..
  · exact k.locPart h ..
  · exact h
  · exact h
  · split
    · exact k.fetchFailed h ..
    · exact h

end

end Sys2Proof.Machine
end


/-! IDE streams: what the messages of key management leave of a stream and its secure bit, and what a stream that fails leaves of the others. -/

section
namespace Sys2Proof.Machine

/-! ### Association lists -/

section
variable {α : Type}

theorem find1_cons (k : Nat) (e : Nat × α) (xs : List (Nat × α)) : find1 k (e :: xs) = if e.1 = k then some e.2 else find1 k xs := by
  rw [find1, List.find?_cons]
  split_ifs with h
  · simp [h]
  · rw [beq_false_of_ne h, find1]

theorem find1_isSome (k : Nat) (xs : List (Nat × α)) : (find1 k xs).isSome = xs.any (fun e => e.1 == k) := by
  rw [Bool.eq_iff_iff, find1, Option.isSome_map, List.find?_isSome, List.any_eq_true]

/-- The value of one key is replaced where the list has it. -/
theorem find1_replaced (j k : Nat) (v : α) (xs : List (Nat × α)) :
    find1 j (xs.map (fun e => if e.1 == k then (k, v) else e)) = if j = k then (find1 k xs).map (fun _ => v) else find1 j xs := by
  induction xs with
  | nil => simp [find1]
  | cons e xs ih =>
    rw [List.map_cons, find1_cons, find1_cons, find1_cons, ih]
    by_cases he : e.1 = k <;> by_cases hj : j = k <;> grind

theorem find1_append_self (j k : Nat) (v : α) (xs : List (Nat × α)) (h : find1 k xs = none) :
    find1 j (xs ++ [(k, v)]) = if j = k then some v else find1 j xs := by
  induction xs with
  | nil => rw [List.nil_append, find1_cons]; grind
  | cons e xs ih =>
    rw [find1_cons] at h
    rw [List.cons_append, find1_cons, find1_cons]
    grind

theorem mem_of_find1 {k : Nat} {v : α} {xs : List (Nat × α)} (h : find1 k xs = some v) : (k, v) ∈ xs := by
  obtain ⟨⟨j, w⟩, he, rfl⟩ := Option.map_eq_some_iff.mp h
  have hj : j = k := by simpa using List.find?_some he
  exact hj ▸ List.mem_of_find?_eq_some he

/-- A key reads as it was put, another as before. -/
theorem find1_put1 (j k : Nat) (v : α) (xs : List (Nat × α)) : find1 j (put1 k v xs) = if j = k then some v else find1 j xs := by
  rw [put1, ← find1_isSome]
  cases h : find1 k xs with
  | none => exact find1_append_self j k v xs h
  | some w => rw [Option.isSome_some, if_pos rfl, find1_replaced, h, Option.map_some]

@[simp] theorem find1_put1_self (k : Nat) (v : α) (xs : List (Nat × α)) : find1 k (put1 k v xs) = some v := by rw [find1_put1, if_pos rfl]

theorem find1_put1_other {j k : Nat} (h : j ≠ k) (v : α) (xs : List (Nat × α)) : find1 j (put1 k v xs) = find1 j xs := by
  rw [find1_put1, if_neg h]

end

/-! ### A stream and its secure bit -/

section
variable {s : State} {h : HostId} {i : Fin 9}

theorem State.setIde_ideStream_self (s : State) (h i : Nat) (x : IdeStream) : (s.setIde h i x).ideStream h i = x := by
  rw [State.ideStream, State.setIde, State.modHost_host_self, find1_put1_self, Option.getD_some]

theorem State.setIde_ideStream_other (s : State) (h : Nat) {i j : Nat} (hj : j ≠ i) (x : IdeStream) :
    (s.setIde h i x).ideStream h j = s.ideStream h j := by
  rw [State.ideStream, State.setIde, State.modHost_host_self, find1_put1_other hj, State.ideStream]

/-- Streams are read from the hosts' table. -/
theorem State.ideStream_congr {t : State} {g : Nat} (hh : (t.host g).ide = (s.host g).ide) (j : Nat) : t.ideStream g j = s.ideStream g j := by
  rw [State.ideStream, hh, State.ideStream]

/-- The secure bits are read from HP_IDE_STATUS, beside key_change. -/
theorem State.secureBit_congr {t : State} {g : Nat} (hl : t.get HP_IDE_STATUS.link_secure g = s.get HP_IDE_STATUS.link_secure g)
    (hs : t.get HP_IDE_STATUS.sel_secure g = s.get HP_IDE_STATUS.sel_secure g) (j : Nat) : t.secureBit g j = s.secureBit g j := by
  rw [State.secureBit, State.on, hl, hs, State.secureBit, State.on]

theorem State.setIde_secureBit (s : State) (h i : Nat) (x : IdeStream) (g j : Nat) : (s.setIde h i x).secureBit g j = s.secureBit g j :=
  State.secureBit_congr (s.modHost_get _ _ _ _) (s.modHost_get _ _ _ _) j

theorem State.judgeKeys_ideStream (s : State) (h g j : Nat) : (s.judgeKeys h).ideStream g j = s.ideStream g j :=
  State.ideStream_congr (by rw [State.judgeKeys, State.flag_host]) j

/-- key_change stands beside the secure bits. -/
theorem State.judgeKeys_get_beside (s : State) (h : Nat) {F : Fld} (hF : F.reg = .HP_IDE_STATUS) (hb : F.lo + F.len ≤ 9) (g : Nat) :
    (s.judgeKeys h).get F g = s.get F g := by
  by_cases hg : g = h
  · subst hg
    exact State.get_flag_beside hF (.inl hb)
  · exact State.get_flag_index hF hg

theorem State.judgeKeys_secureBit (s : State) (h g j : Nat) : (s.judgeKeys h).secureBit g j = s.secureBit g j :=
  State.secureBit_congr (s.judgeKeys_get_beside h rfl (by decide) g) (s.judgeKeys_get_beside h rfl (by decide) g) j

/-- key_change shows a stream whose next key set waits. -/
theorem State.judgeKeys_key_change (s : State) (h : HostId) :
    (s.judgeKeys h).get HP_IDE_STATUS.key_change h = b2n ((s.host h).ide.any (fun e => e.2.next.isSome)) := by
  rw [State.judgeKeys, State.get_flag_self h.isLt (by decide)]
  exact Nat.mod_eq_of_lt (b2n_lt _)

theorem State.setSecure_ideStream (s : State) (h i : Nat) (b : Bool) (g j : Nat) : (s.setSecure h i b).ideStream g j = s.ideStream g j := by
  refine State.ideStream_congr ?_ j
  unfold State.setSecure
  split
  · rw [State.flag_host]
  · rw [State.put_host]

/-- The secure bit of a stream reads as it was set. -/
theorem State.setSecure_secureBit (s : State) (h : HostId) (i : Fin 9) (b : Bool) : (s.setSecure h i b).secureBit h i = b := by
  unfold State.setSecure State.secureBit
  split_ifs with hi
  · rw [State.on, State.get_flag_self h.isLt (by decide)]
    cases b <;> rfl
  · have hbit : i.val - 1 < 8 := by omega
    have h64 : i.val - 1 < 64 := by omega
    rw [State.get_put_self h.isLt (by decide), Nat.testBit_mod_two_pow, BitVec.testBit_toNat, getLsbD_setBits]
    have hsel : HP_IDE_STATUS.sel_secure.len = 8 := rfl
    cases b <;> simp [hsel, hbit, h64, b2n]

/-! ### Messages of key management (R158) -/

theorem State.kmReady_open {h : Nat} (hk : s.kmReady h = true) : s.on GLOBAL_STATUS.ridge_down = false := by
  simp only [State.kmReady, Bool.and_eq_true, Bool.not_eq_true'] at hk
  exact hk.1.1.2

/-- What answers a message of key management: the request is taken, and nothing of the streams changes. -/
theorem State.respond_ideStream (s : State) (h : HostId) (r : SpdmRsp) (g j : Nat) : (s.respond (.doe h) r).ideStream g j = s.ideStream g j := by
  refine State.ideStream_congr ?_ j
  rw [State.respond, State.emit_host]
  by_cases hg : g = h
  · rw [hg, State.modHost_host_self]
  · rw [State.modHost_host_other _ _ hg]

theorem State.respond_only (s : State) (h : HostId) (r : SpdmRsp) : State.Only [] [.hosts, .sent] s (s.respond (.doe h) r) :=
  (State.emit_within (State.modHost_within (.refl _ s) _ _ (by decide)) _ (by decide)).only

/-- A message in an established session takes effect on one stream `i`, which is then `x`, and is answered. -/
theorem State.kmAnswers {u : State} {r : KmRsp} {x : IdeStream} (id : Nat) (hx : u.ideStream h i = x)
    (hothers : ∀ j, j ≠ i.val → u.ideStream h j = s.ideStream h j) (honly : State.Only [.HP_IDE_STATUS] [.hosts] s u) :
    KmAnswers s h r i x (u.respond (.doe h) (.ideKm id r)) where
  sent := ⟨id, congrArg _ (honly.areas .sent (by decide))⟩
  stream := (u.respond_ideStream ..).trans hx
  others := fun j hj => (u.respond_ideStream ..).trans (hothers j hj)
  only := (honly.mono (by decide) (by decide)).trans ((u.respond_only ..).mono (by decide) (by decide))

theorem State.km_ready (hk : s.kmReady h = true) (m : IdeKm) :
    s.km h m = (s.kmEffect h m).2.respond (.doe h) (.ideKm (s.kmSession h) (s.kmEffect h m).1) := if_pos hk

/-- A stream takes a state and a secure bit. -/
def State.loadStream (s : State) (h i : Nat) (x : IdeStream) (b : Bool) : State := ((s.setIde h i x).setSecure h i b).judgeKeys h

theorem State.loadStream_self (s : State) (h i : Nat) (x : IdeStream) (b : Bool) : (s.loadStream h i x b).ideStream h i = x := by
  rw [State.loadStream, State.judgeKeys_ideStream, State.setSecure_ideStream, State.setIde_ideStream_self]

theorem State.loadStream_other (s : State) (h : Nat) {i j : Nat} (hj : j ≠ i) (x : IdeStream) (b : Bool) :
    (s.loadStream h i x b).ideStream h j = s.ideStream h j := by
  rw [State.loadStream, State.judgeKeys_ideStream, State.setSecure_ideStream, State.setIde_ideStream_other _ _ hj]

theorem State.loadStream_secureBit (s : State) (h : HostId) (i : Fin 9) (x : IdeStream) (b : Bool) : (s.loadStream h i x b).secureBit h i = b := by
  rw [State.loadStream, State.judgeKeys_secureBit, State.setSecure_secureBit]

theorem State.loadStream_only (s : State) (h i : Nat) (x : IdeStream) (b : Bool) :
    State.Only [.HP_IDE_STATUS] [.hosts] s (s.loadStream h i x b) :=
  (State.judgeKeys_within (State.setSecure_within (State.setIde_within (.refl _ s) _ _ _ (by decide)) _ _ _ (by decide)) _ (by decide)).only

/-- A stream that uses no key set, or this one already, is secure with it at once. -/
theorem State.setGo_first {k : Nat} (hk : find1 k (s.ideStream h i).keys ≠ none)
    (ha : (s.ideStream h i).active = none ∨ (s.ideStream h i).active = some k) :
    s.setGo h i k = s.loadStream h i { s.ideStream h i with active := some k, next := none, failed := false } true := by
  unfold State.setGo
  dsimp only
  rw [if_neg (by simpa using hk), if_neg]
  · rfl
  · rcases ha with ha | ha <;> simp [ha]

/-- A stream that uses another key set goes on with it (log entry 55). -/
theorem State.setGo_later {j k : Nat} (hk : find1 k (s.ideStream h i).keys ≠ none) (ha : (s.ideStream h i).active = some j) (hj : j ≠ k) :
    s.setGo h i k = (s.setIde h i { s.ideStream h i with next := some k }).judgeKeys h := by
  unfold State.setGo
  dsimp only
  rw [if_neg (by simpa using hk), if_pos]
  simp [ha, hj]

theorem State.setStop_active {k : Nat} (ha : (s.ideStream h i).active = some k) :
    s.setStop h i k = s.loadStream h i { s.ideStream h i with active := none, next := none, keys := drop1 k (s.ideStream h i).keys } false := by
  unfold State.setStop
  exact if_pos ha

/-- QUERY is answered, and changes no stream. -/
theorem State.query_completes (hk : s.kmReady h = true) : Completes (.query h) s (fun u =>
    (∃ id, u.sent = .spdm (.doe h) (.ideKm id (s.kmQuery h)) :: s.sent) ∧ State.Only [] [.hosts, .sent] s u
      ∧ ∀ j, u.ideStream h j = s.ideStream h j) :=
  ⟨_, congrArg Host.Outcome.next (State.km_ready hk .query), ⟨_, rfl⟩, s.respond_only .., fun _ => s.respond_ideStream ..⟩

/-- KEY_PROG loads a key set of one stream. -/
theorem State.keyProg_completes (hk : s.kmReady h = true) (k : Fin 2) (key : BitVec 256) : Completes (.keyProg h i k key) s (fun u =>
    KmAnswers s h (.kpAck i k) i (u.ideStream h i) u ∧ find1 k.val (u.ideStream h i).keys = some key
      ∧ (u.ideStream h i).active = (s.ideStream h i).active ∧ u.secureBit h i = s.secureBit h i) := by
  have hanswers := State.kmAnswers (r := .kpAck i k) (s.kmSession h)
    (s.setIde_ideStream_self h i { s.ideStream h i with keys := put1 k key (s.ideStream h i).keys }) (fun _ hj => s.setIde_ideStream_other _ hj _)
    (State.progKey_within (.refl _ s) h i k key (by decide)).only
  refine ⟨_, congrArg Host.Outcome.next (State.km_ready hk (.keyProg i k key)), ?_⟩
  have hstream := hanswers.stream
  exact ⟨hstream.symm ▸ hanswers, hstream ▸ find1_put1_self .., hstream ▸ rfl, State.secureBit_congr rfl rfl i⟩

/-- A message that loads a stream is answered, and the stream's secure bit is as the message leaves it. -/
theorem State.load_completes {c : Instr} {m : IdeKm} {r : KmRsp} {x : IdeStream} {b : Bool} (hk : s.kmReady h = true)
    (hc : exec c s = .next (s.km h m)) (hm : s.kmEffect h m = (r, s.loadStream h i x b)) :
    Completes c s (fun u => KmAnswers s h r i x u ∧ u.secureBit h i = b) := by
  refine ⟨_, hc.trans (congrArg Host.Outcome.next (State.km_ready hk m)), ?_, ?_⟩
  · rw [hm]
    exact State.kmAnswers _ (s.loadStream_self ..) (fun _ hj => s.loadStream_other _ hj ..) (s.loadStream_only ..)
  · rw [hm]
    exact s.loadStream_secureBit ..

theorem State.kSetGo_completes (hk : s.kmReady h = true) {k : Fin 2} (hkeys : find1 k.val (s.ideStream h i).keys ≠ none)
    (ha : (s.ideStream h i).active = none ∨ (s.ideStream h i).active = some k.val) : Completes (.kSetGo h i k) s (fun u =>
      KmAnswers s h (.goStopAck i k) i { s.ideStream h i with active := some k.val, next := none, failed := false } u ∧ u.secureBit h i = true) :=
  State.load_completes hk rfl (congrArg (Prod.mk _) (State.setGo_first hkeys ha))

/-- K_SET_GO of another key set than is in use waits, which key_change shows. -/
theorem State.kSetGo_waits (hk : s.kmReady h = true) {k : Fin 2} {j : Nat} (hkeys : find1 k.val (s.ideStream h i).keys ≠ none)
    (ha : (s.ideStream h i).active = some j) (hj : j ≠ k.val) : Completes (.kSetGo h i k) s (fun u =>
      KmAnswers s h (.goStopAck i k) i { s.ideStream h i with next := some k.val } u ∧ u.secureBit h i = s.secureBit h i
        ∧ u.get HP_IDE_STATUS.key_change h = 1) := by
  have heffect : s.kmEffect h (.kSetGo i k) = (.goStopAck i k, (s.setIde h i { s.ideStream h i with next := some k.val }).judgeKeys h) :=
    congrArg (Prod.mk _) (State.setGo_later hkeys ha hj)
  refine ⟨_, congrArg Host.Outcome.next (State.km_ready hk (.kSetGo i k)), ?_⟩
  rw [heffect]
  refine ⟨State.kmAnswers _ ?stream (fun l hl => ?others) ?only, ?secure, ?change⟩
  case stream => rw [State.judgeKeys_ideStream, State.setIde_ideStream_self]
  case others => rw [State.judgeKeys_ideStream, State.setIde_ideStream_other _ _ hl]
  case only => exact (State.judgeKeys_within (State.setIde_within (.refl _ s) _ _ _ (by decide)) _ (by decide)).only
  case secure => exact (State.judgeKeys_secureBit ..).trans (s.setIde_secureBit ..)
  case change =>
    refine (State.judgeKeys_key_change _ h).trans ?_
    have hput : (((s.setIde h i { s.ideStream h i with next := some k.val }).host h).ide.any (fun e => e.2.next.isSome)) = true := by
      rw [State.setIde, State.modHost_host_self, List.any_eq_true]
      exact ⟨_, mem_of_find1 (find1_put1_self ..), rfl⟩
    rw [hput]
    rfl

theorem State.kSetStop_completes (hk : s.kmReady h = true) {k : Fin 2} (ha : (s.ideStream h i).active = some k.val) :
    Completes (.kSetStop h i k) s (fun u =>
      KmAnswers s h (.goStopAck i k) i { s.ideStream h i with active := none, next := none, keys := drop1 k.val (s.ideStream h i).keys } u
        ∧ u.secureBit h i = false) :=
  State.load_completes hk rfl (congrArg (Prod.mk _) (State.setStop_active ha))

/-- A request over the DOE in an established session runs. -/
theorem State.inSession_runs {t : Transport} {id : Nat} {y : Session} (hr : s.spdmReady t = true) (hstage : 3 ≤ (s.conn t).stage)
    (hy : s.session t id = some y) (hc : y.confirmed = true) (run : State → State) : s.inSession t id true run = run s := by
  unfold State.inSession State.spdm
  rw [hr, Bool.not_true, if_neg Bool.false_ne_true, if_neg (Nat.not_lt.mpr hstage)]
  dsimp only
  rw [hy]
  exact if_pos hc

/-- The vendor request in an established session programs a key as KEY_PROG does. -/
theorem State.vendorKeyProg_completes (hk : s.kmReady h = true) (k : Fin 2) (key : BitVec 256) {id : Nat} {y : Session}
    (hr : s.spdmReady (.doe h) = true) (hstage : 3 ≤ (s.conn (.doe h)).stage) (hy : s.session (.doe h) id = some y) (hc : y.confirmed = true) :
    Completes (.vendorDefinedRequest (.doe h) id (.keyProg i k key)) s (fun u =>
      u.sent = .spdm (.doe h) (.ideKm id (.kpAck i k)) :: s.sent ∧ find1 k.val (u.ideStream h i).keys = some key) := by
  have hrun : s.spdmVendor (.doe h) id (.keyProg i k key) = (s.progKey h i k key).respond (.doe h) (.ideKm id (.kpAck i k)) := by
    refine (State.inSession_runs hr hstage hy hc _).trans ?_
    rw [State.kmReady_open hk]
    rfl
  refine ⟨_, congrArg Host.Outcome.next hrun, rfl, ?_⟩
  rw [State.respond_ideStream, State.progKey, State.setIde_ideStream_self]
  exact find1_put1_self ..

end

/-- Settles O16: one lemma on each message. -/
theorem ideKeysProgram : Obligations.IdeKeysProgram := by
  intro s h i k key hk
  exact ⟨State.query_completes hk, State.keyProg_completes hk k key,
    fun hkeys => ⟨State.kSetGo_completes hk hkeys, fun _ ha hj => State.kSetGo_waits hk hkeys ha hj⟩,
    State.kSetStop_completes hk, fun _ _ hr hstage hy hc => State.vendorKeyProg_completes hk k key hr hstage hy hc⟩

/-! ### A stream that fails (R159) -/

/-- No stream of host port `h` has gained or lost a key or failed, one with no key change under way is as it was, and the secure bits are. -/
structure State.StreamsKept (h : Nat) (s t : State) : Prop where
  keys : ∀ j, (t.ideStream h j).keys = (s.ideStream h j).keys
  failed : ∀ j, (t.ideStream h j).failed = (s.ideStream h j).failed
  still : ∀ j, (s.ideStream h j).next = none → t.ideStream h j = s.ideStream h j
  secure : ∀ j, t.secureBit h j = s.secureBit h j

section
variable {h : Nat} {s₀ s t : State}

theorem State.StreamsKept.refl (h : Nat) (s : State) : State.StreamsKept h s s := ⟨fun _ => rfl, fun _ => rfl, fun _ _ => rfl, fun _ => rfl⟩

/-- A step that leaves every stream and every secure bit. -/
theorem State.StreamsKept.same (k : State.StreamsKept h s₀ s) (hs : ∀ j, t.ideStream h j = s.ideStream h j)
    (hb : ∀ j, t.secureBit h j = s.secureBit h j) : State.StreamsKept h s₀ t :=
  ⟨fun j => hs j ▸ k.keys j, fun j => hs j ▸ k.failed j, fun j hn => hs j ▸ k.still j hn, fun j => (hb j).trans (k.secure j)⟩

theorem State.StreamsKept.beside (k : State.StreamsKept h s₀ s) (w : State.Within (besideMask [.HP_IDE_STATUS] [.hosts]) s t) :
    State.StreamsKept h s₀ t :=
  k.same (fun j => congrArg (fun x => (find1 j (Tbl.get HostDyn.reset x h).ide).getD _) (w.areas .hosts (by decide)))
    (State.secureBit_congr (w.get _ _ (by decide)) (w.get _ _ (by decide)))

/-- A TLP that is sent brings the key set in use that the stream waits for. -/
theorem State.StreamsKept.onStream (k : State.StreamsKept h s₀ s) (g : Nat) (st : Option Nat) : State.StreamsKept h s₀ (s.onStream g st) := by
  unfold State.onStream
  split
  next i =>
    dsimp only
    split
    next hnext =>
      have hbit (j : Nat) : ((s.setIde g i { s.ideStream g i with active := (s.ideStream g i).next, next := none }).judgeKeys g).secureBit h j
          = s₀.secureBit h j := (State.judgeKeys_secureBit ..).trans ((s.setIde_secureBit ..).trans (k.secure j))
      by_cases hg : g = h
      · subst hg
        have hother {j : Nat} (hj : j ≠ i) := s.setIde_ideStream_other g hj { s.ideStream g i with active := (s.ideStream g i).next, next := none }
        refine ⟨fun j => ?_, fun j => ?_, fun j hn => ?_, hbit⟩
        all_goals
          rw [State.judgeKeys_ideStream]
          by_cases hj : j = i
        · rw [hj, State.setIde_ideStream_self]
          exact k.keys i
        · rw [hother hj]
          exact k.keys j
        · rw [hj, State.setIde_ideStream_self]
          exact k.failed i
        · rw [hother hj]
          exact k.failed j
        · rw [← hj, k.still j hn, hn] at hnext
          cases hnext
        · rw [hother hj]
          exact k.still j hn
      · refine k.same (fun j => ?_) fun j => (hbit j).trans (k.secure j).symm
        rw [State.judgeKeys_ideStream]
        exact State.ideStream_congr (by rw [State.setIde, State.modHost_host_other _ _ (Ne.symm hg)]) j
    · exact k
  · exact k

theorem State.StreamsKept.lasting (h : Nat) (s₀ : State) : Lasting (State.StreamsKept h s₀) where
  beside := fun k w => k.same (fun j => congrArg (fun x => (find1 j (Tbl.get HostDyn.reset x h).ide).getD _) (w.areas .hosts (by decide)))
    (State.secureBit_congr (w.get _ _ (by decide)) (w.get _ _ (by decide)))
  modHost := fun {s} g u k hu => by
    refine k.same (fun j => State.ideStream_congr ?_ j) fun j => State.secureBit_congr (s.modHost_get ..) (s.modHost_get ..) j
    by_cases hg : h = g
    · rw [hg, State.modHost_host_self, hu]
    · rw [State.modHost_host_other _ _ hg]
  onStream := fun g st k => k.onStream g st
  parityError := fun f k => k.beside (State.setStatus_within (.refl _ _) f 24 (by decide))

/-- The requests of a stream that has failed end, and writes behind them go on. -/
theorem State.StreamsKept.failStream (k : State.StreamsKept h s₀ s) (g i : Nat) : State.StreamsKept h s₀ (s.failStream g i) := by
  have l := State.StreamsKept.lasting h s₀
  unfold State.failStream
  extract_lets mine withdrawn
  have hwithdrawn : State.StreamsKept h s₀ withdrawn := by
    refine l.modHost g k ?_
    exact fun _ => rfl
  exact l.drainWrites (State.each_keeps _ hwithdrawn _ fun _ r k => l.hostError k r _) g

end

/-- A stream in use that fails is loaded as insecure, and the streams are then kept. -/
theorem State.ideFail_kept {s : State} {h : HostId} {i : Fin 9} (kind : IdeFailure) (ha : (s.ideStream h i).active ≠ none) :
    State.StreamsKept h (s.loadStream h i { s.ideStream h i with active := none, next := none, failed := true } false) (s.ideFail h i kind) := by
  unfold State.ideFail
  dsimp only
  rw [if_neg (by simpa using ha)]
  exact ((State.StreamsKept.refl ..).beside (State.aerUnc_within (.refl _ _) _ _ _ _ (by decide))).failStream ..

/-- Settles O17: the stream is loaded as insecure, and what ends with it keeps the streams. -/
theorem ideFailureEndsStream : Obligations.IdeFailureEndsStream := by
  intro s h i kind ha
  have k := State.ideFail_kept kind ha
  have hself := s.loadStream_self h i { s.ideStream h i with active := none, next := none, failed := true } false
  have hi := (k.still i (by rw [hself])).trans hself
  have hfailed : ((s.ideFail h i kind).ideStream h i).failed = true := hi ▸ rfl
  refine ⟨s.ideFail h i kind, rfl, hi ▸ rfl, hfailed, hfailed, (k.secure i).trans (s.loadStream_secureBit ..), fun j hj => ?_⟩
  have hother := s.loadStream_other h hj { s.ideStream h i with active := none, next := none, failed := true } false
  exact ⟨(k.keys j).trans (hother ▸ rfl), (k.failed j).trans (hother ▸ rfl), fun hn => (k.still j (hother ▸ hn)).trans hother⟩

end Sys2Proof.Machine
end


/-! Requests that a port turns away: fields of configuration space as they are loaded, and what the log of an error in AER shows (R160). -/

section
namespace Sys2Proof.Machine

/-! ### Fields of configuration space -/

section
variable {s : State} {f o : Nat}

/-- A dword at another offset of the same configuration space, or of another function's. -/
theorem cfgKey_ne {f o f' o' : Nat} (h : o / 4 ≠ o' / 4 ∨ f ≠ f') (ho : o < 4096) (ho' : o' < 4096) :
    cfgKey f (o / 4) ≠ cfgKey f' (o' / 4) := by
  simp only [cfgKey]
  omega

theorem State.cfgPut_cfgWord_other (s : State) {f o f' o' lo len v : Nat} (h : cfgKey f (o / 4) ≠ cfgKey f' (o' / 4)) :
    (s.cfgPut f' o' lo len v).cfgWord f o = s.cfgWord f o := s.setCfg_cfgWord_other _ h

/-- A bit of a dword whose field has been loaded. -/
theorem State.cfgPut_cfgBit (s : State) (f o lo len v : Nat) {i : Nat} (hi : i < 32) :
    (s.cfgPut f o lo len v).cfgBit f o i = if lo ≤ i ∧ i < lo + len then v.testBit (i - lo) else s.cfgBit f o i := by
  rw [State.cfgBit, State.cfgPut, State.setCfg_cfgWord_self, BitVec.truncate_eq_setWidth, BitVec.getLsbD_setWidth,
    getLsbD_setBits, BitVec.getLsbD_setWidth]
  have h64 : i < 64 := by omega
  split_ifs <;> simp [hi, h64, State.cfgBit]

/-- A bit that is set reads as 1. -/
theorem State.cfgPut_one_cfgBit (s : State) (f o : Nat) {b : Nat} (hb : b < 32) : (s.cfgPut f o b 1 1).cfgBit f o b = true := by
  rw [State.cfgPut_cfgBit _ _ _ _ _ _ hb, if_pos ⟨le_rfl, Nat.lt_succ_self b⟩, Nat.sub_self]
  rfl

/-- A field reads as it was loaded. -/
theorem State.cfgPut_cfgGet_self (s : State) (f o : Nat) {lo len : Nat} (v : Nat) (h : lo + len ≤ 32) :
    (s.cfgPut f o lo len v).cfgGet f o lo len = v % 2 ^ len := by
  apply Nat.eq_of_testBit_eq
  intro i
  rw [State.cfgGet, BitVec.testBit_toNat, BitVec.getLsbD_extractLsb', Nat.testBit_mod_two_pow]
  by_cases hi : i < len
  · have hbit := s.cfgPut_cfgBit f o lo len v (i := lo + i) (by omega)
    rw [if_pos ⟨by omega, by omega⟩, State.cfgBit, Nat.add_sub_cancel_left] at hbit
    rw [hbit]
  · simp [hi]

end

/-! ### What an error logs in AER (R160) -/

/-- Status bit `b` is set, with the error's bit in the Device Status register and, for a request that is not supported, its own. -/
def State.aerMarked (s : State) (f b : Nat) (ur : Bool) : State :=
  let s' := (s.cfgPut f 0x104 b 1 1).cfgPut f 0x58 (if s.cfgBit (fnPf f) 0x10C b then 18 else 17) 1 1
  if ur then s'.cfgPut f 0x58 19 1 1 else s'

/-- The header log takes a TLP's header, with the dwords in front of it. -/
def State.logHeader (s : State) (f : Nat) (ws : List Dword) : State :=
  let s := s.each ((List.range 4).zip ws) (fun s e => s.setCfg f (0x11C + 4 * e.1) e.2)
  let s := s.cfgPut f 0x118 11 1 (b2n (!(ws.drop 4).isEmpty))
  s.each ((List.range 4).zip (ws.drop 4)) (fun s e => s.setCfg f (0x138 + 4 * e.1) e.2)

/-- The first error names its bit, and its header is logged. -/
def State.aerFirst (s : State) (f b : Nat) (hdr : Option (List Dword)) : State :=
  match hdr with
  | some ws => (s.cfgPut f 0x118 0 5 b).logHeader f ws
  | none => s.cfgPut f 0x118 0 5 b

/-- The message of an uncorrectable error, where the enables allow it. -/
def State.aerSent (s : State) (f : Nat) (fatal : Bool) : State :=
  if fatal then
    if s.cfgBit f 0x58 2 || s.cfgBit (fnPf f) 0x04 8 then s.sysError f (.errFatal (s.rid f)) else s
  else if s.cfgBit f 0x58 1 || s.cfgBit (fnPf f) 0x04 8 then s.sysError f (.errNonFatal (s.rid f)) else s

/-- An uncorrectable error sets its bits; one that is not masked is logged where it is the first, and reported. -/
theorem State.aerUnc_eq (s : State) (f b : Nat) (hdr : Option (List Dword)) (ur : Bool) :
    s.aerUnc f b hdr ur = if s.cfgBit (fnPf f) 0x108 b then s.aerMarked f b ur
      else (if s.cfgWord f 0x104 == 0 then (s.aerMarked f b ur).aerFirst f b hdr else s.aerMarked f b ur).aerSent f (s.cfgBit (fnPf f) 0x10C b) := by
  unfold State.aerUnc State.aerSent
  dsimp only
  split
  · rfl
  · by_cases hfirst : (s.cfgWord f 0x104 == 0) = true
    · simp only [hfirst, if_true]
      cases hdr <;> rfl
    · simp only [hfirst, Bool.false_eq_true, if_false]
      cases hdr <;> rfl

section
variable {s : State} {f o b : Nat}

/-- A message changes the Status register at most. -/
theorem State.sysError_cfgWord (s : State) (f : Nat) (m : HostMsg) (h : o / 4 ≠ 1) (ho : o < 4096) :
    (s.sysError f m).cfgWord f o = s.cfgWord f o := by
  have hmessage (t : State) : (t.errMessage f m).cfgWord f o = t.cfgWord f o := by
    unfold State.errMessage
    split <;> rfl
  rw [State.sysError, hmessage]
  split
  · exact s.cfgPut_cfgWord_other (cfgKey_ne (.inl h) ho (by decide))
  · rfl

theorem State.aerSent_cfgWord (s : State) (f : Nat) (fatal : Bool) (h : o / 4 ≠ 1) (ho : o < 4096) :
    (s.aerSent f fatal).cfgWord f o = s.cfgWord f o := by
  unfold State.aerSent
  split_ifs
  · exact s.sysError_cfgWord f _ h ho
  · rfl
  · exact s.sysError_cfgWord f _ h ho
  · rfl

/-- The header log lies from 0x118 to 0x147. -/
theorem State.logHeader_cfgWord (s : State) (f : Nat) (ws : List Dword) (h : o < 0x118) : (s.logHeader f ws).cfgWord f o = s.cfgWord f o := by
  have hlog (base : Nat) (hbase : base = 0x11C ∨ base = 0x138) (t : State) (vs : List Dword) :
      (t.each ((List.range 4).zip vs) (fun s e => s.setCfg f (base + 4 * e.1) e.2)).cfgWord f o = t.cfgWord f o := by
    refine foldl_keeps (fun u : State => u.cfgWord f o = t.cfgWord f o) _ _ _ rfl fun u e hu => ?_
    refine (u.setCfg_cfgWord_other _ ?_).trans hu
    simp only [cfgKey]
    omega
  rw [State.logHeader, hlog _ (.inr rfl), State.cfgPut_cfgWord_other _ (by simp only [cfgKey]; omega), hlog _ (.inl rfl)]

theorem State.aerFirst_cfgWord (s : State) (f b : Nat) (hdr : Option (List Dword)) (h : o < 0x118) :
    (s.aerFirst f b hdr).cfgWord f o = s.cfgWord f o := by
  have hput : (s.cfgPut f 0x118 0 5 b).cfgWord f o = s.cfgWord f o := s.cfgPut_cfgWord_other (by simp only [cfgKey]; omega)
  cases hdr with
  | none => exact hput
  | some ws => exact (State.logHeader_cfgWord _ f ws h).trans hput

/-- What an error marks stays, whether it is masked or not. -/
theorem State.aerUnc_cfgWord (s : State) (f b : Nat) (hdr : Option (List Dword)) (ur : Bool) (h : o / 4 ≠ 1) (ho : o < 0x118) :
    (s.aerUnc f b hdr ur).cfgWord f o = (s.aerMarked f b ur).cfgWord f o := by
  rw [State.aerUnc_eq]
  split
  · rfl
  · rw [State.aerSent_cfgWord _ _ _ h (by omega)]
    split
    · exact State.aerFirst_cfgWord _ f b hdr ho
    · rfl

/-- The error's status bit is set. -/
theorem State.aerUnc_status (s : State) (f : Nat) (hdr : Option (List Dword)) (ur : Bool) (hb : b < 32) :
    (s.aerUnc f b hdr ur).cfgBit f 0x104 b = true := by
  have hput (t : State) (i : Nat) : (t.cfgPut f 0x58 i 1 1).cfgWord f 0x104 = t.cfgWord f 0x104 :=
    t.cfgPut_cfgWord_other (cfgKey_ne (.inl (by decide)) (by decide) (by decide))
  have hset := s.cfgPut_one_cfgBit f 0x104 hb
  rw [State.cfgBit] at hset ⊢
  rw [State.aerUnc_cfgWord _ _ _ _ _ (by decide) (by decide), State.aerMarked]
  split
  · rw [hput, hput, hset]
  · rw [hput, hset]

/-- Unsupported Request Detected is set. -/
theorem State.aerUnc_urDetected (s : State) (f b : Nat) (hdr : Option (List Dword)) : (s.aerUnc f b hdr true).cfgBit f 0x58 19 = true := by
  rw [State.cfgBit, State.aerUnc_cfgWord _ _ _ _ _ (by decide) (by decide), State.aerMarked]
  exact State.cfgPut_one_cfgBit _ f 0x58 (by decide)

/-- A dword of the header that is logged. -/
theorem State.logHeader_word (s : State) (f : Nat) (a b c d : Dword) (front : List Dword) {i : Nat} (hi : i < 4) :
    (s.logHeader f (a :: b :: c :: d :: front)).cfgWord f (0x11C + 4 * i) = [a, b, c, d].getD i 0 := by
  have hfront (t : State) : (t.each ((List.range 4).zip front) (fun s e => s.setCfg f (0x138 + 4 * e.1) e.2)).cfgWord f (0x11C + 4 * i)
      = t.cfgWord f (0x11C + 4 * i) := by
    refine foldl_keeps (fun u : State => u.cfgWord f (0x11C + 4 * i) = t.cfgWord f (0x11C + 4 * i)) _ _ _ rfl fun u e hu => ?_
    refine (u.setCfg_cfgWord_other _ ?_).trans hu
    simp only [cfgKey]
    omega
  have hother {n : Nat} (hn : n ≠ i) (t : State) (w : Dword) : (t.setCfg f (0x11C + 4 * n) w).cfgWord f (0x11C + 4 * i)
      = t.cfgWord f (0x11C + 4 * i) := t.setCfg_cfgWord_other w (by simp only [cfgKey]; omega)
  unfold State.logHeader
  dsimp only [List.drop]
  rw [hfront, State.cfgPut_cfgWord_other _ (by simp only [cfgKey]; omega)]
  change (((((s.setCfg f (0x11C + 4 * 0) a).setCfg f (0x11C + 4 * 1) b).setCfg f (0x11C + 4 * 2) c).setCfg f (0x11C + 4 * 3) d)).cfgWord f _ = _
  match i, hi with
  | 0, _ => rw [hother (by decide), hother (by decide), hother (by decide), State.setCfg_cfgWord_self]; rfl
  | 1, _ => rw [hother (by decide), hother (by decide), State.setCfg_cfgWord_self]; rfl
  | 2, _ => rw [hother (by decide), State.setCfg_cfgWord_self]; rfl
  | 3, _ => rw [State.setCfg_cfgWord_self]; rfl

/-- The first error that is not masked has its TLP's header logged. -/
theorem State.aerUnc_header (s : State) (f b : Nat) (h0 h1 h2 h3 : Dword) (front : List Dword) (ur : Bool) (hfirst : s.cfgWord f 0x104 = 0)
    (hmask : s.cfgBit (fnPf f) 0x108 b = false) {i : Nat} (hi : i < 4) :
    (s.aerUnc f b (some (h0 :: h1 :: h2 :: h3 :: front)) ur).cfgWord f (0x11C + 4 * i) = [h0, h1, h2, h3].getD i 0 := by
  rw [State.aerUnc_eq, hmask, if_neg Bool.false_ne_true, State.aerSent_cfgWord _ _ _ (by omega) (by omega), hfirst, if_pos (by decide)]
  exact State.logHeader_word _ f h0 h1 h2 h3 front hi

/-- A correctable error's status bit is set. -/
theorem State.aerCor_status (s : State) (f : Nat) (hb : b < 32) : (s.aerCor f b).cfgBit f 0x110 b = true := by
  have hmessage (t : State) (m : HostMsg) : (t.errMessage f m).cfgBit f 0x110 b = t.cfgBit f 0x110 b := by
    unfold State.errMessage
    split <;> rfl
  have hmarked : ((s.cfgPut f 0x110 b 1 1).cfgPut f 0x58 16 1 1).cfgBit f 0x110 b = true := by
    rw [State.cfgBit, State.cfgPut_cfgWord_other _ (cfgKey_ne (.inl (by decide)) (by decide) (by decide))]
    exact s.cfgPut_one_cfgBit f 0x110 hb
  unfold State.aerCor
  dsimp only
  split_ifs
  · exact hmarked
  · exact (hmessage _ _).trans hmarked
  · exact hmarked

end

end Sys2Proof.Machine
end


/-! Messages of the host links: what a report of LTR sends, what a PTM dialog loads and how the port that steers uses its offset, and
what a request that a port turns away leaves in AER (R141, R154, R155, R160). -/

section
namespace Sys2Proof.Machine

/-! ### LTR (R141, R162) -/

section
variable {s : State} {h : Nat}

theorem State.leaveL1_only (s : State) (h : Nat) : State.Only [.PWR_STATE_MISC, .HP_LINK_STATUS] [.ctrs, .hosts, .freeCtr] s (s.leaveL1 h) :=
  (State.leaveL1_within (.refl _ s) h (by decide +kernel)).only

/-- Of its host port, a link that leaves L1 changes CLKREQ_N alone. -/
theorem State.leaveL1_host (s : State) (h : Nat) : ∃ c, (s.leaveL1 h).host h = { s.host h with clkreq := c } := by
  have hungate (u : State) : State.Only [.PWR_STATE_MISC] [.ctrs, .freeCtr] u (u.ungateHcr h) :=
    (State.ungateHcr_within (.refl _ u) h (by decide)).only
  unfold State.leaveL1
  split
  · refine ⟨true, ?_⟩
    dsimp only
    rw [State.modHost_host_self, (hungate _).host (by decide), State.put_host, State.put_host]
  · exact ⟨(s.host h).clkreq, rfl⟩

/-- A report: the value of the port's state leaves, with its ECRC, and the interval begins anew (R141). -/
structure State.Reported (s : State) (h : Nat) (t : State) : Prop where
  busy : (t.host h).ltrBusy = (s.host h).ltrBusy
  next : (t.host h).ltrNext = s.clock + 10000
  sent : t.sent = s.asSent h (.message h (.ltr (ltrValue
    (if (s.host h).ltrBusy = some true then s.get HP_LTR.busy_ns h else s.get HP_LTR.idle_ns h)))) :: s.sent

/-- A report that the port may send is sent at once. -/
theorem State.sendLtr_reported (hh : h < 4) (hen : s.cfgBit h 0x78 10 = true) (hup : s.linkUp h = true)
    (hpm : s.get HP_LINK_STATUS.pm_state h ≠ 3) (hnext : (s.host h).ltrNext ≤ s.clock) : s.Reported h (s.sendLtr h) := by
  have hleft := s.leaveL1_only h
  have hpf : fnPf h = h := if_pos hh
  have hcfg : (s.leaveL1 h).cfgBit h 0x118 6 = s.cfgBit h 0x118 6 := by
    rw [State.cfgBit, State.cfgWord, hleft.areas .cfg (by decide)]; rfl
  unfold State.sendLtr
  rw [if_neg (by simp [hen, hup, hpm]), if_neg (by omega)]
  refine ⟨?_, ?_, ?_⟩
  · rw [State.modHost_host_self]
    obtain ⟨c, hhost⟩ := s.leaveL1_host h
    change ((s.leaveL1 h).host h).ltrBusy = _
    rw [hhost]
  · rw [State.modHost_host_self]
    exact congrArg (· + 10000) (hleft.areas .clock (by decide))
  · rw [State.modHost_sent, State.emitMsg, State.emit_sent, hcfg, State.asSent, hpf]
    exact congrArg _ (hleft.areas .sent (by decide))

/-- A port that becomes busy reports it. -/
theorem State.judgeLtr_busy (hdue : (s.host h).ltrDue = false) (hbusy : s.ltrBusy h = true) (hwas : (s.host h).ltrBusy ≠ some true) :
    s.judgeLtr h = ((s.disarm (.ltrIdle h)).modHost h (fun d => { d with ltrBusy := some true })).sendLtr h := by
  simp only [State.judgeLtr, hdue, hbusy, hwas, Bool.false_eq_true, if_false, if_true]

/-- A report leaves the values that are reported. -/
theorem State.sendLtr_only (s : State) (h : Nat) : State.Only [.PWR_STATE_MISC, .HP_LINK_STATUS] [.ctrs, .hosts, .freeCtr, .sent] s (s.sendLtr h) :=
  (State.sendLtr_within (.refl _ s) h (by decide +kernel)).only

/-- A write of the whole of HP_LTR loads both values. -/
theorem State.writeReg_ltr (s : State) (a : Agent) (hh : h < 4) (v : Word) :
    (s.writeReg a .HP_LTR h v (BitVec.allOnes 64)).get HP_LTR.busy_ns h = getBits v HP_LTR.busy_ns.lo HP_LTR.busy_ns.len
      ∧ (s.writeReg a .HP_LTR h v (BitVec.allOnes 64)).get HP_LTR.idle_ns h = getBits v HP_LTR.idle_ns.lo HP_LTR.idle_ns.len := by
  have hload : RegKind.loadMask .HP_LTR = BitVec.allOnes 64 := by decide
  have hclear : RegKind.clearMask .HP_LTR = 0 := by decide
  have hkeep : ~~~(RegKind.clearMask .HP_LTR &&& BitVec.allOnes 64 &&& v) = BitVec.allOnes 64 := by simp [hclear]
  have hword : (s.writeReg a .HP_LTR h v (BitVec.allOnes 64)).word .HP_LTR h = v := by
    change ((s.plain .HP_LTR h v (BitVec.allOnes 64)).sendLtr h).word .HP_LTR h = v
    rw [(State.sendLtr_only _ h).words _ (by decide), State.plain, State.setWord_word_self hh, plainWrite_eq, hkeep, hload, BitVec.and_self,
      mergeBits_whole, BitVec.and_allOnes]
  constructor
  · rw [State.get]
    exact congrArg (getBits · _ _) hword
  · rw [State.get]
    exact congrArg (getBits · _ _) hword

end

/-! ### The port that steers DEVTIME (R155) -/

section
variable {s t : State} {h : Nat}

/-- Which port steers is read from the contexts and from devtime_src. -/
theorem State.steeringPort_congr (hctx : ∀ j, t.get HP_PTM_STATUS.ctx_valid j = s.get HP_PTM_STATUS.ctx_valid j)
    (hsrc : t.get GLOBAL_CTRL.devtime_src 0 = s.get GLOBAL_CTRL.devtime_src 0) : t.steeringPort = s.steeringPort := by
  simp only [State.steeringPort, State.on, hctx, hsrc]

theorem State.flag_steering_ctx (s : State) (j : Nat) (b : Bool) (g : Nat) :
    (s.flag HP_PTM_STATUS.steering j b).get HP_PTM_STATUS.ctx_valid g = s.get HP_PTM_STATUS.ctx_valid g := by
  by_cases hg : g = j
  · subst hg
    exact State.get_flag_beside rfl (by decide)
  · exact State.get_flag_index rfl hg

/-- The steering bits leave the choice of the port as it is. -/
theorem State.flag_steering_port (s : State) (j : Nat) (b : Bool) : (s.flag HP_PTM_STATUS.steering j b).steeringPort = s.steeringPort :=
  State.steeringPort_congr (s.flag_steering_ctx j b) (State.get_flag_kind (by decide))

/-- The steering bits as they are judged. -/
theorem State.flagSteering (s : State) (hh : h < 4) (xs : List Nat) :
    (s.each xs (fun s j => s.flag HP_PTM_STATUS.steering j (s.steeringPort == some j))).steeringPort = s.steeringPort
      ∧ (h ∈ xs → (s.each xs (fun s j => s.flag HP_PTM_STATUS.steering j (s.steeringPort == some j))).get HP_PTM_STATUS.steering h
        = b2n (s.steeringPort == some h)) := by
  induction xs using List.reverseRecOn with
  | nil => exact ⟨rfl, nofun⟩
  | append_singleton xs j ih =>
    simp only [State.each, List.foldl_append] at ih ⊢
    obtain ⟨hport, hbit⟩ := ih
    refine ⟨(State.flag_steering_port _ j _).trans hport, fun hmem => ?_⟩
    change (State.flag _ HP_PTM_STATUS.steering j _).get HP_PTM_STATUS.steering h = _
    by_cases hj : h = j
    · subst hj
      rw [State.get_flag_self hh (by decide), hport]
      exact Nat.mod_eq_of_lt (b2n_lt _)
    · rw [State.get_flag_index rfl hj]
      exact hbit (by simpa [hj] using hmem)

/-- The port that steers shows its steering bit, and no other does. -/
theorem State.judgeSteering_steering (s : State) (hh : h < 4) :
    s.judgeSteering.get HP_PTM_STATUS.steering h = b2n (s.judgeSteering.steeringPort == some h) := by
  have hjudged (u : State) : (u.each (List.range 4) (fun s j => s.flag HP_PTM_STATUS.steering j (s.steeringPort == some j))).get
      HP_PTM_STATUS.steering h = b2n ((u.each (List.range 4) (fun s j => s.flag HP_PTM_STATUS.steering j (s.steeringPort == some j))).steeringPort
        == some h) := by
    obtain ⟨hport, hbit⟩ := u.flagSteering hh (List.range 4)
    rw [hport]
    exact hbit (List.mem_range.mpr hh)
  exact hjudged _

theorem State.judgeSteering_only (s : State) : State.Only [.HP_PTM_STATUS] [.devtime] s s.judgeSteering :=
  (State.judgeSteering_within (.refl _ s) (by decide)).only

/-- A port whose context is lost steers no more. -/
theorem State.ptmLost_steering (s : State) (hh : h < 4) : (s.ptmLost h).get HP_PTM_STATUS.steering h = 0 := by
  have hctx := s.ptmLost_ctx hh
  have hnot : (s.ptmLost h).steeringPort ≠ some h := by
    intro hport
    unfold State.steeringPort at hport
    have hsteers := List.find?_some hport
    rw [State.on, hctx, Bool.and_eq_true] at hsteers
    exact absurd hsteers.2 (by decide)
  have hbit := State.judgeSteering_steering ((s.put HP_PTM_STATUS.ctx_valid h 0).loadPps h) hh
  rw [← State.ptmLost] at hbit
  rw [hbit, beq_false_of_ne hnot]
  rfl

/-! ### The offset that is used (R155) -/

/-- DEVTIME_STEP is a notice: a history entry at most, and a count. -/
theorem State.devtimeStep_only (s : State) (h : Nat) :
    State.Only (wakeKinds ++ [.BRACE_HIST_PTR, .BRACE_HIST]) [.ctrs, .plumb, .waking] s (s.report 0 5 h 0) := by
  have hcounted := State.bump_within (State.wakeRegion_within (.refl (listMask (wakeKinds ++ [.BRACE_HIST_PTR, .BRACE_HIST])
    [.ctrs, .plumb, .waking]) s) 34 (by decide +kernel)) (braceCtr 0 5) (by decide +kernel)
  have heq : s.report 0 5 h 0 = if ((s.wakeRegion 34).bump (braceCtr 0 5)).on BRACE_CTRL.hist_notices || (0 == 10 && 5 == 1) then
      ((s.wakeRegion 34).bump (braceCtr 0 5)).lightHist 0 5 0 7 0 0 0 else (s.wakeRegion 34).bump (braceCtr 0 5) := rfl
  rw [heq]
  exact (State.Within.ite (State.lightHist_within hcounted _ _ _ _ _ _ _ (by decide +kernel)) hcounted).only

/-- Setting DEVTIME and its slew changes nothing else. -/
theorem State.devtime_only (s : State) (d : Nat) (w : Int) (n : Nat) : State.Only [] [.devtime] s { s with devtime := d, slew := w, slewFrac := n } :=
  ⟨fun _ _ _ => rfl, fun p hp => by cases p <;> first | rfl | exact ⟨rfl, rfl, rfl, rfl⟩ | exact ⟨rfl, rfl, rfl⟩ | simp at hp⟩

/-- An offset that has been used: a large one has stepped DEVTIME or is a fault, another is slewed; the port's context and its steering bit stay,
and so do the timers and the clock. -/
structure State.Steered (s : State) (h : Nat) (o : Int) (t : State) : Prop where
  stepped : 10000 < o → t.get HP_PTM_STATUS.stepped h = 1
  faulted : o < -1000000 → t.get HP_PTM_STATUS.align_fault h = 1
  slewed : -1000000 ≤ o → o ≤ 10000 → t.slew = o
  ctx : t.get HP_PTM_STATUS.ctx_valid h = s.get HP_PTM_STATUS.ctx_valid h
  steering : t.get HP_PTM_STATUS.steering h = s.get HP_PTM_STATUS.steering h
  only : State.Only (.HP_PTM_STATUS :: (wakeKinds ++ [.BRACE_HIST_PTR, .BRACE_HIST])) [.ctrs, .plumb, .waking, .devtime, .hosts] s t

/-- The steering port uses an offset (R155). -/
theorem State.steer_steered (s : State) (hh : h < 4) (o : Int) : s.Steered h o (s.steer h o) := by
  have hmod : State.Only [] [.hosts] s (s.modHost h (fun d => { d with steered := true })) := (State.modHost_within (.refl _ s) _ _ (by decide)).only
  unfold State.steer
  dsimp only
  generalize s.modHost h (fun d => { d with steered := true }) = m at hmod ⊢
  split_ifs with hstep hfault
  case pos =>
    have hset := m.devtime_only (((m.devtime : Int) + o).toNat % 2 ^ 64) 0 0
    generalize { m with devtime := ((m.devtime : Int) + o).toNat % 2 ^ 64, slew := 0, slewFrac := 0 } = u at hset ⊢
    have hreport := (u.put HP_PTM_STATUS.stepped h 1).devtimeStep_only h
    have hkeep {F : Fld} (hF : F.reg = .HP_PTM_STATUS) (hb : F.lo + F.len ≤ HP_PTM_STATUS.stepped.lo
        ∨ HP_PTM_STATUS.stepped.lo + HP_PTM_STATUS.stepped.len ≤ F.lo) :
        ((u.put HP_PTM_STATUS.stepped h 1).report 0 5 h 0).get F h = s.get F h := by
      rw [hreport.get (by rw [hF]; decide), State.get_put_beside hF hb, hset.get (by rw [hF]; decide), hmod.get (by rw [hF]; decide)]
    refine ⟨fun _ => ?_, fun hlow => by omega, fun _ hle => by omega, hkeep rfl (by decide), hkeep rfl (by decide), ?_⟩
    · rw [hreport.get (by decide), State.get_put_self hh (by decide)]
      rfl
    · exact (hmod.mono (by simp) (by simp)).trans ((hset.mono (by simp) (by simp)).trans
        (((u.setWord_only ..).mono (by simp [HP_PTM_STATUS.stepped]) (by simp)).trans (hreport.mono (by simp) (by simp))))
  case pos =>
    have hset := m.devtime_only m.devtime 0 0
    generalize { m with slew := 0, slewFrac := 0 } = u at hset ⊢
    have hkeep {F : Fld} (hF : F.reg = .HP_PTM_STATUS) (hb : F.lo + F.len ≤ HP_PTM_STATUS.align_fault.lo
        ∨ HP_PTM_STATUS.align_fault.lo + HP_PTM_STATUS.align_fault.len ≤ F.lo) :
        (u.put HP_PTM_STATUS.align_fault h 1).get F h = s.get F h := by
      rw [State.get_put_beside hF hb, hset.get (by rw [hF]; decide), hmod.get (by rw [hF]; decide)]
    refine ⟨fun h => absurd h hstep, fun _ => ?_, fun hge _ => absurd hfault (not_lt.mpr hge), hkeep rfl (by decide), hkeep rfl (by decide), ?_⟩
    · rw [State.get_put_self hh (by decide)]
      rfl
    · exact (hmod.mono (by simp) (by simp)).trans ((hset.mono (by simp) (by simp)).trans
        ((u.setWord_only ..).mono (by simp [HP_PTM_STATUS.align_fault]) (by simp)))
  case neg =>
    have hset := m.devtime_only m.devtime o 0
    have hall := (hmod.mono (by simp) (by simp)).trans (hset.mono (ks' := .HP_PTM_STATUS :: (wakeKinds ++ [.BRACE_HIST_PTR, .BRACE_HIST]))
      (ps' := [.ctrs, .plumb, .waking, .devtime, .hosts]) (by simp) (by simp))
    exact ⟨fun h => absurd h hstep, fun h => absurd h hfault, fun _ _ => rfl, hmod.get (by decide) h, hmod.get (by decide) h, hall⟩

/-! ### A PTM dialog (R154) -/

/-- A dialog's outcome as the port holds it, before the steering port uses the offset. -/
def State.ptmHeld (s : State) (h : Nat) (x : PtmTimes) (period : Nat) : State :=
  let s' := (s.emitMsg h .ptmRequest).modHost h (fun d => { d with steered := false })
  let s' := ((s'.put HP_PTM_OFFSET.offset h (unsigned (s.ptmOffset x) 64)).put HP_PTM_STATUS.ctx_valid h 1).loadPps h
  ((s'.arm (.ptm h) period).arm (.ptmContext h) (2 * period)).judgeSteering

/-- A dialog runs on a link in L0 or L0p. -/
theorem State.ptmDialog_runs {x : PtmTimes} (hen : s.cfgBit h 0x33C 0 = true) (hup : s.linkUp h = true)
    (hpm : s.get HP_LINK_STATUS.pm_state h ≤ 1) :
    s.ptmDialog h x = if (s.ptmHeld h x (max 1 (s.get HP_PTM_CTRL.period_ms h) * 1000000)).steeringPort = some h then
      (s.ptmHeld h x (max 1 (s.get HP_PTM_CTRL.period_ms h) * 1000000)).steer h (s.ptmOffset x)
      else s.ptmHeld h x (max 1 (s.get HP_PTM_CTRL.period_ms h) * 1000000) := by
  simp only [State.ptmDialog, hen, hup, hpm, Bool.and_self, Bool.not_true, Bool.false_eq_true, if_false, if_true]
  rfl

/-- The registers, timers and message of a dialog. -/
structure State.Dialogued (s : State) (h o period : Nat) (t : State) : Prop where
  sent : s.asSent h (.message h .ptmRequest) ∈ t.sent
  offset : t.get HP_PTM_OFFSET.offset h = o
  ctx : t.get HP_PTM_STATUS.ctx_valid h = 1
  clock : t.clock = s.clock
  next : t.due (.ptm h) = some (s.clock + period)
  context : t.due (.ptmContext h) = some (s.clock + 2 * period)

/-- What changes neither the offset nor the context leaves a dialog's outcome. -/
theorem State.Dialogued.beside {o period : Nat} {u : State} {ks : List RegKind} {ps : List Area} (k : s.Dialogued h o period t)
    (hu : State.Only ks ps t u) (hoff : .HP_PTM_OFFSET ∉ ks) (hctx : u.get HP_PTM_STATUS.ctx_valid h = t.get HP_PTM_STATUS.ctx_valid h)
    (hp : ∀ p ∈ [Area.clock, .timers, .sent], p ∉ ps) : s.Dialogued h o period u := by
  simp only [List.forall_mem_cons] at hp
  obtain ⟨hclock, htimers, hsent, -⟩ := hp
  have hdue (τ : Timer) : u.due τ = t.due τ := by rw [State.due, hu.areas .timers htimers, State.due]
  exact ⟨by rw [hu.areas .sent hsent]; exact k.sent, (hu.get (F := HP_PTM_OFFSET.offset) hoff h).trans k.offset, hctx.trans k.ctx,
    (hu.areas .clock hclock).trans k.clock, (hdue _).trans k.next, (hdue _).trans k.context⟩

theorem State.ptmHeld_dialogued (s : State) (hh : h < 4) (x : PtmTimes) (period : Nat) :
    s.Dialogued h (unsigned (s.ptmOffset x) 64) period (s.ptmHeld h x period) := by
  have hpf : fnPf h = h := if_pos hh
  generalize hw : unsigned (s.ptmOffset x) 64 = w
  have hw64 : w % 2 ^ 64 = w := by
    rw [← hw, unsigned]
    omega
  generalize hv : (s.emitMsg h .ptmRequest).modHost h (fun d => { d with steered := false }) = v
  have hsent : v.sent = s.asSent h (.message h .ptmRequest) :: s.sent := by
    rw [← hv, State.asSent, hpf]
    rfl
  have hclock : v.clock = s.clock := hv ▸ rfl
  have hheld : s.ptmHeld h x period = ((((((v.put HP_PTM_OFFSET.offset h w).put HP_PTM_STATUS.ctx_valid h 1).loadPps h).arm (.ptm h) period).arm
      (.ptmContext h) (2 * period))).judgeSteering := by
    rw [State.ptmHeld, hv, hw]
  rw [hheld]
  refine State.Dialogued.beside ?_ (State.judgeSteering_only _) (by decide) (State.judgeSteering_ctx _ h) (by decide)
  refine ⟨?_, ?_, ?_, ?_, ?_, ?_⟩
  · rw [State.arm_sent, State.arm_sent, State.loadPps, State.put_sent, State.put_sent, State.put_sent, hsent]
    exact List.mem_cons_self
  · rw [State.arm_get, State.arm_get, State.loadPps, State.get_put_kind (by decide), State.get_put_kind (by decide),
      State.get_put_self hh (by decide)]
    exact hw64
  · rw [State.arm_get, State.arm_get, State.loadPps, State.get_put_kind (by decide), State.get_put_self hh (by decide)]
    rfl
  · rw [State.arm_clock, State.arm_clock, State.loadPps, State.put_clock, State.put_clock, State.put_clock, hclock]
  · rw [State.arm_due_other _ _ (by simp), State.arm_due_self, State.loadPps, State.put_clock, State.put_clock, State.put_clock, hclock]
  · rw [State.arm_due_self, State.arm_clock, State.loadPps, State.put_clock, State.put_clock, State.put_clock, hclock]

/-- A dialog leaves its outcome, and the steering port has used the offset. -/
theorem State.ptmDialog_dialogued {x : PtmTimes} (hh : h < 4) (hen : s.cfgBit h 0x33C 0 = true) (hup : s.linkUp h = true)
    (hpm : s.get HP_LINK_STATUS.pm_state h ≤ 1) :
    s.Dialogued h (unsigned (s.ptmOffset x) 64) (max 1 (s.get HP_PTM_CTRL.period_ms h) * 1000000) (s.ptmDialog h x)
      ∧ ((s.ptmDialog h x).get HP_PTM_STATUS.steering h = 1 → ∃ u, State.Steered u h (s.ptmOffset x) (s.ptmDialog h x)) := by
  rw [State.ptmDialog_runs hen hup hpm]
  generalize max 1 (s.get HP_PTM_CTRL.period_ms h) * 1000000 = period
  have hheld := s.ptmHeld_dialogued hh x period
  split
  next hport =>
    have hused := State.steer_steered (s.ptmHeld h x period) hh (s.ptmOffset x)
    exact ⟨hheld.beside hused.only (by decide) hused.ctx (by decide), fun _ => ⟨_, hused⟩⟩
  next hport =>
    refine ⟨hheld, fun hsteers => ?_⟩
    rw [State.ptmHeld, State.judgeSteering_steering _ hh, ← State.ptmHeld, beq_false_of_ne hport] at hsteers
    cases hsteers

end
/-! ### Requests that a port turns away (R160) -/

section
variable {s : State} {f : Nat}

/-- What AER of function `f` shows of a TLP that it turned away with status bit `b`. -/
def State.LogsTlp (s : State) (f : Nat) (y : TlpInfo) (b : Nat) (t : State) : Prop :=
  t.cfgBit f 0x104 b = true
    ∧ (s.cfgWord f 0x104 = 0 → s.cfgBit (fnPf f) 0x108 b = false → ∀ i : Nat, i < 4 → t.cfgWord f (0x11C + 4 * i) = (tlpInfo y).getD i 0)

/-- An error that is logged once other state has changed, AER as it was. -/
theorem State.aerUnc_logs {u : State} {b : Nat} (hb : b < 32) (hstatus : u.cfgWord f 0x104 = s.cfgWord f 0x104)
    (hmask : u.cfgWord (fnPf f) 0x108 = s.cfgWord (fnPf f) 0x108) (y : TlpInfo) (front : List Dword) (ur : Bool) :
    s.LogsTlp f y b (u.aerUnc f b (some (tlpInfo y ++ front)) ur) := by
  refine ⟨u.aerUnc_status f _ ur hb, fun hfirst hopen i hi => ?_⟩
  refine u.aerUnc_header f b _ _ _ _ front ur (hstatus.trans hfirst) ?_ hi
  rw [State.cfgBit, hmask]
  exact hopen

/-- A request that the port turns away is one that it hears. -/
theorem State.badRequest_turnedAway (hup : s.linkUp (fnPort f) = true) (hheard : s.unheard f = false) {k : BadRequest} (hk : linkError k = none) :
    s.badRequest f k = s.turnAway f k := by
  simp [State.badRequest, hup, hk, hheard]

/-- An error of the link is logged in the PF. -/
theorem State.badRequest_link (hup : s.linkUp (fnPort f) = true) {k : BadRequest} {b : Nat} (hb : b < 32) :
    (linkError k = some (true, b) → (s.badRequest f k).cfgBit (fnPort f) 0x104 b = true)
      ∧ (linkError k = some (false, b) → (s.badRequest f k).cfgBit (fnPort f) 0x110 b = true) := by
  constructor
  · intro hk
    simp only [State.badRequest, hup, hk, Bool.not_true, Bool.false_eq_true, if_false]
    exact s.aerUnc_status _ none false hb
  · intro hk
    simp only [State.badRequest, hup, hk, Bool.not_true, Bool.false_eq_true, if_false]
    exact State.aerCor_status _ _ hb

/-- A stream that is heard carries the completion of a request that is not supported. -/
theorem State.emitTlp_completion (hheard : s.unheard f = false) {h : Nat} {st : TlpStatus} {d : List Byte} {g tag : Nat} :
    s.emitTlp f (.completion h g tag st d) = s.emit (s.asSent f (.completion h g tag st d)) := by
  simp only [State.unheard, Bool.or_eq_false_iff] at hheard
  obtain ⟨-, hstream⟩ := hheard
  have hsent : s.silenced f (.completion h g tag st d) = false := hstream
  rw [State.emitTlp, hsent]
  rfl

/-- A request that is not supported is logged with its header, and one that wants a completion gets it. -/
theorem State.turnAway_unsupported (hheard : s.unheard f = false) (hf : s.existsFn f = true) (np : Bool) (p : Option (BitVec 20)) (y : TlpInfo) :
    s.LogsTlp f y 20 (s.turnAway f (.unsupported np p y)) ∧ (s.turnAway f (.unsupported np p y)).cfgBit f 0x58 19 = true
      ∧ (np = true → s.asSent f (.completion (fnPort f) f y.tag .unsupported []) ∈ (s.turnAway f (.unsupported np p y)).sent) := by
  have hlog : s.logFn f = f := if_pos hf
  generalize hu : (if np then s.emitTlp f (.completion (fnPort f) f y.tag .unsupported []) else s) = u
  have haway : s.turnAway f (.unsupported np p y) = u.aerUnc f 20 (some (tlpInfo y ++ u.pasidHeader (fnPort f) (p.map BitVec.toNat))) true := by
    rw [State.turnAway, hlog, ← hu]
  have hcfg (g o : Nat) : u.cfgWord g o = s.cfgWord g o := by
    rw [← hu, State.emitTlp_completion hheard]
    split <;> rfl
  rw [haway]
  refine ⟨State.aerUnc_logs (by decide) (hcfg _ _) (hcfg _ _) _ _ _, u.aerUnc_urDetected f _ _, fun hnp => ?_⟩
  rw [hnp, if_pos rfl, State.emitTlp_completion hheard] at hu
  have hout : s.asSent f (.completion (fnPort f) f y.tag .unsupported []) ∈ u.sent := hu ▸ List.mem_cons_self
  exact (State.aerUnc_follows (.refl u) f 20 _ true).sent.subset hout

/-- A poisoned write is logged and counted. -/
theorem State.turnAway_poisoned (hf : s.existsFn f = true) (y : TlpInfo) :
    s.LogsTlp f y 12 (s.turnAway f (.poisonedWrite y))
      ∧ (s.turnAway f (.poisonedWrite y)).ctr (hostCtr (fnPort f) 2) = s.ctr (hostCtr (fnPort f) 2) + 1 := by
  have hlog : s.logFn f = f := if_pos hf
  generalize hu : (s.bump (hostCtr (fnPort f) 2)).setStatus f 31 = u
  have haway : s.turnAway f (.poisonedWrite y) = u.aerUnc f 12 (some (tlpInfo y ++ [])) := by
    rw [State.turnAway, hlog, ← hu, List.append_nil]
  have hcfg {g o : Nat} (ho : o / 4 ≠ 1) (h4 : o < 4096) : u.cfgWord g o = s.cfgWord g o := by
    rw [← hu, State.setStatus, State.cfgPut_cfgWord_other _ (cfgKey_ne (.inl ho) h4 (by decide)), State.bump_cfgWord]
  have hlogged : State.Only [] [.cfg, .sent] u (u.aerUnc f 12 (some (tlpInfo y ++ []))) := (State.aerUnc_within (.refl _ u) f 12 _ _ (by decide)).only
  rw [haway]
  refine ⟨State.aerUnc_logs (by decide) (hcfg (by decide) (by decide)) (hcfg (by decide) (by decide)) _ _ _, ?_⟩
  rw [hlogged.ctr (by decide), ← hu]
  exact State.bump_ctr_self s _

/-- A malformed TLP is logged. -/
theorem State.turnAway_malformed (hf : s.existsFn f = true) (y : TlpInfo) : s.LogsTlp f y 18 (s.turnAway f (.malformed y)) := by
  have hlog : s.logFn f = f := if_pos hf
  have haway : s.turnAway f (.malformed y) = s.aerUnc f 18 (some (tlpInfo y ++ [])) := by
    rw [State.turnAway, hlog, List.append_nil]
  rw [haway]
  exact State.aerUnc_logs (by decide) rfl rfl _ _ _

end

/-- Settles O33: one lemma on each message, and one on what AER shows of each request that is turned away. -/
theorem hostMessages : Obligations.HostMessages := by
  unfold Obligations.HostMessages
  intro s h a v x f
  refine ⟨?ltr, ?load, ?dialog, ?lost, ?away, ?link⟩
  case ltr =>
    intro hdue hbusy hwas hen hup hpm hnext
    have hhost : ((s.disarm (.ltrIdle h)).modHost h (fun d => { d with ltrBusy := some true })).host h = { s.host h with ltrBusy := some true } := by
      rw [State.modHost_host_self, State.disarm_host]
    have hrep := State.sendLtr_reported (s := (s.disarm (.ltrIdle h)).modHost h (fun d => { d with ltrBusy := some true })) h.isLt hen hup hpm
      (by rw [hhost]; exact hnext)
    obtain ⟨hnow, hthen, hsent⟩ := hrep
    rw [hhost] at hnow hsent
    rw [← State.judgeLtr_busy hdue hbusy hwas] at hnow hthen hsent
    exact ⟨_, rfl, hnow, hthen, hsent⟩
  case load =>
    intro hw
    exact ⟨_, rfl, by rw [hw.writeAs]; exact s.writeReg_ltr a h.isLt v⟩
  case dialog =>
    intro hfires hen hup hpm
    have hpast : State.Only [] passing s (s.expire (.ptm h)) := (State.expire_within (.refl _ s) _ (by decide)).only
    have hcfg (g o i : Nat) : (s.expire (.ptm h)).cfgBit g o i = s.cfgBit g o i := by
      rw [State.cfgBit, State.cfgWord, hpast.areas .cfg (by decide)]
      rfl
    have hlink : (s.expire (.ptm h)).linkUp h = s.linkUp h := by
      rw [State.linkUp, State.on, hpast.get (by decide), hpast.areas .phase (by decide)]
      rfl
    obtain ⟨hout, hsteers⟩ := State.ptmDialog_dialogued (s := s.expire (.ptm h)) (x := x) h.isLt ((hcfg h _ _).trans hen) (hlink.trans hup)
      (by rwa [hpast.get (by decide)])
    rw [← State.onExpiry_fires (g := fun s => s.ptmDialog h x) hfires] at hout hsteers
    rw [hpast.get (by decide), Nat.mul_comm] at hout
    refine ⟨_, rfl, ?_, hout.offset, hout.ctx, fun hbit => ?_, ?_, ?_⟩
    · have hsent := hout.sent
      rw [State.asSent, hcfg] at hsent
      exact hsent
    · obtain ⟨u, hused⟩ := hsteers hbit
      exact ⟨hused.stepped, hused.faulted, hused.slewed⟩
    · rw [hout.clock]
      exact hout.next
    · rw [hout.clock]
      exact hout.context
  case lost =>
    intro hfires
    refine ⟨_, rfl, ?_⟩
    rw [State.onExpiry_fires hfires]
    exact ⟨State.ptmLost_ctx _ h.isLt, State.ptmLost_steering _ h.isLt⟩
  case away =>
    intro hup hheard hf
    refine ⟨fun p y => ⟨⟨_, rfl, ?_⟩, ⟨_, rfl, ?_⟩⟩, fun y => ⟨_, rfl, ?_⟩, fun y => ⟨_, rfl, ?_⟩⟩ <;>
      rw [State.badRequest_turnedAway hup hheard rfl]
    · obtain ⟨hlogs, hur, -⟩ := State.turnAway_unsupported hheard hf false p y
      exact ⟨hlogs, hur⟩
    · obtain ⟨hlogs, -, hsent⟩ := State.turnAway_unsupported hheard hf true p y
      exact ⟨hlogs, hsent rfl⟩
    · exact State.turnAway_malformed hf y
    · exact State.turnAway_poisoned hf y
  case link =>
    intro hup
    have hunc {k : BadRequest} {b : Nat} (hb : b < 32) (hk : linkError k = some (true, b)) : Completes (.unsupportedRequest f k) s
        (fun t => t.cfgBit (fnPort f) 0x104 b = true) := ⟨_, rfl, (State.badRequest_link hup hb).1 hk⟩
    have hcor {k : BadRequest} {b : Nat} (hb : b < 32) (hk : linkError k = some (false, b)) : Completes (.unsupportedRequest f k) s
        (fun t => t.cfgBit (fnPort f) 0x110 b = true) := ⟨_, rfl, (State.badRequest_link hup hb).2 hk⟩
    simp only [List.forall_mem_cons, List.not_mem_nil, false_implies, implies_true, and_true]
    exact ⟨⟨hunc (by decide) rfl, hunc (by decide) rfl, hunc (by decide) rfl⟩, fun x => ⟨hcor (by decide) rfl, hcor (by decide) rfl,
      hcor (by decide) rfl, hcor (by decide) rfl, hcor (by decide) rfl⟩⟩

end Sys2Proof.Machine
end


/-! What configuration writes change in the module: Bus Master Enable and the power state in FUNC_STATE, BAR sizes, and the plank table and
the expansion ROM of the compatibility view (R152, R153, R166, R168, R178 to R183). -/

section
namespace Sys2Proof.Machine

section
variable {s : State} {f : Nat}

/-! ### A write that reaches configuration space -/

/-- A named write of configuration space finds the link out of L1 and the core awake. -/
def State.toConfig (s : State) (f : Nat) : State := (s.leaveL1 (fnPort f)).wakeRegion 34

theorem State.byConfig_reached (h : s.cfgReach f = true) (g : State → State) : s.byConfig f g = g (s.toConfig f) := if_pos h

theorem State.toConfig_only (s : State) (f : Nat) :
    State.Only (.HP_LINK_STATUS :: wakeKinds) [.ctrs, .hosts, .freeCtr, .plumb, .waking] s (s.toConfig f) :=
  ((s.leaveL1_only _).mono (by decide) (by decide)).trans ((State.wakeRegion_only _ _).mono (by decide) (by decide))

theorem State.toConfig_cfg (s : State) (f : Nat) : (s.toConfig f).cfg = s.cfg := (s.toConfig_only f).areas .cfg (by decide)

/-! ### Bus Master Enable and the power state (R152, R153, R166) -/

/-- A one-bit field that is set holds 1. -/
theorem State.get_one {F : Fld} {i : Nat} (hlen : F.len = 1) (h : s.on F i = true) : s.get F i = 1 := by
  have hlt : s.get F i < 2 ^ F.len := getBits_lt ..
  rw [hlen] at hlt
  have hne : s.get F i ≠ 0 := by simpa [State.on] using h
  omega

theorem State.get_zero {F : Fld} {i : Nat} (h : s.on F i = false) : s.get F i = 0 := by simpa [State.on] using h

/-- What a function does for want of a master enable, and what it takes up with it, leaves its state register. -/
theorem State.loseMaster_fnState (s : State) (f : Nat) {F : Fld} (hF : F.reg = .FUNC_STATE) (g : Nat) :
    (s.loseMaster f).get F g = s.get F g :=
  (State.loseMaster_within (.refl _ s) f (Nat.or_self _)).get F g (by rw [hF]; decide +kernel)

theorem State.gainMaster_fnState (s : State) (f : Nat) {F : Fld} (hF : F.reg = .FUNC_STATE) (g : Nat) :
    (s.gainMaster f).get F g = s.get F g :=
  (State.gainMaster_within (.refl _ s) f (Nat.or_self _)).get F g (by rw [hF]; decide +kernel)

/-- Bus Master Enable shows in FUNC_STATE, but while an FLR runs. -/
theorem State.setBme_bme (hf : f < 1024) (hflr : s.get FUNC_STATE.flr_active f = 0) (b : Bool) : (s.setBme f b).get FUNC_STATE.bme f = b2n b := by
  generalize hu : s.cfgPut f 0x04 2 1 (b2n b) = u
  have hidle : u.on FUNC_STATE.flr_active f = false := by
    have hkept : u.get FUNC_STATE.flr_active f = 0 := hu ▸ hflr
    rw [State.on, hkept]
    rfl
  have hset : (u.flag FUNC_STATE.bme f b).get FUNC_STATE.bme f = b2n b :=
    (State.get_flag_self hf (by decide)).trans (Nat.mod_eq_of_lt (b2n_lt b))
  simp only [State.setBme, hu, hidle, Bool.false_eq_true, if_false]
  split_ifs with hsame hb
  · cases b with
    | true => exact State.get_one rfl hsame
    | false => exact State.get_zero hsame
  · rw [State.gainMaster_fnState _ _ rfl, hset]
  · rw [State.loseMaster_fnState _ _ rfl, hset]

/-- D3hot shows in FUNC_STATE. -/
theorem State.setPower_d3hot (s : State) (hf : f < 1024) : (s.setPower f 3).get FUNC_STATE.d3hot f = 1 := by
  generalize hu : (s.cfgPut f 0x44 0 2 3).put FUNC_STATE.d3hot f 1 = u
  have hset : (u.loseMaster f).get FUNC_STATE.d3hot f = 1 := by
    rw [State.loseMaster_fnState _ _ rfl, ← hu]
    exact State.get_put_self hf (by decide)
  have hL1 (v : State) : (v.enterL1 f).get FUNC_STATE.d3hot f = v.get FUNC_STATE.d3hot f :=
    (State.enterL1_within (.refl _ v) f (Nat.or_self _)).get _ f (by decide +kernel)
  have hthree : (3 : Nat) = 0 ↔ False := by decide
  simp only [State.setPower, hu]
  cases hwas : s.on FUNC_STATE.d3hot f with
  | true =>
    simp only [Bool.not_true, Bool.false_eq_true, and_false, if_false, hthree, false_and]
    exact State.get_one rfl hwas
  | false =>
    simp only [Bool.not_false, and_self, if_true]
    split_ifs
    · rw [hL1, hset]
    · exact hset

/-! ### BAR sizes (R168) -/

theorem State.trimBar_cfgWord (s : State) (f lo n : Nat) {o : Nat} (ho : o / 4 ≠ lo / 4) (ho' : o / 4 ≠ (lo + 4) / 4) (h : o < 4096)
    (hlo : lo + 4 < 4096) : (s.trimBar f lo n).cfgWord f o = s.cfgWord f o := by
  rw [State.trimBar, State.setCfg_cfgWord_other _ _ (cfgKey_ne (.inl ho') h hlo), State.setCfg_cfgWord_other _ _ (cfgKey_ne (.inl ho) h (by omega))]

/-- A size that is offered is taken while the BAR is disabled, and discarded while it is enabled. -/
theorem State.resizeBar_size {h v : Nat} (hc : s.compat = false) (hv : v ≤ 26) :
    (s.cfgBit h 0x04 1 = false → (s.resizeBar h false v).cfgGet h 0x16C 8 6 = v)
      ∧ (s.cfgBit h 0x04 1 = true → s.resizeBar h false v = s) := by
  constructor
  · intro hoff
    have hoffered : sizeOffered false v = true := decide_eq_true hv
    simp only [State.resizeBar, hoff, hoffered, hc, Bool.false_eq_true, if_false, Bool.not_true, Bool.or_self, Bool.false_and]
    rw [State.cfgGet, State.trimBar_cfgWord _ _ _ _ (by decide) (by decide) (by decide) (by decide), ← State.cfgGet,
      State.cfgPut_cfgGet_self _ _ _ _ (by decide)]
    exact Nat.mod_eq_of_lt (by omega)
  · intro hon
    simp only [State.resizeBar, hon, Bool.false_eq_true, if_false, Bool.true_or, if_true]

/-! ### The compatibility view (R178 to R183) -/

/-- Releasing held messages leaves configuration space and the plank table. -/
theorem State.freeHeld_beside (s : State) (f : Nat) : State.Only [.PWR_STATE_MISC, .PWR_STATE_EG, .PWR_STATE_BAY0, .PWR_STATE_BAY1, .BAY_STATUS]
    [.freed, .plumb, .waking] s (s.freeHeld f) :=
  (State.freeHeld_within (.refl _ s) f (by decide +kernel)).only

/-- Multiple Message Enable takes a value, and the plank table is rebuilt. -/
theorem State.setMme_rebuilt (hc : s.compat = true) (e : Fin 8) :
    (s.setMme e).cfgGet 0 0xD0 20 3 = e.val ∧ (s.setMme e).plankGen = s.plankGen + 1 := by
  have hfield := s.cfgPut_cfgGet_self 0 0xD0 (lo := 20) (len := 3) e (by decide)
  rw [Nat.mod_eq_of_lt (show e.val < 2 ^ 3 from e.isLt)] at hfield
  have hput : (s.cfgPut 0 0xD0 20 3 e).compat = true := hc
  have hbuilt : (s.cfgPut 0 0xD0 20 3 e).rebuildPlank.cfgGet 0 0xD0 20 3 = e.val
      ∧ (s.cfgPut 0 0xD0 20 3 e).rebuildPlank.plankGen = s.plankGen + 1 := by
    rw [State.rebuildPlank, if_pos hput]
    exact ⟨hfield, rfl⟩
  have hfree := State.freeHeld_beside (s.cfgPut 0 0xD0 20 3 e).rebuildPlank 0
  rw [State.setMme, if_pos hc]
  refine ⟨?_, (hfree.areas .plank (by decide)).1.trans hbuilt.2⟩
  rw [State.cfgGet, State.cfgWord, hfree.areas .cfg (by decide)]
  exact hbuilt.1

theorem sliceBytes_length (bs : List Byte) (o n : Nat) : (sliceBytes bs o n).length = n := by
  rw [sliceBytes, List.length_append, List.length_replicate, List.length_take]
  omega

/-- A slice from the front begins as the bytes do. -/
theorem sliceBytes_front {a b : Byte} {bs : List Byte} {n : Nat} (h : 2 ≤ n) : (sliceBytes (a :: b :: bs) 0 n).take 2 = [a, b] := by
  obtain ⟨m, rfl⟩ := Nat.exists_eq_add_of_le' h
  rfl

/-- What the table is read from is up to date. -/
def State.planksFresh (s : State) : State := if s.planks = s.planksNow then s else s.rebuildPlank

theorem State.planksFresh_only (s : State) : State.Only [] [.plank] s s.planksFresh :=
  (State.Within.ite (.refl _ s) (State.rebuildPlank_within (.refl _ s) (by decide))).only

/-- A read of the ROM that is answered. -/
theorem State.romRead_answered (hc : s.compat = true) (hen : s.cfgBit 0 0x30 0 = true) (hmem : s.memEnabled 0 = true) (hheard : s.unheard 0 = false)
    (hpm : s.get HP_LINK_STATUS.pm_state 0 ≠ 2) (o n : Nat) :
    s.romRead o n = s.planksFresh.emit (s.asSent 0 (.romData (sliceBytes (romHead ++ s.planksFresh.plankTable) o n))) := by
  have hquiet : s.planksFresh.silenced 0 (.romData (sliceBytes (romHead ++ s.planksFresh.plankTable) o n)) = false := by
    simp only [State.unheard, Bool.or_eq_false_iff] at hheard
    obtain ⟨-, hstream⟩ := hheard
    change s.planksFresh.streamFailed (fnPort 0) (s.planksFresh.streamFor 0) = false
    unfold State.planksFresh State.rebuildPlank
    split_ifs <;> exact hstream
  simp only [State.romRead, hheard, State.leaveL1_awake hpm, hc, hen, hmem, Bool.and_self, Bool.false_eq_true, if_false, if_true]
  change s.planksFresh.emitTlp 0 (.romData (sliceBytes (romHead ++ s.planksFresh.plankTable) o n)) = _
  rw [State.emitTlp, hquiet, if_neg Bool.false_ne_true, State.asSent, State.cfgBit, State.cfgWord, s.planksFresh_only.areas .cfg (by decide)]
  rfl

end

/-- Settles O36: one lemma on each effect of a configuration write. -/
theorem configurationEffects : Obligations.ConfigurationEffects := by
  unfold Obligations.ConfigurationEffects
  intro s f h size e off len
  have hcfg (g o i : Nat) : (s.toConfig h).cfgBit g o i = s.cfgBit g o i := by
    rw [State.cfgBit, State.cfgWord, s.toConfig_cfg]
    rfl
  have hcompat (g : Nat) : (s.toConfig g).compat = s.compat := by
    rw [State.compat, State.on, (s.toConfig_only g).get (by decide)]
    rfl
  refine ⟨?masters, ?sizes, ?mme, ?rom⟩
  case masters =>
    intro hreach hflr
    have hidle : (s.toConfig f).get FUNC_STATE.flr_active f = 0 := ((s.toConfig_only f).get (by decide) f).trans hflr
    refine ⟨⟨_, rfl, ?_⟩, ⟨_, rfl, ?_⟩, ⟨_, rfl, ?_⟩⟩ <;> rw [State.byConfig_reached hreach]
    · exact State.setBme_bme f.isLt hidle true
    · exact State.setBme_bme f.isLt hidle false
    · exact State.setPower_d3hot _ f.isLt
  case sizes =>
    intro hreach hc hsize
    obtain ⟨htaken, hkept⟩ := State.resizeBar_size (s := s.toConfig h) (h := h) ((hcompat h).trans hc) hsize
    refine ⟨fun hoff => ⟨_, rfl, ?_⟩, fun hon => ⟨_, rfl, ?_⟩⟩ <;> rw [State.byConfig_reached hreach]
    · exact htaken ((hcfg ..).trans hoff)
    · rw [hkept ((hcfg ..).trans hon)]
      exact s.toConfig_cfg h
  case mme =>
    intro hreach hc
    obtain ⟨hfield, hgen⟩ := State.setMme_rebuilt ((hcompat 0).trans hc) e
    refine ⟨_, rfl, ?_⟩
    rw [State.byConfig_reached hreach]
    exact ⟨hfield, hgen.trans (congrArg (· + 1) ((s.toConfig_only 0).areas .plank (by decide)).1)⟩
  case rom =>
    intro hspan hc _ hen hmem hheard hpm
    refine ⟨_, congrArg Host.Outcome.next (if_pos hspan), ?_⟩
    have hfresh := s.planksFresh_only
    rw [State.romRead_answered hc hen hmem hheard hpm]
    refine ⟨_, congrArg _ (hfresh.areas .sent (by decide)), sliceBytes_length .., fun hoff hlen => ?_, ?_⟩
    · rw [hoff]
      exact sliceBytes_front hlen
    · exact (hfresh.mono (by simp) (by simp)).trans (State.emit_within (.refl _ _) _ (by decide)).only

end Sys2Proof.Machine
end


/-! Function level resets: the generation and the enables of a function whose sequence begins, and how the sequence ends (R147, R190, R193, R194). -/

section
namespace Sys2Proof.Machine

section
variable {s t : State} {f g h : Nat}

/-! ### FUNC_STATE through a reset (R190, R195) -/

/-- FUNC_STATE after its function has been reset: the generation raised, the FLR's own bit kept, the others cleared. -/
def clearedFnWord (w : Word) : Word :=
  setBits (mergeBits 0 (setBits w 0 8 (getBits w 0 8 + 1)) (maskBits 0 8)) 10 1 (b2n (getBits w 10 1 != 0))

/-- Above the generation a reset clears every bit. -/
theorem getBits_reset_above (v : Word) {lo len : Nat} (hlo : 8 ≤ lo) : getBits (mergeBits 0 v (maskBits 0 8)) lo len = 0 := by
  have hzero : getBits (0 : Word) lo len = 0 := by simp [getBits]
  refine (getBits_congr fun i hi _ => ?_).trans hzero
  rw [mergeBits, BitVec.getLsbD_or, BitVec.getLsbD_and, BitVec.getLsbD_and, getLsbD_maskBits_low]
  simp [show ¬ i < 8 by omega]

theorem clearedFnWord_gen (w : Word) : getBits (clearedFnWord w) 0 8 = (getBits w 0 8 + 1) % 256 := by
  have hkeep (v : Word) : getBits (mergeBits 0 v (maskBits 0 8)) 0 8 = getBits v 0 8 := getBits_congr fun i _ hi => by
    rw [mergeBits, BitVec.getLsbD_or, BitVec.getLsbD_and, BitVec.getLsbD_and, getLsbD_maskBits_low]
    simp [show i < 8 by omega, show i < 64 by omega]
  rw [clearedFnWord, getBits_setBits_other (.inl (by decide)), hkeep, getBits_setBits_self (by decide)]
  rfl

theorem clearedFnWord_enables (w : Word) : getBits (clearedFnWord w) 8 1 = 0 ∧ getBits (clearedFnWord w) 9 1 = 0 := by
  constructor <;> rw [clearedFnWord, getBits_setBits_other (.inl (by decide)), getBits_reset_above _ (by decide)]

theorem clearedFnWord_active (w : Word) : getBits (clearedFnWord w) 10 1 = b2n (getBits w 10 1 != 0) := by
  rw [clearedFnWord, getBits_setBits_self (by decide)]
  exact Nat.mod_eq_of_lt (b2n_lt _)

/-- A function's state with its generation raised and its queues, interrupts and configuration space reset, before FUNC_STATE is. -/
def State.fnEmptied (s : State) (f : Nat) : State := (((s.raiseFnGen f).each (s.queuesOf f) State.clearQueue).clearPegs f).resetCfg f

theorem State.fnEmptied_within (s : State) (f : Nat) : State.Within (besideMask [.FUNC_STATE] []) (s.raiseFnGen f) (s.fnEmptied f) :=
  State.resetCfg_within (State.clearPegs_within (State.Within.each (.refl _ _) _ fun _ q k => State.clearQueue_within k q (by decide)) f (by decide))
    f (by decide)

theorem State.clearState_eq (s : State) (f : Nat) : s.clearState f = (((s.fnEmptied f).resetPlain .FUNC_STATE f).flag FUNC_STATE.flr_active f
    ((s.fnEmptied f).on FUNC_STATE.flr_active f)).modFunc f (fun d => { d with heldBme := false, heldMse := false, cmdOwed := 0 }) := rfl

theorem State.clearState_fnWord_self (s : State) (hf : f < 1024) : (s.clearState f).word .FUNC_STATE f = clearedFnWord (s.word .FUNC_STATE f) := by
  have hkept : keptMask .FUNC_STATE = maskBits 0 8 := by decide
  have hzero : RegKind.reset .FUNC_STATE 0 = 0 := by decide
  have hreset : RegKind.reset .FUNC_STATE f = 0 := hzero
  have hw : (s.fnEmptied f).word .FUNC_STATE f = setBits (s.word .FUNC_STATE f) 0 8 (s.get FUNC_STATE.gen f + 1) := by
    rw [(s.fnEmptied_within f).words _ (by decide)]
    exact State.setWord_word_self (k := .FUNC_STATE) hf _
  have hactive : (s.fnEmptied f).on FUNC_STATE.flr_active f = (getBits (s.word .FUNC_STATE f) 10 1 != 0) := by
    have hget : (s.fnEmptied f).get FUNC_STATE.flr_active f = getBits ((s.fnEmptied f).word .FUNC_STATE f) 10 1 := rfl
    rw [State.on, hget, hw, getBits_setBits_other (.inr (by decide))]
  have hself (u : State) (w : Word) : (u.setWord .FUNC_STATE f w).word .FUNC_STATE f = w := State.setWord_word_self (k := .FUNC_STATE) hf w
  have hplain : ((s.fnEmptied f).resetPlain .FUNC_STATE f).word .FUNC_STATE f
      = mergeBits 0 (setBits (s.word .FUNC_STATE f) 0 8 (s.get FUNC_STATE.gen f + 1)) (maskBits 0 8) := by
    rw [State.resetPlain, hself, hw, hkept, hreset]
  rw [State.clearState_eq, State.modFunc_word, hactive]
  exact (hself _ _).trans (congrArg (setBits · 10 1 _) hplain)

theorem State.clearState_fnWord_other (s : State) (hg : g ≠ f) : (s.clearState f).word .FUNC_STATE g = s.word .FUNC_STATE g := by
  have hother (u : State) (w : Word) : (u.setWord .FUNC_STATE f w).word .FUNC_STATE g = u.word .FUNC_STATE g := State.setWord_word_index hg w
  rw [State.clearState_eq, State.modFunc_word]
  exact (hother _ _).trans ((hother _ _).trans (((s.fnEmptied_within f).words _ (by decide) g).trans (hother s _)))

/-- What precedes and follows the reset of a function's state leaves every FUNC_STATE. -/
theorem State.clearFunction_fnWord (s : State) (f g : Nat) : ∃ u : State, u.word .FUNC_STATE = s.word .FUNC_STATE
    ∧ (s.clearFunction f).word .FUNC_STATE g = (u.clearState f).word .FUNC_STATE g := by
  have hbefore : State.Within (besideMask [.FUNC_STATE] []) s ((s.endReads f).refusePosts (fnPort f) (fun g => g == f)) :=
    State.refusePosts_within (State.endReads_within (.refl _ s) f (by decide)) _ _ (by decide)
  refine ⟨_, funext (hbefore.words _ (by decide)), ?_⟩
  exact (State.drainWrites_within (State.modHost_within (.refl (besideMask [.FUNC_STATE] []) _) _ _ (by decide)) _ (by decide)).words _ (by decide) g

/-- A function's FLR, or its part of the clearing of VF Enable, as it begins: of the function states its own alone is reset. -/
theorem State.beginSequence_fnWord (s : State) (f g : Nat) (vanish : Bool) : ∃ u : State,
    u.word .FUNC_STATE = (s.put FUNC_STATE.flr_active f 1).word .FUNC_STATE
    ∧ (s.beginSequence f vanish).word .FUNC_STATE g = (u.clearState f).word .FUNC_STATE g := by
  obtain ⟨u, hu, hcleared⟩ := ((s.put FUNC_STATE.flr_active f 1).put FUNC_FLR_TIME.devtime f s.devtime).clearFunction_fnWord f g
  refine ⟨u, hu.trans (funext fun i => State.setWord_word_kind (k := .FUNC_FLR_TIME) (by decide) _ _ _), Eq.trans ?_ hcleared⟩
  exact (State.Within.each (State.modFunc_within (State.endDevices_within (.refl (besideMask [.FUNC_STATE] []) _) f (by decide)) _ _ (by decide)) _
    fun _ _ k => State.arm_within k _ _ (by decide)).words _ (by decide) g

theorem State.beginSequence_fnWord_other (s : State) (hg : g ≠ f) (vanish : Bool) :
    (s.beginSequence f vanish).word .FUNC_STATE g = s.word .FUNC_STATE g := by
  obtain ⟨u, hu, hbegun⟩ := s.beginSequence_fnWord f g vanish
  rw [hbegun, u.clearState_fnWord_other hg, hu]
  exact State.setWord_word_index (k := .FUNC_STATE) hg _

theorem State.beginSequence_fnWord_self (s : State) (hf : f < 1024) (vanish : Bool) :
    (s.beginSequence f vanish).word .FUNC_STATE f = clearedFnWord (setBits (s.word .FUNC_STATE f) 10 1 1) := by
  obtain ⟨u, hu, hbegun⟩ := s.beginSequence_fnWord f f vanish
  rw [hbegun, u.clearState_fnWord_self hf, hu]
  exact congrArg clearedFnWord (State.setWord_word_self (k := .FUNC_STATE) hf _)

/-- The time at which the sequence begins is kept. -/
theorem State.beginSequence_time (s : State) (hf : f < 1024) (vanish : Bool) :
    (s.beginSequence f vanish).get FUNC_FLR_TIME.devtime f = s.devtime % 2 ^ 64 := by
  have hcleared : State.Within (besideMask [.FUNC_FLR_TIME] []) ((s.put FUNC_STATE.flr_active f 1).put FUNC_FLR_TIME.devtime f s.devtime)
      (s.beginSequence f vanish) :=
    State.Within.each (State.modFunc_within (State.endDevices_within (State.clearFunction_within (.refl _ _) f (by decide)) f (by decide)) _ _
      (by decide)) _ fun _ _ k => State.arm_within k _ _ (by decide)
  rw [hcleared.get _ _ (by decide), State.get_put_self hf (by decide)]
  rfl

/-! ### Initiate FLR (R176, R193, R194) -/

/-- The VFs of a port have other numbers than the PFs. -/
theorem vfNumbers_ge {v : Nat} (hv : v ∈ vfNumbers h) : 4 ≤ v := by
  obtain ⟨k, -, rfl⟩ := List.mem_map.mp hv
  rw [vfIndex]
  omega

/-- The clearing of VF Enable leaves the PF's state. -/
theorem State.dropVfs_fnWord (s : State) (h : Nat) (hf : f < 4) : (s.dropVfs h).word .FUNC_STATE f = s.word .FUNC_STATE f := by
  have hne {v : Nat} (hv : v ∈ vfNumbers h) : f ≠ v := by
    have := vfNumbers_ge hv
    omega
  refine State.each_keepsMem (P := fun t => t.word .FUNC_STATE f = s.word .FUNC_STATE f) ?_ fun t k v hv => ?_
  · refine State.each_keepsMem (P := fun t => t.word .FUNC_STATE f = s.word .FUNC_STATE f) rfl fun t k v hv => ?_
    exact (t.beginSequence_fnWord_other (hne (List.mem_of_mem_filter hv)) true).trans k
  · exact (t.clearState_fnWord_other (hne (List.mem_of_mem_filter hv))).trans k

/-- A function whose FLR has begun at `time`, where it was in state `w`. -/
structure State.FlrBegun (t : State) (f : Nat) (w : Word) (time : Nat) : Prop where
  active : t.get FUNC_STATE.flr_active f = 1
  gen : t.get FUNC_STATE.gen f = (getBits w 0 8 + 1) % 256
  bme : t.get FUNC_STATE.bme f = 0
  mse : t.get FUNC_STATE.mse f = 0
  time : t.get FUNC_FLR_TIME.devtime f = time % 2 ^ 64

theorem State.FlrBegun.beside {w : Word} {time : Nat} (k : s.FlrBegun f w time) (u : State.Within (besideMask [.FUNC_STATE, .FUNC_FLR_TIME] []) s t) :
    t.FlrBegun f w time := by
  have hget {F : Fld} (hF : F.reg = .FUNC_STATE ∨ F.reg = .FUNC_FLR_TIME) : t.get F f = s.get F f :=
    u.get F f (by rcases hF with hF | hF <;> rw [hF] <;> decide)
  exact ⟨(hget (.inl rfl)).trans k.active, (hget (.inl rfl)).trans k.gen, (hget (.inl rfl)).trans k.bme, (hget (.inl rfl)).trans k.mse,
    (hget (.inr rfl)).trans k.time⟩

theorem State.beginSequence_begun (s : State) (hf : f < 1024) (vanish : Bool) :
    (s.beginSequence f vanish).FlrBegun f (s.word .FUNC_STATE f) s.devtime := by
  have hword := s.beginSequence_fnWord_self hf vanish
  have hget {F : Fld} (hF : F.reg = .FUNC_STATE) : (s.beginSequence f vanish).get F f
      = getBits (clearedFnWord (setBits (s.word .FUNC_STATE f) 10 1 1)) F.lo F.len := by
    rw [State.get, hF, hword]
  obtain ⟨hbme, hmse⟩ := clearedFnWord_enables (setBits (s.word .FUNC_STATE f) 10 1 1)
  refine ⟨?_, ?_, (hget rfl).trans hbme, (hget rfl).trans hmse, s.beginSequence_time hf vanish⟩
  · refine (hget rfl).trans ((clearedFnWord_active _).trans ?_)
    rw [getBits_setBits_self (by decide)]
    rfl
  · refine (hget rfl).trans ((clearedFnWord_gen _).trans ?_)
    rw [getBits_setBits_other (.inl (by decide))]

/-- An FLR begins where nothing records the generation to be taken. -/
theorem State.startFlr_begun (hf : f < 1024) (hidle : s.get FUNC_STATE.flr_active f = 0)
    (hfree : s.genBlocked (fun g => g == f || (decide (f < 4) && fnPort g == f)) = false) :
    (s.startFlr f).FlrBegun f (s.word .FUNC_STATE f) s.devtime := by
  have hon : s.on FUNC_STATE.flr_active f = false := by rw [State.on, hidle]; rfl
  generalize hu : s.modFunc f (fun d => { d with heldFlr := false, flrOwed := 0 }) = u
  have hword : u.word .FUNC_STATE f = s.word .FUNC_STATE f := by rw [← hu, State.modFunc_word]
  have htime : u.devtime = s.devtime := by rw [← hu, State.modFunc_devtime]
  have hbegun : (if f < 4 then (((u.withdrawVfe f).dropVfs f).beginSequence f false).resetMailbox f else u.beginSequence f false).FlrBegun f
      (s.word .FUNC_STATE f) s.devtime := by
    split
    next hpf =>
      have hwithdrawn : State.Within (besideMask [.FUNC_STATE] [.devtime]) u (u.withdrawVfe f) := State.withdrawVfe_within (.refl _ u) f (by decide)
      have hkept : ((u.withdrawVfe f).dropVfs f).word .FUNC_STATE f = s.word .FUNC_STATE f := by
        rw [State.dropVfs_fnWord _ _ hpf, hwithdrawn.words _ (by decide), hword]
      have hnow : ((u.withdrawVfe f).dropVfs f).devtime = s.devtime :=

        ((State.dropVfs_within (State.withdrawVfe_within (.refl (besideMask [] [.devtime]) u) f (by decide)) f (by decide)).areas .devtime
          (by decide)).1.trans htime
      have hrun := State.beginSequence_begun ((u.withdrawVfe f).dropVfs f) hf false
      rw [hkept, hnow] at hrun
      exact hrun.beside (State.resetMailbox_within (.refl _ _) f (by decide))
    next => exact hword ▸ htime ▸ u.beginSequence_begun hf false
  simp only [State.startFlr, hon, hfree, Bool.false_eq_true, if_false, hu]
  exact hbegun.beside (State.Within.each (.refl _ _) _ fun _ _ k => State.emitTlp_within k _ _ (by decide))

/-- Where no transaction is open, a PF's context is reset and nothing is committed. -/
theorem State.resetContext_idle (hcommits : s.commits = []) (hidle : s.get TXN_STATUS.state h = 0) : s.resetContext h
    = s.each [RegKind.TXN_STATUS, .TXN_FAIL_ADDR, .TXN_FAIL_INFO, .TXN_OPEN_TIME, .TXN_STAGED, .TXN_PERSIST_SEQ] (fun s k => s.resetPlain k h) := by
  have hlive : s.txnLive h = false := by simp [State.txnLive, hidle]
  have hqueued : s.commits.filter (fun e => decide (5 ≤ e) && ctxOf e == h) = [] := by rw [hcommits]; rfl
  have hnone (t : State) (ht : t.commits = []) : t.nextCommits = t := by
    rw [State.nextCommits, State.runCommits, ht]
  have hplain : (s.each [RegKind.TXN_STATUS, .TXN_FAIL_ADDR, .TXN_FAIL_INFO, .TXN_OPEN_TIME, .TXN_STAGED, .TXN_PERSIST_SEQ]
      (fun s k => s.resetPlain k h)).commits = [] :=
    State.each_keeps (fun t => t.commits = []) hcommits _ fun t k ht => by rw [State.resetPlain, State.setWord_commits, ht]
  unfold State.resetContext
  rw [hqueued]
  change (if (if s.txnLive h = true then s.rollBack h 6 else s).get TXN_STATUS.state h = 3 then _ else _) = _
  simp only [hlive, Bool.false_eq_true, if_false, hidle, State.each, List.foldl_nil, List.isEmpty_nil, Bool.not_true, Bool.or_self] at hplain ⊢
  exact hnone _ hplain

/-- What the end of a PF's scope changes beyond its functions, where no transaction is open: neither the state of a function nor its times. -/
theorem State.endScope_idle (hcommits : s.commits = []) (hidle : s.get TXN_STATUS.state h = 0) :
    State.Within (besideMask [.FUNC_STATE, .FUNC_FLR_TIME] []) s (s.endScope h) := by
  refine State.endDoe_within (State.endHolds_within ?_ _ (by decide)) _ (by decide)
  rw [State.resetContext_idle hcommits hidle]
  exact State.resetPlain_within (State.resetPlain_within (State.resetPlain_within (State.resetPlain_within (State.resetPlain_within
    (State.resetPlain_within (.refl _ s) _ _ (by decide)) _ _ (by decide)) _ _ (by decide)) _ _ (by decide)) _ _ (by decide)) _ _ (by decide)

/-! ### What records a generation (R193) -/

section
variable {α : Type}

theorem Tbl.mem_erase {e : Nat × α} {k : Nat} {xs : Tbl α} (h : e ∈ Tbl.erase xs k) : e ∈ xs := by
  induction xs with
  | nil => exact h
  | cons x xs ih =>
    obtain ⟨j, v⟩ := x
    rw [Tbl.erase] at h
    split at h
    · exact List.mem_cons_of_mem _ (ih h)
    · rcases List.mem_cons.mp h with rfl | h
      · exact List.mem_cons_self
      · exact List.mem_cons_of_mem _ (ih h)

theorem Tbl.mem_insert {e : Nat × α} {k : Nat} {v : α} {xs : Tbl α} (h : e ∈ Tbl.insert xs k v) : e = (k, v) ∨ e ∈ xs := by
  induction xs with
  | nil => exact .inl (List.mem_singleton.mp h)
  | cons x xs ih =>
    obtain ⟨j, w⟩ := x
    rw [Tbl.insert] at h
    split_ifs at h
    · exact List.mem_cons.mp h
    · exact (List.mem_cons.mp h).imp id (List.mem_cons_of_mem _)
    · rcases List.mem_cons.mp h with rfl | h
      · exact .inr List.mem_cons_self
      · exact (ih h).imp id (List.mem_cons_of_mem _)

theorem Tbl.mem_set [DecidableEq α] {d : α} {e : Nat × α} {k : Nat} {v : α} {xs : Tbl α} (h : e ∈ Tbl.set d xs k v) :
    e = (k, v) ∨ e ∈ xs := by
  rw [Tbl.set] at h
  split at h
  · exact .inr (Tbl.mem_erase h)
  · exact Tbl.mem_insert h

/-- What a table reads is its default or in the table. -/
theorem Tbl.get_cases (d : α) (xs : Tbl α) (k : Nat) : Tbl.get d xs k = d ∨ (k, Tbl.get d xs k) ∈ xs := by
  induction xs with
  | nil => exact .inl rfl
  | cons x xs ih =>
    obtain ⟨j, w⟩ := x
    rw [Tbl.get]
    split
    next h => exact .inr (h ▸ List.mem_cons_self)
    next => exact ih.imp id (List.mem_cons_of_mem _)

end

/-- What holds of every port's entry holds of every port. -/
theorem State.host_of_hosts {P : HostDyn → Prop} (h0 : P HostDyn.reset) (hP : ∀ e ∈ s.hosts, P e.2) (h : Nat) : P (s.host h) := by
  rcases Tbl.get_cases HostDyn.reset s.hosts h with hd | hm
  · rw [State.host, hd]
    exact h0
  · exact hP _ hm

/-- What holds of every port's entry, CLKREQ_N apart, holds after a link has left L1. -/
theorem State.leaveL1_hosts {P : HostDyn → Prop} (h0 : P HostDyn.reset) (hclk : ∀ d c, P d → P { d with clkreq := c })
    (hP : ∀ e ∈ s.hosts, P e.2) (h : Nat) : ∀ e ∈ (s.leaveL1 h).hosts, P e.2 := by
  have hhosts (u : State) : (u.ungateHcr h).hosts = u.hosts :=
    (State.ungateHcr_within (.refl (besideMask [] [.hosts]) u) h (by decide)).areas .hosts (by decide)
  unfold State.leaveL1
  split
  · intro e he
    rcases Tbl.mem_set he with rfl | he
    · refine hclk _ _ (State.host_of_hosts h0 ?_ h)
      rw [hhosts, State.put_hosts, State.put_hosts]
      exact hP
    · rw [hhosts, State.put_hosts, State.put_hosts] at he
      exact hP e he
  · exact hP

/-- A named write of configuration space finds the same generations recorded. -/
theorem State.toConfig_genFree {mine : Nat → Bool} (h : s.genBlocked mine = false) (f : Nat) : (s.toConfig f).genBlocked mine = false := by
  have honly := s.toConfig_only f
  have howner (q : Nat) : (s.toConfig f).qOwner q = s.qOwner q := honly.get (F := Q_CFG.owner) (by decide) q
  have hnext (fn fgen : Nat) (q : Option Nat) (qgen : Nat) : (s.toConfig f).genNext mine fn fgen q qgen = s.genNext mine fn fgen q qgen := by
    simp only [State.genNext, howner, honly.get (F := FUNC_STATE.gen) (by decide), honly.get (F := Q_STATE.gen) (by decide)]
  simp only [State.genBlocked, hnext, Bool.or_eq_false_iff, List.any_eq_false] at h ⊢
  obtain ⟨hhosts, hports⟩ := h
  refine ⟨?_, fun e he => ?_⟩
  · have hwoken : (s.toConfig f).hosts = (s.leaveL1 (fnPort f)).hosts := (State.wakeRegion_only _ 34).areas .hosts (by decide)
    rw [hwoken]
    exact State.leaveL1_hosts (P := fun d => ¬ (d.tags.any
      (fun t => !t.2.held && s.genNext mine t.2.req.fn t.2.req.fgen t.2.req.q t.2.req.qgen)) = true) Bool.false_ne_true (fun _ _ h => h) hhosts _
  · rw [honly.areas .ports (by decide)] at he
    exact hports e he

/-- Initiate FLR, where the function is idle and no transaction is open. -/
theorem State.flr_begun (hf : f < 1024) (htxn : s.NoTxn) (hidle : s.get FUNC_STATE.flr_active f = 0)
    (hfree : s.genBlocked (fun g => g == f || (decide (f < 4) && fnPort g == f)) = false) :
    (s.flr f).FlrBegun f (s.word .FUNC_STATE f) s.devtime := by
  have hbegun := State.startFlr_begun hf hidle hfree
  have hstart : State.Within (besideMask [.TXN_STATUS] [.commits]) s (s.startFlr f) := State.startFlr_within (.refl _ s) f (by decide)
  unfold State.flr State.flrScope
  split
  next h =>
    obtain ⟨hpf, -⟩ := h
    refine hbegun.beside (State.endScope_idle ?_ ?_)
    · rw [hstart.areas .commits (by decide), htxn.1]
    · rw [hstart.get _ _ (by decide)]
      exact htxn.2 ⟨f, by omega⟩
  next => exact hbegun

/-! ### The end of the sequence (R194) -/

/-- A sequence of `f` that has ended at the time of `s`, the ports as they were. -/
structure State.FlrEnded (s : State) (f : Nat) (t : State) : Prop where
  idle : t.get FUNC_STATE.flr_active f = 0
  done : t.get FUNC_FLR_DONE.devtime f = s.devtime % 2 ^ 64
  hosts : t.hosts = s.hosts

theorem State.FlrEnded.beside {u : State} (k : s.FlrEnded f t) (w : State.Within (besideMask [.FUNC_STATE, .FUNC_FLR_DONE] [.hosts]) t u) :
    s.FlrEnded f u :=
  ⟨(w.get _ _ (by decide)).trans k.idle, (w.get _ _ (by decide)).trans k.done, (w.areas .hosts (by decide)).trans k.hosts⟩

/-- A sequence of which nothing is left, with nothing held in the mirror, ends. -/
theorem State.endSequence_ended (hf : f < 1024) (hactive : s.get FUNC_STATE.flr_active f = 1) (hnone : s.noTags f = true)
    (hvfs : s.vfsClearing (fnPort f) = false) (hbme : (s.func f).heldBme = false) (hvfe : (s.host (fnPort f)).vfePending = false) :
    s.FlrEnded f (s.endSequence f) := by
  have hon : s.on FUNC_STATE.flr_active f = true := by rw [State.on, hactive]; rfl
  have hpf : (decide (f < 4) && s.vfsClearing f) = false := by
    by_cases h4 : f < 4
    · rw [fnPort, if_pos h4] at hvfs
      simp [hvfs]
    · simp [h4]
  have hput : s.FlrEnded f ((s.put FUNC_STATE.flr_active f 0).put FUNC_FLR_DONE.devtime f s.devtime) :=
    ⟨by rw [State.get_put_kind (by decide), State.get_put_self hf (by decide), Nat.zero_mod],
      by rw [State.get_put_self hf (by decide)]; rfl, by rw [State.put_hosts, State.put_hosts]⟩
  have hmse {t : State} (k : s.FlrEnded f t) (c : Bool) : s.FlrEnded f (if c then t.flag FUNC_STATE.mse f true else t) := by
    split
    · exact ⟨by rw [State.get_flag_beside (F := FUNC_STATE.mse) (G := FUNC_STATE.flr_active) rfl (by decide), k.idle],
        by rw [State.get_flag_kind (by decide), k.done], by rw [State.flag_hosts, k.hosts]⟩
    · exact k
  have hlast {t : State} (k : s.FlrEnded f t) : s.FlrEnded f
      (if 4 ≤ f ∧ (t.host (fnPort f)).vfePending = true ∧ (!t.vfsClearing (fnPort f)) = true then t.setVfe (fnPort f) else t) := by
    have hpending : (t.host (fnPort f)).vfePending = false := by
      rw [State.host, k.hosts]
      exact hvfe
    rw [hpending, if_neg (fun hset => Bool.false_ne_true hset.2.1)]
    exact k
  have hqueues {t : State} (k : s.FlrEnded f t) (qs : List Nat) : s.FlrEnded f
      (t.each qs (fun s q => if s.get Q_STATE.state q = 8 then s.put Q_STATE.state q 0 else s)) :=
    k.beside (State.Within.each (.refl _ t) _ fun _ _ w => .ite (State.put_within w _ _ _ (by decide)) w)
  simp only [State.endSequence, hon, hnone, hpf, hbme, Bool.not_true, Bool.or_self, Bool.false_eq_true, if_false]
  generalize (s.put FUNC_STATE.flr_active f 0).put FUNC_FLR_DONE.devtime f s.devtime = t at hput ⊢
  refine hlast (State.FlrEnded.beside ?_ (State.Within.each (.refl _ _) _ fun _ _ w => State.emitTlp_within w _ _ (by decide)))
  exact hmse (hqueues (hput.beside (State.modFunc_within (.refl _ t) _ _ (by decide))) _) _

/-! ### A tag that is abandoned (R147, R194) -/

/-- A held tag is marked, and its release is due. -/
theorem State.holdHostTag_held (s : State) {tag : Nat} {x : HTag} (hx : find1 tag (s.host h).tags = some x) :
    (∃ y, find1 tag ((s.holdHostTag h tag).host h).tags = some y ∧ y.held = true) ∧ (s.holdHostTag h tag).armed (.tagRelease h tag) = true := by
  rw [State.holdHostTag, hx]
  refine ⟨⟨{ x with held := true }, ?_, rfl⟩, ?_⟩
  · dsimp only
    rw [State.arm_host, State.modHost_host_self, find1_put1_self]
  · rw [State.armed, State.arm_due_self]
    rfl

theorem State.holdHostTag_funcs (s : State) (h tag : Nat) : (s.holdHostTag h tag).funcs = s.funcs :=
  (State.holdHostTag_within (.refl (besideMask [] [.funcs]) s) h tag (by decide)).areas .funcs (by decide)

theorem State.holdHostTag_vfcHeld (s : State) (h tag g : Nat) : ((s.holdHostTag h tag).host g).vfcHeld = (s.host g).vfcHeld := by
  unfold State.holdHostTag
  split
  · rfl
  next x hx =>
    by_cases hg : g = h
    · subst hg
      rw [State.arm_host, State.modHost_host_self, State.disarm_host, State.disarm_host]
    · rw [State.arm_host, State.modHost_host_other _ _ hg, State.disarm_host, State.disarm_host]

/-- An abandoned tag is held; a request that is none of an engine's leaves nothing else to do. -/
theorem State.abandonTag_held {tag : Nat} {x : HTag} (hx : find1 tag (s.host h).tags = some x) (hopen : x.held = false)
    (hpurpose : ∀ e pos, x.req.purpose ≠ .engine e pos) : s.abandonTag h tag = s.holdHostTag h tag := by
  have hstale (t : State) : t.hostStale x.req = t := by
    unfold State.hostStale
    split
    next e pos hp => exact absurd hp (hpurpose e pos)
    next => rfl
  rw [State.abandonTag, hx]
  simp only [hopen, Bool.false_eq_true, if_false]
  exact hstale _

/-- Where nothing waits for a generation, nothing starts. -/
theorem State.retryHeld_idle (hflr : ∀ e ∈ s.funcs, e.2.heldFlr = false) (hvfc : ∀ h, (s.host h).vfcHeld = false) : s.retryHeld = s := by
  have hnone : (s.funcs.filter (fun e => e.2.heldFlr)).map (fun e => e.1) = [] := by
    rw [List.map_eq_nil_iff, List.filter_eq_nil_iff]
    exact fun e he => by rw [hflr e he]; decide
  rw [State.retryHeld, hnone]
  refine State.each_keeps (· = s) rfl _ fun t h ht => ?_
  rw [ht, hvfc h]
  rfl

end
end Sys2Proof.Machine
end


/-! VF Enable: the VFs that exist once it is set, and that none does once it is cleared, whose reset keeps the PF's own configuration space
(R174, R190, R194). -/

section
namespace Sys2Proof.Machine

section
variable {s t : State} {f g h : Nat}

/-! ### The functions of a port -/

theorem fnPort_vfIndex {n : Nat} (h1 : 1 ≤ n) (hn : n ≤ 255) : fnPort (vfIndex h n) = h := by
  unfold fnPort vfIndex
  split <;> omega

theorem fnVf_vfIndex {n : Nat} (h1 : 1 ≤ n) (hn : n ≤ 255) : fnVf (vfIndex h n) = n := by
  unfold fnVf vfIndex
  split <;> omega

/-- A VF exists while VF Enable is set and NumVFs reaches it. -/
theorem State.existsFn_vfIndex (s : State) {n : Nat} (h1 : 1 ≤ n) (hn : n ≤ 255) :
    s.existsFn (vfIndex h n) = (s.vfEnable h && decide (n ≤ s.numVfs h)) := by
  have hvf : ¬ vfIndex h n < 4 := by
    rw [vfIndex]
    omega
  rw [State.existsFn, fnPort_vfIndex h1 hn, fnVf_vfIndex h1 hn, decide_eq_false hvf, Bool.false_or]

/-! ### VF Enable is set (R174) -/

/-- With no sequence in progress, VF Enable takes effect; NumVFs stays. -/
theorem State.setVfe_enabled (hc : s.compat = false) (hoff : s.vfEnable h = false) (hclear : s.vfsClearing h = false)
    (hheld : (s.host h).vfcHeld = false) : (s.setVfe h).vfEnable h = true ∧ (s.setVfe h).numVfs h = s.numVfs h := by
  generalize hu : (s.cfgPut h 0x184 0 1 1).modHost h (fun d => { d with vfePending := false }) = u
  have hset : s.setVfe h = ((u.fillSlots (fun f => fnPort f == h)).followVfMse h).payVfe h := by
    simp only [State.setVfe, hc, hclear, hheld, hoff, Bool.false_and, Bool.or_self, Bool.false_eq_true, if_false, hu]
  have hrest : State.Within (besideMask [.GLOBAL_STATUS] [.cfg]) u (s.setVfe h) := by
    rw [hset]
    exact State.payVfe_within (State.followVfMse_within (State.fillSlots_within (.refl _ u) _ (by decide)) h (by decide)) h (by decide)
  have hcfg : (s.setVfe h).cfg = (s.cfgPut h 0x184 0 1 1).cfg := (hrest.areas .cfg (by decide)).trans (hu ▸ rfl)
  have hbit : (s.setVfe h).cfgBit h 0x184 0 = true := by
    rw [State.cfgBit, State.cfgWord, hcfg]
    exact s.cfgPut_one_cfgBit h 0x184 (by decide)
  have hcompat : (s.setVfe h).compat = false := by
    rw [State.compat, hrest.on _ _ (by decide), ← hu]
    exact hc
  constructor
  · rw [State.vfEnable, hbit, hcompat]
    rfl
  · rw [State.numVfs, State.cfgGet, State.cfgWord, hcfg]
    exact congrArg (fun w : Dword => (w.extractLsb' 0 16).toNat) (s.cfgPut_cfgWord_other (cfgKey_ne (.inl (by decide)) (by decide) (by decide)))

/-- While a sequence runs, a set of VF Enable is held in the mirror. -/
theorem State.setVfe_held (hc : s.compat = false) (hrun : s.vfsClearing h = true ∨ (s.host h).vfcHeld = true) :
    ((s.setVfe h).host h).vfePending = true := by
  have hbusy : (s.vfsClearing h || (s.host h).vfcHeld) = true := by simpa using hrun
  simp only [State.setVfe, hc, Bool.false_and, Bool.false_eq_true, if_false, hbusy, if_true]
  rw [State.modHost_host_self]

/-! ### What the reset of a function leaves of another's configuration space (R34, R195) -/

/-- A dword of configuration space lasts, but the Status register. -/
theorem State.cfgWord_lasting (h : Nat) {o : Nat} (ho : o / 4 ≠ 1) (hlt : o < 4096) (w : Dword) : Lasting (fun s => s.cfgWord h o = w) where
  beside := fun k u => (congrArg (fun c => Tbl.get _ c _) (u.areas .cfg (by decide))).trans k
  modHost := fun _ _ k _ => k
  onStream := fun j st k =>
    (congrArg (fun c => Tbl.get _ c _) ((State.onStream_within (.refl (besideMask [] [.cfg]) _) j st (by decide)).areas .cfg (by decide))).trans k
  parityError := fun f k => (State.cfgPut_cfgWord_other _ (cfgKey_ne (.inl ho) hlt (by decide))).trans k

/-- What leaves configuration space leaves its dwords. -/
theorem State.Within.cfgWord (u : State.Within (besideMask [] [.cfg]) s t) (f o : Nat) : t.cfgWord f o = s.cfgWord f o :=
  congrArg (fun c => Tbl.get _ c _) (u.areas .cfg (by decide))

theorem State.clearPegs_cfgWord (s : State) (f : Nat) {o : Nat} (ho : o / 4 ≠ 0xE4 / 4) (hlt : o < 4096) :
    (s.clearPegs f).cfgWord h o = s.cfgWord h o := by
  have hint : (s.clearInterrupts f).cfgWord h o = s.cfgWord h o := by
    have hmine (t : State) (xs : List (Nat × PegDyn)) :
        (t.each xs (fun s x => s.modPeg x.1 (fun d => { PegDyn.reset with bad := d.bad }))).cfgWord h o = t.cfgWord h o :=
      State.each_keeps (fun u => u.cfgWord h o = t.cfgWord h o) rfl _ fun u x k => k
    unfold State.clearInterrupts
    dsimp only
    split
    · rw [State.cfgPut_cfgWord_other _ (cfgKey_ne (.inl ho) hlt (by decide))]
      exact hmine s _
    · exact hmine s _
  refine Eq.trans ?_ hint
  exact State.each_keeps (fun u => u.cfgWord h o = (s.clearInterrupts f).cfgWord h o) rfl _ fun u i k =>
    (State.Within.cfgWord (State.resetPlain_within (.refl _ u) _ _ (by decide)) h o).trans k

/-- The configuration space of one function is reset, another's is not. -/
theorem State.resetCfg_cfgWord (s : State) (hf : f ≠ h) {o : Nat} (hlt : o < 4096) : (s.resetCfg f).cfgWord h o = s.cfgWord h o := by
  refine State.each_keepsMem (P := fun u => u.cfgWord h o = s.cfgWord h o) rfl fun u k dw hdw => ?_
  obtain ⟨e, -, rfl⟩ := List.mem_map.mp hdw
  exact (u.setCfg_cfgWord_other _ (cfgKey_ne (.inr (Ne.symm hf)) hlt (by omega))).trans k

section
variable {o : Nat}

theorem State.clearState_cfgWord (s : State) (hf : f ≠ h) (ho : o / 4 ≠ 0xE4 / 4) (hlt : o < 4096) :
    (s.clearState f).cfgWord h o = s.cfgWord h o := by
  have hqueues : State.Within (besideMask [] [.cfg]) s ((s.raiseFnGen f).each (s.queuesOf f) State.clearQueue) :=
    State.Within.each (State.raiseFnGen_within (.refl _ s) f (by decide)) _ fun _ q k => State.clearQueue_within k q (by decide)
  have hstate : State.Within (besideMask [] [.cfg]) (s.fnEmptied f) (s.clearState f) := by
    rw [State.clearState_eq]
    exact State.modFunc_within (State.flag_within (State.resetPlain_within (.refl _ _) _ _ (by decide)) _ _ _ (by decide)) _ _ (by decide)
  rw [hstate.cfgWord, State.fnEmptied, State.resetCfg_cfgWord _ hf hlt, State.clearPegs_cfgWord _ _ ho hlt, hqueues.cfgWord]

theorem State.clearFunction_cfgWord (s : State) (hf : f ≠ h) (h1 : o / 4 ≠ 1) (ho : o / 4 ≠ 0xE4 / 4) (hlt : o < 4096) :
    (s.clearFunction f).cfgWord h o = s.cfgWord h o := by
  have hbefore : State.Within (besideMask [] [.cfg]) s ((s.endReads f).refusePosts (fnPort f) (fun g => g == f)) :=
    State.refusePosts_within (State.endReads_within (.refl _ s) f (by decide)) _ _ (by decide)
  have hlast := State.cfgWord_lasting h h1 hlt (s.cfgWord h o)
  have hcleared := (State.clearState_cfgWord _ hf ho hlt).trans (hbefore.cfgWord h o)
  exact hlast.drainWrites (hlast.modHost (fnPort f) (g := fun d => { d with waiting := d.waiting.filter (fun r => r.fn != f) }) hcleared
    fun _ => rfl) (fnPort f)

theorem State.endDevices_cfgWord (s : State) (f : Nat) (h1 : o / 4 ≠ 1) (hlt : o < 4096) : (s.endDevices f).cfgWord h o = s.cfgWord h o := by
  have hlast := State.cfgWord_lasting h h1 hlt (s.cfgWord h o)
  refine State.each_keeps (fun u => u.cfgWord h o = s.cfgWord h o) rfl _ fun u p k => ?_
  dsimp only
  split
  · exact hlast.answerDevices (hlast.modPort k p _) p
  · exact k

theorem State.beginSequence_cfgWord (s : State) (hf : f ≠ h) (vanish : Bool) (h1 : o / 4 ≠ 1) (ho : o / 4 ≠ 0xE4 / 4) (hlt : o < 4096) :
    (s.beginSequence f vanish).cfgWord h o = s.cfgWord h o := by
  have hbefore : State.Within (besideMask [] [.cfg]) s ((s.put FUNC_STATE.flr_active f 1).put FUNC_FLR_TIME.devtime f s.devtime) :=
    State.put_within (State.put_within (.refl _ s) _ _ _ (by decide)) _ _ _ (by decide)
  have hafter (u : State) (ts : List Nat) : State.Within (besideMask [] [.cfg]) u
      ((u.modFunc f (fun d => { d with clearing := vanish })).each ts (fun s t => s.arm (.flrTag (fnPort f) t) 50000000)) :=
    State.Within.each (State.modFunc_within (.refl _ u) _ _ (by decide)) _ fun _ _ k => State.arm_within k _ _ (by decide)
  exact ((hafter _ _).cfgWord h o).trans ((State.endDevices_cfgWord _ f h1 hlt).trans
    ((State.clearFunction_cfgWord _ hf h1 ho hlt).trans (hbefore.cfgWord h o)))

end

/-! ### VF Enable is cleared (R174) -/

/-- The sequences of the VFs begin with VF Enable cleared, which they leave so. -/
theorem State.dropVfs_vfEnable (s : State) (hh : h < 4) : (s.dropVfs h).cfgBit h 0x184 0 = false := by
  have hne {v : Nat} (hv : v ∈ vfNumbers h) : v ≠ h := by
    have := vfNumbers_ge hv
    omega
  have hword : (s.dropVfs h).cfgWord h 0x184 = (s.cfgPut h 0x184 0 1 0).cfgWord h 0x184 := by
    refine State.each_keepsMem (P := fun t => t.cfgWord h 0x184 = (s.cfgPut h 0x184 0 1 0).cfgWord h 0x184) ?_ fun t k v hv => ?_
    · refine State.each_keepsMem (P := fun t => t.cfgWord h 0x184 = (s.cfgPut h 0x184 0 1 0).cfgWord h 0x184) rfl fun t k v hv => ?_
      exact (t.beginSequence_cfgWord (hne (List.mem_of_mem_filter hv)) true (by decide) (by decide) (by decide)).trans k
    · exact (t.clearState_cfgWord (hne (List.mem_of_mem_filter hv)) (by decide) (by decide)).trans k
  have hcleared := s.cfgPut_cfgBit h 0x184 0 1 0 (i := 0) (by decide)
  rw [State.cfgBit, hword]
  exact hcleared

/-- A write of 0 that nothing holds back clears VF Enable. -/
theorem State.writeVfe_cleared (hh : h < 4) (hon : s.vfEnable h = true) (hpending : (s.host h).vfePending = false)
    (hfree : s.genBlocked (fun f => fnPort f == h) = false) : (s.writeVfe h (s.cfgBit h 0x184 0) false).vfEnable h = false := by
  have hbit : s.cfgBit h 0x184 0 = true := by
    rw [State.vfEnable, Bool.and_eq_true] at hon
    exact hon.1
  have hclear : s.writeVfe h (s.cfgBit h 0x184 0) false = s.clearVfe h := by
    simp [State.writeVfe, hbit, hpending]
  have hrest (u : State) (qs : List Nat) : State.Within (besideMask [] [.cfg]) u
      (((((u.raiseFnGen h).each qs State.raiseQGen)).modHost h (fun d => { d with vfcHeld := false })).payVfe h) :=
    State.payVfe_within (State.modHost_within (State.Within.each (State.raiseFnGen_within (.refl _ u) h (by decide)) _
      fun _ q k => State.raiseQGen_within k q (by decide)) _ _ (by decide)) h (by decide)
  rw [hclear]
  simp only [State.clearVfe, hon, hfree, if_true, Bool.false_eq_true, if_false]
  rw [State.vfEnable, State.cfgBit, (hrest _ _).cfgWord, ← State.cfgBit, s.dropVfs_vfEnable hh]
  rfl

end

/-- Settles O35: what the beginning and the end of a sequence leave in FUNC_STATE, and VF Enable through the resets of its VFs. -/
theorem functionResets : Obligations.FunctionResets := by
  unfold Obligations.FunctionResets
  intro s f h
  have honly (g : Nat) := s.toConfig_only g
  have hvfs : (s.toConfig h).vfsClearing h = s.vfsClearing h := by
    rw [State.vfsClearing, (honly h).areas .funcs (by decide)]
    rfl
  have hcompat : (s.toConfig h).compat = s.compat := by
    rw [State.compat, State.on, (honly h).get (by decide)]
    rfl
  have henable : (s.toConfig h).vfEnable h = s.vfEnable h := by
    rw [State.vfEnable, State.cfgBit, State.cfgWord, s.toConfig_cfg, hcompat]
    rfl
  obtain ⟨c, hhost⟩ : ∃ c, (s.toConfig h).host h = { s.host h with clkreq := c } := by
    obtain ⟨c, hc⟩ := s.leaveL1_host (fnPort h)
    rw [fnPort, if_pos h.isLt] at hc
    refine ⟨c, ((State.wakeRegion_only _ 34).host (by decide) h).trans ?_⟩
    rw [fnPort, if_pos h.isLt]
    exact hc
  refine ⟨?begin, ?finish, ?abandon, ?set, ?held, ?clear⟩
  case begin =>
    intro hreach hidle hfree htxn
    have hbegun := State.flr_begun (s := s.toConfig f) f.isLt ⟨?commits, ?contexts⟩ (((honly f).get (by decide) f).trans hidle)
      (State.toConfig_genFree hfree f)
    case commits => exact ((honly f).areas .commits (by decide)).trans htxn.1
    case contexts => exact fun c => ((honly f).get (by decide) c).trans (htxn.2 c)
    rw [(honly f).words _ (by decide), ((honly f).areas .devtime (by decide)).1] at hbegun
    refine ⟨_, rfl, ?_⟩
    rw [State.byConfig_reached hreach]
    exact ⟨hbegun.active, hbegun.gen, hbegun.bme, hbegun.mse, hbegun.time⟩
  case finish =>
    intro hactive hnone hvfs hbme hvfe
    have hended := State.endSequence_ended f.isLt hactive hnone hvfs hbme hvfe
    exact ⟨_, rfl, hended.idle, hended.done⟩
  case abandon =>
    intro tag x hfires hx hopen hpurpose hwaits
    obtain ⟨hflr, hvfc⟩ := hwaits
    have hpast : State.Only [] passing s (s.expire (.flrTag h tag)) := (State.expire_within (.refl _ s) _ (by decide)).only
    have hx' : find1 tag ((s.expire (.flrTag h tag)).host h).tags = some x := by rwa [hpast.host (by decide)]
    have hidle : ((s.expire (.flrTag h tag)).holdHostTag h tag).retryHeld = (s.expire (.flrTag h tag)).holdHostTag h tag := by
      refine State.retryHeld_idle ?_ fun g => ?_
      · rw [State.holdHostTag_funcs, hpast.areas .funcs (by decide)]
        exact hflr
      · rw [State.holdHostTag_vfcHeld, hpast.host (by decide)]
        exact State.host_of_hosts (P := fun d => d.vfcHeld = false) rfl hvfc g
    refine ⟨_, rfl, ?_⟩
    rw [State.onExpiry_fires hfires, State.abandonTag_held hx' hopen hpurpose, hidle]
    exact State.holdHostTag_held _ hx'
  case set =>
    intro hreach hc hoff hrun hheld
    obtain ⟨hset, hnum⟩ := State.setVfe_enabled (hcompat.trans hc) (henable.trans hoff) (hvfs.trans hrun) (by rw [hhost]; exact hheld)
    refine ⟨_, rfl, fun n h1 hn h255 => ?_⟩
    have hnow : (s.toConfig h).numVfs h = s.numVfs h := by
      rw [State.numVfs, State.cfgGet, State.cfgWord, s.toConfig_cfg]
      rfl
    rw [State.byConfig_reached hreach, State.existsFn_vfIndex _ h1 h255, hset, hnum, hnow, decide_eq_true hn]
    rfl
  case held =>
    intro hreach hc hrun
    have hpending := State.setVfe_held (hcompat.trans hc) (h := h) (by rw [hvfs, hhost]; exact hrun)
    refine ⟨_, rfl, ?_⟩
    rw [State.byConfig_reached hreach]
    exact hpending
  case clear =>
    intro hreach hon hpending hfree
    have hcleared := State.writeVfe_cleared h.isLt (henable.trans hon) (by rw [hhost]; exact hpending) (State.toConfig_genFree hfree h)
    refine ⟨_, rfl, fun n h1 h255 => ?_⟩
    rw [State.byConfig_reached hreach, State.existsFn_vfIndex _ h1 h255, hcleared, Bool.false_and]

end Sys2Proof.Machine
end

/-! Transfer engines: the grant that starts a descriptor, the limiter's release, the end of a drain, faults of a group, the reserve of a BAR4
read and the Ledger scrubber (R222, R254 to R258, R262, R269, R271, R272, R288). -/

section
namespace Sys2Proof.Machine

section
variable {s t : State} {ks : List RegKind} {ps : List Area}

/-! ### Frames -/

theorem State.Only.eng (h : State.Only ks ps s t) (he : .engines ∉ ps) (e : Nat) : t.eng e = s.eng e :=
  congrArg (Tbl.get EngDyn.reset · e) (h.areas _ he)

theorem State.Only.queue (h : State.Only ks ps s t) (hq : .queues ∉ ps) (q : Nat) : t.queue q = s.queue q :=
  congrArg (Tbl.get QDyn.reset · q) (h.areas _ hq)

theorem State.Only.isUp (h : State.Only ks ps s t) (hp : .phase ∉ ps) : t.isUp = s.isUp :=
  congrArg (fun p => decide (p = Phase.up)) (h.areas _ hp)

end

/-! ### A request that waits at the tag arbiter (R286) -/

/-- Request `r`, which is no posted write, waits at the tag arbiter of host port `h`. -/
structure State.Asked (h : Nat) (r : HReq) (s : State) : Prop where
  waits : r ∈ (s.host h).waiting
  unposted : r.posted = false

section
variable {s t : State} {h : Nat} {r : HReq}

theorem State.Asked.beside (k : s.Asked h r) (w : State.Within (besideMask [] [.hosts]) s t) : t.Asked h r := by
  have hhost : t.host h = s.host h := congrArg (Tbl.get HostDyn.reset · h) (w.areas .hosts (by decide))
  exact ⟨hhost ▸ k.waits, k.unposted⟩

/-- An update of a host port that keeps what is no posted write. -/
theorem State.Asked.modHost (k : s.Asked h r) (j : Nat) {g : HostDyn → HostDyn} (hw : ∀ d, r ∈ d.waiting → r ∈ (g d).waiting) :
    (s.modHost j g).Asked h r := by
  refine ⟨?_, k.unposted⟩
  by_cases hj : h = j
  · subst hj
    rw [State.modHost_host_self]
    exact hw _ k.waits
  · rw [State.modHost_host_other _ _ hj]
    exact k.waits

theorem State.Asked.setIde (k : s.Asked h r) (j i : Nat) (x : IdeStream) : (s.setIde j i x).Asked h r := k.modHost j fun _ hr => hr

theorem State.Asked.onStream (k : s.Asked h r) (j : Nat) (st : Option Nat) : (s.onStream j st).Asked h r := by
  unfold State.onStream
  split
  · dsimp only
    split
    · exact (k.setIde j _ _).beside (State.judgeKeys_within (.refl _ _) j (by decide))
    · exact k
  · exact k

theorem State.Asked.leaveL1 (k : s.Asked h r) (j : Nat) : (s.leaveL1 j).Asked h r := by
  unfold State.leaveL1
  split
  · refine State.Asked.modHost (k.beside ?_) j fun _ hr => hr
    exact State.ungateHcr_within (State.put_within (State.put_within (.refl _ _) _ _ _ (by decide)) _ _ _ (by decide)) j (by decide)
  · exact k

theorem State.Asked.presented (k : s.Asked h r) (f : Nat) (bad : Bool) (st : Option Nat) :
    (((s.noteBad f bad).leaveL1 (fnPort f)).onStream (fnPort f) st).Asked h r :=
  ((k.beside (State.noteBad_within (.refl _ s) f bad (by decide))).leaveL1 _).onStream _ _

theorem State.Asked.emitTlp (k : s.Asked h r) (f : Nat) (o : Output) : (s.emitTlp f o).Asked h r :=
  k.beside (State.emitTlp_within (.refl _ s) f o (by decide))

theorem State.Asked.hostWrite (k : s.Asked h r) (f : Nat) (pasid : Option Nat) (addr : Nat) (data : List Byte) (bad : Bool) :
    (s.hostWrite f pasid addr data bad).Asked h r := by
  unfold State.hostWrite
  dsimp only
  split
  · exact k
  · exact State.each_keeps (State.Asked h r) (k.presented f bad _) _ fun _ _ k => k.emitTlp _ _

theorem State.Asked.hostWriteSparse (k : s.Asked h r) (f : Nat) (pasid : Option Nat) (addr be : Nat) (data : List Byte) (bad : Bool) :
    (s.hostWriteSparse f pasid addr be data bad).Asked h r := by
  unfold State.hostWriteSparse
  dsimp only
  split
  · exact k
  · exact (k.presented f bad _).emitTlp _ _

theorem State.Asked.sendPost (k : s.Asked h r) (x : HReq) : (s.sendPost x).Asked h r := by
  unfold State.sendPost
  split
  next data _ bad _ =>
    extract_lets sent
    have hsent : sent.Asked h r := by
      unfold sent
      split
      · exact k.hostWriteSparse ..
      · exact k.hostWrite ..
    split
    · exact hsent.beside (State.missAt_within (.refl _ sent) _ _ _ _ _ _ (by decide))
    · exact hsent
  · exact k

/-- Posted writes that go on leave what is none. -/
theorem State.Asked.drainPosts (j n : Nat) (k : s.Asked h r) : (s.drainPosts j n).Asked h r := by
  induction n generalizing s with
  | zero => exact k
  | succ n ih =>
    unfold State.drainPosts
    split
    · exact k
    next x hfind =>
      have hposted : x.posted = true := (Bool.and_eq_true _ _ ▸ List.find?_some hfind :).1
      have hne : r ≠ x := fun e => by simp [← e, k.unposted] at hposted
      exact ih (State.Asked.sendPost (k.modHost j fun d hr => (List.mem_erase_of_ne hne).mpr hr) _)

end

/-- A request for data that joins the tag arbiter waits there. -/
theorem State.askHost_asked (s : State) {r : HReq} (hr : r.posted = false) : (s.askHost r).Asked (fnPort r.fn) r := by
  refine State.Asked.drainPosts _ _ ⟨?_, hr⟩
  rw [State.modHost_host_self]
  exact List.mem_append_right _ List.mem_cons_self

/-! ### A grant (R254) -/

section
variable {s t : State} {g e q : Nat} {d : Prefetched} {ds : List Prefetched} {c : Current}

/-- A region that is woken changes no candidate of an engine arbiter. -/
theorem State.wakeRegion_engineCands (s : State) (r g : Nat) : (s.wakeRegion r).engineCands g = s.engineCands g := by
  have honly := s.wakeRegion_only r
  have hqueues : (s.wakeRegion r).queues = s.queues := honly.areas .queues (by decide)
  have hengineOf (q : Nat) : (s.wakeRegion r).engineOf q = s.engineOf q := by rw [State.engineOf, honly.areas .engines (by decide), ← State.engineOf]
  have hfree (q : Nat) : (s.wakeRegion r).queueFree q = s.queueFree q := by
    have hdamaged : (s.wakeRegion r).damaged = s.damaged := honly.areas .damaged (by decide)
    simp only [State.queueFree, State.master, State.fnHeld, State.hurt, State.on, State.qOwner, hdamaged, honly.queue (by decide),
      honly.get (F := Q_CFG.owner) (by decide), honly.get (F := Q_STATE.state) (by decide), honly.get (F := FUNC_STATE.bme) (by decide),
      honly.get (F := FUNC_STATE.d3hot) (by decide), honly.get (F := FUNC_STATE.flr_active) (by decide)]
  have hready (q : Nat) : (s.wakeRegion r).readyHead q = s.readyHead q := by
    unfold State.readyHead
    rw [hfree, honly.queue (by decide)]
  simp only [State.engineCands, hqueues, hengineOf, hready, honly.get (F := Q_CFG.eg) (by decide)]

theorem State.region_group (s : State) (hg : g < 6) : s.region (24 + g) = s.egState g := by
  rw [State.region, if_neg (by omega), if_pos (by omega), Nat.add_sub_cancel_left]

/-- A group that runs does so still as it is woken. -/
theorem State.wakeRegion_groupRunning (hg : g < 6) (h : s.groupRunning g = true) : (s.wakeRegion (24 + g)).groupRunning g = true := by
  have honly := s.wakeRegion_only (24 + g)
  simp only [State.groupRunning, Bool.and_eq_true, decide_eq_true_eq] at h ⊢
  obtain ⟨⟨hup, hcode⟩, hon⟩ := h
  refine ⟨⟨(honly.isUp (by decide)).trans hup, ?_⟩, ?_⟩
  · rw [← State.region_group _ hg]
    exact (s.wakeRegion_region_le ..).trans (s.region_group hg ▸ hcode)
  · simpa only [honly.eng (by decide)] using hon

/-- The sole candidate of a group that runs is bound to the lowest idle engine. -/
theorem State.engineGrant_single (hg : g < 6) (hrun : s.groupRunning g = true) (hidle : s.idleEngine g = some e)
    (hcands : s.engineCands g = [(q, d)]) :
    s.engineGrant g = ((s.wakeRegion (24 + g)).servedAt (pointEngine g) q).bindEngine e q := by
  have hup : s.isUp = true := by
    simp only [State.groupRunning, Bool.and_eq_true] at hrun
    exact hrun.1.1
  have hidle' : (s.wakeRegion (24 + g)).idleEngine g = some e := by
    simpa only [State.idleEngine, (s.wakeRegion_only (24 + g)).eng (by decide)] using hidle
  have hcands' := (s.wakeRegion_engineCands (24 + g) g).trans hcands
  simp only [State.engineGrant, hup, hcands, List.isEmpty_cons, Bool.not_false, Bool.and_self, if_true, State.wakeRegion_groupRunning hg hrun,
    Bool.not_true, Bool.false_eq_true, if_false, hidle', hcands', List.map_cons, List.map_nil, State.arbitrate_single]

/-- Engine `e` is about to run the first piece of descriptor `d` of queue `q` of function `f`, as its registers show; else it is as from reset. -/
structure State.Begun (e q f : Nat) (d : Prefetched) (t : State) : Prop where
  idle : ∃ boundAt, t.eng e = { EngDyn.reset with q := some q, boundAt := boundAt }
  current : ∃ key, (t.queue q).cur = some (startCurrent d none key)
  queueState : t.get Q_STATE.state q = 3
  state : t.get TE_STATUS.state e = 1
  channel : t.get TE_STATUS.channel e = q
  function : t.get TE_STATUS.function_ e = f

theorem restartAt_plain {ws : List Word} (h : convOf ws = 0) (x : Nat) : restartAt ws x = x := if_pos (.inl h)

theorem srcStart_plain {ws : List Word} (h : convOf ws = 0) (x : Nat) : srcStart ws x = x := if_pos h

theorem srcNeeded_plain {ws : List Word} (h : convOf ws = 0) (x : Nat) : srcNeeded ws x = x := if_pos h

/-- TE_STATUS shows engine `e` bound to queue `q` of function `f`, on descriptor index `i`. -/
def State.showBound (s : State) (e q f i : Nat) : State :=
  (((s.put TE_STATUS.state e 1).put TE_STATUS.channel e q).put TE_STATUS.function_ e f).put TE_STATUS.desc_index e i

theorem State.showBound_within {m : Nat} {s₀ : State} (h : State.Within m s₀ s) (e q f i : Nat) (hm : RegKind.TE_STATUS.bit ||| m = m) :
    State.Within m s₀ (s.showBound e q f i) :=
  State.put_within (State.put_within (State.put_within (State.put_within h _ _ _ hm) _ _ _ hm) _ _ _ hm) _ _ _ hm

theorem State.showBound_state (s : State) (q f i : Nat) (he : e < 48) : (s.showBound e q f i).get TE_STATUS.state e = 1 := by
  rw [State.showBound, State.get_put_beside (F := TE_STATUS.desc_index) (G := TE_STATUS.state) rfl (by decide),
    State.get_put_beside (F := TE_STATUS.function_) (G := TE_STATUS.state) rfl (by decide),
    State.get_put_beside (F := TE_STATUS.channel) (G := TE_STATUS.state) rfl (by decide), State.get_put_self he (by decide)]
  rfl

theorem State.showBound_channel (s : State) (f i : Nat) (he : e < 48) (hq : q < 4096) :
    (s.showBound e q f i).get TE_STATUS.channel e = q := by
  rw [State.showBound, State.get_put_beside (F := TE_STATUS.desc_index) (G := TE_STATUS.channel) rfl (by decide),
    State.get_put_beside (F := TE_STATUS.function_) (G := TE_STATUS.channel) rfl (by decide), State.get_put_self he (by decide)]
  exact Nat.mod_eq_of_lt hq

theorem State.showBound_function (s : State) (q i : Nat) {f : Nat} (he : e < 48) (hf : f < 1024) :
    (s.showBound e q f i).get TE_STATUS.function_ e = f := by
  rw [State.showBound, State.get_put_beside (F := TE_STATUS.desc_index) (G := TE_STATUS.function_) rfl (by decide),
    State.get_put_self he (by decide)]
  exact Nat.mod_eq_of_lt hf

/-- An engine that is bound to a queue runs its head descriptor from the beginning. -/
theorem State.bindEngine_begun (he : e < 48) (hq : q < 4096) (hconv : convOf d.words = 0) (hcur : (s.queue q).cur = none)
    (hpref : (s.queue q).pref = d :: ds) : ∃ t, s.bindEngine e q = t.runEngine e ∧ t.Begun e q (s.qOwner q) d ∧
      State.Only [.Q_STATE, .TE_STATUS, .TE_PROGRESS] [.queues, .engines] s t := by
  have howner : s.qOwner q < 1024 := getBits_lt ..
  have hpiece {u : State} {c : Current} : State.Only [.TE_PROGRESS] [.queues, .engines] u (u.beginPiece e q c) :=
    (State.beginPiece_within (.refl _ u) e q c (by decide)).only
  have hshown (u : State) (i : Nat) : State.Only [.TE_STATUS] [] u (u.showBound e q (s.qOwner q) i) :=
    (State.showBound_within (.refl _ u) _ _ _ _ (by decide)).only
  simp only [State.bindEngine, hcur, hpref, State.modQueue_queue_self]
  refine ⟨_, rfl, ⟨⟨s.clock, ?_⟩, ⟨s.implicitKey (s.qOwner q), ?_⟩, ?_, ?_, ?_, ?_⟩, ?_⟩
  · simp [State.beginPiece, startCurrent, restartAt_plain hconv, srcStart_plain hconv, EngDyn.reset]
  · simp [State.beginPiece, startCurrent, restartAt_plain hconv]
  · exact (hpiece.get (by decide) q).trans (((hshown _ _).get (by decide) q).trans (State.get_put_self (F := Q_STATE.state) hq (by decide)))
  · exact (hpiece.get (by decide) e).trans (State.showBound_state _ _ _ _ he)
  · exact (hpiece.get (by decide) e).trans (State.showBound_channel _ _ _ he hq)
  · exact (hpiece.get (by decide) e).trans (State.showBound_function _ _ _ he howner)
  · exact (State.beginPiece_within (State.showBound_within (State.modQueue_within (State.put_within (State.setEng_within
      (State.modQueue_within (.refl _ s) _ _ (by decide)) _ _ (by decide)) _ _ _ (by decide)) _ _ (by decide)) _ _ _ _ (by decide))
      _ _ _ (by decide)).only

end

/-! ### The read of a piece of one line (R256 to R258) -/

section
variable {s t : State} {e q n : Nat} {c : Current} {at_ : Option Nat}

theorem Side.cut_pos (d : Side) (hlen : 0 < d.len) (x lim : Nat) : 0 < d.cut x lim := by
  have hline := Nat.mod_lt x hlen
  have hpage := Nat.mod_lt (d.at x) (show 0 < 4096 by decide)
  simp only [Side.cut]
  omega

/-- One request reaches to the end of a line that its limit and the page hold. -/
theorem Side.cut_line (d : Side) {lim : Nat} (hlim : d.len ≤ lim) (hpage : d.at 0 % 4096 + d.len ≤ 4096) : d.cut 0 lim = d.len := by
  simp only [Side.cut, Nat.zero_mod]
  omega

/-- An engine to which no data has come has nothing to write. -/
theorem State.writeStep_empty (hbuf : (s.eng e).buf = []) (hconv : convOf c.words = 0) : s.writeStep e q c at_ = .stuck s := by
  have hlacks (a n : Nat) (hn : 0 < n) : (s.eng e).has a (a + n) = false := by
    simp only [EngDyn.has, EngDyn.byte?, hbuf, Nat.add_sub_cancel_left, List.findSome?_nil, Option.isSome_none, List.all_eq_false, List.mem_range]
    exact ⟨0, hn, by simp⟩
  unfold State.writeStep
  extract_lets d side f x a n
  have hn : 0 < n := side.cut_pos (Nat.succ_pos _) ..
  split
  · rfl
  · rw [srcStart_plain hconv, srcNeeded_plain hconv, hlacks x n hn]
    rfl

/-- Engine `e` asks with request `r` for the one line, of `len` bytes, of a piece. -/
def State.askLine (s : State) (e len : Nat) (r : HReq) : State :=
  (s.modEng e (fun d => { d with readAt := len, reads := d.reads ++ [(0, len)] })).askHost r

section
variable (s : State) (e len : Nat) (r : HReq)

theorem State.askLine_kept : State.Within (besideMask [.Q_STATE, .TE_STATUS] [.engines, .queues])
    (s.modEng e (fun d => { d with readAt := len, reads := d.reads ++ [(0, len)] })) (s.askLine e len r) :=
  State.askHost_within (.refl _ _) r (by decide)

theorem State.askLine_eng : (s.askLine e len r).eng e = { s.eng e with readAt := len, reads := (s.eng e).reads ++ [(0, len)] } :=
  (congrArg (Tbl.get EngDyn.reset · e) ((s.askLine_kept e len r).areas .engines (by decide))).trans (State.modEng_eng_self ..)

theorem State.askLine_queue (q : Nat) : (s.askLine e len r).queue q = s.queue q :=
  congrArg (Tbl.get QDyn.reset · q) ((s.askLine_kept e len r).areas .queues (by decide))

end

/-- The read of the one line of a host source joins the tag arbiter. -/
theorem State.readStep_line (hlocal : (srcSide c.words).isLocal = false) (hlines : (srcSide c.words).lines = 1)
    (hread : (s.eng e).readAt = 0) (hreads : (s.eng e).reads = []) (hbuf : (s.eng e).buf = [])
    (hlim : (srcSide c.words).len ≤ s.mrrs (s.qOwner q)) (hpage : (srcSide c.words).at 0 % 4096 + (srcSide c.words).len ≤ 4096)
    (hmaster : s.canMaster (s.qOwner q) = true) :
    ∃ r : HReq, s.readStep e q c at_ = .went (s.askLine e (srcSide c.words).len r)
      ∧ r.fn = s.qOwner q ∧ r.q = some q ∧ r.purpose = .engine e 0 ∧ r.addr = (srcSide c.words).at 0 ∧ r.len = (srcSide c.words).len := by
  have hcut : (srcSide c.words).cut 0 (s.mrrs (s.qOwner q)) = (srcSide c.words).len := Side.cut_line _ hlim hpage
  have hpos : 0 < (srcSide c.words).len := Nat.succ_pos _
  have hspace : (s.eng e).space = 0 := by simp [EngDyn.space, hbuf, hreads]
  unfold State.readStep
  extract_lets d side f x a n n' begun
  have hbytes : ¬ (side.bytes ≤ x ∨ 256 ≤ d.reads.length) := by
    simp only [side, x, d, Side.bytes, hread, hreads, hlines, List.length_nil]
    omega
  have hcut' : n' = (srcSide c.words).len := by simp only [n', side, x, d, f, hread, hcut]
  have hroom : ¬ (65536 < d.space + n' ∨ (!s.canMaster f) = true) := by
    have hsize := Nat.le_of_add_left_le hpage
    simp only [hcut', d, f, hspace, hmaster, Bool.not_true, Bool.false_eq_true, or_false]
    omega
  have hx : x = 0 := hread
  have hbegun : begun = s.modEng e (fun d =>
      { d with readAt := (srcSide c.words).len, reads := d.reads ++ [(0, (srcSide c.words).len)] }) := by
    simp only [begun, hx, hcut', Nat.zero_add]
  rw [if_neg hbytes, if_neg (by simp [side, hlocal]), if_neg hroom, hbegun, hx]
  exact ⟨_, rfl, rfl, rfl, rfl, congrArg side.at hx, hcut'⟩

/-- A piece whose bytes have all been asked for reads no more. -/
theorem State.readStep_done (h : (srcSide c.words).bytes ≤ (s.eng e).readAt) : s.readStep e q c at_ = .stuck s := if_pos (.inl h)

/-- Engine `e` runs descriptor `c` of queue `q`. -/
structure State.Works (e q : Nat) (c : Current) (s : State) : Prop where
  bound : (s.eng e).q = some q
  issues : (s.eng e).draining = false
  current : (s.queue q).cur = some c
  open_ : c.ended = none

/-- A read that goes lets the engine look for its next request. -/
theorem State.Works.runFor_went (k : s.Works e q c) (hwrite : s.writeStep e q c at_ = .stuck s) (hread : s.readStep e q c at_ = .went t) :
    s.runFor e q (n + 1) at_ = (t.endPace e).runFor e q n at_ := by
  rw [State.runFor]
  simp [k.current, k.open_, k.issues, k.bound, hwrite, hread]

/-- A read that the limiter holds makes the engine wait. -/
theorem State.Works.runFor_paced (k : s.Works e q c) (hwrite : s.writeStep e q c at_ = .stuck s) (hread : s.readStep e q c at_ = .paced t) :
    s.runFor e q (n + 1) at_ = t.startPace e := by
  rw [State.runFor]
  simp [k.current, k.open_, k.issues, k.bound, hwrite, hread]

/-- With nothing to issue the engine waits for the reads that are outstanding. -/
theorem State.Works.runFor_stuck (k : s.Works e q c) (hwrite : s.writeStep e q c at_ = .stuck s) (hread : s.readStep e q c at_ = .stuck s)
    (hreads : (s.eng e).reads ≠ []) : s.runFor e q (n + 1) at_ = s := by
  rw [State.runFor]
  simp [k.current, k.open_, k.issues, k.bound, hwrite, hread, hreads]

theorem State.endPace_unpaced (h : (s.eng e).paceFrom = none) : s.endPace e = s := by rw [State.endPace, h]

/-- An engine that begins on one line of a host source asks for that line and waits for its data. -/
theorem State.Begun.runEngine_asks {f : Nat} {d : Prefetched} (k : s.Begun e q f d) (hconv : convOf d.words = 0)
    (hlocal : (srcSide d.words).isLocal = false) (hlines : (srcSide d.words).lines = 1)
    (hlim : (srcSide d.words).len ≤ s.mrrs (s.qOwner q)) (hpage : (srcSide d.words).at 0 % 4096 + (srcSide d.words).len ≤ 4096)
    (hmaster : s.canMaster (s.qOwner q) = true) :
    ∃ r : HReq, s.runEngine e = (s.askLine e (srcSide d.words).len r).noteEngine e
      ∧ r.fn = s.qOwner q ∧ r.q = some q ∧ r.purpose = .engine e 0 ∧ r.addr = (srcSide d.words).at 0 ∧ r.len = (srcSide d.words).len := by
  obtain ⟨boundAt, heng⟩ := k.idle
  obtain ⟨key, hcur⟩ := k.current
  have hworks : s.Works e q (startCurrent d none key) := ⟨by rw [heng], by rw [heng]; rfl, hcur, rfl⟩
  obtain ⟨r, hread, hr⟩ := State.readStep_line (s := s) (e := e) (q := q) (c := startCurrent d none key) (at_ := none) hlocal hlines
    (by rw [heng]; rfl) (by rw [heng]; rfl) (by rw [heng]; rfl) hlim hpage hmaster
  refine ⟨r, ?_, hr⟩
  have heng' := s.askLine_eng e (srcSide d.words).len r
  rw [heng] at heng'
  have hworks' : (s.askLine e (srcSide d.words).len r).Works e q (startCurrent d none key) :=
    ⟨by rw [heng'], by rw [heng']; rfl, (s.askLine_queue ..).symm ▸ hcur, rfl⟩
  have hrun : s.runFor e q 1048576 none = s.askLine e (srcSide d.words).len r := by
    rw [hworks.runFor_went (n := 1048575) (t := s.askLine e (srcSide d.words).len r) (State.writeStep_empty (by rw [heng]; rfl) hconv) hread,
      State.endPace_unpaced (by rw [heng']; rfl)]
    refine hworks'.runFor_stuck (n := 1048574) (State.writeStep_empty (by rw [heng']; rfl) hconv) (State.readStep_done ?_) ?_
    · rw [heng']
      exact (congrArg ((srcSide d.words).len * ·) hlines |>.trans (Nat.mul_one _)).le
    · simp [heng', EngDyn.reset]
  rw [State.runEngine, hworks.bound]
  exact congrArg (State.noteEngine · e) hrun

theorem State.noteEngine_only (s : State) (e : Nat) : State.Only [.TE_RDBUF] [] s (s.noteEngine e) :=
  (State.noteEngine_within (.refl _ s) e (by decide)).only

/-- Engine `e` is bound to queue `q` of function `f`, as its registers show, and waits for the `len` bytes from `addr` on. -/
structure State.Reads (e q f addr len : Nat) (t : State) : Prop where
  bound : (t.eng e).q = some q
  queueState : t.get Q_STATE.state q = 3
  state : t.get TE_STATUS.state e = 1
  channel : t.get TE_STATUS.channel e = q
  function : t.get TE_STATUS.function_ e = f
  reads : (t.eng e).reads = [(0, len)]
  asked : ∃ r ∈ (t.host (fnPort f)).waiting, r.q = some q ∧ r.purpose = .engine e 0 ∧ r.addr = addr ∧ r.len = len

theorem State.Begun.reads {d : Prefetched} (k : s.Begun e q (s.qOwner q) d) (hconv : convOf d.words = 0)
    (hlocal : (srcSide d.words).isLocal = false) (hlines : (srcSide d.words).lines = 1)
    (hlim : (srcSide d.words).len ≤ s.mrrs (s.qOwner q)) (hpage : (srcSide d.words).at 0 % 4096 + (srcSide d.words).len ≤ 4096)
    (hmaster : s.canMaster (s.qOwner q) = true) :
    (s.runEngine e).Reads e q (s.qOwner q) ((srcSide d.words).at 0) (srcSide d.words).len := by
  obtain ⟨boundAt, heng⟩ := k.idle
  obtain ⟨r, hrun, hfn, hq, hpurpose, haddr, hlen⟩ := k.runEngine_asks hconv hlocal hlines hlim hpage hmaster
  rw [hrun]
  set u := s.askLine e (srcSide d.words).len r
  have hnote := u.noteEngine_only e
  have heng' : (u.noteEngine e).eng e = _ := (hnote.eng (by decide) e).trans (s.askLine_eng ..)
  have hkept : State.Within (besideMask [.Q_STATE, .TE_STATUS] [.engines, .queues]) _ (u.noteEngine e) :=
    State.noteEngine_within (s.askLine_kept ..) e (by decide)
  have hunposted : r.posted = false := by simp [HReq.posted, hpurpose]
  refine ⟨by rw [heng', heng], ?_, ?_, ?_, ?_, by rw [heng', heng]; rfl, r, ?_, hq, hpurpose, haddr, hlen⟩
  · exact (hkept.get _ q (by decide)).trans k.queueState
  · exact (hkept.get _ e (by decide)).trans k.state
  · exact (hkept.get _ e (by decide)).trans k.channel
  · exact (hkept.get _ e (by decide)).trans k.function
  · rw [← hfn, hnote.host (by decide)]
    exact (State.askHost_asked _ hunposted).waits

end

section
variable {s : State} {g e q : Nat} {d : Prefetched} {ds : List Prefetched}

/-- The one candidate of a group is granted an idle engine, which reads the line of its head descriptor. -/
theorem State.engineGrant_reads (hg : g < 6) (he : e < 48) (hq : q < 4096) (hrun : s.groupRunning g = true) (hidle : s.idleEngine g = some e)
    (hcands : s.engineCands g = [(q, d)]) (hcur : (s.queue q).cur = none) (hpref : (s.queue q).pref = d :: ds)
    (hlocal : (srcSide d.words).isLocal = false) (hconv : convOf d.words = 0) (hlines : (srcSide d.words).lines = 1)
    (hlim : (srcSide d.words).len ≤ s.mrrs (s.qOwner q)) (hpage : (srcSide d.words).at 0 % 4096 + (srcSide d.words).len ≤ 4096)
    (hmaster : s.canMaster (s.qOwner q) = true) :
    (s.engineGrant g).Reads e q (s.qOwner q) ((srcSide d.words).at 0) (srcSide d.words).len := by
  set u := (s.wakeRegion (24 + g)).servedAt (pointEngine g) q
  have hserved : State.Only wakeKinds [.plumb, .waking, .served] s u :=
    (State.servedAt_within (State.wakeRegion_within (.refl _ s) _ (by decide)) _ _ (by decide)).only
  obtain ⟨t, hbind, hbegun, hbound⟩ := State.bindEngine_begun (s := u) he hq hconv ((hserved.queue (by decide) q).symm ▸ hcur)
    ((hserved.queue (by decide) q).symm ▸ hpref)
  have honly : State.Only ([.Q_STATE, .TE_STATUS, .TE_PROGRESS] ++ wakeKinds) [.queues, .engines, .plumb, .waking, .served] s t :=
    (hserved.mono (by decide) (by decide)).trans (hbound.mono (by decide) (by decide))
  have howner : t.qOwner q = s.qOwner q := honly.get (F := Q_CFG.owner) (by decide) q
  have howner' : u.qOwner q = t.qOwner q := (hserved.get (F := Q_CFG.owner) (by decide) q).trans howner.symm
  have hmrrs : t.mrrs (s.qOwner q) = s.mrrs (s.qOwner q) := by
    rw [State.mrrs, State.cfgGet, State.cfgWord, honly.areas .cfg (by decide)]
    rfl
  have hmaster' : t.canMaster (s.qOwner q) = true := by
    simp only [State.canMaster, State.master, State.hostGone, State.on, honly.isUp (by decide), honly.host (by decide),
      honly.get (F := FUNC_STATE.bme) (by decide), honly.get (F := FUNC_STATE.d3hot) (by decide),
      honly.get (F := FUNC_STATE.flr_active) (by decide), honly.get (F := HP_LINK_STATUS.pm_state) (by decide)] at hmaster ⊢
    exact hmaster
  rw [State.engineGrant_single hg hrun hidle hcands, hbind, ← howner]
  rw [howner'] at hbegun
  exact hbegun.reads hconv hlocal hlines (by rw [howner, hmrrs]; exact hlim) hpage (by rw [howner]; exact hmaster')

end

/-! ### The limiter (R262) -/

section
variable {s t : State} {e q : Nat} {c : Current}

theorem State.runEngine_clock (s : State) (e : Nat) (at_ : Option Nat) : (s.runEngine e at_).clock = s.clock :=
  (State.runEngine_within (.refl (besideMask [] [.clock]) s) e at_ (by decide)).areas .clock (by decide)

/-- A request waits for the allowance of its side. -/
theorem State.limited_none {n p : Nat} {write : Bool} (h : s.limited e q n p write none = none) :
    edgeFrom s.ticks < if write then (s.eng e).allowedDst else (s.eng e).allowedSrc := by
  unfold State.limited at h
  extract_lets c d allowed t a at h
  split at h
  · assumption
  · split at h <;> cases h

/-- The read that the limiter holds is of a local source. -/
theorem State.readStep_paced (h : s.readStep e q c none = .paced t) :
    (srcSide c.words).isLocal = true ∧ edgeFrom s.ticks < (s.eng e).allowedSrc := by
  unfold State.readStep at h
  extract_lets d side f x a n n' at h
  split at h
  · cases h
  · split at h
    next hlocal =>
      refine ⟨hlocal, ?_⟩
      split at h
      · cases h
      · split at h
        · cases h
        · cases h
        · dsimp only at h
          split at h
          · cases h
          · split at h
            next hnone => simpa using State.limited_none hnone
            · cases h
    · split at h <;> cases h

/-- The limiter's next edge is that of one of the two allowances. -/
theorem State.limiterDue_le {n : Nat} (h : s.limiterDue e c = some n) : n ≤ max (edgeFrom (s.eng e).allowedSrc) (edgeFrom (s.eng e).allowedDst) := by
  unfold State.limiterDue at h
  extract_lets d sides at h
  obtain ⟨a, ha, rfl⟩ := List.mem_map.mp (List.min?_mem h)
  have hside : a = d.allowedSrc ∨ a = d.allowedDst := by
    have hmem := (List.mem_filter.mp ha).1
    unfold sides at hmem
    rcases List.mem_append.mp hmem with hm | hm <;> split at hm
    · exact .inl (List.mem_singleton.mp hm)
    · cases hm
    · exact .inr (List.mem_singleton.mp hm)
    · cases hm
  rcases hside with rfl | rfl
  · exact le_max_left ..
  · exact le_max_right ..

/-- With a local source alone it is that of the source. -/
theorem State.limiterDue_src (hsrc : (srcSide c.words).isLocal = true) (hdst : (dstSide c.words).isLocal = false)
    (h : edgeFrom s.ticks < (s.eng e).allowedSrc) : s.limiterDue e c = some (edgeFrom (s.eng e).allowedSrc) := by
  simp [State.limiterDue, hsrc, hdst, h]

/-- Time passes up to a limiter's edge, where that is yet to come. -/
theorem State.advance_upTo (s : State) (n : Nat) : (s.advance (n - s.clock)).clock = max s.clock n := by
  show s.clock + (n - s.clock) = max s.clock n
  omega

/-- A release takes no time, or up to the edge of an allowance. -/
theorem State.limiterRelease_clock (s : State) (e : Nat) : s.clock ≤ (s.limiterRelease e).clock ∧
    (s.limiterRelease e).clock ≤ max s.clock (max (edgeFrom (s.eng e).allowedSrc) (edgeFrom (s.eng e).allowedDst) * 5 / 2048) := by
  have hstill {u : State} (hu : u.clock = s.clock) : s.clock ≤ u.clock ∧
      u.clock ≤ max s.clock (max (edgeFrom (s.eng e).allowedSrc) (edgeFrom (s.eng e).allowedDst) * 5 / 2048) :=
    ⟨hu.ge, hu.le.trans (le_max_left ..)⟩
  unfold State.limiterRelease
  split
  · exact hstill rfl
  · extract_lets r went
    have hr : r.clock = s.clock := s.runEngine_clock e none
    split
    · split
      · exact hstill hr
      next hwent =>
        have hallowed : (r.eng e).allowedSrc = (s.eng e).allowedSrc ∧ (r.eng e).allowedDst = (s.eng e).allowedDst := by
          simpa [went] using hwent
        split
        next n hdue =>
          obtain ⟨c, -, hn⟩ := Option.bind_eq_some_iff.mp hdue
          have hle : n ≤ max (edgeFrom (s.eng e).allowedSrc) (edgeFrom (s.eng e).allowedDst) := by
            rw [← hallowed.1, ← hallowed.2]
            exact State.limiterDue_le hn
          rw [State.runEngine_clock, State.advance_upTo, hr]
          exact ⟨le_max_left .., max_le_max le_rfl (Nat.div_le_div_right (Nat.mul_le_mul_right 5 hle))⟩
        · exact hstill hr
    · exact hstill hr

theorem State.limiterRelease_unpaced (h : (s.eng e).paceFrom = none) : s.limiterRelease e = s := if_pos (by rw [h]; rfl)

/-- An engine whose sole local side waits finds nothing to issue at once, and issues at the edge of its allowance. -/
theorem State.limiterRelease_src (k : s.Works e q c) {at_ : Nat} (hpace : (s.eng e).paceFrom = some at_)
    (hwrite : s.writeStep e q c none = .stuck s) (hread : s.readStep e q c none = .paced s) (hdst : (dstSide c.words).isLocal = false) :
    (s.limiterRelease e).clock = max s.clock (edgeFrom (s.eng e).allowedSrc * 5 / 2048) := by
  have hrun : s.runEngine e = s.noteEngine e := by
    have hwait : s.runFor e q 1048576 none = s := by
      rw [k.runFor_paced (n := 1048575) hwrite hread]
      exact if_pos (by rw [hpace]; rfl)
    simp only [State.runEngine, k.bound, hwait]
  have honly := s.noteEngine_only e
  obtain ⟨hsrc, hwaits⟩ := State.readStep_paced hread
  have hdue : (s.noteEngine e).limiterDue e c = some (edgeFrom (s.eng e).allowedSrc) := by
    rw [← honly.eng (by decide) e]
    refine State.limiterDue_src hsrc hdst ?_
    rw [State.ticks, honly.areas .clock (by decide), honly.eng (by decide)]
    exact hwaits
  have hclock : (s.noteEngine e).clock = s.clock := honly.areas .clock (by decide)
  rw [State.limiterRelease, if_neg (by simp [hpace]), hrun]
  simp only [honly.eng (by decide) e, honly.queue (by decide) q, hpace, k.bound, k.current, Option.bind_some, hdue, bne_self_eq_false, Bool.or_self,
    Bool.false_eq_true, if_false]
  rw [State.runEngine_clock, State.advance_upTo, hclock]

end

/-! ### The end of a drain (R269) -/

section
variable {s : State} {e q : Nat}

/-- Engine `e` is idle, and its registers show it. -/
structure State.Idle (e : Nat) (s : State) : Prop where
  unbound : (s.eng e).q = none
  issues : (s.eng e).draining = false
  empty : (s.eng e).buf = []
  state : s.get TE_STATUS.state e = 0
  reads : s.get TE_RDBUF.reads e = 0

/-- A release leaves the engine idle. -/
theorem State.releaseEngine_idle (s : State) (he : e < 48) : (s.releaseEngine e).Idle e := by
  unfold State.releaseEngine
  extract_lets paceless counted shown
  have hstate : shown.get TE_STATUS.state e = 0 :=
    (congrArg (getBits · 0 3) (State.setWord_word_kind (k := .TE_RDBUF) (k' := .TE_STATUS) (by decide) ..)).trans
      (State.get_put_self (F := TE_STATUS.state) he (by decide))
  have hreads : shown.get TE_RDBUF.reads e = 0 := State.get_setWord_self (F := TE_RDBUF.reads) he 0
  exact ⟨congrArg EngDyn.q (State.modEng_eng_self ..), congrArg EngDyn.draining (State.modEng_eng_self ..),
    congrArg EngDyn.buf (State.modEng_eng_self ..), hstate, hreads⟩

theorem State.runWaiting_none (h : (s.queue q).waitCmd = 0) : s.runWaiting q = s := if_neg fun k => k.1 h

/-- An engine whose last read has ended is released, where no command waits for that. -/
theorem State.drained_released (hdrain : (s.eng e).draining = true) (hreads : (s.eng e).reads = []) (hq : (s.eng e).q = some q)
    (hwait : (s.queue q).waitCmd = 0) : s.drained e = s.releaseEngine e := by
  have hqueue : (s.releaseEngine e).queue q = s.queue q :=
    congrArg (Tbl.get QDyn.reset · q) ((State.releaseEngine_within (.refl (besideMask [] [.queues]) s) e (by decide)).areas .queues (by decide))
  simp only [State.drained, hdrain, hreads, hq, List.isEmpty_nil, Bool.and_self, if_true]
  exact State.runWaiting_none (hqueue ▸ hwait)

end

/-! ### Faults of an engine (R271, R272) -/

section
variable {s : State} {e : Nat}

theorem State.engineFault_masked (h : s.egState (e / 8) ≠ 0) (k : EngineFault) : s.engineFault e k = s := if_pos h

/-- A corrected error is latched. -/
theorem State.engineFault_corrected (he : e < 48) (h : s.egState (e / 8) = 0) : (s.engineFault e .rdbufCe).get TE_FAULT.rdbuf_ce e = 1 := by
  rw [State.engineFault, if_neg (not_not_intro h)]
  exact ((State.report_only ..).get (by decide) e).trans (State.get_put_self (F := TE_FAULT.rdbuf_ce) he (by decide))

/-- A parity or uncorrectable error is latched, and every engine of the group is out of use. -/
theorem State.groupFault_offline (s : State) (he : e < 48) (hold : Bool) :
    (s.groupFault e hold).get (if hold then TE_FAULT.hold_parity else TE_FAULT.rdbuf_ue) e = 1
      ∧ ∀ i, i < 8 → ((s.groupFault e hold).eng (8 * (e / 8) + i)).offline = true := by
  unfold State.groupFault
  extract_lets g d latched bound qs live fns halted offline
  have honly := offline.report_only 4 (if hold then 1 else 2) g (BitVec.ofNat 64 e) 0 fns
  constructor
  · have hkept : State.Within (besideMask [.TE_FAULT] []) bound offline :=
      State.Within.each (State.Within.each (.refl _ bound) live fun _ _ w => State.errorHalt_within w _ _ _ _ _ _ (by decide)) _
        fun _ _ w => State.modEng_within w _ _ (by decide)
    have hfield {F : Fld} (hreg : F.reg = .TE_FAULT) (hlow : F.lo + F.len ≤ TE_FAULT.bound.lo) :
        (offline.report 4 (if hold then 1 else 2) g (BitVec.ofNat 64 e) 0 fns).get F e = latched.get F e :=
      (honly.get (by rw [hreg]; decide) e).trans <| (hkept.get F e (by rw [hreg]; decide)).trans <|
        (State.get_put_beside (F := TE_FAULT.channel) hreg (.inl (hlow.trans (by decide)))).trans <|
        State.get_flag_beside (F := TE_FAULT.bound) hreg (.inl hlow)
    cases hold
    · exact (hfield (F := TE_FAULT.rdbuf_ue) rfl (by decide)).trans (State.get_put_self (F := TE_FAULT.rdbuf_ue) he (by decide))
    · exact (hfield (F := TE_FAULT.hold_parity) rfl (by decide)).trans (State.get_put_self (F := TE_FAULT.hold_parity) he (by decide))
  · intro i hi
    rw [honly.eng (by decide)]
    refine State.each_reaches (P := fun t => (t.eng (8 * g + i)).offline = true) (Q := fun _ => True) (x := i) (fun _ _ _ => trivial)
      (fun t _ => ?_) (fun t y hy ht => ?_) (List.mem_range.mpr hi) trivial
    · rw [State.modEng_eng_self]
    · rw [State.modEng_eng_other _ _ (by omega)]
      exact ht

theorem State.engineFault_uncorrectable (he : e < 48) (h : s.egState (e / 8) = 0) : (s.engineFault e .rdbufUe).get TE_FAULT.rdbuf_ue e = 1
    ∧ ∀ i, i < 8 → ((s.engineFault e .rdbufUe).eng (8 * (e / 8) + i)).offline = true := by
  rw [State.engineFault, if_neg (not_not_intro h)]
  exact s.groupFault_offline he false

theorem State.engineFault_parity (he : e < 48) (h : s.egState (e / 8) = 0) : (s.engineFault e .holdParity).get TE_FAULT.hold_parity e = 1
    ∧ ∀ i, i < 8 → ((s.engineFault e .holdParity).eng (8 * (e / 8) + i)).offline = true := by
  rw [State.engineFault, if_neg (not_not_intro h)]
  exact s.groupFault_offline he true

end

/-! ### The reserve (R288) -/

/-- The BAR4 reads in progress of every port are as they were. -/
structure State.SameReads (s t : State) : Prop where
  reads : ∀ p, (t.port p).reads = (s.port p).reads

section
variable {s₀ s : State} {p : Nat}

theorem State.SameReads.beside {t : State} (h : s₀.SameReads s) (w : State.Within (besideMask [] [.ports]) s t) : s₀.SameReads t :=
  ⟨fun q => (congrArg (fun x => (Tbl.get PortDyn.reset x q).reads) (w.areas .ports (by decide))).trans (h.reads q)⟩

theorem State.SameReads.modPort (h : s₀.SameReads s) (p : Nat) {g : PortDyn → PortDyn} (hg : ∀ d, (g d).reads = d.reads) :
    s₀.SameReads (s.modPort p g) := by
  refine ⟨fun q => ?_⟩
  by_cases hq : q = p
  · rw [hq, State.modPort_port_self, hg]
    exact h.reads p
  · rw [State.modPort_port_other _ _ hq]
    exact h.reads q

theorem State.SameReads.cutRd (h : s₀.SameReads s) (n t : Nat) (e : EgFrame) : s₀.SameReads (s.cutRd p n t e) := by
  unfold State.cutRd
  split
  · exact h
  · dsimp only
    split
    · refine State.SameReads.beside (h.modPort p ?_) (State.modEng_within (.refl _ _) _ _ (by decide))
      exact fun _ => rfl
    · exact h.modPort p fun _ => rfl

theorem State.SameReads.cutRds (n : Nat) (h : s₀.SameReads s) : s₀.SameReads (s.cutRds p n) := by
  induction n generalizing s with
  | zero => exact h
  | succ n ih =>
    unfold State.cutRds
    split
    · exact ih (h.cutRd ..)
    · exact h

theorem State.SameReads.queueUnits (h : s₀.SameReads s) (us : List (BitVec 128)) : s₀.SameReads (s.queueUnits p us) := h.modPort p fun _ => rfl

theorem State.SameReads.noteAck (h : s₀.SameReads s) : s₀.SameReads (s.noteAck p) := by
  refine State.SameReads.beside (h.modPort p ?_) (State.arm_within (.refl _ _) _ _ (by decide))
  exact fun _ => rfl

theorem State.SameReads.sendFrame (h : s₀.SameReads s) (e : EgFrame) : s₀.SameReads (s.sendFrame p e) := by
  unfold State.sendFrame
  extract_lets frame f e q w queued numbered counted sent
  have hqueued : s₀.SameReads queued := (h.beside (State.emit_within (.refl _ s) _ (by decide))).queueUnits _
  have hnumbered : s₀.SameReads numbered := by
    refine State.SameReads.beside (hqueued.modPort p ?_) (State.put_within (.refl _ _) JP_SEQ.tx_next p _ (by decide))
    exact fun _ => rfl
  have hsent : s₀.SameReads sent := hnumbered.beside (State.disarm_within (State.disarm_within (State.arm_within (State.armOnce_within
    (State.bump_within (State.noteReplay_within (.refl _ _) p (by decide)) _ (by decide)) _ _ (by decide)) _ _ (by decide)) _ (by decide)) _
    (by decide))
  split
  · exact hsent.beside (State.arm_within (.refl _ _) _ _ (by decide))
  · split
    · exact hsent.beside (State.missAt_within (.refl _ _) _ _ _ _ _ _ (by decide))
    · exact hsent
  · exact hsent.beside (State.bump_within (.refl _ _) _ (by decide))
  · exact hsent

theorem State.SameReads.endDoze (h : s₀.SameReads s) : s₀.SameReads (s.endDoze p) := by
  unfold State.endDoze
  split
  · extract_lets awake opened
    have hopened : s₀.SameReads opened := h.beside (State.Within.each (State.disarm_within (State.disarm_within
      (State.put_within (.refl _ s) JP_STATUS.tx_doze p 0 (by decide)) _ (by decide)) _ (by decide)) _ fun _ _ k =>
      State.openActive_within (State.endTraining_within (State.sendMarker_within (State.leaveIdle_within k _ (by decide)) _ _ (by decide)) _
        (by decide)) _ _ _ (by decide))
    split
    · refine State.SameReads.sendFrame (hopened.modPort p ?_) _
      exact fun _ => rfl
    · exact hopened
  · exact h

theorem State.SameReads.egressStep {t : State} (h : s₀.SameReads s) (ht : s.egressStep p = some t) : s₀.SameReads t := by
  unfold State.egressStep at ht
  split at ht
  · cases ht
  · split at ht
    · cases ht
    next e _ =>
      dsimp only at ht
      split at ht
      · cases ht
      · obtain rfl := Option.some.inj ht
        refine State.SameReads.sendFrame (State.SameReads.endDoze (State.SameReads.beside ?_ (State.servedAt_within (.refl _ _) _ _ (by decide)))) _
        split
        · refine State.SameReads.beside (h.modPort p ?_) (State.splitWrite_within (.refl _ _) _ _ (by decide))
          exact fun _ => rfl
        · exact h.modPort p fun _ => rfl

theorem State.SameReads.pumpFrames (n : Nat) (h : s₀.SameReads s) : s₀.SameReads (s.pumpFrames p n) := by
  induction n generalizing s with
  | zero => exact h
  | succ n ih =>
    unfold State.pumpFrames
    split
    next hstep => exact ih (h.egressStep hstep)
    · exact h

theorem State.SameReads.noteStall (h : s₀.SameReads s) : s₀.SameReads (s.noteStall p) := by
  unfold State.noteStall
  refine State.SameReads.modPort (h.beside (State.flag_within (.refl _ s) JP_REPLAY.stalled p _ (by decide))) p ?_
  exact fun _ => rfl

theorem State.SameReads.pump (h : s₀.SameReads s) : s₀.SameReads (s.pump p) := ((h.cutRds _).pumpFrames _).noteStall

theorem State.SameReads.sendIdle (h : s₀.SameReads s) : s₀.SameReads (s.sendIdle p) := by
  unfold State.sendIdle
  extract_lets awake w
  have hawake : s₀.SameReads awake := h.endDoze
  split
  · exact hawake
  · exact ((hawake.beside (State.emit_within (.refl _ _) _ (by decide))).queueUnits _).noteAck.beside (State.quiet_within (.refl _ _) p (by decide))

theorem State.SameReads.holdsChanged (h : s₀.SameReads s) : s₀.SameReads (s.holdsChanged p) := by
  unfold State.holdsChanged
  extract_lets old judged
  have hjudged : s₀.SameReads judged := h.beside (State.judgeHolds_within (.refl _ s) p (by decide))
  split
  · exact hjudged.sendIdle
  · exact hjudged

end

section
variable {s : State} {p v : Nat} {r : WRead}

/-- A port that has so many tags in use has the others free (R357). -/
theorem State.freeLTags_length (s : State) (p : Nat) {n : Nat} (h : n + (s.port p).ltags.length ≤ 1024) : (s.freeLTags p n).length = n := by
  unfold State.freeLTags
  set size := if s.scarfed p then 2048 else 1024 with hsize
  have h1024 : 1024 ≤ size := by split at hsize <;> omega
  have hused : ((List.range size).filter (fun t => !(find1 t (s.port p).ltags).isNone)).length ≤ (s.port p).ltags.length := by
    rw [← List.length_map (as := (s.port p).ltags) (fun e => e.1)]
    refine (List.subperm_of_subset (List.nodup_range.filter _) fun t ht => ?_).length_le
    have hsome := (List.mem_filter.mp ht).2
    obtain ⟨x, hx⟩ := Option.isSome_iff_exists.mp (by simpa using hsome)
    exact List.mem_map.mpr ⟨_, mem_of_find1 hx, rfl⟩
  have htotal := List.length_eq_length_filter_add (l := List.range size) (fun t => (find1 t (s.port p).ltags).isNone)
  rw [List.length_range] at htotal
  rw [List.length_take]
  omega

/-- The head read is granted where its reserve fits, and is so still once the port has gone on. -/
theorem State.grantReserve_granted (hreads : (s.port p).reads = [r]) (hhead : reserveHead (s.port p).egress (s.port p).reads v = some r)
    (hopen : s.open_ (bayOf p) = true) (hfits : (4 * r.dws : Nat) ≤ s.freeSpace p v - s.skid p - 4096)
    (htags : (localParts (s.localMax p) r.paddr (enables r.dws r.firstBe r.lastBe)).length + (s.port p).ltags.length ≤ 1024) :
    ∃ x ∈ ((s.grantReserve p v).port p).reads, x.id = r.id ∧ x.granted = true := by
  have hlen := s.freeLTags_length p htags
  refine ⟨{ r with granted := true }, ?_, rfl, rfl⟩
  unfold State.grantReserve
  simp only [hhead]
  rw [if_neg (by rw [hlen, hopen]; simp; omega)]
  set granted := (s.setRead p { r with granted := true }).modPort p _ with hgranted
  have hkept : granted.SameReads ((granted.holdsChanged p).pump p) := (State.SameReads.holdsChanged ⟨fun _ => rfl⟩).pump
  rw [hkept.reads, hgranted, State.modPort_port_self, State.setRead, State.modPort_port_self]
  simp [hreads]

end

/-! ### The scrubber (R222) -/

section
variable {s : State}

theorem State.scrubAt_only (s : State) (n : Nat) : State.Only [] [.scrubAt] s { s with scrubAt := n } := by
  refine ⟨fun _ _ _ => rfl, fun a ha => ?_⟩
  cases a
  case scrubAt => exact absurd List.mem_cons_self ha
  all_goals simp [Area.same]

/-- An entry that reads well lets the scrubber go on to the next. -/
theorem State.scrub_clean (hup : s.isUp = true) (hcore : s.get PWR_STATE_MISC.core = 0) :
    s.scrub .clean = { s with scrubAt := if s.scrubAt + 1 < 65632 then s.scrubAt + 1 else 0 } := if_neg (by simp [hup, hcore])

/-- A segment that cannot be corrected is poisoned. -/
theorem State.scrub_poisons (hup : s.isUp = true) (hcore : s.get PWR_STATE_MISC.core = 0) (hat : s.scrubAt < 65536) (y : Word) :
    (s.scrub (.uncorrectable y)).get SEG_CTRL.poisoned s.scrubAt = 1 := by
  rw [State.scrub, if_neg (by simp [hup, hcore])]
  dsimp only
  rw [if_pos hat, (State.report_only ..).get (by decide), State.poison, State.get_put_kind (F := LEDGER_ECC.ue_seg) (by decide),
    State.get_put_kind (F := LEDGER_ECC.ue) (by decide), State.get_put_self hat (by decide)]
  rfl

end

/-! ### The engines' work (R222, R254 to R258, R262, R269, R271, R272, R288) -/

/-- Settles O41: a grant binds the idle engine to the one candidate, whose line it reads; a limiter's release runs the engine at the edge of
an allowance; a drained engine is released; a fault is latched where the group runs; the head read is granted its reserve; and the scrubber
poisons a segment whose entry it cannot correct. -/
theorem enginesWork : Obligations.EnginesWork := by
  unfold Obligations.EnginesWork
  intro s g e p v hup
  have hdone {op : Instr} {t : State → State} {P : State → Prop} (hexec : exec op s = .next (s.whenUp t)) (h : P (t s)) : Completes op s P :=
    ⟨_, hexec.trans (congrArg Host.Outcome.next (if_pos hup)), h⟩
  refine ⟨?grant, ?release, ?bounds, ?drain, fun hrun => ⟨?corrected, ?uncorrectable, ?parity⟩, ?masked, ?reserve, fun hcore => ⟨?clean, ?poisons⟩⟩
  case grant =>
    intro q d ds hrun hidle hcands hcur hpref hq hlocal hconv hlines hlim hpage hmaster
    have k := State.engineGrant_reads g.isLt e.isLt hq hrun hidle hcands hcur hpref hlocal hconv hlines hlim hpage hmaster
    exact hdone rfl ⟨k.bound, k.queueState, k.state, k.channel, k.function, k.reads, k.asked⟩
  case release =>
    intro q at_ c hpace hbound hcur hwrite hread hopen hissues hdst
    exact hdone rfl (State.limiterRelease_src ⟨hbound, hissues, hcur, hopen⟩ hpace hwrite hread hdst)
  case bounds =>
    obtain ⟨hge, hle⟩ := s.limiterRelease_clock e
    exact hdone rfl ⟨hge, hle, State.limiterRelease_unpaced⟩
  case drain =>
    intro q hdrain hreads hbound hwait
    have k := s.releaseEngine_idle e.isLt
    refine hdone rfl ?_
    rw [State.drained_released hdrain hreads hbound hwait]
    exact ⟨k.unbound, k.issues, k.empty, k.state, k.reads⟩
  case corrected => exact hdone rfl (State.engineFault_corrected e.isLt hrun)
  case uncorrectable => exact hdone rfl (State.engineFault_uncorrectable e.isLt hrun)
  case parity => exact hdone rfl (State.engineFault_parity e.isLt hrun)
  case masked => exact fun k hstopped => hdone rfl (State.engineFault_masked hstopped k)
  case reserve =>
    intro r hreads hhead hopen hfits htags
    exact hdone rfl (State.grantReserve_granted hreads hhead hopen hfits htags)
  case clean =>
    refine ⟨_, rfl, ?_⟩
    rw [State.scrub_clean hup hcore]
    exact ⟨rfl, s.scrubAt_only _⟩
  case poisons =>
    intro y hat
    exact ⟨_, rfl, State.scrub_poisons hup hcore hat y⟩

end Sys2Proof.Machine
end

/-! Queue 5 of PF0, and a descriptor of it, on which the statements on queues are tried. -/

section
namespace Sys2Proof.Machine

/-- `linkZeroRuns` where queue 5 of PF0 has rings of 64 entries. -/
def ringsFive : State := (linkZeroRuns.put Q_RING.sq_log2 5 6).put Q_RING.cq_log2 5 6

/-- Descriptor 0 has been started: a transfer of 64 bytes from host address 0x1000 to local address 0x2000. -/
def transferStarted : Current := startCurrent ⟨0, [0x401, 0x1000, 0x2000, 63, 63, 0, 0, 0], 0, 9, none, false, false, false, 0, none, false⟩ none 9

end Sys2Proof.Machine
end

/-! The statement on the commands of queues fails where a commit moves the queue (R188): between COMMIT and its strobe the move holds a
disabled queue too, so that ENABLE takes it to quiescing and not to idle. -/

section
namespace Sys2Proof.Machine

/-! ### ENABLE (R246, R188) -/

/-- ENABLE of a disabled queue with rings of legal sizes: it is idle, or quiescing where a commit moves it. -/
theorem State.enableQueue_state {s : State} {q : Nat} (hq : q < 4096) (hoff : s.get Q_STATE.state q = 0) (hsq : 6 ≤ s.get Q_RING.sq_log2 q)
    (hsq' : s.get Q_RING.sq_log2 q ≤ 16) (hcq : 6 ≤ s.get Q_RING.cq_log2 q) (hcq' : s.get Q_RING.cq_log2 q ≤ 16) :
    (s.enableQueue q).get Q_STATE.state q = if (s.queue q).moving then 8 else 1 := by
  have hallowed : ¬(s.get Q_STATE.state q ≠ 0
      ∨ !(decide (6 ≤ s.get Q_RING.sq_log2 q ∧ s.get Q_RING.sq_log2 q ≤ 16) && decide (6 ≤ s.get Q_RING.cq_log2 q ∧ s.get Q_RING.cq_log2 q ≤ 16))) := by
    simp [hoff, hsq, hsq', hcq, hcq']
  rw [State.enableQueue, if_neg hallowed, State.setQueue_get, State.get_put_self hq (by decide)]
  cases (s.queue q).moving <;> rfl

/-- A write of ENABLE to Q_CMD. -/
theorem State.Writable.enable {s : State} {a : Agent} {q : QId} (h : s.Writable a .Q_CMD q) :
    exec (.enable a q) s = .next (s.enableQueue q) :=
  congrArg Host.Outcome.next (h.queueCmd 1)

/-! ### A disabled queue that a commit moves -/

/-- PF0 has opened a transaction. -/
def moveOpened : State := ringsFive.writeField (ctxAgent 0) TXN_CTRL.op (0 : CtxId) 1

/-- Q_CFG with PF1 as the owner, and the engine group and the rate cap of queue 5 as they are. -/
def movedConfig : WriteBytes := [some 1, some 0, some 5, some 0, some 1, some 0, some 0, some 0]

/-- It has staged queue 5 for PF1. -/
def moveStaged : State := moveOpened.regWrite (.fn 0) (RegKind.Q_CFG.addr 5) movedConfig

/-- It has committed, and the strobe is to come. -/
def moveCommits : State := moveStaged.writeAs (ctxAgent 0) .TXN_CTRL (0 : CtxId) (setBits 2 4 1 (b2n false)) (maskBits 0 8)

theorem moveCommits_follows : exec (.txnBegin 0) ringsFive = .next moveOpened
    ∧ exec (.retFieldWrite (.fn 0) (RegKind.Q_CFG.addr 5) movedConfig) moveOpened = .next moveStaged
    ∧ exec (.commit 0 false) moveStaged = .next moveCommits :=
  ⟨rfl, congrArg Host.Outcome.next (if_pos (by decide)), rfl⟩

/-- The checks have passed, and queue 5 is moved while it is disabled; the way of PF0 to its registers is clear. -/
theorem moveCommits_moves : (moveCommits.get TXN_STATUS.state 0 = 2 ∧ (moveCommits.queue 5).moving = true ∧ moveCommits.get Q_STATE.state 5 = 0
      ∧ moveCommits.get Q_RING.sq_log2 5 = 6 ∧ moveCommits.get Q_RING.cq_log2 5 = 6)
    ∧ moveCommits.reach (.fn 0) = 2 ∧ moveCommits.get HP_LINK_STATUS.pm_state (fnPort 0) ≠ 2 ∧ moveCommits.rightTo (.fn 0) .Q_CMD 5 = .write
    ∧ moveCommits.ring = [] ∧ moveCommits.steady (partRegion ⟨.Q_CMD, 5, 0⟩) = true := by decide +kernel

/-- A write of Q_CMD by PF0, which still owns the queue, takes effect at once. -/
theorem moveCommits_writable : moveCommits.Writable (.fn 0) .Q_CMD (5 : QId) := by
  obtain ⟨-, hreach, hawake, hright, hring, hruns⟩ := moveCommits_moves
  refine ⟨hreach, fun f hf => ?_, hright, fun x hx => ?_, hruns⟩
  · cases hf
    exact hawake
  · rw [hring] at hx
    cases hx

/-- Refutes O39: ENABLE of a disabled queue that a commit moves shows quiescing, not idle. -/
theorem not_queueCommandsAct : ¬ Obligations.QueueCommandsAct := by
  unfold Obligations.QueueCommandsAct
  intro h
  obtain ⟨⟨-, hmoving, hoff, hsq, hcq⟩, -⟩ := moveCommits_moves
  obtain ⟨henable, -⟩ := h moveCommits (.fn 0) 5 moveCommits_writable
  obtain ⟨t, ht, hidle, -⟩ := henable hoff (by simp [hsq]) (by simp [hsq]) (by simp [hcq]) (by simp [hcq])
  have hran : t = moveCommits.enableQueue 5 := Host.Outcome.next.inj (ht.symm.trans moveCommits_writable.enable)
  have hquiescing : (moveCommits.enableQueue 5).get Q_STATE.state 5 = if (moveCommits.queue 5).moving then 8 else 1 :=
    State.enableQueue_state (by decide) hoff (by omega) (by omega) (by omega) (by omega)
  rw [hmoving, ← hran] at hquiescing
  exact absurd (hidle.symm.trans hquiescing) (by decide)

end Sys2Proof.Machine
end

/-! The statement on the work of queues fails where the descriptor that arrives is the running one, fetched again for RESUME or RESTART
(R247): it is read in its own place and joins no other. The statement leaves out a descriptor whose words are empty, and the one that is
awaited keeps the words of its first fetch until then. -/

section
namespace Sys2Proof.Machine

/-- The running descriptor, fetched again, leaves those fetched ahead as they were: with no halt entry due and the queue not ready,
nothing else happens as it arrives. -/
theorem State.takeDescriptors_again {s : State} {q i : Nat} {bs : List Byte} {c : Current} (harrived : (s.queue q).arrived = some (i, bs))
    (hcur : (s.queue q).cur = some c) (hgone : c.d.gone = true) (hidx : c.d.idx = i) (hread : c.d.fetchErr = none)
    (hhalt : (s.queue q).haltDue = none) (hready : s.get Q_STATE.state q ≠ 2) :
    ((s.takeDescriptors q).queue q).pref = (s.queue q).pref := by
  have hreload : s.takeDescriptors q = s.reloadDescriptor q c (descWords bs) := by
    simp [State.takeDescriptors, harrived, hcur, hgone, hidx]
  rw [hreload, State.reloadDescriptor]
  simp only [hread, Option.isSome_none, Bool.false_eq_true, false_and, if_false]
  generalize hr : s.modQueue q _ = r
  have hpref : (r.queue q).pref = (s.queue q).pref := by rw [← hr, State.modQueue_queue_self]
  have hdue : r.dueEntry q = none := by
    rw [← hr]
    simp [State.dueEntry, State.modQueue_queue_self, hhalt]
  have hstays : r.get Q_STATE.state q ≠ 2 := by rwa [← hr]
  have hkick : r.kick q = r := by simp [State.kick, State.queueFree, hstays]
  rw [State.finishEntry, State.settleEntry, hdue, hkick, hpref]

/-- An error halt of queue 5 has drained. -/
def haltedFive : State :=
  ((ringsFive.put Q_STATE.state 5 7).put Q_SQ_IDX.sq_tail 5 1).setQueue 5 { QDyn.reset with cur := some transferStarted, fetchAt := 1 }

/-- RESUME: the descriptor is to be fetched again. -/
def resumedFive : State := haltedFive.writeField (.fn 0) Q_CMD.op 5 3

/-- The fetch arbiter has asked for the descriptor. -/
def fetchAsked : State := resumedFive.whenUp (fun s => s.fetchGrant)

/-- The read has been sent on tag 0. -/
def fetchSent : State := fetchAsked.whenUp (fun s => ((s.hostGrant 0).runEngines).retryEntries)

/-- Its completion has come, with 64 bytes of 0. -/
def fetchAnswered : State := (fetchSent.hostCompletion 0 0 .ok (List.replicate 64 0)).retryHeld.restBays

/-- STOP: no descriptor runs yet, so that the queue is stopped at once. -/
def stoppedFive : State := fetchAnswered.writeField (.fn 0) Q_CMD.op 5 2

theorem stoppedFive_follows : exec (.resume (.fn 0) 5) haltedFive = .next resumedFive ∧ exec .descriptorFetch resumedFive = .next fetchAsked
    ∧ exec (.hostTagGrant 0) fetchAsked = .next fetchSent
    ∧ exec (.hostCompletion 0 0 .ok (List.replicate 64 0)) fetchSent = .next fetchAnswered
    ∧ exec (.stop (.fn 0) 5) fetchAnswered = .next stoppedFive := ⟨rfl, rfl, rfl, rfl, rfl⟩

/-- The module is up, descriptor 0 has arrived, the queue is stopped, and nothing has been fetched ahead. -/
theorem stoppedFive_awaits : stoppedFive.isUp = true ∧ (stoppedFive.queue 5).arrived = some (0, List.replicate 64 0)
    ∧ stoppedFive.get Q_STATE.state 5 = 5 ∧ (stoppedFive.queue 5).pref = [] := by decide +kernel

/-- The running descriptor is the one that arrives, and has the words of its first fetch. -/
theorem stoppedFive_runs : (stoppedFive.queue 5).cur = some { transferStarted with d := { transferStarted.d with gone := true }, words := [] }
    ∧ (stoppedFive.queue 5).haltDue = none := by decide +kernel

/-- Refutes O40: the running descriptor, fetched again after RESUME and arriving after STOP, does not join the descriptors fetched ahead. -/
theorem not_queuesWork : ¬ Obligations.QueuesWork := by
  unfold Obligations.QueuesWork
  intro h
  obtain ⟨hup, harrived, hstopped, hnone⟩ := stoppedFive_awaits
  obtain ⟨hcur, hhalt⟩ := stoppedFive_runs
  obtain ⟨-, -, harrival, -⟩ := h stoppedFive 0 5 0
  have hwords : ∀ c, (stoppedFive.queue 5).cur = some c → c.d.words ≠ [] := by
    intro c hc
    cases hcur.symm.trans hc
    exact List.cons_ne_nil _ _
  obtain ⟨t, ht, -, -, hjoins, -⟩ := harrival 0 _ hup harrived (by simp [hstopped]) hwords
  have hran : t = stoppedFive.takeDescriptors 5 := Host.Outcome.next.inj (ht.symm.trans (congrArg Host.Outcome.next (if_pos hup)))
  have hkept : (t.queue 5).pref = [] := by
    rw [hran, State.takeDescriptors_again harrived hcur rfl rfl rfl hhalt (by simp [hstopped]), hnone]
  have hone := congrArg List.length hjoins
  simp [hkept, hnone] at hone

end Sys2Proof.Machine
end

/-! The statement on entries that signal at once fails for a halt entry that met a full ring and whose slot was freed while Bus Master
Enable was 0 (R243): it does not go by itself, and waits for RESUME, RESTART or SKIP. The statement takes every entry that met a full ring
for one that may go. -/

section
namespace Sys2Proof.Machine

/-- A halted queue with no entry due keeps the held entry for which no slot has been freed. -/
theorem State.tryEntry_waits {s : State} {q : Nat} {e : Entry} (hheld : (s.queue q).held = some e) (hfreed : e.freed = false)
    (hhalted : s.get Q_STATE.state q = 7) (hdue : s.dueEntry q = none) : s.tryEntry q = s := by
  have hstays : s.tryHeld q = s := by simp [State.tryHeld, hheld, hfreed, hhalted]
  have hnone : s.settleEntry q = s := by rw [State.settleEntry, hdue]
  have hidle : s.kick q = s := by simp [State.kick, State.queueFree, hhalted]
  rw [State.tryEntry, hstays, State.finishEntry, hnone, hidle]

/-- Queue 5 runs a descriptor with its CQ full, and one of the four entries per message has been written. -/
def ringFull : State :=
  (((((ringsFive.put Q_STATE.state 5 3).put Q_SQ_IDX.sq_tail 5 1).put Q_CQ_IDX.cq_tail 5 1).put Q_COAL.count 5 4).put Q_COAL.pending 5 1).setQueue 5
    { QDyn.reset with cur := some transferStarted }

/-- An error at the host port halts it, and the entry of the halt is held. -/
def haltHeld : State := ringFull.errorHalt 5 0x10 0x1000 0 0 1

/-- Bus Master Enable of PF0 is cleared. -/
def masterCleared : State := haltHeld.byConfig 0 (fun s => s.setBme 0 false)

/-- The driver consumes an entry, and its doorbell frees a slot. -/
def slotFreed : State := ((masterCleared.leaveL1 0).wakeRegion 34).ringDoorbell 0 40 8 255 0x20001

/-- Bus Master Enable is set again. -/
def masterSet : State := slotFreed.byConfig 0 (fun s => s.setBme 0 true)

theorem masterSet_follows : exec (.busMasterEnableClear 0) haltHeld = .next masterCleared
    ∧ exec (.doorbell 0 40 8 0xFF 0x20001) masterCleared = .next slotFreed
    ∧ exec (.busMasterEnableSet 0) slotFreed = .next masterSet := by
  have hheard : masterCleared.unheard 0 = false := by decide +kernel
  have hmem : masterCleared.memEnabled 0 = true := by decide +kernel
  have hnear : ¬(if masterCleared.compatFn 0 then 96 else 0x8000) ≤ 40 := by split <;> decide
  refine ⟨rfl, congrArg Host.Outcome.next ?_, rfl⟩
  exact ((if_neg (by simp [hheard])).trans (if_neg (by simp [hmem]))).trans (if_neg hnear)

/-- The entry of the halt, as it is held. -/
def haltEntry : Entry := ⟨transferStarted.d, 0x10, 0, true, 0, true, true, false⟩

/-- It met a full ring, and nothing stands in its way any more. -/
theorem masterSet_held : (masterSet.queue 5).held = some haltEntry ∧ masterSet.isUp = true ∧ masterSet.canMaster (masterSet.qOwner 5) = true
    ∧ masterSet.cqFull 5 = false := by decide +kernel

theorem masterSet_way : masterSet.EntryWay 5 := by
  have hwaiting : (masterSet.host (fnPort (masterSet.qOwner 5))).waiting = [] := by decide +kernel
  exact ⟨fun _ => by simp [State.hostPathBusy, State.pathWaits, hwaiting], by decide +kernel⟩

/-- The queue is halted, its running descriptor has not ended, and an entry of before has yet to be signalled. -/
theorem masterSet_halted : masterSet.get Q_STATE.state 5 = 7 ∧ masterSet.dueEntry 5 = none ∧ (masterSet.queue 5).haltDue = none
    ∧ (masterSet.queue 5).cur = some transferStarted ∧ masterSet.get Q_COAL.pending 5 = 1 := by decide +kernel

/-- Refutes O60: the entry of a halt whose slot was freed while Bus Master Enable was 0 is not written, so that it signals nothing. -/
theorem not_entriesSignalAtOnce : ¬ Obligations.EntriesSignalAtOnce := by
  unfold Obligations.EntriesSignalAtOnce
  intro h
  obtain ⟨hheld, hup, hmay, hroom⟩ := masterSet_held
  obtain ⟨hhalted, hdue, hnone, hcur, hpending⟩ := masterSet_halted
  obtain ⟨-, -, hgoes⟩ := h masterSet 5 hup hmay hroom masterSet_way
  obtain ⟨t, ht, hcovered, -⟩ := hgoes haltEntry hheld (.inl rfl) hnone (fun c hc => by cases hcur.symm.trans hc; rfl) (.inr (.inr (.inl rfl)))
  have hkept : t = masterSet := by
    have hran : t = masterSet.whenUp (fun s => s.tryEntry 5) := (Host.Outcome.next.inj ht).symm
    rw [hran, State.whenUp, if_pos hup, State.tryEntry_waits hheld rfl hhalted hdue]
  rw [hkept] at hcovered
  exact absurd (hcovered.symm.trans hpending) (by decide)

end Sys2Proof.Machine
end


/-! The statement on lanes fails where a lane's test fields are set already and the lane does not stand in test: JL_TEST_ENABLE acts as a
field takes another value (R315 to R317), so that the values that stand there take no lane into test. No premise of the statement ties the test
fields of a lane to its state. -/

section
namespace Sys2Proof.Machine

/-- JP0 disabled, with near-end loopback already selected for lane 0, which is off. -/
def loopSelected : State := bayZeroRuns.put JL_CTRL.loop 0 1

theorem loopSelected_writable {k : RegKind} (hk : k = .JL_CTRL ∨ k = .JL_PRBS) : loopSelected.Writable .ridge k 0 := by
  obtain rfl | rfl := hk <;>
    exact ⟨by decide +kernel, nofun, by decide +kernel, by decide +kernel, by decide +kernel⟩

theorem loopSelected_disabled : loopSelected.get JP_STATUS.link_state (loopSelected.lead (lanePort 0)) = 0 := by decide +kernel

/-- The same loop selected again changes no test field, and the lane stays off. -/
theorem loopSelected_again :
    ((loopSelected.writeField .ridge JL_CTRL.loop 0 1).writeAs .ridge .JL_PRBS 0 0 (maskBits 0 5)).get JL_STATUS.state 0 = 0 := by
  decide +kernel

/-- Refutes O45: near-end loopback enabled on a lane that has it selected and is off leaves the lane off. -/
theorem not_lanesWork : ¬ Obligations.LanesWork := by
  unfold Obligations.LanesWork
  intro h
  obtain ⟨-, -, -, -, -, -, htest⟩ := h loopSelected 0 0 ⟨false, []⟩ []
  obtain ⟨t, ht, -, -, -, -, -, hstate, -⟩ := htest .ridge 1 false false false 0 (loopSelected_writable (.inl rfl))
    (loopSelected_writable (.inr rfl)) loopSelected_disabled
  have hseven : t.get JL_STATUS.state 0 = 7 := hstate (.inl (by decide))
  have hoff : t.get JL_STATUS.state 0 = 0 := Host.Outcome.next.inj ht ▸ loopSelected_again
  exact absurd (hseven.symm.trans hoff) (by decide)

end Sys2Proof.Machine
end


/-! What a port receives by, which its transmitter leaves as it was as it sends. -/

section
namespace Sys2Proof.Machine

section
variable {ks : List RegKind} {ps : List Area} {s t : State}

theorem State.Only.port (h : State.Only ks ps s t) (hp : .ports ∉ ps) (p : Nat) : t.port p = s.port p :=
  congrArg (Tbl.get PortDyn.reset · p) (h.areas _ hp)

theorem State.Only.scarfed (h : State.Only ks ps s t) (hk : .JP_CTRL ∉ ks) (p : Nat) : t.scarfed p = s.scarfed p :=
  congrArg (· != 0) (h.get hk (lowerOf p))

theorem State.Only.portLanes (h : State.Only ks ps s t) (hk : .JP_CTRL ∉ ks) (p : Nat) : t.portLanes p = s.portLanes p := by
  rw [State.portLanes, State.members, h.scarfed hk, ← State.members, ← State.portLanes]

theorem State.expire_only (s : State) (tm : Timer) : State.Only [] passing s (s.expire tm) :=
  (State.expire_within (.refl _ s) tm (by decide)).only

end

/-- A field that shares no bits with the loaded one reads as before. -/
theorem State.get_put_apart {s : State} {F G : Fld} (h : G.reg = F.reg → G.lo + G.len ≤ F.lo ∨ F.lo + F.len ≤ G.lo) (i j v : Nat) :
    (s.put F i v).get G j = s.get G j := by
  by_cases hr : G.reg = F.reg
  · by_cases hj : j = i
    · rw [hj, State.get_put_beside hr (h hr)]
    · rw [State.get_put_index hr hj]
  · rw [State.get_put_kind hr]

/-- What a port holds but for what sending changes: the frames unacknowledged, the acknowledgement, the TIME frame and the transmit mask that
are due, the units that wait for slots, the path that stalls, and whether the link word at the head of the stream has been used. -/
def PortDyn.inbound (d : PortDyn) : PortDyn :=
  { d with replay := [], ackDue := false, timeDue := false, wantMask := none, txq := [], stalledOn := none, headUsed := none }

/-- Registers that the reception of a port goes by. -/
def inboundKinds : List RegKind := [.JP_CTRL, .JP_CFG, .JP_PART]
def inboundFields : List Fld := [JP_STATUS.link_state, JP_STATUS.tx_mask, JP_SEQ.rx_expected]

/-- Port `p` receives in the second state as in the first, what it sent between them apart. -/
structure State.SameInbound (p : Nat) (s t : State) : Prop where
  config : ∀ k ∈ inboundKinds, ∀ i, t.word k i = s.word k i
  fields : ∀ F ∈ inboundFields, t.get F p = s.get F p
  port : (t.port p).inbound = (s.port p).inbound
  words : ∀ l, (t.lane l).words = (s.lane l).words
  accepted : t.ctr (portCtr p 1) = s.ctr (portCtr p 1)
  repeated : t.ctr (portCtr p 3) = s.ctr (portCtr p 3)

section
variable {p : Nat} {s₀ s t : State}

theorem State.SameInbound.refl (p : Nat) (s : State) : s.SameInbound p s :=
  ⟨fun _ _ _ => rfl, fun _ _ => rfl, rfl, fun _ => rfl, rfl, rfl⟩

theorem State.SameInbound.trans (h : s₀.SameInbound p s) (k : s.SameInbound p t) : s₀.SameInbound p t :=
  ⟨fun x hx i => (k.config x hx i).trans (h.config x hx i), fun F hF => (k.fields F hF).trans (h.fields F hF), k.port.trans h.port,
    fun l => (k.words l).trans (h.words l), k.accepted.trans h.accepted, k.repeated.trans h.repeated⟩

theorem State.SameInbound.link (h : s.SameInbound p t) : t.get JP_STATUS.link_state p = s.get JP_STATUS.link_state p :=
  h.fields _ (by simp [inboundFields])

theorem State.SameInbound.txMask (h : s.SameInbound p t) : t.get JP_STATUS.tx_mask p = s.get JP_STATUS.tx_mask p :=
  h.fields _ (by simp [inboundFields])

theorem State.SameInbound.expected (h : s.SameInbound p t) : t.get JP_SEQ.rx_expected p = s.get JP_SEQ.rx_expected p :=
  h.fields _ (by simp [inboundFields])

theorem State.SameInbound.egress (h : s.SameInbound p t) : (t.port p).egress = (s.port p).egress := by
  show (t.port p).inbound.egress = (s.port p).inbound.egress
  rw [h.port]

theorem State.SameInbound.sleepAck (h : s.SameInbound p t) : (t.port p).sleepAck = (s.port p).sleepAck := by
  show (t.port p).inbound.sleepAck = (s.port p).inbound.sleepAck
  rw [h.port]

theorem State.SameInbound.sleepReq (h : s.SameInbound p t) : (t.port p).sleepReq = (s.port p).sleepReq := by
  show (t.port p).inbound.sleepReq = (s.port p).inbound.sleepReq
  rw [h.port]

theorem State.SameInbound.ingress (h : s.SameInbound p t) : (t.port p).ingress = (s.port p).ingress := by
  show (t.port p).inbound.ingress = (s.port p).inbound.ingress
  rw [h.port]

theorem State.SameInbound.reads (h : s.SameInbound p t) : (t.port p).reads = (s.port p).reads := by
  show (t.port p).inbound.reads = (s.port p).inbound.reads
  rw [h.port]

theorem State.SameInbound.ltags (h : s.SameInbound p t) : (t.port p).ltags = (s.port p).ltags := by
  show (t.port p).inbound.ltags = (s.port p).inbound.ltags
  rw [h.port]

theorem State.SameInbound.partial_ (h : s.SameInbound p t) : (t.port p).partial_ = (s.port p).partial_ := by
  show (t.port p).inbound.partial_ = (s.port p).inbound.partial_
  rw [h.port]

theorem State.SameInbound.idleSeen (h : s.SameInbound p t) : (t.port p).idleSeen = (s.port p).idleSeen := by
  show (t.port p).inbound.idleSeen = (s.port p).inbound.idleSeen
  rw [h.port]

theorem State.SameInbound.opened (h : s.SameInbound p t) : (t.port p).opened = (s.port p).opened := by
  show (t.port p).inbound.opened = (s.port p).inbound.opened
  rw [h.port]

theorem State.SameInbound.rxNext (h : s.SameInbound p t) : (t.port p).rxNext = (s.port p).rxNext := by
  show (t.port p).inbound.rxNext = (s.port p).inbound.rxNext
  rw [h.port]

theorem State.SameInbound.beside (h : s₀.SameInbound p s)
    (w : State.Within (besideMask [.JP_CTRL, .JP_CFG, .JP_PART, .JP_STATUS, .JP_SEQ] [.ports, .lanes, .ctrs]) s t) : s₀.SameInbound p t := by
  have hctrs : t.ctrs = s.ctrs := w.areas .ctrs (by decide)
  have hctr (o : Nat) : t.ctr o = s.ctr o := congrArg (Tbl.get 0 · o) hctrs
  refine h.trans ⟨fun k hk => w.words k ?_, fun F hF => w.get F p ?_, ?_, fun l => ?_, hctr _, hctr _⟩
  · revert k; decide
  · revert F; decide
  · exact congrArg (fun x => (Tbl.get PortDyn.reset x p).inbound) (w.areas .ports (by decide))
  · exact congrArg (fun x => (Tbl.get LaneDyn.reset x l).words) (w.areas .lanes (by decide))

/-- A register field that reception does not go by takes a value. -/
theorem State.SameInbound.put (h : s₀.SameInbound p s) (G : Fld) (i v : Nat) (hk : G.reg ∉ inboundKinds := by decide)
    (hb : ∀ F ∈ inboundFields, F.reg = G.reg → F.lo + F.len ≤ G.lo ∨ G.lo + G.len ≤ F.lo := by decide) : s₀.SameInbound p (s.put G i v) :=
  h.trans ⟨fun k hmem j => (s.put_only G i v).words k (by rintro hG; simp_all) j, fun F hF => State.get_put_apart (hb F hF) i p v,
    congrArg PortDyn.inbound (s.put_port G i v p), fun l => congrArg LaneDyn.words (s.put_lane G i v l), s.put_ctr G i v _, s.put_ctr G i v _⟩

theorem State.SameInbound.modPort (h : s₀.SameInbound p s) {g : PortDyn → PortDyn}
    (hg : ∀ d, (g d).inbound = d.inbound := by exact fun _ => rfl) : s₀.SameInbound p (s.modPort p g) :=
  h.trans ⟨fun _ _ _ => rfl, fun _ _ => rfl, by rw [State.modPort_port_self, hg], fun _ => rfl, rfl, rfl⟩

theorem State.SameInbound.modLane (h : s₀.SameInbound p s) (l : Nat) {g : LaneDyn → LaneDyn}
    (hg : ∀ d, (g d).words = d.words := by exact fun _ => rfl) : s₀.SameInbound p (s.modLane l g) := by
  refine h.trans ⟨fun _ _ _ => rfl, fun _ _ => rfl, rfl, fun k => ?_, rfl, rfl⟩
  by_cases hk : k = l
  · rw [hk, State.modLane_lane_self, hg]
  · rw [State.modLane_lane_other _ _ hk]

theorem State.SameInbound.bump (h : s₀.SameInbound p s) {o : Nat} (h1 : o ≠ portCtr p 1) (h3 : o ≠ portCtr p 3) :
    s₀.SameInbound p (s.bump o) :=
  h.trans ⟨fun _ _ _ => rfl, fun _ _ => rfl, rfl, fun _ => rfl, State.bump_ctr_other s h1.symm, State.bump_ctr_other s h3.symm⟩

/-! ### The marker and the words of a lane -/

theorem laneCtr_ne_portCtr {i : Nat} (hp : p < 96) (hi : i < 32) (l j : Nat) : laneCtr l j ≠ portCtr p i := by
  unfold laneCtr portCtr
  omega

theorem State.SameInbound.sendBits (h : s₀.SameInbound p s) (l : Nat) (bits : List Bool) : s₀.SameInbound p (s.sendBits l bits) := by
  unfold State.sendBits
  exact h.modLane l

theorem State.SameInbound.emit (h : s₀.SameInbound p s) (o : Output) : s₀.SameInbound p (s.emit o) :=
  h.beside (State.emit_within (.refl _ s) o (by decide))

theorem State.SameInbound.sendWords (h : s₀.SameInbound p s) (l : Nat) (ws : List (BitVec 128)) : s₀.SameInbound p (s.sendWords l ws) := by
  unfold State.sendWords State.sendLine
  split
  · exact h.sendBits ..
  · exact (h.sendBits ..).emit _

theorem State.SameInbound.endTraining (h : s₀.SameInbound p s) (l : Nat) : s₀.SameInbound p (s.endTraining l) := by
  unfold State.endTraining
  split
  · exact (h.sendWords ..).modLane l
  · exact h

theorem State.SameInbound.putMarker (h : s₀.SameInbound p s) (hp : p < 96) (l state count seed next : Nat) :
    s₀.SameInbound p (s.putMarker l state count seed next) := by
  unfold State.putMarker
  extract_lets n data bs bits line counted sent seeded
  have hcounted : s₀.SameInbound p counted := by
    dsimp only [counted]
    split
    · exact h
    · exact h.bump (laneCtr_ne_portCtr hp (by decide) l 6) (laneCtr_ne_portCtr hp (by decide) l 6)
  have hsent : s₀.SameInbound p sent := (hcounted.modLane l).sendBits ..
  have hseeded : s₀.SameInbound p seeded := hsent.put JL_SEED.tx_seed l seed
  split
  · exact hseeded
  · exact hseeded.emit _

theorem State.SameInbound.sendMarker (h : s₀.SameInbound p s) (hp : p < 96) (l state : Nat) : s₀.SameInbound p (s.sendMarker l state) := by
  unfold State.sendMarker
  exact State.SameInbound.putMarker (State.SameInbound.modLane (h.beside (State.drawSeeds_within (.refl _ s) l (by decide))) l) hp ..

theorem State.SameInbound.openActive (h : s₀.SameInbound p s) (hp : p < 96) (l first mask : Nat) :
    s₀.SameInbound p (s.openActive l first mask) := by
  unfold State.openActive
  exact (((h.sendMarker hp l 0).put JL_STATUS.state l 5).modLane l).emit _

/-! ### Frames that a port sends -/

theorem State.SameInbound.queueUnits (h : s₀.SameInbound p s) (us : List (BitVec 128)) : s₀.SameInbound p (s.queueUnits p us) :=
  h.modPort

theorem State.SameInbound.noteAck (h : s₀.SameInbound p s) : s₀.SameInbound p (s.noteAck p) :=
  (h.modPort).beside (State.arm_within (.refl _ _) _ _ (by decide))

theorem State.SameInbound.quiet (h : s₀.SameInbound p s) : s₀.SameInbound p (s.quiet p) :=
  h.beside (State.quiet_within (.refl _ s) p (by decide))

theorem portCtr_ne {p i j : Nat} (h : i ≠ j) : portCtr p i ≠ portCtr p j := by
  unfold portCtr; omega

theorem State.SameInbound.sendTime (h : s₀.SameInbound p s) : s₀.SameInbound p (s.sendFrame p timeEg) := by
  unfold State.sendFrame
  extract_lets frame f e q w queued numbered counted sent
  have hqueued : s₀.SameInbound p queued := (h.emit _).queueUnits _
  have hnumbered : s₀.SameInbound p numbered := (hqueued.modPort).put JP_SEQ.tx_next p _
  have hcounted : s₀.SameInbound p counted :=
    (((hnumbered.put JP_REPLAY.bytes p _).put JP_REPLAY.frames p _).bump (portCtr_ne (by decide)) (portCtr_ne (by decide))).beside
      (State.armOnce_within (.refl _ _) _ _ (by decide))
  have hsent : s₀.SameInbound p sent := hcounted.beside (State.disarm_within (State.disarm_within (State.arm_within (.refl _ _) _ _ (by decide)) _
    (by decide)) _ (by decide))
  exact hsent.bump (portCtr_ne (by decide)) (portCtr_ne (by decide))

theorem State.SameInbound.endDoze (h : s₀.SameInbound p s) (hp : p < 96) : s₀.SameInbound p (s.endDoze p) := by
  unfold State.endDoze
  split
  · extract_lets awake opened
    have hawake : s₀.SameInbound p awake := (h.put JP_STATUS.tx_doze p 0).beside
      (State.disarm_within (State.disarm_within (.refl _ _) _ (by decide)) _ (by decide))
    have hopened : s₀.SameInbound p opened := State.each_keeps (s₀.SameInbound p ·) hawake _ fun _ l k =>
      (((k.modLane l).sendMarker hp l 3).endTraining l).openActive hp l ..
    split
    · exact hopened.modPort.sendTime
    · exact hopened
  · exact h

theorem State.SameInbound.sendIdle (h : s₀.SameInbound p s) (hp : p < 96) : s₀.SameInbound p (s.sendIdle p) := by
  unfold State.sendIdle
  extract_lets awake w
  have hawake : s₀.SameInbound p awake := h.endDoze hp
  split
  · exact hawake
  · exact (((hawake.emit _).queueUnits _).noteAck).quiet

theorem State.SameInbound.judgeHolds (h : s₀.SameInbound p s) : s₀.SameInbound p (s.judgeHolds p) :=
  State.each_keeps (s₀.SameInbound p ·) (h.put JP_STATUS.own_hold p _) _ fun _ _ k => k.put SCHED_RSV_VC.held _ _

theorem State.SameInbound.holdsChanged (h : s₀.SameInbound p s) (hp : p < 96) : s₀.SameInbound p (s.holdsChanged p) := by
  unfold State.holdsChanged
  extract_lets old judged
  have hjudged : s₀.SameInbound p judged := h.judgeHolds
  split
  · exact hjudged.sendIdle hp
  · exact hjudged

end

/-! ### A port that does not doze -/

section
variable {s : State} {p : Nat}

theorem State.endDoze_awake (h : s.get JP_STATUS.tx_doze p = 0) : s.endDoze p = s := by
  simp [State.endDoze, State.on, h]

end

end Sys2Proof.Machine
end


/-! Doze and sleep of a Joist port: what a port sends as it asks, agrees and refuses, and where its lanes stand as it enters doze. -/

section
namespace Sys2Proof.Machine

section
variable {s : State} {p : Nat}

/-! ### Entry into doze (R312, R343) -/

/-- What is left of the units of a port as its active period ends. -/
theorem State.endActive_txq (s : State) (p : Nat) (nulls : List Nat) : ((s.endActive p nulls).port p).txq =
    (layUnits (decide (0 < (s.port p).txCut)) (s.periodUnits p) (nulls.map ((if s.scarfed p then 2 else 1) * ·)) (s.port p).txq).2.1 := by
  unfold State.endActive
  rw [State.modPort_port_self]

theorem State.Only.periodUnits {t : State} {ks : List RegKind} {ps : List Area} (h : State.Only ks ps s t) (hctrl : .JP_CTRL ∉ ks)
    (hstatus : .JP_STATUS ∉ ks) : t.periodUnits p = s.periodUnits p := by
  simp only [State.periodUnits, h.scarfed (p := p) hctrl, h.get (F := JP_STATUS.tx_mask) hstatus]

/-- Time that passes changes nothing of a port's readiness to doze, or of the units that its period leaves. -/
theorem State.Only.dozeReady {t : State} (h : State.Only [] passing s t) (p : Nat) : t.dozeReady p = s.dozeReady p := by
  simp only [State.dozeReady, State.on, h.port (by decide), h.get (F := JP_STATUS.link_state) (by decide), h.get (F := JP_STATUS.tx_doze) (by decide),
    h.get (F := JP_TIMER1.doze_100ns) (by decide)]

theorem State.Only.endActive_txq {t : State} (h : State.Only [] passing s t) (p : Nat) (nulls : List Nat) :
    ((t.endActive p nulls).port p).txq = ((s.endActive p nulls).port p).txq := by
  rw [State.endActive_txq, State.endActive_txq, h.port (by decide), h.scarfed (by decide), h.periodUnits (by decide) (by decide)]

theorem State.endActive_only (s : State) (p : Nat) (nulls : List Nat) : State.Only [] [.ports, .lanes, .sent] s (s.endActive p nulls) :=
  (State.endActive_within (.refl _ s) p nulls (by decide)).only

theorem State.sendMarker_only (s : State) (l state : Nat) : State.Only [.JL_SEED] [.ctrs, .lanes, .freeCtr, .sent] s (s.sendMarker l state) :=
  (State.sendMarker_within (.refl _ s) l state (by decide)).only

/-- A lane of a port is one of the 192 of the module. -/
theorem State.portLanes_lt {l : Nat} (hp : p < 96) (h : l ∈ s.portLanes p) : l < 192 := by
  unfold State.portLanes State.members lowerOf at h
  split at h <;> simp at h <;> omega

/-- The transmitters of some lanes stop behind a doze marker: each of the lanes stands in doze. -/
theorem State.each_stopSending_state {ls : List Nat} {l : Nat} (hl : l < 192) (hmem : l ∈ ls) (s : State) :
    (s.each ls (fun s l => (s.sendMarker l 1).stopSending l)).get JL_STATUS.state l = 6 := by
  refine State.each_reaches (P := fun t => t.get JL_STATUS.state l = 6) (Q := fun _ => True) (fun _ _ _ => trivial) (fun t _ => ?_)
    (fun t k hk ht => ?_) hmem trivial
  · exact State.get_put_self hl (by decide)
  · have hmarker : (t.sendMarker k 1).get JL_STATUS.state l = 6 := ((t.sendMarker_only k 1).get (by decide) l).trans ht
    exact (State.get_put_index rfl (Ne.symm hk)).trans hmarker

/-- A quiet port whose units have all gone dozes, and its keepalive is due in 1 us. -/
theorem State.enterDoze_dozes (hp : p < 96) (hready : s.dozeReady p = true) (hspent : ((s.endActive p []).port p).txq = []) :
    (s.enterDoze p).get JP_STATUS.tx_doze p = 1 ∧ (∀ l ∈ s.portLanes p, (s.enterDoze p).get JL_STATUS.state l = 6)
      ∧ (s.enterDoze p).due (.doze p) = some ((s.enterDoze p).clock + 1000) := by
  have hlanes : (s.endActive p []).portLanes p = s.portLanes p := (s.endActive_only p []).portLanes (by decide) p
  unfold State.enterDoze
  rw [if_pos ⟨hready, hspent⟩, hlanes]
  refine ⟨?_, fun l hl => ?_, State.arm_due_self ..⟩
  · rw [State.arm_get, State.disarm_get]
    exact State.get_put_self hp (by decide)
  · rw [State.arm_get, State.disarm_get, State.get_put_kind (by decide)]
    exact State.each_stopSending_state (State.portLanes_lt hp hl) hl _

/-! ### Requests for sleep (R344, R349) -/

theorem State.sendPm_sends (s : State) (p code : Nat) : ∃ w, .pm p w code ∈ (s.sendPm p code).sent := by
  unfold State.sendPm State.noteAck State.queueUnits
  simp

theorem State.Only.sleepReady {t : State} (h : State.Only [] passing s t) (p : Nat) : t.sleepReady p = s.sleepReady p := by
  simp only [State.sleepReady, State.on, h.port (by decide), h.get (F := JP_STATUS.link_state) (by decide), h.get (F := JP_TIMER1.sleep_us) (by decide)]

/-- A port that meets the sleep conditions asks, and awaits the reply for 20 us. -/
theorem State.askSleep_asks (h : s.sleepReady p = true) : ((s.askSleep p).port p).sleepReq = true
    ∧ (s.askSleep p).due (.pmReply p) = some ((s.askSleep p).clock + 20000) ∧ ∃ w, .pm p w 1 ∈ (s.askSleep p).sent := by
  unfold State.askSleep
  rw [if_pos h]
  refine ⟨by simp, State.arm_due_self .., ?_⟩
  rw [State.arm_sent, State.modPort_sent]
  exact s.sendPm_sends p 1

/-- The exchange has succeeded: port `p` is committed to sleep and awaits no reply. -/
structure State.AgreesToSleep (s : State) (p : Nat) : Prop where
  ack : (s.port p).sleepAck = true
  asks : (s.port p).sleepReq = false
  waits : s.armed (.pmReply p) = false

theorem State.agreeSleep_agrees (s : State) (p : Nat) : (s.agreeSleep p).AgreesToSleep p := by
  unfold State.agreeSleep
  exact ⟨by simp, by simp, congrArg Option.isSome (State.disarm_due_self ..)⟩

theorem State.takeSleepReq_crossing (hlink : s.get JP_STATUS.link_state p = 3) (hreq : (s.port p).sleepReq = true) :
    s.takeSleepReq p = s.agreeSleep p := by
  simp [State.takeSleepReq, hlink, hreq]

theorem State.takeSleepReq_idle (hlink : s.get JP_STATUS.link_state p = 3) (hreq : (s.port p).sleepReq = false)
    (hdoze : s.get JP_STATUS.tx_doze p = 0) (hreplay : (s.port p).replay = []) (hegress : (s.port p).egress = []) :
    s.takeSleepReq p = (s.sendPm p 2).agreeSleep p := by
  simp [State.takeSleepReq, hlink, hreq, State.endDoze_awake hdoze, hreplay, hegress]

/-- A port with something to send refuses, once it has left doze. -/
theorem State.takeSleepReq_busy (hp : p < 96) (hlink : s.get JP_STATUS.link_state p = 3) (hreq : (s.port p).sleepReq = false)
    (hegress : (s.port p).egress ≠ []) : s.takeSleepReq p = (s.endDoze p).sendPm p 3 := by
  have hawake : ((s.endDoze p).port p).egress = (s.port p).egress := ((State.SameInbound.refl p s).endDoze hp).egress
  simp [State.takeSleepReq, hlink, hreq, hawake, hegress]

theorem State.SameInbound.sendPm {t : State} (h : s.SameInbound p t) (hp : p < 96) (code : Nat) : s.SameInbound p (t.sendPm p code) :=
  (((h.endDoze hp).emit _).queueUnits _).noteAck

/-- What has been sent stays sent while the port leaves doze. -/
theorem State.endDoze_sent {o : Output} (h : o ∈ s.sent) (p : Nat) : o ∈ (s.endDoze p).sent :=
  (State.endDoze_follows (.refl s) p).sent.subset h

theorem State.quiet_only (s : State) (p : Nat) : State.Only [] [.timers] s (s.quiet p) := (State.quiet_within (.refl _ s) p (by decide)).only

theorem State.armOnce_due_other (s : State) {t u : Timer} (dt : Nat) (h : u ≠ t) : (s.armOnce t dt).due u = s.due u := by
  unfold State.armOnce
  split
  · rfl
  · exact s.arm_due_other dt h

/-- The idle timers are not the other timers. -/
theorem State.quiet_due (s : State) {tm : Timer} (hdoze : tm ≠ .dozeIdle p) (hsleep : tm ≠ .sleepIdle p) : (s.quiet p).due tm = s.due tm := by
  have hone (t u : State) (b : Bool) (x : Timer) (n : Nat) (hx : tm ≠ x) (ht : t.due tm = u.due tm) :
      (if b then t.armOnce x n else t.disarm x).due tm = u.due tm := by
    split
    · exact (t.armOnce_due_other n hx).trans ht
    · exact (State.disarm_due_other t hx).trans ht
  exact hone _ _ _ _ _ hsleep (hone _ _ _ _ _ hdoze rfl)

/-- A request that is refused, or has no answer, is given up. -/
theorem State.sleepRefused_gives (h : (s.port p).sleepReq = true) :
    ((s.sleepRefused p).port p).sleepReq = false ∧ (s.sleepRefused p).armed (.pmReply p) = false := by
  unfold State.sleepRefused
  rw [if_pos h]
  refine ⟨?_, ?_⟩
  · rw [(State.quiet_only ..).port (by decide)]
    simp
  · rw [State.armed, State.quiet_due (tm := .pmReply p) _ nofun nofun, State.disarm_due_self]
    rfl

end

/-! ### The settled obligation -/

/-- Settles O49: entry into doze, the request, and what the arrival of each PM frame and the end of the wait for a reply do. -/
theorem portsDozeAndSleep : Obligations.PortsDozeAndSleep := by
  unfold Obligations.PortsDozeAndSleep
  intro s p
  have hup {g : State → State} (h : s.isUp = true) : s.whenUp g = g s := if_pos h
  refine ⟨fun hfires hready hspent => ⟨_, rfl, ?dozes⟩, fun hfires hready => ⟨_, rfl, ?asks⟩,
    fun hrun hlink => ⟨fun hreq => ⟨_, rfl, ?crosses⟩, fun hreq hdoze hreplay hegress => ⟨_, rfl, ?agrees⟩,
      fun hreq hegress => ⟨_, rfl, ?refuses⟩⟩,
    fun hrun hreq => ⟨⟨_, rfl, ?acked⟩, ⟨_, rfl, ?naked⟩⟩, fun hfires hreq => ⟨_, rfl, ?unanswered⟩⟩
  case dozes =>
    have hexpired := s.expire_only (.dozeIdle p)
    rw [State.onExpiry_fires hfires, ← hexpired.portLanes (by decide) p]
    exact State.enterDoze_dozes p.isLt ((hexpired.dozeReady p).trans hready) ((hexpired.endActive_txq p []).trans hspent)
  case asks =>
    rw [State.onExpiry_fires hfires]
    exact State.askSleep_asks (((s.expire_only _).sleepReady p).trans hready)
  case crosses =>
    rw [hup hrun, State.takeSleepReq_crossing hlink hreq]
    obtain ⟨hack, hasks, hwaits⟩ := s.agreeSleep_agrees p
    exact ⟨hack, hasks, hwaits⟩
  case agrees =>
    rw [hup hrun, State.takeSleepReq_idle hlink hreq hdoze hreplay hegress]
    obtain ⟨w, hw⟩ := s.sendPm_sends p 2
    exact ⟨((s.sendPm p 2).agreeSleep_agrees p).ack, w, State.endDoze_sent hw p⟩
  case refuses =>
    rw [hup hrun, State.takeSleepReq_busy p.isLt hlink hreq hegress]
    exact ⟨(((State.SameInbound.refl p s).endDoze p.isLt).sendPm p.isLt 3).sleepAck, State.sendPm_sends ..⟩
  case acked =>
    rw [hup hrun, State.takeSleepAck, if_pos hreq]
    obtain ⟨hack, hasks, hwaits⟩ := s.agreeSleep_agrees p
    exact ⟨hack, hasks, hwaits⟩
  case naked =>
    rw [hup hrun]
    exact State.sleepRefused_gives hreq
  case unanswered =>
    rw [State.onExpiry_fires hfires]
    exact State.sleepRefused_gives (((s.expire_only _).port (by decide) p).symm ▸ hreq)

end Sys2Proof.Machine
end


/-! Frames that a two-lane Joist port receives: the port word that its lanes have ready, the frame at the head of its stream, and what DATA,
LANE_SET and the first IDLE bring about. -/

section
namespace Sys2Proof.Machine

section
variable {p : Nat} {s s₀ t : State} {us : List RxUnit} {u v : RxUnit} {w : Word}

theorem State.lead_single (h : s.scarfed p = false) : s.lead p = p := by
  simp [State.lead, h]

theorem State.members_single (h : s.scarfed p = false) : s.members p = [p] := by
  simp [State.members, h]

/-- The stream of a two-lane port holds some units, and its lanes have no word ready. -/
structure State.HoldsUnits (p : Nat) (us : List RxUnit) (s : State) : Prop where
  single : s.scarfed p = false
  units : (s.port p).partial_ = us
  low : (s.lane (2 * p)).words = []
  high : (s.lane (2 * p + 1)).words = []

theorem State.SameInbound.scarfed (h : s.SameInbound p t) (q : Nat) : t.scarfed q = s.scarfed q := by
  rw [State.scarfed, State.on, State.get, h.config _ (by decide), ← State.get, ← State.on, ← State.scarfed]

theorem State.HoldsUnits.sameInbound (k : s.HoldsUnits p us) (h : s.SameInbound p t) : t.HoldsUnits p us :=
  ⟨(h.scarfed p).trans k.single, h.partial_.trans k.units, (h.words _).trans k.low, (h.words _).trans k.high⟩

/-! ### The end of what is ready -/

theorem State.followStream_empty (h : s.HoldsUnits p []) (n : Nat) : s.followStream p n = s := by
  cases n with
  | zero => rfl
  | succ n => simp [State.followStream, h.single, h.units, headPlain]

theorem State.takeSlots_empty (h : s.HoldsUnits p []) (n : Nat) : s.takeSlots p n = s := by
  cases n with
  | zero => rfl
  | succ n =>
    have hnone : s.takeUnits p = none := by
      unfold State.takeUnits
      have hheads : (([2 * p, 2 * p + 1].filter (fun l => s.scarfed p || natBit (s.port p).unitMask (l % 2))).filterMap
          (fun l => (s.lane l).words.head?)) = [] := by
        rw [List.filterMap_eq_nil_iff]
        intro l hl
        obtain rfl | rfl : l = 2 * p ∨ l = 2 * p + 1 := by simpa using List.mem_of_mem_filter hl
        · rw [h.low]; rfl
        · rw [h.high]; rfl
      simp only [hheads, List.map_nil, earliest]
    rw [State.takeSlots, hnone]

/-! ### The port word that is ready (R307, R321) -/

/-- The lanes of pair `p` have given the words of a slot. -/
def State.slotTaken (s : State) (p slot : Nat) : State :=
  s.each [2 * p, 2 * p + 1] (fun s l => s.modLane l (fun d => { d with words := d.words.dropWhile (fun h => noLater h.1 slot) }))

theorem noLater_self (n : Nat) : noLater n n = true := by
  simp [noLater]

/-- Both lanes of a pair have the word of one slot ready: the slot is a port word. -/
theorem State.takeUnits_pair {slot : Nat} (hmask : (s.port p).unitMask = 3)
    (hlow : (s.lane (2 * p)).words = [(slot, u)]) (hhigh : (s.lane (2 * p + 1)).words = [(slot, v)]) (hslot : slot % 4096 ≠ 0) :
    s.takeUnits p = some ((s.slotTaken p slot).addUnits p [u, v]) := by
  have hins : [2 * p, 2 * p + 1].filter (fun l => s.scarfed p || natBit (s.port p).unitMask (l % 2)) = [2 * p, 2 * p + 1] := by
    have hodd : (2 * p + 1) % 2 = 1 := by omega
    have heven : 2 * p % 2 = 0 := by omega
    have hboth : natBit 3 0 = true ∧ natBit 3 1 = true := by decide
    simp [hmask, hodd, heven, hboth]
  unfold State.takeUnits
  simp only [hins]
  simp [hlow, hhigh, earliest, noLater_self, hslot, State.slotTaken]

theorem State.slotTaken_words {slot : Nat} (hlow : (s.lane (2 * p)).words = [(slot, u)]) (hhigh : (s.lane (2 * p + 1)).words = [(slot, v)]) :
    ((s.slotTaken p slot).lane (2 * p)).words = [] ∧ ((s.slotTaken p slot).lane (2 * p + 1)).words = [] := by
  unfold State.slotTaken State.each
  simp only [List.foldl_cons, List.foldl_nil]
  refine ⟨?_, ?_⟩
  · rw [State.modLane_lane_other _ _ (by omega), State.modLane_lane_self]
    simp [hlow, noLater_self]
  · rw [State.modLane_lane_self, State.modLane_lane_other _ _ (by omega)]
    simp [hhigh, noLater_self]

theorem State.slotTaken_only (s : State) (p slot : Nat) : State.Only [] [.lanes] s (s.slotTaken p slot) :=
  (State.Within.each (.refl _ s) _ fun _ _ k => State.modLane_within k _ _ (by decide)).only

/-- A two-lane port follows its stream, which begins a frame, and its lanes have the words `u` and `v` of one data slot ready. -/
structure State.WordReady (p : Nat) (u v : RxUnit) (s : State) : Prop where
  single : s.scarfed p = false
  rxOpen : (s.port p).rxOpen = true
  framed : (s.port p).lost = false
  skips : (s.port p).skip = 0
  fresh : (s.port p).partial_ = []
  mask : (s.port p).unitMask = 3
  ready : ∃ slot, slot % 4096 ≠ 0 ∧ (s.lane (2 * p)).words = [(slot, u)] ∧ (s.lane (2 * p + 1)).words = [(slot, v)]

/-- The port takes the port word that is ready, which is its stream then. -/
theorem State.WordReady.drainLanes (k : s.WordReady p u v) : ∃ x, x.HoldsUnits p [u, v] ∧ State.Only [] [.ports, .lanes] s x
    ∧ x.port p = { s.port p with partial_ := [u, v] } ∧ s.drainLanes p = ((x.followStream p 4).takeSlots p 1).quiet p := by
  obtain ⟨hsingle, hopen, hlost, hskip, hpartial, hmask, slot, hslot, hlow, hhigh⟩ := k
  have hport : (s.slotTaken p slot).port p = s.port p := (s.slotTaken_only p slot).port (by decide) p
  have honly : State.Only [] [.ports, .lanes] s ((s.slotTaken p slot).addUnits p [u, v]) :=
    (State.addUnits_within (State.Within.each (.refl _ s) _ fun _ _ k => State.modLane_within k _ _ (by decide)) p _ (by decide)).only
  have hadded : ((s.slotTaken p slot).addUnits p [u, v]).port p = { s.port p with partial_ := [u, v] } := by
    rw [State.addUnits, State.modPort_port_self, hport]
    simp [hlost, hskip, hpartial]
  obtain ⟨hl, hh⟩ := State.slotTaken_words hlow hhigh
  have hstill : ((s.slotTaken p slot).addUnits p [u, v]).scarfed p = false := (honly.scarfed (by decide) p).trans hsingle
  have hslots : s.takeSlots p 2 = ((((s.slotTaken p slot).addUnits p [u, v]).followStream p 4).takeSlots p 1) := by
    rw [State.takeSlots, State.takeUnits_pair hmask hlow hhigh hslot]
    dsimp only
    rw [State.lead_single hsingle]
  refine ⟨_, ⟨hstill, congrArg PortDyn.partial_ hadded, hl, hh⟩, honly, hadded, ?_⟩
  simp [State.drainLanes, hopen, State.members_single hsingle, State.each, hlow, hhigh, hslots]

/-! ### The link word of a frame (R324, R328, R334, R339) -/

/-- With nothing to send, a port's egress does not move. -/
theorem State.pump_empty (h : (s.port p).egress = []) : s.pump p = s.noteStall p := by
  simp [State.pump, h, State.cutRds, State.pumpFrames]

theorem State.SameInbound.noteStall (h : s₀.SameInbound p s) : s₀.SameInbound p (s.noteStall p) := by
  unfold State.noteStall
  exact (h.put JP_REPLAY.stalled p _).modPort

theorem State.SameInbound.takeReq (h : s₀.SameInbound p s) (r : Nat) : s₀.SameInbound p (s.takeReq p r) := by
  unfold State.takeReq
  extract_lets m
  split
  · exact h
  split
  · exact h.modPort.beside (State.disarm_within (.refl _ _) _ (by decide))
  split
  · exact h
  · exact h.modPort.beside (State.arm_within (.refl _ _) _ _ (by decide))

/-- An ack that acknowledges nothing more is valid. -/
theorem State.takeAck_same (s : State) (p : Nat) : s.takeAck p (s.get JP_SEQ.tx_acked p) = some s := by
  simp [State.takeAck]

/-- The link word at the head of a stream is used where it acknowledges nothing more and nothing waits to be sent, or the port is not up, or
it is of no kind. -/
def State.PlainLink (s : State) (p : Nat) (w : Word) : Prop :=
  s.get JP_STATUS.link_state p ≠ 3 ∨ lwKind w = 0 ∨ (getBits w 32 12 = s.get JP_SEQ.tx_acked p ∧ (s.port p).egress = [])

theorem State.PlainLink.takeLink (h : s.PlainLink p w) : ∃ y, s.takeLink p w = some y ∧ s.SameInbound p y := by
  unfold State.takeLink
  by_cases hidle : s.get JP_STATUS.link_state p ≠ 3 ∨ lwKind w = 0
  · exact ⟨s, if_pos hidle, .refl p s⟩
  · obtain ⟨hack, hegress⟩ : getBits w 32 12 = s.get JP_SEQ.tx_acked p ∧ (s.port p).egress = [] := by
      obtain h | h | h := h
      · exact absurd (.inl h) hidle
      · exact absurd (.inr h) hidle
      · exact h
    have hheld := (State.SameInbound.refl p s).put JP_STATUS.far_hold p (getBits w 44 8 % 2 ^ s.vcCount p)
    refine ⟨_, by rw [if_neg hidle, hack, State.takeAck_same]; rfl, ?_⟩
    dsimp only
    rw [State.pump_empty (hheld.egress.trans hegress)]
    exact hheld.noteStall.takeReq _

theorem State.PlainLink.useHead (h : s.PlainLink p w) (hp : p < 96) : ∃ y, s.useHead p w = some y ∧ s.SameInbound p y := by
  unfold State.useHead
  split
  · exact ⟨s, rfl, .refl p s⟩
  · obtain ⟨y, hy, hsame⟩ := h.takeLink
    rw [hy]
    exact ⟨_, rfl, hsame.modPort.holdsChanged hp⟩

/-! ### The frame at the head of the stream (R325) -/

/-- The units of a frame leave the stream. -/
def State.headTaken (s : State) (p n : Nat) : State := s.modPort p (fun d => { d with partial_ := d.partial_.drop n, headUsed := none })

theorem State.HoldsUnits.headTaken (h : s.HoldsUnits p us) (n : Nat) : (s.headTaken p n).HoldsUnits p (us.drop n) :=
  ⟨h.single, by rw [State.headTaken, State.modPort_port_self, h.units], h.low, h.high⟩

/-- A frame at the head of the stream acts once its link word has been used. -/
theorem State.HoldsUnits.frame {n : Nat} {good : Bool} (h : s.HoldsUnits p us) (hp : p < 96)
    (hlink : s.get JP_STATUS.link_state p = 2 ∨ s.get JP_STATUS.link_state p = 3) (hhead : headPlain us = .frame n w good) (hplain : s.PlainLink p w) :
    ∃ y, s.SameInbound p y ∧ ∀ k, s.followStream p (k + 1) =
      (((y.headTaken p n).actFrame p (us.take n) w good).holdsChanged p).followStream p k := by
  obtain ⟨y, huse, hsame⟩ := hplain.useHead hp
  refine ⟨y, hsame, fun k => ?_⟩
  have hframe : s.takeFrame p n w good = ((y.headTaken p n).actFrame p (us.take n) w good).holdsChanged p := by
    rw [State.takeFrame, huse, ← (h.sameInbound hsame).units]
    rfl
  have hruns : ¬(s.get JP_STATUS.link_state p ≠ 2 ∧ s.get JP_STATUS.link_state p ≠ 3) := by omega
  rw [State.followStream]
  simp only [if_neg hruns, h.single, h.units, hhead, hframe, Bool.false_eq_true, if_false]

end

end Sys2Proof.Machine
end


/-! What the frames that a port takes bring about: DATA, LANE_SET and the first IDLE of training. -/

section
namespace Sys2Proof.Machine

section
variable {p : Nat} {s t x y : State} {us : List RxUnit} {u v : RxUnit} {w : Word} {f : Frame}

/-! ### Acceptance (R327, R331) -/

/-- Between the two states port `p` has accepted one DATA frame. -/
structure State.Accepts (p : Nat) (s t : State) : Prop where
  expected : t.get JP_SEQ.rx_expected p = (s.get JP_SEQ.rx_expected p + 1) % 4096
  counted : t.ctr (portCtr p 1) = s.ctr (portCtr p 1) + 1
  link : t.get JP_STATUS.link_state p = s.get JP_STATUS.link_state p
  holds : ∀ us, s.HoldsUnits p us → t.HoldsUnits p us

theorem State.Accepts.sameInbound (h : s.Accepts p t) (k : t.SameInbound p x) : s.Accepts p x :=
  ⟨k.expected.trans h.expected, k.accepted.trans h.counted, k.link.trans h.link,
    fun us hs => (h.holds us hs).sameInbound k⟩

theorem State.SameInbound.malformed (h : s.SameInbound p t) (f : Frame) (status : Nat) : s.SameInbound p (t.malformed p f status) :=
  (h.bump (portCtr_ne (by decide)) (portCtr_ne (by decide))).beside (State.jtLog_within (.refl _ _) _ _ _ _ _ _ _ (by decide))

/-- A frame in sequence that finds space, as one without payload does where none is overdrawn, is accepted. -/
theorem State.acceptFrame_accepts (hp : p < 96) (hvc : f.vc < s.vcCount p) (hseq : getBits w 20 12 = s.get JP_SEQ.rx_expected p)
    (hpayload : f.payload = []) (hspace : 0 ≤ s.freeSpace p f.vc) : s.Accepts p (s.acceptFrame p w f) := by
  have hfits : (!s.answersReserve p f && decide (s.freeSpace p f.vc < (f.payload.length : Nat))) = false := by
    simp [hpayload, hspace]
  unfold State.acceptFrame
  rw [if_neg (by omega), if_neg (not_not.mpr hseq), hfits, if_neg Bool.false_ne_true]
  extract_lets numbered due timed entered marked
  have hnumbered : s.Accepts p numbered := by
    refine ⟨?_, ?_, ?_, fun us h => ⟨?_, ?_, ?_, ?_⟩⟩
    · rw [State.bump_get]
      exact State.get_put_self hp (by decide)
    · rw [State.bump_ctr_self, State.put_ctr]
    · rw [State.bump_get]
      exact State.get_put_kind (by decide)
    · exact (((s.put_only ..).scarfed (by decide) p).trans h.single)
    · simpa [numbered] using h.units
    · simpa [numbered] using h.low
    · simpa [numbered] using h.high
  have htimed : s.Accepts p timed := by
    have hdue : s.Accepts p due := hnumbered.sameInbound (State.SameInbound.refl p numbered).modPort
    dsimp only [timed]
    split
    · exact hdue.sameInbound ((State.SameInbound.refl p due).beside (State.disarm_within (.refl _ _) _ (by decide)))
    · exact hdue
  have hentered : s.Accepts p entered := by
    dsimp only [entered]
    split
    · exact htimed.sameInbound ((State.SameInbound.refl p _).malformed ..)
    · refine ⟨htimed.expected, htimed.counted, htimed.link, fun us h => ?_⟩
      have k := htimed.holds us h
      exact ⟨k.single, by rw [State.modPort_port_self]; exact k.units, k.low, k.high⟩
  have hmarked : entered.SameInbound p marked := ((State.SameInbound.refl p entered).beside (State.disarm_within (State.disarm_within (.refl _ _) _
    (by decide)) _ (by decide))).holdsChanged hp
  split
  · exact hentered.sameInbound (hmarked.sendIdle hp)
  · exact hentered.sameInbound hmarked

/-- A frame out of sequence is counted and discarded. -/
theorem State.acceptFrame_repeats (hvc : f.vc < s.vcCount p) (hseq : getBits w 20 12 ≠ s.get JP_SEQ.rx_expected p) :
    s.acceptFrame p w f = s.bump (portCtr p 3) := by
  unfold State.acceptFrame
  rw [if_neg (by omega), if_pos hseq]

/-! ### Heads of a two-lane port (R323, R325) -/

theorem headPlain_data (hu : u.errored = false) (hv : v.errored = false) (hbad : badLink (unitWord u) = false) (hkind : lwKind (unitWord u) = 1)
    (hlen : lwLen (unitWord u) = 0) (hcopy : unitWord v = setBits (unitWord u) 63 1 1) : headPlain [u, v] = .frame 2 (unitWord u) true := by
  simp [headPlain, takeWhole, frameUnits, ceilDiv, hu, hv, hbad, hkind, hlen, hcopy]

theorem headPlain_laneSet (hu : u.errored = false) (hbad : badLink (unitWord u) = false) (hkind : lwKind (unitWord u) = 3) :
    headPlain [u, v] = .frame 1 (unitWord u) true := by
  simp [headPlain, hu, hbad, hkind]

theorem headPlain_idle (hu : u.errored = false) (hbad : badLink (unitWord u) = false) (hkind : lwKind (unitWord u) = 2)
    (hcopy : unitHigh u = setBits (unitWord u) 63 1 1) : headPlain [u, v] = .frame 1 (unitWord u) true := by
  simp [headPlain, hu, hbad, hkind, hcopy]

theorem unitWord_null (h : v.data = 0) : unitWord v = 0 := by
  simp [unitWord, RxUnit.bits, h]

theorem headPlain_null (hv : v.errored = false) (h : v.data = 0) : headPlain [v] = .frame 1 0 true := by
  have hword : badLink 0#64 = false ∧ lwKind 0#64 = 0 := by decide
  simp [headPlain, hv, unitWord_null h, hword]

/-! ### The rest of the port word -/

theorem State.HoldsUnits.settled (h : s.HoldsUnits p []) (hp : p < 96) (k n : Nat) :
    s.SameInbound p ((((s.holdsChanged p).followStream p k).takeSlots p n).quiet p) := by
  have hchanged := (State.SameInbound.refl p s).holdsChanged hp
  have hempty := h.sameInbound hchanged
  rw [State.followStream_empty hempty, State.takeSlots_empty hempty]
  exact hchanged.quiet

/-- Behind a frame of one unit stands a NULL unit: it leaves the stream, and nothing else that the port receives by changes. -/
theorem State.HoldsUnits.null (h : s.HoldsUnits p [v]) (hp : p < 96)
    (hlink : s.get JP_STATUS.link_state p = 2 ∨ s.get JP_STATUS.link_state p = 3) (hv : v.errored = false) (hdata : v.data = 0) (k n : Nat) :
    ∃ y, s.SameInbound p y ∧ (y.headTaken p 1).SameInbound p ((((s.holdsChanged p).followStream p (k + 1)).takeSlots p n).quiet p) := by
  have hchanged := (State.SameInbound.refl p s).holdsChanged hp
  have hunits := h.sameInbound hchanged
  obtain ⟨y, hsame, hfollows⟩ := hunits.frame hp (by rwa [hchanged.link]) (headPlain_null hv hdata) (.inr (.inl rfl))
  refine ⟨y, hchanged.trans hsame, ?_⟩
  rw [hfollows]
  exact ((hunits.sameInbound hsame).headTaken 1).settled hp k n

/-! ### DATA -/

theorem State.SameInbound.vcCount (h : s.SameInbound p t) : t.vcCount p = s.vcCount p := by
  simp only [State.vcCount, State.lead, h.scarfed, State.get, h.config _ (by decide : RegKind.JP_CFG ∈ inboundKinds), JP_CFG.vc_count]

/-- The space of a virtual channel is as it was where the head of the stream is not counted there. -/
theorem State.SameInbound.freeSpace (h : s.SameInbound p y) (hsingle : s.scarfed p = false) (hhead : (s.port p).headUsed = none) (n c : Nat) :
    (y.headTaken p n).freeSpace p c = s.freeSpace p c := by
  have hlead : (y.headTaken p n).lead p = p := State.lead_single ((h.scarfed p).trans hsingle)
  have hpart : (y.headTaken p n).word .JP_PART p = s.word .JP_PART p := h.config _ (by decide) p
  simp only [State.freeSpace, State.partition, State.reserveOf, State.ingressOf, State.answersReserve, hlead, State.lead_single hsingle, hpart]
  simp only [State.headTaken, State.modPort_port_self, h.ingress, h.reads, h.ltags, hhead]

/-- A DATA frame of a port that is up is to be accepted. -/
theorem State.HoldsUnits.data (h : s.HoldsUnits p [u, v]) (hp : p < 96) (hlink : s.get JP_STATUS.link_state p = 3)
    (hack : getBits (unitWord u) 32 12 = s.get JP_SEQ.tx_acked p) (hegress : (s.port p).egress = []) (hasks : (s.port p).sleepReq = false)
    (hhead : headPlain [u, v] = .frame 2 (unitWord u) true) (hkind : lwKind (unitWord u) = 1) (hlen : lwLen (unitWord u) = 0)
    (hvc : getBits (unitWord u) 17 3 < s.vcCount p) : ∃ y, s.SameInbound p y ∧ ∀ k, s.followStream p (k + 1) =
      (((y.headTaken p 2).acceptFrame p (unitWord u) (decodeFrame (unitWord u) (unitHigh u) (unitHigh v) [])).holdsChanged p).followStream p k := by
  obtain ⟨y, hsame, hfollows⟩ := h.frame hp (.inr hlink) hhead (.inr (.inr ⟨hack, hegress⟩))
  refine ⟨y, hsame, fun k => ?_⟩
  have hrefused : (y.headTaken p 2).sleepRefused p = y.headTaken p 2 := by
    simp [State.sleepRefused, State.headTaken, hsame.sleepReq, hasks]
  have hstate : (y.headTaken p 2).get JP_STATUS.link_state p = 3 := hsame.link.trans hlink
  have hcount : getBits (unitWord u) 17 3 < (y.headTaken p 2).vcCount p := hvc.trans_eq hsame.vcCount.symm
  rw [hfollows]
  simp [State.actFrame, hkind, hstate, Nat.not_le.mpr hcount, hrefused, hlen]

end

end Sys2Proof.Machine
end


/-! Links that carry frames: what a port takes of the port word that its lanes have ready, and what it sends as a timer ends. -/

section
namespace Sys2Proof.Machine

section
variable {p : Nat} {s t x y : State} {u v : RxUnit}

theorem State.freeSpace_taken (honly : State.Only [] [.ports, .lanes] s x) (hport : x.port p = { s.port p with partial_ := [u, v] })
    (hsingle : s.scarfed p = false) (c : Nat) : x.freeSpace p c = s.freeSpace p c := by
  have hlead : x.lead p = p := State.lead_single ((honly.scarfed (by decide) p).trans hsingle)
  simp only [State.freeSpace, State.partition, State.reserveOf, State.ingressOf, State.answersReserve, hlead, State.lead_single hsingle,
    honly.words .JP_PART (by decide), hport]

theorem State.Only.vcCount {ks : List RegKind} {ps : List Area} (h : State.Only ks ps s t) (hctrl : .JP_CTRL ∉ ks) (hcfg : .JP_CFG ∉ ks) :
    t.vcCount p = s.vcCount p := by
  rw [State.vcCount, State.lead, h.scarfed hctrl, h.get (F := JP_CFG.vc_count) hcfg, ← State.lead, ← State.vcCount]

/-- The port word that is ready is the head of a DATA frame without payload on a port in frame, with nothing to acknowledge. -/
structure State.DataReady (p : Nat) (u v : RxUnit) (s : State) : Prop where
  word : s.WordReady p u v
  frame : s.InFrame p
  correct : u.errored = false ∧ v.errored = false
  link : badLink (unitWord u) = false ∧ lwKind (unitWord u) = 1 ∧ lwLen (unitWord u) = 0
  copy : unitWord v = setBits (unitWord u) 63 1 1
  ack : getBits (unitWord u) 32 12 = s.get JP_SEQ.tx_acked p
  channel : getBits (unitWord u) 17 3 < s.vcCount p

/-- The frame is judged in a state in which nothing but its link word has been used. -/
theorem State.DataReady.judged (k : s.DataReady p u v) (hp : p < 96) : ∃ x y, State.Only [] [.ports, .lanes] s x
    ∧ x.port p = { s.port p with partial_ := [u, v] } ∧ x.SameInbound p y ∧ (y.headTaken p 2).HoldsUnits p []
    ∧ s.drainLanes p = ((((((y.headTaken p 2).acceptFrame p (unitWord u) (decodeFrame (unitWord u) (unitHigh u) (unitHigh v) [])).holdsChanged
      p).followStream p 3).takeSlots p 1).quiet p) := by
  obtain ⟨hword, hframe, ⟨hu, hv⟩, ⟨hbad, hkind, hlen⟩, hcopy, hack, hvc⟩ := k
  obtain ⟨x, hunits, honly, hport, hdrains⟩ := hword.drainLanes
  obtain ⟨y, hsame, hfollows⟩ := hunits.data hp ((honly.get (by decide) p).trans hframe.linked) (hack.trans (honly.get (by decide) p).symm)
    ((congrArg PortDyn.egress hport).trans hframe.egress) ((congrArg PortDyn.sleepReq hport).trans hframe.asks)
    (headPlain_data hu hv hbad hkind hlen hcopy) hkind hlen (hvc.trans_eq (honly.vcCount (by decide) (by decide)).symm)
  exact ⟨x, y, honly, hport, hsame, (hunits.sameInbound hsame).headTaken 2, by rw [hdrains, hfollows]⟩

theorem State.DataReady.accepted (k : s.DataReady p u v) (hp : p < 96) (hseq : getBits (unitWord u) 20 12 = s.get JP_SEQ.rx_expected p)
    (hspace : 0 ≤ s.freeSpace p (getBits (unitWord u) 17 3)) : (s.drainLanes p).get JP_SEQ.rx_expected p = (s.get JP_SEQ.rx_expected p + 1) % 4096
      ∧ (s.drainLanes p).ctr (portCtr p 1) = s.ctr (portCtr p 1) + 1 ∧ (s.drainLanes p).get JP_STATUS.link_state p = 3 := by
  obtain ⟨x, y, honly, hport, hsame, hempty, hdrains⟩ := k.judged hp
  have hexpected : (y.headTaken p 2).get JP_SEQ.rx_expected p = s.get JP_SEQ.rx_expected p := hsame.expected.trans (honly.get (by decide) p)
  have hroom : 0 ≤ (y.headTaken p 2).freeSpace p (getBits (unitWord u) 17 3) := by
    rw [hsame.freeSpace ((honly.scarfed (by decide) p).trans k.word.single) ((congrArg PortDyn.headUsed hport).trans k.frame.head),
      State.freeSpace_taken honly hport k.word.single]
    exact hspace
  have haccepts := State.acceptFrame_accepts (s := y.headTaken p 2) (f := decodeFrame (unitWord u) (unitHigh u) (unitHigh v) []) hp
    (k.channel.trans_eq ((hsame.vcCount.trans (honly.vcCount (by decide) (by decide))).symm)) (hseq.trans hexpected.symm) rfl hroom
  have hends := haccepts.sameInbound ((haccepts.holds _ hempty).settled hp 3 1)
  rw [← hdrains] at hends
  refine ⟨hends.expected.trans (by rw [hexpected]), hends.counted.trans (congrArg (· + 1) ?_), hends.link.trans ?_⟩
  · exact hsame.accepted.trans (honly.ctr (by decide) _)
  · exact hsame.link.trans ((honly.get (by decide) p).trans k.frame.linked)

theorem State.DataReady.repeated (k : s.DataReady p u v) (hp : p < 96) (hseq : getBits (unitWord u) 20 12 ≠ s.get JP_SEQ.rx_expected p) :
    (s.drainLanes p).get JP_SEQ.rx_expected p = s.get JP_SEQ.rx_expected p ∧ ((s.drainLanes p).port p).ingress = (s.port p).ingress
      ∧ (s.drainLanes p).ctr (portCtr p 3) = s.ctr (portCtr p 3) + 1 := by
  obtain ⟨x, y, honly, hport, hsame, hempty, hdrains⟩ := k.judged hp
  have hexpected : (y.headTaken p 2).get JP_SEQ.rx_expected p = s.get JP_SEQ.rx_expected p := hsame.expected.trans (honly.get (by decide) p)
  rw [State.acceptFrame_repeats (k.channel.trans_eq ((hsame.vcCount.trans (honly.vcCount (by decide) (by decide))).symm))
    (fun h => hseq (h.trans hexpected))] at hdrains
  have hcounted : ((y.headTaken p 2).bump (portCtr p 3)).HoldsUnits p [] := ⟨hempty.single, hempty.units, hempty.low, hempty.high⟩
  have hends := hcounted.settled hp 3 1
  rw [← hdrains] at hends
  refine ⟨hends.expected.trans hexpected, ?_, hends.repeated.trans ?_⟩
  · rw [hends.ingress, State.bump_port, State.headTaken, State.modPort_port_self]
    exact hsame.ingress.trans (by rw [hport])
  · rw [State.bump_ctr_self]
    exact congrArg (· + 1) (hsame.repeated.trans (honly.ctr (by decide) _))

/-! ### Frames of one unit (R338, R342) -/

/-- A frame of one unit changes the port's own data, and the NULL unit behind it nothing: what a port receives by stands as the frame has
left it. -/
theorem State.HoldsUnits.oneUnit (h : y.HoldsUnits p [u, v]) (hp : p < 96) {g : PortDyn → PortDyn} (hg : ∀ d, (g d).partial_ = d.partial_)
    (hlink : y.get JP_STATUS.link_state p = 2 ∨ y.get JP_STATUS.link_state p = 3) (hv : v.errored = false) (hdata : v.data = 0) (k n : Nat) :
    ∃ z, ((y.headTaken p 1).modPort p g).SameInbound p z
      ∧ (z.headTaken p 1).SameInbound p ((((((y.headTaken p 1).modPort p g).holdsChanged p).followStream p (k + 1)).takeSlots p n).quiet p) := by
  have htaken := h.headTaken 1
  have hunits : ((y.headTaken p 1).modPort p g).HoldsUnits p [v] :=
    ⟨htaken.single, by rw [State.modPort_port_self, hg]; exact htaken.units, htaken.low, htaken.high⟩
  exact hunits.null hp hlink hv hdata k n

/-- LANE_SET announces the mask and the period from which it holds. -/
theorem State.WordReady.laneSet (k : s.WordReady p u v) (hp : p < 96) (hlink : s.get JP_STATUS.link_state p = 3) (hegress : (s.port p).egress = [])
    (hu : u.errored = false) (hv : v.errored = false) (hbad : badLink (unitWord u) = false) (hkind : lwKind (unitWord u) = 3)
    (hack : getBits (unitWord u) 32 12 = s.get JP_SEQ.tx_acked p) (hdata : v.data = 0) :
    ((s.drainLanes p).port p).rxNext = some (u.bits 64 2, u.bits 72 8) := by
  obtain ⟨x, hunits, honly, hport, hdrains⟩ := k.drainLanes
  have hup : x.get JP_STATUS.link_state p = 3 := (honly.get (by decide) p).trans hlink
  obtain ⟨y, hsame, hfollows⟩ := hunits.frame hp (.inr hup) (headPlain_laneSet hu hbad hkind)
    (.inr (.inr ⟨hack.trans (honly.get (by decide) p).symm, by rw [hport]; exact hegress⟩))
  have hacts : (y.headTaken p 1).actFrame p [u] (unitWord u) true
      = (y.headTaken p 1).modPort p (fun d => { d with rxNext := some (u.bits 64 2, u.bits 72 8) }) := by
    have hsingle : (y.headTaken p 1).scarfed p = false := ((hunits.sameInbound hsame).headTaken 1).single
    simp [State.actFrame, hkind, hsingle]
  obtain ⟨z, hlaneSet, hends⟩ := (hunits.sameInbound hsame).oneUnit hp (g := fun d => { d with rxNext := some (u.bits 64 2, u.bits 72 8) })
    (fun _ => rfl) (.inr (hsame.link.trans hup)) hv hdata 2 1
  rw [hdrains, hfollows]
  simp only [List.take_succ_cons, List.take_zero, hacts]
  rw [hends.rxNext, State.headTaken, State.modPort_port_self]
  show (z.port p).rxNext = _
  rw [hlaneSet.rxNext, State.modPort_port_self]

/-- The first IDLE of training is noted; the port goes on training until its own active period has opened. -/
theorem State.WordReady.idle (k : s.WordReady p u v) (hp : p < 96) (hlink : s.get JP_STATUS.link_state p = 2) (hopened : (s.port p).opened = false)
    (hu : u.errored = false) (hv : v.errored = false) (hbad : badLink (unitWord u) = false) (hkind : lwKind (unitWord u) = 2)
    (hcopy : unitHigh u = setBits (unitWord u) 63 1 1) (hdata : v.data = 0) :
    ((s.drainLanes p).port p).idleSeen = true ∧ (s.drainLanes p).get JP_STATUS.link_state p = 2 := by
  obtain ⟨x, hunits, honly, hport, hdrains⟩ := k.drainLanes
  have htrains : x.get JP_STATUS.link_state p = 2 := (honly.get (by decide) p).trans hlink
  obtain ⟨y, hsame, hfollows⟩ := hunits.frame hp (.inl htrains) (headPlain_idle hu hbad hkind hcopy) (.inl (by rw [htrains]; decide))
  have hstill : y.get JP_STATUS.link_state p = 2 := hsame.link.trans htrains
  have hclosed : (y.port p).opened = false := hsame.opened.trans (by rw [hport]; exact hopened)
  have hacts : (y.headTaken p 1).actFrame p [u] (unitWord u) true = (y.headTaken p 1).modPort p (fun d => { d with idleSeen := true }) := by
    simp [State.actFrame, hkind, hstill, State.portUp, State.headTaken, hclosed]
  obtain ⟨z, hidle, hends⟩ := (hunits.sameInbound hsame).oneUnit hp (g := fun d => { d with idleSeen := true })
    (fun _ => rfl) (.inl hstill) hv hdata 2 1
  rw [hdrains, hfollows]
  simp only [List.take_succ_cons, List.take_zero, hacts]
  refine ⟨?_, hends.link.trans (hidle.link.trans hstill)⟩
  rw [hends.idleSeen, State.headTaken, State.modPort_port_self]
  show (z.port p).idleSeen = _
  rw [hidle.idleSeen, State.modPort_port_self]

end

end Sys2Proof.Machine
end


/-! A Joist port that goes down: nothing that ends with it changes the state of its link again. -/

section
namespace Sys2Proof.Machine

/-- The link of port `p` is in state `n`. -/
def State.LinkIn (p n : Nat) (s : State) : Prop := s.get JP_STATUS.link_state p = n

section
variable {p n : Nat} {s t : State}

theorem State.LinkIn.beside (h : s.LinkIn p n) (w : State.Within (besideMask [.JP_STATUS] []) s t) : t.LinkIn p n :=
  (w.get JP_STATUS.link_state p (by decide)).trans h

/-- A field beside the state of the link takes a value. -/
theorem State.LinkIn.put (h : s.LinkIn p n) (G : Fld) (i v : Nat)
    (hb : JP_STATUS.link_state.reg = G.reg → JP_STATUS.link_state.lo + JP_STATUS.link_state.len ≤ G.lo
      ∨ G.lo + G.len ≤ JP_STATUS.link_state.lo := by decide) :
    (s.put G i v).LinkIn p n :=
  (State.get_put_apart hb i p v).trans h

/-! ### What a port sends -/

theorem State.LinkIn.sendFrame (h : s.LinkIn p n) (q : Nat) (e : EgFrame) : (s.sendFrame q e).LinkIn p n :=
  h.beside (State.sendFrame_within (.refl _ s) q e (by decide))

theorem State.LinkIn.endDoze (h : s.LinkIn p n) (q : Nat) : (s.endDoze q).LinkIn p n := by
  unfold State.endDoze
  split
  · extract_lets awake opened
    have hawake : awake.LinkIn p n := (h.put JP_STATUS.tx_doze q 0).beside
      (State.disarm_within (State.disarm_within (.refl _ _) _ (by decide)) _ (by decide))
    have hopened : opened.LinkIn p n := hawake.beside (State.Within.each (.refl _ _) _ fun _ _ k =>
      State.openActive_within (State.endTraining_within (State.sendMarker_within (State.leaveIdle_within k _ (by decide)) _ _ (by decide)) _
        (by decide)) _ _ _ (by decide))
    split
    · exact (hopened.beside (State.modPort_within (.refl _ _) q _ (by decide))).sendFrame ..
    · exact hopened
  · exact h

theorem State.LinkIn.egressStep {q : Nat} (h : s.LinkIn p n) (ht : s.egressStep q = some t) : t.LinkIn p n := by
  unfold State.egressStep at ht
  split at ht
  · cases ht
  · split at ht
    · cases ht
    next e _ =>
      dsimp only at ht
      split at ht
      · cases ht
      · obtain rfl := Option.some.inj ht
        refine State.LinkIn.sendFrame (State.LinkIn.endDoze (h.beside (State.servedAt_within ?_ _ _ (by decide))) q) q _
        split
        · exact State.splitWrite_within (State.modPort_within (.refl _ s) q _ (by decide)) _ _ (by decide)
        · exact State.modPort_within (.refl _ s) q _ (by decide)

theorem State.LinkIn.pumpFrames {q : Nat} (k : Nat) (h : s.LinkIn p n) : (s.pumpFrames q k).LinkIn p n := by
  induction k generalizing s with
  | zero => exact h
  | succ k ih =>
    unfold State.pumpFrames
    split
    next hstep => exact ih (h.egressStep hstep)
    · exact h

theorem State.LinkIn.pump (h : s.LinkIn p n) (q : Nat) : (s.pump q).LinkIn p n :=
  ((h.beside (State.cutRds_within (.refl _ s) q _ (by decide))).pumpFrames _).beside (State.noteStall_within (.refl _ _) q (by decide))

theorem State.LinkIn.sendIdle (h : s.LinkIn p n) (q : Nat) : (s.sendIdle q).LinkIn p n := by
  unfold State.sendIdle
  extract_lets awake w
  have hawake : awake.LinkIn p n := h.endDoze q
  split
  · exact hawake
  · exact hawake.beside (State.quiet_within (State.noteAck_within (State.queueUnits_within (State.emit_within (.refl _ _) _ (by decide)) _ _
      (by decide)) _ (by decide)) q (by decide))

theorem State.LinkIn.judgeHolds (h : s.LinkIn p n) (q : Nat) : (s.judgeHolds q).LinkIn p n :=
  State.each_keeps (State.LinkIn p n) (h.put JP_STATUS.own_hold q _) _ fun _ _ k => k.put SCHED_RSV_VC.held _ _

theorem State.LinkIn.holdsChanged (h : s.LinkIn p n) (q : Nat) : (s.holdsChanged q).LinkIn p n := by
  unfold State.holdsChanged
  extract_lets old judged
  have hjudged : judged.LinkIn p n := h.judgeHolds q
  split
  · exact hjudged.sendIdle q
  · exact hjudged

/-! ### What ends with a port (R218) -/

theorem State.LinkIn.answerReads (h : s.LinkIn p n) (q : Nat) : (s.answerReads q).LinkIn p n := by
  unfold State.answerReads
  refine State.LinkIn.pump (State.LinkIn.holdsChanged (h.beside (State.Within.foldlPair ?_ (.refl _ s) _)) q) q
  rintro ⟨a, blocked⟩ r k
  dsimp only
  split
  · exact k
  · have hanswered := State.answerRead_within k q (4 * r.dws + 1) r (by decide)
    split
    next heq => exact State.setRead_within (by rw [heq] at hanswered; exact hanswered) q _ (by decide)
    next heq => exact State.dropRead_within (by rw [heq] at hanswered; exact hanswered) q _ (by decide)

theorem State.LinkIn.endRequests (h : s.LinkIn p n) (q : Nat) : (s.endRequests q).LinkIn p n := by
  unfold State.endRequests
  extract_lets d up frames counted cut writes reads lost mine asked
  have hcounted : counted.LinkIn p n := by
    dsimp only [counted]
    split
    · exact h
    · exact h.beside (State.bumpBy_within (.refl _ s) _ _ (by decide))
  have hwrites : writes.LinkIn p n := (hcounted.beside (State.modPort_within (.refl _ _) q _ (by decide))).beside
    (State.Within.each (.refl _ _) _ fun _ _ k => State.bump_within (State.bump_within k _ (by decide)) _ (by decide))
  have hreads : reads.LinkIn p n := hwrites.beside (State.Within.each (.refl _ _) _ fun _ _ k =>
    State.Within.ite k (State.countDown_within k _ _ _ (by decide)))
  have hlost : lost.LinkIn p n := hreads.beside (State.Within.each (.refl _ _) _ fun _ _ k => State.loseAt_within k _ (by decide))
  have hasked : asked.LinkIn p n := hlost.beside (State.Within.each (.refl _ _) _ fun _ _ k => State.modHost_within k _ _ (by decide))
  exact ((hasked.answerReads q).beside (State.noteReplay_within (.refl _ _) q (by decide))).put JP_REPLAY.stalled q 0

/-! ### Down (R345) -/

theorem State.mem_members (s : State) (p : Nat) : p ∈ s.members p := by
  unfold State.members lowerOf
  split
  · simp only [List.mem_cons, List.not_mem_nil, or_false]
    omega
  · exact List.mem_singleton_self p

theorem State.each_members_linkIn {ms : List Nat} (hp : p < 96) (hmem : p ∈ ms) (s : State) :
    (s.each ms (fun s m => s.put JP_STATUS.link_state m 5)).LinkIn p 5 := by
  refine State.each_reaches (P := State.LinkIn p 5) (Q := fun _ => True) (fun _ _ _ => trivial) (fun t _ => ?_) (fun t m hm k => ?_) hmem trivial
  · exact State.get_put_self hp (by decide)
  · exact (State.get_put_index rfl (Ne.symm hm)).trans k

/-- A port that is not down, in reset or disabled goes down with its cause, for 100 us. -/
theorem State.portDown_falls {cause : Nat} (hp : p < 96) (hlink : s.get JP_STATUS.link_state p ∉ [0, 1, 5, 6]) (hcause : cause < 16)
    (hheld : cause ∉ [7, 8, 11]) : PortFell p cause (s.portDown p cause) := by
  simp only [List.mem_cons, List.not_mem_nil, or_false, not_or] at hlink hheld
  obtain ⟨h0, h1, h5, h6⟩ := hlink
  obtain ⟨hc7, hc8, hc11⟩ := hheld
  unfold State.portDown
  extract_lets st stopped down logged lanes streams cleared ended reported planked
  rw [if_neg (by omega)]
  have hdown : down.LinkIn p 5 := State.each_members_linkIn hp (stopped.mem_members p) stopped
  have hlogged : logged.LinkIn p 5 := (hdown.put JP_DOWN_LOG.cause p cause).put JP_DOWN_TIME.devtime p _
  have hstreams : streams.LinkIn p 5 := (hlogged.beside (State.Within.each (.refl _ _) _ fun _ _ k => State.stopLane_within k _ _ (by decide))).beside
    (State.Within.each (.refl _ _) _ fun _ _ k => State.modPort_within (State.flag_within k JT_SCARF.in_progress _ _ (by decide)) _ _ (by decide))
  have hcleared : cleared.LinkIn p 5 := ((hstreams.put JP_STATUS.tx_doze p 0).put JP_STATUS.rx_doze p 0).put JP_STATUS.far_hold p 0
  have hplanked : planked.LinkIn p 5 := ((hcleared.endRequests p).judgeHolds p).beside
    (State.portPlank_within (State.report_within (.refl _ _) _ _ _ _ _ _ (by decide)) p (by decide))
  have hcauseLogged : logged.get JP_DOWN_LOG.cause p = cause :=
    (State.get_put_kind (by decide)).trans ((State.get_put_self hp (by decide)).trans (Nat.mod_eq_of_lt hcause))
  have hkept : State.Within (besideMask [.JP_DOWN_LOG] []) logged planked := by
    refine State.portPlank_within (State.report_within (State.judgeHolds_within (State.endRequests_within ?_ p (by decide)) p (by decide)) _ _ _ _ _ _
      (by decide)) p (by decide)
    refine State.put_within (State.put_within (State.put_within ?_ JP_STATUS.tx_doze p 0 (by decide)) JP_STATUS.rx_doze p 0 (by decide))
      JP_STATUS.far_hold p 0 (by decide)
    exact State.Within.each (State.Within.each (.refl _ _) _ fun _ _ k => State.stopLane_within k _ _ (by decide)) _ fun _ _ k =>
      State.modPort_within (State.flag_within k JT_SCARF.in_progress _ _ (by decide)) _ _ (by decide)
  rw [if_neg hc7, if_neg (by omega)]
  exact ⟨hplanked, (hkept.get JP_DOWN_LOG.cause p (by decide)).trans hcauseLogged, State.arm_due_self ..⟩

end

end Sys2Proof.Machine
end


/-! What a Joist port sends as a timer ends: an IDLE, its unacknowledged frames again, and the announcement of a transmit mask. -/

section
namespace Sys2Proof.Machine

section
variable {p m : Nat} {s t : State}

/-- The link word of a frame is the same where the sequence numbers and the status of the port are. -/
theorem State.Only.linkWord {ks : List RegKind} {ps : List Area} (h : State.Only ks ps s t) (hseq : .JP_SEQ ∉ ks) (hstatus : .JP_STATUS ∉ ks)
    (p kind len vc seq : Nat) : t.linkWord p kind len vc seq = s.linkWord p kind len vc seq := by
  simp only [State.linkWord, h.get (F := JP_SEQ.rx_expected) hseq, h.get (F := JP_STATUS.own_hold) hstatus,
    h.get (F := JP_STATUS.req_mask) hstatus]

/-! ### The idle interval (R328) -/

/-- A port that is up and does not doze sends an IDLE, which carries the ack, and starts the interval anew. -/
theorem State.idleDue_sends (hlink : s.get JP_STATUS.link_state p = 3) (hdoze : s.get JP_STATUS.tx_doze p = 0)
    (hmask : (s.port p).maskDue = none) : (s.idleDue p).sent = .idle p (s.linkWord p 2 0 0 0) :: s.sent ∧ ((s.idleDue p).port p).ackDue = false
      ∧ (s.idleDue p).due (.idleInterval p) = some ((s.idleDue p).clock + 256) := by
  have hidle : s.idleDue p =
      (((s.emit (.idle p (s.linkWord p 2 0 0 0))).queueUnits p (idleUnits (s.linkWord p 2 0 0 0))).noteAck p).quiet p := by
    simp [State.idleDue, State.sendIdle, State.endDoze_awake hdoze, State.on, hlink, hdoze, hmask]
  have hquiet := State.quiet_only (((s.emit (.idle p (s.linkWord p 2 0 0 0))).queueUnits p (idleUnits (s.linkWord p 2 0 0 0))).noteAck p) p
  rw [hidle]
  refine ⟨hquiet.areas .sent (by decide), ?_, ?_⟩
  · rw [hquiet.port (by decide), State.noteAck, State.arm_port, State.modPort_port_self]
  · rw [State.quiet_due (tm := .idleInterval p) _ nofun nofun, State.noteAck, State.arm_due_self]
    exact congrArg (fun c => some (c + 256)) (hquiet.areas .clock (by decide)).symm

/-! ### Replay (R330) -/

theorem State.resend_only (s : State) (p : Nat) (e : Nat × EgFrame) : State.Only [] [.ports, .sent] s (s.resend p e) :=
  (State.resend_within (.refl _ s) p e (by decide)).only

/-- A frame as it is sent again. -/
def State.replayed (s : State) (p : Nat) (e : Nat × EgFrame) : Output :=
  .frame p e.1 (s.linkWord p 1 e.2.frame.payload.length e.2.frame.vc e.1) e.2.frame

/-- Frames sent again leave in their order, each with the link word of now. -/
theorem State.each_resend_sent (rs : List (Nat × EgFrame)) (s : State) (p : Nat) :
    (s.each rs (State.resend · p)).sent = (rs.map (s.replayed p)).reverse ++ s.sent := by
  induction rs generalizing s with
  | nil => rfl
  | cons e rs ih =>
    have hsame : (s.resend p e).replayed p = s.replayed p := by
      funext x
      simp only [State.replayed, (s.resend_only p e).linkWord (by decide) (by decide)]
    have hfirst : (s.resend p e).sent = s.replayed p e :: s.sent := rfl
    calc ((s.resend p e).each rs (State.resend · p)).sent = (rs.map ((s.resend p e).replayed p)).reverse ++ (s.resend p e).sent := ih _
      _ = ((e :: rs).map (s.replayed p)).reverse ++ s.sent := by simp [hsame, hfirst]

/-- Below its limit the replay timer sends every unacknowledged frame again. -/
theorem State.replayAll_again (hp : p < 96) (hlink : s.get JP_STATUS.link_state p = 3) (hframes : (s.port p).replay ≠ [])
    (hlimit : s.get JP_REPLAY.replays p < max 1 (s.get JP_TIMER1.replay_limit p)) (hdoze : s.get JP_STATUS.tx_doze p = 0) :
    (s.replayAll p).get JP_REPLAY.replays p = s.get JP_REPLAY.replays p + 1 ∧ (s.replayAll p).ctr (portCtr p 6) = s.ctr (portCtr p 6) + 1
      ∧ (s.replayAll p).sent = ((s.port p).replay.map (s.replayed p)).reverse ++ s.sent := by
  have hbound : s.get JP_TIMER1.replay_limit p < 2 ^ 8 := getBits_lt ..
  unfold State.replayAll
  extract_lets rs awake counted resent
  rw [if_neg (by simp [rs, hframes, hlink]), if_neg (by omega)]
  have hawake : awake = s.put JP_REPLAY.replays p (s.get JP_REPLAY.replays p + 1) := by
    simp only [awake, State.endDoze_awake hdoze]
  have hcounted : State.Only [.JP_REPLAY] [.ctrs] s counted := by
    dsimp only [counted]
    rw [hawake]
    exact (State.bumpBy_within (State.bump_within (State.put_within (.refl _ s) JP_REPLAY.replays p _ (by decide)) _ (by decide)) _ _
      (by decide)).only
  have hresent : State.Only [] [.ports, .sent] counted (counted.each rs (State.resend · p)) :=
    (State.Within.each (.refl _ _) _ fun _ _ k => State.resend_within k _ _ (by decide)).only
  have hends : State.Only [] [.ports, .timers] (counted.each rs (State.resend · p)) (resent.arm (.replay p) (resent.replayNs p)) :=
    (State.arm_within (State.noteAck_within (.refl _ _) p (by decide)) _ _ (by decide)).only
  have hword : counted.replayed p = s.replayed p := by
    funext e
    simp only [State.replayed, hcounted.linkWord (by decide) (by decide)]
  refine ⟨?_, ?_, ?_⟩
  · rw [hends.get (by decide), hresent.get (by decide), State.bumpBy_get, State.bump_get, hawake]
    exact (State.get_put_self hp (by decide)).trans (Nat.mod_eq_of_lt (by show _ < 2 ^ 8; omega))
  · rw [hends.ctr (by decide), hresent.ctr (by decide)]
    dsimp only [counted]
    rw [State.bumpBy, State.setCtr_ctr_other _ _ (portCtr_ne (by decide)), State.bump_ctr_self, hawake, State.put_ctr]
  · rw [show _ = _ from hends.areas .sent (by decide), State.each_resend_sent, hword, show _ = _ from hcounted.areas .sent (by decide)]

/-- At its limit the replay timer takes the port down. -/
theorem State.replayAll_limit (hlink : s.get JP_STATUS.link_state p = 3) (hframes : (s.port p).replay ≠ [])
    (hlimit : max 1 (s.get JP_TIMER1.replay_limit p) ≤ s.get JP_REPLAY.replays p) : s.replayAll p = s.portDown p 2 := by
  unfold State.replayAll
  extract_lets rs
  rw [if_neg (by simp [rs, hframes, hlink]), if_pos hlimit]

/-! ### The transmit mask (R339) -/

theorem State.announceMask_announces (hp : p < 96) (hroom : ((s.port p).txq.map (fun us => us.length)).sum < s.periodUnits p) :
    (s.announceMask p m).get JP_STATUS.tx_mask p = s.get JP_STATUS.tx_mask p ∧ ((s.announceMask p m).port p).wantMask = none
      ∧ ((s.announceMask p m).port p).maskDue = some m ∧ ∃ w n, .laneSet p w m n ∈ (s.announceMask p m).sent := by
  unfold State.announceMask
  extract_lets n awake w c announced
  rw [if_neg (by omega)]
  refine ⟨?_, by simp, by simp, w, c, ?_⟩
  · have honly : State.Only [] [.ports, .timers, .sent] awake announced :=
      (State.noteAck_within (State.queueUnits_within (State.emit_within (.refl _ _) _ (by decide)) _ _ (by decide)) _ (by decide)).only
    rw [State.modPort_get, honly.get (by decide)]
    exact ((State.SameInbound.refl p s).endDoze hp).txMask
  · rw [State.modPort_sent]
    exact List.mem_cons_self

end

end Sys2Proof.Machine
end


/-! The statement on links: its premises hold in the state in which the lanes have taken their line bits, and in the state in which a timer has
expired. -/

section
namespace Sys2Proof.Machine

variable {s : State} {p : Nat} {lines : List LineIn}

/-- Line bits of a two-lane port: its lanes take them, and then the port takes the words that are ready. -/
theorem State.linesIn_single (hsingle : s.scarfed p = false) (hwf : wfLines lines.length = true) :
    s.accepted (wfLines lines.length) (s.linesIn p lines) =
      .next ((s.each ((s.portLanes p).zip lines) (fun s e => s.laneIn e.1 e.2)).drainLanes p) := by
  rw [State.accepted, if_pos hwf, State.linesIn, State.lead_single hsingle]

/-- The end of the wait for a mask change announces the mask that was asked for. -/
theorem State.txMaskEnds {m : Nat} (hfires : s.fires (.txMask p) = true) (hwant : (s.port p).wantMask = some m) :
    s.onExpiry (.txMask p) (fun s => match (s.port p).wantMask with
      | some m => s.announceMask p m
      | none => s) = (s.expire (.txMask p)).announceMask p m := by
  rw [State.onExpiry_fires hfires, (s.expire_only _).port (by decide), hwant]

/-- Settles O46: what each frame of the port word that is ready brings about, judged where its link word has been used, and what the port sends
as each timer ends. -/
theorem linksCarryFrames : Obligations.LinksCarryFrames := by
  unfold Obligations.LinksCarryFrames
  intro s p lines slot u v r
  refine ⟨fun hwf hsingle hrsingle hlow hhigh hslot hmask hu hv hbad => ?arrives, fun hfires hlink hdoze hmask => ⟨_, rfl, ?idleInterval⟩,
    fun hfires hlink hframes => ⟨fun hlimit hdoze => ⟨_, rfl, ?replays⟩, fun hlimit => ⟨_, rfl, ?falls⟩⟩,
    fun m hfires hwant hroom => ⟨_, congrArg Host.Outcome.next (State.txMaskEnds hfires hwant), ?announces⟩⟩
  case arrives =>
    have hlines := State.linesIn_single hsingle hwf
    refine ⟨fun hframe hack => ?inFrame, fun hlink hopen hclosed hlost hskip hpartial hhead hkind hcopy hdata => ⟨_, hlines, ?idle⟩⟩
    case inFrame =>
      have hword : r.WordReady p u v :=
        ⟨hrsingle, hframe.rxOpen, hframe.framed, hframe.skips, hframe.fresh, hmask, slot, hslot, hlow, hhigh⟩
      refine ⟨fun hkind hlen hcopy hvc => ?data, fun hkind hdata => ⟨_, hlines, ?laneSet⟩⟩
      case data =>
        have hready : r.DataReady p u v := ⟨hword, hframe, ⟨hu, hv⟩, ⟨hbad, hkind, hlen⟩, hcopy, hack, hvc⟩
        exact ⟨fun hseq hspace => ⟨_, hlines, hready.accepted p.isLt hseq hspace⟩, fun hseq => ⟨_, hlines, hready.repeated p.isLt hseq⟩⟩
      case laneSet => exact hword.laneSet p.isLt hframe.linked hframe.egress hu hv hbad hkind hack hdata
    case idle =>
      have hword : r.WordReady p u v := ⟨hrsingle, hopen, hlost, hskip, hpartial, hmask, slot, hslot, hlow, hhigh⟩
      exact hword.idle p.isLt hlink hclosed hu hv hbad hkind hcopy hdata
  case idleInterval =>
    have hexpired := s.expire_only (.idleInterval p)
    have hport : (s.expire (.idleInterval p)).port p = s.port p := hexpired.port (by decide) p
    obtain ⟨hsent, hack, hdue⟩ := State.idleDue_sends ((hexpired.get (by decide) p).trans hlink) ((hexpired.get (by decide) p).trans hdoze)
      ((congrArg PortDyn.maskDue hport).trans hmask)
    rw [State.onExpiry_fires hfires]
    rw [hexpired.linkWord (by decide) (by decide), show _ = _ from hexpired.areas .sent (by decide)] at hsent
    exact ⟨hsent, hack, hdue⟩
  case replays =>
    have hexpired := s.expire_only (.replay p)
    have hport : (s.expire (.replay p)).port p = s.port p := hexpired.port (by decide) p
    have hcount : (s.expire (.replay p)).get JP_REPLAY.replays p = s.get JP_REPLAY.replays p := hexpired.get (by decide) p
    have hmax : (s.expire (.replay p)).get JP_TIMER1.replay_limit p = s.get JP_TIMER1.replay_limit p := hexpired.get (by decide) p
    obtain ⟨hreplays, hctr, hsent⟩ := State.replayAll_again p.isLt ((hexpired.get (by decide) p).trans hlink)
      (by rwa [hport]) (by rwa [hcount, hmax]) ((hexpired.get (by decide) p).trans hdoze)
    have hagain : (s.expire (.replay p)).replayed p = s.replayed p := by
      funext e
      simp only [State.replayed, hexpired.linkWord (by decide) (by decide)]
    rw [State.onExpiry_fires hfires]
    rw [hcount] at hreplays
    rw [hexpired.ctr (by decide)] at hctr
    rw [hagain, hport, show _ = _ from hexpired.areas .sent (by decide)] at hsent
    exact ⟨hreplays, hctr, hsent⟩
  case falls =>
    have hexpired := s.expire_only (.replay p)
    have hup : (s.expire (.replay p)).get JP_STATUS.link_state p = 3 := (hexpired.get (by decide) p).trans hlink
    have hlimited : (s.expire (.replay p)).replayAll p = (s.expire (.replay p)).portDown p 2 :=
      State.replayAll_limit hup (by rwa [hexpired.port (by decide)])
        (by rwa [hexpired.get (F := JP_TIMER1.replay_limit) (by decide), hexpired.get (F := JP_REPLAY.replays) (by decide)])
    rw [State.onExpiry_fires hfires, hlimited]
    exact State.portDown_falls p.isLt (by rw [hup]; decide) (by decide) (by decide)
  case announces =>
    have hexpired := s.expire_only (.txMask p)
    obtain ⟨hmask, hasked, hdue, hsent⟩ := State.announceMask_announces (m := m) p.isLt
      (by rwa [hexpired.port (by decide), hexpired.periodUnits (by decide) (by decide)] : _ < (s.expire (.txMask p)).periodUnits p)
    exact ⟨hmask.trans (hexpired.get (by decide) p), hasked, hdue, hsent⟩

end Sys2Proof.Machine
end


/-! A lane that a port drops and asks back (R340): what the port keeps as it tells the far end the mask that it asks for, and what the exclusion
of a lane, the end of the wait for the far end and a lane that has locked again bring about. -/

section
namespace Sys2Proof.Machine

section
variable {p x : Nat} {s t : State}

/-! ### What an IDLE leaves as it was (R328, R343) -/

theorem State.Only.due {ks : List RegKind} {ps : List Area} (h : State.Only ks ps s t) (ht : .timers ∉ ps) (tm : Timer) :
    t.due tm = s.due tm := by
  rw [State.due, show _ = _ from h.areas .timers ht, ← State.due]

theorem State.SameInbound.maskDue (h : s.SameInbound p t) : (t.port p).maskDue = (s.port p).maskDue := by
  show (t.port p).inbound.maskDue = (s.port p).inbound.maskDue
  rw [h.port]

theorem State.SameInbound.excluded (h : s.SameInbound p t) : (t.port p).excluded = (s.port p).excluded := by
  show (t.port p).inbound.excluded = (s.port p).inbound.excluded
  rw [h.port]

/-- Timers that a port starts and stops as it sends an IDLE or a TIME frame and leaves doze. -/
def sendTimers (p : Nat) : List Timer := [.replay p, .idleInterval p, .doze p, .dozeIdle p, .sleepIdle p]

theorem not_mem_sendTimers {tm : Timer} : tm ∉ sendTimers p ↔
    tm ≠ .replay p ∧ tm ≠ .idleInterval p ∧ tm ≠ .doze p ∧ tm ≠ .dozeIdle p ∧ tm ≠ .sleepIdle p := by
  simp [sendTimers]

/-- Lanes that leave doze, as `State.endDoze` opens them, touch no register of their port and no timer. -/
theorem State.openLanes_only (s : State) (p : Nat) (ls : List Nat) : State.Only [.JL_SEED, .JL_STATUS] [.ctrs, .lanes, .freeCtr, .sent] s
    (s.each ls (fun s l => (((s.leaveIdle l).sendMarker l 3).endTraining l).openActive l 0 (s.get JP_STATUS.tx_mask p))) :=
  (State.Within.each (.refl _ _) _ fun _ _ k => State.openActive_within (State.endTraining_within (State.sendMarker_within
    (State.leaveIdle_within k _ (by decide)) _ _ (by decide)) _ (by decide)) _ _ _ (by decide)).only

/-- The end of doze changes tx_doze alone of JP_STATUS, and the mask asked for stays. -/
theorem State.endDoze_reqMask (s : State) (p : Nat) : (s.endDoze p).get JP_STATUS.req_mask p = s.get JP_STATUS.req_mask p := by
  unfold State.endDoze
  split
  · extract_lets awake opened
    have hawake : awake.get JP_STATUS.req_mask p = s.get JP_STATUS.req_mask p := by
      simp only [awake, State.disarm_get]
      exact State.get_put_apart (by decide) ..
    have hopened : opened.get JP_STATUS.req_mask p = s.get JP_STATUS.req_mask p := ((awake.openLanes_only ..).get (by decide) p).trans hawake
    have htime : State.Within (besideMask [.JP_STATUS] []) opened
        ((opened.modPort p (fun d => { d with timeDue := false })).sendFrame p timeEg) :=
      State.sendFrame_within (State.modPort_within (.refl _ _) _ _ (by decide)) _ _ (by decide)
    split
    · exact (htime.get JP_STATUS.req_mask p (by decide)).trans hopened
    · exact hopened
  · rfl

/-- A TIME frame starts and stops the timers of sending alone. -/
theorem State.sendTime_due {tm : Timer} (htm : tm ∉ sendTimers p) : (s.sendFrame p timeEg).due tm = s.due tm := by
  obtain ⟨hreplay, hidle, -, hdoze, hsleep⟩ := not_mem_sendTimers.mp htm
  unfold State.sendFrame
  extract_lets frame f e q w queued numbered counted sent
  have hnumbered : numbered.due tm = s.due tm := by simp [numbered, queued, State.queueUnits]
  have hcounted : counted.due tm = numbered.due tm := by
    dsimp only [counted]
    rw [State.armOnce_due_other _ _ hreplay, State.bump_due]
    simp [State.noteReplay]
  have hsent : sent.due tm = counted.due tm := by
    dsimp only [sent]
    rw [State.disarm_due_other _ hsleep, State.disarm_due_other _ hdoze, State.arm_due_other _ _ hidle]
  exact (State.bump_due sent _ tm).trans (hsent.trans (hcounted.trans hnumbered))

theorem State.endDoze_due {tm : Timer} (htm : tm ∉ sendTimers p) : (s.endDoze p).due tm = s.due tm := by
  unfold State.endDoze
  split
  · extract_lets awake opened
    have hawake : awake.due tm = s.due tm := by
      obtain ⟨-, -, hdoze, hquiet, -⟩ := not_mem_sendTimers.mp htm
      dsimp only [awake]
      rw [State.disarm_due_other _ hquiet, State.disarm_due_other _ hdoze, State.put_due]
    have hopened : opened.due tm = s.due tm := ((awake.openLanes_only ..).due (by decide) tm).trans hawake
    split
    · rw [State.sendTime_due htm, State.modPort_due, hopened]
    · exact hopened
  · rfl

theorem State.sendIdle_reqMask (s : State) (p : Nat) : (s.sendIdle p).get JP_STATUS.req_mask p = s.get JP_STATUS.req_mask p := by
  unfold State.sendIdle
  extract_lets awake w
  have hawake : awake.get JP_STATUS.req_mask p = s.get JP_STATUS.req_mask p := s.endDoze_reqMask p
  have hidle : State.Within (besideMask [.JP_STATUS] []) awake ((((awake.emit (.idle p w)).queueUnits p (idleUnits w)).noteAck p).quiet p) :=
    State.quiet_within (State.noteAck_within (State.queueUnits_within (State.emit_within (.refl _ _) _ (by decide)) _ _ (by decide)) _
      (by decide)) p (by decide)
  split
  · exact hawake
  · exact (hidle.get JP_STATUS.req_mask p (by decide)).trans hawake

theorem State.sendIdle_due {tm : Timer} (htm : tm ∉ sendTimers p) : (s.sendIdle p).due tm = s.due tm := by
  obtain ⟨-, hidle, -, hquiet, hsleep⟩ := not_mem_sendTimers.mp htm
  unfold State.sendIdle
  extract_lets awake w
  have hawake : awake.due tm = s.due tm := State.endDoze_due htm
  split
  · exact hawake
  · rw [State.quiet_due _ hquiet hsleep, State.noteAck, State.arm_due_other _ _ hidle, State.modPort_due, State.queueUnits, State.modPort_due,
      State.emit_due, hawake]

/-- An IDLE leaves unless a LANE_SET has been sent whose mask is still due. -/
theorem State.sendIdle_sends (hp : p < 96) (hmask : (s.port p).maskDue = none) : ∃ w, .idle p w ∈ (s.sendIdle p).sent := by
  have hawake : ((s.endDoze p).port p).maskDue = none := ((State.SameInbound.refl p s).endDoze hp).maskDue.trans hmask
  unfold State.sendIdle
  extract_lets awake w
  rw [if_neg (by simp [awake, hawake])]
  refine ⟨w, ?_⟩
  rw [show _ = _ from (State.quiet_only ..).areas .sent (by decide)]
  exact List.mem_cons_self

/-! ### The mask that is asked for is told (R338, R340) -/

/-- Watching a lane's lock leaves the wait for the far end's answer as it is. -/
theorem State.watchLock_due (s : State) (l p : Nat) : (s.watchLock l).due (.laneSet p) = s.due (.laneSet p) := by
  unfold State.watchLock
  extract_lets q loss
  have hrelock : Timer.laneSet p ≠ .relock q := nofun
  have hloss : loss.due (.laneSet p) = s.due (.laneSet p) := by
    dsimp only [loss]
    split
    · exact State.armOnce_due_other s _ nofun
    · exact State.disarm_due_other s nofun
  split
  · rfl
  · split
    · split
      · exact (State.armOnce_due_other loss _ hrelock).trans hloss
      · exact (State.disarm_due_other loss hrelock).trans hloss
    · exact (State.disarm_due_other loss hrelock).trans hloss

/-- From `s` to `t` port `p` tells the far end the mask that it asks for, which stays, with the lane it excludes and the timer for the far
end's answer. -/
structure State.TellsMask (p : Nat) (s t : State) : Prop where
  excluded : (t.port p).excluded = (s.port p).excluded
  asked : t.get JP_STATUS.req_mask p = s.get JP_STATUS.req_mask p
  answer : t.due (.laneSet p) = s.due (.laneSet p)
  clock : t.clock = s.clock
  told : ∃ w, .idle p w ∈ t.sent

/-- A lane's lock is watched anew, and an IDLE carries the mask. -/
theorem State.watchLock_sendIdle_tellsMask (hp : p < 96) (hmask : (s.port p).maskDue = none) (l : Nat) :
    State.TellsMask p s ((s.watchLock l).sendIdle p) := by
  have hwatch : State.Within (listMask [] [.timers]) s (s.watchLock l) := State.watchLock_within (.refl _ s) l (by decide)
  have hport : (s.watchLock l).port p = s.port p := hwatch.only.port (by decide) p
  exact {
    excluded := ((State.SameInbound.refl p _).sendIdle hp).excluded.trans (congrArg PortDyn.excluded hport)
    asked := (State.sendIdle_reqMask ..).trans (hwatch.only.get (by decide) p)
    answer := (State.sendIdle_due (by simp [sendTimers])).trans (s.watchLock_due l p)
    clock := ((State.sendIdle_within (μ := besideMask [] [.clock]) (.refl _ _) p (by decide)).areas .clock (by decide)).trans
      (hwatch.areas .clock (by decide))
    told := State.sendIdle_sends hp ((congrArg PortDyn.maskDue hport).trans hmask) }

/-! ### A lane is excluded, and asked back (R340) -/

/-- What makes a port exclude its lane `x`: of its two lanes, both in service, the lane has lost symbol lock and the other keeps it. -/
structure State.DropsLane (s : State) (p x : Nat) : Prop where
  linked : s.get JP_STATUS.link_state p = 3
  single : s.scarfed p = false
  auto : s.get JP_CTRL.auto_lane_drop p = 1
  whole : (s.port p).excluded = none
  served : s.inService (2 * p + x) = true
  lost : s.symbolLock (2 * p + x) = false
  otherServed : s.inService (2 * p + (1 - x)) = true
  otherLocked : s.symbolLock (2 * p + (1 - x)) = true

theorem State.Only.periodNs {ks : List RegKind} {ps : List Area} (h : State.Only ks ps s t) (hctrl : .JP_CTRL ∉ ks) (hcfg : .JP_CFG ∉ ks) :
    t.periodNs p = s.periodNs p := by
  simp only [State.periodNs, State.lead, h.scarfed (p := p) hctrl, h.get (F := JP_CFG.rate) hcfg]

/-- The port excludes the lane, gives the far end its time, and tells it. -/
theorem State.DropsLane.dropLane (h : s.DropsLane p x) : s.dropLane p x =
    ((((s.modPort p (fun d => { d with excluded := some x })).put JP_STATUS.req_mask p (2 - x)).arm (.laneSet p)
      (2 * s.periodNs p + 1000)).watchLock (2 * p)).sendIdle p := by
  have hperiod : ((s.modPort p (fun d => { d with excluded := some x })).put JP_STATUS.req_mask p (2 - x)).periodNs p = s.periodNs p :=
    (State.put_within (State.modPort_within (.refl _ s) p _ (by decide)) JP_STATUS.req_mask p _ (by decide) :
      State.Within (listMask [.JP_STATUS] [.ports]) s _).only.periodNs (by decide) (by decide)
  rw [State.dropLane, if_pos]
  · simp only [hperiod]
  · simp [State.on, h.linked, h.single, h.auto, h.whole, h.served, h.lost, h.otherServed, h.otherLocked]

/-- The lane is excluded, the other alone is asked for, and the far end has two periods and 1 us to comply. -/
theorem State.DropsLane.excludes (h : s.DropsLane p x) (hp : p < 96) (hmask : (s.port p).maskDue = none) :
    ((s.dropLane p x).port p).excluded = some x ∧ (s.dropLane p x).get JP_STATUS.req_mask p = 2 - x
      ∧ (s.dropLane p x).due (.laneSet p) = some ((s.dropLane p x).clock + (2 * s.periodNs p + 1000))
      ∧ ∃ w, .idle p w ∈ (s.dropLane p x).sent := by
  rw [h.dropLane]
  obtain ⟨hexcluded, hasked, hanswer, hclock, htold⟩ := State.watchLock_sendIdle_tellsMask (p := p)
    (s := ((s.modPort p (fun d => { d with excluded := some x })).put JP_STATUS.req_mask p (2 - x)).arm (.laneSet p) (2 * s.periodNs p + 1000))
    hp (by simpa using hmask) (2 * p)
  refine ⟨hexcluded.trans (by simp), hasked.trans ?_, ?_, htold⟩
  · rw [State.arm_get, State.get_put_self hp (by decide)]
    exact Nat.mod_eq_of_lt (by show _ < 2 ^ 2; omega)
  · rw [hanswer, hclock, State.arm_due_self]
    rfl

/-- An excluded lane that the far end still serves takes the port down. -/
theorem State.laneSetFailed_falls (hexcluded : (s.port p).excluded = some x) (hserved : natBit (s.get JP_STATUS.rx_mask p) x = true) :
    s.laneSetFailed p = s.portDown p 6 := by
  simp [State.laneSetFailed, hexcluded, hserved]

/-- The excluded lane serves again, and both lanes are asked for. -/
theorem State.relockLane_asksBack (hp : p < 96) (hexcluded : (s.port p).excluded = some x) (hmask : (s.port p).maskDue = none) :
    ((s.relockLane p).port p).excluded = none ∧ (s.relockLane p).get JP_STATUS.req_mask p = 3 ∧ ∃ w, .idle p w ∈ (s.relockLane p).sent := by
  rw [State.relockLane, if_pos (by simp [hexcluded])]
  obtain ⟨hnone, hasked, -, -, htold⟩ := State.watchLock_sendIdle_tellsMask (p := p)
    (s := (s.modPort p (fun d => { d with excluded := none })).put JP_STATUS.req_mask p 3) hp (by simpa using hmask) (2 * p)
  exact ⟨hnone.trans (by simp), hasked.trans (State.get_put_self hp (by decide)), htold⟩

end

/-- Settles O47: the exclusion, and what the end of the wait for the far end and of the wait for lock bring about in the state in which the
timer has expired. -/
theorem lanesDrop : Obligations.LanesDrop := by
  unfold Obligations.LanesDrop
  intro s p x
  refine ⟨fun hup hlink hsingle hauto hwhole hmask hserved hlost hother hlocked => ⟨_, rfl, ?excludes⟩,
    fun hfires hlink hexcluded hserved => ⟨_, rfl, ?falls⟩, fun hfires hexcluded hmask => ⟨_, rfl, ?asksBack⟩⟩
  case excludes =>
    have hdrops : s.DropsLane p x := ⟨hlink, hsingle, hauto, hwhole, hserved, hlost, hother, hlocked⟩
    rw [State.whenUp, if_pos hup]
    exact hdrops.excludes p.isLt hmask
  case falls =>
    have hexpired := s.expire_only (.laneSet p)
    have hup : (s.expire (.laneSet p)).get JP_STATUS.link_state p = 3 := (hexpired.get (by decide) p).trans hlink
    rw [State.onExpiry_fires hfires, State.laneSetFailed_falls (by rwa [hexpired.port (by decide)])
      (by rwa [hexpired.get (F := JP_STATUS.rx_mask) (by decide)])]
    exact State.portDown_falls p.isLt (by rw [hup]; decide) (by decide) (by decide)
  case asksBack =>
    have hport : (s.expire (.relock p)).port p = s.port p := (s.expire_only _).port (by decide) p
    rw [State.onExpiry_fires hfires]
    exact State.relockLane_asksBack p.isLt (by rwa [hport]) (by rwa [hport])

end Sys2Proof.Machine
end

/-! Automatic end of service: what a grant of the Peg output leaves of a source's state, whichever candidate it serves. -/

section
namespace Sys2Proof.Machine

/-- A field of the same register beside the loaded one reads as before at every index. -/
theorem State.get_put_disjoint {s : State} {F G : Fld} {i v : Nat} (hr : G.reg = F.reg) (hb : G.lo + G.len ≤ F.lo ∨ F.lo + F.len ≤ G.lo)
    (j : Nat) : (s.put F i v).get G j = s.get G j := by
  by_cases hj : j = i
  · subst hj
    exact State.get_put_beside hr hb
  · exact State.get_put_index hr hj

/-! ### Steps that leave the states of the sources -/

/-- No source changes its state, and auto_eos is in effect for the same sources. -/
structure State.PegsStay (s t : State) : Prop where
  auto : ∀ j, t.pegAuto j = s.pegAuto j
  state : ∀ j, t.get PEG_SRC_STATUS.state j = s.get PEG_SRC_STATUS.state j

/-- Mask of everything but what tells the state of a source and whether auto_eos is in effect for it. -/
def besidePegs : Nat := besideMask [.GLOBAL_STATUS, .PEG_SRC_CTRL, .PEG_SRC_STATUS] []

section
variable {s t u : State} {i j : Nat}

theorem State.PegsStay.refl (s : State) : s.PegsStay s := ⟨fun _ => rfl, fun _ => rfl⟩

theorem State.PegsStay.trans (h : s.PegsStay t) (k : t.PegsStay u) : s.PegsStay u :=
  ⟨fun j => (k.auto j).trans (h.auto j), fun j => (k.state j).trans (h.state j)⟩

theorem State.Within.pegsStay (h : State.Within besidePegs s t) : s.PegsStay t where
  auto j := by
    have hview : t.on GLOBAL_STATUS.compat_view_active = s.on GLOBAL_STATUS.compat_view_active := congrArg (· != 0) (h.get _ 0 (by decide))
    simp only [State.pegAuto, State.compatFn, State.compat, hview]
    simp only [State.on, h.get PEG_SRC_CTRL.auto_eos j (by decide), h.get PEG_SRC_CTRL.owner j (by decide)]
  state j := h.get _ j (by decide)

/-- The other fields of a source's status tell neither. -/
theorem State.pegsStay_put (s : State) {F : Fld} (hr : F.reg = .PEG_SRC_STATUS)
    (hb : PEG_SRC_STATUS.state.lo + PEG_SRC_STATUS.state.len ≤ F.lo) (i v : Nat) : s.PegsStay (s.put F i v) where
  auto j := (s.put_only F i v).pegAuto (by simp [hr]) (by simp [hr]) j
  state j := State.get_put_disjoint hr.symm (.inl hb) j

theorem State.PegsStay.deliverVector (h : s.PegsStay t) (q : Nat) : s.PegsStay (t.deliverVector q) :=
  h.trans (State.deliverVector_within (.refl besidePegs t) q (by decide)).pegsStay

/-- A released message is held no longer, which the `held` field alone shows. -/
theorem State.PegsStay.sendFreed (h : s.PegsStay t) (f e : Nat) : s.PegsStay (t.sendFreed f e) := by
  have hsent : State.Within besidePegs t (if t.compatFn f then (t.sendMsi e).cfgPut 0 0xE4 e 1 0 else (t.sendMessage f e).setPba f e false) :=
    .ite (State.cfgPut_within (State.sendMsi_within (.refl _ t) e (by decide)) _ _ _ _ _ (by decide))
      (State.setPba_within (State.sendMessage_within (.refl _ t) f e (by decide)) f e false (by decide))
  unfold State.sendFreed
  refine State.each_keeps s.PegsStay (State.each_keeps s.PegsStay (h.trans hsent.pegsStay) _ fun u x k => ?source) _ fun u x k => ?queue
  case source =>
    exact (k.trans (u.pegsStay_put (F := PEG_SRC_STATUS.held) rfl (by decide) x.1 _)).trans
      (State.modPeg_within (.refl besidePegs _) x.1 _ (by decide)).pegsStay
  case queue =>
    exact k.trans (State.modQueue_within (.refl besidePegs _) x.1 _ (by decide)).pegsStay

/-! ### Delivery of a source, in the compatibility view or through a slot (R380, R381) -/

/-- In the compatibility view a delivery goes by the MSI vector of the source's port (R179). -/
theorem State.deliverPeg_view (hcompat : s.compatFn (s.get PEG_SRC_CTRL.owner i) = true) :
    s.deliverPeg i =
      let f := s.get PEG_SRC_CTRL.owner i
      let r := s.deliverMsi (12 + i / 256)
      (if r.1 then r.2 else r.2.wakeFor f).pegFinished i f (s.peg i) r.1 (some (s.msiVector (12 + i / 256))) := by
  unfold State.deliverPeg
  simp only [hcompat, if_true]
  rfl

/-- A message that is sent or held changes no source. -/
theorem State.Within.noted (h : State.Within besidePegs s t) (sent : Bool) (f : Nat) : s.PegsStay (if sent then t else t.wakeFor f) :=
  (State.Within.ite h (State.wakeFor_within h f (by decide))).pegsStay

/-- A source with a vector or a slot: its message is sent or held, and its status then shows the delivery. -/
theorem State.deliverPeg_finishes (h : s.compatFn (s.get PEG_SRC_CTRL.owner i) = true ∨ s.slotOrder i ≠ []) :
    ∃ (u : State) (f : Nat) (d : PegDyn) (sent : Bool) (entry : Option Nat), s.deliverPeg i = u.pegFinished i f d sent entry ∧ s.PegsStay u := by
  cases hcompat : s.compatFn (s.get PEG_SRC_CTRL.owner i) with
  | true =>
    exact ⟨_, _, _, _, _, State.deliverPeg_view hcompat, (State.deliverMsi_within (.refl _ s) _ (by decide)).noted _ _⟩
  | false =>
    obtain ⟨t0, ts, hslots⟩ := List.exists_cons_of_ne_nil (h.resolve_left (by simp [hcompat]))
    exact ⟨_, _, _, _, _, State.deliverPeg_slot hcompat hslots, ((State.deliverMsix_within (.refl _ s) _ _ (by decide)).noted _ _).trans
      (State.pegsStay_put _ rfl (by decide) i _)⟩

/-- A source with neither is left as it is. -/
theorem State.deliverPeg_nowhere (h : ¬ (s.compatFn (s.get PEG_SRC_CTRL.owner i) = true ∨ s.slotOrder i ≠ [])) : s.deliverPeg i = s := by
  obtain ⟨hcompat, hslots⟩ : s.compatFn (s.get PEG_SRC_CTRL.owner i) = false ∧ s.slotOrder i = [] := by simpa using h
  unfold State.deliverPeg
  simp only [hcompat, hslots, Bool.false_eq_true, if_false]

/-- The end of a delivery shows in the state of its own source alone. -/
theorem State.pegFinished_state_other (s : State) (hj : j ≠ i) (f : Nat) (d : PegDyn) (sent : Bool) (entry : Option Nat) :
    (s.pegFinished i f d sent entry).get PEG_SRC_STATUS.state j = s.get PEG_SRC_STATUS.state j := by
  rw [(s.pegFinished_shown i f d sent entry).get (by decide) j]
  unfold State.pegShown
  rw [State.get_put_index (F := PEG_SRC_STATUS.last_devtime) (G := PEG_SRC_STATUS.state) rfl hj,
    State.get_flag_index (F := PEG_SRC_STATUS.held) (G := PEG_SRC_STATUS.state) rfl hj,
    State.get_put_index (F := PEG_SRC_STATUS.state) (G := PEG_SRC_STATUS.state) rfl hj]

/-- Delivery returns the source to idle where auto_eos is in effect, and takes it into service elsewhere. -/
theorem State.deliverPeg_state (hi : i < 24576) (h : s.compatFn (s.get PEG_SRC_CTRL.owner i) = true ∨ s.slotOrder i ≠ []) :
    (s.deliverPeg i).get PEG_SRC_STATUS.state i = if s.pegAuto i then 0 else 2 := by
  obtain ⟨u, f, d, sent, entry, heq, hstay⟩ := State.deliverPeg_finishes h
  rw [heq, (u.pegFinished_shown i f d sent entry).get (by decide) i, (u.pegShown_status hi sent).1, hstay.auto]

theorem State.deliverPeg_auto (hi : i < 24576) (hauto : s.pegAuto i = true) :
    (s.deliverPeg i).get PEG_SRC_STATUS.state i = 0 ∨ (s.deliverPeg i).get PEG_SRC_STATUS.state i = s.get PEG_SRC_STATUS.state i := by
  by_cases h : s.compatFn (s.get PEG_SRC_CTRL.owner i) = true ∨ s.slotOrder i ≠ []
  · exact .inl ((State.deliverPeg_state hi h).trans (if_pos hauto))
  · exact .inr (by rw [State.deliverPeg_nowhere h])

theorem State.deliverPeg_state_other (s : State) (hj : j ≠ i) :
    (s.deliverPeg i).get PEG_SRC_STATUS.state j = s.get PEG_SRC_STATUS.state j := by
  by_cases h : s.compatFn (s.get PEG_SRC_CTRL.owner i) = true ∨ s.slotOrder i ≠ []
  · obtain ⟨u, f, d, sent, entry, heq, hstay⟩ := State.deliverPeg_finishes h
    rw [heq, u.pegFinished_state_other hj, hstay.state]
  · rw [State.deliverPeg_nowhere h]

/-- A source that has somewhere to deliver to has a vector of the compatibility view or a slot that is on. -/
theorem State.pegDeliverable_target (h : s.pegDeliverable i = true) :
    s.compatFn (s.get PEG_SRC_CTRL.owner i) = true ∨ s.slotOrder i ≠ [] := by
  cases hcompat : s.compatFn (s.get PEG_SRC_CTRL.owner i) with
  | true => exact .inl rfl
  | false => exact .inr (by simpa [hcompat] using (Bool.and_eq_true_iff.mp h).2)

/-! ### Grants of the Peg output (R279, R383) -/

/-- A grant delivers one source, or serves a vector or a released message and leaves every source in its state. -/
theorem State.pegGrant_cases (s : State) :
    (∃ i < 24576, s.pegGrant = (s.servedAt pointPeg (4096 + i)).deliverPeg i) ∨ s.PegsStay s.pegGrant := by
  unfold State.pegGrant
  split
  next => exact .inr (.refl s)
  next id _ =>
    have hserved : s.PegsStay (s.servedAt pointPeg id) := ⟨fun _ => rfl, fun _ => rfl⟩
    dsimp only
    split_ifs with hvector hsource
    · refine .inr ?_
      split
      next =>
        refine .deliverVector ?_ id
        exact ⟨hserved.auto, hserved.state⟩
      next => exact hserved
    · exact .inl ⟨id - 4096, by omega, by rw [Nat.add_sub_cancel' (by omega)]⟩
    · refine .inr ?_
      split
      next m _ =>
        refine .sendFreed ?_ m.f m.e
        exact ⟨hserved.auto, hserved.state⟩
      next => exact hserved

/-- Where auto_eos is in effect, no grant takes a source anywhere but to idle. -/
theorem State.pegGrant_auto (s : State) (hauto : s.pegAuto i = true) :
    s.pegGrant.get PEG_SRC_STATUS.state i = 0 ∨ s.pegGrant.get PEG_SRC_STATUS.state i = s.get PEG_SRC_STATUS.state i := by
  obtain ⟨j, hj, heq⟩ | hstay := s.pegGrant_cases
  · rw [heq]
    by_cases hij : i = j
    · subst hij
      exact State.deliverPeg_auto (s := s.servedAt pointPeg (4096 + i)) hj hauto
    · exact .inr (State.deliverPeg_state_other (s.servedAt pointPeg (4096 + j)) hij)
  · exact .inr (hstay.state i)

/-- What auto_eos in effect means (R380). -/
theorem State.pegAuto_iff : s.pegAuto i = true ↔ s.get PEG_SRC_CTRL.auto_eos i = 1 ∨ s.compatFn (s.get PEG_SRC_CTRL.owner i) = true := by
  have hbit : s.get PEG_SRC_CTRL.auto_eos i < 2 ^ 1 := getBits_lt ..
  have hon : s.on PEG_SRC_CTRL.auto_eos i = true ↔ s.get PEG_SRC_CTRL.auto_eos i = 1 := by
    simp only [State.on, bne_iff_ne]
    omega
  rw [State.pegAuto, Bool.or_eq_true_iff, hon]

end

/-- Settles O59: an end of service is ignored, whatever a grant serves leaves the source or returns it to idle, and a grant that serves it
alone returns it to idle. -/
theorem automaticEndOfService : Obligations.AutomaticEndOfService := by
  unfold Obligations.AutomaticEndOfService
  intro s a i h
  have hauto : s.pegAuto i = true := State.pegAuto_iff.mpr h
  refine ⟨fun hw => ?ignored, fun t hexec hpending => ?granted, fun hup hvecs hfreed hpending hdeliver hclear hopen => ?delivered⟩
  case ignored =>
    have heos : s.eosPeg i = s := if_pos hauto
    exact ⟨s, congrArg Host.Outcome.next (hw.eos.trans heos), .refl _ _ s⟩
  case granted =>
    have hgrant : s.whenUp State.pegGrant = t := by injection hexec
    rw [← hgrant, State.whenUp]
    split
    · exact (s.pegGrant_auto hauto).imp_right (·.trans hpending)
    · exact .inr hpending
  case delivered =>
    have hexec : exec .pegDelivery s = .next ((s.servedAt pointPeg (4096 + i)).deliverPeg i) := by
      rw [← State.pegGrant_single i.isLt hvecs hfreed hpending hdeliver hclear hopen]
      exact congrArg Host.Outcome.next (if_pos hup)
    exact ⟨_, hexec, (State.deliverPeg_state (s := s.servedAt pointPeg (4096 + i)) i.isLt (State.pegDeliverable_target hdeliver)).trans (if_pos hauto)⟩

end Sys2Proof.Machine
end

/-! Commands complete: each has a next state, and one with operands that no port can present is a Malformed TLP or does nothing. -/

section
namespace Sys2Proof.Machine

/-- Settles O1: the step's own equation. -/
theorem stepTakesFront : Obligations.StepTakesFront := fun _ _ _ => rfl

/-- Every command has a next state. -/
theorem exec_next (c : Instr) (s : State) : ∃ t, exec c s = .next t := by
  cases c with
  | registerWrite a | retFieldWrite a => cases a <;> exact ⟨_, rfl⟩
  | registerRead a p =>
    obtain ⟨bar, off⟩ := p
    cases a <;> cases bar <;> exact ⟨_, rfl⟩
  | _ => exact ⟨_, rfl⟩

/-- A command with operands that the module does not take leaves the state as it is. -/
theorem State.accepted_refused {s t : State} {ok : Bool} (h : ok = false) : s.accepted ok t = .next s := by
  rw [State.accepted, h]
  rfl

/-- What a command is whose operands no port can present: nothing, or a Malformed TLP of a function. -/
def IllFormed (c : Instr) (s : State) : Prop :=
  exec c s = .next s ∨ ∃ (f : FnId) (x : TlpInfo), exec c s = exec (.unsupportedRequest f (.malformed x)) s

/-- A TLP of a host that is not well shaped. -/
theorem IllFormed.malformed {c : Instr} {s t : State} {ok : Bool} (f : FnId) (x : TlpInfo) (h : ok = false)
    (hc : exec c s = .next (if ok then t else s.badRequest f (.malformed x))) : IllFormed c s :=
  .inr ⟨f, x, hc.trans (by rw [h]; rfl)⟩

theorem exec_illFormed {c : Instr} (s : State) (h : c.wf = false) : IllFormed c s := by
  cases c with
  | mainsPowerUp | data | idle | laneSet | faultEvent | safeStateEntry | flashUe | railFault | ridgeFailure | keyExchange | rngHealthFailure
  | plumbPass => exact .inl (State.accepted_refused h)
  | hostCompletion p => exact .malformed (p.castLE (by decide)) _ h rfl
  | expansionRomRead => exact .malformed 0 _ h rfl
  | windowRead f | msixTableWrite f => exact .malformed f _ h rfl
  | windowWrite f o d a b poisoned =>
    have h : wfWrite o d.length a b = false := h
    exact .inr ⟨f, ⟨0x40, d.length, 0, 0, o⟩, by rw [exec, execWindowWrite, h]; rfl⟩
  | retFieldWrite a | registerWrite a =>
    cases a with
    | fn f => exact .malformed f _ h rfl
    | ridge => exact .inl (State.accepted_refused h)
  | registerRead a p =>
    obtain ⟨bar, off⟩ := p
    cases a with
    | fn f => cases bar <;> exact .malformed f _ h rfl
    | ridge =>
      cases bar with
      | bar0 => exact .inl (State.accepted_refused h)
      | bar2 => exact .inl rfl
  | _ => cases h

/-- Settles O3: every meaning answers a next state, and the check of the operands decides before it. -/
theorem commandsComplete : Obligations.CommandsComplete := fun c s => ⟨exec_next c s, exec_illFormed s⟩

end Sys2Proof.Machine
end

/-! Plumb's instructions in a pass: each acts on Plumb's data once the instruction has been counted, by which neither a working register nor
a cell nor an input changes. -/

section
namespace Sys2Proof.Machine

/-! ### An instruction in a pass (R441) -/

/-- Plumb with one more instruction counted; the 256th ends the program. -/
def PlumbDyn.counted (p : PlumbDyn) : PlumbDyn := { p with count := p.count + 1, ended := p.ended || decide (256 ≤ p.count + 1) }

section
variable {s : State} {c : Instr} {g : PlumbDyn → PlumbDyn}

/-- A condition looks at cells and rises, which counting leaves alone. -/
theorem PlumbDyn.when_counted (p : PlumbDyn) (c mode : Nat) : p.counted.when c mode = p.when c mode := by
  unfold PlumbDyn.when
  rfl

/-- A defined instruction acts on Plumb's data with itself counted. -/
theorem State.runs_plumbExec (h : s.passRuns) (hlegal : plumbLegal c = true) (hc : exec c s = .next (s.plumbExec (plumbLegal c) g)) :
    exec c s = .next (s.modPlumb fun p => g p.counted) := by
  rw [hc, hlegal, h.exec]
  rfl

/-- An instruction that loads Wd loads it with what its operands give, and leaves all else. -/
theorem State.runs_computes (h : s.passRuns) (d : Nat) (v : PlumbDyn → Dword) (hlegal : plumbLegal c = true)
    (hc : exec c s = .next (s.plumbExec (plumbLegal c) fun p => p.setW d (v p))) : Completes c s (Computes s d (v s.plumb.counted)) := by
  refine ⟨_, State.runs_plumbExec h hlegal hc, ?_, fun i hi => ?_, fun _ => rfl, s.modPlumb_only _⟩
  · exact PlumbDyn.setW_w_self ..
  · exact PlumbDyn.setW_w_ne _ hi

/-- An instruction that changes neither a working register nor a cell collects what it does. -/
theorem State.runs_collects (h : s.passRuns) {P : PlumbDyn → Prop} (hlegal : plumbLegal c = true)
    (hc : exec c s = .next (s.plumbExec (plumbLegal c) g)) (hwork : ∀ p, (g p).work = p.work) (hcells : ∀ p, (g p).cells = p.cells)
    (hP : P (g s.plumb.counted)) : Completes c s (Collects s P) := by
  refine ⟨_, State.runs_plumbExec h hlegal hc, hP, fun i => ?_, fun e => ?_, s.modPlumb_only _⟩
  · exact congrArg (Tbl.get 0 · i) (hwork s.plumb.counted)
  · exact congrArg (Tbl.get 0 · e) (hcells s.plumb.counted)

end

/-- Settles O7: each of the seven loads Wd. -/
theorem plumbArithmeticComputes : Obligations.PlumbArithmeticComputes := by
  intro s d a b h
  exact ⟨fun imm => State.runs_computes h d (fun _ => imm.signExtend 32) rfl rfl,
    fun k => State.runs_computes h d (fun p => p.active.getD (256 + k) 0) rfl rfl,
    State.runs_computes h d (fun p => p.w a + p.w b) rfl rfl, State.runs_computes h d (fun p => p.w a - p.w b) rfl rfl,
    State.runs_computes h d (fun p => ((p.w a).signExtend 64 * (p.w b).signExtend 64).extractLsb' 16 32) rfl rfl,
    State.runs_computes h d (fun p => minS (p.w a) (p.w b)) rfl rfl, State.runs_computes h d (fun p => maxS (p.w a) (p.w b)) rfl rfl⟩

/-! ### Inputs, filters and medians (R440, R443) -/

theorem toInt_le_maxS_left (a b : Dword) : a.toInt ≤ (maxS a b).toInt := by
  unfold maxS
  split <;> omega

theorem toInt_le_maxS_right (a b : Dword) : b.toInt ≤ (maxS a b).toInt := by
  unfold maxS
  split <;> omega

theorem maxS_eq_or (a b : Dword) : maxS a b = a ∨ maxS a b = b := by
  unfold maxS
  split <;> simp

/-- The largest of some inputs in a row is one of them, and none is larger. -/
theorem foldl_maxS_largest (f : Nat → Dword) (m : Nat) :
    let v := (List.range m).foldl (fun x k => maxS x (f (k + 1))) (f 0)
    (∃ k ≤ m, v = f k) ∧ ∀ k ≤ m, (f k).toInt ≤ v.toInt := by
  induction m with
  | zero => exact ⟨⟨0, le_rfl, rfl⟩, fun k hk => by rw [Nat.le_zero.mp hk]; rfl⟩
  | succ m ih =>
    obtain ⟨⟨j, hj, hv⟩, hle⟩ := ih
    simp only [List.range_succ, List.foldl_append, List.foldl_cons, List.foldl_nil]
    refine ⟨?_, fun k hk => ?_⟩
    · obtain h | h := maxS_eq_or ((List.range m).foldl (fun x k => maxS x (f (k + 1))) (f 0)) (f (m + 1))
      · exact ⟨j, by omega, h.trans hv⟩
      · exact ⟨m + 1, le_rfl, h⟩
    · obtain hlt | rfl := Nat.lt_or_eq_of_le hk
      · exact (hle k (by omega)).trans (toInt_le_maxS_left ..)
      · exact toInt_le_maxS_right ..

/-- A median of three is one of them, with two at most and two at least as large. -/
theorem medS_median (a b c : Dword) :
    medS a b c ∈ [a, b, c] ∧ 2 ≤ ([a, b, c].filter (fun x => decide (x.toInt ≤ (medS a b c).toInt))).length
      ∧ 2 ≤ ([a, b, c].filter (fun x => decide ((medS a b c).toInt ≤ x.toInt))).length := by
  simp only [medS, minS, maxS]
  grind

section
variable {s : State} {d a : Fin 16}

@[simp] theorem PlumbDyn.setW_cell (p : PlumbDyn) (i : Nat) (v : Dword) (e : Nat) : (p.setW i v).cell e = p.cell e := rfl

@[simp] theorem PlumbDyn.setCell_w (p : PlumbDyn) (c : Nat) (v : Dword) (i : Nat) : (p.setCell c v).w i = p.w i := rfl

/-- What IIR makes of Plumb's data (R443). -/
theorem PlumbDyn.iir_loads (p : PlumbDyn) (d a c k : Nat) :
    (p.iir d a c k).cell c = p.cell c + (p.w a - p.cell c).sshiftRight k ∧ (p.iir d a c k).w d = (p.iir d a c k).cell c
      ∧ (∀ i, i ≠ d → (p.iir d a c k).w i = p.w i) ∧ ∀ e, e ≠ c → (p.iir d a c k).cell e = p.cell e := by
  unfold PlumbDyn.iir
  refine ⟨?_, ?_, fun i hi => ?_, fun e he => ?_⟩
  · rw [PlumbDyn.setW_cell, PlumbDyn.setCell_cell_self]
  · rw [PlumbDyn.setW_w_self, PlumbDyn.setW_cell, PlumbDyn.setCell_cell_self]
  · rw [PlumbDyn.setW_w_ne _ hi, PlumbDyn.setCell_w]
  · rw [PlumbDyn.setW_cell, PlumbDyn.setCell_cell_ne _ he]

/-- What MED3 makes of Plumb's data (R443). -/
theorem PlumbDyn.med3_loads (p : PlumbDyn) (d a c : Nat) :
    (p.med3 d a c).w d = medS (p.w a) (p.cell c) (p.cell (c + 1)) ∧ (p.med3 d a c).cell c = p.w a ∧ (p.med3 d a c).cell (c + 1) = p.cell c
      ∧ (∀ i, i ≠ d → (p.med3 d a c).w i = p.w i) ∧ ∀ e, e ≠ c → e ≠ c + 1 → (p.med3 d a c).cell e = p.cell e := by
  unfold PlumbDyn.med3
  refine ⟨?_, ?_, ?_, fun i hi => ?_, fun e he he' => ?_⟩
  · rw [PlumbDyn.setW_w_self]
  · rw [PlumbDyn.setW_cell, PlumbDyn.setCell_cell_self]
  · rw [PlumbDyn.setW_cell, PlumbDyn.setCell_cell_ne _ (Nat.succ_ne_self c), PlumbDyn.setCell_cell_self]
  · rw [PlumbDyn.setW_w_ne _ hi, PlumbDyn.setCell_w, PlumbDyn.setCell_w]
  · rw [PlumbDyn.setW_cell, PlumbDyn.setCell_cell_ne _ he, PlumbDyn.setCell_cell_ne _ he']

end

/-- Settles O8: SAMPLE and SMAX load Wd, IIR and MED3 also cells. -/
theorem plumbInputsCompute : Obligations.PlumbInputsCompute := by
  intro s d a n h
  refine ⟨fun x hx => ?sample, fun m1 hm => ?smax, fun c k => ?iir, fun c hc => ?med3⟩
  case sample => exact State.runs_computes h d (fun p => p.input n x) (decide_eq_true hx) rfl
  case smax =>
    have hlegal : plumbLegal (.smax d n m1) = true := by
      simp only [plumbLegal, Bool.and_eq_true, Bool.or_eq_true, decide_eq_true_eq]
      omega
    obtain ⟨hone, hall⟩ := foldl_maxS_largest (fun k => s.plumb.input (n + k) 0) m1
    exact ⟨_, hone, hall, State.runs_computes h d
      (fun p => (List.range m1).foldl (fun m k => maxS m (p.input (n + k + 1) 0)) (p.input n 0)) hlegal rfl⟩
  case iir =>
    obtain ⟨hcell, hload, hworks, hcells⟩ := s.plumb.counted.iir_loads d a c k
    exact ⟨_, State.runs_plumbExec h rfl rfl, hcell, hload, hworks, hcells, s.modPlumb_only _⟩
  case med3 =>
    obtain ⟨hload, hfirst, hsecond, hworks, hcells⟩ := s.plumb.counted.med3_loads d a c
    obtain ⟨hmem, hle, hge⟩ := medS_median (s.plumb.w a) (s.plumb.cell c) (s.plumb.cell (c + 1))
    refine ⟨_, State.runs_plumbExec h (decide_eq_true hc) rfl, ?_, ?_, ?_, hfirst, hsecond, hworks, hcells, s.modPlumb_only _⟩
    · exact hload ▸ hmem
    · exact hload ▸ hle
    · exact hload ▸ hge

/-! ### Comparisons (R444) -/

/-- The word of a comparison cell fits its 32 bits. -/
theorem toNat_cellWord (flag : Bool) {t : Nat} (ht : t < 2 ^ 31) : (BitVec.ofNat 32 (b2n flag * 2 ^ 31 + t)).toNat = 2 ^ 31 * b2n flag + t := by
  have hflag : b2n flag ≤ 1 := by cases flag <;> decide
  rw [BitVec.toNat_ofNat, Nat.mod_eq_of_lt (by omega), Nat.mul_comm]

/-- A comparison instruction, whose conditions look at working registers, moves its cell and nothing else. -/
theorem State.runs_compares {s : State} {i : Instr} (h : s.passRuns) (c sd cd : Nat) (set clear : PlumbDyn → Bool) (hlegal : plumbLegal i = true)
    (hi : exec i s = .next (s.plumbExec (plumbLegal i) fun p => p.compare c sd cd (set p) (clear p)))
    (hset : set s.plumb.counted = set s.plumb) (hclear : clear s.plumb.counted = clear s.plumb) :
    Completes i s (Compares s c (if (s.plumb.cell c).getLsbD 31 then clear s.plumb else set s.plumb)
      (200 * (if (s.plumb.cell c).getLsbD 31 then cd else sd))) := by
  have hcell : (s.plumb.counted.compare c sd cd (set s.plumb.counted) (clear s.plumb.counted)).cell c = BitVec.ofNat 32
      (if !(if (s.plumb.cell c).getLsbD 31 then clear s.plumb else set s.plumb) then b2n ((s.plumb.cell c).getLsbD 31) * 2 ^ 31
        else if 200 * (if (s.plumb.cell c).getLsbD 31 then cd else sd) ≤ s.nextDwell c then b2n (!(s.plumb.cell c).getLsbD 31) * 2 ^ 31 + 2 ^ 30
        else b2n ((s.plumb.cell c).getLsbD 31) * 2 ^ 31 + s.nextDwell c) := by
    rw [hset, hclear]
    exact PlumbDyn.setCell_cell_self ..
  have hdwell : s.nextDwell c < 2 ^ 31 := by
    unfold State.nextDwell
    omega
  refine ⟨_, State.runs_plumbExec h hlegal hi, fun hlapses => ?_, fun hholds hlt => ?_, fun hholds hle => ?_, fun e he => ?_, fun _ => rfl,
    s.modPlumb_only _⟩
  · refine (congrArg BitVec.toNat hcell).trans ?_
    rw [hlapses, if_pos (by decide)]
    simpa using toNat_cellWord ((s.plumb.cell c).getLsbD 31) (t := 0) (by decide)
  · refine (congrArg BitVec.toNat hcell).trans ?_
    rw [hholds, if_neg (by decide), if_neg (Nat.not_le.mpr hlt)]
    exact toNat_cellWord _ hdwell
  · refine (congrArg BitVec.toNat hcell).trans ?_
    rw [hholds, if_neg (by decide), if_pos hle]
    exact toNat_cellWord _ (by decide)
  · exact PlumbDyn.setCell_cell_ne _ he

/-- Settles O9: both comparisons with their conditions. -/
theorem plumbComparisons : Obligations.PlumbComparisons := by
  intro s a b c sd cd h hb
  exact ⟨State.runs_compares h c sd cd (fun p => decide ((p.w b).toInt ≤ (p.w a).toInt))
      (fun p => decide ((p.w a).toInt < (p.w (b + 1)).toInt)) (decide_eq_true hb) rfl rfl rfl,
    State.runs_compares h c sd cd (fun p => decide ((p.w a).toInt ≤ (p.w b).toInt))
      (fun p => decide ((p.w (b + 1)).toInt < (p.w a).toInt)) (decide_eq_true hb) rfl rfl rfl⟩

/-! ### Actions (R442, R443, R445) -/

/-- An action whose condition does not hold has collected nothing. -/
def CollectsNothing (s : State) (t : State) : Prop :=
  Collects s (fun q => q.step = s.plumb.step ∧ q.causePower = s.plumb.causePower ∧ q.causeFlow = s.plumb.causeFlow ∧ q.wakes = s.plumb.wakes
    ∧ q.sleeps = s.plumb.sleeps ∧ q.raises = s.plumb.raises ∧ q.scribe = s.plumb.scribe ∧ q.shutdown = s.plumb.shutdown
    ∧ q.swap = s.plumb.swap) t

/-- An action is collected where its condition holds, and nothing is elsewhere. -/
theorem State.runs_acts {s : State} {i : Instr} {c mode : Nat} {g : PlumbDyn → PlumbDyn} {P : PlumbDyn → Prop} (h : s.passRuns)
    (hlegal : plumbLegal i = true) (hi : exec i s = .next (s.plumbExec (plumbLegal i) fun p => if p.when c mode then g p else p))
    (hwork : ∀ p, (g p).work = p.work) (hcells : ∀ p, (g p).cells = p.cells) (hP : P (g s.plumb.counted)) :
    Completes i s (fun t => if s.plumb.when c mode then Collects s P t else CollectsNothing s t) := by
  have hrun := State.runs_plumbExec h hlegal hi
  have hcond := s.plumb.when_counted c mode
  cases hw : s.plumb.when c mode with
  | true =>
    simp only [if_true]
    refine ⟨_, hrun, ?_, fun i => ?_, fun e => ?_, s.modPlumb_only _⟩
    all_goals simp only [State.modPlumb_plumb, hcond, hw, if_true]
    · exact hP
    · exact congrArg (Tbl.get 0 · i) (hwork s.plumb.counted)
    · exact congrArg (Tbl.get 0 · e) (hcells s.plumb.counted)
  | false =>
    simp only [Bool.false_eq_true, if_false]
    refine ⟨_, hrun, ?_, fun i => ?_, fun e => ?_, s.modPlumb_only _⟩
    all_goals simp only [State.modPlumb_plumb, hcond, hw, Bool.false_eq_true, if_false]
    · exact ⟨rfl, rfl, rfl, rfl, rfl, rfl, rfl, rfl, rfl⟩
    · rfl
    · rfl

/-- A locator in whole units is the working register over 16, rounded down. -/
theorem signExtend_sshiftRight_four (w : Dword) : (w.sshiftRight 4).signExtend 64 = BitVec.ofInt 64 (w.toInt / 16) := by
  rw [BitVec.signExtend, BitVec.toInt_sshiftRight, Int.shiftRight_eq_div_pow]
  rfl

/-- THROTTLE keeps the highest step, with the causes of the actions that asked for it. -/
theorem PlumbDyn.throttle_keeps (p : PlumbDyn) (step : Nat) (power flow : Bool) : let q := p.throttle step power flow
    (if p.step < step then q.step = step ∧ q.causePower = power ∧ q.causeFlow = flow
      else if p.step = step then q.step = p.step ∧ q.causePower = (p.causePower || power) ∧ q.causeFlow = (p.causeFlow || flow)
      else q.step = p.step ∧ q.causePower = p.causePower ∧ q.causeFlow = p.causeFlow)
    ∧ q.work = p.work ∧ q.cells = p.cells := by
  unfold PlumbDyn.throttle
  split_ifs <;> exact ⟨⟨rfl, rfl, rfl⟩, rfl, rfl⟩

/-- Settles O10: one action after the other. -/
theorem plumbActionsCollect : Obligations.PlumbActionsCollect := by
  intro s c mode h p idle taken
  refine ⟨fun step power flow hlow hhigh => ?throttle, fun r hr => ?wake, fun r hr => ?sleep, fun n a hn => ?raise, ?scribe, ?shutdown, ?swap⟩
  case throttle =>
    exact State.runs_acts h (decide_eq_true ⟨hlow, hhigh⟩) rfl (fun p => (p.throttle_keeps step power flow).2.1)
      (fun p => (p.throttle_keeps step power flow).2.2) (s.plumb.counted.throttle_keeps step power flow).1
  case wake => exact State.runs_acts h (decide_eq_true hr) rfl (fun _ => rfl) (fun _ => rfl) (fun x => mem_insertNat)
  case sleep => exact State.runs_acts h (decide_eq_true hr) rfl (fun _ => rfl) (fun _ => rfl) (fun x => mem_insertNat)
  case raise =>
    exact State.runs_acts h (decide_eq_true hn) rfl (fun _ => rfl) (fun _ => rfl)
      (congrArg (fun l => s.plumb.raises ++ [(n.val, l)]) (signExtend_sshiftRight_four _))
  case scribe | shutdown | swap => exact State.runs_acts h rfl rfl (fun _ => rfl) (fun _ => rfl) rfl

/-! ### HALT, STORE and undefined operands (R443, R446, R448) -/

section
variable {s : State}

/-- STORE puts the value into the shadow image, unless a commit wrote that word. -/
theorem State.storeWord_plumb (s : State) (k : Nat) (v : Dword) :
    (s.storeWord k v).plumb = if k ∈ s.plumb.committed then s.plumb else { s.plumb with shadow := s.plumb.shadow.set k v } := by
  unfold State.storeWord State.judgeStored
  simp only [List.contains_iff_mem]
  split_ifs <;> simp

/-- STORE of another value than the committed one shows in PLUMB_STATUS.stored. -/
theorem State.storeWord_stored {k : Nat} {v : Dword} (hk : k ∉ s.plumb.committed) (hv : v ≠ s.committedWord k) :
    (s.storeWord k v).get PLUMB_STATUS.stored = 1 := by
  unfold State.storeWord
  rw [if_neg (by simpa using hk)]
  exact (congrArg (State.get · PLUMB_STATUS.stored) (if_neg hv)).trans (State.get_put_self (by decide) (by decide))

/-- An instruction with undefined operands is counted and does nothing else. -/
theorem State.runs_refused (h : s.passRuns) {c : Instr} (hlegal : plumbLegal c = false) :
    exec c s = .next ((s.modPlumb PlumbDyn.counted).bump (modCtr 4)) := by
  have hexec (g : PlumbDyn → PlumbDyn) : s.plumbExec false g = (s.modPlumb PlumbDyn.counted).bump (modCtr 4) := h.step _
  cases c with
  | sample | smax | med3 | cmpge | cmple | actThrottle | actWake | actSleep | actRaise =>
    exact congrArg Host.Outcome.next ((congrArg (s.plumbExec · _) hlegal).trans (hexec _))
  | store => exact congrArg Host.Outcome.next ((congrArg (s.plumbStore · ..) hlegal).trans (hexec id))
  | _ => cases hlegal

/-- STORE with its operands defined. -/
theorem State.runs_store (h : s.passRuns) {c : Fin 64} {mode : Fin 4} {k : Fin 512} {a : Fin 16} (hk : k.val ≤ 287) :
    exec (.store c mode k a) s = .next (if s.plumb.when c mode then (s.modPlumb PlumbDyn.counted).storeWord k (s.plumb.w a)
      else s.modPlumb PlumbDyn.counted) := by
  have hlegal : plumbLegal (.store c mode k a) = true := decide_eq_true hk
  have hrun : s.plumbStore true c mode k a = _ := h.step _
  rw [exec, execStore, hlegal, hrun, ← s.plumb.when_counted]
  rfl

end

/-- Settles O11: HALT and NOP collect, STORE by its condition, and undefined operands by the instruction. -/
theorem plumbProgramRuns : Obligations.PlumbProgramRuns := by
  intro s h _
  refine ⟨?halt, State.runs_collects h (g := id) rfl rfl (fun _ => rfl) (fun _ => rfl) ⟨rfl, rfl, rfl⟩, fun c mode k a hk => ?store,
    fun c hc => ?undefined⟩
  case halt => exact ⟨_, congrArg Host.Outcome.next (h.step _), ⟨rfl, rfl, rfl⟩, fun _ => rfl, fun _ => rfl,
      (s.modPlumb_only _).trans (State.modPlumb_only _ _)⟩
  case store =>
    have hrun := State.runs_store h (c := c) (mode := mode) (a := a) hk
    have honly : State.Only [.PLUMB_STATUS] [.plumb] s (s.modPlumb PlumbDyn.counted) := (s.modPlumb_only _).mono (by simp) (by simp)
    have hplumb := (s.modPlumb PlumbDyn.counted).storeWord_plumb k (s.plumb.w a)
    cases hw : s.plumb.when c mode with
    | true =>
      rw [hw, if_pos rfl] at hrun
      refine ⟨_, hrun, ?active, honly.trans (State.storeWord_within (.refl _ _) _ _ (by decide)).only, ?shadow⟩
      case active =>
        rw [hplumb]
        split_ifs <;> rfl
      by_cases hcommitted : k.val ∈ s.plumb.committed
      · have hcounted : k.val ∈ (s.modPlumb PlumbDyn.counted).plumb.committed := hcommitted
        rw [if_neg (fun hn => hn.2 hcommitted), hplumb.trans (if_pos hcommitted), State.storeWord, if_pos (List.contains_iff_mem.mpr hcounted)]
        exact ⟨rfl, rfl⟩
      · rw [if_pos ⟨rfl, hcommitted⟩, hplumb.trans (if_neg hcommitted)]
        exact ⟨rfl, State.storeWord_stored (s := s.modPlumb PlumbDyn.counted) hcommitted⟩
    | false =>
      rw [hw, if_neg Bool.false_ne_true] at hrun
      refine ⟨_, hrun, rfl, honly, ?_⟩
      rw [if_neg (fun hn => Bool.false_ne_true hn.1)]
      exact ⟨rfl, rfl⟩
  case undefined =>
    exact ⟨_, State.runs_refused h hc, State.bump_ctr_self .., rfl, rfl, rfl,
      (State.bump_within (State.modPlumb_within (.refl _ s) _ (by decide)) _ (by decide)).only⟩

end Sys2Proof.Machine
end

/-! Passes of Plumb: what the instructions of a pass leave of what it has latched, and what the end of a pass shows. -/

section
namespace Sys2Proof.Machine

/-! ### What a pass has latched (R440, R441) -/

/-- Plumb is in a pass with the inputs, the period and the active image of `p`. -/
structure PlumbDyn.PassOf (p q : PlumbDyn) : Prop where
  inPass : q.inPass = true
  sensors : q.sensors = p.sensors
  groups : q.groups = p.groups
  bays : q.bays = p.bays
  slices : q.slices = p.slices
  status : q.status = p.status
  period : q.period = p.period
  active : q.active = p.active

section
variable {p : PlumbDyn} {s : State}

theorem PlumbDyn.PassOf.ite {c : Prop} [Decidable c] {a b : State} (ha : p.PassOf a.plumb) (hb : p.PassOf b.plumb) :
    p.PassOf (if c then a else b).plumb := by
  split <;> assumption

/-- A step of a pass runs on Plumb with the instruction counted. -/
theorem PlumbDyn.PassOf.plumbStep (h : p.PassOf s.plumb) {g : State → State} (hg : ∀ t : State, p.PassOf t.plumb → p.PassOf (g t).plumb) :
    p.PassOf (s.plumbStep g).plumb := by
  unfold State.plumbStep
  rw [h.inPass]
  refine .ite h (hg _ ?_)
  exact ⟨h.inPass, h.sensors, h.groups, h.bays, h.slices, h.status, h.period, h.active⟩

theorem PlumbDyn.PassOf.plumbExec (h : p.PassOf s.plumb) (legal : Bool) {g : PlumbDyn → PlumbDyn} (hg : ∀ q, p.PassOf q → p.PassOf (g q)) :
    p.PassOf (s.plumbExec legal g).plumb :=
  h.plumbStep fun _ ht => .ite (hg _ ht) ht

theorem PlumbDyn.PassOf.storeWord (h : p.PassOf s.plumb) (k : Nat) (v : Dword) : p.PassOf (s.storeWord k v).plumb := by
  rw [State.storeWord_plumb]
  split
  · exact h
  · exact ⟨h.inPass, h.sensors, h.groups, h.bays, h.slices, h.status, h.period, h.active⟩

/-- An action changes only what it collects. -/
theorem PlumbDyn.PassOf.act (h : p.PassOf s.plumb) (c mode : Nat) {g : PlumbDyn → PlumbDyn} (hg : ∀ q, p.PassOf q → p.PassOf (g q)) :
    p.PassOf (s.plumbExec true fun q => if q.when c mode then g q else q).plumb :=
  h.plumbExec true fun q hq => by
    split
    · exact hg q hq
    · exact hq

theorem PlumbDyn.PassOf.throttle {q : PlumbDyn} (h : p.PassOf q) (step : Nat) (power flow : Bool) : p.PassOf (q.throttle step power flow) := by
  unfold PlumbDyn.throttle
  split_ifs <;> exact ⟨h.inPass, h.sensors, h.groups, h.bays, h.slices, h.status, h.period, h.active⟩

/-- No instruction changes what the pass has latched. -/
theorem PlumbDyn.PassOf.plumbInstr (h : p.PassOf s.plumb) (i : Instr) : p.PassOf (s.plumbInstr i).plumb := by
  have hsame {g : PlumbDyn → PlumbDyn} (hg : ∀ q, p.PassOf q → p.PassOf (g q)) := h.plumbExec true hg
  cases i with
  | halt => exact h.plumbStep fun t ht => ⟨ht.inPass, ht.sensors, ht.groups, ht.bays, ht.slices, ht.status, ht.period, ht.active⟩
  | store c m k a => exact h.plumbStep fun t ht => .ite ht (.ite (ht.storeWord ..) ht)
  | actThrottle => exact h.act _ _ fun q hq => hq.throttle ..
  | actWake | actSleep | actRaise | actScribe | actShutdown | actSwap =>
    exact h.act _ _ fun q hq => ⟨hq.inPass, hq.sensors, hq.groups, hq.bays, hq.slices, hq.status, hq.period, hq.active⟩
  | _ => exact h.plumbExec true fun q hq => ⟨hq.inPass, hq.sensors, hq.groups, hq.bays, hq.slices, hq.status, hq.period, hq.active⟩

theorem PlumbDyn.PassOf.runSlots (h : p.PassOf s.plumb) (fuel k : Nat) : p.PassOf (s.runSlots fuel k).plumb := by
  induction fuel generalizing s k with
  | zero => exact h
  | succ fuel ih =>
    rw [State.runSlots]
    refine .ite h ?_
    dsimp only
    split
    · exact ih (h.plumbInstr _) _
    · exact ih (h.plumbExec false fun _ hq => hq) _

end


/-! ### What the collected actions leave of Plumb's images -/

section
variable {s : State}

theorem State.keepAwake_shadow (s : State) (r : Nat) : (s.keepAwake r).plumb.shadow = s.plumb.shadow := by
  unfold State.keepAwake
  split <;> rfl

theorem State.wakeRegion_shadow (s : State) (r : Nat) : (s.wakeRegion r).plumb.shadow = s.plumb.shadow := by
  unfold State.wakeRegion
  split
  · rfl
  split
  · exact s.keepAwake_shadow r
  · have hplumb : ((s.keepAwake r).setRegion r 0).plumb = (s.keepAwake r).plumb :=
      (State.setRegion_within (.refl (besideMask [] [.plumb]) _) r 0 (by decide)).areas .plumb (by decide)
    rw [hplumb]
    exact s.keepAwake_shadow r
  all_goals rfl

/-- Once it has woken Brace's region, a report leaves Plumb and the states of the regions alone. -/
theorem State.reportIn_woken {n c : Nat} {cls : CodeClass} (hcls : codeClass n c = some cls) (s : State) (kind inst : Nat) (halted : List Nat)
    (locator check : Word) :
    State.Within (besideMask wakeKinds [.plumb]) (s.wakeRegion 34) (s.reportIn n c kind inst halted locator check) := by
  have hbump := State.bump_within (.refl (besideMask wakeKinds [.plumb]) (s.wakeRegion 34)) (braceCtr n c) (by decide)
  have hclass := State.classify_within hbump n c (sourceKey n c kind inst) (by decide)
  have hlight {t : State} (ht : State.Within (besideMask wakeKinds [.plumb]) (s.wakeRegion 34) t) (cls kind inst : Nat) :=
    State.lightHist_within ht n c cls kind inst locator check (by decide)
  have hheavy {t : State} (ht : State.Within (besideMask wakeKinds [.plumb]) (s.wakeRegion 34) t) (severe : Bool) :=
    State.heavy_within ht n c kind inst halted locator check severe (by decide)
  unfold State.reportIn
  rw [hcls]
  cases cls with
  | notice => exact .ite (hlight hbump ..) hbump
  | severe => exact hheavy hbump true
  | corrected => exact .ite (hheavy hclass true) (hlight hclass ..)
  | fault => exact hheavy hclass _

theorem State.report_shadow (s : State) (n c inst : Nat) (locator check : Word) (halted : List Nat) :
    (s.report n c inst locator check halted).plumb.shadow = s.plumb.shadow := by
  cases hcls : codeClass n c with
  | none =>
    unfold State.report State.reportIn
    rw [hcls]
  | some cls =>
    exact (congrArg PlumbDyn.shadow ((State.reportIn_woken hcls s ..).areas .plumb (by decide))).trans (s.wakeRegion_shadow 34)

theorem State.setThrottle_shadow (s : State) : s.setThrottle.plumb.shadow = s.plumb.shadow := by
  unfold State.setThrottle
  dsimp only
  split
  · exact State.report_shadow ..
  · rfl

theorem State.moveRegions_shadow (s : State) : s.moveRegions.plumb.shadow = s.plumb.shadow := by
  have hwake (t : State) (r : Nat) :
      (if !t.isUp then t else if 35 ≤ r ∧ r ≤ 38 then t.leaveL1 (r - 35) else t.wakeRegion r).plumb.shadow = t.plumb.shadow := by
    split_ifs
    · rfl
    · exact congrArg PlumbDyn.shadow ((State.leaveL1_within (.refl (besideMask [] [.plumb]) t) (r - 35) (by decide)).areas .plumb (by decide))
    · exact t.wakeRegion_shadow r
  have hsleep (t : State) (r : Nat) : (t.sleepNow r).plumb = t.plumb :=
    (State.sleepNow_within (.refl (besideMask [] [.plumb]) t) r (by decide)).areas .plumb (by decide)
  unfold State.moveRegions
  extract_lets p u woken slept
  change slept.plumb.shadow = s.plumb.shadow
  refine State.each_keeps (fun t : State => t.plumb.shadow = s.plumb.shadow)
    (State.each_keeps (s := u) (fun t : State => t.plumb.shadow = s.plumb.shadow) rfl _ fun t r ht => ?_) _ fun t r ht => ?_
  · exact (hwake t r).trans ht
  · rw [hsleep]
    exact ht

/-! ### What the end of a pass shows (R442, R454) -/

theorem State.flag_step_req (s : State) {F : Fld} (b : Bool) (hr : PLUMB_ACT.step_req.reg = F.reg) (hlo : 3 ≤ F.lo) :
    (s.flag F 0 b).get PLUMB_ACT.step_req = s.get PLUMB_ACT.step_req :=
  State.get_flag_beside hr (.inl hlo)

/-- The registers of a pass show what the pass has collected, with one pass more. -/
theorem State.showPass_shows (s : State) :
    s.showPass.get PLUMB_STATUS.passes = (s.get PLUMB_STATUS.passes + 1) % 2 ^ 32
      ∧ s.showPass.get PLUMB_STATUS.executed = s.plumb.count % 512 ∧ s.showPass.get PLUMB_ACT.step_req = s.plumb.step % 8 := by
  unfold State.showPass
  extract_lets p acted s₁ s₂ worked shown
  have hs₂ : s₂.get PLUMB_ACT.step_req = p.step % 8 := by
    rw [State.flag_step_req (F := PLUMB_ACT.sleep) _ _ rfl (by decide), State.flag_step_req (F := PLUMB_ACT.wake) _ _ rfl (by decide),
      State.flag_step_req (F := PLUMB_ACT.swap) _ _ rfl (by decide), State.flag_step_req (F := PLUMB_ACT.scribe) _ _ rfl (by decide),
      State.flag_step_req (F := PLUMB_ACT.shutdown) _ _ rfl (by decide), State.flag_step_req (F := PLUMB_ACT.cause_flow) _ _ rfl (by decide),
      State.flag_step_req (F := PLUMB_ACT.cause_power) _ _ rfl (by decide), State.get_put_self (by decide) (by decide)]
    rfl
  have hflags : State.Within (listMask [.PLUMB_ACT] []) s s₂ := by
    have hflag {t : State} (ht : State.Within (listMask [.PLUMB_ACT] []) s t) (F : Fld) (b : Bool)
        (hF : F.reg.bit ||| listMask [.PLUMB_ACT] [] = listMask [.PLUMB_ACT] []) :=
      State.flag_within ht F 0 b hF
    have hput : State.Within (listMask [.PLUMB_ACT] []) s (s.put PLUMB_ACT.step_req 0 p.step) := State.put_within (.refl _ s) _ _ _ (by decide)
    exact hflag (hflag (hflag (hflag (hflag (hflag (hflag hput PLUMB_ACT.cause_power _ rfl) PLUMB_ACT.cause_flow _ rfl) PLUMB_ACT.shutdown _ rfl)
      PLUMB_ACT.scribe _ rfl) PLUMB_ACT.swap _ rfl) PLUMB_ACT.wake _ rfl) PLUMB_ACT.sleep _ rfl
  have hwords : State.Within (listMask [.PLUMB_W, .PLUMB_CELL] []) s₂ shown :=
    .each (.each (.refl _ _) _ fun t i ht => State.setWord_within ht _ _ _ (by decide)) _ fun t i ht => State.setWord_within ht _ _ _ (by decide)
  have hpasses : shown.get PLUMB_STATUS.passes = s.get PLUMB_STATUS.passes := (hwords.get _ _ (by decide)).trans (hflags.get _ _ (by decide))
  refine ⟨?_, ?_, ?_⟩
  · rw [State.get_put_self (by decide) (by decide), hpasses]
    rfl
  · rw [State.get_put_beside (F := PLUMB_STATUS.passes) (G := PLUMB_STATUS.executed) rfl (by decide), State.get_put_self (by decide) (by decide)]
    rfl
  · rw [State.get_put_kind (by decide), State.get_put_kind (by decide), hwords.get _ _ (by decide), hs₂]

/-- A load of `F` leaves `G`, which is in another register or beside it. -/
def Fld.Leaves (F G : Fld) : Prop := G.reg = F.reg → G.lo + G.len ≤ F.lo ∨ F.lo + F.len ≤ G.lo

theorem State.judgeStored_get {G : Fld} (h : PLUMB_STATUS.stored.Leaves G) (s : State) : s.judgeStored.get G = s.get G := by
  unfold State.judgeStored
  split
  · exact State.get_put_apart h _ _ _
  · rfl

/-- The images exchange roles: no swap is pending then. -/
theorem State.swapImages_swaps (s : State) :
    s.swapImages.plumb.active = s.plumb.shadow ∧ s.swapImages.get PLUMB_STATUS.swap_pending = 0
      ∧ ∀ G, PLUMB_STATUS.swap_pending.Leaves G → PLUMB_STATUS.stored.Leaves G → s.swapImages.get G = s.get G := by
  unfold State.swapImages
  extract_lets u
  refine ⟨?_, ?_, fun G hswap hstored => ?_⟩
  · rw [(State.judgeStored_within (.refl (listMask [.PLUMB_STATUS] []) _) (by decide)).areas .plumb (by decide)]
    rfl
  · rw [State.judgeStored_get (by unfold Fld.Leaves; decide), State.bump_get, State.get_put_self (by decide) (by decide), Nat.zero_mod]
  · rw [State.judgeStored_get hstored, State.bump_get, State.get_put_apart hswap]
    rfl

/-- A pass of a running module ends by showing itself, its actions, a swap of the images if one is pending, and the period anew; the
actions touch neither the step in effect nor what Plumb shows. -/
theorem State.endPass_stages (hup : s.isUp = true) (hin : s.plumb.inPass = true) (hshut : s.plumb.shutdown = false) (hhot : s.plumb.hot < 3) :
    ∃ acted : State, State.Within (besideMask [.PLUMB_STATUS, .PLUMB_ACT, .PWR_THROTTLE] []) (s.showPass.bump (modCtr 2)).setThrottle acted
      ∧ acted.plumb.shadow = s.plumb.shadow
      ∧ ∃ swapped : State, swapped = (let flagged := acted.flag PLUMB_STATUS.swap_pending 0 (acted.on PLUMB_STATUS.swap_pending || s.plumb.swap)
          if flagged.on PLUMB_STATUS.swap_pending then flagged.swapImages else flagged)
        ∧ s.endPass.regs = swapped.regs ∧ s.endPass.plumb = { swapped.plumb with inPass := false, committed := [] } := by
  have hin' : ¬ (!s.plumb.inPass) = true := by rw [hin]; decide
  have hend : ¬ (s.plumb.shutdown || decide (3 ≤ s.plumb.hot)) = true := by simp [hshut, hhot]
  unfold State.endPass
  rw [if_neg hin']
  extract_lets p runs shown throttled moved raised captured flagged swapped ended now armed backstopped
  have hruns : runs = true := by simp [runs, hup]
  have hthrottled : throttled = shown.setThrottle := if_pos hruns
  have hshown : shown.plumb = s.plumb :=
    (State.bump_within (State.showPass_within (.refl (besideMask [] [.plumb]) s) (by decide)) _ (by decide)).areas .plumb (by decide)
  have hmoved : State.Within (besideMask [.PLUMB_STATUS, .PLUMB_ACT, .PWR_THROTTLE] []) throttled moved :=
    .ite (State.moveRegions_within (.refl _ _) (by decide)) (.refl _ _)
  have hraised : State.Within (besideMask [.PLUMB_STATUS, .PLUMB_ACT, .PWR_THROTTLE] []) throttled raised :=
    .ite (.each hmoved _ fun t r ht => State.report_within ht _ _ _ _ _ _ (by decide)) hmoved
  have hshadow : raised.plumb.shadow = s.plumb.shadow := by
    have hmoves : moved.plumb.shadow = throttled.plumb.shadow := by
      unfold moved
      split
      · exact State.moveRegions_shadow _
      · rfl
    have hraises : raised.plumb.shadow = moved.plumb.shadow := by
      rw [show raised = moved.each p.raises fun s r => s.report 12 r.1 0 r.2 from if_pos hruns]
      exact State.each_keeps (fun t : State => t.plumb.shadow = moved.plumb.shadow) rfl _ fun t r ht => (State.report_shadow ..).trans ht
    rw [hraises, hmoves, hthrottled, State.setThrottle_shadow, hshown]
  have hcaptured : State.Within (besideMask [.PLUMB_STATUS, .PLUMB_ACT, .PWR_THROTTLE] [.plumb]) raised captured :=
    .ite (State.plumbTrigger_within (.refl _ _) (by decide)) (.refl _ _)
  have hacted : State.Within (besideMask [.PLUMB_STATUS, .PLUMB_ACT, .PWR_THROTTLE] []) raised captured :=
    .ite (State.plumbTrigger_within (.refl _ _) (by decide)) (.refl _ _)
  refine ⟨captured, hthrottled ▸ hraised.trans hacted, ?_, swapped, rfl, ?_⟩
  · rw [hcaptured.areas .plumb (by decide), hshadow]
  · rw [if_neg hend, show backstopped = armed from if_neg (Nat.not_le.mpr hhot)]
    unfold armed
    split <;> exact ⟨rfl, rfl⟩

/-- The step takes effect at the end of a pass (R442). -/
theorem State.setThrottle_step (s : State) :
    s.setThrottle.get PWR_THROTTLE.step = s.plumb.step % 8 ∧ ∀ F : Fld,
        F.reg = .PLUMB_STATUS ∨ F.reg = .PLUMB_ACT → s.setThrottle.get F = s.get F := by
  unfold State.setThrottle
  extract_lets p old u
  have hreport : State.Within (besideMask [.PLUMB_STATUS, .PLUMB_ACT, .PWR_THROTTLE] []) u (if old < p.step then u.report 12 0 0 u.hottestC else u) :=
    .ite (State.report_within (.refl _ _) _ _ _ _ _ _ (by decide)) (.refl _ _)
  refine ⟨?_, fun F hF => ?_⟩
  · rw [hreport.get _ _ (by decide), State.get_flag_beside (F := PWR_THROTTLE.cause_flow) (G := PWR_THROTTLE.step) rfl (by decide),
      State.get_flag_beside (F := PWR_THROTTLE.cause_power) (G := PWR_THROTTLE.step) rfl (by decide), State.get_put_self (by decide) (by decide)]
    rfl
  · have hkind : F.reg ≠ .PWR_THROTTLE := by rcases hF with h | h <;> rw [h] <;> decide
    rw [hreport.get _ _ (by rcases hF with h | h <;> rw [h] <;> decide), State.get_flag_kind hkind, State.get_flag_kind hkind,
        State.get_put_kind hkind]

/-- What a pass that ends shows. -/
theorem State.endPass_shows (hup : s.isUp = true) (hin : s.plumb.inPass = true) (hshut : s.plumb.shutdown = false) (hhot : s.plumb.hot < 3) :
    s.endPass.plumb.inPass = false ∧ s.endPass.get PWR_THROTTLE.step = s.plumb.step % 8
      ∧ s.endPass.get PLUMB_STATUS.passes = (s.get PLUMB_STATUS.passes + 1) % 2 ^ 32
      ∧ s.endPass.get PLUMB_STATUS.executed = s.plumb.count % 512 ∧ s.endPass.get PLUMB_ACT.step_req = s.plumb.step % 8
      ∧ (s.plumb.swap = true → s.endPass.plumb.active = s.plumb.shadow ∧ s.endPass.get PLUMB_STATUS.swap_pending = 0) := by
  obtain ⟨acted, hwithin, hshadow, swapped, hswapped, hregs, hplumb⟩ := State.endPass_stages hup hin hshut hhot
  have hget (F : Fld) : s.endPass.get F = swapped.get F := by
    unfold State.get State.word
    rw [hregs]
  obtain ⟨hpasses, hexecuted, hstep⟩ := s.showPass_shows
  obtain ⟨hthrottle, hstill⟩ := (s.showPass.bump (modCtr 2)).setThrottle_step
  have hshown : s.showPass.plumb = s.plumb := (State.showPass_within (.refl (besideMask [] [.plumb]) s) (by decide)).areas .plumb (by decide)
  extract_lets flagged at hswapped
  have hkeeps (F : Fld) (hswap : PLUMB_STATUS.swap_pending.Leaves F) (hstored : PLUMB_STATUS.stored.Leaves F) : s.endPass.get F = acted.get F := by
    have hflagged : flagged.get F = acted.get F := State.get_put_apart hswap _ _ _
    rw [hget, hswapped]
    split
    · rw [flagged.swapImages_swaps.2.2 F hswap hstored, hflagged]
    · exact hflagged
  refine ⟨by rw [hplumb], ?step, ?passes, ?executed, ?req, fun hswap => ?swap⟩
  case step =>
    rw [hkeeps _ (by unfold Fld.Leaves; decide) (by unfold Fld.Leaves; decide), hwithin.get _ _ (by decide), hthrottle, State.bump_plumb, hshown]
  case passes =>
    rw [hkeeps _ (by unfold Fld.Leaves; decide) (by unfold Fld.Leaves; decide), hwithin.get _ _ (by decide), hstill _ (.inl rfl),
        State.bump_get, hpasses]
  case executed =>
    rw [hkeeps _ (by unfold Fld.Leaves; decide) (by unfold Fld.Leaves; decide), hwithin.get _ _ (by decide), hstill _ (.inl rfl),
        State.bump_get, hexecuted]
  case req =>
    rw [hkeeps _ (by unfold Fld.Leaves; decide) (by unfold Fld.Leaves; decide), hwithin.get _ _ (by decide), hstill _ (.inr rfl),
        State.bump_get, hstep]
  case swap =>
    have hpending : flagged.on PLUMB_STATUS.swap_pending = true := by
      rw [State.on, State.get_flag_self (by decide) (by decide), hswap, Bool.or_true]
      rfl
    rw [if_pos hpending] at hswapped
    obtain ⟨hactive, hzero, -⟩ := flagged.swapImages_swaps
    rw [hplumb, hget, hswapped, hzero]
    exact ⟨hactive.trans hshadow, rfl⟩

/-! ### The start of a pass (R440, R441) -/

/-- What status input 63 reads stands still while time passes. -/
theorem State.expire_statusInput (s : State) (tm : Timer) : (s.expire tm).statusInput = s.statusInput := by
  have honly := s.expire_only tm
  have hphase : (s.expire tm).phase = s.phase := honly.areas .phase (by decide)
  have hpins : (s.expire tm).pins = s.pins := honly.areas .pins (by decide)
  obtain ⟨-, hjob, -⟩ := honly.areas .store (by decide)
  unfold State.statusInput State.rssBusy State.on
  rw [honly.get (by decide), honly.get (by decide), hphase, hpins, hjob]

/-- A pass opens on the inputs latched, with the period of PLUMB_CTRL. -/
theorem State.latch_opens (s : State) (x : PlumbInputs) {q : PlumbDyn} (hq : (s.latch x).openPass.plumb = q) :
    q.inPass = true ∧ q.sensors = x.sensors ∧ q.groups = x.groups ∧ q.bays = x.bays ∧ q.slices = x.slices ∧ q.status = s.statusInput
      ∧ q.period = clampNat 40 100000 (s.get PLUMB_CTRL.period_us) ∧ q.active = s.plumb.active := by
  subst hq
  unfold State.latch
  extract_lets states status hot u
  split <;> exact ⟨rfl, rfl, rfl, rfl, rfl, rfl, rfl, rfl⟩

/-- A pass that is due opens, sets the next pass, and runs the active image (R441). -/
theorem State.startPass_runs (hruns : s.plumbRuns = true) (hfires : s.fires .plumb = true) (hin : s.plumb.inPass = false) (x : PlumbInputs) :
    s.startPass x = let u := ((s.expire .plumb).latch x).openPass
      (u.arm .plumb (u.plumb.period * 1000)).runSlots 256 0 := by
  have hopen : ¬ (!s.plumbRuns) = true := by rw [hruns]; decide
  have hidle : (!(s.expire .plumb).plumb.inPass) = true := by
    rw [show (s.expire .plumb).plumb = s.plumb from (s.expire_only .plumb).areas .plumb (by decide), hin]
    rfl
  rw [State.startPass, if_neg hopen, State.onExpiry_fires hfires, State.endPass, if_pos hidle]

/-- Settles O12: a pass that is due opens on its inputs, which none of its instructions changes; the end of a pass shows it. -/
theorem plumbPassesRun : Obligations.PlumbPassesRun := by
  refine ⟨fun s x hwf hruns hfires hin => ⟨s.startPass x, congrArg Host.Outcome.next (if_pos hwf), ?_⟩,
    fun s hup hin hshut hhot => ⟨s.endPass, rfl, State.endPass_shows hup hin hshut hhot⟩⟩
  have honly := s.expire_only .plumb
  rw [State.startPass_runs hruns hfires hin]
  extract_lets u
  obtain ⟨hin', hsensors, hgroups, hbays, hslices, hstatus, hperiod, hactive⟩ := (s.expire .plumb).latch_opens x (q := u.plumb) rfl
  generalize u = u at *
  have hpass : u.plumb.PassOf ((u.arm .plumb (u.plumb.period * 1000)).runSlots 256 0).plumb :=
    .runSlots (s := u.arm .plumb (u.plumb.period * 1000)) ⟨hin', rfl, rfl, rfl, rfl, rfl, rfl, rfl⟩ 256 0
  have htime : State.Within (besideMask [] [.timers, .clock]) (u.arm .plumb (u.plumb.period * 1000)) _ :=
    State.runSlots_within (.refl _ _) 256 0 (by decide)
  generalize (u.arm .plumb (u.plumb.period * 1000)).runSlots 256 0 = t at hpass htime
  refine ⟨hpass.inPass, hpass.sensors.trans hsensors, hpass.groups.trans hgroups, hpass.bays.trans hbays, hpass.slices.trans hslices,
    (hpass.status.trans hstatus).trans (s.expire_statusInput .plumb), ?period, ?due, ?active⟩
  case period =>
    rw [hpass.period, hperiod, honly.get (by decide), clampNat]
    omega
  case due =>
    have htimers : t.timers = (u.arm .plumb (u.plumb.period * 1000)).timers := htime.areas .timers (by decide)
    have hclock : t.clock = u.clock := htime.areas .clock (by decide)
    rw [State.due, htimers, ← State.due, State.arm_due_self, hpass.period, hclock, Nat.mul_comm]
  case active =>
    rw [hpass.active, hactive]
    exact congrArg PlumbDyn.active (honly.areas .plumb (by decide))

end

end Sys2Proof.Machine
end

/-! The scribe: captures begun, merged and missed, holds, releases, and the end of a capture. -/

section
namespace Sys2Proof.Machine

section
variable {s : State} {b source : Nat} {holder : Option Nat}

/-! ### Banks (R459, R461) -/

theorem State.setBank_shows (s : State) (b st holder : Nat) :
    (s.setBank b st holder).bankState b = st % 4 ∧ (s.setBank b st holder).bankHolder b = holder % 8 := by
  unfold State.setBank State.bankState State.bankHolder
  by_cases h : b = 0
  · simp only [if_pos h]
    exact ⟨by rw [State.get_put_beside (F := SCRIBE_STATUS.a_holder) (G := SCRIBE_STATUS.a_state) rfl (by decide),
      State.get_put_self (by decide) (by decide)]; rfl, State.get_put_self (by decide) (by decide)⟩
  · simp only [if_neg h]
    exact ⟨by rw [State.get_put_beside (F := SCRIBE_STATUS.b_holder) (G := SCRIBE_STATUS.b_state) rfl (by decide),
      State.get_put_self (by decide) (by decide)]; rfl, State.get_put_self (by decide) (by decide)⟩

theorem State.setBank_only (s : State) (b st holder : Nat) : State.Only [.SCRIBE_STATUS] [] s (s.setBank b st holder) :=
  (State.setBank_within (.refl _ s) b st holder (by decide)).only

/-- Fields of SCRIBE_STATUS beside the state of a bank leave it. -/
theorem State.bankState_put {F : Fld} (ha : SCRIBE_STATUS.a_state.reg = F.reg) (hlo : 4 ≤ F.lo) (s : State) (b v : Nat) :
    (s.put F 0 v).bankState b = s.bankState b := by
  unfold State.bankState
  split
  · exact State.get_put_beside ha (.inl ((by decide : _ ≤ 4).trans hlo))
  · exact State.get_put_beside ha (.inl hlo)

/-! ### Triggers (R459, R460) -/

/-- A trigger takes the bank that is free. -/
theorem State.trigger_begins (hb : b < 2) (hsource : source < 8) (hnone : s.scribe.capturing = none) (htarget : s.targetBank = some b) :
    CaptureBegun s b source holder (s.trigger source holder) := by
  unfold State.trigger
  rw [hnone, htarget]
  dsimp -zeta only
  extract_lets n gated copied banked shown named hosted final
  have hnamed : State.Within (listMask [.SCRIBE_INFO] []) shown final :=
    State.put_within (State.put_within (State.put_within (State.put_within (State.setWord_within (.refl _ _) _ _ _ (by decide))
      _ _ _ (by decide)) _ _ _ (by decide)) _ _ _ (by decide)) _ _ _ (by decide)
  have hshown : State.Within (listMask [.SCRIBE_STATUS] []) banked shown :=
    State.put_within (State.put_within (.refl _ _) _ _ _ (by decide)) _ _ _ (by decide)
  have hbank : State.Within (listMask [.SCRIBE_SEQ, .SCRIBE_TIME, .SCRIBE_STATUS] []) copied banked :=
    State.setBank_within (State.put_within (State.put_within (.refl _ _) _ _ _ (by decide)) _ _ _ (by decide)) _ _ _ (by decide)
  have hcopied : State.Within (listMask [] [.bankA, .bankB]) s (s.copyBank b fun o => !laterDomain o || gated.contains (captureRegion o)) :=
    State.copyBank_within (.refl _ s) _ _ (by decide)
  constructor
  case capturing => rfl
  case state =>
    calc final.bankState b
      _ = shown.bankState b := by
        unfold State.bankState
        rw [hnamed.get _ _ (by decide), hnamed.get _ _ (by decide)]
      _ = 1 := by
        rw [State.bankState_put (F := SCRIBE_STATUS.last_seq) rfl (by decide), State.bankState_put (F := SCRIBE_STATUS.last_bank) rfl (by decide),
          (State.setBank_shows ..).1]
  case seq =>
    calc final.get SCRIBE_SEQ.seq b
      _ = banked.get SCRIBE_SEQ.seq b := by rw [hnamed.get _ _ (by decide), hshown.get _ _ (by decide)]
      _ = n % 2 ^ 64 := by
        rw [(State.setBank_only ..).get (by decide), State.get_put_kind (by decide), State.get_put_self hb (by decide)]
        rfl
  case time =>
    obtain ⟨hnow₁, -⟩ := hnamed.areas .devtime (by decide)
    obtain ⟨hnow₂, -⟩ := hshown.areas .devtime (by decide)
    obtain ⟨hnow₃, -⟩ := hbank.areas .devtime (by decide)
    calc final.get SCRIBE_TIME.devtime b
      _ = banked.get SCRIBE_TIME.devtime b := by rw [hnamed.get _ _ (by decide), hshown.get _ _ (by decide)]
      _ = copied.devtime % 2 ^ 64 := by
        rw [(State.setBank_only ..).get (by decide), State.get_put_self hb (by decide)]
        rfl
      _ = final.devtime % 2 ^ 64 := by rw [hnow₁, hnow₂, hnow₃]
  case source =>
    calc final.get SCRIBE_INFO.source b
      _ = named.get SCRIBE_INFO.source b := by
        rw [State.get_put_beside (F := SCRIBE_INFO.sclk_ns) (G := SCRIBE_INFO.source) rfl (by decide),
            State.get_put_beside (F := SCRIBE_INFO.lane_ns) (G := SCRIBE_INFO.source) rfl (by decide),
          State.get_put_beside (F := SCRIBE_INFO.host_ns) (G := SCRIBE_INFO.source) rfl (by decide)]
      _ = source := by
        rw [State.get_put_self hb (by decide)]
        exact Nat.mod_eq_of_lt hsource
  case counted =>
    have hctrs : final.ctrs = copied.ctrs :=
      (hnamed.areas .ctrs (by decide)).trans ((hshown.areas .ctrs (by decide)).trans (hbank.areas .ctrs (by decide)))
    calc final.ctr (modCtr 13)
      _ = copied.ctr (modCtr 13) := congrArg (Tbl.get 0 · (modCtr 13)) hctrs
      _ = s.ctr (modCtr 13) + 1 := by
        rw [State.bump_ctr_self]
        exact congrArg (Tbl.get 0 · (modCtr 13) + 1) (hcopied.areas .ctrs (by decide))

theorem State.setScribe_only (s : State) (x : ScribeDyn) : State.Only [] [.scribe] s { s with scribe := x } :=
  ⟨fun _ _ _ => rfl, fun a ha => by cases a <;> simp_all [Area.same]⟩

/-- A trigger in a capture merges into it. -/
theorem State.trigger_merges (hb : b < 2) (hcap : s.scribe.capturing = some b) :
    (s.trigger source holder).ctr (modCtr 15) = s.ctr (modCtr 15) + 1
      ∧ (s.trigger source holder).get SCRIBE_INFO.merged b = min 255 (s.get SCRIBE_INFO.merged b + 1)
      ∧ State.Only [.SCRIBE_INFO] [.ctrs, .scribe] s (s.trigger source holder) := by
  unfold State.trigger
  rw [hcap]
  dsimp -zeta only
  extract_lets u
  have hu : State.Only [.SCRIBE_INFO] [.ctrs] s u := (State.put_within (State.bump_within (.refl _ s) _ (by decide)) _ _ _ (by decide)).only
  have hcounted : u.ctr (modCtr 15) = s.ctr (modCtr 15) + 1 := by rw [State.put_ctr, State.bump_ctr_self]
  refine ⟨hcounted, ?_, (hu.mono (by decide) (by decide)).trans ((u.setScribe_only _).mono (by decide) (by decide))⟩
  calc u.get SCRIBE_INFO.merged b
    _ = min 255 (s.get SCRIBE_INFO.merged b + 1) % 256 := State.get_put_self hb (by decide)
    _ = min 255 (s.get SCRIBE_INFO.merged b + 1) := Nat.mod_eq_of_lt (by omega)

/-- A trigger for which no bank is free is missed. -/
theorem State.trigger_misses (hnone : s.scribe.capturing = none) (htarget : s.targetBank = none) :
    (s.trigger source holder).get SCRIBE_STATUS.missed = 1 ∧ (s.trigger source holder).ctr (modCtr 14) = s.ctr (modCtr 14) + 1
      ∧ State.Only [.SCRIBE_STATUS] [.ctrs] s (s.trigger source holder) := by
  unfold State.trigger
  rw [hnone, htarget]
  exact ⟨State.get_put_self (by decide) (by decide), s.bump_ctr_self _,
    (State.put_within (State.bump_within (.refl _ s) _ (by decide)) _ _ _ (by decide)).only⟩

/-! ### Holds, releases and the end of a capture (R460, R461) -/

/-- A complete bank is held. -/
theorem State.holdBank_holds (h : s.bankState b = 2) (holder : Nat) :
    (s.holdBank b holder).bankState b = 3 ∧ (s.holdBank b holder).bankHolder b = holder % 8
      ∧ State.Only [.SCRIBE_STATUS] [] s (s.holdBank b holder) := by
  rw [State.holdBank, if_pos h]
  obtain ⟨hstate, hholder⟩ := s.setBank_shows b 3 holder
  exact ⟨hstate, hholder, s.setBank_only b 3 holder⟩

/-- A held bank is released. -/
theorem State.releaseBank_releases (h : s.bankState b = 3) :
    (s.releaseBank b).bankState b = 2 ∧ (s.releaseBank b).bankHolder b = 0 ∧ State.Only [.SCRIBE_STATUS] [] s (s.releaseBank b) := by
  rw [State.releaseBank, if_pos h]
  obtain ⟨hstate, hholder⟩ := s.setBank_shows b 2 0
  exact ⟨hstate, hholder, s.setBank_only b 2 0⟩

/-- A capture that ends leaves its bank complete, and held if a hold was asked for. -/
theorem State.captured_ends (hb : b < 2) (hcap : s.scribe.capturing = some b) :
    s.captured.scribe = ⟨none, none, []⟩ ∧ s.captured.get SCRIBE_INFO.complete b = 1
      ∧ s.captured.bankState b = (if s.scribe.holdAfter.isSome then 3 else 2) := by
  unfold State.captured
  rw [hcap]
  dsimp -zeta only
  extract_lets done held
  have hcomplete : done.get SCRIBE_INFO.complete b = 1 := State.get_put_self hb (by decide)
  have hscribe : done.scribe = s.scribe :=
    (State.put_within (State.copyBank_within (.refl (besideMask [] [.scribe]) s) _ _ (by decide)) _ _ _ (by decide)).areas .scribe (by decide)
  have hheld : held = if s.scribe.holdAfter.isSome then done.setBank b 3 (s.scribe.holdAfter.getD 0) else done.setBank b 2 0 := by
    unfold held
    rw [hscribe]
    cases s.scribe.holdAfter <;> rfl
  refine ⟨rfl, ?_, ?_⟩
  · change held.get SCRIBE_INFO.complete b = 1
    rw [hheld]
    split <;> rw [(State.setBank_only ..).get (by decide), hcomplete]
  · change held.bankState b = _
    rw [hheld]
    split <;> exact (State.setBank_shows ..).1

/-- A capture that begins after some time has passed. -/
theorem CaptureBegun.after {t u : State} (h : State.Only [] passing s t) (k : CaptureBegun t b source holder u) :
    CaptureBegun s b source holder u where
  capturing := by
    rw [k.capturing, show t.region = s.region from funext (h.region (by simp))]
  state := k.state
  seq := by rw [k.seq, h.get (by decide), h.get (by decide)]
  time := k.time
  source := k.source
  counted := k.counted.trans (congrArg (Tbl.get 0 · (modCtr 13) + 1) (h.areas .ctrs (by decide)))

/-- The period timer triggers, and runs anew. -/
theorem State.periodTrigger_begins (hb : b < 2) (hfires : s.fires .scribe = true) (hperiod : 0 < s.get SCRIBE_CTRL.period_ms)
    (hnone : s.scribe.capturing = none) (htarget : s.targetBank = some b) :
    CaptureBegun s b 3 (if s.on SCRIBE_CTRL.auto_hold then some 6 else none) s.periodTrigger
      ∧ s.periodTrigger.due .scribe = some (s.periodTrigger.clock + 1000000 * s.get SCRIBE_CTRL.period_ms) := by
  have hperiod' : (s.expire .scribe).get SCRIBE_CTRL.period_ms = s.get SCRIBE_CTRL.period_ms := (s.expire_only .scribe).get (by decide) 0
  have honly : State.Only [] passing s (s.expire .scribe).startPeriod :=
    (State.startPeriod_within (State.expire_within (.refl _ s) _ (by decide)) (by decide)).only
  have hdue : (s.expire .scribe).startPeriod.due .scribe =
      some ((s.expire .scribe).startPeriod.clock + 1000000 * s.get SCRIBE_CTRL.period_ms) := by
    rw [State.startPeriod, hperiod', if_neg hperiod.ne', State.arm_due_self, State.arm_clock, Nat.mul_comm]
  rw [State.periodTrigger, State.onExpiry_fires hfires]
  generalize (s.expire .scribe).startPeriod = u at honly hdue
  have hholder : (s.expire .scribe).autoHolder = if s.on SCRIBE_CTRL.auto_hold then some 6 else none := by
    rw [State.autoHolder, State.on, (s.expire_only .scribe).get (by decide), ← State.on]
  have hnone' : u.scribe.capturing = none := by rw [honly.areas .scribe (by decide), hnone]
  have htarget' : u.targetBank = some b := by
    rw [← htarget]
    unfold State.targetBank State.bankState
    simp only [honly.get (F := SCRIBE_STATUS.a_state) (by decide), honly.get (F := SCRIBE_STATUS.b_state) (by decide),
      honly.get (F := SCRIBE_SEQ.seq) (by decide)]
  have hstill : State.Within (besideMask [] [.timers, .clock]) u (u.trigger 3 (s.expire .scribe).autoHolder) :=
    State.trigger_within (.refl _ u) _ _ (by decide)
  refine ⟨hholder ▸ (State.trigger_begins (holder := (s.expire .scribe).autoHolder) (source := 3) hb (by decide) hnone' htarget').after honly, ?_⟩
  rw [State.due, hstill.areas .timers (by decide), ← State.due, hdue, hstill.areas .clock (by decide)]

end

/-- Settles O52: a write of SCRIBE_CMD performs the operation of the one bit it sets. -/
theorem scribeCaptures : Obligations.ScribeCaptures := by
  intro s a b hb
  refine ⟨fun hw => ?commands, fun hfires hperiod hnone htarget => ⟨_, rfl, State.periodTrigger_begins hb hfires hperiod hnone htarget⟩,
    fun hcap => ⟨_, rfl, State.captured_ends hb hcap⟩⟩
  have hsource : sourceOf a < 8 := by cases a <;> simp [sourceOf]
  have htrigger : exec (.trigger a) s = .next (s.trigger (sourceOf a) none) :=
      congrArg Host.Outcome.next ((State.Writable.writeField (F := SCRIBE_CMD.trigger) hw 1).trans rfl)
  have hthold : exec (.triggerHold a) s = .next (s.trigger (sourceOf a) (some (holderOf a))) :=
    congrArg Host.Outcome.next ((State.Writable.writeField (F := SCRIBE_CMD.trigger_hold) hw 1).trans rfl)
  have hholdA : exec (.holdA a) s = .next (s.holdBank 0 (holderOf a)) :=
    congrArg Host.Outcome.next ((State.Writable.writeField (F := SCRIBE_CMD.hold_a) hw 1).trans rfl)
  have hholdB : exec (.holdB a) s = .next (s.holdBank 1 (holderOf a)) :=
    congrArg Host.Outcome.next ((State.Writable.writeField (F := SCRIBE_CMD.hold_b) hw 1).trans rfl)
  have hreleaseA : exec (.releaseA a) s = .next (s.releaseBank 0) :=
    congrArg Host.Outcome.next ((State.Writable.writeField (F := SCRIBE_CMD.release_a) hw 1).trans rfl)
  have hreleaseB : exec (.releaseB a) s = .next (s.releaseBank 1) :=
    congrArg Host.Outcome.next ((State.Writable.writeField (F := SCRIBE_CMD.release_b) hw 1).trans rfl)
  exact ⟨fun hnone htarget => ⟨⟨_, htrigger, State.trigger_begins hb hsource hnone htarget⟩,
      ⟨_, hthold, State.trigger_begins hb hsource hnone htarget⟩⟩,
    fun hcap => ⟨_, htrigger, State.trigger_merges hb hcap⟩, fun hnone htarget => ⟨_, htrigger, State.trigger_misses hnone htarget⟩,
    fun h => ⟨_, hholdA, State.holdBank_holds (b := 0) h _⟩, fun h => ⟨_, hholdB, State.holdBank_holds (b := 1) h _⟩,
    fun h => ⟨_, hreleaseA, State.releaseBank_releases (b := 0) h⟩, fun h => ⟨_, hreleaseB, State.releaseBank_releases (b := 1) h⟩⟩

end Sys2Proof.Machine
end

/-! A generate request of a DRBG that has served 65,536 reseeds it first, which the reseed counter shows: two statements that leave the
counters as they are fail there. -/

section
namespace Sys2Proof.Machine

section
variable {s : State}

/-- A generate request after the 65,536th reseeds the DRBG first (R431). -/
theorem State.generate_reseeds (hspent : 65536 ≤ s.ridge.drbg) (hready : s.drbgReady = true) (n : Nat) :
    (s.generate n).2.ctr (modCtr 9) = s.ctr (modCtr 9) + 1 := by
  rw [State.generate, if_pos hspent, State.reseed, if_pos hready]
  exact s.bump_ctr_self _

end

/-- The DRBG of a module that is up has served 65,536 requests, and MCTP has negotiated. -/
def drbgSpent : State :=
  ({ State.reset with
      phase := .up
      ridge := { RidgeDyn.reset with running := true, startup := [], drbg := 65536, conns := [⟨none, 3, none, none⟩] } } : State).put
    PWR_STATE_MISC.ridge 0 0

/-- Refutes O14: a CHALLENGE that makes the DRBG reseed counts the reseed, and the counters are not among what the answer may change. -/
theorem not_spdmAttests : ¬ Obligations.SpdmAttests := by
  intro h
  obtain ⟨hsigned, -⟩ := h drbgSpent (.mctp 0x60) 0 (List.replicate 96 0) (by decide +kernel) (by decide +kernel) (by decide)
  have hnone : drbgSpent.attestRefused = none := by decide +kernel
  obtain ⟨⟨u, hexec, nonce, sig, -, -, hanswers⟩, -⟩ := hsigned hnone
  have hu : drbgSpent.spdmChallenge (.mctp 0x60) 0 = u := Host.Outcome.next.inj hexec
  have hruns : drbgSpent.spdmChallenge (.mctp 0x60) 0 = drbgSpent.signed fun nonce sig s => s.respond (.mctp 0x60)
      (.challengeAuth 0 s.chainDigest nonce sig) := by
    have hready : ¬ (!drbgSpent.spdmReady (.mctp 0x60)) = true := by decide +kernel
    have hstage : ¬ (drbgSpent.conn (.mctp 0x60)).stage < 3 := by decide +kernel
    rw [State.spdmChallenge, State.spdm, if_neg hready, if_neg hstage, if_neg (not_not.mpr rfl), hnone]
  have hcounted : u.ctr (modCtr 9) = drbgSpent.ctr (modCtr 9) + 1 := by
    rw [← hu, hruns]
    exact State.generate_reseeds (by decide +kernel) (by decide +kernel) 32
  have hkept : u.ctr (modCtr 9) = drbgSpent.ctr (modCtr 9) := congrArg (Tbl.get 0 · (modCtr 9)) (hanswers.only.areas .ctrs (by decide))
  exact absurd (hcounted.symm.trans hkept) (by decide +kernel)

/-- Refutes O19: a GET_RANDOM that makes the DRBG reseed counts the reseed, and the counters are not among what the answer may change. -/
theorem not_informationCommands : ¬ Obligations.InformationCommands := by
  intro h
  obtain ⟨-, -, hrandom⟩ := h drbgSpent (.mctp 0x60 [1, 0])
  obtain ⟨hready, -⟩ := hrandom (by decide +kernel) rfl (by decide) (by decide)
  obtain ⟨u, hexec, rsp, -, -, -, honly⟩ := hready (by decide +kernel)
  have hu : drbgSpent.command (.mctp 0x60 [1, 0]) 0x03 true (fun n => n == 2) State.getRandom = u := Host.Outcome.next.inj hexec
  have hcounted : u.ctr (modCtr 9) = drbgSpent.ctr (modCtr 9) + 1 := by
    rw [← hu]
    exact State.generate_reseeds (by decide +kernel) (by decide +kernel) 1
  have hkept : u.ctr (modCtr 9) = drbgSpent.ctr (modCtr 9) := congrArg (Tbl.get 0 · (modCtr 9)) (honly.areas .ctrs (by decide))
  exact absurd (hcounted.symm.trans hkept) (by decide +kernel)

end Sys2Proof.Machine
end

/-! The SPDM responder: what a request that its connection stage allows answers, and what it leaves of connections and sessions. -/

section
namespace Sys2Proof.Machine

section
variable {s u : State} {t : Transport}

/-! ### Requests and answers -/

/-- A request that the connection's stage allows runs. -/
theorem State.spdm_runs (hready : s.spdmReady t = true) {least : Nat} (hstage : least ≤ (s.conn t).stage) (run : State → State) :
    s.spdm t least run = run s := by
  rw [State.spdm, hready, if_neg (by decide), if_neg (Nat.not_lt.mpr hstage)]

theorem State.respond_ridge (s : State) (t : Transport) (r : SpdmRsp) : (s.respond t r).ridge = s.ridge :=
  (State.respond_within (.refl (listMask [] [.hosts, .sent]) s) t r (by decide)).areas .ridge (by decide)

theorem State.respond_conn (s : State) (t : Transport) (r : SpdmRsp) : (s.respond t r).conn t = s.conn t := by
  unfold State.conn
  rw [State.respond_ridge]

theorem State.respond_session (s : State) (t : Transport) (r : SpdmRsp) (id : Nat) : (s.respond t r).session t id = s.session t id := by
  unfold State.session State.sessionsOn
  rw [State.respond_ridge]

/-- A response that follows a change of Ridge's own data answers the request. -/
theorem State.respond_answers (honly : State.Only [] [.ridge] s u) (r : SpdmRsp) : SpdmAnswers s t r (u.respond t r) where
  sent := by
    have hsent : u.sent = s.sent := honly.areas .sent (by decide)
    cases t <;> exact congrArg _ hsent
  taken := by
    rintro h rfl
    rw [State.respond, State.emit_host, State.modHost_host_self]
  only := (honly.mono (by decide) (by decide)).trans
    ((State.respond_within (.refl (listMask [] [.hosts, .sent]) u) t r (by decide)).only.mono (by decide) (by decide))

theorem State.modRidge_only (s : State) (g : RidgeDyn → RidgeDyn) : State.Only [] [.ridge] s (s.modRidge g) :=
  (State.modRidge_within (.refl _ s) g (by decide)).only

/-! ### Connections -/

theorem State.setConn_only (s : State) (t : Transport) (c : SpdmConn) : State.Only [] [.ridge] s (s.setConn t c) := s.modRidge_only _

/-- The connection of a transport is of its DOE. -/
theorem State.conn_doe (s : State) (t : Transport) : (s.conn t).doe = doeOf t := by
  unfold State.conn
  cases hfind : s.ridge.conns.find? (fun c => c.doe == doeOf t) with
  | none => rfl
  | some c =>
    have hdoe := List.find?_some hfind
    exact beq_iff_eq.mp hdoe

theorem State.setConn_conn {c : SpdmConn} (hc : c.doe = doeOf t) (s : State) : (s.setConn t c).conn t = c := by
  have hfirst : (s.ridge.conns.filter (fun x => x.doe != doeOf t)).find? (fun x => x.doe == doeOf t) = none := by
    simp
  have hfind : (s.setConn t c).ridge.conns.find? (fun x => x.doe == doeOf t) = some c := by
    change (s.ridge.conns.filter (fun x => x.doe != doeOf t) ++ [c]).find? _ = some c
    rw [List.find?_append, hfirst]
    simp [hc]
  rw [State.conn, hfind]
  rfl

/-- A response that loads the connection of its transport. -/
theorem State.setConn_answers {c : SpdmConn} (hc : c.doe = doeOf t) (s : State) (r : SpdmRsp) :
    SpdmAnswers s t r ((s.setConn t c).respond t r) ∧ ((s.setConn t c).respond t r).conn t = c :=
  ⟨State.respond_answers (s.setConn_only t c) r, (State.respond_conn ..).trans (State.setConn_conn hc s)⟩

/-- A request of the negotiation takes the connection to its stage. -/
theorem State.spdmStage_answers (hready : s.spdmReady t = true) {stage : Nat} (hstage : stage - 1 ≤ (s.conn t).stage) (r : SpdmRsp) :
    SpdmAnswers s t r (s.spdmStage t stage r) ∧ stage ≤ ((s.spdmStage t stage r).conn t).stage := by
  rw [State.spdmStage, State.spdm_runs hready hstage]
  obtain ⟨hanswers, hconn⟩ := State.setConn_answers (c := { s.conn t with stage := max stage (s.conn t).stage }) (s.conn_doe t) s r
  refine ⟨hanswers, ?_⟩
  rw [hconn]
  exact le_max_left ..

end

/-! ### Negotiation, digests and certificates -/

/-- A part of the chain that fits in one transfer is answered; an offset beyond the chain is refused. -/
theorem State.spdmCertificate_answers {s : State} {t : Transport} (hready : s.spdmReady t = true) (hstage : 3 ≤ (s.conn t).stage)
    {off len : Nat} (hlen : len ≤ 4088) : SpdmAnswers s t (if s.chain.length ≤ off then .error .invalid
      else .certificate 0 ((s.chain.drop off).take len) (s.chain.length - (off + len))) (s.spdmCertificate t 0 off len) := by
  rw [State.spdmCertificate, State.spdm_runs hready hstage]
  by_cases hoff : s.chain.length ≤ off
  · rw [if_pos (Or.inr hoff), if_pos hoff]
    exact State.respond_answers (.refl ..) _
  · have hpart : ((s.chain.drop off).take len).length ≤ 4088 := (List.length_take_le ..).trans hlen
    have hleft : s.chain.length - off - ((s.chain.drop off).take len).length = s.chain.length - (off + len) := by
      rw [List.length_take, List.length_drop]
      omega
    rw [if_neg hoff, if_neg (show ¬ ((0 : Nat) ≠ 0 ∨ s.chain.length ≤ off) by simpa using hoff)]
    dsimp only
    rw [if_pos hpart, hleft]
    exact State.respond_answers (.refl ..) _

/-! ### Sessions -/

section
variable {s : State} {t : Transport} {id : Nat} {x : Session}

/-- A request inside a session that is open as the request needs runs. -/
theorem State.inSession_opens (hready : s.spdmReady t = true) (hstage : 3 ≤ (s.conn t).stage) (hx : s.session t id = some x) (run : State → State) :
    s.inSession t id x.confirmed run = run s := by
  rw [State.inSession, State.spdm_runs hready hstage, hx]
  exact if_pos rfl

/-- The session has its number, and is of the transport. -/
theorem State.session_spec (hx : s.session t id = some x) : x.overDoe = doeOf t ∧ x.id = id := by
  have hid := List.find?_some hx
  have hmem := List.mem_of_find?_eq_some hx
  rw [State.sessionsOn, List.mem_filter, beq_iff_eq] at hmem
  exact ⟨hmem.2, beq_iff_eq.mp hid⟩

/-- The session of a transport with a number is established. -/
def Session.finished (t : Transport) (id : Nat) (x : Session) : Session :=
  if x.overDoe = doeOf t ∧ x.id = id then { x with confirmed := true } else x

theorem Session.finished_names (t : Transport) (id : Nat) (x : Session) :
    (x.finished t id).overDoe = x.overDoe ∧ (x.finished t id).id = x.id := by
  unfold Session.finished
  split <;> exact ⟨rfl, rfl⟩

/-- FINISH establishes the session. -/
theorem State.spdmFinish_establishes (hready : s.spdmReady t = true) (hstage : 3 ≤ (s.conn t).stage) (hx : s.session t id = some x)
    (hc : x.confirmed = false) :
    SpdmAnswers s t (.finished id) (s.spdmFinish t id) ∧ ∃ y, (s.spdmFinish t id).session t id = some y ∧ y.confirmed = true := by
  obtain ⟨hdoe, hid⟩ := State.session_spec hx
  rw [State.spdmFinish, ← hc, State.inSession_opens hready hstage hx]
  refine ⟨State.respond_answers (s.modRidge_only _) _, { x with confirmed := true }, ?_, rfl⟩
  rw [State.respond_session]
  change ((s.ridge.sessions.map (Session.finished t id)).filter fun y => y.overDoe == doeOf t).find? (fun y => y.id == id) = _
  have hsame : ((fun y : Session => y.overDoe == doeOf t) ∘ Session.finished t id) = fun y => y.overDoe == doeOf t :=
    funext fun y => congrArg (· == doeOf t) (y.finished_names t id).1
  have hsame' : ((fun y : Session => y.id == id) ∘ Session.finished t id) = fun y => y.id == id :=
    funext fun y => congrArg (· == id) (y.finished_names t id).2
  rw [List.filter_map, List.find?_map, hsame, hsame']
  rw [State.session, State.sessionsOn] at hx
  rw [hx, Option.map_some, Session.finished, if_pos ⟨hdoe, hid⟩]

/-- END_SESSION closes the session. -/
theorem State.spdmEndSession_closes (hready : s.spdmReady t = true) (hstage : 3 ≤ (s.conn t).stage) (hx : s.session t id = some x)
    (hc : x.confirmed = true) :
    SpdmAnswers s t (.endSessionAck id) (s.spdmEndSession t id) ∧ (s.spdmEndSession t id).session t id = none := by
  rw [State.spdmEndSession, ← hc, State.inSession_opens hready hstage hx]
  refine ⟨State.respond_answers (s.modRidge_only _) _, ?_⟩
  rw [State.respond_session]
  change ((s.ridge.sessions.filter fun x => !(x.overDoe == doeOf t && x.id == id)).filter fun x => x.overDoe == doeOf t).find?
      (fun x => x.id == id) = none
  simp only [List.find?_eq_none, List.mem_filter]
  rintro y ⟨⟨-, hnot⟩, hdoe⟩ hid
  simp [hdoe, hid] at hnot

/-! ### Chunks (R419) -/

theorem State.spdmChunkSend_takes (hready : s.spdmReady t = true) (hstage : 3 ≤ (s.conn t).stage) {handle seq : Nat} {last : Bool}
    (hnext : (s.conn t).chunkIn = some (handle, seq) ∨ (s.conn t).chunkIn = none ∧ seq = 0) :
    SpdmAnswers s t (.chunkSendAck handle seq) (s.spdmChunkSend t handle seq last)
      ∧ ((s.spdmChunkSend t handle seq last).conn t).chunkIn = if last then none else some (handle, seq + 1) := by
  have hruns : s.spdmChunkSend t handle seq last =
      (s.setConn t { s.conn t with chunkIn := if last then none else some (handle, seq + 1) }).respond t (.chunkSendAck handle seq) := by
    rw [State.spdmChunkSend, State.spdm_runs hready hstage]
    dsimp only
    rcases hnext with h | ⟨h, rfl⟩
    · simp [h]
    · simp [h]
  obtain ⟨hanswers, hconn⟩ := State.setConn_answers
    (c := { s.conn t with chunkIn := if last then none else some (handle, seq + 1) }) (s.conn_doe t) s (.chunkSendAck handle seq)
  rw [hruns]
  exact ⟨hanswers, congrArg SpdmConn.chunkIn hconn⟩

theorem State.spdmChunkGet_leaves (hready : s.spdmReady t = true) (hstage : 3 ≤ (s.conn t).stage) {handle seq : Nat} {bs : List Byte}
    (hout : (s.conn t).chunkOut = some (handle, seq, bs)) :
    SpdmAnswers s t (.chunkResponse handle seq (decide (bs.length ≤ 4084)) (bs.take 4084)) (s.spdmChunkGet t handle seq)
      ∧ ((s.spdmChunkGet t handle seq).conn t).chunkOut = if bs.length ≤ 4084 then none else some (handle, seq + 1, bs.drop 4084) := by
  have hruns : s.spdmChunkGet t handle seq =
      (s.setConn t { s.conn t with chunkOut := if bs.length ≤ 4084 then none else some (handle, seq + 1, bs.drop 4084) }).respond t
        (.chunkResponse handle seq (decide (bs.length ≤ 4084)) (bs.take 4084)) := by
    have hrest : (bs.drop 4084).isEmpty = decide (bs.length ≤ 4084) := by
      rw [Bool.eq_iff_iff, List.isEmpty_iff, List.drop_eq_nil_iff, decide_eq_true_iff]
    rw [State.spdmChunkGet, State.spdm_runs hready hstage]
    dsimp only
    rw [hout]
    simp [hrest]
  obtain ⟨hanswers, hconn⟩ := State.setConn_answers
    (c := { s.conn t with chunkOut := if bs.length ≤ 4084 then none else some (handle, seq + 1, bs.drop 4084) }) (s.conn_doe t) s
    (.chunkResponse handle seq (decide (bs.length ≤ 4084)) (bs.take 4084))
  rw [hruns]
  exact ⟨hanswers, congrArg SpdmConn.chunkOut hconn⟩

/-- A connection of PFh's DOE loses its chunks. -/
def SpdmConn.unchunked (h : Nat) (c : SpdmConn) : SpdmConn := if c.doe = some h then { c with chunkIn := none, chunkOut := none } else c

theorem SpdmConn.unchunked_doe (h : Nat) (c : SpdmConn) : (c.unchunked h).doe = c.doe := by
  unfold SpdmConn.unchunked
  split <;> rfl

/-- DOE Abort empties a DOE (R419). -/
theorem State.abortDoe_empties {h : HostId} (hready : s.spdmReady (.doe h) = true) :
    ((s.abortDoe h).host h).doeIn = [] ∧ ((s.abortDoe h).host h).doeOut = [] ∧ ((s.abortDoe h).host h).doeError = false
      ∧ ((s.abortDoe h).conn (.doe h)).chunkIn = none ∧ ((s.abortDoe h).conn (.doe h)).chunkOut = none
      ∧ State.Only [] [.hosts, .ridge] s (s.abortDoe h) := by
  have hopen : (s.linkUp h && s.isUp) = true := by
    simp only [State.spdmReady, Bool.and_eq_true] at hready ⊢
    exact ⟨hready.1.2, hready.2⟩
  rw [State.abortDoe, if_pos hopen]
  have hhost : (s.doeAbort h).host h = { s.host h with doeIn := [], doeOut := [], doeError := false } :=
    s.modHost_host_self h fun d => { d with doeIn := [], doeOut := [], doeError := false }
  have hconn : ((s.doeAbort h).conn (.doe h)).chunkIn = none ∧ ((s.doeAbort h).conn (.doe h)).chunkOut = none := by
    have hfind : (s.doeAbort h).ridge.conns.find? (fun c => c.doe == some h.val) =
        (s.ridge.conns.find? fun c => c.doe == some h.val).map (SpdmConn.unchunked h) := by
      change (s.ridge.conns.map (SpdmConn.unchunked h)).find? _ = _
      rw [List.find?_map]
      congr 2
      funext c
      exact congrArg (· == some h.val) (c.unchunked_doe h)
    rw [State.conn, show doeOf (.doe h) = some h.val from rfl, hfind]
    cases hc : s.ridge.conns.find? (fun c => c.doe == some h.val) with
    | none => exact ⟨rfl, rfl⟩
    | some c =>
      have hdoe := List.find?_some hc
      simp [SpdmConn.unchunked, beq_iff_eq.mp hdoe]
  rw [hhost]
  exact ⟨rfl, rfl, rfl, hconn.1, hconn.2, (State.doeAbort_within (.refl _ s) h (by decide)).only⟩

end

/-- Settles O13: each request is the answer of its stage. -/
theorem spdmNegotiates : Obligations.SpdmNegotiates := by
  intro s t hready
  refine ⟨⟨_, rfl, ?version⟩, fun h => ⟨_, rfl, State.spdmStage_answers hready h spdmCaps⟩,
      fun h => ⟨_, rfl, State.spdmStage_answers hready h spdmAlgs⟩,
    fun h => ⟨_, rfl, ?digests⟩, fun off len h hlen => ⟨_, rfl, State.spdmCertificate_answers hready h hlen⟩, fun code => ⟨_, rfl, ?unsupported⟩⟩
  case version =>
    rw [State.spdmVersion, State.spdm_runs hready (Nat.zero_le _)]
    obtain ⟨hanswers, hconn⟩ := State.setConn_answers (t := t) (c := ⟨doeOf t, 1, none, none⟩) rfl s (.version 1 3)
    exact ⟨hanswers, congrArg SpdmConn.stage hconn⟩
  case digests =>
    rw [State.spdmDigests, State.spdm_runs hready h]
    exact State.respond_answers (.refl ..) _
  case unsupported =>
    rw [State.spdmUnsupported, State.spdm_runs hready (Nat.zero_le _)]
    exact State.respond_answers (.refl ..) _

/-- Settles O15: a request in a session, a chunk and DOE Abort each change what the lemma on it says. -/
theorem spdmSessions : Obligations.SpdmSessions := by
  intro s t id x hready hstage
  refine ⟨fun hx hc => ⟨_, rfl, State.spdmFinish_establishes hready hstage hx hc⟩, fun hx hc => ⟨⟨_, rfl, ?heartbeat⟩, ⟨_, rfl, ?update⟩,
      ⟨_, rfl, State.spdmEndSession_closes hready hstage hx hc⟩⟩,
    fun handle part hnone => ⟨_, rfl, State.spdmChunkSend_takes hready hstage (.inr ⟨hnone, rfl⟩)⟩,
    fun handle seq last part hsome => ⟨_, rfl, State.spdmChunkSend_takes hready hstage (.inl hsome)⟩,
    fun handle seq bs hout => ⟨_, rfl, State.spdmChunkGet_leaves hready hstage hout⟩, ?abort⟩
  case heartbeat =>
    rw [State.spdmHeartbeat, State.inSession_runs hready hstage hx hc]
    exact State.respond_answers (.refl ..) _
  case update =>
    rw [State.spdmKeyUpdate, State.inSession_runs hready hstage hx hc]
    exact State.respond_answers (.refl ..) _
  case abort =>
    rintro h rfl
    exact ⟨_, rfl, State.abortDoe_empties hready⟩

end Sys2Proof.Machine
end

/-! Commands of Ridge's command table: what answers them, and the flash that a firmware update writes and reads back. -/

section
namespace Sys2Proof.Machine

/-! ### Numbers as bytes (R38) -/

theorem leNat_leBytes (k n : Nat) : leNat (leBytes k n) = n % 256 ^ k := by
  induction k generalizing n with
  | zero => rw [pow_zero, Nat.mod_one]; rfl
  | succ k ih =>
    calc (BitVec.ofNat 8 n).toNat + 256 * leNat (leBytes k (n / 256))
      _ = n % 256 + 256 * (n / 256 % 256 ^ k) := by rw [BitVec.toNat_ofNat, ih]
      _ = n % 256 ^ (k + 1) := by rw [pow_succ', Nat.mod_mul]

/-- The bytes that stand between others are the slice at their place. -/
theorem sliceBytes_between {pre mid post : List Byte} {o n : Nat} (ho : pre.length = o) (hn : mid.length = n) :
    sliceBytes (pre ++ (mid ++ post)) o n = mid := by
  subst ho hn
  simp [sliceBytes]

/-- The number that stands between other bytes is what is read at its place. -/
theorem leAt_between {pre post : List Byte} {o n x : Nat} (ho : pre.length = o) : leAt (pre ++ (leBytes n x ++ post)) o n = x % 256 ^ n := by
  rw [leAt, sliceBytes_between ho (leBytes_length n x), leNat_leBytes]

/-! ### Bytes of a sparse store -/

theorem Tbl.byte?_insert (t : Tbl Byte) (k : Nat) (v : Byte) (a : Nat) :
    Tbl.byte? (Tbl.insert t k v) a = if a = k then some v else Tbl.byte? t a := by
  induction t with
  | nil => rfl
  | cons e t ih =>
    simp only [Tbl.insert]
    split_ifs <;> simp_all [Tbl.byte?]

/-- Bytes beside a byte string that is written stay. -/
theorem Tbl.byte?_writeBytes (t : Tbl Byte) {a : Nat} {bs : List Byte} {x : Nat} (h : x < a ∨ a + bs.length ≤ x) :
    Tbl.byte? (Tbl.writeBytes t a bs) x = Tbl.byte? t x := by
  induction bs generalizing t a with
  | nil => rfl
  | cons b bs ih =>
    rw [List.length_cons] at h
    rw [Tbl.writeBytes, ih _ (by omega), Tbl.byte?_insert, if_neg (by omega)]

theorem Tbl.readBytes_congr {d d' : Nat → Byte} {t t' : Tbl Byte} {a n : Nat}
    (h : ∀ x, a ≤ x → x < a + n → (Tbl.byte? t x).getD (d x) = (Tbl.byte? t' x).getD (d' x)) :
    Tbl.readBytes d t a n = Tbl.readBytes d' t' a n := by
  induction n generalizing a with
  | zero => rfl
  | succ n ih =>
    rw [Tbl.readBytes, Tbl.readBytes, h a le_rfl (by omega), ih fun x hlo hhi => h x (by omega) (by omega)]

/-- What has been written reads back. -/
theorem Tbl.readBytes_writeBytes (d : Nat → Byte) (t : Tbl Byte) (a : Nat) (bs : List Byte) :
    Tbl.readBytes d (Tbl.writeBytes t a bs) a bs.length = bs := by
  induction bs generalizing t a with
  | nil => rfl
  | cons b bs ih =>
    rw [List.length_cons, Tbl.readBytes, Tbl.writeBytes, ih, Tbl.byte?_writeBytes _ (.inl (Nat.lt_succ_self a)), Tbl.byte?_insert, if_pos rfl]
    rfl

/-! ### Commands and their answers (R428, R430) -/

section
variable {s u : State} {c : Caller} {op : Nat}

/-- A command that is served, allowed and of a length that fits runs and is answered. -/
theorem State.command_runs (hserved : s.served? c op = true) {fits : Nat → Bool} (hfits : fits (s.requestOf c).length = true)
    {run : State → List Byte → Nat × List Byte × State} {result : Nat} {rsp : List Byte} (hrun : run s (s.requestOf c) = (result, rsp, u)) :
    s.command c op true fits run = u.answer c op result rsp := by
  rw [State.command, hserved, if_neg (by decide), if_neg (by decide)]
  dsimp only
  rw [hfits, if_neg (by decide), hrun]

/-- A caller without the right is refused. -/
theorem State.command_refused (hserved : s.served? c op = true) (fits : Nat → Bool) (run : State → List Byte → Nat × List Byte × State) :
    s.command c op false fits run = s.answer c op mbNotPermitted [] := by
  rw [State.command, hserved, if_neg (by decide), if_pos (by decide)]

theorem State.answer_answered (hsent : u.sent = s.sent) (op result : Nat) (rsp : List Byte) :
    Answered s c op result rsp (u.answer c op result rsp) := by
  cases c with
  | mailbox h => exact ⟨⟨h, result, rsp, op⟩, List.mem_append_right _ (List.mem_singleton.mpr rfl), rfl, rfl, rfl, rfl⟩
  | mctp a req => exact ⟨List.mem_cons_self, hsent ▸ List.suffix_cons ..⟩

theorem State.answer_only (s : State) (c : Caller) (op result : Nat) (rsp : List Byte) : State.Only [] [.ridge, .sent] s (s.answer c op result rsp) :=
  (State.answer_within (.refl _ s) c op result rsp (by decide)).only

/-- Of Ridge's data an answer touches the mailboxes alone. -/
theorem State.answer_ridge (s : State) (c : Caller) (op result : Nat) (rsp : List Byte) :
    ∃ mailbox, (s.answer c op result rsp).ridge = { s.ridge with mailbox := mailbox } := by
  cases c <;> exact ⟨_, rfl⟩

/-- What Ridge's flash holds does not depend on the mailboxes. -/
theorem State.flash_mailbox {t : State} {mailbox : List MbRun} (h : t.ridge = { s.ridge with mailbox := mailbox }) : t.flash = s.flash := by
  funext a n
  rw [State.flash, State.flash, h]
  exact Tbl.readBytes_congr fun x _ _ => by simp only [State.flashBlank, h]

end

/-! ### The boot directory (R414) -/

section
variable {s t : State} {c q k : Nat}

/-- A directory copy of a sequence and a slot, before its CRC. -/
def copyBytes (q k : Nat) : List Byte := leBytes 4 0x4A584244 ++ leBytes 4 q ++ leBytes 1 k ++ leBytes 51 0

theorem copyBytes_length (q k : Nat) : (copyBytes q k).length = 60 := by simp [copyBytes, leBytes_length]

/-- A directory copy with its CRC is valid. -/
theorem State.dirCopy_valid (h : s.flash (0x1000 * c) 64 = copyBytes q k ++ crcBytes (copyBytes q k)) (hq : q < 2 ^ 32) (hk : k < 2) :
    s.dirCopy c = some (q, k) := by
  have htake : (copyBytes q k ++ crcBytes (copyBytes q k)).take 60 = copyBytes q k := List.take_left' (copyBytes_length q k)
  have hcrc : leAt (copyBytes q k ++ crcBytes (copyBytes q k)) 60 4 = (crc32c (copyBytes q k)).toNat := by
    have hat := leAt_between (n := 4) (x := (crc32c (copyBytes q k)).toNat) (post := []) (copyBytes_length q k)
    rw [List.append_nil] at hat
    exact hat.trans (Nat.mod_eq_of_lt (BitVec.isLt _))
  have hmagic : leAt (copyBytes q k ++ crcBytes (copyBytes q k)) 0 4 = 0x4A584244 := by
    rw [copyBytes, List.append_assoc, List.append_assoc, List.append_assoc, ← List.nil_append (leBytes 4 0x4A584244 ++ _),
        leAt_between (pre := []) List.length_nil]
    norm_num
  have hseq : leAt (copyBytes q k ++ crcBytes (copyBytes q k)) 4 4 = q := by
    rw [copyBytes, List.append_assoc, List.append_assoc, List.append_assoc, List.append_assoc, leAt_between (leBytes_length 4 _)]
    exact Nat.mod_eq_of_lt hq
  have hslot : leAt (copyBytes q k ++ crcBytes (copyBytes q k)) 8 1 % 2 = k := by
    have hat : leAt (copyBytes q k ++ crcBytes (copyBytes q k)) 8 1 = k % 256 := by
      rw [copyBytes, List.append_assoc, List.append_assoc, leAt_between (by simp [leBytes_length]), pow_one]
    omega
  unfold State.dirCopy
  dsimp only
  rw [h, htake, hcrc, hmagic, hseq, hslot, if_pos ⟨rfl, rfl⟩]

/-- The slot that the directory names is one of the two. -/
theorem State.activeSlot_lt (s : State) : s.activeSlot < 2 := by
  have hcopy {c : Nat} {d : Nat × Nat} (h : s.dirCopy c = some d) : d.2 < 2 := by
    unfold State.dirCopy at h
    dsimp only at h
    split at h
    · obtain rfl := Option.some.inj h
      exact Nat.mod_lt _ (by decide)
    · cases h
  unfold State.activeSlot State.directory
  cases h₀ : s.dirCopy 0 <;> cases h₁ : s.dirCopy 1
  case none.none => decide
  case none.some => exact hcopy h₁
  case some.none => exact hcopy h₀
  case some.some =>
    dsimp only
    split
    · exact hcopy h₁
    · exact hcopy h₀

/-- A valid copy with the next sequence, beside the other copy as it is, is the directory's. -/
theorem State.activeSlot_next (hnext : s.nextCopy = (c, q)) (hnew : t.dirCopy c = some (q, k)) (hold : ∀ j, j ≠ c → t.dirCopy j = s.dirCopy j) :
    t.activeSlot = k := by
  unfold State.nextCopy State.directory at hnext
  unfold State.activeSlot State.directory
  cases h₀ : s.dirCopy 0 <;> cases h₁ : s.dirCopy 1 <;> simp only [h₀, h₁, Nat.sub_self, Nat.sub_zero] at hnext
  case none.none =>
    obtain ⟨rfl, rfl⟩ := Prod.mk.inj hnext
    rw [hnew, hold 1 (by decide), h₁]
    rfl
  case none.some b =>
    obtain ⟨rfl, rfl⟩ := Prod.mk.inj hnext
    rw [hnew, hold 1 (by decide), h₁]
    simp
  case some.none a =>
    obtain ⟨rfl, rfl⟩ := Prod.mk.inj hnext
    rw [hnew, hold 0 (by decide), h₀]
    simp
  case some.some a b =>
    by_cases hlt : a.1 < b.1 <;> simp only [hlt, if_true, if_false, Nat.sub_self, Nat.sub_zero] at hnext <;> obtain ⟨rfl, rfl⟩ := Prod.mk.inj hnext
    · rw [hnew, hold 1 (by decide), h₁]
      simp
    · rw [hnew, hold 0 (by decide), h₀]
      simp

end

/-! ### Firmware updates (R434) -/

section
variable {s : State} {c : Caller} {u : Update}

/-- A command that changes Ridge's data is answered, and leaves what it has made of the data but for the mailboxes. -/
theorem State.command_updates {op : Nat} (hserved : s.served? c op = true) (howner : s.isOwner c = true) {fits : Nat → Bool}
    (hfits : fits (s.requestOf c).length = true) {run : State → List Byte → Nat × List Byte × State} {result : Nat} {g : RidgeDyn → RidgeDyn}
    (hrun : run s (s.requestOf c) = (result, [], s.modRidge g)) {t : State} (ht : s.command c op (s.isOwner c) fits run = t) :
    Answered s c op result [] t ∧ ∃ mailbox, t.ridge = { (s.modRidge g).ridge with mailbox := mailbox } := by
  rw [howner, State.command_runs hserved hfits hrun] at ht
  exact ht ▸ ⟨State.answer_answered rfl .., State.answer_ridge ..⟩

theorem State.updateOf_own {k : Nat} (hu : s.ridge.update = some u) (hk : u.caller = k) : s.updateOf k = .inr u := by
  rw [State.updateOf, hu]
  exact if_pos hk

/-- No other caller has an update open. -/
theorem State.update_free {k : Nat} (h : ∀ v, s.ridge.update = some v → v.caller = k) :
    ¬ (s.ridge.update.elim false fun u => u.caller != k) = true := by
  cases hu : s.ridge.update with
  | none => simp
  | some v => simp [h v hu]

theorem find1_drop1 {α : Type} (k j : Nat) (xs : List (Nat × α)) : find1 j (drop1 k xs) = if j = k then none else find1 j xs := by
  induction xs with
  | nil => simp [drop1, find1]
  | cons e xs ih =>
    rw [drop1] at ih ⊢
    rw [List.filter_cons, find1_cons]
    by_cases he : e.1 = k
    · rw [if_neg (by simp [he]), ih]
      split_ifs <;> simp_all
    · rw [if_pos (by simp [he]), find1_cons, ih]
      split_ifs <;> simp_all

theorem Tbl.byte?_filter (p : Nat → Bool) (t : Tbl Byte) (a : Nat) : Tbl.byte? (t.filter fun e => p e.1) a = if p a then Tbl.byte? t a else none := by
  induction t with
  | nil => simp [Tbl.byte?]
  | cons e t ih =>
    by_cases hp : p e.1 <;> by_cases ha : a = e.1 <;> simp_all [Tbl.byte?]

/-- A slot that has been erased reads as such, and the rest of the flash as before. -/
theorem State.flash_erased {t : State} {i : Nat} (hflash : t.ridge.flash = s.ridge.flash.filter fun e => slotOf e.1 != some i)
    (herased : t.ridge.erased = insertNat i s.ridge.erased) (hspoiled : t.ridge.spoiled = drop1 i s.ridge.spoiled) :
    (∀ a, slotOf a = some i → t.flash a 1 = [Config.erasedByte a]) ∧ ∀ a, slotOf a ≠ some i → t.flash a 1 = s.flash a 1 := by
  have hbyte (a : Nat) : Tbl.byte? t.ridge.flash a = if slotOf a ≠ some i then Tbl.byte? s.ridge.flash a else none := by
    rw [hflash, Tbl.byte?_filter (fun x => slotOf x != some i)]
    simp
  refine ⟨fun a ha => ?_, fun a ha => ?_⟩
  · simp [State.flash, Tbl.readBytes, hbyte, ha, State.flashBlank, hspoiled, find1_drop1, herased, mem_insertNat]
  · refine Tbl.readBytes_congr fun x hlo hhi => ?_
    obtain rfl : x = a := by omega
    have hblank : t.flashBlank x = s.flashBlank x := by
      unfold State.flashBlank
      cases hslot : slotOf x with
      | none => rfl
      | some k =>
        have hk : k ≠ i := fun e => ha (hslot.trans (congrArg some e))
        simp [hspoiled, find1_drop1, herased, mem_insertNat, hk]
    rw [hbyte, if_pos ha, hblank]

/-! ### The commands of an update -/

theorem State.fwBegin_runs {k : Nat} {req : List Byte} (hfree : ∀ v, s.ridge.update = some v → v.caller = k) (hsize : leAt req 0 4 ≤ slotSize) :
    State.fwBegin k s req = (mbOk, [], s.modRidge fun r => { r with
      update := some ⟨k, leAt req 0 4, 0, false, 1 - s.activeSlot⟩, erased := insertNat (1 - s.activeSlot) r.erased
      spoiled := drop1 (1 - s.activeSlot) r.spoiled, flash := r.flash.filter fun e => slotOf e.1 != some (1 - s.activeSlot) }) := by
  rw [State.fwBegin, if_neg (State.update_free hfree), if_neg (Nat.not_lt.mpr hsize)]

theorem State.fwWrite_runs {k : Nat} {req : List Byte} (hu : s.ridge.update = some u) (hk : u.caller = k) (hat : leAt req 0 4 = u.written)
    (hsize : u.written + (req.drop 4).length ≤ slotSize) :
    State.fwWrite k s req = (mbOk, [], s.modRidge fun r => { r with
      flash := Tbl.writeBytes r.flash (slotBase (1 - s.activeSlot) + u.written) (req.drop 4)
      update := some { u with written := u.written + (req.drop 4).length, finished := false } }) := by
  rw [State.fwWrite, State.updateOf_own hu hk]
  dsimp only
  rw [if_neg (not_not.mpr hat), if_neg (Nat.not_lt.mpr hsize)]

theorem State.fwFinish_runs {k : Nat} (req : List Byte) (hu : s.ridge.update = some u) (hk : u.caller = k) :
    State.fwFinish k s req = if s.imageGood u then (mbOk, [], s.modRidge fun r => { r with update := some { u with finished := true } })
      else (mbDigestMismatch, [], s.modRidge id) := by
  rw [State.fwFinish, State.updateOf_own hu hk]
  rfl

theorem State.fwActivate_runs {k : Nat} (req : List Byte) (hu : s.ridge.update = some u) (hk : u.caller = k) (hfinished : u.finished = true) :
    State.fwActivate k s req = (mbOk, [], s.modRidge fun r => { r with
      flash := Tbl.writeBytes r.flash (0x1000 * s.nextCopy.1)
        (copyBytes s.nextCopy.2 (1 - s.activeSlot) ++ crcBytes (copyBytes s.nextCopy.2 (1 - s.activeSlot)))
      update := none, activating := if k < 4 then some s.nextCopy.1 else none }) := by
  rw [State.fwActivate, State.updateOf_own hu hk]
  dsimp only
  rw [hfinished, if_neg (by decide)]
  rfl

theorem State.fwCancel_runs {k : Nat} (req : List Byte) (hfree : ∀ v, s.ridge.update = some v → v.caller = k) :
    State.fwCancel k s req = (mbOk, [], s.modRidge fun r => { r with update := none }) := by
  rw [State.fwCancel, if_neg (State.update_free hfree)]

/-- The directory names the slot of the copy that has been written (R414). -/
theorem State.activeSlot_written {t : State} {k : Nat} (hk : k < 2) (hseq : s.nextCopy.2 < 2 ^ 32) (hblank : t.flashBlank = s.flashBlank)
    (hflash : t.ridge.flash = Tbl.writeBytes s.ridge.flash (0x1000 * s.nextCopy.1)
        (copyBytes s.nextCopy.2 k ++ crcBytes (copyBytes s.nextCopy.2 k))) :
    t.activeSlot = k := by
  refine State.activeSlot_next (Prod.mk.eta (p := s.nextCopy)).symm (State.dirCopy_valid ?_ hseq hk) fun j hj => ?_
  · have hlen : (copyBytes s.nextCopy.2 k ++ crcBytes (copyBytes s.nextCopy.2 k)).length = 64 := by
      rw [List.length_append, copyBytes_length, crcBytes, leBytes_length]
    rw [State.flash, hflash, ← hlen]
    exact Tbl.readBytes_writeBytes ..
  · have hsame : t.flash (0x1000 * j) 64 = s.flash (0x1000 * j) 64 := by
      refine Tbl.readBytes_congr fun x hlo hhi => ?_
      rw [hblank, hflash, Tbl.byte?_writeBytes]
      rw [List.length_append, copyBytes_length, crcBytes, leBytes_length]
      omega
    unfold State.dirCopy
    rw [hsame]

end

/-- Settles O20: each command's operation on Ridge's data, and what its result reads as. -/
theorem firmwareUpdates : Obligations.FirmwareUpdates := by
  intro s c u howner
  refine ⟨fun hserved hlen hsize hfree => ⟨_, rfl, ?begin⟩, fun hserved hu hc hlo hhi hat hsize => ⟨_, rfl, ?write⟩,
    fun hserved hu hc hreq => ⟨_, rfl, ?finish⟩, fun hserved hu hc hreq hfinished hseq => ⟨_, rfl, ?activate⟩,
    fun hserved hfree hreq => ⟨_, rfl, ?cancel⟩⟩
  case begin =>
    obtain ⟨hanswered, mailbox, hridge⟩ := State.command_updates hserved howner (fits := fun n => n == 4) (beq_iff_eq.mpr hlen)
      (State.fwBegin_runs hfree hsize) rfl
    generalize s.command c 0x10 _ _ _ = t at *
    exact ⟨hanswered, by rw [hridge]; rfl, State.flash_erased (by rw [hridge]; rfl) (by rw [hridge]; rfl) (by rw [hridge]; rfl)⟩
  case write =>
    have hlen : ((s.requestOf c).drop 4).length = (s.requestOf c).length - 4 := List.length_drop
    obtain ⟨hanswered, mailbox, hridge⟩ := State.command_updates hserved howner (fits := fun n => decide (4 ≤ n ∧ n ≤ 4096))
      (decide_eq_true ⟨hlo, hhi⟩) (State.fwWrite_runs hu hc hat (by omega)) rfl
    generalize s.command c 0x11 _ _ _ = t at *
    refine ⟨hanswered, ?_, ?_⟩
    · rw [State.flash, hridge, ← hlen]
      exact Tbl.readBytes_writeBytes ..
    · rw [hridge, Nat.add_sub_assoc hlo, ← hlen]
      rfl
  case finish =>
    have hruns := State.fwFinish_runs (s.requestOf c) hu hc
    beta_reduce
    by_cases hgood : s.imageGood u = true
    · rw [if_pos hgood] at hruns ⊢
      obtain ⟨hanswered, mailbox, hridge⟩ := State.command_updates hserved howner (fits := fun n => n == 0) (by rw [hreq]; rfl) hruns rfl
      exact ⟨hanswered, by rw [hridge]; rfl⟩
    · rw [if_neg hgood] at hruns ⊢
      obtain ⟨hanswered, mailbox, hridge⟩ := State.command_updates hserved howner (fits := fun n => n == 0) (by rw [hreq]; rfl) hruns rfl
      exact ⟨hanswered, by rw [hridge]; exact hu⟩
  case activate =>
    obtain ⟨hanswered, mailbox, hridge⟩ := State.command_updates hserved howner (fits := fun n => n == 0) (by rw [hreq]; rfl)
      (State.fwActivate_runs _ hu hc hfinished) rfl
    generalize s.command c 0x13 _ _ _ = t at *
    have hnext : s.nextCopy.2 < 2 ^ 32 := by
      unfold State.nextCopy
      cases hd : s.directory with
      | none => decide
      | some d => exact hseq d hd
    refine ⟨hanswered, by rw [hridge]; rfl, State.activeSlot_written (by omega) hnext (funext fun x => ?_) (by rw [hridge, State.modRidge])⟩
    simp only [State.flashBlank, hridge, State.modRidge]
  case cancel =>
    obtain ⟨hanswered, mailbox, hridge⟩ := State.command_updates hserved howner (fits := fun n => n == 0) (by rw [hreq]; rfl)
      (State.fwCancel_runs _ hfree) rfl
    exact ⟨hanswered, by rw [hridge]; rfl, by rw [hridge]; rfl⟩

end Sys2Proof.Machine
end

/-! Trestle: Ridge held in reset, its failures with their causes, and its restarts. -/

section
namespace Sys2Proof.Machine

section
variable {s t : State}

/-! ### No transaction is open (R123) -/

/-- Where neither a commit waits nor a context is open there is nothing to roll back. -/
theorem State.NoTxn.rollBackAll (h : s.NoTxn) (r : Nat) : s.rollBackAll r = s := by
  obtain ⟨hcommits, hstates⟩ := h
  have hidle : (List.range 5).filter s.txnLive = [] := by
    rw [List.filter_eq_nil_iff]
    intro c hc
    have hzero := hstates ⟨c, List.mem_range.mp hc⟩
    simp [State.txnLive, hzero]
  rw [State.rollBackAll, hcommits]
  exact congrArg (fun cs => s.each cs fun s c => s.rollBack c r) hidle

/-- What keeps to a mask keeps to a larger one. -/
theorem State.Within.mono {m m' : Nat} (h : State.Within m s t) (hm : m ||| m' = m') : State.Within m' s t := by
  have hbit {i : Nat} (hi : m'.testBit i = false) : m.testBit i = false := by
    rw [← hm, Nat.testBit_or, Bool.or_eq_false_iff] at hi
    exact hi.1
  exact ⟨fun k hk => h.words k (hbit hk), fun a ha => h.areas a (hbit ha)⟩

theorem State.NoTxn.beside (h : s.NoTxn) (hw : State.Within (besideMask [.TXN_STATUS] [.commits]) s t) : t.NoTxn :=
  ⟨(hw.areas .commits (by decide)).trans h.1, fun c => (hw.get _ _ (by decide)).trans (h.2 c)⟩

/-! ### Ridge goes into reset (R402, R404, R424, R429) -/

/-- A mailbox is unavailable. -/
def State.mbGone (s : State) (h : Nat) : State :=
  ((s.setWord .MB_STATUS h (setBits (s.word .MB_STATUS h &&& maskBits 31 1) 0 2 3)).put MB_CTRL.go h 0).put MB_CTRL.abort h 0

theorem State.mbGone_state_self {h : Nat} (hh : h < 4) (s : State) : (s.mbGone h).get MB_STATUS.state h = 3 := by
  rw [State.mbGone, State.get_put_kind (by decide), State.get_put_kind (by decide)]
  exact (State.get_setWord_self (F := MB_STATUS.state) hh _).trans (getBits_setBits_self (by decide))

theorem State.mbGone_state_other {h j : Nat} (hj : j ≠ h) (s : State) : (s.mbGone h).get MB_STATUS.state j = s.get MB_STATUS.state j := by
  rw [State.mbGone, State.get_put_kind (by decide), State.get_put_kind (by decide)]
  exact congrArg (getBits · 0 2) (State.setWord_word_index hj _)

/-- Ridge in reset: every session and command is lost. -/
theorem State.ridgeOff_loses (s : State) :
    s.ridgeOff.get PWR_STATE_MISC.ridge = 5 ∧ s.ridgeOff.ridge.running = false ∧ s.ridgeOff.ridge.sessions = [] ∧ s.ridgeOff.ridge.update = none
      ∧ ∀ h : HostId, s.ridgeOff.get MB_STATUS.state h = 3 := by
  unfold State.ridgeOff
  extract_lets u v
  change (v.each (List.range 4) State.mbGone).get _ = 5 ∧ _
  have hmail : State.Within (listMask [.MB_STATUS, .MB_CTRL] []) v (v.each (List.range 4) State.mbGone) :=
    .each (.refl _ v) _ fun t h ht => State.put_within (State.put_within (State.setWord_within ht _ _ _ (by decide)) _ _ _ (by decide))
        _ _ _ (by decide)
  have hridge : (v.each (List.range 4) State.mbGone).ridge = v.ridge := hmail.areas .ridge (by decide)
  refine ⟨?_, congrArg RidgeDyn.running hridge, congrArg RidgeDyn.sessions hridge, congrArg RidgeDyn.update hridge, fun h => ?_⟩
  · rw [hmail.get _ _ (by decide)]
    exact State.get_put_self (by decide) (by decide)
  · exact State.each_reaches (P := fun t => t.get MB_STATUS.state h = 3) (Q := fun _ => True) (fun _ _ _ => trivial)
      (fun t _ => t.mbGone_state_self h.isLt) (fun t y hy ht => (State.mbGone_state_other (Ne.symm hy) t).trans ht)
      (List.mem_range.mpr h.isLt) trivial

/-- Configuration freezes; with no transaction open, only Brace changes beside. -/
theorem State.freeze_freezes (h : s.NoTxn) :
    s.freeze.get GLOBAL_STATUS.cfg_frozen = 1 ∧ s.freeze.get GLOBAL_STATUS.ridge_down = 1
      ∧ State.Within (listMask [.GLOBAL_STATUS, .BRACE_DSTATE] [.brace]) s s.freeze := by
  have hputs : State.Within (listMask [.GLOBAL_STATUS, .BRACE_DSTATE] [.brace])
      s ((s.put GLOBAL_STATUS.cfg_frozen 0 1).put GLOBAL_STATUS.ridge_down 0 1) :=
    State.put_within (State.put_within (.refl _ s) _ _ _ (by decide)) _ _ _ (by decide)
  have hno : ((s.put GLOBAL_STATUS.cfg_frozen 0 1).put GLOBAL_STATUS.ridge_down 0 1).NoTxn :=
    h.beside (State.put_within (State.put_within (.refl _ s) _ _ _ (by decide)) _ _ _ (by decide))
  unfold State.freeze
  rw [hno.rollBackAll]
  have hfrozen : ((s.put GLOBAL_STATUS.cfg_frozen 0 1).put GLOBAL_STATUS.ridge_down 0 1).get GLOBAL_STATUS.cfg_frozen = 1 := by
    rw [State.get_put_beside (F := GLOBAL_STATUS.ridge_down) (G := GLOBAL_STATUS.cfg_frozen) rfl (by decide), State.get_put_self (by decide)
        (by decide)]
    rfl
  have hdown : ((s.put GLOBAL_STATUS.cfg_frozen 0 1).put GLOBAL_STATUS.ridge_down 0 1).get GLOBAL_STATUS.ridge_down = 1 :=
    State.get_put_self (by decide) (by decide)
  generalize (s.put GLOBAL_STATUS.cfg_frozen 0 1).put GLOBAL_STATUS.ridge_down 0 1 = u at hputs hfrozen hdown
  dsimp only
  split
  · refine ⟨?_, ?_, State.modBrace_within (State.put_within hputs _ _ _ (by decide)) _ (by decide)⟩
    · exact (State.get_put_kind (by decide)).trans hfrozen
    · exact (State.get_put_kind (by decide)).trans hdown
  · exact ⟨hfrozen, hdown, hputs⟩

/-- Ridge held in reset by its failure or by a planned restart: with no transaction open, the counts of restarts stay. -/
theorem State.holdRidge_holds (h : s.NoTxn) :
    RidgeHeld s.holdRidge ∧ s.holdRidge.get BRACE_TRESTLE.restarts = s.get BRACE_TRESTLE.restarts
      ∧ s.holdRidge.get BRACE_TRESTLE.cause = s.get BRACE_TRESTLE.cause := by
  have hno : s.ridgeOff.NoTxn := h.beside (State.ridgeOff_within (.refl _ s) (by decide))
  obtain ⟨hheld, hstopped, hsessions, hupdate, hmail⟩ := s.ridgeOff_loses
  obtain ⟨hfrozen, hdown, hfreeze⟩ := State.freeze_freezes hno
  have hoff : State.Within (besideMask [.BRACE_TRESTLE] []) s s.ridgeOff := State.ridgeOff_within (.refl _ s) (by decide)
  unfold State.holdRidge
  generalize s.ridgeOff.freeze = u at hfrozen hdown hfreeze
  have hkept (F : Fld) (hF : BRACE_TRESTLE.restarting.Leaves F) (hr : F.reg = .BRACE_TRESTLE) :
      (((u.disarm .restartCount).put BRACE_TRESTLE.restarting 0 0).arm .restart 10000).get F = s.get F := by
    rw [State.arm_get, State.get_put_apart hF, State.disarm_get, hfreeze.get _ _ (by rw [hr]; decide), hoff.get _ _ (by rw [hr]; decide)]
  have hother (F : Fld) (i : Nat) (hF : F.reg ≠ .BRACE_TRESTLE) :
      (((u.disarm .restartCount).put BRACE_TRESTLE.restarting 0 0).arm .restart 10000).get F i = u.get F i := by
    rw [State.arm_get, State.get_put_kind hF, State.disarm_get]
  have hridge : u.ridge = s.ridgeOff.ridge := hfreeze.areas .ridge (by decide)
  refine ⟨?_, hkept _ (by unfold Fld.Leaves; decide) rfl, hkept _ (by unfold Fld.Leaves; decide) rfl⟩
  constructor
  case held => rw [hother _ _ (by decide), hfreeze.get _ _ (by decide), hheld]
  case due => exact State.arm_due_self ..
  case frozen => rw [hother _ _ (by decide), hfrozen]
  case down => rw [hother _ _ (by decide), hdown]
  case stopped => exact (congrArg RidgeDyn.running hridge).trans hstopped
  case sessions => exact (congrArg RidgeDyn.sessions hridge).trans hsessions
  case update => exact (congrArg RidgeDyn.update hridge).trans hupdate
  case mailboxes =>
    intro k
    rw [hother _ _ (by decide), hfreeze.get _ _ (by decide), hmail]

/-! ### A failure of Ridge (R404, R411 to R413) -/

theorem State.RidgeSteady.awake (h : s.RidgeSteady) : s.portsPowered = true ∧ s.get PWR_STATE_MISC.ridge = 0 := by
  simpa [State.ridgeLive] using h.live

/-- A failure while no restart is under way is the first: its cause is recorded, and Ridge is held. -/
theorem State.RidgeSteady.fails (h : s.RidgeSteady) (n c : Nat) {cause : Nat} (hcause : cause < 16) (locator : Word) :
    RidgeFailed cause (s.ridgeFails n c cause locator) := by
  obtain ⟨hports, hridge⟩ := h.awake
  have hdegraded : s.on GLOBAL_STATUS.degraded = false := by rw [State.on, h.whole]; rfl
  have hcalm : s.on BRACE_TRESTLE.restarting = false := by rw [State.on, h.calm]; rfl
  have hopen : ¬ (!s.portsPowered || s.on GLOBAL_STATUS.degraded || (s.get PWR_STATE_MISC.ridge == 5 && s.armed .restart && !s.ridge.planned))
      = true := by
    simp [hports, hdegraded, hridge]
  have hfirst : (s.attempting && !s.ridge.planned) = false := by
    simp [State.attempting, hcalm, h.rested]
  have hidle : (s.on BRACE_TRESTLE.restarting && !s.ridge.planned) = false := by rw [hcalm]; rfl
  unfold State.ridgeFails
  rw [if_neg hopen]
  extract_lets running again failed told planned
  have htold : told = failed := if_neg (by rw [show running = false from hidle]; decide)
  rw [if_neg (show ¬ (again = true ∧ _) by rw [show again = false from hfirst]; simp),
      if_neg (show ¬ again = true by rw [show again = false from hfirst]; decide)]
  have hno : (planned.put BRACE_TRESTLE.restarts 0 0).NoTxn := by
    refine h.noTxn.beside (State.put_within (State.modRidge_within ?_ _ (by decide)) _ _ _ (by decide))
    rw [htold]
    exact State.put_within (State.reportIn_within (.refl _ s) _ _ _ _ _ _ _ (by decide)) _ _ _ (by decide)
  obtain ⟨hheld, hrestarts, hcauses⟩ := State.holdRidge_holds hno
  refine ⟨hheld, hcauses.trans ?_, hrestarts.trans ?_⟩
  · rw [State.get_put_beside (F := BRACE_TRESTLE.restarts) (G := BRACE_TRESTLE.cause) rfl (by decide), State.modRidge_get, htold,
      State.get_put_self (by decide) (by decide)]
    exact Nat.mod_eq_of_lt hcause
  · exact (State.get_put_self (by decide) (by decide)).trans (Nat.zero_mod _)

/-- What leaves the phase, Ridge's state and the restart count alone leaves Ridge steady. -/
theorem State.RidgeSteady.beside (h : s.RidgeSteady)
    (hw : State.Within (besideMask [.GLOBAL_STATUS, .BRACE_TRESTLE, .TXN_STATUS, .PWR_STATE_MISC] [.phase, .commits, .ridge]) s t)
    (ht : t.due .restartCount = s.due .restartCount) : t.RidgeSteady := by
  have hphase : t.phase = s.phase := hw.areas .phase (by decide)
  have hridge : t.ridge = s.ridge := hw.areas .ridge (by decide)
  constructor
  case live =>
    have hlive := h.live
    unfold State.ridgeLive State.portsPowered at hlive ⊢
    rwa [hphase, hw.get _ _ (by decide)]
  case whole => exact (hw.get _ _ (by decide)).trans h.whole
  case calm => exact (hw.get _ _ (by decide)).trans h.calm
  case rested => exact (congrArg Option.isSome ht).trans h.rested
  case unplanned => exact (congrArg RidgeDyn.planned hridge).trans h.unplanned
  case noTxn => exact h.noTxn.beside (hw.mono (by decide))

/-- A condition of RIDGE_LS has been latched, and Ridge fails. -/
theorem State.RidgeSteady.latches (h : s.RidgeSteady) {F : Fld} (hF : F.reg = .RIDGE_LS) (hb : F.lo + F.len ≤ 64) (h1 : 0 < F.len) :
    RidgeFailed 2 ((s.put F 0 1).ridgeFails 11 1 2 0) ∧ ((s.put F 0 1).ridgeFails 11 1 2 0).get F = 1 := by
  have hput : State.Within (besideMask [.GLOBAL_STATUS, .BRACE_TRESTLE, .TXN_STATUS, .PWR_STATE_MISC] [.phase, .commits, .ridge]) s (s.put F 0 1) :=
    State.put_within (.refl _ s) _ _ _ (by rw [hF]; decide)
  refine ⟨(h.beside hput (State.put_due ..)).fails 11 1 (by decide) 0, ?_⟩
  have hlatched : (s.put F 0 1).get F = 1 := by
    rw [State.get_put_self (by rw [hF]; decide) hb]
    exact Nat.mod_eq_of_lt (Nat.one_lt_two_pow h1.ne')
  have hfails : State.Within (besideMask [.RIDGE_LS] []) (s.put F 0 1) ((s.put F 0 1).ridgeFails 11 1 2 0) :=
    State.ridgeFails_within (.refl _ _) _ _ _ _ (by decide)
  rw [hfails.get _ _ (by rw [hF]; decide), hlatched]

theorem State.RidgeSteady.losesChecker (h : s.RidgeSteady) (x : CheckerFault) :
    RidgeFailed 2 (s.checkerLost x) ∧ (s.checkerLost x).get (match x with
      | .comparatorA => RIDGE_LS.comp_a_fault
      | .comparatorB => RIDGE_LS.comp_b_fault
      | .delayParity => RIDGE_LS.delay_parity
      | .selfTestFailed => RIDGE_LS.selftest_fail) = 1 := by
  have hlive : ¬ (!s.ridgeLive) = true := by rw [h.live]; decide
  unfold State.checkerLost
  rw [if_neg hlive]
  cases x <;> exact h.latches rfl (by decide) (by decide)

theorem State.RidgeSteady.expire (h : s.RidgeSteady) {tm : Timer} (htm : tm ≠ .restartCount) : (s.expire tm).RidgeSteady := by
  refine h.beside (State.expire_within (.refl _ s) _ (by decide)) ?_
  unfold State.expire
  split
  · rw [State.advance_due, State.disarm_due_other _ (Ne.symm htm)]
  · rfl

end

/-- Settles O24: each cause is a failure while Ridge is steady, which stays so up to the failure. -/
theorem ridgeFailuresHoldRidge : Obligations.RidgeFailuresHoldRidge := by
  intro s h
  obtain ⟨hports, -⟩ := h.awake
  have hlive : ¬ (!s.ridgeLive) = true := by rw [h.live]; decide
  refine ⟨⟨_, rfl, ?lockstep⟩, fun x => ⟨_, rfl, h.losesChecker x⟩, ⟨_, rfl, ?failed⟩, ⟨_, rfl, ?passed⟩, fun hfires => ⟨_, rfl, ?late⟩,
    fun hfires => ⟨_, rfl, ?watchdog⟩, fun a ha => ⟨_, rfl, ?flash⟩, fun cause hcause => ⟨_, rfl, ?cause⟩, ⟨_, rfl, ?rail⟩⟩
  case lockstep =>
    rw [if_pos h.live]
    exact h.fails 11 0 (by decide) 0
  case failed =>
    rw [State.selfTest, if_neg hlive]
    have hbit := h.beside (t := s.put RIDGE_LS.last_bit 0 (s.get RIDGE_LS.last_bit + 1)) (State.put_within (.refl _ s) _ _ _ (by decide))
        (State.put_due ..)
    exact hbit.losesChecker .selfTestFailed
  case passed =>
    rw [State.selfTest, if_neg hlive]
    dsimp only
    rw [if_pos rfl]
    refine ⟨?_, ?_, ?_, ?_⟩
    · rw [State.arm_get, State.get_put_self (by decide) (by decide), State.get_put_beside (F := RIDGE_LS.last_bit)
        (G := RIDGE_LS.selftest_pass) rfl (by decide)]
      rfl
    · rw [State.arm_get, State.get_put_beside (F := RIDGE_LS.selftest_pass) (G := RIDGE_LS.last_bit) rfl (by decide),
        State.get_put_self (by decide) (by decide)]
      rfl
    · exact State.arm_due_self ..
    · exact (State.arm_within (State.put_within (State.put_within (.refl _ s) _ _ _ (by decide)) _ _ _ (by decide)) _ _ (by decide)).only
  case late =>
    rw [State.selfTestLate, if_neg hlive, State.onExpiry_fires hfires]
    exact (h.expire (by decide)).latches rfl (by decide) (by decide)
  case watchdog =>
    rw [State.watchdogOver, State.onExpiry_fires hfires]
    exact (h.expire (by decide)).fails 11 2 (by decide) 0
  case flash =>
    rw [if_pos ha, if_pos h.live]
    exact h.fails 11 3 (by decide) _
  case cause =>
    rw [if_pos (by simpa using hcause)]
    by_cases h5 : cause.val = 5
    · rw [if_pos h5, h5]
      exact h.fails 13 0 (by decide) 11
    · rw [if_neg h5, if_pos h.live]
      exact h.fails 11 _ (by omega) 0
  case rail =>
    have hpowered : ¬ (!s.powered) = true := by
      rcases (by simpa [State.portsPowered] using hports : s.phase = .starting ∨ s.phase = .up) with e | e <;> simp [State.powered, e]
    rw [if_pos (by decide), State.railFails, if_neg hpowered, if_neg (by simp), if_neg (by simp), if_neg (by simp), if_pos ⟨rfl, hports⟩]
    exact h.fails 13 0 (by decide) _

end Sys2Proof.Machine
end

/-! Trestle's restarts of Ridge: the release, alive, the failed attempt and the end of the count. -/

section
namespace Sys2Proof.Machine

section
variable {s t : State}

/-! ### Reports leave Ridge's reset and Trestle's timers alone -/

/-- Counting an event of a source starts no timer but the source's. -/
theorem State.classify_due (s : State) (n c inst : Nat) {tm : Timer} (h : tm ≠ .classifier n c inst) : (s.classify n c inst).2.due tm = s.due tm := by
  unfold State.classify
  dsimp only
  split
  · rfl
  · exact State.arm_due_other _ _ h

/-- Apart from a classifier's a report starts and stops no timer. -/
theorem State.reportIn_due (s : State) (n c kind inst : Nat) (halted : List Nat) (locator check : Word) {tm : Timer}
    (h : ∀ x y z, tm ≠ .classifier x y z) : (s.reportIn n c kind inst halted locator check).due tm = s.due tm := by
  have hkeep {u v : State} (huv : State.Within (besideMask [] [.timers]) u v) (hu : u.due tm = s.due tm) : v.due tm = s.due tm := by
    rw [State.due, huv.areas .timers (by decide)]
    exact hu
  have hwoken : ((s.wakeRegion 34).bump (braceCtr n c)).due tm = s.due tm :=
    hkeep (State.bump_within (State.wakeRegion_within (.refl _ s) _ (by decide)) _ (by decide)) rfl
  have hclass : (((s.wakeRegion 34).bump (braceCtr n c)).classify n c (sourceKey n c kind inst)).2.due tm = s.due tm :=
    (State.classify_due _ _ _ _ (h _ _ _)).trans hwoken
  have hlight (u : State) (cls kind inst : Nat) : State.Within (besideMask [] [.timers]) u (u.lightHist n c cls kind inst locator check) :=
    State.lightHist_within (.refl _ u) n c cls kind inst locator check (by decide)
  have hheavy (u : State) (severe : Bool) : State.Within (besideMask [] [.timers]) u (u.heavy n c kind inst halted locator check severe) :=
    State.heavy_within (.refl _ u) n c kind inst halted locator check severe (by decide)
  unfold State.reportIn
  cases hcls : codeClass n c with
  | none => rfl
  | some cls =>
    cases cls with
    | notice => exact hkeep (.ite (hlight ..) (.refl _ _)) hwoken
    | severe => exact hkeep (hheavy ..) hwoken
    | corrected => exact hkeep (.ite (hheavy ..) (hlight ..)) hclass
    | fault => exact hkeep (hheavy ..) hclass

/-- A report leaves the state of Ridge's region. -/
theorem State.reportIn_ridge (s : State) (n c kind inst : Nat) (halted : List Nat) (locator check : Word) :
    (s.reportIn n c kind inst halted locator check).get PWR_STATE_MISC.ridge = s.get PWR_STATE_MISC.ridge := by
  cases hcls : codeClass n c with
  | none => rw [State.reportIn, hcls]
  | some cls =>
    rw [(State.reportIn_woken hcls s ..).get _ _ (by decide)]
    exact State.wakeRegion_region_other (r := 34) (j := 43) (by decide) (by decide) (by decide) s

/-! ### The release (R404, R418) -/

/-- What a Ridge reset returns to its reset value: the self-test, the random numbers and the measurements of firmware. -/
theorem State.ridgeRegs_resets (s : State) :
    s.ridgeRegs.ridge.startup = [0, 1] ∧ s.ridgeRegs.get SEC_STATUS.meas_locked = 0 ∧ (∀ k, 8 ≤ k → s.ridgeRegs.measSlot k = 0)
      ∧ (∀ k, k < 8 → s.ridgeRegs.measSlot k = s.measSlot k) ∧ State.Within (listMask [.RIDGE_LS, .RNG_STATUS, .SEC_STATUS] [.ridge])
          s s.ridgeRegs := by
  unfold State.ridgeRegs
  extract_lets u v w
  have hw : State.Within (listMask [.RIDGE_LS, .RNG_STATUS, .SEC_STATUS] []) s w :=
    State.flag_within (State.put_within (State.setWord_within (State.put_within (State.put_within (.refl _ s) _ _ _ (by decide)) _ _ _ (by decide))
      _ _ _ (by decide)) _ _ _ (by decide)) _ _ _ (by decide)
  have hmeas : w.ridge.meas = s.ridge.meas := congrArg RidgeDyn.meas (hw.areas .ridge (by decide))
  refine ⟨rfl, ?_, fun k hk => ?_, fun k hk => ?_, State.modRidge_within (hw.mono (by decide)) _ (by decide)⟩
  · rw [State.modRidge_get, State.get_flag_beside (F := SEC_STATUS.rng_blocked) (G := SEC_STATUS.meas_locked) rfl (by decide),
      State.get_put_self (by decide) (by decide), Nat.zero_mod]
  · exact Tbl.get_filter_dropped _ _ fun _ => decide_eq_false (Nat.not_lt.mpr hk)
  · rw [State.measSlot, State.measSlot, ← hmeas]
    exact Tbl.get_filter _ _ fun _ => decide_eq_true hk

/-- A due release. -/
theorem State.releaseRidge_releases (hheld : s.get PWR_STATE_MISC.ridge = 5) (hwhole : s.get GLOBAL_STATUS.degraded = 0)
    (hplanned : s.ridge.planned = false) (hfires : s.fires .restart = true) :
    s.releaseRidge.get PWR_STATE_MISC.ridge = 0 ∧ s.releaseRidge.get BRACE_TRESTLE.restarts = (s.get BRACE_TRESTLE.restarts + 1) % 4
      ∧ s.releaseRidge.get BRACE_TRESTLE.restarting = 1 ∧ s.releaseRidge.due .restart = some (s.releaseRidge.clock + 2000000000)
      ∧ s.releaseRidge.ridge.startup = [0, 1] ∧ s.releaseRidge.get SEC_STATUS.meas_locked = 0
      ∧ (∀ k, 8 ≤ k → s.releaseRidge.measSlot k = 0) ∧ ∀ k, k < 8 → s.releaseRidge.measSlot k = s.measSlot k := by
  have honly := s.expire_only .restart
  have hopen : ¬ (s.get PWR_STATE_MISC.ridge ≠ 5 ∨ s.on GLOBAL_STATUS.degraded = true) := by simp [hheld, State.on, hwhole]
  have hplanned' : (s.expire .restart).ridge.planned = false := (congrArg RidgeDyn.planned (honly.areas .ridge (by decide))).trans hplanned
  rw [State.releaseRidge, if_neg hopen, State.onExpiry_fires hfires, hplanned', if_neg (by decide)]
  dsimp only
  generalize hu : ((s.expire .restart).put BRACE_TRESTLE.restarts 0 ((s.expire .restart).get BRACE_TRESTLE.restarts + 1)).put
    BRACE_TRESTLE.restarting 0 1 = u
  have hrestarts : u.get BRACE_TRESTLE.restarts = (s.get BRACE_TRESTLE.restarts + 1) % 4 := by
    rw [← hu, State.get_put_beside (F := BRACE_TRESTLE.restarting) (G := BRACE_TRESTLE.restarts) rfl (by decide),
      State.get_put_self (by decide) (by decide), honly.get (by decide)]
    rfl
  have hrestarting : u.get BRACE_TRESTLE.restarting = 1 := hu ▸ State.get_put_self (by decide) (by decide)
  have hmeas (k : Nat) : u.measSlot k = s.measSlot k := by
    rw [← hu]
    exact congrArg (fun r : RidgeDyn => Tbl.get 0 r.meas k) (honly.areas .ridge (by decide))
  obtain ⟨hstartup, hlocked, hlost, hkept, hregs⟩ := u.ridgeRegs_resets
  generalize u.ridgeRegs = v at *
  refine ⟨?_, ?_, ?_, ?_, hstartup, ?_, hlost, fun k hk => (hkept k hk).trans (hmeas k)⟩
  · rw [State.arm_get, State.arm_get, State.get_put_self (by decide) (by decide), Nat.zero_mod]
  · rw [State.arm_get, State.arm_get, State.get_put_kind (by decide), hregs.get _ _ (by decide), hrestarts]
  · rw [State.arm_get, State.arm_get, State.get_put_kind (by decide), hregs.get _ _ (by decide), hrestarting]
  · rw [State.arm_due_other _ _ (by decide), State.arm_due_self]
    rfl
  · rw [State.arm_get, State.arm_get, State.get_put_kind (by decide), hlocked]

/-! ### Alive (R404, R409) -/

/-- A write of alive alone loads no field of BRACE_TRESTLE. -/
theorem State.plain_alive (s : State) :
    State.Only [] [] s (s.plain .BRACE_TRESTLE 0 (setBits 0 BRACE_TRESTLE.alive.lo BRACE_TRESTLE.alive.len 1)
      (maskBits BRACE_TRESTLE.alive.lo BRACE_TRESTLE.alive.len)) := by
  have hsame (old : Word) : plainWrite .BRACE_TRESTLE old (setBits 0 BRACE_TRESTLE.alive.lo BRACE_TRESTLE.alive.len 1)
      (maskBits BRACE_TRESTLE.alive.lo BRACE_TRESTLE.alive.len) = old := by
    have hload : RegKind.BRACE_TRESTLE.loadMask &&& maskBits BRACE_TRESTLE.alive.lo BRACE_TRESTLE.alive.len = 0 := by decide
    have hclear : RegKind.BRACE_TRESTLE.clearMask &&& maskBits BRACE_TRESTLE.alive.lo BRACE_TRESTLE.alive.len = 0 := by decide
    rw [plainWrite_eq, hload, hclear, mergeBits]
    simp only [BitVec.ofNat_eq_ofNat, BitVec.and_zero, BitVec.zero_and, BitVec.not_zero, BitVec.and_allOnes, BitVec.or_zero]
  refine ⟨fun k _ i => ?_, fun a _ => State.setWord_areas _ _ _ a⟩
  rw [State.plain, hsame]
  by_cases hk : k = .BRACE_TRESTLE
  · subst hk
    by_cases hi : i = 0
    · rw [hi, State.setWord_word_self (by decide)]
    · exact State.setWord_word_index hi _
  · exact State.setWord_word_kind hk _ _ _

/-- A mailbox that was absent is there again. -/
def State.mbBack (s : State) (h : Nat) : State := if s.get MB_STATUS.state h = 3 then s.put MB_STATUS.state h 0 else s

/-- What alive after a restart does to the registers that firmware sees (R404, R429): no freeze, the mailboxes back, no latch. -/
def State.thawed (s : State) : State :=
  let u := (((s.put GLOBAL_STATUS.ridge_down 0 0).put GLOBAL_STATUS.cfg_frozen 0 0).disarm .restart).each (List.range 4) State.mbBack
  u.setWord .RIDGE_LS 0 (u.word .RIDGE_LS 0 &&& maskBits 0 40)

/-- Alive after a restart that was planned and after one that followed a failure. -/
theorem State.takeAlive_thaws (hrunning : s.ridge.running = true) (hridge : s.get PWR_STATE_MISC.ridge = 0) :
    s.takeAlive = let u := (s.arm .watchdog s.watchdogNs).thawed
      if !s.on GLOBAL_STATUS.ridge_down then s.arm .watchdog s.watchdogNs
      else if u.ridge.planned then
        let v := u.modRidge fun r => { r with planned := false }
        if v.get BRACE_TRESTLE.restarts = 0 then v else v.arm .restartCount 60000000000
      else (((u.put BRACE_TRESTLE.restarting 0 0).arm .restartCount 60000000000).put BRACE_DSTATE.state 130 0).put BRACE_DSTATE.severe 130 0 := by
  have hopen : ¬ (!s.ridge.running || s.get PWR_STATE_MISC.ridge != 0) = true := by simp [hrunning, hridge]
  rw [State.takeAlive, if_neg hopen]
  rfl

theorem State.mbBack_only (s : State) (h : Nat) : State.Within (listMask [.MB_STATUS] []) s (s.mbBack h) :=
  .ite (State.put_within (.refl _ s) _ _ _ (by decide)) (.refl _ s)

theorem State.mbBack_state {h : Nat} (hh : h < 4) (s : State) (j : Nat) :
    (s.mbBack j).get MB_STATUS.state h = if j = h ∧ s.get MB_STATUS.state h = 3 then 0 else s.get MB_STATUS.state h := by
  unfold State.mbBack
  by_cases h3 : s.get MB_STATUS.state j = 3
  · rw [if_pos h3]
    by_cases hj : j = h
    · subst hj
      rw [State.get_put_self hh (by decide), if_pos ⟨rfl, h3⟩, Nat.zero_mod]
    · rw [State.get_put_index rfl (Ne.symm hj), if_neg fun e : j = h ∧ _ => hj e.1]
  · rw [if_neg h3, if_neg]
    rintro ⟨rfl, e⟩
    exact h3 e

theorem State.thawed_thaws (s : State) :
    s.thawed.get GLOBAL_STATUS.ridge_down = 0 ∧ s.thawed.get GLOBAL_STATUS.cfg_frozen = 0
      ∧ (∀ h : HostId, s.get MB_STATUS.state h = 3 → s.thawed.get MB_STATUS.state h = 0)
      ∧ (∀ tm, tm ≠ .restart → s.thawed.due tm = s.due tm)
      ∧ State.Within (listMask [.GLOBAL_STATUS, .MB_STATUS, .RIDGE_LS] [.timers]) s s.thawed := by
  unfold State.thawed
  generalize hw : ((s.put GLOBAL_STATUS.ridge_down 0 0).put GLOBAL_STATUS.cfg_frozen 0 0).disarm .restart = w
  extract_lets u
  have hputs : State.Within (listMask [.GLOBAL_STATUS] [.timers]) s w :=
    hw ▸ State.disarm_within (State.put_within (State.put_within (.refl _ s) _ _ _ (by decide)) _ _ _ (by decide)) _ (by decide)
  have hback : State.Within (listMask [.MB_STATUS] []) w u := .each (.refl _ w) _ fun t h ht => ht.trans (t.mbBack_only h)
  have hlatch : State.Within (listMask [.RIDGE_LS] []) u (u.setWord .RIDGE_LS 0 (u.word .RIDGE_LS 0 &&& maskBits 0 40)) :=
    State.setWord_within (.refl _ u) _ _ _ (by decide)
  refine ⟨?_, ?_, fun h hgone => ?_, fun tm htm => ?_, (hputs.mono (by decide)).trans ((hback.mono (by decide)).trans (hlatch.mono (by decide)))⟩
  · rw [hlatch.get _ _ (by decide), hback.get _ _ (by decide), ← hw, State.disarm_get,
      State.get_put_beside (F := GLOBAL_STATUS.cfg_frozen) (G := GLOBAL_STATUS.ridge_down) rfl (by decide), State.get_put_self (by decide)
          (by decide),
      Nat.zero_mod]
  · rw [hlatch.get _ _ (by decide), hback.get _ _ (by decide), ← hw, State.disarm_get, State.get_put_self (by decide) (by decide), Nat.zero_mod]
  · rw [hlatch.get _ _ (by decide)]
    have hstill : w.get MB_STATUS.state h = 3 := by rw [hputs.get _ _ (by decide), hgone]
    refine State.each_reaches (P := fun t => t.get MB_STATUS.state h = 0) (Q := fun t => t.get MB_STATUS.state h = 0 ∨ t.get MB_STATUS.state h = 3)
      (fun t j ht => ?_) (fun t ht => ?_) (fun t j hj ht => ?_) (List.mem_range.mpr h.isLt) (.inr hstill)
    · rw [State.mbBack_state h.isLt]
      split
      · exact .inl rfl
      · exact ht
    · rw [State.mbBack_state h.isLt]
      rcases ht with ht | ht <;> simp [ht]
    · rw [State.mbBack_state h.isLt, if_neg fun e => hj e.1, ht]
  · rw [State.due, hlatch.areas .timers (by decide), hback.areas .timers (by decide), ← State.due, ← hw, State.disarm_due_other _ htm,
      State.put_due, State.put_due]

/-- Trestle takes alive: the watchdog runs anew. -/
theorem State.takeAlive_watchdog (hrunning : s.ridge.running = true) (hridge : s.get PWR_STATE_MISC.ridge = 0) :
    s.takeAlive.due .watchdog = some (s.clock + s.watchdogNs) := by
  have hthawed : (s.arm .watchdog s.watchdogNs).thawed.due .watchdog = some (s.clock + s.watchdogNs) := by
    obtain ⟨-, -, -, hdue, -⟩ := (s.arm .watchdog s.watchdogNs).thawed_thaws
    rw [hdue _ (by decide), State.arm_due_self]
  rw [State.takeAlive_thaws hrunning hridge]
  dsimp only
  generalize (s.arm .watchdog s.watchdogNs).thawed = u at hthawed
  split
  · exact State.arm_due_self ..
  split
  · split
    · exact hthawed
    · rw [State.arm_due_other _ _ (by decide)]
      exact hthawed
  · rw [State.put_due, State.put_due, State.arm_due_other _ _ (by decide), State.put_due, hthawed]

/-- After a restart alive ends the freeze and the mailboxes' absence, and a restart after a failure counts as over 60 s later. -/
theorem State.takeAlive_restarted (hrunning : s.ridge.running = true) (hridge : s.get PWR_STATE_MISC.ridge = 0)
    (hdown : s.get GLOBAL_STATUS.ridge_down = 1) :
    s.takeAlive.get GLOBAL_STATUS.ridge_down = 0 ∧ s.takeAlive.get GLOBAL_STATUS.cfg_frozen = 0
      ∧ (∀ h : HostId, s.get MB_STATUS.state h = 3 → s.takeAlive.get MB_STATUS.state h = 0)
      ∧ (s.ridge.planned = false → s.takeAlive.get BRACE_TRESTLE.restarting = 0 ∧ s.takeAlive.due .restartCount = some (s.clock + 60000000000)) := by
  obtain ⟨hup, hopen, hback, -, honly⟩ := (s.arm .watchdog s.watchdogNs).thawed_thaws
  have hdown' : ¬ (!s.on GLOBAL_STATUS.ridge_down) = true := by simp [State.on, hdown]
  have hridgeDyn : (s.arm .watchdog s.watchdogNs).thawed.ridge = s.ridge := honly.areas .ridge (by decide)
  have hclock : (s.arm .watchdog s.watchdogNs).thawed.clock = s.clock := honly.areas .clock (by decide)
  rw [State.takeAlive_thaws hrunning hridge]
  dsimp only
  rw [if_neg hdown']
  generalize (s.arm .watchdog s.watchdogNs).thawed = u at *
  split
  case isTrue hplanned =>
    refine ⟨?_, ?_, fun h hgone => ?_, fun hnot => absurd (hridgeDyn ▸ hplanned) (by rw [hnot]; decide)⟩ <;> split
    · exact hup
    · exact hup
    · exact hopen
    · exact hopen
    · exact hback h hgone
    · exact hback h hgone
  case isFalse =>
    refine ⟨?_, ?_, fun h hgone => ?_, fun _ => ⟨?_, ?_⟩⟩
    · rw [State.get_put_kind (by decide), State.get_put_kind (by decide), State.arm_get, State.get_put_kind (by decide), hup]
    · rw [State.get_put_kind (by decide), State.get_put_kind (by decide), State.arm_get, State.get_put_kind (by decide), hopen]
    · rw [State.get_put_kind (by decide), State.get_put_kind (by decide), State.arm_get, State.get_put_kind (by decide), hback h hgone]
    · rw [State.get_put_kind (by decide), State.get_put_kind (by decide), State.arm_get, State.get_put_self (by decide) (by decide), Nat.zero_mod]
    · rw [State.put_due, State.put_due, State.arm_due_self, State.put_clock, hclock]

/-- A timer that has expired does not run. -/
theorem State.expire_due_self (s : State) (tm : Timer) : (s.expire tm).due tm = none := by
  unfold State.expire
  split
  · rw [State.advance_due, State.disarm_due_self]
  · assumption

/-! ### The attempt that fails (R404, R405) -/

/-- Degraded mode: Ridge stays in reset, with no release due. -/
theorem State.degrade_degrades (h : s.NoTxn) (hwhole : s.get GLOBAL_STATUS.degraded = 0) :
    s.degrade.get GLOBAL_STATUS.degraded = 1 ∧ s.degrade.get GLOBAL_STATUS.cfg_frozen = 1 ∧ s.degrade.get GLOBAL_STATUS.ridge_down = 1
      ∧ s.degrade.get PWR_STATE_MISC.ridge = 5 ∧ s.degrade.armed .restart = false := by
  have hno : s.ridgeOff.NoTxn := h.beside (State.ridgeOff_within (.refl _ s) (by decide))
  obtain ⟨hheld, -⟩ := s.ridgeOff_loses
  obtain ⟨hfrozen, hdown, hfreeze⟩ := State.freeze_freezes hno
  have hopen : ¬ s.on GLOBAL_STATUS.degraded = true := by simp [State.on, hwhole]
  unfold State.degrade
  rw [if_neg hopen]
  generalize s.ridgeOff.freeze = u at hfrozen hdown hfreeze
  extract_lets quiet degraded levelled
  have hlevelled : State.Within (listMask [.BRACE_TRESTLE, .GLOBAL_STATUS] [.timers, .brace]) u levelled :=
    State.modBrace_within (State.put_within (State.put_within (State.disarm_within (State.disarm_within (.refl _ u) _ (by decide)) _ (by decide))
      _ _ _ (by decide)) _ _ _ (by decide)) _ (by decide)
  have hglobal : State.Within (besideMask [.GLOBAL_STATUS] []) levelled ((levelled.report 11 5 0 0).put BRACE_DSTATE.state 130 0) :=
    State.put_within (State.report_within (.refl _ _) _ _ _ _ _ _ (by decide)) _ _ _ (by decide)
  have hbeside {F : Fld} (hF : GLOBAL_STATUS.degraded.Leaves F) (hr : F.reg = .GLOBAL_STATUS) : levelled.get F = u.get F := by
    rw [State.modBrace_get, State.get_put_apart hF, State.get_put_kind (by rw [hr]; decide), State.disarm_get, State.disarm_get]
  refine ⟨?_, ?_, ?_, ?_, ?_⟩
  · rw [hglobal.get _ _ (by decide), State.modBrace_get, State.get_put_self (by decide) (by decide)]
    rfl
  · rw [hglobal.get _ _ (by decide), hbeside (by unfold Fld.Leaves; decide) rfl, hfrozen]
  · rw [hglobal.get _ _ (by decide), hbeside (by unfold Fld.Leaves; decide) rfl, hdown]
  · rw [State.get_put_kind (by decide)]
    exact (State.reportIn_ridge ..).trans ((hlevelled.get _ _ (by decide)).trans ((hfreeze.get _ _ (by decide)).trans hheld))
  · have hdue : ((levelled.report 11 5 0 0).put BRACE_DSTATE.state 130 0).due .restart = none := by
      rw [State.put_due, State.report, State.reportIn_due _ _ _ _ _ _ _ _ (by simp), State.modBrace_due, State.put_due, State.put_due,
          State.disarm_due_self]
    rw [State.armed, hdue]
    rfl

/-- The time of an attempt has passed without alive. -/
theorem State.restartFailed_fails (hridge : s.get PWR_STATE_MISC.ridge = 0) (hplanned : s.ridge.planned = false) (hfires : s.fires .restart = true)
    (hno : s.NoTxn) : ∃ u : State, u.NoTxn ∧ u.get GLOBAL_STATUS.degraded = s.get GLOBAL_STATUS.degraded
      ∧ s.restartFailed = if s.get BRACE_TRESTLE.restarts = 3 then u.degrade else u.holdRidge := by
  have honly := s.expire_only .restart
  have hopen : ¬ s.get PWR_STATE_MISC.ridge ≠ 0 := not_not.mpr hridge
  have hplanned' : (s.expire .restart).ridge.planned = false := (congrArg RidgeDyn.planned (honly.areas .ridge (by decide))).trans hplanned
  have htold : State.Within (besideMask [.TXN_STATUS, .GLOBAL_STATUS, .BRACE_TRESTLE] [.commits]) s
      ((s.expire .restart).report 11 4 0 (BitVec.ofNat 64 ((s.expire .restart).get BRACE_TRESTLE.restarts))) :=
    State.report_within (State.expire_within (.refl _ s) _ (by decide)) _ _ _ _ _ _ (by decide)
  refine ⟨_, hno.beside (htold.mono (by decide)), htold.get _ _ (by decide), ?_⟩
  rw [State.restartFailed, if_neg hopen, State.onExpiry_fires hfires, hplanned', if_neg (by decide)]
  dsimp only
  rw [htold.get _ _ (by decide)]

end

/-- Settles O25: the release, alive, the failed attempt and the end of the count, each as its lemma says. -/
theorem trestleRestarts : Obligations.TrestleRestarts := by
  intro s
  refine ⟨fun hheld hwhole hplanned hfires => ⟨_, rfl, State.releaseRidge_releases hheld hwhole hplanned hfires⟩, fun hw => ?alive,
    fun hridge hplanned hfires hno => ?fails, fun hfires => ⟨_, rfl, ?counted⟩⟩
  case alive =>
    have hreach : (s.ridge.running = true ∧ s.ridgeLive = true) := by
      have h := hw.reaches
      unfold State.reach at h
      simpa using h
    have hridge : s.get PWR_STATE_MISC.ridge = 0 := by
      have h := hreach.2
      unfold State.ridgeLive at h
      simp only [Bool.and_eq_true, beq_iff_eq] at h
      exact h.2
    have hplain := s.plain_alive
    have hrun : exec .alive s = .next (s.plain .BRACE_TRESTLE 0 (setBits 0 BRACE_TRESTLE.alive.lo BRACE_TRESTLE.alive.len 1)
        (maskBits BRACE_TRESTLE.alive.lo BRACE_TRESTLE.alive.len)).takeAlive :=
      congrArg Host.Outcome.next ((State.Writable.writeField (F := BRACE_TRESTLE.alive) hw 1).trans rfl)
    generalize s.plain .BRACE_TRESTLE 0 _ _ = u at hplain hrun
    have hrunning' : u.ridge.running = true := (congrArg RidgeDyn.running (hplain.areas .ridge (by simp))).trans hreach.1
    have hridge' : u.get PWR_STATE_MISC.ridge = 0 := (hplain.get (by simp) 0).trans hridge
    have hclock : u.clock = s.clock := hplain.areas .clock (by simp)
    refine ⟨_, hrun, ?_, fun hdown => ?_⟩
    · rw [State.takeAlive_watchdog hrunning' hridge', hclock, State.watchdogNs, hplain.get (by simp), clampNat]
      congr 2
      omega
    · obtain ⟨hup, hopen, hback, hcount⟩ := State.takeAlive_restarted hrunning' hridge' ((hplain.get (by simp) 0).trans hdown)
      refine ⟨hup, hopen, fun h hgone => hback h ((hplain.get (by simp) _).trans hgone), fun hplanned => ?_⟩
      rw [← hclock]
      exact hcount ((congrArg RidgeDyn.planned (hplain.areas .ridge (by simp))).trans hplanned)
  case fails =>
    obtain ⟨u, hu, hdegraded, hruns⟩ := State.restartFailed_fails hridge hplanned hfires hno
    refine ⟨fun h3 hwhole => ⟨_, rfl, ?_⟩, fun h3 => ⟨_, rfl, ?_⟩⟩
    · rw [hruns, if_pos h3]
      exact State.degrade_degrades hu (hdegraded.trans hwhole)
    · rw [hruns, if_neg h3]
      exact (State.holdRidge_holds hu).1
  case counted =>
    rw [State.restartCountOver, State.onExpiry_fires hfires]
    refine ⟨(State.get_put_self (by decide) (by decide)).trans (Nat.zero_mod _), ?_,
        (State.put_within (State.expire_within (.refl _ s) _ (by decide)) _ _ _ (by decide)).only⟩
    rw [State.armed, State.put_due, State.expire_due_self]
    rfl

end Sys2Proof.Machine
end

/-! Ridge's other commands, the mailbox at its end, and the random numbers and measurements of Ridge. -/

section
namespace Sys2Proof.Machine

section
variable {s t : State}

/-! ### RIDGE_RESTART, REG_READ and REG_WRITE (R430, R434) -/

/-- A planned restart over MCTP is answered, and holds Ridge. -/
theorem State.askRestart_mctp {a : SmbusAddr} (hserved : s.served? (.mctp a []) 0x14 = true) :
    s.askRestart (.mctp a []) = (s.emit (.mctpResponse 0 [])).plannedRestart := by
  have hopen : ¬ (!s.served? (.mctp a []) 0x14) = true := by rw [hserved]; decide
  have hrun : s.command (.mctp a []) 0x14 (s.isOwner (.mctp a [])) (fun n => n == 0) (fun s _ => (mbOk, [], s)) = s.emit (.mctpResponse 0 []) :=
    State.command_runs (fits := fun n => n == 0) hserved rfl rfl
  rw [State.askRestart, if_neg hopen, hrun]
  rfl

theorem State.askRestart_mailbox {h : HostId} (hserved : s.served? (.mailbox h) 0x14 = true) (howner : h.val = s.owner)
    (hreq : s.requestOf (.mailbox h) = []) : s.askRestart (.mailbox h) = s.answer (.mailbox h) 0x14 0 [] := by
  have hopen : ¬ (!s.served? (.mailbox h) 0x14) = true := by rw [hserved]; decide
  have hallowed : s.isOwner (.mailbox h) = true := beq_iff_eq.mpr howner
  have hrun : s.command (.mailbox h) 0x14 true (fun n => n == 0) (fun s _ => (mbOk, [], s)) = s.answer (.mailbox h) 0x14 0 [] :=
    State.command_runs (fits := fun n => n == 0) hserved (by rw [hreq]; rfl) rfl
  rw [State.askRestart, if_neg hopen, hallowed, hrun]

theorem State.plannedRestart_holds (h : s.NoTxn) :
    RidgeHeld s.plannedRestart ∧ s.plannedRestart.get BRACE_TRESTLE.restarts = s.get BRACE_TRESTLE.restarts
      ∧ s.plannedRestart.get BRACE_TRESTLE.cause = s.get BRACE_TRESTLE.cause :=
  State.holdRidge_holds (s := s.modRidge fun r => { r with planned := true }) h

/-- A REG command of a mailbox is refused. -/
theorem State.regCommand_mailbox {h : HostId} {op : Nat} (hserved : s.served? (.mailbox h) op = true) (len : Nat)
    (act : Nat → List Byte → State → State) :
    Answered s (.mailbox h) op 3 [] (s.regCommand (.mailbox h) op len act) := by
  rw [State.regCommand, hserved, if_neg (by decide)]
  exact State.answer_answered rfl ..

/-- A REG command over MCTP goes on the ring. -/
theorem State.regCommand_mctp {a : SmbusAddr} {req : List Byte} {op len : Nat} (hserved : s.served? (.mctp a req) op = true) (hlen : req.length = len)
    (hoff : leAt req 0 3 % 4 = 0) (act : Nat → List Byte → State → State) : s.regCommand (.mctp a req) op len act = act (leAt req 0 3) req s := by
  rw [State.regCommand, hserved, if_neg (by decide)]
  exact if_neg (by simp [hlen, hoff])

/-- Ridge's ring master reads a register of its own for MCTP: 8 bytes are answered. -/
theorem State.perform_mctpRead (s : State) (region off : Nat) : ∃ bs, bs.length = 8 ∧ s.perform (.mctpRead region off)
    = s.emit (.mctpResponse 0 bs) := by
  have hread : (s.readUnit .ridge (off / 8 * 8) (spanBits (off / 8 * 8) off (regWidth off))).2 = s :=
    (State.readUnit_cases ..).elim id fun h => h
  rw [State.perform]
  dsimp only
  rw [hread]
  exact ⟨_, sliceBytes_length _ 0 8, rfl⟩

theorem State.perform_mctpWrite (s : State) (region off : Nat) (bs : WriteBytes) :
    ∃ t : State, t.ring = s.ring ∧ s.perform (.mctpWrite region off bs) = t.emit (.mctpResponse 0 []) :=
  ⟨_, (State.writeUnit_within (.refl (besideMask [] [.ring]) s) .ridge _ _ _ (by decide)).areas .ring (by decide), rfl⟩

/-- Nothing is in Ridge's way where no access of its ring master waits. -/
theorem State.served?_wayClear {a : SmbusAddr} {req : List Byte} {op : Nat} (hserved : s.served? (.mctp a req) op = true)
    (hfirst : ∀ x ∈ s.ring, x.master ≠ 4) : s.WayClear .ridge where
  reaches := by
    simp only [State.served?, State.smbus, State.acks, Bool.and_eq_true] at hserved
    simp [State.reach, hserved.1.1, hserved.1.2]
  awake := fun _ h => by cases h
  empty := fun _ h => by cases h
  first := hfirst

end

/-- Settles O21: the restart as a planned hold of Ridge, the register commands by the ring access they make. -/
theorem ridgeCommands : Obligations.RidgeCommands := by
  intro s c a req
  refine ⟨fun hserved hno => ⟨_, rfl, ?restart⟩, fun h hserved howner hreq => ⟨_, rfl, ?asked⟩, fun hserved hnot => ⟨_, rfl, ?refused⟩,
    fun h => ⟨fun hserved => ⟨_, rfl, State.regCommand_mailbox hserved ..⟩, fun hserved => ⟨_, rfl, State.regCommand_mailbox hserved ..⟩⟩,
    fun hserved hlen hoff hfirst hsteady => ⟨_, rfl, ?reads⟩, fun hserved hlen hoff hfirst hsteady => ⟨_, rfl, ?writes⟩⟩
  case restart =>
    obtain ⟨hheld, hrestarts, hcause⟩ := State.plannedRestart_holds (s := s.emit (.mctpResponse 0 [])) hno
    rw [State.askRestart_mctp hserved]
    exact ⟨(State.plannedRestart_follows (.refl _)).sent.subset List.mem_cons_self, hheld, hrestarts, hcause⟩
  case asked =>
    rw [State.askRestart_mailbox hserved howner hreq]
    exact State.answer_answered rfl ..
  case refused =>
    rw [hnot, State.command_refused hserved]
    refine ⟨State.answer_answered rfl .., ?_⟩
    obtain ⟨mailbox, hridge⟩ := s.answer_ridge c 0x10 mbNotPermitted []
    rw [hridge]
  case reads =>
    rw [State.mctpRegRead, State.regCommand_mctp hserved hlen hoff,
      (State.served?_wayClear hserved hfirst).submit (x := .mctpRead (s.regionAt .ridge (leAt req 0 3 / 8 * 8)) (leAt req 0 3)) rfl hsteady]
    obtain ⟨bs, hlen8, hread⟩ := s.perform_mctpRead (s.regionAt .ridge (leAt req 0 3 / 8 * 8)) (leAt req 0 3)
    rw [hread]
    exact ⟨bs, hlen8, rfl, (State.emit_within (.refl (listMask [] [.sent]) s) _ (by decide)).only⟩
  case writes =>
    rw [State.mctpRegWrite, State.regCommand_mctp hserved hlen hoff,
      (State.served?_wayClear hserved hfirst).submit (x := .mctpWrite (s.regionAt .ridge (leAt req 0 3 / 8 * 8)) (leAt req 0 3) _) rfl hsteady]
    obtain ⟨t, hring, hwrite⟩ := s.perform_mctpWrite (s.regionAt .ridge (leAt req 0 3 / 8 * 8)) (leAt req 0 3) (regBytes (leAt req 0 3) req)
    rw [hwrite]
    exact ⟨rfl, hring⟩

end Sys2Proof.Machine
end

/-! A mailbox command at its end, and the random numbers and measurements of Ridge. -/

section
namespace Sys2Proof.Machine

section
variable {s : State}

/-! ### The end of a mailbox command (R428, R429) -/

/-- The state, result, length, go and abort that a command's end leaves, as they stand before the entry that vec_en signals. -/
def State.mbEnded (s : State) (h result len : Nat) : State :=
  ((((s.put MB_STATUS.state h 2).put MB_STATUS.result h result).put MB_STATUS.rsp_len h len).put MB_CTRL.go h 0).put MB_CTRL.abort h 0

theorem State.mbDone_ended (s : State) (h result : Nat) (rsp : List Byte) :
    State.Within (besideMask [.MB_STATUS, .MB_CTRL, .MB_RSP] [])
      (((s.modRidge fun r => { r with mailbox := r.mailbox.filter (fun m => m.h != h) }).loadRsp h rsp).mbEnded h result rsp.length)
      (s.mbDone h result rsp) := by
  rw [State.mbDone]
  dsimp only
  rw [← State.mbEnded]
  generalize State.mbEnded _ _ _ _ = u
  split
  · split
    · exact State.deliverMsix_within (.refl _ u) _ _ (by decide)
    · exact State.wakeFor_within (State.deliverMsix_within (.refl _ u) _ _ (by decide)) _ (by decide)
  · exact .refl _ u

theorem State.loadRsp_word {h w : Nat} {rsp : List Byte} (hh : h < 4) (hlen : rsp.length ≤ 4096) (hw : 8 * w < rsp.length) :
    (s.loadRsp h rsp).word .MB_RSP (512 * h + w) = BitVec.ofNat 64 (leAt rsp (8 * w) 8) := by
  have hcount : 512 * h + w < RegKind.MB_RSP.count := by
    have : RegKind.MB_RSP.count = 2048 := rfl
    omega
  refine State.each_reaches (P := fun t => t.word .MB_RSP (512 * h + w) = BitVec.ofNat 64 (leAt rsp (8 * w) 8)) (Q := fun _ => True) (x := w)
      (fun _ _ _ => trivial) (fun t _ => State.setWord_word_self hcount _)
    (fun t y hy ht => ?_) (List.mem_range.mpr (by omega)) trivial
  rw [State.setWord_word_index (by omega), ht]

/-- What the end of a command shows in the registers of its mailbox. -/
theorem State.mbDone_shows {h result : Nat} {rsp : List Byte} (hh : h < 4) (hlen : rsp.length ≤ 4096) (t : State) (ht : t = s.mbDone h result rsp) :
    t.get MB_STATUS.state h = 2 ∧ t.get MB_STATUS.result h = result % 256 ∧ t.get MB_STATUS.rsp_len h = rsp.length ∧ t.get MB_CTRL.go h = 0
      ∧ t.get MB_CTRL.abort h = 0 ∧ ∀ w, 8 * w < rsp.length → t.word .MB_RSP (512 * h + w) = BitVec.ofNat 64 (leAt rsp (8 * w) 8) := by
  have hend := ht ▸ State.mbDone_ended s h result rsp
  have hload (w : Nat) := State.loadRsp_word (s := s.modRidge fun r => { r with mailbox := r.mailbox.filter (fun m => m.h != h) }) (w := w) hh hlen
  generalize State.loadRsp _ _ _ = u at hend hload
  have hfields (F : Fld) (hF : F.reg = .MB_STATUS ∨ F.reg = .MB_CTRL) : t.get F h = (u.mbEnded h result rsp.length).get F h :=
    hend.get F h (by rcases hF with hF | hF <;> rw [hF] <;> decide)
  have hctrl (F : Fld) (hF : F.reg = .MB_STATUS) : t.get F h
      = (((u.put MB_STATUS.state h 2).put MB_STATUS.result h result).put MB_STATUS.rsp_len h rsp.length).get F h := by
    rw [hfields F (.inl hF), State.mbEnded, State.get_put_kind (by rw [hF]; decide), State.get_put_kind (by rw [hF]; decide)]
  refine ⟨?_, ?_, ?_, ?_, ?_, fun w hw => ?_⟩
  · rw [hctrl _ rfl, State.get_put_beside (F := MB_STATUS.rsp_len) (G := MB_STATUS.state) rfl (by decide),
      State.get_put_beside (F := MB_STATUS.result) (G := MB_STATUS.state) rfl (by decide), State.get_put_self hh (by decide)]
    rfl
  · rw [hctrl _ rfl, State.get_put_beside (F := MB_STATUS.rsp_len) (G := MB_STATUS.result) rfl (by decide), State.get_put_self hh (by decide)]
    rfl
  · rw [hctrl _ rfl, State.get_put_self hh (by decide)]
    exact Nat.mod_eq_of_lt (hlen.trans_lt (by decide))
  · rw [hfields _ (.inr rfl), State.mbEnded, State.get_put_beside (F := MB_CTRL.abort) (G := MB_CTRL.go) rfl (by decide),
      State.get_put_self hh (by decide)]
    rfl
  · rw [hfields _ (.inr rfl), State.mbEnded, State.get_put_self hh (by decide)]
    rfl
  · rw [hend.words _ (by decide), State.mbEnded]
    simp only [State.put]
    rw [State.setWord_word_kind (by decide), State.setWord_word_kind (by decide), State.setWord_word_kind (by decide),
      State.setWord_word_kind (by decide), State.setWord_word_kind (by decide)]
    exact hload w hw

/-- MAILBOX_COMMAND_DONE of a served command shows its result; what the update and the restart do besides is Ridge's own. -/
theorem State.mbFinish_served {h : Nat} {m : MbRun} (hbusy : s.get MB_STATUS.state h = 1) (hrun : s.ridge.running = true)
    (hserved : s.ridge.mailbox.find? (fun x => x.h == h) = some m) (hrestart : m.opcode = 0x14 → m.result ≠ 0) :
    State.Within (listMask [] [.ridge]) (s.mbDone h m.result m.rsp) (s.mbFinish h) := by
  have hopen : ¬ (s.get MB_STATUS.state h ≠ 1 ∨ (!s.ridge.running) = true) := by simp [hbusy, hrun]
  rw [State.mbFinish, if_neg hopen, hserved]
  dsimp only
  rw [if_neg fun ⟨hop, hok⟩ => hrestart hop hok]
  generalize s.mbDone h m.result m.rsp = t
  split
  · exact State.modRidge_within (.refl _ t) _ (by decide)
  · exact .refl _ t

theorem State.mbFinish_unknown {h : Nat} (hbusy : s.get MB_STATUS.state h = 1) (hrun : s.ridge.running = true)
    (hnone : s.ridge.mailbox.find? (fun x => x.h == h) = none) (hop : s.get MB_CMD.opcode h ∉ mbOpcodes) : s.mbFinish h = s.mbDone h 1 [] := by
  have hopen : ¬ (s.get MB_STATUS.state h ≠ 1 ∨ (!s.ridge.running) = true) := by simp [hbusy, hrun]
  rw [State.mbFinish, if_neg hopen, hnone]
  exact if_neg (by simpa using hop)

/-- abort of a running command that has not been served ends it. -/
theorem State.mbAbort_ends {h : Nat} (hbusy : s.get MB_STATUS.state h = 1) (hnone : s.ridge.mailbox.find? (fun x => x.h == h) = none) :
    s.mbAbort h = s.mbDone h 4 [] := by
  have hany : ¬ s.ridge.mailbox.any (fun m => m.h == h) = true := by
    rw [List.any_eq_true]
    rintro ⟨m, hm, hh⟩
    exact List.find?_eq_none.mp hnone m hm hh
  rw [State.mbAbort, if_neg (by simp [hbusy]), if_neg hany]
  rfl

end

/-- Settles O22: each end of a command is `mbDone`, whose registers one lemma reads. -/
theorem mailboxCommandsEnd : Obligations.MailboxCommandsEnd := by
  intro s h a m
  refine ⟨fun hbusy hrun hserved hresult hlen hrestart => ⟨_, rfl, ?served⟩, fun hbusy hrun hnone hop => ⟨_, rfl, ?unknown⟩,
    fun hw hbusy hnone => ?aborted⟩
  case served =>
    have hend := State.mbFinish_served hbusy hrun hserved hrestart
    obtain ⟨hstate, hres, hrsp, hgo, -, hwords⟩ := State.mbDone_shows (s := s) (result := m.result) h.isLt hlen _ rfl
    refine ⟨?_, ?_, ?_, ?_, fun w hw => ?_⟩
    · rw [hend.get _ _ (by decide), hstate]
    · rw [hend.get _ _ (by decide), hres, Nat.mod_eq_of_lt hresult]
    · rw [hend.get _ _ (by decide), hrsp]
    · rw [hend.get _ _ (by decide), hgo]
    · rw [hend.words _ (by decide), hwords w hw]
  case unknown =>
    rw [State.mbFinish_unknown hbusy hrun hnone hop]
    obtain ⟨hstate, hres, hrsp, -⟩ := State.mbDone_shows (s := s) (result := 1) (rsp := []) h.isLt (by decide) _ rfl
    exact ⟨hstate, hres, hrsp⟩
  case aborted =>
    have habort : exec (.mailboxAbort a h) s
        = .next ((s.plain .MB_CTRL h (setBits 0 MB_CTRL.abort.lo MB_CTRL.abort.len 1) (maskBits MB_CTRL.abort.lo MB_CTRL.abort.len)).mbAbort h) :=
      congrArg Host.Outcome.next ((State.Writable.writeField (F := MB_CTRL.abort) hw 1).trans rfl)
    have hplain := s.setWord_only .MB_CTRL h (plainWrite .MB_CTRL (s.word .MB_CTRL h) (setBits 0 MB_CTRL.abort.lo MB_CTRL.abort.len 1)
      (maskBits MB_CTRL.abort.lo MB_CTRL.abort.len))
    refine ⟨_, habort, ?_⟩
    rw [State.plain]
    generalize s.setWord _ _ _ = u at hplain
    rw [State.mbAbort_ends ((hplain.get (F := MB_STATUS.state) (by decide) _).trans hbusy)
        (by rw [show u.ridge = s.ridge from hplain.areas .ridge (by decide)]; exact hnone)]
    obtain ⟨hstate, hres, hrsp, hgo, hab, -⟩ := State.mbDone_shows (s := u) (result := 4) (rsp := []) h.isLt (by decide) _ rfl
    exact ⟨hstate, hres, hrsp, hgo, hab⟩

end Sys2Proof.Machine
end

/-! The random numbers and the measurements of Ridge. -/

section
namespace Sys2Proof.Machine

section
variable {s t : State}

/-! ### Health tests (R431 to R433) -/

/-- What a failed health test writes before the pending GET_RANDOM end: the count, the test, both sources at their startup tests, the
DRBG blocked. -/
def State.rngFailing (s : State) (src test n : Nat) : State :=
  (((((((s.put RNG_STATUS.fail_count 0 n).bump (modCtr (10 + src))).put RNG_STATUS.last_fail_src 0 src).put RNG_STATUS.last_fail_test 0 test).put
    RNG_STATUS.ns0_ok 0 0).put RNG_STATUS.ns1_ok 0 0).put SEC_STATUS.rng_blocked 0 1).modRidge
      (fun r => { r with startup := [0, 1], failedAt := s.clock })

theorem State.rngFail_eq (hlive : s.ridgeLive = true) (src test : Nat) :
    s.rngFail src test = (if min 3 (s.failCount + 1) = 3 then (s.rngFailing src test (min 3 (s.failCount + 1))).endRandom.latchRngFailed
      else (s.rngFailing src test (min 3 (s.failCount + 1))).endRandom) := by
  have hclock (F G H I J K : Fld) (a b c d e f o : Nat) :
      (((((((s.put F 0 a).bump o).put G 0 b).put H 0 c).put I 0 d).put J 0 e).put K 0 f).clock = s.clock := by
    simp
  rw [State.rngFail, if_neg (by simp [hlive])]
  dsimp only
  rw [hclock, ← State.rngFailing]

theorem State.rngFailing_shows (src : Fin 2) (test : Fin 4) {n : Nat} (hn : n < 4) (t : State) (ht : t = s.rngFailing src test n) :
    t.get SEC_STATUS.rng_blocked = 1 ∧ t.get RNG_STATUS.ns0_ok = 0 ∧ t.get RNG_STATUS.ns1_ok = 0 ∧ t.get RNG_STATUS.fail_count = n
      ∧ t.get RNG_STATUS.last_fail_src = src.val ∧ t.get RNG_STATUS.last_fail_test = test.val ∧ t.ridge.startup = [0, 1] := by
  subst ht
  have hself (F : Fld) (hF : 0 < F.reg.count ∧ F.lo + F.len ≤ 64) (u : State) {v : Nat} (hv : v < 2 ^ F.len) : (u.put F 0 v).get F = v := by
    rw [State.get_put_self hF.1 hF.2, Nat.mod_eq_of_lt hv]
  refine ⟨?_, ?_, ?_, ?_, ?_, ?_, rfl⟩ <;> rw [State.rngFailing, State.modRidge_get]
  · exact hself _ (by decide) _ (by decide)
  all_goals simp (disch := decide) only [State.get_put_apart, State.bump_get]
  · exact hself _ (by decide) _ (by decide)
  · exact hself _ (by decide) _ (by decide)
  · exact hself _ (by decide) _ hn
  · exact hself _ (by decide) _ src.isLt
  · exact hself _ (by decide) _ test.isLt

/-- The end of the pending GET_RANDOM changes mailbox answers and counters alone. -/
theorem State.endRandom_startup : s.endRandom.ridge.startup = s.ridge.startup :=
  State.each_keeps (fun t => t.ridge.startup = s.ridge.startup) rfl _ fun _ _ h => h

/-- RNG_FAILED latched: it reads 1, a blocked DRBG stays so, and the rest of Ridge's random numbers stay. -/
theorem State.latchRngFailed_latches (hblocked : s.get SEC_STATUS.rng_blocked = 1) :
    s.latchRngFailed.get SEC_STATUS.rng_failed = 1 ∧ s.latchRngFailed.get SEC_STATUS.rng_blocked = 1
      ∧ (∀ F, F.reg = .RNG_STATUS → s.latchRngFailed.get F = s.get F) ∧ s.latchRngFailed.ridge = s.ridge := by
  rw [State.latchRngFailed]
  split
  next hon => exact ⟨State.get_one rfl hon, hblocked, fun _ _ => rfl, rfl⟩
  next =>
    dsimp only
    have hput : State.Within (besideMask [.RNG_STATUS] [.ridge]) s (((s.put SEC_STATUS.rng_failed 0 1).put SEC_STATUS.rng_blocked 0 1).modBrace
        fun b => { b with levels := State.degrade.insertLevel (11, 6) b.levels }) :=
      State.modBrace_within (State.put_within (State.put_within (.refl _ s) _ _ _ (by decide)) _ _ _ (by decide)) _ (by decide)
    have hfailed : (((s.put SEC_STATUS.rng_failed 0 1).put SEC_STATUS.rng_blocked 0 1).modBrace
        fun b => { b with levels := State.degrade.insertLevel (11, 6) b.levels }).get SEC_STATUS.rng_failed = 1 := by
      simp (disch := decide) only [State.get_put_apart, State.modBrace_get]
      exact (State.get_put_self (by decide) (by decide)).trans rfl
    have hblocks : (((s.put SEC_STATUS.rng_failed 0 1).put SEC_STATUS.rng_blocked 0 1).modBrace
        fun b => { b with levels := State.degrade.insertLevel (11, 6) b.levels }).get SEC_STATUS.rng_blocked = 1 := by
      rw [State.modBrace_get]
      exact (State.get_put_self (by decide) (by decide)).trans rfl
    generalize State.modBrace _ _ = u at hput hfailed hblocks
    have hreport := u.report_only 11 6 0 0 0 []
    exact ⟨(hreport.get (by decide) _).trans hfailed, (hreport.get (by decide) _).trans hblocks,
      fun F hF => (hreport.get (by rw [hF]; decide) _).trans (hput.get _ _ (by rw [hF]; decide)),
      (hreport.areas .ridge (by decide)).trans (hput.areas .ridge (by decide))⟩

/-- A source passes its startup test: the registers and Ridge's own data after it. -/
theorem State.rngPass_passes {src : Fin 2} (hlive : s.ridgeLive = true) (hmem : src.val ∈ s.ridge.startup) (t : State) (ht : t = s.rngPass src) :
    t.get (if src.val = 0 then RNG_STATUS.ns0_ok else RNG_STATUS.ns1_ok) = 1
      ∧ t.get SEC_STATUS.rng_blocked = (if s.on SEC_STATUS.rng_failed then s.get SEC_STATUS.rng_blocked else 0)
      ∧ t.ridge.startup = s.ridge.startup.filter (fun x => x != src.val) ∧ State.Only [.RNG_STATUS, .SEC_STATUS] [.ridge] s t := by
  have hclosed : ¬ (!s.ridgeLive || !s.ridge.startup.contains src.val) = true := by simp [hlive, hmem]
  rw [State.rngPass, if_neg hclosed] at ht
  have hok : (if src.val = 0 then s.put RNG_STATUS.ns0_ok 0 1 else s.put RNG_STATUS.ns1_ok 0 1)
      = s.put (if src.val = 0 then RNG_STATUS.ns0_ok else RNG_STATUS.ns1_ok) 0 1 := by split <;> rfl
  have hreg : (if src.val = 0 then RNG_STATUS.ns0_ok else RNG_STATUS.ns1_ok).reg = .RNG_STATUS
      ∧ (if src.val = 0 then RNG_STATUS.ns0_ok else RNG_STATUS.ns1_ok).len = 1
      ∧ (if src.val = 0 then RNG_STATUS.ns0_ok else RNG_STATUS.ns1_ok).lo + 1 ≤ 64 := by split <;> decide
  dsimp only at ht
  rw [hok] at ht
  generalize (if src.val = 0 then RNG_STATUS.ns0_ok else RNG_STATUS.ns1_ok) = F at ht hreg
  obtain ⟨hreg, hlen, hfit⟩ := hreg
  generalize hu : (s.put F 0 1).modRidge _ = u at ht
  have hputF : State.Within (listMask [.RNG_STATUS, .SEC_STATUS] [.ridge]) s u :=
    hu ▸ State.modRidge_within (State.put_within (.refl _ s) _ _ _ (by rw [hreg]; decide)) _ (by decide)
  have hsec (G : Fld) (hG : G.reg = .SEC_STATUS) : u.get G = s.get G := by
    rw [← hu, State.modRidge_get, State.get_put_kind (by rw [hG, hreg]; decide)]
  have hokU : u.get F = 1 := by
    rw [← hu, State.modRidge_get, State.get_put_self (by rw [hreg]; decide) (by omega), hlen]
    rfl
  have hstart : u.ridge.startup = s.ridge.startup.filter (fun x => x != src.val) := by
    rw [← hu, State.modRidge_ridge, State.put_ridge]
  have hfailed : u.on SEC_STATUS.rng_failed = s.on SEC_STATUS.rng_failed := by
    rw [State.on, hsec _ rfl, ← State.on]
  rw [hfailed] at ht
  subst ht
  split
  · exact ⟨hokU, hsec _ rfl, hstart, hputF.only⟩
  · refine ⟨?_, (State.get_put_self (by decide) (by decide)).trans rfl, by rw [State.put_ridge, hstart],
      (State.put_within hputF _ _ _ (by decide)).only⟩
    rw [State.get_put_kind (by rw [hreg]; decide), hokU]

/-! ### Measurements (R417, R418) -/

/-- Firmware's extension of one of its slots. -/
theorem State.extendMeas_slot {slot : Nat} (hrun : s.ridge.running = true) (hslot : 8 ≤ slot) (x : BitVec 384) :
    s.extendMeas slot x = s.modRidge fun r =>
      { r with meas := Tbl.set 0 r.meas slot (Config.sha384 (digestBytes (s.measSlot slot) ++ digestBytes x)) } := by
  rw [State.extendMeas, if_neg (by simp [hrun, hslot])]
  rfl

/-- State with measurement slots loaded. -/
def State.loadMeas (s : State) (ms : List (Nat × BitVec 384)) : State :=
  s.each ms (fun s m => s.modRidge (fun r => { r with meas := Tbl.set 0 r.meas m.1 m.2 }))

theorem State.loadMeas_within (ms : List (Nat × BitVec 384)) : State.Within (listMask [] [.ridge]) s (s.loadMeas ms) :=
  State.Within.each (.refl _ s) ms fun _ _ h => State.modRidge_within h _ (by decide)

theorem State.loadMeas_other {ms : List (Nat × BitVec 384)} {k : Nat} (h : ∀ m ∈ ms, k ≠ m.1) : (s.loadMeas ms).measSlot k = s.measSlot k :=
  State.each_keepsMem (P := fun t => t.measSlot k = s.measSlot k)
      rfl fun t ht m hm => (Tbl.get_set_ne (0 : BitVec 384) 0 t.ridge.meas m.2 (h m hm)).trans ht

/-- Loading slots leaves the rest of Ridge's own data. -/
theorem State.loadMeas_ridge (ms : List (Nat × BitVec 384)) : ∃ meas, (s.loadMeas ms).ridge = { s.ridge with meas := meas } :=
  State.each_keeps (fun t => ∃ meas, t.ridge = { s.ridge with meas := meas }) ⟨_, rfl⟩ ms fun t m ⟨meas, h⟩ =>
    ⟨Tbl.set 0 t.ridge.meas m.1 m.2, by rw [State.modRidge_ridge, h]⟩

/-- The six slots of the boot ROM, in their order. -/
def bootMeas (rom a b c d e : BitVec 384) : List (Nat × BitVec 384) := [(0, rom), (1, a), (2, b), (3, c), (4, d), (5, e)]

theorem State.loadMeas_boot (rom a b c d e : BitVec 384) :
    (s.loadMeas (bootMeas rom a b c d e)).measSlot 0 = rom ∧ (s.loadMeas (bootMeas rom a b c d e)).measSlot 1 = a
      ∧ (s.loadMeas (bootMeas rom a b c d e)).measSlot 2 = b ∧ (s.loadMeas (bootMeas rom a b c d e)).measSlot 3 = c
      ∧ (s.loadMeas (bootMeas rom a b c d e)).measSlot 4 = d ∧ ∀ j, 6 ≤ j → (s.loadMeas (bootMeas rom a b c d e)).measSlot j = s.measSlot j := by
  have hmeas : (s.loadMeas (bootMeas rom a b c d e)).ridge.meas
      = Tbl.set 0 (Tbl.set 0 (Tbl.set 0 (Tbl.set 0 (Tbl.set 0 (Tbl.set 0 s.ridge.meas 0 rom) 1 a) 2 b) 3 c) 4 d) 5 e := rfl
  refine ⟨?_, ?_, ?_, ?_, ?_, fun j hj => State.loadMeas_other ?_⟩
  case refine_6 =>
    simp only [bootMeas, List.forall_mem_cons, List.not_mem_nil, false_implies, implies_true, and_true]
    omega
  all_goals
    rw [State.measSlot, hmeas]
    simp (disch := decide) only [Tbl.get_set_ne, Tbl.get_set_self]

/-- The boot ROM of a part that has an image to run. -/
theorem State.bootMeasure_runs {k : Nat} {hd : List Byte} (hlive : s.ridgeLive = true) (hrun : s.ridge.running = false)
    (hlocked : s.on SEC_STATUS.meas_locked = false) (hslot : s.runSlot = some (k, hd)) : ∃ last,
    s.bootMeasure = (((s.loadMeas (bootMeas Config.romDigest (Config.sha384 hd) (Config.sha384 (s.imageStage k hd 0))
      (Config.sha384 (s.imageStage k hd 1)) (Config.sha384 (s.imageStage k hd 2)) last)).put SEC_STATUS.meas_locked 0 1).put
          SEC_STATUS.fw_slot 0 k).modRidge
        (fun r => { r with running := true, version := leAt hd 8 8 }) := by
  rw [State.bootMeasure, if_neg (by simp [hlive, hrun, hlocked]), hslot]
  exact ⟨_, rfl⟩

end

/-- Settles O23: each command once its guards are open, register by register. -/
theorem randomNumbersAndMeasurements : Obligations.RandomNumbersAndMeasurements := by
  intro s src test slot x
  refine ⟨fun hlive htest => ⟨s.rngFail src test, ?_, ?failed⟩, fun hlive hmem => ⟨_, rfl, ?passed⟩, fun hready => ⟨_, rfl, ?reseeds⟩,
    fun hrun hslot => ⟨_, rfl, ?extended⟩, fun k hd hlive hrun hlocked hslot hk => ⟨_, rfl, ?measured⟩⟩
  · exact congrArg Host.Outcome.next (if_pos (bne_iff_ne.mpr htest))
  case failed =>
    obtain ⟨hblocked, hns0, hns1, hcount, hsrc, htst, hstart⟩ := State.rngFailing_shows (s := s) src test (n := min 3 (s.failCount + 1))
        (by omega) _ rfl
    rw [State.rngFail_eq hlive]
    generalize s.rngFailing src test (min 3 (s.failCount + 1)) = u at *
    have hend : State.Within (besideMask [.RNG_STATUS, .SEC_STATUS] []) u u.endRandom := State.endRandom_within (.refl _ u) (by decide)
    have hstartE := u.endRandom_startup.trans hstart
    generalize u.endRandom = v at *
    have hkeep (F : Fld) (hF : F.reg = .RNG_STATUS ∨ F.reg = .SEC_STATUS) : v.get F = u.get F :=
      hend.get F 0 (by rcases hF with hF | hF <;> rw [hF] <;> decide)
    split
    next =>
      obtain ⟨hfailed, hblockedL, hrng, hridge⟩ := State.latchRngFailed_latches ((hkeep SEC_STATUS.rng_blocked (.inr rfl)).trans hblocked)
      refine ⟨hblockedL, ?_, ?_, by rw [hridge, hstartE], ?_, ?_, ?_, fun _ => hfailed⟩ <;> rw [hrng _ rfl, hkeep _ (.inl rfl)] <;> assumption
    next hlow =>
      refine ⟨?_, ?_, ?_, hstartE, ?_, ?_, ?_, fun hthird => absurd (by omega) hlow⟩
      · rw [hkeep _ (.inr rfl), hblocked]
      all_goals rw [hkeep _ (.inl rfl)]; assumption
  case passed =>
    obtain ⟨hok, hblocked, hstart, honly⟩ := State.rngPass_passes hlive hmem _ rfl
    exact ⟨hok, hblocked, fun y => by rw [hstart, List.mem_filter, bne_iff_ne], honly⟩
  case reseeds =>
    rw [State.reseed, if_pos hready]
    exact ⟨rfl, s.bump_ctr_self _, (State.modRidge_within (State.bump_within (.refl _ s) _ (by decide)) _ (by decide)).only⟩
  case extended =>
    rw [State.extendMeas_slot hrun hslot]
    exact ⟨Tbl.get_set_self .., fun k hk => Tbl.get_set_ne _ _ _ _ hk, s.modRidge_only _⟩
  case measured =>
    obtain ⟨last, hboot⟩ := State.bootMeasure_runs hlive hrun hlocked hslot
    rw [hboot]
    generalize hms : bootMeas Config.romDigest _ _ _ _ last = ms
    obtain ⟨h0, h1, h2, h3, h4, hrest⟩ := hms ▸ State.loadMeas_boot (s := s) Config.romDigest (Config.sha384 hd) (Config.sha384 (s.imageStage k hd 0))
      (Config.sha384 (s.imageStage k hd 1)) (Config.sha384 (s.imageStage k hd 2)) last
    have hload := State.loadMeas_within (s := s) ms
    generalize s.loadMeas ms = u at *
    have hridge (j : Nat) : (((u.put SEC_STATUS.meas_locked 0 1).put SEC_STATUS.fw_slot 0 k).modRidge
        fun r => { r with running := true, version := leAt hd 8 8 }).measSlot j = u.measSlot j := by
      rw [State.measSlot, State.modRidge_ridge, State.put_ridge, State.put_ridge]
      rfl
    refine ⟨?_, ?_, ?_, ?_, ?_, fun j hj => ?_, ?_, ?_, rfl, rfl, ?_⟩
    · rw [hridge, h0]
    · rw [hridge, h1]
    · rw [hridge, h2]
    · rw [hridge, h3]
    · rw [hridge, h4]
    · rw [hridge, hrest j hj]
    · rw [State.modRidge_get, State.get_put_beside (F := SEC_STATUS.fw_slot) (G := SEC_STATUS.meas_locked) rfl (by decide)]
      exact (State.get_put_self (by decide) (by decide)).trans rfl
    · rw [State.modRidge_get, State.get_put_self (by decide) (by decide)]
      exact Nat.mod_eq_of_lt hk
    · exact (State.modRidge_within (State.put_within (State.put_within (hload.mono (by decide)) _ _ _ (by decide)) _ _ _ (by decide))
        _ (by decide)).only

end Sys2Proof.Machine
end

/-! Fault events: what a fault line contains and reports, the record of a report, and the end of operation by a fault (R391 to R406). -/

section
namespace Sys2Proof.Machine

section
variable {s t : State}

/-! ### Fault lines (R393) -/

/-- Codes whose event is recorded and reported alone. -/
def plainCodes : List (Nat × Nat) :=
  [(0, 4), (0, 5), (1, 0), (1, 2), (3, 0), (6, 0), (7, 2), (7, 3), (10, 1), (12, 0), (12, 2), (12, 3), (12, 4), (13, 1), (13, 2)]

/-- Codes whose event takes what it names out of use, or counts it, before the report. -/
def containedCodes : List (Nat × Nat) := [(1, 1), (2, 1), (3, 2), (5, 0), (9, 0), (9, 1), (9, 2)]

/-- What is taken out of use before such a report. -/
def State.contained (s : State) (n c inst l : Nat) : State :=
  match n, c with
  | 1, 1 => s.holdFunction inst
  | 2, 1 => s.poison (l % 65536)
  | 3, 2 => s.losePrefetch l
  | 5, 0 => s.damage .SCHED_FUNC inst
  | 9, 0 => s.bump (modCtr 1)
  | 9, 1 => s.modPeg l (fun d => { d with bad := true })
  | 9, 2 => s.damage .PEG_VMAP l
  | _, _ => s

/-- The entry that the event names exists. -/
def eventNames (n c inst l : Nat) : Prop :=
  (n = 1 ∧ c = 1 ∨ n = 5 → inst < 1024) ∧ (n = 9 ∧ c = 1 → l < 24576) ∧ (n = 9 ∧ c = 2 → l < 65536)

theorem reportedCodes_reported : ∀ x ∈ plainCodes ++ containedCodes, safeCode x.1 x.2 = false ∧ ¬ (x.1 = 13 ∧ x.2 = 0) ∧ x.1 ≠ 11 := by
  decide

theorem State.isUp_phase (hup : s.isUp = true) : s.phase = .up := of_decide_eq_true hup

theorem State.isUp_portsPowered (hup : s.isUp = true) : s.portsPowered = true := decide_eq_true (.inr (State.isUp_phase hup))

/-- A fault line of such a code contains the event and reports it. -/
theorem State.faultLine_reports {n c inst : Nat} {loc : Word} (hup : s.isUp = true) (h : (n, c) ∈ plainCodes ++ containedCodes)
    (hnames : eventNames n c inst loc.toNat) (chk : Word) :
    s.faultLine n c inst loc chk = (s.contained n c inst loc.toNat).report n c inst loc chk := by
  have hphase := State.isUp_phase hup
  have hpow := State.isUp_portsPowered hup
  obtain ⟨hinst, hpeg, hvmap⟩ := hnames
  obtain ⟨hsafe, hrail, hridge⟩ : safeCode n c = false ∧ ¬ (n = 13 ∧ c = 0) ∧ n ≠ 11 := reportedCodes_reported _ h
  unfold State.faultLine
  dsimp only
  rw [if_neg (by rw [hsafe]; decide), if_neg hrail, if_neg (fun h => hridge h.1), if_neg (by simp [hphase]), if_neg (by simp [hpow])]
  rcases List.mem_append.mp h with h | h
  case inl =>
    simp only [plainCodes, List.mem_cons, Prod.mk.injEq, List.not_mem_nil, or_false] at h
    rcases h with ⟨rfl, rfl⟩ | ⟨rfl, rfl⟩ | ⟨rfl, rfl⟩ | ⟨rfl, rfl⟩ | ⟨rfl, rfl⟩ |
      ⟨rfl, rfl⟩ | ⟨rfl, rfl⟩ | ⟨rfl, rfl⟩ | ⟨rfl, rfl⟩ | ⟨rfl, rfl⟩ |
      ⟨rfl, rfl⟩ | ⟨rfl, rfl⟩ | ⟨rfl, rfl⟩ | ⟨rfl, rfl⟩ | ⟨rfl, rfl⟩ <;> rfl
  case inr =>
    simp only [containedCodes, List.mem_cons, Prod.mk.injEq, List.not_mem_nil, or_false] at h
    rcases h with ⟨rfl, rfl⟩ | ⟨rfl, rfl⟩ | ⟨rfl, rfl⟩ | ⟨rfl, rfl⟩ | ⟨rfl, rfl⟩ | ⟨rfl, rfl⟩ | ⟨rfl, rfl⟩
    · exact if_pos (hinst (.inl ⟨rfl, rfl⟩))
    · rfl
    · rfl
    · exact if_pos (hinst (.inr rfl))
    · rfl
    · exact if_pos (hpeg ⟨rfl, rfl⟩)
    · exact if_pos (hvmap ⟨rfl, rfl⟩)

theorem State.faultLine_safe {n c : Nat} (h : safeCode n c = true) (inst : Nat) (loc chk : Word) :
    s.faultLine n c inst loc chk = s.enterSafe n c := by
  unfold State.faultLine
  dsimp only
  rw [if_pos h]

/-- RESTART_FAIL is recorded alone. -/
theorem State.faultLine_restartFail (hup : s.isUp = true) (inst : Nat) (loc chk : Word) :
    s.faultLine 11 4 inst loc chk = s.report 11 4 inst loc chk := by
  unfold State.faultLine
  dsimp only
  rw [if_neg (by decide), if_neg (by decide), if_pos ⟨rfl, State.isUp_portsPowered hup⟩]
  rfl

theorem State.damage_hurt (s : State) (k : RegKind) (i : Nat) : (s.damage k i).hurt k i = true := by
  unfold State.damage
  split
  next h => exact h
  next => simp [State.hurt]

theorem State.contained_plain {n c : Nat} (h : (n, c) ∈ plainCodes) (inst l : Nat) : s.contained n c inst l = s := by
  simp only [plainCodes, List.mem_cons, Prod.mk.injEq, List.not_mem_nil, or_false] at h
  rcases h with ⟨rfl, rfl⟩ | ⟨rfl, rfl⟩ | ⟨rfl, rfl⟩ | ⟨rfl, rfl⟩ | ⟨rfl, rfl⟩ |
    ⟨rfl, rfl⟩ | ⟨rfl, rfl⟩ | ⟨rfl, rfl⟩ | ⟨rfl, rfl⟩ | ⟨rfl, rfl⟩ |
    ⟨rfl, rfl⟩ | ⟨rfl, rfl⟩ | ⟨rfl, rfl⟩ | ⟨rfl, rfl⟩ | ⟨rfl, rfl⟩ <;> rfl

/-- Taking a table entry out of use leaves the phase, and counts no event of Brace. -/
theorem State.contained_kept {n c m d : Nat} (hfn : n = 1 → c ≠ 1) (hpref : n = 3 → c ≠ 2) (hm : m < 14) (hd : d < 64) (inst l : Nat) :
    (s.contained n c inst l).phase = s.phase ∧ (s.contained n c inst l).ctr (braceCtr m d) = s.ctr (braceCtr m d) := by
  have hkept {u : State} (h : State.Within (besideMask [] [.phase, .ctrs]) s u) : u.phase = s.phase ∧ u.ctr (braceCtr m d) = s.ctr (braceCtr m d) :=
    ⟨h.areas .phase (by decide), congrArg (Tbl.get 0 · (braceCtr m d)) (h.areas .ctrs (by decide))⟩
  unfold State.contained
  split
  · exact absurd rfl (hfn rfl)
  · exact hkept (State.poison_within (.refl _ s) _ (by decide))
  · exact absurd rfl (hpref rfl)
  · exact hkept (State.damage_within (.refl _ s) _ _ (by decide))
  · refine ⟨rfl, s.bump_ctr_other ?_⟩
    rw [braceCtr, modCtr]
    omega
  · exact hkept (State.modPeg_within (.refl _ s) _ _ (by decide))
  · exact hkept (State.damage_within (.refl _ s) _ _ (by decide))
  · exact hkept (.refl _ s)

/-! ### The report (R391 to R395, R398) -/

/-- A fault of a function has no domain with a recovery sequence (R399). -/
theorem functionFault_domain {n c : Nat} (h : (n, c) ∈ [(1, 1), (2, 1), (3, 2), (5, 0), (9, 1), (9, 2)]) (inst : Nat) :
    domainIndex (domainKind n c inst) inst = none := by
  have hkind : domainKind n c inst = if inst < 4 then 1 else 0 := by
    simp only [List.mem_cons, Prod.mk.injEq, List.not_mem_nil, or_false] at h
    rcases h with ⟨rfl, rfl⟩ | ⟨rfl, rfl⟩ | ⟨rfl, rfl⟩ | ⟨rfl, rfl⟩ | ⟨rfl, rfl⟩ | ⟨rfl, rfl⟩ <;> rfl
  rw [hkind]
  split <;> rfl

/-- A report counts the event of its code (R391). -/
theorem State.reportIn_counts {n c : Nat} (hcls : (codeClass n c).isSome = true) (s : State) (kind inst : Nat) (halted : List Nat)
    (locator check : Word) : (s.reportIn n c kind inst halted locator check).ctr (braceCtr n c) = s.ctr (braceCtr n c) + 1 := by
  obtain ⟨cls, hcls⟩ := Option.isSome_iff_exists.mp hcls
  have hkeep {u v : State} (huv : State.Within (besideMask [] [.ctrs]) u v) : v.ctr (braceCtr n c) = u.ctr (braceCtr n c) :=
    congrArg (Tbl.get 0 · (braceCtr n c)) (huv.areas .ctrs (by decide))
  have hwoken : ((s.wakeRegion 34).bump (braceCtr n c)).ctr (braceCtr n c) = s.ctr (braceCtr n c) + 1 := by
    rw [State.bump_ctr_self, hkeep (State.wakeRegion_within (.refl _ s) 34 (by decide))]
  have hclass (u : State) (inst : Nat) : State.Within (besideMask [] [.ctrs]) u (u.classify n c inst).2 :=
    State.classify_within (.refl _ u) n c inst (by decide)
  have hlight (u : State) (cls kind inst : Nat) : State.Within (besideMask [] [.ctrs]) u (u.lightHist n c cls kind inst locator check) :=
    State.lightHist_within (.refl _ u) n c cls kind inst locator check (by decide)
  have hheavy (u : State) (severe : Bool) : State.Within (besideMask [] [.ctrs]) u (u.heavy n c kind inst halted locator check severe) :=
    State.heavy_within (.refl _ u) n c kind inst halted locator check severe (by decide)
  rw [State.reportIn, hcls]
  cases cls with
  | notice =>
    dsimp only
    split
    · rw [hkeep (hlight ..), hwoken]
    · exact hwoken
  | severe => exact (hkeep (hheavy ..)).trans hwoken
  | corrected =>
    dsimp only
    split
    · rw [hkeep (hheavy ..), hkeep (hclass ..), hwoken]
    · rw [hkeep (hlight ..), hkeep (hclass ..), hwoken]
  | fault => exact (hkeep (hheavy ..)).trans ((hkeep (hclass ..)).trans hwoken)

/-- A notice that the history does not record, with Brace's region awake, is counted alone (R391, R398). -/
theorem State.report_notice {n c : Nat} (hcls : codeClass n c = some .notice) (hone : (n == 10 && c == 1) = false)
    (hnotices : s.get BRACE_CTRL.hist_notices = 0) (hsteady : s.steady 34 = true) (inst : Nat) (loc chk : Word) :
    s.report n c inst loc chk = s.bump (braceCtr n c) := by
  have hoff : ¬ ((s.bump (braceCtr n c)).on BRACE_CTRL.hist_notices || (n == 10 && c == 1)) = true := by
    rw [State.on, State.bump_get, hnotices, hone]
    decide
  rw [State.report, State.reportIn, hcls]
  dsimp only
  rw [State.steady_wake hsteady, if_neg hoff]

/-! ### The history entry (R398) -/

/-- The entry's code, and the number of what it happened to. -/
theorem histWord1_fields (cls kind seq : Nat) (queued : Bool) {inst : Nat} (hinst : inst < 1024) :
    getBits (histWord1 5 0 cls kind inst seq queued) 0 10 = 5 ∧ getBits (histWord1 5 0 cls kind inst seq queued) 16 10 = inst := by
  simp only [histWord1]
  constructor
  · rw [getBits_setBits_other (by decide), getBits_setBits_other (by decide), getBits_setBits_other (by decide), getBits_setBits_other (by decide),
      getBits_setBits_other (by decide)]
    decide
  · rw [getBits_setBits_other (by decide), getBits_setBits_self (by decide)]
    exact Nat.mod_eq_of_lt hinst

/-- Entry `k` of the history records an event, and the pointer has moved on. -/
structure State.Recorded (s : State) (word1 locator check : Word) (t : State) : Prop where
  time : t.word .BRACE_HIST (4 * s.get BRACE_HIST_PTR.next) = BitVec.ofNat 64 s.devtime
  word1 : t.word .BRACE_HIST (4 * s.get BRACE_HIST_PTR.next + 1) = word1
  locator : t.word .BRACE_HIST (4 * s.get BRACE_HIST_PTR.next + 2) = locator
  check : t.word .BRACE_HIST (4 * s.get BRACE_HIST_PTR.next + 3) = check
  next : t.get BRACE_HIST_PTR.next = (s.get BRACE_HIST_PTR.next + 1) % 64
  nextSeq : t.get BRACE_HIST_PTR.next_seq = (s.get BRACE_HIST_PTR.next_seq + 1) % 65536

theorem State.Recorded.congr {w1 loc chk : Word} {u v : State} (h : State.Recorded u w1 loc chk v)
    (hbefore : State.Within (besideMask [.BRACE_HIST_PTR] [.devtime]) s u)
        (hafter : State.Within (besideMask [.BRACE_HIST_PTR, .BRACE_HIST] []) v t) :
    State.Recorded s w1 loc chk t := by
  have hnext : u.get BRACE_HIST_PTR.next = s.get BRACE_HIST_PTR.next := hbefore.get _ _ (by decide)
  have hword (i : Nat) : t.word .BRACE_HIST i = v.word .BRACE_HIST i := hafter.words _ (by decide) i
  obtain ⟨htime, hword1, hloc, hchk, hptr, hseq⟩ := h
  rw [hnext] at htime hword1 hloc hchk hptr
  refine ⟨?_, ?_, ?_, ?_, ?_, ?_⟩
  · rw [hword, htime, (hbefore.areas .devtime (by decide)).1]
  · rw [hword, hword1]
  · rw [hword, hloc]
  · rw [hword, hchk]
  · rw [hafter.get _ _ (by decide), hptr]
  · rw [hafter.get _ _ (by decide), hseq, hbefore.get _ _ (by decide)]

/-- A new entry of the history. -/
theorem State.addHist_records (s : State) (n c cls kind inst : Nat) (queued : Bool) (locator check : Word) :
    State.Recorded s (histWord1 n c cls kind inst (s.get BRACE_HIST_PTR.next_seq) queued) locator check
      (s.addHist n c cls kind inst queued locator check).2 := by
  have hk : s.get BRACE_HIST_PTR.next < 64 := getBits_lt ..
  have hcount : RegKind.BRACE_HIST.count = 256 := rfl
  have hset {u : State} {i : Nat} (w : Word) (hi : i < 256) : (u.setWord .BRACE_HIST i w).word .BRACE_HIST i = w :=
    State.setWord_word_self (hcount ▸ hi) w
  rw [State.addHist]
  constructor <;> dsimp only
  case next =>
    rw [State.get_put_beside (F := BRACE_HIST_PTR.next_seq) (G := BRACE_HIST_PTR.next) rfl (by decide), State.get_put_self (by decide) (by decide)]
    rfl
  case nextSeq =>
    rw [State.get_put_self (by decide) (by decide)]
    rfl
  all_goals
    generalize s.get BRACE_HIST_PTR.next = k at *
    simp only [State.put]
    rw [State.setWord_word_kind (by decide), State.setWord_word_kind (by decide)]
  case time =>
    rw [State.setWord_word_index (by omega), State.setWord_word_index (by omega), State.setWord_word_index (by omega), hset _ (by omega)]
  case word1 =>
    rw [State.setWord_word_index (by omega), State.setWord_word_index (by omega), hset _ (by omega)]
  case locator =>
    rw [State.setWord_word_index (by omega), hset _ (by omega)]
  case check =>
    rw [hset _ (by omega)]

/-- A fault of a domain with no recovery sequence, other than a failure of Ridge, makes an entry of the history. -/
theorem State.report_records {n c inst : Nat} (hcls : codeClass n c = some .fault) (hd : domainIndex (domainKind n c inst) inst = none)
    (hr : ridgeCode n c = false) (s : State) (loc chk : Word) : ∃ cls kind seq, State.Recorded s (histWord1 n c cls kind inst seq false) loc chk
      (s.report n c inst loc chk) := by
  rw [State.report, State.reportIn, hcls]
  dsimp only
  rw [State.heavy_plain hd hr]
  have hbefore : State.Within (besideMask [.BRACE_HIST_PTR] [.devtime]) s
      (((((s.wakeRegion 34).bump (braceCtr n c)).classify n c (sourceKey n c (domainKind n c inst) inst)).2.setDetail n c
        (((s.wakeRegion 34).bump (braceCtr n c)).classify n c (sourceKey n c (domainKind n c inst) inst)).1)) :=
    State.setDetail_within (State.classify_within (State.bump_within (State.wakeRegion_within (.refl _ s) _ (by decide)) _ (by decide)) _ _ _
      (by decide)) _ _ _ (by decide)
  exact ⟨_, _, _, (State.addHist_records ..).congr hbefore (State.reportAer_within (.refl _ _) _ _ _ _ _ _ (by decide))⟩

/-! ### Safe state (R406) -/

/-- The record of a safe state and what stays of the module. -/
theorem State.enterSafe_enters {n c : Nat} (hpow : s.powered = true) (htrip : s.phase ≠ .tripped) (hn : n < 16) (hc : c < 64) (t : State)
    (ht : t = s.enterSafe n c) :
    t.phase = .safe ∧ t.get SAFE_RECORD.valid = 1 ∧ t.get SAFE_RECORD.subsystem = n ∧ t.get SAFE_RECORD.code = c ∧ t.AllOff
      ∧ t.devtime = s.devtime ∧ t.fuses = s.fuses := by
  rw [State.enterSafe, if_neg (by simp [hpow, htrip])] at ht
  dsimp only at ht
  have hoff := s.tearWrite.wiped.turnAllOff_allOff
  have hregions := s.tearWrite.wiped.turnAllOff_only
  have hdev : s.tearWrite.wiped.turnAllOff.devtime = s.devtime :=
      (hregions.areas .devtime (by decide)).1.trans (s.tearWrite_only.areas .devtime (by decide)).1
  have hfuses : s.tearWrite.wiped.turnAllOff.fuses = s.fuses := (hregions.areas .fuses (by decide)).trans (s.tearWrite_only.areas .fuses (by decide))
  generalize s.tearWrite.wiped.turnAllOff = u at *
  generalize hv : (if n = 13 ∧ c = 3 then u.put FUSE_STATUS.shadow_parity 0 1 else u) = v at ht
  have hmark : State.Within (listMask [.FUSE_STATUS, .SAFE_RECORD] []) u v := by
    subst hv
    split
    · exact State.put_within (.refl _ u) _ _ _ (by decide)
    · exact .refl _ u
  generalize hw : (((v.put SAFE_RECORD.subsystem 0 n).put SAFE_RECORD.code 0 c).put SAFE_RECORD.valid 0 1).put SAFE_RECORD.devtime_lo 0
      s.devtime = w at ht
  have honly : State.Only [.FUSE_STATUS, .SAFE_RECORD] [] u w := hw ▸
    (State.put_within (State.put_within (State.put_within (State.put_within hmark _ _ _ (by decide)) _ _ _ (by decide)) _ _ _ (by decide))
      _ _ _ (by decide)).only
  have hrecord : w.get SAFE_RECORD.valid = 1 ∧ w.get SAFE_RECORD.subsystem = n ∧ w.get SAFE_RECORD.code = c := by
    subst hw
    refine ⟨?_, ?_, ?_⟩ <;> simp (disch := decide) only [State.get_put_apart]
    · exact (State.get_put_self (by decide) (by decide)).trans rfl
    · exact (State.get_put_self (by decide) (by decide)).trans (Nat.mod_eq_of_lt hn)
    · exact (State.get_put_self (by decide) (by decide)).trans (Nat.mod_eq_of_lt hc)
  subst ht
  exact ⟨rfl, hrecord.1, hrecord.2.1, hrecord.2.2, (honly.allOff (by decide) hoff).ended .safe w.pins,
      (honly.areas .devtime (by decide)).1.trans hdev,
    (honly.areas .fuses (by decide)).trans hfuses⟩

/-! ### Rails (R87, R399) -/

/-- The registers of the region states. -/
def powerKinds : List RegKind := [.PWR_STATE_BAY0, .PWR_STATE_BAY1, .PWR_STATE_EG, .PWR_STATE_MISC]

theorem State.Within.region {u v : State} (h : State.Within (besideMask powerKinds []) u v) (r : Nat) : v.region r = u.region r := by
  have hkind : (besideMask powerKinds []).testBit (regionPlace r).1.code = false := by
    unfold regionPlace
    split_ifs <;> dsimp only <;> decide
  rw [State.region_eq_place, State.region_eq_place, h.words _ hkind]

/-- A report leaves the state of every region but the core's. -/
theorem State.reportIn_region {n c : Nat} {cls : CodeClass} (hcls : codeClass n c = some cls) {r : Nat} (hr : r < 44) (hcore : r ≠ 34)
    (s : State) (kind inst : Nat) (halted : List Nat) (locator check : Word) :
    (s.reportIn n c kind inst halted locator check).region r = s.region r := by
  have hwoken : State.Within (besideMask powerKinds []) (s.wakeRegion 34) (s.reportIn n c kind inst halted locator check) :=
    (State.reportIn_woken hcls s kind inst halted locator check).mono (by decide)
  exact (hwoken.region r).trans (State.wakeRegion_region_other (by decide) hr hcore s)

/-- A bay that is held off is off. -/
theorem State.holdBay_region {b : Nat} (hb : b < 24) (s : State) : (s.holdBay b 4).region b = 4 := by
  have hset : (s.bayDown b).setBayState b 4 = (s.bayDown b).setRegion b 4 := by rw [State.setRegion, if_pos hb]
  rw [State.holdBay, hset, if_pos (.inl rfl)]
  generalize s.bayDown b = u
  have hafter : State.Within (besideMask powerKinds []) (u.setRegion b 4)
      (((u.setRegion b 4).clearBay b).each (List.range 4) fun s j => s.modPort (4 * b + j) (fun d => { d with resetOut := true })) :=
    State.Within.each (State.clearBay_within (.refl _ _) b (by decide)) _ fun _ _ h => State.modPort_within h _ _ (by decide)
  rw [hafter.region]
  exact u.setRegion_region_self (by omega) (by decide)

/-- A rail of the Sill or of the whole module leads to safe state. -/
theorem State.railFails_safe {rail : Nat} (hpow : s.powered = true) (h : rail ∈ [0, 1, 2, 3, 10, 12]) (r : Nat) :
    s.railFails rail r = s.enterSafe 13 0 := by
  have hnot : rail ≠ 4 ∧ rail ≠ 5 ∧ rail ≠ 6 ∧ rail ≠ 7 ∧ rail ≠ 8 ∧ rail ≠ 9 ∧ rail ≠ 11 := by
    simp only [List.mem_cons, List.not_mem_nil, or_false] at h
    omega
  obtain ⟨h4, h5, h6, h7, h8, h9, h11⟩ := hnot
  rw [State.railFails]
  dsimp only
  rw [if_neg (by simp [hpow]), if_neg (by simp [h4]), if_neg (by simp [h5, h6]), if_neg (by simp [h7, h8, h9]), if_neg (by simp [h11]), if_pos h]

/-- Another rail takes its region off. -/
theorem State.railFails_off {rail r : Nat} (hup : s.isUp = true) (h : rail ∈ [4, 5, 6, 7, 8, 9]) (hfeeds : railFeeds rail r = true) :
    (s.railFails rail r).region r = 4 := by
  have hpow := State.isUp_portsPowered hup
  have hpowered : s.powered = true := decide_eq_true (by rw [State.isUp_phase hup]; decide)
  rw [State.railFails]
  dsimp only
  rw [if_neg (by simp [hpowered])]
  have hport (hr : 35 ≤ r ∧ r < 39) (loc : Word) : (((s.hostDown (r - 35)).setRegion r 4).reportIn 13 0 2 (r - 35) [] loc 0).region r = 4 := by
    rw [State.reportIn_region rfl (by omega) (by omega)]
    exact State.setRegion_region_self _ (by omega) (by decide)
  simp only [List.mem_cons, List.not_mem_nil, or_false] at h
  rcases h with rfl | rfl | rfl | rfl | rfl | rfl
  · have hr : 24 ≤ r ∧ r < 30 := of_decide_eq_true hfeeds
    rw [if_pos ⟨rfl, hup⟩, State.reportIn_region rfl (by omega) (by omega),
      State.Within.region (State.loseGroup_within (.refl _ _) _ (by decide))]
    exact State.setRegion_region_self _ (by omega) (by decide)
  · rw [if_neg (by simp), if_pos ⟨.inl rfl, hpow⟩]
    exact hport (of_decide_eq_true hfeeds) _
  · rw [if_neg (by simp), if_pos ⟨.inr rfl, hpow⟩]
    exact hport (of_decide_eq_true hfeeds) _
  · have hr : r < 12 := of_decide_eq_true hfeeds
    rw [if_neg (by simp), if_neg (by simp), if_pos ⟨.inl rfl, hup⟩]
    exact State.holdBay_region (by omega) _
  · have hr : 12 ≤ r ∧ r < 24 := of_decide_eq_true hfeeds
    rw [if_neg (by simp), if_neg (by simp), if_pos ⟨.inr (.inl rfl), hup⟩]
    exact State.holdBay_region hr.2 _
  · have hr : r < 24 := of_decide_eq_true hfeeds
    rw [if_neg (by simp), if_neg (by simp), if_pos ⟨.inr (.inr rfl), hup⟩]
    exact State.holdBay_region hr _

end

theorem exec_faultEvent {n : Fin 14} {c : Fin 64} (hcode : (codeClass n.val c.val).isSome = true) (s : State) (inst : Nat) (loc chk : Word) :
    exec (.faultEvent n c inst loc chk) s = .next (s.faultLine n.val c.val inst loc chk) := congrArg Host.Outcome.next (if_pos hcode)

/-- A report of an event counts it and leaves the phase. -/
theorem State.report_counts {n c : Nat} (hcls : (codeClass n c).isSome = true) (s : State) (inst : Nat) (loc chk : Word) :
    (s.report n c inst loc chk).ctr (braceCtr n c) = s.ctr (braceCtr n c) + 1 ∧ (s.report n c inst loc chk).phase = s.phase :=
  ⟨State.reportIn_counts hcls .., (s.report_only n c inst loc chk []).areas .phase (by decide)⟩

/-- Settles O26: a fault line is the report of a contained state, or the entry into safe state. -/
theorem faultsReported : Obligations.FaultsReported := by
  refine ⟨fun s n c inst loc chk hup hcode hinst hpeg hvmap => ⟨s.faultLine n c inst loc chk, ?counted⟩,
    fun s n c inst loc chk hpow htrip hcode => ?safe, fun s inst loc chk hup => ⟨fun hinst => ⟨s.faultLine 5 0 inst loc chk, rfl, ?sched⟩,
      fun n c hcode hinst hloc => ⟨s.faultLine n c inst loc chk, ?detail⟩, fun n c hcode hnotices hsteady => ⟨s.faultLine n c inst loc chk, ?notice⟩,
      fun rail r hfeeds => ⟨fun hrail => ⟨s.railFails rail r, ?sill⟩, fun hrail => ⟨s.railFails rail r, ?region⟩⟩⟩⟩
  case counted =>
    have hlist : ∀ x ∈ [(0, 4), (0, 5), (1, 0), (1, 2), (3, 0), (5, 0), (6, 0), (7, 2), (7, 3), (9, 0), (9, 1), (9, 2), (10, 1), (11, 4), (12, 0),
        (12, 2), (12, 3), (12, 4), (13, 1), (13, 2)], (codeClass x.1 x.2).isSome = true ∧
          (x = (11, 4) ∨ x ∈ plainCodes ++ containedCodes ∧ (x.1 = 1 → x.2 ≠ 1) ∧ (x.1 = 3 → x.2 ≠ 2)) := by decide
    obtain ⟨hcls, hrestart | ⟨hreported, hfn, hpref⟩⟩ := hlist _ hcode
    all_goals refine ⟨exec_faultEvent hcls .., ?_⟩
    · obtain ⟨hn, hc⟩ := Prod.mk.inj hrestart
      rw [hn, hc, State.faultLine_restartFail hup]
      obtain ⟨hcount, hphase⟩ := State.report_counts (n := 11) (c := 4) rfl s inst loc chk
      exact ⟨hcount, hphase.trans (State.isUp_phase hup)⟩
    · have hnames : eventNames n c inst loc.toNat := ⟨fun h => hinst (h.resolve_left fun h => hfn h.1 h.2), hpeg, hvmap⟩
      rw [State.faultLine_reports hup hreported hnames]
      obtain ⟨hphase, hctr⟩ := State.contained_kept (s := s) hfn hpref n.isLt c.isLt inst loc.toNat
      obtain ⟨hcount, hstays⟩ := State.report_counts hcls (s.contained n c inst loc.toNat) inst loc chk
      exact ⟨hcount.trans (by rw [hctr]), hstays.trans (hphase.trans (State.isUp_phase hup))⟩
  case safe =>
    have hlist : ∀ x ∈ [(6, 2), (12, 5), (12, 6), (13, 3), (13, 4)], (codeClass x.1 x.2).isSome = true := by decide
    have hsafe : safeCode n.val c.val = true := decide_eq_true hcode
    have henters := State.enterSafe_enters hpow htrip (n := n) (c := c) (n.isLt.trans (by decide)) c.isLt _ rfl
    have hentry : exec (.safeStateEntry n c) s = .next (s.enterSafe n c) := congrArg Host.Outcome.next (if_pos hsafe)
    have hevent : exec (.faultEvent n c inst loc chk) s = .next (s.enterSafe n c) := by
         rw [exec_faultEvent (hlist _ hcode), State.faultLine_safe hsafe]
    exact List.forall_mem_cons.mpr ⟨⟨_, hentry, henters⟩, List.forall_mem_singleton.mpr ⟨_, hevent, henters⟩⟩
  case sched =>
    rw [State.faultLine_reports hup (by decide) ⟨fun _ => hinst, by simp, by simp⟩]
    obtain ⟨-, hctr⟩ := State.contained_kept (s := s) (n := 5) (c := 0) (m := 5) (d := 0) (by decide) (by decide) (by decide) (by decide)
        inst loc.toNat
    have hdamage : State.Within (besideMask [.BRACE_HIST_PTR] [.devtime]) s (s.contained 5 0 inst loc.toNat) :=
      State.damage_within (.refl _ s) .SCHED_FUNC inst (by decide)
    have hhurt : (s.contained 5 0 inst loc.toNat).hurt .SCHED_FUNC inst = true := s.damage_hurt ..
    generalize s.contained 5 0 inst loc.toNat = u at *
    have hdomain := functionFault_domain (n := 5) (c := 0) (by decide) inst
    obtain ⟨cls, kind, seq, hrecord⟩ := State.report_records rfl hdomain rfl u loc chk
    obtain ⟨htime, hword1, hloc, hchk, hnext, hseq⟩ := hrecord.congr hdamage (.refl _ _)
    obtain ⟨hcode, hwho⟩ := histWord1_fields cls kind seq false hinst
    refine ⟨?_, State.report_fault_bit (by decide) (by decide) rfl hdomain rfl .., ?_, htime, hloc,
        hchk, by rw [hword1, hcode], by rw [hword1, hwho], hnext, hseq⟩
    · rw [State.hurt, (u.report_only 5 0 inst loc chk []).areas .damaged (by decide)]
      exact hhurt
    · exact (State.report_counts (n := 5) (c := 0) rfl u inst loc chk).1.trans (by rw [hctr])
  case detail =>
    have hlist : ∀ x ∈ [(1, 1), (2, 1), (3, 2), (9, 1), (9, 2)], codeClass x.1 x.2 = some .fault ∧ x ∈ plainCodes ++ containedCodes
        ∧ ridgeCode x.1 x.2 = false := by decide
    have hkinds : [(1, 1), (2, 1), (3, 2), (9, 1), (9, 2)] ⊆ [(1, 1), (2, 1), (3, 2), (5, 0), (9, 1), (9, 2)] := by decide
    obtain ⟨hcls, hreported, hridge⟩ := hlist _ hcode
    refine ⟨exec_faultEvent (by rw [hcls]; rfl) .., ?_⟩
    rw [State.faultLine_reports hup hreported ⟨fun _ => hinst, fun _ => by omega, fun _ => by omega⟩]
    exact State.report_fault_bit n.isLt c.isLt hcls (functionFault_domain (hkinds hcode) inst) hridge ..
  case notice =>
    have hlist : ∀ x ∈ [(0, 4), (0, 5), (1, 2), (7, 2), (7, 3), (13, 1), (13, 2)], codeClass x.1 x.2 = some .notice ∧ x ∈ plainCodes
        ∧ (x.1 == 10 && x.2 == 1) = false ∧ (x.1 = 1 → x.2 ≠ 1) ∧ x.1 ≠ 5 ∧ x.1 ≠ 9 := by decide
    obtain ⟨hcls, hplain, hrelease, hfn, hsched, hpeg⟩ := hlist _ hcode
    have hnames : eventNames n c inst loc.toNat :=
      ⟨fun h => h.elim (fun h => absurd h.2 (hfn h.1)) (absurd · hsched), fun h => absurd h.1 hpeg, fun h => absurd h.1 hpeg⟩
    refine ⟨exec_faultEvent (by rw [hcls]; rfl) .., ?_⟩
    rw [State.faultLine_reports hup (List.mem_append_left _ hplain) hnames, State.contained_plain hplain,
      State.report_notice hcls hrelease hnotices hsteady]
    exact ⟨s.bump_ctr_self _, (State.bump_within (.refl _ s) _ (by decide)).only⟩
  case sill =>
    have hpow : s.powered = true := decide_eq_true (by rw [State.isUp_phase hup]; decide)
    have hnot : s.phase ≠ .tripped := by rw [State.isUp_phase hup]; decide
    refine ⟨congrArg Host.Outcome.next (if_pos hfeeds), ?_⟩
    rw [State.railFails_safe hpow hrail]
    obtain ⟨hphase, hvalid, hsub, hcode, -⟩ := State.enterSafe_enters hpow hnot (n := 13) (c := 0) (by decide) (by decide) _ rfl
    exact ⟨hphase, hvalid, hsub, hcode⟩
  case region => exact ⟨congrArg Host.Outcome.next (if_pos hfeeds), State.railFails_off hup hrail hfeeds⟩

end Sys2Proof.Machine
end

/-! Recovery of an engine group ends with the group clock-gated, but an access that waits for the group on the register ring then wakes it in
the same command: the statement on recovery fails there. -/

section
namespace Sys2Proof.Machine

/-- The module is up and group 3 is in its recovery sequence. -/
def groupRecovering : State :=
  (({ State.reset with phase := .up, brace := { State.reset.brace with queue := [(127, true)] } } : State).put BRACE_DSTATE.state 127 2).setEgState 3 2

/-- A REG_READ over MCTP of TE_STATUS of the group's engine 24 waits on the ring for the group. -/
def groupAwaited : State := groupRecovering.submit (.mctpRead 27 0x418000)

theorem groupAwaited_waits : groupAwaited.regionAt .ridge 0x418000 = 27 ∧ groupAwaited.ring = [.mctpRead 27 0x418000] ∧
    groupAwaited.egState 3 = 2 := by
  decide +kernel

/-- The sequence leaves the group clock-gated, and the waiting access takes it from there to running (R89, R399). -/
theorem groupAwaited_wakes : (groupAwaited.endRecovery true).egState 3 = 1 ∧ (groupAwaited.endRecovery true).regionsRun.egState 3 = 0 := by
  decide +kernel

/-- Refutes O27: when an access waits for the group, its recovery ends with the group running and not clock-gated. -/
theorem not_faultRecovery : ¬ Obligations.FaultRecovery := by
  intro h
  obtain ⟨-, hends, -⟩ := h groupAwaited .ridge 3 [] (by decide +kernel)
  obtain ⟨hpasses, -⟩ := hends (by decide +kernel) (by decide +kernel)
  obtain ⟨t, hexec, -, -, hgated, -⟩ := hpasses (by decide +kernel)
  have hpow : groupAwaited.portsPowered = true := by decide +kernel
  have hrun : exec (.recoveryEnd true) groupAwaited = .next (groupAwaited.endRecovery true).regionsRun := congrArg Host.Outcome.next (if_pos hpow)
  have ht : t = (groupAwaited.endRecovery true).regionsRun := (Host.Outcome.next.inj (hrun.symm.trans hexec)).symm
  rw [ht] at hgated
  exact absurd (groupAwaited_wakes.2.symm.trans hgated) (by decide)

end Sys2Proof.Machine
end
